-- ==== Sys2Proof/Word.lean ====
section
/-! DEFINITION. The word types of the machine: a register is a 32-bit word (R4), memory is bytes. -/

namespace Sys2Proof

/-- A register word (R4, R69). -/
abbrev Word := BitVec 32

/-- One byte of memory. -/
abbrev Byte := BitVec 8

/-- A 48-bit MAC address. -/
abbrev Mac := BitVec 48

/-- A bit as a `Bool` is kept inside the machine only; a register bit stays in its word. -/
def bit (b : Bool) : Nat := if b then 1 else 0

end Sys2Proof
end

