-- ==== Sys2Proof/Syntax.lean ====
section
/-! DEFINITION. The commands of the block, one constructor per row of the opcode table. A command's operands are what the
outside contributes to it (an access path and a value, a measurement, a frame, a peer's message) and, where the spec
leaves the order of things to arbitration or timing, the choice that was made. -/

namespace Sys2Proof

/-- A guard word that reads with errors: its number in what is read, and its two bad symbols; the same symbol twice says that
one symbol is bad, which is corrected (R388, R398). -/
structure BadWord where
  word : Nat
  sym0 : Nat
  sym1 : Nat
  deriving DecidableEq, Repr

/-- How a guard word of a memory on the die reads (R466). -/
inductive Guard where
  | clean | corrected | bad
  deriving DecidableEq, Repr

/-- A table of a pipeline, of kind 8 or 9 of R467. -/
inductive TableMem where
  | node | rule | anchor | unit | dom | hop | edit | host | frag
  deriving DecidableEq, Repr

/-- A word of a pipeline's tables that a command's reads find with an error: the table, the entry, and how it reads (R467). -/
structure TableWord where
  mem : TableMem
  index : Nat
  guard : Guard
  deriving DecidableEq, Repr

/-- Why a read for a copy fails, or what it meets that is corrected (R347, R467): a block not staged in time, a word of its unit, the link
entry of a unit of its chain, its frame's descriptor, or its copy entry. -/
inductive ReadFail where
  | late
  | word (w : BadWord)
  | link (n : Nat) (g : Guard)
  | desc (g : Guard)
  | copy (g : Guard)
  deriving DecidableEq, Repr

/-- What the groups of a nanoword do, as far as R248 counts it: an ALU on V registers, the bytes of its transfers, of its scratchpad
access and of its E_DATA, an update of two cycles (CTL_SEND, DEL_SEND, a narrow INS_SEND), and a wide INS_SEND. -/
structure NanoUse where
  wideAlu : Bool := false
  move : Nat := 0
  mem : Nat := 0
  data : Nat := 0
  update : Bool := false
  wideIns : Bool := false
  deriving DecidableEq, Repr

/-- How the words that the issue of a microword reads do: the microword with its nanoword, and the state of the thread (R243, R467). -/
structure WordGuard where
  word : Guard
  state : Guard
  deriving DecidableEq, Repr

/-- One of them reads uncorrectably. -/
def WordGuard.bad (g : WordGuard) : Bool := g.word = .bad || g.state = .bad

/-- A burst that a scrub pass finds with errors: its channel byte address, and the guard word (R397). -/
structure ScrubFind where
  addr : Nat
  word : BadWord
  deriving DecidableEq, Repr

/-- A spilled task record that reads with errors at a refill (R468): its place among the records refilled, and the guard word.
-/
structure BadTask where
  pos : Nat
  word : BadWord
  deriving DecidableEq, Repr

/-- What the training of a channel ended with (R393, R394): whether every step passed, the delays of the pins in taps, and the
refresh requirement read then. -/
structure Trained where
  channel : Nat
  ok : Bool
  rd : List Nat
  wr : List Nat
  ca : List Nat
  wck : Nat
  gate : Nat
  vref : List Nat
  rate : Nat
  deriving DecidableEq, Repr

/-- A message about ageing from the peer (R418): a query for a record, by home slot and key (recKey of the record), or the answer
to a query of the module's own, by slot and INCARN. -/
inductive AgeMsg where
  | query (home key : Nat)
  | answer (slot incarn : Nat) (yes : Bool)
  deriving DecidableEq, Repr

/-- A window that a microprogram reads or writes (R236). -/
inductive EngWin where
  | head | meta_ | record | draft | param | res
  deriving DecidableEq, Repr

/-- A place that a transfer or an operand names (R247): G and V registers, and bytes of a window at a fixed offset or at a
layer start plus an offset; `field` is a field of RES, which the OUT group writes. -/
inductive EngPlace where
  | g (i : Nat)
  | v (i : Nat)
  | win (w : EngWin) (layer : Option Nat) (off : Nat)
  | field (lo len : Nat)
  deriving DecidableEq, Repr

/-- A source of an ALU word (R247): a register, a window field of 4 bytes or, for a V destination, 16, the constant of the nanoword,
or the IMM of the microword at the thread's address (R245). -/
inductive EngSrc where
  | place (p : EngPlace)
  | const (k : Nat)
  | imm
  deriving DecidableEq, Repr

/-- A transfer of a MOVE (R247): 1 to 128 bytes. -/
structure Transfer where
  src : EngPlace
  dst : EngPlace
  len : Nat
  deriving DecidableEq, Repr

/-- Whose program a task runs: one of its own, whose words say what it sends, or the flow library (R285 to R304), whose
behaviour the spec gives. -/
inductive Program where
  | own | library
  deriving DecidableEq, Repr

/-- The commands (spec/opcode_table.json). -/
inductive Instr where
  /-- SUPPLY_QUALIFICATION (R22): VIN has risen through 6.2 V and stayed at or above it for 10 ms, so power-on reset
  is released and start-up begins. -/
  | supplyQualification (cool : Bool)
  /-- POWER_ON_RESET (R36): Start-up step 2 ends: the converters have ramped, the island rails have settled and the
  device clock starts at 0 s. -/
  | powerOnReset (straps us : Nat)
  /-- RESET_N (R20): RESET_N is held low for 1 µs or longer: the whole module except the supply monitor resets,
  lanes stop transmitting, and start-up reruns from step 2 at the rising edge. -/
  | resetN (low cool : Bool)
  /-- PERST_N (R446): PCIe fundamental reset: only the host island's window registers, table DMA and PCIe mailbox
  copy are reset, and forwarding continues. -/
  | perstN
  /-- POWER_FAIL_WARNING (R25): VIN has stayed below PFAIL_CFG.LEVEL for 20 µs: the module drives PFAIL_N low, sets
  VIN_WARN and logs SUPPLY_WARN, and power-fail record writing starts (or the cause joins a warning already in
  force). -/
  | powerFailWarning (vin : Nat)
  /-- PFAIL_N_EXTERNAL (R25): An external device drives PFAIL_N low while EXT_EN = 1, which starts a warning with an
  external cause or joins one already in force. -/
  | pfailNExternal (low : Bool) (vin : Nat)
  /-- RECORD_DONE (R25): The power-fail record, with its check word written last, is complete in boot flash and
  RECORD_DONE is set. -/
  | recordDone
  /-- SUPPLY_WARN_END (R22): The end condition holds for every cause present (VIN above LEVEL + 0.3 V for 10 ms, and
  PFAIL_N high for 10 ms where an external cause applies), so the warning ends and VIN_WARN_END is set. -/
  | supplyWarnEnd (vin : Nat)
  /-- BROWN_OUT (R22): VIN stays below 5.3 V for 5 µs: all converters turn off and all state is lost. -/
  | brownOut
  /-- OVERVOLTAGE (R22): VIN has stayed above 62 V for 100 ms, so PWRM.INT_RAW.OV is set. -/
  | overvoltage
  /-- OVERVOLTAGE_SHUTDOWN (R22): 10 µs after OV is set, the converters turn off, lanes drop and memory contents are
  lost. -/
  | overvoltageShutdown
  /-- OV_RECOVERY (R22): VIN has stayed at or below 60 V for 10 ms after an overvoltage shutdown, so supply
  qualification begins. -/
  | ovRecovery
  /-- VIN_SAMPLE (R35): A 10 µs supply-monitor sample updates VIN_NOW and VIN_MIN. -/
  | vinSample (mv : Nat)
  /-- THERM_ALARM (R31): The hottest junction reaches ALARM: THERM_ALARM is raised and, with CAP_EN = 1, every
  island is capped at 1/2 pace. -/
  | thermAlarm (temp : Int) (island : Nat)
  /-- THERM_CAP_RELEASE (R31): The junction falls to ALARM − 5 °C or below, so the thermal cap is released and pins
  take effect again. -/
  | thermCapRelease (temp : Int) (island : Nat)
  /-- THERMAL_SHUTDOWN (R31): The junction has stayed at 125 °C or above for 1 ms, so the converters turn off and
  memory contents are lost. -/
  | thermalShutdown
  /-- ROM_BOOT (R36): Start-up step 3 ends: the housekeeping processor has booted from ROM and the flash identity
  has been read. With BOOT_SRC = 1, start-up waits here for the host. -/
  | romBoot (flash : Bool) (id : Nat)
  /-- IMAGE_LOAD (R43): The Stexo image has been read and its check word verified: the image is either applied, or
  rejected with factory defaults kept. -/
  | imageLoad
  /-- MICROCODE_SIGNATURE (R47): Start-up step 6: the microcode key hash and ECDSA signature are verified, and the
  result is pass, fail or unchecked. -/
  | microcodeSignature
  /-- CONTROL_STORE_LOAD (R250): Start-up step 7: the Icavo section is checked and then either loaded into all eight
  control stores (RUN set to 0xFF) or rejected. -/
  | controlStoreLoad (uses : List (Option NanoUse))
  /-- MARCH_TESTS (R50): Start-up step 8 ends: the destructive march tests of the scratchpads and shared buffer are
  complete, and any failing cells are withheld. -/
  | marchTests (spads : List (List Nat)) (cells : List Nat)
  /-- MEMORY_TRAINING (R52): Start-up step 9 ends: every channel has either reused its stored results or been
  trained in full, and failed channels are retired. -/
  | memoryTraining (pass : List Nat) (full : List Trained)
  /-- MEMORY_CLEAR (R36): Start-up step 10 ends: flow and packet memory are cleared, and the ageing sweeper starts
  at slot 0. -/
  | memoryClear
  /-- RNG_HEALTH_TESTS (R216): Start-up step 11 ends: after the random number generator's health tests, KP, KL, KF
  and the host-table key are drawn (or the flow table is disabled), and host-table preloads are inserted. -/
  | rngHealthTests (pass : Bool)
  /-- PORT_ENABLE (R37): Start-up step 12 ends: lanes are calibrated, READY becomes 1 and ports that are
  administratively up begin link bring-up. -/
  | portEnable
  /-- HOST_LOAD (R41): A write of CFGL.HOST_LOAD.GO starts an image load from host memory when allowed; otherwise it
  is refused with LOAD_REFUSED. -/
  | hostLoad
  /-- TRAIN_DONE (R394): Software ends host-driven training: the window closes and unchecked or failed channels are
  retired. -/
  | trainDone
  /-- SLEEP_REQ (R55): A write of PWRM.SLEEP_REQ.GO requests SPORE, which is refused, held to wait, or accepted so
  that admission stops. -/
  | sleepReq
  /-- SLEEP_N (R55): A falling edge on SLEEP_N requests SPORE when SLEEP_N_EN = 1. -/
  | sleepN
  /-- SPORE_DRAIN_END (R56): SPORE drain ends or DRAIN_TO expires: remaining frames are discarded, task records are
  spilled and cipher locks are released. -/
  | sporeDrainEnd
  /-- SPORE_LANES_OFF (R56): 50 µs after drain end, every up port goes DOWN with cause 7 and the line and tandem
  lanes are powered off. -/
  | sporeLanesOff
  /-- SPORE_PACKET_MEMORY_RELEASE (R56): Packet memory segments are released during SPORE entry. -/
  | sporePacketMemoryRelease
  /-- SPORE_SELF_REFRESH (R56): Flow memory enters self-refresh with the PASR mask applied, and STATE becomes 2. -/
  | sporeSelfRefresh
  /-- WAKE_N (R59): A falling edge on WAKE_N is a wake event when WAKE_N_EN = 1. -/
  | wakeN
  /-- WAKE_REQ (R59): A write of 1 to PWRM.WAKE_REQ is a wake event when PCIE_WAKE_EN = 1. -/
  | wakeReq
  /-- WAKE_TIMER (R59): The device stamp reaches PWRM.WAKE_AT with TIMER_WAKE_EN = 1, which is a wake event. -/
  | wakeTimer
  /-- WAKE_DONE (R60): 2.0 ms after the wake event, STATE becomes 0, every page answers, lanes begin bring-up and
  admission reopens unless WAKE_HOLD holds it. -/
  | wakeDone
  /-- ADMIT (R62): A write of PWRM.ADMIT.GO after a held wake reopens admission and restores FENG.RUN. -/
  | admission
  /-- REGISTER_WRITE (R69): A write to a register that has no row of its own: it is checked for partial enables,
  reserved encodings and closed pages, then stored or staged, and AUTOINC advances where it applies. -/
  | registerWrite (path off be : Nat) (value : Word) (done : Nat) (found : List Nat)
  /-- SEL_WRITE (R73): A write of SEL.CHANNEL for the accessing path is accepted, or refused with cause 2 when it
  lies beyond SEL_MAX. -/
  | selWrite (path page : Nat) (value : Word)
  /-- READ_CLEAR (R7): A read of an RC register returns its value and clears it to its reset value, and an event in
  the same cycle stays recorded. -/
  | readClear (path off : Nat)
  /-- ERR_INFO_READ (R71): A read of ERR_INFO returns the first access error and clears ERR_INFO and STAT.ERROR. -/
  | errInfoRead (path page : Nat)
  /-- W1C_WRITE (R75): A W1C write clears the bits written as 1 and may resend the vector's MSI-X message while its
  OR stays 1. -/
  | w1cWrite (path page : Nat) (value : Word)
  /-- INT_FORCE (R70): A write to INT_FORCE sets the INT_RAW bits written as 1 without logging an event. -/
  | intForce (path page : Nat) (value : Word)
  /-- SOFT_RESET (R70): A write of CTRL.SOFT_RESET resets the block as its chapter states, and the bit reads 1 until
  the reset ends. `done` says how far an operation that it aborts had come, 24 bits for each channel where a page has several, and `found`
  what a march test had met, each target's indices from target × 2^20 on. -/
  | softReset (page done : Nat) (found : List Nat)
  /-- COMMIT_GO (R79): A write of COMMIT.GO is accepted at T_a and schedules the commit instant T_c, or is refused
  while BUSY. -/
  | commitGo (path page : Nat)
  /-- COMMIT_DISCARD (R77): A write of COMMIT.DISCARD copies active values back into the shadows of the page, or of
  every page. -/
  | commitDiscard (path page : Nat)
  /-- COMMIT_INSTANT (R82): An island's replica reaches T_c: staged values take effect, the epoch advances and a
  COMMIT event is logged. -/
  | commitInstant
  /-- COMMIT_DONE (R83): The last packet of the previous epoch has left the packet-scoped pages, so BUSY clears and
  COMMIT_DONE is set. -/
  | commitDone
  /-- PAUSE_GO (R84): A write of TOP.PAUSE_CTRL.GO stops the named pipelines taking new heads and empties their
  fragment wait lists, or is refused. -/
  | pauseGo (mask : Nat)
  /-- PAUSE_REACHED (R84): The last in-flight packet of the paused pipelines reaches the traffic manager: PAUSED is
  shown and PAUSE_REACHED is set. -/
  | pauseReached
  /-- PAUSE_RESUME (R84): A write of PAUSE_CTRL.RESUME advances the epoch, logs PAUSE and resumes the pipelines, or
  is refused when no pause is in force. -/
  | pauseResume
  /-- PAUSE_EXPIRED (R86): PAUSE_LIMIT elapses without a resume, so the module resumes by itself and sets
  PAUSE_EXPIRED. -/
  | pauseExpired
  /-- GOVERNOR_WINDOW (R96): At the end of a governor window, the island's target pace is recomputed from the mean
  occupancy, and the effective level follows R98. -/
  | governorWindow (island occ : Nat)
  /-- PACE_CHANGE_DONE (R99): A pace change ends after its rail slew and clock hold, and any held TARGET change
  starts. -/
  | paceChangeDone (island : Nat)
  /-- PIN (R105): ISLE.PIN_ALL.PIN pins every island at LEVEL. -/
  | pin (level : Nat)
  /-- UNPIN (R105): ISLE.PIN_ALL.UNPIN clears PIN_EN in every island. -/
  | unpin
  /-- NOW_NS_READ (R109): A read of TIME.NOW_NS returns the nanoseconds and latches the seconds and fraction for the
  path. -/
  | nowNsRead (path : Nat)
  /-- STEP_ADD (R111): A TIME.STEP_CTRL.ADD write requests an ADD step to be carried by the next beacon, or is
  refused when it would go below 0 s. -/
  | stepAdd (path : Nat)
  /-- STEP_SET (R111): A TIME.STEP_CTRL.SET write requests a SET step to be carried by the next beacon. -/
  | stepSet (path : Nat)
  /-- TETHER_BEACON (R114): A 256 ns beacon carries master time: each replica corrects toward it, and any pending
  step is applied. -/
  | tetherBeacon (devs : List (Nat × Int))
  /-- REF10M_LOST (R108): REF10M is lost: REF10M_OK clears, REF10M_LOST is set, and the synthesiser enters holdover
  if it was using REF10M. -/
  | ref10mLost
  /-- REF10M_RETURN (R108): REF10M has been good for 1 s, so the synthesiser returns to it. -/
  | ref10mReturn
  /-- PPS_IN_EDGE (R120): A PPS_IN rising edge is stamped, and it either gives a servo sample or is ignored as extra. -/
  | ppsInEdge
  /-- OFFSET_IN (R120): A write of TIME.OFFSET_IN supplies one software offset sample to the servo. -/
  | offsetIn (w : Word)
  /-- SERVO_ENABLE (R119): SERVO_EN becomes 1 and the servo enters ACQUIRING, or SERVO_EN is cleared and the servo
  returns to FREE. -/
  | servoEnable (enable : Bool)
  /-- SERVO_HOLDOVER (R122): No valid sample arrives for IN_TIMEOUT, so the servo enters HOLDOVER and freezes I. -/
  | servoHoldover
  /-- PPS_OUT (R29): At each device-time second boundary, less PPS_OUT_DLY, a PPS_OUT pulse of WIDTH is emitted. -/
  | ppsOut
  /-- TXTS_TAG_READ (R129): A read of PTPS.TXTS_TAG with VALID moves the head stamp into TXTS_STAMP and removes the
  entry. -/
  | txtsTagRead (path port : Nat)
  /-- PORT_CFG_WRITE (R132): A write of PORT.PORT_CFG forms or removes a port or changes ADMIN_UP, subject to the
  lane and admin checks. -/
  | portCfgWrite (path port : Nat) (w : Word)
  /-- AN_RESTART (R150): A write of PORT.AN_RESTART clears the back-off and restarts negotiation. -/
  | anRestart (port : Nat)
  /-- FRAME_START (R336): The first byte of a frame arrives at a port: it is judged for pause-ignored and tandem
  discard, and it begins taking units by the steps of R336. -/
  | frameStart (port : Nat) (bs : List Byte) (pick : List Nat)
  /-- FRAME_ADMIT (R331): The last byte of a frame is in: the MAC checks it, and it is either admitted and its head
  offered to its pipeline, or released. -/
  | frameAdmit (port : Nat) (bs : List Byte) (pcs : Bool) (pick : List Nat)
  /-- MAC_CONTROL_FRAME (R138): A received MAC control frame is acted on as PAUSE or PFC, punted, or discarded as
  CTRL_BAD. -/
  | macControlFrame (port : Nat) (bs : List Byte) (pick : List Nat)
  /-- RECEIVED_PAUSE_EXPIRY (R138): The pause time received for a priority runs out, so the priority is released. -/
  | receivedPauseExpiry (port pri : Nat)
  /-- XOFF_REFRESH (R139): XOFF_QUANTA ÷ 2 quanta have passed with the priority still above its threshold, so the
  XOFF is repeated. -/
  | xoffRefresh (port pri : Nat)
  /-- PFC_STORM (R140): Pause has held a priority with frames queued for DETECT ms, so the port enters storm for
  that priority. -/
  | pfcStorm (port pri : Nat)
  /-- PFC_STORM_END (R140): No pause has arrived for RESTORE ms, so the storm ends. -/
  | pfcStormEnd (port pri : Nat)
  /-- LINK_DOWN (R142): A down condition has lasted DOWN_DEB: the port leaves UP or UP_PENDING, copies are held and
  the event is logged. -/
  | linkDown (port conds : Nat) (lanes : List Nat)
  /-- UP_PENDING (R143): The PCS aligns with no fault present, so the port enters UP_PENDING and starts UP_HOLD. -/
  | upPending (port : Nat)
  /-- LINK_UP (R143): UP_HOLD expires: the port becomes UP (or SUPPRESSED), held copies are released or flushed, and
  LINK_UP is logged. -/
  | linkUp (port : Nat)
  /-- FLAP_REUSE (R144): The decaying penalty falls below REUSE × 50, so suppression ends. -/
  | flapReuse (port : Nat)
  /-- AN_FAIL (R146): The partner advertises no ability in common: NO_COMMON is set and negotiation restarts, with
  back-off. -/
  | anFail (port : Nat)
  /-- LT_FAIL (R146): Link training has not converged within the module maximum, so LT_FAIL is set and back-off
  applies. -/
  | ltFail (port : Nat)
  /-- AN_BACKOFF_EXPIRY (R146): The negotiation back-off wait ends and negotiation restarts. -/
  | anBackoffExpiry (port : Nat)
  /-- HEAD_PARSE (R151): A pipeline takes a frame head: it parses it through the graph and the fragment table, then
  through the forwarding and classifier stages. -/
  | headParse (pipe : Nat) (ovf : Bool) (reads : List TableWord)
  /-- WAIT_TIMEOUT (R164): A held fragment has not been released within WAIT_US, so it takes the fragment default. -/
  | waitTimeout (pipe : Nat)
  /-- FRAGMENT_REENTRY (R164): A released fragment re-enters the fragment-table stage in the next free pipeline
  cycle. -/
  | fragmentReentry (pipe : Nat) (ovf : Bool) (reads : List TableWord)
  /-- FRAGMENT_ENTRY_EXPIRY (R162): A fragment-table entry reaches LINGER or AGE and ends. -/
  | fragmentEntryExpiry (pipe entry : Nat)
  /-- FLOW_REQUEST (R218): A flow request reaches its home merger: the home slot (and the alternate when SPILL is
  set) is read, giving a hit or a miss, and a task is created. -/
  | flowRequest (desc : Nat) (home alt : Option BadWord)
  /-- EDIT_LIST_APPLY (R168): The egress stage applies the final edit list and route edits to the head, or discards
  the frame, and passes the descriptor to the traffic manager. -/
  | editListApply (desc : Nat) (reads : List TableWord)
  /-- GRAPH_GO (R160): GRAPH_CTRL.GO starts the graph loader if a covering pause has been reached; otherwise it
  records cause 4. -/
  | graphGo (path : Nat) (auto : Bool)
  /-- GRAPH_ARM (R160): GRAPH_CTRL.ARM arms the graph loader to start when a covering pause is reached. -/
  | graphArm (auto : Bool)
  /-- GRAPH_AUTO_START (R160): An armed graph loader starts by itself when PAUSE_REACHED is set for a mask that
  covers WR_MASK. -/
  | graphAutoStart
  /-- GRAPH_ABORT (R87): GRAPH_CTRL.ABORT aborts the graph loader before or after its completion point. -/
  | graphAbort (done : Nat)
  /-- GRAPH_DONE (R160): The last node is written: the load is COMPLETE, and the pause is resumed if AUTO_RESUME is
  set. -/
  | graphDone (done : Nat)
  /-- LEARN_APPLY (R178): A streamed learn arrives at a pipeline and is applied under the learn rule and the learn
  cache. -/
  | learnApply (pipe : Nat)
  /-- LEARN_CACHE_EXPIRY (R178): A learn-cache key leaves the cache LEARN_WIN µs after its stamp. -/
  | learnCacheExpiry (pipe : Nat)
  /-- MOVE_STORM_WINDOW (R180): A STORM_WIN window ends, and a move storm is raised or ended according to its move
  count. -/
  | moveStormWindow (pipe : Nat)
  /-- HOST_TABLE_SWEEP (R181): The ageing sweep visits a host-table entry and removes it if it is aged. -/
  | hostTableSweep (pipe index : Nat)
  /-- HOST_FIND (R184): FWDT.CMD FIND looks up a key in the pipelines of PIPE_MASK. -/
  | hostFind (mask : Nat)
  /-- HOST_INSERT (R184): FWDT.CMD INSERT writes or overwrites an entry in the pipelines of PIPE_MASK, evicting
  under R183. -/
  | hostInsert (mask : Nat)
  /-- HOST_DELETE (R184): FWDT.CMD DELETE removes an entry in the pipelines of PIPE_MASK. -/
  | hostDelete (mask : Nat)
  /-- HOST_TABLE_READ_LOCK (R449): A BAR2 read through the read-and-lock alias returns the entry and sets its LOCK. -/
  | hostTableReadLock (index : Nat)
  /-- PREFIX_FIND (R185): LPMT.CMD FIND looks up a prefix. -/
  | prefixFind (mask : Nat)
  /-- PREFIX_INSERT (R186): LPMT.CMD INSERT places a prefix, shifting regions or filling a hole, or ends with CODE 2. -/
  | prefixInsert (mask : Nat)
  /-- PREFIX_DELETE (R187): LPMT.CMD DELETE clears a prefix and leaves a hole. -/
  | prefixDelete (mask : Nat)
  /-- PREFIX_UNIT_MOVE (R188): One prefix unit write takes a granted search slot. -/
  | prefixUnitMove
  /-- RULE_WRITE (R199): CLSF.CMD WRITE writes one rule from CMD_DATA in a single search slot per pipeline. -/
  | ruleWrite (mask : Nat)
  /-- RULE_INVALIDATE (R199): CLSF.CMD INVALIDATE invalidates one rule. -/
  | ruleInvalidate (mask : Nat)
  /-- RULE_READ (R199): CLSF.CMD READ copies a rule from RD_PIPE into CMD_DATA. -/
  | ruleRead
  /-- BANK_LOAD_GO (R201): LOAD_CTRL.GO starts the bank loader under a reached pause. -/
  | bankLoadGo (path : Nat) (auto : Bool)
  /-- BANK_LOAD_ARM (R201): LOAD_CTRL.ARM arms the bank loader to start when a covering pause is reached. -/
  | bankLoadArm (auto : Bool)
  /-- BANK_LOAD_AUTO_START (R201): An armed bank loader starts when PAUSE_REACHED is set for a covering mask. -/
  | bankLoadAutoStart
  /-- BANK_LOAD_ABORT (R201): LOAD_CTRL.ABORT aborts the bank loader. -/
  | bankLoadAbort (done : Nat)
  /-- LOAD_DONE (R201): The bank loader writes its last rule and may resume the pause. -/
  | loadDone (done : Nat)
  /-- CTL_SEND (R223): A task sends a control update; the merger holds it, then applies or refuses it by VERSION. -/
  | ctlSend (frond thread : Nat) (prog : Program)
  /-- INS_SEND (R219): A task inserts its record after a miss, placing it in the home or alternate slot or evicting
  an occupant. -/
  | insSend (frond thread : Nat) (prog : Program) (ue : Option BadWord)
  /-- DEL_SEND (R239): A task deletes its record with a reason. -/
  | delSend (frond thread : Nat) (prog : Program) (reason : Nat)
  /-- HARV_SEND (R224): A harvest delta subtracts the exported counters and clears HARV_PEND. -/
  | harvSend (frond thread : Nat) (prog : Program)
  /-- CNT_ADD (R239): An atomic addition is made to a 64-bit program counter of the frond. -/
  | cntAdd (frond thread index : Nat) (value : EngSrc)
  /-- EMIT (R239): A record is placed in the frond's export queue, waiting while the queue is full. -/
  | emit (frond thread : Nat) (prog : Program) (spad : Option Nat) (long : Bool) (reason : Nat)
  /-- MERGER_WRITE_BACK (R222): Changed halves of a slot are written when the slot closes, or 4 µs after the first
  unwritten change. -/
  | mergerWriteBack (slot : Nat)
  /-- SWEEP_START (R225): FLOW.SWEEP_CTRL.START begins an ageing pass now. -/
  | sweepStart
  /-- SWEEP_ABORT (R225): FLOW.SWEEP_CTRL.ABORT aborts the current sweep pass. -/
  | sweepAbort
  /-- SWEEP_PAIR_VISIT (R225): The sweeper visits a pair: it issues ageing removals, normalises the pair and audits
  its SPILL and MATE bits. -/
  | sweepPairVisit
  /-- REBUILD_GO (R217): REBUILD_CTRL.GO draws new keys, clears region B and starts the rebuild cursor. -/
  | rebuildGo
  /-- REBUILD_PAIR_COPY (R217): The rebuild cursor copies a pair's records into region B once none is open. -/
  | rebuildPairCopy
  /-- REBUILD_SWITCH (R217): After the last pair, the table switches to the new keys and region B at the next whole
  microsecond. -/
  | rebuildSwitch
  /-- REBUILD_ABORT (R217): REBUILD_CTRL.ABORT discards region B and keeps the old keys. -/
  | rebuildAbort
  /-- REKEY (R217): REBUILD_CTRL.REKEY draws new keys at once while OCC = 0. -/
  | rekey
  /-- FLOW_DELETE (R230): FLOW.CMD DELETE removes the record at CMD_SLOT with the expected INCARN, with reason HOST. -/
  | flowDelete (incarn : Nat)
  /-- PIN_RECORD (R230): FLOW.CMD PIN sets PINNED on a record. -/
  | pinRecord (incarn : Nat)
  /-- UNPIN_RECORD (R230): FLOW.CMD UNPIN clears PINNED on a record. -/
  | unpinRecord (incarn : Nat)
  /-- ANCHOR_LOAD_GO (R232): ANCH.LOAD_CTRL.GO starts the anchor loader under a reached full pause. -/
  | anchorLoadGo (path : Nat) (auto : Bool)
  /-- ANCHOR_LOAD_ARM (R232): ANCH.LOAD_CTRL.ARM arms the anchor loader. -/
  | anchorLoadArm (auto : Bool)
  /-- ANCHOR_LOAD_AUTO_START (R232): An armed anchor loader starts when a pause with mask 0xF is reached. -/
  | anchorLoadAutoStart
  /-- ANCHOR_LOAD_ABORT (R232): ANCH.LOAD_CTRL.ABORT aborts the anchor loader. -/
  | anchorLoadAbort (done : Nat)
  /-- ANCHOR_LOAD_DONE (R232): The anchor loader writes its last entry. -/
  | anchorLoadDone (done : Nat)
  /-- TASK_DISPATCH (R266): A free thread takes the head of the highest-priority ready list. -/
  | taskDispatch (frond : Nat)
  /-- NEXT (R246): A microword with COND NEXT issues and continues at address + 1. -/
  | next (frond thread : Nat) (ue : WordGuard)
  /-- GOTO (R246): A microword with COND GOTO branches to its target. -/
  | goto (frond thread : Nat) (ue : WordGuard)
  /-- IF_Z (R246): A conditional branch is taken if Z = 1. -/
  | ifZ (frond thread : Nat) (ue : WordGuard)
  /-- IF_NZ (R246): A conditional branch is taken if Z = 0. -/
  | ifNz (frond thread : Nat) (ue : WordGuard)
  /-- IF_C (R246): A conditional branch is taken if C = 1. -/
  | ifC (frond thread : Nat) (ue : WordGuard)
  /-- IF_NC (R246): A conditional branch is taken if C = 0. -/
  | ifNc (frond thread : Nat) (ue : WordGuard)
  /-- IF_N (R246): A conditional branch is taken if N = 1. -/
  | ifN (frond thread : Nat) (ue : WordGuard)
  /-- IF_ZN (R246): A conditional branch is taken if Z = 1 or N = 1. -/
  | ifZn (frond thread : Nat) (ue : WordGuard)
  /-- IF_HIT (R246): A conditional branch is taken if META.FLAGS.HIT = 1. -/
  | ifHit (frond thread : Nat) (ue : WordGuard)
  /-- IF_UPD_FAIL (R246): A conditional branch is taken if STS[7:0] is not 0. -/
  | ifUpdFail (frond thread : Nat) (ue : WordGuard)
  /-- IF_UNIT_ERR (R246): A conditional branch is taken if STS[15:8] is not 0. -/
  | ifUnitErr (frond thread : Nat) (ue : WordGuard)
  /-- CALL (R246): A call pushes address + 1 and branches. -/
  | call (frond thread : Nat) (ue : WordGuard)
  /-- RET (R246): A return pops a return address. -/
  | ret (frond thread : Nat) (ue : WordGuard)
  /-- DISPATCH (R246): A dispatch branches to target + (G1 AND 0xF). -/
  | dispatch (frond thread : Nat) (ue : WordGuard)
  /-- WAIT (R264): The task's wait condition is tested; it consumes flags or blocks the task. -/
  | wait (frond thread : Nat) (ue : WordGuard)
  /-- END (R241): The task ends: an optional packet delta is sent, the descriptor is released with RES and EDIT, and
  any reservation is released. -/
  | endTask (frond thread : Nat) (prog : Program) (ue : WordGuard)
  /-- AND (R247): An ALU AND operation. -/
  | and (frond thread : Nat) (dst : EngPlace) (a b : EngSrc) (flags : Bool)
  /-- OR (R247): An ALU OR operation. -/
  | or (frond thread : Nat) (dst : EngPlace) (a b : EngSrc) (flags : Bool)
  /-- XOR (R247): An ALU XOR operation. -/
  | xor (frond thread : Nat) (dst : EngPlace) (a b : EngSrc) (flags : Bool)
  /-- ADD (R247): An ALU ADD operation. -/
  | add (frond thread : Nat) (dst : EngPlace) (a b : EngSrc) (flags : Bool)
  /-- SUB (R247): An ALU SUB operation. -/
  | sub (frond thread : Nat) (dst : EngPlace) (a b : EngSrc) (flags : Bool)
  /-- SHIFT (R247): An ALU shift operation. -/
  | shift (frond thread kind : Nat) (dst : EngPlace) (a b : EngSrc) (flags : Bool)
  /-- COMPARE_UNDER_MASK (R247): An ALU compare under mask that sets flags. -/
  | compareUnderMask (frond thread : Nat) (wide : Bool) (a b mask : EngSrc) (flags : Bool)
  /-- MASKSET (R247): An ALU MASKSET operation. -/
  | maskset (frond thread : Nat) (dst : EngPlace) (a mask value : EngSrc) (flags : Bool)
  /-- BYTE_SWAP (R247): An ALU byte swap. -/
  | byteSwap (frond thread : Nat) (dst : EngPlace) (a : EngSrc) (flags : Bool)
  /-- MOVE (R247): Up to two transfers between the task windows and the registers. -/
  | move (frond thread : Nat) (a : Transfer) (b : Option Transfer)
  /-- MEM_LOAD (R272): A scratchpad load of up to 64 bytes through the port. -/
  | memLoad (frond thread : Nat) (addr : EngSrc) (dst : EngPlace) (len : Nat) (ue : Guard)
  /-- MEM_STORE (R272): A scratchpad store of up to 64 bytes through the port. -/
  | memStore (frond thread : Nat) (addr : EngSrc) (src : EngPlace) (len : Nat)
  /-- E_CLEAR (R242): Empties the EDIT builder. -/
  | eClear (frond thread : Nat)
  /-- E_OP (R242): Appends one edit operation word, or sets the edit-overflow flag. -/
  | eOp (frond thread : Nat) (word : Word)
  /-- E_DATA (R242): Appends edit data and returns its DATA_OFF, or sets the edit-overflow flag. -/
  | eData (frond thread : Nat) (src : EngPlace) (len dst : Nat)
  /-- LOCK (R309): An engine task requests the cipher lock and waits for it. -/
  | lock (frond thread : Nat)
  /-- ENC (R309): Encrypts one AES block under a key slot, optionally as a ONCE call. -/
  | enc (frond thread slot : Nat) (once : Bool) (src dst : Nat)
  /-- DEC (R309): Decrypts one AES block under a key slot, optionally as a ONCE call. -/
  | dec (frond thread slot : Nat) (once : Bool) (src dst : Nat)
  /-- NONCE (R316): Returns the slot's next nonce and increments its counter, or refuses when exhausted. -/
  | nonce (frond thread slot : Nat) (once : Bool) (dst : Nat) (key : Guard)
  /-- FREE (R309): The engine holder releases the cipher lock. -/
  | free (frond thread : Nat)
  /-- INIT (R322): Engine check-value INIT takes the context and loads the preset and initial value. -/
  | init (frond thread preset : Nat) (value pair : Option Nat)
  /-- FEED (R322): Feeds 1 to 64 bytes into the check-value context. -/
  | feed (frond thread : Nat) (src : EngPlace) (len : Nat)
  /-- READ (R322): Reads the check-value result into G registers. -/
  | read (frond thread dst : Nat)
  /-- READ_CMP (R324): Reads the check-value result and compares it, giving status 8 and mismatch effects on a
  difference. -/
  | readCmp (frond thread dst ref : Nat)
  /-- SAVE (R322): Saves the running value and preset to G registers. -/
  | save (frond thread dst third : Nat)
  /-- RESTORE (R322): Restores a saved running value and takes ownership of the context. -/
  | restore (frond thread src third : Nat)
  /-- PEERH (R240): Computes the peer hash part under KP. -/
  | peerh (frond thread : Nat) (v6 : Bool) (zone proto port addr : EngSrc) (dst : Nat)
  /-- LOCALH (R240): Computes the local hash value h under KL. -/
  | localh (frond thread : Nat) (v6 : Bool) (port addr : EngSrc) (dst : Nat)
  /-- KHASH (R240): SipHash-2-4 of up to 32 bytes under a program key. -/
  | khash (frond thread : Nat) (src : EngPlace) (len key dst : Nat)
  /-- RAND (R240): 32 random bits from the random number generator. -/
  | rand (frond thread dst : Nat)
  /-- T_CREATE (R263): Creates a ready task of a program kind, placed in the store or spilled. -/
  | tCreate (frond thread imm spad dst : Nat)
  /-- T_SIGNAL (R263): ORs flags into a task by id; a stale id is dropped. -/
  | tSignal (frond thread imm idReg : Nat)
  /-- T_MASK (R263): Sets the task's wait MASK and MODE. -/
  | tMask (frond thread imm : Nat) (all : Bool)
  /-- T_TIMER (R263): Arms, re-arms or disarms the task's own timer. -/
  | tTimer (frond thread delayReg : Nat)
  /-- T_TIMERTASK (R263): Creates a timed task of kind 4 due after a delay. -/
  | tTimertask (frond thread delayReg : Nat) (spad : Option Nat)
  /-- T_SELF (R263): Writes the task's own id to a G register. -/
  | tSelf (frond thread dst : Nat)
  /-- PROMOTE (R266): A ready task waits STARVE µs undispatched and moves up one priority. -/
  | promote (frond index : Nat)
  /-- REFILL (R267): A frond refills up to 16 records from the head of a priority ring. -/
  | refill (frond prio : Nat) (bad : List BadTask)
  /-- TIMER_FIRE (R268): A deadline passes: flag 15 is set on the owning task, or a timed task becomes ready. -/
  | timerFire (frond index : Nat)
  /-- PATCH_SLOT_WRITE (R252): A write of a CSTO patch slot reaches the fronds in PATCH_MASK, or is refused after
  seal. -/
  | patchSlotWrite (slot : Nat) (value : Word)
  /-- PRAM_DATA_ACCESS (R259): A read or write of a patch RAM word advances PRAM_IDX; writes are refused after seal. -/
  | pramDataAccess (path : Nat) (value : Option Word)
  /-- CS_DATA_READ (R259): A read of CS_DATA[0] copies the control-store word at CS_IDX into CS_DATA for the path. -/
  | csDataRead (path : Nat)
  /-- PCNT_CLR (R256): Sets the program counter at PCNT_IDX to 0. -/
  | pcntClr (frond : Nat)
  /-- TRACE_ENTRY_WRITE (R271): A queued trace entry is written into the ring in an idle port cycle. -/
  | traceEntryWrite (frond : Nat)
  /-- MIRROR_GO (R271): MIRROR_CTRL.GO starts copying trace entries to host memory. -/
  | mirrorGo (frond : Nat)
  /-- MIRROR_ABORT (R271): MIRROR_CTRL.ABORT aborts the trace mirror. -/
  | mirrorAbort (frond done : Nat)
  /-- MIRROR_DONE (R271): The last trace entry of the mirror is delivered. -/
  | mirrorDone (frond done : Nat) (ue : Guard)
  /-- SIG_FLAGS (R277): A host write ORs flags into the task named by SIG_ID. -/
  | sigFlags (frond flags : Nat)
  /-- DMA_GO (R273): SPAD.DMA_CTRL.GO starts a copy between host memory and a scratchpad. -/
  | dmaGo (frond : Nat) (dir : Bool)
  /-- DMA_ABORT (R273): SPAD.DMA_CTRL.ABORT aborts the scratchpad DMA. -/
  | dmaAbort (frond done : Nat)
  /-- DMA_DONE (R273): The last scratchpad DMA word is written, or a PCIe error ends the DMA FAILED. -/
  | dmaDone (frond done : Nat) (ue : Guard)
  /-- MARCH_GO (R274): MARCH_CTRL.GO starts a march test of the selected mode on a target, or is refused. -/
  | marchGo (target mode : Nat)
  /-- MARCH_AUTO (R280): At each AUTO interval, preserving and free-cell march tests start. -/
  | marchAuto
  /-- MARCH_ABORT (R275): MARCH_CTRL.ABORT aborts a march test. -/
  | marchAbort (target done : Nat) (fails : List Nat)
  /-- MARCH_DONE (R275): A march test ends, reporting failures and withholding failed cells. -/
  | marchDone (target : Nat) (fails : List Nat)
  /-- EXPORT_MESSAGE (R302): An IPFIX message is sent when the next record would not fit or HOLD µs have passed. -/
  | exportMessage (frond : Nat) (pick : List Nat)
  /-- LOCK_TAKE (R326): CIPH.LOCK_CTRL.TAKE requests the cipher lock for a host path. -/
  | lockTake (frond path : Nat)
  /-- LOCK_FREE (R326): CIPH.LOCK_CTRL.FREE releases the lock held by a host path. -/
  | lockFree (frond path : Nat)
  /-- LOCK_GRANT (R310): The lock passes to the next waiter in arrival order. -/
  | lockGrant (frond : Nat)
  /-- LOCK_WAIT_EXPIRY (R310): A LOCK waiting LOCK_WAIT_MAX cycles is withdrawn with status 1. -/
  | lockWaitExpiry (frond : Nat)
  /-- LOCK_TIMEOUT (R312): An idle holder reaches LOCK_TO and the lock is revoked. -/
  | lockTimeout (frond : Nat)
  /-- KEY_LOAD (R313): KEY_CTRL.LOAD loads a key slot from the staging copy and draws a nonce epoch, or waits or is
  refused. -/
  | keyLoad (frond path : Nat) (size : Bool)
  /-- KEY_ERASE (R313): KEY_CTRL.ERASE zeroes a key slot. -/
  | keyErase (frond path : Nat)
  /-- KEY_PENDING_APPLY (R314): A pending LOAD or ERASE takes effect when the block using the slot completes. -/
  | keyPendingApply (frond slot : Nat)
  /-- NONCE_GO (R316): NONCE_CTRL.GO takes one nonce for the host path that holds the lock. -/
  | nonceGo (frond path : Nat) (key : Guard)
  /-- RUN_GO (R318): RUN_CTRL.GO starts a host cipher run of COUNT blocks, or is refused. -/
  | runGo (frond path : Nat)
  /-- RUN_ABORT (R318): RUN_CTRL.ABORT aborts a cipher run before or after its completion point. -/
  | runAbort (frond : Nat)
  /-- CIPHER_BLOCK_DONE (R307): A block result is written after 16 + 3D + J cycles, and the next queued call starts. -/
  | cipherBlockDone (frond : Nat) (pcieErr : Bool) (key : Guard)
  /-- HOST_CHKV_INIT (R321): CHKV.CMD.INIT takes the context for the host path. -/
  | hostChkvInit (unit path : Nat)
  /-- FEED32 (R323): The host feeds four bytes to a check-value context, comparing at CMP_LEN. -/
  | feed32 (unit path : Nat) (value : Word)
  /-- FEED8 (R323): The host feeds one byte to a check-value context. -/
  | feed8 (unit path : Nat) (value : Word)
  /-- CONTEXT_RESTORE (R323): A write to RUN_LO, RUN_HI or COUNT restores that part of the context and takes
  ownership. -/
  | contextRestore (unit path part : Nat) (value : Word)
  /-- DESCRIPTOR_ARRIVAL (R355): A descriptor crosses PL>TM: it is classed, policed and replicated into queues. -/
  | descriptorArrival (desc : Nat)
  /-- SELECTION (R359): A port ready for a copy selects one top-down through the node hierarchy. -/
  | selection (port : Nat)
  /-- COPY_TRANSMIT_START (R346): A staged copy starts transmission at its port. -/
  | copyTransmitStart (port : Nat) (failed : Option ReadFail)
  /-- COPY_TRANSMIT_END (R343): A copy finishes: REFS falls, units are freed at 0, and charges and episodes are
  updated. -/
  | copyTransmitEnd (port : Nat) (fail : Option (ReadFail × Nat × Nat × Nat))
  /-- HOLD_EXPIRY (R345): HOLD_MS elapses for a down port and every held copy is flushed. -/
  | holdExpiry (port : Nat) (pri : Option Nat)
  /-- AUDIT_START (R349): BUFM.AUDIT_CTRL.START begins a leak-audit pass. -/
  | auditStart
  /-- AUDIT_PERIOD (R349): The PERIOD timer begins a leak-audit pass. -/
  | auditPeriod
  /-- AUDIT_ABORT (R349): AUDIT_CTRL.ABORT aborts the audit pass. -/
  | auditAbort
  /-- AUDIT_DONE (R349): The last unit of the audit pass is scanned. -/
  | auditDone (bad : Nat)
  /-- SHAPER_REFILL (R362): At its interval, a node's buckets are refilled and clipped, with new values applied
  after a commit. -/
  | shaperRefill (node : Nat) (ue : Guard)
  /-- GATE_ENTRY (R366): The active gate control list moves to its next entry or starts a new cycle. -/
  | gateEntry (port : Nat)
  /-- GATE_CHANGE (R367): GATE_CTRL.CHANGE schedules the standby list to become active, or is refused. -/
  | gateChange (port : Nat)
  /-- GATE_CANCEL (R367): GATE_CTRL.CANCEL withdraws a pending list change. -/
  | gateCancel (port : Nat)
  /-- GATE_LIST_SWAP (R367): At OPER_BASE the standby list becomes active and GATE_CHANGE is logged. -/
  | gateListSwap (port : Nat)
  /-- GCL_ACCESS (R376): A read or write of GCL_TIME advances GCL_IDX. -/
  | gclAccess (path port : Nat) (value : Option Word)
  /-- QUEUE_SAMPLE (R370): The sampler visits a queue and overwrites its sample entry. -/
  | queueSample (ue : Guard)
  /-- REFRESH (R389): A bank refresh falls due and is issued or postponed. -/
  | refresh (channel bank : Nat) (demand : Bool)
  /-- MAKE_UP_REFRESH (R389): An idle bank with a postponed count gets a make-up refresh. -/
  | makeUpRefresh (channel bank : Nat)
  /-- MR4_POLL (R390): Mode register 4 is read and RATE is updated; a change logs MR4_CHANGE. -/
  | mr4Poll (channel rate : Nat)
  /-- REF_FORCED (R390): REF_MULT stays too low for REF_GRACE, so the controller forces the required rate. -/
  | refForced (channel : Nat)
  /-- DRIFT_UPDATE (R395): Each PERIOD the channel tracks drift and adjusts its delays. -/
  | driftUpdate (channel : Nat) (wr rd : Int)
  /-- SCRUB_START (R397): MEMC.SCRUB_CTRL.START begins a scrub pass. -/
  | scrubStart (channel : Nat)
  /-- SCRUB_PASS (R397): A periodic scrub pass reads every burst and writes back corrected ones. -/
  | scrubPass (channel : Nat) (found : List ScrubFind)
  /-- SCRUB_ABORT (R397): SCRUB_CTRL.ABORT aborts the scrub pass. -/
  | scrubAbort (channel : Nat)
  /-- COMMAND_BUS_TRAINING (R393): STEP 0 runs command-bus training. -/
  | commandBusTraining (channel : Nat)
  /-- WCK2CK_LEVELLING (R393): STEP 1 runs WCK2CK levelling. -/
  | wck2ckLevelling (channel : Nat)
  /-- READ_TRAINING (R393): STEP 2 runs read training. -/
  | readTraining (channel : Nat)
  /-- WRITE_TRAINING (R393): STEP 3 runs write training. -/
  | writeTraining (channel : Nat)
  /-- CHECK (R393): STEP 4 runs the PRBS31 check. -/
  | check (channel : Nat)
  /-- STEP_ABORT (R405): STEP_CTRL.ABORT aborts a training step. -/
  | stepAbort (channel : Nat)
  /-- TRAINING_STEP_DONE (R393): A training step latches its results, or ends FAILED. -/
  | trainingStepDone (result : Trained) (progress : Nat)
  /-- CMP_WRITE (R405): CMP_CTRL.WRITE writes the pattern at PAT_ADDR. -/
  | cmpWrite (channel : Nat)
  /-- CMP_READ_CMP (R405): CMP_CTRL.READ_CMP reads and compares the pattern into PIN_ERR. -/
  | cmpReadCmp (channel : Nat) (errors : List Nat)
  /-- CMP_CLEAR (R405): CMP_CTRL.CLEAR zeroes every PIN_ERR. -/
  | cmpClear (channel : Nat)
  /-- RETIRE_GO (R400): RETIRE_CTRL.GO starts retiring a channel, or is refused. -/
  | retireGo (channel : Nat)
  /-- RETIRE_SLOT_COPY (R400): A slot of a retiring flow channel is copied to its substitute once it is closed. -/
  | retireSlotCopy (ue : Option BadWord)
  /-- RETIRE_SWITCH (R400): After the last slot, the new map takes effect at the next microsecond and the channel
  powers off. -/
  | retireSwitch
  /-- AUTO_RETIRE (R401): The UE threshold or a suspect pin starts an automatic retirement. -/
  | autoRetire (channel : Nat)
  /-- PACKET_CHANNEL_RETIRED (R402): All blocks of a retiring packet channel are withheld. -/
  | packetChannelRetired
  /-- HEARTBEAT_SEND (R409): At link UP and every HB_PERIOD, a heartbeat is sent. -/
  | heartbeatSend
  /-- HEARTBEAT_RECEIVE (R412): A peer heartbeat is received: θ is computed, agreement is checked and the state
  machine advances. -/
  | heartbeatReceive (frame : List Byte)
  /-- PEER_SILENT (R412): No heartbeat arrives for HB_MISS × HB_PERIOD, so the module goes ALONE. -/
  | peerSilent
  /-- KEY_TRANSFER (R413): Received key blocks are decrypted and checked, then adopted or used in a rebuild. -/
  | keyTransfer (blocks : List Byte)
  /-- REPLICATION_MESSAGE (R416): A peer replication message is applied through the merger, subject to conflict
  resolution. -/
  | replicationMessage (message : List Byte)
  /-- AGE_QUERY (R418): A peer age query is answered yes or no. -/
  | ageQuery (msg : AgeMsg)
  /-- AGE_QUERY_TIMEOUT (R418): No answer to an age query arrives within REPL_WIN, so the record is kept. -/
  | ageQueryTimeout (slot : Nat)
  /-- RESYNC_ENTRY (R420): A 16-byte resync entry is compared with the local slot and the kept copy is sent. -/
  | resyncEntry (digest stamp : Nat) (aged due : Bool)
  /-- RESYNC_START (R412): RESYNC_CTRL.START re-enters RESYNC after an aborted sweep. -/
  | resyncStart
  /-- RESYNC_ABORT (R421): RESYNC_CTRL.ABORT aborts the resync sweep. -/
  | resyncAbort
  /-- RESYNC_DONE (R421): The last pair is compared, the journal is emptied and the module becomes JOINED. -/
  | resyncDone
  /-- LINK_KEY_LOAD (R422): LINK_KEY_CTRL.LOAD loads the tandem link key. -/
  | linkKeyLoad (path : Nat)
  /-- LINK_KEY_ERASE (R422): LINK_KEY_CTRL.ERASE erases the tandem link key. -/
  | linkKeyErase (path : Nat)
  /-- SNAP (R427): TOP.SNAPSHOT.SNAP schedules a counter snapshot at T_s. -/
  | snap
  /-- FREEZE (R427): TOP.SNAPSHOT.FREEZE schedules stopping every PERF counter at T_s. -/
  | freeze
  /-- THAW (R427): TOP.SNAPSHOT.THAW schedules restarting PERF counters at T_s. -/
  | thaw
  /-- SNAPSHOT_INSTANT (R427): Each island's replica reaches T_s and performs the scheduled snapshot actions. -/
  | snapshotInstant
  /-- SAMPLE_RECORD_WRITE (R433): A staged sample record is written to the sample ring, or dropped when the ring is
  full. -/
  | sampleRecordWrite
  /-- STAT_CLEAR_PORT (R434): STAT.CLEAR.GO clears one port's live counters. -/
  | statClearPort (port : Nat)
  /-- STAT_CLEAR_ALL (R434): STAT.CLEAR.ALL clears every port's live counters. -/
  | statClearAll
  /-- LATCHING_READ (R434): A read of a counter's low word latches its high word for the path. -/
  | latchingRead (path page off channel : Nat)
  /-- EVENT_RECORD_WRITE (R439): A staged event record is written to an enabled queue when there is room. -/
  | eventRecordWrite (queue : Nat)
  /-- EVENT_QUEUE_HOLDOFF (R441): HOLDOFF µs after the first record, the queue's interrupt bit is set. -/
  | eventQueueHoldoff (queue : Nat)
  /-- BAR2_READ (R448): A BAR2 entry read returns the entry atomically, or is refused. -/
  | bar2Read (off : Nat) (ue : Option BadWord)
  /-- BAR2_WRITE (R448): A BAR2 write of whole entries is applied atomically, or is refused with a cause. -/
  | bar2Write (off : Nat) (bytes : List Byte)
  /-- SLOT_WINDOW_READ (R450): A slot-window read returns the slot through its merger. -/
  | slotWindowRead (off : Nat) (ue : Option BadWord)
  /-- RAW_WINDOW_READ (R450): A raw-window read returns stored words uncorrected, or is refused after seal. -/
  | rawWindowRead (off : Nat)
  /-- TDMA_GO (R451): HOST.TDMA_CTRL.GO starts a table DMA. -/
  | tdmaGo (dir : Bool)
  /-- TDMA_ABORT (R451): TDMA_CTRL.ABORT aborts the table DMA. -/
  | tdmaAbort (moved : Nat)
  /-- TDMA_DONE (R451): The last table DMA entry is done, or the DMA ends FAILED. -/
  | tdmaDone (pcieErr : Bool) (moved : Nat)
  /-- RING_AVAIL_WRITE (R452): Software posts descriptors by advancing RING_AVAIL, or makes a reserved write. -/
  | ringAvailWrite (path ring avail : Nat)
  /-- RING_ENABLE (R452): A change of RING_CFG.EN starts or stops a ring. -/
  | ringEnable (path ring : Nat) (en : Bool)
  /-- RING_RESTART (R452): RING_CTRL.RESTART resumes a halted ring. -/
  | ringRestart (ring : Nat)
  /-- PUNT_DELIVERY (R453): A copy for port 32 is written to host memory with its punt descriptor. -/
  | puntDelivery (failed : Option ReadFail) (pcieErr : Bool)
  /-- INJECT (R455): An inject descriptor is served: the frame is read and admitted as requester 32. -/
  | inject (pcieErr : Bool) (pick : List Nat)
  /-- RING_IRQ_HOLDOFF (R456): HOLDOFF µs after the first completion, a ring's IRQ bit is set. -/
  | ringIrqHoldoff (ring : Nat)
  /-- PCIE_LINK (R446): The PCIe link goes up or down, changing port 32's state. -/
  | pcieLink (gen width : Nat) (up master : Bool)
  /-- FLR (R446): A function-level reset resets the host island's registers. -/
  | flr
  /-- MGMT_RECEIVE (R457): A management port frame is received into the receive ring, or discarded. -/
  | mgmtReceive (bytes : List Byte) (dev : Int)
  /-- MGMT_TRANSMIT (R457): A management transmit descriptor is sent. -/
  | mgmtTransmit
  /-- QSPI_READ (R458): A QSPI READ of 1 to 256 bytes into QSPI_BUF. -/
  | qspiRead
  /-- QSPI_PROGRAM (R458): A QSPI PROGRAM within one page, refused inside the power-fail area. -/
  | qspiProgram
  /-- QSPI_ERASE (R458): A QSPI sector ERASE, refused inside the power-fail area. -/
  | qspiErase
  /-- READ_ID (R458): A QSPI READ_ID command. -/
  | readId
  /-- QSPI_DONE (R458): A QSPI command completes and QSPI_DONE is set. -/
  | qspiDone (id : Nat)
  /-- SET_ADDR (R459): SMBus command that sets the BAR0 offset. -/
  | setAddr (addr : Nat) (pec : Bool)
  /-- SMBUS_READ (R459): SMBus command that reads the register at the offset, then adds 4 to the offset. -/
  | smbusRead
  /-- SMBUS_WRITE (R459): SMBus command that writes the register at the offset, then adds 4 to the offset. -/
  | smbusWrite (value : Word) (pec : Bool) (done : Nat) (found : List Nat)
  /-- MBOX_WRITE (R459): SMBus command that appends to the path's MBOX_IN. -/
  | mboxWrite (bs : List Byte) (pec : Bool)
  /-- MBOX_RING (R459): SMBus command that rings the mailbox doorbell. -/
  | mboxRing (pec : Bool)
  /-- MBOX_READ (R459): SMBus command that reads the path's MBOX_OUT. -/
  | mboxRead (length : Nat)
  /-- STATUS (R459): SMBus status byte read. -/
  | status
  /-- VERSION (R460): Mailbox command returning firmware, image and microcode versions. -/
  | version
  /-- SENSORS (R460): Mailbox command returning VIN and island temperatures. -/
  | sensors (temps : List Nat)
  /-- PFAIL_READ (R460): Mailbox command returning the power-fail record of a given sequence. -/
  | pfailRead
  /-- TRAIN_REPORT (R460): Mailbox command returning each channel's training status. -/
  | trainReport
  /-- KEY_GO (R470): FUSE.PROG_CTRL.KEY_GO starts key-hash fuse programming, or is refused. -/
  | keyGo (path : Nat)
  /-- FUSE_PROG_DONE (R470): Fuse programming ends done (KEY_LOCK blown) or failed, and FUSE_PROG is logged. -/
  | fuseProgDone (fails : BitVec 384)
  /-- SEAL_ARM (R471): A write of 0x0000_5EA1 to SEAL_ARM arms the seal for 1 ms. -/
  | sealArm (path : Nat) (value : Word)
  /-- SEAL_GO (R471): An armed SEAL_GO from the same path blows SEAL and closes debug, the raw window and patching. -/
  | sealGo (path : Nat)
  /-- EXTEST (R473): TAP instruction EXTEST, effective only while RESET_N is low. -/
  | extest (pins tdi : Nat)
  /-- IDCODE (R473): TAP instruction IDCODE. -/
  | idcode
  /-- SAMPLE_PRELOAD (R473): TAP instruction SAMPLE/PRELOAD. -/
  | samplePreload (pins tdi : Nat)
  /-- CLAMP (R473): TAP instruction CLAMP, effective only while RESET_N is low. -/
  | clamp
  /-- HIGHZ (R473): TAP instruction HIGHZ, effective only while RESET_N is low. -/
  | highz
  /-- DEBUG_ACCESS (R473): TAP instructions 0x80 to 0x8F give debug access before seal and act as BYPASS after it. -/
  | debugAccess (code : Nat)
  /-- BYPASS (R473): TAP instruction BYPASS and every undefined code. -/
  | bypass (code : Nat)
  /-- TRST_N (R473): TRST_N resets the TAP asynchronously. -/
  | trstN
  /-- AN_DONE (R141): Clause 73 auto-negotiation completes with a common ability: AN_STAT.AN_DONE is set and the
  port leaves NEGOTIATING for TRAINING or alignment. -/
  | anDone (port : Nat)
  /-- SIG_DET (R143): The partner's signal is detected on the lanes of a port in DOWN: LANE_STAT.SIG_DET is set,
  bring-up (training or alignment) begins, and the bring-up times of R143 start. -/
  | sigDet (port : Nat)
  /-- CDR_LOCK_LOST (R149): A lane loses CDR lock: LOCK_LOSSES counts it, LANE.INT_RAW.CDR_LOCK_LOST is set, and the
  DOWN_DEB debounce of R142 starts for a port lane. -/
  | cdrLockLost (lane : Nat)
  /-- PPS_IN_ABSENT (R120): No PPS_IN edge has been accepted for 1.5 s, so PPS_IN counts as absent and
  SYNC_STAT.PPS_OK is cleared. -/
  | ppsInAbsent
  /-- MGMT_LINK (R461): The 1000BASE-X management port link goes up or down, changing MGMT_STAT.LINK_UP, setting
  MGMT.INT_RAW.LINK and logging MGMT_LINK. -/
  | mgmtLink (up an sig remote : Bool)
  deriving DecidableEq, Repr

end Sys2Proof
end

