-- ==== Sys2Proof/Machine/SMap.lean ====
section
/-! DEFINITION. Sparse maps: lists of (key, value) pairs in one canonical form, keys strictly rising and no entry equal
to what an unlisted key reads as, so that equal maps are equal data. Every memory, table and register file of the state
is one. -/

namespace Sys2Proof

/-- A sparse map from natural numbers. -/
abbrev SMap (α : Type) := List (Nat × α)

/-- The value at `k`; an unlisted key reads as `d`. (DESIGN CHOICE, log entry 5) -/
def SMap.get {α : Type} (m : SMap α) (d : α) (k : Nat) : α :=
  match m with
  | [] => d
  | (a, x) :: r => if a = k then x else SMap.get r d k

/-- The map without key `k`. -/
def SMap.del {α : Type} (m : SMap α) (k : Nat) : SMap α := m.filter fun p => p.1 != k

/-- The map with `k ↦ v` put before the first greater key. -/
def SMap.ins {α : Type} (m : SMap α) (k : Nat) (v : α) : SMap α :=
  match m with
  | [] => [(k, v)]
  | (a, x) :: r => if k < a then (k, v) :: (a, x) :: r else (a, x) :: SMap.ins r k v

/-- The map with `k ↦ v`; writing what an unlisted key reads as removes the entry. -/
def SMap.set {α : Type} [DecidableEq α] (m : SMap α) (d : α) (k : Nat) (v : α) : SMap α :=
  if v = d then m.del k else SMap.ins (m.del k) k v

/-- The map with the value at `k` changed by `f`. -/
def SMap.upd {α : Type} [DecidableEq α] (m : SMap α) (d : α) (k : Nat) (f : α → α) : SMap α :=
  m.set d k (f (m.get d k))

/-- The keys rise strictly. -/
def SMap.sorted {α : Type} : SMap α → Bool
  | [] => true
  | [_] => true
  | (a, _) :: (b, y) :: r => a < b && SMap.sorted ((b, y) :: r)

/-- The canonical form: keys strictly rising, no entry equal to what an unlisted key reads as. -/
def SMap.wf {α : Type} [DecidableEq α] (m : SMap α) (d : α) : Bool := m.sorted && m.all fun p => p.2 ≠ d

/-- The first listed key and value. -/
def SMap.first {α : Type} (m : SMap α) : Option (Nat × α) := m.head?

/-- A run of bytes in a byte map, each unlisted byte reading as `d`. -/
def SMap.bytes (m : SMap Byte) (d : Byte) (a n : Nat) : List Byte :=
  match n with
  | 0 => []
  | n + 1 => m.get d a :: SMap.bytes m d (a + 1) n

/-- The byte map with a run of bytes written from `a` upward. -/
def SMap.putBytes (m : SMap Byte) (d : Byte) (a : Nat) (bs : List Byte) : SMap Byte :=
  match bs with
  | [] => m
  | b :: r => SMap.putBytes (m.set d a b) d (a + 1) r

/-- A little-endian number read from bytes (R4). -/
def leNat : List Byte → Nat
  | [] => 0
  | b :: r => b.toNat + 256 * leNat r

/-- A big-endian number read from bytes. -/
def beNat (bs : List Byte) : Nat := leNat bs.reverse

/-- `n` bytes of a number, little-endian (R4). -/
def leBytes (n v : Nat) : List Byte :=
  match n with
  | 0 => []
  | n + 1 => BitVec.ofNat 8 v :: leBytes n (v / 256)

/-- `n` bytes of a number, big-endian. -/
def beBytes (n v : Nat) : List Byte := (leBytes n v).reverse

/-- Bits [hi:lo] of a number. -/
def bitsOf (v lo len : Nat) : Nat := (v >>> lo) % 2 ^ len

/-- Bit `i` of a number. -/
def bitOf (v i : Nat) : Bool := (v >>> i) % 2 = 1

/-- A number with bits [lo+len-1:lo] replaced. -/
def setBits (v lo len x : Nat) : Nat :=
  (v >>> (lo + len)) <<< (lo + len) + (x % 2 ^ len) <<< lo + v % 2 ^ lo

/-- The signed reading of the low `len` bits. -/
def signedOf (v len : Nat) : Int :=
  if v % 2 ^ len < 2 ^ (len - 1) then (v % 2 ^ len : Nat) else (v % 2 ^ len : Nat) - (2 ^ len : Nat)

/-- The low `len` bits of an integer in two's complement. -/
def toBits (len : Nat) (z : Int) : Nat := (z % (2 ^ len : Nat)).toNat

/-- An integer held to a range. -/
def clampInt (lo hi z : Int) : Int := if z < lo then lo else if hi < z then hi else z

end Sys2Proof
end

