-- ==== Sys2Proof/Machine/Crc.lean ====
section
/-! DEFINITION. Cyclic redundancy checks, bit by bit: the Ethernet FCS, CRC-32C (R27, R43) and the general form that the
check-value units compute (R319, R320). -/

namespace Sys2Proof.Machine

/-- `n` shifts of a reflected CRC register, least significant bit first. -/
def crcShiftR (poly : Nat) : Nat → Nat → Nat
  | 0, c => c
  | n + 1, c => crcShiftR poly n (if c % 2 = 1 then (c / 2) ^^^ poly else c / 2)

/-- A byte taken into a reflected CRC register. -/
def crcByteR (poly c : Nat) (b : Byte) : Nat := crcShiftR poly 8 (c ^^^ b.toNat)

/-- A reflected CRC over bytes, from a register value. -/
def crcR (poly init : Nat) (bs : List Byte) : Nat := bs.foldl (crcByteR poly) init

/-- `n` shifts of a CRC register of width `w`, most significant bit first. -/
def crcShiftL (w poly : Nat) : Nat → Nat → Nat
  | 0, c => c
  | n + 1, c => crcShiftL w poly n (if 2 ^ (w - 1) ≤ c then ((c * 2) ^^^ poly) % 2 ^ w else c * 2)

/-- A byte taken into a CRC register of width `w`, 8 or more. -/
def crcByteL (w poly c : Nat) (b : Byte) : Nat := crcShiftL w poly 8 (c ^^^ b.toNat <<< (w - 8))

/-- A CRC of width `w` over bytes, from a register value. -/
def crcL (w poly init : Nat) (bs : List Byte) : Nat := bs.foldl (crcByteL w poly) init

/-- The Ethernet FCS of a frame's bytes. -/
def fcsOf (bs : List Byte) : Nat := crcR 0xEDB88320 0xFFFFFFFF bs ^^^ 0xFFFFFFFF

/-- A frame's bytes followed by their FCS, low byte first. -/
def withFcs (bs : List Byte) : List Byte := bs ++ leBytes 4 (fcsOf bs)

/-- Whether the last four bytes of a received frame are the FCS of the rest. -/
def fcsGood (bs : List Byte) : Bool :=
  decide (4 ≤ bs.length) && leNat (bs.drop (bs.length - 4)) = fcsOf (bs.take (bs.length - 4))

/-- CRC-32C over bytes. -/
def crc32c (bs : List Byte) : Nat := crcR 0x82F63B78 0xFFFFFFFF bs ^^^ 0xFFFFFFFF

end Sys2Proof.Machine
end

