-- ==== Sys2Proof/Config.lean ====
section
/-! DEFINITION. What no rule of the spec gives a value to: free values. Each is an opaque constant, so nothing proved of
the model rests on a value of it. -/

namespace Sys2Proof.Config

/-- The random draw number `n` of the module (R47 to R50, R216, R430): 384 bits, of which each use takes what it needs.
The state's counter `draws` gives each use a draw of its own. -/
opaque rng : Nat → BitVec 384

/-- The value number `n` that the spec leaves open: a result it calls undefined or does not state. The state's counter
`frees` gives each use a value of its own. (DESIGN CHOICE, log entry 8) -/
opaque free : Nat → BitVec 64

/-- The value number `n` of a PERF counter whose events the model does not count: 48 bits, and above them whether it has wrapped. The
state's counter `obs.opens` gives each use a value of its own. (DESIGN CHOICE, log entry 112) -/
opaque perfOpen : Nat → BitVec 64

/-- The keyed hash of the host table (R172), which the spec does not name: bucket of a key under the table's 128-bit key.
(DESIGN CHOICE, log entry 58) -/
opaque hostHash : Nat → Nat → BitVec 15

/-- The bytes over which the flow library runs KHASH, of which the spec names the fields and not the layout: by use (0 the first port
of R294, 1 the ring slot of R297) and fields; KHASH takes 32 at most. (DESIGN CHOICE, log entry 59) -/
opaque libBytes : Nat → List Nat → List (BitVec 8)

/-- What the SYN defence's rewrite takes of an edit list, which the spec does not state: operations and bytes of data, by step of R291,
IP version 6, and bytes of TCP options. (DESIGN CHOICE, log entry 85) -/
opaque synCost : Nat → Bool → Nat → Nat × Nat

/-- Whether test number `n` of a cell that has read uncorrectably finds that it fails (R467, kind 1). (DESIGN CHOICE, log entry 117) -/
opaque cellFails : Nat → Bool

/-- The microword address of the flow library's hit program, which its image fixes (R281).
(DESIGN CHOICE, log entry 59) -/
opaque libHit : BitVec 14

end Sys2Proof.Config
end

