-- ==== Sys2Proof/Machine/Reg.lean ====
section
/-! DEFINITION. What a register is: the descriptor type that the register constants of Machine/RegsA.lean to
RegsC.lean instantiate, its fields, its interrupt bits, and the common page header (R6, R7, R68 to R73). -/

namespace Sys2Proof.Machine

/-- The access types of R7. -/
inductive Acc where
  | rw | ro | wo | w1c | w1s | rc | st
  deriving DecidableEq, Repr

/-- The codes of one field that are not reserved encodings (R6): inclusive ranges of the field's raw value. -/
structure FieldOk where
  lo : Nat
  len : Nat
  codes : List (Nat × Nat)
  deriving DecidableEq, Repr

/-- One row of a register table: page, byte offset, access type (R7), reset value, the bits that are not reserved,
the encodings that are not reserved, array strides with their counts, and whether each access path has its own copy. -/
structure Reg where
  page : Nat
  off : Nat
  acc : Acc
  rst : Nat := 0
  mask : Nat := 0xFFFFFFFF
  ok : List FieldOk := []
  dims : List (Nat × Nat) := []
  perPath : Bool := false
  deriving DecidableEq, Repr

/-- A field of a register. -/
structure Fld where
  reg : Reg
  lo : Nat
  len : Nat
  deriving DecidableEq, Repr

/-- A bit of a page's INT_RAW. -/
structure IntBit where
  page : Nat
  pos : Nat
  deriving DecidableEq, Repr

/-- Element `i` of a register array. -/
def Reg.ix (r : Reg) (i : Nat) : Reg :=
  match r.dims with
  | [] => r
  | (st, _) :: ds => { r with off := r.off + st * i, dims := ds }

/-- Element `i`, `j` of a two-dimensional register array. -/
def Reg.ix2 (r : Reg) (i j : Nat) : Reg := (r.ix i).ix j

/-- The same field of element `i` of a register array. -/
def Fld.ix (f : Fld) (i : Nat) : Fld := { f with reg := f.reg.ix i }

/-- The element of a register array that lies at byte offset `off`, if one does. -/
def Reg.elemAt (r : Reg) (off : Nat) : Option Reg :=
  match r.dims with
  | [] => if off = r.off then some r else none
  | [(s, c)] =>
    if r.off ≤ off ∧ (off - r.off) % s = 0 ∧ (off - r.off) / s < c then some (r.ix ((off - r.off) / s)) else none
  | (s, c) :: (s2, c2) :: _ =>
    let d := off - r.off
    if r.off ≤ off ∧ d / s < c ∧ (d % s) % s2 = 0 ∧ (d % s) / s2 < c2 then some (r.ix2 (d / s) ((d % s) / s2)) else none

/-- The register at an offset, looked up in a page's rows. -/
def findRow (off : Nat) : List Reg → Option Reg
  | [] => none
  | r :: rs => match r.elemAt off with
    | some x => some x
    | none => findRow off rs

/-- Whether the register lies in the channel window (0x040 to 0x3FF), so that SEL selects its channel. -/
def Reg.windowed (r : Reg) : Bool := 0x40 ≤ r.off && r.off < 0x400

/-- The key under which a register's value is kept: page, offset, access path where each has its own copy, channel. -/
def Reg.key (r : Reg) (path ch : Nat) : Nat :=
  ((r.page * 4096 + r.off % 4096) * 2 + (if r.perPath then path % 2 else 0)) * 65536 + (if r.windowed then ch % 65536 else 0)

/-- Whether every field of `w` holds an encoding that is not reserved for it; the fields that do not are left out of
the write (R6). -/
def FieldOk.accepts (f : FieldOk) (w : Nat) : Bool :=
  f.codes.any fun p => p.1 ≤ (w >>> f.lo) % 2 ^ f.len && (w >>> f.lo) % 2 ^ f.len ≤ p.2

/-- The common header values that a page's chapter gives (R70): CAPS, CTRL, INT_EN and SEL_MAX after reset, and the
defined bits of INT_RAW. -/
structure PageHdr where
  caps : Nat
  ctrl : Nat
  intEn : Nat
  selMax : Nat
  intMask : Nat
  deriving DecidableEq, Repr

/-- The pages of R68; any other page number is reserved. -/
def pageHdr : Nat → Option PageHdr
  | 0x00 => some { caps := 0x00000000, ctrl := 1, intEn := 0x0000001A, selMax := 0x00000000, intMask := 0x0000001F }
  | 0x01 => some { caps := 0x00000000, ctrl := 1, intEn := 0x0000040D, selMax := 0x00000000, intMask := 0x00000F3F }
  | 0x02 => some { caps := 0x00000000, ctrl := 1, intEn := 0x000000E3, selMax := 0x00000000, intMask := 0x000000FF }
  | 0x03 => some { caps := 0x80000022, ctrl := 1, intEn := 0x00000005, selMax := 0x00140021, intMask := 0x0000000F }
  | 0x04 => some { caps := 0x80000022, ctrl := 1, intEn := 0x00000000, selMax := 0x00190021, intMask := 0x00000001 }
  | 0x05 => some { caps := 0x00000000, ctrl := 1, intEn := 0x000000DC, selMax := 0x00000000, intMask := 0x000001FF }
  | 0x10 => some { caps := 0x80000024, ctrl := 1, intEn := 0x00000000, selMax := 0x00170023, intMask := 0x00000003 }
  | 0x11 => some { caps := 0xC0000020, ctrl := 1, intEn := 0x0000001D, selMax := 0x0023001F, intMask := 0x0000007F }
  | 0x12 => some { caps := 0x80000020, ctrl := 1, intEn := 0x00000002, selMax := 0x001A001F, intMask := 0x00000003 }
  | 0x20 => some { caps := 0xF0000100, ctrl := 1, intEn := 0x00000002, selMax := 0x00BF00FF, intMask := 0x0000000F }
  | 0x21 => some { caps := 0x40000000, ctrl := 1, intEn := 0x00000001, selMax := 0x00000000, intMask := 0x00000007 }
  | 0x28 => some { caps := 0xC0000022, ctrl := 1, intEn := 0x00000007, selMax := 0x00110021, intMask := 0x0000001F }
  | 0x29 => some { caps := 0x40000000, ctrl := 1, intEn := 0x00000002, selMax := 0x00000000, intMask := 0x00000003 }
  | 0x2A => some { caps := 0xF0000010, ctrl := 1, intEn := 0x00000004, selMax := 0x0027000F, intMask := 0x0000000F }
  | 0x2B => some { caps := 0xB000FFFF, ctrl := 1, intEn := 0x00000002, selMax := 0x0014FFFF, intMask := 0x00000003 }
  | 0x30 => some { caps := 0xD0001000, ctrl := 1, intEn := 0x00000027, selMax := 0x00110FFF, intMask := 0x000000FF }
  | 0x31 => some { caps := 0xC0000008, ctrl := 1, intEn := 0x00000001, selMax := 0x001D0007, intMask := 0x00000003 }
  | 0x32 => some { caps := 0x90000008, ctrl := 1, intEn := 0x00000003, selMax := 0x002E0007, intMask := 0x0000000F }
  | 0x33 => some { caps := 0x90000008, ctrl := 1, intEn := 0x00000002, selMax := 0x00180007, intMask := 0x00000003 }
  | 0x34 => some { caps := 0x80000020, ctrl := 1, intEn := 0x00000006, selMax := 0x0010001F, intMask := 0x00000007 }
  | 0x38 => some { caps := 0x90000008, ctrl := 1, intEn := 0x0000001A, selMax := 0x002F0007, intMask := 0x0000003F }
  | 0x39 => some { caps := 0x80000009, ctrl := 1, intEn := 0x00000001, selMax := 0x00250008, intMask := 0x00000003 }
  | 0x40 => some { caps := 0xD000002A, ctrl := 1, intEn := 0x000000DC, selMax := 0x00330029, intMask := 0x000000FF }
  | 0x41 => some { caps := 0xC0000022, ctrl := 1, intEn := 0x00000003, selMax := 0x00190021, intMask := 0x0000000F }
  | 0x48 => some { caps := 0xC0008000, ctrl := 1, intEn := 0x00000003, selMax := 0x001F7FFF, intMask := 0x00000007 }
  | 0x49 => some { caps := 0xC0009022, ctrl := 1, intEn := 0x00000000, selMax := 0x001B9021, intMask := 0x00000000 }
  | 0x4A => some { caps := 0xC000FFFF, ctrl := 1, intEn := 0x00000000, selMax := 0x001AFFFF, intMask := 0x00000001 }
  | 0x4B => some { caps := 0x80000022, ctrl := 1, intEn := 0x00000006, selMax := 0x00260021, intMask := 0x00000007 }
  | 0x50 => some { caps := 0x90000040, ctrl := 1, intEn := 0x0000006B, selMax := 0x002C003F, intMask := 0x0000007F }
  | 0x51 => some { caps := 0x90000040, ctrl := 1, intEn := 0x0000000E, selMax := 0x0033003F, intMask := 0x0000000F }
  | 0x58 => some { caps := 0x10000000, ctrl := 0, intEn := 0x000003BE, selMax := 0x00000000, intMask := 0x000003FF }
  | 0x60 => some { caps := 0x80001000, ctrl := 1, intEn := 0x00000005, selMax := 0x00140FFF, intMask := 0x0000000F }
  | 0x61 => some { caps := 0x80000022, ctrl := 1, intEn := 0x00000000, selMax := 0x00F70021, intMask := 0x00000000 }
  | 0x62 => some { caps := 0x80000010, ctrl := 1, intEn := 0x00010001, selMax := 0x0018000F, intMask := 0x0001FFFF }
  | 0x68 => some { caps := 0x90000040, ctrl := 1, intEn := 0x0000001A, selMax := 0x001B003F, intMask := 0x0000007F }
  | 0x69 => some { caps := 0x00000000, ctrl := 1, intEn := 0x00000004, selMax := 0x00000000, intMask := 0x0000001F }
  | 0x70 => some { caps := 0x90000009, ctrl := 1, intEn := 0x00000005, selMax := 0x00160008, intMask := 0x00000007 }
  | _ => none

/-- The pages of R68. -/
def pages : List Nat :=
  [0x00, 0x01, 0x02, 0x03, 0x04, 0x05, 0x10, 0x11, 0x12, 0x20, 0x21, 0x28, 0x29, 0x2A, 0x2B, 0x30, 0x31, 0x32, 0x33,
   0x34, 0x38, 0x39, 0x40, 0x41, 0x48, 0x49, 0x4A, 0x4B, 0x50, 0x51, 0x58, 0x60, 0x61, 0x62, 0x68, 0x69, 0x70]

/-- The header of a page, all zero for a reserved page. -/
def hdrOf (p : Nat) : PageHdr := (pageHdr p).getD { caps := 0, ctrl := 0, intEn := 0, selMax := 0, intMask := 0 }

/-- CTRL of page `p`; bit 0 is ENABLE (R70). -/
def CTRL (p : Nat) : Reg := { page := p, off := 0x008, acc := .rw, rst := (hdrOf p).ctrl, mask := 1 }
/-- INT_RAW of page `p` (R70). -/
def INT_RAW (p : Nat) : Reg := { page := p, off := 0x010, acc := .w1c, mask := (hdrOf p).intMask }
/-- INT_EN of page `p` (R70): an enable exists for each defined INT_RAW bit. -/
def INT_EN (p : Nat) : Reg := { page := p, off := 0x014, acc := .rw, rst := (hdrOf p).intEn, mask := (hdrOf p).intMask }
/-- SEL of page `p`, one copy per path (R72). -/
def SEL (p : Nat) : Reg := { page := p, off := 0x020, acc := .rw, mask := 0x8000FFFF, perPath := true }
/-- COMMIT of page `p`: the epoch field is kept here, BUSY is module-wide (R77, R78). -/
def COMMIT (p : Nat) : Reg := { page := p, off := 0x028, acc := .ro, mask := 0x0000FFFF }
/-- ERR_INFO of page `p` (R70, R71). -/
def ERR_INFO (p : Nat) : Reg := { page := p, off := 0x02C, acc := .rc, mask := 0x001FFFFF }
def ERR_INFO_CAUSE (p : Nat) : Fld := ⟨ERR_INFO p, 12, 4⟩
def ERR_INFO_MORE (p : Nat) : Fld := ⟨ERR_INFO p, 17, 4⟩
/-- ERR_STAMP_LO of page `p` (R70). -/
def ERR_STAMP_LO (p : Nat) : Reg := { page := p, off := 0x030, acc := .ro }
/-- ERR_STAMP_HI of page `p` (R70). -/
def ERR_STAMP_HI (p : Nat) : Reg := { page := p, off := 0x034, acc := .ro }
/-- SCRATCH of page `p`, shared by both paths (R70). -/
def SCRATCH (p : Nat) : Reg := { page := p, off := 0x03C, acc := .rw }

end Sys2Proof.Machine
end

