-- ==== Sys2Proof/Machine/RegsA.lean ====
section
/-! DEFINITION. Registers of the shared pages, time, lanes and ports, one constant per row of the spec's register tables:
page, offset, access type, reset value, implemented bits, array strides, and per field the encodings that are not
reserved (R6, R7, R68 to R70). `PAGE.NAME_FIELD` is a field of a register; `PAGE.int_NAME` a bit of the page's INT_RAW. -/

namespace Sys2Proof.Machine

/-! ### Page 0x00, TOP -/

/-- R89 (04_registers). -/
def TOP.BOOT_STATUS : Reg :=
  { page := 0x00, off := 0x400, acc := .ro, mask := 0x000FFFFF }
def TOP.BOOT_STATUS_READY : Fld := ⟨TOP.BOOT_STATUS, 0, 1⟩
def TOP.BOOT_STATUS_CFG_DEFAULTED : Fld := ⟨TOP.BOOT_STATUS, 1, 1⟩
def TOP.BOOT_STATUS_SIG_FAIL : Fld := ⟨TOP.BOOT_STATUS, 2, 1⟩
def TOP.BOOT_STATUS_SIG_UNCHECKED : Fld := ⟨TOP.BOOT_STATUS, 3, 1⟩
def TOP.BOOT_STATUS_RNG_FAIL : Fld := ⟨TOP.BOOT_STATUS, 4, 1⟩
def TOP.BOOT_STATUS_MARCH_FAIL : Fld := ⟨TOP.BOOT_STATUS, 5, 1⟩
def TOP.BOOT_STATUS_TRAIN_STORED : Fld := ⟨TOP.BOOT_STATUS, 6, 1⟩
def TOP.BOOT_STATUS_FLOW_MEM_FAIL : Fld := ⟨TOP.BOOT_STATUS, 7, 1⟩
def TOP.BOOT_STATUS_TRAIN_FULL : Fld := ⟨TOP.BOOT_STATUS, 8, 8⟩
def TOP.BOOT_STATUS_STAGE : Fld := ⟨TOP.BOOT_STATUS, 16, 4⟩

/-- R89 (04_registers). -/
def TOP.COMMIT_STAMP_LO : Reg :=
  { page := 0x00, off := 0x404, acc := .ro }

/-- R89 (04_registers). -/
def TOP.COMMIT_STAMP_HI : Reg :=
  { page := 0x00, off := 0x408, acc := .ro }

/-- R89 (04_registers). -/
def TOP.VIEW : Reg :=
  { page := 0x00, off := 0x410, acc := .rw, mask := 0x00000001, perPath := true }
def TOP.VIEW_SHADOW : Fld := ⟨TOP.VIEW, 0, 1⟩

/-- R89 (04_registers). -/
def TOP.PAUSE_CTRL : Reg :=
  { page := 0x00, off := 0x414, acc := .wo, mask := 0x0000030F }
def TOP.PAUSE_CTRL_MASK : Fld := ⟨TOP.PAUSE_CTRL, 0, 4⟩
def TOP.PAUSE_CTRL_GO : Fld := ⟨TOP.PAUSE_CTRL, 8, 1⟩
def TOP.PAUSE_CTRL_RESUME : Fld := ⟨TOP.PAUSE_CTRL, 9, 1⟩

/-- R89 (04_registers). -/
def TOP.PAUSE_STAT : Reg :=
  { page := 0x00, off := 0x418, acc := .ro, mask := 0xFFFF00FF }
def TOP.PAUSE_STAT_PAUSED : Fld := ⟨TOP.PAUSE_STAT, 0, 4⟩
def TOP.PAUSE_STAT_DRAINING : Fld := ⟨TOP.PAUSE_STAT, 4, 4⟩
def TOP.PAUSE_STAT_LAST_US : Fld := ⟨TOP.PAUSE_STAT, 16, 16⟩

/-- R89 (04_registers). -/
def TOP.PAUSE_LIMIT : Reg :=
  { page := 0x00, off := 0x41C, acc := .rw, rst := 0x000003E8, mask := 0x0000FFFF,
    ok := [⟨0, 16, [(50, 65535)]⟩] }

/-- R89 (04_registers). -/
def TOP.SNAPSHOT : Reg :=
  { page := 0x00, off := 0x420, acc := .wo }

/-- R89 (04_registers). -/
def TOP.INT_SUMMARY0 : Reg :=
  { page := 0x00, off := 0x430, acc := .ro }

/-- R89 (04_registers). -/
def TOP.INT_SUMMARY1 : Reg :=
  { page := 0x00, off := 0x434, acc := .ro }

/-- R89 (04_registers). -/
def TOP.INT_SUMMARY2 : Reg :=
  { page := 0x00, off := 0x438, acc := .ro }

/-- R89 (04_registers). -/
def TOP.INT_SUMMARY3 : Reg :=
  { page := 0x00, off := 0x43C, acc := .ro }

/-- R89 (04_registers). -/
def TOP.ROUTE : Reg :=
  { page := 0x00, off := 0x800, acc := .rw, mask := 0x000000FF, dims := [(4, 128)] }
def TOP.ROUTE_VECTOR : Fld := ⟨TOP.ROUTE, 0, 6⟩
def TOP.ROUTE_MSIX_EN : Fld := ⟨TOP.ROUTE, 6, 1⟩
def TOP.ROUTE_ALERT_EN : Fld := ⟨TOP.ROUTE, 7, 1⟩

/-- The registers of page 0x00 at 0x040 and above (R68). -/
def TOP.rows : List Reg :=
  [TOP.BOOT_STATUS, TOP.COMMIT_STAMP_LO, TOP.COMMIT_STAMP_HI, TOP.VIEW,
   TOP.PAUSE_CTRL, TOP.PAUSE_STAT, TOP.PAUSE_LIMIT, TOP.SNAPSHOT,
   TOP.INT_SUMMARY0, TOP.INT_SUMMARY1, TOP.INT_SUMMARY2, TOP.INT_SUMMARY3,
   TOP.ROUTE]
def TOP.int_COMMIT_DONE : IntBit := ⟨0x00, 0⟩
def TOP.int_COMMIT_REFUSED : IntBit := ⟨0x00, 1⟩
def TOP.int_PAUSE_REACHED : IntBit := ⟨0x00, 2⟩
def TOP.int_PAUSE_EXPIRED : IntBit := ⟨0x00, 3⟩
def TOP.int_PAUSE_REFUSED : IntBit := ⟨0x00, 4⟩

/-! ### Page 0x01, PWRM -/

/-- R35 (02_module). -/
def PWRM.VIN_NOW : Reg :=
  { page := 0x01, off := 0x400, acc := .ro, mask := 0x0001FFFF }
def PWRM.VIN_NOW_VIN : Fld := ⟨PWRM.VIN_NOW, 0, 17⟩

/-- R35 (02_module). -/
def PWRM.VIN_MIN : Reg :=
  { page := 0x01, off := 0x404, acc := .rc, rst := 0x0001FFFF, mask := 0x0001FFFF }

/-- R35 (02_module). -/
def PWRM.PFAIL_CFG : Reg :=
  { page := 0x01, off := 0x408, acc := .rw, rst := 0x00030039, mask := 0x000303FF,
    ok := [⟨0, 10, [(57, 540)]⟩] }
def PWRM.PFAIL_CFG_LEVEL : Fld := ⟨PWRM.PFAIL_CFG, 0, 10⟩
def PWRM.PFAIL_CFG_EXT_EN : Fld := ⟨PWRM.PFAIL_CFG, 16, 1⟩
def PWRM.PFAIL_CFG_RECORD : Fld := ⟨PWRM.PFAIL_CFG, 17, 1⟩

/-- R35 (02_module). -/
def PWRM.SUPPLY_STAT : Reg :=
  { page := 0x01, off := 0x40C, acc := .ro, mask := 0x000000FF }
def PWRM.SUPPLY_STAT_WARN : Fld := ⟨PWRM.SUPPLY_STAT, 0, 1⟩
def PWRM.SUPPLY_STAT_PFAIL_PIN : Fld := ⟨PWRM.SUPPLY_STAT, 1, 1⟩
def PWRM.SUPPLY_STAT_OV : Fld := ⟨PWRM.SUPPLY_STAT, 2, 1⟩
def PWRM.SUPPLY_STAT_RECORDING : Fld := ⟨PWRM.SUPPLY_STAT, 3, 1⟩
def PWRM.SUPPLY_STAT_LAST_CAUSE : Fld := ⟨PWRM.SUPPLY_STAT, 4, 4⟩

/-- R35 (02_module). -/
def PWRM.STRAPS : Reg :=
  { page := 0x01, off := 0x410, acc := .ro, mask := 0x0000001F }
def PWRM.STRAPS_BOOT_SRC : Fld := ⟨PWRM.STRAPS, 0, 1⟩
def PWRM.STRAPS_TANDEM_ID : Fld := ⟨PWRM.STRAPS, 1, 1⟩
def PWRM.STRAPS_SMB_ADDR : Fld := ⟨PWRM.STRAPS, 2, 2⟩
def PWRM.STRAPS_LREF_SEL : Fld := ⟨PWRM.STRAPS, 4, 1⟩

/-- R35 (02_module). -/
def PWRM.TEMP_NOW : Reg :=
  { page := 0x01, off := 0x414, acc := .ro, mask := 0x00FFFFFF }

/-- R35 (02_module). -/
def PWRM.TEMP_CFG : Reg :=
  { page := 0x01, off := 0x418, acc := .rw, rst := 0x00000070, mask := 0x000001FF,
    ok := [⟨0, 8, [(80, 120)]⟩] }
def PWRM.TEMP_CFG_ALARM : Fld := ⟨PWRM.TEMP_CFG, 0, 8⟩
def PWRM.TEMP_CFG_CAP_EN : Fld := ⟨PWRM.TEMP_CFG, 8, 1⟩

/-- R35 (02_module). -/
def PWRM.TEMP_MAX : Reg :=
  { page := 0x01, off := 0x41C, acc := .rc, rst := 0x00008000, mask := 0x0000FFFF }

/-- R67 (03_startup). -/
def PWRM.SLEEP_REQ : Reg :=
  { page := 0x01, off := 0x420, acc := .wo, mask := 0x00000001 }
def PWRM.SLEEP_REQ_GO : Fld := ⟨PWRM.SLEEP_REQ, 0, 1⟩

/-- R67 (03_startup). -/
def PWRM.SLEEP_CFG : Reg :=
  { page := 0x01, off := 0x424, acc := .rw, rst := 0x00270064, mask := 0x003FFFFF,
    ok := [⟨0, 16, [(0, 10000)]⟩] }
def PWRM.SLEEP_CFG_DRAIN_TO : Fld := ⟨PWRM.SLEEP_CFG, 0, 16⟩
def PWRM.SLEEP_CFG_SLEEP_N_EN : Fld := ⟨PWRM.SLEEP_CFG, 16, 1⟩
def PWRM.SLEEP_CFG_WAKE_N_EN : Fld := ⟨PWRM.SLEEP_CFG, 17, 1⟩
def PWRM.SLEEP_CFG_PCIE_WAKE_EN : Fld := ⟨PWRM.SLEEP_CFG, 18, 1⟩
def PWRM.SLEEP_CFG_TIMER_WAKE_EN : Fld := ⟨PWRM.SLEEP_CFG, 19, 1⟩
def PWRM.SLEEP_CFG_SUPPLY_WAKE_EN : Fld := ⟨PWRM.SLEEP_CFG, 20, 1⟩
def PWRM.SLEEP_CFG_WAKE_HOLD : Fld := ⟨PWRM.SLEEP_CFG, 21, 1⟩

/-- R67 (03_startup). -/
def PWRM.SLEEP_STAT : Reg :=
  { page := 0x01, off := 0x428, acc := .ro, mask := 0x000000F7 }
def PWRM.SLEEP_STAT_STATE : Fld := ⟨PWRM.SLEEP_STAT, 0, 3⟩
def PWRM.SLEEP_STAT_LAST_WAKE : Fld := ⟨PWRM.SLEEP_STAT, 4, 3⟩
def PWRM.SLEEP_STAT_HELD : Fld := ⟨PWRM.SLEEP_STAT, 7, 1⟩

/-- R67 (03_startup). -/
def PWRM.WAKE_REQ : Reg :=
  { page := 0x01, off := 0x42C, acc := .wo, mask := 0x00000001 }

/-- R67 (03_startup). -/
def PWRM.WAKE_AT_LO : Reg :=
  { page := 0x01, off := 0x430, acc := .rw }

/-- R67 (03_startup). -/
def PWRM.WAKE_AT_HI : Reg :=
  { page := 0x01, off := 0x434, acc := .rw }

/-- R67 (03_startup). -/
def PWRM.SPORE_DISC_ADM : Reg :=
  { page := 0x01, off := 0x438, acc := .rc }

/-- R67 (03_startup). -/
def PWRM.SPORE_DISC_DRAIN : Reg :=
  { page := 0x01, off := 0x43C, acc := .rc }

/-- R67 (03_startup). -/
def PWRM.SPORE_LEN : Reg :=
  { page := 0x01, off := 0x440, acc := .ro }

/-- R67 (03_startup). -/
def PWRM.ADMIT : Reg :=
  { page := 0x01, off := 0x444, acc := .wo, mask := 0x00000001 }
def PWRM.ADMIT_GO : Fld := ⟨PWRM.ADMIT, 0, 1⟩

/-- The registers of page 0x01 at 0x040 and above (R68). -/
def PWRM.rows : List Reg :=
  [PWRM.VIN_NOW, PWRM.VIN_MIN, PWRM.PFAIL_CFG, PWRM.SUPPLY_STAT,
   PWRM.STRAPS, PWRM.TEMP_NOW, PWRM.TEMP_CFG, PWRM.TEMP_MAX,
   PWRM.SLEEP_REQ, PWRM.SLEEP_CFG, PWRM.SLEEP_STAT, PWRM.WAKE_REQ,
   PWRM.WAKE_AT_LO, PWRM.WAKE_AT_HI, PWRM.SPORE_DISC_ADM, PWRM.SPORE_DISC_DRAIN,
   PWRM.SPORE_LEN, PWRM.ADMIT]
def PWRM.int_VIN_WARN : IntBit := ⟨0x01, 0⟩
def PWRM.int_VIN_WARN_END : IntBit := ⟨0x01, 1⟩
def PWRM.int_OV : IntBit := ⟨0x01, 2⟩
def PWRM.int_THERM_ALARM : IntBit := ⟨0x01, 3⟩
def PWRM.int_THERM_CAP_ACTIVE : IntBit := ⟨0x01, 4⟩
def PWRM.int_RECORD_DONE : IntBit := ⟨0x01, 5⟩
def PWRM.int_WAKE_DONE : IntBit := ⟨0x01, 8⟩
def PWRM.int_SLEEP_REFUSED : IntBit := ⟨0x01, 9⟩
def PWRM.int_DRAIN_TIMEOUT : IntBit := ⟨0x01, 10⟩
def PWRM.int_ACC_IN_SPORE : IntBit := ⟨0x01, 11⟩

/-! ### Page 0x02, CFGL -/

/-- R65 (03_startup). -/
def CFGL.IMG_LEN : Reg :=
  { page := 0x02, off := 0x400, acc := .ro }

/-- R65 (03_startup). -/
def CFGL.IMG_VER : Reg :=
  { page := 0x02, off := 0x404, acc := .ro }

/-- R65 (03_startup). -/
def CFGL.IMG_CRC : Reg :=
  { page := 0x02, off := 0x408, acc := .ro }

/-- R65 (03_startup). -/
def CFGL.HOST_ADDR_LO : Reg :=
  { page := 0x02, off := 0x40C, acc := .rw, mask := 0xFFFFF000 }

/-- R65 (03_startup). -/
def CFGL.HOST_ADDR_HI : Reg :=
  { page := 0x02, off := 0x410, acc := .rw }

/-- R65 (03_startup). -/
def CFGL.HOST_LEN : Reg :=
  { page := 0x02, off := 0x414, acc := .rw,
    ok := [⟨0, 32, [(256, 16777216)]⟩] }

/-- R65 (03_startup). -/
def CFGL.HOST_LOAD : Reg :=
  { page := 0x02, off := 0x418, acc := .wo, mask := 0x00000001 }
def CFGL.HOST_LOAD_GO : Fld := ⟨CFGL.HOST_LOAD, 0, 1⟩

/-- R65 (03_startup). -/
def CFGL.TRAIN_CFG : Reg :=
  { page := 0x02, off := 0x41C, acc := .rw, rst := 0x00000003, mask := 0x00000007 }
def CFGL.TRAIN_CFG_USE_STORED : Fld := ⟨CFGL.TRAIN_CFG, 0, 1⟩
def CFGL.TRAIN_CFG_STORE : Fld := ⟨CFGL.TRAIN_CFG, 1, 1⟩
def CFGL.TRAIN_CFG_HOST_TRAIN : Fld := ⟨CFGL.TRAIN_CFG, 2, 1⟩

/-- R65 (03_startup). -/
def CFGL.TRAIN_DONE : Reg :=
  { page := 0x02, off := 0x420, acc := .wo, mask := 0x00000001 }

/-- R65 (03_startup). -/
def CFGL.APPLY_ERR : Reg :=
  { page := 0x02, off := 0x424, acc := .ro, mask := 0x8000FFFF }
def CFGL.APPLY_ERR_VALID : Fld := ⟨CFGL.APPLY_ERR, 31, 1⟩

/-- R65 (03_startup). -/
def CFGL.PFAIL_LAST_SEQ : Reg :=
  { page := 0x02, off := 0x428, acc := .ro, rst := 0xFFFFFFFF }

/-- R65 (03_startup). -/
def CFGL.PFAIL_LAST_STAMP_LO : Reg :=
  { page := 0x02, off := 0x42C, acc := .ro }

/-- R65 (03_startup). -/
def CFGL.PFAIL_LAST_STAMP_HI : Reg :=
  { page := 0x02, off := 0x430, acc := .ro }

/-- R65 (03_startup). -/
def CFGL.BOOT_MS : Reg :=
  { page := 0x02, off := 0x434, acc := .ro, mask := 0x0000FFFF }

/-- The registers of page 0x02 at 0x040 and above (R68). -/
def CFGL.rows : List Reg :=
  [CFGL.IMG_LEN, CFGL.IMG_VER, CFGL.IMG_CRC, CFGL.HOST_ADDR_LO,
   CFGL.HOST_ADDR_HI, CFGL.HOST_LEN, CFGL.HOST_LOAD, CFGL.TRAIN_CFG,
   CFGL.TRAIN_DONE, CFGL.APPLY_ERR, CFGL.PFAIL_LAST_SEQ, CFGL.PFAIL_LAST_STAMP_LO,
   CFGL.PFAIL_LAST_STAMP_HI, CFGL.BOOT_MS]
def CFGL.int_DEFAULTED : IntBit := ⟨0x02, 0⟩
def CFGL.int_SIG_FAIL : IntBit := ⟨0x02, 1⟩
def CFGL.int_APPLY_ERR : IntBit := ⟨0x02, 2⟩
def CFGL.int_LOAD_REFUSED : IntBit := ⟨0x02, 3⟩
def CFGL.int_READY : IntBit := ⟨0x02, 4⟩
def CFGL.int_RNG_FAIL : IntBit := ⟨0x02, 5⟩
def CFGL.int_MARCH_FAIL : IntBit := ⟨0x02, 6⟩
def CFGL.int_FLOW_MEM_FAIL : IntBit := ⟨0x02, 7⟩

/-! ### Page 0x03, FUSE -/

/-- R474 (23_errors_seal). -/
def FUSE.SRAM_CE : Reg :=
  { page := 0x03, off := 0x040, acc := .rc }

/-- R474 (23_errors_seal). -/
def FUSE.SRAM_UE : Reg :=
  { page := 0x03, off := 0x044, acc := .rc }

/-- R474 (23_errors_seal). -/
def FUSE.SRAM_LAST : Reg :=
  { page := 0x03, off := 0x048, acc := .ro, mask := 0x8FFFFFFF }
def FUSE.SRAM_LAST_VALID : Fld := ⟨FUSE.SRAM_LAST, 31, 1⟩

/-- R474 (23_errors_seal). -/
def FUSE.SRAM_STAMP_LO : Reg :=
  { page := 0x03, off := 0x04C, acc := .ro }

/-- R474 (23_errors_seal). -/
def FUSE.SRAM_STAMP_HI : Reg :=
  { page := 0x03, off := 0x050, acc := .ro }

/-- R475 (23_errors_seal). -/
def FUSE.IDENT0 : Reg :=
  { page := 0x03, off := 0x400, acc := .ro }

/-- R475 (23_errors_seal). -/
def FUSE.IDENT1 : Reg :=
  { page := 0x03, off := 0x404, acc := .ro, mask := 0x0000FFFF }

/-- R475 (23_errors_seal). -/
def FUSE.IDENT2 : Reg :=
  { page := 0x03, off := 0x408, acc := .ro }

/-- R475 (23_errors_seal). -/
def FUSE.IDENT3 : Reg :=
  { page := 0x03, off := 0x40C, acc := .ro }

/-- R475 (23_errors_seal). -/
def FUSE.KEY_HASH : Reg :=
  { page := 0x03, off := 0x410, acc := .ro, dims := [(4, 12)] }

/-- R475 (23_errors_seal). -/
def FUSE.STATE : Reg :=
  { page := 0x03, off := 0x440, acc := .ro, mask := 0x00000007 }
def FUSE.STATE_SEAL : Fld := ⟨FUSE.STATE, 0, 1⟩
def FUSE.STATE_KEY_LOCK : Fld := ⟨FUSE.STATE, 1, 1⟩
def FUSE.STATE_KEY_ZERO : Fld := ⟨FUSE.STATE, 2, 1⟩

/-- R475 (23_errors_seal). -/
def FUSE.PROG_DATA : Reg :=
  { page := 0x03, off := 0x444, acc := .wo, dims := [(4, 12)], perPath := true }

/-- R475 (23_errors_seal). -/
def FUSE.PROG_CTRL : Reg :=
  { page := 0x03, off := 0x474, acc := .wo, mask := 0x00000001 }
def FUSE.PROG_CTRL_KEY_GO : Fld := ⟨FUSE.PROG_CTRL, 0, 1⟩

/-- R475 (23_errors_seal). -/
def FUSE.PROG_STAT : Reg :=
  { page := 0x03, off := 0x478, acc := .ro, mask := 0x0001FF07 }
def FUSE.PROG_STAT_STATE : Fld := ⟨FUSE.PROG_STAT, 0, 2⟩
def FUSE.PROG_STAT_REFUSED : Fld := ⟨FUSE.PROG_STAT, 2, 1⟩

/-- R475 (23_errors_seal). -/
def FUSE.SEAL_ARM : Reg :=
  { page := 0x03, off := 0x47C, acc := .wo }

/-- R475 (23_errors_seal). -/
def FUSE.SEAL_GO : Reg :=
  { page := 0x03, off := 0x480, acc := .wo, mask := 0x00000001 }
def FUSE.SEAL_GO_GO : Fld := ⟨FUSE.SEAL_GO, 0, 1⟩

/-- R475 (23_errors_seal). -/
def FUSE.REC_LOST : Reg :=
  { page := 0x03, off := 0x484, acc := .rc }

/-- R475 (23_errors_seal). -/
def FUSE.TASK_LOST : Reg :=
  { page := 0x03, off := 0x488, acc := .rc }

/-- R475 (23_errors_seal). -/
def FUSE.IDCODE : Reg :=
  { page := 0x03, off := 0x48C, acc := .ro, rst := 0x0323214B }

/-- The registers of page 0x03 at 0x040 and above (R68). -/
def FUSE.rows : List Reg :=
  [FUSE.SRAM_CE, FUSE.SRAM_UE, FUSE.SRAM_LAST, FUSE.SRAM_STAMP_LO,
   FUSE.SRAM_STAMP_HI, FUSE.IDENT0, FUSE.IDENT1, FUSE.IDENT2,
   FUSE.IDENT3, FUSE.KEY_HASH, FUSE.STATE, FUSE.PROG_DATA,
   FUSE.PROG_CTRL, FUSE.PROG_STAT, FUSE.SEAL_ARM, FUSE.SEAL_GO,
   FUSE.REC_LOST, FUSE.TASK_LOST, FUSE.IDCODE]
def FUSE.int_SRAM_UE : IntBit := ⟨0x03, 0⟩
def FUSE.int_PROG_DONE : IntBit := ⟨0x03, 1⟩
def FUSE.int_PROG_FAIL : IntBit := ⟨0x03, 2⟩
def FUSE.int_SEALED : IntBit := ⟨0x03, 3⟩

/-! ### Page 0x04, ISLE -/

/-- R104 (05_islands). -/
def ISLE.PACE_CFG : Reg :=
  { page := 0x04, off := 0x040, acc := .rw, rst := 0x00000038, mask := 0x0000003F }
def ISLE.PACE_CFG_PIN_LEVEL : Fld := ⟨ISLE.PACE_CFG, 0, 2⟩
def ISLE.PACE_CFG_PIN_EN : Fld := ⟨ISLE.PACE_CFG, 2, 1⟩
def ISLE.PACE_CFG_GOV_EN : Fld := ⟨ISLE.PACE_CFG, 3, 1⟩
def ISLE.PACE_CFG_MIN_PACE : Fld := ⟨ISLE.PACE_CFG, 4, 2⟩

/-- R104 (05_islands). -/
def ISLE.GOV_TH : Reg :=
  { page := 0x04, off := 0x044, acc := .rw, rst := 0x00C02080, mask := 0x00FFFFFF }
def ISLE.GOV_TH_UP_TH : Fld := ⟨ISLE.GOV_TH, 0, 8⟩
def ISLE.GOV_TH_DOWN_TH : Fld := ⟨ISLE.GOV_TH, 8, 8⟩
def ISLE.GOV_TH_JUMP_TH : Fld := ⟨ISLE.GOV_TH, 16, 8⟩

/-- R104 (05_islands). -/
def ISLE.GOV_TIME : Reg :=
  { page := 0x04, off := 0x048, acc := .rw, rst := 0x00004010, mask := 0x0000FFFF,
    ok := [⟨0, 8, [(1, 255)]⟩, ⟨8, 8, [(1, 255)]⟩] }
def ISLE.GOV_TIME_WINDOW : Fld := ⟨ISLE.GOV_TIME, 0, 8⟩
def ISLE.GOV_TIME_DWELL : Fld := ⟨ISLE.GOV_TIME, 8, 8⟩

/-- R104 (05_islands). -/
def ISLE.PACE_STAT : Reg :=
  { page := 0x04, off := 0x04C, acc := .ro, mask := 0x0000FF7F }
def ISLE.PACE_STAT_CURRENT : Fld := ⟨ISLE.PACE_STAT, 0, 2⟩
def ISLE.PACE_STAT_TARGET : Fld := ⟨ISLE.PACE_STAT, 2, 2⟩
def ISLE.PACE_STAT_CHANGING : Fld := ⟨ISLE.PACE_STAT, 4, 1⟩
def ISLE.PACE_STAT_CAPPED : Fld := ⟨ISLE.PACE_STAT, 5, 1⟩
def ISLE.PACE_STAT_FLOOR_HELD : Fld := ⟨ISLE.PACE_STAT, 6, 1⟩
def ISLE.PACE_STAT_OCC : Fld := ⟨ISLE.PACE_STAT, 8, 8⟩

/-- R104 (05_islands). -/
def ISLE.PACE_CHANGES : Reg :=
  { page := 0x04, off := 0x050, acc := .ro }

/-- R104 (05_islands). -/
def ISLE.RES_FULL : Reg :=
  { page := 0x04, off := 0x054, acc := .ro }

/-- R104 (05_islands). -/
def ISLE.RES_3Q : Reg :=
  { page := 0x04, off := 0x058, acc := .ro }

/-- R104 (05_islands). -/
def ISLE.RES_HALF : Reg :=
  { page := 0x04, off := 0x05C, acc := .ro }

/-- R104 (05_islands). -/
def ISLE.RES_QTR : Reg :=
  { page := 0x04, off := 0x060, acc := .ro }

/-- R104 (05_islands). -/
def ISLE.INFO : Reg :=
  { page := 0x04, off := 0x064, acc := .ro, mask := 0x000FFFFF }

/-- R105 (05_islands). -/
def ISLE.PIN_ALL : Reg :=
  { page := 0x04, off := 0x400, acc := .wo, mask := 0x00000303 }
def ISLE.PIN_ALL_LEVEL : Fld := ⟨ISLE.PIN_ALL, 0, 2⟩
def ISLE.PIN_ALL_PIN : Fld := ⟨ISLE.PIN_ALL, 8, 1⟩
def ISLE.PIN_ALL_UNPIN : Fld := ⟨ISLE.PIN_ALL, 9, 1⟩

/-- R105 (05_islands). -/
def ISLE.LOG_CFG : Reg :=
  { page := 0x04, off := 0x404, acc := .rw, mask := 0x00000001 }
def ISLE.LOG_CFG_LOG_PACE : Fld := ⟨ISLE.LOG_CFG, 0, 1⟩

/-- The registers of page 0x04 at 0x040 and above (R68). -/
def ISLE.rows : List Reg :=
  [ISLE.PACE_CFG, ISLE.GOV_TH, ISLE.GOV_TIME, ISLE.PACE_STAT,
   ISLE.PACE_CHANGES, ISLE.RES_FULL, ISLE.RES_3Q, ISLE.RES_HALF,
   ISLE.RES_QTR, ISLE.INFO, ISLE.PIN_ALL, ISLE.LOG_CFG]
def ISLE.int_FLOOR_RAISED : IntBit := ⟨0x04, 0⟩

/-! ### Page 0x05, TIME -/

/-- R128 (06_time). -/
def TIME.NOW_NS : Reg :=
  { page := 0x05, off := 0x400, acc := .ro, mask := 0x3FFFFFFF }

/-- R128 (06_time). -/
def TIME.NOW_SEC_LO : Reg :=
  { page := 0x05, off := 0x404, acc := .ro, perPath := true }

/-- R128 (06_time). -/
def TIME.NOW_SEC_HI : Reg :=
  { page := 0x05, off := 0x408, acc := .ro, perPath := true }

/-- R128 (06_time). -/
def TIME.NOW_FRAC : Reg :=
  { page := 0x05, off := 0x40C, acc := .ro, mask := 0x00FFFFFF, perPath := true }

/-- R128 (06_time). -/
def TIME.INC : Reg :=
  { page := 0x05, off := 0x410, acc := .rw, rst := 0x0199999A,
    ok := [⟨0, 32, [(25165824, 28311552)]⟩] }

/-- R128 (06_time). -/
def TIME.INC_EFF : Reg :=
  { page := 0x05, off := 0x414, acc := .ro, rst := 0x0199999A }

/-- R128 (06_time). -/
def TIME.STEP_SEC_LO : Reg :=
  { page := 0x05, off := 0x418, acc := .rw }

/-- R128 (06_time). -/
def TIME.STEP_SEC_HI : Reg :=
  { page := 0x05, off := 0x41C, acc := .rw }

/-- R128 (06_time). -/
def TIME.STEP_NS : Reg :=
  { page := 0x05, off := 0x420, acc := .rw, mask := 0xBFFFFFFF,
    ok := [⟨0, 30, [(0, 999999999)]⟩] }
def TIME.STEP_NS_NEG : Fld := ⟨TIME.STEP_NS, 31, 1⟩

/-- R128 (06_time). -/
def TIME.STEP_CTRL : Reg :=
  { page := 0x05, off := 0x424, acc := .wo, mask := 0x00000003 }
def TIME.STEP_CTRL_ADD : Fld := ⟨TIME.STEP_CTRL, 0, 1⟩
def TIME.STEP_CTRL_SET : Fld := ⟨TIME.STEP_CTRL, 1, 1⟩

/-- R128 (06_time). -/
def TIME.GEN : Reg :=
  { page := 0x05, off := 0x428, acc := .ro, mask := 0x0000FFFF }

/-- R128 (06_time). -/
def TIME.SERVO_CFG : Reg :=
  { page := 0x05, off := 0x42C, acc := .rw, mask := 0x0000000F }
def TIME.SERVO_CFG_SERVO_EN : Fld := ⟨TIME.SERVO_CFG, 0, 1⟩
def TIME.SERVO_CFG_SRC : Fld := ⟨TIME.SERVO_CFG, 1, 1⟩
def TIME.SERVO_CFG_RESTEP_EN : Fld := ⟨TIME.SERVO_CFG, 2, 1⟩
def TIME.SERVO_CFG_REF10M_EN : Fld := ⟨TIME.SERVO_CFG, 3, 1⟩

/-- R128 (06_time). -/
def TIME.GAINS : Reg :=
  { page := 0x05, off := 0x430, acc := .rw, rst := 0x00100080 }
def TIME.GAINS_KP : Fld := ⟨TIME.GAINS, 0, 16⟩
def TIME.GAINS_KI : Fld := ⟨TIME.GAINS, 16, 16⟩

/-- R128 (06_time). -/
def TIME.FREQ_LIM : Reg :=
  { page := 0x05, off := 0x434, acc := .rw, rst := 0x0000C350, mask := 0x000FFFFF,
    ok := [⟨0, 20, [(1, 500000)]⟩] }

/-- R128 (06_time). -/
def TIME.STEP_TH : Reg :=
  { page := 0x05, off := 0x438, acc := .rw, rst := 0x000F4240, mask := 0x3FFFFFFF }

/-- R128 (06_time). -/
def TIME.OFFSET_IN : Reg :=
  { page := 0x05, off := 0x43C, acc := .wo }

/-- R128 (06_time). -/
def TIME.IN_TIMEOUT : Reg :=
  { page := 0x05, off := 0x440, acc := .rw, rst := 0x00000BB8, mask := 0x0000FFFF,
    ok := [⟨0, 16, [(1, 65535)]⟩] }

/-- R128 (06_time). -/
def TIME.LOCK_CFG : Reg :=
  { page := 0x05, off := 0x444, acc := .rw, rst := 0x00040064, mask := 0x00FFFFFF,
    ok := [⟨16, 8, [(1, 255)]⟩] }
def TIME.LOCK_CFG_LOCK_TH : Fld := ⟨TIME.LOCK_CFG, 0, 16⟩
def TIME.LOCK_CFG_LOCK_COUNT : Fld := ⟨TIME.LOCK_CFG, 16, 8⟩

/-- R128 (06_time). -/
def TIME.OFFSET_LAST : Reg :=
  { page := 0x05, off := 0x448, acc := .ro }

/-- R128 (06_time). -/
def TIME.FREQ_NOW : Reg :=
  { page := 0x05, off := 0x44C, acc := .ro }

/-- R128 (06_time). -/
def TIME.INTEGRAL : Reg :=
  { page := 0x05, off := 0x450, acc := .ro }

/-- R128 (06_time). -/
def TIME.SYNC_STAT : Reg :=
  { page := 0x05, off := 0x454, acc := .ro, mask := 0x0000003F }
def TIME.SYNC_STAT_STATE : Fld := ⟨TIME.SYNC_STAT, 0, 2⟩
def TIME.SYNC_STAT_TRACEABLE : Fld := ⟨TIME.SYNC_STAT, 2, 1⟩
def TIME.SYNC_STAT_REF10M_OK : Fld := ⟨TIME.SYNC_STAT, 3, 1⟩
def TIME.SYNC_STAT_PPS_OK : Fld := ⟨TIME.SYNC_STAT, 4, 1⟩
def TIME.SYNC_STAT_HOLDOVER_REF : Fld := ⟨TIME.SYNC_STAT, 5, 1⟩

/-- R128 (06_time). -/
def TIME.PPS_IN_DLY : Reg :=
  { page := 0x05, off := 0x458, acc := .rw,
    ok := [⟨0, 32, [(0, 100000), (4294867296, 4294967295)]⟩] }

/-- R128 (06_time). -/
def TIME.PPS_IN_STAMP_LO : Reg :=
  { page := 0x05, off := 0x45C, acc := .ro }

/-- R128 (06_time). -/
def TIME.PPS_IN_STAMP_HI : Reg :=
  { page := 0x05, off := 0x460, acc := .ro }

/-- R128 (06_time). -/
def TIME.PPS_IN_EXTRA : Reg :=
  { page := 0x05, off := 0x464, acc := .rc }

/-- R128 (06_time). -/
def TIME.PPS_OUT_CFG : Reg :=
  { page := 0x05, off := 0x468, acc := .rw, rst := 0x0186A001, mask := 0x0FFFFF03,
    ok := [⟨8, 20, [(1, 500000)]⟩] }
def TIME.PPS_OUT_CFG_EN : Fld := ⟨TIME.PPS_OUT_CFG, 0, 1⟩
def TIME.PPS_OUT_CFG_GATE : Fld := ⟨TIME.PPS_OUT_CFG, 1, 1⟩
def TIME.PPS_OUT_CFG_WIDTH : Fld := ⟨TIME.PPS_OUT_CFG, 8, 20⟩

/-- R128 (06_time). -/
def TIME.PPS_OUT_DLY : Reg :=
  { page := 0x05, off := 0x46C, acc := .rw,
    ok := [⟨0, 32, [(0, 1000), (4294966296, 4294967295)]⟩] }

/-- R128 (06_time). -/
def TIME.TETHER_SLIPS : Reg :=
  { page := 0x05, off := 0x470, acc := .rc }

/-- R128 (06_time). -/
def TIME.TETHER_LAST : Reg :=
  { page := 0x05, off := 0x474, acc := .ro, mask := 0x0000FFFF }

/-- The registers of page 0x05 at 0x040 and above (R68). -/
def TIME.rows : List Reg :=
  [TIME.NOW_NS, TIME.NOW_SEC_LO, TIME.NOW_SEC_HI, TIME.NOW_FRAC,
   TIME.INC, TIME.INC_EFF, TIME.STEP_SEC_LO, TIME.STEP_SEC_HI,
   TIME.STEP_NS, TIME.STEP_CTRL, TIME.GEN, TIME.SERVO_CFG,
   TIME.GAINS, TIME.FREQ_LIM, TIME.STEP_TH, TIME.OFFSET_IN,
   TIME.IN_TIMEOUT, TIME.LOCK_CFG, TIME.OFFSET_LAST, TIME.FREQ_NOW,
   TIME.INTEGRAL, TIME.SYNC_STAT, TIME.PPS_IN_DLY, TIME.PPS_IN_STAMP_LO,
   TIME.PPS_IN_STAMP_HI, TIME.PPS_IN_EXTRA, TIME.PPS_OUT_CFG, TIME.PPS_OUT_DLY,
   TIME.TETHER_SLIPS, TIME.TETHER_LAST]
def TIME.int_STEPPED : IntBit := ⟨0x05, 0⟩
def TIME.int_LOCKED : IntBit := ⟨0x05, 1⟩
def TIME.int_LOCK_LOST : IntBit := ⟨0x05, 2⟩
def TIME.int_HOLDOVER : IntBit := ⟨0x05, 3⟩
def TIME.int_OFFSET_LARGE : IntBit := ⟨0x05, 4⟩
def TIME.int_PPS_EXTRA : IntBit := ⟨0x05, 5⟩
def TIME.int_REF10M_LOST : IntBit := ⟨0x05, 6⟩
def TIME.int_TETHER_SLIP : IntBit := ⟨0x05, 7⟩
def TIME.int_FREQ_CLAMP : IntBit := ⟨0x05, 8⟩

/-! ### Page 0x10, LANE -/

/-- R149 (07_ports). -/
def LANE.LANE_CFG : Reg :=
  { page := 0x10, off := 0x040, acc := .rw, mask := 0x0000007F,
    ok := [⟨2, 2, [(0, 2)]⟩, ⟨4, 3, [(0, 4)]⟩] }
def LANE.LANE_CFG_TX_INV : Fld := ⟨LANE.LANE_CFG, 0, 1⟩
def LANE.LANE_CFG_RX_INV : Fld := ⟨LANE.LANE_CFG, 1, 1⟩
def LANE.LANE_CFG_LOOPBACK : Fld := ⟨LANE.LANE_CFG, 2, 2⟩
def LANE.LANE_CFG_TEST_RATE : Fld := ⟨LANE.LANE_CFG, 4, 3⟩

/-- R149 (07_ports). -/
def LANE.TX_EQ : Reg :=
  { page := 0x10, off := 0x044, acc := .rw, rst := 0xFC38FC00 }
def LANE.TX_EQ_PRE2 : Fld := ⟨LANE.TX_EQ, 0, 8⟩
def LANE.TX_EQ_PRE1 : Fld := ⟨LANE.TX_EQ, 8, 8⟩
def LANE.TX_EQ_MAIN : Fld := ⟨LANE.TX_EQ, 16, 8⟩
def LANE.TX_EQ_POST1 : Fld := ⟨LANE.TX_EQ, 24, 8⟩

/-- R149 (07_ports). -/
def LANE.RX_EQ_STAT : Reg :=
  { page := 0x10, off := 0x048, acc := .ro, mask := 0x0000FFFF }
def LANE.RX_EQ_STAT_CTLE : Fld := ⟨LANE.RX_EQ_STAT, 0, 8⟩
def LANE.RX_EQ_STAT_SNR : Fld := ⟨LANE.RX_EQ_STAT, 8, 8⟩

/-- R149 (07_ports). -/
def LANE.LANE_STAT : Reg :=
  { page := 0x10, off := 0x04C, acc := .ro, mask := 0x000000FF }
def LANE.LANE_STAT_SIG_DET : Fld := ⟨LANE.LANE_STAT, 0, 1⟩
def LANE.LANE_STAT_CDR_LOCK : Fld := ⟨LANE.LANE_STAT, 1, 1⟩
def LANE.LANE_STAT_ADAPT_DONE : Fld := ⟨LANE.LANE_STAT, 2, 1⟩
def LANE.LANE_STAT_IN_PORT : Fld := ⟨LANE.LANE_STAT, 3, 1⟩
def LANE.LANE_STAT_RATE : Fld := ⟨LANE.LANE_STAT, 4, 3⟩
def LANE.LANE_STAT_TRAINING : Fld := ⟨LANE.LANE_STAT, 7, 1⟩

/-- R149 (07_ports). -/
def LANE.PRBS_CFG : Reg :=
  { page := 0x10, off := 0x050, acc := .rw, mask := 0x0000003F,
    ok := [⟨0, 4, [(0, 7)]⟩] }
def LANE.PRBS_CFG_PATTERN : Fld := ⟨LANE.PRBS_CFG, 0, 4⟩
def LANE.PRBS_CFG_GEN_EN : Fld := ⟨LANE.PRBS_CFG, 4, 1⟩
def LANE.PRBS_CFG_CHK_EN : Fld := ⟨LANE.PRBS_CFG, 5, 1⟩

/-- R149 (07_ports). -/
def LANE.PRBS_ERR : Reg :=
  { page := 0x10, off := 0x054, acc := .rc }

/-- R149 (07_ports). -/
def LANE.LOCK_LOSSES : Reg :=
  { page := 0x10, off := 0x058, acc := .rc }

/-- R149 (07_ports). -/
def LANE.TX_EQ_NOW : Reg :=
  { page := 0x10, off := 0x05C, acc := .ro }

/-- The registers of page 0x10 at 0x040 and above (R68). -/
def LANE.rows : List Reg :=
  [LANE.LANE_CFG, LANE.TX_EQ, LANE.RX_EQ_STAT, LANE.LANE_STAT,
   LANE.PRBS_CFG, LANE.PRBS_ERR, LANE.LOCK_LOSSES, LANE.TX_EQ_NOW]
def LANE.int_CDR_LOCK_LOST : IntBit := ⟨0x10, 0⟩
def LANE.int_ADAPT_FAIL : IntBit := ⟨0x10, 1⟩

/-! ### Page 0x11, PORT -/

/-- R150 (07_ports). -/
def PORT.PORT_CFG : Reg :=
  { page := 0x11, off := 0x040, acc := .rw, mask := 0x000000FF }
def PORT.PORT_CFG_ADMIN_UP : Fld := ⟨PORT.PORT_CFG, 0, 1⟩
def PORT.PORT_CFG_MODE : Fld := ⟨PORT.PORT_CFG, 1, 4⟩
def PORT.PORT_CFG_FEC_OFF : Fld := ⟨PORT.PORT_CFG, 5, 1⟩
def PORT.PORT_CFG_AN_EN : Fld := ⟨PORT.PORT_CFG, 6, 1⟩
def PORT.PORT_CFG_LT_EN : Fld := ⟨PORT.PORT_CFG, 7, 1⟩

/-- R150 (07_ports). -/
def PORT.MAC_CFG : Reg :=
  { page := 0x11, off := 0x044, acc := .st, rst := 0x000005EE, mask := 0x0017FFFF,
    ok := [⟨0, 14, [(1518, 10240)]⟩, ⟨14, 2, [(0, 2)]⟩] }
def PORT.MAC_CFG_MAX_FRAME : Fld := ⟨PORT.MAC_CFG, 0, 14⟩
def PORT.MAC_CFG_FC_MODE : Fld := ⟨PORT.MAC_CFG, 14, 2⟩
def PORT.MAC_CFG_DEF_PRI : Fld := ⟨PORT.MAC_CFG, 16, 3⟩
def PORT.MAC_CFG_CTRL_PASS : Fld := ⟨PORT.MAC_CFG, 20, 1⟩

/-- R150 (07_ports). -/
def PORT.PFC_CFG : Reg :=
  { page := 0x11, off := 0x048, acc := .st, rst := 0xFFFF00FF, mask := 0xFFFF00FF,
    ok := [⟨16, 16, [(1, 65535)]⟩] }
def PORT.PFC_CFG_PFC_EN : Fld := ⟨PORT.PFC_CFG, 0, 8⟩
def PORT.PFC_CFG_XOFF_QUANTA : Fld := ⟨PORT.PFC_CFG, 16, 16⟩

/-- R150 (07_ports). -/
def PORT.LINK_TIMING : Reg :=
  { page := 0x11, off := 0x04C, acc := .rw, rst := 0x000A000A, mask := 0x3FFF03FF,
    ok := [⟨0, 10, [(0, 1000)]⟩, ⟨16, 14, [(0, 10000)]⟩] }
def PORT.LINK_TIMING_DOWN_DEB : Fld := ⟨PORT.LINK_TIMING, 0, 10⟩
def PORT.LINK_TIMING_UP_HOLD : Fld := ⟨PORT.LINK_TIMING, 16, 14⟩

/-- R150 (07_ports). -/
def PORT.FLAP_CFG : Reg :=
  { page := 0x11, off := 0x050, acc := .rw, rst := 0x8F0F140F,
    ok := [⟨0, 8, [(1, 255)]⟩, ⟨24, 7, [(1, 127)]⟩] }
def PORT.FLAP_CFG_HALF_LIFE : Fld := ⟨PORT.FLAP_CFG, 0, 8⟩
def PORT.FLAP_CFG_SUPPRESS : Fld := ⟨PORT.FLAP_CFG, 8, 8⟩
def PORT.FLAP_CFG_REUSE : Fld := ⟨PORT.FLAP_CFG, 16, 8⟩
def PORT.FLAP_CFG_MAX_SUPPRESS : Fld := ⟨PORT.FLAP_CFG, 24, 7⟩
def PORT.FLAP_CFG_DAMP_EN : Fld := ⟨PORT.FLAP_CFG, 31, 1⟩

/-- R150 (07_ports). -/
def PORT.STORM_CFG : Reg :=
  { page := 0x11, off := 0x054, acc := .rw, rst := 0x020C8064, mask := 0x03FFFFFF,
    ok := [⟨0, 12, [(1, 4095)]⟩, ⟨12, 12, [(1, 4095)]⟩] }
def PORT.STORM_CFG_DETECT : Fld := ⟨PORT.STORM_CFG, 0, 12⟩
def PORT.STORM_CFG_RESTORE : Fld := ⟨PORT.STORM_CFG, 12, 12⟩
def PORT.STORM_CFG_ACTION : Fld := ⟨PORT.STORM_CFG, 24, 1⟩
def PORT.STORM_CFG_STORM_EN : Fld := ⟨PORT.STORM_CFG, 25, 1⟩

/-- R150 (07_ports). -/
def PORT.PORT_STAT : Reg :=
  { page := 0x11, off := 0x058, acc := .ro, mask := 0xFFFFFF7F }
def PORT.PORT_STAT_STATE : Fld := ⟨PORT.PORT_STAT, 0, 3⟩
def PORT.PORT_STAT_LOCAL_FAULT : Fld := ⟨PORT.PORT_STAT, 3, 1⟩
def PORT.PORT_STAT_REMOTE_FAULT : Fld := ⟨PORT.PORT_STAT, 4, 1⟩
def PORT.PORT_STAT_HI_BER : Fld := ⟨PORT.PORT_STAT, 5, 1⟩
def PORT.PORT_STAT_ALIGNED : Fld := ⟨PORT.PORT_STAT, 6, 1⟩
def PORT.PORT_STAT_STORM : Fld := ⟨PORT.PORT_STAT, 8, 8⟩
def PORT.PORT_STAT_XOFF_RX : Fld := ⟨PORT.PORT_STAT, 16, 8⟩
def PORT.PORT_STAT_XOFF_TX : Fld := ⟨PORT.PORT_STAT, 24, 8⟩

/-- R150 (07_ports). -/
def PORT.AN_STAT : Reg :=
  { page := 0x11, off := 0x05C, acc := .ro, mask := 0x00000FF7 }
def PORT.AN_STAT_AN_DONE : Fld := ⟨PORT.AN_STAT, 0, 1⟩
def PORT.AN_STAT_NO_COMMON : Fld := ⟨PORT.AN_STAT, 1, 1⟩
def PORT.AN_STAT_LT_FAIL : Fld := ⟨PORT.AN_STAT, 2, 1⟩

/-- R150 (07_ports). -/
def PORT.FLAP_PENALTY : Reg :=
  { page := 0x11, off := 0x060, acc := .ro, mask := 0x0001FFFF }
def PORT.FLAP_PENALTY_SUPPRESSED : Fld := ⟨PORT.FLAP_PENALTY, 16, 1⟩

/-- R150 (07_ports). -/
def PORT.PAUSE_IGN_DISC : Reg :=
  { page := 0x11, off := 0x064, acc := .rc }

/-- R150 (07_ports). -/
def PORT.CTRL_BAD : Reg :=
  { page := 0x11, off := 0x068, acc := .rc }

/-- R150 (07_ports). -/
def PORT.LINK_DOWNS : Reg :=
  { page := 0x11, off := 0x06C, acc := .rc }

/-- R150 (07_ports). -/
def PORT.STORMS : Reg :=
  { page := 0x11, off := 0x070, acc := .rc }

/-- R150 (07_ports). -/
def PORT.FEC_CORR_CW : Reg :=
  { page := 0x11, off := 0x074, acc := .rc }

/-- R150 (07_ports). -/
def PORT.FEC_UNCORR_CW : Reg :=
  { page := 0x11, off := 0x078, acc := .rc }

/-- R150 (07_ports). -/
def PORT.DOWN_STAMP_LO : Reg :=
  { page := 0x11, off := 0x07C, acc := .ro }

/-- R150 (07_ports). -/
def PORT.DOWN_STAMP_HI : Reg :=
  { page := 0x11, off := 0x080, acc := .ro }

/-- R150 (07_ports). -/
def PORT.UP_STAMP_LO : Reg :=
  { page := 0x11, off := 0x084, acc := .ro }

/-- R150 (07_ports). -/
def PORT.UP_STAMP_HI : Reg :=
  { page := 0x11, off := 0x088, acc := .ro }

/-- R150 (07_ports). -/
def PORT.AN_RESTART : Reg :=
  { page := 0x11, off := 0x08C, acc := .wo, mask := 0x00000001 }

/-- R477 (07_ports). -/
def PORT.CTRL_SA_LO : Reg :=
  { page := 0x11, off := 0x400, acc := .rw }

/-- R477 (07_ports). -/
def PORT.CTRL_SA_HI : Reg :=
  { page := 0x11, off := 0x404, acc := .rw, mask := 0x0000FFFF }

/-- The registers of page 0x11 at 0x040 and above (R68). -/
def PORT.rows : List Reg :=
  [PORT.PORT_CFG, PORT.MAC_CFG, PORT.PFC_CFG, PORT.LINK_TIMING,
   PORT.FLAP_CFG, PORT.STORM_CFG, PORT.PORT_STAT, PORT.AN_STAT,
   PORT.FLAP_PENALTY, PORT.PAUSE_IGN_DISC, PORT.CTRL_BAD, PORT.LINK_DOWNS,
   PORT.STORMS, PORT.FEC_CORR_CW, PORT.FEC_UNCORR_CW, PORT.DOWN_STAMP_LO,
   PORT.DOWN_STAMP_HI, PORT.UP_STAMP_LO, PORT.UP_STAMP_HI, PORT.AN_RESTART,
   PORT.CTRL_SA_LO, PORT.CTRL_SA_HI]
def PORT.int_LINK_DOWN : IntBit := ⟨0x11, 0⟩
def PORT.int_LINK_UP : IntBit := ⟨0x11, 1⟩
def PORT.int_SUPPRESS : IntBit := ⟨0x11, 2⟩
def PORT.int_STORM : IntBit := ⟨0x11, 3⟩
def PORT.int_PAUSE_IGNORED : IntBit := ⟨0x11, 4⟩
def PORT.int_AN_FAIL : IntBit := ⟨0x11, 5⟩
def PORT.int_HI_BER : IntBit := ⟨0x11, 6⟩

/-! ### Page 0x12, PTPS -/

/-- R129 (06_time). -/
def PTPS.PTP_CFG : Reg :=
  { page := 0x12, off := 0x040, acc := .rw, rst := 0x00000071, mask := 0x00000077 }
def PTPS.PTP_CFG_RX_TS : Fld := ⟨PTPS.PTP_CFG, 0, 1⟩
def PTPS.PTP_CFG_ONE_STEP : Fld := ⟨PTPS.PTP_CFG, 1, 1⟩
def PTPS.PTP_CFG_TC_EN : Fld := ⟨PTPS.PTP_CFG, 2, 1⟩
def PTPS.PTP_CFG_L2 : Fld := ⟨PTPS.PTP_CFG, 4, 1⟩
def PTPS.PTP_CFG_UDP4 : Fld := ⟨PTPS.PTP_CFG, 5, 1⟩
def PTPS.PTP_CFG_UDP6 : Fld := ⟨PTPS.PTP_CFG, 6, 1⟩

/-- R129 (06_time). -/
def PTPS.CORR_ADJ_RX : Reg :=
  { page := 0x12, off := 0x044, acc := .rw }

/-- R129 (06_time). -/
def PTPS.CORR_ADJ_TX : Reg :=
  { page := 0x12, off := 0x048, acc := .rw }

/-- R129 (06_time). -/
def PTPS.CORR_RX : Reg :=
  { page := 0x12, off := 0x04C, acc := .ro, mask := 0x0000FFFF }

/-- R129 (06_time). -/
def PTPS.CORR_TX : Reg :=
  { page := 0x12, off := 0x050, acc := .ro, mask := 0x0000FFFF }

/-- R129 (06_time). -/
def PTPS.TXTS_TAG : Reg :=
  { page := 0x12, off := 0x054, acc := .ro, mask := 0x8000FFFF }
def PTPS.TXTS_TAG_VALID : Fld := ⟨PTPS.TXTS_TAG, 31, 1⟩

/-- R129 (06_time). -/
def PTPS.TXTS_STAMP_LO : Reg :=
  { page := 0x12, off := 0x058, acc := .ro, perPath := true }

/-- R129 (06_time). -/
def PTPS.TXTS_STAMP_HI : Reg :=
  { page := 0x12, off := 0x05C, acc := .ro, perPath := true }

/-- R129 (06_time). -/
def PTPS.TXTS_OVF : Reg :=
  { page := 0x12, off := 0x060, acc := .rc }

/-- R129 (06_time). -/
def PTPS.ONE_STEP_CNT : Reg :=
  { page := 0x12, off := 0x064, acc := .ro }

/-- R129 (06_time). -/
def PTPS.TC_CNT : Reg :=
  { page := 0x12, off := 0x068, acc := .ro }

/-- The registers of page 0x12 at 0x040 and above (R68). -/
def PTPS.rows : List Reg :=
  [PTPS.PTP_CFG, PTPS.CORR_ADJ_RX, PTPS.CORR_ADJ_TX, PTPS.CORR_RX,
   PTPS.CORR_TX, PTPS.TXTS_TAG, PTPS.TXTS_STAMP_LO, PTPS.TXTS_STAMP_HI,
   PTPS.TXTS_OVF, PTPS.ONE_STEP_CNT, PTPS.TC_CNT]
def PTPS.int_TXTS_READY : IntBit := ⟨0x12, 0⟩
def PTPS.int_TXTS_OVF : IntBit := ⟨0x12, 1⟩

end Sys2Proof.Machine
end

