-- ==== Sys2Proof/Machine/RegsB.lean ====
section
/-! DEFINITION. Registers of the pipelines, the flow table, the fronds, one constant per row of the spec's register tables:
page, offset, access type, reset value, implemented bits, array strides, and per field the encodings that are not
reserved (R6, R7, R68 to R70). `PAGE.NAME_FIELD` is a field of a register; `PAGE.int_NAME` a bit of the page's INT_RAW. -/

namespace Sys2Proof.Machine

/-! ### Page 0x20, PARS -/

/-- R170 (08_parser). -/
def PARS.NODE_SEL : Reg :=
  { page := 0x20, off := 0x040, acc := .rw, mask := 0xFFFF01FF }
def PARS.NODE_SEL_OFFSET : Fld := ⟨PARS.NODE_SEL, 0, 8⟩
def PARS.NODE_SEL_WIDTH : Fld := ⟨PARS.NODE_SEL, 8, 1⟩
def PARS.NODE_SEL_MASK : Fld := ⟨PARS.NODE_SEL, 16, 16⟩

/-- R170 (08_parser). -/
def PARS.NODE_ADV : Reg :=
  { page := 0x20, off := 0x044, acc := .rw, mask := 0x1FFFFFFF,
    ok := [⟨24, 4, [(0, 7), (12, 15)]⟩] }
def PARS.NODE_ADV_ADV_BASE : Fld := ⟨PARS.NODE_ADV, 0, 8⟩
def PARS.NODE_ADV_LEN_OFF : Fld := ⟨PARS.NODE_ADV, 8, 8⟩
def PARS.NODE_ADV_LEN_MASK : Fld := ⟨PARS.NODE_ADV, 16, 8⟩
def PARS.NODE_ADV_LEN_SHIFT : Fld := ⟨PARS.NODE_ADV, 24, 4⟩
def PARS.NODE_ADV_LEN_EN : Fld := ⟨PARS.NODE_ADV, 28, 1⟩

/-- R170 (08_parser). -/
def PARS.NODE_CTRL : Reg :=
  { page := 0x20, off := 0x048, acc := .rw, rst := 0x00000100, mask := 0x00F73FFF }
def PARS.NODE_CTRL_DEF_NEXT : Fld := ⟨PARS.NODE_CTRL, 0, 8⟩
def PARS.NODE_CTRL_DEF_ACT : Fld := ⟨PARS.NODE_CTRL, 8, 2⟩
def PARS.NODE_CTRL_TAG : Fld := ⟨PARS.NODE_CTRL, 10, 1⟩
def PARS.NODE_CTRL_TUNNEL : Fld := ⟨PARS.NODE_CTRL, 11, 1⟩
def PARS.NODE_CTRL_FRAG4 : Fld := ⟨PARS.NODE_CTRL, 12, 1⟩
def PARS.NODE_CTRL_FRAG6 : Fld := ⟨PARS.NODE_CTRL, 13, 1⟩
def PARS.NODE_CTRL_LAYER_O : Fld := ⟨PARS.NODE_CTRL, 16, 3⟩
def PARS.NODE_CTRL_LAYER_I : Fld := ⟨PARS.NODE_CTRL, 20, 3⟩
def PARS.NODE_CTRL_LAYER_EN : Fld := ⟨PARS.NODE_CTRL, 23, 1⟩

/-- R170 (08_parser). -/
def PARS.EXT : Reg :=
  { page := 0x20, off := 0x04C, acc := .rw, mask := 0x073F1FFF, dims := [(4, 4)],
    ok := [⟨8, 5, [(0, 16)]⟩, ⟨24, 3, [(0, 3), (7, 7)]⟩] }
def PARS.EXT_SRC_OFF : Fld := ⟨PARS.EXT, 0, 8⟩
def PARS.EXT_LEN : Fld := ⟨PARS.EXT, 8, 5⟩
def PARS.EXT_DST : Fld := ⟨PARS.EXT, 16, 6⟩
def PARS.EXT_LVL : Fld := ⟨PARS.EXT, 24, 3⟩

/-- R170 (08_parser). -/
def PARS.TRANS_V : Reg :=
  { page := 0x20, off := 0x100, acc := .rw, dims := [(8, 64)] }
def PARS.TRANS_V_VALUE : Fld := ⟨PARS.TRANS_V, 0, 16⟩
def PARS.TRANS_V_MASK : Fld := ⟨PARS.TRANS_V, 16, 16⟩

/-- R170 (08_parser). -/
def PARS.TRANS_A : Reg :=
  { page := 0x20, off := 0x104, acc := .rw, mask := 0x000007FF, dims := [(8, 64)] }
def PARS.TRANS_A_NEXT : Fld := ⟨PARS.TRANS_A, 0, 8⟩
def PARS.TRANS_A_ACT : Fld := ⟨PARS.TRANS_A, 8, 2⟩
def PARS.TRANS_A_VALID : Fld := ⟨PARS.TRANS_A, 10, 1⟩

/-- R170 (08_parser). -/
def PARS.WR_MASK : Reg :=
  { page := 0x20, off := 0x400, acc := .rw, rst := 0x0000000F, mask := 0x0000000F }

/-- R170 (08_parser). -/
def PARS.RD_PIPE : Reg :=
  { page := 0x20, off := 0x404, acc := .rw, mask := 0x00000003 }

/-- R170 (08_parser). -/
def PARS.START : Reg :=
  { page := 0x20, off := 0x408, acc := .rw, rst := 0x00800000, mask := 0x01FF00FF,
    ok := [{ lo := 16, len := 9, codes := [(64, 256)] }] }
def PARS.START_NODE : Fld := ⟨PARS.START, 0, 8⟩
def PARS.START_DEPTH : Fld := ⟨PARS.START, 16, 9⟩

/-- R170 (08_parser). -/
def PARS.LIMIT_ACT : Reg :=
  { page := 0x20, off := 0x40C, acc := .st, rst := 0x00000094, mask := 0x000003FF,
    ok := [⟨0, 2, [(0, 2)]⟩, ⟨2, 2, [(0, 2)]⟩, ⟨4, 2, [(0, 2)]⟩, ⟨6, 2, [(0, 2)]⟩, ⟨8, 2, [(0, 2)]⟩] }
def PARS.LIMIT_ACT_DEPTH : Fld := ⟨PARS.LIMIT_ACT, 0, 2⟩
def PARS.LIMIT_ACT_TAGS : Fld := ⟨PARS.LIMIT_ACT, 2, 2⟩
def PARS.LIMIT_ACT_TUNNELS : Fld := ⟨PARS.LIMIT_ACT, 4, 2⟩
def PARS.LIMIT_ACT_NODES : Fld := ⟨PARS.LIMIT_ACT, 6, 2⟩
def PARS.LIMIT_ACT_SHORT : Fld := ⟨PARS.LIMIT_ACT, 8, 2⟩

/-- R170 (08_parser). -/
def PARS.GRAPH_ADDR_LO : Reg :=
  { page := 0x20, off := 0x410, acc := .rw, mask := 0xFFFFFFC0 }

/-- R170 (08_parser). -/
def PARS.GRAPH_ADDR_HI : Reg :=
  { page := 0x20, off := 0x414, acc := .rw }

/-- R170 (08_parser). -/
def PARS.GRAPH_NODES : Reg :=
  { page := 0x20, off := 0x418, acc := .rw, rst := 0x00010000, mask := 0x0001FFFF,
    ok := [⟨8, 9, [(1, 256)]⟩] }
def PARS.GRAPH_NODES_FIRST : Fld := ⟨PARS.GRAPH_NODES, 0, 8⟩
def PARS.GRAPH_NODES_COUNT : Fld := ⟨PARS.GRAPH_NODES, 8, 9⟩

/-- R170 (08_parser). -/
def PARS.GRAPH_CTRL : Reg :=
  { page := 0x20, off := 0x41C, acc := .wo, mask := 0x0000000F }
def PARS.GRAPH_CTRL_GO : Fld := ⟨PARS.GRAPH_CTRL, 0, 1⟩
def PARS.GRAPH_CTRL_ARM : Fld := ⟨PARS.GRAPH_CTRL, 1, 1⟩
def PARS.GRAPH_CTRL_AUTO_RESUME : Fld := ⟨PARS.GRAPH_CTRL, 2, 1⟩
def PARS.GRAPH_CTRL_ABORT : Fld := ⟨PARS.GRAPH_CTRL, 3, 1⟩

/-- R170 (08_parser). -/
def PARS.GRAPH_STAT : Reg :=
  { page := 0x20, off := 0x420, acc := .ro }

/-- R170 (08_parser). -/
def PARS.EXC_CNT : Reg :=
  { page := 0x20, off := 0x440, acc := .rc, dims := [(32, 4), (4, 8)] }

/-- R170 (08_parser). -/
def PARS.EDIT_DISC : Reg :=
  { page := 0x20, off := 0x4C0, acc := .rc, dims := [(4, 4)] }

/-- The registers of page 0x20 at 0x040 and above (R68). -/
def PARS.rows : List Reg :=
  [PARS.NODE_SEL, PARS.NODE_ADV, PARS.NODE_CTRL, PARS.EXT,
   PARS.TRANS_V, PARS.TRANS_A, PARS.WR_MASK, PARS.RD_PIPE,
   PARS.START, PARS.LIMIT_ACT, PARS.GRAPH_ADDR_LO, PARS.GRAPH_ADDR_HI,
   PARS.GRAPH_NODES, PARS.GRAPH_CTRL, PARS.GRAPH_STAT, PARS.EXC_CNT,
   PARS.EDIT_DISC]
def PARS.int_GRAPH_DONE : IntBit := ⟨0x20, 0⟩
def PARS.int_GRAPH_FAIL : IntBit := ⟨0x20, 1⟩
def PARS.int_LIMIT : IntBit := ⟨0x20, 2⟩
def PARS.int_EDIT_DISC : IntBit := ⟨0x20, 3⟩

/-! ### Page 0x21, FRAG -/

/-- R171 (08_parser). -/
def FRAG.FRAG_CFG : Reg :=
  { page := 0x21, off := 0x400, acc := .st, rst := 0x00342064, mask := 0x003FF7FF,
    ok := [⟨0, 10, [(1, 1000)]⟩, ⟨16, 6, [(0, 60)]⟩] }
def FRAG.FRAG_CFG_WAIT_US : Fld := ⟨FRAG.FRAG_CFG, 0, 10⟩
def FRAG.FRAG_CFG_DEFAULT : Fld := ⟨FRAG.FRAG_CFG, 10, 1⟩
def FRAG.FRAG_CFG_TINY_OFF : Fld := ⟨FRAG.FRAG_CFG, 12, 4⟩
def FRAG.FRAG_CFG_PORT_DST : Fld := ⟨FRAG.FRAG_CFG, 16, 6⟩

/-- R171 (08_parser). -/
def FRAG.FRAG_AGE : Reg :=
  { page := 0x21, off := 0x404, acc := .st, rst := 0x000A07D0, mask := 0x03FFFFFF,
    ok := [⟨0, 16, [(1, 65535)]⟩, ⟨16, 10, [(0, 1000)]⟩] }
def FRAG.FRAG_AGE_AGE : Fld := ⟨FRAG.FRAG_AGE, 0, 16⟩
def FRAG.FRAG_AGE_LINGER : Fld := ⟨FRAG.FRAG_AGE, 16, 10⟩

/-- R171 (08_parser). -/
def FRAG.OCC : Reg :=
  { page := 0x21, off := 0x410, acc := .ro, mask := 0x07FF3FFF, dims := [(4, 4)] }

/-- R171 (08_parser). -/
def FRAG.CNT : Reg :=
  { page := 0x21, off := 0x440, acc := .rc, dims := [(64, 4), (4, 16)] }

/-- The registers of page 0x21 at 0x040 and above (R68). -/
def FRAG.rows : List Reg :=
  [FRAG.FRAG_CFG, FRAG.FRAG_AGE, FRAG.OCC, FRAG.CNT]
def FRAG.int_WAIT_FULL : IntBit := ⟨0x21, 0⟩
def FRAG.int_EVICT : IntBit := ⟨0x21, 1⟩
def FRAG.int_TINY : IntBit := ⟨0x21, 2⟩

/-! ### Page 0x28, FWDT -/

/-- R189 (09_forwarding). -/
def FWDT.PORT_FWD : Reg :=
  { page := 0x28, off := 0x040, acc := .st, rst := 0x00004001, mask := 0x00007FFF,
    ok := [⟨12, 2, [(0, 2)]⟩] }
def FWDT.PORT_FWD_PVID : Fld := ⟨FWDT.PORT_FWD, 0, 12⟩
def FWDT.PORT_FWD_DOM_SRC : Fld := ⟨FWDT.PORT_FWD, 12, 2⟩
def FWDT.PORT_FWD_LEARN_EN : Fld := ⟨FWDT.PORT_FWD, 14, 1⟩

/-- R189 (09_forwarding). -/
def FWDT.PORT_LEARNS : Reg :=
  { page := 0x28, off := 0x044, acc := .rc }

/-- R190 (09_forwarding). -/
def FWDT.KEY_CFG : Reg :=
  { page := 0x28, off := 0x400, acc := .st, rst := 0x00000010, mask := 0x00000077 }
def FWDT.KEY_CFG_L2 : Fld := ⟨FWDT.KEY_CFG, 0, 3⟩
def FWDT.KEY_CFG_L3 : Fld := ⟨FWDT.KEY_CFG, 4, 3⟩

/-- R190 (09_forwarding). -/
def FWDT.LEARN_CFG : Reg :=
  { page := 0x28, off := 0x404, acc := .st, rst := 0x0010A12C, mask := 0x003FFFFF,
    ok := [⟨0, 11, [(10, 2000)]⟩, ⟨12, 8, [(4, 255)]⟩] }
def FWDT.LEARN_CFG_AGE_TIME : Fld := ⟨FWDT.LEARN_CFG, 0, 11⟩
def FWDT.LEARN_CFG_EVICT : Fld := ⟨FWDT.LEARN_CFG, 11, 1⟩
def FWDT.LEARN_CFG_LEARN_WIN : Fld := ⟨FWDT.LEARN_CFG, 12, 8⟩
def FWDT.LEARN_CFG_LOG_LEARN : Fld := ⟨FWDT.LEARN_CFG, 20, 1⟩
def FWDT.LEARN_CFG_LOG_AGE : Fld := ⟨FWDT.LEARN_CFG, 21, 1⟩

/-- R190 (09_forwarding). -/
def FWDT.STORM_CFG : Reg :=
  { page := 0x28, off := 0x408, acc := .st, rst := 0x006403E8, mask := 0x07FFFFFF,
    ok := [⟨0, 16, [(1, 65535)]⟩, ⟨16, 10, [(1, 1000)]⟩] }
def FWDT.STORM_CFG_STORM_MAX : Fld := ⟨FWDT.STORM_CFG, 0, 16⟩
def FWDT.STORM_CFG_STORM_WIN : Fld := ⟨FWDT.STORM_CFG, 16, 10⟩
def FWDT.STORM_CFG_STORM_ACT : Fld := ⟨FWDT.STORM_CFG, 26, 1⟩

/-- R190 (09_forwarding). -/
def FWDT.HT_STAT : Reg :=
  { page := 0x28, off := 0x40C, acc := .ro, mask := 0x000000F1 }
def FWDT.HT_STAT_HASH_WEAK : Fld := ⟨FWDT.HT_STAT, 0, 1⟩
def FWDT.HT_STAT_STORM : Fld := ⟨FWDT.HT_STAT, 4, 4⟩

/-- R190 (09_forwarding). -/
def FWDT.CMD_KEY : Reg :=
  { page := 0x28, off := 0x410, acc := .rw, dims := [(4, 4)] }

/-- R190 (09_forwarding). -/
def FWDT.CMD_ENTRY : Reg :=
  { page := 0x28, off := 0x420, acc := .rw, mask := 0x0007FFFF, ok := [⟨12, 3, [(1, 3)]⟩, ⟨16, 2, [(0, 2)]⟩] }
def FWDT.CMD_ENTRY_DOMAIN : Fld := ⟨FWDT.CMD_ENTRY, 0, 12⟩
def FWDT.CMD_ENTRY_TYPE : Fld := ⟨FWDT.CMD_ENTRY, 12, 3⟩
def FWDT.CMD_ENTRY_STATIC : Fld := ⟨FWDT.CMD_ENTRY, 15, 1⟩
def FWDT.CMD_ENTRY_ACT : Fld := ⟨FWDT.CMD_ENTRY, 16, 2⟩
def FWDT.CMD_ENTRY_LOCK : Fld := ⟨FWDT.CMD_ENTRY, 18, 1⟩

/-- R190 (09_forwarding). -/
def FWDT.CMD_RESULT : Reg :=
  { page := 0x28, off := 0x424, acc := .rw, mask := 0x0000FFFF }
def FWDT.CMD_RESULT_RESULT : Fld := ⟨FWDT.CMD_RESULT, 0, 16⟩

/-- R190 (09_forwarding). -/
def FWDT.CMD : Reg :=
  { page := 0x28, off := 0x428, acc := .wo, mask := 0x000001F3 }
def FWDT.CMD_OP : Fld := ⟨FWDT.CMD, 0, 2⟩
def FWDT.CMD_PIPE_MASK : Fld := ⟨FWDT.CMD, 4, 4⟩
def FWDT.CMD_GO : Fld := ⟨FWDT.CMD, 8, 1⟩

/-- R190 (09_forwarding). -/
def FWDT.CMD_STAT : Reg :=
  { page := 0x28, off := 0x42C, acc := .ro, mask := 0x03FFFFFF }
def FWDT.CMD_STAT_BUSY : Fld := ⟨FWDT.CMD_STAT, 0, 1⟩
def FWDT.CMD_STAT_CODE : Fld := ⟨FWDT.CMD_STAT, 1, 3⟩
def FWDT.CMD_STAT_INDEX : Fld := ⟨FWDT.CMD_STAT, 8, 18⟩

/-- R190 (09_forwarding). -/
def FWDT.WIN_MASK : Reg :=
  { page := 0x28, off := 0x430, acc := .rw, rst := 0x0000000F, mask := 0x0000003F }
def FWDT.WIN_MASK_WIN_PIPE : Fld := ⟨FWDT.WIN_MASK, 4, 2⟩

/-- R190 (09_forwarding). -/
def FWDT.RMAC_LO : Reg :=
  { page := 0x28, off := 0x440, acc := .st, dims := [(8, 16)] }

/-- R190 (09_forwarding). -/
def FWDT.RMAC_HI : Reg :=
  { page := 0x28, off := 0x444, acc := .st, mask := 0x0001FFFF, dims := [(8, 16)] }
def FWDT.RMAC_HI_VALID : Fld := ⟨FWDT.RMAC_HI, 16, 1⟩

/-- R190 (09_forwarding). -/
def FWDT.CNT : Reg :=
  { page := 0x28, off := 0x500, acc := .rc, dims := [(64, 4), (4, 16)] }

/-- R190 (09_forwarding). -/
def FWDT.OCC : Reg :=
  { page := 0x28, off := 0x600, acc := .ro, mask := 0x0007FFFF, dims := [(4, 4)] }

/-- The registers of page 0x28 at 0x040 and above (R68). -/
def FWDT.rows : List Reg :=
  [FWDT.PORT_FWD, FWDT.PORT_LEARNS, FWDT.KEY_CFG, FWDT.LEARN_CFG,
   FWDT.STORM_CFG, FWDT.HT_STAT, FWDT.CMD_KEY, FWDT.CMD_ENTRY,
   FWDT.CMD_RESULT, FWDT.CMD, FWDT.CMD_STAT, FWDT.WIN_MASK,
   FWDT.RMAC_LO, FWDT.RMAC_HI, FWDT.CNT, FWDT.OCC]
def FWDT.int_MOVE_STORM : IntBit := ⟨0x28, 0⟩
def FWDT.int_LEARN_FULL : IntBit := ⟨0x28, 1⟩
def FWDT.int_STATIC_MOVE : IntBit := ⟨0x28, 2⟩
def FWDT.int_LEARN_OVF : IntBit := ⟨0x28, 3⟩
def FWDT.int_CMD_DONE : IntBit := ⟨0x28, 4⟩

/-! ### Page 0x29, LPMT -/

/-- R191 (09_forwarding). -/
def LPMT.CMD_KEY : Reg :=
  { page := 0x29, off := 0x400, acc := .rw, dims := [(4, 4)] }

/-- R191 (09_forwarding). -/
def LPMT.CMD_PREFIX : Reg :=
  { page := 0x29, off := 0x410, acc := .rw, mask := 0x00FFF1FF }
def LPMT.CMD_PREFIX_LEN : Fld := ⟨LPMT.CMD_PREFIX, 0, 8⟩
def LPMT.CMD_PREFIX_V6 : Fld := ⟨LPMT.CMD_PREFIX, 8, 1⟩
def LPMT.CMD_PREFIX_VRF : Fld := ⟨LPMT.CMD_PREFIX, 12, 12⟩

/-- R191 (09_forwarding). -/
def LPMT.CMD_RESULT : Reg :=
  { page := 0x29, off := 0x414, acc := .rw, mask := 0x0000FFFF,
    ok := [⟨14, 2, [(0, 2)]⟩] }
def LPMT.CMD_RESULT_NEXT_HOP : Fld := ⟨LPMT.CMD_RESULT, 0, 14⟩
def LPMT.CMD_RESULT_ACT : Fld := ⟨LPMT.CMD_RESULT, 14, 2⟩

/-- R191 (09_forwarding). -/
def LPMT.CMD : Reg :=
  { page := 0x29, off := 0x418, acc := .wo, mask := 0x000001F3 }
def LPMT.CMD_OP : Fld := ⟨LPMT.CMD, 0, 2⟩
def LPMT.CMD_PIPE_MASK : Fld := ⟨LPMT.CMD, 4, 4⟩
def LPMT.CMD_GO : Fld := ⟨LPMT.CMD, 8, 1⟩

/-- R191 (09_forwarding). -/
def LPMT.CMD_STAT : Reg :=
  { page := 0x29, off := 0x41C, acc := .ro, mask := 0x00000FFF }
def LPMT.CMD_STAT_BUSY : Fld := ⟨LPMT.CMD_STAT, 0, 1⟩
def LPMT.CMD_STAT_CODE : Fld := ⟨LPMT.CMD_STAT, 1, 3⟩
def LPMT.CMD_STAT_MOVES : Fld := ⟨LPMT.CMD_STAT, 4, 8⟩

/-- R191 (09_forwarding). -/
def LPMT.MISS_CFG : Reg :=
  { page := 0x29, off := 0x420, acc := .st, mask := 0x00000001 }
def LPMT.MISS_CFG_MISS_ACT : Fld := ⟨LPMT.MISS_CFG, 0, 1⟩

/-- R191 (09_forwarding). -/
def LPMT.UPD_CFG : Reg :=
  { page := 0x29, off := 0x424, acc := .rw, rst := 0x00000020, mask := 0x0000003F,
    ok := [⟨0, 6, [(8, 63)]⟩] }
def LPMT.UPD_CFG_SHARE_DIV : Fld := ⟨LPMT.UPD_CFG, 0, 6⟩

/-- R191 (09_forwarding). -/
def LPMT.OCC_V4 : Reg :=
  { page := 0x29, off := 0x428, acc := .ro, mask := 0x0003FFFF }

/-- R191 (09_forwarding). -/
def LPMT.OCC_V6 : Reg :=
  { page := 0x29, off := 0x42C, acc := .ro, mask := 0x0003FFFF }

/-- R191 (09_forwarding). -/
def LPMT.HOLES : Reg :=
  { page := 0x29, off := 0x430, acc := .ro, mask := 0x0003FFFF }

/-- R191 (09_forwarding). -/
def LPMT.MISSES : Reg :=
  { page := 0x29, off := 0x440, acc := .rc, dims := [(4, 4)] }

/-- The registers of page 0x29 at 0x040 and above (R68). -/
def LPMT.rows : List Reg :=
  [LPMT.CMD_KEY, LPMT.CMD_PREFIX, LPMT.CMD_RESULT, LPMT.CMD,
   LPMT.CMD_STAT, LPMT.MISS_CFG, LPMT.UPD_CFG, LPMT.OCC_V4,
   LPMT.OCC_V6, LPMT.HOLES, LPMT.MISSES]
def LPMT.int_CMD_DONE : IntBit := ⟨0x29, 0⟩
def LPMT.int_FULL : IntBit := ⟨0x29, 1⟩

/-! ### Page 0x2A, CLSF -/

/-- R204 (10_classifier). -/
def CLSF.KEY_SEL : Reg :=
  { page := 0x2A, off := 0x040, acc := .st, mask := 0x0000FF7F, dims := [(4, 20)], ok := [⟨0, 4, [(0, 9)]⟩] }
def CLSF.KEY_SEL_SRC : Fld := ⟨CLSF.KEY_SEL, 0, 4⟩
def CLSF.KEY_SEL_LAYER : Fld := ⟨CLSF.KEY_SEL, 4, 3⟩
def CLSF.KEY_SEL_OFF : Fld := ⟨CLSF.KEY_SEL, 8, 8⟩

/-- R204 (10_classifier). -/
def CLSF.BANK_MASK_LO : Reg :=
  { page := 0x2A, off := 0x090, acc := .st }

/-- R204 (10_classifier). -/
def CLSF.BANK_MASK_HI : Reg :=
  { page := 0x2A, off := 0x094, acc := .st }

/-- R204 (10_classifier). -/
def CLSF.MISS_RES_LO : Reg :=
  { page := 0x2A, off := 0x098, acc := .st, ok := [⟨2, 6, [(0, 33)]⟩, ⟨27, 2, [(0, 2)]⟩] }

/-- R204 (10_classifier). -/
def CLSF.MISS_RES_HI : Reg :=
  { page := 0x2A, off := 0x09C, acc := .st, mask := 0x1FFFFFFF }

/-- R205 (10_classifier). -/
def CLSF.WR_MASK : Reg :=
  { page := 0x2A, off := 0x400, acc := .rw, rst := 0x0000000F, mask := 0x0000003F }
def CLSF.WR_MASK_RD_PIPE : Fld := ⟨CLSF.WR_MASK, 4, 2⟩

/-- R205 (10_classifier). -/
def CLSF.CMD_RULE : Reg :=
  { page := 0x2A, off := 0x404, acc := .rw, mask := 0x0000FFFF }

/-- R205 (10_classifier). -/
def CLSF.CMD : Reg :=
  { page := 0x2A, off := 0x408, acc := .wo, mask := 0x000001F3 }
def CLSF.CMD_OP : Fld := ⟨CLSF.CMD, 0, 2⟩
def CLSF.CMD_PIPE_MASK : Fld := ⟨CLSF.CMD, 4, 4⟩
def CLSF.CMD_GO : Fld := ⟨CLSF.CMD, 8, 1⟩

/-- R205 (10_classifier). -/
def CLSF.CMD_STAT : Reg :=
  { page := 0x2A, off := 0x40C, acc := .ro, mask := 0x000000FF }
def CLSF.CMD_STAT_BUSY : Fld := ⟨CLSF.CMD_STAT, 0, 1⟩
def CLSF.CMD_STAT_CODE : Fld := ⟨CLSF.CMD_STAT, 1, 3⟩

/-- R205 (10_classifier). -/
def CLSF.LOAD_ADDR_LO : Reg :=
  { page := 0x2A, off := 0x410, acc := .rw, mask := 0xFFFFFF80 }

/-- R205 (10_classifier). -/
def CLSF.LOAD_ADDR_HI : Reg :=
  { page := 0x2A, off := 0x414, acc := .rw }

/-- R205 (10_classifier). -/
def CLSF.LOAD_BANKS : Reg :=
  { page := 0x2A, off := 0x418, acc := .rw, rst := 0x00004000, mask := 0x00007F3F,
    ok := [⟨8, 7, [(1, 64)]⟩] }
def CLSF.LOAD_BANKS_FIRST : Fld := ⟨CLSF.LOAD_BANKS, 0, 6⟩
def CLSF.LOAD_BANKS_COUNT : Fld := ⟨CLSF.LOAD_BANKS, 8, 7⟩

/-- R205 (10_classifier). -/
def CLSF.LOAD_CTRL : Reg :=
  { page := 0x2A, off := 0x41C, acc := .wo, mask := 0x0000000F }
def CLSF.LOAD_CTRL_GO : Fld := ⟨CLSF.LOAD_CTRL, 0, 1⟩
def CLSF.LOAD_CTRL_ARM : Fld := ⟨CLSF.LOAD_CTRL, 1, 1⟩
def CLSF.LOAD_CTRL_AUTO_RESUME : Fld := ⟨CLSF.LOAD_CTRL, 2, 1⟩
def CLSF.LOAD_CTRL_ABORT : Fld := ⟨CLSF.LOAD_CTRL, 3, 1⟩

/-- R205 (10_classifier). -/
def CLSF.LOAD_STAT : Reg :=
  { page := 0x2A, off := 0x420, acc := .ro }

/-- R205 (10_classifier). -/
def CLSF.CMD_DATA : Reg :=
  { page := 0x2A, off := 0x440, acc := .rw, dims := [(4, 32)] }

/-- R205 (10_classifier). -/
def CLSF.PORT_PROF : Reg :=
  { page := 0x2A, off := 0x500, acc := .st, mask := 0x00000FFF, dims := [(4, 34)] }
def CLSF.PORT_PROF_V4 : Fld := ⟨CLSF.PORT_PROF, 0, 4⟩
def CLSF.PORT_PROF_V6 : Fld := ⟨CLSF.PORT_PROF, 4, 4⟩
def CLSF.PORT_PROF_OTHER : Fld := ⟨CLSF.PORT_PROF, 8, 4⟩

/-- R205 (10_classifier). -/
def CLSF.CNT : Reg :=
  { page := 0x2A, off := 0x600, acc := .rc, dims := [(16, 4), (4, 4)] }

/-- R205 (10_classifier). -/
def CLSF.EQ_LAST : Reg :=
  { page := 0x2A, off := 0x640, acc := .ro, dims := [(4, 4)] }

/-- The registers of page 0x2A at 0x040 and above (R68). -/
def CLSF.rows : List Reg :=
  [CLSF.KEY_SEL, CLSF.BANK_MASK_LO, CLSF.BANK_MASK_HI, CLSF.MISS_RES_LO,
   CLSF.MISS_RES_HI, CLSF.WR_MASK, CLSF.CMD_RULE, CLSF.CMD,
   CLSF.CMD_STAT, CLSF.LOAD_ADDR_LO, CLSF.LOAD_ADDR_HI, CLSF.LOAD_BANKS,
   CLSF.LOAD_CTRL, CLSF.LOAD_STAT, CLSF.CMD_DATA, CLSF.PORT_PROF,
   CLSF.CNT, CLSF.EQ_LAST]
def CLSF.int_CMD_DONE : IntBit := ⟨0x2A, 0⟩
def CLSF.int_LOAD_DONE : IntBit := ⟨0x2A, 1⟩
def CLSF.int_LOAD_FAIL : IntBit := ⟨0x2A, 2⟩
def CLSF.int_EQ_PRIO : IntBit := ⟨0x2A, 3⟩

/-! ### Page 0x2B, ANCH -/

/-- R232 (11_flow_table). -/
def ANCH.ADDR_LO : Reg :=
  { page := 0x2B, off := 0x040, acc := .rw }

/-- R232 (11_flow_table). -/
def ANCH.ADDR_HI : Reg :=
  { page := 0x2B, off := 0x044, acc := .rw }

/-- R232 (11_flow_table). -/
def ANCH.MATCH : Reg :=
  { page := 0x2B, off := 0x048, acc := .rw, mask := 0x001FFFFF, ok := [⟨12, 7, [(0, 64)]⟩] }
def ANCH.MATCH_ZONE : Fld := ⟨ANCH.MATCH, 0, 12⟩
def ANCH.MATCH_LEN : Fld := ⟨ANCH.MATCH, 12, 7⟩
def ANCH.MATCH_V6 : Fld := ⟨ANCH.MATCH, 19, 1⟩
def ANCH.MATCH_VALID : Fld := ⟨ANCH.MATCH, 20, 1⟩

/-- R232 (11_flow_table). -/
def ANCH.PORTS : Reg :=
  { page := 0x2B, off := 0x04C, acc := .rw, rst := 0xFFFF0000 }
def ANCH.PORTS_LO : Fld := ⟨ANCH.PORTS, 0, 16⟩
def ANCH.PORTS_HI : Fld := ⟨ANCH.PORTS, 16, 16⟩

/-- R232 (11_flow_table). -/
def ANCH.LOCAL : Reg :=
  { page := 0x2B, off := 0x050, acc := .rw, mask := 0x7FFFFFFF }
def ANCH.LOCAL_LOCAL : Fld := ⟨ANCH.LOCAL, 0, 27⟩
def ANCH.LOCAL_ALIGN : Fld := ⟨ANCH.LOCAL, 27, 4⟩

/-- R232 (11_flow_table). -/
def ANCH.LOAD_ADDR_LO : Reg :=
  { page := 0x2B, off := 0x400, acc := .rw, mask := 0xFFFFFFE0 }

/-- R232 (11_flow_table). -/
def ANCH.LOAD_ADDR_HI : Reg :=
  { page := 0x2B, off := 0x404, acc := .rw }

/-- R232 (11_flow_table). -/
def ANCH.LOAD_RANGE : Reg :=
  { page := 0x2B, off := 0x408, acc := .rw, rst := 0xFFFF0000 }
def ANCH.LOAD_RANGE_FIRST : Fld := ⟨ANCH.LOAD_RANGE, 0, 16⟩
def ANCH.LOAD_RANGE_LAST : Fld := ⟨ANCH.LOAD_RANGE, 16, 16⟩

/-- R232 (11_flow_table). -/
def ANCH.LOAD_CTRL : Reg :=
  { page := 0x2B, off := 0x40C, acc := .wo, mask := 0x0000000F }
def ANCH.LOAD_CTRL_GO : Fld := ⟨ANCH.LOAD_CTRL, 0, 1⟩
def ANCH.LOAD_CTRL_ARM : Fld := ⟨ANCH.LOAD_CTRL, 1, 1⟩
def ANCH.LOAD_CTRL_AUTO_RESUME : Fld := ⟨ANCH.LOAD_CTRL, 2, 1⟩
def ANCH.LOAD_CTRL_ABORT : Fld := ⟨ANCH.LOAD_CTRL, 3, 1⟩

/-- R232 (11_flow_table). -/
def ANCH.LOAD_STAT : Reg :=
  { page := 0x2B, off := 0x410, acc := .ro }

/-- R232 (11_flow_table). -/
def ANCH.DUAL : Reg :=
  { page := 0x2B, off := 0x440, acc := .rc, dims := [(4, 4)] }

/-- The registers of page 0x2B at 0x040 and above (R68). -/
def ANCH.rows : List Reg :=
  [ANCH.ADDR_LO, ANCH.ADDR_HI, ANCH.MATCH, ANCH.PORTS,
   ANCH.LOCAL, ANCH.LOAD_ADDR_LO, ANCH.LOAD_ADDR_HI, ANCH.LOAD_RANGE,
   ANCH.LOAD_CTRL, ANCH.LOAD_STAT, ANCH.DUAL]
def ANCH.int_LOAD_DONE : IntBit := ⟨0x2B, 0⟩
def ANCH.int_LOAD_FAIL : IntBit := ⟨0x2B, 1⟩

/-! ### Page 0x30, FLOW -/

/-- R229 (11_flow_table). -/
def FLOW.ZONE_CFG : Reg :=
  { page := 0x30, off := 0x040, acc := .st, mask := 0x00000001 }
def FLOW.ZONE_CFG_EVICT : Fld := ⟨FLOW.ZONE_CFG, 0, 1⟩

/-- R229 (11_flow_table). -/
def FLOW.ZONE_RECS : Reg :=
  { page := 0x30, off := 0x044, acc := .ro, mask := 0x0FFFFFFF }

/-- R230 (11_flow_table). -/
def FLOW.SLOT_CFG : Reg :=
  { page := 0x30, off := 0x400, acc := .rw, rst := 0xDC000000,
    ok := [⟨27, 5, [(20, 27)]⟩] }
def FLOW.SLOT_CFG_ALT_MASK : Fld := ⟨FLOW.SLOT_CFG, 0, 27⟩
def FLOW.SLOT_CFG_SIZE : Fld := ⟨FLOW.SLOT_CFG, 27, 5⟩

/-- R230 (11_flow_table). -/
def FLOW.KEY_CFG : Reg :=
  { page := 0x30, off := 0x404, acc := .st, rst := 0x000344D4, mask := 0x03FFFFFF,
    ok := [⟨18, 2, [(0, 2)]⟩] }
def FLOW.KEY_CFG_ADDR_OFF : Fld := ⟨FLOW.KEY_CFG, 0, 6⟩
def FLOW.KEY_CFG_PROTO_OFF : Fld := ⟨FLOW.KEY_CFG, 6, 6⟩
def FLOW.KEY_CFG_PORT_OFF : Fld := ⟨FLOW.KEY_CFG, 12, 6⟩
def FLOW.KEY_CFG_ZONE_SRC : Fld := ⟨FLOW.KEY_CFG, 18, 2⟩
def FLOW.KEY_CFG_ZONE_OFF : Fld := ⟨FLOW.KEY_CFG, 20, 6⟩

/-- R230 (11_flow_table). -/
def FLOW.SWEEP_CFG : Reg :=
  { page := 0x30, off := 0x408, acc := .st, rst := 0x00030258, mask := 0x0003FFFF,
    ok := [⟨0, 16, [(10, 65535)]⟩] }
def FLOW.SWEEP_CFG_PERIOD : Fld := ⟨FLOW.SWEEP_CFG, 0, 16⟩
def FLOW.SWEEP_CFG_NORMALISE : Fld := ⟨FLOW.SWEEP_CFG, 16, 1⟩
def FLOW.SWEEP_CFG_SPILL_AUDIT : Fld := ⟨FLOW.SWEEP_CFG, 17, 1⟩

/-- R230 (11_flow_table). -/
def FLOW.SWEEP_CTRL : Reg :=
  { page := 0x30, off := 0x40C, acc := .wo, mask := 0x00000003 }
def FLOW.SWEEP_CTRL_START : Fld := ⟨FLOW.SWEEP_CTRL, 0, 1⟩
def FLOW.SWEEP_CTRL_ABORT : Fld := ⟨FLOW.SWEEP_CTRL, 1, 1⟩

/-- R230 (11_flow_table). -/
def FLOW.SWEEP_STAT : Reg :=
  { page := 0x30, off := 0x410, acc := .ro }

/-- R230 (11_flow_table). -/
def FLOW.HARVEST_CFG : Reg :=
  { page := 0x30, off := 0x414, acc := .st, rst := 0x00000001, mask := 0x00000001 }
def FLOW.HARVEST_CFG_EN : Fld := ⟨FLOW.HARVEST_CFG, 0, 1⟩

/-- R230 (11_flow_table). -/
def FLOW.BG_CFG : Reg :=
  { page := 0x30, off := 0x418, acc := .rw, rst := 0x00000014, mask := 0x0000001F,
    ok := [⟨0, 5, [(0, 0), (4, 31)]⟩] }
def FLOW.BG_CFG_FLOOR_DIV : Fld := ⟨FLOW.BG_CFG, 0, 5⟩

/-- R230 (11_flow_table). -/
def FLOW.REBUILD_CTRL : Reg :=
  { page := 0x30, off := 0x41C, acc := .wo, mask := 0x00000007 }
def FLOW.REBUILD_CTRL_GO : Fld := ⟨FLOW.REBUILD_CTRL, 0, 1⟩
def FLOW.REBUILD_CTRL_ABORT : Fld := ⟨FLOW.REBUILD_CTRL, 1, 1⟩
def FLOW.REBUILD_CTRL_REKEY : Fld := ⟨FLOW.REBUILD_CTRL, 2, 1⟩

/-- R230 (11_flow_table). -/
def FLOW.REBUILD_STAT : Reg :=
  { page := 0x30, off := 0x420, acc := .ro }

/-- R230 (11_flow_table). -/
def FLOW.OCC : Reg :=
  { page := 0x30, off := 0x424, acc := .ro, mask := 0x0FFFFFFF }

/-- R230 (11_flow_table). -/
def FLOW.OCC_TH : Reg :=
  { page := 0x30, off := 0x428, acc := .rw, rst := 0x07333333, mask := 0x0FFFFFFF }
def FLOW.OCC_TH_OCC_HIGH : Fld := ⟨FLOW.OCC_TH, 0, 28⟩

/-- R230 (11_flow_table). -/
def FLOW.ALT_RECS : Reg :=
  { page := 0x30, off := 0x42C, acc := .ro, mask := 0x0FFFFFFF }

/-- R230 (11_flow_table). -/
def FLOW.SPILL_SLOTS : Reg :=
  { page := 0x30, off := 0x430, acc := .ro, mask := 0x0FFFFFFF }

/-- R230 (11_flow_table). -/
def FLOW.CMD_SLOT : Reg :=
  { page := 0x30, off := 0x434, acc := .rw, mask := 0x07FFFFFF }

/-- R230 (11_flow_table). -/
def FLOW.CMD : Reg :=
  { page := 0x30, off := 0x438, acc := .wo, mask := 0x000001FF }
def FLOW.CMD_OP : Fld := ⟨FLOW.CMD, 0, 2⟩
def FLOW.CMD_INCARN : Fld := ⟨FLOW.CMD, 2, 6⟩
def FLOW.CMD_GO : Fld := ⟨FLOW.CMD, 8, 1⟩

/-- R230 (11_flow_table). -/
def FLOW.CMD_STAT : Reg :=
  { page := 0x30, off := 0x43C, acc := .ro, mask := 0x0000000F }
def FLOW.CMD_STAT_BUSY : Fld := ⟨FLOW.CMD_STAT, 0, 1⟩
def FLOW.CMD_STAT_CODE : Fld := ⟨FLOW.CMD_STAT, 1, 3⟩

/-- R230 (11_flow_table). -/
def FLOW.CNT : Reg :=
  { page := 0x30, off := 0x440, acc := .rc, dims := [(4, 20)] }

/-- R230 (11_flow_table). -/
def FLOW.KEY_STAT : Reg :=
  { page := 0x30, off := 0x490, acc := .ro, mask := 0x0000FF03 }
def FLOW.KEY_STAT_VALID : Fld := ⟨FLOW.KEY_STAT, 0, 1⟩
def FLOW.KEY_STAT_DISABLED : Fld := ⟨FLOW.KEY_STAT, 1, 1⟩
def FLOW.KEY_STAT_KEY_GEN : Fld := ⟨FLOW.KEY_STAT, 8, 8⟩

/-- R230 (11_flow_table). -/
def FLOW.TIMEOUT : Reg :=
  { page := 0x30, off := 0x800, acc := .st, rst := 0x012C012C, dims := [(32, 64), (4, 8)] }

/-- The registers of page 0x30 at 0x040 and above (R68). -/
def FLOW.rows : List Reg :=
  [FLOW.ZONE_CFG, FLOW.ZONE_RECS, FLOW.SLOT_CFG, FLOW.KEY_CFG,
   FLOW.SWEEP_CFG, FLOW.SWEEP_CTRL, FLOW.SWEEP_STAT, FLOW.HARVEST_CFG,
   FLOW.BG_CFG, FLOW.REBUILD_CTRL, FLOW.REBUILD_STAT, FLOW.OCC,
   FLOW.OCC_TH, FLOW.ALT_RECS, FLOW.SPILL_SLOTS, FLOW.CMD_SLOT,
   FLOW.CMD, FLOW.CMD_STAT, FLOW.CNT, FLOW.KEY_STAT,
   FLOW.TIMEOUT]
def FLOW.int_OCC_HIGH : IntBit := ⟨0x30, 0⟩
def FLOW.int_INS_FAIL : IntBit := ⟨0x30, 1⟩
def FLOW.int_SAT : IntBit := ⟨0x30, 2⟩
def FLOW.int_SWEEP_DONE : IntBit := ⟨0x30, 3⟩
def FLOW.int_REBUILD_DONE : IntBit := ⟨0x30, 4⟩
def FLOW.int_REBUILD_FAIL : IntBit := ⟨0x30, 5⟩
def FLOW.int_CMD_DONE : IntBit := ⟨0x30, 6⟩
def FLOW.int_MERGE_FULL : IntBit := ⟨0x30, 7⟩

/-! ### Page 0x31, FENG -/

/-- R256 (12_engines). -/
def FENG.THREADS_BUSY : Reg :=
  { page := 0x31, off := 0x040, acc := .ro, mask := 0x000001FF }

/-- R256 (12_engines). -/
def FENG.ISSUED_LO : Reg :=
  { page := 0x31, off := 0x044, acc := .ro }

/-- R256 (12_engines). -/
def FENG.ISSUED_HI : Reg :=
  { page := 0x31, off := 0x048, acc := .ro, perPath := true }

/-- R256 (12_engines). -/
def FENG.TASKS_DONE : Reg :=
  { page := 0x31, off := 0x04C, acc := .ro }

/-- R256 (12_engines). -/
def FENG.FAULTS : Reg :=
  { page := 0x31, off := 0x050, acc := .rc }

/-- R256 (12_engines). -/
def FENG.FAULT_INFO : Reg :=
  { page := 0x31, off := 0x054, acc := .ro, mask := 0x01FFFFFF }

/-- R256 (12_engines). -/
def FENG.FAULT_STAMP_LO : Reg :=
  { page := 0x31, off := 0x058, acc := .ro }

/-- R256 (12_engines). -/
def FENG.FAULT_STAMP_HI : Reg :=
  { page := 0x31, off := 0x05C, acc := .ro }

/-- R256 (12_engines). -/
def FENG.EDIT_OVF : Reg :=
  { page := 0x31, off := 0x060, acc := .rc }

/-- R256 (12_engines). -/
def FENG.PATCH_FETCHES : Reg :=
  { page := 0x31, off := 0x064, acc := .ro }

/-- R256 (12_engines). -/
def FENG.PCNT_IDX : Reg :=
  { page := 0x31, off := 0x068, acc := .rw, mask := 0x00001FFF }

/-- R256 (12_engines). -/
def FENG.PCNT_CLR : Reg :=
  { page := 0x31, off := 0x06C, acc := .wo, mask := 0x00000001 }

/-- R256 (12_engines). -/
def FENG.PCNT_LO : Reg :=
  { page := 0x31, off := 0x070, acc := .ro }

/-- R256 (12_engines). -/
def FENG.PCNT_HI : Reg :=
  { page := 0x31, off := 0x074, acc := .ro, perPath := true }

/-- R257 (12_engines). -/
def FENG.RUN : Reg :=
  { page := 0x31, off := 0x400, acc := .rw, mask := 0x000000FF }

/-- R257 (12_engines). -/
def FENG.UCODE_VER : Reg :=
  { page := 0x31, off := 0x404, acc := .ro }

/-- R257 (12_engines). -/
def FENG.MAX_CYCLES : Reg :=
  { page := 0x31, off := 0x408, acc := .st, rst := 0x00001000, mask := 0x0000FFFF,
    ok := [⟨0, 16, [(64, 65535)]⟩] }

/-- R257 (12_engines). -/
def FENG.ENTRY : Reg :=
  { page := 0x31, off := 0x440, acc := .st, mask := 0x80003FFF, dims := [(4, 16)] }
def FENG.ENTRY_VALID : Fld := ⟨FENG.ENTRY, 31, 1⟩

/-- R257 (12_engines). -/
def FENG.PARAM : Reg :=
  { page := 0x31, off := 0x480, acc := .st, dims := [(4, 16)] }

/-- The registers of page 0x31 at 0x040 and above (R68). -/
def FENG.rows : List Reg :=
  [FENG.THREADS_BUSY, FENG.ISSUED_LO, FENG.ISSUED_HI, FENG.TASKS_DONE,
   FENG.FAULTS, FENG.FAULT_INFO, FENG.FAULT_STAMP_LO, FENG.FAULT_STAMP_HI,
   FENG.EDIT_OVF, FENG.PATCH_FETCHES, FENG.PCNT_IDX, FENG.PCNT_CLR,
   FENG.PCNT_LO, FENG.PCNT_HI, FENG.RUN, FENG.UCODE_VER,
   FENG.MAX_CYCLES, FENG.ENTRY, FENG.PARAM]
def FENG.int_FAULT : IntBit := ⟨0x31, 0⟩
def FENG.int_EDIT_OVF : IntBit := ⟨0x31, 1⟩

/-! ### Page 0x32, TASK -/

/-- R277 (13_tasks). -/
def TASK.STORE : Reg :=
  { page := 0x32, off := 0x040, acc := .ro, mask := 0x1FFF1FFF }

/-- R277 (13_tasks). -/
def TASK.READY : Reg :=
  { page := 0x32, off := 0x044, acc := .ro }

/-- R277 (13_tasks). -/
def TASK.TIMED : Reg :=
  { page := 0x32, off := 0x048, acc := .ro, mask := 0x00001FFF }

/-- R277 (13_tasks). -/
def TASK.SPILL : Reg :=
  { page := 0x32, off := 0x04C, acc := .ro, mask := 0x0003FFFF, dims := [(4, 4)] }

/-- R277 (13_tasks). -/
def TASK.SIG_ID : Reg :=
  { page := 0x32, off := 0x05C, acc := .rw, mask := 0x000FFFFF }

/-- R277 (13_tasks). -/
def TASK.SIG_FLAGS : Reg :=
  { page := 0x32, off := 0x060, acc := .wo, mask := 0x0000FFFF }

/-- R277 (13_tasks). -/
def TASK.TRACE_CFG : Reg :=
  { page := 0x32, off := 0x064, acc := .rw, rst := 0x0003FF00, mask := 0x0003FF03 }
def TASK.TRACE_CFG_EN : Fld := ⟨TASK.TRACE_CFG, 0, 1⟩
def TASK.TRACE_CFG_STOP : Fld := ⟨TASK.TRACE_CFG, 1, 1⟩
def TASK.TRACE_CFG_REASONS : Fld := ⟨TASK.TRACE_CFG, 8, 8⟩
def TASK.TRACE_CFG_PKT : Fld := ⟨TASK.TRACE_CFG, 16, 1⟩
def TASK.TRACE_CFG_OTHER : Fld := ⟨TASK.TRACE_CFG, 17, 1⟩

/-- R277 (13_tasks). -/
def TASK.TRACE_RING : Reg :=
  { page := 0x32, off := 0x068, acc := .rw, rst := 0x00080000, mask := 0x000FFFFF,
    ok := [⟨16, 4, [(8, 15)]⟩] }
def TASK.TRACE_RING_BASE : Fld := ⟨TASK.TRACE_RING, 0, 16⟩
def TASK.TRACE_RING_SIZE : Fld := ⟨TASK.TRACE_RING, 16, 4⟩

/-- R277 (13_tasks). -/
def TASK.TRACE_WR : Reg :=
  { page := 0x32, off := 0x06C, acc := .ro, mask := 0x0000FFFF }

/-- R277 (13_tasks). -/
def TASK.TRACE_RD : Reg :=
  { page := 0x32, off := 0x070, acc := .rw, mask := 0x0000FFFF }

/-- R277 (13_tasks). -/
def TASK.TRACE_LOST : Reg :=
  { page := 0x32, off := 0x074, acc := .rc }

/-- R277 (13_tasks). -/
def TASK.MIRROR_ADDR_LO : Reg :=
  { page := 0x32, off := 0x078, acc := .rw, mask := 0xFFFFFFF0 }

/-- R277 (13_tasks). -/
def TASK.MIRROR_ADDR_HI : Reg :=
  { page := 0x32, off := 0x07C, acc := .rw }

/-- R277 (13_tasks). -/
def TASK.MIRROR_MAX : Reg :=
  { page := 0x32, off := 0x080, acc := .rw, rst := 0x00000100, mask := 0x0000FFFF,
    ok := [⟨0, 16, [(1, 32768)]⟩] }

/-- R277 (13_tasks). -/
def TASK.MIRROR_CTRL : Reg :=
  { page := 0x32, off := 0x084, acc := .wo, mask := 0x00000003 }
def TASK.MIRROR_CTRL_GO : Fld := ⟨TASK.MIRROR_CTRL, 0, 1⟩
def TASK.MIRROR_CTRL_ABORT : Fld := ⟨TASK.MIRROR_CTRL, 1, 1⟩

/-- R277 (13_tasks). -/
def TASK.MIRROR_STAT : Reg :=
  { page := 0x32, off := 0x088, acc := .ro }

/-- R277 (13_tasks). -/
def TASK.CNT : Reg :=
  { page := 0x32, off := 0x08C, acc := .rc, dims := [(4, 12)] }

/-- R278 (13_tasks). -/
def TASK.KIND_PRIO0 : Reg :=
  { page := 0x32, off := 0x400, acc := .rw, rst := 0xAAAAA9A5 }

/-- R278 (13_tasks). -/
def TASK.KIND_PRIO1 : Reg :=
  { page := 0x32, off := 0x404, acc := .rw, rst := 0x00000001, mask := 0x00000003 }

/-- R278 (13_tasks). -/
def TASK.RESERVE : Reg :=
  { page := 0x32, off := 0x408, acc := .rw, rst := 0x00000200, mask := 0x00001FFF,
    ok := [⟨0, 13, [(256, 2048)]⟩] }

/-- R278 (13_tasks). -/
def TASK.STARVE : Reg :=
  { page := 0x32, off := 0x40C, acc := .rw, rst := 0x00000064, mask := 0x0000FFFF }

/-- The registers of page 0x32 at 0x040 and above (R68). -/
def TASK.rows : List Reg :=
  [TASK.STORE, TASK.READY, TASK.TIMED, TASK.SPILL,
   TASK.SIG_ID, TASK.SIG_FLAGS, TASK.TRACE_CFG, TASK.TRACE_RING,
   TASK.TRACE_WR, TASK.TRACE_RD, TASK.TRACE_LOST, TASK.MIRROR_ADDR_LO,
   TASK.MIRROR_ADDR_HI, TASK.MIRROR_MAX, TASK.MIRROR_CTRL, TASK.MIRROR_STAT,
   TASK.CNT, TASK.KIND_PRIO0, TASK.KIND_PRIO1, TASK.RESERVE,
   TASK.STARVE]
def TASK.int_SPILL_FULL : IntBit := ⟨0x32, 0⟩
def TASK.int_TIMER_FULL : IntBit := ⟨0x32, 1⟩
def TASK.int_TRACE_LOST : IntBit := ⟨0x32, 2⟩
def TASK.int_MIRROR_DONE : IntBit := ⟨0x32, 3⟩

/-! ### Page 0x33, SPAD -/

/-- R279 (13_tasks). -/
def SPAD.DMA_HOST_LO : Reg :=
  { page := 0x33, off := 0x040, acc := .rw, mask := 0xFFFFFFE0 }

/-- R279 (13_tasks). -/
def SPAD.DMA_HOST_HI : Reg :=
  { page := 0x33, off := 0x044, acc := .rw }

/-- R279 (13_tasks). -/
def SPAD.DMA_SPAD : Reg :=
  { page := 0x33, off := 0x048, acc := .rw, mask := 0x000FFFE0 }

/-- R279 (13_tasks). -/
def SPAD.DMA_LEN : Reg :=
  { page := 0x33, off := 0x04C, acc := .rw, rst := 0x00000020, mask := 0x001FFFFF }

/-- R279 (13_tasks). -/
def SPAD.DMA_CTRL : Reg :=
  { page := 0x33, off := 0x050, acc := .wo, mask := 0x00000007 }
def SPAD.DMA_CTRL_GO : Fld := ⟨SPAD.DMA_CTRL, 0, 1⟩
def SPAD.DMA_CTRL_DIR : Fld := ⟨SPAD.DMA_CTRL, 1, 1⟩
def SPAD.DMA_CTRL_ABORT : Fld := ⟨SPAD.DMA_CTRL, 2, 1⟩

/-- R279 (13_tasks). -/
def SPAD.DMA_STAT : Reg :=
  { page := 0x33, off := 0x054, acc := .ro }

/-- R279 (13_tasks). -/
def SPAD.ENG_CONFLICT : Reg :=
  { page := 0x33, off := 0x058, acc := .rc }

/-- R279 (13_tasks). -/
def SPAD.DMA_WAIT : Reg :=
  { page := 0x33, off := 0x05C, acc := .rc }

/-- R279 (13_tasks). -/
def SPAD.BUSY_SHARE : Reg :=
  { page := 0x33, off := 0x060, acc := .ro, mask := 0x000007FF }

/-- The registers of page 0x33 at 0x040 and above (R68). -/
def SPAD.rows : List Reg :=
  [SPAD.DMA_HOST_LO, SPAD.DMA_HOST_HI, SPAD.DMA_SPAD, SPAD.DMA_LEN,
   SPAD.DMA_CTRL, SPAD.DMA_STAT, SPAD.ENG_CONFLICT, SPAD.DMA_WAIT,
   SPAD.BUSY_SHARE]
def SPAD.int_DMA_DONE : IntBit := ⟨0x33, 0⟩
def SPAD.int_DMA_FAIL : IntBit := ⟨0x33, 1⟩

/-! ### Page 0x34, CSTO -/

/-- R259 (12_engines). -/
def CSTO.PATCH_MASK : Reg :=
  { page := 0x34, off := 0x400, acc := .rw, rst := 0x000000FF, mask := 0x000007FF }
def CSTO.PATCH_MASK_RD_FROND : Fld := ⟨CSTO.PATCH_MASK, 8, 3⟩

/-- R259 (12_engines). -/
def CSTO.PRAM_IDX : Reg :=
  { page := 0x34, off := 0x404, acc := .rw, mask := 0x000000FF }

/-- R259 (12_engines). -/
def CSTO.PRAM_DATA : Reg :=
  { page := 0x34, off := 0x408, acc := .rw }

/-- R259 (12_engines). -/
def CSTO.CS_IDX : Reg :=
  { page := 0x34, off := 0x40C, acc := .rw, mask := 0x00013FFF }
def CSTO.CS_IDX_SPACE : Fld := ⟨CSTO.CS_IDX, 16, 1⟩

/-- R259 (12_engines). -/
def CSTO.CS_DATA : Reg :=
  { page := 0x34, off := 0x410, acc := .ro, dims := [(4, 8)], perPath := true }

/-- R259 (12_engines). -/
def CSTO.LOAD_STAT : Reg :=
  { page := 0x34, off := 0x430, acc := .ro }
def CSTO.LOAD_STAT_STATE : Fld := ⟨CSTO.LOAD_STAT, 0, 3⟩
def CSTO.LOAD_STAT_CAUSE : Fld := ⟨CSTO.LOAD_STAT, 3, 5⟩

/-- R259 (12_engines). -/
def CSTO.PATCH_STAT : Reg :=
  { page := 0x34, off := 0x434, acc := .ro, mask := 0x000001FF }
def CSTO.PATCH_STAT_IN_RAM : Fld := ⟨CSTO.PATCH_STAT, 0, 8⟩
def CSTO.PATCH_STAT_SEALED : Fld := ⟨CSTO.PATCH_STAT, 8, 1⟩

/-- R258 (12_engines). -/
def CSTO.PATCH_SLOT : Reg :=
  { page := 0x34, off := 0x040, acc := .rw, mask := 0x803FFFFF }
def CSTO.PATCH_SLOT_ADDR : Fld := ⟨CSTO.PATCH_SLOT, 0, 14⟩
def CSTO.PATCH_SLOT_TARGET : Fld := ⟨CSTO.PATCH_SLOT, 14, 8⟩
def CSTO.PATCH_SLOT_VALID : Fld := ⟨CSTO.PATCH_SLOT, 31, 1⟩

/-- The registers of page 0x34 at 0x040 and above (R68). -/
def CSTO.rows : List Reg :=
  [CSTO.PATCH_MASK, CSTO.PRAM_IDX, CSTO.PRAM_DATA, CSTO.CS_IDX,
   CSTO.CS_DATA, CSTO.LOAD_STAT, CSTO.PATCH_STAT, CSTO.PATCH_SLOT]
def CSTO.int_LOAD_DONE : IntBit := ⟨0x34, 0⟩
def CSTO.int_LOAD_FAIL : IntBit := ⟨0x34, 1⟩
def CSTO.int_PATCH_REFUSED : IntBit := ⟨0x34, 2⟩

/-! ### Page 0x38, CIPH -/

/-- R326 (15_cipher_check). -/
def CIPH.LOCK_CTRL : Reg :=
  { page := 0x38, off := 0x040, acc := .wo, mask := 0x00000003 }
def CIPH.LOCK_CTRL_TAKE : Fld := ⟨CIPH.LOCK_CTRL, 0, 1⟩
def CIPH.LOCK_CTRL_FREE : Fld := ⟨CIPH.LOCK_CTRL, 1, 1⟩

/-- R326 (15_cipher_check). -/
def CIPH.LOCK_STAT : Reg :=
  { page := 0x38, off := 0x044, acc := .ro, mask := 0x7FFFFFFF }
def CIPH.LOCK_STAT_HOLDER : Fld := ⟨CIPH.LOCK_STAT, 0, 2⟩
def CIPH.LOCK_STAT_ENGINE : Fld := ⟨CIPH.LOCK_STAT, 2, 4⟩
def CIPH.LOCK_STAT_THREAD : Fld := ⟨CIPH.LOCK_STAT, 6, 4⟩
def CIPH.LOCK_STAT_TASK : Fld := ⟨CIPH.LOCK_STAT, 10, 20⟩
def CIPH.LOCK_STAT_WAITERS : Fld := ⟨CIPH.LOCK_STAT, 30, 1⟩

/-- R326 (15_cipher_check). -/
def CIPH.LOCK_HELD : Reg :=
  { page := 0x38, off := 0x048, acc := .ro }

/-- R326 (15_cipher_check). -/
def CIPH.KEY_SLOT : Reg :=
  { page := 0x38, off := 0x04C, acc := .rw, mask := 0x0000001F }

/-- R326 (15_cipher_check). -/
def CIPH.KEY : Reg :=
  { page := 0x38, off := 0x050, acc := .wo, dims := [(4, 8)], perPath := true }

/-- R326 (15_cipher_check). -/
def CIPH.KEY_CTRL : Reg :=
  { page := 0x38, off := 0x070, acc := .wo, mask := 0x00000007 }
def CIPH.KEY_CTRL_LOAD : Fld := ⟨CIPH.KEY_CTRL, 0, 1⟩
def CIPH.KEY_CTRL_ERASE : Fld := ⟨CIPH.KEY_CTRL, 1, 1⟩
def CIPH.KEY_CTRL_SIZE : Fld := ⟨CIPH.KEY_CTRL, 2, 1⟩

/-- R326 (15_cipher_check). -/
def CIPH.KEY_STAT : Reg :=
  { page := 0x38, off := 0x074, acc := .ro, mask := 0x0000FF0F }
def CIPH.KEY_STAT_VALID : Fld := ⟨CIPH.KEY_STAT, 0, 1⟩
def CIPH.KEY_STAT_SIZE : Fld := ⟨CIPH.KEY_STAT, 1, 1⟩
def CIPH.KEY_STAT_FAULT : Fld := ⟨CIPH.KEY_STAT, 2, 1⟩
def CIPH.KEY_STAT_PENDING : Fld := ⟨CIPH.KEY_STAT, 3, 1⟩
def CIPH.KEY_STAT_GEN : Fld := ⟨CIPH.KEY_STAT, 8, 8⟩

/-- R326 (15_cipher_check). -/
def CIPH.NONCE_CTRL : Reg :=
  { page := 0x38, off := 0x078, acc := .wo, mask := 0x00000001 }
def CIPH.NONCE_CTRL_GO : Fld := ⟨CIPH.NONCE_CTRL, 0, 1⟩

/-- R326 (15_cipher_check). -/
def CIPH.NONCE_W : Reg :=
  { page := 0x38, off := 0x07C, acc := .ro, dims := [(4, 3)], perPath := true }

/-- R326 (15_cipher_check). -/
def CIPH.NONCE_CNT_LO : Reg :=
  { page := 0x38, off := 0x088, acc := .ro }

/-- R326 (15_cipher_check). -/
def CIPH.NONCE_CNT_HI : Reg :=
  { page := 0x38, off := 0x08C, acc := .ro, mask := 0x0001FFFF }
def CIPH.NONCE_CNT_HI_EXHAUSTED : Fld := ⟨CIPH.NONCE_CNT_HI, 16, 1⟩

/-- R326 (15_cipher_check). -/
def CIPH.RUN_SRC_LO : Reg :=
  { page := 0x38, off := 0x090, acc := .rw, mask := 0xFFFFFFF0 }

/-- R326 (15_cipher_check). -/
def CIPH.RUN_SRC_HI : Reg :=
  { page := 0x38, off := 0x094, acc := .rw }

/-- R326 (15_cipher_check). -/
def CIPH.RUN_DST_LO : Reg :=
  { page := 0x38, off := 0x098, acc := .rw, mask := 0xFFFFFFF0 }

/-- R326 (15_cipher_check). -/
def CIPH.RUN_DST_HI : Reg :=
  { page := 0x38, off := 0x09C, acc := .rw }

/-- R326 (15_cipher_check). -/
def CIPH.RUN_CFG : Reg :=
  { page := 0x38, off := 0x0A0, acc := .rw, rst := 0x00000001, mask := 0x007FFFFF,
    ok := [⟨0, 17, [(1, 65536)]⟩] }
def CIPH.RUN_CFG_COUNT : Fld := ⟨CIPH.RUN_CFG, 0, 17⟩
def CIPH.RUN_CFG_SLOT : Fld := ⟨CIPH.RUN_CFG, 17, 5⟩
def CIPH.RUN_CFG_DIR : Fld := ⟨CIPH.RUN_CFG, 22, 1⟩

/-- R326 (15_cipher_check). -/
def CIPH.RUN_CTRL : Reg :=
  { page := 0x38, off := 0x0A4, acc := .wo, mask := 0x00000003 }
def CIPH.RUN_CTRL_GO : Fld := ⟨CIPH.RUN_CTRL, 0, 1⟩
def CIPH.RUN_CTRL_ABORT : Fld := ⟨CIPH.RUN_CTRL, 1, 1⟩

/-- R326 (15_cipher_check). -/
def CIPH.RUN_STAT : Reg :=
  { page := 0x38, off := 0x0A8, acc := .ro }

/-- R326 (15_cipher_check). -/
def CIPH.BLOCKS : Reg :=
  { page := 0x38, off := 0x0AC, acc := .ro }

/-- R326 (15_cipher_check). -/
def CIPH.BUSY_CYC : Reg :=
  { page := 0x38, off := 0x0B0, acc := .ro }

/-- R326 (15_cipher_check). -/
def CIPH.LOCK_TIMEOUTS : Reg :=
  { page := 0x38, off := 0x0B4, acc := .rc }

/-- R326 (15_cipher_check). -/
def CIPH.NONCE_REFUSED : Reg :=
  { page := 0x38, off := 0x0B8, acc := .rc }

/-- R326 (15_cipher_check). -/
def CIPH.LOCK_WAIT : Reg :=
  { page := 0x38, off := 0x0BC, acc := .rc }

/-- R327 (15_cipher_check). -/
def CIPH.LOCK_TO : Reg :=
  { page := 0x38, off := 0x400, acc := .rw, rst := 0x03E81000,
    ok := [⟨0, 16, [(64, 65535)]⟩, ⟨16, 16, [(1, 65535)]⟩] }
def CIPH.LOCK_TO_ENG : Fld := ⟨CIPH.LOCK_TO, 0, 16⟩
def CIPH.LOCK_TO_HOST : Fld := ⟨CIPH.LOCK_TO, 16, 16⟩

/-- R327 (15_cipher_check). -/
def CIPH.LOCK_WAIT_MAX : Reg :=
  { page := 0x38, off := 0x404, acc := .rw, rst := 0x00004000, mask := 0x0000FFFF }

/-- The registers of page 0x38 at 0x040 and above (R68). -/
def CIPH.rows : List Reg :=
  [CIPH.LOCK_CTRL, CIPH.LOCK_STAT, CIPH.LOCK_HELD, CIPH.KEY_SLOT,
   CIPH.KEY, CIPH.KEY_CTRL, CIPH.KEY_STAT, CIPH.NONCE_CTRL,
   CIPH.NONCE_W, CIPH.NONCE_CNT_LO, CIPH.NONCE_CNT_HI, CIPH.RUN_SRC_LO,
   CIPH.RUN_SRC_HI, CIPH.RUN_DST_LO, CIPH.RUN_DST_HI, CIPH.RUN_CFG,
   CIPH.RUN_CTRL, CIPH.RUN_STAT, CIPH.BLOCKS, CIPH.BUSY_CYC,
   CIPH.LOCK_TIMEOUTS, CIPH.NONCE_REFUSED, CIPH.LOCK_WAIT, CIPH.LOCK_TO,
   CIPH.LOCK_WAIT_MAX]
def CIPH.int_RUN_DONE : IntBit := ⟨0x38, 0⟩
def CIPH.int_LOCK_TIMEOUT : IntBit := ⟨0x38, 1⟩
def CIPH.int_NONCE_LOW : IntBit := ⟨0x38, 2⟩
def CIPH.int_NONCE_EXHAUSTED : IntBit := ⟨0x38, 3⟩
def CIPH.int_KEY_FAULT : IntBit := ⟨0x38, 4⟩
def CIPH.int_KEY_REFUSED : IntBit := ⟨0x38, 5⟩

/-! ### Page 0x39, CHKV -/

/-- R328 (15_cipher_check). -/
def CHKV.CFG : Reg :=
  { page := 0x39, off := 0x040, acc := .rw, mask := 0x0000000F }
def CHKV.CFG_PRESET : Fld := ⟨CHKV.CFG, 0, 2⟩
def CHKV.CFG_INIT_OVR : Fld := ⟨CHKV.CFG, 2, 1⟩
def CHKV.CFG_COMPARE : Fld := ⟨CHKV.CFG, 3, 1⟩

/-- R328 (15_cipher_check). -/
def CHKV.INIT_LO : Reg :=
  { page := 0x39, off := 0x044, acc := .rw }

/-- R328 (15_cipher_check). -/
def CHKV.INIT_HI : Reg :=
  { page := 0x39, off := 0x048, acc := .rw }

/-- R328 (15_cipher_check). -/
def CHKV.CMD : Reg :=
  { page := 0x39, off := 0x04C, acc := .wo, mask := 0x00000001 }
def CHKV.CMD_INIT : Fld := ⟨CHKV.CMD, 0, 1⟩

/-- R328 (15_cipher_check). -/
def CHKV.FEED32 : Reg :=
  { page := 0x39, off := 0x050, acc := .wo }

/-- R328 (15_cipher_check). -/
def CHKV.FEED8 : Reg :=
  { page := 0x39, off := 0x054, acc := .wo, mask := 0x000000FF }

/-- R328 (15_cipher_check). -/
def CHKV.RUN_LO : Reg :=
  { page := 0x39, off := 0x058, acc := .rw }

/-- R328 (15_cipher_check). -/
def CHKV.RUN_HI : Reg :=
  { page := 0x39, off := 0x05C, acc := .rw }

/-- R328 (15_cipher_check). -/
def CHKV.RESULT_LO : Reg :=
  { page := 0x39, off := 0x060, acc := .ro }

/-- R328 (15_cipher_check). -/
def CHKV.RESULT_HI : Reg :=
  { page := 0x39, off := 0x064, acc := .ro }

/-- R328 (15_cipher_check). -/
def CHKV.COUNT : Reg :=
  { page := 0x39, off := 0x068, acc := .rw }

/-- R328 (15_cipher_check). -/
def CHKV.EXP_LO : Reg :=
  { page := 0x39, off := 0x06C, acc := .rw }

/-- R328 (15_cipher_check). -/
def CHKV.EXP_HI : Reg :=
  { page := 0x39, off := 0x070, acc := .rw }

/-- R328 (15_cipher_check). -/
def CHKV.CMP_LEN : Reg :=
  { page := 0x39, off := 0x074, acc := .rw }

/-- R328 (15_cipher_check). -/
def CHKV.OWNER : Reg :=
  { page := 0x39, off := 0x078, acc := .ro, mask := 0x80FFFFFF }

/-- R328 (15_cipher_check). -/
def CHKV.MATCHES : Reg :=
  { page := 0x39, off := 0x07C, acc := .rc }

/-- R328 (15_cipher_check). -/
def CHKV.MISMATCHES : Reg :=
  { page := 0x39, off := 0x080, acc := .rc }

/-- R328 (15_cipher_check). -/
def CHKV.LAST_BAD_LO : Reg :=
  { page := 0x39, off := 0x084, acc := .ro }

/-- R328 (15_cipher_check). -/
def CHKV.LAST_BAD_HI : Reg :=
  { page := 0x39, off := 0x088, acc := .ro }

/-- R328 (15_cipher_check). -/
def CHKV.BAD_STAMP_LO : Reg :=
  { page := 0x39, off := 0x08C, acc := .ro }

/-- R328 (15_cipher_check). -/
def CHKV.BAD_STAMP_HI : Reg :=
  { page := 0x39, off := 0x090, acc := .ro }

/-- R328 (15_cipher_check). -/
def CHKV.CTX_LOST_CNT : Reg :=
  { page := 0x39, off := 0x094, acc := .rc }

/-- The registers of page 0x39 at 0x040 and above (R68). -/
def CHKV.rows : List Reg :=
  [CHKV.CFG, CHKV.INIT_LO, CHKV.INIT_HI, CHKV.CMD,
   CHKV.FEED32, CHKV.FEED8, CHKV.RUN_LO, CHKV.RUN_HI,
   CHKV.RESULT_LO, CHKV.RESULT_HI, CHKV.COUNT, CHKV.EXP_LO,
   CHKV.EXP_HI, CHKV.CMP_LEN, CHKV.OWNER, CHKV.MATCHES,
   CHKV.MISMATCHES, CHKV.LAST_BAD_LO, CHKV.LAST_BAD_HI, CHKV.BAD_STAMP_LO,
   CHKV.BAD_STAMP_HI, CHKV.CTX_LOST_CNT]
def CHKV.int_MISMATCH : IntBit := ⟨0x39, 0⟩
def CHKV.int_CTX_LOST : IntBit := ⟨0x39, 1⟩

end Sys2Proof.Machine
end

