-- ==== Sys2Proof/Machine/RegsC.lean ====
section
/-! DEFINITION. Registers of the switch core, traffic manager, memory, tandem, logs and host, one constant per row of the spec's register tables:
page, offset, access type, reset value, implemented bits, array strides, and per field the encodings that are not
reserved (R6, R7, R68 to R70). `PAGE.NAME_FIELD` is a field of a register; `PAGE.int_NAME` a bit of the page's INT_RAW. -/

namespace Sys2Proof.Machine

/-! ### Page 0x40, BUFM -/

/-- R351 (16_switch_core). -/
def BUFM.MIN0 : Reg :=
  { page := 0x40, off := 0x040, acc := .st, rst := 0x00000100, mask := 0x0003FFFF }

/-- R351 (16_switch_core). -/
def BUFM.QUOTA0 : Reg :=
  { page := 0x40, off := 0x044, acc := .st, rst := 0x00010000, mask := 0x0007FFFF,
    ok := [⟨0, 19, [(0, 262144)]⟩] }

/-- R351 (16_switch_core). -/
def BUFM.MIN1 : Reg :=
  { page := 0x40, off := 0x048, acc := .st, mask := 0x007FFFFF }

/-- R351 (16_switch_core). -/
def BUFM.QUOTA1 : Reg :=
  { page := 0x40, off := 0x04C, acc := .st, rst := 0x00100000, mask := 0x007FFFFF,
    ok := [⟨0, 23, [(0, 4194304)]⟩] }

/-- R351 (16_switch_core). -/
def BUFM.HR_CFG : Reg :=
  { page := 0x40, off := 0x050, acc := .st, rst := 0x01F40000, mask := 0x03FFFFFF,
    ok := [⟨16, 10, [(300, 600)]⟩] }
def BUFM.HR_CFG_LEN_M : Fld := ⟨BUFM.HR_CFG, 0, 16⟩
def BUFM.HR_CFG_DELAY : Fld := ⟨BUFM.HR_CFG, 16, 10⟩

/-- R351 (16_switch_core). -/
def BUFM.HR_PARTNER : Reg :=
  { page := 0x40, off := 0x054, acc := .st, rst := 0x000003E8, mask := 0x0000FFFF }
def BUFM.HR_PARTNER_T_PARTNER : Fld := ⟨BUFM.HR_PARTNER, 0, 16⟩

/-- R351 (16_switch_core). -/
def BUFM.HR_BYTES : Reg :=
  { page := 0x40, off := 0x058, acc := .ro, mask := 0x00FFFFFF }
def BUFM.HR_BYTES_H : Fld := ⟨BUFM.HR_BYTES, 0, 24⟩

/-- R351 (16_switch_core). -/
def BUFM.HR_UNITS : Reg :=
  { page := 0x40, off := 0x05C, acc := .ro, mask := 0x0003FFFF }
def BUFM.HR_UNITS_HR_UNITS : Fld := ⟨BUFM.HR_UNITS, 0, 18⟩

/-- R351 (16_switch_core). -/
def BUFM.XOFF_TH : Reg :=
  { page := 0x40, off := 0x060, acc := .st, rst := 0x00004000, mask := 0x03FFFFFF, dims := [(4, 8)] }

/-- R351 (16_switch_core). -/
def BUFM.XON_TH : Reg :=
  { page := 0x40, off := 0x080, acc := .st, rst := 0x00003000, mask := 0x03FFFFFF, dims := [(4, 8)] }

/-- R351 (16_switch_core). -/
def BUFM.USE : Reg :=
  { page := 0x40, off := 0x0A0, acc := .ro, mask := 0x03FFFFFF, dims := [(4, 8)] }

/-- R351 (16_switch_core). -/
def BUFM.POOL_USE0 : Reg :=
  { page := 0x40, off := 0x0C0, acc := .ro, mask := 0x0007FFFF }

/-- R351 (16_switch_core). -/
def BUFM.POOL_USE1 : Reg :=
  { page := 0x40, off := 0x0C4, acc := .ro, mask := 0x007FFFFF }

/-- R351 (16_switch_core). -/
def BUFM.XOFF_STAT : Reg :=
  { page := 0x40, off := 0x0C8, acc := .ro, mask := 0x0001FFFF }
def BUFM.XOFF_STAT_FULL : Fld := ⟨BUFM.XOFF_STAT, 16, 1⟩

/-- R351 (16_switch_core). -/
def BUFM.PEAK : Reg :=
  { page := 0x40, off := 0x0CC, acc := .rc, mask := 0x03FFFFFF }

/-- R352 (16_switch_core). -/
def BUFM.POOL_CFG : Reg :=
  { page := 0x40, off := 0x400, acc := .st, rst := 0x01000001, mask := 0x07FF0001,
    ok := [⟨16, 11, [(1, 1024)]⟩] }
def BUFM.POOL_CFG_BALLAST_EN : Fld := ⟨BUFM.POOL_CFG, 0, 1⟩
def BUFM.POOL_CFG_SPILL_TH : Fld := ⟨BUFM.POOL_CFG, 16, 11⟩

/-- R352 (16_switch_core). -/
def BUFM.GLOBAL : Reg :=
  { page := 0x40, off := 0x404, acc := .st, rst := 0x00000800, mask := 0x0003FFFF }
def BUFM.GLOBAL_G_TH : Fld := ⟨BUFM.GLOBAL, 0, 18⟩

/-- R352 (16_switch_core). -/
def BUFM.HYST : Reg :=
  { page := 0x40, off := 0x408, acc := .st, rst := 0x00000400, mask := 0x0003FFFF }
def BUFM.HYST_G_HYST : Fld := ⟨BUFM.HYST, 0, 18⟩

/-- R352 (16_switch_core). -/
def BUFM.DESC_TH : Reg :=
  { page := 0x40, off := 0x40C, acc := .st, rst := 0x00001000, mask := 0x000FFFFF,
    ok := [⟨0, 20, [(64, 65536)]⟩] }

/-- R352 (16_switch_core). -/
def BUFM.FREE0 : Reg :=
  { page := 0x40, off := 0x410, acc := .ro, mask := 0x0007FFFF }

/-- R352 (16_switch_core). -/
def BUFM.SETASIDE0 : Reg :=
  { page := 0x40, off := 0x414, acc := .ro, mask := 0x0007FFFF }

/-- R352 (16_switch_core). -/
def BUFM.FREE1 : Reg :=
  { page := 0x40, off := 0x418, acc := .ro, mask := 0x007FFFFF }

/-- R352 (16_switch_core). -/
def BUFM.DESC_FREE : Reg :=
  { page := 0x40, off := 0x41C, acc := .ro, mask := 0x001FFFFF }

/-- R352 (16_switch_core). -/
def BUFM.GSTAT : Reg :=
  { page := 0x40, off := 0x420, acc := .ro, mask := 0x07FF001F }
def BUFM.GSTAT_SHORT : Fld := ⟨BUFM.GSTAT, 0, 1⟩
def BUFM.GSTAT_DESC : Fld := ⟨BUFM.GSTAT, 1, 1⟩
def BUFM.GSTAT_OVERCOMMIT0 : Fld := ⟨BUFM.GSTAT, 2, 1⟩
def BUFM.GSTAT_OVERCOMMIT1 : Fld := ⟨BUFM.GSTAT, 3, 1⟩
def BUFM.GSTAT_BALLAST_USABLE : Fld := ⟨BUFM.GSTAT, 4, 1⟩

/-- R352 (16_switch_core). -/
def BUFM.AUDIT_CFG : Reg :=
  { page := 0x40, off := 0x424, acc := .st, rst := 0x0002000A, mask := 0x00070FFF,
    ok := [⟨0, 12, [(1, 3600)]⟩, ⟨16, 2, [(1, 3)]⟩] }
def BUFM.AUDIT_CFG_PERIOD : Fld := ⟨BUFM.AUDIT_CFG, 0, 12⟩
def BUFM.AUDIT_CFG_PASSES : Fld := ⟨BUFM.AUDIT_CFG, 16, 2⟩
def BUFM.AUDIT_CFG_RECLAIM : Fld := ⟨BUFM.AUDIT_CFG, 18, 1⟩

/-- R352 (16_switch_core). -/
def BUFM.AUDIT_CTRL : Reg :=
  { page := 0x40, off := 0x428, acc := .wo, mask := 0x00000003 }
def BUFM.AUDIT_CTRL_START : Fld := ⟨BUFM.AUDIT_CTRL, 0, 1⟩
def BUFM.AUDIT_CTRL_ABORT : Fld := ⟨BUFM.AUDIT_CTRL, 1, 1⟩

/-- R352 (16_switch_core). -/
def BUFM.AUDIT_STAT : Reg :=
  { page := 0x40, off := 0x42C, acc := .ro }

/-- R352 (16_switch_core). -/
def BUFM.LEAKS : Reg :=
  { page := 0x40, off := 0x430, acc := .rc }

/-- R352 (16_switch_core). -/
def BUFM.LEAK_INFO : Reg :=
  { page := 0x40, off := 0x434, acc := .ro, mask := 0x007FFFFF }
def BUFM.LEAK_INFO_INDEX : Fld := ⟨BUFM.LEAK_INFO, 0, 22⟩
def BUFM.LEAK_INFO_POOL : Fld := ⟨BUFM.LEAK_INFO, 22, 1⟩

/-- R352 (16_switch_core). -/
def BUFM.LEAK_STAMP_LO : Reg :=
  { page := 0x40, off := 0x438, acc := .ro }

/-- R352 (16_switch_core). -/
def BUFM.LEAK_STAMP_HI : Reg :=
  { page := 0x40, off := 0x43C, acc := .ro }

/-- R352 (16_switch_core). -/
def BUFM.DOUBLE_FREES : Reg :=
  { page := 0x40, off := 0x440, acc := .rc }

/-- R352 (16_switch_core). -/
def BUFM.DF_INFO : Reg :=
  { page := 0x40, off := 0x444, acc := .ro }
def BUFM.DF_INFO_INDEX : Fld := ⟨BUFM.DF_INFO, 0, 22⟩
def BUFM.DF_INFO_POOL : Fld := ⟨BUFM.DF_INFO, 22, 1⟩
def BUFM.DF_INFO_REQ : Fld := ⟨BUFM.DF_INFO, 23, 6⟩
def BUFM.DF_INFO_CAUSE : Fld := ⟨BUFM.DF_INFO, 29, 3⟩

/-- R352 (16_switch_core). -/
def BUFM.DF_STAMP_LO : Reg :=
  { page := 0x40, off := 0x448, acc := .ro }

/-- R352 (16_switch_core). -/
def BUFM.DF_STAMP_HI : Reg :=
  { page := 0x40, off := 0x44C, acc := .ro }

/-- R352 (16_switch_core). -/
def BUFM.FREELIST_BAD : Reg :=
  { page := 0x40, off := 0x450, acc := .rc }

/-- R352 (16_switch_core). -/
def BUFM.RECLAIMED : Reg :=
  { page := 0x40, off := 0x454, acc := .rc }

/-- R352 (16_switch_core). -/
def BUFM.OVERRUNS : Reg :=
  { page := 0x40, off := 0x458, acc := .rc }

/-- The registers of page 0x40 at 0x040 and above (R68). -/
def BUFM.rows : List Reg :=
  [BUFM.MIN0, BUFM.QUOTA0, BUFM.MIN1, BUFM.QUOTA1,
   BUFM.HR_CFG, BUFM.HR_PARTNER, BUFM.HR_BYTES, BUFM.HR_UNITS,
   BUFM.XOFF_TH, BUFM.XON_TH, BUFM.USE, BUFM.POOL_USE0,
   BUFM.POOL_USE1, BUFM.XOFF_STAT, BUFM.PEAK, BUFM.POOL_CFG,
   BUFM.GLOBAL, BUFM.HYST, BUFM.DESC_TH, BUFM.FREE0,
   BUFM.SETASIDE0, BUFM.FREE1, BUFM.DESC_FREE, BUFM.GSTAT,
   BUFM.AUDIT_CFG, BUFM.AUDIT_CTRL, BUFM.AUDIT_STAT, BUFM.LEAKS,
   BUFM.LEAK_INFO, BUFM.LEAK_STAMP_LO, BUFM.LEAK_STAMP_HI, BUFM.DOUBLE_FREES,
   BUFM.DF_INFO, BUFM.DF_STAMP_LO, BUFM.DF_STAMP_HI, BUFM.FREELIST_BAD,
   BUFM.RECLAIMED, BUFM.OVERRUNS]
def BUFM.int_SHORTAGE : IntBit := ⟨0x40, 0⟩
def BUFM.int_DESC_LOW : IntBit := ⟨0x40, 1⟩
def BUFM.int_OVERCOMMIT : IntBit := ⟨0x40, 2⟩
def BUFM.int_DOUBLE_FREE : IntBit := ⟨0x40, 3⟩
def BUFM.int_LEAK : IntBit := ⟨0x40, 4⟩
def BUFM.int_AUDIT_DONE : IntBit := ⟨0x40, 5⟩
def BUFM.int_OVERRUN : IntBit := ⟨0x40, 6⟩
def BUFM.int_FREELIST_BAD : IntBit := ⟨0x40, 7⟩

/-! ### Page 0x41, SWCR -/

/-- R353 (16_switch_core). -/
def SWCR.HOLD_CFG : Reg :=
  { page := 0x41, off := 0x040, acc := .st, rst := 0x00000064, mask := 0x000007FF,
    ok := [⟨0, 11, [(0, 1000)]⟩] }
def SWCR.HOLD_CFG_HOLD_MS : Fld := ⟨SWCR.HOLD_CFG, 0, 11⟩

/-- R353 (16_switch_core). -/
def SWCR.STAGE_CFG : Reg :=
  { page := 0x41, off := 0x044, acc := .st, rst := 0x000000FA, mask := 0x000003FF,
    ok := [⟨0, 10, [(50, 1000)]⟩] }
def SWCR.STAGE_CFG_STAGE_NS : Fld := ⟨SWCR.STAGE_CFG, 0, 10⟩

/-- R353 (16_switch_core). -/
def SWCR.HOLD_STAT : Reg :=
  { page := 0x41, off := 0x048, acc := .ro, mask := 0x1FFFFF01 }
def SWCR.HOLD_STAT_HOLDING : Fld := ⟨SWCR.HOLD_STAT, 0, 1⟩

/-- R353 (16_switch_core). -/
def SWCR.DOWN_DISC : Reg :=
  { page := 0x41, off := 0x04C, acc := .rc }

/-- R353 (16_switch_core). -/
def SWCR.FLUSHED : Reg :=
  { page := 0x41, off := 0x050, acc := .rc }

/-- R353 (16_switch_core). -/
def SWCR.RELEASED : Reg :=
  { page := 0x41, off := 0x054, acc := .rc }

/-- R353 (16_switch_core). -/
def SWCR.STOMPED : Reg :=
  { page := 0x41, off := 0x058, acc := .rc }

/-- R353 (16_switch_core). -/
def SWCR.READ_ERR : Reg :=
  { page := 0x41, off := 0x05C, acc := .rc }

/-- R353 (16_switch_core). -/
def SWCR.CUT : Reg :=
  { page := 0x41, off := 0x060, acc := .rc }

/-- R353 (16_switch_core). -/
def SWCR.UNDERRUN : Reg :=
  { page := 0x41, off := 0x064, acc := .rc }

/-- R354 (16_switch_core). -/
def SWCR.RES_LIMIT : Reg :=
  { page := 0x41, off := 0x400, acc := .st, rst := 0x000003E8, mask := 0x0000FFFF, dims := [(4, 8)],
    ok := [⟨0, 16, [(0, 60000)]⟩] }

/-- R354 (16_switch_core). -/
def SWCR.DISC : Reg :=
  { page := 0x41, off := 0x440, acc := .rc, dims := [(4, 19)] }

/-- R354 (16_switch_core). -/
def SWCR.DESC_USED : Reg :=
  { page := 0x41, off := 0x490, acc := .ro, mask := 0x001FFFFF }

/-- R354 (16_switch_core). -/
def SWCR.DESC_PEAK : Reg :=
  { page := 0x41, off := 0x494, acc := .rc, mask := 0x001FFFFF }

/-- R354 (16_switch_core). -/
def SWCR.HOLD_UNITS : Reg :=
  { page := 0x41, off := 0x498, acc := .ro, mask := 0x03FFFFFF }

/-- R354 (16_switch_core). -/
def SWCR.BANK_WAIT : Reg :=
  { page := 0x41, off := 0x49C, acc := .rc }

/-- The registers of page 0x41 at 0x040 and above (R68). -/
def SWCR.rows : List Reg :=
  [SWCR.HOLD_CFG, SWCR.STAGE_CFG, SWCR.HOLD_STAT, SWCR.DOWN_DISC,
   SWCR.FLUSHED, SWCR.RELEASED, SWCR.STOMPED, SWCR.READ_ERR,
   SWCR.CUT, SWCR.UNDERRUN, SWCR.RES_LIMIT, SWCR.DISC,
   SWCR.DESC_USED, SWCR.DESC_PEAK, SWCR.HOLD_UNITS, SWCR.BANK_WAIT]
def SWCR.int_STOMP : IntBit := ⟨0x41, 0⟩
def SWCR.int_READ_ERR : IntBit := ⟨0x41, 1⟩
def SWCR.int_FLUSH : IntBit := ⟨0x41, 2⟩
def SWCR.int_HOLD_START : IntBit := ⟨0x41, 3⟩

/-! ### Page 0x48, TMGR -/

/-- R372 (17_traffic_manager). -/
def TMGR.QCFG : Reg :=
  { page := 0x48, off := 0x040, acc := .st, rst := 0x00000010, mask := 0x0000FFF7, dims := [(4, 8)],
    ok := [⟨4, 12, [(1, 4095)]⟩] }
def TMGR.QCFG_PRIO : Fld := ⟨TMGR.QCFG, 0, 3⟩
def TMGR.QCFG_WEIGHT : Fld := ⟨TMGR.QCFG, 4, 12⟩

/-- R372 (17_traffic_manager). -/
def TMGR.QFRAMES : Reg :=
  { page := 0x48, off := 0x060, acc := .ro, mask := 0x001FFFFF, dims := [(4, 8)] }

/-- R373 (17_traffic_manager). -/
def TMGR.COPY_FREE : Reg :=
  { page := 0x48, off := 0x400, acc := .ro, rst := 0x00200000, mask := 0x003FFFFF }

/-- R373 (17_traffic_manager). -/
def TMGR.COPY_WAIT : Reg :=
  { page := 0x48, off := 0x404, acc := .rc }

/-- R373 (17_traffic_manager). -/
def TMGR.MISMAP : Reg :=
  { page := 0x48, off := 0x408, acc := .rc }

/-- R373 (17_traffic_manager). -/
def TMGR.SAMPLE_CFG : Reg :=
  { page := 0x48, off := 0x40C, acc := .st, rst := 0x00000001, mask := 0x00000001 }
def TMGR.SAMPLE_CFG_EN : Fld := ⟨TMGR.SAMPLE_CFG, 0, 1⟩

/-- R373 (17_traffic_manager). -/
def TMGR.ALERTS : Reg :=
  { page := 0x48, off := 0x410, acc := .rc }

/-- R373 (17_traffic_manager). -/
def TMGR.DLY_TH : Reg :=
  { page := 0x48, off := 0x440, acc := .st, mask := 0x00FFFFFF, dims := [(4, 8)] }

/-- R373 (17_traffic_manager). -/
def TMGR.DEPTH_TH : Reg :=
  { page := 0x48, off := 0x460, acc := .st, mask := 0x003FFFFF, dims := [(4, 8)] }

/-- R373 (17_traffic_manager). -/
def TMGR.EGR_MAP : Reg :=
  { page := 0x48, off := 0x500, acc := .st, dims := [(4, 34)],
    ok := [⟨30, 2, [(0, 2)]⟩] }
def TMGR.EGR_MAP_DEF_SUB : Fld := ⟨TMGR.EGR_MAP, 0, 15⟩
def TMGR.EGR_MAP_BASE : Fld := ⟨TMGR.EGR_MAP, 15, 15⟩
def TMGR.EGR_MAP_SUB_SRC : Fld := ⟨TMGR.EGR_MAP, 30, 2⟩

/-- R373 (17_traffic_manager). -/
def TMGR.SUB_KEY : Reg :=
  { page := 0x48, off := 0x600, acc := .st, mask := 0xFFFF07FF, dims := [(4, 34)] }
def TMGR.SUB_KEY_OFF : Fld := ⟨TMGR.SUB_KEY, 0, 8⟩
def TMGR.SUB_KEY_LAYER : Fld := ⟨TMGR.SUB_KEY, 8, 3⟩
def TMGR.SUB_KEY_MASK : Fld := ⟨TMGR.SUB_KEY, 16, 16⟩

/-- R373 (17_traffic_manager). -/
def TMGR.ING_CLS : Reg :=
  { page := 0x48, off := 0x700, acc := .st, mask := 0x00000001, dims := [(4, 34)] }
def TMGR.ING_CLS_CLS_SRC : Fld := ⟨TMGR.ING_CLS, 0, 1⟩

/-- The registers of page 0x48 at 0x040 and above (R68). -/
def TMGR.rows : List Reg :=
  [TMGR.QCFG, TMGR.QFRAMES, TMGR.COPY_FREE, TMGR.COPY_WAIT,
   TMGR.MISMAP, TMGR.SAMPLE_CFG, TMGR.ALERTS, TMGR.DLY_TH,
   TMGR.DEPTH_TH, TMGR.EGR_MAP, TMGR.SUB_KEY, TMGR.ING_CLS]
def TMGR.int_MISMAP : IntBit := ⟨0x48, 0⟩
def TMGR.int_COPY_WAIT : IntBit := ⟨0x48, 1⟩
def TMGR.int_QUEUE_ALERT : IntBit := ⟨0x48, 2⟩

/-! ### Page 0x49, SHAP -/

/-- R374 (17_traffic_manager). -/
def SHAP.CIR : Reg :=
  { page := 0x49, off := 0x040, acc := .st, mask := 0x1FFFFFFF,
    ok := [⟨0, 29, [(0, 0), (8, 400000000)]⟩] }

/-- R374 (17_traffic_manager). -/
def SHAP.CBS : Reg :=
  { page := 0x49, off := 0x044, acc := .st, rst := 0x00004000, mask := 0x01FFFFFF,
    ok := [⟨0, 25, [(1, 16777216)]⟩] }

/-- R374 (17_traffic_manager). -/
def SHAP.PIR : Reg :=
  { page := 0x49, off := 0x048, acc := .st, mask := 0x1FFFFFFF,
    ok := [⟨0, 29, [(0, 0), (8, 400000000)]⟩] }

/-- R374 (17_traffic_manager). -/
def SHAP.PBS : Reg :=
  { page := 0x49, off := 0x04C, acc := .st, rst := 0x00004000, mask := 0x01FFFFFF,
    ok := [⟨0, 25, [(1, 16777216)]⟩] }

/-- R374 (17_traffic_manager). -/
def SHAP.SCHED : Reg :=
  { page := 0x49, off := 0x050, acc := .st, mask := 0xFFF7FFFF,
    ok := [⟨20, 12, [(1, 4095)]⟩] }
def SHAP.SCHED_PARENT : Fld := ⟨SHAP.SCHED, 0, 16⟩
def SHAP.SCHED_PRIO : Fld := ⟨SHAP.SCHED, 16, 3⟩
def SHAP.SCHED_WEIGHT : Fld := ⟨SHAP.SCHED, 20, 12⟩

/-- R374 (17_traffic_manager). -/
def SHAP.LEN_ADJ : Reg :=
  { page := 0x49, off := 0x054, acc := .st, rst := 0x00000014, mask := 0x000000FF,
    ok := [⟨0, 8, [(0, 127), (192, 255)]⟩] }

/-- R374 (17_traffic_manager). -/
def SHAP.TOK_C : Reg :=
  { page := 0x49, off := 0x058, acc := .ro }

/-- R374 (17_traffic_manager). -/
def SHAP.TOK_P : Reg :=
  { page := 0x49, off := 0x05C, acc := .ro }

/-- R374 (17_traffic_manager). -/
def SHAP.NODE_STAT : Reg :=
  { page := 0x49, off := 0x060, acc := .ro, mask := 0x00000007 }
def SHAP.NODE_STAT_ELIGIBLE : Fld := ⟨SHAP.NODE_STAT, 0, 1⟩
def SHAP.NODE_STAT_COMMITTED : Fld := ⟨SHAP.NODE_STAT, 1, 1⟩
def SHAP.NODE_STAT_GATED : Fld := ⟨SHAP.NODE_STAT, 2, 1⟩

/-- R374 (17_traffic_manager). -/
def SHAP.TX_FRAMES : Reg :=
  { page := 0x49, off := 0x064, acc := .ro }

/-- R374 (17_traffic_manager). -/
def SHAP.TX_BYTES_LO : Reg :=
  { page := 0x49, off := 0x068, acc := .ro }

/-- R374 (17_traffic_manager). -/
def SHAP.TX_BYTES_HI : Reg :=
  { page := 0x49, off := 0x06C, acc := .ro, perPath := true }

/-- The registers of page 0x49 at 0x040 and above (R68). -/
def SHAP.rows : List Reg :=
  [SHAP.CIR, SHAP.CBS, SHAP.PIR, SHAP.PBS,
   SHAP.SCHED, SHAP.LEN_ADJ, SHAP.TOK_C, SHAP.TOK_P,
   SHAP.NODE_STAT, SHAP.TX_FRAMES, SHAP.TX_BYTES_LO, SHAP.TX_BYTES_HI]

/-! ### Page 0x4A, POLC -/

/-- R375 (17_traffic_manager). -/
def POLC.MODE : Reg :=
  { page := 0x4A, off := 0x040, acc := .st, rst := 0x00000008, mask := 0x0000FF0F,
    ok := [⟨0, 2, [(0, 2)]⟩] }
def POLC.MODE_TYPE : Fld := ⟨POLC.MODE, 0, 2⟩
def POLC.MODE_AWARE : Fld := ⟨POLC.MODE, 2, 1⟩
def POLC.MODE_RED_DROP : Fld := ⟨POLC.MODE, 3, 1⟩
def POLC.MODE_LEN_ADJ : Fld := ⟨POLC.MODE, 8, 8⟩

/-- R375 (17_traffic_manager). -/
def POLC.CIR : Reg :=
  { page := 0x4A, off := 0x044, acc := .st, rst := 0x00000008, mask := 0x1FFFFFFF,
    ok := [⟨0, 29, [(8, 400000000)]⟩] }

/-- R375 (17_traffic_manager). -/
def POLC.CBS : Reg :=
  { page := 0x4A, off := 0x048, acc := .st, rst := 0x00004000, mask := 0x01FFFFFF,
    ok := [⟨0, 25, [(1, 16777216)]⟩] }

/-- R375 (17_traffic_manager). -/
def POLC.PIR : Reg :=
  { page := 0x4A, off := 0x04C, acc := .st, rst := 0x00000008, mask := 0x1FFFFFFF,
    ok := [⟨0, 29, [(8, 400000000)]⟩] }

/-- R375 (17_traffic_manager). -/
def POLC.EBS_PBS : Reg :=
  { page := 0x4A, off := 0x050, acc := .st, rst := 0x00004000, mask := 0x01FFFFFF,
    ok := [⟨0, 25, [(1, 16777216)]⟩] }

/-- R375 (17_traffic_manager). -/
def POLC.TOK_C : Reg :=
  { page := 0x4A, off := 0x054, acc := .ro }

/-- R375 (17_traffic_manager). -/
def POLC.TOK_E : Reg :=
  { page := 0x4A, off := 0x058, acc := .ro }

/-- R375 (17_traffic_manager). -/
def POLC.GREEN : Reg :=
  { page := 0x4A, off := 0x05C, acc := .ro }

/-- R375 (17_traffic_manager). -/
def POLC.YELLOW : Reg :=
  { page := 0x4A, off := 0x060, acc := .ro }

/-- R375 (17_traffic_manager). -/
def POLC.RED : Reg :=
  { page := 0x4A, off := 0x064, acc := .ro }

/-- R375 (17_traffic_manager). -/
def POLC.RED_DISC : Reg :=
  { page := 0x4A, off := 0x068, acc := .rc }

/-- The registers of page 0x4A at 0x040 and above (R68). -/
def POLC.rows : List Reg :=
  [POLC.MODE, POLC.CIR, POLC.CBS, POLC.PIR,
   POLC.EBS_PBS, POLC.TOK_C, POLC.TOK_E, POLC.GREEN,
   POLC.YELLOW, POLC.RED, POLC.RED_DISC]
def POLC.int_RED_DISC : IntBit := ⟨0x4A, 0⟩

/-! ### Page 0x4B, GATE -/

/-- R376 (17_traffic_manager). -/
def GATE.GATE_CFG : Reg :=
  { page := 0x4B, off := 0x040, acc := .rw, mask := 0x00000001 }
def GATE.GATE_CFG_GATE_EN : Fld := ⟨GATE.GATE_CFG, 0, 1⟩

/-- R376 (17_traffic_manager). -/
def GATE.MAX_SDU : Reg :=
  { page := 0x4B, off := 0x044, acc := .rw, rst := 0x000005EE, mask := 0x00003FFF, dims := [(4, 8)],
    ok := [⟨0, 14, [(64, 10240)]⟩] }

/-- R376 (17_traffic_manager). -/
def GATE.ADM_BASE_LO : Reg :=
  { page := 0x4B, off := 0x064, acc := .rw }

/-- R376 (17_traffic_manager). -/
def GATE.ADM_BASE_HI : Reg :=
  { page := 0x4B, off := 0x068, acc := .rw }

/-- R376 (17_traffic_manager). -/
def GATE.ADM_CYCLE : Reg :=
  { page := 0x4B, off := 0x06C, acc := .rw, rst := 0x000F4240 }

/-- R376 (17_traffic_manager). -/
def GATE.ADM_LEN : Reg :=
  { page := 0x4B, off := 0x070, acc := .rw, rst := 0x00000001, mask := 0x000001FF }

/-- R376 (17_traffic_manager). -/
def GATE.GCL_IDX : Reg :=
  { page := 0x4B, off := 0x074, acc := .rw, mask := 0x000001FF }
def GATE.GCL_IDX_VIEW : Fld := ⟨GATE.GCL_IDX, 8, 1⟩

/-- R376 (17_traffic_manager). -/
def GATE.GCL_GATES : Reg :=
  { page := 0x4B, off := 0x078, acc := .rw, mask := 0x000000FF }
def GATE.GCL_GATES_GATES : Fld := ⟨GATE.GCL_GATES, 0, 8⟩

/-- R376 (17_traffic_manager). -/
def GATE.GCL_TIME : Reg :=
  { page := 0x4B, off := 0x07C, acc := .rw }

/-- R376 (17_traffic_manager). -/
def GATE.GATE_CTRL : Reg :=
  { page := 0x4B, off := 0x080, acc := .wo, mask := 0x00000003 }
def GATE.GATE_CTRL_CHANGE : Fld := ⟨GATE.GATE_CTRL, 0, 1⟩
def GATE.GATE_CTRL_CANCEL : Fld := ⟨GATE.GATE_CTRL, 1, 1⟩

/-- R376 (17_traffic_manager). -/
def GATE.GATE_STAT : Reg :=
  { page := 0x4B, off := 0x084, acc := .ro, mask := 0x0003FFFF }
def GATE.GATE_STAT_PENDING : Fld := ⟨GATE.GATE_STAT, 16, 1⟩
def GATE.GATE_STAT_LIST_ACTIVE : Fld := ⟨GATE.GATE_STAT, 17, 1⟩

/-- R376 (17_traffic_manager). -/
def GATE.OPER_BASE_LO : Reg :=
  { page := 0x4B, off := 0x088, acc := .ro }

/-- R376 (17_traffic_manager). -/
def GATE.OPER_BASE_HI : Reg :=
  { page := 0x4B, off := 0x08C, acc := .ro }

/-- R376 (17_traffic_manager). -/
def GATE.OPER_CYCLE : Reg :=
  { page := 0x4B, off := 0x090, acc := .ro }

/-- R376 (17_traffic_manager). -/
def GATE.OVERRUNS : Reg :=
  { page := 0x4B, off := 0x094, acc := .rc }

/-- R376 (17_traffic_manager). -/
def GATE.CHANGES : Reg :=
  { page := 0x4B, off := 0x098, acc := .ro }

/-- The registers of page 0x4B at 0x040 and above (R68). -/
def GATE.rows : List Reg :=
  [GATE.GATE_CFG, GATE.MAX_SDU, GATE.ADM_BASE_LO, GATE.ADM_BASE_HI,
   GATE.ADM_CYCLE, GATE.ADM_LEN, GATE.GCL_IDX, GATE.GCL_GATES,
   GATE.GCL_TIME, GATE.GATE_CTRL, GATE.GATE_STAT, GATE.OPER_BASE_LO,
   GATE.OPER_BASE_HI, GATE.OPER_CYCLE, GATE.OVERRUNS, GATE.CHANGES]
def GATE.int_CHANGE_DONE : IntBit := ⟨0x4B, 0⟩
def GATE.int_CHANGE_REFUSED : IntBit := ⟨0x4B, 1⟩
def GATE.int_OVERRUN : IntBit := ⟨0x4B, 2⟩

/-! ### Page 0x50, MEMC -/

/-- R403 (19_memory). -/
def MEMC.CH_CFG : Reg :=
  { page := 0x50, off := 0x040, acc := .rw, rst := 0x000006A0, mask := 0x000007F3,
    ok := [⟨0, 2, [(0, 2)]⟩, ⟨4, 5, [(6, 16)]⟩] }
def MEMC.CH_CFG_REF_MULT : Fld := ⟨MEMC.CH_CFG, 0, 2⟩
def MEMC.CH_CFG_P : Fld := ⟨MEMC.CH_CFG, 4, 5⟩
def MEMC.CH_CFG_SCRUB_EN : Fld := ⟨MEMC.CH_CFG, 9, 1⟩
def MEMC.CH_CFG_CE_WRITEBACK : Fld := ⟨MEMC.CH_CFG, 10, 1⟩

/-- R403 (19_memory). -/
def MEMC.CH_STAT : Reg :=
  { page := 0x50, off := 0x044, acc := .ro, mask := 0x0000007F }
def MEMC.CH_STAT_STATE : Fld := ⟨MEMC.CH_STAT, 0, 2⟩
def MEMC.CH_STAT_CLASS : Fld := ⟨MEMC.CH_STAT, 2, 1⟩
def MEMC.CH_STAT_RATE : Fld := ⟨MEMC.CH_STAT, 3, 2⟩
def MEMC.CH_STAT_TEMP_HIGH : Fld := ⟨MEMC.CH_STAT, 5, 1⟩
def MEMC.CH_STAT_REF_FORCED : Fld := ⟨MEMC.CH_STAT, 6, 1⟩

/-- R403 (19_memory). -/
def MEMC.CE_CNT : Reg :=
  { page := 0x50, off := 0x048, acc := .rc }

/-- R403 (19_memory). -/
def MEMC.UE_CNT : Reg :=
  { page := 0x50, off := 0x04C, acc := .rc }

/-- R403 (19_memory). -/
def MEMC.LAST_ERR : Reg :=
  { page := 0x50, off := 0x050, acc := .ro }
def MEMC.LAST_ERR_UE : Fld := ⟨MEMC.LAST_ERR, 29, 1⟩
def MEMC.LAST_ERR_WORD : Fld := ⟨MEMC.LAST_ERR, 30, 1⟩
def MEMC.LAST_ERR_VALID : Fld := ⟨MEMC.LAST_ERR, 31, 1⟩

/-- R403 (19_memory). -/
def MEMC.LAST_ERR_STAMP_LO : Reg :=
  { page := 0x50, off := 0x054, acc := .ro }

/-- R403 (19_memory). -/
def MEMC.LAST_ERR_STAMP_HI : Reg :=
  { page := 0x50, off := 0x058, acc := .ro }

/-- R403 (19_memory). -/
def MEMC.PIN_CE : Reg :=
  { page := 0x50, off := 0x05C, acc := .rc, dims := [(4, 16)] }

/-- R403 (19_memory). -/
def MEMC.PIN_SUSPECT : Reg :=
  { page := 0x50, off := 0x09C, acc := .ro, mask := 0x0000FFFF }

/-- R403 (19_memory). -/
def MEMC.ACTIVATES : Reg :=
  { page := 0x50, off := 0x0A0, acc := .ro }

/-- R403 (19_memory). -/
def MEMC.NBR_REFS : Reg :=
  { page := 0x50, off := 0x0A4, acc := .ro }

/-- R403 (19_memory). -/
def MEMC.POSTPONE_PEAK : Reg :=
  { page := 0x50, off := 0x0A8, acc := .rc, mask := 0x0000000F }

/-- R403 (19_memory). -/
def MEMC.SCRUB_CTRL : Reg :=
  { page := 0x50, off := 0x0AC, acc := .wo, mask := 0x00000003 }
def MEMC.SCRUB_CTRL_START : Fld := ⟨MEMC.SCRUB_CTRL, 0, 1⟩
def MEMC.SCRUB_CTRL_ABORT : Fld := ⟨MEMC.SCRUB_CTRL, 1, 1⟩

/-- R403 (19_memory). -/
def MEMC.SCRUB_STAT : Reg :=
  { page := 0x50, off := 0x0B0, acc := .ro }

/-- R404 (19_memory). -/
def MEMC.SCRUB_CFG : Reg :=
  { page := 0x50, off := 0x400, acc := .rw, rst := 0x00000018, mask := 0x0000FFFF,
    ok := [⟨0, 16, [(1, 8760)]⟩] }
def MEMC.SCRUB_CFG_PERIOD : Fld := ⟨MEMC.SCRUB_CFG, 0, 16⟩

/-- R404 (19_memory). -/
def MEMC.REF_CFG : Reg :=
  { page := 0x50, off := 0x404, acc := .rw, rst := 0x00041001, mask := 0x00FFFF01,
    ok := [⟨8, 8, [(1, 255)]⟩, ⟨16, 8, [(1, 255)]⟩] }
def MEMC.REF_CFG_HK_OWN : Fld := ⟨MEMC.REF_CFG, 0, 1⟩
def MEMC.REF_CFG_MR4_POLL : Fld := ⟨MEMC.REF_CFG, 8, 8⟩
def MEMC.REF_CFG_REF_GRACE : Fld := ⟨MEMC.REF_CFG, 16, 8⟩

/-- R404 (19_memory). -/
def MEMC.PASR_FLOW : Reg :=
  { page := 0x50, off := 0x408, acc := .rw, mask := 0x000000FF }

/-- R404 (19_memory). -/
def MEMC.PASR_KEEP : Reg :=
  { page := 0x50, off := 0x40C, acc := .ro, rst := 0x000000FF, mask := 0x000000FF }

/-- R404 (19_memory). -/
def MEMC.RETIRE_CTRL : Reg :=
  { page := 0x50, off := 0x410, acc := .wo, mask := 0x0000013F }
def MEMC.RETIRE_CTRL_CHANNEL : Fld := ⟨MEMC.RETIRE_CTRL, 0, 6⟩
def MEMC.RETIRE_CTRL_GO : Fld := ⟨MEMC.RETIRE_CTRL, 8, 1⟩

/-- R404 (19_memory). -/
def MEMC.RETIRE_STAT : Reg :=
  { page := 0x50, off := 0x414, acc := .ro }

/-- R404 (19_memory). -/
def MEMC.RETIRED_LO : Reg :=
  { page := 0x50, off := 0x418, acc := .ro }

/-- R404 (19_memory). -/
def MEMC.RETIRED_HI : Reg :=
  { page := 0x50, off := 0x41C, acc := .ro }

/-- R404 (19_memory). -/
def MEMC.RETIRE_CFG : Reg :=
  { page := 0x50, off := 0x420, acc := .rw, rst := 0x00001000, mask := 0x0000FF03,
    ok := [⟨8, 8, [(1, 255)]⟩] }
def MEMC.RETIRE_CFG_AUTO : Fld := ⟨MEMC.RETIRE_CFG, 0, 1⟩
def MEMC.RETIRE_CFG_PIN_AUTO : Fld := ⟨MEMC.RETIRE_CFG, 1, 1⟩
def MEMC.RETIRE_CFG_UE_TH : Fld := ⟨MEMC.RETIRE_CFG, 8, 8⟩

/-- R404 (19_memory). -/
def MEMC.RET_LOST : Reg :=
  { page := 0x50, off := 0x424, acc := .rc }

/-- R404 (19_memory). -/
def MEMC.RET_BLOCKS : Reg :=
  { page := 0x50, off := 0x428, acc := .ro, mask := 0x007FFFFF }

/-- The registers of page 0x50 at 0x040 and above (R68). -/
def MEMC.rows : List Reg :=
  [MEMC.CH_CFG, MEMC.CH_STAT, MEMC.CE_CNT, MEMC.UE_CNT,
   MEMC.LAST_ERR, MEMC.LAST_ERR_STAMP_LO, MEMC.LAST_ERR_STAMP_HI, MEMC.PIN_CE,
   MEMC.PIN_SUSPECT, MEMC.ACTIVATES, MEMC.NBR_REFS, MEMC.POSTPONE_PEAK,
   MEMC.SCRUB_CTRL, MEMC.SCRUB_STAT, MEMC.SCRUB_CFG, MEMC.REF_CFG,
   MEMC.PASR_FLOW, MEMC.PASR_KEEP, MEMC.RETIRE_CTRL, MEMC.RETIRE_STAT,
   MEMC.RETIRED_LO, MEMC.RETIRED_HI, MEMC.RETIRE_CFG, MEMC.RET_LOST,
   MEMC.RET_BLOCKS]
def MEMC.int_UE : IntBit := ⟨0x50, 0⟩
def MEMC.int_PIN_SUSPECT : IntBit := ⟨0x50, 1⟩
def MEMC.int_MR4_CHANGE : IntBit := ⟨0x50, 2⟩
def MEMC.int_REF_FORCED : IntBit := ⟨0x50, 3⟩
def MEMC.int_SCRUB_DONE : IntBit := ⟨0x50, 4⟩
def MEMC.int_RETIRE_DONE : IntBit := ⟨0x50, 5⟩
def MEMC.int_RETIRE_REFUSED : IntBit := ⟨0x50, 6⟩

/-! ### Page 0x51, MTRN -/

/-- R405 (19_memory). -/
def MTRN.STEP_CTRL : Reg :=
  { page := 0x51, off := 0x040, acc := .wo, mask := 0x00000307 }
def MTRN.STEP_CTRL_STEP : Fld := ⟨MTRN.STEP_CTRL, 0, 3⟩
def MTRN.STEP_CTRL_GO : Fld := ⟨MTRN.STEP_CTRL, 8, 1⟩
def MTRN.STEP_CTRL_ABORT : Fld := ⟨MTRN.STEP_CTRL, 9, 1⟩

/-- R405 (19_memory). -/
def MTRN.STEP_STAT : Reg :=
  { page := 0x51, off := 0x044, acc := .ro }

/-- R405 (19_memory). -/
def MTRN.PAT_CFG : Reg :=
  { page := 0x51, off := 0x048, acc := .rw, rst := 0x00000402, mask := 0x0000FFF7,
    ok := [⟨0, 3, [(0, 5)]⟩, ⟨4, 12, [(1, 4095)]⟩] }
def MTRN.PAT_CFG_PATTERN : Fld := ⟨MTRN.PAT_CFG, 0, 3⟩
def MTRN.PAT_CFG_LEN : Fld := ⟨MTRN.PAT_CFG, 4, 12⟩

/-- R405 (19_memory). -/
def MTRN.PAT_FIXED : Reg :=
  { page := 0x51, off := 0x04C, acc := .rw }

/-- R405 (19_memory). -/
def MTRN.PAT_ADDR : Reg :=
  { page := 0x51, off := 0x050, acc := .rw, mask := 0x00FFFFFF }

/-- R405 (19_memory). -/
def MTRN.CMP_CTRL : Reg :=
  { page := 0x51, off := 0x054, acc := .wo, mask := 0x00000007 }
def MTRN.CMP_CTRL_WRITE : Fld := ⟨MTRN.CMP_CTRL, 0, 1⟩
def MTRN.CMP_CTRL_READ_CMP : Fld := ⟨MTRN.CMP_CTRL, 1, 1⟩
def MTRN.CMP_CTRL_CLEAR : Fld := ⟨MTRN.CMP_CTRL, 2, 1⟩

/-- R405 (19_memory). -/
def MTRN.PIN_ERR : Reg :=
  { page := 0x51, off := 0x058, acc := .rc, dims := [(4, 16)] }

/-- R405 (19_memory). -/
def MTRN.DQ_RD_DLY : Reg :=
  { page := 0x51, off := 0x098, acc := .rw, dims := [(4, 4)],
    ok := [⟨0, 8, [(0, 127)]⟩, ⟨8, 8, [(0, 127)]⟩, ⟨16, 8, [(0, 127)]⟩, ⟨24, 8, [(0, 127)]⟩] }

/-- R405 (19_memory). -/
def MTRN.DQ_WR_DLY : Reg :=
  { page := 0x51, off := 0x0A8, acc := .rw, dims := [(4, 4)],
    ok := [⟨0, 8, [(0, 127)]⟩, ⟨8, 8, [(0, 127)]⟩, ⟨16, 8, [(0, 127)]⟩, ⟨24, 8, [(0, 127)]⟩] }

/-- R405 (19_memory). -/
def MTRN.CA_DLY0 : Reg :=
  { page := 0x51, off := 0x0B8, acc := .rw }

/-- R405 (19_memory). -/
def MTRN.CA_DLY1 : Reg :=
  { page := 0x51, off := 0x0BC, acc := .rw, mask := 0x00FFFFFF }

/-- R405 (19_memory). -/
def MTRN.WCK_DLY : Reg :=
  { page := 0x51, off := 0x0C0, acc := .rw, mask := 0x0000FFFF }
def MTRN.WCK_DLY_WCK : Fld := ⟨MTRN.WCK_DLY, 0, 8⟩

/-- R405 (19_memory). -/
def MTRN.VREF : Reg :=
  { page := 0x51, off := 0x0C4, acc := .rw, mask := 0x00FFFFFF }
def MTRN.VREF_CA : Fld := ⟨MTRN.VREF, 16, 8⟩

/-- R405 (19_memory). -/
def MTRN.TRK_CFG : Reg :=
  { page := 0x51, off := 0x0C8, acc := .rw, rst := 0x00080040, mask := 0x00FFFFFF,
    ok := [⟨0, 16, [(1, 10000)]⟩, ⟨16, 8, [(1, 127)]⟩] }
def MTRN.TRK_CFG_PERIOD : Fld := ⟨MTRN.TRK_CFG, 0, 16⟩
def MTRN.TRK_CFG_DRIFT_TH : Fld := ⟨MTRN.TRK_CFG, 16, 8⟩

/-- R405 (19_memory). -/
def MTRN.TRK_STAT : Reg :=
  { page := 0x51, off := 0x0CC, acc := .ro }

/-- R406 (19_memory). -/
def MTRN.TRAIN_STAT : Reg :=
  { page := 0x51, off := 0x400, acc := .ro, mask := 0x00FFFF03 }
def MTRN.TRAIN_STAT_WINDOW : Fld := ⟨MTRN.TRAIN_STAT, 0, 1⟩
def MTRN.TRAIN_STAT_HOST : Fld := ⟨MTRN.TRAIN_STAT, 1, 1⟩
def MTRN.TRAIN_STAT_CHECKED : Fld := ⟨MTRN.TRAIN_STAT, 8, 8⟩
def MTRN.TRAIN_STAT_RETIRED : Fld := ⟨MTRN.TRAIN_STAT, 16, 8⟩

/-- The registers of page 0x51 at 0x040 and above (R68). -/
def MTRN.rows : List Reg :=
  [MTRN.STEP_CTRL, MTRN.STEP_STAT, MTRN.PAT_CFG, MTRN.PAT_FIXED,
   MTRN.PAT_ADDR, MTRN.CMP_CTRL, MTRN.PIN_ERR, MTRN.DQ_RD_DLY,
   MTRN.DQ_WR_DLY, MTRN.CA_DLY0, MTRN.CA_DLY1, MTRN.WCK_DLY,
   MTRN.VREF, MTRN.TRK_CFG, MTRN.TRK_STAT, MTRN.TRAIN_STAT]
def MTRN.int_STEP_DONE : IntBit := ⟨0x51, 0⟩
def MTRN.int_STEP_FAIL : IntBit := ⟨0x51, 1⟩
def MTRN.int_REFUSED : IntBit := ⟨0x51, 2⟩
def MTRN.int_DRIFT : IntBit := ⟨0x51, 3⟩

/-! ### Page 0x58, TNDM -/

/-- R422 (20_tandem). -/
def TNDM.HB_CFG : Reg :=
  { page := 0x58, off := 0x400, acc := .rw, rst := 0x0033000A, mask := 0x00FF00FF,
    ok := [⟨0, 8, [(1, 100)]⟩, ⟨16, 4, [(2, 15)]⟩, ⟨20, 4, [(1, 15)]⟩] }
def TNDM.HB_CFG_HB_PERIOD : Fld := ⟨TNDM.HB_CFG, 0, 8⟩
def TNDM.HB_CFG_HB_MISS : Fld := ⟨TNDM.HB_CFG, 16, 4⟩
def TNDM.HB_CFG_HB_OK : Fld := ⟨TNDM.HB_CFG, 20, 4⟩

/-- R422 (20_tandem). -/
def TNDM.TIME_BOUND : Reg :=
  { page := 0x58, off := 0x404, acc := .rw, rst := 0x000003E8, mask := 0x000FFFFF,
    ok := [⟨0, 20, [(10, 1000000)]⟩] }

/-- R422 (20_tandem). -/
def TNDM.REPL_CFG : Reg :=
  { page := 0x58, off := 0x408, acc := .rw, rst := 0x000A0014, mask := 0x033F03FF,
    ok := [⟨0, 10, [(2, 1000)]⟩, ⟨16, 6, [(1, 50)]⟩] }
def TNDM.REPL_CFG_REPL_WIN : Fld := ⟨TNDM.REPL_CFG, 0, 10⟩
def TNDM.REPL_CFG_RESYNC_SHARE : Fld := ⟨TNDM.REPL_CFG, 16, 6⟩
def TNDM.REPL_CFG_RX_PIPE : Fld := ⟨TNDM.REPL_CFG, 24, 2⟩

/-- R422 (20_tandem). -/
def TNDM.CFG_SALT : Reg :=
  { page := 0x58, off := 0x40C, acc := .rw }

/-- R422 (20_tandem). -/
def TNDM.CFG_CHECK : Reg :=
  { page := 0x58, off := 0x410, acc := .ro }

/-- R422 (20_tandem). -/
def TNDM.STATE : Reg :=
  { page := 0x58, off := 0x414, acc := .ro, mask := 0x00001FFF }
def TNDM.STATE_STATE : Fld := ⟨TNDM.STATE, 0, 3⟩
def TNDM.STATE_LINK_UP : Fld := ⟨TNDM.STATE, 3, 1⟩
def TNDM.STATE_REASON : Fld := ⟨TNDM.STATE, 4, 4⟩
def TNDM.STATE_PEER_UNTRUSTED : Fld := ⟨TNDM.STATE, 8, 1⟩
def TNDM.STATE_JOURNALING : Fld := ⟨TNDM.STATE, 9, 1⟩
def TNDM.STATE_JOURNAL_FULL : Fld := ⟨TNDM.STATE, 10, 1⟩
def TNDM.STATE_KEY_SOURCE : Fld := ⟨TNDM.STATE, 11, 1⟩
def TNDM.STATE_PEER_ID : Fld := ⟨TNDM.STATE, 12, 1⟩

/-- R422 (20_tandem). -/
def TNDM.PEER_CHECK : Reg :=
  { page := 0x58, off := 0x418, acc := .ro }

/-- R422 (20_tandem). -/
def TNDM.PEER_INFO : Reg :=
  { page := 0x58, off := 0x41C, acc := .ro, mask := 0x0000FFFF }

/-- R422 (20_tandem). -/
def TNDM.PEER_UCODE : Reg :=
  { page := 0x58, off := 0x420, acc := .ro }

/-- R422 (20_tandem). -/
def TNDM.OFFSET : Reg :=
  { page := 0x58, off := 0x424, acc := .ro }

/-- R422 (20_tandem). -/
def TNDM.OFFSET_MAX : Reg :=
  { page := 0x58, off := 0x428, acc := .rc, mask := 0x000FFFFF }

/-- R422 (20_tandem). -/
def TNDM.KEY_TAG : Reg :=
  { page := 0x58, off := 0x42C, acc := .ro }

/-- R422 (20_tandem). -/
def TNDM.PEER_KEY_TAG : Reg :=
  { page := 0x58, off := 0x430, acc := .ro }

/-- R422 (20_tandem). -/
def TNDM.LINK_KEY_CTRL : Reg :=
  { page := 0x58, off := 0x434, acc := .wo, mask := 0x00000003 }
def TNDM.LINK_KEY_CTRL_LOAD : Fld := ⟨TNDM.LINK_KEY_CTRL, 0, 1⟩
def TNDM.LINK_KEY_CTRL_ERASE : Fld := ⟨TNDM.LINK_KEY_CTRL, 1, 1⟩

/-- R422 (20_tandem). -/
def TNDM.LINK_KEY_STAT : Reg :=
  { page := 0x58, off := 0x438, acc := .ro, mask := 0x00000001 }
def TNDM.LINK_KEY_STAT_VALID : Fld := ⟨TNDM.LINK_KEY_STAT, 0, 1⟩

/-- R422 (20_tandem). -/
def TNDM.LINK_KEY : Reg :=
  { page := 0x58, off := 0x440, acc := .wo, dims := [(4, 8)], perPath := true }

/-- R422 (20_tandem). -/
def TNDM.RESYNC_CTRL : Reg :=
  { page := 0x58, off := 0x460, acc := .wo, mask := 0x00000003 }
def TNDM.RESYNC_CTRL_START : Fld := ⟨TNDM.RESYNC_CTRL, 0, 1⟩
def TNDM.RESYNC_CTRL_ABORT : Fld := ⟨TNDM.RESYNC_CTRL, 1, 1⟩

/-- R422 (20_tandem). -/
def TNDM.RESYNC_STAT : Reg :=
  { page := 0x58, off := 0x464, acc := .ro }

/-- R422 (20_tandem). -/
def TNDM.JOURNAL : Reg :=
  { page := 0x58, off := 0x468, acc := .ro, mask := 0x000FFFFF }

/-- R422 (20_tandem). -/
def TNDM.LINK_STAT : Reg :=
  { page := 0x58, off := 0x46C, acc := .ro, mask := 0xFFFF007F }
def TNDM.LINK_STAT_STATE : Fld := ⟨TNDM.LINK_STAT, 0, 3⟩
def TNDM.LINK_STAT_LOCAL_FAULT : Fld := ⟨TNDM.LINK_STAT, 3, 1⟩
def TNDM.LINK_STAT_REMOTE_FAULT : Fld := ⟨TNDM.LINK_STAT, 4, 1⟩
def TNDM.LINK_STAT_HI_BER : Fld := ⟨TNDM.LINK_STAT, 5, 1⟩
def TNDM.LINK_STAT_ALIGNED : Fld := ⟨TNDM.LINK_STAT, 6, 1⟩
def TNDM.LINK_STAT_XOFF_RX : Fld := ⟨TNDM.LINK_STAT, 16, 8⟩
def TNDM.LINK_STAT_XOFF_TX : Fld := ⟨TNDM.LINK_STAT, 24, 8⟩

/-- R422 (20_tandem). -/
def TNDM.CNT : Reg :=
  { page := 0x58, off := 0x480, acc := .rc, dims := [(4, 10)] }

/-- The registers of page 0x58 at 0x040 and above (R68). -/
def TNDM.rows : List Reg :=
  [TNDM.HB_CFG, TNDM.TIME_BOUND, TNDM.REPL_CFG, TNDM.CFG_SALT,
   TNDM.CFG_CHECK, TNDM.STATE, TNDM.PEER_CHECK, TNDM.PEER_INFO,
   TNDM.PEER_UCODE, TNDM.OFFSET, TNDM.OFFSET_MAX, TNDM.KEY_TAG,
   TNDM.PEER_KEY_TAG, TNDM.LINK_KEY_CTRL, TNDM.LINK_KEY_STAT, TNDM.LINK_KEY,
   TNDM.RESYNC_CTRL, TNDM.RESYNC_STAT, TNDM.JOURNAL, TNDM.LINK_STAT,
   TNDM.CNT]
def TNDM.int_JOINED : IntBit := ⟨0x58, 0⟩
def TNDM.int_ALONE : IntBit := ⟨0x58, 1⟩
def TNDM.int_CFG_MISMATCH : IntBit := ⟨0x58, 2⟩
def TNDM.int_VER_MISMATCH : IntBit := ⟨0x58, 3⟩
def TNDM.int_TIME_FAULT : IntBit := ⟨0x58, 4⟩
def TNDM.int_PEER_SILENT : IntBit := ⟨0x58, 5⟩
def TNDM.int_RESYNC_DONE : IntBit := ⟨0x58, 6⟩
def TNDM.int_JOURNAL_FULL : IntBit := ⟨0x58, 7⟩
def TNDM.int_KEY_FAIL : IntBit := ⟨0x58, 8⟩
def TNDM.int_ID_CLASH : IntBit := ⟨0x58, 9⟩

/-! ### Page 0x60, PERF -/

/-- R442 (21_observability). -/
def PERF.CNT_CFG : Reg :=
  { page := 0x60, off := 0x040, acc := .rw, mask := 0x0703FF3F,
    ok := [⟨0, 6, [(0, 33)]⟩] }
def PERF.CNT_CFG_ISLAND : Fld := ⟨PERF.CNT_CFG, 0, 6⟩
def PERF.CNT_CFG_EVENT : Fld := ⟨PERF.CNT_CFG, 8, 10⟩
def PERF.CNT_CFG_EN : Fld := ⟨PERF.CNT_CFG, 24, 1⟩
def PERF.CNT_CFG_CHAIN : Fld := ⟨PERF.CNT_CFG, 25, 1⟩
def PERF.CNT_CFG_OVF_INT : Fld := ⟨PERF.CNT_CFG, 26, 1⟩

/-- R442 (21_observability). -/
def PERF.CNT_LO : Reg :=
  { page := 0x60, off := 0x044, acc := .ro }

/-- R442 (21_observability). -/
def PERF.CNT_HI : Reg :=
  { page := 0x60, off := 0x048, acc := .ro, mask := 0x0000FFFF, perPath := true }

/-- R442 (21_observability). -/
def PERF.SNAP_LO : Reg :=
  { page := 0x60, off := 0x04C, acc := .ro }

/-- R442 (21_observability). -/
def PERF.SNAP_HI : Reg :=
  { page := 0x60, off := 0x050, acc := .ro, mask := 0x0000FFFF, perPath := true }

/-- R442 (21_observability). -/
def PERF.SNAP_STAMP_LO : Reg :=
  { page := 0x60, off := 0x400, acc := .ro }

/-- R442 (21_observability). -/
def PERF.SNAP_STAMP_HI : Reg :=
  { page := 0x60, off := 0x404, acc := .ro }

/-- R442 (21_observability). -/
def PERF.SNAP_STAT : Reg :=
  { page := 0x60, off := 0x408, acc := .ro, mask := 0xFFFF0007 }
def PERF.SNAP_STAT_FROZEN : Fld := ⟨PERF.SNAP_STAT, 0, 1⟩
def PERF.SNAP_STAT_BUSY : Fld := ⟨PERF.SNAP_STAT, 1, 1⟩
def PERF.SNAP_STAT_VALID : Fld := ⟨PERF.SNAP_STAT, 2, 1⟩

/-- R442 (21_observability). -/
def PERF.SAMPLE_MODE : Reg :=
  { page := 0x60, off := 0x40C, acc := .rw, mask := 0x00000003,
    ok := [⟨0, 2, [(0, 2)]⟩] }
def PERF.SAMPLE_MODE_MODE : Fld := ⟨PERF.SAMPLE_MODE, 0, 2⟩

/-- R442 (21_observability). -/
def PERF.SAMPLE_CFG : Reg :=
  { page := 0x60, off := 0x410, acc := .rw, rst := 0x00010000, mask := 0xFFFF007F,
    ok := [⟨16, 16, [(1, 65535)]⟩] }
def PERF.SAMPLE_CFG_OPS : Fld := ⟨PERF.SAMPLE_CFG, 0, 7⟩
def PERF.SAMPLE_CFG_PERIOD : Fld := ⟨PERF.SAMPLE_CFG, 16, 16⟩

/-- R442 (21_observability). -/
def PERF.SAMPLE_ISL0 : Reg :=
  { page := 0x60, off := 0x414, acc := .rw, rst := 0x001FE000 }

/-- R442 (21_observability). -/
def PERF.SAMPLE_ISL1 : Reg :=
  { page := 0x60, off := 0x418, acc := .rw, mask := 0x00000003 }

/-- R442 (21_observability). -/
def PERF.TAG_CFG : Reg :=
  { page := 0x60, off := 0x41C, acc := .rw, rst := 0x0FFF000A, mask := 0x0FFF001F }
def PERF.TAG_CFG_TAG_P : Fld := ⟨PERF.TAG_CFG, 0, 5⟩
def PERF.TAG_CFG_STAGES : Fld := ⟨PERF.TAG_CFG, 16, 12⟩

/-- R442 (21_observability). -/
def PERF.SRING_BASE_LO : Reg :=
  { page := 0x60, off := 0x420, acc := .rw, mask := 0xFFFFFFE0 }

/-- R442 (21_observability). -/
def PERF.SRING_BASE_HI : Reg :=
  { page := 0x60, off := 0x424, acc := .rw }

/-- R442 (21_observability). -/
def PERF.SRING_SIZE : Reg :=
  { page := 0x60, off := 0x428, acc := .rw, rst := 0x0000000C, mask := 0x0000001F,
    ok := [⟨0, 5, [(6, 24)]⟩] }
def PERF.SRING_SIZE_SIZE : Fld := ⟨PERF.SRING_SIZE, 0, 5⟩

/-- R442 (21_observability). -/
def PERF.SRING_WR : Reg :=
  { page := 0x60, off := 0x42C, acc := .ro }

/-- R442 (21_observability). -/
def PERF.SRING_RD : Reg :=
  { page := 0x60, off := 0x430, acc := .rw }

/-- R442 (21_observability). -/
def PERF.SAMPLES_LOST : Reg :=
  { page := 0x60, off := 0x434, acc := .rc }

/-- R442 (21_observability). -/
def PERF.OVF : Reg :=
  { page := 0x60, off := 0x440, acc := .w1c, dims := [(4, 128)] }

/-- The registers of page 0x60 at 0x040 and above (R68). -/
def PERF.rows : List Reg :=
  [PERF.CNT_CFG, PERF.CNT_LO, PERF.CNT_HI, PERF.SNAP_LO,
   PERF.SNAP_HI, PERF.SNAP_STAMP_LO, PERF.SNAP_STAMP_HI, PERF.SNAP_STAT,
   PERF.SAMPLE_MODE, PERF.SAMPLE_CFG, PERF.SAMPLE_ISL0, PERF.SAMPLE_ISL1,
   PERF.TAG_CFG, PERF.SRING_BASE_LO, PERF.SRING_BASE_HI, PERF.SRING_SIZE,
   PERF.SRING_WR, PERF.SRING_RD, PERF.SAMPLES_LOST, PERF.OVF]
def PERF.int_OVF : IntBit := ⟨0x60, 0⟩
def PERF.int_SNAP_DONE : IntBit := ⟨0x60, 1⟩
def PERF.int_SNAP_REFUSED : IntBit := ⟨0x60, 2⟩
def PERF.int_SAMPLE_LOST : IntBit := ⟨0x60, 3⟩

/-! ### Page 0x61, STAT -/

/-- R443 (21_observability). -/
def STAT.CLEAR : Reg :=
  { page := 0x61, off := 0x400, acc := .wo, mask := 0x0000033F }
def STAT.CLEAR_PORT : Fld := ⟨STAT.CLEAR, 0, 6⟩
def STAT.CLEAR_GO : Fld := ⟨STAT.CLEAR, 8, 1⟩
def STAT.CLEAR_ALL : Fld := ⟨STAT.CLEAR, 9, 1⟩

/-- R443 (21_observability). -/
def STAT.LIVE : Reg :=
  { page := 0x61, off := 0x040, acc := .ro, dims := [(8, 58), (4, 2)], perPath := true }

/-- R443 (21_observability). -/
def STAT.SNAP : Reg :=
  { page := 0x61, off := 0x210, acc := .ro, dims := [(8, 58), (4, 2)], perPath := true }

/-- The registers of page 0x61 at 0x040 and above (R68). -/
def STAT.rows : List Reg :=
  [STAT.CLEAR, STAT.LIVE, STAT.SNAP]

/-! ### Page 0x62, EVLG -/

/-- R444 (21_observability). -/
def EVLG.Q_BASE_LO : Reg :=
  { page := 0x62, off := 0x040, acc := .rw, mask := 0xFFFFFFE0 }

/-- R444 (21_observability). -/
def EVLG.Q_BASE_HI : Reg :=
  { page := 0x62, off := 0x044, acc := .rw }

/-- R444 (21_observability). -/
def EVLG.Q_SIZE : Reg :=
  { page := 0x62, off := 0x048, acc := .rw, rst := 0x0000000A, mask := 0x0000011F,
    ok := [⟨0, 5, [(6, 20)]⟩] }
def EVLG.Q_SIZE_SIZE : Fld := ⟨EVLG.Q_SIZE, 0, 5⟩
def EVLG.Q_SIZE_EN : Fld := ⟨EVLG.Q_SIZE, 8, 1⟩

/-- R444 (21_observability). -/
def EVLG.Q_WR : Reg :=
  { page := 0x62, off := 0x04C, acc := .ro }

/-- R444 (21_observability). -/
def EVLG.Q_RD : Reg :=
  { page := 0x62, off := 0x050, acc := .rw }

/-- R444 (21_observability). -/
def EVLG.Q_MOD : Reg :=
  { page := 0x62, off := 0x054, acc := .rw, rst := 0x00640001,
    ok := [⟨0, 16, [(1, 65535)]⟩, ⟨16, 16, [(1, 65535)]⟩] }
def EVLG.Q_MOD_Q_THRESH : Fld := ⟨EVLG.Q_MOD, 0, 16⟩
def EVLG.Q_MOD_HOLDOFF : Fld := ⟨EVLG.Q_MOD, 16, 16⟩

/-- R444 (21_observability). -/
def EVLG.Q_LOST : Reg :=
  { page := 0x62, off := 0x058, acc := .rc }

/-- R444 (21_observability). -/
def EVLG.Q_WB_LO : Reg :=
  { page := 0x62, off := 0x05C, acc := .rw, mask := 0xFFFFFFFC }

/-- R444 (21_observability). -/
def EVLG.Q_WB_HI : Reg :=
  { page := 0x62, off := 0x060, acc := .rw }

/-- R444 (21_observability). -/
def EVLG.ROUTE : Reg :=
  { page := 0x62, off := 0x400, acc := .rw, rst := 0x00000001, mask := 0x0000FFFF, dims := [(4, 128)] }

/-- R444 (21_observability). -/
def EVLG.SEQ : Reg :=
  { page := 0x62, off := 0x600, acc := .ro, dims := [(4, 34)] }

/-- The registers of page 0x62 at 0x040 and above (R68). -/
def EVLG.rows : List Reg :=
  [EVLG.Q_BASE_LO, EVLG.Q_BASE_HI, EVLG.Q_SIZE, EVLG.Q_WR,
   EVLG.Q_RD, EVLG.Q_MOD, EVLG.Q_LOST, EVLG.Q_WB_LO,
   EVLG.Q_WB_HI, EVLG.ROUTE, EVLG.SEQ]
def EVLG.int_Q_READY : IntBit := ⟨0x62, 0⟩
def EVLG.int_LOSS : IntBit := ⟨0x62, 16⟩

/-! ### Page 0x68, HOST -/

/-- R462 (22_host). -/
def HOST.RING_CFG : Reg :=
  { page := 0x68, off := 0x040, acc := .rw, rst := 0x00000014, mask := 0x00001FDF,
    ok := [⟨1, 4, [(6, 15)]⟩] }
def HOST.RING_CFG_EN : Fld := ⟨HOST.RING_CFG, 0, 1⟩
def HOST.RING_CFG_SIZE : Fld := ⟨HOST.RING_CFG, 1, 4⟩
def HOST.RING_CFG_VEC : Fld := ⟨HOST.RING_CFG, 6, 6⟩
def HOST.RING_CFG_VEC_EN : Fld := ⟨HOST.RING_CFG, 12, 1⟩

/-- R462 (22_host). -/
def HOST.RING_BASE_LO : Reg :=
  { page := 0x68, off := 0x044, acc := .rw, mask := 0xFFFFFFE0 }

/-- R462 (22_host). -/
def HOST.RING_BASE_HI : Reg :=
  { page := 0x68, off := 0x048, acc := .rw }

/-- R462 (22_host). -/
def HOST.RING_AVAIL : Reg :=
  { page := 0x68, off := 0x04C, acc := .rw, mask := 0x0000FFFF }

/-- R462 (22_host). -/
def HOST.RING_DONE : Reg :=
  { page := 0x68, off := 0x050, acc := .ro, mask := 0x0000FFFF }

/-- R462 (22_host). -/
def HOST.RING_WB_LO : Reg :=
  { page := 0x68, off := 0x054, acc := .rw, mask := 0xFFFFFFFC }

/-- R462 (22_host). -/
def HOST.RING_WB_HI : Reg :=
  { page := 0x68, off := 0x058, acc := .rw }

/-- R462 (22_host). -/
def HOST.RING_MOD : Reg :=
  { page := 0x68, off := 0x05C, acc := .rw, rst := 0x00320010,
    ok := [⟨0, 16, [(1, 65535)]⟩, ⟨16, 16, [(1, 65535)]⟩] }
def HOST.RING_MOD_THRESH : Fld := ⟨HOST.RING_MOD, 0, 16⟩
def HOST.RING_MOD_HOLDOFF : Fld := ⟨HOST.RING_MOD, 16, 16⟩

/-- R462 (22_host). -/
def HOST.RING_FRAMES : Reg :=
  { page := 0x68, off := 0x060, acc := .ro }

/-- R462 (22_host). -/
def HOST.RING_ERR : Reg :=
  { page := 0x68, off := 0x064, acc := .rc }

/-- R462 (22_host). -/
def HOST.RING_STAT : Reg :=
  { page := 0x68, off := 0x068, acc := .ro, mask := 0x00000007 }
def HOST.RING_STAT_IRQ : Fld := ⟨HOST.RING_STAT, 0, 1⟩
def HOST.RING_STAT_EMPTY : Fld := ⟨HOST.RING_STAT, 1, 1⟩
def HOST.RING_STAT_HALTED : Fld := ⟨HOST.RING_STAT, 2, 1⟩

/-- R462 (22_host). -/
def HOST.RING_CTRL : Reg :=
  { page := 0x68, off := 0x06C, acc := .wo, mask := 0x00000001 }
def HOST.RING_CTRL_RESTART : Fld := ⟨HOST.RING_CTRL, 0, 1⟩

/-- R463 (22_host). -/
def HOST.LINK_STAT : Reg :=
  { page := 0x68, off := 0x400, acc := .ro, mask := 0x000007FF }
def HOST.LINK_STAT_LINK_UP : Fld := ⟨HOST.LINK_STAT, 8, 1⟩
def HOST.LINK_STAT_BUS_MASTER : Fld := ⟨HOST.LINK_STAT, 9, 1⟩
def HOST.LINK_STAT_PORT32_UP : Fld := ⟨HOST.LINK_STAT, 10, 1⟩

/-- R463 (22_host). -/
def HOST.BAR2_REFUSED : Reg :=
  { page := 0x68, off := 0x404, acc := .rc }

/-- R463 (22_host). -/
def HOST.BAR2_LAST : Reg :=
  { page := 0x68, off := 0x408, acc := .ro }
def HOST.BAR2_LAST_BAR2 : Fld := ⟨HOST.BAR2_LAST, 0, 28⟩
def HOST.BAR2_LAST_VALID : Fld := ⟨HOST.BAR2_LAST, 31, 1⟩

/-- R463 (22_host). -/
def HOST.APER_SLOT : Reg :=
  { page := 0x68, off := 0x40C, acc := .rw, mask := 0x07FFFFFF }

/-- R463 (22_host). -/
def HOST.RAW_CFG : Reg :=
  { page := 0x68, off := 0x410, acc := .rw, mask := 0x0000073F }
def HOST.RAW_CFG_CHANNEL : Fld := ⟨HOST.RAW_CFG, 0, 6⟩
def HOST.RAW_CFG_SEG : Fld := ⟨HOST.RAW_CFG, 8, 3⟩

/-- R463 (22_host). -/
def HOST.TDMA_HOST_LO : Reg :=
  { page := 0x68, off := 0x414, acc := .rw, mask := 0xFFFFFFF0 }

/-- R463 (22_host). -/
def HOST.TDMA_HOST_HI : Reg :=
  { page := 0x68, off := 0x418, acc := .rw }

/-- R463 (22_host). -/
def HOST.TDMA_BAR2 : Reg :=
  { page := 0x68, off := 0x41C, acc := .rw, mask := 0x0FFFFFF0 }
def HOST.TDMA_BAR2_BAR2 : Fld := ⟨HOST.TDMA_BAR2, 4, 24⟩

/-- R463 (22_host). -/
def HOST.TDMA_LEN : Reg :=
  { page := 0x68, off := 0x420, acc := .rw, rst := 0x00000010, mask := 0x0FFFFFFF }

/-- R463 (22_host). -/
def HOST.TDMA_CTRL : Reg :=
  { page := 0x68, off := 0x424, acc := .wo, mask := 0x00000007 }
def HOST.TDMA_CTRL_GO : Fld := ⟨HOST.TDMA_CTRL, 0, 1⟩
def HOST.TDMA_CTRL_DIR : Fld := ⟨HOST.TDMA_CTRL, 1, 1⟩
def HOST.TDMA_CTRL_ABORT : Fld := ⟨HOST.TDMA_CTRL, 2, 1⟩

/-- R463 (22_host). -/
def HOST.TDMA_STAT : Reg :=
  { page := 0x68, off := 0x428, acc := .ro }

/-- R463 (22_host). -/
def HOST.PUNT_QMAP : Reg :=
  { page := 0x68, off := 0x440, acc := .rw, mask := 0x0000007F, dims := [(4, 8)] }
def HOST.PUNT_QMAP_QBASE : Fld := ⟨HOST.PUNT_QMAP, 0, 5⟩
def HOST.PUNT_QMAP_SPREAD : Fld := ⟨HOST.PUNT_QMAP, 5, 2⟩

/-- R463 (22_host). -/
def HOST.EQ_VEC : Reg :=
  { page := 0x68, off := 0x460, acc := .rw, mask := 0x0000007F, dims := [(4, 16)] }
def HOST.EQ_VEC_VEC : Fld := ⟨HOST.EQ_VEC, 0, 6⟩
def HOST.EQ_VEC_EN : Fld := ⟨HOST.EQ_VEC, 6, 1⟩

/-- R463 (22_host). -/
def HOST.RING_IRQ_LO : Reg :=
  { page := 0x68, off := 0x4A0, acc := .w1c }

/-- R463 (22_host). -/
def HOST.RING_IRQ_HI : Reg :=
  { page := 0x68, off := 0x4A4, acc := .w1c }

/-- R463 (22_host). -/
def HOST.PCIE_ERR : Reg :=
  { page := 0x68, off := 0x4A8, acc := .rc }

/-- R463 (22_host). -/
def HOST.MBOX_IN : Reg :=
  { page := 0x68, off := 0x500, acc := .rw, dims := [(4, 64)], perPath := true }

/-- R463 (22_host). -/
def HOST.MBOX_OUT : Reg :=
  { page := 0x68, off := 0x600, acc := .ro, dims := [(4, 64)], perPath := true }

/-- R463 (22_host). -/
def HOST.MBOX_CTRL : Reg :=
  { page := 0x68, off := 0x700, acc := .wo, mask := 0x00000001 }
def HOST.MBOX_CTRL_DOORBELL : Fld := ⟨HOST.MBOX_CTRL, 0, 1⟩

/-- R463 (22_host). -/
def HOST.MBOX_STAT : Reg :=
  { page := 0x68, off := 0x704, acc := .ro, mask := 0x00000003, perPath := true }
def HOST.MBOX_STAT_BUSY : Fld := ⟨HOST.MBOX_STAT, 0, 1⟩
def HOST.MBOX_STAT_DONE : Fld := ⟨HOST.MBOX_STAT, 1, 1⟩

/-- R463 (22_host). -/
def HOST.MSIX_TABLE : Reg :=
  { page := 0x68, off := 0x800, acc := .rw, dims := [(4, 256)] }

/-- R463 (22_host). -/
def HOST.MSIX_PBA : Reg :=
  { page := 0x68, off := 0xC00, acc := .ro, dims := [(4, 2)] }

/-- The registers of page 0x68 at 0x040 and above (R68). -/
def HOST.rows : List Reg :=
  [HOST.RING_CFG, HOST.RING_BASE_LO, HOST.RING_BASE_HI, HOST.RING_AVAIL,
   HOST.RING_DONE, HOST.RING_WB_LO, HOST.RING_WB_HI, HOST.RING_MOD,
   HOST.RING_FRAMES, HOST.RING_ERR, HOST.RING_STAT, HOST.RING_CTRL,
   HOST.LINK_STAT, HOST.BAR2_REFUSED, HOST.BAR2_LAST, HOST.APER_SLOT,
   HOST.RAW_CFG, HOST.TDMA_HOST_LO, HOST.TDMA_HOST_HI, HOST.TDMA_BAR2,
   HOST.TDMA_LEN, HOST.TDMA_CTRL, HOST.TDMA_STAT, HOST.PUNT_QMAP,
   HOST.EQ_VEC, HOST.RING_IRQ_LO, HOST.RING_IRQ_HI, HOST.PCIE_ERR,
   HOST.MBOX_IN, HOST.MBOX_OUT, HOST.MBOX_CTRL, HOST.MBOX_STAT,
   HOST.MSIX_TABLE, HOST.MSIX_PBA]
def HOST.int_TDMA_DONE : IntBit := ⟨0x68, 0⟩
def HOST.int_TDMA_FAIL : IntBit := ⟨0x68, 1⟩
def HOST.int_BAR2_REFUSED : IntBit := ⟨0x68, 2⟩
def HOST.int_RING_HALT : IntBit := ⟨0x68, 3⟩
def HOST.int_LINK_DOWN : IntBit := ⟨0x68, 4⟩
def HOST.int_FLR : IntBit := ⟨0x68, 5⟩
def HOST.int_MBOX_DONE : IntBit := ⟨0x68, 6⟩

/-! ### Page 0x69, MGMT -/

/-- R464 (22_host). -/
def MGMT.MAC_CFG : Reg :=
  { page := 0x69, off := 0x400, acc := .rw, rst := 0x00000003, mask := 0x00000007 }
def MGMT.MAC_CFG_EN : Fld := ⟨MGMT.MAC_CFG, 0, 1⟩
def MGMT.MAC_CFG_AN_EN : Fld := ⟨MGMT.MAC_CFG, 1, 1⟩
def MGMT.MAC_CFG_PROMISC : Fld := ⟨MGMT.MAC_CFG, 2, 1⟩

/-- R464 (22_host). -/
def MGMT.MAC_ADDR_LO : Reg :=
  { page := 0x69, off := 0x404, acc := .rw }

/-- R464 (22_host). -/
def MGMT.MAC_ADDR_HI : Reg :=
  { page := 0x69, off := 0x408, acc := .rw, mask := 0x0000FFFF }

/-- R464 (22_host). -/
def MGMT.MGMT_STAT : Reg :=
  { page := 0x69, off := 0x40C, acc := .ro, mask := 0x0000000F }
def MGMT.MGMT_STAT_LINK_UP : Fld := ⟨MGMT.MGMT_STAT, 0, 1⟩
def MGMT.MGMT_STAT_AN_DONE : Fld := ⟨MGMT.MGMT_STAT, 1, 1⟩
def MGMT.MGMT_STAT_SIG_DET : Fld := ⟨MGMT.MGMT_STAT, 2, 1⟩
def MGMT.MGMT_STAT_REMOTE_FAULT : Fld := ⟨MGMT.MGMT_STAT, 3, 1⟩

/-- R464 (22_host). -/
def MGMT.RX_BASE_LO : Reg :=
  { page := 0x69, off := 0x410, acc := .rw, mask := 0xFFFFFFE0 }

/-- R464 (22_host). -/
def MGMT.RX_BASE_HI : Reg :=
  { page := 0x69, off := 0x414, acc := .rw }

/-- R464 (22_host). -/
def MGMT.RX_CFG : Reg :=
  { page := 0x69, off := 0x418, acc := .rw, rst := 0x00000010, mask := 0x0000001F,
    ok := [⟨1, 4, [(6, 12)]⟩] }
def MGMT.RX_CFG_EN : Fld := ⟨MGMT.RX_CFG, 0, 1⟩
def MGMT.RX_CFG_SIZE : Fld := ⟨MGMT.RX_CFG, 1, 4⟩

/-- R464 (22_host). -/
def MGMT.RX_AVAIL : Reg :=
  { page := 0x69, off := 0x41C, acc := .rw, mask := 0x0000FFFF }

/-- R464 (22_host). -/
def MGMT.RX_DONE : Reg :=
  { page := 0x69, off := 0x420, acc := .ro, mask := 0x0000FFFF }

/-- R464 (22_host). -/
def MGMT.TX_BASE_LO : Reg :=
  { page := 0x69, off := 0x424, acc := .rw, mask := 0xFFFFFFE0 }

/-- R464 (22_host). -/
def MGMT.TX_BASE_HI : Reg :=
  { page := 0x69, off := 0x428, acc := .rw }

/-- R464 (22_host). -/
def MGMT.TX_CFG : Reg :=
  { page := 0x69, off := 0x42C, acc := .rw, rst := 0x00000010, mask := 0x0000001F,
    ok := [⟨1, 4, [(6, 12)]⟩] }
def MGMT.TX_CFG_EN : Fld := ⟨MGMT.TX_CFG, 0, 1⟩
def MGMT.TX_CFG_SIZE : Fld := ⟨MGMT.TX_CFG, 1, 4⟩

/-- R464 (22_host). -/
def MGMT.TX_AVAIL : Reg :=
  { page := 0x69, off := 0x430, acc := .rw, mask := 0x0000FFFF }

/-- R464 (22_host). -/
def MGMT.TX_DONE : Reg :=
  { page := 0x69, off := 0x434, acc := .ro, mask := 0x0000FFFF }

/-- R464 (22_host). -/
def MGMT.RX_DISC : Reg :=
  { page := 0x69, off := 0x438, acc := .rc }

/-- R464 (22_host). -/
def MGMT.QSPI_CMD : Reg :=
  { page := 0x69, off := 0x43C, acc := .wo, mask := 0x00000103 }
def MGMT.QSPI_CMD_OP : Fld := ⟨MGMT.QSPI_CMD, 0, 2⟩
def MGMT.QSPI_CMD_GO : Fld := ⟨MGMT.QSPI_CMD, 8, 1⟩

/-- R464 (22_host). -/
def MGMT.QSPI_ADDR : Reg :=
  { page := 0x69, off := 0x440, acc := .rw }

/-- R464 (22_host). -/
def MGMT.QSPI_LEN : Reg :=
  { page := 0x69, off := 0x444, acc := .rw, rst := 0x00000100, mask := 0x000001FF,
    ok := [⟨0, 9, [(1, 256)]⟩] }

/-- R464 (22_host). -/
def MGMT.QSPI_STAT : Reg :=
  { page := 0x69, off := 0x448, acc := .ro, mask := 0x00000007 }
def MGMT.QSPI_STAT_STATE : Fld := ⟨MGMT.QSPI_STAT, 0, 3⟩

/-- R464 (22_host). -/
def MGMT.FLASH_ID : Reg :=
  { page := 0x69, off := 0x44C, acc := .ro, mask := 0x01FFFFFF }
def MGMT.FLASH_ID_JEDEC : Fld := ⟨MGMT.FLASH_ID, 0, 24⟩

/-- R464 (22_host). -/
def MGMT.QSPI_BUF : Reg :=
  { page := 0x69, off := 0x500, acc := .rw, dims := [(4, 64)] }

/-- The registers of page 0x69 at 0x040 and above (R68). -/
def MGMT.rows : List Reg :=
  [MGMT.MAC_CFG, MGMT.MAC_ADDR_LO, MGMT.MAC_ADDR_HI, MGMT.MGMT_STAT,
   MGMT.RX_BASE_LO, MGMT.RX_BASE_HI, MGMT.RX_CFG, MGMT.RX_AVAIL,
   MGMT.RX_DONE, MGMT.TX_BASE_LO, MGMT.TX_BASE_HI, MGMT.TX_CFG,
   MGMT.TX_AVAIL, MGMT.TX_DONE, MGMT.RX_DISC, MGMT.QSPI_CMD,
   MGMT.QSPI_ADDR, MGMT.QSPI_LEN, MGMT.QSPI_STAT, MGMT.FLASH_ID,
   MGMT.QSPI_BUF]
def MGMT.int_RX : IntBit := ⟨0x69, 0⟩
def MGMT.int_TX : IntBit := ⟨0x69, 1⟩
def MGMT.int_LINK : IntBit := ⟨0x69, 2⟩
def MGMT.int_QSPI_DONE : IntBit := ⟨0x69, 3⟩
def MGMT.int_RX_DISC : IntBit := ⟨0x69, 4⟩

/-! ### Page 0x70, MARC -/

/-- R280 (13_tasks). -/
def MARC.MARCH_CTRL : Reg :=
  { page := 0x70, off := 0x040, acc := .wo, mask := 0x0000000F }
def MARC.MARCH_CTRL_GO : Fld := ⟨MARC.MARCH_CTRL, 0, 1⟩
def MARC.MARCH_CTRL_ABORT : Fld := ⟨MARC.MARCH_CTRL, 1, 1⟩
def MARC.MARCH_CTRL_MODE : Fld := ⟨MARC.MARCH_CTRL, 2, 2⟩

/-- R280 (13_tasks). -/
def MARC.MARCH_STAT : Reg :=
  { page := 0x70, off := 0x044, acc := .ro }

/-- R280 (13_tasks). -/
def MARC.FAILS : Reg :=
  { page := 0x70, off := 0x048, acc := .ro, mask := 0x000FFFFF }

/-- R280 (13_tasks). -/
def MARC.FIRST_FAIL : Reg :=
  { page := 0x70, off := 0x04C, acc := .ro, mask := 0x800FFFFF }
def MARC.FIRST_FAIL_VALID : Fld := ⟨MARC.FIRST_FAIL, 31, 1⟩

/-- R280 (13_tasks). -/
def MARC.WITHHELD : Reg :=
  { page := 0x70, off := 0x050, acc := .ro, mask := 0x0003FFFF }

/-- R280 (13_tasks). -/
def MARC.END_STAMP_LO : Reg :=
  { page := 0x70, off := 0x054, acc := .ro }

/-- R280 (13_tasks). -/
def MARC.END_STAMP_HI : Reg :=
  { page := 0x70, off := 0x058, acc := .ro }

/-- R280 (13_tasks). -/
def MARC.AUTO : Reg :=
  { page := 0x70, off := 0x400, acc := .rw, rst := 0x00400000, mask := 0x00FFFFFF,
    ok := [⟨16, 8, [(16, 255)]⟩] }
def MARC.AUTO_INTERVAL : Fld := ⟨MARC.AUTO, 0, 16⟩
def MARC.AUTO_GAP : Fld := ⟨MARC.AUTO, 16, 8⟩

/-- The registers of page 0x70 at 0x040 and above (R68). -/
def MARC.rows : List Reg :=
  [MARC.MARCH_CTRL, MARC.MARCH_STAT, MARC.FAILS, MARC.FIRST_FAIL,
   MARC.WITHHELD, MARC.END_STAMP_LO, MARC.END_STAMP_HI, MARC.AUTO]
def MARC.int_FAIL : IntBit := ⟨0x70, 0⟩
def MARC.int_DONE : IntBit := ⟨0x70, 1⟩
def MARC.int_REFUSED : IntBit := ⟨0x70, 2⟩

end Sys2Proof.Machine
end

