-- ==== Sys2Proof/Machine/RegReset.lean ====
section
/-! DEFINITION. Reset values of registers. The register tables give most of them as one constant; the few that differ
per element or per channel are here, each from its own rule. -/

namespace Sys2Proof.Machine

/-- ISLE.INFO of an island (R90, R104): kind in [19:16], nominal clock in MHz in [15:0]. -/
def isleInfo (i : Nat) : Nat :=
  if i < 8 then 0x00000 + 1250
  else if i = 8 then 0x10000 + 1250
  else if i < 13 then 0x20000 + 1250
  else if i < 21 then 0x30000 + 1600
  else if i = 21 then 0x40000 + 1250
  else if i = 22 then 0x50000 + 1500
  else if i < 31 then 0x60000 + 1067
  else if i = 31 then 0x70000 + 625
  else if i = 32 then 0x80000 + 400
  else if i = 33 then 0x90000 + 500
  else 0

/-- SHAP.SCHED of a node (R374): nodes 0 to 32,767 are subscribers, 32,768 to 36,863 services, then the ports. -/
def schedReset (n : Nat) : Nat :=
  0x00100000 + (if n < 32768 then n % 4096 else if n < 36864 then (n - 32768) % 34 else 0)

/-- The reset value of a register, for channel `ch` (R70, R89, R104, R373, R374, R404, R462). -/
def Reg.rstOf (r : Reg) (ch : Nat) : Word :=
  BitVec.ofNat 32 (
    if r.page = 0x00 ∧ r.off = 0x808 then 0x80
    else if r.page = 0x04 ∧ r.off = 0x064 then isleInfo ch
    else if r.page = 0x48 ∧ 0x500 ≤ r.off ∧ r.off ≤ 0x584 then (r.off - 0x500) / 4
    else if r.page = 0x49 ∧ r.off = 0x050 then schedReset ch
    else if r.page = 0x50 ∧ r.off = 0x044 then (if 48 ≤ ch then 4 else 0)
    else if r.page = 0x68 ∧ 0x800 ≤ r.off ∧ r.off < 0xC00 ∧ r.off % 16 = 12 then 1
    else r.rst)

end Sys2Proof.Machine
end

