-- ==== Sys2Proof/Machine/State.lean ====
section
/-! DEFINITION. The state of the module: every register, table, queue, engine and pin the spec gives it, as plain data,
and the queue of the commands that wait. -/

namespace Sys2Proof.Machine

/-- Why the module stops with a fault. There is no such reason: every command of the table has an effect of its own, and none of
them stops the module, so the type has no constructor. -/
inductive Fault where
  deriving DecidableEq, Repr

/-- Why a step has no meaning.
`notModelled`: raised by a command whose meaning is not written; safe. -/
inductive Refusal where
  | notModelled (mnemonic : String)
  deriving DecidableEq, Repr

/-! ### Supply, reset and sleep (02_module, 03_startup) -/

/-- What the supply monitor and the resets hold the die in (R20, R22, R31, R36). -/
inductive Phase where
  /-- No supply: everything but flash, fuses and the surroundings is lost. -/
  | unpowered
  /-- Start-up step 1: VIN is in its 10 ms of qualification. -/
  | qualifying
  /-- Converters off after an overvoltage. -/
  | ovOff
  /-- Converters off after a thermal shutdown: only RESET_N or a power cycle restarts it. -/
  | thermalOff
  /-- Start-up step 2: power-on reset in progress. -/
  | reset
  /-- Start-up step 3 and later: the die runs. BOOT_STATUS.STAGE says which step. -/
  | on
  deriving DecidableEq, Repr

/-- The supply monitor and the power-fail record (R22, R25, R27, R31, R35). -/
structure Supply where
  phase : Phase
  /-- A level cause of a warning is present. -/
  level : Bool
  /-- An external cause of a warning is present. -/
  ext : Bool
  /-- The module drives PFAIL_N low. -/
  drive : Bool
  /-- An external device drives PFAIL_N low. -/
  padLow : Bool
  /-- Where in flash a power-fail record is being written, with its check word still missing. -/
  recording : Option Nat
  /-- The thermal cap of R31 is active. -/
  cap : Bool
  /-- RESET_N is held low. -/
  resetLow : Bool
  /-- A thermal shutdown has come, and the junction has not been below 100 °C since (R31). -/
  hot : Bool
  /-- Uptime in 0.1 ns at which VIN had been above 62 V for 100 ms: the shutdown follows 10 µs later (R22). -/
  ovAt : Option Nat
  /-- The cause that began the warning in force: 0 level, 1 external. -/
  cause : Nat
  deriving DecidableEq, Repr

/-- Entry into SPORE, and the wake from it (R55 to R63). -/
structure Spore where
  /-- A request accepted while a commit or a pause is in progress waits for it. -/
  waiting : Bool
  /-- Admission is stopped (R56, R62). -/
  stopped : Bool
  /-- How far entry has come: 0 draining, 1 drain ended, 2 lanes off, 3 packet memory released. -/
  phase : Nat
  /-- The wake source that has arrived: 1 WAKE_N, 2 PCIe, 3 timer, 4 supply return. -/
  wake : Option Nat
  /-- FENG.RUN at entry. -/
  run : Nat
  /-- Uptime, in 0.1 ns, when STATE became 2. -/
  since : Nat
  /-- A warning was in force at entry. -/
  warned : Bool
  /-- The servo was LOCKED at entry. -/
  locked : Bool
  /-- The last SPORE lasted 72 hours or more, and the first sweep after it has not run (R63). That sweep is one turn over all pairs:
  while `longMid`, the rest of the pass that was in progress at the wake; then the pairs below `longEnd`. -/
  long : Bool
  longMid : Bool := false
  longEnd : Nat := 0
  deriving DecidableEq, Repr

/-- Start-up and the image (R36 to R54). -/
structure Boot where
  /-- Microseconds from t0 to the start of the device clock, for BOOT_MS. -/
  before : Nat
  /-- A flash answered at step 3 (R51). -/
  flash : Bool
  /-- The record area is known: an image has been accepted, or its rejection has left the defaults. -/
  loaded : Bool
  /-- Where the power-fail area and the training area lie in flash (R51). -/
  pfail : Nat
  train : Nat
  /-- The slot that takes the next power-fail record, and the sequence it takes (R53). -/
  slot : Nat
  seq : Nat
  /-- The load in progress reads from host memory. -/
  host : Bool
  /-- The accepted image's microcode section: offset and length in the image. -/
  ucode : Option (Nat × Nat)
  /-- The bytes of the accepted image. -/
  image : List Byte
  /-- Host-table entries of the image that wait for step 11 (R172): entry number, BAR2 offset and bytes. -/
  preload : List (Nat × Nat × List Byte)
  /-- Last valid prefix unit written from the low and from the high side (R45). -/
  lowUnit : Option (Nat × Nat)
  highUnit : Option (Nat × Nat)
  /-- Microcode verification has passed or was not needed. -/
  verified : Bool
  deriving DecidableEq, Repr

/-! ### Time (06_time) -/

/-- The device clock (R106): seconds, nanoseconds, fraction in units of 2^-24 ns, and the remainder below that, in
units of 1 ÷ (2560 × 10^9) of it (R107). `up` is the time since the clock started, in 0.1 ns, which no step moves. -/
structure Clock where
  sec : BitVec 64
  ns : Nat
  frac : Nat
  rem : Nat
  up : Nat
  deriving DecidableEq, Repr

/-- A step that waits for a beacon (R110, R111). -/
inductive Step where
  | add (neg : Bool) (sec : Nat) (ns : Nat) (path : Nat)
  | set (sec : Nat) (ns : Nat)
  /-- A servo step by minus θ, θ in 0.1 ns. -/
  | servo (theta : Int)
  deriving DecidableEq, Repr

/-- The servo, the time inputs and the replicas (R107 to R122). -/
structure TimeSt where
  /-- y and I in units of 1/2560 ppb. -/
  y : Int
  i : Int
  /-- A servo step has been made since SERVO_EN became 1. -/
  stepped : Bool
  /-- Consecutive updates with |θ| within LOCK_TH. -/
  within : Nat
  /-- Uptime of the last valid sample, or of SERVO_EN becoming 1. -/
  lastValid : Nat
  pending : Option Step
  /-- Uptime of the last accepted PPS_IN edge. -/
  lastPps : Option Nat
  /-- REF10M has been good for 1 s; and has been good at some time since power-on reset (R108). -/
  refGood : Bool
  refEver : Bool := false
  /-- The synthesiser runs from REF10M. -/
  refUsed : Bool
  /-- How far each island's replica stood from the master at the beacon it last met, in 0.1 ns; the uptime of that beacon; and the
  time in 0.1 ns below which the replica does not fall until the next step (R114). -/
  dev : SMap Int
  devAt : SMap Nat := []
  low : SMap Nat := []
  /-- In SPORE, the time in 0.1 ns at which the replica of a powered-down island stands (R115). -/
  halted : SMap (Option Nat) := []
  /-- The second boundary whose PPS_OUT pulse was the last one. -/
  ppsSec : Nat
  /-- The transmit stamps that wait in each port's queue, oldest first: tag and stamp (R126). -/
  txts : SMap (List (Nat × BitVec 64))
  deriving DecidableEq, Repr

/-- The one-time fuses (R469 to R471): identity words, customer key hash, KEY_LOCK and SEAL. -/
structure Otp where
  ident0 : Word
  ident1 : Word
  ident2 : Word
  ident3 : Word
  hash : BitVec 384
  keyLock : Bool
  sealed : Bool
  deriving DecidableEq, Repr

/-! ### Islands (05_islands) -/

/-- An island's governor and its pace changes, beside its registers (R96 to R101). -/
structure Isle where
  /-- Consecutive light windows. -/
  low : Nat
  /-- The governor's target level. -/
  target : Nat
  /-- The level and cause of the change in progress. -/
  change : Option (Nat × Nat)
  /-- The level and cause that wait for the change in progress to end. -/
  held : Option (Nat × Nat)
  /-- Time spent at each level, and the uptime since when the current one counts, in 0.1 ns. -/
  t0 : Nat
  t1 : Nat
  t2 : Nat
  t3 : Nat
  since : Nat
  /-- Uptime in 0.1 ns at which the governor's window began (R96). -/
  winAt : Nat := 0
  /-- Changes still to end, of those that a SOFT_RESET of ISLE began: the one in progress, and before it one that was (R103). -/
  soft : Nat := 0
  deriving DecidableEq, Repr

/-! ### Events, interrupts and what leaves the module (21_observability, 04_registers) -/

/-- An event record (R435). -/
structure Event where
  stamp : BitVec 64
  island : Nat
  flags : Nat
  code : Nat
  seq : Word
  p0 : Word
  p1 : Word
  p2 : Word
  p3 : Word
  deriving DecidableEq, Repr

/-- What waits in an event queue's staging buffer: a record, or the place where `n` records were lost, with the QUEUE_LOSS record as
island 32 produced it there (R440). -/
inductive EvItem where
  | event (e : Event)
  | loss (n : Nat) (e : Event)
  deriving DecidableEq, Repr

/-- An event queue beside its registers (R439 to R441): the staging buffer, oldest first, the records written since
software last cleared its interrupt bit, and the uptime of the first of them. -/
structure EvQueue where
  staged : List EvItem
  since : Nat
  first : Nat
  deriving DecidableEq, Repr

/-- What the module gives to the outside. -/
inductive Output where
  /-- A frame on port 0 to 31 (line), 33 (tandem) or 34 (management), its bytes without preamble, and whether its FCS is
  inverted (stomped). -/
  | frame (port : Nat) (bytes : List Byte) (stomped : Bool)
  /-- An MSI-X message: address and data. -/
  | msix (addr : Nat) (data : Word)
  /-- The answer to a read on a path: its words, first word first. -/
  | words (path : Nat) (ws : List Word)
  /-- The answer to an SMBus read or a mailbox command: its bytes. -/
  | bytes (bs : List Byte)
  /-- A PPS_OUT pulse, its width in microseconds (R29). -/
  | pps (width : Nat)
  /-- A MAC control frame on a port: opcode, then PAUSE quanta or the class enables and eight quanta. -/
  | control (port : Nat) (opcode : Nat) (enables : Nat) (quanta : List Nat)
  /-- The base page that a negotiating port advertises: the MODE whose technology ability it names, and the RS-FEC request bit; its
  next pages are null (R134). -/
  | basePage (port mode : Nat) (rsFec : Bool)
  /-- A port begins, or ends, to send remote fault to its partner, as it does while it has local fault (R134). -/
  | remoteFault (port : Nat) (on : Bool)
  /-- A message to the tandem peer. -/
  | peer (kind : Nat) (bs : List Byte)
  /-- What the test access port shifts out. -/
  | tdo (v : Nat) (len : Nat)
  deriving DecidableEq, Repr

/-- A staged value, with the reset value of its register (R7). -/
structure Staged where
  rst : Word
  val : Word
  deriving DecidableEq, Repr

/-- A commit that has been accepted (R79, R83). -/
structure CommitSt where
  /-- T_c as nanoseconds of device time. -/
  tc : Nat
  path : Nat
  /-- The page committed, none for a global commit. -/
  page : Option Nat
  /-- The shadows that take effect at T_c. -/
  staged : SMap (Option Staged)
  /-- The pages that were DIRTY. -/
  pages : List Nat
  /-- T_c has passed on every island and all staged values are active. -/
  applied : Bool
  /-- The islands whose replicas have reached T_c and that have switched (R81, R82). -/
  switched : List Nat := []
  /-- The configuration epoch before this commit, once housekeeping has switched. -/
  was : Nat := 0
  deriving DecidableEq, Repr

/-- A pipeline pause in force (R84). -/
structure PauseSt where
  mask : Nat
  reached : Bool
  /-- Uptime at GO, in 0.1 ns. -/
  since : Nat
  deriving DecidableEq, Repr

/-! ### Ports (07_ports) -/

/-- A port beside its registers (R142 to R146). -/
structure PortSt where
  /-- The flap penalty in units of 2^-16, as it stood at uptime `penMs` in ms (R144). -/
  pen : Nat := 0
  penMs : Nat := 0
  /-- Uptime in 0.1 ns when UP_PENDING was entered. -/
  pendAt : Nat := 0
  /-- Consecutive negotiation and training failures, and the uptime in 0.1 ns at which a restart that waits is due
  (R146). -/
  fails : Nat := 0
  retry : Option Nat := none
  /-- Training has ended since the port last went down. -/
  trained : Bool := false
  /-- Negotiation has ended since the port last went down. -/
  agreed : Bool := false
  /-- Priorities in storm that ACTION = 1 treated as a down port at detection (R140). -/
  stormDown : Nat := 0
  deriving DecidableEq, Repr

/-- One priority of a requester (R138 to R145, R339, R342). -/
structure Pri where
  /-- Headroom cells in use. -/
  hr : Nat := 0
  /-- The headroom, in bytes and cells, that holds while an episode lasts. -/
  epH : Nat := 0
  epUnits : Nat := 0
  /-- Bytes received into units since the module's XOFF of this episode, and whether a discard of it has been logged. -/
  epBytes : Nat := 0
  ignored : Bool := false
  /-- Uptime of the last XOFF sent. -/
  xoffAt : Nat := 0
  /-- When the received pause ends, since when it has held without a break, and when the last one arrived (uptime). -/
  pauseEnd : Nat := 0
  pauseFrom : Nat := 0
  pauseLast : Nat := 0
  deriving DecidableEq, Repr

/-! ### Frames, units and copies (16_switch_core) -/

/-- A unit's entry in the link memory (R330). -/
structure Link where
  next : Nat := 0x3FFFFF
  npool : Nat := 0
  alloc : Bool := false
  mark : Bool := false
  age : Nat := 0
  deriving DecidableEq, Repr

/-- Where a resident frame stands on its way. -/
inductive Stage where
  /-- Offered to its pipeline. -/
  | offered
  /-- Held in the fragment wait list since an uptime in 0.1 ns (R164). -/
  | waiting (since : Nat)
  /-- Its lookups are done and its flow request is to be made. -/
  | request
  /-- Its flow request is at a merger, or its flow task runs. -/
  | flow
  /-- Its final result is known and its edit list is to be applied. -/
  | edit
  /-- Edited, and its descriptor is crossing to the traffic manager. -/
  | ready
  /-- Queued in the traffic manager. -/
  | queued
  deriving DecidableEq, Repr

/-- A forwarding result (R173 to R176): what to do, where to, and the next hop of a routed frame. -/
structure Fwd where
  /-- 0 forward, 1 punt, 2 discard. -/
  act : Nat := 0
  /-- Destination ports, bit n for port n. -/
  dest : Nat := 0
  /-- RESULT or NEXT_HOP as the classifier key sees it; 0xFFFF when the frame floods (R194). -/
  result : Nat := 0xFFFF
  /-- Next hop whose addresses the egress stage writes. -/
  nextHop : Option Nat := none
  deriving DecidableEq, Repr

/-- A rewrite of a frame by the flow library (R291): bytes put at offsets from layer starts, and where the frame ends. -/
structure Rewrite where
  puts : List (Nat × Nat × List Byte) := []
  cut : Option (Nat × Nat) := none
  deriving DecidableEq, Repr

/-- An edit list (R167): operation words, and edit data. The library's rewrite stands at the operation 2^32. -/
structure Edits where
  ops : List Nat := []
  data : List Byte := []
  rewrite : Rewrite := {}
  deriving DecidableEq, Repr

/-- What a pipeline knows of a head: the parse result (R155 to R158), the forwarding stage's and the classifier's results,
the flow request, and the edit list that stands. -/
structure Ctx where
  pipe : Nat := 0
  /-- The extraction area of 64 bytes. -/
  ext : List Byte := []
  /-- The starts of the eight layer slots. -/
  layers : List (Option Nat) := [none, none, none, none, none, none, none, none]
  /-- The parse summary (R158). -/
  summary : Nat := 0
  /-- Exception code carried to the host by a punt. -/
  exc : Nat := 0
  /-- The fragment key (R162), with the offset in 8-byte units and the MF or M flag, when the head is a fragment. -/
  fragKey : List Byte := []
  fragOff : Nat := 0
  fragMore : Bool := false
  domain : Nat := 0
  vrf : Nat := 0
  fwd : Fwd := {}
  /-- The 64-bit result of R197 as it stands: the classifier's, or the flow task's in its place. -/
  res : Nat := 0
  edits : Edits := {}
  /-- The flow request's home slot and direction, when one is made (R218). -/
  home : Nat := 0
  dir : Nat := 0
  wide : Bool := false
  /-- A flow request has been made, so that `home` names a slot. -/
  asked : Bool := false
  /-- The result and the list are those of a flow task. -/
  byTask : Bool := false
  /-- The task that owns the packet. -/
  task : Option Nat := none
  deriving DecidableEq, Repr

/-- A frame resident in the switch core: its descriptor (R334), its bytes as its units hold them, without FCS, and where
it stands. -/
structure Frame where
  fpool : Nat := 0
  first : Nat := 0
  len : Nat := 0
  req : Nat := 0
  pri : Nat := 0
  dest : Nat := 0
  sub : Nat := 0
  cls : Nat := 0
  colour : Nat := 0
  epoch : Nat := 0
  /-- Commit generation of the epoch (R81). -/
  gen : Nat := 0
  /-- Ingress stamp in ns, and in units of 2^-16 ns. -/
  stamp : Nat := 0
  fine : Nat := 0
  refs : Nat := 0
  spilled : Bool := false
  edited : Bool := false
  /-- At least one copy is held for a down port. -/
  held : Bool := false
  /-- Uptime in ms at admission. -/
  admitMs : Nat := 0
  headLen : Nat := 0
  bytes : List Byte := []
  stage : Stage := .offered
  /-- Ingress port 0 to 33; 34 and above for frames that fronds make. -/
  ingress : Nat := 0
  /-- The priority of R137. -/
  tagPri : Nat := 0
  /-- Accounting units charged to USE, and whether they stand in the hold account (R338, R344). -/
  charge : Nat := 0
  onHold : Bool := false
  /-- Headroom cells taken (R336). -/
  hr : Nat := 0
  /-- The class that the inject descriptor or the frond names (R355). -/
  named : Option Nat := none
  /-- The subscriber that the inject descriptor gives in place of R356 (R455). -/
  subEn : Option Nat := none
  /-- The tag of a transmit stamp request (R126). -/
  stampTag : Option Nat := none
  /-- Exception or punt code for the host (R454). -/
  code : Nat := 0
  /-- The sampling tag (R431). -/
  tag : Option Nat := none
  ctx : Ctx := {}
  deriving DecidableEq, Repr

/-- The settings of a port, beside MAX_FRAME, under which a MAC control frame is judged: those in force at its first byte (R136). -/
structure MacSet where
  fcMode : Nat := 0
  pfcEn : Nat := 0
  ctrlPass : Bool := false
  deriving DecidableEq, Repr

/-- A frame in reception (R331, R336). -/
structure Rx where
  /-- Its descriptor, unless it is discarded before it takes a unit. -/
  desc : Option Nat := none
  /-- Reason of R350 for which it is discarded. -/
  reason : Option Nat := none
  pri : Nat := 0
  tagPri : Nat := 0
  bytes : List Byte := []
  /-- MAX_FRAME in force at its first byte (R136). -/
  maxFrame : Nat := 1518
  mac : MacSet := {}
  /-- Its first byte arrived during an episode of its priority. -/
  inEp : Bool := false
  /-- Cells taken from the in-progress reserve, and from headroom. -/
  resv : Nat := 0
  hr : Nat := 0
  /-- Payload bytes its units can hold, and accounting units taken. -/
  room : Nat := 0
  units : Nat := 0
  /-- Step 6 of R336: no unit could be had. -/
  dead : Bool := false
  /-- Last unit of the chain so far. -/
  last : Nat := 0
  /-- Its ingress stamp in units of 2^-16 ns (R127). -/
  fine : Nat := 0
  deriving DecidableEq, Repr

/-- A copy in a queue (R343): its frame, its port, and whether it is held for a down port. -/
structure Copy where
  desc : Nat
  port : Nat
  cls : Nat := 0
  held : Bool := false
  /-- Its place in the order of arrival, and the uptime in 0.1 ns at which it was queued. -/
  seq : Nat := 0
  since : Nat := 0
  deriving DecidableEq, Repr

/-- A copy that a port has staged (R346): whether its transmission has started, when, and how many bytes have left. -/
structure Tx where
  copy : Copy
  queue : Nat := 0
  started : Bool := false
  stomped : Bool := false
  /-- Device time of the start in units of 2^-16 ns. -/
  start16 : Nat := 0
  startUp : Nat := 0
  /-- The bytes that were staged at least when it started (R346). -/
  ready : Nat := 0
  /-- The uptime in 0.1 ns at which its gate closes after a step of the device clock (R369); none where no step has come. -/
  closes : Option Nat := none
  deriving DecidableEq, Repr

/-- The leak audit (R349): whether a pass runs. -/
structure Audit where
  running : Bool := false
  /-- Uptime in s when the last periodic pass began. -/
  lastS : Nat := 0
  deriving DecidableEq, Repr

/-! ### Traffic manager (17_traffic_manager) -/

/-- A node's buckets, in units of 2^-16 byte, and the rates and sizes in force at it (R361 to R363). -/
structure Bucket where
  c : Int
  p : Int
  cir : Nat
  cbs : Nat
  pir : Nat
  pbs : Nat
  /-- The uptime in 0.1 ns of the last refill; none before the first, which sets the node's phase (R362). -/
  at_ : Option Nat := none
  deriving DecidableEq, Repr

/-- A policer's buckets, in units of 2^-16 byte, and the uptime of the last update in 0.1 ns (R364). -/
structure Polic where
  c : Nat
  e : Nat
  at_ : Nat
  deriving DecidableEq, Repr

/-- A port's gate control (R366 to R369): which of its two lists is active and how long it is, and the change that
waits: the instant in ns, the cycle and the length. -/
structure GateSt where
  bank : Nat := 0
  len : Nat := 0
  pending : Option (Nat × Nat × Nat) := none
  deriving DecidableEq, Repr

/-- A queue's sample (R370), with whether it met an alert condition (R371). -/
structure Sample where
  bits : BitVec 224
  alert : Bool
  deriving DecidableEq, Repr

/-- The switch core and the traffic manager. -/
structure Switch where
  link : SMap Link := []
  frames : SMap (Option Frame) := []
  rx : SMap (Option Rx) := []
  pri : SMap Pri := []
  ports : SMap PortSt := []
  /-- Heads offered to each pipeline, oldest first. -/
  heads : SMap (List Nat) := []
  /-- The banks of the shared buffer, the one written least recently first (R333), and the blocks in the spill write queue, oldest first,
  each with whether it is gathered whole (R329). -/
  banks : List Nat := List.range 64
  spillq : List (Nat × Bool) := []
  /-- Cells that march tests withhold, and packet channels whose blocks are withheld. -/
  withheld : List Nat := []
  noBlocks : List Nat := []
  /-- Units withheld because their link entries read uncorrectably; cells to be tested when they are freed, because they did; and how many
  such tests there were (R467, kinds 1 and 2). -/
  badUnits : List Nat := []
  suspect : List Nat := []
  cellTests : Nat := 0
  /-- The copies of each queue, oldest first: 8 × subscriber + class, or 262,144 + port for an orphan queue. -/
  queues : SMap (List Copy) := []
  /-- The copies each port has staged, oldest first. -/
  staged : SMap (List Tx) := []
  /-- Uptime at which a port's hold began: 9 × port, or 9 × port + 1 + p for a priority in storm (R345). -/
  hold : SMap (Option Nat) := []
  audit : Audit := {}
  buckets : SMap (Option Bucket) := []
  /-- Deficits of children, and the child that holds the turn of each parent and PRIO, plus one (R360). -/
  deficit : SMap Int := []
  turn : SMap Nat := []
  /-- Shaping bytes sent through each node. -/
  txBytes : SMap Nat := []
  polic : SMap (Option Polic) := []
  gates : SMap GateSt := []
  /-- Gate control list entries: (port × 2 + list) × 256 + entry gives GATES and INTERVAL. -/
  gcl : SMap (Nat × Nat) := []
  samples : SMap (Option Sample) := []
  /-- The queue that the sampler visits next. -/
  sampler : Nat := 0
  /-- The uptime in 0.1 ns of the last visit (R370); none before the first. -/
  sampledAt : Option Nat := none
  /-- Uptime in ms of the last step of the device clock (R370). -/
  stepMs : Nat := 0
  /-- Descriptors of frames that wait at PL>TM for copy entries, oldest first, with the uptime in 0.1 ns since when
  (R358). -/
  waitTm : List (Nat × Nat) := []
  /-- Copies queued so far. -/
  copySeq : Nat := 0
  /-- PAUSE and PFC frames that wait at a port for the frame in transmission, oldest first: PFC, priorities, quanta (R139). -/
  pauses : SMap (List (Bool × Nat × Nat)) := []
  /-- Uptime in 0.1 ns, plus one, at which a lane lost CDR lock (R142). -/
  cdrAt : SMap Nat := []
  /-- Keys of registers that count what only analogue parts, decoders and arbiters know, and that may have counted since they were
  last read or reset. -/
  counted : List Nat := []
  /-- Live STAT counters (R434): 64 × port + k. -/
  stat : SMap Nat := []
  deriving DecidableEq, Repr

/-! ### Counters and samples (21_observability) -/

/-- The performance counters, the snapshot that waits, and sampling (R423 to R433). -/
structure Obs where
  /-- Live and snapshot values of the PERF counters. -/
  perf : SMap Nat := []
  perfSnap : SMap Nat := []
  /-- The STAT counters of the last snapshot: 64 × port + k. -/
  statSnap : SMap Nat := []
  /-- The instant T_s in ns and the actions of an accepted write of TOP.SNAPSHOT. -/
  snap : Option (Nat × Nat) := none
  /-- The islands that have acted at T_s of that write. -/
  snapped : List Nat := []
  /-- PERF counters that count events which the model does not count, so that their values are open; and how many open values
  `Config.perfOpen` has given. -/
  vague : List Nat := []
  opens : Nat := 0
  /-- Sample records that wait for the ring, oldest first. -/
  staged : List (List Byte) := []
  /-- The tag that the next tagged unit takes. -/
  tag : Nat := 0
  /-- The countdown of each island in exact sampling. -/
  down : SMap (Option Nat) := []
  deriving DecidableEq, Repr

/-! ### Lookups of the pipelines (08_parser, 09_forwarding, 10_classifier) -/

/-- A fragment-table entry (R162): its key, the four bytes it gives, the uptime of its last hit, and the uptime at which a
last fragment hit it, in 0.1 ns. -/
structure FragEntry where
  key : List Byte
  data : List Byte
  hit : Nat
  ended : Option Nat
  deriving DecidableEq, Repr

/-- A learn (R177): key, domain, port and ingress stamp in ns. -/
structure Learn where
  mac : Nat
  dom : Nat
  port : Nat
  stamp : Nat
  /-- The commit generation of the frame that was learned from (R81). -/
  gen : Nat := 0
  deriving DecidableEq, Repr

/-- A loader that runs under a pause (R160, R201, R232): it is armed, and it resumes the pause by itself. -/
structure Loader where
  armed : Bool := false
  auto : Bool := false
  deriving DecidableEq, Repr

/-- A prefix command in progress (R186, R188): the pipelines it acts in, the unit writes that wait for a search slot, in
order, and how many entries it moves. -/
structure PrefixOp where
  mask : Nat
  writes : List (Nat × Nat)
  moves : Nat
  deriving DecidableEq, Repr

/-- The tables of the four pipelines. Keys begin with the pipeline number times the size of its table. -/
structure Look where
  /-- PARS.START of each pipeline (R159). -/
  start : SMap Nat := []
  /-- Fragment table, 8,192 entries, and its 128-bit key KF. -/
  frags : SMap (Option FragEntry) := []
  kf : Nat := 0
  /-- Frames in each wait list, in order of arrival, and released ones that re-enter. -/
  waits : SMap (List Nat) := []
  released : SMap (List Nat) := []
  /-- Host table, 262,144 entries of 112 bits, and its 128-bit key. -/
  hosts : SMap Nat := []
  hostKey : Nat := 0
  /-- Learns on their way to each pipeline, oldest first. -/
  learns : SMap (List Learn) := []
  /-- Learn cache of each pipeline. -/
  cache : SMap (List Learn) := []
  /-- Local moves of each pipeline in the current window, and the key of the last. -/
  moves : SMap Nat := []
  lastMove : SMap Nat := []
  /-- When each pipeline's storm window began (uptime in 0.1 ns, R180). -/
  stormAt : SMap Nat := []
  /-- Pipelines whose first sweep after a long SPORE has not ended, with the entry at which it began once it has (R182). -/
  longSweep : List (Nat × Option Nat) := []
  /-- Domain table, 4,096 entries, and next-hop table, 16,384 entries. -/
  doms : SMap Nat := []
  hops : SMap Nat := []
  /-- Prefix table, 131,072 units of 72 bits; bit 72 says that the unit belongs to a region, as an entry or as a hole. -/
  units : SMap Nat := []
  prefixOp : Option PrefixOp := none
  /-- Rules, 65,536 of 1,024 bits. -/
  rules : SMap Nat := []
  /-- Edit-list table, 4,096 entries of 32 words. -/
  edits : SMap Nat := []
  /-- Parse nodes (256 × pipeline + node) and anchor entries (65,536 × pipeline + entry) of which a word reads uncorrectably (R467). -/
  badNodes : List Nat := []
  badAnchors : List Nat := []
  /-- The loaders of PARS, CLSF and ANCH, by page. -/
  loaders : SMap Loader := []
  deriving DecidableEq, Repr

/-! ### Flow table (11_flow_table) -/

/-- A slot open in its merger (R222): its value, which halves are not yet written, and since when (uptime in 0.1 ns). -/
structure OpenSlot where
  value : Nat
  lo : Bool := false
  hi : Bool := false
  since : Nat := 0
  /-- It is the odd half of a wide record, held in the entry of the even slot (R210, R399). -/
  half : Bool := false
  deriving DecidableEq, Repr

/-- What a flow request waits for at a merger: an earlier request for its slot, room in the merger, a merger that waits for room in a
ring, or a record of a frond's task store (R222, R262, R263). -/
inductive ReqBlock where
  | order
  | room
  | ring
  | store (frond : Nat)
  deriving DecidableEq, Repr

/-- A host command, an ageing removal or another control update of the table's own that waits for the tasks that hold its
record (R223). -/
inductive HeldUpd where
  /-- FLOW.CMD: operation, slot, INCARN. -/
  | cmd (op slot incarn : Nat)
  /-- An ageing removal. -/
  | age (slot : Nat)
  deriving DecidableEq, Repr

/-- The flow table: slots of both regions by region × 2^27 + slot, open slots of the active region, keys, reservations and
the walks over it. -/
structure FlowSt where
  mem : SMap Nat := []
  opened : SMap (Option OpenSlot) := []
  region : Nat := 0
  kp : Nat := 0
  kl : Nat := 0
  /-- Keys that a rebuild will switch to, and the records that found no room under them. -/
  nkp : Nat := 0
  nkl : Nat := 0
  lost : List Nat := []
  /-- Requests that wait for a reservation of their connection, in order of arrival (R231). -/
  waiting : List Nat := []
  /-- Requests that wait at a merger for their turn, for room or for a task record, in order of arrival (R222, R262). -/
  arrivals : List Nat := []
  /-- Requests served so far. -/
  served : Nat := 0
  /-- With the place in the order of service from which on requests do not hold them back. -/
  held : List (Nat × HeldUpd) := []
  /-- The pair that the sweeper visits next, and the uptime when its pass began. -/
  pair : Nat := 0
  began : Nat := 0
  /-- An aborted pass waits for its period. -/
  aborted : Bool := false
  /-- The pair that the rebuild cursor copies next, and whether the last has been copied. -/
  cursor : Nat := 0
  copied : Bool := false
  /-- The first slot in region B of the copy of each record that a rebuild has copied, by its slot in force (R217). -/
  copies : SMap (Option Nat) := []
  /-- Device time of the switch of a rebuild. -/
  switchNs : Option Nat := none
  deriving DecidableEq, Repr

/-! ### Tasks and engines (12_engines, 13_tasks) -/

/-- What a task sees of a record (R222, R236): the slot that the view is of, its home, the record, and whether the task
holds a reservation (R231). -/
structure View where
  home : Nat := 0
  slot : Nat := 0
  record : Nat := 0
  hit : Bool := false
  wide : Bool := false
  dir : Nat := 0
  inserted : Bool := false
  /-- Place in the order of service. -/
  served : Nat := 0
  /-- The connection that a miss reserves. -/
  resv : Option Nat := none
  deriving DecidableEq, Repr

/-- A task record (R261), with the packet or record that the task is about. -/
structure Task where
  gen : Nat := 0
  kind : Nat := 0
  prio : Nat := 0
  /-- 1 ready, 2 running, 3 blocked, 4 timed. -/
  state : Nat := 1
  all : Bool := false
  armed : Bool := false
  mask : Nat := 0
  flags : Nat := 0
  zcn : Nat := 0
  sts : Nat := 0
  resume : Nat := 0
  stack : List Nat := []
  epoch : Nat := 0
  cgen : Nat := 0
  deadline : Nat := 0
  args : List Byte := []
  saved : List Nat := [0, 0, 0, 0]
  /-- It has been on a thread. -/
  begun : Bool := false
  /-- Bits that a wake has consumed, for the trace of its dispatch. -/
  woke : Nat := 0
  /-- Uptime in µs at which it became ready or was last promoted. -/
  since : Nat := 0
  desc : Option Nat := none
  view : View := {}
  /-- Reason of R226 of a flow-end task. -/
  reason : Nat := 0
  /-- The sampling tag (R431). -/
  tag : Option Nat := none
  /-- The id that it held when last in the store (R261). -/
  lastId : Nat := 0xFFFFF
  /-- Of a spilled task: the number of its record in the frond's spill area (R267). -/
  pos : Option Nat := none
  /-- What it saw of its record at its first dispatch (R265). -/
  first : View := {}
  deriving DecidableEq, Repr

/-- What a thread waits for. -/
inductive Wait where
  | ctl
  | del (reason : Nat)
  /-- The condition of a WAIT, on a task that keeps its thread. -/
  | cond
  /-- The cipher lock, since an uptime in 0.1 ns. -/
  | lock (since : Nat)
  /-- A cipher block or nonce. -/
  | block
  /-- Room in the export queue, for a record: its template and its bytes. -/
  | emit (template : Nat) (bytes : List Byte)
  deriving DecidableEq, Repr

/-- What the flow library has decided of a packet (R288): its result, its edits, whether it adds the packet to the record,
and what is left to do before it ends: an update of the record (the new record), a deletion with a reason, or nothing. -/
structure LibPlan where
  res : Nat := 0
  edits : Edits := {}
  ovf : Bool := false
  delta : Bool := true
  put : Option Nat := none
  del : Option Nat := none
  /-- Records to export: template and bytes. -/
  emit : List (Nat × List Byte) := []
  /-- A harvest delta is to be sent. -/
  harv : Bool := false
  /-- What program counters 0x1000 + k count when the task ends: k and how many. -/
  cnts : List (Nat × Nat) := []
  /-- A cookie's MAC that the plan waits for: MSSIDX and T (R290). -/
  ask : Option (Nat × Nat) := none
  /-- Operations beyond its marker and bytes of data that the SYN defence's rewrite takes. -/
  xops : Nat := 0
  xdata : Nat := 0
  deriving DecidableEq, Repr

/-- A hardware thread (R236). Bit 14 of an address says that it is a word of patch RAM. -/
structure Thread where
  task : Option Nat := none
  pc : Nat := 0
  cost : Nat := 0
  g : SMap Nat := []
  v : SMap Nat := []
  z : Bool := false
  c : Bool := false
  n : Bool := false
  sts : Nat := 0
  stack : List Nat := []
  /-- DRAFT as a record's payload, and the bytes of its window between: 14 and 15 of each 16, of which a record has no use. -/
  draft : Nat := 0
  pad : Nat := 0
  res : Nat := 0
  edits : Edits := {}
  ovf : Bool := false
  wait : Option Wait := none
  /-- A transfer of the nanoword's MOVE to a window, whose other transfer has loaded registers: it writes after the ALUs (R247). -/
  late : Option Transfer := none
  /-- Refusals of the library's update, and its decision once made. -/
  tries : Nat := 0
  plan : Option LibPlan := none
  /-- Blocks of a cookie's MAC that the library has called for. -/
  cook : Nat := 0
  deriving DecidableEq, Repr

/-- A frond's export queue (R302): records with their template, the uptime at which each arrived, and the data records sent so
far. -/
structure ExportQ where
  recs : List (Nat × List Byte) := []
  times : List Nat := []
  sent : Nat := 0
  deriving DecidableEq, Repr

/-- The engines of the eight fronds, their tasks and their control stores. Keys begin with the frond times the size. -/
structure Engines where
  /-- Task store, 4,096 records per frond, and the generation each index had last. -/
  tasks : SMap (Option Task) := []
  gens : SMap Nat := []
  /-- Ready lists, four per frond, and spill rings, four per frond. -/
  ready : SMap (List Nat) := []
  rings : SMap (List Task) := []
  /-- The next position of each ring, below 131,072, and the tasks that mergers wait to spill into it (R263, R267). -/
  tails : SMap Nat := []
  wants : SMap (List Task) := []
  /-- Threads: frond × 256 + engine × 16 + thread. -/
  threads : SMap Thread := []
  /-- Trace entries that wait for the port, and each frond's entry sequence. -/
  trace : SMap (List (List Byte)) := []
  traceSeq : SMap Nat := []
  spad : SMap Byte := []
  /-- The fronds whose scratchpad DMA has moved no word, as ENABLE has been 0 since its GO (R279). -/
  still : List Nat := []
  /-- Of each thread's nanoword how far the groups have acted, in bits 1:0: 0 its reads, 1 after ALU0, 2 after ALU1, 3 after its writes;
  and which of the groups that act once have: MOVE, MEM, UNIT and UPD in bits 4 to 7 (R247). -/
  stage : SMap Nat := []
  /-- Of each engine, frond × 16 + engine: the thread that issued last, and the uptime (0.1 ns) until which its issue port is held
  (R234). -/
  last : SMap Nat := []
  port : SMap Nat := []
  /-- Cycles of task cost of each frond (ISSUED, R256). -/
  issued : SMap Nat := []
  /-- Microwords and nanowords of the control store, the same in all eight, and how many are loaded. -/
  micro : SMap Nat := []
  nano : SMap Nat := []
  mw : Nat := 0
  nw : Nat := 0
  /-- Patch slots, 32 per frond, and patch RAM, 256 words per frond. -/
  patch : SMap Nat := []
  pram : SMap Nat := []
  /-- Program counters, 8,192 per frond. -/
  pcnt : SMap Nat := []
  exports : SMap ExportQ := []
  /-- The failures that a running march test has met so far are known at its end only; the mode of each target's test. -/
  march : SMap Nat := []
  /-- Uptime in s of the last automatic march tests. -/
  marchS : Nat := 0
  deriving DecidableEq, Repr

/-! ### Cipher and check-value units (15_cipher_check) -/

/-- Who uses a cipher unit or a check-value context (R309, R311, R321). -/
inductive User where
  /-- A task: engine × 16 + thread, and its id. -/
  | task (thread id : Nat)
  /-- A host path: 0 PCIe, 1 housekeeping. -/
  | path (p : Nat)
  deriving DecidableEq, Repr

/-- A call of a thread (R309): key slot, operation (0 ENC, 1 DEC, 2 NONCE), block, and the V register that takes the result. -/
structure BlockCall where
  thread : Nat
  id : Nat
  slot : Nat
  op : Nat
  once : Bool
  block : List Byte
  dst : Nat
  /-- How the key slot reads at a NONCE (R315). -/
  key : Guard := .clean
  deriving DecidableEq, Repr

/-- A request for the lock: a LOCK, or a ONCE call (R310). -/
structure LockReq where
  user : User
  call : Option BlockCall
  since : Nat
  deriving DecidableEq, Repr

/-- A LOAD (key bytes and size) or an ERASE that waits for the block that uses its slot (R314). -/
structure KeyCmd where
  load : Option (List Byte × Bool)
  /-- Blocks completed when it may take effect. -/
  after_ : Nat
  deriving DecidableEq, Repr

/-- A key slot (R313 to R317). -/
structure KeySlot where
  key : List Byte := []
  size : Bool := false
  valid : Bool := false
  fault : Bool := false
  gen : Nat := 0
  epoch : Nat := 0
  counter : Nat := 0
  exhausted : Bool := false
  cmd : Option KeyCmd := none
  deriving DecidableEq, Repr

/-- A nonce that a host path asked for while a block was in progress (R308): the path, the slot, and how the slot reads. -/
structure HostNonce where
  path : Nat
  slot : Nat
  key : Guard := .clean
  deriving DecidableEq, Repr

/-- A cipher unit beside its registers: the holder of its lock, who waits, its queue of blocks, the one in progress first, the engine
calls that wait for room in the queue, the host's nonces behind a block, blocks done, the uptime of the holder's last activity, and
the path of the run in progress. -/
structure Cipher where
  holder : Option User := none
  granted : Nat := 0
  waiters : List LockReq := []
  queue : List BlockCall := []
  arrivals : List BlockCall := []
  nonces : List HostNonce := []
  done : Nat := 0
  active : Nat := 0
  run : Option Nat := none
  /-- The block in progress is one of the run and no call of the queue (R308). -/
  runs : Bool := false
  deriving DecidableEq, Repr

/-- The cipher units, their key slots by frond × 32 + slot, and the owners of the nine check-value contexts. -/
structure Units where
  ciphers : SMap Cipher := []
  keys : SMap KeySlot := []
  owners : SMap (Option User) := []
  /-- Preset of a context that is in use. -/
  presets : SMap Nat := []
  deriving DecidableEq, Repr

/-! ### Tandem operation (20_tandem) -/

/-- An entry of the change cache (R417): home slot, key, stamp in ns and origin tandem id of a change. -/
structure Change where
  home : Nat
  key : Nat
  stamp : Nat
  origin : Nat
  deriving DecidableEq, Repr

/-- The tandem side of the module beside its registers (R409 to R422). -/
structure TandemSt where
  /-- Replication messages that wait to be sent, oldest first. -/
  queue : List (List Byte) := []
  cache : List Change := []
  /-- Journal: home slot to the stamp of its latest change; 0 for none. -/
  journal : SMap Nat := []
  /-- Pair that the resync compares next. -/
  cursor : Nat := 0
  /-- The pair's low slot has been compared. -/
  half : Bool := false
  /-- The module's entry for the slot that is compared next has been sent (R420). -/
  asked : Bool := false
  /-- Heartbeats counted as missed since the last one received. -/
  missed : Nat := 0
  /-- Consecutive agreeing heartbeats. -/
  agree : Nat := 0
  /-- Uptime in 0.1 ns of the last heartbeat received and sent. -/
  lastHb : Nat := 0
  sentHb : Nat := 0
  /-- Transmit stamp and ingress stamp of the last heartbeat received, to be echoed. -/
  echo : Option (Nat × Nat) := none
  /-- Occupancy of the peer's table in its last heartbeat. -/
  peerOcc : Nat := 0
  /-- Occupancy of the module's own table in its last heartbeat (R413). -/
  ownOcc : Nat := 0
  /-- Age queries that wait for an answer: slot, INCARN, and the uptime in 0.1 ns at which they were sent. -/
  queries : List (Nat × Nat × Nat) := []
  /-- Records that ended AGED, by home slot and key, for R420 step 1. -/
  aged : List (Nat × Nat) := []
  linkKey : List Byte := []
  /-- CFG_CHECK in force (R411). -/
  check : Nat := 0
  deriving DecidableEq, Repr

/-! ### Memory controllers (19_memory) -/

/-- A retirement of a channel that runs (R400, R402): the channel, and how many of its slots have been copied. -/
structure Retire where
  channel : Nat
  copied : Nat := 0
  /-- Device time of the switch. -/
  switchNs : Option Nat := none
  deriving DecidableEq, Repr

/-- The memory controllers beside their registers (R389 to R402). -/
structure MemSt where
  /-- Uptime in s of each uncorrectable word of the last 60 minutes, by channel. -/
  ues : SMap (List Nat) := []
  /-- Postponement counts, and the uptime in 0.1 ns of the last make-up refresh plus one, by channel × 16 + bank. -/
  post : SMap Nat := []
  madeUp : SMap Nat := []
  /-- Since when REF_MULT has been below the rate required: uptime in ms plus one, by channel. -/
  lowFrom : SMap Nat := []
  /-- Rate that the controller applies by itself. -/
  forced : SMap Nat := []
  /-- Uptime in ms of the last drift update and of the last MR4 read, and in s of the start of the last scrub pass. -/
  tracked : SMap Nat := []
  polled : SMap Nat := []
  scrubbed : SMap Nat := []
  /-- Step that runs in a channel. -/
  step : SMap Nat := []
  /-- Channels whose check has ended: 1 COMPLETE, 2 FAILED; and those that software checked. -/
  checked : SMap Nat := []
  retire : Option Retire := none
  /-- Activates of each bank, counted while the random number generator has failed (R391). -/
  acts : SMap Nat := []
  /-- Bursts written by the comparator's WRITE: channel × 2^24 + burst gives the burst. -/
  pattern : SMap Nat := []
  deriving DecidableEq, Repr

/-! ### Host interface, fuses and test access (22_host, 23_errors_seal) -/

/-- The host island, the fuse programmer and the test access port beside their registers. -/
structure HostSt where
  /-- Descriptors completed in a ring since software last cleared its IRQ bit, and the uptime in µs of the first. -/
  since : SMap Nat := []
  first : SMap Nat := []
  /-- The inject ring that the round robin visits next, from 0 for channel 32. -/
  turn : Nat := 0
  /-- Table DMA: DIR. -/
  tdmaDir : Bool := false
  /-- The BAR0 offset of SET_ADDR, and the bytes that MBOX_WRITE has appended since the last doorbell. -/
  smbAddr : Nat := 0
  mboxIn : Nat := 0
  /-- Paths whose doorbell waits for the firmware, in order of arrival. -/
  bells : List Nat := []
  /-- The flash command in progress: OP, address and length. -/
  qspi : Option (Nat × Nat × Nat) := none
  /-- SEAL_ARM: the uptime in 0.1 ns, plus one, at which each path armed. -/
  armed : SMap Nat := []
  /-- The key hash that is being programmed. -/
  prog : Option (BitVec 384) := none
  /-- Instruction register of the TAP, and what its boundary register holds: captured, and preloaded. -/
  tapIr : Nat := 0x01
  bsrIn : Nat := 0
  bsrOut : Nat := 0
  /-- The pads are driven from the boundary register (EXTEST, CLAMP), or set to high impedance (HIGHZ). -/
  scan : Bool := false
  highz : Bool := false
  deriving DecidableEq, Repr

/-- Everything the module holds but the queue of waiting commands. -/
structure Dev where
  clk : Clock
  otp : Otp
  /-- How many random draws and how many open values have been used (Config.rng, Config.free). -/
  draws : Nat
  frees : Nat
  regs : SMap Word
  /-- Shadows of staged registers that differ from what a commit last made active (R77). -/
  shadow : SMap (Option Staged)
  /-- Pages with DIRTY = 1. -/
  dirty : List Nat
  /-- For commit instants of the past, the last one first: how many there had been with it, and the values that packet-scoped
  registers held before it (R81). What no packet and no task still sees is dropped. -/
  prev : List (Nat × SMap (Option Word))
  /-- Commit instants so far. -/
  cgen : Nat
  commit : Option CommitSt
  pause : Option PauseSt
  evq : SMap EvQueue
  out : List Output
  hostMem : SMap Byte
  flash : SMap Byte
  sup : Supply
  spore : Spore
  boot : Boot
  time : TimeSt
  isles : SMap Isle
  /-- Pages whose CTRL.SOFT_RESET still reads 1. -/
  resetting : List Nat
  sw : Switch
  obs : Obs
  look : Look
  flow : FlowSt
  eng : Engines
  units : Units
  tandem : TandemSt
  mem : MemSt
  host : HostSt
  deriving DecidableEq, Repr

/-- The machine: the device and the commands that wait, first in, first out. -/
structure State where
  dev : Dev
  pending : List Instr
  deriving DecidableEq, Repr

/-- The device right after reset: power-on reset is in progress (start-up step 2), every register holds its reset value,
every table, queue and memory is empty. (DESIGN CHOICE, log entries 5, 6) -/
def Dev.reset : Dev where
  clk := { sec := 0, ns := 0, frac := 0, rem := 0, up := 0 }
  otp := { ident0 := 0, ident1 := 0, ident2 := 0, ident3 := 0, hash := 0, keyLock := false, sealed := false }
  draws := 0
  frees := 0
  regs := []
  shadow := []
  dirty := []
  prev := []
  cgen := 0
  commit := none
  pause := none
  evq := []
  out := []
  hostMem := []
  flash := []
  sup := { phase := .reset, level := false, ext := false, drive := false, padLow := false, recording := none,
           cap := false, resetLow := false, hot := false, ovAt := none,
           cause := 0 }
  spore := { waiting := false, stopped := false, phase := 0, wake := none, run := 0, since := 0, warned := false,
             locked := false, long := false }
  boot := { before := 0, flash := false, loaded := false, pfail := 0x01000000, train := 0x01010000, slot := 0, seq := 0,
            host := false, ucode := none, image := [], preload := [], lowUnit := none, highUnit := none,
            verified := false }
  time := { y := 0, i := 0, stepped := false, within := 0, lastValid := 0, pending := none, lastPps := none,
            refGood := false, refUsed := false, dev := [], ppsSec := 0, txts := [] }
  isles := []
  resetting := []
  sw := {}
  obs := {}
  look := {}
  flow := {}
  eng := {}
  units := {}
  tandem := {}
  mem := {}
  host := {}

/-- The machine right after reset, with nothing waiting. (DESIGN CHOICE, log entry 5) -/
def State.reset : State where
  dev := Dev.reset
  pending := []

end Sys2Proof.Machine
end

