-- ==== Sys2Proof/Machine/Ops.lean ====
section
/-! DEFINITION. The operations every block shares: reading and setting registers and fields, device stamps, access errors,
interrupts and MSI-X, event records, random draws and open values. -/

namespace Sys2Proof.Machine

/-! ### Registers -/

/-- A register's value on a path. -/
def Dev.regP (d : Dev) (r : Reg) (path ch : Nat) : Word := d.regs.get (r.rstOf ch) (r.key path ch)

/-- A register's value. -/
def Dev.reg (d : Dev) (r : Reg) (ch : Nat := 0) : Word := d.regP r 0 ch

/-- A register's value as a number. -/
def Dev.num (d : Dev) (r : Reg) (ch : Nat := 0) : Nat := (d.reg r ch).toNat

/-- The device with a register of a path set. -/
def Dev.setRegP (d : Dev) (r : Reg) (path ch : Nat) (v : Word) : Dev :=
  { d with regs := d.regs.set (r.rstOf ch) (r.key path ch) v }

/-- The device with a register set. -/
def Dev.setReg (d : Dev) (r : Reg) (v : Word) (ch : Nat := 0) : Dev := d.setRegP r 0 ch v

/-- The device with a register set to a number, modulo 2^32. -/
def Dev.setNum (d : Dev) (r : Reg) (v : Nat) (ch : Nat := 0) : Dev := d.setReg r (BitVec.ofNat 32 v) ch

/-- A field's value. -/
def Dev.fld (d : Dev) (x : Fld) (ch : Nat := 0) : Nat := bitsOf (d.num x.reg ch) x.lo x.len

/-- Whether a one-bit field is 1. -/
def Dev.on (d : Dev) (x : Fld) (ch : Nat := 0) : Bool := d.fld x ch != 0

/-- The device with a field set, the rest of its register unchanged. -/
def Dev.setFld (d : Dev) (x : Fld) (v : Nat) (ch : Nat := 0) : Dev :=
  d.setNum x.reg (setBits (d.num x.reg ch) x.lo x.len v) ch

/-- The device with a wrapping counter raised by `n`. -/
def Dev.bump (d : Dev) (r : Reg) (ch : Nat := 0) (n : Nat := 1) : Dev := d.setNum r (d.num r ch + n) ch

/-- A 64-bit value held in a low and a high register. -/
def Dev.num2 (d : Dev) (lo hi : Reg) (ch : Nat := 0) : Nat := d.num lo ch + d.num hi ch * 2 ^ 32

/-- The device with a 64-bit value set in a low and a high register. -/
def Dev.setNum2 (d : Dev) (lo hi : Reg) (v : Nat) (ch : Nat := 0) : Dev :=
  (d.setNum lo v ch).setNum hi (v / 2 ^ 32) ch

/-- What a register held before the first commit instant after generation `gen` that changed it. -/
def Dev.before (d : Dev) (gen k : Nat) : Option Word :=
  d.prev.foldl (fun a x => if gen < x.1 then (match x.2.get none k with | some w => some w | none => a) else a) none

/-- The value that a packet or a task of commit generation `gen` sees of a packet-scoped register (R81, R236): the one before the
next commit instant that changed it; and a head that its pipeline has taken at or after T_c, before the pipelines' registers
follow, sees the staged value. -/
def Dev.numAt (d : Dev) (gen : Nat) (r : Reg) (ch : Nat := 0) : Nat :=
  let v := match d.before gen (r.key 0 ch) with | some w => w.toNat | none => d.num r ch
  match d.commit with
  | some c => if gen ≤ d.cgen then v else match c.staged.get none (r.key 0 ch) with | some x => x.val.toNat | none => v
  | none => v

/-- The field of a packet-scoped register that a packet of generation `gen` sees. -/
def Dev.fldAt (d : Dev) (gen : Nat) (x : Fld) (ch : Nat := 0) : Nat := bitsOf (d.numAt gen x.reg ch) x.lo x.len

/-- Whether a one-bit field of a packet-scoped register is 1 for a packet of generation `gen`. -/
def Dev.onAt (d : Dev) (gen : Nat) (x : Fld) (ch : Nat := 0) : Bool := d.fldAt gen x ch != 0

/-- CTRL.ENABLE of a page (R70). -/
def Dev.enabled (d : Dev) (p : Nat) : Bool := (d.reg (CTRL p)).getLsbD 0

/-! ### Time -/

/-- Device time in nanoseconds since the epoch (R106). -/
def Dev.nowNs (d : Dev) : Nat := d.clk.sec.toNat * 1000000000 + d.clk.ns

/-- The stamp of a time in nanoseconds (R10). -/
def stampOf (t : Nat) : BitVec 64 :=
  BitVec.ofNat 64 ((t / 1000000000 % 2 ^ 34) * 2 ^ 30 + t % 1000000000)

/-- The nanoseconds since the epoch, modulo 2^34 s, that a stamp stands for. -/
def nsOfStamp (w : Nat) : Nat := (w / 2 ^ 30) * 1000000000 + w % 2 ^ 30

/-- What is left of a replica's deviation `e` after the beacon at which it was `dv`, all in 0.1 ns: a replica behind runs at twice its
rate, and one ahead at half, until it matches (R114). -/
def slew (dv : Int) (e : Nat) : Int := if dv < 0 then min 0 (dv + e) else max 0 (dv - (e / 2 : Nat))

/-- The master's time in 0.1 ns. -/
def Dev.masterTenths (d : Dev) : Nat := d.nowNs * 10 + d.clk.frac * 10 / 2 ^ 24

/-- How far an island's replica stands from the master now, in 0.1 ns; its time never decreases but at a step (R114).
(DEDUCED, log entry 56) -/
def Dev.devNow (d : Dev) (island : Nat) : Int :=
  max (slew (d.time.dev.get 0 island) (d.clk.up - d.time.devAt.get 0 island))
    ((d.time.low.get 0 island : Nat) - (d.masterTenths : Int))

/-- The time of an island's replica in 0.1 ns (R114); in SPORE that of a powered-down island stands still (R115). -/
def Dev.islandTenths (d : Dev) (island : Nat) : Nat :=
  match d.time.halted.get none island with
  | some t => t
  | none => ((d.masterTenths : Nat) + d.devNow island).toNat

/-- The time of an island's replica in nanoseconds. -/
def Dev.islandNs (d : Dev) (island : Nat) : Nat := d.islandTenths island / 10

/-- The stamp that an island gives to an event now (R10, R435). -/
def Dev.stamp (d : Dev) (island : Nat) : BitVec 64 := stampOf (d.islandNs island)

/-- A time in units of 2^-16 ns to the nearest nanosecond, as a stamp delivers it (R10, R127). (DEDUCED, log entry 55) -/
def wholeNs (t : Nat) : Nat := (t + 32768) / 65536

/-- The first whole microsecond of device time that is 1 µs or more after `t` (R79, R427). (DEDUCED, log entry 35) -/
def wholeUs (t : Nat) : Nat := ((t + 1000 + 999) / 1000) * 1000

/-- Time since the clock started in microseconds and milliseconds. -/
def Dev.upUs (d : Dev) : Nat := d.clk.up / 10000
def Dev.upMs (d : Dev) : Nat := d.clk.up / 10000000

/-- Whether the pipelines' registers have followed a commit: the first pipeline has reached T_c. -/
def CommitSt.pipes (c : CommitSt) : Bool := c.switched.any fun i => decide (9 ≤ i ∧ i ≤ 12)

/-- The generation that a pipeline gives to a head: the new one from T_c on, by the pipeline's own replica (R81), which no later step
undoes (R113). -/
def Dev.genAt (d : Dev) (pipe : Nat) : Nat :=
  match d.commit with
  | some c =>
    let reached := c.switched.contains (9 + pipe) || decide (c.tc ≤ d.islandNs (9 + pipe))
    if c.applied then d.cgen else d.cgen + bit (!c.pipes) - bit (!reached)
  | none => d.cgen

/-! ### What goes out -/

/-- The device having given an output. -/
def Dev.emit (d : Dev) (o : Output) : Dev := { d with out := o :: d.out }

/-- The device with a run of host memory written (DMA). -/
def Dev.dmaWrite (d : Dev) (a : Nat) (bs : List Byte) : Dev := { d with hostMem := d.hostMem.putBytes 0 a bs }

/-- A run of host memory read by DMA. -/
def Dev.dmaRead (d : Dev) (a n : Nat) : List Byte := d.hostMem.bytes 0 a n

/-- The next random draw, and the device having used it. -/
def Dev.rng (d : Dev) : BitVec 384 := Config.rng d.draws
def Dev.drawn (d : Dev) : Dev := { d with draws := d.draws + 1 }

/-- The next open value, and the device having used it. (DESIGN CHOICE, log entries 8, 9) -/
def Dev.freeVal (d : Dev) : BitVec 64 := Config.free d.frees
def Dev.freed (d : Dev) : Dev := { d with frees := d.frees + 1 }

/-! ### Interrupts (R74, R75) -/

/-- INT_PEND of a page: INT_RAW AND INT_EN. -/
def Dev.pend (d : Dev) (p : Nat) : Word := d.reg (INT_RAW p) &&& d.reg (INT_EN p)

/-- The MSI-X vector that a page's summary bit is routed to, if one is. -/
def Dev.vecOf (d : Dev) (p : Nat) : Option Nat :=
  if d.on (TOP.ROUTE_MSIX_EN.ix p) then some (d.fld (TOP.ROUTE_VECTOR.ix p)) else none

/-- The vector that an event queue's EQ_VEC names, and that a ring's RING_CFG names, if one does (R456). -/
def Dev.eqVec (d : Dev) (q : Nat) : Option Nat :=
  if d.on (HOST.EQ_VEC_EN.ix q) then some (d.fld (HOST.EQ_VEC_VEC.ix q)) else none
def Dev.ringVec (d : Dev) (r : Nat) : Option Nat :=
  if d.on HOST.RING_CFG_VEC_EN r then some (d.fld HOST.RING_CFG_VEC r) else none

/-- The IRQ bits of the 64 rings. -/
def Dev.ringIrqs (d : Dev) : Nat := d.num HOST.RING_IRQ_LO + d.num HOST.RING_IRQ_HI * 2 ^ 32

/-- The event queues whose interrupt bits are 1. -/
def Dev.queueIrqs (d : Dev) : Nat := d.num (INT_RAW 0x62) % 65536

/-- The OR of a vector's sources: the summary bits routed to it, and the queues and rings that name it (R75, R456). -/
def Dev.lineUp (d : Dev) (v : Nat) : Bool :=
  pages.any (fun p => d.vecOf p == some v && d.pend p != 0) ||
  (d.queueIrqs != 0 && (List.range 16).any fun q => bitOf d.queueIrqs q && d.eqVec q == some v) ||
  (d.ringIrqs != 0 && (List.range 64).any fun r => bitOf d.ringIrqs r && d.ringVec r == some v)

/-- ALERT_N is low while any summary bit routed to it is 1. -/
def Dev.alertLow (d : Dev) : Bool := pages.any fun p => d.on (TOP.ROUTE_ALERT_EN.ix p) && d.pend p != 0

/-- A vector sends its message, or, while its vector control masks it, its pending bit is set. -/
def Dev.fireVec (d : Dev) (v : Nat) : Dev :=
  if d.num (HOST.MSIX_TABLE.ix (4 * v + 3)) % 2 = 1 then
    d.setNum (HOST.MSIX_PBA.ix (v / 32)) (d.num (HOST.MSIX_PBA.ix (v / 32)) ||| 1 <<< (v % 32))
  else
    d.emit (.msix (d.num2 (HOST.MSIX_TABLE.ix (4 * v)) (HOST.MSIX_TABLE.ix (4 * v + 1)))
      (d.reg (HOST.MSIX_TABLE.ix (4 * v + 2))))

/-- Vectors of which some source was written with ones by software each send a further message while their OR is 1 (R75). -/
def Dev.further (d : Dev) (vs : List Nat) : Dev :=
  vs.eraseDups.foldl (fun d v => if d.lineUp v then d.fireVec v else d) d

/-- A vector's pending bit (R75): it stands while the vector is masked and its OR is 1. (DEDUCED, log entry 15) -/
def Dev.msixPending (d : Dev) (v : Nat) : Bool := bitOf (d.num (HOST.MSIX_PBA.ix (v / 32))) (v % 32) && d.lineUp v

/-- A change that may move the sources of some vectors: each sends a message when its OR changes from 0 to 1. -/
def Dev.watchVecs (d : Dev) (vs : Dev → List Nat) (f : Dev → Dev) : Dev :=
  let e := f d
  (vs e).eraseDups.foldl (fun x v => if !d.lineUp v && e.lineUp v then x.fireVec v else x) e

/-- The vectors that a page's interrupt bits reach. -/
def Dev.vecsOf (d : Dev) (p : Nat) : List Nat :=
  (d.vecOf p).toList ++ if p = 0x62 ∧ d.queueIrqs ≠ 0 then (List.range 16).filterMap d.eqVec else []

/-- A change of a page's interrupt bits. (DEDUCED, log entry 15) -/
def Dev.watch (d : Dev) (p : Nat) (f : Dev → Dev) : Dev := d.watchVecs (fun e => e.vecsOf p) f

/-- INT_RAW bits set by the hardware. -/
def Dev.raiseBits (d : Dev) (p : Nat) (w : Word) : Dev :=
  d.watch p fun d => d.setReg (INT_RAW p) (d.reg (INT_RAW p) ||| w)

/-- One INT_RAW bit set by the hardware. -/
def Dev.raise (d : Dev) (b : IntBit) : Dev := d.raiseBits b.page (BitVec.ofNat 32 (1 <<< b.pos))

/-- Whether an INT_RAW bit is 1. -/
def Dev.raised (d : Dev) (b : IntBit) : Bool := (d.reg (INT_RAW b.page)).getLsbD b.pos

/-! ### Access errors (R70, R71) -/

/-- An access error at byte offset `off` of page `p`: the first since the last read of ERR_INFO is kept with its stamp,
later ones only raise MORE. (DEDUCED, log entry 7) -/
def Dev.recErr (d : Dev) (p off cause path : Nat) : Dev :=
  if d.fld (ERR_INFO_CAUSE p) = 0 then
    (((d.setNum (ERR_INFO p) (off % 4096 + cause * 4096 + path * 65536)).setNum (ERR_STAMP_LO p)
      (d.stamp 32).toNat).setNum (ERR_STAMP_HI p) ((d.stamp 32).toNat / 2 ^ 32))
  else d.setFld (ERR_INFO_MORE p) (min 15 (d.fld (ERR_INFO_MORE p) + 1))

/-! ### Islands of units (R90, R436) -/

def islandOfPort (p : Nat) : Nat := if p = 33 then 8 else if p = 32 then 33 else p / 4
def islandOfPipe (k : Nat) : Nat := 9 + k
def islandOfFrond (c : Nat) : Nat := 13 + c
def islandOfChannel (m : Nat) : Nat := 23 + m / 8

/-! ### Performance counters (R423 to R428) -/

/-- The island whose event a PERF counter counts: a chained counter counts the wraps of the counter below it (R424). -/
def Dev.perfIsland (d : Dev) : Nat → Nat
  | 0 => d.fld PERF.CNT_CFG_ISLAND 0
  | c + 1 => if d.on PERF.CNT_CFG_CHAIN c then d.perfIsland c else d.fld PERF.CNT_CFG_ISLAND (c + 1)

/-- The values of the keys that `p` picks are copied from one map to another. -/
def copyWhere (p : Nat → Bool) (live kept : SMap Nat) : SMap Nat :=
  live.foldr (fun x m => if p x.1 then m.set 0 x.1 x.2 else m) (kept.filter fun x => !p x.1)

/-- The PERF events that the model does not count: cycles, words over crossings, FEC codewords, the ledger's
classes of waiting, bank beats and waits, and PCIe packets. (DESIGN CHOICE, log entry 112) -/
def notCounted (event : Nat) : Bool :=
  decide (event ≤ 6) || [0x042, 0x142, 0x143, 0x1C5, 0x240, 0x241].contains event ||
    decide (0x103 ≤ event ∧ event ≤ 0x108)

/-- Whether a PERF counter is set to count such an event, or the wraps of one that is. -/
def Dev.countsVague (d : Dev) : Nat → Bool
  | 0 => d.on PERF.CNT_CFG_EN 0 && notCounted (d.fld PERF.CNT_CFG_EVENT 0)
  | c + 1 => d.on PERF.CNT_CFG_EN (c + 1) &&
      if d.on PERF.CNT_CFG_CHAIN c then d.countsVague c else notCounted (d.fld PERF.CNT_CFG_EVENT (c + 1))

/-- The counters that count an event of an island. (DEDUCED, log entry 112) -/
def Dev.perfHits (d : Dev) (island event : Nat) : List Nat :=
  let base := PERF.CNT_CFG.key 0 0
  (d.regs.filter fun p => decide (base ≤ p.1 ∧ p.1 < base + 4096) &&
    bitOf p.2.toNat 24 && p.2.toNat % 64 = island && bitsOf p.2.toNat 8 10 = event &&
    (p.1 = base || !d.on PERF.CNT_CFG_CHAIN (p.1 - base - 1))).map fun p => p.1 - base

/-- A counter holding `v`. -/
def Dev.perfPut (d : Dev) (c v : Nat) : Dev := { d with obs := { d.obs with perf := d.obs.perf.set 0 c v } }

/-- A counter's wrap: its OVF bit, and the interrupt where the counter asks for it. -/
def Dev.perfWrap (d : Dev) (c : Nat) : Dev :=
  let d := d.setNum (PERF.OVF.ix (c / 32)) (d.num (PERF.OVF.ix (c / 32)) ||| 1 <<< (c % 32))
  if d.on PERF.CNT_CFG_OVF_INT c then d.raise PERF.int_OVF else d

/-- A counter of such events holds an open value, and it may have wrapped since it last did. (DESIGN CHOICE, log entry 112) -/
def Dev.settleCount (d : Dev) (c : Nat) : Dev :=
  let v := (Config.perfOpen d.obs.opens).toNat
  let d := { d with obs := { d.obs with opens := d.obs.opens + 1 } }.perfPut c (v % 2 ^ 48)
  if bitOf v 48 then d.perfWrap c else d

/-- The counters of some island that are set to count such events. -/
def Dev.vagueOn (d : Dev) (island : Nat → Bool) : List Nat :=
  let base := PERF.CNT_CFG.key 0 0
  (d.regs.filterMap fun p => if base ≤ p.1 ∧ p.1 < base + 4096 then some (p.1 - base) else none).filter fun c =>
    d.countsVague c && island (d.perfIsland c)

/-- An island acts at T_s (R427, R428): SNAP copies its PERF and STAT counters, FREEZE stops its PERF counters and THAW restarts
them. (DEDUCED, log entry 99) -/
def Dev.snapIsland (d : Dev) (island acts : Nat) : Dev :=
  let mine := fun (c : Nat) => d.perfIsland c == island
  let d := (d.obs.vague.filter mine).foldl Dev.settleCount d
  let o := d.obs
  let o := if bitOf acts 0 then
      { o with perfSnap := copyWhere mine o.perf o.perfSnap,
               statSnap := copyWhere (fun k => islandOfPort (k / 64) == island) d.sw.stat o.statSnap }
    else o
  let o := if bitOf acts 1 then { o with vague := o.vague.filter fun c => !mine c }
    else if bitOf acts 2 && d.enabled 0x60 then { o with vague := o.vague.filter (fun c => !mine c) ++ d.vagueOn (· == island) }
    else o
  { d with obs := { o with snapped := o.snapped ++ [island] } }

/-- What an island counts from T_s on is counted after it: the island acts first where its replica has reached T_s (R428).
(DEDUCED, log entry 99) -/
def Dev.snapReach (d : Dev) (island : Nat) : Dev :=
  match d.obs.snap with
  | some (t, acts) =>
    if !d.obs.snapped.contains island && decide (t ≤ d.islandNs island) then d.snapIsland island acts else d
  | none => d

/-- A counter raised by `n`: it wraps at 2^48, which sets its OVF bit, and a chained counter above it counts the wraps.
(DEDUCED, log entry 112) -/
def Dev.perfAdd (fuel : Nat) (d : Dev) (c n : Nat) : Dev :=
  match fuel with
  | 0 => d
  | m + 1 =>
    let v := d.obs.perf.get 0 c + n
    if v < 2 ^ 48 then d.perfPut c v else
    let e := (d.perfPut c (v % 2 ^ 48)).perfWrap c
    if e.on PERF.CNT_CFG_CHAIN c && e.on PERF.CNT_CFG_EN (c + 1) then Dev.perfAdd m e (c + 1) (v / 2 ^ 48) else e

/-- Whether the counters of an island are stopped: all are frozen, or the island has acted on a FREEZE or a THAW that other
islands have still to reach (R427, R428). -/
def Dev.stopped (d : Dev) (island : Nat) : Bool :=
  match d.obs.snap with
  | some (_, acts) =>
    if d.obs.snapped.contains island && acts / 2 ≠ 0 then bitOf acts 1 else d.on PERF.SNAP_STAT_FROZEN
  | none => d.on PERF.SNAP_STAT_FROZEN

/-- An event of an island occurs `n` times, for the counters that count it while they run.
(DEDUCED, log entries 54, 112) -/
def Dev.perf (d : Dev) (island event : Nat) (n : Nat := 1) : Dev :=
  let d := d.snapReach island
  if d.enabled 0x60 && !d.stopped island && n ≠ 0 then
    (d.perfHits island event).foldl (fun d c => Dev.perfAdd 4096 d c n) d
  else d

/-! ### Events (R435 to R441) -/

/-- FLAGS of a record: TGEN, TRACEABLE and TANDEM_ID. -/
def Dev.evFlags (d : Dev) : Nat :=
  d.num TIME.GEN % 16 + d.fld TIME.SYNC_STAT_TRACEABLE * 16 + d.fld PWRM.STRAPS_TANDEM_ID * 32

def EvQueue.empty : EvQueue := { staged := [], since := 0, first := 0 }

/-- The records staged in an event queue: loss markers take no room. -/
def EvQueue.count (q : EvQueue) : Nat :=
  (q.staged.filter fun i => match i with | .event _ => true | .loss _ _ => false).length

/-- The record that an island makes of an event now. -/
def Dev.mkEvent (d : Dev) (island code : Nat) (p0 p1 p2 p3 : Nat) : Event :=
  { stamp := d.stamp island, island := island, flags := d.evFlags, code := code, seq := d.reg (EVLG.SEQ.ix island),
    p0 := BitVec.ofNat 32 p0, p1 := BitVec.ofNat 32 p1, p2 := BitVec.ofNat 32 p2, p3 := BitVec.ofNat 32 p3 }

/-- A record numbered: the island's SEQ advances, and the record counts. -/
def Dev.numbered (d : Dev) (island : Nat) : Dev := (d.bump (EVLG.SEQ.ix island)).perf island 0x007

/-- An event queue beside its registers. -/
def Dev.evQueue (d : Dev) (q : Nat) : EvQueue := d.evq.get EvQueue.empty q
def Dev.setEvQueue (d : Dev) (q : Nat) (x : EvQueue) : Dev := { d with evq := d.evq.set EvQueue.empty q x }

/-- `n` losses are marked where they begin: a mark is numbered when it is made, so that its record keeps its place among those of
island 32 (R440). (DEDUCED, log entry 99) -/
def Dev.markLoss (d : Dev) (q n : Nat) : Dev :=
  let x := d.evQueue q
  match x.staged.getLast? with
  | some (.loss k e) => d.setEvQueue q { x with staged := x.staged.dropLast ++ [.loss (k + n) e] }
  | _ => (d.setEvQueue q { x with staged := x.staged ++ [.loss n (d.mkEvent 32 0x6201 q 0 0 0)] }).numbered 32

/-- A record goes into the staging buffer of a queue, or is lost to it when 64 records wait there (R439, R440). -/
def Dev.stage (d : Dev) (q : Nat) (e : Event) : Dev :=
  let x := d.evQueue q
  if x.count < 64 then d.setEvQueue q { x with staged := x.staged ++ [.event e] }
  else (d.markLoss q 1).bump EVLG.Q_LOST q

/-- The record goes to each queue of a mask. -/
def Dev.stageAll (d : Dev) (mask : Nat) (e : Event) : Dev :=
  (List.range 16).foldl (fun d q => if bitOf mask q then d.stage q e else d) d

/-- An island logs an event: it numbers the record and the routing mask of the event's page says which queues take it
(R436, R437, R439). -/
def Dev.log (d : Dev) (island code : Nat) (p0 : Nat := 0) (p1 : Nat := 0) (p2 : Nat := 0) (p3 : Nat := 0) : Dev :=
  (d.numbered island).stageAll (d.num (EVLG.ROUTE.ix (code / 256)) % 65536) (d.mkEvent island code p0 p1 p2 p3)

/-- The OP_END event of an abortable operation (R87, R438). -/
def Dev.opEnd (d : Dev) (page status ch : Nat) : Dev := d.log 32 0x0004 page status ch 0

/-! ### Memory channels (R399) -/

/-- Whether a channel is retired. -/
def Dev.retired (d : Dev) (m : Nat) : Bool :=
  if m < 32 then bitOf (d.num MEMC.RETIRED_LO) m else bitOf (d.num MEMC.RETIRED_HI) (m - 32)

/-! ### Which pages answer (R39, R58) -/

/-- Whether a BAR0 page answers accesses now. -/
def Dev.pageOpen (d : Dev) (p : Nat) : Bool :=
  if d.sup.phase ≠ .on ∨ d.fld TOP.BOOT_STATUS_STAGE < 2 then false
  else if d.fld PWRM.SLEEP_STAT_STATE = 2 ∨ d.fld PWRM.SLEEP_STAT_STATE = 3 then p = 0x00 || p = 0x01 || p = 0x03
  else if d.on TOP.BOOT_STATUS_READY then (pageHdr p).isSome
  else p = 0x00 || p = 0x01 || p = 0x02 || p = 0x03 || p = 0x68 || (p = 0x51 && d.on MTRN.TRAIN_STAT_WINDOW)

/-- A software access to a page: where the page does not answer it changes nothing, but that in SPORE an access to a
closed page sets ACC_IN_SPORE. -/
def Dev.access (d : Dev) (p : Nat) (f : Dev → Dev) : Dev :=
  if d.pageOpen p then f d
  else if d.sup.phase = .on ∧ d.fld PWRM.SLEEP_STAT_STATE = 2 then d.raise PWRM.int_ACC_IN_SPORE
  else d

/-- A fold of a device change over the numbers below `n`. -/
def Dev.each (d : Dev) (n : Nat) (f : Dev → Nat → Dev) : Dev := (List.range n).foldl f d

/-! ### Commands -/

/-- The device `e` with the clock and the fuses of `d`. -/
def Dev.under (d e : Dev) : Dev := { e with clk := d.clk, otp := d.otp }

/-- What a command does to the device, whatever its supply and its resets: the next state, with the queue as it stands. The
device clock and the fuses are kept: of all commands only those of `State.actOtp`, `State.actClk` and `State.actAll` move
them. (DEDUCED, log entry 4) -/
def State.actRaw (s : State) (f : Dev → Dev) : Host.Outcome State Fault Refusal :=
  .next { s with dev := s.dev.under (f s.dev) }

/-- A command whose condition does not hold is no event: nothing happens. (DESIGN CHOICE, log entry 3) -/
def Dev.when (d : Dev) (c : Bool) (f : Dev → Dev) : Dev := if c then f d else d

/-- Whether the die runs: it is powered and out of power-on reset. (DEDUCED, log entry 4) -/
def Dev.runs (d : Dev) : Bool := d.sup.phase = .on

/-- What a command does to the device while the die runs; without supply and in reset nothing happens.
(DEDUCED, log entry 4) -/
def State.act (s : State) (f : Dev → Dev) : Host.Outcome State Fault Refusal := s.actRaw fun d => d.when d.runs f

/-- Whether the islands that SPORE switches off are at work: no drain of an entry has ended, or a wake has (R56, R60).
(DEDUCED, log entry 4) -/
def Dev.awake (d : Dev) : Bool := d.spore.phase = 0

/-- What a command of an island that SPORE switches off does. (DEDUCED, log entry 4) -/
def State.run (s : State) (f : Dev → Dev) : Host.Outcome State Fault Refusal := s.act fun d => d.when d.awake f

/-- What a command of the receive side does: arrivals go on between the end of the drain and the loss of the links, and are
discarded and counted then (R56). (DEDUCED, log entry 4) -/
def State.runRx (s : State) (f : Dev → Dev) : Host.Outcome State Fault Refusal :=
  s.act fun d => d.when (decide (d.spore.phase ≤ 1)) f

/-- What a command that may blow fuses does to the device; the clock is kept. -/
def State.actOtp (s : State) (f : Dev → Dev) : Host.Outcome State Fault Refusal :=
  .next { s with dev := { f s.dev with clk := s.dev.clk } }

/-- What a command that may move the clock does to the device; the fuses are kept. -/
def State.actClk (s : State) (f : Dev → Dev) : Host.Outcome State Fault Refusal :=
  .next { s with dev := { f s.dev with otp := s.dev.otp } }

/-- What a command that resets the whole device does. (DEDUCED, log entry 4) -/
def State.actAll (s : State) (f : Dev → Dev) : Host.Outcome State Fault Refusal := .next { s with dev := f s.dev }

/-- A register may count from now on. -/
def Dev.counts (d : Dev) (k : Nat) : Dev :=
  if d.sw.counted.contains k then d else { d with sw := { d.sw with counted := k :: d.sw.counted } }

/-- A register has been read and cleared, and counts no more. -/
def Dev.countsNot (d : Dev) (k : Nat) : Dev := { d with sw := { d.sw with counted := d.sw.counted.filter (· ≠ k) } }

/-- The scratchpad counters that engines which run may move (R279). -/
def Dev.engCounts (d : Dev) : Dev :=
  (List.range 8).foldl (fun d c => (d.counts (SPAD.ENG_CONFLICT.key 0 c)).counts (SPAD.BUSY_SHARE.key 0 c)) d

end Sys2Proof.Machine
end

