-- ==== Sys2Proof/Machine/SipHash.lean ====
section
/-! DEFINITION. SipHash-2-4, the keyed hash of the fragment table and of the flow table (R162, R211, R212, R240). -/

namespace Sys2Proof.Machine

/-- The four words of SipHash's state. -/
structure Sip where
  v0 : BitVec 64
  v1 : BitVec 64
  v2 : BitVec 64
  v3 : BitVec 64
  deriving DecidableEq, Repr

/-- One round. -/
def Sip.round (s : Sip) : Sip :=
  let a := s.v0 + s.v1
  let b := s.v1.rotateLeft 13 ^^^ a
  let a := a.rotateLeft 32
  let c := s.v2 + s.v3
  let e := s.v3.rotateLeft 16 ^^^ c
  let a2 := a + e
  let e2 := e.rotateLeft 21 ^^^ a2
  let c2 := c + b
  let b2 := b.rotateLeft 17 ^^^ c2
  { v0 := a2, v1 := b2, v2 := c2.rotateLeft 32, v3 := e2 }

def Sip.rounds (n : Nat) (s : Sip) : Sip :=
  match n with
  | 0 => s
  | n + 1 => Sip.rounds n s.round

/-- A 64-bit word taken in with two rounds. -/
def Sip.word (s : Sip) (m : BitVec 64) : Sip :=
  let t := Sip.rounds 2 { s with v3 := s.v3 ^^^ m }
  { t with v0 := t.v0 ^^^ m }

/-- `n` whole words of a message taken in, little-endian. -/
def Sip.words (n : Nat) (s : Sip) (bs : List Byte) : Sip :=
  match n with
  | 0 => s
  | n + 1 => Sip.words n (s.word (BitVec.ofNat 64 (leNat (bs.take 8)))) (bs.drop 8)

/-- The 64-bit SipHash-2-4 of a byte string under a 128-bit key, little-endian. -/
def sipHash (key : Nat) (bs : List Byte) : Nat :=
  let k0 := BitVec.ofNat 64 key
  let k1 := BitVec.ofNat 64 (key / 2 ^ 64)
  let s : Sip := { v0 := k0 ^^^ 0x736f6d6570736575, v1 := k1 ^^^ 0x646f72616e646f6d, v2 := k0 ^^^ 0x6c7967656e657261,
                   v3 := k1 ^^^ 0x7465646279746573 }
  let s := Sip.words (bs.length / 8) s bs
  let last := leNat (bs.drop (bs.length / 8 * 8)) + bs.length % 256 * 2 ^ 56
  let s := s.word (BitVec.ofNat 64 last)
  let s := Sip.rounds 4 { s with v2 := s.v2 ^^^ 0xff }
  (s.v0 ^^^ s.v1 ^^^ s.v2 ^^^ s.v3).toNat

end Sys2Proof.Machine
end

