-- ==== Sys2Proof/Machine/Record.lean ====
section
/-! DEFINITION. Lichen records (R209, R210): their fields in the narrow and the wide layout, endpoints and directions (R211),
connections (R231), and where a connection's home slot lies (R214). -/

namespace Sys2Proof.Machine

/-! ### Slot state (R209): bits that keep their meaning in an empty slot -/

def slotKind (v : Nat) : Nat := v % 4
def slotSpill (v : Nat) : Bool := bitOf v 2
def slotAlt (v : Nat) : Bool := bitOf v 3
def slotMate (v : Nat) : Bool := bitOf v 4

/-- A slot's SPILL and MATE written. -/
def slotMark (v : Nat) (spill mate : Bool) : Nat := setBits (setBits v 2 1 (bit spill)) 4 1 (bit mate)

/-- A slot that its record leaves: KIND and ALT are 0, the rest stands. -/
def slotClear (v : Nat) : Nat := setBits (setBits v 0 2 0) 3 1 0

/-! ### Record fields -/

/-- A record is wide when its first slot's KIND says so. -/
def recWide (r : Nat) : Bool := r % 4 = 2

/-- Where a field lies: position and width in a narrow record and in a wide one. -/
structure RecFld where
  n : Nat
  nl : Nat
  w : Nat
  wl : Nat
  deriving DecidableEq, Repr

def RecFld.get (f : RecFld) (r : Nat) : Nat := if recWide r then bitsOf r f.w f.wl else bitsOf r f.n f.nl
def RecFld.put (f : RecFld) (r v : Nat) : Nat := if recWide r then setBits r f.w f.wl v else setBits r f.n f.nl v

def rType : RecFld := ⟨5, 3, 5, 3⟩
def rZone : RecFld := ⟨8, 12, 8, 12⟩
def rProto : RecFld := ⟨20, 8, 20, 8⟩
def rPortA : RecFld := ⟨28, 16, 28, 16⟩
def rPortB : RecFld := ⟨44, 16, 44, 16⟩
def rAddrA : RecFld := ⟨60, 32, 60, 128⟩
def rAddrB : RecFld := ⟨92, 32, 188, 128⟩
def rXaddr : RecFld := ⟨124, 32, 316, 128⟩
def rXport : RecFld := ⟨156, 16, 453, 16⟩
def rProg : RecFld := ⟨172, 20, 469, 20⟩
def rBackend : RecFld := ⟨192, 20, 489, 20⟩
def rXmode : RecFld := ⟨212, 2, 509, 2⟩
def rIncarn : RecFld := ⟨214, 6, 511, 6⟩
def rPktF : RecFld := ⟨224, 32, 672, 32⟩
def rPktR : RecFld := ⟨256, 32, 704, 32⟩
def rByteF : RecFld := ⟨288, 40, 736, 40⟩
def rByteR : RecFld := ⟨328, 40, 776, 40⟩
def rSeen : RecFld := ⟨368, 24, 816, 24⟩
def rState : RecFld := ⟨392, 16, 840, 16⟩
def rVersion : RecFld := ⟨408, 8, 856, 8⟩
def rProfile : RecFld := ⟨416, 6, 864, 6⟩
def rPinned : RecFld := ⟨422, 1, 870, 1⟩
def rHarv : RecFld := ⟨423, 1, 871, 1⟩
def rSat : RecFld := ⟨424, 1, 872, 1⟩
def rRetSeen : RecFld := ⟨425, 1, 873, 1⟩
def rSpare : RecFld := ⟨426, 22, 874, 22⟩

/-- The slots that a record fills. -/
def recSlots (wide : Bool) (s : Nat) : List Nat := if wide then [s, s + 1] else [s]

/-- The key of a record as the change cache and the rebuild compare it: width, ZONE, PROTO, endpoints A and B. -/
def recKey (r : Nat) : Nat := if recWide r then bitsOf r 8 308 * 2 + 1 else bitsOf r 8 116 * 2

/-! ### Endpoints and directions (R211) -/

/-- An endpoint: address and port. -/
structure EndPt where
  addr : Nat
  port : Nat
  deriving DecidableEq, Repr

def recA (r : Nat) : EndPt := ⟨rAddrA.get r, rPortA.get r⟩
def recB (r : Nat) : EndPt := ⟨rAddrB.get r, rPortB.get r⟩
def recX (r : Nat) : EndPt := ⟨rXaddr.get r, rXport.get r⟩

/-- The source and destination of a record's return packets. -/
def recReturn (r : Nat) : EndPt × EndPt :=
  if rXmode.get r = 1 then (recB r, recX r) else if rXmode.get r = 2 then (recX r, recA r) else (recB r, recA r)

/-- What a packet asks for (R212): family, zone, protocol, source and destination. -/
structure Conn where
  v6 : Bool
  zone : Nat
  proto : Nat
  src : EndPt
  dst : EndPt
  deriving DecidableEq, Repr

/-- The direction in which a record matches a packet: 0 forward, 1 return. A packet that matches in both is forward. -/
def matchDir (r : Nat) (q : Conn) : Option Nat :=
  if (r % 4 = 1 ∨ r % 4 = 2) ∧ recWide r = q.v6 ∧ rZone.get r = q.zone ∧ rProto.get r = q.proto then
    if q.src = recA r ∧ q.dst = recB r then some 0
    else if (q.src, q.dst) = recReturn r then some 1 else none
  else none

/-- Canonical order of endpoints (R213): by address, then port. -/
def EndPt.below (a b : EndPt) : Bool := decide (a.addr < b.addr) || (a.addr = b.addr && decide (a.port < b.port))

/-- A connection as R231 compares it: zone, protocol and the pair of endpoints in either order. -/
def Conn.pairKey (q : Conn) : Nat :=
  let (lo, hi) := if q.dst.below q.src then (q.dst, q.src) else (q.src, q.dst)
  let num := fun (e : EndPt) => e.addr * 65536 + e.port
  q.zone + q.proto * 2 ^ 12 + bit q.v6 * 2 ^ 20 + num lo * 2 ^ 21 + num hi * 2 ^ 165

/-! ### Hashing (R212 to R214) -/

def famByte (v6 : Bool) : Byte := if v6 then 6 else 4
def addrBytes (v6 : Bool) (a : Nat) : List Byte := beBytes (if v6 then 16 else 4) a

/-- The peer part under KP. -/
def peerPart (kp : Nat) (v6 : Bool) (zone proto : Nat) (e : EndPt) : Nat :=
  sipHash kp (leBytes 2 zone ++ leBytes 1 proto ++ [famByte v6] ++ beBytes 2 e.port ++ addrBytes v6 e.addr) % 2 ^ 27

/-- The local hash value h under KL. -/
def localHash (kl : Nat) (v6 : Bool) (e : EndPt) : Nat :=
  sipHash kl (famByte v6 :: (beBytes 2 e.port ++ addrBytes v6 e.addr)) % 2 ^ 27

/-- The anchor entries that are valid, lowest index first. -/
def Dev.anchors (d : Dev) : List Nat :=
  let base := ANCH.MATCH.key 0 0
  (d.regs.filter fun p => decide (base ≤ p.1 ∧ p.1 < base + 65536) && bitOf p.2.toNat 20).map fun p => p.1 - base

/-- Whether an anchor entry matches an endpoint (R213). -/
def Dev.anchorHits (d : Dev) (v6 : Bool) (zone : Nat) (e : EndPt) (i : Nat) : Bool :=
  let m := d.num ANCH.MATCH i
  let len := bitsOf m 12 7
  let a := d.num2 ANCH.ADDR_LO ANCH.ADDR_HI i
  let same := if v6 then e.addr / 2 ^ 64 / 2 ^ (64 - len) = a / 2 ^ (64 - len)
    else e.addr / 2 ^ (32 - len) = a % 2 ^ 32 / 2 ^ (32 - len)
  m % 4096 = zone && bitOf m 19 = v6 && decide same &&
    decide (d.fld ⟨ANCH.PORTS, 0, 16⟩ i ≤ e.port ∧ e.port ≤ d.fld ⟨ANCH.PORTS, 16, 16⟩ i)

/-- The anchor of an endpoint: the matching entry of lowest index (R213, R232). -/
def Dev.anchorOf (d : Dev) (v6 : Bool) (zone : Nat) (e : EndPt) : Option Nat :=
  if d.enabled 0x2B then d.anchors.find? (d.anchorHits v6 zone e) else none

/-- 2^(N−1), the distance of a slot from its alternate, and the table's size (R206, R207). -/
def Dev.altMask (d : Dev) : Nat := 2 ^ (d.fld FLOW.SLOT_CFG_SIZE - 1)
def Dev.mateOf (d : Dev) (s : Nat) : Nat := s ^^^ d.altMask

/-- An anchor entry is rewritten: it no longer reads uncorrectably (R467). -/
def Dev.anchorMended (d : Dev) (i : Nat) : Dev :=
  if d.look.badAnchors.any (· % 65536 = i) then
    { d with look := { d.look with badAnchors := d.look.badAnchors.filter (· % 65536 ≠ i) } } else d

/-- The device as the anchor table of a pipeline shows it: without the entries that read uncorrectably there (R467). -/
def Dev.anchorView (d : Dev) (pipe : Nat) : Dev :=
  let bad := d.look.badAnchors.filter (· / 65536 = pipe)
  if bad = [] then d else { d with regs := d.regs.filter fun x => !bad.any fun i => x.1 = ANCH.MATCH.key 0 (i % 65536) }

/-- The local and the peer endpoint of a connection, the anchor of the local one, and whether both have anchors (R213). -/
def Dev.localOf (d : Dev) (q : Conn) : EndPt × EndPt × Option Nat × Bool :=
  let a := d.anchorOf q.v6 q.zone q.src
  let b := d.anchorOf q.v6 q.zone q.dst
  let low := if q.dst.below q.src then (q.dst, q.src, b) else (q.src, q.dst, a)
  match a, b with
  | some i, none => (q.src, q.dst, some i, false)
  | none, some j => (q.dst, q.src, some j, false)
  | some i, some j =>
    if i < j then (q.src, q.dst, some i, true) else if j < i then (q.dst, q.src, some j, true)
    else (low.1, low.2.1, low.2.2, true)
  | none, none => (low.1, low.2.1, none, false)

/-- The home slot under keys KP and KL (R214). -/
def Dev.homeOf (d : Dev) (kp kl : Nat) (q : Conn) : Nat :=
  let (l, p, anchor, _) := d.localOf q
  let h := localHash kl q.v6 l
  let part := match anchor with
    | some i => bitsOf (d.num ANCH.LOCAL i) 0 27 ^^^ h % 2 ^ bitsOf (d.num ANCH.LOCAL i) 27 4
    | none => h
  let home := (peerPart kp q.v6 q.zone q.proto p ^^^ part) % (2 * d.altMask)
  if q.v6 then home - home % 2 else home

/-- The connection of a record's forward packets, by which it is placed under new keys (R217). -/
def recConn (r : Nat) : Conn := { v6 := recWide r, zone := rZone.get r, proto := rProto.get r, src := recA r, dst := recB r }

/-- The frond that owns a slot, the channel it lies on, and that channel's memory controller (R206, R208). -/
def frondOf (s : Nat) : Nat := s % 48 / 6
def channelOf (s : Nat) : Nat := s % 48

/-! ### Slots as they stand -/

/-- A slot as flow memory holds it: region 0 or 1. -/
def Dev.memSlot (d : Dev) (region s : Nat) : Nat := d.flow.mem.get 0 (region * 2 ^ 27 + s)

/-- A slot of the table: through its merger in the region in force, and, with `b`, of the copy that a rebuild makes in the
other region. -/
def Dev.slotAt (d : Dev) (b : Bool) (s : Nat) : Nat :=
  if b then d.memSlot (1 - d.flow.region) s
  else match d.flow.opened.get none s with
    | some o => o.value
    | none => d.memSlot d.flow.region s

/-- The record whose first slot is `s`, 0 where there is none. -/
def Dev.recordAt (d : Dev) (b : Bool) (s : Nat) : Nat :=
  let v := d.slotAt b s
  if slotKind v = 1 then v else if slotKind v = 2 then v + d.slotAt b (s + 1) * 2 ^ 448 else 0

end Sys2Proof.Machine
end

