-- ==== Sys2Proof/Machine/CfgCheck.lean ====
section
/-! DEFINITION. The configuration check word that two modules in tandem compare (R411). -/

namespace Sys2Proof.Machine

/-- The active values that CFG_CHECK covers, in its order; ALT_MASK of SLOT_CFG is what SIZE makes it. -/
def Dev.cfgWords (d : Dev) : List Word :=
  [BitVec.ofNat 32 (d.altMask + d.fld FLOW.SLOT_CFG_SIZE * 2 ^ 27), d.reg FLOW.KEY_CFG] ++ ((List.range 4096).map fun z => d.reg FLOW.ZONE_CFG z) ++
  ((List.range 512).map fun i => d.reg (FLOW.TIMEOUT.ix2 (i / 8) (i % 8))) ++
  ((List.range 65536).flatMap fun e =>
    [d.reg ANCH.ADDR_LO e, d.reg ANCH.ADDR_HI e, d.reg ANCH.MATCH e, d.reg ANCH.PORTS e, d.reg ANCH.LOCAL e]) ++
  ((List.range 16).map fun k => d.reg (FENG.ENTRY.ix k)) ++ ((List.range 16).map fun i => d.reg (FENG.PARAM.ix i)) ++
  [d.reg TNDM.CFG_SALT]

/-- CFG_CHECK of the configuration that is active. -/
def Dev.cfgCheck (d : Dev) : Nat := crc32c (d.cfgWords.flatMap fun w => leBytes 4 w.toNat)

/-- CFG_CHECK is computed again, at a commit or a pause resume. -/
def Dev.setCheck (d : Dev) : Dev := { d with tandem := { d.tandem with check := d.cfgCheck } }

end Sys2Proof.Machine
end

