-- ==== Sys2Proof/Machine/Stats.lean ====
section
/-! DEFINITION. Port statistics (R148, R434): which counters a frame moves; and the counts of words on the die that read with errors
(R466, R467). -/

namespace Sys2Proof.Machine

/-- The counters that a port has: port 32 counts only some of them. -/
def statHas (port k : Nat) : Bool :=
  if port = 32 then k = 0 || k = 1 || (12 ≤ k && k ≤ 14) || k = 32 || k = 33 || (44 ≤ k && k ≤ 46)
  else decide (port < 34 ∧ k < 58)

/-- A STAT counter raised by `n`, where STAT is enabled and the port has it. -/
def Dev.stat (d : Dev) (port k : Nat) (n : Nat := 1) : Dev :=
  let d := d.snapReach (islandOfPort port)
  if d.enabled 0x61 && statHas port k then
    { d with sw := { d.sw with stat := d.sw.stat.set 0 (64 * port + k) ((d.sw.stat.get 0 (64 * port + k) + n) % 2 ^ 64) } }
  else d

/-- The size class of a frame of `n` bytes, FCS included (R148). -/
def sizeClass (n : Nat) : Nat :=
  if n ≤ 64 then 0 else if n ≤ 127 then 1 else if n ≤ 255 then 2 else if n ≤ 511 then 3 else if n ≤ 1023 then 4
  else if n ≤ 1518 then 5 else if n ≤ 2047 then 6 else if n ≤ 4095 then 7 else if n ≤ 8191 then 8 else 9

/-- 0 unicast, 1 multicast, 2 broadcast, by the destination address. -/
def castClass (bs : List Byte) : Nat :=
  if (bs.take 6).all (· == 0xFF) && decide (6 ≤ bs.length) then 2 else if (bs.headD 0).getLsbD 0 then 1 else 0

/-- A good frame of `n` bytes received (k from 0) or sent (k from 32) on a port. -/
def Dev.statGood (d : Dev) (port base n : Nat) (bs : List Byte) : Dev :=
  (((d.stat port base).stat port (base + 1) n).stat port (base + 2 + sizeClass n)).stat port (base + 12 + castClass bs)

/-- A discard by a reason of R350. -/
def Dev.disc (d : Dev) (k : Nat) (n : Nat := 1) : Dev := d.bump (SWCR.DISC.ix k) 0 n

/-- The live counters of a port cleared (R434). -/
def Dev.statClear (d : Dev) (port : Nat) : Dev :=
  let d := d.snapReach (islandOfPort port)
  { d with sw := { d.sw with stat := d.sw.stat.filter fun p => p.1 / 64 != port } }

/-- STAT_CLEAR_PORT (R434). -/
def execStatClearPort (port : Nat) (s : State) : Host.Outcome State Fault Refusal :=
  s.act fun d => d.access 0x61 fun d => d.statClear (port % 64)

/-- The live counters of every port cleared (R434). -/
def Dev.statClearAll (d : Dev) : Dev :=
  let d := d.each 34 Dev.snapReach
  { d with sw := { d.sw with stat := [] } }

/-- STAT_CLEAR_ALL (R434). -/
def execStatClearAll (s : State) : Host.Outcome State Fault Refusal :=
  s.act fun d => d.access 0x61 Dev.statClearAll

/-- A write of STAT.CLEAR (R434). -/
def Dev.statClearWrite (d : Dev) (w : Word) : Dev :=
  if w.getLsbD 9 then d.statClearAll else if w.getLsbD 8 then d.statClear (w.toNat % 64) else d

/-! ### Words of memories on the die (R466, R467) -/

/-- A corrected word in a memory on the die (R466). -/
def Dev.sramCe (d : Dev) (island : Nat) : Dev :=
  d.setNum FUSE.SRAM_CE (min 0xFFFFFFFF (d.num FUSE.SRAM_CE island + 1)) island

/-- An uncorrectable word in a memory on the die: island, kind of R467, and index (R466). (DEDUCED, log entry 69) -/
def Dev.sramUe (d : Dev) (island kind index : Nat) : Dev :=
  let d := d.setNum FUSE.SRAM_UE (min 0xFFFFFFFF (d.num FUSE.SRAM_UE island + 1)) island
  let last := kind % 16 + index % 2 ^ 24 * 16 + 2 ^ 31
  let d := (d.setNum FUSE.SRAM_LAST last island).setNum2 FUSE.SRAM_STAMP_LO FUSE.SRAM_STAMP_HI (d.stamp island).toNat island
  (d.raise FUSE.int_SRAM_UE).log 32 0x0301 island last

/-- What a guard word of a memory on the die counts as. (DEDUCED, log entry 69) -/
def Dev.guarded (d : Dev) (island kind index : Nat) (g : Guard) : Dev :=
  match g with
  | .clean => d
  | .corrected => d.sramCe island
  | .bad => d.sramUe island kind index

end Sys2Proof.Machine
end

