-- ==== Sys2Proof/Machine/MemErr.lean ====
section
/-! DEFINITION. Where slots lie in the flow channels (R206, R386, R399), and what an uncorrectable word of a memory records
(R398, R466, R474). -/

namespace Sys2Proof.Machine

/-- The retired flow channels and the live ones, in ascending order. -/
def Dev.deadFlow (d : Dev) : List Nat := (List.range 48).filter fun m => d.retired m
def Dev.liveFlow (d : Dev) : List Nat := (List.range 48).filter fun m => !d.retired m

/-- Bytes of region A (R206). -/
def Dev.regionBytes (d : Dev) : Nat := (2 * d.altMask + 47) / 48 * 64

/-- The channel and the channel byte address of a slot's copy in region A (0) or B (1) with a set of retired channels (R399). -/
def Dev.placeWith (d : Dev) (dead : List Nat) (region s : Nat) : Nat × Nat :=
  let c := s % 48
  if dead.contains c then
    let live := (List.range 48).filter fun m => !dead.contains m
    let q := s / 48 * dead.length + dead.idxOf c
    (live.getD (q % live.length) 0, (if region = 1 then 0x1A800000 else 0x1A000000) + 64 * (q / live.length))
  else (c, region * d.regionBytes + 64 * (s / 48))

/-- The same under the map in force. -/
def Dev.placeOf (d : Dev) (region s : Nat) : Nat × Nat := d.placeWith d.deadFlow region s

/-- Where a retirement that runs has copied a slot to (R400). -/
def Dev.copiedTo (d : Dev) (region s : Nat) : Option (Nat × Nat) :=
  match d.mem.retire with
  | some r =>
    if r.channel < 48 ∧ s % 48 = r.channel ∧ s / 48 < r.copied then
      some (d.placeWith ((List.range 48).filter fun m => d.retired m || m = r.channel) region s)
    else none
  | none => none

/-- Where the copy of a slot in the region in force lies (R206, R217). -/
def Dev.slotPlace (d : Dev) (s : Nat) : Nat × Nat := d.placeOf d.flow.region s

/-- Bank and row of a channel byte address (R385). -/
def bankOf (a : Nat) : Nat := (bitsOf a 6 2 ^^^ bitsOf a 15 2) * 4 + (bitsOf a 8 2 ^^^ bitsOf a 17 2)
def rowOf (a : Nat) : Nat := bitsOf a 15 14

/-- An activate of the row of an address: it is counted, and with probability 2^-P its neighbours are refreshed; when the
random number generator has failed, on every 2^P-th activate of the bank (R391). (DEDUCED, log entry 69) -/
def Dev.rowAct (d : Dev) (ch addr : Nat) : Dev :=
  let p := 2 ^ d.fld MEMC.CH_CFG_P ch
  let k := ch * 16 + bankOf addr
  let d := (d.bump MEMC.ACTIVATES ch).perf (islandOfChannel ch) 0x1C3
  let n := d.mem.acts.get 0 k + 1
  let (d, hit) := if d.on TOP.BOOT_STATUS_RNG_FAIL then
      ({ d with mem := { d.mem with acts := d.mem.acts.set 0 k n } }, decide (n % p = 0))
    else (d.drawn, decide (d.rng.toNat % p = 0))
  let rows := if rowOf addr = 0 ∨ rowOf addr = 16383 then 1 else 2
  if hit then (d.bump MEMC.NBR_REFS ch rows).perf (islandOfChannel ch) 0x1C3 rows else d

/-- Bursts of one row are written. -/
def Dev.rowWrite (d : Dev) (ch addr bursts : Nat) : Dev := (d.rowAct ch addr).perf (islandOfChannel ch) 0x1C1 bursts

/-- Bursts of one row are read. -/
def Dev.rowFetch (d : Dev) (ch addr bursts : Nat) : Dev := (d.rowAct ch addr).perf (islandOfChannel ch) 0x1C0 bursts

/-- Changed halves of a slot are written to a region, and to the substitute where a retirement has copied the slot (R400). -/
def Dev.slotBursts (d : Dev) (region s halves : Nat) : Dev :=
  if halves = 0 then d else
  let (ch, addr) := d.placeOf region s
  let e := d.rowWrite ch addr halves
  match d.copiedTo region s with
  | some (ch, addr) => e.rowWrite ch addr halves
  | none => e

/-- A block of packet memory is written or read whole: 64 bursts, in one row of each bank (R329, R385). (DEDUCED, log entry 69) -/
def Dev.blockAccess (d : Dev) (block event : Nat) : Dev :=
  let ch := 48 + block % 16
  ((List.range 16).foldl (fun (d : Dev) k => d.rowAct ch (2048 * (block / 16) + 64 * k)) d).perf (islandOfChannel ch) event 64

/-- A channel has activated rows, how many no row of the table tells: open numbers are added to ACTIVATES and NBR_REFS, and to the counts
of its banks. (DESIGN CHOICE, log entry 122) -/
def Dev.openActs (d : Dev) (ch : Nat) : Dev :=
  let v := d.freeVal.toNat
  let a := v % 2 ^ 32
  let n := v / 2 ^ 32 % 2 ^ 32
  let acts := (List.range 16).foldl (fun (m : SMap Nat) b =>
    m.set 0 (ch * 16 + b) (m.get 0 (ch * 16 + b) + v / 2 ^ (64 + 8 * b) % 256)) d.mem.acts
  let d := if d.on TOP.BOOT_STATUS_RNG_FAIL then { d with mem := { d.mem with acts := acts } } else d
  (((d.bump MEMC.ACTIVATES ch a).bump MEMC.NBR_REFS ch n).perf (islandOfChannel ch) 0x1C3 (a + n)).freed

/-- A slot is read from its channel: two bursts of one row. (DEDUCED, log entry 69) -/
def Dev.slotRead (d : Dev) (s : Nat) : Dev :=
  let (ch, addr) := d.slotPlace s
  d.rowFetch ch addr 2

/-- An uncorrectable word in a channel: address of the burst, word of the burst, and the two bad symbols (R398).
(DEDUCED, log entry 69) -/
def Dev.memUe (d : Dev) (ch addr word sym0 sym1 : Nat) : Dev :=
  let island := islandOfChannel ch
  let d := d.setNum MEMC.UE_CNT (min 0xFFFFFFFF (d.num MEMC.UE_CNT ch + 1)) ch
  let last := addr / 32 % 2 ^ 24 + sym0 % 32 * 2 ^ 24 + 2 ^ 29 + word % 2 * 2 ^ 30 + 2 ^ 31
  let d := (d.setNum MEMC.LAST_ERR last ch).setNum2 MEMC.LAST_ERR_STAMP_LO MEMC.LAST_ERR_STAMP_HI (d.stamp island).toNat ch
  let now := d.upMs / 1000
  let ues := (d.mem.ues.get [] ch).filter (fun t => decide (now < t + 3600)) ++ [now]
  let d := { d with mem := { d.mem with ues := d.mem.ues.set [] ch ues } }
  let d := (d.raise MEMC.int_UE).log island 0x5001 ch last (sym1 % 32)
  if sym0 % 16 = sym1 % 16 then
    let d := (d.setNum MEMC.PIN_SUSPECT (d.num MEMC.PIN_SUSPECT ch ||| 1 <<< (sym0 % 16)) ch).raise MEMC.int_PIN_SUSPECT
    d.log island 0x5002 ch (d.num MEMC.PIN_SUSPECT ch)
  else d

/-- Whether a guard word has one bad symbol only, which is corrected. -/
def oneSymbol (w : BadWord) : Bool := w.sym0 % 32 = w.sym1 % 32

/-- A corrected word in a channel (R398), written back when `back` (R397). -/
def Dev.memCe (d : Dev) (ch sym : Nat) (back : Bool) : Dev :=
  let d := d.setNum MEMC.CE_CNT (min 0xFFFFFFFF (d.num MEMC.CE_CNT ch + 1)) ch
  let d := d.setNum (MEMC.PIN_CE.ix (sym % 16)) (min 0xFFFFFFFF (d.num (MEMC.PIN_CE.ix (sym % 16)) ch + 1)) ch
  if back then d.perf (islandOfChannel ch) 0x1C1 else d

/-- A unit of the buffer reads with a corrected word (R467). -/
def Dev.unitCe (d : Dev) (pool unit : Nat) (w : BadWord) : Dev :=
  if pool = 0 then d.sramCe 21
  else d.memCe (48 + unit % 16) w.sym0 (d.on MEMC.CH_CFG_CE_WRITEBACK (48 + unit % 16))

/-- A unit of the buffer reads uncorrectably: a cell counts as kind 1 in island 21 and is tested when it is freed, a block counts in its
packet channel (R467). -/
def Dev.unitUe (d : Dev) (pool unit : Nat) (w : BadWord) : Dev :=
  if pool = 0 then
    let d := d.sramUe 21 1 unit
    if d.sw.suspect.contains unit then d else { d with sw := { d.sw with suspect := unit :: d.sw.suspect } }
  else d.memUe (48 + unit % 16) (2048 * (unit / 16) + 16 * (w.word % 128)) w.word w.sym0 w.sym1

end Sys2Proof.Machine
end

