-- ==== Sys2Proof/Machine/Bytes.lean ====
section
/-! DEFINITION. Frames as byte lists: reading and replacing bytes, and the Internet checksum. -/

namespace Sys2Proof.Machine

/-- Byte `i` of a frame, 0 beyond its end. -/
def byteAt (bs : List Byte) (i : Nat) : Nat := (bs.getD i 0).toNat

/-- `n` bytes from byte `i`, most significant first. -/
def beAt (bs : List Byte) (i n : Nat) : Nat := beNat ((List.range n).map fun k => bs.getD (i + k) 0)

/-- The bytes with those from `i` on replaced by `new`, as far as they reach. -/
def putAt (bs : List Byte) (i : Nat) (new : List Byte) : List Byte :=
  if bs.length ≤ i then bs else bs.take i ++ new.take (bs.length - i) ++ bs.drop (i + new.length)

/-- The bytes with `n` of them from `i` on replaced by `new`, which may be longer or shorter. -/
def spliceAt (bs : List Byte) (i n : Nat) (new : List Byte) : List Byte := bs.take i ++ new ++ bs.drop (i + n)

/-- The ones' complement sum of a number's 16-bit parts. -/
def fold16 (v : Nat) : Nat :=
  let a := v % 65536 + v / 65536
  let b := a % 65536 + a / 65536
  b % 65536 + b / 65536

/-- The sum of a byte list as 16-bit big-endian words, the last one padded with 0. -/
def sum16 : List Byte → Nat
  | [] => 0
  | [a] => a.toNat * 256
  | a :: b :: r => a.toNat * 256 + b.toNat + sum16 r

/-- The Internet checksum of bytes. -/
def inetSum (bs : List Byte) : Nat := 65535 - fold16 (fold16 (sum16 bs))

/-- A 16-bit checksum after bytes with sum `old` became bytes with sum `new`. -/
def sumUpdate (c old new : Nat) : Nat :=
  65535 - fold16 ((65535 - c) + (65535 - fold16 (fold16 old)) + fold16 (fold16 new))

/-- A UDP checksum after bytes at `i` changed: over IPv4 a checksum of 0 stays 0; a result of 0 is sent as 0xFFFF. -/
def udpUpdate (v4 : Bool) (c old new : Nat) : Nat :=
  if v4 && c = 0 then 0 else if sumUpdate c old new = 0 then 65535 else sumUpdate c old new

end Sys2Proof.Machine
end

