-- ==== Sys2Proof/Machine/Time.lean ====
section
/-! DEFINITION. Device time, tether and PTP (06_time): the clock's tick, steps and the beacons that carry them, the servo and
its states, the time pads, and the queues of transmit stamps. -/

namespace Sys2Proof.Machine

/-! ### The clock (R106, R107) -/

/-- The unit of the correction y: 2560 × 10^9 of it make one. -/
def yUnit : Nat := 2560000000000

/-- The exact effective increment, in units of 2^-24 ns ÷ (2560 × 10^9): INC × (1 − y × 10^-9). -/
def Dev.incExact (d : Dev) : Nat := ((d.num TIME.INC : Nat) * ((yUnit : Nat) - d.time.y)).toNat

/-- INC_EFF reports the effective increment rounded to 8.24. -/
def Dev.showInc (d : Dev) : Dev := d.setNum TIME.INC_EFF ((2 * d.incExact + yUnit) / (2 * yUnit))

/-- One tick of the 625 MHz time clock: the effective increment is added, its remainder carried (R106, R107). -/
def Clock.tick (c : Clock) (inc : Nat) : Clock :=
  let t := c.rem + inc
  let f := c.frac + t / yUnit
  let n := c.ns + f / 2 ^ 24
  { sec := c.sec + BitVec.ofNat 64 (n / 1000000000), ns := n % 1000000000, frac := f % 2 ^ 24, rem := t % yUnit,
    up := c.up + 16 }

/-- The clock's time in units of 2^-24 ns. -/
def Clock.fine (c : Clock) : Int := ((c.sec.toNat * 1000000000 + c.ns) * 2 ^ 24 + c.frac : Nat)

/-- The clock set to a time in units of 2^-24 ns. -/
def Clock.setFine (c : Clock) (t : Nat) : Clock :=
  { c with sec := BitVec.ofNat 64 (t / 2 ^ 24 / 1000000000), ns := t / 2 ^ 24 % 1000000000, frac := t % 2 ^ 24 }

/-- The time to which a step takes the clock, in units of 2^-24 ns (R111). -/
def Clock.stepTo (c : Clock) (s : Step) : Int :=
  match s with
  | .add neg sec ns _ =>
    if neg then c.fine - ((sec * 1000000000 + ns) * 2 ^ 24 : Nat) else c.fine + ((sec * 1000000000 + ns) * 2 ^ 24 : Nat)
  | .set sec ns => ((sec * 1000000000 + ns) * 2 ^ 24 : Nat)
  | .servo th => c.fine - th * 2 ^ 24 / 10

/-- A change of the servo's state logs SYNC and sets the matching interrupt bit (R119). -/
def Dev.setSync (d : Dev) (new : Nat) : Dev :=
  let old := d.fld TIME.SYNC_STAT_STATE
  if old = new then d else
  let d := (d.setFld TIME.SYNC_STAT_STATE new).log 31 0x0503 old new
  let d := if new = 2 then d.raise TIME.int_LOCKED else d
  let d := if old = 2 then d.raise TIME.int_LOCK_LOST else d
  if new = 3 then d.raise TIME.int_HOLDOVER else d

/-! ### Reading the time and asking for steps (R109, R111) -/

/-- A read of NOW_NS by a path: the seconds and the fraction of the same tick are latched for it. -/
def Dev.readNow (d : Dev) (path : Nat) : Dev × Word :=
  (((d.setRegP TIME.NOW_SEC_LO path 0 (BitVec.ofNat 32 d.clk.sec.toNat)).setRegP TIME.NOW_SEC_HI path 0
    (BitVec.ofNat 32 (d.clk.sec.toNat / 2 ^ 32))).setRegP TIME.NOW_FRAC path 0 (BitVec.ofNat 32 d.clk.frac),
   BitVec.ofNat 32 d.clk.ns)

/-- NOW_NS_READ (R109). -/
def execNowNsRead (path : Nat) (s : State) : Host.Outcome State Fault Refusal :=
  s.act fun d => d.access 0x05 fun d => (d.readNow path).1.emit (.words path [(d.readNow path).2])

def Dev.pendStep (d : Dev) (st : Step) : Dev := { d with time := { d.time with pending := some st } }

/-- The step that an ADD write asks for (R111). -/
def Dev.addStep (d : Dev) (path : Nat) : Step :=
  .add (d.on TIME.STEP_NS_NEG) (d.num2 TIME.STEP_SEC_LO TIME.STEP_SEC_HI) (d.num TIME.STEP_NS % 2 ^ 30) path

/-- The step that a SET write asks for (R111). -/
def Dev.setStep (d : Dev) : Step :=
  .set (d.num2 TIME.STEP_SEC_LO TIME.STEP_SEC_HI) (d.num TIME.STEP_NS % 2 ^ 30)

/-- A write of STEP_CTRL: ADD and SET together are a reserved encoding (R111). -/
def Dev.stepCtrl (d : Dev) (path : Nat) (w : Word) : Dev :=
  if w.getLsbD 0 && w.getLsbD 1 then d.recErr 0x05 0x424 1 path
  else if w.getLsbD 0 then d.pendStep (d.addStep path)
  else if w.getLsbD 1 then d.pendStep d.setStep else d

/-- STEP_ADD (R111). -/
def execStepAdd (path : Nat) (s : State) : Host.Outcome State Fault Refusal :=
  s.act fun d => d.access 0x05 fun d => d.stepCtrl path 1

/-- STEP_SET (R111). -/
def execStepSet (path : Nat) (s : State) : Host.Outcome State Fault Refusal :=
  s.act fun d => d.access 0x05 fun d => d.stepCtrl path 2

/-! ### The 10 MHz reference (R108) -/

/-- REF10M is lost: one that has been good since power-on reset (R108). (DEDUCED, log entry 56) -/
def Dev.refLost (d : Dev) : Dev :=
  if d.time.refEver then
    let used := d.time.refUsed
    let d := { d with time := { d.time with refGood := false, refUsed := false } }
    let d := (d.setFld TIME.SYNC_STAT_REF10M_OK 0).raise TIME.int_REF10M_LOST
    if used then d.setFld TIME.SYNC_STAT_HOLDOVER_REF 1 else d
  else d

/-- The synthesiser's choice follows REF10M_EN and whether REF10M is good. (DESIGN CHOICE, log entry 56) -/
def Dev.refChoose (d : Dev) : Dev :=
  if d.on TIME.SERVO_CFG_REF10M_EN then
    if d.time.refGood then
      { d with time := { d.time with refUsed := true } }.setFld TIME.SYNC_STAT_HOLDOVER_REF 0
    else d
  else { d with time := { d.time with refUsed := false } }.setFld TIME.SYNC_STAT_HOLDOVER_REF 0

/-- REF10M_LOST (R108). -/
def execRef10mLost (s : State) : Host.Outcome State Fault Refusal := s.act Dev.refLost

/-- REF10M_RETURN (R108): REF10M has been good for 1 s. -/
def execRef10mReturn (s : State) : Host.Outcome State Fault Refusal :=
  s.act fun d => ({ d with time := { d.time with refGood := true, refEver := true } }.setFld TIME.SYNC_STAT_REF10M_OK 1).refChoose

/-! ### The servo (R119 to R122) -/

/-- I and y are shown in units of 1/256 ppb, rounded down, and the increment follows y. (DESIGN CHOICE, log entry 118) -/
def Dev.setServo (d : Dev) (i y : Int) : Dev :=
  ((({ d with time := { d.time with i := i, y := y } }).setNum TIME.INTEGRAL (toBits 32 (i / 10))).setNum
    TIME.FREQ_NOW (toBits 32 (y / 10))).showInc

/-- The servo's inputs count only outside SPORE (R57, R122). -/
def Dev.asleep (d : Dev) : Bool := d.fld PWRM.SLEEP_STAT_STATE = 2 || d.fld PWRM.SLEEP_STAT_STATE = 3

/-- Whether a sample asks for a step by −θ (R121). -/
def Dev.servoSteps (d : Dev) (th : Int) : Bool :=
  if !d.time.stepped then th ≠ 0
  else decide (((d.num TIME.STEP_TH * 10 : Nat) : Int) < th.natAbs) && d.on TIME.SERVO_CFG_RESTEP_EN

/-- Whether that step would take the clock below 0 s (R111). (DEDUCED, log entry 56) -/
def Dev.servoBelow (d : Dev) (th : Int) : Bool := d.servoSteps th && decide (d.clk.stepTo (.servo th) < 0)

/-- A sample with an offset beyond the step threshold, or the first one, asks for a step by −θ (R121). -/
def Dev.servoStep (d : Dev) (th i y : Int) : Dev := (d.setServo i y).pendStep (.servo th)

/-- The loop's update for an offset θ in 0.1 ns (R121). -/
def Dev.servoUpdate (d : Dev) (th : Int) : Dev :=
  let big := decide (((d.num TIME.STEP_TH * 10 : Nat) : Int) < th.natAbs)
  if !d.time.stepped then
    if th = 0 then d.setServo 0 0 else d.servoStep th 0 0
  else if big && d.on TIME.SERVO_CFG_RESTEP_EN then d.servoStep th d.time.i d.time.i
  else
    let d := if big then d.raise TIME.int_OFFSET_LARGE else d
    let lim : Int := (d.num TIME.FREQ_LIM * 2560 : Nat)
    let i0 := d.time.i + (d.fld TIME.GAINS_KI : Nat) * th
    let i := clampInt (-lim) lim i0
    let y0 := (d.fld TIME.GAINS_KP : Nat) * th + i
    let y := clampInt (-lim) lim y0
    let d := d.setServo i y
    if i ≠ i0 ∨ y ≠ y0 then d.raise TIME.int_FREQ_CLAMP else d

/-- One offset sample θ in 0.1 ns: a valid one ends holdover, updates the loop and counts toward LOCKED; one whose step would take
the clock below 0 s is discarded (R111, R121). -/
def Dev.sample (d : Dev) (th : Int) : Dev :=
  if d.on TIME.SERVO_CFG_SERVO_EN && d.enabled 0x05 && !d.asleep then
    if d.servoBelow th then d.raise TIME.int_OFFSET_LARGE else
    let d := d.setNum TIME.OFFSET_LAST (toBits 32 (clampInt (-(2 ^ 31)) (2 ^ 31 - 1) (th / 10)))
    let d := if d.fld TIME.SYNC_STAT_STATE = 3 then
        { d with time := { d.time with within := 0 } }.setSync 1 else d
    let d := d.servoUpdate th
    let n := if th.natAbs ≤ d.fld TIME.LOCK_CFG_LOCK_TH * 10 then d.time.within + 1 else 0
    let d := { d with time := { d.time with within := n, lastValid := d.clk.up } }
    if d.fld TIME.SYNC_STAT_STATE = 1 ∧ d.fld TIME.LOCK_CFG_LOCK_COUNT ≤ n then d.setSync 2 else d
  else d

/-- The offset of a PPS_IN edge stamped now, in 0.1 ns (R120). -/
def Dev.ppsTheta (d : Dev) : Int :=
  let n := ((d.clk.ns * 10 + d.clk.frac * 10 / 2 ^ 24 : Nat) - signedOf (d.num TIME.PPS_IN_DLY) 32 * 10) % 10000000000
  if n < 5000000000 then n else n - 10000000000

/-- A PPS_IN rising edge (R120). -/
def Dev.ppsEdge (d : Dev) : Dev :=
  if d.asleep then d
  else if (match d.time.lastPps with | some t => decide (d.clk.up - t < 9000000000) | none => false) then
    (d.bump TIME.PPS_IN_EXTRA).raise TIME.int_PPS_EXTRA
  else
    let d := { d with time := { d.time with lastPps := some d.clk.up } }.setFld TIME.SYNC_STAT_PPS_OK 1
    let d := d.setNum2 TIME.PPS_IN_STAMP_LO TIME.PPS_IN_STAMP_HI (d.stamp 31).toNat
    if d.on TIME.SERVO_CFG_SRC then d.sample d.ppsTheta else d

/-- PPS_IN_EDGE (R120). -/
def execPpsInEdge (s : State) : Host.Outcome State Fault Refusal := s.act Dev.ppsEdge

/-- No edge has been accepted for 1.5 s (R120). -/
def Dev.ppsAbsent (d : Dev) : Dev :=
  match d.time.lastPps with
  | some t => if 15000000000 ≤ d.clk.up - t then d.setFld TIME.SYNC_STAT_PPS_OK 0 else d
  | none => d

/-- PPS_IN_ABSENT (R120). -/
def execPpsInAbsent (s : State) : Host.Outcome State Fault Refusal := s.act Dev.ppsAbsent

/-- A write of OFFSET_IN: a software sample, where SRC selects it (R120). -/
def Dev.offsetIn (d : Dev) (w : Word) : Dev :=
  if d.on TIME.SERVO_CFG_SRC then d else d.sample (w.toInt * 10)

/-- OFFSET_IN (R120). -/
def execOffsetIn (w : Word) (s : State) : Host.Outcome State Fault Refusal :=
  s.act fun d => d.access 0x05 fun d => d.offsetIn w

/-- SERVO_EN changes (R119): on it, the servo acquires afresh; off it, it is FREE with no correction. -/
def Dev.servoEnable (d : Dev) (b : Bool) : Dev :=
  if b then
    if d.on TIME.SERVO_CFG_SERVO_EN then d
    else
      let d := d.setFld TIME.SERVO_CFG_SERVO_EN 1
      ({ d with time := { d.time with stepped := false, within := 0, lastValid := d.clk.up } }.setServo 0 0).setSync 1
  else
    if d.on TIME.SERVO_CFG_SERVO_EN then
      let d := (d.setFld TIME.SERVO_CFG_SERVO_EN 0).setFld TIME.SYNC_STAT_TRACEABLE 0
      ({ d with time := { d.time with stepped := false, within := 0 } }.setServo 0 0).setSync 0
    else d

/-- SERVO_ENABLE (R119). -/
def execServoEnable (enable : Bool) (s : State) : Host.Outcome State Fault Refusal :=
  s.act fun d => d.access 0x05 fun d => d.servoEnable enable

/-- The servo enters HOLDOVER: I is frozen and y = I (R122). -/
def Dev.enterHoldover (d : Dev) : Dev := (d.setServo d.time.i d.time.i).setSync 3

/-- SERVO_HOLDOVER (R122): no valid sample for IN_TIMEOUT while ACQUIRING or LOCKED. With ENABLE = 0 samples are
discarded and y is held (R128): the state is held too. (DESIGN CHOICE, log entry 118) -/
def execServoHoldover (s : State) : Host.Outcome State Fault Refusal :=
  s.act fun d =>
    d.when ((d.fld TIME.SYNC_STAT_STATE = 1 || d.fld TIME.SYNC_STAT_STATE = 2) && d.enabled 0x05 && !d.asleep &&
      d.num TIME.IN_TIMEOUT * 10000000 ≤ d.clk.up - d.time.lastValid) Dev.enterHoldover

/-- The second boundary that PPS_OUT has reached, with its lead (R29). -/
def Dev.ppsBoundary (d : Dev) : Nat :=
  ((d.nowNs : Nat) + signedOf (d.num TIME.PPS_OUT_DLY) 32).toNat / 1000000000

/-- A PPS_OUT pulse at a boundary not served yet, where EN and GATE allow it. -/
def Dev.ppsOut (d : Dev) : Dev :=
  if d.ppsBoundary = d.time.ppsSec then d else
  let d := { d with time := { d.time with ppsSec := d.ppsBoundary } }
  if d.on TIME.PPS_OUT_CFG_EN && (!d.on TIME.PPS_OUT_CFG_GATE || d.fld TIME.SYNC_STAT_STATE = 2) then
    d.emit (.pps (d.fld TIME.PPS_OUT_CFG_WIDTH))
  else d

/-- PPS_OUT (R29). -/
def execPpsOut (s : State) : Host.Outcome State Fault Refusal := s.act Dev.ppsOut

/-- SOFT_RESET of TIME (R128): the registers at 0x400 and above that software writes return to reset, the servo to FREE. -/
def Dev.softTime (d : Dev) : Dev :=
  let d := (d.setFld TIME.SYNC_STAT_TRACEABLE 0).setSync 0
  let d := [TIME.INC, TIME.STEP_SEC_LO, TIME.STEP_SEC_HI, TIME.STEP_NS, TIME.SERVO_CFG, TIME.GAINS, TIME.FREQ_LIM,
    TIME.STEP_TH, TIME.IN_TIMEOUT, TIME.LOCK_CFG, TIME.PPS_IN_DLY, TIME.PPS_OUT_CFG, TIME.PPS_OUT_DLY].foldl
      (fun d r => d.setReg r (r.rstOf 0)) d
  (({ d with time := { d.time with stepped := false, within := 0 } }).setServo 0 0).refChoose

/-! ### Transmit stamps (R126, R129) -/

/-- A transmit stamp goes to the port's queue of 16 entries, or is discarded and counted. -/
def Dev.queueStamp (d : Dev) (port tag : Nat) (st : BitVec 64) : Dev :=
  let q := d.time.txts.get [] port
  if q.length < 16 then
    { d with time := { d.time with txts := d.time.txts.set [] port (q ++ [(tag % 65536, st)]) } }.raise
      PTPS.int_TXTS_READY
  else (d.bump PTPS.TXTS_OVF port).raise PTPS.int_TXTS_OVF

/-- TXTS_TAG as it reads: the head's tag with VALID, or 0. -/
def Dev.txtsTag (d : Dev) (port : Nat) : Word :=
  match d.time.txts.get [] port with
  | (tag, _) :: _ => BitVec.ofNat 32 (tag + 2 ^ 31)
  | [] => 0

/-- A read of TXTS_TAG by a path: with VALID, the head's stamp moves into TXTS_STAMP of the path. -/
def Dev.readTxts (d : Dev) (path port : Nat) : Dev :=
  match d.time.txts.get [] port with
  | (_, st) :: r =>
    let d := { d with time := { d.time with txts := d.time.txts.set [] port r } }
    (d.setRegP PTPS.TXTS_STAMP_LO path port (BitVec.ofNat 32 st.toNat)).setRegP PTPS.TXTS_STAMP_HI path port
      (BitVec.ofNat 32 (st.toNat / 2 ^ 32))
  | [] => d

/-- TXTS_TAG_READ (R129). -/
def execTxtsTagRead (path port : Nat) (s : State) : Host.Outcome State Fault Refusal :=
  s.act fun d => d.access 0x12 fun d => (d.readTxts path port).emit (.words path [d.txtsTag port])

/-- SOFT_RESET of PTPS (R129). -/
def Dev.softPtps (d : Dev) : Dev :=
  { d with time := { d.time with txts := [] } }.each 32 fun d p =>
    ((d.setReg PTPS.PTP_CFG (PTPS.PTP_CFG.rstOf p) p).setReg PTPS.CORR_ADJ_RX 0 p).setReg PTPS.CORR_ADJ_TX 0 p

/-- The correction table of R127 in units of 1/16 ns, rounded to the nearest: ingress and egress, by rate and FEC.
(DEDUCED, log entry 55) -/
def corrTable (rate : Nat) (fec : Bool) : Nat × Nat :=
  match rate, fec with
  | 100, _ => (845, 499)
  | 50, _ => (1408, 742)
  | 25, true => (1546, 942)
  | 25, false => (485, 386)
  | 10, _ => (1075, 880)
  | _, _ => (0, 0)

/-- The corrections follow a port's mode. -/
def Dev.setCorr (d : Dev) (port rate : Nat) (fec : Bool) : Dev :=
  (d.setNum PTPS.CORR_RX (corrTable rate fec).1 port).setNum PTPS.CORR_TX (corrTable rate fec).2 port

/-- The time of an island's replica in units of 2^-16 ns. -/
def Dev.islandFine (d : Dev) (island : Nat) : Nat :=
  match d.time.halted.get none island with
  | some t => t * 65536 / 10
  | none => (((d.nowNs * 65536 + d.clk.frac / 256 : Nat) : Int) + d.devNow island * 65536 / 10).toNat

/-- A capture in units of 2^-16 ns moved by a signed correction in units of 1/16 ns. -/
def shiftStamp (t : Nat) (corr16 : Int) : Nat := ((t : Int) + corr16 * 4096).toNat

/-- The ingress stamp of a frame whose first byte arrives on a port now, in units of 2^-16 ns: on a line port referred to the pads
(R127). (DEDUCED, log entry 55) -/
def Dev.ingressFine (d : Dev) (port : Nat) : Nat :=
  if port < 32 then
    shiftStamp (d.islandFine (port / 4)) (-((d.num PTPS.CORR_RX port : Nat) : Int) - signedOf (d.num PTPS.CORR_ADJ_RX port) 32)
  else d.islandFine 8

end Sys2Proof.Machine
end

