-- ==== Sys2Proof/Machine/Ptp.lean ====
section
/-! DEFINITION. PTP at the pads (R123 to R127): which frames are event messages, and what transmission writes into them. -/

namespace Sys2Proof.Machine

/-- Where a PTP message starts in a frame, and how it is carried: 0 Ethernet, 1 UDP over IPv4, 2 UDP over IPv6, with the
place of the UDP checksum. -/
structure PtpAt where
  start : Nat
  kind : Nat
  sumAt : Nat
  deriving DecidableEq, Repr

/-- The offset of the Ethertype behind up to two VLAN tags. -/
def etherAt (bs : List Byte) : Nat :=
  let tag := fun o => beAt bs o 2 = 0x8100 || beAt bs o 2 = 0x88A8
  if tag 12 then (if tag 16 then 20 else 16) else 12

/-- The event message that a frame carries, if it carries one (R123). -/
def ptpFind (bs : List Byte) : Option PtpAt :=
  let e := etherAt bs
  let ty := beAt bs e 2
  let ip := e + 2
  let at_ : Option PtpAt :=
    if ty = 0x88F7 then some ⟨ip, 0, 0⟩
    else if ty = 0x0800 ∧ byteAt bs ip / 16 = 4 ∧ byteAt bs (ip + 9) = 17 ∧ beAt bs (ip + 6) 2 % 16384 = 0 ∧
        beAt bs (ip + 4 * (byteAt bs ip % 16) + 2) 2 = 319 then
      some ⟨ip + 4 * (byteAt bs ip % 16) + 8, 1, ip + 4 * (byteAt bs ip % 16) + 6⟩
    else if ty = 0x86DD ∧ byteAt bs (ip + 6) = 17 ∧ beAt bs (ip + 42) 2 = 319 then some ⟨ip + 48, 2, ip + 46⟩
    else none
  match at_ with
  | some p =>
    if p.start + 34 ≤ bs.length ∧ byteAt bs p.start % 16 ≤ 3 ∧ byteAt bs (p.start + 1) % 16 = 2 ∧
        byteAt bs (p.start + 1) / 16 ≤ 1 then some p else none
  | none => none

/-- Whether a port handles the transport (PTP_CFG). -/
def Dev.ptpOn (d : Dev) (port kind : Nat) : Bool :=
  match kind with
  | 0 => d.on PTPS.PTP_CFG_L2 port
  | 1 => d.on PTPS.PTP_CFG_UDP4 port
  | _ => d.on PTPS.PTP_CFG_UDP6 port

/-- Bytes of a message replaced, with the UDP checksum corrected (R124). -/
def ptpPut (bs : List Byte) (p : PtpAt) (i : Nat) (new : List Byte) : List Byte :=
  let old := (bs.drop i).take new.length
  let r := putAt bs i new
  if p.kind = 0 then r
  else putAt r p.sumAt (beBytes 2 (udpUpdate (p.kind = 1) (beAt bs p.sumAt 2) (sum16 old) (sum16 new)))

/-- correctionField raised by `v` units of 2^-16 ns. (DEDUCED, log entry 55) -/
def ptpCorrect (bs : List Byte) (p : PtpAt) (v : Int) : List Byte :=
  ptpPut bs p (p.start + 8) (beBytes 8 (toBits 64 ((beAt bs (p.start + 8) 8 : Nat) + v)))

/-- The transmit stamp of a frame captured at `t` in units of 2^-16 ns (R127). (DEDUCED, log entry 55) -/
def Dev.txFine (d : Dev) (port t : Nat) : Nat :=
  shiftStamp t (((d.num PTPS.CORR_TX port : Nat) : Int) + signedOf (d.num PTPS.CORR_ADJ_TX port) 32)

/-- What a line port sends for a frame whose transmission was captured at `t`: the frame, and whether it was edited by
one-step (R124) and by the transparent clock (R125). `ingress` is the ingress stamp in units of 2^-16 ns of a frame received on
a line port. (DEDUCED, log entry 55) -/
def Dev.ptpEdit (d : Dev) (port t : Nat) (ingress : Option Nat) (bs : List Byte) : List Byte × Bool × Bool :=
  match ptpFind bs with
  | none => (bs, false, false)
  | some p =>
    if !d.enabled 0x12 || !d.ptpOn port p.kind then (bs, false, false) else
    let tx := d.txFine port t
    let one := d.on PTPS.PTP_CFG_ONE_STEP port && byteAt bs p.start % 16 = 0 && !bitOf (byteAt bs (p.start + 6)) 1 &&
      decide (p.start + 44 ≤ bs.length)
    let bs1 := if one then
        ptpCorrect (ptpPut bs p (p.start + 34) (beBytes 6 (tx / 65536 / 1000000000) ++ beBytes 4 (tx / 65536 % 1000000000)))
          p (tx % 65536 : Nat)
      else bs
    match ingress, d.on PTPS.PTP_CFG_TC_EN port with
    | some rx, true => (ptpCorrect bs1 p ((tx : Int) - (rx : Nat)), one, true)
    | _, _ => (bs1, one, false)

end Sys2Proof.Machine
end

