-- ==== Sys2Proof/Machine/Islands.lean ====
section
/-! DEFINITION. Clock islands and pace (05_islands): the governor, the order in which a level is decided, pace changes and
the pins. -/

namespace Sys2Proof.Machine

/-- An island's governor after reset: full pace, nothing counted. -/
def Isle.empty : Isle :=
  { low := 0, target := 0, change := none, held := none, t0 := 0, t1 := 0, t2 := 0, t3 := 0, since := 0 }

def Dev.isle (d : Dev) (i : Nat) : Isle := d.isles.get Isle.empty i
def Dev.setIsle (d : Dev) (i : Nat) (x : Isle) : Dev := { d with isles := d.isles.set Isle.empty i x }

/-- The lanes and the rate per lane, in Gb/s, of a port mode (R133). -/
def modeLanes (m : Nat) : Nat :=
  if m = 0 ∨ 10 < m then 0 else if m = 4 ∨ m = 7 ∨ m = 10 then 4 else if m = 5 ∨ m = 8 then 2 else if m = 9 then 8 else 1
def modeRate (m : Nat) : Nat :=
  if m = 1 then 10 else if m = 2 ∨ m = 4 then 25 else if m = 3 ∨ m = 5 ∨ m = 7 ∨ m = 9 then 50
  else if m = 6 ∨ m = 8 ∨ m = 10 then 100 else 0

/-- The port mode in force. -/
def Dev.mode (d : Dev) (p : Nat) : Nat := d.fld PORT.PORT_CFG_MODE p

/-- The port that a line lane belongs to. -/
def Dev.portOfLane (d : Dev) (l : Nat) : Option Nat :=
  (List.range 32).find? fun p => p ≤ l && l < p + modeLanes (d.mode p)

/-- The sum of the configured rates of an island's lanes that are up, in Gb/s: a lane is up while the PCS of its port is
aligned (DEDUCED). The tandem lanes run at the tandem link's rate. -/
def Dev.laneSum (d : Dev) (i : Nat) : Nat :=
  if i = 8 then (if d.on TNDM.LINK_STAT_ALIGNED then 400 else 0)
  else ((List.range 4).map fun k =>
    match d.portOfLane (4 * i + k) with
    | some p => if d.on PORT.PORT_STAT_ALIGNED p then modeRate (d.mode p) else 0
    | none => 0).sum

/-- The hardware floor of an island (R95), 3 where there is none. (DEDUCED, log entry 113) -/
def Dev.floor (d : Dev) (i : Nat) : Nat := if i ≤ 8 ∧ 200 < d.laneSum i then 2 else 3

/-- What decides a level: the level code, its cause (0 governor, 1 pin, 2 floor, 3 cap), and whether the floor overrides a
pin or MIN_PACE, which it does wherever it is faster than both leave the level (R98). -/
structure Level where
  code : Nat
  cause : Nat
  held : Bool
  capped : Bool
  deriving DecidableEq, Repr

/-- The effective level of an island, in the order of R98; full before READY (R97), also while the thermal cap is active (R31).
(DEDUCED, log entry 113; DESIGN CHOICE, log entry 118) -/
def Dev.level (d : Dev) (i : Nat) : Level :=
  if !d.on TOP.BOOT_STATUS_READY then { code := 0, cause := 0, held := false, capped := false } else
  let pin := d.on ISLE.PACE_CFG_PIN_EN i
  let l1 := if pin then d.fld ISLE.PACE_CFG_PIN_LEVEL i
    else if d.on ISLE.PACE_CFG_GOV_EN i then (d.isle i).target else d.fld ISLE.PACE_STAT_TARGET i
  let min := d.fld ISLE.PACE_CFG_MIN_PACE i
  let l2 := if min < l1 then min else l1
  let fl := d.floor i
  let l3 := if fl < l2 then fl else l2
  let l4 := if d.sup.cap ∧ l3 < 2 then 2 else l3
  { code := l4
    cause := if l4 ≠ l3 then 3 else if l3 ≠ l2 then 2 else if pin then 1 else 0
    held := l3 ≠ l2
    capped := l4 ≠ l3 }

/-- A pace change starts (R99). -/
def Dev.startChange (d : Dev) (i lvl cause : Nat) : Dev :=
  (d.setIsle i { d.isle i with change := some (lvl, cause), held := none }).setFld ISLE.PACE_STAT_CHANGING 1 i

/-- An island's level is decided again, and a change starts or waits for the one in progress (R98, R101).
(DEDUCED, log entry 113) -/
def Dev.repace (d : Dev) (i : Nat) : Dev :=
  let l := d.level i
  let was := d.on ISLE.PACE_STAT_FLOOR_HELD i
  let d := ((d.setFld ISLE.PACE_STAT_CAPPED (bit l.capped) i).setFld ISLE.PACE_STAT_FLOOR_HELD (bit l.held) i).setFld
    ISLE.PACE_STAT_TARGET l.code i
  let d := if l.held && !was then d.raise ISLE.int_FLOOR_RAISED else d
  match (d.isle i).change with
  | some (c, _) =>
    d.setIsle i { d.isle i with held := if c = l.code then none else some (l.code, l.cause) }
  | none => if l.code = d.fld ISLE.PACE_STAT_CURRENT i then d else d.startChange i l.code l.cause

/-- Every island's level is decided again. -/
def Dev.repaceAll (d : Dev) : Dev := d.each 34 Dev.repace

/-- An island's governor with the time at its current level counted up to now. (DEDUCED, log entry 113) -/
def Isle.settle (x : Isle) (lvl up : Nat) : Isle :=
  let dt := up - x.since
  match lvl with
  | 0 => { x with t0 := x.t0 + dt, since := up }
  | 1 => { x with t1 := x.t1 + dt, since := up }
  | 2 => { x with t2 := x.t2 + dt, since := up }
  | _ => { x with t3 := x.t3 + dt, since := up }

/-- Time at a level since power-on in ms, for RES_FULL, RES_3Q, RES_HALF and RES_QTR (R104); the time in which SPORE has an island off
counts at the level in force. (DESIGN CHOICE, log entry 118) -/
def Dev.resMs (d : Dev) (i lvl : Nat) : Nat :=
  let x := (d.isle i).settle (d.fld ISLE.PACE_STAT_CURRENT i) d.clk.up
  (match lvl with | 0 => x.t0 | 1 => x.t1 | 2 => x.t2 | _ => x.t3) / 10000000

/-- The target at the end of a window (R96), and the count of light windows. (DEDUCED, log entry 113) -/
def Dev.govern (d : Dev) (i occ : Nat) : Nat × Nat :=
  let x := d.isle i
  if d.fld ISLE.GOV_TH_JUMP_TH i ≤ occ then (0, 0)
  else if d.fld ISLE.GOV_TH_UP_TH i ≤ occ then (x.target - 1, 0)
  else if occ ≤ d.fld ISLE.GOV_TH_DOWN_TH i then
    if d.fld ISLE.GOV_TIME_DWELL i ≤ x.low + 1 then (min 3 (x.target + 1), 0) else (x.target, x.low + 1)
  else (x.target, 0)

/-- Governors start at READY: no light window is counted, the target is full pace, and a window begins (R97). -/
def Dev.governorsStart (d : Dev) : Dev :=
  d.each 34 fun d i => d.setIsle i { d.isle i with low := 0, target := 0, winAt := d.clk.up }

/-- Whether the window of an island's governor is over: WINDOW × 64 ns (R96). -/
def Dev.windowOver (d : Dev) (i : Nat) : Bool :=
  decide ((d.isle i).winAt + 640 * d.fld ISLE.GOV_TIME_WINDOW i ≤ d.clk.up)

/-- A governor window of an island ends with mean occupancy `occ`, and the next begins (R96, R97, R103). -/
def Dev.window (d : Dev) (i occ : Nat) : Dev :=
  if d.on TOP.BOOT_STATUS_READY ∧ i < 34 ∧ d.windowOver i then
    let d := (d.setFld ISLE.PACE_STAT_OCC occ i).setIsle i { d.isle i with winAt := d.clk.up }
    if d.enabled 0x04 then
      (d.setIsle i { d.isle i with target := (d.govern i occ).1, low := (d.govern i occ).2 }).repace i
    else d
  else d

/-- GOVERNOR_WINDOW (R96). -/
def execGovernorWindow (island occ : Nat) (s : State) : Host.Outcome State Fault Refusal :=
  s.run fun d => d.window island (min occ 255)

/-- A pace change of an island ends, and what waited for it starts (R99, R101, R105). -/
def Dev.changeDone (d : Dev) (i : Nat) : Dev :=
  match (d.isle i).change with
  | none => d
  | some (lvl, cause) =>
    let old := d.fld ISLE.PACE_STAT_CURRENT i
    let x := (d.isle i).settle old d.clk.up
    let next := match x.held with
      | some (l, _) => decide (l ≠ lvl)
      | none => false
    let d := ((d.setIsle i { x with change := none, held := none, soft := if next then x.soft - 1 else 0 }).setFld ISLE.PACE_STAT_CURRENT lvl i).setFld
      ISLE.PACE_STAT_CHANGING 0 i
    let d := d.bump ISLE.PACE_CHANGES i
    let d := if d.on ISLE.LOG_CFG_LOG_PACE then d.log 32 0x0401 i old lvl cause else d
    match x.held with
    | some (l, c) => if l = lvl then d else d.startChange i l c
    | none => d

/-- SOFT_RESET of ISLE reads 1 until the pace changes it began are done (R70, R103). (DEDUCED, log entry 10) -/
def Dev.resetSettled (d : Dev) : Dev :=
  if d.isles.any fun p => p.2.soft ≠ 0 then d else { d with resetting := d.resetting.filter (· != 0x04) }

/-- PACE_CHANGE_DONE (R99). -/
def execPaceChangeDone (island : Nat) (s : State) : Host.Outcome State Fault Refusal :=
  s.run fun d => d.changeDone island |>.resetSettled

/-- PIN_ALL.PIN (R105). -/
def Dev.pinAll (d : Dev) (lvl : Nat) : Dev :=
  (d.each 34 fun d i => (d.setFld ISLE.PACE_CFG_PIN_EN 1 i).setFld ISLE.PACE_CFG_PIN_LEVEL lvl i).repaceAll

/-- PIN_ALL.UNPIN (R105). -/
def Dev.unpinAll (d : Dev) : Dev := (d.each 34 fun d i => d.setFld ISLE.PACE_CFG_PIN_EN 0 i).repaceAll

/-- A write of PIN_ALL: PIN and UNPIN together have no effect (R105). -/
def Dev.pinWrite (d : Dev) (w : Word) : Dev :=
  if w.getLsbD 8 && w.getLsbD 9 then d
  else if w.getLsbD 8 then d.pinAll (w.toNat % 4)
  else if w.getLsbD 9 then d.unpinAll else d

/-- PIN (R105). -/
def execPin (level : Nat) (s : State) : Host.Outcome State Fault Refusal :=
  s.act fun d => d.access 0x04 fun d => d.pinAll (level % 4)

/-- UNPIN (R105). -/
def execUnpin (s : State) : Host.Outcome State Fault Refusal :=
  s.act fun d => d.access 0x04 Dev.unpinAll

/-- An island's settings return to reset. What follows from that is a change that starts, or one that now waits for the change in
progress; what an earlier SOFT_RESET began still counts. (DEDUCED, log entry 10) -/
def Dev.softOne (d : Dev) (i : Nat) : Dev :=
  let old := d.isle i
  let d := (((d.setReg ISLE.PACE_CFG (ISLE.PACE_CFG.rstOf i) i).setReg ISLE.GOV_TH
    (ISLE.GOV_TH.rstOf i) i).setReg ISLE.GOV_TIME (ISLE.GOV_TIME.rstOf i) i).repace i
  let x := d.isle i
  d.setIsle i { x with soft := if old.change.isNone then bit x.change.isSome
    else if x.held.isNone then min old.soft 1 else if x.held = old.held then old.soft else 2 }

/-- SOFT_RESET of ISLE (R103): it reads 1 until the resulting changes have ended. -/
def Dev.softIsle (d : Dev) : Dev :=
  let d := d.each 34 Dev.softOne
  { d with resetting := [0x04] }.resetSettled

end Sys2Proof.Machine
end

