-- ==== Sys2Proof/Machine/Buffers.lean ====
section
/-! DEFINITION. Switch core and buffers (16_switch_core): units and their chains, the steps by which a frame takes them,
set-aside and headroom, episodes of back-pressure and the PAUSE and PFC frames they send, and the leak audit. -/

namespace Sys2Proof.Machine

/-! ### Ports as the switch core sees them -/

/-- The link state of a line port or of the tandem link (R141, R407); the host path is up while its link is. -/
def Dev.portState (d : Dev) (p : Nat) : Nat :=
  if p = 33 then d.fld TNDM.LINK_STAT_STATE
  else if p = 32 then (if d.on HOST.LINK_STAT_PORT32_UP then 5 else 1)
  else d.fld PORT.PORT_STAT_STATE p

/-- The device with a link state set. -/
def Dev.setPortState (d : Dev) (p v : Nat) : Dev :=
  if p = 33 then d.setFld TNDM.LINK_STAT_STATE v else d.setFld PORT.PORT_STAT_STATE v p

/-- The port rate in Gb/s: of its MODE, 63 for port 32 and 400 for the tandem link (R133, R368, R407). -/
def Dev.rate (d : Dev) (p : Nat) : Nat :=
  if p = 33 then 400 else if p = 32 then 63 else modeLanes (d.mode p) * modeRate (d.mode p)

/-- Whether a port takes copies: it is UP, and, for the tandem link, the module is in RESYNC or JOINED (R344, R408). -/
def Dev.portUp (d : Dev) (p : Nat) : Bool :=
  if p = 33 then d.portState 33 = 5 && (d.fld TNDM.STATE_STATE = 4 || d.fld TNDM.STATE_STATE = 5)
  else d.portState p = 5

/-- FC_MODE, PFC_EN and XOFF_QUANTA of a port: fixed for the tandem link, none for the others (R340, R407). -/
def Dev.fcMode (d : Dev) (r : Nat) : Nat := if r = 33 then 2 else if r < 32 then d.fld PORT.MAC_CFG_FC_MODE r else 0
def Dev.pfcEn (d : Dev) (r : Nat) : Nat := if r = 33 then 0xFF else d.fld PORT.PFC_CFG_PFC_EN r
def Dev.xoffQuanta (d : Dev) (r : Nat) : Nat := if r = 33 then 0xFFFF else d.fld PORT.PFC_CFG_XOFF_QUANTA r
def Dev.macSet (d : Dev) (r : Nat) : MacSet :=
  { fcMode := d.fcMode r, pfcEn := d.pfcEn r, ctrlPass := r < 32 && d.on PORT.MAC_CFG_CTRL_PASS r }
def Dev.maxFrame (d : Dev) (r : Nat) : Nat := if r < 32 then d.fld PORT.MAC_CFG_MAX_FRAME r else 10240

/-- Whether a priority is pausable (R338). -/
def Dev.pausable (d : Dev) (r p : Nat) : Bool :=
  (d.fcMode r = 1 && p = 0) || (d.fcMode r = 2 && bitOf (d.pfcEn r) p)

def Dev.pri (d : Dev) (r p : Nat) : Pri := d.sw.pri.get {} (8 * r + p)
def Dev.setPri (d : Dev) (r p : Nat) (x : Pri) : Dev := { d with sw := { d.sw with pri := d.sw.pri.set {} (8 * r + p) x } }

/-- Whether (r, p) is in an episode (R339). -/
def Dev.inEpisode (d : Dev) (r p : Nat) : Bool := bitOf (d.num BUFM.XOFF_STAT r) p

/-! ### Pools, set-aside and headroom (R336, R337, R342) -/

def Dev.held0 (d : Dev) (r : Nat) : Nat := d.num BUFM.POOL_USE0 r
def Dev.held1 (d : Dev) (r : Nat) : Nat := d.num BUFM.POOL_USE1 r

/-- The headroom cells reserved for (r, p): what was reserved when its episode began, while one lasts. -/
def Dev.hrUnits (d : Dev) (r p : Nat) : Nat :=
  if !d.pausable r p then 0 else if d.inEpisode r p then (d.pri r p).epUnits else d.num BUFM.HR_UNITS r

/-- The headroom in bytes that R145 compares against. -/
def Dev.hrBytes (d : Dev) (r p : Nat) : Nat :=
  if d.inEpisode r p then (d.pri r p).epH else d.num BUFM.HR_BYTES r

/-- The set-aside of one requester (R337). -/
def Dev.setasideOf (d : Dev) (r : Nat) : Nat :=
  (d.num BUFM.MIN0 r - d.held0 r)
  + ((List.range 8).map fun p => d.hrUnits r p - (d.pri r p).hr).sum
  + (46 - (match d.sw.rx.get none r with | some x => x.resv | none => 0))

/-- The set-aside of pool 0. -/
def Dev.setaside (d : Dev) : Nat := ((List.range 42).map d.setasideOf).sum

/-- The unused part of all MIN1 values. -/
def Dev.min1Left (d : Dev) : Nat := ((List.range 42).map fun r => d.num BUFM.MIN1 r - d.held1 r).sum

/-- Whether the spill write queue holds fewer than SPILL_TH blocks (R329, R336). -/
def Dev.spillRoom (d : Dev) : Bool := decide (d.sw.spillq.length < d.fld BUFM.POOL_CFG_SPILL_TH)

/-- A block is gathered whole: it waits in the spill write queue to be written (R329). -/
def Dev.gathered (d : Dev) (key : Nat) : Dev :=
  { d with sw := { d.sw with spillq := d.sw.spillq.map fun b => if key = 2 ^ 22 + b.1 then (b.1, true) else b } }

/-- The oldest block that is gathered whole has been written to packet memory. (DESIGN CHOICE, log entry 119) -/
def Dev.spillOut (d : Dev) : Dev :=
  match d.sw.spillq.find? fun b => b.2 with
  | some b => ({ d with sw := { d.sw with spillq := d.sw.spillq.eraseP fun b => b.2 } }).blockAccess b.1 0x1C1
  | none => d

/-- Whether pool 1 is usable (R336). -/
def Dev.usable1 (d : Dev) : Bool :=
  d.on BUFM.POOL_CFG_BALLAST_EN && decide (d.min1Left < d.num BUFM.FREE1) && d.spillRoom

/-- H and HR_UNITS of a requester (R342). -/
def Dev.headroom (d : Dev) (r : Nat) : Nat × Nat :=
  if d.rate r = 0 ∨ (32 ≤ r ∧ r ≠ 33) then (0, 0) else
  let ps := 2 * d.fld BUFM.HR_CFG_LEN_M r * d.fld BUFM.HR_CFG_DELAY r * 10 + d.fld BUFM.HR_PARTNER_T_PARTNER r * 1000 + 100000
  let h := (d.rate r * ps + 7999) / 8000 + d.maxFrame r
  (h, (h + d.maxFrame r + 63) / 64 + (d.maxFrame r + 223) / 224)

/-- Headroom is computed again, at a commit or a change of MODE. -/
def Dev.calcHeadroom (d : Dev) (r : Nat) : Dev :=
  (d.setNum BUFM.HR_BYTES (d.headroom r).1 r).setNum BUFM.HR_UNITS (d.headroom r).2 r

/-- The cells that pool 0 has. -/
def Dev.cells (d : Dev) : Nat := 262144 - d.sw.withheld.length - (d.sw.badUnits.filter (· < 2 ^ 22)).length

/-- The overcommit check of R337. -/
def Dev.checkOvercommit (d : Dev) : Dev :=
  let full := ((List.range 42).map fun r => d.num BUFM.MIN0 r +
    ((List.range 8).map fun p => if d.pausable r p then d.num BUFM.HR_UNITS r else 0).sum + 46).sum
  let b0 := decide (d.cells < full + d.fld BUFM.GLOBAL_G_TH)
  let b1 := decide (4194304 < ((List.range 42).map fun r => d.num BUFM.MIN1 r).sum)
  let d := (d.setFld BUFM.GSTAT_OVERCOMMIT0 (bit b0)).setFld BUFM.GSTAT_OVERCOMMIT1 (bit b1)
  if b0 || b1 then d.raise BUFM.int_OVERCOMMIT else d

/-- The switch core's part of a commit or of a change of MODE (R337, R342). -/
def Dev.buffersCommit (d : Dev) : Dev :=
  (((List.range 32).foldl Dev.calcHeadroom d).calcHeadroom 33).checkOvercommit

/-! ### Units and chains (R329, R330, R348) -/

def linkKey (pool i : Nat) : Nat := pool % 2 * 2 ^ 22 + i % 2 ^ 22
def Dev.lnk (d : Dev) (pool i : Nat) : Link := d.sw.link.get {} (linkKey pool i)
def Dev.setLink (d : Dev) (pool i : Nat) (l : Link) : Dev :=
  { d with sw := { d.sw with link := d.sw.link.set {} (linkKey pool i) l } }

/-- The packet channel that holds a block (R385). -/
def blockChannel (i : Nat) : Nat := 48 + i % 16

/-- The units of a pool that cannot be taken: allocated ones, and those withheld. -/
def Dev.taken (d : Dev) (pool : Nat) : SMap Unit :=
  let a := (d.sw.link.filter fun p => p.2.alloc && p.1 / 2 ^ 22 = pool).map fun p => (p.1 % 2 ^ 22, ())
  let bad := (d.sw.badUnits.filter (· / 2 ^ 22 = pool)).map (· % 2 ^ 22)
  (if pool = 0 then d.sw.withheld ++ bad else bad).foldl (fun m k => SMap.ins (m.del k) k ()) a

/-- The least number from `c` up that is no key of a rising list. -/
def firstGap (c : Nat) : List (Nat × Unit) → Nat
  | [] => c
  | (k, _) :: r => if k < c then firstGap c r else if k = c then firstGap (c + 1) r else c

/-- Whether a unit may be taken. -/
def Dev.unitFree (d : Dev) (pool i : Nat) : Bool :=
  !(d.lnk pool i).alloc && !d.sw.badUnits.contains (linkKey pool i) && (if pool = 0 then decide (i < 262144) && !d.sw.withheld.contains i
    else decide (i < 4194304) && !d.sw.noBlocks.contains (blockChannel i))

/-- The free unit of a pool of lowest index from `c` up. -/
def Dev.lowestFree (fuel : Nat) (d : Dev) (pool c : Nat) (taken : List (Nat × Unit)) : Nat :=
  match fuel with
  | 0 => c
  | n + 1 =>
    let g := firstGap c taken
    if pool = 1 ∧ d.sw.noBlocks.contains (blockChannel g) then Dev.lowestFree n d pool (g + 1) taken else g

def Dev.lowestFree0 (d : Dev) (pool : Nat) : Nat :=
  Dev.lowestFree (16 * (d.sw.link.length + 1)) d pool 0 (d.taken pool)

/-- The bank that holds a cell: of 64, by the cell's index. (DESIGN CHOICE, log entry 120) -/
def bankOfCell (i : Nat) : Nat := i % 64

/-- The least cell of a bank from `c` up that is no key of a rising list. -/
def cellGap (c : Nat) : List (Nat × Unit) → Nat
  | [] => c
  | (k, _) :: r => if k < c then cellGap c r else if k = c then cellGap (c + 64) r else c

/-- The bank of a new cell: of those with a free cell the one written least recently (R333). A write takes no time in the model, so no
bank has one pending. (DESIGN CHOICE, log entry 120) -/
def Dev.nextBank (d : Dev) : Option Nat :=
  let t := d.taken 0
  d.sw.banks.find? fun b => decide (cellGap b t < 262144)

/-- The unit that an allocation takes: the one that the outside names where the allocator may take it, otherwise the free one of lowest
index; a cell lies in the bank that R333 chooses. (DESIGN CHOICE, log entry 120) -/
def Dev.pickUnit (d : Dev) (pool : Nat) (pick : List Nat) : Nat :=
  let bank := if pool = 0 then d.nextBank else none
  let mayTake := fun (i : Nat) => d.unitFree pool i && (match bank with | some b => bankOfCell i == b | none => true)
  match pick.head?.filter mayTake, bank with
  | some i, _ => i
  | none, some b => cellGap b (d.taken 0)
  | none, none => d.lowestFree0 pool

/-- A unit is allocated to a requester; during an audit pass it is marked (R349). -/
def Dev.allocUnit (d : Dev) (pool i r : Nat) : Dev :=
  let d := d.setLink pool i { alloc := true, mark := d.sw.audit.running }
  let d := d.perf 21 (0x140 + pool % 2)
  if pool = 0 then
    let b := bankOfCell i
    ({ d with sw := { d.sw with banks := d.sw.banks.erase b ++ [b] } }.setNum BUFM.FREE0 (d.num BUFM.FREE0 - 1)).bump BUFM.POOL_USE0 r
  else
    ({ d with sw := { d.sw with spillq := d.sw.spillq ++ [(i, false)] } }.setNum BUFM.FREE1 (d.num BUFM.FREE1 - 1)).bump BUFM.POOL_USE1 r

/-- A double free: ignored, counted, recorded and logged (R348). -/
def Dev.doubleFree (d : Dev) (pool i r cause : Nat) : Dev :=
  let d := (d.bump BUFM.DOUBLE_FREES).setNum BUFM.DF_INFO (i % 2 ^ 22 + pool * 2 ^ 22 + r % 64 * 2 ^ 23 + cause * 2 ^ 29)
  let d := d.setNum2 BUFM.DF_STAMP_LO BUFM.DF_STAMP_HI (d.stamp 21).toNat
  (d.raise BUFM.int_DOUBLE_FREE).log 21 0x4001 (d.num BUFM.DF_INFO)

/-- A cell that has read uncorrectably is freed: it passes a march test and returns to pool 0, or fails it and is withheld. Which, is open.
(DESIGN CHOICE, log entry 117) -/
def Dev.testCell (d : Dev) (i : Nat) : Dev :=
  let n := d.sw.cellTests
  let d := { d with sw := { d.sw with suspect := d.sw.suspect.filter (· ≠ i), cellTests := n + 1 } }
  if Config.cellFails n then ({ d with sw := { d.sw with withheld := d.sw.withheld ++ [i] } }).bump MARC.WITHHELD 8
  else d.bump BUFM.FREE0

/-- A unit becomes free, unless it is withheld. -/
def Dev.unitBack (d : Dev) (pool i : Nat) : Dev :=
  if d.sw.badUnits.contains (linkKey pool i) then
    if pool = 1 ∧ d.sw.noBlocks.contains (blockChannel i) then d.bump MEMC.RET_BLOCKS else d
  else if pool = 0 then
    if d.sw.withheld.contains i then d else if d.sw.suspect.contains i then d.testCell i else d.bump BUFM.FREE0
  else if d.sw.noBlocks.contains (blockChannel i) then d.bump MEMC.RET_BLOCKS else d.bump BUFM.FREE1

/-- A unit is freed: a withheld one does not become free. -/
def Dev.freeUnit (d : Dev) (pool i r : Nat) : Dev :=
  let d := d.setLink pool i { mark := d.sw.audit.running }
  let d := if pool = 0 then d else { d with sw := { d.sw with spillq := d.sw.spillq.eraseP fun b => b.1 = i } }
  let use := if pool = 0 then BUFM.POOL_USE0 else BUFM.POOL_USE1
  (d.setNum use (d.num use r - 1) r).unitBack pool i

/-- The units of a chain freed in order, as far as `fuel` units; a unit already free ends it (R348). -/
def Dev.freeChain (fuel : Nat) (d : Dev) (pool i r cause : Nat) : Dev :=
  match fuel with
  | 0 => d
  | n + 1 =>
    let l := d.lnk pool i
    if !l.alloc then d.doubleFree pool i r cause
    else
      let d := d.freeUnit pool i r
      if l.next = 0x3FFFFF ∧ l.npool = 0 then d else Dev.freeChain n d l.npool l.next r cause

/-- The first `n` units of a chain freed, and what follows them. -/
def Dev.freeFirst (fuel : Nat) (d : Dev) (pool i r : Nat) : Dev × Nat × Nat :=
  match fuel with
  | 0 => (d, pool, i)
  | n + 1 =>
    let l := d.lnk pool i
    if !l.alloc then (d.doubleFree pool i r 4, 0, 0x3FFFFF)
    else Dev.freeFirst n (d.freeUnit pool i r) l.npool l.next r

/-- The most units a chain can have: a maximum frame takes 46 cells. -/
def chainFuel : Nat := 64

def Dev.frame (d : Dev) (k : Nat) : Option Frame := d.sw.frames.get none k
def Dev.setFrame (d : Dev) (k : Nat) (f : Frame) : Dev :=
  { d with sw := { d.sw with frames := d.sw.frames.set none k (some f) } }
def Dev.updFrame (d : Dev) (k : Nat) (g : Frame → Frame) : Dev :=
  match d.frame k with | some f => d.setFrame k (g f) | none => d

/-- A descriptor is allocated with a frame's first unit (R334, R335). -/
def Dev.allocDesc (d : Dev) : Dev × Nat :=
  let k := firstGap 0 (d.sw.frames.map fun p => (p.1, ()))
  let d := (d.setFrame k {}).counts (SWCR.BANK_WAIT.key 0 0)
  let d := (d.bump SWCR.DESC_USED).setNum BUFM.DESC_FREE (d.num BUFM.DESC_FREE - 1)
  (d.setNum SWCR.DESC_PEAK (max (d.num SWCR.DESC_PEAK) (d.num SWCR.DESC_USED)), k)

/-- A descriptor is freed. -/
def Dev.freeDesc (d : Dev) (k : Nat) : Dev :=
  let d := { d with sw := { d.sw with frames := d.sw.frames.set none k none } }
  (d.setNum SWCR.DESC_USED (d.num SWCR.DESC_USED - 1)).bump BUFM.DESC_FREE

/-- Whether step 2, and step 4, of R336 would succeed for a requester. -/
def Dev.step2 (d : Dev) (r sa : Nat) : Bool := decide (d.held0 r < d.num BUFM.QUOTA0 r ∧ sa < d.num BUFM.FREE0)
def Dev.step4 (d : Dev) (r : Nat) (u1 : Bool) : Bool := decide (d.held1 r < d.num BUFM.QUOTA1 r) && u1

/-- The step of R336 by which a requester's next unit would come, 6 where there is none; `sa` is the set-aside and `u1`
says whether pool 1 is usable. -/
def Dev.unitStep (d : Dev) (r p : Nat) (inEp : Bool) (resv sa : Nat) (u1 : Bool) : Nat :=
  if d.held0 r < d.num BUFM.MIN0 r ∧ 0 < d.num BUFM.FREE0 then 1
  else if d.step2 r sa then 2
  else if d.held1 r < d.num BUFM.MIN1 r ∧ d.spillRoom ∧ 0 < d.num BUFM.FREE1 then 3
  else if d.step4 r u1 then 4
  else if 0 < d.num BUFM.FREE0 ∧ ((inEp ∧ (d.pri r p).hr < d.hrUnits r p) ∨ resv < 46) then 5
  else 6

/-! ### Episodes (R339 to R341) and the frames they send (R139) -/

/-- The address of the pause frames, and the source address of R477. -/
def pauseDa : List Byte := [0x01, 0x80, 0xC2, 0x00, 0x00, 0x01]
def Dev.ctrlSa (d : Dev) : List Byte :=
  beBytes 6 (d.num PORT.CTRL_SA_LO + d.num PORT.CTRL_SA_HI * 2 ^ 32)

/-- A generated PAUSE or PFC frame: for each priority of `mask` the quanta given (R139). -/
def Dev.pauseFrame (d : Dev) (pfc : Bool) (mask quanta : Nat) : List Byte :=
  let body := if pfc then
      beBytes 2 0x0101 ++ beBytes 2 mask ++ (List.range 8).flatMap fun p => beBytes 2 (if bitOf mask p then quanta else 0)
    else beBytes 2 0x0001 ++ beBytes 2 quanta
  let f := pauseDa ++ d.ctrlSa ++ beBytes 2 0x8808 ++ body
  withFcs (f ++ List.replicate (60 - f.length) 0)

def Dev.setXoffTx (d : Dev) (port v : Nat) : Dev :=
  if port = 33 then d.setFld TNDM.LINK_STAT_XOFF_TX v else d.setFld PORT.PORT_STAT_XOFF_TX v port
def Dev.xoffTx (d : Dev) (port : Nat) : Nat :=
  if port = 33 then d.fld TNDM.LINK_STAT_XOFF_TX else d.fld PORT.PORT_STAT_XOFF_TX port
def Dev.xoffRx (d : Dev) (port : Nat) : Nat :=
  if port = 33 then d.fld TNDM.LINK_STAT_XOFF_RX else if port < 32 then d.fld PORT.PORT_STAT_XOFF_RX port else 0
def Dev.setXoffRx (d : Dev) (port v : Nat) : Dev :=
  if port = 33 then d.setFld TNDM.LINK_STAT_XOFF_RX v else d.setFld PORT.PORT_STAT_XOFF_RX v port

/-- A pause frame leaves the port, for the priorities of `mask`: it is counted (R148), and the time to the refresh of an XOFF begins
(R139). -/
def Dev.pauseOut (d : Dev) (port : Nat) (x : Bool × Nat × Nat) : Dev :=
  let (pfc, mask, quanta) := x
  let bs := d.pauseFrame pfc mask quanta
  let d := ((d.emit (.frame port bs false)).statGood port 32 bs.length bs).perf (islandOfPort port) 0x041
  let d := if pfc then d.each 8 fun d p => if bitOf mask p then d.stat port (48 + p) else d else d.stat port 47
  if quanta = 0 then d else
  d.each 8 fun d p => if bitOf mask p then d.setPri port p { d.pri port p with xoffAt := d.clk.up } else d

def Dev.setPauses (d : Dev) (port : Nat) (l : List (Bool × Nat × Nat)) : Dev :=
  { d with sw := { d.sw with pauses := d.sw.pauses.set [] port l } }

/-- Whether a frame is in transmission on a port. -/
def Dev.sending (d : Dev) (port : Nat) : Bool := (d.sw.staged.get [] port).any (·.started)

/-- A pause frame for the priorities of `mask`: it waits for the frame in transmission and for nothing else (R139). -/
def Dev.sendPause (d : Dev) (port mask quanta : Nat) : Dev :=
  let x := (decide (d.fcMode port = 2), mask, quanta)
  if d.sending port then d.setPauses port (d.sw.pauses.get [] port ++ [x]) else d.pauseOut port x

/-- The frame in transmission has ended: the pause frames that waited for it leave (R139). -/
def Dev.pausesOut (d : Dev) (port : Nat) : Dev :=
  (d.sw.pauses.get [] port).foldl (fun d x => d.pauseOut port x) (d.setPauses port [])

/-- Whether the XOFF of a priority still waits to leave. -/
def Dev.xoffWaits (d : Dev) (port p : Nat) : Bool :=
  (d.sw.pauses.get [] port).any fun x => decide (x.2.2 ≠ 0) && bitOf x.2.1 p

/-- XOFF for the priorities of `mask` (R139); the first one of a priority begins a pause episode (R145). -/
def Dev.sendXoff (d : Dev) (port mask : Nat) : Dev :=
  if mask = 0 ∨ d.portState port ≠ 5 then d else
  let new := mask &&& (0xFF ^^^ d.xoffTx port)
  let d := (d.sendPause port mask (d.xoffQuanta port)).setXoffTx port (d.xoffTx port ||| mask)
  d.each 8 fun d p => if bitOf new p then d.setPri port p { d.pri port p with epBytes := 0, ignored := false } else d

/-- XON for those priorities of `mask` that the module holds in XOFF (R139). -/
def Dev.sendXon (d : Dev) (port mask : Nat) : Dev :=
  let m := mask &&& d.xoffTx port
  if m = 0 ∨ d.portState port ≠ 5 then d else
  (d.sendPause port m 0).setXoffTx port (d.xoffTx port &&& (0xFF ^^^ m))

/-- The global conditions SHORT and DESC of R339. -/
def Dev.evalGlobal (d : Dev) : Dev :=
  let spare := d.num BUFM.FREE0 - d.num BUFM.SETASIDE0
  let u1 := d.usable1
  let short := if d.on BUFM.GSTAT_SHORT then
      !(decide (d.fld BUFM.GLOBAL_G_TH + d.fld BUFM.HYST_G_HYST < spare) || u1)
    else decide (spare ≤ d.fld BUFM.GLOBAL_G_TH) && !u1
  let low := if d.on BUFM.GSTAT_DESC then decide (d.num BUFM.DESC_FREE ≤ 2 * d.num BUFM.DESC_TH)
    else decide (d.num BUFM.DESC_FREE ≤ d.num BUFM.DESC_TH)
  let d := if short && !d.on BUFM.GSTAT_SHORT then d.raise BUFM.int_SHORTAGE else d
  let d := if low && !d.on BUFM.GSTAT_DESC then d.raise BUFM.int_DESC_LOW else d
  ((d.setFld BUFM.GSTAT_SHORT (bit short)).setFld BUFM.GSTAT_DESC (bit low)).setFld BUFM.GSTAT_BALLAST_USABLE (bit u1)

/-- The conditions of one requester: whether FULL holds, the priorities under QUOTA, and those in an episode. -/
def Dev.conditions (d : Dev) (r : Nat) : Bool × Nat × Nat :=
  let sa := d.num BUFM.SETASIDE0
  let u1 := d.on BUFM.GSTAT_BALLAST_USABLE
  let full := if d.on BUFM.XOFF_STAT_FULL r then !(d.step2 r sa || d.step4 r u1) else decide (5 ≤ d.unitStep r 0 false 0 sa u1)
  let one := fun p =>
    let use := d.num (BUFM.USE.ix p) r
    let q := if bitOf (d.num BUFM.XOFF_STAT r) (8 + p) then decide (d.num (BUFM.XON_TH.ix p) r < use)
      else decide (d.num (BUFM.XOFF_TH.ix p) r ≤ use)
    let g := (full || d.on BUFM.GSTAT_SHORT || d.on BUFM.GSTAT_DESC) && (decide (0 < use) || r = 32 || decide (34 ≤ r))
    (q, q || g)
  let quota := ((List.range 8).map fun p => bit (one p).1 <<< p).sum
  let eps := ((List.range 8).map fun p => bit (one p).2 <<< p).sum
  (full, quota, eps)

/-- The episodes of one requester are evaluated, and XOFF and XON are sent (R339). -/
def Dev.evalReq (d : Dev) (r : Nat) : Dev :=
  let old := d.num BUFM.XOFF_STAT r % 256
  let (full, quota, eps) := d.conditions r
  if d.num BUFM.XOFF_STAT r = eps + quota * 256 + bit full * 65536 then d else
  let begun := eps &&& (0xFF ^^^ old)
  let ended := old &&& (0xFF ^^^ eps)
  let units := d.num BUFM.HR_UNITS r
  let h := d.num BUFM.HR_BYTES r
  let d := d.setNum BUFM.XOFF_STAT (eps + quota * 256 + bit full * 65536) r
  let d := d.each 8 fun d p =>
    if bitOf begun p then d.setPri r p { d.pri r p with epH := h, epUnits := units, epBytes := 0, ignored := false } else d
  if r < 32 ∨ r = 33 then
    let m := ((List.range 8).map fun p => bit (bitOf begun p && d.pausable r p) <<< p).sum
    (d.sendXoff r m).sendXon r ended
  else d

/-- Every condition is evaluated, as at each admission and each free (R339). -/
def Dev.evalAll (d : Dev) : Dev :=
  let d := (d.setNum BUFM.SETASIDE0 d.setaside).evalGlobal
  d.each 42 Dev.evalReq

/-! ### Charges (R338) -/

/-- Units charged to USE[r][p]. -/
def Dev.charge (d : Dev) (r p n : Nat) : Dev :=
  let d := d.bump (BUFM.USE.ix p) r n
  d.setNum BUFM.PEAK (max (d.num BUFM.PEAK r) ((List.range 8).map fun p => d.num (BUFM.USE.ix p) r).sum) r

/-- Units no longer charged to USE[r][p]. -/
def Dev.uncharge (d : Dev) (r p n : Nat) : Dev := d.setNum (BUFM.USE.ix p) (d.num (BUFM.USE.ix p) r - n) r

/-- A frame leaves the switch core: its units and descriptor are freed and its charge falls; `cause` is that of R348. -/
def Dev.releaseFrame (d : Dev) (k cause : Nat) : Dev :=
  match d.frame k with
  | none => d
  | some f =>
    let d := d.freeChain chainFuel f.fpool f.first f.req cause
    let d := if f.onHold then d.setNum SWCR.HOLD_UNITS (d.num SWCR.HOLD_UNITS - f.charge) else d.uncharge f.req f.pri f.charge
    let d := d.setPri f.req f.pri { d.pri f.req f.pri with hr := (d.pri f.req f.pri).hr - f.hr }
    (d.freeDesc k).evalAll

/-- A frame is discarded for a reason of R350 and freed. -/
def Dev.discardFrame (d : Dev) (k reason : Nat) : Dev := (d.disc reason).releaseFrame k 1

/-! ### A frame in reception (R331, R336) -/

def Dev.rx (d : Dev) (r : Nat) : Option Rx := d.sw.rx.get none r
def Dev.setRx (d : Dev) (r : Nat) (x : Option Rx) : Dev := { d with sw := { d.sw with rx := d.sw.rx.set none r x } }

/-- Whether a requester may take a descriptor: one stays free for each other requester that has none in reception (R335).
(DEDUCED, log entry 52) -/
def Dev.descRoom (d : Dev) (r : Nat) : Bool :=
  let others := (List.range 42).filter fun q => q ≠ r && (match d.rx q with | some x => x.desc.isNone | none => true)
  decide (others.length < d.num BUFM.DESC_FREE)

/-- The frame in reception takes one more unit, by the first step of R336 that succeeds; with its first unit it takes a descriptor,
of which there are 1,048,576 (R335). (DEDUCED, log entry 52) -/
def Dev.takeUnit (d : Dev) (r : Nat) (x : Rx) (pick : List Nat) : Dev × Rx :=
  let step := d.unitStep r x.pri x.inEp x.resv d.setaside d.usable1
  if step = 6 ∨ (x.desc.isNone ∧ d.descRoom r = false) then (d, { x with dead := true }) else
  let pool := if step = 3 ∨ step = 4 then 1 else 0
  let i := d.pickUnit pool pick
  let d := d.allocUnit pool i r
  let fromHr := decide (step = 5) && x.inEp && decide ((d.pri r x.pri).hr < d.hrUnits r x.pri)
  let d := if fromHr then d.setPri r x.pri { d.pri r x.pri with hr := (d.pri r x.pri).hr + 1 } else d
  let (d, k) := match x.desc with
    | some k =>
      ((d.gathered x.last).setLink (x.last / 2 ^ 22) (x.last % 2 ^ 22) { d.lnk (x.last / 2 ^ 22) (x.last % 2 ^ 22) with next := i, npool := pool }, k)
    | none =>
      let (d, k) := d.allocDesc
      (d.setFrame k { fpool := pool, first := i, req := r, pri := x.pri, tagPri := x.tagPri, ingress := r, stamp := wholeNs x.fine, fine := x.fine }, k)
  let d := if pool = 1 then d.updFrame k fun f => { f with spilled := true } else d
  (d, { x with desc := some k, last := linkKey pool i, room := x.room + (if pool = 1 then 1792 else 224),
               units := x.units + (if pool = 1 then 8 else 1), hr := x.hr + bit fromHr,
               resv := x.resv + bit (decide (step = 5) && !fromHr) })

/-- Units are taken until they hold `n` bytes, or none is to be had. (DEDUCED, log entry 71) -/
def Dev.takeUnits (fuel : Nat) (d : Dev) (r : Nat) (x : Rx) (n : Nat) (pick : List Nat) : Dev × Rx :=
  match fuel with
  | 0 => (d, x)
  | m + 1 =>
    if n ≤ x.room ∨ x.dead then (d, x) else
    let (d, x) := d.takeUnit r x pick
    Dev.takeUnits m (d.setRx r (some x)) r x n pick.tail

/-- The bytes of a frame in reception that units have taken. -/
def Rx.taken (x : Rx) : Nat := min x.room (min x.bytes.length x.maxFrame)

/-- Bytes of the frame in reception arrive: they take units as far as MAX_FRAME, and those that units take count toward the
headroom of the episode, which begins when its XOFF has left the port (R135, R145). -/
def Dev.rxBytes (d : Dev) (r : Nat) (x : Rx) (bs : List Byte) (pick : List Nat) : Dev :=
  let had := x.taken
  let x := { x with bytes := x.bytes ++ bs }
  if x.reason.isSome then d.setRx r (some x) else
  let (d, x) := d.takeUnits chainFuel r x (min x.bytes.length x.maxFrame) pick
  let d := d.setRx r (some x)
  if d.inEpisode r x.pri && !d.xoffWaits r x.pri then
    d.setPri r x.pri { d.pri r x.pri with epBytes := (d.pri r x.pri).epBytes + (x.taken - had) } else d

/-- What a frame in reception took is given back: its units, its descriptor and its headroom (R331). -/
def Dev.rxDrop (d : Dev) (r : Nat) (x : Rx) : Dev :=
  let d := match x.desc with
    | some k =>
      match d.frame k with
      | some f => (d.freeChain chainFuel f.fpool f.first r 1).freeDesc k
      | none => d
    | none => d
  ((d.setPri r x.pri { d.pri r x.pri with hr := (d.pri r x.pri).hr - x.hr }).setRx r none).evalAll

/-- The frame in reception is admitted: it is charged to its requester and becomes resident with `bytes` (R331, R338). -/
def Dev.rxAdmit (d : Dev) (r : Nat) (x : Rx) (bytes : List Byte) (g : Frame → Frame) : Dev × Nat :=
  match x.desc with
  | none => (d.setRx r none, 0)
  | some k =>
    let ms := d.upMs % 2 ^ 24
    let d := (d.gathered x.last).updFrame k fun f =>
      g { f with len := bytes.length + 4, bytes := bytes, charge := x.units, hr := x.hr, admitMs := ms, cls := 0 }
    (((d.charge r x.pri x.units).setRx r none).evalAll, k)

/-- Pool counters as they stand when every unit and every descriptor is free (R54). -/
def Dev.initPools (d : Dev) : Dev :=
  let d := { d with sw := { d.sw with link := [], frames := [], rx := [], queues := [], staged := [], heads := [], spillq := [] } }
  let d := (d.setNum BUFM.FREE0 d.cells).setNum BUFM.FREE1 (4194304 - 262144 * d.sw.noBlocks.length)
  let d := d.setNum MEMC.RET_BLOCKS (262144 * d.sw.noBlocks.length)
  let d := ((d.setNum BUFM.DESC_FREE 1048576).setNum SWCR.DESC_USED 0).setNum TMGR.COPY_FREE 2097152
  let d := d.each 42 fun d r => (d.setNum BUFM.POOL_USE0 0 r).setNum BUFM.POOL_USE1 0 r
  let d := d.each 336 fun d i => d.setNum (BUFM.USE.ix (i % 8)) 0 (i / 8)
  (d.setNum SWCR.HOLD_UNITS 0).evalAll

/-! ### The leak audit (R349) -/

/-- The abortable status word of R88. -/
def statusWord (state late progress : Nat) : Nat := state + late * 8 + progress % 2 ^ 24 * 256

/-- The state of an abortable operation. -/
def Dev.opState (d : Dev) (r : Reg) (ch : Nat := 0) : Nat := d.num r ch % 8

/-- An abort of an abortable operation (R87): before the completion point it ends the operation ABORTED, logged; after it,
ABORT_LATE is set; an idle, failed or already aborted operation is unchanged. (DESIGN CHOICE, log entry 115) -/
def Dev.abortOp (d : Dev) (r : Reg) (ch : Nat) (f : Dev → Dev) : Dev :=
  if d.opState r ch = 1 then
    let d := f (d.setNum r (setBits (d.num r ch) 0 3 3) ch)
    d.opEnd r.page (d.num r ch) ch
  else if d.opState r ch = 2 then d.setNum r (setBits (d.num r ch) 3 1 1) ch
  else d

/-- An abortable operation starts: RUNNING, ABORT_LATE cleared, nothing done. -/
def Dev.startOp (d : Dev) (r : Reg) (ch : Nat := 0) : Dev := d.setNum r 1 ch

/-- An abortable operation ends: COMPLETE (2) or FAILED (4), with its progress, logged (R87). -/
def Dev.endOp (d : Dev) (r : Reg) (ch state progress : Nat) : Dev :=
  let d := d.setNum r (statusWord state 0 progress) ch
  d.opEnd r.page (d.num r ch) ch

/-- The units that the chains of the live descriptors hold. -/
def Dev.chainOf (fuel : Nat) (d : Dev) (pool i : Nat) : List Nat :=
  match fuel with
  | 0 => []
  | n + 1 =>
    let l := d.lnk pool i
    if !l.alloc then [] else
    linkKey pool i :: (if l.next = 0x3FFFFF ∧ l.npool = 0 then [] else Dev.chainOf n d l.npool l.next)

/-- Every unit that a live descriptor or a frame in reception reaches. -/
def Dev.liveUnits (d : Dev) : List Nat :=
  d.sw.frames.flatMap fun p => match p.2 with | some f => d.chainOf chainFuel f.fpool f.first | none => []

/-- A pass begins: every reachable unit is marked (phase 1 of R349). -/
def Dev.auditBegin (d : Dev) : Dev :=
  if d.enabled 0x40 && d.opState BUFM.AUDIT_STAT ≠ 1 then
    let live := d.liveUnits
    let d := { d with sw := { d.sw with audit := { running := true, lastS := d.upMs / 1000 } } }
    let d := live.foldl (fun d k => d.setLink (k / 2 ^ 22) (k % 2 ^ 22) { d.lnk (k / 2 ^ 22) (k % 2 ^ 22) with mark := true }) d
    d.startOp BUFM.AUDIT_STAT
  else d

/-- AUDIT_START (R349). -/
def execAuditStart (s : State) : Host.Outcome State Fault Refusal := s.act fun d => d.access 0x40 Dev.auditBegin

/-- AUDIT_PERIOD (R349): PERIOD seconds have passed since the last pass began, and the module is READY. -/
def execAuditPeriod (s : State) : Host.Outcome State Fault Refusal :=
  s.run fun d => d.when (d.on TOP.BOOT_STATUS_READY && decide (d.sw.audit.lastS + d.fld BUFM.AUDIT_CFG_PERIOD ≤ d.upMs / 1000))
    Dev.auditBegin

/-- The audit's pass is over and no longer marks. -/
def Dev.auditStop (d : Dev) : Dev := { d with sw := { d.sw with audit := { d.sw.audit with running := false } } }

/-- A leaked unit is reported and, with RECLAIM, freed (R349). The link memory does not say which requester took it, so no
requester's count of held units falls. -/
def Dev.leak (d : Dev) (pool i : Nat) : Dev :=
  let d := (d.bump BUFM.LEAKS).setNum BUFM.LEAK_INFO (i % 2 ^ 22 + pool * 2 ^ 22)
  let d := d.setNum2 BUFM.LEAK_STAMP_LO BUFM.LEAK_STAMP_HI (d.stamp 21).toNat
  let d := (d.raise BUFM.int_LEAK).log 21 0x4002 (d.num BUFM.LEAK_INFO)
  if d.on BUFM.AUDIT_CFG_RECLAIM then
    ((d.setLink pool i {}).bump BUFM.RECLAIMED).unitBack pool i
  else d

/-- The scan of one unit (phase 2 of R349). -/
def Dev.scanUnit (d : Dev) (key : Nat) : Dev :=
  let pool := key / 2 ^ 22
  let i := key % 2 ^ 22
  let l := d.lnk pool i
  if l.alloc then
    if l.mark then d.setLink pool i { l with mark := false, age := 0 }
    else
      let age := min 3 (l.age + 1)
      let d := d.setLink pool i { l with age := age }
      if l.age < age ∧ age = d.fld BUFM.AUDIT_CFG_PASSES then d.leak pool i else d
  else d.setLink pool i {}

/-- Free units that the audit finds on no free list, and free-list entries that are allocated, are put right and
counted (R349). The model's free list is the link memory itself, so the outside says how many the scan met. -/
def Dev.freelistFix (d : Dev) (bad : Nat) : Dev :=
  if bad = 0 then d else (d.bump BUFM.FREELIST_BAD 0 bad).raise BUFM.int_FREELIST_BAD

/-- An operation's PROGRESS is an open number below `total`: how far a pass has come is not stated, but at its end.
(DESIGN CHOICE, log entry 114) -/
def Dev.openProgress (d : Dev) (r : Reg) (ch total : Nat) : Dev × Nat :=
  let n := d.freeVal.toNat % total
  (d.freed.setNum r (setBits (d.num r ch) 8 24 n) ch, n)

/-- The pass is aborted after an open number of units, in units of 4,096: those are processed and the rest untouched (R87, R349).
(DESIGN CHOICE, log entry 114) -/
def Dev.auditCut (d : Dev) : Dev :=
  let (d, n) := d.openProgress BUFM.AUDIT_STAT 0 1088
  (((d.sw.link.map (·.1)).filter fun k => (if k / 2 ^ 22 = 0 then k else k % 2 ^ 22 + 262144) < n * 4096).foldl Dev.scanUnit d).auditStop

/-- AUDIT_ABORT (R349): scanned units stay processed, the rest are untouched. -/
def execAuditAbort (s : State) : Host.Outcome State Fault Refusal :=
  s.act fun d => d.access 0x40 fun d => d.abortOp BUFM.AUDIT_STAT 0 Dev.auditCut

/-- The last unit is scanned: the pass is COMPLETE (R349). With ENABLE = 0 the audit does not run (R351). -/
def Dev.auditDone (d : Dev) (bad : Nat) : Dev :=
  if d.enabled 0x40 && d.opState BUFM.AUDIT_STAT = 1 then
    let d := (d.sw.link.map (·.1)).foldl Dev.scanUnit d
    let d := (d.freelistFix bad).auditStop
    (d.endOp BUFM.AUDIT_STAT 0 2 ((262144 + 4194304) / 4096)).raise BUFM.int_AUDIT_DONE
  else d

/-- AUDIT_DONE (R349), with the free-list faults that the scan met. -/
def execAuditDone (bad : Nat) (s : State) : Host.Outcome State Fault Refusal := s.run fun d => d.auditDone bad

/-- SOFT_RESET of BUFM (R351): the audit is aborted, MARK and AGE of every unit are cleared. -/
def Dev.softBufm (d : Dev) : Dev :=
  let d := d.abortOp BUFM.AUDIT_STAT 0 Dev.auditCut
  let link := (d.sw.link.map fun p => (p.1, { p.2 with mark := false, age := 0 })).filter fun p => decide (p.2 ≠ {})
  { d with sw := { d.sw with link := link } }

end Sys2Proof.Machine
end

