-- ==== Sys2Proof/Machine/Gates.lean ====
section
/-! DEFINITION. Time gates (R366 to R369, R376): the gate control lists, their change, and how long a gate stays open. -/

namespace Sys2Proof.Machine

def Dev.gate (d : Dev) (n : Nat) : GateSt := d.sw.gates.get {} n
def Dev.setGate (d : Dev) (n : Nat) (g : GateSt) : Dev := { d with sw := { d.sw with gates := d.sw.gates.set {} n g } }

/-- An entry of a port's list: GATES and INTERVAL. -/
def gclKey (n bank i : Nat) : Nat := (n * 2 + bank % 2) * 256 + i % 256
def Dev.gclEntry (d : Dev) (n bank i : Nat) : Nat × Nat := d.sw.gcl.get (0, 0) (gclKey n bank i)
def Dev.setGclEntry (d : Dev) (n bank i : Nat) (e : Nat × Nat) : Dev :=
  { d with sw := { d.sw with gcl := d.sw.gcl.set (0, 0) (gclKey n bank i) e } }

/-- Device time of the traffic manager's island as a stamp counts it, in ns. -/
def Dev.gateNow (d : Dev) : Nat := d.islandNs 22 % (2 ^ 34 * 1000000000)

/-- The entries of a list as spans of its cycle: end in ns, gates and index. The last entry lasts to the cycle's end, and
what goes beyond it is cut off (R366). -/
def Dev.gateSpans (d : Dev) (n bank len cycle : Nat) : List (Nat × Nat × Nat) :=
  let ends := (List.range len).foldl (fun (l : List (Nat × Nat × Nat)) i =>
    let from_ := (l.head?.map (·.1)).getD 0
    let e := d.gclEntry n bank i
    let stop := if i + 1 = len then cycle else min cycle (from_ + e.2)
    if cycle ≤ from_ then l else (stop, e.1, i) :: l) []
  ends.reverse

/-- The span that a position in the cycle falls into: gates and entry. -/
def spanAt (l : List (Nat × Nat × Nat)) (pos : Nat) : Nat × Nat :=
  match l.find? fun x => decide (pos < x.1) with
  | some (_, g, i) => (g, i)
  | none => (0xFF, 0)

/-- How long from a position class `c` stays open, through the next whole cycle; none when no entry closes it. -/
def openSpan (l : List (Nat × Nat × Nat)) (cycle c pos : Nat) : Option Nat :=
  let starts := (0 :: l.map (·.1)).zip l
  let closeAt := starts.filterMap fun (s, _, g, _) => if bitOf g c then none else some s
  let here := spanAt l pos
  if !bitOf here.1 c then some 0 else
  match (closeAt.filter fun s => decide (pos < s)).head? with
  | some s => some (s - pos)
  | none => (closeAt.head?).map fun s => cycle - pos + s

/-- Whether a port's gates act: the page is enabled, GATE_EN is 1 and a list has become active. -/
def Dev.gated (d : Dev) (n : Nat) : Bool :=
  d.enabled 0x4B && d.on GATE.GATE_CFG_GATE_EN n && d.on GATE.GATE_STAT_LIST_ACTIVE n

def Dev.operBase (d : Dev) (n : Nat) : Nat := nsOfStamp (d.num2 GATE.OPER_BASE_LO GATE.OPER_BASE_HI n)
def Dev.operCycle (d : Dev) (n : Nat) : Nat := d.num GATE.OPER_CYCLE n

/-- The active list's spans. -/
def Dev.operSpans (d : Dev) (n : Nat) : List (Nat × Nat × Nat) :=
  d.gateSpans n (d.gate n).bank (d.gate n).len (d.operCycle n)

/-- The gates open now and the entry in force; a step of the clock to before OPER_BASE leaves them as they were (R369). -/
def Dev.gateNowIn (d : Dev) (n : Nat) : Nat × Nat :=
  if d.gateNow < d.operBase n then (d.num GATE.GATE_STAT n % 256, bitsOf (d.num GATE.GATE_STAT n) 8 8)
  else spanAt (d.operSpans n) ((d.gateNow - d.operBase n) % d.operCycle n)

/-- The gates of a port that are open now. -/
def Dev.gatesOpen (d : Dev) (n : Nat) : Nat := if d.gated n then (d.gateNowIn n).1 else 0xFF

/-- How long class `c` of a port stays open from now: the list in force up to a pending change, and what the new list says
after it (R368). -/
def Dev.openFor (d : Dev) (n c : Nat) : Option Nat :=
  if !d.gated n then none else
  let now := d.gateNow
  let base := d.operBase n
  let cyc := d.operCycle n
  let l := d.operSpans n
  let old := if now < base then
      (if bitOf (d.gateNowIn n).1 c then (openSpan l cyc c 0).map (· + (base - now)) else some 0)
    else openSpan l cyc c ((now - base) % cyc)
  match (d.gate n).pending with
  | none => old
  | some (t, cyc2, len2) =>
    match old with
    | some x => if now + x ≤ t then old else (openSpan (d.gateSpans n ((d.gate n).bank + 1) len2 cyc2) cyc2 c 0).map (· + (t - now))
    | none => (openSpan (d.gateSpans n ((d.gate n).bank + 1) len2 cyc2) cyc2 c 0).map (· + (t - now))

/-- Whether a copy of class `c` and `len` bytes may start now: its gate stays open for the time of the larger of MAX_SDU
and its length, plus 20 bytes, at the port rate (R368). -/
def Dev.gateAllows (d : Dev) (n c len : Nat) : Bool :=
  match d.openFor n c with
  | none => true
  | some x => decide (0 < x) && decide ((max (d.num (GATE.MAX_SDU.ix c) n) len + 20) * 8 ≤ x * d.rate n)

/-- GATE_STAT as it reads (R376): the gates open now, and the entry in force. (DEDUCED, log entry 48) -/
def Dev.gateStat (d : Dev) (n : Nat) : Nat :=
  setBits (setBits (d.num GATE.GATE_STAT n) 0 8 (d.gatesOpen n)) 8 8 (if d.gated n then (d.gateNowIn n).2 else 0)

/-- GATE_STAT keeps the position of the list, which a step of the clock to before OPER_BASE leaves (R369). -/
def Dev.showGates (d : Dev) (n : Nat) : Dev :=
  d.setNum GATE.GATE_STAT (setBits (setBits (d.num GATE.GATE_STAT n) 0 8 (d.gateNowIn n).1) 8 8 (d.gateNowIn n).2) n

/-- The active list moves to its next entry or starts a new cycle (R366). -/
def Dev.gateEntry (d : Dev) (n : Nat) : Dev := if d.gated n then d.showGates n else d

/-- The instant of a change: ADM_BASE, or the first later start of a cycle of the new list that lies in the future
(R367). -/
def gateInstant (base cycle now : Nat) : Nat :=
  if now < base then base else base + ((now - base) / cycle + 1) * cycle

/-- A write of GATE_CTRL.CHANGE (R367). (DEDUCED, log entry 48) -/
def Dev.gateChange (d : Dev) (n : Nat) : Dev :=
  let len := d.num GATE.ADM_LEN n
  let cyc := d.num GATE.ADM_CYCLE n
  let bank := (d.gate n).bank + 1
  let bad := decide (len = 0 ∨ 256 < len ∨ cyc < 1000 ∨ 1000000000 < cyc) ||
    (List.range len).any fun i => (d.gclEntry n bank i).2 = 0
  if bad then d.raise GATE.int_CHANGE_REFUSED else
  let t := gateInstant (nsOfStamp (d.num2 GATE.ADM_BASE_LO GATE.ADM_BASE_HI n)) cyc d.gateNow
  (d.setGate n { d.gate n with pending := some (t, cyc, len) }).setFld GATE.GATE_STAT_PENDING 1 n

/-- A write of GATE_CTRL.CANCEL (R367). -/
def Dev.gateCancel (d : Dev) (n : Nat) : Dev :=
  (d.setGate n { d.gate n with pending := none }).setFld GATE.GATE_STAT_PENDING 0 n

/-- A write of GATE_CTRL: both bits together have no effect (R376). -/
def Dev.gateCtrl (d : Dev) (n : Nat) (w : Word) : Dev :=
  if w.getLsbD 0 && w.getLsbD 1 then d
  else if w.getLsbD 0 then d.gateChange n else if w.getLsbD 1 then d.gateCancel n else d

/-- GATE_CHANGE (R367). -/
def execGateChange (port : Nat) (s : State) : Host.Outcome State Fault Refusal :=
  s.act fun d => d.access 0x4B fun d => d.gateChange (port % 34)

/-- GATE_CANCEL (R367). -/
def execGateCancel (port : Nat) (s : State) : Host.Outcome State Fault Refusal :=
  s.act fun d => d.access 0x4B fun d => d.gateCancel (port % 34)

/-- The standby list becomes active once its instant has come (R367). (DEDUCED, log entry 48) -/
def Dev.gateSwap (d : Dev) (n : Nat) : Dev :=
  match (d.gate n).pending with
  | none => d
  | some (t, cyc, len) =>
    if d.gateNow < t then d else
    let d := d.setGate n { bank := ((d.gate n).bank + 1) % 2, len := len, pending := none }
    let d := (d.setNum2 GATE.OPER_BASE_LO GATE.OPER_BASE_HI (stampOf t).toNat n).setNum GATE.OPER_CYCLE cyc n
    let d := ((d.setFld GATE.GATE_STAT_PENDING 0 n).setFld GATE.GATE_STAT_LIST_ACTIVE 1 n).bump GATE.CHANGES n
    ((d.showGates n).raise GATE.int_CHANGE_DONE).log 22 0x4B01 n cyc

/-- The list and entry that GCL_GATES and GCL_TIME show for reads. -/
def Dev.gclView (d : Dev) (n : Nat) : Nat × Nat :=
  d.gclEntry n (if d.on GATE.GCL_IDX_VIEW n then (d.gate n).bank else (d.gate n).bank + 1) (d.num GATE.GCL_IDX n % 256)

/-- GCL_IDX advances by one, wrapping from 255 to 0. -/
def Dev.gclAdvance (d : Dev) (n : Nat) : Dev :=
  d.setNum GATE.GCL_IDX (setBits (d.num GATE.GCL_IDX n) 0 8 (d.num GATE.GCL_IDX n + 1)) n

/-- Writes reach the standby list only, and not while a change is pending. -/
def Dev.gclWrite (d : Dev) (n : Nat) (f : Nat × Nat → Nat × Nat) : Dev :=
  let i := d.num GATE.GCL_IDX n % 256
  let bank := (d.gate n).bank + 1
  if d.on GATE.GATE_STAT_PENDING n then d else d.setGclEntry n bank i (f (d.gclEntry n bank i))

/-- A write of GCL_GATES, and of GCL_TIME. -/
def Dev.gclGates (d : Dev) (n : Nat) (w : Word) : Dev := d.gclWrite n fun e => (w.toNat % 256, e.2)
def Dev.gclTime (d : Dev) (n : Nat) (w : Word) : Dev := (d.gclWrite n fun e => (e.1, w.toNat)).gclAdvance n

/-- A read of GCL_TIME. -/
def Dev.gclTimeRead (d : Dev) (n path : Nat) : Dev :=
  (d.gclAdvance n).emit (.words path [BitVec.ofNat 32 (d.gclView n).2])

/-- GCL_ACCESS (R376): a write of GCL_TIME with a value, or a read of it. -/
def execGclAccess (path port : Nat) (value : Option Word) (s : State) : Host.Outcome State Fault Refusal :=
  s.act fun d => d.access 0x4B fun d =>
    match value with
    | some w => d.gclTime (port % 34) w
    | none => d.gclTimeRead (port % 34) path

/-- SOFT_RESET of GATE (R376). -/
def Dev.softGate (d : Dev) : Dev :=
  d.each 34 fun d n => ((d.setFld GATE.GATE_CFG_GATE_EN 0 n).gateCancel n)

end Sys2Proof.Machine
end

