-- ==== Sys2Proof/Machine/Result.lean ====
section
/-! DEFINITION. The 64-bit result of a pipeline or of a flow task (R197), field by field. -/

namespace Sys2Proof.Machine

def resAct (r : Nat) : Nat := bitsOf r 0 2
def resPort (r : Nat) : Nat := bitsOf r 2 6
def resNextHop (r : Nat) : Nat := bitsOf r 8 14
def resNhEn (r : Nat) : Bool := bitOf r 22
def resClass (r : Nat) : Nat := bitsOf r 23 3
def resClassEn (r : Nat) : Bool := bitOf r 26
def resColour (r : Nat) : Nat := bitsOf r 27 2
def resColourEn (r : Nat) : Bool := bitOf r 29
def resPolicer (r : Nat) : Nat := bitsOf r 30 16
def resPolEn (r : Nat) : Bool := bitOf r 46
def resEdit (r : Nat) : Nat := bitsOf r 47 12
def resEditEn (r : Nat) : Bool := bitOf r 59
def resNoFlow (r : Nat) : Bool := bitOf r 60

end Sys2Proof.Machine
end

