-- ==== Sys2Proof/Machine/Sampling.lean ====
section
/-! DEFINITION. Sampling (R429 to R433): exact samples of operations and stage records of tagged units, on their way to the
ring in host memory. -/

namespace Sys2Proof.Machine

/-- SRING_BASE. -/
def Dev.sringBase (d : Dev) : Nat := d.num2 PERF.SRING_BASE_LO PERF.SRING_BASE_HI

/-- A sample is dropped and counted (R433). -/
def Dev.sampleLost (d : Dev) : Dev := (d.bump PERF.SAMPLES_LOST).raise PERF.int_SAMPLE_LOST

/-- A record enters the staging buffer of 256 entries, or is dropped. -/
def Dev.sampleStage (d : Dev) (bs : List Byte) : Dev :=
  if d.obs.staged.length < 256 then { d with obs := { d.obs with staged := d.obs.staged ++ [bs] } } else d.sampleLost

/-- The oldest staged record is written to the ring, or dropped when the ring is full (R433). -/
def Dev.sampleWrite (d : Dev) : Dev :=
  match d.obs.staged with
  | [] => d
  | bs :: r =>
    let d := { d with obs := { d.obs with staged := r } }
    let size := 2 ^ d.fld PERF.SRING_SIZE_SIZE
    let wr := d.num PERF.SRING_WR
    if size ≤ (wr + 2 ^ 32 - d.num PERF.SRING_RD) % 2 ^ 32 then d.sampleLost
    else (d.dmaWrite (d.sringBase + wr % size * 32) bs).bump PERF.SRING_WR

/-- SAMPLE_RECORD_WRITE (R433). -/
def execSampleRecordWrite (s : State) : Host.Outcome State Fault Refusal := s.act Dev.sampleWrite

/-- Whether sampling runs in a mode. (DEDUCED, log entry 54) -/
def Dev.sampling (d : Dev) (mode : Nat) : Bool := d.enabled 0x60 && d.fld PERF.SAMPLE_MODE_MODE = mode

/-- Whether an island is named in ISLANDS. -/
def Dev.sampledIsland (d : Dev) (i : Nat) : Bool :=
  if i < 32 then bitOf (d.num PERF.SAMPLE_ISL0) i else bitOf (d.num PERF.SAMPLE_ISL1) (i - 32)

/-- A random value from 0 to n − 1. -/
def Dev.rngBelow (d : Dev) (n : Nat) : Nat := (d.rng.toNat % 2 ^ 64) % n

/-- A record of an exact sample (R432). LATENCY is a time that the model does not count, so it is an open value.
(DEDUCED, log entry 54) -/
def Dev.exactRecord (d : Dev) (island op who task addr word : Nat) : List Byte :=
  leBytes 8 (d.stamp island).toNat ++ leBytes 1 island ++ leBytes 1 0 ++ leBytes 1 op ++ leBytes 1 who ++
    leBytes 4 task ++ leBytes 2 addr ++ leBytes 2 0 ++ leBytes 4 d.freeVal.toNat ++ leBytes 4 word ++ leBytes 4 0

/-- An operation of an island that exact sampling may sample (R430). `who` is the engine and, above it, the thread;
`word` is the home slot or the key slot. -/
def Dev.opSample (d : Dev) (island op who task addr word : Nat) : Dev :=
  if d.sampling 1 && d.sampledIsland island && bitOf (d.fld PERF.SAMPLE_CFG_OPS) op then
    let per := d.fld PERF.SAMPLE_CFG_PERIOD
    let fresh := per / 2 + d.rngBelow (max 1 per)
    let (d, n) := match d.obs.down.get none island with
      | some n => (d, n)
      | none => (d.drawn, fresh)
    if n = 0 then
      let fresh := per / 2 + d.rngBelow (max 1 per)
      let d := d.drawn.sampleStage (d.exactRecord island op who task addr word)
      { d.freed with obs := { d.obs with down := d.obs.down.set none island (some fresh) } }
    else { d with obs := { d.obs with down := d.obs.down.set none island (some (n - 1)) } }
  else d

/-- A stage record with the stamp of its stage (R432). -/
def stageRecord (st : BitVec 64) (island stage tag who word : Nat) : List Byte :=
  leBytes 8 st.toNat ++ leBytes 1 island ++ leBytes 1 1 ++ leBytes 1 stage ++ leBytes 1 0 ++
    leBytes 4 (tag % 65536) ++ leBytes 4 0 ++ leBytes 4 who ++ leBytes 4 word ++ leBytes 4 0

/-- A unit crosses a stage at a stamp: in tagging mode a tagged one leaves a record where the stage is named (R429, R431).
(DEDUCED, log entry 54) -/
def Dev.crossedAt (d : Dev) (st : BitVec 64) (island stage : Nat) (tag : Option Nat) (who : Nat) (word : Nat := 0) : Dev :=
  match tag with
  | some t =>
    if bitOf (d.fld PERF.TAG_CFG_STAGES) stage && d.sampling 2 then d.sampleStage (stageRecord st island stage t who word) else d
  | none => d

/-- A unit crosses a stage now. -/
def Dev.crossed (d : Dev) (island stage : Nat) (tag : Option Nat) (who : Nat) (word : Nat := 0) : Dev :=
  d.crossedAt (d.stamp island) island stage tag who word

/-- A unit is tagged, in tagging mode, with probability 2^-TAG_P (R431). (DEDUCED, log entry 54) -/
def Dev.tagUnit (d : Dev) : Dev × Option Nat :=
  if d.sampling 2 then
    if d.rng.toNat % 2 ^ d.fld PERF.TAG_CFG_TAG_P = 0 then
      ({ d.drawn with obs := { d.obs with tag := (d.obs.tag + 1) % 65536 } }, some d.obs.tag)
    else (d.drawn, none)
  else (d, none)

end Sys2Proof.Machine
end

