-- ==== Sys2Proof/Machine/Tm.lean ====
section
/-! DEFINITION. Traffic manager (17_traffic_manager): shapers, policers, the way of a copy into its queue, selection, and
the sampling of queues. -/

namespace Sys2Proof.Machine

/-! ### Shapers (R361 to R363) -/

/-- Nodes: subscribers, services from 32,768, ports from 36,864. -/
def svcNode (s : Nat) : Nat := 32768 + s
def portNode (n : Nat) : Nat := 36864 + n

/-- A node's buckets; at first use they are full (R362). -/
def Dev.bucket (d : Dev) (k : Nat) : Bucket :=
  match d.sw.buckets.get none k with
  | some b => b
  | none =>
    { c := (d.num SHAP.CBS k * 65536 : Nat), p := (d.num SHAP.PBS k * 65536 : Nat), cir := d.num SHAP.CIR k,
      cbs := d.num SHAP.CBS k, pir := d.num SHAP.PIR k, pbs := d.num SHAP.PBS k }
def Dev.setBucket (d : Dev) (k : Nat) (b : Bucket) : Dev :=
  { d with sw := { d.sw with buckets := d.sw.buckets.set none k (some b) } }

/-- What a refill adds for a rate in kb/s, in units of 2^-16 byte, rounded down: rate × interval ÷ 8.
(DEDUCED, log entry 45) -/
def refillOf (k rate : Nat) : Nat :=
  if k < 32768 then rate * 2 ^ 28 / 1000000 else if k < 36864 then rate * 2 ^ 25 / 1000000 else rate * 2 ^ 23 / 1000000

/-- The interval of a node's refills in 0.1 ns (R362). -/
def refillEvery (k : Nat) : Nat := if k < 32768 then 327680 else if k < 36864 then 40960 else 10240

/-- Whether a periodic step that was last made at `last` is due at `now`: its interval has passed. -/
def periodDue (last : Option Nat) (every now : Nat) : Bool :=
  match last with | none => true | some t => decide (t + every ≤ now)

/-- The instant that a periodic step now due belongs to: its phase is kept. -/
def periodAt (last : Option Nat) (every now : Nat) : Nat := match last with | none => now | some t => t + every

/-- A refill: the values that now stand take effect, each bucket is clipped to its size, receives its increment and is
clipped again (R362, R363). (DEDUCED, log entry 45) -/
def Dev.refill (d : Dev) (k : Nat) : Dev :=
  let b := d.bucket k
  let cbs := d.num SHAP.CBS k
  let pbs := d.num SHAP.PBS k
  let one := fun (x : Int) (size inc : Nat) => min ((size * 65536 : Nat) : Int) (min ((size * 65536 : Nat) : Int) x + (inc : Int))
  d.setBucket k { c := one b.c cbs (refillOf k (d.num SHAP.CIR k)), p := one b.p pbs (refillOf k (d.num SHAP.PIR k)),
                  cir := d.num SHAP.CIR k, cbs := cbs, pir := d.num SHAP.PIR k, pbs := pbs,
                  at_ := some (periodAt b.at_ (refillEvery k) d.clk.up) }

/-- A refill is made once in each interval of uptime (R362). (DEDUCED, log entry 45) -/
def Dev.refillDue (d : Dev) (k : Nat) : Bool := periodDue (d.bucket k).at_ (refillEvery k) d.clk.up

/-- A refill whose bucket reads uncorrectably: it is refilled to its size (R467, kind 10). -/
def Dev.refillRead (d : Dev) (k : Nat) (ue : Guard) : Dev :=
  let d := d.guarded 22 10 k ue
  let d := if ue = .bad then
      d.setBucket k { d.bucket k with c := (d.num SHAP.CBS k * 65536 : Nat), p := (d.num SHAP.PBS k * 65536 : Nat) } else d
  d.refill k

/-- SHAPER_REFILL (R362). -/
def execShaperRefill (node : Nat) (ue : Guard) (s : State) : Host.Outcome State Fault Refusal :=
  s.run fun d => d.when (decide (node < 36898) && d.refillDue node) fun d => d.refillRead node ue

/-- A node's peak bucket allows it (R359); with SHAP disabled every bucket counts as positive (R374). -/
def Dev.peakOk (d : Dev) (k : Nat) : Bool :=
  !d.enabled 0x49 || (d.bucket k).pir = 0 || decide (0 < (d.bucket k).p)

/-- A node is committed (R360). (DEDUCED, log entry 45) -/
def Dev.committed (d : Dev) (k : Nat) : Bool :=
  d.enabled 0x49 && decide (k < 36864) && (d.bucket k).cir ≠ 0 && decide (0 < (d.bucket k).c)

/-- A node is charged for a copy of shaping length `len`. A bucket goes no further below zero than one shaping length.
(DEDUCED, log entry 45) -/
def Dev.chargeNode (d : Dev) (k len : Nat) (comm : Bool) : Dev :=
  let b := d.bucket k
  let l : Int := (len * 65536 : Nat)
  let down := fun (x : Int) => max (x - l) (min x (-l))
  let d := d.setBucket k { b with p := down b.p, c := if comm then down b.c else b.c }
  { d with sw := { d.sw with txBytes := d.sw.txBytes.set 0 k ((d.sw.txBytes.get 0 k + len) % 2 ^ 64) } }.bump SHAP.TX_FRAMES k

/-! ### Policers (R364, R365) -/

/-- A policer's buckets now: what has come in since the last frame at its rates. -/
def Dev.policNow (d : Dev) (i : Nat) : Polic :=
  let cbs := d.num POLC.CBS i * 65536
  let ebs := d.num POLC.EBS_PBS i * 65536
  match d.sw.polic.get none i with
  | none => { c := cbs, e := ebs, at_ := d.clk.up }
  | some b =>
    let came := fun rate => rate * (d.clk.up - b.at_) * 8192 / 10000000
    let c := b.c + came (d.num POLC.CIR i)
    if d.fld POLC.MODE_TYPE i = 2 then
      { c := min cbs c, e := min ebs (b.e + came (d.num POLC.PIR i)), at_ := d.clk.up }
    else { c := min cbs c, e := min ebs (b.e + (c - cbs)), at_ := d.clk.up }
def Dev.setPolic (d : Dev) (i : Nat) (b : Polic) : Dev :=
  { d with sw := { d.sw with polic := d.sw.polic.set none i (some b) } }

/-- The colour that a meter gives and the buckets after it: RFC 2697 for type 1, RFC 2698 for type 2; `pre` is the input
colour, green in colour-blind mode. -/
def meter (ty pre size : Nat) (b : Polic) : Nat × Polic :=
  if ty = 1 then
    if pre = 0 ∧ size ≤ b.c then (0, { b with c := b.c - size })
    else if pre ≤ 1 ∧ size ≤ b.e then (1, { b with e := b.e - size })
    else (2, b)
  else
    if 2 ≤ pre ∨ b.e < size then (2, b)
    else if pre = 1 ∨ b.c < size then (1, { b with e := b.e - size })
    else (0, { b with c := b.c - size, e := b.e - size })

/-- A frame of `len` bytes is metered by policer `i`: its output colour. -/
def Dev.police (d : Dev) (i pre len : Nat) : Dev × Nat :=
  let ty := d.fld POLC.MODE_TYPE i
  if !d.enabled 0x4A || ty = 0 || ty = 3 then (d, pre) else
  let size := ((len : Int) + signedOf (d.fld POLC.MODE_LEN_ADJ i) 8).toNat * 65536
  let (col, b) := meter ty (if d.on POLC.MODE_AWARE i then pre else 0) size (d.policNow i)
  let d := (d.setPolic i b).perf 22 0x182 (bit (col = 2))
  (d.bump (if col = 0 then POLC.GREEN else if col = 1 then POLC.YELLOW else POLC.RED) i, col)

/-! ### Queues (R355 to R358) -/

/-- The queue of a subscriber and class, and a port's orphan queue. -/
def queueOf (sub cls : Nat) : Nat := 8 * sub + cls
def orphanOf (port : Nat) : Nat := 262144 + port

def Dev.queue (d : Dev) (q : Nat) : List Copy := d.sw.queues.get [] q
def Dev.setQueue (d : Dev) (q : Nat) (l : List Copy) : Dev := { d with sw := { d.sw with queues := d.sw.queues.set [] q l } }

/-- The service of a subscriber, the port of a service, and the port that a subscriber's chain leads to. -/
def Dev.svcOf (d : Dev) (sub : Nat) : Nat := d.fld SHAP.SCHED_PARENT sub
def Dev.svcPort (d : Dev) (svc : Nat) : Nat := d.fld SHAP.SCHED_PARENT (svcNode svc)
def Dev.chainPort (d : Dev) (sub : Nat) : Nat := d.svcPort (d.svcOf sub)

/-- The class of a frame (R355). -/
def Dev.classOf (d : Dev) (f : Frame) : Nat :=
  if resClassEn f.ctx.res then resClass f.ctx.res
  else match f.named with
    | some c => c % 8
    | none => if f.ingress < 34 ∧ f.ingress ≠ 32 ∧ d.fld (TMGR.ING_CLS_CLS_SRC.ix f.ingress) = 1 then f.tagPri else 0

/-- The start of a layer slot, 0 where none is recorded. -/
def layerAt (f : Frame) (i : Nat) : Option Nat := f.ctx.layers.getD i none

/-- PARS.START of a pipeline: the start node, and DEPTH (R159, R170). -/
def Dev.parseStart (d : Dev) (pipe : Nat) : Nat := d.look.start.get 0x00800000 pipe
def Dev.parseDepth (d : Dev) (pipe : Nat) : Nat := bitsOf (d.parseStart pipe) 16 9

/-- The subscriber of a unicast copy (R356). -/
def Dev.subOf (d : Dev) (f : Frame) (port : Nat) : Nat :=
  match f.subEn with
  | some sub => sub
  | none =>
  let src := d.fld (TMGR.EGR_MAP_SUB_SRC.ix port)
  let off := d.fld (TMGR.SUB_KEY_OFF.ix port)
  let head := f.bytes.take (if f.edited then f.headLen else d.parseDepth f.ctx.pipe)
  let key :=
    if src = 1 then beAt f.ctx.ext off 2
    else match layerAt f (d.fld (TMGR.SUB_KEY_LAYER.ix port)) with
      | some s => beAt head (s + off) 2
      | none => 0
  if src = 0 then d.fld (TMGR.EGR_MAP_DEF_SUB.ix port)
  else (d.fld (TMGR.EGR_MAP_BASE.ix port) + (key &&& d.fld (TMGR.SUB_KEY_MASK.ix port))) % 32768

/-- A new copy goes to the end of a queue, takes its place in the order of arrival and takes an entry. -/
def Dev.enqueue (d : Dev) (q : Nat) (c : Copy) : Dev :=
  let tag := match d.frame c.desc with | some f => f.tag | none => none
  let d := (d.perf 22 0x181).crossed 22 9 tag c.desc (c.port + q * 64)
  let d := d.setQueue q (d.queue q ++ [{ c with seq := d.sw.copySeq }])
  { d with sw := { d.sw with copySeq := d.sw.copySeq + 1 } }.setNum TMGR.COPY_FREE (d.num TMGR.COPY_FREE - 1)

/-- MISMAP counts a copy for an orphan queue (R357). -/
def Dev.mismap (d : Dev) : Dev := (d.bump TMGR.MISMAP).raise TMGR.int_MISMAP

/-- A new copy goes to its port's orphan queue. -/
def Dev.orphan (d : Dev) (c : Copy) : Dev := (d.enqueue (orphanOf c.port) c).mismap

/-- A head copy that selection finds under a port other than its own moves to the orphan queue of its own, with its place in the order
of arrival (R357, R372). -/
def Dev.misplaced (d : Dev) (c : Copy) : Dev :=
  (d.setQueue (orphanOf c.port) (d.queue (orphanOf c.port) ++ [c])).mismap

/-- The ports of a DEST mask. -/
def destPorts (dest : Nat) : List Nat := (List.range 34).filter fun n => bitOf dest n

/-- The classes of a port that a priority stands for: all of them in PAUSE mode, in which the port is one priority
(R137, R139). -/
def Dev.classMask (d : Dev) (port p : Nat) : Nat := if d.fcMode port = 1 then 0xFF else 1 <<< p

/-- The classes of a line port that a storm with ACTION = 1 treats as down (R140). -/
def Dev.stormMask (d : Dev) (port : Nat) : Nat :=
  (List.range 8).foldl (fun m p =>
    if bitOf (d.sw.ports.get {} port).stormDown p then m ||| d.classMask port p else m) 0

/-- The punt rings that copies of a class may go to (R453). -/
def Dev.puntRings (d : Dev) (cls : Nat) : List Nat :=
  (List.range (2 ^ d.fld (HOST.PUNT_QMAP_SPREAD.ix cls))).map fun j => (d.fld (HOST.PUNT_QMAP_QBASE.ix cls) + j) % 32

/-- The punt ring of a copy of a class from an ingress port (R453). -/
def Dev.puntRing (d : Dev) (cls ingress : Nat) : Nat :=
  (d.fld (HOST.PUNT_QMAP_QBASE.ix cls) + ingress % 2 ^ d.fld (HOST.PUNT_QMAP_SPREAD.ix cls)) % 32

/-- Whether a ring has a descriptor posted (R452). -/
def Dev.ringPosted (d : Dev) (r : Nat) : Bool := d.num HOST.RING_AVAIL r ≠ d.num HOST.RING_DONE r

/-- Whether a copy of a class for a port can be queued: the port is up, no storm closes the class, and for the host path
every ring of the class's range is enabled (R343, R344, R353, R453). -/
def Dev.takesCopy (d : Dev) (port cls : Nat) : Bool :=
  d.enabled 0x41 && d.portUp port && !bitOf (d.stormMask port) cls &&
  (port ≠ 32 || (d.puntRings cls).all fun r => d.on HOST.RING_CFG_EN r)

/-- One copy of a frame is offered for a port: queued, or counted DOWN (R343, R356, R357). -/
def Dev.offerCopy (d : Dev) (k : Nat) (f : Frame) (cls : Nat) (unicast : Bool) (port : Nat) : Dev × Nat :=
  if !d.takesCopy port cls then ((d.disc 11).bump SWCR.DOWN_DISC port, 0) else
  let sub := if unicast then f.sub else d.fld (TMGR.EGR_MAP_DEF_SUB.ix port)
  let c : Copy := { desc := k, port := port, cls := cls, since := d.clk.up }
  if d.chainPort sub = port then (d.enqueue (queueOf sub cls) c, 1) else (d.orphan c, 1)

/-- A descriptor that has copy entries: its copies are queued, and REFS is their number; a frame that leaves none is freed
(R343). -/
def Dev.replicate (d : Dev) (k : Nat) (f : Frame) : Dev :=
  let cls := d.classOf f
  let ports := destPorts f.dest
  let f := { f with cls := cls, sub := match ports with | [n] => d.subOf f n | _ => f.sub, stage := .queued }
  let d := d.setFrame k f
  let (d, n) := ports.foldl (fun (d, n) port =>
    let (d, m) := d.offerCopy k f cls (ports.length = 1) port
    (d, n + m)) (d, 0)
  if n = 0 then d.releaseFrame k 1 else d.updFrame k fun f => { f with refs := n }

/-- A frame is metered once (R364): the colour goes into the descriptor; a red one may be discarded (R365). -/
def Dev.meterFrame (d : Dev) (k : Nat) (f : Frame) : Dev × Bool :=
  let pre := if resColourEn f.ctx.res then resColour f.ctx.res else 0
  if resPolEn f.ctx.res then
    let pol := resPolicer f.ctx.res
    let (d, col) := d.police pol pre f.len
    let d := d.updFrame k fun f => { f with colour := col }
    if d.enabled 0x4A && col = 2 && d.on POLC.MODE_RED_DROP pol && d.fld POLC.MODE_TYPE pol ≠ 0 then
      (((d.bump POLC.RED_DISC pol).raise POLC.int_RED_DISC).discardFrame k 10, false)
    else (d, true)
  else (d.updFrame k fun f => { f with colour := pre }, true)

/-- Cycles of the traffic manager's island in a span of uptime in 0.1 ns, at its pace. (DEDUCED, log entry 47) -/
def Dev.tmCycles (d : Dev) (dt : Nat) : Nat :=
  let full := dt * 3 / 20
  match d.fld ISLE.PACE_STAT_CURRENT 22 with
  | 0 => full
  | 1 => full * 3 / 4
  | 2 => full / 2
  | _ => full / 4

/-- The copies that a frame will make: one for each port of DEST that takes it (R343). -/
def Dev.copiesOf (d : Dev) (f : Frame) : Nat := ((destPorts f.dest).filter fun n => d.takesCopy n (d.classOf f)).length

/-- COPY_WAIT counts, up to its top, the cycles that frames have waited since it last did (R358, R373). (DEDUCED, log entry 47) -/
def Dev.settleWait (d : Dev) : Dev :=
  let n := (d.sw.waitTm.map fun (w : Nat × Nat) => d.tmCycles (d.clk.up - w.2)).sum
  { d with sw := { d.sw with waitTm := d.sw.waitTm.map fun (w : Nat × Nat) => (w.1, d.clk.up) } }.setNum TMGR.COPY_WAIT
    (min 0xFFFFFFFF (d.num TMGR.COPY_WAIT + n))

/-- Frames that wait at the crossing go on, in order, as far as entries are free (R358). (DEDUCED, log entry 47) -/
def Dev.drainTm (fuel : Nat) (d : Dev) : Dev :=
  match fuel, d.sw.waitTm with
  | 0, _ => d
  | _, [] => d
  | n + 1, (k, _) :: r =>
    match d.frame k with
    | none => Dev.drainTm n { d with sw := { d.sw with waitTm := r } }
    | some f =>
      if d.copiesOf f ≤ d.num TMGR.COPY_FREE then Dev.drainTm n ({ d with sw := { d.sw with waitTm := r } }.replicate k f) else d

def Dev.drainAll (d : Dev) : Dev :=
  if d.sw.waitTm = [] then d else Dev.drainTm (d.sw.waitTm.length + 1) d.settleWait

/-- A descriptor crosses PL>TM (R355, R358, R364): it is metered and replicated, or waits for entries. An empty DEST is
discarded (R343). (DEDUCED, log entry 47) -/
def Dev.arrive (d : Dev) (k : Nat) : Dev :=
  match d.frame k with
  | none => d
  | some f =>
    if f.stage ≠ .ready then d else
    let (d, ok) := d.meterFrame k f
    if !ok then d else
    match d.frame k with
    | none => d
    | some f =>
      if destPorts f.dest = [] then d.discardFrame k 17
      else if d.sw.waitTm = [] ∧ d.copiesOf f ≤ d.num TMGR.COPY_FREE then d.replicate k f
      else
        let d := d.setFrame k { f with stage := .queued }
        { d with sw := { d.sw with waitTm := d.sw.waitTm ++ [(k, d.clk.up)] } }.raise TMGR.int_COPY_WAIT

/-- DESCRIPTOR_ARRIVAL (R355). -/
def execDescriptorArrival (desc : Nat) (s : State) : Host.Outcome State Fault Refusal := s.run fun d => d.arrive desc

/-! ### Selection (R359, R360) -/

/-- Bytes of the copies that a port has staged (R346). -/
def Dev.stagedOf (d : Dev) (n : Nat) : List Tx := d.sw.staged.get [] n
def Dev.setStaged (d : Dev) (n : Nat) (l : List Tx) : Dev := { d with sw := { d.sw with staged := d.sw.staged.set [] n l } }
def Dev.lenOf (d : Dev) (k : Nat) : Nat := match d.frame k with | some f => f.len | none => 0
def Dev.stagedBytes (d : Dev) (n : Nat) : Nat := ((d.stagedOf n).map fun t => d.lenOf t.copy.desc).sum

/-- The priority that a class is sent in: class 7 leaves the tandem link in priority 6 (R139, R408). -/
def wirePri (port cls : Nat) : Nat := if port = 33 ∧ cls = 7 then 6 else cls

/-- Whether selection for port `n` finds a queue's head copy ready (R359, R453): one of another port's, held or not, is found too, and
then moves (R357). (DEDUCED, log entry 46) -/
def Dev.queueReady (d : Dev) (n : Nat) (l : List Copy) : Bool :=
  match l with
  | [] => false
  | c :: _ => (!c.held || c.port ≠ n) && d.gateAllows n c.cls (d.lenOf c.desc) && !bitOf (d.xoffRx n) (wirePri n c.cls) &&
    (n ≠ 32 || (d.puntRings c.cls).all d.ringPosted)

/-- What selection chooses from: a key for its deficit and turn, whether it is committed, PRIO and WEIGHT. -/
structure Cand where
  key : Nat
  comm : Bool
  prio : Nat
  weight : Nat
  deriving DecidableEq, Repr

/-- Keys of deficits: queues and orphan queues by their number, nodes from 524,288. -/
def nodeKey (k : Nat) : Nat := 524288 + k

def Dev.nodeCand (d : Dev) (k : Nat) : Cand :=
  { key := nodeKey k, comm := d.committed k, prio := d.fld SHAP.SCHED_PRIO k, weight := d.fld SHAP.SCHED_WEIGHT k }

/-- The queues under port `n` that are ready. -/
def Dev.readyQueues (d : Dev) (n : Nat) : List Nat :=
  (d.sw.queues.filter fun q => decide (q.1 < 262144) && d.chainPort (q.1 / 8) = n && d.queueReady n q.2).map (·.1)

/-- The eligible subscribers and services of port `n`, and what its port node chooses from. -/
def Dev.readySubs (d : Dev) (n : Nat) : List Nat := (((d.readyQueues n).map (· / 8)).eraseDups).filter d.peakOk
def Dev.readySvcs (d : Dev) (n : Nat) : List Nat :=
  (((d.readySubs n).map d.svcOf).eraseDups).filter fun s => d.peakOk (svcNode s)
def Dev.portCands (d : Dev) (n : Nat) : List Cand :=
  ((d.readySvcs n).map fun s => d.nodeCand (svcNode s)) ++
    (if d.queueReady n (d.queue (orphanOf n)) then [{ key := orphanOf n, comm := false, prio := 7, weight := 1 }] else [])

/-- The candidates that may be chosen: committed ones if there are any, of the lowest PRIO (R360). -/
def bestOf (l : List Cand) : List Cand :=
  let l := if l.any (·.comm) then l.filter (·.comm) else l
  match (l.map (·.prio)).min? with
  | some p => l.filter fun c => c.prio = p
  | none => []

def Dev.deficitOf (d : Dev) (k : Nat) : Int := d.sw.deficit.get 0 k
def Dev.setDeficit (d : Dev) (k : Nat) (x : Int) : Dev := { d with sw := { d.sw with deficit := d.sw.deficit.set 0 k x } }
def Dev.turnOf (d : Dev) (parent prio : Nat) : Nat := d.sw.turn.get 0 (parent * 8 + prio)
def Dev.setTurn (d : Dev) (parent prio k : Nat) : Dev :=
  { d with sw := { d.sw with turn := d.sw.turn.set 0 (parent * 8 + prio) (k + 1) } }

/-- The candidate after key `k` in rising order, around. -/
def nextCand (l : List Cand) (k : Nat) : Option Cand :=
  let up := l.filter fun c => decide (k < c.key)
  (if up = [] then l else up).foldl (fun (m : Option Cand) c => match m with
    | some x => if c.key < x.key then some c else some x
    | none => some c) none

/-- Deficit round robin (R360): the child that holds the turn keeps it while its deficit is positive; otherwise it
receives WEIGHT × 256 bytes and the turn passes on. (DEDUCED, log entry 46) -/
def Dev.robin (fuel : Nat) (d : Dev) (parent : Nat) (l : List Cand) : Dev × Option Cand :=
  match fuel, l with
  | 0, _ => (d, l.head?)
  | _, [] => (d, none)
  | n + 1, c0 :: _ =>
    let turn := d.turnOf parent c0.prio
    match (l.find? fun c => c.key + 1 = turn), nextCand l (turn - 1) with
    | some c, nx =>
      if 0 < d.deficitOf c.key then (d, some c)
      else
        let d := d.setDeficit c.key (d.deficitOf c.key + (c.weight * 256 : Nat))
        Dev.robin n (d.setTurn parent c.prio ((nx.map (·.key)).getD c.key)) parent l
    | none, some c => Dev.robin n (d.setTurn parent c.prio c.key) parent l
    | none, none => (d, some c0)

/-- A parent's choice among its eligible children. -/
def Dev.choose (d : Dev) (parent : Nat) (l : List Cand) : Dev × Option Cand :=
  Dev.robin (64 * (l.length + 1)) d parent (bestOf l)

/-- A child that is not eligible any more has its deficit set to 0 (R360). -/
def Dev.pruneDeficits (d : Dev) (n : Nat) : Dev :=
  let qs := d.readyQueues n
  let subs := d.readySubs n
  let svcs := d.readySvcs n
  let keep := fun (k : Nat) =>
    if k < 262144 then d.chainPort (k / 8) ≠ n || qs.contains k
    else if k < 524288 then k ≠ orphanOf n || d.queueReady n (d.queue k)
    else if k < 524288 + 32768 then d.chainPort (k - 524288) ≠ n || subs.contains (k - 524288)
    else d.svcPort (k - 524288 - 32768) ≠ n || svcs.contains (k - 524288 - 32768)
  { d with sw := { d.sw with deficit := d.sw.deficit.filter fun p => keep p.1 } }

/-- The shaping length of a copy of `len` bytes at port `n` (R361). -/
def Dev.shapeLen (d : Dev) (n len : Nat) : Nat :=
  max 1 ((len : Int) + signedOf (d.num SHAP.LEN_ADJ (portNode n) % 256) 8).toNat

/-- A child has sent a copy: its deficit falls, and when it is used up it receives its quantum and the turn passes. -/
def Dev.spend (d : Dev) (parent : Nat) (l : List Cand) (c : Cand) (len : Nat) : Dev :=
  let x := d.deficitOf c.key - (len : Int)
  if 0 < x then d.setDeficit c.key x
  else (d.setDeficit c.key (x + (c.weight * 256 : Nat))).setTurn parent c.prio
    (((nextCand (bestOf l) c.key).map (·.key)).getD c.key)

/-- What a port's selection has chosen: the queue, and the children chosen on the way with their parents. -/
structure Pick where
  queue : Nat
  path : List (Nat × List Cand × Cand)

/-- The choice from the port node down to a queue. (DEDUCED, log entry 46) -/
def Dev.descend (d : Dev) (n : Nat) : Dev × Option Pick :=
  let ports := d.portCands n
  let (d, c1) := d.choose (portNode n) ports
  match c1 with
  | none => (d, none)
  | some c1 =>
    if c1.key = orphanOf n then (d, some { queue := c1.key, path := [(portNode n, ports, c1)] }) else
    let svc := c1.key - 524288 - 32768
    let subs := ((d.readySubs n).filter fun s => d.svcOf s = svc).map d.nodeCand
    let (d, c2) := d.choose (svcNode svc) subs
    match c2 with
    | none => (d, none)
    | some c2 =>
      let sub := c2.key - 524288
      let qs := ((d.readyQueues n).filter fun q => q / 8 = sub).map fun q =>
        ({ key := q, comm := false, prio := d.fld (TMGR.QCFG_PRIO.ix (q % 8)) sub,
           weight := d.fld (TMGR.QCFG_WEIGHT.ix (q % 8)) sub } : Cand)
      let (d, c3) := d.choose sub qs
      match c3 with
      | none => (d, none)
      | some c3 =>
        (d, some { queue := c3.key, path := [(portNode n, ports, c1), (svcNode svc, subs, c2), (sub, qs, c3)] })

/-- The choice in order of arrival, for a disabled TMGR (R372): the ready head that was queued first.
(DEDUCED, log entry 46) -/
def Dev.oldest (d : Dev) (n : Nat) : Option Nat :=
  let l := d.sw.queues.filter fun q => d.queueReady n q.2 &&
    (match q.2 with | c :: _ => decide (c.port = n) | [] => false)
  let seqOf : Nat × List Copy → Nat := fun q => match q.2 with | c :: _ => c.seq | [] => 0
  (l.foldl (fun (m : Option (Nat × List Copy)) (q : Nat × List Copy) => match m with
    | some x => if (seqOf q : Nat) < seqOf x then some q else some x
    | none => some q) none).map (·.1)

/-- The blocks of a frame that lie in packet memory are read; a block that still waits in the spill write queue is not there yet.
(DEDUCED, log entry 69) -/
def Dev.blocksRead (d : Dev) (k : Nat) : Dev :=
  match d.frame k with
  | some f => (d.chainOf chainFuel f.fpool f.first).foldl (fun (d : Dev) u =>
      if u / 2 ^ 22 = 1 && !(d.sw.spillq.any fun b => b.1 = u % 2 ^ 22) then d.blockAccess (u % 2 ^ 22) 0x1C0 else d) d
  | none => d

/-- The head of a queue goes to its port's staging area (R346). (DEDUCED, log entry 46) -/
def Dev.stageCopy (d : Dev) (n q : Nat) : Dev :=
  match d.queue q with
  | [] => d
  | c :: r =>
    let tag := match d.frame c.desc with | some f => f.tag | none => none
    let d := ((d.perf 22 0x180).crossed 22 10 tag c.desc (n + q * 64)).blocksRead c.desc
    let d := (d.setQueue q r).setNum TMGR.COPY_FREE (d.num TMGR.COPY_FREE + 1)
    (d.setStaged n (d.stagedOf n ++ [{ copy := c, queue := q }])).drainAll

/-- A selection for port `n` (R359, R360). A head that belongs to another port moves to that port's orphan queue, and the
choice is made again (R357). A copy that staging has no room for stays. (DEDUCED, log entry 46) -/
def Dev.selectLoop (fuel : Nat) (d : Dev) (n : Nat) : Dev :=
  match fuel with
  | 0 => d
  | m + 1 =>
    let e := d.pruneDeficits n
    let (e, pick) := if d.enabled 0x48 then (if d.peakOk (portNode n) then e.descend n else (e, none))
      else (e, (d.oldest n).map fun q => { queue := q, path := [] })
    match pick with
    | none => e
    | some p =>
      match e.queue p.queue with
      | [] => e
      | c :: r =>
        if c.port ≠ n then
          Dev.selectLoop m ((d.setQueue p.queue r).misplaced c) n
        else if 12288 < e.stagedBytes n + e.lenOf c.desc ∧ e.stagedOf n ≠ [] then d
        else
          let len := e.shapeLen n (e.lenOf c.desc)
          let e := p.path.foldl (fun e (parent, l, ch) => e.spend parent l ch len) e
          let e := p.path.foldl (fun e (_, _, ch) =>
            if ch.key < 524288 then e else e.chargeNode (ch.key - 524288) len ch.comm) e
          let e := if d.enabled 0x48 then e.chargeNode (portNode n) len false else e
          (e.stageCopy n p.queue).pruneDeficits n

/-- SELECTION (R359). -/
def execSelection (port : Nat) (s : State) : Host.Outcome State Fault Refusal :=
  s.run fun d => d.when (decide (port < 34) && d.portUp port) fun d => d.selectLoop (d.sw.copySeq + 1) port

/-! ### The gates' events (R360, R366, R367) -/

/-- GATE_ENTRY (R366): a child whose gate has closed starts again with a deficit of 0 (R360). -/
def execGateEntry (port : Nat) (s : State) : Host.Outcome State Fault Refusal :=
  s.run fun d => (d.gateEntry (port % 34)).pruneDeficits (port % 34)

/-- GATE_LIST_SWAP (R367). -/
def execGateListSwap (port : Nat) (s : State) : Host.Outcome State Fault Refusal :=
  s.run fun d => (d.gateSwap (port % 34)).pruneDeficits (port % 34)

/-! ### Sampling (R370, R371) -/

/-- The port that a queue's copies leave by, for its class's pause and gate. -/
def Dev.samplePort (d : Dev) (q : Nat) : Nat :=
  match d.queue q with | c :: _ => c.port | [] => d.chainPort (q / 8)

/-- Whether a head copy's stamp and the sample's lie on one time scale: it was admitted after the last step (R370). -/
def Dev.sameScale (d : Dev) (f : Frame) : Bool :=
  d.sw.stepMs = 0 || decide (d.sw.stepMs + (d.upMs + 2 ^ 24 - f.admitMs) % 2 ^ 24 < d.upMs)

/-- A queue's sample now: DLY_VALID, DEPTH, FRAMES, DELAY and the whole entry. -/
def Dev.sampleOf (d : Dev) (q : Nat) : Bool × Nat × Nat × BitVec 224 :=
  let l := d.queue q
  let n := d.samplePort q
  let cls := q % 8
  let depth := min 0xFFFFFFFF ((l.map fun c => d.lenOf c.desc).sum)
  let head := match l with | c :: _ => d.frame c.desc | [] => none
  let valid := match head with | some f => d.sameScale f | none => false
  let delay := match head with
    | some f => min 0xFFFFFFFF (d.islandNs 22 - f.stamp)
    | none => 0
  let v := (d.stamp 22).toNat + d.num TIME.GEN % 16 * 2 ^ 64 + bit valid * 2 ^ 68 + bit (bitOf (d.xoffRx n) (wirePri n cls)) * 2 ^ 69
    + bit (!bitOf (d.gatesOpen n) cls) * 2 ^ 70 + depth * 2 ^ 72 + l.length % 2 ^ 21 * 2 ^ 104 + delay * 2 ^ 128
  (valid, depth, delay, BitVec.ofNat 224 v)

/-- The sampler visits a queue: it overwrites its entry, and a queue that crosses an alert condition is reported
(R370, R371). -/
def Dev.sampleQueue (d : Dev) (ue : Guard) : Dev :=
  if !d.on TMGR.SAMPLE_CFG_EN || !periodDue d.sw.sampledAt 32 d.clk.up then d else
  let q := d.sw.sampler % 262144
  let d := d.guarded 22 10 q ue
  let cls := q % 8
  let (valid, depth, delay, bits) := d.sampleOf q
  let dth := d.num (TMGR.DLY_TH.ix cls) * 1000
  let pth := d.num (TMGR.DEPTH_TH.ix cls) * 1024
  let late := valid && dth ≠ 0 && decide (dth ≤ delay)
  let deep := pth ≠ 0 && decide (pth ≤ depth)
  let was := match d.sw.samples.get none q with | some x => x.alert | none => false
  let d := { d with sw := { d.sw with sampler := (q + 1) % 262144,
                                      sampledAt := some (periodAt d.sw.sampledAt 32 d.clk.up),
                                      samples := d.sw.samples.set none q (some { bits := bits, alert := late || deep }) } }
  if (late || deep) && !was then
    ((d.bump TMGR.ALERTS).raise TMGR.int_QUEUE_ALERT).log 22 0x4801 q (bit late + 2 * bit deep) depth delay
  else if !(late || deep) && was then d.log 22 0x4802 q
  else d

/-- QUEUE_SAMPLE (R370). -/
def execQueueSample (ue : Guard) (s : State) : Host.Outcome State Fault Refusal := s.run fun d => d.sampleQueue ue

/-! ### SOFT_RESET (R372 to R375) -/

/-- SHAP: every bucket is full and every deficit 0. -/
def Dev.softShap (d : Dev) : Dev := { d with sw := { d.sw with buckets := [], deficit := [] } }

/-- POLC: every bucket is full. -/
def Dev.softPolc (d : Dev) : Dev := { d with sw := { d.sw with polic := [] } }

end Sys2Proof.Machine
end

