-- ==== Sys2Proof/Machine/Egress.lean ====
section
/-! DEFINITION. Egress of the switch core (R343 to R347): transmission and its ends, copies held for a port that is down or
for a priority in storm, their release and their flush. -/

namespace Sys2Proof.Machine

/-! ### The hold account (R344) -/

/-- The unfinished copies of a frame that are held, and whether all of them are. -/
def Dev.heldCopies (d : Dev) (k : Nat) : Nat :=
  (d.sw.queues.map fun q => (q.2.filter fun c => c.desc = k && c.held).length).sum

/-- A frame's charge stands in the hold account while all its unfinished copies are held. -/
def Dev.rehold (d : Dev) (k : Nat) : Dev :=
  match d.frame k with
  | none => d
  | some f =>
    let n := d.heldCopies k
    let f := { f with held := decide (0 < n) }
    let d := d.setFrame k f
    let all := decide (0 < f.refs) && n = f.refs
    if all && !f.onHold then
      ((d.setFrame k { f with onHold := true }).uncharge f.req f.pri f.charge).bump SWCR.HOLD_UNITS 0 f.charge
    else if !all && f.onHold then
      ((d.setFrame k { f with onHold := false }).setNum SWCR.HOLD_UNITS (d.num SWCR.HOLD_UNITS - f.charge)).charge f.req f.pri f.charge
    else d

/-- A copy is finished: REFS falls, and at 0 the frame is freed with a cause of R348 (R343). -/
def Dev.finishCopy (d : Dev) (k cause : Nat) : Dev :=
  match d.frame k with
  | none => d
  | some f =>
    if f.refs ≤ 1 then d.releaseFrame k cause
    else (d.setFrame k { f with refs := f.refs - 1 }).rehold k

/-- A held copy is flushed (R345). -/
def Dev.flushCopy (d : Dev) (c : Copy) : Dev :=
  (((d.disc 12).bump SWCR.FLUSHED c.port).raise SWCR.int_FLUSH).finishCopy c.desc 2

/-- A copy leaves its queue and its entry is free again. -/
def Dev.dropCopies (d : Dev) (p : Copy → Bool) : Dev × List Copy :=
  let out := d.sw.queues.flatMap fun q => q.2.filter p
  let queues := (d.sw.queues.map fun q => (q.1, q.2.filter fun c => !p c)).filter fun q => q.2 != []
  ({ d with sw := { d.sw with queues := queues } }.setNum TMGR.COPY_FREE (d.num TMGR.COPY_FREE + out.length), out)

/-- Every copy that answers `p` is flushed, in queue order. -/
def Dev.flushWhere (d : Dev) (p : Copy → Bool) : Dev :=
  let (d, out) := d.dropCopies p
  (out.foldl Dev.flushCopy d).drainAll

/-- Whether a copy belongs to a hold: that of a port, or of some classes of it. -/
def holdCovers (port mask : Nat) (c : Copy) : Bool := c.port = port && bitOf mask c.cls

/-- The key of a hold: that of the port's link, or of a priority in storm. -/
def holdKey (port : Nat) (pri : Option Nat) : Nat := 9 * port + (match pri with | some p => 1 + p % 8 | none => 0)
def Dev.holdAt (d : Dev) (port : Nat) (pri : Option Nat) : Option Nat := d.sw.hold.get none (holdKey port pri)
def Dev.setHold (d : Dev) (port : Nat) (pri : Option Nat) (x : Option Nat) : Dev :=
  { d with sw := { d.sw with hold := d.sw.hold.set none (holdKey port pri) x } }

/-- The classes that a hold covers. -/
def Dev.holdMask (d : Dev) (port : Nat) (pri : Option Nat) : Nat :=
  match pri with | some p => d.classMask port p | none => 0xFF

/-- A hold begins: the queued copies it covers are marked held, those staged but not started go back to the heads of their
queues, and with HOLD_MS = 0 all are flushed at once (R344, R345). -/
def Dev.holdBegin (d : Dev) (port : Nat) (pri : Option Nat) : Dev :=
  let mask := d.holdMask port pri
  let back := (d.stagedOf port).filter fun t => !t.started && bitOf mask t.copy.cls
  let d := d.setStaged port ((d.stagedOf port).filter fun t => t.started || !bitOf mask t.copy.cls)
  let d := back.reverse.foldl (fun d t =>
    (d.setQueue t.queue (t.copy :: d.queue t.queue)).setNum TMGR.COPY_FREE (d.num TMGR.COPY_FREE - 1)) d
  let hit := (d.sw.queues.flatMap fun q => q.2.filter (holdCovers port mask)).map (·.desc)
  let d := { d with sw := { d.sw with queues := d.sw.queues.map fun q =>
    (q.1, q.2.map fun c => if holdCovers port mask c then { c with held := true } else c) } }
  let d := hit.eraseDups.foldl Dev.rehold d
  if d.fld SWCR.HOLD_CFG_HOLD_MS port = 0 then (d.flushWhere (holdCovers port mask)).evalAll
  else
    let d := if hit = [] then d else d.raise SWCR.int_HOLD_START
    (d.setHold port pri (some d.clk.up)).evalAll

/-- A hold runs out or is ended at once: every copy it holds is flushed (R345). -/
def Dev.holdFlush (d : Dev) (port : Nat) (pri : Option Nat) : Dev :=
  match d.holdAt port pri with
  | none => d
  | some _ =>
    let mask := d.holdMask port pri
    (d.setHold port pri none).flushWhere fun c => c.held && holdCovers port mask c

/-- A held copy may be released: its residence does not exceed RES_LIMIT of its class, which is not 0 (R345, R354). -/
def Dev.releasable (d : Dev) (c : Copy) : Bool :=
  let lim := d.num (SWCR.RES_LIMIT.ix c.cls)
  match d.frame c.desc with
  | some f => lim ≠ 0 && decide ((d.upMs + 2 ^ 24 - f.admitMs) % 2 ^ 24 ≤ lim)
  | none => false

/-- The port is back, or the storm has ended: within HOLD_MS the copies that are young enough are released in order, the
others are flushed (R345). -/
def Dev.holdRelease (d : Dev) (port : Nat) (pri : Option Nat) : Dev :=
  match d.holdAt port pri with
  | none => d
  | some t =>
    if d.fld SWCR.HOLD_CFG_HOLD_MS port * 10000000 < d.clk.up - t then d.holdFlush port pri else
    let mask := d.holdMask port pri
    let mine := fun (c : Copy) => c.held && holdCovers port mask c
    let d := (d.setHold port pri none).flushWhere fun c => mine c && !d.releasable c
    let out := (d.sw.queues.flatMap fun q => q.2.filter mine)
    let d := { d with sw := { d.sw with queues := d.sw.queues.map fun (q : Nat × List Copy) =>
      (q.1, q.2.map fun c => if mine c then { c with held := false } else c) } }
    ((out.map (·.desc)).eraseDups.foldl Dev.rehold (d.bump SWCR.RELEASED port out.length)).evalAll

/-- HOLD_EXPIRY (R345): HOLD_MS has passed for a port, or for a priority in storm. -/
def execHoldExpiry (port : Nat) (pri : Option Nat) (s : State) : Host.Outcome State Fault Refusal :=
  s.run fun d =>
    match d.holdAt port pri with
    | some t => d.when (decide (d.fld SWCR.HOLD_CFG_HOLD_MS port * 10000000 ≤ d.clk.up - t)) fun d =>
        (d.holdFlush port pri).evalAll
    | none => d

/-- Every hold of a port is flushed at once (R345). -/
def Dev.flushPort (d : Dev) (port : Nat) : Dev :=
  let d := d.holdFlush port none
  (d.each 8 fun d p => d.holdFlush port (some p)).evalAll

/-- SOFT_RESET of SWCR flushes every held copy (R345, R353). -/
def Dev.softSwcr (d : Dev) : Dev := d.each 34 Dev.flushPort

/-! ### Transmission (R346, R347) -/

/-- The frame that a copy sends on its port: edited for PTP on a line port (R124, R125), with its FCS. -/
def Dev.wireBytes (d : Dev) (f : Frame) (port start16 : Nat) : List Byte × Bool × Bool :=
  if port < 32 then d.ptpEdit port start16 (if f.ingress < 32 then some f.fine else none) f.bytes
  else (f.bytes, false, false)

/-- Whether a staged copy may start: the partner does not pause its priority (R139), and its gate stays open long enough (R368). -/
def Dev.mayStart (d : Dev) (port : Nat) (t : Tx) : Bool :=
  !bitOf (d.xoffRx port) (wirePri port t.copy.cls) && d.gateAllows port t.copy.cls (d.lenOf t.copy.desc)

/-- The copy that a port starts next: the first staged one that may start. -/
def Dev.nextStart (d : Dev) (port : Nat) : Option Tx :=
  if (d.stagedOf port).any (·.started) then none else (d.stagedOf port).find? (d.mayStart port)

/-- How much of a copy is staged at least when it starts: 224 bytes of one without blocks; of one with blocks the whole, or what
STAGE_NS of transmission at the port rate takes (R346). -/
def Dev.stagedAtStart (d : Dev) (port : Nat) (f : Frame) : Nat :=
  min f.len (if f.spilled then d.fld SWCR.STAGE_CFG_STAGE_NS port * d.rate port / 8 else 224)

/-- The staged copies of a port with one of them changed, or taken out. -/
def replaceTx (l : List Tx) (t : Tx) (x : Option Tx) : List Tx :=
  match l with
  | [] => []
  | a :: r => if a = t then x.toList ++ r else a :: replaceTx r t x

/-- The link entry of unit `n` of a frame's chain reads uncorrectably: the chain ends there, the unit is withheld until start-up, and the
units behind it are left to the audit (R467, kind 2). (DEDUCED, log entry 117) -/
def Dev.linkBad (d : Dev) (f : Frame) (n : Nat) (g : Guard) : Dev :=
  match (d.chainOf chainFuel f.fpool f.first)[n]? with
  | some key =>
    let d := d.guarded 21 2 key g
    if g = .bad then
      let d := d.setLink (key / 2 ^ 22) (key % 2 ^ 22) { d.lnk (key / 2 ^ 22) (key % 2 ^ 22) with next := 0x3FFFFF, npool := 0 }
      { d with sw := { d.sw with badUnits := key :: d.sw.badUnits } }
    else d
  | none => d

/-- What a read for a copy of frame `k` counts, and the cause if it fails: 1 uncorrectable, 2 not staged. A corrected word only counts.
`pool` and `unit` are where a bad word of the frame's data stands (R347, R467). (DEDUCED, log entry 117) -/
def Dev.readFails (d : Dev) (k pool unit : Nat) (x : ReadFail) : Dev × Option Nat :=
  let cause := fun (g : Guard) => if g = .bad then some 1 else none
  match x, d.frame k with
  | .late, _ => (d, some 2)
  | .word w, _ => if oneSymbol w then (d.unitCe pool unit w, none) else (d.unitUe pool unit w, some 1)
  | .link n g, some f => (d.linkBad f n g, cause g)
  | .link _ g, none => (d, cause g)
  | .desc g, _ => (d.guarded 21 2 k g, cause g)
  | .copy g, _ => ((d.guarded 22 10 (d.freeVal.toNat % 2 ^ 24) g).freed, cause g)

/-- The first read for a copy, as the outside says that it went. -/
def Dev.readError (d : Dev) (k : Nat) (failed : Option ReadFail) : Dev × Option Nat :=
  match failed, d.frame k with
  | some x, some f => d.readFails k f.fpool f.first x
  | some x, none => d.readFails k 0 0 x
  | none, _ => (d, none)

/-- A read for a copy has failed before any of its bytes left: the copy is discarded (R347). -/
def Dev.readErr (d : Dev) (port k : Nat) : Dev :=
  (((d.disc 13).bump SWCR.READ_ERR port).raise SWCR.int_READ_ERR).finishCopy k 1

/-- A staged copy starts at its port. A read that fails before the first byte, uncorrectable or not staged, discards the
copy (R347). -/
def Dev.txStart (d : Dev) (port : Nat) (failed : Option ReadFail) : Dev :=
  match d.nextStart port with
  | none => d
  | some t =>
    let (d, cause) := d.readError t.copy.desc failed
    if cause.isSome then
      (d.setStaged port (replaceTx (d.stagedOf port) t none)).readErr port t.copy.desc
    else
      let tag := match d.frame t.copy.desc with | some f => f.tag | none => none
      let d := d.crossed (islandOfPort port) 11 tag t.copy.desc (port + t.queue * 64)
      let ready := match d.frame t.copy.desc with | some f => d.stagedAtStart port f | none => 0
      let t' := { t with started := true, start16 := d.islandFine (islandOfPort port), startUp := d.clk.up, ready := ready }
      d.setStaged port (replaceTx (d.stagedOf port) t (some t'))

/-- COPY_TRANSMIT_START (R346): `failed` says how the first read failed, if it did. -/
def execCopyTransmitStart (port : Nat) (failed : Option ReadFail) (s : State) : Host.Outcome State Fault Refusal :=
  s.run fun d => d.when (decide (port < 34 ∧ port ≠ 32) && d.portUp port) fun d => d.txStart port failed

/-- A copy has run past the closing of its gate, which only a step of the device clock can bring about (R369). -/
def Dev.overrun (d : Dev) (port cls : Nat) (closes : Option Nat) : Dev :=
  if closes.all (d.clk.up ≤ ·) then d
  else ((d.bump GATE.OVERRUNS port).raise GATE.int_OVERRUN).log 22 0x4B02 port cls

/-- The counts of PTP edits, and the transmit stamp that a host frame asked for (R126, R129). -/
def Dev.txPtp (d : Dev) (port : Nat) (f : Frame) (start16 : Nat) (one tc : Bool) : Dev :=
  let d := if one then d.bump PTPS.ONE_STEP_CNT port else d
  let d := if tc then d.bump PTPS.TC_CNT port else d
  match f.stampTag with
  | some tag => if port < 32 then d.queueStamp port tag (stampOf (wholeNs (d.txFine port start16))) else d
  | none => d

/-- A copy has left the port whole. -/
def Dev.txGood (d : Dev) (port : Nat) (t : Tx) (f : Frame) : Dev :=
  let (bs, one, tc) := d.wireBytes f port t.start16
  let d := d.emit (.frame port (withFcs bs) false)
  let d := (d.statGood port 32 (bs.length + 4) bs).perf (islandOfPort port) 0x041
  d.txPtp port f t.start16 one tc

/-- A read failed after `sent` bytes had left: the frame ends there with the inverted CRC of what was sent (R347). `unit` is
the unit that failed, with its pool; cause 1 is an uncorrectable word, 2 a staging miss, which comes behind what was staged at the start
(R346). -/
def Dev.txStomp (d : Dev) (port : Nat) (t : Tx) (f : Frame) (cause pool unit sent : Nat) : Dev :=
  let bs := (d.wireBytes f port t.start16).1.take (if cause = 2 then max sent t.ready else sent)
  let d := d.emit (.frame port (bs ++ leBytes 4 (fcsOf bs ^^^ 0xFFFFFFFF)) true)
  let d := (((d.bump SWCR.STOMPED port).stat port 57).perf (islandOfPort port) 0x041).raise SWCR.int_STOMP
  let d := if cause = 2 then d.bump SWCR.UNDERRUN port else d
  d.log (islandOfPort port) 0x4101 port unit (pool % 2 + cause % 4 * 2)

/-- A copy's transmission ends: whole, stomped by a read that failed, or, where no byte had left, discarded (R347). Pause frames that
waited for it leave next (R139). -/
def Dev.txEnd (d : Dev) (port : Nat) (fail : Option (ReadFail × Nat × Nat × Nat)) : Dev :=
  match (d.stagedOf port).find? (·.started) with
  | none => d
  | some t =>
    match d.frame t.copy.desc with
    | none => (d.setStaged port (replaceTx (d.stagedOf port) t none)).pausesOut port
    | some f =>
      let d := d.setStaged port (replaceTx (d.stagedOf port) t none)
      let ended := fun (d : Dev) => (d.pausesOut port |>.overrun port t.copy.cls t.closes).finishCopy t.copy.desc 0
      match fail with
      | none => ended (d.txGood port t f)
      | some (x, pool, unit, sent) =>
        match d.readFails t.copy.desc (pool % 2) unit x with
        | (d, some cause) =>
          if sent = 0 ∧ (cause = 1 ∨ t.ready = 0) then (d.readErr port t.copy.desc).pausesOut port
          else ended (d.txStomp port t f cause pool unit sent)
        | (d, none) => ended (d.txGood port t f)

/-- COPY_TRANSMIT_END (R343, R347): `fail` gives the cause, pool and index of a unit whose read failed, and the bytes that
had left. -/
def execCopyTransmitEnd (port : Nat) (fail : Option (ReadFail × Nat × Nat × Nat)) (s : State) :
    Host.Outcome State Fault Refusal :=
  s.run fun d => d.when (decide (port < 34 ∧ port ≠ 32)) fun d => d.txEnd port fail

/-- The copy in transmission is cut by the loss of its link (R142, R344). -/
def Dev.cutTx (d : Dev) (port : Nat) : Dev :=
  match (d.stagedOf port).find? (·.started) with
  | none => d
  | some t =>
    let d := d.setStaged port (replaceTx (d.stagedOf port) t none)
    (((d.disc 14).bump SWCR.CUT port).stat port 56).finishCopy t.copy.desc 1

/-- A port leaves UP: the copy in transmission is cut and the queued ones are held (R344); with `now` they are flushed at
once (R345). -/
def Dev.egressDown (d : Dev) (port : Nat) (now : Bool) : Dev :=
  let d := (d.cutTx port).each 8 fun d p => d.setHold port (some p) none
  let d := (d.holdBegin port none).pruneDeficits port
  if now then (d.holdFlush port none).evalAll else d

/-- A port reaches UP: held copies are released or flushed (R345). -/
def Dev.egressUp (d : Dev) (port : Nat) : Dev := d.holdRelease port none

end Sys2Proof.Machine
end

