-- ==== Sys2Proof/Machine/Link.lean ====
section
/-! DEFINITION. Link states of the line ports and of the tandem link (R141 to R147, R407): bring-up, loss, flap damping, the
storm watchdog, and the pause that a port receives. -/

namespace Sys2Proof.Machine

def Dev.port (d : Dev) (p : Nat) : PortSt := d.sw.ports.get {} p
def Dev.setPort (d : Dev) (p : Nat) (x : PortSt) : Dev := { d with sw := { d.sw with ports := d.sw.ports.set {} p x } }

/-- The lanes of a port; the tandem link has T0 to T3, channels 32 to 35 of LANE. -/
def Dev.lanesOf (d : Dev) (p : Nat) : List Nat :=
  if p = 33 then [32, 33, 34, 35] else (List.range (modeLanes (d.mode p))).map (p + ·)

/-- A field of every lane of a port. -/
def Dev.laneFld (d : Dev) (p : Nat) (f : Fld) (v : Nat) : Dev := (d.lanesOf p).foldl (fun d l => d.setFld f v l) d

/-- The status fields of a port. -/
def Dev.setAligned (d : Dev) (p v : Nat) : Dev :=
  if p = 33 then d.setFld TNDM.LINK_STAT_ALIGNED v else d.setFld PORT.PORT_STAT_ALIGNED v p
def Dev.aligned (d : Dev) (p : Nat) : Bool :=
  if p = 33 then d.on TNDM.LINK_STAT_ALIGNED else d.on PORT.PORT_STAT_ALIGNED p
def Dev.setFaults (d : Dev) (p lf rf hb : Nat) : Dev :=
  if p = 33 then ((d.setFld TNDM.LINK_STAT_LOCAL_FAULT lf).setFld TNDM.LINK_STAT_REMOTE_FAULT rf).setFld TNDM.LINK_STAT_HI_BER hb
  else ((d.setFld PORT.PORT_STAT_LOCAL_FAULT lf p).setFld PORT.PORT_STAT_REMOTE_FAULT rf p).setFld PORT.PORT_STAT_HI_BER hb p

def Dev.localFault (d : Dev) (p : Nat) : Bool :=
  if p = 33 then d.on TNDM.LINK_STAT_LOCAL_FAULT else d.on PORT.PORT_STAT_LOCAL_FAULT p

/-- Whether a port negotiates and trains: the tandem link trains and does not negotiate (R407). -/
def Dev.anEn (d : Dev) (p : Nat) : Bool := p ≠ 33 && d.on PORT.PORT_CFG_AN_EN p
def Dev.ltEn (d : Dev) (p : Nat) : Bool := p = 33 || d.on PORT.PORT_CFG_LT_EN p

/-- Whether lanes may run at all: the module is READY and SPORE has not switched them off. -/
def Dev.lanesOn (d : Dev) : Bool :=
  d.sup.phase = .on && d.on TOP.BOOT_STATUS_READY && decide (d.spore.phase < 2) && d.enabled 0x10

/-- Whether a port is administratively up (R141, R149, R150, R407). While LANE.CTRL.ENABLE is 0 every port shows ADMIN_DOWN, as it does
while PORT.CTRL.ENABLE is 0. (DESIGN CHOICE, log entry 49) -/
def Dev.adminUp (d : Dev) (p : Nat) : Bool :=
  d.lanesOn && (if p = 33 then d.enabled 0x58 else d.enabled 0x11 && d.on PORT.PORT_CFG_ADMIN_UP p && d.mode p ≠ 0)

/-- Whether a lane is powered: its port has left down, or a test rate is set for it in no port (R132). -/
def Dev.lanePowered (d : Dev) (l : Nat) : Bool :=
  if 32 ≤ l then d.portState 33 ≠ 0
  else match d.portOfLane l with
    | some p => d.portState p ≠ 0
    | none => d.lanesOn && d.fld LANE.LANE_CFG_TEST_RATE l ≠ 0

/-- Whether a lane's pattern checker runs (R149). -/
def Dev.laneChecks (d : Dev) (l : Nat) : Bool := d.lanePowered l && d.on LANE.PRBS_CFG_CHK_EN l

/-- Whether a line port decodes FEC codewords: it is out of ADMIN_DOWN, in a mode with RS-FEC that FEC_OFF does not switch off (R133). -/
def Dev.fecRuns (d : Dev) (p : Nat) : Bool :=
  p < 32 && d.portState p ≠ 0 &&
    (d.mode p = 3 || decide (5 ≤ d.mode p ∧ d.mode p ≤ 10) || ((d.mode p = 2 || d.mode p = 4) && !d.on PORT.PORT_CFG_FEC_OFF p))

/-- The code of LANE_STAT.RATE for a rate in Gb/s. -/
def rateCode (r : Nat) : Nat := if r = 10 then 1 else if r = 25 then 2 else if r = 50 then 3 else if r = 100 then 4 else 0

/-! ### Penalty (R144) -/

/-- 2^(-2^-i) in units of 2^-32, for i = 1 to 24. (DEDUCED, log entry 51) -/
def halvings : List Nat :=
  [3037000500, 3611622603, 3938502376, 4112874773, 4202935003, 4248701965, 4271771996, 4283353945, 4289156690,
   4292061010, 4293513907, 4294240540, 4294603903, 4294785595, 4294876445, 4294921870, 4294944583, 4294955939,
   4294961618, 4294964457, 4294965876, 4294966586, 4294966941, 4294967119]

/-- A value times 2^(-num ÷ den), rounded down at each of 24 binary places of the exponent's fraction.
(DEDUCED, log entry 51) -/
def decayBy (v num den : Nat) : Nat :=
  let whole := num / den
  let part := num % den * 2 ^ 24 / den
  ((List.range 24).foldl (fun v i => if bitOf part (23 - i) then v * halvings.getD i 0 / 2 ^ 32 else v) v) / 2 ^ whole

/-- The penalty now, in units of 2^-16. (DEDUCED, log entry 51) -/
def Dev.penalty (d : Dev) (p : Nat) : Nat :=
  decayBy (d.port p).pen (d.upMs - (d.port p).penMs) (1000 * max 1 (d.fld PORT.FLAP_CFG_HALF_LIFE p))

/-- The most that the penalty can be, in units of 2^-16. -/
def Dev.penaltyCap (d : Dev) (p : Nat) : Nat :=
  let half := max 1 (d.fld PORT.FLAP_CFG_HALF_LIFE p)
  let secs := 60 * d.fld PORT.FLAP_CFG_MAX_SUPPRESS p
  let reuse := d.fld PORT.FLAP_CFG_REUSE p * 50 * 65536
  let q := secs / half
  if 20 < q ∧ reuse ≠ 0 then 65535 * 65536
  else min (65535 * 65536) (if secs % half = 0 then reuse * 2 ^ q else decayBy (reuse * 2 ^ (q + 1)) (half - secs % half) half)

/-- A transition out of UP, or a drop while suppressed, adds 1,000; at SUPPRESS × 100 the port is suppressed.
(DEDUCED, log entry 51) -/
def Dev.flap (d : Dev) (p : Nat) : Dev :=
  if p = 33 ∨ !d.on PORT.FLAP_CFG_DAMP_EN p then d else
  let pen := min (d.penaltyCap p) (d.penalty p + 1000 * 65536)
  let d := d.setPort p { d.port p with pen := pen, penMs := d.upMs }
  if d.fld PORT.FLAP_CFG_SUPPRESS p * 100 * 65536 ≤ pen ∧ !d.on PORT.FLAP_PENALTY_SUPPRESSED p then
    ((d.setFld PORT.FLAP_PENALTY_SUPPRESSED 1 p).raise PORT.int_SUPPRESS).log (islandOfPort p) 0x1105 p (pen / 65536)
  else d

/-- Suppression ends: a port in SUPPRESSED goes through UP_PENDING. -/
def Dev.unsuppress (d : Dev) (p : Nat) : Dev :=
  let d := d.setFld PORT.FLAP_PENALTY_SUPPRESSED 0 p
  if d.portState p = 6 then (d.setPortState p 4).setPort p { d.port p with pendAt := d.clk.up } else d

/-- FLAP_REUSE (R144): the penalty has fallen below REUSE × 50. -/
def execFlapReuse (port : Nat) (s : State) : Host.Outcome State Fault Refusal :=
  s.run fun d => d.when (d.on PORT.FLAP_PENALTY_SUPPRESSED port &&
    decide (d.penalty port < d.fld PORT.FLAP_CFG_REUSE port * 50 * 65536)) fun d => d.unsuppress port

/-- The penalty that a port has come to is kept, before its decay changes. -/
def Dev.dampSettle (d : Dev) (p : Nat) : Dev := d.setPort p { d.port p with pen := d.penalty p, penMs := d.upMs }

/-- FLAP_CFG has been written: the penalty is held to its new limit, and DAMP_EN = 0 clears it and ends suppression (R144). -/
def Dev.dampWritten (d : Dev) (p : Nat) : Dev :=
  if d.on PORT.FLAP_CFG_DAMP_EN p then d.setPort p { d.port p with pen := min (d.port p).pen (d.penaltyCap p) }
  else (d.setPort p { d.port p with pen := 0, penMs := d.upMs }).unsuppress p

/-! ### Received pause (R138) -/

/-- A priority is released. -/
def Dev.unpause (d : Dev) (port p : Nat) : Dev :=
  (d.setPri port p { d.pri port p with pauseEnd := 0 }).setXoffRx port (d.xoffRx port &&& (0xFF ^^^ d.classMask port p))

/-- A pause time arrives for a priority: zero releases it; during a storm with ACTION = 0 it is ignored (R140). -/
def Dev.rxPause (d : Dev) (port p quanta : Nat) : Dev :=
  let x := d.pri port p
  let x := if quanta = 0 then x else { x with pauseLast := d.clk.up }
  let d := d.setPri port p x
  if quanta = 0 then d.unpause port p
  else if port < 32 && bitOf (d.fld PORT.PORT_STAT_STORM port) p && !bitOf (d.port port).stormDown p then d
  else
    let from_ := if d.clk.up < x.pauseEnd then x.pauseFrom else d.clk.up
    let d := d.setPri port p { x with pauseEnd := d.clk.up + quanta * 5120 / max 1 (d.rate port), pauseFrom := from_ }
    (d.setXoffRx port (d.xoffRx port ||| d.classMask port p)).pruneDeficits port

/-- RECEIVED_PAUSE_EXPIRY (R138). -/
def execReceivedPauseExpiry (port pri : Nat) (s : State) : Host.Outcome State Fault Refusal :=
  s.run fun d => d.when (decide (port < 34 ∧ pri < 8) && decide ((d.pri port pri).pauseEnd ≤ d.clk.up) &&
    (d.pri port pri).pauseEnd ≠ 0) fun d => d.unpause port pri

/-- Every pause received on a port is forgotten. -/
def Dev.clearPauses (d : Dev) (port : Nat) : Dev :=
  (d.each 8 fun d p => d.setPri port p { d.pri port p with pauseEnd := 0, pauseFrom := 0 }).setXoffRx port 0

/-- XOFF_REFRESH (R139): half of XOFF_QUANTA has passed with the priority still in its episode. -/
def execXoffRefresh (port pri : Nat) (s : State) : Host.Outcome State Fault Refusal :=
  s.run fun d => d.when (decide (port < 34 ∧ pri < 8) && bitOf (d.xoffTx port) pri && d.inEpisode port pri &&
    decide ((d.pri port pri).xoffAt + d.xoffQuanta port * 2560 / max 1 (d.rate port) ≤ d.clk.up))
    fun d => d.sendXoff port (1 <<< pri)

/-! ### Storms (R140) -/

/-- Whether frames of a priority have been queued for a port, or staged and not started, without a break since an uptime: while the
priority is paused none of them leaves. -/
def Dev.queuedSince (d : Dev) (port p t : Nat) : Bool :=
  let c := fun (c : Copy) => c.port = port && bitOf (d.classMask port p) c.cls && decide (c.since ≤ t)
  (d.sw.queues.any fun q => q.2.any c) || (d.sw.staged.get [] port).any fun x => !x.started && c x.copy

/-- The port enters storm for a priority. (DEDUCED, log entry 50) -/
def Dev.stormBegin (d : Dev) (port p : Nat) : Dev :=
  let d := d.setFld PORT.PORT_STAT_STORM (d.fld PORT.PORT_STAT_STORM port ||| 1 <<< p) port
  let d := ((d.raise PORT.int_STORM).bump PORT.STORMS port).log (islandOfPort port) 0x1103 port p
  if d.on PORT.STORM_CFG_ACTION port then
    ((d.setPort port { d.port port with stormDown := (d.port port).stormDown ||| 1 <<< p }).holdBegin port (some p)).pruneDeficits port
  else d.setXoffRx port (d.xoffRx port &&& (0xFF ^^^ d.classMask port p))

/-- PFC_STORM (R140): pause has held the priority, and frames of it have been queued, for DETECT ms. -/
def execPfcStorm (port pri : Nat) (s : State) : Host.Outcome State Fault Refusal :=
  s.run fun d => d.when (decide (port < 32 ∧ pri < 8) && d.on PORT.STORM_CFG_STORM_EN port && d.portState port = 5 &&
    !bitOf (d.fld PORT.PORT_STAT_STORM port) pri && decide (d.clk.up < (d.pri port pri).pauseEnd) &&
    decide ((d.pri port pri).pauseFrom + d.fld PORT.STORM_CFG_DETECT port * 10000000 ≤ d.clk.up) &&
    d.queuedSince port pri (d.clk.up - d.fld PORT.STORM_CFG_DETECT port * 10000000)) fun d => d.stormBegin port pri

/-- A storm's marks are taken away, and its end is logged. (DEDUCED, log entry 50) -/
def Dev.stormClear (d : Dev) (port p : Nat) : Dev :=
  if bitOf (d.fld PORT.PORT_STAT_STORM port) p then
    let d := d.setFld PORT.PORT_STAT_STORM (d.fld PORT.PORT_STAT_STORM port &&& (0xFF ^^^ 1 <<< p)) port
    (d.setPort port { d.port port with stormDown := (d.port port).stormDown &&& (0xFF ^^^ 1 <<< p) }).log
      (islandOfPort port) 0x1104 port p
  else d

/-- PFC_STORM_END (R140): no pause has arrived for RESTORE ms. (DEDUCED, log entry 50) -/
def execPfcStormEnd (port pri : Nat) (s : State) : Host.Outcome State Fault Refusal :=
  s.run fun d => d.when (decide (port < 32 ∧ pri < 8) && bitOf (d.fld PORT.PORT_STAT_STORM port) pri &&
    decide ((d.pri port pri).pauseLast + d.fld PORT.STORM_CFG_RESTORE port * 10000000 ≤ d.clk.up))
    fun d => (d.stormClear port pri).holdRelease port (some pri)

/-! ### Going down (R142, R147) -/

/-- A port enters a state; one that begins to negotiate advertises the one ability that matches its MODE, in MODE 2 and 4 with a
request for RS-FEC unless FEC_OFF is 1 (R134). -/
def Dev.enter (d : Dev) (p st : Nat) : Dev :=
  let d := d.setPortState p st
  if st = 2 then d.emit (.basePage p (d.mode p) ((d.mode p = 2 || d.mode p = 4) && !d.on PORT.PORT_CFG_FEC_OFF p)) else d

/-- A frame in reception is cut short: it fails its FCS (R142). -/
def Dev.cutRx (d : Dev) (p : Nat) : Dev :=
  match d.rx p with
  | none => d
  | some x =>
    let d := (d.stat p (if x.bytes.length < 64 then 17 else if x.maxFrame < x.bytes.length then 19 else 15)).perf (islandOfPort p) 0x040
    let d := if x.reason = some 2 then d.stat p 31 else d
    (if x.reason = none ∨ x.reason = some 0 then d.disc 0 else d).rxDrop p x

/-- A transition out of UP: it is recorded and logged, every episode, storm and received pause ends, XOFF states are
dropped without a frame, the frame in reception is cut, and copies are cut or held. With `now` held copies are flushed.
(DEDUCED, log entry 50) -/
def Dev.leaveUp (d : Dev) (p cause : Nat) (now : Bool) : Dev :=
  let d := if p = 33 then d else
    ((d.setNum2 PORT.DOWN_STAMP_LO PORT.DOWN_STAMP_HI (d.stamp (islandOfPort p)).toNat p).bump PORT.LINK_DOWNS p).raise
      PORT.int_LINK_DOWN
  let d := (d.log (islandOfPort p) 0x1101 p cause).flap p
  let d := if p = 33 then d else d.each 8 fun d q => d.stormClear p q
  let d := ((d.clearPauses p).setXoffTx p 0).setPauses p []
  let d := d.each 8 fun d q => d.setPri p q { d.pri p q with epBytes := 0, ignored := false }
  (d.cutRx p).egressDown p now

/-- A port leaves its state for another one that does not forward; its lanes start again. -/
def Dev.leave (d : Dev) (p cause new : Nat) (now : Bool) : Dev :=
  let old := d.portState p
  let d := d.enter p new
  let d := if old = 5 then d.leaveUp p cause now else if old = 6 then ((d.clearPauses p).cutRx p).flap p else (d.clearPauses p).cutRx p
  let d := d.setPort p { d.port p with trained := false, agreed := false }
  (((d.laneFld p LANE.LANE_STAT_TRAINING 0).setAligned p 0).setFld PORT.AN_STAT_AN_DONE 0 p).repaceAll

/-- The state in which a port that is administratively up waits for its partner (R141, R142). -/
def Dev.waitState (d : Dev) (p : Nat) : Nat := if !d.adminUp p then 0 else if d.anEn p then 2 else 1

/-- The registers of a lane that only its analogue parts and its checker know may have counted: the first while the lane is powered,
PRBS_ERR while its checker runs (R149). -/
def Dev.laneCounts (d : Dev) (l : Nat) : Dev :=
  let e := if d.laneChecks l then d.counts (LANE.PRBS_ERR.key 0 l) else d
  if d.lanePowered l then (e.counts (LANE.RX_EQ_STAT.key 0 l)).counts (LANE.TX_EQ_NOW.key 0 l) else e

/-- What the lanes and the decoders of a port may have counted so far. -/
def Dev.portCounts (d : Dev) (p : Nat) : Dev :=
  let e := (d.lanesOf p).foldl Dev.laneCounts d
  if d.fecRuns p then (e.counts (PORT.FEC_CORR_CW.key 0 p)).counts (PORT.FEC_UNCORR_CW.key 0 p) else e

/-- Lanes of a port that is administratively down are powered off. -/
def Dev.lanesOff (d : Dev) (p : Nat) : Dev :=
  (((d.laneFld p LANE.LANE_STAT_SIG_DET 0).laneFld p LANE.LANE_STAT_CDR_LOCK 0).laneFld p LANE.LANE_STAT_ADAPT_DONE 0).laneFld
    p LANE.LANE_STAT_TRAINING 0

/-- A port goes down for an administrative cause (7 of R142), or starts to come up, as its settings now say. -/
def Dev.readmin (d : Dev) (p : Nat) (now : Bool) : Dev :=
  if d.adminUp p then (if d.portState p = 0 then d.enter p (d.waitState p) else d)
  else if d.portState p = 0 then d
  else
    let d := d.portCounts p
    let d := d.setPort p { d.port p with retry := none }
    ((d.leave p 7 0 now).setFaults p 0 0 0).lanesOff p

/-- The lowest cause of a set of down conditions, bit n for cause n (R142). -/
def lowestCause (conds : Nat) : Nat := ((List.range 7).find? fun k => decide (0 < k) && bitOf conds k).getD 0

/-- DOWN_DEB of a port in 0.1 ns: 10 µs for the tandem link (R142, R407). -/
def Dev.downDeb (d : Dev) (p : Nat) : Nat := (if p = 33 then 10 else d.fld PORT.LINK_TIMING_DOWN_DEB p) * 10000

/-- Whether down conditions can have lasted for the debounce time: none was present when the port's lanes aligned, and a loss of CDR
lock alone began when CDR_LOCK_LOST told of it. (DEDUCED, log entry 49) -/
def Dev.debounced (d : Dev) (p conds : Nat) (lanes : List Nat) : Bool :=
  decide ((d.port p).pendAt + d.downDeb p ≤ d.clk.up) &&
    (conds % 128 / 2 ≠ 2 || lanes.any fun l => d.sw.cdrAt.get 0 l = 0 || decide (d.sw.cdrAt.get 0 l - 1 + d.downDeb p ≤ d.clk.up))

/-- Whether the PCS of a port stays aligned, or has aligned, beside the down conditions present: neither signal nor lock nor alignment is
lost, and no negotiation or training is to come first (R141, R142). (DEDUCED, log entry 49) -/
def Dev.pcsHolds (d : Dev) (p conds st : Nat) : Bool :=
  !(bitOf conds 1 || bitOf conds 2 || bitOf conds 3) && (d.port p).retry.isNone &&
    (if 4 ≤ st then !d.anEn p && !d.ltEn p
     else (st = 1 || st = 3) && (!d.anEn p || (d.port p).agreed) && (!d.ltEn p || st = 3))

/-- The PCS of a port that is in DOWN or TRAINING aligns, or loses alignment, which cuts the frame in reception.
(DEDUCED, log entry 49) -/
def Dev.pcsTo (d : Dev) (p : Nat) (on : Bool) : Dev :=
  if on = d.aligned p then d
  else if on then (d.setAligned p 1).repaceAll else ((d.setAligned p 0).cutRx p).repaceAll

/-- Down conditions have lasted for the debounce time: lanes and fault bits show them, and the port leaves UP, UP_PENDING
or SUPPRESSED for DOWN or NEGOTIATING (R142, R143); its MAC goes on receiving while its PCS stays aligned (R141). -/
def Dev.linkLost (d : Dev) (p conds : Nat) (lanes : List Nat) : Dev :=
  if 4 ≤ d.portState p ∧ !d.debounced p conds lanes then d else
  let c := lowestCause conds
  let d := if bitOf conds 1 then lanes.foldl (fun d l => d.setFld LANE.LANE_STAT_SIG_DET 0 l) d else d
  let d := if bitOf conds 2 then lanes.foldl (fun d l => d.setFld LANE.LANE_STAT_CDR_LOCK 0 l) d else d
  let st := d.portState p
  let d := if c = 0 then d else
    let d := if bitOf conds 5 && !d.localFault p then d.emit (.remoteFault p true) else d
    d.setFaults p (bit (bitOf conds 5)) (bit (bitOf conds 6)) (bit (bitOf conds 4))
  let holds := d.pcsHolds p conds st
  if c ≠ 0 ∧ (st = 4 ∨ st = 5 ∨ st = 6) then
    let d := if bitOf conds 4 && p ≠ 33 then d.raise PORT.int_HI_BER else d
    (d.leave p c (d.waitState p) false).pcsTo p holds
  else if c ≠ 0 ∧ (st = 1 ∨ st = 3) then d.pcsTo p holds
  else d

/-! ### Coming up (R141, R143) -/

/-- The partner's signal is detected on the lanes of a port in DOWN: training begins where it is due. -/
def Dev.sigDet (d : Dev) (p : Nat) : Dev :=
  if d.portState p = 1 ∧ (d.port p).retry = none then
    let d := d.laneFld p LANE.LANE_STAT_SIG_DET 1
    if d.ltEn p && (!d.anEn p || (d.port p).agreed) then
      (d.setPortState p 3).laneFld p LANE.LANE_STAT_TRAINING 1
    else d
  else d

/-- SIG_DET (R143). -/
def execSigDet (port : Nat) (s : State) : Host.Outcome State Fault Refusal :=
  s.run fun d => d.when (decide (port < 32 ∨ port = 33)) fun d => d.sigDet port

/-- Negotiation has ended with an ability in common. (DEDUCED, log entry 49) -/
def Dev.anDone (d : Dev) (p : Nat) : Dev :=
  if d.portState p = 2 ∧ (d.port p).retry = none then
    let d := (d.setFld PORT.AN_STAT_AN_DONE 1 p).setFld PORT.AN_STAT_NO_COMMON 0 p
    let d := d.setPort p { d.port p with agreed := true }
    if d.ltEn p then (d.setPortState p 3).laneFld p LANE.LANE_STAT_TRAINING 1 else d.setPortState p 1
  else d

/-- AN_DONE (R141). -/
def execAnDone (port : Nat) (s : State) : Host.Outcome State Fault Refusal :=
  s.run fun d => d.when (decide (port < 32)) fun d => d.anDone port

/-- Negotiation or training begins again; AN_STAT counts the restart (R146, R150). -/
def Dev.restart (d : Dev) (p : Nat) : Dev :=
  let d := if p = 33 then d else
    (d.setFld ⟨PORT.AN_STAT, 4, 8⟩ (min 255 (d.fld ⟨PORT.AN_STAT, 4, 8⟩ p + 1)) p).setFld PORT.AN_STAT_AN_DONE 0 p
  let d := (d.laneFld p LANE.LANE_STAT_TRAINING 0).pcsTo p false
  (d.setPort p { d.port p with retry := none, agreed := false, trained := false }).enter p (d.waitState p)

/-- A failure of negotiation or training: from the eighth in a row each restart waits 100 ms, doubling up to 10 s (R146).
(DEDUCED, log entry 49) -/
def Dev.bringupFail (d : Dev) (p : Nat) : Dev :=
  let n := (d.port p).fails + 1
  let d := d.setPort p { d.port p with fails := n, agreed := false, trained := false }
  if n < 8 then d.restart p
  else
    let wait := min 10000 (100 * 2 ^ min (n - 8) 8)
    let d := ((d.laneFld p LANE.LANE_STAT_TRAINING 0).pcsTo p false).setPortState p (d.waitState p)
    d.setPort p { d.port p with retry := some (d.clk.up + wait * 10000000) }

/-- AN_FAIL (R146). -/
def execAnFail (port : Nat) (s : State) : Host.Outcome State Fault Refusal :=
  s.run fun d => d.when (decide (port < 32) && d.portState port = 2 && (d.port port).retry = none) fun d =>
    ((d.setFld PORT.AN_STAT_NO_COMMON 1 port).raise PORT.int_AN_FAIL).bringupFail port

/-- LT_FAIL (R146): a lane's training and adaptation have not converged, which ADAPT_FAIL tells of too (R149).
(DEDUCED, log entry 49) -/
def execLtFail (port : Nat) (s : State) : Host.Outcome State Fault Refusal :=
  s.run fun d => d.when (decide (port < 32 ∨ port = 33) && d.portState port = 3) fun d =>
    ((if port = 33 then d else d.setFld PORT.AN_STAT_LT_FAIL 1 port).raise LANE.int_ADAPT_FAIL).bringupFail port

/-- AN_BACKOFF_EXPIRY (R146). (DEDUCED, log entry 49) -/
def execAnBackoffExpiry (port : Nat) (s : State) : Host.Outcome State Fault Refusal :=
  s.run fun d =>
    match (d.port port).retry with
    | some t => d.when (decide (t ≤ d.clk.up)) fun d => d.restart port
    | none => d

/-- A write of AN_RESTART (R147, R150). (DEDUCED, log entry 49) -/
def Dev.anRestart (d : Dev) (p : Nat) : Dev :=
  if !d.on PORT.PORT_CFG_ADMIN_UP p then d else
  let d := d.setPort p { d.port p with fails := 0, retry := none }
  if !d.anEn p ∨ d.portState p = 0 then d
  else if 4 ≤ d.portState p then (d.leave p 7 2 false).restart p else d.restart p

/-- AN_RESTART (R150). -/
def execAnRestart (port : Nat) (s : State) : Host.Outcome State Fault Refusal :=
  s.act fun d => d.access 0x11 fun d => d.anRestart (port % 32)

/-- The PCS aligns with no fault present, after whatever negotiation and training are due (R143). -/
def Dev.upPending (d : Dev) (p : Nat) : Dev :=
  let st := d.portState p
  let ok := (st = 1 || st = 3) && (d.port p).retry = none && (!d.anEn p || (d.port p).agreed) && (!d.ltEn p || st = 3)
  if !ok then d else
  let d := (((d.laneFld p LANE.LANE_STAT_SIG_DET 1).laneFld p LANE.LANE_STAT_CDR_LOCK 1).laneFld p
    LANE.LANE_STAT_ADAPT_DONE 1).laneFld p LANE.LANE_STAT_TRAINING 0
  let d := if p = 33 then d else d.setFld PORT.AN_STAT_LT_FAIL 0 p
  let d := if d.localFault p then d.emit (.remoteFault p false) else d
  let d := { d with sw := { d.sw with cdrAt := d.sw.cdrAt.filter fun x => !(d.lanesOf p).contains x.1 } }
  let d := ((d.setAligned p 1).setFaults p 0 0 0).setPortState p 4
  (d.setPort p { d.port p with trained := true, pendAt := d.clk.up }).repaceAll

/-- UP_PENDING (R143). -/
def execUpPending (port : Nat) (s : State) : Host.Outcome State Fault Refusal :=
  s.run fun d => d.when (decide (port < 32 ∨ port = 33)) fun d => d.upPending port

/-- The UP_HOLD of a port in ms: 10 for the tandem link (R407). -/
def Dev.upHold (d : Dev) (p : Nat) : Nat := if p = 33 then 10 else d.fld PORT.LINK_TIMING_UP_HOLD p

/-- A port takes copies again: held ones are released or flushed, and XOFF is sent at once for priorities still above
their threshold (R147, R345). -/
def Dev.carry (d : Dev) (p : Nat) : Dev :=
  let d := d.egressUp p
  d.sendXoff p (((List.range 8).map fun q => bit (d.inEpisode p q && d.pausable p q) <<< q).sum)

/-- A port becomes UP (R143, R147). -/
def Dev.becomeUp (d : Dev) (p : Nat) : Dev :=
  let d := (d.setPortState p 5).setPort p { d.port p with fails := 0, retry := none }
  let d := if p = 33 then d else
    ((d.setFld ⟨PORT.AN_STAT, 4, 8⟩ 0 p).setNum2 PORT.UP_STAMP_LO PORT.UP_STAMP_HI (d.stamp (islandOfPort p)).toNat p).raise
      PORT.int_LINK_UP
  let d := d.log (islandOfPort p) 0x1102 p 0
  if d.portUp p then d.carry p else d

/-- UP_HOLD has passed in UP_PENDING: the port becomes UP, or SUPPRESSED while it is damped (R143, R144). -/
def Dev.upHoldEnd (d : Dev) (p : Nat) : Dev :=
  if d.portState p = 4 ∧ (d.port p).pendAt + d.upHold p * 10000000 ≤ d.clk.up then
    if p ≠ 33 && d.on PORT.FLAP_PENALTY_SUPPRESSED p then d.setPortState p 6 else d.becomeUp p
  else d

/-- CDR_LOCK_LOST (R149): a lane loses CDR lock. The debounce of R142 runs from here; LINK_DOWN tells its end. -/
def execCdrLockLost (lane : Nat) (s : State) : Host.Outcome State Fault Refusal :=
  s.run fun d => d.when (decide (lane < 36)) fun d =>
    let d := { d with sw := { d.sw with cdrAt := d.sw.cdrAt.set 0 lane (d.clk.up + 1) } }
    ((d.setFld LANE.LANE_STAT_CDR_LOCK 0 lane).setNum LANE.LOCK_LOSSES (min 0xFFFFFFFF (d.num LANE.LOCK_LOSSES lane + 1))
      lane).raise LANE.int_CDR_LOCK_LOST

/-! ### PORT_CFG (R132, R133, R150) -/

/-- Whether a value of PORT_CFG may be written (R132): [7:1] change only with ADMIN_UP 0 before and after, the lanes of the
mode start at a multiple of their number and belong to no other port, and MODE 9 neither negotiates nor trains. -/
def Dev.portCfgOk (d : Dev) (p w : Nat) : Bool :=
  let old := d.num PORT.PORT_CFG p
  let m := bitsOf w 1 4
  let n := modeLanes m
  let change := decide (old / 2 ≠ w / 2)
  let clash := (List.range 32).any fun q =>
    q ≠ p && decide (0 < modeLanes (d.mode q) ∧ q < p + n ∧ p < q + modeLanes (d.mode q))
  let an := m = 9 && (bitOf w 6 || bitOf w 7)
  decide (m ≤ 10) && (!change || (!bitOf old 0 && !bitOf w 0)) && (m = 0 || (p % n = 0 && !clash)) && !an

/-- A write of PORT_CFG on a path. -/
def Dev.portCfgWrite (d : Dev) (path p : Nat) (w : Word) : Dev :=
  let v := w.toNat % 256
  let old := d.num PORT.PORT_CFG p
  let v := if 10 < bitsOf v 1 4 then setBits v 1 4 (bitsOf old 1 4) else v
  let ok := d.portCfgOk p v
  let d := if 10 < bitsOf w.toNat 1 4 || !ok then d.recErr 0x11 0x40 1 path else d
  if !ok then d else
  let wasMode := d.mode p
  let newMode := bitsOf v 1 4
  let d := if wasMode = newMode then d else ((d.lanesOff p).laneFld p LANE.LANE_STAT_IN_PORT 0).laneFld p LANE.LANE_STAT_RATE 0
  let d := d.setNum PORT.PORT_CFG v p
  let d := if wasMode = newMode then d else
    let d := (d.laneFld p LANE.LANE_STAT_IN_PORT 1).laneFld p LANE.LANE_STAT_RATE (rateCode (modeRate newMode))
    (((d.setPort p { d.port p with fails := 0 }).flushPort p).buffersCommit).repaceAll
  let d := d.setCorr p (modeRate newMode) (!bitOf v 5)
  let down := bitOf old 0 && !bitOf v 0
  let d := d.readmin p down
  if down then d.flushPort p else d

/-- PORT_CFG_WRITE (R132). -/
def execPortCfgWrite (path port : Nat) (w : Word) (s : State) : Host.Outcome State Fault Refusal :=
  s.act fun d => d.access 0x11 fun d => d.portCfgWrite path (port % 32) w

/-- A change of PORT or LANE CTRL.ENABLE, and of TNDM CTRL.ENABLE: every port follows (R142, R149, R150, R407). -/
def Dev.readminAll (d : Dev) : Dev := (d.each 32 fun d p => d.readmin p false).readmin 33 false

/-- SOFT_RESET of PORT (R150): ADMIN_UP is 0 in every port, penalties and storms are cleared, held copies are flushed. -/
def Dev.softPort (d : Dev) : Dev :=
  d.each 32 fun d p =>
    let d := (d.setFld PORT.PORT_CFG_ADMIN_UP 0 p).readmin p true
    let d := d.each 8 fun d q => d.stormClear p q
    ((d.setPort p { d.port p with pen := 0, fails := 0, retry := none }).setFld PORT.FLAP_PENALTY_SUPPRESSED 0 p).flushPort p

/-- SOFT_RESET of LANE (R149): lane settings return to reset, adaptation restarts, and the ports go down and come back. -/
def Dev.softLane (d : Dev) : Dev :=
  let d := d.each 36 Dev.laneCounts
  let d := d.each 36 fun d l => ((d.setFld LANE.LANE_STAT_ADAPT_DONE 0 l |>.setReg LANE.LANE_CFG (LANE.LANE_CFG.rstOf l) l).setReg LANE.TX_EQ (LANE.TX_EQ.rstOf l)
    l).setReg LANE.PRBS_CFG (LANE.PRBS_CFG.rstOf l) l
  (List.range 34).foldl (fun d p =>
    if p ≠ 32 ∧ d.portState p ≠ 0 then d.leave p 7 (d.waitState p) false else d) d

end Sys2Proof.Machine
end

