-- ==== Sys2Proof/Machine/Reception.lean ====
section
/-! DEFINITION. Reception at the ports (R135 to R138, R141, R145, R331, R336, R341): a frame's first byte, its last byte,
and MAC control frames. -/

namespace Sys2Proof.Machine

/-- The priority of R137: the PCP of an outer tag, otherwise DEF_PRI of a line port. -/
def Dev.tagPri (d : Dev) (port : Nat) (bs : List Byte) : Nat :=
  if beAt bs 12 2 = 0x8100 ∨ beAt bs 12 2 = 0x88A8 then byteAt bs 14 / 32
  else if port < 32 then d.fld PORT.MAC_CFG_DEF_PRI port else 0

/-- The accounting priority of R338. -/
def Dev.acctPri (d : Dev) (r tagPri : Nat) : Nat :=
  if r = 33 then tagPri else if r < 32 ∧ d.fcMode r = 2 then tagPri else 0

/-- The pipeline that takes the heads of a port or of a frond's or the host's frames (R331, R408). -/
def Dev.pipeOf (d : Dev) (port : Nat) : Nat := if port = 33 then d.fld TNDM.REPL_CFG_RX_PIPE else port / 8 % 4

/-- A head is offered to a pipeline, after those admitted before it (R331). -/
def Dev.offerHead (d : Dev) (k pipe : Nat) : Dev :=
  { d with sw := { d.sw with heads := d.sw.heads.set [] pipe (d.sw.heads.get [] pipe ++ [k]) } }

/-- Whether data frames of the tandem link are taken (R408). -/
def Dev.tandemTakes (d : Dev) : Bool := d.fld TNDM.STATE_STATE = 4 || d.fld TNDM.STATE_STATE = 5

/-- A frame is discarded at the ingress MAC for want of buffer: pause ignored, or overflow of a priority that is not
pausable; the first of an episode is reported (R145, R341, R407). (DEDUCED, log entry 52) -/
def Dev.pauseIgnored (d : Dev) (port p : Nat) : Dev :=
  let d := (if port < 32 then d.bump PORT.PAUSE_IGN_DISC port else d).disc 2
  if (d.pri port p).ignored then d else
  let d := d.setPri port p { d.pri port p with ignored := true }
  (if port < 32 then d.raise PORT.int_PAUSE_IGNORED else d).log (islandOfPort port) 0x1106 port p

/-- Whether a frame is a MAC control frame (R138). -/
def isControl (bs : List Byte) : Bool := beAt bs 12 2 = 0x8808

/-- Why a frame that would take its first unit now does not, if so, with the discard counted: admission is stopped, or no pause holds
its priority back (R56, R145, R341). -/
def Dev.notTaken (d : Dev) (port p : Nat) : Dev × Option Nat :=
  if d.spore.stopped then ((d.disc 15).bump PWRM.SPORE_DISC_ADM, some 15)
  else if d.inEpisode port p ∧ (!d.pausable port p ∨ d.hrBytes port p < (d.pri port p).epBytes) then
    (d.pauseIgnored port p, some 2)
  else (d, none)

/-- Why a frame whose first bytes arrive now takes no unit, if it takes none, with the discard counted where it is discarded for that
reason: 0 is a port that does not forward (R141), or a MAC control frame, which the MAC itself takes (R138). (DEDUCED, log entry 52) -/
def Dev.judge (d : Dev) (port p : Nat) (bs : List Byte) : Dev × Option Nat :=
  if d.portState port ≠ 5 ∨ isControl bs then (d, some 0)
  else if port = 33 ∧ !d.tandemTakes then ((d.disc 18).bump (TNDM.CNT.ix 9), some 18)
  else d.notTaken port p

/-- The first bytes of a frame arrive at a port whose PCS is aligned: it is judged, and takes its first units (R141, R145,
R336, R341, R408). -/
def Dev.frameStart (d : Dev) (port : Nat) (bs : List Byte) (pick : List Nat) : Dev :=
  if !d.aligned port ∨ (d.rx port).isSome then d else
  let tp := d.tagPri port bs
  let p := d.acctPri port tp
  let (d, why) := d.judge port p bs
  let x : Rx := { reason := why, pri := p, tagPri := tp, maxFrame := d.maxFrame port, inEp := d.inEpisode port p, mac := d.macSet port,
                  fine := d.ingressFine port }
  d.rxBytes port x bs pick

/-- FRAME_START (R336): `pick` names the units that the allocator's bank order chose. -/
def execFrameStart (port : Nat) (bs : List Byte) (pick : List Nat) (s : State) : Host.Outcome State Fault Refusal :=
  s.runRx fun d => d.when (decide (port < 32 ∨ port = 33)) fun d => d.frameStart port bs pick

/-- The MAC's verdict on a whole frame (R135, R148): none when it is good, otherwise the STAT counter that counts it.
(DEDUCED, log entry 52) -/
def macVerdict (bs : List Byte) (maxFrame : Nat) (pcs : Bool) : Option Nat :=
  if pcs then some 20
  else if bs.length < 64 then some (if fcsGood bs then 16 else 17)
  else if maxFrame < bs.length then some (if fcsGood bs then 18 else 19)
  else if fcsGood bs then none else some 15

/-- A frame that the host gets unclassified, for a control frame with an unknown opcode (R138, R454): it takes units like
any other, where none of the reasons to refuse one holds, and goes to the traffic manager for port 32 (R56, R145, R341).
(DEDUCED, log entry 52) -/
def Dev.puntWhole (d : Dev) (port : Nat) (bs : List Byte) (code : Nat) (pick : List Nat) : Dev :=
  let tp := d.tagPri port bs
  let p := d.acctPri port tp
  match d.notTaken port p with
  | (d, some k) => if k = 2 then d.stat port 31 else d
  | (d, none) =>
  let x : Rx := { pri := p, tagPri := tp, maxFrame := d.maxFrame port, inEp := d.inEpisode port p, fine := d.ingressFine port }
  let d := d.rxBytes port x bs pick
  match d.rx port with
  | none => d
  | some x =>
    if x.dead then ((d.disc 16).bump BUFM.OVERRUNS).raise BUFM.int_OVERRUN |>.rxDrop port x
    else
      let (d, tag) := d.tagUnit
      let (d, k) := d.rxAdmit port x (bs.take (bs.length - 4)) fun f =>
        { f with dest := 2 ^ 32, code := code, stage := .ready, tag := tag }
      (d.crossedAt (stampOf (wholeNs x.fine)) (islandOfPort port) 0 tag k).crossed 21 1 tag k

/-- A MAC control frame that has passed the MAC (R138): PAUSE or PFC in the mode `m` of the port is acted on, an unknown opcode is
punted where CTRL_PASS says so, and every other one is discarded and counted. -/
def Dev.macControl (d : Dev) (port : Nat) (m : MacSet) (bs : List Byte) (pick : List Nat) : Dev :=
  let op := beAt bs 14 2
  let vec := if op = 0x0101 then beAt bs 16 2 % 256 else 0
  let d := (d.statGood port 0 bs.length bs).stat port 21
  let d := if op = 1 then d.stat port 22 else d
  let d := d.each 8 fun d p => if bitOf vec p then d.stat port (23 + p) else d
  let da := bs.take 6 = pauseDa
  if da ∧ m.fcMode = 1 ∧ op = 1 then d.rxPause port 0 (beAt bs 16 2)
  else if da ∧ m.fcMode = 2 ∧ vec &&& m.pfcEn ≠ 0 then
    d.each 8 fun d p => if bitOf (vec &&& m.pfcEn) p then d.rxPause port p (beAt bs (18 + 2 * p) 2) else d
  else if op ≠ 1 ∧ op ≠ 0x0101 ∧ m.ctrlPass then d.puntWhole port bs 8 pick
  else (if port < 32 then d.bump PORT.CTRL_BAD port else d).disc 1

/-- A whole MAC control frame arrives at a port whose PCS is aligned, with no frame in reception. (DEDUCED, log entry 52) -/
def Dev.controlFrame (d : Dev) (port : Nat) (bs : List Byte) (pick : List Nat) : Dev :=
  if !d.aligned port || (d.rx port).isSome || !isControl bs then d else
  let d := d.perf (islandOfPort port) 0x040
  match macVerdict bs (d.maxFrame port) false with
  | some k => (d.stat port k).disc 0
  | none => d.macControl port (d.macSet port) bs pick

/-- MAC_CONTROL_FRAME (R138). -/
def execMacControlFrame (port : Nat) (bs : List Byte) (pick : List Nat) (s : State) : Host.Outcome State Fault Refusal :=
  s.runRx fun d => d.when (decide (port < 32 ∨ port = 33)) fun d => d.controlFrame port bs pick

/-- A frame in reception becomes resident and its head is offered (R331). -/
def Dev.admitRx (d : Dev) (port : Nat) (x : Rx) (bs : List Byte) : Dev :=
  let (d, tag) := d.tagUnit
  let d := d.statGood port 0 bs.length bs
  let (d, k) := d.rxAdmit port x (bs.take (bs.length - 4)) fun f => { f with tag := tag }
  let d := (d.crossedAt (stampOf (wholeNs x.fine)) (islandOfPort port) 0 tag k).crossed 21 1 tag k
  d.offerHead k (d.pipeOf port)

/-- A whole frame has been received that is not admitted: what it took is given back, it is counted (R148, R434), and a MAC control
frame that has passed the MAC is acted on (R138). A discard counted at its first byte counts no second time (R350). -/
def Dev.rxEnd (d : Dev) (port : Nat) (x : Rx) (verdict : Option Nat) (pick : List Nat) : Dev :=
  let counted := x.reason.any (· ≠ 0)
  let d := d.rxDrop port x
  let d := if x.reason = some 2 then d.stat port 31 else d
  match verdict with
  | some k => if counted then d.stat port k else (d.stat port k).disc 0
  | none =>
    if isControl x.bytes then d.macControl port x.mac x.bytes pick
    else
      let d := d.statGood port 0 x.bytes.length x.bytes
      if counted then d else if x.reason.isSome then d.disc 0 else ((d.disc 16).bump BUFM.OVERRUNS).raise BUFM.int_OVERRUN

/-- The last bytes of a frame arrive, with its FCS; `pcs` says that it held a PCS error or an uncorrectable codeword
(R135, R331, R336). -/
def Dev.frameAdmit (d : Dev) (port : Nat) (bs : List Byte) (pcs : Bool) (pick : List Nat) : Dev :=
  match d.rx port with
  | none => d
  | some x =>
    let d := (d.rxBytes port x bs pick).perf (islandOfPort port) 0x040
    match d.rx port with
    | none => d
    | some x =>
      let verdict := macVerdict x.bytes x.maxFrame pcs
      if x.reason.isNone && verdict.isNone && !isControl x.bytes && !x.dead then d.admitRx port x x.bytes
      else d.rxEnd port x verdict pick

/-- FRAME_ADMIT (R331). -/
def execFrameAdmit (port : Nat) (bs : List Byte) (pcs : Bool) (pick : List Nat) (s : State) :
    Host.Outcome State Fault Refusal :=
  s.runRx fun d => d.when (decide (port < 32 ∨ port = 33)) fun d => d.frameAdmit port bs pcs pick

end Sys2Proof.Machine
end

