-- ==== Sys2Proof/Machine/Parser.lean ====
section
/-! DEFINITION. Parse graph and fragments (08_parser): the parse of a head, the fragment table and its wait list. -/

namespace Sys2Proof.Machine

/-! ### The parse (R151 to R158) -/

/-- The state of a parse on its way through the graph, and, at its end, its outcome: `act` is the action of R152 and `exc`
the exception code. -/
structure Parse where
  node : Nat
  start : Nat
  level : Nat := 0
  tags : Nat := 0
  /-- Start of the last node visited. -/
  last : Nat := 0
  ext : List Byte := List.replicate 64 0
  layers : List (Option Nat) := List.replicate 8 none
  /-- Start of the last layer recorded. -/
  lastLayer : Nat := 0
  /-- 1 first fragment, 2 later fragment; the level of its header, its key, offset and MF or M flag. -/
  frag : Nat := 0
  fragLevel : Nat := 0
  fragKey : List Byte := []
  fragOff : Nat := 0
  fragMore : Bool := false
  act : Nat := 0
  exc : Nat := 0
  done : Bool := false
  deriving DecidableEq, Repr

/-- A window register of a pipeline's graph memory (R159). -/
def Dev.nodeReg (d : Dev) (pipe node : Nat) (r : Reg) : Nat := d.num r (256 * pipe + node)

/-- The limit that needed bytes meet: 1 beyond DEPTH, 5 beyond the end of the frame, 0 none (R157). -/
def reachOf (depth len : Nat) (need : List Nat) : Nat :=
  if need.any fun b => decide (depth ≤ b) then 1 else if need.any fun b => decide (len ≤ b) then 5 else 0

/-- LEN_SHIFT, signed, as it acts on a length byte (R154). -/
def shiftBy (v s : Nat) : Nat := if 8 ≤ s then v / 2 ^ (16 - s) else v * 2 ^ s

/-- A node is rewritten: it no longer reads uncorrectably (R467). -/
def Dev.nodeMended (d : Dev) (k : Nat) : Dev :=
  if d.look.badNodes.contains k then { d with look := { d.look with badNodes := d.look.badNodes.filter (· ≠ k) } } else d

/-- The action and the next node that a selected value gives (R152, R153). (DEDUCED, log entry 53) -/
def Dev.transition (d : Dev) (pipe node sel : Nat) : Nat × Nat :=
  let hit := (List.range 64).find? fun i =>
    let a := d.nodeReg pipe node (PARS.TRANS_A.ix i)
    let v := d.nodeReg pipe node (PARS.TRANS_V.ix i)
    bitOf a 10 && decide (sel &&& (v / 65536) = v % 65536 &&& (v / 65536))
  match hit with
  | some i => (bitsOf (d.nodeReg pipe node (PARS.TRANS_A.ix i)) 8 2, d.nodeReg pipe node (PARS.TRANS_A.ix i) % 256)
  | none => (bitsOf (d.nodeReg pipe node PARS.NODE_CTRL) 8 2, d.nodeReg pipe node PARS.NODE_CTRL % 256)

/-- The extractions that a node makes at a level: source position, length and destination (R155). -/
def Dev.extractions (d : Dev) (pipe node start level : Nat) : List (Nat × Nat × Nat) :=
  ((List.range 4).map fun e => d.nodeReg pipe node (PARS.EXT.ix e)).filterMap fun x =>
    let len := bitsOf x 8 5
    let lvl := bitsOf x 24 3
    if len ≠ 0 ∧ (lvl = 7 ∨ lvl = level) then some (start + x % 256, len, bitsOf x 16 6) else none

/-- How a node with FRAG4 or FRAG6 classifies its header: kind, offset and flag (R161). (DEDUCED, log entry 53) -/
def fragOf (bs : List Byte) (start : Nat) (v4 : Bool) : Nat × Nat × Bool :=
  let w := beAt bs (start + if v4 then 6 else 2) 2
  let off := if v4 then w % 8192 else w / 8
  let more := if v4 then bitOf w 13 else bitOf w 0
  (if off ≠ 0 then 2 else if more then 1 else 0, off, more)

/-- The key of a fragment, byte-packed as R162 orders it. The IPv6 header is the layer recorded last.
(DEDUCED, log entry 53) -/
def fragKeyOf (bs : List Byte) (start layer : Nat) (v4 : Bool) : List Byte :=
  let at_ := fun i n => (List.range n).map fun k => bs.getD (i + k) 0
  if v4 then 4 :: (at_ (start + 12) 8 ++ at_ (start + 9) 1 ++ at_ (start + 4) 2)
  else 6 :: (at_ (layer + 8) 32 ++ at_ start 1 ++ at_ (start + 4) 4)

/-- One node of a parse. `bs` is the frame without its FCS, `depth` is DEPTH. (DEDUCED, log entry 53) -/
def Dev.parseNode (d : Dev) (pipe depth : Nat) (bs : List Byte) (s : Parse) : Parse :=
  let s := { s with last := s.start }
  if d.look.badNodes.contains (256 * pipe + s.node) then { s with act := 3, exc := 7, done := true } else
  let selR := d.nodeReg pipe s.node PARS.NODE_SEL
  let ctrl := d.nodeReg pipe s.node PARS.NODE_CTRL
  let advR := d.nodeReg pipe s.node PARS.NODE_ADV
  let at_ := s.start + selR % 256
  let wide := bitOf selR 8
  let f4 := bitOf ctrl 12
  let f6 := bitOf ctrl 13 && !f4
  let flags := if f4 then [s.start + 6, s.start + 7] else if f6 then [s.start + 2, s.start + 3] else []
  let lim := reachOf depth bs.length ((if wide then [at_, at_ + 1] else [at_]) ++ flags)
  if lim ≠ 0 then { s with exc := lim, done := true } else
  let sel := if wide then beAt bs at_ 2 &&& (selR / 65536) else byteAt bs at_ &&& (selR / 65536 % 256)
  let (act, next) := d.transition pipe s.node sel
  let (kind, off, more) := if f4 || f6 then fragOf bs s.start f4 else (0, 0, false)
  let act := if kind = 2 then 1 else act
  let goes := decide (act = 0)
  let exts := d.extractions pipe s.node s.start s.level
  let lenAt := s.start + bitsOf advR 8 8
  let lenEn := bitOf advR 28
  let need := (if lenEn then [lenAt] else []) ++ exts.map fun e => e.1 + e.2.1 - 1
  let adv := advR % 256 + if lenEn then shiftBy (byteAt bs lenAt &&& bitsOf advR 16 8) (bitsOf advR 24 4) else 0
  let lim := reachOf depth bs.length need
  let lim := if lim ≠ 0 then lim
    else if goes && decide (depth ≤ s.start + adv) then 1
    else if goes && bitOf ctrl 10 && s.tags = 8 then 2
    else if goes && bitOf ctrl 11 && s.level = 3 then 3 else 0
  if lim ≠ 0 then { s with exc := lim, done := true } else
  let s := { s with ext := exts.foldl (fun x (e : Nat × Nat × Nat) => putAt x e.2.2 ((List.range e.2.1).map fun k => bs.getD (e.1 + k) 0)) s.ext }
  let slot := if s.level = 0 then bitsOf ctrl 16 3 else bitsOf ctrl 20 3
  let s := if bitOf ctrl 23 then { s with layers := s.layers.set slot (some s.start), lastLayer := s.start } else s
  let s := if kind = 0 then s else
    { s with frag := kind, fragLevel := s.level, fragKey := fragKeyOf bs s.start s.lastLayer f4, fragOff := off,
             fragMore := more }
  if goes then
    { s with node := next, start := s.start + adv, tags := s.tags + bit (bitOf ctrl 10), level := s.level + bit (bitOf ctrl 11) }
  else { s with act := act, exc := if act = 2 then 6 else if act = 3 then 7 else 0, done := true }

/-- The parse, at most 32 nodes (R157). (DEDUCED, log entry 53) -/
def Dev.parseLoop (fuel : Nat) (d : Dev) (pipe depth : Nat) (bs : List Byte) (s : Parse) : Parse :=
  match fuel with
  | 0 => { s with exc := 4, done := true }
  | n + 1 =>
    let s := d.parseNode pipe depth bs s
    if s.done then s else Dev.parseLoop n d pipe depth bs s

/-- The parse of a frame in a pipeline; with PARS disabled it ends at the start node with nothing extracted (R170).
(DEDUCED, log entry 53) -/
def Dev.parse (d : Dev) (pipe : Nat) (bs : List Byte) : Parse :=
  let s : Parse := { node := d.parseStart pipe % 256, start := 0 }
  if d.enabled 0x20 then Dev.parseLoop 32 d pipe (d.parseDepth pipe) bs s else { s with act := 1, done := true }

/-- The parse summary (R158). -/
def Parse.summary (s : Parse) : Nat :=
  s.last % 256 + s.tags * 2 ^ 8 + s.level * 2 ^ 12 + s.exc * 2 ^ 14 + s.frag * 2 ^ 17
    + bit (s.frag ≠ 0 && decide (s.fragLevel < s.level)) * 2 ^ 19
    + ((List.range 8).map fun i => bit (s.layers.getD i none).isSome * 2 ^ (20 + i)).sum

/-- The action that an ended parse asks for: 0 classify, 1 punt, 2 discard (R152, R157). -/
def Dev.parseAct (d : Dev) (gen : Nat) (s : Parse) : Nat :=
  if s.exc = 0 then 0 else if s.exc = 6 then 1 else if s.exc = 7 then 2
  else bitsOf (d.numAt gen PARS.LIMIT_ACT) (2 * (s.exc - 1)) 2

/-- The context that a parse leaves. -/
def Parse.ctx (s : Parse) (pipe : Nat) : Ctx :=
  { pipe := pipe, ext := s.ext, layers := s.layers, summary := s.summary, exc := s.exc, fragKey := s.fragKey,
    fragOff := s.fragOff, fragMore := s.fragMore }

/-! ### Punts and discards of a pipeline -/

/-- A frame goes to the host unclassified, with a reason of R454. -/
def Dev.punt (d : Dev) (k reason : Nat) : Dev :=
  d.updFrame k fun f => { f with dest := 2 ^ 32, code := reason, stage := .ready,
                                 ctx := { f.ctx with res := 0, edits := {} } }

/-- What FRAG counts of a pipeline (R171). -/
def Dev.fragCnt (d : Dev) (pipe k : Nat) : Dev := d.bump (FRAG.CNT.ix2 pipe k)

/-- A frame takes the fragment default: discard, or punt (R164). -/
def Dev.fragDefault (d : Dev) (k : Nat) : Dev :=
  match d.frame k with
  | none => d
  | some f => if bitOf (d.numAt f.gen FRAG.FRAG_CFG) 10 then d.punt k 2 else d.discardFrame k 4

/-! ### The fragment table (R162) -/

/-- Whether an entry has ended, as a packet of generation `gen` meets it (R81). -/
def Dev.fragDead (d : Dev) (gen : Nat) (e : FragEntry) : Bool :=
  decide (e.hit + d.fldAt gen FRAG.FRAG_AGE_AGE * 10000000 < d.clk.up) ||
  (match e.ended with | some t => decide (t + d.fldAt gen FRAG.FRAG_AGE_LINGER * 10000000 < d.clk.up) | none => false)

/-- The first key of the set that a fragment key hashes to. -/
def Dev.fragSet (d : Dev) (pipe : Nat) (key : List Byte) : Nat := pipe * 8192 + sipHash d.look.kf key % 1024 * 8

def Dev.fragAt (d : Dev) (i : Nat) : Option FragEntry := d.look.frags.get none i
def Dev.setFrag (d : Dev) (i : Nat) (e : Option FragEntry) : Dev :=
  { d with look := { d.look with frags := d.look.frags.set none i e } }

/-- The way of a set whose entry has a key. -/
def Dev.fragFind (d : Dev) (gen pipe : Nat) (key : List Byte) : Option Nat :=
  ((List.range 8).map fun w => d.fragSet pipe key + w).find? fun i =>
    match d.fragAt i with | some e => e.key = key && !d.fragDead gen e | none => false

/-- The way that an insert takes: that of its key, a free one, or the one whose last hit is oldest. -/
def Dev.fragWay (d : Dev) (gen pipe : Nat) (key : List Byte) : Nat :=
  let ways := (List.range 8).map fun w => d.fragSet pipe key + w
  match d.fragFind gen pipe key with
  | some i => i
  | none =>
    match ways.find? fun i => (match d.fragAt i with | some e => d.fragDead gen e | none => true) with
    | some i => i
    | none =>
      let hitOf : Nat → Nat := fun i => match d.fragAt i with | some e => e.hit | none => 0
      ways.foldl (fun m i => if hitOf i < hitOf m then i else m) (ways.headD 0)

/-- A first fragment inserts its entry, or overwrites the one with its key. -/
def Dev.fragInsert (d : Dev) (gen pipe : Nat) (key data : List Byte) : Dev :=
  let i := d.fragWay gen pipe key
  let full := match d.fragAt i with | some e => e.key ≠ key && !d.fragDead gen e | none => false
  let d := d.setFrag i (some { key := key, data := data, hit := d.clk.up, ended := none })
  let d := d.fragCnt pipe 0
  if full then (d.fragCnt pipe 2).raise FRAG.int_EVICT else d

/-- A later fragment hits its entry, which restarts AGE; the last one starts LINGER. A hit at the very instant at which LINGER ends
keeps the entry (R162). (DEDUCED, log entry 53) -/
def Dev.fragHit (d : Dev) (gen pipe i : Nat) (more : Bool) : Dev :=
  match d.fragAt i with
  | none => d
  | some e =>
    let lasts := match e.ended with
      | some t => if t + d.fldAt gen FRAG.FRAG_AGE_LINGER * 10000000 ≤ d.clk.up then none else some t
      | none => none
    (d.setFrag i (some { e with hit := d.clk.up, ended := if more || lasts.isSome then lasts else some d.clk.up })).fragCnt pipe 1

/-- FRAGMENT_ENTRY_EXPIRY (R162): an entry that has reached LINGER or AGE ends. -/
def execFragmentEntryExpiry (pipe entry : Nat) (s : State) : Host.Outcome State Fault Refusal :=
  s.run fun d =>
    let i := pipe % 4 * 8192 + entry % 8192
    match d.fragAt i with
    | some e => d.when (decide (e.hit + d.fld FRAG.FRAG_AGE_AGE * 10000000 ≤ d.clk.up) ||
        (match e.ended with | some t => decide (t + d.fld FRAG.FRAG_AGE_LINGER * 10000000 ≤ d.clk.up) | none => false))
        fun d => d.setFrag i none
    | none => d

/-! ### The wait list (R164 to R166) -/

def Dev.waitsOf (d : Dev) (pipe : Nat) : List Nat := d.look.waits.get [] pipe
def Dev.setWaits (d : Dev) (pipe : Nat) (l : List Nat) : Dev :=
  { d with look := { d.look with waits := d.look.waits.set [] pipe l } }
def Dev.releasedOf (d : Dev) (pipe : Nat) : List Nat := d.look.released.get [] pipe
def Dev.setReleased (d : Dev) (pipe : Nat) (l : List Nat) : Dev :=
  { d with look := { d.look with released := d.look.released.set [] pipe l } }

/-- Whether a held frame has a fragment key. -/
def Dev.heldKey (d : Dev) (key : List Byte) (k : Nat) : Bool :=
  match d.frame k with | some f => f.ctx.fragKey = key | none => false

/-- The held fragments with a key are released in their order of arrival. -/
def Dev.fragRelease (d : Dev) (pipe : Nat) (key : List Byte) : Dev :=
  let out := (d.waitsOf pipe).filter (d.heldKey key)
  let d := d.setWaits pipe ((d.waitsOf pipe).filter fun k => !d.heldKey key k)
  let d := d.setReleased pipe (d.releasedOf pipe ++ out)
  out.foldl (fun d k => (d.fragCnt pipe 4).updFrame k fun f => { f with stage := .offered }) d

/-- A later fragment that finds no entry is held, or takes the default where the list is full. -/
def Dev.fragHold (d : Dev) (pipe k : Nat) : Dev :=
  if 1024 ≤ (d.waitsOf pipe).length then ((d.fragCnt pipe 6).raise FRAG.int_WAIT_FULL).fragDefault k
  else
    ((d.setWaits pipe (d.waitsOf pipe ++ [k])).fragCnt pipe 3).updFrame k fun f => { f with stage := .waiting d.clk.up }

/-- Whether a held fragment has waited the WAIT_US of its own generation (R164). A frame that is gone waits no more. -/
def Dev.waitOver (d : Dev) (k : Nat) : Bool :=
  match d.frame k with
  | none => true
  | some f =>
    match f.stage with
    | .waiting since => decide (since + bitsOf (d.numAt f.gen FRAG.FRAG_CFG) 0 10 * 10000 ≤ d.clk.up)
    | _ => true

/-- WAIT_TIMEOUT (R164): the first fragment in the list that has waited its WAIT_US takes the default. -/
def Dev.waitTimeout (d : Dev) (pipe : Nat) : Dev :=
  match (d.waitsOf pipe).find? d.waitOver with
  | none => d
  | some k =>
    let d := d.setWaits pipe ((d.waitsOf pipe).erase k)
    if (d.frame k).isSome then (d.fragCnt pipe 5).fragDefault k else d

/-- WAIT_TIMEOUT (R164). (DESIGN CHOICE, log entry 3) -/
def execWaitTimeout (pipe : Nat) (s : State) : Host.Outcome State Fault Refusal := s.run fun d => d.waitTimeout (pipe % 4)

/-- The wait lists of the pipelines of a mask empty at once (R166). -/
def Dev.waitsEmpty (d : Dev) (mask : Nat) : Dev :=
  d.each 4 fun d p =>
    if bitOf mask p then
      (d.waitsOf p).foldl (fun d k => (d.fragCnt p 8).fragDefault k) (d.setWaits p [])
    else d

/-- Every entry of the fragment table is removed and every wait list emptied (R166, R171). -/
def Dev.fragClear (d : Dev) : Dev :=
  let d := d.waitsEmpty 0xF
  { d with look := { d.look with frags := [] } }

/-- What the fragment stage says of a frame that the parser passes: go on, or it has been taken care of (R162 to R164,
R171). -/
def Dev.fragStage (d : Dev) (pipe k : Nat) : Dev × Bool :=
  match d.frame k with
  | none => (d, false)
  | some f =>
    let kind := bitsOf f.ctx.summary 17 2
    let dst := bitsOf (d.numAt f.gen FRAG.FRAG_CFG) 16 6
    let tiny := bitsOf (d.numAt f.gen FRAG.FRAG_CFG) 12 4
    let on := d.enabled 0x21
    if kind = 1 then
      if on then ((d.fragInsert f.gen pipe f.ctx.fragKey ((f.ctx.ext.drop dst).take 4)).fragRelease pipe f.ctx.fragKey, true)
      else (d, true)
    else if kind = 2 then
      if !on then (d.fragDefault k, false)
      else if f.ctx.fragOff < tiny then (((d.fragCnt pipe 7).raise FRAG.int_TINY).discardFrame k 4, false)
      else
        match d.fragFind f.gen pipe f.ctx.fragKey with
        | some i =>
          let data := match d.fragAt i with | some e => e.data | none => []
          ((d.fragHit f.gen pipe i f.ctx.fragMore).updFrame k fun f => { f with ctx := { f.ctx with ext := putAt f.ctx.ext dst data } }, true)
        | none => (d.fragHold pipe k, false)
    else (d, true)

/-- SOFT_RESET of PARS (R170), but for its loader. -/
def Dev.softPars (d : Dev) : Dev :=
  [PARS.LIMIT_ACT, PARS.WR_MASK, PARS.RD_PIPE, PARS.GRAPH_ADDR_LO, PARS.GRAPH_ADDR_HI, PARS.GRAPH_NODES].foldl
    (fun d r => d.setReg r (r.rstOf 0)) d

end Sys2Proof.Machine
end

