-- ==== Sys2Proof/Machine/Sleep.lean ====
section
/-! DEFINITION. Requests for SPORE and the start of entry (R55, R56). -/

namespace Sys2Proof.Machine

def Dev.setSpore (d : Dev) (x : Spore) : Dev := { d with spore := x }

/-- Entry begins: the module is no longer awake with admission held, admission stops, the fragment wait lists and table empty (R56,
R166). (DEDUCED, log entry 37) -/
def Dev.sporeEnter (d : Dev) : Dev :=
  let x : Spore := { d.spore with
    waiting := false, stopped := true, phase := 0, wake := none, run := d.num FENG.RUN % 256, since := d.clk.up,
    warned := d.on PWRM.SUPPLY_STAT_WARN, locked := d.fld TIME.SYNC_STAT_STATE = 2 }
  (((d.setSpore x).setFld PWRM.SLEEP_STAT_STATE 1).setFld PWRM.SLEEP_STAT_HELD 0).fragClear

/-- A request that waits is carried out once neither a commit nor a pause is in progress (R55). -/
def Dev.sporeTry (d : Dev) : Dev :=
  if d.spore.waiting && d.commit.isNone && d.pause.isNone then d.sporeEnter else d

/-- A request for SPORE (R55, R400): it joins one that waits; it is refused before READY, while SPORE is entered, in force or
left, and while a retirement runs. -/
def Dev.sporeRequest (d : Dev) : Dev :=
  if d.spore.waiting then d
  else if !d.on TOP.BOOT_STATUS_READY || d.fld PWRM.SLEEP_STAT_STATE != 0 || d.opState MEMC.RETIRE_STAT = 1 then
    d.raise PWRM.int_SLEEP_REFUSED
  else (d.setSpore { d.spore with waiting := true }).sporeTry

/-- SLEEP_REQ (R55). -/
def execSleepReq (s : State) : Host.Outcome State Fault Refusal := s.act fun d => d.access 0x01 Dev.sporeRequest

/-- SLEEP_N (R55): a falling edge. -/
def execSleepN (s : State) : Host.Outcome State Fault Refusal :=
  s.act fun d => d.when (d.on PWRM.SLEEP_CFG_SLEEP_N_EN) Dev.sporeRequest

end Sys2Proof.Machine
end

