-- ==== Sys2Proof/Machine/Commit.lean ====
section
/-! DEFINITION. Commit and pipeline pause (R77 to R86). -/

namespace Sys2Proof.Machine

/-! ### Staged values -/

/-- The page, the byte offset and the channel of a register key. -/
def keyPage (k : Nat) : Nat := k / 536870912
def keyOff (k : Nat) : Nat := k / 131072 % 4096
def keyChan (k : Nat) : Nat := k % 65536

/-- The packet-scoped pages (R81). -/
def packetPages : List Nat := [0x20, 0x21, 0x28, 0x29, 0x2A, 0x2B, 0x30, 0x31]

/-- A write of a staged register reaches its shadow and makes the page DIRTY (R77). -/
def Dev.stageReg (d : Dev) (r : Reg) (ch : Nat) (v : Word) : Dev :=
  { d with shadow := d.shadow.set none (r.key 0 ch) (some { rst := r.rstOf ch, val := v }),
           dirty := if d.dirty.contains r.page then d.dirty else r.page :: d.dirty }

/-- The island in whose time a staged register takes effect (R81, R82, R90): its lane quad, the switch core or the traffic manager;
9 stands for the four pipelines. -/
def stagedIsland (k : Nat) : Nat :=
  if packetPages.contains (keyPage k) then 9
  else if keyPage k = 0x11 then keyChan k / 4
  else if keyPage k = 0x40 ∨ keyPage k = 0x41 then 21 else 22

/-- Whether a staged value of a commit has taken effect. -/
def CommitSt.active (c : CommitSt) (k : Nat) : Bool :=
  c.applied || if packetPages.contains (keyPage k) then c.pipes else c.switched.contains (stagedIsland k)

/-- The shadow of a staged register: where nothing is staged it equals the active value (R77). -/
def Dev.shadowOf (d : Dev) (r : Reg) (ch : Nat) : Word :=
  match d.shadow.get none (r.key 0 ch) with
  | some x => x.val
  | none => match d.commit with
    | some c => if c.active (r.key 0 ch) then d.reg r ch
                else match c.staged.get none (r.key 0 ch) with | some x => x.val | none => d.reg r ch
    | none => d.reg r ch

/-- One staged value becomes active. -/
def Dev.activate (d : Dev) (k : Nat) (x : Staged) : Dev := { d with regs := d.regs.set x.rst k x.val }

/-- Pages of a scope: page 0 stands for every page. -/
def inScope (page k : Nat) : Bool := page = 0 || k = page

/-- GO is accepted, or refused while a commit is in progress (R79, R80). Page 0 is the global commit.
(DEDUCED, log entry 38) -/
def Dev.commitGo (d : Dev) (path page : Nat) : Dev :=
  if d.commit.isSome then (d.recErr page 0x28 5 path).raise TOP.int_COMMIT_REFUSED
  else
    { d with
      commit := some { tc := wholeUs (d.islandNs 32), path := path % 2, page := if page = 0 then none else some page,
                       staged := d.shadow.filter fun p => inScope page (keyPage p.1),
                       pages := d.dirty.filter fun p => inScope page p, applied := false }
      shadow := d.shadow.filter fun p => !inScope page (keyPage p.1)
      dirty := d.dirty.filter fun p => !inScope page p }

/-- COMMIT_GO (R79). -/
def execCommitGo (path page : Nat) (s : State) : Host.Outcome State Fault Refusal :=
  s.act fun d => d.access page fun d => d.commitGo path page

/-- DISCARD: the shadows of a page, or of every page, take the active values again (R77, R80). -/
def Dev.commitDiscard (d : Dev) (path page : Nat) : Dev :=
  if d.commit.isSome then (d.recErr page 0x28 5 path).raise TOP.int_COMMIT_REFUSED
  else
    { d with shadow := d.shadow.filter fun p => !inScope page (keyPage p.1),
             dirty := d.dirty.filter fun p => !inScope page p }

/-- COMMIT_DISCARD (R77). -/
def execCommitDiscard (path page : Nat) (s : State) : Host.Outcome State Fault Refusal :=
  s.act fun d => d.access page fun d => d.commitDiscard path page

/-- A write of a page's COMMIT: GO and DISCARD together are a reserved encoding (R80). (DEDUCED, log entry 38) -/
def Dev.commitWrite (d : Dev) (path page : Nat) (w : Word) : Dev :=
  if w.getLsbD 16 && w.getLsbD 17 then d.recErr page 0x28 1 path
  else if w.getLsbD 16 then d.commitGo path page
  else if w.getLsbD 17 then d.commitDiscard path page else d

/-! ### The commit instant (R82) -/

/-- The next configuration epoch (R78). -/
def nextEpoch (e : Nat) : Nat := if 0xFFFF ≤ e then 1 else e + 1

/-- A page's EPOCH. -/
def Dev.setEpoch (d : Dev) (page e : Nat) : Dev := d.setNum (COMMIT page) (e % 65536)

/-- The value a register will have once a commit's staged values are active. (DEDUCED, log entry 38) -/
def CommitSt.willBe (c : CommitSt) (d : Dev) (r : Reg) (ch : Nat) : Nat :=
  match c.staged.get none (r.key 0 ch) with | some x => x.val.toNat | none => d.num r ch

/-- What a commit of a port's FC_MODE or PFC_EN does in the old mode: XON, and pause state cleared (R147).
(DEDUCED, log entry 39) -/
def Dev.fcLeave (d : Dev) (c : CommitSt) (port : Nat) : Dev :=
  let mode := bitsOf (c.willBe d PORT.MAC_CFG port) PORT.MAC_CFG_FC_MODE.lo PORT.MAC_CFG_FC_MODE.len
  let en := bitsOf (c.willBe d PORT.PFC_CFG port) PORT.PFC_CFG_PFC_EN.lo PORT.PFC_CFG_PFC_EN.len
  if mode ≠ d.fcMode port then (d.sendXon port 0xFF).clearPauses port
  else if en ≠ d.pfcEn port ∧ mode = 2 then
    let gone := 0xFF ^^^ en
    let d := d.sendXon port gone
    d.each 8 fun d p => if bitOf gone p then d.unpause port p else d
  else d

/-- What is paused afresh in the new mode (R147). (DEDUCED, log entry 39) -/
def Dev.fcEnter (d : Dev) (port : Nat) : Dev :=
  let m := ((List.range 8).map fun p => bit (d.inEpisode port p && d.pausable port p) <<< p).sum
  d.sendXoff port (m &&& (0xFF ^^^ d.xoffTx port))

/-- A policer that has been used is brought up to the instant at its old rates (R365). A shaper's buckets keep their old values until
their next refill as they are (R363). (DEDUCED, log entry 39) -/
def Dev.settleKey (d : Dev) (k : Nat) : Dev :=
  if keyPage k = 0x4A ∧ (d.sw.polic.get none (keyChan k)).isSome then d.setPolic (keyChan k) (d.policNow (keyChan k)) else d

/-- A policer's buckets are clipped to their new sizes (R365). -/
def Dev.clipKey (d : Dev) (k : Nat) : Dev :=
  match decide (keyPage k = 0x4A), d.sw.polic.get none (keyChan k) with
  | true, some b =>
    d.setPolic (keyChan k) { b with c := min b.c (d.num POLC.CBS (keyChan k) * 65536), e := min b.e (d.num POLC.EBS_PBS (keyChan k) * 65536) }
  | _, _ => d

/-- A node whose PARENT changes starts again with a deficit of 0. (DEDUCED, log entry 39) -/
def Dev.reparent (d : Dev) (c : CommitSt) (k : Nat) : Dev :=
  if keyPage k = 0x49 ∧ keyOff k = SHAP.SCHED.off ∧
      bitsOf (c.willBe d SHAP.SCHED (keyChan k)) SHAP.SCHED_PARENT.lo SHAP.SCHED_PARENT.len ≠
        d.fld SHAP.SCHED_PARENT (keyChan k) then
    d.setDeficit (nodeKey (keyChan k)) 0
  else d

/-- The islands whose replicas have reached T_c and that have not switched yet (R82). -/
def Dev.commitDue (d : Dev) (c : CommitSt) : List Nat :=
  (List.range 34).filter fun i => !c.switched.contains i && decide (c.tc ≤ d.islandNs i)

/-- The values that some packet-scoped registers hold, as they stand before a commit changes them. -/
def Dev.beforeOf (d : Dev) (l : SMap (Option Staged)) : SMap (Option Word) :=
  l.filterMap fun p => match p.2 with
    | some x => if packetPages.contains (keyPage p.1) then some (p.1, some (d.regs.get x.rst p.1)) else none
    | none => none

/-- Housekeeping reaches T_c: the epoch advances and the commit is logged (R78, R79). -/
def Dev.commitLog (d : Dev) (c : CommitSt) : Dev :=
  let e := nextEpoch (d.num (COMMIT 0) % 65536)
  let d := c.pages.foldl (fun d p => d.setEpoch p e) (d.setEpoch 0 e)
  let t := (stampOf c.tc).toNat
  (d.setNum2 TOP.COMMIT_STAMP_LO TOP.COMMIT_STAMP_HI t).log 32 0x0002 t (t / 2 ^ 32) (e + c.path * 65536)

/-- T_c on the islands `due`: their staged values take effect (R81, R82), on housekeeping the epoch advances. The packet-scoped
registers follow the first pipeline. (DEDUCED, log entry 39) -/
def Dev.commitApply (d : Dev) (c : CommitSt) (due : List Nat) : Dev :=
  let all := { c with switched := c.switched ++ due }
  let part : SMap (Option Staged) := c.staged.filter fun p => all.active p.1 && !c.active p.1
  let keys := part.map Prod.fst
  let d := (keys.foldl Dev.settleKey d)
  let d := keys.foldl (fun d k => d.reparent c k) d
  let fc := (List.range 32).filter fun p =>
    (part.get none (PORT.MAC_CFG.key 0 p)).isSome || (part.get none (PORT.PFC_CFG.key 0 p)).isSome
  let d := fc.foldl (fun d p => d.fcLeave c p) d
  let old := d.beforeOf part
  let was := if due.contains 32 then d.num (COMMIT 0) % 65536 else c.was
  let d := part.foldl (fun d (p : Nat × Option Staged) => match p.2 with | some x => d.activate p.1 x | none => d) d
  let d := keys.foldl Dev.clipKey d
  let d := { d with commit := some { all with was := was, applied := decide (34 ≤ all.switched.length) } }
  let d := if all.pipes && !c.pipes then { d with prev := (d.cgen + 1, old) :: d.prev, cgen := d.cgen + 1 } else d
  let d := if due.contains 32 then d.commitLog c else d
  let d := fc.foldl Dev.fcEnter d
  d.buffersCommit.evalAll.repaceAll.setCheck

/-- Every island whose own replica has reached T_c switches (R82). -/
def Dev.commitNow (d : Dev) : Dev :=
  match d.commit with
  | some c => if c.applied then d else
    let due := d.commitDue c
    if due.isEmpty then d else d.commitApply c due
  | none => d

/-- COMMIT_INSTANT (R82). -/
def execCommitInstant (s : State) : Host.Outcome State Fault Refusal := s.act Dev.commitNow

/-- Whether a frame has gone past the parser and has not reached the traffic manager. -/
def Frame.inside (f : Frame) : Bool :=
  match f.stage with
  | .offered => false
  | .queued => false
  | _ => true

/-- Descriptors of fragments that have been released and re-enter. -/
def Dev.reentering (d : Dev) : List Nat := (d.look.released.map Prod.snd).flatten

/-- The frames past the parser of some pipelines. (DEDUCED, log entry 39) -/
def Dev.pastParser (d : Dev) (mask : Nat) : List Frame :=
  d.sw.frames.filterMap fun p => match p.2 with
    | some f => if (f.inside || d.reentering.contains p.1) && bitOf mask f.ctx.pipe then some f else none
    | none => none

/-- The generations of the tasks that are not about a packet, which see the registers of their creation (R236), and of the learns
under way, which see those of their packets (R81). -/
def Dev.taskGens (d : Dev) : List Nat :=
  (d.look.learns.flatMap fun p => p.2.map Learn.gen) ++
  (d.eng.tasks.filterMap fun p => p.2.map Task.cgen) ++
    ((d.eng.rings ++ d.eng.wants).flatMap fun p => p.2.map Task.cgen)

/-- COMMIT_DONE (R83): T_c has passed and no packet of an earlier generation is in the packet-scoped pages.
(DEDUCED, log entry 39) -/
def execCommitDone (s : State) : Host.Outcome State Fault Refusal :=
  s.act fun d => match d.commit with
    | some c =>
      if c.applied && (d.pastParser 0xF).all fun f => decide (d.cgen ≤ f.gen) then
        ({ d with commit := none
                  prev := d.prev.filter fun x => d.taskGens.any (· < x.1) }.raise TOP.int_COMMIT_DONE).sporeTry
      else d
    | none => d

/-! ### Pause (R84 to R86) -/

/-- A pause is requested for the pipelines of a mask (R84, R85). (DEDUCED, log entry 40) -/
def Dev.pauseGo (d : Dev) (mask : Nat) : Dev :=
  if d.pause.isSome || !d.on TOP.BOOT_STATUS_READY then d.raise TOP.int_PAUSE_REFUSED
  else
    let d := { d with pause := some { mask := mask % 16, reached := false, since := d.clk.up } }
    (d.setFld TOP.PAUSE_STAT_DRAINING mask).waitsEmpty mask

/-- PAUSE_GO (R84). -/
def execPauseGo (mask : Nat) (s : State) : Host.Outcome State Fault Refusal :=
  s.act fun d => d.access 0 fun d => d.pauseGo (mask % 16)

/-- Whether a pipeline takes no heads. -/
def Dev.pipeHeld (d : Dev) (pipe : Nat) : Bool := match d.pause with | some p => bitOf p.mask pipe | none => false

/-- Whether a reached pause covers the pipelines of a mask (R84). -/
def Dev.pausedFor (d : Dev) (mask : Nat) : Bool :=
  match d.pause with | some p => p.reached && mask &&& p.mask = mask % 16 | none => false

/-- PAUSE_REACHED (R84). -/
def execPauseReached (s : State) : Host.Outcome State Fault Refusal :=
  s.act fun d => match d.pause with
    | some p =>
      if !p.reached && (d.pastParser p.mask).isEmpty then
        let d := { d with pause := some { p with reached := true } }
        ((d.setFld TOP.PAUSE_STAT_DRAINING 0).setFld TOP.PAUSE_STAT_PAUSED p.mask).raise TOP.int_PAUSE_REACHED
      else d
    | none => d

/-- The pipelines resume and the epoch advances (R84). (DEDUCED, log entry 40) -/
def Dev.pauseEnd (d : Dev) (p : PauseSt) : Dev :=
  let e := nextEpoch (d.num (COMMIT 0) % 65536)
  let us := (d.clk.up - p.since) / 10000
  let d := { d with pause := none }.setEpoch 0 e
  let d := ((d.setFld TOP.PAUSE_STAT_DRAINING 0).setFld TOP.PAUSE_STAT_PAUSED 0).setFld TOP.PAUSE_STAT_LAST_US
    (min 0xFFFF us)
  (d.log 32 0x0003 p.mask e us).setCheck

/-- RESUME (R84, R85). -/
def Dev.pauseResume (d : Dev) : Dev :=
  match d.pause with | some p => (d.pauseEnd p).sporeTry | none => d.raise TOP.int_PAUSE_REFUSED

/-- PAUSE_RESUME (R84). -/
def execPauseResume (s : State) : Host.Outcome State Fault Refusal :=
  s.act fun d => d.access 0 Dev.pauseResume

/-- A write of PAUSE_CTRL (R84, R85). (DEDUCED, log entry 40) -/
def Dev.pauseWrite (d : Dev) (path : Nat) (w : Word) : Dev :=
  if w.getLsbD 8 && w.getLsbD 9 then (d.recErr 0 0x414 1 path).raise TOP.int_PAUSE_REFUSED
  else if w.getLsbD 8 then d.pauseGo (w.toNat % 16)
  else if w.getLsbD 9 then d.pauseResume else d

/-- PAUSE_EXPIRED (R86). -/
def execPauseExpired (s : State) : Host.Outcome State Fault Refusal :=
  s.act fun d => match d.pause with
    | some p =>
      if p.since + d.num TOP.PAUSE_LIMIT % 65536 * 10000 ≤ d.clk.up then ((d.pauseEnd p).raise TOP.int_PAUSE_EXPIRED).sporeTry else d
    | none => d

end Sys2Proof.Machine
end

