-- ==== Sys2Proof/Machine/Forward.lean ====
section
/-! DEFINITION. Host tables and learning (R172 to R184, R189, R190). -/

namespace Sys2Proof.Machine

/-! ### Entries (R173) -/

def hostType (e : Nat) : Nat := bitsOf e 76 3
def hostStatic (e : Nat) : Bool := bitOf e 79
def hostLock (e : Nat) : Bool := bitOf e 80
def hostAct (e : Nat) : Nat := bitsOf e 81 2
def hostResult (e : Nat) : Nat := bitsOf e 83 16
def hostAge (e : Nat) : Nat := bitsOf e 99 12

/-- An entry of a type: key, domain, the flags above TYPE, RESULT and AGE. -/
def hostEntry (ty key dom : Nat) (st lock : Bool) (act result age : Nat) : Nat :=
  key % 2 ^ 64 + dom % 4096 * 2 ^ 64 + ty * 2 ^ 76 + bit st * 2 ^ 79 + bit lock * 2 ^ 80 + act * 2 ^ 81 + result % 65536 * 2 ^ 83
    + age % 4096 * 2 ^ 99

/-- Uptime seconds as AGE counts them. -/
def Dev.upSec (d : Dev) : Nat := d.upMs / 1000 % 4096

/-- The bucket of a key: both halves of an IPv6 host route share one (R172, R173). (DESIGN CHOICE, log entry 58) -/
def Dev.hostBucket (d : Dev) (ty dom key : Nat) : Nat :=
  (Config.hostHash d.look.hostKey (key % 2 ^ 128 + dom % 4096 * 2 ^ 128 + ty * 2 ^ 140)).toNat

/-- The keys of the eight ways of a bucket of a pipeline. (DEDUCED, log entry 57) -/
def hostWays (pipe bucket : Nat) : List Nat := (List.range 8).map fun w => pipe * 262144 + bucket * 8 + w

def Dev.hostAt (d : Dev) (i : Nat) : Nat := d.look.hosts.get 0 i
def Dev.setHost (d : Dev) (i e : Nat) : Dev := { d with look := { d.look with hosts := d.look.hosts.set 0 i e } }

/-- The way in which an entry of one TYPE, with a 64-bit key part and domain, stands. -/
def Dev.hostFindPart (d : Dev) (ways : List Nat) (ty dom part : Nat) : Option Nat :=
  ways.find? fun i => d.hostAt i % 2 ^ 79 = part % 2 ^ 64 + dom % 4096 * 2 ^ 64 + ty * 2 ^ 76

/-- A lookup by key in a pipeline: an IPv6 host route hits only when both halves match (R173). -/
def Dev.hostFind (d : Dev) (pipe ty dom key : Nat) : Option Nat :=
  let ways := hostWays pipe (d.hostBucket ty dom key)
  if ty = 3 then
    match d.hostFindPart ways 3 dom (key / 2 ^ 64), d.hostFindPart ways 4 dom key with
    | some i, some _ => some i
    | _, _ => none
  else d.hostFindPart ways ty dom key

/-- Whether a way is free: one that software holds never is (R449). -/
def Dev.hostFree (d : Dev) (i : Nat) : Bool := hostType (d.hostAt i) = 0 && !hostLock (d.hostAt i)

/-- Counters of FWDT (R190). -/
def Dev.fwdCnt (d : Dev) (pipe k : Nat) : Dev := d.bump (FWDT.CNT.ix2 pipe k)

/-! ### Inserts (R183) -/

/-- The way that eviction takes among those that may be evicted: the oldest by AGE, the lower on a tie, or a random one. -/
def Dev.hostVictim (d : Dev) (gen : Nat) (l : List Nat) : Option Nat :=
  if d.onAt gen FWDT.LEARN_CFG_EVICT then l[d.rngBelow (max 1 l.length)]?
  else
    let old : Nat → Nat := fun i => (d.upSec + 4096 - hostAge (d.hostAt i)) % 4096
    l.foldl (fun (m : Option Nat) i => match m with
      | some j => if old j < old i then some i else some j
      | none => some i) none

/-- `n` ways of a bucket made free, by eviction where too few are; none when that cannot be. The victims are evicted one
after another. (DEDUCED, log entry 57) -/
def Dev.hostRoom (fuel : Nat) (d : Dev) (gen pipe : Nat) (ways : List Nat) (n : Nat) : Option (Dev × List Nat) :=
  let free := ways.filter d.hostFree
  if n ≤ free.length then some (d, free.take n) else
  match fuel with
  | 0 => none
  | m + 1 =>
    let soft := ways.filter fun i => hostType (d.hostAt i) ≠ 0 && !hostStatic (d.hostAt i) && !hostLock (d.hostAt i)
    if free.length + soft.length < n then none else
    match d.hostVictim gen soft with
    | none => none
    | some i =>
      let d := if d.onAt gen FWDT.LEARN_CFG_EVICT then d.drawn else d
      Dev.hostRoom m ((d.setHost i 0).fwdCnt pipe 4) gen pipe ways n

/-! ### Learning (R177 to R180) -/

def Dev.cacheOf (d : Dev) (pipe : Nat) : List Learn := d.look.cache.get [] pipe
def Dev.setCache (d : Dev) (pipe : Nat) (l : List Learn) : Dev :=
  { d with look := { d.look with cache := d.look.cache.set [] pipe l } }

/-- The learn cache takes a key: one key has one place, and when 256 are held the one with the earliest stamp leaves.
(DEDUCED, log entry 57) -/
def Dev.cachePut (d : Dev) (pipe : Nat) (x : Learn) : Dev :=
  let l := (d.cacheOf pipe).filter fun y => y.mac ≠ x.mac || y.dom ≠ x.dom
  if l.length < 256 then d.setCache pipe (l ++ [x])
  else
    let oldest := l.foldl (fun (m : Learn) y => if y.stamp < m.stamp then y else m) (l.headD x)
    (d.setCache pipe (l.erase oldest ++ [x])).fwdCnt pipe 14

/-- Whether a learn is stale against the cache (R178). -/
def Dev.learnStale (d : Dev) (pipe : Nat) (x : Learn) : Bool :=
  match (d.cacheOf pipe).find? fun y => y.mac = x.mac && y.dom = x.dom with
  | some y => decide (x.stamp < y.stamp) || (x.stamp = y.stamp && decide (y.port < x.port))
  | none => false

/-- An event about a host-table entry (R438). -/
def Dev.hostLog (d : Dev) (pipe code mac dom port : Nat) : Dev :=
  d.log (islandOfPipe pipe) code mac (mac / 2 ^ 32 % 65536) (dom % 4096 + port % 64 * 65536) pipe

/-- A learn is applied in a pipeline (R178). (DEDUCED, log entry 57) -/
def Dev.learnApply (d : Dev) (pipe : Nat) (x : Learn) (loc : Bool) : Dev :=
  match d.hostFind pipe 1 x.dom x.mac with
  | some i =>
    let e := d.hostAt i
    if hostStatic e then
      if loc && hostResult e % 64 ≠ x.port then
        ((d.fwdCnt pipe 9).raise FWDT.int_STATIC_MOVE).hostLog pipe 0x2804 x.mac x.dom x.port
      else d
    else if hostLock e then d.fwdCnt pipe 7
    else if d.learnStale pipe x then d.fwdCnt pipe 6
    else if hostResult e % 64 = x.port then
      (d.setHost i (setBits e 99 12 d.upSec)).cachePut pipe x
    else
      let d := (d.setHost i (setBits (setBits e 99 12 d.upSec) 83 16 x.port)).cachePut pipe x
      if loc then (d.fwdCnt pipe 1).hostLog pipe 0x2802 x.mac x.dom x.port else d
  | none =>
    if d.learnStale pipe x then d.fwdCnt pipe 6 else
    match Dev.hostRoom 8 d x.gen pipe (hostWays pipe (d.hostBucket 1 x.dom x.mac)) 1 with
    | some (d, i :: _) =>
      let d := (d.setHost i (hostEntry 1 x.mac x.dom false false 0 x.port d.upSec)).cachePut pipe x
      if loc then
        let d := d.fwdCnt pipe 0
        if d.onAt x.gen FWDT.LEARN_CFG_LOG_LEARN then d.hostLog pipe 0x2801 x.mac x.dom x.port else d
      else d
    | _ => (d.fwdCnt pipe 5).raise FWDT.int_LEARN_FULL

/-- A learn goes on the stream to the other three pipelines (R177). -/
def Dev.learnSend (d : Dev) (pipe : Nat) (x : Learn) : Dev :=
  d.each 4 fun d p =>
    if p = pipe then d
    else { d with look := { d.look with learns := d.look.learns.set [] p (d.look.learns.get [] p ++ [x]) } }

/-- A local move counts toward a storm (R180). -/
def Dev.moveCount (d : Dev) (pipe : Nat) (x : Learn) : Dev :=
  { d with look := { d.look with moves := d.look.moves.set 0 pipe (d.look.moves.get 0 pipe + 1),
                                 lastMove := d.look.lastMove.set 0 pipe x.mac } }

/-- Whether a local learn would move an entry: one that R178 drops (LOCK, a stale learn) is no move. -/
def Dev.learnMoves (d : Dev) (pipe : Nat) (x : Learn) : Bool :=
  match d.hostFind pipe 1 x.dom x.mac with
  | some i => !hostStatic (d.hostAt i) && !hostLock (d.hostAt i) && !d.learnStale pipe x && hostResult (d.hostAt i) % 64 ≠ x.port
  | none => false

/-- A local learn is counted, applied and sent; a move counts toward a storm, and in a storm that acts it is dropped.
(DEDUCED, log entry 57) -/
def Dev.learnLocal (d : Dev) (pipe : Nat) (x : Learn) (refresh ovf : Bool) : Dev :=
  let move := d.learnMoves pipe x
  if move && bitOf (d.fld FWDT.HT_STAT_STORM) pipe && d.onAt x.gen FWDT.STORM_CFG_STORM_ACT then (d.moveCount pipe x).fwdCnt pipe 13
  else if ovf then (d.fwdCnt pipe 8).raise FWDT.int_LEARN_OVF
  else
    let d := if move then d.moveCount pipe x else d
    let d := d.bump FWDT.PORT_LEARNS x.port
    let d := if refresh then d.fwdCnt pipe 2 else d
    (d.learnApply pipe x true).learnSend pipe x

/-- The source of a frame is looked up and learned from (R177). `ovf` says that the stream's 64 million learns per second
are used up. -/
def Dev.learnFrom (d : Dev) (pipe : Nat) (f : Frame) (dom mac : Nat) (ovf : Bool) : Dev :=
  let x : Learn := { mac := mac, dom := dom, port := f.ingress, stamp := f.stamp, gen := f.gen }
  match d.hostFind pipe 1 dom mac with
  | none => d.learnLocal pipe x false ovf
  | some i =>
    let e := d.hostAt i
    if hostResult e % 64 ≠ f.ingress then
      if hostStatic e then d.learnApply pipe x true else d.learnLocal pipe x false ovf
    else if d.fldAt f.gen FWDT.LEARN_CFG_AGE_TIME ≤ 4 * ((d.upSec + 4096 - hostAge e) % 4096) then
      d.learnLocal pipe x true ovf
    else d

/-- The oldest learn of a pipeline's stream is applied (R178); with ENABLE = 0 no learn takes place (R189). (DEDUCED, log entry 57) -/
def Dev.learnNext (d : Dev) (pipe : Nat) : Dev :=
  match d.look.learns.get [] pipe with
  | [] => d
  | x :: r =>
    let d := { d with look := { d.look with learns := d.look.learns.set [] pipe r } }
    if d.enabled 0x28 then d.learnApply pipe x false else d

/-- LEARN_APPLY (R178). -/
def execLearnApply (pipe : Nat) (s : State) : Host.Outcome State Fault Refusal := s.run fun d => d.learnNext (pipe % 4)

/-- Keys whose stamp is LEARN_WIN µs old leave a pipeline's learn cache (R178). -/
def Dev.cacheExpire (d : Dev) (pipe : Nat) : Dev :=
  d.setCache pipe ((d.cacheOf pipe).filter fun x =>
    decide (d.islandNs (islandOfPipe pipe) < x.stamp + d.fld FWDT.LEARN_CFG_LEARN_WIN * 1000))

/-- LEARN_CACHE_EXPIRY (R178). -/
def execLearnCacheExpiry (pipe : Nat) (s : State) : Host.Outcome State Fault Refusal := s.run fun d => d.cacheExpire (pipe % 4)

/-- A window of STORM_WIN ends: a move storm is raised or ends (R180). -/
def Dev.stormWindow (d : Dev) (pipe : Nat) : Dev :=
  let n := d.look.moves.get 0 pipe
  let mac := d.look.lastMove.get 0 pipe
  let max_ := d.fld FWDT.STORM_CFG_STORM_MAX
  let inStorm := bitOf (d.fld FWDT.HT_STAT_STORM) pipe
  let d := { d with look := { d.look with moves := d.look.moves.set 0 pipe 0, stormAt := d.look.stormAt.set 0 pipe d.clk.up } }
  let say := fun (d : Dev) code => d.log (islandOfPipe pipe) code pipe n mac (mac / 2 ^ 32 % 65536)
  if !inStorm && decide (max_ < n) then
    say ((d.setFld FWDT.HT_STAT_STORM (d.fld FWDT.HT_STAT_STORM ||| 1 <<< pipe)).raise FWDT.int_MOVE_STORM) 0x2805
  else if inStorm && decide (n ≤ max_ / 2) then
    say (d.setFld FWDT.HT_STAT_STORM (d.fld FWDT.HT_STAT_STORM &&& (0xF ^^^ 1 <<< pipe))) 0x2806
  else d

/-- Whether the window of a pipeline has lasted STORM_WIN (R180). -/
def Dev.stormOver (d : Dev) (pipe : Nat) : Bool :=
  decide (d.look.stormAt.get 0 pipe + d.fld FWDT.STORM_CFG_STORM_WIN * 10000000 ≤ d.clk.up)

/-- MOVE_STORM_WINDOW (R180). -/
def execMoveStormWindow (pipe : Nat) (s : State) : Host.Outcome State Fault Refusal :=
  s.run fun d => d.when (d.stormOver (pipe % 4)) fun d => d.stormWindow (pipe % 4)

/-- The first sweep after a long SPORE: it begins at the entry that is visited first after the wake, and ends when the sweep comes
to that entry again (R182). (DEDUCED, log entry 57) -/
def Dev.longPass (d : Dev) (pipe index : Nat) : List (Nat × Option Nat) :=
  if d.look.longSweep.contains (pipe, some index) then d.look.longSweep.erase (pipe, some index)
  else if d.look.longSweep.contains (pipe, none) then (pipe, some index) :: d.look.longSweep.erase (pipe, none)
  else d.look.longSweep

/-- The sweep visits an entry: an aged dynamic MAC entry is removed; in the first sweep after a long SPORE every one is
(R181, R182). -/
def Dev.hostSweep (d : Dev) (pipe index : Nat) : Dev :=
  let i := pipe * 262144 + index
  let e := d.hostAt i
  let aged := decide (d.fld FWDT.LEARN_CFG_AGE_TIME ≤ (d.upSec + 4096 - hostAge e) % 4096)
  let d := { d with look := { d.look with longSweep := d.longPass pipe index } }
  let long := d.look.longSweep.any fun x => x.1 = pipe
  if hostType e = 1 && !hostStatic e && !hostLock e && (aged || long) then
    let d := (d.setHost i 0).fwdCnt pipe 3
    if d.on FWDT.LEARN_CFG_LOG_AGE then d.hostLog pipe 0x2803 (e % 2 ^ 48) (bitsOf e 64 12) (hostResult e) else d
  else d

/-- HOST_TABLE_SWEEP (R181). -/
def execHostTableSweep (pipe index : Nat) (s : State) : Host.Outcome State Fault Refusal :=
  s.run fun d => d.hostSweep (pipe % 4) (index % 262144)

/-! ### Commands by key (R184, R190) -/

/-- The key in the FWDT command registers. -/
def Dev.cmdKey (d : Dev) : Nat :=
  ((List.range 4).map fun i => d.num (FWDT.CMD_KEY.ix i) * 2 ^ (32 * i)).sum

/-- The key as a lookup of its TYPE uses it: unused bits are 0. -/
def keyOf (ty key : Nat) : Nat := if ty = 1 then key % 2 ^ 48 else if ty = 2 then key % 2 ^ 32 else key % 2 ^ 128

/-- One command in one pipeline: the device, its code and the index it met. (DEDUCED, log entry 57) -/
def Dev.hostOp (d : Dev) (op pipe ty dom key : Nat) : Dev × Nat × Nat :=
  let st := d.on FWDT.CMD_ENTRY_STATIC
  let lock := d.on FWDT.CMD_ENTRY_LOCK
  let act := d.fld FWDT.CMD_ENTRY_ACT
  let res := d.fld FWDT.CMD_RESULT_RESULT
  let half := fun (i : Nat) => if ty = 3 then d.hostFindPart (hostWays pipe (d.hostBucket ty dom key)) 4 dom key else some i
  let put := fun (d : Dev) (i j : Nat) =>
    if ty = 3 then
      (d.setHost i (hostEntry 3 (key / 2 ^ 64) dom st lock act res d.upSec)).setHost j
        (hostEntry 4 key dom st lock act res d.upSec)
    else d.setHost i (hostEntry ty key dom st lock act res d.upSec)
  match d.hostFind pipe ty dom key, op with
  | some i, 0 => (d, 0, i % 262144)
  | none, 0 => (d, 1, 0)
  | some i, 1 => (put d i ((half i).getD i), 0, i % 262144)
  | none, 1 =>
    match Dev.hostRoom 8 d d.cgen pipe (hostWays pipe (d.hostBucket ty dom key)) (if ty = 3 then 2 else 1) with
    | some (d, i :: r) => (put d i (r.headD i), 0, i % 262144)
    | _ => (d, 2, 0)
  | some i, _ => (if ty = 3 then (d.setHost i 0).setHost ((half i).getD i) 0 else d.setHost i 0, 0, i % 262144)
  | none, _ => (d, 1, 0)

/-- An FWDT command (R184, R190): it acts in each pipeline of the mask, and its code is that of the lowest pipeline where
it was not done. (DEDUCED, log entry 57) -/
def Dev.hostCmd (d : Dev) (op mask : Nat) : Dev :=
  if d.on FWDT.CMD_STAT_BUSY then d else
  let ty := d.fld FWDT.CMD_ENTRY_TYPE
  let dom := d.fld FWDT.CMD_ENTRY_DOMAIN
  let key := keyOf ty d.cmdKey
  let res := d.fld FWDT.CMD_RESULT_RESULT
  let bad := ty = 0 || decide (3 < ty) || op = 3 ||
    (op = 1 && (d.fld FWDT.CMD_ENTRY_ACT = 3 || (ty = 1 && decide (33 < res)) || (ty ≠ 1 && decide (16383 < res))))
  let done := fun (d : Dev) (code ok index : Nat) =>
    (d.setNum FWDT.CMD_STAT (code * 2 + ok * 16 + index * 256)).raise FWDT.int_CMD_DONE
  if bad then done d 3 0 0 else
  let (d, code, ok, index, _) := (List.range 4).foldl
    (fun (acc : Dev × Nat × Nat × Nat × Bool) p =>
      let (d, code, ok, index, seen) := acc
      if bitOf mask p then
        let (d, c, i) := d.hostOp op p ty dom key
        (d, if code = 0 then c else code, if c = 0 then ok + 2 ^ p else ok, if seen then index else i, true)
      else acc) (d, 0, 0, 0, false)
  done d code ok index

/-- A write of FWDT.CMD. -/
def Dev.hostCmdWrite (d : Dev) (path : Nat) (w : Word) : Dev :=
  if w.toNat % 4 = 3 then d.recErr 0x28 0x428 1 path
  else if !w.getLsbD 8 then d
  else d.hostCmd (w.toNat % 4) (bitsOf w.toNat 4 4)

/-- HOST_FIND (R184). -/
def execHostFind (mask : Nat) (s : State) : Host.Outcome State Fault Refusal :=
  s.act fun d => d.access 0x28 fun d => d.hostCmd 0 mask

/-- HOST_INSERT (R184). -/
def execHostInsert (mask : Nat) (s : State) : Host.Outcome State Fault Refusal :=
  s.act fun d => d.access 0x28 fun d => d.hostCmd 1 mask

/-- HOST_DELETE (R184). -/
def execHostDelete (mask : Nat) (s : State) : Host.Outcome State Fault Refusal :=
  s.act fun d => d.access 0x28 fun d => d.hostCmd 2 mask

/-- SOFT_RESET of FWDT (R189). -/
def Dev.softFwdt (d : Dev) : Dev :=
  { d with look := { d.look with hosts := d.look.hosts.filter fun p => hostStatic p.2 || hostLock p.2, cache := [],
                                 moves := [] } }.setFld FWDT.HT_STAT_STORM 0

/-- Ways in use in a pipeline's host table. (DEDUCED, log entry 57) -/
def Dev.hostOcc (d : Dev) (pipe : Nat) : Nat :=
  (d.look.hosts.filter fun p => p.1 / 262144 = pipe && hostType p.2 ≠ 0).length

end Sys2Proof.Machine
end

