-- ==== Sys2Proof/Machine/Prefix.lean ====
section
/-! DEFINITION. The longest-prefix table (R185 to R188, R191): units, lookup, and the unit writes of the commands. -/

namespace Sys2Proof.Machine

/-! ### Units (R185) -/

/-- Units of a table, and the bit that says that a unit belongs to a region, as part of an entry or of a hole. -/
def lpmUnits : Nat := 131072
def unitIn : Nat := 2 ^ 72

def unitVal (u : Nat) : Nat := u % 2 ^ 32
def unitLen (u : Nat) : Nat := bitsOf u 32 8
def unitVrf (u : Nat) : Nat := bitsOf u 40 12
def unitV6 (u : Nat) : Bool := bitOf u 52
def unitPart (u : Nat) : Nat := bitsOf u 53 2
def unitValid (u : Nat) : Bool := bitOf u 55
def unitHop (u : Nat) : Nat := bitsOf u 56 14
def unitAct (u : Nat) : Nat := bitsOf u 70 2

/-- Units that a prefix takes: one for IPv4, two for IPv6 up to /64, four above (R185). -/
def prefWidth (v6 : Bool) (len : Nat) : Nat := if !v6 then 1 else if len ≤ 64 then 2 else 4

/-- An address with the bits beyond `len` of `bits` set to 0. -/
def maskAddr (bits len a : Nat) : Nat := a % 2 ^ bits / 2 ^ (bits - len) * 2 ^ (bits - len)

/-- Unit `k` of a prefix. -/
def prefUnit (v6 : Bool) (addr len vrf hop act k : Nat) : Nat :=
  let a := if v6 then maskAddr 128 len addr / 2 ^ (96 - 32 * k) % 2 ^ 32 else maskAddr 32 len addr
  a + len * 2 ^ 32 + vrf % 4096 * 2 ^ 40 + bit v6 * 2 ^ 52 + k * 2 ^ 53 + 2 ^ 55 + hop % 2 ^ 14 * 2 ^ 56 + act % 4 * 2 ^ 70
    + unitIn

/-- The units of a prefix, in rising order of index. -/
def prefUnits (v6 : Bool) (addr len vrf hop act : Nat) : List Nat :=
  (List.range (prefWidth v6 len)).map (prefUnit v6 addr len vrf hop act)

def Dev.unitAt (d : Dev) (pipe i : Nat) : Nat := d.look.units.get 0 (pipe * lpmUnits + i)
def Dev.setUnit (d : Dev) (pipe i u : Nat) : Dev :=
  { d with look := { d.look with units := d.look.units.set 0 (pipe * lpmUnits + i) u } }

/-- The listed units of a pipeline, in rising order of index. -/
def Dev.pipeUnits (d : Dev) (pipe : Nat) : List (Nat × Nat) :=
  (d.look.units.filter fun p => p.1 / lpmUnits = pipe).map fun p => (p.1 % lpmUnits, p.2)

/-! ### Lookup (R185) -/

/-- Whether a unit's part of an address agrees. -/
def unitHits (u addr vrf : Nat) : Bool :=
  let len := unitLen u
  let n := if unitV6 u then min 32 (len - 32 * unitPart u) else len
  let a := if unitV6 u then addr / 2 ^ (96 - 32 * unitPart u) % 2 ^ 32 else addr % 2 ^ 32
  unitValid u && unitVrf u = vrf && a / 2 ^ (32 - n) = unitVal u / 2 ^ (32 - n)

/-- Whether the entry that begins at unit `i` is hit: every part of it is there and agrees. -/
def Dev.entryHits (d : Dev) (pipe : Nat) (v6 : Bool) (addr vrf : Nat) (iu : Nat × Nat) : Bool :=
  let (i, u) := iu
  unitV6 u = v6 && unitPart u = 0 && unitHits u addr vrf &&
    (List.range (prefWidth v6 (unitLen u))).all fun k =>
      let x := d.unitAt pipe (i + k)
      unitV6 x = v6 && unitPart x = k && unitLen x = unitLen u && unitHits x addr vrf

/-- The longest match of an address in a VRF: the lowest hit for IPv4, the highest for IPv6. -/
def Dev.lpmFind (d : Dev) (pipe : Nat) (v6 : Bool) (addr vrf : Nat) : Option Nat :=
  let hits := (d.pipeUnits pipe).filter (d.entryHits pipe v6 addr vrf)
  match (if v6 then hits.getLast? else hits.head?) with
  | some (_, u) => some u
  | none => none

/-! ### Regions (R185, R186) -/

/-- An entry or a hole of a side of the table: its distance from the side's own end of the table, its width, its length of
prefix, and whether it is an entry. -/
structure Slot where
  at_ : Nat
  width : Nat
  len : Nat
  valid : Bool
  deriving DecidableEq, Repr

/-- The index of the first unit of `w` units at a distance from a side's end. (DEDUCED, log entry 41) -/
def baseOf (v6 : Bool) (c w : Nat) : Nat := if v6 then lpmUnits - c - w else c

/-- The slots of a side, nearest to its end first. -/
def Dev.slots (d : Dev) (pipe : Nat) (v6 : Bool) : List Slot :=
  let l := (d.pipeUnits pipe).filter fun iu => unitV6 iu.2 = v6 && unitPart iu.2 = 0 && bitOf iu.2 72
  let l := l.map fun iu =>
    let w := prefWidth v6 (unitLen iu.2)
    { at_ := if v6 then lpmUnits - iu.1 - w else iu.1, width := w, len := unitLen iu.2, valid := unitValid iu.2 : Slot }
  if v6 then l.reverse else l

/-- Where a side ends: the distance of its first free unit. -/
def sideEnd (l : List Slot) : Nat := l.foldl (fun m s => max m (s.at_ + s.width)) 0

/-- The plan of an insert so far: the content of units that will be changed, the unit writes in order, and the entries
moved. -/
structure Plan where
  writes : List (Nat × Nat) := []
  moves : Nat := 0
  deriving DecidableEq, Repr

/-- What a unit holds once a plan's writes have been made. -/
def Plan.look (p : Plan) (d : Dev) (pipe i : Nat) : Nat :=
  match p.writes.reverse.find? fun w => w.1 = i with | some w => w.2 | none => d.unitAt pipe i

/-- A slot is copied to another distance. -/
def Plan.copy (p : Plan) (d : Dev) (pipe : Nat) (v6 : Bool) (s : Slot) (target : Nat) : Plan :=
  let src := baseOf v6 s.at_ s.width
  let dst := baseOf v6 target s.width
  { writes := p.writes ++ (List.range s.width).map fun k => (dst + k, p.look d pipe (src + k))
    moves := p.moves + bit s.valid }

/-- A region shifts by `w` units away from the longer ones: its first ⌈w ÷ width⌉ slots, or all of them, are copied to the
units just past its end. -/
def Plan.shift (p : Plan) (d : Dev) (pipe : Nat) (v6 : Bool) (region : List Slot) (w : Nat) : Plan :=
  let width := (region.head?.map Slot.width).getD 1
  let n := (w + width - 1) / width
  if region.length ≤ n then region.reverse.foldl (fun p (s : Slot) => p.copy d pipe v6 s (s.at_ + w)) p
  else
    let e := sideEnd region
    ((region.take n).zip (List.range n)).foldl (fun p (x : Slot × Nat) => p.copy d pipe v6 x.1 (e + x.2 * width)) p

/-- A region gives `w` units at its start from its own holes. (DEDUCED, log entry 41) -/
def Plan.fill (p : Plan) (d : Dev) (pipe : Nat) (v6 : Bool) (region : List Slot) (w : Nat) : Plan :=
  let width := (region.head?.map Slot.width).getD 1
  let n := (w + width - 1) / width
  let movers := (region.take n).filter Slot.valid
  let holes := (region.drop n).filter fun s => !s.valid
  (movers.zip holes).foldl (fun p (x : Slot × Slot) => p.copy d pipe v6 x.1 x.2.at_) p

/-- Whether a region's holes free `w` units. -/
def frees (region : List Slot) (w : Nat) : Bool :=
  let width := (region.head?.map Slot.width).getD 1
  decide ((w + width - 1) / width ≤ (region.filter fun s => !s.valid).length)

/-- The lengths of prefix below `len` that have a region, longest first. -/
def shorterLens (l : List Slot) (len : Nat) : List Nat :=
  ((List.range len).reverse).filter fun n => l.any fun s => s.len = n

/-- The regions that an insert shifts, the shortest first, and, when one of them fills a hole, that one: the nearest to the
new prefix whose holes do. (DEDUCED, log entry 41) -/
def shiftSet (l : List Slot) (w : Nat) (acc : List Nat) : List Nat → List Nat × Option Nat
  | [] => (acc, none)
  | n :: r =>
    if frees (l.filter fun s => s.len = n) w then (acc, some n) else shiftSet l w (n :: acc) r

/-- The exact prefix, if the table holds it: the index of its first unit. -/
def Dev.prefAt (d : Dev) (pipe : Nat) (v6 : Bool) (addr len vrf : Nat) : Option Nat :=
  let want := prefUnits v6 addr len vrf 0 0
  ((d.pipeUnits pipe).find? fun iu =>
    unitPart iu.2 = 0 && unitValid iu.2 && ((List.range want.length).all fun k =>
      d.unitAt pipe (iu.1 + k) % 2 ^ 56 = want.getD k 0 % 2 ^ 56)).map Prod.fst

/-- What an insert writes, or none when it cannot gain its units (R186, R187). (DEDUCED, log entry 41) -/
def Dev.insertPlan (d : Dev) (pipe : Nat) (v6 : Bool) (addr len vrf hop act : Nat) : Option Plan :=
  let new := prefUnits v6 addr len vrf hop act
  let w := new.length
  let put := fun (p : Plan) (base : Nat) =>
    { p with writes := p.writes ++ (List.range w).map fun k => (base + k, new.getD k 0) }
  match d.prefAt pipe v6 addr len vrf with
  | some i => some (put {} i)
  | none =>
    let l := d.slots pipe v6
    match l.find? fun s => s.len = len && !s.valid with
    | some s => some (put {} (baseOf v6 s.at_ w))
    | none =>
      let lens := shorterLens l len
      let (shifted, filler) := shiftSet l w [] lens
      if filler.isNone && decide (lpmUnits < sideEnd l + sideEnd (d.slots pipe (!v6)) + w) then none else
      let region := fun n => l.filter fun (s : Slot) => s.len = n
      let start := match lens with | [] => sideEnd l | n :: _ => ((region n).head?.map Slot.at_).getD 0
      let p : Plan := match filler with | some n => Plan.fill {} d pipe v6 (region n) w | none => {}
      let p := shifted.foldl (fun (p : Plan) n => p.shift d pipe v6 (region n) w) p
      some (put p (baseOf v6 start w))

/-! ### Commands (R188, R191) -/

/-- The address in the LPMT command registers. -/
def Dev.lpmKey (d : Dev) : Nat := ((List.range 4).map fun i => d.num (LPMT.CMD_KEY.ix i) * 2 ^ (32 * i)).sum

/-- A command ends (R191). (DEDUCED, log entry 41) -/
def Dev.lpmDone (d : Dev) (code moves : Nat) : Dev :=
  let d := { d with look := { d.look with prefixOp := none } }
  (d.setNum LPMT.CMD_STAT (code * 2 + min 255 moves * 16)).raise LPMT.int_CMD_DONE

/-- A command waits for its unit writes. -/
def Dev.lpmRun (d : Dev) (mask : Nat) (p : Plan) : Dev :=
  if p.writes.isEmpty then d.lpmDone 0 p.moves
  else { d with look := { d.look with prefixOp := some { mask := mask, writes := p.writes, moves := p.moves } } }.setNum
    LPMT.CMD_STAT 1

/-- The lowest pipeline of a mask, where the command is planned: the copies are identical (R188).
(DEDUCED, log entry 41) -/
def lowPipe (mask : Nat) : Nat := ((List.range 4).find? fun p => bitOf mask p).getD 0

/-- An LPMT command: 0 FIND, 1 INSERT, 2 DELETE. It has no effect while another is in progress. (DEDUCED, log entry 41) -/
def Dev.lpmCmd (d : Dev) (op mask : Nat) : Dev :=
  if d.on LPMT.CMD_STAT_BUSY then d else
  let v6 := d.on LPMT.CMD_PREFIX_V6
  let len := d.fld LPMT.CMD_PREFIX_LEN
  let vrf := d.fld LPMT.CMD_PREFIX_VRF
  let pipe := lowPipe mask
  if (if v6 then 128 else 32) < len then d.lpmDone 3 0
  else if mask % 16 = 0 then d.lpmDone 0 0
  else
    match op, d.prefAt pipe v6 d.lpmKey len vrf with
    | 0, some _ => d.lpmDone 0 0
    | 1, _ =>
      match d.insertPlan pipe v6 d.lpmKey len vrf (d.fld LPMT.CMD_RESULT_NEXT_HOP) (d.fld LPMT.CMD_RESULT_ACT) with
      | some p => d.lpmRun mask p
      | none => (d.raise LPMT.int_FULL).lpmDone 2 0
    | 2, some i =>
      d.lpmRun mask { writes := (List.range (prefWidth v6 len)).map fun k => (i + k, d.unitAt pipe (i + k) - 2 ^ 55) }
    | _, _ => d.lpmDone 1 0

/-- A write of LPMT.CMD. -/
def Dev.lpmCmdWrite (d : Dev) (path : Nat) (w : Word) : Dev :=
  if w.toNat % 4 = 3 then d.recErr 0x29 0x418 1 path
  else if !w.getLsbD 8 then d
  else d.lpmCmd (w.toNat % 4) (bitsOf w.toNat 4 4)

/-- PREFIX_FIND (R185). -/
def execPrefixFind (mask : Nat) (s : State) : Host.Outcome State Fault Refusal :=
  s.act fun d => d.access 0x29 fun d => d.lpmCmd 0 (mask % 16)

/-- PREFIX_INSERT (R186). -/
def execPrefixInsert (mask : Nat) (s : State) : Host.Outcome State Fault Refusal :=
  s.act fun d => d.access 0x29 fun d => d.lpmCmd 1 (mask % 16)

/-- PREFIX_DELETE (R187). -/
def execPrefixDelete (mask : Nat) (s : State) : Host.Outcome State Fault Refusal :=
  s.act fun d => d.access 0x29 fun d => d.lpmCmd 2 (mask % 16)

/-- A pipeline gives a search slot to an update: in a cycle with no head, or, while heads may come, in a forced one as an open value
says (R188, R199); `own` is what a table counts of a forced slot. (DESIGN CHOICE, log entry 116) -/
def Dev.updateSlot (d : Dev) (p : Nat) (own : Dev → Dev) : Dev :=
  if d.pausedFor (2 ^ p) || (d.sw.heads.get [] p).isEmpty then d
  else (if d.freeVal.toNat % 2 = 1 then own (d.perf (islandOfPipe p) 0x081) else d).freed

/-- The next unit write of the command in progress takes its search slot, in each pipeline of its mask (R188). -/
def Dev.unitMove (d : Dev) : Dev :=
  match d.look.prefixOp with
  | none => d
  | some op =>
    match op.writes with
    | [] => d.lpmDone 0 op.moves
    | (i, u) :: r =>
      let d := d.each 4 fun d p => if bitOf op.mask p then (d.setUnit p i u).updateSlot p id else d
      if r.isEmpty then d.lpmDone 0 op.moves
      else { d with look := { d.look with prefixOp := some { op with writes := r } } }

/-- PREFIX_UNIT_MOVE (R188). -/
def execPrefixUnitMove (s : State) : Host.Outcome State Fault Refusal := s.run Dev.unitMove

/-- Units of a side in use, holes included, and units held as holes (R191), as pipeline 0 has them. -/
def Dev.lpmOcc (d : Dev) (v6 : Bool) : Nat := ((d.pipeUnits 0).filter fun iu => bitOf iu.2 72 && unitV6 iu.2 = v6).length
def Dev.lpmHoles (d : Dev) : Nat := ((d.pipeUnits 0).filter fun iu => bitOf iu.2 72 && !unitValid iu.2).length

/-- SOFT_RESET of LPMT (R191): refused while a command is in progress. -/
def Dev.softLpmt (d : Dev) : Dev :=
  if d.on LPMT.CMD_STAT_BUSY then d else { d with look := { d.look with units := [] } }

end Sys2Proof.Machine
end

