-- ==== Sys2Proof/Machine/Route.lean ====
section
/-! DEFINITION. The forwarding stage (R174 to R176): domain, learning, routing and flooding. -/

namespace Sys2Proof.Machine

/-- Domain and next-hop entries (R175). -/
def Dev.domAt (d : Dev) (pipe i : Nat) : Nat := d.look.doms.get 0 (pipe * 4096 + i % 4096)
def Dev.hopAt (d : Dev) (pipe i : Nat) : Nat := d.look.hops.get 0 (pipe * 16384 + i % 16384)
def domMembers (e : Nat) : Nat := bitsOf e 0 34
def domVrf (e : Nat) : Nat := bitsOf e 34 12
def hopPort (e : Nat) : Nat := bitsOf e 48 6
def hopSmac (e : Nat) : Nat := bitsOf e 54 4
def hopValid (e : Nat) : Bool := bitOf e 58

/-- Whether a VLAN tag stands at a place. (DEDUCED, log entry 42) -/
def tagAt (bs : List Byte) (o : Nat) : Bool := beAt bs o 2 = 0x8100 || beAt bs o 2 = 0x88A8

/-- The forwarding domain of a frame whose L2 header starts at `l2` (R174): DOM_SRC and PVID of its port.
(DEDUCED, log entry 42) -/
def domainOf (src pvid : Nat) (bs : List Byte) (l2 : Option Nat) : Nat :=
  match l2 with
  | none => pvid
  | some o =>
    if src = 0 || !tagAt bs (o + 12) then pvid
    else if src = 2 && tagAt bs (o + 16) then beAt bs (o + 18) 2 % 4096
    else beAt bs (o + 14) 2 % 4096

/-- The router address that a MAC address equals, if one does: index of RMAC. -/
def Dev.routerMac (d : Dev) (gen mac : Nat) : Option Nat :=
  (List.range 16).find? fun i =>
    bitOf (d.numAt gen (FWDT.RMAC_HI.ix i)) 16 &&
      d.numAt gen (FWDT.RMAC_LO.ix i) + d.numAt gen (FWDT.RMAC_HI.ix i) % 65536 * 2 ^ 32 = mac

/-- A frame floods to its domain's members, less the port it came by (R174). -/
def Dev.floodTo (d : Dev) (pipe dom ingress : Nat) : Fwd :=
  let m := domMembers (d.domAt pipe dom)
  { act := 0, dest := if bitOf m ingress then m - 2 ^ ingress else m, result := 0xFFFF }

/-- The result of a routed lookup: an entry's ACT and its next hop. -/
def hopFwd (act hop : Nat) : Fwd := { act := act, dest := 0, result := hop, nextHop := some hop }

/-- The result of a frame that a router address takes, and the reason of R454 that a punt of it carries (R176). A version
other than 4 and 6 has no address to look up and takes MISS_ACT. Where the lookup gives no next hop, the result that the
classifier key would read is not stated, so it is open. (DEDUCED, log entry 42) -/
def Dev.routeFrame (d : Dev) (gen pipe vrf : Nat) (bs : List Byte) (l3 : Nat) : Dev × Fwd × Nat :=
  let v := byteAt bs l3 / 16
  let v6 := v = 6
  let addr := if v6 then beAt bs (l3 + 24) 16 else beAt bs (l3 + 16) 4
  let ttl := if v6 then byteAt bs (l3 + 7) else byteAt bs (l3 + 8)
  let found : Option (Nat × Nat) :=
    if v ≠ 4 ∧ v ≠ 6 then none else
    match d.hostFind pipe (if v6 then 3 else 2) vrf addr with
    | some i => some (hostAct (d.hostAt i), hostResult (d.hostAt i) % 16384)
    | none =>
      if d.enabled 0x29 then (d.lpmFind pipe v6 addr vrf).map fun u => (unitAct u, unitHop u) else none
  let open_ := d.freeVal.toNat % 65536
  if (v = 4 ∨ v = 6) ∧ ttl ≤ 1 then
    let d := d.fwdCnt pipe 11
    match found with
    | some (_, hop) => (d, { hopFwd 1 hop with }, 5)
    | none => (d.freed, { act := 1, dest := 0, result := open_ }, 5)
  else
    match found with
    | some (act, hop) => (d, hopFwd act hop, 3)
    | none =>
      let d := (d.bump (LPMT.MISSES.ix pipe)).freed
      if bitOf (d.numAt gen LPMT.MISS_CFG) 0 then (d, { act := 1, dest := 0, result := open_ }, 4)
      else (d, { act := 2, dest := 0, result := open_ }, 4)

/-- The forwarding stage: what it makes of a frame, with its domain and VRF written to the context. `ovf` says that the
learn stream has no room (R174, R177). (DEDUCED, log entry 42) -/
def Dev.forward (d : Dev) (pipe k : Nat) (ovf : Bool) : Dev :=
  match d.frame k with
  | none => d
  | some f =>
    let gen := f.gen
    let cfg := d.numAt gen FWDT.PORT_FWD f.ingress
    let l2 := layerAt f (d.numAt gen FWDT.KEY_CFG % 8)
    let l3 := layerAt f (bitsOf (d.numAt gen FWDT.KEY_CFG) 4 3)
    let dom := domainOf (bitsOf cfg 12 2) (cfg % 4096) f.bytes l2
    let de := d.domAt pipe dom
    let flood := fun (d : Dev) => (d.fwdCnt pipe 10, d.floodTo pipe dom f.ingress, 0)
    let (d, fwd, code) :=
      match l2 with
      | none => flood d
      | some o =>
        if !d.enabled 0x28 then flood d else
        let src := beAt f.bytes (o + 6) 6
        let dst := beAt f.bytes o 6
        let d := if bitOf cfg 14 && bitOf de 46 && !bitOf (byteAt f.bytes (o + 6)) 0 then d.learnFrom pipe f dom src ovf else d
        match (d.routerMac gen dst), bitOf de 47, l3 with
        | some _, true, some l => d.routeFrame gen pipe (domVrf de) f.bytes l
        | _, _, _ =>
          match (if bitOf (byteAt f.bytes o) 0 then none else d.hostFind pipe 1 dom dst) with
          | some i =>
            let e := d.hostAt i
            (d, { act := hostAct e, dest := 2 ^ (hostResult e % 64), result := hostResult e }, 3)
          | none => flood d
    d.updFrame k fun f => { f with code := if fwd.act = 1 then code else 0,
                                   ctx := { f.ctx with domain := dom, vrf := domVrf de, fwd := fwd } }

end Sys2Proof.Machine
end

