-- ==== Sys2Proof/Machine/Classifier.lean ====
section
/-! DEFINITION. Range classifier (10_classifier): the key, the rules, and the commands that change one rule. -/

namespace Sys2Proof.Machine

/-! ### The key (R193, R194) -/

/-- The IP version that the frame shows at its L3 slot, 0 where the slot was not recorded. -/
def Dev.ipVersion (d : Dev) (f : Frame) : Nat :=
  match layerAt f (bitsOf (d.numAt f.gen FWDT.KEY_CFG) 4 3) with
  | some o => byteAt f.bytes o / 16
  | none => 0

/-- The lookup profile of a frame (R193). -/
def Dev.profile (d : Dev) (f : Frame) : Nat :=
  let w := d.numAt f.gen (CLSF.PORT_PROF.ix f.ingress)
  let v := d.ipVersion f
  if v = 4 then w % 16 else if v = 6 then bitsOf w 4 4 else bitsOf w 8 4

/-- A key word from its source (R194). (DEDUCED, log entry 43) -/
def keyWord (f : Frame) (depth sel : Nat) : Nat :=
  let off := bitsOf sel 8 8
  match sel % 16 with
  | 1 => beAt f.ctx.ext off 2
  | 2 => byteAt f.ctx.ext off
  | 3 => match layerAt f (bitsOf sel 4 3) with
    | some o => beAt (f.bytes.take depth) (o + off) 2
    | none => 0
  | 4 => f.ctx.summary % 65536
  | 5 => f.ctx.summary / 65536 % 65536
  | 6 => f.ingress
  | 7 => f.ctx.domain
  | 8 => f.ctx.vrf
  | 9 => f.ctx.fwd.result
  | _ => 0

/-- The 320-bit key of a frame under a profile. -/
def Dev.clsKey (d : Dev) (f : Frame) (prof : Nat) : Nat :=
  ((List.range 20).map fun w =>
    keyWord f (d.parseDepth f.ctx.pipe) (d.numAt f.gen (CLSF.KEY_SEL.ix w) prof) % 65536 * 2 ^ (16 * w)).sum

/-! ### Rules (R195, R196) -/

/-- A word of a rule. -/
def ruleWord (r k : Nat) : Nat := bitsOf r (32 * k) 32
def ruleValid (r : Nat) : Bool := bitOf (ruleWord r 25) 16
def rulePrio (r : Nat) : Nat := ruleWord r 25 % 65536
def ruleRes (r : Nat) : Nat := ruleWord r 26 + ruleWord r 27 * 2 ^ 32

/-- Range `i` of a rule: whether it is enabled, its key word, LO and HI. -/
def ruleRange (r i : Nat) : Bool × Nat × Nat × Nat :=
  let sel := bitsOf (ruleWord r 24) (8 * i) 8
  (bitOf sel 7, sel % 32, ruleWord r (20 + i) % 65536, ruleWord r (20 + i) / 65536)

/-- A rule with its reserved bits 0 (R6, R195, R197). -/
def ruleClean (r : Nat) : Nat :=
  ((List.range 28).map fun k =>
    let w := ruleWord r k
    let m := if k = 24 then 0x9F9F9F9F else if k = 25 then 0x1FFFF else if k = 27 then 0x1FFFFFFF else 0xFFFFFFFF
    (w &&& m) * 2 ^ (32 * k)).sum

/-- Whether no field of a rule holds a reserved encoding (R195, R197). (DEDUCED, log entry 43) -/
def ruleOk (r : Nat) : Bool :=
  ((List.range 4).all fun i =>
    let (en, kw, lo, hi) := ruleRange r i
    !en || (decide (kw < 20) && decide (lo ≤ hi))) && resColour (ruleRes r) ≠ 3 && decide (resPort (ruleRes r) ≤ 33)

/-- Whether a rule matches a key; its bank is tested beside this (R196). -/
def ruleHits (r key : Nat) : Bool :=
  let v := r % 2 ^ 320
  let m := r / 2 ^ 320 % 2 ^ 320
  ruleValid r && key &&& m = v &&& m &&
    (List.range 4).all fun i =>
      let (en, kw, lo, hi) := ruleRange r i
      !en || (decide (lo ≤ bitsOf key (16 * kw) 16) && decide (bitsOf key (16 * kw) 16 ≤ hi))

/-- The rules of a pipeline that match, with their index, lowest index first. -/
def Dev.ruleMatches (d : Dev) (pipe banks key : Nat) : List (Nat × Nat) :=
  (d.look.rules.filter fun p => p.1 / 65536 = pipe && bitOf banks (p.1 % 65536 / 1024) && ruleHits p.2 key).map fun p =>
    (p.1 % 65536, p.2)

/-- The first of the matches with the highest priority. -/
def ruleBest (l : List (Nat × Nat)) : Option (Nat × Nat) :=
  l.foldl (fun (m : Option (Nat × Nat)) x => match m with
    | some y => if rulePrio y.2 < rulePrio x.2 then some x else some y
    | none => some x) none

/-- Where EQ_LAST shows a rule. -/
def ruleAt (i : Nat) : Nat := i / 1024 + i % 1024 * 64

/-- The classifier's lookup of a frame: the result of R197 goes to the context. -/
def Dev.classify (d : Dev) (pipe k : Nat) : Dev :=
  match d.frame k with
  | none => d
  | some f =>
    if !d.enabled 0x2A then d.updFrame k fun f => { f with ctx := { f.ctx with res := 0 } } else
    let prof := d.profile f
    let banks := d.numAt f.gen CLSF.BANK_MASK_LO prof + d.numAt f.gen CLSF.BANK_MASK_HI prof * 2 ^ 32
    let l := d.ruleMatches pipe banks (d.clsKey f prof)
    let d := d.perf (islandOfPipe pipe) 0x083 ((List.range 64).filter (bitOf banks)).length
    match ruleBest l with
    | none =>
      let res := d.numAt f.gen CLSF.MISS_RES_LO prof + d.numAt f.gen CLSF.MISS_RES_HI prof * 2 ^ 32
      (d.bump (CLSF.CNT.ix2 pipe 0)).updFrame k fun f => { f with ctx := { f.ctx with res := res } }
    | some (i, r) =>
      let d := d.updFrame k fun f => { f with ctx := { f.ctx with res := ruleRes r } }
      match l.find? fun x => x.1 ≠ i && rulePrio x.2 = rulePrio r with
      | some (j, _) =>
        ((d.bump (CLSF.CNT.ix2 pipe 1)).setNum (CLSF.EQ_LAST.ix pipe) (ruleAt i + ruleAt j * 65536)).raise CLSF.int_EQ_PRIO
      | none => d

/-! ### One rule (R199) -/

def Dev.ruleMem (d : Dev) (pipe i : Nat) : Nat := d.look.rules.get 0 (pipe * 65536 + i % 65536)
def Dev.setRule (d : Dev) (pipe i r : Nat) : Dev :=
  { d with look := { d.look with rules := d.look.rules.set 0 (pipe * 65536 + i % 65536) r } }

/-- The rule in CMD_DATA. -/
def Dev.cmdRule (d : Dev) : Nat := ((List.range 32).map fun i => d.num (CLSF.CMD_DATA.ix i) * 2 ^ (32 * i)).sum

/-- A row is written in a search slot; a forced one is counted (R199). -/
def Dev.ruleSlot (d : Dev) (p : Nat) : Dev := d.updateSlot p fun d => d.bump (CLSF.CNT.ix2 p 2)

/-- A classifier command: 0 WRITE, 1 INVALIDATE, 2 READ. (DEDUCED, log entry 43) -/
def Dev.ruleCmd (d : Dev) (op mask : Nat) : Dev :=
  if d.on CLSF.CMD_STAT_BUSY then d else
  let i := d.num CLSF.CMD_RULE
  let done := fun (d : Dev) (code pipes : Nat) =>
    (d.setNum CLSF.CMD_STAT (code * 2 + pipes * 16)).raise CLSF.int_CMD_DONE
  let put := fun (d : Dev) (f : Nat → Nat) =>
    d.each 4 fun d p => if bitOf mask p then ((d.setRule p i (f (d.ruleMem p i))).ruleSlot p).bump (CLSF.CNT.ix2 p 3) else d
  match op with
  | 0 => if ruleOk d.cmdRule then done (put d fun _ => ruleClean d.cmdRule) 0 (mask % 16) else done d 3 0
  | 1 => done (put d fun r => if ruleValid r then r - 2 ^ (32 * 25 + 16) else r) 0 (mask % 16)
  | 2 =>
    let r := d.ruleMem (d.fld CLSF.WR_MASK_RD_PIPE) i
    done (d.each 32 fun d k => d.setNum (CLSF.CMD_DATA.ix k) (ruleWord r k)) 0 0
  | _ => d

/-- A write of CLSF.CMD. -/
def Dev.ruleCmdWrite (d : Dev) (path : Nat) (w : Word) : Dev :=
  if w.toNat % 4 = 3 then d.recErr 0x2A 0x408 1 path
  else if !w.getLsbD 8 then d
  else d.ruleCmd (w.toNat % 4) (bitsOf w.toNat 4 4)

/-- RULE_WRITE (R199). -/
def execRuleWrite (mask : Nat) (s : State) : Host.Outcome State Fault Refusal :=
  s.act fun d => d.access 0x2A fun d => d.ruleCmd 0 mask

/-- RULE_INVALIDATE (R199). -/
def execRuleInvalidate (mask : Nat) (s : State) : Host.Outcome State Fault Refusal :=
  s.act fun d => d.access 0x2A fun d => d.ruleCmd 1 mask

/-- RULE_READ (R199). -/
def execRuleRead (s : State) : Host.Outcome State Fault Refusal :=
  s.act fun d => d.access 0x2A fun d => d.ruleCmd 2 0

end Sys2Proof.Machine
end

