-- ==== Sys2Proof/Machine/Repl.lean ====
section
/-! DEFINITION. The tandem state machine's transitions, and what each change of a record gives the peer: replication messages,
the change cache and the journal (R412, R414, R415, R417, R421). -/

namespace Sys2Proof.Machine

def Dev.setTandem (d : Dev) (x : TandemSt) : Dev := { d with tandem := x }
def Dev.tState (d : Dev) : Nat := d.fld TNDM.STATE_STATE
def Dev.tandemId (d : Dev) : Nat := d.fld PWRM.STRAPS_TANDEM_ID

/-- Whether the module is in RESYNC or JOINED. -/
def Dev.replicating (d : Dev) : Bool := d.tState = 4 || d.tState = 5

/-- The status bit that a reason for ALONE sets. -/
def aloneBit (reason : Nat) : Option IntBit :=
  match reason with
  | 1 => some TNDM.int_CFG_MISMATCH
  | 2 => some TNDM.int_VER_MISMATCH
  | 3 => some TNDM.int_TIME_FAULT
  | 5 => some TNDM.int_PEER_SILENT
  | 9 => some TNDM.int_ID_CLASH
  | 10 => some TNDM.int_KEY_FAIL
  | _ => none

/-! ### The cursor of a resync (R420, R421) -/

/-- A record's bits [hi:lo] as bytes, padded with zero bits. (DESIGN CHOICE, log entry 95) -/
def recBytes (r lo len : Nat) : List Byte := leBytes ((len + 7) / 8) (bitsOf r lo len)

/-- The digest of a slot; the odd slot of a wide record repeats that of the even slot. -/
def Dev.digest (d : Dev) (s : Nat) : Nat :=
  let first := if slotKind (d.slotAt false s) = 3 then s - 1 else s
  let r := d.recordAt false first
  if r = 0 then 0 else
  let r := [rIncarn, rVersion, rHarv, rSat, rRetSeen].foldl (fun r f => f.put r 0) r
  if recWide r then
    let r := setBits (setBits r 0 5 0) 448 5 0
    sipHash d.flow.kl (recBytes r 0 517 ++ recBytes r 840 56)
  else
    let r := setBits r 0 5 0
    sipHash d.flow.kl (recBytes r 0 224 ++ recBytes r 392 56)

/-- The slot that is compared next: the low slot of the cursor's pair, then its mate. (DEDUCED, log entry 97) -/
def Dev.resyncSlot (d : Dev) : Nat := if d.tandem.half then d.mateOf d.tandem.cursor else d.tandem.cursor

/-- The module's entry for the slot that is compared next leaves (R420). -/
def Dev.sendEntry (d : Dev) : Dev :=
  d.emit (.peer 6 (leBytes 8 (d.digest d.resyncSlot) ++ leBytes 8 (d.tandem.journal.get 0 d.resyncSlot)))

/-- The module with tandem id 0 drives the cursor: it sends its entry for the next slot, once that is closed. (DEDUCED, log entry 97) -/
def Dev.resyncAsk (d : Dev) : Dev :=
  if d.tState = 4 && d.tandemId = 0 && d.opState TNDM.RESYNC_STAT = 1 && !d.tandem.asked && decide (d.tandem.cursor < d.altMask) &&
      (d.flow.opened.get none d.resyncSlot).isNone then
    (d.setTandem { d.tandem with asked := true }).sendEntry
  else d

/-- The resync sweep has compared its last pair: its completion point (R421). -/
def Dev.resyncOver (d : Dev) : Bool := d.opState TNDM.RESYNC_STAT = 1 && decide (d.altMask ≤ d.tandem.cursor)

/-- The sweep is COMPLETE and the journal is emptied (R421). (DEDUCED, log entry 97) -/
def Dev.resyncEnded (d : Dev) : Dev :=
  let d := (d.endOp TNDM.RESYNC_STAT 0 2 (d.altMask / 16)).raise TNDM.int_RESYNC_DONE
  let d := d.setTandem { d.tandem with journal := [], aged := [] }
  (d.setFld TNDM.STATE_JOURNALING 0).setFld TNDM.STATE_JOURNAL_FULL 0

/-- The sweep is cut short: ABORTED, or COMPLETE once its last pair has been compared (R87, R421). -/
def Dev.resyncCut (d : Dev) : Dev :=
  if d.resyncOver then d.resyncEnded else if d.opState TNDM.RESYNC_STAT = 1 then d.abortOp TNDM.RESYNC_STAT 0 id else d

/-! ### The state machine (R412) -/

/-- The effects of leaving RESYNC and JOINED: a resync sweep that runs is aborted, what waits to be replicated and asked is
dropped, and copies for port 33 are held (R408, R412, R421). -/
def Dev.tandemLeave (d : Dev) (new : Nat) : Dev :=
  let d := d.resyncCut
  let d := d.setTandem { d.tandem with queue := [], queries := [] }
  if d.portState 33 = 5 ∧ new ≠ 4 ∧ new ≠ 5 then d.egressDown 33 false else d

/-- The epochs of the two modules, as a suspension logs them: the module's own in [15:0] and the peer's in [31:16] (R411).
(DEDUCED, log entry 93) -/
def Dev.epochsWord (d : Dev) : Nat := d.num (COMMIT 0) % 65536 + d.num TNDM.PEER_INFO % 65536 * 65536

/-- A transition of R412 with its reason code, 0 where the table gives none. -/
def Dev.tandemTo (d : Dev) (new reason : Nat) : Dev :=
  let old := d.tState
  if old = new then d else
  let was := d.replicating
  let d := d.setFld TNDM.STATE_STATE new
  let d := if new = 6 ∨ new = 1 then d.setFld TNDM.STATE_REASON reason else d
  let d := d.setTandem { d.tandem with agree := 0 }
  let d := if old = 5 then d.setFld TNDM.STATE_JOURNALING 1 else d
  let d := if was && !d.replicating then d.tandemLeave new else d
  let d := if new = 6 then
      let d := (d.bump (TNDM.CNT.ix 5)).raise TNDM.int_ALONE
      let d := match aloneBit reason with | some b => d.raise b | none => d
      if reason = 3 then d.setFld TNDM.STATE_PEER_UNTRUSTED 1 else d
    else d
  let d := if new = 4 then
      let d := (d.setFld TNDM.STATE_PEER_UNTRUSTED 0).startOp TNDM.RESYNC_STAT
      let d := d.setTandem { d.tandem with cursor := 0, half := false, asked := false }
      if d.portState 33 = 5 && !was then d.carry 33 else d
    else if new = 5 then d.raise TNDM.int_JOINED else d
  (d.log 8 0x5801 old new reason (if new = 6 || (was && !d.replicating) then d.epochsWord else 0)).resyncAsk

/-- REPL_WIN in ns. -/
def Dev.replWin (d : Dev) : Nat := d.fld TNDM.REPL_CFG_REPL_WIN * 1000

/-- A change enters the change cache, from which those older than REPL_WIN have gone; a full cache takes none, and sends the module to
ALONE from RESYNC and JOINED (R412, R417). (DEDUCED, log entry 96) -/
def Dev.cacheChange (d : Dev) (home key stamp origin : Nat) : Dev :=
  let keep := d.tandem.cache.filter fun c => decide (d.islandNs 8 ≤ c.stamp + d.replWin)
  if 262144 ≤ keep.length then
    let d := d.setTandem { d.tandem with cache := keep }
    if d.replicating then d.tandemTo 6 6 else d
  else d.setTandem { d.tandem with cache := keep ++ [{ home := home, key := key, stamp := stamp, origin := origin }] }

/-- A replication message: 0 insert, 1 update, 2 delete, 3 evict (R415). (DESIGN CHOICE, log entry 95) -/
def replMessage (kind reason home stamp r : Nat) : List Byte :=
  let hd := leBytes 1 kind ++ leBytes 3 (if 2 ≤ kind then reason else 0) ++ leBytes 4 home ++ leBytes 8 stamp
  if 2 ≤ kind then hd ++ (if recWide r then leBytes 40 (bitsOf r 0 316) else leBytes 16 (bitsOf r 0 124))
  else if recWide r then hd ++ recBytes r 0 517 ++ recBytes r 840 56
  else hd ++ recBytes r 0 224 ++ recBytes r 392 56 ++ leBytes 5 0

/-- A frame that island 8 makes: its head and what follows the type byte (R408). (DESIGN CHOICE, log entry 95) -/
def Dev.tandemFrame (d : Dev) (type : Nat) (body : List Byte) : List Byte :=
  [0x01, 0x80, 0xC2, 0x00, 0x00, 0x0E] ++ d.ctrlSa ++ [0x88, 0xB5] ++ leBytes 1 type ++ body

/-- A frame leaves the tandem link, and counts. -/
def Dev.tandemSend (d : Dev) (bs : List Byte) : Dev :=
  (d.emit (.frame 33 (withFcs bs) false)).statGood 33 32 (bs.length + 4) bs

/-- The messages that one frame of up to 1,500 bytes takes from the front of the queue. (DESIGN CHOICE, log entry 95) -/
def packed (room : Nat) (l : List (List Byte)) : Nat :=
  match l with
  | [] => 0
  | m :: r => if m.length ≤ room then packed (room - m.length) r + 1 else 0

/-- Waiting messages leave in replication frames while the link is UP and priority 7 is not paused (R407, R408, R415). -/
def Dev.replSend (fuel : Nat) (d : Dev) : Dev :=
  match fuel with
  | 0 => d
  | n + 1 =>
    if d.tandem.queue = [] ∨ d.portState 33 ≠ 5 ∨ bitOf (d.xoffRx 33) 7 then d else
    let k := max 1 (packed 1481 d.tandem.queue)
    let ms := d.tandem.queue.take k
    let body := ms.flatten
    let d := d.setTandem { d.tandem with queue := d.tandem.queue.drop k }
    let d := d.bump (TNDM.CNT.ix 0) 0 k
    Dev.replSend n (d.tandemSend (d.tandemFrame 2 (body ++ List.replicate (45 - body.length) 0)))

def Dev.replFlush (d : Dev) : Dev := Dev.replSend (d.tandem.queue.length + 1) d

/-- A message joins the replication queue and leaves as soon as it can; a full queue sends the module to ALONE (R412, R415). -/
def Dev.replQueue (d : Dev) (m : List Byte) : Dev :=
  if 65536 ≤ d.tandem.queue.length then d.tandemTo 6 6
  else (d.setTandem { d.tandem with queue := d.tandem.queue ++ [m] }).replFlush

/-- A change of a home slot is journaled, or, when the journal is full, lost to it (R421). -/
def Dev.journalPut (d : Dev) (home stamp : Nat) : Dev :=
  if d.tandem.journal.get 0 home = 0 ∧ 524288 ≤ d.tandem.journal.length then
    (d.setFld TNDM.STATE_JOURNAL_FULL 1).raise TNDM.int_JOURNAL_FULL
  else d.setTandem { d.tandem with journal := d.tandem.journal.set 0 home stamp }

/-- The pair of a home slot, by its low slot. -/
def Dev.pairOf (d : Dev) (s : Nat) : Nat := s % d.altMask

/-- A control change that the module's own mergers have applied to record `r`, whose home slot is `home`, in slot `s`: stamped in the
island of the merger of that slot, entered in the cache, and replicated in RESYNC and JOINED (R414, R417). -/
def Dev.localChange (d : Dev) (kind reason home s r : Nat) : Dev :=
  let island := islandOfChannel (d.slotPlace s).1
  let st := (d.stamp island).toNat
  let d := if d.on TNDM.STATE_JOURNALING && !(d.tState = 4 && decide (d.pairOf home < d.tandem.cursor)) then
    let d := d.journalPut home st
    if kind = 2 ∧ reason = 1 then d.setTandem { d.tandem with aged := (home, recKey r) :: d.tandem.aged } else d
    else d
  let d := d.cacheChange home (recKey r) (d.islandNs island) d.tandemId
  if d.replicating then d.replQueue (replMessage kind reason home st r) else d

end Sys2Proof.Machine
end

