-- ==== Sys2Proof/Machine/Tasks.lean ====
section
/-! DEFINITION. Task records, ready lists, spill rings, timers, signals and the scheduling trace (R260 to R271). -/

namespace Sys2Proof.Machine

/-! ### The task store (R260 to R262) -/

def Dev.task (d : Dev) (c i : Nat) : Option Task := d.eng.tasks.get none (c * 4096 + i)
def Dev.setTask (d : Dev) (c i : Nat) (t : Option Task) : Dev :=
  { d with eng := { d.eng with tasks := d.eng.tasks.set none (c * 4096 + i) t } }
def Dev.updTask (d : Dev) (c i : Nat) (f : Task → Task) : Dev :=
  match d.task c i with | some t => d.setTask c i (some (f t)) | none => d

/-- The tasks in a frond's store, by index. -/
def Dev.storeOf (d : Dev) (c : Nat) : List (Nat × Task) :=
  d.eng.tasks.filterMap fun p => if p.1 / 4096 = c then p.2.map fun t => (p.1 % 4096, t) else none
def Dev.storeUsed (d : Dev) (c : Nat) : Nat := (d.storeOf c).length
def Dev.storeFree (d : Dev) (c : Nat) : Nat := 4096 - d.storeUsed c

/-- Whether the task with an index is blocked on its thread (R265). -/
def Dev.blockedOn (d : Dev) (c i : Nat) : Bool :=
  d.eng.threads.any fun p => p.1 / 256 = c && p.2.task = some i && p.2.wait = some .cond
/-- Whether a task of the store is blocked, off its thread or on it (R265). -/
def Dev.isBlocked (d : Dev) (c : Nat) (p : Nat × Task) : Bool := p.2.state = 3 || (p.2.state = 2 && d.blockedOn c p.1)
/-- The records of a frond that hold blocked tasks. -/
def Dev.blockedHeld (d : Dev) (c : Nat) : Nat := ((d.storeOf c).filter (d.isBlocked c)).length

/-- A task's id: its index and its generation (R260). -/
def Task.id (t : Task) (i : Nat) : Nat := t.gen % 256 * 4096 + i
/-- The id of a task that has none. -/
def noId : Nat := 0xFFFFF

/-- The task that an id names; a stale id names none. -/
def Dev.taskById (d : Dev) (c id : Nat) : Option (Nat × Task) :=
  match d.task c (id % 4096) with
  | some t => if t.gen % 256 = id / 4096 % 256 then some (id % 4096, t) else none
  | none => none

/-- The 896 payload bits of a task's record (R261). (DEDUCED, log entry 60) -/
def Task.payload (t : Task) : Nat :=
  leNat (t.args.take 64) +
    (t.saved.zipIdx.map fun x => x.1 % 2 ^ 32 * 2 ^ (512 + 32 * (x.2 % 4))).sum + t.lastId % 2 ^ 20 * 2 ^ 640 + t.kind % 32 * 2 ^ 660 +
    t.prio % 4 * 2 ^ 665 + t.state % 8 * 2 ^ 667 + bit t.all * 2 ^ 670 + bit t.armed * 2 ^ 671 + t.mask % 2 ^ 16 * 2 ^ 672 +
    t.flags % 2 ^ 16 * 2 ^ 688 + t.zcn % 8 * 2 ^ 704 + t.sts % 2 ^ 16 * 2 ^ 707 + t.resume % 2 ^ 14 * 2 ^ 723 +
    t.stack.length % 8 * 2 ^ 737 + (t.stack.zipIdx.map fun x => x.1 % 2 ^ 14 * 2 ^ (740 + 14 * (x.2 % 4))).sum +
    t.epoch % 2 ^ 16 * 2 ^ 796 + t.deadline % 2 ^ 48 * 2 ^ 812

/-- A packet task: kinds 0, 1 and 16 (R262). -/
def pktKind (k : Nat) : Bool := k = 0 || k = 1 || k = 16

/-- The priority that KIND_PRIO sets for a kind. -/
def Dev.kindPrio (d : Dev) (k : Nat) : Nat :=
  if k < 16 then bitsOf (d.num TASK.KIND_PRIO0) (2 * k) 2 else d.num TASK.KIND_PRIO1 % 4

def Dev.taskCnt (d : Dev) (c k : Nat) : Dev := d.bump (TASK.CNT.ix k) c

/-! ### The trace (R270, R271) -/

def Dev.traceQ (d : Dev) (c : Nat) : List (List Byte) := d.eng.trace.get [] c
def Dev.setTraceQ (d : Dev) (c : Nat) (l : List (List Byte)) : Dev :=
  { d with eng := { d.eng with trace := d.eng.trace.set [] c l } }

/-- A transition is queued for the trace, where the filters select it. `thread` is engine × 16 + thread, 0 where none takes
part. -/
def Dev.trace (d : Dev) (c reason thread id flags kind : Nat) : Dev :=
  let pass := d.enabled 0x32 && d.on TASK.TRACE_CFG_EN c && bitOf (d.fld TASK.TRACE_CFG_REASONS c) reason &&
    (if pktKind kind then d.on TASK.TRACE_CFG_PKT c else d.on TASK.TRACE_CFG_OTHER c)
  if !pass then d else
  let seq := d.eng.traceSeq.get 0 c
  let e := leBytes 8 (d.stamp (islandOfFrond c)).toNat ++
    leBytes 4 (thread / 16 % 16 + thread % 16 * 16 + id % 2 ^ 20 * 256 + reason * 2 ^ 28) ++ leBytes 2 flags ++ leBytes 2 seq
  let d := { d with eng := { d.eng with traceSeq := d.eng.traceSeq.set 0 c ((seq + 1) % 65536) } }
  if 64 ≤ (d.traceQ c).length then (d.bump TASK.TRACE_LOST c).raise TASK.int_TRACE_LOST
  else d.setTraceQ c (d.traceQ c ++ [e])

/-- A scratchpad byte's key. -/
def spadKey (c a : Nat) : Nat := c * 2 ^ 20 + a % 2 ^ 20
def Dev.spadRead (d : Dev) (c a n : Nat) : List Byte := (List.range n).map fun k => d.eng.spad.get 0 (spadKey c (a + k))
def Dev.spadWrite (d : Dev) (c a : Nat) (bs : List Byte) : Dev :=
  let m := (bs.zip (List.range bs.length)).foldl (fun (m : SMap Byte) (x : Byte × Nat) => m.set 0 (spadKey c (a + x.2)) x.1)
    d.eng.spad
  { d with eng := { d.eng with spad := m } }

/-- The oldest queued trace entry goes into the ring, or is lost to a full ring that stops (R271).
(DEDUCED, log entry 60) -/
def Dev.traceWrite (d : Dev) (c : Nat) : Dev :=
  match d.traceQ c with
  | [] => d
  | e :: r =>
    let d := d.setTraceQ c r
    let n := 2 ^ d.fld TASK.TRACE_RING_SIZE c
    let wr := d.num TASK.TRACE_WR c
    if d.on TASK.TRACE_CFG_STOP c && (wr + 65536 - d.num TASK.TRACE_RD c) % 65536 = n then
      (d.bump TASK.TRACE_LOST c).raise TASK.int_TRACE_LOST
    else
      ((d.spadWrite c (d.fld TASK.TRACE_RING_BASE c * 16 + 16 * (wr % n)) e).setNum TASK.TRACE_WR ((wr + 1) % 65536) c).counts
        (SPAD.DMA_WAIT.key 0 c)

/-- TRACE_ENTRY_WRITE (R271). -/
def execTraceEntryWrite (frond : Nat) (s : State) : Host.Outcome State Fault Refusal :=
  s.run fun d => d.traceWrite (frond % 8)

/-- The entries that a mirror has to copy. -/
def Dev.mirrorCount (d : Dev) (c : Nat) : Nat :=
  min (d.num TASK.MIRROR_MAX c) ((d.num TASK.TRACE_WR c + 65536 - d.num TASK.TRACE_RD c) % 65536)

/-- `n` entries are delivered to host memory, from RD on. -/
def Dev.mirrorCopy (d : Dev) (c n : Nat) : Dev :=
  let size := 2 ^ d.fld TASK.TRACE_RING_SIZE c
  let rd := d.num TASK.TRACE_RD c
  let at_ := d.num2 TASK.MIRROR_ADDR_LO TASK.MIRROR_ADDR_HI c
  let d := d.each n fun d i =>
    d.dmaWrite (at_ + 16 * i) (d.spadRead c (d.fld TASK.TRACE_RING_BASE c * 16 + 16 * ((rd + i) % size)) 16)
  d.setNum TASK.TRACE_RD ((rd + n) % 65536) c

/-- A write of MIRROR_CTRL; `done` says how many entries stood delivered when an abort arrived. (DEDUCED, log entry 60) -/
def Dev.mirrorGo (d : Dev) (c : Nat) : Dev := if d.opState TASK.MIRROR_STAT c = 1 then d else
  (d.startOp TASK.MIRROR_STAT c).counts (SPAD.DMA_WAIT.key 0 c)
def Dev.mirrorAbort (d : Dev) (c done : Nat) : Dev :=
  let n := min done (d.mirrorCount c - 1)
  d.abortOp TASK.MIRROR_STAT c fun d => (d.mirrorCopy c n).setNum TASK.MIRROR_STAT (statusWord 3 0 n) c

/-- The part of an operand of SOFT_RESET that is of channel `t`. (DEDUCED, log entry 10) -/
def partOf (done t : Nat) : Nat := done / 2 ^ (24 * t) % 2 ^ 24

/-- The mirror ends: with the last entry delivered, or FAILED after `done` of them on a PCIe error or a word that reads uncorrectably
(R467, kind 3). (DEDUCED, log entry 60) -/
def Dev.mirrorDone (d : Dev) (c done : Nat) (ue : Guard) : Dev :=
  if d.opState TASK.MIRROR_STAT c ≠ 1 then d else
  let n := min done (d.mirrorCount c)
  let ok := decide (d.mirrorCount c ≤ done) && decide (ue ≠ .bad)
  let d := d.guarded (islandOfFrond c) 3
    ((d.fld TASK.TRACE_RING_BASE c + (d.num TASK.TRACE_RD c + n) % 2 ^ d.fld TASK.TRACE_RING_SIZE c) / 2) ue
  ((d.mirrorCopy c n).endOp TASK.MIRROR_STAT c (if ok then 2 else 4) n).raise TASK.int_MIRROR_DONE

/-- MIRROR_GO (R271). -/
def execMirrorGo (frond : Nat) (s : State) : Host.Outcome State Fault Refusal :=
  s.act fun d => d.access 0x32 fun d => d.mirrorGo (frond % 8)
/-- MIRROR_ABORT (R271). -/
def execMirrorAbort (frond done : Nat) (s : State) : Host.Outcome State Fault Refusal :=
  s.act fun d => d.access 0x32 fun d => d.mirrorAbort (frond % 8) done
/-- MIRROR_DONE (R271). -/
def execMirrorDone (frond done : Nat) (ue : Guard) (s : State) : Host.Outcome State Fault Refusal :=
  s.run fun d => d.mirrorDone (frond % 8) done ue

/-! ### Ready lists, spill and refill (R262, R266, R267) -/

def Dev.readyOf (d : Dev) (c p : Nat) : List Nat := d.eng.ready.get [] (4 * c + p)
def Dev.setReady (d : Dev) (c p : Nat) (l : List Nat) : Dev :=
  { d with eng := { d.eng with ready := d.eng.ready.set [] (4 * c + p) l } }
def Dev.ringOf (d : Dev) (c p : Nat) : List Task := d.eng.rings.get [] (4 * c + p)
def Dev.setRing (d : Dev) (c p : Nat) (l : List Task) : Dev :=
  { d with eng := { d.eng with rings := d.eng.rings.set [] (4 * c + p) l } }

/-- A task in the store becomes ready at the tail of its list. -/
def Dev.makeReady (d : Dev) (c i : Nat) : Dev :=
  match d.task c i with
  | some t => (d.setTask c i (some { t with state := 1, since := d.upUs })).setReady c t.prio (d.readyOf c t.prio ++ [i])
  | none => d

/-- A task takes a free record of the store, with a new id; one that is ready joins its list. -/
def Dev.placeTask (d : Dev) (c : Nat) (t : Task) : Dev × Nat :=
  let i := firstGap 0 ((d.storeOf c).map fun p => (p.1, ()))
  let uses := d.eng.gens.get 0 (c * 4096 + i)
  let d := { d with eng := { d.eng with gens := d.eng.gens.set 0 (c * 4096 + i) (uses + 1) } }
  let d := d.setTask c i (some { t with gen := uses % 256, lastId := uses % 256 * 4096 + i, pos := none })
  (if t.state = 1 then d.makeReady c i else d, i)

/-- How many numbers below `n` are `j` modulo 6. -/
def sixths (n j : Nat) : Nat := (n + 5 - j) / 6

/-- The records that ring `p` of a frond holds: positions on retired channels are skipped (R267, R399).
(DEDUCED, log entry 60) -/
def Dev.ringRoom (d : Dev) (c p : Nat) : Nat :=
  ((List.range 6).map fun j =>
    if d.retired (6 * c + j) then 0 else sixths (131072 * (p + 1)) j - sixths (131072 * p) j).sum

/-- Whether the ring of a priority has room for a record. -/
def Dev.ringFree (d : Dev) (c p : Nat) : Bool := decide ((d.ringOf c p).length < d.ringRoom c p)

/-- The record of the spill area that the tail of ring `p` comes to: the next on a channel that is not retired (R267, R399). -/
def Dev.ringTail (d : Dev) (c p : Nat) : Option Nat :=
  ((List.range 24).map fun k => 131072 * p + (d.eng.tails.get 0 (4 * c + p) + k) % 131072).find? fun n => !d.retired (6 * c + n % 6)

/-- Where record `n` of a frond's spill area lies: channel and byte address (R267, R386). -/
def spillPlace (c n : Nat) : Nat × Nat := (6 * c + n % 6, 0x1C000000 + n / 6 * 128)

/-- A record of the spill area is written or read: two units of 64 bytes, in two banks. (DEDUCED, log entry 69) -/
def Dev.spillRows (d : Dev) (c n : Nat) (f : Dev → Nat → Nat → Nat → Dev) : Dev :=
  let (ch, addr) := spillPlace c n
  f (f d ch addr 2) ch (addr + 64) 2

/-- A task goes to the tail of the ring of its priority, where it takes a record of the spill area. (DEDUCED, log entry 60) -/
def Dev.spill (d : Dev) (c : Nat) (t : Task) : Dev :=
  let pos := if d.ringFree c t.prio then d.ringTail c t.prio else none
  let d := match pos with
    | some n =>
      { d with eng := { d.eng with tails := d.eng.tails.set 0 (4 * c + t.prio) ((n + 1) % 131072) } }.spillRows c n Dev.rowWrite
    | none => d
  ((d.setRing c t.prio (d.ringOf c t.prio ++ [{ t with pos := pos }])).taskCnt c 5).trace c 4 0 noId t.flags t.kind

/-- Whether a task of a priority may be placed in the store now, rather than spilled (R262, R267). -/
def Dev.placeable (d : Dev) (c p : Nat) : Bool :=
  decide (d.num TASK.RESERVE < d.storeFree c) && (d.ringOf c p).isEmpty

/-- Whether a kind has a valid ENTRY (R244, R257). (DEDUCED, log entry 79) -/
def Dev.entryOk (d : Dev) (gen kind : Nat) : Bool := kind = 16 || bitOf (d.numAt gen (FENG.ENTRY.ix kind)) 31

/-- A task enters the store, or the ring of its priority: status 0 with its id, or 4 (R262, R263, R267). -/
def Dev.admitTask (d : Dev) (c : Nat) (t : Task) : Dev × Nat × Nat :=
  let d := d.taskCnt c 0
  if d.placeable c t.prio then
    let (d, i) := d.placeTask c t
    (d, 0, match d.task c i with | some t => t.id i | none => noId)
  else (d.spill c t, 4, noId)

/-- The tasks that mergers wait to spill into a ring. -/
def Dev.wantsOf (d : Dev) (c p : Nat) : List Task := d.eng.wants.get [] (4 * c + p)
def Dev.setWants (d : Dev) (c p : Nat) (l : List Task) : Dev :=
  { d with eng := { d.eng with wants := d.eng.wants.set [] (4 * c + p) l } }

/-- A task that is no packet task is created: status 0 in the store with its id, 4 spilled, 2 ring full (R262, R263). The
merger's tasks are never refused: the merger waits with one for room. -/
def Dev.createTask (d : Dev) (c : Nat) (t : Task) (merger : Bool) : Dev × Nat × Nat :=
  let (d, tag) := d.tagUnit
  let t := { t with tag := tag }
  if d.placeable c t.prio || d.ringFree c t.prio then d.admitTask c t
  else if merger then ((d.setWants c t.prio (d.wantsOf c t.prio ++ [t])).raise TASK.int_SPILL_FULL, 2, noId)
  else ((d.taskCnt c 8).raise TASK.int_SPILL_FULL, 2, noId)

/-- What mergers wait to spill enters the ring while there is room, in its order. -/
def Dev.wantsGo (fuel : Nat) (d : Dev) (c p : Nat) : Dev :=
  match fuel, d.wantsOf c p with
  | n + 1, t :: r =>
    if d.placeable c p || d.ringFree c p then Dev.wantsGo n ((d.setWants c p r).admitTask c t).1 c p else d
  | _, _ => d

/-- Whether the merger that serves a slot waits for room in a ring (R263). -/
def Dev.mergerWaits (d : Dev) (s : Nat) : Bool :=
  (List.range 4).any fun p => (d.wantsOf (frondOf s) p).any fun t => (d.slotPlace t.view.slot).1 = (d.slotPlace s).1

/-- The condition of R264. (DEDUCED, log entry 61) -/
def Task.holds (t : Task) : Bool :=
  t.mask = 0 || (if t.all then t.flags &&& t.mask = t.mask else t.flags &&& t.mask ≠ 0)

/-- A blocked task whose condition holds consumes its flags and becomes ready, on its thread or in its list (R264, R265).
(DEDUCED, log entry 61) -/
def Dev.wakeTask (d : Dev) (c i : Nat) : Dev :=
  match d.task c i with
  | none => d
  | some t =>
    let hit := t.flags &&& t.mask
    let t1 := { t with flags := t.flags &&& (0xFFFF ^^^ hit), saved := t.saved.set 0 hit, woke := hit }
    if t.state = 3 && t.holds then
      (((d.setTask c i (some t1)).makeReady c i).taskCnt c 4).trace c 3 0 (t.id i) hit t.kind
    else if t.state = 2 then
      match d.eng.threads.find? fun p => p.1 / 256 = c && p.2.task = some i && p.2.wait = some .cond with
      | some (k, th) =>
        if t.holds then
          let d := d.setTask c i (some t1)
          let d := { d with eng := { d.eng with threads := d.eng.threads.set {} k { th with wait := none, g := th.g.set 0 1 hit } } }
          (d.taskCnt c 4).trace c 3 (k % 256) (t.id i) hit t.kind
        else d
      | none => d
    else d

/-- A refilled record goes into the store; a blocked one is told that its id has changed (R269).
(DEDUCED, log entry 60) -/
def Dev.refillOne (d : Dev) (c : Nat) (t : Task) : Dev :=
  let t := if t.state = 3 then { t with flags := t.flags ||| 0x4000 } else t
  let (d, i) := d.placeTask c t
  let d := (d.taskCnt c 6).trace c 5 0 (match d.task c i with | some t => t.id i | none => noId) t.flags t.kind
  d.wakeTask c i

/-- What a word of a record that reads with errors counts as, where the record lies; whether the record is lost (R468). -/
def Dev.taskError (d : Dev) (c : Nat) (t : Task) (b : BadWord) : Dev × Bool :=
  match t.pos with
  | none => (d, false)
  | some n =>
    let (ch, addr) := spillPlace c n
    if oneSymbol b then (d.memCe ch b.sym0 (d.on MEMC.CH_CFG_CE_WRITEBACK ch), false)
    else (d.memUe ch (addr + b.word % 8 / 2 * 32) b.word b.sym0 b.sym1 |>.bump FUSE.TASK_LOST, true)

/-- Up to 16 records leave the head of a ring for the store (R267, R269); one that reads uncorrectably ends without running. What
mergers wait to spill then follows. (DEDUCED, log entry 60) -/
def Dev.refillRing (d : Dev) (c p : Nat) (bad : List BadTask) : Dev :=
  if 64 ≤ (d.readyOf c p).length ∨ d.storeFree c ≤ d.num TASK.RESERVE + 16 then d else
  let l := d.ringOf c p
  let d := d.setRing c p (l.drop 16)
  let d := (l.take 16).zipIdx.foldl (fun (d : Dev) (x : Task × Nat) =>
    let d := match x.1.pos with | some n => d.spillRows c n Dev.rowFetch | none => d
    match bad.find? fun b => b.pos = x.2 with
    | some b =>
      let (d, lost) := d.taskError c x.1 b.word
      if lost then d else d.refillOne c x.1
    | none => d.refillOne c x.1) d
  Dev.wantsGo (d.wantsOf c p).length d c p

/-- REFILL (R267, R468): `bad` are the records that read with errors. -/
def execRefill (frond prio : Nat) (bad : List BadTask) (s : State) : Host.Outcome State Fault Refusal :=
  s.run fun d => d.refillRing (frond % 8) (prio % 4) bad

/-- A ready task that has waited STARVE µs moves up a priority (R266). -/
def Dev.promote (d : Dev) (c i : Nat) : Dev :=
  match d.task c i with
  | none => d
  | some t =>
    let n := d.num TASK.STARVE
    if n ≠ 0 && t.prio ≠ 0 && (d.readyOf c t.prio).contains i && decide (t.since + n ≤ d.upUs) then
      let d := d.setReady c t.prio ((d.readyOf c t.prio).filter (· ≠ i))
      let d := (d.setTask c i (some { t with prio := t.prio - 1 })).makeReady c i
      (d.taskCnt c 7).trace c 7 0 (t.id i) (t.prio - 1) t.kind
    else d

/-- PROMOTE (R266). -/
def execPromote (frond index : Nat) (s : State) : Host.Outcome State Fault Refusal :=
  s.run fun d => d.promote (frond % 8) (index % 4096)

/-! ### Timers and signals (R264, R268, R277) -/

/-- A deadline passes (R268). -/
def Dev.timerFire (d : Dev) (c i : Nat) : Dev :=
  match d.task c i with
  | none => d
  | some t =>
    if d.upUs < t.deadline then d
    else if t.state = 4 then d.makeReady c i
    else if t.armed then (d.setTask c i (some { t with armed := false, flags := t.flags ||| 0x8000 })).wakeTask c i
    else d

/-- TIMER_FIRE (R268). -/
def execTimerFire (frond index : Nat) (s : State) : Host.Outcome State Fault Refusal :=
  s.run fun d => d.timerFire (frond % 8) (index % 4096)

/-- Flags reach the task that an id names; a stale id is dropped and counted (R263). (DEDUCED, log entry 61) -/
def Dev.signal (d : Dev) (c id flags : Nat) : Dev :=
  match d.taskById c id with
  | some (i, t) => (d.setTask c i (some { t with flags := t.flags ||| flags % 65536 })).wakeTask c i
  | none => d.taskCnt c 9

/-- A host signal (R276, R277). -/
def Dev.hostSignal (d : Dev) (c flags : Nat) : Dev :=
  if d.enabled 0x32 then d.signal c (d.num TASK.SIG_ID c % 2 ^ 20) flags else d

/-- SIG_FLAGS (R277). -/
def execSigFlags (frond flags : Nat) (s : State) : Host.Outcome State Fault Refusal :=
  s.act fun d => d.access 0x32 fun d => d.hostSignal (frond % 8) flags

/-- The record of a task that has ended is free. -/
def Dev.endTask (d : Dev) (c i : Nat) : Dev := (d.setTask c i none).bump FENG.TASKS_DONE c

end Sys2Proof.Machine
end

