-- ==== Sys2Proof/Machine/Merger.lean ====
section
/-! DEFINITION. The update merger (R217, R219 to R226): slots of both regions, insertion and eviction, the end of a record,
deltas, harvests and control updates. -/

namespace Sys2Proof.Machine

/-! ### Slots -/

def Dev.setFlow (d : Dev) (x : FlowSt) : Dev := { d with flow := x }
def Dev.flowCnt (d : Dev) (k : Nat) : Dev := d.bump (FLOW.CNT.ix k)

/-- A slot in flow memory becomes `v`. -/
def Dev.setMemSlot (d : Dev) (region s v : Nat) : Dev :=
  d.setFlow { d.flow with mem := d.flow.mem.set 0 (region * 2 ^ 27 + s) v }

/-- Open entries of a channel's merger; both halves of a wide record are one (R222, R399). (DEDUCED, log entry 64) -/
def Dev.openIn (d : Dev) (ch : Nat) : Nat :=
  (d.flow.opened.filter fun p => match p.2 with
    | some o => !o.half && (d.slotPlace p.1).1 = ch
    | none => false).length

/-- A slot is not open and its merger has no room for it. -/
def Dev.noEntry (d : Dev) (s : Nat) : Bool := (d.flow.opened.get none s).isNone && decide (512 ≤ d.openIn (d.slotPlace s).1)

/-- Changed halves of a slot are written to memory (R222). (DEDUCED, log entry 69) -/
def Dev.slotStore (d : Dev) (s v halves : Nat) : Dev := (d.slotBursts d.flow.region s halves).setMemSlot d.flow.region s v

/-- A slot is the odd half of a wide place, held in the entry of the even slot (R399). -/
def Dev.isHalf (d : Dev) (s : Nat) : Bool := match d.flow.opened.get none s with | some o => o.half | none => false

/-- The slots of the cache entry that a slot is part of: both halves of a wide place are one (R399). -/
def Dev.entrySlots (d : Dev) (s : Nat) : List Nat :=
  let b := if d.isHalf s then s - 1 else s
  if d.isHalf (b + 1) then [b, b + 1] else [b]

/-- A slot changes: in the merger's cache, where the halves that change wait to be written (R222), or at once in memory where the
merger has no entry left for it. The odd half of a wide record is held in the entry of the even slot (R399). (DEDUCED, log entry 64) -/
def Dev.putSlot (d : Dev) (b : Bool) (s v : Nat) : Dev :=
  let old := d.slotAt b s
  if v = old then d else
  let lo := decide (v % 2 ^ 224 ≠ old % 2 ^ 224)
  let hi := decide (v / 2 ^ 224 ≠ old / 2 ^ 224)
  if b then (d.slotBursts (1 - d.flow.region) s (bit lo + bit hi)).setMemSlot (1 - d.flow.region) s v else
  let half := d.isHalf s || slotKind v = 3 || slotKind old = 3
  let base := if half then s - 1 else s
  if d.noEntry base && (d.flow.opened.get none s).isNone then d.slotStore s v (bit lo + bit hi) else
  let o : OpenSlot := (d.flow.opened.get none s).getD { value := old }
  let o := { value := v, lo := o.lo || lo, hi := o.hi || hi, since := if o.lo || o.hi then o.since else d.clk.up,
             half := half : OpenSlot }
  let even : OpenSlot := (d.flow.opened.get none base).getD { value := d.slotAt false base }
  d.setFlow { d.flow with opened := (d.flow.opened.set none base (some even)).set none s (some o) }

def Dev.putRecord (d : Dev) (b : Bool) (s r : Nat) : Dev :=
  if recWide r then (d.putSlot b s (r % 2 ^ 448)).putSlot b (s + 1) (r / 2 ^ 448) else d.putSlot b s (r % 2 ^ 448)

/-- SPILL and MATE of both slots of a pair, so that each holds its meaning of R209. -/
def Dev.fixPair (d : Dev) (b : Bool) (s : Nat) : Dev :=
  let o := d.mateOf s
  let x := d.slotAt b s
  let y := d.slotAt b o
  let d := d.putSlot b s (slotMark x (slotKind y ≠ 0 && slotAlt y) (slotKind y ≠ 0))
  d.putSlot b o (slotMark y (slotKind x ≠ 0 && slotAlt x) (slotKind x ≠ 0))

def Dev.fixPairs (d : Dev) (b wide : Bool) (s : Nat) : Dev := (recSlots wide s).foldl (fun d s => d.fixPair b s) d

/-- The slots that a record fills are empty from now on. (DEDUCED, log entry 62) -/
def Dev.clearRecord (d : Dev) (b : Bool) (s : Nat) : Dev :=
  let wide := slotKind (d.slotAt b s) = 2
  let d := (recSlots wide s).foldl (fun d s => d.putSlot b s (slotClear (d.slotAt b s))) d
  d.fixPairs b wide s

/-- First slots of the records that lie in the slots a record at `s` would fill. (DEDUCED, log entry 63) -/
def Dev.occupants (d : Dev) (b wide : Bool) (s : Nat) : List Nat :=
  ((recSlots wide s).filterMap fun x =>
    let k := slotKind (d.slotAt b x)
    if k = 0 then none else if k = 3 then some (x - 1) else some x).eraseDups

/-- The home slot of the record at `s`. -/
def Dev.homeSlot (d : Dev) (b : Bool) (s : Nat) : Nat := if slotAlt (d.slotAt b s) then d.mateOf s else s

/-- Every slot number that holds something in the region in force. -/
def Dev.usedSlots (d : Dev) : List Nat :=
  let base := d.flow.region * 2 ^ 27
  let open_ := d.flow.opened.filterMap fun p => if p.2.isSome then some p.1 else none
  let mem := d.flow.mem.filterMap fun p =>
    if base ≤ p.1 ∧ p.1 < base + 2 ^ 27 ∧ (d.flow.opened.get none (p.1 - base)).isNone then some (p.1 - base) else none
  mem ++ open_

/-- OCC, ALT_RECS, SPILL_SLOTS and ZONE_RECS. -/
def Dev.flowOcc (d : Dev) : Nat := (d.usedSlots.filter fun s => slotKind (d.slotAt false s) ≠ 0).length
def Dev.flowRecords (d : Dev) : List Nat :=
  d.usedSlots.filter fun s => slotKind (d.slotAt false s) = 1 ∨ slotKind (d.slotAt false s) = 2
def Dev.flowAltRecs (d : Dev) : Nat := (d.flowRecords.filter fun s => slotAlt (d.slotAt false s)).length
def Dev.flowSpillSlots (d : Dev) : Nat := (d.usedSlots.filter fun s => slotSpill (d.slotAt false s)).length
def Dev.flowZoneRecs (d : Dev) (z : Nat) : Nat :=
  (d.flowRecords.filter fun s => rZone.get (d.recordAt false s) = z).length

/-! ### Who holds a record (R222, R223) -/

/-- Whether a packet task served before `below`, other than the task with key `self`, has a view of the record at `s`.
(DEDUCED, log entry 63) -/
def Dev.heldBy (d : Dev) (s below : Nat) (self : Option Nat) : Bool :=
  let inc := rIncarn.get (d.recordAt false s)
  d.eng.tasks.any fun p => match p.2 with
    | some t => some p.1 ≠ self && pktKind t.kind && t.view.hit && t.view.slot = s && decide (t.view.served < below) &&
        rIncarn.get t.view.record = inc
    | none => false

/-- Changes of a slot that are not yet in memory. -/
def Dev.unwritten (d : Dev) (s : Nat) : Bool :=
  match d.flow.opened.get none s with | some o => o.lo || o.hi | none => false

/-- Whether a task other than `self` keeps a slot open: its view is of the record there, or of a miss that read the slot as its home
or alternate. A harvest task has such a view too; a flow-end task has none, since its record has ended. (DEDUCED, log entry 63) -/
def Dev.slotInUse (d : Dev) (s : Nat) (self : Option Nat := none) : Bool :=
  d.eng.tasks.any fun p => match p.2 with
    | some t =>
      let v := t.view
      let at_ := fun (x : Nat) => x = s || (v.wide && x + 1 = s)
      (self.isNone || some p.1 ≠ self) && (pktKind t.kind || t.kind = 2) &&
        (at_ v.home || at_ v.slot || (!v.hit && at_ (d.mateOf v.home)))
    | none => false

/-- The record at `s` is open: a task holds its slot in the merger, or changes of it are not written (R222).
(DEDUCED, log entry 63) -/
def Dev.openRec (d : Dev) (s : Nat) (self : Option Nat) : Bool :=
  (recSlots (slotKind (d.slotAt false s) = 2) s).any fun x =>
    d.unwritten x || ((d.flow.opened.get none x).isSome && d.slotInUse x self)

/-! ### Ages (R225) -/

/-- Uptime in 1/64 s, and an uptime in 0.1 ns in that unit. -/
def seenUnits (up : Int) : Nat := toBits 24 (up / 156250000)
def Dev.now64 (d : Dev) : Nat := seenUnits (d.clk.up : Nat)

/-- Age of a record. -/
def Dev.ageOf (d : Dev) (r : Nat) : Nat := (d.now64 + 2 ^ 24 - rSeen.get r) % 2 ^ 24

/-- The timeout of a record's state in s, 0 for never. -/
def Dev.timeoutOf (d : Dev) (r : Nat) : Nat :=
  let c := rState.get r % 16
  bitsOf (d.num (FLOW.TIMEOUT.ix2 (rProfile.get r) (c / 2))) (c % 2 * 16) 16

/-- The pair that the sweeper visits belongs to the first sweep after a long SPORE (R63). (DEDUCED, log entry 67) -/
def Dev.longNow (d : Dev) : Bool := d.spore.long && (d.spore.longMid || decide (d.flow.pair < d.spore.longEnd))

/-- A record is due under R225. In the first sweep after a long SPORE every finite timeout has run out (R63). -/
def Dev.recDue (d : Dev) (r : Nat) : Bool :=
  rPinned.get r = 0 && d.timeoutOf r ≠ 0 && (d.longNow || decide (64 * d.timeoutOf r ≤ d.ageOf r))

/-! ### Placement (R219) -/

/-- Whether each record of a side may be evicted: neither PINNED nor open. (DEDUCED, log entry 63) -/
def Dev.evictable (d : Dev) (b : Bool) (self : Option Nat) (l : List Nat) : Bool :=
  l.all fun s => rPinned.get (d.recordAt b s) = 0 && (b || !d.openRec s self)

/-- The age that decides which side gives way: that of its youngest record. (DEDUCED, log entry 63) -/
def Dev.sideAge (d : Dev) (b : Bool) (l : List Nat) : Nat :=
  (l.map fun s => d.ageOf (d.recordAt b s)).foldl min (2 ^ 24)

/-- Where a record goes whose home slot is `home`, and the records evicted for it; none where both sides stay (R219). The zone's
EVICT is that of the generation `gen` (R81, R229). (DEDUCED, log entry 63) -/
def Dev.place (d : Dev) (gen : Nat) (b : Bool) (home : Nat) (wide : Bool) (zone : Nat) (self : Option Nat) :
    Dev × Option (Nat × List Nat) :=
  let alt := d.mateOf home
  let h := d.occupants b wide home
  if h = [] then (d, some (home, []))
  else if !((recSlots wide home).any fun s => slotMate (d.slotAt b s)) then (d, some (alt, []))
  else
    let a := d.occupants b wide alt
    let eh := d.evictable b self h
    let ea := d.evictable b self a
    if !eh && !ea then (d, none)
    else if !ea then (d, some (home, h))
    else if !eh then (d, some (alt, a))
    else if bitOf (d.numAt gen FLOW.ZONE_CFG zone) 0 then
      (d.drawn, some (if d.rng.toNat % 2 = 0 then (home, h) else (alt, a)))
    else if d.sideAge b h < d.sideAge b a ∨ (d.sideAge b h = d.sideAge b a ∧ alt < home) then (d, some (alt, a))
    else (d, some (home, h))

/-! ### The copy that a rebuild makes (R217) -/

def Dev.rebuilding (d : Dev) : Bool := d.opState FLOW.REBUILD_STAT = 1

/-- The record's pair lies behind the cursor. -/
def Dev.behind (d : Dev) (s : Nat) : Bool :=
  d.rebuilding && (d.flow.copied || decide (d.pairOf s < d.flow.cursor))

/-- Where the copy of the record at `s` lies in region B. -/
def Dev.copyOf (d : Dev) (s : Nat) : Option Nat := d.flow.copies.get none s

def Dev.setCopy (d : Dev) (s : Nat) (c : Option Nat) : Dev := d.setFlow { d.flow with copies := d.flow.copies.set none s c }

/-- The copy at slot `c` of region B gives way to another record. -/
def Dev.dropCopy (d : Dev) (c : Nat) : Dev :=
  (d.clearRecord true c).setFlow
    { (d.clearRecord true c).flow with copies := d.flow.copies.filter fun p => p.2 ≠ some c }

/-- A record with slot state taken from what its slots will be. -/
def recMark (r : Nat) (wide alt : Bool) : Nat :=
  let r := setBits (setBits r 0 5 (if wide then 2 else 1)) 3 1 (bit alt)
  if wide then setBits (setBits r 448 5 3) 451 1 (bit alt) else r

/-- The record at `s` is copied into region B under the new keys, as far as there is room. -/
def Dev.mirrorInsert (d : Dev) (s r : Nat) : Dev :=
  let home := d.homeOf d.flow.nkp d.flow.nkl (recConn r)
  match d.place d.cgen true home (recWide r) (rZone.get r) none with
  | (d, none) => d
  | (d, some (c, out)) =>
    let d := out.foldl Dev.dropCopy d
    ((d.putRecord true c (recMark r (recWide r) (c ≠ home))).fixPairs true (recWide r) c).setCopy s (some c)

/-- Slot state of the slots that a record at `s` fills, put over the record's own. -/
def Dev.keepMarks (d : Dev) (b : Bool) (s r : Nat) : Nat :=
  let r1 := setBits r 0 5 (d.slotAt b s % 32)
  if recWide r then setBits r1 448 5 (d.slotAt b (s + 1) % 32) else r1

/-- A change of the record at `s` reaches its copy. -/
def Dev.mirrorUpdate (d : Dev) (s r : Nat) : Dev :=
  match d.copyOf s with
  | some c => d.putRecord true c (d.keepMarks true c r)
  | none => d
def Dev.mirrorRemove (d : Dev) (s : Nat) : Dev :=
  match d.copyOf s with
  | some c => d.dropCopy c
  | none => d

/-- The record at `s` becomes `r`; slot state stays. -/
def Dev.updateRecord (d : Dev) (s r : Nat) : Dev :=
  let d := d.putRecord false s (d.keepMarks false s r)
  if d.behind s then d.mirrorUpdate s r else d

/-! ### Tasks that the merger creates (R224, R226, R244) -/

/-- A task about a record, in the frond that owns its slot; a kind without a valid ENTRY gets none (R244).
(DESIGN CHOICE, log entry 66) -/
def Dev.recordTask (d : Dev) (kind s home r : Nat) (args : List Byte) (reason : Nat) : Dev :=
  if !d.entryOk d.cgen kind then d else
  let v : View := { home := home, slot := s, record := r, hit := true, wide := recWide r, served := d.flow.served + 1 }
  (d.createTask (frondOf s)
    { kind := kind, prio := d.kindPrio kind, epoch := d.num (COMMIT 0) % 65536, cgen := d.cgen,
      args := args ++ List.replicate (64 - args.length) 0, view := v, reason := reason } true).1

/-- The record at `s` ends with a reason of R226: its slots are empty and its copy goes, the peer hears of it unless it asked
for it, and a flow-end task carries it. -/
def Dev.endRecord (d : Dev) (s kind reason : Nat) (remote : Bool) : Dev :=
  let r := d.recordAt false s
  let home := d.homeSlot false s
  let d := if d.behind s then d.mirrorRemove s else d
  let d := d.clearRecord false s
  let d := if remote then d else d.localChange kind reason home s r
  d.recordTask 3 s home r (leBytes 1 reason) reason

/-- Reserved bits of a record are 0. (DEDUCED, log entry 62) -/
def recClean (r : Nat) : Nat :=
  if recWide r then setBits (setBits (r % 2 ^ 896) 444 4 0) 517 155 0 else setBits (r % 2 ^ 448) 220 4 0

/-- A record is inserted under R219; INCARN and VERSION are one more than what the slot held.
The answer is the slot it took and the record there. (DEDUCED, log entry 62) -/
def Dev.insertRecord (d : Dev) (gen home : Nat) (wide : Bool) (draft : Nat) (self : Option Nat) (remote : Bool) :
    Dev × Option (Nat × Nat) :=
  let before := d.flowOcc
  let r := recMark draft wide false
  match d.place gen false home wide (rZone.get r) self with
  | (d, none) => ((d.flowCnt 9).raise FLOW.int_INS_FAIL, none)
  | (d, some (s, out)) =>
    let d := out.foldl (fun d s => (d.flowCnt 8).endRecord s 3 2 false) d
    let was := recMark (d.slotAt false s + (if wide then d.slotAt false (s + 1) * 2 ^ 448 else 0)) wide false
    let r := recClean (recMark draft wide (s ≠ home))
    let r := rVersion.put (rIncarn.put r (rIncarn.get was + 1)) (rVersion.get was + 1)
    let d := (d.putRecord false s r).fixPairs false wide s
    let d := d.flowCnt 6
    let d := if s ≠ home then d.flowCnt 7 else d
    let d := if remote then d else d.localChange 0 0 home s r
    let d := if d.behind s then d.mirrorInsert s r else d
    let th := d.fld FLOW.OCC_TH_OCC_HIGH
    let d := if before < th ∧ th ≤ d.flowOcc then d.raise FLOW.int_OCC_HIGH else d
    (d, some (s, d.recordAt false s))

/-! ### Deltas (R223, R224, R241) -/

/-- A counter after an addition, and whether it would have passed its maximum. -/
def addSat (len x n : Nat) : Nat × Bool := if 2 ^ len ≤ x + n then (2 ^ len - 1, true) else (x + n, false)

/-- A record after the delta of one packet, and how many of its additions would have passed a maximum (R224). -/
def packetDelta (r dir bytes seen : Nat) : Nat × Nat :=
  let pf := if dir = 1 then rPktR else rPktF
  let bf := if dir = 1 then rByteR else rByteF
  let (p, s1) := addSat 32 (pf.get r) 1
  let (b, s2) := addSat 40 (bf.get r) bytes
  let r := bf.put (pf.put r p) b
  let r := if (seen + 2 ^ 24 - rSeen.get r) % 2 ^ 24 < 2 ^ 23 then rSeen.put r seen else r
  let r := if dir = 1 then rRetSeen.put r 1 else r
  (if s1 || s2 then rSat.put r 1 else r, bit s1 + bit s2)

/-- A counter stands at 7/8 of its range. -/
def nearFull (r : Nat) : Bool :=
  decide (0xE0000000 ≤ rPktF.get r) || decide (0xE0000000 ≤ rPktR.get r) || decide (0xE000000000 ≤ rByteF.get r) ||
    decide (0xE000000000 ≤ rByteR.get r)

/-- The four counters as a harvest carries them. -/
def counterBytes (r : Nat) : List Byte :=
  leBytes 4 (rPktF.get r) ++ leBytes 4 (rPktR.get r) ++ leBytes 6 (rByteF.get r) ++ leBytes 6 (rByteR.get r)

/-- A harvest begins where an addition leaves a counter near its maximum and EN of the packet's generation is 1 (R81, R224). The
harvest task has the epoch in force (R236). (DESIGN CHOICE, log entry 66) -/
def Dev.harvest (d : Dev) (gen s : Nat) : Dev :=
  let r := d.recordAt false s
  if nearFull r && rHarv.get r = 0 && bitOf (d.numAt gen FLOW.HARVEST_CFG) 0 then
    let r := rHarv.put r 1
    let d := d.updateRecord s r
    if d.entryOk d.cgen 2 then (d.flowCnt 13).recordTask 2 s (d.homeSlot false s) r (counterBytes r) 5 else d
  else d

/-- The slot of a view still holds its incarnation (R223). -/
def Dev.viewLives (d : Dev) (v : View) : Bool :=
  let r := d.recordAt false v.slot
  decide (r ≠ 0) && recWide r = v.wide && rIncarn.get r = rIncarn.get v.record

/-- A delta reaches the merger with the INCARN of its view (R223). -/
def Dev.delta (d : Dev) (v : View) (f : Nat → Nat × Nat) : Dev :=
  if d.viewLives v then
    let (r, sat) := f (d.recordAt false v.slot)
    let d := d.updateRecord v.slot r
    if sat = 0 then d else (d.bump (FLOW.CNT.ix 14) 0 sat).raise FLOW.int_SAT
  else d.flowCnt 15

/-- The standard packet delta of a task's frame: the frame's length as received and its ingress time, on the scale of
uptime. -/
def Dev.packetUpdate (d : Dev) (v : View) (f : Frame) : Dev :=
  let ago : Int := (d.nowNs : Int) - (f.stamp : Nat)
  let seen := seenUnits ((d.clk.up : Int) - ago * 10)
  let lives := d.viewLives v
  let d := d.delta v fun r => packetDelta r v.dir f.len seen
  if lives then d.harvest f.gen v.slot else d

/-- The harvest delta: what META bytes 0 to 19 say was reported is subtracted (R224, R239).
(DESIGN CHOICE, log entry 66) -/
def Dev.harvestUpdate (d : Dev) (v : View) (args : List Byte) : Dev :=
  let num := fun (at_ n : Nat) => leNat ((args.drop at_).take n)
  d.delta v fun r =>
    let r := rPktF.put r (rPktF.get r - num 0 4)
    let r := rPktR.put r (rPktR.get r - num 4 4)
    let r := rByteF.put r (rByteF.get r - num 8 6)
    let r := rByteR.put r (rByteR.get r - num 14 6)
    (rHarv.put r 0, 0)

/-! ### Control updates (R223, R238) -/

/-- The fields that a control update changes: what no delta writes, and no key or slot state. -/
def ctlFields : List RecFld := [rType, rProg, rBackend, rState, rProfile, rPinned, rSat, rSpare]

/-- The key fields, fixed once a record has been inserted. -/
def keyFields : List RecFld := [rZone, rProto, rPortA, rPortB, rAddrA, rAddrB, rXaddr, rXport, rXmode]

/-- Whether a draft changes a key field of its view. KIND is slot state. (DEDUCED, log entry 65) -/
def keyChanged (view draft : Nat) : Bool := keyFields.any fun f => f.get view ≠ f.get (recMark draft (recWide view) false)

/-- The record with the fields of a draft that differ from the view taken over. (DEDUCED, log entry 65) -/
def applyDraft (view draft r : Nat) : Nat :=
  let dr := recMark draft (recWide view) false
  ctlFields.foldl (fun r f => if f.get dr = f.get view then r else f.put r (f.get dr)) r

/-- The view's record still stands with the view's VERSION. -/
def Dev.versionHolds (d : Dev) (v : View) : Bool :=
  v.hit && d.viewLives v && rVersion.get (d.recordAt false v.slot) = rVersion.get v.record

/-- A refusal is counted (R223, R425). (DEDUCED, log entry 65) -/
def Dev.conflict (d : Dev) (s : Nat) : Dev := (d.flowCnt 12).perf (islandOfFrond (frondOf s)) 0x10C

/-- A record changes by a control update: VERSION counts it. (DEDUCED, log entry 65) -/
def Dev.controlChange (d : Dev) (s r : Nat) (remote : Bool) : Dev :=
  let r := rVersion.put r (rVersion.get r + 1)
  let d := d.updateRecord s r
  if remote then d else d.localChange 1 0 (d.homeSlot false s) s (d.recordAt false s)

/-! ### Updates that wait for requests served earlier (R223) -/

/-- A host command takes effect (R230): 0 DELETE, 1 PIN, 2 UNPIN. -/
def Dev.flowCmdApply (d : Dev) (op s incarn : Nat) : Dev :=
  let r := d.recordAt false s
  let done := fun (d : Dev) (code : Nat) => (d.setNum FLOW.CMD_STAT (code * 2)).raise FLOW.int_CMD_DONE
  if 2 * d.altMask ≤ s ∧ s < 2 ^ 27 then done d 3
  else if r = 0 ∨ rIncarn.get r ≠ incarn then done d 1
  else if op = 0 then done (d.endRecord s 2 4 false) 0
  else done (d.controlChange s (rPinned.put r (if op = 1 then 1 else 0)) false) 0

/-- An ageing removal takes effect where its condition still holds (R225). -/
def Dev.ageApply (d : Dev) (s : Nat) : Dev :=
  let r := d.recordAt false s
  if r ≠ 0 ∧ d.recDue r then (d.flowCnt 10).endRecord s 2 1 false else d.flowCnt 11

def Dev.heldApply (d : Dev) (h : HeldUpd) : Dev :=
  match h with
  | .cmd op s incarn => d.flowCmdApply op s incarn
  | .age s => d.ageApply s

def HeldUpd.slot (h : HeldUpd) : Nat := match h with | .cmd _ s _ => s | .age s => s

/-- An update of the table's own is made at once, or waits for the tasks that were served the record before.
(DEDUCED, log entry 65) -/
def Dev.ownUpdate (d : Dev) (h : HeldUpd) : Dev :=
  if d.heldBy h.slot (d.flow.served + 1) none then
    d.setFlow { d.flow with held := d.flow.held ++ [(d.flow.served + 1, h)] }
  else d.heldApply h

/-- Updates whose tasks have all ended are made, in order. (DEDUCED, log entry 65) -/
def Dev.drainHeld (fuel : Nat) (d : Dev) : Dev :=
  match fuel with
  | 0 => d
  | n + 1 =>
    match d.flow.held.find? fun x => !d.heldBy x.2.slot x.1 none with
    | none => d
    | some x => Dev.drainHeld n ((d.setFlow { d.flow with held := d.flow.held.filter (· ≠ x) }).heldApply x.2)

def Dev.drainUpdates (d : Dev) : Dev := Dev.drainHeld (d.flow.held.length + 1) d

/-! ### Writing back and closing (R222) -/

/-- An entry that nobody holds and that has nothing to be written closes, both halves together; a resync that waited for it goes on
(R420). -/
def Dev.closeSlot (d : Dev) (s : Nat) : Dev :=
  let l := d.entrySlots s
  if l.any fun x => d.slotInUse x || d.unwritten x then d
  else (d.setFlow { d.flow with opened := l.foldl (fun m x => m.set none x none) d.flow.opened }).resyncAsk

/-- Whether a slot has a change that has waited 4 µs. -/
def Dev.writeDue (d : Dev) (s : Nat) : Bool :=
  match d.flow.opened.get none s with
  | some o => (o.lo || o.hi) && decide (o.since + 40000 ≤ d.clk.up)
  | none => false

/-- The changed halves of one slot are written. -/
def Dev.writeHalves (d : Dev) (s : Nat) : Dev :=
  match d.flow.opened.get none s with
  | some o =>
    if o.lo || o.hi then
      let d := d.slotStore s o.value (bit o.lo + bit o.hi)
      d.setFlow { d.flow with opened := d.flow.opened.set none s (some { o with lo := false, hi := false }) }
    else d
  | none => d

/-- The changed halves of an entry are written: 4 µs after the first unwritten change, or when nobody holds the entry.
(DEDUCED, log entry 69) -/
def Dev.writeBack (d : Dev) (s : Nat) : Dev :=
  let l := d.entrySlots s
  if (d.flow.opened.get none s).isNone || (l.any (fun x => d.slotInUse x) && !l.any d.writeDue) then d
  else (l.foldl Dev.writeHalves d).closeSlot s

/-- MERGER_WRITE_BACK (R222). -/
def execMergerWriteBack (slot : Nat) (s : State) : Host.Outcome State Fault Refusal := s.run fun d => d.writeBack (slot % 2 ^ 27)

end Sys2Proof.Machine
end

