-- ==== Sys2Proof/Machine/FlowReq.lean ====
section
/-! DEFINITION. Flow requests (R212, R213, R218, R231, R244): the lookup, its hit or miss, reservations, and the task. -/

namespace Sys2Proof.Machine

/-- What a frame's flow request asks for, from the extraction area (R212). Bytes beyond the area read 0. -/
def Dev.flowConn (d : Dev) (f : Frame) : Conn :=
  let kc := d.numAt f.gen FLOW.KEY_CFG
  let v6 := d.ipVersion f = 6
  let n := if v6 then 16 else 4
  let at_ := kc % 64
  let proto := byteAt f.ctx.ext (bitsOf kc 6 6)
  let ports := bitsOf kc 12 6
  let has := proto = 6 || proto = 17 || proto = 132
  let port := fun (o : Nat) => if has then beAt f.ctx.ext (ports + o) 2 else 0
  let zone := match bitsOf kc 18 2 with
    | 0 => f.ctx.vrf
    | 1 => f.ctx.domain
    | _ => beAt f.ctx.ext (bitsOf kc 20 6) 2 % 4096
  { v6 := v6, zone := zone % 4096, proto := proto, src := ⟨beAt f.ctx.ext at_ n, port 0⟩,
    dst := ⟨beAt f.ctx.ext (at_ + n) n, port 2⟩ }

/-- Whether a frame makes a flow request (R212). -/
def Dev.wantsFlow (d : Dev) (f : Frame) : Bool :=
  d.enabled 0x30 && !d.on FLOW.KEY_STAT_DISABLED && decide (resAct f.ctx.res ≤ 1) && !resNoFlow f.ctx.res &&
    (d.ipVersion f = 4 || d.ipVersion f = 6)

/-- The frame keeps its classifier result (R212, R244). -/
def Dev.flowDone (d : Dev) (k : Nat) : Dev := d.updFrame k fun f => { f with stage := .edit }

/-- Whether a frond dispatches tasks (R244). -/
def Dev.frondRuns (d : Dev) (c : Nat) : Bool := d.enabled 0x31 && bitOf (d.num FENG.RUN) c

/-- Connections that tasks hold reservations of (R231). -/
def Dev.reserved (d : Dev) (key : Nat) : Bool :=
  d.eng.tasks.any fun p => match p.2 with | some t => t.view.resv = some key | none => false

/-- A slot is opened by a request: read from memory, or served from the cache as a merged read (R222).
(DEDUCED, log entry 64) -/
def Dev.openSlot (d : Dev) (s : Nat) : Dev × Bool :=
  match d.flow.opened.get none s with
  | some _ => ((d.flowCnt 5).perf (islandOfChannel (d.slotPlace s).1) 0x1C2, true)
  | none =>
    let v := d.memSlot d.flow.region s
    ((d.setFlow { d.flow with opened := d.flow.opened.set none s (some { value := v }) }).slotRead s, false)

/-- The odd half of a wide place joins the entry of the even slot: read from memory where it is not open. -/
def Dev.openHalf (d : Dev) (s : Nat) : Dev :=
  match d.flow.opened.get none s with
  | some o => d.setFlow { d.flow with opened := d.flow.opened.set none s (some { o with half := true }) }
  | none =>
    (d.setFlow { d.flow with opened := d.flow.opened.set none s (some { value := d.memSlot d.flow.region s, half := true }) }).slotRead s

/-- A place is opened: one request, to the merger of the even slot where the place is wide (R210, R399). -/
def Dev.openAll (d : Dev) (wide : Bool) (s : Nat) : Dev × Bool :=
  let (d, merged) := d.openSlot s
  (if wide then d.openHalf (s + 1) else d, merged)

/-- The record of a slot ends without export: its slots are empty with SPILL 1 and MATE as the pair's other slot says, and that
slot's MATE is cleared (R400, R468). -/
def Dev.emptySlot (d : Dev) (s : Nat) : Dev :=
  let first := if slotKind (d.slotAt false s) = 3 then s - 1 else s
  let wide := slotKind (d.slotAt false first) = 2
  let d := if d.behind first ∧ d.recordAt false first ≠ 0 then d.mirrorRemove first else d
  (recSlots wide first).foldl (fun d s =>
    let o := d.mateOf s
    let d := d.putSlot false s (slotMark (slotClear (d.slotAt false s)) true (slotKind (d.slotAt false o) ≠ 0))
    d.putSlot false o (setBits (d.slotAt false o) 4 1 0)) d

/-- The slot of a place in which a word that reads with errors lies: a slot holds four guard words. -/
def badHalf (wide : Bool) (s : Nat) (w : BadWord) : Nat := if wide && bitOf w.word 2 then s + 1 else s

/-- Whether the slot of a word that reads with errors was open before it was read. -/
def Dev.wordCached (d : Dev) (wide : Bool) (s : Nat) (ue : Option BadWord) : Bool :=
  match ue with
  | some w => (d.flow.opened.get none (badHalf wide s w)).isSome
  | none => false

/-- An uncorrectable word of a slot is counted where the slot was read: in the merger's cache, or in its channel.
(DEDUCED, log entry 69) -/
def Dev.slotUe (d : Dev) (s : Nat) (w : BadWord) (cached : Bool) : Dev :=
  let (ch, addr) := d.slotPlace s
  if cached then d.sramUe (islandOfChannel ch) 11 s
  else d.memUe ch (addr + 16 * (w.word % 4) / 32 * 32) w.word w.sym0 w.sym1

/-- A slot read uncorrectably: its record is lost (R468). (DEDUCED, log entry 69) -/
def Dev.loseSlot (d : Dev) (s : Nat) (w : BadWord) (cached : Bool) : Dev := ((d.slotUe s w cached).emptySlot s).bump FUSE.REC_LOST

/-- A word of a slot read corrected: a slot in its merger counts with the caches, one in memory with its channel, where a
write-back may follow (R397, R467). -/
def Dev.slotCe (d : Dev) (s : Nat) (w : BadWord) (cached : Bool) : Dev :=
  let ch := (d.slotPlace s).1
  if cached then d.sramCe (islandOfChannel ch) else d.memCe ch w.sym0 (d.on MEMC.CH_CFG_CE_WRITEBACK ch)

/-- A bad word of a place: corrected, and the place is as it was, or the record of its slot is lost. `cached` says that the slot was
open before. -/
def Dev.slotError (d : Dev) (wide : Bool) (s : Nat) (ue : Option BadWord) (cached : Bool) : Dev × Bool :=
  match ue with
  | none => (d, false)
  | some w =>
    if oneSymbol w then (d.slotCe (badHalf wide s w) w cached, false) else (d.loseSlot (badHalf wide s w) w cached, true)

/-- A place is opened and read; the answer says whether it was open, and whether its record was lost. -/
def Dev.readAll (d : Dev) (wide : Bool) (s : Nat) (ue : Option BadWord) : Dev × Bool × Bool :=
  let cached := d.wordCached wide s ue
  let (d, merged) := d.openAll wide s
  let (d, lost) := d.slotError wide s ue cached
  (d, merged, lost)

/-- The lookup (R218): the slot of the record that matches and the direction, or a miss. `ue` names words that read
with errors, of the home slot and of the alternate. (DEDUCED, log entry 64) -/
def Dev.lookup (d : Dev) (q : Conn) (home : Nat) (ue : Option BadWord × Option BadWord) : Dev × Option (Nat × Nat) :=
  match (d.flowCnt 0).readAll q.v6 home ue.1 with
  | (d, _, true) => (d.flowCnt 3, none)
  | (d, _, false) =>
    match matchDir (d.recordAt false home) q with
    | some dir => (d.flowCnt 1, some (home, dir))
    | none =>
      if !slotSpill (d.slotAt false home) then (d.flowCnt 3, none) else
      let alt := d.mateOf home
      match d.readAll q.v6 alt ue.2 with
      | (d, merged, lost) =>
        let d := if merged then d else d.flowCnt 4
        if lost then (d.flowCnt 3, none) else
        match matchDir (d.recordAt false alt) q with
        | some dir => (d.flowCnt 2, some (alt, dir))
        | none => (d.flowCnt 3, none)

/-- Whether an insert reads the alternate: the pair is full, and the lookup has not already read it (R219, R221). -/
def Dev.readsAlt (d : Dev) (home : Nat) (wide : Bool) : Bool :=
  d.occupants false wide home ≠ [] && ((recSlots wide home).any fun s => slotMate (d.slotAt false s)) &&
    (d.flow.opened.get none (d.mateOf home)).isNone

/-- The alternate is read for an insert into a full pair; `ue` names a word of it that reads with errors. Where its merger has no room
the place is read and not opened. (DEDUCED, log entry 64) -/
def Dev.insertRead (d : Dev) (home : Nat) (wide : Bool) (ue : Option BadWord) : Dev :=
  let alt := d.mateOf home
  if !d.readsAlt home wide then d
  else if d.noEntry alt then (((recSlots wide alt).foldl Dev.slotRead d).slotError wide alt ue false).1
  else (d.readAll wide alt ue).1

/-- What a request will meet (R218): whether it reads the alternate, and the slot of the record that it finds. A word that reads
uncorrectably loses its record (R468). -/
def Dev.foresee (d : Dev) (q : Conn) (home : Nat) (ue : Option BadWord × Option BadWord) : Bool × Option Nat :=
  let lost := fun (x : Option BadWord) => match x with | some w => !oneSymbol w | none => false
  let mate := d.mateOf home
  if lost ue.1 then (false, none)
  else if (matchDir (d.recordAt false home) q).isSome then (false, some home)
  else if !slotSpill (d.slotAt false home) then (false, none)
  else (true, if lost ue.2 || (matchDir (d.recordAt false mate) q).isNone then none else some mate)

/-- A packet task is created (R262). -/
def Dev.packetTask (d : Dev) (c kind k : Nat) (f : Frame) (v : View) : Dev :=
  let t : Task := { kind := kind, prio := d.kindPrio kind, epoch := f.epoch, cgen := f.gen, desc := some k, view := v, tag := f.tag }
  let (d, i) := (d.taskCnt c 0).placeTask c t
  let id := match d.task c i with | some t => t.id i | none => noId
  let island := islandOfChannel (d.slotPlace v.slot).1
  let d := (d.crossed island 5 f.tag k v.home).opSample island 1 0 id 0 v.home
  let ctx := { f.ctx with home := v.home, dir := v.dir, wide := v.wide, task := some (c * 4096 + i) }
  d.updFrame k fun f => { f with stage := .flow, ctx := ctx }

/-- The slots that a request without a task opened close. -/
def Dev.closePair (d : Dev) (wide : Bool) (home : Nat) : Dev :=
  (recSlots wide home ++ recSlots wide (d.mateOf home)).foldl Dev.closeSlot d

/-- The home slot of a frame's connection, as its pipeline finds it (R212 to R214). -/
def Dev.homeFor (d : Dev) (f : Frame) : Nat := (d.anchorView f.ctx.pipe).homeOf d.flow.kp d.flow.kl (d.flowConn f)

/-- What a request waits for before it is served, none where it is served now: earlier requests for its slot (R222), room in the
mergers (R222), a merger that waits for room in a ring (R263), or a task record, where it needs one (R262). (DEDUCED, log entry 64) -/
def Dev.reqBlock (d : Dev) (k : Nat) (f : Frame) (ue : Option BadWord × Option BadWord) : Option ReqBlock :=
  let q := d.flowConn f
  let home := d.homeFor f
  let mate := d.mateOf home
  let (alt, at_) := d.foresee q home ue
  let c := frondOf (at_.getD home)
  let task := if at_.isSome then d.frondRuns c else d.entryOk f.gen (if q.v6 then 1 else 0)
  let earlier := (d.flow.arrivals.takeWhile (· ≠ k)).any fun j => match d.frame j with
    | some g => g.stage = .request && d.homeFor g = home
    | none => false
  if earlier then some .order
  else if d.noEntry home || (alt && d.noEntry mate) then some .room
  else if d.mergerWaits home || (alt && d.mergerWaits mate) then some .ring
  else if task && d.storeFree c = 0 then some (.store c)
  else none

/-- A request waits at its merger, in its place among those that do; the cycles that it waits for room or for a record are not in the
model, so the counter that counts them is open from now on (R222, R262). (DESIGN CHOICE, log entry 123) -/
def Dev.reqWait (d : Dev) (k : Nat) (b : ReqBlock) : Dev :=
  let l := d.flow.arrivals
  let d := (d.setFlow { d.flow with arrivals := if l.contains k then l else l ++ [k] }).updFrame k fun f => { f with stage := .request }
  match b with
  | .room => (d.counts ((FLOW.CNT.ix 18).key 0 0)).raise FLOW.int_MERGE_FULL
  | .store c => d.counts ((TASK.CNT.ix 11).key 0 c)
  | .order | .ring => d

/-- A request waits no more. -/
def Dev.reqDone (d : Dev) (k : Nat) : Dev := d.setFlow { d.flow with arrivals := d.flow.arrivals.filter (· ≠ k) }

/-- A request reaches its home merger, its stage record left at its arrival (R431). -/
def Dev.reqArrives (d : Dev) (k : Nat) (f : Frame) (home : Nat) : Dev :=
  let d := if f.ctx.asked then d else (d.reqDone k).crossed (islandOfChannel (d.slotPlace home).1) 4 f.tag k home
  d.updFrame k fun f => { f with ctx := { f.ctx with home := home, asked := true } }

/-- A request is served at its home merger, or waits there, or for the end of a reservation of its connection (R231).
(DEDUCED, log entry 64) -/
def Dev.flowServe (d : Dev) (k : Nat) (ue : Option BadWord × Option BadWord) : Dev :=
  match d.frame k with
  | none => d
  | some f =>
    let q := d.flowConn f
    let home := d.homeFor f
    let c := frondOf home
    let d := d.reqArrives k f home
    let f := { f with ctx := { f.ctx with home := home, asked := true } }
    if !d.frondRuns c then (d.reqDone k).flowDone k
    else if d.reserved q.pairKey then
      let d := d.reqDone k
      ((d.setFlow { d.flow with waiting := d.flow.waiting ++ [k] }).flowCnt 19).updFrame k fun f => { f with stage := .flow }
    else match d.reqBlock k f ue with
    | some b => d.reqWait k b
    | none =>
      let d := d.reqDone k
      let d := d.setFlow { d.flow with served := d.flow.served + 1 }
      match d.lookup q home ue with
      | (d, some (s, dir)) =>
        let c := frondOf s
        if !d.frondRuns c then (d.closePair q.v6 home).flowDone k else
        d.packetTask c 16 k f { home := home, slot := s, record := d.recordAt false s, hit := true, wide := q.v6, dir := dir,
                                served := d.flow.served }
      | (d, none) =>
        let kind := if q.v6 then 1 else 0
        if !d.entryOk f.gen kind then (d.closePair q.v6 home).flowDone k else
        d.packetTask c kind k f { home := home, slot := home, record := 0, hit := false, wide := q.v6, dir := 0,
                                  served := d.flow.served, resv := some q.pairKey }

/-- FLOW_REQUEST (R218): `home` and `alt` name words of the two slots that read uncorrectably. -/
def execFlowRequest (desc : Nat) (home alt : Option BadWord) (s : State) : Host.Outcome State Fault Refusal :=
  s.run fun d => match d.frame desc with
    | some f => if f.stage = .request then d.flowServe desc (home, alt) else d
    | none => d

/-- Requests whose reservation has ended are served, in order of arrival (R231). (DEDUCED, log entries 16, 64) -/
def Dev.serveWaiting (fuel : Nat) (d : Dev) : Dev :=
  match fuel with
  | 0 => d
  | n + 1 =>
    let ready := d.flow.waiting.find? fun k => match d.frame k with
      | some f => !d.reserved (d.flowConn f).pairKey
      | none => true
    match ready with
    | none => d
    | some k => Dev.serveWaiting n ((d.setFlow { d.flow with waiting := d.flow.waiting.filter (· ≠ k) }).flowServe k (none, none))

/-- A task no longer holds its view or its reservation: what waited for it goes on. -/
def Dev.viewReleased (d : Dev) (v : View) : Dev :=
  let d := (recSlots v.wide v.home).foldl Dev.closeSlot d
  let d := (recSlots v.wide v.slot).foldl Dev.closeSlot d
  let d := (recSlots v.wide (d.mateOf v.home)).foldl Dev.closeSlot d
  let d := d.drainUpdates
  Dev.serveWaiting (d.flow.waiting.length + 1) d

end Sys2Proof.Machine
end

