-- ==== Sys2Proof/Machine/FlowWalk.lean ====
section
/-! DEFINITION. Walks over the flow table and its host commands: the ageing sweep (R225), the rebuild under new keys (R217),
DELETE, PIN and UNPIN (R230), and SOFT_RESET of FLOW (R229). -/

namespace Sys2Proof.Machine

/-! ### The sweep (R225) -/

/-- A pass begins at slot 0. -/
def Dev.sweepBegin (d : Dev) : Dev :=
  (d.setFlow { d.flow with pair := 0, began := d.clk.up, aborted := false }).startOp FLOW.SWEEP_STAT

/-- A pass is cut short: the first sweep after a long SPORE is then a whole one. (DEDUCED, log entry 67) -/
def Dev.longRestart (d : Dev) : Dev :=
  if d.spore.longMid then d.setSpore { d.spore with longMid := false, longEnd := 2 ^ 32 } else d

/-- SWEEP_START (R230): a pass begins now, in place of one that runs. (DEDUCED, log entry 67) -/
def Dev.sweepStart (d : Dev) : Dev := d.longRestart.sweepBegin
def execSweepStart (s : State) : Host.Outcome State Fault Refusal := s.act fun d => d.access 0x30 Dev.sweepStart

/-- An abort: the next pass begins PERIOD seconds after this one began (R225). -/
def Dev.sweepAbort (d : Dev) : Dev :=
  d.abortOp FLOW.SWEEP_STAT 0 fun d => (d.setFlow { d.flow with aborted := true }).longRestart
def execSweepAbort (s : State) : Host.Outcome State Fault Refusal := s.act fun d => d.access 0x30 Dev.sweepAbort

/-- An age query goes to the peer about the record at `s` (R418). -/
def Dev.ageQuery (d : Dev) (s : Nat) : Dev :=
  let r := d.recordAt false s
  let inc := rIncarn.get r
  if d.tandem.queries.any fun q => q.1 = s && q.2.1 = inc then d else
  let bs := leBytes 4 (d.homeSlot false s) ++ (if recWide r then leBytes 40 (bitsOf r 0 316) else leBytes 16 (bitsOf r 0 124))
  (d.setTandem { d.tandem with queries := d.tandem.queries ++ [(s, inc, d.clk.up)] }).emit (.peer 3 bs)

/-- The ageing of one slot's record: in JOINED the peer is asked before it is removed (R418). -/
def Dev.sweepAge (d : Dev) (s : Nat) : Dev :=
  let r := d.recordAt false s
  if r = 0 ∨ !d.recDue r then d
  else if d.tState = 5 then d.ageQuery s
  else d.ownUpdate (.age s)

/-- Slot `s` takes what slot `t` holds and the other way round, with ALT turned over in what moved.
(DEDUCED, log entry 67) -/
def Dev.swapSlots (d : Dev) (s t : Nat) : Dev :=
  let turn := fun (v : Nat) => if slotKind v = 0 then v else setBits v 3 1 (1 - bitsOf v 3 1)
  let x := d.slotAt false s
  let y := d.slotAt false t
  let d := (d.putSlot false s (turn y)).putSlot false t (turn x)
  (d.setCopy s (d.copyOf t)).setCopy t (d.copyOf s)

/-- A pair is normalised (R225): where every record of the pair lies away from its home they change places, and otherwise
the displaced one is already the only one that does. SPILL and MATE are rewritten. A pair that holds an open record is left as it is.
(DEDUCED, log entry 67) -/
def Dev.normalise (d : Dev) (s : Nat) : Dev :=
  let o := d.mateOf s
  let kinds := [slotKind (d.slotAt false s), slotKind (d.slotAt false o)]
  if kinds.contains 3 then d else
  let wide := kinds.contains 2
  let occ := d.occupants false wide s ++ d.occupants false wide o
  if occ.any fun x => d.openRec x none then d
  else if occ = [] ∨ !(occ.all fun x => slotAlt (d.slotAt false x)) then d.fixPairs false wide s
  else
    let d := (recSlots wide s).foldl (fun d x => d.swapSlots x (d.mateOf x)) d
    (d.fixPairs false wide s).bump (FLOW.CNT.ix 17) 0 occ.length

/-- SPILL and MATE of a pair are compared with what it holds, and a difference is corrected and counted (R225).
(DEDUCED, log entry 67) -/
def Dev.auditPair (d : Dev) (s : Nat) : Dev :=
  let e := d.fixPair false s
  if e.slotAt false s = d.slotAt false s ∧ e.slotAt false (d.mateOf s) = d.slotAt false (d.mateOf s) then d else e.flowCnt 16

/-- Whether the sweeper works: flow memory is not in self-refresh. -/
def Dev.sweeperOn (d : Dev) : Bool :=
  d.sup.phase = .on && d.fld PWRM.SLEEP_STAT_STATE ≠ 2 && d.fld PWRM.SLEEP_STAT_STATE ≠ 3

/-- The last pair of a pass has been visited: the next pass begins as it ends. -/
def Dev.sweepEnd (d : Dev) : Dev :=
  let d := (d.endOp FLOW.SWEEP_STAT 0 2 (d.altMask / 16)).raise FLOW.int_SWEEP_DONE
  (d.setSpore { d.spore with long := d.spore.longMid, longMid := false }).sweepBegin

/-- A walk reads a slot that is not open from its channel. -/
def Dev.walkRead (d : Dev) (s : Nat) : Dev := if (d.flow.opened.get none s).isSome then d else d.slotRead s

/-- The sweeper visits its next pair, once its time in the evenly spread pass has come (R225). (DEDUCED, log entry 67) -/
def Dev.sweepVisit (d : Dev) : Dev :=
  let period := d.fld FLOW.SWEEP_CFG_PERIOD * 10000000000
  let d := if d.flow.aborted && decide (d.flow.began + period ≤ d.clk.up) then d.sweepBegin else d
  if d.opState FLOW.SWEEP_STAT ≠ 1 then d else
  let s := d.flow.pair
  if d.clk.up < d.flow.began + period * s / d.altMask then d else
  let o := d.mateOf s
  let d := (d.walkRead s).walkRead o
  let d := (d.sweepAge s).sweepAge o
  let d := if d.on FLOW.SWEEP_CFG_NORMALISE then d.normalise s else d
  let d := if d.on FLOW.SWEEP_CFG_SPILL_AUDIT then d.auditPair s else d
  let d := d.setFlow { d.flow with pair := s + 1 }
  let d := d.setNum FLOW.SWEEP_STAT (setBits (d.num FLOW.SWEEP_STAT) 8 24 ((s + 1) / 16))
  if d.altMask ≤ s + 1 then d.sweepEnd else d

/-- SWEEP_PAIR_VISIT (R225). -/
def execSweepPairVisit (s : State) : Host.Outcome State Fault Refusal :=
  s.run fun d => d.when d.sweeperOn Dev.sweepVisit

/-! ### Rebuild (R217) -/

/-- Two keys drawn from the random number generator. (DEDUCED, log entry 68) -/
def Dev.newKeys (d : Dev) : Nat × Nat := (d.rng.toNat % 2 ^ 128, d.rng.toNat / 2 ^ 128 % 2 ^ 128)

/-- Region B is empty. -/
def Dev.clearRegion (d : Dev) (region : Nat) : Dev :=
  d.setFlow { d.flow with mem := d.flow.mem.filter fun p => p.1 / 2 ^ 27 ≠ region }

/-- A rebuild begins under keys that are given: drawn ones, or those of the peer (R413). -/
def Dev.rebuildStart (d : Dev) (kp kl : Nat) : Dev :=
  let d := (d.clearRegion (1 - d.flow.region)).startOp FLOW.REBUILD_STAT
  d.setFlow { d.flow with nkp := kp, nkl := kl, cursor := 0, copied := false, switchNs := none, copies := [] }

/-- GO, ignored while a rebuild or a retirement runs (R217, R400). -/
def Dev.rebuildGo (d : Dev) : Dev :=
  if d.rebuilding || d.opState MEMC.RETIRE_STAT = 1 then d
  else
    let (kp, kl) := d.newKeys
    d.drawn.rebuildStart kp kl

/-- REBUILD_GO (R217). -/
def execRebuildGo (s : State) : Host.Outcome State Fault Refusal := s.act fun d => d.access 0x30 Dev.rebuildGo

/-- The record whose first slot is in a pair is copied. (DEDUCED, log entry 68) -/
def Dev.copySlot (d : Dev) (s : Nat) : Dev :=
  let r := d.recordAt false s
  if r = 0 then d else d.mirrorInsert s r

/-- Whether a record of the pair of slot `s` is open (R217). -/
def Dev.openPair (d : Dev) (s : Nat) : Bool :=
  let o := d.mateOf s
  let wide := slotKind (d.slotAt false s) = 2 || slotKind (d.slotAt false o) = 2
  (d.occupants false wide s ++ d.occupants false wide o).any fun x => d.openRec x none

/-- The cursor copies a pair, unless one of its records is open (R217). (DEDUCED, log entry 68) -/
def Dev.rebuildCopy (d : Dev) : Dev :=
  if !d.rebuilding || d.flow.copied then d else
  let s := d.flow.cursor
  if d.openPair s then d else
  let o := d.mateOf s
  let d := (d.walkRead s).walkRead o
  let d := (d.copySlot s).copySlot o
  let d := d.setNum FLOW.REBUILD_STAT (setBits (d.num FLOW.REBUILD_STAT) 8 24 ((s + 1) / 16))
  if d.altMask ≤ s + 1 then
    d.setFlow { d.flow with cursor := s + 1, copied := true, switchNs := some ((d.nowNs + 999) / 1000 * 1000) }
  else d.setFlow { d.flow with cursor := s + 1 }

/-- REBUILD_PAIR_COPY (R217). -/
def execRebuildPairCopy (s : State) : Host.Outcome State Fault Refusal := s.run Dev.rebuildCopy

/-- KEY_TAG (R413): of the keys in force, 0 while there are none. (DEDUCED, log entry 68) -/
def Dev.keyTag (d : Dev) : Nat :=
  if d.on FLOW.KEY_STAT_VALID then (sipHash d.flow.kp [0] ^^^ sipHash d.flow.kl [0]) % 2 ^ 32 else 0

/-- New keys are in force. -/
def Dev.setKeys (d : Dev) (kp kl : Nat) : Dev :=
  let d := d.setFlow { d.flow with kp := kp, kl := kl }
  (d.setFld FLOW.KEY_STAT_VALID 1).setFld FLOW.KEY_STAT_KEY_GEN (d.fld FLOW.KEY_STAT_KEY_GEN + 1)

/-- A slot number that no slot has. -/
def noSlot : Nat := 2 ^ 28

/-- The slots that a view keeps open, each with whether it is the odd half of a wide place. -/
def Dev.viewSlots (d : Dev) (v : View) : List (Nat × Bool) :=
  ([v.home, v.slot] ++ (if v.hit then [] else [d.mateOf v.home])).filter (· < noSlot) |>.flatMap fun s =>
    (s, false) :: if v.wide then [(s + 1, true)] else []

/-- A view is of the copy of its record from now on, or of no slot where the record has ended; the view of a miss is of the frame's
home under the new keys. (DEDUCED, log entry 68) -/
def Dev.moveView (d : Dev) (t : Task) : View :=
  let v := t.view
  if v.hit then
    match (if d.viewLives v then d.copyOf v.slot else none) with
    | some s => { v with slot := s, home := d.homeSlot true s }
    | none => { v with slot := noSlot }
  else match t.desc.bind d.frame with
    | some f =>
      let home := (d.anchorView f.ctx.pipe).homeOf d.flow.nkp d.flow.nkl (d.flowConn f)
      { v with home := home, slot := home }
    | none => v

/-- The slots that tasks' views keep open, as they stand in the region in force, with nothing to be written. (DEDUCED, log entry 68) -/
def Dev.reopened (d : Dev) : SMap (Option OpenSlot) :=
  let views := d.eng.tasks.filterMap fun p => match p.2 with
    | some t => if pktKind t.kind || t.kind = 2 then some t.view else none
    | none => none
  (views.flatMap d.viewSlots).foldl (fun m s =>
    m.set none s.1 (some { value := d.memSlot d.flow.region s.1, half := s.2 })) []

/-- What waits for a record waits for its copy. (DEDUCED, log entry 68) -/
def Dev.moveHeld (d : Dev) (h : HeldUpd) : HeldUpd :=
  match h with
  | .cmd op s incarn => .cmd op ((d.copyOf s).getD noSlot) incarn
  | .age s => .age ((d.copyOf s).getD noSlot)

/-- In KEYING, equal key tags lead to RESYNC (R412). (DEDUCED, log entry 68) -/
def Dev.keyed (d : Dev) : Dev := if d.tState = 3 ∧ d.keyTag = d.num TNDM.PEER_KEY_TAG then d.tandemTo 4 0 else d

/-- The switch (R217): records that found no room end, the regions change roles, and the new keys are in force.
(DEDUCED, log entry 68) -/
def Dev.rebuildSwitch (d : Dev) : Dev :=
  let lost := d.flowRecords.filter fun s => (d.copyOf s).isNone
  let d := lost.foldl (fun d s => d.endRecord s 3 2 false) d
  let tasks := d.eng.tasks.map fun p => (p.1, p.2.map fun t => { t with view := d.moveView t })
  let held := d.flow.held.map fun x => (x.1, d.moveHeld x.2)
  let d := { d with eng := { d.eng with tasks := tasks } }
  let d := (d.setTandem { d.tandem with queries := [] }).setKeys d.flow.nkp d.flow.nkl
  let d := d.setFlow { d.flow with region := 1 - d.flow.region, opened := [], held := held, cursor := 0, copied := false, switchNs := none, copies := [] }
  let d := d.setFlow { d.flow with opened := d.reopened }
  let d := (d.endOp FLOW.REBUILD_STAT 0 2 (d.altMask / 16)).raise FLOW.int_REBUILD_DONE
  d.keyed.resyncAsk

/-- REBUILD_SWITCH (R217): the whole microsecond after the last pair has come. -/
def execRebuildSwitch (s : State) : Host.Outcome State Fault Refusal :=
  s.run fun d => match d.flow.switchNs with
    | some t => d.when (d.rebuilding && decide (t ≤ d.nowNs)) Dev.rebuildSwitch
    | none => d

/-- An abort leaves the old keys and every record, and discards region B (R217). -/
def Dev.rebuildAbort (d : Dev) : Dev :=
  d.abortOp FLOW.REBUILD_STAT 0 fun d =>
    (d.clearRegion (1 - d.flow.region)).setFlow
      { (d.clearRegion (1 - d.flow.region)).flow with cursor := 0, copied := false, switchNs := none, copies := [] }

/-- REBUILD_ABORT (R217). -/
def execRebuildAbort (s : State) : Host.Outcome State Fault Refusal := s.act fun d => d.access 0x30 Dev.rebuildAbort

/-- REKEY: new keys at once while the table is empty (R217). -/
def Dev.rekey (d : Dev) : Dev :=
  if d.flowOcc ≠ 0 || d.rebuilding then d
  else
    let (kp, kl) := d.newKeys
    d.drawn.setKeys kp kl

/-- REKEY (R217). -/
def execRekey (s : State) : Host.Outcome State Fault Refusal := s.act fun d => d.access 0x30 Dev.rekey

/-- A write of REBUILD_CTRL. A GO written with a REKEY that is accepted is ignored (R217). -/
def Dev.rebuildWrite (d : Dev) (w : Word) : Dev :=
  let d := if w.getLsbD 1 then d.rebuildAbort else d
  if w.getLsbD 2 && d.flowOcc = 0 && !d.rebuilding then d.rekey else if w.getLsbD 0 then d.rebuildGo else d

/-- A write of SWEEP_CTRL. -/
def Dev.sweepWrite (d : Dev) (w : Word) : Dev :=
  let d := if w.getLsbD 1 then d.sweepAbort else d
  if w.getLsbD 0 then d.sweepStart else d

/-! ### Host commands (R230) -/

/-- A FLOW command: it waits, BUSY, for the tasks that were served the record before. A command while BUSY has no effect. -/
def Dev.flowCmd (d : Dev) (op incarn : Nat) : Dev :=
  if d.on FLOW.CMD_STAT_BUSY then d
  else (d.setNum FLOW.CMD_STAT 1).ownUpdate (.cmd op (d.num FLOW.CMD_SLOT % 2 ^ 27) (incarn % 64))

/-- A write of FLOW.CMD. -/
def Dev.flowCmdWrite (d : Dev) (path : Nat) (w : Word) : Dev :=
  if w.toNat % 4 = 3 then d.recErr 0x30 0x438 1 path
  else if !w.getLsbD 8 then d
  else d.flowCmd (w.toNat % 4) (bitsOf w.toNat 2 6)

/-- FLOW_DELETE (R230). -/
def execFlowDelete (incarn : Nat) (s : State) : Host.Outcome State Fault Refusal :=
  s.act fun d => d.access 0x30 fun d => d.flowCmd 0 incarn
/-- PIN_RECORD (R230). -/
def execPinRecord (incarn : Nat) (s : State) : Host.Outcome State Fault Refusal :=
  s.act fun d => d.access 0x30 fun d => d.flowCmd 1 incarn
/-- UNPIN_RECORD (R230). -/
def execUnpinRecord (incarn : Nat) (s : State) : Host.Outcome State Fault Refusal :=
  s.act fun d => d.access 0x30 fun d => d.flowCmd 2 incarn

/-- Every record goes without export, as at start-up step 10 (R54, R229). Open tasks keep their views, whose deltas come late, and
their reservations (R223, R231). -/
def Dev.clearFlow (d : Dev) : Dev :=
  d.setFlow { d.flow with mem := [], opened := [], held := [], cursor := 0, copied := false, switchNs := none, copies := [] }

/-- SOFT_RESET of FLOW (R229): the sweep and a rebuild are aborted and every record is removed. -/
def Dev.softFlow (d : Dev) : Dev :=
  let d := (d.sweepAbort.rebuildAbort).clearFlow.resyncAsk
  let d := d.setFld FLOW.CMD_STAT_BUSY 0
  Dev.serveWaiting (d.flow.waiting.length + 1) d

end Sys2Proof.Machine
end

