-- ==== Sys2Proof/Machine/Memory.lean ====
section
/-! DEFINITION. The memory controllers (19_memory): refresh, drift tracking, scrubbing, training steps and the comparator, and
the retirement of channels. -/

namespace Sys2Proof.Machine

def Dev.setMem (d : Dev) (x : MemSt) : Dev := { d with mem := x }

/-- STATE of a channel: 0 active, 1 retiring, 2 retired, 3 self-refresh. -/
def Dev.chState (d : Dev) (m : Nat) : Nat := d.fld MEMC.CH_STAT_STATE m

/-- A channel that serves accesses. -/
def Dev.chLive (d : Dev) (m : Nat) : Bool := decide (m < 64) && decide (d.chState m < 2)

/-! ### Refresh (R389, R390) -/

def refKey (m b : Nat) : Nat := m * 16 + b % 16

/-- A refresh of a bank falls due: it is postponed while demand for the bank is queued and its count is below 8. A packet
channel refreshes all banks at once and postpones nothing. -/
def Dev.refresh (d : Dev) (m b : Nat) (demand : Bool) : Dev :=
  let n := d.mem.post.get 0 (refKey m b)
  if m < 48 ∧ demand ∧ n < 8 then
    let d := d.setMem { d.mem with post := d.mem.post.set 0 (refKey m b) (n + 1) }
    d.setNum MEMC.POSTPONE_PEAK (max (n + 1) (d.num MEMC.POSTPONE_PEAK m)) m
  else d.perf (islandOfChannel m) 0x1C4

/-- REFRESH (R389). -/
def execRefresh (channel bank : Nat) (demand : Bool) (s : State) : Host.Outcome State Fault Refusal :=
  s.run fun d => d.when (d.chLive channel) fun d => d.refresh channel bank demand

/-- A bank with a postponed refresh and no demand makes one up, at most one every 180 ns. -/
def Dev.makeUp (d : Dev) (m b : Nat) : Dev :=
  let n := d.mem.post.get 0 (refKey m b)
  let last := d.mem.madeUp.get 0 (refKey m b)
  if 0 < n ∧ (last = 0 ∨ last - 1 + 1800 ≤ d.clk.up) then
    let d := d.setMem { d.mem with post := d.mem.post.set 0 (refKey m b) (n - 1),
                                   madeUp := d.mem.madeUp.set 0 (refKey m b) (d.clk.up + 1) }
    d.perf (islandOfChannel m) 0x1C4
  else d

/-- MAKE_UP_REFRESH (R389). -/
def execMakeUpRefresh (channel bank : Nat) (s : State) : Host.Outcome State Fault Refusal :=
  s.run fun d => d.when (d.chLive channel && decide (channel < 48)) fun d => d.makeUp channel bank

/-- The rate that a channel requires: RATE 3 is treated as ×4. (DEDUCED, log entry 88) -/
def Dev.rateNeeded (d : Dev) (m : Nat) : Nat := min 2 (d.fld MEMC.CH_STAT_RATE m)

/-- REF_MULT or RATE has changed: a rate that the controller applies by itself ends when REF_MULT is written at the required
rate or above, and the grace of a rate too low begins. (DEDUCED, log entry 88) -/
def Dev.refWatch (d : Dev) (m : Nat) (written : Bool) : Dev :=
  if d.fld MEMC.CH_CFG_REF_MULT m < d.rateNeeded m then
    if d.mem.lowFrom.get 0 m = 0 then d.setMem { d.mem with lowFrom := d.mem.lowFrom.set 0 m (d.upMs + 1) } else d
  else
    let d := d.setMem { d.mem with lowFrom := d.mem.lowFrom.set 0 m 0 }
    if written then (d.setMem { d.mem with forced := d.mem.forced.set 0 m 0 }).setFld MEMC.CH_STAT_REF_FORCED 0 m else d

/-- Mode register 4 of a channel reads `rate`. With HK_OWN the housekeeping firmware writes REF_MULT to match.
(DEDUCED, log entry 88) -/
def Dev.mr4 (d : Dev) (m rate : Nat) : Dev :=
  let old := d.fld MEMC.CH_STAT_RATE m
  let d := d.setMem { d.mem with polled := d.mem.polled.set 0 m d.upMs }
  let d := (d.setFld MEMC.CH_STAT_RATE (rate % 4) m).setFld MEMC.CH_STAT_TEMP_HIGH (bit (rate % 4 = 3)) m
  if 48 ≤ m ∨ old = rate % 4 then d else
  let d := (d.raise MEMC.int_MR4_CHANGE).log (islandOfChannel m) 0x5003 m (d.num MEMC.CH_STAT m)
  if d.on MEMC.REF_CFG_HK_OWN then (d.setFld MEMC.CH_CFG_REF_MULT (d.rateNeeded m) m).refWatch m true
  else d.refWatch m false

/-- MR4_POLL (R390). -/
def execMr4Poll (channel rate : Nat) (s : State) : Host.Outcome State Fault Refusal :=
  s.run fun d => d.when (d.chLive channel && decide (d.mem.polled.get 0 channel + d.fld MEMC.REF_CFG_MR4_POLL ≤ d.upMs))
    fun d => d.mr4 channel rate

/-- The controller applies the required rate by itself. (DEDUCED, log entry 88) -/
def Dev.forceRate (d : Dev) (m : Nat) : Dev :=
  let d := (d.setMem { d.mem with forced := d.mem.forced.set 0 m (d.rateNeeded m) }).setFld MEMC.CH_STAT_REF_FORCED 1 m
  (d.raise MEMC.int_REF_FORCED).log (islandOfChannel m) 0x5004 m (d.num MEMC.CH_STAT m)

/-- REF_MULT has been too low for REF_GRACE, and the required rate is not in force yet. (DEDUCED, log entry 88) -/
def Dev.graceOver (d : Dev) (m : Nat) : Bool :=
  d.mem.lowFrom.get 0 m ≠ 0 && d.mem.forced.get 0 m ≠ d.rateNeeded m &&
    decide (d.mem.lowFrom.get 0 m - 1 + d.fld MEMC.REF_CFG_REF_GRACE ≤ d.upMs)

/-- REF_FORCED (R390). -/
def execRefForced (channel : Nat) (s : State) : Host.Outcome State Fault Refusal :=
  s.run fun d => d.when (d.chLive channel && decide (channel < 48) && d.graceOver channel) fun d => d.forceRate channel

/-! ### Drift tracking (R395) -/

/-- The delay of one pin, in byte `j` of a register, moves by a number of taps. What a delay that would leave its range of 0
to 127 becomes is not stated: an open value. (DEDUCED, log entry 89) -/
def Dev.moveTap (d : Dev) (r : Reg) (m j : Nat) (delta : Int) : Dev :=
  let v : Int := (bitsOf (d.num r m) (8 * j) 8 : Nat) + delta
  if 0 ≤ v ∧ v ≤ 127 then d.setNum r (setBits (d.num r m) (8 * j) 8 v.toNat) m
  else d.freed.setNum r (setBits (d.num r m) (8 * j) 8 (d.freeVal.toNat % 128)) m

/-- The sixteen delays of an array of four registers move. (DEDUCED, log entry 89) -/
def Dev.moveTaps (d : Dev) (r : Reg) (m : Nat) (delta : Int) : Dev :=
  if delta = 0 then d else d.each 16 fun d k => d.moveTap (r.ix (k / 4)) m (k % 4) delta

/-- A drift update: `wr` and `rd` are the drifts since training in taps; the read drift is taken every eighth update.
(DEDUCED, log entry 89) -/
def Dev.drift (d : Dev) (m : Nat) (wr rd : Int) : Dev :=
  let wr := clampInt (-128) 127 wr
  let old := d.num MTRN.TRK_STAT m
  let n := (bitsOf old 16 16 + 1) % 65536
  let rd := if n % 8 = 0 then clampInt (-128) 127 rd else signedOf (bitsOf old 8 8) 8
  let d := d.setMem { d.mem with tracked := d.mem.tracked.set 0 m d.upMs }
  let d := d.moveTaps MTRN.DQ_WR_DLY m (wr - signedOf (bitsOf old 0 8) 8)
  let d := d.moveTaps MTRN.DQ_RD_DLY m (rd - signedOf (bitsOf old 8 8) 8)
  let d := d.setNum MTRN.TRK_STAT (toBits 8 wr + toBits 8 rd * 256 + n * 65536) m
  let th := d.fld MTRN.TRK_CFG_DRIFT_TH m
  if th < wr.natAbs ∨ th < rd.natAbs then
    (d.raise MTRN.int_DRIFT).log (islandOfChannel m) 0x5101 m (d.num MTRN.TRK_STAT m)
  else d

/-- DRIFT_UPDATE (R395). -/
def execDriftUpdate (channel : Nat) (wr rd : Int) (s : State) : Host.Outcome State Fault Refusal :=
  s.run fun d => d.when (d.chLive channel && d.enabled 0x51 && d.on TOP.BOOT_STATUS_READY &&
    decide (d.mem.tracked.get 0 channel + d.fld MTRN.TRK_CFG_PERIOD channel ≤ d.upMs)) fun d => d.drift channel wr rd

/-! ### Scrubbing (R397, R398) -/

/-- A scrub pass begins, where none runs and the channel is in service. (DEDUCED, log entry 90) -/
def Dev.scrubBegin (d : Dev) (m : Nat) : Dev :=
  if d.enabled 0x50 && decide (d.chState m = 0) && decide (d.opState MEMC.SCRUB_STAT m ≠ 1) then
    (d.setMem { d.mem with scrubbed := d.mem.scrubbed.set 0 m (d.upMs / 1000) }).startOp MEMC.SCRUB_STAT m
  else d

/-- The slot whose copy in the region in force, or whose substitute, lies at an address of a channel. -/
def Dev.slotIn (d : Dev) (region m addr : Nat) : Option Nat :=
  let dead := d.deadFlow
  let live := d.liveFlow
  let sub := if region = 1 then 0x1A800000 else 0x1A000000
  let base := region * d.regionBytes
  let s := if sub ≤ addr then
      let q := (addr - sub) / 64 * live.length + live.idxOf m
      q / max 1 dead.length * 48 + dead.getD (q % max 1 dead.length) 0
    else (addr - base) / 64 * 48 + m
  if 48 ≤ m ∨ addr < base ∨ (sub ≤ addr ∧ dead = []) ∨ 2 * d.altMask ≤ s then none
  else if d.placeOf region s = (m, addr / 64 * 64) then some s else none

/-- The same in the region in force. -/
def Dev.slotHere (d : Dev) (m addr : Nat) : Option Nat := d.slotIn d.flow.region m addr

/-- A burst that a scrub pass read with errors. A burst of an open slot, one beyond the task spill area, which is never accessed (R386),
and a block that holds no frame are not read.
(DEDUCED, log entry 90) -/
def Dev.scrubFind (d : Dev) (m : Nat) (x : ScrubFind) : Dev :=
  let a := x.addr % 2 ^ 29
  if m < 48 ∧ 0x1CAAAB00 ≤ a then d else
  if 48 ≤ m then
    if !(d.lnk 1 (a / 2048 * 16 + (m - 48))).alloc then d
    else if oneSymbol x.word then d.memCe m x.word.sym0 true
    else d.memUe m (a / 32 * 32) x.word.word x.word.sym0 x.word.sym1
  else match d.slotHere m a with
    | some s =>
      if (d.flow.opened.get none s).isSome then d
      else if oneSymbol x.word then d.memCe m x.word.sym0 true
      else ((d.memUe m (a / 32 * 32) x.word.word x.word.sym0 x.word.sym1).emptySlot s).bump FUSE.REC_LOST
    | none =>
      if oneSymbol x.word then d.memCe m x.word.sym0 true
      else d.memUe m (a / 32 * 32) x.word.word x.word.sym0 x.word.sym1

/-- The slots of a channel that are open: their bursts are not read (R397). -/
def Dev.openOn (d : Dev) (m : Nat) : Nat :=
  (d.flow.opened.filter fun p => p.2.isSome && (d.slotPlace p.1).1 = m).length

/-- How many bursts a pass reads: of a flow channel those below the part that is never accessed (R386). -/
def Dev.scrubReads (d : Dev) (m : Nat) : Nat :=
  if m < 48 then 0x1CAAAB00 / 32 - 2 * d.openOn m
  else 64 * (d.sw.link.filter fun p => p.2.alloc && p.1 / 2 ^ 22 = 1 && p.1 % 16 = m - 48).length

/-- A pass ends, having read every burst (PROGRESS in units of 4 KiB). (DEDUCED, log entry 90) -/
def Dev.scrubEnd (d : Dev) (m : Nat) (found : List ScrubFind) : Dev :=
  let d := found.foldl (fun d x => d.scrubFind m x) ((d.perf (islandOfChannel m) 0x1C0 (d.scrubReads m)).openActs m)
  (d.endOp MEMC.SCRUB_STAT m 2 131072).raise MEMC.int_SCRUB_DONE

/-- A periodic pass is due. (DEDUCED, log entry 90) -/
def Dev.scrubDue (d : Dev) (m : Nat) : Bool :=
  d.on MEMC.CH_CFG_SCRUB_EN m && d.on TOP.BOOT_STATUS_READY &&
    decide (d.mem.scrubbed.get 0 m + 3600 * d.fld MEMC.SCRUB_CFG_PERIOD ≤ d.upMs / 1000)

/-- SCRUB_START (R397). -/
def execScrubStart (channel : Nat) (s : State) : Host.Outcome State Fault Refusal :=
  s.act fun d => d.access 0x50 fun d => d.scrubBegin (channel % 64)

/-- SCRUB_PASS (R397): the pass that runs ends with the bursts it found; where none runs, a periodic pass that is due
begins. (DEDUCED, log entry 90) -/
def execScrubPass (channel : Nat) (found : List ScrubFind) (s : State) : Host.Outcome State Fault Refusal :=
  s.run fun d =>
    if d.opState MEMC.SCRUB_STAT channel = 1 then d.when (d.chLive channel && d.enabled 0x50) fun d => d.scrubEnd channel found
    else d.when (d.chLive channel && d.scrubDue channel) fun d => d.scrubBegin channel

/-- SCRUB_ABORT (R397): an open part of the pass has been read, and nothing in it has been found that no row told of.
(DESIGN CHOICE, log entry 114) -/
def Dev.scrubAbort (d : Dev) (m : Nat) : Dev := d.abortOp MEMC.SCRUB_STAT m fun d =>
  let (d, n) := d.openProgress MEMC.SCRUB_STAT m 131072
  (d.perf (islandOfChannel m) 0x1C0 (d.scrubReads m * n / 131072)).openActs m

def execScrubAbort (channel : Nat) (s : State) : Host.Outcome State Fault Refusal :=
  s.act fun d => d.access 0x50 fun d => d.scrubAbort (channel % 64)

/-- A write of SCRUB_CTRL. -/
def Dev.scrubWrite (d : Dev) (m : Nat) (w : Word) : Dev :=
  let d := if w.getLsbD 1 then d.scrubAbort m else d
  if w.getLsbD 0 then d.scrubBegin m else d

/-! ### Training steps and the comparator (R393, R405) -/

/-- What WINDOW lets through; otherwise nothing happens and REFUSED is set. -/
def Dev.inWindow (d : Dev) (f : Dev → Dev) : Dev := if d.on MTRN.TRAIN_STAT_WINDOW then f d else d.raise MTRN.int_REFUSED

/-- LEN bursts of the pattern of PAT_CFG from PAT_ADDR on. What a burst holds is named by PATTERN, PAT_FIXED and its number in the
run. -/
def Dev.patternRun (d : Dev) (m : Nat) : Dev :=
  let a := d.num MTRN.PAT_ADDR m % 2 ^ 24
  let v := d.fld MTRN.PAT_CFG_PATTERN m + d.num MTRN.PAT_FIXED m * 8
  (List.range (d.fld MTRN.PAT_CFG_LEN m)).foldl (fun d i => d.setMem { d.mem with
    pattern := d.mem.pattern.set 0 (m * 2 ^ 24 + (a + i) % 2 ^ 24) (v + i * 2 ^ 35 + 2 ^ 60) }) d

/-- PRBS31 over 64 bursts in each bank: row 0 of every bank, the lowest 1,024 bursts. (DEDUCED, log entry 91) -/
def Dev.checkRun (d : Dev) (m : Nat) : Dev :=
  let base := m * 2 ^ 24
  d.setMem { d.mem with pattern := (d.mem.pattern.filter fun p => decide (p.1 < base)) ++
    ((List.range 1024).map fun i => (base + i, 2 + i * 2 ^ 35 + 2 ^ 60)) ++
    d.mem.pattern.filter fun p => decide (base + 1024 ≤ p.1) }

/-- What a step does to the array as it runs: write training writes the pattern of PAT_CFG, and the check its own (R393).
(DEDUCED, log entry 91) -/
def Dev.stepArray (d : Dev) (m step : Nat) : Dev :=
  if step = 3 then d.patternRun m else if step = 4 then d.checkRun m else d

/-- STEP_CTRL.GO: a step that runs goes on. (DEDUCED, log entry 91) -/
def Dev.stepGo (d : Dev) (m step : Nat) : Dev :=
  d.inWindow fun d => if d.opState MTRN.STEP_STAT m = 1 then d
    else ((d.setMem { d.mem with step := d.mem.step.set 0 m step }).stepArray m step).startOp MTRN.STEP_STAT m

/-- COMMAND_BUS_TRAINING (R393). -/
def execCommandBusTraining (channel : Nat) (s : State) : Host.Outcome State Fault Refusal :=
  s.act fun d => d.access 0x51 fun d => d.stepGo (channel % 64) 0
/-- WCK2CK_LEVELLING (R393). -/
def execWck2ckLevelling (channel : Nat) (s : State) : Host.Outcome State Fault Refusal :=
  s.act fun d => d.access 0x51 fun d => d.stepGo (channel % 64) 1
/-- READ_TRAINING (R393). -/
def execReadTraining (channel : Nat) (s : State) : Host.Outcome State Fault Refusal :=
  s.act fun d => d.access 0x51 fun d => d.stepGo (channel % 64) 2
/-- WRITE_TRAINING (R393). -/
def execWriteTraining (channel : Nat) (s : State) : Host.Outcome State Fault Refusal :=
  s.act fun d => d.access 0x51 fun d => d.stepGo (channel % 64) 3
/-- CHECK (R393). -/
def execCheck (channel : Nat) (s : State) : Host.Outcome State Fault Refusal :=
  s.act fun d => d.access 0x51 fun d => d.stepGo (channel % 64) 4

/-- STEP_ABORT (R405); PROGRESS is open. (DESIGN CHOICE, log entry 114) -/
def Dev.stepAbort (d : Dev) (m : Nat) : Dev :=
  d.abortOp MTRN.STEP_STAT m fun d => (d.openProgress MTRN.STEP_STAT m (2 ^ 24)).1
def execStepAbort (channel : Nat) (s : State) : Host.Outcome State Fault Refusal :=
  s.act fun d => d.access 0x51 fun d => d.stepAbort (channel % 64)

/-- A write of STEP_CTRL: STEP 5 to 7 is reserved, with GO or without. -/
def Dev.stepWrite (d : Dev) (path m : Nat) (w : Word) : Dev :=
  let d := if w.getLsbD 9 then d.stepAbort m else d
  if 4 < w.toNat % 8 then d.recErr 0x51 0x040 1 path else if w.getLsbD 8 then d.stepGo m (w.toNat % 8) else d

/-- Four delays of pins, in taps, as a register holds them. -/
def tapWord (l : List Nat) (i : Nat) : Nat := ((List.range 4).map fun j => l.getD (4 * i + j) 0 % 128 * 2 ^ (8 * j)).sum

/-- The results of one step are latched into the delay lines. (DEDUCED, log entry 91) -/
def Dev.latchStep (d : Dev) (m step : Nat) (t : Trained) : Dev :=
  let vref := fun (d : Dev) (j : Nat) => d.setNum MTRN.VREF (setBits (d.num MTRN.VREF m) (8 * j) 8 (t.vref.getD j 0)) m
  let wck := fun (d : Dev) (j v : Nat) => d.setNum MTRN.WCK_DLY (setBits (d.num MTRN.WCK_DLY m) (8 * j) 8 (v % 256)) m
  let trk := fun (d : Dev) (j : Nat) => d.setNum MTRN.TRK_STAT (setBits (d.num MTRN.TRK_STAT m) (8 * j) 8 0) m
  match step with
  | 0 => vref ((d.setNum MTRN.CA_DLY0 (tapWord t.ca 0) m).setNum MTRN.CA_DLY1 (tapWord (t.ca.take 7) 1) m) 2
  | 1 => wck d 0 t.wck
  | 2 => vref (wck (trk (d.each 4 fun d i => d.setNum (MTRN.DQ_RD_DLY.ix i) (tapWord t.rd i) m) 1) 1 t.gate) 0
  | 3 => vref (trk (d.each 4 fun d i => d.setNum (MTRN.DQ_WR_DLY.ix i) (tapWord t.wr i) m) 0) 1
  | _ => d

/-- Channels whose check has ended COMPLETE. (DEDUCED, log entry 91) -/
def Dev.showChecked (d : Dev) : Dev :=
  d.setFld MTRN.TRAIN_STAT_CHECKED (d.mem.checked.filter fun p => p.2 % 4 = 1).length

/-- What the end of a step says of a channel: a check COMPLETE passes it, and any step FAILED fails it. Bit 2 says that a check
has ended. (DEDUCED, log entry 91) -/
def Dev.noteStep (d : Dev) (m step : Nat) (ok : Bool) : Dev :=
  let c := d.mem.checked.get 0 m
  let ended := if step = 4 then 4 else c / 4 * 4
  let c := if !ok then ended + 2 else if step = 4 then 5 else c
  (d.setMem { d.mem with checked := d.mem.checked.set 0 m c }).showChecked

/-- A step ends: it latches its results, or ends FAILED. -/
def Dev.stepEnd (d : Dev) (m progress : Nat) (t : Trained) : Dev :=
  if d.opState MTRN.STEP_STAT m ≠ 1 then d else
  let step := d.mem.step.get 0 m
  let d := if t.ok then d.latchStep m step t else d
  let d := (d.noteStep m step t.ok).endOp MTRN.STEP_STAT m (if t.ok then 2 else 4) progress
  d.raise (if t.ok then MTRN.int_STEP_DONE else MTRN.int_STEP_FAIL)

/-- TRAINING_STEP_DONE (R393). -/
def execTrainingStepDone (result : Trained) (progress : Nat) (s : State) : Host.Outcome State Fault Refusal :=
  s.run fun d => d.stepEnd (result.channel % 64) progress result

/-- CMP_CTRL.WRITE: LEN bursts of the pattern from PAT_ADDR on. -/
def Dev.cmpWrite (d : Dev) (m : Nat) : Dev := d.inWindow fun d => d.patternRun m

/-- CMP_WRITE (R405). -/
def execCmpWrite (channel : Nat) (s : State) : Host.Outcome State Fault Refusal :=
  s.act fun d => d.access 0x51 fun d => d.cmpWrite (channel % 64)

/-- CMP_CTRL.READ_CMP: the bit errors that each pin shows are added to PIN_ERR, saturating. -/
def Dev.cmpRead (d : Dev) (m : Nat) (errs : List Nat) : Dev :=
  d.inWindow fun d => d.each 16 fun d k =>
    d.setNum (MTRN.PIN_ERR.ix k) (min 0xFFFFFFFF (d.num (MTRN.PIN_ERR.ix k) m + errs.getD k 0)) m

/-- CMP_READ_CMP (R405): `errors` are the bit errors of the sixteen pins. -/
def execCmpReadCmp (channel : Nat) (errors : List Nat) (s : State) : Host.Outcome State Fault Refusal :=
  s.act fun d => d.access 0x51 fun d => d.cmpRead (channel % 64) errors

/-- CMP_CTRL.CLEAR. -/
def Dev.cmpClear (d : Dev) (m : Nat) : Dev := d.inWindow fun d => d.each 16 fun d k => d.setNum (MTRN.PIN_ERR.ix k) 0 m

/-- CMP_CLEAR (R405). -/
def execCmpClear (channel : Nat) (s : State) : Host.Outcome State Fault Refusal :=
  s.act fun d => d.access 0x51 fun d => d.cmpClear (channel % 64)

/-- A write of CMP_CTRL, with the errors that a comparison meets. -/
def Dev.cmpCtrl (d : Dev) (m : Nat) (w : Word) (errs : List Nat) : Dev :=
  let d := if w.getLsbD 2 then d.cmpClear m else d
  let d := if w.getLsbD 0 then d.cmpWrite m else d
  if w.getLsbD 1 then d.cmpRead m errs else d

/-! ### Retirement (R399 to R402) -/

/-- The retired channels in RETIRED. (DEDUCED, log entry 92) -/
def Dev.markRetired (d : Dev) (m : Nat) : Dev :=
  let d := if m < 32 then d.setNum MEMC.RETIRED_LO (d.num MEMC.RETIRED_LO ||| 1 <<< m)
    else d.setNum MEMC.RETIRED_HI (d.num MEMC.RETIRED_HI ||| 1 <<< (m - 32))
  d.setFld MEMC.CH_STAT_STATE 2 m

/-- Blocks of a packet channel that hold no frame. (DEDUCED, log entry 92) -/
def Dev.idleBlocks (d : Dev) (m : Nat) : Nat :=
  262144 - (d.sw.link.filter fun p => p.2.alloc && p.1 / 2 ^ 22 = 1 && p.1 % 16 = m - 48).length

/-- A packet channel's blocks are withheld: at once those that are free, of which one with a bad link entry has left pool 1 already.
(DEDUCED, log entry 92) -/
def Dev.withholdBlocks (d : Dev) (m : Nat) : Dev :=
  if d.sw.noBlocks.contains m then d else
  let n := d.idleBlocks m
  let bad := (d.sw.badUnits.filter fun k => k / 2 ^ 22 = 1 && blockChannel (k % 2 ^ 22) = m && !(d.lnk 1 (k % 2 ^ 22)).alloc).length
  let d := { d with sw := { d.sw with noBlocks := d.sw.noBlocks ++ [m] } }
  ((d.bump MEMC.RET_BLOCKS 0 n).setNum BUFM.FREE1 (d.num BUFM.FREE1 - (n - bad))).evalAll

/-- Whether a GO is refused (R400): while a retirement or, for a flow channel, a rebuild runs, for a channel that is retired,
and for a third flow channel. (DEDUCED, log entry 92) -/
def Dev.retireRefused (d : Dev) (m : Nat) : Bool :=
  d.opState MEMC.RETIRE_STAT = 1 || d.retired m ||
    (decide (m < 48) && (d.rebuilding || decide (2 ≤ d.deadFlow.length)))

/-- A retirement starts, or is refused. (DEDUCED, log entry 92) -/
def Dev.retireGo (d : Dev) (m : Nat) : Dev :=
  if d.retireRefused m then d.raise MEMC.int_RETIRE_REFUSED else
  let d := ((d.startOp MEMC.RETIRE_STAT).setFld MEMC.CH_STAT_STATE 1 m).scrubAbort m
  let d := d.setMem { d.mem with retire := some { channel := m } }
  if m < 48 then d else d.withholdBlocks m

/-- RETIRE_GO (R400). -/
def execRetireGo (channel : Nat) (s : State) : Host.Outcome State Fault Refusal :=
  s.act fun d => d.access 0x50 fun d => d.retireGo (channel % 64)

/-- The slots that lie on a channel: one per row below this number. -/
def Dev.slotRows (d : Dev) (m : Nat) : Nat := (2 * d.altMask + 47 - m) / 48

/-- PROGRESS of a retirement, in units of 1,024. -/
def Dev.retireProgress (d : Dev) (n : Nat) : Dev := d.setNum MEMC.RETIRE_STAT (setBits (d.num MEMC.RETIRE_STAT) 8 24 (n / 1024))

/-- The next slot of the retiring channel is copied to its substitute, once it is closed. One that reads uncorrectably loses its
record and is written empty. (DEDUCED, log entry 92) -/
def Dev.retireCopy (d : Dev) (r : Retire) (ue : Option BadWord) : Dev :=
  let s := 48 * r.copied + r.channel
  if r.switchNs.isSome || (d.flow.opened.get none s).isSome then d else
  let d := d.slotRead s
  let d := match ue with
    | none => d
    | some w => if oneSymbol w then d.memCe r.channel w.sym0 false
      else ((d.slotUe s w false).emptySlot s).setNum MEMC.RET_LOST (min 0xFFFFFFFF (d.num MEMC.RET_LOST + 1))
  let n := r.copied + 1
  let d := d.setMem { d.mem with retire := some { r with copied := n } }
  let d := match d.copiedTo d.flow.region s with | some (ch, addr) => d.rowWrite ch addr 2 | none => d
  let at_ := if d.slotRows r.channel ≤ n then some ((d.nowNs + 999) / 1000 * 1000) else none
  (d.setMem { d.mem with retire := some { r with copied := n, switchNs := at_ } }).retireProgress n

/-- RETIRE_SLOT_COPY (R400). -/
def execRetireSlotCopy (ue : Option BadWord) (s : State) : Host.Outcome State Fault Refusal :=
  s.run fun d => match d.mem.retire with
    | some r => if r.channel < 48 then d.retireCopy r ue else d
    | none => d

/-- A retirement is COMPLETE. It is not abortable, so that its end is no outcome of R87. -/
def Dev.retireDone (d : Dev) (m n : Nat) : Dev :=
  let d := (d.setMem { d.mem with retire := none }).markRetired m
  let d := (d.setNum MEMC.RETIRE_STAT (statusWord 2 0 (n / 1024))).raise MEMC.int_RETIRE_DONE
  d.log (islandOfChannel m) 0x5005 m (d.num MEMC.RET_LOST)

/-- RETIRE_SWITCH (R400): the whole microsecond after the last slot has come. -/
def execRetireSwitch (s : State) : Host.Outcome State Fault Refusal :=
  s.run fun d => match d.mem.retire with
    | some r => match r.switchNs with
      | some t => if t ≤ d.nowNs then d.retireDone r.channel r.copied else d
      | none => d
    | none => d

/-- Uncorrectable words of a channel in the last 60 minutes. -/
def Dev.uesNow (d : Dev) (m : Nat) : Nat :=
  ((d.mem.ues.get [] m).filter fun t => decide (d.upMs / 1000 < t + 3600)).length

/-- AUTO_RETIRE (R401). (DEDUCED, log entry 92) -/
def execAutoRetire (channel : Nat) (s : State) : Host.Outcome State Fault Refusal :=
  s.run fun d => d.when (decide (channel < 64) && d.enabled 0x50 && decide (d.chState channel = 0) &&
      ((d.on MEMC.RETIRE_CFG_AUTO && decide (d.fld MEMC.RETIRE_CFG_UE_TH ≤ d.uesNow channel)) ||
       (d.on MEMC.RETIRE_CFG_PIN_AUTO && decide (d.num MEMC.PIN_SUSPECT channel ≠ 0))))
    fun d => d.retireGo channel

/-- PACKET_CHANNEL_RETIRED (R402): every block of the channel is withheld. -/
def execPacketChannelRetired (s : State) : Host.Outcome State Fault Refusal :=
  s.run fun d => match d.mem.retire with
    | some r => if 48 ≤ r.channel ∧ d.idleBlocks r.channel = 262144 then d.retireDone r.channel 262144 else d
    | none => d

/-! ### Segments (R392) -/

/-- PASR_KEEP for the size in force. -/
def Dev.pasrKeep (d : Dev) : Nat := 2 ^ ((2 * d.regionBytes + 67108863) / 67108864) - 1 ||| 0xC0

/-- SIZE has changed: PASR_KEEP follows, and a released segment that must be kept is no longer released. -/
def Dev.pasrUpdate (d : Dev) : Dev :=
  let keep := d.pasrKeep
  (d.setNum MEMC.PASR_KEEP keep).setReg MEMC.PASR_FLOW (d.reg MEMC.PASR_FLOW &&& ~~~ (BitVec.ofNat 32 keep))

/-! ### The end of training (R394) -/

/-- The entry of a channel in the training area. -/
def Dev.trainEntry (d : Dev) (m : Nat) : List Byte :=
  let words := fun (r : Reg) (n : Nat) => (List.range n).flatMap fun i => leBytes 4 (d.num (r.ix i) m)
  let w := d.num MTRN.WCK_DLY m
  let v := d.num MTRN.VREF m
  leBytes 1 (bit (d.retired m)) ++ [0, 0, 0] ++ words MTRN.DQ_RD_DLY 4 ++ words MTRN.DQ_WR_DLY 4 ++
    leBytes 4 (d.num MTRN.CA_DLY0 m) ++ leBytes 3 (d.num MTRN.CA_DLY1 m) ++ leBytes 1 w ++ leBytes 1 (w / 256) ++
    leBytes 3 v ++ leBytes 1 (d.fld MEMC.CH_STAT_RATE m) ++ List.replicate 15 0

/-- The identity data of the fuses, 16 bytes. -/
def Dev.identity (d : Dev) : List Byte :=
  [d.otp.ident0, d.otp.ident1, d.otp.ident2, d.otp.ident3].flatMap fun w => leBytes 4 w.toNat

/-- The training area's content. -/
def Dev.trainArea (d : Dev) : List Byte :=
  let body := leBytes 4 0x54524E31 ++ leBytes 4 1 ++ d.identity ++ leBytes 8 (d.stamp 32).toNat ++ List.replicate 32 0 ++
    (List.range 64).flatMap d.trainEntry
  body ++ leBytes 4 (crc32c body)

/-- A run of flash is written. -/
def Dev.flashWrite (d : Dev) (a : Nat) (bs : List Byte) : Dev := { d with flash := d.flash.putBytes 0xFF a bs }
def Dev.flashRead (d : Dev) (a n : Nat) : List Byte := d.flash.bytes 0xFF a n

/-- The window closes: channels that failed or were not checked are retired, the flow table is off when more than two flow
channels are, and with STORE new results are kept in flash. (DEDUCED, log entry 33) -/
def Dev.trainClose (d : Dev) (new : Bool) : Dev :=
  let bad := (List.range 64).filter fun m => d.mem.checked.get 0 m % 4 ≠ 1
  let d := bad.foldl (fun d m => (if m < 48 then d else d.withholdBlocks m).markRetired m) d
  let d := (d.setFld MTRN.TRAIN_STAT_WINDOW 0).setFld MTRN.TRAIN_STAT_RETIRED bad.length
  let d := if 2 < (bad.filter (· < 48)).length then
      ((d.setFld FLOW.KEY_STAT_DISABLED 1).setFld TOP.BOOT_STATUS_FLOW_MEM_FAIL 1).raise CFGL.int_FLOW_MEM_FAIL
    else d
  if new && d.on CFGL.TRAIN_CFG_STORE && d.boot.flash then d.flashWrite d.boot.train d.trainArea else d

/-! ### Soft resets -/

/-- SOFT_RESET of MEMC (R403). -/
def Dev.softMemc (d : Dev) : Dev :=
  let d := d.each 64 Dev.scrubAbort
  ((d.setReg MEMC.SCRUB_CFG (MEMC.SCRUB_CFG.rstOf 0)).setReg MEMC.PASR_FLOW (MEMC.PASR_FLOW.rstOf 0)).setReg
    MEMC.RETIRE_CFG (MEMC.RETIRE_CFG.rstOf 0)

/-- SOFT_RESET of MTRN (R405). -/
def Dev.softMtrn (d : Dev) : Dev := d.each 64 Dev.stepAbort

end Sys2Proof.Machine
end

