-- ==== Sys2Proof/Machine/Aes.lean ====
section
/-! DEFINITION. The AES block cipher of FIPS 197 with 128-bit and 256-bit keys, forward and inverse (R306). A state is its
16 bytes in input order, so byte 4c + r stands in row r of column c. -/

namespace Sys2Proof.Machine

/-- Multiplication by x in GF(2^8). -/
def xtime (a : Nat) : Nat := if 128 ≤ a then (2 * a ^^^ 0x11B) % 256 else 2 * a

/-- Multiplication in GF(2^8), over the bits of `b`. -/
def gmul (fuel a b : Nat) : Nat :=
  match fuel with
  | 0 => 0
  | n + 1 => (if b % 2 = 1 then a else 0) ^^^ gmul n (xtime a) (b / 2)

/-- The inverse in GF(2^8): the 254th power, and 0 for 0. -/
def ginv (a : Nat) : Nat :=
  let m := gmul 8
  let a2 := m a a
  let a3 := m a2 a
  let a6 := m a3 a3
  let a12 := m a6 a6
  let a15 := m a12 a3
  let a30 := m a15 a15
  let a60 := m a30 a30
  let a120 := m a60 a60
  let a126 := m a120 a6
  let a127 := m a126 a
  m a127 a127

def rot8 (a n : Nat) : Nat := (a * 2 ^ n) % 256 + a * 2 ^ n / 256

/-- SubBytes of one byte, and its inverse. -/
def sbox (a : Nat) : Nat :=
  let b := ginv a
  b ^^^ rot8 b 1 ^^^ rot8 b 2 ^^^ rot8 b 3 ^^^ rot8 b 4 ^^^ 0x63
def invSbox (a : Nat) : Nat := ginv (rot8 a 1 ^^^ rot8 a 3 ^^^ rot8 a 6 ^^^ 0x05)

/-- AddRoundKey. -/
def xorBytes (a b : List Nat) : List Nat := List.zipWith (· ^^^ ·) a b

/-- The round constant of round `i`, from 1. -/
def rcon : Nat → Nat
  | 0 => 0x8D
  | n + 1 => xtime (rcon n)

/-- Word `i` of the key schedule for a key of `nk` words, from the words before it, last first. -/
def nextKeyWord (nk i : Nat) (before : List (List Nat)) : List Nat :=
  let prev := before.getD 0 []
  let t := if i % nk = 0 then xorBytes ((prev.drop 1 ++ prev.take 1).map sbox) [rcon (i / nk), 0, 0, 0]
    else if 6 < nk ∧ i % nk = 4 then prev.map sbox else prev
  xorBytes (before.getD (nk - 1) []) t

/-- The key schedule extended by `n` words, last first. -/
def keyWords (nk n i : Nat) (before : List (List Nat)) : List (List Nat) :=
  match n with
  | 0 => before
  | m + 1 => keyWords nk m (i + 1) (nextKeyWord nk i before :: before)

/-- Four bytes at a time. -/
def chunk4 (fuel : Nat) (l : List Nat) : List (List Nat) :=
  match fuel with
  | 0 => []
  | n + 1 => l.take 4 :: chunk4 n (l.drop 4)

/-- The round keys of a key of 16 or 32 bytes, in order. -/
def roundKeys (key : List Nat) : List (List Nat) :=
  let nk := key.length / 4
  let words := (keyWords nk (4 * (nk + 7) - nk) nk (chunk4 nk key).reverse).reverse
  (List.range (nk + 7)).map fun r => ((words.drop (4 * r)).take 4).flatten

/-- ShiftRows and its inverse. -/
def shiftRows (s : List Nat) : List Nat := (List.range 16).map fun i => s.getD ((i + 4 * (i % 4)) % 16) 0
def invShiftRows (s : List Nat) : List Nat := (List.range 16).map fun i => s.getD ((i + 16 - 4 * (i % 4)) % 16) 0

/-- MixColumns with a row of coefficients. -/
def mixWith (c : List Nat) (s : List Nat) : List Nat :=
  (List.range 16).map fun i =>
    (List.range 4).foldl (fun x k => x ^^^ gmul 8 (s.getD (4 * (i / 4) + k) 0) (c.getD ((k + 4 - i % 4) % 4) 0)) 0

/-- The rounds between the first round key and the last. -/
def encRounds (ks : List (List Nat)) (s : List Nat) : List Nat :=
  match ks with
  | [] => s
  | [k] => xorBytes (shiftRows (s.map sbox)) k
  | k :: r => encRounds r (xorBytes (mixWith [2, 3, 1, 1] (shiftRows (s.map sbox))) k)

def decRounds (ks : List (List Nat)) (s : List Nat) : List Nat :=
  match ks with
  | [] => s
  | [k] => xorBytes ((invShiftRows s).map invSbox) k
  | k :: r => decRounds r (mixWith [14, 11, 13, 9] (xorBytes ((invShiftRows s).map invSbox) k))

/-- One block, encrypted or decrypted under a key of 16 or 32 bytes. -/
def aesBlock (dec : Bool) (key block : List Byte) : List Byte :=
  let ks := roundKeys (key.map BitVec.toNat)
  let s := block.map BitVec.toNat
  let out := if dec then
      match ks.reverse with
      | k :: r => decRounds r (xorBytes s k)
      | [] => s
    else
      match ks with
      | k :: r => encRounds r (xorBytes s k)
      | [] => s
  out.map (BitVec.ofNat 8)

end Sys2Proof.Machine
end

