-- ==== Sys2Proof/Machine/Threads.lean ====
section
/-! DEFINITION. Hardware threads of the flow engines (R233, R236): their registers and the windows that their tasks see,
reading and writing. -/

namespace Sys2Proof.Machine

/-- A thread: its frond and, in it, engine × 16 + thread. -/
def thrKey (frond thread : Nat) : Nat := frond % 8 * 256 + thread % 256
def thrFrond (k : Nat) : Nat := k / 256
/-- Engine in [3:0] and thread in [7:4], as samples report them. -/
def thrWho (k : Nat) : Nat := k % 256 / 16 + k % 16 * 16

def Dev.thread (d : Dev) (k : Nat) : Thread := d.eng.threads.get {} k
def Dev.setThread (d : Dev) (k : Nat) (t : Thread) : Dev :=
  { d with eng := { d.eng with threads := d.eng.threads.set {} k t } }

/-- The task on a thread, with its index in the store. -/
def Dev.taskOn (d : Dev) (k : Nat) : Option (Nat × Task) :=
  match (d.thread k).task with
  | some i => (d.task (thrFrond k) i).map fun t => (i, t)
  | none => none

/-- A thread that issues: it holds a task and waits for nothing (R234). -/
def Dev.running (d : Dev) (k : Nat) : Option (Nat × Task) :=
  if (d.thread k).wait = none then d.taskOn k else none

/-- What a command of a running thread does. -/
def Dev.onThread (d : Dev) (k : Nat) (f : Dev → Nat → Task → Thread → Dev) : Dev :=
  match d.running k with
  | some (i, t) => f d i t (d.thread k)
  | none => d

/-- How far the groups of a thread's nanoword have acted (R247). -/
def Dev.wordStage (d : Dev) (k : Nat) : Nat := d.eng.stage.get 0 k % 4
def Dev.setStage (d : Dev) (k n : Nat) : Dev := { d with eng := { d.eng with stage := d.eng.stage.set 0 k n } }

/-- Whether a group that acts once in a nanoword has not: 1 MOVE, 2 MEM, 3 UNIT, 4 UPD; 0 is any other (R247). -/
def Dev.groupFree (d : Dev) (k g : Nat) : Bool := g = 0 || !bitOf (d.eng.stage.get 0 k) (g + 3)

/-- A group has acted. -/
def Dev.groupDone (d : Dev) (k g after : Nat) : Dev :=
  d.setStage k (after + (d.eng.stage.get 0 k / 16 ||| (if g = 0 then 0 else 2 ^ (g - 1))) * 16)

/-- The turn of a thread in its engine's round, which starts after the thread that issued last (R234). -/
def Dev.turn (d : Dev) (k : Nat) : Nat := (k % 16 + 15 - d.eng.last.get 15 (k / 16)) % 16

/-- Whether a thread may issue: its engine's port is free, and no ready thread of the engine comes before it (R234). -/
def Dev.mayIssue (d : Dev) (k : Nat) : Bool :=
  decide (d.eng.port.get 0 (k / 16) ≤ d.clk.up) &&
    (List.range 16).all fun j => (d.running (k / 16 * 16 + j)).isNone || d.turn k ≤ d.turn (k / 16 * 16 + j)

/-- A thread issues: its engine's port is held for `n` cycles of the island's clock, 0.625 ns at full pace, and its nanoword is over
(R90, R93, R234). -/
def Dev.issued (d : Dev) (k n : Nat) : Dev :=
  let share := 4 - d.fld ISLE.PACE_STAT_CURRENT (islandOfFrond (thrFrond k))
  ({ d with eng := { d.eng with last := d.eng.last.set 15 (k / 16) (k % 16),
                                port := d.eng.port.set 0 (k / 16) (d.clk.up + (n * 25 + share - 1) / share) } }).setStage k 0

/-- What a command of a group of a thread's nanoword does, while the thread may issue. The groups act in the order of R247: the command
acts while none beyond `upto` has acted and its own group has not, and `after` has acted after it. (DEDUCED, log entry 73) -/
def Dev.onGroup (d : Dev) (k g upto after : Nat) (f : Dev → Nat → Task → Thread → Dev) : Dev :=
  if d.mayIssue k && d.wordStage k ≤ upto && d.groupFree k g then d.onThread k fun d i t th => f (d.groupDone k g after) i t th else d

/-- Tasks on the threads of a frond, and how many threads of an engine are busy. -/
def Dev.threadsBusy (d : Dev) (c : Nat) : Nat :=
  (d.eng.threads.filter fun p => p.1 / 256 = c && p.2.task.isSome).length
def Dev.engineBusy (d : Dev) (c e : Nat) : Nat :=
  (d.eng.threads.filter fun p => p.1 / 16 = 16 * c + e && p.2.task.isSome).length

/-! ### Registers -/

/-- G0 reads 0 and ignores writes. -/
def Thread.rg (t : Thread) (i : Nat) : Nat := if i % 32 = 0 then 0 else t.g.get 0 (i % 32)
def Thread.wg (t : Thread) (i v : Nat) : Thread := if i % 32 = 0 then t else { t with g := t.g.set 0 (i % 32) (v % 2 ^ 32) }
def Thread.rv (t : Thread) (i : Nat) : Nat := t.v.get 0 (i % 4)
def Thread.wv (t : Thread) (i v : Nat) : Thread := { t with v := t.v.set 0 (i % 4) (v % 2 ^ 128) }

/-- A pair of G registers as one value of 64 bits, the low register first. -/
def Thread.rpair (t : Thread) (i : Nat) : Nat := t.rg i + t.rg (i + 1) * 2 ^ 32
def Thread.wpair (t : Thread) (i v : Nat) : Thread := (t.wg i v).wg (i + 1) (v / 2 ^ 32)

/-- STS: [7:0] of the last record update, [15:8] of the last unit call. -/
def Thread.setUpd (t : Thread) (s : Nat) : Thread := { t with sts := setBits t.sts 0 8 s }
def Thread.setUnit (t : Thread) (s : Nat) : Thread := { t with sts := setBits t.sts 8 8 s }

def Dev.updThread (d : Dev) (k : Nat) (f : Thread → Thread) : Dev := d.setThread k (f (d.thread k))

/-- What a task keeps when it leaves its thread: its record has 14 bits for each address (R261, R265). (DEDUCED, log entry 61) -/
def Task.leave (t : Task) (th : Thread) (next : Nat) : Task :=
  { t with state := 3, saved := [th.rg 1, th.rg 2, th.rg 3, th.rg 4], zcn := bit th.z + 2 * bit th.c + 4 * bit th.n, sts := th.sts,
           stack := th.stack.map (· % 2 ^ 14), resume := next % 2 ^ 14 }

/-! ### The fetch (R251) -/

/-- Bit 14 of an address says that it is a word of patch RAM. (DEDUCED, log entry 73) -/
def inRam (pc : Nat) : Bool := decide (2 ^ 14 ≤ pc)

/-- The patch RAM word that a slot in force sends a fetch to; the lowest slot applies. (DEDUCED, log entry 73) -/
def Dev.redirect (d : Dev) (c pc : Nat) : Option Nat :=
  if !d.enabled 0x34 then none else
  ((List.range 32).find? fun s =>
    let x := d.eng.patch.get 0 (c * 32 + s)
    bitOf x 31 && x % 2 ^ 14 = pc).map fun s => bitsOf (d.eng.patch.get 0 (c * 32 + s)) 14 8

/-- Where a fetch at an address reads, and the word there: none beyond the loaded count. (DEDUCED, log entry 73) -/
def Dev.fetch (d : Dev) (c pc : Nat) : Nat × Option Nat :=
  let ram := fun (w : Nat) => (2 ^ 14 + w % 256, some (d.eng.pram.get 0 (c * 256 + w % 256)))
  if inRam pc then ram (pc - 2 ^ 14)
  else match d.redirect c pc with
    | some w => ram w
    | none => (pc, if pc < d.eng.mw then some (d.eng.micro.get 0 pc) else none)

def wordNano (w : Nat) : Nat := bitsOf w 20 12
def wordCond (w : Nat) : Nat := bitsOf w 16 4
def wordImm (w : Nat) : Nat := w % 65536
/-- Whether IMM is a target. -/
def branching (cond : Nat) : Bool := decide (1 ≤ cond ∧ cond ≤ 11) || cond = 13

/-- The IMM of the microword at a thread's address. -/
def Dev.immOf (d : Dev) (k : Nat) : Option Nat := (d.fetch (thrFrond k) (d.thread k).pc).2.map wordImm

/-- The immediate of an operation whose row says `n`: that of the microword at the thread's address, where there is one of COND 0 or 14
(R245). (DEDUCED, log entry 73) -/
def Dev.immAt (d : Dev) (k n : Nat) : Nat :=
  match (d.fetch (thrFrond k) (d.thread k).pc).2 with
  | some w => if wordCond w = 0 ∨ wordCond w = 14 then wordImm w else n
  | none => n

/-- The microword address that a sample reports: bit 15 says that the word was read from patch RAM (R432). -/
def Dev.sampleAddr (d : Dev) (k : Nat) : Nat :=
  let pc := (d.fetch (thrFrond k) (d.thread k).pc).1
  pc % 2 ^ 14 + bit (inRam pc) * 2 ^ 15

/-! ### Windows (R236, R237) -/

/-- A record as 128 bytes of flow memory: 14 bytes of payload in each guard word of 16. -/
def recImage (r : Nat) : List Byte :=
  (List.range 8).flatMap fun w => leBytes 14 (r / 2 ^ (112 * w)) ++ [0, 0]

/-- The payload of such bytes. -/
def imagePayload (bs : List Byte) : Nat :=
  (List.range 8).foldl (fun n w => n + leNat ((bs.drop (16 * w)).take 14) * 2 ^ (112 * w)) 0

/-- The bytes between: 14 and 15 of each 16. -/
def imagePad (bs : List Byte) : Nat :=
  (List.range 8).foldl (fun n w => n + leNat ((bs.drop (16 * w + 14)).take 2) * 2 ^ (16 * w)) 0

/-- The DRAFT window: 128 bytes that the task may write, each (R236). -/
def Thread.draftBytes (th : Thread) : List Byte :=
  (List.range 8).flatMap fun w => leBytes 14 (th.draft / 2 ^ (112 * w)) ++ leBytes 2 (th.pad / 2 ^ (16 * w))

/-- META.FLAGS. -/
def metaFlags (v : View) (pkt : Bool) : Nat :=
  bit (v.dir = 1) + 2 * bit v.hit + 4 * bit (v.hit && slotAlt v.record) + 8 * bit v.wide + 16 * bit v.inserted + 32 * bit pkt

/-- META from byte 64 on: summary, layer starts, results, the packet's port, stamp and length. Open values are a layer start
that the parse did not record, and what only a packet has in the META of another task. (DEDUCED, log entry 75) -/
def Dev.metaTail (d : Dev) (t : Task) (v : View) : List Byte :=
  let f := match t.desc with | some k => d.frame k | none => none
  let gap := fun (n : Nat) => leBytes n d.freeVal.toNat
  let of := fun (n : Nat) (g : Frame → Nat) => match f with | some f => leBytes n (g f) | none => gap n
  let starts := match f with
    | some f => (f.ctx.layers.zip (gap 8)).map fun (p : Option Nat × Byte) =>
        match p.1 with | some s => BitVec.ofNat 8 s | none => p.2
    | none => gap 8
  of 4 (fun f => f.ctx.summary) ++ starts ++ of 8 (fun f => f.ctx.res) ++ of 2 (fun f => f.ctx.fwd.result) ++
    of 1 (fun f => f.ingress) ++ leBytes 1 (metaFlags v (pktKind t.kind)) ++ of 8 (fun f => (stampOf f.stamp).toNat) ++
    leBytes 2 t.epoch ++ of 2 (fun f => f.len) ++ leBytes 4 v.home ++
    leBytes 1 (if v.hit then rProg.get v.record / 2 ^ 14 else 0) ++ leBytes 1 t.kind ++ List.replicate 22 0

/-- META of a task. (DEDUCED, log entry 75) -/
def Dev.metaOf (d : Dev) (t : Task) : List Byte :=
  let head := match t.desc with
    | some k => match d.frame k with | some f => f.ctx.ext | none => []
    | none => t.args
  (head ++ List.replicate (64 - head.length) 0).take 64 ++ d.metaTail t t.view

/-- The bytes of a window. -/
def Dev.window_ (d : Dev) (t : Task) (th : Thread) (w : EngWin) : List Byte :=
  match w with
  | .head => match t.desc with
    | some k => match d.frame k with | some f => f.bytes.take 192 | none => []
    | none => []
  | .meta_ => d.metaOf t
  | .record => recImage t.view.record
  | .draft => th.draftBytes
  | .param => (List.range 16).flatMap fun i => leBytes 4 (d.numAt t.cgen (FENG.PARAM.ix i))
  | .res => leBytes 8 th.res

/-- The byte offset that a place names in its window. -/
def Dev.placeOff (d : Dev) (t : Task) (layer : Option Nat) (off : Nat) : Nat :=
  match layer with
  | some l => ((d.metaOf t).getD (68 + l % 8) 0).toNat + off
  | none => off

/-- `n` bytes of a place: a window reads 0 beyond its length, and a register's bytes go on in the registers after it. -/
def Dev.readPlace (d : Dev) (t : Task) (th : Thread) (p : EngPlace) (n : Nat) : List Byte :=
  match p with
  | .g i => ((List.range ((n + 3) / 4)).flatMap fun k => leBytes 4 (th.rg (i + k))).take n
  | .v i => ((List.range ((n + 15) / 16)).flatMap fun k => leBytes 16 (th.rv (i + k))).take n
  | .win w layer off =>
    let o := d.placeOff t layer off
    let bs := d.window_ t th w
    (List.range n).map fun k => bs.getD (o + k) 0
  | .field lo len => leBytes n (bitsOf th.res lo len)

/-- Bytes written into G registers or V registers, each register taking what falls to it; the rest of the last is 0. -/
def writeRegs (size : Nat) (f : Thread → Nat → Nat → Thread) (i : Nat) (bs : List Byte) (t : Thread) : Thread :=
  (List.range ((bs.length + size - 1) / size)).foldl (fun t k => f t (i + k) (leNat ((bs.drop (size * k)).take size))) t

/-- A thread with bytes written to a place; none where the place may not be written (R236, R243). -/
def Dev.writePlace (d : Dev) (t : Task) (th : Thread) (p : EngPlace) (bs : List Byte) : Option Thread :=
  match p with
  | .g i => some (writeRegs 4 Thread.wg i bs th)
  | .v i => some (writeRegs 16 Thread.wv i bs th)
  | .win .draft layer off =>
    let o := d.placeOff t layer off
    let all := putAt th.draftBytes o bs
    if o + bs.length ≤ 128 then some { th with draft := imagePayload all, pad := imagePad all } else none
  | .win .res layer off =>
    let o := d.placeOff t layer off
    if o + bs.length ≤ 8 then some { th with res := leNat (putAt (leBytes 8 th.res) o bs) } else none
  | .win _ _ _ => none
  | .field lo len => if lo + len ≤ 64 then some { th with res := setBits th.res lo len (leNat bs) } else none

/-- The value of a source for an ALU word of `n` bytes. -/
def Dev.srcVal (d : Dev) (k : Nat) (t : Task) (th : Thread) (s : EngSrc) (n : Nat) : Nat :=
  match s with
  | .place (.g i) => th.rg i
  | .place (.v i) => th.rv i % 256 ^ n
  | .place p => leNat (d.readPlace t th p n)
  | .const v => v % 65536
  | .imm => (d.immOf k).getD 0

/-- How many bytes a transfer moves. -/
def moveBytes (x : Transfer) : Nat := max 1 (min 128 x.len)

/-- A thread with its MOVE's transfer to a window made, where one waits for the ALUs (R247). -/
def Dev.flushed (d : Dev) (t : Task) (th : Thread) : Thread :=
  match th.late with
  | some x => { (d.writePlace t th x.dst (d.readPlace t th x.src (moveBytes x))).getD th with late := none }
  | none => th

/-- What a command of the groups that act last does: MOVE writes, MEM stores, OUT, UNIT and UPD (R247). -/
def Dev.onLast (d : Dev) (k g : Nat) (f : Dev → Nat → Task → Thread → Dev) : Dev :=
  d.onGroup k g 3 3 fun d i t th =>
    if th.late.isNone then f d i t th else f (d.setThread k (d.flushed t th)) i t (d.flushed t th)

/-- What an update does that the task's own program sends in a nanoword, or the library's program. -/
def Dev.onProg (d : Dev) (k : Nat) (prog : Program) (f : Dev → Nat → Task → Thread → Dev) : Dev :=
  match prog with
  | .own => d.onLast k 4 f
  | .library => d.onThread k f

end Sys2Proof.Machine
end

