-- ==== Sys2Proof/Machine/Cipher.lean ====
section
/-! DEFINITION. Cipher units (R306 to R319, R326): the lock, blocks, key slots, nonces and host runs. -/

namespace Sys2Proof.Machine

def Dev.setUnits (d : Dev) (x : Units) : Dev := { d with units := x }
def Dev.cipher (d : Dev) (c : Nat) : Cipher := d.units.ciphers.get {} c
def Dev.setCipher (d : Dev) (c : Nat) (x : Cipher) : Dev :=
  d.setUnits { d.units with ciphers := d.units.ciphers.set {} c x }
def Dev.keySlot (d : Dev) (c s : Nat) : KeySlot := d.units.keys.get {} (c * 32 + s % 32)
def Dev.setKeySlot (d : Dev) (c s : Nat) (x : KeySlot) : Dev :=
  d.setUnits { d.units with keys := d.units.keys.set {} (c * 32 + s % 32) x }

/-- Cycles of a cluster island since an uptime, at its current pace (R93). -/
def Dev.cyclesSince (d : Dev) (c t : Nat) : Nat :=
  (d.clk.up - t) * (4 - d.fld ISLE.PACE_STAT_CURRENT (islandOfFrond c)) / 25

/-- The task on a thread as a user of the units, and its id. -/
def Dev.idOn (d : Dev) (k : Nat) : Nat := match d.taskOn k with | some (i, t) => t.id i | none => noId
def Dev.userOn (d : Dev) (k : Nat) : User := .task (k % 256) (d.idOn k)

/-- HOLDER, ENGINE, THREAD and TASK of LOCK_STAT and OWNER. -/
def userWord (u : Option User) : Nat :=
  match u with
  | none => 0
  | some (.task th id) => 1 + th / 16 * 4 + th % 16 * 64 + id * 1024
  | some (.path p) => 2 + p % 2

def Dev.lockStat (d : Dev) (c : Nat) : Nat := userWord (d.cipher c).holder + bit (!(d.cipher c).waiters.isEmpty) * 2 ^ 30

/-- A unit call of a thread ends with a status of R319. -/
def Dev.unitDone (d : Dev) (k status : Nat) : Dev := d.updThread k fun th => { th.setUnit status with wait := none }

/-- A call's result reaches its thread, where its task still is. -/
def Dev.callDone (d : Dev) (c : Nat) (call : BlockCall) (status : Nat) (result : Option Nat) : Dev :=
  let k := thrKey c call.thread
  let d := d.opSample (islandOfFrond c) 3 (thrWho k) call.id (d.sampleAddr k) call.slot
  if d.idOn k = call.id ∧ (d.thread k).wait = some .block then
    let d := match result with | some v => d.updThread k fun th => th.wv call.dst v | none => d
    d.unitDone k status
  else d

/-! ### The contents of key slots (R313 to R315) -/

/-- A LOAD or ERASE takes effect: a LOAD draws a new nonce epoch. (DEDUCED, log entry 81) -/
def Dev.keyApply (d : Dev) (c s : Nat) (load : Option (List Byte × Bool)) : Dev :=
  let gen := ((d.keySlot c s).gen + 1) % 256
  match load with
  | some (key, size) =>
    (d.setKeySlot c s { key := key, size := size, valid := true, gen := gen, epoch := d.rng.toNat % 2 ^ 48 }).drawn
  | none => d.setKeySlot c s { gen := gen }

/-- A pending command whose block has completed takes effect (R314). (DEDUCED, log entry 81) -/
def Dev.keyPending (d : Dev) (c s : Nat) : Dev :=
  match (d.keySlot c s).cmd with
  | some p => if p.after_ ≤ (d.cipher c).done then d.keyApply c s p.load else d
  | none => d

/-- How a key slot reads where it is used (R315). -/
def Dev.slotReads (d : Dev) (c s : Nat) (key : Guard) : Dev :=
  match key with
  | .bad => ((d.setKeySlot c s { d.keySlot c s with fault := true }).raise CIPH.int_KEY_FAULT).sramUe (islandOfFrond c) 7 (s % 32)
  | .corrected => d.sramCe (islandOfFrond c)
  | .clean => d

/-! ### Nonces (R316, R317) -/

/-- A nonce of a slot, once a key command that is due has taken effect (R314): its status and, with status 0, its 16 bytes as they
stand in a V register. -/
def Dev.takeNonce (d : Dev) (c s : Nat) (key : Guard) : Dev × Nat × List Byte :=
  let d := (d.keyPending c s).slotReads c s key
  let x := d.keySlot c s
  if x.fault then (d, 5, [])
  else if !x.valid then (d, 3, [])
  else if 2 ^ 48 ≤ x.counter then
    let d := d.bump CIPH.NONCE_REFUSED c
    let d := if x.exhausted then d else (d.raise CIPH.int_NONCE_EXHAUSTED).log (islandOfFrond c) 0x3802 c s
    (d.setKeySlot c s { x with exhausted := true }, 4, [])
  else
    let n := beBytes 6 x.epoch ++ beBytes 6 x.counter ++ leBytes 1 x.gen ++ [0, 0, 0]
    let d := d.setKeySlot c s { x with counter := x.counter + 1 }
    (if x.counter + 1 = 2 ^ 48 - 2 ^ 44 then d.raise CIPH.int_NONCE_LOW else d, 0, n)

/-- Whether the unit works on nothing. -/
def Dev.unitIdle (d : Dev) (c : Nat) : Bool := (d.cipher c).queue.isEmpty && (d.cipher c).run.isNone

/-- A NONCE of a thread is served. -/
def Dev.nonceServe (d : Dev) (c : Nat) (call : BlockCall) : Dev :=
  let (d, st, n) := d.takeNonce c call.slot call.key
  d.callDone c call st (if st = 0 then some (leNat n) else none)

/-- A nonce of a host path reaches NONCE_W0 to NONCE_W2. -/
def Dev.hostNonce (d : Dev) (c : Nat) (x : HostNonce) : Dev :=
  let (d, st, n) := d.takeNonce c x.slot x.key
  if st = 0 then d.each 3 fun d i => d.setRegP (CIPH.NONCE_W.ix i) x.path c (BitVec.ofNat 32 (leNat ((n.drop (4 * i)).take 4)))
  else d

/-! ### The lock (R309 to R312) -/

def Dev.hold (d : Dev) (c : Nat) (u : Option User) : Dev :=
  d.setCipher c { d.cipher c with holder := u, granted := d.clk.up, active := d.clk.up }

/-- A user asks for the lock, or for one ONCE call. (DEDUCED, log entry 80) -/
def Dev.lockAsk (d : Dev) (c : Nat) (u : User) (call : Option BlockCall) : Dev :=
  d.setCipher c { d.cipher c with waiters := (d.cipher c).waiters ++ [{ user := u, call := call, since := d.clk.up }] }

/-- LOCK_WAIT rises, saturating. -/
def Dev.lockWaited (d : Dev) (c since : Nat) : Dev :=
  d.setNum CIPH.LOCK_WAIT (min 0xFFFFFFFF (d.num CIPH.LOCK_WAIT c + d.cyclesSince c since)) c

/-- A call of the holder reaches the unit: a NONCE is served at once where the unit is idle, and everything else waits its turn
(R308). -/
def Dev.callStart (d : Dev) (c : Nat) (call : BlockCall) : Dev :=
  if call.op = 2 && d.unitIdle c then
    let d := d.nonceServe c call
    if call.once && (d.cipher c).holder = some (User.task call.thread call.id) then d.hold c none else d
  else d.setCipher c { d.cipher c with queue := (d.cipher c).queue ++ [call] }

/-- The free lock passes to the next waiter. (DEDUCED, log entry 80) -/
def Dev.lockPass (d : Dev) (c : Nat) : Dev :=
  let x := d.cipher c
  match x.holder, x.waiters with
  | none, w :: r =>
    let d := (d.setCipher c { x with waiters := r }).lockWaited c w.since
    let d := d.hold c (some w.user)
    match w.user, w.call with
    | .task th _, none => d.unitDone (thrKey c th) 0
    | _, some call => d.callStart c call
    | .path _, none => d
  | _, _ => d

/-! ### Calls and the queue (R308, R309) -/

/-- The call whose block is in progress; none where a run has it, or nothing does. -/
def Dev.inWork (d : Dev) (c : Nat) : Option BlockCall :=
  if (d.cipher c).runs then none else
  match (d.cipher c).queue with
  | q :: _ => if q.op = 2 then none else some q
  | [] => none

/-- The unit goes on: to the head of its queue, which came before the next block of a run, and else to the run (R308). -/
def Dev.unitNext (d : Dev) (c : Nat) : Dev :=
  d.setCipher c { d.cipher c with runs := (d.cipher c).run.isSome && (d.cipher c).queue.isEmpty }

/-- Whether the queue is full: 32 calls wait behind the block in progress or, as ONCE calls, for the lock.
(DEDUCED, log entry 80) -/
def Dev.unitFull (d : Dev) (c : Nat) : Bool :=
  decide (32 ≤ ((d.cipher c).queue.drop (bit !(d.cipher c).runs)).length + ((d.cipher c).waiters.filter fun w => w.call.isSome).length)

/-- An engine call is placed: a ONCE call asks for the lock, and another call needs it. -/
def Dev.placeCall (d : Dev) (c : Nat) (call : BlockCall) : Dev :=
  let u := User.task call.thread call.id
  if !d.enabled 0x38 then d.unitDone (thrKey c call.thread) 7
  else if call.once then d.lockAsk c u (some call)
  else if (d.cipher c).holder ≠ some u then d.unitDone (thrKey c call.thread) 2
  else (d.setCipher c { d.cipher c with active := d.clk.up }).callStart c call

/-- Calls that waited for room in the queue are placed while there is some. -/
def Dev.placeCalls (fuel : Nat) (d : Dev) (c : Nat) : Dev :=
  match fuel, (d.cipher c).arrivals with
  | n + 1, a :: r =>
    if d.unitFull c then d else Dev.placeCalls n ((d.setCipher c { d.cipher c with arrivals := r }).placeCall c a) c
  | _, _ => d
def Dev.roomMade (d : Dev) (c : Nat) : Dev := Dev.placeCalls ((d.cipher c).arrivals.length) d c

def Dev.lockGrant (d : Dev) (c : Nat) : Dev := (d.lockPass c).roomMade c

/-- LOCK_GRANT (R310). -/
def execLockGrant (frond : Nat) (s : State) : Host.Outcome State Fault Refusal := s.run fun d => d.lockGrant (frond % 8)

/-- The longest waiter has waited LOCK_WAIT_MAX cycles: its request is withdrawn (R310). (DEDUCED, log entry 80) -/
def Dev.lockExpiry (d : Dev) (c : Nat) : Dev :=
  let x := d.cipher c
  let max := d.num CIPH.LOCK_WAIT_MAX
  match x.waiters with
  | w :: r =>
    if max ≠ 0 ∧ max ≤ d.cyclesSince c w.since then
      let d := (d.setCipher c { x with waiters := r }).lockWaited c w.since
      match w.user with
      | .task th _ => (d.unitDone (thrKey c th) 1).roomMade c
      | .path _ => d
    else d
  | [] => d

/-- LOCK_WAIT_EXPIRY (R310). -/
def execLockWaitExpiry (frond : Nat) (s : State) : Host.Outcome State Fault Refusal := s.run fun d => d.lockExpiry (frond % 8)

/-- Whether the holder has a call queued or in progress. -/
def Dev.holderBusy (d : Dev) (c : Nat) : Bool :=
  let x := d.cipher c
  match x.holder with
  | some (.task th id) => x.queue.any fun q => q.thread = th && q.id = id
  | some (.path p) => x.run = some p
  | none => false

/-- An idle holder reaches LOCK_TO (R312). (DEDUCED, log entry 80) -/
def Dev.lockTimeout (d : Dev) (c : Nat) : Dev :=
  let x := d.cipher c
  let late := match x.holder with
    | some (.task _ _) => decide (d.fld CIPH.LOCK_TO_ENG ≤ d.cyclesSince c x.active)
    | some (.path _) => decide (d.fld CIPH.LOCK_TO_HOST * 10000 ≤ d.clk.up - x.active)
    | none => false
  if late && !d.holderBusy c then
    let word := d.lockStat c
    ((((d.hold c none).bump CIPH.LOCK_TIMEOUTS c).raise CIPH.int_LOCK_TIMEOUT)).log (islandOfFrond c) 0x3801 c word
  else d

/-- LOCK_TIMEOUT (R312). -/
def execLockTimeout (frond : Nat) (s : State) : Host.Outcome State Fault Refusal := s.run fun d => d.lockTimeout (frond % 8)

/-- A task ends: its lock is released, its requests and its calls that have not begun are dropped, and what it waited is counted
(R312, R326). -/
def Dev.cipherTaskEnd (d : Dev) (c id : Nat) : Dev :=
  let x := d.cipher c
  let mine := fun (u : User) => match u with | .task _ i => decide (i = id) | .path _ => false
  let others := fun (l : List BlockCall) => l.filter fun q => q.id ≠ id
  let d := (x.waiters.filter fun w => mine w.user).foldl (fun (d : Dev) w => d.lockWaited c w.since) d
  (d.setCipher c { x with holder := if x.holder.any mine then none else x.holder,
                          waiters := x.waiters.filter fun w => !mine w.user,
                          queue := x.queue.take (bit !x.runs) ++ others (x.queue.drop (bit !x.runs)),
                          arrivals := others x.arrivals }).roomMade c

/-- A host path asks for the lock, or frees it (R326). (DEDUCED, log entry 80) -/
def Dev.lockTake (d : Dev) (c path : Nat) : Dev :=
  let u := User.path (path % 2)
  if !d.enabled 0x38 || (d.cipher c).holder = some u || ((d.cipher c).waiters.any fun w => w.user = u) then d
  else d.lockAsk c u none
def Dev.lockFree (d : Dev) (c path : Nat) : Dev :=
  if (d.cipher c).holder = some (User.path (path % 2)) then d.hold c none else d

/-- LOCK_TAKE (R326). -/
def execLockTake (frond path : Nat) (s : State) : Host.Outcome State Fault Refusal :=
  s.act fun d => d.access 0x38 fun d => d.lockTake (frond % 8) path
/-- LOCK_FREE (R326). -/
def execLockFree (frond path : Nat) (s : State) : Host.Outcome State Fault Refusal :=
  s.act fun d => d.access 0x38 fun d => d.lockFree (frond % 8) path

/-! ### Engine calls (R309) -/

/-- LOCK of a thread (R309, R311). (DEDUCED, log entry 80) -/
def Dev.engLock (d : Dev) (k : Nat) : Dev :=
  let c := thrFrond k
  if !d.enabled 0x38 then d.unitDone k 7
  else if (d.cipher c).holder = some (d.userOn k) then d.unitDone k 0
  else (d.lockAsk c (d.userOn k) none).updThread k fun th => { th with wait := some (.lock d.clk.up) }

/-- A block or nonce call of a thread; while the queue is full it waits before it is placed (R308). -/
def Dev.engCall (d : Dev) (k slot op : Nat) (once : Bool) (src dst : Nat) (key : Guard) : Dev :=
  let c := thrFrond k
  let call : BlockCall := { thread := k % 256, id := d.idOn k, slot := slot % 32, op := op, once := once,
                            block := leBytes 16 ((d.thread k).rv src), dst := dst % 4, key := key }
  if !d.enabled 0x38 then d.unitDone k 7
  else
    let d := d.updThread k fun th => { th with wait := some .block }
    if d.unitFull c || !(d.cipher c).arrivals.isEmpty then
      d.setCipher c { d.cipher c with arrivals := (d.cipher c).arrivals ++ [call] }
    else d.placeCall c call

/-- FREE of a thread. -/
def Dev.engFree (d : Dev) (k : Nat) : Dev :=
  let c := thrFrond k
  if !d.enabled 0x38 then d.unitDone k 7
  else if (d.cipher c).holder = some (d.userOn k) then (d.hold c none).unitDone k 0
  else d.unitDone k 2

/-- LOCK (R309). -/
def execLock (frond thread : Nat) (s : State) : Host.Outcome State Fault Refusal :=
  s.run fun d => d.onLast (thrKey frond thread) 3 fun d _ _ _ => d.engLock (thrKey frond thread)
/-- ENC (R309). -/
def execEnc (frond thread slot : Nat) (once : Bool) (src dst : Nat) (s : State) : Host.Outcome State Fault Refusal :=
  s.run fun d => d.onLast (thrKey frond thread) 3 fun d _ _ _ => d.engCall (thrKey frond thread) slot 0 once src dst .clean
/-- DEC (R309). -/
def execDec (frond thread slot : Nat) (once : Bool) (src dst : Nat) (s : State) : Host.Outcome State Fault Refusal :=
  s.run fun d => d.onLast (thrKey frond thread) 3 fun d _ _ _ => d.engCall (thrKey frond thread) slot 1 once src dst .clean
/-- NONCE (R315, R316): `key` says how the slot reads. -/
def execNonce (frond thread slot : Nat) (once : Bool) (dst : Nat) (key : Guard) (s : State) : Host.Outcome State Fault Refusal :=
  s.run fun d => d.onLast (thrKey frond thread) 3 fun d _ _ _ => d.engCall (thrKey frond thread) slot 2 once 0 dst key
/-- FREE (R309). -/
def execFree (frond thread : Nat) (s : State) : Host.Outcome State Fault Refusal :=
  s.run fun d => d.onLast (thrKey frond thread) 3 fun d _ _ _ => d.engFree (thrKey frond thread)

/-! ### Key slots (R313 to R315) -/

/-- KEY_PENDING_APPLY (R314). -/
def execKeyPendingApply (frond slot : Nat) (s : State) : Host.Outcome State Fault Refusal :=
  s.run fun d => d.keyPending (frond % 8) (slot % 32)

/-- Whether the block in progress uses a slot. -/
def Dev.slotBusy (d : Dev) (c s : Nat) : Bool :=
  match d.inWork c with
  | some q => q.slot = s
  | none => (d.cipher c).run.isSome && d.fld CIPH.RUN_CFG_SLOT c = s

/-- The staging copy of a path: the key bytes that a LOAD takes. -/
def Dev.keyStaged (d : Dev) (c path : Nat) (size : Bool) : List Byte :=
  ((List.range 8).flatMap fun i => leBytes 4 (d.regP (CIPH.KEY.ix i) path c).toNat).take (if size then 32 else 16)

/-- A write of KEY_CTRL: `load` gives SIZE, none is ERASE. -/
def Dev.keyCmd (d : Dev) (c path : Nat) (load : Option Bool) : Dev :=
  let s := d.num CIPH.KEY_SLOT c % 32
  if (d.keySlot c s).cmd.isSome || (load.isSome && d.on TOP.BOOT_STATUS_RNG_FAIL) then d.raise CIPH.int_KEY_REFUSED else
  let what := load.map fun size => (d.keyStaged c path size, size)
  let d := d.each 8 fun d i => d.setRegP (CIPH.KEY.ix i) path c 0
  if d.slotBusy c s then d.setKeySlot c s { d.keySlot c s with cmd := some { load := what, after_ := (d.cipher c).done + 1 } }
  else d.keyApply c s what

/-- KEY_LOAD (R313). -/
def execKeyLoad (frond path : Nat) (size : Bool) (s : State) : Host.Outcome State Fault Refusal :=
  s.act fun d => d.access 0x38 fun d => d.keyCmd (frond % 8) path (some size)
/-- KEY_ERASE (R313). -/
def execKeyErase (frond path : Nat) (s : State) : Host.Outcome State Fault Refusal :=
  s.act fun d => d.access 0x38 fun d => d.keyCmd (frond % 8) path none

/-- KEY_STAT, NONCE_CNT_LO and NONCE_CNT_HI of the slot in KEY_SLOT. (DEDUCED, log entry 81) -/
def Dev.keyStat (d : Dev) (c : Nat) : Nat :=
  let x := d.keySlot c (d.num CIPH.KEY_SLOT c)
  bit x.valid + bit x.size * 2 + bit x.fault * 4 + bit x.cmd.isSome * 8 + x.gen * 256
def Dev.nonceCnt (d : Dev) (c : Nat) : Nat :=
  let n := (d.keySlot c (d.num CIPH.KEY_SLOT c)).counter
  n % 2 ^ 48 + bit (decide (2 ^ 48 ≤ n)) * 2 ^ 48

/-! ### Nonces and runs of a host path (R316, R318) -/

/-- NONCE_CTRL.GO: behind a block in progress the nonce waits for it (R308, R314). -/
def Dev.nonceGo (d : Dev) (c path : Nat) (key : Guard) : Dev :=
  if !d.enabled 0x38 || (d.cipher c).holder ≠ some (User.path (path % 2)) then d else
  let d := d.setCipher c { d.cipher c with active := d.clk.up }
  let x : HostNonce := { path := path, slot := d.num CIPH.KEY_SLOT c % 32, key := key }
  if d.unitIdle c then d.hostNonce c x else d.setCipher c { d.cipher c with nonces := (d.cipher c).nonces ++ [x] }

/-- NONCE_GO (R315, R316): `key` says how the slot reads. -/
def execNonceGo (frond path : Nat) (key : Guard) (s : State) : Host.Outcome State Fault Refusal :=
  s.act fun d => d.access 0x38 fun d => d.nonceGo (frond % 8) path key

/-- Nonces at the head of the queue are served, and those of the host, before the next block begins (R308). -/
def Dev.noncesServe (fuel : Nat) (d : Dev) (c : Nat) : Dev :=
  match fuel, (d.cipher c).nonces, (d.cipher c).queue with
  | n + 1, x :: r, _ => Dev.noncesServe n ((d.setCipher c { d.cipher c with nonces := r }).hostNonce c x) c
  | n + 1, [], q :: r =>
    if q.op ≠ 2 then d else
    let d := (d.setCipher c { d.cipher c with queue := r }).nonceServe c q
    Dev.noncesServe n (if q.once && (d.cipher c).holder = some (User.task q.thread q.id) then d.hold c none else d) c
  | _, _, _ => d

def Dev.noncesGo (d : Dev) (c : Nat) : Dev :=
  Dev.noncesServe ((d.cipher c).nonces.length + (d.cipher c).queue.length) d c

/-- RUN_CTRL.GO and ABORT. (DEDUCED, log entry 81) -/
def Dev.runGo (d : Dev) (c path : Nat) : Dev :=
  if !d.enabled 0x38 then d
  else if d.opState CIPH.RUN_STAT c = 1 ∨ (d.cipher c).holder ≠ some (User.path (path % 2)) then d.raise CIPH.int_KEY_REFUSED
  else (d.startOp CIPH.RUN_STAT c).setCipher c { d.cipher c with run := some (path % 2), runs := (d.cipher c).queue.isEmpty, active := d.clk.up }
def Dev.runAbort (d : Dev) (c : Nat) : Dev :=
  d.abortOp CIPH.RUN_STAT c fun d =>
    ((d.setCipher c { d.cipher c with run := none, active := d.clk.up, done := (d.cipher c).done + 1 }).unitNext c).noncesGo c

/-- RUN_GO (R318). -/
def execRunGo (frond path : Nat) (s : State) : Host.Outcome State Fault Refusal :=
  s.act fun d => d.access 0x38 fun d => d.runGo (frond % 8) path
/-- RUN_ABORT (R318). -/
def execRunAbort (frond : Nat) (s : State) : Host.Outcome State Fault Refusal :=
  s.act fun d => d.access 0x38 fun d => d.runAbort (frond % 8)

/-! ### Blocks (R306 to R308) -/

/-- A block is worked: its status and result. Its 16 + 3 × D + J cycles are drawn (R307). -/
def Dev.workBlock (d : Dev) (c slot : Nat) (dec : Bool) (block : List Byte) : Dev × Nat × List Byte :=
  let x := d.keySlot c slot
  if x.fault then (d, 5, [])
  else if !x.valid then (d, 3, [])
  else
    let r := d.rng.toNat
    let cost := 16 + 3 * (r % 8) + r / 8 % 4
    (((d.bump CIPH.BLOCKS c).bump CIPH.BUSY_CYC c cost).drawn, 0, aesBlock dec x.key block)

/-- A call's block completes; a ONCE call frees the lock. -/
def Dev.callBlock (d : Dev) (c : Nat) (q : BlockCall) : Dev :=
  let (d, st, out) := d.workBlock c q.slot (q.op = 1) q.block
  let d := d.setCipher c { d.cipher c with queue := (d.cipher c).queue.drop 1 }
  let d := d.callDone c q st (if st = 0 then some (leNat out) else none)
  if q.once ∧ (d.cipher c).holder = some (User.task q.thread q.id) then d.hold c none else d

/-- A block of the run completes; the run ends with its last one, or FAILED. (DEDUCED, log entry 81) -/
def Dev.runBlock (d : Dev) (c : Nat) (err : Bool) : Dev :=
  let n := d.num CIPH.RUN_STAT c / 256
  let stop := fun (d : Dev) (state n : Nat) =>
    ((d.setCipher c { d.cipher c with run := none }).endOp CIPH.RUN_STAT c state n).raise CIPH.int_RUN_DONE
  if err then stop d 4 n else
  let (d, st, out) := d.workBlock c (d.fld CIPH.RUN_CFG_SLOT c) (d.on CIPH.RUN_CFG_DIR c)
    (d.dmaRead (d.num2 CIPH.RUN_SRC_LO CIPH.RUN_SRC_HI c + 16 * n) 16)
  if st ≠ 0 then stop d 4 n else
  let d := d.dmaWrite (d.num2 CIPH.RUN_DST_LO CIPH.RUN_DST_HI c + 16 * n) out
  if d.fld CIPH.RUN_CFG_COUNT c ≤ n + 1 then stop d 2 (n + 1) else d.setNum CIPH.RUN_STAT (statusWord 1 0 (n + 1)) c

/-- The block in progress completes, the nonces behind it are served, and the next call starts. `key` says how its key slot reads
(R315), and `err` that a run met a PCIe error. (DEDUCED, log entry 81) -/
def Dev.blockDone (d : Dev) (c : Nat) (err : Bool) (key : Guard) : Dev :=
  if d.unitIdle c then d else
  let work := d.inWork c
  let slot := match work with | some q => q.slot | none => d.fld CIPH.RUN_CFG_SLOT c
  let d := (d.keyPending c slot).slotReads c slot key
  let d := d.setCipher c { d.cipher c with done := (d.cipher c).done + 1, active := d.clk.up }
  let d := match work with
    | some q => d.callBlock c q
    | none => if (d.cipher c).run.isSome then d.runBlock c err else d
  ((d.noncesGo c).unitNext c).roomMade c

/-- CIPHER_BLOCK_DONE (R307): `pcieErr` for a run, `keyUe` for a slot that reads uncorrectably. -/
def execCipherBlockDone (frond : Nat) (pcieErr : Bool) (key : Guard) (s : State) : Host.Outcome State Fault Refusal :=
  s.run fun d => d.blockDone (frond % 8) pcieErr key

/-- SPORE entry: every run is aborted and every lock released (R312, R318). -/
def Dev.cipherSpore (d : Dev) : Dev := d.each 8 fun d c => (if d.opState CIPH.RUN_STAT c = 1 then d.runAbort c else d).hold c none

/-- SOFT_RESET of CIPH (R326): every key slot is erased, whose GEN advances (R313). -/
def Dev.softCiph (d : Dev) : Dev := d.cipherSpore.each 256 fun d i => d.keyApply (i / 32) (i % 32) none

end Sys2Proof.Machine
end

