-- ==== Sys2Proof/Machine/Check.lean ====
section
/-! DEFINITION. Check-value units (R320 to R325, R328): four CRCs, their contexts, and the compare mode. -/

namespace Sys2Proof.Machine

/-- A preset: width, polynomial, initial value, whether bits are reflected, and the final XOR (R320). -/
structure Preset where
  width : Nat
  poly : Nat
  start : Nat
  reflected : Bool
  final : Nat
  deriving DecidableEq, Repr

def presetOf (p : Nat) : Preset :=
  match p % 4 with
  | 0 => ⟨32, 0x04C11DB7, 0xFFFFFFFF, true, 0xFFFFFFFF⟩
  | 1 => ⟨32, 0x1EDC6F41, 0xFFFFFFFF, true, 0xFFFFFFFF⟩
  | 2 => ⟨16, 0x1021, 0xFFFF, false, 0⟩
  | _ => ⟨64, 0x42F0E1EBA9EA3693, 0, false, 0⟩

/-- The low `n` bits in reverse order. -/
def reflectBits (n v : Nat) : Nat :=
  match n with
  | 0 => 0
  | m + 1 => v % 2 * 2 ^ m + reflectBits m (v / 2)

/-- A running value fed with bytes, and the result of a running value. -/
def Preset.feed (p : Preset) (run : Nat) (bs : List Byte) : Nat :=
  crcL p.width p.poly run (bs.map fun b => if p.reflected then BitVec.ofNat 8 (reflectBits 8 b.toNat) else b)
def Preset.result (p : Preset) (run : Nat) : Nat :=
  (if p.reflected then reflectBits p.width run else run % 2 ^ p.width) ^^^ p.final

/-! ### The context of a unit (R321) -/

def Dev.ctxPreset (d : Dev) (u : Nat) : Preset := presetOf (d.units.presets.get 0 u)
def Dev.ctxOwner (d : Dev) (u : Nat) : Option User := d.units.owners.get none u
def Dev.ctxRun (d : Dev) (u : Nat) : Nat := d.num2 CHKV.RUN_LO CHKV.RUN_HI u
def Dev.ctxResult (d : Dev) (u : Nat) : Nat := (d.ctxPreset u).result (d.ctxRun u)

/-- RESULT: that of the context, 0 while there is none (R323, R328). (DEDUCED, log entry 82) -/
def Dev.ctxShow (d : Dev) (u : Nat) : Nat := if (d.ctxOwner u).isSome then d.ctxResult u else 0

/-- A context is taken by a user. -/
def Dev.ctxTake (d : Dev) (u : Nat) (who : User) : Dev :=
  d.setUnits { d.units with owners := d.units.owners.set none u (some who) }
def Dev.setCtx (d : Dev) (u run : Nat) : Dev := d.setNum2 CHKV.RUN_LO CHKV.RUN_HI (run % 2 ^ (d.ctxPreset u).width) u

/-- INIT: preset, initial value, COUNT 0. -/
def Dev.ctxInit (d : Dev) (u : Nat) (who : User) (preset : Nat) (init : Option Nat) : Dev :=
  let d := (d.ctxTake u who).setUnits { (d.ctxTake u who).units with presets := d.units.presets.set 0 u (preset % 4) }
  (d.setCtx u (init.getD (presetOf preset).start)).setNum CHKV.COUNT 0 u

/-- Unit 8 belongs to the configuration loader at STAGE 3, which a host load goes through as well (R325). -/
def Dev.loaderOwns (d : Dev) (u : Nat) : Bool :=
  u = 8 && d.fld TOP.BOOT_STATUS_STAGE = 3

def islandOfUnit (u : Nat) : Nat := if u < 8 then 13 + u else 32

/-- A comparison (R324). -/
def Dev.ctxCompare (d : Dev) (u expected : Nat) : Dev :=
  let r := d.ctxResult u
  if r = expected % 2 ^ (d.ctxPreset u).width then d.bump CHKV.MATCHES u
  else
    let d := d.bump CHKV.MISMATCHES u
    let d := (d.setNum2 CHKV.LAST_BAD_LO CHKV.LAST_BAD_HI r u).setNum2 CHKV.BAD_STAMP_LO CHKV.BAD_STAMP_HI
      (d.stamp (islandOfUnit u)).toNat u
    (d.raise CHKV.int_MISMATCH).log (islandOfUnit u) 0x3901 u (r % 2 ^ 32) (r / 2 ^ 32) (userWord (d.ctxOwner u))

/-- One byte is fed; a host-owned context in compare mode is compared when COUNT reaches CMP_LEN. -/
def Dev.feedByte (d : Dev) (u : Nat) (b : Byte) : Dev :=
  let d := (d.setCtx u ((d.ctxPreset u).feed (d.ctxRun u) [b])).bump CHKV.COUNT u
  let host := match d.ctxOwner u with | some (.path _) => true | _ => false
  if host && d.on CHKV.CFG_COMPARE u && d.num CHKV.CMP_LEN u ≠ 0 && d.num CHKV.COUNT u = d.num CHKV.CMP_LEN u then
    d.ctxCompare u (d.num2 CHKV.EXP_LO CHKV.EXP_HI u)
  else d
def Dev.feedBytes (d : Dev) (u : Nat) (bs : List Byte) : Dev := bs.foldl (fun d b => d.feedByte u b) d

/-! ### The host (R323) -/

/-- A host write to a context that the loader does not own. -/
def Dev.hostCheck (d : Dev) (u : Nat) (f : Dev → Dev) : Dev := if d.loaderOwns u then d else f d

/-- A feed from a path: with ENABLE = 0 it is ignored, and from another than the owner it changes nothing and is counted (R321, R328). -/
def Dev.hostFeed (d : Dev) (u path : Nat) (bs : List Byte) : Dev :=
  if !d.enabled 0x39 then d else
  d.hostCheck u fun d =>
    if d.ctxOwner u = some (User.path (path % 2)) then d.feedBytes u bs
    else (d.bump CHKV.CTX_LOST_CNT u).raise CHKV.int_CTX_LOST

/-- How many values the bits that the preset in CFG uses of INIT (LO 0x044) or EXP (LO 0x06C) can take: the others read 0 and ignore
writes. (DEDUCED, log entry 82) -/
def Dev.chkRange (d : Dev) (u off : Nat) : Nat :=
  let w := (presetOf (d.fld CHKV.CFG_PRESET u)).width
  if off = 0x044 ∨ off = 0x06C then 2 ^ min 32 w else 2 ^ (w - 32)
def Dev.chkPart (d : Dev) (r : Reg) (u v : Nat) : Dev :=
  let n := d.chkRange u r.off
  d.setNum r (d.num r u / n * n + v % n) u

/-- CMD.INIT from a path. -/
def Dev.hostInit (d : Dev) (u path : Nat) : Dev :=
  d.hostCheck u fun d => d.ctxInit u (.path (path % 2)) (d.fld CHKV.CFG_PRESET u)
    (if d.on CHKV.CFG_INIT_OVR u then some (d.num2 CHKV.INIT_LO CHKV.INIT_HI u) else none)

/-- A write of RUN_LO (0), RUN_HI (1) or COUNT (2) from a path. (DEDUCED, log entry 82) -/
def Dev.hostRestore (d : Dev) (u path part v : Nat) : Dev :=
  d.hostCheck u fun d =>
    let d := d.ctxTake u (.path (path % 2))
    if part = 2 then d.setNum CHKV.COUNT v u
    else d.setCtx u (setBits (d.ctxRun u) (32 * part) 32 v)

/-- HOST_CHKV_INIT (R321). -/
def execHostChkvInit (unit path : Nat) (s : State) : Host.Outcome State Fault Refusal :=
  s.act fun d => d.access 0x39 fun d => d.hostInit (unit % 9) path
/-- FEED32 (R323). -/
def execFeed32 (unit path : Nat) (value : Word) (s : State) : Host.Outcome State Fault Refusal :=
  s.act fun d => d.access 0x39 fun d => d.hostFeed (unit % 9) path (leBytes 4 value.toNat)
/-- FEED8 (R323). -/
def execFeed8 (unit path : Nat) (value : Word) (s : State) : Host.Outcome State Fault Refusal :=
  s.act fun d => d.access 0x39 fun d => d.hostFeed (unit % 9) path (leBytes 1 value.toNat)
/-- CONTEXT_RESTORE (R323). -/
def execContextRestore (unit path part : Nat) (value : Word) (s : State) : Host.Outcome State Fault Refusal :=
  s.act fun d => d.access 0x39 fun d => d.hostRestore (unit % 9) path (part % 3) value.toNat

/-! ### Engine calls (R322) -/

/-- A check-value call of a thread; `own` says that it needs the context to be its own. -/
def Dev.chkCall (d : Dev) (k : Nat) (own : Bool) (f : Dev → Nat → Dev) : Dev :=
  let u := thrFrond k
  let d := d.opSample (13 + u) 4 (thrWho k) (d.idOn k) (d.sampleAddr k) 0
  if !d.enabled 0x39 then d.unitDone k 7
  else if own ∧ d.ctxOwner u ≠ some (d.userOn k) then (d.bump CHKV.CTX_LOST_CNT u).unitDone k 6
  else (f d u).unitDone k 0

/-- INIT (R322): the initial value is that of the nanoword, the preset's where it gives none, or the G pair that overrides it. -/
def execInit (frond thread preset : Nat) (value pair : Option Nat) (s : State) : Host.Outcome State Fault Refusal :=
  s.run fun d => d.onLast (thrKey frond thread) 3 fun d _ _ th => d.chkCall (thrKey frond thread) false fun d u =>
    d.ctxInit u (d.userOn (thrKey frond thread)) preset (match pair with | some p => some (th.rpair p) | none => value)

/-- FEED (R322): 1 to 64 bytes of a window or V register. -/
def execFeed (frond thread : Nat) (src : EngPlace) (len : Nat) (s : State) : Host.Outcome State Fault Refusal :=
  s.run fun d => d.onLast (thrKey frond thread) 3 fun d _ t th => (d.chkCall (thrKey frond thread) true fun d u =>
    d.feedBytes u (d.readPlace t th src (min 64 len))).freed

/-- The result goes to a G register, or a G pair for CRC-64. -/
def Dev.putResult (d : Dev) (k u dst : Nat) : Dev :=
  d.updThread k fun th => if (d.ctxPreset u).width = 64 then th.wpair dst (d.ctxResult u) else th.wg dst (d.ctxResult u)

/-- READ (R322). -/
def execRead (frond thread dst : Nat) (s : State) : Host.Outcome State Fault Refusal :=
  s.run fun d => d.onLast (thrKey frond thread) 3 fun d _ _ _ => d.chkCall (thrKey frond thread) true fun d u =>
    d.putResult (thrKey frond thread) u dst

/-- READ_CMP (R322, R324): compares with a G pair, status 8 on a difference. -/
def Dev.readCmp (d : Dev) (k dst ref : Nat) : Dev :=
  let u := thrFrond k
  let expected := (d.thread k).rpair ref
  let d := d.chkCall k true fun d u => (d.putResult k u dst).ctxCompare u expected
  if bitsOf (d.thread k).sts 8 8 = 0 ∧ d.ctxResult u ≠ expected % 2 ^ (d.ctxPreset u).width then d.unitDone k 8 else d
def execReadCmp (frond thread dst ref : Nat) (s : State) : Host.Outcome State Fault Refusal :=
  s.run fun d => d.onLast (thrKey frond thread) 3 fun d _ _ _ => d.readCmp (thrKey frond thread) dst ref

/-- SAVE (R322): the running value to a G pair, the preset in the low bits of a third register. -/
def execSave (frond thread dst third : Nat) (s : State) : Host.Outcome State Fault Refusal :=
  s.run fun d => d.onLast (thrKey frond thread) 3 fun d _ _ _ => d.chkCall (thrKey frond thread) true fun d u =>
    d.updThread (thrKey frond thread) fun th => (th.wpair dst (d.ctxRun u)).wg third (d.units.presets.get 0 u)

/-- RESTORE (R322): the reverse of SAVE. -/
def execRestore (frond thread src third : Nat) (s : State) : Host.Outcome State Fault Refusal :=
  s.run fun d => d.onLast (thrKey frond thread) 3 fun d _ _ th => d.chkCall (thrKey frond thread) false fun d u =>
    d.ctxInit u (d.userOn (thrKey frond thread)) (th.rg third) (some (th.rpair src))

/-- SOFT_RESET of CHKV (R328). -/
def Dev.softChkv (d : Dev) : Dev :=
  d.each 9 fun d u => if d.loaderOwns u then d else
    let d := d.setUnits { d.units with owners := d.units.owners.set none u none, presets := d.units.presets.set 0 u 0 }
    (d.setNum2 CHKV.RUN_LO CHKV.RUN_HI 0 u).setNum CHKV.COUNT 0 u

end Sys2Proof.Machine
end

