-- ==== Sys2Proof/Machine/Edit.lean ====
section
/-! DEFINITION. Edit lists (R167 to R169), the edits of a routed frame (R176), and the units that an edited head takes
(R332). -/

namespace Sys2Proof.Machine

/-- An operation word's fields (R167). -/
def editOp (w : Nat) : Nat := w % 16
def editLayer (w : Nat) : Nat := bitsOf w 4 3
def editCsum (w : Nat) : Bool := bitOf w 7
def editOff (w : Nat) : Nat := bitsOf w 8 8
def editLen (w : Nat) : Nat := if bitsOf w 16 6 = 0 then 64 else bitsOf w 16 6
def editFrom (w : Nat) : Nat := bitsOf w 16 6
def editData (w : Nat) : Nat := bitsOf w 22 6

/-- A frame under edit: its bytes, the layer starts, for each byte where it lay in the frame as received, the sums of the
bytes that marked rewrites took away and put there, and how far the operations reached into the frame as received. -/
structure Editing where
  bytes : List Byte
  layers : List (Option Nat)
  org : List (Option Nat)
  old : Nat := 0
  new : Nat := 0
  reach : Nat := 0

def editStart (bs : List Byte) (layers : List (Option Nat)) : Editing :=
  { bytes := bs, layers := layers, org := (List.range bs.length).map some }

/-- Bytes [p, p+n) have been reached. -/
def Editing.touch (e : Editing) (p n : Nat) : Editing :=
  { e with reach := ((e.org.drop p).take n).foldl (fun m o => match o with | some i => max m (i + 1) | none => m) e.reach }

/-- Whether bytes [p, p+n) lie within the frame and within its first 320 bytes. -/
def Editing.within (e : Editing) (p n : Nat) : Bool := decide (p + n ≤ e.bytes.length ∧ p + n ≤ 320)

def Editing.put (e : Editing) (p : Nat) (new : List Byte) : Editing :=
  { e.touch p new.length with bytes := putAt e.bytes p new }

/-- The sum of bytes at a frame offset, paired by the parity of the offset. -/
def paritySum (p : Nat) (bs : List Byte) : Nat :=
  ((bs.zip (List.range bs.length)).map fun (x : Byte × Nat) => if (p + x.2) % 2 = 0 then x.1.toNat * 256 else x.1.toNat).sum

/-- The TTL of an IPv4 header at `v4` or the hop limit at `p` falls by one, and the IPv4 checksum follows, whose words are counted
from the start of the header; 0 stays 0.
(DEDUCED, log entry 70) -/
def Editing.decTtl (e : Editing) (p : Nat) (v4 : Option Nat) : Editing :=
  let ttl := byteAt e.bytes p
  if ttl = 0 then e else
  let e1 := e.put p (leBytes 1 (ttl - 1))
  match v4 with
  | some h =>
    let c := beAt e.bytes (h + 10) 2
    e1.put (h + 10) (beBytes 2 (sumUpdate c (paritySum (p - h) [BitVec.ofNat 8 ttl]) (paritySum (p - h) [BitVec.ofNat 8 (ttl - 1)])))
  | none => e1

/-- The IPv4 header at `p` takes its checksum afresh. (DEDUCED, log entry 70) -/
def Editing.fixIp4 (e : Editing) (p : Nat) : Editing :=
  let n := byteAt e.bytes p % 16 * 4
  let hdr := putAt ((e.bytes.drop p).take n) 10 [0, 0]
  e.put (p + 10) (beBytes 2 (inetSum hdr))

/-- One operation at layer start `s` (R168); none where it fails (R169). (DEDUCED, log entry 70) -/
def Editing.apply (e : Editing) (w s : Nat) (data : List Byte) : Option Editing :=
  let p := s + editOff w
  let n := editLen w
  let dat := (data.drop (editData w)).take n
  let hasData := decide (editData w + n ≤ data.length)
  match editOp w with
  | 1 =>
    if e.within p n && hasData then
      let e := if editCsum w then
          { e with old := e.old + paritySum p ((e.bytes.drop p).take n), new := e.new + paritySum p dat } else e
      some (e.put p dat)
    else none
  | 2 =>
    if decide (p ≤ e.bytes.length ∧ p + n ≤ 320) && hasData then
      let e := e.touch p 1
      some { e with bytes := spliceAt e.bytes p 0 dat, org := e.org.take p ++ List.replicate n none ++ e.org.drop p,
                    layers := e.layers.map fun l => l.map fun x => if p < x then x + n else x }
    else none
  | 3 =>
    if e.within p n then
      let e := e.touch p n
      let layers := e.layers.map fun l => l.map fun x => if p + n ≤ x then x - n else if p < x then p else x
      some { e with bytes := spliceAt e.bytes p n [], org := e.org.take p ++ e.org.drop (p + n), layers := layers }
    else none
  | 4 =>
    let v4 := byteAt e.bytes s / 16 = 4
    if e.within p 1 && (!v4 || e.within (s + 10) 2) then some (e.decTtl p (if v4 then some s else none)) else none
  | 5 => if e.within p (max 12 (byteAt e.bytes p % 16 * 4)) then some (e.fixIp4 p) else none
  | 6 =>
    if e.within p 2 then
      let c := beAt e.bytes p 2
      let e1 := if c = 0 then e.touch p 2 else e.put p (beBytes 2 (sumUpdate c e.old e.new))
      some { e1 with old := 0, new := 0 }
    else none
  | 7 => if e.within p 2 then some (e.put p (beBytes 2 ((e.bytes.length - (s + editFrom w)) % 65536))) else none
  | _ => none

/-- The library's rewrite (R291): bytes put at layer starts, and the frame cut; none where a layer is not recorded. -/
def Editing.rewrite (e : Editing) (x : Rewrite) : Option Editing :=
  let at_ := fun (l : Nat) => e.layers.getD l none
  if (x.puts.map fun (p : Nat × Nat × List Byte) => p.1).any fun l => (at_ l).isNone then none else
  let e := x.puts.foldl (fun (e : Editing) (p : Nat × Nat × List Byte) => match at_ p.1 with
    | some s => e.put (s + p.2.1) p.2.2
    | none => e) e
  match x.cut with
  | none => some e
  | some (l, off) => (at_ l).map fun s => { e with bytes := e.bytes.take (s + off), org := e.org.take (s + off), reach := e.org.length }

/-- A list's operations, in order, up to an END. (DEDUCED, log entry 70) -/
def Editing.run (e : Editing) (ops : List Nat) (data : List Byte) (x : Rewrite := {}) : Option Editing :=
  match ops with
  | [] => some e
  | w :: r =>
    if w = 2 ^ 32 then match e.rewrite x with | some e => e.run r data x | none => none
    else if editOp w = 0 then some e else
    match e.layers.getD (editLayer w) none with
    | none => none
    | some s =>
      match e.apply w s data with
      | some e => e.run r data x
      | none => none

/-- An entry of the edit-list table (R167, R198): none where its header is out of range. -/
def Dev.editEntry (d : Dev) (pipe i : Nat) : Option Edits :=
  let word := fun (k : Nat) => d.look.edits.get 0 ((pipe * 4096 + i) * 32 + k)
  let n := word 0 % 16
  let len := bitsOf (word 0) 8 7
  if 8 < n ∨ 64 < len then none
  else some { ops := (List.range n).map fun k => word (1 + k),
              data := ((List.range 16).flatMap fun k => leBytes 4 (word (9 + k))).take len }

/-- What the egress stage writes into a routed frame before its list (R176): DMAC, the router address, DEC_TTL and the IPv4
checksum. -/
def Dev.routeEdits (d : Dev) (f : Frame) (hop : Nat) (e : Editing) : Editing :=
  let kc := d.numAt f.gen FWDT.KEY_CFG
  let nh := d.hopAt f.ctx.pipe hop
  let smac := hopSmac nh
  let mac := d.numAt f.gen (FWDT.RMAC_LO.ix smac) + d.numAt f.gen (FWDT.RMAC_HI.ix smac) % 65536 * 2 ^ 32
  let e := match e.layers.getD (kc % 8) none with
    | some o => e.put o (beBytes 6 (bitsOf nh 0 48) ++ beBytes 6 mac)
    | none => e
  match e.layers.getD (bitsOf kc 4 3) none with
  | some l =>
    if byteAt e.bytes l / 16 = 4 then e.decTtl (l + 8) (some l)
    else if byteAt e.bytes l / 16 = 6 then e.decTtl (l + 7) none else e
  | none => e

/-! ### Units of an edited head (R332) -/

/-- How many units of a chain cover `reach` bytes, how many bytes they hold, and what they are charged.
(DEDUCED, log entry 70) -/
def Dev.cover (fuel : Nat) (d : Dev) (pool i reach : Nat) : Nat × Nat × Nat :=
  match fuel with
  | 0 => (0, 0, 0)
  | n + 1 =>
    let size := if pool = 1 then 1792 else 224
    let l := d.lnk pool i
    if reach ≤ size ∨ (l.next = 0x3FFFFF ∧ l.npool = 0) then (1, size, if pool = 1 then 8 else 1)
    else
      let (c, b, u) := Dev.cover n d l.npool l.next (reach - size)
      (c + 1, b + size, u + (if pool = 1 then 8 else 1))

/-- New units for `n` bytes, each by the first step of R336 that succeeds and linked to the one after it, the last to what follows. The
answer is the first unit and the charge, none where a unit would come from step 6. (DEDUCED, log entry 71) -/
def Dev.newUnits (fuel : Nat) (d : Dev) (r pri n pool next : Nat) : Option (Dev × Nat × Nat × Nat) :=
  match fuel with
  | 0 => none
  | m + 1 =>
    let resv := match d.rx r with | some x => x.resv | none => 0
    let step := d.unitStep r pri false resv d.setaside d.usable1
    if step = 6 then none else
    let p := if step = 3 ∨ step = 4 then 1 else 0
    let size := if p = 1 then 1792 else 224
    let i := d.pickUnit p []
    let d := (d.allocUnit p i r).gathered (linkKey p i)
    let unit := if p = 1 then 8 else 1
    if n ≤ size then some (d.setLink p i { d.lnk p i with next := next, npool := pool }, p, i, unit)
    else match Dev.newUnits m d r pri (n - size) pool next with
      | some (d, p2, i2, u) => some (d.setLink p i { d.lnk p i with next := i2, npool := p2 }, p, i, u + unit)
      | none => none

/-- A frame that has found no unit is discarded as an overrun (R336, R350). -/
def Dev.overrunFrame (d : Dev) (k : Nat) : Dev := ((d.bump BUFM.OVERRUNS).raise BUFM.int_OVERRUN).discardFrame k 16

/-- The edited head replaces the units that operations reached (R332); where no unit is to be had for it, the frame is an overrun.
(DEDUCED, log entry 71) -/
def Dev.rehead (d : Dev) (k : Nat) (f : Frame) (e : Editing) : Dev :=
  let bytes := e.bytes ++ List.replicate (60 - e.bytes.length) 0
  let (cnt, held, charge) := d.cover chainFuel f.fpool f.first (max 1 e.reach)
  let kept := f.bytes.length - held
  let head := bytes.length - kept
  let rest := d.freeFirst cnt f.fpool f.first f.req
  match Dev.newUnits chainFuel d f.req f.pri (max 1 head) rest.2.1 rest.2.2 with
  | some (d, pool, first, units) =>
    let d := (d.freeFirst cnt f.fpool f.first f.req).1
    let d := if f.onHold then d else (d.charge f.req f.pri units).uncharge f.req f.pri charge
    let spilled := (d.chainOf chainFuel pool first).any fun key => decide (2 ^ 22 ≤ key)
    (d.updFrame k fun g => { g with fpool := pool, first := first, charge := g.charge + units - charge, bytes := bytes,
                                    len := bytes.length + 4, headLen := head, edited := true, spilled := spilled, stage := .ready,
                                    ctx := { g.ctx with layers := e.layers } }).evalAll
  | none => d.overrunFrame k

end Sys2Proof.Machine
end

