-- ==== Sys2Proof/Machine/Library.lean ====
section
/-! DEFINITION. The Pringeca flow library (R281 to R304): what its miss, hit, harvest and flow-end programs decide of a
packet or a record. A decision is a plan: the result and edits, the update it sends, and what it exports and counts. -/

namespace Sys2Proof.Machine

/-! ### Its tables in the scratchpad (R282, R285) -/

def Dev.spadLe (d : Dev) (c a n : Nat) : Nat := leNat (d.spadRead c a n)
def Dev.spadBe (d : Dev) (c a n : Nat) : Nat := beNat (d.spadRead c a n)

/-- A zone entry, and whether it is a configuration error. (DEDUCED, log entry 84) -/
def Dev.zoneEntry (d : Dev) (c z : Nat) : Nat := d.spadLe c (0x20000 + 8 * (z % 4096)) 8
def zoneBad (z : Nat) : Bool :=
  let b := bitOf z
  (b 2 && b 3) || (b 4 && (b 2 || b 3)) || (b 4 && !b 1) || decide (2 ≤ bitsOf z 36 2) || b 9 || bitsOf z 20 3 ≠ 0 || b 31 ||
    bitsOf z 32 32 / 64 ≠ 0

/-- Where the innermost headers lie: layer slots of L2, L3 and L4. -/
structure Layers where
  l2 : Nat
  l3 : Nat
  l4 : Nat
  deriving DecidableEq, Repr

def layersOf (f : Frame) : Layers := if bitsOf f.ctx.summary 12 2 = 0 then ⟨0, 1, 2⟩ else ⟨4, 5, 6⟩
def layerStart (f : Frame) (l : Nat) : Option Nat := f.ctx.layers.getD l none

/-- A packet as the library sees it. -/
structure Pkt where
  c : Nat
  f : Frame
  q : Conn
  zone : Nat
  home : Nat
  lay : Layers
  l3 : Nat
  /-- Start of the L4 header, where there is one. -/
  l4 : Option Nat
  /-- TCP flags. -/
  flags : Nat
  deriving DecidableEq, Repr

def Dev.pkt (d : Dev) (c : Nat) (f : Frame) (home : Nat) : Pkt :=
  let q := d.flowConn f
  let lay := layersOf f
  let l4 := layerStart f lay.l4
  { c := c, f := f, q := q, zone := d.zoneEntry c q.zone, home := home, lay := lay, l3 := (layerStart f lay.l3).getD 0,
    l4 := l4, flags := match l4 with | some o => byteAt f.bytes (o + 13) | none => 0 }

def Pkt.fin (p : Pkt) : Bool := bitOf p.flags 0
def Pkt.syn (p : Pkt) : Bool := bitOf p.flags 1
def Pkt.rst (p : Pkt) : Bool := bitOf p.flags 2
def Pkt.ack (p : Pkt) : Bool := bitOf p.flags 4
/-- A packet with a TCP header. A later fragment has none. -/
def Pkt.tcp (p : Pkt) : Bool := p.q.proto = 6 && p.l4.isSome
def Pkt.invalid (p : Pkt) : Bool := (!p.syn && !p.ack && !p.rst) || (p.syn && (p.fin || p.rst))
def Pkt.plainSyn (p : Pkt) : Bool := p.syn && !p.ack && !p.fin && !p.rst
def Pkt.plainAck (p : Pkt) : Bool := p.ack && !p.syn && !p.fin && !p.rst
/-- An opener is allowed (R289). (DEDUCED, log entry 84) -/
def Dev.opener (d : Dev) (p : Pkt) : Bool :=
  !bitOf p.zone 8 || bitOf (d.spadLe p.c 0x28300 8) p.f.ingress

/-! ### Edits (R167, R300) -/

def mkOp (op layer : Nat) (csum : Bool) (off len at_ : Nat) : Nat :=
  op + layer * 16 + bit csum * 128 + off % 256 * 256 + len % 64 * 65536 + at_ % 64 * 2 ^ 22

/-- Whether `n` operations and `m` bytes of data more are within the builder's limits (R242, R300). -/
def LibPlan.fits (p : LibPlan) (n m : Nat) : Bool :=
  decide (p.edits.ops.length + p.xops + n ≤ 8) && decide (p.edits.data.length + p.xdata + m ≤ 64)

/-- A plan with an operation and its data appended; beyond the builder's limits it overflows (R242). -/
def LibPlan.op (p : LibPlan) (op layer : Nat) (csum : Bool) (off len : Nat) (data : List Byte) : LibPlan :=
  if !p.fits 1 data.length then { p with ovf := true } else
  let w := mkOp op layer csum off len p.edits.data.length
  { p with edits := { p.edits with ops := p.edits.ops ++ [w], data := p.edits.data ++ data } }

/-- The library's whole-frame rewrite appended: what it takes of the list is open, and alone it fits.
(DESIGN CHOICE, log entry 85) -/
def LibPlan.rewrite (p : LibPlan) (x : Rewrite) (cost : Nat × Nat) : LibPlan :=
  let n := max 1 (min 8 cost.1)
  let m := min 64 cost.2
  if !p.fits n m then { p with ovf := true }
  else { p with edits := { p.edits with ops := p.edits.ops ++ [2 ^ 32], rewrite := x }, xops := n - 1, xdata := m }

def LibPlan.count (p : LibPlan) (k : Nat) (n : Nat := 1) : LibPlan := { p with cnts := p.cnts ++ [(k, n)] }

/-- POPs of `n` bytes at a layer, at most 64 at a time. -/
def LibPlan.pops (fuel : Nat) (p : LibPlan) (layer n : Nat) : LibPlan :=
  match fuel with
  | 0 => p
  | m + 1 => if n = 0 then p else LibPlan.pops m (p.op 3 layer false 0 (min n 64) []) layer (n - min n 64)

/-- Decapsulation (R299). -/
def LibPlan.decap (p : LibPlan) (k : Pkt) : LibPlan :=
  if !bitOf k.zone 6 ∨ bitsOf k.f.ctx.summary 12 2 = 0 then p
  else if bitsOf k.zone 36 2 = 0 then
    match layerStart k.f 4 with
    | some n => (LibPlan.pops 8 p 0 n).count 19
    | none => p
  else
    match layerStart k.f 1, layerStart k.f 5 with
    | some a, some b =>
      let ether := if k.q.v6 then [0x86, 0xDD] else [0x08, 0x00]
      (LibPlan.pops 8 (p.op 1 0 false (a - 2) 2 ether) 1 (b - a)).count 19
    | _, _ => p

/-- The rewrite of one endpoint of a packet: `dst` says which, `e` what it becomes (R300). -/
def LibPlan.nat (p : LibPlan) (k : Pkt) (dst : Bool) (e : EndPt) : LibPlan :=
  let ports := (k.q.proto = 6 || k.q.proto = 17 || k.q.proto = 132) && k.l4.isSome
  let n := if k.q.v6 then 16 else 4
  let aOff := if k.q.v6 then (if dst then 24 else 8) else if dst then 16 else 12
  let p := p.op 1 k.lay.l3 true aOff n (addrBytes k.q.v6 e.addr)
  let p := if ports then p.op 1 k.lay.l4 true (if dst then 2 else 0) 2 (beBytes 2 e.port) else p
  let p := if k.q.v6 then p else p.op 5 k.lay.l3 false 0 0 []
  if k.l4.isSome && k.q.proto = 6 then p.op 6 k.lay.l4 false 16 0 []
  else if k.l4.isSome && k.q.proto = 17 then p.op 6 k.lay.l4 false 6 0 [] else p

/-- The tunnel template (R300): its list appended, its data behind the data that stand. -/
def Dev.encap (d : Dev) (p : LibPlan) (k : Pkt) : LibPlan :=
  if !bitOf k.zone 7 then p else
  let t := d.spadRead k.c (0x40000 + 128 * bitsOf k.zone 23 8) 128
  let word := fun (i : Nat) => leNat ((t.drop (4 * i)).take 4)
  let n := word 0 % 16
  let len := bitsOf (word 0) 8 7
  let base := p.edits.data.length
  if 8 < n ∨ 64 < len ∨ !p.fits n len then { p with ovf := true } else
  let ops := (List.range n).map fun i =>
    let w := word (1 + i)
    if editOp w = 1 ∨ editOp w = 2 then setBits w 22 6 (editData w + base) else w
  let data := (t.drop 36).take len
  let data := if bitOf (byteAt t 100) 0 then putAt data (byteAt t 101) (beBytes 2 (0xC000 ||| k.home % 16384)) else data
  { p with edits := { p.edits with ops := p.edits.ops ++ ops, data := p.edits.data ++ data } }.count 20

/-! ### Results -/

/-- The library forwards: the result stands. -/
def libKeep (res : Nat) (edits : Edits) : LibPlan := { res := res, edits := edits }
/-- It discards, or punts, and sends no delta (R288); no tunnel was ended. -/
def LibPlan.discard (p : LibPlan) : LibPlan :=
  { p with res := setBits p.res 0 2 3, delta := false, cnts := p.cnts.filter fun x => x.1 ≠ 19 }
def LibPlan.punt (p : LibPlan) : LibPlan := { p.discard with res := setBits p.res 0 2 2 }
/-- It sends the frame out of a port. -/
def LibPlan.toPort (p : LibPlan) (port : Nat) : LibPlan := { p with res := setBits (setBits (setBits p.res 0 2 1) 2 6 port) 22 1 0 }

/-! ### SYN defence (R290 to R292) -/

def mssTable : List Nat := [536, 1220, 1360, 1400, 1440, 1452, 1460, 8960]

/-- The MSS option of a TCP option area. -/
def findMss (fuel : Nat) (o : List Byte) : Option Nat :=
  match fuel with
  | 0 => none
  | n + 1 =>
    match byteAt o 0 with
    | 0 => none
    | 1 => findMss n o.tail
    | 2 => some (beAt o 2 2)
    | _ => findMss n (o.drop (max 2 (byteAt o 1)))

/-- MSSIDX of a SYN. -/
def mssIndex (m : Option Nat) : Nat :=
  match m with
  | none => 0
  | some v => ((mssTable.filter fun x => decide (x ≤ v)).length) - 1

/-- The blocks of a cookie's MAC for MSSIDX and T (R290). (DESIGN CHOICE, log entry 85) -/
def Conn.cookieBlocks (q : Conn) (mss t : Nat) : List (List Byte) :=
  let tail := beBytes 2 q.src.port ++ beBytes 2 q.dst.port ++ leBytes 2 (q.zone + mss * 4096) ++ leBytes 2 t
  if q.v6 then [beBytes 16 q.src.addr, beBytes 16 q.dst.addr, tail ++ List.replicate 8 0]
  else [beBytes 4 q.src.addr ++ beBytes 4 q.dst.addr ++ tail]

/-- The MAC in the output of the last block. -/
def macOf (out : List Byte) : Nat := beNat ((out.drop 13).take 3)

def Dev.cookieT (d : Dev) : Nat := d.upMs / 64000
/-- A cookie (R290). -/
def cookieWord (mss t mac : Nat) : Nat := t % 32 * 2 ^ 27 + mss * 2 ^ 24 + mac

/-- Bytes of a TCP header replaced, its checksum following: offset in the header and new bytes.
(DESIGN CHOICE, log entry 85) -/
def tcpPuts (f : Frame) (l4 : Nat) (layer : Nat) (puts : List (Nat × List Byte)) : List (Nat × Nat × List Byte) :=
  let old := (puts.map fun (p : Nat × List Byte) => paritySum p.1 ((f.bytes.drop (l4 + p.1)).take p.2.length)).sum
  let new := (puts.map fun (p : Nat × List Byte) => paritySum p.1 p.2).sum
  let c := sumUpdate (beAt f.bytes (l4 + 16) 2) old new
  (puts.map fun (p : Nat × List Byte) => (layer, p.1, p.2)) ++ [(layer, 16, beBytes 2 c)]

/-- The L2 header that a frame leaves with: the outer one where the inner one goes with the tunnel (DECAP_MODE 1) or does not exist.
(DESIGN CHOICE, log entry 85) -/
def Pkt.outL2 (k : Pkt) : Nat :=
  if (bitOf k.zone 6 ∧ bitsOf k.zone 36 2 = 1) ∨ (layerStart k.f k.lay.l2).isNone then 0 else k.lay.l2

/-- MAC addresses and IP addresses swapped. -/
def swapPuts (k : Pkt) : List (Nat × Nat × List Byte) :=
  let bs := k.f.bytes
  let l2 := (layerStart k.f k.outL2).map fun o => (k.outL2, 0, (bs.drop (o + 6)).take 6 ++ (bs.drop o).take 6)
  let n := if k.q.v6 then 16 else 4
  let o := if k.q.v6 then 8 else 12
  l2.toList ++ [(k.lay.l3, o, (bs.drop (k.l3 + o + n)).take n ++ (bs.drop (k.l3 + o)).take n)]

/-- Option bytes of a TCP header. -/
def Pkt.options (k : Pkt) (l4 : Nat) : List Byte := (k.f.bytes.drop (l4 + 20)).take (byteAt k.f.bytes (l4 + 12) / 16 * 4 - 20)

/-- Step 1: a SYN becomes a SYN-ACK with a cookie, once its MAC for T is there. (DESIGN CHOICE, log entry 85) -/
def Dev.synCookie (d : Dev) (p : LibPlan) (k : Pkt) (l4 : Nat) (mac : Option (Nat × Nat)) : LibPlan :=
  let bs := k.f.bytes
  let o := k.options l4
  if 28 < o.length then (p.count 21).discard else
  let mss := mssIndex (findMss 40 o)
  match mac with
  | none => { p with ask := some (mss, d.cookieT) }
  | some (t, m) =>
  let v := cookieWord mss t m
  let opts := if o.length < 4 then [] else
    [2, 4] ++ beBytes 2 (mssTable.getD mss 536) ++ List.replicate (o.length - 4) (1 : Byte)
  let seq := beAt bs (l4 + 4) 4
  let puts := tcpPuts k.f l4 k.lay.l4 [(0, (bs.drop (l4 + 2)).take 2 ++ (bs.drop l4).take 2),
    (4, beBytes 4 v ++ beBytes 4 ((seq + 1) % 2 ^ 32)), (12, [BitVec.ofNat 8 (byteAt bs (l4 + 12)), 0x12]), (20, opts)]
  let p := ((p.rewrite { puts := swapPuts k ++ puts } (Config.synCost 1 k.q.v6 o.length)).toPort k.f.ingress).count 10
  { p with delta := true }

/-- Lengths of the IP header for a packet that ends with a TCP header of 20 bytes. -/
def cutPuts (k : Pkt) (l4 : Nat) : List (Nat × Nat × List Byte) :=
  if k.q.v6 then [(k.lay.l3, 4, beBytes 2 (l4 - k.l3 - 40 + 20))]
  else
    let hdr := putAt (putAt ((k.f.bytes.drop k.l3).take (l4 - k.l3)) 2 (beBytes 2 (l4 - k.l3 + 20))) 10 [0, 0]
    [(k.lay.l3, 2, beBytes 2 (l4 - k.l3 + 20)), (k.lay.l3, 10, beBytes 2 (inetSum hdr))]

/-- A TCP checksum over a header of 20 bytes and its pseudo-header. -/
def tcpSum (k : Pkt) (hdr : List Byte) : Nat :=
  let n := if k.q.v6 then 16 else 4
  65535 - fold16 (fold16 (sum16 (beBytes n k.q.src.addr) + sum16 (beBytes n k.q.dst.addr) + 6 + hdr.length + sum16 hdr))

/-- Step 2: the client's ACK becomes a SYN toward the server, without options or payload. (DESIGN CHOICE, log entry 85) -/
def Pkt.replay (k : Pkt) (p : LibPlan) (l4 : Nat) : LibPlan :=
  let bs := k.f.bytes
  let isn := (beAt bs (l4 + 4) 4 + 2 ^ 32 - 1) % 2 ^ 32
  let hdr := (bs.drop l4).take 4 ++ beBytes 4 isn ++ [0, 0, 0, 0] ++ [0x50, 0x02] ++ (bs.drop (l4 + 14)).take 2 ++ [0, 0, 0, 0]
  let hdr := putAt hdr 16 (beBytes 2 (tcpSum k hdr))
  p.rewrite { puts := cutPuts k l4 ++ [(k.lay.l4, 0, hdr)], cut := some (k.lay.l4, 20) }
    (Config.synCost 2 k.q.v6 (k.options l4).length)

/-- Step 3: the server's SYN+ACK becomes an ACK to the server. (DESIGN CHOICE, log entry 85) -/
def Pkt.ackBack (k : Pkt) (p : LibPlan) (l4 : Nat) : LibPlan :=
  let bs := k.f.bytes
  let o := k.options l4
  let puts := tcpPuts k.f l4 k.lay.l4 [(0, (bs.drop (l4 + 2)).take 2 ++ (bs.drop l4).take 2),
    (4, (bs.drop (l4 + 8)).take 4 ++ beBytes 4 ((beAt bs (l4 + 4) 4 + 1) % 2 ^ 32)),
    (12, [BitVec.ofNat 8 (byteAt bs (l4 + 12)), 0x10]), (20, List.replicate o.length (1 : Byte))]
  (p.rewrite { puts := swapPuts k ++ puts } (Config.synCost 3 k.q.v6 o.length)).toPort k.f.ingress

/-- SEQ_DELTA of a record. (DESIGN CHOICE, log entry 85) -/
def seqDelta (r : Nat) : Nat := rBackend.get r + rSpare.get r % 4096 * 2 ^ 20
def setSeqDelta (r v : Nat) : Nat := rSpare.put (rBackend.put r (v % 2 ^ 20)) (v / 2 ^ 20 % 4096)

/-- Later packets of a proxied connection: sequence or acknowledgement number moved, checksum corrected. -/
def Pkt.shift (k : Pkt) (p : LibPlan) (r dir : Nat) : LibPlan :=
  match k.l4 with
  | none => p
  | some l4 =>
    let bs := k.f.bytes
    let dl := seqDelta r
    let p := if dir = 1 then p.op 1 k.lay.l4 true 4 4 (beBytes 4 ((beAt bs (l4 + 4) 4 + 2 ^ 32 - dl % 2 ^ 32) % 2 ^ 32))
      else p.op 1 k.lay.l4 true 8 4 (beBytes 4 ((beAt bs (l4 + 8) 4 + dl) % 2 ^ 32))
    p.op 6 k.lay.l4 false 16 0 []

/-! ### New records (R287) -/

/-- The record that a miss inserts: both endpoints, the zone's profile and a class. -/
def Pkt.record (k : Pkt) (type state : Nat) (xmode : Nat) (x : EndPt) (backend : Nat) : Nat :=
  let r := if k.q.v6 then 2 else 1
  let put := fun (f : RecFld) (v r : Nat) => f.put r v
  let r := put rZone k.q.zone (put rProto k.q.proto (put rPortA k.q.src.port (put rPortB k.q.dst.port r)))
  let r := put rAddrA k.q.src.addr (put rAddrB k.q.dst.addr r)
  let r := put rXaddr x.addr (put rXport x.port (put rXmode xmode r))
  put rType type (put rProg Config.libHit.toNat (put rBackend backend (put rState state (put rProfile (bitsOf k.zone 10 6) r))))

/-- The class that a miss opens (R289). -/
def Pkt.openClass (k : Pkt) : Nat :=
  if k.q.proto = 6 then (if k.syn && !k.ack then 3 else 4) else if k.q.proto = 1 ∨ k.q.proto = 58 then 8 else 1

/-! ### Source NAT (R293, R294) -/

/-- Ports tested from `t` on: the port chosen, and how many were tested. -/
def snatScan (fuel : Nat) (kl align e first block j0 c t : Nat) : Option Nat × Nat :=
  match fuel with
  | 0 => (none, t)
  | n + 1 =>
    let x := first + (j0 + t) % block
    if localHash kl false ⟨e, x⟩ % 2 ^ align = c then (some x, t + 1) else snatScan n kl align e first block j0 c (t + 1)

/-- An event record of template 259 (R303). -/
def Dev.snatEvent (d : Dev) (k : Pkt) (epoch e block tests : Nat) : List Byte :=
  let bs := beBytes 8 (d.stamp (islandOfFrond k.c)).toNat ++ beBytes 4 k.q.src.addr ++ beBytes 2 k.q.src.port ++
    beBytes 4 k.q.dst.addr ++ beBytes 2 k.q.dst.port ++ beBytes 1 k.q.proto ++ beBytes 1 1 ++ beBytes 2 k.q.zone ++
    beBytes 4 e ++ beBytes 2 block ++ beBytes 2 tests ++ beBytes 2 epoch ++ beBytes 1 k.c
  bs ++ List.replicate (64 - bs.length) 0

/-- KHASH of the library over fields (R240, R294, R297). -/
def libHash (key use : Nat) (fields : List Nat) : Nat := sipHash key ((Config.libBytes use fields).take 32) % 2 ^ 32

/-- A miss in an SNAT zone: a plan that inserts and translates, or refuses. -/
def Dev.snatMiss (d : Dev) (p : LibPlan) (k : Pkt) : LibPlan :=
  let a := 0x28000 + 32 * bitsOf k.zone 16 4
  let le := d.spadLe k.c
  let lo := le (a + 12) 2
  let block := le (a + 14) 2
  let s := if block = 0 then 0 else (65536 - lo) / block
  let i := (k.q.src.addr + 2 ^ 128 - le a 4) % 2 ^ 128
  if (k.q.proto ≠ 6 ∧ k.q.proto ≠ 17) ∨ k.q.v6 ∨ le (a + 4) 4 ≤ i ∨ s = 0 then (p.count 6).discard else
  let e := (le (a + 8) 4 + i / s) % 2 ^ 32
  let first := lo + i % s * block
  let align := le (a + 18) 1
  let c := localHash d.flow.kl false k.q.src % 2 ^ align
  let key := d.spadLe k.c 0x28308 16
  let j0 := libHash key 0 [k.q.zone, k.q.proto, k.q.src.addr, k.q.src.port, k.q.dst.addr, k.q.dst.port] % block
  let (x, tests) := snatScan (le (a + 16) 2) d.flow.kl align e first block j0 c 0
  let p := p.count 4 tests
  match x with
  | some x => { ((p.nat k false ⟨e, x⟩).count 3) with put := some (k.record 1 k.openClass 1 ⟨e, x⟩ 0) }
  | none =>
    let p := p.count 5
    let p := if bitOf k.zone 5 then { p with emit := p.emit ++ [(259, d.snatEvent k k.f.epoch e (i % s) tests)] } else p
    if bitOf (le (a + 19) 1) 0 then p.punt else p.discard

/-! ### Load balancing (R296 to R298) -/

/-- The first service that matches an endpoint of a family and protocol. (DEDUCED, log entry 84) -/
def Dev.lbService (d : Dev) (c : Nat) (v6 : Bool) (proto : Nat) (e : EndPt) : Option Nat :=
  (List.range 8).find? fun s =>
    let a := 0x28200 + 32 * s
    let port := d.spadLe c (a + 16) 2
    bitOf (d.spadLe c (a + 19) 1) 0 = v6 && d.spadLe c (a + 18) 1 = proto && d.spadBe c a (if v6 then 16 else 4) = e.addr &&
      (port = 0 || port = e.port) && d.spadLe c (a + 22) 1 ≠ 0

/-- A backend: its endpoint and UP. -/
def Dev.lbBackend (d : Dev) (c : Nat) (v6 : Bool) (b : Nat) : EndPt × Bool :=
  let a := 0x30000 + 32 * (b % 2048)
  (⟨d.spadBe c a (if v6 then 16 else 4), d.spadLe c (a + 16) 2⟩, bitOf (d.spadLe c (a + 18) 1) 0)

/-- Ring slots probed from the `t`-th on: the backend, and how many were passed over. -/
def Dev.lbProbe (fuel : Nat) (d : Dev) (c : Nat) (v6 : Bool) (s base count k t : Nat) : Option Nat × Nat :=
  match fuel with
  | 0 => (none, t)
  | n + 1 =>
    let v := d.spadLe c (0x80000 + 0x10000 * s + (k + t) % 65536) 1
    if 1 ≤ v ∧ v ≤ count ∧ (d.lbBackend c v6 (base + v - 1)).2 then (some (base + v - 1), t)
    else Dev.lbProbe n d c v6 s base count k (t + 1)

/-- A miss that a service matches. (DEDUCED, log entry 84) -/
def Dev.lbMiss (d : Dev) (p : LibPlan) (k : Pkt) (s : Nat) : LibPlan :=
  let a := 0x28200 + 32 * s
  let le := d.spadLe k.c
  let flags := le (a + 19) 1
  let key := le 0x28318 16
  let fields := [k.q.zone, k.q.src.addr] ++ (if bitOf flags 1 then [k.q.src.port] else [])
  let slot := libHash key 1 fields % 65536
  let (b, passed) := Dev.lbProbe (le (a + 23) 1) d k.c k.q.v6 s (le (a + 20) 2) (le (a + 22) 1) slot 0
  let p := p.count 8 passed
  match b with
  | some b =>
    let be := (d.lbBackend k.c k.q.v6 b).1
    let x : EndPt := ⟨be.addr, if bitOf flags 2 then k.q.dst.port else be.port⟩
    { ((p.nat k true x).count 7) with put := some (k.record 2 k.openClass 2 x b) }
  | none => if bitOf flags 4 then (p.count 9).punt else (p.count 9).discard

/-! ### A miss (R285, R289, R291) -/

/-- A miss that is tracked without translation; `mac` is a cookie's T and MAC once they are there. (DEDUCED, log entry 84) -/
def Dev.trackMiss (d : Dev) (p : LibPlan) (k : Pkt) (mac : Option (Nat × Nat)) : LibPlan :=
  match bitOf k.zone 4 && k.tcp, k.l4 with
  | true, some l4 =>
    if k.plainSyn then d.synCookie p k l4 mac
    else
      let v := (beAt k.f.bytes (l4 + 8) 4 + 2 ^ 32 - 1) % 2 ^ 32
      match mac, [d.cookieT, d.cookieT - 1].find? fun t => v / 2 ^ 27 = t % 32 with
      | some (_, m), _ =>
        if v % 2 ^ 24 = m then { k.replay p l4 with put := some (setSeqDelta (k.record 0 (3 + 64) 0 ⟨0, 0⟩ 0) v) }
        else (p.count 11).discard
      | none, some t => { p with ask := some (bitsOf v 24 3, t) }
      | none, none => (p.count 11).discard
  | _, _ => { p with put := some (k.record 0 k.openClass 0 ⟨0, 0⟩ 0) }

/-- What a miss does; INSIDE_OPEN and the filter come before the translations, but after R293's range.
(DESIGN CHOICE, log entry 83) -/
def Dev.missPlan (d : Dev) (p : LibPlan) (k : Pkt) (mac : Option (Nat × Nat)) : LibPlan :=
  if zoneBad k.zone then p.count 15
  else if !bitOf k.zone 0 then p
  else
    let filter := bitOf k.zone 1
    let p := p.decap k
    let service := if bitOf k.zone 3 then d.lbService k.c k.q.v6 k.q.proto k.q.dst else none
    let snat := bitOf k.zone 2
    let i := (k.q.src.addr + 2 ^ 128 - d.spadLe k.c (0x28000 + 32 * bitsOf k.zone 16 4) 4) % 2 ^ 128
    let out := snat && ((k.q.proto ≠ 6 && k.q.proto ≠ 17) || k.q.v6 ||
      decide (d.spadLe k.c (0x28000 + 32 * bitsOf k.zone 16 4 + 4) 4 ≤ i))
    let cookieAck := bitOf k.zone 4 && k.plainAck
    let refuse := k.q.proto = 6 && (!k.tcp || !(k.plainSyn || cookieAck))
    let p := if out then (p.count 6).discard
      else if filter && k.tcp && k.invalid then (p.count 2).discard
      else if (filter && (refuse || !d.opener k)) then (p.count 1).discard
      else if !d.opener k then p
      else if snat then d.snatMiss p k
      else match service with
        | some s => d.lbMiss p k s
        | none => d.trackMiss p k mac
    if resAct p.res = 3 ∨ resAct p.res = 2 then p else d.encap p k

/-! ### A hit (R286, R289, R291, R298) -/

/-- The state that a TCP segment leads to and whether its frame is one that a filter discards: INVALID (2) or without a
count (0); none where the record is deleted. -/
def Pkt.segment (k : Pkt) (r dir : Nat) : Option (Nat × Option Nat) :=
  let st := rState.get r
  let c := st % 16
  let cls := fun (n : Nat) => setBits st 0 4 n
  let finBit := 4 + dir
  if !k.tcp then some (st, none)
  else if k.invalid then some (st, some 2)
  else if k.rst then (if 3 ≤ c ∧ c ≤ 6 then some (cls 7, none) else some (st, none))
  else if k.plainSyn then
    if c = 4 ∨ c = 5 then some (st, some 2)
    else if (c = 6 ∨ c = 7) ∧ dir = 0 then none
    else some (st, none)
  else if c = 3 ∧ k.ack ∧ !k.syn ∧ dir = 0 ∧ rRetSeen.get r = 1 then some (cls 4, none)
  else if c = 4 ∧ k.fin then some (setBits (cls 5) finBit 1 1, none)
  else if c = 5 ∧ k.fin ∧ !bitOf st finBit then some (setBits (cls 6) finBit 1 1, none)
  else some (st, none)

/-- A hit in a record with view `v`. (DESIGN CHOICE, log entry 83) -/
def Dev.hitPlan (d : Dev) (p : LibPlan) (k : Pkt) (v : View) : LibPlan :=
  let r := v.record
  let type := rType.get r
  let zoneOff := !bitOf k.zone 0 || (type = 1 && !bitOf k.zone 2) || (type = 2 && !bitOf k.zone 3) || (type = 0 && bitOf k.zone 2)
  if zoneOff then { p.count 14 with del := some 17 } else
  let filter := bitOf k.zone 1
  let xl := fun (p : LibPlan) =>
    let p := p.decap k
    match type with
    | 1 => if v.dir = 1 then p.nat k true (recA r) else p.nat k false (recX r)
    | 2 => if v.dir = 1 then p.nat k false (recB r) else p.nat k true (recX r)
    | _ => p
  let down := type = 2 && !(d.lbBackend k.c k.q.v6 (rBackend.get r)).2 &&
    (match d.lbService k.c k.q.v6 k.q.proto (recB r) with
     | some s => bitOf (d.spadLe k.c (0x28200 + 32 * s + 19) 1) 3
     | none => false)
  if down then { (p.count 13).discard with del := some 16 } else
  let st := rState.get r
  let proxy := bitOf st 6
  let up := bitOf st 7
  if proxy && !up && v.dir = 0 then (p.count 12).discard
  else match proxy && !up && k.syn && k.ack && !k.rst && !k.fin, k.l4 with
  | true, some l4 =>
    let isn := beAt k.f.bytes (l4 + 4) 4
    let r1 := setSeqDelta r ((isn + 2 ^ 32 - seqDelta r) % 2 ^ 32)
    { d.encap (k.ackBack (p.decap k) l4) k with put := some (rState.put r1 (setBits (setBits st 0 4 4) 7 1 1)) }
  | _, _ =>
    let other := if k.q.proto ≠ 6 ∧ st % 16 = 1 ∧ v.dir = 1 then some (setBits st 0 4 2, none) else some (st, none)
    match if k.q.proto = 6 then k.segment r v.dir else other with
    | none => if filter then { p.discard with del := some 3 } else { d.encap (xl p) k with del := some 3 }
    | some (st', bad) =>
      match filter, bad with
      | true, some n => (p.count n).discard
      | _, _ =>
        let p := xl p
        let p := if proxy && up then k.shift p r v.dir else p
        let p := d.encap p k
        if st' = st then p else { p with put := some (rState.put r st') }

/-- The head record of a sampled packet (R301, R303). (DEDUCED, log entry 84) -/
def Pkt.headRecord (k : Pkt) (n : Nat) : List Byte :=
  beBytes 8 (stampOf k.f.stamp).toNat ++ beBytes 1 k.f.ingress ++ beBytes 1 k.c ++ beBytes 2 k.q.zone ++ beBytes 2 k.f.epoch ++
    beBytes 2 k.f.len ++ beBytes 1 (n - 1) ++ ((List.range 111).map fun i => k.f.bytes.getD i 0)

/-- What the library decides of a packet with a view. A sample is drawn once, at the first decision.
(DESIGN CHOICE, log entry 83) -/
def Dev.packetPlan (d : Dev) (c : Nat) (f : Frame) (v : View) (res : Nat) (edits : Edits) (sample : Bool)
    (mac : Option (Nat × Nat) := none) : LibPlan :=
  let k := d.pkt c f v.home
  let base := libKeep res edits
  let p := if v.hit && !v.inserted then d.hitPlan base k v else d.missPlan base k mac
  let n := bitsOf k.zone 32 4
  let serves := bitOf k.zone 0 && !(zoneBad k.zone && !v.hit)
  if sample && serves && n ≠ 0 && d.rng.toNat % 2 ^ 32 % 2 ^ (n - 1) = 0 then
    { p with emit := p.emit ++ [(258, k.headRecord n)] }.count 17
  else p

/-! ### Harvest and flow end (R303, R304) -/

/-- flowEndReason. -/
def flowEnd (reason cls : Nat) : Nat :=
  if reason = 1 then (if cls = 6 ∨ cls = 7 then 3 else 1) else if reason = 5 then 2 else if reason = 2 then 5 else 4

/-- A flow record of template 256 or 257: counters are those given. -/
def Dev.flowRecord (d : Dev) (c : Nat) (t : Task) (pf pr bf br : Nat) : Nat × List Byte :=
  let r := t.view.record
  let w := recWide r
  let n := if w then 16 else 4
  let age := d.ageOf r * 1000 / 64
  let bs := beBytes n (rAddrA.get r) ++ beBytes n (rAddrB.get r) ++ beBytes 2 (rPortA.get r) ++ beBytes 2 (rPortB.get r) ++
    beBytes 1 (rProto.get r) ++ beBytes 1 (flowEnd t.reason (rState.get r % 16)) ++ beBytes 1 t.reason ++
    beBytes 1 (rXmode.get r) ++ beBytes n (rXaddr.get r) ++ beBytes 2 (rXport.get r) ++ beBytes 2 (rZone.get r) ++
    beBytes 4 pf ++ beBytes 4 pr ++ beBytes 5 bf ++ beBytes 5 br ++ beBytes 4 age ++ beBytes 2 (rState.get r) ++
    beBytes 8 (d.stamp (islandOfFrond c)).toNat ++ beBytes 2 t.epoch ++ beBytes 2 (rBackend.get r) ++ beBytes 1 c ++
    beBytes 1 (rIncarn.get r) ++
    beBytes 1 (rSat.get r + 2 * rRetSeen.get r + 4 * rPinned.get r + 8 * bit (slotAlt r))
  let size := if w then 128 else 64
  (if w then 257 else 256, bs ++ List.replicate (size - bs.length) 0)

/-- What the library decides of a harvest (kind 2) or a flow end (kind 3). (DESIGN CHOICE, log entry 83) -/
def Dev.recordPlan (d : Dev) (c : Nat) (t : Task) : LibPlan :=
  let r := t.view.record
  let num := fun (at_ n : Nat) => leNat ((t.args.drop at_).take n)
  let rec_ := if t.kind = 2 then d.flowRecord c t (num 0 4) (num 4 4) (num 8 6) (num 14 6)
    else d.flowRecord c t (rPktF.get r) (rPktR.get r) (rByteF.get r) (rByteR.get r)
  let p : LibPlan := { delta := false, harv := decide (t.kind = 2) }
  if (t.kind = 2 ∨ t.kind = 3) ∧ bitOf (d.zoneEntry c (rZone.get r)) 5 then { p with emit := [rec_] }.count 16 else p

end Sys2Proof.Machine
end

