-- ==== Sys2Proof/Machine/EngTask.lean ====
section
/-! DEFINITION. The life of a task on a thread: dispatch (R266), its end (R241), faults (R243), updates that wait for the
merger (R223, R239), and the export queue (R302). -/

namespace Sys2Proof.Machine

/-! ### Program counters (R239, R256) -/

def Dev.pcnt (d : Dev) (c i : Nat) : Nat := d.eng.pcnt.get 0 (c * 8192 + i % 8192)
def Dev.setPcnt (d : Dev) (c i v : Nat) : Dev :=
  { d with eng := { d.eng with pcnt := d.eng.pcnt.set 0 (c * 8192 + i % 8192) (v % 2 ^ 64) } }
def Dev.pcntAdd (d : Dev) (c i v : Nat) : Dev := d.setPcnt c i (d.pcnt c i + v)
/-- The library's counter `k` (R284). -/
def Dev.libCount (d : Dev) (c k n : Nat) : Dev := d.pcntAdd c (0x1000 + k) n

/-! ### Dispatch (R266, R236) -/

/-- The engine with the fewest busy threads, the lowest on a tie, and its lowest free thread. -/
def Dev.freeThread (d : Dev) (c : Nat) : Option Nat :=
  let least := ((List.range 16).map (d.engineBusy c)).foldl min 16
  match (List.range 16).find? fun e => d.engineBusy c e = least with
  | some e => ((List.range 16).map fun t => e * 16 + t).find? fun t => (d.thread (thrKey c t)).task.isNone
  | none => none

/-- The head of the highest-priority ready list that is not empty. -/
def Dev.nextReady (d : Dev) (c : Nat) : Option Nat := ((List.range 4).flatMap (d.readyOf c)).head?

/-- The edit list that a task begins with (R236). -/
def Dev.taskEdits (d : Dev) (f : Frame) : Edits :=
  if resEditEn f.ctx.res then (d.editEntry f.ctx.pipe (resEdit f.ctx.res)).getD { ops := [8] } else {}

/-- A thread as a task finds it at its dispatch: after a wait off its thread, what it kept (R265). -/
def Dev.threadFor (d : Dev) (i : Nat) (t : Task) : Thread :=
  let f := match t.desc with | some k => d.frame k | none => none
  let entry := if t.kind = 16 then rProg.get t.view.record % 2 ^ 14 else d.numAt t.cgen (FENG.ENTRY.ix t.kind) % 2 ^ 14
  let th : Thread := { task := some i, pc := if t.begun then t.resume else entry, draft := t.view.record,
                       res := match f with | some f => f.ctx.res | none => 0,
                       edits := match f with | some f => d.taskEdits f | none => {} }
  if t.begun then
    let th := { th with z := bitOf t.zcn 0, c := bitOf t.zcn 1, n := bitOf t.zcn 2, sts := t.sts, stack := t.stack }
    (List.range 4).foldl (fun (th : Thread) j => th.wg (j + 1) (t.saved.getD j 0)) th
  else th

/-- The owner of a check-value context that has moved to another thread keeps the context (R321). (DEDUCED, log entry 79) -/
def Dev.contextMoved (d : Dev) (c thr id : Nat) : Dev :=
  match d.ctxOwner c with
  | some (.task _ h) => if h = id then d.ctxTake c (.task thr id) else d
  | _ => d

/-- A lock holder that has moved to another thread keeps the lock. (DEDUCED, log entry 79) -/
def Dev.cipherMoved (d : Dev) (c thr id : Nat) : Dev :=
  match (d.cipher c).holder with
  | some (.task _ h) => if h = id then d.setCipher c { d.cipher c with holder := some (.task thr id) } else d
  | _ => d

/-- A free thread takes the next ready task. -/
def Dev.dispatch (d : Dev) (c : Nat) : Dev :=
  match d.frondRuns c, d.nextReady c, d.freeThread c with
  | true, some i, some thr =>
    match d.task c i with
    | none => d
    | some t =>
      let k := thrKey c thr
      let t := if t.begun then { t with view := t.first } else t
      let d := d.setReady c t.prio ((d.readyOf c t.prio).filter (· ≠ i))
      let d := (d.setThread k (d.threadFor i t)).setStage k 0
      let d := ((d.setTask c i (some { t with state := 2, begun := true, woke := 0, first := t.view })).cipherMoved c thr (t.id i)).contextMoved c thr (t.id i)
      let d := ((d.trace c 0 thr (t.id i) t.woke t.kind).taskCnt c 1).crossed (islandOfFrond c) 6 t.tag (t.id i)
      d.perf (islandOfFrond c) 0x109
  | _, _, _ => d

/-- TASK_DISPATCH (R266). -/
def execTaskDispatch (frond : Nat) (s : State) : Host.Outcome State Fault Refusal := s.run fun d => d.dispatch (frond % 8)

/-! ### The library's plan -/

/-- The plan of the library for the task on a thread: the one it has, or its first decision.
(DESIGN CHOICE, log entry 83) -/
def Dev.planOf (d : Dev) (k : Nat) (t : Task) : LibPlan :=
  let th := d.thread k
  match th.plan with
  | some p => p
  | none =>
    match t.desc with
    | some f => match d.frame f with
      | some f => d.packetPlan (thrFrond k) f t.view th.res th.edits true
      | none => {}
    | none => d.recordPlan (thrFrond k) t

/-- The device with the plan made. -/
def Dev.planned (d : Dev) (k : Nat) (t : Task) : Dev :=
  if (d.thread k).plan.isSome then d else (d.updThread k fun th => { th with plan := some (d.planOf k t) }).drawn.freed

def Dev.setPlan (d : Dev) (k : Nat) (p : LibPlan) : Dev := d.updThread k fun th => { th with plan := some p }

/-- A plan made again, with what the first one exports. -/
def LibPlan.again (new old : LibPlan) : LibPlan :=
  { new with emit := old.emit, cnts := new.cnts ++ old.cnts.filter fun x => x.1 = 17 }

/-- A plan that waits for a cookie's MAC goes on (R290): the next block is called for under key slot 0, as a ONCE call (R312), or the
plan is made with the MAC. The output of a call that ended with an error is open. (DESIGN CHOICE, log entry 85) -/
def Dev.cookieStep (d : Dev) (k : Nat) (t : Task) (p : LibPlan) (mss tt : Nat) : Dev :=
  match t.desc.bind d.frame with
  | none => d
  | some f =>
    let th := d.thread k
    let blocks := (d.flowConn f).cookieBlocks mss tt
    let out := if th.cook = 0 then List.replicate 16 0 else if th.sts / 256 % 256 = 0 then leBytes 16 (th.rv 0)
      else leBytes 16 d.freeVal.toNat
    if th.cook < blocks.length then
      let b := List.zipWith (fun (x y : Byte) => x ^^^ y) out (blocks.getD th.cook [])
      (d.freed.updThread k fun th => { th.wv 0 (leNat b) with cook := th.cook + 1 }).engCall k 0 0 true 0 0 .clean
    else
      let new := (d.packetPlan (thrFrond k) f t.view f.ctx.res (d.taskEdits f) false (some (tt, macOf out))).again p
      let new := if 4 ≤ th.tries then { new with put := none, del := none } else new
      (d.freed.updThread k fun th => { th with cook := 0 }).setPlan k new

/-- What a command of the library's program does once its plan stands. -/
def Dev.withPlan (d : Dev) (k : Nat) (t : Task) (f : Dev → LibPlan → Dev) : Dev :=
  let d := d.planned k t
  let d := match (d.planOf k t).ask with
    | some (mss, tt) => d.cookieStep k t (d.planOf k t) mss tt
    | none => d
  if (d.planOf k t).ask.isSome then d else f d (d.planOf k t)

/-- The library's update was refused: it decides again of the new view, or gives up at the fourth refusal (R288). -/
def Dev.planRefused (d : Dev) (k : Nat) (t : Task) : Dev :=
  let th := d.thread k
  match th.plan, t.desc with
  | some old, some f =>
    match d.frame f with
    | none => d
    | some f =>
      let c := thrFrond k
      let new := d.packetPlan c f t.view f.ctx.res (d.taskEdits f) false
      let p := new.again old
      let d := d.freed.updThread k fun th => { th with tries := th.tries + 1 }
      if 4 ≤ th.tries + 1 then
        (d.setPlan k { p with put := none, del := none, cnts := p.cnts.filter fun x => x.1 ≠ 13 && x.1 ≠ 14 }).libCount c 18 1
      else d.setPlan k p
  | _, _ => d

/-! ### Control updates and deletions (R223, R238, R239) -/

/-- The view of a task changes, and with it REC and DRAFT. (DEDUCED, log entry 77) -/
def Dev.setView (d : Dev) (k i : Nat) (t : Task) (v : View) : Dev :=
  let d := d.setTask (thrFrond k) i (some { t with view := v })
  d.updThread k fun th => { th with draft := v.record, pad := 0 }

/-- The current record as a new view: none where another stands in its place. -/
def Dev.freshView (d : Dev) (v : View) : View :=
  let r := d.recordAt false v.slot
  if r ≠ 0 ∧ recWide r = v.wide ∧ recKey r = recKey v.record then { v with record := r } else { v with record := 0, hit := false }

/-- A refusal: the task gets the current record. (DEDUCED, log entry 77) -/
def Dev.refused (d : Dev) (k i : Nat) (t : Task) : Dev :=
  let v := d.freshView t.view
  let d := ((d.conflict t.view.slot).setView k i t v).updThread k fun th => { th.setUpd 1 with wait := none }
  match (d.thread k).plan with
  | some _ => d.planRefused k { t with view := v }
  | none => d

/-- The merger answers a control update: `reason` is that of a deletion. -/
def Dev.answer (d : Dev) (k i : Nat) (t : Task) (reason : Option Nat) : Dev :=
  let c := thrFrond k
  let s := t.view.slot
  let draft := (d.thread k).draft
  let invalid := reason.isNone && keyChanged t.view.record draft
  let d := if invalid then d else d.opSample (islandOfFrond c) 2 (thrWho k) (t.id i) (d.sampleAddr k) t.view.home
  let done := fun (d : Dev) (v : View) =>
    (d.setView k i t v).updThread k fun th => { th.setUpd 0 with wait := none }
  match reason with
  | none =>
    if invalid then
      (d.bump FENG.FAULTS c).updThread k fun th => { th.setUpd 3 with wait := none }
    else if d.versionHolds t.view then
      let d := d.controlChange s (applyDraft t.view.record draft (d.recordAt false s)) false
      let d := done d { t.view with record := d.recordAt false s }
      match (d.thread k).plan with
      | some p => d.setPlan k { p with put := none }
      | none => d
    else d.refused k i t
  | some reason =>
    if d.versionHolds t.view then
      let d := done (d.endRecord s 2 reason false) { t.view with record := 0, hit := false }
      match (d.thread k).plan with
      | some p => d.setPlan k { p with del := none }
      | none => d
    else d.refused k i t

/-- Whether the merger still holds an update of the task on a thread. -/
def Dev.mergerHolds (d : Dev) (k i : Nat) (t : Task) : Bool :=
  t.view.hit && d.heldBy t.view.slot t.view.served (some (thrFrond k * 4096 + i))

/-- Updates that the merger holds are answered once the tasks served before them have ended, oldest request first. -/
def Dev.resolveWaits (fuel : Nat) (d : Dev) : Dev :=
  match fuel with
  | 0 => d
  | n + 1 =>
    let ready := d.eng.threads.filterMap fun p =>
      match p.2.wait, d.taskOn p.1 with
      | some .ctl, some (i, t) => if d.mergerHolds p.1 i t then none else some (t.view.served, p.1, i, t, none)
      | some (.del r), some (i, t) => if d.mergerHolds p.1 i t then none else some (t.view.served, p.1, i, t, some r)
      | _, _ => none
    let first := ready.foldl (fun (m : Option (Nat × Nat × Nat × Task × Option Nat)) x => match m with
      | some y => if x.1 < y.1 then some x else some y
      | none => some x) none
    match first with
    | some (_, k, i, t, r) => Dev.resolveWaits n (d.answer k i t r)
    | none => d

def Dev.resolve (d : Dev) : Dev := Dev.resolveWaits 2048 d

/-- A control update or a deletion is sent: it is answered at once, or when nothing holds it. (DEDUCED, log entry 77) -/
def Dev.sendUpdate (d : Dev) (k i : Nat) (t : Task) (reason : Option Nat) : Dev :=
  if d.mergerHolds k i t then
    d.updThread k fun th => { th with wait := some (match reason with | some r => .del r | none => .ctl) }
  else (d.answer k i t reason).resolve

/-- CTL_SEND of a thread. -/
def Dev.ctlSend (d : Dev) (k i : Nat) (t : Task) (prog : Program) : Dev :=
  match prog with
  | .own => d.sendUpdate k i t none
  | .library => d.withPlan k t fun d p =>
    match p.put with
    | some r => if t.view.hit then (d.updThread k fun th => { th with draft := r }).sendUpdate k i t none else d
    | none => d

/-- CTL_SEND (R223, R238). -/
def execCtlSend (frond thread : Nat) (prog : Program) (s : State) : Host.Outcome State Fault Refusal :=
  s.run fun d => d.onProg (thrKey frond thread) prog fun d i t _ => d.ctlSend (thrKey frond thread) i t prog

/-- DEL_SEND of a thread, its reason the immediate: reasons other than 3 and 16 to 255 are invalid. (DEDUCED, log entry 77) -/
def Dev.delSend (d : Dev) (k i : Nat) (t : Task) (prog : Program) (reason : Nat) : Dev :=
  match prog with
  | .own =>
    let reason := d.immAt k reason
    if reason = 3 ∨ (16 ≤ reason ∧ reason ≤ 255) then d.sendUpdate k i t (some reason)
    else d.updThread k fun th => th.setUpd 3
  | .library => d.withPlan k t fun d p =>
    match p.del with
    | some r => d.sendUpdate k i t (some r)
    | none => d

/-- DEL_SEND (R239). -/
def execDelSend (frond thread : Nat) (prog : Program) (reason : Nat) (s : State) : Host.Outcome State Fault Refusal :=
  s.run fun d => d.onProg (thrKey frond thread) prog fun d i t _ => d.delSend (thrKey frond thread) i t prog reason

/-! ### Insertion (R219, R239) -/

/-- DRAFT is inserted for a task that holds a reservation; its view becomes the record and its reservation ends.
(DEDUCED, log entry 77) -/
def Dev.insert (d : Dev) (k i : Nat) (t : Task) (draft : Nat) (ue : Option BadWord) : Dev :=
  let c := thrFrond k
  if t.view.hit ∨ t.view.resv.isNone then d.updThread k fun th => th.setUpd 3 else
  let d := d.opSample (islandOfFrond c) 2 (thrWho k) (t.id i) (d.sampleAddr k) t.view.home
  match (d.insertRead t.view.home t.view.wide ue).insertRecord t.cgen t.view.home t.view.wide draft (some (c * 4096 + i)) false with
  | (d, none) => d.updThread k fun th => th.setUpd 2
  | (d, some (s, r)) =>
    let v := { t.view with slot := s, record := r, hit := true, inserted := true, resv := none }
    let d := (d.setView k i t v).updThread k fun th => th.setUpd 0
    Dev.serveWaiting (d.flow.waiting.length + 1) d

/-- Whether an insert waits for room in the merger of its alternate (R222). -/
def Dev.insertWaits (d : Dev) (t : Task) : Bool :=
  !t.view.hit && t.view.resv.isSome && d.readsAlt t.view.home t.view.wide && d.noEntry (d.mateOf t.view.home)

/-- An insert that waits is made when its row comes again, as if it had not come yet. (DEDUCED, log entry 64) -/
def Dev.insertWait (d : Dev) : Dev := (d.counts ((FLOW.CNT.ix 18).key 0 0)).raise FLOW.int_MERGE_FULL

/-- INS_SEND of a thread. -/
def Dev.insSend (d : Dev) (k i : Nat) (t : Task) (prog : Program) (ue : Option BadWord) : Dev :=
  match prog with
  | .own => d.insert k i t (d.thread k).draft ue
  | .library => d.withPlan k t fun d p =>
    match p.put with
    | some r =>
      if t.view.hit then d else
      let d := (d.insert k i t r ue).setPlan k { p with put := none }
      if (d.thread k).sts % 256 = 0 then d.libCount (thrFrond k) 0 1 else d
    | none => d

/-- INS_SEND (R219): `ue` names a word of the alternate that reads with errors, where the insert reads it. -/
def execInsSend (frond thread : Nat) (prog : Program) (ue : Option BadWord) (s : State) : Host.Outcome State Fault Refusal :=
  s.run fun d => d.onProg (thrKey frond thread) prog fun e i t _ =>
    if d.insertWaits t then d.insertWait else e.insSend (thrKey frond thread) i t prog ue

/-- HARV_SEND (R224). -/
def execHarvSend (frond thread : Nat) (prog : Program) (s : State) : Host.Outcome State Fault Refusal :=
  s.run fun d => d.onProg (thrKey frond thread) prog fun d _ t _ =>
    let k := thrKey frond thread
    let d := d.harvestUpdate t.view (d.metaOf t)
    match prog with
    | .own => d
    | .library => d.withPlan k t fun d p => d.setPlan k { p with harv := false }

/-- CNT_ADD (R239). -/
def execCntAdd (frond thread index : Nat) (value : EngSrc) (s : State) : Host.Outcome State Fault Refusal :=
  s.run fun d => d.onLast (thrKey frond thread) 4 fun d _ t th =>
    (d.pcntAdd (frond % 8) index (d.srcVal (thrKey frond thread) t th value 4 % 2 ^ 32)).freed

/-! ### The export queue (R239, R302) -/

def Dev.exportQ (d : Dev) (c : Nat) : ExportQ := d.eng.exports.get {} c
def Dev.setExportQ (d : Dev) (c : Nat) (q : ExportQ) : Dev := { d with eng := { d.eng with exports := d.eng.exports.set {} c q } }
/-- A field of the frond's export descriptor. -/
def Dev.exportDesc (d : Dev) (c off n : Nat) : Nat := d.spadLe c (0x28340 + off) n
def Dev.exportEn (d : Dev) (c : Nat) : Bool := bitOf (d.exportDesc c 63 1) 0

/-- Whether the queue takes a record. -/
def Dev.exportRoom (d : Dev) (c : Nat) : Bool := d.exportEn c && decide ((d.exportQ c).recs.length < 256)

def Dev.exportPut (d : Dev) (c template : Nat) (bs : List Byte) : Dev :=
  let q := d.exportQ c
  d.setExportQ c { q with recs := q.recs ++ [(template, bs)], times := q.times ++ [d.clk.up] }

/-- EMITs that wait are made while there is room. (DEDUCED, log entry 78) -/
def Dev.emitWaiting (fuel : Nat) (d : Dev) (c : Nat) : Dev :=
  match fuel with
  | 0 => d
  | n + 1 =>
    if !d.exportRoom c then d else
    match d.eng.threads.findSome? fun p => match p.2.wait with
      | some (.emit m bs) => if p.1 / 256 = c then some (p.1, m, bs) else none
      | _ => none with
    | some (k, m, bs) => Dev.emitWaiting n ((d.exportPut c m bs).updThread k fun th => { th with wait := none }) c
    | none => d

/-- A record is sent to the export queue, or waits for room. (DEDUCED, log entry 78) -/
def Dev.emitRecord (d : Dev) (k template : Nat) (bs : List Byte) : Dev :=
  if d.exportRoom (thrFrond k) then d.exportPut (thrFrond k) template bs
  else d.updThread k fun th => { th with wait := some (.emit template bs) }

/-- The staging area of a thread, where the library builds what it exports (R282). (DEDUCED, log entry 83) -/
def stagingOf (k : Nat) : Nat := 0x48000 + 128 * (k % 256)

/-- EMIT (R239): 64 bytes, or 128, of DRAFT or of the scratchpad; the reason code names the template.
(DEDUCED, log entry 78) -/
def execEmit (frond thread : Nat) (prog : Program) (spad : Option Nat) (long : Bool) (reason : Nat) (s : State) :
    Host.Outcome State Fault Refusal :=
  s.run fun d => d.onProg (thrKey frond thread) prog fun d _ t th =>
    let k := thrKey frond thread
    match prog with
    | .own =>
      let n := if long then 128 else 64
      let bs := match spad with
        | some a => d.spadRead (thrFrond k) a n
        | none => th.draftBytes.take n
      d.emitRecord k (reason % 65536) bs
    | .library => d.withPlan k t fun d p =>
      match p.emit with
      | (m, bs) :: r => ((d.setPlan k { p with emit := r }).spadWrite (thrFrond k) (stagingOf k) bs).emitRecord k m bs
      | [] => d

/-! ### The end of a task (R241 to R243) -/

/-- A task is gone: its thread is free, its locks and its view are released, and what waited for it goes on. -/
def Dev.finish (d : Dev) (k i : Nat) (t : Task) (flags : Nat) : Dev :=
  let c := thrFrond k
  let id := t.id i
  let d := ((d.trace c 6 (k % 256) id flags t.kind).perf (islandOfFrond c) 0x10A).cipherTaskEnd c id
  let d := (d.crossed (islandOfFrond c) 7 t.tag id).setThread k {}
  ((d.endTask c i).viewReleased t.view).resolve

/-- FAULT_INFO. -/
def faultInfo (k addr cause : Nat) : Nat := addr % 2 ^ 14 + k % 256 / 16 * 2 ^ 14 + k % 16 * 2 ^ 18 + cause * 2 ^ 22

/-- A task faults (R243). (DESIGN CHOICE, log entry 74) -/
def Dev.fault (d : Dev) (k i : Nat) (t : Task) (addr cause : Nat) : Dev :=
  let c := thrFrond k
  let island := islandOfFrond c
  let d := (d.bump FENG.FAULTS c).setNum FENG.FAULT_INFO (faultInfo k addr cause) c
  let d := d.setNum2 FENG.FAULT_STAMP_LO FENG.FAULT_STAMP_HI (d.stamp island).toNat c
  let d := (((d.raise FENG.int_FAULT).log island 0x3101 c (d.num FENG.FAULT_INFO c)).perf island 0x10B)
  let d := match t.desc with | some f => d.discardFrame f 8 | none => d
  d.finish k i t 1

/-- A packet task's frame leaves with RES and EDIT; with the overflow flag it is discarded (R242).
(DEDUCED, log entry 79) -/
def Dev.releasePacket (d : Dev) (k : Nat) (t : Task) (th : Thread) : Dev :=
  match t.desc with
  | none => d
  | some f =>
    if th.ovf then ((d.bump FENG.EDIT_OVF (thrFrond k)).raise FENG.int_EDIT_OVF).discardFrame f 9
    else d.updFrame f fun x =>
      let ctx := { x.ctx with res := th.res, edits := th.edits, byTask := true, task := none }
      { x with ctx := ctx, stage := .edit }

/-- The task on a thread ends, with the standard packet delta or without. -/
def Dev.endTaskOn (d : Dev) (k i : Nat) (t : Task) (th : Thread) (delta : Bool) : Dev :=
  let d := match t.desc with
    | some f => match d.frame f with
      | some f => if delta && t.view.hit then d.packetUpdate t.view f else d
      | none => d
    | none => d
  (d.releasePacket k t th).finish k i t 0

/-- The library's task ends once its plan has been carried out; the answer is none while it has not.
(DESIGN CHOICE, log entry 83) -/
def Dev.endLibrary (d : Dev) (k i : Nat) (t : Task) : Dev := d.withPlan k t fun d p =>
  if p.put.isSome || p.del.isSome || !p.emit.isEmpty || p.harv then d else
  let d := p.cnts.foldl (fun (d : Dev) (x : Nat × Nat) => d.libCount (thrFrond k) x.1 x.2) d
  d.endTaskOn k i t { d.thread k with res := p.res, edits := p.edits, ovf := p.ovf } p.delta

/-! ### SOFT_RESET of FENG and TASK (R255, R276) -/

/-- A task ends by SOFT_RESET, wherever it is: a packet leaves with RES as it stands. (DEDUCED, log entry 79) -/
def Dev.killTask (d : Dev) (c i : Nat) : Dev :=
  match d.task c i with
  | none => d
  | some t =>
    let d := d.setReady c t.prio ((d.readyOf c t.prio).filter (· ≠ i))
    match d.eng.threads.find? fun p => p.1 / 256 = c && p.2.task = some i with
    | some (k, th) => (d.releasePacket k t { th with ovf := false }).finish k i t 2
    | none =>
      let d := match t.desc with
        | some f => d.updFrame f fun x => { x with stage := .edit, ctx := { x.ctx with task := none } }
        | none => d
      let d := ((d.trace c 6 0 (t.id i) 2 t.kind).perf (islandOfFrond c) 0x10A).cipherTaskEnd c (t.id i)
      (d.endTask c i).viewReleased t.view |>.resolve

/-- Every task of a frond ends; spilled ones too, which have no id. What mergers wait to spill is created then.
(DEDUCED, log entry 79) -/
def Dev.killAll (d : Dev) (c : Nat) : Dev :=
  let d := (d.storeOf c).foldl (fun (d : Dev) (p : Nat × Task) => d.killTask c p.1) d
  let d := d.each 4 fun d p =>
    let l := d.ringOf c p
    let d := (d.setRing c p []).bump FENG.TASKS_DONE c l.length
    l.foldl (fun (d : Dev) t => (d.trace c 6 0 noId 2 t.kind).perf (islandOfFrond c) 0x10A) d
  d.each 4 fun d p => Dev.wantsGo (d.wantsOf c p).length d c p

def Dev.softFeng (d : Dev) : Dev := (d.setNum FENG.RUN 0).each 8 Dev.killAll

/-- SOFT_RESET of TASK (R276): `done` says how many entries each mirror has delivered. -/
def Dev.softTask (d : Dev) (done : Nat) : Dev :=
  d.each 8 fun d c =>
    if bitOf (d.num FENG.RUN) c || d.threadsBusy c ≠ 0 then d
    else
      let d := d.killAll c
      if d.opState TASK.MIRROR_STAT c = 1 then d.mirrorAbort c (partOf done c) else d

end Sys2Proof.Machine
end

