-- ==== Sys2Proof/Machine/EngSeq.lean ====
section
/-! DEFINITION. Microwords (R234, R235, R243 to R246, R251, R426): the cost of what is issued, and the sixteen ways to go on. -/

namespace Sys2Proof.Machine

/-! ### Cost and issue (R234, R235) -/

/-- Cycles of task cost are counted (R235, R256, R426): WORK, SHED or PATCH by the event's number.
(DESIGN CHOICE, log entry 74) -/
def Dev.cycles (d : Dev) (c event n : Nat) : Dev :=
  { d with eng := { d.eng with issued := d.eng.issued.set 0 c ((d.eng.issued.get 0 c + n) % 2 ^ 64) } }.perf (islandOfFrond c) event n

/-- A fetch from patch RAM costs its bubble of one cycle (R251, R256, R426). -/
def Dev.fetched (d : Dev) (c pc : Nat) : Dev := if inRam pc then (d.bump FENG.PATCH_FETCHES c).cycles c 0x102 1 else d

/-- The limit of task cost that holds for a task. (DESIGN CHOICE, log entry 74) -/
def Dev.maxCycles (d : Dev) (t : Task) : Nat := d.numAt t.cgen FENG.MAX_CYCLES % 65536

/-- A task ends by a fault in a nanoword that has begun: its cycles count as SHED (R426). -/
def Dev.faultWord (d : Dev) (k i : Nat) (t : Task) (cause : Nat) : Dev :=
  let c := thrFrond k
  let (pc, word) := d.fetch c (d.thread k).pc
  let cyc := match word with | some w => d.eng.nano.get 0 (wordNano w) % 4 + 1 | none => 0
  let d := if cyc = 0 then d else (d.fetched c pc).cycles c 0x101 cyc
  d.fault k i t pc cause

/-- A thread issues the microword at its address, when that has the condition `cond` and the thread is the one that the engine's
round comes to (R234). `waste` says whether the word wastes a slot, `bad` whether it faults, and `f` what follows, with where the word was
read and its IMM. `ue` says how the word and the thread's state read. The cycles of a word whose task a fault ends count as SHED (R426).
(DEDUCED, log entry 73) -/
def Dev.issue (d : Dev) (k cond : Nat) (ue : WordGuard) (waste : Task → Thread → Bool) (bad : Thread → Bool)
    (f : Dev → Nat → Task → Thread → Nat → Nat → Dev) : Dev :=
  if !d.mayIssue k then d else
  d.onThread k fun d i t th =>
    let c := thrFrond k
    let (pc, word) := d.fetch c th.pc
    let w := word.getD 0
    let broken := inRam pc && branching (wordCond w) && bitOf w 14
    let unread := word.isNone || decide (d.eng.nw ≤ wordNano w)
    if !ue.bad && !unread && !broken && wordCond w ≠ cond then d else
    let d := d.guarded (islandOfFrond c) (if inRam pc then 5 else 4) (pc % 2 ^ 14) ue.word
    let d := (d.guarded (islandOfFrond c) 6 (k % 256) ue.state).fetched c pc
    if ue.bad then d.fault k i t pc 6
    else if word.isNone then d.fault k i t pc 2
    else if broken then d.fault k i t pc 1
    else if unread then d.fault k i t pc 2
    else
      let th := d.flushed t th
      let cyc := d.eng.nano.get 0 (wordNano w) % 4 + 1
      let lost := bit (waste t th)
      let cost := th.cost + cyc + bit (inRam pc) + lost
      let d := (d.setThread k th).issued k cyc
      let d := d.opSample (islandOfFrond c) 0 (thrWho k) (t.id i) (pc % 2 ^ 14 + bit (inRam pc) * 2 ^ 15) 0
      let d := d.updThread k fun th => { th with cost := cost }
      if d.maxCycles t < cost then (d.cycles c 0x101 (cyc + lost)).fault k i t pc 5
      else if bad th then (d.cycles c 0x101 cyc).fault k i t pc 3
      else f ((d.cycles c 0x100 cyc).cycles c 0x101 lost) i t (d.thread k) pc (wordImm w)

/-- The address after a word: patch RAM wraps at its 256 words. (DEDUCED, log entry 73) -/
def nextPc (pc : Nat) : Nat := if inRam pc then 2 ^ 14 + (pc + 1) % 256 else (pc + 1) % 2 ^ 14
/-- The target that IMM names, moved up by `n`. -/
def targetPc (imm n : Nat) : Nat := if bitOf imm 15 then 2 ^ 14 + (imm + n) % 256 else (imm + n) % 2 ^ 14

/-- The thread goes on at an address. -/
def Dev.goto (d : Dev) (k pc : Nat) : Dev := d.updThread k fun th => { th with pc := pc }

/-- A word that wastes no slot, and one that cannot fault of itself. -/
def noWaste (_ : Task) (_ : Thread) : Bool := false
def noFault (_ : Thread) : Bool := false

/-- A conditional branch: a taken one wastes a slot. (DEDUCED, log entry 73) -/
def Dev.branch (d : Dev) (k cond : Nat) (ue : WordGuard) (taken : Task → Thread → Bool) : Dev :=
  d.issue k cond ue taken noFault fun d _ t th pc imm => d.goto k (if taken t th then targetPc imm 0 else nextPc pc)

/-! ### Sequencing (R246) -/

/-- NEXT (R246). -/
def execNext (frond thread : Nat) (ue : WordGuard) (s : State) : Host.Outcome State Fault Refusal :=
  s.run fun d => d.issue (thrKey frond thread) 0 ue noWaste noFault fun d _ _ _ pc _ => d.goto (thrKey frond thread) (nextPc pc)
/-- GOTO (R246). -/
def execGoto (frond thread : Nat) (ue : WordGuard) (s : State) : Host.Outcome State Fault Refusal :=
  s.run fun d => d.issue (thrKey frond thread) 1 ue noWaste noFault fun d _ _ _ _ imm => d.goto (thrKey frond thread) (targetPc imm 0)
/-- IF_Z (R246). -/
def execIfZ (frond thread : Nat) (ue : WordGuard) (s : State) : Host.Outcome State Fault Refusal :=
  s.run fun d => d.branch (thrKey frond thread) 2 ue fun _ th => th.z
/-- IF_NZ (R246). -/
def execIfNz (frond thread : Nat) (ue : WordGuard) (s : State) : Host.Outcome State Fault Refusal :=
  s.run fun d => d.branch (thrKey frond thread) 3 ue fun _ th => !th.z
/-- IF_C (R246). -/
def execIfC (frond thread : Nat) (ue : WordGuard) (s : State) : Host.Outcome State Fault Refusal :=
  s.run fun d => d.branch (thrKey frond thread) 4 ue fun _ th => th.c
/-- IF_NC (R246). -/
def execIfNc (frond thread : Nat) (ue : WordGuard) (s : State) : Host.Outcome State Fault Refusal :=
  s.run fun d => d.branch (thrKey frond thread) 5 ue fun _ th => !th.c
/-- IF_N (R246). -/
def execIfN (frond thread : Nat) (ue : WordGuard) (s : State) : Host.Outcome State Fault Refusal :=
  s.run fun d => d.branch (thrKey frond thread) 6 ue fun _ th => th.n
/-- IF_ZN (R246). -/
def execIfZn (frond thread : Nat) (ue : WordGuard) (s : State) : Host.Outcome State Fault Refusal :=
  s.run fun d => d.branch (thrKey frond thread) 7 ue fun _ th => th.z || th.n
/-- IF_HIT (R246). -/
def execIfHit (frond thread : Nat) (ue : WordGuard) (s : State) : Host.Outcome State Fault Refusal :=
  s.run fun d => d.branch (thrKey frond thread) 8 ue fun t _ => t.view.hit
/-- IF_UPD_FAIL (R246). -/
def execIfUpdFail (frond thread : Nat) (ue : WordGuard) (s : State) : Host.Outcome State Fault Refusal :=
  s.run fun d => d.branch (thrKey frond thread) 9 ue fun _ th => th.sts % 256 ≠ 0
/-- IF_UNIT_ERR (R246). -/
def execIfUnitErr (frond thread : Nat) (ue : WordGuard) (s : State) : Host.Outcome State Fault Refusal :=
  s.run fun d => d.branch (thrKey frond thread) 10 ue fun _ th => th.sts / 256 % 256 ≠ 0

/-- CALL (R246): a fifth return address is a fault. -/
def Dev.call (d : Dev) (k : Nat) (ue : WordGuard) : Dev :=
  d.issue k 11 ue noWaste (fun th => decide (4 ≤ th.stack.length)) fun d _ _ _ pc imm =>
    (d.updThread k fun th => { th with stack := nextPc pc :: th.stack }).goto k (targetPc imm 0)
def execCall (frond thread : Nat) (ue : WordGuard) (s : State) : Host.Outcome State Fault Refusal :=
  s.run fun d => d.call (thrKey frond thread) ue

/-- RET (R246): with no return address it is a fault. -/
def Dev.ret (d : Dev) (k : Nat) (ue : WordGuard) : Dev :=
  d.issue k 12 ue (fun _ th => !th.stack.isEmpty) (fun th => th.stack.isEmpty) fun d _ _ th _ _ =>
    (d.updThread k fun th => { th with stack := th.stack.drop 1 }).goto k (th.stack.headD 0)
def execRet (frond thread : Nat) (ue : WordGuard) (s : State) : Host.Outcome State Fault Refusal :=
  s.run fun d => d.ret (thrKey frond thread) ue

/-- DISPATCH (R246). -/
def execDispatch (frond thread : Nat) (ue : WordGuard) (s : State) : Host.Outcome State Fault Refusal :=
  s.run fun d => d.issue (thrKey frond thread) 13 ue (fun _ _ => true) noFault fun d _ _ th _ imm =>
    d.goto (thrKey frond thread) (targetPc imm (th.rg 1 % 16))

/-! ### WAIT and END (R241, R264, R265) -/

/-- WAIT: the flags of a condition that holds are consumed; otherwise a packet task keeps its thread, and another leaves it
while fewer than 4,096 − RESERVE records hold blocked tasks. -/
def Dev.waitWord (d : Dev) (k i : Nat) (t : Task) (next : Nat) : Dev :=
  let c := thrFrond k
  let d := d.updThread k fun th => { th with pc := next }
  if t.holds then
    let hit := t.flags &&& t.mask
    (d.setTask c i (some { t with flags := t.flags &&& (0xFFFF ^^^ hit) })).updThread k fun th => th.wg 1 hit
  else if pktKind t.kind || decide (4096 - d.num TASK.RESERVE ≤ d.blockedHeld c) then
    ((d.updThread k fun th => { th with wait := some .cond }).taskCnt c 3).trace c 2 (k % 256) (t.id i) t.mask t.kind
  else
    let th := d.thread k
    (((d.setTask c i (some (t.leave th next))).setThread k {}).taskCnt c 2).trace c 1 (k % 256) (t.id i) t.mask t.kind

/-- WAIT (R264). -/
def execWait (frond thread : Nat) (ue : WordGuard) (s : State) : Host.Outcome State Fault Refusal :=
  s.run fun d => d.issue (thrKey frond thread) 14 ue noWaste noFault fun d i t _ pc _ => d.waitWord (thrKey frond thread) i t (nextPc pc)

/-- END of a thread: of a library task it is the END that follows once the library's plan is carried out.
(DESIGN CHOICE, log entry 74) -/
def Dev.endWord (d : Dev) (k : Nat) (prog : Program) (ue : WordGuard) : Dev :=
  match prog with
  | .own => d.issue k 15 ue noWaste noFault fun d i t th _ imm => d.endTaskOn k i t th (bitOf imm 0)
  | .library => d.onThread k fun d i t _ => d.endLibrary k i t

/-- END (R241). -/
def execEnd (frond thread : Nat) (prog : Program) (ue : WordGuard) (s : State) : Host.Outcome State Fault Refusal :=
  s.run fun d => d.endWord (thrKey frond thread) prog ue

end Sys2Proof.Machine
end

