-- ==== Sys2Proof/Machine/EngAlu.lean ====
section
/-! DEFINITION. Datapath words of the flow engines (R240, R242, R247, R272): ALU, transfers, the scratchpad, the EDIT
builder, the hash units and random numbers. Each acts on a thread before the sequencing of its microword. -/

namespace Sys2Proof.Machine

/-- A thread with a result written to a place; a place that may not be written is a fault (R243, cause 4). -/
def Dev.deliver (d : Dev) (k i : Nat) (t : Task) (p : EngPlace) (bs : List Byte) : Dev :=
  match d.writePlace t (d.thread k) p bs with
  | some th => d.setThread k th
  | none => d.faultWord k i t 4

/-- The width of an ALU word in bytes: 16 on V registers, 4 otherwise. (DEDUCED, log entry 76) -/
def aluWidth (dst : EngPlace) : Nat := match dst with | .v _ => 16 | _ => 4

/-! ### ALU (R247) -/

/-- Whether FLAGSRC of the nanoword that a thread is at names ALU1 (`second`) or ALU0 (R247). -/
def Dev.flagsFrom (d : Dev) (k : Nat) (second : Bool) : Bool :=
  match (d.fetch (thrFrond k) (d.thread k).pc).2 with
  | some w => bitsOf (d.eng.nano.get 0 (wordNano w)) 2 2 = 1 + bit second
  | none => false

/-- An ALU word, of ALU0 or ALU1: its result, and the carry where its operation gives one. Flags are set where FLAGSRC names this
ALU: Z and N from the result; a carry that the spec does not give is an open value. ALU1 acts after ALU0. (DEDUCED, log entry 76) -/
def Dev.alu (d : Dev) (k : Nat) (dst : EngPlace) (second : Bool) (f : Task → Thread → Nat → Nat × Option Bool) : Dev :=
  d.onGroup k 0 (bit second) (1 + bit second) fun d i t th =>
    let flags := d.flagsFrom k second
    let n := aluWidth dst
    let (v, carry) := f t th n
    let v := v % 256 ^ n
    let d1 := if flags then d.setThread k { th with z := decide (v = 0), n := bitOf v (8 * n - 1), c := carry.getD (bitOf d.freeVal.toNat 0) }
      else d
    (d1.deliver k i t dst (leBytes n v)).freed

/-- An ALU word of two sources. (DEDUCED, log entry 75) -/
def Dev.alu2 (d : Dev) (frond thread : Nat) (dst : EngPlace) (a b : EngSrc) (second : Bool)
    (f : Nat → Nat → Nat → Nat × Option Bool) : Dev :=
  d.alu (thrKey frond thread) dst second fun t th n =>
    f n (d.srcVal (thrKey frond thread) t th a n) (d.srcVal (thrKey frond thread) t th b n)

/-- AND (R247). -/
def execAnd (frond thread : Nat) (dst : EngPlace) (a b : EngSrc) (second : Bool) (s : State) : Host.Outcome State Fault Refusal :=
  s.run fun d => d.alu2 frond thread dst a b second fun _ x y => (x &&& y, none)
/-- OR (R247). -/
def execOr (frond thread : Nat) (dst : EngPlace) (a b : EngSrc) (second : Bool) (s : State) : Host.Outcome State Fault Refusal :=
  s.run fun d => d.alu2 frond thread dst a b second fun _ x y => (x ||| y, none)
/-- XOR (R247). -/
def execXor (frond thread : Nat) (dst : EngPlace) (a b : EngSrc) (second : Bool) (s : State) : Host.Outcome State Fault Refusal :=
  s.run fun d => d.alu2 frond thread dst a b second fun _ x y => (x ^^^ y, none)
/-- ADD (R247): the carry is the carry out of the width. -/
def execAdd (frond thread : Nat) (dst : EngPlace) (a b : EngSrc) (second : Bool) (s : State) : Host.Outcome State Fault Refusal :=
  s.run fun d => d.alu2 frond thread dst a b second fun n x y => (x + y, some (decide (256 ^ n ≤ x + y)))
/-- SUB (R247). -/
def execSub (frond thread : Nat) (dst : EngPlace) (a b : EngSrc) (second : Bool) (s : State) : Host.Outcome State Fault Refusal :=
  s.run fun d => d.alu2 frond thread dst a b second fun n x y => (x + 256 ^ n - y, none)

/-- A shift: 0 left, 1 right, other right with the sign; by the width or more its result is an open value.
(DEDUCED, log entry 75) -/
def shiftVal (kind n x y : Nat) (open_ : Nat) : Nat :=
  if 8 * n ≤ y then open_
  else if kind = 0 then x * 2 ^ y
  else if kind = 1 then x / 2 ^ y
  else toBits (8 * n) (signedOf x (8 * n) / (2 ^ y : Nat))

/-- SHIFT (R247). -/
def execShift (frond thread kind : Nat) (dst : EngPlace) (a b : EngSrc) (second : Bool) (s : State) :
    Host.Outcome State Fault Refusal :=
  s.run fun d => d.alu2 frond thread dst a b second fun n x y =>
    (shiftVal kind n x y (d.freeVal.toNat + Nat.shiftLeft (Config.free (d.frees + 1)).toNat 64), none)

/-- COMPARE_UNDER_MASK (R247): nothing is written; Z says that the sources agree under the mask. C and N are open.
(DEDUCED, log entry 75) -/
def execCompareUnderMask (frond thread : Nat) (wide : Bool) (a b mask : EngSrc) (second : Bool) (s : State) :
    Host.Outcome State Fault Refusal :=
  s.run fun d => d.onGroup (thrKey frond thread) 0 (bit second) (1 + bit second) fun d _ t th =>
    let n := if wide then 16 else 4
    let m := d.srcVal (thrKey frond thread) t th mask n
    let eq := decide (d.srcVal (thrKey frond thread) t th a n &&& m = d.srcVal (thrKey frond thread) t th b n &&& m)
    if d.flagsFrom (thrKey frond thread) second then (d.setThread (thrKey frond thread)
      { th with z := eq, c := bitOf d.freeVal.toNat 0, n := bitOf d.freeVal.toNat 1 }).freed
    else d.freed

/-- MASKSET (R247): the bits of the mask are taken from the value. -/
def execMaskset (frond thread : Nat) (dst : EngPlace) (a mask value : EngSrc) (second : Bool) (s : State) :
    Host.Outcome State Fault Refusal :=
  s.run fun d => d.alu (thrKey frond thread) dst second fun t th n =>
    let x := d.srcVal (thrKey frond thread) t th a n
    let m := d.srcVal (thrKey frond thread) t th mask n
    ((x &&& m) ^^^ x ||| (d.srcVal (thrKey frond thread) t th value n &&& m), none)

/-- BYTE_SWAP (R247). -/
def execByteSwap (frond thread : Nat) (dst : EngPlace) (a : EngSrc) (second : Bool) (s : State) : Host.Outcome State Fault Refusal :=
  s.run fun d => d.alu (thrKey frond thread) dst second fun t th n => (beNat (leBytes n (d.srcVal (thrKey frond thread) t th a n)), none)

/-! ### Transfers and the scratchpad (R247, R272) -/

/-- Whether a transfer goes to registers, where the ALUs of its nanoword see it, and not to a window (R247). -/
def loadsRegs (x : Transfer) : Bool := match x.dst with | .g _ => true | .v _ => true | _ => false

/-- MOVE: both transfers read before either writes; 1 to 128 bytes each. Those to registers act before the ALUs, those to windows
after them; of one of each kind the second waits for its time. (DEDUCED, log entry 73) -/
def Dev.move (d : Dev) (k : Nat) (a : Transfer) (b : Option Transfer) : Dev :=
  match b with
  | none =>
    let n := if loadsRegs a then 0 else 3
    d.onGroup k 1 n n fun d i t th => (d.deliver k i t a.dst (d.readPlace t th a.src (moveBytes a))).freed
  | some b =>
    if loadsRegs a = loadsRegs b then
      let n := if loadsRegs a then 0 else 3
      d.onGroup k 1 n n fun d i t th =>
        let vb := d.readPlace t th b.src (moveBytes b)
        match d.writePlace t th a.dst (d.readPlace t th a.src (moveBytes a)) with
        | some th1 => ((d.setThread k th1).deliver k i t b.dst vb).freed
        | none => d.faultWord k i t 4
    else
      let x := if loadsRegs a then a else b
      let y := if loadsRegs a then b else a
      d.onGroup k 1 0 0 fun d i t th =>
        if (d.writePlace t th y.dst (List.replicate (moveBytes y) 0)).isNone then d.faultWord k i t 4
        else ((d.deliver k i t x.dst (d.readPlace t th x.src (moveBytes x))).updThread k fun th => { th with late := some y }).freed

/-- MOVE (R247). -/
def execMove (frond thread : Nat) (a : Transfer) (b : Option Transfer) (s : State) : Host.Outcome State Fault Refusal :=
  s.run fun d => d.move (thrKey frond thread) a b

/-- A load from the scratchpad; a word that reads uncorrectably is a fault of the task (R467). -/
def Dev.memLoad (d : Dev) (k : Nat) (addr : EngSrc) (dst : EngPlace) (len : Nat) (ue : Guard) : Dev :=
  d.onGroup k 2 0 0 fun d i t th =>
    let c := thrFrond k
    let a := d.srcVal k t th addr 4
    let d := d.opSample (islandOfFrond c) 6 (thrWho k) (t.id i) (d.sampleAddr k) 0
    let d := d.guarded (islandOfFrond c) 3 (a % 2 ^ 20 / 32) ue
    if ue = .bad then d.faultWord k i t 6
    else d.deliver k i t dst (d.spadRead c a (min 64 len))

/-- MEM_LOAD (R272). -/
def execMemLoad (frond thread : Nat) (addr : EngSrc) (dst : EngPlace) (len : Nat) (ue : Guard) (s : State) :
    Host.Outcome State Fault Refusal :=
  s.run fun d => d.memLoad (thrKey frond thread) addr dst len ue

/-- A store to the scratchpad. -/
def Dev.memStore (d : Dev) (k : Nat) (addr : EngSrc) (src : EngPlace) (len : Nat) : Dev :=
  d.onLast k 2 fun d i t th =>
    let c := thrFrond k
    let a := d.srcVal k t th addr 4
    let d := d.opSample (islandOfFrond c) 6 (thrWho k) (t.id i) (d.sampleAddr k) 0
    Dev.emitWaiting 256 (d.spadWrite c a (d.readPlace t th src (min 64 len))).freed c

/-- MEM_STORE (R272). -/
def execMemStore (frond thread : Nat) (addr : EngSrc) (src : EngPlace) (len : Nat) (s : State) : Host.Outcome State Fault Refusal :=
  s.run fun d => d.memStore (thrKey frond thread) addr src len

/-! ### The EDIT builder (R242) -/

/-- E_CLEAR (R242). -/
def execEClear (frond thread : Nat) (s : State) : Host.Outcome State Fault Refusal :=
  s.run fun d => d.onLast (thrKey frond thread) 0 fun d _ _ th => d.setThread (thrKey frond thread) { th with edits := {} }

/-- E_OP (R242): a ninth operation is not appended and sets the overflow flag. -/
def Dev.editOpAppend (d : Dev) (k word : Nat) : Dev :=
  d.onLast k 0 fun d _ _ th =>
    d.setThread k (if 8 ≤ th.edits.ops.length then { th with ovf := true }
      else { th with edits := { th.edits with ops := th.edits.ops ++ [word % 2 ^ 32] } })
def execEOp (frond thread : Nat) (word : Word) (s : State) : Host.Outcome State Fault Refusal :=
  s.run fun d => d.editOpAppend (thrKey frond thread) word.toNat

/-- E_DATA (R242): 1 to 64 bytes appended, their offset to a G register; more than 64 in all are not appended. -/
def Dev.editDataAppend (d : Dev) (k : Nat) (src : EngPlace) (len dst : Nat) : Dev :=
  d.onLast k 0 fun d _ t th =>
    let bs := d.readPlace t th src (max 1 (min 64 len))
    let off := th.edits.data.length
    (d.setThread k (if 64 < off + bs.length then { th with ovf := true }
      else { (th.wg dst off) with edits := { th.edits with data := th.edits.data ++ bs } })).freed
def execEData (frond thread : Nat) (src : EngPlace) (len dst : Nat) (s : State) : Host.Outcome State Fault Refusal :=
  s.run fun d => d.editDataAppend (thrKey frond thread) src len dst

/-! ### Hash units and random numbers (R240) -/

/-- A hash call: its result to a G register, its status OK. (DEDUCED, log entry 76) -/
def Dev.hashCall (d : Dev) (k dst : Nat) (f : Task → Thread → Nat) : Dev :=
  d.onLast k 3 fun d i t th =>
    let d := d.opSample (islandOfFrond (thrFrond k)) 5 (thrWho k) (t.id i) (d.sampleAddr k) 0
    (d.setThread k ((th.wg dst (f t th)).setUnit 0)).freed

/-- PEERH (R240): the peer part under KP of zone, protocol and an endpoint. (DEDUCED, log entry 76) -/
def execPeerh (frond thread : Nat) (v6 : Bool) (zone proto port addr : EngSrc) (dst : Nat) (s : State) :
    Host.Outcome State Fault Refusal :=
  s.run fun d => d.hashCall (thrKey frond thread) dst fun t th =>
    let v := fun (x : EngSrc) (n : Nat) => d.srcVal (thrKey frond thread) t th x n
    peerPart d.flow.kp v6 (v zone 4 % 4096) (v proto 4 % 256) ⟨v addr (if v6 then 16 else 4), v port 4 % 65536⟩
/-- LOCALH (R240): the value h of an endpoint under KL. -/
def execLocalh (frond thread : Nat) (v6 : Bool) (port addr : EngSrc) (dst : Nat) (s : State) : Host.Outcome State Fault Refusal :=
  s.run fun d => d.hashCall (thrKey frond thread) dst fun t th =>
    localHash d.flow.kl v6 ⟨d.srcVal (thrKey frond thread) t th addr (if v6 then 16 else 4), d.srcVal (thrKey frond thread) t th port 4 % 65536⟩
/-- KHASH (R240): SipHash-2-4 of up to 32 bytes under the key in a V register. (DEDUCED, log entry 76) -/
def execKhash (frond thread : Nat) (src : EngPlace) (len key dst : Nat) (s : State) : Host.Outcome State Fault Refusal :=
  s.run fun d => d.hashCall (thrKey frond thread) dst fun t th =>
    sipHash (th.rv key) (d.readPlace t th src (min 32 len)) % 2 ^ 32
/-- RAND (R240). -/
def execRand (frond thread dst : Nat) (s : State) : Host.Outcome State Fault Refusal :=
  s.run fun d => d.onLast (thrKey frond thread) 3 fun d _ _ th =>
    (d.setThread (thrKey frond thread) ((th.wg dst (d.rng.toNat % 2 ^ 32)).setUnit 0)).drawn

end Sys2Proof.Machine
end

