-- ==== Sys2Proof/Machine/EngOps.lean ====
section
/-! DEFINITION. Task operations of the UPD group (R263), and the messages of the export queue (R302). -/

namespace Sys2Proof.Machine

/-! ### Task operations (R263) -/

/-- Arguments for a task that a program creates: DRAFT bytes 0 to 63, or 64 bytes of scratchpad at a G register. -/
def Dev.argsFor (d : Dev) (k : Nat) (spad : Option Nat) : List Byte :=
  match spad with
  | some g => d.spadRead (thrFrond k) ((d.thread k).rg g) 64
  | none => (d.thread k).draftBytes.take 64

/-- A task that a program creates, with the epoch in force. -/
def Dev.newTask (d : Dev) (kind prio : Nat) (args : List Byte) : Task :=
  { kind := kind, prio := prio, epoch := d.num (COMMIT 0) % 65536, cgen := d.cgen, args := args }

/-- T_CREATE: `imm` gives kind, priority and where the arguments are; `spad` is the G register with their address.
(DEDUCED, log entry 79) -/
def Dev.tCreate (d : Dev) (k imm spad dst : Nat) : Dev :=
  let c := thrFrond k
  let kind := imm % 16
  if kind < 5 ∨ !d.entryOk d.cgen kind then d.updThread k fun th => th.setUpd 3 else
  let prio := if bitOf imm 6 then bitsOf imm 4 2 else d.kindPrio kind
  let args := d.argsFor k (if bitOf imm 7 then some spad else none)
  let (d, status, id) := d.createTask c (d.newTask kind prio args) false
  d.updThread k fun th => (th.wg dst id).setUpd status

/-- T_CREATE (R263). -/
def execTCreate (frond thread imm spad dst : Nat) (s : State) : Host.Outcome State Fault Refusal :=
  s.run fun d => d.onLast (thrKey frond thread) 4 fun d _ _ _ =>
    d.tCreate (thrKey frond thread) (d.immAt (thrKey frond thread) imm) spad dst

/-- T_SIGNAL (R263). -/
def execTSignal (frond thread imm idReg : Nat) (s : State) : Host.Outcome State Fault Refusal :=
  s.run fun d => d.onLast (thrKey frond thread) 4 fun d _ _ th =>
    d.signal (frond % 8) (th.rg idReg % 2 ^ 20) (d.immAt (thrKey frond thread) imm % 65536)

/-- T_MASK (R263). -/
def execTMask (frond thread imm : Nat) (all : Bool) (s : State) : Host.Outcome State Fault Refusal :=
  s.run fun d => d.onLast (thrKey frond thread) 4 fun d i t _ =>
    d.setTask (frond % 8) i (some { t with mask := d.immAt (thrKey frond thread) imm % 65536, all := all })

/-- A delay in µs; beyond 16,777,215 it is an open value. (DEDUCED, log entry 75) -/
def Dev.delayOf (d : Dev) (v : Nat) : Nat := if v < 2 ^ 24 then v else d.freeVal.toNat % 2 ^ 24

/-- T_TIMER (R263, R268): a delay of 0 disarms. -/
def execTTimer (frond thread delayReg : Nat) (s : State) : Host.Outcome State Fault Refusal :=
  s.run fun d => d.onLast (thrKey frond thread) 4 fun d i t th =>
    let n := d.delayOf (th.rg delayReg)
    (d.setTask (frond % 8) i (some { t with armed := decide (n ≠ 0), deadline := d.upUs + n })).freed

/-- T_TIMERTASK: a timed task of kind 4, while a record above RESERVE is free. (DEDUCED, log entry 79) -/
def Dev.tTimerTask (d : Dev) (k delayReg : Nat) (spad : Option Nat) : Dev :=
  let c := thrFrond k
  if d.storeFree c ≤ d.num TASK.RESERVE ∨ !d.entryOk d.cgen 4 then
    ((d.taskCnt c 10).raise TASK.int_TIMER_FULL).updThread k fun th => th.setUpd 2
  else
    let t := d.newTask 4 (d.kindPrio 4) (d.argsFor k spad)
    let due := d.upUs + d.delayOf ((d.thread k).rg delayReg)
    let (d, tag) := d.freed.tagUnit
    ((d.taskCnt c 0).placeTask c { t with state := 4, deadline := due, tag := tag }).1.updThread k fun th => th.setUpd 0

/-- T_TIMERTASK (R263). -/
def execTTimertask (frond thread delayReg : Nat) (spad : Option Nat) (s : State) : Host.Outcome State Fault Refusal :=
  s.run fun d => d.onLast (thrKey frond thread) 4 fun d _ _ _ => d.tTimerTask (thrKey frond thread) delayReg spad

/-- T_SELF (R263). -/
def execTSelf (frond thread dst : Nat) (s : State) : Host.Outcome State Fault Refusal :=
  s.run fun d => d.onLast (thrKey frond thread) 4 fun d i t _ => d.updThread (thrKey frond thread) fun th => th.wg dst (t.id i)

/-! ### IPFIX messages (R302) -/

/-- The templates of a list of records, in the order of their first record. -/
def templatesOf (l : List (Nat × List Byte)) : List Nat := (l.map fun x => x.1).eraseDups

/-- The sets of a message: one for each template. (DEDUCED, log entry 86) -/
def ipfixSets (l : List (Nat × List Byte)) : List Byte :=
  (templatesOf l).flatMap fun m =>
    let body := (l.filter fun x => x.1 = m).flatMap fun x => x.2
    beBytes 2 m ++ beBytes 2 (4 + body.length) ++ body

/-- Length of the IP packet of a message with these records. -/
def ipfixLen (hdr : Nat) (l : List (Nat × List Byte)) : Nat := hdr - 14 + 16 + (ipfixSets l).length

/-- How many records from the head fit within MTU, at least one. (DEDUCED, log entry 86) -/
def ipfixFit (fuel hdr mtu n : Nat) (l : List (Nat × List Byte)) : Nat :=
  match fuel with
  | 0 => max 1 n
  | m + 1 => if l.length ≤ n ∨ mtu < ipfixLen hdr (l.take (n + 1)) then max 1 n else ipfixFit m hdr mtu (n + 1) l

/-- A message's frame: the descriptor's headers with lengths and checksums filled in, and the IPFIX message.
(DEDUCED, log entry 86) -/
def ipfixFrame (hdr : List Byte) (v6 : Bool) (msg : List Byte) : List Byte :=
  let udp := 8 + msg.length
  if v6 then
    let h := putAt (putAt hdr 18 (beBytes 2 udp)) 58 (beBytes 2 udp)
    let sum := sum16 ((h.drop 22).take 32) + udp + 17 + sum16 ((h.drop 54).take 8 ++ msg)
    let c := 65535 - fold16 (fold16 sum)
    putAt h 60 (beBytes 2 (if c = 0 then 65535 else c)) ++ msg
  else
    let h := putAt (putAt hdr 16 (beBytes 2 (20 + udp))) 38 (beBytes 2 udp)
    putAt h 24 (beBytes 2 (inetSum ((h.drop 14).take 20))) ++ msg

/-- A frame made inside the module takes units as its requester and goes to the traffic manager, with a port and a class; it
waits while its requester is in an episode, and while admission is stopped (R56, R340). One that finds no unit is discarded and counted
as an overrun: the answer is then no descriptor (R336, R350). (DEDUCED, log entry 86) -/
def Dev.madeFrame (d : Dev) (r port cls : Nat) (bs : List Byte) (pick : List Nat) (g : Frame → Frame) :
    Option (Dev × Option Nat) :=
  if d.inEpisode r 0 || d.spore.stopped then none else
  let bs := bs ++ List.replicate (60 - bs.length) 0
  let x : Rx := { bytes := bs, maxFrame := 10240, fine := d.nowNs * 65536 }
  let (d, x) := d.takeUnits chainFuel r x bs.length pick
  if x.dead then some ((((d.disc 16).bump BUFM.OVERRUNS).raise BUFM.int_OVERRUN).rxDrop r x, none) else
  let (d, k) := d.rxAdmit r x bs fun f =>
    g { f with dest := if port < 34 then 2 ^ port else 0, named := some (cls % 8), epoch := d.num (COMMIT 0) % 65536, gen := d.cgen,
               stage := .ready }
  let (d, tag) := d.tagUnit
  some (d.updFrame k fun f => { f with tag := tag }, some k)

/-- The frame of a message of the first `n` records of a frond's export queue. (DEDUCED, log entry 86) -/
def Dev.exportFrame (d : Dev) (c n : Nat) : List Byte :=
  let q := d.exportQ c
  let sets := ipfixSets (q.recs.take n)
  let msg := beBytes 2 10 ++ beBytes 2 (16 + sets.length) ++ beBytes 4 d.clk.sec.toNat ++ beBytes 4 q.sent ++
    beBytes 4 (d.exportDesc c 70 4 + c) ++ sets
  ipfixFrame (d.spadRead c 0x28340 (d.exportDesc c 62 1)) (bitOf (d.exportDesc c 63 1) 1) msg

/-- A message is sent: when the next record does not fit, or HOLD µs after its first record. (DEDUCED, log entry 86) -/
def Dev.exportMessage (d : Dev) (c : Nat) (pick : List Nat) : Dev :=
  let q := d.exportQ c
  let n := ipfixFit 256 (d.exportDesc c 62 1) (d.exportDesc c 64 2) 0 q.recs
  let due := decide (n < q.recs.length) || decide (q.times.headD 0 + d.exportDesc c 68 2 * 10000 ≤ d.clk.up)
  if q.recs.isEmpty || !d.exportEn c || !due then d else
  match d.madeFrame (34 + c) (d.exportDesc c 66 1) (d.exportDesc c 67 1) (d.exportFrame c n) pick id with
  | some (d, _) => Dev.emitWaiting 256 (d.setExportQ c { recs := q.recs.drop n, times := q.times.drop n, sent := q.sent + n }) c
  | none => d

/-- EXPORT_MESSAGE (R302): `pick` names the units that the allocators pick. -/
def execExportMessage (frond : Nat) (pick : List Nat) (s : State) : Host.Outcome State Fault Refusal :=
  s.run fun d => d.exportMessage (frond % 8) pick

end Sys2Proof.Machine
end

