-- ==== Sys2Proof/Machine/Write.lean ====
section
/-! DEFINITION. What a word written to a register leaves in it (R6): reserved bits read 0, a field written with a reserved
encoding keeps its value. -/

namespace Sys2Proof.Machine

/-- What an accepted write of `w` over `old` leaves, and whether some field met a reserved encoding (R6).
(DEDUCED, log entry 7) -/
def Reg.merge (r : Reg) (old w : Word) : Word × Bool :=
  r.ok.foldl (fun (a : Word × Bool) f =>
    if f.accepts w.toNat then a
    else (BitVec.ofNat 32 (setBits a.1.toNat f.lo f.len (bitsOf old.toNat f.lo f.len)), true))
    (w &&& BitVec.ofNat 32 r.mask, false)

/-- The magnitude of the signed byte in bits 7 to 0. -/
def byteMag (w : Nat) : Nat := if w % 256 < 128 then w % 256 else 256 - w % 256

/-- Encodings that concern several fields of one register and are reserved as a whole; the write leaves the register
unchanged (R96, R144, R149, R150, R155, R160, R201, R204, R232, R277, R366). -/
def crossBad (page off w : Nat) : Bool :=
  if page = 0x04 then off = 0x44 && decide (w % 256 ≤ bitsOf w 8 8 ∨ bitsOf w 16 8 < w % 256)
  else if page = 0x10 then off = 0x44 && decide (64 < byteMag w + byteMag (w / 256) + byteMag (w / 65536) +
    byteMag (w / 16777216))
  else if page = 0x11 then off = 0x50 && decide (bitsOf w 8 8 * 100 ≤ bitsOf w 16 8 * 50)
  else if page = 0x20 then
    if 0x4C ≤ off ∧ off ≤ 0x58 then decide (64 < bitsOf w 16 6 + bitsOf w 8 5)
    else if off = 0x418 then decide (256 < w % 256 + bitsOf w 8 9) else false
  else if page = 0x2A then (off = 0x418 && decide (64 < w % 64 + bitsOf w 8 7)) ||
    (0x40 ≤ off && off < 0x90 && (w % 16 = 1 || w % 16 = 2) && decide (63 < bitsOf w 8 8))
  else if page = 0x32 then off = 0x68 && decide (w % 65536 % 2 ^ bitsOf w 16 4 ≠ 0)
  else if page = 0x2B then
    if off = 0x48 then !bitOf w 19 && decide (32 < bitsOf w 12 7 ∧ bitsOf w 12 7 ≤ 64)
    else if off = 0x4C then decide (w / 65536 < w % 65536)
    else if off = 0x408 then decide (w / 65536 < w % 65536) else false
  else false

/-- A write that is held to both: the value that stands after it, and whether cause 1 is recorded. -/
def Reg.settle (r : Reg) (old w : Word) : Word × Bool :=
  if crossBad r.page r.off w.toNat || crossBad r.page r.off (r.merge old w).1.toNat then (old, true) else r.merge old w

end Sys2Proof.Machine
end

