-- ==== Sys2Proof/Machine/Rings.lean ====
section
/-! DEFINITION. The PCIe link and the packet rings of the host island (R445, R446, R452 to R456, R461): port 32, punt delivery
and injection. -/

namespace Sys2Proof.Machine

def Dev.setHostSt (d : Dev) (x : HostSt) : Dev := { d with host := x }

/-! ### Port 32 (R446) -/

/-- Whether the module can move data to and from host memory for the rings: the link is up and Bus Master Enable is set.
(DEDUCED, log entry 100) -/
def Dev.pcieReady (d : Dev) : Bool := d.on HOST.LINK_STAT_LINK_UP && d.on HOST.LINK_STAT_BUS_MASTER

/-- PORT32_UP follows the link, Bus Master Enable and the punt rings; the host path goes down and comes up under R344 and
R345. (DEDUCED, log entry 100) -/
def Dev.port32Follow (d : Dev) : Dev :=
  let up := d.pcieReady && (List.range 32).any fun r => d.on HOST.RING_CFG_EN r
  if up = d.on HOST.LINK_STAT_PORT32_UP then d
  else
    let d := d.setFld HOST.LINK_STAT_PORT32_UP (bit up)
    if up then d.carry 32 else d.egressDown 32 false

/-- What the endpoint supports (R445): class code, link generations and widths, and the sizes in bytes that a payload and a read request
may have. The vendor and device IDs are those of the identity data (R469). -/
def pcieClass : Nat := 0x028000
def pcieGens : List Nat := [1, 2, 3, 4]
def pcieWidths : List Nat := [1, 2, 4]
def pciePayloads : List Nat := [128, 256, 512]
def pcieReads : List Nat := [128, 256, 512, 1024, 2048, 4096]
def Dev.pcieIds (d : Dev) : Word := d.otp.ident0

/-- PCIE_LINK (R446, R461): the link's generation and width, whether it is up, and Bus Master Enable.
(DEDUCED, log entry 100) -/
def execPcieLink (gen width : Nat) (up master : Bool) (s : State) : Host.Outcome State Fault Refusal :=
  s.act fun d => d.when (!up || (pcieGens.contains gen && pcieWidths.contains width)) fun d =>
    let was := d.on HOST.LINK_STAT_LINK_UP
    let d := d.setNum HOST.LINK_STAT ((if up then gen + width * 16 else 0) + bit up * 256 + bit master * 512 +
      bit (d.on HOST.LINK_STAT_PORT32_UP) * 1024)
    let d := d.port32Follow
    if was = up then d
    else (if up then d else d.raise HOST.int_LINK_DOWN).log 33 0x6801 (d.num HOST.LINK_STAT)

/-! ### Rings (R452, R456) -/

/-- Host address of the descriptor that a ring serves next. -/
def Dev.ringDesc (d : Dev) (r : Nat) : Nat :=
  d.num2 HOST.RING_BASE_LO HOST.RING_BASE_HI r + 32 * (d.num HOST.RING_DONE r % 2 ^ d.fld HOST.RING_CFG_SIZE r)

/-- Whether a ring can serve a descriptor now. -/
def Dev.ringLive (d : Dev) (r : Nat) : Bool :=
  d.pcieReady && d.on HOST.RING_CFG_EN r && !d.on HOST.RING_STAT_HALTED r && d.ringPosted r

/-- A ring's bit in RING_IRQ is set. -/
def Dev.ringIrq (d : Dev) (r : Nat) : Dev :=
  d.watchVecs (fun e => (e.ringVec r).toList) fun d =>
    if r < 32 then d.setNum HOST.RING_IRQ_LO (d.num HOST.RING_IRQ_LO ||| 1 <<< r)
    else d.setNum HOST.RING_IRQ_HI (d.num HOST.RING_IRQ_HI ||| 1 <<< (r - 32))

/-- A descriptor is completed: DONE advances and is written back, and enough completions since software last cleared the
ring's bit set it (R452, R456). (DEDUCED, log entry 101) -/
def Dev.ringDone (d : Dev) (r : Nat) (moved bad : Bool) : Dev :=
  let d := d.setNum HOST.RING_DONE ((d.num HOST.RING_DONE r + 1) % 65536) r
  let d := d.dmaWrite (d.num2 HOST.RING_WB_LO HOST.RING_WB_HI r) (leBytes 4 (d.num HOST.RING_DONE r))
  let d := if moved then d.bump HOST.RING_FRAMES r else d
  let d := if bad then d.bump HOST.RING_ERR r else d
  let n := d.host.since.get 0 r
  let d := d.setHostSt { d.host with since := d.host.since.set 0 r (n + 1),
                                     first := if n = 0 then d.host.first.set 0 r d.upUs else d.host.first }
  if d.fld HOST.RING_MOD_THRESH r ≤ n + 1 then d.ringIrq r else d

/-- A PCIe error on a ring's request halts it (R452). (DEDUCED, log entry 101) -/
def Dev.ringHalt (d : Dev) (r : Nat) : Dev :=
  (((d.bump HOST.PCIE_ERR).setFld HOST.RING_STAT_HALTED 1 r).raise HOST.int_RING_HALT).log 33 0x6802 r
    (d.num HOST.RING_DONE r % 2 ^ d.fld HOST.RING_CFG_SIZE r)

/-- A write of RING_AVAIL: more descriptors than the ring holds is a reserved encoding. -/
def Dev.availWrite (d : Dev) (path : Nat) (avail done cfgSize : Nat) (r : Reg) (ch : Nat) : Dev :=
  if 2 ^ cfgSize < (avail % 65536 + 65536 - done) % 65536 then d.recErr r.page r.off 1 path
  else d.setNum r (avail % 65536) ch

def Dev.ringAvail (d : Dev) (path r avail : Nat) : Dev :=
  d.availWrite path avail (d.num HOST.RING_DONE r) (d.fld HOST.RING_CFG_SIZE r) HOST.RING_AVAIL r

/-- RING_AVAIL_WRITE (R452). -/
def execRingAvailWrite (path ring avail : Nat) (s : State) : Host.Outcome State Fault Refusal :=
  s.act fun d => d.access 0x68 fun d => d.ringAvail path (ring % 64) avail

/-- Whether a value of RING_CFG gives the ring a size that its posted descriptors exceed; a ring that the value enables starts with none
(R452). -/
def Dev.ringTooSmall (d : Dev) (r w : Nat) : Bool :=
  (d.on HOST.RING_CFG_EN r || w % 2 = 0) &&
    decide (2 ^ bitsOf w HOST.RING_CFG_SIZE.lo HOST.RING_CFG_SIZE.len < (d.num HOST.RING_AVAIL r + 65536 - d.num HOST.RING_DONE r) % 65536)

/-- A write of RING_CFG: on a change of EN from 0 to 1, DONE becomes AVAIL; a SIZE that the posted descriptors exceed is a reserved
encoding. (DEDUCED, log entry 101) -/
def Dev.ringCfgWrite (d : Dev) (path r : Nat) (w : Word) : Dev :=
  let was := d.on HOST.RING_CFG_EN r
  let (v, bad) := HOST.RING_CFG.settle (d.reg HOST.RING_CFG r) w
  let small := d.ringTooSmall r v.toNat
  let v := if small then BitVec.ofNat 32 (setBits v.toNat HOST.RING_CFG_SIZE.lo HOST.RING_CFG_SIZE.len (d.fld HOST.RING_CFG_SIZE r)) else v
  let d := if bad || small then d.recErr 0x68 0x40 1 path else d
  let d := d.watchVecs (fun e => (e.ringVec r).toList) fun d => d.setReg HOST.RING_CFG v r
  let d := if !was && d.on HOST.RING_CFG_EN r then d.setNum HOST.RING_DONE (d.num HOST.RING_AVAIL r) r else d
  d.port32Follow

/-- RING_ENABLE (R452): a write of EN that leaves the ring's other fields. -/
def execRingEnable (path ring : Nat) (en : Bool) (s : State) : Host.Outcome State Fault Refusal :=
  s.act fun d => d.access 0x68 fun d =>
    d.ringCfgWrite path (ring % 64) (BitVec.ofNat 32 (setBits (d.num HOST.RING_CFG (ring % 64)) 0 1 (bit en)))

/-- RING_CTRL.RESTART: a halted ring resumes at the descriptor that failed. (DEDUCED, log entry 101) -/
def Dev.ringRestart (d : Dev) (r : Nat) : Dev := d.setFld HOST.RING_STAT_HALTED 0 r

/-- RING_RESTART (R452). -/
def execRingRestart (ring : Nat) (s : State) : Host.Outcome State Fault Refusal :=
  s.act fun d => d.access 0x68 fun d => d.ringRestart (ring % 64)

/-- RING_IRQ_HOLDOFF (R456). -/
def execRingIrqHoldoff (ring : Nat) (s : State) : Host.Outcome State Fault Refusal :=
  s.act fun d =>
    let r := ring % 64
    d.when (decide (d.host.since.get 0 r ≠ 0) &&
      decide (d.host.first.get 0 r + d.fld HOST.RING_MOD_HOLDOFF r ≤ d.upUs)) fun d => d.ringIrq r

/-- Software writes RING_IRQ: completions of the rings it clears count afresh, and every vector that a ring names, or that the page is
routed to, sends a message again while its OR stays 1 (R75, R456). -/
def Dev.ringIrqClear (d : Dev) (hi : Bool) (w : Nat) : Dev :=
  let reg := if hi then HOST.RING_IRQ_HI else HOST.RING_IRQ_LO
  let rings := (List.range 32).filterMap fun i => if bitOf w i then some (i + bit hi * 32) else none
  let d := d.setNum reg (d.num reg &&& (0xFFFFFFFF ^^^ w))
  let d := rings.foldl (fun d r => d.setHostSt { d.host with since := d.host.since.set 0 r 0, first := d.host.first.set 0 r 0 }) d
  d.further ((List.range 64).filterMap d.ringVec ++ (d.vecOf 0x68).toList)

/-! ### Punt (R453, R454) -/

/-- Bytes 10 to 31 of a punt descriptor. (DEDUCED, log entries 72, 102) -/
def Dev.puntBytes (d : Dev) (f : Frame) (cls : Nat) (trunc : Bool) : List Byte :=
  let ing := if f.ingress < 34 then f.ingress else d.freeVal.toNat
  let ts := decide (f.ingress < 34) && d.on PTPS.PTP_CFG_RX_TS f.ingress
  let slot := if f.ctx.asked then f.ctx.home % 2 ^ 27 else d.freeVal.toNat % 2 ^ 27
  leBytes 2 f.bytes.length ++ leBytes 1 ing ++ leBytes 1 (if f.code = 0 then 9 else f.code) ++ leBytes 1 (f.ctx.exc % 8) ++
    leBytes 1 (bit ts + bit trunc * 2 + bit f.edited * 4 + bit f.ctx.asked * 8 + cls % 8 * 16) ++
    leBytes 8 (stampOf f.stamp).toNat ++ leBytes 2 f.epoch ++ leBytes 2 (f.ctx.domain % 4096) ++ leBytes 4 slot

/-- A staged copy of port 32 leaves for its ring: the frame data, the descriptor and DONE are written. -/
def Dev.puntCopy (d : Dev) (t : Tx) (f : Frame) (r : Nat) : Dev :=
  let a := d.ringDesc r
  let buf := leNat (d.dmaRead a 8)
  let len := leNat (d.dmaRead (a + 8) 2)
  let trunc := decide (len < f.bytes.length)
  let d := d.dmaWrite buf (f.bytes.take len)
  let d := (d.dmaWrite (a + 10) (d.puntBytes f t.copy.cls trunc)).freed
  let d := d.setStaged 32 (replaceTx (d.stagedOf 32) t none)
  let d := d.statGood 32 32 (f.bytes.length + 4) f.bytes
  (d.ringDone r true trunc).finishCopy t.copy.desc 0

/-- The copy that the host path delivers next: the first staged one whose ring has a descriptor. -/
def Dev.nextPunt (d : Dev) : Option (Tx × Frame × Nat) :=
  (d.stagedOf 32).findSome? fun t => match d.frame t.copy.desc with
    | some f =>
      let r := d.puntRing t.copy.cls f.ingress
      if d.ringLive r && d.gateAllows 32 t.copy.cls f.len then some (t, f, r) else none
    | none => none

/-- A punt is delivered, fails its read (R347), or meets a PCIe error. (DEDUCED, log entry 101) -/
def Dev.puntDeliver (d : Dev) (failed : Option ReadFail) (pcieErr : Bool) : Dev :=
  match d.nextPunt with
  | none => d
  | some (t, f, r) =>
    match d.readError t.copy.desc failed with
    | (d, some _) =>
      (d.setStaged 32 (replaceTx (d.stagedOf 32) t none)).readErr 32 t.copy.desc
    | (d, none) => if pcieErr then d.ringHalt r else (d.puntCopy t f r).pruneDeficits 32

/-- PUNT_DELIVERY (R453): `failed` as for the line ports, `pcieErr` a PCIe error on a request of the descriptor. -/
def execPuntDelivery (failed : Option ReadFail) (pcieErr : Bool) (s : State) : Host.Outcome State Fault Refusal :=
  s.act fun d => d.when (d.portUp 32) fun d => d.puntDeliver failed pcieErr

/-! ### Inject (R455) -/

/-- The inject ring that is served next, round robin from `turn`. -/
def Dev.nextInject (d : Dev) : Option Nat :=
  ((List.range 32).map fun i => 32 + (d.host.turn + i) % 32).find? d.ringLive

/-- What an inject descriptor asks for. -/
structure InjectDesc where
  buf : Nat
  len : Nat
  port : Nat
  viaPipe : Bool
  pipe : Nat
  tsReq : Bool
  subEn : Bool
  cls : Nat
  tag : Nat
  sub : Nat
  deriving DecidableEq, Repr

/-- An inject descriptor read from host memory. (DEDUCED, log entry 102) -/
def Dev.readInject (d : Dev) (a : Nat) : InjectDesc :=
  let b := fun (i n : Nat) => leNat (d.dmaRead (a + i) n)
  { buf := b 0 8, len := b 8 2, port := b 10 1, viaPipe := bitOf (b 11 1) 0, pipe := bitsOf (b 11 1) 1 2, tsReq := bitOf (b 11 1) 3,
    subEn := bitOf (b 11 1) 4, cls := bitsOf (b 11 1) 5 3, tag := b 12 2, sub := b 14 2 % 32768 }

/-- The STATUS that a descriptor earns before its frame is admitted: 0 when nothing is wrong with it.
(DEDUCED, log entry 101) -/
def Dev.injectStatus (d : Dev) (x : InjectDesc) : Nat :=
  if x.len < 14 ∨ 10236 < x.len then 1
  else if !x.viaPipe && (decide (33 < x.port) || x.port = 32 || (decide (x.port < 32) && d.mode x.port = 0)) then 2
  else 0

/-- The frame of a descriptor is admitted as requester 32: to a port, or to a pipeline as ingress port 32; it waits while
none can be. (DEDUCED, log entry 102) -/
def Dev.injectFrame (d : Dev) (x : InjectDesc) (pick : List Nat) : Option Dev :=
  let bs := d.dmaRead x.buf x.len
  (d.madeFrame 32 (if x.viaPipe then 34 else x.port) x.cls bs pick fun f =>
    { f with stamp := d.islandNs 33, subEn := if x.subEn then some x.sub else none,
             stampTag := if x.tsReq && !x.viaPipe && decide (x.port < 32) then some x.tag else none,
             tagPri := d.tagPri 32 bs }).map fun (e : Dev × Option Nat) =>
    match e.2 with
    | none => e.1
    | some k =>
      let d := e.1.statGood 32 0 (max 64 (x.len + 4)) bs
      if x.viaPipe then (d.updFrame k fun f => { f with stage := .offered }).offerHead k x.pipe else d

/-- A descriptor of an inject ring is served. (DEDUCED, log entry 102) -/
def Dev.inject (d : Dev) (pcieErr : Bool) (pick : List Nat) : Dev :=
  match d.nextInject with
  | none => d
  | some r =>
    if d.inEpisode 32 0 || d.spore.stopped then d else
    let a := d.ringDesc r
    let status := fun (d : Dev) (n : Nat) => d.dmaWrite (a + 24) (leBytes 1 n)
    let turn := fun (d : Dev) => d.setHostSt { d.host with turn := (r - 32 + 1) % 32 }
    if pcieErr then turn ((status d 3).ringHalt r) else
    let x := d.readInject a
    match d.injectStatus x with
    | 0 => match d.injectFrame x pick with
      | some d => turn ((status d 0).ringDone r true false)
      | none => d
    | n => turn ((status d n).ringDone r false true)

/-- INJECT (R455): `pick` names the units that the allocators pick. -/
def execInject (pcieErr : Bool) (pick : List Nat) (s : State) : Host.Outcome State Fault Refusal :=
  s.act fun d => d.inject pcieErr pick

/-! ### Resets of the host island (R446) -/

/-- The registers whose keys do not satisfy `p` return to their reset values. (DEDUCED, log entry 100) -/
def Dev.keepRegs (d : Dev) (p : Nat → Bool) : Dev := { d with regs := d.regs.filter fun x => p x.1 }

/-- Whether a register is one that PERST_N and a function-level reset return to its reset value: the window of the HOST page,
the table DMA, the rings' IRQ bits, and the PCIe copy of the mailbox. -/
def hostResetKey (k : Nat) : Bool :=
  let off := keyOff k
  keyPage k = 0x68 &&
  (decide (0x40 ≤ off ∧ off < 0x400) || decide (0x414 ≤ off ∧ off ≤ 0x428) || off = 0x4A0 || off = 0x4A4 ||
    ((decide (0x500 ≤ off ∧ off < 0x700) || off = 0x704) && k / 65536 % 2 = 0))

/-- The host island resets: what it does beside forwarding goes on. (DEDUCED, log entry 100) -/
def Dev.hostReset (d : Dev) : Dev :=
  let d := d.keepRegs fun k => !hostResetKey k
  let d := d.setHostSt { d.host with since := [], first := [], turn := 0, tdmaDir := false, bells := d.host.bells.filter (· ≠ 0) }
  d.port32Follow

/-- FLR (R446, R461). -/
def execFlr (s : State) : Host.Outcome State Fault Refusal :=
  s.act fun d => ((d.hostReset).raise HOST.int_FLR).log 33 0x6803

/-- PERST_N (R446). -/
def execPerstN (s : State) : Host.Outcome State Fault Refusal := s.act Dev.hostReset

end Sys2Proof.Machine
end

