-- ==== Sys2Proof/Machine/Bar2.lean ====
section
/-! DEFINITION. BAR2 and the table DMA (R447 to R451): the windows onto the tables and flow memory. -/

namespace Sys2Proof.Machine

/-! ### Bytes of entries -/

/-- `n` open bytes. -/
def Dev.freeBytes (d : Dev) (n : Nat) : Dev × List Byte :=
  ((List.range n).foldl (fun (e : Dev) _ => e.freed) d,
   (List.range n).map fun i => (Config.free (d.frees + i)).setWidth 8)

/-- Guard words as BAR2 shows them: 112 payload bits in bytes 0 to 13, bytes 14 and 15 reading 0 (R448).
(DEDUCED, log entry 104) -/
def guardBytes (words v : Nat) : List Byte :=
  (List.range words).flatMap fun k => leBytes 14 (bitsOf v (112 * k) 112) ++ [0, 0]

/-- The payload of one guard word of 16 bytes. (DEDUCED, log entry 104) -/
def guardVal (bs : List Byte) : Nat := leNat (bs.take 14)

/-! ### The windows (R447) -/

/-- What a window shows. -/
inductive Win where
  | hosts | lock | doms | hops | units | rules | edits | samples | slots | raw
  deriving DecidableEq, Repr

/-- A window: where it begins, its size, and the size of its entries. -/
structure WinAt where
  win : Win
  base : Nat
  size : Nat
  entry : Nat
  deriving DecidableEq, Repr

/-- The layout of BAR2. -/
def windows : List WinAt :=
  [⟨.hosts, 0x00000000, 0x00400000, 16⟩, ⟨.lock, 0x00400000, 0x00400000, 16⟩, ⟨.doms, 0x00800000, 0x00010000, 16⟩,
   ⟨.hops, 0x00810000, 0x00040000, 16⟩, ⟨.units, 0x00C00000, 0x00200000, 16⟩, ⟨.rules, 0x01000000, 0x00800000, 128⟩,
   ⟨.edits, 0x01800000, 0x00080000, 128⟩, ⟨.samples, 0x02000000, 0x00800000, 32⟩, ⟨.slots, 0x04000000, 0x08000000, 64⟩,
   ⟨.raw, 0x0C000000, 0x04000000, 16⟩]

/-- The window at an offset. -/
def winAt (off : Nat) : Option WinAt := windows.find? fun w => decide (w.base ≤ off ∧ off < w.base + w.size)

/-- BAR2 answers once the module is ready, but not in SPORE. (DEDUCED, log entry 103) -/
def Dev.bar2Open (d : Dev) : Bool := d.on TOP.BOOT_STATUS_READY && d.pageOpen 0x68

/-- A refused access (R448, R461). (DEDUCED, log entry 103) -/
def Dev.bar2Refuse (d : Dev) (off cause : Nat) : Dev :=
  let w := off % 2 ^ 28 + cause * 2 ^ 28 + 2 ^ 31
  (((d.bump HOST.BAR2_REFUSED).setNum HOST.BAR2_LAST w).raise HOST.int_BAR2_REFUSED).log 33 0x6804 w

/-! ### Reads -/

/-- A host-table entry of the pipeline that reads return (R449). -/
def Dev.winPipe (d : Dev) : Nat := d.fld FWDT.WIN_MASK_WIN_PIPE

/-- A slot as the slot window returns it: through its merger, with its cached value when it is open (R222, R450).
(DEDUCED, log entry 104) -/
def Dev.slotShow (d : Dev) (s : Nat) (ue : Option BadWord) : Dev × List Byte :=
  if 2 * d.altMask ≤ s then d.freeBytes 64 else
  if (d.flow.opened.get none s).isSome then (d, guardBytes 4 (d.slotAt false s)) else
  let (d, _) := (d.slotRead s).slotError false s ue false
  (d, guardBytes 4 (d.slotAt false s))

/-- The spilled task whose record lies at an address of a channel (R267, R386). -/
def Dev.taskHere (d : Dev) (m a : Nat) : Option Task :=
  if 48 ≤ m ∨ a < 0x1C000000 ∨ 0x1CAAAB00 ≤ a then none else
  let n := (a - 0x1C000000) / 128 * 6 + m % 6
  (d.ringOf (m / 6) (n / 131072)).find? fun t => t.pos = some n

/-- The payload bytes that a block of packet memory holds of a frame (R329): those of a block that has been written, of a frame whose
head no edit has replaced. (DEDUCED, log entry 104) -/
def Dev.blockBytes (d : Dev) (b : Nat) : List Byte :=
  if d.sw.spillq.any fun x => x.1 = b then [] else
  (d.sw.frames.findSome? fun p => match p.2 with
    | some f =>
      let before := (d.chainOf chainFuel f.fpool f.first).takeWhile (· ≠ linkKey 1 b)
      if f.edited || !(d.chainOf chainFuel f.fpool f.first).contains (linkKey 1 b) then none
      else some ((f.bytes.drop (before.map fun u => if u / 2 ^ 22 = 1 then 1792 else 224).sum).take 1792)
    | none => none).getD []

/-- The payload that is known of the word at an address of a channel: of a slot, in either region, of a spilled task's record, or of a
block. (DEDUCED, log entry 104) -/
def Dev.rawKnown (d : Dev) (m a : Nat) : List Byte :=
  if 48 ≤ m then ((d.blockBytes (a / 2048 * 16 + m - 48)).drop (14 * (a % 2048 / 16))).take 14 else
  match d.slotIn d.flow.region m a, d.slotIn (1 - d.flow.region) m a, d.taskHere m a with
  | some s, _, _ => leBytes 14 (bitsOf (d.memSlot d.flow.region s) (112 * (a % 64 / 16)) 112)
  | none, some s, _ => leBytes 14 (bitsOf (d.memSlot (1 - d.flow.region) s) (112 * (a % 64 / 16)) 112)
  | none, none, some t => leBytes 14 (bitsOf t.payload (112 * (a % 128 / 16)) 112)
  | none, none, none => []

/-- A stored word of flow or packet memory with its check bits (R388, R450): the payload that is known, all else open. It is a read of
its channel (R391). (DEDUCED, log entry 104) -/
def Dev.rawShow (d : Dev) (off : Nat) : Dev × List Byte :=
  let m := d.fld HOST.RAW_CFG_CHANNEL
  let a := d.fld HOST.RAW_CFG_SEG * 0x4000000 + off
  let (e, bs) := d.freeBytes 16
  (e.rowFetch m a 1, d.rawKnown m a ++ bs.drop (d.rawKnown m a).length)

/-- An entry of a window is read: entry `i`, where `ue` names a word of a slot that reads with errors. -/
def Dev.winRead (d : Dev) (w : WinAt) (i : Nat) (ue : Option BadWord) : Dev × List Byte :=
  match w.win with
  | .hosts => (d, guardBytes 1 (d.hostAt (d.winPipe * 262144 + i)))
  | .lock =>
    let k := d.winPipe * 262144 + i
    (d.setHost k (setBits (d.hostAt k) 80 1 1), guardBytes 1 (d.hostAt k))
  | .doms => (d, guardBytes 1 (d.domAt d.winPipe i))
  | .hops => (d, guardBytes 1 (d.hopAt d.winPipe i))
  | .units => (d, guardBytes 1 (d.unitAt d.winPipe i % 2 ^ 72))
  | .rules => (d, leBytes 128 (d.ruleMem (d.fld CLSF.WR_MASK_RD_PIPE) i))
  | .edits => (d, (List.range 32).flatMap fun k =>
      leBytes 4 (d.look.edits.get 0 ((d.fld CLSF.WR_MASK_RD_PIPE * 4096 + i) * 32 + k)))
  | .samples => (d, guardBytes 2 (match d.sw.samples.get none i with | some x => x.bits.toNat | none => 0))
  | .slots => d.slotShow (d.num HOST.APER_SLOT + i) ue
  | .raw => d.rawShow (16 * i)

/-- A read of the entry at an offset, or its refusal: unmapped offsets read 0, the raw window is closed once SEAL is blown. -/
def Dev.bar2Read (d : Dev) (off : Nat) (ue : Option BadWord) : Dev × Option (List Byte) :=
  match winAt off with
  | none => (d, some (List.replicate 16 0))
  | some w =>
    if w.win = .raw ∧ d.otp.sealed then (d.bar2Refuse off 5, none)
    else let (d, bs) := d.winRead w ((off - w.base) / w.entry) ue
         (d, some bs)

/-- What a read gives to its reader. -/
def Dev.bar2Give (d : Dev) (off : Nat) (ue : Option BadWord) : Dev :=
  if !d.bar2Open then d else
  match d.bar2Read off ue with
  | (d, some bs) => d.emit (.bytes bs)
  | (d, none) => d

/-! ### Writes -/

/-- The pipelines that writes through the forwarding tables' windows reach. -/
def Dev.winMask (d : Dev) : Nat := d.num FWDT.WIN_MASK % 16

/-- The other half of an IPv6 host route in the bucket of an index: its key, where an entry of the other half's type and of
the same VRF lies there. -/
def Dev.otherHalves (d : Dev) (pipe index e : Nat) : List Nat :=
  ((hostWays pipe (index / 8)).map d.hostAt).filterMap fun x =>
    if hostType x = 7 - hostType e ∧ bitsOf x 64 12 = bitsOf e 64 12 then some (x % 2 ^ 64) else none

/-- Whether an entry hashes to the bucket of an index (R184). The bucket of an IPv6 host route hangs on both of its halves:
of a half that stands alone the spec gives no answer. (DEDUCED, log entry 103) -/
def Dev.wellPlaced (d : Dev) (pipe index e : Nat) : Bool :=
  let b := index / 8
  let dom := bitsOf e 64 12
  let ty := hostType e
  if ty = 0 then true
  else if ty = 1 ∨ ty = 2 then d.hostBucket ty dom (keyOf ty (e % 2 ^ 64)) = b
  else match d.otherHalves pipe index e with
    | [] => d.freeVal.getLsbD 0
    | l => l.any fun o =>
        d.hostBucket 3 dom (if ty = 3 then e % 2 ^ 64 * 2 ^ 64 + o else o * 2 ^ 64 + e % 2 ^ 64) = b

/-- A host-table entry with reserved bits 0 and reserved encodings left as `old` has them (R6, R173); whether there was one.
(DEDUCED, log entry 103) -/
def hostSettle (old e : Nat) : Nat × Bool :=
  let e := setBits e 111 1 0
  let (e, b1) := if 4 < hostType e then (setBits e 76 3 (hostType old), true) else (e, false)
  let (e, b2) := if hostAct e = 3 then (setBits e 81 2 (hostAct old), true) else (e, false)
  let (e, b3) := if hostType e = 1 ∧ 33 < bitsOf e 83 6 then (setBits e 83 16 (hostResult old), true) else (e, false)
  let e := setBits e 83 16 (if hostType e = 1 then bitsOf e 83 6 else bitsOf e 83 14)
  let e := if hostType e = 1 then setBits e 48 16 0 else if hostType e = 2 then setBits e 32 32 0 else e
  (e, b1 || b2 || b3)

/-- A reserved encoding in a table entry is recorded on the page of its block. (DEDUCED, log entry 103) -/
def Dev.tableErr (d : Dev) (page off : Nat) (bad : Bool) : Dev := if bad then d.recErr page off 1 0 else d

/-- An entry of the host table is written: a key in the wrong bucket is refused and counted (R184, R448).
(DEDUCED, log entry 103) -/
def Dev.writeHost (d : Dev) (off i e : Nat) : Dev × Option Nat :=
  let mask := d.winMask
  let low := lowPipe mask
  let (e, bad) := hostSettle (d.hostAt (low * 262144 + i)) e
  let ok := d.wellPlaced low i e
  let d := (d.freed).tableErr 0x28 off bad
  if ok then (d.each 4 fun d p => if bitOf mask p then d.setHost (p * 262144 + i) e else d, none)
  else (d.each 4 fun d p => if bitOf mask p then d.fwdCnt p 12 else d, some 6)

def Dev.setDom (d : Dev) (p i e : Nat) : Dev :=
  { d with look := { d.look with doms := d.look.doms.set 0 (p * 4096 + i % 4096) e } }
def Dev.setHop (d : Dev) (p i e : Nat) : Dev :=
  { d with look := { d.look with hops := d.look.hops.set 0 (p * 16384 + i % 16384) e } }

/-- A domain entry and a next hop are written, with reserved bits 0; a next hop's PORT above 33 keeps the old port.
(DEDUCED, log entry 103) -/
def Dev.writeDom (d : Dev) (i e : Nat) : Dev :=
  d.each 4 fun d p => if bitOf d.winMask p then d.setDom p i (e % 2 ^ 48) else d
def Dev.writeHop (d : Dev) (off i e : Nat) : Dev :=
  let e := e % 2 ^ 59
  let bad := decide (33 < hopPort e)
  (d.each 4 fun d p => if bitOf d.winMask p then
    d.setHop p i (if bad then setBits e 48 6 (hopPort (d.hopAt p i)) else e) else d).tableErr 0x28 off bad

/-- A rule is written while every pipeline of WR_MASK is paused, or by the configuration loader (R45, R201).
(DEDUCED, log entry 43) -/
def Dev.writeRule (d : Dev) (boot : Bool) (off i r : Nat) : Dev × Option Nat :=
  let mask := d.num CLSF.WR_MASK % 16
  if !boot && !d.pausedFor mask then (d.recErr 0x2A off 4 0, some 7)
  else if !ruleOk r then (d.tableErr 0x2A off true, none)
  else (d.each 4 fun d p => if bitOf mask p then d.setRule p i (ruleClean r) else d, none)

def Dev.setEdit (d : Dev) (k v : Nat) : Dev := { d with look := { d.look with edits := d.look.edits.set 0 k v } }

/-- The bits of word `k` of an edit-list entry that are not reserved (R167). -/
def editMask (k : Nat) : Nat := if k = 0 then 0x7F0F else if k < 9 then 0x0FFFFFFF else 0xFFFFFFFF

/-- An edit-list entry is written word by word; its bytes 100 to 127 are reserved (R198). (DEDUCED, log entry 103) -/
def Dev.writeEdit (d : Dev) (i : Nat) (bs : List Byte) : Dev :=
  d.each 4 fun d p => if bitOf (d.num CLSF.WR_MASK) p then
    d.each 25 fun d k => d.setEdit ((p * 4096 + i % 4096) * 32 + k) (leNat ((bs.drop (4 * k)).take 4) &&& editMask k)
  else d

/-- A whole entry is written to a window, or refused with a cause of R448. The configuration loader writes prefix units by a
path of its own. -/
def Dev.winWrite (d : Dev) (boot : Bool) (w : WinAt) (off : Nat) (bs : List Byte) : Dev × Option Nat :=
  let i := (off - w.base) / w.entry
  match w.win with
  | .hosts => d.writeHost off i (guardVal bs)
  | .doms => (d.writeDom i (guardVal bs), none)
  | .hops => (d.writeHop off i (guardVal bs), none)
  | .rules => d.writeRule boot off i (leNat bs)
  | .edits => (d.writeEdit i bs, none)
  | .slots => (d, some 4)
  | .raw => (d, some (if d.otp.sealed then 5 else 3))
  | _ => (d, some 3)

/-- One entry of a write: applied, or refused. -/
def Dev.bar2Put (d : Dev) (boot : Bool) (off : Nat) (bs : List Byte) : Dev × Bool :=
  match winAt off with
  | none => (d.bar2Refuse off 1, false)
  | some w =>
    if (off - w.base) % w.entry ≠ 0 ∨ bs.length ≠ w.entry then (d.bar2Refuse off 2, false)
    else match d.winWrite boot w off bs with
      | (d, none) => (d, true)
      | (d, some c) => (d.bar2Refuse off c, false)

/-- The entries of one write, one after another. (DEDUCED, log entry 103) -/
def Dev.bar2Entries (fuel : Nat) (d : Dev) (entry off : Nat) (bs : List Byte) : Dev :=
  match fuel with
  | 0 => d
  | n + 1 =>
    if bs = [] then d
    else Dev.bar2Entries n (d.bar2Put false off (bs.take entry)).1 entry (off + entry) (bs.drop entry)

/-- A write of one TLP: whole, aligned entries, or nothing. -/
def Dev.bar2Write (d : Dev) (off : Nat) (bs : List Byte) : Dev :=
  if !d.bar2Open then d else
  match winAt off with
  | none => d.bar2Refuse off 1
  | some w =>
    if (off - w.base) % w.entry ≠ 0 ∨ bs.length % w.entry ≠ 0 ∨ bs = [] then
      match w.win with
      | .slots => d.bar2Refuse off 4
      | .raw => d.bar2Refuse off (if d.otp.sealed then 5 else 3)
      | _ => d.bar2Refuse off 2
    else Dev.bar2Entries (bs.length / w.entry) d w.entry off bs

/-- BAR2_READ (R448). -/
def execBar2Read (off : Nat) (ue : Option BadWord) (s : State) : Host.Outcome State Fault Refusal :=
  s.act fun d => d.bar2Give (off % 2 ^ 28) ue

/-- BAR2_WRITE (R448). -/
def execBar2Write (off : Nat) (bs : List Byte) (s : State) : Host.Outcome State Fault Refusal :=
  s.act fun d => d.bar2Write (off % 2 ^ 28) bs

/-- HOST_TABLE_READ_LOCK (R449): the entry at an index, through the alias. -/
def execHostTableReadLock (index : Nat) (s : State) : Host.Outcome State Fault Refusal :=
  s.act fun d => d.bar2Give (0x00400000 + 16 * (index % 262144)) none

/-- SLOT_WINDOW_READ (R450): an offset of the slot window. -/
def execSlotWindowRead (off : Nat) (ue : Option BadWord) (s : State) : Host.Outcome State Fault Refusal :=
  s.act fun d => d.bar2Give (0x04000000 + off % 0x08000000) ue

/-- RAW_WINDOW_READ (R450): an offset of the raw window. -/
def execRawWindowRead (off : Nat) (s : State) : Host.Outcome State Fault Refusal :=
  s.act fun d => d.bar2Give (0x0C000000 + off % 0x04000000) none

/-! ### Table DMA (R451) -/

/-- The entries of a table DMA, and the size of one: none where the offset lies in no window. -/
def Dev.tdmaEntry (d : Dev) : Option WinAt := winAt (d.num HOST.TDMA_BAR2)
def Dev.tdmaCount (d : Dev) : Nat :=
  match d.tdmaEntry with | some w => (d.num HOST.TDMA_LEN + w.entry - 1) / w.entry | none => 1

/-- One entry of a table DMA, which lies within the window where the copy begins. (DEDUCED, log entry 105) -/
def Dev.tdmaStep (d : Dev) (i : Nat) : Dev × Bool :=
  let base := d.num HOST.TDMA_BAR2
  match d.tdmaEntry with
  | none => (d.bar2Refuse base 1, false)
  | some w =>
    let off := base + w.entry * i
    let host := d.num2 HOST.TDMA_HOST_LO HOST.TDMA_HOST_HI + w.entry * i
    if w.base + w.size ≤ off then (d.bar2Refuse off 1, false)
    else if (base - w.base) % w.entry ≠ 0 ∨ d.num HOST.TDMA_LEN < w.entry * (i + 1) then (d.bar2Refuse off 2, false)
    else if d.host.tdmaDir then
      match d.bar2Read off none with
      | (d, some bs) => (d.dmaWrite host bs, true)
      | (d, none) => (d, false)
    else d.bar2Put false off (d.dmaRead host w.entry)

/-- Entries of a table DMA from number `i`, at most `n` of them, until one is refused: how many are done.
(DEDUCED, log entry 105) -/
def Dev.tdmaMove (n : Nat) (d : Dev) (i : Nat) : Dev × Nat × Bool :=
  match n with
  | 0 => (d, i, true)
  | m + 1 =>
    match d.tdmaStep i with
    | (d, true) => Dev.tdmaMove m d (i + 1)
    | (d, false) => (d, i, false)

/-- TDMA_CTRL.GO. (DEDUCED, log entry 105) -/
def Dev.tdmaGo (d : Dev) (dir : Bool) : Dev :=
  if d.opState HOST.TDMA_STAT = 1 then d
  else (d.setHostSt { d.host with tdmaDir := dir }).startOp HOST.TDMA_STAT

/-- TDMA_GO (R451). -/
def execTdmaGo (dir : Bool) (s : State) : Host.Outcome State Fault Refusal :=
  s.act fun d => d.access 0x68 fun d => d.tdmaGo dir

/-- A table DMA has ended FAILED. -/
def Dev.tdmaFail (d : Dev) (n : Nat) : Dev := (d.endOp HOST.TDMA_STAT 0 4 n).raise HOST.int_TDMA_FAIL

/-- TDMA_CTRL.ABORT: `done` entries have been moved, whole. -/
def Dev.tdmaAbort (d : Dev) (done : Nat) : Dev :=
  if d.opState HOST.TDMA_STAT ≠ 1 then d.abortOp HOST.TDMA_STAT 0 id else
  match Dev.tdmaMove (min done (d.tdmaCount - 1)) d 0 with
  | (d, n, true) => d.abortOp HOST.TDMA_STAT 0 fun d => d.setNum HOST.TDMA_STAT (statusWord 3 0 n)
  | (d, n, false) => d.tdmaFail n

/-- TDMA_ABORT (R451). -/
def execTdmaAbort (done : Nat) (s : State) : Host.Outcome State Fault Refusal :=
  s.act fun d => d.access 0x68 fun d => d.tdmaAbort done

/-- A table DMA ends: its last entry is moved, one is refused, or a PCIe error ends it after `done` entries.
(DEDUCED, log entry 105) -/
def Dev.tdmaEnd (d : Dev) (pcieErr : Bool) (done : Nat) : Dev :=
  if d.opState HOST.TDMA_STAT ≠ 1 then d else
  match Dev.tdmaMove (if pcieErr then min done (d.tdmaCount - 1) else d.tdmaCount) d 0 with
  | (d, n, true) =>
    if pcieErr then (d.bump HOST.PCIE_ERR).tdmaFail n
    else (d.endOp HOST.TDMA_STAT 0 2 n).raise HOST.int_TDMA_DONE
  | (d, n, false) => d.tdmaFail n

/-- TDMA_DONE (R451). -/
def execTdmaDone (pcieErr : Bool) (done : Nat) (s : State) : Host.Outcome State Fault Refusal :=
  s.act fun d => d.tdmaEnd pcieErr done

/-- A write of TDMA_CTRL; `done` as for an abort. (DEDUCED, log entry 105) -/
def Dev.tdmaWrite (d : Dev) (w : Word) (done : Nat) : Dev :=
  let d := if w.getLsbD 2 then d.tdmaAbort done else d
  if w.getLsbD 0 then d.tdmaGo (w.getLsbD 1) else d

end Sys2Proof.Machine
end

