-- ==== Sys2Proof/Machine/Tandem.lean ====
section
/-! DEFINITION. Tandem operation (20_tandem): the link's part in the state machine, heartbeats and agreement, the transfer of
the hash keys, messages from the peer and their conflicts, age queries and the resynchronisation. -/

namespace Sys2Proof.Machine

/-! ### Heartbeats (R409) -/

/-- A heartbeat as it leaves now, without FCS. -/
def Dev.heartbeat (d : Dev) : List Byte :=
  let echo := d.tandem.echo.getD (0, 0)
  d.tandemFrame 1 (leBytes 1 1 ++ leBytes 1 (d.tandemId % 2 + d.tState * 2) ++ leBytes 1 0 ++
    leBytes 2 (d.num (COMMIT 0)) ++ leBytes 4 d.tandem.check ++ leBytes 4 (d.num FENG.UCODE_VER) ++ leBytes 4 d.keyTag ++
    leBytes 4 d.flowOcc ++ leBytes 8 (d.stamp 8).toNat ++ leBytes 8 echo.1 ++ leBytes 8 echo.2)

/-- A heartbeat is sent. -/
def Dev.sendHb (d : Dev) : Dev :=
  let bs := d.heartbeat
  (d.setTandem { d.tandem with sentHb := d.clk.up, ownOcc := d.flowOcc }).tandemSend bs

/-- HB_PERIOD in 0.1 ns. -/
def Dev.hbPeriod (d : Dev) : Nat := d.fld TNDM.HB_CFG_HB_PERIOD * 1000000000

/-- HEARTBEAT_SEND (R409). -/
def execHeartbeatSend (s : State) : Host.Outcome State Fault Refusal :=
  s.run fun d => d.when (d.enabled 0x58 && decide (d.portState 33 = 5) && decide (d.tandem.sentHb + d.hbPeriod ≤ d.clk.up))
    fun d => d.sendHb.replFlush

/-! ### The link in the state machine (R407, R412) -/

/-- The state machine follows CTRL.ENABLE and the state of the tandem link: OFF while disabled, LINK_WAIT while the link is not
UP, and HELLO, with a first heartbeat, when it reaches UP. (DEDUCED, log entry 96) -/
def Dev.tandemFollow (d : Dev) : Dev :=
  let up := decide (d.portState 33 = 5)
  let d := d.setFld TNDM.STATE_LINK_UP (bit up)
  if !d.enabled 0x58 then d.tandemTo 0 0
  else
    let d := if d.tState = 0 then d.tandemTo 1 0 else d
    if d.tState = 1 then
      if up then
        ((d.setTandem { d.tandem with echo := none, lastHb := d.clk.up, missed := 0 }).tandemTo 2 0).sendHb
      else d
    else if up then d else d.tandemTo 1 4

/-- LINK_DOWN (R142): conditions by cause number, and the lanes that lost their signal or lock. -/
def execLinkDown (port conds : Nat) (lanes : List Nat) (s : State) : Host.Outcome State Fault Refusal :=
  s.act fun d => d.when (decide (port < 32 ∨ port = 33)) fun d => (d.linkLost port conds lanes).tandemFollow

/-- LINK_UP (R143). -/
def execLinkUp (port : Nat) (s : State) : Host.Outcome State Fault Refusal :=
  s.run fun d => d.when (decide (port < 32 ∨ port = 33)) fun d => (d.upHoldEnd port).tandemFollow

/-! ### Agreement (R410 to R412) -/

/-- A little-endian field of a heartbeat. -/
def hbField (bs : List Byte) (i n : Nat) : Nat := leNat ((bs.drop i).take n)

/-- A difference of stamps in ns, within half of their range of 2^34 s. (DEDUCED, log entry 93) -/
def stampDiff (x y : Nat) : Int :=
  let m : Int := 2 ^ 34 * 1000000000
  let t : Int := ((nsOfStamp x : Nat) - (nsOfStamp y : Nat)) % m
  if t < m / 2 then t else t - m

/-- Twice θ in ns: from the heartbeat's echo, its t_tx and the ingress stamp (R410); none where the echo fields are 0.
(DEDUCED, log entry 93) -/
def hbTheta2 (bs : List Byte) (ingress : Nat) : Option Int :=
  let a := hbField bs 44 8
  let b := hbField bs 52 8
  if a = 0 ∧ b = 0 then none else some (stampDiff b a - stampDiff ingress (hbField bs 36 8))

/-- What a heartbeat reports of the peer is shown. (DEDUCED, log entry 93) -/
def Dev.hbShow (d : Dev) (bs : List Byte) (th2 : Option Int) : Dev :=
  let d := (d.setFld TNDM.STATE_PEER_ID (hbField bs 16 1 % 2)).setNum TNDM.PEER_CHECK (hbField bs 20 4)
  let d := (d.setNum TNDM.PEER_INFO (hbField bs 18 2)).setNum TNDM.PEER_UCODE (hbField bs 24 4)
  let d := d.setNum TNDM.PEER_KEY_TAG (hbField bs 28 4)
  match th2 with
  | none => d
  | some t =>
    let d := d.setNum TNDM.OFFSET (toBits 32 (clampInt (-(2 ^ 31)) (2 ^ 31 - 1) (t.tdiv 2)))
    d.setNum TNDM.OFFSET_MAX (max (d.num TNDM.OFFSET_MAX) (min 0xFFFFF (t.natAbs / 2)))

/-- Heartbeats that did not come in the whole periods since the last one. (DEDUCED, log entry 93) -/
def Dev.hbMissed (d : Dev) : Dev :=
  let gone := (d.clk.up - d.tandem.lastHb) / max 1 d.hbPeriod - 1
  let d := d.bump (TNDM.CNT.ix 4) 0 (gone - d.tandem.missed)
  d.setTandem { d.tandem with lastHb := d.clk.up, missed := 0 }

/-- The reason for ALONE that a heartbeat gives in a state, in the order of R412. -/
def Dev.hbReason (d : Dev) (bs : List Byte) (th2 : Option Int) : Option Nat :=
  let st := d.tState
  let far := match th2 with | some t => decide (2 * (d.num TNDM.TIME_BOUND : Int) < t.natAbs) | none => false
  if st < 2 ∨ 5 < st then none
  else if hbField bs 16 1 % 2 = d.tandemId then some 9
  else if hbField bs 24 4 ≠ d.num FENG.UCODE_VER then some 2
  else if st = 2 then none
  else if hbField bs 20 4 ≠ d.tandem.check then some 1
  else if far then some 3 else none

/-- Consecutive agreeing heartbeats after one more: one that gives no θ does not count. -/
def Dev.hbAgree (d : Dev) (bs : List Byte) (th2 : Option Int) : Nat :=
  let same := hbField bs 16 1 % 2 ≠ d.tandemId ∧ hbField bs 24 4 = d.num FENG.UCODE_VER ∧ hbField bs 20 4 = d.tandem.check
  if ¬ same then 0 else
  match th2 with
  | none => d.tandem.agree
  | some t => if t.natAbs ≤ 2 * d.num TNDM.TIME_BOUND then d.tandem.agree + 1 else 0

/-! ### Hash keys (R413) -/

/-- Whether this module is the key source: its last heartbeat carried the higher occupancy, or it has the lower id where the two are
equal. (DEDUCED, log entry 94) -/
def Dev.keySource (d : Dev) : Bool :=
  if d.tandem.ownOcc = d.tandem.peerOcc then decide (d.tandemId < d.fld TNDM.STATE_PEER_ID)
  else decide (d.tandem.peerOcc < d.tandem.ownOcc)

/-- The three blocks of a key transfer. (DEDUCED, log entry 94) -/
def Dev.keyBlocks (d : Dev) : List (List Byte) :=
  [d.flow.kp, d.flow.kl, d.flow.kp ^^^ d.flow.kl].map fun k => aesBlock false d.tandem.linkKey (leBytes 16 k)

/-- KEYING is entered: without a link key it fails at once; the source sends the keys. (DEDUCED, log entry 94) -/
def Dev.keyingBegin (d : Dev) : Dev :=
  let src := d.keySource
  let d := (d.tandemTo 3 0).setFld TNDM.STATE_KEY_SOURCE (bit src)
  if !d.on TNDM.LINK_KEY_STAT_VALID then d.tandemTo 6 10
  else if src then d.emit (.peer 4 d.keyBlocks.flatten) else d

/-- After HB_OK agreeing heartbeats: KEYING, or RESYNC where the key tags are equal. -/
def Dev.agreed (d : Dev) : Dev :=
  if d.keyTag = d.num TNDM.PEER_KEY_TAG then d.tandemTo 4 0 else d.keyingBegin

/-- The state machine advances on a heartbeat. -/
def Dev.hbAdvance (d : Dev) : Dev :=
  let ok := decide (d.fld TNDM.HB_CFG_HB_OK ≤ d.tandem.agree)
  match d.tState with
  | 2 => if ok then d.agreed else d
  | 3 => d.keyed
  | 6 => if ok && d.fld TNDM.STATE_REASON ≠ 8 then d.agreed else d
  | _ => d

/-- A heartbeat of the peer arrives (R409 to R412). -/
def Dev.hbReceive (d : Dev) (bs : List Byte) : Dev :=
  let ingress := (d.stamp 8).toNat
  let th2 := hbTheta2 bs ingress
  let d := (d.hbMissed.hbShow bs th2)
  let d := d.setTandem { d.tandem with echo := some (hbField bs 36 8, ingress), peerOcc := hbField bs 32 4 }
  let d := d.statGood 33 0 64 bs
  match d.hbReason bs th2 with
  | some r => d.tandemTo 6 r
  | none => (d.setTandem { d.tandem with agree := d.hbAgree bs th2 }).hbAdvance.replFlush

/-- A heartbeat: 60 bytes without FCS, of the Ethertype, type and format of R409. -/
def isHeartbeat (bs : List Byte) : Bool :=
  bs.length = 60 && hbField bs 12 2 = 0xB588 && hbField bs 14 1 = 1 && hbField bs 15 1 = 1

/-- HEARTBEAT_RECEIVE (R412). -/
def execHeartbeatReceive (frame : List Byte) (s : State) : Host.Outcome State Fault Refusal :=
  s.run fun d => d.when (isHeartbeat frame && decide (d.portState 33 = 5) && d.enabled 0x58) fun d => d.hbReceive frame

/-- PEER_SILENT (R412). (DEDUCED, log entry 93) -/
def execPeerSilent (s : State) : Host.Outcome State Fault Refusal :=
  s.run fun d => d.when (decide (3 ≤ d.tState ∧ d.tState ≤ 5) &&
      decide (d.tandem.lastHb + d.fld TNDM.HB_CFG_HB_MISS * d.hbPeriod ≤ d.clk.up)) fun d =>
    let n := d.fld TNDM.HB_CFG_HB_MISS
    let d := (d.bump (TNDM.CNT.ix 4) 0 (n - d.tandem.missed))
    (d.setTandem { d.tandem with missed := max n d.tandem.missed }).tandemTo 6 5

/-- Keys from the source arrive: three blocks, decrypted and checked; adopted at once by an empty table, otherwise used in a
rebuild (R413). A rebuild that runs begins again with them; while a retirement runs none can. (DEDUCED, log entry 94) -/
def Dev.keyTransfer (d : Dev) (blocks : List Byte) : Dev :=
  if !d.on TNDM.LINK_KEY_STAT_VALID then d.tandemTo 6 10 else
  let dec := fun i => leNat (aesBlock true d.tandem.linkKey ((blocks.drop (16 * i)).take 16))
  if blocks.length ≠ 48 ∨ dec 0 ^^^ dec 1 ≠ dec 2 then d.tandemTo 6 10
  else if d.flowOcc = 0 then (d.setKeys (dec 0) (dec 1)).keyed
  else if d.opState MEMC.RETIRE_STAT = 1 then d
  else d.rebuildStart (dec 0) (dec 1)

/-- KEY_TRANSFER (R413). (DEDUCED, log entry 94) -/
def execKeyTransfer (blocks : List Byte) (s : State) : Host.Outcome State Fault Refusal :=
  s.run fun d => d.when (decide (d.tState = 3) && !d.on TNDM.STATE_KEY_SOURCE) fun d => d.keyTransfer blocks

/-! ### Replication messages from the peer (R415 to R417) -/

/-- A message as it is read: kind, reason, home slot, stamp, whether it is wide, and the record bits it carries. -/
structure ReplMsg where
  kind : Nat
  reason : Nat
  home : Nat
  stamp : Nat
  wide : Bool
  record : Nat
  deriving DecidableEq, Repr

/-- The layout of R415: kind and length tell the form. (DESIGN CHOICE, log entry 95) -/
def replParse (m : List Byte) : Option ReplMsg :=
  let kind := hbField m 0 1
  let put := fun (wide : Bool) (r : Nat) =>
    some { kind := kind, reason := hbField m 1 1, home := hbField m 4 4 % 2 ^ 27, stamp := hbField m 8 8, wide := wide,
           record := setBits r 0 2 (if wide then 2 else 1) : ReplMsg }
  if kind < 2 ∧ m.length = 56 then put false (hbField m 16 28 + hbField m 44 7 * 2 ^ 392)
  else if kind < 2 ∧ m.length = 88 then put true (hbField m 16 65 % 2 ^ 517 + hbField m 81 7 * 2 ^ 840)
  else if (kind = 2 ∨ kind = 3) ∧ m.length = 32 then put false (hbField m 16 16 % 2 ^ 124)
  else if (kind = 2 ∨ kind = 3) ∧ m.length = 56 then put true (hbField m 16 40 % 2 ^ 316)
  else none

/-- The slot of the pair that holds the record with a key. -/
def Dev.keyAt (d : Dev) (home : Nat) (key : Nat) : Option Nat :=
  [home, d.mateOf home].find? fun s => d.recordAt false s ≠ 0 && recKey (d.recordAt false s) = key

/-- The fields that stay local where a message updates a record: slot state, INCARN, VERSION, the counters, LAST_SEEN, HARV_PEND,
SAT and RET_SEEN (R414, R415, R420). (DEDUCED, log entry 96) -/
def keepLocal (old new : Nat) : Nat :=
  let fs := [rIncarn, rVersion, rPktF, rPktR, rByteF, rByteR, rSeen, rHarv, rSat, rRetSeen]
  let r := setBits new 0 5 (old % 32)
  let r := if recWide old then setBits r 448 5 (bitsOf old 448 5) else r
  fs.foldl (fun r f => f.put r (f.get old)) r

/-- A new record from the peer: no packet counted here yet. Which LAST_SEEN it has is not stated: an open value.
(DEDUCED, log entry 96) -/
def Dev.replNew (d : Dev) (r : Nat) : Nat :=
  rSeen.put (rRetSeen.put (rSat.put (rHarv.put r 0) 0) 0) (d.freeVal.toNat % 2 ^ 24)

/-- A message is applied through the merger (R416). The answer says whether it changed the table.
(DEDUCED, log entry 96) -/
def Dev.replApply (d : Dev) (m : ReplMsg) : Dev × Bool :=
  match d.keyAt m.home (recKey m.record) with
  | some s =>
    if m.kind < 2 then (d.controlChange s (recClean (keepLocal (d.recordAt false s) m.record)) true, true)
    else (d.endRecord s m.kind m.reason true, true)
  | none =>
    if m.kind = 0 then
      let r := d.replNew m.record
      let (d, at_) := (d.freed.insertRead m.home m.wide none).insertRecord d.cgen m.home m.wide r none true
      (d.closePair m.wide m.home, at_.isSome)
    else (d, false)

/-- A message arrives: too old, it ends replication; one that loses a conflict is discarded; otherwise it is applied, and
enters the change cache (R412, R416, R417). -/
def Dev.replReceive (d : Dev) (m : ReplMsg) : Dev :=
  let now := (d.stamp 8).toNat
  if (d.replWin : Int) < stampDiff now m.stamp then d.tandemTo 6 7 else
  let key := recKey m.record
  let peer := d.fld TNDM.STATE_PEER_ID
  let ns := nsOfStamp m.stamp
  let hits := d.tandem.cache.filter fun c => c.home = m.home && c.key = key && decide (d.islandNs 8 ≤ c.stamp + d.replWin)
  let lose := hits.any fun c => decide (ns < c.stamp) || (decide (ns = c.stamp) && decide (c.origin < peer))
  if lose then d.bump (TNDM.CNT.ix 2) else
  let d := if hits ≠ [] then d.bump (TNDM.CNT.ix 3) else d
  let (d, done) := d.replApply m
  if done then (d.bump (TNDM.CNT.ix 1)).cacheChange m.home key ns peer else d

/-- REPLICATION_MESSAGE (R416). -/
def execReplicationMessage (message : List Byte) (s : State) : Host.Outcome State Fault Refusal :=
  s.run fun d => d.when (d.replicating && decide (d.portState 33 = 5)) fun d =>
    match replParse message with
    | some m => if m.home < 2 * d.altMask then d.replReceive m else d
    | none => d

/-! ### Age queries (R418) -/

/-- The peer asks whether its record may go: yes when the module's own copy is due too, or it holds none.
(DEDUCED, log entry 98) -/
def Dev.ageAnswer (d : Dev) (home key : Nat) : Dev :=
  let yes := match d.keyAt home key with
    | some s => d.recDue (d.recordAt false s)
    | none => true
  d.emit (.peer 5 (leBytes 4 home ++ leBytes 40 key ++ leBytes 1 (bit yes)))

/-- A query of the module's own is over. (DEDUCED, log entry 98) -/
def Dev.queryOver (d : Dev) (s inc : Nat) : Dev :=
  d.setTandem { d.tandem with queries := d.tandem.queries.filter fun q => !(q.1 = s && q.2.1 = inc) }

/-- The peer answers: only on a yes does the record go, where its incarnation still stands. (DEDUCED, log entry 98) -/
def Dev.ageAnswered (d : Dev) (s inc : Nat) (yes : Bool) : Dev :=
  if !d.tandem.queries.any (fun q => q.1 = s && q.2.1 = inc) then d else
  let d := d.queryOver s inc
  if !yes then d.bump (TNDM.CNT.ix 8)
  else if rIncarn.get (d.recordAt false s) = inc then d.ownUpdate (.age s) else d

/-- AGE_QUERY (R418). -/
def execAgeQuery (msg : AgeMsg) (s : State) : Host.Outcome State Fault Refusal :=
  s.run fun d => d.when (decide (d.tState = 5) && decide (d.portState 33 = 5)) fun d =>
    match msg with
    | .query home key => d.ageAnswer (home % (2 * d.altMask)) key
    | .answer slot incarn yes => d.ageAnswered slot incarn yes

/-- AGE_QUERY_TIMEOUT (R418): a query has had no answer within REPL_WIN. -/
def execAgeQueryTimeout (slot : Nat) (s : State) : Host.Outcome State Fault Refusal :=
  s.run fun d => match d.tandem.queries.find? fun q => q.1 = slot with
    | some q => if q.2.2 + d.replWin * 10 ≤ d.clk.up then (d.queryOver q.1 q.2.1).bump (TNDM.CNT.ix 8) else d
    | none => d

/-! ### Resynchronisation (R420, R421) -/

/-- Whether the module's own copy is kept where the digests differ (R420), and whether step 3 decided.
(DEDUCED, log entry 97) -/
def Dev.keepOwn (d : Dev) (s digest stamp : Nat) (aged due : Bool) : Bool × Bool :=
  let r := d.recordAt false s
  let own := d.tandem.journal.get 0 s
  let ownAged := r = 0 ∧ d.tandem.aged.any (·.1 = s)
  if ownAged ∧ digest ≠ 0 ∧ !due then (false, false)
  else if aged ∧ digest = 0 ∧ r ≠ 0 ∧ !d.recDue r then (true, false)
  else if own = 0 ∧ stamp = 0 then (d.on TNDM.STATE_KEY_SOURCE, true)
  else if own = 0 then (false, false)
  else if stamp = 0 then (true, false)
  else if own = stamp then (decide (d.tandemId < d.fld TNDM.STATE_PEER_ID), false)
  else (decide (0 < stampDiff own stamp), false)

/-- The record of a slot whose kept copy is the peer's empty one ends: a change of the peer's, which is not replicated.
(DEDUCED, log entry 97) -/
def Dev.resyncRemove (d : Dev) (s stamp : Nat) : Dev :=
  let r := d.recordAt false s
  let home := d.homeSlot false s
  (d.endRecord s 2 3 true).cacheChange home (recKey r) (nsOfStamp stamp) (d.fld TNDM.STATE_PEER_ID)

/-- The module's own copy goes to the other side: as an insert where the peer's slot is empty, as an update where it is not, and an empty
one as a delete, whose key is an open value. (DESIGN CHOICE, log entry 124) -/
def Dev.resyncKeep (d : Dev) (s digest : Nat) : Dev :=
  let r := d.recordAt false s
  let st := (d.stamp 8).toNat
  if r = 0 then d.freed.replQueue (replMessage 2 3 s st (setBits (d.freeVal.toNat % 2 ^ 124) 0 2 1))
  else d.replQueue (replMessage (if digest = 0 then 0 else 1) 0 (d.homeSlot false s) st r)

/-- A slot whose digests differ: the copy kept goes to the other side; where the peer's is kept and is empty, the module's own
record ends. (DEDUCED, log entry 97) -/
def Dev.resyncDiffer (d : Dev) (s digest stamp : Nat) (aged due : Bool) : Dev :=
  let (keep, third) := d.keepOwn s digest stamp aged due
  let d := d.bump (TNDM.CNT.ix 6)
  let d := if third then d.bump (TNDM.CNT.ix 7) else d
  if keep then d.resyncKeep s digest
  else if digest = 0 ∧ d.recordAt false s ≠ 0 then d.resyncRemove s stamp else d

/-- The cursor moves on. -/
def Dev.resyncNext (d : Dev) : Dev :=
  if d.tandem.half then
    let n := d.tandem.cursor + 1
    (d.setTandem { d.tandem with cursor := n, half := false, asked := false }).setNum TNDM.RESYNC_STAT
      (setBits (d.num TNDM.RESYNC_STAT) 8 24 (n / 16))
  else d.setTandem { d.tandem with half := true, asked := false }

/-- A slot is compared with the peer's entry, unless it is open: the module with tandem id 0 has sent its own entry and sends that of the
next slot, the other one answers with its own. (DEDUCED, log entry 97) -/
def Dev.resyncEntry (d : Dev) (digest stamp : Nat) (aged due : Bool) : Dev :=
  let s := d.resyncSlot
  if (d.flow.opened.get none s).isSome ∨ d.altMask ≤ d.tandem.cursor then d else
  let own := d.digest s
  let d := if d.tandemId = 0 then d else d.sendEntry
  let d := if own = digest ∨ slotKind (d.slotAt false s) = 3 then d else d.resyncDiffer s digest stamp aged due
  if d.tState = 4 then d.resyncNext.resyncAsk else d

/-- RESYNC_ENTRY (R420): the peer's entry for the slot, whether its copy ended AGED, and whether its copy is due. -/
def execResyncEntry (digest stamp : Nat) (aged due : Bool) (s : State) : Host.Outcome State Fault Refusal :=
  s.run fun d => d.when (decide (d.tState = 4) && decide (d.opState TNDM.RESYNC_STAT = 1)) fun d =>
    d.resyncEntry digest stamp aged due

/-- RESYNC_CTRL.START: from ALONE for reason 8, with the heartbeats agreeing. (DEDUCED, log entry 97) -/
def Dev.resyncStart (d : Dev) : Dev :=
  if d.tState = 6 ∧ d.fld TNDM.STATE_REASON = 8 ∧ 0 < d.tandem.agree then d.tandemTo 4 0 else d

/-- RESYNC_START (R412). -/
def execResyncStart (s : State) : Host.Outcome State Fault Refusal := s.act fun d => d.access 0x58 Dev.resyncStart

/-- The module is JOINED after its resync (R412, R421). -/
def Dev.resyncDone (d : Dev) : Dev := d.resyncEnded.tandemTo 5 0

/-- RESYNC_CTRL.ABORT: after the last pair has been compared the sweep is COMPLETE and the abort is late (R87, R421). -/
def Dev.resyncAbort (d : Dev) : Dev :=
  if d.resyncOver then d.resyncDone.abortOp TNDM.RESYNC_STAT 0 id else d.abortOp TNDM.RESYNC_STAT 0 fun d => d.tandemTo 6 8

/-- RESYNC_ABORT (R421). -/
def execResyncAbort (s : State) : Host.Outcome State Fault Refusal := s.act fun d => d.access 0x58 Dev.resyncAbort

/-- RESYNC_DONE (R421). -/
def execResyncDone (s : State) : Host.Outcome State Fault Refusal :=
  s.run fun d => d.when (decide (d.tState = 4) && d.resyncOver) Dev.resyncDone

/-! ### The link key and the resets (R413, R422) -/

/-- A path's staging copy of the link key. (DEDUCED, log entry 98) -/
def Dev.linkKeyStaged (d : Dev) (path : Nat) : List Byte :=
  (List.range 8).flatMap fun i => leBytes 4 (d.regP (TNDM.LINK_KEY.ix i) path 0).toNat

/-- A LOAD takes the path's staging copy, an ERASE leaves no key; either clears the staging copy (R313, R422).
(DEDUCED, log entry 98) -/
def Dev.linkKeyCmd (d : Dev) (path : Nat) (load : Bool) : Dev :=
  let key := if load then d.linkKeyStaged path else []
  let d := d.each 8 fun d i => d.setRegP (TNDM.LINK_KEY.ix i) path 0 0
  (d.setTandem { d.tandem with linkKey := key }).setFld TNDM.LINK_KEY_STAT_VALID (bit load)

/-- LINK_KEY_LOAD (R422). -/
def execLinkKeyLoad (path : Nat) (s : State) : Host.Outcome State Fault Refusal :=
  s.act fun d => d.access 0x58 fun d => d.linkKeyCmd path true
/-- LINK_KEY_ERASE (R422). -/
def execLinkKeyErase (path : Nat) (s : State) : Host.Outcome State Fault Refusal :=
  s.act fun d => d.access 0x58 fun d => d.linkKeyCmd path false

/-- A write of LINK_KEY_CTRL: both together is reserved. -/
def Dev.linkKeyWrite (d : Dev) (path : Nat) (w : Word) : Dev :=
  if w.getLsbD 0 && w.getLsbD 1 then d.recErr 0x58 0x434 1 path
  else if w.getLsbD 0 then d.linkKeyCmd path true else if w.getLsbD 1 then d.linkKeyCmd path false else d

/-- A write of RESYNC_CTRL. -/
def Dev.resyncWrite (d : Dev) (w : Word) : Dev :=
  let d := if w.getLsbD 1 then d.resyncAbort else d
  if w.getLsbD 0 then d.resyncStart else d

/-- SOFT_RESET of TNDM (R422). -/
def Dev.softTndm (d : Dev) : Dev :=
  let d := d.resyncCut
  let d := d.setTandem { d.tandem with queue := [], cache := [], journal := [], aged := [], queries := [] }
  ((d.setFld TNDM.STATE_JOURNAL_FULL 0).tandemTo (if d.enabled 0x58 then 1 else 0) 0).tandemFollow

end Sys2Proof.Machine
end

