-- ==== Sys2Proof/Machine/BootStart.lean ====
section
/-! DEFINITION. What software writes start and end in start-up: a host load (R40, R41) and training by software (R394). -/

namespace Sys2Proof.Machine

def Dev.setBoot (d : Dev) (x : Boot) : Dev := { d with boot := x }
def Dev.bootStage (d : Dev) : Nat := d.fld TOP.BOOT_STATUS_STAGE
def Dev.toStage (d : Dev) (n : Nat) : Dev := d.setFld TOP.BOOT_STATUS_STAGE n

/-- Step 4 begins (R41, R44): the fields of BOOT_STATUS other than STAGE return to 0, and APPLY_ERR is cleared. With READY at 0
no port is up and every island runs at full pace (R97); key slots are empty (R54). (DEDUCED, log entry 28) -/
def Dev.loadBegin (d : Dev) (host : Bool) : Dev :=
  let d := (d.setNum TOP.BOOT_STATUS (3 * 65536)).setNum CFGL.APPLY_ERR 0
  let d := (d.setFld MTRN.TRAIN_STAT_WINDOW 0).setFld MTRN.TRAIN_STAT_HOST 0
  let b : Boot := { d.boot with host := host, ucode := none, image := [], preload := [], lowUnit := none, highUnit := none }
  let d := { d with units := { d.units with keys := [] } }
  ((d.setBoot b).readminAll).tandemFollow.repaceAll

/-- HOST_LOAD.GO (R41). (DEDUCED, log entries 24, 29) -/
def Dev.hostLoad (d : Dev) : Dev :=
  if d.bootStage = 2 || d.on TOP.BOOT_STATUS_CFG_DEFAULTED || d.on TOP.BOOT_STATUS_SIG_FAIL || d.on TOP.BOOT_STATUS_MARCH_FAIL then
    d.loadBegin true
  else d.raise CFGL.int_LOAD_REFUSED

/-- Training is over: step 10 begins. -/
def Dev.trainedAll (d : Dev) : Dev := (d.setFld MTRN.TRAIN_STAT_HOST 0).toStage 8

/-- TRAIN_DONE: software ends its training. TRAIN_FULL counts the channels whose check it ran to an end (R394).
(DEDUCED, log entry 33) -/
def Dev.trainDone (d : Dev) : Dev :=
  if d.bootStage = 7 && d.on MTRN.TRAIN_STAT_WINDOW && d.on MTRN.TRAIN_STAT_HOST then
    let n := (d.mem.checked.filter fun p => decide (4 ≤ p.2)).length
    ((d.setFld TOP.BOOT_STATUS_TRAIN_FULL n).trainClose true).trainedAll
  else d

/-- HOST_LOAD (R41). (DEDUCED, log entry 29) -/
def execHostLoad (s : State) : Host.Outcome State Fault Refusal := s.act fun d => d.access 0x02 Dev.hostLoad
/-- TRAIN_DONE (R394). -/
def execTrainDone (s : State) : Host.Outcome State Fault Refusal := s.act fun d => d.access 0x02 Dev.trainDone

end Sys2Proof.Machine
end

