-- ==== Sys2Proof/Machine/Observe.lean ====
section
/-! DEFINITION. Snapshots of the counters, latching reads, and the rings of the event queues (R427, R428, R434, R439 to
R444). -/

namespace Sys2Proof.Machine

/-! ### Freeze and snapshot (R427, R428) -/

/-- A write of TOP.SNAPSHOT: [0] SNAP, [1] FREEZE, [2] THAW; FREEZE and THAW together cancel each other.
(DEDUCED, log entry 99) -/
def Dev.snapWrite (d : Dev) (w : Nat) : Dev :=
  let acts := if w % 8 / 2 = 3 then w % 2 else w % 8
  if acts = 0 then d
  else if d.on PERF.SNAP_STAT_BUSY then d.raise PERF.int_SNAP_REFUSED
  else { d with obs := { d.obs with snap := some (wholeUs (d.islandNs 32), acts), snapped := [] } }.setFld PERF.SNAP_STAT_BUSY 1

/-- SNAP (R427). -/
def execSnap (s : State) : Host.Outcome State Fault Refusal := s.act fun d => d.access 0x00 fun d => d.snapWrite 1
/-- FREEZE (R427). -/
def execFreeze (s : State) : Host.Outcome State Fault Refusal := s.act fun d => d.access 0x00 fun d => d.snapWrite 2
/-- THAW (R427). -/
def execThaw (s : State) : Host.Outcome State Fault Refusal := s.act fun d => d.access 0x00 fun d => d.snapWrite 4

/-- A snapshot is held. (DEDUCED, log entry 99) -/
def Dev.takeSnap (d : Dev) (t : Nat) : Dev :=
  let d := d.setNum2 PERF.SNAP_STAMP_LO PERF.SNAP_STAMP_HI (stampOf t).toNat
  let d := (d.setFld PERF.SNAP_STAT_VALID 1).setNum PERF.SNAP_STAT (d.num PERF.SNAP_STAT + 65536)
  d.raise PERF.int_SNAP_DONE

/-- Every island has acted at T_s. (DEDUCED, log entry 99) -/
def Dev.snapAct (d : Dev) (t acts : Nat) : Dev :=
  let d := { d with obs := { d.obs with snap := none, snapped := [] } }.setFld PERF.SNAP_STAT_BUSY 0
  let d := if bitOf acts 0 then d.takeSnap t else d
  let d := if bitOf acts 1 then d.setFld PERF.SNAP_STAT_FROZEN 1
    else if bitOf acts 2 then d.setFld PERF.SNAP_STAT_FROZEN 0 else d
  d.log 32 0x0005 (stampOf t).toNat ((stampOf t).toNat / 2 ^ 32) acts

/-- The islands whose replicas have reached T_s and that have not acted (R428). -/
def Dev.snapDue (d : Dev) (t : Nat) : List Nat :=
  (List.range 34).filter fun i => !d.obs.snapped.contains i && decide (t ≤ d.islandNs i)

/-- Some islands act at T_s, and once all have the operation is over (R427, R428). -/
def Dev.snapIslands (d : Dev) (t acts : Nat) (due : List Nat) : Dev :=
  let d := due.foldl (fun d i => d.snapIsland i acts) d
  if 34 ≤ d.obs.snapped.length then d.snapAct t acts else d

/-- The islands whose replicas have reached T_s act (R427). -/
def Dev.snapNow (d : Dev) : Dev :=
  match d.obs.snap with
  | some (t, acts) => d.snapIslands t acts (d.snapDue t)
  | none => d

/-- SNAPSHOT_INSTANT (R427). -/
def execSnapshotInstant (s : State) : Host.Outcome State Fault Refusal := s.act Dev.snapNow

/-- Every island whose replica has reached T_s acts before software changes what it counts (R428). (DEDUCED, log entry 99) -/
def Dev.snapReachAll (d : Dev) : Dev := d.each 34 Dev.snapReach

/-- What the counters are set to count has changed: those that count open events no more hold an open value from now on.
(DESIGN CHOICE, log entry 112) -/
def Dev.perfTune (d : Dev) : Dev :=
  let now := if d.enabled 0x60 then d.vagueOn fun i => !d.stopped i else []
  let d := (d.obs.vague.filter fun c => !now.contains c).foldl Dev.settleCount d
  { d with obs := { d.obs with vague := now } }

/-- SOFT_RESET of PERF (R428) and of STAT (R443): live and snapshot values are cleared. -/
def Dev.softPerf (d : Dev) : Dev :=
  { d with obs := { d.obs with perf := [], perfSnap := [] } }
def Dev.softStat (d : Dev) : Dev := { d with sw := { d.sw with stat := [] }, obs := { d.obs with statSnap := [] } }

/-! ### Reads that latch (R434, R442, R443) -/

/-- The counter whose low word a register of PERF or STAT is, and the register that holds its high word as latched. -/
def Dev.latched (d : Dev) (page off ch : Nat) : Option (Nat × Reg) :=
  if page = 0x60 ∧ off = 0x044 then some (d.obs.perf.get 0 ch, PERF.CNT_HI)
  else if page = 0x60 ∧ off = 0x04C then some (d.obs.perfSnap.get 0 ch, PERF.SNAP_HI)
  else if page = 0x61 ∧ 0x040 ≤ off ∧ off < 0x210 ∧ off % 8 = 0 then
    some (d.sw.stat.get 0 (64 * ch + (off - 0x040) / 8), STAT.LIVE.ix2 ((off - 0x040) / 8) 1)
  else if page = 0x61 ∧ 0x210 ≤ off ∧ off < 0x3E0 ∧ off % 8 = 0 then
    some (d.obs.statSnap.get 0 (64 * ch + (off - 0x210) / 8), STAT.SNAP.ix2 ((off - 0x210) / 8) 1)
  else none

/-- Whether a live PERF counter's value is open: it counts events that the model does not count. -/
def Dev.vagueAt (d : Dev) (page off ch : Nat) : Bool := page = 0x60 && off = 0x044 && d.obs.vague.contains ch

/-- A read of a counter's low word: the high word is latched for the path, and a counter of open events holds the open value that it
reads as. -/
def Dev.latchRead (d : Dev) (path page off ch : Nat) : Option (Dev × Word) :=
  let d := if d.vagueAt page off ch then d.settleCount ch else d
  (d.latched page off ch).map fun x => (d.setRegP x.2 path ch (BitVec.ofNat 32 (x.1 / 2 ^ 32)), BitVec.ofNat 32 x.1)

/-- A read of a word of OVF: the counters of open events show there whether they have wrapped. (DESIGN CHOICE, log entry 112) -/
def Dev.ovfRead (d : Dev) (i : Nat) : Dev × Word :=
  let d := (d.obs.vague.filter fun c => c / 32 = i).foldl Dev.settleCount d
  (d, d.reg (PERF.OVF.ix i))

/-- LATCHING_READ (R434): a path reads the low word at an offset of PERF or STAT for a counter or a port. -/
def execLatchingRead (path page off channel : Nat) (s : State) : Host.Outcome State Fault Refusal :=
  s.act fun d => d.access page fun d => match d.latchRead path page off channel with
    | some (d, w) => d.emit (.words path [w])
    | none => d

/-! ### Event queues (R439 to R441) -/

/-- An event record as its 32 bytes (R435). -/
def Event.encode (e : Event) : List Byte :=
  leBytes 8 e.stamp.toNat ++ leBytes 1 e.island ++ leBytes 1 e.flags ++ leBytes 2 e.code ++ leBytes 4 e.seq.toNat ++
    leBytes 4 e.p0.toNat ++ leBytes 4 e.p1.toNat ++ leBytes 4 e.p2.toNat ++ leBytes 4 e.p3.toNat

/-- INT_RAW bit `q` of EVLG. -/
def queueBit (q : Nat) : IntBit := ⟨0x62, q % 16⟩

/-- A record goes into the ring at Q_WR, which advances and is written back; enough records since the bit was last cleared set
it. -/
def Dev.ringWrite (d : Dev) (q : Nat) (e : Event) : Dev :=
  let wr := d.num EVLG.Q_WR q
  let base := d.num2 EVLG.Q_BASE_LO EVLG.Q_BASE_HI q
  let d := d.dmaWrite (base + 32 * (wr % 2 ^ d.fld EVLG.Q_SIZE_SIZE q)) e.encode
  let d := (d.bump EVLG.Q_WR q)
  let d := d.dmaWrite (d.num2 EVLG.Q_WB_LO EVLG.Q_WB_HI q) (leBytes 4 (d.num EVLG.Q_WR q))
  let x := d.evQueue q
  let x := { x with since := x.since + 1, first := if x.since = 0 then d.upUs else x.first }
  let d := d.setEvQueue q x
  if d.fld EVLG.Q_MOD_Q_THRESH q ≤ x.since then d.raise (queueBit q) else d

/-- Room in a queue's ring. (DEDUCED, log entry 99) -/
def Dev.queueRoom (d : Dev) (q : Nat) : Bool :=
  decide ((d.num EVLG.Q_WR q + 2 ^ 32 - d.num EVLG.Q_RD q) % 2 ^ 32 < 2 ^ d.fld EVLG.Q_SIZE_SIZE q)

/-- The oldest staged item is written: a record, or the report of a loss with the number lost (R440). (DEDUCED, log entry 99) -/
def Dev.eventWrite (d : Dev) (q : Nat) : Dev :=
  if !d.enabled 0x62 || !d.on EVLG.Q_SIZE_EN q || !d.queueRoom q then d else
  match (d.evQueue q).staged with
  | [] => d
  | .event e :: r => (d.setEvQueue q { d.evQueue q with staged := r }).ringWrite q e
  | .loss n e :: r =>
    ((d.setEvQueue q { d.evQueue q with staged := r }).ringWrite q { e with p1 := BitVec.ofNat 32 n }).raise EVLG.int_LOSS

/-- EVENT_RECORD_WRITE (R439). -/
def execEventRecordWrite (queue : Nat) (s : State) : Host.Outcome State Fault Refusal :=
  s.act fun d => d.eventWrite (queue % 16)

/-- EVENT_QUEUE_HOLDOFF (R441). -/
def execEventQueueHoldoff (queue : Nat) (s : State) : Host.Outcome State Fault Refusal :=
  s.act fun d =>
    let q := queue % 16
    d.when (decide ((d.evQueue q).since ≠ 0) && decide ((d.evQueue q).first + d.fld EVLG.Q_MOD_HOLDOFF q ≤ d.upUs))
      fun d => d.raise (queueBit q)

/-- Software clears interrupt bits of EVLG: their records count afresh. -/
def Dev.queuesCleared (d : Dev) (w : Nat) : Dev :=
  d.each 16 fun d q => if bitOf w q then d.setEvQueue q { d.evQueue q with since := 0, first := 0 } else d

/-- SOFT_RESET of EVLG (R440, R444): staged records are losses. -/
def Dev.softEvlg (d : Dev) : Dev :=
  d.each 16 fun d q =>
    let x := d.evQueue q
    let n := x.count
    let marks := x.staged.filterMap fun i => match i with | .event _ => none | .loss k e => some (k, e)
    let d := match marks with
      | [] => if n = 0 then d else (d.setEvQueue q { x with staged := [] }).markLoss q n
      | (_, e) :: _ => d.setEvQueue q { x with staged := [.loss (n + (marks.map Prod.fst).sum) e] }
    if n = 0 then d else d.bump EVLG.Q_LOST q n

end Sys2Proof.Machine
end

