-- ==== Sys2Proof/Machine/Manage.lean ====
section
/-! DEFINITION. The management port, the boot flash commands and the housekeeping mailbox (R457, R458, R460, R464). -/

namespace Sys2Proof.Machine

/-! ### Management port (R457) -/

/-- Whether the management MAC and its rings run. -/
def Dev.mgmtOn (d : Dev) : Bool :=
  d.sup.phase = .on && d.enabled 0x69 && d.on MGMT.MAC_CFG_EN && d.on MGMT.MGMT_STAT_LINK_UP

/-- MGMT_LINK (R461): the state of the link. -/
def execMgmtLink (up an sig remote : Bool) (s : State) : Host.Outcome State Fault Refusal :=
  s.act fun d => d.when (d.sup.phase = .on) fun d =>
    let was := d.on MGMT.MGMT_STAT_LINK_UP
    let d := d.setNum MGMT.MGMT_STAT (bit up + bit an * 2 + bit sig * 4 + bit remote * 8)
    if was = up then d else (d.raise MGMT.int_LINK).log 33 0x6901 (d.num MGMT.MGMT_STAT)

/-- Whether the port takes a frame: its own address, a group address, or any with PROMISC; never a PAUSE frame, which its MAC
consumes. (DEDUCED, log entry 106) -/
def Dev.mgmtTakes (d : Dev) (bs : List Byte) : Bool :=
  !(beAt bs 12 2 = 0x8808) &&
  (d.on MGMT.MAC_CFG_PROMISC || (bs.headD 0).getLsbD 0 ||
    beAt bs 0 6 = (d.num MGMT.MAC_ADDR_LO + d.num MGMT.MAC_ADDR_HI * 2 ^ 32) % 2 ^ 48)

/-- A frame of the management port is discarded. -/
def Dev.mgmtDrop (d : Dev) : Dev := (d.bump MGMT.RX_DISC).raise MGMT.int_RX_DISC

/-- A good frame goes to the receive ring: its data, its descriptor (R454) with an ingress stamp, and DONE.
(DEDUCED, log entry 106) -/
def Dev.mgmtPut (d : Dev) (bs : List Byte) (dev : Int) : Dev :=
  let done := d.num MGMT.RX_DONE
  let a := d.num2 MGMT.RX_BASE_LO MGMT.RX_BASE_HI + 32 * (done % 2 ^ d.fld MGMT.RX_CFG_SIZE)
  let len := leNat (d.dmaRead (a + 8) 2)
  let st := stampOf (((d.islandNs 33 : Nat) : Int) + clampInt (-16) 16 dev).toNat
  let d := d.dmaWrite (leNat (d.dmaRead a 8)) (bs.take len)
  let d := d.dmaWrite (a + 10) (leBytes 2 bs.length ++ leBytes 1 34 ++ leBytes 2 0 ++
    leBytes 1 (bit (decide (len < bs.length)) * 2) ++ leBytes 8 st.toNat ++ leBytes 8 0)
  (d.setNum MGMT.RX_DONE ((done + 1) % 65536)).raise MGMT.int_RX

/-- A frame arrives at the management port, FCS included; `dev` is how far its stamp is off, in ns.
(DEDUCED, log entry 106) -/
def Dev.mgmtReceive (d : Dev) (bs : List Byte) (dev : Int) : Dev :=
  if !d.mgmtOn then d
  else if bs.length < 64 ∨ 1522 < bs.length ∨ !fcsGood bs then d.mgmtDrop
  else if !d.mgmtTakes bs then d
  else if !d.on MGMT.RX_CFG_EN || d.num MGMT.RX_AVAIL = d.num MGMT.RX_DONE then d.mgmtDrop
  else d.mgmtPut (bs.take (bs.length - 4)) dev

/-- MGMT_RECEIVE (R457). -/
def execMgmtReceive (bs : List Byte) (dev : Int) (s : State) : Host.Outcome State Fault Refusal :=
  s.act fun d => d.mgmtReceive bs dev

/-- A transmit descriptor is served: its frame is sent, padded and with its FCS, or its LEN is out of range (R455).
(DEDUCED, log entry 106) -/
def Dev.mgmtTransmit (d : Dev) : Dev :=
  let done := d.num MGMT.TX_DONE
  if !d.mgmtOn || !d.on MGMT.TX_CFG_EN || d.num MGMT.TX_AVAIL = done then d else
  let a := d.num2 MGMT.TX_BASE_LO MGMT.TX_BASE_HI + 32 * (done % 2 ^ d.fld MGMT.TX_CFG_SIZE)
  let len := leNat (d.dmaRead (a + 8) 2)
  let bad := decide (len < 14 ∨ 1518 < len)
  let bs := d.dmaRead (leNat (d.dmaRead a 8)) len
  let d := d.dmaWrite (a + 24) (leBytes 1 (bit bad))
  let d := if bad then d else d.emit (.frame 34 (withFcs (bs ++ List.replicate (60 - bs.length) 0)) false)
  (d.setNum MGMT.TX_DONE ((done + 1) % 65536)).raise MGMT.int_TX

/-- MGMT_TRANSMIT (R457). -/
def execMgmtTransmit (s : State) : Host.Outcome State Fault Refusal := s.act Dev.mgmtTransmit

/-- SOFT_RESET of MGMT (R464). -/
def Dev.softMgmt (d : Dev) : Dev := (d.setFld MGMT.RX_CFG_EN 0).setFld MGMT.TX_CFG_EN 0

/-! ### Boot flash (R25, R458) -/

/-- A flash command ends with a state. (DEDUCED, log entry 107) -/
def Dev.qspiEnd (d : Dev) (st : Nat) : Dev :=
  ((d.setHostSt { d.host with qspi := none }).setNum MGMT.QSPI_STAT st).raise MGMT.int_QSPI_DONE

/-- Whether `n` bytes from `a` on meet the power-fail area (R51, R458). (DEDUCED, log entry 107) -/
def Dev.inPfail (d : Dev) (a n : Nat) : Bool := decide (a < d.boot.pfail + 65536 ∧ d.boot.pfail < a + n)

/-- QSPI_CMD.GO: 0 READ, 1 PROGRAM, 2 ERASE, 3 READ_ID. A command runs, or ends at once: without flash, inside the power-fail
area, or while the flash is taken for a record. (DEDUCED, log entry 107) -/
def Dev.qspiGo (d : Dev) (op : Nat) : Dev :=
  let a := d.num MGMT.QSPI_ADDR
  let n := d.num MGMT.QSPI_LEN
  if d.fld MGMT.QSPI_STAT_STATE = 1 then d
  else if !d.boot.flash then d.qspiEnd 4
  else if op = 1 && d.inPfail a n || op = 2 && d.inPfail (a / 4096 * 4096) 4096 then d.qspiEnd 5
  else if d.sup.recording.isSome then d.qspiEnd 3
  else (d.setHostSt { d.host with qspi := some (op % 4, a, n) }).setNum MGMT.QSPI_STAT 1

/-- QSPI_READ (R458). -/
def execQspiRead (s : State) : Host.Outcome State Fault Refusal := s.act fun d => d.access 0x69 fun d => d.qspiGo 0
/-- QSPI_PROGRAM (R458). -/
def execQspiProgram (s : State) : Host.Outcome State Fault Refusal := s.act fun d => d.access 0x69 fun d => d.qspiGo 1
/-- QSPI_ERASE (R458). -/
def execQspiErase (s : State) : Host.Outcome State Fault Refusal := s.act fun d => d.access 0x69 fun d => d.qspiGo 2
/-- READ_ID (R458). -/
def execReadId (s : State) : Host.Outcome State Fault Refusal := s.act fun d => d.access 0x69 fun d => d.qspiGo 3

/-- Bytes of QSPI_BUF. -/
def Dev.qspiBuf (d : Dev) : List Byte := (List.range 64).flatMap fun i => leBytes 4 (d.num (MGMT.QSPI_BUF.ix i))

/-- The flash bytes that QSPI_BUF programs: a bit that reads 0 stays 0 until its sector is erased. Bytes beyond the page that
holds the address are no part of a command; where the length reaches past it, what the page then holds is open.
(PRESUMED, log entry 108) -/
def Dev.qspiProgram (d : Dev) (a n : Nat) : Dev :=
  if 256 < a % 256 + n then
    let (d, bs) := d.freeBytes 256
    d.flashWrite (a / 256 * 256) bs
  else d.flashWrite a (((d.flashRead a n).zip d.qspiBuf).map fun p => p.1 &&& p.2)

/-- QSPI_BUF filled with `n` flash bytes from `a`; its further bytes stay. -/
def Dev.qspiFill (d : Dev) (a n : Nat) : Dev :=
  let buf := d.flashRead a n ++ d.qspiBuf.drop n
  d.each 64 fun d i => d.setNum (MGMT.QSPI_BUF.ix i) (leNat ((buf.drop (4 * i)).take 4))

/-- A flash command completes; `id` is the JEDEC identity that the flash answers. (DEDUCED, log entry 107) -/
def Dev.qspiComplete (d : Dev) (op a n id : Nat) : Dev :=
  let d := match op with
    | 0 => d.qspiFill a n
    | 1 => d.qspiProgram a n
    | 2 => d.flashWrite (a / 4096 * 4096) (List.replicate 4096 0xFF)
    | _ => d.setFld MGMT.FLASH_ID_JEDEC id
  d.qspiEnd 2

/-- QSPI_DONE (R458). -/
def execQspiDone (id : Nat) (s : State) : Host.Outcome State Fault Refusal :=
  s.act fun d => match d.host.qspi with
    | some (op, a, n) => d.when (d.fld MGMT.QSPI_STAT_STATE = 1) fun d => d.qspiComplete op a n id
    | none => d

/-- A warning takes the flash: the host's command ends at its next page boundary (R25). A read has filled the buffer up to it, a
program has written its page, and what an erase has done of its sector by then is open (R458, R461). (DEDUCED, log entry 23) -/
def Dev.qspiPreempt (d : Dev) : Dev :=
  match d.host.qspi with
  | none => d
  | some (op, a, n) =>
    let d :=
      match op with
      | 0 => d.qspiFill a (min n (256 - a % 256))
      | 1 => d.qspiProgram a n
      | 2 => let (d, bs) := d.freeBytes 4096; d.flashWrite (a / 4096 * 4096) bs
      | _ => d
    (d.qspiEnd 3).log 33 0x6902 (d.num MGMT.QSPI_ADDR)

/-! ### Housekeeping mailbox (R460) -/

/-- Words of a path's request. -/
def Dev.mboxIn (d : Dev) (path i : Nat) : Nat := (d.regP (HOST.MBOX_IN.ix i) path 0).toNat

/-- BUSY and DONE of a path's copy. -/
def Dev.mboxStat (d : Dev) (path v : Nat) : Dev := d.setRegP HOST.MBOX_STAT path 0 (BitVec.ofNat 32 v)

/-- The firmware answers the first request in line: command and tag echoed, a status, and the answer's words.
(DESIGN CHOICE, log entry 109) -/
def Dev.mboxAnswer (d : Dev) (path status : Nat) (ws : List Nat) : Dev :=
  let req := d.mboxIn path 0
  let head := req % 256 + ws.length % 256 * 256 + bitsOf req 16 8 * 65536 + status * 2 ^ 24
  let d := (head :: ws).zipIdx.foldl (fun (d : Dev) (x : Nat × Nat) =>
    if x.2 < 64 then d.setRegP (HOST.MBOX_OUT.ix x.2) path 0 (BitVec.ofNat 32 x.1) else d) d
  ((d.setHostSt { d.host with bells := d.host.bells.tail }).mboxStat path 2).raise HOST.int_MBOX_DONE

/-- Requests with an unknown command are answered as soon as they are first in line. (DESIGN CHOICE, log entry 109) -/
def Dev.mboxUnknown (fuel : Nat) (d : Dev) : Dev :=
  match fuel, d.host.bells with
  | n + 1, p :: _ =>
    if [1, 2, 3, 4].contains (d.mboxIn p 0 % 256) then d else Dev.mboxUnknown n (d.mboxAnswer p 1 [])
  | _, _ => d

/-- MBOX_CTRL.DOORBELL of a path: nothing while its copy is BUSY. (DESIGN CHOICE, log entry 109) -/
def Dev.doorbell (d : Dev) (path : Nat) : Dev :=
  if d.host.bells.contains (path % 2) then d else
  let d := if path % 2 = 1 then d.setHostSt { d.host with mboxIn := 0 } else d
  Dev.mboxUnknown 2 ((d.setHostSt { d.host with bells := d.host.bells ++ [path % 2] }).mboxStat (path % 2) 1)

/-- A command of the firmware, run when a request for it is first in line. (DESIGN CHOICE, log entry 109) -/
def Dev.mboxServe (d : Dev) (cmd : Nat) (f : Dev → Nat → Nat × List Nat) : Dev :=
  match d.host.bells with
  | [] => d
  | p :: _ =>
    if d.sup.phase = .on ∧ d.mboxIn p 0 % 256 = cmd then
      let (status, ws) := f d p
      Dev.mboxUnknown 2 (d.mboxAnswer p status ws)
    else d

/-- VERSION (R460): the firmware's version, of which the spec gives no value, the image's and the microcode's.
(DESIGN CHOICE, log entry 109) -/
def execVersion (s : State) : Host.Outcome State Fault Refusal :=
  s.act fun d => (d.mboxServe 1 fun d _ => (0, [d.freeVal.toNat % 2 ^ 32, d.num CFGL.IMG_VER, d.num FENG.UCODE_VER])).freed

/-- SENSORS (R460): VIN_NOW and the temperatures of the 34 islands. (DESIGN CHOICE, log entry 109) -/
def execSensors (temps : List Nat) (s : State) : Host.Outcome State Fault Refusal :=
  s.act fun d => d.mboxServe 2 fun d _ =>
    (0, d.num PWRM.VIN_NOW :: (List.range 34).map fun i => temps.getD i 0 % 2 ^ 16)

/-- The record of a slot of the power-fail area. -/
def Dev.pfailRecord (d : Dev) (slot : Nat) : List Byte := d.flashRead (d.boot.pfail + 256 * slot) 256

/-- Whether a record's format word and check word are good (R53). -/
def recordValid (bs : List Byte) : Bool :=
  leNat (bs.take 4) = 0x50460001 && leNat (bs.drop 252) = crc32c (bs.take 252)

/-- The sequence of a record. -/
def recordSeq (bs : List Byte) : Nat := leNat ((bs.drop 4).take 4)

/-- PFAIL_READ (R460): the fields of the record of the sequence in the request's second word, or status 3 where there is none.
(DESIGN CHOICE, log entry 109) -/
def execPfailRead (s : State) : Host.Outcome State Fault Refusal :=
  s.act fun d => d.mboxServe 3 fun d p =>
    let n := d.mboxIn p 1
    if !d.boot.flash ∨ bitsOf (d.mboxIn p 0) 8 8 = 0 then (3, []) else
    match (List.range 256).find? fun k => recordValid (d.pfailRecord k) && recordSeq (d.pfailRecord k) = n with
    | some k => (0, (List.range 8).map fun i => leNat (((d.pfailRecord k).drop (4 * i)).take 4))
    | none => (3, [])

/-- TRAIN_REPORT (R460): a byte for each channel, as byte 0 of its entry in the training area (R394).
(DESIGN CHOICE, log entry 109) -/
def execTrainReport (s : State) : Host.Outcome State Fault Refusal :=
  s.act fun d => d.mboxServe 4 fun d _ =>
    (0, (List.range 16).map fun i => leNat ((List.range 4).map fun j => (d.trainEntry (4 * i + j)).headD 0))

end Sys2Proof.Machine
end

