-- ==== Sys2Proof/Machine/Fuse.lean ====
section
/-! DEFINITION. The fuses and the test access port (R469 to R476). -/

namespace Sys2Proof.Machine

/-! ### What the fuse registers show (R469, R475) -/

/-- STATE: SEAL, KEY_LOCK and KEY_ZERO. -/
def Dev.fuseState (d : Dev) : Nat := bit d.otp.sealed + bit d.otp.keyLock * 2 + bit (d.otp.hash = 0) * 4

/-- The 384 bits staged by a path in PROG_DATA, byte 4i in the low byte of register i. -/
def Dev.progData (d : Dev) (path : Nat) : BitVec 384 :=
  BitVec.ofNat 384 ((List.range 12).map fun i => (d.regP (FUSE.PROG_DATA.ix i) path 0).toNat * 2 ^ (32 * i)).sum

/-- A power-fail warning is in force. -/
def Dev.warned (d : Dev) : Bool := d.on PWRM.SUPPLY_STAT_WARN

/-! ### Key hash (R470) -/

/-- Whether a programming of `v` is refused. (DEDUCED, log entry 110) -/
def Dev.keyRefused (d : Dev) (v : BitVec 384) : Bool :=
  !d.on TOP.BOOT_STATUS_READY || d.warned || d.otp.sealed || d.otp.keyLock || d.otp.hash &&& ~~~v != 0

/-- PROG_CTRL.KEY_GO from a path. (DEDUCED, log entry 110) -/
def Dev.keyGo (d : Dev) (path : Nat) : Dev :=
  if d.fld FUSE.PROG_STAT_STATE = 1 then d
  else if d.keyRefused (d.progData path) then d.setFld FUSE.PROG_STAT_REFUSED 1
  else (d.setHostSt { d.host with prog := some (d.progData path) }).setNum FUSE.PROG_STAT 1

/-- KEY_GO (R470). -/
def execKeyGo (path : Nat) (s : State) : Host.Outcome State Fault Refusal :=
  s.act fun d => d.access 0x03 fun d => d.keyGo path

/-- The ones among the low `n` bits of a number. -/
def onesIn (n v : Nat) : Nat := ((List.range n).filter fun i => bitOf v i).length

/-- Fuses are blown: those of `v` that `fails` does not name. A blown fuse stays blown. (DEDUCED, log entry 110) -/
def Otp.blow (o : Otp) (v fails : BitVec 384) : Otp := { o with hash := o.hash ||| (v &&& ~~~fails) }

/-- The programming ends: `fails` names bits that still read 0. (DEDUCED, log entry 110) -/
def Dev.progEnd (d : Dev) (fails : BitVec 384) : Dev :=
  match d.host.prog with
  | none => d
  | some v =>
    let left := v &&& ~~~d.otp.hash &&& fails
    let d := d.setHostSt { d.host with prog := none }
    let d := { d with otp := { d.otp.blow v left with keyLock := d.otp.keyLock || left == 0 } }
    let d := d.setNum FUSE.PROG_STAT ((if left = 0 then 2 else 3) + onesIn 384 left.toNat * 256)
    let d := d.raise (if left = 0 then FUSE.int_PROG_DONE else FUSE.int_PROG_FAIL)
    d.log 32 0x0302 (d.num FUSE.PROG_STAT) d.fuseState

/-- FUSE_PROG_DONE (R470). -/
def execFuseProgDone (fails : BitVec 384) (s : State) : Host.Outcome State Fault Refusal := 
  s.actOtp fun d => d.when d.runs fun d => d.progEnd fails

/-! ### SEAL (R471) -/

/-- A write of SEAL_ARM from a path. (DEDUCED, log entry 110) -/
def Dev.sealArm (d : Dev) (path : Nat) (v : Word) : Dev :=
  if v = 0x00005EA1 then d.setHostSt { d.host with armed := d.host.armed.set 0 (path % 2) (d.clk.up + 1) } else d

/-- SEAL_ARM (R471). -/
def execSealArm (path : Nat) (value : Word) (s : State) : Host.Outcome State Fault Refusal :=
  s.act fun d => d.access 0x03 fun d => d.sealArm path value

/-- Whether a GO from a path is accepted: it armed at most 1 ms ago, READY is 1 and no warning is in force.
(DEDUCED, log entry 110) -/
def Dev.sealAccepts (d : Dev) (path : Nat) : Bool :=
  let t := d.host.armed.get 0 (path % 2)
  t ≠ 0 && decide (d.clk.up + 1 ≤ t + 10000000) && d.on TOP.BOOT_STATUS_READY && !d.warned && !d.otp.sealed

/-- SEAL_GO.GO from a path: SEAL is blown, for good. (DEDUCED, log entry 110) -/
def Dev.sealGo (d : Dev) (path : Nat) : Dev :=
  if d.sealAccepts path then
    let d := { d with otp := { d.otp with sealed := true } }
    let d := (d.setHostSt { d.host with armed := d.host.armed.set 0 (path % 2) 0 }).raise FUSE.int_SEALED
    d.log 32 0x0303 d.fuseState (path % 2)
  else d

/-- SEAL_GO (R471). -/
def execSealGo (path : Nat) (s : State) : Host.Outcome State Fault Refusal :=
  s.actOtp fun d => d.when d.runs fun d => d.access 0x03 fun d => d.sealGo path

/-! ### Test access port (R473) -/

/-- The TAP's instruction becomes `ir`: pads that a scan instruction drove are released unless the new one drives them.
(PRESUMED, log entry 111) -/
def Dev.tap (d : Dev) (ir : Nat) (scan highz : Bool) : Dev :=
  d.setHostSt { d.host with tapIr := ir, scan := scan && d.sup.resetLow, highz := highz && d.sup.resetLow }

/-- A scan of the boundary register: what it captured shifts out, and `tdi` shifts in. (PRESUMED, log entry 111) -/
def Dev.boundary (d : Dev) (pins tdi : Nat) : Dev :=
  let d := d.setHostSt { d.host with bsrIn := pins, bsrOut := tdi }
  d.emit (.tdo pins 0)

/-- What a command of the TAP does: it works, in reset too, as long as the module is powered. -/
def State.tapAct (s : State) (f : Dev → Dev) : Host.Outcome State Fault Refusal :=
  s.actRaw fun d => d.when (d.sup.phase = .on || d.sup.phase = .reset) f

/-- EXTEST: while RESET_N is low the pads are driven from the boundary register and it captures the pins; at any other time it
acts as BYPASS. -/
def execExtest (pins tdi : Nat) (s : State) : Host.Outcome State Fault Refusal :=
  s.tapAct fun d =>
    let d := d.tap 0x00 true false
    if d.sup.resetLow then d.boundary pins tdi else d

/-- IDCODE: the identity shifts out. (PRESUMED, log entry 111) -/
def execIdcode (s : State) : Host.Outcome State Fault Refusal :=
  s.tapAct fun d => (d.tap 0x01 false false).emit (.tdo 0x0323214B 32)

/-- SAMPLE/PRELOAD: the pins are captured and the boundary register is loaded; no pad is disturbed. -/
def execSamplePreload (pins tdi : Nat) (s : State) : Host.Outcome State Fault Refusal :=
  s.tapAct fun d => (d.tap 0x02 false false).boundary pins tdi

/-- CLAMP: while RESET_N is low the pads hold what was preloaded. -/
def execClamp (s : State) : Host.Outcome State Fault Refusal := s.tapAct fun d => d.tap 0x04 true false

/-- HIGHZ: while RESET_N is low the pads are at high impedance. -/
def execHighz (s : State) : Host.Outcome State Fault Refusal := s.tapAct fun d => d.tap 0x05 false true

/-- What an instruction code decodes as: the debug codes, once SEAL is blown, and every code that names no instruction are
BYPASS. (DEDUCED, log entry 17; PRESUMED, log entry 111) -/
def Dev.tapCode (d : Dev) (code : Nat) : Nat :=
  if [0x00, 0x01, 0x02, 0x04, 0x05].contains code then code
  else if 0x80 ≤ code ∧ code ≤ 0x8F ∧ !d.otp.sealed then code
  else 0xFF

/-- DEBUG_ACCESS (R471, R473): codes 0x80 to 0x8F. Of what the housekeeping processor's debug and the internal scan do the spec
says nothing. (PRESUMED, log entry 111) -/
def execDebugAccess (code : Nat) (s : State) : Host.Outcome State Fault Refusal :=
  s.tapAct fun d => d.tap (d.tapCode (0x80 + code % 16)) false false

/-- BYPASS: 0xFF and every code that names no instruction. -/
def execBypass (code : Nat) (s : State) : Host.Outcome State Fault Refusal :=
  s.tapAct fun d => d.when (d.tapCode (code % 256) = 0xFF) fun d => d.tap 0xFF false false

/-- TRST_N: the TAP is reset, at once. (DEDUCED, log entry 17; PRESUMED, log entry 111) -/
def execTrstN (s : State) : Host.Outcome State Fault Refusal := s.tapAct fun d => d.tap 0x01 false false

end Sys2Proof.Machine
end

