-- ==== Sys2Proof/Machine/SporeRun.lean ====
section
/-! DEFINITION. Entry into SPORE from the drain on, SPORE itself and the wake from it (R56 to R63, R269, R312, R392). -/

namespace Sys2Proof.Machine

/-! ### The end of the drain (R56) -/

/-- Whether the module is in entry, at a given point of it, and `t` tenths of a nanosecond have passed since the last mark. -/
def Dev.entryAt (d : Dev) (phase t : Nat) : Bool :=
  d.fld PWRM.SLEEP_STAT_STATE = 1 && d.spore.phase = phase && decide (d.spore.since + t ≤ d.clk.up)

/-- Nothing is held and no task is ready or runs. (DESIGN CHOICE, log entry 36) -/
def Dev.drained (d : Dev) : Bool :=
  d.sw.frames.isEmpty && (d.sw.rx.all fun p => p.2.isNone) &&
  d.eng.tasks.all fun p => match p.2 with
    | some t => t.state = 3 || t.state = 4 || (t.state = 2 && !pktKind t.kind && d.blockedOn (p.1 / 4096) (p.1 % 4096))
    | none => true

/-- Frames held at the end of the drain: resident ones, and those whose reception has taken units. -/
def Dev.heldFrames (d : Dev) : Nat := (d.sw.frames.filter fun p => p.2.isSome).length

/-- A frame in reception is given up with what it has taken. (DESIGN CHOICE, log entry 36) -/
def Dev.giveUpRx (d : Dev) (r : Nat) : Dev :=
  match d.rx r with
  | some x => (if x.desc.isSome then d.disc 15 else d).rxDrop r x
  | none => d

/-- Every frame still held is discarded and counted (R56, R348, R350). (DESIGN CHOICE, log entry 36) -/
def Dev.drainFrames (d : Dev) : Dev :=
  let n := d.heldFrames
  let d := (d.sw.rx.map Prod.fst).foldl Dev.giveUpRx d
  let keys := d.sw.frames.map Prod.fst
  let d := (d.dropCopies fun _ => true).1
  let d := { d with
    sw := { d.sw with heads := [], staged := [], hold := [], waitTm := [] }
    look := { d.look with waits := [], released := [] } }
  let d := keys.foldl (fun (d : Dev) k => (d.disc 15).releaseFrame k 5) d
  let d := (d.setNum SWCR.HOLD_UNITS 0).bump PWRM.SPORE_DISC_DRAIN 0 n
  if n = 0 then d else d.raise PWRM.int_DRAIN_TIMEOUT

/-- Whether a task ends with the drain: the packet tasks, and what still runs on a thread. (DESIGN CHOICE, log entry 36) -/
def Dev.endsWithDrain (d : Dev) (c : Nat) (p : Nat × Task) : Bool :=
  pktKind p.2.kind || (p.2.state = 2 && !d.blockedOn c p.1)

/-- A task that is blocked on its thread leaves it (R269). -/
def Dev.leaveThread (d : Dev) (c i : Nat) (t : Task) : Dev :=
  match d.eng.threads.find? fun p => p.1 / 256 = c && p.2.task = some i with
  | some (k, th) => (d.setTask c i (some (t.leave th th.pc))).setThread k {}
  | none => d

/-- The packet tasks of a frond, and what still runs, end. (DESIGN CHOICE, log entry 36) -/
def Dev.drainKill (d : Dev) (c : Nat) : Dev :=
  (d.storeOf c).foldl (fun (d : Dev) (p : Nat × Task) => if d.endsWithDrain c p then d.killTask c p.1 else d) d

/-- The records left in a frond's store go to the rings, ready ones first and in their order (R269).
(DESIGN CHOICE, log entry 36) -/
def Dev.drainSpill (d : Dev) (c : Nat) : Dev :=
  let d := (d.storeOf c).foldl (fun (d : Dev) (p : Nat × Task) => if p.2.state = 2 then d.leaveThread c p.1 p.2 else d) d
  let ready := (List.range 4).flatMap fun p => d.readyOf c p
  let rest := ((d.storeOf c).map Prod.fst).filter fun i => !ready.contains i
  let d := d.each 4 fun d p => d.setReady c p []
  (ready ++ rest).foldl (fun (d : Dev) i => match d.task c i with
    | some t => (d.spill c t).setTask c i none
    | none => d) d

/-- The drain ends: frames are discarded, task records are spilled, cipher runs and locks end.
(DESIGN CHOICE, log entry 36) -/
def Dev.drainEnd (d : Dev) : Dev :=
  let d := d.setFlow { d.flow with waiting := [] }
  let d := ((d.each 8 Dev.drainKill).each 8 Dev.drainSpill).drainFrames.cipherSpore
  d.setSpore { d.spore with phase := 1, since := d.clk.up }

/-- SPORE_DRAIN_END (R56): everything has drained, or DRAIN_TO has passed. -/
def execSporeDrainEnd (s : State) : Host.Outcome State Fault Refusal :=
  s.act fun d => d.when (d.entryAt 0 0 && (d.drained || d.entryAt 0 (d.fld PWRM.SLEEP_CFG_DRAIN_TO * 1000000))) Dev.drainEnd

/-! ### Lanes, packet memory and self-refresh (R56, R57, R392) -/

/-- A port that is not administratively down goes to DOWN and its lanes are powered off. (DEDUCED, log entry 37) -/
def Dev.sporePort (d : Dev) (p : Nat) : Dev :=
  if p = 32 ∨ d.portState p = 0 then d
  else
    let d := d.portCounts p
    let d := d.setPort p { d.port p with retry := none }
    ((d.leave p 7 1 false).setFaults p 0 0 0).lanesOff p

def Dev.lanesDown (d : Dev) : Dev :=
  let d := d.setSpore { d.spore with phase := 2 }
  (d.each 34 Dev.sporePort).tandemFollow

/-- SPORE_LANES_OFF (R56): 50 µs after the drain has ended. -/
def execSporeLanesOff (s : State) : Host.Outcome State Fault Refusal :=
  s.act fun d => d.when (d.entryAt 1 500000) Dev.lanesDown

/-- Channels that are not retired go from one STATE to another. -/
def Dev.chStates (d : Dev) (l : List Nat) (old new : Nat) : Dev :=
  l.foldl (fun d m => if d.chState m = old then d.setFld MEMC.CH_STAT_STATE new m else d) d

/-- The contents of the packet channels are lost (R57, R392). -/
def Dev.packetRelease (d : Dev) : Dev :=
  let d := (d.setSpore { d.spore with phase := 3 }).chStates ((List.range 16).map (48 + ·)) 0 3
  { d with mem := { d.mem with pattern := d.mem.pattern.filter fun p => decide (p.1 / 2 ^ 24 < 48) } }

/-- SPORE_PACKET_MEMORY_RELEASE (R56): 100 µs after the drain has ended. -/
def execSporePacketMemoryRelease (s : State) : Host.Outcome State Fault Refusal :=
  s.act fun d => d.when (d.entryAt 2 1000000) Dev.packetRelease

/-- A wake begins: how long STATE was 2 is reported (R61, R67). (DEDUCED, log entry 37) -/
def Dev.wakeBegin (d : Dev) : Dev :=
  let d := d.setNum PWRM.SPORE_LEN (min (2 ^ 32 - 1) ((d.clk.up - d.spore.since) / 156250000))
  (d.setSpore { d.spore with since := d.clk.up }).setFld PWRM.SLEEP_STAT_STATE 3

/-- The replicas of the islands that SPORE powers down stand still: all but those of time, housekeeping and the host (R115).
(DEDUCED, log entry 121) -/
def Dev.haltReplicas (d : Dev) : Dev :=
  { d with time := { d.time with halted := (List.range 31).map fun i => (i, some (d.islandTenths i)) } }

/-- Flow memory goes into self-refresh with the open records written to it and the segments that PASR_FLOW names released;
what R57 says is lost is lost, and a wake event that was held takes effect (R61, R392). -/
def Dev.selfRefresh (d : Dev) : Dev :=
  let d := d.flow.opened.foldl (fun (d : Dev) p => match p.2 with
    | some o => d.slotStore p.1 o.value (bit o.lo + bit o.hi)
    | none => d) d
  let d := d.setFlow { d.flow with opened := [] }
  let gone := fun (p : Nat × Nat) => bitOf (d.num MEMC.PASR_FLOW) (p.1 % 2 ^ 24 / 2 ^ 21)
  let d := { d with
    eng := { d.eng with spad := [], trace := [] }
    sw := { d.sw with buckets := [], polic := [], samples := [] }
    mem := { d.mem with pattern := d.mem.pattern.filter fun p => !gone p } }
  let d := ((d.setSpore { d.spore with phase := 4, since := d.clk.up }).setFld PWRM.SLEEP_STAT_STATE 2).haltReplicas
  let d := d.chStates (List.range 48) 0 3
  if d.spore.wake.isSome then d.wakeBegin else d

/-- SPORE_SELF_REFRESH (R56): 200 µs after the drain has ended. -/
def execSporeSelfRefresh (s : State) : Host.Outcome State Fault Refusal :=
  s.act fun d => d.when (d.entryAt 3 2000000) Dev.selfRefresh

/-! ### Wake (R59 to R63) -/

/-- A wake event from source `src` (R59): held during entry, at work in SPORE. -/
def Dev.wakeEvent (d : Dev) (src : Nat) : Dev :=
  let st := d.fld PWRM.SLEEP_STAT_STATE
  if (st = 1 ∨ st = 2) ∧ d.spore.wake = none then
    let d := d.setSpore { d.spore with wake := some src }
    if st = 2 then d.wakeBegin else d
  else d

/-- WAKE_N (R59): a falling edge. -/
def execWakeN (s : State) : Host.Outcome State Fault Refusal :=
  s.act fun d => d.when (d.on PWRM.SLEEP_CFG_WAKE_N_EN) fun d => d.wakeEvent 1

/-- A write of 1 to WAKE_REQ over PCIe. (DEDUCED, log entry 37) -/
def Dev.wakeReq (d : Dev) : Dev := d.when (d.on PWRM.SLEEP_CFG_PCIE_WAKE_EN) fun d => d.wakeEvent 2

/-- WAKE_REQ (R59). -/
def execWakeReq (s : State) : Host.Outcome State Fault Refusal := s.act fun d => d.access 0x01 Dev.wakeReq

/-- The device stamp has reached WAKE_AT (R59). -/
def Dev.wakeTimer (d : Dev) : Dev :=
  d.when (d.on PWRM.SLEEP_CFG_TIMER_WAKE_EN &&
    decide (d.num2 PWRM.WAKE_AT_LO PWRM.WAKE_AT_HI ≤ (d.stamp 32).toNat)) fun d => d.wakeEvent 3

/-- WAKE_TIMER (R59). -/
def execWakeTimer (s : State) : Host.Outcome State Fault Refusal := s.act Dev.wakeTimer

/-- A port that waited through SPORE begins its bring-up. (DEDUCED, log entry 37) -/
def Dev.wakePort (d : Dev) (p : Nat) : Dev :=
  if p = 32 ∨ d.portState p = 0 then d
  else (d.setPort p { d.port p with fails := 0, retry := none }).setPortState p (d.waitState p)

/-- The wake completes: pages answer, lanes begin bring-up, admission reopens unless WAKE_HOLD holds it (R60, R62); the sweeps
are told of a SPORE too long for their clocks (R63, R182); a servo that was LOCKED holds over (R119).
(DEDUCED, log entry 37) -/
def Dev.wakeDone (d : Dev) : Dev :=
  let hold := d.on PWRM.SLEEP_CFG_WAKE_HOLD
  let src := d.spore.wake.getD 0
  let len := d.num PWRM.SPORE_LEN
  let d := ((d.setFld PWRM.SLEEP_STAT_STATE 0).setFld PWRM.SLEEP_STAT_LAST_WAKE src).setFld PWRM.SLEEP_STAT_HELD (bit hold)
  let d := if hold then d.setNum FENG.RUN 0 else d
  let long := decide (16588800 ≤ len)
  let mid := decide (d.opState FLOW.SWEEP_STAT = 1 ∧ d.flow.pair ≠ 0)
  let d := d.setSpore { d.spore with
    phase := 0, wake := none, stopped := hold, long := d.spore.long || long,
    longMid := if long then mid else d.spore.longMid,
    longEnd := if long then (if mid then d.flow.pair else 2 ^ 32) else d.spore.longEnd }
  let d := if 131072 ≤ len then { d with look := { d.look with longSweep := [(0, none), (1, none), (2, none), (3, none)] } } else d
  let d := { d with time := { d.time with dev := [], devAt := [], low := [], halted := [] } }
  let d := if d.spore.locked then d.enterHoldover else d
  let d := ((d.chStates (List.range 64) 3 0).each 34 Dev.wakePort).tandemFollow
  (d.raise PWRM.int_WAKE_DONE).log 32 0x0106 (d.num PWRM.SLEEP_STAT) len

/-- WAKE_DONE (R60): 2.0 ms after the wake event. -/
def execWakeDone (s : State) : Host.Outcome State Fault Refusal :=
  s.act fun d => d.when (d.fld PWRM.SLEEP_STAT_STATE = 3 && decide (d.spore.since + 20000000 ≤ d.clk.up)) Dev.wakeDone

/-- ADMIT.GO (R62): admission reopens and RUN returns to its value at entry. -/
def Dev.admission (d : Dev) : Dev :=
  if d.on PWRM.SLEEP_STAT_HELD then
    (((d.setSpore { d.spore with stopped := false }).setFld PWRM.SLEEP_STAT_HELD 0).setNum FENG.RUN d.spore.run).engCounts
  else d

/-- ADMIT (R62). -/
def execAdmit (s : State) : Host.Outcome State Fault Refusal := s.act fun d => d.access 0x01 Dev.admission

end Sys2Proof.Machine
end

