-- ==== Sys2Proof/Machine/Store.lean ====
section
/-! DEFINITION. Patches (R251 to R253, R258, R259), reads of the control store, program counters of the host (R256),
scratchpad DMA (R273, R279) and march tests (R274, R275, R280). -/

namespace Sys2Proof.Machine

/-! ### Patches -/

/-- What the patch registers do before the module is sealed: afterwards a write has no effect but PATCH_REFUSED (R253). -/
def Dev.patchWrite (d : Dev) (f : Dev → Dev) : Dev := if d.otp.sealed then d.raise CSTO.int_PATCH_REFUSED else f d

/-- A change in each frond of PATCH_MASK. -/
def Dev.patchFronds (d : Dev) (f : Dev → Nat → Dev) : Dev :=
  d.each 8 fun d c => if bitOf (d.num CSTO.PATCH_MASK) c then f d c else d

/-- A write of PATCH_SLOT of a slot. -/
def Dev.slotWrite (d : Dev) (slot v : Nat) : Dev :=
  d.patchWrite fun d => d.patchFronds fun d c =>
    { d with eng := { d.eng with patch := d.eng.patch.set 0 (c * 32 + slot) (v % 2 ^ 22 + bit (bitOf v 31) * 2 ^ 31) } }

/-- PATCH_SLOT_WRITE (R252). -/
def execPatchSlotWrite (slot : Nat) (value : Word) (s : State) : Host.Outcome State Fault Refusal :=
  s.act fun d => d.access 0x34 fun d => d.slotWrite (slot % 32) value.toNat

def Dev.rdFrond (d : Dev) : Nat := d.fld CSTO.PATCH_MASK_RD_FROND
def Dev.pramNext (d : Dev) : Dev := d.setNum CSTO.PRAM_IDX ((d.num CSTO.PRAM_IDX + 1) % 256)

/-- A write and a read of PRAM_DATA (R259). (DEDUCED, log entry 13) -/
def Dev.pramWrite (d : Dev) (v : Nat) : Dev :=
  d.patchWrite fun d =>
    let w := d.num CSTO.PRAM_IDX % 256
    (d.patchFronds fun d c => { d with eng := { d.eng with pram := d.eng.pram.set 0 (c * 256 + w) v } }).pramNext
def Dev.pramRead (d : Dev) : Dev × Word :=
  (d.pramNext, BitVec.ofNat 32 (d.eng.pram.get 0 (d.rdFrond * 256 + d.num CSTO.PRAM_IDX % 256)))

/-- PRAM_DATA_ACCESS (R259): a write of a value, or a read on a path. -/
def execPramDataAccess (path : Nat) (value : Option Word) (s : State) : Host.Outcome State Fault Refusal :=
  s.act fun d => d.access 0x34 fun d => match value with
    | some v => d.pramWrite v.toNat
    | none => d.pramRead.1.emit (.words path [d.pramRead.2])

/-- A read of CS_DATA[0] (R259): a microword goes to CS_DATA[0], a nanoword to all eight, of the path.
(DEDUCED, log entry 87) -/
def Dev.csRead (d : Dev) (path : Nat) : Dev × Word :=
  let i := d.num CSTO.CS_IDX % 2 ^ 14
  let nano := d.on CSTO.CS_IDX_SPACE
  let v := if nano then d.eng.nano.get 0 i else d.eng.micro.get 0 i
  let d := d.each (if nano then 8 else 1) fun d j => d.setRegP (CSTO.CS_DATA.ix j) path 0 (BitVec.ofNat 32 (v / 2 ^ (32 * j)))
  (d, d.regP (CSTO.CS_DATA.ix 0) path 0)

/-- CS_DATA_READ (R259). -/
def execCsDataRead (path : Nat) (s : State) : Host.Outcome State Fault Refusal :=
  s.act fun d => d.access 0x34 fun d => (d.csRead path).1.emit (.words path [(d.csRead path).2])

/-- PATCH_STAT.IN_RAM: fronds in which a thread executes in patch RAM. -/
def Dev.inRamFronds (d : Dev) : Nat :=
  ((List.range 8).map fun c => bit (d.eng.threads.any fun p => p.1 / 256 = c && p.2.task.isSome && inRam p.2.pc) * 2 ^ c).sum

/-- SOFT_RESET of CSTO (R258). -/
def Dev.softCsto (d : Dev) : Dev :=
  d.each 256 fun d i =>
    let v := d.eng.patch.get 0 i
    { d with eng := { d.eng with patch := d.eng.patch.set 0 i (v % 2 ^ 31) } }

/-- PCNT_CLR (R256). -/
def execPcntClr (frond : Nat) (s : State) : Host.Outcome State Fault Refusal :=
  s.act fun d => d.access 0x31 fun d => d.setPcnt (frond % 8) (d.num FENG.PCNT_IDX (frond % 8)) 0

/-! ### Scratchpad DMA (R273, R279) -/

/-- DMA_CTRL.GO: DIR 0 is host to scratchpad. A DMA that runs goes on; with ENABLE 0 no word moves (R279). -/
def Dev.spadGo (d : Dev) (c : Nat) (dir : Bool) : Dev :=
  if d.opState SPAD.DMA_STAT c = 1 then d else
    let still := d.eng.still.filter (· ≠ c)
    let d := { d with eng := { d.eng with still := if d.enabled 0x33 then still else c :: still } }
    ((d.startOp SPAD.DMA_STAT c).setFld SPAD.DMA_CTRL_DIR (bit dir) c).counts (SPAD.DMA_WAIT.key 0 c)

def Dev.spadWords (d : Dev) (c : Nat) : Nat := d.num SPAD.DMA_LEN c / 32

/-- The first `n` words move. (DEDUCED, log entry 87) -/
def Dev.spadMove (d : Dev) (c n : Nat) : Dev :=
  let h := d.num2 SPAD.DMA_HOST_LO SPAD.DMA_HOST_HI c
  let a := d.num SPAD.DMA_SPAD c
  if d.on SPAD.DMA_CTRL_DIR c then d.dmaWrite h (d.spadRead c a (32 * n))
  else Dev.emitWaiting 256 (d.spadWrite c a (d.dmaRead h (32 * n))) c

/-- An abort after `done` words: none where ENABLE has been 0 ever since GO (R279). -/
def Dev.spadAbort (d : Dev) (c done : Nat) : Dev :=
  let n := if d.eng.still.contains c then 0 else min done (d.spadWords c - 1)
  d.abortOp SPAD.DMA_STAT c fun d => (d.spadMove c n).setNum SPAD.DMA_STAT (statusWord 3 0 n) c

/-- The DMA ends: with its last word, or FAILED after `done` of them on a PCIe error or a word that reads uncorrectably (R467, kind 3).
(DEDUCED, log entry 87) -/
def Dev.spadDone (d : Dev) (c done : Nat) (ue : Guard) : Dev :=
  if d.opState SPAD.DMA_STAT c ≠ 1 || !d.enabled 0x33 then d else
  let n := min done (d.spadWords c)
  let ok := decide (d.spadWords c ≤ done) && decide (ue ≠ .bad)
  let d := d.guarded (islandOfFrond c) 3 (d.num SPAD.DMA_SPAD c / 32 + n) ue
  ((d.spadMove c n).endOp SPAD.DMA_STAT c (if ok then 2 else 4) n).raise
    (if ok then SPAD.int_DMA_DONE else SPAD.int_DMA_FAIL)

/-- DMA_GO (R273). -/
def execDmaGo (frond : Nat) (dir : Bool) (s : State) : Host.Outcome State Fault Refusal :=
  s.act fun d => d.access 0x33 fun d => d.spadGo (frond % 8) dir
/-- DMA_ABORT (R273). -/
def execDmaAbort (frond done : Nat) (s : State) : Host.Outcome State Fault Refusal :=
  s.act fun d => d.access 0x33 fun d => d.spadAbort (frond % 8) done
/-- DMA_DONE (R273): `done` words moved; fewer than all is a PCIe error, unless `ue` says that a word read uncorrectably. -/
def execDmaDone (frond done : Nat) (ue : Guard) (s : State) : Host.Outcome State Fault Refusal :=
  s.run fun d => d.spadDone (frond % 8) done ue

/-- SOFT_RESET of SPAD (R279). (DEDUCED, log entry 10) -/
def Dev.softSpad (d : Dev) (done : Nat) : Dev :=
  d.each 8 fun d c => if d.opState SPAD.DMA_STAT c = 1 then d.spadAbort c (partOf done c) else d

/-! ### March tests (R274, R275) -/

def islandOfTarget (t : Nat) : Nat := if t = 8 then 21 else 13 + t

/-- Whether the table of R274 allows a mode on a target in service. -/
def Dev.marchAllowed (d : Dev) (t mode : Nat) : Bool :=
  match mode with
  | 0 => decide (t < 8) && !bitOf (d.num FENG.RUN) t && d.threadsBusy t = 0
  | 1 => decide (t < 8)
  | 2 => t = 8
  | _ => false

def Dev.marchStart (d : Dev) (t mode : Nat) : Dev :=
  let d := d.startOp MARC.MARCH_STAT t
  { d with eng := { d.eng with march := d.eng.march.set 0 t mode } }

/-- MARCH_CTRL.GO: what the table does not allow is refused, and a test that runs goes on. (DEDUCED, log entry 87) -/
def Dev.marchGo (d : Dev) (t mode : Nat) : Dev :=
  if mode = 3 then d
  else if !d.marchAllowed t mode then d.raise MARC.int_REFUSED
  else if d.opState MARC.MARCH_STAT t = 1 then d else d.marchStart t mode

/-- A whole scratchpad written: byte `k` of it becomes `f k`. (DEDUCED, log entry 32) -/
def Dev.spadFill (d : Dev) (c : Nat) (f : Nat → Byte) : Dev :=
  let lo := d.eng.spad.filter fun p => decide (p.1 < c * 2 ^ 20)
  let hi := d.eng.spad.filter fun p => decide ((c + 1) * 2 ^ 20 ≤ p.1)
  let new := ((List.range (2 ^ 20)).map fun k => (c * 2 ^ 20 + k, f k)).filter fun p => p.2 ≠ 0
  { d with eng := { d.eng with spad := lo ++ new ++ hi } }

/-- A failing cell is withheld from pool 0 until the next start-up. -/
def Dev.withhold (d : Dev) (cell : Nat) : Dev :=
  if d.unitFree 0 cell then
    let d := { d with sw := { d.sw with withheld := d.sw.withheld ++ [cell] } }
    (d.setNum BUFM.FREE0 (d.num BUFM.FREE0 - 1)).bump MARC.WITHHELD 8
  else d

/-- What a test has found is shown: its failures counted, the first one named, failing cells withheld. -/
def Dev.marchNote (d : Dev) (t : Nat) (fails : List Nat) : Dev :=
  let d := (d.setNum MARC.FAILS (fails.length % 2 ^ 20) t).setNum MARC.FIRST_FAIL
    (match fails with | x :: _ => x % 2 ^ 20 + 2 ^ 31 | [] => 0) t
  let d := d.setNum2 MARC.END_STAMP_LO MARC.END_STAMP_HI (d.stamp (islandOfTarget t)).toNat t
  if t = 8 then (fails.foldl Dev.withhold d).evalAll else d

/-- What a test in service has found: shown, and each failing word of a scratchpad reported (R275). (DEDUCED, log entry 87) -/
def Dev.marchFound (d : Dev) (t : Nat) (fails : List Nat) : Dev :=
  let d := d.marchNote t fails
  if fails = [] ∨ t = 8 then d
  else (d.raise MARC.int_FAIL).each fails.length fun d _ => d.log (islandOfTarget t) 0x7001 t (d.num MARC.FIRST_FAIL t)

/-- The number of words, or of cells, that a test counts as progress. -/
def marchSize (t : Nat) : Nat := if t = 8 then 262144 else 32768

/-- The test of the last address: in mode 0 the scratchpad holds the words of the last element that wrote.
(DEDUCED, log entry 87) -/
def Dev.marchEnd (d : Dev) (t : Nat) (fails : List Nat) : Dev :=
  if d.opState MARC.MARCH_STAT t ≠ 1 then d else
  let d := if d.eng.march.get 0 t = 0 ∧ t < 8 then d.spadFill t fun _ => 0xFF else d
  ((d.marchFound t fails).endOp MARC.MARCH_STAT t 2 (marchSize t)).raise MARC.int_DONE

/-- An abort: in mode 0 the scratchpad holds test data, an open value byte by byte; otherwise words and cells are whole.
(DEDUCED, log entry 87) -/
def Dev.marchAbort (d : Dev) (t done : Nat) (fails : List Nat) : Dev :=
  d.abortOp MARC.MARCH_STAT t fun d =>
    let d := if d.eng.march.get 0 t = 0 ∧ t < 8 then
        let n := d.frees
        { d.spadFill t fun k => BitVec.ofNat 8 (Config.free (n + k)).toNat with frees := n + 2 ^ 20 }
      else d
    (d.marchFound t fails).setNum MARC.MARCH_STAT (statusWord 3 0 (min done (marchSize t - 1))) t

/-- MARCH_GO (R274). -/
def execMarchGo (target mode : Nat) (s : State) : Host.Outcome State Fault Refusal :=
  s.act fun d => d.access 0x70 fun d => d.marchGo (target % 9) (mode % 4)
/-- MARCH_ABORT (R275): `fails` are the failures found so far. -/
def execMarchAbort (target done : Nat) (fails : List Nat) (s : State) : Host.Outcome State Fault Refusal :=
  s.act fun d => d.access 0x70 fun d => d.marchAbort (target % 9) done fails
/-- MARCH_DONE (R275). -/
def execMarchDone (target : Nat) (fails : List Nat) (s : State) : Host.Outcome State Fault Refusal :=
  s.run fun d => d.marchEnd (target % 9) fails

/-- At each INTERVAL, mode 1 on every scratchpad and mode 2 on the shared buffer. -/
def Dev.marchAuto (d : Dev) : Dev :=
  let n := d.fld MARC.AUTO_INTERVAL
  let now := d.upMs / 1000
  if !d.enabled 0x70 || n = 0 || decide (now < d.eng.marchS + n) then d else
  let d := { d with eng := { d.eng with marchS := now } }
  d.each 9 fun d t => if d.opState MARC.MARCH_STAT t = 1 then d else d.marchStart t (if t = 8 then 2 else 1)

/-- MARCH_AUTO (R280). -/
def execMarchAuto (s : State) : Host.Outcome State Fault Refusal := s.run Dev.marchAuto

/-- SOFT_RESET of MARC (R280). -/
def Dev.softMarc (d : Dev) (done : Nat) (found : List Nat) : Dev :=
  d.each 9 fun d t => if d.opState MARC.MARCH_STAT t = 1 then
      d.marchAbort t (partOf done t) ((found.filter fun x => x / 2 ^ 20 = t).map (· % 2 ^ 20))
    else d

end Sys2Proof.Machine
end

