-- ==== Sys2Proof/Machine/BusRead.lean ====
section
/-! DEFINITION. Register reads (R6, R7, R39, R58, R70 to R77): what each register shows, the values that are worked out when they
are read, and what a read does. -/

namespace Sys2Proof.Machine

/-! ### The common header (R70) -/

/-- The status registers of a page's abortable operations, with the number of channels of each (R87). -/
def opsOf (page : Nat) : List (Reg × Nat) :=
  match page with
  | 0x20 => [(PARS.GRAPH_STAT, 1)]
  | 0x2A => [(CLSF.LOAD_STAT, 1)]
  | 0x2B => [(ANCH.LOAD_STAT, 1)]
  | 0x30 => [(FLOW.SWEEP_STAT, 1), (FLOW.REBUILD_STAT, 1)]
  | 0x32 => [(TASK.MIRROR_STAT, 8)]
  | 0x33 => [(SPAD.DMA_STAT, 8)]
  | 0x38 => [(CIPH.RUN_STAT, 8)]
  | 0x40 => [(BUFM.AUDIT_STAT, 1)]
  | 0x50 => [(MEMC.SCRUB_STAT, 64)]
  | 0x51 => [(MTRN.STEP_STAT, 64)]
  | 0x58 => [(TNDM.RESYNC_STAT, 1)]
  | 0x68 => [(HOST.TDMA_STAT, 1)]
  | 0x70 => [(MARC.MARCH_STAT, 9)]
  | _ => []

/-- The pages whose blocks hold a copy per pipeline. -/
def pipePages : List Nat := [0x20, 0x21, 0x28, 0x29, 0x2A, 0x2B]

/-- STAT of a page (R70): READY, BUSY, ERROR, DIRTY and PAUSED. (DEDUCED, log entry 11) -/
def Dev.pageStat (d : Dev) (page : Nat) : Nat :=
  let busy := (opsOf page).any fun x => (List.range x.2).any fun ch => d.opState x.1 ch = 1
  let paused := match d.pause with | some p => p.reached && pipePages.contains page | none => false
  bit (d.on TOP.BOOT_STATUS_READY) + bit busy * 2 + bit (d.fld (ERR_INFO_CAUSE page) ≠ 0) * 4 + bit (d.dirty.contains page) * 8 + bit paused * 16

/-- Whether CTRL.SOFT_RESET of a page still reads 1: on ISLE until the changes of pace have ended (R103).
(DEDUCED, log entry 10) -/
def Dev.softBusy (d : Dev) (page : Nat) : Bool := d.resetting.contains page && d.isles.any fun p => p.2.soft ≠ 0

/-- A word of the header, where it is not a register of its own. (DEDUCED, log entry 11) -/
def Dev.header (d : Dev) (page off : Nat) : Option Nat :=
  match off with
  | 0x000 => some (0x5A000100 + page * 65536)
  | 0x004 => some (hdrOf page).caps
  | 0x008 => some (d.num (CTRL page) + bit (d.softBusy page) * 2)
  | 0x00C => some (d.pageStat page)
  | 0x018 => some (d.pend page).toNat
  | 0x01C => some 0
  | 0x024 => some (hdrOf page).selMax
  | 0x028 => some (d.num (COMMIT page) + bit d.commit.isSome * 2 ^ 18)
  | 0x038 => some 0
  | _ => none

/-- A header word that is a register of its own. (DEDUCED, log entry 11) -/
def headerReg (page off : Nat) : Option Reg :=
  match off with
  | 0x010 => some (INT_RAW page)
  | 0x014 => some (INT_EN page)
  | 0x020 => some (SEL page)
  | 0x02C => some (ERR_INFO page)
  | 0x030 => some (ERR_STAMP_LO page)
  | 0x034 => some (ERR_STAMP_HI page)
  | 0x03C => some (SCRATCH page)
  | _ => none

/-- The register rows of a page beyond its header. -/
def pageRows (page : Nat) : List Reg :=
  match page with
  | 0x00 => TOP.rows | 0x01 => PWRM.rows | 0x02 => CFGL.rows | 0x03 => FUSE.rows | 0x04 => ISLE.rows | 0x05 => TIME.rows
  | 0x10 => LANE.rows | 0x11 => PORT.rows | 0x12 => PTPS.rows | 0x20 => PARS.rows | 0x21 => FRAG.rows | 0x28 => FWDT.rows
  | 0x29 => LPMT.rows | 0x2A => CLSF.rows | 0x2B => ANCH.rows | 0x30 => FLOW.rows | 0x31 => FENG.rows | 0x32 => TASK.rows
  | 0x33 => SPAD.rows | 0x34 => CSTO.rows | 0x38 => CIPH.rows | 0x39 => CHKV.rows | 0x40 => BUFM.rows | 0x41 => SWCR.rows
  | 0x48 => TMGR.rows | 0x49 => SHAP.rows | 0x4A => POLC.rows | 0x4B => GATE.rows | 0x50 => MEMC.rows | 0x51 => MTRN.rows
  | 0x58 => TNDM.rows | 0x60 => PERF.rows | 0x61 => STAT.rows | 0x62 => EVLG.rows | 0x68 => HOST.rows | 0x69 => MGMT.rows
  | 0x70 => MARC.rows | _ => []

/-- The register at an offset of a page. -/
def regAt (page off : Nat) : Option Reg :=
  match headerReg page off with
  | some r => some r
  | none => findRow off (pageRows page)

/-! ### Values worked out at the read -/

/-- INT_SUMMARY `k` (R74): the bits of reserved pages read 0. -/
def Dev.summary (d : Dev) (k : Nat) : Nat :=
  ((List.range 32).map fun i => bit ((pageHdr (32 * k + i)).isSome && d.pend (32 * k + i) ≠ 0) <<< i).sum

/-- INFO of an island: its clock in MHz and its kind (R104). -/
def islandInfo (i : Nat) : Nat :=
  let x := fun mhz kind => mhz + kind * 65536
  if i < 8 then x 1250 0 else if i = 8 then x 1250 1 else if i < 13 then x 1250 2 else if i < 21 then x 1600 3
  else if i = 21 then x 1250 4 else if i = 22 then x 1500 5 else if i < 31 then x 1067 6 else if i = 31 then x 625 7
  else if i = 32 then x 400 8 else x 500 9

/-- What the FUSE page shows of the fuses (R469, R473, R475). (DESIGN CHOICE, log entry 6) -/
def Dev.fuseView (d : Dev) (off : Nat) : Option Nat :=
  if off = 0x400 then some d.otp.ident0.toNat
  else if off = 0x404 then some d.otp.ident1.toNat
  else if off = 0x408 then some d.otp.ident2.toNat
  else if off = 0x40C then some d.otp.ident3.toNat
  else if 0x410 ≤ off ∧ off < 0x440 then some (bitsOf d.otp.hash.toNat (8 * (off - 0x410)) 32)
  else if off = 0x440 then some d.fuseState
  else if off = 0x48C then some 0x0323214B
  else none

/-- What the pipelines' pages show of their tables (R159, R170, R171, R182, R191). -/
def Dev.tableView (d : Dev) (page off : Nat) : Option Nat :=
  let p := off % 16 / 4
  if page = 0x20 ∧ off = 0x408 then some (d.parseStart (d.num PARS.RD_PIPE % 4))
  else if page = 0x21 ∧ 0x410 ≤ off ∧ off < 0x420 then
    some ((d.look.frags.filter fun x => x.1 / 8192 = p && (match x.2 with | some e => !d.fragDead d.cgen e | none => false)).length + (d.waitsOf p).length * 65536)
  else if page = 0x28 ∧ 0x600 ≤ off ∧ off < 0x610 then
    some (d.hostOcc p)
  else if page = 0x29 ∧ off = 0x428 then some (d.lpmOcc false)
  else if page = 0x29 ∧ off = 0x42C then some (d.lpmOcc true)
  else if page = 0x29 ∧ off = 0x430 then some d.lpmHoles
  else none

/-- What FLOW shows of its table (R206, R229). -/
def Dev.flowView (d : Dev) (off ch : Nat) : Option Nat :=
  match off with
  | 0x044 => some (d.flowZoneRecs ch)
  | 0x400 => some (d.altMask + d.fld FLOW.SLOT_CFG_SIZE * 2 ^ 27)
  | 0x424 => some d.flowOcc
  | 0x42C => some d.flowAltRecs
  | 0x430 => some d.flowSpillSlots
  | _ => none

/-- What TASK, FENG and CSTO show of the fronds (R256, R259, R277). -/
def Dev.frondView (d : Dev) (page off ch : Nat) : Option Nat :=
  let tasks := (d.storeOf ch).map Prod.snd
  let among := fun (st : Nat) => (tasks.filter fun t => t.state = st).length
  if page = 0x31 ∧ off = 0x040 then some (d.threadsBusy ch)
  else if page = 0x32 ∧ off = 0x040 then some (tasks.length + d.blockedHeld ch * 65536)
  else if page = 0x32 ∧ off = 0x044 then
    some ((List.range 4).map fun p => min 255 (d.readyOf ch p).length * 2 ^ (8 * p)).sum
  else if page = 0x32 ∧ off = 0x048 then some (among 4)
  else if page = 0x32 ∧ 0x04C ≤ off ∧ off < 0x05C then some (d.ringOf ch ((off - 0x04C) / 4)).length
  else if page = 0x34 ∧ off = 0x040 then some (d.eng.patch.get 0 (d.rdFrond * 32 + ch))
  else if page = 0x34 ∧ off = 0x434 then some (d.inRamFronds + bit d.otp.sealed * 256)
  else none

/-- What CIPH and CHKV show of their units (R311, R313, R316, R321). -/
def Dev.unitView (d : Dev) (page off ch : Nat) : Option Nat :=
  if page = 0x38 ∧ off = 0x044 then some (d.lockStat ch)
  else if page = 0x38 ∧ off = 0x048 then
    some (if (d.cipher ch).holder.isSome then min (2 ^ 32 - 1) (d.cyclesSince ch (d.cipher ch).granted) else 0)
  else if page = 0x38 ∧ off = 0x074 then some (d.keyStat ch)
  else if page = 0x38 ∧ off = 0x088 then some (d.nonceCnt ch % 2 ^ 32)
  else if page = 0x38 ∧ off = 0x08C then some (d.nonceCnt ch / 2 ^ 32)
  else if page = 0x39 ∧ (off = 0x044 ∨ off = 0x048 ∨ off = 0x06C ∨ off = 0x070) then
    some ((d.regP { page := 0x39, off := off, acc := .rw } 0 ch).toNat % d.chkRange ch off)
  else if page = 0x39 ∧ off = 0x060 then some (d.ctxShow ch % 2 ^ 32)
  else if page = 0x39 ∧ off = 0x064 then some (d.ctxShow ch / 2 ^ 32)
  else if page = 0x39 ∧ off = 0x078 then some (userWord (d.ctxOwner ch))
  else none

/-- Whether a node has something to send that its bucket allows (R359). -/
def Dev.nodeEligible (d : Dev) (k : Nat) : Bool :=
  if k < 32768 then (d.readySubs (d.chainPort k)).contains k
  else if k < 36864 then (d.readySvcs (d.fld SHAP.SCHED_PARENT k)).contains (k - 32768)
  else !(d.portCands (k - 36864)).isEmpty && d.peakOk k

/-- Whether every class of a port is shut or paused. -/
def Dev.portGated (d : Dev) (n : Nat) : Bool :=
  (List.range 8).all fun c => !bitOf (d.gatesOpen n) c || bitOf (d.xoffRx n) (wirePri n c)

/-- A bucket in bytes, rounded down. -/
def bytesOf (x : Int) : Nat := toBits 32 (x / 65536)

/-- What BUFM, SWCR, TMGR, SHAP, POLC and GATE show (R337, R351, R352, R358, R374 to R376). -/
def Dev.tmView (d : Dev) (page off ch : Nat) : Option Nat :=
  if page = 0x40 ∧ off = 0x414 then some d.setaside
  else if page = 0x40 ∧ off = 0x420 then some (setBits (d.num BUFM.GSTAT) 16 11 d.sw.spillq.length)
  else if page = 0x41 ∧ off = 0x048 then
    let held := (d.sw.queues.map fun q => (q.2.filter fun c => c.held && c.port = ch).length).sum
    let on := d.sw.hold.any fun h => h.1 / 9 = ch && h.2.isSome
    some (bit on + held * 256)
  else if page = 0x48 ∧ 0x060 ≤ off ∧ off < 0x080 then some (d.queue (8 * ch + (off - 0x060) / 4)).length
  else if page = 0x49 ∧ off = 0x058 then some (bytesOf (d.bucket ch).c)
  else if page = 0x49 ∧ off = 0x05C then some (bytesOf (d.bucket ch).p)
  else if page = 0x49 ∧ off = 0x060 then
    some (bit (d.nodeEligible ch) + bit (d.committed ch) * 2 + bit (decide (36864 ≤ ch) && d.portGated (ch - 36864)) * 4)
  else if page = 0x4A ∧ off = 0x054 then some ((d.policNow ch).c / 65536)
  else if page = 0x4A ∧ off = 0x058 then some ((d.policNow ch).e / 65536)
  else if page = 0x4B ∧ off = 0x084 then some (d.gateStat ch)
  else if page = 0x4B ∧ off = 0x078 then some (d.gclView ch).1
  else if page = 0x4B ∧ off = 0x07C then some (d.gclView ch).2
  else none

/-- The rate in force on a lane, coded as TEST_RATE (R132, R149): a lane in no port has its test rate, and T0 to T3 run at 100G. -/
def Dev.laneRate (d : Dev) (l : Nat) : Nat :=
  if 32 ≤ l then (if d.lanePowered l then 4 else 0)
  else match d.portOfLane l with
    | some _ => d.fld LANE.LANE_STAT_RATE l
    | none => if d.lanePowered l then d.fld LANE.LANE_CFG_TEST_RATE l else 0

/-- RETIRE_STAT: the PROGRESS of a packet channel's retirement is the number of its blocks that hold no frame (R402, R404). -/
def Dev.retireStat (d : Dev) : Nat :=
  match d.mem.retire with
  | some r => if 48 ≤ r.channel then setBits (d.num MEMC.RETIRE_STAT) 8 24 (d.idleBlocks r.channel / 1024) else d.num MEMC.RETIRE_STAT
  | none => d.num MEMC.RETIRE_STAT

/-- What the other pages show. (DESIGN CHOICE, log entry 9) -/
def Dev.otherView (d : Dev) (page off ch : Nat) : Option Nat :=
  if page = 0x00 ∧ 0x430 ≤ off ∧ off < 0x440 then some (d.summary ((off - 0x430) / 4))
  else if page = 0x01 ∧ off = 0x40C then
    some (setBits (setBits (d.num PWRM.SUPPLY_STAT) 1 1 (bit (d.sup.drive || d.sup.padLow))) 3 1 (bit d.sup.recording.isSome))
  else if page = 0x04 ∧ 0x054 ≤ off ∧ off < 0x064 then some (d.resMs ch ((off - 0x054) / 4))
  else if page = 0x04 ∧ off = 0x064 then some (islandInfo ch)
  else if page = 0x10 ∧ off = 0x04C then some (setBits (d.num LANE.LANE_STAT ch) 4 3 (d.laneRate ch))
  else if page = 0x11 ∧ off = 0x060 then
    some (min 65535 (d.penalty ch / 65536) + d.fld PORT.FLAP_PENALTY_SUPPRESSED ch * 65536)
  else if page = 0x12 ∧ off = 0x054 then some (d.txtsTag ch).toNat
  else if page = 0x50 ∧ off = 0x414 then some (d.retireStat)
  else if page = 0x58 ∧ off = 0x410 then some d.tandem.check
  else if page = 0x58 ∧ off = 0x42C then some d.keyTag
  else if page = 0x58 ∧ off = 0x468 then some d.tandem.journal.length
  else if page = 0x68 ∧ HOST.MSIX_PBA.off ≤ off ∧ off < HOST.MSIX_PBA.off + 8 then
    some ((List.range 32).map fun i => bit (d.msixPending ((off - HOST.MSIX_PBA.off) / 4 * 32 + i)) * 2 ^ i).sum
  else if page = 0x68 ∧ off = 0x068 then
    some (bit (bitOf d.ringIrqs ch) + bit (!d.ringPosted ch) * 2 + d.fld HOST.RING_STAT_HALTED ch * 4)
  else none

/-- The value of a register that is worked out when it is read. (DESIGN CHOICE, log entry 9) -/
def Dev.viewed (d : Dev) (page off ch : Nat) : Option Nat :=
  match page with
  | 0x03 => d.fuseView off
  | 0x20 => d.tableView page off | 0x21 => d.tableView page off | 0x28 => d.tableView page off | 0x29 => d.tableView page off
  | 0x30 => d.flowView off ch
  | 0x31 => d.frondView page off ch | 0x32 => d.frondView page off ch | 0x34 => d.frondView page off ch
  | 0x38 => d.unitView page off ch | 0x39 => d.unitView page off ch
  | 0x40 => d.tmView page off ch | 0x41 => d.tmView page off ch | 0x48 => d.tmView page off ch | 0x49 => d.tmView page off ch | 0x4A => d.tmView page off ch
  | 0x4B => d.tmView page off ch
  | _ => d.otherView page off ch

/-- Registers whose contents only the lanes' analogue parts, the FEC decoders, the pattern checkers and the arbiters of ports, banks
and mergers know: the spec gives the model nothing to work them out from. -/
def openRead (page off : Nat) : Bool :=
  (page = 0x10 && (off = 0x048 || off = 0x054 || off = 0x05C)) || (page = 0x11 && (off = 0x074 || off = 0x078)) ||
    (page = 0x33 && (off = 0x058 || off = 0x05C || off = 0x060)) || (page = 0x41 && off = 0x49C) ||
    (page = 0x30 && off = 0x488) || (page = 0x32 && off = 0x0B8)

/-- The status words whose PROGRESS no row brings while their operation runs, with what PROGRESS stays below: the leak audit, a scrub
pass, a training step (R88). (DESIGN CHOICE, log entry 114) -/
def Dev.openStat (d : Dev) (page off ch : Nat) : Option (Reg × Nat) :=
  let x : Option (Reg × Nat) :=
    if page = 0x40 ∧ off = BUFM.AUDIT_STAT.off then some (BUFM.AUDIT_STAT, 1088)
    else if page = 0x50 ∧ off = MEMC.SCRUB_STAT.off then some (MEMC.SCRUB_STAT, 131072)
    else if page = 0x51 ∧ off = MTRN.STEP_STAT.off then some (MTRN.STEP_STAT, 2 ^ 24) else none
  x.filter fun x => d.opState x.1 ch = 1

/-! ### Reads (R7, R69, R71 to R73, R77) -/

/-- The channel that a path's SEL selects on a page (R72). -/
def Dev.selOf (d : Dev) (path page : Nat) : Nat := (d.regP (SEL page) path 0).toNat % 65536

/-- The channel under which a window register is kept: a parse-graph node is that of a pipeline (R159). -/
def Dev.keyCh (d : Dev) (page ch : Nat) : Nat := if page = 0x20 then 256 * (d.num PARS.RD_PIPE % 4) + ch else ch

/-- What a read of a row's register returns by its access type, with what the read clears. -/
def Dev.rowRead (d : Dev) (path : Nat) (r : Reg) (ch : Nat) : Dev × Word :=
  match r.acc with
  | .wo => (d, 0)
  | .w1s => (d, d.regP r path ch)
  | .st => (d, if (d.regP TOP.VIEW path 0).getLsbD 0 then d.shadowOf r ch else d.reg r ch)
  | .rc => (d.setRegP r path ch (r.rstOf ch), d.regP r path ch)
  | .rw => (d, d.regP r path ch)
  | .ro => (d, d.regP r path ch)
  | .w1c => (d, d.regP r path ch)

/-- Whether a request that has reached its merger waits there for a thing `p` tells (R222, R262). -/
def Dev.waitsFor (d : Dev) (p : ReqBlock → Bool) : Bool :=
  d.flow.arrivals.any fun k => match d.frame k with
    | some f => f.stage = .request && (match d.reqBlock k f (none, none) with | some b => p b | none => false)
    | none => false

/-- Whether what an `openRead` register counts can go on now. -/
def Dev.openRuns (d : Dev) (page off ch : Nat) : Bool :=
  if page = 0x10 then (if off = 0x054 then d.laneChecks ch else d.lanePowered ch)
  else if page = 0x11 then d.fecRuns ch
  else if page = 0x33 then
    if off = 0x05C then d.opState SPAD.DMA_STAT ch = 1 || d.opState TASK.MIRROR_STAT ch = 1 || d.traceQ ch ≠ []
    else bitOf (d.num FENG.RUN) ch || d.threadsBusy ch ≠ 0
  else if page = 0x30 then d.waitsFor fun b => decide (b = .room)
  else if page = 0x32 then d.waitsFor fun b => decide (b = .store ch)
  else d.num SWCR.DESC_USED ≠ 0

/-- A read of an `openRead` register: an open value if it may have counted, and otherwise its reset value 0. A read clears an RC
one. (DESIGN CHOICE, log entry 9) -/
def Dev.openValue (d : Dev) (r : Reg) (ch : Nat) : Dev × Word :=
  let k := r.key 0 ch
  let runs := d.openRuns r.page r.off ch
  if runs || d.sw.counted.contains k then
    ((if r.acc = .rc && !runs then d.countsNot k else d).freed, BitVec.ofNat 32 d.freeVal.toNat &&& BitVec.ofNat 32 r.mask)
  else (d, 0)

/-- Reads that do something beside: NOW_NS, TXTS_TAG, PCNT_LO, PRAM_DATA, CS_DATA, TX_BYTES_LO, GCL_TIME, and the low words of
the counters of PERF and STAT. -/
def Dev.readEffect (d : Dev) (path page off ch : Nat) : Option (Dev × Word) :=
  if page = 0x05 ∧ off = 0x400 then some (d.readNow path)
  else if page = 0x12 ∧ off = 0x054 then some (d.readTxts path ch, d.txtsTag ch)
  else if page = 0x31 ∧ off = 0x070 then
    let v := d.pcnt ch (d.num FENG.PCNT_IDX ch % 8192)
    some (d.setRegP FENG.PCNT_HI path ch (BitVec.ofNat 32 (v / 2 ^ 32)), BitVec.ofNat 32 v)
  else if page = 0x31 ∧ off = 0x044 then
    let v := d.eng.issued.get 0 ch
    some (d.setRegP FENG.ISSUED_HI path ch (BitVec.ofNat 32 (v / 2 ^ 32)), BitVec.ofNat 32 v)
  else if page = 0x34 ∧ off = 0x408 then some d.pramRead
  else if page = 0x34 ∧ off = 0x410 then some (d.csRead path)
  else if page = 0x49 ∧ off = 0x068 then
    let v := d.sw.txBytes.get 0 ch
    some (d.setRegP SHAP.TX_BYTES_HI path ch (BitVec.ofNat 32 (v / 2 ^ 32)), BitVec.ofNat 32 v)
  else if page = 0x4B ∧ off = 0x07C then some (d.gclAdvance ch, BitVec.ofNat 32 (d.gclView ch).2)
  else if page = 0x60 ∧ 0x440 ≤ off ∧ off < 0x640 then some (d.ovfRead ((off - 0x440) / 4))
  else match d.openStat page off ch with
    | some (r, total) => some (d.freed, BitVec.ofNat 32 (setBits (d.num r ch) 8 24 (d.freeVal.toNat % total)))
    | none => d.latchRead path page off ch

/-- AUTOINC: after an access to the last window word the channel advances, and wraps from the highest one to 0 (R73). -/
def Dev.autoInc (d : Dev) (path page off : Nat) : Dev :=
  let sel := d.regP (SEL page) path 0
  let top := (hdrOf page).selMax % 65536
  let last := (hdrOf page).selMax / 65536 % 256
  if sel.getLsbD 31 && 0x40 ≤ off && off = 4 * last then
    let ch := sel.toNat % 65536
    d.setRegP (SEL page) path 0 (BitVec.ofNat 32 ((if top ≤ ch then 0 else ch + 1) + 2 ^ 31))
  else d

/-- A read of the word at an offset of an open page. -/
def Dev.pageRead (d : Dev) (path page off : Nat) : Dev × Word :=
  let d := if page = 0x48 ∧ off = TMGR.COPY_WAIT.off then d.settleWait else d
  let ch := d.selOf path page
  if openRead page off then
    match regAt page off with | some r => d.openValue r ch | none => (d, 0)
  else match d.header page off with
  | some v => (d, BitVec.ofNat 32 v)
  | none =>
    match d.readEffect path page off ch with
    | some x => x
    | none =>
      match d.viewed page off ch with
      | some v => (d, BitVec.ofNat 32 v)
      | none =>
        match regAt page off with
        | some r => d.rowRead path r (d.keyCh page ch)
        | none => (d, 0)

/-- A read of a BAR0 word by a path: a page that does not answer reads 0, and in SPORE the access is recorded (R39, R58). -/
def Dev.busRead (d : Dev) (path off : Nat) : Dev × Word :=
  let page := off / 4096
  let o := off % 4096 / 4 * 4
  if d.pageOpen page then
    let x := d.pageRead path page o
    (x.1.autoInc path page o, x.2)
  else (d.access page id, 0)

/-- A read on a path, with its answer given out. -/
def Dev.busAnswer (d : Dev) (path off : Nat) : Dev :=
  let x := d.busRead path off
  x.1.emit (.words path [x.2])

/-- READ_CLEAR (R7): a read of a register of type RC. -/
def execReadClear (path off : Nat) (s : State) : Host.Outcome State Fault Refusal :=
  s.act fun d => d.busAnswer path off

/-- ERR_INFO_READ (R71). -/
def execErrInfoRead (path page : Nat) (s : State) : Host.Outcome State Fault Refusal :=
  s.act fun d => d.busAnswer path (page % 128 * 4096 + 0x02C)

end Sys2Proof.Machine
end

