-- ==== Sys2Proof/Machine/Loaders.lean ====
section
/-! DEFINITION. The loaders that replace pause-governed memory from host memory (R159, R160, R201, R232): parse graph,
classifier banks, anchor table. -/

namespace Sys2Proof.Machine

/-- A loader: its page, the offset of its control register, its status word, and the interrupts of its ends. -/
structure LoaderAt where
  page : Nat
  ctrl : Nat
  stat : Reg
  done : IntBit
  fail : IntBit
  deriving DecidableEq, Repr

def graphLoader : LoaderAt := ⟨0x20, 0x41C, PARS.GRAPH_STAT, PARS.int_GRAPH_DONE, PARS.int_GRAPH_FAIL⟩
def bankLoader : LoaderAt := ⟨0x2A, 0x41C, CLSF.LOAD_STAT, CLSF.int_LOAD_DONE, CLSF.int_LOAD_FAIL⟩
def anchorLoader : LoaderAt := ⟨0x2B, 0x40C, ANCH.LOAD_STAT, ANCH.int_LOAD_DONE, ANCH.int_LOAD_FAIL⟩

def Dev.loader (d : Dev) (l : LoaderAt) : Loader := d.look.loaders.get {} l.page
def Dev.setLoader (d : Dev) (l : LoaderAt) (x : Loader) : Dev :=
  { d with look := { d.look with loaders := d.look.loaders.set {} l.page x } }

/-- The pipelines that a loader's writes reach. -/
def Dev.loaderMask (d : Dev) (l : LoaderAt) : Nat :=
  if l.page = 0x20 then d.num PARS.WR_MASK % 16 else if l.page = 0x2A then d.num CLSF.WR_MASK % 16 else 0xF

/-- How many entries a load has. -/
def Dev.loaderCount (d : Dev) (l : LoaderAt) : Nat :=
  if l.page = 0x20 then d.fld PARS.GRAPH_NODES_COUNT
  else if l.page = 0x2A then d.fld CLSF.LOAD_BANKS_COUNT * 1024
  else d.fld ANCH.LOAD_RANGE_LAST + 1 - d.fld ANCH.LOAD_RANGE_FIRST

/-! ### One entry -/

/-- A window word written by a loader, under R6, in the copies `chs` of it; a reserved encoding is recorded once.
(DEDUCED, log entry 44) -/
def Dev.loadWord (d : Dev) (rows : List Reg) (off w : Nat) (chs : List Nat) : Dev :=
  match findRow off rows with
  | some r =>
    if r.acc ≠ .rw then d else
    let put := fun (ch : Nat) => r.settle (d.reg r ch) (BitVec.ofNat 32 w)
    let d := if chs.any fun ch => (put ch).2 then d.recErr r.page off 1 0 else d
    chs.foldl (fun d ch => d.setReg r (put ch).1 ch) d
  | none => d

/-- The window offset of word `j` of a node image (R159). -/
def nodeOff (j : Nat) : Nat := if j < 8 then 0x40 + 4 * j else 0x100 + 4 * (j - 8)

/-- Node `n` of the image is written in the pipelines of the mask. -/
def Dev.loadNode (d : Dev) (n : Nat) : Dev :=
  let node := d.fld PARS.GRAPH_NODES_FIRST + n
  let bs := d.dmaRead (d.num2 PARS.GRAPH_ADDR_LO PARS.GRAPH_ADDR_HI + 544 * n) 544
  let nodes := ((List.range 4).filter (bitOf (d.num PARS.WR_MASK))).map fun p => 256 * p + node
  let d := d.each 136 fun d j => d.loadWord PARS.rows (nodeOff j) (leNat ((bs.drop (4 * j)).take 4)) nodes
  nodes.foldl Dev.nodeMended d

/-- Rule `n` of the bank loader's image. -/
def Dev.imageRule (d : Dev) (n : Nat) : Nat := leNat (d.dmaRead (d.num2 CLSF.LOAD_ADDR_LO CLSF.LOAD_ADDR_HI + 128 * n) 128)

/-- Rule `n` of the image; one with a reserved encoding is left out and recorded (R6). (DEDUCED, log entry 43) -/
def Dev.loadRule (d : Dev) (n : Nat) : Dev :=
  let r := d.imageRule n
  let i := d.fld CLSF.LOAD_BANKS_FIRST * 1024 + n
  if ruleOk r then d.each 4 fun d p => if bitOf (d.num CLSF.WR_MASK) p then d.setRule p i (ruleClean r) else d
  else d.recErr 0x2A 0x41C 1 0

/-- Entry `n` of the anchor image. -/
def Dev.loadAnchor (d : Dev) (n : Nat) : Dev :=
  let e := d.fld ANCH.LOAD_RANGE_FIRST + n
  let bs := d.dmaRead (d.num2 ANCH.LOAD_ADDR_LO ANCH.LOAD_ADDR_HI + 32 * n) 32
  (d.each 5 fun d j => d.loadWord ANCH.rows (0x40 + 4 * j) (leNat ((bs.drop (4 * j)).take 4)) [e]).anchorMended e

/-- The first `n` entries of a load are written whole. -/
def Dev.loadEntries (d : Dev) (l : LoaderAt) (n : Nat) : Dev :=
  d.each (min n (d.loaderCount l)) fun d i =>
    if l.page = 0x20 then d.loadNode i else if l.page = 0x2A then d.loadRule i else d.loadAnchor i

/-- How many of the first `n` entries are written: all of them, but for rules left out (R205). -/
def Dev.loaderWritten (d : Dev) (l : LoaderAt) (n : Nat) : Nat :=
  if l.page = 0x2A then ((List.range n).filter fun i => ruleOk (d.imageRule i)).length else n

/-! ### Commands -/

/-- The loader starts. (DEDUCED, log entry 44) -/
def Dev.loaderStart (d : Dev) (l : LoaderAt) (auto : Bool) : Dev :=
  (d.setLoader l { armed := false, auto := auto }).startOp l.stat

/-- GO: at once under a reached pause that covers the mask, otherwise cause 4 (R160). It does nothing to a loader that
runs. (DEDUCED, log entry 44) -/
def Dev.loaderGo (d : Dev) (l : LoaderAt) (path : Nat) (auto : Bool) : Dev :=
  if !d.pausedFor (d.loaderMask l) then d.recErr l.page l.ctrl 4 path
  else if d.opState l.stat = 1 then d else d.loaderStart l auto

/-- ARM (R160). -/
def Dev.loaderArm (d : Dev) (l : LoaderAt) (auto : Bool) : Dev :=
  if d.opState l.stat = 1 then d else d.setLoader l { armed := true, auto := auto }

/-- An armed loader starts when a covering pause has been reached (R160). (DEDUCED, log entry 44) -/
def Dev.loaderAuto (d : Dev) (l : LoaderAt) : Dev :=
  if (d.loader l).armed && d.pausedFor (d.loaderMask l) && d.opState l.stat ≠ 1 then d.loaderStart l (d.loader l).auto
  else d

/-- ABORT after `done` entries have been written (R87, R160). (DEDUCED, log entry 44) -/
def Dev.loaderAbort (d : Dev) (l : LoaderAt) (done : Nat) : Dev :=
  let n := min done (d.loaderCount l - 1)
  d.abortOp l.stat 0 fun d => (d.loadEntries l n).setNum l.stat (statusWord 3 0 (d.loaderWritten l n))

/-- SOFT_RESET of PARS and CLSF: the load is aborted and disarmed, and its status returns to reset (R170, R203). -/
def Dev.loaderReset (d : Dev) (l : LoaderAt) (done : Nat) : Dev := ((d.loaderAbort l done).setLoader l {}).setNum l.stat 0

/-- A load ends when `done` entries have been written: COMPLETE with the last one, and FAILED when host memory or the pause
failed it before (R87, R160). (DEDUCED, log entry 44) -/
def Dev.loaderDone (d : Dev) (l : LoaderAt) (done : Nat) : Dev :=
  if d.opState l.stat ≠ 1 then d else
  let all := d.loaderCount l
  if done < all || !d.pausedFor (d.loaderMask l) then
    let n := min done all
    ((d.loadEntries l n).endOp l.stat 0 4 (d.loaderWritten l n)).raise l.fail
  else
    let d := ((d.loadEntries l all).endOp l.stat 0 2 (d.loaderWritten l all)).raise l.done
    if (d.loader l).auto then d.pauseResume else d

/-- A write of a loader's control register. `done` says how many entries stood written when an abort arrived. -/
def Dev.loaderWrite (d : Dev) (l : LoaderAt) (path : Nat) (w : Word) (done : Nat) : Dev :=
  let d := if w.getLsbD 3 then d.loaderAbort l done else d
  let d := if w.getLsbD 1 then d.loaderArm l (w.getLsbD 2) else d
  if w.getLsbD 0 then d.loaderGo l path (w.getLsbD 2) else d

/-- GRAPH_GO (R160). -/
def execGraphGo (path : Nat) (auto : Bool) (s : State) : Host.Outcome State Fault Refusal :=
  s.act fun d => d.access 0x20 fun d => d.loaderGo graphLoader path auto
/-- GRAPH_ARM (R160). -/
def execGraphArm (auto : Bool) (s : State) : Host.Outcome State Fault Refusal :=
  s.act fun d => d.access 0x20 fun d => d.loaderArm graphLoader auto
/-- GRAPH_AUTO_START (R160). -/
def execGraphAutoStart (s : State) : Host.Outcome State Fault Refusal := s.act fun d => d.loaderAuto graphLoader
/-- GRAPH_ABORT (R87). -/
def execGraphAbort (done : Nat) (s : State) : Host.Outcome State Fault Refusal :=
  s.act fun d => d.access 0x20 fun d => d.loaderAbort graphLoader done
/-- GRAPH_DONE (R160). -/
def execGraphDone (done : Nat) (s : State) : Host.Outcome State Fault Refusal := s.act fun d => d.loaderDone graphLoader done

/-- BANK_LOAD_GO (R201). -/
def execBankLoadGo (path : Nat) (auto : Bool) (s : State) : Host.Outcome State Fault Refusal :=
  s.act fun d => d.access 0x2A fun d => d.loaderGo bankLoader path auto
/-- BANK_LOAD_ARM (R201). -/
def execBankLoadArm (auto : Bool) (s : State) : Host.Outcome State Fault Refusal :=
  s.act fun d => d.access 0x2A fun d => d.loaderArm bankLoader auto
/-- BANK_LOAD_AUTO_START (R201). -/
def execBankLoadAutoStart (s : State) : Host.Outcome State Fault Refusal := s.act fun d => d.loaderAuto bankLoader
/-- BANK_LOAD_ABORT (R201). -/
def execBankLoadAbort (done : Nat) (s : State) : Host.Outcome State Fault Refusal :=
  s.act fun d => d.access 0x2A fun d => d.loaderAbort bankLoader done
/-- LOAD_DONE (R201). -/
def execLoadDone (done : Nat) (s : State) : Host.Outcome State Fault Refusal := s.act fun d => d.loaderDone bankLoader done

/-- ANCHOR_LOAD_GO (R232). -/
def execAnchorLoadGo (path : Nat) (auto : Bool) (s : State) : Host.Outcome State Fault Refusal :=
  s.act fun d => d.access 0x2B fun d => d.loaderGo anchorLoader path auto
/-- ANCHOR_LOAD_ARM (R232). -/
def execAnchorLoadArm (auto : Bool) (s : State) : Host.Outcome State Fault Refusal :=
  s.act fun d => d.access 0x2B fun d => d.loaderArm anchorLoader auto
/-- ANCHOR_LOAD_AUTO_START (R232). -/
def execAnchorLoadAutoStart (s : State) : Host.Outcome State Fault Refusal := s.act fun d => d.loaderAuto anchorLoader
/-- ANCHOR_LOAD_ABORT (R232). -/
def execAnchorLoadAbort (done : Nat) (s : State) : Host.Outcome State Fault Refusal :=
  s.act fun d => d.access 0x2B fun d => d.loaderAbort anchorLoader done
/-- ANCHOR_LOAD_DONE (R232). -/
def execAnchorLoadDone (done : Nat) (s : State) : Host.Outcome State Fault Refusal :=
  s.act fun d => d.loaderDone anchorLoader done

end Sys2Proof.Machine
end

