-- ==== Sys2Proof/Machine/Bus.lean ====
section
/-! DEFINITION. Register writes (R6, R7, R69 to R76): what each register does with a written word, SOFT_RESET of each block, and
the SMBus target (R459). -/

namespace Sys2Proof.Machine

/-- One write: its path, whether the configuration loader makes it, page, offset and the path's channel, the word, and what the
world supplies where the write ends an operation: how many units of it were done, and what a comparison or a test found. -/
structure Put where
  path : Nat
  boot : Bool := false
  page : Nat
  off : Nat
  ch : Nat
  w : Word
  done : Nat := 0
  found : List Nat := []
  deriving DecidableEq, Repr

/-- A bit of the written word. -/
def Put.bit (x : Put) (i : Nat) : Bool := x.w.getLsbD i

/-! ### Encodings that the state makes reserved -/

/-- The performance events of an island's kind (R425). -/
def perfDefined (island event : Nat) : Bool :=
  decide (event ≤ 0x007) ||
    (if island < 8 then decide (0x040 ≤ event ∧ event ≤ 0x042)
     else if island = 8 then false
     else if island < 13 then decide (0x080 ≤ event ∧ event ≤ 0x083)
     else if island < 21 then decide (0x100 ≤ event ∧ event ≤ 0x10C)
     else if island = 21 then decide (0x140 ≤ event ∧ event ≤ 0x143)
     else if island = 22 then decide (0x180 ≤ event ∧ event ≤ 0x182)
     else if island < 31 then decide (0x1C0 ≤ event ∧ event ≤ 0x1C5)
     else island = 33 && (event = 0x240 || event = 0x241))

/-- Whether a lane runs at a PAM4 rate, 50G or 100G, and whether its port is administratively up (R149). -/
def Dev.lanePam4 (d : Dev) (l : Nat) : Bool :=
  if 32 ≤ l then true
  else match d.portOfLane l with
    | some p => decide (50 ≤ modeRate (d.mode p))
    | none => decide (3 ≤ d.fld LANE.LANE_CFG_TEST_RATE l)
def Dev.laneInUse (d : Dev) (l : Nat) : Bool :=
  if 32 ≤ l then d.enabled 0x58
  else match d.portOfLane l with
    | some p => d.on PORT.PORT_CFG_ADMIN_UP p
    | none => false

/-- The fields, as lowest bit and width, of a word written to a register that hold an encoding which the state of the device
makes reserved (R149, R207, R273, R351, R374, R375, R392, R423). -/
def Dev.heldFields (d : Dev) (page off ch w : Nat) : List (Nat × Nat) :=
  if page = 0x10 ∧ off = 0x050 then
    if d.laneInUse ch then [(0, 32)] else if 5 ≤ w % 16 ∧ w % 16 ≤ 7 ∧ !d.lanePam4 ch then [(0, 4)] else []
  else if page = 0x30 ∧ off = 0x400 then
    if d.flowOcc ≠ 0 ∨ d.rebuilding then [(27, 5)] else []
  else if page = 0x33 ∧ off = 0x048 then (if 2 ^ 20 < w % 2 ^ 20 / 32 * 32 + d.num SPAD.DMA_LEN ch then [(0, 32)] else [])
  else if page = 0x33 ∧ off = 0x04C then
    let n := w % 2 ^ 21
    if n % 32 ≠ 0 ∨ n = 0 ∨ 2 ^ 20 < n + d.num SPAD.DMA_SPAD ch then [(0, 32)] else []
  else if page = 0x40 ∧ 0x060 ≤ off ∧ off < 0x080 then
    (if w % 2 ^ 26 ≤ (d.shadowOf (BUFM.XON_TH.ix ((off - 0x060) / 4)) ch).toNat then [(0, 32)] else [])
  else if page = 0x40 ∧ 0x080 ≤ off ∧ off < 0x0A0 then
    (if (d.shadowOf (BUFM.XOFF_TH.ix ((off - 0x080) / 4)) ch).toNat ≤ w % 2 ^ 26 then [(0, 32)] else [])
  else if page = 0x49 ∧ off = 0x050 then
    (if (ch < 32768 ∧ 4096 ≤ w % 65536) ∨ (32768 ≤ ch ∧ ch < 36864 ∧ 34 ≤ w % 65536) then [(0, 16)] else [])
  else if page = 0x4A ∧ off = 0x04C then
    (if (d.shadowOf POLC.MODE ch).toNat % 4 = 2 ∧ w % 2 ^ 29 < (d.shadowOf POLC.CIR ch).toNat then [(0, 32)] else [])
  else if page = 0x50 ∧ off = 0x408 then (if w % 256 &&& d.pasrKeep ≠ 0 then [(0, 32)] else [])
  else if page = 0x60 ∧ off = 0x040 then
    let island := if w % 64 ≤ 33 then w % 64 else d.fld PERF.CNT_CFG_ISLAND ch
    (if !perfDefined island (bitsOf w 8 10) then [(8, 10)] else []) ++ (if ch = 4095 ∧ bitOf w 25 then [(25, 1)] else [])
  else if page = 0x68 ∧ off = 0x40C then (if w % 2 = 1 then [(0, 27)] else [])
  else []

/-! ### A write that only sets its register (R6, R7, R76, R77) -/

/-- Bits written as 1 are cleared. -/
def Dev.clearBits (d : Dev) (r : Reg) (path ch : Nat) (w : Word) : Dev := d.setRegP r path ch (d.regP r path ch &&& ~~~w)

/-- A write by its access type: RW takes effect at once, ST goes to the shadow, W1C clears, and RO, RC and WO keep nothing. A
field with a reserved encoding keeps its value, and cause 1 is recorded. (DEDUCED, log entries 7, 12) -/
def Dev.plainWrite (d : Dev) (x : Put) (r : Reg) (ch : Nat) (quiet : Bool := false) : Dev :=
  let old := if r.acc = .st then d.shadowOf r ch else d.regP r x.path ch
  let held := d.heldFields x.page x.off ch x.w.toNat
  let w := held.foldl (fun (v : Nat) (f : Nat × Nat) => setBits v f.1 f.2 (bitsOf old.toNat f.1 f.2)) x.w.toNat
  let y := r.settle old (BitVec.ofNat 32 w)
  let note := fun (d : Dev) => if !quiet && (y.2 || !held.isEmpty) then d.recErr x.page x.off 1 x.path else d
  match r.acc with
  | .rw => (note d).setRegP r x.path ch y.1
  | .st => if crossBad x.page x.off x.w.toNat then note d else (note d).stageReg r ch y.1
  | .wo => note d
  | .w1c => (d.clearBits r x.path ch x.w).further (d.vecOf x.page).toList
  | .w1s => d.setRegP r x.path ch (d.regP r x.path ch ||| (x.w &&& BitVec.ofNat 32 r.mask))
  | .ro => d
  | .rc => d

/-- The register at the offset of a write, written plainly. -/
def Dev.plain (d : Dev) (x : Put) : Dev :=
  match regAt x.page x.off with
  | some r => d.plainWrite x r (d.keyCh x.page x.ch)
  | none => d

/-- A staging register keeps the word for its path (R313, R422, R470). (DEDUCED, log entry 38) -/
def Dev.stagedPath (d : Dev) (x : Put) : Dev :=
  match regAt x.page x.off with | some r => d.setRegP r x.path x.ch x.w | none => d

/-! ### The common header (R70 to R75) -/

/-- The pages whose CTRL ignores writes. -/
def fixedCtrl (page : Nat) : Bool := [0x00, 0x01, 0x02, 0x03, 0x68].contains page

/-- CTRL.ENABLE takes a value: ports and the tandem state follow where it is theirs (R149, R150, R412).
(DEDUCED, log entry 16) -/
def Dev.setEnable (d : Dev) (page : Nat) (on : Bool) : Dev :=
  if fixedCtrl page || d.enabled page = on then d else
  let d := d.setNum (CTRL page) (bit on)
  if page = 0x60 then d.perfTune else
  if page = 0x33 ∧ on then { d with eng := { d.eng with still := [] } } else
  if page = 0x10 ∨ page = 0x11 ∨ page = 0x58 then (d.readminAll).tandemFollow
  else if page = 0x30 ∧ on then Dev.serveWaiting (d.flow.waiting.length + 1) d
  else d

/-- A SEL write: a channel beyond SEL_MAX leaves SEL unchanged and records cause 2 (R73). -/
def Dev.selWrite (d : Dev) (path page : Nat) (w : Word) : Dev :=
  if (hdrOf page).selMax % 65536 < w.toNat % 65536 then d.recErr page 0x020 2 path
  else d.setRegP (SEL page) path 0 (w &&& 0x8000FFFF)

/-- A W1C write of INT_RAW: the bits written as 1 are cleared; a vector that the page is routed to, or on EVLG that a queue names, sends
a further message while its OR stays 1 (R75, R456). (DEDUCED, log entries 12, 15) -/
def Dev.rawWrite (d : Dev) (page : Nat) (w : Word) : Dev :=
  let vs := (d.vecOf page).toList ++ if page = 0x62 then (List.range 16).filterMap d.eqVec else []
  let d := d.setReg (INT_RAW page) (d.reg (INT_RAW page) &&& ~~~w)
  let d := if page = 0x62 then d.queuesCleared (w.toNat % 65536) else d
  d.further vs

/-- INT_FORCE sets INT_RAW bits that the page defines, with no event (R70). (DEDUCED, log entry 15) -/
def Dev.forceWrite (d : Dev) (page : Nat) (w : Word) : Dev := d.raiseBits page (w &&& BitVec.ofNat 32 (hdrOf page).intMask)

/-! ### SOFT_RESET (R70) -/

/-- Registers of a page with their shadows return to their reset values: those that `p` picks. -/
def Dev.resetRegs (d : Dev) (page : Nat) (p : Reg → Bool) : Dev :=
  let rows := (pageRows page).filter p
  let hit := fun (k : Nat) => keyPage k = page && rows.any fun r => (r.elemAt (keyOff k)).isSome
  { d with regs := d.regs.filter fun x => !hit x.1, shadow := d.shadow.filter fun x => !hit x.1 }

/-- SOFT_RESET of CLSF (R203): the loader is aborted, WR_MASK and the LOAD registers return to reset. -/
def Dev.softClsf (d : Dev) (done : Nat) : Dev :=
  (d.loaderReset bankLoader done).resetRegs 0x2A fun r => r.acc = .rw && (r.off = 0x400 || (0x410 ≤ r.off && r.off ≤ 0x418))

/-- SOFT_RESET of TMGR (R372): every staged register of the page, with its shadow, returns to reset at once. -/
def Dev.softTmgr (d : Dev) : Dev :=
  let d := d.resetRegs 0x48 fun r => r.acc = .st
  { d with dirty := d.dirty.filter (· ≠ 0x48) }

/-- SOFT_RESET of a block: as its chapter states. It completes at once, but for the changes of pace that it begins on ISLE. `done`
says how far each operation that it aborts had come, `found` what march tests had met. (DEDUCED, log entry 10) -/
def Dev.softReset (d : Dev) (page done : Nat) (found : List Nat) : Dev :=
  match page with
  | 0x04 => d.softIsle
  | 0x05 => d.softTime
  | 0x10 => d.softLane.tandemFollow
  | 0x11 => d.softPort
  | 0x12 => d.softPtps
  | 0x20 => (d.loaderReset graphLoader done).softPars
  | 0x21 => d.fragClear
  | 0x28 => d.softFwdt
  | 0x29 => d.softLpmt
  | 0x2A => d.softClsf done
  | 0x2B => d.loaderAbort anchorLoader done
  | 0x30 => d.softFlow
  | 0x31 => d.softFeng
  | 0x32 => d.softTask done
  | 0x33 => d.softSpad done
  | 0x34 => d.softCsto
  | 0x38 => d.softCiph
  | 0x39 => d.softChkv
  | 0x40 => d.softBufm
  | 0x41 => d.softSwcr
  | 0x48 => d.softTmgr
  | 0x49 => d.softShap
  | 0x4A => d.softPolc
  | 0x4B => d.softGate
  | 0x50 => d.softMemc
  | 0x51 => d.softMtrn
  | 0x58 => d.softTndm
  | 0x60 => d.snapReachAll.softPerf
  | 0x61 => d.snapReachAll.softStat
  | 0x62 => d.softEvlg
  | 0x69 => d.softMgmt
  | 0x70 => d.softMarc done found
  | _ => d

/-- A write of CTRL: ENABLE takes its bit, and SOFT_RESET written as 1 resets the block. (DEDUCED, log entry 16) -/
def Dev.ctrlWrite (d : Dev) (x : Put) : Dev :=
  let d := d.setEnable x.page (x.bit 0)
  if x.bit 1 then d.softReset x.page x.done x.found else d

/-- A write of a header word. -/
def Dev.headWrite (d : Dev) (x : Put) : Dev :=
  match x.off with
  | 0x008 => d.ctrlWrite x
  | 0x010 => d.rawWrite x.page x.w
  | 0x014 => d.watch x.page fun d => d.setReg (INT_EN x.page) (x.w &&& BitVec.ofNat 32 (hdrOf x.page).intMask)
  | 0x01C => d.forceWrite x.page x.w
  | 0x020 => d.selWrite x.path x.page x.w
  | 0x028 => d.commitWrite x.path x.page x.w
  | 0x03C => d.setReg (SCRATCH x.page) x.w
  | _ => d

/-! ### Pause-governed registers (R45, R76, R84) -/

/-- A write that reaches pause-governed memory of the pipelines of a mask: accepted while all of them are paused, or from the
configuration loader; otherwise cause 4. (DEDUCED, log entry 12) -/
def Dev.governed (d : Dev) (x : Put) (mask : Nat) (f : Dev → Dev) : Dev :=
  if x.boot || d.pausedFor mask then f d else d.recErr x.page x.off 4 x.path

/-- A word of a parse-graph node, in each pipeline of WR_MASK (R159). A reserved encoding is one access error (R71). -/
def Dev.nodeWrite (d : Dev) (x : Put) : Dev :=
  match regAt x.page x.off with
  | none => d
  | some r =>
    let mask := d.num PARS.WR_MASK % 16
    d.governed x mask fun d => d.each 4 fun d p => if bitOf mask p then
      (d.plainWrite x r (256 * p + x.ch) (p ≠ lowPipe mask)).nodeMended (256 * p + x.ch) else d

/-- PARS.START, in each pipeline of WR_MASK: the start node and the depth, under R6. -/
def Dev.startWrite (d : Dev) (x : Put) : Dev :=
  let mask := d.num PARS.WR_MASK % 16
  d.governed x mask fun d => d.each 4 fun d p =>
    if bitOf mask p then
      let y := PARS.START.settle (BitVec.ofNat 32 (d.parseStart p)) x.w
      let d := if y.2 && p = lowPipe mask then d.recErr 0x20 0x408 1 x.path else d
      { d with look := { d.look with start := d.look.start.set 0x00800000 p y.1.toNat } }
    else d

/-! ### Registers that do something -/

/-- The bits of a loader's control register. -/
def Dev.putLoader (d : Dev) (x : Put) (l : LoaderAt) : Dev := d.loaderWrite l x.path x.w x.done

/-- A write that is accepted in the window of training (R393). -/
def Dev.putTrain (d : Dev) (x : Put) : Dev := d.inWindow fun d => d.plain x

/-- SERVO_CFG: the other fields take their values, then SERVO_EN changes the servo, and REF10M_EN the reference. -/
def Dev.servoWrite (d : Dev) (x : Put) : Dev :=
  let en := d.num TIME.SERVO_CFG % 2
  ((d.setNum TIME.SERVO_CFG (x.w.toNat % 16 / 2 * 2 + en)).servoEnable (x.bit 0)).refChoose

/-- The thermal cap follows TEMP_CFG: without CAP_EN it is released, and with it a junction at ALARM or above is capped (R31).
(DEDUCED, log entry 13) -/
def Dev.capSettle (d : Dev) : Dev :=
  let hot := decide ((8 * d.fld PWRM.TEMP_CFG_ALARM : Int) ≤ signedOf (d.num PWRM.TEMP_NOW % 65536) 16)
  let cap := d.on PWRM.TEMP_CFG_CAP_EN && (d.sup.cap || hot)
  if cap = d.sup.cap then d
  else
    let d := { d with sup := { d.sup with cap := cap } }.repaceAll
    if cap then (d.raise PWRM.int_THERM_CAP_ACTIVE).log 32 0x0105 (d.num PWRM.TEMP_NOW) else d

/-- TEMP_CFG. -/
def Dev.tempCfg (d : Dev) (x : Put) : Dev := (d.plain x).capSettle

/-- An MSI-X table word: of vector control only the mask bit, and an unmasked vector sends the message it held back.
(DEDUCED, log entry 13) -/
def Dev.msixWrite (d : Dev) (x : Put) : Dev :=
  let i := (x.off - 0x800) / 4
  let v := i / 4
  if i % 4 ≠ 3 then d.setReg (HOST.MSIX_TABLE.ix i) x.w
  else
    let d := d.setReg (HOST.MSIX_TABLE.ix i) (x.w &&& 1)
    let p := HOST.MSIX_PBA.ix (v / 32)
    if !x.bit 0 && bitOf (d.num p) (v % 32) then
      let due := d.msixPending v
      let d := d.setNum p (d.num p - 2 ^ (v % 32))
      if due then d.fireVec v else d
    else d

/-- FENG.RUN: nothing while no control store is loaded or a march test has failed (R50, R257). A write while HELD = 1 takes effect, and
ADMIT.GO then sets RUN to its value at entry (R62). (DESIGN CHOICE, log entry 118) -/
def Dev.runWrite (d : Dev) (x : Put) : Dev :=
  if d.num CSTO.LOAD_STAT % 8 = 2 ∧ !d.on TOP.BOOT_STATUS_MARCH_FAIL then (d.plain x).engCounts else d

/-- CIPH.LOCK_CTRL, KEY_CTRL, NONCE_CTRL and RUN_CTRL. -/
def Dev.cipherPut (d : Dev) (x : Put) : Option Dev :=
  match x.off with
  | 0x040 => some (if x.bit 0 && x.bit 1 then d else if x.bit 0 then d.lockTake x.ch x.path
      else if x.bit 1 then d.lockFree x.ch x.path else d)
  | 0x070 => some (if x.bit 0 && x.bit 1 then d.recErr 0x38 0x070 1 x.path else if x.bit 0 then d.keyCmd x.ch x.path (some (x.bit 2))
      else if x.bit 1 then d.keyCmd x.ch x.path none else d)
  | 0x078 => some (if x.bit 0 then d.nonceGo x.ch x.path .clean else d)
  | 0x0A4 => some (
      let d := if x.bit 1 then d.runAbort x.ch else d
      if x.bit 0 then d.runGo x.ch x.path else d)
  | o => if 0x050 ≤ o ∧ o < 0x070 then some (d.stagedPath x) else none

/-- The host's window of a check-value unit: nothing reaches it while the configuration loader owns the unit (R325). -/
def Dev.checkPut (d : Dev) (x : Put) : Option Dev :=
  if x.off < 0x040 ∨ 0x400 ≤ x.off then none
  else if d.loaderOwns x.ch then some d
  else match x.off with
  | 0x04C => some (if x.bit 0 then d.hostInit x.ch x.path else d)
  | 0x050 => some (d.hostFeed x.ch x.path (leBytes 4 x.w.toNat))
  | 0x054 => some (d.hostFeed x.ch x.path (leBytes 1 x.w.toNat))
  | 0x058 => some (d.hostRestore x.ch x.path 0 x.w.toNat)
  | 0x05C => some (d.hostRestore x.ch x.path 1 x.w.toNat)
  | 0x068 => some (d.hostRestore x.ch x.path 2 x.w.toNat)
  | 0x044 => some (d.chkPart CHKV.INIT_LO x.ch x.w.toNat)
  | 0x048 => some (d.chkPart CHKV.INIT_HI x.ch x.w.toNat)
  | 0x06C => some (d.chkPart CHKV.EXP_LO x.ch x.w.toNat)
  | 0x070 => some (d.chkPart CHKV.EXP_HI x.ch x.w.toNat)
  | _ => none

/-- MARCH_CTRL: MODE 3 is reserved. -/
def Dev.marchPut (d : Dev) (x : Put) : Dev :=
  let d := if x.bit 1 then d.marchAbort x.ch x.done x.found else d
  if bitsOf x.w.toNat 2 2 = 3 then d.recErr 0x70 0x040 1 x.path
  else if x.bit 0 then d.marchGo x.ch (bitsOf x.w.toNat 2 2) else d

/-- The pages of the module as a whole: TOP, PWRM, CFGL, FUSE, ISLE, TIME. -/
def Dev.modulePut (d : Dev) (x : Put) : Option Dev :=
  match x.page, x.off with
  | 0x00, 0x414 => some (d.pauseWrite x.path x.w)
  | 0x00, 0x420 => some (d.snapWrite x.w.toNat)
  | 0x01, 0x418 => some (d.tempCfg x)
  | 0x01, 0x420 => some (if x.bit 0 then d.sporeRequest else d)
  | 0x01, 0x42C => some (if x.bit 0 then d.wakeReq else d)
  | 0x01, 0x444 => some (if x.bit 0 then d.admission else d)
  | 0x02, 0x418 => some (if x.bit 0 then d.hostLoad else d)
  | 0x02, 0x420 => some (if x.bit 0 then d.trainDone else d)
  | 0x03, 0x474 => some (if x.bit 0 then d.keyGo x.path else d)
  | 0x03, 0x47C => some (d.sealArm x.path x.w)
  | 0x03, 0x480 => some (if x.bit 0 then d.sealGo x.path else d)
  | 0x04, 0x040 => some ((d.plain x).repace x.ch)
  | 0x04, 0x400 => some (d.pinWrite x.w)
  | 0x05, 0x410 => some ((d.plain x).showInc)
  | 0x05, 0x424 => some (d.stepCtrl x.path x.w)
  | 0x05, 0x42C => some (d.servoWrite x)
  | 0x05, 0x43C => some (d.offsetIn x.w)
  | p, o =>
    if p = 0x00 ∧ 0x800 ≤ o ∧ o < 0xA00 then some (d.watchVecs (fun e => (e.vecOf ((o - 0x800) / 4)).toList) fun d => d.plain x)
    else if p = 0x03 ∧ 0x444 ≤ o ∧ o < 0x474 then some (d.stagedPath x)
    else none

/-- The pages of the lanes, ports and pipelines. -/
def Dev.roadPut (d : Dev) (x : Put) : Option Dev :=
  match x.page, x.off with
  | 0x10, 0x040 => some ((d.laneCounts x.ch).plain x)
  | 0x10, 0x050 => some ((d.laneCounts x.ch).plain x)
  | 0x11, 0x040 => some (d.portCfgWrite x.path x.ch x.w)
  | 0x11, 0x050 => some (((d.dampSettle x.ch).plain x).dampWritten x.ch)
  | 0x11, 0x08C => some (if x.bit 0 then d.anRestart x.ch else d)
  | 0x20, 0x408 => some (d.startWrite x)
  | 0x20, 0x41C => some (d.putLoader x graphLoader)
  | 0x28, 0x428 => some (d.hostCmdWrite x.path x.w)
  | 0x29, 0x418 => some (d.lpmCmdWrite x.path x.w)
  | 0x2A, 0x408 => some (d.ruleCmdWrite x.path x.w)
  | 0x2A, 0x41C => some (d.putLoader x bankLoader)
  | 0x2B, 0x40C => some (d.putLoader x anchorLoader)
  | p, o =>
    if p = 0x20 ∧ 0x040 ≤ o ∧ o < 0x400 then some (d.nodeWrite x)
    else if p = 0x2B ∧ 0x040 ≤ o ∧ o < 0x400 then some (d.governed x 0xF fun d => (d.plain x).anchorMended x.ch)
    else none

/-- The pages of flow services. -/
def Dev.servicePut (d : Dev) (x : Put) : Option Dev :=
  match x.page, x.off with
  | 0x30, 0x400 => some ((d.plain x).pasrUpdate)
  | 0x30, 0x40C => some (d.sweepWrite x.w)
  | 0x30, 0x41C => some (d.rebuildWrite x.w)
  | 0x30, 0x438 => some (d.flowCmdWrite x.path x.w)
  | 0x31, 0x06C => some (if x.bit 0 then d.setPcnt x.ch (d.num FENG.PCNT_IDX x.ch) 0 else d)
  | 0x31, 0x400 => some (d.runWrite x)
  | 0x32, 0x060 => some (d.hostSignal x.ch (x.w.toNat % 65536))
  | 0x32, 0x084 => some (
      let d := if x.bit 1 then d.mirrorAbort x.ch x.done else d
      if x.bit 0 then d.mirrorGo x.ch else d)
  | 0x33, 0x050 => some (
      let d := if x.bit 2 then d.spadAbort x.ch x.done else d
      if x.bit 0 then d.spadGo x.ch (x.bit 1) else d)
  | 0x34, 0x040 => some (d.slotWrite x.ch x.w.toNat)
  | 0x34, 0x404 => some (d.patchWrite fun d => d.plain x)
  | 0x34, 0x408 => some (d.pramWrite x.w.toNat)
  | 0x38, _ => d.cipherPut x
  | 0x39, _ => d.checkPut x
  | 0x70, 0x040 => some (d.marchPut x)
  | _, _ => none

/-- The pages of the switch core, the traffic manager and the memories. -/
def Dev.corePut (d : Dev) (x : Put) : Option Dev :=
  match x.page, x.off with
  | 0x40, 0x428 => some (
      let d := if x.bit 1 then d.abortOp BUFM.AUDIT_STAT 0 Dev.auditCut else d
      if x.bit 0 then d.auditBegin else d)
  | 0x4B, 0x078 => some (d.gclGates x.ch x.w)
  | 0x4B, 0x07C => some (d.gclTime x.ch x.w)
  | 0x4B, 0x080 => some (d.gateCtrl x.ch x.w)
  | 0x50, 0x040 => some ((d.plain x).refWatch x.ch true)
  | 0x50, 0x0AC => some (d.scrubWrite x.ch x.w)
  | 0x50, 0x410 => some (if x.bit 8 then d.retireGo (x.w.toNat % 64) else d)
  | 0x51, 0x040 => some (d.stepWrite x.path x.ch x.w)
  | 0x51, 0x054 => some (d.cmpCtrl x.ch x.w x.found)
  | 0x51, o => if 0x098 ≤ o ∧ o ≤ 0x0C4 then some (d.putTrain x) else none
  | _, _ => none

/-- The pages of the tandem, of observation and of the host. -/
def Dev.hostPut (d : Dev) (x : Put) : Option Dev :=
  match x.page, x.off with
  | 0x58, 0x434 => some (d.linkKeyWrite x.path x.w)
  | 0x58, 0x460 => some (d.resyncWrite x.w)
  | 0x60, 0x040 => some (d.snapReachAll.plain x).perfTune
  | 0x61, 0x400 => some (d.statClearWrite x.w)
  | 0x68, 0x040 => some (d.ringCfgWrite x.path x.ch x.w)
  | 0x68, 0x04C => some (d.ringAvail x.path x.ch (x.w.toNat % 65536))
  | 0x68, 0x06C => some (if x.bit 0 then d.ringRestart x.ch else d)
  | 0x68, 0x424 => some (d.tdmaWrite x.w x.done)
  | 0x68, 0x4A0 => some (d.ringIrqClear false x.w.toNat)
  | 0x68, 0x4A4 => some (d.ringIrqClear true x.w.toNat)
  | 0x68, 0x700 => some (if x.bit 0 then d.doorbell x.path else d)
  | 0x69, 0x41C => some (d.availWrite x.path x.w.toNat (d.num MGMT.RX_DONE) (d.fld MGMT.RX_CFG_SIZE) MGMT.RX_AVAIL 0)
  | 0x69, 0x430 => some (d.availWrite x.path x.w.toNat (d.num MGMT.TX_DONE) (bitsOf (d.num MGMT.TX_CFG) 1 4) MGMT.TX_AVAIL 0)
  | 0x69, 0x43C => some (if x.bit 8 then d.qspiGo (x.w.toNat % 4) else d)
  | p, o =>
    if p = 0x58 ∧ 0x440 ≤ o ∧ o < 0x460 then some (d.stagedPath x)
    else if p = 0x68 ∧ 0x460 ≤ o ∧ o < 0x4A0 then
      some (d.watchVecs (fun e => (e.eqVec ((o - 0x460) / 4)).toList) fun d => d.plain x)
    else if p = 0x68 ∧ 0x800 ≤ o ∧ o < 0xC00 then some (d.msixWrite x)
    else none

/-- A whole word written to an open page: the header, a register that does something, or one that only holds its value. -/
def Dev.regWrite (d : Dev) (x : Put) : Dev :=
  if x.off < 0x040 then d.headWrite x
  else
    let y := match d.modulePut x with
      | some e => e
      | none => match d.roadPut x with
        | some e => e
        | none => match d.servicePut x with
          | some e => e
          | none => match d.corePut x with
            | some e => e
            | none => match d.hostPut x with
              | some e => e
              | none => d.plain x
    y.autoInc x.path x.page x.off

/-! ### Accesses (R69, R72) -/

/-- A write on a path at a BAR0 offset with byte enables: a page that does not answer ignores it, and one that is not of a whole
word has no effect but cause 3. -/
def Dev.busWrite (d : Dev) (path off be : Nat) (w : Word) (done : Nat) (found : List Nat) : Dev :=
  let page := off / 4096 % 128
  let o := off % 4096 / 4 * 4
  d.access page fun d =>
    if be % 16 ≠ 15 then d.recErr page o 3 path
    else d.regWrite { path := path % 2, page := page, off := o, ch := d.selOf path page, w := w, done := done, found := found }

/-- What a write at a BAR0 offset does to the device: of all offsets only SEAL_GO's may blow a fuse. -/
def State.actBus (s : State) (off : Nat) (f : Dev → Dev) : Host.Outcome State Fault Refusal :=
  if off % 0x80000 / 4 = 0x3480 / 4 then s.actOtp fun d => d.when d.runs f else s.act f

/-- REGISTER_WRITE (R69): `be` are the byte enables. -/
def execRegisterWrite (path off be : Nat) (value : Word) (done : Nat) (found : List Nat) (s : State) :
    Host.Outcome State Fault Refusal :=
  s.actBus off fun d => d.busWrite path off be value done found

/-- A write of a whole word to a header register. -/
def Dev.headPut (d : Dev) (path page off : Nat) (w : Word) (done : Nat) : Dev :=
  d.access page fun d => d.headWrite { path := path % 2, page := page, off := off, ch := 0, w := w, done := done }

/-- SEL_WRITE (R73). -/
def execSelWrite (path page : Nat) (value : Word) (s : State) : Host.Outcome State Fault Refusal :=
  s.act fun d => d.headPut path (page % 128) 0x020 value 0
/-- W1C_WRITE (R75): INT_RAW of a page. -/
def execW1cWrite (path page : Nat) (value : Word) (s : State) : Host.Outcome State Fault Refusal :=
  s.act fun d => d.headPut path (page % 128) 0x010 value 0
/-- INT_FORCE (R70). -/
def execIntForce (path page : Nat) (value : Word) (s : State) : Host.Outcome State Fault Refusal :=
  s.act fun d => d.headPut path (page % 128) 0x01C value 0
/-- SOFT_RESET (R70): with ENABLE left as it is. -/
def execSoftReset (page done : Nat) (found : List Nat) (s : State) : Host.Outcome State Fault Refusal :=
  s.act fun d => d.access (page % 128) fun d => d.softReset (page % 128) done found

/-! ### SMBus target (R459) -/

/-- Which transactions the target takes: those of a running die. -/
def execSetAddr (addr : Nat) (pec : Bool) (s : State) : Host.Outcome State Fault Refusal :=
  s.act fun d => d.when pec fun d => d.setHostSt { d.host with smbAddr := addr % 2 ^ 32 }

/-- The offset after an access. (DEDUCED, log entry 14) -/
def Dev.smbNext (d : Dev) : Dev := d.setHostSt { d.host with smbAddr := (d.host.smbAddr + 4) % 2 ^ 32 }

/-- A read at the target's offset on the housekeeping path: beyond the BAR0 space there is no register.
(DEDUCED, log entry 14) -/
def Dev.smbRead (d : Dev) : Dev :=
  if d.host.smbAddr < 2 ^ 19 then (d.busAnswer 1 d.host.smbAddr).smbNext else (d.emit (.words 1 [0])).smbNext

/-- SMBUS_READ (R459). -/
def execSmbusRead (s : State) : Host.Outcome State Fault Refusal := s.act Dev.smbRead

/-- A write at the target's offset. (DEDUCED, log entry 14) -/
def Dev.smbWrite (d : Dev) (w : Word) (done : Nat) (found : List Nat) : Dev :=
  (if d.host.smbAddr < 2 ^ 19 then d.busWrite 1 d.host.smbAddr 15 w done found else d).smbNext

/-- SMBUS_WRITE (R459): with a PEC that fails it has no effect. -/
def execSmbusWrite (value : Word) (pec : Bool) (done : Nat) (found : List Nat) (s : State) : Host.Outcome State Fault Refusal :=
  s.actBus s.dev.host.smbAddr fun d => d.when pec fun d => d.smbWrite value done found

/-- Bytes are appended to the housekeeping path's MBOX_IN, which holds 256. (DEDUCED, log entry 14) -/
def Dev.mboxAppend (d : Dev) (bs : List Byte) : Dev :=
  bs.foldl (fun (d : Dev) (b : Byte) =>
    let i := d.host.mboxIn
    if 256 ≤ i then d else
    let r := HOST.MBOX_IN.ix (i / 4)
    let d := d.setRegP r 1 0 (BitVec.ofNat 32 (setBits (d.regP r 1 0).toNat (8 * (i % 4)) 8 b.toNat))
    d.setHostSt { d.host with mboxIn := i + 1 }) d

/-- MBOX_WRITE (R459): 1 to 255 bytes. -/
def execMboxWrite (bs : List Byte) (pec : Bool) (s : State) : Host.Outcome State Fault Refusal :=
  s.act fun d => d.when (pec && decide (bs.length ≤ 255)) fun d => d.access 0x68 fun d => d.mboxAppend bs

/-- MBOX_RING (R459). -/
def execMboxRing (pec : Bool) (s : State) : Host.Outcome State Fault Refusal :=
  s.act fun d => d.when pec fun d => d.access 0x68 fun d => d.doorbell 1

/-- The bytes of the housekeeping path's MBOX_OUT. -/
def Dev.mboxOut (d : Dev) : List Byte := (List.range 64).flatMap fun i => leBytes 4 (d.regP (HOST.MBOX_OUT.ix i) 1 0).toNat

/-- MBOX_READ (R459): up to 255 bytes. -/
def execMboxRead (length : Nat) (s : State) : Host.Outcome State Fault Refusal :=
  s.act fun d => d.access 0x68 fun d => d.emit (.bytes (d.mboxOut.take (min length 255)))

/-- The status byte. (DEDUCED, log entry 14) -/
def Dev.smbStatus (d : Dev) : Nat :=
  bit (d.on TOP.BOOT_STATUS_READY) + bit (d.fld PWRM.SLEEP_STAT_STATE = 2 || d.fld PWRM.SLEEP_STAT_STATE = 3) * 2 +
    bit d.alertLow * 4 + bit ((d.regP HOST.MBOX_STAT 1 0).getLsbD 1) * 8

/-- STATUS (R459). -/
def execStatus (s : State) : Host.Outcome State Fault Refusal :=
  s.act fun d => d.emit (.bytes [BitVec.ofNat 8 d.smbStatus])

end Sys2Proof.Machine
end

