-- ==== Sys2Proof/Machine/Supply.lean ====
section
/-! DEFINITION. The supply monitor, resets of the whole module, the power-fail warning and its record, and thermal protection
(R20 to R22, R25 to R27, R31, R35, R36, R53). -/

namespace Sys2Proof.Machine

def Dev.setSup (d : Dev) (x : Supply) : Dev := { d with sup := x }

/-! ### What a reset or a loss of supply leaves -/

/-- 384 open bits. (DEDUCED, log entry 23) -/
def openBits (n : Nat) : BitVec 384 := BitVec.ofNat 384 ((List.range 6).map fun i => (Config.free (n + i)).toNat * 2 ^ (64 * i)).sum

/-- Programming of fuses stops where it stands: which of the bits still to be blown are blown by then is open (R470).
(DEDUCED, log entry 23) -/
def Dev.fuseCut (d : Dev) : Dev :=
  match d.host.prog with
  | none => d
  | some v => { d with otp := d.otp.blow v (openBits d.frees), frees := d.frees + 6 }

/-- A flash command stops where it stands: what its page or its sector then holds is open. (DEDUCED, log entry 23) -/
def Dev.flashCut (d : Dev) : Dev :=
  match d.host.qspi with
  | some (1, a, _) => let (d, bs) := d.freeBytes 256; d.flashWrite (a / 256 * 256) bs
  | some (2, a, _) => let (d, bs) := d.freeBytes 4096; d.flashWrite (a / 4096 * 4096) bs
  | _ => d

/-- The die as power-on reset leaves it: everything at its reset value but the fuses, the flash, and what lies outside.
(DESIGN CHOICE, log entry 5; DEDUCED, log entry 17) -/
def Dev.cleared (d : Dev) : Dev :=
  let d := d.fuseCut.flashCut
  { Dev.reset with
    otp := d.otp, draws := d.draws, frees := d.frees, out := d.out, hostMem := d.hostMem, flash := d.flash
    sup := { Dev.reset.sup with padLow := d.sup.padLow, resetLow := d.sup.resetLow, hot := d.sup.hot } }

/-- The converters are off: nothing but the cause of the shutdown, where VIN stays present, is kept (R22, R31, R35).
(DEDUCED, log entry 18) -/
def Dev.powerOff (d : Dev) (p : Phase) (cause : Nat) : Dev :=
  let d := d.cleared
  (d.setSup { d.sup with phase := p }).setFld PWRM.SUPPLY_STAT_LAST_CAUSE cause

/-- The registers of the supply monitor. (DEDUCED, log entry 17) -/
def monitorRegs : List Reg := [PWRM.VIN_NOW, PWRM.VIN_MIN, PWRM.PFAIL_CFG, PWRM.SUPPLY_STAT, PWRM.STRAPS]

/-- RESET_N goes low: all but the supply monitor resets, and the test access port, whose scan instructions act only now (R20, R473).
The record being written stays without its check word. (DEDUCED, log entry 17) -/
def Dev.resetDown (d : Dev) (cause : Nat) : Dev :=
  let e := d.cleared
  let e := monitorRegs.foldl (fun (e : Dev) r => e.setReg r (d.reg r)) e
  let e := e.setSup { d.sup with phase := .reset, recording := none, cap := false, resetLow := true, ovAt := none }
  let ir := d.host.tapIr
  (e.setHostSt { e.host with tapIr := ir, bsrIn := d.host.bsrIn, bsrOut := d.host.bsrOut
                             scan := ir = 0x00 || ir = 0x04, highz := ir = 0x05 }).setFld PWRM.SUPPLY_STAT_LAST_CAUSE cause

/-! ### Supply and resets (R20 to R22, R36) -/

/-- Supply qualification ends: power-on reset begins. After a thermal shutdown it needs a junction below 100 °C (R31). -/
def Dev.qualify (d : Dev) (cool : Bool) : Dev :=
  if (d.sup.phase = .unpowered ∨ d.sup.phase = .qualifying) ∧ (!d.sup.hot || cool) then
    let n := d.fld PWRM.SUPPLY_STAT_LAST_CAUSE
    let e := d.cleared
    (e.setSup { e.sup with phase := .reset, hot := false }).setFld PWRM.SUPPLY_STAT_LAST_CAUSE n
  else d

/-- SUPPLY_QUALIFICATION (R22): `cool` says that the junction is below 100 °C. -/
def execSupplyQualification (cool : Bool) (s : State) : Host.Outcome State Fault Refusal := s.actAll fun d => d.qualify cool

/-- Power-on reset ends: straps are sampled, the device clock starts at 0 s, and the housekeeping processor boots.
(DEDUCED, log entry 18) -/
def Dev.powerOn (d : Dev) (straps us : Nat) : Dev :=
  if d.sup.phase = .reset ∧ !d.sup.resetLow then
    let d := (d.setSup { d.sup with phase := .on }).setBoot { d.boot with before := us }
    ((d.setNum PWRM.STRAPS (straps % 32)).setFld TOP.BOOT_STATUS_STAGE 1)
  else d

/-- POWER_ON_RESET (R21, R36): `straps` are the pads as PWRM.STRAPS lays them out, `us` the microseconds since t0. -/
def execPowerOnReset (straps us : Nat) (s : State) : Host.Outcome State Fault Refusal := s.actRaw fun d => d.powerOn straps us

/-- RESET_N has been low for 1 µs, or rises. (DEDUCED, log entry 18) -/
def Dev.resetPin (d : Dev) (low cool : Bool) : Dev :=
  if !low then
    (d.setSup { d.sup with resetLow := false }).setHostSt { d.host with scan := false, highz := false }
  else match d.sup.phase with
    | .on | .reset => d.resetDown 3
    | .thermalOff =>
      if cool then (d.setSup { d.sup with hot := false }).resetDown 2 else d.setSup { d.sup with resetLow := true }
    | _ => d.setSup { d.sup with resetLow := true }

/-- RESET_N (R20): `low` says whether it has been low for 1 µs or rises, `cool` whether the junction is below 100 °C. -/
def execResetN (low cool : Bool) (s : State) : Host.Outcome State Fault Refusal := s.actAll fun d => d.resetPin low cool

/-- BROWN_OUT (R22). -/
def execBrownOut (s : State) : Host.Outcome State Fault Refusal :=
  s.actAll fun d => d.powerOff .unpowered 0

/-- VIN has been above 62 V for 100 ms. The event's Cause, P1, which no rule codes for OV, is 0.
(DEDUCED, log entry 21; DESIGN CHOICE, log entry 118) -/
def Dev.overvoltage (d : Dev) : Dev :=
  let d := d.setFld PWRM.SUPPLY_STAT_OV 1
  ((d.setSup { d.sup with ovAt := some d.clk.up }).raise PWRM.int_OV).log 32 0x0103 (d.num PWRM.VIN_NOW) 0

/-- OVERVOLTAGE (R22). -/
def execOvervoltage (s : State) : Host.Outcome State Fault Refusal := s.act Dev.overvoltage

/-- OVERVOLTAGE_SHUTDOWN (R22): 10 µs after OV was set; in reset, where no bit shows it, at once.
(DEDUCED, log entry 21) -/
def execOvervoltageShutdown (s : State) : Host.Outcome State Fault Refusal :=
  s.actAll fun d =>
    if d.sup.phase = .on then
      match d.sup.ovAt with
      | some t => if t + 100000 ≤ d.clk.up then d.powerOff .ovOff 1 else d
      | none => d
    else if d.sup.phase = .reset then d.powerOff .ovOff 1
    else d

/-- OV_RECOVERY (R22): supply qualification begins. -/
def execOvRecovery (s : State) : Host.Outcome State Fault Refusal :=
  s.actRaw fun d => if d.sup.phase = .ovOff then d.setSup { d.sup with phase := .qualifying } else d

/-- A sample of the supply monitor, in mV. (DEDUCED, log entry 21) -/
def Dev.vinSample (d : Dev) (mv : Nat) : Dev :=
  let v := min mv 0x1FFFF
  ((d.setNum PWRM.VIN_NOW v).setNum PWRM.VIN_MIN (min v (d.num PWRM.VIN_MIN))).setFld PWRM.SUPPLY_STAT_OV (bit (decide (62000 < v)))

/-- VIN_SAMPLE (R35). -/
def execVinSample (mv : Nat) (s : State) : Host.Outcome State Fault Refusal :=
  s.actRaw fun d => d.when (decide (d.sup.phase ≠ .unpowered)) fun d => d.vinSample mv

/-! ### The power-fail record (R27, R53) -/

/-- Whether all the bytes of a slot of the power-fail area are erased. -/
def Dev.slotErased (d : Dev) (slot : Nat) : Bool := (d.pfailRecord slot).all fun b => b = 0xFF

/-- Slots that hold a valid record. -/
def Dev.validSlots (d : Dev) : List Nat := (List.range 256).filter fun k => recordValid (d.pfailRecord k)

/-- The newest valid record: its sequence is highest, compared modulo 2^32. -/
def Dev.newestRecord (d : Dev) : Option Nat :=
  d.validSlots.foldl (fun best k => match best with
    | none => some k
    | some b =>
      if (recordSeq (d.pfailRecord k) + 2 ^ 32 - recordSeq (d.pfailRecord b)) % 2 ^ 32 < 2 ^ 31 then some k else some b) none

/-- The slot and the sequence that the next record takes: as the scan of step 8 left them, or, before it, as the area stands. -/
def Dev.nextRecord (d : Dev) : Nat × Nat :=
  if 7 ≤ d.fld TOP.BOOT_STATUS_STAGE then (d.boot.slot, d.boot.seq)
  else match d.newestRecord with
    | some k => ((k + 1) % 256, (recordSeq (d.pfailRecord k) + 1) % 2 ^ 32)
    | none => (0, 0)

/-- The slot that takes a record now: the next one when it is erased, otherwise the first erased one that follows.
(DESIGN CHOICE, log entry 20) -/
def Dev.recordSlot (d : Dev) : Option Nat :=
  ((List.range 256).map fun k => (d.nextRecord.1 + k) % 256).find? d.slotErased

/-- Bytes 0x00 to 0xFB of a record. (DESIGN CHOICE, log entry 20) -/
def Dev.recordBody (d : Dev) (cause vin : Nat) : List Byte :=
  leBytes 4 0x50460001 ++ leBytes 4 d.nextRecord.2 ++ leBytes 8 (d.stamp 32).toNat ++ leBytes 4 vin ++ leBytes 4 cause ++
    leBytes 4 (d.num (COMMIT 0) % 65536) ++ leBytes 4 (d.num PWRM.TEMP_NOW) ++ List.replicate 220 0

/-- A record begins, where one is to be written: all but its check word. (DESIGN CHOICE, log entry 20) -/
def Dev.recordBegin (d : Dev) (cause vin : Nat) : Dev :=
  if d.on PWRM.PFAIL_CFG_RECORD && d.boot.loaded && d.boot.flash && d.sup.recording.isNone then
    match d.recordSlot with
    | some k =>
      let seq := d.nextRecord.2
      let e := d.flashWrite (d.boot.pfail + 256 * k) (d.recordBody cause vin)
      (e.setSup { e.sup with recording := some (d.boot.pfail + 256 * k) }).setBoot { e.boot with slot := (k + 1) % 256, seq := (seq + 1) % 2 ^ 32 }
    | none => d
  else d

/-- The check word of the record is written: the record is complete. (DESIGN CHOICE, log entry 20) -/
def Dev.recordEnd (d : Dev) : Dev :=
  match d.sup.recording with
  | none => d
  | some a =>
    let d := d.flashWrite (a + 252) (leBytes 4 (crc32c (d.flashRead a 252)))
    (d.setSup { d.sup with recording := none }).raise PWRM.int_RECORD_DONE

/-- RECORD_DONE (R25, R27). -/
def execRecordDone (s : State) : Host.Outcome State Fault Refusal := s.act Dev.recordEnd

/-! ### The warning (R25) -/

/-- A warning begins with a cause: 0 level, 1 external. (DEDUCED, log entry 19) -/
def Dev.warnBegin (d : Dev) (cause vin : Nat) : Dev :=
  let d := (d.setFld PWRM.SUPPLY_STAT_WARN 1).setSup { d.sup with cause := cause }
  if d.sup.phase ≠ .on then d else
  let d := (d.raise PWRM.int_VIN_WARN).log 32 0x0101 (d.num PWRM.VIN_NOW) cause
  d.qspiPreempt.recordBegin cause vin

/-- A level cause appears: it starts a warning, in which the module drives the pad, or joins the one in force.
(DEDUCED, log entry 19) -/
def Dev.levelWarn (d : Dev) (vin : Nat) : Dev :=
  if d.sup.level ∨ 100 * d.fld PWRM.PFAIL_CFG_LEVEL ≤ vin then d
  else
    let was := d.warned
    let d := d.setSup { d.sup with level := true, drive := d.sup.drive || !was }
    if was then d else d.warnBegin 0 vin

/-- Whether the supply monitor watches for a warning. (DEDUCED, log entry 19) -/
def Dev.monitors (d : Dev) : Bool := d.sup.phase = .on || d.sup.phase = .reset

/-- POWER_FAIL_WARNING (R25): VIN, in mV, has been below LEVEL for 20 µs. -/
def execPowerFailWarning (vin : Nat) (s : State) : Host.Outcome State Fault Refusal :=
  s.actRaw fun d => d.when d.monitors fun d => d.levelWarn vin

/-- The level of PFAIL_N that an external device gives. Its falling edge is a cause where it can be seen and is watched: while the
module does not drive the pad, with EXT_EN. (DEDUCED, log entry 19) -/
def Dev.pfailPad (d : Dev) (low : Bool) (vin : Nat) : Dev :=
  let fell := low && !d.sup.padLow && !d.sup.drive && d.on PWRM.PFAIL_CFG_EXT_EN
  let d := d.setSup { d.sup with padLow := low }
  if fell && d.monitors then
    let d := d.setSup { d.sup with ext := true }
    if d.warned then d else d.warnBegin 1 vin
  else d

/-- PFAIL_N_EXTERNAL (R25): the pad's level as driven from outside, and VIN in mV. -/
def execPfailNExternal (low : Bool) (vin : Nat) (s : State) : Host.Outcome State Fault Refusal :=
  s.actRaw fun d => d.pfailPad low vin

/-- The warning ends. A wake from SPORE waits for the end of one that was in force at entry (R59).
(DEDUCED, log entry 19) -/
def Dev.warnEnd (d : Dev) : Dev :=
  let d := d.setFld PWRM.SUPPLY_STAT_WARN 0
  if d.sup.phase ≠ .on then d else
  let d := (d.raise PWRM.int_VIN_WARN_END).log 32 0x0102 (d.num PWRM.VIN_NOW) d.sup.cause
  let back := d.spore.warned && d.on PWRM.SLEEP_CFG_SUPPLY_WAKE_EN
  let d := d.setSpore { d.spore with warned := false }
  if back then d.wakeEvent 4 else d

/-- VIN has been above LEVEL + 0.3 V for 10 ms, which a warning of either cause needs to end (R22): the level cause is gone and the
module lets the pad go. An external cause stays while the pad is low; a pad that is low at the module's release is one where it is
watched (R25). (DEDUCED, log entry 19) -/
def Dev.causeEnds (d : Dev) (vin : Nat) : Dev :=
  if vin ≤ 100 * d.fld PWRM.PFAIL_CFG_LEVEL + 300 ∨ !d.warned then d
  else
    let ext := d.sup.padLow && (if d.sup.drive then d.on PWRM.PFAIL_CFG_EXT_EN else d.sup.ext)
    let d := d.setSup { d.sup with level := false, drive := false, ext := ext }
    if ext then d else d.warnEnd

/-- SUPPLY_WARN_END (R22, R25): VIN in mV. -/
def execSupplyWarnEnd (vin : Nat) (s : State) : Host.Outcome State Fault Refusal :=
  s.actRaw fun d => d.when d.monitors fun d => d.causeEnds vin

/-! ### Thermal protection (R31) -/

/-- The hottest junction, in eighths of a degree, and its island. (DESIGN CHOICE, log entry 22) -/
def Dev.setTemp (d : Dev) (temp : Int) (island : Nat) : Dev :=
  let d := d.setNum PWRM.TEMP_NOW (toBits 16 temp + island % 256 * 65536)
  if signedOf (d.num PWRM.TEMP_MAX % 65536) 16 < temp then d.setNum PWRM.TEMP_MAX (toBits 16 temp) else d

/-- The thermal cap is applied or released, and every island's level is decided again. (DESIGN CHOICE, log entry 22) -/
def Dev.setCap (d : Dev) (cap : Bool) : Dev := (d.setSup { d.sup with cap := cap }).repaceAll

/-- The junction has reached ALARM. -/
def Dev.thermAlarm (d : Dev) (temp : Int) (island : Nat) : Dev :=
  if temp < 8 * d.fld PWRM.TEMP_CFG_ALARM then d else
  let d := d.setTemp temp island
  let d := (d.raise PWRM.int_THERM_ALARM).log 32 0x0104 (d.num PWRM.TEMP_NOW)
  if d.on PWRM.TEMP_CFG_CAP_EN && !d.sup.cap then
    ((d.setCap true).raise PWRM.int_THERM_CAP_ACTIVE).log 32 0x0105 (d.num PWRM.TEMP_NOW)
  else d

/-- THERM_ALARM (R31): the hottest junction in units of 1/8 °C, and its island. (DESIGN CHOICE, log entry 22) -/
def execThermAlarm (temp : Int) (island : Nat) (s : State) : Host.Outcome State Fault Refusal :=
  s.act fun d => d.thermAlarm temp island

/-- THERM_CAP_RELEASE (R31): the hottest junction is at ALARM less 5 °C or below. (DESIGN CHOICE, log entry 22) -/
def execThermCapRelease (temp : Int) (island : Nat) (s : State) : Host.Outcome State Fault Refusal :=
  s.act fun d =>
    if temp ≤ 8 * ((d.fld PWRM.TEMP_CFG_ALARM : Int) - 5) then (d.setTemp temp island).setCap false else d

/-- THERMAL_SHUTDOWN (R31): 125 °C or more for 1 ms. -/
def execThermalShutdown (s : State) : Host.Outcome State Fault Refusal :=
  s.actAll fun d =>
    if d.monitors then
      let d := d.powerOff .thermalOff 2
      d.setSup { d.sup with hot := true }
    else d

end Sys2Proof.Machine
end

