-- ==== Sys2Proof/Machine/Image.lean ====
section
/-! DEFINITION. The Stexo image: reading and checking it (R40, R42, R43), applying it (R44, R45), the flash areas it names
(R51) and the IMAGE_LOAD command. -/

namespace Sys2Proof.Machine

/-! ### The image's header and section table (R42, R43) -/

/-- A section: type, offset and length. -/
structure Section where
  ty : Nat
  off : Nat
  len : Nat
  deriving DecidableEq, Repr

/-- A little-endian field of `n` bytes at offset `o`. -/
def fieldAt (bs : List Byte) (o n : Nat) : Nat := leNat ((bs.drop o).take n)

/-- Bytes of a run. -/
def slice (bs : List Byte) (o n : Nat) : List Byte := (bs.drop o).take n

/-- What reading an image has given: the bytes read, the length field, the image version and, if the image is good, its
sections. -/
structure ImageRead where
  bytes : List Byte
  len : Nat
  ver : Nat
  good : Option (List Section)
  deriving DecidableEq, Repr

/-- The section table of an image with `count` sections. -/
def sectionsOf (bs : List Byte) (count : Nat) : List Section :=
  (List.range count).map fun i =>
    let o := 0x40 + 16 * i
    { ty := fieldAt bs o 2, off := fieldAt bs (o + 4) 4, len := fieldAt bs (o + 8) 4 : Section }

/-- Whether a section meets the bytes from `lo` up to `hi`. -/
def Section.meets (s : Section) (lo hi : Nat) : Bool := decide (max s.off lo < min (s.off + s.len) hi)

/-- Whether a section lies in an image of `len` bytes, clear of the header, a table of `count` entries and the check word. -/
def Section.placed (s : Section) (len count : Nat) : Bool :=
  decide (s.off + s.len ≤ len) && !s.meets 0 (0x40 + 16 * count) && !s.meets (len - 4) len

/-- No two sections overlap, and only register lists appear more than once. -/
def sectionsApart : List Section → Bool
  | [] => true
  | s :: r => (r.all fun t => !s.meets t.off (t.off + t.len) && (s.ty = 0x0001 || t.ty ≠ s.ty)) && sectionsApart r

/-- A header fault: magic, format version, length or section count, with the length within what may be read.
(DEDUCED, log entry 24) -/
def headerBad (hdr : List Byte) (limit : Nat) : Bool :=
  let len := fieldAt hdr 8 4
  let count := fieldAt hdr 6 2
  fieldAt hdr 0 4 ≠ 0x53545830 || fieldAt hdr 4 2 ≠ 1 || decide (len < 256) || decide (16777216 < len) || len % 4 ≠ 0 ||
    decide (limit < len) || count = 0 || decide (64 < count)

/-- The image is read until the first fault that the loader can find: after the header, after the table, or at its end. `rd n`
are the first `n` bytes, of which `limit` may be read. (DEDUCED, log entry 24) -/
def readImage (rd : Nat → List Byte) (limit : Nat) : ImageRead :=
  let hdr := rd (min 0x40 limit)
  let len := fieldAt hdr 8 4
  let ver := fieldAt hdr 12 4
  if headerBad hdr limit then { bytes := hdr, len := len, ver := ver, good := none } else
  let count := fieldAt hdr 6 2
  let top := rd (0x40 + 16 * count)
  let secs := sectionsOf top count
  if !(secs.all fun s => s.placed len count) || !sectionsApart secs || decide (len - 4 < 0x40 + 16 * count) then
    { bytes := top, len := len, ver := ver, good := none }
  else
    let all := rd len
    { bytes := all, len := len, ver := ver,
      good := if crc32c (all.take (len - 4)) = fieldAt all (len - 4) 4 then some secs else none }

/-! ### Entries that are rejected (R44) -/

/-- The first rejected entry is kept. (DEDUCED, log entry 25) -/
def Dev.rejectEntry (d : Dev) (i : Nat) : Dev :=
  if d.on CFGL.APPLY_ERR_VALID then d else (d.setNum CFGL.APPLY_ERR (i % 65536 + 2 ^ 31)).raise CFGL.int_APPLY_ERR

/-- A change during which an access error of a page is noticed: whether one was recorded. The first error since the last read of
ERR_INFO stays the one it holds; an error of the loader names the housekeeping path. (DEDUCED, log entry 25) -/
def Dev.noticed (d : Dev) (page : Nat) (f : Dev → Dev) : Dev × Bool :=
  let old := d.num (ERR_INFO page)
  let lo := d.num (ERR_STAMP_LO page)
  let hi := d.num (ERR_STAMP_HI page)
  let e := f (d.setNum (ERR_INFO page) 0)
  if e.fld (ERR_INFO_CAUSE page) = 0 then (e.setNum (ERR_INFO page) old, false)
  else if d.fld (ERR_INFO_CAUSE page) = 0 then (e.setNum (ERR_INFO page) (setBits (e.num (ERR_INFO page)) 16 1 1), true)
  else
    let e := ((e.setNum (ERR_INFO page) old).setNum (ERR_STAMP_LO page) lo).setNum (ERR_STAMP_HI page) hi
    (e.setFld (ERR_INFO_MORE page) (min 15 (d.fld (ERR_INFO_MORE page) + 1)), true)

/-! ### The register list (R44, R45) -/

/-- Entry `i`: a value for a BAR0 offset. -/
def Dev.applyReg (d : Dev) (i off v : Nat) : Dev :=
  let page := off / 4096
  if off % 4 ≠ 0 ∨ 0x80000 ≤ off ∨ (pageHdr page).isNone then d.rejectEntry i
  else
    let (e, bad) := d.noticed page fun d => d.regWrite
      { path := 1, boot := true, page := page, off := off % 4096, ch := d.selOf 1 page, w := BitVec.ofNat 32 v }
    if bad then e.rejectEntry i else e

/-- The entries of the register lists, in order. -/
def regEntries (bs : List Byte) (secs : List Section) : List (Nat × Nat) :=
  (secs.filter fun s => s.ty = 0x0001).flatMap fun s => (List.range (s.len / 8)).map fun k =>
    (fieldAt bs (s.off + 8 * k) 4, fieldAt bs (s.off + 8 * k + 4) 4)

def Dev.applyRegs (d : Dev) (l : List (Nat × Nat)) : Dev :=
  l.zipIdx.foldl (fun (d : Dev) (x : (Nat × Nat) × Nat) => d.applyReg x.2 x.1.1 x.1.2) d

/-! ### Table preloads (R45) -/

/-- A unit in each pipeline of WIN_MASK. -/
def Dev.putUnit (d : Dev) (i u : Nat) : Dev := d.each 4 fun d p => if bitOf d.winMask p then d.setUnit p i u else d

/-- Whether a unit holds a code that is reserved: bits above the fields, LEN beyond the address, ACT 3.
(DEDUCED, log entry 26) -/
def unitBad (v : Nat) : Bool := v / 2 ^ 72 ≠ 0 || decide ((if unitV6 v then 128 else 32) < unitLen v) || unitAct v = 3

/-- Whether an IPv4 unit stands in the order of R185, by the last valid one on its side: index and LEN.
(DEDUCED, log entry 26) -/
def lowOrder (last : Option (Nat × Nat)) (i v : Nat) : Bool :=
  unitPart v = 0 && match last with | some (j, n) => decide (j < i ∧ unitLen v ≤ n) | none => true

/-- The same for an IPv6 unit, by the first index, and by LEN and VRF, of the last valid one's prefix.
(DEDUCED, log entry 26) -/
def highOrder (last : Option (Nat × Nat)) (i v : Nat) : Bool :=
  let w := prefWidth true (unitLen v)
  let base := i - unitPart v
  decide (unitPart v < w ∧ unitPart v ≤ i) && match last with
    | some (j, n) => (base = j && v / 2 ^ 32 % 2 ^ 20 = n) || decide (base + w ≤ j ∧ unitLen v ≤ n % 256)
    | none => true

/-- A unit with its reserved codes left as `old` has them (R6): LEN beyond the address, ACT 3, and bits above the fields, which no
unit holds. (DEDUCED, log entry 26) -/
def unitSettle (old v : Nat) : Nat :=
  let v := if (if unitV6 v then 128 else 32) < unitLen v then setBits v 32 8 (unitLen old) else v
  (if unitAct v = 3 then setBits v 70 2 (unitAct old) else v) % 2 ^ 72

/-- A preloaded unit. A reserved code leaves its field unchanged and is recorded on the page of the table (R6), and the entry is a
rejected one (R44). A unit that breaks the order is written with VALID 0, outside the regions that OCC and HOLES count, and is rejected.
(DEDUCED, log entry 26) -/
def Dev.preUnit (d : Dev) (i v : Nat) : Dev × Bool :=
  let bad := unitBad v
  let v := unitSettle (d.unitAt (lowPipe d.winMask) i) v
  let d := if bad then d.recErr 0x29 0 1 1 else d
  if !(if unitV6 v then highOrder d.boot.highUnit i v else lowOrder d.boot.lowUnit i v) then
    (d.putUnit i (setBits v 55 1 0), false)
  else
    let d := d.putUnit i (v + unitIn)
    let d := if !unitValid v then d
      else if unitV6 v then d.setBoot { d.boot with highUnit := some (i - unitPart v, v / 2 ^ 32 % 2 ^ 20) }
      else d.setBoot { d.boot with lowUnit := some (i, unitLen v) }
    (d, !bad)

/-- A host-table entry is held for step 11 (R172). A reserved code of it is recorded and makes it a rejected entry, whose field
stays that of an empty place (R6, R44). (DEDUCED, log entry 34) -/
def Dev.holdHost (d : Dev) (i off : Nat) (bs : List Byte) : Dev × Bool :=
  let bad := (hostSettle 0 (guardVal bs)).2
  let d := if bad then d.recErr 0x28 (off % 4096) 1 1 else d
  (d.setBoot { d.boot with preload := d.boot.preload ++ [(i, off, bs)] }, !bad)

/-- One whole table entry of preload entry `i`. (DEDUCED, log entry 25) -/
def Dev.preOne (d : Dev) (i : Nat) (w : WinAt) (off : Nat) (bs : List Byte) : Dev × Bool :=
  match w.win with
  | .hosts => d.holdHost i off bs
  | .units => d.preUnit ((off - w.base) / 16) (leNat bs)
  | .rules =>
    let (e, bad) := d.noticed 0x2A fun d => (d.winWrite true w off bs).1
    (e, !bad)
  | .doms | .hops | .edits =>
    let (e, bad) := d.noticed 0x28 fun d => (d.winWrite true w off bs).1
    (e, !bad)
  | _ => (d, false)

/-- The table entries of preload entry `i`, one after another; whether every one was accepted. (DEDUCED, log entry 25) -/
def Dev.preAll (fuel : Nat) (d : Dev) (i : Nat) (w : WinAt) (off : Nat) (bs : List Byte) (ok : Bool) : Dev × Bool :=
  match fuel with
  | 0 => (d, ok)
  | n + 1 =>
    let (d, b) := d.preOne i w off (bs.take w.entry)
    Dev.preAll n d i w (off + w.entry) (bs.drop w.entry) (ok && b)

/-- Preload entry `i`: whole, aligned table entries of one window. -/
def Dev.applyPre (d : Dev) (i off len : Nat) (bs : List Byte) : Dev :=
  match winAt off with
  | none => d.rejectEntry i
  | some w =>
    if bs.length ≠ len ∨ len = 0 ∨ len % w.entry ≠ 0 ∨ (off - w.base) % w.entry ≠ 0 ∨ w.base + w.size < off + len then d.rejectEntry i
    else
      let (d, ok) := Dev.preAll (len / w.entry) d i w off bs true
      if ok then d else d.rejectEntry i

/-- The entries of the preload section: BAR2 offset, length, data padded to 4 bytes. -/
def preEntries (fuel : Nat) (bs : List Byte) : List (Nat × Nat × List Byte) :=
  match fuel with
  | 0 => []
  | n + 1 =>
    if bs.length < 8 then [] else
    let len := fieldAt bs 4 4
    (fieldAt bs 0 4, len, slice bs 8 len) :: preEntries n (bs.drop (8 + (len + 3) / 4 * 4))

def Dev.applyPres (d : Dev) (first : Nat) (l : List (Nat × Nat × List Byte)) : Dev :=
  l.zipIdx.foldl (fun (d : Dev) (x : (Nat × Nat × List Byte) × Nat) => d.applyPre (first + x.2) x.1.1 x.1.2.1 x.1.2.2) d

/-- The tables that start-up leaves as the image preloads them (R54): nothing of an earlier image stays.
(DEDUCED, log entry 27) -/
def Dev.tablesEmpty (d : Dev) : Dev :=
  let d := (d.resetRegs 0x20 fun r => decide (0x040 ≤ r.off ∧ r.off < 0x400)).resetRegs 0x2B fun r => decide (0x040 ≤ r.off ∧ r.off < 0x400)
  { d with look := { d.look with start := [], units := [], prefixOp := none, rules := [] } }

/-! ### The areas in flash (R51) -/

/-- The section's offsets, where it names two areas that are aligned and clear of each other and of an image of `len` bytes at
the start of flash. (DEDUCED, log entry 28) -/
def flashAreas (bs : List Byte) (secs : List Section) (len : Nat) : Nat × Nat :=
  match secs.find? fun s => s.ty = 0x0005 with
  | none => (0x01000000, 0x01010000)
  | some s =>
    let p := fieldAt bs s.off 4
    let t := fieldAt bs (s.off + 4) 4
    if s.len ≠ 8 ∨ p % 4096 ≠ 0 ∨ t % 4096 ≠ 0 ∨ (p < t + 65536 ∧ t < p + 65536) ∨ p < len ∨ t < len then (0x01000000, 0x01010000)
    else (p, t)

/-! ### Load and check (R43, R44) -/

/-- What the loader reads: host memory, or the flash; without a flash there is nothing to read (R40).
(DEDUCED, log entry 24) -/
def Dev.imageRead (d : Dev) : ImageRead :=
  if d.boot.host then readImage (d.dmaRead (d.num2 CFGL.HOST_ADDR_LO CFGL.HOST_ADDR_HI)) (d.num CFGL.HOST_LEN)
  else if d.boot.flash then readImage (d.flashRead 0) (2 ^ 24)
  else { bytes := [], len := 0, ver := 0, good := none }

/-- The loader's check-value unit holds what it has computed (R325). (DEDUCED, log entry 28) -/
def Dev.loaderCheck (d : Dev) (bs : List Byte) : Dev :=
  let d := d.setUnits { d.units with owners := d.units.owners.set none 8 none, presets := d.units.presets.set 0 8 1 }
  (d.setCtx 8 ((presetOf 1).feed (presetOf 1).start bs)).setNum CHKV.COUNT bs.length 8

/-- The registers of a page that software writes, with their shadows, and the header's CTRL, INT_EN, SEL and SCRATCH return to reset. -/
def Dev.pageDefaults (d : Dev) (p : Nat) : Dev :=
  let d := d.resetRegs p fun r => r.acc = .rw || r.acc = .st
  let d := ((d.setReg (CTRL p) ((CTRL p).rstOf 0)).setReg (INT_EN p) ((INT_EN p).rstOf 0)).setReg (SCRATCH p) 0
  (d.setRegP (SEL p) 0 0 0).setRegP (SEL p) 1 0 0

/-- Factory defaults take the place of an image that was in force (R46): engines stopped, ports down with their lanes off, servo off,
the host's rings off, every register that software writes at reset, and tables empty. The configuration epoch keeps its value, so that
none is used twice (R44). (DEDUCED, log entry 28) -/
def Dev.factory (d : Dev) : Dev :=
  if d.num CFGL.IMG_LEN = 0 then d else
  let d := (d.softFeng.softTime.softPort.softGate.softShap.softPolc).each 32 fun d p => d.portCfgWrite 1 p 0
  let d := (pages.foldl Dev.pageDefaults d.tablesEmpty.hostReset).setNum FENG.UCODE_VER 0
  let d := d.capSettle
  let d := { d with dirty := []
                    look := { d.look with hosts := [], doms := [], hops := [], edits := [], cache := [], learns := [] } }
  d.pasrUpdate.tandemFollow.repaceAll

/-- The image is rejected: factory defaults go on (R43, R46). (DEDUCED, log entry 28) -/
def Dev.imageRejected (d : Dev) (r : ImageRead) : Dev :=
  let d := d.factory
  let d := (d.setNum CFGL.IMG_LEN 0).setNum CFGL.IMG_VER 0
  let d := d.setBoot { d.boot with pfail := 0x01000000, train := 0x01010000, loaded := true, ucode := none }
  let d := (d.setFld TOP.BOOT_STATUS_CFG_DEFAULTED 1).raise CFGL.int_DEFAULTED
  let d := d.log 32 0x0201 (d.num CFGL.IMG_CRC) (if r.bytes = [] then 0 else r.len)
  (d.setNum CSTO.LOAD_STAT 8).toStage 6

/-- The image is applied: register list, table preloads, and a global commit. (DEDUCED, log entry 27) -/
def Dev.imageApplied (d : Dev) (r : ImageRead) (secs : List Section) : Dev :=
  let d := (d.setNum CFGL.IMG_LEN r.len).setNum CFGL.IMG_VER r.ver
  let (p, t) := flashAreas r.bytes secs (if d.boot.host then 0 else r.len)
  let code := (secs.find? fun s => s.ty = 0x0002).map fun s => (s.off, s.len)
  let d := d.setBoot { d.boot with pfail := p, train := t, loaded := true, ucode := code, image := r.bytes }
  let regs := regEntries r.bytes secs
  let d := d.tablesEmpty.applyRegs regs
  let pre := (secs.filter fun s => s.ty = 0x0004).flatMap fun s => preEntries (s.len / 8) (slice r.bytes s.off s.len)
  let d := (d.applyPres regs.length pre).commitGo 1 0
  if code.isSome then d.toStage 4 else (d.setNum CSTO.LOAD_STAT 8).toStage 6

/-- Steps 4 and 5 end. A commit that is in progress ends before the loader's own begins. -/
def Dev.imageLoad (d : Dev) : Dev :=
  if d.bootStage ≠ 3 ∨ d.commit.isSome then d else
  let r := d.imageRead
  let d := d.setNum CFGL.IMG_CRC (crc32c r.bytes)
  match r.good with
  | none => (d.loaderCheck r.bytes).imageRejected r
  | some secs => (d.loaderCheck (r.bytes.take (r.len - 4))).imageApplied r secs

/-- IMAGE_LOAD (R43). -/
def execImageLoad (s : State) : Host.Outcome State Fault Refusal := s.act Dev.imageLoad

end Sys2Proof.Machine
end

