-- ==== Sys2Proof/Machine/Signature.lean ====
section
/-! DEFINITION. The microcode signature's arithmetic (R47, R249): SHA-384 (FIPS 180-4) and the verification of ECDSA over P-384
(FIPS 186-5). Both are public standards that the specification names; their constants are those of the standards. -/

namespace Sys2Proof.Machine

/-! ### SHA-384 -/

/-- The primes below 410: the first 80. -/
def shaPrimes : List Nat := (List.range 410).filter fun p => decide (2 ≤ p) && (List.range 21).all fun k => k < 2 || p ≤ k || p % k ≠ 0

/-- The whole part of the `k`-th root of `v`, below `r + 2 ^ n` and not below `r`. -/
def rootFrom (k v : Nat) : Nat → Nat → Nat
  | 0, r => r
  | n + 1, r => rootFrom k v n (if (r + 2 ^ n) ^ k ≤ v then r + 2 ^ n else r)

/-- The first 64 bits of the fractional part of the `k`-th root of `p`. -/
def rootWord (k p : Nat) : Nat := rootFrom k (p * 2 ^ (64 * k)) 69 0 % 2 ^ 64

/-- The round constants: of the cube roots of the first 80 primes. -/
def shaK : List Nat := shaPrimes.map (rootWord 3)

/-- The initial state: of the square roots of the ninth to sixteenth primes. -/
def shaH : List Nat := ((shaPrimes.drop 8).take 8).map (rootWord 2)

/-- Rotation to the right of a 64-bit word. -/
def rotr64 (x n : Nat) : Nat := x / 2 ^ n + x % 2 ^ n * 2 ^ (64 - n)

def shaSum0 (x : Nat) : Nat := rotr64 x 28 ^^^ rotr64 x 34 ^^^ rotr64 x 39
def shaSum1 (x : Nat) : Nat := rotr64 x 14 ^^^ rotr64 x 18 ^^^ rotr64 x 41
def shaLow0 (x : Nat) : Nat := rotr64 x 1 ^^^ rotr64 x 8 ^^^ x / 2 ^ 7
def shaLow1 (x : Nat) : Nat := rotr64 x 19 ^^^ rotr64 x 61 ^^^ x / 2 ^ 6

/-- The eight working words. -/
structure ShaSt where
  a : Nat
  b : Nat
  c : Nat
  d : Nat
  e : Nat
  f : Nat
  g : Nat
  h : Nat
  deriving DecidableEq, Repr

/-- One round with its constant and its word. -/
def ShaSt.round (s : ShaSt) (kw : Nat) : ShaSt :=
  let t1 := s.h + shaSum1 s.e + ((s.e &&& s.f) ^^^ ((2 ^ 64 - 1 - s.e) &&& s.g)) + kw
  let t2 := shaSum0 s.a + ((s.a &&& s.b) ^^^ (s.a &&& s.c) ^^^ (s.b &&& s.c))
  { a := (t1 + t2) % 2 ^ 64, b := s.a, c := s.b, d := s.c, e := (s.d + t1) % 2 ^ 64, f := s.e, g := s.f, h := s.g }

/-- The message schedule, newest word first: `n` further words. -/
def shaExpand : Nat → List Nat → List Nat
  | 0, l => l
  | n + 1, l => shaExpand n (((shaLow1 (l.getD 1 0) + l.getD 6 0 + shaLow0 (l.getD 14 0) + l.getD 15 0) % 2 ^ 64) :: l)

/-- One block of 128 bytes, as sixteen words. -/
def shaBlock (s : ShaSt) (ws : List Nat) : ShaSt :=
  let w := (shaExpand 64 ws.reverse).reverse
  let t := (w.zip shaK).foldl (fun (s : ShaSt) (p : Nat × Nat) => s.round (p.1 + p.2)) s
  { a := (s.a + t.a) % 2 ^ 64, b := (s.b + t.b) % 2 ^ 64, c := (s.c + t.c) % 2 ^ 64, d := (s.d + t.d) % 2 ^ 64,
    e := (s.e + t.e) % 2 ^ 64, f := (s.f + t.f) % 2 ^ 64, g := (s.g + t.g) % 2 ^ 64, h := (s.h + t.h) % 2 ^ 64 }

/-- The padded message: a one bit, zeros, and the length in bits as 16 bytes. -/
def shaPad (bs : List Byte) : List Byte :=
  bs ++ [0x80] ++ List.replicate ((239 - bs.length % 128) % 128) 0 ++ (leBytes 16 (8 * bs.length)).reverse

/-- The blocks of a padded message. -/
def shaBlocks : Nat → List Byte → ShaSt → ShaSt
  | 0, _, s => s
  | n + 1, bs, s => shaBlocks n (bs.drop 128) (shaBlock s ((List.range 16).map fun i => beNat ((bs.drop (8 * i)).take 8)))

/-- SHA-384 of a message, as the big-endian number of its 48 bytes. (PRESUMED, log entry 31) -/
def sha384 (bs : List Byte) : Nat :=
  let s0 : ShaSt := { a := shaH.getD 0 0, b := shaH.getD 1 0, c := shaH.getD 2 0, d := shaH.getD 3 0,
                      e := shaH.getD 4 0, f := shaH.getD 5 0, g := shaH.getD 6 0, h := shaH.getD 7 0 }
  let m := shaPad bs
  let s := shaBlocks (m.length / 128) m s0
  [s.a, s.b, s.c, s.d, s.e, s.f].foldl (fun v w => v * 2 ^ 64 + w) 0

/-! ### P-384 -/

def p384P : Nat := 2 ^ 384 - 2 ^ 128 - 2 ^ 96 + 2 ^ 32 - 1
def p384B : Nat := 0xb3312fa7e23ee7e4988e056be3f82d19181d9c6efe8141120314088f5013875ac656398d8a2ed19d2a85c8edd3ec2aef
def p384N : Nat := 0xffffffffffffffffffffffffffffffffffffffffffffffffc7634d81f4372ddf581a0db248b0a77aecec196accc52973
def p384Gx : Nat := 0xaa87ca22be8b05378eb1c71ef320ad746e1d3b628ba79b9859f741e082542a385502f25dbf55296c3a545e3872760ab7
def p384Gy : Nat := 0x3617de4a96262c6f5d9e98bf9292dc29f8f41dbd289a147ce9da3113b5f0b8c00a60b1ce1d7e819d7a431d7c90ea0e5f

/-- A power modulo `m`, by as many base-64 digits of the exponent. -/
def powMod (m : Nat) : Nat → Nat → Nat → Nat
  | 0, _, _ => 1
  | k + 1, x, e => powMod m k x (e / 64) ^ 64 % m * (x ^ (e % 64) % m) % m

/-- The inverse modulo a prime of 384 bits. -/
def invMod (m x : Nat) : Nat := powMod m 64 (x % m) (m - 2)

/-- The sum of two points of the curve; none is the point at infinity. -/
def ecAdd (u v : Option (Nat × Nat)) : Option (Nat × Nat) :=
  match u, v with
  | none, v => v
  | u, none => u
  | some (x1, y1), some (x2, y2) =>
    let p := p384P
    if x1 = x2 ∧ (y1 + y2) % p = 0 then none
    else
      let l := if x1 = x2 then (3 * x1 * x1 + (p - 3)) * invMod p (2 * y1) % p
        else (y2 + (p - y1)) * invMod p (x2 + (p - x1)) % p
      let x3 := (l * l + (p - x1) + (p - x2)) % p
      some (x3, (l * (x1 + (p - x3)) + (p - y1)) % p)

/-- A multiple of a point. -/
def ecMul : Nat → Nat → Option (Nat × Nat) → Option (Nat × Nat) → Option (Nat × Nat)
  | 0, _, _, acc => acc
  | k + 1, e, u, acc => ecMul k (e / 2) (ecAdd u u) (if e % 2 = 1 then ecAdd acc u else acc)

/-- Whether a pair lies on the curve. -/
def ecOn (x y : Nat) : Bool :=
  decide (x < p384P) && decide (y < p384P) && decide (y * y % p384P = (x * x % p384P * x + (p384P - 3) * x + p384B) % p384P)

/-- Whether (r, s) is a signature of a digest under a public key. (PRESUMED, log entry 31) -/
def ecdsaOk (qx qy digest r s : Nat) : Bool :=
  let n := p384N
  if !ecOn qx qy || r = 0 || n ≤ r || s = 0 || n ≤ s then false else
  let w := invMod n s
  match ecAdd (ecMul 384 (digest * w % n) (some (p384Gx, p384Gy)) none) (ecMul 384 (r * w % n) (some (qx, qy)) none) with
  | none => false
  | some (x, _) => x % n = r

end Sys2Proof.Machine
end

