-- ==== Sys2Proof/Machine/Boot.lean ====
section
/-! DEFINITION. The steps of start-up (R36 to R54): ROM boot, signature, control store, march tests, training, clearing, the
random number generator and port enable. -/

namespace Sys2Proof.Machine

/-! ### Step 3: ROM boot (R39, R40, R51) -/

/-- The housekeeping processor has booted: the flash identity is known, and an image is loaded from flash, or the host is waited
for. -/
def Dev.romBoot (d : Dev) (flash : Bool) (id : Nat) : Dev :=
  if d.bootStage ≠ 1 then d else
  let d := d.setBoot { d.boot with flash := flash }
  let d := if flash then d.setFld MGMT.FLASH_ID_JEDEC id else d
  if d.fld PWRM.STRAPS_BOOT_SRC = 1 then d.toStage 2 else d.loadBegin false

/-- ROM_BOOT (R36): whether a flash answers, and with which JEDEC identity. -/
def execRomBoot (flash : Bool) (id : Nat) (s : State) : Host.Outcome State Fault Refusal := s.act fun d => d.romBoot flash id

/-! ### Step 6: the signature of the microcode section (R47 to R49) -/

/-- The microcode section. -/
def Dev.ucodeSection (d : Dev) : List Byte :=
  match d.boot.ucode with | some (o, n) => slice d.boot.image o n | none => []

/-- Whether the section's key is the customer's and its signature holds. (PRESUMED, log entry 31) -/
def sectionVerified (bs : List Byte) (hash : Nat) : Bool :=
  let n := fieldAt bs 0x14 4
  let key := slice bs 0x40 97
  decide (n + 96 ≤ bs.length) && sha384 key = hash && key.headD 0 = 0x04 &&
    ecdsaOk (beNat (slice key 1 48)) (beNat (slice key 49 48)) (sha384 (bs.take n)) (beNat (slice bs n 48)) (beNat (slice bs (n + 48) 48))

/-- The fused key hash as the number that SHA-384 gives: its bytes stand in output order (R469).
(DESIGN CHOICE, log entry 6) -/
def Otp.hashNum (o : Otp) : Nat := beNat (leBytes 48 o.hash.toNat)

/-- Step 7 begins: the control store is being loaded (R259). -/
def Dev.storeBegin (d : Dev) : Dev := ((d.setBoot { d.boot with verified := true }).setNum CSTO.LOAD_STAT 1).toStage 5

/-- Step 6 ends: verified, unchecked with a key hash of zero while SEAL is intact, or failed. (PRESUMED, log entry 31) -/
def Dev.signature (d : Dev) : Dev :=
  if d.bootStage ≠ 4 then d
  else if d.otp.hash = 0 ∧ !d.otp.sealed then
    (d.setFld TOP.BOOT_STATUS_SIG_UNCHECKED 1).storeBegin
  else if d.otp.hash ≠ 0 ∧ sectionVerified d.ucodeSection d.otp.hashNum then d.storeBegin
  else
    let d := (d.setBoot { d.boot with verified := false }).setFld TOP.BOOT_STATUS_SIG_FAIL 1
    ((d.setNum CSTO.LOAD_STAT (4 + 2 * 8)).raise CFGL.int_SIG_FAIL).toStage 6

/-- MICROCODE_SIGNATURE (R47). -/
def execMicrocodeSignature (s : State) : Host.Outcome State Fault Refusal := s.act Dev.signature

/-! ### Step 7: the control store (R249, R250) -/

/-- The header faults of an Icavo section, each as the word that holds the field, in rising order of offset. -/
def headFaults (bs : List Byte) : List Nat :=
  let mw := fieldAt bs 0x0C 2
  let nw := fieldAt bs 0x0E 2
  let at_ := (0x100 + 4 * mw + 31) / 32 * 32
  (if fieldAt bs 0 4 ≠ 0x49435631 then [0] else []) ++
  (if fieldAt bs 4 2 ≠ 1 ∨ fieldAt bs 6 2 ≠ 0 then [1] else []) ++
  (if mw = 0 ∨ 16384 < mw ∨ nw = 0 ∨ 4096 < nw then [3] else []) ++
  (if fieldAt bs 0x10 4 ≠ at_ then [4] else []) ++
  (if fieldAt bs 0x14 4 ≠ at_ + 32 * nw ∨ bs.length ≠ fieldAt bs 0x14 4 + 96 then [5] else []) ++
  ((List.range 10).filterMap fun k => if fieldAt bs (0x18 + 4 * k) 4 ≠ 0 then some (6 + k) else none) ++
  ((List.range 31).filterMap fun k => if fieldAt bs (0xA1 + k) 1 ≠ 0 then some ((0xA1 + k) / 4) else none)

/-- The fault of entry `k` of the entry table: cause and index. (DESIGN CHOICE, log entry 30) -/
def entryFault (bs : List Byte) (mw k : Nat) : Option (Nat × Nat) :=
  let e := fieldAt bs (0xC0 + 4 * k) 4
  if bitsOf e 14 17 ≠ 0 then some (3, 0x30 + k)
  else if bitOf e 31 && decide (mw ≤ e % 2 ^ 14) then some (6, k) else none

/-- The fault of microword `k`. (DESIGN CHOICE, log entry 30) -/
def microFault (bs : List Byte) (mw nw k : Nat) : Option (Nat × Nat) :=
  let w := fieldAt bs (0x100 + 4 * k) 4
  let cond := bitsOf w 16 4
  let branch := decide (1 ≤ cond ∧ cond ≤ 11) || cond = 13
  if nw ≤ bitsOf w 20 12 then some (6, k)
  else if branch && bitsOf w 14 2 ≠ 0 then some (5, k)
  else if branch && decide (mw ≤ w % 2 ^ 14) then some (6, k) else none

/-- Cycles for up to `a` bytes 1, up to `b` 2, up to `c` 3, and more 4. -/
def stepCycles (a b c n : Nat) : Nat := if n ≤ a then 1 else if n ≤ b then 2 else if n ≤ c then 3 else 4

/-- The least cycles of a nanoword: the largest minimum among the groups it uses (R248). -/
def minCycles (u : NanoUse) : Nat :=
  max (max (if u.wideAlu then 2 else 1) (stepCycles 8 32 64 u.move))
    (max (max (if u.mem ≤ 32 then 1 else 2) (stepCycles 16 32 64 u.data)) (if u.wideIns then 4 else if u.update then 2 else 1))

/-- The fault of nanoword `k`. Of the bits inside its groups the spec gives no encoding: `uses` says what the groups of each nanoword
do, `none` where one holds a reserved code; nanowords beyond the list use none. (DESIGN CHOICE, log entry 30) -/
def nanoFault (bs : List Byte) (base : Nat) (uses : List (Option NanoUse)) (k : Nat) : Option (Nat × Nat) :=
  let v := fieldAt bs (base + 32 * k) 32
  if bitsOf v 4 4 ≠ 0 ∨ bitsOf v 252 4 ≠ 0 ∨ bitsOf v 2 2 = 3 then some (5, k)
  else match uses.getD k (some {}) with
    | none => some (5, k)
    | some u => if v % 4 + 1 < minCycles u then some (4, k) else none

/-- The first fault of a section: header, entry table, microwords, nanowords. (DESIGN CHOICE, log entry 30) -/
def sectionFault (bs : List Byte) (uses : List (Option NanoUse)) : Option (Nat × Nat) :=
  let mw := fieldAt bs 0x0C 2
  let nw := fieldAt bs 0x0E 2
  match headFaults bs with
  | k :: _ => some (3, k)
  | [] =>
    match (List.range 16).findSome? (entryFault bs mw) with
    | some f => some f
    | none => match (List.range mw).findSome? (microFault bs mw nw) with
      | some f => some f
      | none => (List.range nw).findSome? (nanoFault bs (fieldAt bs 0x10 4) uses)

/-- The words of a store that are not 0. -/
def wordsMap (n : Nat) (f : Nat → Nat) : SMap Nat := ((List.range n).map fun k => (k, f k)).filter fun p => p.2 ≠ 0

/-- The control stores of all eight fronds take a section. Patches end with the microcode they patched. -/
def Dev.storeLoaded (d : Dev) (bs : List Byte) : Dev :=
  let mw := fieldAt bs 0x0C 2
  let nw := fieldAt bs 0x0E 2
  let base := fieldAt bs 0x10 4
  let d := { d.softCsto with eng := { d.softCsto.eng with
    micro := wordsMap mw fun k => fieldAt bs (0x100 + 4 * k) 4
    nano := wordsMap nw fun k => fieldAt bs (base + 32 * k) 32
    mw := mw, nw := nw } }
  let d := d.each 16 fun d k =>
    let r := FENG.ENTRY.ix k
    let d := d.setNum r (fieldAt bs (0xC0 + 4 * k) 4)
    { d with shadow := d.shadow.del (r.key 0 0) }
  let d := ((d.setNum FENG.UCODE_VER (fieldAt bs 8 4)).setNum FENG.RUN 0xFF).engCounts
  ((d.setNum CSTO.LOAD_STAT 2).raise CSTO.int_LOAD_DONE).setCheck

/-- Step 7 ends: the section is loaded, or rejected with a cause and an index. (DESIGN CHOICE, log entry 30) -/
def Dev.storeLoad (d : Dev) (uses : List (Option NanoUse)) : Dev :=
  if d.bootStage ≠ 5 then d else
  match sectionFault d.ucodeSection uses with
  | none => (d.storeLoaded d.ucodeSection).toStage 6
  | some (cause, i) =>
    let d := (d.setNum FENG.RUN 0).setNum CSTO.LOAD_STAT (4 + cause * 8 + i % 2 ^ 24 * 256)
    ((d.raise CSTO.int_LOAD_FAIL).log 32 0x3401 (d.num CSTO.LOAD_STAT)).toStage 6

/-- CONTROL_STORE_LOAD (R250). (DESIGN CHOICE, log entry 30) -/
def execControlStoreLoad (uses : List (Option NanoUse)) (s : State) : Host.Outcome State Fault Refusal :=
  s.act fun d => d.storeLoad uses

/-! ### Step 8: march tests, and the scan of the power-fail area (R50, R53, R274) -/

/-- What the shared buffer, the stores of tasks and the wait lists hold is lost; every unit is free (R54).
(DEDUCED, log entry 32) -/
def Dev.buffersEmpty (d : Dev) : Dev :=
  let d := (d.each 8 Dev.killAll).setFlow { d.flow with waiting := [] }
  let d := { d with
    sw := { d.sw with withheld := [], noBlocks := [], badUnits := [], suspect := [], pri := [], hold := [], waitTm := [], samples := [] }
    look := { d.look with waits := [], released := [] } }
  (d.setNum MARC.WITHHELD 0 8).initPools

/-- The end of the test of a target: a scratchpad holds what the last element wrote. (DEDUCED, log entry 32) -/
def Dev.marchBoot (d : Dev) (t : Nat) (fails : List Nat) : Dev :=
  let d := if t < 8 then d.spadFill t fun _ => 0xFF else d
  (d.marchNote t fails).setNum MARC.MARCH_STAT (statusWord 2 0 (marchSize t)) t

/-- The slot of the power-fail area in force whose record is being written (R27, R53). -/
def Dev.recordingSlot (d : Dev) : Option Nat :=
  match d.sup.recording with
  | some a => if d.boot.pfail ≤ a ∧ a < d.boot.pfail + 65536 then some ((a - d.boot.pfail) / 256) else none
  | none => none

/-- The scan: the newest record is reported, and the sector that holds the next slot is erased unless it is. While a record is
being written, the next slot and its sequence are those that follow it, and its own sector is not erased.
(DESIGN CHOICE, log entry 20) -/
def Dev.pfailScan (d : Dev) : Dev :=
  if !d.boot.flash then d else
  let (slot, seq) := match d.recordingSlot, d.newestRecord with
    | some _, _ => (d.boot.slot, d.boot.seq)
    | none, some k => ((k + 1) % 256, (recordSeq (d.pfailRecord k) + 1) % 2 ^ 32)
    | none, none => (0, 0)
  let d := match d.newestRecord with
    | some k =>
      let st := leNat (((d.pfailRecord k).drop 8).take 8)
      (d.setNum CFGL.PFAIL_LAST_SEQ (recordSeq (d.pfailRecord k))).setNum2 CFGL.PFAIL_LAST_STAMP_LO CFGL.PFAIL_LAST_STAMP_HI st
    | none => (d.setNum CFGL.PFAIL_LAST_SEQ 0xFFFFFFFF).setNum2 CFGL.PFAIL_LAST_STAMP_LO CFGL.PFAIL_LAST_STAMP_HI 0
  let a := d.boot.pfail + slot / 16 * 4096
  let own := match d.recordingSlot with
    | some k => decide (k / 16 = slot / 16)
    | none => false
  let d := if own || (d.flashRead a 4096).all fun b => b = 0xFF then d else d.flashWrite a (List.replicate 4096 0xFF)
  d.setBoot { d.boot with slot := slot, seq := seq }

/-- The window of training opens (R393, R394): channels that were retired are tried again. -/
def Dev.trainOpen (d : Dev) : Dev :=
  let d := (d.setNum MEMC.RETIRED_LO 0).setNum MEMC.RETIRED_HI 0
  let d := d.each 64 fun d m => d.setFld MEMC.CH_STAT_STATE 0 m
  let d := (d.setMem { d.mem with checked := [], retire := none, step := [] }).setNum MEMC.RETIRE_STAT 0
  let d := (d.setFld FLOW.KEY_STAT_DISABLED 0).setNum MTRN.TRAIN_STAT (1 + d.fld CFGL.TRAIN_CFG_HOST_TRAIN * 2)
  d.toStage 7

/-- Step 8 ends: `spads` are the failing words of each scratchpad, `cells` the failing cells of the shared buffer.
(DEDUCED, log entry 32) -/
def Dev.marchTests (d : Dev) (spads : List (List Nat)) (cells : List Nat) : Dev :=
  if d.bootStage ≠ 6 then d else
  let d := d.buffersEmpty
  let d := d.each 8 fun d t => d.marchBoot t (spads.getD t [])
  let d := d.marchBoot 8 cells
  let d := if (List.range 8).all fun t => spads.getD t [] = [] then d
    else ((d.setFld TOP.BOOT_STATUS_MARCH_FAIL 1).setNum FENG.RUN 0).raise CFGL.int_MARCH_FAIL
  d.pfailScan.trainOpen

/-- MARCH_TESTS (R50). -/
def execMarchTests (spads : List (List Nat)) (cells : List Nat) (s : State) : Host.Outcome State Fault Refusal :=
  s.act fun d => d.marchTests spads cells

/-! ### Step 9: memory training (R52, R394) -/

/-- The training area in flash, and whether its results may be used. -/
def Dev.storedArea (d : Dev) : List Byte := d.flashRead d.boot.train 0x1044
def Dev.storedGood (d : Dev) : Bool :=
  let a := d.storedArea
  d.on CFGL.TRAIN_CFG_USE_STORED && d.boot.flash && leNat (slice a 0x1040 4) = crc32c (a.take 0x1040) && slice a 8 16 == d.identity

/-- The results of a channel that the area holds. (DEDUCED, log entry 33) -/
def storedOf (area : List Byte) (m : Nat) : Trained :=
  let e := slice area (0x40 + 64 * m) 64
  let nums := fun (o n : Nat) => (slice e o n).map BitVec.toNat
  { channel := m, ok := true, rd := nums 4 16, wr := nums 20 16, ca := nums 36 7, wck := fieldAt e 43 1, gate := fieldAt e 44 1,
    vref := nums 45 3, rate := fieldAt e 48 1 % 4 }

/-- All the results of a channel are latched, and its check counts as passed or failed. -/
def Dev.latchAll (d : Dev) (m : Nat) (t : Trained) (ok : Bool) : Dev :=
  let d := if ok then d.each 4 fun d k => d.latchStep m k t else d
  (d.setMem { d.mem with checked := d.mem.checked.set 0 m (if ok then 5 else 6) }).showChecked

/-- A channel is trained: its stored results are used where they may be and its short check passes, or it is trained in full.
(DEDUCED, log entry 33) -/
def Dev.trainOne (d : Dev) (pass : List Nat) (full : List Trained) (area : List Byte) (good : Bool) (m : Nat) : Dev :=
  if good && pass.contains m && fieldAt area (0x40 + 64 * m) 1 = 0 then
    (d.latchAll m (storedOf area m) true).setFld TOP.BOOT_STATUS_TRAIN_STORED 1
  else
    let d := d.setFld TOP.BOOT_STATUS_TRAIN_FULL (d.fld TOP.BOOT_STATUS_TRAIN_FULL + 1)
    match full.find? fun t => t.channel % 64 = m with
    | some t => d.latchAll m t t.ok
    | none => d.latchAll m { channel := m, ok := false, rd := [], wr := [], ca := [], wck := 0, gate := 0, vref := [], rate := 0 } false

/-- Step 9 ends, where the module trains by itself: `pass` are the channels whose short check passes, `full` the results of full
training of the others. (DEDUCED, log entry 33) -/
def Dev.train (d : Dev) (pass : List Nat) (full : List Trained) : Dev :=
  if d.bootStage ≠ 7 || d.on MTRN.TRAIN_STAT_HOST then d else
  let area := d.storedArea
  let good := d.storedGood
  let d := d.each 64 fun d m => d.trainOne pass full area good m
  (d.trainClose (decide (0 < d.fld TOP.BOOT_STATUS_TRAIN_FULL))).trainedAll

/-- MEMORY_TRAINING (R52). -/
def execMemoryTraining (pass : List Nat) (full : List Trained) (s : State) : Host.Outcome State Fault Refusal :=
  s.act fun d => d.train pass full

/-! ### Step 10: flow and packet memory are cleared (R36, R54) -/

/-- Step 10 ends: no record, no spilled task, no pattern of the comparator is left, and the sweeper starts at slot 0. -/
def Dev.memClear (d : Dev) : Dev :=
  if d.bootStage ≠ 8 then d else
  let d := d.clearFlow.setMem { d.mem with pattern := [], ues := [] }
  d.sweepBegin.toStage 9

/-- MEMORY_CLEAR (R36). -/
def execMemoryClear (s : State) : Host.Outcome State Fault Refusal := s.act Dev.memClear

/-! ### Step 11: keys, and the host tables (R50, R162, R172, R216) -/

/-- A held host-table entry as it is written now: under R6, its age that of a fresh entry. (DEDUCED, log entry 34) -/
def Dev.heldEntry (d : Dev) (bs : List Byte) : Nat := setBits (hostSettle 0 (guardVal bs)).1 99 12 d.upSec

/-- An entry, with the lower half of an IPv6 host route where it is one, is put into a pipeline's table by its key. -/
def Dev.insertHost (d : Dev) (p ty dom key e : Nat) (half : Option Nat) : Dev × Bool :=
  let ways := hostWays p (d.hostBucket ty dom key)
  match d.hostFind p ty dom key with
  | some i =>
    let d := d.setHost i e
    (match half with | some h => d.setHost ((d.hostFindPart ways 4 dom key).getD i) h | none => d, true)
  | none =>
    match Dev.hostRoom 8 d d.cgen p ways (if half.isSome then 2 else 1) with
    | some (d, i :: r) =>
      let d := d.setHost i e
      (match half with | some h => d.setHost (r.headD i) h | none => d, true)
    | _ => (d, false)

/-- The same in every pipeline of WIN_MASK; preload entry `n` is rejected where there is no room. -/
def Dev.insertAll (d : Dev) (n ty dom key e : Nat) (half : Option Nat) : Dev :=
  let (d, ok) := (List.range 4).foldl (fun (acc : Dev × Bool) p =>
    if bitOf acc.1.winMask p then
      let (d, b) := acc.1.insertHost p ty dom key e half
      (d, acc.2 && b)
    else acc) (d, true)
  if ok then d else d.rejectEntry n

/-- The held entries are inserted in their order; the halves of an IPv6 host route stand one after the other.
(DEDUCED, log entry 34) -/
def Dev.insertHeld (fuel : Nat) (d : Dev) (l : List (Nat × Nat × List Byte)) : Dev :=
  match fuel, l with
  | f + 1, (n, _, bs) :: r =>
    let e := d.heldEntry bs
    let dom := bitsOf e 64 12
    let ty := hostType e
    if ty = 0 then Dev.insertHeld f d r
    else if ty = 1 ∨ ty = 2 then Dev.insertHeld f (d.insertAll n ty dom (keyOf ty (e % 2 ^ 64)) e none) r
    else match r with
      | (_, _, cs) :: r' =>
        let h := d.heldEntry cs
        if ty = 3 ∧ hostType h = 4 ∧ bitsOf h 64 12 = dom then
          Dev.insertHeld f (d.insertAll n 3 dom (e % 2 ^ 64 * 2 ^ 64 + h % 2 ^ 64) e (some h)) r'
        else Dev.insertHeld f (d.rejectEntry n) r
      | [] => d.rejectEntry n
  | _, _ => d

/-- The keys of the flow table, of the fragment table and of the host table. (DEDUCED, log entry 34) -/
def Dev.putKeys (d : Dev) (kp kl kf host : Nat) : Dev :=
  let d := d.setFlow { d.flow with kp := kp, kl := kl }
  { d with look := { d.look with kf := kf, hostKey := host, hosts := [], cache := [], learns := [] } }

/-- The keys are drawn once the health tests pass; after three failures the flow table is off and the other keys are zero.
(DEDUCED, log entry 27) -/
def Dev.keysDrawn (d : Dev) (pass : Bool) : Dev :=
  let d := d.fragClear
  if pass then
    let k := d.newKeys
    let d := d.drawn
    let x := d.newKeys
    ((d.drawn.putKeys k.1 k.2 x.1 x.2).setFld FLOW.KEY_STAT_VALID 1).setFld FWDT.HT_STAT_HASH_WEAK 0
  else
    let d := ((d.putKeys 0 0 0 0).setFld FLOW.KEY_STAT_VALID 0).setFld FLOW.KEY_STAT_DISABLED 1
    ((d.setFld FWDT.HT_STAT_HASH_WEAK 1).setFld TOP.BOOT_STATUS_RNG_FAIL 1).raise CFGL.int_RNG_FAIL

/-- Step 11 ends. (DEDUCED, log entry 34) -/
def Dev.rngTests (d : Dev) (pass : Bool) : Dev :=
  if d.bootStage ≠ 9 then d else
  let d := d.keysDrawn pass
  let held := d.boot.preload
  (Dev.insertHeld held.length (d.setBoot { d.boot with preload := [] }) held).toStage 10

/-- RNG_HEALTH_TESTS (R50, R216). -/
def execRngHealthTests (pass : Bool) (s : State) : Host.Outcome State Fault Refusal := s.act fun d => d.rngTests pass

/-! ### Step 12: ports (R37, R49, R50, R54) -/

/-- READY: every page answers and BOOT_DONE is logged; ports that are administratively up begin their bring-up, unless the
signature or a march test has failed. (DEDUCED, log entry 35) -/
def Dev.portEnable (d : Dev) : Dev :=
  if d.bootStage ≠ 10 then d else
  let d := (d.toStage 11).setFld TOP.BOOT_STATUS_READY 1
  let d := d.setNum CFGL.BOOT_MS (min 65535 ((d.boot.before + d.upUs + 500) / 1000))
  let d := { d with sw := { d.sw with audit := { d.sw.audit with lastS := d.upMs / 1000 } } }
  let d := (d.governorsStart.raise CFGL.int_READY).log 32 0x0001 (d.num TOP.BOOT_STATUS) (d.num CFGL.BOOT_MS)
  let d := if d.on TOP.BOOT_STATUS_SIG_FAIL || d.on TOP.BOOT_STATUS_MARCH_FAIL then d else d.readminAll.tandemFollow
  d.repaceAll

/-- PORT_ENABLE (R37). -/
def execPortEnable (s : State) : Host.Outcome State Fault Refusal := s.act Dev.portEnable

end Sys2Proof.Machine
end

