-- ==== Sys2Proof/Machine/TableErr.lean ====
section
/-! DEFINITION. Words of the pipelines' tables that read with errors, and what their entries act as from then on (R466, R467, kinds 8 and
9). -/

namespace Sys2Proof.Machine

/-- What an entry acts as, once a word of it has read uncorrectably. (DESIGN CHOICE, log entry 117) -/
def Dev.tableLost (d : Dev) (p : Nat) (mem : TableMem) (i : Nat) : Dev :=
  let l := d.look
  let l := match mem with
    | .node => if l.badNodes.contains (256 * p + i % 256) then l else { l with badNodes := (256 * p + i % 256) :: l.badNodes }
    | .anchor =>
      if l.badAnchors.contains (65536 * p + i % 65536) then l else { l with badAnchors := (65536 * p + i % 65536) :: l.badAnchors }
    | .rule =>
      let k := p * 65536 + i % 65536
      { l with rules := l.rules.set 0 k (setBits (l.rules.get 0 k) (32 * 25 + 16) 1 0) }
    | .unit =>
      let k := p * lpmUnits + i % lpmUnits
      { l with units := l.units.set 0 k (setBits (l.units.get 0 k) 55 1 0) }
    | .dom =>
      let k := p * 4096 + i % 4096
      { l with doms := l.doms.set 0 k (setBits (setBits (l.doms.get 0 k) 0 34 0) 46 2 0) }
    | .hop =>
      let k := p * 16384 + i % 16384
      { l with hops := l.hops.set 0 k (setBits (l.hops.get 0 k) 58 1 0) }
    | .edit => { l with edits := l.edits.set 0 ((p * 4096 + i % 4096) * 32) 0xF }
    | .host => { l with hosts := l.hosts.set 0 (p * 262144 + i % 262144) 0 }
    | .frag => { l with frags := l.frags.set none (p * 8192 + i % 8192) none }
  { d with look := l }

/-- The kind of R467. -/
def TableMem.kind (m : TableMem) : Nat := match m with | .host => 9 | .frag => 9 | _ => 8

/-- A word that a pipeline's reads find with an error is counted, and an uncorrectable one loses its entry. -/
def Dev.tableRead (d : Dev) (p : Nat) (x : TableWord) : Dev :=
  let d := d.guarded (islandOfPipe p) (TableMem.kind x.mem) x.index x.guard
  if x.guard = .bad then d.tableLost p x.mem x.index else d

/-- The reads of a pipeline for one frame. -/
def Dev.tableReads (d : Dev) (p : Nat) (l : List TableWord) : Dev := l.foldl (fun d x => d.tableRead p x) d

end Sys2Proof.Machine
end

