-- ==== Sys2Proof/Machine/Pipeline.lean ====
section
/-! DEFINITION. The way of a head through its pipeline: parse, fragment table, forwarding, classifier, the request to the flow
table, and the egress stage with its final result (R151, R164, R168, R197, R212). -/

namespace Sys2Proof.Machine

/-- The stages after the fragment table (R174, R196, R212). -/
def Dev.lookups (d : Dev) (pipe k : Nat) (ovf : Bool) : Dev :=
  let d := (d.forward pipe k ovf).classify pipe k
  match d.frame k with
  | none => d
  | some f =>
    let d := d.crossed (islandOfPipe pipe) 3 f.tag k
    if d.wantsFlow f then
      let d := if ((d.anchorView pipe).localOf (d.flowConn f)).2.2.2 then d.bump (ANCH.DUAL.ix pipe) else d
      (d.perf (islandOfPipe pipe) 0x082).setFrame k { f with stage := .request }
    else d.setFrame k { f with stage := .edit }

/-- The configuration epoch of a head that a pipeline takes now (R78, R81). -/
def Dev.epochAt (d : Dev) (pipe : Nat) : Nat :=
  let e := d.num (COMMIT 0) % 65536
  match d.commit with
  | some c =>
    if c.applied then e
    else if d.islandNs (9 + pipe) < c.tc then (if c.switched.contains 32 then c.was else e)
    else if c.switched.contains 32 then e else nextEpoch e
  | none => e

/-- A pipeline takes the head that was offered first: it takes its epoch, is parsed, and goes through the fragment table and
the lookups, unless the parse punts or discards it (R81, R151 to R157). -/
def Dev.headParse (d : Dev) (pipe : Nat) (ovf : Bool) (reads : List TableWord) : Dev :=
  match d.sw.heads.get [] pipe with
  | [] => d
  | k :: r =>
    let d := { d with sw := { d.sw with heads := d.sw.heads.set [] pipe r } }
    match d.frame k with
    | none => d
    | some f =>
      let d := (d.perf (islandOfPipe pipe) 0x080).crossed (islandOfPipe pipe) 2 f.tag k
      let d := d.tableReads pipe reads
      let p := d.parse pipe f.bytes
      let d := d.setFrame k { f with epoch := d.epochAt pipe, gen := d.genAt pipe, ctx := p.ctx pipe }
      let d := if p.exc = 0 then d else d.bump (PARS.EXC_CNT.ix2 pipe p.exc)
      let act := d.parseAct (d.genAt pipe) p
      let d := if act ≠ 0 ∧ p.exc ≤ 5 then d.raise PARS.int_LIMIT else d
      if act = 1 then d.punt k 1
      else if act = 2 then d.discardFrame k 3
      else
        match d.fragStage pipe k with
        | (d, true) => d.lookups pipe k ovf
        | (d, false) => d

/-- HEAD_PARSE (R151): a pipeline that is not paused and has no released fragment to take first. -/
def execHeadParse (pipe : Nat) (ovf : Bool) (reads : List TableWord) (s : State) : Host.Outcome State Fault Refusal :=
  s.run fun d => d.when (!d.pipeHeld (pipe % 4) && (d.releasedOf (pipe % 4)).isEmpty) fun d =>
    d.headParse (pipe % 4) ovf reads

/-- A released fragment enters the fragment table again (R164). -/
def Dev.reenter (d : Dev) (pipe : Nat) (ovf : Bool) (reads : List TableWord) : Dev :=
  match d.releasedOf pipe with
  | [] => d
  | k :: r =>
    match ((d.setReleased pipe r).tableReads pipe reads).fragStage pipe k with
    | (d, true) => d.lookups pipe k ovf
    | (d, false) => d

/-- FRAGMENT_REENTRY (R164). -/
def execFragmentReentry (pipe : Nat) (ovf : Bool) (reads : List TableWord) (s : State) : Host.Outcome State Fault Refusal :=
  s.run fun d => d.reenter (pipe % 4) ovf reads

/-! ### The final result (R197) -/

/-- Where a final result sends a frame: the destinations, the next hop, and the reason that a punt carries; or the reason of
R350 for which it is discarded, and whether an invalid next hop is the cause. -/
inductive Verdict where
  | go (dest : Nat) (hop : Option Nat) (code : Nat)
  | drop (reason : Nat) (hop : Bool)
  deriving DecidableEq, Repr

/-- A frame goes to the port of its next hop, which must be valid (R175). (DEDUCED, log entry 72) -/
def Dev.viaHop (d : Dev) (f : Frame) (hop : Nat) : Verdict :=
  let nh := d.hopAt f.ctx.pipe hop
  if hopValid nh then .go (2 ^ hopPort nh) (some hop) 0 else .drop 5 true

def Dev.verdict (d : Dev) (f : Frame) : Verdict :=
  let r := f.ctx.res
  match resAct r with
  | 0 =>
    if f.ctx.fwd.act = 2 then .drop 5 false
    else if f.ctx.fwd.act = 1 then .go (2 ^ 32) none f.code
    else match f.ctx.fwd.nextHop with
      | some hop => d.viaHop f hop
      | none => .go f.ctx.fwd.dest none 0
  | 1 => if resNhEn r then d.viaHop f (resNextHop r) else .go (if resPort r < 34 then 2 ^ resPort r else 0) none 0
  | 2 => .go (2 ^ 32) none (if f.ctx.byTask then 7 else 6)
  | _ => .drop (if f.ctx.byTask then 7 else 6) false

/-- The list that stands for a frame: its flow task's, or the one that the result names. -/
def Dev.finalList (d : Dev) (f : Frame) : Option Edits :=
  if f.ctx.byTask then some f.ctx.edits
  else if resEditEn f.ctx.res then d.editEntry f.ctx.pipe (resEdit f.ctx.res)
  else some {}

/-- The egress stage (R168, R169, R176, R197, R332): the frame is discarded, or edited and passed on.
(DEDUCED, log entry 70) -/
def Dev.egressStage (d : Dev) (k : Nat) (f : Frame) : Dev :=
  let pipe := f.ctx.pipe
  match d.verdict f with
  | .drop reason hop =>
    let d := if hop then d.fwdCnt pipe 15 else d
    d.discardFrame k reason
  | .go dest hop code =>
    let d := d.crossed (islandOfPipe pipe) 8 f.tag k
    let code := if code = 0 && bitOf dest 32 then 9 else code
    let d := d.updFrame k fun f => { f with dest := dest, code := code, stage := .ready }
    let e := editStart f.bytes f.ctx.layers
    let e := match hop with | some h => d.routeEdits f h e | none => e
    let fail := fun (d : Dev) => ((d.bump (PARS.EDIT_DISC.ix pipe)).raise PARS.int_EDIT_DISC).discardFrame k 9
    match d.finalList f with
    | none => fail d
    | some l =>
      match e.run l.ops l.data l.rewrite with
      | none => fail d
      | some e =>
        if 10240 < e.bytes.length + 4 then fail d
        else if hop.isNone ∧ l.ops = [] then d
        else d.rehead k f e

/-- EDIT_LIST_APPLY (R168). -/
def execEditListApply (desc : Nat) (reads : List TableWord) (s : State) : Host.Outcome State Fault Refusal :=
  s.run fun d => match d.frame desc with
    | some f => if f.stage = .edit then (d.tableReads f.ctx.pipe reads).egressStage desc f else d
    | none => d

end Sys2Proof.Machine
end

