-- ==== Sys2Proof/Machine/Steps.lean ====
section
/-! DEFINITION. Steps of the device clock and the beacons that carry them (R110 to R115): an instant that a replica has reached has fired
before a step moves it, and one that a step passes fires at once. -/

namespace Sys2Proof.Machine

/-! ### Instants of device time (R113) -/

/-- Everything whose instant a replica has reached fires: islands switch to a commit's values (R82), act on a snapshot (R427), gate lists
become active (R367, R369), and the wake timer wakes the module (R59). (DEDUCED, log entry 121) -/
def Dev.fireInstants (d : Dev) : Dev :=
  let d := d.snapNow.commitNow
  let d := d.when d.awake fun d => d.each 34 Dev.gateSwap
  d.wakeTimer

/-! ### The traffic manager at a step (R369) -/

/-- The position of a list in its cycle is kept, for a step to before OPER_BASE. -/
def Dev.keepPosition (d : Dev) (n : Nat) : Dev := if d.gated n then d.showGates n else d

/-- The uptime at which the gate of a copy in transmission closes, as it stands after a step; one that has closed stays so.
(DEDUCED, log entry 121) -/
def Dev.closing (d : Dev) (n : Nat) (t : Tx) : Tx :=
  if !t.started || t.closes.any (· ≤ d.clk.up) then t
  else { t with closes := (d.openFor n t.copy.cls).map fun x => d.clk.up + 10 * x }

/-- A port's gates follow a step. -/
def Dev.gatesStepped (d : Dev) (n : Nat) : Dev := (d.setStaged n ((d.stagedOf n).map (d.closing n))).pruneDeficits n

/-! ### Steps (R110 to R112) -/

/-- The clock is stepped. -/
def Dev.stepClock (d : Dev) (st : Step) : Dev :=
  let before := d.stamp 31
  let c := d.clk.setFine (d.clk.stepTo st).toNat
  let c := match st with | .set _ _ => { c with frac := 0, rem := 0 } | _ => c
  let d := { d with clk := c, sw := { d.sw with stepMs := d.upMs }, time := { d.time with low := [] } }
  let d := d.setNum TIME.GEN ((d.num TIME.GEN + 1) % 65536)
  let d := match st with
    | .servo _ => { d with time := { d.time with stepped := true } }.setFld TIME.SYNC_STAT_TRACEABLE 1
    | .set _ _ => d.setFld TIME.SYNC_STAT_TRACEABLE 1
    | .add _ _ _ _ => d
  let src := match st with | .servo _ => 1 | _ => 0
  (d.raise TIME.int_STEPPED).log 31 0x0501 before.toNat (before.toNat / 2 ^ 32) (d.num TIME.GEN) src

/-- A step carried by a beacon is applied, or, where it would take the clock below 0 s, is not (R110 to R112). A servo step that waits is
applied even if SERVO_EN has been cleared or TIME reset since. (DESIGN CHOICE, log entry 118) -/
def Dev.applyStep (d : Dev) (st : Step) : Dev :=
  if d.clk.stepTo st < 0 then
    match st with
    | .add _ _ _ path => d.recErr 0x05 0x424 1 path
    | _ => d.raise TIME.int_OFFSET_LARGE
  else
    let d := (d.fireInstants.each 34 Dev.keepPosition).stepClock st
    d.fireInstants.each 34 Dev.gatesStepped

/-- A beacon finds an island's replica `dv` tenths of a nanosecond from the master, from where it slews to the master: more than 2 ns
is a slip, counted and logged (R114, R115). (DEDUCED, log entry 56) -/
def Dev.beaconAt (d : Dev) (island : Nat) (dv : Int) : Dev :=
  let shown := d.islandTenths island
  let d := { d with time := { d.time with dev := d.time.dev.set 0 island dv, devAt := d.time.devAt.set 0 island d.clk.up,
                                          low := d.time.low.set 0 island shown } }
  if 20 < dv.natAbs then
    let d := (d.bump TIME.TETHER_SLIPS).setNum TIME.TETHER_LAST (island % 256 + min 255 dv.natAbs * 256)
    (d.raise TIME.int_TETHER_SLIP).log 31 0x0502 (d.num TIME.TETHER_LAST)
  else d

/-- A beacon: each replica compares itself, and a pending step is applied (R110, R114). (DEDUCED, log entry 56) -/
def Dev.beacon (d : Dev) (devs : List (Nat × Int)) : Dev :=
  let d := devs.foldl (fun d p => if p.1 < 34 ∧ d.time.halted.get none p.1 = none then d.beaconAt p.1 p.2 else d) d
  match d.time.pending with
  | none => d
  | some st => { d with time := { d.time with pending := none } }.applyStep st

/-- TETHER_BEACON (R114). (DEDUCED, log entry 56) -/
def execTetherBeacon (devs : List (Nat × Int)) (s : State) : Host.Outcome State Fault Refusal :=
  s.actClk fun d => d.when d.runs fun d => d.beacon devs

end Sys2Proof.Machine
end

