-- ==== Sys2Proof/Machine/Dispatch.lean ====
section
/-! DEFINITION. One arm per command: each a call of its meaning. -/

namespace Sys2Proof.Machine

def exec (i : Instr) (s : State) : Host.Outcome State Fault Refusal :=
  match i with
  | .supplyQualification cool => Sys2Proof.Machine.execSupplyQualification cool s
  | .powerOnReset straps us => Sys2Proof.Machine.execPowerOnReset straps us s
  | .resetN low cool => Sys2Proof.Machine.execResetN low cool s
  | .perstN => Sys2Proof.Machine.execPerstN s
  | .powerFailWarning vin => Sys2Proof.Machine.execPowerFailWarning vin s
  | .pfailNExternal low vin => Sys2Proof.Machine.execPfailNExternal low vin s
  | .recordDone => Sys2Proof.Machine.execRecordDone s
  | .supplyWarnEnd vin => Sys2Proof.Machine.execSupplyWarnEnd vin s
  | .brownOut => Sys2Proof.Machine.execBrownOut s
  | .overvoltage => Sys2Proof.Machine.execOvervoltage s
  | .overvoltageShutdown => Sys2Proof.Machine.execOvervoltageShutdown s
  | .ovRecovery => Sys2Proof.Machine.execOvRecovery s
  | .vinSample mv => Sys2Proof.Machine.execVinSample mv s
  | .thermAlarm temp island => Sys2Proof.Machine.execThermAlarm temp island s
  | .thermCapRelease temp island => Sys2Proof.Machine.execThermCapRelease temp island s
  | .thermalShutdown => Sys2Proof.Machine.execThermalShutdown s
  | .romBoot flash id => Sys2Proof.Machine.execRomBoot flash id s
  | .imageLoad => Sys2Proof.Machine.execImageLoad s
  | .microcodeSignature => Sys2Proof.Machine.execMicrocodeSignature s
  | .controlStoreLoad uses => Sys2Proof.Machine.execControlStoreLoad uses s
  | .marchTests spads cells => Sys2Proof.Machine.execMarchTests spads cells s
  | .memoryTraining pass full => Sys2Proof.Machine.execMemoryTraining pass full s
  | .memoryClear => Sys2Proof.Machine.execMemoryClear s
  | .rngHealthTests pass => Sys2Proof.Machine.execRngHealthTests pass s
  | .portEnable => Sys2Proof.Machine.execPortEnable s
  | .hostLoad => Sys2Proof.Machine.execHostLoad s
  | .trainDone => Sys2Proof.Machine.execTrainDone s
  | .sleepReq => Sys2Proof.Machine.execSleepReq s
  | .sleepN => Sys2Proof.Machine.execSleepN s
  | .sporeDrainEnd => Sys2Proof.Machine.execSporeDrainEnd s
  | .sporeLanesOff => Sys2Proof.Machine.execSporeLanesOff s
  | .sporePacketMemoryRelease => Sys2Proof.Machine.execSporePacketMemoryRelease s
  | .sporeSelfRefresh => Sys2Proof.Machine.execSporeSelfRefresh s
  | .wakeN => Sys2Proof.Machine.execWakeN s
  | .wakeReq => Sys2Proof.Machine.execWakeReq s
  | .wakeTimer => Sys2Proof.Machine.execWakeTimer s
  | .wakeDone => Sys2Proof.Machine.execWakeDone s
  | .admission => Sys2Proof.Machine.execAdmit s
  | .registerWrite path off be value done found => Sys2Proof.Machine.execRegisterWrite path off be value done found s
  | .selWrite path page value => Sys2Proof.Machine.execSelWrite path page value s
  | .readClear path off => Sys2Proof.Machine.execReadClear path off s
  | .errInfoRead path page => Sys2Proof.Machine.execErrInfoRead path page s
  | .w1cWrite path page value => Sys2Proof.Machine.execW1cWrite path page value s
  | .intForce path page value => Sys2Proof.Machine.execIntForce path page value s
  | .softReset page done found => Sys2Proof.Machine.execSoftReset page done found s
  | .commitGo path page => Sys2Proof.Machine.execCommitGo path page s
  | .commitDiscard path page => Sys2Proof.Machine.execCommitDiscard path page s
  | .commitInstant => Sys2Proof.Machine.execCommitInstant s
  | .commitDone => Sys2Proof.Machine.execCommitDone s
  | .pauseGo mask => Sys2Proof.Machine.execPauseGo mask s
  | .pauseReached => Sys2Proof.Machine.execPauseReached s
  | .pauseResume => Sys2Proof.Machine.execPauseResume s
  | .pauseExpired => Sys2Proof.Machine.execPauseExpired s
  | .governorWindow island occ => Sys2Proof.Machine.execGovernorWindow island occ s
  | .paceChangeDone island => Sys2Proof.Machine.execPaceChangeDone island s
  | .pin level => Sys2Proof.Machine.execPin level s
  | .unpin => Sys2Proof.Machine.execUnpin s
  | .nowNsRead path => Sys2Proof.Machine.execNowNsRead path s
  | .stepAdd path => Sys2Proof.Machine.execStepAdd path s
  | .stepSet path => Sys2Proof.Machine.execStepSet path s
  | .tetherBeacon devs => Sys2Proof.Machine.execTetherBeacon devs s
  | .ref10mLost => Sys2Proof.Machine.execRef10mLost s
  | .ref10mReturn => Sys2Proof.Machine.execRef10mReturn s
  | .ppsInEdge => Sys2Proof.Machine.execPpsInEdge s
  | .offsetIn w => Sys2Proof.Machine.execOffsetIn w s
  | .servoEnable enable => Sys2Proof.Machine.execServoEnable enable s
  | .servoHoldover => Sys2Proof.Machine.execServoHoldover s
  | .ppsOut => Sys2Proof.Machine.execPpsOut s
  | .txtsTagRead path port => Sys2Proof.Machine.execTxtsTagRead path port s
  | .portCfgWrite path port w => Sys2Proof.Machine.execPortCfgWrite path port w s
  | .anRestart port => Sys2Proof.Machine.execAnRestart port s
  | .frameStart port bs pick => Sys2Proof.Machine.execFrameStart port bs pick s
  | .frameAdmit port bs pcs pick => Sys2Proof.Machine.execFrameAdmit port bs pcs pick s
  | .macControlFrame port bs pick => Sys2Proof.Machine.execMacControlFrame port bs pick s
  | .receivedPauseExpiry port pri => Sys2Proof.Machine.execReceivedPauseExpiry port pri s
  | .xoffRefresh port pri => Sys2Proof.Machine.execXoffRefresh port pri s
  | .pfcStorm port pri => Sys2Proof.Machine.execPfcStorm port pri s
  | .pfcStormEnd port pri => Sys2Proof.Machine.execPfcStormEnd port pri s
  | .linkDown port conds lanes => Sys2Proof.Machine.execLinkDown port conds lanes s
  | .upPending port => Sys2Proof.Machine.execUpPending port s
  | .linkUp port => Sys2Proof.Machine.execLinkUp port s
  | .flapReuse port => Sys2Proof.Machine.execFlapReuse port s
  | .anFail port => Sys2Proof.Machine.execAnFail port s
  | .ltFail port => Sys2Proof.Machine.execLtFail port s
  | .anBackoffExpiry port => Sys2Proof.Machine.execAnBackoffExpiry port s
  | .headParse pipe ovf reads => Sys2Proof.Machine.execHeadParse pipe ovf reads s
  | .waitTimeout pipe => Sys2Proof.Machine.execWaitTimeout pipe s
  | .fragmentReentry pipe ovf reads => Sys2Proof.Machine.execFragmentReentry pipe ovf reads s
  | .fragmentEntryExpiry pipe entry => Sys2Proof.Machine.execFragmentEntryExpiry pipe entry s
  | .flowRequest desc home alt => Sys2Proof.Machine.execFlowRequest desc home alt s
  | .editListApply desc reads => Sys2Proof.Machine.execEditListApply desc reads s
  | .graphGo path auto => Sys2Proof.Machine.execGraphGo path auto s
  | .graphArm auto => Sys2Proof.Machine.execGraphArm auto s
  | .graphAutoStart => Sys2Proof.Machine.execGraphAutoStart s
  | .graphAbort done => Sys2Proof.Machine.execGraphAbort done s
  | .graphDone done => Sys2Proof.Machine.execGraphDone done s
  | .learnApply pipe => Sys2Proof.Machine.execLearnApply pipe s
  | .learnCacheExpiry pipe => Sys2Proof.Machine.execLearnCacheExpiry pipe s
  | .moveStormWindow pipe => Sys2Proof.Machine.execMoveStormWindow pipe s
  | .hostTableSweep pipe index => Sys2Proof.Machine.execHostTableSweep pipe index s
  | .hostFind mask => Sys2Proof.Machine.execHostFind mask s
  | .hostInsert mask => Sys2Proof.Machine.execHostInsert mask s
  | .hostDelete mask => Sys2Proof.Machine.execHostDelete mask s
  | .hostTableReadLock index => Sys2Proof.Machine.execHostTableReadLock index s
  | .prefixFind mask => Sys2Proof.Machine.execPrefixFind mask s
  | .prefixInsert mask => Sys2Proof.Machine.execPrefixInsert mask s
  | .prefixDelete mask => Sys2Proof.Machine.execPrefixDelete mask s
  | .prefixUnitMove => Sys2Proof.Machine.execPrefixUnitMove s
  | .ruleWrite mask => Sys2Proof.Machine.execRuleWrite mask s
  | .ruleInvalidate mask => Sys2Proof.Machine.execRuleInvalidate mask s
  | .ruleRead => Sys2Proof.Machine.execRuleRead s
  | .bankLoadGo path auto => Sys2Proof.Machine.execBankLoadGo path auto s
  | .bankLoadArm auto => Sys2Proof.Machine.execBankLoadArm auto s
  | .bankLoadAutoStart => Sys2Proof.Machine.execBankLoadAutoStart s
  | .bankLoadAbort done => Sys2Proof.Machine.execBankLoadAbort done s
  | .loadDone done => Sys2Proof.Machine.execLoadDone done s
  | .ctlSend frond thread prog => Sys2Proof.Machine.execCtlSend frond thread prog s
  | .insSend frond thread prog ue => Sys2Proof.Machine.execInsSend frond thread prog ue s
  | .delSend frond thread prog reason => Sys2Proof.Machine.execDelSend frond thread prog reason s
  | .harvSend frond thread prog => Sys2Proof.Machine.execHarvSend frond thread prog s
  | .cntAdd frond thread index value => Sys2Proof.Machine.execCntAdd frond thread index value s
  | .emit frond thread prog spad long reason => Sys2Proof.Machine.execEmit frond thread prog spad long reason s
  | .mergerWriteBack slot => Sys2Proof.Machine.execMergerWriteBack slot s
  | .sweepStart => Sys2Proof.Machine.execSweepStart s
  | .sweepAbort => Sys2Proof.Machine.execSweepAbort s
  | .sweepPairVisit => Sys2Proof.Machine.execSweepPairVisit s
  | .rebuildGo => Sys2Proof.Machine.execRebuildGo s
  | .rebuildPairCopy => Sys2Proof.Machine.execRebuildPairCopy s
  | .rebuildSwitch => Sys2Proof.Machine.execRebuildSwitch s
  | .rebuildAbort => Sys2Proof.Machine.execRebuildAbort s
  | .rekey => Sys2Proof.Machine.execRekey s
  | .flowDelete incarn => Sys2Proof.Machine.execFlowDelete incarn s
  | .pinRecord incarn => Sys2Proof.Machine.execPinRecord incarn s
  | .unpinRecord incarn => Sys2Proof.Machine.execUnpinRecord incarn s
  | .anchorLoadGo path auto => Sys2Proof.Machine.execAnchorLoadGo path auto s
  | .anchorLoadArm auto => Sys2Proof.Machine.execAnchorLoadArm auto s
  | .anchorLoadAutoStart => Sys2Proof.Machine.execAnchorLoadAutoStart s
  | .anchorLoadAbort done => Sys2Proof.Machine.execAnchorLoadAbort done s
  | .anchorLoadDone done => Sys2Proof.Machine.execAnchorLoadDone done s
  | .taskDispatch frond => Sys2Proof.Machine.execTaskDispatch frond s
  | .next frond thread ue => Sys2Proof.Machine.execNext frond thread ue s
  | .goto frond thread ue => Sys2Proof.Machine.execGoto frond thread ue s
  | .ifZ frond thread ue => Sys2Proof.Machine.execIfZ frond thread ue s
  | .ifNz frond thread ue => Sys2Proof.Machine.execIfNz frond thread ue s
  | .ifC frond thread ue => Sys2Proof.Machine.execIfC frond thread ue s
  | .ifNc frond thread ue => Sys2Proof.Machine.execIfNc frond thread ue s
  | .ifN frond thread ue => Sys2Proof.Machine.execIfN frond thread ue s
  | .ifZn frond thread ue => Sys2Proof.Machine.execIfZn frond thread ue s
  | .ifHit frond thread ue => Sys2Proof.Machine.execIfHit frond thread ue s
  | .ifUpdFail frond thread ue => Sys2Proof.Machine.execIfUpdFail frond thread ue s
  | .ifUnitErr frond thread ue => Sys2Proof.Machine.execIfUnitErr frond thread ue s
  | .call frond thread ue => Sys2Proof.Machine.execCall frond thread ue s
  | .ret frond thread ue => Sys2Proof.Machine.execRet frond thread ue s
  | .dispatch frond thread ue => Sys2Proof.Machine.execDispatch frond thread ue s
  | .wait frond thread ue => Sys2Proof.Machine.execWait frond thread ue s
  | .endTask frond thread prog ue => Sys2Proof.Machine.execEnd frond thread prog ue s
  | .and frond thread dst a b flags => Sys2Proof.Machine.execAnd frond thread dst a b flags s
  | .or frond thread dst a b flags => Sys2Proof.Machine.execOr frond thread dst a b flags s
  | .xor frond thread dst a b flags => Sys2Proof.Machine.execXor frond thread dst a b flags s
  | .add frond thread dst a b flags => Sys2Proof.Machine.execAdd frond thread dst a b flags s
  | .sub frond thread dst a b flags => Sys2Proof.Machine.execSub frond thread dst a b flags s
  | .shift frond thread kind dst a b flags => Sys2Proof.Machine.execShift frond thread kind dst a b flags s
  | .compareUnderMask frond thread wide a b mask flags => Sys2Proof.Machine.execCompareUnderMask frond thread wide a b mask flags s
  | .maskset frond thread dst a mask value flags => Sys2Proof.Machine.execMaskset frond thread dst a mask value flags s
  | .byteSwap frond thread dst a flags => Sys2Proof.Machine.execByteSwap frond thread dst a flags s
  | .move frond thread a b => Sys2Proof.Machine.execMove frond thread a b s
  | .memLoad frond thread addr dst len ue => Sys2Proof.Machine.execMemLoad frond thread addr dst len ue s
  | .memStore frond thread addr src len => Sys2Proof.Machine.execMemStore frond thread addr src len s
  | .eClear frond thread => Sys2Proof.Machine.execEClear frond thread s
  | .eOp frond thread word => Sys2Proof.Machine.execEOp frond thread word s
  | .eData frond thread src len dst => Sys2Proof.Machine.execEData frond thread src len dst s
  | .lock frond thread => Sys2Proof.Machine.execLock frond thread s
  | .enc frond thread slot once src dst => Sys2Proof.Machine.execEnc frond thread slot once src dst s
  | .dec frond thread slot once src dst => Sys2Proof.Machine.execDec frond thread slot once src dst s
  | .nonce frond thread slot once dst key => Sys2Proof.Machine.execNonce frond thread slot once dst key s
  | .free frond thread => Sys2Proof.Machine.execFree frond thread s
  | .init frond thread preset value pair => Sys2Proof.Machine.execInit frond thread preset value pair s
  | .feed frond thread src len => Sys2Proof.Machine.execFeed frond thread src len s
  | .read frond thread dst => Sys2Proof.Machine.execRead frond thread dst s
  | .readCmp frond thread dst ref => Sys2Proof.Machine.execReadCmp frond thread dst ref s
  | .save frond thread dst third => Sys2Proof.Machine.execSave frond thread dst third s
  | .restore frond thread src third => Sys2Proof.Machine.execRestore frond thread src third s
  | .peerh frond thread v6 zone proto port addr dst => Sys2Proof.Machine.execPeerh frond thread v6 zone proto port addr dst s
  | .localh frond thread v6 port addr dst => Sys2Proof.Machine.execLocalh frond thread v6 port addr dst s
  | .khash frond thread src len key dst => Sys2Proof.Machine.execKhash frond thread src len key dst s
  | .rand frond thread dst => Sys2Proof.Machine.execRand frond thread dst s
  | .tCreate frond thread imm spad dst => Sys2Proof.Machine.execTCreate frond thread imm spad dst s
  | .tSignal frond thread imm idReg => Sys2Proof.Machine.execTSignal frond thread imm idReg s
  | .tMask frond thread imm all => Sys2Proof.Machine.execTMask frond thread imm all s
  | .tTimer frond thread delayReg => Sys2Proof.Machine.execTTimer frond thread delayReg s
  | .tTimertask frond thread delayReg spad => Sys2Proof.Machine.execTTimertask frond thread delayReg spad s
  | .tSelf frond thread dst => Sys2Proof.Machine.execTSelf frond thread dst s
  | .promote frond index => Sys2Proof.Machine.execPromote frond index s
  | .refill frond prio bad => Sys2Proof.Machine.execRefill frond prio bad s
  | .timerFire frond index => Sys2Proof.Machine.execTimerFire frond index s
  | .patchSlotWrite slot value => Sys2Proof.Machine.execPatchSlotWrite slot value s
  | .pramDataAccess path value => Sys2Proof.Machine.execPramDataAccess path value s
  | .csDataRead path => Sys2Proof.Machine.execCsDataRead path s
  | .pcntClr frond => Sys2Proof.Machine.execPcntClr frond s
  | .traceEntryWrite frond => Sys2Proof.Machine.execTraceEntryWrite frond s
  | .mirrorGo frond => Sys2Proof.Machine.execMirrorGo frond s
  | .mirrorAbort frond done => Sys2Proof.Machine.execMirrorAbort frond done s
  | .mirrorDone frond done ue => Sys2Proof.Machine.execMirrorDone frond done ue s
  | .sigFlags frond flags => Sys2Proof.Machine.execSigFlags frond flags s
  | .dmaGo frond dir => Sys2Proof.Machine.execDmaGo frond dir s
  | .dmaAbort frond done => Sys2Proof.Machine.execDmaAbort frond done s
  | .dmaDone frond done ue => Sys2Proof.Machine.execDmaDone frond done ue s
  | .marchGo target mode => Sys2Proof.Machine.execMarchGo target mode s
  | .marchAuto => Sys2Proof.Machine.execMarchAuto s
  | .marchAbort target done fails => Sys2Proof.Machine.execMarchAbort target done fails s
  | .marchDone target fails => Sys2Proof.Machine.execMarchDone target fails s
  | .exportMessage frond pick => Sys2Proof.Machine.execExportMessage frond pick s
  | .lockTake frond path => Sys2Proof.Machine.execLockTake frond path s
  | .lockFree frond path => Sys2Proof.Machine.execLockFree frond path s
  | .lockGrant frond => Sys2Proof.Machine.execLockGrant frond s
  | .lockWaitExpiry frond => Sys2Proof.Machine.execLockWaitExpiry frond s
  | .lockTimeout frond => Sys2Proof.Machine.execLockTimeout frond s
  | .keyLoad frond path size => Sys2Proof.Machine.execKeyLoad frond path size s
  | .keyErase frond path => Sys2Proof.Machine.execKeyErase frond path s
  | .keyPendingApply frond slot => Sys2Proof.Machine.execKeyPendingApply frond slot s
  | .nonceGo frond path key => Sys2Proof.Machine.execNonceGo frond path key s
  | .runGo frond path => Sys2Proof.Machine.execRunGo frond path s
  | .runAbort frond => Sys2Proof.Machine.execRunAbort frond s
  | .cipherBlockDone frond pcieErr key => Sys2Proof.Machine.execCipherBlockDone frond pcieErr key s
  | .hostChkvInit unit path => Sys2Proof.Machine.execHostChkvInit unit path s
  | .feed32 unit path value => Sys2Proof.Machine.execFeed32 unit path value s
  | .feed8 unit path value => Sys2Proof.Machine.execFeed8 unit path value s
  | .contextRestore unit path part value => Sys2Proof.Machine.execContextRestore unit path part value s
  | .descriptorArrival desc => Sys2Proof.Machine.execDescriptorArrival desc s
  | .selection port => Sys2Proof.Machine.execSelection port s
  | .copyTransmitStart port failed => Sys2Proof.Machine.execCopyTransmitStart port failed s
  | .copyTransmitEnd port fail => Sys2Proof.Machine.execCopyTransmitEnd port fail s
  | .holdExpiry port pri => Sys2Proof.Machine.execHoldExpiry port pri s
  | .auditStart => Sys2Proof.Machine.execAuditStart s
  | .auditPeriod => Sys2Proof.Machine.execAuditPeriod s
  | .auditAbort => Sys2Proof.Machine.execAuditAbort s
  | .auditDone bad => Sys2Proof.Machine.execAuditDone bad s
  | .shaperRefill node ue => Sys2Proof.Machine.execShaperRefill node ue s
  | .gateEntry port => Sys2Proof.Machine.execGateEntry port s
  | .gateChange port => Sys2Proof.Machine.execGateChange port s
  | .gateCancel port => Sys2Proof.Machine.execGateCancel port s
  | .gateListSwap port => Sys2Proof.Machine.execGateListSwap port s
  | .gclAccess path port value => Sys2Proof.Machine.execGclAccess path port value s
  | .queueSample ue => Sys2Proof.Machine.execQueueSample ue s
  | .refresh channel bank demand => Sys2Proof.Machine.execRefresh channel bank demand s
  | .makeUpRefresh channel bank => Sys2Proof.Machine.execMakeUpRefresh channel bank s
  | .mr4Poll channel rate => Sys2Proof.Machine.execMr4Poll channel rate s
  | .refForced channel => Sys2Proof.Machine.execRefForced channel s
  | .driftUpdate channel wr rd => Sys2Proof.Machine.execDriftUpdate channel wr rd s
  | .scrubStart channel => Sys2Proof.Machine.execScrubStart channel s
  | .scrubPass channel found => Sys2Proof.Machine.execScrubPass channel found s
  | .scrubAbort channel => Sys2Proof.Machine.execScrubAbort channel s
  | .commandBusTraining channel => Sys2Proof.Machine.execCommandBusTraining channel s
  | .wck2ckLevelling channel => Sys2Proof.Machine.execWck2ckLevelling channel s
  | .readTraining channel => Sys2Proof.Machine.execReadTraining channel s
  | .writeTraining channel => Sys2Proof.Machine.execWriteTraining channel s
  | .check channel => Sys2Proof.Machine.execCheck channel s
  | .stepAbort channel => Sys2Proof.Machine.execStepAbort channel s
  | .trainingStepDone result progress => Sys2Proof.Machine.execTrainingStepDone result progress s
  | .cmpWrite channel => Sys2Proof.Machine.execCmpWrite channel s
  | .cmpReadCmp channel errors => Sys2Proof.Machine.execCmpReadCmp channel errors s
  | .cmpClear channel => Sys2Proof.Machine.execCmpClear channel s
  | .retireGo channel => Sys2Proof.Machine.execRetireGo channel s
  | .retireSlotCopy ue => Sys2Proof.Machine.execRetireSlotCopy ue s
  | .retireSwitch => Sys2Proof.Machine.execRetireSwitch s
  | .autoRetire channel => Sys2Proof.Machine.execAutoRetire channel s
  | .packetChannelRetired => Sys2Proof.Machine.execPacketChannelRetired s
  | .heartbeatSend => Sys2Proof.Machine.execHeartbeatSend s
  | .heartbeatReceive frame => Sys2Proof.Machine.execHeartbeatReceive frame s
  | .peerSilent => Sys2Proof.Machine.execPeerSilent s
  | .keyTransfer blocks => Sys2Proof.Machine.execKeyTransfer blocks s
  | .replicationMessage message => Sys2Proof.Machine.execReplicationMessage message s
  | .ageQuery msg => Sys2Proof.Machine.execAgeQuery msg s
  | .ageQueryTimeout slot => Sys2Proof.Machine.execAgeQueryTimeout slot s
  | .resyncEntry digest stamp aged due => Sys2Proof.Machine.execResyncEntry digest stamp aged due s
  | .resyncStart => Sys2Proof.Machine.execResyncStart s
  | .resyncAbort => Sys2Proof.Machine.execResyncAbort s
  | .resyncDone => Sys2Proof.Machine.execResyncDone s
  | .linkKeyLoad path => Sys2Proof.Machine.execLinkKeyLoad path s
  | .linkKeyErase path => Sys2Proof.Machine.execLinkKeyErase path s
  | .snap => Sys2Proof.Machine.execSnap s
  | .freeze => Sys2Proof.Machine.execFreeze s
  | .thaw => Sys2Proof.Machine.execThaw s
  | .snapshotInstant => Sys2Proof.Machine.execSnapshotInstant s
  | .sampleRecordWrite => Sys2Proof.Machine.execSampleRecordWrite s
  | .statClearPort port => Sys2Proof.Machine.execStatClearPort port s
  | .statClearAll => Sys2Proof.Machine.execStatClearAll s
  | .latchingRead path page off channel => Sys2Proof.Machine.execLatchingRead path page off channel s
  | .eventRecordWrite queue => Sys2Proof.Machine.execEventRecordWrite queue s
  | .eventQueueHoldoff queue => Sys2Proof.Machine.execEventQueueHoldoff queue s
  | .bar2Read off ue => Sys2Proof.Machine.execBar2Read off ue s
  | .bar2Write off bytes => Sys2Proof.Machine.execBar2Write off bytes s
  | .slotWindowRead off ue => Sys2Proof.Machine.execSlotWindowRead off ue s
  | .rawWindowRead off => Sys2Proof.Machine.execRawWindowRead off s
  | .tdmaGo dir => Sys2Proof.Machine.execTdmaGo dir s
  | .tdmaAbort moved => Sys2Proof.Machine.execTdmaAbort moved s
  | .tdmaDone pcieErr moved => Sys2Proof.Machine.execTdmaDone pcieErr moved s
  | .ringAvailWrite path ring avail => Sys2Proof.Machine.execRingAvailWrite path ring avail s
  | .ringEnable path ring en => Sys2Proof.Machine.execRingEnable path ring en s
  | .ringRestart ring => Sys2Proof.Machine.execRingRestart ring s
  | .puntDelivery failed pcieErr => Sys2Proof.Machine.execPuntDelivery failed pcieErr s
  | .inject pcieErr pick => Sys2Proof.Machine.execInject pcieErr pick s
  | .ringIrqHoldoff ring => Sys2Proof.Machine.execRingIrqHoldoff ring s
  | .pcieLink gen width up master => Sys2Proof.Machine.execPcieLink gen width up master s
  | .flr => Sys2Proof.Machine.execFlr s
  | .mgmtReceive bytes dev => Sys2Proof.Machine.execMgmtReceive bytes dev s
  | .mgmtTransmit => Sys2Proof.Machine.execMgmtTransmit s
  | .qspiRead => Sys2Proof.Machine.execQspiRead s
  | .qspiProgram => Sys2Proof.Machine.execQspiProgram s
  | .qspiErase => Sys2Proof.Machine.execQspiErase s
  | .readId => Sys2Proof.Machine.execReadId s
  | .qspiDone id => Sys2Proof.Machine.execQspiDone id s
  | .setAddr addr pec => Sys2Proof.Machine.execSetAddr addr pec s
  | .smbusRead => Sys2Proof.Machine.execSmbusRead s
  | .smbusWrite value pec done found => Sys2Proof.Machine.execSmbusWrite value pec done found s
  | .mboxWrite bs pec => Sys2Proof.Machine.execMboxWrite bs pec s
  | .mboxRing pec => Sys2Proof.Machine.execMboxRing pec s
  | .mboxRead length => Sys2Proof.Machine.execMboxRead length s
  | .status => Sys2Proof.Machine.execStatus s
  | .version => Sys2Proof.Machine.execVersion s
  | .sensors temps => Sys2Proof.Machine.execSensors temps s
  | .pfailRead => Sys2Proof.Machine.execPfailRead s
  | .trainReport => Sys2Proof.Machine.execTrainReport s
  | .keyGo path => Sys2Proof.Machine.execKeyGo path s
  | .fuseProgDone fails => Sys2Proof.Machine.execFuseProgDone fails s
  | .sealArm path value => Sys2Proof.Machine.execSealArm path value s
  | .sealGo path => Sys2Proof.Machine.execSealGo path s
  | .extest pins tdi => Sys2Proof.Machine.execExtest pins tdi s
  | .idcode => Sys2Proof.Machine.execIdcode s
  | .samplePreload pins tdi => Sys2Proof.Machine.execSamplePreload pins tdi s
  | .clamp => Sys2Proof.Machine.execClamp s
  | .highz => Sys2Proof.Machine.execHighz s
  | .debugAccess code => Sys2Proof.Machine.execDebugAccess code s
  | .bypass code => Sys2Proof.Machine.execBypass code s
  | .trstN => Sys2Proof.Machine.execTrstN s
  | .anDone port => Sys2Proof.Machine.execAnDone port s
  | .sigDet port => Sys2Proof.Machine.execSigDet port s
  | .cdrLockLost lane => Sys2Proof.Machine.execCdrLockLost lane s
  | .ppsInAbsent => Sys2Proof.Machine.execPpsInAbsent s
  | .mgmtLink up an sig remote => Sys2Proof.Machine.execMgmtLink up an sig remote s

end Sys2Proof.Machine
end

