-- ==== Sys2Proof/Machine/Tick.lean ====
section
/-! DEFINITION. What happens when no command waits: a tick of the time island, unpaced at 625 MHz (R106, R107, R173). -/

namespace Sys2Proof.Machine

/-- One tick: the device clock and the uptime advance, replicated messages that are due leave (R415), and the oldest block that is gathered
whole is written to packet memory (R329). A die that does not run has no clock. (DESIGN CHOICE, log entries 2, 119) -/
def Dev.tick (d : Dev) : Dev :=
  if d.runs then (Dev.replFlush { d with clk := d.clk.tick d.incExact }).spillOut else d

end Sys2Proof.Machine
end

