-- ==== Sys2Proof/WellFormed.lean ====
section
/-! DEFINITION. Which commands are well formed: operands that number a part of the module number one that it has. A command
that is not is no command of the table; what its meaning does with such a number is of no consequence. -/

namespace Sys2Proof

/-- A frond: C0 to C7. -/
def okFrond (n : Nat) : Bool := decide (n < 8)
/-- A thread: engine × 16 + thread. -/
def okThread (n : Nat) : Bool := decide (n < 256)
/-- An access path: 0 PCIe, 1 housekeeping (R69). -/
def okPath (n : Nat) : Bool := decide (n < 2)
/-- A page of BAR0 (R69). -/
def okPage (n : Nat) : Bool := decide (n < 128)
/-- A memory channel: M0 to M63 (R385). -/
def okChannel (n : Nat) : Bool := decide (n < 64)
/-- A clock island (R90). -/
def okIsland (n : Nat) : Bool := decide (n < 34)
/-- A pipeline. -/
def okPipe (n : Nat) : Bool := decide (n < 4)
/-- A port: line ports 0 to 31, host path 32, tandem link 33. -/
def okPort (n : Nat) : Bool := decide (n < 34)
/-- A priority or traffic class. -/
def okClass (n : Nat) : Bool := decide (n < 8)
/-- A priority of tasks (R266). -/
def okPrio (n : Nat) : Bool := decide (n < 4)
/-- An event queue (R439). -/
def okQueue (n : Nat) : Bool := decide (n < 16)
/-- A host ring (R452). -/
def okRing (n : Nat) : Bool := decide (n < 64)
/-- A check-value unit (R328). -/
def okUnit (n : Nat) : Bool := decide (n < 9)
/-- A target of march tests (R274). -/
def okTarget (n : Nat) : Bool := decide (n < 9)
/-- A bank of a channel (R389). -/
def okBank (n : Nat) : Bool := decide (n < 16)
/-- A lane (R131). -/
def okLane (n : Nat) : Bool := decide (n < 36)
/-- A pace level (R93). -/
def okLevel (n : Nat) : Bool := decide (n < 4)
/-- A preset of a check-value unit (R321). -/
def okPreset (n : Nat) : Bool := decide (n < 4)
/-- A mask of pipelines. -/
def okPipes (n : Nat) : Bool := decide (n < 16)
/-- The five straps (R35). -/
def okStraps (n : Nat) : Bool := decide (n < 32)
/-- The length of an SMBus block (R459). -/
def okBlock (n : Nat) : Bool := decide (n < 256)
/-- Byte enables of a word (R69). -/
def okEnables (n : Nat) : Bool := decide (n < 16)
/-- A mode of march tests (R274). -/
def okMode (n : Nat) : Bool := decide (n < 4)
/-- A part of a restored context (R327). -/
def okPart (n : Nat) : Bool := decide (n < 3)
/-- A temperature in eighths of a degree, in 16 bits (R35). -/
def okTemp (n : Int) : Bool := decide (-32768 ≤ n ∧ n < 32768)

/-- Whether every operand that numbers a part of the module is in its range. -/
def Instr.wf : Instr → Bool
  | .supplyQualification _ => true
  | .powerOnReset straps _ => okStraps straps
  | .resetN _ _ => true
  | .perstN => true
  | .powerFailWarning _ => true
  | .pfailNExternal _ _ => true
  | .recordDone => true
  | .supplyWarnEnd _ => true
  | .brownOut => true
  | .overvoltage => true
  | .overvoltageShutdown => true
  | .ovRecovery => true
  | .vinSample _ => true
  | .thermAlarm temp island => okTemp temp && okIsland island
  | .thermCapRelease temp island => okTemp temp && okIsland island
  | .thermalShutdown => true
  | .romBoot _ _ => true
  | .imageLoad => true
  | .microcodeSignature => true
  | .controlStoreLoad _ => true
  | .marchTests _ _ => true
  | .memoryTraining _ _ => true
  | .memoryClear => true
  | .rngHealthTests _ => true
  | .portEnable => true
  | .hostLoad => true
  | .trainDone => true
  | .sleepReq => true
  | .sleepN => true
  | .sporeDrainEnd => true
  | .sporeLanesOff => true
  | .sporePacketMemoryRelease => true
  | .sporeSelfRefresh => true
  | .wakeN => true
  | .wakeReq => true
  | .wakeTimer => true
  | .wakeDone => true
  | .admission => true
  | .registerWrite path _ be _ _ _ => okPath path && okEnables be
  | .selWrite path page _ => okPath path && okPage page
  | .readClear path _ => okPath path
  | .errInfoRead path page => okPath path && okPage page
  | .w1cWrite path page _ => okPath path && okPage page
  | .intForce path page _ => okPath path && okPage page
  | .softReset page _ _ => okPage page
  | .commitGo path page => okPath path && okPage page
  | .commitDiscard path page => okPath path && okPage page
  | .commitInstant => true
  | .commitDone => true
  | .pauseGo mask => okPipes mask
  | .pauseReached => true
  | .pauseResume => true
  | .pauseExpired => true
  | .governorWindow island _ => okIsland island
  | .paceChangeDone island => okIsland island
  | .pin level => okLevel level
  | .unpin => true
  | .nowNsRead path => okPath path
  | .stepAdd path => okPath path
  | .stepSet path => okPath path
  | .tetherBeacon _ => true
  | .ref10mLost => true
  | .ref10mReturn => true
  | .ppsInEdge => true
  | .offsetIn _ => true
  | .servoEnable _ => true
  | .servoHoldover => true
  | .ppsOut => true
  | .txtsTagRead path port => okPath path && okPort port
  | .portCfgWrite path port _ => okPath path && okPort port
  | .anRestart port => okPort port
  | .frameStart port _ _ => okPort port
  | .frameAdmit port _ _ _ => okPort port
  | .macControlFrame port _ _ => okPort port
  | .receivedPauseExpiry port pri => okPort port && okClass pri
  | .xoffRefresh port pri => okPort port && okClass pri
  | .pfcStorm port pri => okPort port && okClass pri
  | .pfcStormEnd port pri => okPort port && okClass pri
  | .linkDown port _ _ => okPort port
  | .upPending port => okPort port
  | .linkUp port => okPort port
  | .flapReuse port => okPort port
  | .anFail port => okPort port
  | .ltFail port => okPort port
  | .anBackoffExpiry port => okPort port
  | .headParse pipe _ _ => okPipe pipe
  | .waitTimeout pipe => okPipe pipe
  | .fragmentReentry pipe _ _ => okPipe pipe
  | .fragmentEntryExpiry pipe _ => okPipe pipe
  | .flowRequest _ _ _ => true
  | .editListApply _ _ => true
  | .graphGo path _ => okPath path
  | .graphArm _ => true
  | .graphAutoStart => true
  | .graphAbort _ => true
  | .graphDone _ => true
  | .learnApply pipe => okPipe pipe
  | .learnCacheExpiry pipe => okPipe pipe
  | .moveStormWindow pipe => okPipe pipe
  | .hostTableSweep pipe _ => okPipe pipe
  | .hostFind mask => okPipes mask
  | .hostInsert mask => okPipes mask
  | .hostDelete mask => okPipes mask
  | .hostTableReadLock _ => true
  | .prefixFind mask => okPipes mask
  | .prefixInsert mask => okPipes mask
  | .prefixDelete mask => okPipes mask
  | .prefixUnitMove => true
  | .ruleWrite mask => okPipes mask
  | .ruleInvalidate mask => okPipes mask
  | .ruleRead => true
  | .bankLoadGo path _ => okPath path
  | .bankLoadArm _ => true
  | .bankLoadAutoStart => true
  | .bankLoadAbort _ => true
  | .loadDone _ => true
  | .ctlSend frond thread _ => okFrond frond && okThread thread
  | .insSend frond thread _ _ => okFrond frond && okThread thread
  | .delSend frond thread _ _ => okFrond frond && okThread thread
  | .harvSend frond thread _ => okFrond frond && okThread thread
  | .cntAdd frond thread _ _ => okFrond frond && okThread thread
  | .emit frond thread _ _ _ _ => okFrond frond && okThread thread
  | .mergerWriteBack _ => true
  | .sweepStart => true
  | .sweepAbort => true
  | .sweepPairVisit => true
  | .rebuildGo => true
  | .rebuildPairCopy => true
  | .rebuildSwitch => true
  | .rebuildAbort => true
  | .rekey => true
  | .flowDelete _ => true
  | .pinRecord _ => true
  | .unpinRecord _ => true
  | .anchorLoadGo path _ => okPath path
  | .anchorLoadArm _ => true
  | .anchorLoadAutoStart => true
  | .anchorLoadAbort _ => true
  | .anchorLoadDone _ => true
  | .taskDispatch frond => okFrond frond
  | .next frond thread _ => okFrond frond && okThread thread
  | .goto frond thread _ => okFrond frond && okThread thread
  | .ifZ frond thread _ => okFrond frond && okThread thread
  | .ifNz frond thread _ => okFrond frond && okThread thread
  | .ifC frond thread _ => okFrond frond && okThread thread
  | .ifNc frond thread _ => okFrond frond && okThread thread
  | .ifN frond thread _ => okFrond frond && okThread thread
  | .ifZn frond thread _ => okFrond frond && okThread thread
  | .ifHit frond thread _ => okFrond frond && okThread thread
  | .ifUpdFail frond thread _ => okFrond frond && okThread thread
  | .ifUnitErr frond thread _ => okFrond frond && okThread thread
  | .call frond thread _ => okFrond frond && okThread thread
  | .ret frond thread _ => okFrond frond && okThread thread
  | .dispatch frond thread _ => okFrond frond && okThread thread
  | .wait frond thread _ => okFrond frond && okThread thread
  | .endTask frond thread _ _ => okFrond frond && okThread thread
  | .and frond thread _ _ _ _ => okFrond frond && okThread thread
  | .or frond thread _ _ _ _ => okFrond frond && okThread thread
  | .xor frond thread _ _ _ _ => okFrond frond && okThread thread
  | .add frond thread _ _ _ _ => okFrond frond && okThread thread
  | .sub frond thread _ _ _ _ => okFrond frond && okThread thread
  | .shift frond thread _ _ _ _ _ => okFrond frond && okThread thread
  | .compareUnderMask frond thread _ _ _ _ _ => okFrond frond && okThread thread
  | .maskset frond thread _ _ _ _ _ => okFrond frond && okThread thread
  | .byteSwap frond thread _ _ _ => okFrond frond && okThread thread
  | .move frond thread _ _ => okFrond frond && okThread thread
  | .memLoad frond thread _ _ _ _ => okFrond frond && okThread thread
  | .memStore frond thread _ _ _ => okFrond frond && okThread thread
  | .eClear frond thread => okFrond frond && okThread thread
  | .eOp frond thread _ => okFrond frond && okThread thread
  | .eData frond thread _ _ _ => okFrond frond && okThread thread
  | .lock frond thread => okFrond frond && okThread thread
  | .enc frond thread _ _ _ _ => okFrond frond && okThread thread
  | .dec frond thread _ _ _ _ => okFrond frond && okThread thread
  | .nonce frond thread _ _ _ _ => okFrond frond && okThread thread
  | .free frond thread => okFrond frond && okThread thread
  | .init frond thread preset _ _ => okFrond frond && okThread thread && okPreset preset
  | .feed frond thread _ _ => okFrond frond && okThread thread
  | .read frond thread _ => okFrond frond && okThread thread
  | .readCmp frond thread _ _ => okFrond frond && okThread thread
  | .save frond thread _ _ => okFrond frond && okThread thread
  | .restore frond thread _ _ => okFrond frond && okThread thread
  | .peerh frond thread _ _ _ _ _ _ => okFrond frond && okThread thread
  | .localh frond thread _ _ _ _ => okFrond frond && okThread thread
  | .khash frond thread _ _ _ _ => okFrond frond && okThread thread
  | .rand frond thread _ => okFrond frond && okThread thread
  | .tCreate frond thread _ _ _ => okFrond frond && okThread thread
  | .tSignal frond thread _ _ => okFrond frond && okThread thread
  | .tMask frond thread _ _ => okFrond frond && okThread thread
  | .tTimer frond thread _ => okFrond frond && okThread thread
  | .tTimertask frond thread _ _ => okFrond frond && okThread thread
  | .tSelf frond thread _ => okFrond frond && okThread thread
  | .promote frond _ => okFrond frond
  | .refill frond prio _ => okFrond frond && okPrio prio
  | .timerFire frond _ => okFrond frond
  | .patchSlotWrite _ _ => true
  | .pramDataAccess path _ => okPath path
  | .csDataRead path => okPath path
  | .pcntClr frond => okFrond frond
  | .traceEntryWrite frond => okFrond frond
  | .mirrorGo frond => okFrond frond
  | .mirrorAbort frond _ => okFrond frond
  | .mirrorDone frond _ _ => okFrond frond
  | .sigFlags frond _ => okFrond frond
  | .dmaGo frond _ => okFrond frond
  | .dmaAbort frond _ => okFrond frond
  | .dmaDone frond _ _ => okFrond frond
  | .marchGo target mode => okTarget target && okMode mode
  | .marchAuto => true
  | .marchAbort target _ _ => okTarget target
  | .marchDone target _ => okTarget target
  | .exportMessage frond _ => okFrond frond
  | .lockTake frond path => okFrond frond && okPath path
  | .lockFree frond path => okFrond frond && okPath path
  | .lockGrant frond => okFrond frond
  | .lockWaitExpiry frond => okFrond frond
  | .lockTimeout frond => okFrond frond
  | .keyLoad frond path _ => okFrond frond && okPath path
  | .keyErase frond path => okFrond frond && okPath path
  | .keyPendingApply frond _ => okFrond frond
  | .nonceGo frond path _ => okFrond frond && okPath path
  | .runGo frond path => okFrond frond && okPath path
  | .runAbort frond => okFrond frond
  | .cipherBlockDone frond _ _ => okFrond frond
  | .hostChkvInit unit path => okUnit unit && okPath path
  | .feed32 unit path _ => okUnit unit && okPath path
  | .feed8 unit path _ => okUnit unit && okPath path
  | .contextRestore unit path part _ => okUnit unit && okPath path && okPart part
  | .descriptorArrival _ => true
  | .selection port => okPort port
  | .copyTransmitStart port _ => okPort port
  | .copyTransmitEnd port _ => okPort port
  | .holdExpiry port _ => okPort port
  | .auditStart => true
  | .auditPeriod => true
  | .auditAbort => true
  | .auditDone _ => true
  | .shaperRefill _ _ => true
  | .gateEntry port => okPort port
  | .gateChange port => okPort port
  | .gateCancel port => okPort port
  | .gateListSwap port => okPort port
  | .gclAccess path port _ => okPath path && okPort port
  | .queueSample _ => true
  | .refresh channel bank _ => okChannel channel && okBank bank
  | .makeUpRefresh channel bank => okChannel channel && okBank bank
  | .mr4Poll channel _ => okChannel channel
  | .refForced channel => okChannel channel
  | .driftUpdate channel _ _ => okChannel channel
  | .scrubStart channel => okChannel channel
  | .scrubPass channel _ => okChannel channel
  | .scrubAbort channel => okChannel channel
  | .commandBusTraining channel => okChannel channel
  | .wck2ckLevelling channel => okChannel channel
  | .readTraining channel => okChannel channel
  | .writeTraining channel => okChannel channel
  | .check channel => okChannel channel
  | .stepAbort channel => okChannel channel
  | .trainingStepDone _ _ => true
  | .cmpWrite channel => okChannel channel
  | .cmpReadCmp channel _ => okChannel channel
  | .cmpClear channel => okChannel channel
  | .retireGo channel => okChannel channel
  | .retireSlotCopy _ => true
  | .retireSwitch => true
  | .autoRetire channel => okChannel channel
  | .packetChannelRetired => true
  | .heartbeatSend => true
  | .heartbeatReceive _ => true
  | .peerSilent => true
  | .keyTransfer _ => true
  | .replicationMessage _ => true
  | .ageQuery _ => true
  | .ageQueryTimeout _ => true
  | .resyncEntry _ _ _ _ => true
  | .resyncStart => true
  | .resyncAbort => true
  | .resyncDone => true
  | .linkKeyLoad path => okPath path
  | .linkKeyErase path => okPath path
  | .snap => true
  | .freeze => true
  | .thaw => true
  | .snapshotInstant => true
  | .sampleRecordWrite => true
  | .statClearPort port => okPort port
  | .statClearAll => true
  | .latchingRead path page _ channel => okPath path && okPage page && okChannel channel
  | .eventRecordWrite queue => okQueue queue
  | .eventQueueHoldoff queue => okQueue queue
  | .bar2Read _ _ => true
  | .bar2Write _ _ => true
  | .slotWindowRead _ _ => true
  | .rawWindowRead _ => true
  | .tdmaGo _ => true
  | .tdmaAbort _ => true
  | .tdmaDone _ _ => true
  | .ringAvailWrite path ring _ => okPath path && okRing ring
  | .ringEnable path ring _ => okPath path && okRing ring
  | .ringRestart ring => okRing ring
  | .puntDelivery _ _ => true
  | .inject _ _ => true
  | .ringIrqHoldoff ring => okRing ring
  | .pcieLink _ _ _ _ => true
  | .flr => true
  | .mgmtReceive _ _ => true
  | .mgmtTransmit => true
  | .qspiRead => true
  | .qspiProgram => true
  | .qspiErase => true
  | .readId => true
  | .qspiDone _ => true
  | .setAddr _ _ => true
  | .smbusRead => true
  | .smbusWrite _ _ _ _ => true
  | .mboxWrite bs _ => okBlock bs.length
  | .mboxRing _ => true
  | .mboxRead length => okBlock length
  | .status => true
  | .version => true
  | .sensors _ => true
  | .pfailRead => true
  | .trainReport => true
  | .keyGo path => okPath path
  | .fuseProgDone _ => true
  | .sealArm path _ => okPath path
  | .sealGo path => okPath path
  | .extest _ _ => true
  | .idcode => true
  | .samplePreload _ _ => true
  | .clamp => true
  | .highz => true
  | .debugAccess _ => true
  | .bypass _ => true
  | .trstN => true
  | .anDone port => okPort port
  | .sigDet port => okPort port
  | .cdrLockLost lane => okLane lane
  | .ppsInAbsent => true
  | .mgmtLink _ _ _ _ => true

end Sys2Proof
end

