-- ==== Sys2Proof/Safety.lean ====
section
/-! DEFINITION. The terms in which claims about the module are stated: what a command gives, when the die and its pages answer,
what stays as it was, and what every run keeps. -/

namespace Sys2Proof.Machine

/-! ### What a command gives -/

/-- The command completes: it gives a next state, takes nothing from the queue, and leaves a device of which `p` holds. -/
def Gives (c : Instr) (s : State) (p : Dev → Prop) : Prop :=
  ∃ t : State, exec c s = .next t ∧ t.pending = s.pending ∧ p t.dev

/-- The command leaves the whole state as it is. -/
def Idle (c : Instr) (s : State) : Prop := exec c s = .next s

/-! ### When the die answers -/

/-- The die runs: it is supplied and out of power-on reset. -/
abbrev State.On (s : State) : Prop := s.dev.sup.phase = .on

/-- The die runs, and no island is off for SPORE. -/
abbrev State.Awake (s : State) : Prop := s.dev.sup.phase = .on ∧ s.dev.spore.phase = 0

/-- The die runs and a page of BAR0 answers. -/
abbrev State.Opens (s : State) (p : Nat) : Prop := s.dev.sup.phase = .on ∧ s.dev.pageOpen p = true

/-- The module is ready and not in SPORE: every page answers and every island is at work. -/
abbrev State.Ready (s : State) : Prop :=
  s.dev.sup.phase = .on ∧ s.dev.spore.phase = 0 ∧ s.dev.fld PWRM.SLEEP_STAT_STATE = 0 ∧
    s.dev.fld TOP.BOOT_STATUS_STAGE = 11 ∧ s.dev.fld TOP.BOOT_STATUS_READY = 1

/-! ### What stays as it was -/

/-- The parts a device is made of. -/
inductive Part where
  | clk | otp | draws | frees | regs | shadow | dirty | prev | cgen | commit
  | pause | evq | out | hostMem | flash | sup | spore | boot | time | isles
  | resetting | sw | obs | look | flow | eng | units | tandem | mem | host
  deriving DecidableEq, Repr

/-- A part of the device is as it was. -/
def Dev.same (d e : Dev) : Part → Prop
  | .clk => e.clk = d.clk
  | .otp => e.otp = d.otp
  | .draws => e.draws = d.draws
  | .frees => e.frees = d.frees
  | .regs => e.regs = d.regs
  | .shadow => e.shadow = d.shadow
  | .dirty => e.dirty = d.dirty
  | .prev => e.prev = d.prev
  | .cgen => e.cgen = d.cgen
  | .commit => e.commit = d.commit
  | .pause => e.pause = d.pause
  | .evq => e.evq = d.evq
  | .out => e.out = d.out
  | .hostMem => e.hostMem = d.hostMem
  | .flash => e.flash = d.flash
  | .sup => e.sup = d.sup
  | .spore => e.spore = d.spore
  | .boot => e.boot = d.boot
  | .time => e.time = d.time
  | .isles => e.isles = d.isles
  | .resetting => e.resetting = d.resetting
  | .sw => e.sw = d.sw
  | .obs => e.obs = d.obs
  | .look => e.look = d.look
  | .flow => e.flow = d.flow
  | .eng => e.eng = d.eng
  | .units => e.units = d.units
  | .tandem => e.tandem = d.tandem
  | .mem => e.mem = d.mem
  | .host => e.host = d.host

/-- Every part of the device but those listed is as it was. -/
def Dev.keeps (d e : Dev) (changed : List Part) : Prop := ∀ p : Part, p ∉ changed → d.same e p

/-- Every register but those with the given keys holds what it held. -/
def Dev.keepsBut (d e : Dev) (keys : List Nat) : Prop :=
  ∀ (k : Nat) (w : Word), k ∉ keys → e.regs.get w k = d.regs.get w k

/-- Nothing but registers has changed. -/
def Dev.onlyRegs (d e : Dev) : Prop := e = { d with regs := e.regs }

/-- Nothing but registers, event records, and what the module gives out has changed. -/
def Dev.onlyReports (d e : Dev) : Prop := e = { d with regs := e.regs, evq := e.evq, out := e.out, obs := e.obs }

/-- The registers in which interrupts and events show: INT_RAW of every page, the counters of the event log and of the performance
counters, and the pending bits of MSI-X. -/
def reportKey (k : Nat) : Bool :=
  keyOff k = 0x010 || keyPage k = 0x60 || keyPage k = 0x62 || (keyPage k = 0x68 && decide (0xC00 ≤ keyOff k))

/-- Only what interrupts and events move has changed. -/
def Dev.reportsOnly (d e : Dev) : Prop :=
  d.onlyReports e ∧ ∀ (k : Nat) (w : Word), reportKey k = false → e.regs.get w k = d.regs.get w k

/-- Every register outside the given pages, but those in which interrupts and events show, holds what it held. -/
def Dev.keepsPages (d e : Dev) (ps : List Nat) : Prop :=
  ∀ (k : Nat) (w : Word), reportKey k = false → keyPage k ∉ ps → e.regs.get w k = d.regs.get w k

/-- Of the device's parts only those listed have changed, and registers, events, counters and outputs; of its registers only those of
the pages listed, and those in which interrupts and events show. -/
def Dev.moves (d e : Dev) (parts : List Part) (ps : List Nat) : Prop :=
  d.keeps e (.regs :: .evq :: .out :: .obs :: parts) ∧ d.keepsPages e ps

/-- Beside interrupt messages the module has given out `x`, and nothing else. -/
def Dev.emits (d e : Dev) (x : Output) : Prop :=
  ∃ l m : List Output, e.out = l ++ x :: (m ++ d.out) ∧ ∀ y ∈ l ++ m, ∃ (a : Nat) (w : Word), y = .msix a w

/-- A port that begins to wait, to negotiate or to train again moves its lanes and its state; where its PCS was aligned it ends the frame
in reception too, and the islands' pace is decided again (R141, R142). -/
def Dev.pcsMoves (d e : Dev) (port : Nat) : Prop :=
  (d.aligned port = false → d.moves e [.sw] [0x10, 0x11]) ∧
    d.moves e [.sw, .isles] [0x04, 0x10, 0x11, 0x40, 0x41, 0x50, 0x58, 0x70]

/-! ### Registers that only hold their value -/

/-- A write reaches a register that only holds its value: no page acts on it, and the device's state reserves no encoding of it. -/
def Dev.holdsOnly (d : Dev) (x : Put) : Prop :=
  d.modulePut x = none ∧ d.roadPut x = none ∧ d.servicePut x = none ∧ d.corePut x = none ∧ d.hostPut x = none ∧
    d.heldFields x.page x.off x.ch x.w.toNat = []

/-- A read of a word that a path finds in a register only: it is no word that counts outside the model, is computed or acts. -/
def Dev.readsPlain (d : Dev) (path p off : Nat) : Prop :=
  openRead p off = false ∧ d.header p off = none ∧ d.readEffect path p off (d.selOf path p) = none ∧
    d.viewed p off (d.selOf path p) = none

/-! ### Threads -/

/-- A running thread that the engine's round has come to, with its task: on its nanoword no group of R247 after the stage `upto` has
acted, nor the group `g`, and no transfer waits for the ALUs. -/
def Dev.acts (d : Dev) (k g upto i : Nat) (t : Task) : Prop :=
  d.mayIssue k = true ∧ d.running k = some (i, t) ∧ d.wordStage k ≤ upto ∧ d.groupFree k g = true ∧ (d.thread k).late = none

/-- A thread is to issue a microword of condition `cond` with IMM `imm`: one of the control store or of patch RAM, read at `pc`, that
names a loaded nanoword and no target in patch RAM beyond it; the engine's round comes to the thread, no write of its MOVE waits, and
with the word, and `extra` cycles more, its task stays within its limit of cost (R234, R235, R244 to R247, R251). -/
def Dev.issues (d : Dev) (k i : Nat) (t : Task) (cond pc imm extra : Nat) : Prop :=
  d.mayIssue k = true ∧ d.running k = some (i, t) ∧ (d.thread k).late = none ∧
    ∃ w : Nat, d.fetch (thrFrond k) (d.thread k).pc = (pc, some w) ∧ wordCond w = cond ∧ wordImm w = imm ∧
    (inRam pc && branching cond && bitOf w 14) = false ∧ wordNano w < d.eng.nw ∧
    (d.thread k).cost + (d.eng.nano.get 0 (wordNano w) % 4 + 1) + bit (inRam pc) + extra ≤ d.maxCycles t

/-- No instant of device time is awaited: of no commit, no snapshot, no gate list, and no wake (R113). -/
abbrev Dev.noInstant (d : Dev) : Prop :=
  d.commit = none ∧ d.obs.snap = none ∧ (∀ n, n < 34 → (d.gate n).pending = none) ∧ d.on PWRM.SLEEP_CFG_TIMER_WAKE_EN = false

/-- No thread waits, no request waits for a reservation, and no update of the flow table waits for a task. -/
abbrev Dev.quiet (d : Dev) : Prop := (∀ x ∈ d.eng.threads, x.2.wait = none) ∧ d.flow.waiting = [] ∧ d.flow.held = []

/-! ### What every run keeps -/

/-- The device clock's fields are in their ranges (R10, R106). -/
abbrev Clock.ok (c : Clock) : Prop := c.ns < 1000000000 ∧ c.frac < 2 ^ 24

/-- No fuse of `o` reads 0 in `p` where it read 1 (R469). -/
def Otp.within (o p : Otp) : Prop :=
  o.hash &&& p.hash = o.hash ∧ (o.keyLock = true → p.keyLock = true) ∧ (o.sealed = true → p.sealed = true) ∧
    o.ident0 = p.ident0 ∧ o.ident1 = p.ident1 ∧ o.ident2 = p.ident2 ∧ o.ident3 = p.ident3

end Sys2Proof.Machine

namespace Sys2Proof

/-! ### Which commands ask for what -/

/-- The page of BAR0 through whose registers software gives a command; none for one that is no access to a block's registers. -/
def Instr.viaPage (c : Instr) : Option Nat :=
  match c with
  | .pauseGo _ | .pauseResume | .snap | .freeze | .thaw => some 0x00
  | .sleepReq | .wakeReq | .admission => some 0x01
  | .hostLoad | .trainDone => some 0x02
  | .keyGo _ | .sealArm _ _ | .sealGo _ => some 0x03
  | .pin _ | .unpin => some 0x04
  | .nowNsRead _ | .stepAdd _ | .stepSet _ | .offsetIn _ | .servoEnable _ => some 0x05
  | .portCfgWrite _ _ _ | .anRestart _ => some 0x11
  | .txtsTagRead _ _ => some 0x12
  | .graphGo _ _ | .graphArm _ | .graphAbort _ => some 0x20
  | .hostFind _ | .hostInsert _ | .hostDelete _ => some 0x28
  | .prefixFind _ | .prefixInsert _ | .prefixDelete _ => some 0x29
  | .ruleWrite _ | .ruleInvalidate _ | .ruleRead | .bankLoadGo _ _ | .bankLoadArm _ | .bankLoadAbort _ => some 0x2A
  | .anchorLoadGo _ _ | .anchorLoadArm _ | .anchorLoadAbort _ => some 0x2B
  | .sweepStart | .sweepAbort | .rebuildGo | .rebuildAbort | .rekey | .flowDelete _ | .pinRecord _ | .unpinRecord _ => some 0x30
  | .pcntClr _ => some 0x31
  | .mirrorGo _ | .mirrorAbort _ _ | .sigFlags _ _ => some 0x32
  | .dmaGo _ _ | .dmaAbort _ _ => some 0x33
  | .patchSlotWrite _ _ | .pramDataAccess _ _ | .csDataRead _ => some 0x34
  | .lockTake _ _ | .lockFree _ _ | .keyLoad _ _ _ | .keyErase _ _ | .nonceGo _ _ _ | .runGo _ _ | .runAbort _ => some 0x38
  | .hostChkvInit _ _ | .feed32 _ _ _ | .feed8 _ _ _ | .contextRestore _ _ _ _ => some 0x39
  | .auditStart | .auditAbort => some 0x40
  | .gateChange _ | .gateCancel _ | .gclAccess _ _ _ => some 0x4B
  | .scrubStart _ | .scrubAbort _ | .retireGo _ => some 0x50
  | .commandBusTraining _ | .wck2ckLevelling _ | .readTraining _ | .writeTraining _ | .check _ | .stepAbort _ | .cmpWrite _
  | .cmpReadCmp _ _ | .cmpClear _ => some 0x51
  | .resyncStart | .resyncAbort | .linkKeyLoad _ | .linkKeyErase _ => some 0x58
  | .statClearPort _ | .statClearAll => some 0x61
  | .ringAvailWrite _ _ _ | .ringEnable _ _ _ | .ringRestart _ | .tdmaGo _ | .tdmaAbort _ | .mboxRead _ => some 0x68
  | .qspiRead | .qspiProgram | .qspiErase | .readId => some 0x69
  | .marchGo _ _ | .marchAbort _ _ _ => some 0x70
  | .commitGo _ page | .commitDiscard _ page | .latchingRead _ page _ _ => some page
  | .softReset page _ _ => some (page % 128)
  | _ => none

/-- The rows of islands that SPORE switches off (R56, R60). -/
def Instr.sleeps (c : Instr) : Bool :=
  match c with
  | .governorWindow _ _ | .paceChangeDone _
  | .receivedPauseExpiry _ _ | .xoffRefresh _ _ | .pfcStorm _ _ | .pfcStormEnd _ _ | .upPending _ | .flapReuse _ | .anFail _
  | .ltFail _ | .anBackoffExpiry _ | .anDone _ | .sigDet _ | .cdrLockLost _ | .fragmentEntryExpiry _ _ | .waitTimeout _
  | .learnApply _ | .learnCacheExpiry _ | .moveStormWindow _ | .hostTableSweep _ _ | .prefixUnitMove | .headParse _ _ _
  | .fragmentReentry _ _ _ | .editListApply _ _ | .flowRequest _ _ _ | .mergerWriteBack _ | .sweepPairVisit | .rebuildPairCopy
  | .rebuildSwitch | .taskDispatch _ | .ctlSend _ _ _ | .insSend _ _ _ _ | .delSend _ _ _ _ | .harvSend _ _ _ | .cntAdd _ _ _ _
  | .emit _ _ _ _ _ _ | .next _ _ _ | .goto _ _ _ | .ifZ _ _ _ | .ifNz _ _ _ | .ifC _ _ _ | .ifNc _ _ _ | .ifN _ _ _
  | .ifZn _ _ _ | .ifHit _ _ _ | .ifUpdFail _ _ _ | .ifUnitErr _ _ _ | .call _ _ _ | .ret _ _ _ | .dispatch _ _ _ | .wait _ _ _
  | .endTask _ _ _ _ | .and _ _ _ _ _ _ | .or _ _ _ _ _ _ | .xor _ _ _ _ _ _ | .add _ _ _ _ _ _ | .sub _ _ _ _ _ _
  | .shift _ _ _ _ _ _ _ | .compareUnderMask _ _ _ _ _ _ _ | .maskset _ _ _ _ _ _ _ | .byteSwap _ _ _ _ _ | .move _ _ _ _
  | .memLoad _ _ _ _ _ _ | .memStore _ _ _ _ _ | .eClear _ _ | .eOp _ _ _ | .eData _ _ _ _ _ | .peerh _ _ _ _ _ _ _ _
  | .localh _ _ _ _ _ _ | .khash _ _ _ _ _ _ | .rand _ _ _ | .tCreate _ _ _ _ _ | .tSignal _ _ _ _ | .tMask _ _ _ _
  | .tTimer _ _ _ | .tTimertask _ _ _ _ | .tSelf _ _ _ | .dmaDone _ _ _ | .marchAuto | .marchDone _ _ | .exportMessage _ _
  | .traceEntryWrite _ | .mirrorDone _ _ _ | .refill _ _ _ | .promote _ _ | .timerFire _ _ | .lock _ _ | .enc _ _ _ _ _ _
  | .dec _ _ _ _ _ _ | .nonce _ _ _ _ _ _ | .free _ _ | .init _ _ _ _ _ | .feed _ _ _ _ | .read _ _ _ | .readCmp _ _ _ _
  | .save _ _ _ _ | .restore _ _ _ _ | .lockGrant _ | .lockWaitExpiry _ | .lockTimeout _ | .keyPendingApply _ _
  | .cipherBlockDone _ _ _ | .auditPeriod | .auditDone _ | .holdExpiry _ _ | .copyTransmitStart _ _ | .copyTransmitEnd _ _
  | .descriptorArrival _ | .selection _ | .shaperRefill _ _ | .gateEntry _ | .gateListSwap _ | .queueSample _ | .refresh _ _ _
  | .makeUpRefresh _ _ | .mr4Poll _ _ | .refForced _ | .driftUpdate _ _ _ | .scrubPass _ _ | .trainingStepDone _ _
  | .retireSlotCopy _ | .retireSwitch | .autoRetire _ | .packetChannelRetired | .linkUp _ | .heartbeatSend | .heartbeatReceive _
  | .peerSilent | .keyTransfer _ | .replicationMessage _ | .ageQuery _ | .ageQueryTimeout _ | .resyncEntry _ _ _ _ | .resyncDone => true
  | _ => false

/-- The rows of the receive side, which goes on until SPORE has the lanes off (R56). -/
def Instr.receives (c : Instr) : Bool :=
  match c with
  | .frameStart _ _ _ | .frameAdmit _ _ _ _ | .macControlFrame _ _ _ => true
  | _ => false

/-- The rows of the supply and of the test access port, which do not need a die that runs (R20 to R31, R473). -/
def Instr.needsNoDie (c : Instr) : Bool :=
  match c with
  | .extest _ _ | .idcode | .samplePreload _ _ | .clamp | .highz | .debugAccess _ | .bypass _ | .trstN | .supplyQualification _
  | .powerOnReset _ _ | .resetN _ _ | .powerFailWarning _ | .pfailNExternal _ _ | .supplyWarnEnd _ | .brownOut
  | .overvoltageShutdown | .ovRecovery | .vinSample _ | .thermalShutdown => true
  | _ => false

end Sys2Proof
end

