-- ==== Sys2Proof/Certificates/Slice0/Obligations.lean ====
section
/-! DEFINITION. The statements for the provers: what each family of commands does, what it leaves as it was, and what every step keeps.
A statement cites rules of the spec in its text; a clause that rests on a choice of the model names the log entry. -/

open Sys2Proof Sys2Proof.Machine

/-- A step takes the command at the front of the queue and carries it out with the rest of the queue. -/
def Obligations.CommandFromTheFront : Prop :=
  ∀ (c : Instr) (s : State) (rest : List Instr), s.pending = c :: rest → step s = exec c { s with pending := rest }

/-- What reset leaves: power-on reset is in progress, every register reads its reset value on either path, nothing is stored and nothing
waits, and the clock is in range. A step without a command is a tick of the time clock of a die that runs, and nothing for any other (the
model's choice, log entry 2); the fuses of a part that nothing has programmed are the model's choice too (log entry 6). -/
def Obligations.ResetStateAndIdleStep : Prop :=
  State.reset.pending = [] ∧ State.reset.dev.sup.phase = .reset ∧
  (∀ (r : Reg) (path ch : Nat), State.reset.dev.regP r path ch = r.rstOf ch) ∧ Clock.ok State.reset.dev.clk ∧
  State.reset.dev.hostMem = [] ∧ State.reset.dev.flash = [] ∧ State.reset.dev.evq = [] ∧ State.reset.dev.out = [] ∧
  State.reset.dev.sw.frames = [] ∧ State.reset.dev.flow.mem = [] ∧ State.reset.dev.eng.tasks = [] ∧
  (∀ s : State, s.pending = [] → ¬ s.On → step s = .next s) ∧
  (∀ s : State, s.pending = [] → s.On → s.dev.tandem.queue = [] →
    step s = .next { s with dev := { s.dev with clk := s.dev.clk.tick s.dev.incExact } })

/-- The configuration loader's interrupts at reset (R66): which are enabled, and where the page's summary bit goes. -/
def Obligations.LoaderInterruptsAtReset : Prop :=
  State.reset.dev.num (INT_EN 0x02) = 0x000000E3 ∧
  (∀ b : IntBit, b.page = 0x02 → b.pos < 32 → ((State.reset.dev.reg (INT_EN 0x02)).getLsbD b.pos = true ↔
    b = CFGL.int_DEFAULTED ∨ b = CFGL.int_SIG_FAIL ∨ b = CFGL.int_RNG_FAIL ∨ b = CFGL.int_MARCH_FAIL ∨ b = CFGL.int_FLOW_MEM_FAIL)) ∧
  State.reset.dev.on (TOP.ROUTE_ALERT_EN.ix 0x02) = true

/-- The interrupt summary (R74): the place of each page's bit, when it is 1, and the bits of reserved pages. -/
def Obligations.InterruptSummaryBits : Prop :=
  ∀ (d : Dev) (path p : Nat), d.pageOpen 0 = true → p < 128 →
    ((d.busRead path (0x430 + 4 * (p / 32))).2.getLsbD (p % 32) = true ↔
      (pageHdr p).isSome = true ∧ ∃ b, b < 32 ∧ (d.pend p).getLsbD b = true)

/-- No command stops the machine: in every state each of them completes, and leaves the queue of those that wait as it was; and whatever
the state, a step answers a next one, from whose queue exactly the front command is gone. -/
def Obligations.EveryStepTakesExactlyTheFrontCommand : Prop :=
  (∀ (c : Instr) (s : State), ∃ t : State, exec c s = .next t ∧ t.pending = s.pending) ∧
  (∀ s : State, ∃ t : State, step s = .next t ∧ t.pending = s.pending.tail)

/-- Every step keeps the device clock's fields in their ranges (R10, R106): nanoseconds below one second, fraction below one nanosecond. -/
def Obligations.ClockStaysInRange : Prop :=
  ∀ s t : State, Clock.ok s.dev.clk → step s = .next t → Clock.ok t.dev.clk

/-- A blown fuse stays blown through every step, resets and losses of supply among them, and the identity never changes (R469 to R471). -/
def Obligations.FusesNeverReturn : Prop :=
  ∀ s t : State, step s = .next t → Otp.within s.dev.otp t.dev.otp

/-- A die without supply or in reset takes no command but those of the supply and of the test access port, and while SPORE keeps islands
off their rows do nothing; the receive side goes on until the lanes are off (R35, R36, R56, R57, R60). That such commands leave no trace is
the model's reading (log entry 4). -/
def Obligations.NothingHappensToWhatIsOff : Prop :=
  (∀ (c : Instr) (s : State), c.needsNoDie = false → ¬ s.On → Idle c s) ∧
  (∀ (c : Instr) (s : State), c.sleeps = true → s.dev.spore.phase ≠ 0 → Idle c s) ∧
  (∀ (c : Instr) (s : State), c.receives = true → 1 < s.dev.spore.phase → Idle c s)

/-- A command through the registers of a page that does not answer changes nothing; in SPORE it sets ACC_IN_SPORE (R39, R58). -/
def Obligations.ClosedPagesIgnoreCommands : Prop :=
  (∀ (c : Instr) (p : Nat) (s : State), c.viaPage = some p → s.dev.pageOpen p = false → s.On → s.dev.fld PWRM.SLEEP_STAT_STATE = 2 →
    Gives c s fun d => d.raised PWRM.int_ACC_IN_SPORE = true ∧ s.dev.reportsOnly d) ∧
  (∀ (c : Instr) (p : Nat) (s : State), c.viaPage = some p → s.dev.pageOpen p = false → s.dev.fld PWRM.SLEEP_STAT_STATE ≠ 2 →
    Idle c s)

/-- Supply, resets and their phases (R20 to R22, R31, R35, R36): qualification ends in power-on reset, whose end starts the die; RESET_N
and brown-out bring it back to what reset leaves, keeping the supply monitor and the test access port, or nothing. The model's own readings
that its commands follow: log entries 3, 4, 5, 6, 17, 18, 21 and 111. -/
def Obligations.SupplyPhases : Prop :=
  (∀ (s : State) (cool : Bool), s.dev.sup.phase = .unpowered ∨ s.dev.sup.phase = .qualifying → s.dev.sup.hot = false ∨ cool = true →
    Gives (.supplyQualification cool) s fun d => d.sup.phase = .reset ∧ d.sup.hot = false ∧
      d.fld PWRM.SUPPLY_STAT_LAST_CAUSE = s.dev.fld PWRM.SUPPLY_STAT_LAST_CAUSE ∧ d.hostMem = s.dev.hostMem ∧
      (s.dev.host.qspi = none → d.flash = s.dev.flash) ∧ (s.dev.host.prog = none → d.otp = s.dev.otp) ∧
      Dev.reset.moves d [.otp, .draws, .frees, .hostMem, .flash, .sup] [0x01]) ∧
  (∀ (s : State) (straps us : Nat), s.dev.sup.phase = .reset → s.dev.sup.resetLow = false →
    Gives (.powerOnReset straps us) s fun d => d.sup.phase = .on ∧ d.fld TOP.BOOT_STATUS_STAGE = 1 ∧
      d.num PWRM.STRAPS = straps % 32 ∧ d.boot.before = us ∧ s.dev.moves d [.sup, .boot] [0x00, 0x01]) ∧
  (∀ (s : State) (cool : Bool),
    Gives (.resetN false cool) s fun d => d.sup = { s.dev.sup with resetLow := false } ∧ d.host.scan = false ∧ d.host.highz = false ∧
      d.host.tapIr = s.dev.host.tapIr ∧ s.dev.moves d [.sup, .host] []) ∧
  (∀ (s : State) (cool : Bool), s.dev.sup.phase = .on ∨ s.dev.sup.phase = .reset →
    Gives (.resetN true cool) s fun d => d.sup.phase = .reset ∧ d.sup.resetLow = true ∧ d.sup.recording = none ∧ d.sup.cap = false ∧
      d.fld PWRM.SUPPLY_STAT_LAST_CAUSE = 3 ∧ d.num PWRM.VIN_NOW = s.dev.num PWRM.VIN_NOW ∧
      d.num PWRM.PFAIL_CFG = s.dev.num PWRM.PFAIL_CFG ∧ d.num PWRM.STRAPS = s.dev.num PWRM.STRAPS ∧ d.host.tapIr = s.dev.host.tapIr ∧
      d.hostMem = s.dev.hostMem ∧ Dev.reset.moves d [.otp, .draws, .frees, .hostMem, .flash, .sup, .host] [0x01]) ∧
  (∀ s : State, Gives .brownOut s fun d => d.sup.phase = .unpowered ∧ d.fld PWRM.SUPPLY_STAT_LAST_CAUSE = 0 ∧ d.hostMem = s.dev.hostMem ∧
      (s.dev.host.qspi = none → d.flash = s.dev.flash) ∧ (s.dev.host.prog = none → d.otp = s.dev.otp) ∧
      Dev.reset.moves d [.otp, .draws, .frees, .hostMem, .flash, .sup] [0x01]) ∧
  (∀ (s : State) (mv : Nat), s.dev.sup.phase ≠ .unpowered →
    Gives (.vinSample mv) s fun d => d.num PWRM.VIN_NOW = min mv 0x1FFFF ∧
      d.num PWRM.VIN_MIN = min (min mv 0x1FFFF) (s.dev.num PWRM.VIN_MIN) ∧
      (d.on PWRM.SUPPLY_STAT_OV = true ↔ 62000 < mv) ∧ s.dev.moves d [] [0x01])

/-- Overvoltage and overtemperature (R22, R31): what they report, when the converters go off, and what brings them back. The model's own
readings that its commands follow: log entries 3, 4, 5, 6, 17, 18, 19, 21, 22 and 118. -/
def Obligations.ShutdownsAndThermalCap : Prop :=
  (∀ s : State, s.On →
    Gives .overvoltage s fun d => d.on PWRM.SUPPLY_STAT_OV = true ∧ d.raised PWRM.int_OV = true ∧ d.sup.ovAt = some s.dev.clk.up ∧
      s.dev.moves d [.sup] [0x01]) ∧
  (∀ (s : State) (t : Nat), s.On → s.dev.sup.ovAt = some t → t + 100000 ≤ s.dev.clk.up →
    Gives .overvoltageShutdown s fun d => d.sup.phase = .ovOff ∧ d.fld PWRM.SUPPLY_STAT_LAST_CAUSE = 1 ∧
      Dev.reset.moves d [.otp, .draws, .frees, .hostMem, .flash, .sup] [0x01]) ∧
  (∀ (s : State) (t : Nat), s.On → s.dev.sup.ovAt = some t → s.dev.clk.up < t + 100000 → Idle .overvoltageShutdown s) ∧
  (∀ s : State, s.dev.sup.phase = .ovOff →
    Gives .ovRecovery s fun d => d.sup = { s.dev.sup with phase := .qualifying } ∧ s.dev.moves d [.sup] []) ∧
  (∀ (s : State) (temp : Int) (island : Nat), s.On → 8 * (s.dev.fld PWRM.TEMP_CFG_ALARM : Int) ≤ temp →
    Gives (.thermAlarm temp island) s fun d => (s.dev.on PWRM.TEMP_CFG_CAP_EN = false → d.raised PWRM.int_THERM_ALARM = true) ∧
      d.num PWRM.TEMP_NOW = toBits 16 temp + island % 256 * 65536 ∧
      d.sup.cap = (s.dev.sup.cap || s.dev.on PWRM.TEMP_CFG_CAP_EN) ∧ s.dev.moves d [.sup, .isles] [0x01, 0x04]) ∧
  (∀ (s : State) (temp : Int) (island : Nat), s.On → temp < 8 * (s.dev.fld PWRM.TEMP_CFG_ALARM : Int) → Idle (.thermAlarm temp island) s) ∧
  (∀ (s : State) (temp : Int) (island : Nat), s.On → temp ≤ 8 * ((s.dev.fld PWRM.TEMP_CFG_ALARM : Int) - 5) →
    Gives (.thermCapRelease temp island) s fun d => d.sup.cap = false ∧ d.num PWRM.TEMP_NOW = toBits 16 temp + island % 256 * 65536 ∧
      s.dev.moves d [.sup, .isles] [0x01, 0x04]) ∧
  (∀ s : State, s.dev.sup.phase = .on ∨ s.dev.sup.phase = .reset →
    Gives .thermalShutdown s fun d => d.sup.phase = .thermalOff ∧ d.sup.hot = true ∧ d.fld PWRM.SUPPLY_STAT_LAST_CAUSE = 2 ∧
      Dev.reset.moves d [.otp, .draws, .frees, .hostMem, .flash, .sup] [0x01])

/-- Power-fail warnings and records (R22, R25, R27): what begins one, what it writes, and what ends it. The model's own readings that its
commands follow: log entries 3, 4, 5, 6, 19, 20, 113 and 118. -/
def Obligations.WarningsAndRecords : Prop :=
  (∀ (s : State) (vin : Nat), s.On → s.dev.sup.level = false → vin < 100 * s.dev.fld PWRM.PFAIL_CFG_LEVEL →
    Gives (.powerFailWarning vin) s fun d => d.sup.level = true ∧ d.warned = true ∧
      (s.dev.warned = true → d.sup.drive = s.dev.sup.drive ∧ d.flash = s.dev.flash) ∧
      (s.dev.warned = false → d.sup.drive = true ∧ d.sup.cause = 0 ∧ d.raised PWRM.int_VIN_WARN = true)) ∧
  (∀ (s : State) (vin : Nat), s.On → s.dev.sup.level = true ∨ 100 * s.dev.fld PWRM.PFAIL_CFG_LEVEL ≤ vin →
    Idle (.powerFailWarning vin) s) ∧
  (∀ (s : State) (vin : Nat), s.On → s.dev.sup.padLow = false → s.dev.sup.drive = false → s.dev.on PWRM.PFAIL_CFG_EXT_EN = true →
    s.dev.warned = false →
    Gives (.pfailNExternal true vin) s fun d => d.sup.padLow = true ∧ d.sup.ext = true ∧ d.warned = true ∧ d.sup.cause = 1 ∧
      d.raised PWRM.int_VIN_WARN = true) ∧
  (∀ (s : State) (vin : Nat),
    Gives (.pfailNExternal false vin) s fun d => d.sup = { s.dev.sup with padLow := false } ∧ s.dev.moves d [.sup] []) ∧
  (∀ (s : State) (a : Nat), s.On → s.dev.sup.recording = some a →
    Gives .recordDone s fun d => d.sup = { s.dev.sup with recording := none } ∧ d.raised PWRM.int_RECORD_DONE = true ∧
      d.flash = s.dev.flash.putBytes 0xFF (a + 252) (leBytes 4 (crc32c (s.dev.flashRead a 252))) ∧
      s.dev.moves d [.flash, .sup] []) ∧
  (∀ s : State, s.On → s.dev.sup.recording = none → Idle .recordDone s) ∧
  (∀ (s : State) (vin : Nat), s.On → s.dev.warned = true → 100 * s.dev.fld PWRM.PFAIL_CFG_LEVEL + 300 < vin →
    s.dev.sup.padLow = false → s.dev.spore.warned = false →
    Gives (.supplyWarnEnd vin) s fun d => d.sup.level = false ∧ d.sup.ext = false ∧ d.sup.drive = false ∧ d.warned = false ∧
      d.raised PWRM.int_VIN_WARN_END = true ∧ s.dev.moves d [.sup, .spore] [0x01]) ∧
  (∀ (s : State) (vin : Nat), s.On → s.dev.warned = true → 100 * s.dev.fld PWRM.PFAIL_CFG_LEVEL + 300 < vin →
    s.dev.sup.padLow = true → s.dev.sup.drive = false → s.dev.sup.ext = true →
    Gives (.supplyWarnEnd vin) s fun d => d.sup = { s.dev.sup with level := false } ∧ d.warned = true ∧ s.dev.moves d [.sup] []) ∧
  (∀ (s : State) (vin : Nat), s.On → s.dev.warned = false ∨ vin ≤ 100 * s.dev.fld PWRM.PFAIL_CFG_LEVEL + 300 →
    Idle (.supplyWarnEnd vin) s)

/-- Start-up goes through its stages (R36, R40, R41, R43, R47 to R50): what ends each, and which stage follows. The model's own readings
that its commands follow: log entries 3, 4, 6, 20, 24, 27, 28, 29, 30, 31, 32, 33, 34, 35 and 96. -/
def Obligations.StartUpStages : Prop :=
  (∀ (s : State) (flash : Bool) (id : Nat), s.On → s.dev.bootStage = 1 →
    Gives (.romBoot flash id) s fun d => d.boot.flash = flash ∧
      d.bootStage = (if s.dev.fld PWRM.STRAPS_BOOT_SRC = 1 then 2 else 3)) ∧
  (∀ s : State, s.Opens 0x02 → s.dev.bootStage = 2 →
    Gives .hostLoad s fun d => d.bootStage = 3 ∧ d.boot.host = true ∧ d.boot.image = [] ∧ d.on TOP.BOOT_STATUS_READY = false) ∧
  (∀ s : State, s.Opens 0x02 → s.dev.bootStage ≠ 2 → s.dev.on TOP.BOOT_STATUS_CFG_DEFAULTED = false →
    s.dev.on TOP.BOOT_STATUS_SIG_FAIL = false → s.dev.on TOP.BOOT_STATUS_MARCH_FAIL = false →
    Gives .hostLoad s fun d => d.raised CFGL.int_LOAD_REFUSED = true ∧ s.dev.reportsOnly d) ∧
  (∀ s : State, s.On → s.dev.bootStage = 3 → s.dev.commit = none → s.dev.imageRead.good = none →
    Gives .imageLoad s fun d => d.bootStage = 6 ∧ d.on TOP.BOOT_STATUS_CFG_DEFAULTED = true ∧
      d.num CFGL.IMG_CRC = (crc32c s.dev.imageRead.bytes) % 2 ^ 32 ∧ d.num CSTO.LOAD_STAT = 8 ∧ d.raised CFGL.int_DEFAULTED = true ∧
      d.boot.pfail = 0x01000000 ∧ d.boot.train = 0x01010000) ∧
  (∀ (s : State) (secs : List Section), s.On → s.dev.bootStage = 3 → s.dev.commit = none → s.dev.imageRead.good = some secs →
    Gives .imageLoad s fun d => d.bootStage = (if secs.any (fun x => x.ty = 0x0002) then 4 else 6)) ∧
  (∀ s : State, s.On → s.dev.bootStage = 4 → s.dev.otp.hash = 0 → s.dev.otp.sealed = false →
    Gives .microcodeSignature s fun d => d.bootStage = 5 ∧ d.on TOP.BOOT_STATUS_SIG_UNCHECKED = true ∧ d.boot.verified = true ∧
      d.num CSTO.LOAD_STAT = 1 ∧ s.dev.moves d [.boot] [0x00, 0x34]) ∧
  (∀ s : State, s.On → s.dev.bootStage = 4 → s.dev.otp.hash ≠ 0 → sectionVerified s.dev.ucodeSection s.dev.otp.hashNum = true →
    Gives .microcodeSignature s fun d => d.bootStage = 5 ∧ d.boot.verified = true ∧
      d.on TOP.BOOT_STATUS_SIG_UNCHECKED = s.dev.on TOP.BOOT_STATUS_SIG_UNCHECKED ∧ d.num CSTO.LOAD_STAT = 1 ∧
      s.dev.moves d [.boot] [0x00, 0x34]) ∧
  (∀ s : State, s.On → s.dev.bootStage = 4 → s.dev.otp.hash ≠ 0 ∨ s.dev.otp.sealed = true →
    (s.dev.otp.hash = 0 ∨ sectionVerified s.dev.ucodeSection s.dev.otp.hashNum = false) →
    Gives .microcodeSignature s fun d => d.bootStage = 6 ∧ d.on TOP.BOOT_STATUS_SIG_FAIL = true ∧ d.boot.verified = false ∧
      d.raised CFGL.int_SIG_FAIL = true ∧ s.dev.moves d [.boot] [0x00, 0x34]) ∧
  (∀ (s : State) (uses : List (Option NanoUse)), s.On → s.dev.bootStage = 5 → sectionFault s.dev.ucodeSection uses = none →
    Gives (.controlStoreLoad uses) s fun d => d.bootStage = 6 ∧ d.num CSTO.LOAD_STAT = 2 ∧ d.num FENG.RUN = 0xFF ∧
      d.eng.mw = fieldAt s.dev.ucodeSection 0x0C 2 ∧ d.eng.nw = fieldAt s.dev.ucodeSection 0x0E 2) ∧
  (∀ (s : State) (uses : List (Option NanoUse)) (cause i : Nat), s.On → s.dev.bootStage = 5 →
    sectionFault s.dev.ucodeSection uses = some (cause, i) →
    Gives (.controlStoreLoad uses) s fun d => d.bootStage = 6 ∧ d.num FENG.RUN = 0 ∧
      d.num CSTO.LOAD_STAT = (4 + cause * 8 + i % 2 ^ 24 * 256) % 2 ^ 32 ∧ s.dev.moves d [] [0x00, 0x31, 0x34]) ∧
  (∀ (s : State) (spads : List (List Nat)) (cells : List Nat), s.On → s.dev.bootStage = 6 →
    Gives (.marchTests spads cells) s fun d => d.bootStage = 7 ∧ d.mem.retire = none ∧ d.num MEMC.RETIRED_LO = 0 ∧ d.num MEMC.RETIRED_HI = 0) ∧
  (∀ (s : State) (pass : List Nat) (full : List Trained), s.On → s.dev.bootStage = 7 → s.dev.on MTRN.TRAIN_STAT_HOST = false →
    Gives (.memoryTraining pass full) s fun d => d.bootStage = 8 ∧ d.on MTRN.TRAIN_STAT_HOST = false) ∧
  (∀ s : State, s.Opens 0x02 → s.dev.bootStage = 7 → s.dev.on MTRN.TRAIN_STAT_WINDOW = true → s.dev.on MTRN.TRAIN_STAT_HOST = true →
    Gives .trainDone s fun d => d.bootStage = 8 ∧ d.on MTRN.TRAIN_STAT_HOST = false) ∧
  (∀ s : State, s.On → s.dev.bootStage = 8 →
    Gives .memoryClear s fun d => d.bootStage = 9 ∧ d.flow.mem = [] ∧ d.flow.opened = [] ∧ d.flow.held = [] ∧ d.flow.pair = 0 ∧
      d.num FLOW.SWEEP_STAT % 8 = 1) ∧
  (∀ (s : State) (pass : Bool), s.On → s.dev.bootStage = 9 →
    Gives (.rngHealthTests pass) s fun d => d.bootStage = 10 ∧ d.boot.preload = [] ∧
      d.on FLOW.KEY_STAT_VALID = pass ∧ (s.dev.boot.preload = [] → d.on FWDT.HT_STAT_HASH_WEAK = !pass)) ∧
  (∀ s : State, s.On → s.dev.bootStage = 10 →
    Gives .portEnable s fun d => d.bootStage = 11 ∧ d.on TOP.BOOT_STATUS_READY = true ∧
      d.num CFGL.BOOT_MS = min 65535 ((s.dev.boot.before + s.dev.upUs + 500) / 1000) ∧
      (∀ i, i < 34 → (d.isle i).target = 0 ∧ (d.isle i).low = 0))

/-- Entry into SPORE (R55, R56, R57): a request by either source starts it, waits for a commit or a pause, joins a request that waits, or
is refused; the end of the drain, at its limit or with everything drained, leaves no frame and no task record in a store; and the three
steps after it come at their times, each once the one before has been made. The model's own readings that its commands follow: log entries
3, 4, 36, 37, 69, 96 and 121. -/
def Obligations.SporeEntry : Prop :=
  (∀ (s : State) (c : Instr),
      (c = .sleepReq ∧ s.Opens 0x01) ∨ (c = .sleepN ∧ s.On ∧ s.dev.on PWRM.SLEEP_CFG_SLEEP_N_EN = true) →
    s.dev.spore.waiting = false → s.dev.on TOP.BOOT_STATUS_READY = true → s.dev.fld PWRM.SLEEP_STAT_STATE = 0 →
    s.dev.opState MEMC.RETIRE_STAT ≠ 1 → s.dev.commit = none → s.dev.pause = none →
    Gives c s fun d => d.fld PWRM.SLEEP_STAT_STATE = 1 ∧ d.on PWRM.SLEEP_STAT_HELD = false ∧ d.look.frags = [] ∧
      (∀ p, p < 4 → d.waitsOf p = []) ∧
      d.spore = { s.dev.spore with waiting := false, stopped := true, phase := 0, wake := none, run := s.dev.num FENG.RUN % 256,
                                   since := s.dev.clk.up, warned := s.dev.on PWRM.SUPPLY_STAT_WARN,
                                   locked := decide (s.dev.fld TIME.SYNC_STAT_STATE = 2) } ∧
      s.dev.moves d [.sw, .look, .spore] [0x01, 0x11, 0x21, 0x40, 0x41, 0x50, 0x58, 0x70]) ∧
  (∀ (s : State) (c : Instr),
      (c = .sleepReq ∧ s.Opens 0x01) ∨ (c = .sleepN ∧ s.On ∧ s.dev.on PWRM.SLEEP_CFG_SLEEP_N_EN = true) →
    s.dev.spore.waiting = false → s.dev.on TOP.BOOT_STATUS_READY = true → s.dev.fld PWRM.SLEEP_STAT_STATE = 0 →
    s.dev.opState MEMC.RETIRE_STAT ≠ 1 → s.dev.commit.isSome = true ∨ s.dev.pause.isSome = true →
    Gives c s fun d => d.spore = { s.dev.spore with waiting := true } ∧ s.dev.keeps d [.spore]) ∧
  (∀ (s : State) (c : Instr),
      (c = .sleepReq ∧ s.Opens 0x01) ∨ (c = .sleepN ∧ s.On ∧ s.dev.on PWRM.SLEEP_CFG_SLEEP_N_EN = true) →
    s.dev.spore.waiting = true → Idle c s) ∧
  (∀ (s : State) (c : Instr),
      (c = .sleepReq ∧ s.Opens 0x01) ∨ (c = .sleepN ∧ s.On ∧ s.dev.on PWRM.SLEEP_CFG_SLEEP_N_EN = true) →
    s.dev.spore.waiting = false →
    s.dev.on TOP.BOOT_STATUS_READY = false ∨ s.dev.fld PWRM.SLEEP_STAT_STATE ≠ 0 ∨ s.dev.opState MEMC.RETIRE_STAT = 1 →
    Gives c s fun d => d.raised PWRM.int_SLEEP_REFUSED = true ∧ s.dev.reportsOnly d) ∧
  (∀ s : State, s.On → s.dev.on PWRM.SLEEP_CFG_SLEEP_N_EN = false → Idle .sleepN s) ∧
  (∀ s : State, s.On → s.dev.entryAt 0 0 = true →
    s.dev.drained = true ∨ s.dev.entryAt 0 (s.dev.fld PWRM.SLEEP_CFG_DRAIN_TO * 1000000) = true →
    Gives .sporeDrainEnd s fun d => d.spore = { s.dev.spore with phase := 1, since := s.dev.clk.up } ∧ (∀ k, d.frame k = none) ∧
      (∀ c, c < 8 → d.storeOf c = []) ∧ (∀ c, c < 8 → (d.cipher c).holder = none) ∧ d.flow.waiting = [] ∧
      d.fld PWRM.SLEEP_STAT_STATE = 1) ∧
  (∀ s : State, s.On → s.dev.entryAt 0 0 = false ∨
      (s.dev.entryAt 0 (s.dev.fld PWRM.SLEEP_CFG_DRAIN_TO * 1000000) = false ∧ s.dev.drained = false) → Idle .sporeDrainEnd s) ∧
  (∀ s : State, s.On → s.dev.entryAt 1 500000 = true →
    Gives .sporeLanesOff s fun d => d.spore = { s.dev.spore with phase := 2 } ∧
      (∀ p, p < 34 → p ≠ 32 → d.portState p = if s.dev.portState p = 0 then 0 else 1)) ∧
  (∀ s : State, s.On → s.dev.entryAt 2 1000000 = true →
    Gives .sporePacketMemoryRelease s fun d => d.spore = { s.dev.spore with phase := 3 } ∧
      d.mem.pattern = s.dev.mem.pattern.filter (fun p => decide (p.1 / 2 ^ 24 < 48)) ∧
      (∀ m, 48 ≤ m → m < 64 → d.chState m = if s.dev.chState m = 0 then 3 else s.dev.chState m) ∧ s.dev.moves d [.spore, .mem] [0x50]) ∧
  (∀ s : State, s.On → s.dev.entryAt 3 2000000 = true →
    Gives .sporeSelfRefresh s fun d => d.fld PWRM.SLEEP_STAT_STATE = (if s.dev.spore.wake.isSome then 3 else 2) ∧
      d.spore = { s.dev.spore with phase := 4, since := s.dev.clk.up } ∧ (s.dev.spore.wake.isSome = true → d.num PWRM.SPORE_LEN = 0) ∧
      (∀ m, m < 48 → d.chState m = if s.dev.chState m = 0 then 3 else s.dev.chState m) ∧
      d.flow.opened = [] ∧ d.eng.spad = [] ∧ d.eng.trace = [] ∧ d.sw.buckets = [] ∧ d.sw.polic = [] ∧ d.sw.samples = [] ∧
      s.dev.moves d [.draws, .spore, .time, .flow, .eng, .sw, .mem] [0x01, 0x50]) ∧
  (∀ s : State, s.On → s.dev.entryAt 1 500000 = false → Idle .sporeLanesOff s) ∧
  (∀ s : State, s.On → s.dev.entryAt 2 1000000 = false → Idle .sporePacketMemoryRelease s) ∧
  (∀ s : State, s.On → s.dev.entryAt 3 2000000 = false → Idle .sporeSelfRefresh s)

/-- Waking from SPORE (R59 to R62): each source where it is enabled starts the wake in SPORE, is held during entry, and otherwise does
nothing; the wake ends 2 ms later with admission open or held, and ADMIT opens what is held. The model's own readings that its commands
follow: log entries 3, 4, 37 and 96. -/
def Obligations.SporeWake : Prop :=
  (∀ (s : State) (c : Instr) (n : Nat),
      (c = .wakeN ∧ n = 1 ∧ s.On ∧ s.dev.on PWRM.SLEEP_CFG_WAKE_N_EN = true) ∨
      (c = .wakeReq ∧ n = 2 ∧ s.Opens 0x01 ∧ s.dev.on PWRM.SLEEP_CFG_PCIE_WAKE_EN = true) ∨
      (c = .wakeTimer ∧ n = 3 ∧ s.On ∧ s.dev.on PWRM.SLEEP_CFG_TIMER_WAKE_EN = true ∧
        s.dev.num2 PWRM.WAKE_AT_LO PWRM.WAKE_AT_HI ≤ (s.dev.stamp 32).toNat) →
    s.dev.fld PWRM.SLEEP_STAT_STATE = 2 → s.dev.spore.wake = none →
    Gives c s fun d => d.fld PWRM.SLEEP_STAT_STATE = 3 ∧ d.spore = { s.dev.spore with wake := some n, since := s.dev.clk.up } ∧
      d.num PWRM.SPORE_LEN = min (2 ^ 32 - 1) ((s.dev.clk.up - s.dev.spore.since) / 156250000) ∧ s.dev.moves d [.spore] [0x01]) ∧
  (∀ (s : State) (c : Instr) (n : Nat),
      (c = .wakeN ∧ n = 1 ∧ s.On ∧ s.dev.on PWRM.SLEEP_CFG_WAKE_N_EN = true) ∨
      (c = .wakeReq ∧ n = 2 ∧ s.Opens 0x01 ∧ s.dev.on PWRM.SLEEP_CFG_PCIE_WAKE_EN = true) ∨
      (c = .wakeTimer ∧ n = 3 ∧ s.On ∧ s.dev.on PWRM.SLEEP_CFG_TIMER_WAKE_EN = true ∧
        s.dev.num2 PWRM.WAKE_AT_LO PWRM.WAKE_AT_HI ≤ (s.dev.stamp 32).toNat) →
    s.dev.fld PWRM.SLEEP_STAT_STATE = 1 → s.dev.spore.wake = none →
    Gives c s fun d => d.spore = { s.dev.spore with wake := some n } ∧ s.dev.keeps d [.spore]) ∧
  (∀ (s : State) (c : Instr) (n : Nat),
      (c = .wakeN ∧ n = 1 ∧ s.On ∧ s.dev.on PWRM.SLEEP_CFG_WAKE_N_EN = true) ∨
      (c = .wakeReq ∧ n = 2 ∧ s.Opens 0x01 ∧ s.dev.on PWRM.SLEEP_CFG_PCIE_WAKE_EN = true) ∨
      (c = .wakeTimer ∧ n = 3 ∧ s.On ∧ s.dev.on PWRM.SLEEP_CFG_TIMER_WAKE_EN = true ∧
        s.dev.num2 PWRM.WAKE_AT_LO PWRM.WAKE_AT_HI ≤ (s.dev.stamp 32).toNat) →
    s.dev.spore.wake.isSome = true ∨ s.dev.fld PWRM.SLEEP_STAT_STATE = 0 ∨ s.dev.fld PWRM.SLEEP_STAT_STATE = 3 → Idle c s) ∧
  (∀ s : State, s.On → s.dev.on PWRM.SLEEP_CFG_WAKE_N_EN = false → Idle .wakeN s) ∧
  (∀ s : State, s.Opens 0x01 → s.dev.on PWRM.SLEEP_CFG_PCIE_WAKE_EN = false → Idle .wakeReq s) ∧
  (∀ s : State, s.On → s.dev.on PWRM.SLEEP_CFG_TIMER_WAKE_EN = false ∨
      (s.dev.stamp 32).toNat < s.dev.num2 PWRM.WAKE_AT_LO PWRM.WAKE_AT_HI → Idle .wakeTimer s) ∧
  (∀ s : State, s.On → s.dev.fld PWRM.SLEEP_STAT_STATE = 3 → s.dev.spore.since + 20000000 ≤ s.dev.clk.up →
    Gives .wakeDone s fun d => d.fld PWRM.SLEEP_STAT_STATE = 0 ∧ d.spore.phase = 0 ∧ d.spore.wake = none ∧
      d.spore.stopped = s.dev.on PWRM.SLEEP_CFG_WAKE_HOLD ∧ d.on PWRM.SLEEP_STAT_HELD = s.dev.on PWRM.SLEEP_CFG_WAKE_HOLD ∧
      (s.dev.on PWRM.SLEEP_CFG_WAKE_HOLD = true → d.num FENG.RUN = 0) ∧
      (s.dev.on PWRM.SLEEP_CFG_WAKE_HOLD = false → d.num FENG.RUN = s.dev.num FENG.RUN) ∧
      d.fld PWRM.SLEEP_STAT_LAST_WAKE = s.dev.spore.wake.getD 0 % 8 ∧ d.time.halted = [] ∧
      (∀ m, m < 64 → d.chState m = if s.dev.chState m = 3 then 0 else s.dev.chState m) ∧ d.raised PWRM.int_WAKE_DONE = true) ∧
  (∀ s : State, s.On → s.dev.fld PWRM.SLEEP_STAT_STATE ≠ 3 ∨ s.dev.clk.up < s.dev.spore.since + 20000000 → Idle .wakeDone s) ∧
  (∀ s : State, s.Opens 0x01 → s.dev.on PWRM.SLEEP_STAT_HELD = true →
    Gives .admission s fun d => d.spore.stopped = false ∧ d.on PWRM.SLEEP_STAT_HELD = false ∧ d.num FENG.RUN = s.dev.spore.run % 2 ^ 32 ∧
      s.dev.moves d [.spore, .sw] [0x01, 0x31]) ∧
  (∀ s : State, s.Opens 0x01 → s.dev.on PWRM.SLEEP_STAT_HELD = false → Idle .admission s)

/-- Register accesses (R6, R7, R69 to R77): a write by its register's type, SEL, the interrupt words, the error record, reads that clear,
and the refusals of a partial write and of a channel that is not there. The model's own readings that its commands follow: log entries 3,
4, 7, 10, 44, 54, 96, 99, 112 and 113. -/
def Obligations.RegisterAccesses : Prop :=
  (∀ (s : State) (path p : Nat) (w : Word), p < 128 → s.Opens p →
    Gives (.registerWrite path (4096 * p + 0x03C) 15 w 0 []) s fun d => d.reg (SCRATCH p) = w ∧ s.dev.onlyRegs d ∧
      s.dev.keepsBut d [(SCRATCH p).key 0 0]) ∧
  (∀ (s : State) (path : Nat) (w : Word), path < 2 → s.Opens 0x28 → w &&& 0x003FFFFF = w →
    10 ≤ w.toNat % 2048 → w.toNat % 2048 ≤ 2000 → 4 ≤ w.toNat / 4096 % 256 →
    Gives (.registerWrite path 0x28404 15 w 0 []) s fun d =>
      d.shadowOf FWDT.LEARN_CFG 0 = w ∧ d.reg FWDT.LEARN_CFG = s.dev.reg FWDT.LEARN_CFG ∧ d.dirty.contains 0x28 = true ∧
      s.dev.keeps d [.shadow, .dirty]) ∧
  (∀ (s : State) (x : Put) (r : Reg), x.path < 2 → x.page < 128 → x.off < 4096 → 0x040 ≤ x.off → x.off % 4 = 0 → x.boot = false →
    s.Opens x.page → x.ch = s.dev.selOf x.path x.page → s.dev.holdsOnly x → regAt x.page x.off = some r → r.acc = .rw →
    Gives (.registerWrite x.path (4096 * x.page + x.off) 15 x.w x.done x.found) s fun d =>
      d.regP r x.path (s.dev.keyCh x.page x.ch) = (r.settle (s.dev.regP r x.path (s.dev.keyCh x.page x.ch)) x.w).1 ∧
      (d.fld (ERR_INFO_CAUSE x.page) = s.dev.fld (ERR_INFO_CAUSE x.page) ∨
        (r.settle (s.dev.regP r x.path (s.dev.keyCh x.page x.ch)) x.w).2 = true) ∧ s.dev.onlyRegs d) ∧
  (∀ (s : State) (x : Put) (r : Reg), x.path < 2 → x.page < 128 → x.off < 4096 → 0x040 ≤ x.off → x.off % 4 = 0 → x.boot = false →
    s.Opens x.page → x.ch = s.dev.selOf x.path x.page → s.dev.holdsOnly x → regAt x.page x.off = some r → r.acc = .st →
    crossBad x.page x.off x.w.toNat = false →
    Gives (.registerWrite x.path (4096 * x.page + x.off) 15 x.w x.done x.found) s fun d =>
      d.shadowOf r (s.dev.keyCh x.page x.ch) = (r.settle (s.dev.shadowOf r (s.dev.keyCh x.page x.ch)) x.w).1 ∧
      d.dirty.contains r.page = true ∧ s.dev.keeps d [.regs, .shadow, .dirty]) ∧
  (∀ (s : State) (x : Put) (r : Reg), x.path < 2 → x.page < 128 → x.off < 4096 → 0x040 ≤ x.off → x.off % 4 = 0 → x.boot = false →
    s.Opens x.page → x.ch = s.dev.selOf x.path x.page → s.dev.holdsOnly x → regAt x.page x.off = some r → r.acc = .ro ∨ r.acc = .rc →
    Gives (.registerWrite x.path (4096 * x.page + x.off) 15 x.w x.done x.found) s fun d => s.dev.onlyRegs d ∧
      s.dev.keepsBut d [(SEL x.page).key x.path 0]) ∧
  (∀ (s : State) (path p off be : Nat) (w : Word) (done : Nat) (found : List Nat), path < 2 → p < 128 → off < 4096 → s.Opens p →
    be % 16 ≠ 15 → s.dev.fld (ERR_INFO_CAUSE p) = 0 →
    Gives (.registerWrite path (4096 * p + off) be w done found) s fun d =>
      d.num (ERR_INFO p) = off / 4 * 4 + 3 * 4096 + path * 65536 ∧
      d.num2 (ERR_STAMP_LO p) (ERR_STAMP_HI p) = (s.dev.stamp 32).toNat ∧ s.dev.onlyRegs d) ∧
  (∀ (s : State) (path p : Nat) (w : Word), p < 128 → s.Opens p → w.toNat % 65536 ≤ (hdrOf p).selMax % 65536 →
    Gives (.selWrite path p w) s fun d => d.regP (SEL p) path 0 = w &&& 0x8000FFFF ∧ s.dev.onlyRegs d ∧
      s.dev.keepsBut d [(SEL p).key path 0]) ∧
  (∀ (s : State) (path p : Nat) (w : Word), path < 2 → p < 128 → s.Opens p → (hdrOf p).selMax % 65536 < w.toNat % 65536 →
    Gives (.selWrite path p w) s fun d => d.regP (SEL p) path 0 = s.dev.regP (SEL p) path 0 ∧ d.fld (ERR_INFO_CAUSE p) ≠ 0 ∧
      (s.dev.fld (ERR_INFO_CAUSE p) = 0 → d.num (ERR_INFO p) = 0x020 + 2 * 4096 + path * 65536) ∧
      (s.dev.fld (ERR_INFO_CAUSE p) ≠ 0 → d.fld (ERR_INFO_MORE p) = min 15 (s.dev.fld (ERR_INFO_MORE p) + 1)) ∧ s.dev.onlyRegs d) ∧
  (∀ (s : State) (path p off : Nat) (r : Reg), path < 2 → p < 128 → off < 4096 → 0x040 ≤ off → off % 4 = 0 → s.Opens p →
    s.dev.readsPlain path p off → regAt p off = some r → r.acc = .rc →
    Gives (.readClear path (4096 * p + off)) s fun d =>
      d.out = .words path [s.dev.regP r path (s.dev.keyCh p (s.dev.selOf path p))] :: s.dev.out ∧
      d.regP r path (s.dev.keyCh p (s.dev.selOf path p)) = r.rstOf (s.dev.keyCh p (s.dev.selOf path p)) ∧
      s.dev.keeps d [.regs, .out] ∧
      s.dev.keepsBut d [r.key path (s.dev.keyCh p (s.dev.selOf path p)), (SEL p).key path 0]) ∧
  (∀ (s : State) (path : Nat), s.Opens 0x01 →
    Gives (.readClear path 0x1404) s fun d => d.out = .words path [s.dev.reg PWRM.VIN_MIN] :: s.dev.out ∧
      d.num PWRM.VIN_MIN = 0x1FFFF ∧ s.dev.keeps d [.regs, .out] ∧ s.dev.keepsBut d [PWRM.VIN_MIN.key 0 0]) ∧
  (∀ (s : State) (path p : Nat), p < 128 → s.Opens p →
    Gives (.errInfoRead path p) s fun d => d.out = .words path [s.dev.reg (ERR_INFO p)] :: s.dev.out ∧ d.num (ERR_INFO p) = 0 ∧
      s.dev.keeps d [.regs, .out] ∧ s.dev.keepsBut d [(ERR_INFO p).key 0 0]) ∧
  (∀ (s : State) (path p : Nat) (w : Word), p < 128 → s.Opens p → p ≠ 0x62 →
    Gives (.w1cWrite path p w) s fun d => d.reg (INT_RAW p) = s.dev.reg (INT_RAW p) &&& ~~~w ∧ s.dev.reportsOnly d) ∧
  (∀ (s : State) (path : Nat) (w : Word), s.Opens 0x62 →
    Gives (.w1cWrite path 0x62 w) s fun d => d.reg (INT_RAW 0x62) = s.dev.reg (INT_RAW 0x62) &&& ~~~w ∧
      (∀ q, q < 16 → w.getLsbD q = true → (d.evQueue q).since = 0 ∧ (d.evQueue q).first = 0) ∧ s.dev.reportsOnly d) ∧
  (∀ (s : State) (path p : Nat) (w : Word), p < 128 → s.Opens p →
    Gives (.intForce path p w) s fun d =>
      d.reg (INT_RAW p) = s.dev.reg (INT_RAW p) ||| (w &&& BitVec.ofNat 32 (hdrOf p).intMask) ∧ d.evq = s.dev.evq ∧
      s.dev.reportsOnly d) ∧
  (∀ (s : State) (done : Nat) (found : List Nat), s.Opens 0x21 →
    Gives (.softReset 0x21 done found) s fun d => d.look.frags = [] ∧ s.dev.moves d [.sw, .look] [0x11, 0x21, 0x40, 0x41, 0x50, 0x58, 0x70]) ∧
  (∀ (s : State) (done : Nat) (found : List Nat), s.Opens 0x61 →
    Gives (.softReset 0x61 done found) s fun d => d.sw = { s.dev.sw with stat := [] } ∧ d.obs.statSnap = [] ∧ s.dev.moves d [.sw] []) ∧
  (∀ (s : State) (done : Nat) (found : List Nat), s.Opens 0x60 →
    Gives (.softReset 0x60 done found) s fun d => d.obs.perf = [] ∧ d.obs.perfSnap = [] ∧ s.dev.moves d [] []) ∧
  (∀ (s : State) (page done : Nat) (found : List Nat), page ∈ [0x00, 0x01, 0x02, 0x03, 0x68] → s.Opens page →
    Idle (.softReset page done found) s) ∧
  (∀ (s : State) (page done : Nat) (found : List Nat), page < 128 → s.Opens page →
    Gives (.softReset page done found) s fun d => d.otp = s.dev.otp ∧ d.sup = s.dev.sup ∧ d.boot = s.dev.boot ∧
      d.bootStage = s.dev.bootStage) ∧
  (∀ (s : State) (page done : Nat) (found : List Nat), s.On → s.dev.pageOpen (page % 128) = false →
    Gives (.softReset page done found) s fun d => s.dev.reportsOnly d)

/-- The SMBus target (R459): its offset, reads and writes on the housekeeping path, the mailbox and the status byte; a PEC that fails
leaves everything as it is. The model's own readings that its commands follow: log entries 3, 4, 5, 14 and 109. -/
def Obligations.SmbusTarget : Prop :=
  (∀ (s : State) (addr : Nat), s.On →
    Gives (.setAddr addr true) s fun d => d.host = { s.dev.host with smbAddr := addr % 2 ^ 32 } ∧ s.dev.keeps d [.host]) ∧
  (∀ (s : State) (p : Nat), p < 128 → s.Opens p → s.dev.host.smbAddr = 4096 * p + 0x03C →
    Gives .smbusRead s fun d => d.out = .words 1 [s.dev.reg (SCRATCH p)] :: s.dev.out ∧
      d.host = { s.dev.host with smbAddr := s.dev.host.smbAddr + 4 } ∧ s.dev.keeps d [.out, .host]) ∧
  (∀ s : State, s.On → 2 ^ 19 ≤ s.dev.host.smbAddr →
    Gives .smbusRead s fun d => d.out = .words 1 [0] :: s.dev.out ∧
      d.host = { s.dev.host with smbAddr := (s.dev.host.smbAddr + 4) % 2 ^ 32 } ∧ s.dev.keeps d [.out, .host]) ∧
  (∀ (s : State) (p : Nat) (w : Word) (done : Nat) (found : List Nat), p < 128 → s.Opens p → s.dev.host.smbAddr = 4096 * p + 0x03C →
    Gives (.smbusWrite w true done found) s fun d => d.reg (SCRATCH p) = w ∧
      d.host = { s.dev.host with smbAddr := s.dev.host.smbAddr + 4 } ∧ s.dev.keeps d [.regs, .host] ∧
      s.dev.keepsBut d [(SCRATCH p).key 0 0]) ∧
  (∀ (s : State) (bs : List Byte), s.Opens 0x68 → bs.length ≤ 255 → s.dev.host.mboxIn ≤ 256 →
    Gives (.mboxWrite bs true) s fun d => d.host = { s.dev.host with mboxIn := min 256 (s.dev.host.mboxIn + bs.length) } ∧
      (∀ i, i < bs.length → s.dev.host.mboxIn + i < 256 →
        bitsOf (d.regP (HOST.MBOX_IN.ix ((s.dev.host.mboxIn + i) / 4)) 1 0).toNat (8 * ((s.dev.host.mboxIn + i) % 4)) 8 =
          (bs.getD i 0).toNat) ∧ s.dev.moves d [.host] [0x68]) ∧
  (∀ s : State, s.Opens 0x68 → s.dev.host.bells = [] → [1, 2, 3, 4].contains (s.dev.mboxIn 1 0 % 256) = true →
    Gives (.mboxRing true) s fun d => d.host = { s.dev.host with mboxIn := 0, bells := [1] } ∧ d.regP HOST.MBOX_STAT 1 0 = 1 ∧
      s.dev.moves d [.host] [0x68]) ∧
  (∀ s : State, s.Opens 0x68 → s.dev.host.bells = [] → [1, 2, 3, 4].contains (s.dev.mboxIn 1 0 % 256) = false →
    Gives (.mboxRing true) s fun d => d.host = { s.dev.host with mboxIn := 0 } ∧ d.regP HOST.MBOX_STAT 1 0 = 2 ∧
      bitsOf (d.regP (HOST.MBOX_OUT.ix 0) 1 0).toNat 24 8 = 1 ∧ d.raised HOST.int_MBOX_DONE = true) ∧
  (∀ (s : State) (n : Nat), s.Opens 0x68 →
    Gives (.mboxRead n) s fun d => d.out = .bytes (s.dev.mboxOut.take (min n 255)) :: s.dev.out ∧ s.dev.keeps d [.out]) ∧
  (∀ s : State, s.On →
    Gives .status s fun d => d.out = .bytes [BitVec.ofNat 8 s.dev.smbStatus] :: s.dev.out ∧ s.dev.keeps d [.out]) ∧
  (∀ (s : State) (addr : Nat), Idle (.setAddr addr false) s) ∧
  (∀ (s : State) (w : Word) (done : Nat) (found : List Nat), Idle (.smbusWrite w false done found) s) ∧
  (∀ (s : State) (bs : List Byte), Idle (.mboxWrite bs false) s) ∧
  (∀ s : State, Idle (.mboxRing false) s)

/-- A commit (R77 to R83): GO takes the shadows of its scope, to take effect at a whole microsecond of device time between one and two
microseconds away; one at a time; each island switches when its own replica reaches T_c, and with housekeeping the epoch advances; it is
done when no older packet is left. The model's own readings that its commands follow: log entries 3, 4, 5, 7, 35, 37, 38 and 39. -/
def Obligations.CommitsTakeEffectTogether : Prop :=
  (∀ (s : State) (path page : Nat), s.Opens page → s.dev.commit = none →
    Gives (.commitGo path page) s fun d => ∃ c, d.commit = some c ∧ c.applied = false ∧ c.path = path % 2 ∧ c.tc % 1000 = 0 ∧
      s.dev.islandNs 32 + 1000 ≤ c.tc ∧ c.tc < s.dev.islandNs 32 + 2000 ∧
      (∀ k, inScope page (keyPage k) = true → c.staged.get none k = s.dev.shadow.get none k ∧ d.shadow.get none k = none) ∧
      (∀ k, inScope page (keyPage k) = false → c.staged.get none k = none ∧ d.shadow.get none k = s.dev.shadow.get none k) ∧
      (∀ p, p ∈ d.dirty ↔ p ∈ s.dev.dirty ∧ inScope page p = false) ∧ s.dev.keeps d [.shadow, .dirty, .commit]) ∧
  (∀ (s : State) (c : Instr) (path page : Nat), c = .commitGo path page ∨ c = .commitDiscard path page → path < 2 → s.Opens page →
    s.dev.commit.isSome = true →
    Gives c s fun d => d.raised TOP.int_COMMIT_REFUSED = true ∧ d.commit = s.dev.commit ∧ d.shadow = s.dev.shadow ∧
      (s.dev.fld (ERR_INFO_CAUSE page) = 0 → d.num (ERR_INFO page) = 0x028 + 5 * 4096 + path * 65536) ∧ s.dev.moves d [] [page]) ∧
  (∀ (s : State) (path page : Nat), s.Opens page → s.dev.commit = none →
    Gives (.commitDiscard path page) s fun d =>
      (∀ k, d.shadow.get none k = if inScope page (keyPage k) then none else s.dev.shadow.get none k) ∧
      (∀ p, p ∈ d.dirty ↔ p ∈ s.dev.dirty ∧ inScope page p = false) ∧ s.dev.keeps d [.shadow, .dirty]) ∧
  (∀ (s : State) (c : CommitSt), s.On → s.dev.commit = some c → c.applied = false → c.switched = [] →
    (∀ i, i < 34 → c.tc ≤ s.dev.islandNs i) →
    Gives .commitInstant s fun d =>
      d.commit = some { c with switched := List.range 34, was := s.dev.num (COMMIT 0) % 65536, applied := true } ∧
      d.cgen = s.dev.cgen + 1 ∧
      d.num (COMMIT 0) = nextEpoch (s.dev.num (COMMIT 0) % 65536) ∧
      d.num2 TOP.COMMIT_STAMP_LO TOP.COMMIT_STAMP_HI = (stampOf c.tc).toNat ∧
      (c.staged.wf none = true → ∀ (k : Nat) (x : Staged), keyPage k = 0x28 → reportKey k = false → keyOff k ≠ 0x028 →
        c.staged.get none k = some x → d.regs.get x.rst k = x.val)) ∧
  (∀ (s : State) (c : CommitSt), s.On → s.dev.commit = some c → c.applied = false → c.switched.contains 32 = false →
    c.tc ≤ s.dev.islandNs 32 →
    Gives .commitInstant s fun d => d.num (COMMIT 0) = nextEpoch (s.dev.num (COMMIT 0) % 65536) ∧
      d.num2 TOP.COMMIT_STAMP_LO TOP.COMMIT_STAMP_HI = (stampOf c.tc).toNat ∧
      (∃ e, d.commit = some e ∧ e.tc = c.tc ∧ e.was = s.dev.num (COMMIT 0) % 65536 ∧
        (∀ i, i ∈ e.switched ↔ i ∈ c.switched ∨ (i < 34 ∧ c.tc ≤ s.dev.islandNs i)))) ∧
  (∀ (s : State) (c : CommitSt), s.On → s.dev.commit = some c → c.applied = false → c.pipes = false →
    (∀ i, 9 ≤ i → i ≤ 12 → s.dev.islandNs i < c.tc) →
    Gives .commitInstant s fun d => d.cgen = s.dev.cgen ∧ d.prev = s.dev.prev ∧
      (∀ (k : Nat) (w : Word), keyPage k = 0x28 → reportKey k = false → keyOff k ≠ 0x028 →
        d.regs.get w k = s.dev.regs.get w k)) ∧
  (∀ s : State, s.On → (∀ c, s.dev.commit = some c → c.applied = true ∨
    ∀ i, i < 34 → i ∈ c.switched ∨ s.dev.islandNs i < c.tc) → Idle .commitInstant s) ∧
  (∀ (s : State) (c : CommitSt), s.On → s.dev.commit = some c → c.applied = true → s.dev.spore.waiting = false →
    (∀ f ∈ s.dev.pastParser 0xF, s.dev.cgen ≤ f.gen) →
    Gives .commitDone s fun d => d.commit = none ∧ d.prev = s.dev.prev.filter (fun x => s.dev.taskGens.any (· < x.1)) ∧
      d.raised TOP.int_COMMIT_DONE = true ∧
      s.dev.moves d [.prev, .commit] []) ∧
  (∀ (s : State) (c : CommitSt), s.On → s.dev.commit = some c → c.applied = true → s.dev.spore.waiting = true →
    (∀ f ∈ s.dev.pastParser 0xF, s.dev.cgen ≤ f.gen) → Gives .commitDone s fun d => d.commit = none) ∧
  (∀ (s : State) (c : CommitSt) (f : Frame), s.On → s.dev.commit = some c → f ∈ s.dev.pastParser 0xF → f.gen < s.dev.cgen →
    Idle .commitDone s)

/-- A pause of pipelines (R84 to R86): one at a time, reached when nothing is past the parser, ended by RESUME or by its limit. The model's
own readings that its commands follow: log entries 3, 4, 37, 39 and 40. -/
def Obligations.PausesOfPipelines : Prop :=
  (∀ (s : State) (mask : Nat), s.Opens 0 → s.dev.pause = none → s.dev.on TOP.BOOT_STATUS_READY = true →
    Gives (.pauseGo mask) s fun d => d.pause = some { mask := mask % 16, reached := false, since := s.dev.clk.up } ∧
      d.fld TOP.PAUSE_STAT_DRAINING = mask % 16 ∧
      s.dev.moves d [.pause, .sw, .look] [0x00, 0x11, 0x21, 0x40, 0x41, 0x50, 0x58, 0x70]) ∧
  (∀ (s : State) (mask : Nat), s.Opens 0 → s.dev.pause.isSome = true ∨ s.dev.on TOP.BOOT_STATUS_READY = false →
    Gives (.pauseGo mask) s fun d => d.raised TOP.int_PAUSE_REFUSED = true ∧ s.dev.reportsOnly d) ∧
  (∀ (s : State) (p : PauseSt), s.On → s.dev.pause = some p → p.reached = false → s.dev.pastParser p.mask = [] →
    Gives .pauseReached s fun d => d.pause = some { p with reached := true } ∧ d.fld TOP.PAUSE_STAT_DRAINING = 0 ∧
      d.fld TOP.PAUSE_STAT_PAUSED = p.mask % 16 ∧ d.raised TOP.int_PAUSE_REACHED = true ∧ s.dev.moves d [.pause] [0x00]) ∧
  (∀ (s : State) (p : PauseSt), s.On → s.dev.pause = some p → s.dev.pastParser p.mask ≠ [] → Idle .pauseReached s) ∧
  (∀ (s : State) (p : PauseSt), s.Opens 0 → s.dev.pause = some p → s.dev.spore.waiting = false →
    Gives .pauseResume s fun d => d.pause = none ∧ d.fld TOP.PAUSE_STAT_DRAINING = 0 ∧ d.fld TOP.PAUSE_STAT_PAUSED = 0 ∧
      d.fld TOP.PAUSE_STAT_LAST_US = min 0xFFFF ((s.dev.clk.up - p.since) / 10000) ∧
      d.num (COMMIT 0) = nextEpoch (s.dev.num (COMMIT 0) % 65536) ∧ s.dev.moves d [.pause, .tandem] [0x00]) ∧
  (∀ s : State, s.Opens 0 → s.dev.pause = none →
    Gives .pauseResume s fun d => d.raised TOP.int_PAUSE_REFUSED = true ∧ s.dev.reportsOnly d) ∧
  (∀ (s : State) (p : PauseSt), s.On → s.dev.pause = some p → s.dev.spore.waiting = false →
    p.since + s.dev.num TOP.PAUSE_LIMIT % 65536 * 10000 ≤ s.dev.clk.up →
    Gives .pauseExpired s fun d => d.pause = none ∧ d.raised TOP.int_PAUSE_EXPIRED = true ∧
      d.num (COMMIT 0) = nextEpoch (s.dev.num (COMMIT 0) % 65536) ∧ s.dev.moves d [.pause, .tandem] [0x00]) ∧
  (∀ (s : State) (p : PauseSt), s.On → s.dev.pause = some p →
    s.dev.clk.up < p.since + s.dev.num TOP.PAUSE_LIMIT % 65536 * 10000 → Idle .pauseExpired s)

/-- Pace (R96 to R101, R105): a governor window sets the island's target by its occupancy, a change of pace ends at its level and is
counted, and PIN_ALL pins or frees every island. The model's own readings that its commands follow: log entries 3, 4, 10, 113 and 118. -/
def Obligations.PaceFollowsItsOrder : Prop :=
  (∀ (s : State) (i occ : Nat), s.Awake → s.dev.on TOP.BOOT_STATUS_READY = true → i < 34 →
    (s.dev.isle i).winAt + 640 * s.dev.fld ISLE.GOV_TIME_WINDOW i ≤ s.dev.clk.up →
    Gives (.governorWindow i occ) s fun d => d.fld ISLE.PACE_STAT_OCC i = min occ 255 ∧
      (s.dev.enabled 0x04 = true → s.dev.fld ISLE.GOV_TH_JUMP_TH i ≤ min occ 255 → (d.isle i).target = 0 ∧ (d.isle i).low = 0) ∧
      (s.dev.enabled 0x04 = true → s.dev.fld ISLE.GOV_TH_UP_TH i ≤ min occ 255 → min occ 255 < s.dev.fld ISLE.GOV_TH_JUMP_TH i →
        (d.isle i).target = (s.dev.isle i).target - 1) ∧
      (s.dev.enabled 0x04 = true → min occ 255 < s.dev.fld ISLE.GOV_TH_UP_TH i → min occ 255 < s.dev.fld ISLE.GOV_TH_JUMP_TH i →
        min occ 255 ≤ s.dev.fld ISLE.GOV_TH_DOWN_TH i → s.dev.fld ISLE.GOV_TIME_DWELL i ≤ (s.dev.isle i).low + 1 →
        (d.isle i).target = min 3 ((s.dev.isle i).target + 1) ∧ (d.isle i).low = 0) ∧
      s.dev.moves d [.isles] [0x04]) ∧
  (∀ (s : State) (i occ : Nat), s.On → s.dev.on TOP.BOOT_STATUS_READY = false ∨ 34 ≤ i ∨
    s.dev.clk.up < (s.dev.isle i).winAt + 640 * s.dev.fld ISLE.GOV_TIME_WINDOW i → Idle (.governorWindow i occ) s) ∧
  (∀ (s : State) (i lvl cause : Nat), s.Awake → (s.dev.isle i).change = some (lvl, cause) →
    Gives (.paceChangeDone i) s fun d => d.fld ISLE.PACE_STAT_CURRENT i = lvl % 4 ∧
      d.num ISLE.PACE_CHANGES i = (s.dev.num ISLE.PACE_CHANGES i + 1) % 2 ^ 32 ∧
      ((s.dev.isle i).held = none → (d.isle i).change = none ∧ d.on ISLE.PACE_STAT_CHANGING i = false) ∧
      (∀ (l c : Nat), (s.dev.isle i).held = some (l, c) → l ≠ lvl → (d.isle i).change = some (l, c) ∧
        d.on ISLE.PACE_STAT_CHANGING i = true) ∧
      s.dev.moves d [.isles, .resetting] [0x04]) ∧
  (∀ (s : State) (level : Nat), s.Opens 0x04 →
    Gives (.pin level) s fun d =>
      (∀ i, i < 34 → d.on ISLE.PACE_CFG_PIN_EN i = true ∧ d.fld ISLE.PACE_CFG_PIN_LEVEL i = level % 4) ∧
      (∀ i, i < 34 → s.dev.on TOP.BOOT_STATUS_READY = true → s.dev.sup.cap = false → level % 4 ≤ s.dev.floor i →
        level % 4 ≤ s.dev.fld ISLE.PACE_CFG_MIN_PACE i → d.fld ISLE.PACE_STAT_TARGET i = level % 4) ∧
      s.dev.moves d [.isles] [0x04]) ∧
  (∀ s : State, s.Opens 0x04 →
    Gives .unpin s fun d => (∀ i, i < 34 → d.on ISLE.PACE_CFG_PIN_EN i = false ∧
      d.fld ISLE.PACE_CFG_PIN_LEVEL i = s.dev.fld ISLE.PACE_CFG_PIN_LEVEL i) ∧ s.dev.moves d [.isles] [0x04])

/-- Device time (R109 to R115): what a read latches, what asks for a step, and what a beacon does with the replicas and with a step that
waits. The model's own readings that its commands follow: log entries 3, 4, 5, 7, 35, 56, 75, 76, 99 and 118. -/
def Obligations.TimeReadsAndSteps : Prop :=
  (∀ (s : State) (path : Nat), s.Opens 0x05 →
    Gives (.nowNsRead path) s fun d => d.out = .words path [BitVec.ofNat 32 s.dev.clk.ns] :: s.dev.out ∧
      (d.regP TIME.NOW_SEC_LO path 0).toNat = s.dev.clk.sec.toNat % 2 ^ 32 ∧
      (d.regP TIME.NOW_SEC_HI path 0).toNat = s.dev.clk.sec.toNat / 2 ^ 32 ∧
      (d.regP TIME.NOW_FRAC path 0).toNat = s.dev.clk.frac % 2 ^ 32 ∧ s.dev.keeps d [.regs, .out] ∧ s.dev.keepsPages d [0x05]) ∧
  (∀ (s : State) (path : Nat), s.Opens 0x05 →
    Gives (.stepAdd path) s fun d => s.dev.keeps d [.time] ∧ d.time = { s.dev.time with
      pending := some (.add (s.dev.on TIME.STEP_NS_NEG) (s.dev.num2 TIME.STEP_SEC_LO TIME.STEP_SEC_HI)
        (s.dev.num TIME.STEP_NS % 2 ^ 30) path) }) ∧
  (∀ (s : State) (path : Nat), s.Opens 0x05 →
    Gives (.stepSet path) s fun d => s.dev.keeps d [.time] ∧ d.time = { s.dev.time with
      pending := some (.set (s.dev.num2 TIME.STEP_SEC_LO TIME.STEP_SEC_HI) (s.dev.num TIME.STEP_NS % 2 ^ 30)) }) ∧
  (∀ (s : State) (i t : Nat) (dv : Int), s.On → s.dev.time.pending = none → s.dev.time.halted.get none i = some t →
    Idle (.tetherBeacon [(i, dv)]) s) ∧
  (∀ (s : State) (i : Nat) (dv : Int), s.On → s.dev.time.pending = none → i < 34 → s.dev.time.halted.get none i = none →
    Gives (.tetherBeacon [(i, dv)]) s fun d => d.clk = s.dev.clk ∧ d.time.dev.get 0 i = dv ∧ d.time.devAt.get 0 i = s.dev.clk.up ∧
      s.dev.islandNs i ≤ d.islandNs i ∧
      (20 < dv.natAbs → d.num TIME.TETHER_SLIPS = (s.dev.num TIME.TETHER_SLIPS + 1) % 2 ^ 32 ∧
        d.num TIME.TETHER_LAST = i % 256 + min 255 dv.natAbs * 256 ∧ d.raised TIME.int_TETHER_SLIP = true) ∧
      (dv.natAbs ≤ 20 → s.dev.keeps d [.time]) ∧ s.dev.moves d [.time] [0x05]) ∧
  (∀ (s : State) (sec ns : Nat), s.On → s.dev.time.pending = some (.set sec ns) → s.dev.noInstant → sec < 2 ^ 64 → ns < 1000000000 →
    Gives (.tetherBeacon []) s fun d => d.clk = { s.dev.clk with sec := BitVec.ofNat 64 sec, ns := ns, frac := 0, rem := 0 } ∧
      d.time = { s.dev.time with pending := none, low := [] } ∧ d.num TIME.GEN = (s.dev.num TIME.GEN + 1) % 65536 ∧
      d.on TIME.SYNC_STAT_TRACEABLE = true ∧ d.raised TIME.int_STEPPED = true ∧ s.dev.moves d [.clk, .time, .sw] [0x05, 0x4B]) ∧
  (∀ (s : State) (c : CommitSt) (sec ns : Nat), s.On → s.dev.time.pending = some (.set sec ns) → sec < 2 ^ 64 → ns < 1000000000 →
    s.dev.commit = some c → c.applied = false → c.switched = [] → (∀ i, i < 34 → s.dev.islandNs i < c.tc) →
    c.tc ≤ sec * 1000000000 + ns → s.dev.time.halted = [] → s.dev.time.dev = [] → s.dev.obs.snap = none →
    (∀ n, n < 34 → (s.dev.gate n).pending = none) → s.dev.on PWRM.SLEEP_CFG_TIMER_WAKE_EN = false →
    Gives (.tetherBeacon []) s fun d => d.cgen = s.dev.cgen + 1 ∧ ∃ e, d.commit = some e ∧ e.applied = true ∧ e.tc = c.tc) ∧
  (∀ (s : State) (sec ns path : Nat), s.On → s.dev.time.pending = some (.add false sec ns path) → s.dev.noInstant → s.dev.clk.ok → ns < 1000000000 →
    s.dev.clk.sec.toNat + sec + 1 < 2 ^ 64 →
    Gives (.tetherBeacon []) s fun d => d.clk.fine = s.dev.clk.fine + ((sec * 1000000000 + ns : Nat) : Int) * 2 ^ 24 ∧
      d.clk.up = s.dev.clk.up ∧ d.time.pending = none ∧ d.num TIME.GEN = (s.dev.num TIME.GEN + 1) % 65536 ∧
      d.on TIME.SYNC_STAT_TRACEABLE = s.dev.on TIME.SYNC_STAT_TRACEABLE ∧ d.raised TIME.int_STEPPED = true) ∧
  (∀ (s : State) (sec ns path : Nat), s.On → s.dev.time.pending = some (.add true sec ns path) → path < 2 →
    s.dev.clk.fine < ((sec * 1000000000 + ns : Nat) : Int) * 2 ^ 24 →
    Gives (.tetherBeacon []) s fun d => d.clk = s.dev.clk ∧ d.time.pending = none ∧ d.num TIME.GEN = s.dev.num TIME.GEN ∧
      (s.dev.fld (ERR_INFO_CAUSE 0x05) = 0 → d.num (ERR_INFO 0x05) = 0x424 + 1 * 4096 + path * 65536) ∧
      s.dev.moves d [.time] [0x05])

/-- The servo and its inputs (R29, R108, R119 to R122, R129): the reference, pulses in and out, offset samples, the servo's states, and the
queues of transmit stamps. The model's own readings that its commands follow: log entries 3, 4, 5, 56 and 118. -/
def Obligations.ServoAndItsInputs : Prop :=
  (∀ s : State, s.On → s.dev.time.refEver = true →
    Gives .ref10mLost s fun d => d.time.refGood = false ∧ d.on TIME.SYNC_STAT_REF10M_OK = false ∧ d.raised TIME.int_REF10M_LOST = true ∧
      (s.dev.time.refUsed = true → d.on TIME.SYNC_STAT_HOLDOVER_REF = true) ∧ s.dev.moves d [.time] [0x05]) ∧
  (∀ s : State, s.On → s.dev.time.refEver = false → Idle .ref10mLost s) ∧
  (∀ s : State, s.On →
    Gives .ref10mReturn s fun d => d.time.refGood = true ∧ d.time.refEver = true ∧ d.on TIME.SYNC_STAT_REF10M_OK = true ∧
      d.time.refUsed = s.dev.on TIME.SERVO_CFG_REF10M_EN ∧ d.on TIME.SYNC_STAT_HOLDOVER_REF = false ∧
      s.dev.moves d [.time] [0x05]) ∧
  (∀ s : State, s.On → s.dev.asleep = false → (∀ t, s.dev.time.lastPps = some t → 9000000000 ≤ s.dev.clk.up - t) →
    s.dev.on TIME.SERVO_CFG_SRC = false →
    Gives .ppsInEdge s fun d => d.time = { s.dev.time with lastPps := some s.dev.clk.up } ∧ d.on TIME.SYNC_STAT_PPS_OK = true ∧
      d.num2 TIME.PPS_IN_STAMP_LO TIME.PPS_IN_STAMP_HI = (s.dev.stamp 31).toNat ∧ s.dev.moves d [.time] [0x05]) ∧
  (∀ (s : State) (t : Nat), s.On → s.dev.asleep = false → s.dev.time.lastPps = some t → s.dev.clk.up - t < 9000000000 →
    Gives .ppsInEdge s fun d => d.num TIME.PPS_IN_EXTRA = (s.dev.num TIME.PPS_IN_EXTRA + 1) % 2 ^ 32 ∧
      d.raised TIME.int_PPS_EXTRA = true ∧ s.dev.moves d [] [0x05]) ∧
  (∀ s : State, s.On → s.dev.asleep = true → Idle .ppsInEdge s) ∧
  (∀ (s : State) (t : Nat), s.On → s.dev.time.lastPps = some t → 15000000000 ≤ s.dev.clk.up - t →
    Gives .ppsInAbsent s fun d => d.on TIME.SYNC_STAT_PPS_OK = false ∧ s.dev.moves d [] [0x05]) ∧
  (∀ (s : State) (w : Word), s.Opens 0x05 → s.dev.on TIME.SERVO_CFG_SRC = false → s.dev.on TIME.SERVO_CFG_SERVO_EN = true →
    s.dev.enabled 0x05 = true → s.dev.asleep = false → s.dev.servoBelow (w.toInt * 10) = false →
    Gives (.offsetIn w) s fun d => d.reg TIME.OFFSET_LAST = w ∧ d.time.lastValid = s.dev.clk.up ∧
      (s.dev.fld TIME.SYNC_STAT_STATE = 1 → s.dev.time.stepped = true → w.toInt.natAbs ≤ s.dev.num TIME.STEP_TH →
        w.toInt.natAbs ≤ s.dev.fld TIME.LOCK_CFG_LOCK_TH → s.dev.fld TIME.LOCK_CFG_LOCK_COUNT ≤ s.dev.time.within + 1 →
        d.fld TIME.SYNC_STAT_STATE = 2 ∧ d.raised TIME.int_LOCKED = true) ∧
      s.dev.moves d [.time] [0x05]) ∧
  (∀ (s : State) (w : Word), s.Opens 0x05 → s.dev.on TIME.SERVO_CFG_SRC = false → s.dev.on TIME.SERVO_CFG_SERVO_EN = true →
    s.dev.enabled 0x05 = true → s.dev.asleep = false → s.dev.servoBelow (w.toInt * 10) = true →
    Gives (.offsetIn w) s fun d => d.raised TIME.int_OFFSET_LARGE = true ∧ s.dev.reportsOnly d) ∧
  (∀ (s : State) (w : Word), s.Opens 0x05 → s.dev.on TIME.SERVO_CFG_SRC = true ∨ s.dev.on TIME.SERVO_CFG_SERVO_EN = false ∨
    s.dev.enabled 0x05 = false → Idle (.offsetIn w) s) ∧
  (∀ s : State, s.Opens 0x05 → s.dev.on TIME.SERVO_CFG_SERVO_EN = false →
    Gives (.servoEnable true) s fun d => d.on TIME.SERVO_CFG_SERVO_EN = true ∧ d.fld TIME.SYNC_STAT_STATE = 1 ∧ d.time.i = 0 ∧
      d.time.y = 0 ∧ d.time.stepped = false ∧ s.dev.moves d [.time] [0x05]) ∧
  (∀ s : State, s.Opens 0x05 → s.dev.on TIME.SERVO_CFG_SERVO_EN = true →
    Gives (.servoEnable false) s fun d => d.on TIME.SERVO_CFG_SERVO_EN = false ∧ d.fld TIME.SYNC_STAT_STATE = 0 ∧ d.time.i = 0 ∧
      d.time.y = 0 ∧ d.on TIME.SYNC_STAT_TRACEABLE = false ∧ s.dev.moves d [.time] [0x05]) ∧
  (∀ s : State, s.On → s.dev.fld TIME.SYNC_STAT_STATE = 1 ∨ s.dev.fld TIME.SYNC_STAT_STATE = 2 → s.dev.asleep = false →
    s.dev.enabled 0x05 = true → s.dev.num TIME.IN_TIMEOUT * 10000000 ≤ s.dev.clk.up - s.dev.time.lastValid →
    Gives .servoHoldover s fun d => d.fld TIME.SYNC_STAT_STATE = 3 ∧ d.time.y = s.dev.time.i ∧ d.time.i = s.dev.time.i ∧
      d.raised TIME.int_HOLDOVER = true ∧ s.dev.moves d [.time] [0x05]) ∧
  (∀ s : State, s.On → s.dev.enabled 0x05 = false → Idle .servoHoldover s) ∧
  (∀ s : State, s.On → s.dev.ppsBoundary ≠ s.dev.time.ppsSec → s.dev.on TIME.PPS_OUT_CFG_EN = true →
    s.dev.on TIME.PPS_OUT_CFG_GATE = false ∨ s.dev.fld TIME.SYNC_STAT_STATE = 2 →
    Gives .ppsOut s fun d => d.out = .pps (s.dev.fld TIME.PPS_OUT_CFG_WIDTH) :: s.dev.out ∧ d.time.ppsSec = s.dev.ppsBoundary ∧
      s.dev.keeps d [.out, .time]) ∧
  (∀ s : State, s.On → s.dev.ppsBoundary = s.dev.time.ppsSec → Idle .ppsOut s) ∧
  (∀ (s : State) (path port tag : Nat) (st : BitVec 64) (r : List (Nat × BitVec 64)), s.Opens 0x12 →
    s.dev.time.txts.get [] port = (tag, st) :: r →
    Gives (.txtsTagRead path port) s fun d => d.out = .words path [BitVec.ofNat 32 (tag + 2 ^ 31)] :: s.dev.out ∧
      d.time.txts.get [] port = r ∧ (d.regP PTPS.TXTS_STAMP_LO path port).toNat = st.toNat % 2 ^ 32 ∧
      (d.regP PTPS.TXTS_STAMP_HI path port).toNat = st.toNat / 2 ^ 32 ∧ s.dev.keeps d [.regs, .out, .time] ∧
      s.dev.keepsPages d [0x12]) ∧
  (∀ (s : State) (path port : Nat), s.Opens 0x12 → s.dev.time.txts.get [] port = [] →
    Gives (.txtsTagRead path port) s fun d => d.out = .words path [0] :: s.dev.out ∧ s.dev.keeps d [.out])

/-- Bring-up of a line port (R132, R141 to R150): what is written to it, negotiation and training and their failures, alignment, and how
its link goes down and comes up. The model's own readings that its commands follow: log entries 3, 4, 5, 7, 49, 51, 61 and 96. -/
def Obligations.LinkBringUp : Prop :=
  (∀ (s : State) (path port : Nat) (w : Word), s.Opens 0x11 → port < 32 → s.dev.lanesOn = true → s.dev.enabled 0x11 = true →
    w.toNat < 256 → w.toNat % 2 = 1 → s.dev.num PORT.PORT_CFG port + 1 = w.toNat → s.dev.mode port ≠ 0 →
    s.dev.portCfgOk port w.toNat = true → s.dev.portState port = 0 →
    Gives (.portCfgWrite path port w) s fun d => d.reg PORT.PORT_CFG port = w ∧
      d.portState port = (if s.dev.on PORT.PORT_CFG_AN_EN port then 2 else 1) ∧ s.dev.moves d [] [0x11, 0x12]) ∧
  (∀ (s : State) (path port : Nat) (w : Word), s.Opens 0x11 → port < 32 → path < 2 → bitsOf w.toNat 1 4 ≤ 10 →
    s.dev.portCfgOk port (w.toNat % 256) = false →
    Gives (.portCfgWrite path port w) s fun d => d.num PORT.PORT_CFG port = s.dev.num PORT.PORT_CFG port ∧
      (s.dev.fld (ERR_INFO_CAUSE 0x11) = 0 → d.num (ERR_INFO 0x11) = 0x040 + 1 * 4096 + path * 65536) ∧ s.dev.onlyRegs d) ∧
  (∀ (s : State) (port : Nat), s.Opens 0x11 → port < 32 → s.dev.adminUp port = true → s.dev.on PORT.PORT_CFG_AN_EN port = true →
    s.dev.portState port = 2 →
    Gives (.anRestart port) s fun d => d.portState port = 2 ∧ (d.port port).fails = 0 ∧ (d.port port).retry = none ∧
      (d.port port).agreed = false ∧ d.on PORT.AN_STAT_AN_DONE port = false ∧ d.aligned port = false ∧ s.dev.pcsMoves d port) ∧
  (∀ (s : State) (port : Nat), s.Opens 0x11 → port < 32 → s.dev.on PORT.PORT_CFG_ADMIN_UP port = false → Idle (.anRestart port) s) ∧
  (∀ (s : State) (port : Nat), s.Awake → port < 32 → s.dev.portState port = 2 → (s.dev.port port).retry = none →
    Gives (.anDone port) s fun d => (d.port port).agreed = true ∧ d.on PORT.AN_STAT_AN_DONE port = true ∧
      d.on PORT.AN_STAT_NO_COMMON port = false ∧ d.portState port = (if s.dev.on PORT.PORT_CFG_LT_EN port then 3 else 1) ∧
      s.dev.moves d [.sw] [0x10, 0x11]) ∧
  (∀ (s : State) (port : Nat), s.Awake → port < 32 → s.dev.portState port = 2 → (s.dev.port port).retry = none →
    (s.dev.port port).fails < 7 → s.dev.adminUp port = true → s.dev.on PORT.PORT_CFG_AN_EN port = true →
    Gives (.anFail port) s fun d => d.on PORT.AN_STAT_NO_COMMON port = true ∧ d.raised PORT.int_AN_FAIL = true ∧
      (d.port port).fails = (s.dev.port port).fails + 1 ∧ d.portState port = 2 ∧ d.aligned port = false ∧ s.dev.pcsMoves d port) ∧
  (∀ (s : State) (port : Nat), s.Awake → port < 32 → s.dev.portState port = 3 → 7 ≤ (s.dev.port port).fails →
    Gives (.ltFail port) s fun d => d.on PORT.AN_STAT_LT_FAIL port = true ∧ d.raised LANE.int_ADAPT_FAIL = true ∧
      (d.port port).fails = (s.dev.port port).fails + 1 ∧ (d.port port).retry =
        some (s.dev.clk.up + min 10000 (100 * 2 ^ min ((s.dev.port port).fails + 1 - 8) 8) * 10000000) ∧
      d.aligned port = false ∧ s.dev.pcsMoves d port) ∧
  (∀ (s : State) (port t : Nat), s.Awake → port < 32 → (s.dev.port port).retry = some t → t ≤ s.dev.clk.up →
    s.dev.adminUp port = true →
    Gives (.anBackoffExpiry port) s fun d => (d.port port).retry = none ∧
      d.portState port = (if s.dev.on PORT.PORT_CFG_AN_EN port then 2 else 1) ∧ d.aligned port = false ∧ s.dev.pcsMoves d port) ∧
  (∀ (s : State) (port t : Nat), s.Awake → (s.dev.port port).retry = some t → s.dev.clk.up < t → Idle (.anBackoffExpiry port) s) ∧
  (∀ (s : State) (port : Nat), s.Awake → port < 32 → s.dev.portState port = 1 → (s.dev.port port).retry = none →
    s.dev.on PORT.PORT_CFG_LT_EN port = true → s.dev.on PORT.PORT_CFG_AN_EN port = false →
    Gives (.sigDet port) s fun d => d.portState port = 3 ∧ (∀ l ∈ s.dev.lanesOf port, d.on LANE.LANE_STAT_SIG_DET l = true ∧
      d.on LANE.LANE_STAT_TRAINING l = true) ∧ s.dev.moves d [] [0x10, 0x11]) ∧
  (∀ (s : State) (port : Nat), s.Awake → port < 32 → s.dev.portState port = 1 → (s.dev.port port).retry = none →
    s.dev.on PORT.PORT_CFG_LT_EN port = false → s.dev.on PORT.PORT_CFG_AN_EN port = false →
    Gives (.upPending port) s fun d => d.portState port = 4 ∧ d.on PORT.PORT_STAT_ALIGNED port = true ∧
      (d.port port).pendAt = s.dev.clk.up ∧ s.dev.moves d [.isles, .sw] [0x04, 0x10, 0x11]) ∧
  (∀ (s : State) (port : Nat), s.Awake → port < 32 → s.dev.on PORT.FLAP_PENALTY_SUPPRESSED port = true →
    s.dev.penalty port < s.dev.fld PORT.FLAP_CFG_REUSE port * 50 * 65536 →
    Gives (.flapReuse port) s fun d => d.on PORT.FLAP_PENALTY_SUPPRESSED port = false ∧
      (s.dev.portState port = 6 → d.portState port = 4 ∧ (d.port port).pendAt = s.dev.clk.up) ∧ s.dev.moves d [.sw] [0x11]) ∧
  (∀ (s : State) (port : Nat), s.Awake → s.dev.fld PORT.FLAP_CFG_REUSE port * 50 * 65536 ≤ s.dev.penalty port → Idle (.flapReuse port) s) ∧
  (∀ (s : State) (lane : Nat), s.Awake → lane < 36 →
    Gives (.cdrLockLost lane) s fun d => d.on LANE.LANE_STAT_CDR_LOCK lane = false ∧
      d.num LANE.LOCK_LOSSES lane = min 0xFFFFFFFF (s.dev.num LANE.LOCK_LOSSES lane + 1) ∧
      d.sw.cdrAt.get 0 lane = s.dev.clk.up + 1 ∧ d.raised LANE.int_CDR_LOCK_LOST = true ∧ s.dev.moves d [.sw] [0x10]) ∧
  (∀ (s : State) (port conds : Nat) (lanes : List Nat), s.On → port < 32 → s.dev.enabled 0x58 = false → s.dev.tState = 0 →
    s.dev.portState port = 4 → s.dev.rx port = none → lowestCause conds ≠ 0 → s.dev.adminUp port = true →
    s.dev.debounced port conds lanes = true →
    Gives (.linkDown port conds lanes) s fun d => d.portState port = (if s.dev.on PORT.PORT_CFG_AN_EN port then 2 else 1) ∧
      d.on PORT.PORT_STAT_ALIGNED port = s.dev.pcsHolds port conds 4 ∧
      (bitOf conds 1 = true → ∀ l ∈ lanes, l < 36 → d.on LANE.LANE_STAT_SIG_DET l = false)) ∧
  (∀ (s : State) (port conds : Nat) (lanes : List Nat), s.On → port < 32 → s.dev.enabled 0x58 = false → s.dev.tState = 0 →
    s.dev.portState port = 1 ∨ s.dev.portState port = 3 → lowestCause conds ≠ 0 →
    Gives (.linkDown port conds lanes) s fun d => d.portState port = s.dev.portState port ∧
      d.on PORT.PORT_STAT_ALIGNED port = s.dev.pcsHolds port conds (s.dev.portState port)) ∧
  (∀ (s : State) (port conds : Nat) (lanes : List Nat), s.On → port < 32 → s.dev.enabled 0x58 = false → s.dev.tState = 0 →
    s.dev.portState 33 ≠ 5 → s.dev.on TNDM.STATE_LINK_UP = false → 4 ≤ s.dev.portState port →
    s.dev.clk.up < (s.dev.port port).pendAt + s.dev.downDeb port →
    Gives (.linkDown port conds lanes) s fun d => d.portState port = s.dev.portState port ∧ s.dev.reportsOnly d) ∧
  (∀ (s : State) (port : Nat), s.Awake → port < 32 → s.dev.enabled 0x58 = false → s.dev.tState = 0 → s.dev.portState port = 4 →
    (s.dev.port port).pendAt + s.dev.upHold port * 10000000 ≤ s.dev.clk.up → s.dev.on PORT.FLAP_PENALTY_SUPPRESSED port = true →
    Gives (.linkUp port) s fun d => d.portState port = 6 ∧ s.dev.moves d [] [0x11, 0x58]) ∧
  (∀ (s : State) (port : Nat), s.Awake → port < 32 → s.dev.enabled 0x58 = false → s.dev.tState = 0 → s.dev.portState port = 4 →
    (s.dev.port port).pendAt + s.dev.upHold port * 10000000 ≤ s.dev.clk.up → s.dev.on PORT.FLAP_PENALTY_SUPPRESSED port = false →
    s.dev.holdAt port none = none → (∀ q, q < 8 → s.dev.inEpisode port q = false) →
    Gives (.linkUp port) s fun d => d.portState port = 5 ∧ (d.port port).fails = 0 ∧ d.raised PORT.int_LINK_UP = true ∧
      d.num2 PORT.UP_STAMP_LO PORT.UP_STAMP_HI port = (s.dev.stamp (islandOfPort port)).toNat ∧ s.dev.moves d [.sw] [0x11, 0x58])

/-- Frames and pause at a port (R135 to R140, R331, R336): the first and the last bytes of a frame, PAUSE received, refreshed and expired,
and the storm watchdog. The model's own readings that its commands follow: log entries 3, 4, 5, 40, 50, 52, 54, 55 and 112. -/
def Obligations.FramesAndPause : Prop :=
  (∀ (s : State) (port : Nat) (bs : List Byte) (pick : List Nat), s.Awake → port < 32 → s.dev.aligned port = true → s.dev.rx port = none →
    s.dev.portState port = 5 → isControl bs = false → s.dev.spore.stopped = false →
    s.dev.inEpisode port (s.dev.acctPri port (s.dev.tagPri port bs)) = false →
    Gives (.frameStart port bs pick) s fun d => ∃ x, d.rx port = some x ∧ x.bytes = bs ∧ x.reason = none ∧
      x.pri = s.dev.acctPri port (s.dev.tagPri port bs) ∧ x.maxFrame = s.dev.fld PORT.MAC_CFG_MAX_FRAME port ∧
      x.mac = s.dev.macSet port) ∧
  (∀ (s : State) (port : Nat) (bs : List Byte) (pick : List Nat), s.Awake → port < 32 → s.dev.aligned port = true → s.dev.rx port = none →
    s.dev.portState port ≠ 5 ∨ isControl bs = true →
    Gives (.frameStart port bs pick) s fun d => (∃ x, d.rx port = some x ∧ x.bytes = bs ∧ x.reason = some 0 ∧ x.desc = none) ∧
      s.dev.keeps d [.sw]) ∧
  (∀ (s : State) (port : Nat) (bs : List Byte) (pick : List Nat), s.On → s.dev.aligned port = false →
    Idle (.frameStart port bs pick) s) ∧
  (∀ (s : State) (port k : Nat) (x : Rx) (f : Frame) (pick : List Nat), s.Awake → port < 32 → s.dev.rx port = some x → x.reason = none →
    x.dead = false → x.desc = some k → s.dev.frame k = some f → min x.bytes.length x.maxFrame ≤ x.room →
    macVerdict x.bytes x.maxFrame false = none → beAt x.bytes 12 2 ≠ 0x8808 →
    Gives (.frameAdmit port [] false pick) s fun d => d.rx port = none ∧
      d.sw.heads.get [] (port / 8 % 4) = s.dev.sw.heads.get [] (port / 8 % 4) ++ [k] ∧
      (∃ g, d.frame k = some g ∧ g.bytes = x.bytes.take (x.bytes.length - 4) ∧ g.ingress = f.ingress ∧ g.charge = x.units)) ∧
  (∀ (s : State) (port : Nat) (bs : List Byte) (pcs : Bool) (pick : List Nat), s.On → s.dev.rx port = none →
    Idle (.frameAdmit port bs pcs pick) s) ∧
  (∀ (s : State) (port : Nat) (bs : List Byte) (pick : List Nat), s.Awake → port < 32 → s.dev.aligned port = true → s.dev.rx port = none →
    macVerdict bs (s.dev.maxFrame port) false = none → beAt bs 12 2 = 0x8808 → beAt bs 14 2 = 1 → bs.take 6 = pauseDa →
    s.dev.fcMode port = 1 → beAt bs 16 2 ≠ 0 → bitOf (s.dev.fld PORT.PORT_STAT_STORM port) 0 = false →
    Gives (.macControlFrame port bs pick) s fun d => d.xoffRx port = 0xFF ∧
      (d.pri port 0).pauseEnd = s.dev.clk.up + beAt bs 16 2 * 5120 / max 1 (s.dev.rate port) ∧ s.dev.moves d [.sw] [0x11]) ∧
  (∀ (s : State) (port : Nat) (bs : List Byte) (pick : List Nat), s.Awake → port < 32 → s.dev.aligned port = true → s.dev.rx port = none →
    macVerdict bs (s.dev.maxFrame port) false = none → beAt bs 12 2 = 0x8808 → beAt bs 14 2 = 1 → bs.take 6 = pauseDa →
    s.dev.fcMode port = 1 → beAt bs 16 2 = 0 →
    Gives (.macControlFrame port bs pick) s fun d => d.xoffRx port = 0 ∧ (d.pri port 0).pauseEnd = 0 ∧ s.dev.moves d [.sw] [0x11]) ∧
  (∀ (s : State) (port pri : Nat), s.Awake → port < 32 → pri < 8 → (s.dev.pri port pri).pauseEnd ≤ s.dev.clk.up →
    (s.dev.pri port pri).pauseEnd ≠ 0 → s.dev.fcMode port = 2 →
    Gives (.receivedPauseExpiry port pri) s fun d => (d.pri port pri).pauseEnd = 0 ∧ bitOf (d.xoffRx port) pri = false ∧
      s.dev.moves d [.sw] [0x11]) ∧
  (∀ (s : State) (port pri : Nat), s.Awake → s.dev.clk.up < (s.dev.pri port pri).pauseEnd → Idle (.receivedPauseExpiry port pri) s) ∧
  (∀ (s : State) (port pri : Nat), s.Awake → port < 32 → pri < 8 → bitOf (s.dev.xoffTx port) pri = true →
    s.dev.inEpisode port pri = true → s.dev.portState port = 5 →
    (s.dev.pri port pri).xoffAt + s.dev.xoffQuanta port * 2560 / max 1 (s.dev.rate port) ≤ s.dev.clk.up →
    s.dev.sending port = false → s.dev.xoffQuanta port ≠ 0 →
    Gives (.xoffRefresh port pri) s fun d =>
      s.dev.emits d (.frame port (s.dev.pauseFrame (decide (s.dev.fcMode port = 2)) (1 <<< pri) (s.dev.xoffQuanta port)) false) ∧
      (d.pri port pri).xoffAt = s.dev.clk.up ∧ s.dev.moves d [.sw] [0x11]) ∧
  (∀ (s : State) (port pri : Nat), s.Awake → port < 32 → pri < 8 → bitOf (s.dev.xoffTx port) pri = true →
    s.dev.inEpisode port pri = true → s.dev.portState port = 5 →
    (s.dev.pri port pri).xoffAt + s.dev.xoffQuanta port * 2560 / max 1 (s.dev.rate port) ≤ s.dev.clk.up →
    s.dev.sending port = true →
    Gives (.xoffRefresh port pri) s fun d => d.out = s.dev.out ∧ d.sw.pauses.get [] port = s.dev.sw.pauses.get [] port ++
      [(decide (s.dev.fcMode port = 2), 1 <<< pri, s.dev.xoffQuanta port)] ∧ s.dev.moves d [.sw] [0x11]) ∧
  (∀ (s : State) (port pri : Nat), s.Awake → s.dev.inEpisode port pri = false → Idle (.xoffRefresh port pri) s) ∧
  (∀ (s : State) (port pri : Nat), s.Awake → port < 32 → pri < 8 → s.dev.on PORT.STORM_CFG_STORM_EN port = true →
    s.dev.portState port = 5 → bitOf (s.dev.fld PORT.PORT_STAT_STORM port) pri = false → s.dev.clk.up < (s.dev.pri port pri).pauseEnd →
    (s.dev.pri port pri).pauseFrom + s.dev.fld PORT.STORM_CFG_DETECT port * 10000000 ≤ s.dev.clk.up →
    s.dev.queuedSince port pri (s.dev.clk.up - s.dev.fld PORT.STORM_CFG_DETECT port * 10000000) = true → s.dev.on PORT.STORM_CFG_ACTION port = false →
    Gives (.pfcStorm port pri) s fun d => bitOf (d.fld PORT.PORT_STAT_STORM port) pri = true ∧
      d.num PORT.STORMS port = (s.dev.num PORT.STORMS port + 1) % 2 ^ 32 ∧ d.raised PORT.int_STORM = true ∧
      (s.dev.fcMode port = 2 → bitOf (d.xoffRx port) pri = false) ∧ s.dev.moves d [] [0x11]) ∧
  (∀ (s : State) (port pri : Nat), s.Awake → bitOf (s.dev.fld PORT.PORT_STAT_STORM port) pri = true → Idle (.pfcStorm port pri) s) ∧
  (∀ (s : State) (port pri : Nat), s.Awake → port < 32 → pri < 8 → bitOf (s.dev.fld PORT.PORT_STAT_STORM port) pri = true →
    (s.dev.pri port pri).pauseLast + s.dev.fld PORT.STORM_CFG_RESTORE port * 10000000 ≤ s.dev.clk.up →
    s.dev.holdAt port (some pri) = none →
    Gives (.pfcStormEnd port pri) s fun d => bitOf (d.fld PORT.PORT_STAT_STORM port) pri = false ∧
      bitOf (d.port port).stormDown pri = false ∧ s.dev.moves d [.sw] [0x11]) ∧
  (∀ (s : State) (port pri : Nat), s.Awake → bitOf (s.dev.fld PORT.PORT_STAT_STORM port) pri = false → Idle (.pfcStormEnd port pri) s)

/-- Heads in a pipeline and fragments (R151 to R157, R162 to R166, R168, R197): what the parser punts or discards, what the fragment stage
holds, what ends a wait or an entry, and what an edit list leaves. The model's own readings that its commands follow: log entries 3, 4, 5,
53, 54, 71, 99 and 112. -/
def Obligations.HeadsAndFragments : Prop :=
  (∀ (s : State) (pipe k : Nat) (r : List Nat) (f : Frame) (ovf : Bool), s.Awake → pipe < 4 → s.dev.pipeHeld pipe = false →
    s.dev.releasedOf pipe = [] → s.dev.sw.heads.get [] pipe = k :: r → s.dev.frame k = some f →
    s.dev.parseAct (s.dev.genAt pipe) (s.dev.parse pipe f.bytes) = 1 →
    Gives (.headParse pipe ovf []) s fun d => d.sw.heads.get [] pipe = r ∧
      (∃ g, d.frame k = some g ∧ g.dest = 2 ^ 32 ∧ g.code = 1 ∧ g.stage = .ready ∧ g.gen = s.dev.genAt pipe ∧ g.bytes = f.bytes ∧
        g.epoch = s.dev.epochAt pipe) ∧ s.dev.moves d [.sw] [0x20, 0x60]) ∧
  (∀ (s : State) (pipe k : Nat) (r : List Nat) (f : Frame) (ovf : Bool), s.Awake → pipe < 4 → s.dev.pipeHeld pipe = false →
    s.dev.releasedOf pipe = [] → s.dev.sw.heads.get [] pipe = k :: r → s.dev.frame k = some f →
    s.dev.parseAct (s.dev.genAt pipe) (s.dev.parse pipe f.bytes) = 2 →
    Gives (.headParse pipe ovf []) s fun d => d.sw.heads.get [] pipe = r ∧ d.frame k = none ∧
      s.dev.moves d [.sw] [0x11, 0x20, 0x40, 0x41, 0x50, 0x58, 0x60, 0x70]) ∧
  (∀ (s : State) (c : CommitSt) (pipe : Nat), s.dev.commit = some c → c.applied = false → c.switched = [] → c.pipes = false →
    s.dev.genAt pipe = (if c.tc ≤ s.dev.islandNs (9 + pipe) then s.dev.cgen + 1 else s.dev.cgen) ∧
    s.dev.epochAt pipe = (if c.tc ≤ s.dev.islandNs (9 + pipe) then nextEpoch (s.dev.num (COMMIT 0) % 65536)
      else s.dev.num (COMMIT 0) % 65536)) ∧
  (∀ (s : State) (pipe : Nat) (ovf : Bool) (reads : List TableWord), s.Awake → pipe < 4 → s.dev.pipeHeld pipe = true →
    Idle (.headParse pipe ovf reads) s) ∧
  (∀ (s : State) (pipe : Nat) (ovf : Bool) (reads : List TableWord), s.Awake → pipe < 4 → s.dev.sw.heads.get [] pipe = [] →
    Idle (.headParse pipe ovf reads) s) ∧
  (∀ (s : State) (pipe k : Nat) (r : List Nat) (f : Frame) (ovf : Bool), s.Awake → pipe < 4 → s.dev.releasedOf pipe = k :: r →
    s.dev.frame k = some f → bitsOf f.ctx.summary 17 2 = 2 → bitsOf (s.dev.numAt f.gen FRAG.FRAG_CFG) 12 4 ≤ f.ctx.fragOff →
    s.dev.fragFind f.gen pipe f.ctx.fragKey = none → s.dev.enabled 0x21 = true → (s.dev.waitsOf pipe).length < 1024 →
    Gives (.fragmentReentry pipe ovf []) s fun d => d.releasedOf pipe = r ∧ d.waitsOf pipe = s.dev.waitsOf pipe ++ [k] ∧
      d.frame k = some { f with stage := .waiting s.dev.clk.up } ∧ s.dev.moves d [.sw, .look] [0x21]) ∧
  (∀ (s : State) (pipe : Nat) (ovf : Bool) (reads : List TableWord), s.Awake → pipe < 4 → s.dev.releasedOf pipe = [] →
    Idle (.fragmentReentry pipe ovf reads) s) ∧
  (∀ (s : State) (pipe k t : Nat) (r : List Nat) (f : Frame), s.Awake → pipe < 4 → s.dev.waitsOf pipe = k :: r → s.dev.frame k = some f →
    f.stage = .waiting t → t + bitsOf (s.dev.numAt f.gen FRAG.FRAG_CFG) 0 10 * 10000 ≤ s.dev.clk.up →
    Gives (.waitTimeout pipe) s fun d => d.waitsOf pipe = r ∧
      (bitOf (s.dev.numAt f.gen FRAG.FRAG_CFG) 10 = true → ∃ g, d.frame k = some g ∧ g.dest = 2 ^ 32 ∧ g.code = 2 ∧ g.stage = .ready) ∧
      (bitOf (s.dev.numAt f.gen FRAG.FRAG_CFG) 10 = false → d.frame k = none) ∧
      s.dev.moves d [.sw, .look] [0x11, 0x21, 0x40, 0x41, 0x50, 0x58, 0x70]) ∧
  (∀ (s : State) (pipe k t : Nat) (r : List Nat) (f : Frame), s.Awake → pipe < 4 → s.dev.waitsOf pipe = k :: r → s.dev.frame k = some f →
    f.stage = .waiting t → s.dev.clk.up < t + bitsOf (s.dev.numAt f.gen FRAG.FRAG_CFG) 0 10 * 10000 →
    (∀ j ∈ r, ∃ g u, s.dev.frame j = some g ∧ g.stage = .waiting u ∧
      s.dev.clk.up < u + bitsOf (s.dev.numAt g.gen FRAG.FRAG_CFG) 0 10 * 10000) → Idle (.waitTimeout pipe) s) ∧
  (∀ (s : State) (pipe k j t u : Nat) (f g : Frame), s.Awake → pipe < 4 → s.dev.waitsOf pipe = [k, j] → k ≠ j →
    s.dev.frame k = some f → f.stage = .waiting t → s.dev.clk.up < t + bitsOf (s.dev.numAt f.gen FRAG.FRAG_CFG) 0 10 * 10000 →
    s.dev.frame j = some g → g.stage = .waiting u → u + bitsOf (s.dev.numAt g.gen FRAG.FRAG_CFG) 0 10 * 10000 ≤ s.dev.clk.up →
    Gives (.waitTimeout pipe) s fun d => d.waitsOf pipe = [k] ∧ d.frame k = some f ∧
      s.dev.moves d [.sw, .look] [0x11, 0x21, 0x40, 0x41, 0x50, 0x58, 0x70]) ∧
  (∀ (s : State) (pipe entry : Nat) (e : FragEntry), s.Awake → pipe < 4 → entry < 8192 →
    s.dev.fragAt (pipe * 8192 + entry) = some e → e.hit + s.dev.fld FRAG.FRAG_AGE_AGE * 10000000 ≤ s.dev.clk.up →
    Gives (.fragmentEntryExpiry pipe entry) s fun d => d.fragAt (pipe * 8192 + entry) = none ∧
      (∀ i, i ≠ pipe * 8192 + entry → d.fragAt i = s.dev.fragAt i) ∧ s.dev.keeps d [.look]) ∧
  (∀ (s : State) (pipe entry : Nat) (e : FragEntry), s.Awake → pipe < 4 → entry < 8192 →
    s.dev.fragAt (pipe * 8192 + entry) = some e → e.ended = none → s.dev.clk.up < e.hit + s.dev.fld FRAG.FRAG_AGE_AGE * 10000000 →
    Idle (.fragmentEntryExpiry pipe entry) s) ∧
  (∀ (s : State) (desc dest code : Nat) (f : Frame), s.Awake → s.dev.frame desc = some f → f.stage = .edit →
    s.dev.verdict f = .go dest none code → s.dev.finalList f = some {} → f.bytes.length ≤ 10236 →
    Gives (.editListApply desc []) s fun d => (∃ g, d.frame desc = some g ∧ g.dest = dest ∧ g.stage = .ready ∧ g.bytes = f.bytes ∧
      g.code = (if code = 0 && bitOf dest 32 then 9 else code)) ∧ s.dev.moves d [.sw] [0x60]) ∧
  (∀ (s : State) (desc reason : Nat) (hop : Bool) (f : Frame), s.Awake → s.dev.frame desc = some f → f.stage = .edit →
    s.dev.verdict f = .drop reason hop →
    Gives (.editListApply desc []) s fun d => d.frame desc = none ∧ s.dev.moves d [.sw] [0x11, 0x28, 0x40, 0x41, 0x50, 0x58, 0x70]) ∧
  (∀ (s : State) (desc : Nat) (reads : List TableWord), s.Awake → s.dev.frame desc = none → Idle (.editListApply desc reads) s)

/-- Requests to the flow table and write-backs of its mergers (R212, R218, R222, R231, R244, R262): what a request does where no frond
runs, where its connection is reserved, where it waits at its merger, and where it misses; what a write-back of an entry, both halves of a
wide place together, leaves in memory and in the merger. The model's own readings that its commands follow: log entries 3, 4, 5, 63, 64,
69, 79, 99 and 123. -/
def Obligations.FlowRequests : Prop :=
  (∀ (s : State) (desc : Nat) (home alt : Option BadWord) (f : Frame), s.Awake → s.dev.frame desc = some f → f.stage = .request →
    s.dev.frondRuns (frondOf (s.dev.homeFor f)) = false →
    Gives (.flowRequest desc home alt) s fun d => (∃ g, d.frame desc = some g ∧ g.stage = .edit ∧ g.bytes = f.bytes ∧
      g.ctx.home = s.dev.homeFor f) ∧ d.flow = { s.dev.flow with arrivals := s.dev.flow.arrivals.filter (· ≠ desc) } ∧
      s.dev.moves d [.sw, .flow] [0x60]) ∧
  (∀ (s : State) (desc : Nat) (home alt : Option BadWord) (f : Frame), s.Awake → s.dev.frame desc = some f → f.stage = .request →
    s.dev.frondRuns (frondOf (s.dev.homeFor f)) = true →
    s.dev.reserved (s.dev.flowConn f).pairKey = true →
    Gives (.flowRequest desc home alt) s fun d => d.flow = { s.dev.flow with
        arrivals := s.dev.flow.arrivals.filter (· ≠ desc), waiting := s.dev.flow.waiting ++ [desc] } ∧
      (∃ g, d.frame desc = some g ∧ g.stage = .flow ∧ g.bytes = f.bytes) ∧ s.dev.moves d [.sw, .flow] [0x30, 0x60]) ∧
  (∀ (s : State) (desc h : Nat) (home alt : Option BadWord) (f : Frame) (b : ReqBlock), s.Awake → s.dev.frame desc = some f →
    f.stage = .request → h = s.dev.homeFor f → s.dev.frondRuns (frondOf h) = true →
    s.dev.reserved (s.dev.flowConn f).pairKey = false →
    (s.dev.reqArrives desc f h).reqBlock desc { f with ctx := { f.ctx with home := h, asked := true } } (home, alt) = some b →
    Gives (.flowRequest desc home alt) s fun d => desc ∈ d.flow.arrivals ∧ d.flow.served = s.dev.flow.served ∧
      d.flow.opened = s.dev.flow.opened ∧ (∃ g, d.frame desc = some g ∧ g.stage = .request ∧ g.bytes = f.bytes) ∧
      (b = .room → d.raised FLOW.int_MERGE_FULL = true) ∧ s.dev.moves d [.sw, .flow] [0x60]) ∧
  (∀ (s : State) (desc h : Nat) (o : OpenSlot) (f : Frame), s.Awake → s.dev.frame desc = some f → f.stage = .request →
    h = s.dev.homeFor f → s.dev.frondRuns (frondOf h) = true →
    s.dev.reserved (s.dev.flowConn f).pairKey = false → s.dev.flow.opened.get none h = some o → slotSpill o.value = false →
    (s.dev.flowConn f).v6 = false → matchDir (s.dev.recordAt false h) (s.dev.flowConn f) = none → s.dev.entryOk f.gen 0 = true →
    (s.dev.reqArrives desc f h).reqBlock desc { f with ctx := { f.ctx with home := h, asked := true } } (none, none) = none →
    Gives (.flowRequest desc none none) s fun d => (∃ g, d.frame desc = some g ∧ g.stage = .flow ∧ g.ctx.home = h ∧
      g.ctx.task.isSome = true) ∧ d.flow.served = s.dev.flow.served + 1) ∧
  (∀ (s : State) (desc : Nat) (home alt : Option BadWord), s.Awake → s.dev.frame desc = none → Idle (.flowRequest desc home alt) s) ∧
  (∀ (s : State) (slot : Nat), s.Awake → slot < 2 ^ 27 → (s.dev.flow.opened.get none slot).isSome = true →
    (∀ x ∈ s.dev.entrySlots slot, s.dev.slotInUse x = false) →
    Gives (.mergerWriteBack slot) s fun d => (∀ x ∈ s.dev.entrySlots slot, d.flow.opened.get none x = none ∧
        ∀ o, s.dev.flow.opened.get none x = some o → d.memSlot s.dev.flow.region x =
          if o.lo || o.hi then o.value else s.dev.memSlot s.dev.flow.region x) ∧
      (∀ x, x ∉ s.dev.entrySlots slot → d.flow.opened.get none x = s.dev.flow.opened.get none x ∧
        (x < 2 ^ 27 → d.memSlot s.dev.flow.region x = s.dev.memSlot s.dev.flow.region x)) ∧
      s.dev.moves d [.draws, .flow, .mem, .tandem] [0x50]) ∧
  (∀ (s : State) (slot : Nat), s.Awake → slot < 2 ^ 27 → (s.dev.flow.opened.get none slot).isSome = true →
    (∃ x ∈ s.dev.entrySlots slot, s.dev.slotInUse x = true) → (∃ x ∈ s.dev.entrySlots slot, s.dev.writeDue x = true) →
    Gives (.mergerWriteBack slot) s fun d => (∀ x ∈ s.dev.entrySlots slot, ∀ o, s.dev.flow.opened.get none x = some o →
        d.flow.opened.get none x = some { o with lo := false, hi := false } ∧ d.memSlot s.dev.flow.region x =
          if o.lo || o.hi then o.value else s.dev.memSlot s.dev.flow.region x) ∧
      (∀ x, x ∉ s.dev.entrySlots slot → d.flow.opened.get none x = s.dev.flow.opened.get none x ∧
        (x < 2 ^ 27 → d.memSlot s.dev.flow.region x = s.dev.memSlot s.dev.flow.region x)) ∧
      s.dev.moves d [.draws, .flow, .mem] [0x50]) ∧
  (∀ (s : State) (slot : Nat), s.Awake → slot < 2 ^ 27 → (∃ x ∈ s.dev.entrySlots slot, s.dev.slotInUse x = true) →
    (∀ x ∈ s.dev.entrySlots slot, s.dev.writeDue x = false) → Idle (.mergerWriteBack slot) s) ∧
  (∀ (s : State) (slot : Nat), s.Awake → slot < 2 ^ 27 → s.dev.flow.opened.get none slot = none → Idle (.mergerWriteBack slot) s)

/-- Learning and the host tables (R173, R177 to R184): learns applied from the stream, the learn cache, move storms, the aging sweep, and
the commands by key. The model's own readings that its commands follow: log entries 3, 4, 5, 57 and 58. -/
def Obligations.LearningAndHostTables : Prop :=
  (∀ (s : State) (pipe i : Nat) (x : Learn) (r : List Learn), s.Awake → pipe < 4 → s.dev.look.learns.get [] pipe = x :: r →
    s.dev.enabled 0x28 = true → s.dev.hostFind pipe 1 x.dom x.mac = none → s.dev.learnStale pipe x = false →
    (hostWays pipe (s.dev.hostBucket 1 x.dom x.mac)).find? s.dev.hostFree = some i →
    Gives (.learnApply pipe) s fun d => d.look.learns.get [] pipe = r ∧
      d.hostAt i = hostEntry 1 x.mac x.dom false false 0 x.port s.dev.upSec ∧ (∀ j, j ≠ i → d.hostAt j = s.dev.hostAt j) ∧
      s.dev.moves d [.look] [0x28]) ∧
  (∀ (s : State) (pipe i : Nat) (x : Learn) (r : List Learn), s.Awake → pipe < 4 → s.dev.look.learns.get [] pipe = x :: r →
    s.dev.hostFind pipe 1 x.dom x.mac = some i → hostStatic (s.dev.hostAt i) = true ∨ hostLock (s.dev.hostAt i) = true →
    Gives (.learnApply pipe) s fun d => d.look.learns.get [] pipe = r ∧ d.look.hosts = s.dev.look.hosts ∧
      d.look.cache = s.dev.look.cache ∧ s.dev.moves d [.look] [0x28]) ∧
  (∀ (s : State) (pipe : Nat), s.Awake → pipe < 4 → s.dev.look.learns.get [] pipe = [] → Idle (.learnApply pipe) s) ∧
  (∀ (s : State) (pipe : Nat) (x : Learn) (r : List Learn), s.Awake → pipe < 4 → s.dev.look.learns.get [] pipe = x :: r →
    s.dev.enabled 0x28 = false →
    Gives (.learnApply pipe) s fun d => d.look.learns.get [] pipe = r ∧ d.look.hosts = s.dev.look.hosts ∧
      d.look.cache = s.dev.look.cache ∧ s.dev.keeps d [.look]) ∧
  (∀ (s : State) (pipe : Nat), s.Awake → pipe < 4 →
    Gives (.learnCacheExpiry pipe) s fun d => (∀ x, x ∈ d.cacheOf pipe ↔ x ∈ s.dev.cacheOf pipe ∧
      s.dev.islandNs (islandOfPipe pipe) < x.stamp + s.dev.fld FWDT.LEARN_CFG_LEARN_WIN * 1000) ∧ s.dev.keeps d [.look]) ∧
  (∀ (s : State) (pipe : Nat), s.Awake → pipe < 4 → bitOf (s.dev.fld FWDT.HT_STAT_STORM) pipe = false →
    s.dev.stormOver pipe = true → s.dev.fld FWDT.STORM_CFG_STORM_MAX < s.dev.look.moves.get 0 pipe →
    Gives (.moveStormWindow pipe) s fun d => d.look.moves.get 0 pipe = 0 ∧ bitOf (d.fld FWDT.HT_STAT_STORM) pipe = true ∧
      d.raised FWDT.int_MOVE_STORM = true ∧ s.dev.moves d [.look] [0x28]) ∧
  (∀ (s : State) (pipe : Nat), s.Awake → pipe < 4 → bitOf (s.dev.fld FWDT.HT_STAT_STORM) pipe = true →
    s.dev.stormOver pipe = true → s.dev.look.moves.get 0 pipe ≤ s.dev.fld FWDT.STORM_CFG_STORM_MAX / 2 →
    Gives (.moveStormWindow pipe) s fun d => d.look.moves.get 0 pipe = 0 ∧ bitOf (d.fld FWDT.HT_STAT_STORM) pipe = false ∧
      d.look.stormAt.get 0 pipe = s.dev.clk.up ∧ s.dev.moves d [.look] [0x28]) ∧
  (∀ (s : State) (pipe : Nat), s.Awake → pipe < 4 →
    s.dev.clk.up < s.dev.look.stormAt.get 0 pipe + s.dev.fld FWDT.STORM_CFG_STORM_WIN * 10000000 → Idle (.moveStormWindow pipe) s) ∧
  (∀ (s : State) (pipe index : Nat), s.Awake → pipe < 4 → index < 262144 → hostType (s.dev.hostAt (pipe * 262144 + index)) = 1 →
    hostStatic (s.dev.hostAt (pipe * 262144 + index)) = false → hostLock (s.dev.hostAt (pipe * 262144 + index)) = false →
    s.dev.fld FWDT.LEARN_CFG_AGE_TIME ≤ (s.dev.upSec + 4096 - hostAge (s.dev.hostAt (pipe * 262144 + index))) % 4096 →
    Gives (.hostTableSweep pipe index) s fun d => d.hostAt (pipe * 262144 + index) = 0 ∧
      (∀ j, j ≠ pipe * 262144 + index → d.hostAt j = s.dev.hostAt j) ∧
      d.num (FWDT.CNT.ix2 pipe 3) = (s.dev.num (FWDT.CNT.ix2 pipe 3) + 1) % 2 ^ 32 ∧ s.dev.moves d [.look] [0x28]) ∧
  (∀ (s : State) (pipe index : Nat), s.Awake → pipe < 4 → index < 262144 → (∀ x ∈ s.dev.look.longSweep, x.1 ≠ pipe) →
    hostType (s.dev.hostAt (pipe * 262144 + index)) ≠ 1 ∨ hostStatic (s.dev.hostAt (pipe * 262144 + index)) = true ∨
      hostLock (s.dev.hostAt (pipe * 262144 + index)) = true →
    Idle (.hostTableSweep pipe index) s) ∧
  (∀ (s : State) (i : Nat), s.Opens 0x28 → s.dev.on FWDT.CMD_STAT_BUSY = false → s.dev.fld FWDT.CMD_ENTRY_TYPE = 1 →
    s.dev.hostFind 0 1 (s.dev.fld FWDT.CMD_ENTRY_DOMAIN) (keyOf 1 s.dev.cmdKey) = some i →
    Gives (.hostFind 1) s fun d => d.num FWDT.CMD_STAT = 16 + i % 262144 * 256 ∧ d.raised FWDT.int_CMD_DONE = true ∧
      d.look = s.dev.look ∧ s.dev.moves d [] [0x28]) ∧
  (∀ s : State, s.Opens 0x28 → s.dev.on FWDT.CMD_STAT_BUSY = false → s.dev.fld FWDT.CMD_ENTRY_TYPE = 1 →
    s.dev.hostFind 0 1 (s.dev.fld FWDT.CMD_ENTRY_DOMAIN) (keyOf 1 s.dev.cmdKey) = none →
    Gives (.hostFind 1) s fun d => d.num FWDT.CMD_STAT = 2 ∧ d.raised FWDT.int_CMD_DONE = true ∧ d.look = s.dev.look) ∧
  (∀ (s : State) (i key dom : Nat), s.Opens 0x28 → s.dev.on FWDT.CMD_STAT_BUSY = false → s.dev.fld FWDT.CMD_ENTRY_TYPE = 1 →
    dom = s.dev.fld FWDT.CMD_ENTRY_DOMAIN → key = keyOf 1 s.dev.cmdKey → s.dev.fld FWDT.CMD_ENTRY_ACT ≠ 3 →
    s.dev.fld FWDT.CMD_RESULT_RESULT ≤ 33 → s.dev.hostFind 0 1 dom key = none →
    (hostWays 0 (s.dev.hostBucket 1 dom key)).find? s.dev.hostFree = some i →
    Gives (.hostInsert 1) s fun d => d.num FWDT.CMD_STAT = 16 + i % 262144 * 256 ∧
      d.hostAt i = hostEntry 1 key dom (s.dev.on FWDT.CMD_ENTRY_STATIC) (s.dev.on FWDT.CMD_ENTRY_LOCK) (s.dev.fld FWDT.CMD_ENTRY_ACT)
        (s.dev.fld FWDT.CMD_RESULT_RESULT) s.dev.upSec ∧ (∀ j, j ≠ i → d.hostAt j = s.dev.hostAt j) ∧
      d.raised FWDT.int_CMD_DONE = true ∧ s.dev.moves d [.look] [0x28]) ∧
  (∀ (s : State) (i key dom : Nat), s.Opens 0x28 → s.dev.on FWDT.CMD_STAT_BUSY = false → s.dev.fld FWDT.CMD_ENTRY_TYPE = 1 →
    dom = s.dev.fld FWDT.CMD_ENTRY_DOMAIN → key = keyOf 1 s.dev.cmdKey → s.dev.hostFind 0 1 dom key = some i →
    Gives (.hostDelete 1) s fun d => d.num FWDT.CMD_STAT = 16 + i % 262144 * 256 ∧ d.hostAt i = 0 ∧
      (∀ j, j ≠ i → d.hostAt j = s.dev.hostAt j) ∧ d.raised FWDT.int_CMD_DONE = true ∧ s.dev.moves d [.look] [0x28]) ∧
  (∀ (s : State) (c : Instr) (mask : Nat), c = .hostFind mask ∨ c = .hostInsert mask ∨ c = .hostDelete mask → s.Opens 0x28 →
    s.dev.on FWDT.CMD_STAT_BUSY = false → s.dev.fld FWDT.CMD_ENTRY_TYPE = 0 →
    Gives c s fun d => d.num FWDT.CMD_STAT = 6 ∧ d.raised FWDT.int_CMD_DONE = true ∧ d.look = s.dev.look)

/-- Prefixes and rules (R185 to R188, R191, R199): what the commands answer, the unit writes that an insert or a delete waits for, and the
rules that are written, invalidated and read. The model's own readings that its commands follow: log entries 3, 4, 5, 41, 43 and 116. -/
def Obligations.PrefixesAndRules : Prop :=
  (∀ (s : State) (mask : Nat), s.Opens 0x29 → s.dev.on LPMT.CMD_STAT_BUSY = false → mask % 16 ≠ 0 →
    s.dev.fld LPMT.CMD_PREFIX_LEN ≤ (if s.dev.on LPMT.CMD_PREFIX_V6 then 128 else 32) →
    Gives (.prefixFind mask) s fun d => d.num LPMT.CMD_STAT = (if (s.dev.prefAt (lowPipe (mask % 16)) (s.dev.on LPMT.CMD_PREFIX_V6)
        s.dev.lpmKey (s.dev.fld LPMT.CMD_PREFIX_LEN) (s.dev.fld LPMT.CMD_PREFIX_VRF)).isSome then 0 else 2) ∧
      d.raised LPMT.int_CMD_DONE = true ∧ d.look.units = s.dev.look.units ∧ s.dev.moves d [.look] [0x29]) ∧
  (∀ (s : State) (mask : Nat) (p : Plan), s.Opens 0x29 → s.dev.on LPMT.CMD_STAT_BUSY = false → mask % 16 ≠ 0 →
    s.dev.fld LPMT.CMD_PREFIX_LEN ≤ (if s.dev.on LPMT.CMD_PREFIX_V6 then 128 else 32) →
    s.dev.insertPlan (lowPipe (mask % 16)) (s.dev.on LPMT.CMD_PREFIX_V6) s.dev.lpmKey (s.dev.fld LPMT.CMD_PREFIX_LEN)
      (s.dev.fld LPMT.CMD_PREFIX_VRF) (s.dev.fld LPMT.CMD_RESULT_NEXT_HOP) (s.dev.fld LPMT.CMD_RESULT_ACT) = some p → p.writes ≠ [] →
    Gives (.prefixInsert mask) s fun d => d.num LPMT.CMD_STAT = 1 ∧
      d.look = { s.dev.look with prefixOp := some { mask := mask % 16, writes := p.writes, moves := p.moves } } ∧
      s.dev.moves d [.look] [0x29]) ∧
  (∀ (s : State) (mask : Nat), s.Opens 0x29 → s.dev.on LPMT.CMD_STAT_BUSY = false → mask % 16 ≠ 0 →
    s.dev.fld LPMT.CMD_PREFIX_LEN ≤ (if s.dev.on LPMT.CMD_PREFIX_V6 then 128 else 32) →
    s.dev.insertPlan (lowPipe (mask % 16)) (s.dev.on LPMT.CMD_PREFIX_V6) s.dev.lpmKey (s.dev.fld LPMT.CMD_PREFIX_LEN)
      (s.dev.fld LPMT.CMD_PREFIX_VRF) (s.dev.fld LPMT.CMD_RESULT_NEXT_HOP) (s.dev.fld LPMT.CMD_RESULT_ACT) = none →
    Gives (.prefixInsert mask) s fun d => d.num LPMT.CMD_STAT = 4 ∧ d.raised LPMT.int_FULL = true ∧ d.look.units = s.dev.look.units) ∧
  (∀ (s : State) (mask i : Nat), s.Opens 0x29 → s.dev.on LPMT.CMD_STAT_BUSY = false → mask % 16 ≠ 0 →
    s.dev.fld LPMT.CMD_PREFIX_LEN ≤ (if s.dev.on LPMT.CMD_PREFIX_V6 then 128 else 32) →
    s.dev.prefAt (lowPipe (mask % 16)) (s.dev.on LPMT.CMD_PREFIX_V6) s.dev.lpmKey (s.dev.fld LPMT.CMD_PREFIX_LEN)
      (s.dev.fld LPMT.CMD_PREFIX_VRF) = some i →
    Gives (.prefixDelete mask) s fun d => d.num LPMT.CMD_STAT = 1 ∧ (∃ op, d.look.prefixOp = some op ∧ op.mask = mask % 16 ∧
      op.moves = 0 ∧ op.writes.map Prod.fst = (List.range (prefWidth (s.dev.on LPMT.CMD_PREFIX_V6)
        (s.dev.fld LPMT.CMD_PREFIX_LEN))).map (i + ·)) ∧ d.look.units = s.dev.look.units ∧ s.dev.moves d [.look] [0x29]) ∧
  (∀ (s : State) (c : Instr) (mask : Nat), c = .prefixFind mask ∨ c = .prefixInsert mask ∨ c = .prefixDelete mask → s.Opens 0x29 →
    s.dev.on LPMT.CMD_STAT_BUSY = true → Idle c s) ∧
  (∀ (s : State) (op : PrefixOp) (i u : Nat) (r : List (Nat × Nat)), s.Awake → s.dev.look.prefixOp = some op → op.writes = (i, u) :: r →
    i < lpmUnits →
    Gives .prefixUnitMove s fun d => (∀ p, p < 4 → d.unitAt p i = if bitOf op.mask p then u else s.dev.unitAt p i) ∧
      (∀ p j, p < 4 → j < lpmUnits → j ≠ i → d.unitAt p j = s.dev.unitAt p j) ∧
      (r ≠ [] → d.look.prefixOp = some { op with writes := r } ∧ d.num LPMT.CMD_STAT = s.dev.num LPMT.CMD_STAT) ∧
      (r = [] → d.look.prefixOp = none ∧ d.num LPMT.CMD_STAT = min 255 op.moves * 16 ∧ d.raised LPMT.int_CMD_DONE = true) ∧
      s.dev.moves d [.look, .frees] [0x29]) ∧
  (∀ s : State, s.Awake → s.dev.look.prefixOp = none → Idle .prefixUnitMove s) ∧
  (∀ (s : State) (mask : Nat), s.Opens 0x2A → s.dev.on CLSF.CMD_STAT_BUSY = false → ruleOk s.dev.cmdRule = true →
    Gives (.ruleWrite mask) s fun d => (∀ p, p < 4 → d.ruleMem p (s.dev.num CLSF.CMD_RULE) =
        if bitOf mask p then ruleClean s.dev.cmdRule else s.dev.ruleMem p (s.dev.num CLSF.CMD_RULE)) ∧
      (∀ p j, p < 4 → j < 65536 → j ≠ s.dev.num CLSF.CMD_RULE % 65536 → d.ruleMem p j = s.dev.ruleMem p j) ∧
      (∀ p, p < 4 → s.dev.pausedFor (2 ^ p) = true ∨ s.dev.sw.heads.get [] p = [] ∨ bitOf mask p = false →
        d.num (CLSF.CNT.ix2 p 2) = s.dev.num (CLSF.CNT.ix2 p 2)) ∧
      d.num CLSF.CMD_STAT = mask % 16 * 16 ∧ d.raised CLSF.int_CMD_DONE = true ∧ s.dev.moves d [.look, .frees] [0x2A]) ∧
  (∀ (s : State) (mask : Nat), s.Opens 0x2A → s.dev.on CLSF.CMD_STAT_BUSY = false → ruleOk s.dev.cmdRule = false →
    Gives (.ruleWrite mask) s fun d => d.look = s.dev.look ∧ d.num CLSF.CMD_STAT = 6 ∧ d.raised CLSF.int_CMD_DONE = true) ∧
  (∀ (s : State) (mask : Nat), s.Opens 0x2A → s.dev.on CLSF.CMD_STAT_BUSY = false →
    Gives (.ruleInvalidate mask) s fun d => (∀ p, p < 4 → bitOf mask p = true →
        ruleValid (d.ruleMem p (s.dev.num CLSF.CMD_RULE)) = false) ∧
      (∀ p j, p < 4 → j < 65536 → j ≠ s.dev.num CLSF.CMD_RULE % 65536 → d.ruleMem p j = s.dev.ruleMem p j) ∧
      d.num CLSF.CMD_STAT = mask % 16 * 16 ∧ d.raised CLSF.int_CMD_DONE = true ∧ s.dev.moves d [.look, .frees] [0x2A]) ∧
  (∀ s : State, s.Opens 0x2A → s.dev.on CLSF.CMD_STAT_BUSY = false →
    Gives .ruleRead s fun d => (∀ k, k < 32 → (d.num (CLSF.CMD_DATA.ix k)) =
        ruleWord (s.dev.ruleMem (s.dev.fld CLSF.WR_MASK_RD_PIPE) (s.dev.num CLSF.CMD_RULE)) k % 2 ^ 32) ∧
      d.num CLSF.CMD_STAT = 0 ∧ d.raised CLSF.int_CMD_DONE = true ∧ d.look = s.dev.look ∧ s.dev.moves d [] [0x2A])

/-- The loaders of pause-governed memory (R87, R160, R201, R232): GO under a pause that covers the mask, ARM and the start it waits for,
ABORT, and the end of a load. The model's own readings that its commands follow: log entries 3, 4, 7, 43, 44 and 115. -/
def Obligations.LoadersUnderPause : Prop :=
  (∀ (s : State) (c : Instr) (l : LoaderAt) (path : Nat) (auto : Bool), (c = .graphGo path auto ∧ l = graphLoader) ∨
      (c = .bankLoadGo path auto ∧ l = bankLoader) ∨ (c = .anchorLoadGo path auto ∧ l = anchorLoader) → s.Opens l.page →
    s.dev.pausedFor (s.dev.loaderMask l) = true → s.dev.opState l.stat ≠ 1 →
    Gives c s fun d => d.num l.stat = 1 ∧ d.loader l = { armed := false, auto := auto } ∧ s.dev.moves d [.look] [l.page]) ∧
  (∀ (s : State) (c : Instr) (l : LoaderAt) (path : Nat) (auto : Bool), (c = .graphGo path auto ∧ l = graphLoader) ∨
      (c = .bankLoadGo path auto ∧ l = bankLoader) ∨ (c = .anchorLoadGo path auto ∧ l = anchorLoader) → path < 2 → s.Opens l.page →
    s.dev.pausedFor (s.dev.loaderMask l) = false →
    Gives c s fun d => d.num l.stat = s.dev.num l.stat ∧ s.dev.onlyRegs d ∧
      (s.dev.fld (ERR_INFO_CAUSE l.page) = 0 → d.num (ERR_INFO l.page) = l.ctrl + 4 * 4096 + path * 65536)) ∧
  (∀ (s : State) (c : Instr) (l : LoaderAt) (auto : Bool), (c = .graphArm auto ∧ l = graphLoader) ∨
      (c = .bankLoadArm auto ∧ l = bankLoader) ∨ (c = .anchorLoadArm auto ∧ l = anchorLoader) → s.Opens l.page →
    s.dev.opState l.stat ≠ 1 →
    Gives c s fun d => d.loader l = { armed := true, auto := auto } ∧ s.dev.keeps d [.look]) ∧
  (∀ (s : State) (c : Instr) (l : LoaderAt), (c = .graphAutoStart ∧ l = graphLoader) ∨ (c = .bankLoadAutoStart ∧ l = bankLoader) ∨
      (c = .anchorLoadAutoStart ∧ l = anchorLoader) → s.On → (s.dev.loader l).armed = true →
    s.dev.pausedFor (s.dev.loaderMask l) = true → s.dev.opState l.stat ≠ 1 →
    Gives c s fun d => d.num l.stat = 1 ∧ d.loader l = { armed := false, auto := (s.dev.loader l).auto } ∧
      s.dev.moves d [.look] [l.page]) ∧
  (∀ (s : State) (c : Instr) (l : LoaderAt), (c = .graphAutoStart ∧ l = graphLoader) ∨ (c = .bankLoadAutoStart ∧ l = bankLoader) ∨
      (c = .anchorLoadAutoStart ∧ l = anchorLoader) → s.On →
    (s.dev.loader l).armed = false ∨ s.dev.pausedFor (s.dev.loaderMask l) = false → Idle c s) ∧
  (∀ (s : State) (c : Instr) (l : LoaderAt) (done : Nat), (c = .graphAbort done ∧ l = graphLoader) ∨
      (c = .bankLoadAbort done ∧ l = bankLoader) ∨ (c = .anchorLoadAbort done ∧ l = anchorLoader) → s.Opens l.page →
    s.dev.opState l.stat = 1 →
    Gives c s fun d => d.num l.stat = statusWord 3 0 (s.dev.loaderWritten l (min done (s.dev.loaderCount l - 1))) ∧ s.dev.moves d [.look] [l.page]) ∧
  (∀ (s : State) (c : Instr) (l : LoaderAt) (done : Nat), (c = .graphDone done ∧ l = graphLoader) ∨ (c = .loadDone done ∧ l = bankLoader) ∨
      (c = .anchorLoadDone done ∧ l = anchorLoader) → s.On → s.dev.opState l.stat = 1 → s.dev.loaderCount l ≤ done →
    s.dev.pausedFor (s.dev.loaderMask l) = true → (s.dev.loader l).auto = false →
    Gives c s fun d => d.num l.stat = statusWord 2 0 (s.dev.loaderWritten l (s.dev.loaderCount l)) ∧ d.raised l.done = true ∧ s.dev.moves d [.look] [l.page]) ∧
  (∀ (s : State) (c : Instr) (l : LoaderAt) (done : Nat), (c = .graphDone done ∧ l = graphLoader) ∨ (c = .loadDone done ∧ l = bankLoader) ∨
      (c = .anchorLoadDone done ∧ l = anchorLoader) → s.On → s.dev.opState l.stat = 1 → done < s.dev.loaderCount l →
    Gives c s fun d => d.num l.stat = statusWord 4 0 (s.dev.loaderWritten l done) ∧ d.raised l.fail = true ∧ s.dev.moves d [.look] [l.page]) ∧
  (∀ (s : State) (c : Instr) (l : LoaderAt) (done : Nat), (c = .graphDone done ∧ l = graphLoader) ∨ (c = .loadDone done ∧ l = bankLoader) ∨
      (c = .anchorLoadDone done ∧ l = anchorLoader) → s.On → s.dev.opState l.stat ≠ 1 → Idle c s) ∧
  (∀ (s : State) (done n : Nat), s.On → s.dev.opState bankLoader.stat = 1 → s.dev.loaderCount bankLoader ≤ done →
    s.dev.pausedFor (s.dev.loaderMask bankLoader) = true → (s.dev.loader bankLoader).auto = false → n < s.dev.loaderCount bankLoader →
    s.dev.fld CLSF.LOAD_BANKS_FIRST * 1024 + s.dev.loaderCount bankLoader ≤ 65536 →
    ruleOk (leNat (s.dev.dmaRead (s.dev.num2 CLSF.LOAD_ADDR_LO CLSF.LOAD_ADDR_HI + 128 * n) 128)) = true →
    Gives (.loadDone done) s fun d => ∀ p, p < 4 → bitOf (s.dev.num CLSF.WR_MASK) p = true →
      d.ruleMem p (s.dev.fld CLSF.LOAD_BANKS_FIRST * 1024 + n) =
        ruleClean (leNat (s.dev.dmaRead (s.dev.num2 CLSF.LOAD_ADDR_LO CLSF.LOAD_ADDR_HI + 128 * n) 128)))

/-- Walks over the flow table (R87, R217, R225): the sweep and its pairs, the rebuild under new keys, its switch and its abort, and new
keys for an empty table. The model's own readings that its commands follow: log entries 3, 4, 63, 67, 68, 97 and 115. -/
def Obligations.WalksOverTheFlowTable : Prop :=
  (∀ s : State, s.Opens 0x30 →
    Gives .sweepStart s fun d => d.num FLOW.SWEEP_STAT = 1 ∧
      d.flow = { s.dev.flow with pair := 0, began := s.dev.clk.up, aborted := false } ∧ d.spore = s.dev.longRestart.spore ∧
      s.dev.moves d [.flow, .spore] [0x30]) ∧
  (∀ s : State, s.Opens 0x30 → s.dev.opState FLOW.SWEEP_STAT = 1 →
    Gives .sweepAbort s fun d => d.opState FLOW.SWEEP_STAT = 3 ∧ d.flow = { s.dev.flow with aborted := true } ∧
      d.spore = s.dev.longRestart.spore ∧ s.dev.moves d [.flow, .spore] [0x30]) ∧
  (∀ s : State, s.Opens 0x30 → s.dev.opState FLOW.SWEEP_STAT = 2 →
    Gives .sweepAbort s fun d => d.opState FLOW.SWEEP_STAT = 2 ∧ bitOf (d.num FLOW.SWEEP_STAT) 3 = true ∧ s.dev.onlyRegs d) ∧
  (∀ s : State, s.Opens 0x30 → s.dev.opState FLOW.SWEEP_STAT ≠ 1 → s.dev.opState FLOW.SWEEP_STAT ≠ 2 → Idle .sweepAbort s) ∧
  (∀ s : State, s.Awake → s.dev.sweeperOn = true → s.dev.opState FLOW.SWEEP_STAT = 1 → s.dev.flow.aborted = false →
    s.dev.flow.began + s.dev.fld FLOW.SWEEP_CFG_PERIOD * 10000000000 * s.dev.flow.pair / s.dev.altMask ≤ s.dev.clk.up →
    (∀ x, x = s.dev.flow.pair ∨ x = s.dev.mateOf s.dev.flow.pair →
      s.dev.recordAt false x = 0 ∨ s.dev.recDue (s.dev.recordAt false x) = false) →
    s.dev.on FLOW.SWEEP_CFG_NORMALISE = false → s.dev.on FLOW.SWEEP_CFG_SPILL_AUDIT = false →
    Gives .sweepPairVisit s fun d =>
      (s.dev.flow.pair + 1 < s.dev.altMask → d.flow = { s.dev.flow with pair := s.dev.flow.pair + 1 } ∧
        bitsOf (d.num FLOW.SWEEP_STAT) 8 24 = (s.dev.flow.pair + 1) / 16 % 2 ^ 24) ∧
      (s.dev.altMask ≤ s.dev.flow.pair + 1 → d.flow = { s.dev.flow with pair := 0, began := s.dev.clk.up, aborted := false } ∧
        d.raised FLOW.int_SWEEP_DONE = true ∧ d.num FLOW.SWEEP_STAT = 1) ∧
      s.dev.moves d [.draws, .flow, .mem, .spore] [0x30, 0x50]) ∧
  (∀ s : State, s.Awake → s.dev.sweeperOn = true → s.dev.opState FLOW.SWEEP_STAT = 1 → s.dev.flow.aborted = false →
    s.dev.flow.began + s.dev.fld FLOW.SWEEP_CFG_PERIOD * 10000000000 * s.dev.flow.pair / s.dev.altMask ≤ s.dev.clk.up →
    s.dev.recordAt false s.dev.flow.pair ≠ 0 → s.dev.recDue (s.dev.recordAt false s.dev.flow.pair) = true →
    s.dev.heldBy s.dev.flow.pair (s.dev.flow.served + 1) none = false → s.dev.tState ≠ 5 →
    s.dev.slotAt false (s.dev.mateOf s.dev.flow.pair) = 0 → slotKind (s.dev.slotAt false s.dev.flow.pair) = 1 →
    s.dev.mateOf s.dev.flow.pair ≠ s.dev.flow.pair →
    s.dev.on FLOW.SWEEP_CFG_NORMALISE = false → s.dev.on FLOW.SWEEP_CFG_SPILL_AUDIT = false →
    Gives .sweepPairVisit s fun d => d.recordAt false s.dev.flow.pair = 0 ∧
      d.num (FLOW.CNT.ix 10) = (s.dev.num (FLOW.CNT.ix 10) + 1) % 2 ^ 32) ∧
  (∀ s : State, s.Awake → s.dev.sweeperOn = true → s.dev.flow.aborted = false →
    s.dev.clk.up < s.dev.flow.began + s.dev.fld FLOW.SWEEP_CFG_PERIOD * 10000000000 * s.dev.flow.pair / s.dev.altMask →
    Idle .sweepPairVisit s) ∧
  (∀ s : State, s.Opens 0x30 → s.dev.rebuilding = false → s.dev.opState MEMC.RETIRE_STAT ≠ 1 →
    Gives .rebuildGo s fun d => d.num FLOW.REBUILD_STAT = 1 ∧ d.draws = s.dev.draws + 1 ∧ d.flow.cursor = 0 ∧ d.flow.copied = false ∧
      d.flow.nkp = (Config.rng s.dev.draws).toNat % 2 ^ 128 ∧ d.flow.nkl = (Config.rng s.dev.draws).toNat / 2 ^ 128 % 2 ^ 128 ∧
      d.flow.kp = s.dev.flow.kp ∧ d.flow.region = s.dev.flow.region ∧
      (∀ i, i < 2 ^ 27 → d.memSlot s.dev.flow.region i = s.dev.memSlot s.dev.flow.region i) ∧ s.dev.moves d [.draws, .flow] [0x30]) ∧
  (∀ s : State, s.Opens 0x30 → s.dev.rebuilding = true ∨ s.dev.opState MEMC.RETIRE_STAT = 1 → Idle .rebuildGo s) ∧
  (∀ s : State, s.Awake → s.dev.rebuilding = true → s.dev.flow.copied = false → s.dev.slotAt false s.dev.flow.cursor = 0 →
    s.dev.slotAt false (s.dev.mateOf s.dev.flow.cursor) = 0 → s.dev.flow.cursor + 1 < s.dev.altMask →
    Gives .rebuildPairCopy s fun d => d.flow = { s.dev.flow with cursor := s.dev.flow.cursor + 1 } ∧
      s.dev.moves d [.draws, .flow, .mem] [0x30, 0x50]) ∧
  (∀ s : State, s.Awake → s.dev.rebuilding = true → s.dev.flow.copied = false →
    s.dev.openPair s.dev.flow.cursor = false →
    Gives .rebuildPairCopy s fun d => d.flow.cursor = s.dev.flow.cursor + 1 ∧
      (s.dev.altMask ≤ s.dev.flow.cursor + 1 → d.flow.copied = true ∧
        d.flow.switchNs = some ((s.dev.nowNs + 999) / 1000 * 1000)) ∧
      d.flow.kp = s.dev.flow.kp ∧ d.flow.kl = s.dev.flow.kl ∧ d.flow.region = s.dev.flow.region ∧ d.flow.opened = s.dev.flow.opened ∧
      (s.dev.flow.region = 0 → ∀ i, i < 2 ^ 27 → d.memSlot 0 i = s.dev.memSlot 0 i) ∧
      s.dev.moves d [.draws, .flow, .mem] [0x30, 0x50]) ∧
  (∀ s : State, s.Awake → s.dev.openPair s.dev.flow.cursor = true → Idle .rebuildPairCopy s) ∧
  (∀ s : State, s.Awake → s.dev.rebuilding = false ∨ s.dev.flow.copied = true → Idle .rebuildPairCopy s) ∧
  (∀ (s : State) (t : Nat), s.Awake → s.dev.flow.switchNs = some t → s.dev.rebuilding = true → t ≤ s.dev.nowNs →
    s.dev.flowRecords = [] → s.dev.tState ≠ 3 →
    Gives .rebuildSwitch s fun d => d.flow.kp = s.dev.flow.nkp ∧ d.flow.kl = s.dev.flow.nkl ∧ d.flow.region = 1 - s.dev.flow.region ∧
      d.flow.switchNs = none ∧ d.opState FLOW.REBUILD_STAT = 2 ∧ d.on FLOW.KEY_STAT_VALID = true ∧
      d.raised FLOW.int_REBUILD_DONE = true ∧ s.dev.moves d [.flow, .eng, .tandem] [0x30]) ∧
  (∀ (s : State) (t : Nat), s.Awake → s.dev.flow.switchNs = some t → s.dev.rebuilding = true → t ≤ s.dev.nowNs →
    Gives .rebuildSwitch s fun d => d.flow.kp = s.dev.flow.nkp ∧ d.flow.kl = s.dev.flow.nkl ∧ d.flow.region = 1 - s.dev.flow.region ∧
      d.flow.switchNs = none ∧ d.opState FLOW.REBUILD_STAT = 2 ∧ d.raised FLOW.int_REBUILD_DONE = true) ∧
  (∀ (s : State) (t : Nat), s.Awake → s.dev.flow.switchNs = some t → s.dev.nowNs < t → Idle .rebuildSwitch s) ∧
  (∀ s : State, s.Opens 0x30 → s.dev.opState FLOW.REBUILD_STAT = 1 →
    Gives .rebuildAbort s fun d => d.opState FLOW.REBUILD_STAT = 3 ∧ d.flow.kp = s.dev.flow.kp ∧ d.flow.kl = s.dev.flow.kl ∧
      d.flow.region = s.dev.flow.region ∧ d.flow.switchNs = none ∧
      (∀ i, i < 2 ^ 27 → d.memSlot (1 - s.dev.flow.region) i = 0 ∧
        (s.dev.flow.region ≤ 1 → d.memSlot s.dev.flow.region i = s.dev.memSlot s.dev.flow.region i)) ∧ s.dev.moves d [.flow] [0x30]) ∧
  (∀ s : State, s.Opens 0x30 → s.dev.flowOcc = 0 → s.dev.rebuilding = false →
    Gives .rekey s fun d => d.flow.kp = (Config.rng s.dev.draws).toNat % 2 ^ 128 ∧
      d.flow.kl = (Config.rng s.dev.draws).toNat / 2 ^ 128 % 2 ^ 128 ∧ d.on FLOW.KEY_STAT_VALID = true ∧
      d.fld FLOW.KEY_STAT_KEY_GEN = (s.dev.fld FLOW.KEY_STAT_KEY_GEN + 1) % 256 ∧ s.dev.moves d [.draws, .flow] [0x30]) ∧
  (∀ s : State, s.Opens 0x30 → s.dev.flowOcc ≠ 0 ∨ s.dev.rebuilding = true → Idle .rekey s)

/-- Host commands on a record (R230): DELETE, PIN and UNPIN answer a slot that is not there and a slot that does not hold the incarnation,
wait for the tasks that were served the record before, and otherwise act at once. The model's own readings that its commands follow: log
entries 3, 4, 5, 63 and 65. -/
def Obligations.HostCommandsOnRecords : Prop :=
  (∀ (s : State) (c : Instr) (incarn : Nat), c = .flowDelete incarn ∨ c = .pinRecord incarn ∨ c = .unpinRecord incarn → s.Opens 0x30 →
    s.dev.on FLOW.CMD_STAT_BUSY = false → s.dev.heldBy (s.dev.num FLOW.CMD_SLOT % 2 ^ 27) (s.dev.flow.served + 1) none = false →
    2 * s.dev.altMask ≤ s.dev.num FLOW.CMD_SLOT % 2 ^ 27 →
    Gives c s fun d => d.num FLOW.CMD_STAT = 6 ∧ d.raised FLOW.int_CMD_DONE = true ∧ d.flow = s.dev.flow ∧ s.dev.moves d [] [0x30]) ∧
  (∀ (s : State) (c : Instr) (incarn : Nat), c = .flowDelete incarn ∨ c = .pinRecord incarn ∨ c = .unpinRecord incarn → s.Opens 0x30 →
    s.dev.on FLOW.CMD_STAT_BUSY = false → s.dev.heldBy (s.dev.num FLOW.CMD_SLOT % 2 ^ 27) (s.dev.flow.served + 1) none = false →
    s.dev.num FLOW.CMD_SLOT % 2 ^ 27 < 2 * s.dev.altMask →
    s.dev.recordAt false (s.dev.num FLOW.CMD_SLOT % 2 ^ 27) = 0 ∨
      rIncarn.get (s.dev.recordAt false (s.dev.num FLOW.CMD_SLOT % 2 ^ 27)) ≠ incarn % 64 →
    Gives c s fun d => d.num FLOW.CMD_STAT = 2 ∧ d.raised FLOW.int_CMD_DONE = true ∧ d.flow = s.dev.flow ∧ s.dev.moves d [] [0x30]) ∧
  (∀ (s : State) (c : Instr) (op incarn : Nat), (c = .flowDelete incarn ∧ op = 0) ∨ (c = .pinRecord incarn ∧ op = 1) ∨
      (c = .unpinRecord incarn ∧ op = 2) → s.Opens 0x30 → s.dev.on FLOW.CMD_STAT_BUSY = false →
    s.dev.heldBy (s.dev.num FLOW.CMD_SLOT % 2 ^ 27) (s.dev.flow.served + 1) none = true →
    Gives c s fun d => d.num FLOW.CMD_STAT = 1 ∧ d.flow = { s.dev.flow with held := s.dev.flow.held ++
      [(s.dev.flow.served + 1, .cmd op (s.dev.num FLOW.CMD_SLOT % 2 ^ 27) (incarn % 64))] } ∧ s.dev.keeps d [.regs, .flow]) ∧
  (∀ (s : State) (c : Instr) (incarn : Nat), c = .flowDelete incarn ∨ c = .pinRecord incarn ∨ c = .unpinRecord incarn → s.Opens 0x30 →
    s.dev.on FLOW.CMD_STAT_BUSY = false → s.dev.heldBy (s.dev.num FLOW.CMD_SLOT % 2 ^ 27) (s.dev.flow.served + 1) none = false →
    s.dev.num FLOW.CMD_SLOT % 2 ^ 27 < 2 * s.dev.altMask → s.dev.recordAt false (s.dev.num FLOW.CMD_SLOT % 2 ^ 27) ≠ 0 →
    rIncarn.get (s.dev.recordAt false (s.dev.num FLOW.CMD_SLOT % 2 ^ 27)) = incarn % 64 →
    Gives c s fun d => d.num FLOW.CMD_STAT = 0 ∧ d.raised FLOW.int_CMD_DONE = true) ∧
  (∀ (s : State) (c : Instr) (incarn : Nat), c = .flowDelete incarn ∨ c = .pinRecord incarn ∨ c = .unpinRecord incarn → s.Opens 0x30 →
    s.dev.on FLOW.CMD_STAT_BUSY = true → Idle c s)

/-- Dispatch and what a task sends (R223, R224, R238, R239, R266, R302): a free thread takes the next ready task; control updates,
deletions, insertions, harvests, counts and export records of a task, and what the merger answers. The model's own readings that its
commands follow: log entries 3, 4, 5, 54, 61, 63, 64, 65, 66, 69, 73, 74, 75, 77, 78, 79, 80, 83 and 112. -/
def Obligations.SendsOfTasks : Prop :=
  (∀ (s : State) (c i thr : Nat) (t : Task), s.Awake → c < 8 → s.dev.frondRuns c = true → s.dev.nextReady c = some i →
    s.dev.freeThread c = some thr → s.dev.task c i = some t →
    Gives (.taskDispatch c) s fun d => d.thread (thrKey c thr) = s.dev.threadFor i (if t.begun then { t with view := t.first } else t) ∧
      d.task c i = some { t with state := 2, begun := true, woke := 0, view := if t.begun then t.first else t.view,
                                 first := if t.begun then t.first else t.view } ∧
      d.readyOf c t.prio = (s.dev.readyOf c t.prio).filter (· ≠ i) ∧ s.dev.moves d [.eng, .units] [0x32, 0x60]) ∧
  (∀ (s : State) (c : Nat), s.Awake → c < 8 → s.dev.frondRuns c = false ∨ s.dev.nextReady c = none ∨ s.dev.freeThread c = none →
    Idle (.taskDispatch c) s) ∧
  (∀ (s : State) (c : Instr) (frond thread : Nat) (p : Program) (v : EngSrc) (sp : Option Nat) (l : Bool) (n : Nat),
    (c = .ctlSend frond thread p ∨ c = .insSend frond thread p none ∨ c = .delSend frond thread p n ∨ c = .harvSend frond thread p ∨
      c = .cntAdd frond thread n v ∨ c = .emit frond thread p sp l n) → s.Awake → s.dev.running (thrKey frond thread) = none →
    Idle c s) ∧
  (∀ (s : State) (c : Instr) (frond thread i : Nat) (t : Task) (w : Wait) (n m : Nat), m = s.dev.immAt (thrKey frond thread) n →
    (c = .ctlSend frond thread .own ∧ w = .ctl) ∨
      (c = .delSend frond thread .own n ∧ w = .del m ∧ (m = 3 ∨ 16 ≤ m ∧ m ≤ 255)) → s.Awake →
    s.dev.acts (thrKey frond thread) 4 3 i t → s.dev.mergerHolds (thrKey frond thread) i t = true →
    Gives c s fun d => d.thread (thrKey frond thread) = { s.dev.thread (thrKey frond thread) with wait := some w } ∧
      s.dev.keeps d [.eng]) ∧
  (∀ (s : State) (frond thread i : Nat) (t : Task), s.Awake → s.dev.acts (thrKey frond thread) 4 3 i t →
    s.dev.mergerHolds (thrKey frond thread) i t = false → (∀ x ∈ s.dev.eng.threads, x.2.wait = none) →
    keyChanged t.view.record (s.dev.thread (thrKey frond thread)).draft = true →
    Gives (.ctlSend frond thread .own) s fun d => (d.thread (thrKey frond thread)).sts % 256 = 3 ∧ d.flow = s.dev.flow ∧
      d.num FENG.FAULTS (frond % 8) = (s.dev.num FENG.FAULTS (frond % 8) + 1) % 2 ^ 32) ∧
  (∀ (s : State) (frond thread i : Nat) (t : Task), s.Awake → s.dev.acts (thrKey frond thread) 4 3 i t →
    s.dev.mergerHolds (thrKey frond thread) i t = false → (∀ x ∈ s.dev.eng.threads, x.2.wait = none) →
    keyChanged t.view.record (s.dev.thread (thrKey frond thread)).draft = false → s.dev.versionHolds t.view = true →
    (s.dev.thread (thrKey frond thread)).plan = none → s.dev.rebuilding = false → slotKind (s.dev.slotAt false t.view.slot) = 1 →
    Gives (.ctlSend frond thread .own) s fun d => (d.thread (thrKey frond thread)).sts % 256 = 0 ∧
      d.task (frond % 8) i = some { t with view := { t.view with record := d.recordAt false t.view.slot } } ∧
      (d.thread (thrKey frond thread)).draft = d.recordAt false t.view.slot ∧
      rVersion.get (d.recordAt false t.view.slot) = (rVersion.get (s.dev.recordAt false t.view.slot) + 1) % 256) ∧
  (∀ (s : State) (frond thread i : Nat) (t : Task), s.Awake → s.dev.acts (thrKey frond thread) 4 3 i t →
    s.dev.mergerHolds (thrKey frond thread) i t = false → (∀ x ∈ s.dev.eng.threads, x.2.wait = none) →
    keyChanged t.view.record (s.dev.thread (thrKey frond thread)).draft = false → s.dev.versionHolds t.view = false →
    (s.dev.thread (thrKey frond thread)).plan = none →
    Gives (.ctlSend frond thread .own) s fun d => (d.thread (thrKey frond thread)).sts % 256 = 1 ∧
      d.task (frond % 8) i = some { t with view := s.dev.freshView t.view } ∧ d.flow = s.dev.flow ∧
      d.num (FLOW.CNT.ix 12) = (s.dev.num (FLOW.CNT.ix 12) + 1) % 2 ^ 32) ∧
  (∀ (s : State) (frond thread i n m : Nat) (t : Task), s.Awake → s.dev.acts (thrKey frond thread) 4 3 i t →
    s.dev.mergerHolds (thrKey frond thread) i t = false → (∀ x ∈ s.dev.eng.threads, x.2.wait = none) →
    m = s.dev.immAt (thrKey frond thread) n → m = 3 ∨ 16 ≤ m ∧ m ≤ 255 → s.dev.versionHolds t.view = true → (s.dev.thread (thrKey frond thread)).plan = none →
    s.dev.rebuilding = false →
    Gives (.delSend frond thread .own n) s fun d => (d.thread (thrKey frond thread)).sts % 256 = 0 ∧
      d.task (frond % 8) i = some { t with view := { t.view with record := 0, hit := false } } ∧
      slotKind (d.slotAt false t.view.slot) = 0) ∧
  (∀ (s : State) (frond thread i n m : Nat) (t : Task), s.Awake → s.dev.acts (thrKey frond thread) 4 3 i t →
    m = s.dev.immAt (thrKey frond thread) n → m ≠ 3 → m < 16 ∨ 255 < m →
    Gives (.delSend frond thread .own n) s fun d =>
      d.thread (thrKey frond thread) = (s.dev.thread (thrKey frond thread)).setUpd 3 ∧ s.dev.keeps d [.eng]) ∧
  (∀ (s : State) (frond thread i : Nat) (t : Task), s.Awake → s.dev.acts (thrKey frond thread) 4 3 i t →
    t.view.hit = true ∨ t.view.resv = none →
    Gives (.insSend frond thread .own none) s fun d => (d.thread (thrKey frond thread)).sts % 256 = 3 ∧ d.flow = s.dev.flow) ∧
  (∀ (s : State) (frond thread i : Nat) (t : Task) (ue : Option BadWord), s.Awake → s.dev.acts (thrKey frond thread) 4 3 i t →
    s.dev.insertWaits t = true →
    Gives (.insSend frond thread .own ue) s fun d => d.raised FLOW.int_MERGE_FULL = true ∧ s.dev.moves d [.sw] []) ∧
  (∀ (s : State) (frond thread i key : Nat) (t : Task), s.Awake → s.dev.acts (thrKey frond thread) 4 3 i t →
    t.view.hit = false → t.view.resv = some key → s.dev.occupants false t.view.wide t.view.home = [] → s.dev.rebuilding = false →
    s.dev.flow.waiting = [] →
    Gives (.insSend frond thread .own none) s fun d => (d.thread (thrKey frond thread)).sts % 256 = 0 ∧
      d.task (frond % 8) i = some { t with view :=
        { t.view with slot := t.view.home, record := d.recordAt false t.view.home, hit := true, inserted := true, resv := none } } ∧
      (d.thread (thrKey frond thread)).draft = d.recordAt false t.view.home ∧
      slotKind (d.slotAt false t.view.home) = (if t.view.wide then 2 else 1)) ∧
  (∀ (s : State) (frond thread i : Nat) (t : Task), s.Awake → s.dev.acts (thrKey frond thread) 4 3 i t →
    s.dev.rebuilding = false → slotKind (s.dev.slotAt false t.view.slot) = 1 → t.view.wide = false →
    rIncarn.get (s.dev.recordAt false t.view.slot) = rIncarn.get t.view.record →
    Gives (.harvSend frond thread .own) s fun d =>
      rPktF.get (d.recordAt false t.view.slot) =
        rPktF.get (s.dev.recordAt false t.view.slot) - leNat ((s.dev.metaOf t).take 4) ∧
      rHarv.get (d.recordAt false t.view.slot) = 0 ∧ s.dev.moves d [.draws, .flow, .mem, .eng] [0x50]) ∧
  (∀ (s : State) (frond thread i index : Nat) (t : Task) (v : EngSrc), s.Awake → s.dev.acts (thrKey frond thread) 4 3 i t →
    Gives (.cntAdd frond thread index v) s fun d => d.pcnt (frond % 8) index =
        (s.dev.pcnt (frond % 8) index + s.dev.srcVal (thrKey frond thread) t (s.dev.thread (thrKey frond thread)) v 4 % 2 ^ 32) % 2 ^ 64 ∧
      (∀ c j, c * 8192 + j % 8192 ≠ frond % 8 * 8192 + index % 8192 → d.pcnt c j = s.dev.pcnt c j) ∧
      d.frees = s.dev.frees + 1 ∧ s.dev.keeps d [.frees, .eng]) ∧
  (∀ (s : State) (frond thread i n reason : Nat) (t : Task) (sp : Option Nat) (l : Bool), s.Awake →
    s.dev.acts (thrKey frond thread) 4 3 i t → s.dev.exportRoom (frond % 8) = true → n = (if l then 128 else 64) →
    Gives (.emit frond thread .own sp l reason) s fun d => (d.exportQ (frond % 8)).recs = (s.dev.exportQ (frond % 8)).recs ++
        [(reason % 65536, match sp with
          | some a => s.dev.spadRead (frond % 8) a n
          | none => (s.dev.thread (thrKey frond thread)).draftBytes.take n)] ∧ s.dev.keeps d [.eng]) ∧
  (∀ (s : State) (frond thread i n reason : Nat) (t : Task) (sp : Option Nat) (l : Bool), s.Awake →
    s.dev.acts (thrKey frond thread) 4 3 i t → s.dev.exportRoom (frond % 8) = false → n = (if l then 128 else 64) →
    Gives (.emit frond thread .own sp l reason) s fun d => d.thread (thrKey frond thread) =
        { s.dev.thread (thrKey frond thread) with wait := some (.emit (reason % 65536) (match sp with
          | some a => s.dev.spadRead (frond % 8) a n
          | none => (s.dev.thread (thrKey frond thread)).draftBytes.take n)) } ∧ s.dev.keeps d [.eng]) ∧
  (∀ (s : State) (c : Instr) (frond thread i n : Nat) (t : Task) (p : LibPlan) (sp : Option Nat) (l : Bool),
    p = s.dev.planOf (thrKey frond thread) t → (c = .ctlSend frond thread .library ∧ p.put = none) ∨
      (c = .insSend frond thread .library none ∧ p.put = none ∧ s.dev.insertWaits t = false) ∨
      (c = .delSend frond thread .library n ∧ p.del = none) ∨
      (c = .emit frond thread .library sp l n ∧ p.emit = []) → p.ask = none → s.Awake →
    s.dev.running (thrKey frond thread) = some (i, t) →
    (s.dev.thread (thrKey frond thread)).plan = none →
    Gives c s fun d => d.thread (thrKey frond thread) = { s.dev.thread (thrKey frond thread) with plan := some p } ∧
      d.draws = s.dev.draws + 1 ∧ d.frees = s.dev.frees + 1 ∧ s.dev.keeps d [.draws, .frees, .eng]) ∧
  (∀ (s : State) (frond thread i n m : Nat) (t : Task) (p : LibPlan) (bs : List Byte) (r : List (Nat × List Byte)) (sp : Option Nat)
      (l : Bool), s.Awake → s.dev.running (thrKey frond thread) = some (i, t) → (s.dev.thread (thrKey frond thread)).plan = some p →
    p.emit = (m, bs) :: r → p.ask = none → s.dev.exportRoom (frond % 8) = true →
    Gives (.emit frond thread .library sp l n) s fun d =>
      d.thread (thrKey frond thread) = { s.dev.thread (thrKey frond thread) with plan := some { p with emit := r } } ∧
      (d.exportQ (frond % 8)).recs = (s.dev.exportQ (frond % 8)).recs ++ [(m, bs)] ∧
      (bs.length ≤ 128 → d.spadRead (frond % 8) (stagingOf (thrKey frond thread)) bs.length = bs) ∧ s.dev.keeps d [.eng]) ∧
  (∀ (s : State) (c : Instr) (frond thread i f mss tt : Nat) (t : Task) (x : Frame) (p : LibPlan) (b : List Byte), s.Awake →
    s.dev.running (thrKey frond thread) = some (i, t) → (s.dev.thread (thrKey frond thread)).plan = some p → p.ask = some (mss, tt) →
    (s.dev.thread (thrKey frond thread)).cook = 0 → t.desc = some f → s.dev.frame f = some x →
    (s.dev.flowConn x).cookieBlocks mss tt = [b] → b.length = 16 → s.dev.enabled 0x38 = true →
    s.dev.unitFull (frond % 8) = false → (s.dev.cipher (frond % 8)).arrivals = [] →
    c = .ctlSend frond thread .library ∨ (c = .insSend frond thread .library none ∧ s.dev.insertWaits t = false) →
    Gives c s fun d => (d.thread (thrKey frond thread)).cook = 1 ∧ (d.thread (thrKey frond thread)).wait = some .block ∧
      (∃ w : LockReq, (d.cipher (frond % 8)).waiters = (s.dev.cipher (frond % 8)).waiters ++ [w] ∧ w.since = s.dev.clk.up ∧
        w.user = .task (thrKey frond thread % 256) (t.id i) ∧ ∃ q : BlockCall, w.call = some q ∧ q.thread = thrKey frond thread % 256 ∧
        q.id = t.id i ∧ q.slot = 0 ∧ q.op = 0 ∧ q.once = true ∧ q.block = b) ∧ s.dev.keeps d [.frees, .eng, .units])

/-- How a thread goes on after a microword (R234, R235, R241 to R246, R251, R264, R265): the next address, targets and their wasted cycle,
calls and returns, WAIT, END, and a fault. The model's own readings that its commands follow: log entries 4, 5, 61, 69, 73, 74, 78 and 83.
-/
def Obligations.MicrowordSequencing : Prop :=
  (∀ (s : State) (c : Instr) (frond thread i pc imm cond to_ : Nat) (t : Task) (ue : WordGuard), s.Awake → ue.bad = false →
    (c = .next frond thread ue ∧ cond = 0 ∧ to_ = nextPc pc) ∨ (c = .goto frond thread ue ∧ cond = 1 ∧ to_ = targetPc imm 0) →
    s.dev.issues (thrKey frond thread) i t cond pc imm 0 →
    Gives c s fun d => (∃ cost, d.thread (thrKey frond thread) = { s.dev.thread (thrKey frond thread) with pc := to_, cost := cost } ∧
        (s.dev.thread (thrKey frond thread)).cost < cost ∧ cost ≤ s.dev.maxCycles t) ∧
      d.task (frond % 8) i = some t ∧ s.dev.moves d [.draws, .frees, .eng] [0x03, 0x31, 0x60]) ∧
  (∀ (s : State) (c : Instr) (frond thread i pc imm cond : Nat) (taken : Bool) (t : Task) (th : Thread) (ue : WordGuard), s.Awake →
    ue.bad = false → th = s.dev.thread (thrKey frond thread) →
    (c = .ifZ frond thread ue ∧ cond = 2 ∧ taken = th.z) ∨ (c = .ifNz frond thread ue ∧ cond = 3 ∧ taken = !th.z) ∨
      (c = .ifC frond thread ue ∧ cond = 4 ∧ taken = th.c) ∨ (c = .ifNc frond thread ue ∧ cond = 5 ∧ taken = !th.c) ∨
      (c = .ifN frond thread ue ∧ cond = 6 ∧ taken = th.n) ∨ (c = .ifZn frond thread ue ∧ cond = 7 ∧ taken = (th.z || th.n)) ∨
      (c = .ifHit frond thread ue ∧ cond = 8 ∧ taken = t.view.hit) ∨
      (c = .ifUpdFail frond thread ue ∧ cond = 9 ∧ taken = decide (th.sts % 256 ≠ 0)) ∨
      (c = .ifUnitErr frond thread ue ∧ cond = 10 ∧ taken = decide (th.sts / 256 % 256 ≠ 0)) →
    s.dev.issues (thrKey frond thread) i t cond pc imm 1 →
    Gives c s fun d => (∃ cost, d.thread (thrKey frond thread) =
        { th with pc := if taken then targetPc imm 0 else nextPc pc, cost := cost } ∧ th.cost < cost ∧ cost ≤ s.dev.maxCycles t) ∧
      d.task (frond % 8) i = some t ∧ s.dev.moves d [.draws, .frees, .eng] [0x03, 0x31, 0x60]) ∧
  (∀ (s : State) (frond thread i pc imm : Nat) (t : Task) (ue : WordGuard), s.Awake → ue.bad = false →
    s.dev.issues (thrKey frond thread) i t 11 pc imm 0 → (s.dev.thread (thrKey frond thread)).stack.length < 4 →
    Gives (.call frond thread ue) s fun d => (d.thread (thrKey frond thread)).pc = targetPc imm 0 ∧
      (d.thread (thrKey frond thread)).stack = nextPc pc :: (s.dev.thread (thrKey frond thread)).stack ∧
      s.dev.moves d [.draws, .frees, .eng] [0x03, 0x31, 0x60]) ∧
  (∀ (s : State) (frond thread i pc imm a : Nat) (r : List Nat) (t : Task) (ue : WordGuard), s.Awake → ue.bad = false →
    s.dev.issues (thrKey frond thread) i t 12 pc imm 1 → (s.dev.thread (thrKey frond thread)).stack = a :: r →
    Gives (.ret frond thread ue) s fun d => (d.thread (thrKey frond thread)).pc = a ∧ (d.thread (thrKey frond thread)).stack = r ∧
      s.dev.moves d [.draws, .frees, .eng] [0x03, 0x31, 0x60]) ∧
  (∀ (s : State) (frond thread i pc imm : Nat) (t : Task) (ue : WordGuard), s.Awake → ue.bad = false →
    s.dev.issues (thrKey frond thread) i t 13 pc imm 1 →
    Gives (.dispatch frond thread ue) s fun d => (d.thread (thrKey frond thread)).pc =
        targetPc imm ((s.dev.thread (thrKey frond thread)).rg 1 % 16) ∧ s.dev.moves d [.draws, .frees, .eng] [0x03, 0x31, 0x60]) ∧
  (∀ (s : State) (frond thread i pc imm : Nat) (t : Task) (ue : WordGuard), s.Awake → ue.bad = false →
    s.dev.issues (thrKey frond thread) i t 14 pc imm 0 → t.holds = true →
    Gives (.wait frond thread ue) s fun d => (d.thread (thrKey frond thread)).pc = nextPc pc ∧
      (d.thread (thrKey frond thread)).rg 1 = (t.flags &&& t.mask) % 2 ^ 32 ∧
      d.task (frond % 8) i = some { t with flags := t.flags &&& (0xFFFF ^^^ (t.flags &&& t.mask)) } ∧
      s.dev.moves d [.draws, .frees, .eng] [0x03, 0x31, 0x60]) ∧
  (∀ (s : State) (frond thread i pc imm : Nat) (t : Task) (ue : WordGuard), s.Awake → ue.bad = false →
    s.dev.issues (thrKey frond thread) i t 14 pc imm 0 → t.holds = false → pktKind t.kind = true →
    Gives (.wait frond thread ue) s fun d => (d.thread (thrKey frond thread)).pc = nextPc pc ∧
      (d.thread (thrKey frond thread)).wait = some .cond ∧ (d.thread (thrKey frond thread)).task = some i ∧
      d.task (frond % 8) i = some t ∧ s.dev.moves d [.draws, .frees, .eng] [0x03, 0x31, 0x32, 0x60]) ∧
  (∀ (s : State) (frond thread i pc imm : Nat) (t : Task) (ue : WordGuard), s.Awake → ue.bad = false →
    s.dev.issues (thrKey frond thread) i t 14 pc imm 0 → t.holds = false → pktKind t.kind = false →
    s.dev.blockedHeld (frond % 8) < 4096 - s.dev.num TASK.RESERVE →
    Gives (.wait frond thread ue) s fun d => d.thread (thrKey frond thread) = {} ∧
      (∃ u, d.task (frond % 8) i = some u ∧ u.state = 3 ∧ u.resume = nextPc pc % 2 ^ 14 ∧
        u.stack = (s.dev.thread (thrKey frond thread)).stack.map (· % 2 ^ 14) ∧ u.sts = (s.dev.thread (thrKey frond thread)).sts ∧
        u.saved = [1, 2, 3, 4].map (s.dev.thread (thrKey frond thread)).rg ∧ u.mask = t.mask ∧ u.flags = t.flags ∧ u.gen = t.gen) ∧
      s.dev.moves d [.draws, .frees, .eng] [0x03, 0x31, 0x32, 0x60]) ∧
  (∀ (s : State) (frond thread i pc imm f : Nat) (t : Task) (x : Frame) (ue : WordGuard), s.Awake → ue.bad = false → s.dev.quiet →
    s.dev.issues (thrKey frond thread) i t 15 pc imm 0 → t.desc = some f → s.dev.frame f = some x → bitOf imm 0 = false →
    (s.dev.thread (thrKey frond thread)).ovf = false →
    Gives (.endTask frond thread .own ue) s fun d => d.thread (thrKey frond thread) = {} ∧ d.task (frond % 8) i = none ∧
      (∃ y, d.frame f = some y ∧ y.stage = .edit ∧ y.ctx.res = (s.dev.thread (thrKey frond thread)).res ∧
        y.ctx.edits = (s.dev.thread (thrKey frond thread)).edits ∧ y.ctx.byTask = true ∧ y.bytes = x.bytes)) ∧
  (∀ (s : State) (frond thread i pc imm : Nat) (t : Task) (ue : WordGuard), s.Awake → ue.bad = false → s.dev.quiet →
    s.dev.issues (thrKey frond thread) i t 15 pc imm 0 → t.desc = none →
    Gives (.endTask frond thread .own ue) s fun d => d.thread (thrKey frond thread) = {} ∧ d.task (frond % 8) i = none ∧
      d.num FENG.TASKS_DONE (frond % 8) = (s.dev.num FENG.TASKS_DONE (frond % 8) + 1) % 2 ^ 32) ∧
  (∀ (s : State) (frond thread i : Nat) (t : Task) (ue : WordGuard) (p : LibPlan), s.Awake → s.dev.quiet →
    s.dev.running (thrKey frond thread) = some (i, t) → (s.dev.thread (thrKey frond thread)).plan = some p → p.put = none →
    p.del = none → p.emit = [] → p.harv = false → p.ask = none → t.desc = none →
    Gives (.endTask frond thread .library ue) s fun d => d.thread (thrKey frond thread) = {} ∧ d.task (frond % 8) i = none) ∧
  (∀ (s : State) (frond thread i : Nat) (t : Task) (ue : WordGuard) (p : LibPlan), s.Awake →
    s.dev.running (thrKey frond thread) = some (i, t) → (s.dev.thread (thrKey frond thread)).plan = some p →
    p.put.isSome = true ∨ p.del.isSome = true ∨ p.emit ≠ [] ∨ p.harv = true → p.ask = none → Idle (.endTask frond thread .library ue) s) ∧
  (∀ (s : State) (c : Instr) (frond thread i pc imm cond : Nat) (t : Task) (ue : WordGuard), s.Awake → ue.bad = false → s.dev.quiet →
    (c = .call frond thread ue ∧ cond = 11 ∧ 4 ≤ (s.dev.thread (thrKey frond thread)).stack.length) ∨
      (c = .ret frond thread ue ∧ cond = 12 ∧ (s.dev.thread (thrKey frond thread)).stack = []) →
    s.dev.issues (thrKey frond thread) i t cond pc imm 0 → t.desc = none →
    Gives c s fun d => d.thread (thrKey frond thread) = {} ∧ d.task (frond % 8) i = none ∧
      d.num FENG.FAULT_INFO (frond % 8) = faultInfo (thrKey frond thread) pc 3 ∧
      d.num FENG.FAULTS (frond % 8) = (s.dev.num FENG.FAULTS (frond % 8) + 1) % 2 ^ 32) ∧
  (∀ (s : State) (c : Instr) (frond thread i pc : Nat) (w : Option Nat) (t : Task) (ue : WordGuard), s.Awake → s.dev.quiet →
    ue.bad = true → c = .next frond thread ue ∨ c = .goto frond thread ue ∨ c = .ifZ frond thread ue ∨ c = .call frond thread ue ∨
      c = .ret frond thread ue ∨ c = .wait frond thread ue ∨ c = .endTask frond thread .own ue →
    s.dev.mayIssue (thrKey frond thread) = true → s.dev.running (thrKey frond thread) = some (i, t) →
    s.dev.fetch (frond % 8) (s.dev.thread (thrKey frond thread)).pc = (pc, w) → t.desc = none →
    Gives c s fun d => d.thread (thrKey frond thread) = {} ∧ d.task (frond % 8) i = none ∧
      d.num FENG.FAULT_INFO (frond % 8) = faultInfo (thrKey frond thread) pc 6) ∧
  (∀ (s : State) (frond thread i pc imm : Nat) (t : Task) (ue : WordGuard), s.Awake → ue.bad = false →
    s.dev.issues (thrKey frond thread) i t 0 pc imm 0 →
    Gives (.next frond thread ue) s fun d => d.wordStage (thrKey frond thread) = 0 ∧
      d.eng.last.get 15 (thrKey frond thread / 16) = thrKey frond thread % 16 ∧
      s.dev.clk.up < d.eng.port.get 0 (thrKey frond thread / 16)) ∧
  (∀ (s : State) (c : Instr) (frond thread : Nat) (ue : WordGuard), s.Awake → s.dev.mayIssue (thrKey frond thread) = false →
    c = .next frond thread ue ∨ c = .goto frond thread ue ∨ c = .ifZ frond thread ue ∨ c = .ifNz frond thread ue ∨
      c = .ifC frond thread ue ∨ c = .ifNc frond thread ue ∨ c = .ifN frond thread ue ∨ c = .ifZn frond thread ue ∨
      c = .ifHit frond thread ue ∨ c = .ifUpdFail frond thread ue ∨ c = .ifUnitErr frond thread ue ∨ c = .call frond thread ue ∨
      c = .ret frond thread ue ∨ c = .dispatch frond thread ue ∨ c = .wait frond thread ue ∨ c = .endTask frond thread .own ue →
    Idle c s) ∧
  (∀ (s : State) (c : Instr) (frond thread : Nat) (p : Program) (ue : WordGuard), c = .next frond thread ue ∨ c = .goto frond thread ue ∨
      c = .ifZ frond thread ue ∨ c = .ifNz frond thread ue ∨ c = .ifC frond thread ue ∨ c = .ifNc frond thread ue ∨
      c = .ifN frond thread ue ∨ c = .ifZn frond thread ue ∨ c = .ifHit frond thread ue ∨ c = .ifUpdFail frond thread ue ∨
      c = .ifUnitErr frond thread ue ∨ c = .call frond thread ue ∨ c = .ret frond thread ue ∨ c = .dispatch frond thread ue ∨
      c = .wait frond thread ue ∨ c = .endTask frond thread p ue → s.Awake → s.dev.running (thrKey frond thread) = none → Idle c s)

/-- ALU words, transfers and the scratchpad (R236, R243, R247, R272): results, flags, the places that a word writes, and a place that it
may not write. The model's own readings that its commands follow: log entries 4, 5, 8, 9, 63, 69, 73, 75, 76 and 78. -/
def Obligations.DatapathWords : Prop :=
  (∀ (s : State) (c : Instr) (frond thread i n x y v : Nat) (t : Task) (th : Thread) (dst : EngPlace) (a b e : EngSrc) (fl : Bool)
      (carry : Option Bool), s.Awake → s.dev.acts (thrKey frond thread) 0 (bit fl) i t → th = s.dev.thread (thrKey frond thread) →
    n = aluWidth dst → x = s.dev.srcVal (thrKey frond thread) t th a n → y = s.dev.srcVal (thrKey frond thread) t th b n →
    (c = .and frond thread dst a b fl ∧ v = x &&& y ∧ carry = none) ∨ (c = .or frond thread dst a b fl ∧ v = x ||| y ∧ carry = none) ∨
      (c = .xor frond thread dst a b fl ∧ v = x ^^^ y ∧ carry = none) ∨
      (c = .add frond thread dst a b fl ∧ v = (x + y) % 256 ^ n ∧ carry = some (decide (256 ^ n ≤ x + y))) ∨
      (c = .sub frond thread dst a b fl ∧ v = (x + 256 ^ n - y) % 256 ^ n ∧ carry = none) ∨
      (c = .shift frond thread 0 dst a b fl ∧ y < 8 * n ∧ v = x * 2 ^ y % 256 ^ n ∧ carry = none) ∨
      (c = .shift frond thread 1 dst a b fl ∧ y < 8 * n ∧ v = x / 2 ^ y ∧ carry = none) ∨
      (c = .shift frond thread 2 dst a b fl ∧ y < 8 * n ∧ v = toBits (8 * n) (signedOf x (8 * n) / (2 ^ y : Nat)) ∧ carry = none) ∨
      (c = .maskset frond thread dst a b e fl ∧ v = ((x &&& y) ^^^ x ||| (s.dev.srcVal (thrKey frond thread) t th e n &&& y)) ∧ carry = none) ∨
      (c = .byteSwap frond thread dst a fl ∧ v = beNat (leBytes n x) ∧ carry = none) → v < 256 ^ n →
    (s.dev.writePlace t th dst (leBytes n v)).isSome = true →
    Gives c s fun d => (∃ (cf : Bool) (u : Thread), (∀ q, carry = some q → cf = q) ∧
        u = (if s.dev.flagsFrom (thrKey frond thread) fl then { th with z := decide (v = 0), n := bitOf v (8 * n - 1), c := cf } else th) ∧
        s.dev.writePlace t u dst (leBytes n v) = some (d.thread (thrKey frond thread))) ∧
      d.task (frond % 8) i = some t ∧ d.frees = s.dev.frees + 1 ∧ s.dev.keeps d [.frees, .eng]) ∧
  (∀ (s : State) (frond thread kind i n : Nat) (t : Task) (th : Thread) (dst : EngPlace) (a b : EngSrc), s.Awake →
    s.dev.acts (thrKey frond thread) 0 0 i t → th = s.dev.thread (thrKey frond thread) → n = aluWidth dst →
    8 * n ≤ s.dev.srcVal (thrKey frond thread) t th b n → (∀ v, (s.dev.writePlace t th dst (leBytes n v)).isSome = true) →
    s.dev.flagsFrom (thrKey frond thread) false = false →
    Gives (.shift frond thread kind dst a b false) s fun d => (∃ v, v < 256 ^ n ∧
        s.dev.writePlace t th dst (leBytes n v) = some (d.thread (thrKey frond thread))) ∧ s.dev.keeps d [.frees, .eng]) ∧
  (∀ (s : State) (c : Instr) (frond thread i r x y v : Nat) (t : Task) (th : Thread) (a b : EngSrc) (fl : Bool), s.Awake →
    s.dev.acts (thrKey frond thread) 0 (bit fl) i t → th = s.dev.thread (thrKey frond thread) → r < 32 → r ≠ 0 →
    x = s.dev.srcVal (thrKey frond thread) t th a 4 → y = s.dev.srcVal (thrKey frond thread) t th b 4 →
    (c = .and frond thread (.g r) a b fl ∧ v = x &&& y) ∨ (c = .or frond thread (.g r) a b fl ∧ v = x ||| y) ∨
      (c = .xor frond thread (.g r) a b fl ∧ v = x ^^^ y) ∨ (c = .add frond thread (.g r) a b fl ∧ v = x + y) ∨
      (c = .sub frond thread (.g r) a b fl ∧ v = x + 2 ^ 32 - y) →
    Gives c s fun d => (d.thread (thrKey frond thread)).rg r = v % 2 ^ 32 ∧
      (∀ j, j % 32 ≠ r → (d.thread (thrKey frond thread)).rg j = th.rg j) ∧
      (∀ j, (d.thread (thrKey frond thread)).rv j = th.rv j) ∧
      (s.dev.flagsFrom (thrKey frond thread) fl = true → (d.thread (thrKey frond thread)).z = decide (v % 2 ^ 32 = 0)) ∧
      (s.dev.flagsFrom (thrKey frond thread) fl = false → (d.thread (thrKey frond thread)).z = th.z ∧ (d.thread (thrKey frond thread)).c = th.c ∧
        (d.thread (thrKey frond thread)).n = th.n) ∧ s.dev.keeps d [.frees, .eng]) ∧
  (∀ (s : State) (frond thread i n m : Nat) (t : Task) (th : Thread) (wide fl : Bool) (a b e : EngSrc), s.Awake →
    s.dev.acts (thrKey frond thread) 0 (bit fl) i t → th = s.dev.thread (thrKey frond thread) → n = (if wide then 16 else 4) →
    m = s.dev.srcVal (thrKey frond thread) t th e n →
    Gives (.compareUnderMask frond thread wide a b e fl) s fun d => (∃ (cf nf : Bool), d.thread (thrKey frond thread) =
        if s.dev.flagsFrom (thrKey frond thread) fl then { th with z := decide (s.dev.srcVal (thrKey frond thread) t th a n &&& m = s.dev.srcVal (thrKey frond thread) t th b n &&& m), c := cf, n := nf } else th) ∧
      d.task (frond % 8) i = some t ∧ s.dev.keeps d [.frees, .eng]) ∧
  (∀ (s : State) (frond thread i : Nat) (t : Task) (th u : Thread) (a : Transfer), s.Awake →
    s.dev.acts (thrKey frond thread) 1 (if loadsRegs a then 0 else 3) i t → th = s.dev.thread (thrKey frond thread) →
    s.dev.writePlace t th a.dst (s.dev.readPlace t th a.src (max 1 (min 128 a.len))) = some u →
    Gives (.move frond thread a none) s fun d => d.thread (thrKey frond thread) = u ∧ s.dev.keeps d [.frees, .eng]) ∧
  (∀ (s : State) (frond thread i : Nat) (t : Task) (th u v : Thread) (a b : Transfer), s.Awake →
    loadsRegs a = loadsRegs b → s.dev.acts (thrKey frond thread) 1 (if loadsRegs a then 0 else 3) i t → th = s.dev.thread (thrKey frond thread) →
    s.dev.writePlace t th a.dst (s.dev.readPlace t th a.src (max 1 (min 128 a.len))) = some u →
    s.dev.writePlace t u b.dst (s.dev.readPlace t th b.src (max 1 (min 128 b.len))) = some v →
    Gives (.move frond thread a (some b)) s fun d => d.thread (thrKey frond thread) = v ∧ s.dev.keeps d [.frees, .eng]) ∧
  (∀ (s : State) (frond thread i : Nat) (t : Task) (th u : Thread) (a b x y : Transfer), s.Awake →
    (loadsRegs a = true ∧ loadsRegs b = false ∧ x = a ∧ y = b) ∨ (loadsRegs a = false ∧ loadsRegs b = true ∧ x = b ∧ y = a) →
    s.dev.acts (thrKey frond thread) 1 0 i t → th = s.dev.thread (thrKey frond thread) →
    (s.dev.writePlace t th y.dst (List.replicate (moveBytes y) 0)).isSome = true →
    s.dev.writePlace t th x.dst (s.dev.readPlace t th x.src (moveBytes x)) = some u →
    Gives (.move frond thread a (some b)) s fun d => d.thread (thrKey frond thread) = { u with late := some y } ∧
      d.wordStage (thrKey frond thread) = 0 ∧ s.dev.keeps d [.frees, .eng]) ∧
  (∀ (s : State) (frond thread i : Nat) (t : Task) (th u : Thread) (y : Transfer), s.Awake →
    s.dev.mayIssue (thrKey frond thread) = true → s.dev.running (thrKey frond thread) = some (i, t) →
    th = s.dev.thread (thrKey frond thread) → th.late = some y →
    s.dev.writePlace t th y.dst (s.dev.readPlace t th y.src (moveBytes y)) = some u →
    Gives (.eClear frond thread) s fun d => d.thread (thrKey frond thread) = { u with late := none, edits := {} } ∧
      s.dev.keeps d [.eng]) ∧
  (∀ (s : State) (frond thread i : Nat) (t : Task) (th : Thread) (a : Transfer), s.Awake → s.dev.quiet →
    s.dev.acts (thrKey frond thread) 1 (if loadsRegs a then 0 else 3) i t → th = s.dev.thread (thrKey frond thread) → t.desc = none →
    s.dev.writePlace t th a.dst (s.dev.readPlace t th a.src (max 1 (min 128 a.len))) = none →
    Gives (.move frond thread a none) s fun d => d.thread (thrKey frond thread) = {} ∧ d.task (frond % 8) i = none ∧
      d.num FENG.FAULT_INFO (frond % 8) = faultInfo (thrKey frond thread) (s.dev.fetch (frond % 8) th.pc).1 4) ∧
  (∀ (s : State) (frond thread i len : Nat) (t : Task) (th u : Thread) (addr : EngSrc) (dst : EngPlace) (ue : Guard), s.Awake →
    s.dev.acts (thrKey frond thread) 2 0 i t → th = s.dev.thread (thrKey frond thread) → ue ≠ .bad →
    s.dev.writePlace t th dst (s.dev.spadRead (frond % 8) (s.dev.srcVal (thrKey frond thread) t th addr 4) (min 64 len)) = some u →
    Gives (.memLoad frond thread addr dst len ue) s fun d => d.thread (thrKey frond thread) = u ∧
      s.dev.moves d [.draws, .frees, .eng] [0x03, 0x60]) ∧
  (∀ (s : State) (frond thread i len : Nat) (t : Task) (addr : EngSrc) (dst : EngPlace), s.Awake → s.dev.quiet →
    s.dev.acts (thrKey frond thread) 2 0 i t → t.desc = none →
    Gives (.memLoad frond thread addr dst len .bad) s fun d => d.thread (thrKey frond thread) = {} ∧ d.task (frond % 8) i = none ∧
      d.num FENG.FAULT_INFO (frond % 8) = faultInfo (thrKey frond thread)
        (s.dev.fetch (frond % 8) (s.dev.thread (thrKey frond thread)).pc).1 6) ∧
  (∀ (s : State) (frond thread i len a : Nat) (t : Task) (th : Thread) (addr : EngSrc) (src : EngPlace), s.Awake →
    s.dev.acts (thrKey frond thread) 2 3 i t → th = s.dev.thread (thrKey frond thread) → a = s.dev.srcVal (thrKey frond thread) t th addr 4 →
    Gives (.memStore frond thread addr src len) s fun d =>
      d.spadRead (frond % 8) a (min 64 len) = s.dev.readPlace t th src (min 64 len) ∧
      (∀ k, (∀ j, j < min 64 len → k ≠ spadKey (frond % 8) (a + j)) → d.eng.spad.get 0 k = s.dev.eng.spad.get 0 k) ∧
      s.dev.moves d [.draws, .frees, .eng] [0x60]) ∧
  (∀ (s : State) (c : Instr) (frond thread n : Nat) (dst : EngPlace) (a b e : EngSrc) (fl : Bool) (x : Transfer)
      (y : Option Transfer) (ue : Guard), s.Awake →
    (bit fl < s.dev.wordStage (thrKey frond thread) ∧ (c = .and frond thread dst a b fl ∨ c = .or frond thread dst a b fl ∨
        c = .xor frond thread dst a b fl ∨ c = .add frond thread dst a b fl ∨ c = .sub frond thread dst a b fl ∨
        c = .shift frond thread n dst a b fl ∨ c = .maskset frond thread dst a b e fl ∨ c = .byteSwap frond thread dst a fl)) ∨
      (bit fl < s.dev.wordStage (thrKey frond thread) ∧ c = .compareUnderMask frond thread true a b e fl) ∨
      (0 < s.dev.wordStage (thrKey frond thread) ∧ c = .memLoad frond thread a dst n ue) ∨
      (s.dev.groupFree (thrKey frond thread) 1 = false ∧ c = .move frond thread x y) ∨
      (s.dev.groupFree (thrKey frond thread) 2 = false ∧ (c = .memLoad frond thread a dst n ue ∨ c = .memStore frond thread a dst n)) ∨
      (s.dev.mayIssue (thrKey frond thread) = false ∧ (c = .and frond thread dst a b fl ∨ c = .shift frond thread n dst a b fl ∨
        c = .move frond thread x y ∨ c = .memLoad frond thread a dst n ue ∨ c = .memStore frond thread a dst n)) → Idle c s) ∧
  (∀ (s : State) (c : Instr) (frond thread n : Nat) (dst : EngPlace) (a b e : EngSrc) (fl : Bool) (x : Transfer) (y : Option Transfer)
      (ue : Guard), c = .and frond thread dst a b fl ∨ c = .or frond thread dst a b fl ∨ c = .xor frond thread dst a b fl ∨
      c = .add frond thread dst a b fl ∨ c = .sub frond thread dst a b fl ∨ c = .shift frond thread n dst a b fl ∨
      c = .compareUnderMask frond thread fl a b e fl ∨ c = .maskset frond thread dst a b e fl ∨ c = .byteSwap frond thread dst a fl ∨
      c = .move frond thread x y ∨ c = .memLoad frond thread a dst n ue ∨ c = .memStore frond thread a dst n →
    s.Awake → s.dev.running (thrKey frond thread) = none → Idle c s)

/-- The EDIT builder and the hash units (R240, R242): operations and data that a task appends, and what exceeds the list; hashes and random
numbers. The model's own readings that its commands follow: log entries 4, 5, 63, 73 and 76. -/
def Obligations.EditsAndHashes : Prop :=
  (∀ (s : State) (frond thread i : Nat) (t : Task) (th : Thread), s.Awake → s.dev.acts (thrKey frond thread) 0 3 i t →
    th = s.dev.thread (thrKey frond thread) →
    Gives (.eClear frond thread) s fun d => d.thread (thrKey frond thread) = { th with edits := {} } ∧ s.dev.keeps d [.eng]) ∧
  (∀ (s : State) (frond thread i : Nat) (t : Task) (th : Thread) (w : Word), s.Awake → s.dev.acts (thrKey frond thread) 0 3 i t →
    th = s.dev.thread (thrKey frond thread) →
    Gives (.eOp frond thread w) s fun d =>
      (th.edits.ops.length < 8 → (d.thread (thrKey frond thread)).edits = { th.edits with ops := th.edits.ops ++ [w.toNat] } ∧
        (d.thread (thrKey frond thread)).ovf = th.ovf) ∧
      (8 ≤ th.edits.ops.length → d.thread (thrKey frond thread) = { th with ovf := true }) ∧ s.dev.keeps d [.eng]) ∧
  (∀ (s : State) (frond thread i len dst : Nat) (t : Task) (th : Thread) (src : EngPlace) (bs : List Byte), s.Awake →
    s.dev.acts (thrKey frond thread) 0 3 i t → th = s.dev.thread (thrKey frond thread) →
    bs = s.dev.readPlace t th src (max 1 (min 64 len)) →
    Gives (.eData frond thread src len dst) s fun d =>
      (th.edits.data.length + max 1 (min 64 len) ≤ 64 →
        (d.thread (thrKey frond thread)).edits = { th.edits with data := th.edits.data ++ bs } ∧
        (dst % 32 ≠ 0 → (d.thread (thrKey frond thread)).rg dst = th.edits.data.length)) ∧
      (64 < th.edits.data.length + max 1 (min 64 len) → d.thread (thrKey frond thread) = { th with ovf := true }) ∧
      s.dev.keeps d [.frees, .eng]) ∧
  (∀ (s : State) (c : Instr) (frond thread i dst h : Nat) (t : Task) (th : Thread), s.Awake →
    s.dev.acts (thrKey frond thread) 3 3 i t → th = s.dev.thread (thrKey frond thread) →
    (∃ (v6 : Bool) (zone proto port addr : EngSrc), c = .peerh frond thread v6 zone proto port addr dst ∧
      h = peerPart s.dev.flow.kp v6 (s.dev.srcVal (thrKey frond thread) t th zone 4 % 4096) (s.dev.srcVal (thrKey frond thread) t th proto 4 % 256)
        ⟨s.dev.srcVal (thrKey frond thread) t th addr (if v6 then 16 else 4), s.dev.srcVal (thrKey frond thread) t th port 4 % 65536⟩) ∨
      (∃ (v6 : Bool) (port addr : EngSrc), c = .localh frond thread v6 port addr dst ∧
        h = localHash s.dev.flow.kl v6 ⟨s.dev.srcVal (thrKey frond thread) t th addr (if v6 then 16 else 4), s.dev.srcVal (thrKey frond thread) t th port 4 % 65536⟩) ∨
      (∃ (src : EngPlace) (len key : Nat), c = .khash frond thread src len key dst ∧
        h = sipHash (th.rv key) (s.dev.readPlace t th src (min 32 len)) % 2 ^ 32) →
    Gives c s fun d => d.thread (thrKey frond thread) = (th.wg dst h).setUnit 0 ∧
      (dst % 32 ≠ 0 → (d.thread (thrKey frond thread)).rg dst = h) ∧ (d.thread (thrKey frond thread)).sts / 256 % 256 = 0 ∧
      s.dev.moves d [.draws, .frees, .eng] [0x60]) ∧
  (∀ (s : State) (frond thread i dst : Nat) (t : Task) (th : Thread), s.Awake → s.dev.acts (thrKey frond thread) 3 3 i t →
    th = s.dev.thread (thrKey frond thread) → dst % 32 ≠ 0 →
    Gives (.rand frond thread dst) s fun d =>
      (d.thread (thrKey frond thread)).rg dst = (Config.rng s.dev.draws).toNat % 2 ^ 32 ∧ d.draws = s.dev.draws + 1 ∧
      (∀ j, j % 32 ≠ dst % 32 → (d.thread (thrKey frond thread)).rg j = th.rg j) ∧ s.dev.keeps d [.draws, .eng]) ∧
  (∀ (s : State) (c : Instr) (frond thread n m dst : Nat) (w : Word) (v6 : Bool) (a b e f : EngSrc) (p : EngPlace),
    c = .eClear frond thread ∨ c = .eOp frond thread w ∨ c = .eData frond thread p n dst ∨
      c = .peerh frond thread v6 a b e f dst ∨ c = .localh frond thread v6 a b dst ∨ c = .khash frond thread p n m dst ∨
      c = .rand frond thread dst → s.Awake →
    s.dev.running (thrKey frond thread) = none ∨ s.dev.mayIssue (thrKey frond thread) = false → Idle c s) ∧
  (∀ (s : State) (c : Instr) (frond thread n m dst : Nat) (v6 : Bool) (a b e f : EngSrc) (p : EngPlace),
    c = .peerh frond thread v6 a b e f dst ∨ c = .localh frond thread v6 a b dst ∨ c = .khash frond thread p n m dst ∨
      c = .rand frond thread dst → s.Awake → s.dev.groupFree (thrKey frond thread) 3 = false → Idle c s)

/-- Task operations (R262 to R269, R276, R277, R468): a task created, spilled or refused, signals, masks and timers; what refills the
store, promotes a ready task, fires a timer, and what the host signals. The model's own readings that its commands follow: log entries 3,
4, 5, 8, 9, 45, 54, 60, 61, 69, 73, 75 and 79. -/
def Obligations.TaskOperations : Prop :=
  (∀ (s : State) (frond thread i n imm spad dst : Nat) (t : Task) (k : Nat), s.Awake → k = thrKey frond thread → imm = s.dev.immAt k n →
    s.dev.acts k 4 3 i t → 5 ≤ imm % 16 → s.dev.entryOk s.dev.cgen (imm % 16) = true →
    s.dev.placeable (frond % 8) (if bitOf imm 6 then bitsOf imm 4 2 else s.dev.kindPrio (imm % 16)) = true →
    Gives (.tCreate frond thread n spad dst) s fun d => (∃ (j : Nat) (u : Task), d.task (frond % 8) j = some u ∧
        u.kind = imm % 16 ∧ u.state = 1 ∧ u.prio = (if bitOf imm 6 then bitsOf imm 4 2 else s.dev.kindPrio (imm % 16)) ∧
        u.args = s.dev.argsFor k (if bitOf imm 7 then some spad else none) ∧ u.epoch = s.dev.num (COMMIT 0) % 65536 ∧
        d.readyOf (frond % 8) u.prio = s.dev.readyOf (frond % 8) u.prio ++ [j] ∧
        (dst % 32 ≠ 0 → (d.thread k).rg dst = u.id j % 2 ^ 32)) ∧
      (d.thread k).sts % 256 = 0 ∧ s.dev.moves d [.draws, .eng] [0x32]) ∧
  (∀ (s : State) (frond thread i n imm spad dst p : Nat) (t : Task) (k : Nat), s.Awake → k = thrKey frond thread → imm = s.dev.immAt k n →
    s.dev.acts k 4 3 i t → 5 ≤ imm % 16 → s.dev.entryOk s.dev.cgen (imm % 16) = true →
    p = (if bitOf imm 6 then bitsOf imm 4 2 else s.dev.kindPrio (imm % 16)) → s.dev.placeable (frond % 8) p = false →
    Gives (.tCreate frond thread n spad dst) s fun d =>
      ((s.dev.ringOf (frond % 8) p).length < s.dev.ringRoom (frond % 8) p → (d.thread k).sts % 256 = 4 ∧
        (d.ringOf (frond % 8) p).length = (s.dev.ringOf (frond % 8) p).length + 1) ∧
      (s.dev.ringRoom (frond % 8) p ≤ (s.dev.ringOf (frond % 8) p).length → (d.thread k).sts % 256 = 2 ∧
        d.ringOf (frond % 8) p = s.dev.ringOf (frond % 8) p ∧ d.raised TASK.int_SPILL_FULL = true) ∧
      (dst % 32 ≠ 0 → (d.thread k).rg dst = 0xFFFFF) ∧ s.dev.moves d [.draws, .mem, .eng] [0x32, 0x50]) ∧
  (∀ (s : State) (frond thread i n imm spad dst : Nat) (t : Task), s.Awake → imm = s.dev.immAt (thrKey frond thread) n →
    s.dev.acts (thrKey frond thread) 4 3 i t →
    imm % 16 < 5 ∨ s.dev.entryOk s.dev.cgen (imm % 16) = false →
    Gives (.tCreate frond thread n spad dst) s fun d =>
      d.thread (thrKey frond thread) = (s.dev.thread (thrKey frond thread)).setUpd 3 ∧ s.dev.keeps d [.eng]) ∧
  (∀ (s : State) (c : Instr) (frond thread i n imm idReg id j : Nat) (t u : Task), s.Awake →
    (c = .tSignal frond thread n idReg ∧ imm = s.dev.immAt (thrKey frond thread) n ∧ s.dev.acts (thrKey frond thread) 4 3 i t ∧
      id = (s.dev.thread (thrKey frond thread)).rg idReg % 2 ^ 20) ∨
      (c = .sigFlags frond imm ∧ s.dev.pageOpen 0x32 = true ∧ s.dev.enabled 0x32 = true ∧
        id = s.dev.num TASK.SIG_ID (frond % 8) % 2 ^ 20) →
    s.dev.taskById (frond % 8) id = some (j, u) →
    Gives c s fun d => (u.state ≠ 2 → u.state ≠ 3 →
        d.task (frond % 8) j = some { u with flags := u.flags ||| imm % 65536 } ∧ s.dev.keeps d [.eng]) ∧
      (u.state = 3 → Task.holds { u with flags := u.flags ||| imm % 65536 } = false →
        d.task (frond % 8) j = some { u with flags := u.flags ||| imm % 65536 }) ∧
      (u.state = 3 → Task.holds { u with flags := u.flags ||| imm % 65536 } = true → (∃ v, d.task (frond % 8) j = some v ∧ v.state = 1 ∧
        v.saved = u.saved.set 0 ((u.flags ||| imm % 65536) &&& u.mask) ∧
        v.flags = ((u.flags ||| imm % 65536) &&& (0xFFFF ^^^ ((u.flags ||| imm % 65536) &&& u.mask)))) ∧
        d.readyOf (frond % 8) u.prio = s.dev.readyOf (frond % 8) u.prio ++ [j]) ∧ s.dev.moves d [.eng] [0x32]) ∧
  (∀ (s : State) (c : Instr) (frond thread i n imm idReg id : Nat) (t : Task), s.Awake →
    (c = .tSignal frond thread n idReg ∧ imm = s.dev.immAt (thrKey frond thread) n ∧ s.dev.acts (thrKey frond thread) 4 3 i t ∧
      id = (s.dev.thread (thrKey frond thread)).rg idReg % 2 ^ 20) ∨
      (c = .sigFlags frond imm ∧ s.dev.pageOpen 0x32 = true ∧ s.dev.enabled 0x32 = true ∧
        id = s.dev.num TASK.SIG_ID (frond % 8) % 2 ^ 20) →
    s.dev.taskById (frond % 8) id = none →
    Gives c s fun d => d.num (TASK.CNT.ix 9) (frond % 8) = (s.dev.num (TASK.CNT.ix 9) (frond % 8) + 1) % 2 ^ 32 ∧
      s.dev.keeps d [.regs, .eng]) ∧
  (∀ (s : State) (frond flags : Nat), s.Opens 0x32 → s.dev.enabled 0x32 = false → Idle (.sigFlags frond flags) s) ∧
  (∀ (s : State) (frond thread i imm : Nat) (t : Task) (all : Bool), s.Awake → s.dev.acts (thrKey frond thread) 4 3 i t →
    Gives (.tMask frond thread imm all) s fun d =>
      d.task (frond % 8) i = some { t with mask := s.dev.immAt (thrKey frond thread) imm % 65536, all := all } ∧
      s.dev.keeps d [.eng]) ∧
  (∀ (s : State) (frond thread i r n : Nat) (t : Task), s.Awake → s.dev.acts (thrKey frond thread) 4 3 i t →
    n = (s.dev.thread (thrKey frond thread)).rg r → n < 2 ^ 24 →
    Gives (.tTimer frond thread r) s fun d => d.task (frond % 8) i =
        some { t with armed := decide (n ≠ 0), deadline := s.dev.upUs + n } ∧ s.dev.keeps d [.frees, .eng]) ∧
  (∀ (s : State) (frond thread i r n : Nat) (t : Task) (spad : Option Nat), s.Awake →
    s.dev.acts (thrKey frond thread) 4 3 i t → n = (s.dev.thread (thrKey frond thread)).rg r → n < 2 ^ 24 →
    s.dev.num TASK.RESERVE < s.dev.storeFree (frond % 8) → s.dev.entryOk s.dev.cgen 4 = true →
    Gives (.tTimertask frond thread r spad) s fun d => (∃ (j : Nat) (u : Task), d.task (frond % 8) j = some u ∧ u.kind = 4 ∧
        u.state = 4 ∧ u.deadline = s.dev.upUs + n ∧ u.args = s.dev.argsFor (thrKey frond thread) spad) ∧
      (d.thread (thrKey frond thread)).sts % 256 = 0 ∧ s.dev.moves d [.draws, .frees, .eng] [0x32]) ∧
  (∀ (s : State) (frond thread i r : Nat) (t : Task) (spad : Option Nat), s.Awake →
    s.dev.acts (thrKey frond thread) 4 3 i t → s.dev.storeFree (frond % 8) ≤ s.dev.num TASK.RESERVE →
    Gives (.tTimertask frond thread r spad) s fun d => (d.thread (thrKey frond thread)).sts % 256 = 2 ∧
      d.raised TASK.int_TIMER_FULL = true ∧ d.eng.tasks = s.dev.eng.tasks ∧ s.dev.moves d [.eng] [0x32]) ∧
  (∀ (s : State) (frond thread i dst : Nat) (t : Task), s.Awake → s.dev.acts (thrKey frond thread) 4 3 i t →
    Gives (.tSelf frond thread dst) s fun d =>
      d.thread (thrKey frond thread) = (s.dev.thread (thrKey frond thread)).wg dst (t.id i) ∧
      (dst % 32 ≠ 0 → (d.thread (thrKey frond thread)).rg dst = t.id i % 2 ^ 32) ∧ s.dev.keeps d [.eng]) ∧
  (∀ (s : State) (c : Instr) (frond thread n m p : Nat) (b : Bool) (o : Option Nat), c = .tCreate frond thread n m p ∨
      c = .tSignal frond thread n m ∨ c = .tMask frond thread n b ∨ c = .tTimer frond thread n ∨ c = .tTimertask frond thread n o ∨
      c = .tSelf frond thread n → s.Awake → s.dev.running (thrKey frond thread) = none ∨ s.dev.mayIssue (thrKey frond thread) = false ∨
      s.dev.groupFree (thrKey frond thread) 4 = false → Idle c s) ∧
  (∀ (s : State) (c p : Nat) (u : Task), s.Awake → c < 8 → p < 4 → (s.dev.readyOf c p).length < 64 →
    s.dev.num TASK.RESERVE + 16 < s.dev.storeFree c → s.dev.ringOf c p = [u] → u.state = 1 → s.dev.wantsOf c p = [] →
    Gives (.refill c p []) s fun d => d.ringOf c p = [] ∧ (∃ (j : Nat) (v : Task), d.task c j = some v ∧ v.kind = u.kind ∧
        v.args = u.args ∧ v.state = 1 ∧ d.readyOf c u.prio = s.dev.readyOf c u.prio ++ [j]) ∧
      s.dev.moves d [.draws, .mem, .eng] [0x32, 0x50]) ∧
  (∀ (s : State) (c p n : Nat) (u : Task) (b : BadTask), s.Awake → c < 8 → p < 4 → (s.dev.readyOf c p).length < 64 →
    s.dev.num TASK.RESERVE + 16 < s.dev.storeFree c → s.dev.ringOf c p = [u] → u.pos = some n → b.pos = 0 →
    oneSymbol b.word = false → s.dev.wantsOf c p = [] →
    Gives (.refill c p [b]) s fun d => d.ringOf c p = [] ∧ d.eng.tasks = s.dev.eng.tasks ∧
      d.num FUSE.TASK_LOST = (s.dev.num FUSE.TASK_LOST + 1) % 2 ^ 32 ∧ s.dev.moves d [.draws, .eng, .mem] [0x03, 0x50]) ∧
  (∀ (s : State) (c p : Nat) (bad : List BadTask), s.Awake → c < 8 → p < 4 → (s.dev.readyOf c p).length < 64 →
    s.dev.num TASK.RESERVE + 16 < s.dev.storeFree c → s.dev.wantsOf c p = [] →
    Gives (.refill c p bad) s fun d => d.ringOf c p = (s.dev.ringOf c p).drop 16 ∧ s.dev.moves d [.draws, .eng, .mem] [0x03, 0x32, 0x50]) ∧
  (∀ (s : State) (c p : Nat) (bad : List BadTask), s.Awake → c < 8 → p < 4 → 64 ≤ (s.dev.readyOf c p).length ∨
    s.dev.storeFree c ≤ s.dev.num TASK.RESERVE + 16 → Idle (.refill c p bad) s) ∧
  (∀ (s : State) (c i : Nat) (t : Task), s.Awake → c < 8 → i < 4096 → s.dev.task c i = some t → s.dev.num TASK.STARVE ≠ 0 → t.prio ≠ 0 →
    i ∈ s.dev.readyOf c t.prio → t.since + s.dev.num TASK.STARVE ≤ s.dev.upUs →
    Gives (.promote c i) s fun d => d.task c i = some { t with prio := t.prio - 1, state := 1, since := s.dev.upUs } ∧
      d.readyOf c t.prio = (s.dev.readyOf c t.prio).filter (· ≠ i) ∧
      d.readyOf c (t.prio - 1) = s.dev.readyOf c (t.prio - 1) ++ [i] ∧ s.dev.moves d [.eng] [0x32]) ∧
  (∀ (s : State) (c i : Nat) (t : Task), s.Awake → c < 8 → i < 4096 → s.dev.task c i = some t → s.dev.num TASK.STARVE = 0 ∨ t.prio = 0 ∨
    i ∉ s.dev.readyOf c t.prio ∨ s.dev.upUs < t.since + s.dev.num TASK.STARVE → Idle (.promote c i) s) ∧
  (∀ (s : State) (c i : Nat) (t : Task), s.Awake → c < 8 → i < 4096 → s.dev.task c i = some t → t.deadline ≤ s.dev.upUs →
    Gives (.timerFire c i) s fun d =>
      (t.state = 4 → d.task c i = some { t with state := 1, since := s.dev.upUs } ∧
        d.readyOf c t.prio = s.dev.readyOf c t.prio ++ [i]) ∧
      (t.state = 1 → t.armed = true → d.task c i = some { t with armed := false, flags := t.flags ||| 0x8000 }) ∧
      (t.state ≠ 4 → t.armed = false → d = s.dev) ∧ s.dev.moves d [.eng] [0x32]) ∧
  (∀ (s : State) (c i : Nat) (t : Task), s.Awake → c < 8 → i < 4096 → s.dev.task c i = some t → s.dev.upUs < t.deadline →
    Idle (.timerFire c i) s) ∧
  (∀ (s : State) (c i : Nat), s.Awake → c < 8 → i < 4096 → s.dev.task c i = none → Idle (.timerFire c i) s ∧ Idle (.promote c i) s)

/-- The scheduling trace (R270, R271): an entry goes into the ring or is lost; the mirror of the ring to host memory. The model's own
readings that its commands follow: log entries 3, 4, 60, 69 and 115. -/
def Obligations.SchedulingTrace : Prop :=
  (∀ (s : State) (c : Nat) (e : List Byte) (r : List (List Byte)), s.Awake → c < 8 → s.dev.traceQ c = e :: r → e.length = 16 →
    s.dev.on TASK.TRACE_CFG_STOP c = false ∨ (s.dev.num TASK.TRACE_WR c + 65536 - s.dev.num TASK.TRACE_RD c) % 65536 ≠
      2 ^ s.dev.fld TASK.TRACE_RING_SIZE c →
    Gives (.traceEntryWrite c) s fun d => d.traceQ c = r ∧
      d.spadRead c (s.dev.fld TASK.TRACE_RING_BASE c * 16 + 16 * (s.dev.num TASK.TRACE_WR c % 2 ^ s.dev.fld TASK.TRACE_RING_SIZE c)) 16 = e ∧
      d.num TASK.TRACE_WR c = (s.dev.num TASK.TRACE_WR c + 1) % 65536 ∧ s.dev.keeps d [.regs, .sw, .eng] ∧ s.dev.keepsPages d [0x32]) ∧
  (∀ (s : State) (c : Nat) (e : List Byte) (r : List (List Byte)), s.Awake → c < 8 → s.dev.traceQ c = e :: r →
    s.dev.on TASK.TRACE_CFG_STOP c = true → (s.dev.num TASK.TRACE_WR c + 65536 - s.dev.num TASK.TRACE_RD c) % 65536 =
      2 ^ s.dev.fld TASK.TRACE_RING_SIZE c →
    Gives (.traceEntryWrite c) s fun d => d.traceQ c = r ∧ d.eng.spad = s.dev.eng.spad ∧ d.raised TASK.int_TRACE_LOST = true ∧
      d.num TASK.TRACE_LOST c = (s.dev.num TASK.TRACE_LOST c + 1) % 2 ^ 32 ∧ s.dev.moves d [.eng] [0x32]) ∧
  (∀ (s : State) (c : Nat), s.Awake → c < 8 → s.dev.traceQ c = [] → Idle (.traceEntryWrite c) s) ∧
  (∀ (s : State) (c : Nat), s.Opens 0x32 → c < 8 → s.dev.opState TASK.MIRROR_STAT c ≠ 1 →
    Gives (.mirrorGo c) s fun d => d.num TASK.MIRROR_STAT c = 1 ∧ s.dev.keeps d [.regs, .sw] ∧
      s.dev.keepsBut d [TASK.MIRROR_STAT.key 0 c]) ∧
  (∀ (s : State) (c : Nat), s.Opens 0x32 → c < 8 → s.dev.opState TASK.MIRROR_STAT c = 1 → Idle (.mirrorGo c) s) ∧
  (∀ (s : State) (c done n : Nat), s.Opens 0x32 → c < 8 → s.dev.opState TASK.MIRROR_STAT c = 1 →
    n = min done (s.dev.mirrorCount c - 1) →
    Gives (.mirrorAbort c done) s fun d => d.num TASK.MIRROR_STAT c = statusWord 3 0 n ∧
      d.num TASK.TRACE_RD c = (s.dev.num TASK.TRACE_RD c + n) % 65536 ∧ s.dev.moves d [.hostMem] [0x32]) ∧
  (∀ (s : State) (c done n : Nat), s.Awake → c < 8 → s.dev.opState TASK.MIRROR_STAT c = 1 → n = min done (s.dev.mirrorCount c) →
    Gives (.mirrorDone c done .clean) s fun d =>
      d.num TASK.MIRROR_STAT c = statusWord (if s.dev.mirrorCount c ≤ done then 2 else 4) 0 n ∧
      d.num TASK.TRACE_RD c = (s.dev.num TASK.TRACE_RD c + n) % 65536 ∧ d.raised TASK.int_MIRROR_DONE = true ∧
      (∀ j, j < n → d.dmaRead (s.dev.num2 TASK.MIRROR_ADDR_LO TASK.MIRROR_ADDR_HI c + 16 * j) 16 =
        s.dev.spadRead c (s.dev.fld TASK.TRACE_RING_BASE c * 16 +
          16 * ((s.dev.num TASK.TRACE_RD c + j) % 2 ^ s.dev.fld TASK.TRACE_RING_SIZE c)) 16) ∧ s.dev.moves d [.hostMem] [0x32]) ∧
  (∀ (s : State) (c done : Nat) (ue : Guard), s.Awake → c < 8 → s.dev.opState TASK.MIRROR_STAT c ≠ 1 → Idle (.mirrorDone c done ue) s)

/-- Patches, the control store and program counters (R251 to R253, R256, R259): slots and patch RAM written in the fronds of PATCH_MASK
until the module is sealed, and what the host reads and clears. The model's own readings that its commands follow: log entries 3, 4, 5, 13
and 87. -/
def Obligations.PatchesAndCounters : Prop :=
  (∀ (s : State) (slot : Nat) (w : Word), s.Opens 0x34 → slot < 32 → s.dev.otp.sealed = false →
    Gives (.patchSlotWrite slot w) s fun d => (∀ c i, c < 8 → i < 32 → d.eng.patch.get 0 (c * 32 + i) =
        if i = slot ∧ bitOf (s.dev.num CSTO.PATCH_MASK) c = true then w.toNat % 2 ^ 22 + bit (bitOf w.toNat 31) * 2 ^ 31
        else s.dev.eng.patch.get 0 (c * 32 + i)) ∧ s.dev.keeps d [.eng]) ∧
  (∀ (s : State) (w : Word), s.Opens 0x34 → s.dev.otp.sealed = false →
    Gives (.pramDataAccess 0 (some w)) s fun d => (∀ c i, c < 8 → i < 256 → d.eng.pram.get 0 (c * 256 + i) =
        if i = s.dev.num CSTO.PRAM_IDX % 256 ∧ bitOf (s.dev.num CSTO.PATCH_MASK) c = true then w.toNat
        else s.dev.eng.pram.get 0 (c * 256 + i)) ∧
      d.num CSTO.PRAM_IDX = (s.dev.num CSTO.PRAM_IDX + 1) % 256 ∧ s.dev.keeps d [.regs, .eng] ∧
      s.dev.keepsBut d [CSTO.PRAM_IDX.key 0 0]) ∧
  (∀ (s : State) (c : Instr) (slot path : Nat) (w : Word), c = .patchSlotWrite slot w ∨ c = .pramDataAccess path (some w) →
    s.Opens 0x34 → s.dev.otp.sealed = true →
    Gives c s fun d => d.raised CSTO.int_PATCH_REFUSED = true ∧ s.dev.reportsOnly d) ∧
  (∀ (s : State) (path : Nat), s.Opens 0x34 →
    Gives (.pramDataAccess path none) s fun d => d.out = .words path [BitVec.ofNat 32 (s.dev.eng.pram.get 0
        (s.dev.fld CSTO.PATCH_MASK_RD_FROND * 256 + s.dev.num CSTO.PRAM_IDX % 256))] :: s.dev.out ∧
      d.num CSTO.PRAM_IDX = (s.dev.num CSTO.PRAM_IDX + 1) % 256 ∧ s.dev.keeps d [.regs, .out] ∧
      s.dev.keepsBut d [CSTO.PRAM_IDX.key 0 0]) ∧
  (∀ (s : State) (path i v : Nat), s.Opens 0x34 → path < 2 → i = s.dev.num CSTO.CS_IDX % 2 ^ 14 →
    v = (if s.dev.on CSTO.CS_IDX_SPACE then s.dev.eng.nano.get 0 i else s.dev.eng.micro.get 0 i) →
    Gives (.csDataRead path) s fun d => d.out = .words path [BitVec.ofNat 32 v] :: s.dev.out ∧
      d.regP (CSTO.CS_DATA.ix 0) path 0 = BitVec.ofNat 32 v ∧
      (s.dev.on CSTO.CS_IDX_SPACE = true → ∀ j, j < 8 → d.regP (CSTO.CS_DATA.ix j) path 0 = BitVec.ofNat 32 (v / 2 ^ (32 * j))) ∧
      s.dev.keeps d [.regs, .out] ∧ s.dev.keepsPages d [0x34]) ∧
  (∀ (s : State) (c : Nat), s.Opens 0x31 → c < 8 →
    Gives (.pcntClr c) s fun d => d.pcnt c (s.dev.num FENG.PCNT_IDX c) = 0 ∧
      (∀ j, j < 8192 → j ≠ s.dev.num FENG.PCNT_IDX c % 8192 → d.pcnt c j = s.dev.pcnt c j) ∧ s.dev.keeps d [.eng])

/-- Scratchpad DMA, march tests and export messages (R273 to R275, R279, R280, R302). The model's own readings that its commands follow:
log entries 3, 4, 5, 32, 69, 78, 86, 87 and 115. -/
def Obligations.ScratchpadServices : Prop :=
  (∀ (s : State) (c : Nat) (dir : Bool), s.Opens 0x33 → c < 8 → s.dev.opState SPAD.DMA_STAT c ≠ 1 →
    Gives (.dmaGo c dir) s fun d => d.num SPAD.DMA_STAT c = 1 ∧ d.on SPAD.DMA_CTRL_DIR c = dir ∧
      d.eng.still.contains c = !s.dev.enabled 0x33 ∧ s.dev.keeps d [.regs, .sw, .eng] ∧
      s.dev.keepsPages d [0x33]) ∧
  (∀ (s : State) (c : Nat) (dir : Bool), s.Opens 0x33 → c < 8 → s.dev.opState SPAD.DMA_STAT c = 1 → Idle (.dmaGo c dir) s) ∧
  (∀ (s : State) (c done n : Nat), s.Opens 0x33 → c < 8 → s.dev.opState SPAD.DMA_STAT c = 1 →
    n = (if s.dev.eng.still.contains c then 0 else min done (s.dev.spadWords c - 1)) →
    Gives (.dmaAbort c done) s fun d => d.num SPAD.DMA_STAT c = statusWord 3 0 n ∧ s.dev.moves d [.hostMem, .eng] [0x33]) ∧
  (∀ (s : State) (c done : Nat), s.Awake → c < 8 → s.dev.enabled 0x33 = true → s.dev.opState SPAD.DMA_STAT c = 1 →
    s.dev.on SPAD.DMA_CTRL_DIR c = true → s.dev.spadWords c ≤ done →
    Gives (.dmaDone c done .clean) s fun d => d.num SPAD.DMA_STAT c = statusWord 2 0 (s.dev.spadWords c) ∧
      d.dmaRead (s.dev.num2 SPAD.DMA_HOST_LO SPAD.DMA_HOST_HI c) (32 * s.dev.spadWords c) =
        s.dev.spadRead c (s.dev.num SPAD.DMA_SPAD c) (32 * s.dev.spadWords c) ∧
      d.raised SPAD.int_DMA_DONE = true ∧ s.dev.moves d [.hostMem] [0x33]) ∧
  (∀ (s : State) (c done : Nat), s.Awake → c < 8 → s.dev.enabled 0x33 = true → s.dev.opState SPAD.DMA_STAT c = 1 →
    s.dev.on SPAD.DMA_CTRL_DIR c = false → s.dev.spadWords c ≤ done → 32 * s.dev.spadWords c ≤ 2 ^ 20 →
    Gives (.dmaDone c done .clean) s fun d => d.num SPAD.DMA_STAT c = statusWord 2 0 (s.dev.spadWords c) ∧
      d.spadRead c (s.dev.num SPAD.DMA_SPAD c) (32 * s.dev.spadWords c) =
        s.dev.dmaRead (s.dev.num2 SPAD.DMA_HOST_LO SPAD.DMA_HOST_HI c) (32 * s.dev.spadWords c) ∧
      d.raised SPAD.int_DMA_DONE = true ∧ s.dev.moves d [.eng] [0x33]) ∧
  (∀ (s : State) (c done : Nat), s.Awake → c < 8 → s.dev.enabled 0x33 = true → s.dev.opState SPAD.DMA_STAT c = 1 →
    done < s.dev.spadWords c →
    Gives (.dmaDone c done .clean) s fun d => d.num SPAD.DMA_STAT c = statusWord 4 0 done ∧ d.raised SPAD.int_DMA_FAIL = true ∧
      s.dev.moves d [.hostMem, .eng] [0x33]) ∧
  (∀ (s : State) (c done : Nat) (ue : Guard), s.Awake → c < 8 → s.dev.opState SPAD.DMA_STAT c ≠ 1 ∨ s.dev.enabled 0x33 = false →
    Idle (.dmaDone c done ue) s) ∧
  (∀ (s : State) (t mode : Nat), s.Opens 0x70 → t < 9 → mode < 3 → s.dev.opState MARC.MARCH_STAT t ≠ 1 →
    s.dev.marchAllowed t mode = true →
    Gives (.marchGo t mode) s fun d => d.num MARC.MARCH_STAT t = 1 ∧ d.eng.march.get 0 t = mode ∧ s.dev.keeps d [.regs, .eng] ∧
      s.dev.keepsBut d [MARC.MARCH_STAT.key 0 t]) ∧
  (∀ (s : State) (t mode : Nat), s.Opens 0x70 → t < 9 → mode < 3 → s.dev.marchAllowed t mode = false →
    Gives (.marchGo t mode) s fun d => d.raised MARC.int_REFUSED = true ∧ s.dev.reportsOnly d) ∧
  (∀ (s : State) (t mode : Nat), s.Opens 0x70 → t < 9 → mode < 4 →
    mode = 3 ∨ (s.dev.marchAllowed t mode = true ∧ s.dev.opState MARC.MARCH_STAT t = 1) →
    Idle (.marchGo t mode) s) ∧
  (∀ s : State, s.Awake → s.dev.enabled 0x70 = true → s.dev.fld MARC.AUTO_INTERVAL ≠ 0 →
    s.dev.eng.marchS + s.dev.fld MARC.AUTO_INTERVAL ≤ s.dev.upMs / 1000 →
    Gives .marchAuto s fun d => (∀ t, t < 9 → d.opState MARC.MARCH_STAT t = 1) ∧ d.eng.marchS = s.dev.upMs / 1000 ∧
      (∀ t, t < 9 → s.dev.opState MARC.MARCH_STAT t ≠ 1 → d.eng.march.get 0 t = (if t = 8 then 2 else 1)) ∧
      s.dev.moves d [.eng] [0x70]) ∧
  (∀ s : State, s.Awake → s.dev.enabled 0x70 = false ∨ s.dev.fld MARC.AUTO_INTERVAL = 0 ∨
    s.dev.upMs / 1000 < s.dev.eng.marchS + s.dev.fld MARC.AUTO_INTERVAL → Idle .marchAuto s) ∧
  (∀ (s : State) (t done : Nat) (fails : List Nat), s.Opens 0x70 → t < 9 → s.dev.opState MARC.MARCH_STAT t = 1 →
    Gives (.marchAbort t done fails) s fun d => d.num MARC.MARCH_STAT t = statusWord 3 0 (min done (marchSize t - 1)) ∧
      d.num MARC.FAILS t = fails.length % 2 ^ 20) ∧
  (∀ (s : State) (t : Nat) (fails : List Nat), s.Awake → t < 9 → s.dev.opState MARC.MARCH_STAT t = 1 →
    Gives (.marchDone t fails) s fun d => d.num MARC.MARCH_STAT t = statusWord 2 0 (marchSize t) ∧
      d.num MARC.FAILS t = fails.length % 2 ^ 20 ∧ d.raised MARC.int_DONE = true) ∧
  (∀ (s : State) (t : Nat) (fails : List Nat), s.Awake → t < 9 → s.dev.opState MARC.MARCH_STAT t ≠ 1 → Idle (.marchDone t fails) s) ∧
  (∀ (s : State) (c n : Nat) (pick : List Nat), s.Awake → c < 8 → (s.dev.exportQ c).recs ≠ [] → s.dev.exportEn c = true →
    n = ipfixFit 256 (s.dev.exportDesc c 62 1) (s.dev.exportDesc c 64 2) 0 (s.dev.exportQ c).recs →
    n < (s.dev.exportQ c).recs.length ∨ (s.dev.exportQ c).times.headD 0 + s.dev.exportDesc c 68 2 * 10000 ≤ s.dev.clk.up →
    (s.dev.madeFrame (34 + c) (s.dev.exportDesc c 66 1) (s.dev.exportDesc c 67 1) (s.dev.exportFrame c n) pick id).isSome = true →
    Gives (.exportMessage c pick) s fun d => (d.exportQ c).sent = (s.dev.exportQ c).sent + n ∧
      (∃ more, (d.exportQ c).recs = (s.dev.exportQ c).recs.drop n ++ more)) ∧
  (∀ (s : State) (c : Nat) (pick : List Nat), s.Awake → c < 8 → (s.dev.exportQ c).recs = [] ∨ s.dev.exportEn c = false →
    Idle (.exportMessage c pick) s)

/-- Cipher calls of engine threads and the lock (R309 to R312, R316, R319, R326): who holds the lock, what a call without it answers, the
order of waiters, their expiry, and the timeout of an idle holder. The model's own readings that its commands follow: log entries 3, 4, 5,
61, 69, 73, 74 and 80. -/
def Obligations.CipherLockAndCalls : Prop :=
  (∀ (s : State) (frond thread i k : Nat) (t : Task), s.Awake → k = thrKey frond thread → s.dev.acts k 3 3 i t →
    Gives (.lock frond thread) s fun d =>
      (s.dev.enabled 0x38 = false → d.thread k = (s.dev.thread k).setUnit 7 ∧ s.dev.keeps d [.eng]) ∧
      (s.dev.enabled 0x38 = true → (s.dev.cipher (frond % 8)).holder = some (.task (k % 256) (t.id i)) →
        d.thread k = (s.dev.thread k).setUnit 0 ∧ s.dev.keeps d [.eng]) ∧
      (s.dev.enabled 0x38 = true → (s.dev.cipher (frond % 8)).holder ≠ some (.task (k % 256) (t.id i)) →
        d.cipher (frond % 8) = { s.dev.cipher (frond % 8) with waiters := (s.dev.cipher (frond % 8)).waiters ++
          [{ user := .task (k % 256) (t.id i), call := none, since := s.dev.clk.up }] } ∧
        d.thread k = { s.dev.thread k with wait := some (.lock s.dev.clk.up) } ∧ s.dev.keeps d [.eng, .units])) ∧
  (∀ (s : State) (c : Instr) (frond thread slot op src dst i k : Nat) (t : Task) (once : Bool) (call : BlockCall), s.Awake →
    (c = .enc frond thread slot once src dst ∧ op = 0) ∨ (c = .dec frond thread slot once src dst ∧ op = 1) →
    k = thrKey frond thread → s.dev.acts k 3 3 i t → s.dev.enabled 0x38 = true →
    call = { thread := k % 256, id := t.id i, slot := slot % 32, op := op, once := once,
             block := leBytes 16 ((s.dev.thread k).rv src), dst := dst % 4 } →
    s.dev.unitFull (frond % 8) = false → (s.dev.cipher (frond % 8)).arrivals = [] →
    Gives c s fun d =>
      (once = true → d.cipher (frond % 8) = { s.dev.cipher (frond % 8) with waiters := (s.dev.cipher (frond % 8)).waiters ++
          [{ user := .task (k % 256) (t.id i), call := some call, since := s.dev.clk.up }] } ∧
        d.thread k = { s.dev.thread k with wait := some .block }) ∧
      (once = false → (s.dev.cipher (frond % 8)).holder = some (.task (k % 256) (t.id i)) →
        d.cipher (frond % 8) = { s.dev.cipher (frond % 8) with
          active := s.dev.clk.up, queue := (s.dev.cipher (frond % 8)).queue ++ [call] } ∧
        d.thread k = { s.dev.thread k with wait := some .block }) ∧
      (once = false → (s.dev.cipher (frond % 8)).holder ≠ some (.task (k % 256) (t.id i)) →
        d.thread k = (s.dev.thread k).setUnit 2 ∧ d.units = s.dev.units) ∧ s.dev.keeps d [.eng, .units]) ∧
  (∀ (s : State) (c : Instr) (frond thread slot op src dst i k : Nat) (t : Task) (once : Bool) (call : BlockCall), s.Awake →
    (c = .enc frond thread slot once src dst ∧ op = 0) ∨ (c = .dec frond thread slot once src dst ∧ op = 1) →
    k = thrKey frond thread → s.dev.acts k 3 3 i t → s.dev.enabled 0x38 = true →
    call = { thread := k % 256, id := t.id i, slot := slot % 32, op := op, once := once,
             block := leBytes 16 ((s.dev.thread k).rv src), dst := dst % 4 } →
    s.dev.unitFull (frond % 8) = true →
    Gives c s fun d => d.cipher (frond % 8) = { s.dev.cipher (frond % 8) with
        arrivals := (s.dev.cipher (frond % 8)).arrivals ++ [call] } ∧
      d.thread k = { s.dev.thread k with wait := some .block } ∧ s.dev.keeps d [.eng, .units]) ∧
  (∀ (s : State) (frond thread slot dst i k : Nat) (t : Task), s.Awake → k = thrKey frond thread → s.dev.acts k 3 3 i t →
    s.dev.enabled 0x38 = true → (s.dev.cipher (frond % 8)).holder = some (.task (k % 256) (t.id i)) →
    s.dev.unitFull (frond % 8) = false → (s.dev.cipher (frond % 8)).arrivals = [] → s.dev.unitIdle (frond % 8) = false →
    Gives (.nonce frond thread slot false dst .clean) s fun d =>
      (∃ q : BlockCall, (d.cipher (frond % 8)).queue = (s.dev.cipher (frond % 8)).queue ++ [q] ∧ q.op = 2 ∧ q.slot = slot % 32 ∧
        q.thread = k % 256 ∧ q.id = t.id i ∧ q.dst = dst % 4 ∧ q.once = false) ∧
      d.thread k = { s.dev.thread k with wait := some .block } ∧ s.dev.keeps d [.eng, .units]) ∧
  (∀ (s : State) (frond thread slot dst i k : Nat) (t : Task), s.Awake → k = thrKey frond thread → s.dev.acts k 3 3 i t →
    s.dev.enabled 0x38 = true → (s.dev.cipher (frond % 8)).holder = some (.task (k % 256) (t.id i)) →
    s.dev.unitFull (frond % 8) = false → (s.dev.cipher (frond % 8)).arrivals = [] → s.dev.unitIdle (frond % 8) = true →
    slot < 32 → (s.dev.keySlot (frond % 8) slot).cmd = none →
    Gives (.nonce frond thread slot false dst .bad) s fun d => (d.keySlot (frond % 8) slot).fault = true ∧
      d.raised CIPH.int_KEY_FAULT = true ∧ (d.thread k).sts / 256 % 256 = 5) ∧
  (∀ (s : State) (frond thread slot dst i k : Nat) (t : Task) (x : KeySlot), s.Awake → k = thrKey frond thread →
    s.dev.acts k 3 3 i t → s.dev.enabled 0x38 = true →
    (s.dev.cipher (frond % 8)).holder = some (.task (k % 256) (t.id i)) → x = s.dev.keySlot (frond % 8) slot → slot < 32 →
    x.cmd = none → s.dev.unitFull (frond % 8) = false → (s.dev.cipher (frond % 8)).arrivals = [] →
    s.dev.unitIdle (frond % 8) = true →
    Gives (.nonce frond thread slot false dst .clean) s fun d =>
      (x.fault = false → x.valid = true → x.counter < 2 ^ 48 →
        d.keySlot (frond % 8) slot = { x with counter := x.counter + 1 } ∧
        (d.thread k).rv dst = leNat (beBytes 6 x.epoch ++ beBytes 6 x.counter ++ leBytes 1 x.gen ++ [0, 0, 0]) ∧
        (d.thread k).sts / 256 % 256 = 0 ∧ (d.thread k).wait = none) ∧
      (x.fault = false → x.valid = true → 2 ^ 48 ≤ x.counter →
        d.keySlot (frond % 8) slot = { x with exhausted := true } ∧ (d.thread k).sts / 256 % 256 = 4 ∧
        d.num CIPH.NONCE_REFUSED (frond % 8) = (s.dev.num CIPH.NONCE_REFUSED (frond % 8) + 1) % 2 ^ 32) ∧
      (x.fault = false → x.valid = false → (d.thread k).sts / 256 % 256 = 3) ∧
      (x.fault = true → (d.thread k).sts / 256 % 256 = 5) ∧ s.dev.moves d [.draws, .frees, .eng, .units] [0x38, 0x60]) ∧
  (∀ (s : State) (frond thread i k : Nat) (t : Task), s.Awake → k = thrKey frond thread → s.dev.acts k 3 3 i t →
    s.dev.enabled 0x38 = true →
    Gives (.free frond thread) s fun d =>
      ((s.dev.cipher (frond % 8)).holder = some (.task (k % 256) (t.id i)) → (d.cipher (frond % 8)).holder = none ∧
        d.thread k = (s.dev.thread k).setUnit 0) ∧
      ((s.dev.cipher (frond % 8)).holder ≠ some (.task (k % 256) (t.id i)) → d.units = s.dev.units ∧
        d.thread k = (s.dev.thread k).setUnit 2) ∧ s.dev.keeps d [.eng, .units]) ∧
  (∀ (s : State) (c : Instr) (frond thread n m p : Nat) (b : Bool) (g : Guard), c = .lock frond thread ∨
      c = .enc frond thread n b m p ∨ c = .dec frond thread n b m p ∨ c = .nonce frond thread n b m g ∨ c = .free frond thread → s.Awake →
    s.dev.running (thrKey frond thread) = none ∨ s.dev.mayIssue (thrKey frond thread) = false ∨
      s.dev.groupFree (thrKey frond thread) 3 = false → Idle c s) ∧
  (∀ (s : State) (c : Nat) (w : LockReq) (r : List LockReq), s.Awake → c < 8 → (s.dev.cipher c).holder = none →
    (s.dev.cipher c).waiters = w :: r → w.call = none → (s.dev.cipher c).arrivals = [] →
    Gives (.lockGrant c) s fun d => (d.cipher c).holder = some w.user ∧ (d.cipher c).waiters = r ∧
      d.num CIPH.LOCK_WAIT c = min 0xFFFFFFFF (s.dev.num CIPH.LOCK_WAIT c + s.dev.cyclesSince c w.since) ∧
      (∀ th id, w.user = .task th id → d.thread (thrKey c th) = { (s.dev.thread (thrKey c th)).setUnit 0 with wait := none }) ∧
      s.dev.keeps d [.regs, .eng, .units]) ∧
  (∀ (s : State) (c : Nat) (w : LockReq) (r : List LockReq) (call : BlockCall), s.Awake → c < 8 → (s.dev.cipher c).holder = none →
    (s.dev.cipher c).waiters = w :: r → w.call = some call → call.op ≠ 2 → (s.dev.cipher c).arrivals = [] →
    Gives (.lockGrant c) s fun d => (d.cipher c).holder = some w.user ∧ (d.cipher c).waiters = r ∧
      (d.cipher c).queue = (s.dev.cipher c).queue ++ [call] ∧ s.dev.keeps d [.regs, .units]) ∧
  (∀ (s : State) (c : Nat) (w : LockReq) (r : List LockReq) (call : BlockCall), s.Awake → c < 8 → (s.dev.cipher c).holder = none →
    (s.dev.cipher c).waiters = w :: r → w.call = some call → call.op = 2 → call.once = true →
    w.user = .task call.thread call.id → call.key = .clean → s.dev.unitIdle c = true → (s.dev.cipher c).arrivals = [] →
    Gives (.lockGrant c) s fun d => (d.cipher c).holder = none ∧ (d.cipher c).waiters = r ∧
      s.dev.moves d [.draws, .frees, .eng, .units] [0x38, 0x60]) ∧
  (∀ (s : State) (c : Nat), s.Awake → c < 8 → (s.dev.cipher c).holder.isSome = true ∨ (s.dev.cipher c).waiters = [] →
    (s.dev.cipher c).arrivals = [] → Idle (.lockGrant c) s) ∧
  (∀ (s : State) (c : Nat) (w : LockReq) (r : List LockReq), s.Awake → c < 8 → (s.dev.cipher c).waiters = w :: r →
    s.dev.num CIPH.LOCK_WAIT_MAX ≠ 0 → s.dev.num CIPH.LOCK_WAIT_MAX ≤ s.dev.cyclesSince c w.since → (s.dev.cipher c).arrivals = [] →
    Gives (.lockWaitExpiry c) s fun d => (d.cipher c).waiters = r ∧ (d.cipher c).holder = (s.dev.cipher c).holder ∧
      (∀ th id, w.user = .task th id → d.thread (thrKey c th) = { (s.dev.thread (thrKey c th)).setUnit 1 with wait := none }) ∧
      s.dev.keeps d [.regs, .eng, .units]) ∧
  (∀ (s : State) (c : Nat), s.Awake → c < 8 → (s.dev.cipher c).waiters = [] ∨ s.dev.num CIPH.LOCK_WAIT_MAX = 0 →
    Idle (.lockWaitExpiry c) s) ∧
  (∀ (s : State) (c : Nat), s.Awake → c < 8 → s.dev.holderBusy c = false →
    (∃ th id, (s.dev.cipher c).holder = some (.task th id) ∧ s.dev.fld CIPH.LOCK_TO_ENG ≤ s.dev.cyclesSince c (s.dev.cipher c).active) ∨
      (∃ p, (s.dev.cipher c).holder = some (.path p) ∧
        s.dev.fld CIPH.LOCK_TO_HOST * 10000 ≤ s.dev.clk.up - (s.dev.cipher c).active) →
    Gives (.lockTimeout c) s fun d => (d.cipher c).holder = none ∧ d.raised CIPH.int_LOCK_TIMEOUT = true ∧
      d.num CIPH.LOCK_TIMEOUTS c = (s.dev.num CIPH.LOCK_TIMEOUTS c + 1) % 2 ^ 32 ∧ s.dev.moves d [.units] [0x38]) ∧
  (∀ (s : State) (c : Nat), s.Awake → c < 8 → (s.dev.cipher c).holder = none ∨ s.dev.holderBusy c = true → Idle (.lockTimeout c) s) ∧
  (∀ (s : State) (c path : Nat), s.Opens 0x38 → c < 8 → path < 2 → s.dev.enabled 0x38 = true →
    (s.dev.cipher c).holder ≠ some (.path path) → (∀ w ∈ (s.dev.cipher c).waiters, w.user ≠ .path path) →
    Gives (.lockTake c path) s fun d => d.cipher c = { s.dev.cipher c with waiters := (s.dev.cipher c).waiters ++
        [{ user := .path path, call := none, since := s.dev.clk.up }] } ∧ s.dev.keeps d [.units]) ∧
  (∀ (s : State) (c path : Nat), s.Opens 0x38 → c < 8 → path < 2 → s.dev.enabled 0x38 = false ∨
    (s.dev.cipher c).holder = some (.path path) → Idle (.lockTake c path) s) ∧
  (∀ (s : State) (c path : Nat), s.Opens 0x38 → c < 8 → path < 2 → (s.dev.cipher c).holder = some (.path path) →
    Gives (.lockFree c path) s fun d => (d.cipher c).holder = none ∧ (d.cipher c).waiters = (s.dev.cipher c).waiters ∧
      s.dev.keeps d [.units]) ∧
  (∀ (s : State) (c path : Nat), s.Opens 0x38 → c < 8 → path < 2 → (s.dev.cipher c).holder ≠ some (.path path) →
    Idle (.lockFree c path) s)

/-- Key slots, nonces and runs of a cipher unit, and its blocks (R306 to R308, R313 to R318): a key is taken from the staging copy at once
or after the block in progress, a run goes from host memory to host memory, block by block. The model's own readings that its commands
follow: log entries 3, 4, 5, 61, 69, 73, 74, 81 and 115. -/
def Obligations.CipherKeysAndRuns : Prop :=
  (∀ (s : State) (c path n : Nat) (size : Bool), s.Opens 0x38 → c < 8 → path < 2 → n = s.dev.num CIPH.KEY_SLOT c % 32 →
    (s.dev.keySlot c n).cmd = none → s.dev.on TOP.BOOT_STATUS_RNG_FAIL = false →
    Gives (.keyLoad c path size) s fun d =>
      (s.dev.slotBusy c n = false → d.keySlot c n =
          { key := s.dev.keyStaged c path size, size := size, valid := true, gen := ((s.dev.keySlot c n).gen + 1) % 256,
            epoch := (Config.rng s.dev.draws).toNat % 2 ^ 48 } ∧
        d.draws = s.dev.draws + 1) ∧
      (s.dev.slotBusy c n = true → d.keySlot c n = { s.dev.keySlot c n with
          cmd := some { load := some (s.dev.keyStaged c path size, size), after_ := (s.dev.cipher c).done + 1 } }) ∧
      (∀ i, i < 8 → d.regP (CIPH.KEY.ix i) path c = 0) ∧ s.dev.keeps d [.draws, .regs, .units] ∧ s.dev.keepsPages d [0x38]) ∧
  (∀ (s : State) (c path n : Nat), s.Opens 0x38 → c < 8 → path < 2 → n = s.dev.num CIPH.KEY_SLOT c % 32 →
    (s.dev.keySlot c n).cmd = none →
    Gives (.keyErase c path) s fun d =>
      (s.dev.slotBusy c n = false → d.keySlot c n = { gen := ((s.dev.keySlot c n).gen + 1) % 256 }) ∧
      (s.dev.slotBusy c n = true → d.keySlot c n = { s.dev.keySlot c n with
          cmd := some { load := none, after_ := (s.dev.cipher c).done + 1 } }) ∧
      (∀ i, i < 8 → d.regP (CIPH.KEY.ix i) path c = 0) ∧ s.dev.keeps d [.regs, .units] ∧ s.dev.keepsPages d [0x38]) ∧
  (∀ (s : State) (i : Instr) (c path : Nat) (size : Bool), s.Opens 0x38 → c < 8 →
    (i = .keyLoad c path size ∧ ((s.dev.keySlot c (s.dev.num CIPH.KEY_SLOT c % 32)).cmd.isSome = true ∨
        s.dev.on TOP.BOOT_STATUS_RNG_FAIL = true)) ∨
      (i = .keyErase c path ∧ (s.dev.keySlot c (s.dev.num CIPH.KEY_SLOT c % 32)).cmd.isSome = true) →
    Gives i s fun d => d.raised CIPH.int_KEY_REFUSED = true ∧ s.dev.reportsOnly d) ∧
  (∀ (s : State) (c n : Nat) (p : KeyCmd), s.Awake → c < 8 → n < 32 → (s.dev.keySlot c n).cmd = some p → p.after_ ≤ (s.dev.cipher c).done →
    Gives (.keyPendingApply c n) s fun d =>
      (∀ key size, p.load = some (key, size) → d.keySlot c n =
        { key := key, size := size, valid := true, gen := ((s.dev.keySlot c n).gen + 1) % 256,
          epoch := (Config.rng s.dev.draws).toNat % 2 ^ 48 }) ∧
      (p.load = none → d.keySlot c n = { gen := ((s.dev.keySlot c n).gen + 1) % 256 }) ∧ s.dev.keeps d [.draws, .units]) ∧
  (∀ (s : State) (c n : Nat), s.Awake → c < 8 → n < 32 → (∀ p, (s.dev.keySlot c n).cmd = some p → (s.dev.cipher c).done < p.after_) →
    Idle (.keyPendingApply c n) s) ∧
  (∀ (s : State) (c path n : Nat) (x : KeySlot), s.Opens 0x38 → c < 8 → path < 2 → s.dev.enabled 0x38 = true →
    (s.dev.cipher c).holder = some (.path path) → n = s.dev.num CIPH.KEY_SLOT c % 32 → x = s.dev.keySlot c n → x.fault = false →
    x.valid = true → x.counter < 2 ^ 48 → x.cmd = none → s.dev.unitIdle c = true →
    Gives (.nonceGo c path .clean) s fun d => d.keySlot c n = { x with counter := x.counter + 1 } ∧
      (∀ i, i < 3 → d.regP (CIPH.NONCE_W.ix i) path c =
        BitVec.ofNat 32 (leNat (((beBytes 6 x.epoch ++ beBytes 6 x.counter ++ leBytes 1 x.gen ++ [0, 0, 0]).drop (4 * i)).take 4))) ∧
      (x.counter + 1 = 2 ^ 48 - 2 ^ 44 → d.raised CIPH.int_NONCE_LOW = true) ∧ s.dev.moves d [.units] [0x38]) ∧
  (∀ (s : State) (c path : Nat) (g : Guard), s.Opens 0x38 → c < 8 → path < 2 → s.dev.enabled 0x38 = false ∨
    (s.dev.cipher c).holder ≠ some (.path path) → Idle (.nonceGo c path g) s) ∧
  (∀ (s : State) (c path : Nat) (g : Guard), s.Opens 0x38 → c < 8 → path < 2 → s.dev.enabled 0x38 = true →
    (s.dev.cipher c).holder = some (.path path) → s.dev.unitIdle c = false →
    Gives (.nonceGo c path g) s fun d => d.cipher c = { s.dev.cipher c with
        active := s.dev.clk.up, nonces := (s.dev.cipher c).nonces ++
          [{ path := path, slot := s.dev.num CIPH.KEY_SLOT c % 32, key := g }] } ∧ s.dev.keeps d [.units]) ∧
  (∀ (s : State) (c path : Nat), s.Opens 0x38 → c < 8 → path < 2 → s.dev.enabled 0x38 = true → s.dev.opState CIPH.RUN_STAT c ≠ 1 →
    (s.dev.cipher c).holder = some (.path path) →
    Gives (.runGo c path) s fun d => d.num CIPH.RUN_STAT c = 1 ∧
      d.cipher c = { s.dev.cipher c with run := some path, runs := (s.dev.cipher c).queue.isEmpty, active := s.dev.clk.up } ∧ s.dev.keeps d [.regs, .units] ∧
      s.dev.keepsBut d [CIPH.RUN_STAT.key 0 c]) ∧
  (∀ (s : State) (c path : Nat), s.Opens 0x38 → c < 8 → path < 2 → s.dev.enabled 0x38 = true → s.dev.opState CIPH.RUN_STAT c = 1 ∨
    (s.dev.cipher c).holder ≠ some (.path path) →
    Gives (.runGo c path) s fun d => d.raised CIPH.int_KEY_REFUSED = true ∧ s.dev.reportsOnly d) ∧
  (∀ (s : State) (c : Nat), s.Opens 0x38 → c < 8 → s.dev.opState CIPH.RUN_STAT c = 1 →
    (s.dev.cipher c).nonces = [] → (∀ q ∈ (s.dev.cipher c).queue, q.op ≠ 2) →
    Gives (.runAbort c) s fun d => d.opState CIPH.RUN_STAT c = 3 ∧ (d.cipher c).run = none ∧ s.dev.moves d [.units] [0x38]) ∧
  (∀ (s : State) (c : Nat) (q : BlockCall) (r : List BlockCall) (x : KeySlot) (e : Bool), s.Awake → c < 8 →
    (s.dev.cipher c).queue = q :: r → (∀ y ∈ q :: r, y.op ≠ 2) → (s.dev.cipher c).nonces = [] → (s.dev.cipher c).arrivals = [] →
    (s.dev.cipher c).runs = false → x = s.dev.keySlot c q.slot → x.cmd = none → x.fault = false → x.valid = true →
    s.dev.idOn (thrKey c q.thread) = q.id → (s.dev.thread (thrKey c q.thread)).wait = some .block →
    Gives (.cipherBlockDone c e .clean) s fun d => (d.cipher c).queue = r ∧ (d.cipher c).done = (s.dev.cipher c).done + 1 ∧
      (d.thread (thrKey c q.thread)).rv q.dst = leNat (aesBlock (q.op = 1) x.key q.block) % 2 ^ 128 ∧
      (d.thread (thrKey c q.thread)).wait = none ∧ (d.thread (thrKey c q.thread)).sts / 256 % 256 = 0 ∧
      (q.once = true → (s.dev.cipher c).holder = some (.task q.thread q.id) → (d.cipher c).holder = none) ∧
      d.num CIPH.BLOCKS c = (s.dev.num CIPH.BLOCKS c + 1) % 2 ^ 32 ∧ s.dev.moves d [.draws, .frees, .eng, .units] [0x38, 0x60]) ∧
  (∀ (s : State) (c n p : Nat) (x : KeySlot) (out : List Byte), s.Awake → c < 8 → (s.dev.cipher c).queue = [] →
    (s.dev.cipher c).nonces = [] → (s.dev.cipher c).arrivals = [] → (s.dev.cipher c).run = some p → x = s.dev.keySlot c (s.dev.fld CIPH.RUN_CFG_SLOT c) → x.cmd = none → x.fault = false →
    x.valid = true → n = s.dev.num CIPH.RUN_STAT c / 256 →
    out = aesBlock (s.dev.on CIPH.RUN_CFG_DIR c) x.key (s.dev.dmaRead (s.dev.num2 CIPH.RUN_SRC_LO CIPH.RUN_SRC_HI c + 16 * n) 16) →
    Gives (.cipherBlockDone c false .clean) s fun d =>
      d.dmaRead (s.dev.num2 CIPH.RUN_DST_LO CIPH.RUN_DST_HI c + 16 * n) out.length = out ∧
      (s.dev.fld CIPH.RUN_CFG_COUNT c ≤ n + 1 → d.num CIPH.RUN_STAT c = statusWord 2 0 (n + 1) ∧ (d.cipher c).run = none ∧
        d.raised CIPH.int_RUN_DONE = true) ∧
      (n + 1 < s.dev.fld CIPH.RUN_CFG_COUNT c → d.num CIPH.RUN_STAT c = statusWord 1 0 (n + 1) ∧ (d.cipher c).run = some p) ∧
      s.dev.moves d [.draws, .hostMem, .units] [0x38]) ∧
  (∀ (s : State) (c p : Nat) (q : BlockCall) (r : List BlockCall), s.Awake → c < 8 → (s.dev.cipher c).runs = true →
    (s.dev.cipher c).run = some p → (s.dev.cipher c).queue = q :: r → q.op ≠ 2 → (s.dev.cipher c).nonces = [] →
    (s.dev.cipher c).arrivals = [] →
    Gives (.cipherBlockDone c false .clean) s fun d => (d.cipher c).queue = q :: r ∧ (d.cipher c).runs = false ∧
      (d.cipher c).done = (s.dev.cipher c).done + 1) ∧
  (∀ (s : State) (c n p : Nat) (e : Bool) (x : KeySlot), s.Awake → c < 8 → (s.dev.cipher c).queue = [] → (s.dev.cipher c).run = some p →
    (s.dev.cipher c).nonces = [] → (s.dev.cipher c).arrivals = [] →
    x = s.dev.keySlot c (s.dev.fld CIPH.RUN_CFG_SLOT c) → x.cmd = none → n = s.dev.num CIPH.RUN_STAT c / 256 →
    e = true ∨ x.fault = true ∨ x.valid = false →
    Gives (.cipherBlockDone c e .clean) s fun d => d.num CIPH.RUN_STAT c = statusWord 4 0 n ∧ (d.cipher c).run = none ∧
      d.raised CIPH.int_RUN_DONE = true ∧ d.hostMem = s.dev.hostMem) ∧
  (∀ (s : State) (c : Nat) (e : Bool) (g : Guard), s.Awake → c < 8 → (s.dev.cipher c).queue = [] → (s.dev.cipher c).run = none →
    Idle (.cipherBlockDone c e g) s)

/-- Check-value units (R320 to R325): contexts are taken by INIT, fed byte by byte, read, compared, saved and restored by their owner
alone, an engine's task or a host path. The model's own readings that its commands follow: log entries 3, 4, 5, 73 and 82. -/
def Obligations.CheckValues : Prop :=
  (∀ (s : State) (frond thread preset i k u : Nat) (t : Task) (value pair : Option Nat), s.Awake → k = thrKey frond thread → u = frond % 8 →
    s.dev.acts k 3 3 i t → s.dev.enabled 0x39 = true →
    Gives (.init frond thread preset value pair) s fun d => d.ctxOwner u = some (.task (k % 256) (t.id i)) ∧
      d.ctxPreset u = presetOf preset ∧ d.num CHKV.COUNT u = 0 ∧ (d.thread k).sts / 256 % 256 = 0 ∧
      d.ctxRun u = (match pair with
        | some p => (s.dev.thread k).rpair p
        | none => value.getD (presetOf preset).start) % 2 ^ (presetOf preset).width ∧
      s.dev.moves d [.draws, .frees, .eng, .units] [0x39, 0x60]) ∧
  (∀ (s : State) (frond thread len i k u : Nat) (t : Task) (src : EngPlace), s.Awake → k = thrKey frond thread → u = frond % 8 →
    s.dev.acts k 3 3 i t → s.dev.enabled 0x39 = true → s.dev.ctxOwner u = some (.task (k % 256) (t.id i)) →
    Gives (.feed frond thread src len) s fun d =>
      d.ctxRun u = (s.dev.readPlace t (s.dev.thread k) src (min 64 len)).foldl
        (fun r b => (s.dev.ctxPreset u).feed r [b] % 2 ^ (s.dev.ctxPreset u).width) (s.dev.ctxRun u) ∧
      d.num CHKV.COUNT u = (s.dev.num CHKV.COUNT u + min 64 len) % 2 ^ 32 ∧ (d.thread k).sts / 256 % 256 = 0 ∧
      s.dev.moves d [.draws, .frees, .eng] [0x39, 0x60]) ∧
  (∀ (s : State) (frond thread dst i k u : Nat) (t : Task), s.Awake → k = thrKey frond thread → u = frond % 8 →
    s.dev.acts k 3 3 i t → s.dev.enabled 0x39 = true → s.dev.ctxOwner u = some (.task (k % 256) (t.id i)) →
    Gives (.read frond thread dst) s fun d => (d.thread k).sts / 256 % 256 = 0 ∧
      (dst % 32 ≠ 0 → (s.dev.ctxPreset u).width ≠ 64 → (d.thread k).rg dst = s.dev.ctxResult u % 2 ^ 32) ∧
      (dst % 32 ≠ 0 → dst % 32 ≠ 31 → (s.dev.ctxPreset u).width = 64 → (d.thread k).rpair dst = s.dev.ctxResult u % 2 ^ 64) ∧
      s.dev.moves d [.draws, .frees, .eng] [0x60]) ∧
  (∀ (s : State) (frond thread dst ref i k u e : Nat) (t : Task), s.Awake → k = thrKey frond thread → u = frond % 8 →
    s.dev.acts k 3 3 i t → s.dev.enabled 0x39 = true → s.dev.ctxOwner u = some (.task (k % 256) (t.id i)) →
    e = (s.dev.thread k).rpair ref % 2 ^ (s.dev.ctxPreset u).width →
    Gives (.readCmp frond thread dst ref) s fun d =>
      (s.dev.ctxResult u = e → d.num CHKV.MATCHES u = (s.dev.num CHKV.MATCHES u + 1) % 2 ^ 32 ∧ (d.thread k).sts / 256 % 256 = 0) ∧
      (s.dev.ctxResult u ≠ e → d.num CHKV.MISMATCHES u = (s.dev.num CHKV.MISMATCHES u + 1) % 2 ^ 32 ∧
        (d.thread k).sts / 256 % 256 = 8 ∧ d.raised CHKV.int_MISMATCH = true) ∧
      (dst % 32 ≠ 0 → (s.dev.ctxPreset u).width ≠ 64 → (d.thread k).rg dst = s.dev.ctxResult u % 2 ^ 32) ∧
      s.dev.moves d [.draws, .frees, .eng] [0x39, 0x60]) ∧
  (∀ (s : State) (frond thread dst third i k u : Nat) (t : Task), s.Awake → k = thrKey frond thread → u = frond % 8 →
    s.dev.acts k 3 3 i t → s.dev.enabled 0x39 = true → s.dev.ctxOwner u = some (.task (k % 256) (t.id i)) →
    Gives (.save frond thread dst third) s fun d =>
      d.thread k = (((s.dev.thread k).wpair dst (s.dev.ctxRun u)).wg third (s.dev.units.presets.get 0 u)).setUnit 0 ∧
      s.dev.moves d [.draws, .frees, .eng] [0x60]) ∧
  (∀ (s : State) (frond thread src third i k u : Nat) (t : Task), s.Awake → k = thrKey frond thread → u = frond % 8 →
    s.dev.acts k 3 3 i t → s.dev.enabled 0x39 = true →
    Gives (.restore frond thread src third) s fun d => d.ctxOwner u = some (.task (k % 256) (t.id i)) ∧
      d.ctxPreset u = presetOf ((s.dev.thread k).rg third) ∧
      d.ctxRun u = (s.dev.thread k).rpair src % 2 ^ (presetOf ((s.dev.thread k).rg third)).width ∧
      (d.thread k).sts / 256 % 256 = 0 ∧ s.dev.moves d [.draws, .frees, .eng, .units] [0x39, 0x60]) ∧
  (∀ (s : State) (c : Instr) (frond thread n m i k u : Nat) (t : Task) (p : EngPlace), s.Awake → k = thrKey frond thread → u = frond % 8 →
    c = .feed frond thread p n ∨ c = .read frond thread n ∨ c = .readCmp frond thread n m ∨ c = .save frond thread n m →
    s.dev.acts k 3 3 i t → s.dev.enabled 0x39 = true → s.dev.ctxOwner u ≠ some (.task (k % 256) (t.id i)) →
    Gives c s fun d => (d.thread k).sts / 256 % 256 = 6 ∧ d.raised CHKV.int_CTX_LOST = s.dev.raised CHKV.int_CTX_LOST ∧
      d.num CHKV.CTX_LOST_CNT u = (s.dev.num CHKV.CTX_LOST_CNT u + 1) % 2 ^ 32 ∧ d.ctxRun u = s.dev.ctxRun u ∧
      s.dev.moves d [.draws, .frees, .eng] [0x39, 0x60]) ∧
  (∀ (s : State) (c : Instr) (frond thread n m : Nat) (p : EngPlace) (o q : Option Nat), c = .init frond thread n o q ∨
      c = .feed frond thread p n ∨ c = .read frond thread n ∨ c = .readCmp frond thread n m ∨ c = .save frond thread n m ∨
      c = .restore frond thread n m → s.Awake → s.dev.running (thrKey frond thread) = none ∨
      s.dev.mayIssue (thrKey frond thread) = false ∨ s.dev.groupFree (thrKey frond thread) 3 = false → Idle c s) ∧
  (∀ (s : State) (u path : Nat), s.Opens 0x39 → u < 9 → path < 2 → s.dev.loaderOwns u = false →
    Gives (.hostChkvInit u path) s fun d => d.ctxOwner u = some (.path path) ∧ d.ctxPreset u = presetOf (s.dev.fld CHKV.CFG_PRESET u) ∧
      d.num CHKV.COUNT u = 0 ∧ d.ctxRun u = (if s.dev.on CHKV.CFG_INIT_OVR u then s.dev.num2 CHKV.INIT_LO CHKV.INIT_HI u
        else (presetOf (s.dev.fld CHKV.CFG_PRESET u)).start) % 2 ^ (presetOf (s.dev.fld CHKV.CFG_PRESET u)).width ∧
      s.dev.keeps d [.regs, .units] ∧ s.dev.keepsPages d [0x39]) ∧
  (∀ (s : State) (c : Instr) (u path : Nat) (w : Word) (bs : List Byte), (c = .feed32 u path w ∧ bs = leBytes 4 w.toNat) ∨
      (c = .feed8 u path w ∧ bs = leBytes 1 w.toNat) → s.Opens 0x39 → u < 9 → path < 2 → s.dev.enabled 0x39 = true →
    s.dev.loaderOwns u = false → s.dev.ctxOwner u = some (.path path) → s.dev.on CHKV.CFG_COMPARE u = false →
    Gives c s fun d => d.ctxRun u = bs.foldl
        (fun r b => (s.dev.ctxPreset u).feed r [b] % 2 ^ (s.dev.ctxPreset u).width) (s.dev.ctxRun u) ∧
      d.num CHKV.COUNT u = (s.dev.num CHKV.COUNT u + bs.length) % 2 ^ 32 ∧ s.dev.keeps d [.regs] ∧ s.dev.keepsPages d [0x39]) ∧
  (∀ (s : State) (u path : Nat) (w : Word) (r : Nat), s.Opens 0x39 → u < 9 → path < 2 → s.dev.enabled 0x39 = true →
    s.dev.loaderOwns u = false → s.dev.ctxOwner u = some (.path path) → s.dev.on CHKV.CFG_COMPARE u = true →
    s.dev.num CHKV.CMP_LEN u ≠ 0 → (s.dev.num CHKV.COUNT u + 1) % 2 ^ 32 = s.dev.num CHKV.CMP_LEN u →
    r = (s.dev.ctxPreset u).result ((s.dev.ctxPreset u).feed (s.dev.ctxRun u) [BitVec.ofNat 8 w.toNat] % 2 ^ (s.dev.ctxPreset u).width) →
    Gives (.feed8 u path w) s fun d =>
      (r = s.dev.num2 CHKV.EXP_LO CHKV.EXP_HI u % 2 ^ (s.dev.ctxPreset u).width →
        d.num CHKV.MATCHES u = (s.dev.num CHKV.MATCHES u + 1) % 2 ^ 32) ∧
      (r ≠ s.dev.num2 CHKV.EXP_LO CHKV.EXP_HI u % 2 ^ (s.dev.ctxPreset u).width →
        d.num CHKV.MISMATCHES u = (s.dev.num CHKV.MISMATCHES u + 1) % 2 ^ 32 ∧
        d.num2 CHKV.LAST_BAD_LO CHKV.LAST_BAD_HI u = r % 2 ^ 64 ∧ d.raised CHKV.int_MISMATCH = true) ∧ s.dev.moves d [] [0x39]) ∧
  (∀ (s : State) (c : Instr) (u path : Nat) (w : Word), c = .feed32 u path w ∨ c = .feed8 u path w → s.Opens 0x39 → u < 9 → path < 2 →
    s.dev.enabled 0x39 = true → s.dev.loaderOwns u = false → s.dev.ctxOwner u ≠ some (.path path) →
    Gives c s fun d => d.raised CHKV.int_CTX_LOST = true ∧ d.ctxRun u = s.dev.ctxRun u ∧
      d.num CHKV.CTX_LOST_CNT u = (s.dev.num CHKV.CTX_LOST_CNT u + 1) % 2 ^ 32 ∧ s.dev.moves d [] [0x39]) ∧
  (∀ (s : State) (u path part : Nat) (w : Word), s.Opens 0x39 → u < 9 → path < 2 → part < 3 →
    s.dev.loaderOwns u = false →
    Gives (.contextRestore u path part w) s fun d => d.ctxOwner u = some (.path path) ∧
      (part = 2 → d.reg CHKV.COUNT u = w) ∧
      (part < 2 → d.ctxRun u = setBits (s.dev.ctxRun u) (32 * part) 32 w.toNat % 2 ^ (s.dev.ctxPreset u).width) ∧
      s.dev.keeps d [.regs, .units] ∧ s.dev.keepsPages d [0x39]) ∧
  (∀ (s : State) (c : Instr) (u path part : Nat) (w : Word), c = .hostChkvInit u path ∨ c = .feed32 u path w ∨ c = .feed8 u path w ∨
      c = .contextRestore u path part w → s.Opens 0x39 → s.dev.loaderOwns (u % 9) = true → Idle c s) ∧
  (∀ (s : State) (c : Instr) (u path : Nat) (w : Word), c = .feed32 u path w ∨ c = .feed8 u path w → s.Opens 0x39 →
    s.dev.enabled 0x39 = false → Idle c s)

/-- The switch core (R343 to R347, R349): the leak audit marks what is reached and finds what is not; copies start and end at their port; a
hold that runs out flushes what it holds. The model's own readings that its commands follow: log entries 3, 4, 5, 114, 115 and 117. -/
def Obligations.AuditHoldsAndEgress : Prop :=
  (∀ (s : State) (c : Instr), (c = .auditStart ∧ s.Opens 0x40) ∨ (c = .auditPeriod ∧ s.Awake ∧ s.dev.on TOP.BOOT_STATUS_READY = true ∧
      s.dev.sw.audit.lastS + s.dev.fld BUFM.AUDIT_CFG_PERIOD ≤ s.dev.upMs / 1000) → s.dev.enabled 0x40 = true →
    s.dev.opState BUFM.AUDIT_STAT ≠ 1 →
    Gives c s fun d => d.num BUFM.AUDIT_STAT = 1 ∧ d.sw.audit = { running := true, lastS := s.dev.upMs / 1000 } ∧
      (∀ k, k ∈ s.dev.liveUnits → (d.lnk (k / 2 ^ 22) (k % 2 ^ 22)).mark = true) ∧ s.dev.keeps d [.regs, .sw] ∧
      s.dev.keepsBut d [BUFM.AUDIT_STAT.key 0 0]) ∧
  (∀ s : State, s.Opens 0x40 → s.dev.enabled 0x40 = false ∨ s.dev.opState BUFM.AUDIT_STAT = 1 → Idle .auditStart s) ∧
  (∀ s : State, s.Awake → s.dev.on TOP.BOOT_STATUS_READY = false ∨
    s.dev.upMs / 1000 < s.dev.sw.audit.lastS + s.dev.fld BUFM.AUDIT_CFG_PERIOD → Idle .auditPeriod s) ∧
  (∀ s : State, s.Opens 0x40 → s.dev.opState BUFM.AUDIT_STAT = 1 →
    Gives .auditAbort s fun d => d.opState BUFM.AUDIT_STAT = 3 ∧ d.sw.audit = { s.dev.sw.audit with running := false } ∧
      bitsOf (d.num BUFM.AUDIT_STAT) 8 24 < 1088 ∧ s.dev.moves d [.frees, .sw] [0x40, 0x50, 0x70]) ∧
  (∀ (s : State) (k : Nat), s.Opens 0x40 → s.dev.opState BUFM.AUDIT_STAT = 1 → s.dev.sw.link.wf {} = true →
    (∀ x ∈ s.dev.sw.link, x.1 < 2 ^ 23) → k < 2 ^ 23 → (s.dev.lnk (k / 2 ^ 22) (k % 2 ^ 22)).mark = true →
    (s.dev.lnk (k / 2 ^ 22) (k % 2 ^ 22)).alloc = true →
    Gives .auditAbort s fun d => d.lnk (k / 2 ^ 22) (k % 2 ^ 22) = s.dev.lnk (k / 2 ^ 22) (k % 2 ^ 22) ∨
      d.lnk (k / 2 ^ 22) (k % 2 ^ 22) = { s.dev.lnk (k / 2 ^ 22) (k % 2 ^ 22) with mark := false, age := 0 }) ∧
  (∀ (s : State) (bad : Nat), s.Awake → s.dev.enabled 0x40 = true → s.dev.opState BUFM.AUDIT_STAT = 1 → s.dev.sw.link.wf {} = true →
    (∀ x ∈ s.dev.sw.link, x.1 < 2 ^ 23) →
    Gives (.auditDone bad) s fun d => d.num BUFM.AUDIT_STAT = statusWord 2 0 1088 ∧ d.sw.audit.running = false ∧
      d.raised BUFM.int_AUDIT_DONE = true ∧
      d.num BUFM.FREELIST_BAD = (s.dev.num BUFM.FREELIST_BAD + bad) % 2 ^ 32 ∧
      (∀ k, (s.dev.lnk (k / 2 ^ 22) (k % 2 ^ 22)).alloc = true → (s.dev.lnk (k / 2 ^ 22) (k % 2 ^ 22)).mark = true →
        d.lnk (k / 2 ^ 22) (k % 2 ^ 22) = { s.dev.lnk (k / 2 ^ 22) (k % 2 ^ 22) with mark := false, age := 0 }) ∧
      (∀ k, (s.dev.lnk (k / 2 ^ 22) (k % 2 ^ 22)).alloc = true → (s.dev.lnk (k / 2 ^ 22) (k % 2 ^ 22)).mark = false →
        min 3 ((s.dev.lnk (k / 2 ^ 22) (k % 2 ^ 22)).age + 1) ≠ s.dev.fld BUFM.AUDIT_CFG_PASSES ∨
          3 ≤ (s.dev.lnk (k / 2 ^ 22) (k % 2 ^ 22)).age →
        d.lnk (k / 2 ^ 22) (k % 2 ^ 22) = { s.dev.lnk (k / 2 ^ 22) (k % 2 ^ 22) with
          age := min 3 ((s.dev.lnk (k / 2 ^ 22) (k % 2 ^ 22)).age + 1) }) ∧ s.dev.moves d [.sw] [0x40, 0x50, 0x70]) ∧
  (∀ (s : State) (bad : Nat), s.Awake → s.dev.enabled 0x40 = false ∨ s.dev.opState BUFM.AUDIT_STAT ≠ 1 → Idle (.auditDone bad) s) ∧
  (∀ (s : State) (port t : Nat) (pri : Option Nat), s.Awake → s.dev.holdAt port pri = some t →
    s.dev.fld SWCR.HOLD_CFG_HOLD_MS port * 10000000 ≤ s.dev.clk.up - t → s.dev.sw.waitTm = [] →
    Gives (.holdExpiry port pri) s fun d => d.holdAt port pri = none ∧
      (∀ q c, c ∈ d.queue q → (c.held && holdCovers port (s.dev.holdMask port pri) c) = false) ∧
      s.dev.moves d [.sw] [0x11, 0x40, 0x41, 0x48, 0x50, 0x58, 0x60, 0x70]) ∧
  (∀ (s : State) (port : Nat) (pri : Option Nat), s.Awake → s.dev.holdAt port pri = none → Idle (.holdExpiry port pri) s) ∧
  (∀ (s : State) (port t : Nat) (pri : Option Nat), s.Awake → s.dev.holdAt port pri = some t →
    s.dev.clk.up - t < s.dev.fld SWCR.HOLD_CFG_HOLD_MS port * 10000000 → Idle (.holdExpiry port pri) s) ∧
  (∀ (s : State) (port : Nat) (t : Tx), s.Awake → port < 34 → port ≠ 32 → s.dev.portUp port = true → s.dev.nextStart port = some t →
    Gives (.copyTransmitStart port none) s fun d => d.stagedOf port = replaceTx (s.dev.stagedOf port) t (some { t with
        started := true, start16 := s.dev.islandFine (islandOfPort port), startUp := s.dev.clk.up,
        ready := (match s.dev.frame t.copy.desc with | some f => s.dev.stagedAtStart port f | none => 0) }) ∧ s.dev.moves d [.sw] [0x60]) ∧
  (∀ (s : State) (port : Nat) (t : Tx), s.Awake → port < 34 → port ≠ 32 → s.dev.portUp port = true → s.dev.nextStart port = some t →
    Gives (.copyTransmitStart port (some .late)) s fun d => d.stagedOf port = replaceTx (s.dev.stagedOf port) t none ∧
      s.dev.moves d [.sw] [0x11, 0x40, 0x41, 0x50, 0x58, 0x70]) ∧
  (∀ (s : State) (port : Nat) (failed : Option ReadFail), s.Awake → 34 ≤ port ∨ port = 32 ∨ s.dev.portUp port = false ∨
    s.dev.nextStart port = none → Idle (.copyTransmitStart port failed) s) ∧
  (∀ (s : State) (port : Nat) (t : Tx), s.dev.nextStart port = some t → s.dev.mayStart port t = true ∧ t ∈ s.dev.stagedOf port) ∧
  (∀ (s : State) (port : Nat) (t : Tx) (f : Frame), s.Awake → port < 34 → port ≠ 32 → (s.dev.stagedOf port).find? (·.started) = some t →
    s.dev.frame t.copy.desc = some f → 1 < f.refs →
    Gives (.copyTransmitEnd port none) s fun d => d.stagedOf port = replaceTx (s.dev.stagedOf port) t none ∧
      .frame port (withFcs (s.dev.wireBytes f port t.start16).1) false ∈ d.out ∧
      (∃ g, d.frame t.copy.desc = some g ∧ g.refs = f.refs - 1 ∧ g.bytes = f.bytes) ∧
      s.dev.moves d [.sw, .time] [0x11, 0x12, 0x40, 0x41, 0x4B, 0x50, 0x58, 0x60, 0x70]) ∧
  (∀ (s : State) (port pool unit sent : Nat) (t : Tx) (f : Frame) (bs : List Byte), s.Awake → port < 34 → port ≠ 32 →
    (s.dev.stagedOf port).find? (·.started) = some t → s.dev.frame t.copy.desc = some f → 1 < f.refs →
    0 < sent ∨ 0 < t.ready → bs = (s.dev.wireBytes f port t.start16).1.take (max sent t.ready) →
    Gives (.copyTransmitEnd port (some (.late, pool, unit, sent))) s fun d =>
      d.stagedOf port = replaceTx (s.dev.stagedOf port) t none ∧
      .frame port (bs ++ leBytes 4 (fcsOf bs ^^^ 0xFFFFFFFF)) true ∈ d.out ∧
      (∃ g, d.frame t.copy.desc = some g ∧ g.refs = f.refs - 1 ∧ g.bytes = f.bytes)) ∧
  (∀ (s : State) (port : Nat) (t : Tx) (f : Frame), s.Awake → port < 34 → port ≠ 32 → (s.dev.stagedOf port).find? (·.started) = some t →
    s.dev.frame t.copy.desc = some f → f.refs ≤ 1 →
    Gives (.copyTransmitEnd port none) s fun d => d.stagedOf port = replaceTx (s.dev.stagedOf port) t none ∧
      d.frame t.copy.desc = none) ∧
  (∀ (s : State) (port pool unit : Nat) (t : Tx) (f : Frame) (w : BadWord), s.Awake → port < 34 → port ≠ 32 →
    (s.dev.stagedOf port).find? (·.started) = some t → s.dev.frame t.copy.desc = some f → oneSymbol w = false →
    Gives (.copyTransmitEnd port (some (.word w, pool, unit, 0))) s fun d =>
      d.stagedOf port = replaceTx (s.dev.stagedOf port) t none ∧ d.raised SWCR.int_READ_ERR = true ∧
      d.num SWCR.READ_ERR port = (s.dev.num SWCR.READ_ERR port + 1) % 2 ^ 32 ∧
      d.num SWCR.STOMPED port = s.dev.num SWCR.STOMPED port ∧ (f.refs ≤ 1 → d.frame t.copy.desc = none)) ∧
  (∀ (s : State) (port : Nat) (fail : Option (ReadFail × Nat × Nat × Nat)), s.Awake → 34 ≤ port ∨ port = 32 ∨
    (s.dev.stagedOf port).find? (·.started) = none → Idle (.copyTransmitEnd port fail) s)

/-- The traffic manager (R343, R355 to R365, R370 to R372): what an arriving descriptor becomes, what a selection stages, what a refill
adds, and what the sampler leaves. The model's own readings that its commands follow: log entries 3, 4, 5, 45, 46, 47 and 69. -/
def Obligations.QueuesAndShapers : Prop :=
  (∀ (s : State) (k : Nat) (f : Frame), s.Awake → s.dev.frame k = some f → f.stage = .ready → resPolEn f.ctx.res = false →
    destPorts f.dest = [] →
    Gives (.descriptorArrival k) s fun d => d.frame k = none ∧ s.dev.moves d [.sw] [0x11, 0x40, 0x41, 0x50, 0x58, 0x70]) ∧
  (∀ (s : State) (k n sub cls : Nat) (f : Frame), s.Awake → s.dev.frame k = some f → f.stage = .ready → resPolEn f.ctx.res = false →
    destPorts f.dest = [n] → s.dev.sw.waitTm = [] → 1 ≤ s.dev.num TMGR.COPY_FREE → cls = s.dev.classOf f →
    s.dev.takesCopy n cls = true → sub = s.dev.subOf f n → s.dev.chainPort sub = n →
    Gives (.descriptorArrival k) s fun d => (∃ c : Copy, d.queue (queueOf sub cls) = s.dev.queue (queueOf sub cls) ++ [c] ∧ c.desc = k ∧
        c.port = n ∧ c.cls = cls ∧ c.held = false) ∧ (∃ g, d.frame k = some g ∧ g.stage = .queued ∧ g.refs = 1 ∧ g.cls = cls ∧
        g.colour = (if resColourEn f.ctx.res then resColour f.ctx.res else 0) ∧ g.bytes = f.bytes) ∧
      d.num TMGR.COPY_FREE = s.dev.num TMGR.COPY_FREE - 1 ∧ s.dev.moves d [.sw] [0x48, 0x60]) ∧
  (∀ (s : State) (k n sub cls : Nat) (f : Frame), s.Awake → s.dev.frame k = some f → f.stage = .ready → resPolEn f.ctx.res = false →
    destPorts f.dest = [n] → s.dev.sw.waitTm = [] → 1 ≤ s.dev.num TMGR.COPY_FREE → cls = s.dev.classOf f →
    s.dev.takesCopy n cls = true → sub = s.dev.subOf f n → s.dev.chainPort sub ≠ n →
    Gives (.descriptorArrival k) s fun d => (∃ c : Copy, d.queue (orphanOf n) = s.dev.queue (orphanOf n) ++ [c] ∧ c.desc = k ∧
        c.port = n ∧ c.cls = cls) ∧ d.num TMGR.MISMAP = (s.dev.num TMGR.MISMAP + 1) % 2 ^ 32 ∧ d.raised TMGR.int_MISMAP = true ∧
      s.dev.moves d [.sw] [0x48, 0x60]) ∧
  (∀ (s : State) (k n : Nat) (f : Frame), s.Awake → s.dev.frame k = some f → f.stage = .ready → resPolEn f.ctx.res = false →
    destPorts f.dest = [n] → s.dev.sw.waitTm = [] → s.dev.takesCopy n (s.dev.classOf f) = false →
    Gives (.descriptorArrival k) s fun d => d.frame k = none ∧ s.dev.moves d [.sw] [0x11, 0x40, 0x41, 0x50, 0x58, 0x70]) ∧
  (∀ (s : State) (k : Nat) (f : Frame), s.Awake → s.dev.frame k = some f → f.stage = .ready → resPolEn f.ctx.res = false →
    destPorts f.dest ≠ [] → s.dev.sw.waitTm ≠ [] ∨ s.dev.num TMGR.COPY_FREE < s.dev.copiesOf f →
    Gives (.descriptorArrival k) s fun d => d.sw.waitTm = s.dev.sw.waitTm ++ [(k, s.dev.clk.up)] ∧ d.raised TMGR.int_COPY_WAIT = true ∧
      (∃ g, d.frame k = some g ∧ g.stage = .queued) ∧ d.sw.queues = s.dev.sw.queues ∧ s.dev.moves d [.sw] [0x48]) ∧
  (∀ (s : State) (k pol : Nat) (f : Frame), s.Awake → s.dev.frame k = some f → f.stage = .ready → resPolEn f.ctx.res = true →
    pol = resPolicer f.ctx.res → s.dev.enabled 0x4A = true → s.dev.fld POLC.MODE_TYPE pol ≠ 0 → s.dev.on POLC.MODE_RED_DROP pol = true →
    (s.dev.police pol (if resColourEn f.ctx.res then resColour f.ctx.res else 0) f.len).2 = 2 →
    Gives (.descriptorArrival k) s fun d => d.frame k = none ∧ s.dev.moves d [.sw] [0x11, 0x40, 0x41, 0x4A, 0x50, 0x58, 0x60, 0x70]) ∧
  (∀ (s : State) (k : Nat), s.Awake → (∀ f, s.dev.frame k = some f → f.stage ≠ .ready) → Idle (.descriptorArrival k) s) ∧
  (∀ (s : State) (n q : Nat) (c : Copy) (r : List Copy), s.Awake → n < 34 → s.dev.portUp n = true → s.dev.enabled 0x48 = false →
    s.dev.sw.waitTm = [] → s.dev.oldest n = some q → s.dev.queue q = c :: r → c.port = n →
    s.dev.stagedBytes n + s.dev.lenOf c.desc ≤ 12288 ∨ s.dev.stagedOf n = [] →
    Gives (.selection n) s fun d => d.queue q = r ∧ d.stagedOf n = s.dev.stagedOf n ++ [{ copy := c, queue := q }] ∧
      d.num TMGR.COPY_FREE = (s.dev.num TMGR.COPY_FREE + 1) % 2 ^ 32 ∧ s.dev.moves d [.draws, .sw, .mem] [0x48, 0x50, 0x60]) ∧
  (∀ (s : State) (n : Nat) (e : Dev) (p : Pick) (c : Copy) (r : List Copy), s.Awake → n < 34 → s.dev.portUp n = true →
    s.dev.enabled 0x48 = true → s.dev.peakOk (portNode n) = true → s.dev.sw.waitTm = [] →
    (s.dev.pruneDeficits n).descend n = (e, some p) → s.dev.queue p.queue = c :: r → c.port = n →
    s.dev.stagedBytes n + s.dev.lenOf c.desc ≤ 12288 ∨ s.dev.stagedOf n = [] →
    Gives (.selection n) s fun d => d.queue p.queue = r ∧ d.stagedOf n = s.dev.stagedOf n ++ [{ copy := c, queue := p.queue }] ∧
      s.dev.moves d [.draws, .sw, .mem] [0x48, 0x49, 0x50, 0x60]) ∧
  (∀ (s : State) (n : Nat), s.Awake → 34 ≤ n ∨ s.dev.portUp n = false → Idle (.selection n) s) ∧
  (∀ (s : State) (k : Nat) (b : Bucket), s.Awake → k < 36898 → b = s.dev.bucket k → s.dev.refillDue k = true →
    Gives (.shaperRefill k .clean) s fun d => d.bucket k =
      { cir := s.dev.num SHAP.CIR k, cbs := s.dev.num SHAP.CBS k, pir := s.dev.num SHAP.PIR k, pbs := s.dev.num SHAP.PBS k,
        c := min ((s.dev.num SHAP.CBS k * 65536 : Nat) : Int) (min ((s.dev.num SHAP.CBS k * 65536 : Nat) : Int) b.c +
          (refillOf k (s.dev.num SHAP.CIR k) : Nat)),
        p := min ((s.dev.num SHAP.PBS k * 65536 : Nat) : Int) (min ((s.dev.num SHAP.PBS k * 65536 : Nat) : Int) b.p +
          (refillOf k (s.dev.num SHAP.PIR k) : Nat)),
        at_ := some (periodAt b.at_ (refillEvery k) s.dev.clk.up) } ∧
      (∀ j, j ≠ k → d.bucket j = s.dev.bucket j) ∧ s.dev.keeps d [.sw]) ∧
  (∀ (s : State) (k : Nat), s.Awake → k < 36898 → s.dev.refillDue k = true →
    Gives (.shaperRefill k .bad) s fun d => (d.bucket k).c = ((s.dev.num SHAP.CBS k * 65536 : Nat) : Int) ∧
      (d.bucket k).p = ((s.dev.num SHAP.PBS k * 65536 : Nat) : Int) ∧ (∀ j, j ≠ k → d.bucket j = s.dev.bucket j)) ∧
  (∀ (s : State) (k t : Nat) (ue : Guard), s.Awake → (s.dev.bucket k).at_ = some t → s.dev.clk.up < t + refillEvery k →
    Idle (.shaperRefill k ue) s) ∧
  (∀ (s : State) (k : Nat) (ue : Guard), s.Awake → 36898 ≤ k → Idle (.shaperRefill k ue) s) ∧
  (∀ (s : State) (q : Nat) (late deep was : Bool), s.Awake → s.dev.on TMGR.SAMPLE_CFG_EN = true → q = s.dev.sw.sampler % 262144 →
    periodDue s.dev.sw.sampledAt 32 s.dev.clk.up = true →
    late = ((s.dev.sampleOf q).1 && s.dev.num (TMGR.DLY_TH.ix (q % 8)) * 1000 ≠ 0 &&
      decide (s.dev.num (TMGR.DLY_TH.ix (q % 8)) * 1000 ≤ (s.dev.sampleOf q).2.2.1)) →
    deep = (s.dev.num (TMGR.DEPTH_TH.ix (q % 8)) * 1024 ≠ 0 &&
      decide (s.dev.num (TMGR.DEPTH_TH.ix (q % 8)) * 1024 ≤ (s.dev.sampleOf q).2.1)) →
    was = (match s.dev.sw.samples.get none q with | some x => x.alert | none => false) →
    Gives (.queueSample .clean) s fun d => d.sw.sampler = (q + 1) % 262144 ∧
      d.sw.sampledAt = some (periodAt s.dev.sw.sampledAt 32 s.dev.clk.up) ∧
      d.sw.samples.get none q = some { bits := (s.dev.sampleOf q).2.2.2, alert := late || deep } ∧
      ((late || deep) = true → was = false → d.raised TMGR.int_QUEUE_ALERT = true ∧
        d.num TMGR.ALERTS = (s.dev.num TMGR.ALERTS + 1) % 2 ^ 32) ∧
      ((late || deep) = was → s.dev.keeps d [.sw]) ∧ s.dev.moves d [.sw] [0x48]) ∧
  (∀ (s : State) (ue : Guard), s.Awake → s.dev.on TMGR.SAMPLE_CFG_EN = false ∨ periodDue s.dev.sw.sampledAt 32 s.dev.clk.up = false →
    Idle (.queueSample ue) s)

/-- Time gates (R366 to R369, R376): the entry in force, a change accepted, refused, cancelled and made, and access to the lists. The
model's own readings that its commands follow: log entries 3, 4, 5, 46 and 48. -/
def Obligations.TimeGates : Prop :=
  (∀ (s : State) (n : Nat), s.Awake → n < 34 → s.dev.gated n = true →
    Gives (.gateEntry n) s fun d => d.num GATE.GATE_STAT n % 256 = (s.dev.gateNowIn n).1 % 256 ∧
      bitsOf (d.num GATE.GATE_STAT n) 8 8 = (s.dev.gateNowIn n).2 % 256 ∧
      d.sw.queues = s.dev.sw.queues ∧ d.sw.staged = s.dev.sw.staged ∧ d.gate n = s.dev.gate n ∧ s.dev.keeps d [.regs, .sw] ∧
      s.dev.keepsBut d [GATE.GATE_STAT.key 0 n]) ∧
  (∀ (s : State) (n : Nat), s.Awake → n < 34 → s.dev.gated n = false →
    Gives (.gateEntry n) s fun d => d = s.dev.pruneDeficits n ∧ d.sw.queues = s.dev.sw.queues ∧ s.dev.keeps d [.sw]) ∧
  (∀ (s : State) (n : Nat), (s.dev.gated n = false → s.dev.gateStat n % 256 = 0xFF) ∧
    (s.dev.gated n = true → s.dev.gateStat n % 256 = (s.dev.gateNowIn n).1 % 256 ∧
      bitsOf (s.dev.gateStat n) 8 8 = (s.dev.gateNowIn n).2 % 256)) ∧
  (∀ (s : State) (n len cyc : Nat), s.Opens 0x4B → n < 34 → len = s.dev.num GATE.ADM_LEN n → cyc = s.dev.num GATE.ADM_CYCLE n →
    1 ≤ len → len ≤ 256 → 1000 ≤ cyc → cyc ≤ 1000000000 →
    (∀ i, i < len → (s.dev.gclEntry n ((s.dev.gate n).bank + 1) i).2 ≠ 0) →
    Gives (.gateChange n) s fun d => d.gate n = { s.dev.gate n with pending := some (gateInstant
        (nsOfStamp (s.dev.num2 GATE.ADM_BASE_LO GATE.ADM_BASE_HI n)) cyc s.dev.gateNow, cyc, len) } ∧
      d.on GATE.GATE_STAT_PENDING n = true ∧ s.dev.keeps d [.regs, .sw] ∧ s.dev.keepsBut d [GATE.GATE_STAT.key 0 n]) ∧
  (∀ (s : State) (n len cyc : Nat), s.Opens 0x4B → n < 34 → len = s.dev.num GATE.ADM_LEN n → cyc = s.dev.num GATE.ADM_CYCLE n →
    len = 0 ∨ 256 < len ∨ cyc < 1000 ∨ 1000000000 < cyc ∨ (∃ i, i < len ∧ (s.dev.gclEntry n ((s.dev.gate n).bank + 1) i).2 = 0) →
    Gives (.gateChange n) s fun d => d.raised GATE.int_CHANGE_REFUSED = true ∧ s.dev.reportsOnly d) ∧
  (∀ (s : State) (n : Nat), s.Opens 0x4B → n < 34 →
    Gives (.gateCancel n) s fun d => d.gate n = { s.dev.gate n with pending := none } ∧ d.on GATE.GATE_STAT_PENDING n = false ∧
      s.dev.keeps d [.regs, .sw] ∧ s.dev.keepsBut d [GATE.GATE_STAT.key 0 n]) ∧
  (∀ (s : State) (n t cyc len : Nat), s.Awake → n < 34 → (s.dev.gate n).pending = some (t, cyc, len) → t ≤ s.dev.gateNow →
    Gives (.gateListSwap n) s fun d => d.gate n = { bank := ((s.dev.gate n).bank + 1) % 2, len := len, pending := none } ∧
      d.num GATE.OPER_CYCLE n = cyc % 2 ^ 32 ∧ d.num2 GATE.OPER_BASE_LO GATE.OPER_BASE_HI n = (stampOf t).toNat ∧
      d.on GATE.GATE_STAT_PENDING n = false ∧ d.on GATE.GATE_STAT_LIST_ACTIVE n = true ∧
      d.num GATE.CHANGES n = (s.dev.num GATE.CHANGES n + 1) % 2 ^ 32 ∧ d.raised GATE.int_CHANGE_DONE = true ∧
      s.dev.moves d [.sw] [0x4B]) ∧
  (∀ (s : State) (n : Nat), s.Awake → n < 34 → (∀ x, (s.dev.gate n).pending = some x → s.dev.gateNow < x.1) →
    Gives (.gateListSwap n) s fun d => d = s.dev.pruneDeficits n ∧ d.gate n = s.dev.gate n ∧ s.dev.keeps d [.sw]) ∧
  (∀ (s : State) (path n i : Nat) (w : Word), s.Opens 0x4B → n < 34 → i = s.dev.num GATE.GCL_IDX n % 256 →
    Gives (.gclAccess path n (some w)) s fun d =>
      (s.dev.on GATE.GATE_STAT_PENDING n = false → d.gclEntry n ((s.dev.gate n).bank + 1) i =
        ((s.dev.gclEntry n ((s.dev.gate n).bank + 1) i).1, w.toNat)) ∧
      (s.dev.on GATE.GATE_STAT_PENDING n = true → d.sw = s.dev.sw) ∧
      (∀ j, d.gclEntry n (s.dev.gate n).bank j = s.dev.gclEntry n (s.dev.gate n).bank j) ∧
      d.num GATE.GCL_IDX n % 256 = (i + 1) % 256 ∧ s.dev.keeps d [.regs, .sw] ∧ s.dev.keepsBut d [GATE.GCL_IDX.key 0 n]) ∧
  (∀ (s : State) (path n : Nat), s.Opens 0x4B → n < 34 →
    Gives (.gclAccess path n none) s fun d => d.out = .words path [BitVec.ofNat 32 (s.dev.gclView n).2] :: s.dev.out ∧
      d.num GATE.GCL_IDX n % 256 = (s.dev.num GATE.GCL_IDX n + 1) % 256 ∧ s.dev.keeps d [.regs, .out] ∧
      s.dev.keepsBut d [GATE.GCL_IDX.key 0 n])

/-- Refresh, drift tracking and scrubbing of memory channels (R389, R390, R395, R397, R398). The model's own readings that its commands
follow: log entries 3, 4, 5, 54, 88, 89, 90, 112, 114, 115 and 122. -/
def Obligations.RefreshDriftAndScrub : Prop :=
  (∀ (s : State) (m b n : Nat) (demand : Bool), s.Awake → s.dev.chLive m = true → n = s.dev.mem.post.get 0 (refKey m b) →
    Gives (.refresh m b demand) s fun d =>
      (m < 48 → demand = true → n < 8 → d.mem = { s.dev.mem with post := s.dev.mem.post.set 0 (refKey m b) (n + 1) } ∧
        d.num MEMC.POSTPONE_PEAK m = max (n + 1) (s.dev.num MEMC.POSTPONE_PEAK m)) ∧
      (48 ≤ m ∨ demand = false ∨ 8 ≤ n → d.mem = s.dev.mem) ∧ s.dev.moves d [.mem] [0x50, 0x60]) ∧
  (∀ (s : State) (m b n t : Nat), s.Awake → s.dev.chLive m = true → m < 48 → n = s.dev.mem.post.get 0 (refKey m b) → 0 < n →
    t = s.dev.mem.madeUp.get 0 (refKey m b) → t = 0 ∨ t - 1 + 1800 ≤ s.dev.clk.up →
    Gives (.makeUpRefresh m b) s fun d => d.mem.post.get 0 (refKey m b) = n - 1 ∧
      d.mem.madeUp.get 0 (refKey m b) = s.dev.clk.up + 1 ∧ s.dev.moves d [.mem] [0x60]) ∧
  (∀ (s : State) (m b : Nat), s.Awake → s.dev.chLive m = false ∨ 48 ≤ m ∨ s.dev.mem.post.get 0 (refKey m b) = 0 →
    Idle (.makeUpRefresh m b) s) ∧
  (∀ (s : State) (m rate : Nat), s.Awake → s.dev.chLive m = true →
    s.dev.mem.polled.get 0 m + s.dev.fld MEMC.REF_CFG_MR4_POLL ≤ s.dev.upMs →
    Gives (.mr4Poll m rate) s fun d => d.fld MEMC.CH_STAT_RATE m = rate % 4 ∧ d.mem.polled.get 0 m = s.dev.upMs ∧
      d.on MEMC.CH_STAT_TEMP_HIGH m = decide (rate % 4 = 3) ∧
      (m < 48 → s.dev.fld MEMC.CH_STAT_RATE m ≠ rate % 4 → d.raised MEMC.int_MR4_CHANGE = true) ∧
      (m < 48 → s.dev.fld MEMC.CH_STAT_RATE m ≠ rate % 4 → s.dev.on MEMC.REF_CFG_HK_OWN = true →
        d.fld MEMC.CH_CFG_REF_MULT m = min 2 (rate % 4)) ∧ s.dev.moves d [.mem] [0x50]) ∧
  (∀ (s : State) (m rate : Nat), s.Awake → s.dev.chLive m = false ∨
    s.dev.upMs < s.dev.mem.polled.get 0 m + s.dev.fld MEMC.REF_CFG_MR4_POLL → Idle (.mr4Poll m rate) s) ∧
  (∀ (s : State) (m : Nat), s.Awake → s.dev.chLive m = true → m < 48 → s.dev.graceOver m = true →
    Gives (.refForced m) s fun d => d.mem = { s.dev.mem with forced := s.dev.mem.forced.set 0 m (s.dev.rateNeeded m) } ∧
      d.on MEMC.CH_STAT_REF_FORCED m = true ∧ d.raised MEMC.int_REF_FORCED = true ∧ s.dev.moves d [.mem] [0x50]) ∧
  (∀ (s : State) (m : Nat), s.Awake → 48 ≤ m ∨ s.dev.graceOver m = false → Idle (.refForced m) s) ∧
  (∀ (s : State) (m n : Nat) (wr rd old : Int), s.Awake → s.dev.chLive m = true → s.dev.enabled 0x51 = true →
    s.dev.on TOP.BOOT_STATUS_READY = true → s.dev.mem.tracked.get 0 m + s.dev.fld MTRN.TRK_CFG_PERIOD m ≤ s.dev.upMs →
    n = (bitsOf (s.dev.num MTRN.TRK_STAT m) 16 16 + 1) % 65536 → old = signedOf (bitsOf (s.dev.num MTRN.TRK_STAT m) 8 8) 8 →
    Gives (.driftUpdate m wr rd) s fun d => d.num MTRN.TRK_STAT m = toBits 8 (clampInt (-128) 127 wr) +
        toBits 8 (if n % 8 = 0 then clampInt (-128) 127 rd else old) * 256 + n * 65536 ∧ d.mem.tracked.get 0 m = s.dev.upMs ∧
      (clampInt (-128) 127 wr = signedOf (bitsOf (s.dev.num MTRN.TRK_STAT m) 0 8) 8 →
        ∀ j, j < 4 → d.num (MTRN.DQ_WR_DLY.ix j) m = s.dev.num (MTRN.DQ_WR_DLY.ix j) m) ∧
      (n % 8 ≠ 0 → ∀ j, j < 4 → d.num (MTRN.DQ_RD_DLY.ix j) m = s.dev.num (MTRN.DQ_RD_DLY.ix j) m) ∧
      (s.dev.fld MTRN.TRK_CFG_DRIFT_TH m < (clampInt (-128) 127 wr).natAbs → d.raised MTRN.int_DRIFT = true) ∧
      s.dev.moves d [.frees, .mem] [0x51]) ∧
  (∀ (s : State) (m : Nat) (wr rd : Int), s.Awake → s.dev.enabled 0x51 = false ∨ s.dev.on TOP.BOOT_STATUS_READY = false ∨
    s.dev.upMs < s.dev.mem.tracked.get 0 m + s.dev.fld MTRN.TRK_CFG_PERIOD m → Idle (.driftUpdate m wr rd) s) ∧
  (∀ (s : State) (c : Instr) (m : Nat), (c = .scrubStart m ∧ s.Opens 0x50 ∧ m < 64) ∨ (c = .scrubPass m [] ∧ s.Awake ∧
      s.dev.chLive m = true ∧ s.dev.scrubDue m = true) → s.dev.enabled 0x50 = true → s.dev.chState m = 0 →
    s.dev.opState MEMC.SCRUB_STAT m ≠ 1 →
    Gives c s fun d => d.num MEMC.SCRUB_STAT m = 1 ∧
      d.mem = { s.dev.mem with scrubbed := s.dev.mem.scrubbed.set 0 m (s.dev.upMs / 1000) } ∧ s.dev.keeps d [.regs, .mem] ∧
      s.dev.keepsBut d [MEMC.SCRUB_STAT.key 0 m]) ∧
  (∀ (s : State) (m : Nat), s.Opens 0x50 → m < 64 → s.dev.enabled 0x50 = false ∨ s.dev.chState m ≠ 0 ∨
    s.dev.opState MEMC.SCRUB_STAT m = 1 → Idle (.scrubStart m) s) ∧
  (∀ (s : State) (m : Nat) (found : List ScrubFind), s.Awake → s.dev.opState MEMC.SCRUB_STAT m = 1 → s.dev.chLive m = true →
    s.dev.enabled 0x50 = true →
    Gives (.scrubPass m found) s fun d => d.num MEMC.SCRUB_STAT m = statusWord 2 0 131072 ∧ d.raised MEMC.int_SCRUB_DONE = true) ∧
  (∀ (s : State) (m : Nat) (x : ScrubFind) (t : Nat), s.Awake → s.dev.opState MEMC.SCRUB_STAT m = 1 → s.dev.chLive m = true →
    s.dev.enabled 0x50 = true → m < 48 → s.dev.slotHere m (x.addr % 2 ^ 29) = some t → s.dev.flow.opened.get none t = none →
    slotKind (s.dev.slotAt false t) = 1 → s.dev.rebuilding = false → oneSymbol x.word = false →
    Gives (.scrubPass m [x]) s fun d => d.num MEMC.UE_CNT m = min 0xFFFFFFFF (s.dev.num MEMC.UE_CNT m + 1) ∧
      d.num FUSE.REC_LOST = (s.dev.num FUSE.REC_LOST + 1) % 2 ^ 32 ∧ slotKind (d.slotAt false t) = 0) ∧
  (∀ (s : State) (m : Nat) (found : List ScrubFind), s.Awake → s.dev.opState MEMC.SCRUB_STAT m ≠ 1 → s.dev.scrubDue m = false →
    Idle (.scrubPass m found) s) ∧
  (∀ (s : State) (m : Nat), s.Opens 0x50 → m < 64 → s.dev.opState MEMC.SCRUB_STAT m = 1 →
    Gives (.scrubAbort m) s fun d => d.opState MEMC.SCRUB_STAT m = 3 ∧ s.dev.moves d [.frees, .mem] [0x50])

/-- Training steps and the comparator (R393, R405): what the window lets through, what a step latches, what is counted. The model's own
readings that its commands follow: log entries 1, 2, 3, 4, 5, 91, 114 and 115. -/
def Obligations.TrainingSteps : Prop :=
  (∀ (s : State) (c : Instr) (m step : Nat), (c = .commandBusTraining m ∧ step = 0) ∨ (c = .wck2ckLevelling m ∧ step = 1) ∨
      (c = .readTraining m ∧ step = 2) ∨ (c = .writeTraining m ∧ step = 3) ∨ (c = .check m ∧ step = 4) → s.Opens 0x51 → m < 64 →
    s.dev.on MTRN.TRAIN_STAT_WINDOW = true → s.dev.opState MTRN.STEP_STAT m ≠ 1 →
    Gives c s fun d => d.num MTRN.STEP_STAT m = 1 ∧ d.mem.step.get 0 m = step ∧
      (step < 3 → d.mem = { s.dev.mem with step := s.dev.mem.step.set 0 m step }) ∧
      (step = 3 → ∀ i, i < s.dev.fld MTRN.PAT_CFG_LEN m →
        d.mem.pattern.get 0 (m * 2 ^ 24 + (s.dev.num MTRN.PAT_ADDR m % 2 ^ 24 + i) % 2 ^ 24) =
          s.dev.fld MTRN.PAT_CFG_PATTERN m + s.dev.num MTRN.PAT_FIXED m * 8 + i * 2 ^ 35 + 2 ^ 60) ∧
      (step = 4 → s.dev.mem.pattern.wf 0 = true → ∀ i, i < 1024 → d.mem.pattern.get 0 (m * 2 ^ 24 + i) = 2 + i * 2 ^ 35 + 2 ^ 60) ∧
      s.dev.keeps d [.regs, .mem] ∧ s.dev.keepsBut d [MTRN.STEP_STAT.key 0 m]) ∧
  (∀ (s : State) (c : Instr) (m : Nat) (e : List Nat), c = .commandBusTraining m ∨ c = .wck2ckLevelling m ∨ c = .readTraining m ∨
      c = .writeTraining m ∨ c = .check m ∨ c = .cmpWrite m ∨ c = .cmpReadCmp m e ∨ c = .cmpClear m → s.Opens 0x51 → m < 64 →
    s.dev.on MTRN.TRAIN_STAT_WINDOW = false →
    Gives c s fun d => d.raised MTRN.int_REFUSED = true ∧ s.dev.reportsOnly d) ∧
  (∀ (s : State) (m : Nat), s.Opens 0x51 → m < 64 → s.dev.opState MTRN.STEP_STAT m = 1 →
    Gives (.stepAbort m) s fun d => d.opState MTRN.STEP_STAT m = 3 ∧ s.dev.moves d [.frees] [0x51]) ∧
  (∀ (s : State) (m progress : Nat) (t : Trained), s.Awake → m = t.channel % 64 → s.dev.opState MTRN.STEP_STAT m = 1 → t.ok = true →
    Gives (.trainingStepDone t progress) s fun d => d.num MTRN.STEP_STAT m = statusWord 2 0 progress ∧
      d.raised MTRN.int_STEP_DONE = true ∧
      (s.dev.mem.step.get 0 m = 1 → d.num MTRN.WCK_DLY m % 256 = t.wck % 256) ∧
      (s.dev.mem.step.get 0 m = 2 → ∀ i, i < 4 → d.num (MTRN.DQ_RD_DLY.ix i) m = tapWord t.rd i) ∧
      (s.dev.mem.step.get 0 m = 3 → ∀ i, i < 4 → d.num (MTRN.DQ_WR_DLY.ix i) m = tapWord t.wr i) ∧
      (s.dev.mem.step.get 0 m = 4 → d.mem.checked.get 0 m = 5) ∧ s.dev.moves d [.mem] [0x51]) ∧
  (∀ (s : State) (m progress : Nat) (t : Trained), s.Awake → m = t.channel % 64 → s.dev.opState MTRN.STEP_STAT m = 1 → t.ok = false →
    Gives (.trainingStepDone t progress) s fun d => d.num MTRN.STEP_STAT m = statusWord 4 0 progress ∧
      d.raised MTRN.int_STEP_FAIL = true ∧ d.mem.checked.get 0 m % 4 = 2 ∧ s.dev.moves d [.mem] [0x51]) ∧
  (∀ (s : State) (progress : Nat) (t : Trained), s.Awake → s.dev.opState MTRN.STEP_STAT (t.channel % 64) ≠ 1 →
    Idle (.trainingStepDone t progress) s) ∧
  (∀ (s : State) (m : Nat), s.Opens 0x51 → m < 64 → s.dev.on MTRN.TRAIN_STAT_WINDOW = true →
    Gives (.cmpWrite m) s fun d => (∀ i, i < s.dev.fld MTRN.PAT_CFG_LEN m →
        d.mem.pattern.get 0 (m * 2 ^ 24 + (s.dev.num MTRN.PAT_ADDR m % 2 ^ 24 + i) % 2 ^ 24) =
          s.dev.fld MTRN.PAT_CFG_PATTERN m + s.dev.num MTRN.PAT_FIXED m * 8 + i * 2 ^ 35 + 2 ^ 60) ∧ s.dev.keeps d [.mem]) ∧
  (∀ (s : State) (m : Nat) (e : List Nat), s.Opens 0x51 → m < 64 → s.dev.on MTRN.TRAIN_STAT_WINDOW = true →
    Gives (.cmpReadCmp m e) s fun d => (∀ k, k < 16 → d.num (MTRN.PIN_ERR.ix k) m =
        min 0xFFFFFFFF (s.dev.num (MTRN.PIN_ERR.ix k) m + e.getD k 0)) ∧ s.dev.keeps d [.regs] ∧ s.dev.keepsPages d [0x51]) ∧
  (∀ (s : State) (m : Nat), s.Opens 0x51 → m < 64 → s.dev.on MTRN.TRAIN_STAT_WINDOW = true →
    Gives (.cmpClear m) s fun d => (∀ k, k < 16 → d.num (MTRN.PIN_ERR.ix k) m = 0) ∧ s.dev.keeps d [.regs] ∧
      s.dev.keepsPages d [0x51])

/-- Retirement of channels (R399 to R402): what GO starts and refuses, the copy of a slot, the switch, and a packet channel whose blocks
are all withheld. The model's own readings that its commands follow: log entries 3, 4, 5, 69, 92 and 114. -/
def Obligations.ChannelRetirement : Prop :=
  (∀ (s : State) (m : Nat), s.Opens 0x50 → m < 48 → s.dev.retireRefused m = false →
    Gives (.retireGo m) s fun d => d.num MEMC.RETIRE_STAT = 1 ∧ d.chState m = 1 ∧
      d.mem = { s.dev.mem with retire := some { channel := m } } ∧ s.dev.moves d [.mem] [0x50]) ∧
  (∀ (s : State) (m : Nat), s.Opens 0x50 → 48 ≤ m → m < 64 → s.dev.retireRefused m = false →
    Gives (.retireGo m) s fun d => d.num MEMC.RETIRE_STAT = 1 ∧ d.chState m = 1 ∧ m ∈ d.sw.noBlocks ∧
      d.mem = { s.dev.mem with retire := some { channel := m } } ∧ s.dev.moves d [.sw, .mem] [0x11, 0x40, 0x50, 0x58, 0x70]) ∧
  (∀ (s : State) (m : Nat), s.Opens 0x50 → m < 64 → s.dev.retireRefused m = true →
    Gives (.retireGo m) s fun d => d.raised MEMC.int_RETIRE_REFUSED = true ∧ s.dev.reportsOnly d) ∧
  (∀ (s : State) (r : Retire) (ue : Option BadWord), s.Awake → s.dev.mem.retire = some r → r.channel < 48 → r.switchNs = none →
    s.dev.flow.opened.get none (48 * r.copied + r.channel) = none →
    Gives (.retireSlotCopy ue) s fun d => (∃ r', d.mem.retire = some r' ∧ r'.channel = r.channel ∧ r'.copied = r.copied + 1 ∧
        (r'.switchNs = if s.dev.slotRows r.channel ≤ r.copied + 1 then some ((s.dev.nowNs + 999) / 1000 * 1000) else none)) ∧
      (∀ w, ue = some w → oneSymbol w = false → d.num MEMC.RET_LOST = min 0xFFFFFFFF (s.dev.num MEMC.RET_LOST + 1)) ∧
      (ue = none → d.flow = s.dev.flow)) ∧
  (∀ (s : State) (r : Retire) (ue : Option BadWord), s.Awake → s.dev.mem.retire = some r → r.channel < 48 →
    (s.dev.flow.opened.get none (48 * r.copied + r.channel)).isSome = true → Idle (.retireSlotCopy ue) s) ∧
  (∀ (s : State) (r : Retire) (t : Nat), s.Awake → s.dev.mem.retire = some r → r.channel < 64 → r.switchNs = some t → t ≤ s.dev.nowNs →
    Gives .retireSwitch s fun d => d.mem = { s.dev.mem with retire := none } ∧ d.retired r.channel = true ∧ d.chState r.channel = 2 ∧
      d.num MEMC.RETIRE_STAT = statusWord 2 0 (r.copied / 1024) ∧ d.raised MEMC.int_RETIRE_DONE = true ∧ s.dev.moves d [.mem] [0x50]) ∧
  (∀ (s : State) (r : Retire) (t : Nat), s.Awake → s.dev.mem.retire = some r → r.switchNs = some t → s.dev.nowNs < t →
    Idle .retireSwitch s) ∧
  (∀ (s : State) (m : Nat), s.Awake → m < 48 → s.dev.enabled 0x50 = true → s.dev.chState m = 0 → s.dev.on MEMC.RETIRE_CFG_AUTO = true →
    s.dev.fld MEMC.RETIRE_CFG_UE_TH ≤ s.dev.uesNow m → s.dev.retireRefused m = false →
    Gives (.autoRetire m) s fun d => d.num MEMC.RETIRE_STAT = 1 ∧ d.chState m = 1 ∧
      d.mem = { s.dev.mem with retire := some { channel := m } } ∧ s.dev.moves d [.mem] [0x50]) ∧
  (∀ (s : State) (m : Nat), s.Awake → m < 64 → s.dev.on MEMC.RETIRE_CFG_AUTO = false → s.dev.on MEMC.RETIRE_CFG_PIN_AUTO = false →
    Idle (.autoRetire m) s) ∧
  (∀ (s : State) (r : Retire), s.Awake → s.dev.mem.retire = some r → 48 ≤ r.channel → r.channel < 64 →
    s.dev.idleBlocks r.channel = 262144 →
    Gives .packetChannelRetired s fun d => d.mem = { s.dev.mem with retire := none } ∧ d.retired r.channel = true ∧
      d.num MEMC.RETIRE_STAT = statusWord 2 0 256 ∧ d.raised MEMC.int_RETIRE_DONE = true ∧ s.dev.moves d [.mem] [0x50]) ∧
  (∀ (s : State) (r : Retire), s.Awake → s.dev.mem.retire = some r → s.dev.idleBlocks r.channel ≠ 262144 → Idle .packetChannelRetired s)

/-- Heartbeats, agreement and the hash keys of tandem operation (R409, R410, R412, R413). The model's own readings that its commands
follow: log entries 3, 4, 5, 68, 93, 94, 97 and 98. -/
def Obligations.TandemAgreement : Prop :=
  (∀ s : State, s.Awake → s.dev.enabled 0x58 = true → s.dev.portState 33 = 5 → s.dev.tandem.sentHb + s.dev.hbPeriod ≤ s.dev.clk.up →
    Gives .heartbeatSend s fun d => Output.frame 33 (withFcs s.dev.heartbeat) false ∈ d.out ∧ d.tandem.sentHb = s.dev.clk.up ∧
      d.tandem.ownOcc = s.dev.flowOcc ∧ s.dev.moves d [.sw, .tandem] [0x58]) ∧
  (∀ s : State, s.Awake → s.dev.enabled 0x58 = false ∨ s.dev.portState 33 ≠ 5 ∨
    s.dev.clk.up < s.dev.tandem.sentHb + s.dev.hbPeriod → Idle .heartbeatSend s) ∧
  (∀ (s : State) (bs : List Byte) (r : Nat), s.Awake → isHeartbeat bs = true → s.dev.portState 33 = 5 → s.dev.enabled 0x58 = true →
    s.dev.hbReason bs (hbTheta2 bs (s.dev.stamp 8).toNat) = some r →
    Gives (.heartbeatReceive bs) s fun d => d.tState = 6 ∧ d.fld TNDM.STATE_REASON = r ∧ d.raised TNDM.int_ALONE = true ∧
      d.num TNDM.PEER_CHECK = hbField bs 20 4 ∧ d.num TNDM.PEER_INFO = hbField bs 18 2 ∧ d.num TNDM.PEER_UCODE = hbField bs 24 4 ∧
      d.num TNDM.PEER_KEY_TAG = hbField bs 28 4 ∧ d.tandem.echo = some (hbField bs 36 8, (s.dev.stamp 8).toNat) ∧
      s.dev.moves d [.sw, .units, .tandem] [0x11, 0x40, 0x41, 0x48, 0x50, 0x58, 0x70]) ∧
  (∀ (s : State) (bs : List Byte) (n : Nat), s.Awake → isHeartbeat bs = true → s.dev.portState 33 = 5 → s.dev.enabled 0x58 = true →
    s.dev.hbReason bs (hbTheta2 bs (s.dev.stamp 8).toNat) = none → s.dev.tState = 2 →
    n = s.dev.hbAgree bs (hbTheta2 bs (s.dev.stamp 8).toNat) →
    Gives (.heartbeatReceive bs) s fun d =>
      (n < s.dev.fld TNDM.HB_CFG_HB_OK → d.tState = 2 ∧ d.tandem.agree = n ∧ d.num TNDM.PEER_KEY_TAG = hbField bs 28 4) ∧
      (s.dev.fld TNDM.HB_CFG_HB_OK ≤ n → hbField bs 28 4 = s.dev.keyTag → d.tState = 4 ∧ d.num TNDM.RESYNC_STAT = 1 ∧
        d.tandem.cursor = 0 ∧ d.on TNDM.STATE_PEER_UNTRUSTED = false) ∧
      (s.dev.fld TNDM.HB_CFG_HB_OK ≤ n → hbField bs 28 4 ≠ s.dev.keyTag → s.dev.on TNDM.LINK_KEY_STAT_VALID = false →
        d.tState = 6 ∧ d.fld TNDM.STATE_REASON = 10 ∧ d.raised TNDM.int_KEY_FAIL = true) ∧
      (s.dev.fld TNDM.HB_CFG_HB_OK ≤ n → hbField bs 28 4 ≠ s.dev.keyTag → s.dev.on TNDM.LINK_KEY_STAT_VALID = true →
        d.tState = 3 ∧ (d.on TNDM.STATE_KEY_SOURCE = true ↔ hbField bs 32 4 < s.dev.tandem.ownOcc ∨
          (hbField bs 32 4 = s.dev.tandem.ownOcc ∧ s.dev.tandemId < hbField bs 16 1 % 2)))) ∧
  (∀ (s : State) (bs : List Byte), s.Awake → isHeartbeat bs = false ∨ s.dev.portState 33 ≠ 5 ∨ s.dev.enabled 0x58 = false →
    Idle (.heartbeatReceive bs) s) ∧
  (∀ s : State, s.Awake → 3 ≤ s.dev.tState → s.dev.tState ≤ 5 →
    s.dev.tandem.lastHb + s.dev.fld TNDM.HB_CFG_HB_MISS * s.dev.hbPeriod ≤ s.dev.clk.up →
    Gives .peerSilent s fun d => d.tState = 6 ∧ d.fld TNDM.STATE_REASON = 5 ∧ d.raised TNDM.int_PEER_SILENT = true ∧
      d.raised TNDM.int_ALONE = true ∧ s.dev.moves d [.sw, .units, .tandem] [0x11, 0x40, 0x41, 0x48, 0x50, 0x58, 0x70]) ∧
  (∀ s : State, s.Awake → s.dev.tState < 3 ∨ 5 < s.dev.tState ∨
    s.dev.clk.up < s.dev.tandem.lastHb + s.dev.fld TNDM.HB_CFG_HB_MISS * s.dev.hbPeriod → Idle .peerSilent s) ∧
  (∀ (s : State) (bs : List Byte), s.Awake → s.dev.tState = 3 → s.dev.on TNDM.STATE_KEY_SOURCE = false →
    s.dev.on TNDM.LINK_KEY_STAT_VALID = false ∨ bs.length ≠ 48 →
    Gives (.keyTransfer bs) s fun d => d.tState = 6 ∧ d.fld TNDM.STATE_REASON = 10 ∧ d.raised TNDM.int_KEY_FAIL = true ∧
      d.flow = s.dev.flow) ∧
  (∀ (s : State) (bs : List Byte) (x y : Nat), s.Awake → s.dev.tState = 3 → s.dev.on TNDM.STATE_KEY_SOURCE = false →
    s.dev.on TNDM.LINK_KEY_STAT_VALID = true → bs.length = 48 → x = leNat (aesBlock true s.dev.tandem.linkKey (bs.take 16)) →
    y = leNat (aesBlock true s.dev.tandem.linkKey ((bs.drop 16).take 16)) →
    x ^^^ y = leNat (aesBlock true s.dev.tandem.linkKey ((bs.drop 32).take 16)) →
    Gives (.keyTransfer bs) s fun d =>
      (s.dev.flowOcc = 0 → d.flow = { s.dev.flow with kp := x, kl := y } ∧ d.on FLOW.KEY_STAT_VALID = true) ∧
      (s.dev.flowOcc ≠ 0 → s.dev.opState MEMC.RETIRE_STAT ≠ 1 → d.flow.nkp = x ∧ d.flow.nkl = y ∧ d.flow.kp = s.dev.flow.kp ∧
        d.flow.cursor = 0 ∧ d.num FLOW.REBUILD_STAT = 1 ∧ s.dev.moves d [.flow] [0x30])) ∧
  (∀ (s : State) (bs : List Byte), s.Awake → s.dev.tState ≠ 3 ∨ s.dev.on TNDM.STATE_KEY_SOURCE = true → Idle (.keyTransfer bs) s) ∧
  (∀ (s : State) (c : Instr) (path : Nat), c = .linkKeyLoad path ∨ c = .linkKeyErase path → s.Opens 0x58 → path < 2 →
    Gives c s fun d => (c = .linkKeyLoad path → d.tandem.linkKey = s.dev.linkKeyStaged path ∧ d.on TNDM.LINK_KEY_STAT_VALID = true) ∧
      (c = .linkKeyErase path → d.tandem.linkKey = [] ∧ d.on TNDM.LINK_KEY_STAT_VALID = false) ∧
      (∀ i, i < 8 → d.regP (TNDM.LINK_KEY.ix i) path 0 = 0) ∧ s.dev.keeps d [.regs, .tandem] ∧ s.dev.keepsPages d [0x58])

/-- Replication, age queries and resynchronisation (R412, R415 to R418, R420, R421). The model's own readings that its commands follow: log
entries 3, 4, 5, 63, 65, 77, 93, 95, 96, 97, 98 and 115. -/
def Obligations.ReplicationAndResync : Prop :=
  (∀ (s : State) (bs : List Byte) (m : ReplMsg), s.Awake → s.dev.replicating = true → s.dev.portState 33 = 5 →
    replParse bs = some m → m.home < 2 * s.dev.altMask → (s.dev.replWin : Int) < stampDiff (s.dev.stamp 8).toNat m.stamp →
    Gives (.replicationMessage bs) s fun d => d.tState = 6 ∧ d.fld TNDM.STATE_REASON = 7 ∧ d.raised TNDM.int_ALONE = true ∧
      d.tandem.queue = [] ∧ s.dev.moves d [.sw, .units, .tandem] [0x11, 0x40, 0x41, 0x48, 0x50, 0x58, 0x70]) ∧
  (∀ (s : State) (bs : List Byte) (m : ReplMsg) (c : Change), s.Awake → s.dev.replicating = true → s.dev.portState 33 = 5 →
    replParse bs = some m → m.home < 2 * s.dev.altMask → stampDiff (s.dev.stamp 8).toNat m.stamp ≤ s.dev.replWin →
    c ∈ s.dev.tandem.cache → c.home = m.home → c.key = recKey m.record → s.dev.islandNs 8 ≤ c.stamp + s.dev.replWin →
    nsOfStamp m.stamp < c.stamp →
    Gives (.replicationMessage bs) s fun d => d.num (TNDM.CNT.ix 2) = (s.dev.num (TNDM.CNT.ix 2) + 1) % 2 ^ 32 ∧
      s.dev.keeps d [.regs] ∧ s.dev.keepsBut d [(TNDM.CNT.ix 2).key 0 0]) ∧
  (∀ (s : State) (bs : List Byte) (m : ReplMsg) (t : Nat), s.Awake → s.dev.replicating = true → s.dev.portState 33 = 5 →
    replParse bs = some m → m.home < 2 * s.dev.altMask → stampDiff (s.dev.stamp 8).toNat m.stamp ≤ s.dev.replWin →
    s.dev.tandem.cache = [] → 2 ≤ m.kind → s.dev.rebuilding = false → s.dev.keyAt m.home (recKey m.record) = some t →
    Gives (.replicationMessage bs) s fun d => slotKind (d.slotAt false t) = 0 ∧
      d.num (TNDM.CNT.ix 1) = (s.dev.num (TNDM.CNT.ix 1) + 1) % 2 ^ 32 ∧
      d.tandem.cache = [{ home := m.home, key := recKey m.record, stamp := nsOfStamp m.stamp, origin := s.dev.fld TNDM.STATE_PEER_ID }]) ∧
  (∀ (s : State) (bs : List Byte) (m : ReplMsg), s.Awake → s.dev.tandem.cache = [] → replParse bs = some m →
    stampDiff (s.dev.stamp 8).toNat m.stamp ≤ s.dev.replWin → m.kind ≠ 0 → s.dev.keyAt m.home (recKey m.record) = none →
    Idle (.replicationMessage bs) s) ∧
  (∀ (s : State) (bs : List Byte), s.Awake → replParse bs = none ∨ s.dev.replicating = false → Idle (.replicationMessage bs) s) ∧
  (∀ (s : State) (home key : Nat), s.Awake → s.dev.tState = 5 → s.dev.portState 33 = 5 → home < 2 * s.dev.altMask →
    Gives (.ageQuery (.query home key)) s fun d => s.dev.keeps d [.out] ∧
      (s.dev.keyAt home key = none → d.out = .peer 5 (leBytes 4 home ++ leBytes 40 key ++ leBytes 1 1) :: s.dev.out) ∧
      (∀ t, s.dev.keyAt home key = some t → d.out = .peer 5 (leBytes 4 home ++ leBytes 40 key ++
        leBytes 1 (if s.dev.recDue (s.dev.recordAt false t) = true then 1 else 0)) :: s.dev.out)) ∧
  (∀ (s : State) (t inc up : Nat), s.Awake → s.dev.tState = 5 → s.dev.portState 33 = 5 → (t, inc, up) ∈ s.dev.tandem.queries →
    Gives (.ageQuery (.answer t inc false)) s fun d => d.num (TNDM.CNT.ix 8) = (s.dev.num (TNDM.CNT.ix 8) + 1) % 2 ^ 32 ∧
      d.tandem = { s.dev.tandem with queries := d.tandem.queries } ∧ (∀ u, (t, inc, u) ∉ d.tandem.queries) ∧
      s.dev.keeps d [.regs, .tandem] ∧ s.dev.keepsBut d [(TNDM.CNT.ix 8).key 0 0]) ∧
  (∀ (s : State) (t inc up : Nat), s.Awake → s.dev.tState = 5 → s.dev.portState 33 = 5 → (t, inc, up) ∈ s.dev.tandem.queries →
    s.dev.recordAt false t ≠ 0 → rIncarn.get (s.dev.recordAt false t) = inc → s.dev.recDue (s.dev.recordAt false t) = true →
    s.dev.heldBy t (s.dev.flow.served + 1) none = false → s.dev.rebuilding = false →
    Gives (.ageQuery (.answer t inc true)) s fun d => slotKind (d.slotAt false t) = 0) ∧
  (∀ (s : State) (t inc : Nat) (yes : Bool), s.Awake → (∀ u, (t, inc, u) ∉ s.dev.tandem.queries) →
    Idle (.ageQuery (.answer t inc yes)) s) ∧
  (∀ (s : State) (q : Nat × Nat × Nat), s.Awake → s.dev.tandem.queries.find? (fun x => x.1 = q.1) = some q →
    q.2.2 + s.dev.replWin * 10 ≤ s.dev.clk.up →
    Gives (.ageQueryTimeout q.1) s fun d => d.num (TNDM.CNT.ix 8) = (s.dev.num (TNDM.CNT.ix 8) + 1) % 2 ^ 32 ∧
      q ∉ d.tandem.queries ∧ s.dev.keeps d [.regs, .tandem] ∧ s.dev.keepsBut d [(TNDM.CNT.ix 8).key 0 0]) ∧
  (∀ (s : State) (t : Nat), s.Awake → (∀ q ∈ s.dev.tandem.queries, q.1 = t → s.dev.clk.up < q.2.2 + s.dev.replWin * 10) →
    Idle (.ageQueryTimeout t) s) ∧
  (∀ (s : State) (dig stamp : Nat) (aged due : Bool), s.Awake → s.dev.tState = 4 → s.dev.opState TNDM.RESYNC_STAT = 1 →
    s.dev.flow.opened.get none s.dev.resyncSlot = none → s.dev.tandem.cursor < s.dev.altMask → s.dev.digest s.dev.resyncSlot = dig →
    Gives (.resyncEntry dig stamp aged due) s fun d =>
      (s.dev.tandem.half = false → d.tandem = { s.dev.tandem with half := true, asked := d.tandem.asked } ∧
        s.dev.keeps d [.tandem, .out]) ∧
      (s.dev.tandemId ≠ 0 → d.out = .peer 6 (leBytes 8 dig ++ leBytes 8 (s.dev.tandem.journal.get 0 s.dev.resyncSlot)) :: s.dev.out ∧
        d.tandem.asked = false) ∧
      (s.dev.tandemId = 0 → d.tandem.cursor < s.dev.altMask → s.dev.flow.opened.get none d.resyncSlot = none → d.tandem.asked = true ∧
        d.out = .peer 6 (leBytes 8 (s.dev.digest d.resyncSlot) ++ leBytes 8 (s.dev.tandem.journal.get 0 d.resyncSlot)) :: s.dev.out) ∧
      (s.dev.tandem.half = true →
        d.tandem = { s.dev.tandem with cursor := s.dev.tandem.cursor + 1, half := false, asked := d.tandem.asked } ∧
        d.num TNDM.RESYNC_STAT / 256 = (s.dev.tandem.cursor + 1) / 16 % 2 ^ 24 ∧ s.dev.keeps d [.regs, .tandem, .out] ∧
        s.dev.keepsBut d [TNDM.RESYNC_STAT.key 0 0])) ∧
  (∀ (s : State) (dig stamp t r : Nat) (aged due : Bool), s.Awake → s.dev.tState = 4 → s.dev.opState TNDM.RESYNC_STAT = 1 →
    t = s.dev.resyncSlot → s.dev.flow.opened.get none t = none → s.dev.tandem.cursor < s.dev.altMask → s.dev.digest t ≠ dig →
    slotKind (s.dev.slotAt false t) ≠ 3 → r = s.dev.recordAt false t →
    Gives (.resyncEntry dig stamp aged due) s fun d => d.num (TNDM.CNT.ix 6) = (s.dev.num (TNDM.CNT.ix 6) + 1) % 2 ^ 32 ∧
      ((s.dev.keepOwn t dig stamp aged due).1 = true → r ≠ 0 → s.dev.tandem.queue = [] → s.dev.portState 33 = 5 →
        bitOf (s.dev.xoffRx 33) 7 = false → Output.frame 33 (withFcs (s.dev.tandemFrame 2
          (replMessage (if dig = 0 then 0 else 1) 0 (s.dev.homeSlot false t) (s.dev.stamp 8).toNat r))) false ∈ d.out) ∧
      ((s.dev.keepOwn t dig stamp aged due).1 = true → r = 0 → s.dev.tandem.queue = [] → s.dev.portState 33 = 5 →
        bitOf (s.dev.xoffRx 33) 7 = false → ∃ k, Output.frame 33 (withFcs (s.dev.tandemFrame 2
          (replMessage 2 3 t (s.dev.stamp 8).toNat k))) false ∈ d.out) ∧
      ((s.dev.keepOwn t dig stamp aged due).1 = false → dig = 0 → r ≠ 0 → s.dev.rebuilding = false →
        slotKind (d.slotAt false t) = 0)) ∧
  (∀ (s : State) (dig stamp : Nat) (aged due : Bool), s.Awake → s.dev.tState ≠ 4 ∨ s.dev.opState TNDM.RESYNC_STAT ≠ 1 ∨
    (s.dev.flow.opened.get none s.dev.resyncSlot).isSome = true ∨ s.dev.altMask ≤ s.dev.tandem.cursor →
    Idle (.resyncEntry dig stamp aged due) s) ∧
  (∀ s : State, s.Opens 0x58 → s.dev.tState = 6 → s.dev.fld TNDM.STATE_REASON = 8 → 0 < s.dev.tandem.agree →
    Gives .resyncStart s fun d => d.tState = 4 ∧ d.num TNDM.RESYNC_STAT = 1 ∧ d.tandem.cursor = 0 ∧ d.tandem.half = false ∧
      s.dev.moves d [.sw, .units, .tandem] [0x11, 0x40, 0x41, 0x48, 0x50, 0x58, 0x70]) ∧
  (∀ s : State, s.Opens 0x58 → s.dev.tState ≠ 6 ∨ s.dev.fld TNDM.STATE_REASON ≠ 8 ∨ s.dev.tandem.agree = 0 → Idle .resyncStart s) ∧
  (∀ s : State, s.Opens 0x58 → s.dev.opState TNDM.RESYNC_STAT = 1 → s.dev.tState = 4 → s.dev.altMask ≤ s.dev.tandem.cursor →
    Gives .resyncAbort s fun d => d.tState = 5 ∧ d.opState TNDM.RESYNC_STAT = 2 ∧ bitOf (d.num TNDM.RESYNC_STAT) 3 = true ∧
      d.raised TNDM.int_RESYNC_DONE = true) ∧
  (∀ s : State, s.Opens 0x58 → s.dev.opState TNDM.RESYNC_STAT = 1 → s.dev.tState = 4 → s.dev.tandem.cursor < s.dev.altMask →
    Gives .resyncAbort s fun d => d.tState = 6 ∧ d.fld TNDM.STATE_REASON = 8 ∧ d.opState TNDM.RESYNC_STAT = 3 ∧
      d.num TNDM.RESYNC_STAT / 256 = s.dev.num TNDM.RESYNC_STAT / 256) ∧
  (∀ s : State, s.Opens 0x58 → s.dev.opState TNDM.RESYNC_STAT ≠ 1 → s.dev.opState TNDM.RESYNC_STAT ≠ 2 → Idle .resyncAbort s) ∧
  (∀ s : State, s.Awake → s.dev.tState = 4 → s.dev.opState TNDM.RESYNC_STAT = 1 → s.dev.altMask ≤ s.dev.tandem.cursor →
    Gives .resyncDone s fun d => d.tState = 5 ∧ d.num TNDM.RESYNC_STAT = statusWord 2 0 (s.dev.altMask / 16) ∧
      d.tandem = { s.dev.tandem with journal := [], aged := [], agree := 0 } ∧ d.on TNDM.STATE_JOURNALING = false ∧
      d.on TNDM.STATE_JOURNAL_FULL = false ∧ d.raised TNDM.int_RESYNC_DONE = true ∧ d.raised TNDM.int_JOINED = true ∧
      s.dev.moves d [.tandem] [0x58]) ∧
  (∀ s : State, s.Awake → s.dev.tState ≠ 4 ∨ s.dev.tandem.cursor < s.dev.altMask → Idle .resyncDone s)

/-- Statistics, snapshots, latching reads, and the rings of samples and events (R427, R433, R434, R439 to R442). The model's own readings
that its commands follow: log entries 3, 4, 5, 35, 54, 99 and 112. -/
def Obligations.CountersAndEventRings : Prop :=
  (∀ (s : State) (port : Nat), s.Opens 0x61 → port < 64 →
    Gives (.statClearPort port) s fun d => (∀ k, d.sw.stat.get 0 k = if k / 64 = port then 0 else s.dev.sw.stat.get 0 k) ∧
      d.sw = { s.dev.sw with stat := d.sw.stat } ∧ (s.dev.obs.snap = none → s.dev.keeps d [.sw]) ∧ s.dev.moves d [.sw] []) ∧
  (∀ s : State, s.Opens 0x61 →
    Gives .statClearAll s fun d => (∀ k, d.sw.stat.get 0 k = 0) ∧ d.sw = { s.dev.sw with stat := d.sw.stat } ∧
      (s.dev.obs.snap = none → s.dev.keeps d [.sw]) ∧ s.dev.moves d [.sw] []) ∧
  (∀ (s : State) (c : Instr) (acts : Nat), (c = .snap ∧ acts = 1) ∨ (c = .freeze ∧ acts = 2) ∨ (c = .thaw ∧ acts = 4) → s.Opens 0 →
    s.dev.on PERF.SNAP_STAT_BUSY = false →
    Gives c s fun d => d.obs = { s.dev.obs with snap := some (wholeUs (s.dev.islandNs 32), acts), snapped := [] } ∧
      d.on PERF.SNAP_STAT_BUSY = true ∧ s.dev.keeps d [.regs, .obs] ∧ s.dev.keepsBut d [PERF.SNAP_STAT.key 0 0]) ∧
  (∀ (s : State) (c : Instr), c = .snap ∨ c = .freeze ∨ c = .thaw → s.Opens 0 → s.dev.on PERF.SNAP_STAT_BUSY = true →
    Gives c s fun d => d.raised PERF.int_SNAP_REFUSED = true ∧ s.dev.reportsOnly d) ∧
  (∀ (s : State) (t acts : Nat), s.On → s.dev.obs.snap = some (t, acts) → (∀ i, i < 34 → t ≤ s.dev.islandNs i) →
    s.dev.obs.snapped = [] → s.dev.obs.perf.wf 0 = true → s.dev.obs.perfSnap.wf 0 = true → s.dev.sw.stat.wf 0 = true →
    s.dev.obs.statSnap.wf 0 = true →
    Gives .snapshotInstant s fun d => d.obs.snap = none ∧ d.on PERF.SNAP_STAT_BUSY = false ∧
      (bitOf acts 0 = true →
        (s.dev.obs.vague = [] → ∀ c, s.dev.perfIsland c < 34 → d.obs.perfSnap.get 0 c = s.dev.obs.perf.get 0 c) ∧
        (∀ k, k < 64 * 34 → d.obs.statSnap.get 0 k = s.dev.sw.stat.get 0 k) ∧ d.raised PERF.int_SNAP_DONE = true ∧
        d.on PERF.SNAP_STAT_VALID = true ∧ d.num2 PERF.SNAP_STAMP_LO PERF.SNAP_STAMP_HI = (stampOf t).toNat) ∧
      (bitOf acts 0 = false → d.obs.statSnap = s.dev.obs.statSnap ∧ d.obs.perfSnap = s.dev.obs.perfSnap) ∧
      (bitOf acts 1 = true → d.on PERF.SNAP_STAT_FROZEN = true) ∧
      (bitOf acts 1 = false → bitOf acts 2 = true → d.on PERF.SNAP_STAT_FROZEN = false) ∧ s.dev.moves d [] [0x60]) ∧
  (∀ (s : State) (t acts : Nat), s.On → s.dev.obs.snap = some (t, acts) → s.dev.obs.snapped = [] → bitOf acts 0 = true →
    (∃ i, i < 34 ∧ t ≤ s.dev.islandNs i) → (∃ i, i < 34 ∧ s.dev.islandNs i < t) → s.dev.obs.perf.wf 0 = true →
    s.dev.obs.perfSnap.wf 0 = true → s.dev.obs.vague = [] →
    Gives .snapshotInstant s fun d => d.obs.snap = some (t, acts) ∧ (∀ i, i ∈ d.obs.snapped ↔ i < 34 ∧ t ≤ s.dev.islandNs i) ∧
      (∀ c, s.dev.perfIsland c < 34 → d.obs.perfSnap.get 0 c =
        if t ≤ s.dev.islandNs (s.dev.perfIsland c) then s.dev.obs.perf.get 0 c else s.dev.obs.perfSnap.get 0 c) ∧
      s.dev.keeps d [.obs]) ∧
  (∀ (s : State) (t acts : Nat), s.On → s.dev.obs.snap = some (t, acts) → 34 ≤ s.dev.obs.snapped.length →
    Gives .snapshotInstant s fun d => d.obs.snap = none ∧ d.on PERF.SNAP_STAT_BUSY = false) ∧
  (∀ s : State, s.On → (∀ (t acts : Nat), s.dev.obs.snap = some (t, acts) → s.dev.obs.snapped.length < 34 ∧ ∀ i, i < 34 → i ∈ s.dev.obs.snapped ∨ s.dev.islandNs i < t) →
    Idle .snapshotInstant s) ∧
  (∀ (s : State) (path page off ch v : Nat) (r : Reg), s.Opens page → s.dev.latched page off ch = some (v, r) →
    s.dev.vagueAt page off ch = false →
    Gives (.latchingRead path page off ch) s fun d => d.out = .words path [BitVec.ofNat 32 v] :: s.dev.out ∧
      d.regP r path ch = BitVec.ofNat 32 (v / 2 ^ 32) ∧ s.dev.keeps d [.regs, .out] ∧ s.dev.keepsBut d [r.key path ch]) ∧
  (∀ (s : State) (path page off ch v : Nat) (r : Reg), s.Opens page → s.dev.latched page off ch = some (v, r) →
    s.dev.vagueAt page off ch = true →
    Gives (.latchingRead path page off ch) s fun d => (∃ n, n = (Config.perfOpen s.dev.obs.opens).toNat % 2 ^ 48 ∧
        d.obs.perf.get 0 ch = n ∧ s.dev.emits d (.words path [BitVec.ofNat 32 n]) ∧
        d.regP r path ch = BitVec.ofNat 32 (n / 2 ^ 32)) ∧ s.dev.moves d [] [0x60]) ∧
  (∀ (s : State) (path page off ch : Nat), s.Opens page → s.dev.latched page off ch = none →
    Idle (.latchingRead path page off ch) s) ∧
  (∀ (s : State) (bs : List Byte) (l : List (List Byte)) (size wr : Nat), s.On → s.dev.obs.staged = bs :: l →
    size = 2 ^ s.dev.fld PERF.SRING_SIZE_SIZE → wr = s.dev.num PERF.SRING_WR →
    Gives .sampleRecordWrite s fun d => d.obs.staged = l ∧
      ((wr + 2 ^ 32 - s.dev.num PERF.SRING_RD) % 2 ^ 32 < size → d.num PERF.SRING_WR = (wr + 1) % 2 ^ 32 ∧
        d.hostMem = s.dev.hostMem.putBytes 0 (s.dev.sringBase + wr % size * 32) bs) ∧
      (size ≤ (wr + 2 ^ 32 - s.dev.num PERF.SRING_RD) % 2 ^ 32 → d.raised PERF.int_SAMPLE_LOST = true ∧ d.hostMem = s.dev.hostMem ∧
        d.num PERF.SAMPLES_LOST = (s.dev.num PERF.SAMPLES_LOST + 1) % 2 ^ 32) ∧ s.dev.moves d [.hostMem] [0x60]) ∧
  (∀ s : State, s.On → s.dev.obs.staged = [] → Idle .sampleRecordWrite s) ∧
  (∀ (s : State) (q a wr : Nat) (e : Event) (l : List EvItem), s.On → q < 16 → s.dev.enabled 0x62 = true →
    s.dev.on EVLG.Q_SIZE_EN q = true → s.dev.queueRoom q = true → wr = s.dev.num EVLG.Q_WR q →
    a = s.dev.num2 EVLG.Q_BASE_LO EVLG.Q_BASE_HI q + 32 * (wr % 2 ^ s.dev.fld EVLG.Q_SIZE_SIZE q) →
    (s.dev.evQueue q).staged = .event e :: l →
    Gives (.eventRecordWrite q) s fun d => d.num EVLG.Q_WR q = (wr + 1) % 2 ^ 32 ∧ (d.evQueue q).staged = l ∧
      (d.evQueue q).since = (s.dev.evQueue q).since + 1 ∧
      d.hostMem = (s.dev.hostMem.putBytes 0 a e.encode).putBytes 0 (s.dev.num2 EVLG.Q_WB_LO EVLG.Q_WB_HI q)
        (leBytes 4 ((wr + 1) % 2 ^ 32)) ∧
      (s.dev.fld EVLG.Q_MOD_Q_THRESH q ≤ (s.dev.evQueue q).since + 1 → d.raised (queueBit q) = true) ∧
      s.dev.moves d [.hostMem] [0x62]) ∧
  (∀ (s : State) (q a wr n : Nat) (e : Event) (l : List EvItem), s.On → q < 16 → s.dev.enabled 0x62 = true →
    s.dev.on EVLG.Q_SIZE_EN q = true → s.dev.queueRoom q = true → wr = s.dev.num EVLG.Q_WR q →
    a = s.dev.num2 EVLG.Q_BASE_LO EVLG.Q_BASE_HI q + 32 * (wr % 2 ^ s.dev.fld EVLG.Q_SIZE_SIZE q) →
    (s.dev.evQueue q).staged = .loss n e :: l →
    Gives (.eventRecordWrite q) s fun d => d.num EVLG.Q_WR q = (wr + 1) % 2 ^ 32 ∧ (d.evQueue q).staged = l ∧
      d.hostMem = (s.dev.hostMem.putBytes 0 a ({ e with p1 := BitVec.ofNat 32 n } : Event).encode).putBytes 0
        (s.dev.num2 EVLG.Q_WB_LO EVLG.Q_WB_HI q) (leBytes 4 ((wr + 1) % 2 ^ 32)) ∧
      d.raised EVLG.int_LOSS = true ∧ s.dev.moves d [.hostMem] [0x62]) ∧
  (∀ (s : State) (q : Nat), s.On → q < 16 → s.dev.enabled 0x62 = false ∨ s.dev.on EVLG.Q_SIZE_EN q = false ∨
    s.dev.queueRoom q = false ∨ (s.dev.evQueue q).staged = [] → Idle (.eventRecordWrite q) s) ∧
  (∀ (s : State) (q : Nat), s.On → q < 16 → (s.dev.evQueue q).since ≠ 0 →
    (s.dev.evQueue q).first + s.dev.fld EVLG.Q_MOD_HOLDOFF q ≤ s.dev.upUs →
    Gives (.eventQueueHoldoff q) s fun d => d.raised (queueBit q) = true ∧ s.dev.reportsOnly d) ∧
  (∀ (s : State) (q : Nat), s.On → q < 16 → (s.dev.evQueue q).since = 0 ∨
    s.dev.upUs < (s.dev.evQueue q).first + s.dev.fld EVLG.Q_MOD_HOLDOFF q → Idle (.eventQueueHoldoff q) s)

/-- The PCIe link, the settings of the rings, and the resets of the host island (R446, R452, R456, R461). The model's own readings that its
commands follow: log entries 3, 4, 5, 7, 100, 101 and 113. -/
def Obligations.LinkAndRingSettings : Prop :=
  (∀ (s : State) (gen width : Nat) (up master : Bool), s.On →
    up = false ∨ (1 ≤ gen ∧ gen ≤ 4 ∧ (width = 1 ∨ width = 2 ∨ width = 4)) →
    Gives (.pcieLink gen width up master) s fun d =>
      d.num HOST.LINK_STAT % 1024 = (if up then gen + width * 16 else 0) + bit up * 256 + bit master * 512 ∧
      d.on HOST.LINK_STAT_PORT32_UP = (up && master && (List.range 32).any fun r => s.dev.on HOST.RING_CFG_EN r) ∧
      (s.dev.on HOST.LINK_STAT_LINK_UP = true → up = false → d.raised HOST.int_LINK_DOWN = true) ∧
      s.dev.moves d [.sw, .units] [0x11, 0x40, 0x41, 0x48, 0x50, 0x58, 0x68, 0x70]) ∧
  (∀ (s : State) (gen width : Nat) (master : Bool), s.On → gen = 0 ∨ 4 < gen ∨ (width ≠ 1 ∧ width ≠ 2 ∧ width ≠ 4) →
    Idle (.pcieLink gen width true master) s) ∧
  (∀ (s : State) (path r avail diff : Nat), s.Opens 0x68 → path < 2 → r < 64 →
    diff = (avail % 65536 + 65536 - s.dev.num HOST.RING_DONE r) % 65536 →
    Gives (.ringAvailWrite path r avail) s fun d =>
      (diff ≤ 2 ^ s.dev.fld HOST.RING_CFG_SIZE r → d.num HOST.RING_AVAIL r = avail % 65536 ∧
        s.dev.keepsBut d [HOST.RING_AVAIL.key 0 r]) ∧
      (2 ^ s.dev.fld HOST.RING_CFG_SIZE r < diff → d.num HOST.RING_AVAIL r = s.dev.num HOST.RING_AVAIL r ∧
        d.fld (ERR_INFO_CAUSE 0x68) ≠ 0) ∧ s.dev.keeps d [.regs]) ∧
  (∀ (s : State) (path r : Nat) (en : Bool), s.Opens 0x68 → path < 2 → r < 64 →
    Gives (.ringEnable path r en) s fun d => d.on HOST.RING_CFG_EN r = en ∧
      (s.dev.on HOST.RING_CFG_EN r = false → en = true → d.num HOST.RING_DONE r = s.dev.num HOST.RING_AVAIL r) ∧
      (s.dev.on HOST.RING_CFG_EN r = true ∨ en = false → d.num HOST.RING_DONE r = s.dev.num HOST.RING_DONE r) ∧
      d.on HOST.LINK_STAT_PORT32_UP = (s.dev.pcieReady && (List.range 32).any fun r => d.on HOST.RING_CFG_EN r) ∧
      s.dev.moves d [.sw, .units] [0x11, 0x40, 0x41, 0x48, 0x50, 0x58, 0x68, 0x70]) ∧
  (∀ (s : State) (r : Nat), s.Opens 0x68 → r < 64 →
    Gives (.ringRestart r) s fun d => d.on HOST.RING_STAT_HALTED r = false ∧ s.dev.keeps d [.regs] ∧
      s.dev.keepsBut d [HOST.RING_STAT.key 0 r]) ∧
  (∀ (s : State) (r : Nat), s.On → r < 64 → s.dev.host.since.get 0 r ≠ 0 →
    s.dev.host.first.get 0 r + s.dev.fld HOST.RING_MOD_HOLDOFF r ≤ s.dev.upUs →
    Gives (.ringIrqHoldoff r) s fun d => bitOf d.ringIrqs r = true ∧ s.dev.keeps d [.regs, .out] ∧ s.dev.keepsPages d [0x68]) ∧
  (∀ (s : State) (r : Nat), s.On → r < 64 → s.dev.host.since.get 0 r = 0 ∨
    s.dev.upUs < s.dev.host.first.get 0 r + s.dev.fld HOST.RING_MOD_HOLDOFF r → Idle (.ringIrqHoldoff r) s) ∧
  (∀ (s : State) (c : Instr), c = .flr ∨ c = .perstN → s.On →
    Gives c s fun d => (∀ (k : Nat) (w : Word), hostResetKey k = true → d.regs.get w k = w) ∧
      d.on HOST.LINK_STAT_PORT32_UP = false ∧ d.on HOST.LINK_STAT_LINK_UP = s.dev.on HOST.LINK_STAT_LINK_UP ∧
      d.host.since = [] ∧ d.host.turn = 0 ∧ d.flash = s.dev.flash ∧ d.hostMem = s.dev.hostMem ∧
      (c = .flr → d.raised HOST.int_FLR = true) ∧
      s.dev.moves d [.sw, .units, .host] [0x11, 0x40, 0x41, 0x48, 0x50, 0x58, 0x68, 0x70])

/-- Punt delivery and injection (R347, R452 to R455). The model's own readings that its commands follow: log entries 3, 4, 5, 101 and 102.
-/
def Obligations.PuntAndInject : Prop :=
  (∀ (s : State) (t : Tx) (f : Frame) (r : Nat), s.On → s.dev.portUp 32 = true → s.dev.nextPunt = some (t, f, r) →
    Gives (.puntDelivery none false) s fun d => d.num HOST.RING_DONE r = (s.dev.num HOST.RING_DONE r + 1) % 65536 ∧
      d.num HOST.RING_FRAMES r = (s.dev.num HOST.RING_FRAMES r + 1) % 2 ^ 32 ∧
      d.host.since.get 0 r = s.dev.host.since.get 0 r + 1) ∧
  (∀ (s : State) (t : Tx) (f : Frame) (r : Nat), s.On → s.dev.portUp 32 = true → s.dev.nextPunt = some (t, f, r) →
    Gives (.puntDelivery none true) s fun d => d.on HOST.RING_STAT_HALTED r = true ∧ d.raised HOST.int_RING_HALT = true ∧
      d.num HOST.PCIE_ERR = (s.dev.num HOST.PCIE_ERR + 1) % 2 ^ 32 ∧ d.num HOST.RING_DONE r = s.dev.num HOST.RING_DONE r ∧
      s.dev.moves d [] [0x68]) ∧
  (∀ (s : State) (t : Tx) (f : Frame) (r : Nat) (err : Bool), s.On → s.dev.portUp 32 = true → s.dev.nextPunt = some (t, f, r) →
    Gives (.puntDelivery (some .late) err) s fun d => d.num SWCR.READ_ERR 32 = (s.dev.num SWCR.READ_ERR 32 + 1) % 2 ^ 32 ∧
      d.raised SWCR.int_READ_ERR = true ∧ d.num HOST.RING_DONE r = s.dev.num HOST.RING_DONE r ∧ d.hostMem = s.dev.hostMem) ∧
  (∀ (s : State) (failed : Option ReadFail) (err : Bool), s.On → s.dev.portUp 32 = false ∨ s.dev.nextPunt = none →
    Idle (.puntDelivery failed err) s) ∧
  (∀ (s : State) (r : Nat) (pick : List Nat), s.On → s.dev.nextInject = some r → s.dev.inEpisode 32 0 = false →
    s.dev.spore.stopped = false →
    Gives (.inject true pick) s fun d => d.on HOST.RING_STAT_HALTED r = true ∧ d.raised HOST.int_RING_HALT = true ∧
      d.num HOST.RING_DONE r = s.dev.num HOST.RING_DONE r ∧ d.hostMem = s.dev.hostMem.set 0 (s.dev.ringDesc r + 24) 3 ∧
      s.dev.moves d [.hostMem, .host] [0x68]) ∧
  (∀ (s : State) (r n : Nat) (pick : List Nat), s.On → s.dev.nextInject = some r → s.dev.inEpisode 32 0 = false →
    s.dev.spore.stopped = false → n = s.dev.injectStatus (s.dev.readInject (s.dev.ringDesc r)) → n ≠ 0 →
    Gives (.inject false pick) s fun d => d.num HOST.RING_DONE r = (s.dev.num HOST.RING_DONE r + 1) % 65536 ∧
      d.num HOST.RING_ERR r = (s.dev.num HOST.RING_ERR r + 1) % 2 ^ 32 ∧
      d.hostMem = (s.dev.hostMem.set 0 (s.dev.ringDesc r + 24) (BitVec.ofNat 8 n)).putBytes 0
        (s.dev.num2 HOST.RING_WB_LO HOST.RING_WB_HI r) (leBytes 4 ((s.dev.num HOST.RING_DONE r + 1) % 65536)) ∧
      d.sw = s.dev.sw ∧ s.dev.moves d [.hostMem, .host] [0x68]) ∧
  (∀ (s : State) (r : Nat) (pick : List Nat) (x : InjectDesc) (e : Dev), s.On → s.dev.nextInject = some r →
    s.dev.inEpisode 32 0 = false → s.dev.spore.stopped = false → x = s.dev.readInject (s.dev.ringDesc r) →
    s.dev.injectStatus x = 0 → s.dev.injectFrame x pick = some e →
    Gives (.inject false pick) s fun d => d.num HOST.RING_DONE r = (e.num HOST.RING_DONE r + 1) % 65536 ∧
      d.num HOST.RING_FRAMES r = (e.num HOST.RING_FRAMES r + 1) % 2 ^ 32 ∧ d.sw = e.sw ∧
      d.hostMem = (e.hostMem.set 0 (s.dev.ringDesc r + 24) 0).putBytes 0
        (e.num2 HOST.RING_WB_LO HOST.RING_WB_HI r) (leBytes 4 ((e.num HOST.RING_DONE r + 1) % 65536))) ∧
  (∀ (s : State) (r : Nat) (pick : List Nat) (x : InjectDesc), s.On → s.dev.nextInject = some r →
    x = s.dev.readInject (s.dev.ringDesc r) → s.dev.injectStatus x = 0 → s.dev.injectFrame x pick = none →
    Idle (.inject false pick) s) ∧
  (∀ (s : State) (err : Bool) (pick : List Nat), s.On → s.dev.nextInject = none ∨ s.dev.inEpisode 32 0 = true ∨
    s.dev.spore.stopped = true → Idle (.inject err pick) s)

/-- BAR2 (R184, R447 to R450): what reads of its windows give, what writes store, and what is refused. The model's own readings that its
commands follow: log entries 3, 4, 5, 41, 73, 80, 103 and 104. -/
def Obligations.TableWindows : Prop :=
  (∀ (s : State) (off : Nat) (ue : Option BadWord), s.On → s.dev.bar2Open = true → off < 2 ^ 28 → winAt off = none →
    Gives (.bar2Read off ue) s fun d => d.out = .bytes (List.replicate 16 0) :: s.dev.out ∧ s.dev.keeps d [.out]) ∧
  (∀ (s : State) (off i : Nat) (ue : Option BadWord) (w : WinAt), s.On → s.dev.bar2Open = true → off < 2 ^ 28 →
    winAt off = some w → i = (off - w.base) / w.entry →
    w.win = .hosts ∨ w.win = .doms ∨ w.win = .hops ∨ w.win = .units ∨ w.win = .rules ∨ w.win = .edits ∨ w.win = .samples →
    Gives (.bar2Read off ue) s fun d => s.dev.keeps d [.out] ∧
      (w.win = .hosts → d.out = .bytes (guardBytes 1 (s.dev.hostAt (s.dev.winPipe * 262144 + i))) :: s.dev.out) ∧
      (w.win = .doms → d.out = .bytes (guardBytes 1 (s.dev.domAt s.dev.winPipe i)) :: s.dev.out) ∧
      (w.win = .hops → d.out = .bytes (guardBytes 1 (s.dev.hopAt s.dev.winPipe i)) :: s.dev.out) ∧
      (w.win = .rules → d.out = .bytes (leBytes 128 (s.dev.ruleMem (s.dev.fld CLSF.WR_MASK_RD_PIPE) i)) :: s.dev.out)) ∧
  (∀ (s : State) (index k : Nat), s.On → s.dev.bar2Open = true → index < 262144 → k = s.dev.winPipe * 262144 + index →
    Gives (.hostTableReadLock index) s fun d => d.out = .bytes (guardBytes 1 (s.dev.hostAt k)) :: s.dev.out ∧
      d.look = { s.dev.look with hosts := s.dev.look.hosts.set 0 k (setBits (s.dev.hostAt k) 80 1 1) } ∧
      s.dev.keeps d [.out, .look]) ∧
  (∀ (s : State) (off t : Nat) (ue : Option BadWord), s.On → s.dev.bar2Open = true → off < 0x08000000 →
    t = s.dev.num HOST.APER_SLOT + off / 64 → t < 2 * s.dev.altMask →
    (s.dev.flow.opened.get none t).isSome = true ∨ ue = none →
    Gives (.slotWindowRead off ue) s fun d => d.out.head? = some (.bytes (guardBytes 4 (s.dev.slotAt false t))) ∧
      d.flow = s.dev.flow ∧ ((s.dev.flow.opened.get none t).isSome = true → s.dev.keeps d [.out])) ∧
  (∀ (s : State) (off : Nat), s.On → s.dev.bar2Open = true → off < 0x04000000 → s.dev.otp.sealed = true →
    Gives (.rawWindowRead off) s fun d => d.num HOST.BAR2_LAST = 0x0C000000 + off + 5 * 2 ^ 28 + 2 ^ 31 ∧
      d.num HOST.BAR2_REFUSED = (s.dev.num HOST.BAR2_REFUSED + 1) % 2 ^ 32 ∧ d.raised HOST.int_BAR2_REFUSED = true ∧
      s.dev.moves d [] [0x68]) ∧
  (∀ (s : State) (off m a : Nat), s.On → s.dev.bar2Open = true → off < 0x04000000 → s.dev.otp.sealed = false →
    m = s.dev.fld HOST.RAW_CFG_CHANNEL → a = s.dev.fld HOST.RAW_CFG_SEG * 0x4000000 + off / 16 * 16 →
    Gives (.rawWindowRead off) s fun d => s.dev.moves d [.draws, .frees, .mem] [0x50] ∧ ∃ bs : List Byte, bs.length = 16 ∧
      s.dev.emits d (.bytes bs) ∧ bs.take (s.dev.rawKnown m a).length = s.dev.rawKnown m a ∧
      ∀ t, m < 48 → s.dev.slotHere m a = some t →
        bs.take 14 = leBytes 14 (bitsOf (s.dev.memSlot s.dev.flow.region t) (112 * (a % 64 / 16)) 112)) ∧
  (∀ (s : State) (off i : Nat) (bs : List Byte) (w : WinAt), s.On → s.dev.bar2Open = true → off < 2 ^ 28 → winAt off = some w →
    (off - w.base) % w.entry = 0 → bs.length = w.entry → w.win = .doms → i = (off - w.base) / w.entry →
    Gives (.bar2Write off bs) s fun d => s.dev.keeps d [.look] ∧ d.look = { s.dev.look with doms := d.look.doms } ∧
      ∀ p, p < 4 → ∀ j, j < 4096 →
        d.domAt p j = if bitOf s.dev.winMask p = true ∧ j = i then guardVal bs % 2 ^ 48 else s.dev.domAt p j) ∧
  (∀ (s : State) (off i e : Nat) (bs : List Byte) (w : WinAt), s.On → s.dev.bar2Open = true → off < 2 ^ 28 →
    winAt off = some w → (off - w.base) % w.entry = 0 → bs.length = w.entry → w.win = .hosts → i = (off - w.base) / w.entry →
    hostSettle (s.dev.hostAt (lowPipe s.dev.winMask * 262144 + i)) (guardVal bs) = (e, false) →
    Gives (.bar2Write off bs) s fun d =>
      (s.dev.wellPlaced (lowPipe s.dev.winMask) i e = true → s.dev.keeps d [.look, .frees] ∧
        ∀ p, p < 4 → d.hostAt (p * 262144 + i) = if bitOf s.dev.winMask p then e else s.dev.hostAt (p * 262144 + i)) ∧
      (s.dev.wellPlaced (lowPipe s.dev.winMask) i e = false → d.look = s.dev.look ∧
        d.num HOST.BAR2_LAST = off + 6 * 2 ^ 28 + 2 ^ 31 ∧ d.raised HOST.int_BAR2_REFUSED = true)) ∧
  (∀ (s : State) (off cause : Nat) (bs : List Byte), s.On → s.dev.bar2Open = true → off < 2 ^ 28 →
    (winAt off = none ∧ cause = 1) ∨
    (∃ w, winAt off = some w ∧ w.win ≠ .slots ∧ w.win ≠ .raw ∧ (off - w.base) % w.entry ≠ 0 ∧ cause = 2) ∨
    (∃ w, winAt off = some w ∧ (w.win = .lock ∨ w.win = .units ∨ w.win = .samples) ∧ (off - w.base) % w.entry = 0 ∧
      bs.length = w.entry ∧ cause = 3) ∨
    (∃ w, winAt off = some w ∧ w.win = .slots ∧ (off - w.base) % w.entry = 0 ∧ bs.length = w.entry ∧ cause = 4) ∨
    (∃ w, winAt off = some w ∧ w.win = .raw ∧ s.dev.otp.sealed = true ∧ (off - w.base) % w.entry = 0 ∧ bs.length = w.entry ∧
      cause = 5) →
    Gives (.bar2Write off bs) s fun d => d.num HOST.BAR2_LAST = off + cause * 2 ^ 28 + 2 ^ 31 ∧
      d.num HOST.BAR2_REFUSED = (s.dev.num HOST.BAR2_REFUSED + 1) % 2 ^ 32 ∧ d.raised HOST.int_BAR2_REFUSED = true ∧
      s.dev.moves d [] [0x68]) ∧
  (∀ (s : State) (c : Instr) (off : Nat) (ue : Option BadWord) (bs : List Byte), c = .bar2Read off ue ∨ c = .bar2Write off bs ∨
      c = .hostTableReadLock off ∨ c = .slotWindowRead off ue ∨ c = .rawWindowRead off → s.On → s.dev.bar2Open = false → Idle c s)

/-- Table DMA (R87, R451). The model's own readings that its commands follow: log entries 3, 4, 105 and 115. -/
def Obligations.TableDma : Prop :=
  (∀ (s : State) (dir : Bool), s.Opens 0x68 → s.dev.opState HOST.TDMA_STAT ≠ 1 →
    Gives (.tdmaGo dir) s fun d => d.num HOST.TDMA_STAT = 1 ∧ d.host = { s.dev.host with tdmaDir := dir } ∧
      s.dev.keeps d [.regs, .host] ∧ s.dev.keepsBut d [HOST.TDMA_STAT.key 0 0]) ∧
  (∀ (s : State) (dir : Bool), s.Opens 0x68 → s.dev.opState HOST.TDMA_STAT = 1 → Idle (.tdmaGo dir) s) ∧
  (∀ s : State, s.Opens 0x68 → s.dev.opState HOST.TDMA_STAT = 1 →
    Gives (.tdmaAbort 0) s fun d => d.num HOST.TDMA_STAT = statusWord 3 0 0 ∧ s.dev.moves d [] [0x68]) ∧
  (∀ (s : State) (moved n : Nat) (e : Dev), s.Opens 0x68 → s.dev.opState HOST.TDMA_STAT = 1 →
    Dev.tdmaMove (min moved (s.dev.tdmaCount - 1)) s.dev 0 = (e, n, true) → e.opState HOST.TDMA_STAT = 1 →
    Gives (.tdmaAbort moved) s fun d => d.num HOST.TDMA_STAT = statusWord 3 0 n ∧ d.hostMem = e.hostMem ∧ d.look = e.look) ∧
  (∀ (s : State) (moved : Nat), s.Opens 0x68 → s.dev.opState HOST.TDMA_STAT = 2 →
    Gives (.tdmaAbort moved) s fun d => d.num HOST.TDMA_STAT = setBits (s.dev.num HOST.TDMA_STAT) 3 1 1 ∧
      s.dev.keeps d [.regs] ∧ s.dev.keepsBut d [HOST.TDMA_STAT.key 0 0]) ∧
  (∀ (s : State) (moved n : Nat) (e : Dev) (ok : Bool), s.On → s.dev.opState HOST.TDMA_STAT = 1 →
    Dev.tdmaMove s.dev.tdmaCount s.dev 0 = (e, n, ok) →
    Gives (.tdmaDone false moved) s fun d => d.num HOST.TDMA_STAT = statusWord (if ok then 2 else 4) 0 n ∧
      (ok = true → d.raised HOST.int_TDMA_DONE = true) ∧ (ok = false → d.raised HOST.int_TDMA_FAIL = true) ∧
      d.hostMem = e.hostMem ∧ d.look = e.look ∧ d.flow = e.flow) ∧
  (∀ s : State, s.On → s.dev.opState HOST.TDMA_STAT = 1 →
    Gives (.tdmaDone true 0) s fun d => d.num HOST.TDMA_STAT = statusWord 4 0 0 ∧ d.raised HOST.int_TDMA_FAIL = true ∧
      d.num HOST.PCIE_ERR = (s.dev.num HOST.PCIE_ERR + 1) % 2 ^ 32 ∧ s.dev.moves d [] [0x68]) ∧
  (∀ (s : State) (err : Bool) (moved : Nat), s.On → s.dev.opState HOST.TDMA_STAT ≠ 1 → Idle (.tdmaDone err moved) s)

/-- The management port (R457): its link, what reception writes to the receive ring or counts as discarded, and what transmission sends of
a descriptor. The model's own readings that its commands follow: log entries 3, 4 and 106. -/
def Obligations.ManagementPort : Prop :=
  (∀ (s : State) (up an sig remote : Bool), s.On →
    Gives (.mgmtLink up an sig remote) s fun d => d.on MGMT.MGMT_STAT_LINK_UP = up ∧
      d.num MGMT.MGMT_STAT = bit up + bit an * 2 + bit sig * 4 + bit remote * 8 ∧
      (s.dev.on MGMT.MGMT_STAT_LINK_UP ≠ up → d.raised MGMT.int_LINK = true) ∧ s.dev.moves d [] [0x69]) ∧
  (∀ (s : State) (bs : List Byte) (dev : Int), s.On → s.dev.mgmtOn = false → Idle (.mgmtReceive bs dev) s) ∧
  (∀ (s : State) (bs : List Byte) (dev : Int), s.On → s.dev.mgmtOn = true → bs.length < 64 ∨ 1522 < bs.length ∨ fcsGood bs = false →
    Gives (.mgmtReceive bs dev) s fun d => d.num MGMT.RX_DISC = (s.dev.num MGMT.RX_DISC + 1) % 2 ^ 32 ∧
      d.raised MGMT.int_RX_DISC = true ∧ s.dev.moves d [] [0x69]) ∧
  (∀ (s : State) (bs : List Byte) (dev : Int), s.On → s.dev.mgmtOn = true → 64 ≤ bs.length → bs.length ≤ 1522 → fcsGood bs = true →
    s.dev.mgmtTakes bs = true → s.dev.on MGMT.RX_CFG_EN = true → s.dev.num MGMT.RX_AVAIL ≠ s.dev.num MGMT.RX_DONE →
    Gives (.mgmtReceive bs dev) s fun d => d.num MGMT.RX_DONE = (s.dev.num MGMT.RX_DONE + 1) % 65536 ∧
      d.raised MGMT.int_RX = true ∧ d.num MGMT.RX_DISC = s.dev.num MGMT.RX_DISC ∧ s.dev.moves d [.hostMem] [0x69]) ∧
  (∀ s : State, s.On → s.dev.mgmtOn = false ∨ s.dev.on MGMT.TX_CFG_EN = false ∨ s.dev.num MGMT.TX_AVAIL = s.dev.num MGMT.TX_DONE →
    Idle .mgmtTransmit s) ∧
  (∀ (s : State) (a len : Nat), s.On → s.dev.mgmtOn = true → s.dev.on MGMT.TX_CFG_EN = true →
    s.dev.num MGMT.TX_AVAIL ≠ s.dev.num MGMT.TX_DONE →
    a = s.dev.num2 MGMT.TX_BASE_LO MGMT.TX_BASE_HI + 32 * (s.dev.num MGMT.TX_DONE % 2 ^ s.dev.fld MGMT.TX_CFG_SIZE) →
    len = leNat (s.dev.dmaRead (a + 8) 2) → 14 ≤ len → len ≤ 1518 →
    Gives .mgmtTransmit s fun d => d.num MGMT.TX_DONE = (s.dev.num MGMT.TX_DONE + 1) % 65536 ∧ d.raised MGMT.int_TX = true ∧
      d.hostMem = s.dev.hostMem.set 0 (a + 24) 0 ∧
      Output.frame 34 (withFcs (s.dev.dmaRead (leNat (s.dev.dmaRead a 8)) len ++ List.replicate (60 - len) 0)) false ∈ d.out ∧
      s.dev.moves d [.hostMem] [0x69]) ∧
  (∀ (s : State) (a len : Nat), s.On → s.dev.mgmtOn = true → s.dev.on MGMT.TX_CFG_EN = true →
    s.dev.num MGMT.TX_AVAIL ≠ s.dev.num MGMT.TX_DONE →
    a = s.dev.num2 MGMT.TX_BASE_LO MGMT.TX_BASE_HI + 32 * (s.dev.num MGMT.TX_DONE % 2 ^ s.dev.fld MGMT.TX_CFG_SIZE) →
    len = leNat (s.dev.dmaRead (a + 8) 2) → len < 14 ∨ 1518 < len →
    Gives .mgmtTransmit s fun d => d.num MGMT.TX_DONE = (s.dev.num MGMT.TX_DONE + 1) % 65536 ∧ d.raised MGMT.int_TX = true ∧
      d.hostMem = s.dev.hostMem.set 0 (a + 24) 1 ∧ s.dev.moves d [.hostMem] [0x69])

/-- Boot flash commands (R458): what starts one, what ends it at once, and what its completion leaves. The model's own readings that its
commands follow: log entries 3, 4, 107 and 108. -/
def Obligations.FlashCommands : Prop :=
  (∀ s : State, s.Opens 0x69 → s.dev.fld MGMT.QSPI_STAT_STATE ≠ 1 → s.dev.boot.flash = true → s.dev.sup.recording = none →
    Gives .qspiRead s fun d => d.host = { s.dev.host with qspi := some (0, s.dev.num MGMT.QSPI_ADDR, s.dev.num MGMT.QSPI_LEN) } ∧
      d.num MGMT.QSPI_STAT = 1 ∧ s.dev.moves d [.host] [0x69]) ∧
  (∀ s : State, s.Opens 0x69 → s.dev.fld MGMT.QSPI_STAT_STATE ≠ 1 → s.dev.boot.flash = true → s.dev.sup.recording = none →
    s.dev.inPfail (s.dev.num MGMT.QSPI_ADDR) (s.dev.num MGMT.QSPI_LEN) = false →
    Gives .qspiProgram s fun d => d.host = { s.dev.host with qspi := some (1, s.dev.num MGMT.QSPI_ADDR, s.dev.num MGMT.QSPI_LEN) } ∧
      d.num MGMT.QSPI_STAT = 1 ∧ s.dev.moves d [.host] [0x69]) ∧
  (∀ s : State, s.Opens 0x69 → s.dev.fld MGMT.QSPI_STAT_STATE ≠ 1 → s.dev.boot.flash = true → s.dev.sup.recording = none →
    s.dev.inPfail (s.dev.num MGMT.QSPI_ADDR / 4096 * 4096) 4096 = false →
    Gives .qspiErase s fun d => d.host = { s.dev.host with qspi := some (2, s.dev.num MGMT.QSPI_ADDR, s.dev.num MGMT.QSPI_LEN) } ∧
      d.num MGMT.QSPI_STAT = 1 ∧ s.dev.moves d [.host] [0x69]) ∧
  (∀ s : State, s.Opens 0x69 → s.dev.fld MGMT.QSPI_STAT_STATE ≠ 1 → s.dev.boot.flash = true → s.dev.sup.recording = none →
    Gives .readId s fun d => d.host = { s.dev.host with qspi := some (3, s.dev.num MGMT.QSPI_ADDR, s.dev.num MGMT.QSPI_LEN) } ∧
      d.num MGMT.QSPI_STAT = 1 ∧ s.dev.moves d [.host] [0x69]) ∧
  (∀ (s : State) (c : Instr), c = .qspiRead ∨ c = .qspiProgram ∨ c = .qspiErase ∨ c = .readId → s.Opens 0x69 →
    s.dev.fld MGMT.QSPI_STAT_STATE = 1 → Idle c s) ∧
  (∀ (s : State) (c : Instr), c = .qspiRead ∨ c = .qspiProgram ∨ c = .qspiErase ∨ c = .readId → s.Opens 0x69 →
    s.dev.fld MGMT.QSPI_STAT_STATE ≠ 1 → s.dev.boot.flash = false →
    Gives c s fun d => d.num MGMT.QSPI_STAT = 4 ∧ d.raised MGMT.int_QSPI_DONE = true ∧ d.flash = s.dev.flash) ∧
  (∀ s : State, s.Opens 0x69 → s.dev.fld MGMT.QSPI_STAT_STATE ≠ 1 → s.dev.boot.flash = true →
    s.dev.inPfail (s.dev.num MGMT.QSPI_ADDR) (s.dev.num MGMT.QSPI_LEN) = true →
    Gives .qspiProgram s fun d => d.num MGMT.QSPI_STAT = 5 ∧ d.raised MGMT.int_QSPI_DONE = true ∧ d.flash = s.dev.flash) ∧
  (∀ (s : State) (id a n : Nat), s.On → s.dev.fld MGMT.QSPI_STAT_STATE = 1 → s.dev.host.qspi = some (1, a, n) → a % 256 + n ≤ 256 →
    Gives (.qspiDone id) s fun d => d.num MGMT.QSPI_STAT = 2 ∧ d.host = { s.dev.host with qspi := none } ∧
      d.flash = s.dev.flash.putBytes 0xFF a (((s.dev.flashRead a n).zip s.dev.qspiBuf).map fun p => p.1 &&& p.2) ∧
      d.raised MGMT.int_QSPI_DONE = true ∧ s.dev.moves d [.flash, .host] [0x69]) ∧
  (∀ (s : State) (id a n : Nat), s.On → s.dev.fld MGMT.QSPI_STAT_STATE = 1 → s.dev.host.qspi = some (2, a, n) →
    Gives (.qspiDone id) s fun d => d.num MGMT.QSPI_STAT = 2 ∧
      d.flash = s.dev.flash.putBytes 0xFF (a / 4096 * 4096) (List.replicate 4096 0xFF) ∧ s.dev.moves d [.flash, .host] [0x69]) ∧
  (∀ (s : State) (id a n : Nat), s.On → s.dev.fld MGMT.QSPI_STAT_STATE = 1 → s.dev.host.qspi = some (0, a, n) → n ≤ 256 →
    Gives (.qspiDone id) s fun d => d.num MGMT.QSPI_STAT = 2 ∧ d.flash = s.dev.flash ∧ d.qspiBuf.take n = s.dev.flashRead a n ∧
      s.dev.moves d [.host] [0x69]) ∧
  (∀ (s : State) (id : Nat), s.On → s.dev.host.qspi = none ∨ s.dev.fld MGMT.QSPI_STAT_STATE ≠ 1 → Idle (.qspiDone id) s)

/-- The housekeeping mailbox (R460): the firmware answers the request that is first in line, with its command and tag, a status and the
answer's words, of which the firmware's version is an open value. The model's own readings that its commands follow: log entries 3, 4, 8, 9
and 109. -/
def Obligations.MailboxCommands : Prop :=
  (∀ (s : State) (p : Nat), s.On → s.dev.host.bells = [p] → s.dev.mboxIn p 0 % 256 = 1 →
    Gives .version s fun d => d.host.bells = [] ∧ d.regP HOST.MBOX_STAT p 0 = 2 ∧ d.frees = s.dev.frees + 1 ∧
      d.regP (HOST.MBOX_OUT.ix 0) p 0 = BitVec.ofNat 32 (1 + 3 * 256 + bitsOf (s.dev.mboxIn p 0) 16 8 * 65536) ∧
      d.regP (HOST.MBOX_OUT.ix 2) p 0 = s.dev.reg CFGL.IMG_VER ∧ d.regP (HOST.MBOX_OUT.ix 3) p 0 = s.dev.reg FENG.UCODE_VER ∧
      d.raised HOST.int_MBOX_DONE = true ∧ s.dev.moves d [.frees, .host] [0x68]) ∧
  (∀ (s : State) (p : Nat) (temps : List Nat), s.On → s.dev.host.bells = [p] → s.dev.mboxIn p 0 % 256 = 2 →
    Gives (.sensors temps) s fun d => d.host.bells = [] ∧ d.regP HOST.MBOX_STAT p 0 = 2 ∧
      d.regP (HOST.MBOX_OUT.ix 0) p 0 = BitVec.ofNat 32 (2 + 35 * 256 + bitsOf (s.dev.mboxIn p 0) 16 8 * 65536) ∧
      d.regP (HOST.MBOX_OUT.ix 1) p 0 = s.dev.reg PWRM.VIN_NOW ∧
      (∀ i, i < 34 → d.regP (HOST.MBOX_OUT.ix (i + 2)) p 0 = BitVec.ofNat 32 (temps.getD i 0 % 2 ^ 16)) ∧
      d.raised HOST.int_MBOX_DONE = true ∧ s.dev.moves d [.host] [0x68]) ∧
  (∀ (s : State) (p : Nat), s.On → s.dev.host.bells = [p] → s.dev.mboxIn p 0 % 256 = 3 →
    s.dev.boot.flash = false ∨ bitsOf (s.dev.mboxIn p 0) 8 8 = 0 →
    Gives .pfailRead s fun d => d.host.bells = [] ∧
      d.regP (HOST.MBOX_OUT.ix 0) p 0 = BitVec.ofNat 32 (3 + bitsOf (s.dev.mboxIn p 0) 16 8 * 65536 + 3 * 2 ^ 24) ∧
      d.raised HOST.int_MBOX_DONE = true ∧ s.dev.moves d [.host] [0x68]) ∧
  (∀ (s : State) (p k : Nat), s.On → s.dev.host.bells = [p] → s.dev.mboxIn p 0 % 256 = 3 → s.dev.boot.flash = true →
    bitsOf (s.dev.mboxIn p 0) 8 8 ≠ 0 →
    (List.range 256).find? (fun k => recordValid (s.dev.pfailRecord k) && recordSeq (s.dev.pfailRecord k) = s.dev.mboxIn p 1) = some k →
    Gives .pfailRead s fun d => d.host.bells = [] ∧
      d.regP (HOST.MBOX_OUT.ix 0) p 0 = BitVec.ofNat 32 (3 + 8 * 256 + bitsOf (s.dev.mboxIn p 0) 16 8 * 65536) ∧
      (∀ i, i < 8 → d.regP (HOST.MBOX_OUT.ix (i + 1)) p 0 =
        BitVec.ofNat 32 (leNat (((s.dev.pfailRecord k).drop (4 * i)).take 4))) ∧ s.dev.moves d [.host] [0x68]) ∧
  (∀ (s : State) (p : Nat), s.On → s.dev.host.bells = [p] → s.dev.mboxIn p 0 % 256 = 4 →
    Gives .trainReport s fun d => d.host.bells = [] ∧
      d.regP (HOST.MBOX_OUT.ix 0) p 0 = BitVec.ofNat 32 (4 + 16 * 256 + bitsOf (s.dev.mboxIn p 0) 16 8 * 65536) ∧
      (∀ i, i < 64 → bitsOf (d.regP (HOST.MBOX_OUT.ix (1 + i / 4)) p 0).toNat (8 * (i % 4)) 8 =
        ((s.dev.trainEntry i).headD 0).toNat) ∧ s.dev.moves d [.host] [0x68]) ∧
  (∀ (s : State) (c : Instr) (temps : List Nat), c = .sensors temps ∨ c = .pfailRead ∨ c = .trainReport → s.On → s.dev.host.bells = [] →
    Idle c s)

/-- The fuses (R470, R471): what may be programmed, what a programming leaves, and how SEAL is blown. The model's own readings that its
commands follow: log entries 3, 4, 5 and 110. -/
def Obligations.FusesAndSealing : Prop :=
  (∀ (s : State) (path : Nat), s.Opens 0x03 → s.dev.fld FUSE.PROG_STAT_STATE ≠ 1 →
    Gives (.keyGo path) s fun d =>
      (s.dev.keyRefused (s.dev.progData path) = true → d.on FUSE.PROG_STAT_REFUSED = true ∧ s.dev.keeps d [.regs] ∧
        d.fld FUSE.PROG_STAT_STATE = s.dev.fld FUSE.PROG_STAT_STATE) ∧
      (s.dev.keyRefused (s.dev.progData path) = false → d.num FUSE.PROG_STAT = 1 ∧
        d.host = { s.dev.host with prog := some (s.dev.progData path) } ∧ s.dev.keeps d [.regs, .host]) ∧
      s.dev.keepsBut d [FUSE.PROG_STAT.key 0 0]) ∧
  (∀ (s : State) (path : Nat), s.Opens 0x03 → s.dev.fld FUSE.PROG_STAT_STATE = 1 → Idle (.keyGo path) s) ∧
  (∀ (s : State) (fails v left : BitVec 384), s.On → s.dev.host.prog = some v → left = v &&& ~~~s.dev.otp.hash &&& fails →
    Gives (.fuseProgDone fails) s fun d =>
      d.otp = { s.dev.otp with hash := s.dev.otp.hash ||| (v &&& ~~~left), keyLock := s.dev.otp.keyLock || left == 0 } ∧
      d.host = { s.dev.host with prog := none } ∧
      d.num FUSE.PROG_STAT = (if left = 0 then 2 else 3) + onesIn 384 left.toNat * 256 ∧
      (left = 0 → d.raised FUSE.int_PROG_DONE = true) ∧ (left ≠ 0 → d.raised FUSE.int_PROG_FAIL = true) ∧
      s.dev.moves d [.otp, .host] [0x03]) ∧
  (∀ (s : State) (fails : BitVec 384), s.On → s.dev.host.prog = none → Idle (.fuseProgDone fails) s) ∧
  (∀ (s : State) (path : Nat), s.Opens 0x03 → path < 2 →
    Gives (.sealArm path 0x00005EA1) s fun d =>
      d.host = { s.dev.host with armed := s.dev.host.armed.set 0 path (s.dev.clk.up + 1) } ∧ s.dev.keeps d [.host]) ∧
  (∀ (s : State) (path : Nat) (v : Word), s.Opens 0x03 → v ≠ 0x00005EA1 → Idle (.sealArm path v) s) ∧
  (∀ (s : State) (path t : Nat), s.Opens 0x03 → path < 2 → t = s.dev.host.armed.get 0 path → t ≠ 0 →
    s.dev.clk.up + 1 ≤ t + 10000000 → s.dev.on TOP.BOOT_STATUS_READY = true → s.dev.warned = false → s.dev.otp.sealed = false →
    Gives (.sealGo path) s fun d => d.otp = { s.dev.otp with sealed := true } ∧
      d.host = { s.dev.host with armed := s.dev.host.armed.set 0 path 0 } ∧ d.raised FUSE.int_SEALED = true ∧
      s.dev.moves d [.otp, .host] []) ∧
  (∀ (s : State) (path t : Nat), s.Opens 0x03 → path < 2 → t = s.dev.host.armed.get 0 path →
    t = 0 ∨ t + 10000000 < s.dev.clk.up + 1 ∨ s.dev.on TOP.BOOT_STATUS_READY = false ∨ s.dev.warned = true ∨
      s.dev.otp.sealed = true → Idle (.sealGo path) s)

/-- The test access port (R473): what each instruction selects, captures, drives and shifts out, and that it works in reset as well. The
model's own readings that its commands follow: log entries 3, 4, 5, 6, 17 and 111. -/
def Obligations.TestAccess : Prop :=
  (∀ s : State, s.On ∨ s.dev.sup.phase = .reset →
    Gives .idcode s fun d => d.out = .tdo 0x0323214B 32 :: s.dev.out ∧
      d.host = { s.dev.host with tapIr := 0x01, scan := false, highz := false } ∧ s.dev.keeps d [.out, .host]) ∧
  (∀ (s : State) (pins tdi : Nat), s.On ∨ s.dev.sup.phase = .reset →
    Gives (.extest pins tdi) s fun d => s.dev.keeps d [.out, .host] ∧
      (s.dev.sup.resetLow = true → d.out = .tdo pins 0 :: s.dev.out ∧
        d.host = { s.dev.host with tapIr := 0x00, scan := true, highz := false, bsrIn := pins, bsrOut := tdi }) ∧
      (s.dev.sup.resetLow = false → d.out = s.dev.out ∧
        d.host = { s.dev.host with tapIr := 0x00, scan := false, highz := false })) ∧
  (∀ (s : State) (pins tdi : Nat), s.On ∨ s.dev.sup.phase = .reset →
    Gives (.samplePreload pins tdi) s fun d => d.out = .tdo pins 0 :: s.dev.out ∧ s.dev.keeps d [.out, .host] ∧
      d.host = { s.dev.host with tapIr := 0x02, scan := false, highz := false, bsrIn := pins, bsrOut := tdi }) ∧
  (∀ s : State, s.On ∨ s.dev.sup.phase = .reset →
    Gives .clamp s fun d => s.dev.keeps d [.host] ∧
      d.host = { s.dev.host with tapIr := 0x04, scan := s.dev.sup.resetLow, highz := false }) ∧
  (∀ s : State, s.On ∨ s.dev.sup.phase = .reset →
    Gives .highz s fun d => s.dev.keeps d [.host] ∧
      d.host = { s.dev.host with tapIr := 0x05, scan := false, highz := s.dev.sup.resetLow }) ∧
  (∀ (s : State) (code : Nat), s.On ∨ s.dev.sup.phase = .reset → code < 16 →
    Gives (.debugAccess code) s fun d => s.dev.keeps d [.host] ∧
      d.host = { s.dev.host with tapIr := if s.dev.otp.sealed then 0xFF else 0x80 + code, scan := false, highz := false }) ∧
  (∀ (s : State) (code : Nat), s.On ∨ s.dev.sup.phase = .reset → code < 256 → code ∉ [0x00, 0x01, 0x02, 0x04, 0x05] →
    code < 0x80 ∨ 0x8F < code ∨ s.dev.otp.sealed = true →
    Gives (.bypass code) s fun d => s.dev.keeps d [.host] ∧
      d.host = { s.dev.host with tapIr := 0xFF, scan := false, highz := false }) ∧
  (∀ s : State, s.On ∨ s.dev.sup.phase = .reset →
    Gives .trstN s fun d => s.dev.keeps d [.host] ∧
      d.host = { s.dev.host with tapIr := 0x01, scan := false, highz := false }) ∧
  (∀ (s : State) (code : Nat), s.On ∨ s.dev.sup.phase = .reset → code < 256 →
    code ∈ [0x00, 0x01, 0x02, 0x04, 0x05] ∨ (0x80 ≤ code ∧ code ≤ 0x8F ∧ s.dev.otp.sealed = false) → Idle (.bypass code) s) ∧
  (∀ (s : State) (c : Instr) (x y : Nat), c = .idcode ∨ c = .extest x y ∨ c = .samplePreload x y ∨ c = .clamp ∨ c = .highz ∨
      c = .debugAccess x ∨ c = .bypass x ∨ c = .trstN → s.dev.sup.phase ≠ .on → s.dev.sup.phase ≠ .reset → Idle c s)
end

