-- ==== Sys2Proof/Laws/SMap.lean ====
section
/-! SUPPORT. Laws of sparse maps: a read after a write, what a write leaves alone, and the canonical form. -/

namespace Sys2Proof

variable {α : Type}

@[simp] theorem SMap.get_nil (d : α) (k : Nat) : SMap.get ([] : SMap α) d k = d := rfl

theorem SMap.get_del_ne (m : SMap α) (d : α) {k j : Nat} (h : j ≠ k) : (m.del k).get d j = m.get d j := by
  induction m with
  | nil => rfl
  | cons p r ih =>
    obtain ⟨a, x⟩ := p
    unfold SMap.del at ih ⊢
    by_cases ha : a = k
    · subst ha
      simp [SMap.get, Ne.symm h, ih]
    · simp [ha, SMap.get, ih]

@[simp] theorem SMap.get_del_same (m : SMap α) (d : α) (k : Nat) : (m.del k).get d k = d := by
  induction m with
  | nil => rfl
  | cons p r ih =>
    obtain ⟨a, x⟩ := p
    unfold SMap.del at ih ⊢
    by_cases ha : a = k
    · simp [ha, ih]
    · simp [ha, SMap.get, ih]

theorem SMap.get_ins_ne (m : SMap α) (d : α) {k j : Nat} (v : α) (h : j ≠ k) : (SMap.ins m k v).get d j = m.get d j := by
  induction m with
  | nil => simp [SMap.ins, SMap.get, Ne.symm h]
  | cons p r ih =>
    obtain ⟨a, x⟩ := p
    simp only [SMap.ins]
    split
    · simp [SMap.get, Ne.symm h]
    · simp [SMap.get, ih]

theorem SMap.get_ins_same (m : SMap α) (d : α) (k : Nat) (v : α) (h : ∀ p ∈ m, p.1 ≠ k) :
    (SMap.ins m k v).get d k = v := by
  induction m with
  | nil => simp [SMap.ins, SMap.get]
  | cons p r ih =>
    obtain ⟨a, x⟩ := p
    have ha : a ≠ k := h (a, x) (by simp)
    simp only [SMap.ins]
    split
    · simp [SMap.get]
    · simp [SMap.get, ha, ih fun q hq => h q (by simp [hq])]

theorem SMap.del_ne (m : SMap α) (k : Nat) : ∀ p ∈ m.del k, p.1 ≠ k := by
  intro p hp
  simpa using (List.mem_filter.mp hp).2

@[simp] theorem SMap.get_set_same [DecidableEq α] (m : SMap α) (d : α) (k : Nat) (v : α) : (m.set d k v).get d k = v := by
  unfold SMap.set
  split
  · next h => simp [h]
  · exact SMap.get_ins_same _ _ _ _ (SMap.del_ne m k)

theorem SMap.get_set_ne [DecidableEq α] (m : SMap α) (d e : α) {k j : Nat} (v : α) (h : j ≠ k) :
    (m.set e k v).get d j = m.get d j := by
  unfold SMap.set
  split
  · exact SMap.get_del_ne m d h
  · rw [SMap.get_ins_ne _ _ _ h, SMap.get_del_ne m d h]

/-- A read after a write, whichever key. -/
theorem SMap.get_set [DecidableEq α] (m : SMap α) (d : α) (k j : Nat) (v : α) :
    (m.set d k v).get d j = if j = k then v else m.get d j := by
  by_cases h : j = k
  · simp [h]
  · simp [h, SMap.get_set_ne]

/-! ### The canonical form -/

/-- Rising keys, as a pairwise relation. -/
theorem SMap.sorted_iff (m : SMap α) : m.sorted = true ↔ m.Pairwise fun p q => p.1 < q.1 := by
  induction m with
  | nil => simp [SMap.sorted]
  | cons p r ih =>
    cases r with
    | nil => simp [SMap.sorted]
    | cons q r =>
      obtain ⟨a, x⟩ := p
      obtain ⟨b, y⟩ := q
      simp only [SMap.sorted, Bool.and_eq_true, decide_eq_true_eq, ih]
      constructor
      · rintro ⟨hab, hp⟩
        refine List.pairwise_cons.mpr ⟨?_, hp⟩
        intro z hz
        rcases List.mem_cons.mp hz with rfl | hz
        · exact hab
        · exact lt_trans hab ((List.pairwise_cons.mp hp).1 z hz)
      · intro hp
        exact ⟨(List.pairwise_cons.mp hp).1 (b, y) (by simp), (List.pairwise_cons.mp hp).2⟩

theorem SMap.mem_ins (m : SMap α) (k : Nat) (v : α) (p : Nat × α) : p ∈ SMap.ins m k v ↔ p = (k, v) ∨ p ∈ m := by
  induction m with
  | nil => simp [SMap.ins]
  | cons q r ih =>
    obtain ⟨a, x⟩ := q
    simp only [SMap.ins]
    split <;> simp [ih]
    tauto

theorem SMap.ins_pairwise (m : SMap α) (k : Nat) (v : α) (h : m.Pairwise fun p q => p.1 < q.1) (hk : ∀ p ∈ m, p.1 ≠ k) :
    (SMap.ins m k v).Pairwise fun p q => p.1 < q.1 := by
  induction m with
  | nil => simp [SMap.ins]
  | cons q r ih =>
    obtain ⟨a, x⟩ := q
    have ha : a ≠ k := hk (a, x) (by simp)
    simp only [SMap.ins]
    split
    · next hlt =>
      refine List.pairwise_cons.mpr ⟨?_, h⟩
      intro z hz
      rcases List.mem_cons.mp hz with rfl | hz
      · exact hlt
      · exact lt_trans hlt ((List.pairwise_cons.mp h).1 z hz)
    · next hlt =>
      refine List.pairwise_cons.mpr ⟨?_, ih (List.pairwise_cons.mp h).2 fun p hp => hk p (by simp [hp])⟩
      intro z hz
      rcases (SMap.mem_ins r k v z).mp hz with rfl | hz
      · have : ¬ k < a := hlt
        show a < k
        omega
      · exact (List.pairwise_cons.mp h).1 z hz

/-- A write keeps the canonical form. -/
theorem SMap.set_wf [DecidableEq α] (m : SMap α) (d : α) (k : Nat) (v : α) (h : m.wf d = true) : (m.set d k v).wf d = true := by
  simp only [SMap.wf, Bool.and_eq_true, SMap.sorted_iff, List.all_eq_true, decide_eq_true_eq] at h ⊢
  obtain ⟨hp, hd⟩ := h
  have hdel : (m.del k).Pairwise fun p q => p.1 < q.1 := hp.filter _
  have hdel' : ∀ p ∈ m.del k, p.2 ≠ d := fun p h => hd p (List.mem_filter.mp h).1
  unfold SMap.set
  split
  · exact ⟨hdel, hdel'⟩
  · next hv =>
    refine ⟨SMap.ins_pairwise _ _ _ hdel (SMap.del_ne m k), ?_⟩
    intro p hp
    rcases (SMap.mem_ins _ _ _ _).mp hp with rfl | hp
    · exact hv
    · exact hdel' p hp

/-- A run of bytes keeps the canonical form. -/
theorem SMap.putBytes_wf (d : Byte) (bs : List Byte) : ∀ (m : SMap Byte) (a : Nat), m.wf d = true → (m.putBytes d a bs).wf d = true := by
  induction bs with
  | nil => intro m a h; exact h
  | cons b r ih => intro m a h; exact ih _ _ (SMap.set_wf _ _ _ _ h)

/-- A byte outside a run that is written is as it was. -/
theorem SMap.putBytes_get_out (d : Byte) (bs : List Byte) : ∀ (m : SMap Byte) (a j : Nat), j < a ∨ a + bs.length ≤ j →
    (m.putBytes d a bs).get d j = m.get d j := by
  induction bs with
  | nil => intro m a j _; rfl
  | cons b r ih =>
    intro m a j h
    simp only [List.length_cons] at h
    rw [SMap.putBytes, ih _ _ _ (by omega), SMap.get_set_ne _ _ _ _ (by omega)]

/-- A byte inside a run that is written is the run's. -/
theorem SMap.putBytes_get_in (d : Byte) (bs : List Byte) : ∀ (m : SMap Byte) (a i : Nat) (h : i < bs.length),
    (m.putBytes d a bs).get d (a + i) = bs[i] := by
  induction bs with
  | nil => intro m a i h; simp at h
  | cons b r ih =>
    intro m a i h
    cases i with
    | zero =>
      rw [SMap.putBytes, SMap.putBytes_get_out _ _ _ _ _ (by omega)]
      simp
    | succ i =>
      have := ih (m.set d a b) (a + 1) i (by simpa using h)
      rw [show a + 1 + i = a + (i + 1) by omega] at this
      simpa [SMap.putBytes] using this

end Sys2Proof
end

