-- ==== Sys2Proof/Laws/State.lean ====
section
/-! SUPPORT. One law per field of the device for each update that concerns one part of it, each true by definition. -/

namespace Sys2Proof.Machine

variable (d : Dev)

/-! ### setRegP -/

@[simp] theorem Dev.setRegP_clk (r : Reg) (p c : Nat) (v : Word) : (d.setRegP r p c v).clk = d.clk := rfl
@[simp] theorem Dev.setRegP_otp (r : Reg) (p c : Nat) (v : Word) : (d.setRegP r p c v).otp = d.otp := rfl
@[simp] theorem Dev.setRegP_draws (r : Reg) (p c : Nat) (v : Word) : (d.setRegP r p c v).draws = d.draws := rfl
@[simp] theorem Dev.setRegP_frees (r : Reg) (p c : Nat) (v : Word) : (d.setRegP r p c v).frees = d.frees := rfl
@[simp] theorem Dev.setRegP_shadow (r : Reg) (p c : Nat) (v : Word) : (d.setRegP r p c v).shadow = d.shadow := rfl
@[simp] theorem Dev.setRegP_dirty (r : Reg) (p c : Nat) (v : Word) : (d.setRegP r p c v).dirty = d.dirty := rfl
@[simp] theorem Dev.setRegP_prev (r : Reg) (p c : Nat) (v : Word) : (d.setRegP r p c v).prev = d.prev := rfl
@[simp] theorem Dev.setRegP_cgen (r : Reg) (p c : Nat) (v : Word) : (d.setRegP r p c v).cgen = d.cgen := rfl
@[simp] theorem Dev.setRegP_commit (r : Reg) (p c : Nat) (v : Word) : (d.setRegP r p c v).commit = d.commit := rfl
@[simp] theorem Dev.setRegP_pause (r : Reg) (p c : Nat) (v : Word) : (d.setRegP r p c v).pause = d.pause := rfl
@[simp] theorem Dev.setRegP_evq (r : Reg) (p c : Nat) (v : Word) : (d.setRegP r p c v).evq = d.evq := rfl
@[simp] theorem Dev.setRegP_out (r : Reg) (p c : Nat) (v : Word) : (d.setRegP r p c v).out = d.out := rfl
@[simp] theorem Dev.setRegP_hostMem (r : Reg) (p c : Nat) (v : Word) : (d.setRegP r p c v).hostMem = d.hostMem := rfl
@[simp] theorem Dev.setRegP_flash (r : Reg) (p c : Nat) (v : Word) : (d.setRegP r p c v).flash = d.flash := rfl
@[simp] theorem Dev.setRegP_sup (r : Reg) (p c : Nat) (v : Word) : (d.setRegP r p c v).sup = d.sup := rfl
@[simp] theorem Dev.setRegP_spore (r : Reg) (p c : Nat) (v : Word) : (d.setRegP r p c v).spore = d.spore := rfl
@[simp] theorem Dev.setRegP_boot (r : Reg) (p c : Nat) (v : Word) : (d.setRegP r p c v).boot = d.boot := rfl
@[simp] theorem Dev.setRegP_time (r : Reg) (p c : Nat) (v : Word) : (d.setRegP r p c v).time = d.time := rfl
@[simp] theorem Dev.setRegP_isles (r : Reg) (p c : Nat) (v : Word) : (d.setRegP r p c v).isles = d.isles := rfl
@[simp] theorem Dev.setRegP_resetting (r : Reg) (p c : Nat) (v : Word) : (d.setRegP r p c v).resetting = d.resetting := rfl
@[simp] theorem Dev.setRegP_sw (r : Reg) (p c : Nat) (v : Word) : (d.setRegP r p c v).sw = d.sw := rfl
@[simp] theorem Dev.setRegP_obs (r : Reg) (p c : Nat) (v : Word) : (d.setRegP r p c v).obs = d.obs := rfl
@[simp] theorem Dev.setRegP_look (r : Reg) (p c : Nat) (v : Word) : (d.setRegP r p c v).look = d.look := rfl
@[simp] theorem Dev.setRegP_flow (r : Reg) (p c : Nat) (v : Word) : (d.setRegP r p c v).flow = d.flow := rfl
@[simp] theorem Dev.setRegP_eng (r : Reg) (p c : Nat) (v : Word) : (d.setRegP r p c v).eng = d.eng := rfl
@[simp] theorem Dev.setRegP_units (r : Reg) (p c : Nat) (v : Word) : (d.setRegP r p c v).units = d.units := rfl
@[simp] theorem Dev.setRegP_tandem (r : Reg) (p c : Nat) (v : Word) : (d.setRegP r p c v).tandem = d.tandem := rfl
@[simp] theorem Dev.setRegP_mem (r : Reg) (p c : Nat) (v : Word) : (d.setRegP r p c v).mem = d.mem := rfl
@[simp] theorem Dev.setRegP_host (r : Reg) (p c : Nat) (v : Word) : (d.setRegP r p c v).host = d.host := rfl

/-! ### setReg -/

@[simp] theorem Dev.setReg_clk (r : Reg) (v : Word) (c : Nat) : (d.setReg r v c).clk = d.clk := rfl
@[simp] theorem Dev.setReg_otp (r : Reg) (v : Word) (c : Nat) : (d.setReg r v c).otp = d.otp := rfl
@[simp] theorem Dev.setReg_draws (r : Reg) (v : Word) (c : Nat) : (d.setReg r v c).draws = d.draws := rfl
@[simp] theorem Dev.setReg_frees (r : Reg) (v : Word) (c : Nat) : (d.setReg r v c).frees = d.frees := rfl
@[simp] theorem Dev.setReg_shadow (r : Reg) (v : Word) (c : Nat) : (d.setReg r v c).shadow = d.shadow := rfl
@[simp] theorem Dev.setReg_dirty (r : Reg) (v : Word) (c : Nat) : (d.setReg r v c).dirty = d.dirty := rfl
@[simp] theorem Dev.setReg_prev (r : Reg) (v : Word) (c : Nat) : (d.setReg r v c).prev = d.prev := rfl
@[simp] theorem Dev.setReg_cgen (r : Reg) (v : Word) (c : Nat) : (d.setReg r v c).cgen = d.cgen := rfl
@[simp] theorem Dev.setReg_commit (r : Reg) (v : Word) (c : Nat) : (d.setReg r v c).commit = d.commit := rfl
@[simp] theorem Dev.setReg_pause (r : Reg) (v : Word) (c : Nat) : (d.setReg r v c).pause = d.pause := rfl
@[simp] theorem Dev.setReg_evq (r : Reg) (v : Word) (c : Nat) : (d.setReg r v c).evq = d.evq := rfl
@[simp] theorem Dev.setReg_out (r : Reg) (v : Word) (c : Nat) : (d.setReg r v c).out = d.out := rfl
@[simp] theorem Dev.setReg_hostMem (r : Reg) (v : Word) (c : Nat) : (d.setReg r v c).hostMem = d.hostMem := rfl
@[simp] theorem Dev.setReg_flash (r : Reg) (v : Word) (c : Nat) : (d.setReg r v c).flash = d.flash := rfl
@[simp] theorem Dev.setReg_sup (r : Reg) (v : Word) (c : Nat) : (d.setReg r v c).sup = d.sup := rfl
@[simp] theorem Dev.setReg_spore (r : Reg) (v : Word) (c : Nat) : (d.setReg r v c).spore = d.spore := rfl
@[simp] theorem Dev.setReg_boot (r : Reg) (v : Word) (c : Nat) : (d.setReg r v c).boot = d.boot := rfl
@[simp] theorem Dev.setReg_time (r : Reg) (v : Word) (c : Nat) : (d.setReg r v c).time = d.time := rfl
@[simp] theorem Dev.setReg_isles (r : Reg) (v : Word) (c : Nat) : (d.setReg r v c).isles = d.isles := rfl
@[simp] theorem Dev.setReg_resetting (r : Reg) (v : Word) (c : Nat) : (d.setReg r v c).resetting = d.resetting := rfl
@[simp] theorem Dev.setReg_sw (r : Reg) (v : Word) (c : Nat) : (d.setReg r v c).sw = d.sw := rfl
@[simp] theorem Dev.setReg_obs (r : Reg) (v : Word) (c : Nat) : (d.setReg r v c).obs = d.obs := rfl
@[simp] theorem Dev.setReg_look (r : Reg) (v : Word) (c : Nat) : (d.setReg r v c).look = d.look := rfl
@[simp] theorem Dev.setReg_flow (r : Reg) (v : Word) (c : Nat) : (d.setReg r v c).flow = d.flow := rfl
@[simp] theorem Dev.setReg_eng (r : Reg) (v : Word) (c : Nat) : (d.setReg r v c).eng = d.eng := rfl
@[simp] theorem Dev.setReg_units (r : Reg) (v : Word) (c : Nat) : (d.setReg r v c).units = d.units := rfl
@[simp] theorem Dev.setReg_tandem (r : Reg) (v : Word) (c : Nat) : (d.setReg r v c).tandem = d.tandem := rfl
@[simp] theorem Dev.setReg_mem (r : Reg) (v : Word) (c : Nat) : (d.setReg r v c).mem = d.mem := rfl
@[simp] theorem Dev.setReg_host (r : Reg) (v : Word) (c : Nat) : (d.setReg r v c).host = d.host := rfl

/-! ### setNum -/

@[simp] theorem Dev.setNum_clk (r : Reg) (v c : Nat) : (d.setNum r v c).clk = d.clk := rfl
@[simp] theorem Dev.setNum_otp (r : Reg) (v c : Nat) : (d.setNum r v c).otp = d.otp := rfl
@[simp] theorem Dev.setNum_draws (r : Reg) (v c : Nat) : (d.setNum r v c).draws = d.draws := rfl
@[simp] theorem Dev.setNum_frees (r : Reg) (v c : Nat) : (d.setNum r v c).frees = d.frees := rfl
@[simp] theorem Dev.setNum_shadow (r : Reg) (v c : Nat) : (d.setNum r v c).shadow = d.shadow := rfl
@[simp] theorem Dev.setNum_dirty (r : Reg) (v c : Nat) : (d.setNum r v c).dirty = d.dirty := rfl
@[simp] theorem Dev.setNum_prev (r : Reg) (v c : Nat) : (d.setNum r v c).prev = d.prev := rfl
@[simp] theorem Dev.setNum_cgen (r : Reg) (v c : Nat) : (d.setNum r v c).cgen = d.cgen := rfl
@[simp] theorem Dev.setNum_commit (r : Reg) (v c : Nat) : (d.setNum r v c).commit = d.commit := rfl
@[simp] theorem Dev.setNum_pause (r : Reg) (v c : Nat) : (d.setNum r v c).pause = d.pause := rfl
@[simp] theorem Dev.setNum_evq (r : Reg) (v c : Nat) : (d.setNum r v c).evq = d.evq := rfl
@[simp] theorem Dev.setNum_out (r : Reg) (v c : Nat) : (d.setNum r v c).out = d.out := rfl
@[simp] theorem Dev.setNum_hostMem (r : Reg) (v c : Nat) : (d.setNum r v c).hostMem = d.hostMem := rfl
@[simp] theorem Dev.setNum_flash (r : Reg) (v c : Nat) : (d.setNum r v c).flash = d.flash := rfl
@[simp] theorem Dev.setNum_sup (r : Reg) (v c : Nat) : (d.setNum r v c).sup = d.sup := rfl
@[simp] theorem Dev.setNum_spore (r : Reg) (v c : Nat) : (d.setNum r v c).spore = d.spore := rfl
@[simp] theorem Dev.setNum_boot (r : Reg) (v c : Nat) : (d.setNum r v c).boot = d.boot := rfl
@[simp] theorem Dev.setNum_time (r : Reg) (v c : Nat) : (d.setNum r v c).time = d.time := rfl
@[simp] theorem Dev.setNum_isles (r : Reg) (v c : Nat) : (d.setNum r v c).isles = d.isles := rfl
@[simp] theorem Dev.setNum_resetting (r : Reg) (v c : Nat) : (d.setNum r v c).resetting = d.resetting := rfl
@[simp] theorem Dev.setNum_sw (r : Reg) (v c : Nat) : (d.setNum r v c).sw = d.sw := rfl
@[simp] theorem Dev.setNum_obs (r : Reg) (v c : Nat) : (d.setNum r v c).obs = d.obs := rfl
@[simp] theorem Dev.setNum_look (r : Reg) (v c : Nat) : (d.setNum r v c).look = d.look := rfl
@[simp] theorem Dev.setNum_flow (r : Reg) (v c : Nat) : (d.setNum r v c).flow = d.flow := rfl
@[simp] theorem Dev.setNum_eng (r : Reg) (v c : Nat) : (d.setNum r v c).eng = d.eng := rfl
@[simp] theorem Dev.setNum_units (r : Reg) (v c : Nat) : (d.setNum r v c).units = d.units := rfl
@[simp] theorem Dev.setNum_tandem (r : Reg) (v c : Nat) : (d.setNum r v c).tandem = d.tandem := rfl
@[simp] theorem Dev.setNum_mem (r : Reg) (v c : Nat) : (d.setNum r v c).mem = d.mem := rfl
@[simp] theorem Dev.setNum_host (r : Reg) (v c : Nat) : (d.setNum r v c).host = d.host := rfl

/-! ### setFld -/

@[simp] theorem Dev.setFld_clk (x : Fld) (v c : Nat) : (d.setFld x v c).clk = d.clk := rfl
@[simp] theorem Dev.setFld_otp (x : Fld) (v c : Nat) : (d.setFld x v c).otp = d.otp := rfl
@[simp] theorem Dev.setFld_draws (x : Fld) (v c : Nat) : (d.setFld x v c).draws = d.draws := rfl
@[simp] theorem Dev.setFld_frees (x : Fld) (v c : Nat) : (d.setFld x v c).frees = d.frees := rfl
@[simp] theorem Dev.setFld_shadow (x : Fld) (v c : Nat) : (d.setFld x v c).shadow = d.shadow := rfl
@[simp] theorem Dev.setFld_dirty (x : Fld) (v c : Nat) : (d.setFld x v c).dirty = d.dirty := rfl
@[simp] theorem Dev.setFld_prev (x : Fld) (v c : Nat) : (d.setFld x v c).prev = d.prev := rfl
@[simp] theorem Dev.setFld_cgen (x : Fld) (v c : Nat) : (d.setFld x v c).cgen = d.cgen := rfl
@[simp] theorem Dev.setFld_commit (x : Fld) (v c : Nat) : (d.setFld x v c).commit = d.commit := rfl
@[simp] theorem Dev.setFld_pause (x : Fld) (v c : Nat) : (d.setFld x v c).pause = d.pause := rfl
@[simp] theorem Dev.setFld_evq (x : Fld) (v c : Nat) : (d.setFld x v c).evq = d.evq := rfl
@[simp] theorem Dev.setFld_out (x : Fld) (v c : Nat) : (d.setFld x v c).out = d.out := rfl
@[simp] theorem Dev.setFld_hostMem (x : Fld) (v c : Nat) : (d.setFld x v c).hostMem = d.hostMem := rfl
@[simp] theorem Dev.setFld_flash (x : Fld) (v c : Nat) : (d.setFld x v c).flash = d.flash := rfl
@[simp] theorem Dev.setFld_sup (x : Fld) (v c : Nat) : (d.setFld x v c).sup = d.sup := rfl
@[simp] theorem Dev.setFld_spore (x : Fld) (v c : Nat) : (d.setFld x v c).spore = d.spore := rfl
@[simp] theorem Dev.setFld_boot (x : Fld) (v c : Nat) : (d.setFld x v c).boot = d.boot := rfl
@[simp] theorem Dev.setFld_time (x : Fld) (v c : Nat) : (d.setFld x v c).time = d.time := rfl
@[simp] theorem Dev.setFld_isles (x : Fld) (v c : Nat) : (d.setFld x v c).isles = d.isles := rfl
@[simp] theorem Dev.setFld_resetting (x : Fld) (v c : Nat) : (d.setFld x v c).resetting = d.resetting := rfl
@[simp] theorem Dev.setFld_sw (x : Fld) (v c : Nat) : (d.setFld x v c).sw = d.sw := rfl
@[simp] theorem Dev.setFld_obs (x : Fld) (v c : Nat) : (d.setFld x v c).obs = d.obs := rfl
@[simp] theorem Dev.setFld_look (x : Fld) (v c : Nat) : (d.setFld x v c).look = d.look := rfl
@[simp] theorem Dev.setFld_flow (x : Fld) (v c : Nat) : (d.setFld x v c).flow = d.flow := rfl
@[simp] theorem Dev.setFld_eng (x : Fld) (v c : Nat) : (d.setFld x v c).eng = d.eng := rfl
@[simp] theorem Dev.setFld_units (x : Fld) (v c : Nat) : (d.setFld x v c).units = d.units := rfl
@[simp] theorem Dev.setFld_tandem (x : Fld) (v c : Nat) : (d.setFld x v c).tandem = d.tandem := rfl
@[simp] theorem Dev.setFld_mem (x : Fld) (v c : Nat) : (d.setFld x v c).mem = d.mem := rfl
@[simp] theorem Dev.setFld_host (x : Fld) (v c : Nat) : (d.setFld x v c).host = d.host := rfl

/-! ### bump -/

@[simp] theorem Dev.bump_clk (r : Reg) (c n : Nat) : (d.bump r c n).clk = d.clk := rfl
@[simp] theorem Dev.bump_otp (r : Reg) (c n : Nat) : (d.bump r c n).otp = d.otp := rfl
@[simp] theorem Dev.bump_draws (r : Reg) (c n : Nat) : (d.bump r c n).draws = d.draws := rfl
@[simp] theorem Dev.bump_frees (r : Reg) (c n : Nat) : (d.bump r c n).frees = d.frees := rfl
@[simp] theorem Dev.bump_shadow (r : Reg) (c n : Nat) : (d.bump r c n).shadow = d.shadow := rfl
@[simp] theorem Dev.bump_dirty (r : Reg) (c n : Nat) : (d.bump r c n).dirty = d.dirty := rfl
@[simp] theorem Dev.bump_prev (r : Reg) (c n : Nat) : (d.bump r c n).prev = d.prev := rfl
@[simp] theorem Dev.bump_cgen (r : Reg) (c n : Nat) : (d.bump r c n).cgen = d.cgen := rfl
@[simp] theorem Dev.bump_commit (r : Reg) (c n : Nat) : (d.bump r c n).commit = d.commit := rfl
@[simp] theorem Dev.bump_pause (r : Reg) (c n : Nat) : (d.bump r c n).pause = d.pause := rfl
@[simp] theorem Dev.bump_evq (r : Reg) (c n : Nat) : (d.bump r c n).evq = d.evq := rfl
@[simp] theorem Dev.bump_out (r : Reg) (c n : Nat) : (d.bump r c n).out = d.out := rfl
@[simp] theorem Dev.bump_hostMem (r : Reg) (c n : Nat) : (d.bump r c n).hostMem = d.hostMem := rfl
@[simp] theorem Dev.bump_flash (r : Reg) (c n : Nat) : (d.bump r c n).flash = d.flash := rfl
@[simp] theorem Dev.bump_sup (r : Reg) (c n : Nat) : (d.bump r c n).sup = d.sup := rfl
@[simp] theorem Dev.bump_spore (r : Reg) (c n : Nat) : (d.bump r c n).spore = d.spore := rfl
@[simp] theorem Dev.bump_boot (r : Reg) (c n : Nat) : (d.bump r c n).boot = d.boot := rfl
@[simp] theorem Dev.bump_time (r : Reg) (c n : Nat) : (d.bump r c n).time = d.time := rfl
@[simp] theorem Dev.bump_isles (r : Reg) (c n : Nat) : (d.bump r c n).isles = d.isles := rfl
@[simp] theorem Dev.bump_resetting (r : Reg) (c n : Nat) : (d.bump r c n).resetting = d.resetting := rfl
@[simp] theorem Dev.bump_sw (r : Reg) (c n : Nat) : (d.bump r c n).sw = d.sw := rfl
@[simp] theorem Dev.bump_obs (r : Reg) (c n : Nat) : (d.bump r c n).obs = d.obs := rfl
@[simp] theorem Dev.bump_look (r : Reg) (c n : Nat) : (d.bump r c n).look = d.look := rfl
@[simp] theorem Dev.bump_flow (r : Reg) (c n : Nat) : (d.bump r c n).flow = d.flow := rfl
@[simp] theorem Dev.bump_eng (r : Reg) (c n : Nat) : (d.bump r c n).eng = d.eng := rfl
@[simp] theorem Dev.bump_units (r : Reg) (c n : Nat) : (d.bump r c n).units = d.units := rfl
@[simp] theorem Dev.bump_tandem (r : Reg) (c n : Nat) : (d.bump r c n).tandem = d.tandem := rfl
@[simp] theorem Dev.bump_mem (r : Reg) (c n : Nat) : (d.bump r c n).mem = d.mem := rfl
@[simp] theorem Dev.bump_host (r : Reg) (c n : Nat) : (d.bump r c n).host = d.host := rfl

/-! ### setNum2 -/

@[simp] theorem Dev.setNum2_clk (r q : Reg) (v c : Nat) : (d.setNum2 r q v c).clk = d.clk := rfl
@[simp] theorem Dev.setNum2_otp (r q : Reg) (v c : Nat) : (d.setNum2 r q v c).otp = d.otp := rfl
@[simp] theorem Dev.setNum2_draws (r q : Reg) (v c : Nat) : (d.setNum2 r q v c).draws = d.draws := rfl
@[simp] theorem Dev.setNum2_frees (r q : Reg) (v c : Nat) : (d.setNum2 r q v c).frees = d.frees := rfl
@[simp] theorem Dev.setNum2_shadow (r q : Reg) (v c : Nat) : (d.setNum2 r q v c).shadow = d.shadow := rfl
@[simp] theorem Dev.setNum2_dirty (r q : Reg) (v c : Nat) : (d.setNum2 r q v c).dirty = d.dirty := rfl
@[simp] theorem Dev.setNum2_prev (r q : Reg) (v c : Nat) : (d.setNum2 r q v c).prev = d.prev := rfl
@[simp] theorem Dev.setNum2_cgen (r q : Reg) (v c : Nat) : (d.setNum2 r q v c).cgen = d.cgen := rfl
@[simp] theorem Dev.setNum2_commit (r q : Reg) (v c : Nat) : (d.setNum2 r q v c).commit = d.commit := rfl
@[simp] theorem Dev.setNum2_pause (r q : Reg) (v c : Nat) : (d.setNum2 r q v c).pause = d.pause := rfl
@[simp] theorem Dev.setNum2_evq (r q : Reg) (v c : Nat) : (d.setNum2 r q v c).evq = d.evq := rfl
@[simp] theorem Dev.setNum2_out (r q : Reg) (v c : Nat) : (d.setNum2 r q v c).out = d.out := rfl
@[simp] theorem Dev.setNum2_hostMem (r q : Reg) (v c : Nat) : (d.setNum2 r q v c).hostMem = d.hostMem := rfl
@[simp] theorem Dev.setNum2_flash (r q : Reg) (v c : Nat) : (d.setNum2 r q v c).flash = d.flash := rfl
@[simp] theorem Dev.setNum2_sup (r q : Reg) (v c : Nat) : (d.setNum2 r q v c).sup = d.sup := rfl
@[simp] theorem Dev.setNum2_spore (r q : Reg) (v c : Nat) : (d.setNum2 r q v c).spore = d.spore := rfl
@[simp] theorem Dev.setNum2_boot (r q : Reg) (v c : Nat) : (d.setNum2 r q v c).boot = d.boot := rfl
@[simp] theorem Dev.setNum2_time (r q : Reg) (v c : Nat) : (d.setNum2 r q v c).time = d.time := rfl
@[simp] theorem Dev.setNum2_isles (r q : Reg) (v c : Nat) : (d.setNum2 r q v c).isles = d.isles := rfl
@[simp] theorem Dev.setNum2_resetting (r q : Reg) (v c : Nat) : (d.setNum2 r q v c).resetting = d.resetting := rfl
@[simp] theorem Dev.setNum2_sw (r q : Reg) (v c : Nat) : (d.setNum2 r q v c).sw = d.sw := rfl
@[simp] theorem Dev.setNum2_obs (r q : Reg) (v c : Nat) : (d.setNum2 r q v c).obs = d.obs := rfl
@[simp] theorem Dev.setNum2_look (r q : Reg) (v c : Nat) : (d.setNum2 r q v c).look = d.look := rfl
@[simp] theorem Dev.setNum2_flow (r q : Reg) (v c : Nat) : (d.setNum2 r q v c).flow = d.flow := rfl
@[simp] theorem Dev.setNum2_eng (r q : Reg) (v c : Nat) : (d.setNum2 r q v c).eng = d.eng := rfl
@[simp] theorem Dev.setNum2_units (r q : Reg) (v c : Nat) : (d.setNum2 r q v c).units = d.units := rfl
@[simp] theorem Dev.setNum2_tandem (r q : Reg) (v c : Nat) : (d.setNum2 r q v c).tandem = d.tandem := rfl
@[simp] theorem Dev.setNum2_mem (r q : Reg) (v c : Nat) : (d.setNum2 r q v c).mem = d.mem := rfl
@[simp] theorem Dev.setNum2_host (r q : Reg) (v c : Nat) : (d.setNum2 r q v c).host = d.host := rfl

/-! ### emit -/

@[simp] theorem Dev.emit_clk (o : Output) : (d.emit o).clk = d.clk := rfl
@[simp] theorem Dev.emit_otp (o : Output) : (d.emit o).otp = d.otp := rfl
@[simp] theorem Dev.emit_draws (o : Output) : (d.emit o).draws = d.draws := rfl
@[simp] theorem Dev.emit_frees (o : Output) : (d.emit o).frees = d.frees := rfl
@[simp] theorem Dev.emit_regs (o : Output) : (d.emit o).regs = d.regs := rfl
@[simp] theorem Dev.emit_shadow (o : Output) : (d.emit o).shadow = d.shadow := rfl
@[simp] theorem Dev.emit_dirty (o : Output) : (d.emit o).dirty = d.dirty := rfl
@[simp] theorem Dev.emit_prev (o : Output) : (d.emit o).prev = d.prev := rfl
@[simp] theorem Dev.emit_cgen (o : Output) : (d.emit o).cgen = d.cgen := rfl
@[simp] theorem Dev.emit_commit (o : Output) : (d.emit o).commit = d.commit := rfl
@[simp] theorem Dev.emit_pause (o : Output) : (d.emit o).pause = d.pause := rfl
@[simp] theorem Dev.emit_evq (o : Output) : (d.emit o).evq = d.evq := rfl
@[simp] theorem Dev.emit_hostMem (o : Output) : (d.emit o).hostMem = d.hostMem := rfl
@[simp] theorem Dev.emit_flash (o : Output) : (d.emit o).flash = d.flash := rfl
@[simp] theorem Dev.emit_sup (o : Output) : (d.emit o).sup = d.sup := rfl
@[simp] theorem Dev.emit_spore (o : Output) : (d.emit o).spore = d.spore := rfl
@[simp] theorem Dev.emit_boot (o : Output) : (d.emit o).boot = d.boot := rfl
@[simp] theorem Dev.emit_time (o : Output) : (d.emit o).time = d.time := rfl
@[simp] theorem Dev.emit_isles (o : Output) : (d.emit o).isles = d.isles := rfl
@[simp] theorem Dev.emit_resetting (o : Output) : (d.emit o).resetting = d.resetting := rfl
@[simp] theorem Dev.emit_sw (o : Output) : (d.emit o).sw = d.sw := rfl
@[simp] theorem Dev.emit_obs (o : Output) : (d.emit o).obs = d.obs := rfl
@[simp] theorem Dev.emit_look (o : Output) : (d.emit o).look = d.look := rfl
@[simp] theorem Dev.emit_flow (o : Output) : (d.emit o).flow = d.flow := rfl
@[simp] theorem Dev.emit_eng (o : Output) : (d.emit o).eng = d.eng := rfl
@[simp] theorem Dev.emit_units (o : Output) : (d.emit o).units = d.units := rfl
@[simp] theorem Dev.emit_tandem (o : Output) : (d.emit o).tandem = d.tandem := rfl
@[simp] theorem Dev.emit_mem (o : Output) : (d.emit o).mem = d.mem := rfl
@[simp] theorem Dev.emit_host (o : Output) : (d.emit o).host = d.host := rfl

/-! ### drawn -/

@[simp] theorem Dev.drawn_clk : (d.drawn).clk = d.clk := rfl
@[simp] theorem Dev.drawn_otp : (d.drawn).otp = d.otp := rfl
@[simp] theorem Dev.drawn_frees : (d.drawn).frees = d.frees := rfl
@[simp] theorem Dev.drawn_regs : (d.drawn).regs = d.regs := rfl
@[simp] theorem Dev.drawn_shadow : (d.drawn).shadow = d.shadow := rfl
@[simp] theorem Dev.drawn_dirty : (d.drawn).dirty = d.dirty := rfl
@[simp] theorem Dev.drawn_prev : (d.drawn).prev = d.prev := rfl
@[simp] theorem Dev.drawn_cgen : (d.drawn).cgen = d.cgen := rfl
@[simp] theorem Dev.drawn_commit : (d.drawn).commit = d.commit := rfl
@[simp] theorem Dev.drawn_pause : (d.drawn).pause = d.pause := rfl
@[simp] theorem Dev.drawn_evq : (d.drawn).evq = d.evq := rfl
@[simp] theorem Dev.drawn_out : (d.drawn).out = d.out := rfl
@[simp] theorem Dev.drawn_hostMem : (d.drawn).hostMem = d.hostMem := rfl
@[simp] theorem Dev.drawn_flash : (d.drawn).flash = d.flash := rfl
@[simp] theorem Dev.drawn_sup : (d.drawn).sup = d.sup := rfl
@[simp] theorem Dev.drawn_spore : (d.drawn).spore = d.spore := rfl
@[simp] theorem Dev.drawn_boot : (d.drawn).boot = d.boot := rfl
@[simp] theorem Dev.drawn_time : (d.drawn).time = d.time := rfl
@[simp] theorem Dev.drawn_isles : (d.drawn).isles = d.isles := rfl
@[simp] theorem Dev.drawn_resetting : (d.drawn).resetting = d.resetting := rfl
@[simp] theorem Dev.drawn_sw : (d.drawn).sw = d.sw := rfl
@[simp] theorem Dev.drawn_obs : (d.drawn).obs = d.obs := rfl
@[simp] theorem Dev.drawn_look : (d.drawn).look = d.look := rfl
@[simp] theorem Dev.drawn_flow : (d.drawn).flow = d.flow := rfl
@[simp] theorem Dev.drawn_eng : (d.drawn).eng = d.eng := rfl
@[simp] theorem Dev.drawn_units : (d.drawn).units = d.units := rfl
@[simp] theorem Dev.drawn_tandem : (d.drawn).tandem = d.tandem := rfl
@[simp] theorem Dev.drawn_mem : (d.drawn).mem = d.mem := rfl
@[simp] theorem Dev.drawn_host : (d.drawn).host = d.host := rfl

/-! ### freed -/

@[simp] theorem Dev.freed_clk : (d.freed).clk = d.clk := rfl
@[simp] theorem Dev.freed_otp : (d.freed).otp = d.otp := rfl
@[simp] theorem Dev.freed_draws : (d.freed).draws = d.draws := rfl
@[simp] theorem Dev.freed_regs : (d.freed).regs = d.regs := rfl
@[simp] theorem Dev.freed_shadow : (d.freed).shadow = d.shadow := rfl
@[simp] theorem Dev.freed_dirty : (d.freed).dirty = d.dirty := rfl
@[simp] theorem Dev.freed_prev : (d.freed).prev = d.prev := rfl
@[simp] theorem Dev.freed_cgen : (d.freed).cgen = d.cgen := rfl
@[simp] theorem Dev.freed_commit : (d.freed).commit = d.commit := rfl
@[simp] theorem Dev.freed_pause : (d.freed).pause = d.pause := rfl
@[simp] theorem Dev.freed_evq : (d.freed).evq = d.evq := rfl
@[simp] theorem Dev.freed_out : (d.freed).out = d.out := rfl
@[simp] theorem Dev.freed_hostMem : (d.freed).hostMem = d.hostMem := rfl
@[simp] theorem Dev.freed_flash : (d.freed).flash = d.flash := rfl
@[simp] theorem Dev.freed_sup : (d.freed).sup = d.sup := rfl
@[simp] theorem Dev.freed_spore : (d.freed).spore = d.spore := rfl
@[simp] theorem Dev.freed_boot : (d.freed).boot = d.boot := rfl
@[simp] theorem Dev.freed_time : (d.freed).time = d.time := rfl
@[simp] theorem Dev.freed_isles : (d.freed).isles = d.isles := rfl
@[simp] theorem Dev.freed_resetting : (d.freed).resetting = d.resetting := rfl
@[simp] theorem Dev.freed_sw : (d.freed).sw = d.sw := rfl
@[simp] theorem Dev.freed_obs : (d.freed).obs = d.obs := rfl
@[simp] theorem Dev.freed_look : (d.freed).look = d.look := rfl
@[simp] theorem Dev.freed_flow : (d.freed).flow = d.flow := rfl
@[simp] theorem Dev.freed_eng : (d.freed).eng = d.eng := rfl
@[simp] theorem Dev.freed_units : (d.freed).units = d.units := rfl
@[simp] theorem Dev.freed_tandem : (d.freed).tandem = d.tandem := rfl
@[simp] theorem Dev.freed_mem : (d.freed).mem = d.mem := rfl
@[simp] theorem Dev.freed_host : (d.freed).host = d.host := rfl

/-! ### setSup -/

@[simp] theorem Dev.setSup_clk (x : Supply) : (d.setSup x).clk = d.clk := rfl
@[simp] theorem Dev.setSup_otp (x : Supply) : (d.setSup x).otp = d.otp := rfl
@[simp] theorem Dev.setSup_draws (x : Supply) : (d.setSup x).draws = d.draws := rfl
@[simp] theorem Dev.setSup_frees (x : Supply) : (d.setSup x).frees = d.frees := rfl
@[simp] theorem Dev.setSup_regs (x : Supply) : (d.setSup x).regs = d.regs := rfl
@[simp] theorem Dev.setSup_shadow (x : Supply) : (d.setSup x).shadow = d.shadow := rfl
@[simp] theorem Dev.setSup_dirty (x : Supply) : (d.setSup x).dirty = d.dirty := rfl
@[simp] theorem Dev.setSup_prev (x : Supply) : (d.setSup x).prev = d.prev := rfl
@[simp] theorem Dev.setSup_cgen (x : Supply) : (d.setSup x).cgen = d.cgen := rfl
@[simp] theorem Dev.setSup_commit (x : Supply) : (d.setSup x).commit = d.commit := rfl
@[simp] theorem Dev.setSup_pause (x : Supply) : (d.setSup x).pause = d.pause := rfl
@[simp] theorem Dev.setSup_evq (x : Supply) : (d.setSup x).evq = d.evq := rfl
@[simp] theorem Dev.setSup_out (x : Supply) : (d.setSup x).out = d.out := rfl
@[simp] theorem Dev.setSup_hostMem (x : Supply) : (d.setSup x).hostMem = d.hostMem := rfl
@[simp] theorem Dev.setSup_flash (x : Supply) : (d.setSup x).flash = d.flash := rfl
@[simp] theorem Dev.setSup_sup (x : Supply) : (d.setSup x).sup = x := rfl
@[simp] theorem Dev.setSup_spore (x : Supply) : (d.setSup x).spore = d.spore := rfl
@[simp] theorem Dev.setSup_boot (x : Supply) : (d.setSup x).boot = d.boot := rfl
@[simp] theorem Dev.setSup_time (x : Supply) : (d.setSup x).time = d.time := rfl
@[simp] theorem Dev.setSup_isles (x : Supply) : (d.setSup x).isles = d.isles := rfl
@[simp] theorem Dev.setSup_resetting (x : Supply) : (d.setSup x).resetting = d.resetting := rfl
@[simp] theorem Dev.setSup_sw (x : Supply) : (d.setSup x).sw = d.sw := rfl
@[simp] theorem Dev.setSup_obs (x : Supply) : (d.setSup x).obs = d.obs := rfl
@[simp] theorem Dev.setSup_look (x : Supply) : (d.setSup x).look = d.look := rfl
@[simp] theorem Dev.setSup_flow (x : Supply) : (d.setSup x).flow = d.flow := rfl
@[simp] theorem Dev.setSup_eng (x : Supply) : (d.setSup x).eng = d.eng := rfl
@[simp] theorem Dev.setSup_units (x : Supply) : (d.setSup x).units = d.units := rfl
@[simp] theorem Dev.setSup_tandem (x : Supply) : (d.setSup x).tandem = d.tandem := rfl
@[simp] theorem Dev.setSup_mem (x : Supply) : (d.setSup x).mem = d.mem := rfl
@[simp] theorem Dev.setSup_host (x : Supply) : (d.setSup x).host = d.host := rfl

/-! ### setSpore -/

@[simp] theorem Dev.setSpore_clk (x : Spore) : (d.setSpore x).clk = d.clk := rfl
@[simp] theorem Dev.setSpore_otp (x : Spore) : (d.setSpore x).otp = d.otp := rfl
@[simp] theorem Dev.setSpore_draws (x : Spore) : (d.setSpore x).draws = d.draws := rfl
@[simp] theorem Dev.setSpore_frees (x : Spore) : (d.setSpore x).frees = d.frees := rfl
@[simp] theorem Dev.setSpore_regs (x : Spore) : (d.setSpore x).regs = d.regs := rfl
@[simp] theorem Dev.setSpore_shadow (x : Spore) : (d.setSpore x).shadow = d.shadow := rfl
@[simp] theorem Dev.setSpore_dirty (x : Spore) : (d.setSpore x).dirty = d.dirty := rfl
@[simp] theorem Dev.setSpore_prev (x : Spore) : (d.setSpore x).prev = d.prev := rfl
@[simp] theorem Dev.setSpore_cgen (x : Spore) : (d.setSpore x).cgen = d.cgen := rfl
@[simp] theorem Dev.setSpore_commit (x : Spore) : (d.setSpore x).commit = d.commit := rfl
@[simp] theorem Dev.setSpore_pause (x : Spore) : (d.setSpore x).pause = d.pause := rfl
@[simp] theorem Dev.setSpore_evq (x : Spore) : (d.setSpore x).evq = d.evq := rfl
@[simp] theorem Dev.setSpore_out (x : Spore) : (d.setSpore x).out = d.out := rfl
@[simp] theorem Dev.setSpore_hostMem (x : Spore) : (d.setSpore x).hostMem = d.hostMem := rfl
@[simp] theorem Dev.setSpore_flash (x : Spore) : (d.setSpore x).flash = d.flash := rfl
@[simp] theorem Dev.setSpore_sup (x : Spore) : (d.setSpore x).sup = d.sup := rfl
@[simp] theorem Dev.setSpore_spore (x : Spore) : (d.setSpore x).spore = x := rfl
@[simp] theorem Dev.setSpore_boot (x : Spore) : (d.setSpore x).boot = d.boot := rfl
@[simp] theorem Dev.setSpore_time (x : Spore) : (d.setSpore x).time = d.time := rfl
@[simp] theorem Dev.setSpore_isles (x : Spore) : (d.setSpore x).isles = d.isles := rfl
@[simp] theorem Dev.setSpore_resetting (x : Spore) : (d.setSpore x).resetting = d.resetting := rfl
@[simp] theorem Dev.setSpore_sw (x : Spore) : (d.setSpore x).sw = d.sw := rfl
@[simp] theorem Dev.setSpore_obs (x : Spore) : (d.setSpore x).obs = d.obs := rfl
@[simp] theorem Dev.setSpore_look (x : Spore) : (d.setSpore x).look = d.look := rfl
@[simp] theorem Dev.setSpore_flow (x : Spore) : (d.setSpore x).flow = d.flow := rfl
@[simp] theorem Dev.setSpore_eng (x : Spore) : (d.setSpore x).eng = d.eng := rfl
@[simp] theorem Dev.setSpore_units (x : Spore) : (d.setSpore x).units = d.units := rfl
@[simp] theorem Dev.setSpore_tandem (x : Spore) : (d.setSpore x).tandem = d.tandem := rfl
@[simp] theorem Dev.setSpore_mem (x : Spore) : (d.setSpore x).mem = d.mem := rfl
@[simp] theorem Dev.setSpore_host (x : Spore) : (d.setSpore x).host = d.host := rfl

/-! ### setBoot -/

@[simp] theorem Dev.setBoot_clk (x : Boot) : (d.setBoot x).clk = d.clk := rfl
@[simp] theorem Dev.setBoot_otp (x : Boot) : (d.setBoot x).otp = d.otp := rfl
@[simp] theorem Dev.setBoot_draws (x : Boot) : (d.setBoot x).draws = d.draws := rfl
@[simp] theorem Dev.setBoot_frees (x : Boot) : (d.setBoot x).frees = d.frees := rfl
@[simp] theorem Dev.setBoot_regs (x : Boot) : (d.setBoot x).regs = d.regs := rfl
@[simp] theorem Dev.setBoot_shadow (x : Boot) : (d.setBoot x).shadow = d.shadow := rfl
@[simp] theorem Dev.setBoot_dirty (x : Boot) : (d.setBoot x).dirty = d.dirty := rfl
@[simp] theorem Dev.setBoot_prev (x : Boot) : (d.setBoot x).prev = d.prev := rfl
@[simp] theorem Dev.setBoot_cgen (x : Boot) : (d.setBoot x).cgen = d.cgen := rfl
@[simp] theorem Dev.setBoot_commit (x : Boot) : (d.setBoot x).commit = d.commit := rfl
@[simp] theorem Dev.setBoot_pause (x : Boot) : (d.setBoot x).pause = d.pause := rfl
@[simp] theorem Dev.setBoot_evq (x : Boot) : (d.setBoot x).evq = d.evq := rfl
@[simp] theorem Dev.setBoot_out (x : Boot) : (d.setBoot x).out = d.out := rfl
@[simp] theorem Dev.setBoot_hostMem (x : Boot) : (d.setBoot x).hostMem = d.hostMem := rfl
@[simp] theorem Dev.setBoot_flash (x : Boot) : (d.setBoot x).flash = d.flash := rfl
@[simp] theorem Dev.setBoot_sup (x : Boot) : (d.setBoot x).sup = d.sup := rfl
@[simp] theorem Dev.setBoot_spore (x : Boot) : (d.setBoot x).spore = d.spore := rfl
@[simp] theorem Dev.setBoot_boot (x : Boot) : (d.setBoot x).boot = x := rfl
@[simp] theorem Dev.setBoot_time (x : Boot) : (d.setBoot x).time = d.time := rfl
@[simp] theorem Dev.setBoot_isles (x : Boot) : (d.setBoot x).isles = d.isles := rfl
@[simp] theorem Dev.setBoot_resetting (x : Boot) : (d.setBoot x).resetting = d.resetting := rfl
@[simp] theorem Dev.setBoot_sw (x : Boot) : (d.setBoot x).sw = d.sw := rfl
@[simp] theorem Dev.setBoot_obs (x : Boot) : (d.setBoot x).obs = d.obs := rfl
@[simp] theorem Dev.setBoot_look (x : Boot) : (d.setBoot x).look = d.look := rfl
@[simp] theorem Dev.setBoot_flow (x : Boot) : (d.setBoot x).flow = d.flow := rfl
@[simp] theorem Dev.setBoot_eng (x : Boot) : (d.setBoot x).eng = d.eng := rfl
@[simp] theorem Dev.setBoot_units (x : Boot) : (d.setBoot x).units = d.units := rfl
@[simp] theorem Dev.setBoot_tandem (x : Boot) : (d.setBoot x).tandem = d.tandem := rfl
@[simp] theorem Dev.setBoot_mem (x : Boot) : (d.setBoot x).mem = d.mem := rfl
@[simp] theorem Dev.setBoot_host (x : Boot) : (d.setBoot x).host = d.host := rfl

/-! ### setFlow -/

@[simp] theorem Dev.setFlow_clk (x : FlowSt) : (d.setFlow x).clk = d.clk := rfl
@[simp] theorem Dev.setFlow_otp (x : FlowSt) : (d.setFlow x).otp = d.otp := rfl
@[simp] theorem Dev.setFlow_draws (x : FlowSt) : (d.setFlow x).draws = d.draws := rfl
@[simp] theorem Dev.setFlow_frees (x : FlowSt) : (d.setFlow x).frees = d.frees := rfl
@[simp] theorem Dev.setFlow_regs (x : FlowSt) : (d.setFlow x).regs = d.regs := rfl
@[simp] theorem Dev.setFlow_shadow (x : FlowSt) : (d.setFlow x).shadow = d.shadow := rfl
@[simp] theorem Dev.setFlow_dirty (x : FlowSt) : (d.setFlow x).dirty = d.dirty := rfl
@[simp] theorem Dev.setFlow_prev (x : FlowSt) : (d.setFlow x).prev = d.prev := rfl
@[simp] theorem Dev.setFlow_cgen (x : FlowSt) : (d.setFlow x).cgen = d.cgen := rfl
@[simp] theorem Dev.setFlow_commit (x : FlowSt) : (d.setFlow x).commit = d.commit := rfl
@[simp] theorem Dev.setFlow_pause (x : FlowSt) : (d.setFlow x).pause = d.pause := rfl
@[simp] theorem Dev.setFlow_evq (x : FlowSt) : (d.setFlow x).evq = d.evq := rfl
@[simp] theorem Dev.setFlow_out (x : FlowSt) : (d.setFlow x).out = d.out := rfl
@[simp] theorem Dev.setFlow_hostMem (x : FlowSt) : (d.setFlow x).hostMem = d.hostMem := rfl
@[simp] theorem Dev.setFlow_flash (x : FlowSt) : (d.setFlow x).flash = d.flash := rfl
@[simp] theorem Dev.setFlow_sup (x : FlowSt) : (d.setFlow x).sup = d.sup := rfl
@[simp] theorem Dev.setFlow_spore (x : FlowSt) : (d.setFlow x).spore = d.spore := rfl
@[simp] theorem Dev.setFlow_boot (x : FlowSt) : (d.setFlow x).boot = d.boot := rfl
@[simp] theorem Dev.setFlow_time (x : FlowSt) : (d.setFlow x).time = d.time := rfl
@[simp] theorem Dev.setFlow_isles (x : FlowSt) : (d.setFlow x).isles = d.isles := rfl
@[simp] theorem Dev.setFlow_resetting (x : FlowSt) : (d.setFlow x).resetting = d.resetting := rfl
@[simp] theorem Dev.setFlow_sw (x : FlowSt) : (d.setFlow x).sw = d.sw := rfl
@[simp] theorem Dev.setFlow_obs (x : FlowSt) : (d.setFlow x).obs = d.obs := rfl
@[simp] theorem Dev.setFlow_look (x : FlowSt) : (d.setFlow x).look = d.look := rfl
@[simp] theorem Dev.setFlow_flow (x : FlowSt) : (d.setFlow x).flow = x := rfl
@[simp] theorem Dev.setFlow_eng (x : FlowSt) : (d.setFlow x).eng = d.eng := rfl
@[simp] theorem Dev.setFlow_units (x : FlowSt) : (d.setFlow x).units = d.units := rfl
@[simp] theorem Dev.setFlow_tandem (x : FlowSt) : (d.setFlow x).tandem = d.tandem := rfl
@[simp] theorem Dev.setFlow_mem (x : FlowSt) : (d.setFlow x).mem = d.mem := rfl
@[simp] theorem Dev.setFlow_host (x : FlowSt) : (d.setFlow x).host = d.host := rfl

/-! ### setMem -/

@[simp] theorem Dev.setMem_clk (x : MemSt) : (d.setMem x).clk = d.clk := rfl
@[simp] theorem Dev.setMem_otp (x : MemSt) : (d.setMem x).otp = d.otp := rfl
@[simp] theorem Dev.setMem_draws (x : MemSt) : (d.setMem x).draws = d.draws := rfl
@[simp] theorem Dev.setMem_frees (x : MemSt) : (d.setMem x).frees = d.frees := rfl
@[simp] theorem Dev.setMem_regs (x : MemSt) : (d.setMem x).regs = d.regs := rfl
@[simp] theorem Dev.setMem_shadow (x : MemSt) : (d.setMem x).shadow = d.shadow := rfl
@[simp] theorem Dev.setMem_dirty (x : MemSt) : (d.setMem x).dirty = d.dirty := rfl
@[simp] theorem Dev.setMem_prev (x : MemSt) : (d.setMem x).prev = d.prev := rfl
@[simp] theorem Dev.setMem_cgen (x : MemSt) : (d.setMem x).cgen = d.cgen := rfl
@[simp] theorem Dev.setMem_commit (x : MemSt) : (d.setMem x).commit = d.commit := rfl
@[simp] theorem Dev.setMem_pause (x : MemSt) : (d.setMem x).pause = d.pause := rfl
@[simp] theorem Dev.setMem_evq (x : MemSt) : (d.setMem x).evq = d.evq := rfl
@[simp] theorem Dev.setMem_out (x : MemSt) : (d.setMem x).out = d.out := rfl
@[simp] theorem Dev.setMem_hostMem (x : MemSt) : (d.setMem x).hostMem = d.hostMem := rfl
@[simp] theorem Dev.setMem_flash (x : MemSt) : (d.setMem x).flash = d.flash := rfl
@[simp] theorem Dev.setMem_sup (x : MemSt) : (d.setMem x).sup = d.sup := rfl
@[simp] theorem Dev.setMem_spore (x : MemSt) : (d.setMem x).spore = d.spore := rfl
@[simp] theorem Dev.setMem_boot (x : MemSt) : (d.setMem x).boot = d.boot := rfl
@[simp] theorem Dev.setMem_time (x : MemSt) : (d.setMem x).time = d.time := rfl
@[simp] theorem Dev.setMem_isles (x : MemSt) : (d.setMem x).isles = d.isles := rfl
@[simp] theorem Dev.setMem_resetting (x : MemSt) : (d.setMem x).resetting = d.resetting := rfl
@[simp] theorem Dev.setMem_sw (x : MemSt) : (d.setMem x).sw = d.sw := rfl
@[simp] theorem Dev.setMem_obs (x : MemSt) : (d.setMem x).obs = d.obs := rfl
@[simp] theorem Dev.setMem_look (x : MemSt) : (d.setMem x).look = d.look := rfl
@[simp] theorem Dev.setMem_flow (x : MemSt) : (d.setMem x).flow = d.flow := rfl
@[simp] theorem Dev.setMem_eng (x : MemSt) : (d.setMem x).eng = d.eng := rfl
@[simp] theorem Dev.setMem_units (x : MemSt) : (d.setMem x).units = d.units := rfl
@[simp] theorem Dev.setMem_tandem (x : MemSt) : (d.setMem x).tandem = d.tandem := rfl
@[simp] theorem Dev.setMem_mem (x : MemSt) : (d.setMem x).mem = x := rfl
@[simp] theorem Dev.setMem_host (x : MemSt) : (d.setMem x).host = d.host := rfl

/-! ### setHostSt -/

@[simp] theorem Dev.setHostSt_clk (x : HostSt) : (d.setHostSt x).clk = d.clk := rfl
@[simp] theorem Dev.setHostSt_otp (x : HostSt) : (d.setHostSt x).otp = d.otp := rfl
@[simp] theorem Dev.setHostSt_draws (x : HostSt) : (d.setHostSt x).draws = d.draws := rfl
@[simp] theorem Dev.setHostSt_frees (x : HostSt) : (d.setHostSt x).frees = d.frees := rfl
@[simp] theorem Dev.setHostSt_regs (x : HostSt) : (d.setHostSt x).regs = d.regs := rfl
@[simp] theorem Dev.setHostSt_shadow (x : HostSt) : (d.setHostSt x).shadow = d.shadow := rfl
@[simp] theorem Dev.setHostSt_dirty (x : HostSt) : (d.setHostSt x).dirty = d.dirty := rfl
@[simp] theorem Dev.setHostSt_prev (x : HostSt) : (d.setHostSt x).prev = d.prev := rfl
@[simp] theorem Dev.setHostSt_cgen (x : HostSt) : (d.setHostSt x).cgen = d.cgen := rfl
@[simp] theorem Dev.setHostSt_commit (x : HostSt) : (d.setHostSt x).commit = d.commit := rfl
@[simp] theorem Dev.setHostSt_pause (x : HostSt) : (d.setHostSt x).pause = d.pause := rfl
@[simp] theorem Dev.setHostSt_evq (x : HostSt) : (d.setHostSt x).evq = d.evq := rfl
@[simp] theorem Dev.setHostSt_out (x : HostSt) : (d.setHostSt x).out = d.out := rfl
@[simp] theorem Dev.setHostSt_hostMem (x : HostSt) : (d.setHostSt x).hostMem = d.hostMem := rfl
@[simp] theorem Dev.setHostSt_flash (x : HostSt) : (d.setHostSt x).flash = d.flash := rfl
@[simp] theorem Dev.setHostSt_sup (x : HostSt) : (d.setHostSt x).sup = d.sup := rfl
@[simp] theorem Dev.setHostSt_spore (x : HostSt) : (d.setHostSt x).spore = d.spore := rfl
@[simp] theorem Dev.setHostSt_boot (x : HostSt) : (d.setHostSt x).boot = d.boot := rfl
@[simp] theorem Dev.setHostSt_time (x : HostSt) : (d.setHostSt x).time = d.time := rfl
@[simp] theorem Dev.setHostSt_isles (x : HostSt) : (d.setHostSt x).isles = d.isles := rfl
@[simp] theorem Dev.setHostSt_resetting (x : HostSt) : (d.setHostSt x).resetting = d.resetting := rfl
@[simp] theorem Dev.setHostSt_sw (x : HostSt) : (d.setHostSt x).sw = d.sw := rfl
@[simp] theorem Dev.setHostSt_obs (x : HostSt) : (d.setHostSt x).obs = d.obs := rfl
@[simp] theorem Dev.setHostSt_look (x : HostSt) : (d.setHostSt x).look = d.look := rfl
@[simp] theorem Dev.setHostSt_flow (x : HostSt) : (d.setHostSt x).flow = d.flow := rfl
@[simp] theorem Dev.setHostSt_eng (x : HostSt) : (d.setHostSt x).eng = d.eng := rfl
@[simp] theorem Dev.setHostSt_units (x : HostSt) : (d.setHostSt x).units = d.units := rfl
@[simp] theorem Dev.setHostSt_tandem (x : HostSt) : (d.setHostSt x).tandem = d.tandem := rfl
@[simp] theorem Dev.setHostSt_mem (x : HostSt) : (d.setHostSt x).mem = d.mem := rfl
@[simp] theorem Dev.setHostSt_host (x : HostSt) : (d.setHostSt x).host = x := rfl

/-! ### setTandem -/

@[simp] theorem Dev.setTandem_clk (x : TandemSt) : (d.setTandem x).clk = d.clk := rfl
@[simp] theorem Dev.setTandem_otp (x : TandemSt) : (d.setTandem x).otp = d.otp := rfl
@[simp] theorem Dev.setTandem_draws (x : TandemSt) : (d.setTandem x).draws = d.draws := rfl
@[simp] theorem Dev.setTandem_frees (x : TandemSt) : (d.setTandem x).frees = d.frees := rfl
@[simp] theorem Dev.setTandem_regs (x : TandemSt) : (d.setTandem x).regs = d.regs := rfl
@[simp] theorem Dev.setTandem_shadow (x : TandemSt) : (d.setTandem x).shadow = d.shadow := rfl
@[simp] theorem Dev.setTandem_dirty (x : TandemSt) : (d.setTandem x).dirty = d.dirty := rfl
@[simp] theorem Dev.setTandem_prev (x : TandemSt) : (d.setTandem x).prev = d.prev := rfl
@[simp] theorem Dev.setTandem_cgen (x : TandemSt) : (d.setTandem x).cgen = d.cgen := rfl
@[simp] theorem Dev.setTandem_commit (x : TandemSt) : (d.setTandem x).commit = d.commit := rfl
@[simp] theorem Dev.setTandem_pause (x : TandemSt) : (d.setTandem x).pause = d.pause := rfl
@[simp] theorem Dev.setTandem_evq (x : TandemSt) : (d.setTandem x).evq = d.evq := rfl
@[simp] theorem Dev.setTandem_out (x : TandemSt) : (d.setTandem x).out = d.out := rfl
@[simp] theorem Dev.setTandem_hostMem (x : TandemSt) : (d.setTandem x).hostMem = d.hostMem := rfl
@[simp] theorem Dev.setTandem_flash (x : TandemSt) : (d.setTandem x).flash = d.flash := rfl
@[simp] theorem Dev.setTandem_sup (x : TandemSt) : (d.setTandem x).sup = d.sup := rfl
@[simp] theorem Dev.setTandem_spore (x : TandemSt) : (d.setTandem x).spore = d.spore := rfl
@[simp] theorem Dev.setTandem_boot (x : TandemSt) : (d.setTandem x).boot = d.boot := rfl
@[simp] theorem Dev.setTandem_time (x : TandemSt) : (d.setTandem x).time = d.time := rfl
@[simp] theorem Dev.setTandem_isles (x : TandemSt) : (d.setTandem x).isles = d.isles := rfl
@[simp] theorem Dev.setTandem_resetting (x : TandemSt) : (d.setTandem x).resetting = d.resetting := rfl
@[simp] theorem Dev.setTandem_sw (x : TandemSt) : (d.setTandem x).sw = d.sw := rfl
@[simp] theorem Dev.setTandem_obs (x : TandemSt) : (d.setTandem x).obs = d.obs := rfl
@[simp] theorem Dev.setTandem_look (x : TandemSt) : (d.setTandem x).look = d.look := rfl
@[simp] theorem Dev.setTandem_flow (x : TandemSt) : (d.setTandem x).flow = d.flow := rfl
@[simp] theorem Dev.setTandem_eng (x : TandemSt) : (d.setTandem x).eng = d.eng := rfl
@[simp] theorem Dev.setTandem_units (x : TandemSt) : (d.setTandem x).units = d.units := rfl
@[simp] theorem Dev.setTandem_tandem (x : TandemSt) : (d.setTandem x).tandem = x := rfl
@[simp] theorem Dev.setTandem_mem (x : TandemSt) : (d.setTandem x).mem = d.mem := rfl
@[simp] theorem Dev.setTandem_host (x : TandemSt) : (d.setTandem x).host = d.host := rfl

/-! ### setUnits -/

@[simp] theorem Dev.setUnits_clk (x : Units) : (d.setUnits x).clk = d.clk := rfl
@[simp] theorem Dev.setUnits_otp (x : Units) : (d.setUnits x).otp = d.otp := rfl
@[simp] theorem Dev.setUnits_draws (x : Units) : (d.setUnits x).draws = d.draws := rfl
@[simp] theorem Dev.setUnits_frees (x : Units) : (d.setUnits x).frees = d.frees := rfl
@[simp] theorem Dev.setUnits_regs (x : Units) : (d.setUnits x).regs = d.regs := rfl
@[simp] theorem Dev.setUnits_shadow (x : Units) : (d.setUnits x).shadow = d.shadow := rfl
@[simp] theorem Dev.setUnits_dirty (x : Units) : (d.setUnits x).dirty = d.dirty := rfl
@[simp] theorem Dev.setUnits_prev (x : Units) : (d.setUnits x).prev = d.prev := rfl
@[simp] theorem Dev.setUnits_cgen (x : Units) : (d.setUnits x).cgen = d.cgen := rfl
@[simp] theorem Dev.setUnits_commit (x : Units) : (d.setUnits x).commit = d.commit := rfl
@[simp] theorem Dev.setUnits_pause (x : Units) : (d.setUnits x).pause = d.pause := rfl
@[simp] theorem Dev.setUnits_evq (x : Units) : (d.setUnits x).evq = d.evq := rfl
@[simp] theorem Dev.setUnits_out (x : Units) : (d.setUnits x).out = d.out := rfl
@[simp] theorem Dev.setUnits_hostMem (x : Units) : (d.setUnits x).hostMem = d.hostMem := rfl
@[simp] theorem Dev.setUnits_flash (x : Units) : (d.setUnits x).flash = d.flash := rfl
@[simp] theorem Dev.setUnits_sup (x : Units) : (d.setUnits x).sup = d.sup := rfl
@[simp] theorem Dev.setUnits_spore (x : Units) : (d.setUnits x).spore = d.spore := rfl
@[simp] theorem Dev.setUnits_boot (x : Units) : (d.setUnits x).boot = d.boot := rfl
@[simp] theorem Dev.setUnits_time (x : Units) : (d.setUnits x).time = d.time := rfl
@[simp] theorem Dev.setUnits_isles (x : Units) : (d.setUnits x).isles = d.isles := rfl
@[simp] theorem Dev.setUnits_resetting (x : Units) : (d.setUnits x).resetting = d.resetting := rfl
@[simp] theorem Dev.setUnits_sw (x : Units) : (d.setUnits x).sw = d.sw := rfl
@[simp] theorem Dev.setUnits_obs (x : Units) : (d.setUnits x).obs = d.obs := rfl
@[simp] theorem Dev.setUnits_look (x : Units) : (d.setUnits x).look = d.look := rfl
@[simp] theorem Dev.setUnits_flow (x : Units) : (d.setUnits x).flow = d.flow := rfl
@[simp] theorem Dev.setUnits_eng (x : Units) : (d.setUnits x).eng = d.eng := rfl
@[simp] theorem Dev.setUnits_units (x : Units) : (d.setUnits x).units = x := rfl
@[simp] theorem Dev.setUnits_tandem (x : Units) : (d.setUnits x).tandem = d.tandem := rfl
@[simp] theorem Dev.setUnits_mem (x : Units) : (d.setUnits x).mem = d.mem := rfl
@[simp] theorem Dev.setUnits_host (x : Units) : (d.setUnits x).host = d.host := rfl

/-! ### setIsle -/

@[simp] theorem Dev.setIsle_clk (i : Nat) (x : Isle) : (d.setIsle i x).clk = d.clk := rfl
@[simp] theorem Dev.setIsle_otp (i : Nat) (x : Isle) : (d.setIsle i x).otp = d.otp := rfl
@[simp] theorem Dev.setIsle_draws (i : Nat) (x : Isle) : (d.setIsle i x).draws = d.draws := rfl
@[simp] theorem Dev.setIsle_frees (i : Nat) (x : Isle) : (d.setIsle i x).frees = d.frees := rfl
@[simp] theorem Dev.setIsle_regs (i : Nat) (x : Isle) : (d.setIsle i x).regs = d.regs := rfl
@[simp] theorem Dev.setIsle_shadow (i : Nat) (x : Isle) : (d.setIsle i x).shadow = d.shadow := rfl
@[simp] theorem Dev.setIsle_dirty (i : Nat) (x : Isle) : (d.setIsle i x).dirty = d.dirty := rfl
@[simp] theorem Dev.setIsle_prev (i : Nat) (x : Isle) : (d.setIsle i x).prev = d.prev := rfl
@[simp] theorem Dev.setIsle_cgen (i : Nat) (x : Isle) : (d.setIsle i x).cgen = d.cgen := rfl
@[simp] theorem Dev.setIsle_commit (i : Nat) (x : Isle) : (d.setIsle i x).commit = d.commit := rfl
@[simp] theorem Dev.setIsle_pause (i : Nat) (x : Isle) : (d.setIsle i x).pause = d.pause := rfl
@[simp] theorem Dev.setIsle_evq (i : Nat) (x : Isle) : (d.setIsle i x).evq = d.evq := rfl
@[simp] theorem Dev.setIsle_out (i : Nat) (x : Isle) : (d.setIsle i x).out = d.out := rfl
@[simp] theorem Dev.setIsle_hostMem (i : Nat) (x : Isle) : (d.setIsle i x).hostMem = d.hostMem := rfl
@[simp] theorem Dev.setIsle_flash (i : Nat) (x : Isle) : (d.setIsle i x).flash = d.flash := rfl
@[simp] theorem Dev.setIsle_sup (i : Nat) (x : Isle) : (d.setIsle i x).sup = d.sup := rfl
@[simp] theorem Dev.setIsle_spore (i : Nat) (x : Isle) : (d.setIsle i x).spore = d.spore := rfl
@[simp] theorem Dev.setIsle_boot (i : Nat) (x : Isle) : (d.setIsle i x).boot = d.boot := rfl
@[simp] theorem Dev.setIsle_time (i : Nat) (x : Isle) : (d.setIsle i x).time = d.time := rfl
@[simp] theorem Dev.setIsle_resetting (i : Nat) (x : Isle) : (d.setIsle i x).resetting = d.resetting := rfl
@[simp] theorem Dev.setIsle_sw (i : Nat) (x : Isle) : (d.setIsle i x).sw = d.sw := rfl
@[simp] theorem Dev.setIsle_obs (i : Nat) (x : Isle) : (d.setIsle i x).obs = d.obs := rfl
@[simp] theorem Dev.setIsle_look (i : Nat) (x : Isle) : (d.setIsle i x).look = d.look := rfl
@[simp] theorem Dev.setIsle_flow (i : Nat) (x : Isle) : (d.setIsle i x).flow = d.flow := rfl
@[simp] theorem Dev.setIsle_eng (i : Nat) (x : Isle) : (d.setIsle i x).eng = d.eng := rfl
@[simp] theorem Dev.setIsle_units (i : Nat) (x : Isle) : (d.setIsle i x).units = d.units := rfl
@[simp] theorem Dev.setIsle_tandem (i : Nat) (x : Isle) : (d.setIsle i x).tandem = d.tandem := rfl
@[simp] theorem Dev.setIsle_mem (i : Nat) (x : Isle) : (d.setIsle i x).mem = d.mem := rfl
@[simp] theorem Dev.setIsle_host (i : Nat) (x : Isle) : (d.setIsle i x).host = d.host := rfl

/-! ### setPort -/

@[simp] theorem Dev.setPort_clk (p : Nat) (x : PortSt) : (d.setPort p x).clk = d.clk := rfl
@[simp] theorem Dev.setPort_otp (p : Nat) (x : PortSt) : (d.setPort p x).otp = d.otp := rfl
@[simp] theorem Dev.setPort_draws (p : Nat) (x : PortSt) : (d.setPort p x).draws = d.draws := rfl
@[simp] theorem Dev.setPort_frees (p : Nat) (x : PortSt) : (d.setPort p x).frees = d.frees := rfl
@[simp] theorem Dev.setPort_regs (p : Nat) (x : PortSt) : (d.setPort p x).regs = d.regs := rfl
@[simp] theorem Dev.setPort_shadow (p : Nat) (x : PortSt) : (d.setPort p x).shadow = d.shadow := rfl
@[simp] theorem Dev.setPort_dirty (p : Nat) (x : PortSt) : (d.setPort p x).dirty = d.dirty := rfl
@[simp] theorem Dev.setPort_prev (p : Nat) (x : PortSt) : (d.setPort p x).prev = d.prev := rfl
@[simp] theorem Dev.setPort_cgen (p : Nat) (x : PortSt) : (d.setPort p x).cgen = d.cgen := rfl
@[simp] theorem Dev.setPort_commit (p : Nat) (x : PortSt) : (d.setPort p x).commit = d.commit := rfl
@[simp] theorem Dev.setPort_pause (p : Nat) (x : PortSt) : (d.setPort p x).pause = d.pause := rfl
@[simp] theorem Dev.setPort_evq (p : Nat) (x : PortSt) : (d.setPort p x).evq = d.evq := rfl
@[simp] theorem Dev.setPort_out (p : Nat) (x : PortSt) : (d.setPort p x).out = d.out := rfl
@[simp] theorem Dev.setPort_hostMem (p : Nat) (x : PortSt) : (d.setPort p x).hostMem = d.hostMem := rfl
@[simp] theorem Dev.setPort_flash (p : Nat) (x : PortSt) : (d.setPort p x).flash = d.flash := rfl
@[simp] theorem Dev.setPort_sup (p : Nat) (x : PortSt) : (d.setPort p x).sup = d.sup := rfl
@[simp] theorem Dev.setPort_spore (p : Nat) (x : PortSt) : (d.setPort p x).spore = d.spore := rfl
@[simp] theorem Dev.setPort_boot (p : Nat) (x : PortSt) : (d.setPort p x).boot = d.boot := rfl
@[simp] theorem Dev.setPort_time (p : Nat) (x : PortSt) : (d.setPort p x).time = d.time := rfl
@[simp] theorem Dev.setPort_isles (p : Nat) (x : PortSt) : (d.setPort p x).isles = d.isles := rfl
@[simp] theorem Dev.setPort_resetting (p : Nat) (x : PortSt) : (d.setPort p x).resetting = d.resetting := rfl
@[simp] theorem Dev.setPort_obs (p : Nat) (x : PortSt) : (d.setPort p x).obs = d.obs := rfl
@[simp] theorem Dev.setPort_look (p : Nat) (x : PortSt) : (d.setPort p x).look = d.look := rfl
@[simp] theorem Dev.setPort_flow (p : Nat) (x : PortSt) : (d.setPort p x).flow = d.flow := rfl
@[simp] theorem Dev.setPort_eng (p : Nat) (x : PortSt) : (d.setPort p x).eng = d.eng := rfl
@[simp] theorem Dev.setPort_units (p : Nat) (x : PortSt) : (d.setPort p x).units = d.units := rfl
@[simp] theorem Dev.setPort_tandem (p : Nat) (x : PortSt) : (d.setPort p x).tandem = d.tandem := rfl
@[simp] theorem Dev.setPort_mem (p : Nat) (x : PortSt) : (d.setPort p x).mem = d.mem := rfl
@[simp] theorem Dev.setPort_host (p : Nat) (x : PortSt) : (d.setPort p x).host = d.host := rfl

/-! ### setFrame -/

@[simp] theorem Dev.setFrame_clk (k : Nat) (f : Frame) : (d.setFrame k f).clk = d.clk := rfl
@[simp] theorem Dev.setFrame_otp (k : Nat) (f : Frame) : (d.setFrame k f).otp = d.otp := rfl
@[simp] theorem Dev.setFrame_draws (k : Nat) (f : Frame) : (d.setFrame k f).draws = d.draws := rfl
@[simp] theorem Dev.setFrame_frees (k : Nat) (f : Frame) : (d.setFrame k f).frees = d.frees := rfl
@[simp] theorem Dev.setFrame_regs (k : Nat) (f : Frame) : (d.setFrame k f).regs = d.regs := rfl
@[simp] theorem Dev.setFrame_shadow (k : Nat) (f : Frame) : (d.setFrame k f).shadow = d.shadow := rfl
@[simp] theorem Dev.setFrame_dirty (k : Nat) (f : Frame) : (d.setFrame k f).dirty = d.dirty := rfl
@[simp] theorem Dev.setFrame_prev (k : Nat) (f : Frame) : (d.setFrame k f).prev = d.prev := rfl
@[simp] theorem Dev.setFrame_cgen (k : Nat) (f : Frame) : (d.setFrame k f).cgen = d.cgen := rfl
@[simp] theorem Dev.setFrame_commit (k : Nat) (f : Frame) : (d.setFrame k f).commit = d.commit := rfl
@[simp] theorem Dev.setFrame_pause (k : Nat) (f : Frame) : (d.setFrame k f).pause = d.pause := rfl
@[simp] theorem Dev.setFrame_evq (k : Nat) (f : Frame) : (d.setFrame k f).evq = d.evq := rfl
@[simp] theorem Dev.setFrame_out (k : Nat) (f : Frame) : (d.setFrame k f).out = d.out := rfl
@[simp] theorem Dev.setFrame_hostMem (k : Nat) (f : Frame) : (d.setFrame k f).hostMem = d.hostMem := rfl
@[simp] theorem Dev.setFrame_flash (k : Nat) (f : Frame) : (d.setFrame k f).flash = d.flash := rfl
@[simp] theorem Dev.setFrame_sup (k : Nat) (f : Frame) : (d.setFrame k f).sup = d.sup := rfl
@[simp] theorem Dev.setFrame_spore (k : Nat) (f : Frame) : (d.setFrame k f).spore = d.spore := rfl
@[simp] theorem Dev.setFrame_boot (k : Nat) (f : Frame) : (d.setFrame k f).boot = d.boot := rfl
@[simp] theorem Dev.setFrame_time (k : Nat) (f : Frame) : (d.setFrame k f).time = d.time := rfl
@[simp] theorem Dev.setFrame_isles (k : Nat) (f : Frame) : (d.setFrame k f).isles = d.isles := rfl
@[simp] theorem Dev.setFrame_resetting (k : Nat) (f : Frame) : (d.setFrame k f).resetting = d.resetting := rfl
@[simp] theorem Dev.setFrame_obs (k : Nat) (f : Frame) : (d.setFrame k f).obs = d.obs := rfl
@[simp] theorem Dev.setFrame_look (k : Nat) (f : Frame) : (d.setFrame k f).look = d.look := rfl
@[simp] theorem Dev.setFrame_flow (k : Nat) (f : Frame) : (d.setFrame k f).flow = d.flow := rfl
@[simp] theorem Dev.setFrame_eng (k : Nat) (f : Frame) : (d.setFrame k f).eng = d.eng := rfl
@[simp] theorem Dev.setFrame_units (k : Nat) (f : Frame) : (d.setFrame k f).units = d.units := rfl
@[simp] theorem Dev.setFrame_tandem (k : Nat) (f : Frame) : (d.setFrame k f).tandem = d.tandem := rfl
@[simp] theorem Dev.setFrame_mem (k : Nat) (f : Frame) : (d.setFrame k f).mem = d.mem := rfl
@[simp] theorem Dev.setFrame_host (k : Nat) (f : Frame) : (d.setFrame k f).host = d.host := rfl

/-! ### setLink -/

@[simp] theorem Dev.setLink_clk (p i : Nat) (l : Link) : (d.setLink p i l).clk = d.clk := rfl
@[simp] theorem Dev.setLink_otp (p i : Nat) (l : Link) : (d.setLink p i l).otp = d.otp := rfl
@[simp] theorem Dev.setLink_draws (p i : Nat) (l : Link) : (d.setLink p i l).draws = d.draws := rfl
@[simp] theorem Dev.setLink_frees (p i : Nat) (l : Link) : (d.setLink p i l).frees = d.frees := rfl
@[simp] theorem Dev.setLink_regs (p i : Nat) (l : Link) : (d.setLink p i l).regs = d.regs := rfl
@[simp] theorem Dev.setLink_shadow (p i : Nat) (l : Link) : (d.setLink p i l).shadow = d.shadow := rfl
@[simp] theorem Dev.setLink_dirty (p i : Nat) (l : Link) : (d.setLink p i l).dirty = d.dirty := rfl
@[simp] theorem Dev.setLink_prev (p i : Nat) (l : Link) : (d.setLink p i l).prev = d.prev := rfl
@[simp] theorem Dev.setLink_cgen (p i : Nat) (l : Link) : (d.setLink p i l).cgen = d.cgen := rfl
@[simp] theorem Dev.setLink_commit (p i : Nat) (l : Link) : (d.setLink p i l).commit = d.commit := rfl
@[simp] theorem Dev.setLink_pause (p i : Nat) (l : Link) : (d.setLink p i l).pause = d.pause := rfl
@[simp] theorem Dev.setLink_evq (p i : Nat) (l : Link) : (d.setLink p i l).evq = d.evq := rfl
@[simp] theorem Dev.setLink_out (p i : Nat) (l : Link) : (d.setLink p i l).out = d.out := rfl
@[simp] theorem Dev.setLink_hostMem (p i : Nat) (l : Link) : (d.setLink p i l).hostMem = d.hostMem := rfl
@[simp] theorem Dev.setLink_flash (p i : Nat) (l : Link) : (d.setLink p i l).flash = d.flash := rfl
@[simp] theorem Dev.setLink_sup (p i : Nat) (l : Link) : (d.setLink p i l).sup = d.sup := rfl
@[simp] theorem Dev.setLink_spore (p i : Nat) (l : Link) : (d.setLink p i l).spore = d.spore := rfl
@[simp] theorem Dev.setLink_boot (p i : Nat) (l : Link) : (d.setLink p i l).boot = d.boot := rfl
@[simp] theorem Dev.setLink_time (p i : Nat) (l : Link) : (d.setLink p i l).time = d.time := rfl
@[simp] theorem Dev.setLink_isles (p i : Nat) (l : Link) : (d.setLink p i l).isles = d.isles := rfl
@[simp] theorem Dev.setLink_resetting (p i : Nat) (l : Link) : (d.setLink p i l).resetting = d.resetting := rfl
@[simp] theorem Dev.setLink_obs (p i : Nat) (l : Link) : (d.setLink p i l).obs = d.obs := rfl
@[simp] theorem Dev.setLink_look (p i : Nat) (l : Link) : (d.setLink p i l).look = d.look := rfl
@[simp] theorem Dev.setLink_flow (p i : Nat) (l : Link) : (d.setLink p i l).flow = d.flow := rfl
@[simp] theorem Dev.setLink_eng (p i : Nat) (l : Link) : (d.setLink p i l).eng = d.eng := rfl
@[simp] theorem Dev.setLink_units (p i : Nat) (l : Link) : (d.setLink p i l).units = d.units := rfl
@[simp] theorem Dev.setLink_tandem (p i : Nat) (l : Link) : (d.setLink p i l).tandem = d.tandem := rfl
@[simp] theorem Dev.setLink_mem (p i : Nat) (l : Link) : (d.setLink p i l).mem = d.mem := rfl
@[simp] theorem Dev.setLink_host (p i : Nat) (l : Link) : (d.setLink p i l).host = d.host := rfl

/-! ### setPri -/

@[simp] theorem Dev.setPri_clk (r p : Nat) (x : Pri) : (d.setPri r p x).clk = d.clk := rfl
@[simp] theorem Dev.setPri_otp (r p : Nat) (x : Pri) : (d.setPri r p x).otp = d.otp := rfl
@[simp] theorem Dev.setPri_draws (r p : Nat) (x : Pri) : (d.setPri r p x).draws = d.draws := rfl
@[simp] theorem Dev.setPri_frees (r p : Nat) (x : Pri) : (d.setPri r p x).frees = d.frees := rfl
@[simp] theorem Dev.setPri_regs (r p : Nat) (x : Pri) : (d.setPri r p x).regs = d.regs := rfl
@[simp] theorem Dev.setPri_shadow (r p : Nat) (x : Pri) : (d.setPri r p x).shadow = d.shadow := rfl
@[simp] theorem Dev.setPri_dirty (r p : Nat) (x : Pri) : (d.setPri r p x).dirty = d.dirty := rfl
@[simp] theorem Dev.setPri_prev (r p : Nat) (x : Pri) : (d.setPri r p x).prev = d.prev := rfl
@[simp] theorem Dev.setPri_cgen (r p : Nat) (x : Pri) : (d.setPri r p x).cgen = d.cgen := rfl
@[simp] theorem Dev.setPri_commit (r p : Nat) (x : Pri) : (d.setPri r p x).commit = d.commit := rfl
@[simp] theorem Dev.setPri_pause (r p : Nat) (x : Pri) : (d.setPri r p x).pause = d.pause := rfl
@[simp] theorem Dev.setPri_evq (r p : Nat) (x : Pri) : (d.setPri r p x).evq = d.evq := rfl
@[simp] theorem Dev.setPri_out (r p : Nat) (x : Pri) : (d.setPri r p x).out = d.out := rfl
@[simp] theorem Dev.setPri_hostMem (r p : Nat) (x : Pri) : (d.setPri r p x).hostMem = d.hostMem := rfl
@[simp] theorem Dev.setPri_flash (r p : Nat) (x : Pri) : (d.setPri r p x).flash = d.flash := rfl
@[simp] theorem Dev.setPri_sup (r p : Nat) (x : Pri) : (d.setPri r p x).sup = d.sup := rfl
@[simp] theorem Dev.setPri_spore (r p : Nat) (x : Pri) : (d.setPri r p x).spore = d.spore := rfl
@[simp] theorem Dev.setPri_boot (r p : Nat) (x : Pri) : (d.setPri r p x).boot = d.boot := rfl
@[simp] theorem Dev.setPri_time (r p : Nat) (x : Pri) : (d.setPri r p x).time = d.time := rfl
@[simp] theorem Dev.setPri_isles (r p : Nat) (x : Pri) : (d.setPri r p x).isles = d.isles := rfl
@[simp] theorem Dev.setPri_resetting (r p : Nat) (x : Pri) : (d.setPri r p x).resetting = d.resetting := rfl
@[simp] theorem Dev.setPri_obs (r p : Nat) (x : Pri) : (d.setPri r p x).obs = d.obs := rfl
@[simp] theorem Dev.setPri_look (r p : Nat) (x : Pri) : (d.setPri r p x).look = d.look := rfl
@[simp] theorem Dev.setPri_flow (r p : Nat) (x : Pri) : (d.setPri r p x).flow = d.flow := rfl
@[simp] theorem Dev.setPri_eng (r p : Nat) (x : Pri) : (d.setPri r p x).eng = d.eng := rfl
@[simp] theorem Dev.setPri_units (r p : Nat) (x : Pri) : (d.setPri r p x).units = d.units := rfl
@[simp] theorem Dev.setPri_tandem (r p : Nat) (x : Pri) : (d.setPri r p x).tandem = d.tandem := rfl
@[simp] theorem Dev.setPri_mem (r p : Nat) (x : Pri) : (d.setPri r p x).mem = d.mem := rfl
@[simp] theorem Dev.setPri_host (r p : Nat) (x : Pri) : (d.setPri r p x).host = d.host := rfl

/-! ### setHost -/

@[simp] theorem Dev.setHost_clk (i e : Nat) : (d.setHost i e).clk = d.clk := rfl
@[simp] theorem Dev.setHost_otp (i e : Nat) : (d.setHost i e).otp = d.otp := rfl
@[simp] theorem Dev.setHost_draws (i e : Nat) : (d.setHost i e).draws = d.draws := rfl
@[simp] theorem Dev.setHost_frees (i e : Nat) : (d.setHost i e).frees = d.frees := rfl
@[simp] theorem Dev.setHost_regs (i e : Nat) : (d.setHost i e).regs = d.regs := rfl
@[simp] theorem Dev.setHost_shadow (i e : Nat) : (d.setHost i e).shadow = d.shadow := rfl
@[simp] theorem Dev.setHost_dirty (i e : Nat) : (d.setHost i e).dirty = d.dirty := rfl
@[simp] theorem Dev.setHost_prev (i e : Nat) : (d.setHost i e).prev = d.prev := rfl
@[simp] theorem Dev.setHost_cgen (i e : Nat) : (d.setHost i e).cgen = d.cgen := rfl
@[simp] theorem Dev.setHost_commit (i e : Nat) : (d.setHost i e).commit = d.commit := rfl
@[simp] theorem Dev.setHost_pause (i e : Nat) : (d.setHost i e).pause = d.pause := rfl
@[simp] theorem Dev.setHost_evq (i e : Nat) : (d.setHost i e).evq = d.evq := rfl
@[simp] theorem Dev.setHost_out (i e : Nat) : (d.setHost i e).out = d.out := rfl
@[simp] theorem Dev.setHost_hostMem (i e : Nat) : (d.setHost i e).hostMem = d.hostMem := rfl
@[simp] theorem Dev.setHost_flash (i e : Nat) : (d.setHost i e).flash = d.flash := rfl
@[simp] theorem Dev.setHost_sup (i e : Nat) : (d.setHost i e).sup = d.sup := rfl
@[simp] theorem Dev.setHost_spore (i e : Nat) : (d.setHost i e).spore = d.spore := rfl
@[simp] theorem Dev.setHost_boot (i e : Nat) : (d.setHost i e).boot = d.boot := rfl
@[simp] theorem Dev.setHost_time (i e : Nat) : (d.setHost i e).time = d.time := rfl
@[simp] theorem Dev.setHost_isles (i e : Nat) : (d.setHost i e).isles = d.isles := rfl
@[simp] theorem Dev.setHost_resetting (i e : Nat) : (d.setHost i e).resetting = d.resetting := rfl
@[simp] theorem Dev.setHost_sw (i e : Nat) : (d.setHost i e).sw = d.sw := rfl
@[simp] theorem Dev.setHost_obs (i e : Nat) : (d.setHost i e).obs = d.obs := rfl
@[simp] theorem Dev.setHost_flow (i e : Nat) : (d.setHost i e).flow = d.flow := rfl
@[simp] theorem Dev.setHost_eng (i e : Nat) : (d.setHost i e).eng = d.eng := rfl
@[simp] theorem Dev.setHost_units (i e : Nat) : (d.setHost i e).units = d.units := rfl
@[simp] theorem Dev.setHost_tandem (i e : Nat) : (d.setHost i e).tandem = d.tandem := rfl
@[simp] theorem Dev.setHost_mem (i e : Nat) : (d.setHost i e).mem = d.mem := rfl
@[simp] theorem Dev.setHost_host (i e : Nat) : (d.setHost i e).host = d.host := rfl

/-! ### setTask -/

@[simp] theorem Dev.setTask_clk (c i : Nat) (t : Option Task) : (d.setTask c i t).clk = d.clk := rfl
@[simp] theorem Dev.setTask_otp (c i : Nat) (t : Option Task) : (d.setTask c i t).otp = d.otp := rfl
@[simp] theorem Dev.setTask_draws (c i : Nat) (t : Option Task) : (d.setTask c i t).draws = d.draws := rfl
@[simp] theorem Dev.setTask_frees (c i : Nat) (t : Option Task) : (d.setTask c i t).frees = d.frees := rfl
@[simp] theorem Dev.setTask_regs (c i : Nat) (t : Option Task) : (d.setTask c i t).regs = d.regs := rfl
@[simp] theorem Dev.setTask_shadow (c i : Nat) (t : Option Task) : (d.setTask c i t).shadow = d.shadow := rfl
@[simp] theorem Dev.setTask_dirty (c i : Nat) (t : Option Task) : (d.setTask c i t).dirty = d.dirty := rfl
@[simp] theorem Dev.setTask_prev (c i : Nat) (t : Option Task) : (d.setTask c i t).prev = d.prev := rfl
@[simp] theorem Dev.setTask_cgen (c i : Nat) (t : Option Task) : (d.setTask c i t).cgen = d.cgen := rfl
@[simp] theorem Dev.setTask_commit (c i : Nat) (t : Option Task) : (d.setTask c i t).commit = d.commit := rfl
@[simp] theorem Dev.setTask_pause (c i : Nat) (t : Option Task) : (d.setTask c i t).pause = d.pause := rfl
@[simp] theorem Dev.setTask_evq (c i : Nat) (t : Option Task) : (d.setTask c i t).evq = d.evq := rfl
@[simp] theorem Dev.setTask_out (c i : Nat) (t : Option Task) : (d.setTask c i t).out = d.out := rfl
@[simp] theorem Dev.setTask_hostMem (c i : Nat) (t : Option Task) : (d.setTask c i t).hostMem = d.hostMem := rfl
@[simp] theorem Dev.setTask_flash (c i : Nat) (t : Option Task) : (d.setTask c i t).flash = d.flash := rfl
@[simp] theorem Dev.setTask_sup (c i : Nat) (t : Option Task) : (d.setTask c i t).sup = d.sup := rfl
@[simp] theorem Dev.setTask_spore (c i : Nat) (t : Option Task) : (d.setTask c i t).spore = d.spore := rfl
@[simp] theorem Dev.setTask_boot (c i : Nat) (t : Option Task) : (d.setTask c i t).boot = d.boot := rfl
@[simp] theorem Dev.setTask_time (c i : Nat) (t : Option Task) : (d.setTask c i t).time = d.time := rfl
@[simp] theorem Dev.setTask_isles (c i : Nat) (t : Option Task) : (d.setTask c i t).isles = d.isles := rfl
@[simp] theorem Dev.setTask_resetting (c i : Nat) (t : Option Task) : (d.setTask c i t).resetting = d.resetting := rfl
@[simp] theorem Dev.setTask_sw (c i : Nat) (t : Option Task) : (d.setTask c i t).sw = d.sw := rfl
@[simp] theorem Dev.setTask_obs (c i : Nat) (t : Option Task) : (d.setTask c i t).obs = d.obs := rfl
@[simp] theorem Dev.setTask_look (c i : Nat) (t : Option Task) : (d.setTask c i t).look = d.look := rfl
@[simp] theorem Dev.setTask_flow (c i : Nat) (t : Option Task) : (d.setTask c i t).flow = d.flow := rfl
@[simp] theorem Dev.setTask_units (c i : Nat) (t : Option Task) : (d.setTask c i t).units = d.units := rfl
@[simp] theorem Dev.setTask_tandem (c i : Nat) (t : Option Task) : (d.setTask c i t).tandem = d.tandem := rfl
@[simp] theorem Dev.setTask_mem (c i : Nat) (t : Option Task) : (d.setTask c i t).mem = d.mem := rfl
@[simp] theorem Dev.setTask_host (c i : Nat) (t : Option Task) : (d.setTask c i t).host = d.host := rfl

/-! ### setThread -/

@[simp] theorem Dev.setThread_clk (k : Nat) (t : Thread) : (d.setThread k t).clk = d.clk := rfl
@[simp] theorem Dev.setThread_otp (k : Nat) (t : Thread) : (d.setThread k t).otp = d.otp := rfl
@[simp] theorem Dev.setThread_draws (k : Nat) (t : Thread) : (d.setThread k t).draws = d.draws := rfl
@[simp] theorem Dev.setThread_frees (k : Nat) (t : Thread) : (d.setThread k t).frees = d.frees := rfl
@[simp] theorem Dev.setThread_regs (k : Nat) (t : Thread) : (d.setThread k t).regs = d.regs := rfl
@[simp] theorem Dev.setThread_shadow (k : Nat) (t : Thread) : (d.setThread k t).shadow = d.shadow := rfl
@[simp] theorem Dev.setThread_dirty (k : Nat) (t : Thread) : (d.setThread k t).dirty = d.dirty := rfl
@[simp] theorem Dev.setThread_prev (k : Nat) (t : Thread) : (d.setThread k t).prev = d.prev := rfl
@[simp] theorem Dev.setThread_cgen (k : Nat) (t : Thread) : (d.setThread k t).cgen = d.cgen := rfl
@[simp] theorem Dev.setThread_commit (k : Nat) (t : Thread) : (d.setThread k t).commit = d.commit := rfl
@[simp] theorem Dev.setThread_pause (k : Nat) (t : Thread) : (d.setThread k t).pause = d.pause := rfl
@[simp] theorem Dev.setThread_evq (k : Nat) (t : Thread) : (d.setThread k t).evq = d.evq := rfl
@[simp] theorem Dev.setThread_out (k : Nat) (t : Thread) : (d.setThread k t).out = d.out := rfl
@[simp] theorem Dev.setThread_hostMem (k : Nat) (t : Thread) : (d.setThread k t).hostMem = d.hostMem := rfl
@[simp] theorem Dev.setThread_flash (k : Nat) (t : Thread) : (d.setThread k t).flash = d.flash := rfl
@[simp] theorem Dev.setThread_sup (k : Nat) (t : Thread) : (d.setThread k t).sup = d.sup := rfl
@[simp] theorem Dev.setThread_spore (k : Nat) (t : Thread) : (d.setThread k t).spore = d.spore := rfl
@[simp] theorem Dev.setThread_boot (k : Nat) (t : Thread) : (d.setThread k t).boot = d.boot := rfl
@[simp] theorem Dev.setThread_time (k : Nat) (t : Thread) : (d.setThread k t).time = d.time := rfl
@[simp] theorem Dev.setThread_isles (k : Nat) (t : Thread) : (d.setThread k t).isles = d.isles := rfl
@[simp] theorem Dev.setThread_resetting (k : Nat) (t : Thread) : (d.setThread k t).resetting = d.resetting := rfl
@[simp] theorem Dev.setThread_sw (k : Nat) (t : Thread) : (d.setThread k t).sw = d.sw := rfl
@[simp] theorem Dev.setThread_obs (k : Nat) (t : Thread) : (d.setThread k t).obs = d.obs := rfl
@[simp] theorem Dev.setThread_look (k : Nat) (t : Thread) : (d.setThread k t).look = d.look := rfl
@[simp] theorem Dev.setThread_flow (k : Nat) (t : Thread) : (d.setThread k t).flow = d.flow := rfl
@[simp] theorem Dev.setThread_units (k : Nat) (t : Thread) : (d.setThread k t).units = d.units := rfl
@[simp] theorem Dev.setThread_tandem (k : Nat) (t : Thread) : (d.setThread k t).tandem = d.tandem := rfl
@[simp] theorem Dev.setThread_mem (k : Nat) (t : Thread) : (d.setThread k t).mem = d.mem := rfl
@[simp] theorem Dev.setThread_host (k : Nat) (t : Thread) : (d.setThread k t).host = d.host := rfl

/-! ### setUnit -/

@[simp] theorem Dev.setUnit_clk (p i u : Nat) : (d.setUnit p i u).clk = d.clk := rfl
@[simp] theorem Dev.setUnit_otp (p i u : Nat) : (d.setUnit p i u).otp = d.otp := rfl
@[simp] theorem Dev.setUnit_draws (p i u : Nat) : (d.setUnit p i u).draws = d.draws := rfl
@[simp] theorem Dev.setUnit_frees (p i u : Nat) : (d.setUnit p i u).frees = d.frees := rfl
@[simp] theorem Dev.setUnit_regs (p i u : Nat) : (d.setUnit p i u).regs = d.regs := rfl
@[simp] theorem Dev.setUnit_shadow (p i u : Nat) : (d.setUnit p i u).shadow = d.shadow := rfl
@[simp] theorem Dev.setUnit_dirty (p i u : Nat) : (d.setUnit p i u).dirty = d.dirty := rfl
@[simp] theorem Dev.setUnit_prev (p i u : Nat) : (d.setUnit p i u).prev = d.prev := rfl
@[simp] theorem Dev.setUnit_cgen (p i u : Nat) : (d.setUnit p i u).cgen = d.cgen := rfl
@[simp] theorem Dev.setUnit_commit (p i u : Nat) : (d.setUnit p i u).commit = d.commit := rfl
@[simp] theorem Dev.setUnit_pause (p i u : Nat) : (d.setUnit p i u).pause = d.pause := rfl
@[simp] theorem Dev.setUnit_evq (p i u : Nat) : (d.setUnit p i u).evq = d.evq := rfl
@[simp] theorem Dev.setUnit_out (p i u : Nat) : (d.setUnit p i u).out = d.out := rfl
@[simp] theorem Dev.setUnit_hostMem (p i u : Nat) : (d.setUnit p i u).hostMem = d.hostMem := rfl
@[simp] theorem Dev.setUnit_flash (p i u : Nat) : (d.setUnit p i u).flash = d.flash := rfl
@[simp] theorem Dev.setUnit_sup (p i u : Nat) : (d.setUnit p i u).sup = d.sup := rfl
@[simp] theorem Dev.setUnit_spore (p i u : Nat) : (d.setUnit p i u).spore = d.spore := rfl
@[simp] theorem Dev.setUnit_boot (p i u : Nat) : (d.setUnit p i u).boot = d.boot := rfl
@[simp] theorem Dev.setUnit_time (p i u : Nat) : (d.setUnit p i u).time = d.time := rfl
@[simp] theorem Dev.setUnit_isles (p i u : Nat) : (d.setUnit p i u).isles = d.isles := rfl
@[simp] theorem Dev.setUnit_resetting (p i u : Nat) : (d.setUnit p i u).resetting = d.resetting := rfl
@[simp] theorem Dev.setUnit_sw (p i u : Nat) : (d.setUnit p i u).sw = d.sw := rfl
@[simp] theorem Dev.setUnit_obs (p i u : Nat) : (d.setUnit p i u).obs = d.obs := rfl
@[simp] theorem Dev.setUnit_flow (p i u : Nat) : (d.setUnit p i u).flow = d.flow := rfl
@[simp] theorem Dev.setUnit_eng (p i u : Nat) : (d.setUnit p i u).eng = d.eng := rfl
@[simp] theorem Dev.setUnit_units (p i u : Nat) : (d.setUnit p i u).units = d.units := rfl
@[simp] theorem Dev.setUnit_tandem (p i u : Nat) : (d.setUnit p i u).tandem = d.tandem := rfl
@[simp] theorem Dev.setUnit_mem (p i u : Nat) : (d.setUnit p i u).mem = d.mem := rfl
@[simp] theorem Dev.setUnit_host (p i u : Nat) : (d.setUnit p i u).host = d.host := rfl

/-! ### flashWrite -/

@[simp] theorem Dev.flashWrite_clk (a : Nat) (bs : List Byte) : (d.flashWrite a bs).clk = d.clk := rfl
@[simp] theorem Dev.flashWrite_otp (a : Nat) (bs : List Byte) : (d.flashWrite a bs).otp = d.otp := rfl
@[simp] theorem Dev.flashWrite_draws (a : Nat) (bs : List Byte) : (d.flashWrite a bs).draws = d.draws := rfl
@[simp] theorem Dev.flashWrite_frees (a : Nat) (bs : List Byte) : (d.flashWrite a bs).frees = d.frees := rfl
@[simp] theorem Dev.flashWrite_regs (a : Nat) (bs : List Byte) : (d.flashWrite a bs).regs = d.regs := rfl
@[simp] theorem Dev.flashWrite_shadow (a : Nat) (bs : List Byte) : (d.flashWrite a bs).shadow = d.shadow := rfl
@[simp] theorem Dev.flashWrite_dirty (a : Nat) (bs : List Byte) : (d.flashWrite a bs).dirty = d.dirty := rfl
@[simp] theorem Dev.flashWrite_prev (a : Nat) (bs : List Byte) : (d.flashWrite a bs).prev = d.prev := rfl
@[simp] theorem Dev.flashWrite_cgen (a : Nat) (bs : List Byte) : (d.flashWrite a bs).cgen = d.cgen := rfl
@[simp] theorem Dev.flashWrite_commit (a : Nat) (bs : List Byte) : (d.flashWrite a bs).commit = d.commit := rfl
@[simp] theorem Dev.flashWrite_pause (a : Nat) (bs : List Byte) : (d.flashWrite a bs).pause = d.pause := rfl
@[simp] theorem Dev.flashWrite_evq (a : Nat) (bs : List Byte) : (d.flashWrite a bs).evq = d.evq := rfl
@[simp] theorem Dev.flashWrite_out (a : Nat) (bs : List Byte) : (d.flashWrite a bs).out = d.out := rfl
@[simp] theorem Dev.flashWrite_hostMem (a : Nat) (bs : List Byte) : (d.flashWrite a bs).hostMem = d.hostMem := rfl
@[simp] theorem Dev.flashWrite_sup (a : Nat) (bs : List Byte) : (d.flashWrite a bs).sup = d.sup := rfl
@[simp] theorem Dev.flashWrite_spore (a : Nat) (bs : List Byte) : (d.flashWrite a bs).spore = d.spore := rfl
@[simp] theorem Dev.flashWrite_boot (a : Nat) (bs : List Byte) : (d.flashWrite a bs).boot = d.boot := rfl
@[simp] theorem Dev.flashWrite_time (a : Nat) (bs : List Byte) : (d.flashWrite a bs).time = d.time := rfl
@[simp] theorem Dev.flashWrite_isles (a : Nat) (bs : List Byte) : (d.flashWrite a bs).isles = d.isles := rfl
@[simp] theorem Dev.flashWrite_resetting (a : Nat) (bs : List Byte) : (d.flashWrite a bs).resetting = d.resetting := rfl
@[simp] theorem Dev.flashWrite_sw (a : Nat) (bs : List Byte) : (d.flashWrite a bs).sw = d.sw := rfl
@[simp] theorem Dev.flashWrite_obs (a : Nat) (bs : List Byte) : (d.flashWrite a bs).obs = d.obs := rfl
@[simp] theorem Dev.flashWrite_look (a : Nat) (bs : List Byte) : (d.flashWrite a bs).look = d.look := rfl
@[simp] theorem Dev.flashWrite_flow (a : Nat) (bs : List Byte) : (d.flashWrite a bs).flow = d.flow := rfl
@[simp] theorem Dev.flashWrite_eng (a : Nat) (bs : List Byte) : (d.flashWrite a bs).eng = d.eng := rfl
@[simp] theorem Dev.flashWrite_units (a : Nat) (bs : List Byte) : (d.flashWrite a bs).units = d.units := rfl
@[simp] theorem Dev.flashWrite_tandem (a : Nat) (bs : List Byte) : (d.flashWrite a bs).tandem = d.tandem := rfl
@[simp] theorem Dev.flashWrite_mem (a : Nat) (bs : List Byte) : (d.flashWrite a bs).mem = d.mem := rfl
@[simp] theorem Dev.flashWrite_host (a : Nat) (bs : List Byte) : (d.flashWrite a bs).host = d.host := rfl

/-! ### dmaWrite -/

@[simp] theorem Dev.dmaWrite_clk (a : Nat) (bs : List Byte) : (d.dmaWrite a bs).clk = d.clk := rfl
@[simp] theorem Dev.dmaWrite_otp (a : Nat) (bs : List Byte) : (d.dmaWrite a bs).otp = d.otp := rfl
@[simp] theorem Dev.dmaWrite_draws (a : Nat) (bs : List Byte) : (d.dmaWrite a bs).draws = d.draws := rfl
@[simp] theorem Dev.dmaWrite_frees (a : Nat) (bs : List Byte) : (d.dmaWrite a bs).frees = d.frees := rfl
@[simp] theorem Dev.dmaWrite_regs (a : Nat) (bs : List Byte) : (d.dmaWrite a bs).regs = d.regs := rfl
@[simp] theorem Dev.dmaWrite_shadow (a : Nat) (bs : List Byte) : (d.dmaWrite a bs).shadow = d.shadow := rfl
@[simp] theorem Dev.dmaWrite_dirty (a : Nat) (bs : List Byte) : (d.dmaWrite a bs).dirty = d.dirty := rfl
@[simp] theorem Dev.dmaWrite_prev (a : Nat) (bs : List Byte) : (d.dmaWrite a bs).prev = d.prev := rfl
@[simp] theorem Dev.dmaWrite_cgen (a : Nat) (bs : List Byte) : (d.dmaWrite a bs).cgen = d.cgen := rfl
@[simp] theorem Dev.dmaWrite_commit (a : Nat) (bs : List Byte) : (d.dmaWrite a bs).commit = d.commit := rfl
@[simp] theorem Dev.dmaWrite_pause (a : Nat) (bs : List Byte) : (d.dmaWrite a bs).pause = d.pause := rfl
@[simp] theorem Dev.dmaWrite_evq (a : Nat) (bs : List Byte) : (d.dmaWrite a bs).evq = d.evq := rfl
@[simp] theorem Dev.dmaWrite_out (a : Nat) (bs : List Byte) : (d.dmaWrite a bs).out = d.out := rfl
@[simp] theorem Dev.dmaWrite_flash (a : Nat) (bs : List Byte) : (d.dmaWrite a bs).flash = d.flash := rfl
@[simp] theorem Dev.dmaWrite_sup (a : Nat) (bs : List Byte) : (d.dmaWrite a bs).sup = d.sup := rfl
@[simp] theorem Dev.dmaWrite_spore (a : Nat) (bs : List Byte) : (d.dmaWrite a bs).spore = d.spore := rfl
@[simp] theorem Dev.dmaWrite_boot (a : Nat) (bs : List Byte) : (d.dmaWrite a bs).boot = d.boot := rfl
@[simp] theorem Dev.dmaWrite_time (a : Nat) (bs : List Byte) : (d.dmaWrite a bs).time = d.time := rfl
@[simp] theorem Dev.dmaWrite_isles (a : Nat) (bs : List Byte) : (d.dmaWrite a bs).isles = d.isles := rfl
@[simp] theorem Dev.dmaWrite_resetting (a : Nat) (bs : List Byte) : (d.dmaWrite a bs).resetting = d.resetting := rfl
@[simp] theorem Dev.dmaWrite_sw (a : Nat) (bs : List Byte) : (d.dmaWrite a bs).sw = d.sw := rfl
@[simp] theorem Dev.dmaWrite_obs (a : Nat) (bs : List Byte) : (d.dmaWrite a bs).obs = d.obs := rfl
@[simp] theorem Dev.dmaWrite_look (a : Nat) (bs : List Byte) : (d.dmaWrite a bs).look = d.look := rfl
@[simp] theorem Dev.dmaWrite_flow (a : Nat) (bs : List Byte) : (d.dmaWrite a bs).flow = d.flow := rfl
@[simp] theorem Dev.dmaWrite_eng (a : Nat) (bs : List Byte) : (d.dmaWrite a bs).eng = d.eng := rfl
@[simp] theorem Dev.dmaWrite_units (a : Nat) (bs : List Byte) : (d.dmaWrite a bs).units = d.units := rfl
@[simp] theorem Dev.dmaWrite_tandem (a : Nat) (bs : List Byte) : (d.dmaWrite a bs).tandem = d.tandem := rfl
@[simp] theorem Dev.dmaWrite_mem (a : Nat) (bs : List Byte) : (d.dmaWrite a bs).mem = d.mem := rfl
@[simp] theorem Dev.dmaWrite_host (a : Nat) (bs : List Byte) : (d.dmaWrite a bs).host = d.host := rfl

end Sys2Proof.Machine
end

