-- ==== Sys2Proof/Laws/Regs.lean ====
section
/-! SUPPORT. Laws of registers and fields: what a read gives after a write, and which writes leave a register alone. -/

namespace Sys2Proof.Machine

/-! ### Keys -/

theorem Reg.key_parts (r : Reg) (p c : Nat) : r.key p c =
    r.page * 536870912 + r.off % 4096 * 131072 + (if r.perPath then p % 2 else 0) * 65536 + (if r.windowed then c % 65536 else 0) := by
  unfold Reg.key
  ring

/-- A key names its page and its offset. -/
theorem Reg.keyOff_key (r : Reg) (p c : Nat) (h : r.off < 4096) : keyOff (r.key p c) = r.off := by
  rw [Reg.key_parts]
  unfold keyOff
  have : (if r.perPath then p % 2 else 0) < 2 := by split <;> omega
  have : (if r.windowed then c % 65536 else 0) < 65536 := by split <;> omega
  omega

theorem Reg.keyPage_key (r : Reg) (p c : Nat) : keyPage (r.key p c) = r.page := by
  rw [Reg.key_parts]
  unfold keyPage
  have : (if r.perPath then p % 2 else 0) < 2 := by split <;> omega
  have : (if r.windowed then c % 65536 else 0) < 65536 := by split <;> omega
  omega

/-- Registers at different offsets have different keys, whatever their channels. -/
theorem Reg.key_ne_off (r q : Reg) (p c p' c' : Nat) (hr : r.off < 4096) (hq : q.off < 4096) (h : r.off ≠ q.off) :
    r.key p c ≠ q.key p' c' := fun e => h (by rw [← Reg.keyOff_key r p c hr, e, Reg.keyOff_key q p' c' hq])

/-- Registers of different pages have different keys. -/
theorem Reg.key_ne_page (r q : Reg) (p c p' c' : Nat) (h : r.page ≠ q.page) :
    r.key p c ≠ q.key p' c' := fun e => h (by rw [← Reg.keyPage_key r p c, e, Reg.keyPage_key q p' c'])

/-- Two channels of one windowed register have different keys. -/
theorem Reg.key_ne_chan (r : Reg) (p c c' : Nat) (hr : r.windowed = true) (hc : c < 65536) (hc' : c' < 65536) (h : c ≠ c') :
    r.key p c ≠ r.key p c' := by
  rw [Reg.key_parts, Reg.key_parts]
  simp only [hr, if_true]
  omega

/-! ### Registers -/

@[simp] theorem Dev.regP_setRegP_same (d : Dev) (r : Reg) (p c : Nat) (v : Word) : (d.setRegP r p c v).regP r p c = v := by
  simp [Dev.regP, Dev.setRegP]

theorem Dev.regP_setRegP_ne (d : Dev) (r q : Reg) (p c p' c' : Nat) (v : Word) (h : r.key p c ≠ q.key p' c') :
    (d.setRegP q p' c' v).regP r p c = d.regP r p c := by
  simp [Dev.regP, Dev.setRegP, SMap.get_set_ne, h]

@[simp] theorem Dev.reg_setReg_same (d : Dev) (r : Reg) (v : Word) (c : Nat) : (d.setReg r v c).reg r c = v := by
  simp [Dev.reg, Dev.setReg]

theorem Dev.reg_setReg_ne (d : Dev) (r q : Reg) (v : Word) (c c' : Nat) (h : r.key 0 c ≠ q.key 0 c') :
    (d.setReg q v c').reg r c = d.reg r c := Dev.regP_setRegP_ne _ _ _ _ _ _ _ _ h

@[simp] theorem Dev.num_setNum_same (d : Dev) (r : Reg) (v c : Nat) : (d.setNum r v c).num r c = v % 2 ^ 32 := by
  simp [Dev.num, Dev.setNum]

theorem Dev.num_setNum_ne (d : Dev) (r q : Reg) (v c c' : Nat) (h : r.key 0 c ≠ q.key 0 c') :
    (d.setNum q v c').num r c = d.num r c := by
  simp [Dev.num, Dev.setNum, Dev.reg_setReg_ne _ _ _ _ _ _ h]

theorem Dev.num_setReg_ne (d : Dev) (r q : Reg) (v : Word) (c c' : Nat) (h : r.key 0 c ≠ q.key 0 c') :
    (d.setReg q v c').num r c = d.num r c := by
  simp [Dev.num, Dev.reg_setReg_ne _ _ _ _ _ _ h]

@[simp] theorem Dev.num_lt (d : Dev) (r : Reg) (c : Nat) : d.num r c < 2 ^ 32 := (d.reg r c).isLt

/-- A write of one register leaves every other key of the register file alone. -/
theorem Dev.regs_setRegP_ne (d : Dev) (r : Reg) (p c : Nat) (v w : Word) (k : Nat) (h : k ≠ r.key p c) :
    (d.setRegP r p c v).regs.get w k = d.regs.get w k := by
  simp [Dev.setRegP, SMap.get_set_ne, h]

/-! ### Bits and fields -/

theorem bitsOf_lt (v lo len : Nat) : bitsOf v lo len < 2 ^ len := Nat.mod_lt _ (Nat.two_pow_pos len)

theorem bitsOf_eq (v lo len : Nat) : bitsOf v lo len = v / 2 ^ lo % 2 ^ len := by
  simp [bitsOf, Nat.shiftRight_eq_div_pow]

theorem setBits_eq (v lo len x : Nat) :
    setBits v lo len x = v / 2 ^ (lo + len) * 2 ^ (lo + len) + x % 2 ^ len * 2 ^ lo + v % 2 ^ lo := by
  simp [setBits, Nat.shiftRight_eq_div_pow, Nat.shiftLeft_eq]

theorem setBits_split (v lo len x : Nat) :
    setBits v lo len x = (v / 2 ^ (lo + len) * 2 ^ len + x % 2 ^ len) * 2 ^ lo + v % 2 ^ lo := by
  rw [setBits_eq, pow_add]
  ring

theorem setBits_div (v lo len x : Nat) : setBits v lo len x / 2 ^ lo = v / 2 ^ (lo + len) * 2 ^ len + x % 2 ^ len := by
  rw [setBits_split, mul_comm, Nat.mul_add_div (Nat.two_pow_pos lo), Nat.div_eq_of_lt (Nat.mod_lt _ (Nat.two_pow_pos lo)), Nat.add_zero]

/-- A field reads as it was set. -/
@[simp] theorem bitsOf_setBits_same (v lo len x : Nat) : bitsOf (setBits v lo len x) lo len = x % 2 ^ len := by
  rw [bitsOf_eq, setBits_div, mul_comm, Nat.mul_add_mod, Nat.mod_mod]

/-- Bits above a field that is set are as they were. -/
theorem setBits_div_above (v lo len x : Nat) : setBits v lo len x / 2 ^ (lo + len) = v / 2 ^ (lo + len) := by
  rw [pow_add, ← Nat.div_div_eq_div_mul, setBits_div, mul_comm _ (2 ^ len), Nat.mul_add_div (Nat.two_pow_pos len),
    Nat.div_eq_of_lt (Nat.mod_lt _ (Nat.two_pow_pos len)), Nat.add_zero, pow_add]

theorem bitsOf_setBits_above (v lo len x lo' len' : Nat) (h : lo + len ≤ lo') :
    bitsOf (setBits v lo len x) lo' len' = bitsOf v lo' len' := by
  obtain ⟨k, rfl⟩ := Nat.exists_eq_add_of_le h
  rw [bitsOf_eq, bitsOf_eq, pow_add, ← Nat.div_div_eq_div_mul, setBits_div_above, Nat.div_div_eq_div_mul]

/-- Bits below a field that is set are as they were. -/
theorem setBits_mod_below (v lo len x : Nat) : setBits v lo len x % 2 ^ lo = v % 2 ^ lo := by
  rw [setBits_split, mul_comm, Nat.mul_add_mod, Nat.mod_mod]

theorem bitsOf_mod (v n lo len : Nat) (h : lo + len ≤ n) : bitsOf (v % 2 ^ n) lo len = bitsOf v lo len := by
  obtain ⟨k, rfl⟩ := Nat.exists_eq_add_of_le h
  rw [bitsOf_eq, bitsOf_eq]
  have e : 2 ^ (lo + len + k) = 2 ^ lo * 2 ^ (len + k) := by rw [← pow_add]; congr 1; omega
  rw [e, Nat.mod_mul_right_div_self, pow_add, Nat.mod_mul_right_mod]

theorem bitsOf_setBits_below (v lo len x lo' len' : Nat) (h : lo' + len' ≤ lo) :
    bitsOf (setBits v lo len x) lo' len' = bitsOf v lo' len' := by
  rw [← bitsOf_mod _ lo _ _ h, setBits_mod_below, bitsOf_mod _ lo _ _ h]

theorem setBits_lt (v lo len x n : Nat) (hv : v < 2 ^ n) (h : lo + len ≤ n) : setBits v lo len x < 2 ^ n := by
  obtain ⟨k, rfl⟩ := Nat.exists_eq_add_of_le h
  have ha : v / 2 ^ (lo + len) < 2 ^ k := by
    rw [Nat.div_lt_iff_lt_mul (Nat.two_pow_pos _), ← pow_add]
    rw [show k + (lo + len) = lo + len + k by omega]
    exact hv
  have hx : x % 2 ^ len < 2 ^ len := Nat.mod_lt _ (Nat.two_pow_pos _)
  have hc : v % 2 ^ lo < 2 ^ lo := Nat.mod_lt _ (Nat.two_pow_pos _)
  rw [setBits_split]
  have h1 : v / 2 ^ (lo + len) * 2 ^ len + x % 2 ^ len < 2 ^ k * 2 ^ len := by nlinarith [Nat.two_pow_pos len]
  have h2 : (v / 2 ^ (lo + len) * 2 ^ len + x % 2 ^ len) * 2 ^ lo + v % 2 ^ lo < 2 ^ k * 2 ^ len * 2 ^ lo := by
    nlinarith [Nat.two_pow_pos lo]
  calc _ < 2 ^ k * 2 ^ len * 2 ^ lo := h2
    _ = 2 ^ (lo + len + k) := by rw [← pow_add, ← pow_add]; congr 1; omega

/-- A field reads as it was set. -/
theorem Dev.fld_setFld_same (d : Dev) (x : Fld) (v c : Nat) (h : x.lo + x.len ≤ 32) : (d.setFld x v c).fld x c = v % 2 ^ x.len := by
  unfold Dev.fld Dev.setFld
  rw [Dev.num_setNum_same, Nat.mod_eq_of_lt (setBits_lt _ _ _ _ _ (Dev.num_lt _ _ _) h), bitsOf_setBits_same]

/-- A field of another register is as it was. -/
theorem Dev.fld_setFld_reg (d : Dev) (x y : Fld) (v c c' : Nat) (h : y.reg.key 0 c' ≠ x.reg.key 0 c) :
    (d.setFld x v c).fld y c' = d.fld y c' := by
  unfold Dev.fld Dev.setFld
  rw [Dev.num_setNum_ne _ _ _ _ _ _ h]

/-- Another field of the same register is as it was. -/
theorem Dev.fld_setFld_field (d : Dev) (x y : Fld) (v c : Nat) (hr : y.reg = x.reg) (h : x.lo + x.len ≤ 32)
    (hd : x.lo + x.len ≤ y.lo ∨ y.lo + y.len ≤ x.lo) : (d.setFld x v c).fld y c = d.fld y c := by
  unfold Dev.fld Dev.setFld
  rw [hr, Dev.num_setNum_same, Nat.mod_eq_of_lt (setBits_lt _ _ _ _ _ (Dev.num_lt _ _ _) h)]
  rcases hd with hd | hd
  · exact bitsOf_setBits_above _ _ _ _ _ _ hd
  · exact bitsOf_setBits_below _ _ _ _ _ _ hd

theorem Dev.fld_setNum_reg (d : Dev) (r : Reg) (y : Fld) (v c c' : Nat) (h : y.reg.key 0 c' ≠ r.key 0 c) :
    (d.setNum r v c).fld y c' = d.fld y c' := by
  unfold Dev.fld
  rw [Dev.num_setNum_ne _ _ _ _ _ _ h]

/-- A field of a register that is set whole. -/
theorem Dev.fld_setNum_same (d : Dev) (y : Fld) (v c : Nat) (h : y.lo + y.len ≤ 32) :
    (d.setNum y.reg v c).fld y c = bitsOf v y.lo y.len := by
  unfold Dev.fld
  rw [Dev.num_setNum_same, bitsOf_mod _ _ _ _ h]

end Sys2Proof.Machine
end

