-- ==== Sys2Proof/Laws/Report.lean ====
section
/-! SUPPORT. What interrupts, event records, performance counters and outputs change of the device: nothing but what reports. -/

namespace Sys2Proof.Machine

/-! ### The relation -/

theorem Dev.reportsOnly_refl (d : Dev) : d.reportsOnly d := ⟨rfl, fun _ _ _ => rfl⟩

theorem Dev.reportsOnly_trans {d e f : Dev} (h : d.reportsOnly e) (g : e.reportsOnly f) : d.reportsOnly f := by
  obtain ⟨h1, h2⟩ := h
  obtain ⟨g1, g2⟩ := g
  refine ⟨?_, fun k w hk => (g2 k w hk).trans (h2 k w hk)⟩
  unfold Dev.onlyReports at *
  rw [g1, h1]

theorem Dev.reportsOnly_foldl {α : Type} (g : Dev → α → Dev) (hg : ∀ x a, Dev.reportsOnly x (g x a)) (l : List α) :
    ∀ d : Dev, d.reportsOnly (l.foldl g d) := by
  induction l with
  | nil => exact Dev.reportsOnly_refl
  | cons a r ih => exact fun d => Dev.reportsOnly_trans (hg d a) (ih _)

theorem Dev.reportsOnly_foldl_of {α : Type} (g : Dev → α → Dev) (q : α → Prop) (hg : ∀ x a, q a → Dev.reportsOnly x (g x a))
    (l : List α) (hl : ∀ a ∈ l, q a) : ∀ d : Dev, d.reportsOnly (l.foldl g d) := by
  induction l with
  | nil => exact Dev.reportsOnly_refl
  | cons a r ih =>
    exact fun d => Dev.reportsOnly_trans (hg d a (hl a (by simp))) (ih (fun b hb => hl b (by simp [hb])) _)

theorem Dev.reportsOnly_ite {d e f : Dev} (c : Prop) [Decidable c] (h : d.reportsOnly e) (g : d.reportsOnly f) :
    d.reportsOnly (if c then e else f) := by split <;> assumption

/-- A write of a register that reports. -/
theorem Dev.reportsOnly_setRegP (d : Dev) (r : Reg) (p c : Nat) (v : Word) (h : reportKey (r.key p c) = true) :
    d.reportsOnly (d.setRegP r p c v) := by
  refine ⟨rfl, fun k w hk => Dev.regs_setRegP_ne d r p c v w k ?_⟩
  rintro rfl
  rw [h] at hk
  cases hk

theorem reportKey_raw (p c pa : Nat) : reportKey ((INT_RAW p).key pa c) = true := by
  unfold reportKey
  rw [Reg.keyOff_key _ _ _ (show (0x010 : Nat) < 4096 by decide)]
  rfl

theorem reportKey_page (r : Reg) (p c : Nat) (h : r.page = 0x60 ∨ r.page = 0x62) :
    reportKey (r.key p c) = true := by
  unfold reportKey
  rw [Reg.keyPage_key _ _ _]
  rcases h with h | h <;> simp [h]

theorem reportKey_pba (i p c : Nat) (h : i < 2) : reportKey ((HOST.MSIX_PBA.ix i).key p c) = true := by
  have : i = 0 ∨ i = 1 := by omega
  unfold reportKey
  rcases this with rfl | rfl <;> (rw [Reg.keyOff_key _ _ _ (by decide), Reg.keyPage_key _ _ _]; rfl)

/-! ### Outputs and interrupts -/

theorem Dev.reportsOnly_emit (d : Dev) (o : Output) : d.reportsOnly (d.emit o) := ⟨rfl, fun _ _ _ => rfl⟩

theorem Dev.reportsOnly_fireVec (d : Dev) (v : Nat) (h : v < 64) : d.reportsOnly (d.fireVec v) := by
  unfold Dev.fireVec
  split
  · exact Dev.reportsOnly_setRegP _ _ _ _ _ (reportKey_pba _ _ _ (by omega))
  · exact Dev.reportsOnly_emit _ _

theorem Dev.fld_lt (d : Dev) (x : Fld) (c : Nat) : d.fld x c < 2 ^ x.len := bitsOf_lt _ _ _

theorem Dev.vecOf_lt (d : Dev) (p v : Nat) (h : d.vecOf p = some v) : v < 64 := by
  unfold Dev.vecOf at h
  split at h
  · obtain rfl := Option.some.inj h
    exact Dev.fld_lt d (TOP.ROUTE_VECTOR.ix p) 0
  · cases h

theorem Dev.eqVec_lt (d : Dev) (q v : Nat) (h : d.eqVec q = some v) : v < 64 := by
  unfold Dev.eqVec at h
  split at h
  · obtain rfl := Option.some.inj h
    exact Dev.fld_lt d (HOST.EQ_VEC_VEC.ix q) 0
  · cases h

theorem Dev.ringVec_lt (d : Dev) (r v : Nat) (h : d.ringVec r = some v) : v < 64 := by
  unfold Dev.ringVec at h
  split at h
  · obtain rfl := Option.some.inj h
    exact Dev.fld_lt d HOST.RING_CFG_VEC r
  · cases h

theorem Dev.vecsOf_lt (d : Dev) (p v : Nat) (h : v ∈ d.vecsOf p) : v < 64 := by
  unfold Dev.vecsOf at h
  rcases List.mem_append.mp h with h | h
  · exact Dev.vecOf_lt d p v (by simpa using h)
  · split at h
    · obtain ⟨q, _, hq⟩ := List.mem_filterMap.mp h
      exact Dev.eqVec_lt d q v hq
    · cases h

theorem Dev.reportsOnly_fire (d e : Dev) (vs : List Nat) (h : ∀ v ∈ vs, v < 64) :
    ∀ x : Dev, x.reportsOnly (vs.foldl (fun x v => if !d.lineUp v && e.lineUp v then x.fireVec v else x) x) := by
  induction vs with
  | nil => exact Dev.reportsOnly_refl
  | cons v r ih =>
    intro x
    refine Dev.reportsOnly_trans ?_ (ih (fun w hw => h w (by simp [hw])) _)
    exact Dev.reportsOnly_ite _ (Dev.reportsOnly_fireVec x v (h v (by simp))) (Dev.reportsOnly_refl x)

/-- A change of interrupt bits reports: itself, and the messages it causes. -/
theorem Dev.watch_reports (d : Dev) (p : Nat) (f : Dev → Dev) : (f d).reportsOnly (d.watch p f) := by
  unfold Dev.watch Dev.watchVecs
  exact Dev.reportsOnly_fire _ _ _ (fun v hv => Dev.vecsOf_lt _ _ v (List.mem_eraseDups.mp hv)) _

theorem Dev.reportsOnly_raiseBits (d : Dev) (p : Nat) (w : Word) : d.reportsOnly (d.raiseBits p w) :=
  Dev.reportsOnly_trans (Dev.reportsOnly_setRegP _ _ _ _ _ (reportKey_raw p 0 0)) (Dev.watch_reports _ _ _)

theorem Dev.reportsOnly_raise (d : Dev) (b : IntBit) : d.reportsOnly (d.raise b) := Dev.reportsOnly_raiseBits _ _ _

/-! ### Counters and events -/

theorem Dev.reportsOnly_obs (d : Dev) (x : Obs) : d.reportsOnly { d with obs := x } := ⟨rfl, fun _ _ _ => rfl⟩
theorem Dev.reportsOnly_evq (d : Dev) (x : SMap EvQueue) : d.reportsOnly { d with evq := x } := ⟨rfl, fun _ _ _ => rfl⟩

theorem Dev.reportsOnly_perfPut (d : Dev) (c v : Nat) : d.reportsOnly (d.perfPut c v) := Dev.reportsOnly_obs d _

theorem Dev.reportsOnly_perfWrap (d : Dev) (c : Nat) : d.reportsOnly (d.perfWrap c) := by
  have h1 : d.reportsOnly (d.setNum (PERF.OVF.ix (c / 32)) (d.num (PERF.OVF.ix (c / 32)) ||| 1 <<< (c % 32))) := by
    refine Dev.reportsOnly_setRegP _ (PERF.OVF.ix (c / 32)) 0 0 _ (reportKey_page _ _ _ (.inl rfl))
  exact Dev.reportsOnly_trans h1 (Dev.reportsOnly_ite _ (Dev.reportsOnly_raise _ _) (Dev.reportsOnly_refl _))

theorem Dev.reportsOnly_settleCount (d : Dev) (c : Nat) : d.reportsOnly (d.settleCount c) := by
  unfold Dev.settleCount
  simp only []
  generalize (Config.perfOpen d.obs.opens).toNat = v
  have h : d.reportsOnly (Dev.perfPut { d with obs := { d.obs with opens := d.obs.opens + 1 } } c (v % 2 ^ 48)) := ⟨rfl, fun _ _ _ => rfl⟩
  exact Dev.reportsOnly_ite _ (Dev.reportsOnly_trans h (Dev.reportsOnly_perfWrap _ c)) h

/-- An island that acts at T_s. -/
theorem Dev.reportsOnly_snapIsland (d : Dev) (i a : Nat) : d.reportsOnly (d.snapIsland i a) := by
  unfold Dev.snapIsland
  simp only []
  exact Dev.reportsOnly_trans (e := (d.obs.vague.filter fun c => d.perfIsland c == i).foldl Dev.settleCount d)
    (Dev.reportsOnly_foldl _ (fun x c => Dev.reportsOnly_settleCount x c) _ _) (Dev.reportsOnly_obs _ _)

theorem Dev.reportsOnly_snapReach (d : Dev) (i : Nat) : d.reportsOnly (d.snapReach i) := by
  unfold Dev.snapReach
  split
  · exact Dev.reportsOnly_ite _ (Dev.reportsOnly_snapIsland d i _) (Dev.reportsOnly_refl d)
  · exact Dev.reportsOnly_refl d

theorem Dev.reportsOnly_perfAdd (m : Nat) : ∀ (d : Dev) (c n : Nat), d.reportsOnly (Dev.perfAdd m d c n) := by
  induction m with
  | zero => intro d c n; exact Dev.reportsOnly_refl d
  | succ m ih =>
    intro d c n
    unfold Dev.perfAdd
    refine Dev.reportsOnly_ite _ (Dev.reportsOnly_perfPut d c _)
      (Dev.reportsOnly_trans (e := (d.perfPut c ((d.obs.perf.get 0 c + n) % 2 ^ 48)).perfWrap c) ?_ ?_)
    · exact Dev.reportsOnly_trans (Dev.reportsOnly_perfPut d c _) (Dev.reportsOnly_perfWrap _ c)
    · exact Dev.reportsOnly_ite _ (ih _ _ _) (Dev.reportsOnly_refl _)

theorem Dev.reportsOnly_perf (d : Dev) (i e n : Nat) : d.reportsOnly (d.perf i e n) := by
  unfold Dev.perf
  exact Dev.reportsOnly_trans (Dev.reportsOnly_snapReach d i)
    (Dev.reportsOnly_ite _ (Dev.reportsOnly_foldl _ (fun x c => Dev.reportsOnly_perfAdd _ x c n) _ _) (Dev.reportsOnly_refl _))

theorem Dev.reportsOnly_bump (d : Dev) (r : Reg) (c n : Nat) (h : r.page = 0x60 ∨ r.page = 0x62) : d.reportsOnly (d.bump r c n) :=
  Dev.reportsOnly_setRegP d r 0 c _ (reportKey_page _ _ _ h)

theorem Dev.reportsOnly_numbered (d : Dev) (i : Nat) : d.reportsOnly (d.numbered i) :=
  Dev.reportsOnly_trans (Dev.reportsOnly_bump d (EVLG.SEQ.ix i) 0 1 (.inr rfl)) (Dev.reportsOnly_perf _ _ _ _)

theorem Dev.reportsOnly_setEvQueue (d : Dev) (q : Nat) (x : EvQueue) : d.reportsOnly (d.setEvQueue q x) := Dev.reportsOnly_evq _ _

theorem Dev.reportsOnly_markLoss (d : Dev) (q n : Nat) : d.reportsOnly (d.markLoss q n) := by
  unfold Dev.markLoss
  simp only []
  split
  · exact Dev.reportsOnly_setEvQueue d q _
  · exact Dev.reportsOnly_trans (Dev.reportsOnly_setEvQueue d q _) (Dev.reportsOnly_numbered _ 32)

theorem Dev.reportsOnly_stage (d : Dev) (q : Nat) (e : Event) : d.reportsOnly (d.stage q e) := by
  unfold Dev.stage
  simp only []
  exact Dev.reportsOnly_ite _ (Dev.reportsOnly_setEvQueue d q _)
    (Dev.reportsOnly_trans (Dev.reportsOnly_markLoss d q 1) (Dev.reportsOnly_bump _ EVLG.Q_LOST q 1 (.inr rfl)))

/-- An event record reports: nothing else changes. -/
theorem Dev.reportsOnly_log (d : Dev) (i c p0 p1 p2 p3 : Nat) : d.reportsOnly (d.log i c p0 p1 p2 p3) := by
  unfold Dev.log Dev.stageAll
  exact Dev.reportsOnly_trans (Dev.reportsOnly_numbered d i) (Dev.reportsOnly_foldl _
    (fun x q => Dev.reportsOnly_ite _ (Dev.reportsOnly_stage x q _) (Dev.reportsOnly_refl x)) _ _)

/-! ### What the relation gives -/

theorem Dev.reportsOnly_regP {d e : Dev} (h : d.reportsOnly e) (r : Reg) (p c : Nat) (hk : reportKey (r.key p c) = false) :
    e.regP r p c = d.regP r p c := h.2 _ _ hk

theorem Dev.reportsOnly_num {d e : Dev} (h : d.reportsOnly e) (r : Reg) (c : Nat) (hk : reportKey (r.key 0 c) = false) :
    e.num r c = d.num r c := by
  unfold Dev.num Dev.reg
  rw [Dev.reportsOnly_regP h r 0 c hk]

theorem Dev.reportsOnly_fld {d e : Dev} (h : d.reportsOnly e) (x : Fld) (c : Nat) (hk : reportKey (x.reg.key 0 c) = false) :
    e.fld x c = d.fld x c := by
  unfold Dev.fld
  rw [Dev.reportsOnly_num h x.reg c hk]

/-- A register of an ordinary page, outside the header, is none of those that report. -/
theorem reportKey_false (r : Reg) (p c : Nat) (ho : r.off < 4096) (h1 : r.off ≠ 0x010) (h2 : r.page ≠ 0x60) (h3 : r.page ≠ 0x62)
    (h4 : r.page ≠ 0x68 ∨ r.off < 0xC00) : reportKey (r.key p c) = false := by
  unfold reportKey
  rw [Reg.keyOff_key _ _ _ ho, Reg.keyPage_key _ _ _]
  rcases h4 with h | h <;> simp [h1, h2, h3, h]

end Sys2Proof.Machine
end

