-- ==== Sys2Proof/Laws/Frames.lean ====
section
/-! SUPPORT. Interrupts, event records and access errors leave every part of the device but registers, event queues, counters and
outputs as it was: one law per part. -/

namespace Sys2Proof.Machine

theorem Dev.onlyReports_raiseBits (d : Dev) (p : Nat) (w : Word) : d.onlyReports (d.raiseBits p w) := (Dev.reportsOnly_raiseBits d p w).1
theorem Dev.onlyReports_raise (d : Dev) (b : IntBit) : d.onlyReports (d.raise b) := (Dev.reportsOnly_raise d b).1
theorem Dev.onlyReports_perf (d : Dev) (i e n : Nat) : d.onlyReports (d.perf i e n) := (Dev.reportsOnly_perf d i e n).1

theorem Dev.onlyReports_log (d : Dev) (i c p0 p1 p2 p3 : Nat) : d.onlyReports (d.log i c p0 p1 p2 p3) :=
  (Dev.reportsOnly_log d i c p0 p1 p2 p3).1

theorem Dev.onlyReports_opEnd (d : Dev) (p s c : Nat) : d.onlyReports (d.opEnd p s c) := Dev.onlyReports_log _ _ _ _ _ _ _

theorem Dev.reportsOnly_opEnd (d : Dev) (p s c : Nat) : d.reportsOnly (d.opEnd p s c) :=
  Dev.reportsOnly_log d 32 _ p s c 0

theorem Dev.onlyReports.clk {d e : Dev} (h : d.onlyReports e) : e.clk = d.clk := by rw [h]
theorem Dev.onlyReports.otp {d e : Dev} (h : d.onlyReports e) : e.otp = d.otp := by rw [h]
theorem Dev.onlyReports.draws {d e : Dev} (h : d.onlyReports e) : e.draws = d.draws := by rw [h]
theorem Dev.onlyReports.frees {d e : Dev} (h : d.onlyReports e) : e.frees = d.frees := by rw [h]
theorem Dev.onlyReports.shadow {d e : Dev} (h : d.onlyReports e) : e.shadow = d.shadow := by rw [h]
theorem Dev.onlyReports.dirty {d e : Dev} (h : d.onlyReports e) : e.dirty = d.dirty := by rw [h]
theorem Dev.onlyReports.prev {d e : Dev} (h : d.onlyReports e) : e.prev = d.prev := by rw [h]
theorem Dev.onlyReports.cgen {d e : Dev} (h : d.onlyReports e) : e.cgen = d.cgen := by rw [h]
theorem Dev.onlyReports.commit {d e : Dev} (h : d.onlyReports e) : e.commit = d.commit := by rw [h]
theorem Dev.onlyReports.pause {d e : Dev} (h : d.onlyReports e) : e.pause = d.pause := by rw [h]
theorem Dev.onlyReports.hostMem {d e : Dev} (h : d.onlyReports e) : e.hostMem = d.hostMem := by rw [h]
theorem Dev.onlyReports.flash {d e : Dev} (h : d.onlyReports e) : e.flash = d.flash := by rw [h]
theorem Dev.onlyReports.sup {d e : Dev} (h : d.onlyReports e) : e.sup = d.sup := by rw [h]
theorem Dev.onlyReports.spore {d e : Dev} (h : d.onlyReports e) : e.spore = d.spore := by rw [h]
theorem Dev.onlyReports.boot {d e : Dev} (h : d.onlyReports e) : e.boot = d.boot := by rw [h]
theorem Dev.onlyReports.time {d e : Dev} (h : d.onlyReports e) : e.time = d.time := by rw [h]
theorem Dev.onlyReports.isles {d e : Dev} (h : d.onlyReports e) : e.isles = d.isles := by rw [h]
theorem Dev.onlyReports.resetting {d e : Dev} (h : d.onlyReports e) : e.resetting = d.resetting := by rw [h]
theorem Dev.onlyReports.sw {d e : Dev} (h : d.onlyReports e) : e.sw = d.sw := by rw [h]
theorem Dev.onlyReports.look {d e : Dev} (h : d.onlyReports e) : e.look = d.look := by rw [h]
theorem Dev.onlyReports.flow {d e : Dev} (h : d.onlyReports e) : e.flow = d.flow := by rw [h]
theorem Dev.onlyReports.eng {d e : Dev} (h : d.onlyReports e) : e.eng = d.eng := by rw [h]
theorem Dev.onlyReports.units {d e : Dev} (h : d.onlyReports e) : e.units = d.units := by rw [h]
theorem Dev.onlyReports.tandem {d e : Dev} (h : d.onlyReports e) : e.tandem = d.tandem := by rw [h]
theorem Dev.onlyReports.mem {d e : Dev} (h : d.onlyReports e) : e.mem = d.mem := by rw [h]
theorem Dev.onlyReports.host {d e : Dev} (h : d.onlyReports e) : e.host = d.host := by rw [h]

variable (d : Dev)

/-! ### raiseBits -/

@[simp] theorem Dev.raiseBits_clk (p : Nat) (w : Word) : (d.raiseBits p w).clk = d.clk := (Dev.onlyReports_raiseBits d p w).clk
@[simp] theorem Dev.raiseBits_otp (p : Nat) (w : Word) : (d.raiseBits p w).otp = d.otp := (Dev.onlyReports_raiseBits d p w).otp
@[simp] theorem Dev.raiseBits_draws (p : Nat) (w : Word) : (d.raiseBits p w).draws = d.draws := (Dev.onlyReports_raiseBits d p w).draws
@[simp] theorem Dev.raiseBits_frees (p : Nat) (w : Word) : (d.raiseBits p w).frees = d.frees := (Dev.onlyReports_raiseBits d p w).frees
@[simp] theorem Dev.raiseBits_shadow (p : Nat) (w : Word) : (d.raiseBits p w).shadow = d.shadow := (Dev.onlyReports_raiseBits d p w).shadow
@[simp] theorem Dev.raiseBits_dirty (p : Nat) (w : Word) : (d.raiseBits p w).dirty = d.dirty := (Dev.onlyReports_raiseBits d p w).dirty
@[simp] theorem Dev.raiseBits_prev (p : Nat) (w : Word) : (d.raiseBits p w).prev = d.prev := (Dev.onlyReports_raiseBits d p w).prev
@[simp] theorem Dev.raiseBits_cgen (p : Nat) (w : Word) : (d.raiseBits p w).cgen = d.cgen := (Dev.onlyReports_raiseBits d p w).cgen
@[simp] theorem Dev.raiseBits_commit (p : Nat) (w : Word) : (d.raiseBits p w).commit = d.commit := (Dev.onlyReports_raiseBits d p w).commit
@[simp] theorem Dev.raiseBits_pause (p : Nat) (w : Word) : (d.raiseBits p w).pause = d.pause := (Dev.onlyReports_raiseBits d p w).pause
@[simp] theorem Dev.raiseBits_hostMem (p : Nat) (w : Word) : (d.raiseBits p w).hostMem = d.hostMem := (Dev.onlyReports_raiseBits d p w).hostMem
@[simp] theorem Dev.raiseBits_flash (p : Nat) (w : Word) : (d.raiseBits p w).flash = d.flash := (Dev.onlyReports_raiseBits d p w).flash
@[simp] theorem Dev.raiseBits_sup (p : Nat) (w : Word) : (d.raiseBits p w).sup = d.sup := (Dev.onlyReports_raiseBits d p w).sup
@[simp] theorem Dev.raiseBits_spore (p : Nat) (w : Word) : (d.raiseBits p w).spore = d.spore := (Dev.onlyReports_raiseBits d p w).spore
@[simp] theorem Dev.raiseBits_boot (p : Nat) (w : Word) : (d.raiseBits p w).boot = d.boot := (Dev.onlyReports_raiseBits d p w).boot
@[simp] theorem Dev.raiseBits_time (p : Nat) (w : Word) : (d.raiseBits p w).time = d.time := (Dev.onlyReports_raiseBits d p w).time
@[simp] theorem Dev.raiseBits_isles (p : Nat) (w : Word) : (d.raiseBits p w).isles = d.isles := (Dev.onlyReports_raiseBits d p w).isles
@[simp] theorem Dev.raiseBits_resetting (p : Nat) (w : Word) : (d.raiseBits p w).resetting = d.resetting := (Dev.onlyReports_raiseBits d p w).resetting
@[simp] theorem Dev.raiseBits_sw (p : Nat) (w : Word) : (d.raiseBits p w).sw = d.sw := (Dev.onlyReports_raiseBits d p w).sw
@[simp] theorem Dev.raiseBits_look (p : Nat) (w : Word) : (d.raiseBits p w).look = d.look := (Dev.onlyReports_raiseBits d p w).look
@[simp] theorem Dev.raiseBits_flow (p : Nat) (w : Word) : (d.raiseBits p w).flow = d.flow := (Dev.onlyReports_raiseBits d p w).flow
@[simp] theorem Dev.raiseBits_eng (p : Nat) (w : Word) : (d.raiseBits p w).eng = d.eng := (Dev.onlyReports_raiseBits d p w).eng
@[simp] theorem Dev.raiseBits_units (p : Nat) (w : Word) : (d.raiseBits p w).units = d.units := (Dev.onlyReports_raiseBits d p w).units
@[simp] theorem Dev.raiseBits_tandem (p : Nat) (w : Word) : (d.raiseBits p w).tandem = d.tandem := (Dev.onlyReports_raiseBits d p w).tandem
@[simp] theorem Dev.raiseBits_mem (p : Nat) (w : Word) : (d.raiseBits p w).mem = d.mem := (Dev.onlyReports_raiseBits d p w).mem
@[simp] theorem Dev.raiseBits_host (p : Nat) (w : Word) : (d.raiseBits p w).host = d.host := (Dev.onlyReports_raiseBits d p w).host

/-! ### raise -/

@[simp] theorem Dev.raise_clk (b : IntBit) : (d.raise b).clk = d.clk := (Dev.onlyReports_raise d b).clk
@[simp] theorem Dev.raise_otp (b : IntBit) : (d.raise b).otp = d.otp := (Dev.onlyReports_raise d b).otp
@[simp] theorem Dev.raise_draws (b : IntBit) : (d.raise b).draws = d.draws := (Dev.onlyReports_raise d b).draws
@[simp] theorem Dev.raise_frees (b : IntBit) : (d.raise b).frees = d.frees := (Dev.onlyReports_raise d b).frees
@[simp] theorem Dev.raise_shadow (b : IntBit) : (d.raise b).shadow = d.shadow := (Dev.onlyReports_raise d b).shadow
@[simp] theorem Dev.raise_dirty (b : IntBit) : (d.raise b).dirty = d.dirty := (Dev.onlyReports_raise d b).dirty
@[simp] theorem Dev.raise_prev (b : IntBit) : (d.raise b).prev = d.prev := (Dev.onlyReports_raise d b).prev
@[simp] theorem Dev.raise_cgen (b : IntBit) : (d.raise b).cgen = d.cgen := (Dev.onlyReports_raise d b).cgen
@[simp] theorem Dev.raise_commit (b : IntBit) : (d.raise b).commit = d.commit := (Dev.onlyReports_raise d b).commit
@[simp] theorem Dev.raise_pause (b : IntBit) : (d.raise b).pause = d.pause := (Dev.onlyReports_raise d b).pause
@[simp] theorem Dev.raise_hostMem (b : IntBit) : (d.raise b).hostMem = d.hostMem := (Dev.onlyReports_raise d b).hostMem
@[simp] theorem Dev.raise_flash (b : IntBit) : (d.raise b).flash = d.flash := (Dev.onlyReports_raise d b).flash
@[simp] theorem Dev.raise_sup (b : IntBit) : (d.raise b).sup = d.sup := (Dev.onlyReports_raise d b).sup
@[simp] theorem Dev.raise_spore (b : IntBit) : (d.raise b).spore = d.spore := (Dev.onlyReports_raise d b).spore
@[simp] theorem Dev.raise_boot (b : IntBit) : (d.raise b).boot = d.boot := (Dev.onlyReports_raise d b).boot
@[simp] theorem Dev.raise_time (b : IntBit) : (d.raise b).time = d.time := (Dev.onlyReports_raise d b).time
@[simp] theorem Dev.raise_isles (b : IntBit) : (d.raise b).isles = d.isles := (Dev.onlyReports_raise d b).isles
@[simp] theorem Dev.raise_resetting (b : IntBit) : (d.raise b).resetting = d.resetting := (Dev.onlyReports_raise d b).resetting
@[simp] theorem Dev.raise_sw (b : IntBit) : (d.raise b).sw = d.sw := (Dev.onlyReports_raise d b).sw
@[simp] theorem Dev.raise_look (b : IntBit) : (d.raise b).look = d.look := (Dev.onlyReports_raise d b).look
@[simp] theorem Dev.raise_flow (b : IntBit) : (d.raise b).flow = d.flow := (Dev.onlyReports_raise d b).flow
@[simp] theorem Dev.raise_eng (b : IntBit) : (d.raise b).eng = d.eng := (Dev.onlyReports_raise d b).eng
@[simp] theorem Dev.raise_units (b : IntBit) : (d.raise b).units = d.units := (Dev.onlyReports_raise d b).units
@[simp] theorem Dev.raise_tandem (b : IntBit) : (d.raise b).tandem = d.tandem := (Dev.onlyReports_raise d b).tandem
@[simp] theorem Dev.raise_mem (b : IntBit) : (d.raise b).mem = d.mem := (Dev.onlyReports_raise d b).mem
@[simp] theorem Dev.raise_host (b : IntBit) : (d.raise b).host = d.host := (Dev.onlyReports_raise d b).host

/-! ### perf -/

@[simp] theorem Dev.perf_clk (i e n : Nat) : (d.perf i e n).clk = d.clk := (Dev.onlyReports_perf d i e n).clk
@[simp] theorem Dev.perf_otp (i e n : Nat) : (d.perf i e n).otp = d.otp := (Dev.onlyReports_perf d i e n).otp
@[simp] theorem Dev.perf_draws (i e n : Nat) : (d.perf i e n).draws = d.draws := (Dev.onlyReports_perf d i e n).draws
@[simp] theorem Dev.perf_frees (i e n : Nat) : (d.perf i e n).frees = d.frees := (Dev.onlyReports_perf d i e n).frees
@[simp] theorem Dev.perf_shadow (i e n : Nat) : (d.perf i e n).shadow = d.shadow := (Dev.onlyReports_perf d i e n).shadow
@[simp] theorem Dev.perf_dirty (i e n : Nat) : (d.perf i e n).dirty = d.dirty := (Dev.onlyReports_perf d i e n).dirty
@[simp] theorem Dev.perf_prev (i e n : Nat) : (d.perf i e n).prev = d.prev := (Dev.onlyReports_perf d i e n).prev
@[simp] theorem Dev.perf_cgen (i e n : Nat) : (d.perf i e n).cgen = d.cgen := (Dev.onlyReports_perf d i e n).cgen
@[simp] theorem Dev.perf_commit (i e n : Nat) : (d.perf i e n).commit = d.commit := (Dev.onlyReports_perf d i e n).commit
@[simp] theorem Dev.perf_pause (i e n : Nat) : (d.perf i e n).pause = d.pause := (Dev.onlyReports_perf d i e n).pause
@[simp] theorem Dev.perf_hostMem (i e n : Nat) : (d.perf i e n).hostMem = d.hostMem := (Dev.onlyReports_perf d i e n).hostMem
@[simp] theorem Dev.perf_flash (i e n : Nat) : (d.perf i e n).flash = d.flash := (Dev.onlyReports_perf d i e n).flash
@[simp] theorem Dev.perf_sup (i e n : Nat) : (d.perf i e n).sup = d.sup := (Dev.onlyReports_perf d i e n).sup
@[simp] theorem Dev.perf_spore (i e n : Nat) : (d.perf i e n).spore = d.spore := (Dev.onlyReports_perf d i e n).spore
@[simp] theorem Dev.perf_boot (i e n : Nat) : (d.perf i e n).boot = d.boot := (Dev.onlyReports_perf d i e n).boot
@[simp] theorem Dev.perf_time (i e n : Nat) : (d.perf i e n).time = d.time := (Dev.onlyReports_perf d i e n).time
@[simp] theorem Dev.perf_isles (i e n : Nat) : (d.perf i e n).isles = d.isles := (Dev.onlyReports_perf d i e n).isles
@[simp] theorem Dev.perf_resetting (i e n : Nat) : (d.perf i e n).resetting = d.resetting := (Dev.onlyReports_perf d i e n).resetting
@[simp] theorem Dev.perf_sw (i e n : Nat) : (d.perf i e n).sw = d.sw := (Dev.onlyReports_perf d i e n).sw
@[simp] theorem Dev.perf_look (i e n : Nat) : (d.perf i e n).look = d.look := (Dev.onlyReports_perf d i e n).look
@[simp] theorem Dev.perf_flow (i e n : Nat) : (d.perf i e n).flow = d.flow := (Dev.onlyReports_perf d i e n).flow
@[simp] theorem Dev.perf_eng (i e n : Nat) : (d.perf i e n).eng = d.eng := (Dev.onlyReports_perf d i e n).eng
@[simp] theorem Dev.perf_units (i e n : Nat) : (d.perf i e n).units = d.units := (Dev.onlyReports_perf d i e n).units
@[simp] theorem Dev.perf_tandem (i e n : Nat) : (d.perf i e n).tandem = d.tandem := (Dev.onlyReports_perf d i e n).tandem
@[simp] theorem Dev.perf_mem (i e n : Nat) : (d.perf i e n).mem = d.mem := (Dev.onlyReports_perf d i e n).mem
@[simp] theorem Dev.perf_host (i e n : Nat) : (d.perf i e n).host = d.host := (Dev.onlyReports_perf d i e n).host

/-! ### log -/

@[simp] theorem Dev.log_clk (i c p0 p1 p2 p3 : Nat) : (d.log i c p0 p1 p2 p3).clk = d.clk := (Dev.onlyReports_log d i c p0 p1 p2 p3).clk
@[simp] theorem Dev.log_otp (i c p0 p1 p2 p3 : Nat) : (d.log i c p0 p1 p2 p3).otp = d.otp := (Dev.onlyReports_log d i c p0 p1 p2 p3).otp
@[simp] theorem Dev.log_draws (i c p0 p1 p2 p3 : Nat) : (d.log i c p0 p1 p2 p3).draws = d.draws := (Dev.onlyReports_log d i c p0 p1 p2 p3).draws
@[simp] theorem Dev.log_frees (i c p0 p1 p2 p3 : Nat) : (d.log i c p0 p1 p2 p3).frees = d.frees := (Dev.onlyReports_log d i c p0 p1 p2 p3).frees
@[simp] theorem Dev.log_shadow (i c p0 p1 p2 p3 : Nat) : (d.log i c p0 p1 p2 p3).shadow = d.shadow := (Dev.onlyReports_log d i c p0 p1 p2 p3).shadow
@[simp] theorem Dev.log_dirty (i c p0 p1 p2 p3 : Nat) : (d.log i c p0 p1 p2 p3).dirty = d.dirty := (Dev.onlyReports_log d i c p0 p1 p2 p3).dirty
@[simp] theorem Dev.log_prev (i c p0 p1 p2 p3 : Nat) : (d.log i c p0 p1 p2 p3).prev = d.prev := (Dev.onlyReports_log d i c p0 p1 p2 p3).prev
@[simp] theorem Dev.log_cgen (i c p0 p1 p2 p3 : Nat) : (d.log i c p0 p1 p2 p3).cgen = d.cgen := (Dev.onlyReports_log d i c p0 p1 p2 p3).cgen
@[simp] theorem Dev.log_commit (i c p0 p1 p2 p3 : Nat) : (d.log i c p0 p1 p2 p3).commit = d.commit := (Dev.onlyReports_log d i c p0 p1 p2 p3).commit
@[simp] theorem Dev.log_pause (i c p0 p1 p2 p3 : Nat) : (d.log i c p0 p1 p2 p3).pause = d.pause := (Dev.onlyReports_log d i c p0 p1 p2 p3).pause
@[simp] theorem Dev.log_hostMem (i c p0 p1 p2 p3 : Nat) : (d.log i c p0 p1 p2 p3).hostMem = d.hostMem := (Dev.onlyReports_log d i c p0 p1 p2 p3).hostMem
@[simp] theorem Dev.log_flash (i c p0 p1 p2 p3 : Nat) : (d.log i c p0 p1 p2 p3).flash = d.flash := (Dev.onlyReports_log d i c p0 p1 p2 p3).flash
@[simp] theorem Dev.log_sup (i c p0 p1 p2 p3 : Nat) : (d.log i c p0 p1 p2 p3).sup = d.sup := (Dev.onlyReports_log d i c p0 p1 p2 p3).sup
@[simp] theorem Dev.log_spore (i c p0 p1 p2 p3 : Nat) : (d.log i c p0 p1 p2 p3).spore = d.spore := (Dev.onlyReports_log d i c p0 p1 p2 p3).spore
@[simp] theorem Dev.log_boot (i c p0 p1 p2 p3 : Nat) : (d.log i c p0 p1 p2 p3).boot = d.boot := (Dev.onlyReports_log d i c p0 p1 p2 p3).boot
@[simp] theorem Dev.log_time (i c p0 p1 p2 p3 : Nat) : (d.log i c p0 p1 p2 p3).time = d.time := (Dev.onlyReports_log d i c p0 p1 p2 p3).time
@[simp] theorem Dev.log_isles (i c p0 p1 p2 p3 : Nat) : (d.log i c p0 p1 p2 p3).isles = d.isles := (Dev.onlyReports_log d i c p0 p1 p2 p3).isles
@[simp] theorem Dev.log_resetting (i c p0 p1 p2 p3 : Nat) : (d.log i c p0 p1 p2 p3).resetting = d.resetting := (Dev.onlyReports_log d i c p0 p1 p2 p3).resetting
@[simp] theorem Dev.log_sw (i c p0 p1 p2 p3 : Nat) : (d.log i c p0 p1 p2 p3).sw = d.sw := (Dev.onlyReports_log d i c p0 p1 p2 p3).sw
@[simp] theorem Dev.log_look (i c p0 p1 p2 p3 : Nat) : (d.log i c p0 p1 p2 p3).look = d.look := (Dev.onlyReports_log d i c p0 p1 p2 p3).look
@[simp] theorem Dev.log_flow (i c p0 p1 p2 p3 : Nat) : (d.log i c p0 p1 p2 p3).flow = d.flow := (Dev.onlyReports_log d i c p0 p1 p2 p3).flow
@[simp] theorem Dev.log_eng (i c p0 p1 p2 p3 : Nat) : (d.log i c p0 p1 p2 p3).eng = d.eng := (Dev.onlyReports_log d i c p0 p1 p2 p3).eng
@[simp] theorem Dev.log_units (i c p0 p1 p2 p3 : Nat) : (d.log i c p0 p1 p2 p3).units = d.units := (Dev.onlyReports_log d i c p0 p1 p2 p3).units
@[simp] theorem Dev.log_tandem (i c p0 p1 p2 p3 : Nat) : (d.log i c p0 p1 p2 p3).tandem = d.tandem := (Dev.onlyReports_log d i c p0 p1 p2 p3).tandem
@[simp] theorem Dev.log_mem (i c p0 p1 p2 p3 : Nat) : (d.log i c p0 p1 p2 p3).mem = d.mem := (Dev.onlyReports_log d i c p0 p1 p2 p3).mem
@[simp] theorem Dev.log_host (i c p0 p1 p2 p3 : Nat) : (d.log i c p0 p1 p2 p3).host = d.host := (Dev.onlyReports_log d i c p0 p1 p2 p3).host

/-! ### opEnd -/

@[simp] theorem Dev.opEnd_clk (p s c : Nat) : (d.opEnd p s c).clk = d.clk := (Dev.onlyReports_opEnd d p s c).clk
@[simp] theorem Dev.opEnd_otp (p s c : Nat) : (d.opEnd p s c).otp = d.otp := (Dev.onlyReports_opEnd d p s c).otp
@[simp] theorem Dev.opEnd_draws (p s c : Nat) : (d.opEnd p s c).draws = d.draws := (Dev.onlyReports_opEnd d p s c).draws
@[simp] theorem Dev.opEnd_frees (p s c : Nat) : (d.opEnd p s c).frees = d.frees := (Dev.onlyReports_opEnd d p s c).frees
@[simp] theorem Dev.opEnd_shadow (p s c : Nat) : (d.opEnd p s c).shadow = d.shadow := (Dev.onlyReports_opEnd d p s c).shadow
@[simp] theorem Dev.opEnd_dirty (p s c : Nat) : (d.opEnd p s c).dirty = d.dirty := (Dev.onlyReports_opEnd d p s c).dirty
@[simp] theorem Dev.opEnd_prev (p s c : Nat) : (d.opEnd p s c).prev = d.prev := (Dev.onlyReports_opEnd d p s c).prev
@[simp] theorem Dev.opEnd_cgen (p s c : Nat) : (d.opEnd p s c).cgen = d.cgen := (Dev.onlyReports_opEnd d p s c).cgen
@[simp] theorem Dev.opEnd_commit (p s c : Nat) : (d.opEnd p s c).commit = d.commit := (Dev.onlyReports_opEnd d p s c).commit
@[simp] theorem Dev.opEnd_pause (p s c : Nat) : (d.opEnd p s c).pause = d.pause := (Dev.onlyReports_opEnd d p s c).pause
@[simp] theorem Dev.opEnd_hostMem (p s c : Nat) : (d.opEnd p s c).hostMem = d.hostMem := (Dev.onlyReports_opEnd d p s c).hostMem
@[simp] theorem Dev.opEnd_flash (p s c : Nat) : (d.opEnd p s c).flash = d.flash := (Dev.onlyReports_opEnd d p s c).flash
@[simp] theorem Dev.opEnd_sup (p s c : Nat) : (d.opEnd p s c).sup = d.sup := (Dev.onlyReports_opEnd d p s c).sup
@[simp] theorem Dev.opEnd_spore (p s c : Nat) : (d.opEnd p s c).spore = d.spore := (Dev.onlyReports_opEnd d p s c).spore
@[simp] theorem Dev.opEnd_boot (p s c : Nat) : (d.opEnd p s c).boot = d.boot := (Dev.onlyReports_opEnd d p s c).boot
@[simp] theorem Dev.opEnd_time (p s c : Nat) : (d.opEnd p s c).time = d.time := (Dev.onlyReports_opEnd d p s c).time
@[simp] theorem Dev.opEnd_isles (p s c : Nat) : (d.opEnd p s c).isles = d.isles := (Dev.onlyReports_opEnd d p s c).isles
@[simp] theorem Dev.opEnd_resetting (p s c : Nat) : (d.opEnd p s c).resetting = d.resetting := (Dev.onlyReports_opEnd d p s c).resetting
@[simp] theorem Dev.opEnd_sw (p s c : Nat) : (d.opEnd p s c).sw = d.sw := (Dev.onlyReports_opEnd d p s c).sw
@[simp] theorem Dev.opEnd_look (p s c : Nat) : (d.opEnd p s c).look = d.look := (Dev.onlyReports_opEnd d p s c).look
@[simp] theorem Dev.opEnd_flow (p s c : Nat) : (d.opEnd p s c).flow = d.flow := (Dev.onlyReports_opEnd d p s c).flow
@[simp] theorem Dev.opEnd_eng (p s c : Nat) : (d.opEnd p s c).eng = d.eng := (Dev.onlyReports_opEnd d p s c).eng
@[simp] theorem Dev.opEnd_units (p s c : Nat) : (d.opEnd p s c).units = d.units := (Dev.onlyReports_opEnd d p s c).units
@[simp] theorem Dev.opEnd_tandem (p s c : Nat) : (d.opEnd p s c).tandem = d.tandem := (Dev.onlyReports_opEnd d p s c).tandem
@[simp] theorem Dev.opEnd_mem (p s c : Nat) : (d.opEnd p s c).mem = d.mem := (Dev.onlyReports_opEnd d p s c).mem
@[simp] theorem Dev.opEnd_host (p s c : Nat) : (d.opEnd p s c).host = d.host := (Dev.onlyReports_opEnd d p s c).host

/-! ### recErr -/

theorem Dev.onlyRegs_refl (d : Dev) : d.onlyRegs d := rfl
theorem Dev.onlyRegs_trans {d e f : Dev} (h : d.onlyRegs e) (g : e.onlyRegs f) : d.onlyRegs f := by
  unfold Dev.onlyRegs at *
  rw [g, h]
theorem Dev.onlyRegs_setRegP (d : Dev) (r : Reg) (p c : Nat) (v : Word) : d.onlyRegs (d.setRegP r p c v) := rfl
theorem Dev.onlyRegs_setReg (d : Dev) (r : Reg) (v : Word) (c : Nat) : d.onlyRegs (d.setReg r v c) := d.onlyRegs_setRegP r 0 c v
theorem Dev.onlyRegs_setNum (d : Dev) (r : Reg) (v c : Nat) : d.onlyRegs (d.setNum r v c) := d.onlyRegs_setReg r _ c
theorem Dev.onlyRegs_setFld (d : Dev) (x : Fld) (v c : Nat) : d.onlyRegs (d.setFld x v c) := d.onlyRegs_setNum x.reg _ c
theorem Dev.onlyRegs_ite {d e f : Dev} (c : Prop) [Decidable c] (h : d.onlyRegs e) (g : d.onlyRegs f) :
    d.onlyRegs (if c then e else f) := by split <;> assumption
theorem Dev.onlyRegs_recErr (d : Dev) (p o c s : Nat) : d.onlyRegs (d.recErr p o c s) :=
  Dev.onlyRegs_ite _ (Dev.onlyRegs_trans (Dev.onlyRegs_trans (Dev.onlyRegs_setNum d _ _ _) (Dev.onlyRegs_setNum _ _ _ _))
    (Dev.onlyRegs_setNum _ _ _ _)) (Dev.onlyRegs_setFld d _ _ _)

theorem Dev.onlyRegs.clk {d e : Dev} (h : d.onlyRegs e) : e.clk = d.clk := by rw [h]
theorem Dev.onlyRegs.otp {d e : Dev} (h : d.onlyRegs e) : e.otp = d.otp := by rw [h]
theorem Dev.onlyRegs.draws {d e : Dev} (h : d.onlyRegs e) : e.draws = d.draws := by rw [h]
theorem Dev.onlyRegs.frees {d e : Dev} (h : d.onlyRegs e) : e.frees = d.frees := by rw [h]
theorem Dev.onlyRegs.shadow {d e : Dev} (h : d.onlyRegs e) : e.shadow = d.shadow := by rw [h]
theorem Dev.onlyRegs.dirty {d e : Dev} (h : d.onlyRegs e) : e.dirty = d.dirty := by rw [h]
theorem Dev.onlyRegs.prev {d e : Dev} (h : d.onlyRegs e) : e.prev = d.prev := by rw [h]
theorem Dev.onlyRegs.cgen {d e : Dev} (h : d.onlyRegs e) : e.cgen = d.cgen := by rw [h]
theorem Dev.onlyRegs.commit {d e : Dev} (h : d.onlyRegs e) : e.commit = d.commit := by rw [h]
theorem Dev.onlyRegs.pause {d e : Dev} (h : d.onlyRegs e) : e.pause = d.pause := by rw [h]
theorem Dev.onlyRegs.hostMem {d e : Dev} (h : d.onlyRegs e) : e.hostMem = d.hostMem := by rw [h]
theorem Dev.onlyRegs.flash {d e : Dev} (h : d.onlyRegs e) : e.flash = d.flash := by rw [h]
theorem Dev.onlyRegs.sup {d e : Dev} (h : d.onlyRegs e) : e.sup = d.sup := by rw [h]
theorem Dev.onlyRegs.spore {d e : Dev} (h : d.onlyRegs e) : e.spore = d.spore := by rw [h]
theorem Dev.onlyRegs.boot {d e : Dev} (h : d.onlyRegs e) : e.boot = d.boot := by rw [h]
theorem Dev.onlyRegs.time {d e : Dev} (h : d.onlyRegs e) : e.time = d.time := by rw [h]
theorem Dev.onlyRegs.isles {d e : Dev} (h : d.onlyRegs e) : e.isles = d.isles := by rw [h]
theorem Dev.onlyRegs.resetting {d e : Dev} (h : d.onlyRegs e) : e.resetting = d.resetting := by rw [h]
theorem Dev.onlyRegs.sw {d e : Dev} (h : d.onlyRegs e) : e.sw = d.sw := by rw [h]
theorem Dev.onlyRegs.look {d e : Dev} (h : d.onlyRegs e) : e.look = d.look := by rw [h]
theorem Dev.onlyRegs.flow {d e : Dev} (h : d.onlyRegs e) : e.flow = d.flow := by rw [h]
theorem Dev.onlyRegs.eng {d e : Dev} (h : d.onlyRegs e) : e.eng = d.eng := by rw [h]
theorem Dev.onlyRegs.units {d e : Dev} (h : d.onlyRegs e) : e.units = d.units := by rw [h]
theorem Dev.onlyRegs.tandem {d e : Dev} (h : d.onlyRegs e) : e.tandem = d.tandem := by rw [h]
theorem Dev.onlyRegs.mem {d e : Dev} (h : d.onlyRegs e) : e.mem = d.mem := by rw [h]
theorem Dev.onlyRegs.host {d e : Dev} (h : d.onlyRegs e) : e.host = d.host := by rw [h]
theorem Dev.onlyRegs.evq {d e : Dev} (h : d.onlyRegs e) : e.evq = d.evq := by rw [h]
theorem Dev.onlyRegs.out {d e : Dev} (h : d.onlyRegs e) : e.out = d.out := by rw [h]
theorem Dev.onlyRegs.obs {d e : Dev} (h : d.onlyRegs e) : e.obs = d.obs := by rw [h]
@[simp] theorem Dev.recErr_clk (p o c s : Nat) : (d.recErr p o c s).clk = d.clk := (Dev.onlyRegs_recErr d p o c s).clk
@[simp] theorem Dev.recErr_otp (p o c s : Nat) : (d.recErr p o c s).otp = d.otp := (Dev.onlyRegs_recErr d p o c s).otp
@[simp] theorem Dev.recErr_draws (p o c s : Nat) : (d.recErr p o c s).draws = d.draws := (Dev.onlyRegs_recErr d p o c s).draws
@[simp] theorem Dev.recErr_frees (p o c s : Nat) : (d.recErr p o c s).frees = d.frees := (Dev.onlyRegs_recErr d p o c s).frees
@[simp] theorem Dev.recErr_shadow (p o c s : Nat) : (d.recErr p o c s).shadow = d.shadow := (Dev.onlyRegs_recErr d p o c s).shadow
@[simp] theorem Dev.recErr_dirty (p o c s : Nat) : (d.recErr p o c s).dirty = d.dirty := (Dev.onlyRegs_recErr d p o c s).dirty
@[simp] theorem Dev.recErr_prev (p o c s : Nat) : (d.recErr p o c s).prev = d.prev := (Dev.onlyRegs_recErr d p o c s).prev
@[simp] theorem Dev.recErr_cgen (p o c s : Nat) : (d.recErr p o c s).cgen = d.cgen := (Dev.onlyRegs_recErr d p o c s).cgen
@[simp] theorem Dev.recErr_commit (p o c s : Nat) : (d.recErr p o c s).commit = d.commit := (Dev.onlyRegs_recErr d p o c s).commit
@[simp] theorem Dev.recErr_pause (p o c s : Nat) : (d.recErr p o c s).pause = d.pause := (Dev.onlyRegs_recErr d p o c s).pause
@[simp] theorem Dev.recErr_hostMem (p o c s : Nat) : (d.recErr p o c s).hostMem = d.hostMem := (Dev.onlyRegs_recErr d p o c s).hostMem
@[simp] theorem Dev.recErr_flash (p o c s : Nat) : (d.recErr p o c s).flash = d.flash := (Dev.onlyRegs_recErr d p o c s).flash
@[simp] theorem Dev.recErr_sup (p o c s : Nat) : (d.recErr p o c s).sup = d.sup := (Dev.onlyRegs_recErr d p o c s).sup
@[simp] theorem Dev.recErr_spore (p o c s : Nat) : (d.recErr p o c s).spore = d.spore := (Dev.onlyRegs_recErr d p o c s).spore
@[simp] theorem Dev.recErr_boot (p o c s : Nat) : (d.recErr p o c s).boot = d.boot := (Dev.onlyRegs_recErr d p o c s).boot
@[simp] theorem Dev.recErr_time (p o c s : Nat) : (d.recErr p o c s).time = d.time := (Dev.onlyRegs_recErr d p o c s).time
@[simp] theorem Dev.recErr_isles (p o c s : Nat) : (d.recErr p o c s).isles = d.isles := (Dev.onlyRegs_recErr d p o c s).isles
@[simp] theorem Dev.recErr_resetting (p o c s : Nat) : (d.recErr p o c s).resetting = d.resetting := (Dev.onlyRegs_recErr d p o c s).resetting
@[simp] theorem Dev.recErr_sw (p o c s : Nat) : (d.recErr p o c s).sw = d.sw := (Dev.onlyRegs_recErr d p o c s).sw
@[simp] theorem Dev.recErr_look (p o c s : Nat) : (d.recErr p o c s).look = d.look := (Dev.onlyRegs_recErr d p o c s).look
@[simp] theorem Dev.recErr_flow (p o c s : Nat) : (d.recErr p o c s).flow = d.flow := (Dev.onlyRegs_recErr d p o c s).flow
@[simp] theorem Dev.recErr_eng (p o c s : Nat) : (d.recErr p o c s).eng = d.eng := (Dev.onlyRegs_recErr d p o c s).eng
@[simp] theorem Dev.recErr_units (p o c s : Nat) : (d.recErr p o c s).units = d.units := (Dev.onlyRegs_recErr d p o c s).units
@[simp] theorem Dev.recErr_tandem (p o c s : Nat) : (d.recErr p o c s).tandem = d.tandem := (Dev.onlyRegs_recErr d p o c s).tandem
@[simp] theorem Dev.recErr_mem (p o c s : Nat) : (d.recErr p o c s).mem = d.mem := (Dev.onlyRegs_recErr d p o c s).mem
@[simp] theorem Dev.recErr_host (p o c s : Nat) : (d.recErr p o c s).host = d.host := (Dev.onlyRegs_recErr d p o c s).host
@[simp] theorem Dev.recErr_evq (p o c s : Nat) : (d.recErr p o c s).evq = d.evq := (Dev.onlyRegs_recErr d p o c s).evq
@[simp] theorem Dev.recErr_out (p o c s : Nat) : (d.recErr p o c s).out = d.out := (Dev.onlyRegs_recErr d p o c s).out
@[simp] theorem Dev.recErr_obs (p o c s : Nat) : (d.recErr p o c s).obs = d.obs := (Dev.onlyRegs_recErr d p o c s).obs

/-! ### Registers -/

theorem Dev.raise_fld (b : IntBit) (x : Fld) (c : Nat) (hk : reportKey (x.reg.key 0 c) = false) : (d.raise b).fld x c = d.fld x c :=
  Dev.reportsOnly_fld (Dev.reportsOnly_raise d b) x c hk
theorem Dev.raise_num (b : IntBit) (r : Reg) (c : Nat) (hk : reportKey (r.key 0 c) = false) : (d.raise b).num r c = d.num r c :=
  Dev.reportsOnly_num (Dev.reportsOnly_raise d b) r c hk
theorem Dev.raise_regP (b : IntBit) (r : Reg) (p c : Nat) (hk : reportKey (r.key p c) = false) : (d.raise b).regP r p c = d.regP r p c :=
  Dev.reportsOnly_regP (Dev.reportsOnly_raise d b) r p c hk
theorem Dev.perf_fld (i e n : Nat) (x : Fld) (c : Nat) (hk : reportKey (x.reg.key 0 c) = false) : (d.perf i e n).fld x c = d.fld x c :=
  Dev.reportsOnly_fld (Dev.reportsOnly_perf d i e n) x c hk
theorem Dev.perf_num (i e n : Nat) (r : Reg) (c : Nat) (hk : reportKey (r.key 0 c) = false) : (d.perf i e n).num r c = d.num r c :=
  Dev.reportsOnly_num (Dev.reportsOnly_perf d i e n) r c hk
theorem Dev.log_fld (i co p0 p1 p2 p3 : Nat) (x : Fld) (c : Nat) (hk : reportKey (x.reg.key 0 c) = false) :
    (d.log i co p0 p1 p2 p3).fld x c = d.fld x c := Dev.reportsOnly_fld (Dev.reportsOnly_log d i co p0 p1 p2 p3) x c hk
theorem Dev.log_num (i co p0 p1 p2 p3 : Nat) (r : Reg) (c : Nat) (hk : reportKey (r.key 0 c) = false) :
    (d.log i co p0 p1 p2 p3).num r c = d.num r c := Dev.reportsOnly_num (Dev.reportsOnly_log d i co p0 p1 p2 p3) r c hk
theorem Dev.log_regP (i co p0 p1 p2 p3 : Nat) (r : Reg) (p c : Nat) (hk : reportKey (r.key p c) = false) :
    (d.log i co p0 p1 p2 p3).regP r p c = d.regP r p c := Dev.reportsOnly_regP (Dev.reportsOnly_log d i co p0 p1 p2 p3) r p c hk
theorem Dev.opEnd_fld (p s ch : Nat) (x : Fld) (c : Nat) (hk : reportKey (x.reg.key 0 c) = false) :
    (d.opEnd p s ch).fld x c = d.fld x c := Dev.log_fld d 32 _ p s ch 0 x c hk
theorem Dev.opEnd_num (p s ch : Nat) (r : Reg) (c : Nat) (hk : reportKey (r.key 0 c) = false) :
    (d.opEnd p s ch).num r c = d.num r c := Dev.log_num d 32 _ p s ch 0 r c hk

/-- An access error touches only ERR_INFO and the two registers of its stamp. -/
theorem Dev.recErr_regs (p o c s k : Nat) (w : Word) (h1 : k ≠ (ERR_INFO p).key 0 0) (h2 : k ≠ (ERR_STAMP_LO p).key 0 0)
    (h3 : k ≠ (ERR_STAMP_HI p).key 0 0) : (d.recErr p o c s).regs.get w k = d.regs.get w k := by
  unfold Dev.recErr
  split
  · unfold Dev.setNum Dev.setReg
    rw [Dev.regs_setRegP_ne _ _ _ _ _ _ _ h3, Dev.regs_setRegP_ne _ _ _ _ _ _ _ h2, Dev.regs_setRegP_ne _ _ _ _ _ _ _ h1]
  · exact Dev.regs_setRegP_ne _ _ _ _ _ _ _ h1

end Sys2Proof.Machine
end

