-- ==== Sys2Proof/Laws/Ops.lean ====
section
/-! SUPPORT. What the shared operations of commands do: acting on the device, access to a page, access errors, and reading registers
after them. -/

namespace Sys2Proof.Machine

/-! ### Acting on the device -/

@[simp] theorem Dev.under_draws (d e : Dev) : (d.under e).draws = e.draws := rfl
@[simp] theorem Dev.under_frees (d e : Dev) : (d.under e).frees = e.frees := rfl
@[simp] theorem Dev.under_regs (d e : Dev) : (d.under e).regs = e.regs := rfl
@[simp] theorem Dev.under_shadow (d e : Dev) : (d.under e).shadow = e.shadow := rfl
@[simp] theorem Dev.under_dirty (d e : Dev) : (d.under e).dirty = e.dirty := rfl
@[simp] theorem Dev.under_prev (d e : Dev) : (d.under e).prev = e.prev := rfl
@[simp] theorem Dev.under_cgen (d e : Dev) : (d.under e).cgen = e.cgen := rfl
@[simp] theorem Dev.under_commit (d e : Dev) : (d.under e).commit = e.commit := rfl
@[simp] theorem Dev.under_pause (d e : Dev) : (d.under e).pause = e.pause := rfl
@[simp] theorem Dev.under_evq (d e : Dev) : (d.under e).evq = e.evq := rfl
@[simp] theorem Dev.under_out (d e : Dev) : (d.under e).out = e.out := rfl
@[simp] theorem Dev.under_hostMem (d e : Dev) : (d.under e).hostMem = e.hostMem := rfl
@[simp] theorem Dev.under_flash (d e : Dev) : (d.under e).flash = e.flash := rfl
@[simp] theorem Dev.under_sup (d e : Dev) : (d.under e).sup = e.sup := rfl
@[simp] theorem Dev.under_spore (d e : Dev) : (d.under e).spore = e.spore := rfl
@[simp] theorem Dev.under_boot (d e : Dev) : (d.under e).boot = e.boot := rfl
@[simp] theorem Dev.under_time (d e : Dev) : (d.under e).time = e.time := rfl
@[simp] theorem Dev.under_isles (d e : Dev) : (d.under e).isles = e.isles := rfl
@[simp] theorem Dev.under_resetting (d e : Dev) : (d.under e).resetting = e.resetting := rfl
@[simp] theorem Dev.under_sw (d e : Dev) : (d.under e).sw = e.sw := rfl
@[simp] theorem Dev.under_obs (d e : Dev) : (d.under e).obs = e.obs := rfl
@[simp] theorem Dev.under_look (d e : Dev) : (d.under e).look = e.look := rfl
@[simp] theorem Dev.under_flow (d e : Dev) : (d.under e).flow = e.flow := rfl
@[simp] theorem Dev.under_eng (d e : Dev) : (d.under e).eng = e.eng := rfl
@[simp] theorem Dev.under_units (d e : Dev) : (d.under e).units = e.units := rfl
@[simp] theorem Dev.under_tandem (d e : Dev) : (d.under e).tandem = e.tandem := rfl
@[simp] theorem Dev.under_mem (d e : Dev) : (d.under e).mem = e.mem := rfl
@[simp] theorem Dev.under_host (d e : Dev) : (d.under e).host = e.host := rfl
@[simp] theorem Dev.under_clk (d e : Dev) : (d.under e).clk = d.clk := rfl
@[simp] theorem Dev.under_otp (d e : Dev) : (d.under e).otp = d.otp := rfl
@[simp] theorem Dev.under_self (d : Dev) : d.under d = d := rfl
@[simp] theorem Dev.under_regP (d e : Dev) (r : Reg) (p c : Nat) : (d.under e).regP r p c = e.regP r p c := rfl
@[simp] theorem Dev.under_reg (d e : Dev) (r : Reg) (c : Nat) : (d.under e).reg r c = e.reg r c := rfl
@[simp] theorem Dev.under_num (d e : Dev) (r : Reg) (c : Nat) : (d.under e).num r c = e.num r c := rfl
@[simp] theorem Dev.under_fld (d e : Dev) (x : Fld) (c : Nat) : (d.under e).fld x c = e.fld x c := rfl
@[simp] theorem Dev.under_on (d e : Dev) (x : Fld) (c : Nat) : (d.under e).on x c = e.on x c := rfl
@[simp] theorem Dev.under_raised (d e : Dev) (b : IntBit) : (d.under e).raised b = e.raised b := rfl

@[simp] theorem Dev.when_true (d : Dev) (f : Dev → Dev) : d.when true f = f d := rfl
@[simp] theorem Dev.when_false (d : Dev) (f : Dev → Dev) : d.when false f = d := rfl

theorem Dev.runs_iff (d : Dev) : d.runs = true ↔ d.sup.phase = .on := by unfold Dev.runs; simp
theorem Dev.awake_iff (d : Dev) : d.awake = true ↔ d.spore.phase = 0 := by unfold Dev.awake; simp

theorem gives_raw {c : Instr} {s : State} {f : Dev → Dev} {p : Dev → Prop} (h : exec c s = s.actRaw f)
    (hp : p (s.dev.under (f s.dev))) : Gives c s p := ⟨_, h, rfl, hp⟩

theorem gives_act {c : Instr} {s : State} {f : Dev → Dev} {p : Dev → Prop} (h : exec c s = s.act f) (hon : s.On)
    (hp : p (s.dev.under (f s.dev))) : Gives c s p := by
  refine gives_raw h ?_
  rw [(Dev.runs_iff _).mpr hon]
  exact hp

theorem gives_run {c : Instr} {s : State} {f : Dev → Dev} {p : Dev → Prop} (h : exec c s = s.run f) (hon : s.Awake)
    (hp : p (s.dev.under (f s.dev))) : Gives c s p := by
  refine gives_act h hon.1 ?_
  rw [(Dev.awake_iff _).mpr hon.2]
  exact hp

theorem idle_act {c : Instr} {s : State} {f : Dev → Dev} (h : exec c s = s.act f) (hoff : ¬ s.On) : Idle c s := by
  have : s.dev.runs = false := by
    cases hr : s.dev.runs
    · rfl
    · exact absurd ((Dev.runs_iff _).mp hr) hoff
  simp only [Idle, h, State.act, State.actRaw, this, Dev.when_false, Dev.under_self]

theorem idle_run {c : Instr} {s : State} {f : Dev → Dev} (h : exec c s = s.run f) (hoff : ¬ s.Awake) : Idle c s := by
  by_cases hon : s.On
  · have : s.dev.awake = false := by
      cases hr : s.dev.awake
      · rfl
      · exact absurd ⟨hon, (Dev.awake_iff _).mp hr⟩ hoff
    simp only [Idle, h, State.run, State.act, State.actRaw, (Dev.runs_iff _).mpr hon, this, Dev.when_true, Dev.when_false,
      Dev.under_self]
  · exact idle_act h hon

/-! ### Access to a page -/

theorem Dev.access_open (d : Dev) (p : Nat) (f : Dev → Dev) (h : d.pageOpen p = true) : d.access p f = f d := by
  unfold Dev.access
  rw [if_pos h]

/-- A page that is closed changes nothing but, in SPORE, the interrupt bit that says so. -/
theorem Dev.access_closed (d : Dev) (p : Nat) (f : Dev → Dev) (h : d.pageOpen p = false) : d.reportsOnly (d.access p f) := by
  unfold Dev.access
  rw [if_neg (by rw [h]; decide)]
  exact Dev.reportsOnly_ite _ (Dev.reportsOnly_raise d _) (Dev.reportsOnly_refl d)

theorem State.Ready.on {s : State} (h : s.Ready) : s.On := h.1
theorem State.Ready.awake {s : State} (h : s.Ready) : s.Awake := ⟨h.1, h.2.1⟩

/-- Of a ready module every page answers. -/
theorem State.Ready.opens {s : State} (h : s.Ready) (p : Nat) (hp : (pageHdr p).isSome = true) : s.Opens p := by
  obtain ⟨h1, _, h3, h4, h5⟩ := h
  refine ⟨h1, ?_⟩
  unfold Dev.pageOpen Dev.on
  rw [h1, h3, h4, h5]
  simpa using hp

end Sys2Proof.Machine
end

