-- ==== Sys2Proof/Laws/Moves.lean ====
section
/-! SUPPORT. What the shared operations move: laws that carry a bound on the parts and the pages changed from a device to what an
operation makes of it. -/

namespace Sys2Proof.Machine

variable {d d0 : Dev} {P : List Part} {G : List Nat}

/-! ### The relation -/

theorem Dev.moves_refl (d : Dev) (P : List Part) (G : List Nat) : d.moves d P G :=
  ⟨fun p _ => by cases p <;> rfl, fun _ _ _ _ => rfl⟩

theorem Dev.moves_trans {e : Dev} (h : d0.moves d P G) (g : d.moves e P G) : d0.moves e P G := by
  refine ⟨fun p hp => ?_, fun k w hk hg => (g.2 k w hk hg).trans (h.2 k w hk hg)⟩
  have h1 := h.1 p hp
  have g1 := g.1 p hp
  cases p <;> exact Eq.trans g1 h1

theorem Dev.moves_mono {P' : List Part} {G' : List Nat} (h : d0.moves d P G) (hp : P ⊆ P') (hg : G ⊆ G') : d0.moves d P' G' :=
  ⟨fun p hn => h.1 p fun hm => hn (by
    simp only [List.mem_cons] at hm ⊢
    rcases hm with hm | hm | hm | hm | hm
    · exact .inl hm
    · exact .inr (.inl hm)
    · exact .inr (.inr (.inl hm))
    · exact .inr (.inr (.inr (.inl hm)))
    · exact .inr (.inr (.inr (.inr (hp hm))))), fun k w hk hn => h.2 k w hk fun hm => hn (hg hm)⟩

/-- What only reports stays within every bound. -/
theorem Dev.moves_reports {e : Dev} (h : d0.moves d P G) (g : d.reportsOnly e) : d0.moves e P G := by
  refine Dev.moves_trans h ⟨fun p hp => ?_, fun k w hk _ => g.2 k w hk⟩
  have g1 := g.1
  unfold Dev.onlyReports at g1
  simp only [List.mem_cons, not_or] at hp
  obtain ⟨h1, h2, h3, h4, _⟩ := hp
  cases p <;> first | contradiction | (rw [g1]; rfl)

theorem Dev.moves_foldl {α : Type} {g : Dev → α → Dev} {l : List α} (h : d0.moves d P G)
    (hg : ∀ (x : Dev) (a : α), d0.moves x P G → d0.moves (g x a) P G) : d0.moves (l.foldl g d) P G := by
  induction l generalizing d with
  | nil => exact h
  | cons a r ih => exact ih (hg d a h)

/-- The same, for a walk that carries something beside the device. -/
theorem Dev.moves_foldl_fst {α β : Type} {g : Dev × β → α → Dev × β} {l : List α} {x : Dev × β} (h : d0.moves x.1 P G)
    (hg : ∀ (y : Dev × β) (a : α), d0.moves y.1 P G → d0.moves (g y a).1 P G) : d0.moves (l.foldl g x).1 P G := by
  induction l generalizing x with
  | nil => exact h
  | cons a r ih => exact ih (hg x a h)

theorem Dev.moves_each {n : Nat} {g : Dev → Nat → Dev} (h : d0.moves d P G)
    (hg : ∀ (x : Dev) (a : Nat), d0.moves x P G → d0.moves (g x a) P G) : d0.moves (d.each n g) P G := Dev.moves_foldl h hg

theorem Dev.moves_ite {e f : Dev} {c : Prop} [Decidable c] (h : d0.moves e P G) (g : d0.moves f P G) :
    d0.moves (if c then e else f) P G := by split <;> assumption

theorem Dev.moves_when {c : Bool} {f : Dev → Dev} (h : d0.moves d P G) (hf : ∀ x : Dev, d0.moves x P G → d0.moves (f x) P G) :
    d0.moves (d.when c f) P G := by
  cases c
  · exact h
  · exact hf d h

/-- An element of a register array lies in the array's page. -/
theorem Reg.ix_page (r : Reg) (i : Nat) : (r.ix i).page = r.page := by unfold Reg.ix; split <;> rfl

theorem Dev.mem_sub {α : Type} {L M : List α} {x : α} (h : L ⊆ M) (hx : x ∈ L) : x ∈ M := h hx

/-! ### Registers -/

theorem Dev.moves_setRegP {r : Reg} {p c : Nat} {v : Word} (h : d0.moves d P G) (hg : r.page ∈ G) : d0.moves (d.setRegP r p c v) P G := by
  refine Dev.moves_trans h ⟨fun q hq => ?_, fun k w _ hn => Dev.regs_setRegP_ne d r p c v w k ?_⟩
  · cases q <;> first | rfl | simp at hq
  · rintro rfl
    rw [Reg.keyPage_key] at hn
    exact hn hg

theorem Dev.moves_setReg {r : Reg} {v : Word} {c : Nat} (h : d0.moves d P G) (hg : r.page ∈ G) : d0.moves (d.setReg r v c) P G :=
  Dev.moves_setRegP h hg
theorem Dev.moves_setNum {r : Reg} {v c : Nat} (h : d0.moves d P G) (hg : r.page ∈ G) : d0.moves (d.setNum r v c) P G :=
  Dev.moves_setReg h hg
theorem Dev.moves_setFld {x : Fld} {v c : Nat} (h : d0.moves d P G) (hg : x.reg.page ∈ G) : d0.moves (d.setFld x v c) P G :=
  Dev.moves_setNum h hg
theorem Dev.moves_bump {r : Reg} {c n : Nat} (h : d0.moves d P G) (hg : r.page ∈ G) : d0.moves (d.bump r c n) P G := Dev.moves_setNum h hg
theorem Dev.moves_setNum2 {r q : Reg} {v c : Nat} (h : d0.moves d P G) (hg : r.page ∈ G) (hq : q.page ∈ G) :
    d0.moves (d.setNum2 r q v c) P G := Dev.moves_setNum (Dev.moves_setNum h hg) hq

theorem Dev.moves_recErr {p o c s : Nat} (h : d0.moves d P G) (hg : p ∈ G) : d0.moves (d.recErr p o c s) P G := by
  unfold Dev.recErr
  refine Dev.moves_ite ?_ (Dev.moves_setFld h hg)
  exact Dev.moves_setNum (Dev.moves_setNum (Dev.moves_setNum h hg) hg) hg

/-! ### Interrupts, events, outputs -/

theorem Dev.moves_emit {o : Output} (h : d0.moves d P G) : d0.moves (d.emit o) P G := Dev.moves_reports h (Dev.reportsOnly_emit d o)
theorem Dev.moves_raiseBits {p : Nat} {w : Word} (h : d0.moves d P G) : d0.moves (d.raiseBits p w) P G :=
  Dev.moves_reports h (Dev.reportsOnly_raiseBits d p w)
theorem Dev.moves_raise {b : IntBit} (h : d0.moves d P G) : d0.moves (d.raise b) P G := Dev.moves_reports h (Dev.reportsOnly_raise d b)
theorem Dev.moves_perf {i e n : Nat} (h : d0.moves d P G) : d0.moves (d.perf i e n) P G := Dev.moves_reports h (Dev.reportsOnly_perf d i e n)
theorem Dev.moves_log {i c p0 p1 p2 p3 : Nat} (h : d0.moves d P G) : d0.moves (d.log i c p0 p1 p2 p3) P G :=
  Dev.moves_reports h (Dev.reportsOnly_log d i c p0 p1 p2 p3)
theorem Dev.moves_opEnd {p s c : Nat} (h : d0.moves d P G) : d0.moves (d.opEnd p s c) P G :=
  Dev.moves_reports h (Dev.reportsOnly_opEnd d p s c)
theorem Dev.moves_watchVecs {vs : Dev → List Nat} {f : Dev → Dev} (h : d0.moves (f d) P G) (hv : ∀ v ∈ vs (f d), v < 64) :
    d0.moves (d.watchVecs vs f) P G := by
  refine Dev.moves_reports h ?_
  unfold Dev.watchVecs
  exact Dev.reportsOnly_fire _ _ _ (fun v hv' => hv v (List.mem_eraseDups.mp hv')) _
theorem Dev.moves_watch {p : Nat} {f : Dev → Dev} (h : d0.moves (f d) P G) : d0.moves (d.watch p f) P G :=
  Dev.moves_reports h (Dev.watch_reports d p f)

/-- An access to a page moves what it moves when the page answers, or reports that it does not. -/
theorem Dev.moves_access {p : Nat} {f : Dev → Dev} (h : d0.moves d P G) (hf : ∀ x : Dev, d0.moves x P G → d0.moves (f x) P G) :
    d0.moves (d.access p f) P G := by
  unfold Dev.access
  exact Dev.moves_ite (hf d h) (Dev.moves_ite (Dev.moves_raise h) h)

/-! ### Parts -/

/-- An update of parts that the bound lists. -/
theorem Dev.moves_parts {e : Dev} (h : d0.moves d P G) (hr : e.regs = d.regs)
    (hp : ∀ p : Part, p ∉ (.regs :: .evq :: .out :: .obs :: P : List Part) → d.same e p) : d0.moves e P G :=
  Dev.moves_trans h ⟨hp, fun k w _ _ => by rw [hr]⟩

/-- The same, for an update of the parts `L` among those of the bound, the new device spelled out. -/
theorem Dev.moves_own {clk otp draws frees shadow dirty prev cgen commit pause evq out hostMem flash sup spore boot time isles resetting sw obs look flow eng units tandem mem host} {L : List Part} (hL : L ⊆ P) (h : d0.moves d P G)
    (hp : ∀ p : Part, p ∉ (.regs :: .evq :: .out :: .obs :: L : List Part) →
      d.same (Dev.mk clk otp draws frees d.regs shadow dirty prev cgen commit pause evq out hostMem flash sup spore boot time isles resetting sw obs look flow eng units tandem mem host) p) :
    d0.moves (Dev.mk clk otp draws frees d.regs shadow dirty prev cgen commit pause evq out hostMem flash sup spore boot time isles resetting sw obs look flow eng units tandem mem host) P G :=
  Dev.moves_trans h (Dev.moves_mono ⟨hp, fun _ _ _ _ => rfl⟩ hL (List.nil_subset G))

theorem Dev.moves_under {e : Dev} (h : d0.moves e P G) : d0.moves (d0.under e) P G := by
  refine Dev.moves_trans h ⟨fun p hp => ?_, fun _ _ _ _ => rfl⟩
  have h1 := h.1 p hp
  cases p <;> first | rfl | exact Eq.symm h1

end Sys2Proof.Machine
end

