-- ==== Sys2Proof/Laws/Raised.lean ====
section
/-! SUPPORT. Which interrupt bits show after an interrupt is raised, and that event records and counters leave those of other pages
alone. -/

namespace Sys2Proof.Machine

/-- The registers in which event records, counters and pending messages show. -/
def logKey (k : Nat) : Bool := keyPage k = 0x60 || keyPage k = 0x62 || (keyPage k = 0x68 && decide (0xC00 ≤ keyOff k))

/-- Every other register is as it was. -/
def Dev.logsOnly (d e : Dev) : Prop := ∀ (k : Nat) (w : Word), logKey k = false → e.regs.get w k = d.regs.get w k

theorem Dev.logsOnly_refl (d : Dev) : d.logsOnly d := fun _ _ _ => rfl

theorem Dev.logsOnly_trans {d e f : Dev} (h : d.logsOnly e) (g : e.logsOnly f) : d.logsOnly f :=
  fun k w hk => (g k w hk).trans (h k w hk)

theorem Dev.logsOnly_foldl_of {α : Type} (g : Dev → α → Dev) (q : α → Prop) (hg : ∀ x a, q a → Dev.logsOnly x (g x a))
    (l : List α) (hl : ∀ a ∈ l, q a) : ∀ d : Dev, d.logsOnly (l.foldl g d) := by
  induction l with
  | nil => exact Dev.logsOnly_refl
  | cons a r ih => exact fun d => Dev.logsOnly_trans (hg d a (hl a (by simp))) (ih (fun b hb => hl b (by simp [hb])) _)

theorem Dev.logsOnly_ite {d e f : Dev} (c : Prop) [Decidable c] (h : d.logsOnly e) (g : d.logsOnly f) :
    d.logsOnly (if c then e else f) := by split <;> assumption

theorem Dev.logsOnly_setRegP (d : Dev) (r : Reg) (p c : Nat) (v : Word) (h : logKey (r.key p c) = true) : d.logsOnly (d.setRegP r p c v) := by
  refine fun k w hk => Dev.regs_setRegP_ne d r p c v w k ?_
  rintro rfl
  rw [h] at hk
  cases hk

theorem logKey_page (r : Reg) (p c : Nat) (h : r.page = 0x60 ∨ r.page = 0x62) : logKey (r.key p c) = true := by
  unfold logKey
  rw [Reg.keyPage_key]
  rcases h with h | h <;> simp [h]

theorem logKey_pba (i p c : Nat) (h : i < 2) : logKey ((HOST.MSIX_PBA.ix i).key p c) = true := by
  have : i = 0 ∨ i = 1 := by omega
  unfold logKey
  rcases this with rfl | rfl <;> (rw [Reg.keyOff_key _ _ _ (by decide), Reg.keyPage_key _ _ _]; rfl)

theorem Dev.logsOnly_fireVec (d : Dev) (v : Nat) (h : v < 64) : d.logsOnly (d.fireVec v) := by
  unfold Dev.fireVec
  exact Dev.logsOnly_ite _ (Dev.logsOnly_setRegP _ _ _ _ _ (logKey_pba _ _ _ (by omega))) (fun _ _ _ => rfl)

/-- The messages that a change of interrupt bits causes. -/
theorem Dev.watch_logs (d : Dev) (p : Nat) (f : Dev → Dev) : (f d).logsOnly (d.watch p f) := by
  unfold Dev.watch Dev.watchVecs
  exact Dev.logsOnly_foldl_of _ (fun v => v < 64) (fun x v hv => Dev.logsOnly_ite _ (Dev.logsOnly_fireVec x v hv) (Dev.logsOnly_refl x))
    _ (fun v hv => Dev.vecsOf_lt _ _ v (List.mem_eraseDups.mp hv)) _

theorem Dev.logsOnly_raise (d : Dev) (b : IntBit) (h : b.page = 0x60) : d.logsOnly (d.raise b) := by
  unfold Dev.raise Dev.raiseBits
  refine Dev.logsOnly_trans (Dev.logsOnly_setRegP d (INT_RAW b.page) 0 0 _ (logKey_page _ _ _ ?_)) (Dev.watch_logs _ _ _)
  rw [h]
  exact .inl rfl

theorem Dev.logsOnly_perfWrap (d : Dev) (c : Nat) : d.logsOnly (d.perfWrap c) :=
  Dev.logsOnly_trans (e := d.setNum (PERF.OVF.ix (c / 32)) (d.num (PERF.OVF.ix (c / 32)) ||| 1 <<< (c % 32)))
    (Dev.logsOnly_setRegP _ (PERF.OVF.ix (c / 32)) 0 0 _ (logKey_page _ _ _ (.inl rfl)))
    (Dev.logsOnly_ite _ (Dev.logsOnly_raise _ _ rfl) (Dev.logsOnly_refl _))

theorem Dev.logsOnly_settleCount (d : Dev) (c : Nat) : d.logsOnly (d.settleCount c) := by
  unfold Dev.settleCount
  simp only []
  generalize (Config.perfOpen d.obs.opens).toNat = v
  have h : d.logsOnly (Dev.perfPut { d with obs := { d.obs with opens := d.obs.opens + 1 } } c (v % 2 ^ 48)) := fun _ _ _ => rfl
  exact Dev.logsOnly_ite _ (Dev.logsOnly_trans h (Dev.logsOnly_perfWrap _ c)) h

/-- An island that acts at T_s. -/
theorem Dev.logsOnly_snapIsland (d : Dev) (i a : Nat) : d.logsOnly (d.snapIsland i a) := by
  unfold Dev.snapIsland
  simp only []
  exact Dev.logsOnly_trans (e := (d.obs.vague.filter fun c => d.perfIsland c == i).foldl Dev.settleCount d)
    (Dev.logsOnly_foldl_of _ (fun _ => True) (fun x c _ => Dev.logsOnly_settleCount x c) _ (fun _ _ => trivial) _) (fun _ _ _ => rfl)

theorem Dev.logsOnly_snapReach (d : Dev) (i : Nat) : d.logsOnly (d.snapReach i) := by
  unfold Dev.snapReach
  split
  · exact Dev.logsOnly_ite _ (Dev.logsOnly_snapIsland d i _) (Dev.logsOnly_refl d)
  · exact Dev.logsOnly_refl d

theorem Dev.logsOnly_perfAdd (m : Nat) : ∀ (d : Dev) (c n : Nat), d.logsOnly (Dev.perfAdd m d c n) := by
  induction m with
  | zero => intro d c n; exact Dev.logsOnly_refl d
  | succ m ih =>
    intro d c n
    unfold Dev.perfAdd
    refine Dev.logsOnly_ite _ (fun _ _ _ => rfl)
      (Dev.logsOnly_trans (e := (d.perfPut c ((d.obs.perf.get 0 c + n) % 2 ^ 48)).perfWrap c) ?_ ?_)
    · exact Dev.logsOnly_trans (e := d.perfPut c ((d.obs.perf.get 0 c + n) % 2 ^ 48)) (fun _ _ _ => rfl) (Dev.logsOnly_perfWrap _ c)
    · exact Dev.logsOnly_ite _ (ih _ _ _) (Dev.logsOnly_refl _)

theorem Dev.logsOnly_perf (d : Dev) (i e n : Nat) : d.logsOnly (d.perf i e n) := by
  unfold Dev.perf
  exact Dev.logsOnly_trans (Dev.logsOnly_snapReach d i)
    (Dev.logsOnly_ite _ (Dev.logsOnly_foldl_of _ (fun _ => True) (fun x c _ => Dev.logsOnly_perfAdd _ x c n) _ (fun _ _ => trivial) _)
      (Dev.logsOnly_refl _))

theorem Dev.logsOnly_bump (d : Dev) (r : Reg) (c n : Nat) (h : r.page = 0x60 ∨ r.page = 0x62) : d.logsOnly (d.bump r c n) :=
  Dev.logsOnly_setRegP d r 0 c _ (logKey_page _ _ _ h)

theorem Dev.logsOnly_numbered (d : Dev) (i : Nat) : d.logsOnly (d.numbered i) :=
  Dev.logsOnly_trans (Dev.logsOnly_bump d (EVLG.SEQ.ix i) 0 1 (.inr rfl)) (Dev.logsOnly_perf _ _ _ _)

theorem Dev.logsOnly_setEvQueue (d : Dev) (q : Nat) (x : EvQueue) : d.logsOnly (d.setEvQueue q x) := fun _ _ _ => rfl

theorem Dev.logsOnly_markLoss (d : Dev) (q n : Nat) : d.logsOnly (d.markLoss q n) := by
  unfold Dev.markLoss
  simp only []
  split
  · exact Dev.logsOnly_setEvQueue d q _
  · exact Dev.logsOnly_trans (Dev.logsOnly_setEvQueue d q _) (Dev.logsOnly_numbered _ 32)

theorem Dev.logsOnly_stage (d : Dev) (q : Nat) (e : Event) : d.logsOnly (d.stage q e) := by
  unfold Dev.stage
  simp only []
  exact Dev.logsOnly_ite _ (Dev.logsOnly_setEvQueue d q _)
    (Dev.logsOnly_trans (Dev.logsOnly_markLoss d q 1) (Dev.logsOnly_bump _ EVLG.Q_LOST q 1 (.inr rfl)))

theorem Dev.logsOnly_log (d : Dev) (i c p0 p1 p2 p3 : Nat) : d.logsOnly (d.log i c p0 p1 p2 p3) := by
  unfold Dev.log Dev.stageAll
  exact Dev.logsOnly_trans (Dev.logsOnly_numbered d i) (Dev.logsOnly_foldl_of _ (fun _ => True)
    (fun x q _ => Dev.logsOnly_ite _ (Dev.logsOnly_stage x q _) (Dev.logsOnly_refl x)) _ (fun _ _ => trivial) _)

/-! ### Interrupt bits -/

theorem logKey_raw (p : Nat) (h : p ≠ 0x60 ∧ p ≠ 0x62) : logKey ((INT_RAW p).key 0 0) = false := by
  unfold logKey
  rw [Reg.keyOff_key _ _ _ (show (0x010 : Nat) < 4096 by decide), Reg.keyPage_key]
  show (decide (p = 0x60) || decide (p = 0x62) || (decide (p = 0x68) && decide (0xC00 ≤ 0x010))) = false
  simp [h.1, h.2]

theorem Dev.logsOnly_raised {d e : Dev} (h : d.logsOnly e) (b : IntBit) (hb : b.page ≠ 0x60 ∧ b.page ≠ 0x62) :
    e.raised b = d.raised b := by
  unfold Dev.raised Dev.reg Dev.regP
  rw [h _ _ (logKey_raw b.page hb)]

theorem Dev.raised_log (d : Dev) (b : IntBit) (i c p0 p1 p2 p3 : Nat) (hb : b.page ≠ 0x60 ∧ b.page ≠ 0x62) :
    (d.log i c p0 p1 p2 p3).raised b = d.raised b := Dev.logsOnly_raised (Dev.logsOnly_log d i c p0 p1 p2 p3) b hb
theorem Dev.raised_opEnd (d : Dev) (b : IntBit) (p s c : Nat) (hb : b.page ≠ 0x60 ∧ b.page ≠ 0x62) :
    (d.opEnd p s c).raised b = d.raised b := Dev.raised_log d b 32 _ p s c 0 hb
theorem Dev.raised_perf (d : Dev) (b : IntBit) (i e n : Nat) (hb : b.page ≠ 0x60 ∧ b.page ≠ 0x62) :
    (d.perf i e n).raised b = d.raised b := Dev.logsOnly_raised (Dev.logsOnly_perf d i e n) b hb

theorem Dev.raised_setRegP (d : Dev) (b : IntBit) (r : Reg) (p c : Nat) (v : Word) (h : r.key p c ≠ (INT_RAW b.page).key 0 0) :
    (d.setRegP r p c v).raised b = d.raised b := by
  unfold Dev.raised Dev.reg
  rw [Dev.regP_setRegP_ne _ _ _ _ _ _ _ _ (Ne.symm h)]

theorem Dev.raised_setReg (d : Dev) (b : IntBit) (r : Reg) (v : Word) (c : Nat) (hr : r.off < 4096) (h : r.off ≠ 0x010) :
    (d.setReg r v c).raised b = d.raised b :=
  Dev.raised_setRegP d b r 0 c v (Reg.key_ne_off _ _ _ _ _ _ hr (show (0x010 : Nat) < 4096 by decide) h)
theorem Dev.raised_setNum (d : Dev) (b : IntBit) (r : Reg) (v c : Nat) (hr : r.off < 4096) (h : r.off ≠ 0x010) :
    (d.setNum r v c).raised b = d.raised b := Dev.raised_setReg d b r _ c hr h
theorem Dev.raised_setFld (d : Dev) (b : IntBit) (x : Fld) (v c : Nat) (hr : x.reg.off < 4096) (h : x.reg.off ≠ 0x010) :
    (d.setFld x v c).raised b = d.raised b := Dev.raised_setNum d b x.reg _ c hr h
theorem Dev.raised_bump (d : Dev) (b : IntBit) (r : Reg) (c n : Nat) (hr : r.off < 4096) (h : r.off ≠ 0x010) :
    (d.bump r c n).raised b = d.raised b := Dev.raised_setNum d b r _ c hr h

/-- Setting bits of one page's INT_RAW. -/
theorem Dev.raised_raise (d : Dev) (a b : IntBit) (hb : b.page ≠ 0x60 ∧ b.page ≠ 0x62) (hp : a.pos < 32) (hq : b.pos < 32) :
    (d.raise a).raised b = (decide (a = b) || d.raised b) := by
  unfold Dev.raise Dev.raiseBits
  rw [Dev.logsOnly_raised (Dev.watch_logs _ _ _) b hb]
  by_cases hpg : a.page = b.page
  · unfold Dev.raised
    rw [hpg, Dev.reg_setReg_same]
    rw [BitVec.getLsbD_or]
    have : (BitVec.ofNat 32 (1 <<< a.pos)).getLsbD b.pos = decide (a.pos = b.pos) := by
      rw [BitVec.getLsbD_ofNat]
      simp only [hq, decide_true, Bool.true_and, Nat.one_shiftLeft, Nat.testBit_two_pow]
    rw [this, Bool.or_comm]
    congr 1
    cases a; cases b
    simp only [IntBit.mk.injEq] at *
    simp [hpg]
  · have hne : a ≠ b := fun h => hpg (by rw [h])
    simp only [hne, decide_false, Bool.false_or]
    refine Dev.raised_setRegP _ _ _ _ _ _ ?_
    exact Reg.key_ne_page _ _ _ _ _ _ hpg

end Sys2Proof.Machine
end

