-- ==== Sys2Proof/Laws/Reads.lean ====
section
/-! SUPPORT. Updates of the parts that are no registers leave every register, field and interrupt bit as it reads. -/

namespace Sys2Proof.Machine

variable (d : Dev)

/-- Devices with the same registers read the same. -/
theorem Dev.fld_of_regs {d e : Dev} (h : e.regs = d.regs) (x : Fld) (c : Nat) : e.fld x c = d.fld x c := by
  unfold Dev.fld Dev.num Dev.reg Dev.regP
  rw [h]
theorem Dev.num_of_regs {d e : Dev} (h : e.regs = d.regs) (r : Reg) (c : Nat) : e.num r c = d.num r c := by
  unfold Dev.num Dev.reg Dev.regP
  rw [h]
theorem Dev.raised_of_regs {d e : Dev} (h : e.regs = d.regs) (b : IntBit) : e.raised b = d.raised b := by
  unfold Dev.raised Dev.reg Dev.regP
  rw [h]

@[simp] theorem Dev.emit_fld (o : Output) (x : Fld) (c : Nat) : (d.emit o).fld x c = d.fld x c := rfl
@[simp] theorem Dev.emit_on (o : Output) (x : Fld) (c : Nat) : (d.emit o).on x c = d.on x c := rfl
@[simp] theorem Dev.emit_num (o : Output) (r : Reg) (c : Nat) : (d.emit o).num r c = d.num r c := rfl
@[simp] theorem Dev.emit_regP (o : Output) (r : Reg) (q c : Nat) : (d.emit o).regP r q c = d.regP r q c := rfl
@[simp] theorem Dev.emit_raised (o : Output) (b : IntBit) : (d.emit o).raised b = d.raised b := rfl
@[simp] theorem Dev.drawn_fld (x : Fld) (c : Nat) : (d.drawn).fld x c = d.fld x c := rfl
@[simp] theorem Dev.drawn_on (x : Fld) (c : Nat) : (d.drawn).on x c = d.on x c := rfl
@[simp] theorem Dev.drawn_num (r : Reg) (c : Nat) : (d.drawn).num r c = d.num r c := rfl
@[simp] theorem Dev.drawn_regP (r : Reg) (q c : Nat) : (d.drawn).regP r q c = d.regP r q c := rfl
@[simp] theorem Dev.drawn_raised (b : IntBit) : (d.drawn).raised b = d.raised b := rfl
@[simp] theorem Dev.freed_fld (x : Fld) (c : Nat) : (d.freed).fld x c = d.fld x c := rfl
@[simp] theorem Dev.freed_on (x : Fld) (c : Nat) : (d.freed).on x c = d.on x c := rfl
@[simp] theorem Dev.freed_num (r : Reg) (c : Nat) : (d.freed).num r c = d.num r c := rfl
@[simp] theorem Dev.freed_regP (r : Reg) (q c : Nat) : (d.freed).regP r q c = d.regP r q c := rfl
@[simp] theorem Dev.freed_raised (b : IntBit) : (d.freed).raised b = d.raised b := rfl
@[simp] theorem Dev.setSup_fld (y : Supply) (x : Fld) (c : Nat) : (d.setSup y).fld x c = d.fld x c := rfl
@[simp] theorem Dev.setSup_on (y : Supply) (x : Fld) (c : Nat) : (d.setSup y).on x c = d.on x c := rfl
@[simp] theorem Dev.setSup_num (y : Supply) (r : Reg) (c : Nat) : (d.setSup y).num r c = d.num r c := rfl
@[simp] theorem Dev.setSup_regP (y : Supply) (r : Reg) (q c : Nat) : (d.setSup y).regP r q c = d.regP r q c := rfl
@[simp] theorem Dev.setSup_raised (y : Supply) (b : IntBit) : (d.setSup y).raised b = d.raised b := rfl
@[simp] theorem Dev.setSpore_fld (y : Spore) (x : Fld) (c : Nat) : (d.setSpore y).fld x c = d.fld x c := rfl
@[simp] theorem Dev.setSpore_on (y : Spore) (x : Fld) (c : Nat) : (d.setSpore y).on x c = d.on x c := rfl
@[simp] theorem Dev.setSpore_num (y : Spore) (r : Reg) (c : Nat) : (d.setSpore y).num r c = d.num r c := rfl
@[simp] theorem Dev.setSpore_regP (y : Spore) (r : Reg) (q c : Nat) : (d.setSpore y).regP r q c = d.regP r q c := rfl
@[simp] theorem Dev.setSpore_raised (y : Spore) (b : IntBit) : (d.setSpore y).raised b = d.raised b := rfl
@[simp] theorem Dev.setBoot_fld (y : Boot) (x : Fld) (c : Nat) : (d.setBoot y).fld x c = d.fld x c := rfl
@[simp] theorem Dev.setBoot_on (y : Boot) (x : Fld) (c : Nat) : (d.setBoot y).on x c = d.on x c := rfl
@[simp] theorem Dev.setBoot_num (y : Boot) (r : Reg) (c : Nat) : (d.setBoot y).num r c = d.num r c := rfl
@[simp] theorem Dev.setBoot_regP (y : Boot) (r : Reg) (q c : Nat) : (d.setBoot y).regP r q c = d.regP r q c := rfl
@[simp] theorem Dev.setBoot_raised (y : Boot) (b : IntBit) : (d.setBoot y).raised b = d.raised b := rfl
@[simp] theorem Dev.setFlow_fld (y : FlowSt) (x : Fld) (c : Nat) : (d.setFlow y).fld x c = d.fld x c := rfl
@[simp] theorem Dev.setFlow_on (y : FlowSt) (x : Fld) (c : Nat) : (d.setFlow y).on x c = d.on x c := rfl
@[simp] theorem Dev.setFlow_num (y : FlowSt) (r : Reg) (c : Nat) : (d.setFlow y).num r c = d.num r c := rfl
@[simp] theorem Dev.setFlow_regP (y : FlowSt) (r : Reg) (q c : Nat) : (d.setFlow y).regP r q c = d.regP r q c := rfl
@[simp] theorem Dev.setFlow_raised (y : FlowSt) (b : IntBit) : (d.setFlow y).raised b = d.raised b := rfl
@[simp] theorem Dev.setMem_fld (y : MemSt) (x : Fld) (c : Nat) : (d.setMem y).fld x c = d.fld x c := rfl
@[simp] theorem Dev.setMem_on (y : MemSt) (x : Fld) (c : Nat) : (d.setMem y).on x c = d.on x c := rfl
@[simp] theorem Dev.setMem_num (y : MemSt) (r : Reg) (c : Nat) : (d.setMem y).num r c = d.num r c := rfl
@[simp] theorem Dev.setMem_regP (y : MemSt) (r : Reg) (q c : Nat) : (d.setMem y).regP r q c = d.regP r q c := rfl
@[simp] theorem Dev.setMem_raised (y : MemSt) (b : IntBit) : (d.setMem y).raised b = d.raised b := rfl
@[simp] theorem Dev.setHostSt_fld (y : HostSt) (x : Fld) (c : Nat) : (d.setHostSt y).fld x c = d.fld x c := rfl
@[simp] theorem Dev.setHostSt_on (y : HostSt) (x : Fld) (c : Nat) : (d.setHostSt y).on x c = d.on x c := rfl
@[simp] theorem Dev.setHostSt_num (y : HostSt) (r : Reg) (c : Nat) : (d.setHostSt y).num r c = d.num r c := rfl
@[simp] theorem Dev.setHostSt_regP (y : HostSt) (r : Reg) (q c : Nat) : (d.setHostSt y).regP r q c = d.regP r q c := rfl
@[simp] theorem Dev.setHostSt_raised (y : HostSt) (b : IntBit) : (d.setHostSt y).raised b = d.raised b := rfl
@[simp] theorem Dev.setTandem_fld (y : TandemSt) (x : Fld) (c : Nat) : (d.setTandem y).fld x c = d.fld x c := rfl
@[simp] theorem Dev.setTandem_on (y : TandemSt) (x : Fld) (c : Nat) : (d.setTandem y).on x c = d.on x c := rfl
@[simp] theorem Dev.setTandem_num (y : TandemSt) (r : Reg) (c : Nat) : (d.setTandem y).num r c = d.num r c := rfl
@[simp] theorem Dev.setTandem_regP (y : TandemSt) (r : Reg) (q c : Nat) : (d.setTandem y).regP r q c = d.regP r q c := rfl
@[simp] theorem Dev.setTandem_raised (y : TandemSt) (b : IntBit) : (d.setTandem y).raised b = d.raised b := rfl
@[simp] theorem Dev.setUnits_fld (y : Units) (x : Fld) (c : Nat) : (d.setUnits y).fld x c = d.fld x c := rfl
@[simp] theorem Dev.setUnits_on (y : Units) (x : Fld) (c : Nat) : (d.setUnits y).on x c = d.on x c := rfl
@[simp] theorem Dev.setUnits_num (y : Units) (r : Reg) (c : Nat) : (d.setUnits y).num r c = d.num r c := rfl
@[simp] theorem Dev.setUnits_regP (y : Units) (r : Reg) (q c : Nat) : (d.setUnits y).regP r q c = d.regP r q c := rfl
@[simp] theorem Dev.setUnits_raised (y : Units) (b : IntBit) : (d.setUnits y).raised b = d.raised b := rfl
@[simp] theorem Dev.setIsle_fld (i : Nat) (y : Isle) (x : Fld) (c : Nat) : (d.setIsle i y).fld x c = d.fld x c := rfl
@[simp] theorem Dev.setIsle_on (i : Nat) (y : Isle) (x : Fld) (c : Nat) : (d.setIsle i y).on x c = d.on x c := rfl
@[simp] theorem Dev.setIsle_num (i : Nat) (y : Isle) (r : Reg) (c : Nat) : (d.setIsle i y).num r c = d.num r c := rfl
@[simp] theorem Dev.setIsle_regP (i : Nat) (y : Isle) (r : Reg) (q c : Nat) : (d.setIsle i y).regP r q c = d.regP r q c := rfl
@[simp] theorem Dev.setIsle_raised (i : Nat) (y : Isle) (b : IntBit) : (d.setIsle i y).raised b = d.raised b := rfl
@[simp] theorem Dev.setPort_fld (p : Nat) (y : PortSt) (x : Fld) (c : Nat) : (d.setPort p y).fld x c = d.fld x c := rfl
@[simp] theorem Dev.setPort_on (p : Nat) (y : PortSt) (x : Fld) (c : Nat) : (d.setPort p y).on x c = d.on x c := rfl
@[simp] theorem Dev.setPort_num (p : Nat) (y : PortSt) (r : Reg) (c : Nat) : (d.setPort p y).num r c = d.num r c := rfl
@[simp] theorem Dev.setPort_regP (p : Nat) (y : PortSt) (r : Reg) (q c : Nat) : (d.setPort p y).regP r q c = d.regP r q c := rfl
@[simp] theorem Dev.setPort_raised (p : Nat) (y : PortSt) (b : IntBit) : (d.setPort p y).raised b = d.raised b := rfl
@[simp] theorem Dev.setFrame_fld (k : Nat) (f : Frame) (x : Fld) (c : Nat) : (d.setFrame k f).fld x c = d.fld x c := rfl
@[simp] theorem Dev.setFrame_on (k : Nat) (f : Frame) (x : Fld) (c : Nat) : (d.setFrame k f).on x c = d.on x c := rfl
@[simp] theorem Dev.setFrame_num (k : Nat) (f : Frame) (r : Reg) (c : Nat) : (d.setFrame k f).num r c = d.num r c := rfl
@[simp] theorem Dev.setFrame_regP (k : Nat) (f : Frame) (r : Reg) (q c : Nat) : (d.setFrame k f).regP r q c = d.regP r q c := rfl
@[simp] theorem Dev.setFrame_raised (k : Nat) (f : Frame) (b : IntBit) : (d.setFrame k f).raised b = d.raised b := rfl
@[simp] theorem Dev.setLink_fld (p i : Nat) (l : Link) (x : Fld) (c : Nat) : (d.setLink p i l).fld x c = d.fld x c := rfl
@[simp] theorem Dev.setLink_on (p i : Nat) (l : Link) (x : Fld) (c : Nat) : (d.setLink p i l).on x c = d.on x c := rfl
@[simp] theorem Dev.setLink_num (p i : Nat) (l : Link) (r : Reg) (c : Nat) : (d.setLink p i l).num r c = d.num r c := rfl
@[simp] theorem Dev.setLink_regP (p i : Nat) (l : Link) (r : Reg) (q c : Nat) : (d.setLink p i l).regP r q c = d.regP r q c := rfl
@[simp] theorem Dev.setLink_raised (p i : Nat) (l : Link) (b : IntBit) : (d.setLink p i l).raised b = d.raised b := rfl
@[simp] theorem Dev.setPri_fld (q p : Nat) (y : Pri) (x : Fld) (c : Nat) : (d.setPri q p y).fld x c = d.fld x c := rfl
@[simp] theorem Dev.setPri_on (q p : Nat) (y : Pri) (x : Fld) (c : Nat) : (d.setPri q p y).on x c = d.on x c := rfl
@[simp] theorem Dev.setPri_num (q p : Nat) (y : Pri) (r : Reg) (c : Nat) : (d.setPri q p y).num r c = d.num r c := rfl
@[simp] theorem Dev.setPri_regP (q0 p : Nat) (y : Pri) (r : Reg) (q c : Nat) : (d.setPri q0 p y).regP r q c = d.regP r q c := rfl
@[simp] theorem Dev.setPri_raised (q p : Nat) (y : Pri) (b : IntBit) : (d.setPri q p y).raised b = d.raised b := rfl
@[simp] theorem Dev.setHost_fld (i e : Nat) (x : Fld) (c : Nat) : (d.setHost i e).fld x c = d.fld x c := rfl
@[simp] theorem Dev.setHost_on (i e : Nat) (x : Fld) (c : Nat) : (d.setHost i e).on x c = d.on x c := rfl
@[simp] theorem Dev.setHost_num (i e : Nat) (r : Reg) (c : Nat) : (d.setHost i e).num r c = d.num r c := rfl
@[simp] theorem Dev.setHost_regP (i e : Nat) (r : Reg) (q c : Nat) : (d.setHost i e).regP r q c = d.regP r q c := rfl
@[simp] theorem Dev.setHost_raised (i e : Nat) (b : IntBit) : (d.setHost i e).raised b = d.raised b := rfl
@[simp] theorem Dev.setTask_fld (k i : Nat) (t : Option Task) (x : Fld) (c : Nat) : (d.setTask k i t).fld x c = d.fld x c := rfl
@[simp] theorem Dev.setTask_on (k i : Nat) (t : Option Task) (x : Fld) (c : Nat) : (d.setTask k i t).on x c = d.on x c := rfl
@[simp] theorem Dev.setTask_num (k i : Nat) (t : Option Task) (r : Reg) (c : Nat) : (d.setTask k i t).num r c = d.num r c := rfl
@[simp] theorem Dev.setTask_regP (k i : Nat) (t : Option Task) (r : Reg) (q c : Nat) : (d.setTask k i t).regP r q c = d.regP r q c := rfl
@[simp] theorem Dev.setTask_raised (k i : Nat) (t : Option Task) (b : IntBit) : (d.setTask k i t).raised b = d.raised b := rfl
@[simp] theorem Dev.setThread_fld (k : Nat) (t : Thread) (x : Fld) (c : Nat) : (d.setThread k t).fld x c = d.fld x c := rfl
@[simp] theorem Dev.setThread_on (k : Nat) (t : Thread) (x : Fld) (c : Nat) : (d.setThread k t).on x c = d.on x c := rfl
@[simp] theorem Dev.setThread_num (k : Nat) (t : Thread) (r : Reg) (c : Nat) : (d.setThread k t).num r c = d.num r c := rfl
@[simp] theorem Dev.setThread_regP (k : Nat) (t : Thread) (r : Reg) (q c : Nat) : (d.setThread k t).regP r q c = d.regP r q c := rfl
@[simp] theorem Dev.setThread_raised (k : Nat) (t : Thread) (b : IntBit) : (d.setThread k t).raised b = d.raised b := rfl
@[simp] theorem Dev.setUnit_fld (p i u : Nat) (x : Fld) (c : Nat) : (d.setUnit p i u).fld x c = d.fld x c := rfl
@[simp] theorem Dev.setUnit_on (p i u : Nat) (x : Fld) (c : Nat) : (d.setUnit p i u).on x c = d.on x c := rfl
@[simp] theorem Dev.setUnit_num (p i u : Nat) (r : Reg) (c : Nat) : (d.setUnit p i u).num r c = d.num r c := rfl
@[simp] theorem Dev.setUnit_regP (p i u : Nat) (r : Reg) (q c : Nat) : (d.setUnit p i u).regP r q c = d.regP r q c := rfl
@[simp] theorem Dev.setUnit_raised (p i u : Nat) (b : IntBit) : (d.setUnit p i u).raised b = d.raised b := rfl
@[simp] theorem Dev.flashWrite_fld (a : Nat) (bs : List Byte) (x : Fld) (c : Nat) : (d.flashWrite a bs).fld x c = d.fld x c := rfl
@[simp] theorem Dev.flashWrite_on (a : Nat) (bs : List Byte) (x : Fld) (c : Nat) : (d.flashWrite a bs).on x c = d.on x c := rfl
@[simp] theorem Dev.flashWrite_num (a : Nat) (bs : List Byte) (r : Reg) (c : Nat) : (d.flashWrite a bs).num r c = d.num r c := rfl
@[simp] theorem Dev.flashWrite_regP (a : Nat) (bs : List Byte) (r : Reg) (q c : Nat) : (d.flashWrite a bs).regP r q c = d.regP r q c := rfl
@[simp] theorem Dev.flashWrite_raised (a : Nat) (bs : List Byte) (b : IntBit) : (d.flashWrite a bs).raised b = d.raised b := rfl
@[simp] theorem Dev.dmaWrite_fld (a : Nat) (bs : List Byte) (x : Fld) (c : Nat) : (d.dmaWrite a bs).fld x c = d.fld x c := rfl
@[simp] theorem Dev.dmaWrite_on (a : Nat) (bs : List Byte) (x : Fld) (c : Nat) : (d.dmaWrite a bs).on x c = d.on x c := rfl
@[simp] theorem Dev.dmaWrite_num (a : Nat) (bs : List Byte) (r : Reg) (c : Nat) : (d.dmaWrite a bs).num r c = d.num r c := rfl
@[simp] theorem Dev.dmaWrite_regP (a : Nat) (bs : List Byte) (r : Reg) (q c : Nat) : (d.dmaWrite a bs).regP r q c = d.regP r q c := rfl
@[simp] theorem Dev.dmaWrite_raised (a : Nat) (bs : List Byte) (b : IntBit) : (d.dmaWrite a bs).raised b = d.raised b := rfl

end Sys2Proof.Machine
end

