-- ==== Sys2Proof/Tests/Slice0.lean ====
section
/-! SUPPORT. The helpers of the tests, what WellFormed refuses, and small checks on fixed values. Each check names where its
expected value comes from. -/

namespace Sys2Proof.Tests

/- In order, one after another: a check that the kernel evaluates waits for everything before it, and hundreds that wait
at once would each hold a thread. -/
set_option Elab.async false

open Sys2Proof Sys2Proof.Machine

/-- A ready module, some hours after its start. -/
def dev0 : Dev :=
  let d := (Dev.reset.setFld TOP.BOOT_STATUS_STAGE 11).setFld TOP.BOOT_STATUS_READY 1
  { d with sup := { d.sup with phase := .on }, clk := { d.clk with sec := 100000, up := 10 ^ 15 } }
def mod0 : State := { dev := dev0, pending := [] }
def modOf (f : Dev → Dev) : State := { dev := f dev0, pending := [] }
def wTask (d : Dev) (k i : Nat) (t : Task) : Dev :=
  (d.setThread k { d.thread k with task := some i, wait := none }).setTask (thrFrond k) i (some t)
/-- A thread at word 0 of a control store of one microword. -/
def wMicro (d : Dev) (w : Nat) : Dev := { d with eng := { d.eng with mw := 1, nw := 1, micro := [(0, w)] } }
/-- An image of 256 bytes with an empty register list. -/
def wImage : List Byte :=
  let b := leBytes 4 0x53545830 ++ leBytes 2 1 ++ leBytes 2 1 ++ leBytes 4 256 ++ List.replicate 52 0 ++ leBytes 4 1 ++ leBytes 4 0x50 ++
    List.replicate 180 0
  b ++ leBytes 4 (crc32c b)
/-- A microcode section of one microword and one nanoword, its key and its signature. -/
def wSection : List Byte :=
  leBytes 4 0x49435631 ++ leBytes 2 1 ++ leBytes 2 0 ++ leBytes 4 1 ++ leBytes 2 1 ++ leBytes 2 1 ++ leBytes 4 0x120 ++ leBytes 4 0x140 ++
  List.replicate 40 0 ++ [4] ++
  beBytes 48 0x283c1d7365ce4788f29f8ebf234edffead6fe997fbea5ffa2d58cc9dfa7b1c508b05526f55b9ebb2040f05b48fb6d0e1 ++
  beBytes 48 0x9475c99061e41b88ba52efdb8c1690471a61d867ed799729d9c92cd01dbd225630d84ede32a78f9e64664cdac512ef8c ++
  List.replicate 159 0 ++
  beBytes 48 0xaa87ca22be8b05378eb1c71ef320ad746e1d3b628ba79b9859f741e082542a385502f25dbf55296c3a545e3872760ab7 ++
  beBytes 48 0x866177bf5a1a09ea8851a74c2b39b142b936591eaa129c48cc7f09873fd8b9eb23fe15a6d2ec1c866b5ee86a30cb0c17
/-- A power-fail record of sequence 0. -/
def wRecord : List Byte := let b := leBytes 4 0x50460001 ++ List.replicate 248 0; b ++ leBytes 4 (crc32c b)
/-- A device whose host table holds one entry, in the first way of the bucket of its key. -/
def putHost (d : Dev) (key e : Nat) : Dev :=
  { d with look := { d.look with hosts := [(0 * 262144 + d.hostBucket 1 0 key * 8 + 0, e)] } }
theorem hostFind_put (d : Dev) (key e : Nat) (h : e % 2 ^ 79 = key % 2 ^ 64 + 0 % 4096 * 2 ^ 64 + 1 * 2 ^ 76) :
    (putHost d key e).hostFind 0 1 0 key = some (0 * 262144 + d.hostBucket 1 0 key * 8 + 0) := by
  simp [putHost, Dev.hostFind, Dev.hostFindPart, hostWays, Dev.hostBucket, Dev.hostAt, SMap.get, List.range, List.range.loop] at h ⊢
  simp [h]
theorem hostAt_put (d : Dev) (key e : Nat) : (putHost d key e).hostAt (0 * 262144 + d.hostBucket 1 0 key * 8 + 0) = e := by
  simp [putHost, Dev.hostAt, SMap.get]
/-- A device with a learn waiting. -/
def devLearn : Dev := { dev0 with look := { dev0.look with learns := [(0, [{ mac := 1, dom := 0, port := 0, stamp := 0 }])] } }
/-- A device whose command entry is of type 1. -/
def devEntry : Dev := (dev0.setFld FWDT.CMD_STAT_BUSY 0).setFld FWDT.CMD_ENTRY_TYPE 1

/-! ### What WellFormed refuses: the first value past each range; the last one in it is taken -/

theorem test_wf_straps : (Instr.powerOnReset 32 0).wf = false ∧ (Instr.powerOnReset 31 0).wf = true := by decide +kernel
theorem test_wf_temp : (Instr.thermAlarm 32768 0).wf = false ∧ (Instr.thermAlarm 32767 0).wf = true := by decide +kernel
theorem test_wf_island : (Instr.thermAlarm 0 34).wf = false ∧ (Instr.thermAlarm 0 33).wf = true := by decide +kernel
theorem test_wf_path : (Instr.registerWrite 2 0 0 0 0 []).wf = false ∧ (Instr.registerWrite 1 0 0 0 0 []).wf = true := by decide +kernel
theorem test_wf_enables : (Instr.registerWrite 0 0 16 0 0 []).wf = false ∧ (Instr.registerWrite 0 0 15 0 0 []).wf = true := by decide +kernel
theorem test_wf_page : (Instr.selWrite 0 128 0).wf = false ∧ (Instr.selWrite 0 127 0).wf = true := by decide +kernel
theorem test_wf_pipes : (Instr.pauseGo 16).wf = false ∧ (Instr.pauseGo 15).wf = true := by decide +kernel
theorem test_wf_level : (Instr.pin 4).wf = false ∧ (Instr.pin 3).wf = true := by decide +kernel
theorem test_wf_port : (Instr.txtsTagRead 0 34).wf = false ∧ (Instr.txtsTagRead 0 33).wf = true := by decide +kernel
theorem test_wf_class : (Instr.receivedPauseExpiry 0 8).wf = false ∧ (Instr.receivedPauseExpiry 0 7).wf = true := by decide +kernel
theorem test_wf_pipe : (Instr.headParse 4 false []).wf = false ∧ (Instr.headParse 3 false []).wf = true := by decide +kernel
theorem test_wf_frond : (Instr.taskDispatch 8).wf = false ∧ (Instr.taskDispatch 7).wf = true := by decide +kernel
theorem test_wf_thread : (Instr.next 0 256 ⟨.clean, .clean⟩).wf = false ∧ (Instr.next 0 255 ⟨.clean, .clean⟩).wf = true := by decide +kernel
theorem test_wf_preset : (Instr.init 0 0 4 none none).wf = false ∧ (Instr.init 0 0 3 none none).wf = true := by decide +kernel
theorem test_wf_prio : (Instr.refill 0 4 []).wf = false ∧ (Instr.refill 0 3 []).wf = true := by decide +kernel
theorem test_wf_target : (Instr.marchGo 9 0).wf = false ∧ (Instr.marchGo 8 0).wf = true := by decide +kernel
theorem test_wf_mode : (Instr.marchGo 0 4).wf = false ∧ (Instr.marchGo 0 3).wf = true := by decide +kernel
theorem test_wf_unit : (Instr.hostChkvInit 9 0).wf = false ∧ (Instr.hostChkvInit 8 0).wf = true := by decide +kernel
theorem test_wf_part : (Instr.contextRestore 0 0 3 0).wf = false ∧ (Instr.contextRestore 0 0 2 0).wf = true := by decide +kernel
theorem test_wf_channel : (Instr.refresh 64 0 false).wf = false ∧ (Instr.refresh 63 0 false).wf = true := by decide +kernel
theorem test_wf_bank : (Instr.refresh 0 16 false).wf = false ∧ (Instr.refresh 0 15 false).wf = true := by decide +kernel
theorem test_wf_queue : (Instr.eventRecordWrite 16).wf = false ∧ (Instr.eventRecordWrite 15).wf = true := by decide +kernel
theorem test_wf_ring : (Instr.ringAvailWrite 0 64 0).wf = false ∧ (Instr.ringAvailWrite 0 63 0).wf = true := by decide +kernel
theorem test_wf_block : (Instr.mboxWrite (List.replicate 256 0) false).wf = false ∧ (Instr.mboxWrite (List.replicate 255 0) false).wf = true := by decide +kernel
theorem test_wf_lane : (Instr.cdrLockLost 36).wf = false ∧ (Instr.cdrLockLost 35).wf = true := by decide +kernel

/-! ### Check values of the four presets (R320), and of the boot image's CRC-32C (R43) -/

/-- The nine ASCII bytes of R320. -/
def checkString : List Byte := [0x31, 0x32, 0x33, 0x34, 0x35, 0x36, 0x37, 0x38, 0x39]
/-- The result of a preset over the check string, from an initial value. -/
def checkOf (p start : Nat) : Nat := (presetOf p).result ((presetOf p).feed start checkString)

theorem test_check_crc32 : checkOf 0 0xFFFFFFFF = 0xCBF43926 := by decide +kernel
theorem test_check_crc32c : checkOf 1 0xFFFFFFFF = 0xE3069283 := by decide +kernel
theorem test_check_crc16 : checkOf 2 0xFFFF = 0x29B1 := by decide +kernel
theorem test_check_crc16_from_zero : checkOf 2 0 = 0x31C3 := by decide +kernel
theorem test_check_crc64 : checkOf 3 0 = 0x6C40DF5F0B497347 := by decide +kernel
theorem test_image_crc : crc32c checkString = 0xE3069283 := by decide +kernel
theorem test_fcs : fcsOf checkString = 0xCBF43926 := by decide +kernel

/-! ### Published vectors: FIPS 197 appendix C, the SipHash paper's appendix A, FIPS 180-4's one block example -/

/-- The bytes 0, 1, 2 up to `n` of them. -/
def counted (n : Nat) : List Byte := (List.range n).map fun i => BitVec.ofNat 8 i

theorem test_aes128 : beNat (aesBlock false (counted 16) (beBytes 16 0x00112233445566778899AABBCCDDEEFF)) =
    0x69C4E0D86A7B0430D8CDB78070B4C55A := by decide +kernel
theorem test_aes256_back : beNat (aesBlock true (counted 32) (beBytes 16 0x8EA2B7CA516745BFEAFC49904B496089)) =
    0x00112233445566778899AABBCCDDEEFF := by decide +kernel
theorem test_siphash : sipHash (leNat (counted 16)) (counted 15) = 0xA129CA6149BE45E5 := by decide +kernel
theorem test_sha384 : sha384 [0x61, 0x62, 0x63] =
    0xCB00753F45A35E8BB5A03D699AC65007272C32AB0EDED1631A8B605A43FF5BED8086072BA1E7CC2358BAECA134C825A7 := by decide +kernel

/-! ### The worked subscriber of the traffic manager's chapter: each refill adds 409.6 bytes at 100 Mb/s, 81.92 at 20 Mb/s -/

theorem test_refill_peak : refillOf 2024 100000 = 4096 * 65536 / 10 := by decide
theorem test_refill_committed : refillOf 2024 20000 = 8192 * 65536 / 100 := by decide

/-! ### Words of the engine chapter's program: 0x2012_0407 branches on Z to 0x0407, 0x20BF_0001 ends -/

theorem test_word_nano : wordNano 0x20120407 = 0x201 ∧ wordCond 0x20120407 = 2 ∧ wordImm 0x20120407 = 0x407 := by decide
theorem test_word_end : wordNano 0x20BF0001 = 0x20B ∧ wordCond 0x20BF0001 = 15 := by decide

/-- Where thread 0 of frond 0 is after the word at 0 of a control store, with Z as given; IMM's target is 9. -/
def afterIfZ (z : Bool) : Nat :=
  match Dev.branch (let d := wTask (wMicro dev0 0x00020009) (thrKey 0 0) 0 {}; d.updThread (thrKey 0 0) fun th => { th with z := z })
    (thrKey 0 0) 2 ⟨.clean, .clean⟩ (fun _ th => th.z) with
  | d => (d.thread (thrKey 0 0)).pc

theorem test_if_z_taken : afterIfZ true = 9 := by decide +kernel
theorem test_if_z_not_taken : afterIfZ false = 1 := by decide +kernel

/-! ### Reset values that the register tables give -/

theorem test_reset_queue : State.reset.pending = [] := by decide
theorem test_reset_storm : Dev.reset.reg FWDT.HT_STAT = 0 := by decide +kernel
theorem test_empty_queue_idles : ∃ t, step State.reset = .next t ∧ t.pending = [] := ⟨_, rfl, by decide +kernel⟩

end Sys2Proof.Tests
end

