-- ==== Sys2Proof/Tests/Witness1.lean ====
section
/-! SUPPORT. For each clause of CommandFromTheFront, ResetStateAndIdleStep, LoaderInterruptsAtReset,
InterruptSummaryBits, ClockStaysInRange, FusesNeverReturn, NothingHappensToWhatIsOff, ClosedPagesIgnoreCommands,
SupplyPhases, ShutdownsAndThermalCap, WarningsAndRecords, StartUpStages, SporeEntry, SporeWake, RegisterAccesses,
SmbusTarget, CommitsTakeEffectTogether, PausesOfPipelines,
PaceFollowsItsOrder: a state and operands that meet its hypotheses together. -/

namespace Sys2Proof.Tests

/- In order, one after another: a check that the kernel evaluates waits for everything before it, and hundreds that wait
at once would each hold a thread. -/
set_option Elab.async false
set_option linter.unusedSimpArgs false
set_option linter.unusedVariables false
set_option linter.unnecessarySeqFocus false

open Sys2Proof Sys2Proof.Machine

/-! ### CommandFromTheFront -/

theorem witness_CommandFromTheFront_0 : ∃ (c : Instr) (s : State) (rest : List Instr), s.pending = c :: rest :=
  ⟨.wakeN, { mod0 with pending := [.wakeN] }, [], rfl⟩
/-! ### ResetStateAndIdleStep -/

theorem witness_ResetStateAndIdleStep_11 : ∃ (s : State), s.pending = [] ∧ ¬ s.On :=
  ⟨State.reset, by (try simp only [State.On, State.Awake, State.Opens, State.Ready, Dev.quiet, Dev.acts, Clock.ok]) <;> decide +kernel⟩
theorem witness_ResetStateAndIdleStep_12 : ∃ (s : State), s.pending = [] ∧ s.On ∧ s.dev.tandem.queue = [] :=
  ⟨(modOf fun d => { d with tandem := { d.tandem with queue := [] } }),
    by (try simp only [State.On, State.Awake, State.Opens, State.Ready, Dev.quiet, Dev.acts, Clock.ok]) <;> decide +kernel⟩
/-! ### LoaderInterruptsAtReset -/

theorem witness_LoaderInterruptsAtReset_1 : ∃ (b : IntBit), b.page = 0x02 ∧ b.pos < 32 :=
  ⟨(let zz : IntBit := ⟨2, 0⟩; { zz with page := 0x02 }),
    by (try simp only [State.On, State.Awake, State.Opens, State.Ready, Dev.quiet, Dev.acts, Clock.ok]) <;> decide +kernel⟩
/-! ### InterruptSummaryBits -/

theorem witness_InterruptSummaryBits_0 : ∃ (d : Dev) (path : Nat) (p : Nat), d.pageOpen 0 = true ∧ p < 128 :=
  ⟨dev0, 0, 0, by (try simp only [State.On, State.Awake, State.Opens, State.Ready, Dev.quiet, Dev.acts, Clock.ok]) <;> decide +kernel⟩
/-! ### ClockStaysInRange -/

theorem witness_ClockStaysInRange_0 : ∃ (s : State) (t : State), Clock.ok s.dev.clk ∧ step s = .next t :=
  ⟨mod0, _, by (try simp only [Clock.ok]) <;> decide +kernel, rfl⟩
/-! ### FusesNeverReturn -/

theorem witness_FusesNeverReturn_0 : ∃ (s : State) (t : State), step s = .next t :=
  ⟨mod0, _, rfl⟩
/-! ### NothingHappensToWhatIsOff -/

theorem witness_NothingHappensToWhatIsOff_0 : ∃ (c : Instr) (s : State), c.needsNoDie = false ∧ ¬ s.On :=
  ⟨.wakeN, State.reset, by (try simp only [State.On, State.Awake, State.Opens, State.Ready, Dev.quiet, Dev.acts, Clock.ok]) <;> decide +kernel⟩
theorem witness_NothingHappensToWhatIsOff_1 : ∃ (c : Instr) (s : State), c.sleeps = true ∧ s.dev.spore.phase ≠ 0 :=
  ⟨.auditPeriod, (modOf fun d => { d with spore := { d.spore with phase := 1 } }),
    by (try simp only [State.On, State.Awake, State.Opens, State.Ready, Dev.quiet, Dev.acts, Clock.ok]) <;> decide +kernel⟩
theorem witness_NothingHappensToWhatIsOff_2 : ∃ (c : Instr) (s : State), c.receives = true ∧ 1 < s.dev.spore.phase :=
  ⟨.frameStart 0 [] [], modOf fun d => { d with spore := { d.spore with phase := 2 } }, by decide +kernel⟩
/-! ### ClosedPagesIgnoreCommands -/

theorem witness_ClosedPagesIgnoreCommands_0 : ∃ (c : Instr) (p : Nat) (s : State), c.viaPage = some p ∧ s.dev.pageOpen p = false ∧ s.On ∧
    s.dev.fld PWRM.SLEEP_STAT_STATE = 2 :=
  ⟨.keyLoad 0 0 false, 0x38, (modOf fun d => d.setFld PWRM.SLEEP_STAT_STATE (2)),
    by (try simp only [State.On, State.Awake, State.Opens, State.Ready, Dev.quiet, Dev.acts, Clock.ok]) <;> decide +kernel⟩
theorem witness_ClosedPagesIgnoreCommands_1 : ∃ (c : Instr) (p : Nat) (s : State), c.viaPage = some p ∧ s.dev.pageOpen p = false ∧
    s.dev.fld PWRM.SLEEP_STAT_STATE ≠ 2 :=
  ⟨.keyLoad 0 0 false, 0x38, (modOf fun d => d.setFld TOP.BOOT_STATUS_STAGE 1),
    by (try simp only [State.On, State.Awake, State.Opens, State.Ready, Dev.quiet, Dev.acts, Clock.ok]) <;> decide +kernel⟩
/-! ### SupplyPhases -/

theorem witness_SupplyPhases_0 : ∃ (s : State) (cool : Bool), (s.dev.sup.phase = .unpowered ∨ s.dev.sup.phase = .qualifying) ∧
    (s.dev.sup.hot = false ∨ cool = true) :=
  ⟨(modOf fun d => let d := { d with sup := { d.sup with phase := .unpowered } }; { d with sup := { d.sup with hot := false } }), false,
    by (try simp only [State.On, State.Awake, State.Opens, State.Ready, Dev.quiet, Dev.acts, Clock.ok]) <;> decide +kernel⟩
theorem witness_SupplyPhases_1 : ∃ (s : State) (straps : Nat) (us : Nat), s.dev.sup.phase = .reset ∧ s.dev.sup.resetLow = false :=
  ⟨(modOf fun d => let d := { d with sup := { d.sup with phase := .reset } }; { d with sup := { d.sup with resetLow := false } }), 0, 0,
    by (try simp only [State.On, State.Awake, State.Opens, State.Ready, Dev.quiet, Dev.acts, Clock.ok]) <;> decide +kernel⟩
theorem witness_SupplyPhases_3 : ∃ (s : State) (cool : Bool), (s.dev.sup.phase = .on ∨ s.dev.sup.phase = .reset) :=
  ⟨(modOf fun d => { d with sup := { d.sup with phase := .on } }), false,
    by (try simp only [State.On, State.Awake, State.Opens, State.Ready, Dev.quiet, Dev.acts, Clock.ok]) <;> decide +kernel⟩
theorem witness_SupplyPhases_5 : ∃ (s : State) (mv : Nat), s.dev.sup.phase ≠ .unpowered :=
  ⟨(modOf fun d => { d with sup := { d.sup with phase := .reset } }), 0,
    by (try simp only [State.On, State.Awake, State.Opens, State.Ready, Dev.quiet, Dev.acts, Clock.ok]) <;> decide +kernel⟩
/-! ### ShutdownsAndThermalCap -/

theorem witness_ShutdownsAndThermalCap_0 : ∃ (s : State), s.On :=
  ⟨mod0, by (try simp only [State.On, State.Awake, State.Opens, State.Ready, Dev.quiet, Dev.acts, Clock.ok]) <;> decide +kernel⟩
theorem witness_ShutdownsAndThermalCap_1 : ∃ (s : State) (t : Nat), s.On ∧ s.dev.sup.ovAt = some t ∧ t + 100000 ≤ s.dev.clk.up :=
  ⟨(modOf fun d => let d := { d with sup := { d.sup with ovAt := some (0) } }; { d with clk := { d.clk with up := (0) + 100000 } }), 0,
    by (try simp only [State.On, State.Awake, State.Opens, State.Ready, Dev.quiet, Dev.acts, Clock.ok]) <;> decide +kernel⟩
theorem witness_ShutdownsAndThermalCap_2 : ∃ (s : State) (t : Nat), s.On ∧ s.dev.sup.ovAt = some t ∧ s.dev.clk.up < t + 100000 :=
  ⟨(modOf fun d => { d with sup := { d.sup with ovAt := some ((10 ^ 15)) } }), (10 ^ 15),
    by (try simp only [State.On, State.Awake, State.Opens, State.Ready, Dev.quiet, Dev.acts, Clock.ok]) <;> decide +kernel⟩
theorem witness_ShutdownsAndThermalCap_3 : ∃ (s : State), s.dev.sup.phase = .ovOff :=
  ⟨(modOf fun d => { d with sup := { d.sup with phase := .ovOff } }),
    by (try simp only [State.On, State.Awake, State.Opens, State.Ready, Dev.quiet, Dev.acts, Clock.ok]) <;> decide +kernel⟩
theorem witness_ShutdownsAndThermalCap_4 : ∃ (s : State) (temp : Int) (island : Nat), s.On ∧ 8 * (s.dev.fld PWRM.TEMP_CFG_ALARM : Int) ≤ temp :=
  ⟨mod0, 1000, 0, by (try simp only [State.On, State.Awake, State.Opens, State.Ready, Dev.quiet, Dev.acts, Clock.ok]) <;> decide +kernel⟩
theorem witness_ShutdownsAndThermalCap_5 : ∃ (s : State) (temp : Int) (island : Nat), s.On ∧ temp < 8 * (s.dev.fld PWRM.TEMP_CFG_ALARM : Int) :=
  ⟨mod0, 0, 0, by (try simp only [State.On, State.Awake, State.Opens, State.Ready, Dev.quiet, Dev.acts, Clock.ok]) <;> decide +kernel⟩
theorem witness_ShutdownsAndThermalCap_6 : ∃ (s : State) (temp : Int) (island : Nat), s.On ∧ temp ≤ 8 * ((s.dev.fld PWRM.TEMP_CFG_ALARM : Int) - 5) :=
  ⟨mod0, 0, 0, by (try simp only [State.On, State.Awake, State.Opens, State.Ready, Dev.quiet, Dev.acts, Clock.ok]) <;> decide +kernel⟩
theorem witness_ShutdownsAndThermalCap_7 : ∃ (s : State), (s.dev.sup.phase = .on ∨ s.dev.sup.phase = .reset) :=
  ⟨(modOf fun d => { d with sup := { d.sup with phase := .on } }),
    by (try simp only [State.On, State.Awake, State.Opens, State.Ready, Dev.quiet, Dev.acts, Clock.ok]) <;> decide +kernel⟩
/-! ### WarningsAndRecords -/

theorem witness_WarningsAndRecords_0 : ∃ (s : State) (vin : Nat), s.On ∧ s.dev.sup.level = false ∧ vin < 100 * s.dev.fld PWRM.PFAIL_CFG_LEVEL :=
  ⟨(modOf fun d => { d with sup := { d.sup with level := false } }), 0,
    by (try simp only [State.On, State.Awake, State.Opens, State.Ready, Dev.quiet, Dev.acts, Clock.ok]) <;> decide +kernel⟩
theorem witness_WarningsAndRecords_1 : ∃ (s : State) (vin : Nat), s.On ∧ (s.dev.sup.level = true ∨ 100 * s.dev.fld PWRM.PFAIL_CFG_LEVEL ≤ vin) :=
  ⟨(modOf fun d => { d with sup := { d.sup with level := true } }), 0,
    by (try simp only [State.On, State.Awake, State.Opens, State.Ready, Dev.quiet, Dev.acts, Clock.ok]) <;> decide +kernel⟩
theorem witness_WarningsAndRecords_2 : ∃ (s : State) (vin : Nat), s.On ∧ s.dev.sup.padLow = false ∧ s.dev.sup.drive = false ∧
    s.dev.on PWRM.PFAIL_CFG_EXT_EN = true ∧ s.dev.warned = false :=
  ⟨(modOf fun d => let d := { d with sup := { d.sup with padLow := false } }; let d := { d with sup := { d.sup with drive := false } };
    d.setFld PWRM.PFAIL_CFG_EXT_EN 1), 0, by (try simp only [State.On, State.Awake, State.Opens, State.Ready, Dev.quiet, Dev.acts, Clock.ok]) <;> decide +kernel
    ⟩
theorem witness_WarningsAndRecords_4 : ∃ (s : State) (a : Nat), s.On ∧ s.dev.sup.recording = some a :=
  ⟨(modOf fun d => { d with sup := { d.sup with recording := some (0) } }), 0,
    by (try simp only [State.On, State.Awake, State.Opens, State.Ready, Dev.quiet, Dev.acts, Clock.ok]) <;> decide +kernel⟩
theorem witness_WarningsAndRecords_5 : ∃ (s : State), s.On ∧ s.dev.sup.recording = none :=
  ⟨(modOf fun d => { d with sup := { d.sup with recording := none } }),
    by (try simp only [State.On, State.Awake, State.Opens, State.Ready, Dev.quiet, Dev.acts, Clock.ok]) <;> decide +kernel⟩
theorem witness_WarningsAndRecords_6 : ∃ (s : State) (vin : Nat), s.On ∧ s.dev.warned = true ∧ 100 * s.dev.fld PWRM.PFAIL_CFG_LEVEL + 300 <
    vin ∧ s.dev.sup.padLow = false ∧ s.dev.spore.warned = false :=
  ⟨modOf fun d => let d := d.setFld PWRM.SUPPLY_STAT_WARN 1; { d with sup := { d.sup with level := true }}, 48000,
    by (try simp only [State.On, State.Awake, State.Opens, State.Ready, Dev.quiet, Dev.acts, Clock.ok]) <;> decide +kernel⟩
theorem witness_WarningsAndRecords_8 : ∃ (s : State) (vin : Nat), s.On ∧ (s.dev.warned = false ∨ vin ≤ 100 * s.dev.fld
    PWRM.PFAIL_CFG_LEVEL + 300) :=
  ⟨(modOf fun d => { d with sup := { d.sup with level := true } }), 0,
    by (try simp only [State.On, State.Awake, State.Opens, State.Ready, Dev.quiet, Dev.acts, Clock.ok]) <;> decide +kernel⟩
theorem witness_WarningsAndRecords_7 : ∃ (s : State) (vin : Nat), s.On ∧ s.dev.warned = true ∧ 100 * s.dev.fld PWRM.PFAIL_CFG_LEVEL + 300 <
    vin ∧ s.dev.sup.padLow = true ∧ s.dev.sup.drive = false ∧ s.dev.sup.ext = true :=
  ⟨modOf fun d => let d := d.setFld PWRM.SUPPLY_STAT_WARN 1; { d with sup := { d.sup with ext := true, padLow := true } }, 48000,
    by (try simp only [State.On, State.Awake, State.Opens, State.Ready, Dev.quiet, Dev.acts, Clock.ok]) <;> decide +kernel⟩
/-! ### StartUpStages -/

theorem witness_StartUpStages_0 : ∃ (s : State) (flash : Bool) (id : Nat), s.On ∧ s.dev.bootStage = 1 :=
  ⟨(modOf fun d => let d := d.setFld TOP.BOOT_STATUS_STAGE 1; d.setFld TOP.BOOT_STATUS_READY 0), false, 0,
    by (try simp only [State.On, State.Awake, State.Opens, State.Ready, Dev.quiet, Dev.acts, Clock.ok]) <;> decide +kernel⟩
theorem witness_StartUpStages_1 : ∃ (s : State), s.Opens 0x02 ∧ s.dev.bootStage = 2 :=
  ⟨(modOf fun d => let d := d.setFld TOP.BOOT_STATUS_STAGE 2; d.setFld TOP.BOOT_STATUS_READY 0),
    by (try simp only [State.On, State.Awake, State.Opens, State.Ready, Dev.quiet, Dev.acts, Clock.ok]) <;> decide +kernel⟩
theorem witness_StartUpStages_2 : ∃ (s : State), s.Opens 0x02 ∧ s.dev.bootStage ≠ 2 ∧ s.dev.on TOP.BOOT_STATUS_CFG_DEFAULTED = false ∧
    s.dev.on TOP.BOOT_STATUS_SIG_FAIL = false ∧ s.dev.on TOP.BOOT_STATUS_MARCH_FAIL = false :=
  ⟨(modOf fun d => let d := d.setFld TOP.BOOT_STATUS_CFG_DEFAULTED 0; let d := d.setFld TOP.BOOT_STATUS_SIG_FAIL 0;
    d.setFld TOP.BOOT_STATUS_MARCH_FAIL 0),
    by (try simp only [State.On, State.Awake, State.Opens, State.Ready, Dev.quiet, Dev.acts, Clock.ok]) <;> decide +kernel⟩
theorem witness_StartUpStages_3 : ∃ (s : State), s.On ∧ s.dev.bootStage = 3 ∧ s.dev.commit = none ∧ s.dev.imageRead.good = none :=
  ⟨(modOf fun d => let d := d.setFld TOP.BOOT_STATUS_STAGE 3; let d := d.setFld TOP.BOOT_STATUS_READY 0; { d with commit := none }),
    by (try simp only [State.On, State.Awake, State.Opens, State.Ready, Dev.quiet, Dev.acts, Clock.ok]) <;> decide +kernel⟩
theorem witness_StartUpStages_4 : ∃ (s : State) (secs : List Section), s.On ∧ s.dev.bootStage = 3 ∧ s.dev.commit = none ∧
    s.dev.imageRead.good = some secs :=
  ⟨(modOf fun d => let d := d.setFld TOP.BOOT_STATUS_STAGE 3; let d := d.setFld TOP.BOOT_STATUS_READY 0; let d := { d with boot :=
    { d.boot with host := true } }; let d := d.setNum CFGL.HOST_LEN 256; d.dmaWrite 0 wImage), [{ ty := 1, off := 0x50, len := 0 }],
    by (try simp only [State.On, State.Awake, State.Opens, State.Ready, Dev.quiet, Dev.acts, Clock.ok]) <;> decide +kernel⟩
theorem witness_StartUpStages_5 : ∃ (s : State), s.On ∧ s.dev.bootStage = 4 ∧ s.dev.otp.hash = 0 ∧ s.dev.otp.sealed = false :=
  ⟨(modOf fun d => let d := d.setFld TOP.BOOT_STATUS_STAGE 4; let d := d.setFld TOP.BOOT_STATUS_READY 0; let d := { d with otp :=
    { d.otp with hash := 0 } }; { d with otp := { d.otp with sealed := false } }),
    by (try simp only [State.On, State.Awake, State.Opens, State.Ready, Dev.quiet, Dev.acts, Clock.ok]) <;> decide +kernel⟩
theorem witness_StartUpStages_6 : ∃ (s : State), s.On ∧ s.dev.bootStage = 4 ∧ s.dev.otp.hash ≠ 0 ∧
    sectionVerified s.dev.ucodeSection s.dev.otp.hashNum = true :=
  ⟨(modOf fun d => let d := d.setFld TOP.BOOT_STATUS_STAGE 4; let d := d.setFld TOP.BOOT_STATUS_READY 0; let d := { d with boot :=
    { d.boot with ucode := some (0, 416), image := wSection } }; { d with otp := { d.otp with hash :=
    0x15b93dc4be54d2e34ee3178d8c2d1087badfe557320a4ea25fc8e377f7f68d15d736bb82e53c7ce863bce565599d75d7 } }),
    by (try simp only [State.On, State.Awake, State.Opens, State.Ready, Dev.quiet, Dev.acts, Clock.ok]) <;> decide +kernel⟩
theorem witness_StartUpStages_7 : ∃ (s : State), s.On ∧ s.dev.bootStage = 4 ∧ (s.dev.otp.hash ≠ 0 ∨ s.dev.otp.sealed = true) ∧ (s.dev.otp.hash = 0 ∨
    sectionVerified s.dev.ucodeSection s.dev.otp.hashNum = false) :=
  ⟨(modOf fun d => let d := d.setFld TOP.BOOT_STATUS_STAGE 4; let d := d.setFld TOP.BOOT_STATUS_READY 0; { d with otp := { d.otp with hash := 1 } }),
    by (try simp only [State.On, State.Awake, State.Opens, State.Ready, Dev.quiet, Dev.acts, Clock.ok]) <;> decide +kernel⟩
theorem witness_StartUpStages_8 : ∃ (s : State) (uses : List (Option NanoUse)), s.On ∧ s.dev.bootStage = 5 ∧ sectionFault
    s.dev.ucodeSection uses = none :=
  ⟨modOf fun d => let d := d.setFld TOP.BOOT_STATUS_STAGE 5; let d := d.setFld TOP.BOOT_STATUS_READY 0;
    { d with boot := { d.boot with ucode := some (0, 416), image := wSection } }, [],
    by (try simp only [State.On, State.Awake, State.Opens, State.Ready, Dev.quiet, Dev.acts, Clock.ok]) <;> decide +kernel⟩
theorem witness_StartUpStages_9 : ∃ (s : State) (uses : List (Option NanoUse)) (cause : Nat) (i : Nat), s.On ∧ s.dev.bootStage = 5 ∧
    sectionFault s.dev.ucodeSection uses = some (cause, i) :=
  ⟨modOf fun d => let d := d.setFld TOP.BOOT_STATUS_STAGE 5; let d := d.setFld TOP.BOOT_STATUS_READY 0;
    { d with boot := { d.boot with ucode := some (0, 416), image := wSection } }, [none], 5, 0,
    by (try simp only [State.On, State.Awake, State.Opens, State.Ready, Dev.quiet, Dev.acts, Clock.ok]) <;> decide +kernel⟩
theorem witness_StartUpStages_10 : ∃ (s : State) (spads : List (List Nat)) (cells : List Nat), s.On ∧ s.dev.bootStage = 6 :=
  ⟨(modOf fun d => let d := d.setFld TOP.BOOT_STATUS_STAGE 6; d.setFld TOP.BOOT_STATUS_READY 0), [], [],
    by (try simp only [State.On, State.Awake, State.Opens, State.Ready, Dev.quiet, Dev.acts, Clock.ok]) <;> decide +kernel⟩
theorem witness_StartUpStages_11 : ∃ (s : State) (pass : List Nat) (full : List Trained), s.On ∧ s.dev.bootStage = 7 ∧
    s.dev.on MTRN.TRAIN_STAT_HOST = false :=
  ⟨(modOf fun d => let d := d.setFld TOP.BOOT_STATUS_STAGE 7; let d := d.setFld TOP.BOOT_STATUS_READY 0; d.setFld MTRN.TRAIN_STAT_HOST 0), [], [],
    by (try simp only [State.On, State.Awake, State.Opens, State.Ready, Dev.quiet, Dev.acts, Clock.ok]) <;> decide +kernel⟩
theorem witness_StartUpStages_12 : ∃ (s : State), s.Opens 0x02 ∧ s.dev.bootStage = 7 ∧ s.dev.on MTRN.TRAIN_STAT_WINDOW = true ∧
    s.dev.on MTRN.TRAIN_STAT_HOST = true :=
  ⟨(modOf fun d => let d := d.setFld TOP.BOOT_STATUS_STAGE 7; let d := d.setFld TOP.BOOT_STATUS_READY 0; let d := d.setFld MTRN.TRAIN_STAT_WINDOW 1;
    d.setFld MTRN.TRAIN_STAT_HOST 1), by (try simp only [State.On, State.Awake, State.Opens, State.Ready, Dev.quiet, Dev.acts, Clock.ok]) <;> decide +kernel⟩
theorem witness_StartUpStages_13 : ∃ (s : State), s.On ∧ s.dev.bootStage = 8 :=
  ⟨(modOf fun d => let d := d.setFld TOP.BOOT_STATUS_STAGE 8; d.setFld TOP.BOOT_STATUS_READY 0),
    by (try simp only [State.On, State.Awake, State.Opens, State.Ready, Dev.quiet, Dev.acts, Clock.ok]) <;> decide +kernel⟩
theorem witness_StartUpStages_14 : ∃ (s : State) (pass : Bool), s.On ∧ s.dev.bootStage = 9 :=
  ⟨(modOf fun d => let d := d.setFld TOP.BOOT_STATUS_STAGE 9; d.setFld TOP.BOOT_STATUS_READY 0), false,
    by (try simp only [State.On, State.Awake, State.Opens, State.Ready, Dev.quiet, Dev.acts, Clock.ok]) <;> decide +kernel⟩
theorem witness_StartUpStages_15 : ∃ (s : State), s.On ∧ s.dev.bootStage = 10 :=
  ⟨(modOf fun d => let d := d.setFld TOP.BOOT_STATUS_STAGE 10; d.setFld TOP.BOOT_STATUS_READY 0),
    by (try simp only [State.On, State.Awake, State.Opens, State.Ready, Dev.quiet, Dev.acts, Clock.ok]) <;> decide +kernel⟩
/-! ### SporeEntry -/

theorem witness_SporeEntry_0 : ∃ (s : State) (c : Instr), ((c = .sleepReq ∧ s.Opens 0x01) ∨ (c = .sleepN ∧ s.On ∧ s.dev.on
    PWRM.SLEEP_CFG_SLEEP_N_EN = true)) ∧ s.dev.spore.waiting = false ∧ s.dev.on TOP.BOOT_STATUS_READY = true ∧ s.dev.fld
    PWRM.SLEEP_STAT_STATE = 0 ∧ s.dev.opState MEMC.RETIRE_STAT ≠ 1 ∧ s.dev.commit = none ∧ s.dev.pause = none :=
  ⟨(modOf fun d => let d := {d with spore := {d.spore with waiting := false}}; let d := d.setFld TOP.BOOT_STATUS_READY 1;
    let d := d.setFld PWRM.SLEEP_STAT_STATE 0; let d := d.setNum MEMC.RETIRE_STAT 0; { d with commit := none, pause := none }), .sleepReq,
    by (try simp only [State.On, State.Awake, State.Opens, State.Ready, Dev.quiet, Dev.acts, Clock.ok]) <;> decide +kernel⟩
theorem witness_SporeEntry_1 : ∃ (s : State) (c : Instr), ((c = .sleepReq ∧ s.Opens 0x01) ∨ (c = .sleepN ∧ s.On ∧ s.dev.on
    PWRM.SLEEP_CFG_SLEEP_N_EN = true)) ∧ s.dev.spore.waiting = false ∧ s.dev.on TOP.BOOT_STATUS_READY = true ∧ s.dev.fld
    PWRM.SLEEP_STAT_STATE = 0 ∧ s.dev.opState MEMC.RETIRE_STAT ≠ 1 ∧ (s.dev.commit.isSome = true ∨ s.dev.pause.isSome = true) :=
  ⟨(modOf fun d => let d := {d with spore := {d.spore with waiting := false}}; let d := d.setFld TOP.BOOT_STATUS_READY 1;
    let d := d.setFld PWRM.SLEEP_STAT_STATE 0; let d := d.setNum MEMC.RETIRE_STAT 0;
    { d with commit := some { tc := 0, path := 0, page := none, staged := [], pages := [], applied := false } }), .sleepReq,
    by (try simp only [State.On, State.Awake, State.Opens, State.Ready, Dev.quiet, Dev.acts, Clock.ok]) <;> decide +kernel⟩
theorem witness_SporeEntry_3 : ∃ (s : State) (c : Instr), ((c = .sleepReq ∧ s.Opens 0x01) ∨ (c = .sleepN ∧ s.On ∧ s.dev.on
    PWRM.SLEEP_CFG_SLEEP_N_EN = true)) ∧ s.dev.spore.waiting = false ∧ (s.dev.on TOP.BOOT_STATUS_READY = false ∨ s.dev.fld
    PWRM.SLEEP_STAT_STATE ≠ 0 ∨ s.dev.opState MEMC.RETIRE_STAT = 1) :=
  ⟨(modOf fun d => let d := { d with spore := { d.spore with waiting := false } }; d.setFld TOP.BOOT_STATUS_READY 0), .sleepReq,
    by (try simp only [State.On, State.Awake, State.Opens, State.Ready, Dev.quiet, Dev.acts, Clock.ok]) <;> decide +kernel⟩
theorem witness_SporeEntry_4 : ∃ (s : State), s.On ∧ s.dev.on PWRM.SLEEP_CFG_SLEEP_N_EN = false :=
  ⟨(modOf fun d => d.setFld PWRM.SLEEP_CFG_SLEEP_N_EN 0),
    by (try simp only [State.On, State.Awake, State.Opens, State.Ready, Dev.quiet, Dev.acts, Clock.ok]) <;> decide +kernel⟩
theorem witness_SporeEntry_5 : ∃ (s : State), s.On ∧ s.dev.entryAt 0 0 = true ∧ (s.dev.drained = true ∨ s.dev.entryAt 0 (s.dev.fld
    PWRM.SLEEP_CFG_DRAIN_TO * 1000000) = true) :=
  ⟨(modOf fun d => let d := d.setFld PWRM.SLEEP_STAT_STATE 1; { d with spore := { d.spore with phase := 0, since := 0 } }),
    by (try simp only [State.On, State.Awake, State.Opens, State.Ready, Dev.quiet, Dev.acts, Clock.ok]) <;> decide +kernel⟩
theorem witness_SporeEntry_6 : ∃ (s : State), s.On ∧ (s.dev.entryAt 0 0 = false ∨ (s.dev.entryAt 0 (s.dev.fld PWRM.SLEEP_CFG_DRAIN_TO *
    1000000) = false ∧ s.dev.drained = false)) :=
  ⟨(modOf fun d => let d := d.setFld PWRM.SLEEP_STAT_STATE 1; let d := d.setFrame 0 {}; { d with spore := { d.spore with since := d.clk.up } }),
    by (try simp only [State.On, State.Awake, State.Opens, State.Ready, Dev.quiet, Dev.acts, Clock.ok]) <;> decide +kernel⟩
theorem witness_SporeEntry_7 : ∃ (s : State), s.On ∧ s.dev.entryAt 1 500000 = true :=
  ⟨(modOf fun d => let d := d.setFld PWRM.SLEEP_STAT_STATE 1; { d with spore := { d.spore with phase := 1, since := 0 } }),
    by (try simp only [State.On, State.Awake, State.Opens, State.Ready, Dev.quiet, Dev.acts, Clock.ok]) <;> decide +kernel⟩
theorem witness_SporeEntry_8 : ∃ (s : State), s.On ∧ s.dev.entryAt 2 1000000 = true :=
  ⟨(modOf fun d => let d := d.setFld PWRM.SLEEP_STAT_STATE 1; { d with spore := { d.spore with phase := 2, since := 0 } }),
    by (try simp only [State.On, State.Awake, State.Opens, State.Ready, Dev.quiet, Dev.acts, Clock.ok]) <;> decide +kernel⟩
theorem witness_SporeEntry_9 : ∃ (s : State), s.On ∧ s.dev.entryAt 3 2000000 = true :=
  ⟨(modOf fun d => let d := d.setFld PWRM.SLEEP_STAT_STATE 1; { d with spore := { d.spore with phase := 3, since := 0 } }),
    by (try simp only [State.On, State.Awake, State.Opens, State.Ready, Dev.quiet, Dev.acts, Clock.ok]) <;> decide +kernel⟩
theorem witness_SporeEntry_12 : ∃ (s : State), s.On ∧ s.dev.entryAt 3 2000000 = false :=
  ⟨mod0, by (try simp only [State.On, State.Awake, State.Opens, State.Ready, Dev.quiet, Dev.acts, Clock.ok]) <;> decide +kernel⟩
theorem witness_SporeEntry_2 : ∃ (s : State) (c : Instr), ((c = .sleepReq ∧ s.Opens 0x01) ∨ (c = .sleepN ∧ s.On ∧ s.dev.on
    PWRM.SLEEP_CFG_SLEEP_N_EN = true)) ∧ s.dev.spore.waiting = true :=
  ⟨(modOf fun d => { d with spore := { d.spore with waiting := true } }), .sleepReq,
    by (try simp only [State.On, State.Awake, State.Opens, State.Ready, Dev.quiet, Dev.acts, Clock.ok]) <;> decide +kernel⟩
theorem witness_SporeEntry_10 : ∃ (s : State), s.On ∧ s.dev.entryAt 1 500000 = false :=
  ⟨mod0, by (try simp only [State.On, State.Awake, State.Opens, State.Ready, Dev.quiet, Dev.acts, Clock.ok]) <;> decide +kernel⟩
theorem witness_SporeEntry_11 : ∃ (s : State), s.On ∧ s.dev.entryAt 2 1000000 = false :=
  ⟨mod0, by (try simp only [State.On, State.Awake, State.Opens, State.Ready, Dev.quiet, Dev.acts, Clock.ok]) <;> decide +kernel⟩
/-! ### SporeWake -/

theorem witness_SporeWake_0 : ∃ (s : State) (c : Instr) (n : Nat), ((c = .wakeN ∧ n = 1 ∧ s.On ∧ s.dev.on PWRM.SLEEP_CFG_WAKE_N_EN = true)
    ∨ (c = .wakeReq ∧ n = 2 ∧ s.Opens 0x01 ∧ s.dev.on PWRM.SLEEP_CFG_PCIE_WAKE_EN = true) ∨ (c = .wakeTimer ∧ n = 3 ∧ s.On ∧ s.dev.on
    PWRM.SLEEP_CFG_TIMER_WAKE_EN = true ∧ s.dev.num2 PWRM.WAKE_AT_LO PWRM.WAKE_AT_HI ≤ (s.dev.stamp 32).toNat)) ∧ s.dev.fld
    PWRM.SLEEP_STAT_STATE = 2 ∧ s.dev.spore.wake = none :=
  ⟨(modOf fun d => let d := d.setFld PWRM.SLEEP_CFG_WAKE_N_EN 1; let d := d.setFld PWRM.SLEEP_STAT_STATE 2;
    { d with spore := { d.spore with wake := none } }), .wakeN, 1,
    by (try simp only [State.On, State.Awake, State.Opens, State.Ready, Dev.quiet, Dev.acts, Clock.ok]) <;> decide +kernel⟩
theorem witness_SporeWake_1 : ∃ (s : State) (c : Instr) (n : Nat), ((c = .wakeN ∧ n = 1 ∧ s.On ∧ s.dev.on PWRM.SLEEP_CFG_WAKE_N_EN = true)
    ∨ (c = .wakeReq ∧ n = 2 ∧ s.Opens 0x01 ∧ s.dev.on PWRM.SLEEP_CFG_PCIE_WAKE_EN = true) ∨ (c = .wakeTimer ∧ n = 3 ∧ s.On ∧ s.dev.on
    PWRM.SLEEP_CFG_TIMER_WAKE_EN = true ∧ s.dev.num2 PWRM.WAKE_AT_LO PWRM.WAKE_AT_HI ≤ (s.dev.stamp 32).toNat)) ∧ s.dev.fld
    PWRM.SLEEP_STAT_STATE = 1 ∧ s.dev.spore.wake = none :=
  ⟨(modOf fun d => let d := d.setFld PWRM.SLEEP_CFG_WAKE_N_EN 1; let d := d.setFld PWRM.SLEEP_STAT_STATE 1;
    { d with spore := { d.spore with wake := none } }), .wakeN, 1,
    by (try simp only [State.On, State.Awake, State.Opens, State.Ready, Dev.quiet, Dev.acts, Clock.ok]) <;> decide +kernel⟩
theorem witness_SporeWake_3 : ∃ (s : State), s.On ∧ s.dev.on PWRM.SLEEP_CFG_WAKE_N_EN = false :=
  ⟨(modOf fun d => d.setFld PWRM.SLEEP_CFG_WAKE_N_EN 0),
    by (try simp only [State.On, State.Awake, State.Opens, State.Ready, Dev.quiet, Dev.acts, Clock.ok]) <;> decide +kernel⟩
theorem witness_SporeWake_4 : ∃ (s : State), s.Opens 0x01 ∧ s.dev.on PWRM.SLEEP_CFG_PCIE_WAKE_EN = false :=
  ⟨(modOf fun d => d.setFld PWRM.SLEEP_CFG_PCIE_WAKE_EN 0),
    by (try simp only [State.On, State.Awake, State.Opens, State.Ready, Dev.quiet, Dev.acts, Clock.ok]) <;> decide +kernel⟩
theorem witness_SporeWake_5 : ∃ (s : State), s.On ∧ (s.dev.on PWRM.SLEEP_CFG_TIMER_WAKE_EN = false ∨ (s.dev.stamp 32).toNat < s.dev.num2
    PWRM.WAKE_AT_LO PWRM.WAKE_AT_HI) :=
  ⟨(modOf fun d => d.setFld PWRM.SLEEP_CFG_TIMER_WAKE_EN 0),
    by (try simp only [State.On, State.Awake, State.Opens, State.Ready, Dev.quiet, Dev.acts, Clock.ok]) <;> decide +kernel⟩
theorem witness_SporeWake_7 : ∃ (s : State), s.On ∧ (s.dev.fld PWRM.SLEEP_STAT_STATE ≠ 3 ∨ s.dev.clk.up < s.dev.spore.since + 20000000) :=
  ⟨mod0, by (try simp only [State.On, State.Awake, State.Opens, State.Ready, Dev.quiet, Dev.acts, Clock.ok]) <;> decide +kernel⟩
theorem witness_SporeWake_6 : ∃ (s : State), s.On ∧ s.dev.fld PWRM.SLEEP_STAT_STATE = 3 ∧ s.dev.spore.since + 20000000 ≤ s.dev.clk.up :=
  ⟨(modOf fun d => let d := d.setFld PWRM.SLEEP_STAT_STATE (3); d.setFld PWRM.SLEEP_CFG_WAKE_HOLD 1),
    by (try simp only [State.On, State.Awake, State.Opens, State.Ready, Dev.quiet, Dev.acts, Clock.ok]) <;> decide +kernel⟩
theorem witness_SporeWake_8 : ∃ (s : State), s.Opens 0x01 ∧ s.dev.on PWRM.SLEEP_STAT_HELD = true :=
  ⟨(modOf fun d => d.setFld PWRM.SLEEP_STAT_HELD 1),
    by (try simp only [State.On, State.Awake, State.Opens, State.Ready, Dev.quiet, Dev.acts, Clock.ok]) <;> decide +kernel⟩
theorem witness_SporeWake_9 : ∃ (s : State), s.Opens 0x01 ∧ s.dev.on PWRM.SLEEP_STAT_HELD = false :=
  ⟨(modOf fun d => d.setFld PWRM.SLEEP_STAT_HELD 0),
    by (try simp only [State.On, State.Awake, State.Opens, State.Ready, Dev.quiet, Dev.acts, Clock.ok]) <;> decide +kernel⟩
theorem witness_SporeWake_2 : ∃ (s : State) (c : Instr) (n : Nat), ((c = .wakeN ∧ n = 1 ∧ s.On ∧ s.dev.on PWRM.SLEEP_CFG_WAKE_N_EN = true)
    ∨ (c = .wakeReq ∧ n = 2 ∧ s.Opens 0x01 ∧ s.dev.on PWRM.SLEEP_CFG_PCIE_WAKE_EN = true) ∨ (c = .wakeTimer ∧ n = 3 ∧ s.On ∧ s.dev.on
    PWRM.SLEEP_CFG_TIMER_WAKE_EN = true ∧ s.dev.num2 PWRM.WAKE_AT_LO PWRM.WAKE_AT_HI ≤ (s.dev.stamp 32).toNat)) ∧ (s.dev.spore.wake.isSome
    = true ∨ s.dev.fld PWRM.SLEEP_STAT_STATE = 0 ∨ s.dev.fld PWRM.SLEEP_STAT_STATE = 3) :=
  ⟨(modOf fun d => let d := d.setFld PWRM.SLEEP_CFG_WAKE_N_EN 1; d.setFld PWRM.SLEEP_STAT_STATE 0), .wakeN, 1,
    by (try simp only [State.On, State.Awake, State.Opens, State.Ready, Dev.quiet, Dev.acts, Clock.ok]) <;> decide +kernel⟩
/-! ### RegisterAccesses -/

theorem witness_RegisterAccesses_0 : ∃ (s : State) (path : Nat) (p : Nat) (w : Word), p < 128 ∧ s.Opens p :=
  ⟨mod0, 0, 0, (0 : Word), by (try simp only [State.On, State.Awake, State.Opens, State.Ready, Dev.quiet, Dev.acts, Clock.ok]) <;> decide +kernel⟩
theorem witness_RegisterAccesses_1 : ∃ (s : State) (path : Nat) (w : Word), path < 2 ∧ s.Opens 0x28 ∧ w &&& 0x003FFFFF = w ∧ 10 ≤ w.toNat % 2048 ∧
    w.toNat % 2048 ≤ 2000 ∧ 4 ≤ w.toNat / 4096 % 256 :=
  ⟨mod0, 0, 0x0012C00A + 0x1000, by (try simp only [State.On, State.Awake, State.Opens, State.Ready, Dev.quiet, Dev.acts, Clock.ok]) <;> decide +kernel⟩
theorem witness_RegisterAccesses_5 : ∃ (s : State) (path : Nat) (p : Nat) (off : Nat) (be : Nat) (w : Word) (done : Nat) (found : List Nat),
    path < 2 ∧ p < 128 ∧ off < 4096 ∧ s.Opens p ∧ be % 16 ≠ 15 ∧ s.dev.fld (ERR_INFO_CAUSE p) = 0 :=
  ⟨(modOf fun d => d.setFld (ERR_INFO_CAUSE (0)) (0)), 0, 0, 0, 0, (0 : Word), 0, [],
    by (try simp only [State.On, State.Awake, State.Opens, State.Ready, Dev.quiet, Dev.acts, Clock.ok]) <;> decide +kernel⟩
theorem witness_RegisterAccesses_6 : ∃ (s : State) (path : Nat) (p : Nat) (w : Word), p < 128 ∧ s.Opens p ∧
    w.toNat % 65536 ≤ (hdrOf p).selMax % 65536 :=
  ⟨mod0, 0, 0, (0 : Word), by (try simp only [State.On, State.Awake, State.Opens, State.Ready, Dev.quiet, Dev.acts, Clock.ok]) <;> decide +kernel⟩
theorem witness_RegisterAccesses_7 : ∃ (s : State) (path : Nat) (p : Nat) (w : Word), path < 2 ∧ p < 128 ∧ s.Opens p ∧
    (hdrOf p).selMax % 65536 < w.toNat % 65536 :=
  ⟨mod0, 0, 0, 1, by (try simp only [State.On, State.Awake, State.Opens, State.Ready, Dev.quiet, Dev.acts, Clock.ok]) <;> decide +kernel⟩
theorem witness_RegisterAccesses_9 : ∃ (s : State) (path : Nat), s.Opens 0x01 :=
  ⟨mod0, 0, by (try simp only [State.On, State.Awake, State.Opens, State.Ready, Dev.quiet, Dev.acts, Clock.ok]) <;> decide +kernel⟩
theorem witness_RegisterAccesses_10 : ∃ (s : State) (path : Nat) (p : Nat), p < 128 ∧ s.Opens p :=
  ⟨mod0, 0, 0, by (try simp only [State.On, State.Awake, State.Opens, State.Ready, Dev.quiet, Dev.acts, Clock.ok]) <;> decide +kernel⟩
theorem witness_RegisterAccesses_11 : ∃ (s : State) (path : Nat) (p : Nat) (w : Word), p < 128 ∧ s.Opens p ∧ p ≠ 0x62 :=
  ⟨mod0, 0, 0, (0 : Word), by (try simp only [State.On, State.Awake, State.Opens, State.Ready, Dev.quiet, Dev.acts, Clock.ok]) <;> decide +kernel⟩
theorem witness_RegisterAccesses_13 : ∃ (s : State) (path : Nat) (p : Nat) (w : Word), p < 128 ∧ s.Opens p :=
  ⟨mod0, 0, 0, (0 : Word), by (try simp only [State.On, State.Awake, State.Opens, State.Ready, Dev.quiet, Dev.acts, Clock.ok]) <;> decide +kernel⟩
theorem witness_RegisterAccesses_14 : ∃ (s : State) (done : Nat) (found : List Nat), s.Opens 0x21 :=
  ⟨mod0, 0, [], by (try simp only [State.On, State.Awake, State.Opens, State.Ready, Dev.quiet, Dev.acts, Clock.ok]) <;> decide +kernel⟩
theorem witness_RegisterAccesses_15 : ∃ (s : State) (done : Nat) (found : List Nat), s.Opens 0x61 :=
  ⟨mod0, 0, [], by (try simp only [State.On, State.Awake, State.Opens, State.Ready, Dev.quiet, Dev.acts, Clock.ok]) <;> decide +kernel⟩
theorem witness_RegisterAccesses_19 : ∃ (s : State) (page : Nat) (done : Nat) (found : List Nat), s.On ∧ s.dev.pageOpen (page % 128) = false :=
  ⟨mod0, 0x7F, 0, [], by (try simp only [State.On, State.Awake, State.Opens, State.Ready, Dev.quiet, Dev.acts, Clock.ok]) <;> decide +kernel⟩
theorem witness_RegisterAccesses_12 : ∃ (s : State) (path : Nat) (w : Word), s.Opens 0x62 :=
  ⟨mod0, 0, 0, by (try simp only [State.On, State.Awake, State.Opens, State.Ready, Dev.quiet, Dev.acts, Clock.ok]) <;> decide +kernel⟩
theorem witness_RegisterAccesses_16 : ∃ (s : State) (done : Nat) (found : List Nat), s.Opens 0x60 :=
  ⟨mod0, 0, [], by (try simp only [State.On, State.Awake, State.Opens, State.Ready, Dev.quiet, Dev.acts, Clock.ok]) <;> decide +kernel⟩
theorem witness_RegisterAccesses_17 : ∃ (s : State) (page : Nat) (done : Nat) (found : List Nat), page ∈ [0x00, 0x01, 0x02, 0x03, 0x68] ∧
    s.Opens page :=
  ⟨mod0, 0x68, 0, [],
    by (try simp only [State.On, State.Awake, State.Opens, State.Ready, Dev.quiet, Dev.acts, Clock.ok]) <;> decide +kernel⟩
theorem witness_RegisterAccesses_18 : ∃ (s : State) (page : Nat) (done : Nat) (found : List Nat), page < 128 ∧ s.Opens page :=
  ⟨mod0, 0x21, 0, [],
    by (try simp only [State.On, State.Awake, State.Opens, State.Ready, Dev.quiet, Dev.acts, Clock.ok]) <;> decide +kernel⟩
theorem witness_RegisterAccesses_2 : ∃ (s : State) (x : Put) (r : Reg), x.path < 2 ∧ x.page < 128 ∧ x.off < 4096 ∧ 0x040 ≤ x.off ∧ x.off %
    4 = 0 ∧ x.boot = false ∧ s.Opens x.page ∧ x.ch = s.dev.selOf x.path x.page ∧ s.dev.holdsOnly x ∧ regAt x.page x.off = some r ∧ r.acc =
    .rw :=
  ⟨mod0, { path := 0, page := 0x29, off := LPMT.CMD_PREFIX.off, ch := 0, w := 8 }, LPMT.CMD_PREFIX,
    by (try simp only [State.On, State.Awake, State.Opens, State.Ready, Dev.holdsOnly, Dev.readsPlain]) <;> decide +kernel⟩
theorem witness_RegisterAccesses_3 : ∃ (s : State) (x : Put) (r : Reg), x.path < 2 ∧ x.page < 128 ∧ x.off < 4096 ∧ 0x040 ≤ x.off ∧ x.off %
    4 = 0 ∧ x.boot = false ∧ s.Opens x.page ∧ x.ch = s.dev.selOf x.path x.page ∧ s.dev.holdsOnly x ∧ regAt x.page x.off = some r ∧ r.acc =
    .st ∧ crossBad x.page x.off x.w.toNat = false :=
  ⟨mod0, { path := 0, page := 0x29, off := LPMT.MISS_CFG.off, ch := 0, w := 1 }, LPMT.MISS_CFG,
    by (try simp only [State.On, State.Awake, State.Opens, State.Ready, Dev.holdsOnly, Dev.readsPlain]) <;> decide +kernel⟩
theorem witness_RegisterAccesses_4 : ∃ (s : State) (x : Put) (r : Reg), x.path < 2 ∧ x.page < 128 ∧ x.off < 4096 ∧ 0x040 ≤ x.off ∧ x.off %
    4 = 0 ∧ x.boot = false ∧ s.Opens x.page ∧ x.ch = s.dev.selOf x.path x.page ∧ s.dev.holdsOnly x ∧ regAt x.page x.off = some r ∧ (r.acc =
    .ro ∨ r.acc = .rc) :=
  ⟨mod0, { path := 0, page := 0x29, off := LPMT.CMD_STAT.off, ch := 0, w := 1 }, LPMT.CMD_STAT,
    by (try simp only [State.On, State.Awake, State.Opens, State.Ready, Dev.holdsOnly, Dev.readsPlain]) <;> decide +kernel⟩
theorem witness_RegisterAccesses_8 : ∃ (s : State) (path : Nat) (p : Nat) (off : Nat) (r : Reg), path < 2 ∧ p < 128 ∧ off < 4096 ∧ 0x040 ≤
    off ∧ off % 4 = 0 ∧ s.Opens p ∧ s.dev.readsPlain path p off ∧ regAt p off = some r ∧ r.acc = .rc :=
  ⟨mod0, 0, 0x01, 0x404, PWRM.VIN_MIN,
    by (try simp only [State.On, State.Awake, State.Opens, State.Ready, Dev.holdsOnly, Dev.readsPlain]) <;> decide +kernel⟩
/-! ### SmbusTarget -/

theorem witness_SmbusTarget_0 : ∃ (s : State) (addr : Nat), s.On :=
  ⟨mod0, 0, by (try simp only [State.On, State.Awake, State.Opens, State.Ready, Dev.quiet, Dev.acts, Clock.ok]) <;> decide +kernel⟩
theorem witness_SmbusTarget_1 : ∃ (s : State) (p : Nat), p < 128 ∧ s.Opens p ∧ s.dev.host.smbAddr = 4096 * p + 0x03C :=
  ⟨(modOf fun d => { d with host := { d.host with smbAddr := 4096 * (0) + 0x03C } }), 0,
    by (try simp only [State.On, State.Awake, State.Opens, State.Ready, Dev.quiet, Dev.acts, Clock.ok]) <;> decide +kernel⟩
theorem witness_SmbusTarget_2 : ∃ (s : State), s.On ∧ 2 ^ 19 ≤ s.dev.host.smbAddr :=
  ⟨(modOf fun d => { d with host := { d.host with smbAddr := 2 ^ 19 } }),
    by (try simp only [State.On, State.Awake, State.Opens, State.Ready, Dev.quiet, Dev.acts, Clock.ok]) <;> decide +kernel⟩
theorem witness_SmbusTarget_3 : ∃ (s : State) (p : Nat) (w : Word) (done : Nat) (found : List Nat), p < 128 ∧ s.Opens p ∧
    s.dev.host.smbAddr = 4096 * p + 0x03C :=
  ⟨(modOf fun d => { d with host := { d.host with smbAddr := 4096 * (0) + 0x03C } }), 0, (0 : Word), 0, [],
    by (try simp only [State.On, State.Awake, State.Opens, State.Ready, Dev.quiet, Dev.acts, Clock.ok]) <;> decide +kernel⟩
theorem witness_SmbusTarget_4 : ∃ (s : State) (bs : List Byte), s.Opens 0x68 ∧ bs.length ≤ 255 ∧ s.dev.host.mboxIn ≤ 256 :=
  ⟨mod0, [], by (try simp only [State.On, State.Awake, State.Opens, State.Ready, Dev.quiet, Dev.acts, Clock.ok]) <;> decide +kernel⟩
theorem witness_SmbusTarget_5 : ∃ (s : State), s.Opens 0x68 ∧ s.dev.host.bells = [] ∧ [1, 2, 3, 4].contains (s.dev.mboxIn 1 0 % 256) = true :=
  ⟨(modOf fun d => let d := { d with host := { d.host with bells := [] } }; d.setRegP (HOST.MBOX_IN.ix 0) 1 0 4),
    by (try simp only [State.On, State.Awake, State.Opens, State.Ready, Dev.quiet, Dev.acts, Clock.ok]) <;> decide +kernel⟩
theorem witness_SmbusTarget_6 : ∃ (s : State), s.Opens 0x68 ∧ s.dev.host.bells = [] ∧ [1, 2, 3, 4].contains (s.dev.mboxIn 1 0 % 256) = false :=
  ⟨(modOf fun d => { d with host := { d.host with bells := [] } }),
    by (try simp only [State.On, State.Awake, State.Opens, State.Ready, Dev.quiet, Dev.acts, Clock.ok]) <;> decide +kernel⟩
theorem witness_SmbusTarget_7 : ∃ (s : State) (n : Nat), s.Opens 0x68 :=
  ⟨mod0, 0, by (try simp only [State.On, State.Awake, State.Opens, State.Ready, Dev.quiet, Dev.acts, Clock.ok]) <;> decide +kernel⟩
theorem witness_SmbusTarget_8 : ∃ (s : State), s.On :=
  ⟨mod0, by (try simp only [State.On, State.Awake, State.Opens, State.Ready, Dev.quiet, Dev.acts, Clock.ok]) <;> decide +kernel⟩
/-! ### CommitsTakeEffectTogether -/

theorem witness_CommitsTakeEffectTogether_0 : ∃ (s : State) (path : Nat) (page : Nat), s.Opens page ∧ s.dev.commit = none :=
  ⟨(modOf fun d => { d with commit := none }), 0, 0,
    by (try simp only [State.On, State.Awake, State.Opens, State.Ready, Dev.quiet, Dev.acts, Clock.ok]) <;> decide +kernel⟩
theorem witness_CommitsTakeEffectTogether_1 : ∃ (s : State) (c : Instr) (path : Nat) (page : Nat), (c = .commitGo path page ∨
    c = .commitDiscard path page) ∧ path < 2 ∧ s.Opens page ∧ s.dev.commit.isSome = true :=
  ⟨(modOf fun d => { d with commit := some { tc := 0, path := 0, page := none, staged := [], pages := [], applied := false } }), (.commitGo (0) (0)),
    0, 0, by (try simp only [State.On, State.Awake, State.Opens, State.Ready, Dev.quiet, Dev.acts, Clock.ok]) <;> decide +kernel⟩
theorem witness_CommitsTakeEffectTogether_2 : ∃ (s : State) (path : Nat) (page : Nat), s.Opens page ∧ s.dev.commit = none :=
  ⟨(modOf fun d => { d with commit := none }), 0, 0,
    by (try simp only [State.On, State.Awake, State.Opens, State.Ready, Dev.quiet, Dev.acts, Clock.ok]) <;> decide +kernel⟩
theorem witness_CommitsTakeEffectTogether_4 : ∃ (s : State) (c : CommitSt), s.On ∧ s.dev.commit = some c ∧ c.applied = false ∧
    c.switched.contains 32 = false ∧ c.tc ≤ s.dev.islandNs 32 :=
  ⟨(modOf fun d => { d with commit := some ((let zz : CommitSt :=
    ({ tc := 0, path := 0, page := none, staged := [], pages := [], applied := false } : CommitSt); { zz with applied := false })) }),
    (let zz : CommitSt := ({ tc := 0, path := 0, page := none, staged := [], pages := [], applied := false } : CommitSt);
    { zz with applied := false }), by (try simp only [State.On, State.Awake, State.Opens, State.Ready, Dev.quiet, Dev.acts, Clock.ok]) <;> decide +kernel⟩
theorem witness_CommitsTakeEffectTogether_6 : ∃ (s : State), s.On ∧ (∀ c, s.dev.commit = some c → c.applied = true ∨ ∀ i, i < 34 → i ∈
    c.switched ∨ s.dev.islandNs i < c.tc) :=
  ⟨mod0, by (try simp only [State.On, State.Awake, State.Opens, State.Ready, Dev.quiet, Dev.acts, Clock.ok]) <;> decide +kernel⟩
theorem witness_CommitsTakeEffectTogether_7 : ∃ (s : State) (c : CommitSt), s.On ∧ s.dev.commit = some c ∧ c.applied = true ∧
    s.dev.spore.waiting = false ∧ (∀ f ∈ s.dev.pastParser 0xF, s.dev.cgen ≤ f.gen) :=
  ⟨(modOf fun d => let d := { d with commit := some ((let zz : CommitSt :=
    ({ tc := 0, path := 0, page := none, staged := [], pages := [], applied := false } : CommitSt); { zz with applied := true })) };
    { d with spore := { d.spore with waiting := false } }), (let zz : CommitSt :=
    ({ tc := 0, path := 0, page := none, staged := [], pages := [], applied := false } : CommitSt); { zz with applied := true }),
    by (try simp only [State.On, State.Awake, State.Opens, State.Ready, Dev.quiet, Dev.acts, Clock.ok]) <;> decide +kernel⟩
theorem witness_CommitsTakeEffectTogether_8 : ∃ (s : State) (c : CommitSt), s.On ∧ s.dev.commit = some c ∧ c.applied = true ∧
    s.dev.spore.waiting = true ∧ (∀ f ∈ s.dev.pastParser 0xF, s.dev.cgen ≤ f.gen) :=
  ⟨(modOf fun d => let d := { d with commit := some ((let zz : CommitSt :=
    ({ tc := 0, path := 0, page := none, staged := [], pages := [], applied := false } : CommitSt); { zz with applied := true })) };
    { d with spore := { d.spore with waiting := true } }), (let zz : CommitSt :=
    ({ tc := 0, path := 0, page := none, staged := [], pages := [], applied := false } : CommitSt); { zz with applied := true }),
    by (try simp only [State.On, State.Awake, State.Opens, State.Ready, Dev.quiet, Dev.acts, Clock.ok]) <;> decide +kernel⟩
theorem witness_CommitsTakeEffectTogether_9 : ∃ (s : State) (c : CommitSt) (f : Frame), s.On ∧ s.dev.commit = some c ∧ f ∈ s.dev.pastParser 0xF ∧
    f.gen < s.dev.cgen :=
  ⟨(modOf fun d => let d := { d with commit := some (({ tc := 0, path := 0, page := none, staged := [], pages := [], applied := false } : CommitSt)) };
    let d := d.setFrame 0 { stage := .flow }; { d with cgen := 1 }),
    ({ tc := 0, path := 0, page := none, staged := [], pages := [], applied := false } : CommitSt), { stage := .flow },
    by (try simp only [State.On, State.Awake, State.Opens, State.Ready, Dev.quiet, Dev.acts, Clock.ok]) <;> decide +kernel⟩
theorem witness_CommitsTakeEffectTogether_3 : ∃ (s : State) (c : CommitSt), s.On ∧ s.dev.commit = some c ∧ c.applied = false ∧ c.switched =
    [] ∧ (∀ i, i < 34 → c.tc ≤ s.dev.islandNs i) :=
  ⟨modOf fun d => { d with commit := some { tc := 0, path := 0, page := none, staged := [], pages := [], applied := false } },
    { tc := 0, path := 0, page := none, staged := [], pages := [], applied := false },
    by (try simp only [State.On, State.Awake, State.Opens, State.Ready, Dev.quiet, Dev.acts, Clock.ok]) <;> decide +kernel⟩
theorem witness_CommitsTakeEffectTogether_5 : ∃ (s : State) (c : CommitSt), s.On ∧ s.dev.commit = some c ∧ c.applied = false ∧ c.pipes =
    false ∧ (∀ i, 9 ≤ i → i ≤ 12 → s.dev.islandNs i < c.tc) :=
  ⟨modOf fun d => { d with commit := some { tc := 10 ^ 18, path := 0, page := none, staged := [], pages := [], applied := false } },
    { tc := 10 ^ 18, path := 0, page := none, staged := [], pages := [], applied := false },
    by (try simp only [State.On]) <;> decide +kernel, by decide +kernel, rfl, by decide +kernel, fun i h1 h2 => (by decide +kernel : ∀ j, j
    < 13 → (modOf fun d =>
    { d with commit := some { tc := 10 ^ 18, path := 0, page := none, staged := [], pages := [], applied := false } }).dev.islandNs j < 10
    ^ 18) i (by omega)⟩
/-! ### PausesOfPipelines -/

theorem witness_PausesOfPipelines_0 : ∃ (s : State) (mask : Nat), s.Opens 0 ∧ s.dev.pause = none ∧ s.dev.on TOP.BOOT_STATUS_READY = true :=
  ⟨(modOf fun d => let d := { d with pause := none }; d.setFld TOP.BOOT_STATUS_READY 1), 0,
    by (try simp only [State.On, State.Awake, State.Opens, State.Ready, Dev.quiet, Dev.acts, Clock.ok]) <;> decide +kernel⟩
theorem witness_PausesOfPipelines_1 : ∃ (s : State) (mask : Nat), s.Opens 0 ∧ (s.dev.pause.isSome = true ∨ s.dev.on TOP.BOOT_STATUS_READY = false) :=
  ⟨(modOf fun d => { d with pause := some { mask := 1, reached := false, since := 0 } }), 0,
    by (try simp only [State.On, State.Awake, State.Opens, State.Ready, Dev.quiet, Dev.acts, Clock.ok]) <;> decide +kernel⟩
theorem witness_PausesOfPipelines_2 : ∃ (s : State) (p : PauseSt), s.On ∧ s.dev.pause = some p ∧ p.reached = false ∧ s.dev.pastParser p.mask = [] :=
  ⟨(modOf fun d => { d with pause := some ((let zz : PauseSt := ({ mask := 1, reached := false, since := 0 } : PauseSt); { zz with reached :=
    false })) }), (let zz : PauseSt := ({ mask := 1, reached := false, since := 0 } : PauseSt); { zz with reached := false }),
    by (try simp only [State.On, State.Awake, State.Opens, State.Ready, Dev.quiet, Dev.acts, Clock.ok]) <;> decide +kernel⟩
theorem witness_PausesOfPipelines_3 : ∃ (s : State) (p : PauseSt), s.On ∧ s.dev.pause = some p ∧ s.dev.pastParser p.mask ≠ [] :=
  ⟨(modOf fun d => let d := { d with pause := some (({ mask := 1, reached := false, since := 0 } : PauseSt)) }; d.setFrame 0 { stage := .flow }),
    ({ mask := 1, reached := false, since := 0 } : PauseSt),
    by (try simp only [State.On, State.Awake, State.Opens, State.Ready, Dev.quiet, Dev.acts, Clock.ok]) <;> decide +kernel⟩
theorem witness_PausesOfPipelines_4 : ∃ (s : State) (p : PauseSt), s.Opens 0 ∧ s.dev.pause = some p ∧ s.dev.spore.waiting = false :=
  ⟨(modOf fun d => let d := { d with pause := some (({ mask := 1, reached := false, since := 0 } : PauseSt)) }; { d with spore :=
    { d.spore with waiting := false } }), ({ mask := 1, reached := false, since := 0 } : PauseSt),
    by (try simp only [State.On, State.Awake, State.Opens, State.Ready, Dev.quiet, Dev.acts, Clock.ok]) <;> decide +kernel⟩
theorem witness_PausesOfPipelines_5 : ∃ (s : State), s.Opens 0 ∧ s.dev.pause = none :=
  ⟨(modOf fun d => { d with pause := none }),
    by (try simp only [State.On, State.Awake, State.Opens, State.Ready, Dev.quiet, Dev.acts, Clock.ok]) <;> decide +kernel⟩
theorem witness_PausesOfPipelines_6 : ∃ (s : State) (p : PauseSt), s.On ∧ s.dev.pause = some p ∧ s.dev.spore.waiting = false ∧
    p.since + s.dev.num TOP.PAUSE_LIMIT % 65536 * 10000 ≤ s.dev.clk.up :=
  ⟨(modOf fun d => let d := { d with pause := some (({ mask := 1, reached := false, since := 0 } : PauseSt)) }; { d with spore :=
    { d.spore with waiting := false } }), ({ mask := 1, reached := false, since := 0 } : PauseSt),
    by (try simp only [State.On, State.Awake, State.Opens, State.Ready, Dev.quiet, Dev.acts, Clock.ok]) <;> decide +kernel⟩
theorem witness_PausesOfPipelines_7 : ∃ (s : State) (p : PauseSt), s.On ∧ s.dev.pause = some p ∧
    s.dev.clk.up < p.since + s.dev.num TOP.PAUSE_LIMIT % 65536 * 10000 :=
  ⟨(modOf fun d => { d with pause := some ({ mask := 1, reached := false, since := 10 ^ 15 }) }), { mask := 1, reached := false, since := 10 ^ 15 },
    by (try simp only [State.On, State.Awake, State.Opens, State.Ready, Dev.quiet, Dev.acts, Clock.ok]) <;> decide +kernel⟩
/-! ### PaceFollowsItsOrder -/

theorem witness_PaceFollowsItsOrder_0 : ∃ (s : State) (i : Nat) (occ : Nat), s.Awake ∧ s.dev.on TOP.BOOT_STATUS_READY = true ∧ i < 34 ∧
    (s.dev.isle i).winAt + 640 * s.dev.fld ISLE.GOV_TIME_WINDOW i ≤ s.dev.clk.up :=
  ⟨(modOf fun d => d.setFld TOP.BOOT_STATUS_READY 1), 0, 0,
    by (try simp only [State.On, State.Awake, State.Opens, State.Ready, Dev.quiet, Dev.acts, Clock.ok]) <;> decide +kernel⟩
theorem witness_PaceFollowsItsOrder_1 : ∃ (s : State) (i : Nat) (occ : Nat), s.On ∧ (s.dev.on TOP.BOOT_STATUS_READY = false ∨ 34 ≤ i ∨
    s.dev.clk.up < (s.dev.isle i).winAt + 640 * s.dev.fld ISLE.GOV_TIME_WINDOW i) :=
  ⟨(modOf fun d => d.setFld TOP.BOOT_STATUS_READY 0), 0, 0,
    by (try simp only [State.On, State.Awake, State.Opens, State.Ready, Dev.quiet, Dev.acts, Clock.ok]) <;> decide +kernel⟩
theorem witness_PaceFollowsItsOrder_2 : ∃ (s : State) (i : Nat) (lvl : Nat) (cause : Nat), s.Awake ∧ (s.dev.isle i).change = some (lvl, cause) :=
  ⟨(modOf fun d => d.setIsle (0) { (d.isle (0)) with change := some ((0), (0)) }), 0, 0, 0,
    by (try simp only [State.On, State.Awake, State.Opens, State.Ready, Dev.quiet, Dev.acts, Clock.ok]) <;> decide +kernel⟩
theorem witness_PaceFollowsItsOrder_3 : ∃ (s : State) (level : Nat), s.Opens 0x04 :=
  ⟨mod0, 0, by (try simp only [State.On, State.Awake, State.Opens, State.Ready, Dev.quiet, Dev.acts, Clock.ok]) <;> decide +kernel⟩
theorem witness_PaceFollowsItsOrder_4 : ∃ (s : State), s.Opens 0x04 :=
  ⟨mod0, by (try simp only [State.On, State.Awake, State.Opens, State.Ready, Dev.quiet, Dev.acts, Clock.ok]) <;> decide +kernel⟩

end Sys2Proof.Tests
end

