-- ==== Sys2Proof/Tests/Witness2.lean ====
section
/-! SUPPORT. For each clause of TimeReadsAndSteps, ServoAndItsInputs, LinkBringUp, FramesAndPause, HeadsAndFragments,
FlowRequests, LearningAndHostTables: a state and operands that meet its hypotheses together. -/

namespace Sys2Proof.Tests

/- In order, one after another: a check that the kernel evaluates waits for everything before it, and hundreds that wait
at once would each hold a thread. -/
set_option Elab.async false
set_option linter.unusedSimpArgs false
set_option linter.unusedVariables false
set_option linter.unnecessarySeqFocus false

open Sys2Proof Sys2Proof.Machine

/-! ### TimeReadsAndSteps -/

theorem witness_TimeReadsAndSteps_0 : ∃ (s : State) (path : Nat), s.Opens 0x05 :=
  ⟨mod0, 0, by (try simp only [State.On, State.Awake, State.Opens, State.Ready, Dev.quiet, Dev.acts, Clock.ok]) <;> decide +kernel⟩
theorem witness_TimeReadsAndSteps_1 : ∃ (s : State) (path : Nat), s.Opens 0x05 :=
  ⟨mod0, 0, by (try simp only [State.On, State.Awake, State.Opens, State.Ready, Dev.quiet, Dev.acts, Clock.ok]) <;> decide +kernel⟩
theorem witness_TimeReadsAndSteps_2 : ∃ (s : State) (path : Nat), s.Opens 0x05 :=
  ⟨mod0, 0, by (try simp only [State.On, State.Awake, State.Opens, State.Ready, Dev.quiet, Dev.acts, Clock.ok]) <;> decide +kernel⟩
theorem witness_TimeReadsAndSteps_4 : ∃ (s : State) (i : Nat) (dv : Int), s.On ∧ s.dev.time.pending = none ∧ i < 34 ∧
    s.dev.time.halted.get none i = none :=
  ⟨(modOf fun d => { d with time := { d.time with pending := none } }), 0, 0,
    by (try simp only [State.On, State.Awake, State.Opens, State.Ready, Dev.quiet, Dev.acts, Clock.ok]) <;> decide +kernel⟩
theorem witness_TimeReadsAndSteps_5 : ∃ (s : State) (sec : Nat) (ns : Nat), s.On ∧ s.dev.time.pending = some (.set sec ns) ∧
    s.dev.noInstant ∧ sec < 2 ^ 64 ∧ ns < 1000000000 :=
  ⟨(modOf fun d => { d with time := { d.time with pending := some (.set (0) (0)) } }), 0, 0,
    by (try simp only [State.On, State.Awake, State.Opens, State.Ready, Dev.quiet, Dev.acts, Clock.ok]) <;> decide +kernel⟩
theorem witness_TimeReadsAndSteps_7 : ∃ (s : State) (sec : Nat) (ns : Nat) (path : Nat), s.On ∧ s.dev.time.pending = some (.add false sec
    ns path) ∧ s.dev.noInstant ∧ s.dev.clk.ok ∧ ns < 1000000000 ∧ s.dev.clk.sec.toNat + sec + 1 < 2 ^ 64 :=
  ⟨(modOf fun d => { d with time := { d.time with pending := some (.add false (0) (0) (0)) } }), 0, 0, 0,
    by (try simp only [State.On, State.Awake, State.Opens, State.Ready, Dev.quiet, Dev.acts, Clock.ok]) <;> decide +kernel⟩
theorem witness_TimeReadsAndSteps_8 : ∃ (s : State) (sec : Nat) (ns : Nat) (path : Nat), s.On ∧ s.dev.time.pending = some (.add true sec ns path) ∧
    path < 2 ∧ s.dev.clk.fine < ((sec * 1000000000 + ns : Nat) : Int) * 2 ^ 24 :=
  ⟨(modOf fun d => { d with time := { d.time with pending := some (.add true ((10 ^ 6)) (0) (0)) } }), (10 ^ 6), 0, 0,
    by (try simp only [State.On, State.Awake, State.Opens, State.Ready, Dev.quiet, Dev.acts, Clock.ok]) <;> decide +kernel⟩
theorem witness_TimeReadsAndSteps_3 : ∃ (s : State) (i : Nat) (t : Nat) (dv : Int), s.On ∧ s.dev.time.pending = none ∧
    s.dev.time.halted.get none i = some t :=
  ⟨(modOf fun d => { d with time := { d.time with halted := [(0, some 5)] } }), 0, 5, 0,
    by (try simp only [State.On, State.Awake, State.Opens, State.Ready, Dev.quiet, Dev.acts, Clock.ok]) <;> decide +kernel⟩
theorem witness_TimeReadsAndSteps_6 : ∃ (s : State) (c : CommitSt) (sec : Nat) (ns : Nat), s.On ∧ s.dev.time.pending = some (.set sec ns) ∧
    sec < 2 ^ 64 ∧ ns < 1000000000 ∧ s.dev.commit = some c ∧ c.applied = false ∧ c.switched = [] ∧ (∀ i, i < 34 → s.dev.islandNs i < c.tc)
    ∧ c.tc ≤ sec * 1000000000 + ns ∧ s.dev.time.halted = [] ∧ s.dev.time.dev = [] ∧ s.dev.obs.snap = none ∧ (∀ n, n < 34 → (s.dev.gate
    n).pending = none) ∧ s.dev.on PWRM.SLEEP_CFG_TIMER_WAKE_EN = false :=
  ⟨(modOf fun d => { d with commit := some { tc := 10 ^ 15, path := 0, page := none, staged := [], pages := [], applied := false }, time := { d.time with pending := some (.set 1000000 0) } }),
    { tc := 10 ^ 15, path := 0, page := none, staged := [], pages := [], applied := false }, 1000000, 0,
    by (try simp only [State.On, State.Awake, State.Opens, State.Ready, Dev.quiet, Dev.acts, Clock.ok]) <;> decide +kernel⟩
/-! ### ServoAndItsInputs -/

theorem witness_ServoAndItsInputs_0 : ∃ (s : State), s.On ∧ s.dev.time.refEver = true :=
  ⟨modOf fun d => { d with time := { d.time with refEver := true } },
    by (try simp only [State.On, State.Awake, State.Opens, State.Ready, Dev.quiet, Dev.acts, Clock.ok]) <;> decide +kernel⟩
theorem witness_ServoAndItsInputs_1 : ∃ (s : State), s.On ∧ s.dev.time.refEver = false :=
  ⟨(modOf fun d => { d with time := { d.time with refGood := false } }),
    by (try simp only [State.On, State.Awake, State.Opens, State.Ready, Dev.quiet, Dev.acts, Clock.ok]) <;> decide +kernel⟩
theorem witness_ServoAndItsInputs_2 : ∃ (s : State), s.On :=
  ⟨mod0, by (try simp only [State.On, State.Awake, State.Opens, State.Ready, Dev.quiet, Dev.acts, Clock.ok]) <;> decide +kernel⟩
theorem witness_ServoAndItsInputs_3 : ∃ (s : State), s.On ∧ s.dev.asleep = false ∧ (∀ t,
    s.dev.time.lastPps = some t → 9000000000 ≤ s.dev.clk.up - t) ∧ s.dev.on TIME.SERVO_CFG_SRC = false :=
  ⟨(modOf fun d => d.setFld TIME.SERVO_CFG_SRC 0),
    by (try simp only [State.On, State.Awake, State.Opens, State.Ready, Dev.quiet, Dev.acts, Clock.ok]) <;> decide +kernel⟩
theorem witness_ServoAndItsInputs_4 : ∃ (s : State) (t : Nat), s.On ∧ s.dev.asleep = false ∧ s.dev.time.lastPps = some t ∧
    s.dev.clk.up - t < 9000000000 :=
  ⟨(modOf fun d => { d with time := { d.time with lastPps := some ((10 ^ 15)) } }), (10 ^ 15),
    by (try simp only [State.On, State.Awake, State.Opens, State.Ready, Dev.quiet, Dev.acts, Clock.ok]) <;> decide +kernel⟩
theorem witness_ServoAndItsInputs_5 : ∃ (s : State), s.On ∧ s.dev.asleep = true :=
  ⟨(modOf fun d => d.setFld PWRM.SLEEP_STAT_STATE 2),
    by (try simp only [State.On, State.Awake, State.Opens, State.Ready, Dev.quiet, Dev.acts, Clock.ok]) <;> decide +kernel⟩
theorem witness_ServoAndItsInputs_6 : ∃ (s : State) (t : Nat), s.On ∧ s.dev.time.lastPps = some t ∧ 15000000000 ≤ s.dev.clk.up - t :=
  ⟨(modOf fun d => { d with time := { d.time with lastPps := some (0) } }), 0,
    by (try simp only [State.On, State.Awake, State.Opens, State.Ready, Dev.quiet, Dev.acts, Clock.ok]) <;> decide +kernel⟩
theorem witness_ServoAndItsInputs_8 : ∃ (s : State) (w : Word), s.Opens 0x05 ∧ s.dev.on TIME.SERVO_CFG_SRC = false ∧ s.dev.on
    TIME.SERVO_CFG_SERVO_EN = true ∧ s.dev.enabled 0x05 = true ∧ s.dev.asleep = false ∧ s.dev.servoBelow (w.toInt * 10) = true :=
  ⟨modOf fun d => let d := d.setFld TIME.SERVO_CFG_SRC 0; let d := d.setFld TIME.SERVO_CFG_SERVO_EN 1; let d := d.setNum (CTRL 0x05) 1;
    { d with clk := { d.clk with sec := 0, ns := 0, frac := 0 } }, 1,
    by (try simp only [State.On, State.Awake, State.Opens, State.Ready, Dev.quiet, Dev.acts, Clock.ok]) <;> decide +kernel⟩
theorem witness_ServoAndItsInputs_9 : ∃ (s : State) (w : Word), s.Opens 0x05 ∧ (s.dev.on TIME.SERVO_CFG_SRC = true ∨ s.dev.on
    TIME.SERVO_CFG_SERVO_EN = false ∨ s.dev.enabled 0x05 = false) :=
  ⟨(modOf fun d => d.setFld TIME.SERVO_CFG_SRC 1), (0 : Word),
    by (try simp only [State.On, State.Awake, State.Opens, State.Ready, Dev.quiet, Dev.acts, Clock.ok]) <;> decide +kernel⟩
theorem witness_ServoAndItsInputs_10 : ∃ (s : State), s.Opens 0x05 ∧ s.dev.on TIME.SERVO_CFG_SERVO_EN = false :=
  ⟨(modOf fun d => d.setFld TIME.SERVO_CFG_SERVO_EN 0),
    by (try simp only [State.On, State.Awake, State.Opens, State.Ready, Dev.quiet, Dev.acts, Clock.ok]) <;> decide +kernel⟩
theorem witness_ServoAndItsInputs_11 : ∃ (s : State), s.Opens 0x05 ∧ s.dev.on TIME.SERVO_CFG_SERVO_EN = true :=
  ⟨(modOf fun d => d.setFld TIME.SERVO_CFG_SERVO_EN 1),
    by (try simp only [State.On, State.Awake, State.Opens, State.Ready, Dev.quiet, Dev.acts, Clock.ok]) <;> decide +kernel⟩
theorem witness_ServoAndItsInputs_12 : ∃ (s : State), s.On ∧ (s.dev.fld TIME.SYNC_STAT_STATE = 1 ∨ s.dev.fld TIME.SYNC_STAT_STATE = 2) ∧
    s.dev.asleep = false ∧ s.dev.enabled 0x05 = true ∧ s.dev.num TIME.IN_TIMEOUT * 10000000 ≤ s.dev.clk.up - s.dev.time.lastValid :=
  ⟨(modOf fun d => d.setFld TIME.SYNC_STAT_STATE (1)),
    by (try simp only [State.On, State.Awake, State.Opens, State.Ready, Dev.quiet, Dev.acts, Clock.ok]) <;> decide +kernel⟩
theorem witness_ServoAndItsInputs_14 : ∃ (s : State), s.On ∧ s.dev.ppsBoundary ≠ s.dev.time.ppsSec ∧ s.dev.on TIME.PPS_OUT_CFG_EN = true ∧
    (s.dev.on TIME.PPS_OUT_CFG_GATE = false ∨ s.dev.fld TIME.SYNC_STAT_STATE = 2) :=
  ⟨(modOf fun d => let d := d.setFld TIME.PPS_OUT_CFG_EN 1; d.setFld TIME.PPS_OUT_CFG_GATE 0),
    by (try simp only [State.On, State.Awake, State.Opens, State.Ready, Dev.quiet, Dev.acts, Clock.ok]) <;> decide +kernel⟩
theorem witness_ServoAndItsInputs_15 : ∃ (s : State), s.On ∧ s.dev.ppsBoundary = s.dev.time.ppsSec :=
  ⟨(modOf fun d => { d with time := { d.time with ppsSec := 100000 } }),
    by (try simp only [State.On, State.Awake, State.Opens, State.Ready, Dev.quiet, Dev.acts, Clock.ok]) <;> decide +kernel⟩
theorem witness_ServoAndItsInputs_16 : ∃ (s : State) (path : Nat) (port : Nat) (tag : Nat) (st : BitVec 64) (r : List (Nat × BitVec 64)),
    s.Opens 0x12 ∧ s.dev.time.txts.get [] port = (tag, st) :: r :=
  ⟨(modOf fun d => { d with time := { d.time with txts := d.time.txts.set [] (0) (((0), (0)) :: ([])) } }), 0, 0, 0, 0, [],
    by (try simp only [State.On, State.Awake, State.Opens, State.Ready, Dev.quiet, Dev.acts, Clock.ok]) <;> decide +kernel⟩
theorem witness_ServoAndItsInputs_17 : ∃ (s : State) (path : Nat) (port : Nat), s.Opens 0x12 ∧ s.dev.time.txts.get [] port = [] :=
  ⟨(modOf fun d => { d with time := { d.time with txts := d.time.txts.set [] (0) ([]) } }), 0, 0,
    by (try simp only [State.On, State.Awake, State.Opens, State.Ready, Dev.quiet, Dev.acts, Clock.ok]) <;> decide +kernel⟩
theorem witness_ServoAndItsInputs_7 : ∃ (s : State) (w : Word), s.Opens 0x05 ∧ s.dev.on TIME.SERVO_CFG_SRC = false ∧ s.dev.on
    TIME.SERVO_CFG_SERVO_EN = true ∧ s.dev.enabled 0x05 = true ∧ s.dev.asleep = false ∧ s.dev.servoBelow (w.toInt * 10) = false :=
  ⟨modOf fun d => let d := d.setFld TIME.SERVO_CFG_SRC 0; let d := d.setFld TIME.SERVO_CFG_SERVO_EN 1; let d := d.setNum (CTRL 0x05) 1; d,
    0, by (try simp only [State.On, State.Awake, State.Opens, State.Ready, Dev.quiet, Dev.acts, Clock.ok]) <;> decide +kernel⟩
theorem witness_ServoAndItsInputs_13 : ∃ (s : State), s.On ∧ s.dev.enabled 0x05 = false :=
  ⟨modOf fun d => d.setNum (CTRL 0x05) 0,
    by (try simp only [State.On, State.Awake, State.Opens, State.Ready, Dev.quiet, Dev.acts, Clock.ok]) <;> decide +kernel⟩
/-! ### LinkBringUp -/

theorem witness_LinkBringUp_0 : ∃ (s : State) (path : Nat) (port : Nat) (w : Word), s.Opens 0x11 ∧ port < 32 ∧ s.dev.lanesOn = true ∧
    s.dev.enabled 0x11 = true ∧ w.toNat < 256 ∧ w.toNat % 2 = 1 ∧ s.dev.num PORT.PORT_CFG port + 1 = w.toNat ∧ s.dev.mode port ≠ 0 ∧
    s.dev.portCfgOk port w.toNat = true ∧ s.dev.portState port = 0 :=
  ⟨(modOf fun d => d.setNum PORT.PORT_CFG 2 0), 0, 0, 3,
    by (try simp only [State.On, State.Awake, State.Opens, State.Ready, Dev.quiet, Dev.acts, Clock.ok]) <;> decide +kernel⟩
theorem witness_LinkBringUp_1 : ∃ (s : State) (path : Nat) (port : Nat) (w : Word), s.Opens 0x11 ∧ port < 32 ∧ path < 2 ∧ bitsOf w.toNat 1 4 ≤ 10 ∧
    s.dev.portCfgOk port (w.toNat % 256) = false :=
  ⟨(modOf fun d => d.setNum PORT.PORT_CFG 3 1), 0, 1, 20,
    by (try simp only [State.On, State.Awake, State.Opens, State.Ready, Dev.quiet, Dev.acts, Clock.ok]) <;> decide +kernel⟩
theorem witness_LinkBringUp_2 : ∃ (s : State) (port : Nat), s.Opens 0x11 ∧ port < 32 ∧ s.dev.adminUp port = true ∧
    s.dev.on PORT.PORT_CFG_AN_EN port = true ∧ s.dev.portState port = 2 :=
  ⟨(modOf fun d => let d := d.setNum PORT.PORT_CFG 3 (0); let d := d.setFld PORT.PORT_CFG_AN_EN 1 (0); d.setPortState (0) 2), 0,
    by (try simp only [State.On, State.Awake, State.Opens, State.Ready, Dev.quiet, Dev.acts, Clock.ok]) <;> decide +kernel⟩
theorem witness_LinkBringUp_3 : ∃ (s : State) (port : Nat), s.Opens 0x11 ∧ port < 32 ∧ s.dev.on PORT.PORT_CFG_ADMIN_UP port = false :=
  ⟨(modOf fun d => d.setFld PORT.PORT_CFG_ADMIN_UP 0 (0)), 0,
    by (try simp only [State.On, State.Awake, State.Opens, State.Ready, Dev.quiet, Dev.acts, Clock.ok]) <;> decide +kernel⟩
theorem witness_LinkBringUp_4 : ∃ (s : State) (port : Nat), s.Awake ∧ port < 32 ∧ s.dev.portState port = 2 ∧ (s.dev.port port).retry = none :=
  ⟨(modOf fun d => let d := d.setPortState (0) 2; d.setPort (0) { (d.port (0)) with retry := none }), 0,
    by (try simp only [State.On, State.Awake, State.Opens, State.Ready, Dev.quiet, Dev.acts, Clock.ok]) <;> decide +kernel⟩
theorem witness_LinkBringUp_5 : ∃ (s : State) (port : Nat), s.Awake ∧ port < 32 ∧ s.dev.portState port = 2 ∧ (s.dev.port port).retry = none ∧
    (s.dev.port port).fails < 7 ∧ s.dev.adminUp port = true ∧ s.dev.on PORT.PORT_CFG_AN_EN port = true :=
  ⟨(modOf fun d => let d := d.setPortState (0) 2; let d := d.setPort (0) { (d.port (0)) with retry := none }; let d := d.setNum PORT.PORT_CFG 3 (0);
    d.setFld PORT.PORT_CFG_AN_EN 1 (0)), 0,
    by (try simp only [State.On, State.Awake, State.Opens, State.Ready, Dev.quiet, Dev.acts, Clock.ok]) <;> decide +kernel⟩
theorem witness_LinkBringUp_6 : ∃ (s : State) (port : Nat), s.Awake ∧ port < 32 ∧ s.dev.portState port = 3 ∧ 7 ≤ (s.dev.port port).fails :=
  ⟨(modOf fun d => let d := d.setPortState (0) 3; d.setPort (0) { (d.port (0)) with fails := 7 }), 0,
    by (try simp only [State.On, State.Awake, State.Opens, State.Ready, Dev.quiet, Dev.acts, Clock.ok]) <;> decide +kernel⟩
theorem witness_LinkBringUp_7 : ∃ (s : State) (port : Nat) (t : Nat), s.Awake ∧ port < 32 ∧ (s.dev.port port).retry = some t ∧ t ≤ s.dev.clk.up ∧
    s.dev.adminUp port = true :=
  ⟨(modOf fun d => let d := d.setPort (0) { (d.port (0)) with retry := some (0) }; let d := { d with clk := { d.clk with up := (0) } };
    d.setNum PORT.PORT_CFG 3 (0)), 0, 0, by (try simp only [State.On, State.Awake, State.Opens, State.Ready, Dev.quiet, Dev.acts, Clock.ok]) <;> decide +kernel⟩
theorem witness_LinkBringUp_8 : ∃ (s : State) (port : Nat) (t : Nat), s.Awake ∧ (s.dev.port port).retry = some t ∧ s.dev.clk.up < t :=
  ⟨(modOf fun d => d.setPort (0) { (d.port (0)) with retry := some ((10 ^ 15 + 1)) }), 0, (10 ^ 15 + 1),
    by (try simp only [State.On, State.Awake, State.Opens, State.Ready, Dev.quiet, Dev.acts, Clock.ok]) <;> decide +kernel⟩
theorem witness_LinkBringUp_9 : ∃ (s : State) (port : Nat), s.Awake ∧ port < 32 ∧ s.dev.portState port = 1 ∧ (s.dev.port port).retry = none ∧
    s.dev.on PORT.PORT_CFG_LT_EN port = true ∧ s.dev.on PORT.PORT_CFG_AN_EN port = false :=
  ⟨(modOf fun d => let d := d.setPortState (0) 1; let d := d.setPort (0) { (d.port (0)) with retry := none };
    let d := d.setFld PORT.PORT_CFG_LT_EN 1 (0); d.setFld PORT.PORT_CFG_AN_EN 0 (0)), 0,
    by (try simp only [State.On, State.Awake, State.Opens, State.Ready, Dev.quiet, Dev.acts, Clock.ok]) <;> decide +kernel⟩
theorem witness_LinkBringUp_10 : ∃ (s : State) (port : Nat), s.Awake ∧ port < 32 ∧ s.dev.portState port = 1 ∧ (s.dev.port port).retry = none ∧
    s.dev.on PORT.PORT_CFG_LT_EN port = false ∧ s.dev.on PORT.PORT_CFG_AN_EN port = false :=
  ⟨(modOf fun d => let d := d.setPortState (0) 1; let d := d.setPort (0) { (d.port (0)) with retry := none };
    let d := d.setFld PORT.PORT_CFG_LT_EN 0 (0); d.setFld PORT.PORT_CFG_AN_EN 0 (0)), 0,
    by (try simp only [State.On, State.Awake, State.Opens, State.Ready, Dev.quiet, Dev.acts, Clock.ok]) <;> decide +kernel⟩
theorem witness_LinkBringUp_11 : ∃ (s : State) (port : Nat), s.Awake ∧ port < 32 ∧ s.dev.on PORT.FLAP_PENALTY_SUPPRESSED port = true ∧
    s.dev.penalty port < s.dev.fld PORT.FLAP_CFG_REUSE port * 50 * 65536 :=
  ⟨(modOf fun d => d.setFld PORT.FLAP_PENALTY_SUPPRESSED 1 (0)), 0,
    by (try simp only [State.On, State.Awake, State.Opens, State.Ready, Dev.quiet, Dev.acts, Clock.ok]) <;> decide +kernel⟩
theorem witness_LinkBringUp_12 : ∃ (s : State) (port : Nat), s.Awake ∧ s.dev.fld PORT.FLAP_CFG_REUSE port * 50 * 65536 ≤ s.dev.penalty port :=
  ⟨(modOf fun d => d.setFld PORT.FLAP_CFG_REUSE 0 0), 0,
    by (try simp only [State.On, State.Awake, State.Opens, State.Ready, Dev.quiet, Dev.acts, Clock.ok]) <;> decide +kernel⟩
theorem witness_LinkBringUp_13 : ∃ (s : State) (lane : Nat), s.Awake ∧ lane < 36 :=
  ⟨mod0, 0, by (try simp only [State.On, State.Awake, State.Opens, State.Ready, Dev.quiet, Dev.acts, Clock.ok]) <;> decide +kernel⟩
theorem witness_LinkBringUp_14 : ∃ (s : State) (port : Nat) (conds : Nat) (lanes : List Nat), s.On ∧ port < 32 ∧ s.dev.enabled 0x58 =
    false ∧ s.dev.tState = 0 ∧ s.dev.portState port = 4 ∧ s.dev.rx port = none ∧ lowestCause conds ≠ 0 ∧ s.dev.adminUp port = true ∧
    s.dev.debounced port conds lanes = true :=
  ⟨(modOf fun d => let d := d.setNum (CTRL 0x58) 0; let d := d.setFld TNDM.STATE_STATE 0; let d := d.setPortState (0) 4;
    d.setNum PORT.PORT_CFG 3 (0)), 0, 2, [],
    by (try simp only [State.On, State.Awake, State.Opens, State.Ready, Dev.quiet, Dev.acts, Clock.ok]) <;> decide +kernel⟩
theorem witness_LinkBringUp_17 : ∃ (s : State) (port : Nat), s.Awake ∧ port < 32 ∧ s.dev.enabled 0x58 = false ∧ s.dev.tState = 0 ∧
    s.dev.portState port = 4 ∧ (s.dev.port port).pendAt + s.dev.upHold port * 10000000 ≤ s.dev.clk.up ∧
    s.dev.on PORT.FLAP_PENALTY_SUPPRESSED port = true :=
  ⟨(modOf fun d => let d := d.setNum (CTRL 0x58) 0; let d := d.setFld TNDM.STATE_STATE 0; let d := d.setPortState (0) 4;
    d.setFld PORT.FLAP_PENALTY_SUPPRESSED 1 (0)), 0,
    by (try simp only [State.On, State.Awake, State.Opens, State.Ready, Dev.quiet, Dev.acts, Clock.ok]) <;> decide +kernel⟩
theorem witness_LinkBringUp_18 : ∃ (s : State) (port : Nat), s.Awake ∧ port < 32 ∧ s.dev.enabled 0x58 = false ∧ s.dev.tState = 0 ∧
    s.dev.portState port = 4 ∧ (s.dev.port port).pendAt + s.dev.upHold port * 10000000 ≤ s.dev.clk.up ∧
    s.dev.on PORT.FLAP_PENALTY_SUPPRESSED port = false ∧ s.dev.holdAt port none = none ∧ (∀ q, q < 8 → s.dev.inEpisode port q = false) :=
  ⟨(modOf fun d => let d := d.setNum (CTRL 0x58) 0; let d := d.setFld TNDM.STATE_STATE 0; let d := d.setPortState (0) 4;
    d.setFld PORT.FLAP_PENALTY_SUPPRESSED 0 (0)), 0,
    by (try simp only [State.On, State.Awake, State.Opens, State.Ready, Dev.quiet, Dev.acts, Clock.ok]) <;> decide +kernel⟩
theorem witness_LinkBringUp_16 : ∃ (s : State) (port : Nat) (conds : Nat) (lanes : List Nat), s.On ∧ port < 32 ∧ s.dev.enabled 0x58 = false
    ∧ s.dev.tState = 0 ∧ s.dev.portState 33 ≠ 5 ∧ s.dev.on TNDM.STATE_LINK_UP = false ∧ 4 ≤ s.dev.portState port ∧ s.dev.clk.up <
    (s.dev.port port).pendAt + s.dev.downDeb port :=
  ⟨modOf fun d => let d := d.setPortState 0 5; let d := d.setPort 0 { d.port 0 with pendAt := 10 ^ 15 }; d.setFld PORT.LINK_TIMING_DOWN_DEB
    10 0, 0, 0, [], by (try simp only [State.On, State.Awake, State.Opens, State.Ready, Dev.quiet, Dev.acts, Clock.ok]) <;> decide +kernel⟩
theorem witness_LinkBringUp_15 : ∃ (s : State) (port : Nat) (conds : Nat) (lanes : List Nat), s.On ∧ port < 32 ∧ s.dev.enabled 0x58 = false
    ∧ s.dev.tState = 0 ∧ (s.dev.portState port = 1 ∨ s.dev.portState port = 3) ∧ lowestCause conds ≠ 0 :=
  ⟨(modOf fun d => d.setPortState 0 1), 0, 2, [],
    by (try simp only [State.On, State.Awake, State.Opens, State.Ready, Dev.quiet, Dev.acts, Clock.ok]) <;> decide +kernel⟩
/-! ### FramesAndPause -/

theorem witness_FramesAndPause_0 : ∃ (s : State) (port : Nat) (bs : List Byte) (pick : List Nat), s.Awake ∧ port < 32 ∧ s.dev.aligned
    port = true ∧ s.dev.rx port = none ∧ s.dev.portState port = 5 ∧ isControl bs = false ∧ s.dev.spore.stopped = false ∧ s.dev.inEpisode
    port (s.dev.acctPri port (s.dev.tagPri port bs)) = false :=
  ⟨(modOf fun d => let d := d.setFld PORT.PORT_STAT_ALIGNED 1 0; d.setPortState 0 5), 0, withFcs (List.replicate 60 0), [],
    by (try simp only [State.On, State.Awake, State.Opens, State.Ready, Dev.quiet, Dev.acts, Clock.ok]) <;> decide +kernel⟩
theorem witness_FramesAndPause_1 : ∃ (s : State) (port : Nat) (bs : List Byte) (pick : List Nat), s.Awake ∧ port < 32 ∧ s.dev.aligned
    port = true ∧ s.dev.rx port = none ∧ (s.dev.portState port ≠ 5 ∨ isControl bs = true) :=
  ⟨(modOf fun d => d.setFld PORT.PORT_STAT_ALIGNED 1 0), 0, withFcs (List.replicate 60 0), [],
    by (try simp only [State.On, State.Awake, State.Opens, State.Ready, Dev.quiet, Dev.acts, Clock.ok]) <;> decide +kernel⟩
theorem witness_FramesAndPause_2 : ∃ (s : State) (port : Nat) (bs : List Byte) (pick : List Nat), s.On ∧ s.dev.aligned port = false :=
  ⟨mod0, 0, [], [], by (try simp only [State.On, State.Awake, State.Opens, State.Ready, Dev.quiet, Dev.acts, Clock.ok]) <;> decide +kernel⟩
theorem witness_FramesAndPause_3 : ∃ (s : State) (port : Nat) (k : Nat) (x : Rx) (f : Frame) (pick : List Nat), s.Awake ∧ port < 32 ∧
    s.dev.rx port = some x ∧ x.reason = none ∧ x.dead = false ∧ x.desc = some k ∧ s.dev.frame k = some f ∧ min x.bytes.length x.maxFrame ≤ x.room ∧
    macVerdict x.bytes x.maxFrame false = none ∧ beAt x.bytes 12 2 ≠ 0x8808 :=
  ⟨(modOf fun d => let d := d.setRx 0 (some { desc := some 0, bytes := withFcs (List.replicate 60 0), room := 256 }); d.setFrame 0 {}), 0, 0,
    { desc := some 0, bytes := withFcs (List.replicate 60 0), room := 256 }, ({} : Frame), [],
    by (try simp only [State.On, State.Awake, State.Opens, State.Ready, Dev.quiet, Dev.acts, Clock.ok]) <;> decide +kernel⟩
theorem witness_FramesAndPause_4 : ∃ (s : State) (port : Nat) (bs : List Byte) (pcs : Bool) (pick : List Nat), s.On ∧ s.dev.rx port = none :=
  ⟨mod0, 0, [], false, [], by (try simp only [State.On, State.Awake, State.Opens, State.Ready, Dev.quiet, Dev.acts, Clock.ok]) <;> decide +kernel⟩
theorem witness_FramesAndPause_5 : ∃ (s : State) (port : Nat) (bs : List Byte) (pick : List Nat), s.Awake ∧ port < 32 ∧ s.dev.aligned
    port = true ∧ s.dev.rx port = none ∧ macVerdict bs (s.dev.maxFrame port) false = none ∧ beAt bs 12 2 = 0x8808 ∧ beAt bs 14 2 = 1 ∧
    bs.take 6 = pauseDa ∧ s.dev.fcMode port = 1 ∧ beAt bs 16 2 ≠ 0 ∧ bitOf (s.dev.fld PORT.PORT_STAT_STORM port) 0 = false :=
  ⟨(modOf fun d => let d := d.setFld PORT.PORT_STAT_ALIGNED 1 0; d.setFld PORT.MAC_CFG_FC_MODE 1 0), 0,
    withFcs (pauseDa ++ List.replicate 6 2 ++ [0x88, 0x08, 0, 1, 0, 5] ++ List.replicate 42 0), [],
    by (try simp only [State.On, State.Awake, State.Opens, State.Ready, Dev.quiet, Dev.acts, Clock.ok]) <;> decide +kernel⟩
theorem witness_FramesAndPause_6 : ∃ (s : State) (port : Nat) (bs : List Byte) (pick : List Nat), s.Awake ∧ port < 32 ∧ s.dev.aligned
    port = true ∧ s.dev.rx port = none ∧ macVerdict bs (s.dev.maxFrame port) false = none ∧ beAt bs 12 2 = 0x8808 ∧ beAt bs 14 2 = 1 ∧
    bs.take 6 = pauseDa ∧ s.dev.fcMode port = 1 ∧ beAt bs 16 2 = 0 :=
  ⟨(modOf fun d => let d := d.setFld PORT.PORT_STAT_ALIGNED 1 0; d.setFld PORT.MAC_CFG_FC_MODE 1 0), 0,
    withFcs (pauseDa ++ List.replicate 6 2 ++ [0x88, 0x08, 0, 1, 0, 0] ++ List.replicate 42 0), [],
    by (try simp only [State.On, State.Awake, State.Opens, State.Ready, Dev.quiet, Dev.acts, Clock.ok]) <;> decide +kernel⟩
theorem witness_FramesAndPause_7 : ∃ (s : State) (port : Nat) (pri : Nat), s.Awake ∧ port < 32 ∧ pri < 8 ∧
    (s.dev.pri port pri).pauseEnd ≤ s.dev.clk.up ∧ (s.dev.pri port pri).pauseEnd ≠ 0 ∧ s.dev.fcMode port = 2 :=
  ⟨(modOf fun d => let d := d.setFld PORT.MAC_CFG_FC_MODE 2 0; d.setPri 0 0 { d.pri 0 0 with pauseEnd := 5 }), 0, 0,
    by (try simp only [State.On, State.Awake, State.Opens, State.Ready, Dev.quiet, Dev.acts, Clock.ok]) <;> decide +kernel⟩
theorem witness_FramesAndPause_8 : ∃ (s : State) (port : Nat) (pri : Nat), s.Awake ∧ s.dev.clk.up < (s.dev.pri port pri).pauseEnd :=
  ⟨(modOf fun d => d.setPri 0 0 { d.pri 0 0 with pauseEnd := 10 ^ 15 + 1 }), 0, 0,
    by (try simp only [State.On, State.Awake, State.Opens, State.Ready, Dev.quiet, Dev.acts, Clock.ok]) <;> decide +kernel⟩
theorem witness_FramesAndPause_10 : ∃ (s : State) (port : Nat) (pri : Nat), s.Awake ∧ port < 32 ∧ pri < 8 ∧ bitOf (s.dev.xoffTx port) pri =
    true ∧ s.dev.inEpisode port pri = true ∧ s.dev.portState port = 5 ∧ (s.dev.pri port pri).xoffAt + s.dev.xoffQuanta port * 2560 / max 1
    (s.dev.rate port) ≤ s.dev.clk.up ∧ s.dev.sending port = true :=
  ⟨(modOf fun d => let d := d.setPortState 0 5; let d := d.setFld PORT.PORT_STAT_XOFF_TX 1 0; let d := d.setNum BUFM.XOFF_STAT 1 0;
    { d with sw := { d.sw with staged := d.sw.staged.set [] 0 [{ copy := { desc := 0, port := 0 }, started := true }] } }), 0, 0,
    by (try simp only [State.On, State.Awake, State.Opens, State.Ready, Dev.quiet, Dev.acts, Clock.ok]) <;> decide +kernel⟩
theorem witness_FramesAndPause_11 : ∃ (s : State) (port : Nat) (pri : Nat), s.Awake ∧ s.dev.inEpisode port pri = false :=
  ⟨mod0, 0, 0, by (try simp only [State.On, State.Awake, State.Opens, State.Ready, Dev.quiet, Dev.acts, Clock.ok]) <;> decide +kernel⟩
theorem witness_FramesAndPause_12 : ∃ (s : State) (port : Nat) (pri : Nat), s.Awake ∧ port < 32 ∧ pri < 8 ∧ s.dev.on
    PORT.STORM_CFG_STORM_EN port = true ∧ s.dev.portState port = 5 ∧ bitOf (s.dev.fld PORT.PORT_STAT_STORM port) pri = false ∧ s.dev.clk.up
    < (s.dev.pri port pri).pauseEnd ∧ (s.dev.pri port pri).pauseFrom + s.dev.fld PORT.STORM_CFG_DETECT port * 10000000 ≤ s.dev.clk.up ∧
    s.dev.queuedSince port pri (s.dev.clk.up - s.dev.fld PORT.STORM_CFG_DETECT port * 10000000) = true ∧ s.dev.on PORT.STORM_CFG_ACTION
    port = false :=
  ⟨(modOf fun d => let d := d.setFld PORT.STORM_CFG_STORM_EN 1 (0); let d := d.setPortState (0) 5; let d := d.setFld PORT.STORM_CFG_ACTION 0 (0);
    let d := d.setPri 0 0 { d.pri 0 0 with pauseEnd := 10 ^ 15 + 1 }; d.setQueue 0 [{ desc := 0, port := 0 }]), 0, 0,
    by (try simp only [State.On, State.Awake, State.Opens, State.Ready, Dev.quiet, Dev.acts, Clock.ok]) <;> decide +kernel⟩
theorem witness_FramesAndPause_13 : ∃ (s : State) (port : Nat) (pri : Nat), s.Awake ∧ bitOf (s.dev.fld PORT.PORT_STAT_STORM port) pri = true :=
  ⟨(modOf fun d => d.setFld PORT.PORT_STAT_STORM 1 0), 0, 0,
    by (try simp only [State.On, State.Awake, State.Opens, State.Ready, Dev.quiet, Dev.acts, Clock.ok]) <;> decide +kernel⟩
theorem witness_FramesAndPause_14 : ∃ (s : State) (port : Nat) (pri : Nat), s.Awake ∧ port < 32 ∧ pri < 8 ∧
    bitOf (s.dev.fld PORT.PORT_STAT_STORM port) pri = true ∧
    (s.dev.pri port pri).pauseLast + s.dev.fld PORT.STORM_CFG_RESTORE port * 10000000 ≤ s.dev.clk.up ∧ s.dev.holdAt port (some pri) = none :=
  ⟨(modOf fun d => d.setFld PORT.PORT_STAT_STORM 1 0), 0, 0,
    by (try simp only [State.On, State.Awake, State.Opens, State.Ready, Dev.quiet, Dev.acts, Clock.ok]) <;> decide +kernel⟩
theorem witness_FramesAndPause_15 : ∃ (s : State) (port : Nat) (pri : Nat), s.Awake ∧ bitOf (s.dev.fld PORT.PORT_STAT_STORM port) pri = false :=
  ⟨mod0, 0, 0, by (try simp only [State.On, State.Awake, State.Opens, State.Ready, Dev.quiet, Dev.acts, Clock.ok]) <;> decide +kernel⟩
theorem witness_FramesAndPause_9 : ∃ (s : State) (port : Nat) (pri : Nat), s.Awake ∧ port < 32 ∧ pri < 8 ∧ bitOf (s.dev.xoffTx port) pri =
    true ∧ s.dev.inEpisode port pri = true ∧ s.dev.portState port = 5 ∧ (s.dev.pri port pri).xoffAt + s.dev.xoffQuanta port * 2560 / max 1
    (s.dev.rate port) ≤ s.dev.clk.up ∧ s.dev.sending port = false ∧ s.dev.xoffQuanta port ≠ 0 :=
  ⟨(modOf fun d => let d := d.setPortState 0 5; let d := d.setFld PORT.PORT_STAT_XOFF_TX 1 0; let d := d.setNum BUFM.XOFF_STAT 1 0;
    d.setFld PORT.PFC_CFG_XOFF_QUANTA 1 0), 0, 0,
    by (try simp only [State.On, State.Awake, State.Opens, State.Ready, Dev.quiet, Dev.acts, Clock.ok]) <;> decide +kernel⟩
/-! ### HeadsAndFragments -/

theorem witness_HeadsAndFragments_0 : ∃ (s : State) (pipe : Nat) (k : Nat) (r : List Nat) (f : Frame) (ovf : Bool), s.Awake ∧ pipe < 4 ∧
    s.dev.pipeHeld pipe = false ∧ s.dev.releasedOf pipe = [] ∧ s.dev.sw.heads.get [] pipe = k :: r ∧ s.dev.frame k = some f ∧
    s.dev.parseAct (s.dev.genAt pipe) (s.dev.parse pipe f.bytes) = 1 :=
  ⟨(modOf fun d => let d := { d with sw := { d.sw with heads := d.sw.heads.set [] (0) ((0) :: ([])) } }; let d := d.setFrame (0) (({} : Frame));
    d.setNum PARS.LIMIT_ACT 0x5555), 0, 0, [], ({} : Frame), false,
    by (try simp only [State.On, State.Awake, State.Opens, State.Ready, Dev.quiet, Dev.acts, Clock.ok]) <;> decide +kernel⟩
theorem witness_HeadsAndFragments_1 : ∃ (s : State) (pipe : Nat) (k : Nat) (r : List Nat) (f : Frame) (ovf : Bool), s.Awake ∧ pipe < 4 ∧
    s.dev.pipeHeld pipe = false ∧ s.dev.releasedOf pipe = [] ∧ s.dev.sw.heads.get [] pipe = k :: r ∧ s.dev.frame k = some f ∧
    s.dev.parseAct (s.dev.genAt pipe) (s.dev.parse pipe f.bytes) = 2 :=
  ⟨(modOf fun d => let d := { d with sw := { d.sw with heads := d.sw.heads.set [] (0) ((0) :: ([])) } }; let d := d.setFrame (0) (({} : Frame));
    d.setNum PARS.LIMIT_ACT 0xAAAA), 0, 0, [], ({} : Frame), false,
    by (try simp only [State.On, State.Awake, State.Opens, State.Ready, Dev.quiet, Dev.acts, Clock.ok]) <;> decide +kernel⟩
theorem witness_HeadsAndFragments_3 : ∃ (s : State) (pipe : Nat) (ovf : Bool) (reads : List TableWord), s.Awake ∧ pipe < 4 ∧ s.dev.pipeHeld
    pipe = true :=
  ⟨modOf fun d => { d with pause := some { mask := 15, reached := true, since := 0 } }, 0, false, [],
    by (try simp only [State.On, State.Awake, State.Opens, State.Ready, Dev.quiet, Dev.acts, Clock.ok]) <;> decide +kernel⟩
theorem witness_HeadsAndFragments_4 : ∃ (s : State) (pipe : Nat) (ovf : Bool) (reads : List TableWord), s.Awake ∧ pipe < 4 ∧
    s.dev.sw.heads.get [] pipe = [] :=
  ⟨mod0, 0, false, [],
    by (try simp only [State.On, State.Awake, State.Opens, State.Ready, Dev.quiet, Dev.acts, Clock.ok]) <;> decide +kernel⟩
theorem witness_HeadsAndFragments_5 : ∃ (s : State) (pipe : Nat) (k : Nat) (r : List Nat) (f : Frame) (ovf : Bool), s.Awake ∧ pipe < 4 ∧
    s.dev.releasedOf pipe = k :: r ∧ s.dev.frame k = some f ∧ bitsOf f.ctx.summary 17 2 = 2 ∧ bitsOf (s.dev.numAt f.gen FRAG.FRAG_CFG) 12 4
    ≤ f.ctx.fragOff ∧ s.dev.fragFind f.gen pipe f.ctx.fragKey = none ∧ s.dev.enabled 0x21 = true ∧ (s.dev.waitsOf pipe).length < 1024 :=
  ⟨(modOf fun d => let d := d.setFrame 0 { gen := 0, ctx := { summary := 2 * 2 ^ 17, fragOff := 15 } }; d.setReleased 0 [0]), 0, 0, [],
    { gen := 0, ctx := { summary := 2 * 2 ^ 17, fragOff := 15 } }, false,
    by (try simp only [State.On, State.Awake, State.Opens, State.Ready, Dev.quiet, Dev.acts, Clock.ok]) <;> decide +kernel⟩
theorem witness_HeadsAndFragments_6 : ∃ (s : State) (pipe : Nat) (ovf : Bool) (reads : List TableWord), s.Awake ∧ pipe < 4 ∧
    s.dev.releasedOf pipe = [] :=
  ⟨mod0, 0, false, [],
    by (try simp only [State.On, State.Awake, State.Opens, State.Ready, Dev.quiet, Dev.acts, Clock.ok]) <;> decide +kernel⟩
theorem witness_HeadsAndFragments_7 : ∃ (s : State) (pipe : Nat) (k : Nat) (t : Nat) (r : List Nat) (f : Frame), s.Awake ∧ pipe < 4 ∧
    s.dev.waitsOf pipe = k :: r ∧ s.dev.frame k = some f ∧ f.stage = .waiting t ∧
    t + bitsOf (s.dev.numAt f.gen FRAG.FRAG_CFG) 0 10 * 10000 ≤ s.dev.clk.up :=
  ⟨(modOf fun d => let d := d.setFrame (0) ((let zz : Frame := ({} : Frame); { zz with stage := .waiting (0) })); d.setWaits 0 [0]), 0, 0, 0, [],
    (let zz : Frame := ({} : Frame); { zz with stage := .waiting (0) }),
    by (try simp only [State.On, State.Awake, State.Opens, State.Ready, Dev.quiet, Dev.acts, Clock.ok]) <;> decide +kernel⟩
theorem witness_HeadsAndFragments_8 : ∃ (s : State) (pipe : Nat) (k : Nat) (t : Nat) (r : List Nat) (f : Frame), s.Awake ∧ pipe < 4 ∧
    s.dev.waitsOf pipe = k :: r ∧ s.dev.frame k = some f ∧ f.stage = .waiting t ∧ s.dev.clk.up < t + bitsOf (s.dev.numAt f.gen
    FRAG.FRAG_CFG) 0 10 * 10000 ∧ (∀ j ∈ r, ∃ g u, s.dev.frame j = some g ∧ g.stage = .waiting u ∧ s.dev.clk.up < u + bitsOf (s.dev.numAt
    g.gen FRAG.FRAG_CFG) 0 10 * 10000) :=
  ⟨modOf fun d => let d := d.setFrame 0 { stage := .waiting (10 ^ 15) }; d.setWaits 0 [0], 0, 0, 10 ^ 15, [],
    { stage := .waiting (10 ^ 15) },
    by (try simp only [State.On, State.Awake, State.Opens, State.Ready, Dev.quiet, Dev.acts, Clock.ok]) <;> decide +kernel, by decide, by
    decide +kernel, by decide +kernel, rfl, by decide +kernel, fun j h => by cases h⟩
theorem witness_HeadsAndFragments_10 : ∃ (s : State) (pipe : Nat) (entry : Nat) (e : FragEntry), s.Awake ∧ pipe < 4 ∧ entry < 8192 ∧
    s.dev.fragAt (pipe * 8192 + entry) = some e ∧ e.hit + s.dev.fld FRAG.FRAG_AGE_AGE * 10000000 ≤ s.dev.clk.up :=
  ⟨(modOf fun d => d.setFrag 0 (some { key := [], data := [0, 0, 0, 0], hit := 0, ended := none })), 0, 0,
    { key := [], data := [0, 0, 0, 0], hit := 0, ended := none },
    by (try simp only [State.On, State.Awake, State.Opens, State.Ready, Dev.quiet, Dev.acts, Clock.ok]) <;> decide +kernel⟩
theorem witness_HeadsAndFragments_11 : ∃ (s : State) (pipe : Nat) (entry : Nat) (e : FragEntry), s.Awake ∧ pipe < 4 ∧ entry < 8192 ∧
    s.dev.fragAt (pipe * 8192 + entry) = some e ∧ e.ended = none ∧ s.dev.clk.up < e.hit + s.dev.fld FRAG.FRAG_AGE_AGE * 10000000 :=
  ⟨(modOf fun d => d.setFrag 0 (some { key := [], data := [0, 0, 0, 0], hit := (10 ^ 15), ended := none })), 0, 0,
    { key := [], data := [0, 0, 0, 0], hit := (10 ^ 15), ended := none },
    by (try simp only [State.On, State.Awake, State.Opens, State.Ready, Dev.quiet, Dev.acts, Clock.ok]) <;> decide +kernel⟩
theorem witness_HeadsAndFragments_12 : ∃ (s : State) (desc : Nat) (dest : Nat) (code : Nat) (f : Frame), s.Awake ∧ s.dev.frame desc = some f ∧
    f.stage = .edit ∧ s.dev.verdict f = .go dest none code ∧ s.dev.finalList f = some {} ∧ f.bytes.length ≤ 10236 :=
  ⟨(modOf fun d => d.setFrame (0) ((let zz : Frame := ({} : Frame); { zz with stage := .edit }))), 0, 0, 0, (let zz : Frame := ({} : Frame);
    { zz with stage := .edit }), by (try simp only [State.On, State.Awake, State.Opens, State.Ready, Dev.quiet, Dev.acts, Clock.ok]) <;> decide +kernel⟩
theorem witness_HeadsAndFragments_13 : ∃ (s : State) (desc : Nat) (reason : Nat) (hop : Bool) (f : Frame), s.Awake ∧ s.dev.frame desc = some f ∧
    f.stage = .edit ∧ s.dev.verdict f = .drop reason hop :=
  ⟨(modOf fun d => d.setFrame 0 { stage := .edit, ctx := { fwd := { act := 2 } } }), 0, 5, false, { stage := .edit, ctx := { fwd := { act := 2 } } },
    by (try simp only [State.On, State.Awake, State.Opens, State.Ready, Dev.quiet, Dev.acts, Clock.ok]) <;> decide +kernel⟩
theorem witness_HeadsAndFragments_14 : ∃ (s : State) (desc : Nat) (reads : List TableWord), s.Awake ∧ s.dev.frame desc = none :=
  ⟨mod0, 0, [], by (try simp only [State.On, State.Awake, State.Opens, State.Ready, Dev.quiet, Dev.acts, Clock.ok]) <;> decide +kernel⟩
theorem witness_HeadsAndFragments_9 : ∃ (s : State) (pipe : Nat) (k : Nat) (j : Nat) (t : Nat) (u : Nat) (f : Frame) (g : Frame), s.Awake ∧
    pipe < 4 ∧ s.dev.waitsOf pipe = [k, j] ∧ k ≠ j ∧ s.dev.frame k = some f ∧ f.stage = .waiting t ∧ s.dev.clk.up < t + bitsOf (s.dev.numAt
    f.gen FRAG.FRAG_CFG) 0 10 * 10000 ∧ s.dev.frame j = some g ∧ g.stage = .waiting u ∧ u + bitsOf (s.dev.numAt g.gen FRAG.FRAG_CFG) 0 10 *
    10000 ≤ s.dev.clk.up :=
  ⟨modOf fun d => let d := d.setFrame 0 { stage := .waiting (10 ^ 15) }; let d := d.setFrame 1 { stage := .waiting 0 }; d.setWaits 0 [0,
    1], 0, 0, 1, 10 ^ 15, 0, { stage := .waiting (10 ^ 15) }, { stage := .waiting 0 },
    by (try simp only [State.On, State.Awake, State.Opens, State.Ready, Dev.quiet, Dev.acts, Clock.ok]) <;> decide +kernel⟩
theorem witness_HeadsAndFragments_2 : ∃ (s : State) (c : CommitSt) (pipe : Nat), s.dev.commit = some c ∧ c.applied = false ∧ c.switched =
    [] ∧ c.pipes = false :=
  ⟨modOf fun d => { d with commit := some { tc := 0, path := 0, page := none, staged := [], pages := [], applied := false } },
    { tc := 0, path := 0, page := none, staged := [], pages := [], applied := false }, 0, by decide +kernel⟩
/-! ### FlowRequests -/

theorem witness_FlowRequests_0 : ∃ (s : State) (desc : Nat) (home : Option BadWord) (alt : Option BadWord) (f : Frame), s.Awake ∧
    s.dev.frame desc = some f ∧ f.stage = .request ∧ s.dev.frondRuns (frondOf (s.dev.homeFor f)) = false :=
  ⟨(modOf fun d => d.setFrame (0) ((let zz : Frame := ({} : Frame); { zz with stage := .request }))), 0, none, none, (let zz : Frame := ({} : Frame);
    { zz with stage := .request }), by (try simp only [State.On, State.Awake, State.Opens, State.Ready, Dev.quiet, Dev.acts, Clock.ok]) <;> decide +kernel⟩
theorem witness_FlowRequests_1 : ∃ (s : State) (desc : Nat) (home : Option BadWord) (alt : Option BadWord) (f : Frame), s.Awake ∧
    s.dev.frame desc = some f ∧ f.stage = .request ∧ s.dev.frondRuns (frondOf (s.dev.homeFor f)) = true ∧ s.dev.reserved (s.dev.flowConn
    f).pairKey = true :=
  ⟨(modOf fun d => let d := d.setFrame (0) ((let zz : Frame := ({} : Frame); { zz with stage := .request })); let d := d.setNum FENG.RUN 255;
    d.setTask 0 0 (some { view := { resv := some (d.flowConn { stage := .request }).pairKey } })), 0, none, none, (let zz : Frame := ({} : Frame);
    { zz with stage := .request }), by (try simp only [State.On, State.Awake, State.Opens, State.Ready, Dev.quiet, Dev.acts, Clock.ok]) <;> decide +kernel⟩
/-- A module in which a request's home slot is open and empty, and every frond runs. -/
def modOpen : State :=
  modOf fun d =>
    let d := (d.setFrame 0 { stage := .request }).setNum FENG.RUN 255
    let h := d.homeOf d.flow.kp d.flow.kl (d.flowConn { stage := .request })
    let d := { d with flow := { d.flow with opened := d.flow.opened.set none h (some { value := 0 }) } }
    d.setNum (FENG.ENTRY.ix 0) 0x80000000
theorem witness_FlowRequests_3 : ∃ (s : State) (desc : Nat) (h : Nat) (o : OpenSlot) (f : Frame), s.Awake ∧ s.dev.frame desc = some f ∧
    f.stage = .request ∧ h = s.dev.homeFor f ∧ s.dev.frondRuns (frondOf h) = true ∧ s.dev.reserved (s.dev.flowConn f).pairKey = false ∧
    s.dev.flow.opened.get none h = some o ∧ slotSpill o.value = false ∧ (s.dev.flowConn f).v6 = false ∧ matchDir (s.dev.recordAt false h)
    (s.dev.flowConn f) = none ∧ s.dev.entryOk f.gen 0 = true ∧ (s.dev.reqArrives desc f h).reqBlock desc
    { f with ctx := { f.ctx with home := h, asked := true } } (none, none) = none :=
  ⟨modOpen, 0, modOpen.dev.homeFor { stage := .request }, { value := 0 }, { stage := .request },
    by (try simp only [State.On, State.Awake, State.Opens, State.Ready, Dev.quiet, Dev.acts, Clock.ok]) <;> decide +kernel⟩
theorem witness_FlowRequests_4 : ∃ (s : State) (desc : Nat) (home : Option BadWord) (alt : Option BadWord), s.Awake ∧ s.dev.frame desc = none :=
  ⟨mod0, 0, none, none, by (try simp only [State.On, State.Awake, State.Opens, State.Ready, Dev.quiet, Dev.acts, Clock.ok]) <;> decide +kernel⟩
theorem witness_FlowRequests_5 : ∃ (s : State) (slot : Nat), s.Awake ∧ slot < 2 ^ 27 ∧ (s.dev.flow.opened.get none slot).isSome = true ∧ (∀
    x ∈ s.dev.entrySlots slot, s.dev.slotInUse x = false) :=
  ⟨(modOf fun d => { d with flow := { d.flow with opened := d.flow.opened.set none 0 (some { value := 1 }) } }), 0,
    by (try simp only [State.On, State.Awake, State.Opens, State.Ready, Dev.quiet, Dev.acts, Clock.ok]) <;> decide +kernel⟩
theorem witness_FlowRequests_6 : ∃ (s : State) (slot : Nat), s.Awake ∧ slot < 2 ^ 27 ∧ (s.dev.flow.opened.get none slot).isSome = true ∧ (∃
    x ∈ s.dev.entrySlots slot, s.dev.slotInUse x = true) ∧ (∃ x ∈ s.dev.entrySlots slot, s.dev.writeDue x = true) :=
  ⟨(modOf fun d => let d := { d with flow := { d.flow with opened := d.flow.opened.set none 0 (some { value := 1, lo := true }) } };
    d.setTask 0 0 (some {})), 0,
    by (try simp only [State.On, State.Awake, State.Opens, State.Ready, Dev.quiet, Dev.acts, Clock.ok]) <;> decide +kernel⟩
theorem witness_FlowRequests_7 : ∃ (s : State) (slot : Nat), s.Awake ∧ slot < 2 ^ 27 ∧ (∃ x ∈ s.dev.entrySlots slot, s.dev.slotInUse x =
    true) ∧ (∀ x ∈ s.dev.entrySlots slot, s.dev.writeDue x = false) :=
  ⟨(modOf fun d => let d := { d with flow := { d.flow with opened := d.flow.opened.set none 0 (some { value := 1, lo := true, since := 10 ^ 15 }) } };
    d.setTask 0 0 (some {})), 0,
    by (try simp only [State.On, State.Awake, State.Opens, State.Ready, Dev.quiet, Dev.acts, Clock.ok]) <;> decide +kernel⟩
theorem witness_FlowRequests_8 : ∃ (s : State) (slot : Nat), s.Awake ∧ slot < 2 ^ 27 ∧ s.dev.flow.opened.get none slot = none :=
  ⟨(modOf fun d => { d with flow := { d.flow with opened := d.flow.opened.set none (0) (none) } }), 0,
    by (try simp only [State.On, State.Awake, State.Opens, State.Ready, Dev.quiet, Dev.acts, Clock.ok]) <;> decide +kernel⟩
theorem witness_FlowRequests_2 : ∃ (s : State) (desc : Nat) (h : Nat) (home : Option BadWord) (alt : Option BadWord) (f : Frame) (b :
    ReqBlock), s.Awake ∧ s.dev.frame desc = some f ∧ f.stage = .request ∧ h = s.dev.homeFor f ∧ s.dev.frondRuns (frondOf h) = true ∧
    s.dev.reserved (s.dev.flowConn f).pairKey = false ∧ (s.dev.reqArrives desc f h).reqBlock desc
    { f with ctx := { f.ctx with home := h, asked := true } } (home, alt) = some b :=
  ⟨(modOf fun d => let d := ((d.setFrame 0 { stage := .request }).setFrame 1 { stage := .request }).setNum FENG.RUN 255;
    { d with flow := { d.flow with arrivals := [1] } }), 0,
    (modOf fun d => let d := ((d.setFrame 0 { stage := .request }).setFrame 1 { stage := .request }).setNum FENG.RUN 255;
    { d with flow := { d.flow with arrivals := [1] } }).dev.homeFor { stage := .request }, none, none, { stage := .request }, .order,
    by (try simp only [State.On, State.Awake, State.Opens, State.Ready, Dev.quiet, Dev.acts, Clock.ok]) <;> decide +kernel⟩
/-! ### LearningAndHostTables -/

theorem witness_LearningAndHostTables_0 : ∃ (s : State) (pipe : Nat) (i : Nat) (x : Learn) (r : List Learn), s.Awake ∧ pipe < 4 ∧
    s.dev.look.learns.get [] pipe = x :: r ∧ s.dev.enabled 0x28 = true ∧ s.dev.hostFind pipe 1 x.dom x.mac = none ∧ s.dev.learnStale pipe x
    = false ∧ (hostWays pipe (s.dev.hostBucket 1 x.dom x.mac)).find? s.dev.hostFree = some i :=
  ⟨(modOf fun d => { d with look := { d.look with learns := [(0, [{ mac := 1, dom := 0, port := 0, stamp := 0 }])] } }), 0, 0 * 262144 +
    (modOf fun d => { d with look := { d.look with learns := [(0, [{ mac := 1, dom := 0, port := 0, stamp := 0 }])] } }).dev.hostBucket 1 0
    1 * 8 + 0, { mac := 1, dom := 0, port := 0, stamp := 0 }, [],
    by (try simp only [State.On, State.Awake, State.Opens, State.Ready, Dev.quiet, Dev.acts, Clock.ok]) <;> decide +kernel,
    by (try simp only [State.On, State.Awake, State.Opens, State.Ready, Dev.quiet, Dev.acts, Clock.ok]) <;> decide +kernel,
    by (try simp only [State.On, State.Awake, State.Opens, State.Ready, Dev.quiet, Dev.acts, Clock.ok]) <;> decide +kernel,
    by (try simp only [State.On, State.Awake, State.Opens, State.Ready, Dev.quiet, Dev.acts, Clock.ok]) <;> decide +kernel,
    by (try simp only [State.On, State.Awake, State.Opens, State.Ready, Dev.quiet, Dev.acts, Clock.ok]) <;> decide +kernel,
    by (try simp only [State.On, State.Awake, State.Opens, State.Ready, Dev.quiet, Dev.acts, Clock.ok]) <;> decide +kernel, rfl⟩
theorem witness_LearningAndHostTables_1 : ∃ (s : State) (pipe : Nat) (i : Nat) (x : Learn) (r : List Learn), s.Awake ∧ pipe < 4 ∧
    s.dev.look.learns.get [] pipe = x :: r ∧ s.dev.hostFind pipe 1 x.dom x.mac = some i ∧ (hostStatic (s.dev.hostAt i) = true ∨
    hostLock (s.dev.hostAt i) = true) :=
  ⟨({ dev := putHost devLearn 1 (1 + 2 ^ 76 + 2 ^ 79), pending := [] } : State), 0, (0 * 262144 + devLearn.hostBucket 1 0 1 * 8 + 0),
    ({ mac := 1, dom := 0, port := 0, stamp := 0 } : Learn), [],
    by (try simp only [State.On, State.Awake, State.Opens, State.Ready, Dev.quiet, Dev.acts, Clock.ok]) <;> decide +kernel,
    by (try simp only [State.On, State.Awake, State.Opens, State.Ready, Dev.quiet, Dev.acts, Clock.ok]) <;> decide +kernel,
    by (try simp only [State.On, State.Awake, State.Opens, State.Ready, Dev.quiet, Dev.acts, Clock.ok]) <;> decide +kernel,
    hostFind_put devLearn 1 _ (by decide), .inl ((congrArg hostStatic (hostAt_put devLearn 1 _)).trans (by decide))⟩
theorem witness_LearningAndHostTables_2 : ∃ (s : State) (pipe : Nat), s.Awake ∧ pipe < 4 ∧ s.dev.look.learns.get [] pipe = [] :=
  ⟨(modOf fun d => { d with look := { d.look with learns := d.look.learns.set [] (0) ([]) } }), 0,
    by (try simp only [State.On, State.Awake, State.Opens, State.Ready, Dev.quiet, Dev.acts, Clock.ok]) <;> decide +kernel⟩
theorem witness_LearningAndHostTables_4 : ∃ (s : State) (pipe : Nat), s.Awake ∧ pipe < 4 :=
  ⟨mod0, 0, by (try simp only [State.On, State.Awake, State.Opens, State.Ready, Dev.quiet, Dev.acts, Clock.ok]) <;> decide +kernel⟩
theorem witness_LearningAndHostTables_5 : ∃ (s : State) (pipe : Nat), s.Awake ∧ pipe < 4 ∧ bitOf (s.dev.fld FWDT.HT_STAT_STORM) pipe =
    false ∧ s.dev.stormOver pipe = true ∧ s.dev.fld FWDT.STORM_CFG_STORM_MAX < s.dev.look.moves.get 0 pipe :=
  ⟨(modOf fun d => { d with look := { d.look with moves := [(0, 100000)] } }), 0,
    by (try simp only [State.On, State.Awake, State.Opens, State.Ready, Dev.quiet, Dev.acts, Clock.ok]) <;> decide +kernel⟩
theorem witness_LearningAndHostTables_6 : ∃ (s : State) (pipe : Nat), s.Awake ∧ pipe < 4 ∧ bitOf (s.dev.fld FWDT.HT_STAT_STORM) pipe =
    true ∧ s.dev.stormOver pipe = true ∧ s.dev.look.moves.get 0 pipe ≤ s.dev.fld FWDT.STORM_CFG_STORM_MAX / 2 :=
  ⟨(modOf fun d => d.setFld FWDT.HT_STAT_STORM 1), 0,
    by (try simp only [State.On, State.Awake, State.Opens, State.Ready, Dev.quiet, Dev.acts, Clock.ok]) <;> decide +kernel⟩
theorem witness_LearningAndHostTables_8 : ∃ (s : State) (pipe : Nat) (index : Nat), s.Awake ∧ pipe < 4 ∧ index < 262144 ∧ hostType
    (s.dev.hostAt (pipe * 262144 + index)) = 1 ∧ hostStatic (s.dev.hostAt (pipe * 262144 + index)) = false ∧ hostLock (s.dev.hostAt (pipe *
    262144 + index)) = false ∧ s.dev.fld FWDT.LEARN_CFG_AGE_TIME ≤ (s.dev.upSec + 4096 - hostAge (s.dev.hostAt (pipe * 262144 + index))) %
    4096 :=
  ⟨(modOf fun d => { d with look := { d.look with hosts := [(0, 2 ^ 76)] } }), 0, 0,
    by (try simp only [State.On, State.Awake, State.Opens, State.Ready, Dev.quiet, Dev.acts, Clock.ok]) <;> decide +kernel⟩
theorem witness_LearningAndHostTables_9 : ∃ (s : State) (pipe : Nat) (index : Nat), s.Awake ∧ pipe < 4 ∧ index < 262144 ∧ (∀ x ∈
    s.dev.look.longSweep, x.1 ≠ pipe) ∧ (hostType (s.dev.hostAt (pipe * 262144 + index)) ≠ 1 ∨ hostStatic (s.dev.hostAt (pipe * 262144 +
    index)) = true ∨ hostLock (s.dev.hostAt (pipe * 262144 + index)) = true) :=
  ⟨mod0, 0, 0, by (try simp only [State.On, State.Awake, State.Opens, State.Ready, Dev.quiet, Dev.acts, Clock.ok]) <;> decide +kernel⟩
theorem witness_LearningAndHostTables_10 : ∃ (s : State) (i : Nat), s.Opens 0x28 ∧ s.dev.on FWDT.CMD_STAT_BUSY = false ∧
    s.dev.fld FWDT.CMD_ENTRY_TYPE = 1 ∧ s.dev.hostFind 0 1 (s.dev.fld FWDT.CMD_ENTRY_DOMAIN) (keyOf 1 s.dev.cmdKey) = some i :=
  ⟨({ dev := putHost devEntry 0 (2 ^ 76), pending := [] } : State), (0 * 262144 + devEntry.hostBucket 1 0 0 * 8 + 0),
    by (try simp only [State.On, State.Awake, State.Opens, State.Ready, Dev.quiet, Dev.acts, Clock.ok]) <;> decide +kernel,
    by (try simp only [State.On, State.Awake, State.Opens, State.Ready, Dev.quiet, Dev.acts, Clock.ok]) <;> decide +kernel,
    by (try simp only [State.On, State.Awake, State.Opens, State.Ready, Dev.quiet, Dev.acts, Clock.ok]) <;> decide +kernel,
    by rw [show (putHost devEntry 0 (2 ^ 76)).fld FWDT.CMD_ENTRY_DOMAIN = 0 by decide +kernel,
    show keyOf 1 (putHost devEntry 0 (2 ^ 76)).cmdKey = 0 by decide +kernel]; exact hostFind_put devEntry 0 _ (by decide)⟩
theorem witness_LearningAndHostTables_11 : ∃ (s : State), s.Opens 0x28 ∧ s.dev.on FWDT.CMD_STAT_BUSY = false ∧ s.dev.fld FWDT.CMD_ENTRY_TYPE = 1 ∧
    s.dev.hostFind 0 1 (s.dev.fld FWDT.CMD_ENTRY_DOMAIN) (keyOf 1 s.dev.cmdKey) = none :=
  ⟨(modOf fun d => let d := d.setFld FWDT.CMD_STAT_BUSY 0; d.setFld FWDT.CMD_ENTRY_TYPE (1)),
    by (try simp only [State.On, State.Awake, State.Opens, State.Ready, Dev.quiet, Dev.acts, Clock.ok]) <;> decide +kernel⟩
theorem witness_LearningAndHostTables_12 : ∃ (s : State) (i : Nat) (key : Nat) (dom : Nat), s.Opens 0x28 ∧ s.dev.on FWDT.CMD_STAT_BUSY =
    false ∧ s.dev.fld FWDT.CMD_ENTRY_TYPE = 1 ∧ dom = s.dev.fld FWDT.CMD_ENTRY_DOMAIN ∧ key = keyOf 1 s.dev.cmdKey ∧ s.dev.fld
    FWDT.CMD_ENTRY_ACT ≠ 3 ∧ s.dev.fld FWDT.CMD_RESULT_RESULT ≤ 33 ∧ s.dev.hostFind 0 1 dom key = none ∧ (hostWays 0 (s.dev.hostBucket 1
    dom key)).find? s.dev.hostFree = some i :=
  ⟨(modOf fun d => let d := d.setFld FWDT.CMD_STAT_BUSY 0; let d := d.setFld FWDT.CMD_ENTRY_TYPE (1); d.setFld FWDT.CMD_ENTRY_ACT (0)),
    (0 * 262144 + (modOf fun d => let d := d.setFld FWDT.CMD_STAT_BUSY 0; let d := d.setFld FWDT.CMD_ENTRY_TYPE (1);
    d.setFld FWDT.CMD_ENTRY_ACT (0)).dev.hostBucket 1 0 0 * 8 + 0), 0, 0,
    by (try simp only [State.On, State.Awake, State.Opens, State.Ready, Dev.quiet, Dev.acts, Clock.ok]) <;> decide +kernel,
    by (try simp only [State.On, State.Awake, State.Opens, State.Ready, Dev.quiet, Dev.acts, Clock.ok]) <;> decide +kernel,
    by (try simp only [State.On, State.Awake, State.Opens, State.Ready, Dev.quiet, Dev.acts, Clock.ok]) <;> decide +kernel,
    by (try simp only [State.On, State.Awake, State.Opens, State.Ready, Dev.quiet, Dev.acts, Clock.ok]) <;> decide +kernel,
    by (try simp only [State.On, State.Awake, State.Opens, State.Ready, Dev.quiet, Dev.acts, Clock.ok]) <;> decide +kernel,
    by (try simp only [State.On, State.Awake, State.Opens, State.Ready, Dev.quiet, Dev.acts, Clock.ok]) <;> decide +kernel,
    by (try simp only [State.On, State.Awake, State.Opens, State.Ready, Dev.quiet, Dev.acts, Clock.ok]) <;> decide +kernel,
    by (try simp only [State.On, State.Awake, State.Opens, State.Ready, Dev.quiet, Dev.acts, Clock.ok]) <;> decide +kernel, rfl⟩
theorem witness_LearningAndHostTables_13 : ∃ (s : State) (i : Nat) (key : Nat) (dom : Nat), s.Opens 0x28 ∧ s.dev.on FWDT.CMD_STAT_BUSY = false ∧
    s.dev.fld FWDT.CMD_ENTRY_TYPE = 1 ∧ dom = s.dev.fld FWDT.CMD_ENTRY_DOMAIN ∧ key = keyOf 1 s.dev.cmdKey ∧ s.dev.hostFind 0 1 dom key = some i :=
  ⟨({ dev := putHost devEntry 0 (2 ^ 76), pending := [] } : State), (0 * 262144 + devEntry.hostBucket 1 0 0 * 8 + 0), 0, 0,
    by (try simp only [State.On, State.Awake, State.Opens, State.Ready, Dev.quiet, Dev.acts, Clock.ok]) <;> decide +kernel,
    by (try simp only [State.On, State.Awake, State.Opens, State.Ready, Dev.quiet, Dev.acts, Clock.ok]) <;> decide +kernel,
    by (try simp only [State.On, State.Awake, State.Opens, State.Ready, Dev.quiet, Dev.acts, Clock.ok]) <;> decide +kernel,
    by (try simp only [State.On, State.Awake, State.Opens, State.Ready, Dev.quiet, Dev.acts, Clock.ok]) <;> decide +kernel,
    by (try simp only [State.On, State.Awake, State.Opens, State.Ready, Dev.quiet, Dev.acts, Clock.ok]) <;> decide +kernel,
    hostFind_put devEntry 0 _ (by decide)⟩
theorem witness_LearningAndHostTables_14 : ∃ (s : State) (c : Instr) (mask : Nat), (c = .hostFind mask ∨ c = .hostInsert mask ∨
    c = .hostDelete mask) ∧ s.Opens 0x28 ∧ s.dev.on FWDT.CMD_STAT_BUSY = false ∧ s.dev.fld FWDT.CMD_ENTRY_TYPE = 0 :=
  ⟨(modOf fun d => let d := d.setFld FWDT.CMD_STAT_BUSY 0; d.setFld FWDT.CMD_ENTRY_TYPE (0)), (.hostFind (0)), 0,
    by (try simp only [State.On, State.Awake, State.Opens, State.Ready, Dev.quiet, Dev.acts, Clock.ok]) <;> decide +kernel⟩
theorem witness_LearningAndHostTables_3 : ∃ (s : State) (pipe : Nat) (x : Learn) (r : List Learn), s.Awake ∧ pipe < 4 ∧
    s.dev.look.learns.get [] pipe = x :: r ∧ s.dev.enabled 0x28 = false :=
  ⟨modOf fun d => { d.setNum (CTRL 0x28) 0 with look := { d.look with learns := [(0, [{ mac := 1, dom := 0, port := 0, stamp := 0 }])] } },
    0, { mac := 1, dom := 0, port := 0, stamp := 0 }, [],
    by (try simp only [State.On, State.Awake, State.Opens, State.Ready, Dev.quiet, Dev.acts, Clock.ok]) <;> decide +kernel⟩
theorem witness_LearningAndHostTables_7 : ∃ (s : State) (pipe : Nat), s.Awake ∧ pipe < 4 ∧ s.dev.clk.up < s.dev.look.stormAt.get 0 pipe +
    s.dev.fld FWDT.STORM_CFG_STORM_WIN * 10000000 :=
  ⟨modOf fun d => { d with look := { d.look with stormAt := [(0, 10 ^ 15)] } }, 0,
    by (try simp only [State.On, State.Awake, State.Opens, State.Ready, Dev.quiet, Dev.acts, Clock.ok]) <;> decide +kernel⟩

end Sys2Proof.Tests
end

