-- ==== Sys2Proof/Tests/Witness3.lean ====
section
/-! SUPPORT. For each clause of PrefixesAndRules, LoadersUnderPause, WalksOverTheFlowTable, HostCommandsOnRecords,
SendsOfTasks, MicrowordSequencing: a state and operands that meet its hypotheses together. -/

namespace Sys2Proof.Tests

/- In order, one after another: a check that the kernel evaluates waits for everything before it, and hundreds that wait
at once would each hold a thread. -/
set_option Elab.async false
set_option linter.unusedSimpArgs false
set_option linter.unusedVariables false
set_option linter.unnecessarySeqFocus false

open Sys2Proof Sys2Proof.Machine

/-! ### PrefixesAndRules -/

theorem witness_PrefixesAndRules_0 : ∃ (s : State) (mask : Nat), s.Opens 0x29 ∧ s.dev.on LPMT.CMD_STAT_BUSY = false ∧ mask % 16 ≠ 0 ∧
    s.dev.fld LPMT.CMD_PREFIX_LEN ≤ (if s.dev.on LPMT.CMD_PREFIX_V6 then 128 else 32) :=
  ⟨(modOf fun d => d.setFld LPMT.CMD_STAT_BUSY 0), 1,
    by (try simp only [State.On, State.Awake, State.Opens, State.Ready, Dev.quiet, Dev.acts, Clock.ok]) <;> decide +kernel⟩
theorem witness_PrefixesAndRules_1 : ∃ (s : State) (mask : Nat) (p : Plan), s.Opens 0x29 ∧ s.dev.on LPMT.CMD_STAT_BUSY = false ∧ mask % 16 ≠ 0 ∧
    s.dev.fld LPMT.CMD_PREFIX_LEN ≤ (if s.dev.on LPMT.CMD_PREFIX_V6 then 128 else 32) ∧
    s.dev.insertPlan (lowPipe (mask % 16)) (s.dev.on LPMT.CMD_PREFIX_V6) s.dev.lpmKey (s.dev.fld LPMT.CMD_PREFIX_LEN) (s.dev.fld LPMT.CMD_PREFIX_VRF) (s.dev.fld LPMT.CMD_RESULT_NEXT_HOP) (s.dev.fld LPMT.CMD_RESULT_ACT) = some p ∧
    p.writes ≠ [] :=
  ⟨(modOf fun d => d.setFld LPMT.CMD_STAT_BUSY 0), 1,
    (((modOf fun d => d.setFld LPMT.CMD_STAT_BUSY 0).dev.insertPlan 0 false 0 0 0 0 0).getD { writes := [], moves := 0 }),
    by (try simp only [State.On, State.Awake, State.Opens, State.Ready, Dev.quiet, Dev.acts, Clock.ok]) <;> decide +kernel⟩
theorem witness_PrefixesAndRules_2 : ∃ (s : State) (mask : Nat), s.Opens 0x29 ∧ s.dev.on LPMT.CMD_STAT_BUSY = false ∧ mask % 16 ≠ 0 ∧
    s.dev.fld LPMT.CMD_PREFIX_LEN ≤ (if s.dev.on LPMT.CMD_PREFIX_V6 then 128 else 32) ∧
    s.dev.insertPlan (lowPipe (mask % 16)) (s.dev.on LPMT.CMD_PREFIX_V6) s.dev.lpmKey (s.dev.fld LPMT.CMD_PREFIX_LEN) (s.dev.fld LPMT.CMD_PREFIX_VRF) (s.dev.fld LPMT.CMD_RESULT_NEXT_HOP) (s.dev.fld LPMT.CMD_RESULT_ACT) = none :=
  ⟨(modOf fun d => let d := d.setFld LPMT.CMD_STAT_BUSY 0; d.setUnit 0 131071 ((prefUnits false 1 32 0 0 0).headD 0)), 1,
    by (try simp only [State.On, State.Awake, State.Opens, State.Ready, Dev.quiet, Dev.acts, Clock.ok]) <;> decide +kernel⟩
theorem witness_PrefixesAndRules_3 : ∃ (s : State) (mask : Nat) (i : Nat), s.Opens 0x29 ∧ s.dev.on LPMT.CMD_STAT_BUSY = false ∧ mask % 16 ≠ 0 ∧
    s.dev.fld LPMT.CMD_PREFIX_LEN ≤ (if s.dev.on LPMT.CMD_PREFIX_V6 then 128 else 32) ∧
    s.dev.prefAt (lowPipe (mask % 16)) (s.dev.on LPMT.CMD_PREFIX_V6) s.dev.lpmKey (s.dev.fld LPMT.CMD_PREFIX_LEN) (s.dev.fld LPMT.CMD_PREFIX_VRF) = some i :=
  ⟨(modOf fun d => let d := d.setFld LPMT.CMD_STAT_BUSY 0; d.setUnit 0 0 ((prefUnits false 0 0 0 0 0).headD 0)), 1, 0,
    by (try simp only [State.On, State.Awake, State.Opens, State.Ready, Dev.quiet, Dev.acts, Clock.ok]) <;> decide +kernel⟩
theorem witness_PrefixesAndRules_4 : ∃ (s : State) (c : Instr) (mask : Nat), (c = .prefixFind mask ∨ c = .prefixInsert mask ∨
    c = .prefixDelete mask) ∧ s.Opens 0x29 ∧ s.dev.on LPMT.CMD_STAT_BUSY = true :=
  ⟨(modOf fun d => d.setFld LPMT.CMD_STAT_BUSY 1), (.prefixFind (0)), 0,
    by (try simp only [State.On, State.Awake, State.Opens, State.Ready, Dev.quiet, Dev.acts, Clock.ok]) <;> decide +kernel⟩
theorem witness_PrefixesAndRules_5 : ∃ (s : State) (op : PrefixOp) (i : Nat) (u : Nat) (r : List (Nat × Nat)), s.Awake ∧
    s.dev.look.prefixOp = some op ∧ op.writes = (i, u) :: r ∧ i < lpmUnits :=
  ⟨(modOf fun d => { d with look := { d.look with prefixOp := some ((let zz : PrefixOp := ({ mask := 1, writes := [], moves := 0 } : PrefixOp);
    { zz with writes := ((0), (0)) :: ([]) })) } }), (let zz : PrefixOp := ({ mask := 1, writes := [], moves := 0 } : PrefixOp); { zz with writes :=
    ((0), (0)) :: ([]) }), 0, 0, [], by (try simp only [State.On, State.Awake, State.Opens, State.Ready, Dev.quiet, Dev.acts, Clock.ok]) <;> decide +kernel⟩
theorem witness_PrefixesAndRules_6 : ∃ (s : State), s.Awake ∧ s.dev.look.prefixOp = none :=
  ⟨(modOf fun d => { d with look := { d.look with prefixOp := none } }),
    by (try simp only [State.On, State.Awake, State.Opens, State.Ready, Dev.quiet, Dev.acts, Clock.ok]) <;> decide +kernel⟩
theorem witness_PrefixesAndRules_7 : ∃ (s : State) (mask : Nat), s.Opens 0x2A ∧ s.dev.on CLSF.CMD_STAT_BUSY = false ∧ ruleOk s.dev.cmdRule = true :=
  ⟨(modOf fun d => d.setFld CLSF.CMD_STAT_BUSY 0), 0,
    by (try simp only [State.On, State.Awake, State.Opens, State.Ready, Dev.quiet, Dev.acts, Clock.ok]) <;> decide +kernel⟩
theorem witness_PrefixesAndRules_8 : ∃ (s : State) (mask : Nat), s.Opens 0x2A ∧ s.dev.on CLSF.CMD_STAT_BUSY = false ∧ ruleOk s.dev.cmdRule = false :=
  ⟨(modOf fun d => d.setNum (CLSF.CMD_DATA.ix 24) 0x9F), 0,
    by (try simp only [State.On, State.Awake, State.Opens, State.Ready, Dev.quiet, Dev.acts, Clock.ok]) <;> decide +kernel⟩
theorem witness_PrefixesAndRules_9 : ∃ (s : State) (mask : Nat), s.Opens 0x2A ∧ s.dev.on CLSF.CMD_STAT_BUSY = false :=
  ⟨(modOf fun d => d.setFld CLSF.CMD_STAT_BUSY 0), 0,
    by (try simp only [State.On, State.Awake, State.Opens, State.Ready, Dev.quiet, Dev.acts, Clock.ok]) <;> decide +kernel⟩
theorem witness_PrefixesAndRules_10 : ∃ (s : State), s.Opens 0x2A ∧ s.dev.on CLSF.CMD_STAT_BUSY = false :=
  ⟨(modOf fun d => d.setFld CLSF.CMD_STAT_BUSY 0),
    by (try simp only [State.On, State.Awake, State.Opens, State.Ready, Dev.quiet, Dev.acts, Clock.ok]) <;> decide +kernel⟩
/-! ### LoadersUnderPause -/

theorem witness_LoadersUnderPause_0 : ∃ (s : State) (c : Instr) (l : LoaderAt) (path : Nat) (auto : Bool), ((c = .graphGo path auto ∧
    l = graphLoader) ∨ (c = .bankLoadGo path auto ∧ l = bankLoader) ∨ (c = .anchorLoadGo path auto ∧ l = anchorLoader)) ∧ s.Opens l.page ∧
    s.dev.pausedFor (s.dev.loaderMask l) = true ∧ s.dev.opState l.stat ≠ 1 :=
  ⟨(modOf fun d => { d with pause := some { mask := 15, reached := true, since := 0 } }), (.graphGo (0) (false)), (graphLoader), 0, false,
    by (try simp only [State.On, State.Awake, State.Opens, State.Ready, Dev.quiet, Dev.acts, Clock.ok]) <;> decide +kernel⟩
theorem witness_LoadersUnderPause_1 : ∃ (s : State) (c : Instr) (l : LoaderAt) (path : Nat) (auto : Bool), ((c = .graphGo path auto ∧
    l = graphLoader) ∨ (c = .bankLoadGo path auto ∧ l = bankLoader) ∨ (c = .anchorLoadGo path auto ∧ l = anchorLoader)) ∧ path < 2 ∧ s.Opens l.page ∧
    s.dev.pausedFor (s.dev.loaderMask l) = false :=
  ⟨mod0, (.graphGo (0) (false)), (graphLoader), 0, false,
    by (try simp only [State.On, State.Awake, State.Opens, State.Ready, Dev.quiet, Dev.acts, Clock.ok]) <;> decide +kernel⟩
theorem witness_LoadersUnderPause_2 : ∃ (s : State) (c : Instr) (l : LoaderAt) (auto : Bool), ((c = .graphArm auto ∧ l = graphLoader) ∨
    (c = .bankLoadArm auto ∧ l = bankLoader) ∨ (c = .anchorLoadArm auto ∧ l = anchorLoader)) ∧ s.Opens l.page ∧ s.dev.opState l.stat ≠ 1 :=
  ⟨mod0, (.graphArm (false)), (graphLoader), false,
    by (try simp only [State.On, State.Awake, State.Opens, State.Ready, Dev.quiet, Dev.acts, Clock.ok]) <;> decide +kernel⟩
theorem witness_LoadersUnderPause_3 : ∃ (s : State) (c : Instr) (l : LoaderAt), ((c = .graphAutoStart ∧ l = graphLoader) ∨ (c = .bankLoadAutoStart ∧
    l = bankLoader) ∨ (c = .anchorLoadAutoStart ∧ l = anchorLoader)) ∧ s.On ∧ (s.dev.loader l).armed = true ∧
    s.dev.pausedFor (s.dev.loaderMask l) = true ∧ s.dev.opState l.stat ≠ 1 :=
  ⟨(modOf fun d => let d := { d with pause := some { mask := 15, reached := true, since := 0 } }; d.setLoader graphLoader { armed := true }),
    (.graphAutoStart), (graphLoader), by (try simp only [State.On, State.Awake, State.Opens, State.Ready, Dev.quiet, Dev.acts, Clock.ok]) <;> decide +kernel⟩
theorem witness_LoadersUnderPause_4 : ∃ (s : State) (c : Instr) (l : LoaderAt), ((c = .graphAutoStart ∧ l = graphLoader) ∨ (c = .bankLoadAutoStart ∧
    l = bankLoader) ∨ (c = .anchorLoadAutoStart ∧ l = anchorLoader)) ∧ s.On ∧ ((s.dev.loader l).armed = false ∨
    s.dev.pausedFor (s.dev.loaderMask l) = false) :=
  ⟨mod0, (.graphAutoStart), (graphLoader),
    by (try simp only [State.On, State.Awake, State.Opens, State.Ready, Dev.quiet, Dev.acts, Clock.ok]) <;> decide +kernel⟩
theorem witness_LoadersUnderPause_5 : ∃ (s : State) (c : Instr) (l : LoaderAt) (done : Nat), ((c = .graphAbort done ∧ l = graphLoader) ∨
    (c = .bankLoadAbort done ∧ l = bankLoader) ∨ (c = .anchorLoadAbort done ∧ l = anchorLoader)) ∧ s.Opens l.page ∧ s.dev.opState l.stat = 1 :=
  ⟨(modOf fun d => d.setNum graphLoader.stat 1), (.graphAbort (0)), (graphLoader), 0,
    by (try simp only [State.On, State.Awake, State.Opens, State.Ready, Dev.quiet, Dev.acts, Clock.ok]) <;> decide +kernel⟩
theorem witness_LoadersUnderPause_6 : ∃ (s : State) (c : Instr) (l : LoaderAt) (done : Nat), ((c = .graphDone done ∧ l = graphLoader) ∨
    (c = .loadDone done ∧ l = bankLoader) ∨ (c = .anchorLoadDone done ∧ l = anchorLoader)) ∧ s.On ∧ s.dev.opState l.stat = 1 ∧
    s.dev.loaderCount l ≤ done ∧ s.dev.pausedFor (s.dev.loaderMask l) = true ∧ (s.dev.loader l).auto = false :=
  ⟨(modOf fun d => let d := { d with pause := some { mask := 15, reached := true, since := 0 } }; d.setNum graphLoader.stat 1), (.graphDone (1000)),
    (graphLoader), 1000, by (try simp only [State.On, State.Awake, State.Opens, State.Ready, Dev.quiet, Dev.acts, Clock.ok]) <;> decide +kernel⟩
theorem witness_LoadersUnderPause_7 : ∃ (s : State) (c : Instr) (l : LoaderAt) (done : Nat), ((c = .graphDone done ∧ l = graphLoader) ∨
    (c = .loadDone done ∧ l = bankLoader) ∨ (c = .anchorLoadDone done ∧ l = anchorLoader)) ∧ s.On ∧ s.dev.opState l.stat = 1 ∧
    done < s.dev.loaderCount l :=
  ⟨(modOf fun d => let d := d.setNum graphLoader.stat 1; d.setFld PARS.GRAPH_NODES_COUNT 1), (.graphDone (0)), (graphLoader), 0,
    by (try simp only [State.On, State.Awake, State.Opens, State.Ready, Dev.quiet, Dev.acts, Clock.ok]) <;> decide +kernel⟩
theorem witness_LoadersUnderPause_8 : ∃ (s : State) (c : Instr) (l : LoaderAt) (done : Nat), ((c = .graphDone done ∧ l = graphLoader) ∨
    (c = .loadDone done ∧ l = bankLoader) ∨ (c = .anchorLoadDone done ∧ l = anchorLoader)) ∧ s.On ∧ s.dev.opState l.stat ≠ 1 :=
  ⟨mod0, (.graphDone (0)), (graphLoader), 0,
    by (try simp only [State.On, State.Awake, State.Opens, State.Ready, Dev.quiet, Dev.acts, Clock.ok]) <;> decide +kernel⟩
theorem witness_LoadersUnderPause_9 : ∃ (s : State) (done : Nat) (n : Nat), s.On ∧ s.dev.opState bankLoader.stat = 1 ∧
    s.dev.loaderCount bankLoader ≤ done ∧ s.dev.pausedFor (s.dev.loaderMask bankLoader) = true ∧ (s.dev.loader bankLoader).auto = false ∧
    n < s.dev.loaderCount bankLoader ∧ s.dev.fld CLSF.LOAD_BANKS_FIRST * 1024 + s.dev.loaderCount bankLoader ≤ 65536 ∧
    ruleOk (leNat (s.dev.dmaRead (s.dev.num2 CLSF.LOAD_ADDR_LO CLSF.LOAD_ADDR_HI + 128 * n) 128)) = true :=
  ⟨(modOf fun d => let d := { d with pause := some { mask := 15, reached := true, since := 0 } }; let d := d.setNum bankLoader.stat 1;
    d.setFld CLSF.LOAD_BANKS_COUNT 1), 1024, 0,
    by (try simp only [State.On, State.Awake, State.Opens, State.Ready, Dev.quiet, Dev.acts, Clock.ok]) <;> decide +kernel⟩
/-! ### WalksOverTheFlowTable -/

theorem witness_WalksOverTheFlowTable_0 : ∃ (s : State), s.Opens 0x30 :=
  ⟨(modOf fun d => d.setNum FLOW.SWEEP_STAT (0)),
    by (try simp only [State.On, State.Awake, State.Opens, State.Ready, Dev.quiet, Dev.acts, Clock.ok]) <;> decide +kernel⟩
theorem witness_WalksOverTheFlowTable_1 : ∃ (s : State), s.Opens 0x30 ∧ s.dev.opState FLOW.SWEEP_STAT = 1 :=
  ⟨(modOf fun d => d.setNum FLOW.SWEEP_STAT (1)),
    by (try simp only [State.On, State.Awake, State.Opens, State.Ready, Dev.quiet, Dev.acts, Clock.ok]) <;> decide +kernel⟩
theorem witness_WalksOverTheFlowTable_4 : ∃ (s : State), s.Awake ∧ s.dev.sweeperOn = true ∧ s.dev.opState FLOW.SWEEP_STAT = 1 ∧
    s.dev.flow.aborted = false ∧ s.dev.flow.began + s.dev.fld FLOW.SWEEP_CFG_PERIOD * 10000000000 * s.dev.flow.pair / s.dev.altMask ≤
    s.dev.clk.up ∧ (∀ x, x = s.dev.flow.pair ∨ x = s.dev.mateOf s.dev.flow.pair → s.dev.recordAt false x = 0 ∨ s.dev.recDue (s.dev.recordAt
    false x) = false) ∧ s.dev.on FLOW.SWEEP_CFG_NORMALISE = false ∧ s.dev.on FLOW.SWEEP_CFG_SPILL_AUDIT = false :=
  ⟨(modOf fun d => let d := d.setNum FLOW.SWEEP_STAT 1; let d := { d with flow := { d.flow with aborted := false } };
    let d := d.setFld FLOW.SWEEP_CFG_NORMALISE 0; d.setFld FLOW.SWEEP_CFG_SPILL_AUDIT 0), by decide +kernel, by decide +kernel, by
    decide +kernel, by decide +kernel, by decide +kernel, by rintro x (rfl | rfl) <;> decide +kernel, by decide +kernel, by decide +kernel⟩
theorem witness_WalksOverTheFlowTable_6 : ∃ (s : State), s.Awake ∧ s.dev.sweeperOn = true ∧ s.dev.flow.aborted = false ∧
    s.dev.clk.up < s.dev.flow.began + s.dev.fld FLOW.SWEEP_CFG_PERIOD * 10000000000 * s.dev.flow.pair / s.dev.altMask :=
  ⟨(modOf fun d => let d := { d with flow := { d.flow with aborted := false } }; { d with flow := { d.flow with began := d.clk.up, pair := 1 } }),
    by (try simp only [State.On, State.Awake, State.Opens, State.Ready, Dev.quiet, Dev.acts, Clock.ok]) <;> decide +kernel⟩
theorem witness_WalksOverTheFlowTable_7 : ∃ (s : State), s.Opens 0x30 ∧ s.dev.rebuilding = false ∧ s.dev.opState MEMC.RETIRE_STAT ≠ 1 :=
  ⟨(modOf fun d => d.setNum MEMC.RETIRE_STAT (0)),
    by (try simp only [State.On, State.Awake, State.Opens, State.Ready, Dev.quiet, Dev.acts, Clock.ok]) <;> decide +kernel⟩
theorem witness_WalksOverTheFlowTable_8 : ∃ (s : State), s.Opens 0x30 ∧ (s.dev.rebuilding = true ∨ s.dev.opState MEMC.RETIRE_STAT = 1) :=
  ⟨(modOf fun d => d.setNum FLOW.REBUILD_STAT 1),
    by (try simp only [State.On, State.Awake, State.Opens, State.Ready, Dev.quiet, Dev.acts, Clock.ok]) <;> decide +kernel⟩
theorem witness_WalksOverTheFlowTable_9 : ∃ (s : State), s.Awake ∧ s.dev.rebuilding = true ∧ s.dev.flow.copied = false ∧
    s.dev.slotAt false s.dev.flow.cursor = 0 ∧ s.dev.slotAt false (s.dev.mateOf s.dev.flow.cursor) = 0 ∧ s.dev.flow.cursor + 1 < s.dev.altMask :=
  ⟨(modOf fun d => let d := { d with flow := { d.flow with copied := false } }; d.setNum FLOW.REBUILD_STAT 1),
    by (try simp only [State.On, State.Awake, State.Opens, State.Ready, Dev.quiet, Dev.acts, Clock.ok]) <;> decide +kernel⟩
theorem witness_WalksOverTheFlowTable_12 : ∃ (s : State), s.Awake ∧ (s.dev.rebuilding = false ∨ s.dev.flow.copied = true) :=
  ⟨mod0, by (try simp only [State.On, State.Awake, State.Opens, State.Ready, Dev.quiet, Dev.acts, Clock.ok]) <;> decide +kernel⟩
theorem witness_WalksOverTheFlowTable_13 : ∃ (s : State) (t : Nat), s.Awake ∧ s.dev.flow.switchNs = some t ∧ s.dev.rebuilding = true ∧
    t ≤ s.dev.nowNs ∧ s.dev.flowRecords = [] ∧ s.dev.tState ≠ 3 :=
  ⟨(modOf fun d => let d := { d with flow := { d.flow with switchNs := some (0) } }; d.setNum FLOW.REBUILD_STAT 1), 0,
    by (try simp only [State.On, State.Awake, State.Opens, State.Ready, Dev.quiet, Dev.acts, Clock.ok]) <;> decide +kernel⟩
theorem witness_WalksOverTheFlowTable_15 : ∃ (s : State) (t : Nat), s.Awake ∧ s.dev.flow.switchNs = some t ∧ s.dev.nowNs < t :=
  ⟨(modOf fun d => { d with flow := { d.flow with switchNs := some ((10 ^ 18)) } }), (10 ^ 18),
    by (try simp only [State.On, State.Awake, State.Opens, State.Ready, Dev.quiet, Dev.acts, Clock.ok]) <;> decide +kernel⟩
theorem witness_WalksOverTheFlowTable_16 : ∃ (s : State), s.Opens 0x30 ∧ s.dev.opState FLOW.REBUILD_STAT = 1 :=
  ⟨(modOf fun d => d.setNum FLOW.REBUILD_STAT (1)),
    by (try simp only [State.On, State.Awake, State.Opens, State.Ready, Dev.quiet, Dev.acts, Clock.ok]) <;> decide +kernel⟩
theorem witness_WalksOverTheFlowTable_17 : ∃ (s : State), s.Opens 0x30 ∧ s.dev.flowOcc = 0 ∧ s.dev.rebuilding = false :=
  ⟨mod0, by (try simp only [State.On, State.Awake, State.Opens, State.Ready, Dev.quiet, Dev.acts, Clock.ok]) <;> decide +kernel⟩
theorem witness_WalksOverTheFlowTable_18 : ∃ (s : State), s.Opens 0x30 ∧ (s.dev.flowOcc ≠ 0 ∨ s.dev.rebuilding = true) :=
  ⟨(modOf fun d => { d with flow := { d.flow with opened := d.flow.opened.set none 0 (some { value := 1 }) } }),
    by (try simp only [State.On, State.Awake, State.Opens, State.Ready, Dev.quiet, Dev.acts, Clock.ok]) <;> decide +kernel⟩
theorem witness_WalksOverTheFlowTable_2 : ∃ (s : State), s.Opens 0x30 ∧ s.dev.opState FLOW.SWEEP_STAT = 2 :=
  ⟨(modOf fun d => d.setNum FLOW.SWEEP_STAT 2),
    by (try simp only [State.On, State.Awake, State.Opens, State.Ready, Dev.quiet, Dev.acts, Clock.ok]) <;> decide +kernel⟩
theorem witness_WalksOverTheFlowTable_3 : ∃ (s : State), s.Opens 0x30 ∧ s.dev.opState FLOW.SWEEP_STAT ≠ 1 ∧ s.dev.opState FLOW.SWEEP_STAT ≠
    2 :=
  ⟨(modOf fun d => d.setNum FLOW.SWEEP_STAT 0),
    by (try simp only [State.On, State.Awake, State.Opens, State.Ready, Dev.quiet, Dev.acts, Clock.ok]) <;> decide +kernel⟩
theorem witness_WalksOverTheFlowTable_5 : ∃ (s : State), s.Awake ∧ s.dev.sweeperOn = true ∧ s.dev.opState FLOW.SWEEP_STAT = 1 ∧
    s.dev.flow.aborted = false ∧ s.dev.flow.began + s.dev.fld FLOW.SWEEP_CFG_PERIOD * 10000000000 * s.dev.flow.pair / s.dev.altMask ≤
    s.dev.clk.up ∧ s.dev.recordAt false s.dev.flow.pair ≠ 0 ∧ s.dev.recDue (s.dev.recordAt false s.dev.flow.pair) = true ∧ s.dev.heldBy
    s.dev.flow.pair (s.dev.flow.served + 1) none = false ∧ s.dev.tState ≠ 5 ∧ s.dev.slotAt false (s.dev.mateOf s.dev.flow.pair) = 0 ∧
    slotKind (s.dev.slotAt false s.dev.flow.pair) = 1 ∧ s.dev.mateOf s.dev.flow.pair ≠ s.dev.flow.pair ∧ s.dev.on FLOW.SWEEP_CFG_NORMALISE
    = false ∧ s.dev.on FLOW.SWEEP_CFG_SPILL_AUDIT = false :=
  ⟨(modOf fun d => let d := d.setNum FLOW.SWEEP_STAT 1;
    let d := { d with flow := { d.flow with opened := d.flow.opened.set none 0 (some { value := 1 }) } };
    let d := d.setNum (FLOW.TIMEOUT.ix2 0 0) 65537; let d := d.setFld FLOW.SWEEP_CFG_NORMALISE 0; d.setFld FLOW.SWEEP_CFG_SPILL_AUDIT 0),
    by (try simp only [State.On, State.Awake, State.Opens, State.Ready, Dev.quiet, Dev.acts, Clock.ok]) <;> decide +kernel⟩
theorem witness_WalksOverTheFlowTable_10 : ∃ (s : State), s.Awake ∧ s.dev.rebuilding = true ∧ s.dev.flow.copied = false ∧ s.dev.openPair
    s.dev.flow.cursor = false :=
  ⟨(modOf fun d => d.setNum FLOW.REBUILD_STAT 1),
    by (try simp only [State.On, State.Awake, State.Opens, State.Ready, Dev.quiet, Dev.acts, Clock.ok]) <;> decide +kernel⟩
theorem witness_WalksOverTheFlowTable_11 : ∃ (s : State), s.Awake ∧ s.dev.openPair s.dev.flow.cursor = true :=
  ⟨(modOf fun d => let d := { d with flow := { d.flow with opened := d.flow.opened.set none 0 (some { value := 1 }) } };
    d.setTask 0 0 (some {})),
    by (try simp only [State.On, State.Awake, State.Opens, State.Ready, Dev.quiet, Dev.acts, Clock.ok]) <;> decide +kernel⟩
theorem witness_WalksOverTheFlowTable_14 : ∃ (s : State) (t : Nat), s.Awake ∧ s.dev.flow.switchNs = some t ∧ s.dev.rebuilding = true ∧ t ≤
    s.dev.nowNs :=
  ⟨(modOf fun d => let d := { d with flow := { d.flow with switchNs := some 0 } }; d.setNum FLOW.REBUILD_STAT 1), 0,
    by (try simp only [State.On, State.Awake, State.Opens, State.Ready, Dev.quiet, Dev.acts, Clock.ok]) <;> decide +kernel⟩
/-! ### HostCommandsOnRecords -/

theorem witness_HostCommandsOnRecords_0 : ∃ (s : State) (c : Instr) (incarn : Nat), (c = .flowDelete incarn ∨ c = .pinRecord incarn ∨
    c = .unpinRecord incarn) ∧ s.Opens 0x30 ∧ s.dev.on FLOW.CMD_STAT_BUSY = false ∧
    s.dev.heldBy (s.dev.num FLOW.CMD_SLOT % 2 ^ 27) (s.dev.flow.served + 1) none = false ∧ 2 * s.dev.altMask ≤ s.dev.num FLOW.CMD_SLOT % 2 ^ 27 :=
  ⟨(modOf fun d => let d := d.setNum FLOW.CMD_SLOT (2 ^ 27 - 1); d.setFld FLOW.SLOT_CFG_SIZE 20), (.flowDelete (0)), 0,
    by (try simp only [State.On, State.Awake, State.Opens, State.Ready, Dev.quiet, Dev.acts, Clock.ok]) <;> decide +kernel⟩
theorem witness_HostCommandsOnRecords_1 : ∃ (s : State) (c : Instr) (incarn : Nat), (c = .flowDelete incarn ∨ c = .pinRecord incarn ∨
    c = .unpinRecord incarn) ∧ s.Opens 0x30 ∧ s.dev.on FLOW.CMD_STAT_BUSY = false ∧
    s.dev.heldBy (s.dev.num FLOW.CMD_SLOT % 2 ^ 27) (s.dev.flow.served + 1) none = false ∧ s.dev.num FLOW.CMD_SLOT % 2 ^ 27 < 2 * s.dev.altMask ∧
    (s.dev.recordAt false (s.dev.num FLOW.CMD_SLOT % 2 ^ 27) = 0 ∨
    rIncarn.get (s.dev.recordAt false (s.dev.num FLOW.CMD_SLOT % 2 ^ 27)) ≠ incarn % 64) :=
  ⟨(modOf fun d => d.setFld FLOW.CMD_STAT_BUSY 0), (.flowDelete (0)), 0,
    by (try simp only [State.On, State.Awake, State.Opens, State.Ready, Dev.quiet, Dev.acts, Clock.ok]) <;> decide +kernel⟩
theorem witness_HostCommandsOnRecords_2 : ∃ (s : State) (c : Instr) (op : Nat) (incarn : Nat), ((c = .flowDelete incarn ∧ op = 0) ∨
    (c = .pinRecord incarn ∧ op = 1) ∨ (c = .unpinRecord incarn ∧ op = 2)) ∧ s.Opens 0x30 ∧ s.dev.on FLOW.CMD_STAT_BUSY = false ∧
    s.dev.heldBy (s.dev.num FLOW.CMD_SLOT % 2 ^ 27) (s.dev.flow.served + 1) none = true :=
  ⟨(modOf fun d => d.setTask 0 0 (some { view := { hit := true } })), (.flowDelete (0)), (0), 0,
    by (try simp only [State.On, State.Awake, State.Opens, State.Ready, Dev.quiet, Dev.acts, Clock.ok]) <;> decide +kernel⟩
theorem witness_HostCommandsOnRecords_3 : ∃ (s : State) (c : Instr) (incarn : Nat), (c = .flowDelete incarn ∨ c = .pinRecord incarn ∨
    c = .unpinRecord incarn) ∧ s.Opens 0x30 ∧ s.dev.on FLOW.CMD_STAT_BUSY = false ∧
    s.dev.heldBy (s.dev.num FLOW.CMD_SLOT % 2 ^ 27) (s.dev.flow.served + 1) none = false ∧ s.dev.num FLOW.CMD_SLOT % 2 ^ 27 < 2 * s.dev.altMask ∧
    s.dev.recordAt false (s.dev.num FLOW.CMD_SLOT % 2 ^ 27) ≠ 0 ∧
    rIncarn.get (s.dev.recordAt false (s.dev.num FLOW.CMD_SLOT % 2 ^ 27)) = incarn % 64 :=
  ⟨(modOf fun d => { d with flow := { d.flow with opened := d.flow.opened.set none 0 (some { value := 1 }) } }), (.flowDelete (0)), 0,
    by (try simp only [State.On, State.Awake, State.Opens, State.Ready, Dev.quiet, Dev.acts, Clock.ok]) <;> decide +kernel⟩
theorem witness_HostCommandsOnRecords_4 : ∃ (s : State) (c : Instr) (incarn : Nat), (c = .flowDelete incarn ∨ c = .pinRecord incarn ∨
    c = .unpinRecord incarn) ∧ s.Opens 0x30 ∧ s.dev.on FLOW.CMD_STAT_BUSY = true :=
  ⟨(modOf fun d => d.setFld FLOW.CMD_STAT_BUSY 1), (.flowDelete (0)), 0,
    by (try simp only [State.On, State.Awake, State.Opens, State.Ready, Dev.quiet, Dev.acts, Clock.ok]) <;> decide +kernel⟩
/-! ### SendsOfTasks -/

theorem witness_SendsOfTasks_0 : ∃ (s : State) (c : Nat) (i : Nat) (thr : Nat) (t : Task), s.Awake ∧ c < 8 ∧ s.dev.frondRuns c = true ∧
    s.dev.nextReady c = some i ∧ s.dev.freeThread c = some thr ∧ s.dev.task c i = some t :=
  ⟨(modOf fun d => let d := d.setNum FENG.RUN 255; let d := d.setTask (0) (0) (some (({} : Task))); let d := d.setTask 0 0 (some {});
    d.setReady 0 0 [0]), 0, 0, 0, ({} : Task),
    by (try simp only [State.On, State.Awake, State.Opens, State.Ready, Dev.quiet, Dev.acts, Clock.ok]) <;> decide +kernel⟩
theorem witness_SendsOfTasks_1 : ∃ (s : State) (c : Nat), s.Awake ∧ c < 8 ∧ (s.dev.frondRuns c = false ∨ s.dev.nextReady c = none ∨
    s.dev.freeThread c = none) :=
  ⟨mod0, 0, by (try simp only [State.On, State.Awake, State.Opens, State.Ready, Dev.quiet, Dev.acts, Clock.ok]) <;> decide +kernel⟩
theorem witness_SendsOfTasks_2 : ∃ (s : State) (c : Instr) (frond : Nat) (thread : Nat) (p : Program) (v : EngSrc) (sp : Option Nat) (l :
    Bool) (n : Nat), (c = .ctlSend frond thread p ∨ c = .insSend frond thread p none ∨ c = .delSend frond thread p n ∨ c = .harvSend frond
    thread p ∨ c = .cntAdd frond thread n v ∨ c = .emit frond thread p sp l n) ∧ s.Awake ∧ s.dev.running (thrKey frond thread) = none :=
  ⟨mod0, (.ctlSend (0) (0) (.own)), 0, 0, .own, .const 0, none, false, 0,
    by (try simp only [State.On, State.Awake, State.Opens, State.Ready, Dev.quiet, Dev.acts, Clock.ok]) <;> decide +kernel⟩
theorem witness_SendsOfTasks_3 : ∃ (s : State) (c : Instr) (frond : Nat) (thread : Nat) (i : Nat) (t : Task) (w : Wait) (n : Nat) (m :
    Nat), m = s.dev.immAt (thrKey frond thread) n ∧ ((c = .ctlSend frond thread .own ∧ w = .ctl) ∨ (c = .delSend frond thread .own n ∧ w =
    .del m ∧ (m = 3 ∨ 16 ≤ m ∧ m ≤ 255))) ∧ s.Awake ∧ s.dev.acts (thrKey frond thread) 4 3 i t ∧ s.dev.mergerHolds (thrKey frond thread) i
    t = true :=
  ⟨(modOf fun d => let d := wTask d (thrKey 0 0) 0 { view := { hit := true, served := 1 }, desc := none };
    d.setTask 0 1 (some { view := { hit := true } })), .ctlSend 0 0 .own, 0, 0, 0, { view := { hit := true, served := 1 }, desc := none },
    .ctl, 0, (modOf fun d => let d := wTask d (thrKey 0 0) 0 { view := { hit := true, served := 1 }, desc := none };
    d.setTask 0 1 (some { view := { hit := true } })).dev.immAt (thrKey 0 0) 0,
    by (try simp only [State.On, State.Awake, State.Opens, State.Ready, Dev.quiet, Dev.acts, Clock.ok]) <;> decide +kernel⟩
theorem witness_SendsOfTasks_4 : ∃ (s : State) (frond : Nat) (thread : Nat) (i : Nat) (t : Task), s.Awake ∧ s.dev.acts (thrKey frond
    thread) 4 3 i t ∧ s.dev.mergerHolds (thrKey frond thread) i t = false ∧ (∀ x ∈ s.dev.eng.threads, x.2.wait = none) ∧ keyChanged
    t.view.record (s.dev.thread (thrKey frond thread)).draft = true :=
  ⟨(modOf fun d => let d := wTask d (thrKey (0) (0)) (0) (({} : Task)); d.setThread (thrKey 0 0) { d.thread (thrKey 0 0) with draft := 2 ^ 40 }), 0,
    0, 0, ({} : Task), by (try simp only [State.On, State.Awake, State.Opens, State.Ready, Dev.quiet, Dev.acts, Clock.ok]) <;> decide +kernel⟩
theorem witness_SendsOfTasks_5 : ∃ (s : State) (frond : Nat) (thread : Nat) (i : Nat) (t : Task), s.Awake ∧ s.dev.acts (thrKey frond
    thread) 4 3 i t ∧ s.dev.mergerHolds (thrKey frond thread) i t = false ∧ (∀ x ∈ s.dev.eng.threads, x.2.wait = none) ∧ keyChanged
    t.view.record (s.dev.thread (thrKey frond thread)).draft = false ∧ s.dev.versionHolds t.view = true ∧ (s.dev.thread (thrKey frond
    thread)).plan = none ∧ s.dev.rebuilding = false ∧ slotKind (s.dev.slotAt false t.view.slot) = 1 :=
  ⟨(modOf fun d => let d := wTask d (thrKey 0 0) 0 { view := { hit := true, record := 1 } };
    let d := d.setThread (thrKey 0 0) { d.thread (thrKey 0 0) with draft := 1 };
    { d with flow := { d.flow with opened := d.flow.opened.set none 0 (some { value := 1 }) } }), 0, 0, 0, { view := { hit := true, record := 1 } },
    by (try simp only [State.On, State.Awake, State.Opens, State.Ready, Dev.quiet, Dev.acts, Clock.ok]) <;> decide +kernel⟩
theorem witness_SendsOfTasks_6 : ∃ (s : State) (frond : Nat) (thread : Nat) (i : Nat) (t : Task), s.Awake ∧ s.dev.acts (thrKey frond
    thread) 4 3 i t ∧ s.dev.mergerHolds (thrKey frond thread) i t = false ∧ (∀ x ∈ s.dev.eng.threads, x.2.wait = none) ∧ keyChanged
    t.view.record (s.dev.thread (thrKey frond thread)).draft = false ∧ s.dev.versionHolds t.view = false ∧ (s.dev.thread (thrKey frond
    thread)).plan = none :=
  ⟨(modOf fun d => let d := wTask d (thrKey (0) (0)) (0) (({} : Task)); d.setThread (thrKey (0) (0)) { (d.thread (thrKey (0) (0))) with plan :=
    none }), 0, 0, 0, ({} : Task), by (try simp only [State.On, State.Awake, State.Opens, State.Ready, Dev.quiet, Dev.acts, Clock.ok]) <;> decide +kernel⟩
theorem witness_SendsOfTasks_7 : ∃ (s : State) (frond : Nat) (thread : Nat) (i : Nat) (n : Nat) (m : Nat) (t : Task), s.Awake ∧ s.dev.acts
    (thrKey frond thread) 4 3 i t ∧ s.dev.mergerHolds (thrKey frond thread) i t = false ∧ (∀ x ∈ s.dev.eng.threads, x.2.wait = none) ∧ m =
    s.dev.immAt (thrKey frond thread) n ∧ (m = 3 ∨ 16 ≤ m ∧ m ≤ 255) ∧ s.dev.versionHolds t.view = true ∧ (s.dev.thread (thrKey frond
    thread)).plan = none ∧ s.dev.rebuilding = false :=
  ⟨(modOf fun d => let d := wTask d (thrKey 0 0) 0 { view := { hit := true, record := 1 } };
    { d with flow := { d.flow with opened := d.flow.opened.set none 0 (some { value := 1 }) } }), 0, 0, 0, 3, 3,
    { view := { hit := true, record := 1 } },
    by (try simp only [State.On, State.Awake, State.Opens, State.Ready, Dev.quiet, Dev.acts, Clock.ok]) <;> decide +kernel⟩
theorem witness_SendsOfTasks_8 : ∃ (s : State) (frond : Nat) (thread : Nat) (i : Nat) (n : Nat) (m : Nat) (t : Task), s.Awake ∧ s.dev.acts
    (thrKey frond thread) 4 3 i t ∧ m = s.dev.immAt (thrKey frond thread) n ∧ m ≠ 3 ∧ (m < 16 ∨ 255 < m) :=
  ⟨(modOf fun d => wTask d (thrKey 0 0) 0 {}), 0, 0, 0, 0, 0, {},
    by (try simp only [State.On, State.Awake, State.Opens, State.Ready, Dev.quiet, Dev.acts, Clock.ok]) <;> decide +kernel⟩
theorem witness_SendsOfTasks_9 : ∃ (s : State) (frond : Nat) (thread : Nat) (i : Nat) (t : Task), s.Awake ∧ s.dev.acts (thrKey frond
    thread) 4 3 i t ∧ (t.view.hit = true ∨ t.view.resv = none) :=
  ⟨(modOf fun d => wTask d (thrKey (0) (0)) (0) ((let zz : Task := ({} : Task); { zz with view := { zz.view with hit := true } }))), 0, 0, 0,
    (let zz : Task := ({} : Task); { zz with view := { zz.view with hit := true } }),
    by (try simp only [State.On, State.Awake, State.Opens, State.Ready, Dev.quiet, Dev.acts, Clock.ok]) <;> decide +kernel⟩
theorem witness_SendsOfTasks_11 : ∃ (s : State) (frond : Nat) (thread : Nat) (i : Nat) (key : Nat) (t : Task), s.Awake ∧ s.dev.acts
    (thrKey frond thread) 4 3 i t ∧ t.view.hit = false ∧ t.view.resv = some key ∧ s.dev.occupants false t.view.wide t.view.home = [] ∧
    s.dev.rebuilding = false ∧ s.dev.flow.waiting = [] :=
  ⟨(modOf fun d => let d := wTask d (thrKey (0) (0)) (0) ((let zz : Task := (let zz : Task := ({} : Task);
    { zz with view := { zz.view with hit := false } }); { zz with view := { zz.view with resv := some (0) } }));
    { d with flow := { d.flow with waiting := [] } }), 0, 0, 0, 0, (let zz : Task := (let zz : Task := ({} : Task);
    { zz with view := { zz.view with hit := false } }); { zz with view := { zz.view with resv := some (0) } }),
    by (try simp only [State.On, State.Awake, State.Opens, State.Ready, Dev.quiet, Dev.acts, Clock.ok]) <;> decide +kernel⟩
theorem witness_SendsOfTasks_12 : ∃ (s : State) (frond : Nat) (thread : Nat) (i : Nat) (t : Task), s.Awake ∧ s.dev.acts (thrKey frond
    thread) 4 3 i t ∧ s.dev.rebuilding = false ∧ slotKind (s.dev.slotAt false t.view.slot) = 1 ∧ t.view.wide = false ∧ rIncarn.get
    (s.dev.recordAt false t.view.slot) = rIncarn.get t.view.record :=
  ⟨(modOf fun d => let d := wTask d (thrKey (0) (0)) (0) ((let zz : Task := ({} : Task); { zz with view := { zz.view with wide := false } }));
    let d := d.setFld FLOW.HARVEST_CFG_EN 0; { d with flow := { d.flow with opened := d.flow.opened.set none 0 (some { value := 1 }) } }), 0, 0, 0,
    (let zz : Task := ({} : Task); { zz with view := { zz.view with wide := false } }),
    by (try simp only [State.On, State.Awake, State.Opens, State.Ready, Dev.quiet, Dev.acts, Clock.ok]) <;> decide +kernel⟩
theorem witness_SendsOfTasks_13 : ∃ (s : State) (frond : Nat) (thread : Nat) (i : Nat) (index : Nat) (t : Task) (v : EngSrc), s.Awake ∧
    s.dev.acts (thrKey frond thread) 4 3 i t :=
  ⟨(modOf fun d => wTask d (thrKey (0) (0)) (0) (({} : Task))), 0, 0, 0, 0, ({} : Task), .const 0,
    by (try simp only [State.On, State.Awake, State.Opens, State.Ready, Dev.quiet, Dev.acts, Clock.ok]) <;> decide +kernel⟩
theorem witness_SendsOfTasks_14 : ∃ (s : State) (frond : Nat) (thread : Nat) (i : Nat) (n : Nat) (reason : Nat) (t : Task) (sp : Option
    Nat) (l : Bool), s.Awake ∧ s.dev.acts (thrKey frond thread) 4 3 i t ∧ s.dev.exportRoom (frond % 8) = true ∧ n = (if l then 128 else 64)
    :=
  ⟨(modOf fun d => let d := wTask d (thrKey (0) (0)) (0) (({} : Task)); { d with eng := { d.eng with spad := [(0x28340 + 63, 1)] } }), 0, 0, 0,
    ((if (false) then 128 else 64)), 0, ({} : Task), none, false,
    by (try simp only [State.On, State.Awake, State.Opens, State.Ready, Dev.quiet, Dev.acts, Clock.ok]) <;> decide +kernel⟩
theorem witness_SendsOfTasks_15 : ∃ (s : State) (frond : Nat) (thread : Nat) (i : Nat) (n : Nat) (reason : Nat) (t : Task) (sp : Option
    Nat) (l : Bool), s.Awake ∧ s.dev.acts (thrKey frond thread) 4 3 i t ∧ s.dev.exportRoom (frond % 8) = false ∧ n = (if l then 128 else
    64) :=
  ⟨(modOf fun d => wTask d (thrKey (0) (0)) (0) (({} : Task))), 0, 0, 0, ((if (false) then 128 else 64)), 0, ({} : Task), none, false,
    by (try simp only [State.On, State.Awake, State.Opens, State.Ready, Dev.quiet, Dev.acts, Clock.ok]) <;> decide +kernel⟩
theorem witness_SendsOfTasks_16 : ∃ (s : State) (c : Instr) (frond : Nat) (thread : Nat) (i : Nat) (n : Nat) (t : Task) (p : LibPlan) (sp
    : Option Nat) (l : Bool), p = s.dev.planOf (thrKey frond thread) t ∧ ((c = .ctlSend frond thread .library ∧ p.put = none) ∨ (c =
    .insSend frond thread .library none ∧ p.put = none ∧ s.dev.insertWaits t = false) ∨ (c = .delSend frond thread .library n ∧ p.del =
    none) ∨ (c = .emit frond thread .library sp l n ∧ p.emit = [])) ∧ p.ask = none ∧ s.Awake ∧ s.dev.running (thrKey frond thread) = some
    (i, t) ∧ (s.dev.thread (thrKey frond thread)).plan = none :=
  ⟨(modOf fun d => let d := wTask d (thrKey (0) (0)) (0) (({} : Task));
    d.setThread (thrKey (0) (0)) { (d.thread (thrKey (0) (0))) with plan := none }), (.ctlSend (0) (0) .library), 0, 0, 0, 0, ({} : Task),
    (let zz : LibPlan := ((modOf fun d => let d := wTask d (thrKey (0) (0)) (0) (({} : Task));
    d.setThread (thrKey (0) (0)) { (d.thread (thrKey (0) (0))) with plan := none }).dev.planOf (thrKey (0) (0)) (({} : Task)));
    { zz with put := none }), none, false,
    by (try simp only [State.On, State.Awake, State.Opens, State.Ready, Dev.quiet, Dev.acts, Clock.ok]) <;> decide +kernel⟩
theorem witness_SendsOfTasks_17 : ∃ (s : State) (frond : Nat) (thread : Nat) (i : Nat) (n : Nat) (m : Nat) (t : Task) (p : LibPlan) (bs :
    List Byte) (r : List (Nat × List Byte)) (sp : Option Nat) (l : Bool), s.Awake ∧ s.dev.running (thrKey frond thread) = some (i, t) ∧
    (s.dev.thread (thrKey frond thread)).plan = some p ∧ p.emit = (m, bs) :: r ∧ p.ask = none ∧ s.dev.exportRoom (frond % 8) = true :=
  ⟨(modOf fun d => let d := wTask d (thrKey (0) (0)) (0) (({} : Task));
    let d := d.setThread (thrKey (0) (0)) { (d.thread (thrKey (0) (0))) with plan := some ((let zz : LibPlan := ({} : LibPlan);
    { zz with emit := ((0), ([])) :: ([]) })) }; { d with eng := { d.eng with spad := [(0x28340 + 63, 1)] } }), 0, 0, 0, 0, 0, ({} : Task),
    (let zz : LibPlan := ({} : LibPlan); { zz with emit := ((0), ([])) :: ([]) }), [], [], none, false,
    by (try simp only [State.On, State.Awake, State.Opens, State.Ready, Dev.quiet, Dev.acts, Clock.ok]) <;> decide +kernel⟩
theorem witness_SendsOfTasks_18 : ∃ (s : State) (c : Instr) (frond : Nat) (thread : Nat) (i : Nat) (f : Nat) (mss : Nat) (tt : Nat) (t :
    Task) (x : Frame) (p : LibPlan) (b : List Byte), s.Awake ∧ s.dev.running (thrKey frond thread) = some (i, t) ∧ (s.dev.thread (thrKey
    frond thread)).plan = some p ∧ p.ask = some (mss, tt) ∧ (s.dev.thread (thrKey frond thread)).cook = 0 ∧ t.desc = some f ∧ s.dev.frame f
    = some x ∧ (s.dev.flowConn x).cookieBlocks mss tt = [b] ∧ b.length = 16 ∧ s.dev.enabled 0x38 = true ∧ s.dev.unitFull (frond % 8) =
    false ∧ (s.dev.cipher (frond % 8)).arrivals = [] ∧ (c = .ctlSend frond thread .library ∨ (c = .insSend frond thread .library none ∧
    s.dev.insertWaits t = false)) :=
  ⟨modOf fun d => let d := (d.setFrame 0 {}).setNum (CTRL 0x38) 1; let d := wTask d (thrKey 0 0) 0 { desc := some 0 }; d.setThread (thrKey
    0 0) { d.thread (thrKey 0 0) with plan := some { ask := some (0, 0) } }, .ctlSend 0 0 .library, 0, 0, 0, 0, 0, 0, { desc := some 0 },
    {}, { ask := some (0, 0) }, List.replicate 16 0,
    by (try simp only [State.On, State.Awake, State.Opens, State.Ready, Dev.quiet, Dev.acts, Clock.ok]) <;> decide +kernel⟩
theorem witness_SendsOfTasks_10 : ∃ (s : State) (frond : Nat) (thread : Nat) (i : Nat) (t : Task) (ue : Option BadWord), s.Awake ∧
    s.dev.acts (thrKey frond thread) 4 3 i t ∧ s.dev.insertWaits t = true :=
  ⟨(modOf fun d => let d := wTask d (thrKey 0 0) 0 { view := { resv := some 1 } }; let far := d.mateOf 0 + 48;
    { d with flow := { d.flow with opened := (0, some { value := 17 }) :: List.replicate 512 (far, some { value := 1 }) } }), 0, 0, 0,
    { view := { resv := some 1 } }, none,
    by (try simp only [State.On, State.Awake, State.Opens, State.Ready, Dev.quiet, Dev.acts, Clock.ok]) <;> decide +kernel⟩
/-! ### MicrowordSequencing -/

theorem witness_MicrowordSequencing_0 : ∃ (s : State) (c : Instr) (frond : Nat) (thread : Nat) (i : Nat) (pc : Nat) (imm : Nat) (cond :
    Nat) (to_ : Nat) (t : Task) (ue : WordGuard), s.Awake ∧ ue.bad = false ∧ ((c = .next frond thread ue ∧ cond = 0 ∧ to_ = nextPc pc) ∨ (c
    = .goto frond thread ue ∧ cond = 1 ∧ to_ = targetPc imm 0)) ∧ s.dev.issues (thrKey frond thread) i t cond pc imm 0 :=
  ⟨(modOf fun d => let d := wMicro d 0; wTask d (thrKey 0 0) 0 {}), (.next (0) (0) ⟨.clean, .clean⟩), 0, 0, 0, 0, 0, (0), (nextPc (0)), ({} : Task), ⟨.clean, .clean⟩,
    by (try simp only [State.On, State.Awake, State.Opens, State.Ready, Dev.quiet, Dev.acts, Clock.ok]) <;> decide +kernel,
    by (try simp only [State.On, State.Awake, State.Opens, State.Ready, Dev.quiet, Dev.acts, Clock.ok]) <;> decide +kernel,
    by (try simp only [State.On, State.Awake, State.Opens, State.Ready, Dev.quiet, Dev.acts, Clock.ok]) <;> decide +kernel, ⟨by decide +kernel, by decide +kernel, by decide +kernel, 0,
    by decide +kernel⟩⟩
theorem witness_MicrowordSequencing_1 : ∃ (s : State) (c : Instr) (frond : Nat) (thread : Nat) (i : Nat) (pc : Nat) (imm : Nat) (cond :
    Nat) (taken : Bool) (t : Task) (th : Thread) (ue : WordGuard), s.Awake ∧ ue.bad = false ∧ th = s.dev.thread (thrKey frond thread) ∧ ((c
    = .ifZ frond thread ue ∧ cond = 2 ∧ taken = th.z) ∨ (c = .ifNz frond thread ue ∧ cond = 3 ∧ taken = !th.z) ∨ (c = .ifC frond thread ue
    ∧ cond = 4 ∧ taken = th.c) ∨ (c = .ifNc frond thread ue ∧ cond = 5 ∧ taken = !th.c) ∨ (c = .ifN frond thread ue ∧ cond = 6 ∧ taken =
    th.n) ∨ (c = .ifZn frond thread ue ∧ cond = 7 ∧ taken = (th.z || th.n)) ∨ (c = .ifHit frond thread ue ∧ cond = 8 ∧ taken = t.view.hit)
    ∨ (c = .ifUpdFail frond thread ue ∧ cond = 9 ∧ taken = decide (th.sts % 256 ≠ 0)) ∨ (c = .ifUnitErr frond thread ue ∧ cond = 10 ∧ taken
    = decide (th.sts / 256 % 256 ≠ 0))) ∧ s.dev.issues (thrKey frond thread) i t cond pc imm 1 :=
  ⟨(modOf fun d => let d := wMicro d 131072; wTask d (thrKey 0 0) 0 {}), (.ifZ (0) (0) ⟨.clean, .clean⟩), 0, 0, 0, 0, 0, (2),
    ((((modOf fun d => let d := wMicro d 131072; wTask d (thrKey 0 0) 0 {}).dev.thread (thrKey (0) (0)))).z), ({} : Task),
    ((modOf fun d => let d := wMicro d 131072; wTask d (thrKey 0 0) 0 {}).dev.thread (thrKey (0) (0))), ⟨.clean, .clean⟩,
    by (try simp only [State.On, State.Awake, State.Opens, State.Ready, Dev.quiet, Dev.acts, Clock.ok]) <;> decide +kernel,
    by (try simp only [State.On, State.Awake, State.Opens, State.Ready, Dev.quiet, Dev.acts, Clock.ok]) <;> decide +kernel,
    by (try simp only [State.On, State.Awake, State.Opens, State.Ready, Dev.quiet, Dev.acts, Clock.ok]) <;> decide +kernel,
    by (try simp only [State.On, State.Awake, State.Opens, State.Ready, Dev.quiet, Dev.acts, Clock.ok]) <;> decide +kernel, ⟨by decide +kernel, by decide +kernel, by decide +kernel, 131072,
    by decide +kernel⟩⟩
theorem witness_MicrowordSequencing_2 : ∃ (s : State) (frond : Nat) (thread : Nat) (i : Nat) (pc : Nat) (imm : Nat) (t : Task) (ue :
    WordGuard), s.Awake ∧ ue.bad = false ∧ s.dev.issues (thrKey frond thread) i t 11 pc imm 0 ∧ (s.dev.thread (thrKey frond
    thread)).stack.length < 4 :=
  ⟨(modOf fun d => let d := wMicro d 720896; wTask d (thrKey 0 0) 0 {}), 0, 0, 0, 0, 0, ({} : Task), ⟨.clean, .clean⟩,
    by (try simp only [State.On, State.Awake, State.Opens, State.Ready, Dev.quiet, Dev.acts, Clock.ok]) <;> decide +kernel,
    by (try simp only [State.On, State.Awake, State.Opens, State.Ready, Dev.quiet, Dev.acts, Clock.ok]) <;> decide +kernel, ⟨by decide +kernel, by decide +kernel, by decide +kernel, 720896,
    by decide +kernel⟩, by (try simp only [State.On, State.Awake, State.Opens, State.Ready, Dev.quiet, Dev.acts, Clock.ok]) <;> decide +kernel⟩
theorem witness_MicrowordSequencing_3 : ∃ (s : State) (frond : Nat) (thread : Nat) (i : Nat) (pc : Nat) (imm : Nat) (a : Nat) (r : List
    Nat) (t : Task) (ue : WordGuard), s.Awake ∧ ue.bad = false ∧ s.dev.issues (thrKey frond thread) i t 12 pc imm 1 ∧ (s.dev.thread (thrKey
    frond thread)).stack = a :: r :=
  ⟨(modOf fun d => let d := wMicro d 786432; let d := wTask d (thrKey 0 0) 0 {}; d.setThread (thrKey 0 0) { d.thread (thrKey 0 0) with stack :=
    [0] }), 0, 0, 0, 0, 0, 0, [], ({} : Task), ⟨.clean, .clean⟩,
    by (try simp only [State.On, State.Awake, State.Opens, State.Ready, Dev.quiet, Dev.acts, Clock.ok]) <;> decide +kernel,
    by (try simp only [State.On, State.Awake, State.Opens, State.Ready, Dev.quiet, Dev.acts, Clock.ok]) <;> decide +kernel, ⟨by decide +kernel, by decide +kernel, by decide +kernel, 786432,
    by decide +kernel⟩, by (try simp only [State.On, State.Awake, State.Opens, State.Ready, Dev.quiet, Dev.acts, Clock.ok]) <;> decide +kernel⟩
theorem witness_MicrowordSequencing_4 : ∃ (s : State) (frond : Nat) (thread : Nat) (i : Nat) (pc : Nat) (imm : Nat) (t : Task) (ue :
    WordGuard), s.Awake ∧ ue.bad = false ∧ s.dev.issues (thrKey frond thread) i t 13 pc imm 1 :=
  ⟨(modOf fun d => let d := wMicro d 851968; wTask d (thrKey 0 0) 0 {}), 0, 0, 0, 0, 0, ({} : Task), ⟨.clean, .clean⟩,
    by (try simp only [State.On, State.Awake, State.Opens, State.Ready, Dev.quiet, Dev.acts, Clock.ok]) <;> decide +kernel,
    by (try simp only [State.On, State.Awake, State.Opens, State.Ready, Dev.quiet, Dev.acts, Clock.ok]) <;> decide +kernel, ⟨by decide +kernel, by decide +kernel, by decide +kernel, 851968,
    by decide +kernel⟩⟩
theorem witness_MicrowordSequencing_5 : ∃ (s : State) (frond : Nat) (thread : Nat) (i : Nat) (pc : Nat) (imm : Nat) (t : Task) (ue :
    WordGuard), s.Awake ∧ ue.bad = false ∧ s.dev.issues (thrKey frond thread) i t 14 pc imm 0 ∧ t.holds = true :=
  ⟨(modOf fun d => let d := wMicro d 917504; wTask d (thrKey 0 0) 0 {}), 0, 0, 0, 0, 0, {}, ⟨.clean, .clean⟩,
    by (try simp only [State.On, State.Awake, State.Opens, State.Ready, Dev.quiet, Dev.acts, Clock.ok]) <;> decide +kernel,
    by (try simp only [State.On, State.Awake, State.Opens, State.Ready, Dev.quiet, Dev.acts, Clock.ok]) <;> decide +kernel, ⟨by decide +kernel, by decide +kernel, by decide +kernel, 917504,
    by decide +kernel⟩, by (try simp only [State.On, State.Awake, State.Opens, State.Ready, Dev.quiet, Dev.acts, Clock.ok]) <;> decide +kernel⟩
theorem witness_MicrowordSequencing_6 : ∃ (s : State) (frond : Nat) (thread : Nat) (i : Nat) (pc : Nat) (imm : Nat) (t : Task) (ue :
    WordGuard), s.Awake ∧ ue.bad = false ∧ s.dev.issues (thrKey frond thread) i t 14 pc imm 0 ∧ t.holds = false ∧ pktKind t.kind = true :=
  ⟨(modOf fun d => let d := wMicro d 917504; wTask d (thrKey 0 0) 0 { mask := 1 }), 0, 0, 0, 0, 0, { mask := 1 }, ⟨.clean, .clean⟩,
    by (try simp only [State.On, State.Awake, State.Opens, State.Ready, Dev.quiet, Dev.acts, Clock.ok]) <;> decide +kernel,
    by (try simp only [State.On, State.Awake, State.Opens, State.Ready, Dev.quiet, Dev.acts, Clock.ok]) <;> decide +kernel, ⟨by decide +kernel, by decide +kernel, by decide +kernel, 917504,
    by decide +kernel⟩, by (try simp only [State.On, State.Awake, State.Opens, State.Ready, Dev.quiet, Dev.acts, Clock.ok]) <;> decide +kernel,
    by (try simp only [State.On, State.Awake, State.Opens, State.Ready, Dev.quiet, Dev.acts, Clock.ok]) <;> decide +kernel⟩
theorem witness_MicrowordSequencing_7 : ∃ (s : State) (frond : Nat) (thread : Nat) (i : Nat) (pc : Nat) (imm : Nat) (t : Task) (ue :
    WordGuard), s.Awake ∧ ue.bad = false ∧ s.dev.issues (thrKey frond thread) i t 14 pc imm 0 ∧ t.holds = false ∧ pktKind t.kind = false ∧
    s.dev.blockedHeld (frond % 8) < 4096 - s.dev.num TASK.RESERVE :=
  ⟨(modOf fun d => let d := wMicro d 917504; wTask d (thrKey 0 0) 0 { mask := 1, kind := 5 }), 0, 0, 0, 0, 0, { mask := 1, kind := 5 }, ⟨.clean, .clean⟩,
    by (try simp only [State.On, State.Awake, State.Opens, State.Ready, Dev.quiet, Dev.acts, Clock.ok]) <;> decide +kernel,
    by (try simp only [State.On, State.Awake, State.Opens, State.Ready, Dev.quiet, Dev.acts, Clock.ok]) <;> decide +kernel, ⟨by decide +kernel, by decide +kernel, by decide +kernel, 917504,
    by decide +kernel⟩, by (try simp only [State.On, State.Awake, State.Opens, State.Ready, Dev.quiet, Dev.acts, Clock.ok]) <;> decide +kernel,
    by (try simp only [State.On, State.Awake, State.Opens, State.Ready, Dev.quiet, Dev.acts, Clock.ok]) <;> decide +kernel,
    by (try simp only [State.On, State.Awake, State.Opens, State.Ready, Dev.quiet, Dev.acts, Clock.ok]) <;> decide +kernel⟩
theorem witness_MicrowordSequencing_8 : ∃ (s : State) (frond : Nat) (thread : Nat) (i : Nat) (pc : Nat) (imm : Nat) (f : Nat) (t : Task)
    (x : Frame) (ue : WordGuard), s.Awake ∧ ue.bad = false ∧ s.dev.quiet ∧ s.dev.issues (thrKey frond thread) i t 15 pc imm 0 ∧ t.desc =
    some f ∧ s.dev.frame f = some x ∧ bitOf imm 0 = false ∧ (s.dev.thread (thrKey frond thread)).ovf = false :=
  ⟨(modOf fun d => let d := wMicro d 983040; let d := wTask d (thrKey 0 0) 0 { desc := some 0 }; d.setFrame 0 {}), 0, 0, 0, 0, 0, 0,
    { desc := some 0 }, ({} : Frame), ⟨.clean, .clean⟩,
    by (try simp only [State.On, State.Awake, State.Opens, State.Ready, Dev.quiet, Dev.acts, Clock.ok]) <;> decide +kernel,
    by (try simp only [State.On, State.Awake, State.Opens, State.Ready, Dev.quiet, Dev.acts, Clock.ok]) <;> decide +kernel,
    by (try simp only [State.On, State.Awake, State.Opens, State.Ready, Dev.quiet, Dev.acts, Clock.ok]) <;> decide +kernel, ⟨by decide +kernel, by decide +kernel, by decide +kernel, 983040,
    by decide +kernel⟩, by (try simp only [State.On, State.Awake, State.Opens, State.Ready, Dev.quiet, Dev.acts, Clock.ok]) <;> decide +kernel,
    by (try simp only [State.On, State.Awake, State.Opens, State.Ready, Dev.quiet, Dev.acts, Clock.ok]) <;> decide +kernel,
    by (try simp only [State.On, State.Awake, State.Opens, State.Ready, Dev.quiet, Dev.acts, Clock.ok]) <;> decide +kernel,
    by (try simp only [State.On, State.Awake, State.Opens, State.Ready, Dev.quiet, Dev.acts, Clock.ok]) <;> decide +kernel⟩
theorem witness_MicrowordSequencing_9 : ∃ (s : State) (frond : Nat) (thread : Nat) (i : Nat) (pc : Nat) (imm : Nat) (t : Task) (ue :
    WordGuard), s.Awake ∧ ue.bad = false ∧ s.dev.quiet ∧ s.dev.issues (thrKey frond thread) i t 15 pc imm 0 ∧ t.desc = none :=
  ⟨(modOf fun d => let d := wMicro d 983040; wTask d (thrKey 0 0) 0 {}), 0, 0, 0, 0, 0, (let zz : Task := ({} : Task); { zz with desc := none }),
    ⟨.clean, .clean⟩, by (try simp only [State.On, State.Awake, State.Opens, State.Ready, Dev.quiet, Dev.acts, Clock.ok]) <;> decide +kernel,
    by (try simp only [State.On, State.Awake, State.Opens, State.Ready, Dev.quiet, Dev.acts, Clock.ok]) <;> decide +kernel,
    by (try simp only [State.On, State.Awake, State.Opens, State.Ready, Dev.quiet, Dev.acts, Clock.ok]) <;> decide +kernel, ⟨by decide +kernel, by decide +kernel, by decide +kernel, 983040,
    by decide +kernel⟩, by (try simp only [State.On, State.Awake, State.Opens, State.Ready, Dev.quiet, Dev.acts, Clock.ok]) <;> decide +kernel⟩
theorem witness_MicrowordSequencing_10 : ∃ (s : State) (frond : Nat) (thread : Nat) (i : Nat) (t : Task) (ue : WordGuard) (p : LibPlan),
    s.Awake ∧ s.dev.quiet ∧ s.dev.running (thrKey frond thread) = some (i, t) ∧ (s.dev.thread (thrKey frond thread)).plan = some p ∧ p.put
    = none ∧ p.del = none ∧ p.emit = [] ∧ p.harv = false ∧ p.ask = none ∧ t.desc = none :=
  ⟨(modOf fun d => let d := wTask d (thrKey (0) (0)) (0) ((let zz : Task := ({} : Task); { zz with desc := none }));
    d.setThread (thrKey (0) (0)) { (d.thread (thrKey (0) (0))) with plan := some ((let zz : LibPlan := (let zz : LibPlan := (let zz : LibPlan :=
    (let zz : LibPlan := ({} : LibPlan); { zz with put := none }); { zz with del := none }); { zz with emit := [] }); { zz with harv := false })) }),
    0, 0, 0, (let zz : Task := ({} : Task); { zz with desc := none }), ⟨.clean, .clean⟩, (let zz : LibPlan := (let zz : LibPlan := (let zz : LibPlan :=
    (let zz : LibPlan := ({} : LibPlan); { zz with put := none }); { zz with del := none }); { zz with emit := [] }); { zz with harv := false }),
    by (try simp only [State.On, State.Awake, State.Opens, State.Ready, Dev.quiet, Dev.acts, Clock.ok]) <;> decide +kernel⟩
theorem witness_MicrowordSequencing_11 : ∃ (s : State) (frond : Nat) (thread : Nat) (i : Nat) (t : Task) (ue : WordGuard) (p : LibPlan),
    s.Awake ∧ s.dev.running (thrKey frond thread) = some (i, t) ∧ (s.dev.thread (thrKey frond thread)).plan = some p ∧ (p.put.isSome = true
    ∨ p.del.isSome = true ∨ p.emit ≠ [] ∨ p.harv = true) ∧ p.ask = none :=
  ⟨(modOf fun d => let d := wTask d (thrKey (0) (0)) (0) (({} : Task));
    d.setThread (thrKey (0) (0)) { (d.thread (thrKey (0) (0))) with plan := some ({ harv := true }) }), 0, 0, 0, ({} : Task), ⟨.clean, .clean⟩,
    { harv := true }, by (try simp only [State.On, State.Awake, State.Opens, State.Ready, Dev.quiet, Dev.acts, Clock.ok]) <;> decide +kernel⟩
theorem witness_MicrowordSequencing_12 : ∃ (s : State) (c : Instr) (frond : Nat) (thread : Nat) (i : Nat) (pc : Nat) (imm : Nat) (cond :
    Nat) (t : Task) (ue : WordGuard), s.Awake ∧ ue.bad = false ∧ s.dev.quiet ∧ ((c = .call frond thread ue ∧ cond = 11 ∧ 4 ≤ (s.dev.thread
    (thrKey frond thread)).stack.length) ∨ (c = .ret frond thread ue ∧ cond = 12 ∧ (s.dev.thread (thrKey frond thread)).stack = [])) ∧
    s.dev.issues (thrKey frond thread) i t cond pc imm 0 ∧ t.desc = none :=
  ⟨(modOf fun d => let d := wMicro d 720896; let d := wTask d (thrKey 0 0) 0 {}; d.setThread (thrKey 0 0) { d.thread (thrKey 0 0) with stack := [0,
    0, 0, 0] }), (.call (0) (0) ⟨.clean, .clean⟩), 0, 0, 0, 0, 0, (11), (let zz : Task := ({} : Task); { zz with desc := none }), ⟨.clean, .clean⟩,
    by (try simp only [State.On, State.Awake, State.Opens, State.Ready, Dev.quiet, Dev.acts, Clock.ok]) <;> decide +kernel,
    by (try simp only [State.On, State.Awake, State.Opens, State.Ready, Dev.quiet, Dev.acts, Clock.ok]) <;> decide +kernel,
    by (try simp only [State.On, State.Awake, State.Opens, State.Ready, Dev.quiet, Dev.acts, Clock.ok]) <;> decide +kernel,
    by (try simp only [State.On, State.Awake, State.Opens, State.Ready, Dev.quiet, Dev.acts, Clock.ok]) <;> decide +kernel, ⟨by decide +kernel, by decide +kernel, by decide +kernel, 720896,
    by decide +kernel⟩, by (try simp only [State.On, State.Awake, State.Opens, State.Ready, Dev.quiet, Dev.acts, Clock.ok]) <;> decide +kernel⟩
theorem witness_MicrowordSequencing_16 : ∃ (s : State) (c : Instr) (frond : Nat) (thread : Nat) (p : Program) (ue : WordGuard), (c =
    .next frond thread ue ∨ c = .goto frond thread ue ∨ c = .ifZ frond thread ue ∨ c = .ifNz frond thread ue ∨ c = .ifC frond thread ue ∨ c
    = .ifNc frond thread ue ∨ c = .ifN frond thread ue ∨ c = .ifZn frond thread ue ∨ c = .ifHit frond thread ue ∨ c = .ifUpdFail frond
    thread ue ∨ c = .ifUnitErr frond thread ue ∨ c = .call frond thread ue ∨ c = .ret frond thread ue ∨ c = .dispatch frond thread ue ∨ c =
    .wait frond thread ue ∨ c = .endTask frond thread p ue) ∧ s.Awake ∧ s.dev.running (thrKey frond thread) = none :=
  ⟨mod0, (.next (0) (0) ⟨.clean, .clean⟩), 0, 0, .own, ⟨.clean, .clean⟩,
    by (try simp only [State.On, State.Awake, State.Opens, State.Ready, Dev.quiet, Dev.acts, Clock.ok]) <;> decide +kernel⟩
theorem witness_MicrowordSequencing_13 : ∃ (s : State) (c : Instr) (frond : Nat) (thread : Nat) (i : Nat) (pc : Nat) (w : Option Nat) (t :
    Task) (ue : WordGuard), s.Awake ∧ s.dev.quiet ∧ ue.bad = true ∧ (c = .next frond thread ue ∨ c = .goto frond thread ue ∨ c = .ifZ frond
    thread ue ∨ c = .call frond thread ue ∨ c = .ret frond thread ue ∨ c = .wait frond thread ue ∨ c = .endTask frond thread .own ue) ∧
    s.dev.mayIssue (thrKey frond thread) = true ∧ s.dev.running (thrKey frond thread) = some (i, t) ∧ s.dev.fetch (frond % 8) (s.dev.thread
    (thrKey frond thread)).pc = (pc, w) ∧ t.desc = none :=
  ⟨modOf fun d => let d := wMicro d 0; wTask d (thrKey 0 0) 0 {}, .next 0 0 ⟨.bad, .clean⟩, 0, 0, 0, 0, some 0, {}, ⟨.bad, .clean⟩,
    by (try simp only [State.On, State.Awake, State.Opens, State.Ready, Dev.quiet, Dev.acts, Clock.ok]) <;> decide +kernel⟩
theorem witness_MicrowordSequencing_14 : ∃ (s : State) (frond : Nat) (thread : Nat) (i : Nat) (pc : Nat) (imm : Nat) (t : Task) (ue :
    WordGuard), s.Awake ∧ ue.bad = false ∧ s.dev.issues (thrKey frond thread) i t 0 pc imm 0 :=
  ⟨modOf fun d => let d := wMicro d 0; wTask d (thrKey 0 0) 0 {}, 0, 0, 0, 0, 0, {}, ⟨.clean, .clean⟩,
    by (try simp only [State.On, State.Awake, State.Opens, State.Ready, Dev.quiet, Dev.acts, Clock.ok]) <;> decide +kernel, by decide, ⟨by
    decide +kernel, by decide +kernel, by decide +kernel, 0, by decide +kernel⟩⟩
theorem witness_MicrowordSequencing_15 : ∃ (s : State) (c : Instr) (frond : Nat) (thread : Nat) (ue : WordGuard), s.Awake ∧ s.dev.mayIssue
    (thrKey frond thread) = false ∧ (c = .next frond thread ue ∨ c = .goto frond thread ue ∨ c = .ifZ frond thread ue ∨ c = .ifNz frond
    thread ue ∨ c = .ifC frond thread ue ∨ c = .ifNc frond thread ue ∨ c = .ifN frond thread ue ∨ c = .ifZn frond thread ue ∨ c = .ifHit
    frond thread ue ∨ c = .ifUpdFail frond thread ue ∨ c = .ifUnitErr frond thread ue ∨ c = .call frond thread ue ∨ c = .ret frond thread
    ue ∨ c = .dispatch frond thread ue ∨ c = .wait frond thread ue ∨ c = .endTask frond thread .own ue) :=
  ⟨modOf fun d => { d with eng := { d.eng with port := [(0, 10 ^ 15 + 1)] } }, .next 0 0 ⟨.clean, .clean⟩, 0, 0, ⟨.clean, .clean⟩,
    by (try simp only [State.On, State.Awake, State.Opens, State.Ready, Dev.quiet, Dev.acts, Clock.ok]) <;> decide +kernel⟩

end Sys2Proof.Tests
end

