-- ==== Sys2Proof/Tests/Witness4.lean ====
section
/-! SUPPORT. For each clause of DatapathWords, EditsAndHashes, TaskOperations, SchedulingTrace, PatchesAndCounters,
ScratchpadServices: a state and operands that meet its hypotheses together. -/

namespace Sys2Proof.Tests

/- In order, one after another: a check that the kernel evaluates waits for everything before it, and hundreds that wait
at once would each hold a thread. -/
set_option Elab.async false
set_option linter.unusedSimpArgs false
set_option linter.unusedVariables false
set_option linter.unnecessarySeqFocus false

open Sys2Proof Sys2Proof.Machine

/-! ### DatapathWords -/

theorem witness_DatapathWords_0 : ∃ (s : State) (c : Instr) (frond : Nat) (thread : Nat) (i : Nat) (n : Nat) (x : Nat) (y : Nat) (v :
    Nat) (t : Task) (th : Thread) (dst : EngPlace) (a : EngSrc) (b : EngSrc) (e : EngSrc) (fl : Bool) (carry : Option Bool), s.Awake ∧
    s.dev.acts (thrKey frond thread) 0 (bit fl) i t ∧ th = s.dev.thread (thrKey frond thread) ∧ n = aluWidth dst ∧ x = s.dev.srcVal (thrKey
    frond thread) t th a n ∧ y = s.dev.srcVal (thrKey frond thread) t th b n ∧ ((c = .and frond thread dst a b fl ∧ v = x &&& y ∧ carry =
    none) ∨ (c = .or frond thread dst a b fl ∧ v = x ||| y ∧ carry = none) ∨ (c = .xor frond thread dst a b fl ∧ v = x ^^^ y ∧ carry =
    none) ∨ (c = .add frond thread dst a b fl ∧ v = (x + y) % 256 ^ n ∧ carry = some (decide (256 ^ n ≤ x + y))) ∨ (c = .sub frond thread
    dst a b fl ∧ v = (x + 256 ^ n - y) % 256 ^ n ∧ carry = none) ∨ (c = .shift frond thread 0 dst a b fl ∧ y < 8 * n ∧ v = x * 2 ^ y % 256
    ^ n ∧ carry = none) ∨ (c = .shift frond thread 1 dst a b fl ∧ y < 8 * n ∧ v = x / 2 ^ y ∧ carry = none) ∨ (c = .shift frond thread 2
    dst a b fl ∧ y < 8 * n ∧ v = toBits (8 * n) (signedOf x (8 * n) / (2 ^ y : Nat)) ∧ carry = none) ∨ (c = .maskset frond thread dst a b e
    fl ∧ v = ((x &&& y) ^^^ x ||| (s.dev.srcVal (thrKey frond thread) t th e n &&& y)) ∧ carry = none) ∨ (c = .byteSwap frond thread dst a
    fl ∧ v = beNat (leBytes n x) ∧ carry = none)) ∧ v < 256 ^ n ∧ (s.dev.writePlace t th dst (leBytes n v)).isSome = true :=
  ⟨(modOf fun d => wTask d (thrKey (0) (0)) (0) (({} : Task))), (.and (0) (0) (.g 1) (.const 0) (.const 0) (false)), 0, 0, 0, (aluWidth (.g 1)),
    ((modOf fun d => wTask d (thrKey (0) (0)) (0) (({} : Task))).dev.srcVal (thrKey 0 0) (({} : Task)) (((modOf fun d => wTask d (thrKey (0) (0)) (0) (({} : Task))).dev.thread (thrKey (0) (0)))) (.const 0) ((aluWidth (.g 1)))),
    ((modOf fun d => wTask d (thrKey (0) (0)) (0) (({} : Task))).dev.srcVal (thrKey 0 0) (({} : Task)) (((modOf fun d => wTask d (thrKey (0) (0)) (0) (({} : Task))).dev.thread (thrKey (0) (0)))) (.const 0) ((aluWidth (.g 1)))),
    ((((modOf fun d => wTask d (thrKey (0) (0)) (0) (({} : Task))).dev.srcVal (thrKey 0 0) (({} : Task)) (((modOf fun d => wTask d (thrKey (0) (0)) (0) (({} : Task))).dev.thread (thrKey (0) (0)))) (.const 0) ((aluWidth (.g 1))))) &&& (((modOf fun d => wTask d (thrKey (0) (0)) (0) (({} : Task))).dev.srcVal (thrKey 0 0) (({} : Task)) (((modOf fun d => wTask d (thrKey (0) (0)) (0) (({} : Task))).dev.thread (thrKey (0) (0)))) (.const 0) ((aluWidth (.g 1)))))),
    ({} : Task), ((modOf fun d => wTask d (thrKey (0) (0)) (0) (({} : Task))).dev.thread (thrKey (0) (0))), .g 1, .const 0, .const 0, .const 0,
    false, (none), by (try simp only [State.On, State.Awake, State.Opens, State.Ready, Dev.quiet, Dev.acts, Clock.ok]) <;> decide +kernel⟩
theorem witness_DatapathWords_1 : ∃ (s : State) (frond : Nat) (thread : Nat) (kind : Nat) (i : Nat) (n : Nat) (t : Task) (th : Thread)
    (dst : EngPlace) (a : EngSrc) (b : EngSrc), s.Awake ∧ s.dev.acts (thrKey frond thread) 0 0 i t ∧ th = s.dev.thread (thrKey frond
    thread) ∧ n = aluWidth dst ∧ 8 * n ≤ s.dev.srcVal (thrKey frond thread) t th b n ∧ (∀ v, (s.dev.writePlace t th dst (leBytes n
    v)).isSome = true) ∧ s.dev.flagsFrom (thrKey frond thread) false = false :=
  ⟨(modOf fun d => wTask d (thrKey 0 0) 0 {}), 0, 0, 0, 0, aluWidth (.g 1), {}, (modOf fun d => wTask d (thrKey 0 0) 0 {}).dev.thread
    (thrKey 0 0), .g 1, .const 0, .const 200,
    by (try simp only [State.On, State.Awake, State.Opens, State.Ready, Dev.quiet, Dev.acts, Clock.ok]) <;> decide +kernel,
    by (try simp only [State.On, State.Awake, State.Opens, State.Ready, Dev.quiet, Dev.acts, Clock.ok]) <;> decide +kernel,
    by (try simp only [State.On, State.Awake, State.Opens, State.Ready, Dev.quiet, Dev.acts, Clock.ok]) <;> decide +kernel,
    by (try simp only [State.On, State.Awake, State.Opens, State.Ready, Dev.quiet, Dev.acts, Clock.ok]) <;> decide +kernel,
    by (try simp only [State.On, State.Awake, State.Opens, State.Ready, Dev.quiet, Dev.acts, Clock.ok]) <;> decide +kernel, fun v => rfl,
    by (try simp only [State.On, State.Awake, State.Opens, State.Ready, Dev.quiet, Dev.acts, Clock.ok]) <;> decide +kernel⟩
theorem witness_DatapathWords_2 : ∃ (s : State) (c : Instr) (frond : Nat) (thread : Nat) (i : Nat) (r : Nat) (x : Nat) (y : Nat) (v :
    Nat) (t : Task) (th : Thread) (a : EngSrc) (b : EngSrc) (fl : Bool), s.Awake ∧ s.dev.acts (thrKey frond thread) 0 (bit fl) i t ∧ th =
    s.dev.thread (thrKey frond thread) ∧ r < 32 ∧ r ≠ 0 ∧ x = s.dev.srcVal (thrKey frond thread) t th a 4 ∧ y = s.dev.srcVal (thrKey frond
    thread) t th b 4 ∧ ((c = .and frond thread (.g r) a b fl ∧ v = x &&& y) ∨ (c = .or frond thread (.g r) a b fl ∧ v = x ||| y) ∨ (c =
    .xor frond thread (.g r) a b fl ∧ v = x ^^^ y) ∨ (c = .add frond thread (.g r) a b fl ∧ v = x + y) ∨ (c = .sub frond thread (.g r) a b
    fl ∧ v = x + 2 ^ 32 - y)) :=
  ⟨(modOf fun d => wTask d (thrKey (0) (0)) (0) (({} : Task))), (.and (0) (0) (.g ((0 + 1))) (.const 0) (.const 0) (false)), 0, 0, 0, (0 + 1),
    ((modOf fun d => wTask d (thrKey (0) (0)) (0) (({} : Task))).dev.srcVal (thrKey 0 0) (({} : Task)) (((modOf fun d => wTask d (thrKey (0) (0)) (0) (({} : Task))).dev.thread (thrKey (0) (0)))) (.const 0) 4),
    ((modOf fun d => wTask d (thrKey (0) (0)) (0) (({} : Task))).dev.srcVal (thrKey 0 0) (({} : Task)) (((modOf fun d => wTask d (thrKey (0) (0)) (0) (({} : Task))).dev.thread (thrKey (0) (0)))) (.const 0) 4),
    ((((modOf fun d => wTask d (thrKey (0) (0)) (0) (({} : Task))).dev.srcVal (thrKey 0 0) (({} : Task)) (((modOf fun d => wTask d (thrKey (0) (0)) (0) (({} : Task))).dev.thread (thrKey (0) (0)))) (.const 0) 4)) &&& (((modOf fun d => wTask d (thrKey (0) (0)) (0) (({} : Task))).dev.srcVal (thrKey 0 0) (({} : Task)) (((modOf fun d => wTask d (thrKey (0) (0)) (0) (({} : Task))).dev.thread (thrKey (0) (0)))) (.const 0) 4))),
    ({} : Task), ((modOf fun d => wTask d (thrKey (0) (0)) (0) (({} : Task))).dev.thread (thrKey (0) (0))), .const 0, .const 0, false,
    by (try simp only [State.On, State.Awake, State.Opens, State.Ready, Dev.quiet, Dev.acts, Clock.ok]) <;> decide +kernel⟩
theorem witness_DatapathWords_3 : ∃ (s : State) (frond : Nat) (thread : Nat) (i : Nat) (n : Nat) (m : Nat) (t : Task) (th : Thread) (wide
    : Bool) (fl : Bool) (a : EngSrc) (b : EngSrc) (e : EngSrc), s.Awake ∧ s.dev.acts (thrKey frond thread) 0 (bit fl) i t ∧ th =
    s.dev.thread (thrKey frond thread) ∧ n = (if wide then 16 else 4) ∧ m = s.dev.srcVal (thrKey frond thread) t th e n :=
  ⟨(modOf fun d => wTask d (thrKey (0) (0)) (0) (({} : Task))), 0, 0, 0, ((if (false) then 16 else 4)),
    ((modOf fun d => wTask d (thrKey (0) (0)) (0) (({} : Task))).dev.srcVal (thrKey 0 0) (({} : Task)) (((modOf fun d => wTask d (thrKey (0) (0)) (0) (({} : Task))).dev.thread (thrKey (0) (0)))) (.const 0) (((if (false) then 16 else 4)))),
    ({} : Task), ((modOf fun d => wTask d (thrKey (0) (0)) (0) (({} : Task))).dev.thread (thrKey (0) (0))), false, false, .const 0, .const 0,
    .const 0, by (try simp only [State.On, State.Awake, State.Opens, State.Ready, Dev.quiet, Dev.acts, Clock.ok]) <;> decide +kernel⟩
theorem witness_DatapathWords_4 : ∃ (s : State) (frond : Nat) (thread : Nat) (i : Nat) (t : Task) (th : Thread) (u : Thread) (a :
    Transfer), s.Awake ∧ s.dev.acts (thrKey frond thread) 1 (if loadsRegs a then 0 else 3) i t ∧ th = s.dev.thread (thrKey frond thread) ∧
    s.dev.writePlace t th a.dst (s.dev.readPlace t th a.src (max 1 (min 128 a.len))) = some u :=
  ⟨(modOf fun d => wTask d (thrKey (0) (0)) (0) (({} : Task))), 0, 0, 0, ({} : Task),
    ((modOf fun d => wTask d (thrKey (0) (0)) (0) (({} : Task))).dev.thread (thrKey (0) (0))),
    (((modOf fun d => wTask d (thrKey (0) (0)) (0) (({} : Task))).dev.writePlace {} ((modOf fun d => wTask d (thrKey (0) (0)) (0) (({} : Task))).dev.thread (thrKey 0 0)) (.g 2) ((modOf fun d => wTask d (thrKey (0) (0)) (0) (({} : Task))).dev.readPlace {} ((modOf fun d => wTask d (thrKey (0) (0)) (0) (({} : Task))).dev.thread (thrKey 0 0)) (.g 1) 4)).getD {}),
    ({ src := .g 1, dst := .g 2, len := 4 } : Transfer),
    by (try simp only [State.On, State.Awake, State.Opens, State.Ready, Dev.quiet, Dev.acts, Clock.ok]) <;> decide +kernel⟩
theorem witness_DatapathWords_5 : ∃ (s : State) (frond : Nat) (thread : Nat) (i : Nat) (t : Task) (th : Thread) (u : Thread) (v : Thread)
    (a : Transfer) (b : Transfer), s.Awake ∧ loadsRegs a = loadsRegs b ∧ s.dev.acts (thrKey frond thread) 1 (if loadsRegs a then 0 else 3)
    i t ∧ th = s.dev.thread (thrKey frond thread) ∧ s.dev.writePlace t th a.dst (s.dev.readPlace t th a.src (max 1 (min 128 a.len))) = some
    u ∧ s.dev.writePlace t u b.dst (s.dev.readPlace t th b.src (max 1 (min 128 b.len))) = some v :=
  ⟨(modOf fun d => wTask d (thrKey (0) (0)) (0) (({} : Task))), 0, 0, 0, ({} : Task),
    ((modOf fun d => wTask d (thrKey (0) (0)) (0) (({} : Task))).dev.thread (thrKey (0) (0))),
    (((modOf fun d => wTask d (thrKey (0) (0)) (0) (({} : Task))).dev.writePlace {} ((modOf fun d => wTask d (thrKey (0) (0)) (0) (({} : Task))).dev.thread (thrKey 0 0)) (.g 2) ((modOf fun d => wTask d (thrKey (0) (0)) (0) (({} : Task))).dev.readPlace {} ((modOf fun d => wTask d (thrKey (0) (0)) (0) (({} : Task))).dev.thread (thrKey 0 0)) (.g 1) 4)).getD {}),
    (((modOf fun d => wTask d (thrKey (0) (0)) (0) (({} : Task))).dev.writePlace {} (((modOf fun d => wTask d (thrKey (0) (0)) (0) (({} : Task))).dev.writePlace {} ((modOf fun d => wTask d (thrKey (0) (0)) (0) (({} : Task))).dev.thread (thrKey 0 0)) (.g 2) ((modOf fun d => wTask d (thrKey (0) (0)) (0) (({} : Task))).dev.readPlace {} ((modOf fun d => wTask d (thrKey (0) (0)) (0) (({} : Task))).dev.thread (thrKey 0 0)) (.g 1) 4)).getD {}) (.g 2) ((modOf fun d => wTask d (thrKey (0) (0)) (0) (({} : Task))).dev.readPlace {} ((modOf fun d => wTask d (thrKey (0) (0)) (0) (({} : Task))).dev.thread (thrKey 0 0)) (.g 1) 4)).getD {}),
    ({ src := .g 1, dst := .g 2, len := 4 } : Transfer), ({ src := .g 1, dst := .g 2, len := 4 } : Transfer),
    by (try simp only [State.On, State.Awake, State.Opens, State.Ready, Dev.quiet, Dev.acts, Clock.ok]) <;> decide +kernel⟩
theorem witness_DatapathWords_8 : ∃ (s : State) (frond : Nat) (thread : Nat) (i : Nat) (t : Task) (th : Thread) (a : Transfer), s.Awake ∧
    s.dev.quiet ∧ s.dev.acts (thrKey frond thread) 1 (if loadsRegs a then 0 else 3) i t ∧ th = s.dev.thread (thrKey frond thread) ∧ t.desc
    = none ∧ s.dev.writePlace t th a.dst (s.dev.readPlace t th a.src (max 1 (min 128 a.len))) = none :=
  ⟨(modOf fun d => wTask d (thrKey (0) (0)) (0) ((let zz : Task := ({} : Task); { zz with desc := none }))), 0, 0, 0, (let zz : Task := ({} : Task);
    { zz with desc := none }), ((modOf fun d => wTask d (thrKey (0) (0)) (0) ((let zz : Task := ({} : Task); { zz with desc :=
    none }))).dev.thread (thrKey (0) (0))), { src := .g 1, dst := .win .head none 0, len := 4 },
    by (try simp only [State.On, State.Awake, State.Opens, State.Ready, Dev.quiet, Dev.acts, Clock.ok]) <;> decide +kernel⟩
theorem witness_DatapathWords_9 : ∃ (s : State) (frond : Nat) (thread : Nat) (i : Nat) (len : Nat) (t : Task) (th : Thread) (u : Thread)
    (addr : EngSrc) (dst : EngPlace) (ue : Guard), s.Awake ∧ s.dev.acts (thrKey frond thread) 2 0 i t ∧ th = s.dev.thread (thrKey frond
    thread) ∧ ue ≠ .bad ∧ s.dev.writePlace t th dst (s.dev.spadRead (frond % 8) (s.dev.srcVal (thrKey frond thread) t th addr 4) (min 64
    len)) = some u :=
  ⟨(modOf fun d => wTask d (thrKey (0) (0)) (0) (({} : Task))), 0, 0, 0, 0, ({} : Task),
    ((modOf fun d => wTask d (thrKey (0) (0)) (0) (({} : Task))).dev.thread (thrKey (0) (0))),
    (((modOf fun d => wTask d (thrKey (0) (0)) (0) (({} : Task))).dev.writePlace {} ((modOf fun d => wTask d (thrKey (0) (0)) (0) (({} : Task))).dev.thread (thrKey 0 0)) (.g 1) []).getD {}),
    .const 0, .g 1, .clean, by (try simp only [State.On, State.Awake, State.Opens, State.Ready, Dev.quiet, Dev.acts, Clock.ok]) <;> decide +kernel⟩
theorem witness_DatapathWords_10 : ∃ (s : State) (frond : Nat) (thread : Nat) (i : Nat) (len : Nat) (t : Task) (addr : EngSrc) (dst :
    EngPlace), s.Awake ∧ s.dev.quiet ∧ s.dev.acts (thrKey frond thread) 2 0 i t ∧ t.desc = none :=
  ⟨(modOf fun d => wTask d (thrKey 0 0) 0 { desc := none }), 0, 0, 0, 0, { desc := none }, .const 0, .g 1,
    by (try simp only [State.On, State.Awake, State.Opens, State.Ready, Dev.quiet, Dev.acts, Clock.ok]) <;> decide +kernel⟩
theorem witness_DatapathWords_11 : ∃ (s : State) (frond : Nat) (thread : Nat) (i : Nat) (len : Nat) (a : Nat) (t : Task) (th : Thread)
    (addr : EngSrc) (src : EngPlace), s.Awake ∧ s.dev.acts (thrKey frond thread) 2 3 i t ∧ th = s.dev.thread (thrKey frond thread) ∧ a =
    s.dev.srcVal (thrKey frond thread) t th addr 4 :=
  ⟨(modOf fun d => wTask d (thrKey (0) (0)) (0) (({} : Task))), 0, 0, 0, 0,
    ((modOf fun d => wTask d (thrKey (0) (0)) (0) (({} : Task))).dev.srcVal (thrKey 0 0) (({} : Task)) (((modOf fun d => wTask d (thrKey (0) (0)) (0) (({} : Task))).dev.thread (thrKey (0) (0)))) (.const 0) 4),
    ({} : Task), ((modOf fun d => wTask d (thrKey (0) (0)) (0) (({} : Task))).dev.thread (thrKey (0) (0))), .const 0, .g 1,
    by (try simp only [State.On, State.Awake, State.Opens, State.Ready, Dev.quiet, Dev.acts, Clock.ok]) <;> decide +kernel⟩
theorem witness_DatapathWords_13 : ∃ (s : State) (c : Instr) (frond : Nat) (thread : Nat) (n : Nat) (dst : EngPlace) (a : EngSrc) (b :
    EngSrc) (e : EngSrc) (fl : Bool) (x : Transfer) (y : Option Transfer) (ue : Guard), (c = .and frond thread dst a b fl ∨ c = .or frond
    thread dst a b fl ∨ c = .xor frond thread dst a b fl ∨ c = .add frond thread dst a b fl ∨ c = .sub frond thread dst a b fl ∨ c = .shift
    frond thread n dst a b fl ∨ c = .compareUnderMask frond thread fl a b e fl ∨ c = .maskset frond thread dst a b e fl ∨ c = .byteSwap
    frond thread dst a fl ∨ c = .move frond thread x y ∨ c = .memLoad frond thread a dst n ue ∨ c = .memStore frond thread a dst n) ∧
    s.Awake ∧ s.dev.running (thrKey frond thread) = none :=
  ⟨mod0, .and 0 0 (.g 1) (.const 0) (.const 0) false, 0, 0, 1, .g 1, .const 0, .const 0, .const 0, false,
    { src := .g 0, dst := .g 1, len := 4 }, none, .clean, .inl rfl, by decide +kernel, by decide +kernel⟩
theorem witness_DatapathWords_12 : ∃ (s : State) (c : Instr) (frond : Nat) (thread : Nat) (n : Nat) (dst : EngPlace) (a : EngSrc) (b :
    EngSrc) (e : EngSrc) (fl : Bool) (x : Transfer) (y : Option Transfer) (ue : Guard), s.Awake ∧ ((bit fl < s.dev.wordStage (thrKey frond
    thread) ∧ (c = .and frond thread dst a b fl ∨ c = .or frond thread dst a b fl ∨ c = .xor frond thread dst a b fl ∨ c = .add frond
    thread dst a b fl ∨ c = .sub frond thread dst a b fl ∨ c = .shift frond thread n dst a b fl ∨ c = .maskset frond thread dst a b e fl ∨
    c = .byteSwap frond thread dst a fl)) ∨ (bit fl < s.dev.wordStage (thrKey frond thread) ∧ c = .compareUnderMask frond thread true a b e
    fl) ∨ (0 < s.dev.wordStage (thrKey frond thread) ∧ c = .memLoad frond thread a dst n ue) ∨ (s.dev.groupFree (thrKey frond thread) 1 =
    false ∧ c = .move frond thread x y) ∨ (s.dev.groupFree (thrKey frond thread) 2 = false ∧ (c = .memLoad frond thread a dst n ue ∨ c =
    .memStore frond thread a dst n)) ∨ (s.dev.mayIssue (thrKey frond thread) = false ∧ (c = .and frond thread dst a b fl ∨ c = .shift frond
    thread n dst a b fl ∨ c = .move frond thread x y ∨ c = .memLoad frond thread a dst n ue ∨ c = .memStore frond thread a dst n))) :=
  ⟨(modOf fun d => d.setStage (thrKey 0 0) 3), .and 0 0 (.g 1) (.const 0) (.const 0) false, 0, 0, 1, .g 1, .const 0, .const 0, .const 0,
    false, { src := .g 0, dst := .g 1, len := 4 }, none, .clean, by decide +kernel, .inl ⟨by decide +kernel, .inl rfl⟩⟩
theorem witness_DatapathWords_6 : ∃ (s : State) (frond : Nat) (thread : Nat) (i : Nat) (t : Task) (th : Thread) (u : Thread) (a : Transfer)
    (b : Transfer) (x : Transfer) (y : Transfer), s.Awake ∧ ((loadsRegs a = true ∧ loadsRegs b = false ∧ x = a ∧ y = b) ∨ (loadsRegs a =
    false ∧ loadsRegs b = true ∧ x = b ∧ y = a)) ∧ s.dev.acts (thrKey frond thread) 1 0 i t ∧ th = s.dev.thread (thrKey frond thread) ∧
    (s.dev.writePlace t th y.dst (List.replicate (moveBytes y) 0)).isSome = true ∧ s.dev.writePlace t th x.dst (s.dev.readPlace t th x.src
    (moveBytes x)) = some u :=
  ⟨(modOf fun d => wTask d (thrKey 0 0) 0 {}), 0, 0, 0, {}, ((modOf fun d => wTask d (thrKey 0 0) 0 {}).dev.thread (thrKey 0 0)),
    (((modOf fun d => wTask d (thrKey 0 0) 0 {}).dev.writePlace {} ((modOf fun d => wTask d (thrKey 0 0) 0 {}).dev.thread (thrKey 0 0)) (.g
    1) ((modOf fun d => wTask d (thrKey 0 0) 0 {}).dev.readPlace {} ((modOf fun d => wTask d (thrKey 0 0) 0 {}).dev.thread (thrKey 0 0))
    (.g 0) 4)).getD ((modOf fun d => wTask d (thrKey 0 0) 0 {}).dev.thread (thrKey 0 0))), { src := .g 0, dst := .g 1, len := 4 },
    { src := .g 0, dst := .win .draft none 0, len := 4 }, { src := .g 0, dst := .g 1, len := 4 },
    { src := .g 0, dst := .win .draft none 0, len := 4 },
    by (try simp only [State.On, State.Awake, State.Opens, State.Ready, Dev.quiet, Dev.acts, Clock.ok]) <;> decide +kernel⟩
theorem witness_DatapathWords_7 : ∃ (s : State) (frond : Nat) (thread : Nat) (i : Nat) (t : Task) (th : Thread) (u : Thread) (y :
    Transfer), s.Awake ∧ s.dev.mayIssue (thrKey frond thread) = true ∧ s.dev.running (thrKey frond thread) = some (i, t) ∧ th =
    s.dev.thread (thrKey frond thread) ∧ th.late = some y ∧ s.dev.writePlace t th y.dst (s.dev.readPlace t th y.src (moveBytes y)) = some u
    :=
  ⟨(modOf fun d => let d := wTask d (thrKey 0 0) 0 {};
    d.setThread (thrKey 0 0) { d.thread (thrKey 0 0) with late := some { src := .g 0, dst := .g 1, len := 4 } }), 0, 0, 0, {},
    ((modOf fun d => let d := wTask d (thrKey 0 0) 0 {};
    d.setThread (thrKey 0 0) { d.thread (thrKey 0 0) with late := some { src := .g 0, dst := .g 1, len := 4 } }).dev.thread (thrKey 0 0)),
    (((modOf fun d => let d := wTask d (thrKey 0 0) 0 {};
    d.setThread (thrKey 0 0) { d.thread (thrKey 0 0) with late := some { src := .g 0, dst := .g 1, len := 4 } }).dev.writePlace {}
    ((modOf fun d => let d := wTask d (thrKey 0 0) 0 {};
    d.setThread (thrKey 0 0) { d.thread (thrKey 0 0) with late := some { src := .g 0, dst := .g 1, len := 4 } }).dev.thread (thrKey 0 0))
    (.g 1) ((modOf fun d => let d := wTask d (thrKey 0 0) 0 {};
    d.setThread (thrKey 0 0) { d.thread (thrKey 0 0) with late := some { src := .g 0, dst := .g 1, len := 4 } }).dev.readPlace {}
    ((modOf fun d => let d := wTask d (thrKey 0 0) 0 {};
    d.setThread (thrKey 0 0) { d.thread (thrKey 0 0) with late := some { src := .g 0, dst := .g 1, len := 4 } }).dev.thread (thrKey 0 0))
    (.g 0) 4)).getD ((modOf fun d => let d := wTask d (thrKey 0 0) 0 {};
    d.setThread (thrKey 0 0) { d.thread (thrKey 0 0) with late := some { src := .g 0, dst := .g 1, len := 4 } }).dev.thread (thrKey 0 0))),
    { src := .g 0, dst := .g 1, len := 4 },
    by (try simp only [State.On, State.Awake, State.Opens, State.Ready, Dev.quiet, Dev.acts, Clock.ok]) <;> decide +kernel⟩
/-! ### EditsAndHashes -/

theorem witness_EditsAndHashes_0 : ∃ (s : State) (frond : Nat) (thread : Nat) (i : Nat) (t : Task) (th : Thread), s.Awake ∧ s.dev.acts
    (thrKey frond thread) 0 3 i t ∧ th = s.dev.thread (thrKey frond thread) :=
  ⟨(modOf fun d => wTask d (thrKey (0) (0)) (0) (({} : Task))), 0, 0, 0, ({} : Task),
    ((modOf fun d => wTask d (thrKey (0) (0)) (0) (({} : Task))).dev.thread (thrKey (0) (0))),
    by (try simp only [State.On, State.Awake, State.Opens, State.Ready, Dev.quiet, Dev.acts, Clock.ok]) <;> decide +kernel⟩
theorem witness_EditsAndHashes_1 : ∃ (s : State) (frond : Nat) (thread : Nat) (i : Nat) (t : Task) (th : Thread) (w : Word), s.Awake ∧
    s.dev.acts (thrKey frond thread) 0 3 i t ∧ th = s.dev.thread (thrKey frond thread) :=
  ⟨(modOf fun d => wTask d (thrKey (0) (0)) (0) (({} : Task))), 0, 0, 0, ({} : Task),
    ((modOf fun d => wTask d (thrKey (0) (0)) (0) (({} : Task))).dev.thread (thrKey (0) (0))), (0 : Word),
    by (try simp only [State.On, State.Awake, State.Opens, State.Ready, Dev.quiet, Dev.acts, Clock.ok]) <;> decide +kernel⟩
theorem witness_EditsAndHashes_2 : ∃ (s : State) (frond : Nat) (thread : Nat) (i : Nat) (len : Nat) (dst : Nat) (t : Task) (th : Thread)
    (src : EngPlace) (bs : List Byte), s.Awake ∧ s.dev.acts (thrKey frond thread) 0 3 i t ∧ th = s.dev.thread (thrKey frond thread) ∧ bs =
    s.dev.readPlace t th src (max 1 (min 64 len)) :=
  ⟨(modOf fun d => wTask d (thrKey (0) (0)) (0) (({} : Task))), 0, 0, 0, 0, 0, ({} : Task),
    ((modOf fun d => wTask d (thrKey (0) (0)) (0) (({} : Task))).dev.thread (thrKey (0) (0))), .g 1,
    ((modOf fun d => wTask d (thrKey (0) (0)) (0) (({} : Task))).dev.readPlace (({} : Task)) (((modOf fun d => wTask d (thrKey (0) (0)) (0) (({} : Task))).dev.thread (thrKey (0) (0)))) (.g 1) (max 1 (min 64 (0)))),
    by (try simp only [State.On, State.Awake, State.Opens, State.Ready, Dev.quiet, Dev.acts, Clock.ok]) <;> decide +kernel⟩
theorem witness_EditsAndHashes_3 : ∃ (s : State) (c : Instr) (frond : Nat) (thread : Nat) (i : Nat) (dst : Nat) (h : Nat) (t : Task) (th
    : Thread), s.Awake ∧ s.dev.acts (thrKey frond thread) 3 3 i t ∧ th = s.dev.thread (thrKey frond thread) ∧ ((∃ (v6 : Bool) (zone proto
    port addr : EngSrc), c = .peerh frond thread v6 zone proto port addr dst ∧ h = peerPart s.dev.flow.kp v6 (s.dev.srcVal (thrKey frond
    thread) t th zone 4 % 4096) (s.dev.srcVal (thrKey frond thread) t th proto 4 % 256) ⟨s.dev.srcVal (thrKey frond thread) t th addr (if
    v6 then 16 else 4), s.dev.srcVal (thrKey frond thread) t th port 4 % 65536⟩) ∨ (∃ (v6 : Bool) (port addr : EngSrc), c = .localh frond
    thread v6 port addr dst ∧ h = localHash s.dev.flow.kl v6 ⟨s.dev.srcVal (thrKey frond thread) t th addr (if v6 then 16 else 4),
    s.dev.srcVal (thrKey frond thread) t th port 4 % 65536⟩) ∨ (∃ (src : EngPlace) (len key : Nat), c = .khash frond thread src len key dst
    ∧ h = sipHash (th.rv key) (s.dev.readPlace t th src (min 32 len)) % 2 ^ 32)) :=
  ⟨modOf fun d => wTask d (thrKey 0 0) 0 {}, .khash 0 0 (.g 1) 4 0 0, 0, 0, 0, 0, _, {}, (modOf fun d => wTask d (thrKey 0 0) 0
    {}).dev.thread (thrKey 0 0),
    by (try simp only [State.On, State.Awake, State.Opens, State.Ready, Dev.quiet, Dev.acts, Clock.ok]) <;> decide +kernel,
    by (try simp only [State.On, State.Awake, State.Opens, State.Ready, Dev.quiet, Dev.acts, Clock.ok]) <;> decide +kernel, rfl, .inr (.inr
    ⟨_, _, _, rfl, rfl⟩)⟩
theorem witness_EditsAndHashes_4 : ∃ (s : State) (frond : Nat) (thread : Nat) (i : Nat) (dst : Nat) (t : Task) (th : Thread), s.Awake ∧
    s.dev.acts (thrKey frond thread) 3 3 i t ∧ th = s.dev.thread (thrKey frond thread) ∧ dst % 32 ≠ 0 :=
  ⟨(modOf fun d => wTask d (thrKey (0) (0)) (0) (({} : Task))), 0, 0, 0, 1, ({} : Task),
    ((modOf fun d => wTask d (thrKey (0) (0)) (0) (({} : Task))).dev.thread (thrKey (0) (0))),
    by (try simp only [State.On, State.Awake, State.Opens, State.Ready, Dev.quiet, Dev.acts, Clock.ok]) <;> decide +kernel⟩
theorem witness_EditsAndHashes_5 : ∃ (s : State) (c : Instr) (frond : Nat) (thread : Nat) (n : Nat) (m : Nat) (dst : Nat) (w : Word) (v6
    : Bool) (a : EngSrc) (b : EngSrc) (e : EngSrc) (f : EngSrc) (p : EngPlace), (c = .eClear frond thread ∨ c = .eOp frond thread w ∨ c =
    .eData frond thread p n dst ∨ c = .peerh frond thread v6 a b e f dst ∨ c = .localh frond thread v6 a b dst ∨ c = .khash frond thread p
    n m dst ∨ c = .rand frond thread dst) ∧ s.Awake ∧ (s.dev.running (thrKey frond thread) = none ∨ s.dev.mayIssue (thrKey frond thread) =
    false) :=
  ⟨mod0, (.eClear (0) (0)), 0, 0, 0, 0, 0, (0 : Word), false, .const 0, .const 0, .const 0, .const 0, .g 1,
    by (try simp only [State.On, State.Awake, State.Opens, State.Ready, Dev.quiet, Dev.acts, Clock.ok]) <;> decide +kernel⟩
theorem witness_EditsAndHashes_6 : ∃ (s : State) (c : Instr) (frond : Nat) (thread : Nat) (n : Nat) (m : Nat) (dst : Nat) (v6 : Bool) (a :
    EngSrc) (b : EngSrc) (e : EngSrc) (f : EngSrc) (p : EngPlace), (c = .peerh frond thread v6 a b e f dst ∨ c = .localh frond thread v6 a
    b dst ∨ c = .khash frond thread p n m dst ∨ c = .rand frond thread dst) ∧ s.Awake ∧ s.dev.groupFree (thrKey frond thread) 3 = false :=
  ⟨(modOf fun d => d.setStage (thrKey 0 0) 64), .rand 0 0 0, 0, 0, 0, 0, 0, false, .const 0, .const 0, .const 0, .const 0, .g 1,
    by (try simp only [State.On, State.Awake, State.Opens, State.Ready, Dev.quiet, Dev.acts, Clock.ok]) <;> decide +kernel⟩
/-! ### TaskOperations -/

theorem witness_TaskOperations_0 : ∃ (s : State) (frond : Nat) (thread : Nat) (i : Nat) (n : Nat) (imm : Nat) (spad : Nat) (dst : Nat) (t :
    Task) (k : Nat), s.Awake ∧ k = thrKey frond thread ∧ imm = s.dev.immAt k n ∧ s.dev.acts k 4 3 i t ∧ 5 ≤ imm % 16 ∧ s.dev.entryOk
    s.dev.cgen (imm % 16) = true ∧ s.dev.placeable (frond % 8) (if bitOf imm 6 then bitsOf imm 4 2 else s.dev.kindPrio (imm % 16)) = true
    :=
  ⟨(modOf fun d => let d := wTask d (thrKey 0 0) 0 {}; d.setNum (FENG.ENTRY.ix 5) 0x80000000), 0, 0, 0, 5, 5, 0, 0, {}, thrKey 0 0,
    by (try simp only [State.On, State.Awake, State.Opens, State.Ready, Dev.quiet, Dev.acts, Clock.ok]) <;> decide +kernel⟩
theorem witness_TaskOperations_1 : ∃ (s : State) (frond : Nat) (thread : Nat) (i : Nat) (n : Nat) (imm : Nat) (spad : Nat) (dst : Nat) (p :
    Nat) (t : Task) (k : Nat), s.Awake ∧ k = thrKey frond thread ∧ imm = s.dev.immAt k n ∧ s.dev.acts k 4 3 i t ∧ 5 ≤ imm % 16 ∧
    s.dev.entryOk s.dev.cgen (imm % 16) = true ∧ p = (if bitOf imm 6 then bitsOf imm 4 2 else s.dev.kindPrio (imm % 16)) ∧ s.dev.placeable
    (frond % 8) p = false :=
  ⟨(modOf fun d => let d := wTask d (thrKey 0 0) 0 {}; let d := d.setNum (FENG.ENTRY.ix 5) 0x80000000; d.setNum TASK.RESERVE 4096), 0, 0,
    0, 5, 5, 0, 0, (modOf fun d => let d := wTask d (thrKey 0 0) 0 {}; let d := d.setNum (FENG.ENTRY.ix 5) 0x80000000;
    d.setNum TASK.RESERVE 4096).dev.kindPrio 5, {}, thrKey 0 0,
    by (try simp only [State.On, State.Awake, State.Opens, State.Ready, Dev.quiet, Dev.acts, Clock.ok]) <;> decide +kernel⟩
theorem witness_TaskOperations_2 : ∃ (s : State) (frond : Nat) (thread : Nat) (i : Nat) (n : Nat) (imm : Nat) (spad : Nat) (dst : Nat) (t :
    Task), s.Awake ∧ imm = s.dev.immAt (thrKey frond thread) n ∧ s.dev.acts (thrKey frond thread) 4 3 i t ∧ (imm % 16 < 5 ∨ s.dev.entryOk
    s.dev.cgen (imm % 16) = false) :=
  ⟨(modOf fun d => wTask d (thrKey 0 0) 0 {}), 0, 0, 0, 0, 0, 0, 0, {},
    by (try simp only [State.On, State.Awake, State.Opens, State.Ready, Dev.quiet, Dev.acts, Clock.ok]) <;> decide +kernel⟩
theorem witness_TaskOperations_3 : ∃ (s : State) (c : Instr) (frond : Nat) (thread : Nat) (i : Nat) (n : Nat) (imm : Nat) (idReg : Nat)
    (id : Nat) (j : Nat) (t : Task) (u : Task), s.Awake ∧ ((c = .tSignal frond thread n idReg ∧ imm = s.dev.immAt (thrKey frond thread) n ∧
    s.dev.acts (thrKey frond thread) 4 3 i t ∧ id = (s.dev.thread (thrKey frond thread)).rg idReg % 2 ^ 20) ∨ (c = .sigFlags frond imm ∧
    s.dev.pageOpen 0x32 = true ∧ s.dev.enabled 0x32 = true ∧ id = s.dev.num TASK.SIG_ID (frond % 8) % 2 ^ 20)) ∧ s.dev.taskById (frond % 8)
    id = some (j, u) :=
  ⟨(modOf fun d => wTask d (thrKey (0) (0)) (0) (({} : Task))), (.tSignal (0) (0) (0) (0)), 0, 0, 0, 0, 0, 0,
    (((modOf fun d => wTask d (thrKey (0) (0)) (0) (({} : Task))).dev.thread (thrKey (0) (0))).rg (0) % 2 ^ 20), 0, ({} : Task), ({} : Task),
    by (try simp only [State.On, State.Awake, State.Opens, State.Ready, Dev.quiet, Dev.acts, Clock.ok]) <;> decide +kernel⟩
theorem witness_TaskOperations_4 : ∃ (s : State) (c : Instr) (frond : Nat) (thread : Nat) (i : Nat) (n : Nat) (imm : Nat) (idReg : Nat)
    (id : Nat) (t : Task), s.Awake ∧ ((c = .tSignal frond thread n idReg ∧ imm = s.dev.immAt (thrKey frond thread) n ∧ s.dev.acts (thrKey
    frond thread) 4 3 i t ∧ id = (s.dev.thread (thrKey frond thread)).rg idReg % 2 ^ 20) ∨ (c = .sigFlags frond imm ∧ s.dev.pageOpen 0x32 =
    true ∧ s.dev.enabled 0x32 = true ∧ id = s.dev.num TASK.SIG_ID (frond % 8) % 2 ^ 20)) ∧ s.dev.taskById (frond % 8) id = none :=
  ⟨(modOf fun d => wTask d (thrKey (0) (0)) (0) ({ gen := 1 })), (.tSignal (0) (0) (0) (0)), 0, 0, 0, 0, 0, 0,
    (((modOf fun d => wTask d (thrKey (0) (0)) (0) ({ gen := 1 })).dev.thread (thrKey (0) (0))).rg (0) % 2 ^ 20), { gen := 1 },
    by (try simp only [State.On, State.Awake, State.Opens, State.Ready, Dev.quiet, Dev.acts, Clock.ok]) <;> decide +kernel⟩
theorem witness_TaskOperations_5 : ∃ (s : State) (frond : Nat) (flags : Nat), s.Opens 0x32 ∧ s.dev.enabled 0x32 = false :=
  ⟨(modOf fun d => d.setNum (CTRL 0x32) 0), 0, 0,
    by (try simp only [State.On, State.Awake, State.Opens, State.Ready, Dev.quiet, Dev.acts, Clock.ok]) <;> decide +kernel⟩
theorem witness_TaskOperations_6 : ∃ (s : State) (frond : Nat) (thread : Nat) (i : Nat) (imm : Nat) (t : Task) (all : Bool), s.Awake ∧
    s.dev.acts (thrKey frond thread) 4 3 i t :=
  ⟨(modOf fun d => wTask d (thrKey (0) (0)) (0) (({} : Task))), 0, 0, 0, 0, ({} : Task), false,
    by (try simp only [State.On, State.Awake, State.Opens, State.Ready, Dev.quiet, Dev.acts, Clock.ok]) <;> decide +kernel⟩
theorem witness_TaskOperations_7 : ∃ (s : State) (frond : Nat) (thread : Nat) (i : Nat) (r : Nat) (n : Nat) (t : Task), s.Awake ∧
    s.dev.acts (thrKey frond thread) 4 3 i t ∧ n = (s.dev.thread (thrKey frond thread)).rg r ∧ n < 2 ^ 24 :=
  ⟨(modOf fun d => wTask d (thrKey (0) (0)) (0) (({} : Task))), 0, 0, 0, 0,
    (((modOf fun d => wTask d (thrKey (0) (0)) (0) (({} : Task))).dev.thread (thrKey (0) (0))).rg (0)), ({} : Task),
    by (try simp only [State.On, State.Awake, State.Opens, State.Ready, Dev.quiet, Dev.acts, Clock.ok]) <;> decide +kernel⟩
theorem witness_TaskOperations_8 : ∃ (s : State) (frond : Nat) (thread : Nat) (i : Nat) (r : Nat) (n : Nat) (t : Task) (spad : Option
    Nat), s.Awake ∧ s.dev.acts (thrKey frond thread) 4 3 i t ∧ n = (s.dev.thread (thrKey frond thread)).rg r ∧ n < 2 ^ 24 ∧ s.dev.num
    TASK.RESERVE < s.dev.storeFree (frond % 8) ∧ s.dev.entryOk s.dev.cgen 4 = true :=
  ⟨(modOf fun d => let d := wTask d (thrKey (0) (0)) (0) (({} : Task)); d.setNum (FENG.ENTRY.ix 4) 0x80000000), 0, 0, 0, 0,
    (((modOf fun d => let d := wTask d (thrKey (0) (0)) (0) (({} : Task));
    d.setNum (FENG.ENTRY.ix 4) 0x80000000).dev.thread (thrKey (0) (0))).rg (0)), ({} : Task), none,
    by (try simp only [State.On, State.Awake, State.Opens, State.Ready, Dev.quiet, Dev.acts, Clock.ok]) <;> decide +kernel⟩
theorem witness_TaskOperations_9 : ∃ (s : State) (frond : Nat) (thread : Nat) (i : Nat) (r : Nat) (t : Task) (spad : Option Nat), s.Awake
    ∧ s.dev.acts (thrKey frond thread) 4 3 i t ∧ s.dev.storeFree (frond % 8) ≤ s.dev.num TASK.RESERVE :=
  ⟨(modOf fun d => let d := wTask d (thrKey (0) (0)) (0) (({} : Task)); d.setNum TASK.RESERVE 4096), 0, 0, 0, 0, ({} : Task), none,
    by (try simp only [State.On, State.Awake, State.Opens, State.Ready, Dev.quiet, Dev.acts, Clock.ok]) <;> decide +kernel⟩
theorem witness_TaskOperations_10 : ∃ (s : State) (frond : Nat) (thread : Nat) (i : Nat) (dst : Nat) (t : Task), s.Awake ∧ s.dev.acts
    (thrKey frond thread) 4 3 i t :=
  ⟨(modOf fun d => wTask d (thrKey (0) (0)) (0) (({} : Task))), 0, 0, 0, 0, ({} : Task),
    by (try simp only [State.On, State.Awake, State.Opens, State.Ready, Dev.quiet, Dev.acts, Clock.ok]) <;> decide +kernel⟩
theorem witness_TaskOperations_11 : ∃ (s : State) (c : Instr) (frond : Nat) (thread : Nat) (n : Nat) (m : Nat) (p : Nat) (b : Bool) (o :
    Option Nat), (c = .tCreate frond thread n m p ∨ c = .tSignal frond thread n m ∨ c = .tMask frond thread n b ∨ c = .tTimer frond thread
    n ∨ c = .tTimertask frond thread n o ∨ c = .tSelf frond thread n) ∧ s.Awake ∧ (s.dev.running (thrKey frond thread) = none ∨
    s.dev.mayIssue (thrKey frond thread) = false ∨ s.dev.groupFree (thrKey frond thread) 4 = false) :=
  ⟨mod0, (.tCreate (0) (0) (0) (0) (0)), 0, 0, 0, 0, 0, false, none,
    by (try simp only [State.On, State.Awake, State.Opens, State.Ready, Dev.quiet, Dev.acts, Clock.ok]) <;> decide +kernel⟩
theorem witness_TaskOperations_12 : ∃ (s : State) (c : Nat) (p : Nat) (u : Task), s.Awake ∧ c < 8 ∧ p < 4 ∧ (s.dev.readyOf c p).length < 64
    ∧ s.dev.num TASK.RESERVE + 16 < s.dev.storeFree c ∧ s.dev.ringOf c p = [u] ∧ u.state = 1 ∧ s.dev.wantsOf c p = [] :=
  ⟨(modOf fun d => d.setRing 0 0 [{ state := 1 }]), 0, 0, (let zz : Task := ({} : Task); { zz with state := 1 }),
    by (try simp only [State.On, State.Awake, State.Opens, State.Ready, Dev.quiet, Dev.acts, Clock.ok]) <;> decide +kernel⟩
theorem witness_TaskOperations_13 : ∃ (s : State) (c : Nat) (p : Nat) (n : Nat) (u : Task) (b : BadTask), s.Awake ∧ c < 8 ∧ p < 4 ∧
    (s.dev.readyOf c p).length < 64 ∧ s.dev.num TASK.RESERVE + 16 < s.dev.storeFree c ∧ s.dev.ringOf c p = [u] ∧ u.pos = some n ∧ b.pos = 0
    ∧ oneSymbol b.word = false ∧ s.dev.wantsOf c p = [] :=
  ⟨modOf fun d => d.setRing 0 0 [{ pos := some 0 }], 0, 0, 0, { pos := some 0 }, { pos := 0, word := { word := 0, sym0 := 0, sym1 := 1 } },
    by (try simp only [State.On, State.Awake, State.Opens, State.Ready, Dev.quiet, Dev.acts, Clock.ok]) <;> decide +kernel⟩
theorem witness_TaskOperations_14 : ∃ (s : State) (c : Nat) (p : Nat) (bad : List BadTask), s.Awake ∧ c < 8 ∧ p < 4 ∧ (s.dev.readyOf c
    p).length < 64 ∧ s.dev.num TASK.RESERVE + 16 < s.dev.storeFree c ∧ s.dev.wantsOf c p = [] :=
  ⟨mod0, 0, 0, [], by (try simp only [State.On, State.Awake, State.Opens, State.Ready, Dev.quiet, Dev.acts, Clock.ok]) <;> decide +kernel⟩
theorem witness_TaskOperations_15 : ∃ (s : State) (c : Nat) (p : Nat) (bad : List BadTask), s.Awake ∧ c < 8 ∧ p < 4 ∧
    (64 ≤ (s.dev.readyOf c p).length ∨ s.dev.storeFree c ≤ s.dev.num TASK.RESERVE + 16) :=
  ⟨(modOf fun d => d.setNum TASK.RESERVE 4096), 0, 0, [],
    by (try simp only [State.On, State.Awake, State.Opens, State.Ready, Dev.quiet, Dev.acts, Clock.ok]) <;> decide +kernel⟩
theorem witness_TaskOperations_16 : ∃ (s : State) (c : Nat) (i : Nat) (t : Task), s.Awake ∧ c < 8 ∧ i < 4096 ∧ s.dev.task c i = some t ∧
    s.dev.num TASK.STARVE ≠ 0 ∧ t.prio ≠ 0 ∧ i ∈ s.dev.readyOf c t.prio ∧ t.since + s.dev.num TASK.STARVE ≤ s.dev.upUs :=
  ⟨(modOf fun d => let d := d.setTask (0) (0) (some ({ prio := 1 })); let d := d.setNum TASK.STARVE (1); d.setReady 0 1 [0]), 0, 0, { prio := 1 },
    by (try simp only [State.On, State.Awake, State.Opens, State.Ready, Dev.quiet, Dev.acts, Clock.ok]) <;> decide +kernel⟩
theorem witness_TaskOperations_17 : ∃ (s : State) (c : Nat) (i : Nat) (t : Task), s.Awake ∧ c < 8 ∧ i < 4096 ∧ s.dev.task c i = some t ∧
    (s.dev.num TASK.STARVE = 0 ∨ t.prio = 0 ∨ i ∉ s.dev.readyOf c t.prio ∨ s.dev.upUs < t.since + s.dev.num TASK.STARVE) :=
  ⟨(modOf fun d => let d := d.setTask (0) (0) (some (({} : Task))); d.setNum TASK.STARVE (0)), 0, 0, ({} : Task),
    by (try simp only [State.On, State.Awake, State.Opens, State.Ready, Dev.quiet, Dev.acts, Clock.ok]) <;> decide +kernel⟩
theorem witness_TaskOperations_18 : ∃ (s : State) (c : Nat) (i : Nat) (t : Task), s.Awake ∧ c < 8 ∧ i < 4096 ∧ s.dev.task c i = some t ∧
    t.deadline ≤ s.dev.upUs :=
  ⟨(modOf fun d => d.setTask (0) (0) (some (({} : Task)))), 0, 0, ({} : Task),
    by (try simp only [State.On, State.Awake, State.Opens, State.Ready, Dev.quiet, Dev.acts, Clock.ok]) <;> decide +kernel⟩
theorem witness_TaskOperations_19 : ∃ (s : State) (c : Nat) (i : Nat) (t : Task), s.Awake ∧ c < 8 ∧ i < 4096 ∧ s.dev.task c i = some t ∧
    s.dev.upUs < t.deadline :=
  ⟨(modOf fun d => d.setTask (0) (0) (some ({ deadline := 10 ^ 15 }))), 0, 0, { deadline := 10 ^ 15 },
    by (try simp only [State.On, State.Awake, State.Opens, State.Ready, Dev.quiet, Dev.acts, Clock.ok]) <;> decide +kernel⟩
theorem witness_TaskOperations_20 : ∃ (s : State) (c : Nat) (i : Nat), s.Awake ∧ c < 8 ∧ i < 4096 ∧ s.dev.task c i = none :=
  ⟨mod0, 0, 0, by (try simp only [State.On, State.Awake, State.Opens, State.Ready, Dev.quiet, Dev.acts, Clock.ok]) <;> decide +kernel⟩
/-! ### SchedulingTrace -/

theorem witness_SchedulingTrace_0 : ∃ (s : State) (c : Nat) (e : List Byte) (r : List (List Byte)), s.Awake ∧ c < 8 ∧ s.dev.traceQ c = e :: r ∧
    e.length = 16 ∧ (s.dev.on TASK.TRACE_CFG_STOP c = false ∨
    (s.dev.num TASK.TRACE_WR c + 65536 - s.dev.num TASK.TRACE_RD c) % 65536 ≠ 2 ^ s.dev.fld TASK.TRACE_RING_SIZE c) :=
  ⟨(modOf fun d => let d := d.setTraceQ (0) (((List.replicate 16 0)) :: ([])); d.setFld TASK.TRACE_CFG_STOP 0 (0)), 0, (List.replicate 16 0), [],
    by (try simp only [State.On, State.Awake, State.Opens, State.Ready, Dev.quiet, Dev.acts, Clock.ok]) <;> decide +kernel⟩
theorem witness_SchedulingTrace_1 : ∃ (s : State) (c : Nat) (e : List Byte) (r : List (List Byte)), s.Awake ∧ c < 8 ∧ s.dev.traceQ c = e :: r ∧
    s.dev.on TASK.TRACE_CFG_STOP c = true ∧
    (s.dev.num TASK.TRACE_WR c + 65536 - s.dev.num TASK.TRACE_RD c) % 65536 = 2 ^ s.dev.fld TASK.TRACE_RING_SIZE c :=
  ⟨(modOf fun d => let d := d.setTraceQ (0) (([]) :: ([])); let d := d.setFld TASK.TRACE_CFG_STOP 1 (0);
    d.setNum TASK.TRACE_WR (2 ^ d.fld TASK.TRACE_RING_SIZE 0) 0), 0, [], [],
    by (try simp only [State.On, State.Awake, State.Opens, State.Ready, Dev.quiet, Dev.acts, Clock.ok]) <;> decide +kernel⟩
theorem witness_SchedulingTrace_2 : ∃ (s : State) (c : Nat), s.Awake ∧ c < 8 ∧ s.dev.traceQ c = [] :=
  ⟨(modOf fun d => d.setTraceQ (0) ([])), 0,
    by (try simp only [State.On, State.Awake, State.Opens, State.Ready, Dev.quiet, Dev.acts, Clock.ok]) <;> decide +kernel⟩
theorem witness_SchedulingTrace_3 : ∃ (s : State) (c : Nat), s.Opens 0x32 ∧ c < 8 ∧ s.dev.opState TASK.MIRROR_STAT c ≠ 1 :=
  ⟨(modOf fun d => d.setNum TASK.MIRROR_STAT (0) (0)), 0,
    by (try simp only [State.On, State.Awake, State.Opens, State.Ready, Dev.quiet, Dev.acts, Clock.ok]) <;> decide +kernel⟩
theorem witness_SchedulingTrace_4 : ∃ (s : State) (c : Nat), s.Opens 0x32 ∧ c < 8 ∧ s.dev.opState TASK.MIRROR_STAT c = 1 :=
  ⟨(modOf fun d => d.setNum TASK.MIRROR_STAT (1) (0)), 0,
    by (try simp only [State.On, State.Awake, State.Opens, State.Ready, Dev.quiet, Dev.acts, Clock.ok]) <;> decide +kernel⟩
theorem witness_SchedulingTrace_5 : ∃ (s : State) (c : Nat) (done : Nat) (n : Nat), s.Opens 0x32 ∧ c < 8 ∧ s.dev.opState TASK.MIRROR_STAT c = 1 ∧
    n = min done (s.dev.mirrorCount c - 1) :=
  ⟨(modOf fun d => d.setNum TASK.MIRROR_STAT (1) (0)), 0, 0, (min (0) ((modOf fun d => d.setNum TASK.MIRROR_STAT (1) (0)).dev.mirrorCount (0) - 1)),
    by (try simp only [State.On, State.Awake, State.Opens, State.Ready, Dev.quiet, Dev.acts, Clock.ok]) <;> decide +kernel⟩
theorem witness_SchedulingTrace_6 : ∃ (s : State) (c : Nat) (done : Nat) (n : Nat), s.Awake ∧ c < 8 ∧ s.dev.opState TASK.MIRROR_STAT c = 1 ∧
    n = min done (s.dev.mirrorCount c) :=
  ⟨(modOf fun d => d.setNum TASK.MIRROR_STAT (1) (0)), 0, 0, (min (0) ((modOf fun d => d.setNum TASK.MIRROR_STAT (1) (0)).dev.mirrorCount (0))),
    by (try simp only [State.On, State.Awake, State.Opens, State.Ready, Dev.quiet, Dev.acts, Clock.ok]) <;> decide +kernel⟩
theorem witness_SchedulingTrace_7 : ∃ (s : State) (c : Nat) (done : Nat) (ue : Guard), s.Awake ∧ c < 8 ∧ s.dev.opState TASK.MIRROR_STAT c ≠
    1 :=
  ⟨modOf fun d => d.setNum TASK.MIRROR_STAT 0 0, 0, 0, .clean,
    by (try simp only [State.On, State.Awake, State.Opens, State.Ready, Dev.quiet, Dev.acts, Clock.ok]) <;> decide +kernel⟩
/-! ### PatchesAndCounters -/

theorem witness_PatchesAndCounters_0 : ∃ (s : State) (slot : Nat) (w : Word), s.Opens 0x34 ∧ slot < 32 ∧ s.dev.otp.sealed = false :=
  ⟨(modOf fun d => { d with otp := { d.otp with sealed := false } }), 0, (0 : Word),
    by (try simp only [State.On, State.Awake, State.Opens, State.Ready, Dev.quiet, Dev.acts, Clock.ok]) <;> decide +kernel⟩
theorem witness_PatchesAndCounters_1 : ∃ (s : State) (w : Word), s.Opens 0x34 ∧ s.dev.otp.sealed = false :=
  ⟨(modOf fun d => { d with otp := { d.otp with sealed := false } }), (0 : Word),
    by (try simp only [State.On, State.Awake, State.Opens, State.Ready, Dev.quiet, Dev.acts, Clock.ok]) <;> decide +kernel⟩
theorem witness_PatchesAndCounters_2 : ∃ (s : State) (c : Instr) (slot : Nat) (path : Nat) (w : Word), (c = .patchSlotWrite slot w ∨
    c = .pramDataAccess path (some w)) ∧ s.Opens 0x34 ∧ s.dev.otp.sealed = true :=
  ⟨(modOf fun d => { d with otp := { d.otp with sealed := true } }), (.patchSlotWrite (0) ((0 : Word))), 0, 0, (0 : Word),
    by (try simp only [State.On, State.Awake, State.Opens, State.Ready, Dev.quiet, Dev.acts, Clock.ok]) <;> decide +kernel⟩
theorem witness_PatchesAndCounters_3 : ∃ (s : State) (path : Nat), s.Opens 0x34 :=
  ⟨mod0, 0, by (try simp only [State.On, State.Awake, State.Opens, State.Ready, Dev.quiet, Dev.acts, Clock.ok]) <;> decide +kernel⟩
theorem witness_PatchesAndCounters_4 : ∃ (s : State) (path : Nat) (i : Nat) (v : Nat), s.Opens 0x34 ∧ path < 2 ∧ i = s.dev.num CSTO.CS_IDX % 2 ^ 14 ∧
    v = (if s.dev.on CSTO.CS_IDX_SPACE then s.dev.eng.nano.get 0 i else s.dev.eng.micro.get 0 i) :=
  ⟨mod0, 0, (mod0.dev.num CSTO.CS_IDX % 2 ^ 14),
    ((if mod0.dev.on CSTO.CS_IDX_SPACE then mod0.dev.eng.nano.get 0 ((mod0.dev.num CSTO.CS_IDX % 2 ^ 14)) else mod0.dev.eng.micro.get 0 ((mod0.dev.num CSTO.CS_IDX % 2 ^ 14)))),
    by (try simp only [State.On, State.Awake, State.Opens, State.Ready, Dev.quiet, Dev.acts, Clock.ok]) <;> decide +kernel⟩
theorem witness_PatchesAndCounters_5 : ∃ (s : State) (c : Nat), s.Opens 0x31 ∧ c < 8 :=
  ⟨mod0, 0, by (try simp only [State.On, State.Awake, State.Opens, State.Ready, Dev.quiet, Dev.acts, Clock.ok]) <;> decide +kernel⟩
/-! ### ScratchpadServices -/

theorem witness_ScratchpadServices_0 : ∃ (s : State) (c : Nat) (dir : Bool), s.Opens 0x33 ∧ c < 8 ∧ s.dev.opState SPAD.DMA_STAT c ≠ 1 :=
  ⟨(modOf fun d => d.setNum SPAD.DMA_STAT (0) (0)), 0, false,
    by (try simp only [State.On, State.Awake, State.Opens, State.Ready, Dev.quiet, Dev.acts, Clock.ok]) <;> decide +kernel⟩
theorem witness_ScratchpadServices_1 : ∃ (s : State) (c : Nat) (dir : Bool), s.Opens 0x33 ∧ c < 8 ∧ s.dev.opState SPAD.DMA_STAT c = 1 :=
  ⟨(modOf fun d => d.setNum SPAD.DMA_STAT (1) (0)), 0, false,
    by (try simp only [State.On, State.Awake, State.Opens, State.Ready, Dev.quiet, Dev.acts, Clock.ok]) <;> decide +kernel⟩
theorem witness_ScratchpadServices_2 : ∃ (s : State) (c : Nat) (done : Nat) (n : Nat), s.Opens 0x33 ∧ c < 8 ∧ s.dev.opState SPAD.DMA_STAT
    c = 1 ∧ n = (if s.dev.eng.still.contains c then 0 else min done (s.dev.spadWords c - 1)) :=
  ⟨(modOf fun d => let d := d.setNum (CTRL 0x33) 1; d.setNum SPAD.DMA_STAT (1) (0)), 0, 0, (min (0) ((modOf fun d => let d := d.setNum (CTRL 0x33) 1;
    d.setNum SPAD.DMA_STAT (1) (0)).dev.spadWords (0) - 1)),
    by (try simp only [State.On, State.Awake, State.Opens, State.Ready, Dev.quiet, Dev.acts, Clock.ok]) <;> decide +kernel⟩
theorem witness_ScratchpadServices_3 : ∃ (s : State) (c : Nat) (done : Nat), s.Awake ∧ c < 8 ∧ s.dev.enabled 0x33 = true ∧
    s.dev.opState SPAD.DMA_STAT c = 1 ∧ s.dev.on SPAD.DMA_CTRL_DIR c = true ∧ s.dev.spadWords c ≤ done :=
  ⟨(modOf fun d => let d := d.setNum (CTRL 0x33) 1; let d := d.setNum SPAD.DMA_STAT (1) (0); d.setFld SPAD.DMA_CTRL_DIR 1 (0)), 0, 100000000,
    by (try simp only [State.On, State.Awake, State.Opens, State.Ready, Dev.quiet, Dev.acts, Clock.ok]) <;> decide +kernel⟩
theorem witness_ScratchpadServices_4 : ∃ (s : State) (c : Nat) (done : Nat), s.Awake ∧ c < 8 ∧ s.dev.enabled 0x33 = true ∧
    s.dev.opState SPAD.DMA_STAT c = 1 ∧ s.dev.on SPAD.DMA_CTRL_DIR c = false ∧ s.dev.spadWords c ≤ done ∧ 32 * s.dev.spadWords c ≤ 2 ^ 20 :=
  ⟨(modOf fun d => let d := d.setNum (CTRL 0x33) 1; let d := d.setNum SPAD.DMA_STAT (1) (0); d.setFld SPAD.DMA_CTRL_DIR 0 (0)), 0, 100000000,
    by (try simp only [State.On, State.Awake, State.Opens, State.Ready, Dev.quiet, Dev.acts, Clock.ok]) <;> decide +kernel⟩
theorem witness_ScratchpadServices_5 : ∃ (s : State) (c : Nat) (done : Nat), s.Awake ∧ c < 8 ∧ s.dev.enabled 0x33 = true ∧
    s.dev.opState SPAD.DMA_STAT c = 1 ∧ done < s.dev.spadWords c :=
  ⟨(modOf fun d => let d := d.setNum (CTRL 0x33) 1; d.setNum SPAD.DMA_STAT (1) (0)), 0, 0,
    by (try simp only [State.On, State.Awake, State.Opens, State.Ready, Dev.quiet, Dev.acts, Clock.ok]) <;> decide +kernel⟩
theorem witness_ScratchpadServices_6 : ∃ (s : State) (c : Nat) (done : Nat) (ue : Guard), s.Awake ∧ c < 8 ∧ (s.dev.opState SPAD.DMA_STAT c
    ≠ 1 ∨ s.dev.enabled 0x33 = false) :=
  ⟨modOf fun d => d.setNum SPAD.DMA_STAT 0 0, 0, 0, .clean,
    by (try simp only [State.On, State.Awake, State.Opens, State.Ready, Dev.quiet, Dev.acts, Clock.ok]) <;> decide +kernel⟩
theorem witness_ScratchpadServices_7 : ∃ (s : State) (t : Nat) (mode : Nat), s.Opens 0x70 ∧ t < 9 ∧ mode < 3 ∧ s.dev.opState MARC.MARCH_STAT t ≠ 1 ∧
    s.dev.marchAllowed t mode = true :=
  ⟨(modOf fun d => d.setNum MARC.MARCH_STAT (0) (0)), 0, 0,
    by (try simp only [State.On, State.Awake, State.Opens, State.Ready, Dev.quiet, Dev.acts, Clock.ok]) <;> decide +kernel⟩
theorem witness_ScratchpadServices_8 : ∃ (s : State) (t : Nat) (mode : Nat), s.Opens 0x70 ∧ t < 9 ∧ mode < 3 ∧ s.dev.marchAllowed t mode
    = false :=
  ⟨(modOf fun d => d.setNum MARC.MARCH_STAT (0) (8)), 8, 0,
    by (try simp only [State.On, State.Awake, State.Opens, State.Ready, Dev.quiet, Dev.acts, Clock.ok]) <;> decide +kernel⟩
theorem witness_ScratchpadServices_9 : ∃ (s : State) (t : Nat) (mode : Nat), s.Opens 0x70 ∧ t < 9 ∧ mode < 4 ∧ (mode = 3 ∨
    (s.dev.marchAllowed t mode = true ∧ s.dev.opState MARC.MARCH_STAT t = 1)) :=
  ⟨mod0, 0, (3), by (try simp only [State.On, State.Awake, State.Opens, State.Ready, Dev.quiet, Dev.acts, Clock.ok]) <;> decide +kernel⟩
theorem witness_ScratchpadServices_10 : ∃ (s : State), s.Awake ∧ s.dev.enabled 0x70 = true ∧ s.dev.fld MARC.AUTO_INTERVAL ≠ 0 ∧
    s.dev.eng.marchS + s.dev.fld MARC.AUTO_INTERVAL ≤ s.dev.upMs / 1000 :=
  ⟨(modOf fun d => let d := d.setNum (CTRL 0x70) 1; d.setFld MARC.AUTO_INTERVAL (1)),
    by (try simp only [State.On, State.Awake, State.Opens, State.Ready, Dev.quiet, Dev.acts, Clock.ok]) <;> decide +kernel⟩
theorem witness_ScratchpadServices_11 : ∃ (s : State), s.Awake ∧ (s.dev.enabled 0x70 = false ∨ s.dev.fld MARC.AUTO_INTERVAL = 0 ∨
    s.dev.upMs / 1000 < s.dev.eng.marchS + s.dev.fld MARC.AUTO_INTERVAL) :=
  ⟨(modOf fun d => d.setNum (CTRL 0x70) 0),
    by (try simp only [State.On, State.Awake, State.Opens, State.Ready, Dev.quiet, Dev.acts, Clock.ok]) <;> decide +kernel⟩
theorem witness_ScratchpadServices_12 : ∃ (s : State) (t : Nat) (done : Nat) (fails : List Nat), s.Opens 0x70 ∧ t < 9 ∧
    s.dev.opState MARC.MARCH_STAT t = 1 :=
  ⟨(modOf fun d => d.setNum MARC.MARCH_STAT (1) (0)), 0, 0, [],
    by (try simp only [State.On, State.Awake, State.Opens, State.Ready, Dev.quiet, Dev.acts, Clock.ok]) <;> decide +kernel⟩
theorem witness_ScratchpadServices_13 : ∃ (s : State) (t : Nat) (fails : List Nat), s.Awake ∧ t < 9 ∧ s.dev.opState MARC.MARCH_STAT t = 1 :=
  ⟨(modOf fun d => d.setNum MARC.MARCH_STAT (1) (0)), 0, [],
    by (try simp only [State.On, State.Awake, State.Opens, State.Ready, Dev.quiet, Dev.acts, Clock.ok]) <;> decide +kernel⟩
theorem witness_ScratchpadServices_14 : ∃ (s : State) (t : Nat) (fails : List Nat), s.Awake ∧ t < 9 ∧ s.dev.opState MARC.MARCH_STAT t ≠ 1 :=
  ⟨(modOf fun d => d.setNum MARC.MARCH_STAT (0) (0)), 0, [],
    by (try simp only [State.On, State.Awake, State.Opens, State.Ready, Dev.quiet, Dev.acts, Clock.ok]) <;> decide +kernel⟩
theorem witness_ScratchpadServices_15 : ∃ (s : State) (c : Nat) (n : Nat) (pick : List Nat), s.Awake ∧ c < 8 ∧ (s.dev.exportQ c).recs ≠
    [] ∧ s.dev.exportEn c = true ∧ n = ipfixFit 256 (s.dev.exportDesc c 62 1) (s.dev.exportDesc c 64 2) 0 (s.dev.exportQ c).recs ∧ (n <
    (s.dev.exportQ c).recs.length ∨ (s.dev.exportQ c).times.headD 0 + s.dev.exportDesc c 68 2 * 10000 ≤ s.dev.clk.up) ∧ (s.dev.madeFrame
    (34 + c) (s.dev.exportDesc c 66 1) (s.dev.exportDesc c 67 1) (s.dev.exportFrame c n) pick id).isSome = true :=
  ⟨(modOf fun d => let d := d.setExportQ 0 { recs := [(1, List.replicate 64 0)] }; let d := { d with eng := { d.eng with spad := [(0x28340 + 63,
    1)] } }; let d := d.setNum BUFM.FREE0 1000; let d := d.setNum BUFM.FREE1 1000; d.setNum BUFM.DESC_FREE 1000), 0,
    (ipfixFit 256 ((modOf fun d => let d := d.setExportQ 0 { recs := [(1, List.replicate 64 0)] }; let d := { d with eng := { d.eng with spad :=
    [(0x28340 + 63, 1)] } }; let d := d.setNum BUFM.FREE0 1000; let d := d.setNum BUFM.FREE1 1000;
    d.setNum BUFM.DESC_FREE 1000).dev.exportDesc (0) 62 1) ((modOf fun d => let d := d.setExportQ 0 { recs := [(1, List.replicate 64 0)] }; let d :=
    { d with eng := { d.eng with spad := [(0x28340 + 63, 1)] } }; let d := d.setNum BUFM.FREE0 1000; let d := d.setNum BUFM.FREE1 1000;
    d.setNum BUFM.DESC_FREE 1000).dev.exportDesc (0) 64 2) 0 ((modOf fun d => let d := d.setExportQ 0 { recs := [(1, List.replicate 64 0)] };
    let d := { d with eng := { d.eng with spad := [(0x28340 + 63, 1)] } }; let d := d.setNum BUFM.FREE0 1000; let d := d.setNum BUFM.FREE1 1000;
    d.setNum BUFM.DESC_FREE 1000).dev.exportQ (0)).recs), [],
    by (try simp only [State.On, State.Awake, State.Opens, State.Ready, Dev.quiet, Dev.acts, Clock.ok]) <;> decide +kernel⟩
theorem witness_ScratchpadServices_16 : ∃ (s : State) (c : Nat) (pick : List Nat), s.Awake ∧ c < 8 ∧ ((s.dev.exportQ c).recs = [] ∨
    s.dev.exportEn c = false) :=
  ⟨mod0, 0, [], by (try simp only [State.On, State.Awake, State.Opens, State.Ready, Dev.quiet, Dev.acts, Clock.ok]) <;> decide +kernel⟩

end Sys2Proof.Tests
end

