-- ==== Sys2Proof/Tests/Witness5.lean ====
section
/-! SUPPORT. For each clause of CipherLockAndCalls, CipherKeysAndRuns, CheckValues, AuditHoldsAndEgress,
QueuesAndShapers: a state and operands that meet its hypotheses together. -/

namespace Sys2Proof.Tests

/- In order, one after another: a check that the kernel evaluates waits for everything before it, and hundreds that wait
at once would each hold a thread. -/
set_option Elab.async false
set_option linter.unusedSimpArgs false
set_option linter.unusedVariables false
set_option linter.unnecessarySeqFocus false

open Sys2Proof Sys2Proof.Machine

/-! ### CipherLockAndCalls -/

theorem witness_CipherLockAndCalls_0 : ∃ (s : State) (frond : Nat) (thread : Nat) (i : Nat) (k : Nat) (t : Task), s.Awake ∧ k = thrKey
    frond thread ∧ s.dev.acts k 3 3 i t :=
  ⟨(modOf fun d => wTask d ((thrKey (0) (0))) (0) (({} : Task))), 0, 0, 0, (thrKey (0) (0)), ({} : Task),
    by (try simp only [State.On, State.Awake, State.Opens, State.Ready, Dev.quiet, Dev.acts, Clock.ok]) <;> decide +kernel⟩
theorem witness_CipherLockAndCalls_2 : ∃ (s : State) (c : Instr) (frond : Nat) (thread : Nat) (slot : Nat) (op : Nat) (src : Nat) (dst :
    Nat) (i : Nat) (k : Nat) (t : Task) (once : Bool) (call : BlockCall), s.Awake ∧ ((c = .enc frond thread slot once src dst ∧ op = 0) ∨
    (c = .dec frond thread slot once src dst ∧ op = 1)) ∧ k = thrKey frond thread ∧ s.dev.acts k 3 3 i t ∧ s.dev.enabled 0x38 = true ∧ call
    = { thread := k % 256, id := t.id i, slot := slot % 32, op := op, once := once, block := leBytes 16 ((s.dev.thread k).rv src), dst :=
    dst % 4 } ∧ s.dev.unitFull (frond % 8) = true :=
  ⟨modOf fun d => let d := wTask d (thrKey 0 0) 0 {}; let d := d.setNum (CTRL 0x38) 1; d.setCipher 0
    { d.cipher 0 with queue := List.replicate 33 { thread := 0, id := 0, slot := 0, op := 0, once := false, block := [], dst := 0 } }, .enc
    0 0 0 false 0 0, 0, 0, 0, 0, 0, 0, 0, thrKey 0 0, {}, false,
    { thread := 0, id := (({} : Task)).id 0, slot := 0, op := 0, once := false, block := leBytes 16 0, dst := 0 },
    by (try simp only [State.On, State.Awake, State.Opens, State.Ready, Dev.quiet, Dev.acts, Clock.ok]) <;> decide +kernel⟩
theorem witness_CipherLockAndCalls_3 : ∃ (s : State) (frond : Nat) (thread : Nat) (slot : Nat) (dst : Nat) (i : Nat) (k : Nat) (t :
    Task), s.Awake ∧ k = thrKey frond thread ∧ s.dev.acts k 3 3 i t ∧ s.dev.enabled 0x38 = true ∧ (s.dev.cipher (frond % 8)).holder = some
    (.task (k % 256) (t.id i)) ∧ s.dev.unitFull (frond % 8) = false ∧ (s.dev.cipher (frond % 8)).arrivals = [] ∧ s.dev.unitIdle (frond % 8)
    = false :=
  ⟨modOf fun d => let d := wTask d (thrKey 0 0) 0 {}; let d := d.setNum (CTRL 0x38) 1; d.setCipher 0
    { d.cipher 0 with holder := some (.task 0 ((({} : Task)).id 0)), queue := [{ thread := 0, id := 0, slot := 0, op := 0, once := false, block := [], dst := 0 }] },
    0, 0, 0, 0, 0, thrKey 0 0, {},
    by (try simp only [State.On, State.Awake, State.Opens, State.Ready, Dev.quiet, Dev.acts, Clock.ok]) <;> decide +kernel⟩
theorem witness_CipherLockAndCalls_6 : ∃ (s : State) (frond : Nat) (thread : Nat) (i : Nat) (k : Nat) (t : Task), s.Awake ∧ k = thrKey
    frond thread ∧ s.dev.acts k 3 3 i t ∧ s.dev.enabled 0x38 = true :=
  ⟨(modOf fun d => let d := wTask d ((thrKey (0) (0))) (0) (({} : Task)); d.setNum (CTRL 0x38) 1), 0, 0, 0, (thrKey (0) (0)), ({} : Task),
    by (try simp only [State.On, State.Awake, State.Opens, State.Ready, Dev.quiet, Dev.acts, Clock.ok]) <;> decide +kernel⟩
theorem witness_CipherLockAndCalls_7 : ∃ (s : State) (c : Instr) (frond : Nat) (thread : Nat) (n : Nat) (m : Nat) (p : Nat) (b : Bool) (g
    : Guard), (c = .lock frond thread ∨ c = .enc frond thread n b m p ∨ c = .dec frond thread n b m p ∨ c = .nonce frond thread n b m g ∨ c
    = .free frond thread) ∧ s.Awake ∧ (s.dev.running (thrKey frond thread) = none ∨ s.dev.mayIssue (thrKey frond thread) = false ∨
    s.dev.groupFree (thrKey frond thread) 3 = false) :=
  ⟨mod0, .lock 0 0, 0, 0, 0, 0, 0, false, .clean,
    by (try simp only [State.On, State.Awake, State.Opens, State.Ready, Dev.quiet, Dev.acts, Clock.ok]) <;> decide +kernel⟩
theorem witness_CipherLockAndCalls_8 : ∃ (s : State) (c : Nat) (w : LockReq) (r : List LockReq), s.Awake ∧ c < 8 ∧ (s.dev.cipher
    c).holder = none ∧ (s.dev.cipher c).waiters = w :: r ∧ w.call = none ∧ (s.dev.cipher c).arrivals = [] :=
  ⟨(modOf fun d => let d := d.setCipher (0) { (d.cipher (0)) with holder := none }; d.setCipher (0) { (d.cipher (0)) with waiters :=
    ((let zz : LockReq := ({ user := .path 0, call := none, since := 0 } : LockReq); { zz with call := none })) :: ([]) }), 0, (let zz : LockReq :=
    ({ user := .path 0, call := none, since := 0 } : LockReq); { zz with call := none }), [],
    by (try simp only [State.On, State.Awake, State.Opens, State.Ready, Dev.quiet, Dev.acts, Clock.ok]) <;> decide +kernel⟩
theorem witness_CipherLockAndCalls_9 : ∃ (s : State) (c : Nat) (w : LockReq) (r : List LockReq) (call : BlockCall), s.Awake ∧ c < 8 ∧
    (s.dev.cipher c).holder = none ∧ (s.dev.cipher c).waiters = w :: r ∧ w.call = some call ∧ call.op ≠ 2 ∧ (s.dev.cipher c).arrivals = []
    :=
  ⟨(modOf fun d => let d := d.setCipher (0) { (d.cipher (0)) with holder := none };
    d.setCipher (0) { (d.cipher (0)) with waiters := ((let zz : LockReq := ({ user := .path 0, call := none, since := 0 } : LockReq);
    { zz with call := some (({ thread := 0, id := 0, slot := 0, op := 0, once := false, block := [], dst := 0 } : BlockCall)) })) :: ([]) }), 0,
    (let zz : LockReq := ({ user := .path 0, call := none, since := 0 } : LockReq);
    { zz with call := some (({ thread := 0, id := 0, slot := 0, op := 0, once := false, block := [], dst := 0 } : BlockCall)) }), [],
    ({ thread := 0, id := 0, slot := 0, op := 0, once := false, block := [], dst := 0 } : BlockCall),
    by (try simp only [State.On, State.Awake, State.Opens, State.Ready, Dev.quiet, Dev.acts, Clock.ok]) <;> decide +kernel⟩
theorem witness_CipherLockAndCalls_10 : ∃ (s : State) (c : Nat) (w : LockReq) (r : List LockReq) (call : BlockCall), s.Awake ∧ c < 8 ∧
    (s.dev.cipher c).holder = none ∧ (s.dev.cipher c).waiters = w :: r ∧ w.call = some call ∧ call.op = 2 ∧ call.once = true ∧ w.user =
    .task call.thread call.id ∧ call.key = .clean ∧ s.dev.unitIdle c = true ∧ (s.dev.cipher c).arrivals = [] :=
  ⟨modOf fun d => d.setCipher 0
    { d.cipher 0 with waiters := [{ user := .task 0 0, call := some { thread := 0, id := 0, slot := 0, op := 2, once := true, block := [], dst := 0 }, since := 0 }] },
    0, { user := .task 0 0, call := some { thread := 0, id := 0, slot := 0, op := 2, once := true, block := [], dst := 0 }, since := 0 },
    [], { thread := 0, id := 0, slot := 0, op := 2, once := true, block := [], dst := 0 },
    by (try simp only [State.On, State.Awake, State.Opens, State.Ready, Dev.quiet, Dev.acts, Clock.ok]) <;> decide +kernel⟩
theorem witness_CipherLockAndCalls_11 : ∃ (s : State) (c : Nat), s.Awake ∧ c < 8 ∧ ((s.dev.cipher c).holder.isSome = true ∨ (s.dev.cipher
    c).waiters = []) ∧ (s.dev.cipher c).arrivals = [] :=
  ⟨mod0, 0, by (try simp only [State.On, State.Awake, State.Opens, State.Ready, Dev.quiet, Dev.acts, Clock.ok]) <;> decide +kernel⟩
theorem witness_CipherLockAndCalls_12 : ∃ (s : State) (c : Nat) (w : LockReq) (r : List LockReq), s.Awake ∧ c < 8 ∧ (s.dev.cipher
    c).waiters = w :: r ∧ s.dev.num CIPH.LOCK_WAIT_MAX ≠ 0 ∧ s.dev.num CIPH.LOCK_WAIT_MAX ≤ s.dev.cyclesSince c w.since ∧ (s.dev.cipher
    c).arrivals = [] :=
  ⟨(modOf fun d => let d := d.setCipher (0) { (d.cipher (0)) with waiters := (({ user := .path 0, call := none, since := 0 } : LockReq)) :: ([]) };
    d.setNum CIPH.LOCK_WAIT_MAX (1)), 0, ({ user := .path 0, call := none, since := 0 } : LockReq), [],
    by (try simp only [State.On, State.Awake, State.Opens, State.Ready, Dev.quiet, Dev.acts, Clock.ok]) <;> decide +kernel⟩
theorem witness_CipherLockAndCalls_13 : ∃ (s : State) (c : Nat), s.Awake ∧ c < 8 ∧ ((s.dev.cipher c).waiters = [] ∨
    s.dev.num CIPH.LOCK_WAIT_MAX = 0) :=
  ⟨(modOf fun d => d.setCipher (0) { (d.cipher (0)) with waiters := [] }), 0,
    by (try simp only [State.On, State.Awake, State.Opens, State.Ready, Dev.quiet, Dev.acts, Clock.ok]) <;> decide +kernel⟩
theorem witness_CipherLockAndCalls_14 : ∃ (s : State) (c : Nat), s.Awake ∧ c < 8 ∧ s.dev.holderBusy c = false ∧ ((∃ th id,
    (s.dev.cipher c).holder = some (.task th id) ∧ s.dev.fld CIPH.LOCK_TO_ENG ≤ s.dev.cyclesSince c (s.dev.cipher c).active) ∨ (∃ p,
    (s.dev.cipher c).holder = some (.path p) ∧ s.dev.fld CIPH.LOCK_TO_HOST * 10000 ≤ s.dev.clk.up - (s.dev.cipher c).active)) :=
  ⟨modOf fun d => d.setCipher 0 { d.cipher 0 with holder := some (.path 0) }, 0, by (try simp only [State.Awake, State.On]) <;> decide +kernel,
    by decide, by decide +kernel, .inr ⟨0, by decide +kernel, by decide +kernel⟩⟩
theorem witness_CipherLockAndCalls_15 : ∃ (s : State) (c : Nat), s.Awake ∧ c < 8 ∧ ((s.dev.cipher c).holder = none ∨ s.dev.holderBusy c = true) :=
  ⟨(modOf fun d => d.setCipher (0) { (d.cipher (0)) with holder := none }), 0,
    by (try simp only [State.On, State.Awake, State.Opens, State.Ready, Dev.quiet, Dev.acts, Clock.ok]) <;> decide +kernel⟩
theorem witness_CipherLockAndCalls_16 : ∃ (s : State) (c : Nat) (path : Nat), s.Opens 0x38 ∧ c < 8 ∧ path < 2 ∧ s.dev.enabled 0x38 = true ∧
    (s.dev.cipher c).holder ≠ some (.path path) ∧ (∀ w ∈ (s.dev.cipher c).waiters, w.user ≠ .path path) :=
  ⟨(modOf fun d => d.setNum (CTRL 0x38) 1), 0, 0,
    by (try simp only [State.On, State.Awake, State.Opens, State.Ready, Dev.quiet, Dev.acts, Clock.ok]) <;> decide +kernel⟩
theorem witness_CipherLockAndCalls_17 : ∃ (s : State) (c : Nat) (path : Nat), s.Opens 0x38 ∧ c < 8 ∧ path < 2 ∧ (s.dev.enabled 0x38 = false ∨
    (s.dev.cipher c).holder = some (.path path)) :=
  ⟨(modOf fun d => d.setNum (CTRL 0x38) 0), 0, 0,
    by (try simp only [State.On, State.Awake, State.Opens, State.Ready, Dev.quiet, Dev.acts, Clock.ok]) <;> decide +kernel⟩
theorem witness_CipherLockAndCalls_18 : ∃ (s : State) (c : Nat) (path : Nat), s.Opens 0x38 ∧ c < 8 ∧ path < 2 ∧
    (s.dev.cipher c).holder = some (.path path) :=
  ⟨(modOf fun d => d.setCipher (0) { (d.cipher (0)) with holder := some (.path (0)) }), 0, 0,
    by (try simp only [State.On, State.Awake, State.Opens, State.Ready, Dev.quiet, Dev.acts, Clock.ok]) <;> decide +kernel⟩
theorem witness_CipherLockAndCalls_19 : ∃ (s : State) (c : Nat) (path : Nat), s.Opens 0x38 ∧ c < 8 ∧ path < 2 ∧
    (s.dev.cipher c).holder ≠ some (.path path) :=
  ⟨mod0, 0, 0, by (try simp only [State.On, State.Awake, State.Opens, State.Ready, Dev.quiet, Dev.acts, Clock.ok]) <;> decide +kernel⟩
theorem witness_CipherLockAndCalls_1 : ∃ (s : State) (c : Instr) (frond : Nat) (thread : Nat) (slot : Nat) (op : Nat) (src : Nat) (dst :
    Nat) (i : Nat) (k : Nat) (t : Task) (once : Bool) (call : BlockCall), s.Awake ∧ ((c = .enc frond thread slot once src dst ∧ op = 0) ∨
    (c = .dec frond thread slot once src dst ∧ op = 1)) ∧ k = thrKey frond thread ∧ s.dev.acts k 3 3 i t ∧ s.dev.enabled 0x38 = true ∧ call
    = { thread := k % 256, id := t.id i, slot := slot % 32, op := op, once := once, block := leBytes 16 ((s.dev.thread k).rv src), dst :=
    dst % 4 } ∧ s.dev.unitFull (frond % 8) = false ∧ (s.dev.cipher (frond % 8)).arrivals = [] :=
  ⟨modOf fun d => let d := wTask d (thrKey 0 0) 0 {}; let d := d.setNum (CTRL 0x38) 1; d, .enc 0 0 0 false 0 0, 0, 0, 0, 0, 0, 0, 0, thrKey
    0 0, {}, false, { thread := 0, id := (({} : Task)).id 0, slot := 0, op := 0, once := false, block := leBytes 16 0, dst := 0 },
    by (try simp only [State.On, State.Awake, State.Opens, State.Ready, Dev.quiet, Dev.acts, Clock.ok]) <;> decide +kernel⟩
theorem witness_CipherLockAndCalls_4 : ∃ (s : State) (frond : Nat) (thread : Nat) (slot : Nat) (dst : Nat) (i : Nat) (k : Nat) (t :
    Task), s.Awake ∧ k = thrKey frond thread ∧ s.dev.acts k 3 3 i t ∧ s.dev.enabled 0x38 = true ∧ (s.dev.cipher (frond % 8)).holder = some
    (.task (k % 256) (t.id i)) ∧ s.dev.unitFull (frond % 8) = false ∧ (s.dev.cipher (frond % 8)).arrivals = [] ∧ s.dev.unitIdle (frond % 8)
    = true ∧ slot < 32 ∧ (s.dev.keySlot (frond % 8) slot).cmd = none :=
  ⟨modOf fun d => let d := wTask d (thrKey 0 0) 0 {}; let d := d.setNum (CTRL 0x38) 1; d.setCipher 0
    { d.cipher 0 with holder := some (.task 0 ((({} : Task)).id 0)) }, 0, 0, 0, 0, 0, thrKey 0 0, {},
    by (try simp only [State.On, State.Awake, State.Opens, State.Ready, Dev.quiet, Dev.acts, Clock.ok]) <;> decide +kernel⟩
theorem witness_CipherLockAndCalls_5 : ∃ (s : State) (frond : Nat) (thread : Nat) (slot : Nat) (dst : Nat) (i : Nat) (k : Nat) (t : Task)
    (x : KeySlot), s.Awake ∧ k = thrKey frond thread ∧ s.dev.acts k 3 3 i t ∧ s.dev.enabled 0x38 = true ∧ (s.dev.cipher (frond % 8)).holder
    = some (.task (k % 256) (t.id i)) ∧ x = s.dev.keySlot (frond % 8) slot ∧ slot < 32 ∧ x.cmd = none ∧ s.dev.unitFull (frond % 8) = false
    ∧ (s.dev.cipher (frond % 8)).arrivals = [] ∧ s.dev.unitIdle (frond % 8) = true :=
  ⟨modOf fun d => let d := wTask d (thrKey 0 0) 0 {}; let d := d.setNum (CTRL 0x38) 1; d.setCipher 0
    { d.cipher 0 with holder := some (.task 0 ((({} : Task)).id 0)) }, 0, 0, 0, 0, 0, thrKey 0 0, {}, {},
    by (try simp only [State.On, State.Awake, State.Opens, State.Ready, Dev.quiet, Dev.acts, Clock.ok]) <;> decide +kernel⟩
/-! ### CipherKeysAndRuns -/

theorem witness_CipherKeysAndRuns_0 : ∃ (s : State) (c : Nat) (path : Nat) (n : Nat) (size : Bool), s.Opens 0x38 ∧ c < 8 ∧ path < 2 ∧
    n = s.dev.num CIPH.KEY_SLOT c % 32 ∧ (s.dev.keySlot c n).cmd = none ∧ s.dev.on TOP.BOOT_STATUS_RNG_FAIL = false :=
  ⟨(modOf fun d => let d := d.setKeySlot (0) ((d.num CIPH.KEY_SLOT (0) % 32)) { (d.keySlot (0) ((d.num CIPH.KEY_SLOT (0) % 32))) with cmd := none };
    d.setFld TOP.BOOT_STATUS_RNG_FAIL 0), 0, 0,
    ((modOf fun d => let d := d.setKeySlot (0) ((d.num CIPH.KEY_SLOT (0) % 32)) { (d.keySlot (0) ((d.num CIPH.KEY_SLOT (0) % 32))) with cmd := none };
    d.setFld TOP.BOOT_STATUS_RNG_FAIL 0).dev.num CIPH.KEY_SLOT (0) % 32), false,
    by (try simp only [State.On, State.Awake, State.Opens, State.Ready, Dev.quiet, Dev.acts, Clock.ok]) <;> decide +kernel⟩
theorem witness_CipherKeysAndRuns_1 : ∃ (s : State) (c : Nat) (path : Nat) (n : Nat), s.Opens 0x38 ∧ c < 8 ∧ path < 2 ∧
    n = s.dev.num CIPH.KEY_SLOT c % 32 ∧ (s.dev.keySlot c n).cmd = none :=
  ⟨(modOf fun d => d.setKeySlot (0) ((d.num CIPH.KEY_SLOT (0) % 32)) { (d.keySlot (0) ((d.num CIPH.KEY_SLOT (0) % 32))) with cmd := none }), 0, 0,
    ((modOf fun d => d.setKeySlot (0) ((d.num CIPH.KEY_SLOT (0) % 32)) { (d.keySlot (0) ((d.num CIPH.KEY_SLOT (0) % 32))) with cmd :=
    none }).dev.num CIPH.KEY_SLOT (0) % 32),
    by (try simp only [State.On, State.Awake, State.Opens, State.Ready, Dev.quiet, Dev.acts, Clock.ok]) <;> decide +kernel⟩
theorem witness_CipherKeysAndRuns_2 : ∃ (s : State) (i : Instr) (c : Nat) (path : Nat) (size : Bool), s.Opens 0x38 ∧ c < 8 ∧
    ((i = .keyLoad c path size ∧ ((s.dev.keySlot c (s.dev.num CIPH.KEY_SLOT c % 32)).cmd.isSome = true ∨ s.dev.on TOP.BOOT_STATUS_RNG_FAIL = true)) ∨
    (i = .keyErase c path ∧ (s.dev.keySlot c (s.dev.num CIPH.KEY_SLOT c % 32)).cmd.isSome = true)) :=
  ⟨(modOf fun d => d.setFld TOP.BOOT_STATUS_RNG_FAIL 1), (.keyLoad (0) (0) (false)), 0, 0, false,
    by (try simp only [State.On, State.Awake, State.Opens, State.Ready, Dev.quiet, Dev.acts, Clock.ok]) <;> decide +kernel⟩
theorem witness_CipherKeysAndRuns_3 : ∃ (s : State) (c : Nat) (n : Nat) (p : KeyCmd), s.Awake ∧ c < 8 ∧ n < 32 ∧ (s.dev.keySlot c n).cmd = some p ∧
    p.after_ ≤ (s.dev.cipher c).done :=
  ⟨(modOf fun d => d.setKeySlot (0) (0) { (d.keySlot (0) (0)) with cmd := some (({ load := none, after_ := 0 } : KeyCmd)) }), 0, 0,
    ({ load := none, after_ := 0 } : KeyCmd),
    by (try simp only [State.On, State.Awake, State.Opens, State.Ready, Dev.quiet, Dev.acts, Clock.ok]) <;> decide +kernel⟩
theorem witness_CipherKeysAndRuns_4 : ∃ (s : State) (c : Nat) (n : Nat), s.Awake ∧ c < 8 ∧ n < 32 ∧ (∀ p,
    (s.dev.keySlot c n).cmd = some p → (s.dev.cipher c).done < p.after_) :=
  ⟨mod0, 0, 0, by (try simp only [State.On, State.Awake, State.Opens, State.Ready, Dev.quiet, Dev.acts, Clock.ok]) <;> decide +kernel⟩
theorem witness_CipherKeysAndRuns_5 : ∃ (s : State) (c : Nat) (path : Nat) (n : Nat) (x : KeySlot), s.Opens 0x38 ∧ c < 8 ∧ path < 2 ∧
    s.dev.enabled 0x38 = true ∧ (s.dev.cipher c).holder = some (.path path) ∧ n = s.dev.num CIPH.KEY_SLOT c % 32 ∧ x = s.dev.keySlot c n ∧
    x.fault = false ∧ x.valid = true ∧ x.counter < 2 ^ 48 ∧ x.cmd = none ∧ s.dev.unitIdle c = true :=
  ⟨(modOf fun d => let d := d.setCipher 0 { d.cipher 0 with holder := some (.path 0) };
    d.setKeySlot 0 0 { valid := true, key := List.replicate 16 1 }), 0, 0,
    ((modOf fun d => let d := d.setCipher 0 { d.cipher 0 with holder := some (.path 0) };
    d.setKeySlot 0 0 { valid := true, key := List.replicate 16 1 }).dev.num CIPH.KEY_SLOT (0) % 32), { valid := true, key := List.replicate 16 1 },
    by (try simp only [State.On, State.Awake, State.Opens, State.Ready, Dev.quiet, Dev.acts, Clock.ok]) <;> decide +kernel⟩
theorem witness_CipherKeysAndRuns_6 : ∃ (s : State) (c : Nat) (path : Nat) (g : Guard), s.Opens 0x38 ∧ c < 8 ∧ path < 2 ∧ (s.dev.enabled
    0x38 = false ∨ (s.dev.cipher c).holder ≠ some (.path path)) :=
  ⟨modOf fun d => d.setNum (CTRL 0x38) 0, 0, 0, .clean,
    by (try simp only [State.On, State.Awake, State.Opens, State.Ready, Dev.quiet, Dev.acts, Clock.ok]) <;> decide +kernel⟩
theorem witness_CipherKeysAndRuns_8 : ∃ (s : State) (c : Nat) (path : Nat), s.Opens 0x38 ∧ c < 8 ∧ path < 2 ∧ s.dev.enabled 0x38 = true ∧
    s.dev.opState CIPH.RUN_STAT c ≠ 1 ∧ (s.dev.cipher c).holder = some (.path path) :=
  ⟨(modOf fun d => let d := d.setNum (CTRL 0x38) 1; let d := d.setNum CIPH.RUN_STAT (0) (0);
    d.setCipher (0) { (d.cipher (0)) with holder := some (.path (0)) }), 0, 0,
    by (try simp only [State.On, State.Awake, State.Opens, State.Ready, Dev.quiet, Dev.acts, Clock.ok]) <;> decide +kernel⟩
theorem witness_CipherKeysAndRuns_9 : ∃ (s : State) (c : Nat) (path : Nat), s.Opens 0x38 ∧ c < 8 ∧ path < 2 ∧ s.dev.enabled 0x38 = true ∧
    (s.dev.opState CIPH.RUN_STAT c = 1 ∨ (s.dev.cipher c).holder ≠ some (.path path)) :=
  ⟨(modOf fun d => let d := d.setNum (CTRL 0x38) 1; d.setNum CIPH.RUN_STAT (1) (0)), 0, 0,
    by (try simp only [State.On, State.Awake, State.Opens, State.Ready, Dev.quiet, Dev.acts, Clock.ok]) <;> decide +kernel⟩
theorem witness_CipherKeysAndRuns_10 : ∃ (s : State) (c : Nat), s.Opens 0x38 ∧ c < 8 ∧ s.dev.opState CIPH.RUN_STAT c = 1 ∧ (s.dev.cipher
    c).nonces = [] ∧ (∀ q ∈ (s.dev.cipher c).queue, q.op ≠ 2) :=
  ⟨(modOf fun d => d.setNum CIPH.RUN_STAT (1) (0)), 0,
    by (try simp only [State.On, State.Awake, State.Opens, State.Ready, Dev.quiet, Dev.acts, Clock.ok]) <;> decide +kernel⟩
theorem witness_CipherKeysAndRuns_11 : ∃ (s : State) (c : Nat) (q : BlockCall) (r : List BlockCall) (x : KeySlot) (e : Bool), s.Awake ∧ c
    < 8 ∧ (s.dev.cipher c).queue = q :: r ∧ (∀ y ∈ q :: r, y.op ≠ 2) ∧ (s.dev.cipher c).nonces = [] ∧ (s.dev.cipher c).arrivals = [] ∧
    (s.dev.cipher c).runs = false ∧ x = s.dev.keySlot c q.slot ∧ x.cmd = none ∧ x.fault = false ∧ x.valid = true ∧ s.dev.idOn (thrKey c
    q.thread) = q.id ∧ (s.dev.thread (thrKey c q.thread)).wait = some .block :=
  ⟨(modOf fun d => let d := d.setKeySlot 0 0 { valid := true, key := List.replicate 16 1 }; let d := wTask d (thrKey 0 0) 0 {};
    let d := d.setThread (thrKey 0 0) { d.thread (thrKey 0 0) with wait := some .block };
    d.setCipher 0 { d.cipher 0 with queue := [{ thread := 0, id := 0, slot := 0, op := 0, once := false, block := List.replicate 16 0, dst := 0 }] }),
    0, { thread := 0, id := 0, slot := 0, op := 0, once := false, block := List.replicate 16 0, dst := 0 }, [],
    { valid := true, key := List.replicate 16 1 }, false,
    by (try simp only [State.On, State.Awake, State.Opens, State.Ready, Dev.quiet, Dev.acts, Clock.ok]) <;> decide +kernel⟩
theorem witness_CipherKeysAndRuns_12 : ∃ (s : State) (c : Nat) (n : Nat) (p : Nat) (x : KeySlot) (out : List Byte), s.Awake ∧ c < 8 ∧
    (s.dev.cipher c).queue = [] ∧ (s.dev.cipher c).nonces = [] ∧ (s.dev.cipher c).arrivals = [] ∧ (s.dev.cipher c).run = some p ∧ x =
    s.dev.keySlot c (s.dev.fld CIPH.RUN_CFG_SLOT c) ∧ x.cmd = none ∧ x.fault = false ∧ x.valid = true ∧ n = s.dev.num CIPH.RUN_STAT c / 256
    ∧ out = aesBlock (s.dev.on CIPH.RUN_CFG_DIR c) x.key (s.dev.dmaRead (s.dev.num2 CIPH.RUN_SRC_LO CIPH.RUN_SRC_HI c + 16 * n) 16) :=
  ⟨(modOf fun d => let d := d.setKeySlot 0 0 { valid := true, key := List.replicate 16 1 }; d.setCipher 0 { d.cipher 0 with run := some 0 }), 0,
    ((modOf fun d => let d := d.setKeySlot 0 0 { valid := true, key := List.replicate 16 1 };
    d.setCipher 0 { d.cipher 0 with run := some 0 }).dev.num CIPH.RUN_STAT (0) / 256), 0, { valid := true, key := List.replicate 16 1 },
    aesBlock ((modOf fun d => d.setKeySlot 0 0 {}).dev.on CIPH.RUN_CFG_DIR 0) (List.replicate 16 1) (List.replicate 16 0),
    by (try simp only [State.On, State.Awake, State.Opens, State.Ready, Dev.quiet, Dev.acts, Clock.ok]) <;> decide +kernel⟩
theorem witness_CipherKeysAndRuns_14 : ∃ (s : State) (c : Nat) (n : Nat) (p : Nat) (e : Bool) (x : KeySlot), s.Awake ∧ c < 8 ∧
    (s.dev.cipher c).queue = [] ∧ (s.dev.cipher c).run = some p ∧ (s.dev.cipher c).nonces = [] ∧ (s.dev.cipher c).arrivals = [] ∧ x =
    s.dev.keySlot c (s.dev.fld CIPH.RUN_CFG_SLOT c) ∧ x.cmd = none ∧ n = s.dev.num CIPH.RUN_STAT c / 256 ∧ (e = true ∨ x.fault = true ∨
    x.valid = false) :=
  ⟨(modOf fun d => let d := d.setCipher (0) { (d.cipher (0)) with queue := [] }; d.setCipher (0) { (d.cipher (0)) with run := some (0) }), 0,
    ((modOf fun d => let d := d.setCipher (0) { (d.cipher (0)) with queue := [] };
    d.setCipher (0) { (d.cipher (0)) with run := some (0) }).dev.num CIPH.RUN_STAT (0) / 256), 0, (true),
    (let zz : KeySlot := ((modOf fun d => let d := d.setCipher (0) { (d.cipher (0)) with queue := [] };
    d.setCipher (0) { (d.cipher (0)) with run := some (0) }).dev.keySlot (0) ((modOf fun d => let d := d.setCipher (0) { (d.cipher (0)) with queue := [] };
    d.setCipher (0) { (d.cipher (0)) with run := some (0) }).dev.fld CIPH.RUN_CFG_SLOT (0))); { zz with cmd := none }),
    by (try simp only [State.On, State.Awake, State.Opens, State.Ready, Dev.quiet, Dev.acts, Clock.ok]) <;> decide +kernel⟩
theorem witness_CipherKeysAndRuns_15 : ∃ (s : State) (c : Nat) (e : Bool) (g : Guard), s.Awake ∧ c < 8 ∧ (s.dev.cipher c).queue = [] ∧
    (s.dev.cipher c).run = none :=
  ⟨(modOf fun d => let d := d.setCipher (0) { (d.cipher (0)) with queue := [] }; d.setCipher (0) { (d.cipher (0)) with run := none }), 0, false,
    .clean, by (try simp only [State.On, State.Awake, State.Opens, State.Ready, Dev.quiet, Dev.acts, Clock.ok]) <;> decide +kernel⟩
theorem witness_CipherKeysAndRuns_7 : ∃ (s : State) (c : Nat) (path : Nat) (g : Guard), s.Opens 0x38 ∧ c < 8 ∧ path < 2 ∧ s.dev.enabled
    0x38 = true ∧ (s.dev.cipher c).holder = some (.path path) ∧ s.dev.unitIdle c = false :=
  ⟨modOf fun d => (d.setNum (CTRL 0x38) 1).setCipher 0
    { d.cipher 0 with holder := some (.path 0), queue := [{ thread := 0, id := 0, slot := 0, op := 0, once := false, block := [], dst := 0 }] },
    0, 0, .clean, by (try simp only [State.On, State.Awake, State.Opens, State.Ready, Dev.quiet, Dev.acts, Clock.ok]) <;> decide +kernel⟩
theorem witness_CipherKeysAndRuns_13 : ∃ (s : State) (c : Nat) (p : Nat) (q : BlockCall) (r : List BlockCall), s.Awake ∧ c < 8 ∧
    (s.dev.cipher c).runs = true ∧ (s.dev.cipher c).run = some p ∧ (s.dev.cipher c).queue = q :: r ∧ q.op ≠ 2 ∧ (s.dev.cipher c).nonces =
    [] ∧ (s.dev.cipher c).arrivals = [] :=
  ⟨(modOf fun d => d.setCipher 0 { d.cipher 0 with run := some 0, runs := true, queue := [{ thread := 0, id := 0, slot := 0, op := 0, once := false, block := List.replicate 16 0, dst := 0 }] }),
    0, 0, { thread := 0, id := 0, slot := 0, op := 0, once := false, block := List.replicate 16 0, dst := 0 }, [],
    by (try simp only [State.On, State.Awake, State.Opens, State.Ready, Dev.quiet, Dev.acts, Clock.ok]) <;> decide +kernel⟩
/-! ### CheckValues -/

theorem witness_CheckValues_0 : ∃ (s : State) (frond : Nat) (thread : Nat) (preset : Nat) (i : Nat) (k : Nat) (u : Nat) (t : Task) (value
    : Option Nat) (pair : Option Nat), s.Awake ∧ k = thrKey frond thread ∧ u = frond % 8 ∧ s.dev.acts k 3 3 i t ∧ s.dev.enabled 0x39 = true
    :=
  ⟨(modOf fun d => let d := wTask d ((thrKey (0) (0))) (0) (({} : Task)); d.setNum (CTRL 0x39) 1), 0, 0, 0, 0, (thrKey (0) (0)), ((0) % 8),
    ({} : Task), none, none, by (try simp only [State.On, State.Awake, State.Opens, State.Ready, Dev.quiet, Dev.acts, Clock.ok]) <;> decide +kernel⟩
theorem witness_CheckValues_1 : ∃ (s : State) (frond : Nat) (thread : Nat) (len : Nat) (i : Nat) (k : Nat) (u : Nat) (t : Task) (src :
    EngPlace), s.Awake ∧ k = thrKey frond thread ∧ u = frond % 8 ∧ s.dev.acts k 3 3 i t ∧ s.dev.enabled 0x39 = true ∧ s.dev.ctxOwner u =
    some (.task (k % 256) (t.id i)) :=
  ⟨(modOf fun d => let d := wTask d ((thrKey (0) (0))) (0) (({} : Task)); let d := d.setNum (CTRL 0x39) 1;
    { d with units := { d.units with owners := d.units.owners.set none 0 (some (.task 0 0)) } }), 0, 0, 0, 0, (thrKey (0) (0)), ((0) % 8),
    ({} : Task), .g 1, by (try simp only [State.On, State.Awake, State.Opens, State.Ready, Dev.quiet, Dev.acts, Clock.ok]) <;> decide +kernel⟩
theorem witness_CheckValues_2 : ∃ (s : State) (frond : Nat) (thread : Nat) (dst : Nat) (i : Nat) (k : Nat) (u : Nat) (t : Task), s.Awake
    ∧ k = thrKey frond thread ∧ u = frond % 8 ∧ s.dev.acts k 3 3 i t ∧ s.dev.enabled 0x39 = true ∧ s.dev.ctxOwner u = some (.task (k % 256)
    (t.id i)) :=
  ⟨(modOf fun d => let d := wTask d ((thrKey (0) (0))) (0) (({} : Task)); let d := d.setNum (CTRL 0x39) 1;
    { d with units := { d.units with owners := d.units.owners.set none 0 (some (.task 0 0)) } }), 0, 0, 0, 0, (thrKey (0) (0)), ((0) % 8),
    ({} : Task), by (try simp only [State.On, State.Awake, State.Opens, State.Ready, Dev.quiet, Dev.acts, Clock.ok]) <;> decide +kernel⟩
theorem witness_CheckValues_3 : ∃ (s : State) (frond : Nat) (thread : Nat) (dst : Nat) (ref : Nat) (i : Nat) (k : Nat) (u : Nat) (e :
    Nat) (t : Task), s.Awake ∧ k = thrKey frond thread ∧ u = frond % 8 ∧ s.dev.acts k 3 3 i t ∧ s.dev.enabled 0x39 = true ∧ s.dev.ctxOwner
    u = some (.task (k % 256) (t.id i)) ∧ e = (s.dev.thread k).rpair ref % 2 ^ (s.dev.ctxPreset u).width :=
  ⟨(modOf fun d => let d := wTask d ((thrKey (0) (0))) (0) (({} : Task)); let d := d.setNum (CTRL 0x39) 1;
    { d with units := { d.units with owners := d.units.owners.set none 0 (some (.task 0 0)) } }), 0, 0, 0, 0, 0, (thrKey (0) (0)), ((0) % 8),
    (((modOf fun d => let d := wTask d ((thrKey (0) (0))) (0) (({} : Task)); let d := d.setNum (CTRL 0x39) 1;
    { d with units := { d.units with owners := d.units.owners.set none 0 (some (.task 0 0)) } }).dev.thread ((thrKey (0) (0)))).rpair (0) % 2
    ^ ((modOf fun d => let d := wTask d ((thrKey (0) (0))) (0) (({} : Task)); let d := d.setNum (CTRL 0x39) 1;
    { d with units := { d.units with owners := d.units.owners.set none 0 (some (.task 0 0)) } }).dev.ctxPreset (((0) % 8))).width), ({} : Task),
    by (try simp only [State.On, State.Awake, State.Opens, State.Ready, Dev.quiet, Dev.acts, Clock.ok]) <;> decide +kernel⟩
theorem witness_CheckValues_4 : ∃ (s : State) (frond : Nat) (thread : Nat) (dst : Nat) (third : Nat) (i : Nat) (k : Nat) (u : Nat) (t :
    Task), s.Awake ∧ k = thrKey frond thread ∧ u = frond % 8 ∧ s.dev.acts k 3 3 i t ∧ s.dev.enabled 0x39 = true ∧ s.dev.ctxOwner u = some
    (.task (k % 256) (t.id i)) :=
  ⟨(modOf fun d => let d := wTask d ((thrKey (0) (0))) (0) (({} : Task)); let d := d.setNum (CTRL 0x39) 1;
    { d with units := { d.units with owners := d.units.owners.set none 0 (some (.task 0 0)) } }), 0, 0, 0, 0, 0, (thrKey (0) (0)), ((0) % 8),
    ({} : Task), by (try simp only [State.On, State.Awake, State.Opens, State.Ready, Dev.quiet, Dev.acts, Clock.ok]) <;> decide +kernel⟩
theorem witness_CheckValues_5 : ∃ (s : State) (frond : Nat) (thread : Nat) (src : Nat) (third : Nat) (i : Nat) (k : Nat) (u : Nat) (t :
    Task), s.Awake ∧ k = thrKey frond thread ∧ u = frond % 8 ∧ s.dev.acts k 3 3 i t ∧ s.dev.enabled 0x39 = true :=
  ⟨(modOf fun d => let d := wTask d ((thrKey (0) (0))) (0) (({} : Task)); d.setNum (CTRL 0x39) 1), 0, 0, 0, 0, 0, (thrKey (0) (0)), ((0) % 8),
    ({} : Task), by (try simp only [State.On, State.Awake, State.Opens, State.Ready, Dev.quiet, Dev.acts, Clock.ok]) <;> decide +kernel⟩
theorem witness_CheckValues_6 : ∃ (s : State) (c : Instr) (frond : Nat) (thread : Nat) (n : Nat) (m : Nat) (i : Nat) (k : Nat) (u : Nat)
    (t : Task) (p : EngPlace), s.Awake ∧ k = thrKey frond thread ∧ u = frond % 8 ∧ (c = .feed frond thread p n ∨ c = .read frond thread n ∨
    c = .readCmp frond thread n m ∨ c = .save frond thread n m) ∧ s.dev.acts k 3 3 i t ∧ s.dev.enabled 0x39 = true ∧ s.dev.ctxOwner u ≠
    some (.task (k % 256) (t.id i)) :=
  ⟨(modOf fun d => let d := wTask d ((thrKey (0) (0))) (0) (({} : Task)); d.setNum (CTRL 0x39) 1), (.feed (0) (0) (.g 1) (0)), 0, 0, 0, 0, 0,
    (thrKey (0) (0)), ((0) % 8), ({} : Task), .g 1,
    by (try simp only [State.On, State.Awake, State.Opens, State.Ready, Dev.quiet, Dev.acts, Clock.ok]) <;> decide +kernel⟩
theorem witness_CheckValues_7 : ∃ (s : State) (c : Instr) (frond : Nat) (thread : Nat) (n : Nat) (m : Nat) (p : EngPlace) (o : Option
    Nat) (q : Option Nat), (c = .init frond thread n o q ∨ c = .feed frond thread p n ∨ c = .read frond thread n ∨ c = .readCmp frond
    thread n m ∨ c = .save frond thread n m ∨ c = .restore frond thread n m) ∧ s.Awake ∧ (s.dev.running (thrKey frond thread) = none ∨
    s.dev.mayIssue (thrKey frond thread) = false ∨ s.dev.groupFree (thrKey frond thread) 3 = false) :=
  ⟨mod0, (.init (0) (0) (0) (none) (none)), 0, 0, 0, 0, .g 1, none, none,
    by (try simp only [State.On, State.Awake, State.Opens, State.Ready, Dev.quiet, Dev.acts, Clock.ok]) <;> decide +kernel⟩
theorem witness_CheckValues_8 : ∃ (s : State) (u : Nat) (path : Nat), s.Opens 0x39 ∧ u < 9 ∧ path < 2 ∧ s.dev.loaderOwns u = false :=
  ⟨(modOf fun d => d.setNum (CTRL 0x39) 1), 0, 0,
    by (try simp only [State.On, State.Awake, State.Opens, State.Ready, Dev.quiet, Dev.acts, Clock.ok]) <;> decide +kernel⟩
theorem witness_CheckValues_9 : ∃ (s : State) (c : Instr) (u : Nat) (path : Nat) (w : Word) (bs : List Byte), ((c = .feed32 u path w ∧
    bs = leBytes 4 w.toNat) ∨ (c = .feed8 u path w ∧ bs = leBytes 1 w.toNat)) ∧ s.Opens 0x39 ∧ u < 9 ∧ path < 2 ∧ s.dev.enabled 0x39 = true ∧
    s.dev.loaderOwns u = false ∧ s.dev.ctxOwner u = some (.path path) ∧ s.dev.on CHKV.CFG_COMPARE u = false :=
  ⟨(modOf fun d => let d := d.setNum (CTRL 0x39) 1; let d := d.setFld CHKV.CFG_COMPARE 0 (0);
    { d with units := { d.units with owners := d.units.owners.set none 0 (some (.path 0)) } }), (.feed32 (0) (0) ((0 : Word))), 0, 0, (0 : Word),
    (leBytes 4 0), by (try simp only [State.On, State.Awake, State.Opens, State.Ready, Dev.quiet, Dev.acts, Clock.ok]) <;> decide +kernel⟩
theorem witness_CheckValues_10 : ∃ (s : State) (u : Nat) (path : Nat) (w : Word) (r : Nat), s.Opens 0x39 ∧ u < 9 ∧ path < 2 ∧
    s.dev.enabled 0x39 = true ∧ s.dev.loaderOwns u = false ∧ s.dev.ctxOwner u = some (.path path) ∧ s.dev.on CHKV.CFG_COMPARE u = true ∧
    s.dev.num CHKV.CMP_LEN u ≠ 0 ∧ (s.dev.num CHKV.COUNT u + 1) % 2 ^ 32 = s.dev.num CHKV.CMP_LEN u ∧
    r = (s.dev.ctxPreset u).result ((s.dev.ctxPreset u).feed (s.dev.ctxRun u) [BitVec.ofNat 8 w.toNat] % 2 ^ (s.dev.ctxPreset u).width) :=
  ⟨(modOf fun d => let d := d.setNum (CTRL 0x39) 1; let d := d.setFld CHKV.CFG_COMPARE 1 (0); let d := d.setNum CHKV.CMP_LEN (1) (0);
    { d with units := { d.units with owners := d.units.owners.set none 0 (some (.path 0)) } }), 0, 0, (0 : Word),
    (((modOf fun d => let d := d.setNum (CTRL 0x39) 1; let d := d.setFld CHKV.CFG_COMPARE 1 (0); let d := d.setNum CHKV.CMP_LEN (1) (0);
    { d with units := { d.units with owners := d.units.owners.set none 0 (some (.path 0)) } }).dev.ctxPreset (0)).result (((modOf fun d => let d := d.setNum (CTRL 0x39) 1;
    let d := d.setFld CHKV.CFG_COMPARE 1 (0); let d := d.setNum CHKV.CMP_LEN (1) (0);
    { d with units := { d.units with owners := d.units.owners.set none 0 (some (.path 0)) } }).dev.ctxPreset (0)).feed ((modOf fun d => let d := d.setNum (CTRL 0x39) 1;
    let d := d.setFld CHKV.CFG_COMPARE 1 (0); let d := d.setNum CHKV.CMP_LEN (1) (0);
    { d with units := { d.units with owners := d.units.owners.set none 0 (some (.path 0)) } }).dev.ctxRun (0)) [BitVec.ofNat 8 ((0 : Word)).toNat] % 2 ^ ((modOf fun d => let d := d.setNum (CTRL 0x39) 1;
    let d := d.setFld CHKV.CFG_COMPARE 1 (0); let d := d.setNum CHKV.CMP_LEN (1) (0);
    { d with units := { d.units with owners := d.units.owners.set none 0 (some (.path 0)) } }).dev.ctxPreset (0)).width)),
    by (try simp only [State.On, State.Awake, State.Opens, State.Ready, Dev.quiet, Dev.acts, Clock.ok]) <;> decide +kernel⟩
theorem witness_CheckValues_11 : ∃ (s : State) (c : Instr) (u : Nat) (path : Nat) (w : Word), (c = .feed32 u path w ∨ c = .feed8 u path w) ∧
    s.Opens 0x39 ∧ u < 9 ∧ path < 2 ∧ s.dev.enabled 0x39 = true ∧ s.dev.loaderOwns u = false ∧ s.dev.ctxOwner u ≠ some (.path path) :=
  ⟨(modOf fun d => d.setNum (CTRL 0x39) 1), (.feed32 (0) (0) ((0 : Word))), 0, 0, (0 : Word),
    by (try simp only [State.On, State.Awake, State.Opens, State.Ready, Dev.quiet, Dev.acts, Clock.ok]) <;> decide +kernel⟩
theorem witness_CheckValues_12 : ∃ (s : State) (u : Nat) (path : Nat) (part : Nat) (w : Word), s.Opens 0x39 ∧ u < 9 ∧ path < 2 ∧ part < 3
    ∧ s.dev.loaderOwns u = false :=
  ⟨(modOf fun d => d.setNum (CTRL 0x39) 1), 0, 0, 0, (0 : Word),
    by (try simp only [State.On, State.Awake, State.Opens, State.Ready, Dev.quiet, Dev.acts, Clock.ok]) <;> decide +kernel⟩
theorem witness_CheckValues_13 : ∃ (s : State) (c : Instr) (u : Nat) (path : Nat) (part : Nat) (w : Word), (c = .hostChkvInit u path ∨ c =
    .feed32 u path w ∨ c = .feed8 u path w ∨ c = .contextRestore u path part w) ∧ s.Opens 0x39 ∧ s.dev.loaderOwns (u % 9) = true :=
  ⟨(modOf fun d => d.setFld TOP.BOOT_STATUS_STAGE 3), .hostChkvInit 8 0, 8, 0, 0, 0,
    by (try simp only [State.On, State.Awake, State.Opens, State.Ready, Dev.quiet, Dev.acts, Clock.ok]) <;> decide +kernel⟩
theorem witness_CheckValues_14 : ∃ (s : State) (c : Instr) (u : Nat) (path : Nat) (w : Word), (c = .feed32 u path w ∨ c = .feed8 u path w)
    ∧ s.Opens 0x39 ∧ s.dev.enabled 0x39 = false :=
  ⟨(modOf fun d => d.setNum (CTRL 0x39) 0), .feed32 0 0 0, 0, 0, 0,
    by (try simp only [State.On, State.Awake, State.Opens, State.Ready, Dev.quiet, Dev.acts, Clock.ok]) <;> decide +kernel⟩
/-! ### AuditHoldsAndEgress -/

theorem witness_AuditHoldsAndEgress_0 : ∃ (s : State) (c : Instr), ((c = .auditStart ∧ s.Opens 0x40) ∨ (c = .auditPeriod ∧ s.Awake ∧
    s.dev.on TOP.BOOT_STATUS_READY = true ∧ s.dev.sw.audit.lastS + s.dev.fld BUFM.AUDIT_CFG_PERIOD ≤ s.dev.upMs / 1000)) ∧
    s.dev.enabled 0x40 = true ∧ s.dev.opState BUFM.AUDIT_STAT ≠ 1 :=
  ⟨(modOf fun d => let d := d.setNum (CTRL 0x40) 1; d.setNum BUFM.AUDIT_STAT (0)), (.auditStart),
    by (try simp only [State.On, State.Awake, State.Opens, State.Ready, Dev.quiet, Dev.acts, Clock.ok]) <;> decide +kernel⟩
theorem witness_AuditHoldsAndEgress_1 : ∃ (s : State), s.Opens 0x40 ∧ (s.dev.enabled 0x40 = false ∨ s.dev.opState BUFM.AUDIT_STAT = 1) :=
  ⟨(modOf fun d => d.setNum (CTRL 0x40) 0),
    by (try simp only [State.On, State.Awake, State.Opens, State.Ready, Dev.quiet, Dev.acts, Clock.ok]) <;> decide +kernel⟩
theorem witness_AuditHoldsAndEgress_2 : ∃ (s : State), s.Awake ∧ (s.dev.on TOP.BOOT_STATUS_READY = false ∨
    s.dev.upMs / 1000 < s.dev.sw.audit.lastS + s.dev.fld BUFM.AUDIT_CFG_PERIOD) :=
  ⟨(modOf fun d => d.setFld TOP.BOOT_STATUS_READY 0),
    by (try simp only [State.On, State.Awake, State.Opens, State.Ready, Dev.quiet, Dev.acts, Clock.ok]) <;> decide +kernel⟩
theorem witness_AuditHoldsAndEgress_3 : ∃ (s : State), s.Opens 0x40 ∧ s.dev.opState BUFM.AUDIT_STAT = 1 :=
  ⟨(modOf fun d => d.setNum BUFM.AUDIT_STAT (1)),
    by (try simp only [State.On, State.Awake, State.Opens, State.Ready, Dev.quiet, Dev.acts, Clock.ok]) <;> decide +kernel⟩
theorem witness_AuditHoldsAndEgress_5 : ∃ (s : State) (bad : Nat), s.Awake ∧ s.dev.enabled 0x40 = true ∧ s.dev.opState BUFM.AUDIT_STAT =
    1 ∧ s.dev.sw.link.wf {} = true ∧ (∀ x ∈ s.dev.sw.link, x.1 < 2 ^ 23) :=
  ⟨(modOf fun d => d.setNum BUFM.AUDIT_STAT (1)), 0,
    by (try simp only [State.On, State.Awake, State.Opens, State.Ready, Dev.quiet, Dev.acts, Clock.ok]) <;> decide +kernel⟩
theorem witness_AuditHoldsAndEgress_6 : ∃ (s : State) (bad : Nat), s.Awake ∧ (s.dev.enabled 0x40 = false ∨ s.dev.opState BUFM.AUDIT_STAT
    ≠ 1) :=
  ⟨(modOf fun d => d.setNum BUFM.AUDIT_STAT (0)), 0,
    by (try simp only [State.On, State.Awake, State.Opens, State.Ready, Dev.quiet, Dev.acts, Clock.ok]) <;> decide +kernel⟩
theorem witness_AuditHoldsAndEgress_7 : ∃ (s : State) (port : Nat) (t : Nat) (pri : Option Nat), s.Awake ∧ s.dev.holdAt port pri = some t ∧
    s.dev.fld SWCR.HOLD_CFG_HOLD_MS port * 10000000 ≤ s.dev.clk.up - t ∧ s.dev.sw.waitTm = [] :=
  ⟨(modOf fun d => { d with sw := { d.sw with hold := [(0, some 0)] } }), 0, 0, none,
    by (try simp only [State.On, State.Awake, State.Opens, State.Ready, Dev.quiet, Dev.acts, Clock.ok]) <;> decide +kernel⟩
theorem witness_AuditHoldsAndEgress_8 : ∃ (s : State) (port : Nat) (pri : Option Nat), s.Awake ∧ s.dev.holdAt port pri = none :=
  ⟨mod0, 0, none, by (try simp only [State.On, State.Awake, State.Opens, State.Ready, Dev.quiet, Dev.acts, Clock.ok]) <;> decide +kernel⟩
theorem witness_AuditHoldsAndEgress_9 : ∃ (s : State) (port : Nat) (t : Nat) (pri : Option Nat), s.Awake ∧ s.dev.holdAt port pri = some t ∧
    s.dev.clk.up - t < s.dev.fld SWCR.HOLD_CFG_HOLD_MS port * 10000000 :=
  ⟨(modOf fun d => let d := { d with sw := { d.sw with hold := [(0, some (10 ^ 15))] } }; d.setFld SWCR.HOLD_CFG_HOLD_MS 10 0), 0, (10 ^ 15), none,
    by (try simp only [State.On, State.Awake, State.Opens, State.Ready, Dev.quiet, Dev.acts, Clock.ok]) <;> decide +kernel⟩
theorem witness_AuditHoldsAndEgress_11 : ∃ (s : State) (port : Nat) (t : Tx), s.Awake ∧ port < 34 ∧ port ≠ 32 ∧ s.dev.portUp port = true ∧
    s.dev.nextStart port = some t :=
  ⟨(modOf fun d => let d := d.setPortState (0) 5; let d := d.setStaged 0 [{ copy := { desc := 0, port := 0 }, started := false }]; d.setFrame 0 {}),
    0, ({ copy := { desc := 0, port := 0 } } : Tx),
    by (try simp only [State.On, State.Awake, State.Opens, State.Ready, Dev.quiet, Dev.acts, Clock.ok]) <;> decide +kernel⟩
theorem witness_AuditHoldsAndEgress_10 : ∃ (s : State) (port : Nat) (t : Tx), s.Awake ∧ port < 34 ∧ port ≠ 32 ∧ s.dev.portUp port = true ∧
    s.dev.nextStart port = some t :=
  ⟨(modOf fun d => let d := d.setPortState (0) 5; let d := d.setStaged 0 [{ copy := { desc := 0, port := 0 }, started := false }]; d.setFrame 0 {}),
    0, ({ copy := { desc := 0, port := 0 } } : Tx),
    by (try simp only [State.On, State.Awake, State.Opens, State.Ready, Dev.quiet, Dev.acts, Clock.ok]) <;> decide +kernel⟩
theorem witness_AuditHoldsAndEgress_12 : ∃ (s : State) (port : Nat) (failed : Option ReadFail), s.Awake ∧ (34 ≤ port ∨ port = 32 ∨
    s.dev.portUp port = false ∨ s.dev.nextStart port = none) :=
  ⟨mod0, 34, none, by (try simp only [State.On, State.Awake, State.Opens, State.Ready, Dev.quiet, Dev.acts, Clock.ok]) <;> decide +kernel⟩
theorem witness_AuditHoldsAndEgress_14 : ∃ (s : State) (port : Nat) (t : Tx) (f : Frame), s.Awake ∧ port < 34 ∧ port ≠ 32 ∧
    (s.dev.stagedOf port).find? (·.started) = some t ∧ s.dev.frame t.copy.desc = some f ∧ 1 < f.refs :=
  ⟨(modOf fun d => let d := d.setFrame 0 { refs := 2 }; d.setStaged 0 [{ copy := { desc := 0, port := 0 }, started := true }]), 0,
    { copy := { desc := 0, port := 0 }, started := true }, { refs := 2 },
    by (try simp only [State.On, State.Awake, State.Opens, State.Ready, Dev.quiet, Dev.acts, Clock.ok]) <;> decide +kernel⟩
theorem witness_AuditHoldsAndEgress_15 : ∃ (s : State) (port : Nat) (pool : Nat) (unit : Nat) (sent : Nat) (t : Tx) (f : Frame) (bs : List
    Byte), s.Awake ∧ port < 34 ∧ port ≠ 32 ∧ (s.dev.stagedOf port).find? (·.started) = some t ∧ s.dev.frame t.copy.desc = some f ∧ 1 <
    f.refs ∧ (0 < sent ∨ 0 < t.ready) ∧ bs = (s.dev.wireBytes f port t.start16).1.take (max sent t.ready) :=
  ⟨(modOf fun d => let d := d.setFrame 0 { refs := 2 }; d.setStaged 0 [{ copy := { desc := 0, port := 0 }, started := true }]), 0, 0, 0, 1,
    { copy := { desc := 0, port := 0 }, started := true }, { refs := 2 }, ((modOf fun d => let d := d.setFrame 0 { refs := 2 };
    d.setStaged 0 [{ copy := { desc := 0, port := 0 }, started := true }]).dev.wireBytes { refs := 2 } 0
    (({ copy := { desc := 0, port := 0 }, started := true } : Tx)).start16).1.take 1,
    by (try simp only [State.On, State.Awake, State.Opens, State.Ready, Dev.quiet, Dev.acts, Clock.ok]) <;> decide +kernel⟩
theorem witness_AuditHoldsAndEgress_16 : ∃ (s : State) (port : Nat) (t : Tx) (f : Frame), s.Awake ∧ port < 34 ∧ port ≠ 32 ∧
    (s.dev.stagedOf port).find? (·.started) = some t ∧ s.dev.frame t.copy.desc = some f ∧ f.refs ≤ 1 :=
  ⟨(modOf fun d => let d := d.setFrame 0 {}; d.setStaged 0 [{ copy := { desc := 0, port := 0 }, started := true }]), 0,
    { copy := { desc := 0, port := 0 }, started := true }, ({} : Frame),
    by (try simp only [State.On, State.Awake, State.Opens, State.Ready, Dev.quiet, Dev.acts, Clock.ok]) <;> decide +kernel⟩
theorem witness_AuditHoldsAndEgress_18 : ∃ (s : State) (port : Nat) (fail : Option (ReadFail × Nat × Nat × Nat)), s.Awake ∧ (34 ≤ port ∨
    port = 32 ∨ (s.dev.stagedOf port).find? (·.started) = none) :=
  ⟨mod0, 34, none, by (try simp only [State.On, State.Awake, State.Opens, State.Ready, Dev.quiet, Dev.acts, Clock.ok]) <;> decide +kernel⟩
theorem witness_AuditHoldsAndEgress_4 : ∃ (s : State) (k : Nat), s.Opens 0x40 ∧ s.dev.opState BUFM.AUDIT_STAT = 1 ∧ s.dev.sw.link.wf {} =
    true ∧ (∀ x ∈ s.dev.sw.link, x.1 < 2 ^ 23) ∧ k < 2 ^ 23 ∧ (s.dev.lnk (k / 2 ^ 22) (k % 2 ^ 22)).mark = true ∧ (s.dev.lnk (k / 2 ^ 22)
    (k % 2 ^ 22)).alloc = true :=
  ⟨modOf fun d => let d := d.setNum BUFM.AUDIT_STAT 1; { d with sw := { d.sw with link := [(0, { alloc := true, mark := true })] } }, 0,
    by (try simp only [State.On, State.Awake, State.Opens, State.Ready, Dev.quiet, Dev.acts, Clock.ok]) <;> decide +kernel⟩
theorem witness_AuditHoldsAndEgress_13 : ∃ (s : State) (port : Nat) (t : Tx), s.dev.nextStart port = some t :=
  ⟨(modOf fun d => let d := d.setFrame 0 {}; d.setStaged 0 [{ copy := { desc := 0, port := 0 } }]), 0,
    { copy := { desc := 0, port := 0 } },
    by (try simp only [State.On, State.Awake, State.Opens, State.Ready, Dev.quiet, Dev.acts, Clock.ok]) <;> decide +kernel⟩
theorem witness_AuditHoldsAndEgress_17 : ∃ (s : State) (port : Nat) (pool : Nat) (unit : Nat) (t : Tx) (f : Frame) (w : BadWord), s.Awake ∧
    port < 34 ∧ port ≠ 32 ∧ (s.dev.stagedOf port).find? (·.started) = some t ∧ s.dev.frame t.copy.desc = some f ∧ oneSymbol w = false :=
  ⟨(modOf fun d => let d := d.setFrame 0 { refs := 2 }; d.setStaged 0 [{ copy := { desc := 0, port := 0 }, started := true }]), 0, 0, 0,
    { copy := { desc := 0, port := 0 }, started := true }, { refs := 2 }, { word := 0, sym0 := 0, sym1 := 1 },
    by (try simp only [State.On, State.Awake, State.Opens, State.Ready, Dev.quiet, Dev.acts, Clock.ok]) <;> decide +kernel⟩
/-! ### QueuesAndShapers -/

theorem witness_QueuesAndShapers_0 : ∃ (s : State) (k : Nat) (f : Frame), s.Awake ∧ s.dev.frame k = some f ∧ f.stage = .ready ∧
    resPolEn f.ctx.res = false ∧ destPorts f.dest = [] :=
  ⟨(modOf fun d => d.setFrame (0) ((let zz : Frame := ({} : Frame); { zz with stage := .ready }))), 0, (let zz : Frame := ({} : Frame);
    { zz with stage := .ready }), by (try simp only [State.On, State.Awake, State.Opens, State.Ready, Dev.quiet, Dev.acts, Clock.ok]) <;> decide +kernel⟩
theorem witness_QueuesAndShapers_1 : ∃ (s : State) (k : Nat) (n : Nat) (sub : Nat) (cls : Nat) (f : Frame), s.Awake ∧ s.dev.frame k = some f ∧
    f.stage = .ready ∧ resPolEn f.ctx.res = false ∧ destPorts f.dest = [n] ∧ s.dev.sw.waitTm = [] ∧ 1 ≤ s.dev.num TMGR.COPY_FREE ∧
    cls = s.dev.classOf f ∧ s.dev.takesCopy n cls = true ∧ sub = s.dev.subOf f n ∧ s.dev.chainPort sub = n :=
  ⟨(modOf fun d => let d := d.setFrame 0 { stage := .ready, dest := 1, len := 64, bytes := List.replicate 60 0 }; let d := d.setNum TMGR.COPY_FREE 1;
    d.setPortState 0 5), 0, 0, 0, 0, { stage := .ready, dest := 1, len := 64, bytes := List.replicate 60 0 },
    by (try simp only [State.On, State.Awake, State.Opens, State.Ready, Dev.quiet, Dev.acts, Clock.ok]) <;> decide +kernel⟩
theorem witness_QueuesAndShapers_2 : ∃ (s : State) (k : Nat) (n : Nat) (sub : Nat) (cls : Nat) (f : Frame), s.Awake ∧ s.dev.frame k = some f ∧
    f.stage = .ready ∧ resPolEn f.ctx.res = false ∧ destPorts f.dest = [n] ∧ s.dev.sw.waitTm = [] ∧ 1 ≤ s.dev.num TMGR.COPY_FREE ∧
    cls = s.dev.classOf f ∧ s.dev.takesCopy n cls = true ∧ sub = s.dev.subOf f n ∧ s.dev.chainPort sub ≠ n :=
  ⟨(modOf fun d => let d := d.setFrame 0 { stage := .ready, dest := 1, len := 64, bytes := List.replicate 60 0 }; let d := d.setNum TMGR.COPY_FREE 1;
    let d := d.setPortState 0 5; d.setFld SHAP.SCHED_PARENT 1 (svcNode 0)), 0, 0, 0, 0,
    { stage := .ready, dest := 1, len := 64, bytes := List.replicate 60 0 },
    by (try simp only [State.On, State.Awake, State.Opens, State.Ready, Dev.quiet, Dev.acts, Clock.ok]) <;> decide +kernel⟩
theorem witness_QueuesAndShapers_3 : ∃ (s : State) (k : Nat) (n : Nat) (f : Frame), s.Awake ∧ s.dev.frame k = some f ∧ f.stage = .ready ∧
    resPolEn f.ctx.res = false ∧ destPorts f.dest = [n] ∧ s.dev.sw.waitTm = [] ∧ s.dev.takesCopy n (s.dev.classOf f) = false :=
  ⟨(modOf fun d => let d := d.setFrame 0 { stage := .ready, dest := 1, len := 64, bytes := List.replicate 60 0 }; d.setNum TMGR.COPY_FREE 1), 0, 0,
    { stage := .ready, dest := 1, len := 64, bytes := List.replicate 60 0 },
    by (try simp only [State.On, State.Awake, State.Opens, State.Ready, Dev.quiet, Dev.acts, Clock.ok]) <;> decide +kernel⟩
theorem witness_QueuesAndShapers_4 : ∃ (s : State) (k : Nat) (f : Frame), s.Awake ∧ s.dev.frame k = some f ∧ f.stage = .ready ∧ resPolEn
    f.ctx.res = false ∧ destPorts f.dest ≠ [] ∧ (s.dev.sw.waitTm ≠ [] ∨ s.dev.num TMGR.COPY_FREE < s.dev.copiesOf f) :=
  ⟨(modOf fun d => let d := d.setFrame 0 { stage := .ready, dest := 1, len := 64, bytes := List.replicate 60 0 };
    let d := d.setPortState 0 5; d.setNum TMGR.COPY_FREE 0), 0, { stage := .ready, dest := 1, len := 64, bytes := List.replicate 60 0 },
    by (try simp only [State.On, State.Awake, State.Opens, State.Ready, Dev.quiet, Dev.acts, Clock.ok]) <;> decide +kernel⟩
theorem witness_QueuesAndShapers_5 : ∃ (s : State) (k : Nat) (pol : Nat) (f : Frame), s.Awake ∧ s.dev.frame k = some f ∧ f.stage = .ready ∧
    resPolEn f.ctx.res = true ∧ pol = resPolicer f.ctx.res ∧ s.dev.enabled 0x4A = true ∧ s.dev.fld POLC.MODE_TYPE pol ≠ 0 ∧
    s.dev.on POLC.MODE_RED_DROP pol = true ∧ (s.dev.police pol (if resColourEn f.ctx.res then resColour f.ctx.res else 0) f.len).2 = 2 :=
  ⟨(modOf fun d => let d := d.setFrame 0 { stage := .ready, dest := 1, len := 64, bytes := List.replicate 60 0, ctx := { res := 2 ^ 46 } };
    let d := d.setFld POLC.MODE_TYPE 1 0; let d := d.setFld POLC.MODE_RED_DROP 1 0; d.setPolic 0 { c := 0, e := 0, at_ := d.clk.up }), 0, 0,
    { stage := .ready, dest := 1, len := 64, bytes := List.replicate 60 0, ctx := { res := 2 ^ 46 } },
    by (try simp only [State.On, State.Awake, State.Opens, State.Ready, Dev.quiet, Dev.acts, Clock.ok]) <;> decide +kernel⟩
theorem witness_QueuesAndShapers_6 : ∃ (s : State) (k : Nat), s.Awake ∧ (∀ f, s.dev.frame k = some f → f.stage ≠ .ready) :=
  ⟨mod0, 0, by (try simp only [State.On, State.Awake, State.Opens, State.Ready, Dev.quiet, Dev.acts, Clock.ok]) <;> decide +kernel⟩
theorem witness_QueuesAndShapers_7 : ∃ (s : State) (n : Nat) (q : Nat) (c : Copy) (r : List Copy), s.Awake ∧ n < 34 ∧ s.dev.portUp n = true ∧
    s.dev.enabled 0x48 = false ∧ s.dev.sw.waitTm = [] ∧ s.dev.oldest n = some q ∧ s.dev.queue q = c :: r ∧ c.port = n ∧
    (s.dev.stagedBytes n + s.dev.lenOf c.desc ≤ 12288 ∨ s.dev.stagedOf n = []) :=
  ⟨(modOf fun d => let d := d.setPortState 0 5; let d := d.setNum (CTRL 0x48) 0; let d := d.setFrame 0 {}; d.setQueue 0 [{ desc := 0, port := 0 }]),
    0, 0, { desc := 0, port := 0 }, [], by (try simp only [State.On, State.Awake, State.Opens, State.Ready, Dev.quiet, Dev.acts, Clock.ok]) <;> decide +kernel⟩
theorem witness_QueuesAndShapers_8 : ∃ (s : State) (n : Nat) (e : Dev) (p : Pick) (c : Copy) (r : List Copy), s.Awake ∧ n < 34 ∧
    s.dev.portUp n = true ∧ s.dev.enabled 0x48 = true ∧ s.dev.peakOk (portNode n) = true ∧ s.dev.sw.waitTm = [] ∧
    (s.dev.pruneDeficits n).descend n = (e, some p) ∧ s.dev.queue p.queue = c :: r ∧ c.port = n ∧ (s.dev.stagedBytes n + s.dev.lenOf c.desc ≤ 12288 ∨
    s.dev.stagedOf n = []) :=
  have h : ((((modOf fun d => ((d.setPortState 0 5).setFrame 0 {}).setQueue 0 [{ desc := 0, port := 0 }])).dev.pruneDeficits 0).descend 0).2.isSome = true := by decide +kernel
  ⟨(modOf fun d => ((d.setPortState 0 5).setFrame 0 {}).setQueue 0 [{ desc := 0, port := 0 }]), 0, _, ((((modOf fun d => ((d.setPortState 0 5).setFrame 0 {}).setQueue 0 [{ desc := 0, port := 0 }])).dev.pruneDeficits 0).descend 0).2.get h, { desc := 0, port := 0 }, [], by (try simp only [State.Awake, State.On]) <;> decide +kernel, by decide, by decide +kernel, by decide +kernel, by decide +kernel, by decide +kernel, Prod.ext rfl (Option.some_get h).symm, by decide +kernel +revert, rfl, .inr (by decide +kernel)⟩
theorem witness_QueuesAndShapers_9 : ∃ (s : State) (n : Nat), s.Awake ∧ (34 ≤ n ∨ s.dev.portUp n = false) :=
  ⟨mod0, 34, by (try simp only [State.On, State.Awake, State.Opens, State.Ready, Dev.quiet, Dev.acts, Clock.ok]) <;> decide +kernel⟩
theorem witness_QueuesAndShapers_10 : ∃ (s : State) (k : Nat) (b : Bucket), s.Awake ∧ k < 36898 ∧ b = s.dev.bucket k ∧ s.dev.refillDue k
    = true :=
  ⟨mod0, 0, (mod0.dev.bucket (0)), by (try simp only [State.On, State.Awake, State.Opens, State.Ready, Dev.quiet, Dev.acts, Clock.ok]) <;> decide +kernel⟩
theorem witness_QueuesAndShapers_13 : ∃ (s : State) (k : Nat) (ue : Guard), s.Awake ∧ 36898 ≤ k :=
  ⟨mod0, 36898, .clean,
    by (try simp only [State.On, State.Awake, State.Opens, State.Ready, Dev.quiet, Dev.acts, Clock.ok]) <;> decide +kernel⟩
theorem witness_QueuesAndShapers_14 : ∃ (s : State) (q : Nat) (late : Bool) (deep : Bool) (was : Bool), s.Awake ∧ s.dev.on
    TMGR.SAMPLE_CFG_EN = true ∧ q = s.dev.sw.sampler % 262144 ∧ periodDue s.dev.sw.sampledAt 32 s.dev.clk.up = true ∧ late =
    ((s.dev.sampleOf q).1 && s.dev.num (TMGR.DLY_TH.ix (q % 8)) * 1000 ≠ 0 && decide (s.dev.num (TMGR.DLY_TH.ix (q % 8)) * 1000 ≤
    (s.dev.sampleOf q).2.2.1)) ∧ deep = (s.dev.num (TMGR.DEPTH_TH.ix (q % 8)) * 1024 ≠ 0 && decide (s.dev.num (TMGR.DEPTH_TH.ix (q % 8)) *
    1024 ≤ (s.dev.sampleOf q).2.1)) ∧ was = (match s.dev.sw.samples.get none q with | some x => x.alert | none => false) :=
  ⟨(modOf fun d => d.setFld TMGR.SAMPLE_CFG_EN 1), ((modOf fun d => d.setFld TMGR.SAMPLE_CFG_EN 1).dev.sw.sampler % 262144),
    ((((modOf fun d => d.setFld TMGR.SAMPLE_CFG_EN 1).dev.sampleOf (((modOf fun d => d.setFld TMGR.SAMPLE_CFG_EN 1).dev.sw.sampler % 262144))).1 && (modOf fun d => d.setFld TMGR.SAMPLE_CFG_EN 1).dev.num (TMGR.DLY_TH.ix ((((modOf fun d => d.setFld TMGR.SAMPLE_CFG_EN 1).dev.sw.sampler % 262144)) % 8)) * 1000 ≠ 0 && decide ((modOf fun d => d.setFld TMGR.SAMPLE_CFG_EN 1).dev.num (TMGR.DLY_TH.ix ((((modOf fun d => d.setFld TMGR.SAMPLE_CFG_EN 1).dev.sw.sampler % 262144)) % 8)) * 1000 ≤ ((modOf fun d => d.setFld TMGR.SAMPLE_CFG_EN 1).dev.sampleOf (((modOf fun d => d.setFld TMGR.SAMPLE_CFG_EN 1).dev.sw.sampler % 262144))).2.2.1))),
    (((modOf fun d => d.setFld TMGR.SAMPLE_CFG_EN 1).dev.num (TMGR.DEPTH_TH.ix ((((modOf fun d => d.setFld TMGR.SAMPLE_CFG_EN 1).dev.sw.sampler % 262144)) % 8)) * 1024 ≠ 0 && decide ((modOf fun d => d.setFld TMGR.SAMPLE_CFG_EN 1).dev.num (TMGR.DEPTH_TH.ix ((((modOf fun d => d.setFld TMGR.SAMPLE_CFG_EN 1).dev.sw.sampler % 262144)) % 8)) * 1024 ≤ ((modOf fun d => d.setFld TMGR.SAMPLE_CFG_EN 1).dev.sampleOf (((modOf fun d => d.setFld TMGR.SAMPLE_CFG_EN 1).dev.sw.sampler % 262144))).2.1))),
    ((match (modOf fun d => d.setFld TMGR.SAMPLE_CFG_EN 1).dev.sw.samples.get none (((modOf fun d => d.setFld TMGR.SAMPLE_CFG_EN 1).dev.sw.sampler % 262144)) with | some x => x.alert | none => false)),
    by (try simp only [State.On, State.Awake, State.Opens, State.Ready, Dev.quiet, Dev.acts, Clock.ok]) <;> decide +kernel⟩
theorem witness_QueuesAndShapers_15 : ∃ (s : State) (ue : Guard), s.Awake ∧ (s.dev.on TMGR.SAMPLE_CFG_EN = false ∨ periodDue
    s.dev.sw.sampledAt 32 s.dev.clk.up = false) :=
  ⟨modOf fun d => d.setFld TMGR.SAMPLE_CFG_EN 0, .clean,
    by (try simp only [State.On, State.Awake, State.Opens, State.Ready, Dev.quiet, Dev.acts, Clock.ok]) <;> decide +kernel⟩
theorem witness_QueuesAndShapers_11 : ∃ (s : State) (k : Nat), s.Awake ∧ k < 36898 ∧ s.dev.refillDue k = true :=
  ⟨mod0, 0, by (try simp only [State.On, State.Awake, State.Opens, State.Ready, Dev.quiet, Dev.acts, Clock.ok]) <;> decide +kernel⟩
theorem witness_QueuesAndShapers_12 : ∃ (s : State) (k : Nat) (t : Nat) (ue : Guard), s.Awake ∧ (s.dev.bucket k).at_ = some t ∧
    s.dev.clk.up < t + refillEvery k :=
  ⟨modOf fun d => d.setBucket 0 { d.bucket 0 with at_ := some (10 ^ 15) }, 0, 10 ^ 15, .clean,
    by (try simp only [State.On, State.Awake, State.Opens, State.Ready, Dev.quiet, Dev.acts, Clock.ok]) <;> decide +kernel⟩

end Sys2Proof.Tests
end

