-- ==== Sys2Proof/Tests/Witness6.lean ====
section
/-! SUPPORT. For each clause of TimeGates, RefreshDriftAndScrub, TrainingSteps, ChannelRetirement, TandemAgreement,
ReplicationAndResync, CountersAndEventRings: a state and operands that meet its hypotheses together. -/

namespace Sys2Proof.Tests

/- In order, one after another: a check that the kernel evaluates waits for everything before it, and hundreds that wait
at once would each hold a thread. -/
set_option Elab.async false
set_option linter.unusedSimpArgs false
set_option linter.unusedVariables false
set_option linter.unnecessarySeqFocus false

open Sys2Proof Sys2Proof.Machine

/-! ### TimeGates -/

theorem witness_TimeGates_0 : ∃ (s : State) (n : Nat), s.Awake ∧ n < 34 ∧ s.dev.gated n = true :=
  ⟨(modOf fun d => let d := d.setFld GATE.GATE_CFG_GATE_EN 1 0; d.setFld GATE.GATE_STAT_LIST_ACTIVE 1 0), 0,
    by (try simp only [State.On, State.Awake, State.Opens, State.Ready, Dev.quiet, Dev.acts, Clock.ok]) <;> decide +kernel⟩
theorem witness_TimeGates_1 : ∃ (s : State) (n : Nat), s.Awake ∧ n < 34 ∧ s.dev.gated n = false :=
  ⟨mod0, 0, by (try simp only [State.On, State.Awake, State.Opens, State.Ready, Dev.quiet, Dev.acts, Clock.ok]) <;> decide +kernel⟩
theorem witness_TimeGates_3 : ∃ (s : State) (n : Nat) (len : Nat) (cyc : Nat), s.Opens 0x4B ∧ n < 34 ∧ len = s.dev.num GATE.ADM_LEN n ∧
    cyc = s.dev.num GATE.ADM_CYCLE n ∧ 1 ≤ len ∧ len ≤ 256 ∧ 1000 ≤ cyc ∧ cyc ≤ 1000000000 ∧ (∀ i,
    i < len → (s.dev.gclEntry n ((s.dev.gate n).bank + 1) i).2 ≠ 0) :=
  ⟨modOf fun d => ((d.setNum GATE.ADM_LEN 1 0).setNum GATE.ADM_CYCLE 1000 0).setGclEntry 0 1 0 (255, 1000), 0, 1, 1000,
    by (try simp only [State.Opens, State.On]) <;> decide +kernel⟩
theorem witness_TimeGates_4 : ∃ (s : State) (n : Nat) (len : Nat) (cyc : Nat), s.Opens 0x4B ∧ n < 34 ∧ len = s.dev.num GATE.ADM_LEN n ∧
    cyc = s.dev.num GATE.ADM_CYCLE n ∧ (len = 0 ∨ 256 < len ∨ cyc < 1000 ∨ 1000000000 < cyc ∨ (∃ i, i < len ∧
    (s.dev.gclEntry n ((s.dev.gate n).bank + 1) i).2 = 0)) :=
  ⟨modOf fun d => d.setNum GATE.ADM_LEN 0 0, 0, 0, mod0.dev.num GATE.ADM_CYCLE 0, by (try simp only [State.Opens, State.On]) <;> decide +kernel,
    by decide, by decide +kernel, by decide +kernel, .inl rfl⟩
theorem witness_TimeGates_5 : ∃ (s : State) (n : Nat), s.Opens 0x4B ∧ n < 34 :=
  ⟨mod0, 0, by (try simp only [State.On, State.Awake, State.Opens, State.Ready, Dev.quiet, Dev.acts, Clock.ok]) <;> decide +kernel⟩
theorem witness_TimeGates_6 : ∃ (s : State) (n : Nat) (t : Nat) (cyc : Nat) (len : Nat), s.Awake ∧ n < 34 ∧ (s.dev.gate n).pending = some (t, cyc,
    len) ∧ t ≤ s.dev.gateNow :=
  ⟨(modOf fun d => d.setGate (0) { (d.gate (0)) with pending := some ((0), (0), (0)) }), 0, 0, 0, 0,
    by (try simp only [State.On, State.Awake, State.Opens, State.Ready, Dev.quiet, Dev.acts, Clock.ok]) <;> decide +kernel⟩
theorem witness_TimeGates_7 : ∃ (s : State) (n : Nat), s.Awake ∧ n < 34 ∧ (∀ x, (s.dev.gate n).pending = some x → s.dev.gateNow < x.1) :=
  ⟨mod0, 0, by (try simp only [State.On, State.Awake, State.Opens, State.Ready, Dev.quiet, Dev.acts, Clock.ok]) <;> decide +kernel⟩
theorem witness_TimeGates_8 : ∃ (s : State) (path : Nat) (n : Nat) (i : Nat) (w : Word), s.Opens 0x4B ∧ n < 34 ∧ i = s.dev.num GATE.GCL_IDX n % 256 :=
  ⟨mod0, 0, 0, (mod0.dev.num GATE.GCL_IDX (0) % 256), (0 : Word),
    by (try simp only [State.On, State.Awake, State.Opens, State.Ready, Dev.quiet, Dev.acts, Clock.ok]) <;> decide +kernel⟩
theorem witness_TimeGates_9 : ∃ (s : State) (path : Nat) (n : Nat), s.Opens 0x4B ∧ n < 34 :=
  ⟨mod0, 0, 0, by (try simp only [State.On, State.Awake, State.Opens, State.Ready, Dev.quiet, Dev.acts, Clock.ok]) <;> decide +kernel⟩
/-! ### RefreshDriftAndScrub -/

theorem witness_RefreshDriftAndScrub_0 : ∃ (s : State) (m : Nat) (b : Nat) (n : Nat) (demand : Bool), s.Awake ∧ s.dev.chLive m = true ∧
    n = s.dev.mem.post.get 0 (refKey m b) :=
  ⟨mod0, 0, 0, (mod0.dev.mem.post.get 0 (refKey (0) (0))), false,
    by (try simp only [State.On, State.Awake, State.Opens, State.Ready, Dev.quiet, Dev.acts, Clock.ok]) <;> decide +kernel⟩
theorem witness_RefreshDriftAndScrub_1 : ∃ (s : State) (m : Nat) (b : Nat) (n : Nat) (t : Nat), s.Awake ∧ s.dev.chLive m = true ∧ m < 48 ∧
    n = s.dev.mem.post.get 0 (refKey m b) ∧ 0 < n ∧ t = s.dev.mem.madeUp.get 0 (refKey m b) ∧ (t = 0 ∨ t - 1 + 1800 ≤ s.dev.clk.up) :=
  ⟨(modOf fun d => { d with mem := { d.mem with post := [(0, 1)] } }), 0, 0, (0 + 1), (0),
    by (try simp only [State.On, State.Awake, State.Opens, State.Ready, Dev.quiet, Dev.acts, Clock.ok]) <;> decide +kernel⟩
theorem witness_RefreshDriftAndScrub_2 : ∃ (s : State) (m : Nat) (b : Nat), s.Awake ∧ (s.dev.chLive m = false ∨ 48 ≤ m ∨
    s.dev.mem.post.get 0 (refKey m b) = 0) :=
  ⟨mod0, 0, 0, by (try simp only [State.On, State.Awake, State.Opens, State.Ready, Dev.quiet, Dev.acts, Clock.ok]) <;> decide +kernel⟩
theorem witness_RefreshDriftAndScrub_3 : ∃ (s : State) (m : Nat) (rate : Nat), s.Awake ∧ s.dev.chLive m = true ∧
    s.dev.mem.polled.get 0 m + s.dev.fld MEMC.REF_CFG_MR4_POLL ≤ s.dev.upMs :=
  ⟨mod0, 0, 0, by (try simp only [State.On, State.Awake, State.Opens, State.Ready, Dev.quiet, Dev.acts, Clock.ok]) <;> decide +kernel⟩
theorem witness_RefreshDriftAndScrub_4 : ∃ (s : State) (m : Nat) (rate : Nat), s.Awake ∧ (s.dev.chLive m = false ∨
    s.dev.upMs < s.dev.mem.polled.get 0 m + s.dev.fld MEMC.REF_CFG_MR4_POLL) :=
  ⟨(modOf fun d => d.setFld MEMC.CH_STAT_STATE 2 0), 0, 0,
    by (try simp only [State.On, State.Awake, State.Opens, State.Ready, Dev.quiet, Dev.acts, Clock.ok]) <;> decide +kernel⟩
theorem witness_RefreshDriftAndScrub_5 : ∃ (s : State) (m : Nat), s.Awake ∧ s.dev.chLive m = true ∧ m < 48 ∧ s.dev.graceOver m = true :=
  ⟨(modOf fun d => { d with mem := { d.mem with lowFrom := [(0, 1)], forced := [(0, 3)] } }), 0,
    by (try simp only [State.On, State.Awake, State.Opens, State.Ready, Dev.quiet, Dev.acts, Clock.ok]) <;> decide +kernel⟩
theorem witness_RefreshDriftAndScrub_6 : ∃ (s : State) (m : Nat), s.Awake ∧ (48 ≤ m ∨ s.dev.graceOver m = false) :=
  ⟨mod0, 48, by (try simp only [State.On, State.Awake, State.Opens, State.Ready, Dev.quiet, Dev.acts, Clock.ok]) <;> decide +kernel⟩
theorem witness_RefreshDriftAndScrub_7 : ∃ (s : State) (m : Nat) (n : Nat) (wr : Int) (rd : Int) (old : Int), s.Awake ∧ s.dev.chLive m = true ∧
    s.dev.enabled 0x51 = true ∧ s.dev.on TOP.BOOT_STATUS_READY = true ∧ s.dev.mem.tracked.get 0 m + s.dev.fld MTRN.TRK_CFG_PERIOD m ≤ s.dev.upMs ∧
    n = (bitsOf (s.dev.num MTRN.TRK_STAT m) 16 16 + 1) % 65536 ∧ old = signedOf (bitsOf (s.dev.num MTRN.TRK_STAT m) 8 8) 8 :=
  ⟨(modOf fun d => let d := d.setNum (CTRL 0x51) 1; d.setFld TOP.BOOT_STATUS_READY 1), 0, ((bitsOf ((modOf fun d => let d := d.setNum (CTRL 0x51) 1;
    d.setFld TOP.BOOT_STATUS_READY 1).dev.num MTRN.TRK_STAT (0)) 16 16 + 1) % 65536), 0, 0,
    (signedOf (bitsOf ((modOf fun d => let d := d.setNum (CTRL 0x51) 1; d.setFld TOP.BOOT_STATUS_READY 1).dev.num MTRN.TRK_STAT (0)) 8 8) 8),
    by (try simp only [State.On, State.Awake, State.Opens, State.Ready, Dev.quiet, Dev.acts, Clock.ok]) <;> decide +kernel⟩
theorem witness_RefreshDriftAndScrub_8 : ∃ (s : State) (m : Nat) (wr : Int) (rd : Int), s.Awake ∧ (s.dev.enabled 0x51 = false ∨
    s.dev.on TOP.BOOT_STATUS_READY = false ∨ s.dev.upMs < s.dev.mem.tracked.get 0 m + s.dev.fld MTRN.TRK_CFG_PERIOD m) :=
  ⟨(modOf fun d => d.setNum (CTRL 0x51) 0), 0, 0, 0,
    by (try simp only [State.On, State.Awake, State.Opens, State.Ready, Dev.quiet, Dev.acts, Clock.ok]) <;> decide +kernel⟩
theorem witness_RefreshDriftAndScrub_9 : ∃ (s : State) (c : Instr) (m : Nat), ((c = .scrubStart m ∧ s.Opens 0x50 ∧ m < 64) ∨ (c = .scrubPass m [] ∧
    s.Awake ∧ s.dev.chLive m = true ∧ s.dev.scrubDue m = true)) ∧ s.dev.enabled 0x50 = true ∧ s.dev.chState m = 0 ∧
    s.dev.opState MEMC.SCRUB_STAT m ≠ 1 :=
  ⟨(modOf fun d => let d := d.setNum (CTRL 0x50) 1; d.setNum MEMC.SCRUB_STAT (0) (0)), (.scrubStart (0)), 0,
    by (try simp only [State.On, State.Awake, State.Opens, State.Ready, Dev.quiet, Dev.acts, Clock.ok]) <;> decide +kernel⟩
theorem witness_RefreshDriftAndScrub_10 : ∃ (s : State) (m : Nat), s.Opens 0x50 ∧ m < 64 ∧ (s.dev.enabled 0x50 = false ∨ s.dev.chState m ≠ 0 ∨
    s.dev.opState MEMC.SCRUB_STAT m = 1) :=
  ⟨(modOf fun d => d.setNum (CTRL 0x50) 0), 0,
    by (try simp only [State.On, State.Awake, State.Opens, State.Ready, Dev.quiet, Dev.acts, Clock.ok]) <;> decide +kernel⟩
theorem witness_RefreshDriftAndScrub_11 : ∃ (s : State) (m : Nat) (found : List ScrubFind), s.Awake ∧ s.dev.opState MEMC.SCRUB_STAT m = 1 ∧
    s.dev.chLive m = true ∧ s.dev.enabled 0x50 = true :=
  ⟨(modOf fun d => let d := d.setNum MEMC.SCRUB_STAT (1) (0); d.setNum (CTRL 0x50) 1), 0, [],
    by (try simp only [State.On, State.Awake, State.Opens, State.Ready, Dev.quiet, Dev.acts, Clock.ok]) <;> decide +kernel⟩
theorem witness_RefreshDriftAndScrub_12 : ∃ (s : State) (m : Nat) (x : ScrubFind) (t : Nat), s.Awake ∧ s.dev.opState MEMC.SCRUB_STAT m = 1 ∧
    s.dev.chLive m = true ∧ s.dev.enabled 0x50 = true ∧ m < 48 ∧ s.dev.slotHere m (x.addr % 2 ^ 29) = some t ∧ s.dev.flow.opened.get none t = none ∧
    slotKind (s.dev.slotAt false t) = 1 ∧ s.dev.rebuilding = false ∧ oneSymbol x.word = false :=
  ⟨(modOf fun d => let d := d.setNum MEMC.SCRUB_STAT 1 0; { d with flow := { d.flow with mem := [(0, 1)] } }), 0,
    ({ addr := 0, word := { word := 0, sym0 := 0, sym1 := 1 } } : ScrubFind), 0,
    by (try simp only [State.On, State.Awake, State.Opens, State.Ready, Dev.quiet, Dev.acts, Clock.ok]) <;> decide +kernel⟩
theorem witness_RefreshDriftAndScrub_13 : ∃ (s : State) (m : Nat) (found : List ScrubFind), s.Awake ∧ s.dev.opState MEMC.SCRUB_STAT m ≠ 1 ∧
    s.dev.scrubDue m = false :=
  ⟨(modOf fun d => d.setFld MEMC.CH_CFG_SCRUB_EN 0 0), 0, [],
    by (try simp only [State.On, State.Awake, State.Opens, State.Ready, Dev.quiet, Dev.acts, Clock.ok]) <;> decide +kernel⟩
theorem witness_RefreshDriftAndScrub_14 : ∃ (s : State) (m : Nat), s.Opens 0x50 ∧ m < 64 ∧ s.dev.opState MEMC.SCRUB_STAT m = 1 :=
  ⟨(modOf fun d => d.setNum MEMC.SCRUB_STAT (1) (0)), 0,
    by (try simp only [State.On, State.Awake, State.Opens, State.Ready, Dev.quiet, Dev.acts, Clock.ok]) <;> decide +kernel⟩
/-! ### TrainingSteps -/

theorem witness_TrainingSteps_0 : ∃ (s : State) (c : Instr) (m : Nat) (step : Nat), ((c = .commandBusTraining m ∧ step = 0) ∨
    (c = .wck2ckLevelling m ∧ step = 1) ∨ (c = .readTraining m ∧ step = 2) ∨ (c = .writeTraining m ∧ step = 3) ∨ (c = .check m ∧ step = 4)) ∧
    s.Opens 0x51 ∧ m < 64 ∧ s.dev.on MTRN.TRAIN_STAT_WINDOW = true ∧ s.dev.opState MTRN.STEP_STAT m ≠ 1 :=
  ⟨(modOf fun d => let d := d.setFld MTRN.TRAIN_STAT_WINDOW 1; d.setNum MTRN.STEP_STAT (0) (0)), (.commandBusTraining (0)), 0, (0),
    by (try simp only [State.On, State.Awake, State.Opens, State.Ready, Dev.quiet, Dev.acts, Clock.ok]) <;> decide +kernel⟩
theorem witness_TrainingSteps_1 : ∃ (s : State) (c : Instr) (m : Nat) (e : List Nat), (c = .commandBusTraining m ∨ c = .wck2ckLevelling m ∨
    c = .readTraining m ∨ c = .writeTraining m ∨ c = .check m ∨ c = .cmpWrite m ∨ c = .cmpReadCmp m e ∨ c = .cmpClear m) ∧ s.Opens 0x51 ∧ m < 64 ∧
    s.dev.on MTRN.TRAIN_STAT_WINDOW = false :=
  ⟨(modOf fun d => d.setFld MTRN.TRAIN_STAT_WINDOW 0), (.commandBusTraining (0)), 0, [],
    by (try simp only [State.On, State.Awake, State.Opens, State.Ready, Dev.quiet, Dev.acts, Clock.ok]) <;> decide +kernel⟩
theorem witness_TrainingSteps_2 : ∃ (s : State) (m : Nat), s.Opens 0x51 ∧ m < 64 ∧ s.dev.opState MTRN.STEP_STAT m = 1 :=
  ⟨(modOf fun d => d.setNum MTRN.STEP_STAT (1) (0)), 0,
    by (try simp only [State.On, State.Awake, State.Opens, State.Ready, Dev.quiet, Dev.acts, Clock.ok]) <;> decide +kernel⟩
theorem witness_TrainingSteps_3 : ∃ (s : State) (m : Nat) (progress : Nat) (t : Trained), s.Awake ∧ m = t.channel % 64 ∧
    s.dev.opState MTRN.STEP_STAT m = 1 ∧ t.ok = true :=
  ⟨(modOf fun d => d.setNum MTRN.STEP_STAT (1) ((((let zz : Trained :=
    ({ channel := 0, ok := true, rd := [], wr := [], ca := [], wck := 0, gate := 0, vref := [], rate := 0 } : Trained);
    { zz with ok := true })).channel % 64))), (((let zz : Trained :=
    ({ channel := 0, ok := true, rd := [], wr := [], ca := [], wck := 0, gate := 0, vref := [], rate := 0 } : Trained);
    { zz with ok := true })).channel % 64), 0, (let zz : Trained :=
    ({ channel := 0, ok := true, rd := [], wr := [], ca := [], wck := 0, gate := 0, vref := [], rate := 0 } : Trained); { zz with ok := true }),
    by (try simp only [State.On, State.Awake, State.Opens, State.Ready, Dev.quiet, Dev.acts, Clock.ok]) <;> decide +kernel⟩
theorem witness_TrainingSteps_4 : ∃ (s : State) (m : Nat) (progress : Nat) (t : Trained), s.Awake ∧ m = t.channel % 64 ∧
    s.dev.opState MTRN.STEP_STAT m = 1 ∧ t.ok = false :=
  ⟨(modOf fun d => d.setNum MTRN.STEP_STAT (1) ((((let zz : Trained :=
    ({ channel := 0, ok := true, rd := [], wr := [], ca := [], wck := 0, gate := 0, vref := [], rate := 0 } : Trained);
    { zz with ok := false })).channel % 64))), (((let zz : Trained :=
    ({ channel := 0, ok := true, rd := [], wr := [], ca := [], wck := 0, gate := 0, vref := [], rate := 0 } : Trained);
    { zz with ok := false })).channel % 64), 0, (let zz : Trained :=
    ({ channel := 0, ok := true, rd := [], wr := [], ca := [], wck := 0, gate := 0, vref := [], rate := 0 } : Trained); { zz with ok := false }),
    by (try simp only [State.On, State.Awake, State.Opens, State.Ready, Dev.quiet, Dev.acts, Clock.ok]) <;> decide +kernel⟩
theorem witness_TrainingSteps_5 : ∃ (s : State) (progress : Nat) (t : Trained), s.Awake ∧ s.dev.opState MTRN.STEP_STAT (t.channel % 64) ≠ 1 :=
  ⟨(modOf fun d => d.setNum MTRN.STEP_STAT (0) ((({ channel := 0, ok := true, rd := [], wr := [], ca := [], wck := 0, gate := 0, vref := [], rate :=
    0 } : Trained)).channel % 64)), 0, ({ channel := 0, ok := true, rd := [], wr := [], ca := [], wck := 0, gate := 0, vref := [], rate :=
    0 } : Trained), by (try simp only [State.On, State.Awake, State.Opens, State.Ready, Dev.quiet, Dev.acts, Clock.ok]) <;> decide +kernel⟩
theorem witness_TrainingSteps_6 : ∃ (s : State) (m : Nat), s.Opens 0x51 ∧ m < 64 ∧ s.dev.on MTRN.TRAIN_STAT_WINDOW = true :=
  ⟨(modOf fun d => d.setFld MTRN.TRAIN_STAT_WINDOW 1), 0,
    by (try simp only [State.On, State.Awake, State.Opens, State.Ready, Dev.quiet, Dev.acts, Clock.ok]) <;> decide +kernel⟩
theorem witness_TrainingSteps_7 : ∃ (s : State) (m : Nat) (e : List Nat), s.Opens 0x51 ∧ m < 64 ∧ s.dev.on MTRN.TRAIN_STAT_WINDOW = true :=
  ⟨(modOf fun d => d.setFld MTRN.TRAIN_STAT_WINDOW 1), 0, [],
    by (try simp only [State.On, State.Awake, State.Opens, State.Ready, Dev.quiet, Dev.acts, Clock.ok]) <;> decide +kernel⟩
theorem witness_TrainingSteps_8 : ∃ (s : State) (m : Nat), s.Opens 0x51 ∧ m < 64 ∧ s.dev.on MTRN.TRAIN_STAT_WINDOW = true :=
  ⟨(modOf fun d => d.setFld MTRN.TRAIN_STAT_WINDOW 1), 0,
    by (try simp only [State.On, State.Awake, State.Opens, State.Ready, Dev.quiet, Dev.acts, Clock.ok]) <;> decide +kernel⟩
/-! ### ChannelRetirement -/

theorem witness_ChannelRetirement_0 : ∃ (s : State) (m : Nat), s.Opens 0x50 ∧ m < 48 ∧ s.dev.retireRefused m = false :=
  ⟨mod0, 0, by (try simp only [State.On, State.Awake, State.Opens, State.Ready, Dev.quiet, Dev.acts, Clock.ok]) <;> decide +kernel⟩
theorem witness_ChannelRetirement_1 : ∃ (s : State) (m : Nat), s.Opens 0x50 ∧ 48 ≤ m ∧ m < 64 ∧ s.dev.retireRefused m = false :=
  ⟨mod0, 48, by (try simp only [State.On, State.Awake, State.Opens, State.Ready, Dev.quiet, Dev.acts, Clock.ok]) <;> decide +kernel⟩
theorem witness_ChannelRetirement_2 : ∃ (s : State) (m : Nat), s.Opens 0x50 ∧ m < 64 ∧ s.dev.retireRefused m = true :=
  ⟨(modOf fun d => d.setNum MEMC.RETIRED_LO 1), 0,
    by (try simp only [State.On, State.Awake, State.Opens, State.Ready, Dev.quiet, Dev.acts, Clock.ok]) <;> decide +kernel⟩
theorem witness_ChannelRetirement_3 : ∃ (s : State) (r : Retire) (ue : Option BadWord), s.Awake ∧ s.dev.mem.retire = some r ∧ r.channel < 48 ∧
    r.switchNs = none ∧ s.dev.flow.opened.get none (48 * r.copied + r.channel) = none :=
  ⟨(modOf fun d => let d := { d with mem := { d.mem with retire := some ((let zz : Retire := ({ channel := 0 } : Retire); { zz with switchNs :=
    none })) } }; { d with flow := { d.flow with opened := d.flow.opened.set none (48 * ((let zz : Retire := ({ channel := 0 } : Retire);
    { zz with switchNs := none })).copied + ((let zz : Retire := ({ channel := 0 } : Retire); { zz with switchNs := none })).channel) (none) } }),
    (let zz : Retire := ({ channel := 0 } : Retire); { zz with switchNs := none }), none,
    by (try simp only [State.On, State.Awake, State.Opens, State.Ready, Dev.quiet, Dev.acts, Clock.ok]) <;> decide +kernel⟩
theorem witness_ChannelRetirement_4 : ∃ (s : State) (r : Retire) (ue : Option BadWord), s.Awake ∧ s.dev.mem.retire = some r ∧ r.channel < 48 ∧
    (s.dev.flow.opened.get none (48 * r.copied + r.channel)).isSome = true :=
  ⟨(modOf fun d => let d := { d with mem := { d.mem with retire := some (({ channel := 0 } : Retire)) } };
    { d with flow := { d.flow with opened := d.flow.opened.set none 0 (some { value := 1 }) } }), ({ channel := 0 } : Retire), none,
    by (try simp only [State.On, State.Awake, State.Opens, State.Ready, Dev.quiet, Dev.acts, Clock.ok]) <;> decide +kernel⟩
theorem witness_ChannelRetirement_5 : ∃ (s : State) (r : Retire) (t : Nat), s.Awake ∧ s.dev.mem.retire = some r ∧ r.channel < 64 ∧
    r.switchNs = some t ∧ t ≤ s.dev.nowNs :=
  ⟨(modOf fun d => { d with mem := { d.mem with retire := some ((let zz : Retire := ({ channel := 0 } : Retire);
    { zz with switchNs := some (0) })) } }), (let zz : Retire := ({ channel := 0 } : Retire); { zz with switchNs := some (0) }), 0,
    by (try simp only [State.On, State.Awake, State.Opens, State.Ready, Dev.quiet, Dev.acts, Clock.ok]) <;> decide +kernel⟩
theorem witness_ChannelRetirement_6 : ∃ (s : State) (r : Retire) (t : Nat), s.Awake ∧ s.dev.mem.retire = some r ∧ r.switchNs = some t ∧
    s.dev.nowNs < t :=
  ⟨(modOf fun d => { d with mem := { d.mem with retire := some { channel := 0, switchNs := some (10 ^ 18) } } }),
    { channel := 0, switchNs := some (10 ^ 18) }, (10 ^ 18),
    by (try simp only [State.On, State.Awake, State.Opens, State.Ready, Dev.quiet, Dev.acts, Clock.ok]) <;> decide +kernel⟩
theorem witness_ChannelRetirement_7 : ∃ (s : State) (m : Nat), s.Awake ∧ m < 48 ∧ s.dev.enabled 0x50 = true ∧ s.dev.chState m = 0 ∧
    s.dev.on MEMC.RETIRE_CFG_AUTO = true ∧ s.dev.fld MEMC.RETIRE_CFG_UE_TH ≤ s.dev.uesNow m ∧ s.dev.retireRefused m = false :=
  ⟨(modOf fun d => let d := d.setNum (CTRL 0x50) 1; let d := d.setFld MEMC.RETIRE_CFG_AUTO 1; { d with mem := { d.mem with ues := [(0,
    List.replicate 256 100000)] } }), 0, by (try simp only [State.On, State.Awake, State.Opens, State.Ready, Dev.quiet, Dev.acts, Clock.ok]) <;> decide +kernel⟩
theorem witness_ChannelRetirement_8 : ∃ (s : State) (m : Nat), s.Awake ∧ m < 64 ∧ s.dev.on MEMC.RETIRE_CFG_AUTO = false ∧
    s.dev.on MEMC.RETIRE_CFG_PIN_AUTO = false :=
  ⟨(modOf fun d => let d := d.setFld MEMC.RETIRE_CFG_AUTO 0; d.setFld MEMC.RETIRE_CFG_PIN_AUTO 0), 0,
    by (try simp only [State.On, State.Awake, State.Opens, State.Ready, Dev.quiet, Dev.acts, Clock.ok]) <;> decide +kernel⟩
theorem witness_ChannelRetirement_9 : ∃ (s : State) (r : Retire), s.Awake ∧ s.dev.mem.retire = some r ∧ 48 ≤ r.channel ∧ r.channel < 64 ∧
    s.dev.idleBlocks r.channel = 262144 :=
  ⟨(modOf fun d => { d with mem := { d.mem with retire := some ({ channel := 63 }) } }), { channel := 63 },
    by (try simp only [State.On, State.Awake, State.Opens, State.Ready, Dev.quiet, Dev.acts, Clock.ok]) <;> decide +kernel⟩
theorem witness_ChannelRetirement_10 : ∃ (s : State) (r : Retire), s.Awake ∧ s.dev.mem.retire = some r ∧ s.dev.idleBlocks r.channel ≠ 262144 :=
  ⟨(modOf fun d => let d := { d with mem := { d.mem with retire := some ({ channel := 48 }) } }; d.setLink 1 0 { alloc := true }), { channel := 48 },
    by (try simp only [State.On, State.Awake, State.Opens, State.Ready, Dev.quiet, Dev.acts, Clock.ok]) <;> decide +kernel⟩
/-! ### TandemAgreement -/

theorem witness_TandemAgreement_0 : ∃ (s : State), s.Awake ∧ s.dev.enabled 0x58 = true ∧ s.dev.portState 33 = 5 ∧
    s.dev.tandem.sentHb + s.dev.hbPeriod ≤ s.dev.clk.up :=
  ⟨(modOf fun d => let d := d.setNum (CTRL 0x58) 1; d.setPortState 33 5),
    by (try simp only [State.On, State.Awake, State.Opens, State.Ready, Dev.quiet, Dev.acts, Clock.ok]) <;> decide +kernel⟩
theorem witness_TandemAgreement_1 : ∃ (s : State), s.Awake ∧ (s.dev.enabled 0x58 = false ∨ s.dev.portState 33 ≠ 5 ∨
    s.dev.clk.up < s.dev.tandem.sentHb + s.dev.hbPeriod) :=
  ⟨(modOf fun d => d.setNum (CTRL 0x58) 0),
    by (try simp only [State.On, State.Awake, State.Opens, State.Ready, Dev.quiet, Dev.acts, Clock.ok]) <;> decide +kernel⟩
theorem witness_TandemAgreement_2 : ∃ (s : State) (bs : List Byte) (r : Nat), s.Awake ∧ isHeartbeat bs = true ∧ s.dev.portState 33 = 5 ∧
    s.dev.enabled 0x58 = true ∧ s.dev.hbReason bs (hbTheta2 bs (s.dev.stamp 8).toNat) = some r :=
  ⟨(modOf fun d => let d := d.setPortState 33 5; let d := d.setNum (CTRL 0x58) 1; d.setFld TNDM.STATE_STATE 2), (List.replicate 12 0 ++ [0x88, 0xB5,
    1, 1, 0] ++ List.replicate 43 0), 9, by (try simp only [State.On, State.Awake, State.Opens, State.Ready, Dev.quiet, Dev.acts, Clock.ok]) <;> decide +kernel⟩
theorem witness_TandemAgreement_3 : ∃ (s : State) (bs : List Byte) (n : Nat), s.Awake ∧ isHeartbeat bs = true ∧ s.dev.portState 33 = 5 ∧
    s.dev.enabled 0x58 = true ∧ s.dev.hbReason bs (hbTheta2 bs (s.dev.stamp 8).toNat) = none ∧ s.dev.tState = 2 ∧
    n = s.dev.hbAgree bs (hbTheta2 bs (s.dev.stamp 8).toNat) :=
  ⟨(modOf fun d => let d := d.setPortState 33 5; let d := d.setNum (CTRL 0x58) 1; d.setFld TNDM.STATE_STATE 2), (List.replicate 12 0 ++ [0x88, 0xB5,
    1, 1, 1] ++ List.replicate 43 0), ((modOf fun d => let d := d.setPortState 33 5; let d := d.setNum (CTRL 0x58) 1;
    d.setFld TNDM.STATE_STATE 2).dev.hbAgree ((List.replicate 12 0 ++ [0x88, 0xB5, 1, 1,
    1] ++ List.replicate 43 0)) (hbTheta2 ((List.replicate 12 0 ++ [0x88, 0xB5, 1, 1,
    1] ++ List.replicate 43 0)) ((modOf fun d => let d := d.setPortState 33 5; let d := d.setNum (CTRL 0x58) 1;
    d.setFld TNDM.STATE_STATE 2).dev.stamp 8).toNat)),
    by (try simp only [State.On, State.Awake, State.Opens, State.Ready, Dev.quiet, Dev.acts, Clock.ok]) <;> decide +kernel⟩
theorem witness_TandemAgreement_4 : ∃ (s : State) (bs : List Byte), s.Awake ∧ (isHeartbeat bs = false ∨ s.dev.portState 33 ≠ 5 ∨
    s.dev.enabled 0x58 = false) :=
  ⟨mod0, [], by (try simp only [State.On, State.Awake, State.Opens, State.Ready, Dev.quiet, Dev.acts, Clock.ok]) <;> decide +kernel⟩
theorem witness_TandemAgreement_5 : ∃ (s : State), s.Awake ∧ 3 ≤ s.dev.tState ∧ s.dev.tState ≤ 5 ∧
    s.dev.tandem.lastHb + s.dev.fld TNDM.HB_CFG_HB_MISS * s.dev.hbPeriod ≤ s.dev.clk.up :=
  ⟨(modOf fun d => d.setFld TNDM.STATE_STATE 3),
    by (try simp only [State.On, State.Awake, State.Opens, State.Ready, Dev.quiet, Dev.acts, Clock.ok]) <;> decide +kernel⟩
theorem witness_TandemAgreement_6 : ∃ (s : State), s.Awake ∧ (s.dev.tState < 3 ∨ 5 < s.dev.tState ∨
    s.dev.clk.up < s.dev.tandem.lastHb + s.dev.fld TNDM.HB_CFG_HB_MISS * s.dev.hbPeriod) :=
  ⟨mod0, by (try simp only [State.On, State.Awake, State.Opens, State.Ready, Dev.quiet, Dev.acts, Clock.ok]) <;> decide +kernel⟩
theorem witness_TandemAgreement_7 : ∃ (s : State) (bs : List Byte), s.Awake ∧ s.dev.tState = 3 ∧ s.dev.on TNDM.STATE_KEY_SOURCE = false ∧
    (s.dev.on TNDM.LINK_KEY_STAT_VALID = false ∨ bs.length ≠ 48) :=
  ⟨(modOf fun d => let d := d.setFld TNDM.STATE_STATE 3; let d := d.setFld TNDM.STATE_KEY_SOURCE 0; d.setFld TNDM.LINK_KEY_STAT_VALID 0), [],
    by (try simp only [State.On, State.Awake, State.Opens, State.Ready, Dev.quiet, Dev.acts, Clock.ok]) <;> decide +kernel⟩
theorem witness_TandemAgreement_8 : ∃ (s : State) (bs : List Byte) (x : Nat) (y : Nat), s.Awake ∧ s.dev.tState = 3 ∧
    s.dev.on TNDM.STATE_KEY_SOURCE = false ∧ s.dev.on TNDM.LINK_KEY_STAT_VALID = true ∧ bs.length = 48 ∧
    x = leNat (aesBlock true s.dev.tandem.linkKey (bs.take 16)) ∧ y = leNat (aesBlock true s.dev.tandem.linkKey ((bs.drop 16).take 16)) ∧
    x ^^^ y = leNat (aesBlock true s.dev.tandem.linkKey ((bs.drop 32).take 16)) :=
  ⟨(modOf fun d => let d := d.setFld TNDM.STATE_STATE 3; let d := d.setFld TNDM.LINK_KEY_STAT_VALID 1; { d with tandem := { d.tandem with linkKey :=
    (List.replicate 32 1) } }), (List.replicate 32 0 ++ aesBlock false (List.replicate 32 1) (List.replicate 16 0)),
    (leNat (aesBlock true (List.replicate 32 1) (List.replicate 16 0))), (leNat (aesBlock true (List.replicate 32 1) (List.replicate 16 0))),
    by (try simp only [State.On, State.Awake, State.Opens, State.Ready, Dev.quiet, Dev.acts, Clock.ok]) <;> decide +kernel⟩
theorem witness_TandemAgreement_9 : ∃ (s : State) (bs : List Byte), s.Awake ∧ (s.dev.tState ≠ 3 ∨ s.dev.on TNDM.STATE_KEY_SOURCE = true) :=
  ⟨mod0, [], by (try simp only [State.On, State.Awake, State.Opens, State.Ready, Dev.quiet, Dev.acts, Clock.ok]) <;> decide +kernel⟩
theorem witness_TandemAgreement_10 : ∃ (s : State) (c : Instr) (path : Nat), (c = .linkKeyLoad path ∨ c = .linkKeyErase path) ∧ s.Opens 0x58 ∧
    path < 2 :=
  ⟨mod0, (.linkKeyLoad (0)), 0, by (try simp only [State.On, State.Awake, State.Opens, State.Ready, Dev.quiet, Dev.acts, Clock.ok]) <;> decide +kernel⟩
/-! ### ReplicationAndResync -/

theorem witness_ReplicationAndResync_0 : ∃ (s : State) (bs : List Byte) (m : ReplMsg), s.Awake ∧ s.dev.replicating = true ∧ s.dev.portState 33 = 5 ∧
    replParse bs = some m ∧ m.home < 2 * s.dev.altMask ∧ (s.dev.replWin : Int) < stampDiff (s.dev.stamp 8).toNat m.stamp :=
  ⟨(modOf fun d => let d := d.setFld TNDM.STATE_STATE 4; d.setPortState 33 5), (List.replicate 56 0),
    ((replParse (List.replicate 56 0)).getD { kind := 0, reason := 0, home := 0, stamp := 0, wide := false, record := 1 }),
    by (try simp only [State.On, State.Awake, State.Opens, State.Ready, Dev.quiet, Dev.acts, Clock.ok]) <;> decide +kernel⟩
theorem witness_ReplicationAndResync_1 : ∃ (s : State) (bs : List Byte) (m : ReplMsg) (c : Change), s.Awake ∧ s.dev.replicating = true ∧
    s.dev.portState 33 = 5 ∧ replParse bs = some m ∧ m.home < 2 * s.dev.altMask ∧ stampDiff (s.dev.stamp 8).toNat m.stamp ≤ s.dev.replWin ∧
    c ∈ s.dev.tandem.cache ∧ c.home = m.home ∧ c.key = recKey m.record ∧ s.dev.islandNs 8 ≤ c.stamp + s.dev.replWin ∧ nsOfStamp m.stamp < c.stamp :=
  ⟨(modOf fun d => let d := d.setFld TNDM.STATE_STATE 4; let d := d.setPortState 33 5;
    { d with tandem := { d.tandem with cache := [{ home := 0, key := recKey ((replParse
    (List.replicate 8 0 ++ leBytes 8 (100000 * 2 ^ 30) ++ List.replicate
    40 0)).getD { kind := 0, reason := 0, home := 0, stamp := 0, wide := false, record := 1 }).record, stamp := 10 ^ 14 + 1, origin := 0 }] } }),
    (List.replicate 8 0 ++ leBytes 8 (100000 * 2 ^ 30) ++ List.replicate 40 0), ((replParse (List.replicate 8 0 ++ leBytes 8 (100000 * 2 ^ 30)
    ++ List.replicate 40 0)).getD { kind := 0, reason := 0, home := 0, stamp := 0, wide := false, record := 1 }),
    { home := 0, key := recKey ((replParse (List.replicate 8 0 ++
    leBytes 8 (100000 * 2 ^ 30) ++ List.replicate 40 0)).getD { kind := 0, reason := 0, home := 0, stamp := 0, wide := false, record := 1 }).record, stamp := 10 ^ 14 + 1, origin := 0 },
    by (try simp only [State.On, State.Awake, State.Opens, State.Ready, Dev.quiet, Dev.acts, Clock.ok]) <;> decide +kernel⟩
theorem witness_ReplicationAndResync_2 : ∃ (s : State) (bs : List Byte) (m : ReplMsg) (t : Nat), s.Awake ∧ s.dev.replicating = true ∧
    s.dev.portState 33 = 5 ∧ replParse bs = some m ∧ m.home < 2 * s.dev.altMask ∧ stampDiff (s.dev.stamp 8).toNat m.stamp ≤ s.dev.replWin ∧
    s.dev.tandem.cache = [] ∧ 2 ≤ m.kind ∧ s.dev.rebuilding = false ∧ s.dev.keyAt m.home (recKey m.record) = some t :=
  ⟨(modOf fun d => let d := d.setFld TNDM.STATE_STATE 4; let d := d.setPortState 33 5;
    { d with flow := { d.flow with opened := d.flow.opened.set none 0 (some { value := 1 }) } }),
    ([2] ++ List.replicate 7 0 ++ leBytes 8 (100000 * 2 ^ 30) ++ List.replicate 16 0), ((replParse ([2] ++ List.replicate 7 0 ++ leBytes 8 (100000 *
    2 ^ 30) ++ List.replicate 16 0)).getD { kind := 0, reason := 0, home := 0, stamp := 0, wide := false, record := 1 }), 0,
    by (try simp only [State.On, State.Awake, State.Opens, State.Ready, Dev.quiet, Dev.acts, Clock.ok]) <;> decide +kernel⟩
theorem witness_ReplicationAndResync_3 : ∃ (s : State) (bs : List Byte) (m : ReplMsg), s.Awake ∧ s.dev.tandem.cache = [] ∧ replParse bs = some m ∧
    stampDiff (s.dev.stamp 8).toNat m.stamp ≤ s.dev.replWin ∧ m.kind ≠ 0 ∧ s.dev.keyAt m.home (recKey m.record) = none :=
  ⟨(modOf fun d => let d := d.setFld TNDM.STATE_STATE 4; d.setPortState 33 5),
    ([2] ++ List.replicate 7 0 ++ leBytes 8 (100000 * 2 ^ 30) ++ List.replicate 16 0), ((replParse ([2] ++ List.replicate 7 0 ++ leBytes 8 (100000 *
    2 ^ 30) ++ List.replicate 16 0)).getD { kind := 0, reason := 0, home := 0, stamp := 0, wide := false, record := 1 }),
    by (try simp only [State.On, State.Awake, State.Opens, State.Ready, Dev.quiet, Dev.acts, Clock.ok]) <;> decide +kernel⟩
theorem witness_ReplicationAndResync_4 : ∃ (s : State) (bs : List Byte), s.Awake ∧ (replParse bs = none ∨ s.dev.replicating = false) :=
  ⟨mod0, [], by (try simp only [State.On, State.Awake, State.Opens, State.Ready, Dev.quiet, Dev.acts, Clock.ok]) <;> decide +kernel⟩
theorem witness_ReplicationAndResync_5 : ∃ (s : State) (home : Nat) (key : Nat), s.Awake ∧ s.dev.tState = 5 ∧ s.dev.portState 33 = 5 ∧
    home < 2 * s.dev.altMask :=
  ⟨(modOf fun d => let d := d.setFld TNDM.STATE_STATE 5; d.setPortState 33 5), 0, 0,
    by (try simp only [State.On, State.Awake, State.Opens, State.Ready, Dev.quiet, Dev.acts, Clock.ok]) <;> decide +kernel⟩
theorem witness_ReplicationAndResync_6 : ∃ (s : State) (t : Nat) (inc : Nat) (up : Nat), s.Awake ∧ s.dev.tState = 5 ∧ s.dev.portState 33 = 5 ∧ (t,
    inc, up) ∈ s.dev.tandem.queries :=
  ⟨(modOf fun d => let d := d.setFld TNDM.STATE_STATE 5; let d := d.setPortState 33 5; { d with tandem := { d.tandem with queries := [(0, 0,
    0)] } }), 0, 0, 0, by (try simp only [State.On, State.Awake, State.Opens, State.Ready, Dev.quiet, Dev.acts, Clock.ok]) <;> decide +kernel⟩
theorem witness_ReplicationAndResync_7 : ∃ (s : State) (t : Nat) (inc : Nat) (up : Nat), s.Awake ∧ s.dev.tState = 5 ∧ s.dev.portState 33 = 5 ∧ (t,
    inc, up) ∈ s.dev.tandem.queries ∧ s.dev.recordAt false t ≠ 0 ∧ rIncarn.get (s.dev.recordAt false t) = inc ∧
    s.dev.recDue (s.dev.recordAt false t) = true ∧ s.dev.heldBy t (s.dev.flow.served + 1) none = false ∧ s.dev.rebuilding = false :=
  ⟨(modOf fun d => let d := d.setFld TNDM.STATE_STATE 5; let d := d.setPortState 33 5; let d := { d with tandem := { d.tandem with queries := [(0, 0,
    0)] } }; let d := { d with flow := { d.flow with opened := d.flow.opened.set none 0 (some { value := 1 }) } }; { d with spore :=
    { d.spore with long := true } }), 0, 0, 0,
    by (try simp only [State.On, State.Awake, State.Opens, State.Ready, Dev.quiet, Dev.acts, Clock.ok]) <;> decide +kernel⟩
theorem witness_ReplicationAndResync_8 : ∃ (s : State) (t : Nat) (inc : Nat) (yes : Bool), s.Awake ∧ (∀ u, (t, inc, u) ∉ s.dev.tandem.queries) :=
  ⟨mod0, 0, 0, false, by (try simp only [State.Awake, State.On]) <;> decide +kernel, by intro u h; cases h⟩
theorem witness_ReplicationAndResync_9 : ∃ (s : State) (q : Nat × Nat × Nat), s.Awake ∧ s.dev.tandem.queries.find? (fun x => x.1 = q.1) = some q ∧
    q.2.2 + s.dev.replWin * 10 ≤ s.dev.clk.up :=
  ⟨(modOf fun d => { d with tandem := { d.tandem with queries := [(0, 0, 0)] } }), (0, 0, 0),
    by (try simp only [State.On, State.Awake, State.Opens, State.Ready, Dev.quiet, Dev.acts, Clock.ok]) <;> decide +kernel⟩
theorem witness_ReplicationAndResync_10 : ∃ (s : State) (t : Nat), s.Awake ∧ (∀ q ∈ s.dev.tandem.queries,
    q.1 = t → s.dev.clk.up < q.2.2 + s.dev.replWin * 10) :=
  ⟨mod0, 0, by (try simp only [State.On, State.Awake, State.Opens, State.Ready, Dev.quiet, Dev.acts, Clock.ok]) <;> decide +kernel⟩
theorem witness_ReplicationAndResync_11 : ∃ (s : State) (dig : Nat) (stamp : Nat) (aged : Bool) (due : Bool), s.Awake ∧ s.dev.tState = 4 ∧
    s.dev.opState TNDM.RESYNC_STAT = 1 ∧ s.dev.flow.opened.get none s.dev.resyncSlot = none ∧ s.dev.tandem.cursor < s.dev.altMask ∧
    s.dev.digest s.dev.resyncSlot = dig :=
  ⟨(modOf fun d => let d := d.setFld TNDM.STATE_STATE 4; let d := d.setNum TNDM.RESYNC_STAT (1);
    { d with flow := { d.flow with opened := d.flow.opened.set none d.resyncSlot (none) } }), 0, 0, false, false,
    by (try simp only [State.On, State.Awake, State.Opens, State.Ready, Dev.quiet, Dev.acts, Clock.ok]) <;> decide +kernel⟩
theorem witness_ReplicationAndResync_12 : ∃ (s : State) (dig : Nat) (stamp : Nat) (t : Nat) (r : Nat) (aged : Bool) (due : Bool), s.Awake ∧
    s.dev.tState = 4 ∧ s.dev.opState TNDM.RESYNC_STAT = 1 ∧ t = s.dev.resyncSlot ∧ s.dev.flow.opened.get none t = none ∧
    s.dev.tandem.cursor < s.dev.altMask ∧ s.dev.digest t ≠ dig ∧ slotKind (s.dev.slotAt false t) ≠ 3 ∧ r = s.dev.recordAt false t :=
  ⟨(modOf fun d => let d := d.setFld TNDM.STATE_STATE 4; let d := d.setNum TNDM.RESYNC_STAT (1);
    { d with flow := { d.flow with opened := d.flow.opened.set none ((d.resyncSlot)) (none) } }), 1, 0,
    ((modOf fun d => let d := d.setFld TNDM.STATE_STATE 4; let d := d.setNum TNDM.RESYNC_STAT (1);
    { d with flow := { d.flow with opened := d.flow.opened.set none ((d.resyncSlot)) (none) } }).dev.resyncSlot),
    ((modOf fun d => let d := d.setFld TNDM.STATE_STATE 4; let d := d.setNum TNDM.RESYNC_STAT (1);
    { d with flow := { d.flow with opened := d.flow.opened.set none ((d.resyncSlot)) (none) } }).dev.recordAt false (((modOf fun d => let d := d.setFld TNDM.STATE_STATE 4;
    let d := d.setNum TNDM.RESYNC_STAT (1);
    { d with flow := { d.flow with opened := d.flow.opened.set none ((d.resyncSlot)) (none) } }).dev.resyncSlot))), false, false,
    by (try simp only [State.On, State.Awake, State.Opens, State.Ready, Dev.quiet, Dev.acts, Clock.ok]) <;> decide +kernel⟩
theorem witness_ReplicationAndResync_13 : ∃ (s : State) (dig : Nat) (stamp : Nat) (aged : Bool) (due : Bool), s.Awake ∧ (s.dev.tState ≠ 4 ∨
    s.dev.opState TNDM.RESYNC_STAT ≠ 1 ∨ (s.dev.flow.opened.get none s.dev.resyncSlot).isSome = true ∨ s.dev.altMask ≤ s.dev.tandem.cursor) :=
  ⟨mod0, 0, 0, false, false, by (try simp only [State.On, State.Awake, State.Opens, State.Ready, Dev.quiet, Dev.acts, Clock.ok]) <;> decide +kernel⟩
theorem witness_ReplicationAndResync_14 : ∃ (s : State), s.Opens 0x58 ∧ s.dev.tState = 6 ∧ s.dev.fld TNDM.STATE_REASON = 8 ∧ 0 < s.dev.tandem.agree :=
  ⟨(modOf fun d => let d := d.setFld TNDM.STATE_STATE 6; let d := d.setFld TNDM.STATE_REASON (8); { d with tandem := { d.tandem with agree :=
    0 + 1 } }), by (try simp only [State.On, State.Awake, State.Opens, State.Ready, Dev.quiet, Dev.acts, Clock.ok]) <;> decide +kernel⟩
theorem witness_ReplicationAndResync_15 : ∃ (s : State), s.Opens 0x58 ∧ (s.dev.tState ≠ 6 ∨ s.dev.fld TNDM.STATE_REASON ≠ 8 ∨
    s.dev.tandem.agree = 0) :=
  ⟨mod0, by (try simp only [State.On, State.Awake, State.Opens, State.Ready, Dev.quiet, Dev.acts, Clock.ok]) <;> decide +kernel⟩
theorem witness_ReplicationAndResync_16 : ∃ (s : State), s.Opens 0x58 ∧ s.dev.opState TNDM.RESYNC_STAT = 1 ∧ s.dev.tState = 4 ∧
    s.dev.altMask ≤ s.dev.tandem.cursor :=
  ⟨(modOf fun d => let d := d.setNum TNDM.RESYNC_STAT 1; let d := d.setFld TNDM.STATE_STATE 4;
    { d with tandem := { d.tandem with cursor := d.altMask } }),
    by (try simp only [State.On, State.Awake, State.Opens, State.Ready, Dev.quiet, Dev.acts, Clock.ok]) <;> decide +kernel⟩
theorem witness_ReplicationAndResync_18 : ∃ (s : State), s.Opens 0x58 ∧ s.dev.opState TNDM.RESYNC_STAT ≠ 1 ∧ s.dev.opState TNDM.RESYNC_STAT ≠ 2 :=
  ⟨(modOf fun d => let d := d.setNum TNDM.RESYNC_STAT (0); d.setNum TNDM.RESYNC_STAT (0)),
    by (try simp only [State.On, State.Awake, State.Opens, State.Ready, Dev.quiet, Dev.acts, Clock.ok]) <;> decide +kernel⟩
theorem witness_ReplicationAndResync_19 : ∃ (s : State), s.Awake ∧ s.dev.tState = 4 ∧ s.dev.opState TNDM.RESYNC_STAT = 1 ∧
    s.dev.altMask ≤ s.dev.tandem.cursor :=
  ⟨(modOf fun d => let d := d.setFld TNDM.STATE_STATE 4; let d := d.setNum TNDM.RESYNC_STAT (1); { d with tandem := { d.tandem with cursor :=
    d.altMask } }), by (try simp only [State.On, State.Awake, State.Opens, State.Ready, Dev.quiet, Dev.acts, Clock.ok]) <;> decide +kernel⟩
theorem witness_ReplicationAndResync_20 : ∃ (s : State), s.Awake ∧ (s.dev.tState ≠ 4 ∨ s.dev.tandem.cursor < s.dev.altMask) :=
  ⟨mod0, by (try simp only [State.On, State.Awake, State.Opens, State.Ready, Dev.quiet, Dev.acts, Clock.ok]) <;> decide +kernel⟩
theorem witness_ReplicationAndResync_17 : ∃ (s : State), s.Opens 0x58 ∧ s.dev.opState TNDM.RESYNC_STAT = 1 ∧ s.dev.tState = 4 ∧
    s.dev.tandem.cursor < s.dev.altMask :=
  ⟨(modOf fun d => let d := d.setNum TNDM.RESYNC_STAT 1; let d := d.setFld TNDM.STATE_STATE 4;
    { d with tandem := { d.tandem with cursor := 0 } }),
    by (try simp only [State.On, State.Awake, State.Opens, State.Ready, Dev.quiet, Dev.acts, Clock.ok]) <;> decide +kernel⟩
/-! ### CountersAndEventRings -/

theorem witness_CountersAndEventRings_0 : ∃ (s : State) (port : Nat), s.Opens 0x61 ∧ port < 64 :=
  ⟨mod0, 0, by (try simp only [State.On, State.Awake, State.Opens, State.Ready, Dev.quiet, Dev.acts, Clock.ok]) <;> decide +kernel⟩
theorem witness_CountersAndEventRings_1 : ∃ (s : State), s.Opens 0x61 :=
  ⟨mod0, by (try simp only [State.On, State.Awake, State.Opens, State.Ready, Dev.quiet, Dev.acts, Clock.ok]) <;> decide +kernel⟩
theorem witness_CountersAndEventRings_2 : ∃ (s : State) (c : Instr) (acts : Nat), ((c = .snap ∧ acts = 1) ∨ (c = .freeze ∧ acts = 2) ∨ (c = .thaw ∧
    acts = 4)) ∧ s.Opens 0 ∧ s.dev.on PERF.SNAP_STAT_BUSY = false :=
  ⟨(modOf fun d => d.setFld PERF.SNAP_STAT_BUSY 0), (.snap), (1),
    by (try simp only [State.On, State.Awake, State.Opens, State.Ready, Dev.quiet, Dev.acts, Clock.ok]) <;> decide +kernel⟩
theorem witness_CountersAndEventRings_3 : ∃ (s : State) (c : Instr), (c = .snap ∨ c = .freeze ∨ c = .thaw) ∧ s.Opens 0 ∧
    s.dev.on PERF.SNAP_STAT_BUSY = true :=
  ⟨(modOf fun d => d.setFld PERF.SNAP_STAT_BUSY 1), (.snap),
    by (try simp only [State.On, State.Awake, State.Opens, State.Ready, Dev.quiet, Dev.acts, Clock.ok]) <;> decide +kernel⟩
theorem witness_CountersAndEventRings_4 : ∃ (s : State) (t : Nat) (acts : Nat), s.On ∧ s.dev.obs.snap = some (t, acts) ∧ (∀ i, i < 34 → t
    ≤ s.dev.islandNs i) ∧ s.dev.obs.snapped = [] ∧ s.dev.obs.perf.wf 0 = true ∧ s.dev.obs.perfSnap.wf 0 = true ∧ s.dev.sw.stat.wf 0 = true
    ∧ s.dev.obs.statSnap.wf 0 = true :=
  ⟨(modOf fun d => { d with obs := { d.obs with snap := some ((0), (0)) } }), 0, 0,
    by (try simp only [State.On, State.Awake, State.Opens, State.Ready, Dev.quiet, Dev.acts, Clock.ok]) <;> decide +kernel⟩
theorem witness_CountersAndEventRings_7 : ∃ (s : State), s.On ∧ (∀ (t acts : Nat), s.dev.obs.snap = some (t, acts) →
    s.dev.obs.snapped.length < 34 ∧ ∀ i, i < 34 → i ∈ s.dev.obs.snapped ∨ s.dev.islandNs i < t) :=
  ⟨modOf fun d => { d with obs := { d.obs with snap := some (10 ^ 18, 1) } }, by (try simp only [State.On]) <;> decide +kernel, fun t a h => by
    cases h; exact ⟨by decide +kernel, fun i hi => .inr ((by decide +kernel : ∀ i, i < 34 → (modOf fun d =>
    { d with obs := { d.obs with snap := some (10 ^ 18, 1) } }).dev.islandNs i < 10 ^ 18) i hi)⟩⟩
theorem witness_CountersAndEventRings_9 : ∃ (s : State) (path : Nat) (page : Nat) (off : Nat) (ch : Nat) (v : Nat) (r : Reg), s.Opens page
    ∧ s.dev.latched page off ch = some (v, r) ∧ s.dev.vagueAt page off ch = true :=
  ⟨modOf fun d => { d with obs := { d.obs with vague := [0] } }, 0, 0x60, 0x044, 0, 0, PERF.CNT_HI,
    by (try simp only [State.On, State.Awake, State.Opens, State.Ready, Dev.quiet, Dev.acts, Clock.ok]) <;> decide +kernel⟩
theorem witness_CountersAndEventRings_10 : ∃ (s : State) (path : Nat) (page : Nat) (off : Nat) (ch : Nat), s.Opens page ∧
    s.dev.latched page off ch = none :=
  ⟨mod0, 0, 0, 0, 0, by (try simp only [State.On, State.Awake, State.Opens, State.Ready, Dev.quiet, Dev.acts, Clock.ok]) <;> decide +kernel⟩
theorem witness_CountersAndEventRings_11 : ∃ (s : State) (bs : List Byte) (l : List (List Byte)) (size : Nat) (wr : Nat), s.On ∧
    s.dev.obs.staged = bs :: l ∧ size = 2 ^ s.dev.fld PERF.SRING_SIZE_SIZE ∧ wr = s.dev.num PERF.SRING_WR :=
  ⟨(modOf fun d => { d with obs := { d.obs with staged := ([]) :: ([]) } }), [], [], (2 ^ (modOf fun d => { d with obs := { d.obs with staged :=
    ([]) :: ([]) } }).dev.fld PERF.SRING_SIZE_SIZE), ((modOf fun d => { d with obs := { d.obs with staged :=
    ([]) :: ([]) } }).dev.num PERF.SRING_WR),
    by (try simp only [State.On, State.Awake, State.Opens, State.Ready, Dev.quiet, Dev.acts, Clock.ok]) <;> decide +kernel⟩
theorem witness_CountersAndEventRings_12 : ∃ (s : State), s.On ∧ s.dev.obs.staged = [] :=
  ⟨(modOf fun d => { d with obs := { d.obs with staged := [] } }),
    by (try simp only [State.On, State.Awake, State.Opens, State.Ready, Dev.quiet, Dev.acts, Clock.ok]) <;> decide +kernel⟩
theorem witness_CountersAndEventRings_13 : ∃ (s : State) (q : Nat) (a : Nat) (wr : Nat) (e : Event) (l : List EvItem), s.On ∧ q < 16 ∧
    s.dev.enabled 0x62 = true ∧ s.dev.on EVLG.Q_SIZE_EN q = true ∧ s.dev.queueRoom q = true ∧ wr = s.dev.num EVLG.Q_WR q ∧
    a = s.dev.num2 EVLG.Q_BASE_LO EVLG.Q_BASE_HI q + 32 * (wr % 2 ^ s.dev.fld EVLG.Q_SIZE_SIZE q) ∧ (s.dev.evQueue q).staged = .event e :: l :=
  ⟨(modOf fun d => let d := d.setNum (CTRL 0x62) 1; let d := d.setFld EVLG.Q_SIZE_EN 1 (0);
    d.setEvQueue (0) { (d.evQueue (0)) with staged := .event (({ stamp := 0, island := 0, flags := 0, code := 0, seq := 0, p0 := 0, p1 := 0, p2 := 0, p3 := 0 } : Event)) :: ([]) }),
    0, ((modOf fun d => let d := d.setNum (CTRL 0x62) 1; let d := d.setFld EVLG.Q_SIZE_EN 1 (0);
    d.setEvQueue (0) { (d.evQueue (0)) with staged := .event (({ stamp := 0, island := 0, flags := 0, code := 0, seq := 0, p0 := 0, p1 := 0, p2 := 0, p3 := 0 } : Event)) :: ([]) }).dev.num2 EVLG.Q_BASE_LO EVLG.Q_BASE_HI (0) + 32 * ((((modOf fun d => let d := d.setNum (CTRL 0x62) 1;
    let d := d.setFld EVLG.Q_SIZE_EN 1 (0);
    d.setEvQueue (0) { (d.evQueue (0)) with staged := .event (({ stamp := 0, island := 0, flags := 0, code := 0, seq := 0, p0 := 0, p1 := 0, p2 := 0, p3 := 0 } : Event)) :: ([]) }).dev.num EVLG.Q_WR (0))) % 2 ^ (modOf fun d => let d := d.setNum (CTRL 0x62) 1;
    let d := d.setFld EVLG.Q_SIZE_EN 1 (0);
    d.setEvQueue (0) { (d.evQueue (0)) with staged := .event (({ stamp := 0, island := 0, flags := 0, code := 0, seq := 0, p0 := 0, p1 := 0, p2 := 0, p3 := 0 } : Event)) :: ([]) }).dev.fld EVLG.Q_SIZE_SIZE (0))),
    ((modOf fun d => let d := d.setNum (CTRL 0x62) 1; let d := d.setFld EVLG.Q_SIZE_EN 1 (0);
    d.setEvQueue (0) { (d.evQueue (0)) with staged := .event (({ stamp := 0, island := 0, flags := 0, code := 0, seq := 0, p0 := 0, p1 := 0, p2 := 0, p3 := 0 } : Event)) :: ([]) }).dev.num EVLG.Q_WR (0)),
    ({ stamp := 0, island := 0, flags := 0, code := 0, seq := 0, p0 := 0, p1 := 0, p2 := 0, p3 := 0 } : Event), [],
    by (try simp only [State.On, State.Awake, State.Opens, State.Ready, Dev.quiet, Dev.acts, Clock.ok]) <;> decide +kernel⟩
theorem witness_CountersAndEventRings_14 : ∃ (s : State) (q : Nat) (a : Nat) (wr : Nat) (n : Nat) (e : Event) (l : List EvItem), s.On ∧ q
    < 16 ∧ s.dev.enabled 0x62 = true ∧ s.dev.on EVLG.Q_SIZE_EN q = true ∧ s.dev.queueRoom q = true ∧ wr = s.dev.num EVLG.Q_WR q ∧ a =
    s.dev.num2 EVLG.Q_BASE_LO EVLG.Q_BASE_HI q + 32 * (wr % 2 ^ s.dev.fld EVLG.Q_SIZE_SIZE q) ∧ (s.dev.evQueue q).staged = .loss n e :: l
    :=
  ⟨(modOf fun d => let d := d.setNum (CTRL 0x62) 1; let d := d.setFld EVLG.Q_SIZE_EN 1 (0);
    d.setEvQueue (0) { (d.evQueue (0)) with staged := .loss 0 { stamp := 0, island := 0, flags := 0, code := 0, seq := 0, p0 := 0, p1 := 0, p2 := 0, p3 := 0 } :: ([]) }), 0, ((modOf fun d => let d := d.setNum (CTRL 0x62) 1;
    let d := d.setFld EVLG.Q_SIZE_EN 1 (0);
    d.setEvQueue (0) { (d.evQueue (0)) with staged := .loss 0 { stamp := 0, island := 0, flags := 0, code := 0, seq := 0, p0 := 0, p1 := 0, p2 := 0, p3 := 0 } :: ([]) }).dev.num2 EVLG.Q_BASE_LO EVLG.Q_BASE_HI (0) + 32 * ((((modOf fun d => let d := d.setNum (CTRL 0x62) 1;
    let d := d.setFld EVLG.Q_SIZE_EN 1 (0);
    d.setEvQueue (0) { (d.evQueue (0)) with staged := .loss 0 { stamp := 0, island := 0, flags := 0, code := 0, seq := 0, p0 := 0, p1 := 0, p2 := 0, p3 := 0 } :: ([]) }).dev.num EVLG.Q_WR (0))) % 2 ^ (modOf fun d => let d := d.setNum (CTRL 0x62) 1;
    let d := d.setFld EVLG.Q_SIZE_EN 1 (0); d.setEvQueue (0) { (d.evQueue (0)) with staged := .loss 0 { stamp := 0, island := 0, flags := 0, code := 0, seq := 0, p0 := 0, p1 := 0, p2 := 0, p3 := 0 } :: ([]) }).dev.fld EVLG.Q_SIZE_SIZE (0))),
    ((modOf fun d => let d := d.setNum (CTRL 0x62) 1; let d := d.setFld EVLG.Q_SIZE_EN 1 (0);
    d.setEvQueue (0) { (d.evQueue (0)) with staged := .loss 0 { stamp := 0, island := 0, flags := 0, code := 0, seq := 0, p0 := 0, p1 := 0, p2 := 0, p3 := 0 } :: ([]) }).dev.num EVLG.Q_WR (0)), 0, { stamp := 0, island := 0, flags := 0, code := 0, seq := 0, p0 := 0, p1 := 0, p2 := 0, p3 := 0 }, [],
    by (try simp only [State.On, State.Awake, State.Opens, State.Ready, Dev.quiet, Dev.acts, Clock.ok]) <;> decide +kernel⟩
theorem witness_CountersAndEventRings_15 : ∃ (s : State) (q : Nat), s.On ∧ q < 16 ∧ (s.dev.enabled 0x62 = false ∨ s.dev.on EVLG.Q_SIZE_EN q = false ∨
    s.dev.queueRoom q = false ∨ (s.dev.evQueue q).staged = []) :=
  ⟨(modOf fun d => d.setNum (CTRL 0x62) 0), 0,
    by (try simp only [State.On, State.Awake, State.Opens, State.Ready, Dev.quiet, Dev.acts, Clock.ok]) <;> decide +kernel⟩
theorem witness_CountersAndEventRings_16 : ∃ (s : State) (q : Nat), s.On ∧ q < 16 ∧ (s.dev.evQueue q).since ≠ 0 ∧
    (s.dev.evQueue q).first + s.dev.fld EVLG.Q_MOD_HOLDOFF q ≤ s.dev.upUs :=
  ⟨(modOf fun d => d.setEvQueue 0 { d.evQueue 0 with since := 1 }), 0,
    by (try simp only [State.On, State.Awake, State.Opens, State.Ready, Dev.quiet, Dev.acts, Clock.ok]) <;> decide +kernel⟩
theorem witness_CountersAndEventRings_17 : ∃ (s : State) (q : Nat), s.On ∧ q < 16 ∧ ((s.dev.evQueue q).since = 0 ∨
    s.dev.upUs < (s.dev.evQueue q).first + s.dev.fld EVLG.Q_MOD_HOLDOFF q) :=
  ⟨(modOf fun d => d.setEvQueue (0) { (d.evQueue (0)) with since := 0 }), 0,
    by (try simp only [State.On, State.Awake, State.Opens, State.Ready, Dev.quiet, Dev.acts, Clock.ok]) <;> decide +kernel⟩
theorem witness_CountersAndEventRings_8 : ∃ (s : State) (path : Nat) (page : Nat) (off : Nat) (ch : Nat) (v : Nat) (r : Reg), s.Opens page
    ∧ s.dev.latched page off ch = some (v, r) ∧ s.dev.vagueAt page off ch = false :=
  ⟨mod0, 0, 0x60, 0x044, 0, 0, PERF.CNT_HI,
    by (try simp only [State.On, State.Awake, State.Opens, State.Ready, Dev.quiet, Dev.acts, Clock.ok]) <;> decide +kernel⟩
theorem witness_CountersAndEventRings_5 : ∃ (s : State) (t : Nat) (acts : Nat), s.On ∧ s.dev.obs.snap = some (t, acts) ∧
    s.dev.obs.snapped = [] ∧ bitOf acts 0 = true ∧ (∃ i, i < 34 ∧ t ≤ s.dev.islandNs i) ∧ (∃ i, i < 34 ∧ s.dev.islandNs i < t) ∧
    s.dev.obs.perf.wf 0 = true ∧ s.dev.obs.perfSnap.wf 0 = true ∧ s.dev.obs.vague = [] :=
  ⟨modOf fun d =>
    { d with obs := { d.obs with snap := some (10 ^ 14, 1) }, time := { d.time with dev := [(1, -10)], devAt := [(1, 10 ^ 15)] } }, 10 ^
    14, 1, by (try simp only [State.On, State.Awake, State.Opens, State.Ready, Dev.quiet, Dev.acts, Clock.ok]) <;> decide +kernel, by
    decide +kernel, by decide +kernel, by decide +kernel, ⟨0, by decide +kernel⟩, ⟨1, by decide +kernel⟩, by decide +kernel, by
    decide +kernel⟩
theorem witness_CountersAndEventRings_6 : ∃ (s : State) (t : Nat) (acts : Nat), s.On ∧ s.dev.obs.snap = some (t, acts) ∧ 34 ≤
    s.dev.obs.snapped.length :=
  ⟨(modOf fun d => { d with obs := { d.obs with snap := some (0, 0), snapped := List.range 34 } }), 0, 0,
    by (try simp only [State.On, State.Awake, State.Opens, State.Ready, Dev.quiet, Dev.acts, Clock.ok]) <;> decide +kernel⟩

end Sys2Proof.Tests
end

