-- ==== Sys2Proof/Tests/Witness7.lean ====
section
/-! SUPPORT. For each clause of LinkAndRingSettings, PuntAndInject, TableWindows, TableDma, ManagementPort,
FlashCommands, MailboxCommands, FusesAndSealing,
TestAccess: a state and operands that meet its hypotheses together. -/

namespace Sys2Proof.Tests

/- In order, one after another: a check that the kernel evaluates waits for everything before it, and hundreds that wait
at once would each hold a thread. -/
set_option Elab.async false
set_option linter.unusedSimpArgs false
set_option linter.unusedVariables false
set_option linter.unnecessarySeqFocus false

open Sys2Proof Sys2Proof.Machine

/-! ### LinkAndRingSettings -/

theorem witness_LinkAndRingSettings_0 : ∃ (s : State) (gen : Nat) (width : Nat) (up : Bool) (master : Bool), s.On ∧ (up = false ∨ (1 ≤ gen ∧
    gen ≤ 4 ∧ (width = 1 ∨ width = 2 ∨ width = 4))) :=
  ⟨mod0, 0, 0, (false), false, by (try simp only [State.On, State.Awake, State.Opens, State.Ready, Dev.quiet, Dev.acts, Clock.ok]) <;> decide +kernel⟩
theorem witness_LinkAndRingSettings_1 : ∃ (s : State) (gen : Nat) (width : Nat) (master : Bool), s.On ∧ (gen = 0 ∨ 4 < gen ∨ (width ≠ 1 ∧ width ≠ 2 ∧
    width ≠ 4)) :=
  ⟨mod0, (0), 0, false, by (try simp only [State.On, State.Awake, State.Opens, State.Ready, Dev.quiet, Dev.acts, Clock.ok]) <;> decide +kernel⟩
theorem witness_LinkAndRingSettings_2 : ∃ (s : State) (path : Nat) (r : Nat) (avail : Nat) (diff : Nat), s.Opens 0x68 ∧ path < 2 ∧ r < 64 ∧
    diff = (avail % 65536 + 65536 - s.dev.num HOST.RING_DONE r) % 65536 :=
  ⟨mod0, 0, 0, 0, (((0) % 65536 + 65536 - mod0.dev.num HOST.RING_DONE (0)) % 65536),
    by (try simp only [State.On, State.Awake, State.Opens, State.Ready, Dev.quiet, Dev.acts, Clock.ok]) <;> decide +kernel⟩
theorem witness_LinkAndRingSettings_3 : ∃ (s : State) (path : Nat) (r : Nat) (en : Bool), s.Opens 0x68 ∧ path < 2 ∧ r < 64 :=
  ⟨mod0, 0, 0, false, by (try simp only [State.On, State.Awake, State.Opens, State.Ready, Dev.quiet, Dev.acts, Clock.ok]) <;> decide +kernel⟩
theorem witness_LinkAndRingSettings_4 : ∃ (s : State) (r : Nat), s.Opens 0x68 ∧ r < 64 :=
  ⟨mod0, 0, by (try simp only [State.On, State.Awake, State.Opens, State.Ready, Dev.quiet, Dev.acts, Clock.ok]) <;> decide +kernel⟩
theorem witness_LinkAndRingSettings_5 : ∃ (s : State) (r : Nat), s.On ∧ r < 64 ∧ s.dev.host.since.get 0 r ≠ 0 ∧
    s.dev.host.first.get 0 r + s.dev.fld HOST.RING_MOD_HOLDOFF r ≤ s.dev.upUs :=
  ⟨(modOf fun d => { d with host := { d.host with since := [(0, 1)] } }), 0,
    by (try simp only [State.On, State.Awake, State.Opens, State.Ready, Dev.quiet, Dev.acts, Clock.ok]) <;> decide +kernel⟩
theorem witness_LinkAndRingSettings_6 : ∃ (s : State) (r : Nat), s.On ∧ r < 64 ∧ (s.dev.host.since.get 0 r = 0 ∨
    s.dev.upUs < s.dev.host.first.get 0 r + s.dev.fld HOST.RING_MOD_HOLDOFF r) :=
  ⟨(modOf fun d => { d with host := { d.host with since := d.host.since.set 0 (0) (0) } }), 0,
    by (try simp only [State.On, State.Awake, State.Opens, State.Ready, Dev.quiet, Dev.acts, Clock.ok]) <;> decide +kernel⟩
theorem witness_LinkAndRingSettings_7 : ∃ (s : State) (c : Instr), (c = .flr ∨ c = .perstN) ∧ s.On :=
  ⟨mod0, (.flr), by (try simp only [State.On, State.Awake, State.Opens, State.Ready, Dev.quiet, Dev.acts, Clock.ok]) <;> decide +kernel⟩
/-! ### PuntAndInject -/

theorem witness_PuntAndInject_0 : ∃ (s : State) (t : Tx) (f : Frame) (r : Nat), s.On ∧ s.dev.portUp 32 = true ∧ s.dev.nextPunt = some (t, f, r) :=
  ⟨(modOf fun d => let d := d.setFld HOST.LINK_STAT_LINK_UP 1; let d := d.setFld HOST.LINK_STAT_BUS_MASTER 1; let d := d.setFld HOST.RING_CFG_EN 1 0;
    let d := d.setNum HOST.RING_AVAIL 1 0; let d := d.setPortState 32 5; let d := d.setStaged 32 [{ copy := { desc := 0, port := 32 } }];
    let d := d.setFrame 0 {}; let d := d.setFld HOST.LINK_STAT_PORT32_UP 1; let d := d.setFld (HOST.PUNT_QMAP_QBASE.ix 0) 0;
    let d := d.setFld (HOST.PUNT_QMAP_SPREAD.ix 0) 0; d.setFld SWCR.HOLD_CFG_HOLD_MS 0 0), { copy := { desc := 0, port := 32 } }, ({} : Frame), 0,
    by (try simp only [State.On, State.Awake, State.Opens, State.Ready, Dev.quiet, Dev.acts, Clock.ok]) <;> decide +kernel⟩
theorem witness_PuntAndInject_1 : ∃ (s : State) (t : Tx) (f : Frame) (r : Nat), s.On ∧ s.dev.portUp 32 = true ∧ s.dev.nextPunt = some (t, f, r) :=
  ⟨(modOf fun d => let d := d.setFld HOST.LINK_STAT_LINK_UP 1; let d := d.setFld HOST.LINK_STAT_BUS_MASTER 1; let d := d.setFld HOST.RING_CFG_EN 1 0;
    let d := d.setNum HOST.RING_AVAIL 1 0; let d := d.setPortState 32 5; let d := d.setStaged 32 [{ copy := { desc := 0, port := 32 } }];
    let d := d.setFrame 0 {}; let d := d.setFld HOST.LINK_STAT_PORT32_UP 1; let d := d.setFld (HOST.PUNT_QMAP_QBASE.ix 0) 0;
    let d := d.setFld (HOST.PUNT_QMAP_SPREAD.ix 0) 0; d.setFld SWCR.HOLD_CFG_HOLD_MS 0 0), { copy := { desc := 0, port := 32 } }, ({} : Frame), 0,
    by (try simp only [State.On, State.Awake, State.Opens, State.Ready, Dev.quiet, Dev.acts, Clock.ok]) <;> decide +kernel⟩
theorem witness_PuntAndInject_2 : ∃ (s : State) (t : Tx) (f : Frame) (r : Nat) (err : Bool), s.On ∧ s.dev.portUp 32 = true ∧ s.dev.nextPunt = some (t,
    f, r) :=
  ⟨(modOf fun d => let d := d.setFld HOST.LINK_STAT_LINK_UP 1; let d := d.setFld HOST.LINK_STAT_BUS_MASTER 1; let d := d.setFld HOST.RING_CFG_EN 1 0;
    let d := d.setNum HOST.RING_AVAIL 1 0; let d := d.setPortState 32 5; let d := d.setStaged 32 [{ copy := { desc := 0, port := 32 } }];
    let d := d.setFrame 0 {}; let d := d.setFld HOST.LINK_STAT_PORT32_UP 1; let d := d.setFld (HOST.PUNT_QMAP_QBASE.ix 0) 0;
    let d := d.setFld (HOST.PUNT_QMAP_SPREAD.ix 0) 0; d.setFld SWCR.HOLD_CFG_HOLD_MS 0 0), { copy := { desc := 0, port := 32 } }, ({} : Frame), 0,
    false, by (try simp only [State.On, State.Awake, State.Opens, State.Ready, Dev.quiet, Dev.acts, Clock.ok]) <;> decide +kernel⟩
theorem witness_PuntAndInject_3 : ∃ (s : State) (failed : Option ReadFail) (err : Bool), s.On ∧ (s.dev.portUp 32 = false ∨ s.dev.nextPunt
    = none) :=
  ⟨mod0, none, false, by (try simp only [State.On, State.Awake, State.Opens, State.Ready, Dev.quiet, Dev.acts, Clock.ok]) <;> decide +kernel⟩
theorem witness_PuntAndInject_4 : ∃ (s : State) (r : Nat) (pick : List Nat), s.On ∧ s.dev.nextInject = some r ∧ s.dev.inEpisode 32 0 = false ∧
    s.dev.spore.stopped = false :=
  ⟨(modOf fun d => let d := d.setFld HOST.LINK_STAT_LINK_UP 1; let d := d.setFld HOST.LINK_STAT_BUS_MASTER 1; let d := d.setFld HOST.RING_CFG_EN 1 32;
    d.setNum HOST.RING_AVAIL 1 32), 32, [],
    by (try simp only [State.On, State.Awake, State.Opens, State.Ready, Dev.quiet, Dev.acts, Clock.ok]) <;> decide +kernel⟩
theorem witness_PuntAndInject_5 : ∃ (s : State) (r : Nat) (n : Nat) (pick : List Nat), s.On ∧ s.dev.nextInject = some r ∧
    s.dev.inEpisode 32 0 = false ∧ s.dev.spore.stopped = false ∧ n = s.dev.injectStatus (s.dev.readInject (s.dev.ringDesc r)) ∧ n ≠ 0 :=
  ⟨(modOf fun d => let d := d.setFld HOST.LINK_STAT_LINK_UP 1; let d := d.setFld HOST.LINK_STAT_BUS_MASTER 1; let d := d.setFld HOST.RING_CFG_EN 1 32;
    d.setNum HOST.RING_AVAIL 1 32), 32, 1, [],
    by (try simp only [State.On, State.Awake, State.Opens, State.Ready, Dev.quiet, Dev.acts, Clock.ok]) <;> decide +kernel⟩
theorem witness_PuntAndInject_6 : ∃ (s : State) (r : Nat) (pick : List Nat) (x : InjectDesc) (e : Dev), s.On ∧ s.dev.nextInject = some r ∧
    s.dev.inEpisode 32 0 = false ∧ s.dev.spore.stopped = false ∧ x = s.dev.readInject (s.dev.ringDesc r) ∧ s.dev.injectStatus x = 0 ∧
    s.dev.injectFrame x pick = some e :=
  ⟨(modOf fun d => let d := d.setFld HOST.LINK_STAT_LINK_UP 1; let d := d.setFld HOST.LINK_STAT_BUS_MASTER 1; let d := d.setFld HOST.RING_CFG_EN 1 32;
    let d := d.setNum HOST.RING_AVAIL 1 32; let d := { d with hostMem := [(8, 64), (11, 1)] }; let d := d.setNum BUFM.FREE0 1000;
    let d := d.setNum BUFM.FREE1 1000; d.setNum BUFM.DESC_FREE 1000), 32, [], ((modOf fun d => let d := d.setFld HOST.LINK_STAT_LINK_UP 1;
    let d := d.setFld HOST.LINK_STAT_BUS_MASTER 1; let d := d.setFld HOST.RING_CFG_EN 1 32; let d := d.setNum HOST.RING_AVAIL 1 32;
    let d := { d with hostMem := [(8, 64), (11, 1)] }; let d := d.setNum BUFM.FREE0 1000; let d := d.setNum BUFM.FREE1 1000;
    d.setNum BUFM.DESC_FREE 1000).dev.readInject 0), (((modOf fun d => let d := d.setFld HOST.LINK_STAT_LINK_UP 1;
    let d := d.setFld HOST.LINK_STAT_BUS_MASTER 1; let d := d.setFld HOST.RING_CFG_EN 1 32; let d := d.setNum HOST.RING_AVAIL 1 32;
    let d := { d with hostMem := [(8, 64), (11, 1)] }; let d := d.setNum BUFM.FREE0 1000; let d := d.setNum BUFM.FREE1 1000;
    d.setNum BUFM.DESC_FREE 1000).dev.injectFrame ((modOf fun d => let d := d.setFld HOST.LINK_STAT_LINK_UP 1;
    let d := d.setFld HOST.LINK_STAT_BUS_MASTER 1; let d := d.setFld HOST.RING_CFG_EN 1 32; let d := d.setNum HOST.RING_AVAIL 1 32;
    let d := { d with hostMem := [(8, 64), (11, 1)] }; let d := d.setNum BUFM.FREE0 1000; let d := d.setNum BUFM.FREE1 1000;
    d.setNum BUFM.DESC_FREE 1000).dev.readInject 0) []).getD dev0),
    by (try simp only [State.On, State.Awake, State.Opens, State.Ready, Dev.quiet, Dev.acts, Clock.ok]) <;> decide +kernel⟩
theorem witness_PuntAndInject_7 : ∃ (s : State) (r : Nat) (pick : List Nat) (x : InjectDesc), s.On ∧ s.dev.nextInject = some r ∧
    x = s.dev.readInject (s.dev.ringDesc r) ∧ s.dev.injectStatus x = 0 ∧ s.dev.injectFrame x pick = none :=
  ⟨(modOf fun d => let d := d.setFld HOST.LINK_STAT_LINK_UP 1; let d := d.setFld HOST.LINK_STAT_BUS_MASTER 1; let d := d.setFld HOST.RING_CFG_EN 1 32;
    let d := d.setNum HOST.RING_AVAIL 1 32; let d := { d with hostMem := [(8, 64), (11, 1)] }; { d with spore := { d.spore with stopped := true } }),
    32, [], ((modOf fun d => let d := d.setFld HOST.LINK_STAT_LINK_UP 1; let d := d.setFld HOST.LINK_STAT_BUS_MASTER 1;
    let d := d.setFld HOST.RING_CFG_EN 1 32; let d := d.setNum HOST.RING_AVAIL 1 32; let d := { d with hostMem := [(8, 64), (11, 1)] };
    { d with spore := { d.spore with stopped := true } }).dev.readInject 0),
    by (try simp only [State.On, State.Awake, State.Opens, State.Ready, Dev.quiet, Dev.acts, Clock.ok]) <;> decide +kernel⟩
theorem witness_PuntAndInject_8 : ∃ (s : State) (err : Bool) (pick : List Nat), s.On ∧ (s.dev.nextInject = none ∨ s.dev.inEpisode 32 0 = true ∨
    s.dev.spore.stopped = true) :=
  ⟨mod0, false, [], by (try simp only [State.On, State.Awake, State.Opens, State.Ready, Dev.quiet, Dev.acts, Clock.ok]) <;> decide +kernel⟩
/-! ### TableWindows -/

theorem witness_TableWindows_0 : ∃ (s : State) (off : Nat) (ue : Option BadWord), s.On ∧ s.dev.bar2Open = true ∧ off < 2 ^ 28 ∧ winAt off = none :=
  ⟨mod0, 0x00900000, none, by (try simp only [State.On, State.Awake, State.Opens, State.Ready, Dev.quiet, Dev.acts, Clock.ok]) <;> decide +kernel⟩
theorem witness_TableWindows_1 : ∃ (s : State) (off : Nat) (i : Nat) (ue : Option BadWord) (w : WinAt), s.On ∧ s.dev.bar2Open = true ∧ off < 2 ^ 28 ∧
    winAt off = some w ∧ i = (off - w.base) / w.entry ∧ (w.win = .hosts ∨ w.win = .doms ∨ w.win = .hops ∨ w.win = .units ∨ w.win = .rules ∨
    w.win = .edits ∨ w.win = .samples) :=
  ⟨mod0, 0, 0, none, ⟨.hosts, 0x00000000, 0x00400000, 16⟩,
    by (try simp only [State.On, State.Awake, State.Opens, State.Ready, Dev.quiet, Dev.acts, Clock.ok]) <;> decide +kernel⟩
theorem witness_TableWindows_2 : ∃ (s : State) (index : Nat) (k : Nat), s.On ∧ s.dev.bar2Open = true ∧ index < 262144 ∧
    k = s.dev.winPipe * 262144 + index :=
  ⟨mod0, 0, (mod0.dev.winPipe * 262144 + (0)),
    by (try simp only [State.On, State.Awake, State.Opens, State.Ready, Dev.quiet, Dev.acts, Clock.ok]) <;> decide +kernel⟩
theorem witness_TableWindows_3 : ∃ (s : State) (off : Nat) (t : Nat) (ue : Option BadWord), s.On ∧ s.dev.bar2Open = true ∧ off < 0x08000000 ∧
    t = s.dev.num HOST.APER_SLOT + off / 64 ∧ t < 2 * s.dev.altMask ∧ ((s.dev.flow.opened.get none t).isSome = true ∨ ue = none) :=
  ⟨mod0, 0, (mod0.dev.num HOST.APER_SLOT + (0) / 64), none,
    by (try simp only [State.On, State.Awake, State.Opens, State.Ready, Dev.quiet, Dev.acts, Clock.ok]) <;> decide +kernel⟩
theorem witness_TableWindows_4 : ∃ (s : State) (off : Nat), s.On ∧ s.dev.bar2Open = true ∧ off < 0x04000000 ∧ s.dev.otp.sealed = true :=
  ⟨(modOf fun d => { d with otp := { d.otp with sealed := true } }), 0,
    by (try simp only [State.On, State.Awake, State.Opens, State.Ready, Dev.quiet, Dev.acts, Clock.ok]) <;> decide +kernel⟩
theorem witness_TableWindows_5 : ∃ (s : State) (off : Nat) (m : Nat) (a : Nat), s.On ∧ s.dev.bar2Open = true ∧ off < 0x04000000 ∧
    s.dev.otp.sealed = false ∧ m = s.dev.fld HOST.RAW_CFG_CHANNEL ∧ a = s.dev.fld HOST.RAW_CFG_SEG * 0x4000000 + off / 16 * 16 :=
  ⟨(modOf fun d => { d with otp := { d.otp with sealed := false } }), 0, ((modOf fun d => { d with otp := { d.otp with sealed :=
    false } }).dev.fld HOST.RAW_CFG_CHANNEL), ((modOf fun d => { d with otp := { d.otp with sealed :=
    false } }).dev.fld HOST.RAW_CFG_SEG * 0x4000000 + (0) / 16 * 16),
    by (try simp only [State.On, State.Awake, State.Opens, State.Ready, Dev.quiet, Dev.acts, Clock.ok]) <;> decide +kernel⟩
theorem witness_TableWindows_6 : ∃ (s : State) (off : Nat) (i : Nat) (bs : List Byte) (w : WinAt), s.On ∧ s.dev.bar2Open = true ∧ off < 2 ^ 28 ∧
    winAt off = some w ∧ (off - w.base) % w.entry = 0 ∧ bs.length = w.entry ∧ w.win = .doms ∧ i = (off - w.base) / w.entry :=
  ⟨mod0, 0x00800000, 0, (List.replicate 16 0), ⟨.doms, 0x00800000, 0x00010000, 16⟩,
    by (try simp only [State.On, State.Awake, State.Opens, State.Ready, Dev.quiet, Dev.acts, Clock.ok]) <;> decide +kernel⟩
theorem witness_TableWindows_7 : ∃ (s : State) (off : Nat) (i : Nat) (e : Nat) (bs : List Byte) (w : WinAt), s.On ∧ s.dev.bar2Open = true ∧
    off < 2 ^ 28 ∧ winAt off = some w ∧ (off - w.base) % w.entry = 0 ∧ bs.length = w.entry ∧ w.win = .hosts ∧ i = (off - w.base) / w.entry ∧
    hostSettle (s.dev.hostAt (lowPipe s.dev.winMask * 262144 + i)) (guardVal bs) = (e, false) :=
  ⟨mod0, 0, 0, 0, (List.replicate 16 0), ⟨.hosts, 0x00000000, 0x00400000, 16⟩,
    by (try simp only [State.On, State.Awake, State.Opens, State.Ready, Dev.quiet, Dev.acts, Clock.ok]) <;> decide +kernel⟩
theorem witness_TableWindows_8 : ∃ (s : State) (off : Nat) (cause : Nat) (bs : List Byte), s.On ∧ s.dev.bar2Open = true ∧ off < 2 ^ 28 ∧
    ((winAt off = none ∧ cause = 1) ∨ (∃ w, winAt off = some w ∧ w.win ≠ .slots ∧ w.win ≠ .raw ∧ (off - w.base) % w.entry ≠ 0 ∧ cause = 2) ∨ (∃ w,
    winAt off = some w ∧ (w.win = .lock ∨ w.win = .units ∨ w.win = .samples) ∧ (off - w.base) % w.entry = 0 ∧ bs.length = w.entry ∧ cause = 3) ∨
    (∃ w, winAt off = some w ∧ w.win = .slots ∧ (off - w.base) % w.entry = 0 ∧ bs.length = w.entry ∧ cause = 4) ∨ (∃ w, winAt off = some w ∧
    w.win = .raw ∧ s.dev.otp.sealed = true ∧ (off - w.base) % w.entry = 0 ∧ bs.length = w.entry ∧ cause = 5)) :=
  ⟨mod0, 0x00900000, 1, [], by (try simp only [State.On, State.Awake, State.Opens, State.Ready, Dev.quiet, Dev.acts, Clock.ok]) <;> decide +kernel,
    by (try simp only [State.On, State.Awake, State.Opens, State.Ready, Dev.quiet, Dev.acts, Clock.ok]) <;> decide +kernel,
    by (try simp only [State.On, State.Awake, State.Opens, State.Ready, Dev.quiet, Dev.acts, Clock.ok]) <;> decide +kernel, .inl ⟨by decide +kernel, rfl⟩⟩
theorem witness_TableWindows_9 : ∃ (s : State) (c : Instr) (off : Nat) (ue : Option BadWord) (bs : List Byte), (c = .bar2Read off ue ∨
    c = .bar2Write off bs ∨ c = .hostTableReadLock off ∨ c = .slotWindowRead off ue ∨ c = .rawWindowRead off) ∧ s.On ∧ s.dev.bar2Open = false :=
  ⟨(modOf fun d => d.setFld TOP.BOOT_STATUS_READY 0), (.bar2Read (0) (none)), 0, none, [],
    by (try simp only [State.On, State.Awake, State.Opens, State.Ready, Dev.quiet, Dev.acts, Clock.ok]) <;> decide +kernel⟩
/-! ### TableDma -/

theorem witness_TableDma_0 : ∃ (s : State) (dir : Bool), s.Opens 0x68 ∧ s.dev.opState HOST.TDMA_STAT ≠ 1 :=
  ⟨(modOf fun d => d.setNum HOST.TDMA_STAT (0)), false,
    by (try simp only [State.On, State.Awake, State.Opens, State.Ready, Dev.quiet, Dev.acts, Clock.ok]) <;> decide +kernel⟩
theorem witness_TableDma_1 : ∃ (s : State) (dir : Bool), s.Opens 0x68 ∧ s.dev.opState HOST.TDMA_STAT = 1 :=
  ⟨(modOf fun d => d.setNum HOST.TDMA_STAT (1)), false,
    by (try simp only [State.On, State.Awake, State.Opens, State.Ready, Dev.quiet, Dev.acts, Clock.ok]) <;> decide +kernel⟩
theorem witness_TableDma_2 : ∃ (s : State), s.Opens 0x68 ∧ s.dev.opState HOST.TDMA_STAT = 1 :=
  ⟨(modOf fun d => d.setNum HOST.TDMA_STAT (1)),
    by (try simp only [State.On, State.Awake, State.Opens, State.Ready, Dev.quiet, Dev.acts, Clock.ok]) <;> decide +kernel⟩
theorem witness_TableDma_3 : ∃ (s : State) (moved : Nat) (n : Nat) (e : Dev), s.Opens 0x68 ∧ s.dev.opState HOST.TDMA_STAT = 1 ∧
    Dev.tdmaMove (min moved (s.dev.tdmaCount - 1)) s.dev 0 = (e, n, true) ∧ e.opState HOST.TDMA_STAT = 1 :=
  ⟨modOf fun d => d.setNum HOST.TDMA_STAT 1, 0, 0, _, by (try simp only [State.Opens, State.On]) <;> decide +kernel, by decide +kernel, rfl,
    by decide +kernel⟩
theorem witness_TableDma_4 : ∃ (s : State) (moved : Nat), s.Opens 0x68 ∧ s.dev.opState HOST.TDMA_STAT = 2 :=
  ⟨(modOf fun d => d.setNum HOST.TDMA_STAT (2)), 0,
    by (try simp only [State.On, State.Awake, State.Opens, State.Ready, Dev.quiet, Dev.acts, Clock.ok]) <;> decide +kernel⟩
theorem witness_TableDma_5 : ∃ (s : State) (moved : Nat) (n : Nat) (e : Dev) (ok : Bool), s.On ∧ s.dev.opState HOST.TDMA_STAT = 1 ∧
    Dev.tdmaMove s.dev.tdmaCount s.dev 0 = (e, n, ok) :=
  ⟨modOf fun d => d.setNum HOST.TDMA_STAT 1, 0, _, _, _, by (try simp only [State.On]) <;> decide +kernel, by decide +kernel, rfl⟩
theorem witness_TableDma_6 : ∃ (s : State), s.On ∧ s.dev.opState HOST.TDMA_STAT = 1 :=
  ⟨(modOf fun d => d.setNum HOST.TDMA_STAT (1)),
    by (try simp only [State.On, State.Awake, State.Opens, State.Ready, Dev.quiet, Dev.acts, Clock.ok]) <;> decide +kernel⟩
theorem witness_TableDma_7 : ∃ (s : State) (err : Bool) (moved : Nat), s.On ∧ s.dev.opState HOST.TDMA_STAT ≠ 1 :=
  ⟨(modOf fun d => d.setNum HOST.TDMA_STAT (0)), false, 0,
    by (try simp only [State.On, State.Awake, State.Opens, State.Ready, Dev.quiet, Dev.acts, Clock.ok]) <;> decide +kernel⟩
/-! ### ManagementPort -/

theorem witness_ManagementPort_0 : ∃ (s : State) (up : Bool) (an : Bool) (sig : Bool) (remote : Bool), s.On :=
  ⟨mod0, false, false, false, false, by (try simp only [State.On, State.Awake, State.Opens, State.Ready, Dev.quiet, Dev.acts, Clock.ok]) <;> decide +kernel⟩
theorem witness_ManagementPort_1 : ∃ (s : State) (bs : List Byte) (dev : Int), s.On ∧ s.dev.mgmtOn = false :=
  ⟨mod0, [], 0, by (try simp only [State.On, State.Awake, State.Opens, State.Ready, Dev.quiet, Dev.acts, Clock.ok]) <;> decide +kernel⟩
theorem witness_ManagementPort_2 : ∃ (s : State) (bs : List Byte) (dev : Int), s.On ∧ s.dev.mgmtOn = true ∧ (bs.length < 64 ∨ 1522 < bs.length ∨
    fcsGood bs = false) :=
  ⟨(modOf fun d => let d := d.setFld MGMT.MAC_CFG_EN 1; d.setFld MGMT.MGMT_STAT_LINK_UP 1), [], 0,
    by (try simp only [State.On, State.Awake, State.Opens, State.Ready, Dev.quiet, Dev.acts, Clock.ok]) <;> decide +kernel⟩
theorem witness_ManagementPort_3 : ∃ (s : State) (bs : List Byte) (dev : Int), s.On ∧ s.dev.mgmtOn = true ∧ 64 ≤ bs.length ∧ bs.length ≤ 1522 ∧
    fcsGood bs = true ∧ s.dev.mgmtTakes bs = true ∧ s.dev.on MGMT.RX_CFG_EN = true ∧ s.dev.num MGMT.RX_AVAIL ≠ s.dev.num MGMT.RX_DONE :=
  ⟨(modOf fun d => let d := d.setFld MGMT.MAC_CFG_EN 1; let d := d.setFld MGMT.MGMT_STAT_LINK_UP 1; let d := d.setFld MGMT.RX_CFG_EN 1;
    d.setNum MGMT.RX_AVAIL 1), (withFcs (List.replicate 60 1)), 0,
    by (try simp only [State.On, State.Awake, State.Opens, State.Ready, Dev.quiet, Dev.acts, Clock.ok]) <;> decide +kernel⟩
theorem witness_ManagementPort_4 : ∃ (s : State), s.On ∧ (s.dev.mgmtOn = false ∨ s.dev.on MGMT.TX_CFG_EN = false ∨
    s.dev.num MGMT.TX_AVAIL = s.dev.num MGMT.TX_DONE) :=
  ⟨mod0, by (try simp only [State.On, State.Awake, State.Opens, State.Ready, Dev.quiet, Dev.acts, Clock.ok]) <;> decide +kernel⟩
theorem witness_ManagementPort_5 : ∃ (s : State) (a : Nat) (len : Nat), s.On ∧ s.dev.mgmtOn = true ∧ s.dev.on MGMT.TX_CFG_EN = true ∧
    s.dev.num MGMT.TX_AVAIL ≠ s.dev.num MGMT.TX_DONE ∧
    a = s.dev.num2 MGMT.TX_BASE_LO MGMT.TX_BASE_HI + 32 * (s.dev.num MGMT.TX_DONE % 2 ^ s.dev.fld MGMT.TX_CFG_SIZE) ∧
    len = leNat (s.dev.dmaRead (a + 8) 2) ∧ 14 ≤ len ∧ len ≤ 1518 :=
  ⟨(modOf fun d => let d := d.setFld MGMT.MAC_CFG_EN 1; let d := d.setFld MGMT.MGMT_STAT_LINK_UP 1; let d := d.setFld MGMT.TX_CFG_EN 1;
    let d := d.setNum MGMT.TX_AVAIL 1; { d with hostMem := [(8, 64)] }), 0, 64,
    by (try simp only [State.On, State.Awake, State.Opens, State.Ready, Dev.quiet, Dev.acts, Clock.ok]) <;> decide +kernel⟩
theorem witness_ManagementPort_6 : ∃ (s : State) (a : Nat) (len : Nat), s.On ∧ s.dev.mgmtOn = true ∧ s.dev.on MGMT.TX_CFG_EN = true ∧
    s.dev.num MGMT.TX_AVAIL ≠ s.dev.num MGMT.TX_DONE ∧
    a = s.dev.num2 MGMT.TX_BASE_LO MGMT.TX_BASE_HI + 32 * (s.dev.num MGMT.TX_DONE % 2 ^ s.dev.fld MGMT.TX_CFG_SIZE) ∧
    len = leNat (s.dev.dmaRead (a + 8) 2) ∧ (len < 14 ∨ 1518 < len) :=
  ⟨(modOf fun d => let d := d.setFld MGMT.MAC_CFG_EN 1; let d := d.setFld MGMT.MGMT_STAT_LINK_UP 1; let d := d.setFld MGMT.TX_CFG_EN 1;
    d.setNum MGMT.TX_AVAIL 1), 0, 0, by (try simp only [State.On, State.Awake, State.Opens, State.Ready, Dev.quiet, Dev.acts, Clock.ok]) <;> decide +kernel⟩
/-! ### FlashCommands -/

theorem witness_FlashCommands_0 : ∃ (s : State), s.Opens 0x69 ∧ s.dev.fld MGMT.QSPI_STAT_STATE ≠ 1 ∧ s.dev.boot.flash = true ∧
    s.dev.sup.recording = none :=
  ⟨(modOf fun d => let d := d.setFld MGMT.QSPI_STAT_STATE (0); let d := { d with boot := { d.boot with flash := true } }; { d with sup :=
    { d.sup with recording := none } }), by (try simp only [State.On, State.Awake, State.Opens, State.Ready, Dev.quiet, Dev.acts, Clock.ok]) <;> decide +kernel⟩
theorem witness_FlashCommands_1 : ∃ (s : State), s.Opens 0x69 ∧ s.dev.fld MGMT.QSPI_STAT_STATE ≠ 1 ∧ s.dev.boot.flash = true ∧
    s.dev.sup.recording = none ∧ s.dev.inPfail (s.dev.num MGMT.QSPI_ADDR) (s.dev.num MGMT.QSPI_LEN) = false :=
  ⟨(modOf fun d => let d := d.setFld MGMT.QSPI_STAT_STATE (0); let d := { d with boot := { d.boot with flash := true } }; { d with sup :=
    { d.sup with recording := none } }), by (try simp only [State.On, State.Awake, State.Opens, State.Ready, Dev.quiet, Dev.acts, Clock.ok]) <;> decide +kernel⟩
theorem witness_FlashCommands_2 : ∃ (s : State), s.Opens 0x69 ∧ s.dev.fld MGMT.QSPI_STAT_STATE ≠ 1 ∧ s.dev.boot.flash = true ∧
    s.dev.sup.recording = none ∧ s.dev.inPfail (s.dev.num MGMT.QSPI_ADDR / 4096 * 4096) 4096 = false :=
  ⟨(modOf fun d => let d := d.setFld MGMT.QSPI_STAT_STATE (0); let d := { d with boot := { d.boot with flash := true } }; { d with sup :=
    { d.sup with recording := none } }), by (try simp only [State.On, State.Awake, State.Opens, State.Ready, Dev.quiet, Dev.acts, Clock.ok]) <;> decide +kernel⟩
theorem witness_FlashCommands_3 : ∃ (s : State), s.Opens 0x69 ∧ s.dev.fld MGMT.QSPI_STAT_STATE ≠ 1 ∧ s.dev.boot.flash = true ∧
    s.dev.sup.recording = none :=
  ⟨(modOf fun d => let d := d.setFld MGMT.QSPI_STAT_STATE (0); let d := { d with boot := { d.boot with flash := true } }; { d with sup :=
    { d.sup with recording := none } }), by (try simp only [State.On, State.Awake, State.Opens, State.Ready, Dev.quiet, Dev.acts, Clock.ok]) <;> decide +kernel⟩
theorem witness_FlashCommands_4 : ∃ (s : State) (c : Instr), (c = .qspiRead ∨ c = .qspiProgram ∨ c = .qspiErase ∨ c = .readId) ∧ s.Opens 0x69 ∧
    s.dev.fld MGMT.QSPI_STAT_STATE = 1 :=
  ⟨(modOf fun d => d.setFld MGMT.QSPI_STAT_STATE (1)), (.qspiRead),
    by (try simp only [State.On, State.Awake, State.Opens, State.Ready, Dev.quiet, Dev.acts, Clock.ok]) <;> decide +kernel⟩
theorem witness_FlashCommands_5 : ∃ (s : State) (c : Instr), (c = .qspiRead ∨ c = .qspiProgram ∨ c = .qspiErase ∨ c = .readId) ∧ s.Opens 0x69 ∧
    s.dev.fld MGMT.QSPI_STAT_STATE ≠ 1 ∧ s.dev.boot.flash = false :=
  ⟨(modOf fun d => let d := d.setFld MGMT.QSPI_STAT_STATE (0); { d with boot := { d.boot with flash := false } }), (.qspiRead),
    by (try simp only [State.On, State.Awake, State.Opens, State.Ready, Dev.quiet, Dev.acts, Clock.ok]) <;> decide +kernel⟩
theorem witness_FlashCommands_6 : ∃ (s : State), s.Opens 0x69 ∧ s.dev.fld MGMT.QSPI_STAT_STATE ≠ 1 ∧ s.dev.boot.flash = true ∧
    s.dev.inPfail (s.dev.num MGMT.QSPI_ADDR) (s.dev.num MGMT.QSPI_LEN) = true :=
  ⟨(modOf fun d => let d := d.setFld MGMT.QSPI_STAT_STATE (0); let d := { d with boot := { d.boot with flash := true } };
    let d := d.setNum MGMT.QSPI_ADDR 0x01000000; d.setNum MGMT.QSPI_LEN 1),
    by (try simp only [State.On, State.Awake, State.Opens, State.Ready, Dev.quiet, Dev.acts, Clock.ok]) <;> decide +kernel⟩
theorem witness_FlashCommands_7 : ∃ (s : State) (id : Nat) (a : Nat) (n : Nat), s.On ∧ s.dev.fld MGMT.QSPI_STAT_STATE = 1 ∧
    s.dev.host.qspi = some (1, a, n) ∧ a % 256 + n ≤ 256 :=
  ⟨(modOf fun d => let d := d.setFld MGMT.QSPI_STAT_STATE (1); { d with host := { d.host with qspi := some (1, (0), (0)) } }), 0, 0, 0,
    by (try simp only [State.On, State.Awake, State.Opens, State.Ready, Dev.quiet, Dev.acts, Clock.ok]) <;> decide +kernel⟩
theorem witness_FlashCommands_8 : ∃ (s : State) (id : Nat) (a : Nat) (n : Nat), s.On ∧ s.dev.fld MGMT.QSPI_STAT_STATE = 1 ∧
    s.dev.host.qspi = some (2, a, n) :=
  ⟨(modOf fun d => let d := d.setFld MGMT.QSPI_STAT_STATE (1); { d with host := { d.host with qspi := some (2, (0), (0)) } }), 0, 0, 0,
    by (try simp only [State.On, State.Awake, State.Opens, State.Ready, Dev.quiet, Dev.acts, Clock.ok]) <;> decide +kernel⟩
theorem witness_FlashCommands_9 : ∃ (s : State) (id : Nat) (a : Nat) (n : Nat), s.On ∧ s.dev.fld MGMT.QSPI_STAT_STATE = 1 ∧
    s.dev.host.qspi = some (0, a, n) ∧ n ≤ 256 :=
  ⟨(modOf fun d => let d := d.setFld MGMT.QSPI_STAT_STATE (1); { d with host := { d.host with qspi := some (0, (0), (0)) } }), 0, 0, 0,
    by (try simp only [State.On, State.Awake, State.Opens, State.Ready, Dev.quiet, Dev.acts, Clock.ok]) <;> decide +kernel⟩
theorem witness_FlashCommands_10 : ∃ (s : State) (id : Nat), s.On ∧ (s.dev.host.qspi = none ∨ s.dev.fld MGMT.QSPI_STAT_STATE ≠ 1) :=
  ⟨(modOf fun d => { d with host := { d.host with qspi := none } }), 0,
    by (try simp only [State.On, State.Awake, State.Opens, State.Ready, Dev.quiet, Dev.acts, Clock.ok]) <;> decide +kernel⟩
/-! ### MailboxCommands -/

theorem witness_MailboxCommands_0 : ∃ (s : State) (p : Nat), s.On ∧ s.dev.host.bells = [p] ∧ s.dev.mboxIn p 0 % 256 = 1 :=
  ⟨(modOf fun d => let d := { d with host := { d.host with bells := [(0)] } }; d.setRegP (HOST.MBOX_IN.ix 0) (0) 0 1), 0,
    by (try simp only [State.On, State.Awake, State.Opens, State.Ready, Dev.quiet, Dev.acts, Clock.ok]) <;> decide +kernel⟩
theorem witness_MailboxCommands_1 : ∃ (s : State) (p : Nat) (temps : List Nat), s.On ∧ s.dev.host.bells = [p] ∧ s.dev.mboxIn p 0 % 256 = 2 :=
  ⟨(modOf fun d => let d := { d with host := { d.host with bells := [(0)] } }; d.setRegP (HOST.MBOX_IN.ix 0) (0) 0 2), 0, [],
    by (try simp only [State.On, State.Awake, State.Opens, State.Ready, Dev.quiet, Dev.acts, Clock.ok]) <;> decide +kernel⟩
theorem witness_MailboxCommands_2 : ∃ (s : State) (p : Nat), s.On ∧ s.dev.host.bells = [p] ∧ s.dev.mboxIn p 0 % 256 = 3 ∧ (s.dev.boot.flash = false ∨
    bitsOf (s.dev.mboxIn p 0) 8 8 = 0) :=
  ⟨(modOf fun d => let d := { d with host := { d.host with bells := [(0)] } }; let d := d.setRegP (HOST.MBOX_IN.ix 0) (0) 0 3; { d with boot :=
    { d.boot with flash := false } }), 0, by (try simp only [State.On, State.Awake, State.Opens, State.Ready, Dev.quiet, Dev.acts, Clock.ok]) <;> decide +kernel
    ⟩
theorem witness_MailboxCommands_3 : ∃ (s : State) (p : Nat) (k : Nat), s.On ∧ s.dev.host.bells = [p] ∧ s.dev.mboxIn p 0 % 256 = 3 ∧
    s.dev.boot.flash = true ∧ bitsOf (s.dev.mboxIn p 0) 8 8 ≠ 0 ∧
    (List.range 256).find? (fun k => recordValid (s.dev.pfailRecord k) && recordSeq (s.dev.pfailRecord k) = s.dev.mboxIn p 1) = some k :=
  ⟨(modOf fun d => let d := { d with host := { d.host with bells := [0] } }; let d := d.setRegP (HOST.MBOX_IN.ix 0) 0 0 259; let d :=
    { d with boot := { d.boot with flash := true } }; d.flashWrite 0x01000000 wRecord), 0, 0,
    by (try simp only [State.On, State.Awake, State.Opens, State.Ready, Dev.quiet, Dev.acts, Clock.ok]) <;> decide +kernel⟩
theorem witness_MailboxCommands_4 : ∃ (s : State) (p : Nat), s.On ∧ s.dev.host.bells = [p] ∧ s.dev.mboxIn p 0 % 256 = 4 :=
  ⟨(modOf fun d => let d := { d with host := { d.host with bells := [(0)] } }; d.setRegP (HOST.MBOX_IN.ix 0) (0) 0 4), 0,
    by (try simp only [State.On, State.Awake, State.Opens, State.Ready, Dev.quiet, Dev.acts, Clock.ok]) <;> decide +kernel⟩
theorem witness_MailboxCommands_5 : ∃ (s : State) (c : Instr) (temps : List Nat), (c = .sensors temps ∨ c = .pfailRead ∨ c = .trainReport) ∧ s.On ∧
    s.dev.host.bells = [] :=
  ⟨(modOf fun d => { d with host := { d.host with bells := [] } }), (.sensors ([])), [],
    by (try simp only [State.On, State.Awake, State.Opens, State.Ready, Dev.quiet, Dev.acts, Clock.ok]) <;> decide +kernel⟩
/-! ### FusesAndSealing -/

theorem witness_FusesAndSealing_0 : ∃ (s : State) (path : Nat), s.Opens 0x03 ∧ s.dev.fld FUSE.PROG_STAT_STATE ≠ 1 :=
  ⟨(modOf fun d => d.setFld FUSE.PROG_STAT_STATE (0)), 0,
    by (try simp only [State.On, State.Awake, State.Opens, State.Ready, Dev.quiet, Dev.acts, Clock.ok]) <;> decide +kernel⟩
theorem witness_FusesAndSealing_1 : ∃ (s : State) (path : Nat), s.Opens 0x03 ∧ s.dev.fld FUSE.PROG_STAT_STATE = 1 :=
  ⟨(modOf fun d => d.setFld FUSE.PROG_STAT_STATE (1)), 0,
    by (try simp only [State.On, State.Awake, State.Opens, State.Ready, Dev.quiet, Dev.acts, Clock.ok]) <;> decide +kernel⟩
theorem witness_FusesAndSealing_2 : ∃ (s : State) (fails : BitVec 384) (v : BitVec 384) (left : BitVec 384), s.On ∧ s.dev.host.prog = some v ∧
    left = v &&& ~~~s.dev.otp.hash &&& fails :=
  ⟨(modOf fun d => { d with host := { d.host with prog := some (0) } }), 0, 0,
    ((0) &&& ~~~(modOf fun d => { d with host := { d.host with prog := some (0) } }).dev.otp.hash &&& (0)),
    by (try simp only [State.On, State.Awake, State.Opens, State.Ready, Dev.quiet, Dev.acts, Clock.ok]) <;> decide +kernel⟩
theorem witness_FusesAndSealing_3 : ∃ (s : State) (fails : BitVec 384), s.On ∧ s.dev.host.prog = none :=
  ⟨(modOf fun d => { d with host := { d.host with prog := none } }), 0,
    by (try simp only [State.On, State.Awake, State.Opens, State.Ready, Dev.quiet, Dev.acts, Clock.ok]) <;> decide +kernel⟩
theorem witness_FusesAndSealing_4 : ∃ (s : State) (path : Nat), s.Opens 0x03 ∧ path < 2 :=
  ⟨mod0, 0, by (try simp only [State.On, State.Awake, State.Opens, State.Ready, Dev.quiet, Dev.acts, Clock.ok]) <;> decide +kernel⟩
theorem witness_FusesAndSealing_5 : ∃ (s : State) (path : Nat) (v : Word), s.Opens 0x03 ∧ v ≠ 0x00005EA1 :=
  ⟨mod0, 0, (0 : Word), by (try simp only [State.On, State.Awake, State.Opens, State.Ready, Dev.quiet, Dev.acts, Clock.ok]) <;> decide +kernel⟩
theorem witness_FusesAndSealing_6 : ∃ (s : State) (path : Nat) (t : Nat), s.Opens 0x03 ∧ path < 2 ∧ t = s.dev.host.armed.get 0 path ∧ t ≠ 0 ∧
    s.dev.clk.up + 1 ≤ t + 10000000 ∧ s.dev.on TOP.BOOT_STATUS_READY = true ∧ s.dev.warned = false ∧ s.dev.otp.sealed = false :=
  ⟨(modOf fun d => let d := d.setFld TOP.BOOT_STATUS_READY 1; let d := { d with otp := { d.otp with sealed := false } }; { d with host :=
    { d.host with armed := [(0, 10 ^ 15 + 1)] } }), 0, ((modOf fun d => let d := d.setFld TOP.BOOT_STATUS_READY 1; let d := { d with otp :=
    { d.otp with sealed := false } }; { d with host := { d.host with armed := [(0, 10 ^ 15 + 1)] } }).dev.host.armed.get 0 (0)),
    by (try simp only [State.On, State.Awake, State.Opens, State.Ready, Dev.quiet, Dev.acts, Clock.ok]) <;> decide +kernel⟩
theorem witness_FusesAndSealing_7 : ∃ (s : State) (path : Nat) (t : Nat), s.Opens 0x03 ∧ path < 2 ∧ t = s.dev.host.armed.get 0 path ∧ (t = 0 ∨
    t + 10000000 < s.dev.clk.up + 1 ∨ s.dev.on TOP.BOOT_STATUS_READY = false ∨ s.dev.warned = true ∨ s.dev.otp.sealed = true) :=
  ⟨mod0, 0, (0), by (try simp only [State.On, State.Awake, State.Opens, State.Ready, Dev.quiet, Dev.acts, Clock.ok]) <;> decide +kernel⟩
/-! ### TestAccess -/

theorem witness_TestAccess_0 : ∃ (s : State), (s.On ∨ s.dev.sup.phase = .reset) :=
  ⟨mod0, by (try simp only [State.On, State.Awake, State.Opens, State.Ready, Dev.quiet, Dev.acts, Clock.ok]) <;> decide +kernel⟩
theorem witness_TestAccess_1 : ∃ (s : State) (pins : Nat) (tdi : Nat), (s.On ∨ s.dev.sup.phase = .reset) :=
  ⟨mod0, 0, 0, by (try simp only [State.On, State.Awake, State.Opens, State.Ready, Dev.quiet, Dev.acts, Clock.ok]) <;> decide +kernel⟩
theorem witness_TestAccess_2 : ∃ (s : State) (pins : Nat) (tdi : Nat), (s.On ∨ s.dev.sup.phase = .reset) :=
  ⟨mod0, 0, 0, by (try simp only [State.On, State.Awake, State.Opens, State.Ready, Dev.quiet, Dev.acts, Clock.ok]) <;> decide +kernel⟩
theorem witness_TestAccess_3 : ∃ (s : State), (s.On ∨ s.dev.sup.phase = .reset) :=
  ⟨mod0, by (try simp only [State.On, State.Awake, State.Opens, State.Ready, Dev.quiet, Dev.acts, Clock.ok]) <;> decide +kernel⟩
theorem witness_TestAccess_4 : ∃ (s : State), (s.On ∨ s.dev.sup.phase = .reset) :=
  ⟨mod0, by (try simp only [State.On, State.Awake, State.Opens, State.Ready, Dev.quiet, Dev.acts, Clock.ok]) <;> decide +kernel⟩
theorem witness_TestAccess_5 : ∃ (s : State) (code : Nat), (s.On ∨ s.dev.sup.phase = .reset) ∧ code < 16 :=
  ⟨mod0, 0, by (try simp only [State.On, State.Awake, State.Opens, State.Ready, Dev.quiet, Dev.acts, Clock.ok]) <;> decide +kernel⟩
theorem witness_TestAccess_6 : ∃ (s : State) (code : Nat), (s.On ∨ s.dev.sup.phase = .reset) ∧ code < 256 ∧ code ∉ [0x00, 0x01, 0x02, 0x04, 0x05] ∧
    (code < 0x80 ∨ 0x8F < code ∨ s.dev.otp.sealed = true) :=
  ⟨mod0, 3, by (try simp only [State.On, State.Awake, State.Opens, State.Ready, Dev.quiet, Dev.acts, Clock.ok]) <;> decide +kernel⟩
theorem witness_TestAccess_7 : ∃ (s : State), (s.On ∨ s.dev.sup.phase = .reset) :=
  ⟨mod0, by (try simp only [State.On, State.Awake, State.Opens, State.Ready, Dev.quiet, Dev.acts, Clock.ok]) <;> decide +kernel⟩
theorem witness_TestAccess_9 : ∃ (s : State) (c : Instr) (x : Nat) (y : Nat), (c = .idcode ∨ c = .extest x y ∨ c = .samplePreload x y ∨ c = .clamp ∨
    c = .highz ∨ c = .debugAccess x ∨ c = .bypass x ∨ c = .trstN) ∧ s.dev.sup.phase ≠ .on ∧ s.dev.sup.phase ≠ .reset :=
  ⟨(modOf fun d => { d with sup := { d.sup with phase := .unpowered } }), (.idcode), 0, 0,
    by (try simp only [State.On, State.Awake, State.Opens, State.Ready, Dev.quiet, Dev.acts, Clock.ok]) <;> decide +kernel⟩
theorem witness_TestAccess_8 : ∃ (s : State) (code : Nat), (s.On ∨ s.dev.sup.phase = .reset) ∧ code < 256 ∧ (code ∈ [0x00, 0x01, 0x02,
    0x04, 0x05] ∨ (0x80 ≤ code ∧ code ≤ 0x8F ∧ s.dev.otp.sealed = false)) :=
  ⟨mod0, 0, by (try simp only [State.On, State.Awake, State.Opens, State.Ready, Dev.quiet, Dev.acts, Clock.ok]) <;> decide +kernel⟩

end Sys2Proof.Tests
end

section
/-! What reset leaves in the configuration loader's interrupt enables and in the interrupt routing table (R66). -/

namespace Sys2Proof.Machine

/-! ### Registers at reset -/

@[simp] theorem State.reset_dev : State.reset.dev = Dev.reset := rfl

/-- The register file is empty at reset, so that each register reads its reset value. -/
@[simp] theorem Dev.reset_reg (r : Reg) (ch : Nat) : Dev.reset.reg r ch = r.rstOf ch := rfl

@[simp] theorem Dev.reset_num (r : Reg) (ch : Nat) : Dev.reset.num r ch = (r.rstOf ch).toNat := rfl

@[simp] theorem Dev.reset_fld (x : Fld) (ch : Nat) : Dev.reset.fld x ch = bitsOf (x.reg.rstOf ch).toNat x.lo x.len := rfl

/-- A page's interrupt enables reset to what its chapter gives (R70): none of the special cases of `Reg.rstOf` is at
offset 0x014. -/
theorem INT_EN_rstOf (p ch : Nat) : (INT_EN p).rstOf ch = BitVec.ofNat 32 (hdrOf p).intEn := by
  simp [Reg.rstOf, INT_EN]

/-- CFGL's header (R65, R66). -/
theorem INT_EN_rstOf_CFGL (ch : Nat) : (INT_EN 0x02).rstOf ch = 0x000000E3#32 := INT_EN_rstOf 0x02 ch

/-- Entry 2 of the routing table is the one whose reset value is not 0 (R89). -/
theorem ROUTE_rstOf_CFGL (ch : Nat) : (TOP.ROUTE.ix 0x02).rstOf ch = 0x00000080#32 := by
  simp [Reg.rstOf, TOP.ROUTE, Reg.ix]

theorem ROUTE_ALERT_EN_ix_reg (i : Nat) : (TOP.ROUTE_ALERT_EN.ix i).reg = TOP.ROUTE.ix i := rfl

/-! ### The bits of CFGL's enables -/

/-- The positions of the ones of 0xE3. -/
theorem getLsbD_E3_iff : ∀ i < 32, (0x000000E3#32).getLsbD i = true ↔ i = 0 ∨ i = 1 ∨ i = 5 ∨ i = 6 ∨ i = 7 := by decide

/-- On a given page an interrupt bit is known by its position. -/
theorem IntBit.eq_iff_pos {b : IntBit} {p : Nat} (hp : b.page = p) (i : Nat) : b = ⟨p, i⟩ ↔ b.pos = i := by
  cases b
  simp_all

end Sys2Proof.Machine

open Sys2Proof Sys2Proof.Machine

/-- Settles O3: CFGL.INT_EN resets to 0xE3, whose ones stand at the five named bits, and ROUTE[2] to 0x80, which is
ALERT_EN alone. -/
theorem loaderInterruptsAtReset : Obligations.LoaderInterruptsAtReset := by
  unfold Obligations.LoaderInterruptsAtReset
  rw [State.reset_dev]
  refine ⟨?enables, fun b hpage hpos => ?bits, ?route⟩
  case enables =>
    rw [Dev.reset_num, INT_EN_rstOf_CFGL]
    rfl
  case bits =>
    have hnamed (i : Nat) : b = ⟨0x02, i⟩ ↔ b.pos = i := IntBit.eq_iff_pos hpage i
    rw [Dev.reset_reg, INT_EN_rstOf_CFGL, getLsbD_E3_iff b.pos hpos]
    simp only [CFGL.int_DEFAULTED, CFGL.int_SIG_FAIL, CFGL.int_RNG_FAIL, CFGL.int_MARCH_FAIL, CFGL.int_FLOW_MEM_FAIL, hnamed]
  case route =>
    rw [Dev.on, Dev.reset_fld, ROUTE_ALERT_EN_ix_reg, ROUTE_rstOf_CFGL]
    decide
end

section
/-! The interrupt summary words of the TOP page (R74): what a read of them returns, and the bits of that value. -/

namespace Sys2Proof.Machine

/-! ### Numbers written bit by bit -/

/-- The bits at places 0 to `n - 1` stay below place `n`. -/
theorem sum_bit_shiftLeft_lt (f : Nat → Bool) (n : Nat) : ((List.range n).map fun i => bit (f i) <<< i).sum < 2 ^ n := by
  induction n with
  | zero => simp
  | succ n ih =>
    have hbit : bit (f n) * 2 ^ n ≤ 2 ^ n := by cases f n <;> simp [bit]
    rw [List.sum_range_succ, Nat.shiftLeft_eq, Nat.pow_succ]
    omega

/-- A number put together from bits has those bits: the sum carries nothing from one place to the next. -/
theorem testBit_sum_bit_shiftLeft (f : Nat → Bool) {n i : Nat} (hi : i < n) :
    ((List.range n).map fun i => bit (f i) <<< i).sum.testBit i = f i := by
  induction n with
  | zero => omega
  | succ n ih =>
    rw [List.sum_range_succ, Nat.add_comm, Nat.shiftLeft_eq, Nat.mul_comm,
      Nat.testBit_two_pow_mul_add _ (sum_bit_shiftLeft_lt f n)]
    split
    case isTrue h => exact ih h
    case isFalse h =>
      obtain rfl : i = n := by omega
      cases f i <;> simp [bit]

/-- R74 speaks of any bit of INT_PEND, `Dev.summary` of the whole word. -/
theorem word_ne_zero_iff (w : Word) : w ≠ 0 ↔ ∃ b, b < 32 ∧ w.getLsbD b = true := by
  refine ⟨fun hw => ?_, ?_⟩
  · by_contra hnone
    refine hw (BitVec.eq_of_getLsbD_eq fun i hi => ?_)
    simpa using fun h => hnone ⟨i, hi, h⟩
  · rintro ⟨b, -, hb⟩ rfl
    simp at hb

/-! ### Reads of the TOP page -/

/-- The header words of a page stand below 0x040 (R70). -/
theorem Dev.header_eq_none (d : Dev) (page : Nat) {off : Nat} (h : 0x040 ≤ off) : d.header page off = none := by
  unfold Dev.header
  split
  iterate 9 · omega
  rfl

/-- No read of the TOP page does anything beside. -/
@[simp] theorem Dev.readEffect_TOP (d : Dev) (path off ch : Nat) : d.readEffect path 0x00 off ch = none := by
  simp [Dev.readEffect, Dev.openStat, Dev.latchRead, Dev.latched]

@[simp] theorem openRead_TOP (off : Nat) : openRead 0x00 off = false := by simp [openRead]

/-- INT_SUMMARY0 to INT_SUMMARY3 are worked out at the read (R74, R89). -/
theorem Dev.viewed_INT_SUMMARY (d : Dev) (ch : Nat) {k : Nat} (hk : k < 4) :
    d.viewed 0x00 (0x430 + 4 * k) ch = some (d.summary k) := by
  have hoff : 0x430 + 4 * k < 0x440 := by omega
  simp [Dev.viewed, Dev.otherView, hoff]

theorem Dev.pageRead_INT_SUMMARY (d : Dev) (path : Nat) {k : Nat} (hk : k < 4) :
    d.pageRead path 0x00 (0x430 + 4 * k) = (d, BitVec.ofNat 32 (d.summary k)) := by
  have hheader : d.header 0x00 (0x430 + 4 * k) = none := d.header_eq_none 0x00 (by omega)
  simp [Dev.pageRead, hheader, d.viewed_INT_SUMMARY _ hk]

theorem Dev.busRead_INT_SUMMARY (d : Dev) (path : Nat) (hopen : d.pageOpen 0 = true) {k : Nat} (hk : k < 4) :
    (d.busRead path (0x430 + 4 * k)).2 = BitVec.ofNat 32 (d.summary k) := by
  have hpage : (0x430 + 4 * k) / 4096 = 0x00 := by omega
  have hoff : (0x430 + 4 * k) % 4096 / 4 * 4 = 0x430 + 4 * k := by omega
  simp only [Dev.busRead, hpage, hoff, hopen, if_true, d.pageRead_INT_SUMMARY path hk]

/-! ### The bits of a summary word -/

/-- Bit `i` of INT_SUMMARY `k` is that of page `32 * k + i` (R74). -/
theorem Dev.testBit_summary (d : Dev) (k : Nat) {i : Nat} (hi : i < 32) :
    (d.summary k).testBit i = ((pageHdr (32 * k + i)).isSome && d.pend (32 * k + i) ≠ 0) :=
  testBit_sum_bit_shiftLeft (fun i => (pageHdr (32 * k + i)).isSome && d.pend (32 * k + i) ≠ 0) hi

end Sys2Proof.Machine

open Sys2Proof Sys2Proof.Machine

/-- Settles O4: page `p` stands at bit `p % 32` of summary word `p / 32`, whose read shows, for a page with a header, whether
INT_PEND is other than 0. -/
theorem interruptSummaryBits : Obligations.InterruptSummaryBits := by
  unfold Obligations.InterruptSummaryBits
  intro d path p hopen hp
  have hword : p / 32 < 4 := by omega
  have hbit : p % 32 < 32 := Nat.mod_lt p (by decide)
  rw [d.busRead_INT_SUMMARY path hopen hword, BitVec.getLsbD_ofNat, d.testBit_summary _ hbit, Nat.div_add_mod]
  simp [hbit, ← word_ne_zero_iff]
end

section
set_option Elab.async false
/-! What an operation leaves as it was, for proofs that go through a definition from the inside out: the laws of `Dev.moves` in a form
that chains, and the reads of registers that a bound on the pages leaves alone. Side conditions on concrete registers and lists are
equations of Booleans, which hold by evaluation. -/

namespace Sys2Proof.Machine

/-! ### Registers apart, and registers that do not report -/

/-- The two registers lie on different pages or at different offsets. -/
def Reg.apart (r q : Reg) : Bool := r.page != q.page || (r.off != q.off && decide (r.off < 4096) && decide (q.off < 4096))

/-- No interrupt, event or counter shows in the register. -/
def Reg.plain (r : Reg) : Bool :=
  !(r.page == 0x60) && !(r.page == 0x62) && !(r.page == 0x68 && decide (0xC00 ≤ r.off)) && !(r.off == 0x010) && decide (r.off < 4096)

theorem Reg.key_ne_of_apart {r q : Reg} (h : r.apart q = true) (p c p' c' : Nat) : r.key p c ≠ q.key p' c' := by
  simp only [Reg.apart, Bool.or_eq_true, Bool.and_eq_true, bne_iff_ne, decide_eq_true_eq] at h
  rcases h with h | ⟨⟨h, hr⟩, hq⟩
  · exact Reg.key_ne_page _ _ _ _ _ _ h
  · exact Reg.key_ne_off _ _ _ _ _ _ hr hq h

theorem Reg.plain_iff (r : Reg) : r.plain = true ↔
    r.page ≠ 0x60 ∧ r.page ≠ 0x62 ∧ (r.page ≠ 0x68 ∨ r.off < 0xC00) ∧ r.off ≠ 0x010 ∧ r.off < 4096 := by
  unfold Reg.plain
  simp only [Bool.and_eq_true, Bool.not_eq_true', beq_eq_false_iff_ne, decide_eq_true_eq, Bool.and_eq_false_iff, decide_eq_false_iff_not,
    Nat.not_le, and_assoc]

theorem Reg.plain_key {r : Reg} (h : r.plain = true) (p c : Nat) : reportKey (r.key p c) = false := by
  obtain ⟨h60, h62, h68, hraw, hoff⟩ := (Reg.plain_iff r).mp h
  exact reportKey_false r p c hoff hraw h60 h62 h68

theorem Reg.plain_off {r : Reg} (h : r.plain = true) : r.off < 4096 ∧ r.off ≠ 0x010 := by
  obtain ⟨-, -, -, hraw, hoff⟩ := (Reg.plain_iff r).mp h
  exact ⟨hoff, hraw⟩

/-! ### Reads after a write of a register that is apart -/

section Reads
variable (d : Dev) (r q : Reg) (x y : Fld) (b : IntBit) (p c c' v n : Nat) (w : Word)

@[simp] theorem Dev.regP_setRegP_apart (p' : Nat) (h : r.apart q = true) : (d.setRegP q p' c' w).regP r p c = d.regP r p c :=
  Dev.regP_setRegP_ne d r q p c p' c' w (Reg.key_ne_of_apart h _ _ _ _)
@[simp] theorem Dev.reg_setRegP_apart (p' : Nat) (h : r.apart q = true) : (d.setRegP q p' c' w).reg r c = d.reg r c :=
  d.regP_setRegP_apart r q 0 c c' w p' h
@[simp] theorem Dev.num_setRegP_apart (p' : Nat) (h : r.apart q = true) : (d.setRegP q p' c' w).num r c = d.num r c :=
  congrArg BitVec.toNat (d.reg_setRegP_apart r q c c' w p' h)
@[simp] theorem Dev.regP_setReg_apart (h : r.apart q = true) : (d.setReg q w c').regP r p c = d.regP r p c :=
  d.regP_setRegP_apart r q p c c' w 0 h
@[simp] theorem Dev.reg_setReg_apart (h : r.apart q = true) : (d.setReg q w c').reg r c = d.reg r c := d.regP_setReg_apart r q 0 c c' w h
@[simp] theorem Dev.num_setReg_apart (h : r.apart q = true) : (d.setReg q w c').num r c = d.num r c :=
  congrArg BitVec.toNat (d.reg_setReg_apart r q c c' w h)
@[simp] theorem Dev.fld_setReg_apart (h : x.reg.apart q = true) : (d.setReg q w c').fld x c = d.fld x c := by
  rw [Dev.fld, d.num_setReg_apart _ q c c' w h, Dev.fld]
@[simp] theorem Dev.regP_setNum_apart (h : r.apart q = true) : (d.setNum q v c').regP r p c = d.regP r p c :=
  d.regP_setReg_apart r q p c c' _ h
@[simp] theorem Dev.reg_setNum_apart (h : r.apart q = true) : (d.setNum q v c').reg r c = d.reg r c := d.reg_setReg_apart r q c c' _ h
@[simp] theorem Dev.num_setNum_apart (h : r.apart q = true) : (d.setNum q v c').num r c = d.num r c := d.num_setReg_apart r q c c' _ h
@[simp] theorem Dev.fld_setNum_apart (h : x.reg.apart q = true) : (d.setNum q v c').fld x c = d.fld x c := d.fld_setReg_apart q x c c' _ h
@[simp] theorem Dev.on_setNum_apart (h : x.reg.apart q = true) : (d.setNum q v c').on x c = d.on x c := by
  rw [Dev.on, d.fld_setNum_apart q x c c' v h, Dev.on]
@[simp] theorem Dev.regP_setFld_apart (h : r.apart y.reg = true) : (d.setFld y v c').regP r p c = d.regP r p c :=
  d.regP_setReg_apart r y.reg p c c' _ h
@[simp] theorem Dev.reg_setFld_apart (h : r.apart y.reg = true) : (d.setFld y v c').reg r c = d.reg r c := d.reg_setReg_apart r y.reg c c' _ h
@[simp] theorem Dev.num_setFld_apart (h : r.apart y.reg = true) : (d.setFld y v c').num r c = d.num r c := d.num_setReg_apart r y.reg c c' _ h
@[simp] theorem Dev.fld_setFld_apart (h : x.reg.apart y.reg = true) : (d.setFld y v c').fld x c = d.fld x c :=
  d.fld_setReg_apart y.reg x c c' _ h
@[simp] theorem Dev.on_setFld_apart (h : x.reg.apart y.reg = true) : (d.setFld y v c').on x c = d.on x c := by
  rw [Dev.on, d.fld_setFld_apart x y c c' v h, Dev.on]
@[simp] theorem Dev.regP_bump_apart (h : r.apart q = true) : (d.bump q c' n).regP r p c = d.regP r p c := d.regP_setReg_apart r q p c c' _ h
@[simp] theorem Dev.num_bump_apart (h : r.apart q = true) : (d.bump q c' n).num r c = d.num r c := d.num_setReg_apart r q c c' _ h
@[simp] theorem Dev.fld_bump_apart (h : x.reg.apart q = true) : (d.bump q c' n).fld x c = d.fld x c := d.fld_setReg_apart q x c c' _ h
@[simp] theorem Dev.on_bump_apart (h : x.reg.apart q = true) : (d.bump q c' n).on x c = d.on x c := d.on_setNum_apart q x c c' _ h

/-- A field reads as it was set. -/
@[simp] theorem Dev.fld_setFld_eq (h : decide (x.lo + x.len ≤ 32) = true) : (d.setFld x v c).fld x c = v % 2 ^ x.len :=
  d.fld_setFld_same x v c (of_decide_eq_true h)
@[simp] theorem Dev.on_setFld_eq (h : decide (x.lo + x.len ≤ 32) = true) : (d.setFld x v c).on x c = (v % 2 ^ x.len != 0) := by
  rw [Dev.on, d.fld_setFld_eq x c v h]

/-- The two fields stand in one register, side by side. -/
def Fld.beside (x y : Fld) : Bool :=
  x.reg == y.reg && decide (y.lo + y.len ≤ 32) && (decide (y.lo + y.len ≤ x.lo) || decide (x.lo + x.len ≤ y.lo))

@[simp] theorem Dev.fld_setFld_beside (h : x.beside y = true) : (d.setFld y v c).fld x c = d.fld x c := by
  simp only [Fld.beside, Bool.and_eq_true, Bool.or_eq_true, beq_iff_eq, decide_eq_true_eq] at h
  obtain ⟨⟨hreg, hle⟩, hdis⟩ := h
  exact d.fld_setFld_field y x v c hreg hle hdis
@[simp] theorem Dev.on_setFld_beside (h : x.beside y = true) : (d.setFld y v c).on x c = d.on x c := by
  rw [Dev.on, d.fld_setFld_beside x y c v h, Dev.on]

@[simp] theorem Dev.num_bump_eq : (d.bump r c n).num r c = (d.num r c + n) % 2 ^ 32 := d.num_setNum_same r _ c

/-- A field of a register that is set whole. -/
@[simp] theorem Dev.fld_setNum_eq (h : x.reg = r) (hx : decide (x.lo + x.len ≤ 32) = true) : (d.setNum r v c).fld x c = bitsOf v x.lo x.len := by
  subst h
  exact d.fld_setNum_same x v c (of_decide_eq_true hx)
@[simp] theorem Dev.on_setNum_eq (h : x.reg = r) (hx : decide (x.lo + x.len ≤ 32) = true) :
    (d.setNum r v c).on x c = (bitsOf v x.lo x.len != 0) := by
  rw [Dev.on, d.fld_setNum_eq r x c v h hx]

/-! ### Interrupt bits -/

@[simp] theorem Dev.raised_setRegP_plain (h : q.plain = true) : (d.setRegP q p c w).raised b = d.raised b :=
  d.raised_setRegP b q p c w (Reg.key_ne_off _ _ _ _ _ _ (Reg.plain_off h).1 (show (0x010 : Nat) < 4096 by decide) (Reg.plain_off h).2)
@[simp] theorem Dev.raised_setReg_plain (h : q.plain = true) : (d.setReg q w c).raised b = d.raised b := d.raised_setRegP_plain q b 0 c w h
@[simp] theorem Dev.raised_setNum_plain (h : q.plain = true) : (d.setNum q v c).raised b = d.raised b := d.raised_setRegP_plain q b 0 c _ h
@[simp] theorem Dev.raised_setFld_plain (h : y.reg.plain = true) : (d.setFld y v c).raised b = d.raised b := d.raised_setNum_plain y.reg b c _ h
@[simp] theorem Dev.raised_bump_plain (h : q.plain = true) : (d.bump q c n).raised b = d.raised b := d.raised_setNum_plain q b c _ h

/-- A bit of a page whose bits event records and counters leave alone. -/
def IntBit.plain (b : IntBit) : Bool := !(b.page == 0x60) && !(b.page == 0x62) && decide (b.pos < 32)

theorem IntBit.plain_iff (b : IntBit) : b.plain = true ↔ (b.page ≠ 0x60 ∧ b.page ≠ 0x62) ∧ b.pos < 32 := by
  simp [IntBit.plain]

@[simp] theorem Dev.raised_raise_eq (h : b.plain = true) : (d.raise b).raised b = true := by
  obtain ⟨hp, hb⟩ := (IntBit.plain_iff b).mp h
  rw [d.raised_raise b b hp hb hb, decide_eq_true rfl, Bool.true_or]
theorem Dev.raised_raise_of (a : IntBit) (hb : b.plain = true) (ha : decide (a.pos < 32) = true) :
    (d.raise a).raised b = (decide (a = b) || d.raised b) := by
  obtain ⟨hp, hb⟩ := (IntBit.plain_iff b).mp hb
  exact d.raised_raise a b hp (of_decide_eq_true ha) hb
@[simp] theorem Dev.raised_log_plain (i co p0 p1 p2 p3 : Nat) (h : b.plain = true) : (d.log i co p0 p1 p2 p3).raised b = d.raised b :=
  d.raised_log b i co p0 p1 p2 p3 ((IntBit.plain_iff b).mp h).1
@[simp] theorem Dev.raised_opEnd_plain (i s : Nat) (h : b.plain = true) : (d.opEnd i s c).raised b = d.raised b :=
  d.raised_opEnd b i s c ((IntBit.plain_iff b).mp h).1
@[simp] theorem Dev.raised_perf_plain (i e : Nat) (h : b.plain = true) : (d.perf i e n).raised b = d.raised b :=
  d.raised_perf b i e n ((IntBit.plain_iff b).mp h).1

/-! ### Reads after interrupts, events and counters -/

@[simp] theorem Dev.regP_raise_plain (h : r.plain = true) : (d.raise b).regP r p c = d.regP r p c := d.raise_regP b r p c (Reg.plain_key h _ _)
@[simp] theorem Dev.reg_raise_plain (h : r.plain = true) : (d.raise b).reg r c = d.reg r c := d.regP_raise_plain r b 0 c h
@[simp] theorem Dev.num_raise_plain (h : r.plain = true) : (d.raise b).num r c = d.num r c := d.raise_num b r c (Reg.plain_key h _ _)
@[simp] theorem Dev.fld_raise_plain (h : x.reg.plain = true) : (d.raise b).fld x c = d.fld x c := d.raise_fld b x c (Reg.plain_key h _ _)
@[simp] theorem Dev.on_raise_plain (h : x.reg.plain = true) : (d.raise b).on x c = d.on x c := by
  rw [Dev.on, d.fld_raise_plain x b c h, Dev.on]
@[simp] theorem Dev.regP_log_plain (i co p0 p1 p2 p3 : Nat) (h : r.plain = true) : (d.log i co p0 p1 p2 p3).regP r p c = d.regP r p c :=
  d.log_regP i co p0 p1 p2 p3 r p c (Reg.plain_key h _ _)
@[simp] theorem Dev.reg_log_plain (i co p0 p1 p2 p3 : Nat) (h : r.plain = true) : (d.log i co p0 p1 p2 p3).reg r c = d.reg r c :=
  d.regP_log_plain r 0 c i co p0 p1 p2 p3 h
@[simp] theorem Dev.num_log_plain (i co p0 p1 p2 p3 : Nat) (h : r.plain = true) : (d.log i co p0 p1 p2 p3).num r c = d.num r c :=
  d.log_num i co p0 p1 p2 p3 r c (Reg.plain_key h _ _)
@[simp] theorem Dev.fld_log_plain (i co p0 p1 p2 p3 : Nat) (h : x.reg.plain = true) : (d.log i co p0 p1 p2 p3).fld x c = d.fld x c :=
  d.log_fld i co p0 p1 p2 p3 x c (Reg.plain_key h _ _)
@[simp] theorem Dev.on_log_plain (i co p0 p1 p2 p3 : Nat) (h : x.reg.plain = true) : (d.log i co p0 p1 p2 p3).on x c = d.on x c := by
  rw [Dev.on, d.fld_log_plain x c i co p0 p1 p2 p3 h, Dev.on]
@[simp] theorem Dev.regP_opEnd_plain (i s ch : Nat) (h : r.plain = true) : (d.opEnd i s ch).regP r p c = d.regP r p c :=
  d.regP_log_plain r p c 32 _ i s ch 0 h
@[simp] theorem Dev.num_opEnd_plain (i s ch : Nat) (h : r.plain = true) : (d.opEnd i s ch).num r c = d.num r c :=
  d.opEnd_num i s ch r c (Reg.plain_key h _ _)
@[simp] theorem Dev.fld_opEnd_plain (i s ch : Nat) (h : x.reg.plain = true) : (d.opEnd i s ch).fld x c = d.fld x c :=
  d.opEnd_fld i s ch x c (Reg.plain_key h _ _)
@[simp] theorem Dev.on_opEnd_plain (i s ch : Nat) (h : x.reg.plain = true) : (d.opEnd i s ch).on x c = d.on x c := by
  rw [Dev.on, d.fld_opEnd_plain x c i s ch h, Dev.on]
@[simp] theorem Dev.regP_perf_plain (i e : Nat) (h : r.plain = true) : (d.perf i e n).regP r p c = d.regP r p c :=
  Dev.reportsOnly_regP (Dev.reportsOnly_perf d i e n) r p c (Reg.plain_key h _ _)
@[simp] theorem Dev.num_perf_plain (i e : Nat) (h : r.plain = true) : (d.perf i e n).num r c = d.num r c :=
  d.perf_num i e n r c (Reg.plain_key h _ _)
@[simp] theorem Dev.fld_perf_plain (i e : Nat) (h : x.reg.plain = true) : (d.perf i e n).fld x c = d.fld x c :=
  d.perf_fld i e n x c (Reg.plain_key h _ _)
@[simp] theorem Dev.on_perf_plain (i e : Nat) (h : x.reg.plain = true) : (d.perf i e n).on x c = d.on x c := by
  rw [Dev.on, d.fld_perf_plain x c n i e h, Dev.on]

end Reads

/-! ### Moves, chained -/

namespace Dev.moves
variable {d d0 e : Dev} {P L : List Part} {G K : List Nat}

theorem symm (h : d.moves e P G) : e.moves d P G := by
  refine ⟨fun p hp => ?_, fun k w hk hg => (h.2 k w hk hg).symm⟩
  have h1 := h.1 p hp
  cases p <;> exact Eq.symm h1

theorem trans (h : d0.moves d P G) (g : d.moves e P G) : d0.moves e P G := Dev.moves_trans h g

/-- The bound grows. -/
theorem mono (h : d.moves e L K) (hP : L.all P.contains = true := by rfl) (hG : K.all G.contains = true := by rfl) : d.moves e P G := by
  refine Dev.moves_mono h (fun p hp => ?_) (fun k hk => ?_)
  · simpa using List.all_eq_true.mp hP p hp
  · simpa using List.all_eq_true.mp hG k hk

/-- An operation that moves less than the bound. -/
theorem andThen (h : d0.moves d P G) (g : d.moves e L K) (hP : L.all P.contains = true := by rfl)
    (hG : K.all G.contains = true := by rfl) : d0.moves e P G := h.trans (g.mono hP hG)

theorem setRegP {r : Reg} {p c : Nat} {v : Word} (h : d0.moves d P G) (hg : G.contains r.page = true := by rfl) :
    d0.moves (d.setRegP r p c v) P G := Dev.moves_setRegP h (by simpa using hg)
theorem setReg {r : Reg} {v : Word} {c : Nat} (h : d0.moves d P G) (hg : G.contains r.page = true := by rfl) :
    d0.moves (d.setReg r v c) P G := h.setRegP hg
theorem setNum {r : Reg} {v c : Nat} (h : d0.moves d P G) (hg : G.contains r.page = true := by rfl) :
    d0.moves (d.setNum r v c) P G := h.setReg hg
theorem setFld {x : Fld} {v c : Nat} (h : d0.moves d P G) (hg : G.contains x.reg.page = true := by rfl) :
    d0.moves (d.setFld x v c) P G := h.setNum hg
theorem bump {r : Reg} {c n : Nat} (h : d0.moves d P G) (hg : G.contains r.page = true := by rfl) :
    d0.moves (d.bump r c n) P G := h.setNum hg
theorem setNum2 {r q : Reg} {v c : Nat} (h : d0.moves d P G) (hg : G.contains r.page = true := by rfl)
    (hq : G.contains q.page = true := by rfl) : d0.moves (d.setNum2 r q v c) P G := (h.setNum hg).setNum hq
theorem recErr {p o c s : Nat} (h : d0.moves d P G) (hg : G.contains p = true := by rfl) : d0.moves (d.recErr p o c s) P G :=
  Dev.moves_recErr h (by simpa using hg)
theorem emit {o : Output} (h : d0.moves d P G) : d0.moves (d.emit o) P G := Dev.moves_emit h
theorem raiseBits {p : Nat} {w : Word} (h : d0.moves d P G) : d0.moves (d.raiseBits p w) P G := Dev.moves_raiseBits h
theorem raise {b : IntBit} (h : d0.moves d P G) : d0.moves (d.raise b) P G := Dev.moves_raise h
theorem perf {i e n : Nat} (h : d0.moves d P G) : d0.moves (d.perf i e n) P G := Dev.moves_perf h
theorem log {i c p0 p1 p2 p3 : Nat} (h : d0.moves d P G) : d0.moves (d.log i c p0 p1 p2 p3) P G := Dev.moves_log h
theorem opEnd {p s c : Nat} (h : d0.moves d P G) : d0.moves (d.opEnd p s c) P G := Dev.moves_opEnd h
theorem watch {p : Nat} {f : Dev → Dev} (h : d0.moves (f d) P G) : d0.moves (d.watch p f) P G := Dev.moves_watch h
theorem reports {e : Dev} (h : d0.moves d P G) (g : d.reportsOnly e) : d0.moves e P G := Dev.moves_reports h g
theorem ite {e f : Dev} {c : Prop} [Decidable c] (h : d0.moves e P G) (g : d0.moves f P G) : d0.moves (if c then e else f) P G :=
  Dev.moves_ite h g
theorem iteSelf {e : Dev} {c : Prop} [Decidable c] (h : d0.moves d P G) (g : d0.moves d P G → d0.moves e P G) :
    d0.moves (if c then e else d) P G := (g h).ite h
theorem when {c : Bool} {f : Dev → Dev} (h : d0.moves d P G) (hf : ∀ {x : Dev}, d0.moves x P G → d0.moves (f x) P G) :
    d0.moves (d.when c f) P G := Dev.moves_when h fun _ => hf
theorem access {p : Nat} {f : Dev → Dev} (h : d0.moves d P G) (hf : ∀ {x : Dev}, d0.moves x P G → d0.moves (f x) P G) :
    d0.moves (d.access p f) P G := Dev.moves_access h fun _ => hf
theorem foldl {α : Type} {g : Dev → α → Dev} {l : List α} (h : d0.moves d P G)
    (hg : ∀ {x : Dev} {a : α}, d0.moves x P G → d0.moves (g x a) P G) : d0.moves (l.foldl g d) P G := Dev.moves_foldl h fun _ _ => hg
theorem each {n : Nat} {g : Dev → Nat → Dev} (h : d0.moves d P G)
    (hg : ∀ {x : Dev} {a : Nat}, d0.moves x P G → d0.moves (g x a) P G) : d0.moves (d.each n g) P G := h.foldl hg
theorem foldlFst {α β : Type} {g : Dev × β → α → Dev × β} {l : List α} {x : Dev × β} (h : d0.moves x.1 P G)
    (hg : ∀ {y : Dev × β} {a : α}, d0.moves y.1 P G → d0.moves (g y a).1 P G) : d0.moves (l.foldl g x).1 P G :=
  Dev.moves_foldl_fst h fun _ _ => hg
theorem under (h : d0.moves e P G) : d0.moves (d0.under e) P G := Dev.moves_under h

/-! An update of one part that the bound lists. -/

/-- An update that leaves the registers and every part but one of the bound's. -/
theorem of_part (q : Part) (hq : P.contains q = true) (hr : e.regs = d.regs) (h : ∀ p : Part, p ≠ q → d.same e p) : d.moves e P G := by
  refine Dev.moves_parts (Dev.moves_refl d P G) hr fun p hp => h p ?_
  rintro rfl
  simp only [List.mem_cons, not_or] at hp
  obtain ⟨-, -, -, -, hp⟩ := hp
  exact hp (by simpa using hq)

theorem set_clk {x} (h : d0.moves d P G) (hp : P.contains .clk = true := by rfl) : d0.moves { d with clk := x } P G :=
  h.trans (of_part .clk hp rfl fun p hp => by cases p <;> first | rfl | exact absurd rfl hp)
theorem set_otp {x} (h : d0.moves d P G) (hp : P.contains .otp = true := by rfl) : d0.moves { d with otp := x } P G :=
  h.trans (of_part .otp hp rfl fun p hp => by cases p <;> first | rfl | exact absurd rfl hp)
theorem set_draws {x} (h : d0.moves d P G) (hp : P.contains .draws = true := by rfl) : d0.moves { d with draws := x } P G :=
  h.trans (of_part .draws hp rfl fun p hp => by cases p <;> first | rfl | exact absurd rfl hp)
theorem set_frees {x} (h : d0.moves d P G) (hp : P.contains .frees = true := by rfl) : d0.moves { d with frees := x } P G :=
  h.trans (of_part .frees hp rfl fun p hp => by cases p <;> first | rfl | exact absurd rfl hp)
theorem set_shadow {x} (h : d0.moves d P G) (hp : P.contains .shadow = true := by rfl) : d0.moves { d with shadow := x } P G :=
  h.trans (of_part .shadow hp rfl fun p hp => by cases p <;> first | rfl | exact absurd rfl hp)
theorem set_dirty {x} (h : d0.moves d P G) (hp : P.contains .dirty = true := by rfl) : d0.moves { d with dirty := x } P G :=
  h.trans (of_part .dirty hp rfl fun p hp => by cases p <;> first | rfl | exact absurd rfl hp)
theorem set_prev {x} (h : d0.moves d P G) (hp : P.contains .prev = true := by rfl) : d0.moves { d with prev := x } P G :=
  h.trans (of_part .prev hp rfl fun p hp => by cases p <;> first | rfl | exact absurd rfl hp)
theorem set_cgen {x} (h : d0.moves d P G) (hp : P.contains .cgen = true := by rfl) : d0.moves { d with cgen := x } P G :=
  h.trans (of_part .cgen hp rfl fun p hp => by cases p <;> first | rfl | exact absurd rfl hp)
theorem set_commit {x} (h : d0.moves d P G) (hp : P.contains .commit = true := by rfl) : d0.moves { d with commit := x } P G :=
  h.trans (of_part .commit hp rfl fun p hp => by cases p <;> first | rfl | exact absurd rfl hp)
theorem set_pause {x} (h : d0.moves d P G) (hp : P.contains .pause = true := by rfl) : d0.moves { d with pause := x } P G :=
  h.trans (of_part .pause hp rfl fun p hp => by cases p <;> first | rfl | exact absurd rfl hp)
theorem set_evq {x} (h : d0.moves d P G) : d0.moves { d with evq := x } P G :=
  Dev.moves_parts h rfl fun p hp => by cases p <;> first | rfl | simp at hp
theorem set_out {x} (h : d0.moves d P G) : d0.moves { d with out := x } P G :=
  Dev.moves_parts h rfl fun p hp => by cases p <;> first | rfl | simp at hp
theorem set_hostMem {x} (h : d0.moves d P G) (hp : P.contains .hostMem = true := by rfl) : d0.moves { d with hostMem := x } P G :=
  h.trans (of_part .hostMem hp rfl fun p hp => by cases p <;> first | rfl | exact absurd rfl hp)
theorem set_flash {x} (h : d0.moves d P G) (hp : P.contains .flash = true := by rfl) : d0.moves { d with flash := x } P G :=
  h.trans (of_part .flash hp rfl fun p hp => by cases p <;> first | rfl | exact absurd rfl hp)
theorem set_sup {x} (h : d0.moves d P G) (hp : P.contains .sup = true := by rfl) : d0.moves { d with sup := x } P G :=
  h.trans (of_part .sup hp rfl fun p hp => by cases p <;> first | rfl | exact absurd rfl hp)
theorem set_spore {x} (h : d0.moves d P G) (hp : P.contains .spore = true := by rfl) : d0.moves { d with spore := x } P G :=
  h.trans (of_part .spore hp rfl fun p hp => by cases p <;> first | rfl | exact absurd rfl hp)
theorem set_boot {x} (h : d0.moves d P G) (hp : P.contains .boot = true := by rfl) : d0.moves { d with boot := x } P G :=
  h.trans (of_part .boot hp rfl fun p hp => by cases p <;> first | rfl | exact absurd rfl hp)
theorem set_time {x} (h : d0.moves d P G) (hp : P.contains .time = true := by rfl) : d0.moves { d with time := x } P G :=
  h.trans (of_part .time hp rfl fun p hp => by cases p <;> first | rfl | exact absurd rfl hp)
theorem set_isles {x} (h : d0.moves d P G) (hp : P.contains .isles = true := by rfl) : d0.moves { d with isles := x } P G :=
  h.trans (of_part .isles hp rfl fun p hp => by cases p <;> first | rfl | exact absurd rfl hp)
theorem set_resetting {x} (h : d0.moves d P G) (hp : P.contains .resetting = true := by rfl) : d0.moves { d with resetting := x } P G :=
  h.trans (of_part .resetting hp rfl fun p hp => by cases p <;> first | rfl | exact absurd rfl hp)
theorem set_sw {x} (h : d0.moves d P G) (hp : P.contains .sw = true := by rfl) : d0.moves { d with sw := x } P G :=
  h.trans (of_part .sw hp rfl fun p hp => by cases p <;> first | rfl | exact absurd rfl hp)
theorem set_obs {x} (h : d0.moves d P G) : d0.moves { d with obs := x } P G :=
  Dev.moves_parts h rfl fun p hp => by cases p <;> first | rfl | simp at hp
theorem set_look {x} (h : d0.moves d P G) (hp : P.contains .look = true := by rfl) : d0.moves { d with look := x } P G :=
  h.trans (of_part .look hp rfl fun p hp => by cases p <;> first | rfl | exact absurd rfl hp)
theorem set_flow {x} (h : d0.moves d P G) (hp : P.contains .flow = true := by rfl) : d0.moves { d with flow := x } P G :=
  h.trans (of_part .flow hp rfl fun p hp => by cases p <;> first | rfl | exact absurd rfl hp)
theorem set_eng {x} (h : d0.moves d P G) (hp : P.contains .eng = true := by rfl) : d0.moves { d with eng := x } P G :=
  h.trans (of_part .eng hp rfl fun p hp => by cases p <;> first | rfl | exact absurd rfl hp)
theorem set_units {x} (h : d0.moves d P G) (hp : P.contains .units = true := by rfl) : d0.moves { d with units := x } P G :=
  h.trans (of_part .units hp rfl fun p hp => by cases p <;> first | rfl | exact absurd rfl hp)
theorem set_tandem {x} (h : d0.moves d P G) (hp : P.contains .tandem = true := by rfl) : d0.moves { d with tandem := x } P G :=
  h.trans (of_part .tandem hp rfl fun p hp => by cases p <;> first | rfl | exact absurd rfl hp)
theorem set_mem {x} (h : d0.moves d P G) (hp : P.contains .mem = true := by rfl) : d0.moves { d with mem := x } P G :=
  h.trans (of_part .mem hp rfl fun p hp => by cases p <;> first | rfl | exact absurd rfl hp)
theorem set_host {x} (h : d0.moves d P G) (hp : P.contains .host = true := by rfl) : d0.moves { d with host := x } P G :=
  h.trans (of_part .host hp rfl fun p hp => by cases p <;> first | rfl | exact absurd rfl hp)
/-! What a bound says of the parts and the registers outside it. -/

theorem regP (h : d.moves e P G) (r : Reg) (p c : Nat) (hr : r.plain = true := by rfl) (hg : G.contains r.page = false := by rfl) :
    e.regP r p c = d.regP r p c :=
  h.2 _ _ (Reg.plain_key hr p c) (by rw [Reg.keyPage_key]; simpa using hg)
theorem reg (h : d.moves e P G) (r : Reg) (c : Nat) (hr : r.plain = true := by rfl) (hg : G.contains r.page = false := by rfl) :
    e.reg r c = d.reg r c := h.regP r 0 c hr hg
theorem num (h : d.moves e P G) (r : Reg) (c : Nat) (hr : r.plain = true := by rfl) (hg : G.contains r.page = false := by rfl) :
    e.num r c = d.num r c := congrArg BitVec.toNat (h.regP r 0 c hr hg)
theorem fld (h : d.moves e P G) (x : Fld) (c : Nat) (hr : x.reg.plain = true := by rfl)
    (hg : G.contains x.reg.page = false := by rfl) : e.fld x c = d.fld x c := by
  rw [Dev.fld, h.num x.reg c hr hg, Dev.fld]
theorem on (h : d.moves e P G) (x : Fld) (c : Nat) (hr : x.reg.plain = true := by rfl)
    (hg : G.contains x.reg.page = false := by rfl) : e.on x c = d.on x c := by
  rw [Dev.on, h.fld x c hr hg, Dev.on]


theorem keeps_clk (h : d.moves e P G) (hp : P.contains .clk = false := by rfl) : e.clk = d.clk :=
  h.1 .clk (by simpa using hp)
theorem keeps_otp (h : d.moves e P G) (hp : P.contains .otp = false := by rfl) : e.otp = d.otp :=
  h.1 .otp (by simpa using hp)
theorem keeps_draws (h : d.moves e P G) (hp : P.contains .draws = false := by rfl) : e.draws = d.draws :=
  h.1 .draws (by simpa using hp)
theorem keeps_frees (h : d.moves e P G) (hp : P.contains .frees = false := by rfl) : e.frees = d.frees :=
  h.1 .frees (by simpa using hp)
theorem keeps_shadow (h : d.moves e P G) (hp : P.contains .shadow = false := by rfl) : e.shadow = d.shadow :=
  h.1 .shadow (by simpa using hp)
theorem keeps_dirty (h : d.moves e P G) (hp : P.contains .dirty = false := by rfl) : e.dirty = d.dirty :=
  h.1 .dirty (by simpa using hp)
theorem keeps_prev (h : d.moves e P G) (hp : P.contains .prev = false := by rfl) : e.prev = d.prev :=
  h.1 .prev (by simpa using hp)
theorem keeps_cgen (h : d.moves e P G) (hp : P.contains .cgen = false := by rfl) : e.cgen = d.cgen :=
  h.1 .cgen (by simpa using hp)
theorem keeps_commit (h : d.moves e P G) (hp : P.contains .commit = false := by rfl) : e.commit = d.commit :=
  h.1 .commit (by simpa using hp)
theorem keeps_pause (h : d.moves e P G) (hp : P.contains .pause = false := by rfl) : e.pause = d.pause :=
  h.1 .pause (by simpa using hp)
theorem keeps_hostMem (h : d.moves e P G) (hp : P.contains .hostMem = false := by rfl) : e.hostMem = d.hostMem :=
  h.1 .hostMem (by simpa using hp)
theorem keeps_flash (h : d.moves e P G) (hp : P.contains .flash = false := by rfl) : e.flash = d.flash :=
  h.1 .flash (by simpa using hp)
theorem keeps_sup (h : d.moves e P G) (hp : P.contains .sup = false := by rfl) : e.sup = d.sup :=
  h.1 .sup (by simpa using hp)
theorem keeps_spore (h : d.moves e P G) (hp : P.contains .spore = false := by rfl) : e.spore = d.spore :=
  h.1 .spore (by simpa using hp)
theorem keeps_boot (h : d.moves e P G) (hp : P.contains .boot = false := by rfl) : e.boot = d.boot :=
  h.1 .boot (by simpa using hp)
theorem keeps_time (h : d.moves e P G) (hp : P.contains .time = false := by rfl) : e.time = d.time :=
  h.1 .time (by simpa using hp)
theorem keeps_isles (h : d.moves e P G) (hp : P.contains .isles = false := by rfl) : e.isles = d.isles :=
  h.1 .isles (by simpa using hp)
theorem keeps_resetting (h : d.moves e P G) (hp : P.contains .resetting = false := by rfl) : e.resetting = d.resetting :=
  h.1 .resetting (by simpa using hp)
theorem keeps_sw (h : d.moves e P G) (hp : P.contains .sw = false := by rfl) : e.sw = d.sw :=
  h.1 .sw (by simpa using hp)
theorem keeps_look (h : d.moves e P G) (hp : P.contains .look = false := by rfl) : e.look = d.look :=
  h.1 .look (by simpa using hp)
theorem keeps_flow (h : d.moves e P G) (hp : P.contains .flow = false := by rfl) : e.flow = d.flow :=
  h.1 .flow (by simpa using hp)
theorem keeps_eng (h : d.moves e P G) (hp : P.contains .eng = false := by rfl) : e.eng = d.eng :=
  h.1 .eng (by simpa using hp)
theorem keeps_units (h : d.moves e P G) (hp : P.contains .units = false := by rfl) : e.units = d.units :=
  h.1 .units (by simpa using hp)
theorem keeps_tandem (h : d.moves e P G) (hp : P.contains .tandem = false := by rfl) : e.tandem = d.tandem :=
  h.1 .tandem (by simpa using hp)
theorem keeps_mem (h : d.moves e P G) (hp : P.contains .mem = false := by rfl) : e.mem = d.mem :=
  h.1 .mem (by simpa using hp)
theorem keeps_host (h : d.moves e P G) (hp : P.contains .host = false := by rfl) : e.host = d.host :=
  h.1 .host (by simpa using hp)

end Dev.moves

end Sys2Proof.Machine
end

section
set_option Elab.async false
/-! Footprints: which parts and which pages the shared operations of statistics, memory channels, pace, buffers, pauses and gates move. -/

namespace Sys2Proof.Machine.Dev
open Sys2Proof
variable {d : Dev} {P : List Part} {G : List Nat}

/-- The start of a chain: nothing has moved yet. -/
theorem still (d : Dev) : d.moves d P G := Dev.moves_refl d P G

/-! ### Counters and statistics (R148, R434) -/

theorem moves_snapReach {i : Nat} : d.moves (d.snapReach i) [] [] := d.still.reports (Dev.reportsOnly_snapReach d i)

theorem moves_stat {p k n : Nat} : d.moves (d.stat p k n) [.sw] [] := by
  unfold Dev.stat
  exact (d.still.andThen moves_snapReach).iteSelf fun h => h.set_sw

theorem moves_statGood {p b n : Nat} {bs : List Byte} : d.moves (d.statGood p b n bs) [.sw] [] :=
  (((d.still.andThen moves_stat).andThen moves_stat).andThen moves_stat).andThen moves_stat

theorem moves_counts {k : Nat} : d.moves (d.counts k) [.sw] [] := by
  unfold Dev.counts
  exact d.still.ite d.still.set_sw

theorem moves_engCounts : d.moves d.engCounts [.sw] [] :=
  d.still.foldl fun h => (h.andThen moves_counts).andThen moves_counts

theorem moves_sramCe {i : Nat} : d.moves (d.sramCe i) [] [0x03] := d.still.setNum
theorem moves_sramUe {i k n : Nat} : d.moves (d.sramUe i k n) [] [0x03] := d.still.setNum.setNum.setNum2.raise.log
theorem moves_guarded {i k n : Nat} {g : Guard} : d.moves (d.guarded i k n g) [] [0x03] := by
  cases g
  case clean => exact d.still
  case corrected => exact moves_sramCe
  case bad => exact moves_sramUe

/-! ### Memory channels (R391, R398) -/

theorem moves_drawn : d.moves d.drawn [.draws] [] := d.still.set_draws
theorem moves_freed : d.moves d.freed [.frees] [] := d.still.set_frees

theorem moves_rowAct {ch a : Nat} : d.moves (d.rowAct ch a) [.draws, .mem] [0x50] := by
  unfold Dev.rowAct
  have h : d.moves ((d.bump MEMC.ACTIVATES ch).perf (islandOfChannel ch) 0x1C3) [.draws, .mem] [0x50] := d.still.bump.perf
  dsimp only
  split
  · exact h.set_mem.iteSelf fun h => h.bump.perf
  · exact (h.andThen moves_drawn).iteSelf fun h => h.bump.perf

theorem moves_rowWrite {ch a n : Nat} : d.moves (d.rowWrite ch a n) [.draws, .mem] [0x50] := (d.still.andThen moves_rowAct).perf
theorem moves_rowFetch {ch a n : Nat} : d.moves (d.rowFetch ch a n) [.draws, .mem] [0x50] := (d.still.andThen moves_rowAct).perf

theorem moves_slotBursts {g s n : Nat} : d.moves (d.slotBursts g s n) [.draws, .mem] [0x50] := by
  unfold Dev.slotBursts
  split
  · exact d.still
  · dsimp only
    split
    · exact (d.still.andThen moves_rowWrite).andThen moves_rowWrite
    · exact moves_rowWrite

theorem moves_slotRead {s : Nat} : d.moves (d.slotRead s) [.draws, .mem] [0x50] := moves_rowFetch

theorem moves_blockAccess {b e : Nat} : d.moves (d.blockAccess b e) [.draws, .mem] [0x50] :=
  (d.still.foldl fun h => h.andThen moves_rowAct).perf

theorem moves_memUe {ch a w x y : Nat} : d.moves (d.memUe ch a w x y) [.mem] [0x50] := by
  unfold Dev.memUe
  have h : d.moves ((d.setNum MEMC.UE_CNT (min 0xFFFFFFFF (d.num MEMC.UE_CNT ch + 1)) ch)) [.mem] [0x50] := d.still.setNum
  exact h.setNum.setNum2.set_mem.raise.log.iteSelf fun h => h.setNum.raise.log

theorem moves_memCe {ch sym : Nat} {back : Bool} : d.moves (d.memCe ch sym back) [] [0x50] := by
  unfold Dev.memCe
  exact d.still.setNum.setNum.iteSelf fun h => h.perf

theorem moves_unitCe {pool u : Nat} {w : BadWord} : d.moves (d.unitCe pool u w) [] [0x03, 0x50] := by
  unfold Dev.unitCe
  exact (d.still.andThen moves_sramCe).ite (d.still.andThen moves_memCe)

theorem moves_unitUe {pool u : Nat} {w : BadWord} : d.moves (d.unitUe pool u w) [.sw, .mem] [0x03, 0x50] := by
  unfold Dev.unitUe
  have h : d.moves (d.sramUe 21 1 u) [.sw, .mem] [0x03, 0x50] := d.still.andThen moves_sramUe
  exact (h.ite h.set_sw).ite (d.still.andThen moves_memUe)

/-! ### Pace (R98, R99) -/

theorem moves_setIsle {i : Nat} {x : Isle} : d.moves (d.setIsle i x) [.isles] [] := d.still.set_isles

theorem moves_startChange {i l c : Nat} : d.moves (d.startChange i l c) [.isles] [0x04] := (d.still.andThen moves_setIsle).setFld

theorem moves_repace {i : Nat} : d.moves (d.repace i) [.isles] [0x04] := by
  unfold Dev.repace
  dsimp only
  generalize hx : (if ((d.level i).held && !d.on ISLE.PACE_STAT_FLOOR_HELD i) = true then _ else _ : Dev) = x
  have h : d.moves x [.isles] [0x04] := by
    rw [← hx]
    exact d.still.setFld.setFld.setFld.iteSelf fun h => h.raise
  split
  · exact h.andThen moves_setIsle
  · exact h.ite (h.andThen moves_startChange)

theorem moves_repaceAll : d.moves d.repaceAll [.isles] [0x04] := d.still.each fun h => h.andThen moves_repace

theorem moves_setCheck : d.moves d.setCheck [.tandem] [] := d.still.set_tandem

/-! ### Units and chains (R329, R336, R348) -/

theorem moves_setPri {r p : Nat} {x : Pri} : d.moves (d.setPri r p x) [.sw] [] := d.still.set_sw
theorem moves_setLink {p i : Nat} {l : Link} : d.moves (d.setLink p i l) [.sw] [] := d.still.set_sw
theorem moves_setFrame {k : Nat} {f : Frame} : d.moves (d.setFrame k f) [.sw] [] := d.still.set_sw
theorem moves_setPort {p : Nat} {x : PortSt} : d.moves (d.setPort p x) [.sw] [] := d.still.set_sw
theorem moves_setRx {r : Nat} {x : Option Rx} : d.moves (d.setRx r x) [.sw] [] := d.still.set_sw
theorem moves_setPauses {p : Nat} {l : List (Bool × Nat × Nat)} : d.moves (d.setPauses p l) [.sw] [] := d.still.set_sw
theorem moves_gathered {k : Nat} : d.moves (d.gathered k) [.sw] [] := d.still.set_sw

theorem moves_updFrame {k : Nat} {g : Frame → Frame} : d.moves (d.updFrame k g) [.sw] [] := by
  unfold Dev.updFrame
  split
  · exact moves_setFrame
  · exact d.still

theorem moves_spillOut : d.moves d.spillOut [.draws, .sw, .mem] [0x50] := by
  unfold Dev.spillOut
  split
  · exact d.still.set_sw.andThen moves_blockAccess
  · exact d.still

theorem moves_calcHeadroom {r : Nat} : d.moves (d.calcHeadroom r) [] [0x40] := d.still.setNum.setNum

theorem moves_checkOvercommit : d.moves d.checkOvercommit [] [0x40] := by
  unfold Dev.checkOvercommit
  exact d.still.setFld.setFld.iteSelf fun h => h.raise

theorem moves_buffersCommit : d.moves d.buffersCommit [] [0x40] :=
  ((d.still.foldl fun h => h.andThen moves_calcHeadroom).andThen moves_calcHeadroom).andThen moves_checkOvercommit

theorem moves_allocUnit {p i r : Nat} : d.moves (d.allocUnit p i r) [.sw] [0x40] := by
  unfold Dev.allocUnit
  exact ((d.still.andThen moves_setLink).perf.set_sw.setNum.bump).ite ((d.still.andThen moves_setLink).perf.set_sw.setNum.bump)

theorem moves_doubleFree {p i r c : Nat} : d.moves (d.doubleFree p i r c) [] [0x40] := d.still.bump.setNum.setNum2.raise.log

theorem moves_testCell {i : Nat} : d.moves (d.testCell i) [.sw] [0x40, 0x70] := by
  unfold Dev.testCell
  exact d.still.set_sw.set_sw.bump.ite d.still.set_sw.bump

theorem moves_unitBack {p i : Nat} : d.moves (d.unitBack p i) [.sw] [0x40, 0x50, 0x70] := by
  unfold Dev.unitBack
  exact (d.still.iteSelf fun h => h.bump).ite
    ((d.still.ite ((d.still.andThen moves_testCell).ite d.still.bump)).ite (d.still.bump.ite d.still.bump))

theorem moves_freeUnit {p i r : Nat} : d.moves (d.freeUnit p i r) [.sw] [0x40, 0x50, 0x70] := by
  unfold Dev.freeUnit
  have h : d.moves (d.setLink p i { mark := d.sw.audit.running }) [.sw] [0x40, 0x50, 0x70] := d.still.andThen moves_setLink
  dsimp only
  split
  · exact h.setNum.andThen moves_unitBack
  · exact h.set_sw.setNum.andThen moves_unitBack

theorem moves_freeChain {n : Nat} : ∀ {d : Dev} {p i r c : Nat}, d.moves (Dev.freeChain n d p i r c) [.sw] [0x40, 0x50, 0x70] := by
  induction n with
  | zero => exact fun {d} => d.still
  | succ n ih =>
    intro d p i r c
    have h : d.moves (d.freeUnit p i r) [.sw] [0x40, 0x50, 0x70] := moves_freeUnit
    unfold Dev.freeChain
    exact (d.still.andThen moves_doubleFree).ite (h.ite (h.trans ih))

theorem moves_freeFirst {n : Nat} : ∀ {d : Dev} {p i r : Nat}, d.moves (Dev.freeFirst n d p i r).1 [.sw] [0x40, 0x50, 0x70] := by
  induction n with
  | zero => exact fun {d} => d.still
  | succ n ih =>
    intro d p i r
    have h : d.moves (d.freeUnit p i r) [.sw] [0x40, 0x50, 0x70] := moves_freeUnit
    unfold Dev.freeFirst
    dsimp only
    split
    · exact d.still.andThen moves_doubleFree
    · exact h.trans ih

theorem moves_allocDesc : d.moves d.allocDesc.1 [.sw] [0x40, 0x41] :=
  ((d.still.andThen moves_setFrame).andThen moves_counts).bump.setNum.setNum

theorem moves_freeDesc {k : Nat} : d.moves (d.freeDesc k) [.sw] [0x40, 0x41] := d.still.set_sw.setNum.bump

/-! ### Pauses and episodes (R138, R139, R339) -/

theorem moves_setXoffTx {p v : Nat} : d.moves (d.setXoffTx p v) [] [0x11, 0x58] := by
  unfold Dev.setXoffTx
  exact d.still.setFld.ite d.still.setFld

theorem moves_setXoffRx {p v : Nat} : d.moves (d.setXoffRx p v) [] [0x11, 0x58] := by
  unfold Dev.setXoffRx
  exact d.still.setFld.ite d.still.setFld

theorem moves_pauseOut {p : Nat} {x : Bool × Nat × Nat} : d.moves (d.pauseOut p x) [.sw] [] := by
  obtain ⟨pfc, mask, quanta⟩ := x
  unfold Dev.pauseOut
  dsimp only
  generalize hx : (if pfc = true then _ else _ : Dev) = x
  have h : d.moves x [.sw] [] := by
    rw [← hx]
    have h0 : d.moves ((d.emit (.frame p (d.pauseFrame pfc mask quanta) false)).statGood p 32
        (d.pauseFrame pfc mask quanta).length (d.pauseFrame pfc mask quanta)) [.sw] [] :=
      d.still.emit.andThen moves_statGood
    exact (h0.perf.each fun h => h.iteSelf fun h => h.andThen moves_stat).ite (h0.perf.andThen moves_stat)
  exact h.ite (h.each fun h => h.iteSelf fun h => h.andThen moves_setPri)

theorem moves_sendPause {p m q : Nat} : d.moves (d.sendPause p m q) [.sw] [] := by
  unfold Dev.sendPause
  exact (d.still.andThen moves_setPauses).ite moves_pauseOut

theorem moves_pausesOut {p : Nat} : d.moves (d.pausesOut p) [.sw] [] :=
  (d.still.andThen moves_setPauses).foldl fun h => h.andThen moves_pauseOut

theorem moves_sendXoff {p m : Nat} : d.moves (d.sendXoff p m) [.sw] [0x11, 0x58] := by
  unfold Dev.sendXoff
  exact d.still.ite (((d.still.andThen moves_sendPause).andThen moves_setXoffTx).each fun h => h.iteSelf fun h => h.andThen moves_setPri)

theorem moves_sendXon {p m : Nat} : d.moves (d.sendXon p m) [.sw] [0x11, 0x58] := by
  unfold Dev.sendXon
  exact d.still.ite ((d.still.andThen moves_sendPause).andThen moves_setXoffTx)

theorem moves_unpause {p i : Nat} : d.moves (d.unpause p i) [.sw] [0x11, 0x58] := (d.still.andThen moves_setPri).andThen moves_setXoffRx

theorem moves_clearPauses {p : Nat} : d.moves (d.clearPauses p) [.sw] [0x11, 0x58] :=
  (d.still.each fun h => h.andThen moves_setPri).andThen moves_setXoffRx

theorem moves_evalGlobal : d.moves d.evalGlobal [] [0x40] := by
  unfold Dev.evalGlobal
  exact ((d.still.iteSelf fun h => h.raise).iteSelf fun h => h.raise).setFld.setFld.setFld

theorem moves_evalReq {r : Nat} : d.moves (d.evalReq r) [.sw] [0x11, 0x40, 0x58] := by
  unfold Dev.evalReq
  dsimp only
  split
  · exact d.still
  · have h := (d.still (P := [.sw]) (G := [0x11, 0x40, 0x58])).setNum (r := BUFM.XOFF_STAT) (c := r)
      (v := (d.conditions r).2.2 + (d.conditions r).2.1 * 256 + bit (d.conditions r).1 * 65536)
    have h2 := fun g hg => h.each (n := 8) (g := g) hg
    split
    · exact ((h2 _ fun h => h.iteSelf fun h => h.andThen moves_setPri).andThen moves_sendXoff).andThen moves_sendXon
    · exact h2 _ fun h => h.iteSelf fun h => h.andThen moves_setPri

theorem moves_evalAll : d.moves d.evalAll [.sw] [0x11, 0x40, 0x58] :=
  (d.still.setNum.andThen moves_evalGlobal).each fun h => h.andThen moves_evalReq

theorem moves_charge {r p n : Nat} : d.moves (d.charge r p n) [] [0x40] := d.still.bump.setNum
theorem moves_uncharge {r p n : Nat} : d.moves (d.uncharge r p n) [] [0x40] := d.still.setNum
theorem moves_disc {k n : Nat} : d.moves (d.disc k n) [] [0x41] := d.still.bump

/-- The pages on which the release of a frame shows: ports, buffers, switch core, memory, tandem link and march tests. -/
theorem moves_releaseFrame {k c : Nat} : d.moves (d.releaseFrame k c) [.sw] [0x11, 0x40, 0x41, 0x50, 0x58, 0x70] := by
  unfold Dev.releaseFrame
  split
  · exact d.still
  · exact (((((d.still.andThen moves_freeChain).setNum.ite ((d.still.andThen moves_freeChain).andThen moves_uncharge)).andThen
      moves_setPri).andThen moves_freeDesc).andThen moves_evalAll)

theorem moves_discardFrame {k r : Nat} : d.moves (d.discardFrame k r) [.sw] [0x11, 0x40, 0x41, 0x50, 0x58, 0x70] :=
  (d.still.andThen moves_disc).andThen moves_releaseFrame

end Sys2Proof.Machine.Dev
end

section
set_option Elab.async false
/-! Footprints of the instants of device time (R82, R113, R367, R427), of the wake (R59) and of replication (R415); and what no
command does: stop the machine, move the device clock out of its range, or bring a fuse back. -/

namespace Sys2Proof.Machine.Dev
open Sys2Proof
variable {d : Dev}

/-! ### Snapshots, gates and the wake -/

theorem moves_snapIslands {t a : Nat} {l : List Nat} : d.moves (d.snapIslands t a l) [] [0x60] := by
  unfold Dev.snapIslands
  have h : d.moves (l.foldl (fun d i => d.snapIsland i a) d) [] [0x60] :=
    d.still.foldl fun h => h.reports (Dev.reportsOnly_snapIsland _ _ _)
  refine moves.iteSelf h fun h => ?_
  unfold Dev.snapAct Dev.takeSnap
  have h1 := (h.set_obs (x := { (l.foldl (fun d i => d.snapIsland i a) d).obs with snap := none, snapped := [] })).setFld
    (x := PERF.SNAP_STAT_BUSY) (v := 0) (c := 0)
  exact ((h1.iteSelf fun h => h.setNum2.setFld.setNum.raise).setFld.ite
    ((h1.iteSelf fun h => h.setNum2.setFld.setNum.raise).iteSelf fun h => h.setFld)).log

theorem moves_snapNow : d.moves d.snapNow [] [0x60] := by
  unfold Dev.snapNow
  split
  · exact moves_snapIslands
  · exact d.still

theorem moves_setGate {n : Nat} {g : GateSt} : d.moves (d.setGate n g) [.sw] [] := d.still.set_sw
theorem moves_showGates {n : Nat} : d.moves (d.showGates n) [] [0x4B] := d.still.setNum

theorem moves_gateSwap {n : Nat} : d.moves (d.gateSwap n) [.sw] [0x4B] := by
  unfold Dev.gateSwap
  split
  · exact d.still
  · exact d.still.ite
      ((((d.still.andThen moves_setGate).setNum2.setNum.setFld.setFld.bump).andThen moves_showGates).raise.log)

theorem moves_wakeBegin : d.moves d.wakeBegin [.spore] [0x01] := d.still.setNum.set_spore.setFld

theorem moves_wakeEvent {n : Nat} : d.moves (d.wakeEvent n) [.spore] [0x01] := by
  unfold Dev.wakeEvent
  exact (d.still.set_spore.iteSelf fun h => h.andThen moves_wakeBegin).ite d.still

theorem moves_wakeTimer : d.moves d.wakeTimer [.spore] [0x01] := d.still.when fun h => h.andThen moves_wakeEvent

/-! ### Replication (R415) -/

theorem moves_setTandem {x : TandemSt} : d.moves (d.setTandem x) [.tandem] [] := d.still.set_tandem
theorem moves_tandemSend {bs : List Byte} : d.moves (d.tandemSend bs) [.sw] [] := d.still.emit.andThen moves_statGood

theorem moves_replSend {n : Nat} : ∀ {d : Dev}, d.moves (Dev.replSend n d) [.sw, .tandem] [0x58] := by
  induction n with
  | zero => exact fun {d} => d.still
  | succ n ih =>
    intro d
    unfold Dev.replSend
    exact d.still.ite (((d.still.andThen moves_setTandem).bump.andThen moves_tandemSend).trans ih)

theorem moves_replFlush : d.moves d.replFlush [.sw, .tandem] [0x58] := moves_replSend

/-! ### The commit instant (R82): the staged values of any page take effect -/

theorem moves_setPolic {i : Nat} {b : Polic} : d.moves (d.setPolic i b) [.sw] [] := d.still.set_sw

theorem moves_settleKey {k : Nat} : d.moves (d.settleKey k) [.sw] [] := by
  unfold Dev.settleKey
  exact d.still.iteSelf fun h => h.andThen moves_setPolic

theorem moves_clipKey {k : Nat} : d.moves (d.clipKey k) [.sw] [] := by
  unfold Dev.clipKey
  split
  · exact moves_setPolic
  · exact d.still

theorem moves_setDeficit {k n : Nat} : d.moves (d.setDeficit k n) [.sw] [] := d.still.set_sw

theorem moves_reparent {c : CommitSt} {k : Nat} : d.moves (d.reparent c k) [.sw] [] := by
  unfold Dev.reparent
  exact d.still.iteSelf fun h => h.andThen moves_setDeficit

theorem moves_fcLeave {c : CommitSt} {p : Nat} : d.moves (d.fcLeave c p) [.sw] [0x11, 0x58] := by
  unfold Dev.fcLeave
  exact ((d.still.andThen moves_sendXon).andThen moves_clearPauses).ite
    (((d.still.andThen moves_sendXon).each fun h => h.iteSelf fun h => h.andThen moves_unpause).ite d.still)

theorem moves_fcEnter {p : Nat} : d.moves (d.fcEnter p) [.sw] [0x11, 0x58] := moves_sendXoff

/-! What leaves parts as they were, whatever it does to the registers: a commit reaches registers of any page. -/

namespace keeps
variable {d0 e : Dev} {P L : List Part} {K : List Nat}

theorem refl (d : Dev) : d.keeps d P := fun p _ => by cases p <;> rfl
theorem trans (h : d0.keeps d P) (g : d.keeps e P) : d0.keeps e P := fun p hp => by
  have h1 := h p hp
  have g1 := g p hp
  cases p <;> exact Eq.trans g1 h1

/-- An operation of which more is known. -/
theorem andThen (h : d0.keeps d P) (g : d.moves e L K) (hP : (.regs :: .evq :: .out :: .obs :: L).all P.contains = true := by rfl) :
    d0.keeps e P :=
  h.trans fun p hp => g.1 p fun hm => hp (by simpa using List.all_eq_true.mp hP p hm)

theorem foldl {α : Type} {g : Dev → α → Dev} {l : List α} (h : d0.keeps d P)
    (hg : ∀ {x : Dev} {a : α}, d0.keeps x P → d0.keeps (g x a) P) : d0.keeps (l.foldl g d) P := by
  induction l generalizing d with
  | nil => exact h
  | cons a r ih => exact ih (hg h)

theorem ite {e f : Dev} {c : Prop} [Decidable c] (h : d0.keeps e P) (g : d0.keeps f P) : d0.keeps (if c then e else f) P := by
  split <;> assumption

end keeps

/-- The parts that a commit instant may move (R81, R82). -/
def commitParts : List Part := [.regs, .evq, .out, .obs, .sw, .isles, .tandem, .prev, .cgen, .commit]

theorem keeps_setEpoch {p e : Nat} : d.keeps (d.setEpoch p e) commitParts :=
  fun q hq => by cases q <;> first | rfl | simp [commitParts] at hq

theorem keeps_activate {k : Nat} {x : Staged} : d.keeps (d.activate k x) commitParts :=
  fun q hq => by cases q <;> first | rfl | simp [commitParts] at hq

theorem keeps_commitLog {c : CommitSt} : d.keeps (d.commitLog c) commitParts := by
  unfold Dev.commitLog
  have h := (keeps_setEpoch (d := d) (p := 0) (e := nextEpoch (d.num (COMMIT 0) % 65536)))
  exact (h.foldl fun h => h.trans keeps_setEpoch).andThen (((still _).setNum2 (G := [0x00])).log (P := []))

theorem keeps_activateAll {l : List (Nat × Option Staged)} :
    d.keeps (l.foldl (fun d p => match p.2 with | some x => d.activate p.1 x | none => d) d) commitParts := by
  refine (keeps.refl d).foldl fun {x a} h => ?_
  split
  · exact h.trans keeps_activate
  · exact h

theorem keeps_commitApply {c : CommitSt} {l : List Nat} : d.keeps (d.commitApply c l) commitParts := by
  unfold Dev.commitApply
  extract_lets all part keys d1 d2 fc d3 old was d4 d5 d6 d7 d8 d9
  have h3 : d.keeps d3 commitParts := (((keeps.refl d).foldl fun h => h.andThen moves_settleKey).foldl fun h =>
    h.andThen moves_reparent).foldl fun h => h.andThen moves_fcLeave
  have h5 : d.keeps d5 commitParts := (h3.trans keeps_activateAll).foldl fun h => h.andThen moves_clipKey
  have h6 : d.keeps d6 commitParts := h5.trans fun p hp => by cases p <;> first | rfl | simp [commitParts] at hp
  have h7 : d.keeps d7 commitParts := (h6.trans fun p hp => by cases p <;> first | rfl | simp [commitParts] at hp).ite h6
  have h8 : d.keeps d8 commitParts := (h7.trans keeps_commitLog).ite h7
  exact ((((h8.foldl fun h => h.andThen moves_fcEnter).andThen moves_buffersCommit).andThen moves_evalAll).andThen
    moves_repaceAll).andThen moves_setCheck

theorem keeps_commitNow : d.keeps d.commitNow commitParts := by
  unfold Dev.commitNow
  split
  · exact (keeps.refl d).ite ((keeps.refl d).ite keeps_commitApply)
  · exact keeps.refl d

/-! ### Steps of the clock (R110 to R113) -/

theorem fireInstants_clk : d.fireInstants.clk = d.clk := by
  have hsnap : d.snapNow.clk = d.clk := moves_snapNow.keeps_clk
  have hcommit : d.snapNow.commitNow.clk = d.snapNow.clk := keeps_commitNow .clk (by decide)
  have hgates : d.snapNow.commitNow.moves (d.snapNow.commitNow.when d.snapNow.commitNow.awake fun d => d.each 34 Dev.gateSwap) [.sw] [0x4B] :=
    (still _).when fun h => h.each fun h => h.andThen moves_gateSwap
  exact (moves_wakeTimer.keeps_clk).trans (hgates.keeps_clk.trans (hcommit.trans hsnap))

theorem moves_keepPosition {n : Nat} : d.moves (d.keepPosition n) [] [0x4B] := by
  unfold Dev.keepPosition
  exact d.still.iteSelf fun h => h.andThen moves_showGates

theorem moves_setStaged {n : Nat} {l : List Tx} : d.moves (d.setStaged n l) [.sw] [] := d.still.set_sw

theorem moves_pruneDeficits {n : Nat} : d.moves (d.pruneDeficits n) [.sw] [] := d.still.set_sw

theorem moves_gatesStepped {n : Nat} : d.moves (d.gatesStepped n) [.sw] [] := (d.still.andThen moves_setStaged).andThen moves_pruneDeficits

end Sys2Proof.Machine.Dev
end

section
set_option Elab.async false
/-! What every step keeps: the form of each command, the range of the device clock (R10, R106) and the fuses (R469 to R471). -/

namespace Sys2Proof.Machine
open Sys2Proof

/-! ### The forms of commands -/

/-- The commands that may blow a fuse, move the device clock or reset the whole device (R20 to R22, R31, R110, R470, R471). -/
def movesClockOrFuses : Instr → Bool
  | .supplyQualification _ | .resetN _ _ | .brownOut | .overvoltageShutdown | .thermalShutdown | .registerWrite _ _ _ _ _ _
  | .smbusWrite _ _ _ _ | .fuseProgDone _ | .sealGo _ | .tetherBeacon _ => true
  | _ => false

/-- Every other command leaves the clock and the fuses out. -/
theorem exec_actRaw (c : Instr) (s : State) (h : movesClockOrFuses c = false) : ∃ f, exec c s = s.actRaw f := by
  cases c
  case supplyQualification | resetN | brownOut | overvoltageShutdown | thermalShutdown | registerWrite | smbusWrite | fuseProgDone | sealGo |
    tetherBeacon => cases h
  case pfailNExternal low vin => exact ⟨fun d => d.pfailPad low vin, rfl⟩
  all_goals exact ⟨_, rfl⟩

/-- A write of the bus is a command that may blow a fuse, or one of a running die. -/
theorem actBus_next (s : State) (off : Nat) (f : Dev → Dev) : ∃ e, s.actBus off f = .next { s with dev := e } := by
  unfold State.actBus
  split <;> exact ⟨_, rfl⟩

/-- Every command gives a next state, whose queue is the one that the command found. -/
theorem exec_next (c : Instr) (s : State) : ∃ e : Dev, exec c s = .next { s with dev := e } := by
  cases h : movesClockOrFuses c
  case false =>
    obtain ⟨f, hf⟩ := exec_actRaw c s h
    exact ⟨_, hf⟩
  case true =>
    cases c
    case registerWrite path off be value done found => exact actBus_next s off _
    case smbusWrite value pec done found => exact actBus_next s s.dev.host.smbAddr _
    case supplyQualification | resetN | brownOut | overvoltageShutdown | thermalShutdown | fuseProgDone | sealGo | tetherBeacon =>
      exact ⟨_, rfl⟩
    all_goals cases h

theorem step_cons (c : Instr) (rest : List Instr) (s : State) (h : s.pending = c :: rest) :
    step s = exec c { s with pending := rest } := by
  unfold step
  rw [h]

theorem step_nil (s : State) (h : s.pending = []) : step s = .next { s with dev := s.dev.tick } := by
  unfold step
  rw [h]

end Sys2Proof.Machine

open Sys2Proof Sys2Proof.Machine

/-- Settles O1: so is `step` defined. -/
theorem commandFromTheFront : Obligations.CommandFromTheFront := by
  unfold Obligations.CommandFromTheFront
  exact fun c s rest h => step_cons c rest s h

/-- Settles O5: each command gives a next state with the device as its only change. -/
theorem everyStepTakesExactlyTheFrontCommand : Obligations.EveryStepTakesExactlyTheFrontCommand := by
  unfold Obligations.EveryStepTakesExactlyTheFrontCommand
  refine ⟨fun c s => ?command, fun s => ?step⟩
  case command =>
    obtain ⟨e, he⟩ := exec_next c s
    exact ⟨_, he, rfl⟩
  case step =>
    cases h : s.pending with
    | nil => exact ⟨_, step_nil s h, h⟩
    | cons c rest =>
      obtain ⟨e, he⟩ := exec_next c { s with pending := rest }
      exact ⟨_, (step_cons c rest s h).trans he, rfl⟩
end

section
set_option Elab.async false
/-! The device clock stays in its range (R10, R106): only a beacon, a tick and a reset move it. -/

namespace Sys2Proof.Machine
open Sys2Proof

theorem Clock.ok_setFine (c : Clock) (t : Nat) : Clock.ok (c.setFine t) :=
  ⟨Nat.mod_lt _ (by decide), Nat.mod_lt _ (by decide)⟩

theorem Clock.ok_tick (c : Clock) (inc : Nat) : Clock.ok (c.tick inc) := ⟨Nat.mod_lt _ (by decide), Nat.mod_lt _ (by decide)⟩

namespace Dev
variable {d : Dev}

/-- The clock that a step leaves. -/
theorem clk_stepClock_ok (st : Step) : Clock.ok (d.stepClock st).clk := by
  have h := Clock.ok_setFine d.clk (d.clk.stepTo st).toNat
  cases st
  case add => simpa [Dev.stepClock] using h
  case set => simpa [Dev.stepClock, Clock.ok] using h.1
  case servo => simpa [Dev.stepClock] using h

theorem clk_each {n : Nat} {f : Dev → Nat → Dev} (h : ∀ (x : Dev) (i : Nat), (f x i).clk = x.clk) : (d.each n f).clk = d.clk := by
  unfold Dev.each
  induction List.range n generalizing d with
  | nil => rfl
  | cons a r ih => exact ih.trans (h d a)

theorem clk_applyStep_ok (st : Step) (h : Clock.ok d.clk) : Clock.ok (d.applyStep st).clk := by
  unfold Dev.applyStep
  split
  · cases st
    case add => exact (Dev.onlyRegs_recErr d _ _ _ _).clk ▸ h
    case set | servo => simpa using h
  · rw [clk_each fun _ _ => moves_gatesStepped.keeps_clk, fireInstants_clk]
    exact clk_stepClock_ok st

theorem clk_beaconAt {i : Nat} {dv : Int} : (d.beaconAt i dv).clk = d.clk := by
  unfold Dev.beaconAt
  exact ((d.still.set_time (P := [.time]) (G := [0x05])).iteSelf fun h => h.bump.setNum.raise.log).keeps_clk

theorem clk_beacon_ok (devs : List (Nat × Int)) (h : Clock.ok d.clk) : Clock.ok (d.beacon devs).clk := by
  unfold Dev.beacon
  have hall : ∀ (l : List (Nat × Int)) (x : Dev), (l.foldl (fun d p => if p.1 < 34 ∧ d.time.halted.get none p.1 = none then
      d.beaconAt p.1 p.2 else d) x).clk = x.clk := by
    intro l
    induction l with
    | nil => exact fun _ => rfl
    | cons p l ih =>
      refine fun x => (ih _).trans ?_
      dsimp only
      split
      · exact clk_beaconAt
      · rfl
  have h' := (hall devs d).symm ▸ h
  dsimp only
  split
  · exact h'
  · exact clk_applyStep_ok _ h'

theorem clk_tick_ok (h : Clock.ok d.clk) : Clock.ok d.tick.clk := by
  unfold Dev.tick
  split
  · rw [moves_spillOut.keeps_clk, moves_replFlush.keeps_clk]
    exact Clock.ok_tick _ _
  · exact h

/-! What a reset or a loss of supply leaves of the clock -/

theorem clk_reset_ok : Clock.ok Dev.reset.clk := ⟨by decide, by decide⟩
theorem clk_powerOff_ok (p : Phase) (n : Nat) : Clock.ok (d.powerOff p n).clk := clk_reset_ok
theorem clk_resetDown_ok (n : Nat) : Clock.ok (d.resetDown n).clk := clk_reset_ok

theorem clk_resetPin_ok (low cool : Bool) (h : Clock.ok d.clk) : Clock.ok (d.resetPin low cool).clk := by
  unfold Dev.resetPin
  split
  · exact h
  · split
    · exact clk_resetDown_ok 3
    · exact clk_resetDown_ok 3
    · split
      · exact clk_resetDown_ok 2
      · exact h
    · exact h

end Dev

/-- What a command leaves of the clock. -/
theorem exec_clk_ok (c : Instr) (s t : State) (h : Clock.ok s.dev.clk) (ht : exec c s = .next t) : Clock.ok t.dev.clk := by
  cases hc : movesClockOrFuses c
  case false =>
    obtain ⟨f, hf⟩ := exec_actRaw c s hc
    cases hf.symm.trans ht
    exact h
  case true =>
    cases c
    case supplyQualification cool =>
      cases ht
      dsimp only [Dev.qualify]
      split
      · exact Dev.clk_reset_ok
      · exact h
    case resetN low cool =>
      cases ht
      exact Dev.clk_resetPin_ok low cool h
    case brownOut =>
      cases ht
      exact Dev.clk_powerOff_ok _ _
    case overvoltageShutdown =>
      cases ht
      dsimp only
      split
      · split
        · split
          · exact Dev.clk_powerOff_ok _ _
          · exact h
        · exact h
      · split
        · exact Dev.clk_powerOff_ok _ _
        · exact h
    case thermalShutdown =>
      cases ht
      dsimp only
      split
      · exact Dev.clk_reset_ok
      · exact h
    case tetherBeacon devs =>
      cases ht
      dsimp only [Dev.when]
      split
      · exact Dev.clk_beacon_ok devs h
      · exact h
    case registerWrite path off be value done found =>
      change s.actBus off _ = .next t at ht
      unfold State.actBus at ht
      split at ht <;> cases ht <;> exact h
    case smbusWrite value pec done found =>
      change s.actBus s.dev.host.smbAddr _ = .next t at ht
      unfold State.actBus at ht
      split at ht <;> cases ht <;> exact h
    case fuseProgDone | sealGo =>
      cases ht
      exact h
    all_goals cases hc

end Sys2Proof.Machine

open Sys2Proof Sys2Proof.Machine

/-- Settles O6: a tick and a step of the clock compute the fields modulo their ranges, a reset clears them, and nothing else moves them. -/
theorem clockStaysInRange : Obligations.ClockStaysInRange := by
  unfold Obligations.ClockStaysInRange
  intro s t h ht
  cases hp : s.pending with
  | nil =>
    cases (step_nil s hp).symm.trans ht
    exact Dev.clk_tick_ok h
  | cons c rest => exact exec_clk_ok c { s with pending := rest } t h ((step_cons c rest s hp).symm.trans ht)
end

section
set_option Elab.async false
/-! A blown fuse stays blown (R469 to R471): fuses are only added to, whatever else a command does. -/

namespace Sys2Proof.Machine
open Sys2Proof

theorem Otp.within_refl (o : Otp) : o.within o := ⟨BitVec.and_self, id, id, rfl, rfl, rfl, rfl⟩

theorem Otp.within_of_eq {o p : Otp} (h : p = o) : o.within p := h ▸ o.within_refl

/-- Blowing adds ones to the key hash. -/
theorem Otp.within_blow (o : Otp) (v fails : BitVec 384) : o.within (o.blow v fails) :=
  ⟨by ext i hi; simp +contextual [Otp.blow], id, id, rfl, rfl, rfl, rfl⟩

theorem Otp.within_blow_lock (o : Otp) (v fails : BitVec 384) (lock : Bool) :
    o.within { o.blow v fails with keyLock := o.keyLock || lock } := by
  obtain ⟨hhash, -, hsealed, h0, h1, h2, h3⟩ := o.within_blow v fails
  exact ⟨hhash, fun h => by simp [h], hsealed, h0, h1, h2, h3⟩

theorem Otp.within_sealed (o : Otp) : o.within { o with sealed := true } := ⟨BitVec.and_self, id, fun _ => rfl, rfl, rfl, rfl, rfl⟩

namespace Dev
variable {d : Dev}

theorem otp_progEnd (fails : BitVec 384) : d.otp.within (d.progEnd fails).otp := by
  unfold Dev.progEnd
  split
  · exact d.otp.within_refl
  · simpa using d.otp.within_blow_lock _ _ _

theorem otp_sealGo (path : Nat) : d.otp.within (d.sealGo path).otp := by
  unfold Dev.sealGo
  split
  · simpa using d.otp.within_sealed
  · exact d.otp.within_refl

theorem otp_access {p : Nat} {f : Dev → Dev} (h : d.otp.within (f d).otp) : d.otp.within (d.access p f).otp := by
  unfold Dev.access
  split
  · exact h
  · split
    · exact Otp.within_of_eq (d.raise_otp _)
    · exact d.otp.within_refl

/-! ### A write at the offset of SEAL_GO (R471) -/

theorem otp_autoInc (path page off : Nat) : (d.autoInc path page off).otp = d.otp := by
  unfold Dev.autoInc
  dsimp only
  split
  · exact d.setRegP_otp _ _ _ _
  · rfl

theorem otp_regWrite_sealGo (path ch done : Nat) (w : Word) (found : List Nat) :
    d.otp.within (d.regWrite { path, page := 0x03, off := 0x480, ch, w, done, found }).otp := by
  unfold Dev.regWrite
  rw [if_neg (show ¬ 0x480 < 0x040 by decide), otp_autoInc]
  change d.otp.within (if _ then d.sealGo path else d).otp
  split
  · exact otp_sealGo path
  · exact d.otp.within_refl

theorem otp_busWrite_sealGo {off : Nat} (hoff : off % 0x80000 / 4 = 0x3480 / 4) (path be done : Nat) (w : Word) (found : List Nat) :
    d.otp.within (d.busWrite path off be w done found).otp := by
  unfold Dev.busWrite
  have hpage : off / 4096 % 128 = 0x03 := by omega
  have ho : off % 4096 / 4 * 4 = 0x480 := by omega
  simp only [hpage, ho]
  refine otp_access ?_
  split
  · exact Otp.within_of_eq (Dev.onlyRegs_recErr d _ _ _ _).otp
  · exact otp_regWrite_sealGo _ _ _ _ _

theorem otp_smbWrite_sealGo (hoff : d.host.smbAddr % 0x80000 / 4 = 0x3480 / 4) (w : Word) (done : Nat) (found : List Nat) :
    d.otp.within (d.smbWrite w done found).otp := by
  unfold Dev.smbWrite Dev.smbNext
  split
  · exact otp_busWrite_sealGo hoff _ _ _ _ _
  · exact d.otp.within_refl

theorem otp_when {c : Bool} {f : Dev → Dev} (h : d.otp.within (f d).otp) : d.otp.within (d.when c f).otp := by
  unfold Dev.when
  split
  · exact h
  · exact d.otp.within_refl

/-! ### What resets and losses of supply leave of the fuses (R470) -/

theorem otp_fuseCut : d.otp.within d.fuseCut.otp := by
  unfold Dev.fuseCut
  split
  · exact d.otp.within_refl
  · exact d.otp.within_blow _ _

theorem otp_freeBytes {n : Nat} {p : Dev × List Byte} (h : d.freeBytes n = p) : p.1.otp = d.otp := by
  subst h
  have hn : d.moves (d.freeBytes n).1 [.frees] [] := d.still.foldl fun h => h.andThen moves_freed
  exact hn.keeps_otp

theorem otp_flashCut : d.flashCut.otp = d.otp := by
  unfold Dev.flashCut
  split
  · rcases h : d.freeBytes 256 with ⟨e, bs⟩
    exact (e.flashWrite_otp _ bs).trans (otp_freeBytes h)
  · rcases h : d.freeBytes 4096 with ⟨e, bs⟩
    exact (e.flashWrite_otp _ bs).trans (otp_freeBytes h)
  · rfl

theorem otp_cleared : d.otp.within d.cleared.otp := by
  change d.otp.within d.fuseCut.flashCut.otp
  rw [otp_flashCut]
  exact otp_fuseCut

theorem otp_powerOff (p : Phase) (n : Nat) : d.otp.within (d.powerOff p n).otp := otp_cleared
theorem otp_resetDown (n : Nat) : d.otp.within (d.resetDown n).otp := otp_cleared

theorem otp_resetPin (low cool : Bool) : d.otp.within (d.resetPin low cool).otp := by
  unfold Dev.resetPin
  split
  · exact d.otp.within_refl
  · split
    · exact otp_resetDown 3
    · exact otp_resetDown 3
    · split
      · exact otp_resetDown (d := d.setSup { d.sup with hot := false }) 2
      · exact d.otp.within_refl
    · exact d.otp.within_refl

theorem otp_tick : d.tick.otp = d.otp := by
  unfold Dev.tick
  split
  · rw [moves_spillOut.keeps_otp, moves_replFlush.keeps_otp]
  · rfl

end Dev

/-- What a command leaves of the fuses. -/
theorem exec_otp (c : Instr) (s t : State) (ht : exec c s = .next t) : s.dev.otp.within t.dev.otp := by
  cases hc : movesClockOrFuses c
  case false =>
    obtain ⟨f, hf⟩ := exec_actRaw c s hc
    cases hf.symm.trans ht
    exact Otp.within_refl _
  case true =>
    cases c
    case supplyQualification cool =>
      cases ht
      dsimp only [Dev.qualify]
      split
      · exact Dev.otp_cleared
      · exact Otp.within_refl _
    case resetN low cool =>
      cases ht
      exact Dev.otp_resetPin low cool
    case brownOut =>
      cases ht
      exact Dev.otp_powerOff _ _
    case overvoltageShutdown =>
      cases ht
      dsimp only
      split
      · split
        · split
          · exact Dev.otp_powerOff _ _
          · exact Otp.within_refl _
        · exact Otp.within_refl _
      · split
        · exact Dev.otp_powerOff _ _
        · exact Otp.within_refl _
    case thermalShutdown =>
      cases ht
      dsimp only
      split
      · exact Dev.otp_cleared
      · exact Otp.within_refl _
    case tetherBeacon devs =>
      cases ht
      exact Otp.within_refl _
    case registerWrite path off be value done found =>
      change s.actBus off _ = .next t at ht
      unfold State.actBus at ht
      split at ht
      case isTrue hoff =>
        cases ht
        exact Dev.otp_when (Dev.otp_busWrite_sealGo hoff _ _ _ _ _)
      case isFalse =>
        cases ht
        exact Otp.within_refl _
    case smbusWrite value pec done found =>
      change s.actBus s.dev.host.smbAddr _ = .next t at ht
      unfold State.actBus at ht
      split at ht
      case isTrue hoff =>
        cases ht
        exact Dev.otp_when (Dev.otp_when (Dev.otp_smbWrite_sealGo hoff _ _ _))
      case isFalse =>
        cases ht
        exact Otp.within_refl _
    case fuseProgDone fails =>
      cases ht
      exact Dev.otp_when (Dev.otp_progEnd fails)
    case sealGo path =>
      cases ht
      exact Dev.otp_when (Dev.otp_access (Dev.otp_sealGo path))
    all_goals cases hc

end Sys2Proof.Machine

open Sys2Proof Sys2Proof.Machine

/-- Settles O7: programming and sealing only add ones, a cut leaves some of them blown, and no other command reaches a fuse. -/
theorem fusesNeverReturn : Obligations.FusesNeverReturn := by
  unfold Obligations.FusesNeverReturn
  intro s t ht
  cases hp : s.pending with
  | nil =>
    cases (step_nil s hp).symm.trans ht
    exact Otp.within_of_eq Dev.otp_tick
  | cons c rest => exact exec_otp c { s with pending := rest } t ((step_cons c rest s hp).symm.trans ht)
end

section
set_option Elab.async false
/-! What is off stays still (R35, R36, R56, R57, R60), and a page that does not answer (R39, R58). -/

namespace Sys2Proof.Machine
open Sys2Proof
variable {s : State}

/-! ### A die that does not run -/

theorem Dev.runs_eq_false (h : ¬ s.On) : s.dev.runs = false := by
  rw [← Bool.not_eq_true, Dev.runs_iff]
  exact h

theorem Dev.when_off (f : Dev → Dev) (h : ¬ s.On) : s.dev.when s.dev.runs f = s.dev := by
  rw [Dev.runs_eq_false h, Dev.when_false]

theorem actOtp_off (f : Dev → Dev) (h : ¬ s.On) : (s.actOtp fun d => d.when d.runs f) = .next s := by
  simp [State.actOtp, Dev.when_off f h]

theorem actClk_off (f : Dev → Dev) (h : ¬ s.On) : (s.actClk fun d => d.when d.runs f) = .next s := by
  simp [State.actClk, Dev.when_off f h]

theorem act_off (f : Dev → Dev) (h : ¬ s.On) : s.act f = .next s := by
  simp [State.act, State.actRaw, Dev.when_off f h]

theorem actBus_off (off : Nat) (f : Dev → Dev) (h : ¬ s.On) : s.actBus off f = .next s := by
  unfold State.actBus
  split
  · exact actOtp_off f h
  · exact act_off f h

theorem idle_off (c : Instr) (hc : c.needsNoDie = false) (h : ¬ s.On) : Idle c s := by
  cases c
  case registerWrite => exact actBus_off _ _ h
  case smbusWrite => exact actBus_off _ _ h
  case fuseProgDone => exact actOtp_off _ h
  case sealGo => exact actOtp_off _ h
  case tetherBeacon => exact actClk_off _ h
  case extest | idcode | samplePreload | clamp | highz | debugAccess | bypass | trstN | supplyQualification | powerOnReset | resetN |
    powerFailWarning | pfailNExternal | supplyWarnEnd | brownOut | overvoltageShutdown | ovRecovery | vinSample | thermalShutdown =>
    cases hc
  all_goals exact act_off _ h

/-! ### The islands that SPORE switches off -/

theorem idle_asleep (c : Instr) (hc : c.sleeps = true) (h : s.dev.spore.phase ≠ 0) : Idle c s := by
  have hoff : ¬ s.Awake := fun ha => h ha.2
  cases c <;> cases hc
  all_goals exact idle_run rfl hoff

theorem idle_lanesOff (c : Instr) (hc : c.receives = true) (h : 1 < s.dev.spore.phase) : Idle c s := by
  have hrx (f : Dev → Dev) : s.runRx f = .next s := by
    have hphase : decide (s.dev.spore.phase ≤ 1) = false := by simpa using h
    unfold State.runRx State.act State.actRaw
    simp [hphase, Dev.when]
  cases c <;> cases hc
  all_goals exact hrx _

end Sys2Proof.Machine

open Sys2Proof Sys2Proof.Machine

/-- Settles O8: each of these commands is carried out under the condition that fails. -/
theorem nothingHappensToWhatIsOff : Obligations.NothingHappensToWhatIsOff := by
  unfold Obligations.NothingHappensToWhatIsOff
  exact ⟨fun c _ hc h => idle_off c hc h, fun c _ hc h => idle_asleep c hc h, fun c _ hc h => idle_lanesOff c hc h⟩
end

section
set_option Elab.async false
/-! A page that does not answer (R39, R58). -/

namespace Sys2Proof.Machine
open Sys2Proof
variable {s : State}

/-- Of a command through a page that does not answer: in SPORE it sets ACC_IN_SPORE, and otherwise it is none. -/
def Ignored (c : Instr) (s : State) : Prop :=
  (s.On → s.dev.fld PWRM.SLEEP_STAT_STATE = 2 →
    Gives c s fun d => d.raised PWRM.int_ACC_IN_SPORE = true ∧ s.dev.reportsOnly d) ∧
  (s.dev.fld PWRM.SLEEP_STAT_STATE ≠ 2 → Idle c s)

theorem Dev.access_closed_spore (d : Dev) (p : Nat) (f : Dev → Dev) (h : d.pageOpen p = false) (hon : d.sup.phase = .on)
    (hs : d.fld PWRM.SLEEP_STAT_STATE = 2) : d.access p f = d.raise PWRM.int_ACC_IN_SPORE := by
  simp [Dev.access, h, hon, hs]

theorem Dev.access_closed_awake (d : Dev) (p : Nat) (f : Dev → Dev) (h : d.pageOpen p = false)
    (hs : d.fld PWRM.SLEEP_STAT_STATE ≠ 2) : d.access p f = d := by
  simp [Dev.access, h, hs]

theorem Dev.reportsOnly_under {d e : Dev} (h : d.reportsOnly e) : d.reportsOnly (d.under e) := by
  rwa [show d.under e = e by rw [Dev.under, ← h.1.clk, ← h.1.otp]]

theorem ignored_act {c : Instr} {p : Nat} {f : Dev → Dev} (h : exec c s = s.act fun d => d.access p f)
    (hp : s.dev.pageOpen p = false) : Ignored c s := by
  refine ⟨fun hon hs => ?spore, fun hs => ?awake⟩
  case spore =>
    refine gives_act h hon ?_
    rw [Dev.access_closed_spore _ _ _ hp hon hs]
    exact ⟨Dev.raised_raise_eq _ _ rfl, Dev.reportsOnly_under (Dev.reportsOnly_raise _ _)⟩
  case awake =>
    unfold Idle
    rw [h]
    unfold State.act State.actRaw
    simp [Dev.access_closed_awake _ _ _ hp hs, Dev.when]

/-- A command that might blow a fuse does not while its page does not answer. -/
theorem actOtp_closed {p : Nat} (f : Dev → Dev) (hp : s.dev.pageOpen p = false) :
    (s.actOtp fun d => d.when d.runs fun d => d.access p f) = s.act fun d => d.access p f := by
  have hotp : (s.dev.when s.dev.runs fun d => d.access p f).otp = s.dev.otp := by
    unfold Dev.when
    split
    · exact (Dev.access_closed _ _ f hp).1.otp
    · rfl
  simp only [State.actOtp, State.act, State.actRaw, Dev.under, ← hotp]

theorem ignored_viaPage (c : Instr) (p : Nat) (hc : c.viaPage = some p) (hp : s.dev.pageOpen p = false) : Ignored c s := by
  cases c <;> cases hc
  case sealGo => exact ignored_act (actOtp_closed _ hp) hp
  all_goals exact ignored_act rfl hp

end Sys2Proof.Machine

open Sys2Proof Sys2Proof.Machine

/-- Settles O9: each of these commands is an access to its page. -/
theorem closedPagesIgnoreCommands : Obligations.ClosedPagesIgnoreCommands := by
  unfold Obligations.ClosedPagesIgnoreCommands
  exact ⟨fun c p _ hc hp hon hs => (ignored_viaPage c p hc hp).1 hon hs, fun c p _ hc hp hs => (ignored_viaPage c p hc hp).2 hs⟩
end

section
set_option Elab.async false
/-! The test access port (R473). -/

namespace Sys2Proof.Machine
open Sys2Proof
variable {s : State}

namespace Dev.keeps
variable {d d0 : Dev} {P : List Part}

theorem set_host {x} (h : d0.keeps d P) (hp : P.contains .host = true := by rfl) : d0.keeps { d with host := x } P :=
  h.trans fun p hn => by cases p <;> first | rfl | exact absurd (by simpa using hp) hn
theorem set_out {x} (h : d0.keeps d P) (hp : P.contains .out = true := by rfl) : d0.keeps { d with out := x } P :=
  h.trans fun p hn => by cases p <;> first | rfl | exact absurd (by simpa using hp) hn
theorem under (h : d0.keeps d P) : d0.keeps (d0.under d) P := fun p hp => by
  have hd := h p hp
  cases p
  case clk | otp => rfl
  all_goals exact hd

end Dev.keeps

/-- A command of the test access port, in a die that is powered. -/
theorem gives_tap {c : Instr} {f : Dev → Dev} {p : Dev → Prop} (h : exec c s = s.tapAct f) (hon : s.On ∨ s.dev.sup.phase = .reset)
    (hp : p (s.dev.under (f s.dev))) : Gives c s p := by
  refine gives_raw h ?_
  rw [show (decide (s.dev.sup.phase = .on) || decide (s.dev.sup.phase = .reset)) = true by simpa using hon, Dev.when_true]
  exact hp

theorem idle_tap {c : Instr} {f : Dev → Dev} (h : exec c s = s.tapAct f) (hon : s.dev.sup.phase ≠ .on) (hr : s.dev.sup.phase ≠ .reset) :
    Idle c s := by
  simp [Idle, h, State.tapAct, State.actRaw, hon, hr]

/-- Codes of the debug instructions and codes that name none are BYPASS, the former only once SEAL is blown (R471, R473). -/
theorem Dev.tapCode_bypass (d : Dev) {code : Nat} (hn : code ∉ [0x00, 0x01, 0x02, 0x04, 0x05])
    (h : code < 0x80 ∨ 0x8F < code ∨ d.otp.sealed = true) : d.tapCode code = 0xFF := by
  unfold Dev.tapCode
  rw [if_neg (by simpa using hn), if_neg]
  rintro ⟨hlo, hhi, hs⟩
  rcases h with h | h | h
  · omega
  · omega
  · simp [h] at hs

theorem Dev.tapCode_named (d : Dev) {code : Nat}
    (h : code ∈ [0x00, 0x01, 0x02, 0x04, 0x05] ∨ (0x80 ≤ code ∧ code ≤ 0x8F ∧ d.otp.sealed = false)) : d.tapCode code = code := by
  unfold Dev.tapCode
  rcases h with h | ⟨hlo, hhi, hs⟩
  · rw [if_pos (by simpa using h)]
  · split
    · rfl
    · rw [if_pos ⟨hlo, hhi, by simp [hs]⟩]

end Sys2Proof.Machine

open Sys2Proof Sys2Proof.Machine

/-- Settles O60. -/
theorem testAccess : Obligations.TestAccess := by
  unfold Obligations.TestAccess
  refine ⟨fun s h => ?idcode, fun s pins tdi h => ?extest, fun s pins tdi h => ?sample, fun s h => ?clamp, fun s h => ?highz,
    fun s code h hc => ?debug, fun s code h hc hn hs => ?bypass, fun s h => ?trst, fun s code h hc hs => ?named,
    fun s c x y hc hon hr => ?off⟩
  case idcode => exact gives_tap rfl h ⟨rfl, by simp [Dev.tap], ((Dev.keeps.refl _).set_host.set_out).under⟩
  case extest =>
    refine gives_tap rfl h ?_
    cases hl : s.dev.sup.resetLow
    · rw [if_neg (show ¬ (s.dev.tap 0x00 true false).sup.resetLow = true by simpa [Dev.tap] using hl)]
      exact ⟨(Dev.keeps.refl _).set_host.under, nofun, fun _ => ⟨rfl, by simp [Dev.tap, hl]⟩⟩
    · rw [if_pos (show (s.dev.tap 0x00 true false).sup.resetLow = true from hl)]
      exact ⟨((Dev.keeps.refl _).set_host.set_host.set_out).under, fun _ => ⟨rfl, by simp [Dev.tap, Dev.boundary, hl]⟩, nofun⟩
  case sample =>
    exact gives_tap rfl h ⟨rfl, ((Dev.keeps.refl _).set_host.set_host.set_out).under, by simp [Dev.tap, Dev.boundary]⟩
  case clamp => exact gives_tap rfl h ⟨(Dev.keeps.refl _).set_host.under, by simp [Dev.tap]⟩
  case highz => exact gives_tap rfl h ⟨(Dev.keeps.refl _).set_host.under, by simp [Dev.tap]⟩
  case debug =>
    refine gives_tap rfl h ⟨(Dev.keeps.refl _).set_host.under, ?_⟩
    have hcode : s.dev.tapCode (0x80 + code % 16) = if s.dev.otp.sealed then 0xFF else 0x80 + code := by
      rw [Nat.mod_eq_of_lt hc]
      cases hs : s.dev.otp.sealed
      · exact s.dev.tapCode_named (.inr ⟨by omega, by omega, hs⟩)
      · exact s.dev.tapCode_bypass (by simp; omega) (.inr (.inr hs))
    simp [Dev.tap, hcode]
  case bypass =>
    refine gives_tap rfl h ?_
    rw [Nat.mod_eq_of_lt hc, s.dev.tapCode_bypass hn hs]
    exact ⟨(Dev.keeps.refl _).set_host.under, by simp [Dev.tap]⟩
  case trst => exact gives_tap rfl h ⟨(Dev.keeps.refl _).set_host.under, by simp [Dev.tap]⟩
  case named =>
    have hne : s.dev.tapCode (code % 256) ≠ 0xFF := by
      rw [Nat.mod_eq_of_lt hc, s.dev.tapCode_named hs]
      rcases hs with hs | hs
      · rintro rfl
        simp at hs
      · omega
    change s.tapAct _ = _
    simp [State.tapAct, State.actRaw, hne, Dev.when]
  case off => rcases hc with rfl | rfl | rfl | rfl | rfl | rfl | rfl | rfl <;> exact idle_tap rfl hon hr
end

section
set_option Elab.async false
/-! What a command gives under its condition, and the setters of the device's parts, for chains of `Dev.moves`. -/

namespace Sys2Proof.Machine
open Sys2Proof
variable {c : Instr} {s : State} {f : Dev → Dev} {b : Dev → Bool} {p : Dev → Prop} {pg : Nat}

/-! ### Commands under a condition -/

/-- What moves neither the clock nor the fuses needs no guard over them. -/
theorem Dev.moves.under_eq {d e : Dev} {P : List Part} {G : List Nat} (h : d.moves e P G) (hc : P.contains .clk = false := by rfl)
    (ho : P.contains .otp = false := by rfl) : d.under e = e := by
  rw [Dev.under, ← h.keeps_clk hc, ← h.keeps_otp ho]

theorem gives_actWhen (h : exec c s = s.act fun d => d.when (b d) f) (hon : s.On) (hb : b s.dev = true)
    (hp : p (s.dev.under (f s.dev))) : Gives c s p := by
  refine gives_act h hon ?_
  rw [hb]
  exact hp

theorem gives_runWhen (h : exec c s = s.run fun d => d.when (b d) f) (hon : s.Awake) (hb : b s.dev = true)
    (hp : p (s.dev.under (f s.dev))) : Gives c s p := by
  refine gives_run h hon ?_
  rw [hb]
  exact hp

/-- A command through a page that answers. -/
theorem gives_access (h : exec c s = s.act fun d => d.access pg f) (ho : s.Opens pg) (hp : p (s.dev.under (f s.dev))) : Gives c s p := by
  refine gives_act h ho.1 ?_
  rw [Dev.access_open _ _ _ ho.2]
  exact hp

theorem idle_raw (h : exec c s = s.actRaw f) (hf : f s.dev = s.dev) : Idle c s := by
  simp [Idle, h, State.actRaw, hf]

/-- A command that leaves a running device as it is. -/
theorem idle_actSelf (h : exec c s = s.act f) (hf : f s.dev = s.dev) : Idle c s :=
  idle_raw h (by unfold Dev.when; split <;> simp [hf])

theorem idle_actWhen (h : exec c s = s.act fun d => d.when (b d) f) (hb : b s.dev = false) : Idle c s :=
  idle_actSelf h (by rw [hb, Dev.when_false])

theorem idle_runSelf (h : exec c s = s.run f) (hf : f s.dev = s.dev) : Idle c s :=
  idle_actSelf h (by unfold Dev.when; split <;> simp [hf])

theorem idle_runWhen (h : exec c s = s.run fun d => d.when (b d) f) (hb : b s.dev = false) : Idle c s :=
  idle_runSelf h (by rw [hb, Dev.when_false])

/-- A command through a page that answers, which leaves the device as it is. -/
theorem idle_access (h : exec c s = s.act fun d => d.access pg f) (ho : s.dev.pageOpen pg = true) (hf : f s.dev = s.dev) : Idle c s :=
  idle_actSelf h (by rw [Dev.access_open _ _ _ ho, hf])

end Sys2Proof.Machine

namespace Sys2Proof.Machine.Dev.moves
open Sys2Proof
variable {d d0 : Dev} {P : List Part} {G : List Nat}

theorem setSup {x : Supply} (h : d0.moves d P G) (hp : P.contains .sup = true := by rfl) : d0.moves (d.setSup x) P G :=
  h.set_sup hp
theorem setSpore {x : Spore} (h : d0.moves d P G) (hp : P.contains .spore = true := by rfl) : d0.moves (d.setSpore x) P G :=
  h.set_spore hp
theorem setBoot {x : Boot} (h : d0.moves d P G) (hp : P.contains .boot = true := by rfl) : d0.moves (d.setBoot x) P G :=
  h.set_boot hp
theorem setFlow {x : FlowSt} (h : d0.moves d P G) (hp : P.contains .flow = true := by rfl) : d0.moves (d.setFlow x) P G :=
  h.set_flow hp
theorem setMemSlot {r s v : Nat} (h : d0.moves d P G) (hp : P.contains .flow = true := by rfl) : d0.moves (d.setMemSlot r s v) P G :=
  h.set_flow hp
theorem setMem {x : MemSt} (h : d0.moves d P G) (hp : P.contains .mem = true := by rfl) : d0.moves (d.setMem x) P G :=
  h.set_mem hp
theorem setHostSt {x : HostSt} (h : d0.moves d P G) (hp : P.contains .host = true := by rfl) : d0.moves (d.setHostSt x) P G :=
  h.set_host hp
theorem setUnits {x : Units} (h : d0.moves d P G) (hp : P.contains .units = true := by rfl) : d0.moves (d.setUnits x) P G :=
  h.set_units hp
theorem setCipher {c : Nat} {x : Cipher} (h : d0.moves d P G) (hp : P.contains .units = true := by rfl) : d0.moves (d.setCipher c x) P G :=
  h.set_units hp
theorem setKeySlot {c s : Nat} {x : KeySlot} (h : d0.moves d P G) (hp : P.contains .units = true := by rfl) : d0.moves (d.setKeySlot c s x) P G :=
  h.set_units hp
theorem setTandem {x : TandemSt} (h : d0.moves d P G) (hp : P.contains .tandem = true := by rfl) : d0.moves (d.setTandem x) P G :=
  h.set_tandem hp
theorem setIsle {i : Nat} {x : Isle} (h : d0.moves d P G) (hp : P.contains .isles = true := by rfl) : d0.moves (d.setIsle i x) P G :=
  h.set_isles hp
theorem setPort {p : Nat} {x : PortSt} (h : d0.moves d P G) (hp : P.contains .sw = true := by rfl) : d0.moves (d.setPort p x) P G :=
  h.set_sw hp
theorem setFrame {k : Nat} {x : Frame} (h : d0.moves d P G) (hp : P.contains .sw = true := by rfl) : d0.moves (d.setFrame k x) P G :=
  h.set_sw hp
theorem setLink {p i : Nat} {x : Link} (h : d0.moves d P G) (hp : P.contains .sw = true := by rfl) : d0.moves (d.setLink p i x) P G :=
  h.set_sw hp
theorem setRx {r : Nat} {x : Option Rx} (h : d0.moves d P G) (hp : P.contains .sw = true := by rfl) : d0.moves (d.setRx r x) P G :=
  h.set_sw hp
theorem setGclEntry {n b i : Nat} {x : Nat × Nat} (h : d0.moves d P G) (hp : P.contains .sw = true := by rfl) : d0.moves (d.setGclEntry n b i x) P G :=
  h.set_sw hp
theorem setBucket {k : Nat} {x : Bucket} (h : d0.moves d P G) (hp : P.contains .sw = true := by rfl) : d0.moves (d.setBucket k x) P G :=
  h.set_sw hp
theorem setTurn {p q k : Nat} (h : d0.moves d P G) (hp : P.contains .sw = true := by rfl) : d0.moves (d.setTurn p q k) P G :=
  h.set_sw hp
theorem setHold {p : Nat} {q x : Option Nat} (h : d0.moves d P G) (hp : P.contains .sw = true := by rfl) : d0.moves (d.setHold p q x) P G :=
  h.set_sw hp
theorem setQueue {q : Nat} {l : List Copy} (h : d0.moves d P G) (hp : P.contains .sw = true := by rfl) : d0.moves (d.setQueue q l) P G :=
  h.set_sw hp
theorem setFrag {i : Nat} {x : Option FragEntry} (h : d0.moves d P G) (hp : P.contains .look = true := by rfl) : d0.moves (d.setFrag i x) P G :=
  h.set_look hp
theorem setWaits {p : Nat} {l : List Nat} (h : d0.moves d P G) (hp : P.contains .look = true := by rfl) : d0.moves (d.setWaits p l) P G :=
  h.set_look hp
theorem setReleased {p : Nat} {l : List Nat} (h : d0.moves d P G) (hp : P.contains .look = true := by rfl) : d0.moves (d.setReleased p l) P G :=
  h.set_look hp
theorem setHost {i x : Nat} (h : d0.moves d P G) (hp : P.contains .look = true := by rfl) : d0.moves (d.setHost i x) P G :=
  h.set_look hp
theorem setCache {p : Nat} {l : List Learn} (h : d0.moves d P G) (hp : P.contains .look = true := by rfl) : d0.moves (d.setCache p l) P G :=
  h.set_look hp
theorem setUnit {p i u : Nat} (h : d0.moves d P G) (hp : P.contains .look = true := by rfl) : d0.moves (d.setUnit p i u) P G :=
  h.set_look hp
theorem setRule {p i r : Nat} (h : d0.moves d P G) (hp : P.contains .look = true := by rfl) : d0.moves (d.setRule p i r) P G :=
  h.set_look hp
theorem setDom {p i x : Nat} (h : d0.moves d P G) (hp : P.contains .look = true := by rfl) : d0.moves (d.setDom p i x) P G :=
  h.set_look hp
theorem setHop {p i x : Nat} (h : d0.moves d P G) (hp : P.contains .look = true := by rfl) : d0.moves (d.setHop p i x) P G :=
  h.set_look hp
theorem setEdit {k v : Nat} (h : d0.moves d P G) (hp : P.contains .look = true := by rfl) : d0.moves (d.setEdit k v) P G :=
  h.set_look hp
theorem setLoader {l : LoaderAt} {x : Loader} (h : d0.moves d P G) (hp : P.contains .look = true := by rfl) : d0.moves (d.setLoader l x) P G :=
  h.set_look hp
theorem setTask {c i : Nat} {x : Option Task} (h : d0.moves d P G) (hp : P.contains .eng = true := by rfl) : d0.moves (d.setTask c i x) P G :=
  h.set_eng hp
theorem setTraceQ {c : Nat} {l : List (List Byte)} (h : d0.moves d P G) (hp : P.contains .eng = true := by rfl) : d0.moves (d.setTraceQ c l) P G :=
  h.set_eng hp
theorem setReady {c p : Nat} {l : List Nat} (h : d0.moves d P G) (hp : P.contains .eng = true := by rfl) : d0.moves (d.setReady c p l) P G :=
  h.set_eng hp
theorem setRing {c p : Nat} {l : List Task} (h : d0.moves d P G) (hp : P.contains .eng = true := by rfl) : d0.moves (d.setRing c p l) P G :=
  h.set_eng hp
theorem setWants {c p : Nat} {l : List Task} (h : d0.moves d P G) (hp : P.contains .eng = true := by rfl) : d0.moves (d.setWants c p l) P G :=
  h.set_eng hp
theorem setThread {k : Nat} {x : Thread} (h : d0.moves d P G) (hp : P.contains .eng = true := by rfl) : d0.moves (d.setThread k x) P G :=
  h.set_eng hp
theorem setStage {k n : Nat} (h : d0.moves d P G) (hp : P.contains .eng = true := by rfl) : d0.moves (d.setStage k n) P G :=
  h.set_eng hp
theorem setExportQ {c : Nat} {x : ExportQ} (h : d0.moves d P G) (hp : P.contains .eng = true := by rfl) : d0.moves (d.setExportQ c x) P G :=
  h.set_eng hp
theorem flashWrite {a : Nat} {bs : List Byte} (h : d0.moves d P G) (hp : P.contains .flash = true := by rfl) : d0.moves (d.flashWrite a bs) P G :=
  h.set_flash hp
theorem dmaWrite {a : Nat} {bs : List Byte} (h : d0.moves d P G) (hp : P.contains .hostMem = true := by rfl) : d0.moves (d.dmaWrite a bs) P G :=
  h.set_hostMem hp
theorem drawn (h : d0.moves d P G) (hp : P.contains .draws = true := by rfl) : d0.moves d.drawn P G := h.set_draws hp
theorem freed (h : d0.moves d P G) (hp : P.contains .frees = true := by rfl) : d0.moves d.freed P G := h.set_frees hp

end Sys2Proof.Machine.Dev.moves
end

section
set_option Elab.async false
/-! Supply, resets and shutdowns (R20 to R22, R31, R35, R36). -/

namespace Sys2Proof.Machine
open Sys2Proof

namespace Dev
variable {d : Dev}

/-! ### What a reset or a loss of supply leaves -/

/-- The parts that lie outside power-on reset. -/
def beyondReset : List Part := [.otp, .draws, .frees, .hostMem, .flash, .sup]

theorem moves_cleared {P : List Part} {G : List Nat} (hP : beyondReset.all P.contains = true := by rfl) : Dev.reset.moves d.cleared P G := by
  refine Dev.moves.mono (L := beyondReset) (K := []) (Dev.moves_parts (Dev.reset.still) rfl fun p hp => ?_) hP rfl
  cases p
  case out | otp | draws | frees | hostMem | flash | sup => exact absurd (by decide) hp
  all_goals rfl

theorem moves_fuseCut : d.moves d.fuseCut [.otp, .frees] [] := by
  unfold Dev.fuseCut
  split
  · exact d.still
  · next v _ => exact (d.still.set_otp (x := d.otp.blow v (openBits d.frees))).set_frees

theorem moves_freeBytes {n : Nat} {p : Dev × List Byte} (h : d.freeBytes n = p) : d.moves p.1 [.frees] [] := by
  subst h
  exact d.still.foldl fun h => h.andThen moves_freed

theorem moves_flashCut : d.moves d.flashCut [.frees, .flash] [] := by
  unfold Dev.flashCut
  split
  · rcases h : d.freeBytes 256 with ⟨e, bs⟩
    exact (d.still.andThen (moves_freeBytes h)).set_flash
  · rcases h : d.freeBytes 4096 with ⟨e, bs⟩
    exact (d.still.andThen (moves_freeBytes h)).set_flash
  · exact d.still

theorem cleared_hostMem : d.cleared.hostMem = d.hostMem := moves_flashCut.keeps_hostMem.trans moves_fuseCut.keeps_hostMem

/-- A flash command in progress is the one thing that moves the flash. -/
theorem cleared_flash (h : d.host.qspi = none) : d.cleared.flash = d.flash := by
  have hq : d.fuseCut.host.qspi = none := by rw [moves_fuseCut.keeps_host, h]
  change d.fuseCut.flashCut.flash = d.flash
  rw [Dev.flashCut, hq]
  exact moves_fuseCut.keeps_flash

/-- A programming in progress is the one thing that moves the fuses. -/
theorem cleared_otp (h : d.host.prog = none) : d.cleared.otp = d.otp := by
  change d.fuseCut.flashCut.otp = d.otp
  rw [moves_flashCut.keeps_otp, Dev.fuseCut, h]

theorem cleared_sup : d.cleared.sup = { Dev.reset.sup with padLow := d.sup.padLow, resetLow := d.sup.resetLow, hot := d.sup.hot } := by
  have h : d.fuseCut.flashCut.sup = d.sup := moves_flashCut.keeps_sup.trans moves_fuseCut.keeps_sup
  rw [Dev.cleared, h]

/-- A field that is set to what it can hold. -/
theorem fld_setFld_fits {x : Fld} {v c : Nat} (hv : v < 2 ^ x.len) (h : decide (x.lo + x.len ≤ 32) = true := by rfl) :
    (d.setFld x v c).fld x c = v := by
  rw [d.fld_setFld_eq x c v h, Nat.mod_eq_of_lt hv]

/-! ### Resets -/

theorem moves_powerOff {p : Phase} {n : Nat} : Dev.reset.moves (d.powerOff p n) [.otp, .draws, .frees, .hostMem, .flash, .sup] [0x01] :=
  (moves_cleared (d := d)).setSup.setFld

theorem moves_resetDown {n : Nat} :
    Dev.reset.moves (d.resetDown n) [.otp, .draws, .frees, .hostMem, .flash, .sup, .host] [0x01] := by
  unfold Dev.resetDown
  exact (moves_cleared (d := d)).setReg.setReg.setReg.setReg.setReg.setSup.setHostSt.setFld

/-- Registers that are copied one after the other read as in the device they are copied from. -/
theorem reg_foldl_setReg {l : List Reg} {e : Dev} {r : Reg} (h : r ∈ l ∨ e.reg r = d.reg r) (hap : ∀ q ∈ l, q = r ∨ r.apart q = true) :
    (l.foldl (fun (e : Dev) q => e.setReg q (d.reg q)) e).reg r = d.reg r := by
  induction l generalizing e with
  | nil => exact h.resolve_left List.not_mem_nil
  | cons q l ih =>
    refine ih ?_ fun x hx => hap x (List.mem_cons_of_mem _ hx)
    rcases hap q List.mem_cons_self with rfl | hq
    · exact .inr (Dev.reg_setReg_same _ _ _ _)
    · rw [Dev.reg_setReg_apart _ _ _ _ _ _ hq]
      exact h.imp_left fun hm => (List.mem_cons.mp hm).resolve_left (by rintro rfl; simp [Reg.apart] at hq)

/-- The registers of the supply monitor are kept by RESET_N, but for the cause of the reset. -/
theorem num_resetDown (n : Nat) (r : Reg) (hr : r ∈ monitorRegs) (hs : r.apart PWRM.SUPPLY_STAT = true) :
    (d.resetDown n).num r = d.num r := by
  have hap : ∀ q ∈ monitorRegs, ∀ r ∈ monitorRegs, q = r ∨ r.apart q = true := by decide
  refine (Dev.num_setFld_apart _ _ PWRM.SUPPLY_STAT_LAST_CAUSE _ _ _ hs).trans (congrArg BitVec.toNat ?_)
  exact reg_foldl_setReg (.inl hr) fun q hq => hap q hq r hr

end Dev
end Sys2Proof.Machine

open Sys2Proof Sys2Proof.Machine

/-- Settles O10. -/
theorem supplyPhases : Obligations.SupplyPhases := by
  unfold Obligations.SupplyPhases
  refine ⟨fun s cool hp hhot => ?qualify, fun s straps us hp hl => ?on, fun s cool => ?rises, fun s cool hp => ?low, fun s => ?brown,
    fun s mv hp => ?sample⟩
  case qualify =>
    have hc : (s.dev.sup.phase = .unpowered ∨ s.dev.sup.phase = .qualifying) ∧ (!s.dev.sup.hot || cool) = true := ⟨hp, by simpa using hhot⟩
    refine ⟨_, rfl, rfl, ?_⟩
    dsimp only [Dev.qualify]
    rw [if_pos hc]
    exact ⟨rfl, rfl, Dev.fld_setFld_fits (Dev.fld_lt _ _ _), Dev.cleared_hostMem, Dev.cleared_flash, Dev.cleared_otp,
      (Dev.moves_cleared (d := s.dev)).setSup.setFld⟩
  case on =>
    refine gives_raw rfl ?_
    dsimp only [Dev.powerOn]
    rw [if_pos ⟨hp, by simp [hl]⟩]
    refine ⟨by simp, ?_, ?_, by simp, s.dev.still.setSup.setBoot.setNum.setFld.under⟩
    · rw [Dev.under_fld, Dev.fld_setFld_fits (by decide)]
    · rw [Dev.under_num, Dev.num_setFld_apart _ _ _ _ _ _ rfl, Dev.num_setNum_same]
      omega
  case rises => exact ⟨_, rfl, rfl, rfl, rfl, rfl, rfl, s.dev.still.setSup.setHostSt⟩
  case low =>
    have hdown : s.dev.resetPin true cool = s.dev.resetDown 3 := by
      rcases hp with hp | hp <;> simp [Dev.resetPin, hp]
    refine ⟨_, rfl, rfl, ?_⟩
    dsimp only
    rw [hdown]
    refine ⟨rfl, rfl, rfl, rfl, Dev.fld_setFld_fits (by decide), ?_, ?_, ?_, rfl, Dev.cleared_hostMem, Dev.moves_resetDown⟩
    all_goals exact Dev.num_resetDown _ _ (by simp [monitorRegs]) rfl
  case brown =>
    exact ⟨_, rfl, rfl, rfl, Dev.fld_setFld_fits (by decide), Dev.cleared_hostMem, Dev.cleared_flash, Dev.cleared_otp, Dev.moves_powerOff⟩
  case sample =>
    have hmv : min mv 0x1FFFF < 2 ^ 32 := by omega
    refine gives_raw rfl ?_
    rw [if_pos (decide_eq_true hp)]
    refine ⟨?_, ?_, ?_, s.dev.still.setNum.setNum.setFld.under⟩
    · simp (disch := decide) only [Dev.vinSample, Dev.under_num, Dev.num_setFld_apart, Dev.num_setNum_apart, Dev.num_setNum_same,
        Nat.mod_eq_of_lt hmv]
    · simp (disch := decide) only [Dev.vinSample, Dev.under_num, Dev.num_setFld_apart, Dev.num_setNum_same]
      exact Nat.mod_eq_of_lt (by omega)
    · simp (disch := decide) only [Dev.vinSample, Dev.under_on, Dev.on_setFld_eq]
      by_cases h : 62000 < mv <;> simp [h, bit, PWRM.SUPPLY_STAT_OV]
end

section
set_option Elab.async false
/-! Overvoltage and overtemperature (R22, R31). -/

namespace Sys2Proof.Machine
open Sys2Proof

namespace Dev
variable {d : Dev}

theorem moves_setTemp {temp : Int} {i : Nat} : d.moves (d.setTemp temp i) [] [0x01] := by
  unfold Dev.setTemp
  exact d.still.setNum.iteSelf fun h => h.setNum

theorem moves_setCap {cap : Bool} : d.moves (d.setCap cap) [.sup, .isles] [0x04] := d.still.setSup.andThen moves_repaceAll

theorem moves_thermAlarm {temp : Int} {i : Nat} : d.moves (d.thermAlarm temp i) [.sup, .isles] [0x01, 0x04] := by
  unfold Dev.thermAlarm
  exact d.still.ite ((d.still.andThen moves_setTemp).raise.log.iteSelf fun h => (h.andThen moves_setCap).raise.log)

theorem toBits_lt (n : Nat) (t : Int) : toBits n t < 2 ^ n := by
  have hpos : (0 : Int) < (2 ^ n : Nat) := by exact_mod_cast Nat.two_pow_pos n
  have hnn := Int.emod_nonneg t (ne_of_gt hpos)
  have hlt := Int.emod_lt_of_pos t hpos
  unfold toBits
  omega

/-- The word that TEMP_NOW holds. -/
theorem num_setTemp (temp : Int) (i : Nat) : (d.setTemp temp i).num PWRM.TEMP_NOW = toBits 16 temp + i % 256 * 65536 := by
  have hlt : toBits 16 temp + i % 256 * 65536 < 2 ^ 32 := by
    have := toBits_lt 16 temp
    omega
  unfold Dev.setTemp
  dsimp only
  split
  · rw [Dev.num_setNum_apart _ _ _ _ _ _ rfl, Dev.num_setNum_same, Nat.mod_eq_of_lt hlt]
  · rw [Dev.num_setNum_same, Nat.mod_eq_of_lt hlt]

theorem repaceAll_sup : d.repaceAll.sup = d.sup := moves_repaceAll.keeps_sup
theorem setCap_sup (cap : Bool) : (d.setCap cap).sup = { d.sup with cap := cap } := repaceAll_sup
theorem setTemp_sup (temp : Int) (i : Nat) : (d.setTemp temp i).sup = d.sup := moves_setTemp.keeps_sup

theorem on_setTemp (temp : Int) (i : Nat) : (d.setTemp temp i).on PWRM.TEMP_CFG_CAP_EN = d.on PWRM.TEMP_CFG_CAP_EN := by
  unfold Dev.setTemp
  dsimp only
  split <;> simp (disch := decide) only [Dev.on_setNum_apart]

theorem num_setCap (r : Reg) (cap : Bool) (hr : r.plain = true) (hp : [0x04].contains r.page = false) :
    (d.setCap cap).num r = d.num r :=
  moves_setCap.num r 0 hr hp

/-- An alarm: the temperature is shown, THERM_ALARM is set, and with CAP_EN the cap holds from now on. -/
theorem thermAlarm_reads {temp : Int} {i : Nat} (h : ¬ temp < 8 * (d.fld PWRM.TEMP_CFG_ALARM : Int)) :
    (d.thermAlarm temp i).num PWRM.TEMP_NOW = toBits 16 temp + i % 256 * 65536 ∧
      (d.thermAlarm temp i).sup.cap = (d.sup.cap || d.on PWRM.TEMP_CFG_CAP_EN) ∧
      (d.on PWRM.TEMP_CFG_CAP_EN = false → (d.thermAlarm temp i).raised PWRM.int_THERM_ALARM = true) := by
  unfold Dev.thermAlarm
  rw [if_neg h]
  extract_lets e1 e2
  have hnum : e2.num PWRM.TEMP_NOW = toBits 16 temp + i % 256 * 65536 := by
    rw [Dev.num_log_plain _ _ _ _ _ _ _ _ _ rfl, Dev.num_raise_plain _ _ _ _ rfl, num_setTemp]
  have hsup : e2.sup = d.sup := by rw [Dev.log_sup, Dev.raise_sup, setTemp_sup]
  have hon : e2.on PWRM.TEMP_CFG_CAP_EN = d.on PWRM.TEMP_CFG_CAP_EN := by
    rw [Dev.on_log_plain _ _ _ _ _ _ _ _ _ rfl, Dev.on_raise_plain _ _ _ _ rfl]
    exact on_setTemp temp i
  have hraised : e2.raised PWRM.int_THERM_ALARM = true := by
    rw [Dev.raised_log_plain _ _ _ _ _ _ _ _ rfl, Dev.raised_raise_eq _ _ rfl]
  rw [hon, hsup]
  split
  case isTrue hc =>
    simp only [Bool.and_eq_true, Bool.not_eq_true'] at hc
    refine ⟨?_, by simp [setCap_sup, hc.1], by simp [hc.1]⟩
    rw [Dev.num_log_plain _ _ _ _ _ _ _ _ _ rfl, Dev.num_raise_plain _ _ _ _ rfl, Dev.num_setCap _ _ rfl rfl, hnum]
  case isFalse hc =>
    refine ⟨hnum, ?_, fun _ => hraised⟩
    rw [hsup]
    cases hcap : d.sup.cap <;> simp_all

theorem fld_powerOff (p : Phase) {n : Nat} (h : n < 2 ^ PWRM.SUPPLY_STAT_LAST_CAUSE.len) :
    (d.powerOff p n).fld PWRM.SUPPLY_STAT_LAST_CAUSE = n := fld_setFld_fits h

end Dev

end Sys2Proof.Machine

open Sys2Proof Sys2Proof.Machine

/-- Settles O11. -/
theorem shutdownsAndThermalCap : Obligations.ShutdownsAndThermalCap := by
  unfold Obligations.ShutdownsAndThermalCap
  refine ⟨fun s hon => ?ov, fun s t hon hov ht => ?shut, fun s t hon hov ht => ?early, fun s hp => ?recovery,
    fun s temp island hon ht => ?alarm, fun s temp island hon ht => ?cold, fun s temp island hon ht => ?release, fun s hp => ?thermal⟩
  case ov =>
    refine gives_act rfl hon ⟨?_, ?_, by simp [Dev.overvoltage], s.dev.still.setFld.setSup.raise.log.under⟩
    · simp (disch := decide) only [Dev.overvoltage, Dev.under_on, Dev.on_log_plain, Dev.on_raise_plain, Dev.setSup_on, Dev.on_setFld_eq]
      rfl
    · simp (disch := decide) only [Dev.overvoltage, Dev.under_raised, Dev.raised_log_plain, Dev.raised_raise_eq]
  case shut =>
    refine ⟨_, rfl, rfl, ?_⟩
    have hon' : s.dev.sup.phase = .on := hon
    simp only [hon', hov, ht, if_true]
    exact ⟨rfl, Dev.fld_powerOff _ (by decide), Dev.moves_powerOff⟩
  case early =>
    have hon' : s.dev.sup.phase = .on := hon
    change execOvervoltageShutdown s = .next s
    simp only [execOvervoltageShutdown, State.actAll, hon', hov, if_true, if_neg (Nat.not_le.mpr ht)]
  case recovery =>
    refine gives_raw rfl ?_
    rw [if_pos hp]
    exact ⟨rfl, s.dev.still.setSup.under⟩
  case alarm =>
    have hnot : ¬ temp < 8 * (s.dev.fld PWRM.TEMP_CFG_ALARM : Int) := by omega
    obtain ⟨hnum, hcap, hraised⟩ := Dev.thermAlarm_reads hnot (i := island)
    exact gives_act rfl hon ⟨hraised, hnum, hcap, Dev.moves_thermAlarm.under⟩
  case cold =>
    refine idle_actSelf rfl ?_
    simp [Dev.thermAlarm, ht]
  case release =>
    refine gives_act rfl hon ?_
    rw [if_pos ht]
    refine ⟨?_, ?_, ((s.dev.still.andThen Dev.moves_setTemp).andThen Dev.moves_setCap).under⟩
    · rw [Dev.under_sup, Dev.setCap_sup]
    · rw [Dev.under_num, Dev.num_setCap _ _ rfl rfl, Dev.num_setTemp]
  case thermal =>
    have hm : s.dev.monitors = true := by simpa [Dev.monitors] using hp
    refine ⟨_, rfl, rfl, ?_⟩
    simp only [hm, if_true]
    exact ⟨rfl, rfl, by rw [Dev.setSup_fld, Dev.fld_powerOff _ (by decide)], Dev.moves_powerOff.setSup⟩
end

section
set_option Elab.async false
/-! Fragments that wait (R164 to R166) and a pause of pipelines (R84 to R86). -/

namespace Sys2Proof.Machine
open Sys2Proof

namespace Dev
variable {d : Dev}

/-! ### Wait lists -/

theorem moves_fragCnt {p k : Nat} : d.moves (d.fragCnt p k) [] [0x21] := d.still.bump
theorem moves_punt {k r : Nat} : d.moves (d.punt k r) [.sw] [] := moves_updFrame

theorem moves_fragDefault {k : Nat} : d.moves (d.fragDefault k) [.sw] [0x11, 0x40, 0x41, 0x50, 0x58, 0x70] := by
  unfold Dev.fragDefault
  split
  · exact d.still
  · exact (d.still.andThen moves_punt).ite moves_discardFrame

theorem moves_waitsEmpty {mask : Nat} : d.moves (d.waitsEmpty mask) [.sw, .look] [0x11, 0x21, 0x40, 0x41, 0x50, 0x58, 0x70] :=
  d.still.each fun h => h.iteSelf fun h => h.setWaits.foldl fun h => (h.andThen moves_fragCnt).andThen moves_fragDefault

theorem moves_fragClear : d.moves d.fragClear [.sw, .look] [0x11, 0x21, 0x40, 0x41, 0x50, 0x58, 0x70] := moves_waitsEmpty.set_look

/-! ### SPORE entry that waits (R55) -/

theorem sporeTry_still (h : d.spore.waiting = false) : d.sporeTry = d := by simp [Dev.sporeTry, h]

/-! ### The end of a pause (R84) -/

theorem moves_pauseEnd {p : PauseSt} : d.moves (d.pauseEnd p) [.pause, .tandem] [0x00] :=
  (d.still.set_pause.setNum.setFld.setFld.setFld.log).andThen moves_setCheck

@[simp] theorem pauseEnd_spore {p : PauseSt} : (d.pauseEnd p).spore = d.spore := moves_pauseEnd.keeps_spore
@[simp] theorem pauseEnd_pause {p : PauseSt} : (d.pauseEnd p).pause = none := by
  simp [Dev.pauseEnd, moves_setCheck.keeps_pause, Dev.setEpoch]

theorem nextEpoch_lt (e : Nat) : nextEpoch e < 65536 := by
  unfold nextEpoch
  split <;> omega

/-- The epoch advances at the end of a pause. -/
theorem pauseEnd_epoch {p : PauseSt} : (d.pauseEnd p).num (COMMIT 0) = nextEpoch (d.num (COMMIT 0) % 65536) := by
  have h := nextEpoch_lt (d.num (COMMIT 0) % 65536)
  unfold Dev.pauseEnd Dev.setEpoch
  rw [moves_setCheck.num _ 0 rfl rfl]
  simp (disch := decide) only [Dev.num_log_plain, Dev.num_setFld_apart, Dev.num_setNum_same]
  omega

/-- What TOP.PAUSE_STAT shows after it. -/
theorem pauseEnd_stat {p : PauseSt} : (d.pauseEnd p).fld TOP.PAUSE_STAT_DRAINING = 0 ∧ (d.pauseEnd p).fld TOP.PAUSE_STAT_PAUSED = 0 ∧
    (d.pauseEnd p).fld TOP.PAUSE_STAT_LAST_US = min 0xFFFF ((d.clk.up - p.since) / 10000) := by
  unfold Dev.pauseEnd
  simp only [moves_setCheck.fld TOP.PAUSE_STAT_DRAINING 0 rfl rfl, moves_setCheck.fld TOP.PAUSE_STAT_PAUSED 0 rfl rfl,
    moves_setCheck.fld TOP.PAUSE_STAT_LAST_US 0 rfl rfl]
  simp (disch := decide) only [Dev.fld_log_plain, Dev.fld_setFld_eq, Dev.fld_setFld_beside]
  refine ⟨rfl, rfl, Nat.mod_eq_of_lt ?_⟩
  change _ < 65536
  omega

end Dev
end Sys2Proof.Machine

open Sys2Proof Sys2Proof.Machine

/-- Settles O19. -/
theorem pausesOfPipelines : Obligations.PausesOfPipelines := by
  unfold Obligations.PausesOfPipelines
  refine ⟨fun s mask ho hp hr => ?go, fun s mask ho hr => ?refused, fun s p hon hp hr he => ?reached, fun s p hon hp he => ?busy,
    fun s p ho hp hw => ?resume, fun s ho hp => ?none, fun s p hon hp hw hl => ?expired, fun s p hon hp hl => ?early⟩
  case go =>
    refine gives_access rfl ho ?_
    simp only [Dev.pauseGo, hp, hr, Option.isSome_none, Bool.not_true, Bool.or_self, Bool.false_eq_true, if_false]
    refine ⟨?_, ?_, (s.dev.still.set_pause.setFld.andThen Dev.moves_waitsEmpty).under⟩
    · simp [Dev.moves_waitsEmpty.keeps_pause]
    · rw [Dev.under_fld, Dev.moves_waitsEmpty.fld _ 0 rfl rfl, Dev.fld_setFld_eq _ _ _ _ rfl]
      exact Nat.mod_mod mask 16
  case refused =>
    have hc : (s.dev.pause.isSome || !s.dev.on TOP.BOOT_STATUS_READY) = true := by simpa using hr
    refine gives_access rfl ho ?_
    rw [Dev.pauseGo, if_pos hc]
    exact ⟨by simp (disch := decide), Dev.reportsOnly_under (Dev.reportsOnly_raise _ _)⟩
  case reached =>
    refine gives_act rfl hon ?_
    simp only [hp, hr, he, Bool.not_false, List.isEmpty_nil, Bool.and_self, if_true]
    refine ⟨by simp, ?_, ?_, ?_, s.dev.still.set_pause.setFld.setFld.raise.under⟩
    all_goals simp (disch := decide)
    rfl
  case busy =>
    refine idle_actSelf rfl ?_
    simp [hp, he]
  case resume =>
    obtain ⟨hd, hpa, hus⟩ := Dev.pauseEnd_stat (d := s.dev) (p := p)
    refine gives_access rfl ho ?_
    simp only [Dev.pauseResume, hp]
    rw [Dev.sporeTry_still (by simpa using hw), Dev.moves_pauseEnd.under_eq]
    exact ⟨Dev.pauseEnd_pause, hd, hpa, hus, Dev.pauseEnd_epoch, Dev.moves_pauseEnd⟩
  case none =>
    refine gives_access rfl ho ?_
    simp only [Dev.pauseResume, hp]
    exact ⟨by simp (disch := decide), Dev.reportsOnly_under (Dev.reportsOnly_raise _ _)⟩
  case expired =>
    refine gives_act rfl hon ?_
    simp only [hp, hl, if_true]
    rw [Dev.sporeTry_still (by simpa using hw)]
    exact ⟨by simp, by simp (disch := decide), by simp (disch := decide) [Dev.pauseEnd_epoch], Dev.moves_pauseEnd.raise.under⟩
  case early =>
    refine idle_actSelf rfl ?_
    simp [hp, hl]
end

section
set_option Elab.async false
/-! Registers of other channels, and walks over channels: what an operation on one channel leaves of another. -/

namespace Sys2Proof.Machine
open Sys2Proof

/-! ### Two channels -/

/-- Registers with a window have different keys for different channels. -/
theorem Reg.key_ne_of_chan {r q : Reg} (hr : r.windowed = true) (hq : q.windowed = true) (p p' : Nat) {c c' : Nat}
    (h : c % 65536 ≠ c' % 65536) : r.key p c ≠ q.key p' c' := by
  rw [Reg.key_parts, Reg.key_parts]
  simp only [hr, hq, if_true]
  have hp : (if r.perPath then p % 2 else 0) < 2 := by split <;> omega
  have hp' : (if q.perPath then p' % 2 else 0) < 2 := by split <;> omega
  omega

section Chan
variable (d : Dev) {r q : Reg} {x y : Fld} {c c' v n : Nat} (w : Word) (h : c % 65536 ≠ c' % 65536)
include h

theorem Dev.reg_setReg_chan (hr : r.windowed = true) (hq : q.windowed = true) : (d.setReg q w c').reg r c = d.reg r c :=
  Dev.regP_setRegP_ne d r q 0 c 0 c' w (Reg.key_ne_of_chan hr hq _ _ h)
theorem Dev.num_setNum_chan (hr : r.windowed = true) (hq : q.windowed = true) : (d.setNum q v c').num r c = d.num r c :=
  congrArg BitVec.toNat (d.reg_setReg_chan _ h hr hq)
theorem Dev.num_bump_chan (hr : r.windowed = true) (hq : q.windowed = true) : (d.bump q c' n).num r c = d.num r c :=
  d.num_setNum_chan h hr hq
theorem Dev.num_setFld_chan (hr : r.windowed = true) (hq : y.reg.windowed = true) : (d.setFld y v c').num r c = d.num r c :=
  d.num_setNum_chan h hr hq
theorem Dev.fld_setNum_chan (hr : x.reg.windowed = true) (hq : q.windowed = true) : (d.setNum q v c').fld x c = d.fld x c := by
  rw [Dev.fld, d.num_setNum_chan h hr hq, Dev.fld]
theorem Dev.on_setNum_chan (hr : x.reg.windowed = true) (hq : q.windowed = true) : (d.setNum q v c').on x c = d.on x c := by
  rw [Dev.on, d.fld_setNum_chan h hr hq, Dev.on]
theorem Dev.fld_setFld_chan (hr : x.reg.windowed = true) (hq : y.reg.windowed = true) : (d.setFld y v c').fld x c = d.fld x c :=
  d.fld_setNum_chan h hr hq
theorem Dev.on_setFld_chan (hr : x.reg.windowed = true) (hq : y.reg.windowed = true) : (d.setFld y v c').on x c = d.on x c :=
  d.on_setNum_chan h hr hq

end Chan

/-! ### Walks -/

namespace Dev
variable {α β : Type} {f : Dev → Nat → Dev} {rd : Dev → α} {n i : Nat} {d : Dev}

theorem each_succ (d : Dev) (n : Nat) (f : Dev → Nat → Dev) : d.each (n + 1) f = f (d.each n f) n := by
  simp [Dev.each, List.range_succ]

/-- What no step of a walk moves. -/
theorem each_keeps (h : ∀ (e : Dev) (j : Nat), j < n → rd (f e j) = rd e) : rd (d.each n f) = rd d := by
  induction n with
  | zero => rfl
  | succ n ih =>
    rw [each_succ, h _ n (Nat.lt_succ_self n)]
    exact ih fun e j hj => h e j (Nat.lt_succ_of_lt hj)

/-- What only step `i` of a walk moves is as that step leaves it. -/
theorem each_at (hi : i < n) (h : ∀ (e : Dev) (j : Nat), i < j → j < n → rd (f e j) = rd e) :
    rd (d.each n f) = rd (f (d.each i f) i) := by
  induction n with
  | zero => omega
  | succ n ih =>
    rw [each_succ]
    rcases Nat.lt_succ_iff_lt_or_eq.mp hi with hlt | rfl
    · rw [h _ n hlt (Nat.lt_succ_self n)]
      exact ih hlt fun e j hj hn => h e j hj (Nat.lt_succ_of_lt hn)
    · rfl

/-- What no step of a walk over a list moves. -/
theorem foldl_keeps {g : Dev → β → Dev} {l : List β} (h : ∀ (e : Dev) (b : β), b ∈ l → rd (g e b) = rd e) : rd (l.foldl g d) = rd d := by
  induction l generalizing d with
  | nil => rfl
  | cons b l ih =>
    rw [List.foldl_cons, ih fun e b hb => h e b (List.mem_cons_of_mem _ hb)]
    exact h d b List.mem_cons_self

end Dev
end Sys2Proof.Machine
end

section
set_option Elab.async false
/-! Pace (R96 to R101, R105): how an island's level is decided, and what moves beside it. -/

namespace Sys2Proof.Machine
open Sys2Proof

namespace Dev
variable {d : Dev}

/-! ### Islands beside their registers -/

theorem isle_setIsle_same (i : Nat) (x : Isle) : (d.setIsle i x).isle i = x := SMap.get_set_same _ _ _ _
theorem isle_setIsle_ne {i j : Nat} (x : Isle) (h : i ≠ j) : (d.setIsle j x).isle i = d.isle i := SMap.get_set_ne _ _ _ _ h
theorem fld_setIsle (i c : Nat) (x : Isle) (y : Fld) : (d.setIsle i x).fld y c = d.fld y c := rfl
theorem num_setIsle (i c : Nat) (x : Isle) (r : Reg) : (d.setIsle i x).num r c = d.num r c := rfl
theorem reg_setIsle (i c : Nat) (x : Isle) (r : Reg) : (d.setIsle i x).reg r c = d.reg r c := rfl
theorem isle_setFld (i c v : Nat) (y : Fld) : (d.setFld y v c).isle i = d.isle i := rfl
theorem isle_congr {e : Dev} (h : e.isles = d.isles) (i : Nat) : e.isle i = d.isle i := by rw [Dev.isle, h, Dev.isle]

/-! ### A level decided again (R98) -/

/-- What PACE_STAT shows of an island's level, before a change starts or waits. -/
def levelShown (d : Dev) (i : Nat) : Dev :=
  let e := ((d.setFld ISLE.PACE_STAT_CAPPED (bit (d.level i).capped) i).setFld ISLE.PACE_STAT_FLOOR_HELD (bit (d.level i).held) i).setFld
    ISLE.PACE_STAT_TARGET (d.level i).code i
  if (d.level i).held && !d.on ISLE.PACE_STAT_FLOOR_HELD i then e.raise ISLE.int_FLOOR_RAISED else e

theorem repace_eq (i : Nat) : d.repace i =
    match ((d.levelShown i).isle i).change with
    | some (c, _) => (d.levelShown i).setIsle i { (d.levelShown i).isle i with held := if c = (d.level i).code then none else some ((d.level i).code, (d.level i).cause) }
    | none => if (d.level i).code = (d.levelShown i).fld ISLE.PACE_STAT_CURRENT i then d.levelShown i
        else (d.levelShown i).startChange i (d.level i).code (d.level i).cause := rfl

theorem moves_levelShown {i : Nat} : d.moves (d.levelShown i) [] [0x04] := by
  unfold levelShown
  exact d.still.setFld.setFld.setFld.iteSelf fun h => h.raise

/-- What holds after a level is decided again, of what a change that starts or waits does not touch. -/
theorem repace_rel {p : Dev → Prop} {i : Nat} (hs : p (d.levelShown i))
    (hset : ∀ (e : Dev) (x : Isle), x.target = (e.isle i).target → x.low = (e.isle i).low → p e → p (e.setIsle i x))
    (hch : ∀ (e : Dev) (v : Nat), p e → p (e.setFld ISLE.PACE_STAT_CHANGING v i)) : p (d.repace i) := by
  rw [repace_eq]
  split
  · exact hset _ _ rfl rfl hs
  · split
    · exact hs
    · exact hch _ _ (hset _ _ rfl rfl hs)

theorem repace_target (i : Nat) : (d.repace i).fld ISLE.PACE_STAT_TARGET i = (d.level i).code % 4 := by
  refine repace_rel (p := fun e => e.fld ISLE.PACE_STAT_TARGET i = (d.level i).code % 4) ?_ (fun e x _ _ h => h) fun e v h => ?_
  · unfold levelShown
    dsimp only
    split <;> simp (disch := decide) <;> rfl
  · rw [Dev.fld_setFld_beside _ _ _ _ _ rfl, h]

theorem repace_occ (i : Nat) : (d.repace i).fld ISLE.PACE_STAT_OCC i = d.fld ISLE.PACE_STAT_OCC i := by
  refine repace_rel (p := fun e => e.fld ISLE.PACE_STAT_OCC i = d.fld ISLE.PACE_STAT_OCC i) ?_ (fun e x _ _ h => h) fun e v h => ?_
  · unfold levelShown
    dsimp only
    split <;> simp (disch := decide)
  · rw [Dev.fld_setFld_beside _ _ _ _ _ rfl, h]

theorem repace_governor (i : Nat) :
    ((d.repace i).isle i).target = (d.isle i).target ∧ ((d.repace i).isle i).low = (d.isle i).low := by
  refine repace_rel (p := fun e => (e.isle i).target = (d.isle i).target ∧ (e.isle i).low = (d.isle i).low) ?_
    (fun e x ht hl h => ?_) fun e v h => h
  · rw [isle_congr moves_levelShown.keeps_isles]
    exact ⟨rfl, rfl⟩
  · rw [isle_setIsle_same, ht, hl]
    exact h

theorem repace_setIsle_governor (i : Nat) (x : Isle) :
    (((d.setIsle i x).repace i).isle i).target = x.target ∧ (((d.setIsle i x).repace i).isle i).low = x.low := by
  have h := repace_governor (d := d.setIsle i x) i
  rwa [isle_setIsle_same] at h

/-- Other registers of the island and registers of other islands. -/
theorem repace_fld_apart (x : Fld) (i c : Nat) (hx : x.reg.apart ISLE.PACE_STAT = true) (hp : x.reg.plain = true) :
    (d.repace i).fld x c = d.fld x c := by
  refine repace_rel (p := fun e => e.fld x c = d.fld x c) ?_ (fun e _ _ _ h => h) fun e v h => ?_
  · unfold levelShown
    dsimp only
    split
    · rw [Dev.fld_raise_plain _ _ _ _ hp, Dev.fld_setFld_apart _ _ _ _ _ _ hx, Dev.fld_setFld_apart _ _ _ _ _ _ hx,
        Dev.fld_setFld_apart _ _ _ _ _ _ hx]
    · rw [Dev.fld_setFld_apart _ _ _ _ _ _ hx, Dev.fld_setFld_apart _ _ _ _ _ _ hx, Dev.fld_setFld_apart _ _ _ _ _ _ hx]
  · rw [Dev.fld_setFld_apart _ _ _ _ _ _ hx, h]

theorem repace_fld_chan (x : Fld) {i c : Nat} (hx : x.reg.windowed = true) (hp : x.reg.plain = true) (h : c % 65536 ≠ i % 65536) :
    (d.repace i).fld x c = d.fld x c := by
  refine repace_rel (p := fun e => e.fld x c = d.fld x c) ?_ (fun e _ _ _ h => h) fun e v he => ?_
  · unfold levelShown
    dsimp only
    split
    · rw [Dev.fld_raise_plain _ _ _ _ hp, Dev.fld_setFld_chan _ h hx rfl, Dev.fld_setFld_chan _ h hx rfl, Dev.fld_setFld_chan _ h hx rfl]
    · rw [Dev.fld_setFld_chan _ h hx rfl, Dev.fld_setFld_chan _ h hx rfl, Dev.fld_setFld_chan _ h hx rfl]
  · rw [Dev.fld_setFld_chan _ h hx rfl, he]

/-! ### A governor window (R96) -/

theorem moves_window {i occ : Nat} : d.moves (d.window i occ) [.isles] [0x04] := by
  unfold Dev.window
  exact (d.still.setFld.setIsle.iteSelf fun h => h.setIsle.andThen moves_repace).ite d.still

theorem enabled_congr {e : Dev} {p : Nat} (h : e.reg (CTRL p) = d.reg (CTRL p)) : e.enabled p = d.enabled p := by
  rw [Dev.enabled, h, Dev.enabled]

/-- A window that ends shows its occupancy, and while the page is enabled the governor decides. -/
theorem window_reads {i occ : Nat} (hready : d.on TOP.BOOT_STATUS_READY = true) (hi : i < 34) (hover : d.windowOver i = true) :
    (d.window i occ).fld ISLE.PACE_STAT_OCC i = occ % 256 ∧
      (d.enabled 0x04 = true → ((d.window i occ).isle i).target = (d.govern i occ).1 ∧ ((d.window i occ).isle i).low = (d.govern i occ).2) := by
  unfold Dev.window
  rw [if_pos ⟨hready, hi, hover⟩]
  extract_lets x e
  have hocc : e.fld ISLE.PACE_STAT_OCC i = occ % 256 := (fld_setIsle _ _ _ _).trans (fld_setFld_eq _ _ _ _ rfl)
  have hisle : e.isle i = { d.isle i with winAt := d.clk.up } := isle_setIsle_same _ _
  have hgov : e.govern i occ = d.govern i occ := by
    simp only [Dev.govern, hisle]
    simp (disch := decide) [e]
  have hen : e.enabled 0x04 = d.enabled 0x04 := enabled_congr ((reg_setIsle _ _ _ _).trans (reg_setFld_apart _ _ _ _ _ _ rfl))
  split
  case isTrue h =>
    refine ⟨?_, fun _ => ?_⟩
    · rw [repace_occ]
      exact hocc
    · rw [(repace_setIsle_governor _ _).1, (repace_setIsle_governor _ _).2, hgov]
      exact ⟨rfl, rfl⟩
  case isFalse h => exact ⟨hocc, fun hd => absurd (hen.trans hd) h⟩

/-! ### The end of a change (R99, R101) -/

theorem moves_resetSettled : d.moves d.resetSettled [.resetting] [] := by
  unfold Dev.resetSettled
  exact d.still.ite d.still.set_resetting

theorem moves_changeDone {i : Nat} : d.moves (d.changeDone i) [.isles] [0x04] := by
  unfold Dev.changeDone
  split
  · exact d.still
  · extract_lets old x next d1 d2 d3
    have h3 : d.moves d3 [.isles] [0x04] := d.still.setIsle.setFld.setFld.bump.iteSelf fun h => h.log
    split
    · exact h3.ite (h3.andThen moves_startChange)
    · exact h3

/-- An island whose change to a level has ended, before what waited for it starts. -/
def changeEnded (d : Dev) (i lvl cause : Nat) : Dev :=
  let old := d.fld ISLE.PACE_STAT_CURRENT i
  let x := (d.isle i).settle old d.clk.up
  let next := match x.held with
    | some (l, _) => decide (l ≠ lvl)
    | none => false
  let d := ((d.setIsle i { x with change := none, held := none, soft := if next then x.soft - 1 else 0 }).setFld ISLE.PACE_STAT_CURRENT lvl i).setFld
    ISLE.PACE_STAT_CHANGING 0 i
  let d := d.bump ISLE.PACE_CHANGES i
  if d.on ISLE.LOG_CFG_LOG_PACE then d.log 32 0x0401 i old lvl cause else d

theorem settle_held (x : Isle) (l up : Nat) : (x.settle l up).held = x.held := by
  unfold Isle.settle
  split <;> rfl

theorem changeDone_eq {i lvl cause : Nat} (hc : (d.isle i).change = some (lvl, cause)) : d.changeDone i =
    match (d.isle i).held with
    | some (l, c) => if l = lvl then d.changeEnded i lvl cause else (d.changeEnded i lvl cause).startChange i l c
    | none => d.changeEnded i lvl cause := by
  rw [← settle_held (d.isle i) (d.fld ISLE.PACE_STAT_CURRENT i) d.clk.up]
  unfold changeDone
  rw [hc]
  rfl

/-- What the end of a change leaves: the level is current and counted, and what waited for it starts. -/
theorem changeDone_reads {i lvl cause : Nat} (hc : (d.isle i).change = some (lvl, cause)) :
    (d.changeDone i).fld ISLE.PACE_STAT_CURRENT i = lvl % 4 ∧
      (d.changeDone i).num ISLE.PACE_CHANGES i = (d.num ISLE.PACE_CHANGES i + 1) % 2 ^ 32 ∧
      ((d.isle i).held = none → ((d.changeDone i).isle i).change = none ∧ (d.changeDone i).on ISLE.PACE_STAT_CHANGING i = false) ∧
      (∀ l c : Nat, (d.isle i).held = some (l, c) → l ≠ lvl → ((d.changeDone i).isle i).change = some (l, c) ∧
        (d.changeDone i).on ISLE.PACE_STAT_CHANGING i = true) := by
  obtain ⟨hcur, hchanges, hchanging, hisle⟩ : (d.changeEnded i lvl cause).fld ISLE.PACE_STAT_CURRENT i = lvl % 4 ∧
      (d.changeEnded i lvl cause).num ISLE.PACE_CHANGES i = (d.num ISLE.PACE_CHANGES i + 1) % 2 ^ 32 ∧
      (d.changeEnded i lvl cause).on ISLE.PACE_STAT_CHANGING i = false ∧ ((d.changeEnded i lvl cause).isle i).change = none := by
    unfold changeEnded
    extract_lets old x next d1 d2
    have hcur : d2.fld ISLE.PACE_STAT_CURRENT i = lvl % 4 := by
      simp (disch := decide) [d2, d1]
      rfl
    have hchanges : d2.num ISLE.PACE_CHANGES i = (d.num ISLE.PACE_CHANGES i + 1) % 2 ^ 32 := by
      simp (disch := decide) [d2, d1, num_setIsle]
    have hchanging : d2.on ISLE.PACE_STAT_CHANGING i = false := by
      simp (disch := decide) [d2, d1]
    have hisle : (d2.isle i).change = none := congrArg Isle.change (isle_setIsle_same (d := d) i _)
    split
    · exact ⟨(d2.fld_log_plain _ _ _ _ _ _ _ _ rfl).trans hcur, (d2.num_log_plain _ _ _ _ _ _ _ _ rfl).trans hchanges,
        (d2.on_log_plain _ _ _ _ _ _ _ _ rfl).trans hchanging,
        (congrArg Isle.change (isle_congr (Dev.log_isles d2 _ _ _ _ _ _) i)).trans hisle⟩
    · exact ⟨hcur, hchanges, hchanging, hisle⟩
  rw [changeDone_eq hc]
  cases hh : (d.isle i).held with
  | none => exact ⟨hcur, hchanges, fun _ => ⟨hisle, hchanging⟩, nofun⟩
  | some q =>
    obtain ⟨l, c⟩ := q
    dsimp only
    split
    case isTrue hl => exact ⟨hcur, hchanges, nofun, fun l' c' h hne => by cases h; exact absurd hl hne⟩
    case isFalse hl =>
      refine ⟨?_, ?_, nofun, fun l' c' h _ => ?_⟩
      · rw [startChange, fld_setFld_beside _ _ _ _ _ rfl, fld_setIsle, hcur]
      · rw [startChange, num_setFld_apart _ _ _ _ _ _ rfl, num_setIsle, hchanges]
      · cases h
        rw [startChange, isle_setFld, isle_setIsle_same]
        exact ⟨rfl, on_setFld_eq _ _ _ _ rfl⟩

/-! ### PIN_ALL (R105) -/

theorem moves_pinAll {l : Nat} : d.moves (d.pinAll l) [.isles] [0x04] :=
  (d.still.each fun h => h.setFld.setFld).andThen moves_repaceAll

theorem moves_unpinAll : d.moves d.unpinAll [.isles] [0x04] := (d.still.each fun h => h.setFld).andThen moves_repaceAll

/-- The pace configuration is no matter of deciding levels. -/
theorem repaceAll_fld (x : Fld) (i : Nat) (hx : x.reg.apart ISLE.PACE_STAT = true) (hp : x.reg.plain = true) :
    d.repaceAll.fld x i = d.fld x i :=
  each_keeps (rd := fun e => e.fld x i) fun e j _ => repace_fld_apart x j i hx hp

theorem floor_congr {e : Dev} {i : Nat} (ht : e.on TNDM.LINK_STAT_ALIGNED = d.on TNDM.LINK_STAT_ALIGNED)
    (hm : ∀ p, e.fld PORT.PORT_CFG_MODE p = d.fld PORT.PORT_CFG_MODE p)
    (ha : ∀ p, e.on PORT.PORT_STAT_ALIGNED p = d.on PORT.PORT_STAT_ALIGNED p) : e.floor i = d.floor i := by
  have hmode : e.mode = d.mode := funext hm
  have hport : e.portOfLane = d.portOfLane := by
    funext l
    rw [Dev.portOfLane, hmode, Dev.portOfLane]
  simp only [Dev.floor, Dev.laneSum, hport, hmode, ht, ha] 
  rfl

/-- A pinned level that the floor, MIN_PACE and the cap leave alone. -/
theorem level_pinned {i : Nat} (hr : d.on TOP.BOOT_STATUS_READY = true) (hp : d.on ISLE.PACE_CFG_PIN_EN i = true)
    (hcap : d.sup.cap = false) (hfl : d.fld ISLE.PACE_CFG_PIN_LEVEL i ≤ d.floor i)
    (hmin : d.fld ISLE.PACE_CFG_PIN_LEVEL i ≤ d.fld ISLE.PACE_CFG_MIN_PACE i) :
    (d.level i).code = d.fld ISLE.PACE_CFG_PIN_LEVEL i := by
  simp [Dev.level, hr, hp, hcap, Nat.not_lt.mpr hfl, Nat.not_lt.mpr hmin]

/-- Every island pinned, before the levels are decided again. -/
def pinned (d : Dev) (l : Nat) : Dev :=
  d.each 34 fun d i => (d.setFld ISLE.PACE_CFG_PIN_EN 1 i).setFld ISLE.PACE_CFG_PIN_LEVEL l i

theorem ne_chan {i j : Nat} (hij : i < j) (hj : j < 34) : i % 65536 ≠ j % 65536 := by omega

theorem moves_pinned {l : Nat} : d.moves (d.pinned l) [] [0x04] := d.still.each fun h => h.setFld.setFld

theorem pinned_cfg {l i : Nat} (hi : i < 34) : (d.pinned l).on ISLE.PACE_CFG_PIN_EN i = true ∧
    (d.pinned l).fld ISLE.PACE_CFG_PIN_LEVEL i = l % 4 ∧
    (d.pinned l).fld ISLE.PACE_CFG_MIN_PACE i = d.fld ISLE.PACE_CFG_MIN_PACE i := by
  refine ⟨?_, ?_, ?_⟩
  · refine (each_at (rd := fun e => e.on ISLE.PACE_CFG_PIN_EN i) hi fun e j hij hj => ?_).trans ?_
    · rw [on_setFld_chan _ (ne_chan hij hj) rfl rfl, on_setFld_chan _ (ne_chan hij hj) rfl rfl]
    · rw [on_setFld_beside _ _ _ _ _ rfl, on_setFld_eq _ _ _ _ rfl]
      rfl
  · refine (each_at (rd := fun e => e.fld ISLE.PACE_CFG_PIN_LEVEL i) hi fun e j hij hj => ?_).trans ?_
    · rw [fld_setFld_chan _ (ne_chan hij hj) rfl rfl, fld_setFld_chan _ (ne_chan hij hj) rfl rfl]
    · exact fld_setFld_eq _ _ _ _ rfl
  · refine each_keeps (rd := fun e => e.fld ISLE.PACE_CFG_MIN_PACE i) fun e j hj => ?_
    by_cases hij : i % 65536 = j % 65536
    · obtain rfl : i = j := by omega
      rw [fld_setFld_beside _ _ _ _ _ rfl, fld_setFld_beside _ _ _ _ _ rfl]
    · rw [fld_setFld_chan _ hij rfl rfl, fld_setFld_chan _ hij rfl rfl]

/-- An island's target is its level decided when its turn comes. -/
theorem repaceAll_target {i : Nat} (hi : i < 34) :
    d.repaceAll.fld ISLE.PACE_STAT_TARGET i = ((d.each i repace).level i).code % 4 :=
  (each_at (rd := fun e => e.fld ISLE.PACE_STAT_TARGET i) hi fun _ _ hij hj => repace_fld_chan _ rfl rfl (ne_chan hij hj)).trans
    (repace_target i)

theorem pinAll_target {l i : Nat} (hi : i < 34) (hr : d.on TOP.BOOT_STATUS_READY = true) (hcap : d.sup.cap = false)
    (hfl : l % 4 ≤ d.floor i) (hmin : l % 4 ≤ d.fld ISLE.PACE_CFG_MIN_PACE i) :
    (d.pinAll l).fld ISLE.PACE_STAT_TARGET i = l % 4 := by
  obtain ⟨hen, hlevel, hleast⟩ := pinned_cfg (d := d) (l := l) hi
  have hm : d.moves ((d.pinned l).each i repace) [.isles] [0x04] :=
    (d.still.andThen moves_pinned).each fun h => h.andThen moves_repace
  have hkeep (x : Fld) (hx : x.reg.apart ISLE.PACE_STAT = true) (hp : x.reg.plain = true) :
      ((d.pinned l).each i repace).fld x i = (d.pinned l).fld x i :=
    each_keeps (rd := fun e => e.fld x i) fun e j _ => repace_fld_apart x j i hx hp
  have hfloor : ((d.pinned l).each i repace).floor i = d.floor i :=
    floor_congr (hm.on _ 0 rfl rfl) (fun p => hm.fld _ p rfl rfl) fun p => hm.on _ p rfl rfl
  have hlv := hkeep ISLE.PACE_CFG_PIN_LEVEL rfl rfl
  refine (repaceAll_target (d := d.pinned l) hi).trans ?_
  rw [level_pinned (i := i) ((hm.on _ 0 rfl rfl).trans hr) ?_ ((congrArg _ hm.keeps_sup).trans hcap), hlv, hlevel]
  · omega
  · rw [hlv, hlevel, hfloor]
    exact hfl
  · rw [hlv, hlevel, hkeep _ rfl rfl, hleast]
    exact hmin
  · rw [Dev.on, hkeep _ rfl rfl]
    exact hen

theorem pinAll_cfg {l i : Nat} (hi : i < 34) : (d.pinAll l).on ISLE.PACE_CFG_PIN_EN i = true ∧
    (d.pinAll l).fld ISLE.PACE_CFG_PIN_LEVEL i = l % 4 := by
  obtain ⟨hen, hlevel, -⟩ := pinned_cfg (d := d) (l := l) hi
  refine ⟨?_, (repaceAll_fld _ i rfl rfl).trans hlevel⟩
  rw [Dev.on, show (d.pinAll l).fld _ i = _ from repaceAll_fld ISLE.PACE_CFG_PIN_EN i rfl rfl]
  exact hen

theorem unpinAll_cfg {i : Nat} (hi : i < 34) : d.unpinAll.on ISLE.PACE_CFG_PIN_EN i = false ∧
    d.unpinAll.fld ISLE.PACE_CFG_PIN_LEVEL i = d.fld ISLE.PACE_CFG_PIN_LEVEL i := by
  refine ⟨?_, (repaceAll_fld _ i rfl rfl).trans ?_⟩
  · rw [Dev.on, show d.unpinAll.fld _ i = _ from repaceAll_fld ISLE.PACE_CFG_PIN_EN i rfl rfl]
    refine (each_at (rd := fun e => e.on ISLE.PACE_CFG_PIN_EN i) hi fun e j hij hj => ?_).trans ?_
    · exact on_setFld_chan _ (ne_chan hij hj) rfl rfl
    · exact on_setFld_eq _ _ _ _ rfl
  · refine each_keeps (rd := fun e => e.fld ISLE.PACE_CFG_PIN_LEVEL i) fun e j hj => ?_
    by_cases hij : i % 65536 = j % 65536
    · obtain rfl : i = j := by omega
      exact fld_setFld_beside _ _ _ _ _ rfl
    · exact fld_setFld_chan _ hij rfl rfl

end Dev
end Sys2Proof.Machine

open Sys2Proof Sys2Proof.Machine

/-- Settles O20. -/
theorem paceFollowsItsOrder : Obligations.PaceFollowsItsOrder := by
  unfold Obligations.PaceFollowsItsOrder
  refine ⟨fun s i occ hon hr hi hw => ?window, fun s i occ hon h => ?early, fun s i lvl cause hon hc => ?done, fun s level ho => ?pin,
    fun s ho => ?unpin⟩
  case window =>
    obtain ⟨hocc, hgov⟩ := Dev.window_reads (occ := min occ 255) hr hi (decide_eq_true hw)
    refine gives_run rfl hon ?_
    rw [Dev.moves_window.under_eq]
    refine ⟨?_, fun hen hj => ?_, fun hen hu hj => ?_, fun hen hu hj hd hdw => ?_, Dev.moves_window⟩
    · rw [hocc]
      omega
    · obtain ⟨ht, hl⟩ := hgov hen
      rw [ht, hl]
      simp [Dev.govern, hj]
    · obtain ⟨ht, -⟩ := hgov hen
      rw [ht]
      simp [Dev.govern, hu, Nat.not_le.mpr hj]
    · obtain ⟨ht, hl⟩ := hgov hen
      rw [ht, hl]
      simp [Dev.govern, Nat.not_le.mpr hu, Nat.not_le.mpr hj, hd, hdw]
  case early =>
    refine idle_runSelf rfl ?_
    have hnot : ¬ (s.dev.on TOP.BOOT_STATUS_READY = true ∧ i < 34 ∧ s.dev.windowOver i = true) := by
      rintro ⟨hr, hi, hw⟩
      simp only [Dev.windowOver, decide_eq_true_eq] at hw
      rcases h with h | h | h
      · simp [h] at hr
      · omega
      · omega
    rw [Dev.window, if_neg hnot]
  case done =>
    obtain ⟨hcur, hchanges, hnone, hsome⟩ := Dev.changeDone_reads hc
    have hm : s.dev.moves (s.dev.changeDone i).resetSettled [.isles, .resetting] [0x04] :=
      (s.dev.still.andThen Dev.moves_changeDone).andThen Dev.moves_resetSettled
    have hs : (s.dev.changeDone i).moves (s.dev.changeDone i).resetSettled [.resetting] [] := Dev.moves_resetSettled
    refine gives_run rfl hon ?_
    rw [hm.under_eq, hs.fld _ i rfl rfl, hs.num _ i rfl rfl, hs.on _ i rfl rfl, Dev.isle_congr hs.keeps_isles]
    exact ⟨hcur, hchanges, hnone, hsome, hm⟩
  case pin =>
    refine gives_access rfl ho ?_
    rw [Dev.moves_pinAll.under_eq]
    refine ⟨fun i hi => ?_, fun i hi hr hcap hfl hmin => ?_, Dev.moves_pinAll⟩
    · simpa using Dev.pinAll_cfg (d := s.dev) (l := level % 4) hi
    · simpa using Dev.pinAll_target (l := level % 4) hi hr hcap (by omega) (by omega)
  case unpin =>
    refine gives_access rfl ho ?_
    rw [Dev.moves_unpinAll.under_eq]
    exact ⟨fun i hi => Dev.unpinAll_cfg hi, Dev.moves_unpinAll⟩
end

section
set_option Elab.async false
/-! The servo and its inputs (R108, R119 to R122, R129). -/

namespace Sys2Proof.Machine
open Sys2Proof

/-! ### Parts kept beside registers -/

namespace Dev.moves
variable {d e : Dev} {P : List Part} {G : List Nat}

/-- A move that reports nothing and gives nothing out. -/
theorem keepsRegs (h : d.moves e P G) (hq : e.evq = d.evq := by rfl) (hobs : e.obs = d.obs := by rfl) (hout : e.out = d.out := by rfl) :
    d.keeps e (.regs :: P) := by
  intro p hp
  cases p
  case evq => exact hq
  case obs => exact hobs
  case out => exact hout
  all_goals exact h.1 _ (by simpa only [List.mem_cons, List.not_mem_nil, reduceCtorEq, false_or, or_false] using hp)

/-- A move that reports nothing. -/
theorem keepsOut (h : d.moves e P G) (hq : e.evq = d.evq := by rfl) (hobs : e.obs = d.obs := by rfl) :
    d.keeps e (.regs :: .out :: P) := by
  intro p hp
  cases p
  case evq => exact hq
  case obs => exact hobs
  all_goals exact h.1 _ (by simpa only [List.mem_cons, List.not_mem_nil, reduceCtorEq, false_or, or_false] using hp)

end Dev.moves

namespace Dev.keeps
variable {d d0 : Dev} {P : List Part}

theorem set_time {x} (h : d0.keeps d P) (hp : P.contains .time = true := by rfl) : d0.keeps { d with time := x } P :=
  h.trans fun p hn => by cases p <;> first | rfl | exact absurd (by simpa using hp) hn

end Dev.keeps

namespace Dev
variable {d : Dev}

/-! ### The time's state beside registers -/

/-- The state of the time's part, set whole. -/
def setTime (d : Dev) (t : TimeSt) : Dev := { d with time := t }

section SetTime
variable (t : TimeSt) (x : Fld) (r : Reg) (b : IntBit) (c p : Nat)
@[simp] theorem time_setTime : (d.setTime t).time = t := rfl
@[simp] theorem clk_setTime : (d.setTime t).clk = d.clk := rfl
@[simp] theorem reg_setTime : (d.setTime t).reg r c = d.reg r c := rfl
@[simp] theorem num_setTime : (d.setTime t).num r c = d.num r c := rfl
@[simp] theorem fld_setTime : (d.setTime t).fld x c = d.fld x c := rfl
@[simp] theorem on_setTime : (d.setTime t).on x c = d.on x c := rfl
@[simp] theorem raised_setTime : (d.setTime t).raised b = d.raised b := rfl
end SetTime

end Dev

theorem Dev.moves.setTime {d d0 : Dev} {P : List Part} {G : List Nat} {t : TimeSt} (h : d0.moves d P G)
    (hp : P.contains .time = true := by rfl) : d0.moves (d.setTime t) P G := h.set_time hp

namespace Dev
variable {d : Dev}

theorem num2_setNum2 {lo hi : Reg} {v : Nat} (c : Nat) (h : lo.apart hi = true) (hv : v < 2 ^ 64) :
    (d.setNum2 lo hi v c).num2 lo hi c = v := by
  unfold Dev.num2 Dev.setNum2
  rw [num_setNum_apart _ _ _ _ _ _ h, num_setNum_same, num_setNum_same]
  omega

theorem pendStep_eq (st : Step) : d.pendStep st = d.setTime { d.time with pending := some st } := rfl
@[simp] theorem time_pendStep (st : Step) : (d.pendStep st).time = { d.time with pending := some st } := rfl

/-! ### The reference (R108) -/

/-- The reference that is lost, before the synthesiser follows. -/
theorem refLost_eq (h : d.time.refEver = true) : d.refLost =
    if d.time.refUsed = true then
      (((d.setTime { d.time with refGood := false, refUsed := false }).setFld TIME.SYNC_STAT_REF10M_OK 0).raise TIME.int_REF10M_LOST).setFld
        TIME.SYNC_STAT_HOLDOVER_REF 1
    else ((d.setTime { d.time with refGood := false, refUsed := false }).setFld TIME.SYNC_STAT_REF10M_OK 0).raise TIME.int_REF10M_LOST := by
  unfold refLost
  rw [if_pos h]
  rfl

theorem refLost_reads (h : d.time.refEver = true) : d.refLost.time.refGood = false ∧ d.refLost.on TIME.SYNC_STAT_REF10M_OK = false ∧
    d.refLost.raised TIME.int_REF10M_LOST = true ∧ (d.time.refUsed = true → d.refLost.on TIME.SYNC_STAT_HOLDOVER_REF = true) ∧
    d.moves d.refLost [.time] [0x05] := by
  rw [refLost_eq h]
  refine ⟨?_, ?_, ?_, fun hu => ?_, ?_⟩
  · split <;> simp
  · split <;> simp (disch := decide)
  · split <;> simp (disch := decide)
  · rw [if_pos hu]
    simp (disch := decide)
  · exact d.still.setTime.setFld.raise.iteSelf fun h => h.setFld

/-- The reference that has returned, before the synthesiser chooses. -/
theorem refReturned_reads {e : Dev} (he : e = (d.setTime { d.time with refGood := true, refEver := true }).setFld TIME.SYNC_STAT_REF10M_OK 1) :
    e.refChoose.time.refGood = true ∧ e.refChoose.time.refEver = true ∧ e.refChoose.on TIME.SYNC_STAT_REF10M_OK = true ∧
      e.refChoose.time.refUsed = d.on TIME.SERVO_CFG_REF10M_EN ∧ e.refChoose.on TIME.SYNC_STAT_HOLDOVER_REF = false ∧
      d.moves e.refChoose [.time] [0x05] := by
  have hgood : e.time.refGood = true := by simp [he]
  have hever : e.time.refEver = true := by simp [he]
  have hok : e.on TIME.SYNC_STAT_REF10M_OK = true := by
    rw [he, on_setFld_eq _ _ _ _ rfl]
    rfl
  have hen : e.on TIME.SERVO_CFG_REF10M_EN = d.on TIME.SERVO_CFG_REF10M_EN := by
    rw [he, on_setFld_apart _ _ _ _ _ _ rfl, on_setTime]
  have hm : d.moves e [.time] [0x05] := by
    rw [he]
    exact d.still.setTime.setFld
  have hrefs (b : Bool) : e.refChoose = (e.setTime { e.time with refUsed := b }).setFld TIME.SYNC_STAT_HOLDOVER_REF 0 →
      e.refChoose.time.refGood = true ∧ e.refChoose.time.refEver = true ∧ e.refChoose.on TIME.SYNC_STAT_REF10M_OK = true ∧
        e.refChoose.time.refUsed = b ∧ e.refChoose.on TIME.SYNC_STAT_HOLDOVER_REF = false ∧ d.moves e.refChoose [.time] [0x05] := by
    intro h
    rw [h, on_setFld_beside _ _ _ _ _ rfl, on_setFld_eq _ _ _ _ rfl, on_setTime]
    exact ⟨hgood, hever, hok, rfl, rfl, hm.setTime.setFld⟩
  cases hb : d.on TIME.SERVO_CFG_REF10M_EN
  · refine hrefs false ?_
    rw [refChoose, if_neg (by simp [hen, hb])]
    rfl
  · refine hrefs true ?_
    rw [refChoose, if_pos (hen.trans hb), if_pos hgood]
    rfl

/-! ### The servo (R119 to R122) -/

theorem setServo_eq (i y : Int) : d.setServo i y = (((d.setTime { d.time with i := i, y := y }).setNum TIME.INTEGRAL (toBits 32 (i / 10))).setNum
    TIME.FREQ_NOW (toBits 32 (y / 10))).setNum TIME.INC_EFF
      ((2 * (((d.setTime { d.time with i := i, y := y }).setNum TIME.INTEGRAL (toBits 32 (i / 10))).setNum
    TIME.FREQ_NOW (toBits 32 (y / 10))).incExact + yUnit) / (2 * yUnit)) := rfl

section Servo
variable (i y th : Int) (n : Nat)

theorem moves_setServo : d.moves (d.setServo i y) [.time] [0x05] := by
  rw [setServo_eq]
  exact d.still.setTime.setNum.setNum.setNum

@[simp] theorem time_setServo : (d.setServo i y).time = { d.time with i := i, y := y } := rfl

/-- The registers in which the servo shows its integral, its frequency and the increment. -/
def showsServo (r : Reg) : Bool := !(r.apart TIME.INTEGRAL && r.apart TIME.FREQ_NOW && r.apart TIME.INC_EFF)

theorem reg_setServo (r : Reg) (c : Nat) (h : showsServo r = false) : (d.setServo i y).reg r c = d.reg r c := by
  simp only [showsServo, Bool.not_eq_false', Bool.and_eq_true] at h
  obtain ⟨⟨hi, hf⟩, he⟩ := h
  rw [setServo_eq, reg_setNum_apart _ _ _ _ _ _ he, reg_setNum_apart _ _ _ _ _ _ hf, reg_setNum_apart _ _ _ _ _ _ hi, reg_setTime]

theorem fld_congr {e : Dev} {x : Fld} {c : Nat} (h : e.reg x.reg c = d.reg x.reg c) : e.fld x c = d.fld x c := by
  rw [Dev.fld, Dev.num, h, Dev.fld, Dev.num]
theorem on_congr {e : Dev} {x : Fld} {c : Nat} (h : e.reg x.reg c = d.reg x.reg c) : e.on x c = d.on x c := by
  rw [Dev.on, fld_congr h, Dev.on]

/-- A servo's state that changes, beside the register that shows it. -/
theorem setSync_reports (h : d.fld TIME.SYNC_STAT_STATE ≠ n) : (d.setFld TIME.SYNC_STAT_STATE n).moves (d.setSync n) [] [] := by
  unfold setSync
  rw [if_neg h]
  exact ((((d.setFld TIME.SYNC_STAT_STATE n).still.log.iteSelf fun h => h.raise).iteSelf fun h => h.raise).iteSelf fun h => h.raise)

theorem moves_setSync : d.moves (d.setSync n) [] [0x05] := by
  by_cases h : d.fld TIME.SYNC_STAT_STATE = n
  · unfold setSync
    rw [if_pos h]
    exact d.still
  · exact d.still.setFld.andThen (setSync_reports n h)

theorem setSync_state (h : n < 4) : (d.setSync n).fld TIME.SYNC_STAT_STATE = n := by
  by_cases hn : d.fld TIME.SYNC_STAT_STATE = n
  · unfold setSync
    rw [if_pos hn, hn]
  · rw [(setSync_reports n hn).fld _ 0 rfl rfl, fld_setFld_eq _ _ _ _ rfl]
    exact Nat.mod_eq_of_lt h

@[simp] theorem time_setSync : (d.setSync n).time = d.time := (moves_setSync n).keeps_time
@[simp] theorem clk_setSync : (d.setSync n).clk = d.clk := (moves_setSync n).keeps_clk

theorem reg_setSync (r : Reg) (c : Nat) (h : r.apart TIME.SYNC_STAT = true) (hp : r.plain = true) : (d.setSync n).reg r c = d.reg r c := by
  by_cases hn : d.fld TIME.SYNC_STAT_STATE = n
  · unfold setSync
    rw [if_pos hn]
  · exact ((setSync_reports n hn).reg r c hp rfl).trans (reg_setFld_apart _ _ _ _ _ _ h)

theorem raised_setSync_locked (h : d.fld TIME.SYNC_STAT_STATE ≠ 2) : (d.setSync 2).raised TIME.int_LOCKED = true := by
  unfold setSync
  rw [if_neg h]
  dsimp only
  rw [if_neg (by decide), if_neg h, if_pos rfl]
  exact raised_raise_eq _ _ rfl

theorem raised_setSync_holdover (h : d.fld TIME.SYNC_STAT_STATE ≠ 3) : (d.setSync 3).raised TIME.int_HOLDOVER = true := by
  unfold setSync
  rw [if_neg h]
  dsimp only
  rw [if_pos rfl]
  exact raised_raise_eq _ _ rfl

/-- An update of the loop moves what a servo's step and an interrupt move. -/
theorem servoUpdate_rel {p : Dev → Prop} (h : p d) (hset : ∀ e i y, p e → p (Dev.setServo e i y)) (hpend : ∀ e st, p e → p (Dev.pendStep e st))
    (hraise : ∀ e b, p e → p (Dev.raise e b)) : p (d.servoUpdate th) := by
  unfold servoUpdate servoStep
  extract_lets big lim i0 i1 y0 y1
  split
  · split
    · exact hset _ _ _ h
    · exact hpend _ _ (hset _ _ _ h)
  · split
    · exact hpend _ _ (hset _ _ _ h)
    · have hbig : p (if big = true then d.raise TIME.int_OFFSET_LARGE else d) := by
        split
        · exact hraise _ _ h
        · exact h
      split
      · exact hraise _ _ (hset _ _ _ hbig)
      · exact hset _ _ _ hbig

theorem moves_servoUpdate : d.moves (d.servoUpdate th) [.time] [0x05] :=
  servoUpdate_rel th (p := fun e => d.moves e [.time] [0x05]) d.still (fun _ _ _ h => h.andThen (moves_setServo _ _))
    (fun _ _ h => h.set_time) fun _ _ h => h.raise

theorem reg_servoUpdate (r : Reg) (c : Nat) (h : showsServo r = false) (hp : r.plain = true) : (d.servoUpdate th).reg r c = d.reg r c :=
  servoUpdate_rel th (p := fun e => e.reg r c = d.reg r c) rfl (fun _ _ _ he => (reg_setServo _ _ r c h).trans he)
    (fun _ _ he => he) fun _ _ he => (reg_raise_plain _ _ _ _ hp).trans he

theorem within_servoUpdate : (d.servoUpdate th).time.within = d.time.within :=
  servoUpdate_rel th (p := fun e => e.time.within = d.time.within) rfl (fun e i y he => by rw [time_setServo, he])
    (fun e st he => by rw [time_pendStep, he]) fun e b he => by rw [raise_time, he]

/-! ### Samples (R120, R121) -/

/-- A sample's offset shown, and holdover ended by it. -/
def sampleSeen (d : Dev) (th : Int) : Dev :=
  let d := d.setNum TIME.OFFSET_LAST (toBits 32 (clampInt (-(2 ^ 31)) (2 ^ 31 - 1) (th / 10)))
  if d.fld TIME.SYNC_STAT_STATE = 3 then (d.setTime { d.time with within := 0 }).setSync 1 else d

/-- How many samples in a row were within the threshold. -/
def sampleCount (d : Dev) (th : Int) : Nat := if th.natAbs ≤ d.fld TIME.LOCK_CFG_LOCK_TH * 10 then d.time.within + 1 else 0

/-- A sample that has updated the loop. -/
def sampleDone (d : Dev) (th : Int) : Dev :=
  let d := (d.sampleSeen th).servoUpdate th
  d.setTime { d.time with within := d.sampleCount th, lastValid := d.clk.up }

theorem sample_eq (hc : (d.on TIME.SERVO_CFG_SERVO_EN && d.enabled 0x05 && !d.asleep) = true) (hb : d.servoBelow th = false) :
    d.sample th = if (d.sampleDone th).fld TIME.SYNC_STAT_STATE = 1 ∧
        (d.sampleDone th).fld TIME.LOCK_CFG_LOCK_COUNT ≤ ((d.sampleSeen th).servoUpdate th).sampleCount th then (d.sampleDone th).setSync 2
      else d.sampleDone th := by
  unfold sample
  rw [if_pos hc, if_neg (by simp [hb])]
  rfl

theorem moves_sampleSeen : d.moves (d.sampleSeen th) [.time] [0x05] := by
  unfold sampleSeen
  exact d.still.setNum.iteSelf fun h => h.setTime.andThen (moves_setSync 1)

theorem moves_sampleDone : d.moves (d.sampleDone th) [.time] [0x05] := by
  unfold sampleDone
  exact ((moves_sampleSeen th).andThen (moves_servoUpdate th)).setTime

theorem reg_sampleSeen (r : Reg) (c : Nat) (h : r.apart TIME.SYNC_STAT = true) (ho : r.apart TIME.OFFSET_LAST = true) (hp : r.plain = true) :
    (d.sampleSeen th).reg r c = d.reg r c := by
  unfold sampleSeen
  dsimp only
  split
  · rw [reg_setSync 1 r c h hp, reg_setTime, reg_setNum_apart _ _ _ _ _ _ ho]
  · rw [reg_setNum_apart _ _ _ _ _ _ ho]

theorem offset_sampleSeen (w : Word) : (d.sampleSeen (w.toInt * 10)).reg TIME.OFFSET_LAST = w := by
  have hset : (d.setNum TIME.OFFSET_LAST (toBits 32 (clampInt (-(2 ^ 31)) (2 ^ 31 - 1) (w.toInt * 10 / 10)))).reg TIME.OFFSET_LAST = w := by
    rw [Int.mul_ediv_cancel _ (by decide : (10 : Int) ≠ 0), show clampInt (-(2 ^ 31)) (2 ^ 31 - 1) w.toInt = w.toInt from ?_]
    · rw [setNum, reg_setReg_same, toBits, BitVec.toInt_eq_toNat_bmod]
      refine BitVec.eq_of_toNat_eq ?_
      have := w.isLt
      rw [BitVec.toNat_ofNat, Int.bmod_emod, Int.emod_eq_of_lt (by omega) (by omega)]
      simpa using this
    · have hlo := BitVec.le_toInt w
      have hhi := BitVec.toInt_lt (x := w)
      unfold clampInt
      rw [if_neg (by omega), if_neg (by omega)]
  unfold sampleSeen
  dsimp only
  split
  · rw [reg_setSync 1 _ 0 rfl rfl, reg_setTime, hset]
  · exact hset

/-- A sample of the servo that is on: it is shown, and counts as valid now. -/
theorem sample_reads (w : Word) (hc : (d.on TIME.SERVO_CFG_SERVO_EN && d.enabled 0x05 && !d.asleep) = true)
    (hb : d.servoBelow (w.toInt * 10) = false) : (d.sample (w.toInt * 10)).reg TIME.OFFSET_LAST = w ∧
      (d.sample (w.toInt * 10)).time.lastValid = d.clk.up ∧ d.moves (d.sample (w.toInt * 10)) [.time] [0x05] := by
  have hoff : (d.sampleDone (w.toInt * 10)).reg TIME.OFFSET_LAST = w := by
    unfold sampleDone
    rw [reg_setTime, reg_servoUpdate _ _ _ rfl rfl, offset_sampleSeen]
  have hvalid : (d.sampleDone (w.toInt * 10)).time.lastValid = d.clk.up := by
    unfold sampleDone
    dsimp only
    rw [time_setTime, (moves_servoUpdate _).keeps_clk, (moves_sampleSeen _).keeps_clk]
  rw [sample_eq _ hc hb]
  split
  · rw [reg_setSync _ _ _ rfl rfl, time_setSync]
    exact ⟨hoff, hvalid, (moves_sampleDone _).andThen (moves_setSync 2)⟩
  · exact ⟨hoff, hvalid, moves_sampleDone _⟩

/-- Enough samples in a row within the threshold lock a servo that acquires. -/
theorem sample_locks (hc : (d.on TIME.SERVO_CFG_SERVO_EN && d.enabled 0x05 && !d.asleep) = true) (hb : d.servoBelow th = false)
    (hs : d.fld TIME.SYNC_STAT_STATE = 1) (hth : th.natAbs ≤ d.fld TIME.LOCK_CFG_LOCK_TH * 10)
    (hn : d.fld TIME.LOCK_CFG_LOCK_COUNT ≤ d.time.within + 1) :
    (d.sample th).fld TIME.SYNC_STAT_STATE = 2 ∧ (d.sample th).raised TIME.int_LOCKED = true := by
  have hseen : d.sampleSeen th = d.setNum TIME.OFFSET_LAST (toBits 32 (clampInt (-(2 ^ 31)) (2 ^ 31 - 1) (th / 10))) := by
    unfold sampleSeen
    dsimp only
    rw [if_neg]
    rw [fld_setNum_apart _ _ _ _ _ _ rfl, hs]
    decide
  have hupd (r : Reg) (h : showsServo r = false) (ho : r.apart TIME.OFFSET_LAST = true) (hp : r.plain = true) :
      ((d.sampleSeen th).servoUpdate th).reg r 0 = d.reg r 0 := by
    rw [reg_servoUpdate _ _ _ h hp, hseen, reg_setNum_apart _ _ _ _ _ _ ho]
  have hcount : ((d.sampleSeen th).servoUpdate th).sampleCount th = d.time.within + 1 := by
    unfold sampleCount
    rw [fld_congr (hupd TIME.LOCK_CFG rfl rfl rfl), if_pos hth, within_servoUpdate, hseen]
    rfl
  have hstate : (d.sampleDone th).fld TIME.SYNC_STAT_STATE = 1 := by
    unfold sampleDone
    rw [fld_setTime, fld_congr (hupd TIME.SYNC_STAT rfl rfl rfl), hs]
  have hneed : (d.sampleDone th).fld TIME.LOCK_CFG_LOCK_COUNT = d.fld TIME.LOCK_CFG_LOCK_COUNT := by
    unfold sampleDone
    rw [fld_setTime, fld_congr (hupd TIME.LOCK_CFG rfl rfl rfl)]
  rw [sample_eq _ hc hb, if_pos ⟨hstate, by omega⟩]
  exact ⟨setSync_state 2 (by decide), raised_setSync_locked (by omega)⟩

theorem traceable_setSync : (d.setSync n).on TIME.SYNC_STAT_TRACEABLE = d.on TIME.SYNC_STAT_TRACEABLE := by
  by_cases hn : d.fld TIME.SYNC_STAT_STATE = n
  · unfold setSync
    rw [if_pos hn]
  · rw [(setSync_reports n hn).on _ 0 rfl rfl, on_setFld_beside _ _ _ _ _ rfl]

end Servo

theorem servoEnable_on (h : d.on TIME.SERVO_CFG_SERVO_EN = false) : d.servoEnable true =
    (((d.setFld TIME.SERVO_CFG_SERVO_EN 1).setTime { d.time with stepped := false, within := 0, lastValid := d.clk.up }).setServo 0 0).setSync 1 := by
  unfold servoEnable
  rw [if_pos rfl, if_neg (by simp [h])]
  rfl

theorem servoEnable_off (h : d.on TIME.SERVO_CFG_SERVO_EN = true) : d.servoEnable false =
    ((((d.setFld TIME.SERVO_CFG_SERVO_EN 0).setFld TIME.SYNC_STAT_TRACEABLE 0).setTime
      { d.time with stepped := false, within := 0 }).setServo 0 0).setSync 0 := by
  unfold servoEnable
  rw [if_neg (by simp), if_pos h]
  rfl

theorem stamp_congr {e : Dev} {i : Nat} (hc : e.clk = d.clk) (hd : e.time.dev = d.time.dev) (ha : e.time.devAt = d.time.devAt)
    (hl : e.time.low = d.time.low) (hh : e.time.halted = d.time.halted) : e.stamp i = d.stamp i := by
  simp only [Dev.stamp, Dev.islandNs, Dev.islandTenths, Dev.devNow, Dev.masterTenths, Dev.nowNs, hc, hd, ha, hl, hh]

/-- An edge of PPS_IN that is accepted, with the software's offsets selected. -/
theorem ppsEdge_eq (ha : d.asleep = false) (hp : ∀ t, d.time.lastPps = some t → 9000000000 ≤ d.clk.up - t)
    (hs : d.on TIME.SERVO_CFG_SRC = false) : d.ppsEdge =
    ((d.setTime { d.time with lastPps := some d.clk.up }).setFld TIME.SYNC_STAT_PPS_OK 1).setNum2 TIME.PPS_IN_STAMP_LO
      TIME.PPS_IN_STAMP_HI (d.stamp 31).toNat := by
  unfold ppsEdge
  rw [if_neg (by simp [ha]), if_neg]
  · dsimp only
    rw [if_neg]
    · rw [stamp_congr (d := d) rfl rfl rfl rfl rfl]
      rfl
    · rw [setNum2, on_setNum_apart _ _ _ _ _ _ rfl, on_setNum_apart _ _ _ _ _ _ rfl, on_setFld_apart _ _ _ _ _ _ rfl]
      change ¬ d.on TIME.SERVO_CFG_SRC = true
      simp [hs]
  · cases hl : d.time.lastPps with
    | none => simp
    | some t => simpa using hp t hl

/-! ### Transmit stamps (R129) -/

theorem readTxts_eq {path port tag : Nat} {st : BitVec 64} {r : List (Nat × BitVec 64)} (h : d.time.txts.get [] port = (tag, st) :: r) :
    d.readTxts path port = ((d.setTime { d.time with txts := d.time.txts.set [] port r }).setRegP PTPS.TXTS_STAMP_LO path port
      (BitVec.ofNat 32 st.toNat)).setRegP PTPS.TXTS_STAMP_HI path port (BitVec.ofNat 32 (st.toNat / 2 ^ 32)) := by
  unfold readTxts
  rw [h]
  rfl

end Dev
end Sys2Proof.Machine

open Sys2Proof Sys2Proof.Machine

/-- Settles O22. -/
theorem servoAndItsInputs : Obligations.ServoAndItsInputs := by
  unfold Obligations.ServoAndItsInputs
  refine ⟨fun s hon he => ?refLost, fun s hon he => ?refNone, fun s hon => ?refReturn, fun s hon ha hp hsrc => ?edge,
    fun s t hon ha ht hlt => ?extra, fun s hon ha => ?asleep, fun s t hon ht hle => ?absent, fun s w ho hsrc hen hp ha hb => ?offset,
    fun s w ho hsrc hen hp ha hb => ?below, fun s w ho h => ?offsetNone, fun s ho hen => ?enable, fun s ho hen => ?disable,
    fun s hon hst ha hp hto => ?holdover, fun s hon hp => ?holdoverOff, fun s hon hb hen hg => ?pps, fun s hon hb => ?ppsNone,
    fun s path port tag st r ho h => ?stamp, fun s path port ho h => ?stampNone⟩
  case refLost =>
    obtain ⟨hgood, hok, hint, hused, hm⟩ := Dev.refLost_reads he
    refine gives_act rfl hon ?_
    rw [hm.under_eq]
    exact ⟨hgood, hok, hint, hused, hm⟩
  case refNone => exact idle_actSelf rfl (by rw [Dev.refLost, if_neg (by simp [he])])
  case refReturn =>
    obtain ⟨hgood, hever, hok, hused, hho, hm⟩ := Dev.refReturned_reads (d := s.dev) rfl
    refine gives_act rfl hon ?_
    have hu := hm.under_eq
    refine hu.symm ▸ ⟨hgood, hever, hok, hused, hho, hm⟩
  case edge =>
    refine gives_act rfl hon ?_
    have hx := Dev.ppsEdge_eq ha hp hsrc
    have hm : s.dev.moves s.dev.ppsEdge [.time] [0x05] := by
      rw [hx]
      exact s.dev.still.setTime.setFld.setNum2
    rw [hm.under_eq]
    refine ⟨?_, ?_, ?_, hm⟩
    · rw [hx]
      rfl
    · rw [hx, Dev.setNum2, Dev.on_setNum_apart _ _ _ _ _ _ rfl, Dev.on_setNum_apart _ _ _ _ _ _ rfl, Dev.on_setFld_eq _ _ _ _ rfl]
      rfl
    · rw [hx]
      exact Dev.num2_setNum2 0 rfl (BitVec.isLt _)
  case extra =>
    refine gives_act rfl hon ?_
    have hx : s.dev.ppsEdge = (s.dev.bump TIME.PPS_IN_EXTRA).raise TIME.int_PPS_EXTRA := by
      simp [Dev.ppsEdge, ha, ht, hlt]
    have hm : s.dev.moves ((s.dev.bump TIME.PPS_IN_EXTRA).raise TIME.int_PPS_EXTRA) [] [0x05] := s.dev.still.bump.raise
    rw [hx, hm.under_eq]
    refine ⟨?_, ?_, hm⟩ <;> simp (disch := decide)
  case asleep => exact idle_actSelf rfl (by simp [Dev.ppsEdge, ha])
  case absent =>
    refine gives_act rfl hon ?_
    have hx : s.dev.ppsAbsent = s.dev.setFld TIME.SYNC_STAT_PPS_OK 0 := by simp [Dev.ppsAbsent, ht, hle]
    have hm : s.dev.moves (s.dev.setFld TIME.SYNC_STAT_PPS_OK 0) [] [0x05] := s.dev.still.setFld
    rw [hx, hm.under_eq]
    exact ⟨Dev.on_setFld_eq _ _ _ _ rfl, hm⟩
  case offset =>
    have hc : (s.dev.on TIME.SERVO_CFG_SERVO_EN && s.dev.enabled 0x05 && !s.dev.asleep) = true := by simp [hen, hp, ha]
    obtain ⟨hoff, hvalid, hm⟩ := Dev.sample_reads w hc hb
    refine gives_access rfl ho ?_
    rw [Dev.offsetIn, if_neg (by simp [hsrc]), hm.under_eq]
    refine ⟨hoff, hvalid, fun hs hstep hle hlock hn => Dev.sample_locks _ hc hb hs ?_ hn, hm⟩
    rw [Int.natAbs_mul]
    exact Nat.mul_le_mul_right _ hlock
  case below =>
    refine gives_access rfl ho ?_
    have hx : s.dev.sample (w.toInt * 10) = s.dev.raise TIME.int_OFFSET_LARGE := by simp [Dev.sample, hen, hp, ha, hb]
    rw [Dev.offsetIn, if_neg (by simp [hsrc]), hx]
    exact ⟨Dev.raised_raise_eq _ _ rfl, Dev.reportsOnly_under (Dev.reportsOnly_raise _ _)⟩
  case offsetNone =>
    refine idle_access rfl ho.2 ?_
    unfold Dev.offsetIn Dev.sample
    rcases h with h | h | h <;> simp [h]
  case enable =>
    refine gives_access rfl ho ?_
    have hx := Dev.servoEnable_on hen
    have hm : s.dev.moves (s.dev.servoEnable true) [.time] [0x05] := by
      rw [hx]
      exact (s.dev.still.setFld.setTime.andThen (Dev.moves_setServo 0 0)).andThen (Dev.moves_setSync 1)
    rw [hm.under_eq]
    refine ⟨?_, ?_, ?_, ?_, ?_, hm⟩
    · rw [hx, Dev.on_congr (Dev.reg_setSync _ _ _ rfl rfl), Dev.on_congr (Dev.reg_setServo _ _ _ _ rfl), Dev.on_setTime,
        Dev.on_setFld_eq _ _ _ _ rfl]
      rfl
    · rw [hx]
      exact Dev.setSync_state 1 (by decide)
    all_goals rw [hx, Dev.time_setSync, Dev.time_setServo]
    rfl
  case disable =>
    refine gives_access rfl ho ?_
    have hx := Dev.servoEnable_off hen
    have hm : s.dev.moves (s.dev.servoEnable false) [.time] [0x05] := by
      rw [hx]
      exact (s.dev.still.setFld.setFld.setTime.andThen (Dev.moves_setServo 0 0)).andThen (Dev.moves_setSync 0)
    rw [hm.under_eq]
    refine ⟨?_, ?_, ?_, ?_, ?_, hm⟩
    · rw [hx, Dev.on_congr (Dev.reg_setSync _ _ _ rfl rfl), Dev.on_congr (Dev.reg_setServo _ _ _ _ rfl), Dev.on_setTime,
        Dev.on_setFld_apart _ _ _ _ _ _ rfl, Dev.on_setFld_eq _ _ _ _ rfl]
      rfl
    · rw [hx]
      exact Dev.setSync_state 0 (by decide)
    · rw [hx, Dev.time_setSync, Dev.time_setServo]
    · rw [hx, Dev.time_setSync, Dev.time_setServo]
    · rw [hx, Dev.traceable_setSync, Dev.on_congr (Dev.reg_setServo _ _ _ _ rfl), Dev.on_setTime, Dev.on_setFld_eq _ _ _ _ rfl]
      rfl
  case holdover =>
    have hm : s.dev.moves s.dev.enterHoldover [.time] [0x05] := (s.dev.still.andThen (Dev.moves_setServo _ _)).andThen (Dev.moves_setSync 3)
    refine gives_actWhen rfl hon (by rcases hst with h | h <;> simp [h, hp, ha, hto]) ?_
    rw [hm.under_eq]
    refine ⟨Dev.setSync_state 3 (by decide), ?_, ?_, Dev.raised_setSync_holdover ?_, hm⟩
    · rw [Dev.enterHoldover, Dev.time_setSync, Dev.time_setServo]
    · rw [Dev.enterHoldover, Dev.time_setSync, Dev.time_setServo]
    · rw [Dev.fld_congr (Dev.reg_setServo _ _ _ _ rfl)]
      omega
  case holdoverOff => exact idle_actWhen rfl (by simp [hp])
  case pps =>
    refine gives_act rfl hon ?_
    have hc : (s.dev.on TIME.PPS_OUT_CFG_EN && (!s.dev.on TIME.PPS_OUT_CFG_GATE || s.dev.fld TIME.SYNC_STAT_STATE = 2)) = true := by
      rcases hg with h | h <;> simp [hen, h]
    have hx : s.dev.ppsOut = (s.dev.setTime { s.dev.time with ppsSec := s.dev.ppsBoundary }).emit (.pps (s.dev.fld TIME.PPS_OUT_CFG_WIDTH)) := by
      unfold Dev.ppsOut
      rw [if_neg hb]
      exact if_pos hc
    have hm : s.dev.moves s.dev.ppsOut [.time] [] := by
      rw [hx]
      exact s.dev.still.setTime.emit
    rw [hm.under_eq, hx]
    exact ⟨rfl, rfl, ((Dev.keeps.refl _).set_time).set_out⟩
  case ppsNone => exact idle_actSelf rfl (by rw [Dev.ppsOut, if_pos hb])
  case stamp =>
    refine gives_access rfl ho ?_
    have hm : s.dev.moves ((s.dev.readTxts path port).emit (.words path [s.dev.txtsTag port])) [.time] [0x12] := by
      rw [Dev.readTxts_eq h]
      exact s.dev.still.setTime.setRegP.setRegP.emit
    have htag : s.dev.txtsTag port = BitVec.ofNat 32 (tag + 2 ^ 31) := by rw [Dev.txtsTag, h]
    rw [hm.under_eq]
    rw [htag, Dev.readTxts_eq h] at hm ⊢
    refine ⟨rfl, SMap.get_set_same _ _ _ _, ?_, ?_, ?_, hm.2⟩
    · rw [Dev.emit_regP, Dev.regP_setRegP_apart _ _ _ _ _ _ _ _ rfl, Dev.regP_setRegP_same, BitVec.toNat_ofNat]
    · rw [Dev.emit_regP, Dev.regP_setRegP_same, BitVec.toNat_ofNat]
      have := st.isLt
      omega
    · exact hm.keepsOut
  case stampNone =>
    refine gives_access rfl ho ?_
    have hm : s.dev.moves (s.dev.emit (.words path [0])) [] [] := s.dev.still.emit
    rw [Dev.readTxts, Dev.txtsTag, h]
    rw [hm.under_eq]
    exact ⟨rfl, (Dev.keeps.refl _).set_out⟩
end

section
set_option Elab.async false
/-! Device time (R109 to R115): steps of the clock, the beacons that carry them, and the instants that they pass. -/

namespace Sys2Proof.Machine
open Sys2Proof

/-! ### Steps as numbers -/

theorem Clock.up_setFine (c : Clock) (t : Nat) : (c.setFine t).up = c.up := rfl

theorem Clock.fine_setFine {c : Clock} {t : Nat} (h : t / 2 ^ 24 / 1000000000 < 2 ^ 64) : (c.setFine t).fine = t := by
  unfold Clock.fine Clock.setFine
  dsimp only
  rw [BitVec.toNat_ofNat, Nat.mod_eq_of_lt h]
  omega

theorem Clock.stepTo_set (c : Clock) (sec ns : Nat) : (c.stepTo (.set sec ns)).toNat = (sec * 1000000000 + ns) * 2 ^ 24 := rfl

theorem Clock.setFine_whole (c : Clock) {sec ns : Nat} (h : ns < 1000000000) :
    c.setFine ((sec * 1000000000 + ns) * 2 ^ 24) = { c with sec := BitVec.ofNat 64 sec, ns := ns, frac := 0 } := by
  unfold Clock.setFine
  rw [Nat.mul_div_cancel _ (by decide), Nat.mul_mod_left]
  congr 1
  · congr 1
    omega
  · omega

namespace Dev
variable {d e : Dev} {P : List Part} {G : List Nat}

/-! ### What a beacon gives -/

theorem gives_beacon {s : State} {devs : List (Nat × Int)} {p : Dev → Prop} (hon : s.On) (ho : (s.dev.beacon devs).otp = s.dev.otp)
    (hp : p (s.dev.beacon devs)) : Gives (.tetherBeacon devs) s p := by
  refine ⟨{ s with dev := s.dev.beacon devs }, ?_, rfl, hp⟩
  change State.actClk s _ = _
  unfold State.actClk
  rw [(Dev.runs_iff _).mpr hon, if_pos rfl, ← ho]

theorem idle_beacon {s : State} {devs : List (Nat × Int)} (h : s.dev.beacon devs = s.dev) : Idle (.tetherBeacon devs) s := by
  change State.actClk s _ = _
  unfold State.actClk
  split <;> simp [h]

/-! ### A replica compares itself (R114) -/

/-- A replica that has met a beacon. -/
def beaconMet (d : Dev) (i : Nat) (dv : Int) : Dev :=
  d.setTime { d.time with dev := d.time.dev.set 0 i dv, devAt := d.time.devAt.set 0 i d.clk.up, low := d.time.low.set 0 i (d.islandTenths i) }

theorem beaconAt_eq (i : Nat) (dv : Int) : d.beaconAt i dv = if 20 < dv.natAbs then
      ((((d.beaconMet i dv).bump TIME.TETHER_SLIPS).setNum TIME.TETHER_LAST (i % 256 + min 255 dv.natAbs * 256)).raise TIME.int_TETHER_SLIP).log
        31 0x0502 ((((d.beaconMet i dv).bump TIME.TETHER_SLIPS).setNum TIME.TETHER_LAST (i % 256 + min 255 dv.natAbs * 256)).num TIME.TETHER_LAST)
    else d.beaconMet i dv := rfl

theorem moves_beaconAt {i : Nat} {dv : Int} : d.moves (d.beaconAt i dv) [.time] [0x05] := by
  rw [beaconAt_eq]
  exact d.still.setTime.iteSelf fun h => h.bump.setNum.raise.log

theorem time_beaconAt (i : Nat) (dv : Int) : (d.beaconAt i dv).time = (d.beaconMet i dv).time := by
  rw [beaconAt_eq]
  split
  · simp
  · rfl

/-- The replica's time does not fall at a beacon. -/
theorem islandNs_beaconAt {i : Nat} {dv : Int} (h : d.time.halted.get none i = none) : d.islandNs i ≤ (d.beaconAt i dv).islandNs i := by
  unfold Dev.islandNs
  refine Nat.div_le_div_right ?_
  have hclk : (d.beaconAt i dv).clk = d.clk := moves_beaconAt.keeps_clk
  have hm : (d.beaconAt i dv).masterTenths = d.masterTenths := by simp only [Dev.masterTenths, Dev.nowNs, hclk]
  conv => rhs; unfold Dev.islandTenths
  rw [show (d.beaconAt i dv).time.halted.get none i = none by rw [time_beaconAt]; exact h]
  have hlow : (d.beaconAt i dv).time.low.get 0 i = d.islandTenths i := by
    rw [time_beaconAt]
    exact SMap.get_set_same _ _ _ _
  unfold Dev.devNow
  dsimp only
  rw [hlow, hm]
  omega

/-! ### Instants that nothing awaits (R113) -/

theorem snapNow_none (h : d.obs.snap = none) : d.snapNow = d := by
  unfold snapNow
  rw [h]

theorem gateSwap_none {n : Nat} (h : (d.gate n).pending = none) : d.gateSwap n = d := by
  unfold gateSwap
  rw [h]

theorem each_self {n : Nat} {f : Dev → Nat → Dev} (h : ∀ i, i < n → f d i = d) : d.each n f = d := by
  induction n with
  | zero => rfl
  | succ n ih => rw [each_succ, ih fun i hi => h i (Nat.lt_succ_of_lt hi), h n (Nat.lt_succ_self n)]

/-- Where no commit is due, no gate list waits and no timer wakes, the instants are those of a snapshot. -/
theorem fireInstants_eq (hc : d.snapNow.commitNow = d.snapNow) (hg : ∀ n, n < 34 → (d.gate n).pending = none)
    (hw : d.on PWRM.SLEEP_CFG_TIMER_WAKE_EN = false) : d.fireInstants = d.snapNow := by
  have hgate (n : Nat) : d.snapNow.gate n = d.gate n := by rw [Dev.gate, moves_snapNow.keeps_sw, Dev.gate]
  unfold fireInstants
  rw [hc]
  dsimp only
  have hgates : (d.snapNow.each 34 Dev.gateSwap) = d.snapNow := each_self fun i hi => gateSwap_none (by rw [hgate, hg i hi])
  have hwhen : (d.snapNow.when d.snapNow.awake fun d => d.each 34 Dev.gateSwap) = d.snapNow := by
    unfold Dev.when
    split
    · exact hgates
    · rfl
  rw [hwhen, Dev.wakeTimer, moves_snapNow.on _ 0 rfl rfl, hw, Bool.false_and, Dev.when_false]

theorem commitNow_none (h : d.commit = none) : d.commitNow = d := by
  unfold commitNow
  rw [h]

theorem fireInstants_uncommitted (hc : d.commit = none) (hg : ∀ n, n < 34 → (d.gate n).pending = none)
    (hw : d.on PWRM.SLEEP_CFG_TIMER_WAKE_EN = false) : d.fireInstants = d.snapNow :=
  fireInstants_eq (commitNow_none (moves_snapNow.keeps_commit.trans hc)) hg hw

/-! ### A snapshot leaves the interrupts of other pages -/

theorem logsOnly_reg60 {r : Reg} {c : Nat} {w : Word} (h : r.page = 0x60) : d.logsOnly (d.setReg r w c) :=
  Dev.logsOnly_setRegP d r 0 c w (logKey_page _ _ _ (.inl h))

theorem logsOnly_takeSnap {t : Nat} : d.logsOnly (d.takeSnap t) := by
  unfold takeSnap
  exact Dev.logsOnly_trans (Dev.logsOnly_trans (Dev.logsOnly_trans (Dev.logsOnly_trans (logsOnly_reg60 rfl) (logsOnly_reg60 rfl))
    (logsOnly_reg60 rfl)) (logsOnly_reg60 rfl)) (Dev.logsOnly_raise _ _ rfl)

theorem logsOnly_snapAct {t a : Nat} : d.logsOnly (d.snapAct t a) := by
  unfold snapAct
  extract_lets o d1 d2 d3
  have h1 : d.logsOnly d1 := Dev.logsOnly_trans (e := { d with obs := { d.obs with snap := none, snapped := [] } }) (fun _ _ _ => rfl)
    (logsOnly_reg60 rfl)
  have h2 : d.logsOnly d2 := Dev.logsOnly_ite _ (Dev.logsOnly_trans h1 logsOnly_takeSnap) h1
  have h3 : d.logsOnly d3 := Dev.logsOnly_ite _ (Dev.logsOnly_trans h2 (logsOnly_reg60 rfl))
    (Dev.logsOnly_ite _ (Dev.logsOnly_trans h2 (logsOnly_reg60 rfl)) h2)
  exact Dev.logsOnly_trans h3 (Dev.logsOnly_log _ _ _ _ _ _ _)

theorem logsOnly_snapNow : d.logsOnly d.snapNow := by
  unfold snapNow
  split
  · unfold snapIslands
    have h : ∀ (l : List Nat) (a : Nat), d.logsOnly (l.foldl (fun d i => d.snapIsland i a) d) := fun l a =>
      Dev.logsOnly_foldl_of _ (fun _ => True) (fun x i _ => Dev.logsOnly_snapIsland x i a) l (fun _ _ => trivial) d
    exact Dev.logsOnly_ite _ (Dev.logsOnly_trans (h _ _) logsOnly_snapAct) (h _ _)
  · exact Dev.logsOnly_refl d

/-- What a snapshot moves shows in registers that report. -/
theorem moves_snapNow_reports : d.moves d.snapNow [] [] := by
  refine ⟨moves_snapNow.1, fun k w hk _ => moves_snapNow.2 k w hk ?_⟩
  intro h
  simp only [List.mem_singleton] at h
  simp [reportKey, h] at hk

/-! ### A step of the clock (R110 to R112) -/

/-- A device whose clock is another. -/
def clockMoved (d : Dev) (c : Clock) : Dev :=
  { d with clk := c, sw := { d.sw with stepMs := d.upMs }, time := { d.time with low := [] } }

theorem moves_clockMoved {c : Clock} : d.moves (d.clockMoved c) [.clk, .time, .sw] [] :=
  ((d.still.set_clk (x := c)).set_sw (x := { d.sw with stepMs := d.upMs })).set_time

@[simp] theorem num_clockMoved (c : Clock) (r : Reg) (i : Nat) : (d.clockMoved c).num r i = d.num r i := rfl

@[simp] theorem on_clockMoved (c : Clock) (x : Fld) (i : Nat) : (d.clockMoved c).on x i = d.on x i := rfl

/-- A step that has been made, to the clock `c`. -/
def genStepped (d : Dev) (c : Clock) : Dev :=
  (d.clockMoved c).setNum TIME.GEN (((d.clockMoved c).num TIME.GEN + 1) % 65536)

theorem stepClock_set (sec ns : Nat) : ∃ a b c, d.stepClock (.set sec ns) =
    (((d.genStepped { d.clk.setFine (d.clk.stepTo (.set sec ns)).toNat with frac := 0, rem := 0 }).setFld TIME.SYNC_STAT_TRACEABLE 1).raise
      TIME.int_STEPPED).log 31 0x0501 a b c 0 := ⟨_, _, _, rfl⟩

theorem stepClock_add (neg : Bool) (sec ns path : Nat) : ∃ a b c, d.stepClock (.add neg sec ns path) =
    ((d.genStepped (d.clk.setFine (d.clk.stepTo (.add neg sec ns path)).toNat)).raise TIME.int_STEPPED).log 31 0x0501 a b c 0 :=
  ⟨_, _, _, rfl⟩

theorem moves_genStepped {c : Clock} : d.moves (d.genStepped c) [.clk, .time, .sw] [0x05] := (d.still.andThen moves_clockMoved).setNum

@[simp] theorem clk_genStepped (c : Clock) : (d.genStepped c).clk = c := rfl
@[simp] theorem time_genStepped (c : Clock) : (d.genStepped c).time = { d.time with low := [] } := rfl
theorem gen_genStepped (c : Clock) : (d.genStepped c).num TIME.GEN = (d.num TIME.GEN + 1) % 65536 := by
  unfold genStepped
  rw [num_setNum_same, num_clockMoved]
  omega

theorem moves_stepClock_set {sec ns : Nat} : d.moves (d.stepClock (.set sec ns)) [.clk, .time, .sw] [0x05] := by
  obtain ⟨a, b, c, h⟩ := stepClock_set (d := d) sec ns
  rw [h]
  exact (d.still.andThen moves_genStepped).setFld.raise.log

theorem moves_stepClock_add {neg : Bool} {sec ns path : Nat} : d.moves (d.stepClock (.add neg sec ns path)) [.clk, .time, .sw] [0x05] := by
  obtain ⟨a, b, c, h⟩ := stepClock_add (d := d) neg sec ns path
  rw [h]
  exact (d.still.andThen moves_genStepped).raise.log

theorem clk_stepClock_set {sec ns : Nat} (h : ns < 1000000000) :
    (d.stepClock (.set sec ns)).clk = { d.clk with sec := BitVec.ofNat 64 sec, ns := ns, frac := 0, rem := 0 } := by
  obtain ⟨a, b, c, hs⟩ := stepClock_set (d := d) sec ns
  rw [hs]
  simp only [Dev.log_clk, Dev.raise_clk, Dev.setFld_clk, clk_genStepped, Clock.stepTo_set, Clock.setFine_whole _ h]

theorem time_stepClock_set {sec ns : Nat} : (d.stepClock (.set sec ns)).time = { d.time with low := [] } := by
  obtain ⟨a, b, c, hs⟩ := stepClock_set (d := d) sec ns
  rw [hs]
  simp only [Dev.log_time, Dev.raise_time, Dev.setFld_time, time_genStepped]

theorem stepClock_set_reads {sec ns : Nat} : (d.stepClock (.set sec ns)).num TIME.GEN = (d.num TIME.GEN + 1) % 65536 ∧
    (d.stepClock (.set sec ns)).on TIME.SYNC_STAT_TRACEABLE = true ∧ (d.stepClock (.set sec ns)).raised TIME.int_STEPPED = true := by
  obtain ⟨a, b, c, hs⟩ := stepClock_set (d := d) sec ns
  rw [hs]
  refine ⟨?_, ?_, ?_⟩
  · rw [Dev.num_log_plain _ _ _ _ _ _ _ _ _ rfl, Dev.num_raise_plain _ _ _ _ rfl, Dev.num_setFld_apart _ _ _ _ _ _ rfl, gen_genStepped]
  · simp (disch := decide)
  · simp (disch := decide)

/-- A step that the clock can make, with no instant before it. -/
theorem applyStep_eq {st : Step} (h : ¬ d.clk.stepTo st < 0) (hf : d.fireInstants = d) :
    d.applyStep st = ((d.each 34 Dev.keepPosition).stepClock st).fireInstants.each 34 Dev.gatesStepped := by
  unfold applyStep
  rw [if_neg h, hf]

theorem moves_keepPositions : d.moves (d.each 34 Dev.keepPosition) [] [0x4B] := d.still.each fun h => h.andThen moves_keepPosition

/-- What follows a step that no instant awaits. -/
theorem instants_quiet (hc : d.commit = none) (hg : ∀ n, n < 34 → (d.gate n).pending = none)
    (hw : d.on PWRM.SLEEP_CFG_TIMER_WAKE_EN = false) : d.moves (d.fireInstants.each 34 Dev.gatesStepped) [.sw] [] ∧
      ∀ b : IntBit, b.plain = true → (d.fireInstants.each 34 Dev.gatesStepped).raised b = d.raised b := by
  rw [fireInstants_uncommitted hc hg hw]
  refine ⟨(d.still.andThen moves_snapNow_reports).each fun h => h.andThen moves_gatesStepped, fun b hb => ?_⟩
  rw [each_keeps (rd := fun e => e.raised b) fun e j _ => Dev.raised_of_regs (d := e) (e := e.gatesStepped j) rfl b]
  exact Dev.logsOnly_raised logsOnly_snapNow b ((IntBit.plain_iff b).mp hb).1

theorem beacon_step {st : Step} (h : d.time.pending = some st) :
    d.beacon [] = (d.setTime { d.time with pending := none }).applyStep st := by
  unfold beacon
  dsimp only [List.foldl_nil]
  rw [h]
  rfl

theorem gate_genStepped {c : Clock} {n : Nat} : (d.genStepped c).gate n = d.gate n := rfl

theorem gate_congr {n : Nat} (h : e.sw = d.sw) : e.gate n = d.gate n := by rw [Dev.gate, h, Dev.gate]

theorem gate_stepClock_set {sec ns n : Nat} : (d.stepClock (.set sec ns)).gate n = d.gate n := by
  obtain ⟨a, b, c, h⟩ := stepClock_set (d := d) sec ns
  rw [h, gate_congr (Dev.log_sw _ _ _ _ _ _ _), gate_congr (Dev.raise_sw _ _), gate_congr (Dev.setFld_sw _ _ _ _), gate_genStepped]

theorem gate_stepClock_add {neg : Bool} {sec ns path n : Nat} : (d.stepClock (.add neg sec ns path)).gate n = d.gate n := by
  obtain ⟨a, b, c, h⟩ := stepClock_add (d := d) neg sec ns path
  rw [h, gate_congr (Dev.log_sw _ _ _ _ _ _ _), gate_congr (Dev.raise_sw _ _), gate_genStepped]

/-- A beacon that carries a step, with no instant before or after it. -/
theorem beacon_quiet {st : Step} (hp : d.time.pending = some st) (hq : d.noInstant) (h0 : 0 ≤ d.clk.stepTo st)
    (hs : ∀ e : Dev, e.moves (e.stepClock st) [.clk, .time, .sw] [0x05]) (hgate : ∀ (e : Dev) n, (e.stepClock st).gate n = e.gate n) :
    ∃ e : Dev, d.moves e [.time] [0x4B] ∧ e.time = { d.time with pending := none } ∧ (e.stepClock st).moves (d.beacon []) [.sw] [] ∧
      ∀ b : IntBit, b.plain = true → (d.beacon []).raised b = (e.stepClock st).raised b := by
  obtain ⟨hc, hsnap, hg, hw⟩ := hq
  generalize hd0 : d.setTime { d.time with pending := none } = d0
  have htime : d0.time = { d.time with pending := none } := by rw [← hd0, time_setTime]
  have hm0 : d.moves d0 [.time] [] := by
    rw [← hd0]
    exact d.still.setTime
  have hg0 (n : Nat) : d0.gate n = d.gate n := gate_congr hm0.keeps_sw
  have hf0 : d0.fireInstants = d0 := by
    have hs : d0.obs.snap = none := by rw [← hd0]; exact hsnap
    rw [fireInstants_uncommitted (hm0.keeps_commit.trans hc) (fun n hn => by rw [hg0, hg n hn]) ((hm0.on _ 0 rfl rfl).trans hw), snapNow_none hs]
  have hk := moves_keepPositions (d := d0)
  rw [beacon_step hp, hd0, applyStep_eq (by rw [hm0.keeps_clk]; omega) hf0]
  generalize d0.each 34 Dev.keepPosition = e0 at hk ⊢
  refine ⟨e0, (d.still.andThen hm0).andThen hk, hk.keeps_time.trans htime, ?_⟩
  exact instants_quiet (d := e0.stepClock st) ((hs e0).keeps_commit.trans (hk.keeps_commit.trans (hm0.keeps_commit.trans hc)))
    (fun n hn => by rw [hgate, gate_congr hk.keeps_sw, hg0, hg n hn])
    (((hs e0).on _ 0 rfl rfl).trans ((hk.on _ 0 rfl rfl).trans ((hm0.on _ 0 rfl rfl).trans hw)))

theorem beacon_set {sec ns : Nat} (hp : d.time.pending = some (.set sec ns)) (hq : d.noInstant) (hns : ns < 1000000000) :
    (d.beacon []).clk = { d.clk with sec := BitVec.ofNat 64 sec, ns := ns, frac := 0, rem := 0 } ∧
      (d.beacon []).time = { d.time with pending := none, low := [] } ∧ (d.beacon []).num TIME.GEN = (d.num TIME.GEN + 1) % 65536 ∧
      (d.beacon []).on TIME.SYNC_STAT_TRACEABLE = true ∧ (d.beacon []).raised TIME.int_STEPPED = true ∧
      d.moves (d.beacon []) [.clk, .time, .sw] [0x05, 0x4B] := by
  obtain ⟨e, he, htime, hm, hr⟩ := beacon_quiet hp hq (by simp only [Clock.stepTo]; omega) (fun e => moves_stepClock_set)
    fun e n => gate_stepClock_set
  obtain ⟨hgen, htrace, hint⟩ := stepClock_set_reads (d := e) (sec := sec) (ns := ns)
  rw [hm.keeps_clk, hm.keeps_time, hm.num _ 0 rfl rfl, hm.on _ 0 rfl rfl, hr _ rfl, clk_stepClock_set hns, time_stepClock_set, hgen,
    he.num _ 0 rfl rfl, he.keeps_clk, htime]
  exact ⟨rfl, rfl, rfl, htrace, hint, ((d.still.andThen he).andThen moves_stepClock_set).andThen hm⟩

theorem beacon_add {sec ns path : Nat} (hp : d.time.pending = some (.add false sec ns path)) (hq : d.noInstant) (hok : d.clk.ok)
    (hns : ns < 1000000000) (hsec : d.clk.sec.toNat + sec + 1 < 2 ^ 64) :
    (d.beacon []).clk.fine = d.clk.fine + ((sec * 1000000000 + ns : Nat) : Int) * 2 ^ 24 ∧
      (d.beacon []).clk.up = d.clk.up ∧ (d.beacon []).time.pending = none ∧ (d.beacon []).num TIME.GEN = (d.num TIME.GEN + 1) % 65536 ∧
      (d.beacon []).on TIME.SYNC_STAT_TRACEABLE = d.on TIME.SYNC_STAT_TRACEABLE ∧ (d.beacon []).raised TIME.int_STEPPED = true ∧
      d.moves (d.beacon []) [.clk, .time, .sw] [0x05, 0x4B] := by
  obtain ⟨hnslt, hfrac⟩ := hok
  have hfine : d.clk.fine = (((d.clk.sec.toNat * 1000000000 + d.clk.ns) * 2 ^ 24 + d.clk.frac : Nat) : Int) := by rw [Clock.fine]
  have hto : d.clk.stepTo (.add false sec ns path) =
      (((d.clk.sec.toNat * 1000000000 + d.clk.ns) * 2 ^ 24 + d.clk.frac + (sec * 1000000000 + ns) * 2 ^ 24 : Nat) : Int) := by
    rw [Clock.stepTo, if_neg (by decide), hfine, ← Int.natCast_add]
  obtain ⟨e, he, htime, hm, hr⟩ := beacon_quiet hp hq (by rw [hto]; omega) (fun e => moves_stepClock_add) fun e n => gate_stepClock_add
  have hmv : d.moves (d.beacon []) [.clk, .time, .sw] [0x05, 0x4B] := ((d.still.andThen he).andThen moves_stepClock_add).andThen hm
  obtain ⟨a, b, c, hs⟩ := stepClock_add (d := e) false sec ns path
  rw [hm.keeps_clk, hm.keeps_time, hm.num _ 0 rfl rfl, hm.on _ 0 rfl rfl, hr _ rfl, hs]
  refine ⟨?_, ?_, ?_, ?_, ?_, ?_, hmv⟩
  · rw [Dev.log_clk, Dev.raise_clk, clk_genStepped, he.keeps_clk, hto, Int.toNat_natCast, Clock.fine_setFine (by omega), hfine]
    push_cast
    ring
  · rw [Dev.log_clk, Dev.raise_clk, clk_genStepped, he.keeps_clk, Clock.up_setFine]
  · rw [Dev.log_time, Dev.raise_time, time_genStepped, htime]
  · rw [Dev.num_log_plain _ _ _ _ _ _ _ _ _ rfl, Dev.num_raise_plain _ _ _ _ rfl, gen_genStepped, he.num _ 0 rfl rfl]
  · rw [Dev.on_log_plain _ _ _ _ _ _ _ _ _ rfl, Dev.on_raise_plain _ _ _ _ rfl, genStepped, Dev.on_setNum_apart _ _ _ _ _ _ rfl,
      on_clockMoved, he.on _ 0 rfl rfl]
  · simp (disch := decide)

/-! ### A commit whose instant a step passes (R82, R113) -/

/-- The parts that a commit instant moves before it is recorded. -/
theorem keeps_commitStaged {c : CommitSt} {l : List Nat} {m : List (Nat × Option Staged)} {f : List Nat} :
    d.keeps (l.foldl Dev.clipKey (m.foldl (fun d (p : Nat × Option Staged) => match p.2 with | some x => d.activate p.1 x | none => d)
      (f.foldl (fun d p => d.fcLeave c p) (l.foldl (fun d k => d.reparent c k) (l.foldl Dev.settleKey d)))))
      [.regs, .evq, .out, .obs, .sw] := by
  refine keeps.foldl (keeps.foldl (keeps.foldl (keeps.foldl (keeps.foldl (keeps.refl d) fun h => h.andThen moves_settleKey) fun h =>
    h.andThen moves_reparent) fun h => h.andThen moves_fcLeave) fun {x a} h => ?_) fun h => h.andThen moves_clipKey
  split
  · exact h.trans fun q hq => by cases q <;> first | rfl | simp at hq
  · exact h

theorem keeps_epoch {p e : Nat} : d.keeps (d.setEpoch p e) [.regs, .evq, .out, .obs] :=
  fun q hq => by cases q <;> first | rfl | simp at hq

theorem keeps_commitLogged {c : CommitSt} : d.keeps (d.commitLog c) [.regs, .evq, .out, .obs] := by
  unfold Dev.commitLog
  exact ((keeps_epoch (d := d) (p := 0) (e := nextEpoch (d.num (COMMIT 0) % 65536))).foldl fun h => h.trans keeps_epoch).andThen
    (((still _).setNum2 (G := [0x00])).log (P := []))

/-- A commit that every island reaches at once. -/
theorem commitApply_all {c : CommitSt} (hs : c.switched = []) :
    (d.commitApply c (List.range 34)).cgen = d.cgen + 1 ∧
      ∃ e, (d.commitApply c (List.range 34)).commit = some e ∧ e.applied = true ∧ e.tc = c.tc := by
  unfold commitApply
  extract_lets all part keys d1 d2 fc d3 old was d4 d5 d6 d7 d8 d9
  have hsw : all.switched = List.range 34 := by simp [all, hs]
  have h5 : d5.cgen = d.cgen := keeps_commitStaged .cgen (by decide)
  have hpipes : (all.pipes && !c.pipes) = true := by
    rw [CommitSt.pipes, CommitSt.pipes, hsw, hs]
    decide
  have h7 : d7.cgen = d.cgen + 1 ∧ d7.commit = some { all with was := was, applied := decide (34 ≤ all.switched.length) } := by
    have h6 : d6.cgen = d.cgen := h5
    simp only [d7, if_pos hpipes]
    exact ⟨by rw [h6], rfl⟩
  have h8 : d7.keeps d8 [.regs, .evq, .out, .obs] := by
    exact keeps.ite keeps_commitLogged (keeps.refl d7)
  have h9 : d7.keeps (d9.buffersCommit.evalAll.repaceAll.setCheck) [.regs, .evq, .out, .obs, .sw, .isles, .tandem] := by
    have h8' : d7.keeps d8 [.regs, .evq, .out, .obs, .sw, .isles, .tandem] := fun p hp => h8 p fun hm => hp (by
      simp only [List.mem_cons, List.not_mem_nil, or_false] at hm ⊢
      tauto)
    exact ((((h8'.foldl fun h => h.andThen moves_fcEnter).andThen moves_buffersCommit).andThen moves_evalAll).andThen
      moves_repaceAll).andThen moves_setCheck
  refine ⟨(h9 .cgen (by decide)).trans h7.1, _, (h9 .commit (by decide)).trans h7.2, ?_, rfl⟩
  simp [hsw]

/-- A commit that no island has reached. -/
theorem commitNow_early {c : CommitSt} (hc : d.commit = some c) (ha : c.applied = false) (h : ∀ i, i < 34 → d.islandNs i < c.tc) :
    d.commitNow = d := by
  have hdue : d.commitDue c = [] := by
    unfold Dev.commitDue
    refine List.filter_eq_nil_iff.mpr fun i hi => ?_
    have := h i (List.mem_range.mp hi)
    simp only [Bool.and_eq_true, decide_eq_true_eq, not_and, Nat.not_le]
    exact fun _ => this
  unfold Dev.commitNow
  rw [hc]
  dsimp only
  rw [if_neg (by simp [ha]), if_pos (by simp [hdue])]

/-- A commit that every island has reached. -/
theorem commitNow_late {c : CommitSt} (hc : d.commit = some c) (ha : c.applied = false) (hs : c.switched = [])
    (h : ∀ i, i < 34 → c.tc ≤ d.islandNs i) : d.commitNow = d.commitApply c (List.range 34) := by
  have hdue : d.commitDue c = List.range 34 := by
    unfold Dev.commitDue
    refine List.filter_eq_self.mpr fun i hi => ?_
    simp [hs, h i (List.mem_range.mp hi)]
  unfold Dev.commitNow
  rw [hc]
  dsimp only
  rw [if_neg (by simp [ha]), hdue, if_neg (by decide)]

/-- A replica that stands where the master does, and has no time below which it does not fall. -/
theorem islandNs_master {i : Nat} (hh : d.time.halted = []) (hd : d.time.dev = []) (hl : d.time.low = []) (hf : d.clk.frac = 0) :
    d.islandNs i = d.nowNs := by
  have hg {α : Type} (x : α) : SMap.get ([] : SMap α) x i = x := rfl
  unfold Dev.islandNs Dev.islandTenths Dev.devNow slew
  rw [hh, hd, hl, hg, hg, hg]
  dsimp only
  simp only [Dev.masterTenths, hf]
  omega

theorem islandNs_congr {i : Nat} (hc : e.clk = d.clk) (ht : e.time = d.time) : e.islandNs i = d.islandNs i := by
  simp only [Dev.islandNs, Dev.islandTenths, Dev.devNow, Dev.masterTenths, Dev.nowNs, hc, ht]

theorem commit_beacon {c : CommitSt} {sec ns : Nat} (hp : d.time.pending = some (.set sec ns)) (hsec : sec < 2 ^ 64) (hns : ns < 1000000000)
    (hc : d.commit = some c) (ha : c.applied = false) (hs : c.switched = []) (hi : ∀ i, i < 34 → d.islandNs i < c.tc)
    (htc : c.tc ≤ sec * 1000000000 + ns) (hh : d.time.halted = []) (hd : d.time.dev = []) (hsnap : d.obs.snap = none)
    (hg : ∀ n, n < 34 → (d.gate n).pending = none) (hw : d.on PWRM.SLEEP_CFG_TIMER_WAKE_EN = false) :
    (d.beacon []).otp = d.otp ∧ (d.beacon []).cgen = d.cgen + 1 ∧ ∃ e, (d.beacon []).commit = some e ∧ e.applied = true ∧ e.tc = c.tc := by
  generalize hd0 : d.setTime { d.time with pending := none } = d0
  have htime : d0.time = { d.time with pending := none } := by rw [← hd0, time_setTime]
  have hm0 : d.moves d0 [.time] [] := by
    rw [← hd0]
    exact d.still.setTime
  have hns0 (i : Nat) : d0.islandNs i = d.islandNs i := by
    simp only [Dev.islandNs, Dev.islandTenths, Dev.devNow, Dev.masterTenths, Dev.nowNs, hm0.keeps_clk, htime]
  have hsn : d0.snapNow = d0 := snapNow_none (by rw [← hd0]; exact hsnap)
  have hf0 : d0.fireInstants = d0 := by
    rw [fireInstants_eq ?_ (fun n hn => by rw [gate_congr hm0.keeps_sw, hg n hn]) ((hm0.on _ 0 rfl rfl).trans hw), hsn]
    rw [hsn]
    exact commitNow_early (hm0.keeps_commit.trans hc) ha fun i h => by rw [hns0]; exact hi i h
  have hk := moves_keepPositions (d := d0)
  rw [beacon_step hp, hd0, applyStep_eq (by simp only [Clock.stepTo]; omega) hf0]
  generalize d0.each 34 Dev.keepPosition = e0 at hk ⊢
  have hst := moves_stepClock_set (d := e0) (sec := sec) (ns := ns)
  have hclk := clk_stepClock_set (d := e0) (sec := sec) (ns := ns) hns
  have htm := time_stepClock_set (d := e0) (sec := sec) (ns := ns)
  generalize e0.stepClock (.set sec ns) = f at hst hclk htm ⊢
  have hsn := moves_snapNow (d := f)
  have hin (i : Nat) : f.snapNow.islandNs i = sec * 1000000000 + ns := by
    rw [islandNs_congr hsn.keeps_clk hsn.keeps_time, islandNs_master]
    · simp only [Dev.nowNs, hclk, BitVec.toNat_ofNat, Nat.mod_eq_of_lt hsec]
    · rw [htm, hk.keeps_time, htime]
      exact hh
    · rw [htm, hk.keeps_time, htime]
      exact hd
    · rw [htm]
    · rw [hclk]
  have hcm : f.snapNow.commit = some c := by rw [hsn.keeps_commit, hst.keeps_commit, hk.keeps_commit, hm0.keeps_commit, hc]
  have hcg : f.snapNow.cgen = d.cgen := by rw [hsn.keeps_cgen, hst.keeps_cgen, hk.keeps_cgen, hm0.keeps_cgen]
  have hap := commitApply_all (d := f.snapNow) hs
  have hotp : f.snapNow.commitNow.otp = d.otp := by
    rw [show f.snapNow.commitNow.otp = f.snapNow.otp from keeps_commitNow .otp (by decide), hsn.keeps_otp, hst.keeps_otp, hk.keeps_otp,
      hm0.keeps_otp]
  have hnow : f.snapNow.commitNow = f.snapNow.commitApply c (List.range 34) :=
    commitNow_late hcm ha hs fun i _ => by rw [hin]; exact htc
  have hrest : f.snapNow.commitNow.moves (f.fireInstants.each 34 Dev.gatesStepped) [.sw, .spore] [0x4B, 0x01] := by
    unfold fireInstants
    exact ((((still _).when fun h => h.each fun h => h.andThen moves_gateSwap).andThen moves_wakeTimer).each fun h =>
      h.andThen moves_gatesStepped)
  rw [hrest.keeps_otp, hrest.keeps_cgen, hrest.keeps_commit, hotp, hnow, ← hcg]
  exact ⟨rfl, hap⟩

/-! ### The error record -/

/-- The first error of a page is recorded (R73). -/
theorem num_recErr {p o c s : Nat} (h : d.fld (ERR_INFO_CAUSE p) = 0) : (d.recErr p o c s).num (ERR_INFO p) =
    (o % 4096 + c * 4096 + s * 65536) % 2 ^ 32 := by
  unfold recErr
  rw [if_pos h, num_setNum_apart _ _ _ _ _ _ ?_, num_setNum_apart _ _ _ _ _ _ ?_, num_setNum_same]
  all_goals simp [Reg.apart, ERR_INFO, ERR_STAMP_LO, ERR_STAMP_HI]

theorem num_recErr_apart {p o c s i : Nat} (r : Reg) (h : r.apart (ERR_INFO p) = true) (hl : r.apart (ERR_STAMP_LO p) = true)
    (hh : r.apart (ERR_STAMP_HI p) = true) : (d.recErr p o c s).num r i = d.num r i := by
  unfold recErr
  split
  · rw [num_setNum_apart _ _ _ _ _ _ hh, num_setNum_apart _ _ _ _ _ _ hl, num_setNum_apart _ _ _ _ _ _ h]
  · exact num_setFld_apart _ _ _ _ _ _ h

/-- A step that would take the clock below 0 s. -/
theorem beacon_below {sec ns path : Nat} (hp : d.time.pending = some (.add true sec ns path))
    (h : d.clk.fine < ((sec * 1000000000 + ns : Nat) : Int) * 2 ^ 24) :
    d.beacon [] = (d.setTime { d.time with pending := none }).recErr 0x05 0x424 1 path := by
  rw [beacon_step hp]
  unfold applyStep
  rw [if_pos]
  rw [clk_setTime, Clock.stepTo, if_pos rfl]
  push_cast at h ⊢
  omega

end Dev
end Sys2Proof.Machine

open Sys2Proof Sys2Proof.Machine

/-- Settles O21. -/
theorem timeReadsAndSteps : Obligations.TimeReadsAndSteps := by
  unfold Obligations.TimeReadsAndSteps
  refine ⟨fun s path ho => ?now, fun s path ho => ?add, fun s path ho => ?set, fun s i t dv hon hp hh => ?halted,
    fun s i dv hon hp hi hh => ?meets, fun s sec ns hon hp hq hsec hns => ?steps,
    fun s c sec ns hon hp hsec hns hc ha hs hi htc hh hd hsnap hg hw => ?passes, fun s sec ns path hon hp hq hok hns hsec => ?adds,
    fun s sec ns path hon hp hpath hlt => ?below⟩
  case now =>
    refine gives_access rfl ho ?_
    have hm : s.dev.moves ((s.dev.readNow path).1.emit (.words path [(s.dev.readNow path).2])) [] [0x05] := s.dev.still.setRegP.setRegP.setRegP.emit
    rw [hm.under_eq]
    refine ⟨rfl, ?_, ?_, ?_, hm.keepsOut, hm.2⟩
    · rw [Dev.emit_regP, Dev.readNow, Dev.regP_setRegP_apart _ _ _ _ _ _ _ _ rfl, Dev.regP_setRegP_apart _ _ _ _ _ _ _ _ rfl,
        Dev.regP_setRegP_same, BitVec.toNat_ofNat]
    · rw [Dev.emit_regP, Dev.readNow, Dev.regP_setRegP_apart _ _ _ _ _ _ _ _ rfl, Dev.regP_setRegP_same, BitVec.toNat_ofNat]
      have := s.dev.clk.sec.isLt
      omega
    · rw [Dev.emit_regP, Dev.readNow, Dev.regP_setRegP_same, BitVec.toNat_ofNat]
  case add =>
    refine gives_access rfl ho ?_
    have hm : s.dev.moves (s.dev.pendStep (s.dev.addStep path)) [.time] [] := s.dev.still.setTime
    rw [show s.dev.stepCtrl path 1 = s.dev.pendStep (s.dev.addStep path) from rfl, hm.under_eq]
    exact ⟨(Dev.keeps.refl _).set_time, rfl⟩
  case set =>
    refine gives_access rfl ho ?_
    have hm : s.dev.moves (s.dev.pendStep s.dev.setStep) [.time] [] := s.dev.still.setTime
    rw [show s.dev.stepCtrl path 2 = s.dev.pendStep s.dev.setStep from rfl, hm.under_eq]
    exact ⟨(Dev.keeps.refl _).set_time, rfl⟩
  case halted => exact Dev.idle_beacon (by simp [Dev.beacon, hp, hh])
  case meets =>
    have hb : s.dev.beacon [(i, dv)] = s.dev.beaconAt i dv := by
      have ht : (s.dev.beaconAt i dv).time.pending = none := by
        rw [Dev.time_beaconAt]
        exact hp
      simp [Dev.beacon, hi, hh, ht]
    have hm := Dev.moves_beaconAt (d := s.dev) (i := i) (dv := dv)
    refine Dev.gives_beacon hon (by rw [hb, hm.keeps_otp]) ?_
    rw [hb]
    refine ⟨hm.keeps_clk, ?_, ?_, Dev.islandNs_beaconAt hh, fun hlt => ?_, fun hle => ?_, hm⟩
    · rw [Dev.time_beaconAt]
      exact SMap.get_set_same _ _ _ _
    · rw [Dev.time_beaconAt]
      exact SMap.get_set_same _ _ _ _
    · rw [Dev.beaconAt_eq, if_pos hlt]
      refine ⟨?_, ?_, ?_⟩
      · simp (disch := decide)
        rfl
      · rw [Dev.num_log_plain _ _ _ _ _ _ _ _ _ rfl, Dev.num_raise_plain _ _ _ _ rfl, Dev.num_setNum_same]
        omega
      · simp (disch := decide)
    · rw [Dev.beaconAt_eq, if_neg (by omega)]
      exact (Dev.keeps.refl _).set_time
  case steps =>
    obtain ⟨hclk, htime, hgen, htrace, hint, hm⟩ := Dev.beacon_set hp hq hns
    exact Dev.gives_beacon hon hm.keeps_otp ⟨hclk, htime, hgen, htrace, hint, hm⟩
  case passes =>
    obtain ⟨hotp, h⟩ := Dev.commit_beacon hp hsec hns hc ha hs hi htc hh hd hsnap hg hw
    exact Dev.gives_beacon hon hotp h
  case adds =>
    obtain ⟨hfine, hup, hpend, hgen, htrace, hint, hm⟩ := Dev.beacon_add hp hq hok hns hsec
    exact Dev.gives_beacon hon hm.keeps_otp ⟨hfine, hup, hpend, hgen, htrace, hint⟩
  case below =>
    have hb := Dev.beacon_below hp hlt
    have hm : s.dev.moves (s.dev.beacon []) [.time] [0x05] := by
      rw [hb]
      exact s.dev.still.setTime.recErr
    refine Dev.gives_beacon hon hm.keeps_otp ⟨hm.keeps_clk, ?_, ?_, fun hcause => ?_, hm⟩
    · rw [hb, Dev.recErr_time, Dev.time_setTime]
    · rw [hb, Dev.num_recErr_apart _ rfl rfl rfl, Dev.num_setTime]
    · rw [hb, Dev.num_recErr (by rw [Dev.fld_setTime, hcause])]
      omega
end

section
set_option Elab.async false
/-! Commits (R77 to R83): a staged value of the epoch's own register moves the epoch that a commit advances. -/

namespace Sys2Proof.Machine
open Sys2Proof

namespace Dev
variable {d : Dev}

theorem num_setEpoch_zero (e : Nat) : (d.setEpoch 0 e).num (COMMIT 0) = e % 65536 := by
  unfold setEpoch
  rw [num_setNum_same]
  omega

theorem num_setEpoch_other {p : Nat} (e : Nat) (h : p ≠ 0) : (d.setEpoch p e).num (COMMIT 0) = d.num (COMMIT 0) :=
  num_setNum_apart _ _ _ _ _ _ (by simp [Reg.apart, COMMIT, Ne.symm h])

/-- Housekeeping's epoch after it has been advanced. -/
theorem epoch_commitLog (c : CommitSt) : (d.commitLog c).num (COMMIT 0) = nextEpoch (d.num (COMMIT 0) % 65536) % 65536 := by
  unfold commitLog
  extract_lets e d1 t
  have h : ∀ (l : List Nat) (x : Dev), x.num (COMMIT 0) = e % 65536 → (l.foldl (fun d p => d.setEpoch p e) x).num (COMMIT 0) = e % 65536 := by
    intro l
    induction l with
    | nil => exact fun _ hx => hx
    | cons p l ih =>
      refine fun x hx => ih _ ?_
      by_cases hp : p = 0
      · rw [hp, num_setEpoch_zero]
      · rw [num_setEpoch_other e hp, hx]
  rw [num_log_plain _ _ _ _ _ _ _ _ _ rfl, setNum2, num_setNum_apart _ _ _ _ _ _ rfl, num_setNum_apart _ _ _ _ _ _ rfl]
  exact h _ _ (num_setEpoch_zero e)

theorem num_activate (x : Word) : (d.activate ((COMMIT 0).key 0 0) { rst := 0, val := x }).num (COMMIT 0) = x.toNat :=
  congrArg BitVec.toNat (SMap.get_set_same d.regs (0 : Word) ((COMMIT 0).key 0 0) x)

/-- What a commit on housekeeping leaves of the epoch, where the one value staged is the epoch's. -/
theorem epoch_commitApply {c : CommitSt} {due : List Nat} {x : Word} (h : due.contains 32 = true)
    (hp : (c.staged.filter fun p => CommitSt.active { c with switched := c.switched ++ due } p.1 && !c.active p.1) =
      [((COMMIT 0).key 0 0, some { rst := 0, val := x })]) :
    (d.commitApply c due).num (COMMIT 0) = nextEpoch (x.toNat % 65536) % 65536 := by
  unfold commitApply
  extract_lets all part keys d1 d2 fc d3 old was d4 d5 d6 d7 d8 d9
  have hpart : part = [((COMMIT 0).key 0 0, some { rst := 0, val := x })] := hp
  have h4 : d4.num (COMMIT 0) = x.toNat := by
    simp only [d4, hpart, List.foldl_cons, List.foldl_nil]
    exact num_activate x
  have h5 : d4.moves d5 [.sw] [] := d4.still.foldl fun h => h.andThen moves_clipKey
  have h6 : d6.num (COMMIT 0) = d5.num (COMMIT 0) := rfl
  have h7 : d7.num (COMMIT 0) = d6.num (COMMIT 0) := by
    simp only [d7]
    split <;> rfl
  have h8 : d8.num (COMMIT 0) = nextEpoch (x.toNat % 65536) % 65536 := by
    simp only [d8]
    rw [if_pos h, epoch_commitLog, h7, h6, h5.num _ 0 rfl rfl, h4]
  have h9 : d8.moves (d9.buffersCommit.evalAll.repaceAll.setCheck) [.sw, .isles, .tandem] [0x11, 0x58, 0x40, 0x04] :=
    ((((d8.still.foldl fun h => h.andThen moves_fcEnter).andThen moves_buffersCommit).andThen moves_evalAll).andThen
      moves_repaceAll).andThen moves_setCheck
  rw [h9.num _ 0 rfl rfl, h8]

end Dev

/-- A running die with a commit that stages the value 5 for the epoch's register. -/
def stagedEpoch : CommitSt :=
  { tc := 0, path := 0, page := none, staged := [((COMMIT 0).key 0 0, some { rst := 0, val := 5 })], pages := [], applied := false }

def epochState : State :=
  { dev := { Dev.reset with sup := { Dev.reset.sup with phase := .on }, commit := some stagedEpoch }, pending := [] }

end Sys2Proof.Machine

open Sys2Proof Sys2Proof.Machine

/-- Refutes O18: the instant of a commit that stages a value for the epoch's own register advances that value, not the epoch before it. -/
theorem not_commitsTakeEffectTogether : ¬ Obligations.CommitsTakeEffectTogether := by
  unfold Obligations.CommitsTakeEffectTogether
  rintro ⟨-, -, -, hall, -⟩
  obtain ⟨t, ht, -, hcommit, hgen, hepoch, -⟩ := hall epochState stagedEpoch rfl rfl rfl rfl fun i _ => Nat.zero_le _
  have ht' : t.dev = epochState.dev.under (epochState.dev.when epochState.dev.runs Dev.commitNow) := by cases ht; rfl
  have hnow : epochState.dev.commitNow = epochState.dev.commitApply stagedEpoch (List.range 34) :=
    Dev.commitNow_late rfl rfl rfl fun i _ => Nat.zero_le _
  have h6 : (epochState.dev.commitApply stagedEpoch (List.range 34)).num (COMMIT 0) = nextEpoch (5 % 65536) % 65536 :=
    Dev.epoch_commitApply (x := 5) rfl (by decide)
  have h0 : epochState.dev.num (COMMIT 0) = 0 := by decide
  rw [ht', show epochState.dev.runs = true from rfl, Dev.when_true, Dev.under_num, hnow, h6, h0] at hepoch
  revert hepoch
  decide
end

section
set_option Elab.async false
/-! Reads of a page's header (R70), and the SMBus target (R459). -/

namespace Sys2Proof.Machine
open Sys2Proof

namespace Dev
variable {d : Dev} {page off path ch : Nat}

/-! ### Header words at a read -/

theorem openRead_low (h : off < 0x040) : openRead page off = false := by
  have h1 (n : Nat) (hn : 0x040 ≤ n) : decide (off = n) = false := decide_eq_false (by omega)
  simp [openRead, h1]

theorem latchRead_low (h : off < 0x040) : d.latchRead path page off ch = none := by
  unfold Dev.latchRead
  extract_lets e
  have hnone : e.latched page off ch = none := by
    unfold Dev.latched
    repeat rw [if_neg (by omega)]
  rw [hnone]
  rfl

theorem openStat_low (h : off < 0x040) : d.openStat page off ch = none := by
  have h1 : ¬ (page = 0x40 ∧ off = BUFM.AUDIT_STAT.off) := fun hh => absurd (hh.2.symm.trans_lt h) (by decide)
  have h2 : ¬ (page = 0x50 ∧ off = MEMC.SCRUB_STAT.off) := fun hh => absurd (hh.2.symm.trans_lt h) (by decide)
  have h3 : ¬ (page = 0x51 ∧ off = MTRN.STEP_STAT.off) := fun hh => absurd (hh.2.symm.trans_lt h) (by decide)
  unfold Dev.openStat
  rw [if_neg h1, if_neg h2, if_neg h3]
  rfl

theorem readEffect_low (h : off < 0x040) : d.readEffect path page off ch = none := by
  unfold Dev.readEffect
  repeat rw [if_neg (by omega)]
  rw [openStat_low h]
  exact latchRead_low h

theorem fuseView_low (h : off < 0x040) : d.fuseView off = none := by
  unfold Dev.fuseView
  repeat rw [if_neg (by omega)]

theorem tableView_low (h : off < 0x040) : d.tableView page off = none := by
  unfold Dev.tableView
  dsimp only
  repeat rw [if_neg (by omega)]

theorem flowView_low (h : off < 0x040) : d.flowView off ch = none := by
  unfold Dev.flowView
  split
  case h_6 => rfl
  all_goals omega

theorem frondView_low (h : off < 0x040) : d.frondView page off ch = none := by
  unfold Dev.frondView
  dsimp only
  repeat rw [if_neg (by omega)]

theorem unitView_low (h : off < 0x040) : d.unitView page off ch = none := by
  unfold Dev.unitView
  repeat rw [if_neg (by omega)]

theorem tmView_low (h : off < 0x040) : d.tmView page off ch = none := by
  unfold Dev.tmView
  dsimp only
  repeat rw [if_neg (by omega)]

theorem otherView_low (h : off < 0x040) : d.otherView page off ch = none := by
  have hpba : ¬ (page = 0x68 ∧ HOST.MSIX_PBA.off ≤ off ∧ off < HOST.MSIX_PBA.off + 8) := fun hh => absurd (hh.2.1.trans_lt h) (by decide)
  unfold Dev.otherView
  iterate 11 rw [if_neg (by omega)]
  rw [if_neg hpba, if_neg (by omega)]

theorem viewed_low (h : off < 0x040) : d.viewed page off ch = none := by
  unfold Dev.viewed
  split <;> simp only [fuseView_low h, tableView_low h, flowView_low h, frondView_low h, unitView_low h, tmView_low h, otherView_low h]

/-- A header word that is a register of its own. -/
theorem pageRead_header {r : Reg} (h : off < 0x040) (hh : d.header page off = none) (hr : headerReg page off = some r) :
    d.pageRead path page off = d.rowRead path r (d.keyCh page (d.selOf path page)) := by
  have hreg : regAt page off = some r := by rw [regAt, hr]
  have hwait : ¬ (page = 0x48 ∧ off = TMGR.COPY_WAIT.off) := fun hh => absurd (hh.2.symm.trans_lt h) (by decide)
  unfold Dev.pageRead
  rw [if_neg hwait]
  simp only [openRead_low h, Bool.false_eq_true, if_false, hh, readEffect_low h, viewed_low h, hreg]

theorem autoInc_low (h : off < 0x040) : d.autoInc path page off = d := by
  unfold Dev.autoInc
  dsimp only
  rw [if_neg]
  simp only [Bool.and_eq_true, decide_eq_true_eq, not_and]
  omega

/-! ### Accesses to header registers -/

/-- A register that is neither banked by path nor windowed. -/
theorem regP_single (r : Reg) (p c : Nat) (hp : r.perPath = false := by rfl) (hw : r.windowed = false := by rfl) : d.regP r p c = d.reg r := by
  have hkey : r.key p c = r.key 0 0 := by simp [Reg.key, hp, hw]
  have hrst : r.rstOf c = r.rstOf 0 := by
    have hoff : r.off < 0x040 ∨ 0x400 ≤ r.off := by
      simp only [Reg.windowed, Bool.and_eq_false_iff, decide_eq_false_iff_not] at hw
      omega
    unfold Reg.rstOf
    congr 1
    repeat' split
    all_goals first | rfl | omega
  unfold Dev.reg Dev.regP
  rw [hkey, hrst]

theorem busAnswer_header {p : Nat} (path : Nat) (ho : d.pageOpen p = true) (h : off < 0x040) (h4 : off % 4 = 0) :
    d.busAnswer path (4096 * p + off) = (d.pageRead path p off).1.emit (.words path [(d.pageRead path p off).2]) := by
  have hpage : (4096 * p + off) / 4096 = p := by omega
  have hoff : (4096 * p + off) % 4096 / 4 * 4 = off := by omega
  unfold Dev.busAnswer Dev.busRead
  simp only [hpage, hoff, ho, if_true, autoInc_low h]

/-- A read of SCRATCH. -/
theorem busAnswer_scratch {p : Nat} (path : Nat) (ho : d.pageOpen p = true) :
    d.busAnswer path (4096 * p + 0x03C) = d.emit (.words path [d.reg (SCRATCH p)]) := by
  have hread : d.pageRead path p 0x03C = (d, d.reg (SCRATCH p)) := by
    rw [pageRead_header (r := SCRATCH p) (by decide) rfl rfl]
    exact congrArg (Prod.mk d) (regP_single _ _ _)
  rw [busAnswer_header path ho (by decide) rfl, hread]

/-- A write of a header word. -/
theorem busWrite_header {p path done : Nat} {w : Word} {found : List Nat} (hp : p < 128) (ho : d.pageOpen p = true) (h : off < 0x040)
    (h4 : off % 4 = 0) : d.busWrite path (4096 * p + off) 15 w done found =
      d.headWrite { path := path % 2, page := p, off := off, ch := d.selOf path p, w := w, done := done, found := found } := by
  have hpage : (4096 * p + off) / 4096 % 128 = p := by omega
  have hoff : (4096 * p + off) % 4096 / 4 * 4 = off := by omega
  unfold Dev.busWrite
  simp only [hpage, hoff]
  rw [Dev.access_open _ _ _ ho, if_neg (by decide)]
  unfold Dev.regWrite
  rw [if_pos h]

/-! ### The mailbox (R459, R460) -/

theorem keepsBut_refl (l : List Nat) : d.keepsBut d l := fun _ _ _ => rfl

/-- A byte is appended to the housekeeping path's request. -/
def mboxByte (d : Dev) (b : Byte) : Dev :=
  if 256 ≤ d.host.mboxIn then d else
  (d.setRegP (HOST.MBOX_IN.ix (d.host.mboxIn / 4)) 1 0 (BitVec.ofNat 32 (setBits (d.regP (HOST.MBOX_IN.ix (d.host.mboxIn / 4)) 1 0).toNat
    (8 * (d.host.mboxIn % 4)) 8 b.toNat))).setHostSt { d.host with mboxIn := d.host.mboxIn + 1 }

theorem mboxAppend_cons (b : Byte) (bs : List Byte) : d.mboxAppend (b :: bs) = (d.mboxByte b).mboxAppend bs := rfl

/-- Byte `i` of the housekeeping path's request. -/
def mboxAt (d : Dev) (i : Nat) : Nat := bitsOf (d.regP (HOST.MBOX_IN.ix (i / 4)) 1 0).toNat (8 * (i % 4)) 8

theorem mboxIx_apart {i j : Nat} (h : i ≠ j) (hi : i < 64) (hj : j < 64) : (HOST.MBOX_IN.ix i).apart (HOST.MBOX_IN.ix j) = true := by
  have hoff (n : Nat) : (HOST.MBOX_IN.ix n).off = 0x500 + 4 * n := rfl
  simp only [Reg.apart, hoff, Bool.or_eq_true, Bool.and_eq_true, bne_iff_ne, decide_eq_true_eq]
  omega

theorem moves_mboxByte {b : Byte} : d.moves (d.mboxByte b) [.host] [0x68] := by
  unfold mboxByte
  exact d.still.ite d.still.setRegP.setHostSt

/-- A request that is full takes no more. -/
theorem mboxByte_full {b : Byte} (h : 256 ≤ d.host.mboxIn) : d.mboxByte b = d := if_pos h

theorem host_mboxByte {b : Byte} (h : d.host.mboxIn < 256) : (d.mboxByte b).host = { d.host with mboxIn := d.host.mboxIn + 1 } := by
  unfold mboxByte
  rw [if_neg (by omega)]
  rfl

theorem mboxAt_mboxByte_same {b : Byte} (h : d.host.mboxIn < 256) : (d.mboxByte b).mboxAt d.host.mboxIn = b.toNat := by
  unfold mboxByte mboxAt
  rw [if_neg (by omega)]
  change bitsOf ((Dev.setRegP _ _ _ _ _).regP _ _ _).toNat _ _ = _
  rw [regP_setRegP_same, BitVec.toNat_ofNat, bitsOf_mod _ _ _ _ (by omega), bitsOf_setBits_same]
  exact Nat.mod_eq_of_lt b.isLt

theorem mboxAt_mboxByte_before {b : Byte} {i : Nat} (h : i < d.host.mboxIn) : (d.mboxByte b).mboxAt i = d.mboxAt i := by
  by_cases hf : 256 ≤ d.host.mboxIn
  · rw [mboxByte_full hf]
  unfold mboxByte mboxAt
  rw [if_neg hf]
  change bitsOf ((Dev.setRegP _ _ _ _ _).regP _ _ _).toNat _ _ = _
  by_cases hw : i / 4 = d.host.mboxIn / 4
  · rw [hw, regP_setRegP_same, BitVec.toNat_ofNat, bitsOf_mod _ _ _ _ (by omega)]
    exact bitsOf_setBits_below _ _ _ _ _ _ (by omega)
  · rw [regP_setRegP_apart _ _ _ _ _ _ _ _ ?_]
    exact mboxIx_apart hw (by omega) (by omega)

theorem moves_mboxAppend {bs : List Byte} : d.moves (d.mboxAppend bs) [.host] [0x68] := by
  change d.moves (bs.foldl Dev.mboxByte d) _ _
  exact d.still.foldl fun h => h.andThen moves_mboxByte

theorem mboxAppend_full {bs : List Byte} (h : 256 ≤ d.host.mboxIn) : d.mboxAppend bs = d := by
  induction bs with
  | nil => rfl
  | cons b bs ih => rw [mboxAppend_cons, mboxByte_full h, ih]

/-- Bytes are appended behind those that a request holds, as far as it has room. -/
theorem mboxAppend_reads : ∀ (bs : List Byte) (d : Dev), d.host.mboxIn ≤ 256 →
    (d.mboxAppend bs).host = { d.host with mboxIn := min 256 (d.host.mboxIn + bs.length) } ∧
      (∀ i, i < d.host.mboxIn → (d.mboxAppend bs).mboxAt i = d.mboxAt i) ∧
      ∀ i, i < bs.length → d.host.mboxIn + i < 256 → (d.mboxAppend bs).mboxAt (d.host.mboxIn + i) = (bs.getD i 0).toNat := by
  intro bs
  induction bs with
  | nil => 
    intro d h
    refine ⟨?_, fun _ _ => rfl, nofun⟩
    rw [List.length_nil, Nat.add_zero, Nat.min_eq_right h]
    rfl
  | cons b bs ih =>
    intro d h
    by_cases hf : 256 ≤ d.host.mboxIn
    · have heq : d.host.mboxIn = 256 := by omega
      rw [mboxAppend_full hf]
      refine ⟨?_, fun _ _ => rfl, fun i _ hi => by omega⟩
      rw [show min 256 (d.host.mboxIn + (b :: bs).length) = d.host.mboxIn by omega]
    · have hh := host_mboxByte (d := d) (b := b) (by omega)
      have hin : (d.mboxByte b).host.mboxIn = d.host.mboxIn + 1 := by rw [hh]
      obtain ⟨hhost, hbefore, hnew⟩ := ih (d.mboxByte b) (by omega)
      rw [mboxAppend_cons]
      refine ⟨?_, fun i hi => ?_, fun i hi h256 => ?_⟩
      · rw [hhost, hin, hh, List.length_cons, Nat.add_assoc, Nat.add_comm 1]
      · rw [hbefore i (by omega), mboxAt_mboxByte_before hi]
      · cases i with
        | zero => rw [Nat.add_zero, hbefore _ (by omega), mboxAt_mboxByte_same (by omega)]; rfl
        | succ i =>
          have h1 := hnew i (by simpa using hi) (by omega)
          rw [hin] at h1
          rw [show d.host.mboxIn + (i + 1) = d.host.mboxIn + 1 + i by omega, h1]
          rfl

/-- The doorbell of the housekeeping path, before its request is looked at. -/
def rung (d : Dev) : Dev :=
  ((d.setHostSt { d.host with mboxIn := 0 }).setHostSt { d.host with mboxIn := 0, bells := [1] }).mboxStat 1 1

theorem doorbell_eq (h : d.host.bells = []) : d.doorbell 1 = Dev.mboxUnknown 2 d.rung := by
  unfold Dev.doorbell Dev.rung
  rw [h]
  change Dev.mboxUnknown 2 ((Dev.setHostSt _ { d.host with mboxIn := 0, bells := d.host.bells ++ [1] }).mboxStat 1 1) = _
  rw [h]
  rfl

theorem moves_rung : d.moves d.rung [.host] [0x68] := d.still.setHostSt.setHostSt.setRegP

theorem mboxIn_rung : d.rung.mboxIn 1 0 = d.mboxIn 1 0 := by
  unfold Dev.mboxIn rung Dev.mboxStat
  rw [regP_setRegP_apart _ _ _ _ _ _ _ _ rfl]
  rfl

theorem doorbell_known (hb : d.host.bells = []) (hc : [1, 2, 3, 4].contains (d.mboxIn 1 0 % 256) = true) :
    (d.doorbell 1).host = { d.host with mboxIn := 0, bells := [1] } ∧ (d.doorbell 1).regP HOST.MBOX_STAT 1 0 = 1 ∧
      d.moves (d.doorbell 1) [.host] [0x68] := by
  have hx : d.doorbell 1 = d.rung := by
    rw [doorbell_eq hb]
    unfold Dev.mboxUnknown
    rw [show d.rung.host.bells = [1] from rfl]
    dsimp only
    rw [mboxIn_rung, if_pos hc]
  rw [hx]
  exact ⟨rfl, regP_setRegP_same _ _ _ _ _, moves_rung⟩

/-- A request that has its answer leaves the line. -/
def answered (d : Dev) (path : Nat) : Dev :=
  ((d.setHostSt { d.host with bells := d.host.bells.tail }).mboxStat path 2).raise HOST.int_MBOX_DONE

theorem host_answered (path : Nat) : (d.answered path).host = { d.host with bells := d.host.bells.tail } := by
  rw [answered, Dev.raise_host]
  rfl

theorem stat_answered (path : Nat) : (d.answered path).regP HOST.MBOX_STAT path 0 = 2 := by
  rw [answered, regP_raise_plain _ _ _ _ _ rfl, Dev.mboxStat, regP_setRegP_same]
  rfl

theorem regP_answered (path p c : Nat) (r : Reg) (h : r.apart HOST.MBOX_STAT = true) (hp : r.plain = true) :
    (d.answered path).regP r p c = d.regP r p c := by
  rw [answered, regP_raise_plain _ _ _ _ _ hp, Dev.mboxStat, regP_setRegP_apart _ _ _ _ _ _ _ _ h, Dev.setHostSt_regP]

theorem moves_answered {path : Nat} : d.moves (d.answered path) [.host] [0x68] := d.still.setHostSt.setRegP.raise

/-- An answer without words: its head names the status. -/
theorem mboxAnswer_nil (path status : Nat) : ∃ head : Nat, bitsOf head 24 8 = status % 256 ∧ d.mboxAnswer path status [] =
    (d.setRegP (HOST.MBOX_OUT.ix 0) path 0 (BitVec.ofNat 32 head)).answered path := by
  unfold Dev.mboxAnswer
  extract_lets req head e
  have he : e = d.setRegP (HOST.MBOX_OUT.ix 0) path 0 (BitVec.ofNat 32 head) := by
    simp only [e, List.zipIdx_cons, List.zipIdx_nil, List.foldl_cons, List.foldl_nil, if_pos (show 0 < 64 by decide)]
  refine ⟨head, ?_, ?_⟩
  · have hbits : bitsOf req 16 8 < 2 ^ 8 := bitsOf_lt _ _ _
    simp only [head, bitsOf_eq _ 24 8, List.length_nil]
    omega
  · rw [← he]
    rfl

theorem doorbell_unknown (hb : d.host.bells = []) (hc : [1, 2, 3, 4].contains (d.mboxIn 1 0 % 256) = false) :
    (d.doorbell 1).host = { d.host with mboxIn := 0 } ∧ (d.doorbell 1).regP HOST.MBOX_STAT 1 0 = 2 ∧
      bitsOf ((d.doorbell 1).regP (HOST.MBOX_OUT.ix 0) 1 0).toNat 24 8 = 1 ∧ (d.doorbell 1).raised HOST.int_MBOX_DONE = true ∧
      d.moves (d.doorbell 1) [.host] [0x68] := by
  have hx : d.doorbell 1 = d.rung.mboxAnswer 1 1 [] := by
    rw [doorbell_eq hb]
    unfold Dev.mboxUnknown
    rw [show d.rung.host.bells = [1] from rfl]
    dsimp only
    rw [mboxIn_rung, if_neg (by rw [hc]; decide)]
    unfold Dev.mboxUnknown
    obtain ⟨head, -, hx⟩ := mboxAnswer_nil (d := d.rung) 1 1
    rw [hx, host_answered, Dev.setRegP_host]
    rfl
  obtain ⟨head, hbits, ha⟩ := mboxAnswer_nil (d := d.rung) 1 1
  rw [hx, ha]
  refine ⟨?_, stat_answered 1, ?_, raised_raise_eq _ _ rfl, ((d.still.andThen moves_rung).setRegP).andThen moves_answered⟩
  · rw [host_answered, Dev.setRegP_host]
    change { d.host with mboxIn := 0, bells := [] } = _
    rw [← hb]
  · rw [regP_answered _ _ _ _ rfl rfl, regP_setRegP_same, BitVec.toNat_ofNat, bitsOf_mod _ _ _ _ (by decide), hbits]

theorem keepsBut_setReg {r : Reg} {w : Word} : d.keepsBut (d.setReg r w 0) [r.key 0 0] := fun k x hk =>
  Dev.regs_setRegP_ne d r 0 0 w x k (by simpa using hk)

end Dev

variable {s : State} {w : Word} {done : Nat} {found : List Nat}

theorem gives_smbusWrite {p : Dev → Prop} (hon : s.On) (ha : s.dev.host.smbAddr % 0x80000 / 4 ≠ 0x3480 / 4)
    (hp : p (s.dev.under (s.dev.smbWrite w done found))) : Gives (.smbusWrite w true done found) s p := by
  refine gives_act (f := fun d => d.when true fun d => d.smbWrite w done found) ?_ hon hp
  change s.actBus _ _ = _
  unfold State.actBus
  rw [if_neg ha]

/-- With a PEC that fails a write has no effect. -/
theorem idle_smbusWrite : Idle (.smbusWrite w false done found) s := by
  change s.actBus _ _ = _
  unfold State.actBus
  split
  · simp [State.actOtp, Dev.when]
  · simp [State.act, State.actRaw, Dev.when]

end Sys2Proof.Machine

open Sys2Proof Sys2Proof.Machine

/-- Settles O17. -/
theorem smbusTarget : Obligations.SmbusTarget := by
  unfold Obligations.SmbusTarget
  refine ⟨fun s addr hon => ?setAddr, fun s p hp ho ha => ?read, fun s hon ha => ?beyond, fun s p w done found hp ho ha => ?write,
    fun s bs ho hl hi => ?append, fun s ho hb hc => ?ring, fun s ho hb hc => ?unknown, fun s n ho => ?take, fun s hon => ?status,
    fun s addr => ?badAddr, fun s w done found => ?badWrite, fun s bs => ?badAppend, fun s => ?badRing⟩
  case setAddr =>
    refine gives_act rfl hon ?_
    exact ⟨rfl, ((Dev.keeps.refl _).set_host).under⟩
  case read =>
    refine gives_act rfl ho.1 ?_
    have hr : s.dev.smbRead = (s.dev.emit (.words 1 [s.dev.reg (SCRATCH p)])).smbNext := by
      unfold Dev.smbRead
      rw [if_pos (by omega), ha, Dev.busAnswer_scratch 1 ho.2]
    have hm : s.dev.moves (s.dev.emit (.words 1 [s.dev.reg (SCRATCH p)])).smbNext [.host] [] := s.dev.still.emit.setHostSt
    have hn : (s.dev.host.smbAddr + 4) % 2 ^ 32 = s.dev.host.smbAddr + 4 := by omega
    rw [hr, hm.under_eq]
    refine ⟨rfl, ?_, ((Dev.keeps.refl _).set_out).set_host⟩
    rw [← hn]
    rfl
  case beyond =>
    refine gives_act rfl hon ?_
    have hr : s.dev.smbRead = (s.dev.emit (.words 1 [0])).smbNext := if_neg (by omega)
    have hm : s.dev.moves (s.dev.emit (.words 1 [0])).smbNext [.host] [] := s.dev.still.emit.setHostSt
    rw [hr, hm.under_eq]
    exact ⟨rfl, rfl, ((Dev.keeps.refl _).set_out).set_host⟩
  case write =>
    refine gives_smbusWrite ho.1 (by omega) ?_
    have hr : s.dev.smbWrite w done found = (s.dev.setReg (SCRATCH p) w).smbNext := by
      unfold Dev.smbWrite
      rw [if_pos (by omega), ha, Dev.busWrite_header hp ho.2 (by decide) rfl]
      rfl
    have hm : s.dev.moves (s.dev.setReg (SCRATCH p) w).smbNext [.host] [p] := by
      refine (s.dev.still.setReg ?_).setHostSt
      simp [SCRATCH]
    have hn : (s.dev.host.smbAddr + 4) % 2 ^ 32 = s.dev.host.smbAddr + 4 := by omega
    rw [hr, hm.under_eq]
    refine ⟨Dev.reg_setReg_same _ _ _ _, ?_, hm.keepsRegs, Dev.keepsBut_setReg⟩
    rw [← hn]
    rfl
  case append =>
    have hm := Dev.moves_mboxAppend (d := s.dev) (bs := bs)
    obtain ⟨hhost, -, hnew⟩ := Dev.mboxAppend_reads bs s.dev hi
    refine gives_actWhen rfl ho.1 (by simpa using hl) ?_
    rw [Dev.access_open _ _ _ ho.2, hm.under_eq]
    exact ⟨hhost, hnew, hm⟩
  case ring =>
    obtain ⟨hhost, hstat, hm⟩ := Dev.doorbell_known hb hc
    refine gives_actWhen rfl ho.1 rfl ?_
    rw [Dev.access_open _ _ _ ho.2, hm.under_eq]
    exact ⟨hhost, hstat, hm⟩
  case unknown =>
    obtain ⟨hhost, hstat, hout, hint, hm⟩ := Dev.doorbell_unknown hb hc
    refine gives_actWhen rfl ho.1 rfl ?_
    rw [Dev.access_open _ _ _ ho.2, hm.under_eq]
    exact ⟨hhost, hstat, hout, hint⟩
  case take => exact gives_access rfl ho ⟨rfl, ((Dev.keeps.refl _).set_out).under⟩
  case status =>
    exact gives_act rfl hon ⟨rfl, ((Dev.keeps.refl _).set_out).under⟩
  case badAddr => exact idle_actSelf rfl (Dev.when_false _ _)
  case badWrite => exact idle_smbusWrite
  case badAppend => exact idle_actSelf rfl (by rw [Bool.false_and, Dev.when_false])
  case badRing => exact idle_actSelf rfl (Dev.when_false _ _)
end

section
set_option Elab.async false
/-! The fuses (R470, R471). -/

namespace Sys2Proof.Machine
open Sys2Proof
variable {s : State}

/-! ### Commands that may blow a fuse -/

theorem gives_otp {c : Instr} {f : Dev → Dev} {p : Dev → Prop} (h : exec c s = s.actOtp fun d => d.when d.runs f) (hon : s.On)
    (hclk : (f s.dev).clk = s.dev.clk) (hp : p (f s.dev)) : Gives c s p := by
  have hw : s.dev.when s.dev.runs f = f s.dev := by rw [(Dev.runs_iff _).mpr hon]; rfl
  refine ⟨{ s with dev := f s.dev }, ?_, rfl, hp⟩
  rw [h]
  unfold State.actOtp
  dsimp only
  rw [hw, ← hclk]

theorem idle_otp {c : Instr} {f : Dev → Dev} (h : exec c s = s.actOtp fun d => d.when d.runs f) (hf : f s.dev = s.dev) : Idle c s := by
  have hw : s.dev.when s.dev.runs f = s.dev := by cases hr : s.dev.runs; exacts [rfl, hf]
  change exec c s = _
  rw [h]
  unfold State.actOtp
  dsimp only
  rw [hw]

namespace Dev
variable {d : Dev}

/-- The fuses, set whole. -/
def setOtp (d : Dev) (o : Otp) : Dev := { d with otp := o }

section SetOtp
variable (o : Otp) (x : Fld) (r : Reg) (b : IntBit) (c : Nat)
@[simp] theorem otp_setOtp : (d.setOtp o).otp = o := rfl
@[simp] theorem host_setOtp : (d.setOtp o).host = d.host := rfl
@[simp] theorem num_setOtp : (d.setOtp o).num r c = d.num r c := rfl
@[simp] theorem raised_setOtp : (d.setOtp o).raised b = d.raised b := rfl
end SetOtp

theorem onesIn_le (n v : Nat) : onesIn n v ≤ n := by
  unfold onesIn
  exact (List.length_filter_le _ _).trans_eq List.length_range

/-! ### Programming (R470) -/

theorem keyGo_refused {path : Nat} (hs : d.fld FUSE.PROG_STAT_STATE ≠ 1) (h : d.keyRefused (d.progData path) = true) :
    d.keyGo path = d.setFld FUSE.PROG_STAT_REFUSED 1 := by
  rw [keyGo, if_neg hs, if_pos h]

theorem keyGo_accepted {path : Nat} (hs : d.fld FUSE.PROG_STAT_STATE ≠ 1) (h : d.keyRefused (d.progData path) = false) :
    d.keyGo path = (d.setHostSt { d.host with prog := some (d.progData path) }).setNum FUSE.PROG_STAT 1 := by
  rw [keyGo, if_neg hs, if_neg (by simp [h])]

/-- The fuses after a programming, with what is shown of it. -/
def progShown (d : Dev) (v left : BitVec 384) : Dev :=
  ((((d.setHostSt { d.host with prog := none }).setOtp { d.otp.blow v left with keyLock := d.otp.keyLock || left == 0 }).setNum FUSE.PROG_STAT
    ((if left = 0 then 2 else 3) + onesIn 384 left.toNat * 256)).raise (if left = 0 then FUSE.int_PROG_DONE else FUSE.int_PROG_FAIL))

theorem progEnd_eq {v : BitVec 384} (h : d.host.prog = some v) (fails : BitVec 384) : ∃ a b, d.progEnd fails =
    (d.progShown v (v &&& ~~~d.otp.hash &&& fails)).log 32 0x0302 a b := by
  unfold progEnd
  rw [h]
  exact ⟨_, _, rfl⟩

theorem moves_progShown {v left : BitVec 384} : d.moves (d.progShown v left) [.otp, .host] [0x03] := by
  unfold progShown setOtp
  exact (d.still.setHostSt.set_otp.setNum).raise

/-! ### SEAL (R471) -/

theorem sealGo_eq {path : Nat} (h : d.sealAccepts path = true) : ∃ a b, d.sealGo path =
    (((d.setOtp { d.otp with sealed := true }).setHostSt { d.host with armed := d.host.armed.set 0 (path % 2) 0 }).raise FUSE.int_SEALED).log
      32 0x0303 a b := by
  unfold sealGo
  rw [if_pos h]
  exact ⟨_, _, rfl⟩

end Dev
end Sys2Proof.Machine

open Sys2Proof Sys2Proof.Machine

/-- Settles O59. -/
theorem fusesAndSealing : Obligations.FusesAndSealing := by
  unfold Obligations.FusesAndSealing
  refine ⟨fun s path ho hs => ?go, fun s path ho hs => ?runs, fun s fails v left hon hp hl => ?done, fun s fails hon hp => ?none,
    fun s path ho hp => ?arm, fun s path v ho hv => ?armNot, fun s path t ho hp ht h0 hle hr hw hs => ?blow,
    fun s path t ho hp ht h => ?sealNot⟩
  case go =>
    refine gives_access rfl ho ?_
    have hm : s.dev.moves (s.dev.keyGo path) [.host] [0x03] := by
      unfold Dev.keyGo
      exact s.dev.still.ite (s.dev.still.setFld.ite s.dev.still.setHostSt.setNum)
    rw [hm.under_eq]
    cases hk : s.dev.keyRefused (s.dev.progData path)
    · rw [Dev.keyGo_accepted hs hk]
      have hm' : s.dev.moves ((s.dev.setHostSt { s.dev.host with prog := some (s.dev.progData path) }).setNum FUSE.PROG_STAT 1) [.host] [0x03] :=
        s.dev.still.setHostSt.setNum
      refine ⟨nofun, fun _ => ⟨Dev.num_setNum_same _ _ _ _, rfl, hm'.keepsRegs⟩, ?_⟩
      exact Dev.keepsBut_setReg (d := s.dev.setHostSt _)
    · rw [Dev.keyGo_refused hs hk]
      have hm' : s.dev.moves (s.dev.setFld FUSE.PROG_STAT_REFUSED 1) [] [0x03] := s.dev.still.setFld
      refine ⟨fun _ => ⟨Dev.on_setFld_eq _ _ _ _ rfl, hm'.keepsRegs, Dev.fld_setFld_beside _ _ _ _ _ rfl⟩, nofun, Dev.keepsBut_setReg⟩
  case runs => exact idle_access rfl ho.2 (if_pos hs)
  case done =>
    obtain ⟨a, b, hx⟩ := Dev.progEnd_eq hp fails
    rw [← hl] at hx
    have hm : s.dev.moves (s.dev.progEnd fails) [.otp, .host] [0x03] := by
      rw [hx]
      exact Dev.moves_progShown.log
    refine gives_otp rfl hon hm.keeps_clk ⟨?_, ?_, ?_, fun h => ?_, fun h => ?_, hm⟩
    · rw [hx, Dev.log_otp, Dev.progShown, Dev.raise_otp]
      rfl
    · rw [hx, Dev.log_host, Dev.progShown, Dev.raise_host]
      rfl
    · rw [hx, Dev.num_log_plain _ _ _ _ _ _ _ _ _ rfl, Dev.progShown, Dev.num_raise_plain _ _ _ _ rfl, Dev.num_setNum_same]
      have := Dev.onesIn_le 384 left.toNat
      refine Nat.mod_eq_of_lt ?_
      split <;> omega
    · rw [hx, Dev.raised_log_plain _ _ _ _ _ _ _ _ rfl, Dev.progShown, if_pos h, if_pos h, Dev.raised_raise_eq _ _ rfl]
    · rw [hx, Dev.raised_log_plain _ _ _ _ _ _ _ _ rfl, Dev.progShown, if_neg h, if_neg h, Dev.raised_raise_eq _ _ rfl]
  case none => exact idle_otp rfl (by rw [Dev.progEnd, hp])
  case arm =>
    refine gives_access rfl ho ?_
    rw [Dev.sealArm, if_pos rfl, Nat.mod_eq_of_lt hp]
    exact ⟨rfl, ((Dev.keeps.refl _).set_host).under⟩
  case armNot => exact idle_access rfl ho.2 (if_neg hv)
  case blow =>
    have ha : s.dev.sealAccepts path = true := by
      simp only [Dev.sealAccepts, Nat.mod_eq_of_lt hp, ← ht]
      simp [h0, hle, hr, hw, hs]
    obtain ⟨a, b, hx⟩ := Dev.sealGo_eq ha
    rw [Nat.mod_eq_of_lt hp] at hx
    have hm : s.dev.moves (s.dev.sealGo path) [.otp, .host] [] := by
      rw [hx]
      exact ((s.dev.still.set_otp).setHostSt.raise).log
    refine gives_otp rfl ho.1 ?_ ?_
    · rw [Dev.access_open _ _ _ ho.2, hm.keeps_clk]
    · dsimp only
      rw [Dev.access_open _ _ _ ho.2]
      refine ⟨?_, ?_, ?_, hm⟩
      · rw [hx, Dev.log_otp, Dev.raise_otp]
        rfl
      · rw [hx, Dev.log_host, Dev.raise_host]
        rfl
      · rw [hx, Dev.raised_log_plain _ _ _ _ _ _ _ _ rfl, Dev.raised_raise_eq _ _ rfl]
  case sealNot =>
    have ha : s.dev.sealAccepts path = false := by
      simp only [Dev.sealAccepts, Nat.mod_eq_of_lt hp, ← ht]
      rcases h with h | h | h | h | h
      · simp [h]
      · simp [Nat.not_le.mpr h]
      · simp [h]
      · simp [h]
      · simp [h]
    refine idle_otp rfl ?_
    rw [Dev.access_open _ _ _ ho.2, Dev.sealGo, if_neg (by simp [ha])]
end

section
set_option Elab.async false
/-! Boot flash commands (R458). -/

namespace Sys2Proof.Machine
open Sys2Proof
variable {s : State}

/-! ### Bytes and words -/

theorem leBytes_leNat : ∀ {n : Nat} {l : List Byte}, l.length = n → leBytes n (leNat l) = l
  | 0, [], _ => rfl
  | n + 1, b :: l, h => by
    have hb : b.toNat < 256 := b.isLt
    have hdiv : (b.toNat + 256 * leNat l) / 256 = leNat l := by omega
    have hlow : BitVec.ofNat 8 (b.toNat + 256 * leNat l) = b := by
      apply BitVec.eq_of_toNat_eq
      rw [BitVec.toNat_ofNat]
      omega
    rw [leNat, leBytes, hdiv, hlow, leBytes_leNat (Nat.succ.inj h)]

theorem leNat_lt : ∀ l : List Byte, leNat l < 256 ^ l.length
  | [] => by simp [leNat]
  | b :: l => by
    have hb : b.toNat < 256 := b.isLt
    have hl := leNat_lt l
    rw [leNat, List.length_cons, Nat.pow_succ]
    omega

theorem length_smapBytes (m : SMap Byte) (d : Byte) : ∀ a n, (m.bytes d a n).length = n
  | _, 0 => rfl
  | a, n + 1 => by rw [SMap.bytes, List.length_cons, length_smapBytes m d (a + 1) n]

theorem length_leBytes : ∀ n v, (leBytes n v).length = n
  | 0, _ => rfl
  | n + 1, v => by rw [leBytes, List.length_cons, length_leBytes n]

/-- A list is the runs of `k` that it is cut into. -/
theorem flatMap_runs {α : Type} (k : Nat) (l : List α) : ∀ n, ((List.range n).flatMap fun i => (l.drop (k * i)).take k) = l.take (k * n)
  | 0 => by simp
  | n + 1 => by
    rw [List.range_succ, List.flatMap_append, flatMap_runs k l n, List.flatMap_singleton, Nat.mul_succ, List.take_add]

/-! ### Elements of a register array -/

theorem Reg.apart_of_off {r q : Reg} (h : r.off ≠ q.off) (hr : r.off < 4096) (hq : q.off < 4096) : r.apart q = true := by
  simp [Reg.apart, h, hr, hq]

theorem Reg.plain_of_off {r : Reg} (hc : (r.page == 0x60) = false) (hb : (r.page == 0x62) = false) (hl : r.off < 0xC00) (hi : r.off ≠ 0x010)
    (ho : r.off < 4096) : r.plain = true := by
  simp [Reg.plain, hc, hb, hi, ho, Nat.not_le.mpr hl]

namespace Dev
variable {d : Dev} {op a n id st : Nat}

/-! ### A command starts -/

/-- Whether a program or an erase would touch the power-fail area. -/
def qspiBarred (d : Dev) (op : Nat) : Bool :=
  op = 1 && d.inPfail (d.num MGMT.QSPI_ADDR) (d.num MGMT.QSPI_LEN) || op = 2 && d.inPfail (d.num MGMT.QSPI_ADDR / 4096 * 4096) 4096

theorem qspiGo_busy (h : d.fld MGMT.QSPI_STAT_STATE = 1) : d.qspiGo op = d := if_pos h

theorem qspiGo_noFlash (h : d.fld MGMT.QSPI_STAT_STATE ≠ 1) (hf : d.boot.flash = false) : d.qspiGo op = d.qspiEnd 4 := by
  rw [Dev.qspiGo, if_neg h, if_pos (by rw [hf]; rfl)]

theorem qspiGo_barred (h : d.fld MGMT.QSPI_STAT_STATE ≠ 1) (hf : d.boot.flash = true) (hb : d.qspiBarred op = true) :
    d.qspiGo op = d.qspiEnd 5 := by
  rw [qspiBarred] at hb
  rw [Dev.qspiGo, if_neg h, if_neg (by rw [hf]; decide), if_pos hb]

theorem qspiGo_starts (h : d.fld MGMT.QSPI_STAT_STATE ≠ 1) (hf : d.boot.flash = true) (hb : d.qspiBarred op = false)
    (hr : d.sup.recording = none) : d.qspiGo op =
      (d.setHostSt { d.host with qspi := some (op % 4, d.num MGMT.QSPI_ADDR, d.num MGMT.QSPI_LEN) }).setNum MGMT.QSPI_STAT 1 := by
  rw [Dev.qspiGo, if_neg h, if_neg (by rw [hf]; decide), if_neg (fun hx => by rw [Dev.qspiBarred, hx] at hb; cases hb),
    if_neg (by rw [hr]; decide)]

/-! ### A command ends -/

theorem num_qspiEnd (h : st < 2 ^ 32) : (d.qspiEnd st).num MGMT.QSPI_STAT = st := by
  rw [qspiEnd, num_raise_plain _ _ _ _ rfl, num_setNum_same, Nat.mod_eq_of_lt h]

theorem raised_qspiEnd : (d.qspiEnd st).raised MGMT.int_QSPI_DONE = true := raised_raise_eq _ _ rfl

theorem host_qspiEnd : (d.qspiEnd st).host = { d.host with qspi := none } := by
  rw [qspiEnd, Dev.raise_host]
  rfl

theorem moves_qspiEnd : d.moves (d.qspiEnd st) [.host] [0x69] := d.still.setHostSt.setNum.raise

theorem flash_qspiEnd : (d.qspiEnd st).flash = d.flash := moves_qspiEnd.keeps_flash

theorem qspiComplete_read : d.qspiComplete 0 a n id = (d.qspiFill a n).qspiEnd 2 := rfl

theorem qspiComplete_erase : ∃ bs, bs = List.replicate 4096 (0xFF : Byte) ∧
    d.qspiComplete 2 a n id = (d.flashWrite (a / 4096 * 4096) bs).qspiEnd 2 := ⟨_, rfl, rfl⟩

theorem qspiComplete_program (h : a % 256 + n ≤ 256) : d.qspiComplete 1 a n id =
    (d.flashWrite a (((d.flashRead a n).zip d.qspiBuf).map fun p => p.1 &&& p.2)).qspiEnd 2 := by
  change (d.qspiProgram a n).qspiEnd 2 = _
  rw [qspiProgram, if_neg (by omega)]

/-! ### The buffer -/

theorem bufIx_off (i : Nat) : (MGMT.QSPI_BUF.ix i).off = 0x500 + 4 * i := rfl

theorem bufIx_apart {i j : Nat} (h : i ≠ j) (hi : i < 64) (hj : j < 64) : (MGMT.QSPI_BUF.ix i).apart (MGMT.QSPI_BUF.ix j) = true :=
  Reg.apart_of_off (by rw [bufIx_off, bufIx_off]; omega) (by rw [bufIx_off]; omega) (by rw [bufIx_off]; omega)

theorem length_qspiBuf : d.qspiBuf.length = 256 := by
  simp [qspiBuf, length_leBytes]

theorem moves_qspiFill : d.moves (d.qspiFill a n) [] [0x69] := d.still.each fun h => h.setNum

/-- What the buffer is filled with. -/
def bufFill (d : Dev) (a n : Nat) : List Byte := d.flashRead a n ++ d.qspiBuf.drop n

theorem num_qspiFill {i : Nat} (hi : i < 64) :
    (d.qspiFill a n).num (MGMT.QSPI_BUF.ix i) = leNat (((d.bufFill a n).drop (4 * i)).take 4) % 2 ^ 32 := by
  change ((d.each 64 fun e j => e.setNum (MGMT.QSPI_BUF.ix j) (leNat (((d.bufFill a n).drop (4 * j)).take 4))).num (MGMT.QSPI_BUF.ix i)) = _
  rw [each_at (rd := fun e => e.num (MGMT.QSPI_BUF.ix i)) hi
    (fun e j hj hn => num_setNum_apart _ _ _ _ _ _ (bufIx_apart (by omega) hi hn))]
  exact num_setNum_same _ _ _ _

theorem qspiBuf_qspiFill (hn : n ≤ 256) : (d.qspiFill a n).qspiBuf = d.bufFill a n := by
  have hlen : (d.bufFill a n).length = 256 := by
    rw [bufFill, List.length_append, flashRead, length_smapBytes, List.length_drop, length_qspiBuf]
    omega
  have hw : ∀ i ∈ List.range 64, leBytes 4 ((d.qspiFill a n).num (MGMT.QSPI_BUF.ix i)) = ((d.bufFill a n).drop (4 * i)).take 4 := by
    intro i hi
    rw [List.mem_range] at hi
    have hl : (((d.bufFill a n).drop (4 * i)).take 4).length = 4 := by
      rw [List.length_take, List.length_drop, hlen]
      omega
    have hlt := leNat_lt (((d.bufFill a n).drop (4 * i)).take 4)
    rw [hl] at hlt
    rw [num_qspiFill hi, Nat.mod_eq_of_lt (by omega), leBytes_leNat hl]
  rw [qspiBuf, List.flatMap_congr hw, flatMap_runs, List.take_of_length_le hlen.le]

theorem qspiBuf_qspiEnd : (d.qspiEnd st).qspiBuf = d.qspiBuf := by
  refine List.flatMap_congr fun i hi => ?_
  have hi' : i < 64 := List.mem_range.mp hi
  have hst : (MGMT.QSPI_BUF.ix i).apart MGMT.QSPI_STAT = true :=
    Reg.apart_of_off (by rw [bufIx_off, show MGMT.QSPI_STAT.off = 0x448 from rfl]; omega) (by rw [bufIx_off]; omega) (by decide)
  have hplain : (MGMT.QSPI_BUF.ix i).plain = true :=
    Reg.plain_of_off rfl rfl (by rw [bufIx_off]; omega) (by rw [bufIx_off]; omega) (by rw [bufIx_off]; omega)
  rw [qspiEnd, num_raise_plain _ _ _ _ hplain, num_setNum_apart _ _ _ _ _ _ hst]
  rfl

end Dev

/-! ### Commands through the registers -/

variable {c : Instr} {op : Nat}

/-- The four flash commands, with their operation codes. -/
theorem exec_qspi (h : c = .qspiRead ∨ c = .qspiProgram ∨ c = .qspiErase ∨ c = .readId) :
    ∃ op, exec c s = s.act fun d => d.access 0x69 fun d => d.qspiGo op := by
  rcases h with rfl | rfl | rfl | rfl
  · exact ⟨0, rfl⟩
  · exact ⟨1, rfl⟩
  · exact ⟨2, rfl⟩
  · exact ⟨3, rfl⟩

/-- A flash command that may run starts. -/
theorem gives_qspiGo (h : exec c s = s.act fun d => d.access 0x69 fun d => d.qspiGo op) (hop : op < 4) (ho : s.Opens 0x69)
    (hs : s.dev.fld MGMT.QSPI_STAT_STATE ≠ 1) (hf : s.dev.boot.flash = true) (hb : s.dev.qspiBarred op = false)
    (hr : s.dev.sup.recording = none) :
    Gives c s fun d => d.host = { s.dev.host with qspi := some (op, s.dev.num MGMT.QSPI_ADDR, s.dev.num MGMT.QSPI_LEN) } ∧
      d.num MGMT.QSPI_STAT = 1 ∧ s.dev.moves d [.host] [0x69] := by
  refine gives_access h ho ?_
  have hm : s.dev.moves (s.dev.qspiGo op) [.host] [0x69] := by
    rw [Dev.qspiGo_starts hs hf hb hr]
    exact s.dev.still.setHostSt.setNum
  rw [hm.under_eq]
  refine ⟨?_, ?_, hm⟩
  · rw [Dev.qspiGo_starts hs hf hb hr, Nat.mod_eq_of_lt hop]
    rfl
  · rw [Dev.qspiGo_starts hs hf hb hr, Dev.num_setNum_same]
    rfl

/-- A flash command that may not run ends at once. -/
theorem gives_qspiEnd {st : Nat} (h : exec c s = s.act fun d => d.access 0x69 fun d => d.qspiGo op) (ho : s.Opens 0x69)
    (hx : s.dev.qspiGo op = s.dev.qspiEnd st) (hst : st < 2 ^ 32) :
    Gives c s fun d => d.num MGMT.QSPI_STAT = st ∧ d.raised MGMT.int_QSPI_DONE = true ∧ d.flash = s.dev.flash := by
  refine gives_access h ho ?_
  rw [hx, Dev.moves_qspiEnd.under_eq]
  exact ⟨Dev.num_qspiEnd hst, Dev.raised_qspiEnd, Dev.flash_qspiEnd⟩

/-- The completion of a flash command in progress. -/
theorem gives_qspiDone {id a n : Nat} {p : Dev → Prop} (hon : s.On) (hs : s.dev.fld MGMT.QSPI_STAT_STATE = 1)
    (hq : s.dev.host.qspi = some (op, a, n)) (hp : p (s.dev.under (s.dev.qspiComplete op a n id))) : Gives (.qspiDone id) s p := by
  refine gives_act rfl hon ?_
  rw [hq]
  dsimp only
  rw [decide_eq_true hs]
  exact hp

end Sys2Proof.Machine

open Sys2Proof Sys2Proof.Machine

/-- Settles O57. -/
theorem flashCommands : Obligations.FlashCommands := by
  unfold Obligations.FlashCommands
  refine ⟨fun s ho hs hf hr => gives_qspiGo rfl (by decide) ho hs hf rfl hr, fun s ho hs hf hr hp => ?program,
    fun s ho hs hf hr hp => ?erase, fun s ho hs hf hr => gives_qspiGo rfl (by decide) ho hs hf rfl hr, fun s c hc ho hs => ?busy,
    fun s c hc ho hs hf => ?noFlash, fun s ho hs hf hp => ?barred, fun s id a n hon hs hq hn => ?programmed,
    fun s id a n hon hs hq => ?erased, fun s id a n hon hs hq hn => ?filled, fun s id hon h => ?idle⟩
  case program => exact gives_qspiGo rfl (by decide) ho hs hf (by simp [Dev.qspiBarred, hp]) hr
  case erase => exact gives_qspiGo rfl (by decide) ho hs hf (by simp [Dev.qspiBarred, hp]) hr
  case busy =>
    obtain ⟨op, hx⟩ := exec_qspi hc
    exact idle_access hx ho.2 (Dev.qspiGo_busy hs)
  case noFlash =>
    obtain ⟨op, hx⟩ := exec_qspi hc
    exact gives_qspiEnd hx ho (Dev.qspiGo_noFlash hs hf) (by decide)
  case barred => exact gives_qspiEnd rfl ho (Dev.qspiGo_barred hs hf (by simp [Dev.qspiBarred, hp])) (by decide)
  case programmed =>
    refine gives_qspiDone hon hs hq ?_
    rw [Dev.qspiComplete_program hn]
    have hm : s.dev.moves ((s.dev.flashWrite a (((s.dev.flashRead a n).zip s.dev.qspiBuf).map fun p => p.1 &&& p.2)).qspiEnd 2)
        [.flash, .host] [0x69] := s.dev.still.flashWrite.andThen Dev.moves_qspiEnd
    rw [hm.under_eq]
    exact ⟨Dev.num_qspiEnd (by decide), Dev.host_qspiEnd, Dev.flash_qspiEnd, Dev.raised_qspiEnd, hm⟩
  case erased =>
    refine gives_qspiDone hon hs hq ?_
    obtain ⟨bs, hbs, hx⟩ := Dev.qspiComplete_erase (d := s.dev) (a := a) (n := n) (id := id)
    rw [hx, ← hbs]
    have hm : s.dev.moves ((s.dev.flashWrite (a / 4096 * 4096) bs).qspiEnd 2) [.flash, .host] [0x69] :=
      s.dev.still.flashWrite.andThen Dev.moves_qspiEnd
    rw [hm.under_eq]
    exact ⟨Dev.num_qspiEnd (by decide), Dev.flash_qspiEnd, hm⟩
  case filled =>
    refine gives_qspiDone hon hs hq ?_
    have hm : s.dev.moves ((s.dev.qspiFill a n).qspiEnd 2) [.host] [0x69] :=
      (s.dev.still.andThen Dev.moves_qspiFill).andThen Dev.moves_qspiEnd
    rw [Dev.qspiComplete_read, hm.under_eq]
    refine ⟨Dev.num_qspiEnd (by decide), hm.keeps_flash, ?_, hm⟩
    rw [Dev.qspiBuf_qspiEnd, Dev.qspiBuf_qspiFill hn, Dev.bufFill]
    exact List.take_left' (length_smapBytes _ _ _ _)
  case idle =>
    refine idle_actSelf rfl ?_
    rcases h with hq | hs
    · rw [hq]
    · cases s.dev.host.qspi with
      | none => rfl
      | some x => rw [decide_eq_false hs]; rfl
end

section
set_option Elab.async false
/-! The housekeeping mailbox (R460). -/

namespace Sys2Proof.Machine
open Sys2Proof

theorem getD_map_range {α : Type} {f : Nat → α} {i n : Nat} (x : α) (h : i < n) : ((List.range n).map f).getD i x = f i := by
  simp [h]

/-- A byte of a little-endian number. -/
theorem bitsOf_leNat : ∀ (bs : List Byte) (j : Nat), bitsOf (leNat bs) (8 * j) 8 = (bs.getD j 0).toNat
  | [], j => by simp [leNat, bitsOf]
  | b :: bs, 0 => by
    have hb : b.toNat < 256 := b.isLt
    rw [leNat, bitsOf_eq, List.getD_cons_zero]
    omega
  | b :: bs, j + 1 => by
    have hb : b.toNat < 256 := b.isLt
    have hdiv : (b.toNat + 256 * leNat bs) / 2 ^ (8 * (j + 1)) = leNat bs / 2 ^ (8 * j) := by
      rw [Nat.mul_succ, Nat.add_comm (8 * j), Nat.pow_add, ← Nat.div_div_eq_div_mul]
      congr 1
      omega
    rw [leNat, bitsOf_eq, hdiv, List.getD_cons_succ, ← bitsOf_leNat bs j, bitsOf_eq]

namespace Dev
variable {d : Dev} {p status : Nat} {ws : List Nat}

/-! ### An answer's words -/

/-- Words written into a path's answer, from word `k` on. -/
def mboxPut (d : Dev) (p : Nat) (ws : List Nat) (k : Nat) : Dev :=
  (ws.zipIdx k).foldl (fun (d : Dev) (x : Nat × Nat) =>
    if x.2 < 64 then d.setRegP (HOST.MBOX_OUT.ix x.2) p 0 (BitVec.ofNat 32 x.1) else d) d

theorem mboxPut_cons {w k : Nat} : d.mboxPut p (w :: ws) k =
    (if k < 64 then d.setRegP (HOST.MBOX_OUT.ix k) p 0 (BitVec.ofNat 32 w) else d).mboxPut p ws (k + 1) := rfl

theorem mboxOut_off (i : Nat) : (HOST.MBOX_OUT.ix i).off = 0x600 + 4 * i := rfl

theorem mboxOut_plain {i : Nat} (hi : i < 64) : (HOST.MBOX_OUT.ix i).plain = true :=
  Reg.plain_of_off rfl rfl (by rw [mboxOut_off]; omega) (by rw [mboxOut_off]; omega) (by rw [mboxOut_off]; omega)

theorem mboxOut_apart_stat {i : Nat} (hi : i < 64) : (HOST.MBOX_OUT.ix i).apart HOST.MBOX_STAT = true :=
  Reg.apart_of_off (by rw [mboxOut_off, show HOST.MBOX_STAT.off = 0x704 from rfl]; omega) (by rw [mboxOut_off]; omega) (by decide)

theorem mboxOut_apart {i j : Nat} (h : i ≠ j) (hi : i < 64) (hj : j < 64) : (HOST.MBOX_OUT.ix i).apart (HOST.MBOX_OUT.ix j) = true :=
  Reg.apart_of_off (by rw [mboxOut_off, mboxOut_off]; omega) (by rw [mboxOut_off]; omega) (by rw [mboxOut_off]; omega)

theorem moves_mboxPut {k : Nat} : d.moves (d.mboxPut p ws k) [] [0x68] :=
  d.still.foldl fun {_ x} h => (h.setRegP (r := HOST.MBOX_OUT.ix x.2)).ite h

/-- Each word of an answer is where it was put, and words before it stay. -/
theorem mboxPut_reads : ∀ (ws : List Nat) (k : Nat) (d : Dev), k + ws.length ≤ 64 →
    (∀ i, i < k → (d.mboxPut p ws k).regP (HOST.MBOX_OUT.ix i) p 0 = d.regP (HOST.MBOX_OUT.ix i) p 0) ∧
      ∀ i, i < ws.length → (d.mboxPut p ws k).regP (HOST.MBOX_OUT.ix (k + i)) p 0 = BitVec.ofNat 32 (ws.getD i 0) := by
  intro ws
  induction ws with
  | nil => exact fun k d _ => ⟨fun _ _ => rfl, nofun⟩
  | cons w ws ih =>
    intro k d hk
    rw [List.length_cons] at hk
    rw [mboxPut_cons, if_pos (by omega)]
    obtain ⟨hbefore, hnew⟩ := ih (k + 1) (d.setRegP (HOST.MBOX_OUT.ix k) p 0 (BitVec.ofNat 32 w)) (by omega)
    refine ⟨fun i hi => ?_, fun i hi => ?_⟩
    · rw [hbefore i (by omega), regP_setRegP_apart _ _ _ _ _ _ _ _ (mboxOut_apart (by omega) (by omega) (by omega))]
    · cases i with
      | zero => rw [show k + 0 = k from rfl, hbefore k (by omega), regP_setRegP_same]; rfl
      | succ i => rw [show k + (i + 1) = k + 1 + i by omega, hnew i (by simpa using hi)]; rfl

/-- The head of an answer: command, length, tag and status. -/
def mboxHead (d : Dev) (p status n : Nat) : Nat :=
  d.mboxIn p 0 % 256 + n % 256 * 256 + bitsOf (d.mboxIn p 0) 16 8 * 65536 + status * 2 ^ 24

theorem mboxAnswer_eq : d.mboxAnswer p status ws = (d.mboxPut p (d.mboxHead p status ws.length :: ws) 0).answered p := rfl

theorem moves_mboxAnswer : d.moves (d.mboxAnswer p status ws) [.host] [0x68] :=
  (d.still.andThen moves_mboxPut).andThen moves_answered

theorem host_mboxAnswer : (d.mboxAnswer p status ws).host = { d.host with bells := d.host.bells.tail } := by
  rw [mboxAnswer_eq, host_answered, moves_mboxPut.keeps_host]

theorem bells_mboxAnswer (h : d.host.bells = [p]) : (d.mboxAnswer p status ws).host.bells = [] := by
  rw [host_mboxAnswer, h]
  rfl

theorem stat_mboxAnswer : (d.mboxAnswer p status ws).regP HOST.MBOX_STAT p 0 = 2 := stat_answered p

theorem raised_mboxAnswer : (d.mboxAnswer p status ws).raised HOST.int_MBOX_DONE = true := raised_raise_eq _ _ rfl

theorem out_mboxAnswer {i : Nat} (hn : ws.length < 64) (hi : i < ws.length + 1) :
    (d.mboxAnswer p status ws).regP (HOST.MBOX_OUT.ix i) p 0 =
      BitVec.ofNat 32 ((d.mboxHead p status ws.length :: ws).getD i 0) := by
  obtain ⟨-, hnew⟩ := mboxPut_reads (p := p) (d.mboxHead p status ws.length :: ws) 0 d (by rw [List.length_cons]; omega)
  rw [mboxAnswer_eq, regP_answered _ _ _ _ (mboxOut_apart_stat (by omega)) (mboxOut_plain (by omega))]
  simpa using hnew i hi

/-- The head of the answer. -/
theorem head_mboxAnswer {cmd : Nat} (hn : ws.length < 64) (hc : d.mboxIn p 0 % 256 = cmd) :
    (d.mboxAnswer p status ws).regP (HOST.MBOX_OUT.ix 0) p 0 =
      BitVec.ofNat 32 (cmd + ws.length * 256 + bitsOf (d.mboxIn p 0) 16 8 * 65536 + status * 2 ^ 24) := by
  rw [out_mboxAnswer hn (Nat.succ_pos _), List.getD_cons_zero, mboxHead, hc, Nat.mod_eq_of_lt (show ws.length < 256 by omega)]

/-- A word of the answer. -/
theorem word_mboxAnswer {i : Nat} (hn : ws.length < 64) (hi : i < ws.length) :
    (d.mboxAnswer p status ws).regP (HOST.MBOX_OUT.ix (i + 1)) p 0 = BitVec.ofNat 32 (ws.getD i 0) :=
  out_mboxAnswer hn (Nat.succ_lt_succ hi)

/-! ### Serving a request -/

theorem mboxUnknown_none {n : Nat} (h : d.host.bells = []) : Dev.mboxUnknown n d = d := by
  unfold Dev.mboxUnknown
  rw [h]
  cases n <;> rfl

variable {cmd : Nat} {f : Dev → Nat → Nat × List Nat}

theorem mboxServe_idle (h : d.host.bells = []) : d.mboxServe cmd f = d := by
  rw [mboxServe, h]

/-- The only request in line is answered. -/
theorem mboxServe_answers (hon : d.sup.phase = .on) (h : d.host.bells = [p]) (hc : d.mboxIn p 0 % 256 = cmd)
    (hf : f d p = (status, ws)) : d.mboxServe cmd f = d.mboxAnswer p status ws := by
  rw [mboxServe, h]
  dsimp only
  rw [if_pos ⟨hon, hc⟩, hf]
  exact mboxUnknown_none (bells_mboxAnswer h)

end Dev

variable {s : State} {c : Instr} {cmd p status : Nat} {ws : List Nat} {f : Dev → Nat → Nat × List Nat}

/-- The firmware answers the only request in line. -/
theorem gives_mboxServe {q : Dev → Prop} (h : exec c s = s.act fun d => d.mboxServe cmd f) (hon : s.On) (hb : s.dev.host.bells = [p])
    (hc : s.dev.mboxIn p 0 % 256 = cmd) (hf : f s.dev p = (status, ws)) (hp : q (s.dev.mboxAnswer p status ws)) : Gives c s q := by
  refine gives_act h hon ?_
  rw [Dev.mboxServe_answers hon hb hc hf, Dev.moves_mboxAnswer.under_eq]
  exact hp

end Sys2Proof.Machine

open Sys2Proof Sys2Proof.Machine

/-- Settles O58. -/
theorem mailboxCommands : Obligations.MailboxCommands := by
  unfold Obligations.MailboxCommands
  refine ⟨fun s p hon hb hc => ?version, fun s p temps hon hb hc => ?sensors, fun s p hon hb hc h => ?noRecord,
    fun s p k hon hb hc hf hn hk => ?record, fun s p hon hb hc => ?report, fun s c temps h hon hb => ?idle⟩
  case version =>
    refine gives_act rfl hon ?_
    rw [Dev.mboxServe_answers hon hb hc rfl]
    have hm : s.dev.moves (s.dev.mboxAnswer p 0 [s.dev.freeVal.toNat % 2 ^ 32, s.dev.num CFGL.IMG_VER, s.dev.num FENG.UCODE_VER]).freed
        [.frees, .host] [0x68] := (s.dev.still.andThen Dev.moves_mboxAnswer).set_frees
    rw [hm.under_eq]
    refine ⟨Dev.bells_mboxAnswer hb, Dev.stat_mboxAnswer, congrArg (· + 1) Dev.moves_mboxAnswer.keeps_frees,
      (Dev.head_mboxAnswer (by simp) hc).trans (by simp), (Dev.word_mboxAnswer (by simp) (i := 1) (by simp)).trans (BitVec.ofNat_toNat _ _),
      (Dev.word_mboxAnswer (by simp) (i := 2) (by simp)).trans (BitVec.ofNat_toNat _ _), Dev.raised_mboxAnswer, hm⟩
  case sensors =>
    refine gives_mboxServe rfl hon hb hc rfl
      ⟨Dev.bells_mboxAnswer hb, Dev.stat_mboxAnswer, ?_, ?_, fun i hi => ?_, Dev.raised_mboxAnswer, Dev.moves_mboxAnswer⟩
    · rw [Dev.head_mboxAnswer (by simp) hc]
      simp
    · rw [show HOST.MBOX_OUT.ix 1 = HOST.MBOX_OUT.ix (0 + 1) from rfl, Dev.word_mboxAnswer (by simp) (by simp), List.getD_cons_zero]
      exact BitVec.ofNat_toNat _ _
    · rw [Dev.word_mboxAnswer (by simp) (by simp; omega)]
      simp [hi]
  case noRecord =>
    refine gives_mboxServe (status := 3) (ws := []) rfl hon hb hc ?_
      ⟨Dev.bells_mboxAnswer hb, ?_, Dev.raised_mboxAnswer, Dev.moves_mboxAnswer⟩
    · dsimp only
      rw [if_pos]
      simpa using h
    · rw [Dev.head_mboxAnswer (by simp) hc]
      simp
  case record =>
    refine gives_mboxServe (status := 0) (ws := (List.range 8).map fun i => leNat (((s.dev.pfailRecord k).drop (4 * i)).take 4)) rfl hon hb hc ?_
      ⟨Dev.bells_mboxAnswer hb, ?_, fun i hi => ?_, Dev.moves_mboxAnswer⟩
    · dsimp only
      rw [if_neg (by simp [hf, hn]), hk]
    · rw [Dev.head_mboxAnswer (by simp) hc]
      simp
    · rw [Dev.word_mboxAnswer (by simp) (by simpa using hi)]
      simp [hi]
  case report =>
    refine gives_mboxServe rfl hon hb hc rfl ⟨Dev.bells_mboxAnswer hb, ?_, fun i hi => ?_, Dev.moves_mboxAnswer⟩
    · rw [Dev.head_mboxAnswer (by simp) hc]
      simp
    · rw [Nat.add_comm 1, Dev.word_mboxAnswer (by simp) (by simp; omega)]
      have hi4 : i / 4 < 16 := by omega
      have hmod : 4 * (i / 4) + i % 4 = i := Nat.div_add_mod i 4
      rw [BitVec.toNat_ofNat, bitsOf_mod _ _ _ _ (by omega), getD_map_range _ hi4, bitsOf_leNat,
        getD_map_range _ (Nat.mod_lt _ (by decide)), hmod]
  case idle =>
    rcases h with rfl | rfl | rfl
    · exact idle_actSelf rfl (Dev.mboxServe_idle hb)
    · exact idle_actSelf rfl (Dev.mboxServe_idle hb)
    · exact idle_actSelf rfl (Dev.mboxServe_idle hb)
end

section
set_option Elab.async false
/-! Abortable operations (R87) and the training steps of memory channels (R393, R405). -/

namespace Sys2Proof.Machine
open Sys2Proof

/-! ### Abortable operations -/

theorem statusWord_lt {state progress : Nat} (h : state < 8) : statusWord state 0 progress < 2 ^ 32 := by
  unfold statusWord
  omega

namespace Dev
variable {d : Dev} {r : Reg} {ch : Nat}

theorem num_startOp (d : Dev) (r : Reg) (ch : Nat) : (d.startOp r ch).num r ch = 1 := by
  rw [startOp, num_setNum_same]
  rfl

theorem num_endOp {state progress : Nat} (hr : r.plain = true := by rfl) (h : state < 8 := by decide) :
    (d.endOp r ch state progress).num r ch = statusWord state 0 progress := by
  rw [endOp, num_opEnd_plain _ _ _ _ _ _ hr, num_setNum_same, Nat.mod_eq_of_lt (statusWord_lt h)]

theorem opState_opEnd {p s c : Nat} (hr : r.plain = true := by rfl) : (d.opEnd p s c).opState r ch = d.opState r ch := by
  rw [opState, num_opEnd_plain _ _ _ _ _ _ hr]
  rfl

theorem opState_setNum_setBits {lo len v : Nat} (h : 3 ≤ lo) (hl : lo + len ≤ 32) :
    (d.setNum r (setBits (d.num r ch) lo len v) ch).opState r ch = d.opState r ch := by
  have hlt := num_lt d r ch
  rw [opState, num_setNum_same, Nat.mod_eq_of_lt (setBits_lt _ _ _ _ _ hlt hl)]
  have := bitsOf_setBits_below (d.num r ch) lo len v 0 3 (by omega)
  rw [bitsOf_eq, bitsOf_eq] at this
  simpa [opState] using this

theorem opState_openProgress {total : Nat} : (d.openProgress r ch total).1.opState r ch = d.opState r ch :=
  opState_setNum_setBits (d := d.freed) (by decide) (by decide)

theorem opState_setNum_aborted : (d.setNum r (setBits (d.num r ch) 0 3 3) ch).opState r ch = 3 := by
  have hlt := num_lt d r ch
  rw [opState, num_setNum_same, Nat.mod_eq_of_lt (setBits_lt _ _ _ _ _ hlt (by decide))]
  have := bitsOf_setBits_same (d.num r ch) 0 3 3
  rw [bitsOf_eq] at this
  simpa using this

/-- An operation that runs is aborted, after what its abort leaves behind. -/
theorem opState_abortOp {f : Dev → Dev} (h : d.opState r ch = 1) (hf : ∀ x, (f x).opState r ch = x.opState r ch)
    (hr : r.plain = true := by rfl) : (d.abortOp r ch f).opState r ch = 3 := by
  rw [abortOp, if_pos h]
  dsimp only
  rw [opState_opEnd hr, hf, opState_setNum_aborted]

theorem abortOp_idle {f : Dev → Dev} (h : d.opState r ch ≠ 1) (h2 : d.opState r ch ≠ 2) : d.abortOp r ch f = d := by
  rw [abortOp, if_neg h, if_neg h2]

end Dev
end Sys2Proof.Machine

/-! ### What leaves parts as they were, and reports nothing -/

namespace Sys2Proof.Machine.Dev.keeps
open Sys2Proof
variable {d0 d e : Dev} {P : List Part}

/-- A step that moves one part. -/
theorem of_part (q : Part) (h : d0.keeps d P) (hq : P.contains q = true) (hs : ∀ p : Part, p ≠ q → d.same e p) : d0.keeps e P :=
  h.trans fun p hp => hs p fun hx => hp (by simpa [hx] using hq)

theorem setRegP {r : Reg} {p c : Nat} {v : Word} (h : d0.keeps d P) (hp : P.contains .regs = true := by rfl) :
    d0.keeps (d.setRegP r p c v) P := h.of_part .regs hp fun p hp => by cases p <;> first | rfl | exact absurd rfl hp

theorem setReg {r : Reg} {v : Word} {c : Nat} (h : d0.keeps d P) (hp : P.contains .regs = true := by rfl) : d0.keeps (d.setReg r v c) P :=
  h.setRegP hp

theorem setNum {r : Reg} {v c : Nat} (h : d0.keeps d P) (hp : P.contains .regs = true := by rfl) : d0.keeps (d.setNum r v c) P := h.setReg hp

theorem setFld {x : Fld} {v c : Nat} (h : d0.keeps d P) (hp : P.contains .regs = true := by rfl) : d0.keeps (d.setFld x v c) P := h.setNum hp

theorem each {n : Nat} {g : Dev → Nat → Dev} (h : d0.keeps d P)
    (hg : ∀ {x : Dev} {a : Nat}, d0.keeps x P → d0.keeps (g x a) P) : d0.keeps (d.each n g) P := h.foldl hg

theorem set_mem {x} (h : d0.keeps d P) (hp : P.contains .mem = true := by rfl) : d0.keeps { d with mem := x } P :=
  h.of_part .mem hp fun p hp => by cases p <;> first | rfl | exact absurd rfl hp

theorem setMem {x : MemSt} (h : d0.keeps d P) (hp : P.contains .mem = true := by rfl) : d0.keeps (d.setMem x) P := h.set_mem hp

end Sys2Proof.Machine.Dev.keeps

namespace Sys2Proof.Machine.Dev
open Sys2Proof

theorem keepsBut_setNum {d : Dev} {r : Reg} {v c : Nat} : d.keepsBut (d.setNum r v c) [r.key 0 c] := fun k x hk =>
  Dev.regs_setRegP_ne d r 0 c _ x k (by simpa using hk)

end Sys2Proof.Machine.Dev

namespace Sys2Proof.Machine.Dev.moves
open Sys2Proof
variable {d0 d : Dev} {P : List Part} {G : List Nat} {r : Reg} {ch : Nat}

theorem startOp (h : d0.moves d P G) (hg : G.contains r.page = true := by rfl) : d0.moves (d.startOp r ch) P G := h.setNum hg

theorem endOp {st n : Nat} (h : d0.moves d P G) (hg : G.contains r.page = true := by rfl) : d0.moves (d.endOp r ch st n) P G :=
  (h.setNum hg).opEnd

theorem openProgress {n : Nat} (h : d0.moves d P G) (hp : P.contains .frees = true := by rfl)
    (hg : G.contains r.page = true := by rfl) : d0.moves (d.openProgress r ch n).1 P G := (h.freed hp).setNum hg

theorem abortOp {f : Dev → Dev} (h : d0.moves d P G) (hf : ∀ {x : Dev}, d0.moves x P G → d0.moves (f x) P G)
    (hg : G.contains r.page = true := by rfl) : d0.moves (d.abortOp r ch f) P G := by
  unfold Dev.abortOp
  exact (hf (h.setNum hg)).opEnd.ite ((h.setNum hg).ite h)

end Sys2Proof.Machine.Dev.moves

namespace Sys2Proof.Machine
open Sys2Proof

/-! ### Runs of keys in a sparse map -/

theorem smapGet_append {α : Type} {l r : SMap α} {x : α} {k : Nat} (h : ∀ p ∈ l, p.1 ≠ k) : SMap.get (l ++ r) x k = SMap.get r x k := by
  induction l with
  | nil => rfl
  | cons p l ih =>
    obtain ⟨a, y⟩ := p
    rw [List.cons_append, SMap.get, if_neg (h (a, y) List.mem_cons_self)]
    exact ih fun q hq => h q (List.mem_cons_of_mem _ hq)

/-- A run of keys that no entry before it holds. -/
theorem smapGet_run {α : Type} {g : Nat → α} {x : α} {b i : Nat} : ∀ (n : Nat) (r : SMap α), i < n →
    SMap.get (((List.range n).map fun j => (b + j, g j)) ++ r) x (b + i) = g i
  | n + 1, r, h => by
    rw [List.range_succ, List.map_append, List.append_assoc]
    rcases Nat.lt_succ_iff_lt_or_eq.mp h with hlt | rfl
    · exact smapGet_run n _ hlt
    · rw [smapGet_append]
      · exact if_pos rfl
      · intro p hp
        obtain ⟨j, hj, rfl⟩ := List.mem_map.mp hp
        have := List.mem_range.mp hj
        dsimp only
        omega

/-! ### The pattern of a run of bursts -/

/-- The array after one burst of a pattern has been written to a channel. -/
def patternPut (m a v : Nat) (p : SMap Nat) (i : Nat) : SMap Nat :=
  p.set 0 (m * 2 ^ 24 + (a + i) % 2 ^ 24) (v + i * 2 ^ 35 + 2 ^ 60)

/-- The array after bursts of a pattern have been written to a channel. -/
def patternOf (p : SMap Nat) (m a v n : Nat) : SMap Nat := (List.range n).foldl (patternPut m a v) p

theorem patternOf_succ {p : SMap Nat} {m a v n : Nat} : patternOf p m a v (n + 1) = patternPut m a v (patternOf p m a v n) n := by
  unfold patternOf
  rw [List.range_succ, List.foldl_concat]

theorem patternOf_get {p : SMap Nat} {m a v i n : Nat} (hn : n ≤ 2 ^ 24) (hi : i < n) :
    (patternOf p m a v n).get 0 (m * 2 ^ 24 + (a + i) % 2 ^ 24) = v + i * 2 ^ 35 + 2 ^ 60 := by
  induction n with
  | zero => omega
  | succ n ih =>
    rw [patternOf_succ, patternPut, SMap.get_set]
    by_cases h : i = n
    · rw [if_pos (by rw [h]), h]
    · rw [if_neg (by omega)]
      exact ih (by omega) (by omega)

namespace Dev
variable {d : Dev} {m : Nat}

theorem patternRun_eq : d.patternRun m = d.setMem { d.mem with
    pattern := patternOf d.mem.pattern m (d.num MTRN.PAT_ADDR m % 2 ^ 24) (d.fld MTRN.PAT_CFG_PATTERN m + d.num MTRN.PAT_FIXED m * 8)
      (d.fld MTRN.PAT_CFG_LEN m) } := by
  unfold Dev.patternRun
  dsimp only
  generalize d.num MTRN.PAT_ADDR m % 2 ^ 24 = a
  generalize d.fld MTRN.PAT_CFG_PATTERN m + d.num MTRN.PAT_FIXED m * 8 = v
  generalize d.fld MTRN.PAT_CFG_LEN m = n
  induction n with
  | zero => rfl
  | succ n ih =>
    rw [List.range_succ, List.foldl_append, ih, patternOf_succ]
    rfl

theorem patternRun_get {i : Nat} (hi : i < d.fld MTRN.PAT_CFG_LEN m) :
    (d.patternRun m).mem.pattern.get 0 (m * 2 ^ 24 + (d.num MTRN.PAT_ADDR m % 2 ^ 24 + i) % 2 ^ 24) =
      d.fld MTRN.PAT_CFG_PATTERN m + d.num MTRN.PAT_FIXED m * 8 + i * 2 ^ 35 + 2 ^ 60 := by
  have hlen : d.fld MTRN.PAT_CFG_LEN m < 2 ^ 12 := fld_lt _ _ _
  rw [patternRun_eq]
  exact patternOf_get (by omega) hi

theorem checkRun_get {i : Nat} (hi : i < 1024) : (d.checkRun m).mem.pattern.get 0 (m * 2 ^ 24 + i) = 2 + i * 2 ^ 35 + 2 ^ 60 := by
  change SMap.get (_ ++ _ ++ _) _ _ = _
  rw [List.append_assoc, smapGet_append, smapGet_run _ _ hi]
  intro p hp
  have := of_decide_eq_true (List.mem_filter.mp hp).2
  omega

/-! ### A step starts, is refused, or is aborted -/

theorem inWindow_open {f : Dev → Dev} (h : d.on MTRN.TRAIN_STAT_WINDOW = true) : d.inWindow f = f d := if_pos h

theorem inWindow_shut {f : Dev → Dev} (h : d.on MTRN.TRAIN_STAT_WINDOW = false) : d.inWindow f = d.raise MTRN.int_REFUSED :=
  if_neg (by rw [h]; decide)

theorem stepGo_starts {step : Nat} (hw : d.on MTRN.TRAIN_STAT_WINDOW = true) (h : d.opState MTRN.STEP_STAT m ≠ 1) :
    d.stepGo m step = ((d.setMem { d.mem with step := d.mem.step.set 0 m step }).stepArray m step).startOp MTRN.STEP_STAT m := by
  rw [stepGo, inWindow_open hw, if_neg h]

/-- A step's effect on the array leaves all but the array alone. -/
theorem stepArray_eq {step : Nat} : ∃ p, d.stepArray m step = d.setMem { d.mem with pattern := p } := by
  unfold stepArray
  split
  · exact ⟨_, patternRun_eq⟩
  · split
    · exact ⟨_, rfl⟩
    · exact ⟨d.mem.pattern, rfl⟩

theorem stepArray_low {step : Nat} (h : step < 3) : d.stepArray m step = d := by
  rw [stepArray, if_neg (by omega), if_neg (by omega)]

/-- What is left to say of a channel's step once it has started. -/
def stepped (d : Dev) (m step : Nat) : Dev := (d.setMem { d.mem with step := d.mem.step.set 0 m step }).stepArray m step

theorem stepped_eq {step : Nat} : ∃ p, d.stepped m step = d.setMem { d.mem with step := d.mem.step.set 0 m step, pattern := p } := by
  obtain ⟨p, hp⟩ := stepArray_eq (d := d.setMem { d.mem with step := d.mem.step.set 0 m step }) (m := m) (step := step)
  exact ⟨p, hp⟩

/-! ### The end of a step -/

theorem tapWord_lt (l : List Nat) (i : Nat) : tapWord l i < 2 ^ 32 := by
  simp only [tapWord, List.range_succ, List.range_zero, List.nil_append, List.map_append, List.map_cons, List.map_nil, List.sum_append,
    List.sum_cons, List.sum_nil]
  omega

theorem rdDly_apart {i : Nat} {r : Reg} (hi : i < 4) (h : r.off < 4096) (hr : r.off < 0x98 ∨ 0xA8 ≤ r.off := by decide) :
    (MTRN.DQ_RD_DLY.ix i).apart r = true := by
  have hoff : (MTRN.DQ_RD_DLY.ix i).off = 0x98 + 4 * i := rfl
  exact Reg.apart_of_off (by omega) (by omega) h

theorem wrDly_apart {i : Nat} {r : Reg} (hi : i < 4) (h : r.off < 4096) (hr : r.off < 0xA8 ∨ 0xB8 ≤ r.off := by decide) :
    (MTRN.DQ_WR_DLY.ix i).apart r = true := by
  have hoff : (MTRN.DQ_WR_DLY.ix i).off = 0xA8 + 4 * i := rfl
  exact Reg.apart_of_off (by omega) (by omega) h

theorem rdDly_plain {i : Nat} (hi : i < 4) : (MTRN.DQ_RD_DLY.ix i).plain = true := by
  have hoff : (MTRN.DQ_RD_DLY.ix i).off = 0x98 + 4 * i := rfl
  exact Reg.plain_of_off rfl rfl (by omega) (by omega) (by omega)

theorem wrDly_plain {i : Nat} (hi : i < 4) : (MTRN.DQ_WR_DLY.ix i).plain = true := by
  have hoff : (MTRN.DQ_WR_DLY.ix i).off = 0xA8 + 4 * i := rfl
  exact Reg.plain_of_off rfl rfl (by omega) (by omega) (by omega)

theorem wck_latchStep {t : Trained} : (d.latchStep m 1 t).num MTRN.WCK_DLY m % 256 = t.wck % 256 := by
  have h := bitsOf_setBits_same (d.num MTRN.WCK_DLY m) (8 * 0) 8 (t.wck % 256)
  have hlt := setBits_lt (d.num MTRN.WCK_DLY m) (8 * 0) 8 (t.wck % 256) 32 (num_lt _ _ _) (by decide)
  rw [latchStep]
  dsimp only
  rw [num_setNum_same, Nat.mod_eq_of_lt hlt]
  rw [bitsOf_eq] at h
  simpa using h

theorem rd_latchStep {t : Trained} {i : Nat} (hi : i < 4) : (d.latchStep m 2 t).num (MTRN.DQ_RD_DLY.ix i) m = tapWord t.rd i := by
  rw [latchStep]
  dsimp only
  rw [num_setNum_apart _ _ _ _ _ _ (rdDly_apart hi (by decide)), num_setNum_apart _ _ _ _ _ _ (rdDly_apart hi (by decide)),
    num_setNum_apart _ _ _ _ _ _ (rdDly_apart hi (by decide)), each_at (rd := fun e => e.num (MTRN.DQ_RD_DLY.ix i) m) hi
    (fun e j hj hn => num_setNum_apart _ _ _ _ _ _ ?_)]
  · rw [num_setNum_same, Nat.mod_eq_of_lt (tapWord_lt _ _)]
  · have hoff (k : Nat) : (MTRN.DQ_RD_DLY.ix k).off = 0x98 + 4 * k := rfl
    exact Reg.apart_of_off (by rw [hoff, hoff]; omega) (by rw [hoff]; omega) (by rw [hoff]; omega)

theorem wr_latchStep {t : Trained} {i : Nat} (hi : i < 4) : (d.latchStep m 3 t).num (MTRN.DQ_WR_DLY.ix i) m = tapWord t.wr i := by
  rw [latchStep]
  dsimp only
  rw [num_setNum_apart _ _ _ _ _ _ (wrDly_apart hi (by decide)), num_setNum_apart _ _ _ _ _ _ (wrDly_apart hi (by decide)),
    each_at (rd := fun e => e.num (MTRN.DQ_WR_DLY.ix i) m) hi (fun e j hj hn => num_setNum_apart _ _ _ _ _ _ ?_)]
  · rw [num_setNum_same, Nat.mod_eq_of_lt (tapWord_lt _ _)]
  · have hoff (k : Nat) : (MTRN.DQ_WR_DLY.ix k).off = 0xA8 + 4 * k := rfl
    exact Reg.apart_of_off (by rw [hoff, hoff]; omega) (by rw [hoff]; omega) (by rw [hoff]; omega)

theorem moves_latchStep {step : Nat} {t : Trained} : d.moves (d.latchStep m step t) [] [0x51] := by
  unfold latchStep
  dsimp only
  split
  · exact d.still.setNum.setNum.setNum
  · exact d.still.setNum
  · exact (d.still.each fun {_ i} h => h.setNum (r := MTRN.DQ_RD_DLY.ix i)).setNum.setNum.setNum
  · exact (d.still.each fun {_ i} h => h.setNum (r := MTRN.DQ_WR_DLY.ix i)).setNum.setNum
  · exact d.still

theorem moves_noteStep {step : Nat} {ok : Bool} : d.moves (d.noteStep m step ok) [.mem] [0x51] := d.still.setMem.setFld

/-- What a channel's bits of the check say after a step. -/
theorem checked_noteStep {step : Nat} {ok : Bool} : (d.noteStep m step ok).mem.checked.get 0 m =
    (let ended := if step = 4 then 4 else d.mem.checked.get 0 m / 4 * 4
     if !ok then ended + 2 else if step = 4 then 5 else d.mem.checked.get 0 m) :=
  SMap.get_set_same _ _ _ _

theorem num_noteStep {step c : Nat} {ok : Bool} {r : Reg} (h : r.apart MTRN.TRAIN_STAT = true) :
    (d.noteStep m step ok).num r c = d.num r c := num_setFld_apart _ _ _ _ _ _ h

/-- A step's end, once it is known that one runs. -/
theorem stepEnd_eq {progress : Nat} {t : Trained} (h : d.opState MTRN.STEP_STAT m = 1) :
    d.stepEnd m progress t = (((if t.ok then d.latchStep m (d.mem.step.get 0 m) t else d).noteStep m (d.mem.step.get 0 m) t.ok).endOp
      MTRN.STEP_STAT m (if t.ok then 2 else 4) progress).raise (if t.ok then MTRN.int_STEP_DONE else MTRN.int_STEP_FAIL) := by
  rw [stepEnd, if_neg (by omega)]

theorem num_stepEnded {st progress c : Nat} {r : Reg} {b : IntBit} (h : r.apart MTRN.STEP_STAT = true) (hr : r.plain = true) :
    ((d.endOp MTRN.STEP_STAT m st progress).raise b).num r c = d.num r c := by
  rw [num_raise_plain _ _ _ _ hr, endOp, num_opEnd_plain _ _ _ _ _ _ hr, num_setNum_apart _ _ _ _ _ _ h]

/-! ### The comparator -/

theorem pinErr_off (k : Nat) : (MTRN.PIN_ERR.ix k).off = 0x58 + 4 * k := rfl

theorem pinErr_apart {k j : Nat} (h : k ≠ j) (hk : k < 16) (hj : j < 16) : (MTRN.PIN_ERR.ix k).apart (MTRN.PIN_ERR.ix j) = true :=
  Reg.apart_of_off (by rw [pinErr_off, pinErr_off]; omega) (by rw [pinErr_off]; omega) (by rw [pinErr_off]; omega)

/-- A walk that writes each pin's count by what it holds. -/
theorem pinErr_each {f : Nat → Nat → Nat} {k : Nat} (hk : k < 16) :
    (d.each 16 fun d j => d.setNum (MTRN.PIN_ERR.ix j) (f j (d.num (MTRN.PIN_ERR.ix j) m)) m).num (MTRN.PIN_ERR.ix k) m =
      f k (d.num (MTRN.PIN_ERR.ix k) m) % 2 ^ 32 := by
  have hne (e : Dev) (j v : Nat) (h : k ≠ j) (hj : j < 16) :
      (e.setNum (MTRN.PIN_ERR.ix j) v m).num (MTRN.PIN_ERR.ix k) m = e.num (MTRN.PIN_ERR.ix k) m :=
    num_setNum_apart _ _ _ _ _ _ (pinErr_apart h hk hj)
  rw [each_at (rd := fun e => e.num (MTRN.PIN_ERR.ix k) m) hk (fun e j hj hn => hne _ _ _ (by omega) hn)]
  rw [num_setNum_same, each_keeps (rd := fun e => e.num (MTRN.PIN_ERR.ix k) m) (fun e j hj => hne _ _ _ (by omega) (by omega))]

end Dev
end Sys2Proof.Machine

open Sys2Proof Sys2Proof.Machine

/-- Settles O47. -/
theorem trainingSteps : Obligations.TrainingSteps := by
  unfold Obligations.TrainingSteps
  refine ⟨fun s c m step hc ho hm hw hs => ?go, fun s c m e hc ho hm hw => ?shut, fun s m ho hm hs => ?abort,
    fun s m progress t hon hm hs hok => ?done, fun s m progress t hon hm hs hok => ?failed, fun s progress t hon hs => ?idle,
    fun s m ho hm hw => ?write, fun s m e ho hm hw => ?read, fun s m ho hm hw => ?clear⟩
  case go =>
    have hmod : m % 64 = m := Nat.mod_eq_of_lt hm
    have hexec : exec c s = s.act fun d => d.access 0x51 fun d => d.stepGo (m % 64) step := by
      rcases hc with ⟨rfl, rfl⟩ | ⟨rfl, rfl⟩ | ⟨rfl, rfl⟩ | ⟨rfl, rfl⟩ | ⟨rfl, rfl⟩ <;> rfl
    refine gives_access hexec ho ?_
    have hx := Dev.stepGo_starts (step := step) hw hs
    obtain ⟨p, hp⟩ := Dev.stepped_eq (d := s.dev) (m := m) (step := step)
    have hmv : s.dev.moves (s.dev.stepGo m step) [.mem] [0x51] := by
      rw [hx, ← Dev.stepped, hp]
      exact s.dev.still.setMem.startOp
    have hmem : (s.dev.stepGo m step).mem = (s.dev.stepped m step).mem := by
      rw [hx, ← Dev.stepped]
      rfl
    rw [hmod, hmv.under_eq]
    refine ⟨?_, ?_, fun hlt => ?_, fun h3 i hi => ?_, fun h4 _ i hi => ?_, ?_, ?_⟩
    · rw [hx, Dev.num_startOp]
    · rw [hmem, hp]
      exact SMap.get_set_same _ _ _ _
    · rw [hmem, Dev.stepped, Dev.stepArray_low hlt]
      rfl
    · rw [hmem, Dev.stepped, h3, Dev.stepArray, if_pos rfl]
      exact Dev.patternRun_get (d := s.dev.setMem _) hi
    · rw [hmem, Dev.stepped, h4, Dev.stepArray, if_neg (by decide), if_pos rfl]
      exact Dev.checkRun_get hi
    · rw [hx, ← Dev.stepped, hp]
      exact ((Dev.keeps.refl _).setMem).setNum
    · rw [hx, ← Dev.stepped, hp]
      exact Dev.keepsBut_setNum (d := s.dev.setMem _)
  case shut =>
    have hmod : m % 64 = m := Nat.mod_eq_of_lt hm
    have hexec : ∃ f : Dev → Dev, exec c s = s.act fun d => d.access 0x51 fun d => d.inWindow f := by
      rcases hc with rfl | rfl | rfl | rfl | rfl | rfl | rfl | rfl <;> exact ⟨_, rfl⟩
    obtain ⟨f, hf⟩ := hexec
    refine gives_access hf ho ?_
    rw [Dev.inWindow_shut hw]
    exact ⟨Dev.raised_raise_eq _ _ rfl, Dev.reportsOnly_under (Dev.reportsOnly_raise _ _)⟩
  case abort =>
    refine gives_access rfl ho ?_
    have hmv : s.dev.moves (s.dev.stepAbort m) [.frees] [0x51] := s.dev.still.abortOp fun h => h.openProgress
    rw [Nat.mod_eq_of_lt hm, hmv.under_eq]
    exact ⟨Dev.opState_abortOp hs fun x => Dev.opState_openProgress, hmv⟩
  case done =>
    subst hm
    refine gives_run rfl hon ?_
    have hx := Dev.stepEnd_eq (progress := progress) (t := t) hs
    rw [hok, if_pos rfl, if_pos rfl, if_pos rfl] at hx
    generalize t.channel % 64 = m at hs hx ⊢
    have hmv : s.dev.moves (s.dev.stepEnd m progress t) [.mem] [0x51] := by
      rw [hx]
      exact (((s.dev.still.andThen Dev.moves_latchStep).andThen Dev.moves_noteStep).endOp).raise
    rw [hmv.under_eq]
    refine ⟨?_, ?_, fun h1 => ?_, fun h2 i hi => ?_, fun h3 i hi => ?_, fun h4 => ?_, hmv⟩
    · rw [hx, Dev.num_raise_plain _ _ _ _ rfl, Dev.num_endOp]
    · rw [hx]
      exact Dev.raised_raise_eq _ _ rfl
    · rw [hx, Dev.num_stepEnded rfl rfl, Dev.num_noteStep rfl, h1, Dev.wck_latchStep]
    · rw [hx, Dev.num_stepEnded (Dev.rdDly_apart hi (by decide)) (Dev.rdDly_plain hi), Dev.num_noteStep (Dev.rdDly_apart hi (by decide)), h2,
        Dev.rd_latchStep hi]
    · rw [hx, Dev.num_stepEnded (Dev.wrDly_apart hi (by decide)) (Dev.wrDly_plain hi), Dev.num_noteStep (Dev.wrDly_apart hi (by decide)), h3,
        Dev.wr_latchStep hi]
    · rw [hx, Dev.raise_mem, Dev.endOp, Dev.opEnd_mem, Dev.setNum_mem, Dev.checked_noteStep, h4]
      rfl
  case failed =>
    subst hm
    refine gives_run rfl hon ?_
    have hx := Dev.stepEnd_eq (progress := progress) (t := t) hs
    rw [hok, if_neg (by decide), if_neg (by decide), if_neg (by decide)] at hx
    generalize t.channel % 64 = m at hs hx ⊢
    have hmv : s.dev.moves (s.dev.stepEnd m progress t) [.mem] [0x51] := by
      rw [hx]
      exact ((s.dev.still.andThen Dev.moves_noteStep).endOp).raise
    rw [hmv.under_eq]
    refine ⟨?_, ?_, ?_, hmv⟩
    · rw [hx, Dev.num_raise_plain _ _ _ _ rfl, Dev.num_endOp]
    · rw [hx]
      exact Dev.raised_raise_eq _ _ rfl
    · rw [hx, Dev.raise_mem, Dev.endOp, Dev.opEnd_mem, Dev.setNum_mem, Dev.checked_noteStep]
      simp only [Bool.not_false, if_true]
      split <;> omega
  case idle => exact idle_runSelf rfl (by rw [Dev.stepEnd, if_pos hs])
  case write =>
    refine gives_access rfl ho ?_
    rw [Nat.mod_eq_of_lt hm, Dev.cmpWrite, Dev.inWindow_open hw]
    refine ⟨fun i hi => Dev.patternRun_get hi, ?_⟩
    rw [Dev.patternRun_eq]
    exact ((Dev.keeps.refl _).setMem).under
  case read =>
    refine gives_access rfl ho ?_
    have hx : s.dev.cmpRead m e = s.dev.each 16 fun d k =>
      d.setNum (MTRN.PIN_ERR.ix k) (min 0xFFFFFFFF (d.num (MTRN.PIN_ERR.ix k) m + e.getD k 0)) m := Dev.inWindow_open hw
    have hmv : s.dev.moves (s.dev.cmpRead m e) [] [0x51] := by
      rw [hx]
      exact s.dev.still.each fun {_ k} h => h.setNum (r := MTRN.PIN_ERR.ix k)
    rw [Nat.mod_eq_of_lt hm, hmv.under_eq]
    refine ⟨fun k hk => ?_, ?_, hmv.2⟩
    · rw [hx, Dev.pinErr_each (f := fun k n => min 0xFFFFFFFF (n + e.getD k 0)) hk]
      omega
    · rw [hx]
      exact (Dev.keeps.refl _).each fun h => h.setNum
  case clear =>
    refine gives_access rfl ho ?_
    have hx : s.dev.cmpClear m = s.dev.each 16 fun d k => d.setNum (MTRN.PIN_ERR.ix k) 0 m := Dev.inWindow_open hw
    have hmv : s.dev.moves (s.dev.cmpClear m) [] [0x51] := by
      rw [hx]
      exact s.dev.still.each fun {_ k} h => h.setNum (r := MTRN.PIN_ERR.ix k)
    rw [Nat.mod_eq_of_lt hm, hmv.under_eq]
    refine ⟨fun k hk => ?_, ?_, hmv.2⟩
    · rw [hx, Dev.pinErr_each (f := fun _ _ => 0) hk]
      rfl
    · rw [hx]
      exact (Dev.keeps.refl _).each fun h => h.setNum
end

section
set_option Elab.async false
/-! Retirement of channels (R399 to R402). -/

namespace Sys2Proof.Machine
open Sys2Proof

namespace Dev
variable {d : Dev} {m : Nat}

theorem frees_openActs {ch : Nat} : (d.openActs ch).frees = d.frees + 1 := by
  unfold openActs
  dsimp only [freed]
  rw [Dev.perf_frees, Dev.bump_frees, Dev.bump_frees]
  split <;> rfl

/-- The abort of a scrub pass takes two open values: how far the pass has come, and what its reads have disturbed. -/
theorem frees_scrubAbort (h : d.opState MEMC.SCRUB_STAT m = 1) : (d.scrubAbort m).frees = d.frees + 2 := by
  rw [scrubAbort, abortOp, if_pos h]
  dsimp only
  rw [opEnd, Dev.log_frees, frees_openActs, Dev.perf_frees]
  rfl

theorem opState_setNum_apart {r q : Reg} {v c c' : Nat} (h : r.apart q = true) : (d.setNum q v c').opState r c = d.opState r c := by
  rw [opState, num_setNum_apart _ _ _ _ _ _ h, ← opState]

/-- A flow channel's retirement ends a scrub pass of the channel. -/
theorem frees_retireGo (hm : m < 48) (hr : d.retireRefused m = false) (h : d.opState MEMC.SCRUB_STAT m = 1) :
    (d.retireGo m).frees = d.frees + 2 := by
  have hs : ((d.startOp MEMC.RETIRE_STAT).setFld MEMC.CH_STAT_STATE 1 m).opState MEMC.SCRUB_STAT m = 1 := by
    rw [setFld, opState_setNum_apart rfl, startOp, opState_setNum_apart rfl, h]
  rw [retireGo, if_neg (by rw [hr]; decide)]
  dsimp only
  rw [if_pos hm]
  exact frees_scrubAbort hs

end Dev

/-- A module that is ready, with a scrub pass of channel 0 in progress. -/
def scrubbingState : State :=
  { dev := ((({ Dev.reset with sup := { Dev.reset.sup with phase := .on } }.setFld TOP.BOOT_STATUS_STAGE 11).setFld
      TOP.BOOT_STATUS_READY 1).setNum MEMC.SCRUB_STAT 1), pending := [] }

end Sys2Proof.Machine

open Sys2Proof Sys2Proof.Machine

/-- Refutes O48: a retirement aborts the channel's scrub pass, and the abort of a pass that runs takes open values: it moves more than the
parts that the statement lets a GO move. -/
theorem not_channelRetirement : ¬ Obligations.ChannelRetirement := by
  unfold Obligations.ChannelRetirement
  rintro ⟨hgo, -⟩
  have hopen : scrubbingState.dev.pageOpen 0x50 = true := by decide +kernel
  have hrefused : scrubbingState.dev.retireRefused 0 = false := by decide +kernel
  have hscrub : scrubbingState.dev.opState MEMC.SCRUB_STAT 0 = 1 := by decide +kernel
  obtain ⟨t, ht, -, -, -, -, hm⟩ := hgo scrubbingState 0 ⟨rfl, hopen⟩ (by decide) hrefused
  have ht' : t.dev = scrubbingState.dev.under (scrubbingState.dev.when true fun d => d.access 0x50 fun d => d.retireGo 0) := by
    cases ht
    rfl
  have hfrees : t.dev.frees = scrubbingState.dev.frees + 2 := by
    rw [ht', Dev.when_true, Dev.access_open _ _ _ hopen]
    exact Dev.frees_retireGo (by decide) hrefused hscrub
  have := hm.keeps_frees
  omega
end

section
set_option Elab.async false
/-! Cipher units: key slots, nonces, blocks and runs of a host path (R306 to R308, R313 to R318). -/

namespace Sys2Proof.Machine.Dev
open Sys2Proof
variable {d0 d : Dev} {P : List Part} {G : List Nat}

theorem moves.updThread {k : Nat} {f : Thread → Thread} (h : d0.moves d P G) (hp : P.contains .eng = true := by rfl) :
    d0.moves (d.updThread k f) P G := h.setThread hp

theorem keeps.set_units {x} (h : d0.keeps d P) (hp : P.contains .units = true := by rfl) : d0.keeps { d with units := x } P :=
  h.of_part .units hp fun p hp => by cases p <;> first | rfl | exact absurd rfl hp

theorem keeps.setKeySlot {c s : Nat} {x : KeySlot} (h : d0.keeps d P) (hp : P.contains .units = true := by rfl) :
    d0.keeps (d.setKeySlot c s x) P := h.set_units hp

theorem keeps.setCipher {c : Nat} {x : Cipher} (h : d0.keeps d P) (hp : P.contains .units = true := by rfl) :
    d0.keeps (d.setCipher c x) P := h.set_units hp

theorem keeps.drawn (h : d0.keeps d P) (hp : P.contains .draws = true := by rfl) : d0.keeps d.drawn P :=
  h.of_part .draws hp fun p hp => by cases p <;> first | rfl | exact absurd rfl hp

theorem keeps.keyApply {c s : Nat} {x : List Byte × Bool} (h : d0.keeps d P) (hd : P.contains .draws = true := by rfl)
    (hu : P.contains .units = true := by rfl) : d0.keeps (d.keyApply c s (some x)) P := (h.setKeySlot hu).drawn hd

theorem keeps.keyErase {c s : Nat} (h : d0.keeps d P) (hu : P.contains .units = true := by rfl) : d0.keeps (d.keyApply c s none) P :=
  h.setKeySlot hu

end Sys2Proof.Machine.Dev

namespace Sys2Proof.Machine
open Sys2Proof

/-! ### Bytes in a byte map -/

/-- A run of bytes reads as it was written. -/
theorem smapBytes_putBytes (d : Byte) : ∀ (bs : List Byte) (m : SMap Byte) (a : Nat), (m.putBytes d a bs).bytes d a bs.length = bs
  | [], _, _ => rfl
  | b :: bs, m, a => by
    rw [SMap.putBytes, List.length_cons, SMap.bytes, smapBytes_putBytes d bs, SMap.putBytes_get_out _ _ _ _ _ (by omega),
      SMap.get_set_same]

namespace Dev
variable {d e : Dev} {c k s n path : Nat}

/-! ### Samples and threads -/

theorem moves_sampleStage {bs : List Byte} : d.moves (d.sampleStage bs) [] [0x60] := by
  unfold Dev.sampleStage Dev.sampleLost
  exact d.still.set_obs.ite d.still.bump.raise

theorem moves_opSample {i op who task addr word : Nat} : d.moves (d.opSample i op who task addr word) [.draws, .frees] [0x60] := by
  unfold Dev.opSample
  dsimp only
  refine d.still.iteSelf fun h => ?_
  split
  · exact ((h.drawn.andThen moves_sampleStage).freed.set_obs).ite h.set_obs
  · exact ((h.drawn.drawn.andThen moves_sampleStage).freed.set_obs).ite h.drawn.set_obs

theorem thread_setThread_same (d : Dev) (k : Nat) (t : Thread) : (d.setThread k t).thread k = t := SMap.get_set_same _ _ _ _

theorem thread_setThread_ne {j : Nat} (t : Thread) (h : j ≠ k) : (d.setThread k t).thread j = d.thread j := SMap.get_set_ne _ _ _ _ h

theorem thread_updThread_same (d : Dev) (k : Nat) (f : Thread → Thread) : (d.updThread k f).thread k = f (d.thread k) :=
  thread_setThread_same _ _ _

theorem thread_congr (h : e.eng = d.eng) (k : Nat) : e.thread k = d.thread k := by rw [thread, h, ← thread]

theorem idOn_congr (h : e.eng = d.eng) (k : Nat) : e.idOn k = d.idOn k := by
  unfold idOn taskOn Dev.task thread
  rw [h]

end Dev

theorem Thread.rv_wv (t : Thread) (i v : Nat) : (t.wv i v).rv i = v % 2 ^ 128 := SMap.get_set_same _ _ _ _

theorem Thread.unit_setUnit (t : Thread) (st : Nat) : (t.setUnit st).sts / 256 % 256 = st % 256 := by
  have h := bitsOf_setBits_same t.sts 8 8 st
  rw [bitsOf_eq] at h
  exact h

namespace Dev
variable {d e : Dev} {c k s n path : Nat} {q : BlockCall}

/-! ### The units -/

theorem cipher_setCipher_same (d : Dev) (c : Nat) (x : Cipher) : (d.setCipher c x).cipher c = x := SMap.get_set_same _ _ _ _
theorem keySlot_setCipher (d : Dev) (c c' s : Nat) (x : Cipher) : (d.setCipher c x).keySlot c' s = d.keySlot c' s := rfl
theorem keySlot_setKeySlot_same (d : Dev) (c s : Nat) (x : KeySlot) : (d.setKeySlot c s x).keySlot c s = x := SMap.get_set_same _ _ _ _
theorem cipher_setKeySlot (d : Dev) (c c' s : Nat) (x : KeySlot) : (d.setKeySlot c s x).cipher c' = d.cipher c' := rfl
theorem num_setCipher {r : Reg} {ch : Nat} (x : Cipher) : (d.setCipher c x).num r ch = d.num r ch := rfl
theorem opState_setCipher {r : Reg} {ch : Nat} (x : Cipher) : (d.setCipher c x).opState r ch = d.opState r ch := rfl
theorem cipher_congr (h : e.units = d.units) (c : Nat) : e.cipher c = d.cipher c := by rw [cipher, h, ← cipher]
theorem keySlot_congr (h : e.units = d.units) (c s : Nat) : e.keySlot c s = d.keySlot c s := by rw [keySlot, h, ← keySlot]

/-! ### Key commands -/

/-- The staging copy of a path, cleared. -/
def keyCleared (d : Dev) (c path : Nat) : Dev := d.each 8 fun d i => d.setRegP (CIPH.KEY.ix i) path c 0

theorem key_off (i : Nat) : (CIPH.KEY.ix i).off = 0x050 + 4 * i := rfl

theorem moves_keyCleared : d.moves (d.keyCleared c path) [] [0x38] := d.still.each fun {_ i} h => h.setRegP (r := CIPH.KEY.ix i)

theorem keeps_keyCleared : d.keeps (d.keyCleared c path) [.regs] := (keeps.refl d).each fun h => h.setRegP

theorem regP_keyCleared {i : Nat} (hi : i < 8) : (d.keyCleared c path).regP (CIPH.KEY.ix i) path c = 0 := by
  rw [keyCleared, each_at (rd := fun e => e.regP (CIPH.KEY.ix i) path c) hi fun e j hj hn => regP_setRegP_apart _ _ _ _ _ _ _ _
    (Reg.apart_of_off (by rw [key_off, key_off]; omega) (by rw [key_off]; omega) (by rw [key_off]; omega))]
  exact regP_setRegP_same _ _ _ _ _

theorem runSlot_keyCleared : (d.keyCleared c path).fld CIPH.RUN_CFG_SLOT c = d.fld CIPH.RUN_CFG_SLOT c :=
  each_keeps (rd := fun e => e.fld CIPH.RUN_CFG_SLOT c) fun e j hj => by
    have h : (CIPH.RUN_CFG_SLOT.reg).apart (CIPH.KEY.ix j) = true := Reg.apart_of_off
      (by rw [key_off, show CIPH.RUN_CFG_SLOT.reg.off = 0x0A0 from rfl]; omega) (by decide) (by rw [key_off]; omega)
    rw [fld, num, reg, regP_setRegP_apart _ _ _ _ _ _ _ _ h]
    rfl

theorem slotBusy_keyCleared : (d.keyCleared c path).slotBusy c s = d.slotBusy c s := by
  rw [slotBusy, inWork, cipher_congr moves_keyCleared.keeps_units, runSlot_keyCleared]
  rfl

/-- What is in the slot after a command that takes effect now. -/
theorem keySlot_keyApply_load {key : List Byte} {size : Bool} : (d.keyApply c s (some (key, size))).keySlot c s =
    { key := key, size := size, valid := true, gen := ((d.keySlot c s).gen + 1) % 256, epoch := (Config.rng d.draws).toNat % 2 ^ 48 } :=
  SMap.get_set_same _ _ _ _

theorem draws_keyApply_load {x : List Byte × Bool} : (d.keyApply c s (some x)).draws = d.draws + 1 := rfl

theorem keySlot_keyApply_erase : (d.keyApply c s none).keySlot c s = { gen := ((d.keySlot c s).gen + 1) % 256 } := SMap.get_set_same _ _ _ _

/-- A command of the key slot, once the staging copy is cleared. -/
def keyPut (d : Dev) (c s : Nat) (what : Option (List Byte × Bool)) : Dev :=
  if d.slotBusy c s then d.setKeySlot c s { d.keySlot c s with cmd := some { load := what, after_ := (d.cipher c).done + 1 } }
  else d.keyApply c s what

theorem keyCmd_refused {load : Option Bool} (h : (d.keySlot c (d.num CIPH.KEY_SLOT c % 32)).cmd.isSome = true ∨
    (load.isSome = true ∧ d.on TOP.BOOT_STATUS_RNG_FAIL = true)) : d.keyCmd c path load = d.raise CIPH.int_KEY_REFUSED := by
  rw [keyCmd, if_pos]
  rcases h with h | ⟨h, hr⟩
  · rw [h]
    rfl
  · rw [h, hr]
    exact Bool.or_true _

theorem keyCmd_taken {load : Option Bool} (h : (d.keySlot c (d.num CIPH.KEY_SLOT c % 32)).cmd = none)
    (hr : load.isSome = true → d.on TOP.BOOT_STATUS_RNG_FAIL = false) : d.keyCmd c path load =
      (d.keyCleared c path).keyPut c (d.num CIPH.KEY_SLOT c % 32) (load.map fun size => (d.keyStaged c path size, size)) := by
  have hrefused : ((d.keySlot c (d.num CIPH.KEY_SLOT c % 32)).cmd.isSome || (load.isSome && d.on TOP.BOOT_STATUS_RNG_FAIL)) = false := by
    rw [h]
    cases hl : load.isSome
    · rfl
    · rw [hr hl]
      rfl
  rw [keyCmd, if_neg (by rw [hrefused]; decide)]
  rfl

theorem regP_keyPut {what : Option (List Byte × Bool)} {r : Reg} {p ch : Nat} : (d.keyPut c s what).regP r p ch = d.regP r p ch := by
  unfold keyPut
  split
  · rfl
  · cases what <;> rfl

theorem keySlot_keyPut_busy {what : Option (List Byte × Bool)} (h : d.slotBusy c s = true) : (d.keyPut c s what).keySlot c s =
    { d.keySlot c s with cmd := some { load := what, after_ := (d.cipher c).done + 1 } } := by
  rw [keyPut, if_pos h, keySlot_setKeySlot_same]

theorem keyPut_free {what : Option (List Byte × Bool)} (h : d.slotBusy c s = false) : d.keyPut c s what = d.keyApply c s what :=
  if_neg (by rw [h]; decide)

theorem logged_keyPut {what : Option (List Byte × Bool)} : d.moves (d.keyPut c s what) [.draws, .units] [] := by
  unfold keyPut
  refine d.still.setKeySlot.ite ?_
  cases what
  · exact d.still.setKeySlot
  · exact d.still.setKeySlot.drawn

theorem moves_keyCmd_taken {what : Option (List Byte × Bool)} : d.moves ((d.keyCleared c path).keyPut c s what) [.draws, .units] [0x38] :=
  (d.still.andThen moves_keyCleared).andThen logged_keyPut

theorem keyPending_none (h : (d.keySlot c s).cmd = none) : d.keyPending c s = d := by
  rw [keyPending, h]

theorem keyPending_due {p : KeyCmd} (h : (d.keySlot c s).cmd = some p) (hd : p.after_ ≤ (d.cipher c).done) :
    d.keyPending c s = d.keyApply c s p.load := by
  rw [keyPending, h]
  exact if_pos hd

theorem keyPending_early (h : ∀ p, (d.keySlot c s).cmd = some p → (d.cipher c).done < p.after_) : d.keyPending c s = d := by
  rw [keyPending]
  split
  · next p hp => exact if_neg (Nat.not_le.mpr (h p hp))
  · rfl

theorem cipher_keyApply {what : Option (List Byte × Bool)} : (d.keyApply c s what).cipher k = d.cipher k := by
  cases what <;> rfl

theorem cipher_keyPending : (d.keyPending c s).cipher k = d.cipher k := by
  unfold keyPending
  split
  · split
    · exact cipher_keyApply
    · rfl
  · rfl

/-! ### Nonces -/

/-- The bytes of a slot's next nonce (R316). -/
def nonceBytes (x : KeySlot) : List Byte := beBytes 6 x.epoch ++ beBytes 6 x.counter ++ leBytes 1 x.gen ++ [0, 0, 0]

/-- The slot after a nonce. -/
def nonceTaken (d : Dev) (c s : Nat) : Dev :=
  let e := d.setKeySlot c s { d.keySlot c s with counter := (d.keySlot c s).counter + 1 }
  if (d.keySlot c s).counter + 1 = 2 ^ 48 - 2 ^ 44 then e.raise CIPH.int_NONCE_LOW else e

theorem takeNonce_given (hcmd : (d.keySlot c s).cmd = none) (hf : (d.keySlot c s).fault = false) (hv : (d.keySlot c s).valid = true)
    (hn : (d.keySlot c s).counter < 2 ^ 48) : d.takeNonce c s .clean = (d.nonceTaken c s, 0, nonceBytes (d.keySlot c s)) := by
  unfold takeNonce
  rw [keyPending_none hcmd]
  dsimp only [slotReads]
  rw [if_neg (by rw [hf]; decide), if_neg (by rw [hv]; decide), if_neg (Nat.not_le.mpr hn)]
  rfl

theorem keySlot_nonceTaken : (d.nonceTaken c s).keySlot c s = { d.keySlot c s with counter := (d.keySlot c s).counter + 1 } := by
  unfold nonceTaken
  dsimp only
  split
  · rw [keySlot_congr (raise_units _ _), keySlot_setKeySlot_same]
  · rw [keySlot_setKeySlot_same]

theorem moves_nonceTaken : d.moves (d.nonceTaken c s) [.units] [] := by
  unfold nonceTaken
  exact d.still.setKeySlot.raise.ite d.still.setKeySlot

theorem raised_nonceTaken (h : (d.keySlot c s).counter + 1 = 2 ^ 48 - 2 ^ 44) : (d.nonceTaken c s).raised CIPH.int_NONCE_LOW = true := by
  rw [nonceTaken, if_pos h]
  exact raised_raise_eq _ _ rfl

/-- A nonce shown to a path. -/
def nonceShown (d : Dev) (c path : Nat) (bs : List Byte) : Dev :=
  d.each 3 fun d i => d.setRegP (CIPH.NONCE_W.ix i) path c (BitVec.ofNat 32 (leNat ((bs.drop (4 * i)).take 4)))

theorem nonceW_off (i : Nat) : (CIPH.NONCE_W.ix i).off = 0x07C + 4 * i := rfl

theorem moves_nonceShown {bs : List Byte} : d.moves (d.nonceShown c path bs) [] [0x38] :=
  d.still.each fun {_ i} h => h.setRegP (r := CIPH.NONCE_W.ix i)

theorem regP_nonceShown {bs : List Byte} {i : Nat} (hi : i < 3) :
    (d.nonceShown c path bs).regP (CIPH.NONCE_W.ix i) path c = BitVec.ofNat 32 (leNat ((bs.drop (4 * i)).take 4)) := by
  rw [nonceShown, each_at (rd := fun e => e.regP (CIPH.NONCE_W.ix i) path c) hi fun e j hj hn => regP_setRegP_apart _ _ _ _ _ _ _ _
    (Reg.apart_of_off (by rw [nonceW_off, nonceW_off]; omega) (by rw [nonceW_off]; omega) (by rw [nonceW_off]; omega))]
  exact regP_setRegP_same _ _ _ _ _

theorem hostNonce_given (hcmd : (d.keySlot c s).cmd = none) (hf : (d.keySlot c s).fault = false) (hv : (d.keySlot c s).valid = true)
    (hn : (d.keySlot c s).counter < 2 ^ 48) : d.hostNonce c { path := path, slot := s, key := .clean } =
      (d.nonceTaken c s).nonceShown c path (nonceBytes (d.keySlot c s)) := by
  unfold hostNonce
  dsimp only
  rw [takeNonce_given hcmd hf hv hn]
  rfl

/-- A unit whose holder has just been active. -/
def activeNow (d : Dev) (c : Nat) : Dev := d.setCipher c { d.cipher c with active := d.clk.up }

theorem cipher_activeNow : (d.activeNow c).cipher c = { d.cipher c with active := d.clk.up } := cipher_setCipher_same _ _ _
theorem keySlot_activeNow : (d.activeNow c).keySlot c s = d.keySlot c s := rfl
theorem keeps_activeNow : d.keeps (d.activeNow c) [.units] := (keeps.refl d).setCipher

theorem unitIdle_activeNow : (d.activeNow c).unitIdle c = d.unitIdle c := by
  rw [unitIdle, cipher_activeNow, unitIdle]

/-- A path's nonce command of the lock's holder. -/
theorem nonceGo_held {g : Guard} (he : d.enabled 0x38 = true) (hh : (d.cipher c).holder = some (.path (path % 2))) :
    d.nonceGo c path g =
      (let x : HostNonce := { path := path, slot := d.num CIPH.KEY_SLOT c % 32, key := g }
       if (d.activeNow c).unitIdle c then (d.activeNow c).hostNonce c x
       else (d.activeNow c).setCipher c { (d.activeNow c).cipher c with nonces := ((d.activeNow c).cipher c).nonces ++ [x] }) := by
  rw [nonceGo, if_neg (by rw [he, hh]; simp)]
  rfl

theorem nonceGo_unheld {g : Guard} (h : d.enabled 0x38 = false ∨ (d.cipher c).holder ≠ some (.path (path % 2))) : d.nonceGo c path g = d := by
  rw [nonceGo, if_pos]
  rcases h with h | h <;> simp [h]

theorem raised_nonceShown {bs : List Byte} {b : IntBit} : (d.nonceShown c path bs).raised b = d.raised b :=
  each_keeps (rd := fun e => e.raised b) fun e j hj => raised_setRegP_plain _ (CIPH.NONCE_W.ix j) _ _ _ _
    (Reg.plain_of_off rfl rfl (by rw [nonceW_off]; omega) (by rw [nonceW_off]; omega) (by rw [nonceW_off]; omega))

theorem nonceGo_served (he : d.enabled 0x38 = true) (hh : (d.cipher c).holder = some (.path (path % 2))) (hn : n = d.num CIPH.KEY_SLOT c % 32)
    (hcmd : (d.keySlot c n).cmd = none) (hf : (d.keySlot c n).fault = false) (hv : (d.keySlot c n).valid = true)
    (hlt : (d.keySlot c n).counter < 2 ^ 48) (hi : d.unitIdle c = true) :
    d.nonceGo c path .clean = ((d.activeNow c).nonceTaken c n).nonceShown c path (nonceBytes (d.keySlot c n)) := by
  rw [nonceGo_held he hh]
  dsimp only
  rw [unitIdle_activeNow, if_pos hi, ← hn, ← keySlot_activeNow]
  exact hostNonce_given hcmd hf hv hlt

/-! ### Runs of a path -/

theorem runGo_refused (he : d.enabled 0x38 = true) (h : d.opState CIPH.RUN_STAT c = 1 ∨ (d.cipher c).holder ≠ some (.path (path % 2))) :
    d.runGo c path = d.raise CIPH.int_KEY_REFUSED := by
  rw [runGo, if_neg (by rw [he]; decide), if_pos h]

theorem runGo_starts (he : d.enabled 0x38 = true) (h : d.opState CIPH.RUN_STAT c ≠ 1) (hh : (d.cipher c).holder = some (.path (path % 2))) :
    d.runGo c path = (d.startOp CIPH.RUN_STAT c).setCipher c
      { d.cipher c with run := some (path % 2), runs := (d.cipher c).queue.isEmpty, active := d.clk.up } := by
  rw [runGo, if_neg (by rw [he]; decide), if_neg (by simp [h, hh])]

/-! ### The end of a block -/

theorem noncesGo_none (hn : (d.cipher c).nonces = []) (hq : ∀ q ∈ (d.cipher c).queue, q.op ≠ 2) : d.noncesGo c = d := by
  unfold noncesGo
  rw [hn]
  cases hx : (d.cipher c).queue with
  | nil => rfl
  | cons q r =>
    have h2 : q.op ≠ 2 := hq q (by rw [hx]; exact List.mem_cons_self)
    rw [List.length_nil, Nat.zero_add, List.length_cons]
    unfold noncesServe
    rw [hn, hx]
    exact if_pos h2

theorem roomMade_none (h : (d.cipher c).arrivals = []) : d.roomMade c = d := by
  rw [roomMade, h]
  rfl

/-- A unit goes on where no nonce and no call waits to be placed. -/
theorem unitNext_quiet (hn : (d.cipher c).nonces = []) (hq : ∀ q ∈ (d.cipher c).queue, q.op ≠ 2) (ha : (d.cipher c).arrivals = []) :
    ((d.noncesGo c).unitNext c).roomMade c = d.unitNext c := by
  rw [noncesGo_none hn hq]
  refine roomMade_none ?_
  rw [unitNext, cipher_setCipher_same]
  exact ha

theorem cipher_unitNext : (d.unitNext c).cipher c =
    { d.cipher c with runs := (d.cipher c).run.isSome && (d.cipher c).queue.isEmpty } := cipher_setCipher_same _ _ _

theorem moves_unitNext : d.moves (d.unitNext c) [.units] [] := d.still.setCipher

/-- A unit whose block has completed. -/
def blockBegun (d : Dev) (c : Nat) : Dev := d.setCipher c { d.cipher c with done := (d.cipher c).done + 1, active := d.clk.up }

theorem cipher_blockBegun : (d.blockBegun c).cipher c = { d.cipher c with done := (d.cipher c).done + 1, active := d.clk.up } :=
  cipher_setCipher_same _ _ _

theorem blockDone_call {err : Bool} (hi : d.unitIdle c = false) (hw : d.inWork c = some q) (hcmd : (d.keySlot c q.slot).cmd = none) :
    d.blockDone c err .clean = ((((d.blockBegun c).callBlock c q).noncesGo c).unitNext c).roomMade c := by
  rw [blockDone, if_neg (by rw [hi]; decide)]
  dsimp only
  rw [hw]
  dsimp only
  rw [keyPending_none hcmd]
  rfl

theorem blockDone_run {err : Bool} (hi : d.unitIdle c = false) (hw : d.inWork c = none) (hr : (d.cipher c).run.isSome = true) :
    d.blockDone c err .clean = (((((d.keyPending c (d.fld CIPH.RUN_CFG_SLOT c)).blockBegun c).runBlock c err).noncesGo c).unitNext c).roomMade c := by
  have hrun : (((d.keyPending c (d.fld CIPH.RUN_CFG_SLOT c)).blockBegun c).cipher c).run.isSome = true := by
    rw [cipher_blockBegun, cipher_keyPending]
    exact hr
  rw [blockDone, if_neg (by rw [hi]; decide)]
  dsimp only
  rw [hw]
  exact congrArg (fun e => ((Dev.noncesGo e c).unitNext c).roomMade c) (if_pos hrun)

theorem workBlock_works {dec : Bool} {b : List Byte} (hf : (d.keySlot c s).fault = false) (hv : (d.keySlot c s).valid = true) :
    ∃ cost, d.workBlock c s dec b =
      (((d.bump CIPH.BLOCKS c).bump CIPH.BUSY_CYC c cost).drawn, 0, aesBlock dec (d.keySlot c s).key b) := by
  rw [workBlock, if_neg (by rw [hf]; decide), if_neg (by rw [hv]; decide)]
  exact ⟨_, rfl⟩

theorem workBlock_fails {dec : Bool} {b : List Byte} (h : (d.keySlot c s).fault = true ∨ (d.keySlot c s).valid = false) :
    ∃ st, st ≠ 0 ∧ d.workBlock c s dec b = (d, st, []) := by
  rw [workBlock]
  by_cases hf : (d.keySlot c s).fault = true
  · exact ⟨5, by decide, if_pos hf⟩
  · have hv : (d.keySlot c s).valid = false := h.resolve_left hf
    exact ⟨3, by decide, by rw [if_neg hf, if_pos (by rw [hv]; rfl)]⟩

/-! ### A call's result -/

/-- A thread that a unit's result has reached. -/
def resultIn (th : Thread) (dst st v : Nat) : Thread := { (th.wv dst v).setUnit st with wait := none }

theorem rv_resultIn (th : Thread) (dst st v : Nat) : (resultIn th dst st v).rv dst = v % 2 ^ 128 := Thread.rv_wv th dst v
theorem wait_resultIn (th : Thread) (dst st v : Nat) : (resultIn th dst st v).wait = none := rfl
theorem unit_resultIn (th : Thread) (dst st v : Nat) : (resultIn th dst st v).sts / 256 % 256 = st % 256 := Thread.unit_setUnit (th.wv dst v) st

theorem moves_callDone {st : Nat} {v : Option Nat} : d.moves (d.callDone c q st v) [.draws, .frees, .eng] [0x60] := by
  unfold callDone
  have h {i op who task addr word : Nat} : d.moves (d.opSample i op who task addr word) [.draws, .frees, .eng] [0x60] :=
    d.still.andThen moves_opSample
  dsimp only
  refine h.iteSelf fun h => ?_
  unfold unitDone
  cases v
  · exact h.updThread
  · exact h.updThread.updThread

theorem thread_callDone {st v : Nat} (hid : d.idOn (thrKey c q.thread) = q.id) (hw : (d.thread (thrKey c q.thread)).wait = some .block) :
    (d.callDone c q st (some v)).thread (thrKey c q.thread) = resultIn (d.thread (thrKey c q.thread)) q.dst st v := by
  unfold callDone
  extract_lets k e
  have he : e.eng = d.eng := (moves_opSample (d := d)).keeps_eng
  rw [if_pos ⟨(idOn_congr he k).trans hid, (congrArg Thread.wait (thread_congr he k)).trans hw⟩]
  rw [unitDone, thread_updThread_same, thread_updThread_same, thread_congr he]
  rfl

/-- A call's block, worked. -/
def callWorked (d : Dev) (c : Nat) (q : BlockCall) (out : List Byte) : Dev :=
  let e := (d.setCipher c { d.cipher c with queue := (d.cipher c).queue.drop 1 }).callDone c q 0 (some (leNat out))
  if q.once ∧ (e.cipher c).holder = some (User.task q.thread q.id) then e.hold c none else e

theorem callBlock_works {w : Dev} {out : List Byte} (h : d.workBlock c q.slot (q.op = 1) q.block = (w, 0, out)) :
    d.callBlock c q = w.callWorked c q out := by
  unfold callBlock
  rw [h]
  rfl

theorem moves_hold {u : Option User} : d.moves (d.hold c u) [.units] [] := d.still.setCipher

theorem moves_callWorked {out : List Byte} : d.moves (d.callWorked c q out) [.draws, .frees, .eng, .units] [0x60] := by
  unfold callWorked
  have h : d.moves ((d.setCipher c { d.cipher c with queue := (d.cipher c).queue.drop 1 }).callDone c q 0 (some (leNat out)))
      [.draws, .frees, .eng, .units] [0x60] := d.still.setCipher.andThen moves_callDone
  exact (h.andThen moves_hold).ite h

theorem thread_callWorked {out : List Byte} (hid : d.idOn (thrKey c q.thread) = q.id)
    (hw : (d.thread (thrKey c q.thread)).wait = some .block) :
    (d.callWorked c q out).thread (thrKey c q.thread) = resultIn (d.thread (thrKey c q.thread)) q.dst 0 (leNat out) := by
  unfold callWorked
  have h := thread_callDone (d := d.setCipher c { d.cipher c with queue := (d.cipher c).queue.drop 1 }) (st := 0) (v := leNat out) hid hw
  dsimp only
  split
  · rw [thread_congr moves_hold.keeps_eng]
    exact h
  · exact h

/-- The unit once a call's block is worked: a ONCE call of the holder frees the lock. -/
theorem cipher_callWorked {out : List Byte} : ∃ h g t, (d.callWorked c q out).cipher c =
    { d.cipher c with queue := (d.cipher c).queue.drop 1, holder := h, granted := g, active := t } ∧
      (q.once = true → (d.cipher c).holder = some (.task q.thread q.id) → h = none) := by
  unfold callWorked
  extract_lets x e
  have hc : e.cipher c = { d.cipher c with queue := (d.cipher c).queue.drop 1 } := by
    rw [cipher_congr (moves_callDone (d := d.setCipher c _)).keeps_units, cipher_setCipher_same]
  by_cases ho : q.once ∧ (e.cipher c).holder = some (User.task q.thread q.id)
  · refine ⟨none, e.clk.up, e.clk.up, ?_, fun _ _ => rfl⟩
    rw [if_pos ho, hold, cipher_setCipher_same, hc]
  · refine ⟨(d.cipher c).holder, (d.cipher c).granted, (d.cipher c).active, ?_, fun h1 h2 => absurd ⟨h1, ?_⟩ ho⟩
    · rw [if_neg ho, hc]
    · rw [hc]
      exact h2

/-! ### A block of a run -/

/-- The run stops. -/
def runStopped (d : Dev) (c state n : Nat) : Dev :=
  ((d.setCipher c { d.cipher c with run := none }).endOp CIPH.RUN_STAT c state n).raise CIPH.int_RUN_DONE

theorem num_runStopped {st : Nat} (h : st < 8) : (d.runStopped c st n).num CIPH.RUN_STAT c = statusWord st 0 n := by
  rw [runStopped, num_raise_plain _ _ _ _ rfl, num_endOp rfl h]

theorem cipher_runStopped {st : Nat} : (d.runStopped c st n).cipher c = { d.cipher c with run := none } := by
  rw [runStopped, cipher_congr (raise_units _ _), endOp, cipher_congr (opEnd_units _ _ _ _), cipher_congr (setNum_units _ _ _ _),
    cipher_setCipher_same]

theorem raised_runStopped {st : Nat} : (d.runStopped c st n).raised CIPH.int_RUN_DONE = true := raised_raise_eq _ _ rfl

theorem moves_runStopped {st : Nat} : d.moves (d.runStopped c st n) [.units] [0x38] := d.still.setCipher.endOp.raise

theorem runBlock_stops {err : Bool} (h : err = true ∨ (d.keySlot c (d.fld CIPH.RUN_CFG_SLOT c)).fault = true ∨
    (d.keySlot c (d.fld CIPH.RUN_CFG_SLOT c)).valid = false) : d.runBlock c err = d.runStopped c 4 (d.num CIPH.RUN_STAT c / 256) := by
  unfold runBlock
  dsimp only
  cases err with
  | true => rfl
  | false =>
    obtain ⟨st, hst, hw⟩ := workBlock_fails (c := c) (dec := d.on CIPH.RUN_CFG_DIR c)
      (b := d.dmaRead (d.num2 CIPH.RUN_SRC_LO CIPH.RUN_SRC_HI c + 16 * (d.num CIPH.RUN_STAT c / 256)) 16) (h.resolve_left (by decide))
    rw [if_neg (by decide), hw]
    exact if_pos hst

/-- A block of a run, worked: it is written, and the run stops after its last. -/
def runWorked (w : Dev) (c n : Nat) (out : List Byte) : Dev :=
  let d := w.dmaWrite (w.num2 CIPH.RUN_DST_LO CIPH.RUN_DST_HI c + 16 * n) out
  if d.fld CIPH.RUN_CFG_COUNT c ≤ n + 1 then d.runStopped c 2 (n + 1) else d.setNum CIPH.RUN_STAT (statusWord 1 0 (n + 1)) c

theorem runBlock_works {w : Dev} {out : List Byte} {n : Nat} (hn : n = d.num CIPH.RUN_STAT c / 256)
    (h : d.workBlock c (d.fld CIPH.RUN_CFG_SLOT c) (d.on CIPH.RUN_CFG_DIR c)
      (d.dmaRead (d.num2 CIPH.RUN_SRC_LO CIPH.RUN_SRC_HI c + 16 * n) 16) = (w, 0, out)) : d.runBlock c false = w.runWorked c n out := by
  subst hn
  unfold runBlock
  dsimp only
  rw [if_neg (by decide), h]
  rfl

theorem moves_runWorked {out : List Byte} : d.moves (d.runWorked c n out) [.hostMem, .units] [0x38] := by
  unfold runWorked
  exact (d.still.dmaWrite.andThen moves_runStopped).ite d.still.dmaWrite.setNum

theorem hostMem_runWorked {out : List Byte} : (d.runWorked c n out).hostMem =
    d.hostMem.putBytes 0 (d.num2 CIPH.RUN_DST_LO CIPH.RUN_DST_HI c + 16 * n) out := by
  unfold runWorked
  dsimp only
  split
  · rw [moves_runStopped.keeps_hostMem]
    rfl
  · rfl

/-- What a run's block changes of its unit. -/
theorem cipher_runBlock {err : Bool} : ∃ r, (d.runBlock c err).cipher c = { d.cipher c with run := r } := by
  unfold runBlock
  dsimp only
  split
  · exact ⟨none, cipher_runStopped⟩
  · have hw {b : List Byte} : ((d.workBlock c (d.fld CIPH.RUN_CFG_SLOT c) (d.on CIPH.RUN_CFG_DIR c) b).1).units = d.units := by
      unfold workBlock
      dsimp only
      split
      · rfl
      · split <;> rfl
    generalize hx : d.workBlock c _ _ _ = x
    have hc : x.1.cipher c = d.cipher c := by
      rw [← hx]
      exact cipher_congr hw c
    split
    · exact ⟨none, by rw [← hc]; exact cipher_runStopped⟩
    · split
      · refine ⟨none, ?_⟩
        rw [← hc]
        exact cipher_runStopped (d := x.1.dmaWrite _ _)
      · refine ⟨(d.cipher c).run, ?_⟩
        rw [cipher_congr (setNum_units _ _ _ _), ← hc]
        rfl

/-! ### The completion of a block -/

theorem cipher_blockEnd (hn : (d.cipher c).nonces = []) (hq : ∀ q ∈ (d.cipher c).queue, q.op ≠ 2) (ha : (d.cipher c).arrivals = []) :
    (((d.noncesGo c).unitNext c).roomMade c).cipher c = { d.cipher c with runs := (d.cipher c).run.isSome && (d.cipher c).queue.isEmpty } := by
  rw [unitNext_quiet hn hq ha, cipher_unitNext]

theorem raised_unitNext {b : IntBit} : (d.unitNext c).raised b = d.raised b := rfl
theorem num_unitNext {r : Reg} {ch : Nat} : (d.unitNext c).num r ch = d.num r ch := rfl
theorem num_blockBegun {r : Reg} {ch : Nat} : (d.blockBegun c).num r ch = d.num r ch := rfl
theorem num_drawn {r : Reg} {ch : Nat} : d.drawn.num r ch = d.num r ch := rfl

/-- A unit with a block of its own counted. -/
def blockCounted (d : Dev) (c cost : Nat) : Dev := (((d.blockBegun c).bump CIPH.BLOCKS c).bump CIPH.BUSY_CYC c cost).drawn

theorem num_blockCounted {cost : Nat} : (d.blockCounted c cost).num CIPH.BLOCKS c = (d.num CIPH.BLOCKS c + 1) % 2 ^ 32 := by
  rw [blockCounted, num_drawn, num_bump_apart _ _ _ _ _ _ rfl, num_bump_eq, num_blockBegun]

theorem num_blockCounted_apart {cost ch : Nat} {r : Reg} (h : r.apart CIPH.BLOCKS = true) (h' : r.apart CIPH.BUSY_CYC = true) :
    (d.blockCounted c cost).num r ch = d.num r ch := by
  rw [blockCounted, num_drawn, num_bump_apart _ _ _ _ _ _ h', num_bump_apart _ _ _ _ _ _ h, num_blockBegun]

theorem moves_blockCounted {cost : Nat} : d.moves (d.blockCounted c cost) [.draws, .units] [0x38] := d.still.setCipher.bump.bump.drawn

theorem cipher_blockCounted {cost : Nat} : (d.blockCounted c cost).cipher c =
    { d.cipher c with done := (d.cipher c).done + 1, active := d.clk.up } := cipher_blockBegun

/-- A call's block of a unit where nothing else waits but calls for blocks. -/
theorem blockDone_called {err : Bool} {r : List BlockCall} (hq : (d.cipher c).queue = q :: r) (hops : ∀ y ∈ q :: r, y.op ≠ 2)
    (hn : (d.cipher c).nonces = []) (ha : (d.cipher c).arrivals = []) (hruns : (d.cipher c).runs = false)
    (hcmd : (d.keySlot c q.slot).cmd = none) (hf : (d.keySlot c q.slot).fault = false) (hv : (d.keySlot c q.slot).valid = true) :
    ∃ cost, d.blockDone c err .clean = ((d.blockCounted c cost).callWorked c q
      (aesBlock (q.op = 1) (d.keySlot c q.slot).key q.block)).unitNext c := by
  have hi : d.unitIdle c = false := by
    rw [unitIdle, hq]
    rfl
  have hw : d.inWork c = some q := by
    rw [inWork, if_neg (by rw [hruns]; decide), hq]
    exact if_neg (hops q List.mem_cons_self)
  obtain ⟨cost, hwork⟩ := workBlock_works (d := d.blockBegun c) (c := c) (s := q.slot) (dec := q.op = 1) (b := q.block) hf hv
  refine ⟨cost, ?_⟩
  rw [← blockCounted] at hwork
  rw [blockDone_call hi hw hcmd, callBlock_works hwork]
  obtain ⟨h, g, t, hc, -⟩ := cipher_callWorked (d := d.blockCounted c cost) (c := c) (q := q)
    (out := aesBlock (q.op = 1) ((d.blockBegun c).keySlot c q.slot).key q.block)
  rw [cipher_blockCounted] at hc
  refine unitNext_quiet ?_ (fun y hy => hops y ?_) ?_
  · rw [hc]
    exact hn
  · rw [hc] at hy
    change y ∈ (d.cipher c).queue.drop 1 at hy
    rw [hq] at hy
    exact List.mem_cons_of_mem _ hy
  · rw [hc]
    exact ha

theorem inWork_none (hq : (d.cipher c).queue = []) : d.inWork c = none := by
  rw [inWork, hq]
  split <;> rfl

/-- The block of a run where nothing waits. -/
theorem blockDone_ran {err : Bool} {p : Nat} (hq : (d.cipher c).queue = []) (hn : (d.cipher c).nonces = []) (ha : (d.cipher c).arrivals = [])
    (hrun : (d.cipher c).run = some p) (hcmd : (d.keySlot c (d.fld CIPH.RUN_CFG_SLOT c)).cmd = none) :
    d.blockDone c err .clean = ((d.blockBegun c).runBlock c err).unitNext c := by
  have hi : d.unitIdle c = false := by
    rw [unitIdle, hrun]
    exact Bool.and_false _
  rw [blockDone_run hi (inWork_none hq) (by rw [hrun]; rfl), keyPending_none hcmd]
  obtain ⟨r, hc⟩ := cipher_runBlock (d := d.blockBegun c) (c := c) (err := err)
  rw [cipher_blockBegun] at hc
  refine unitNext_quiet ?_ (fun y hy => ?_) ?_
  · rw [hc]
    exact hn
  · rw [hc] at hy
    change y ∈ (d.cipher c).queue at hy
    rw [hq] at hy
    cases hy
  · rw [hc]
    exact ha

/-- The unit after a block of a run that is worked. -/
theorem cipher_runWorked {out : List Byte} : (d.runWorked c n out).cipher c =
    { d.cipher c with run := if d.fld CIPH.RUN_CFG_COUNT c ≤ n + 1 then none else (d.cipher c).run } := by
  have hcount {a : Nat} : (d.dmaWrite a out).fld CIPH.RUN_CFG_COUNT c = d.fld CIPH.RUN_CFG_COUNT c := rfl
  unfold runWorked
  dsimp only
  rw [hcount]
  split
  · exact cipher_runStopped (d := d.dmaWrite _ _)
  · rw [cipher_congr (setNum_units _ _ _ _)]
    rfl

theorem runWorked_last {out : List Byte} (h : d.fld CIPH.RUN_CFG_COUNT c ≤ n + 1) :
    (d.runWorked c n out).num CIPH.RUN_STAT c = statusWord 2 0 (n + 1) ∧ (d.runWorked c n out).raised CIPH.int_RUN_DONE = true := by
  have hx : d.runWorked c n out = (d.dmaWrite (d.num2 CIPH.RUN_DST_LO CIPH.RUN_DST_HI c + 16 * n) out).runStopped c 2 (n + 1) := if_pos h
  rw [hx]
  exact ⟨num_runStopped (by decide), raised_runStopped⟩

theorem runWorked_goes_on {out : List Byte} (h : n + 1 < d.fld CIPH.RUN_CFG_COUNT c) :
    (d.runWorked c n out).num CIPH.RUN_STAT c = statusWord 1 0 (n + 1) := by
  have hx : d.runWorked c n out = (d.dmaWrite (d.num2 CIPH.RUN_DST_LO CIPH.RUN_DST_HI c + 16 * n) out).setNum CIPH.RUN_STAT
      (statusWord 1 0 (n + 1)) c := if_neg (Nat.not_le.mpr h)
  rw [hx, num_setNum_same, Nat.mod_eq_of_lt (statusWord_lt (by decide))]

/-- The block of a run that works its block. -/
theorem blockDone_ran_works {p : Nat} (hq : (d.cipher c).queue = []) (hn : (d.cipher c).nonces = []) (ha : (d.cipher c).arrivals = [])
    (hrun : (d.cipher c).run = some p) (hcmd : (d.keySlot c (d.fld CIPH.RUN_CFG_SLOT c)).cmd = none)
    (hf : (d.keySlot c (d.fld CIPH.RUN_CFG_SLOT c)).fault = false) (hv : (d.keySlot c (d.fld CIPH.RUN_CFG_SLOT c)).valid = true) :
    ∃ cost, d.blockDone c false .clean = ((d.blockCounted c cost).runWorked c (d.num CIPH.RUN_STAT c / 256)
      (aesBlock (d.on CIPH.RUN_CFG_DIR c) (d.keySlot c (d.fld CIPH.RUN_CFG_SLOT c)).key
        (d.dmaRead (d.num2 CIPH.RUN_SRC_LO CIPH.RUN_SRC_HI c + 16 * (d.num CIPH.RUN_STAT c / 256)) 16))).unitNext c := by
  obtain ⟨cost, hwork⟩ := workBlock_works (d := d.blockBegun c) (c := c) (s := d.fld CIPH.RUN_CFG_SLOT c) (dec := d.on CIPH.RUN_CFG_DIR c)
    (b := d.dmaRead (d.num2 CIPH.RUN_SRC_LO CIPH.RUN_SRC_HI c + 16 * (d.num CIPH.RUN_STAT c / 256)) 16) hf hv
  refine ⟨cost, ?_⟩
  rw [blockDone_ran hq hn ha hrun hcmd, runBlock_works (d := d.blockBegun c) (congrArg (· / 256) num_blockBegun.symm) hwork]
  rfl

/-- The block of a run at whose end a call heads the queue. -/
theorem blockDone_between {r : List BlockCall} {p : Nat} (hruns : (d.cipher c).runs = true) (hrun : (d.cipher c).run = some p)
    (hq : (d.cipher c).queue = q :: r) (hop : q.op ≠ 2) (hn : (d.cipher c).nonces = []) (ha : (d.cipher c).arrivals = []) :
    ∃ x t, (d.blockDone c false .clean).cipher c =
      { d.cipher c with done := (d.cipher c).done + 1, active := t, run := x, runs := false } := by
  have hi : d.unitIdle c = false := by
    rw [unitIdle, hq]
    rfl
  have hw : d.inWork c = none := by
    rw [inWork, hruns]
    rfl
  rw [blockDone_run hi hw (by rw [hrun]; rfl)]
  obtain ⟨x, hc⟩ := cipher_runBlock (d := (d.keyPending c (d.fld CIPH.RUN_CFG_SLOT c)).blockBegun c) (c := c) (err := false)
  rw [cipher_blockBegun, cipher_keyPending] at hc
  generalize (((d.keyPending c (d.fld CIPH.RUN_CFG_SLOT c)).blockBegun c).runBlock c false) = e at hc ⊢
  have hen : (e.cipher c).nonces = [] := by rw [hc]; exact hn
  have heq : (e.cipher c).queue = q :: r := by rw [hc]; exact hq
  have hea : (e.cipher c).arrivals = [] := by rw [hc]; exact ha
  have hgo : e.noncesGo c = e := by
    unfold noncesGo
    rw [hen, heq, List.length_nil, Nat.zero_add, List.length_cons]
    unfold noncesServe
    rw [hen, heq]
    exact if_pos hop
  have hnext : (e.unitNext c).cipher c = { e.cipher c with runs := false } := by
    rw [cipher_unitNext, heq]
    simp
  rw [hgo, roomMade_none (by rw [hnext]; exact hea), hnext, hc]
  exact ⟨x, _, rfl⟩

theorem run_unitNext : ((d.unitNext c).cipher c).run = (d.cipher c).run := by rw [cipher_unitNext]

theorem moves_runBlock_stopped {st : Nat} : d.moves (((d.blockBegun c).runStopped c st n).unitNext c) [.units] [0x38] :=
  (d.still.setCipher.andThen moves_runStopped).andThen moves_unitNext

/-- The abort of a run behind which no nonce waits. -/
theorem runAbort_running (h : d.opState CIPH.RUN_STAT c = 1) (hn : (d.cipher c).nonces = []) (hq : ∀ q ∈ (d.cipher c).queue, q.op ≠ 2) :
    ∃ p x, d.runAbort c = ((((d.setNum CIPH.RUN_STAT (setBits (d.num CIPH.RUN_STAT c) 0 3 3) c).setCipher c
      { d.cipher c with run := none, active := d.clk.up, done := (d.cipher c).done + 1 }).unitNext c).opEnd p x c) := by
  have hx : ((((d.setNum CIPH.RUN_STAT (setBits (d.num CIPH.RUN_STAT c) 0 3 3) c).setCipher c
      { d.cipher c with run := none, active := d.clk.up, done := (d.cipher c).done + 1 }).unitNext c).noncesGo c) =
      (((d.setNum CIPH.RUN_STAT (setBits (d.num CIPH.RUN_STAT c) 0 3 3) c).setCipher c
        { d.cipher c with run := none, active := d.clk.up, done := (d.cipher c).done + 1 }).unitNext c) := by
    refine noncesGo_none ?_ ?_
    · rw [cipher_unitNext, cipher_setCipher_same]
      exact hn
    · rw [cipher_unitNext, cipher_setCipher_same]
      exact hq
  unfold runAbort abortOp
  rw [if_pos h]
  exact ⟨_, _, congrArg (fun e => Dev.opEnd e _ (e.num CIPH.RUN_STAT c) c) hx⟩

end Dev
end Sys2Proof.Machine

namespace Sys2Proof.Machine
open Sys2Proof
variable {s : State} {c : Nat} {x : KeySlot}

/-- The block of an engine's call completes (R307, R309). -/
theorem gives_callBlock {q : BlockCall} {r : List BlockCall} {e : Bool} (hon : s.Awake) (hc : c < 8)
    (hq : (s.dev.cipher c).queue = q :: r) (hops : ∀ y ∈ q :: r, y.op ≠ 2) (hn : (s.dev.cipher c).nonces = [])
    (ha : (s.dev.cipher c).arrivals = []) (hruns : (s.dev.cipher c).runs = false) (hx : x = s.dev.keySlot c q.slot) (hcmd : x.cmd = none)
    (hf : x.fault = false) (hv : x.valid = true) (hid : s.dev.idOn (thrKey c q.thread) = q.id)
    (hw : (s.dev.thread (thrKey c q.thread)).wait = some .block) :
    Gives (.cipherBlockDone c e .clean) s fun d => (d.cipher c).queue = r ∧ (d.cipher c).done = (s.dev.cipher c).done + 1 ∧
      (d.thread (thrKey c q.thread)).rv q.dst = leNat (aesBlock (q.op = 1) x.key q.block) % 2 ^ 128 ∧
      (d.thread (thrKey c q.thread)).wait = none ∧ (d.thread (thrKey c q.thread)).sts / 256 % 256 = 0 ∧
      (q.once = true → (s.dev.cipher c).holder = some (.task q.thread q.id) → (d.cipher c).holder = none) ∧
      d.num CIPH.BLOCKS c = (s.dev.num CIPH.BLOCKS c + 1) % 2 ^ 32 ∧ s.dev.moves d [.draws, .frees, .eng, .units] [0x38, 0x60] := by
  subst hx
  refine gives_run rfl hon ?_
  obtain ⟨cost, hx⟩ := Dev.blockDone_called (err := e) hq hops hn ha hruns hcmd hf hv
  have hbm := Dev.moves_blockCounted (d := s.dev) (c := c) (cost := cost)
  have hbc := Dev.cipher_blockCounted (d := s.dev) (c := c) (cost := cost)
  have hbn := Dev.num_blockCounted (d := s.dev) (c := c) (cost := cost)
  generalize s.dev.blockCounted c cost = b at hx hbm hbc hbn
  obtain ⟨h, g, t, hcw, hfree⟩ := Dev.cipher_callWorked (d := b) (c := c) (q := q)
    (out := aesBlock (q.op = 1) (s.dev.keySlot c q.slot).key q.block)
  rw [hbc] at hcw hfree
  have hm : s.dev.moves (s.dev.blockDone c e .clean) [.draws, .frees, .eng, .units] [0x38, 0x60] := by
    rw [hx]
    exact ((s.dev.still.andThen hbm).andThen Dev.moves_callWorked).andThen Dev.moves_unitNext
  have hth : (s.dev.blockDone c e .clean).thread (thrKey c q.thread) =
      Dev.resultIn (s.dev.thread (thrKey c q.thread)) q.dst 0 (leNat (aesBlock (q.op = 1) (s.dev.keySlot c q.slot).key q.block)) := by
    rw [hx, Dev.thread_congr Dev.moves_unitNext.keeps_eng, Dev.thread_callWorked ((Dev.idOn_congr hbm.keeps_eng _).trans hid)
      (by rw [Dev.thread_congr hbm.keeps_eng]; exact hw), Dev.thread_congr hbm.keeps_eng]
  rw [Nat.mod_eq_of_lt hc, hm.under_eq]
  refine ⟨?_, ?_, ?_, ?_, ?_, fun h1 h2 => ?_, ?_, hm⟩
  · rw [hx, Dev.cipher_unitNext, hcw, hq]
    rfl
  · rw [hx, Dev.cipher_unitNext, hcw]
  · rw [hth, Dev.rv_resultIn]
  · rw [hth, Dev.wait_resultIn]
  · rw [hth, Dev.unit_resultIn]
  · rw [hx, Dev.cipher_unitNext, hcw]
    exact hfree h1 h2
  · rw [hx, Dev.num_unitNext, Dev.moves_callWorked.num CIPH.BLOCKS c, hbn]

/-- A block of a path's run completes (R318). -/
theorem gives_runBlock {n p : Nat} {out : List Byte} (hon : s.Awake) (hc : c < 8) (hq : (s.dev.cipher c).queue = [])
    (hn : (s.dev.cipher c).nonces = []) (ha : (s.dev.cipher c).arrivals = []) (hrun : (s.dev.cipher c).run = some p)
    (hx : x = s.dev.keySlot c (s.dev.fld CIPH.RUN_CFG_SLOT c)) (hcmd : x.cmd = none) (hf : x.fault = false) (hv : x.valid = true)
    (hnum : n = s.dev.num CIPH.RUN_STAT c / 256)
    (hout : out = aesBlock (s.dev.on CIPH.RUN_CFG_DIR c) x.key
      (s.dev.dmaRead (s.dev.num2 CIPH.RUN_SRC_LO CIPH.RUN_SRC_HI c + 16 * n) 16)) :
    Gives (.cipherBlockDone c false .clean) s fun d =>
      d.dmaRead (s.dev.num2 CIPH.RUN_DST_LO CIPH.RUN_DST_HI c + 16 * n) out.length = out ∧
      (s.dev.fld CIPH.RUN_CFG_COUNT c ≤ n + 1 → d.num CIPH.RUN_STAT c = statusWord 2 0 (n + 1) ∧ (d.cipher c).run = none ∧
        d.raised CIPH.int_RUN_DONE = true) ∧
      (n + 1 < s.dev.fld CIPH.RUN_CFG_COUNT c → d.num CIPH.RUN_STAT c = statusWord 1 0 (n + 1) ∧ (d.cipher c).run = some p) ∧
      s.dev.moves d [.draws, .hostMem, .units] [0x38] := by
  subst hx hnum hout
  refine gives_run rfl hon ?_
  obtain ⟨cost, hx⟩ := Dev.blockDone_ran_works hq hn ha hrun hcmd hf hv
  have hbm := Dev.moves_blockCounted (d := s.dev) (c := c) (cost := cost)
  have hbc := Dev.cipher_blockCounted (d := s.dev) (c := c) (cost := cost)
  have hcount : (s.dev.blockCounted c cost).fld CIPH.RUN_CFG_COUNT c = s.dev.fld CIPH.RUN_CFG_COUNT c := by
    rw [Dev.fld, Dev.num_blockCounted_apart rfl rfl, ← Dev.fld]
  have hdst : (s.dev.blockCounted c cost).num2 CIPH.RUN_DST_LO CIPH.RUN_DST_HI c = s.dev.num2 CIPH.RUN_DST_LO CIPH.RUN_DST_HI c := by
    rw [Dev.num2, Dev.num_blockCounted_apart rfl rfl, Dev.num_blockCounted_apart rfl rfl, ← Dev.num2]
  generalize s.dev.blockCounted c cost = b at hx hbm hbc hcount hdst
  generalize aesBlock _ _ _ = out at hx ⊢
  generalize s.dev.num CIPH.RUN_STAT c / 256 = n at hx ⊢
  have hm : s.dev.moves (s.dev.blockDone c false .clean) [.draws, .hostMem, .units] [0x38] := by
    rw [hx]
    exact ((s.dev.still.andThen hbm).andThen Dev.moves_runWorked).andThen Dev.moves_unitNext
  rw [Nat.mod_eq_of_lt hc, hm.under_eq]
  refine ⟨?_, fun h => ?_, fun h => ?_, hm⟩
  · rw [hx, Dev.dmaRead, Dev.moves_unitNext.keeps_hostMem, Dev.hostMem_runWorked, hdst, smapBytes_putBytes]
  · obtain ⟨hnum, hraised⟩ := Dev.runWorked_last (d := b) (out := out) (hcount.symm ▸ h)
    rw [hx, Dev.num_unitNext, Dev.raised_unitNext, Dev.run_unitNext, Dev.cipher_runWorked, hcount]
    exact ⟨hnum, if_pos h, hraised⟩
  · rw [hx, Dev.num_unitNext, Dev.run_unitNext, Dev.cipher_runWorked, hcount, Dev.runWorked_goes_on (hcount.symm ▸ h)]
    refine ⟨rfl, (if_neg (Nat.not_le.mpr h)).trans ?_⟩
    rw [hbc]
    exact hrun

end Sys2Proof.Machine

open Sys2Proof Sys2Proof.Machine

/-- Settles O41. -/
theorem cipherKeysAndRuns : Obligations.CipherKeysAndRuns := by
  unfold Obligations.CipherKeysAndRuns
  refine ⟨fun s c path n size ho hc hp hn hcmd hr => ?load, fun s c path n ho hc hp hn hcmd => ?erase, fun s i c path size ho hc h => ?refused,
    fun s c n p hon hc hn hcmd hd => ?pending, fun s c n hon hc hn h => ?early, fun s c path n x ho hc hp he hh hn hx hf hv hlt hcmd hi => ?nonce,
    fun s c path g ho hc hp h => ?nonceNot, fun s c path g ho hc hp he hh hi => ?nonceWaits, fun s c path ho hc hp he hs hh => ?run,
    fun s c path ho hc hp he h => ?runNot, fun s c ho hc hs hn hq => ?abort,
    fun s c q r x e hon hc hq hops hn ha hruns hx hcmd hf hv hid hw => ?call,
    fun s c n p x out hon hc hq hn ha hrun hx hcmd hf hv hnum hout => ?block, fun s c p q r hon hc hruns hrun hq hop hn ha => ?between,
    fun s c n p e x hon hc hq hrun hn ha hx hcmd hnum h => ?fails, fun s c e g hon hc hq hrun => ?idle⟩
  case load =>
    refine gives_access rfl ho ?_
    have hu : (s.dev.keyCleared c path).units = s.dev.units := Dev.moves_keyCleared.keeps_units
    have hd : (s.dev.keyCleared c path).draws = s.dev.draws := Dev.moves_keyCleared.keeps_draws
    have hx := Dev.keyCmd_taken (path := path) (load := some size) (hn ▸ hcmd) fun _ => hr
    rw [← hn, Option.map_some] at hx
    have hm : s.dev.moves (s.dev.keyCmd c path (some size)) [.draws, .units] [0x38] := by
      rw [hx]
      exact Dev.moves_keyCmd_taken
    rw [Nat.mod_eq_of_lt hc, hm.under_eq, hx]
    refine ⟨fun hb => ?_, fun hb => ?_, fun i hi => ?_, ?_, Dev.moves_keyCmd_taken.2⟩
    · rw [Dev.keyPut_free (Dev.slotBusy_keyCleared.trans hb), Dev.keySlot_keyApply_load, Dev.keySlot_congr hu, Dev.draws_keyApply_load, hd]
      exact ⟨rfl, rfl⟩
    · rw [Dev.keySlot_keyPut_busy (Dev.slotBusy_keyCleared.trans hb), Dev.keySlot_congr hu, Dev.cipher_congr hu]
    · rw [Dev.regP_keyPut, Dev.regP_keyCleared hi]
    · exact (((Dev.keeps.refl _).each fun h => h.setRegP).setKeySlot).ite (((Dev.keeps.refl _).each fun h => h.setRegP).keyApply)
  case erase =>
    refine gives_access rfl ho ?_
    have hu : (s.dev.keyCleared c path).units = s.dev.units := Dev.moves_keyCleared.keeps_units
    have hx := Dev.keyCmd_taken (path := path) (load := none) (hn ▸ hcmd) nofun
    rw [← hn, Option.map_none] at hx
    have hm : s.dev.moves (s.dev.keyCmd c path none) [.draws, .units] [0x38] := by
      rw [hx]
      exact Dev.moves_keyCmd_taken
    rw [Nat.mod_eq_of_lt hc, hm.under_eq, hx]
    refine ⟨fun hb => ?_, fun hb => ?_, fun i hi => ?_, ?_, Dev.moves_keyCmd_taken.2⟩
    · rw [Dev.keyPut_free (Dev.slotBusy_keyCleared.trans hb), Dev.keySlot_keyApply_erase, Dev.keySlot_congr hu]
    · rw [Dev.keySlot_keyPut_busy (Dev.slotBusy_keyCleared.trans hb), Dev.keySlot_congr hu, Dev.cipher_congr hu]
    · rw [Dev.regP_keyPut, Dev.regP_keyCleared hi]
    · exact (((Dev.keeps.refl _).each fun h => h.setRegP).setKeySlot).ite (((Dev.keeps.refl _).each fun h => h.setRegP).keyErase)
  case refused =>
    have hx : ∃ load : Option Bool, exec i s = (s.act fun d => d.access 0x38 fun d => d.keyCmd (c % 8) path load) ∧
        s.dev.keyCmd c path load = s.dev.raise CIPH.int_KEY_REFUSED := by
      rcases h with ⟨rfl, h⟩ | ⟨rfl, h⟩
      · exact ⟨some size, rfl, Dev.keyCmd_refused (h.imp id fun h => ⟨rfl, h⟩)⟩
      · exact ⟨none, rfl, Dev.keyCmd_refused (.inl h)⟩
    obtain ⟨load, hexec, hx⟩ := hx
    refine gives_access hexec ho ?_
    rw [Nat.mod_eq_of_lt hc, hx]
    exact ⟨Dev.raised_raise_eq _ _ rfl, Dev.reportsOnly_under (Dev.reportsOnly_raise _ _)⟩
  case pending =>
    refine gives_run rfl hon ?_
    rw [Nat.mod_eq_of_lt hc, Nat.mod_eq_of_lt hn, Dev.keyPending_due hcmd hd]
    refine ⟨fun key size hl => ?_, fun hl => ?_, ?_⟩
    · rw [hl]
      exact Dev.keySlot_keyApply_load
    · rw [hl]
      exact Dev.keySlot_keyApply_erase
    · cases hl : p.load with
      | none => exact ((Dev.keeps.refl _).keyErase).under
      | some x => exact ((Dev.keeps.refl _).keyApply).under
  case early =>
    refine idle_runSelf rfl ?_
    rw [Nat.mod_eq_of_lt hc, Nat.mod_eq_of_lt hn, Dev.keyPending_early h]
  case nonce =>
    subst hx
    refine gives_access rfl ho ?_
    have hg := Dev.nonceGo_served he (by rw [Nat.mod_eq_of_lt hp]; exact hh) hn hcmd hf hv hlt hi
    have hm : s.dev.moves (s.dev.nonceGo c path .clean) [.units] [0x38] := by
      rw [hg]
      exact (s.dev.still.setCipher.andThen Dev.moves_nonceTaken).andThen Dev.moves_nonceShown
    rw [Nat.mod_eq_of_lt hc, hm.under_eq]
    refine ⟨?_, fun i hi => ?_, fun h => ?_, hm⟩
    · rw [hg, Dev.keySlot_congr Dev.moves_nonceShown.keeps_units, Dev.keySlot_nonceTaken, Dev.keySlot_activeNow]
    · rw [hg, Dev.regP_nonceShown hi, Dev.nonceBytes]
    · rw [hg, Dev.raised_nonceShown, Dev.raised_nonceTaken (by rw [Dev.keySlot_activeNow]; exact h)]
  case nonceNot =>
    refine idle_access rfl ho.2 ?_
    rw [Nat.mod_eq_of_lt hc, Dev.nonceGo_unheld (by rw [Nat.mod_eq_of_lt hp]; exact h)]
  case nonceWaits =>
    refine gives_access rfl ho ?_
    rw [Nat.mod_eq_of_lt hc, Dev.nonceGo_held he (by rw [Nat.mod_eq_of_lt hp]; exact hh)]
    dsimp only
    rw [Dev.unitIdle_activeNow, if_neg (by rw [hi]; decide)]
    refine ⟨?_, ((Dev.keeps_activeNow).setCipher).under⟩
    change (Dev.setCipher _ _ _).cipher c = _
    rw [Dev.cipher_setCipher_same, Dev.cipher_activeNow]
  case run =>
    refine gives_access rfl ho ?_
    have hpm : path % 2 = path := Nat.mod_eq_of_lt hp
    have hx := Dev.runGo_starts (path := path) he hs (by rw [hpm]; exact hh)
    rw [hpm] at hx
    have hm : s.dev.moves (s.dev.runGo c path) [.units] [0x38] := by
      rw [hx]
      exact s.dev.still.startOp.setCipher
    rw [Nat.mod_eq_of_lt hc, hm.under_eq, hx]
    exact ⟨(Dev.num_setCipher _).trans (Dev.num_startOp _ _ _), Dev.cipher_setCipher_same _ _ _, ((Dev.keeps.refl _).setNum).setCipher,
      fun k w hk => Dev.keepsBut_setNum (d := s.dev) (r := CIPH.RUN_STAT) (v := 1) (c := c) k w hk⟩
  case runNot =>
    refine gives_access rfl ho ?_
    rw [Nat.mod_eq_of_lt hc, Dev.runGo_refused he (by rw [Nat.mod_eq_of_lt hp]; exact h)]
    exact ⟨Dev.raised_raise_eq _ _ rfl, Dev.reportsOnly_under (Dev.reportsOnly_raise _ _)⟩
  case abort =>
    refine gives_access rfl ho ?_
    obtain ⟨p, x, hx⟩ := Dev.runAbort_running hs hn hq
    have hm : s.dev.moves (s.dev.runAbort c) [.units] [0x38] := by
      rw [hx]
      exact (s.dev.still.setNum.setCipher.andThen Dev.moves_unitNext).opEnd
    rw [Nat.mod_eq_of_lt hc, hm.under_eq]
    refine ⟨?_, ?_, hm⟩
    · rw [hx, Dev.opState_opEnd, Dev.unitNext, Dev.opState_setCipher, Dev.opState_setCipher, Dev.opState_setNum_aborted]
    · rw [hx, Dev.cipher_congr (Dev.opEnd_units _ _ _ _), Dev.run_unitNext, Dev.cipher_setCipher_same]
  case call => exact gives_callBlock hon hc hq hops hn ha hruns hx hcmd hf hv hid hw
  case block => exact gives_runBlock hon hc hq hn ha hrun hx hcmd hf hv hnum hout
  case between =>
    refine gives_run rfl hon ?_
    obtain ⟨x, t, hx⟩ := Dev.blockDone_between hruns hrun hq hop hn ha
    rw [Nat.mod_eq_of_lt hc]
    change ((s.dev.blockDone c false .clean).cipher c).queue = _ ∧ ((s.dev.blockDone c false .clean).cipher c).runs = _ ∧
      ((s.dev.blockDone c false .clean).cipher c).done = _
    rw [hx]
    exact ⟨hq, rfl, rfl⟩
  case fails =>
    subst hx
    refine gives_run rfl hon ?_
    have hx : s.dev.blockDone c e .clean = ((s.dev.blockBegun c).runStopped c 4 n).unitNext c := by
      rw [Dev.blockDone_ran hq hn ha hrun hcmd, Dev.runBlock_stops (d := s.dev.blockBegun c) h, hnum]
      rfl
    have hm : s.dev.moves (s.dev.blockDone c e .clean) [.units] [0x38] := by
      rw [hx]
      exact Dev.moves_runBlock_stopped
    rw [Nat.mod_eq_of_lt hc, hm.under_eq]
    refine ⟨?_, ?_, ?_, hm.keeps_hostMem⟩
    · rw [hx, Dev.unitNext, Dev.num_setCipher, Dev.num_runStopped (by decide)]
    · rw [hx, Dev.run_unitNext, Dev.cipher_runStopped]
    · rw [hx, Dev.raised_unitNext, Dev.raised_runStopped]
  case idle =>
    refine idle_runSelf rfl ?_
    rw [Nat.mod_eq_of_lt hc, Dev.blockDone, if_pos (by rw [Dev.unitIdle, hq, hrun]; rfl)]
end

section
set_option Elab.async false
/-! Patches, the control store and program counters (R251 to R253, R256, R259). -/

namespace Sys2Proof.Machine
open Sys2Proof

namespace Dev.keeps
variable {d0 d : Dev} {P : List Part}

theorem set_eng {x} (h : d0.keeps d P) (hp : P.contains .eng = true := by rfl) : d0.keeps { d with eng := x } P :=
  h.of_part .eng hp fun p hp => by cases p <;> first | rfl | exact absurd rfl hp

theorem emit {o : Output} (h : d0.keeps d P) (hp : P.contains .out = true := by rfl) : d0.keeps (d.emit o) P := h.set_out hp

end Dev.keeps

namespace Dev
variable {d : Dev} {n c i w v slot path : Nat}

/-- A walk whose steps look at what none of them moves. -/
theorem each_pinned {α : Type} {f g : Dev → Nat → Dev} {rd : Dev → α} (h : ∀ (e : Dev) (j : Nat), rd e = rd d → f e j = g e j)
    (hg : ∀ (e : Dev) (j : Nat), rd (g e j) = rd e) : d.each n f = d.each n g := by
  induction n with
  | zero => rfl
  | succ n ih =>
    rw [each_succ, each_succ, ih]
    exact h _ n (each_keeps fun e j _ => hg e j)

/-- A frond of PATCH_MASK. -/
def masked (d : Dev) (c : Nat) : Bool := bitOf (d.num CSTO.PATCH_MASK) c

/-! ### Patch slots -/

/-- A patch slot of a frond, set. -/
def setPatch (d : Dev) (c slot v : Nat) : Dev := { d with eng := { d.eng with patch := d.eng.patch.set 0 (c * 32 + slot) v } }

/-- A patch slot, set in the fronds of a mask. -/
def patched (d : Dev) (slot v : Nat) : Dev := d.each 8 fun e c => if d.masked c then e.setPatch c slot v else e

theorem patchFronds_setPatch : d.patchFronds (fun d c => d.setPatch c slot v) = d.patched slot v := by
  refine each_pinned (rd := fun e => e.num CSTO.PATCH_MASK) (fun e j he => ?_) fun e j => ?_
  · rw [he]
    rfl
  · split <;> rfl

theorem slotWrite_open (h : d.otp.sealed = false) : d.slotWrite slot v = d.patched slot (v % 2 ^ 22 + bit (bitOf v 31) * 2 ^ 31) := by
  rw [← patchFronds_setPatch, slotWrite, patchWrite, if_neg (by rw [h]; decide)]
  rfl

theorem patch_patched (hs : slot < 32) (hc : c < 8) (hi : i < 32) : (d.patched slot v).eng.patch.get 0 (c * 32 + i) =
    if i = slot ∧ d.masked c = true then v else d.eng.patch.get 0 (c * 32 + i) := by
  have hother (e : Dev) (j : Nat) (h : ¬(j = c ∧ i = slot ∧ d.masked c = true)) :
      (if d.masked j then e.setPatch j slot v else e).eng.patch.get 0 (c * 32 + i) = e.eng.patch.get 0 (c * 32 + i) := by
    split
    · next hm =>
      refine SMap.get_set_ne _ _ _ _ fun hk => h ?_
      have hj : j = c := by omega
      exact ⟨hj, by omega, hj ▸ hm⟩
    · rfl
  unfold patched
  by_cases h : i = slot ∧ d.masked c = true
  · rw [each_at (rd := fun e => e.eng.patch.get 0 (c * 32 + i)) hc fun e j hj _ => hother e j (by omega), if_pos h, if_pos h.2, h.1]
    exact SMap.get_set_same _ _ _ _
  · rw [each_keeps (rd := fun e => e.eng.patch.get 0 (c * 32 + i)) fun e j _ => hother e j fun ⟨_, h2⟩ => h h2, if_neg h]

/-! ### Patch RAM -/

/-- A word of patch RAM of a frond, set. -/
def setPram (d : Dev) (c w v : Nat) : Dev := { d with eng := { d.eng with pram := d.eng.pram.set 0 (c * 256 + w) v } }

/-- A word of patch RAM, set in the fronds of a mask. -/
def prammed (d : Dev) (w v : Nat) : Dev := d.each 8 fun e c => if d.masked c then e.setPram c w v else e

theorem patchFronds_setPram : d.patchFronds (fun d c => d.setPram c w v) = d.prammed w v := by
  refine each_pinned (rd := fun e => e.num CSTO.PATCH_MASK) (fun e j he => ?_) fun e j => ?_
  · rw [he]
    rfl
  · split <;> rfl

theorem pramWrite_open (h : d.otp.sealed = false) : d.pramWrite v = (d.prammed (d.num CSTO.PRAM_IDX % 256) v).pramNext := by
  rw [← patchFronds_setPram, pramWrite, patchWrite, if_neg (by rw [h]; decide)]
  rfl

theorem pram_prammed (hw : w < 256) (hc : c < 8) (hi : i < 256) : (d.prammed w v).eng.pram.get 0 (c * 256 + i) =
    if i = w ∧ d.masked c = true then v else d.eng.pram.get 0 (c * 256 + i) := by
  have hother (e : Dev) (j : Nat) (h : ¬(j = c ∧ i = w ∧ d.masked c = true)) :
      (if d.masked j then e.setPram j w v else e).eng.pram.get 0 (c * 256 + i) = e.eng.pram.get 0 (c * 256 + i) := by
    split
    · next hm =>
      refine SMap.get_set_ne _ _ _ _ fun hk => h ?_
      have hj : j = c := by omega
      exact ⟨hj, by omega, hj ▸ hm⟩
    · rfl
  unfold prammed
  by_cases h : i = w ∧ d.masked c = true
  · rw [each_at (rd := fun e => e.eng.pram.get 0 (c * 256 + i)) hc fun e j hj _ => hother e j (by omega), if_pos h, if_pos h.2, h.1]
    exact SMap.get_set_same _ _ _ _
  · rw [each_keeps (rd := fun e => e.eng.pram.get 0 (c * 256 + i)) fun e j _ => hother e j fun ⟨_, h2⟩ => h h2, if_neg h]

theorem keeps_prammed : d.keeps (d.prammed w v) [.eng] := (keeps.refl d).each fun h => (h.set_eng).ite h

theorem regs_prammed : (d.prammed w v).regs = d.regs := keeps_prammed .regs (by decide)

theorem num_pramNext : d.pramNext.num CSTO.PRAM_IDX = (d.num CSTO.PRAM_IDX + 1) % 256 := by
  rw [pramNext, num_setNum_same]
  omega

/-! ### The control store -/

/-- A path's copy of CS_DATA, filled. -/
def csShown (d : Dev) (path k v : Nat) : Dev := d.each k fun d j => d.setRegP (CSTO.CS_DATA.ix j) path 0 (BitVec.ofNat 32 (v / 2 ^ (32 * j)))

theorem csData_off (i : Nat) : (CSTO.CS_DATA.ix i).off = CSTO.CS_DATA.off + 4 * i := rfl

theorem moves_csShown {k : Nat} : d.moves (d.csShown path k v) [] [0x34] := d.still.each fun {_ j} h => h.setRegP (r := CSTO.CS_DATA.ix j)

theorem keeps_csShown {k : Nat} : d.keeps (d.csShown path k v) [.regs] := (keeps.refl d).each fun h => h.setRegP

theorem regP_csShown {k : Nat} (hk : k ≤ 8) (hi : i < k) :
    (d.csShown path k v).regP (CSTO.CS_DATA.ix i) path 0 = BitVec.ofNat 32 (v / 2 ^ (32 * i)) := by
  have hlt : CSTO.CS_DATA.off < 2048 := by decide
  rw [csShown, each_at (rd := fun e => e.regP (CSTO.CS_DATA.ix i) path 0) hi fun e j hj hn => regP_setRegP_apart _ _ _ _ _ _ _ _
    (Reg.apart_of_off (by rw [csData_off, csData_off]; omega) (by rw [csData_off]; omega) (by rw [csData_off]; omega))]
  exact regP_setRegP_same _ _ _ _ _

/-- What the control store holds at CS_IDX. -/
def csWord (d : Dev) : Nat :=
  if d.on CSTO.CS_IDX_SPACE then d.eng.nano.get 0 (d.num CSTO.CS_IDX % 2 ^ 14) else d.eng.micro.get 0 (d.num CSTO.CS_IDX % 2 ^ 14)

/-- How many words of CS_DATA a read fills. -/
def csCount (d : Dev) : Nat := if d.on CSTO.CS_IDX_SPACE then 8 else 1

theorem csRead_eq : d.csRead path = (d.csShown path d.csCount d.csWord, BitVec.ofNat 32 d.csWord) := by
  have h0 : (d.csShown path d.csCount d.csWord).regP (CSTO.CS_DATA.ix 0) path 0 = BitVec.ofNat 32 (d.csWord / 2 ^ (32 * 0)) :=
    regP_csShown (by unfold csCount; split <;> decide) (by unfold csCount; split <;> decide)
  rw [Nat.mul_zero, Nat.pow_zero, Nat.div_one] at h0
  rw [← h0]
  rfl

/-! ### Program counters -/

theorem pcnt_setPcnt_same : (d.setPcnt c i v).pcnt c i = v % 2 ^ 64 := SMap.get_set_same _ _ _ _

theorem pcnt_setPcnt_ne {j : Nat} (hj : j % 8192 ≠ i % 8192) : (d.setPcnt c i v).pcnt c j = d.pcnt c j :=
  SMap.get_set_ne _ _ _ _ (by omega)

end Dev
end Sys2Proof.Machine

open Sys2Proof Sys2Proof.Machine

/-- Settles O38. -/
theorem patchesAndCounters : Obligations.PatchesAndCounters := by
  unfold Obligations.PatchesAndCounters
  refine ⟨fun s slot w ho hs hu => ?slot, fun s w ho hu => ?write, fun s c slot path w hc ho hu => ?refused, fun s path ho => ?read,
    fun s path i v ho hp hi hv => ?store, fun s c ho hc => ?count⟩
  case slot =>
    refine gives_access rfl ho ?_
    rw [Nat.mod_eq_of_lt hs, Dev.slotWrite_open hu]
    exact ⟨fun c i hc hi => Dev.patch_patched hs hc hi, ((Dev.keeps.refl _).each fun h => (h.set_eng).ite h).under⟩
  case write =>
    refine gives_access rfl ho ?_
    dsimp only
    rw [Dev.pramWrite_open hu]
    refine ⟨fun c i hc hi => Dev.pram_prammed (Nat.mod_lt _ (by decide)) hc hi, ?_,
      (((Dev.keeps.refl _).each fun h => (h.set_eng).ite h).setNum).under, fun k x hk => ?_⟩
    · rw [Dev.under_num, Dev.num_pramNext, Dev.num_of_regs Dev.regs_prammed]
    · exact (Dev.keepsBut_setNum (d := s.dev.prammed _ _) k x hk).trans (by rw [Dev.regs_prammed])
  case refused =>
    have hx : ∃ f : Dev → Dev, exec c s = s.act fun d => d.access 0x34 fun d => d.patchWrite f := by
      rcases hc with rfl | rfl <;> exact ⟨_, rfl⟩
    obtain ⟨f, hx⟩ := hx
    refine gives_access hx ho ?_
    rw [Dev.patchWrite, if_pos hu]
    exact ⟨Dev.raised_raise_eq _ _ rfl, Dev.reportsOnly_under (Dev.reportsOnly_raise _ _)⟩
  case read =>
    refine gives_access rfl ho ⟨rfl, ?_, (((Dev.keeps.refl _).setNum).emit).under, fun k x hk => ?_⟩
    · exact Dev.num_pramNext
    · exact Dev.keepsBut_setNum (d := s.dev) k x hk
  case store =>
    subst hi
    have hv' : v = s.dev.csWord := hv
    subst hv'
    refine gives_access rfl ho ?_
    rw [Dev.csRead_eq]
    have hm : s.dev.moves ((s.dev.csShown path s.dev.csCount s.dev.csWord).emit (.words path [BitVec.ofNat 32 s.dev.csWord])) [] [0x34] :=
      (s.dev.still.andThen Dev.moves_csShown).emit
    rw [hm.under_eq]
    have hk : s.dev.csCount ≤ 8 := by unfold Dev.csCount; split <;> decide
    refine ⟨?_, ?_, fun hn j hj => ?_, ((Dev.keeps.refl _).each fun h => h.setRegP).emit, hm.2⟩
    · change Output.words _ _ :: (s.dev.csShown path s.dev.csCount s.dev.csWord).out = _
      rw [Dev.keeps_csShown .out (by decide)]
    · change (s.dev.csShown path s.dev.csCount s.dev.csWord).regP _ _ _ = _
      rw [Dev.regP_csShown hk (by unfold Dev.csCount; split <;> decide), Nat.mul_zero, Nat.pow_zero, Nat.div_one]
    · have hc : s.dev.csCount = 8 := if_pos hn
      exact Dev.regP_csShown hk (by rw [hc]; exact hj)
  case count =>
    refine gives_access rfl ho ?_
    rw [Nat.mod_eq_of_lt hc]
    exact ⟨Dev.pcnt_setPcnt_same, fun j hj hne => Dev.pcnt_setPcnt_ne (by omega), ((Dev.keeps.refl _).set_eng).under⟩
end

section
set_option Elab.async false
/-! Time gates (R366 to R369, R376). -/

namespace Sys2Proof.Machine
open Sys2Proof

namespace Dev.keeps
variable {d0 d : Dev} {P : List Part}

theorem set_sw {x} (h : d0.keeps d P) (hp : P.contains .sw = true := by rfl) : d0.keeps { d with sw := x } P :=
  h.of_part .sw hp fun p hp => by cases p <;> first | rfl | exact absurd rfl hp

theorem pruneDeficits {n : Nat} (h : d0.keeps d P) (hp : P.contains .sw = true := by rfl) : d0.keeps (d.pruneDeficits n) P := h.set_sw hp

end Dev.keeps

namespace Dev
variable {d : Dev} {n bank i len cyc : Nat} {g : GateSt} {w : Word}

theorem gate_setGate_same (d : Dev) (n : Nat) (g : GateSt) : (d.setGate n g).gate n = g := SMap.get_set_same _ _ _ _
theorem gate_setNum {r : Reg} {v c : Nat} : (d.setNum r v c).gate n = d.gate n := rfl
theorem gate_setFld {x : Fld} {v c : Nat} : (d.setFld x v c).gate n = d.gate n := rfl
theorem gate_pruneDeficits {m : Nat} : (d.pruneDeficits m).gate n = d.gate n := rfl
theorem num_pruneDeficits {m c : Nat} {r : Reg} : (d.pruneDeficits m).num r c = d.num r c := rfl
theorem on_pruneDeficits {m c : Nat} {x : Fld} : (d.pruneDeficits m).on x c = d.on x c := rfl
theorem queues_pruneDeficits {m : Nat} : (d.pruneDeficits m).sw.queues = d.sw.queues := rfl
theorem staged_pruneDeficits {m : Nat} : (d.pruneDeficits m).sw.staged = d.sw.staged := rfl
theorem regs_pruneDeficits {m : Nat} : (d.pruneDeficits m).regs = d.regs := rfl
theorem raised_pruneDeficits {m : Nat} {b : IntBit} : (d.pruneDeficits m).raised b = d.raised b := rfl
theorem num2_pruneDeficits {m c : Nat} {lo hi : Reg} : (d.pruneDeficits m).num2 lo hi c = d.num2 lo hi c := rfl

/-! ### GATE_STAT -/

theorem gateWord_lt (a b : Nat) : setBits (setBits (d.num GATE.GATE_STAT n) 0 8 a) 8 8 b < 2 ^ 32 :=
  setBits_lt _ _ _ _ _ (setBits_lt _ _ _ _ _ (num_lt _ _ _) (by decide)) (by decide)

theorem gates_gateWord (v a b : Nat) : setBits (setBits v 0 8 a) 8 8 b % 256 = a % 256 := by
  have h := bitsOf_setBits_below (setBits v 0 8 a) 8 8 b 0 8 (by decide)
  rw [bitsOf_setBits_same, bitsOf_eq] at h
  simpa using h

theorem entry_gateWord (v a b : Nat) : bitsOf (setBits (setBits v 0 8 a) 8 8 b) 8 8 = b % 256 := bitsOf_setBits_same _ _ _ _

theorem num_showGates : (d.showGates n).num GATE.GATE_STAT n =
    setBits (setBits (d.num GATE.GATE_STAT n) 0 8 (d.gateNowIn n).1) 8 8 (d.gateNowIn n).2 := by
  rw [showGates, num_setNum_same, Nat.mod_eq_of_lt (gateWord_lt _ _)]

theorem on_showGates {x : Fld} (hr : x.reg = GATE.GATE_STAT := by rfl) (h : 16 ≤ x.lo := by decide) :
    (d.showGates n).on x n = d.on x n := by
  have hx : bitsOf (setBits (setBits (d.num GATE.GATE_STAT n) 0 8 (d.gateNowIn n).1) 8 8 (d.gateNowIn n).2) x.lo x.len =
      bitsOf (d.num GATE.GATE_STAT n) x.lo x.len := by
    rw [bitsOf_setBits_above _ _ _ _ _ _ (by omega), bitsOf_setBits_above _ _ _ _ _ _ (by omega)]
  rw [on, fld, hr, num_showGates, hx, on, fld, hr]

/-! ### Changes -/

/-- Whether a list on offer has what a change refuses. -/
def badList (d : Dev) (n len cyc : Nat) : Bool :=
  decide (len = 0 ∨ 256 < len ∨ cyc < 1000 ∨ 1000000000 < cyc) ||
    (List.range len).any fun i => (d.gclEntry n ((d.gate n).bank + 1) i).2 = 0

theorem badList_iff : d.badList n len cyc = true ↔ len = 0 ∨ 256 < len ∨ cyc < 1000 ∨ 1000000000 < cyc ∨
    ∃ i, i < len ∧ (d.gclEntry n ((d.gate n).bank + 1) i).2 = 0 := by
  simp [badList, or_assoc]

theorem gateChange_refused (h : d.badList n (d.num GATE.ADM_LEN n) (d.num GATE.ADM_CYCLE n) = true) :
    d.gateChange n = d.raise GATE.int_CHANGE_REFUSED := if_pos h

theorem gateChange_accepted (h : d.badList n (d.num GATE.ADM_LEN n) (d.num GATE.ADM_CYCLE n) = false) :
    d.gateChange n = (d.setGate n { d.gate n with pending := some (gateInstant
      (nsOfStamp (d.num2 GATE.ADM_BASE_LO GATE.ADM_BASE_HI n)) (d.num GATE.ADM_CYCLE n) d.gateNow, d.num GATE.ADM_CYCLE n,
        d.num GATE.ADM_LEN n) }).setFld GATE.GATE_STAT_PENDING 1 n := by
  rw [badList] at h
  rw [gateChange, if_neg (by rw [h]; decide)]

/-- A port whose pending list has become its active one. -/
def gateSwapped (d : Dev) (n t cyc len : Nat) : Dev :=
  ((((((d.setGate n { bank := ((d.gate n).bank + 1) % 2, len := len, pending := none }).setNum2 GATE.OPER_BASE_LO GATE.OPER_BASE_HI
    (stampOf t).toNat n).setNum GATE.OPER_CYCLE cyc n).setFld GATE.GATE_STAT_PENDING 0 n).setFld GATE.GATE_STAT_LIST_ACTIVE 1 n).bump
      GATE.CHANGES n).showGates n

theorem gateSwap_due {t : Nat} (h : (d.gate n).pending = some (t, cyc, len)) (ht : t ≤ d.gateNow) :
    d.gateSwap n = ((d.gateSwapped n t cyc len).raise GATE.int_CHANGE_DONE).log 22 0x4B01 n cyc := by
  rw [gateSwap, h]
  exact if_neg (Nat.not_lt.mpr ht)

theorem gateSwap_early (h : ∀ x, (d.gate n).pending = some x → d.gateNow < x.1) : d.gateSwap n = d := by
  rw [gateSwap]
  split
  · rfl
  · next t cyc len hp => exact if_pos (h _ hp)

variable {t : Nat}

theorem gate_gateSwapped : (d.gateSwapped n t cyc len).gate n = { bank := ((d.gate n).bank + 1) % 2, len := len, pending := none } := by
  have h : (d.gateSwapped n t cyc len).sw = (d.setGate n { bank := ((d.gate n).bank + 1) % 2, len := len, pending := none }).sw := by
    rw [gateSwapped, moves_showGates.keeps_sw, Dev.bump_sw, Dev.setFld_sw, Dev.setFld_sw, Dev.setNum_sw, Dev.setNum2_sw]
  rw [Dev.gate, h]
  exact gate_setGate_same d n _

theorem num_showGates_apart {r : Reg} {c : Nat} (h : r.apart GATE.GATE_STAT = true) : (d.showGates n).num r c = d.num r c :=
  num_setNum_apart _ _ _ _ _ _ h

theorem cycle_gateSwapped : (d.gateSwapped n t cyc len).num GATE.OPER_CYCLE n = cyc % 2 ^ 32 := by
  rw [gateSwapped, num_showGates_apart rfl, num_bump_apart _ _ _ _ _ _ rfl, num_setFld_apart _ _ _ _ _ _ rfl, num_setFld_apart _ _ _ _ _ _ rfl,
    num_setNum_same]

theorem base_gateSwapped : (d.gateSwapped n t cyc len).num2 GATE.OPER_BASE_LO GATE.OPER_BASE_HI n = (stampOf t).toNat := by
  have hlt : (stampOf t).toNat < 2 ^ 64 := (stampOf t).isLt
  rw [gateSwapped, num2, num_showGates_apart rfl, num_showGates_apart rfl, num_bump_apart _ _ _ _ _ _ rfl, num_bump_apart _ _ _ _ _ _ rfl,
    num_setFld_apart _ _ _ _ _ _ rfl, num_setFld_apart _ _ _ _ _ _ rfl, num_setFld_apart _ _ _ _ _ _ rfl, num_setFld_apart _ _ _ _ _ _ rfl,
    num_setNum_apart _ _ _ _ _ _ rfl, num_setNum_apart _ _ _ _ _ _ rfl, ← num2, num2_setNum2 n rfl hlt]

theorem changes_gateSwapped : (d.gateSwapped n t cyc len).num GATE.CHANGES n = (d.num GATE.CHANGES n + 1) % 2 ^ 32 := by
  rw [gateSwapped, num_showGates_apart rfl, num_bump_eq, num_setFld_apart _ _ _ _ _ _ rfl, num_setFld_apart _ _ _ _ _ _ rfl,
    num_setNum_apart _ _ _ _ _ _ rfl, setNum2, num_setNum_apart _ _ _ _ _ _ rfl, num_setNum_apart _ _ _ _ _ _ rfl]
  rfl

theorem active_gateSwapped : (d.gateSwapped n t cyc len).on GATE.GATE_STAT_LIST_ACTIVE n = true := by
  rw [gateSwapped, on_showGates, on_bump_apart _ _ _ _ _ _ rfl, on_setFld_eq _ _ _ _ rfl]
  rfl

theorem pending_gateSwapped : (d.gateSwapped n t cyc len).on GATE.GATE_STAT_PENDING n = false := by
  rw [gateSwapped, on_showGates, on_bump_apart _ _ _ _ _ _ rfl, on_setFld_beside _ _ _ _ _ rfl, on_setFld_eq _ _ _ _ rfl]
  rfl

theorem moves_gateSwapped : d.moves (d.gateSwapped n t cyc len) [.sw] [0x4B] :=
  (((((d.still.andThen moves_setGate).setNum2.setNum.setFld).setFld).bump).andThen moves_showGates)

/-! ### Lists -/

theorem gclEntry_setGclEntry_same (d : Dev) (n b i : Nat) (e : Nat × Nat) : (d.setGclEntry n b i e).gclEntry n b i = e := SMap.get_set_same _ _ _ _

theorem gclEntry_setGclEntry_other {j : Nat} (e : Nat × Nat) : (d.setGclEntry n (bank + 1) i e).gclEntry n bank j = d.gclEntry n bank j :=
  SMap.get_set_ne _ _ _ _ (by unfold gclKey; omega)

theorem num_gclAdvance : (d.gclAdvance n).num GATE.GCL_IDX n % 256 = (d.num GATE.GCL_IDX n + 1) % 256 := by
  have h := bitsOf_setBits_same (d.num GATE.GCL_IDX n) 0 8 (d.num GATE.GCL_IDX n + 1)
  rw [bitsOf_eq] at h
  rw [gclAdvance, num_setNum_same, Nat.mod_eq_of_lt (setBits_lt _ _ _ _ _ (num_lt _ _ _) (by decide))]
  simpa using h

theorem gclWrite_pending {f : Nat × Nat → Nat × Nat} (h : d.on GATE.GATE_STAT_PENDING n = true) : d.gclWrite n f = d := if_pos h

theorem gclWrite_free {f : Nat × Nat → Nat × Nat} (h : d.on GATE.GATE_STAT_PENDING n = false) : d.gclWrite n f =
    d.setGclEntry n ((d.gate n).bank + 1) (d.num GATE.GCL_IDX n % 256) (f (d.gclEntry n ((d.gate n).bank + 1) (d.num GATE.GCL_IDX n % 256))) :=
  if_neg (by rw [h]; decide)

theorem regs_gclWrite {f : Nat × Nat → Nat × Nat} : (d.gclWrite n f).regs = d.regs := by
  unfold gclWrite
  dsimp only
  split <;> rfl

theorem gclWrite_other {f : Nat × Nat → Nat × Nat} {j : Nat} : (d.gclWrite n f).gclEntry n (d.gate n).bank j = d.gclEntry n (d.gate n).bank j := by
  unfold gclWrite
  dsimp only
  split
  · rfl
  · exact gclEntry_setGclEntry_other _

theorem moves_gclWrite {f : Nat × Nat → Nat × Nat} : d.moves (d.gclWrite n f) [.sw] [] := d.still.ite d.still.set_sw
theorem out_emit (o : Output) : (d.emit o).out = o :: d.out := rfl
theorem gclEntry_gclAdvance {m b j : Nat} : (d.gclAdvance n).gclEntry m b j = d.gclEntry m b j := rfl
theorem sw_gclAdvance : (d.gclAdvance n).sw = d.sw := rfl

theorem keepsBut_setFld {x : Fld} {v c : Nat} : d.keepsBut (d.setFld x v c) [x.reg.key 0 c] := keepsBut_setNum

end Dev
end Sys2Proof.Machine

open Sys2Proof Sys2Proof.Machine

/-- Settles O45. -/
theorem timeGates : Obligations.TimeGates := by
  unfold Obligations.TimeGates
  refine ⟨fun s n hon hn hg => ?entry, fun s n hon hn hg => ?ungated, fun s n => ?stat, fun s n len cyc ho hn hl hc h1 h2 h3 h4 h5 => ?change,
    fun s n len cyc ho hn hl hc h => ?refused, fun s n ho hn => ?cancel, fun s n t cyc len hon hn hp ht => ?swap, fun s n hon hn h => ?early,
    fun s path n i w ho hn hi => ?write, fun s path n ho hn => ?read⟩
  case entry =>
    refine gives_run rfl hon ?_
    have hx : s.dev.gateEntry n = s.dev.showGates n := if_pos hg
    have hm : s.dev.moves ((s.dev.showGates n).pruneDeficits n) [.sw] [0x4B] := (s.dev.still.andThen Dev.moves_showGates).andThen Dev.moves_pruneDeficits
    rw [Nat.mod_eq_of_lt hn, hx, hm.under_eq]
    refine ⟨?_, ?_, ?_, ?_, ?_, ((Dev.keeps.refl _).setNum).pruneDeficits, fun k x hk => ?_⟩
    · rw [Dev.num_pruneDeficits, Dev.num_showGates, Dev.gates_gateWord]
    · rw [Dev.num_pruneDeficits, Dev.num_showGates, Dev.entry_gateWord]
    · rw [Dev.queues_pruneDeficits, Dev.moves_showGates.keeps_sw]
    · rw [Dev.staged_pruneDeficits, Dev.moves_showGates.keeps_sw]
    · rw [Dev.gate_pruneDeficits, Dev.gate_congr Dev.moves_showGates.keeps_sw]
    · rw [Dev.regs_pruneDeficits]
      exact Dev.keepsBut_setNum k x hk
  case ungated =>
    refine gives_run rfl hon ?_
    have hx : s.dev.gateEntry n = s.dev := if_neg (by rw [hg]; decide)
    rw [Nat.mod_eq_of_lt hn, hx, Dev.moves_pruneDeficits.under_eq]
    exact ⟨rfl, Dev.queues_pruneDeficits, (Dev.keeps.refl _).pruneDeficits⟩
  case stat =>
    refine ⟨fun h => ?_, fun h => ⟨?_, ?_⟩⟩
    · rw [Dev.gateStat, Dev.gates_gateWord, Dev.gatesOpen, if_neg (by rw [h]; decide)]
    · rw [Dev.gateStat, Dev.gates_gateWord, Dev.gatesOpen, if_pos h]
    · rw [Dev.gateStat, Dev.entry_gateWord, if_pos h]
  case change =>
    subst hl hc
    have hb : s.dev.badList n (s.dev.num GATE.ADM_LEN n) (s.dev.num GATE.ADM_CYCLE n) = false := by
      refine Bool.eq_false_iff.mpr fun h => ?_
      rcases Dev.badList_iff.mp h with h | h | h | h | ⟨i, hi, h⟩
      · omega
      · omega
      · omega
      · omega
      · exact h5 i hi h
    refine gives_access rfl ho ?_
    have hm {g : GateSt} : s.dev.moves ((s.dev.setGate n g).setFld GATE.GATE_STAT_PENDING 1 n) [.sw] [0x4B] := (s.dev.still.andThen Dev.moves_setGate).setFld
    rw [Nat.mod_eq_of_lt hn, Dev.gateChange_accepted hb, hm.under_eq]
    refine ⟨?_, ?_, ((Dev.keeps.refl _).set_sw).setFld, fun k x hk => ?_⟩
    · rw [Dev.gate_setFld, Dev.gate_setGate_same]
    · rw [Dev.on_setFld_eq _ _ _ _ rfl]
      rfl
    · exact Dev.keepsBut_setFld (d := s.dev.setGate n _) k x hk
  case refused =>
    subst hl hc
    refine gives_access rfl ho ?_
    rw [Nat.mod_eq_of_lt hn, Dev.gateChange_refused (Dev.badList_iff.mpr h)]
    exact ⟨Dev.raised_raise_eq _ _ rfl, Dev.reportsOnly_under (Dev.reportsOnly_raise _ _)⟩
  case cancel =>
    refine gives_access rfl ho ?_
    have hm : s.dev.moves (s.dev.gateCancel n) [.sw] [0x4B] := (s.dev.still.andThen Dev.moves_setGate).setFld
    rw [Nat.mod_eq_of_lt hn, hm.under_eq, Dev.gateCancel]
    refine ⟨?_, ?_, ((Dev.keeps.refl _).set_sw).setFld, fun k x hk => ?_⟩
    · rw [Dev.gate_setFld, Dev.gate_setGate_same]
    · rw [Dev.on_setFld_eq _ _ _ _ rfl]
      rfl
    · exact Dev.keepsBut_setFld (d := s.dev.setGate n _) k x hk
  case swap =>
    refine gives_run rfl hon ?_
    have hx := Dev.gateSwap_due hp ht
    have hm : s.dev.moves ((s.dev.gateSwap n).pruneDeficits n) [.sw] [0x4B] := by
      rw [hx]
      exact (((s.dev.still.andThen Dev.moves_gateSwapped).raise).log).andThen Dev.moves_pruneDeficits
    rw [Nat.mod_eq_of_lt hn, hm.under_eq]
    refine ⟨?_, ?_, ?_, ?_, ?_, ?_, ?_, hm⟩
    · rw [Dev.gate_pruneDeficits, hx, Dev.gate_congr (Dev.log_sw _ _ _ _ _ _ _), Dev.gate_congr (Dev.raise_sw _ _), Dev.gate_gateSwapped]
    · rw [Dev.num_pruneDeficits, hx, Dev.num_log_plain _ _ _ _ _ _ _ _ _ rfl, Dev.num_raise_plain _ _ _ _ rfl, Dev.cycle_gateSwapped]
    · rw [Dev.num2_pruneDeficits, hx, Dev.num2, Dev.num_log_plain _ _ _ _ _ _ _ _ _ rfl, Dev.num_raise_plain _ _ _ _ rfl,
        Dev.num_log_plain _ _ _ _ _ _ _ _ _ rfl, Dev.num_raise_plain _ _ _ _ rfl, ← Dev.num2, Dev.base_gateSwapped]
    · rw [Dev.on_pruneDeficits, hx, Dev.on_log_plain _ _ _ _ _ _ _ _ _ rfl, Dev.on_raise_plain _ _ _ _ rfl, Dev.pending_gateSwapped]
    · rw [Dev.on_pruneDeficits, hx, Dev.on_log_plain _ _ _ _ _ _ _ _ _ rfl, Dev.on_raise_plain _ _ _ _ rfl, Dev.active_gateSwapped]
    · rw [Dev.num_pruneDeficits, hx, Dev.num_log_plain _ _ _ _ _ _ _ _ _ rfl, Dev.num_raise_plain _ _ _ _ rfl, Dev.changes_gateSwapped]
    · rw [Dev.raised_pruneDeficits, hx, Dev.raised_log_plain _ _ _ _ _ _ _ _ rfl, Dev.raised_raise_eq _ _ rfl]
  case early =>
    refine gives_run rfl hon ?_
    rw [Nat.mod_eq_of_lt hn, Dev.gateSwap_early h, Dev.moves_pruneDeficits.under_eq]
    exact ⟨rfl, Dev.gate_pruneDeficits, (Dev.keeps.refl _).pruneDeficits⟩
  case write =>
    subst hi
    refine gives_access rfl ho ?_
    dsimp only
    have hm : s.dev.moves (s.dev.gclTime n w) [.sw] [0x4B] := (s.dev.still.andThen Dev.moves_gclWrite).setNum
    rw [Nat.mod_eq_of_lt hn, hm.under_eq, Dev.gclTime]
    refine ⟨fun hp => ?_, fun hp => ?_, fun j => ?_, ?_, ?_, fun k x hk => ?_⟩
    · rw [Dev.gclEntry_gclAdvance, Dev.gclWrite_free hp, Dev.gclEntry_setGclEntry_same]
    · rw [Dev.sw_gclAdvance, Dev.gclWrite_pending hp]
    · rw [Dev.gclEntry_gclAdvance, Dev.gclWrite_other]
    · rw [Dev.num_gclAdvance, Dev.num_of_regs Dev.regs_gclWrite]
      omega
    · exact ((Dev.keeps.refl _).ite ((Dev.keeps.refl _).set_sw)).setNum
    · exact (Dev.keepsBut_setNum (d := s.dev.gclWrite n _) k x hk).trans (by rw [Dev.regs_gclWrite])
  case read =>
    refine gives_access rfl ho ?_
    dsimp only
    have hm : s.dev.moves (s.dev.gclTimeRead n path) [] [0x4B] := (s.dev.still.setNum).emit
    rw [Nat.mod_eq_of_lt hn, hm.under_eq]
    rw [Dev.gclTimeRead]
    refine ⟨?_, ?_, ((Dev.keeps.refl _).setNum).emit, fun k x hk => ?_⟩
    · rw [Dev.out_emit, Dev.gclAdvance, Dev.setNum_out]
    · rw [Dev.emit_num, Dev.num_gclAdvance]
    · rw [Dev.emit_regs]
      exact Dev.keepsBut_setNum k x hk
end

section
set_option Elab.async false
/-! Refresh, drift tracking and scrubbing of memory channels (R389, R390, R395, R397, R398). -/

namespace Sys2Proof.Machine
open Sys2Proof

namespace Dev
variable {d : Dev} {m : Nat}

/-- The errors of a flow channel beyond the task spill area are passed over. -/
theorem scrubFind_beyond {x : ScrubFind} (hm : m < 48) (ha : 0x1CAAAB00 ≤ x.addr % 2 ^ 29) : d.scrubFind m x = d := by
  rw [scrubFind]
  exact if_pos ⟨hm, ha⟩

theorem ues_openActs {ch c : Nat} : (d.openActs ch).num MEMC.UE_CNT c = d.num MEMC.UE_CNT c := by
  unfold openActs
  extract_lets v a n acts x e
  have he : e.num MEMC.UE_CNT c = d.num MEMC.UE_CNT c := by
    change (if _ then _ else d : Dev).num _ _ = _
    split <;> rfl
  change (Dev.perf _ _ _ _).num _ _ = _
  rw [num_perf_plain _ _ _ _ _ _ rfl, num_bump_apart _ _ _ _ _ _ rfl, num_bump_apart _ _ _ _ _ _ rfl, he]

/-- The end of a pass whose only find lies beyond the task spill area counts no error. -/
theorem ues_scrubEnd {x : ScrubFind} (hm : m < 48) (ha : 0x1CAAAB00 ≤ x.addr % 2 ^ 29) :
    (d.scrubEnd m [x]).num MEMC.UE_CNT m = d.num MEMC.UE_CNT m := by
  rw [scrubEnd, List.foldl_cons, List.foldl_nil, scrubFind_beyond hm ha, num_raise_plain _ _ _ _ rfl, endOp,
    num_opEnd_plain _ _ _ _ _ _ rfl, num_setNum_apart _ _ _ _ _ _ rfl, ues_openActs, num_perf_plain _ _ _ _ _ _ rfl]

end Dev

/-- A ready module with a scrub pass of channel 0, the other 47 flow channels retired, a table of full size and one record. -/
def substituteState : State :=
  { dev := { (((({ Dev.reset with sup := { Dev.reset.sup with phase := .on } }.setNum MEMC.RETIRED_LO 0xFFFFFFFE).setNum
      MEMC.RETIRED_HI 0xFFFF).setFld FLOW.SLOT_CFG_SIZE 27).setNum MEMC.SCRUB_STAT 1) with
        flow := { Dev.reset.flow with mem := [(713926, 1)] } }, pending := [] }

/-- A word with two bad symbols beyond the task spill area. -/
def farFind : ScrubFind := { addr := 0x1CAAAB00, word := { word := 0, sym0 := 0, sym1 := 1 } }

end Sys2Proof.Machine

open Sys2Proof Sys2Proof.Machine

/-- Refutes O46: a pass passes over what lies beyond the task spill area, and with most flow channels retired a slot in use has its
substitute there: its uncorrectable word is not counted. -/
theorem not_refreshDriftAndScrub : ¬ Obligations.RefreshDriftAndScrub := by
  unfold Obligations.RefreshDriftAndScrub
  rintro ⟨-, -, -, -, -, -, -, -, -, -, -, -, hfind, -⟩
  have hslot : substituteState.dev.slotHere 0 (farFind.addr % 2 ^ 29) = some 713926 := by decide +kernel
  have hlive : substituteState.dev.chLive 0 = true := by decide +kernel
  have hrun : substituteState.dev.opState MEMC.SCRUB_STAT 0 = 1 := by decide +kernel
  have hen : substituteState.dev.enabled 0x50 = true := by decide +kernel
  have hues : substituteState.dev.num MEMC.UE_CNT 0 = 0 := by decide +kernel
  obtain ⟨t, ht, -, hcount, -⟩ := hfind substituteState 0 farFind 713926 ⟨rfl, rfl⟩ hrun hlive hen (by decide) hslot rfl
    (by decide +kernel) (by decide +kernel) (by decide)
  have ht' : t.dev = substituteState.dev.under (substituteState.dev.when substituteState.dev.awake fun d =>
      if d.opState MEMC.SCRUB_STAT 0 = 1 then d.when (d.chLive 0 && d.enabled 0x50) fun d => d.scrubEnd 0 [farFind]
      else d.when (d.chLive 0 && d.scrubDue 0) fun d => d.scrubBegin 0) := by
    cases ht
    rfl
  rw [ht', show substituteState.dev.awake = true by decide +kernel, Dev.when_true, if_pos hrun, hlive, hen, Bool.and_self, Dev.when_true,
    Dev.under_num, Dev.ues_scrubEnd (by decide) (by decide), hues] at hcount
  revert hcount
  decide
end

section
set_option Elab.async false
/-! Table DMA (R87, R451). -/

namespace Sys2Proof.Machine.Dev
open Sys2Proof
variable {d e : Dev} {n : Nat}

/-! ### How an operation ends -/

theorem abortOp_running {r : Reg} {c : Nat} {f : Dev → Dev} (h : d.opState r c = 1) :
    d.abortOp r c f = (f (d.setNum r (setBits (d.num r c) 0 3 3) c)).opEnd r.page
      ((f (d.setNum r (setBits (d.num r c) 0 3 3) c)).num r c) c := if_pos h

theorem abortOp_complete {r : Reg} {c : Nat} {f : Dev → Dev} (h : d.opState r c = 2) :
    d.abortOp r c f = d.setNum r (setBits (d.num r c) 3 1 1) c := by rw [abortOp, if_neg (by omega), if_pos h]

/-! ### Table DMA -/

/-- The abort of a table DMA that has moved `n` entries. -/
def tdmaStopped (n : Nat) (d : Dev) : Dev := d.abortOp HOST.TDMA_STAT 0 fun d => d.setNum HOST.TDMA_STAT (statusWord 3 0 n)

theorem tdmaAbort_moved {done : Nat} (h : d.opState HOST.TDMA_STAT = 1)
    (hx : tdmaMove (min done (d.tdmaCount - 1)) d 0 = (e, n, true)) : d.tdmaAbort done = e.tdmaStopped n := by
  rw [tdmaAbort, if_neg (by simp [h]), hx]
  rfl

theorem tdmaAbort_complete {done : Nat} (h : d.opState HOST.TDMA_STAT = 2) :
    d.tdmaAbort done = d.setNum HOST.TDMA_STAT (setBits (d.num HOST.TDMA_STAT) 3 1 1) := by
  rw [tdmaAbort, if_pos (by omega), abortOp_complete h]

theorem stat_tdmaStopped (h : d.opState HOST.TDMA_STAT = 1) : (d.tdmaStopped n).num HOST.TDMA_STAT = statusWord 3 0 n := by
  rw [tdmaStopped, abortOp_running h, num_opEnd_plain _ _ _ _ _ _ rfl, num_setNum_same, Nat.mod_eq_of_lt (statusWord_lt (by decide))]

theorem hostMem_tdmaStopped (h : d.opState HOST.TDMA_STAT = 1) : (d.tdmaStopped n).hostMem = d.hostMem := by
  rw [tdmaStopped, abortOp_running h]
  exact opEnd_hostMem _ _ _ _

theorem look_tdmaStopped (h : d.opState HOST.TDMA_STAT = 1) : (d.tdmaStopped n).look = d.look := by
  rw [tdmaStopped, abortOp_running h]
  exact opEnd_look _ _ _ _

theorem moves_tdmaStopped : d.moves (d.tdmaStopped n) [] [0x68] := d.still.abortOp fun h => h.setNum

theorem stat_tdmaFail : (d.tdmaFail n).num HOST.TDMA_STAT = statusWord 4 0 n := by
  rw [tdmaFail, num_raise_plain _ _ _ _ rfl, num_endOp]

theorem moves_tdmaFail : d.moves (d.tdmaFail n) [] [0x68] := d.still.endOp.raise

/-- The end of a table DMA whose last entry has been moved. -/
def tdmaFinish (n : Nat) (d : Dev) : Dev := (d.endOp HOST.TDMA_STAT 0 2 n).raise HOST.int_TDMA_DONE

theorem stat_tdmaFinish : (d.tdmaFinish n).num HOST.TDMA_STAT = statusWord 2 0 n := by
  rw [tdmaFinish, num_raise_plain _ _ _ _ rfl, num_endOp]

theorem moves_tdmaFinish : d.moves (d.tdmaFinish n) [] [0x68] := d.still.endOp.raise

theorem tdmaEnd_moved {done : Nat} (h : d.opState HOST.TDMA_STAT = 1) (hx : tdmaMove d.tdmaCount d 0 = (e, n, true)) :
    d.tdmaEnd false done = e.tdmaFinish n := by
  rw [tdmaEnd, if_neg (by simp [h]), if_neg (by decide), hx]
  rfl

theorem tdmaEnd_refused {done : Nat} (h : d.opState HOST.TDMA_STAT = 1) (hx : tdmaMove d.tdmaCount d 0 = (e, n, false)) :
    d.tdmaEnd false done = e.tdmaFail n := by
  rw [tdmaEnd, if_neg (by simp [h]), if_neg (by decide), hx]

theorem tdmaEnd_error (h : d.opState HOST.TDMA_STAT = 1) : d.tdmaEnd true 0 = (d.bump HOST.PCIE_ERR).tdmaFail 0 := by
  rw [tdmaEnd, if_neg (by simp [h]), if_pos rfl, Nat.zero_min]
  rfl

end Sys2Proof.Machine.Dev

open Sys2Proof Sys2Proof.Machine

/-- Settles O55. -/
theorem tableDma : Obligations.TableDma := by
  unfold Obligations.TableDma
  refine ⟨fun s dir ho h => ?go, fun s dir ho h => ?busy, fun s ho h => ?abortAtOnce, fun s moved n e ho h hx he => ?abort,
    fun s moved ho h => ?late, fun s moved n e ok hon h hx => ?done, fun s hon h => ?error, fun s err moved hon h => ?idle⟩
  case go =>
    refine gives_access rfl ho ?_
    have hx : s.dev.tdmaGo dir = (s.dev.setHostSt { s.dev.host with tdmaDir := dir }).startOp HOST.TDMA_STAT := if_neg h
    have hm {v : HostSt} : s.dev.moves ((s.dev.setHostSt v).startOp HOST.TDMA_STAT) [.host] [0x68] := (s.dev.still.setHostSt).startOp
    rw [hx, hm.under_eq]
    refine ⟨Dev.num_startOp _ _ _, rfl, ((Dev.keeps.refl _).set_host).setNum, fun k x hk => ?_⟩
    exact Dev.keepsBut_setNum (d := s.dev.setHostSt _) k x hk
  case busy => exact idle_access rfl ho.2 (if_pos h)
  case abortAtOnce =>
    refine gives_access rfl ho ?_
    rw [Dev.tdmaAbort_moved h (by rw [Nat.zero_min]; rfl), Dev.moves_tdmaStopped.under_eq]
    exact ⟨Dev.stat_tdmaStopped h, Dev.moves_tdmaStopped⟩
  case abort =>
    refine gives_access rfl ho ?_
    rw [Dev.tdmaAbort_moved h hx]
    exact ⟨Dev.stat_tdmaStopped he, Dev.hostMem_tdmaStopped he, Dev.look_tdmaStopped he⟩
  case late =>
    refine gives_access rfl ho ?_
    have hm {v : Nat} : s.dev.moves (s.dev.setNum HOST.TDMA_STAT v) [] [0x68] := s.dev.still.setNum
    rw [Dev.tdmaAbort_complete h, hm.under_eq]
    refine ⟨?_, (Dev.keeps.refl _).setNum, Dev.keepsBut_setNum⟩
    rw [Dev.num_setNum_same, Nat.mod_eq_of_lt (setBits_lt _ _ _ _ _ (Dev.num_lt _ _ _) (by decide))]
  case done =>
    refine gives_act rfl hon ?_
    cases ok with
    | true =>
      have hm := Dev.moves_tdmaFinish (d := e) (n := n)
      rw [Dev.tdmaEnd_moved h hx]
      exact ⟨Dev.stat_tdmaFinish, fun _ => Dev.raised_raise_eq _ _ rfl, nofun, hm.keeps_hostMem, hm.keeps_look, hm.keeps_flow⟩
    | false =>
      have hm := Dev.moves_tdmaFail (d := e) (n := n)
      rw [Dev.tdmaEnd_refused h hx]
      exact ⟨Dev.stat_tdmaFail, nofun, fun _ => Dev.raised_raise_eq _ _ rfl, hm.keeps_hostMem, hm.keeps_look, hm.keeps_flow⟩
  case error =>
    refine gives_act rfl hon ?_
    have hm : s.dev.moves ((s.dev.bump HOST.PCIE_ERR).tdmaFail 0) [] [0x68] := s.dev.still.bump.andThen Dev.moves_tdmaFail
    rw [Dev.tdmaEnd_error h, hm.under_eq]
    refine ⟨Dev.stat_tdmaFail, Dev.raised_raise_eq _ _ rfl, ?_, hm⟩
    rw [Dev.tdmaFail, Dev.num_raise_plain _ _ _ _ rfl, Dev.endOp, Dev.num_opEnd_plain _ _ _ _ _ _ rfl,
      Dev.num_setNum_apart _ _ _ _ _ _ rfl, Dev.num_bump_eq]
  case idle => exact idle_actSelf rfl (if_pos h)
end

section
set_option Elab.async false
/-! What the egress side of the switch core moves: copies on their way into queues, and holds (R343 to R345, R355 to R358). -/

namespace Sys2Proof.Machine
open Sys2Proof

/-- The pages of the switch core: its buffers, queues and ports, and the memories whose units it holds. -/
abbrev corePages : List Nat := [0x11, 0x40, 0x41, 0x48, 0x50, 0x58, 0x70]

/-- Those of them that the end of a frame moves. -/
abbrev framePages : List Nat := [0x11, 0x40, 0x41, 0x50, 0x58, 0x70]

namespace Dev
variable {d : Dev}

theorem moves_crossed {i st who w : Nat} {tag : Option Nat} : d.moves (d.crossed i st tag who w) [] [0x60] := by
  unfold crossed crossedAt
  split
  · exact d.still.iteSelf fun h => h.andThen moves_sampleStage
  · exact d.still

/-- The registers of PERF are those in which counters and events show. -/
theorem moves_perfPage {e : Dev} {P : List Part} {G : List Nat} (h : d.moves e P (0x60 :: G)) : d.moves e P G :=
  ⟨h.1, fun k w hk hg => h.2 k w hk fun hp => by
    rcases List.mem_cons.mp hp with h6 | hp
    · simp [reportKey, h6] at hk
    · exact hg hp⟩

/-! ### Copies on their way into queues -/

theorem moves_enqueue {q : Nat} {c : Copy} : d.moves (d.enqueue q c) [.sw] [0x48] := by
  unfold enqueue
  exact (((d.still.perf.andThen (moves_perfPage moves_crossed)).setQueue).set_sw).setNum

theorem moves_mismap : d.moves d.mismap [] [0x48] := d.still.bump.raise
theorem moves_orphan {c : Copy} : d.moves (d.orphan c) [.sw] [0x48] := moves_enqueue.andThen moves_mismap

theorem moves_offerCopy {k cls port : Nat} {f : Frame} {u : Bool} : d.moves (d.offerCopy k f cls u port).1 [.sw] [0x41, 0x48] := by
  unfold offerCopy
  split
  · exact (d.still.andThen moves_disc).bump
  · dsimp only
    generalize (if u = true then f.sub else d.fld (TMGR.EGR_MAP_DEF_SUB.ix port)) = sub
    split
    · exact d.still.andThen moves_enqueue
    · exact d.still.andThen moves_orphan

theorem moves_replicate {k : Nat} {f : Frame} : d.moves (d.replicate k f) [.sw] corePages := by
  unfold replicate
  dsimp only
  generalize hx : List.foldl _ _ _ = x
  have h : d.moves x.1 [.sw] corePages := by
    rw [← hx]
    exact Dev.moves.foldlFst (d.still.andThen moves_setFrame) fun h => h.andThen moves_offerCopy
  exact (h.andThen moves_releaseFrame).ite (h.andThen moves_updFrame)

theorem moves_settleWait : d.moves d.settleWait [.sw] [0x48] := d.still.set_sw.setNum

theorem moves_drainTm {n : Nat} : d.moves (Dev.drainTm n d) [.sw] corePages := by
  induction n generalizing d with
  | zero => unfold drainTm; exact d.still
  | succ n ih =>
    unfold drainTm
    split
    · exact d.still
    · exact d.still
    next hn _ =>
      obtain rfl := Nat.succ.inj hn
      split
      · exact d.still.set_sw.trans ih
      · exact ((d.still.set_sw.trans moves_replicate).trans ih).ite d.still

theorem moves_drainAll : d.moves d.drainAll [.sw] corePages := by
  unfold drainAll
  exact d.still.ite (d.still.andThen moves_settleWait |>.trans moves_drainTm)

/-! ### Holds (R344, R345) -/

theorem moves_rehold {k : Nat} : d.moves (d.rehold k) [.sw] [0x40, 0x41] := by
  unfold rehold
  split
  · exact d.still
  · dsimp only
    have h {g g2 : Frame} : d.moves ((d.setFrame k g).setFrame k g2) [.sw] [0x40, 0x41] := d.still.setFrame.setFrame
    exact ((h.andThen moves_uncharge).bump).ite ((h.setNum.andThen moves_charge).ite d.still.setFrame)

theorem moves_finishCopy {k c : Nat} : d.moves (d.finishCopy k c) [.sw] framePages := by
  unfold finishCopy
  split
  · exact d.still
  · exact (d.still.andThen moves_releaseFrame).ite (d.still.setFrame.andThen moves_rehold)

theorem moves_flushCopy {c : Copy} : d.moves (d.flushCopy c) [.sw] framePages :=
  (((d.still.andThen moves_disc).bump).raise).trans moves_finishCopy

theorem moves_dropCopies {p : Copy → Bool} : d.moves (d.dropCopies p).1 [.sw] [0x48] := d.still.set_sw.setNum

theorem moves_flushWhere {p : Copy → Bool} : d.moves (d.flushWhere p) [.sw] corePages :=
  ((d.still.andThen (moves_dropCopies (p := p))).foldl fun h => h.andThen moves_flushCopy).trans moves_drainAll

theorem moves_holdBegin {port : Nat} {pri : Option Nat} : d.moves (d.holdBegin port pri) [.sw] corePages := by
  unfold holdBegin
  dsimp only
  generalize hx : List.foldl rehold _ _ = x
  have h : d.moves x [.sw] corePages := by
    rw [← hx]
    exact (((d.still.andThen moves_setStaged).foldl fun h => h.setQueue.setNum).set_sw).foldl fun h => h.andThen moves_rehold
  exact ((h.trans moves_flushWhere).andThen moves_evalAll).ite (((h.ite h.raise).setHold).andThen moves_evalAll)

theorem moves_holdFlush {port : Nat} {pri : Option Nat} : d.moves (d.holdFlush port pri) [.sw] corePages := by
  unfold holdFlush
  split
  · exact d.still
  · exact d.still.setHold.trans moves_flushWhere

theorem moves_holdRelease {port : Nat} {pri : Option Nat} : d.moves (d.holdRelease port pri) [.sw] corePages := by
  unfold holdRelease
  split
  · exact d.still
  · exact moves_holdFlush.ite ((((d.still.setHold.trans moves_flushWhere).set_sw.bump).foldl fun h => h.andThen moves_rehold).andThen moves_evalAll)

theorem moves_flushPort {port : Nat} : d.moves (d.flushPort port) [.sw] corePages :=
  ((d.still.trans moves_holdFlush).each fun h => h.trans moves_holdFlush).andThen moves_evalAll

theorem moves_cutTx {port : Nat} : d.moves (d.cutTx port) [.sw] framePages := by
  unfold cutTx
  split
  · exact d.still
  · exact ((((d.still.andThen moves_setStaged).andThen moves_disc).bump).andThen moves_stat).trans moves_finishCopy

theorem moves_egressDown {port : Nat} {now : Bool} : d.moves (d.egressDown port now) [.sw] corePages := by
  unfold egressDown
  have h : d.moves ((((d.cutTx port).each 8 fun d p => d.setHold port (some p) none).holdBegin port none).pruneDeficits port) [.sw] corePages :=
    (((d.still.andThen moves_cutTx).each fun h => h.setHold).trans moves_holdBegin).andThen moves_pruneDeficits
  exact ((h.trans moves_holdFlush).andThen moves_evalAll).ite h

theorem moves_egressUp {port : Nat} : d.moves (d.egressUp port) [.sw] corePages := moves_holdRelease

theorem moves_carry {port : Nat} : d.moves (d.carry port) [.sw] corePages := moves_egressUp.andThen moves_sendXoff

/-! ### Reads for copies, and their ends (R347, R467) -/

theorem moves_linkBad {f : Frame} {n : Nat} {g : Guard} : d.moves (d.linkBad f n g) [.sw] [0x03] := by
  unfold linkBad
  split
  · exact (((d.still.andThen moves_guarded).setLink).set_sw).ite (d.still.andThen moves_guarded)
  · exact d.still

theorem moves_readFails {k pool unit : Nat} {x : ReadFail} :
    d.moves (d.readFails k pool unit x).1 [.sw, .mem, .frees] [0x03, 0x50] := by
  unfold readFails
  dsimp only
  split
  · exact d.still
  · split
    · exact d.still.andThen moves_unitCe
    · exact d.still.andThen moves_unitUe
  · exact d.still.andThen moves_linkBad
  · exact d.still
  · exact d.still.andThen moves_guarded
  · exact (d.still.andThen moves_guarded).freed

theorem moves_readError {k : Nat} {x : Option ReadFail} : d.moves (d.readError k x).1 [.sw, .mem, .frees] [0x03, 0x50] := by
  unfold readError
  split
  · exact moves_readFails
  · exact moves_readFails
  · exact d.still

theorem moves_readErr {port k : Nat} : d.moves (d.readErr port k) [.sw] framePages :=
  (((d.still.andThen moves_disc).bump).raise).trans moves_finishCopy

end Dev
end Sys2Proof.Machine
end

section
set_option Elab.async false
/-! The PCIe link, the settings of the rings, and the resets of the host island (R446, R452, R456, R461). -/

namespace Sys2Proof.Machine
open Sys2Proof

/-! ### Maps and bits -/

theorem smapGet_filter {α : Type} {p : Nat → Bool} {x : α} {k : Nat} (m : SMap α) :
    SMap.get (m.filter fun y => p y.1) x k = if p k then SMap.get m x k else x := by
  induction m with
  | nil => simp [SMap.get]
  | cons a m ih =>
    obtain ⟨j, y⟩ := a
    rw [List.filter_cons]
    by_cases hj : j = k
    · subst hj
      cases hp : p j with
      | true => simp [SMap.get, hp]
      | false => simpa [hp] using ih
    · cases hp : p j with
      | true => simpa [SMap.get, hp, hj] using ih
      | false => simpa [SMap.get, hp, hj] using ih

theorem bitOf_testBit (v i : Nat) : bitOf v i = v.testBit i := by
  rw [bitOf, Nat.testBit_eq_decide_div_mod_eq, Nat.shiftRight_eq_div_pow]

/-- The IRQ bit of a ring lies in the low or in the high word. -/
theorem testBit_words {lo hi : Nat} (h : lo < 2 ^ 32) (r : Nat) :
    (lo + hi * 2 ^ 32).testBit r = if r < 32 then lo.testBit r else hi.testBit (r - 32) := by
  rw [Nat.add_comm, Nat.mul_comm, Nat.testBit_two_pow_mul_add _ h]

theorem testBit_orBit (v i : Nat) : (v ||| 1 <<< i).testBit i = true := by simp

theorem reportKey_of_host {k : Nat} (h : hostResetKey k = true) : reportKey k = false ∧ keyPage k = 0x68 ∧ keyOff k ≠ 0x400 := by
  simp only [hostResetKey, Bool.and_eq_true, Bool.or_eq_true, decide_eq_true_eq] at h
  obtain ⟨hp, ho⟩ := h
  refine ⟨?_, hp, by omega⟩
  simp only [reportKey, hp, Bool.or_eq_false_iff, Bool.and_eq_false_iff, decide_eq_false_iff_not]
  refine ⟨⟨⟨?_, by decide⟩, by decide⟩, .inr ?_⟩ <;> omega

namespace Dev
variable {d e : Dev} {r : Nat}

/-! ### A change of the sources of a few vectors -/

theorem reportsOnly_watchVecs {vs : Dev → List Nat} {f : Dev → Dev} (hv : ∀ v ∈ vs (f d), v < 64) :
    (f d).reportsOnly (d.watchVecs vs f) := by
  unfold watchVecs
  exact reportsOnly_fire _ _ _ (fun v h => hv v (List.mem_eraseDups.mp h)) _

theorem ringVecs_lt (e : Dev) (r : Nat) : ∀ v ∈ (e.ringVec r).toList, v < 64 := fun v hv =>
  ringVec_lt e r v (by simpa using hv)

theorem keeps_fireVec {P : List Part} {d0 : Dev} (h : d0.keeps d (.regs :: .out :: P)) (v : Nat) :
    d0.keeps (d.fireVec v) (.regs :: .out :: P) := by
  unfold fireVec
  exact h.setNum.ite (h.trans fun p hp => by cases p <;> first | rfl | simp at hp)

theorem keeps_watchVecs {P : List Part} {vs : Dev → List Nat} {f : Dev → Dev} (h : d.keeps (f d) (.regs :: .out :: P)) :
    d.keeps (d.watchVecs vs f) (.regs :: .out :: P) := by
  unfold watchVecs
  exact h.foldl fun hx => (keeps_fireVec hx _).ite hx

/-! ### Port 32 -/

/-- Whether port 32 is to be up. -/
def port32Due (d : Dev) : Bool := d.pcieReady && (List.range 32).any fun r => d.on HOST.RING_CFG_EN r

/-- The device as port 32 follows: as it was, or with PORT32_UP set and the copies of the port moved. -/
theorem port32Follow_cases (p : Dev → Prop) (hsame : d.on HOST.LINK_STAT_PORT32_UP = d.port32Due → p d)
    (hset : ∀ e, (d.setFld HOST.LINK_STAT_PORT32_UP (bit d.port32Due)).moves e [.sw] corePages → p e) : p d.port32Follow := by
  unfold port32Follow
  dsimp only
  change p (if d.port32Due = _ then d else if d.port32Due = true then _ else _)
  split
  next h => exact hsame h.symm
  · split
    · exact hset _ moves_carry
    · exact hset _ moves_egressDown

theorem moves_port32Follow : d.moves d.port32Follow [.sw] [0x11, 0x40, 0x41, 0x48, 0x50, 0x58, 0x68, 0x70] :=
  port32Follow_cases (fun e => d.moves e [.sw] _) (fun _ => d.still) fun _ h => d.still.setFld.andThen h

theorem up_port32Follow : d.port32Follow.on HOST.LINK_STAT_PORT32_UP = d.port32Due :=
  port32Follow_cases (fun e => e.on _ = _) id fun e h => by
    rw [h.on _ _, on_setFld_eq _ _ _ _ rfl]
    cases d.port32Due <;> rfl

/-- A register of the HOST page beside LINK_STAT. -/
theorem num_port32Follow (x : Reg) (c : Nat) (hx : x.apart HOST.LINK_STAT = true := by rfl) (hp : x.plain = true := by rfl)
    (hg : corePages.contains x.page = false := by rfl) : d.port32Follow.num x c = d.num x c :=
  port32Follow_cases (fun e => e.num x c = _) (fun _ => rfl) fun e h => by
    rw [h.num _ _ hp hg, num_setFld_apart _ _ _ _ _ _ hx]

theorem on_port32Follow (x : Fld) (c : Nat) (hx : x.reg.apart HOST.LINK_STAT = true := by rfl) (hp : x.reg.plain = true := by rfl)
    (hg : corePages.contains x.reg.page = false := by rfl) : d.port32Follow.on x c = d.on x c := by
  rw [on, fld, num_port32Follow x.reg c hx hp hg, on, fld]

theorem linkUp_port32Follow : d.port32Follow.on HOST.LINK_STAT_LINK_UP = d.on HOST.LINK_STAT_LINK_UP :=
  port32Follow_cases (fun e => e.on _ = _) (fun _ => rfl) fun e h => by
    rw [h.on _ _, on_setFld_beside _ _ _ _ _ rfl]

theorem link_port32Follow : d.port32Follow.num HOST.LINK_STAT % 1024 = d.num HOST.LINK_STAT % 1024 :=
  port32Follow_cases (fun e => e.num _ % _ = _) (fun _ => rfl) fun e h => by
    have hlt := num_lt d HOST.LINK_STAT_PORT32_UP.reg 0
    rw [h.num _ _, setFld]
    change (d.setNum HOST.LINK_STAT _).num HOST.LINK_STAT % 1024 = _
    rw [num_setNum_same, Nat.mod_eq_of_lt (setBits_lt _ _ _ _ _ hlt (by decide))]
    exact setBits_mod_below _ 10 _ _

theorem regs_port32Follow {k : Nat} {w : Word} (hr : reportKey k = false) (hp : keyPage k = 0x68) (ho : keyOff k ≠ 0x400) :
    d.port32Follow.regs.get w k = d.regs.get w k :=
  port32Follow_cases (fun e => e.regs.get w k = _) (fun _ => rfl) fun e h => by
    rw [h.2 k w hr (by rw [hp]; decide)]
    refine regs_setRegP_ne d HOST.LINK_STAT 0 0 _ w k ?_
    rintro rfl
    exact ho (Reg.keyOff_key _ _ _ (by decide))

/-! ### The link (R446) -/

/-- The value of LINK_STAT for a link, before port 32 follows it. -/
def linkWord (d : Dev) (gen width : Nat) (up master : Bool) : Nat :=
  (if up then gen + width * 16 else 0) + bit up * 256 + bit master * 512 + bit (d.on HOST.LINK_STAT_PORT32_UP) * 1024

/-- The device once the link has changed and port 32 has followed. -/
def linked (d : Dev) (gen width : Nat) (up master : Bool) : Dev :=
  (d.setNum HOST.LINK_STAT (d.linkWord gen width up master)).port32Follow

variable {gen width : Nat} {up master : Bool}

/-- A link that is down, or whose generation and width the endpoint supports. -/
def linkOk (gen width : Nat) (up : Bool) : Prop := up = false ∨ (1 ≤ gen ∧ gen ≤ 4 ∧ (width = 1 ∨ width = 2 ∨ width = 4))

theorem linkWord_parts (h : linkOk gen width up) :
    (if up then gen + width * 16 else 0) < 256 ∧ d.linkWord gen width up master < 2 ^ 32 := by
  unfold linkWord
  have hb (b : Bool) : bit b ≤ 1 := by cases b <;> decide
  have h1 := hb up
  have h2 := hb master
  have h3 := hb (d.on HOST.LINK_STAT_PORT32_UP)
  rcases h with rfl | h
  · simp only [Bool.false_eq_true, if_false]
    omega
  · constructor <;> split <;> omega

theorem num_linkSet (h : linkOk gen width up) :
    (d.setNum HOST.LINK_STAT (d.linkWord gen width up master)).num HOST.LINK_STAT = d.linkWord gen width up master := by
  rw [num_setNum_same, Nat.mod_eq_of_lt (linkWord_parts h).2]

theorem linkWord_mod (h : linkOk gen width up) :
    d.linkWord gen width up master % 1024 = (if up then gen + width * 16 else 0) + bit up * 256 + bit master * 512 := by
  have h0 := (linkWord_parts (d := d) (master := master) h).1
  unfold linkWord
  have hb (b : Bool) : bit b ≤ 1 := by cases b <;> decide
  have h1 := hb up
  have h2 := hb master
  omega

theorem up_linkSet (h : linkOk gen width up) :
    (d.setNum HOST.LINK_STAT (d.linkWord gen width up master)).on HOST.LINK_STAT_LINK_UP = up := by
  have h0 := (linkWord_parts (d := d) (master := master) h).1
  rw [on_setNum_eq (r := HOST.LINK_STAT) (x := HOST.LINK_STAT_LINK_UP) (h := rfl) (hx := rfl), bitsOf_eq, linkWord]
  dsimp only [HOST.LINK_STAT_LINK_UP]
  generalize (if up = true then gen + width * 16 else 0) = x at *
  cases up <;> cases master <;> cases d.on HOST.LINK_STAT_PORT32_UP <;> simp [bit] <;> omega

theorem master_linkSet (h : linkOk gen width up) :
    (d.setNum HOST.LINK_STAT (d.linkWord gen width up master)).on HOST.LINK_STAT_BUS_MASTER = master := by
  have h0 := (linkWord_parts (d := d) (master := master) h).1
  rw [on_setNum_eq (r := HOST.LINK_STAT) (x := HOST.LINK_STAT_BUS_MASTER) (h := rfl) (hx := rfl), bitsOf_eq, linkWord]
  dsimp only [HOST.LINK_STAT_BUS_MASTER]
  generalize (if up = true then gen + width * 16 else 0) = x at *
  cases up <;> cases master <;> cases d.on HOST.LINK_STAT_PORT32_UP <;> simp [bit] <;> omega

theorem due_linkSet (h : linkOk gen width up) : (d.setNum HOST.LINK_STAT (d.linkWord gen width up master)).port32Due =
    (up && master && (List.range 32).any fun r => d.on HOST.RING_CFG_EN r) := by
  rw [port32Due, pcieReady, up_linkSet h, master_linkSet h]
  congr 2
  funext r
  exact on_setNum_apart _ _ _ _ _ _ rfl

theorem moves_linked : d.moves (d.linked gen width up master) [.sw] [0x11, 0x40, 0x41, 0x48, 0x50, 0x58, 0x68, 0x70] :=
  d.still.setNum.trans moves_port32Follow

/-! ### Rings (R452, R456) -/

theorem cause_recErr {p o c s : Nat} (hc : c % 16 ≠ 0 := by decide) :
    (d.recErr p o c s).fld (ERR_INFO_CAUSE p) ≠ 0 := by
  by_cases h : d.fld (ERR_INFO_CAUSE p) = 0
  · have hx := num_recErr (o := o) (c := c) (s := s) h
    rw [fld]
    change bitsOf ((d.recErr p o c s).num (ERR_INFO p)) 12 4 ≠ 0
    rw [hx, bitsOf_eq]
    omega
  · rw [recErr, if_neg h, fld_setFld_beside _ _ _ _ _ (by simp [Fld.beside, ERR_INFO_CAUSE, ERR_INFO_MORE])]
    exact h

theorem keeps.recErr {d0 : Dev} {P : List Part} {p o c s : Nat} (h : d0.keeps d P) (hp : P.contains .regs = true := by rfl) :
    d0.keeps (d.recErr p o c s) P := by
  unfold Dev.recErr
  exact (((h.setNum hp).setNum hp).setNum hp).ite (h.setFld hp)

theorem num_recErr_page {p o c s i : Nat} (x : Reg) (h : decide (0x40 ≤ x.off ∧ x.off < 4096) = true := by rfl) :
    (d.recErr p o c s).num x i = d.num x i := by
  have h := of_decide_eq_true h
  have ha (q : Reg) (hq : q.off < 0x40) : x.apart q = true := by
    simp only [Reg.apart, Bool.or_eq_true, Bool.and_eq_true, bne_iff_ne, decide_eq_true_eq]
    omega
  exact num_recErr_apart x (ha _ (by simp [ERR_INFO])) (ha _ (by simp [ERR_STAMP_LO])) (ha _ (by simp [ERR_STAMP_HI]))

/-- RING_CFG set in a ring, whose DONE becomes AVAIL where that enables it. -/
def ringPut (d : Dev) (was : Bool) (r : Nat) (v : Word) : Dev :=
  let e := d.watchVecs (fun e => (e.ringVec r).toList) fun d => d.setReg HOST.RING_CFG v r
  if !was && e.on HOST.RING_CFG_EN r then e.setNum HOST.RING_DONE (e.num HOST.RING_AVAIL r) r else e

/-- The device as a write of RING_CFG finds it, with the error that it may record. -/
def ringSeen (d : Dev) (bad : Bool) (path : Nat) : Dev := if bad then d.recErr 0x68 0x40 1 path else d

theorem bit0_toWord_setBits {v n lo len : Nat} (h : 0 < lo) : (BitVec.ofNat 32 (setBits v lo len n)).toNat % 2 = v % 2 := by
  have hb := setBits_mod_below v lo len n
  have hm := congrArg (· % 2) hb
  obtain ⟨k, rfl⟩ : ∃ k, lo = k + 1 := ⟨lo - 1, by omega⟩
  have h2 (x : Nat) : x % 2 ^ (k + 1) % 2 = x % 2 := Nat.mod_mod_of_dvd _ (by rw [Nat.pow_succ]; exact Nat.dvd_mul_left _ _)
  simp only [h2] at hm
  rw [BitVec.toNat_ofNat]
  omega

theorem bit0_and_mask {w : Word} {m : Nat} (h : m % 2 = 1) : (w &&& BitVec.ofNat 32 m).toNat % 2 = w.toNat % 2 := by
  rw [BitVec.toNat_and, BitVec.toNat_ofNat]
  have hb : (w.toNat &&& m % 2 ^ 32).testBit 0 = w.toNat.testBit 0 := by
    rw [Nat.testBit_and, Nat.testBit_zero (m % 2 ^ 32)]
    have : m % 2 ^ 32 % 2 = 1 := by omega
    simp [this, h]
  rw [Nat.testBit_zero, Nat.testBit_zero, decide_eq_decide] at hb
  omega

theorem bit0_settle {old w : Word} : (HOST.RING_CFG.settle old w).1.toNat % 2 = w.toNat % 2 := by
  have hn (x : Nat) : crossBad HOST.RING_CFG.page HOST.RING_CFG.off x = false := rfl
  rw [Reg.settle, hn, hn, Bool.or_false, if_neg (by decide), Reg.merge]
  change (ite _ _ _ : Word × Bool).1.toNat % 2 = _
  split
  · exact bit0_and_mask (by decide)
  · exact (bit0_toWord_setBits (by decide)).trans (bit0_and_mask (by decide))

/-- A write of RING_CFG: the word that stands after it has the EN written. -/
theorem ringCfgWrite_eq {path : Nat} {w : Word} : ∃ (bad : Bool) (v : Word), v.toNat % 2 = w.toNat % 2 ∧
    d.ringCfgWrite path r w = ((d.ringSeen bad path).ringPut (d.on HOST.RING_CFG_EN r) r v).port32Follow := by
  refine ⟨_, _, ?_, rfl⟩
  split
  · exact (bit0_toWord_setBits (by decide)).trans bit0_settle
  · exact bit0_settle

/-- The device with RING_CFG set, and the messages of the vector that it names. -/
theorem watched_ringCfg {v : Word} : (d.setReg HOST.RING_CFG v r).reportsOnly
    (d.watchVecs (fun e => (e.ringVec r).toList) fun d => d.setReg HOST.RING_CFG v r) := reportsOnly_watchVecs (ringVecs_lt _ r)

theorem en_setReg {v : Word} : (d.setReg HOST.RING_CFG v r).on HOST.RING_CFG_EN r = decide (v.toNat % 2 = 1) := by
  rw [on, fld]
  change (bitsOf ((d.setReg HOST.RING_CFG v r).num HOST.RING_CFG r) 0 1 != 0) = _
  rw [num, reg_setReg_same, bitsOf_eq]
  rcases Nat.mod_two_eq_zero_or_one v.toNat with h | h <;> simp [h]

theorem num_of_reports (h : d.reportsOnly e) (x : Reg) (c : Nat) (hx : x.plain = true) : e.num x c = d.num x c :=
  reportsOnly_num h x c (Reg.plain_key hx _ _)

theorem on_of_reports (h : d.reportsOnly e) (x : Fld) (c : Nat) (hx : x.reg.plain = true) : e.on x c = d.on x c := by
  rw [on, fld, num_of_reports h _ _ hx, on, fld]

theorem en_ringPut {was : Bool} {v : Word} : (d.ringPut was r v).on HOST.RING_CFG_EN r = decide (v.toNat % 2 = 1) := by
  unfold ringPut
  dsimp only
  split
  · rw [on_setNum_apart _ _ _ _ _ _ rfl]
    exact (on_of_reports watched_ringCfg _ _ rfl).trans en_setReg
  · exact (on_of_reports watched_ringCfg _ _ rfl).trans en_setReg

/-- A ring that a write enables starts with no descriptors posted. -/
theorem done_ringPut {was : Bool} {v : Word} : (d.ringPut was r v).num HOST.RING_DONE r =
    if was = false ∧ v.toNat % 2 = 1 then d.num HOST.RING_AVAIL r else d.num HOST.RING_DONE r := by
  unfold ringPut
  dsimp only
  have hw := watched_ringCfg (d := d) (r := r) (v := v)
  generalize d.watchVecs _ _ = e at *
  have hen : e.on HOST.RING_CFG_EN r = decide (v.toNat % 2 = 1) := (on_of_reports hw _ _ rfl).trans en_setReg
  have havail : e.num HOST.RING_AVAIL r = d.num HOST.RING_AVAIL r := by
    rw [num_of_reports hw _ _ rfl, num_setReg_apart _ _ _ _ _ _ rfl]
  have hdone : e.num HOST.RING_DONE r = d.num HOST.RING_DONE r := by
    rw [num_of_reports hw _ _ rfl, num_setReg_apart _ _ _ _ _ _ rfl]
  rw [hen]
  cases was with
  | true => exact hdone.trans (if_neg (by simp)).symm
  | false =>
    by_cases hv : v.toNat % 2 = 1
    · have hlt := num_lt d HOST.RING_AVAIL r
      rw [if_pos (by simp [hv]), if_pos ⟨rfl, hv⟩, num_setNum_same, havail, Nat.mod_eq_of_lt hlt]
    · rw [if_neg (by simp [hv]), if_neg (by simp [hv]), hdone]

theorem ready_ringPut {was : Bool} {v : Word} : (d.ringPut was r v).pcieReady = d.pcieReady := by
  unfold ringPut
  dsimp only
  have hw := watched_ringCfg (d := d) (r := r) (v := v)
  generalize d.watchVecs _ _ = e at *
  have he (x : Fld) (hx : x.reg.plain = true) (ha : x.reg.apart HOST.RING_CFG = true) : e.on x = d.on x := by
    rw [on_of_reports hw _ _ hx, on, fld_setReg_apart _ _ _ _ _ _ ha, on]
  split
  · rw [pcieReady, on_setNum_apart _ _ _ _ _ _ rfl, on_setNum_apart _ _ _ _ _ _ rfl, he _ rfl rfl, he _ rfl rfl, pcieReady]
  · rw [pcieReady, he _ rfl rfl, he _ rfl rfl, pcieReady]

theorem moves_ringPut {was : Bool} {v : Word} : d.moves (d.ringPut was r v) [] [0x68] := by
  have h := d.still (P := []) (G := [0x68]) |>.setReg (r := HOST.RING_CFG) (v := v) (c := r) |>.reports watched_ringCfg
  exact h.setNum.ite h

theorem moves_ringSeen {bad : Bool} {path : Nat} : d.moves (d.ringSeen bad path) [] [0x68] := d.still.recErr.ite d.still

theorem num_ringSeen {bad : Bool} {path c : Nat} (x : Reg) (h : decide (0x40 ≤ x.off ∧ x.off < 4096) = true := by rfl) :
    (d.ringSeen bad path).num x c = d.num x c := by
  cases bad with
  | true => exact num_recErr_page x h
  | false => rfl

theorem ready_ringSeen {bad : Bool} {path : Nat} : (d.ringSeen bad path).pcieReady = d.pcieReady := by
  have h (x : Fld) (hx : decide (0x40 ≤ x.reg.off ∧ x.reg.off < 4096) = true) : (d.ringSeen bad path).on x = d.on x := by
    rw [on, fld, num_ringSeen _ hx, on, fld]
  rw [pcieReady, h _ rfl, h _ rfl, pcieReady]

/-! ### RING_IRQ -/

/-- A ring's bit set in RING_IRQ, before the vector that it names is looked at. -/
def ringIrqSet (r : Nat) (d : Dev) : Dev :=
  if r < 32 then d.setNum HOST.RING_IRQ_LO (d.num HOST.RING_IRQ_LO ||| 1 <<< r)
  else d.setNum HOST.RING_IRQ_HI (d.num HOST.RING_IRQ_HI ||| 1 <<< (r - 32))

theorem ringIrq_reports : (d.ringIrqSet r).reportsOnly (d.ringIrq r) := reportsOnly_watchVecs (f := ringIrqSet r) (ringVecs_lt _ r)

theorem orBit_lt {v i : Nat} (hv : v < 2 ^ 32) (hi : i < 32) : v ||| 1 <<< i < 2 ^ 32 := by
  refine Nat.or_lt_two_pow hv ?_
  rw [Nat.one_shiftLeft]
  exact Nat.pow_lt_pow_right (by decide) hi

theorem irq_ringIrq (hr : r < 64) : bitOf (d.ringIrq r).ringIrqs r = true := by
  have hlo := num_lt (d.ringIrq r) HOST.RING_IRQ_LO 0
  rw [bitOf_testBit, ringIrqs, testBit_words hlo, num_of_reports ringIrq_reports _ _ rfl, num_of_reports ringIrq_reports _ _ rfl, ringIrqSet]
  split
  next h => rw [num_setNum_same, Nat.mod_eq_of_lt (orBit_lt (num_lt _ _ _) h), testBit_orBit]
  next h => rw [num_setNum_same, Nat.mod_eq_of_lt (orBit_lt (num_lt _ _ _) (by omega)), testBit_orBit]

theorem keeps_ringIrq : d.keeps (d.ringIrq r) [.regs, .out] :=
  keeps_watchVecs (f := ringIrqSet r) ((keeps.refl _).setNum.ite (keeps.refl _).setNum)

theorem moves_ringIrq : d.moves (d.ringIrq r) [] [0x68] := (d.still.setNum.ite d.still.setNum).reports ringIrq_reports

/-! ### Resets of the host island (R446) -/

/-- The host island in reset, before port 32 follows. -/
def hostCleared (d : Dev) : Dev :=
  (d.keepRegs fun k => !hostResetKey k).setHostSt
    { d.host with since := [], first := [], turn := 0, tdmaDir := false, bells := d.host.bells.filter (· ≠ 0) }

theorem hostReset_eq : d.hostReset = d.hostCleared.port32Follow := rfl

theorem regs_hostCleared {k : Nat} {w : Word} : d.hostCleared.regs.get w k = if hostResetKey k then w else d.regs.get w k := by
  refine (smapGet_filter (p := fun k => !hostResetKey k) d.regs).trans ?_
  cases hostResetKey k <;> rfl

theorem moves_hostCleared : d.moves d.hostCleared [.host] [0x68] := by
  refine ⟨fun p hp => by cases p <;> first | rfl | simp at hp, fun k w _ hk => ?_⟩
  rw [regs_hostCleared, if_neg]
  simp only [hostResetKey, Bool.and_eq_true, decide_eq_true_eq]
  rintro ⟨h, -⟩
  exact hk (by simp [h])

/-- No ring is enabled in reset. -/
theorem due_hostCleared : d.hostCleared.port32Due = false := by
  rw [port32Due, Bool.and_eq_false_iff]
  refine .inr (List.any_eq_false.mpr fun r hr => ?_)
  have hk : hostResetKey (HOST.RING_CFG.key 0 r) = true := by
    rw [hostResetKey, Reg.keyPage_key, Reg.keyOff_key _ _ _ (by decide)]
    rfl
  have hv : d.hostCleared.num HOST.RING_CFG r = (HOST.RING_CFG.rstOf r).toNat := by
    rw [num, reg, regP, regs_hostCleared, if_pos hk]
  rw [on, fld]
  change ¬(bitsOf (d.hostCleared.num HOST.RING_CFG r) 0 1 != 0) = true
  rw [hv, show HOST.RING_CFG.rstOf r = 0x14 from rfl]
  decide

theorem link_hostCleared (x : Fld) (h : x.reg = HOST.LINK_STAT) : d.hostCleared.on x = d.on x := by
  have hk : hostResetKey (HOST.LINK_STAT.key 0 0) = false := by decide
  rw [on, fld, num, reg, regP, h, regs_hostCleared, hk, if_neg (by decide), on, fld, num, reg, regP, h]

theorem regs_hostReset {k : Nat} {w : Word} (h : hostResetKey k = true) : d.hostReset.regs.get w k = w := by
  obtain ⟨hr, hp, ho⟩ := reportKey_of_host h
  rw [hostReset_eq, regs_port32Follow hr hp ho, regs_hostCleared, if_pos h]

theorem moves_hostReset : d.moves d.hostReset [.sw, .units, .host] [0x11, 0x40, 0x41, 0x48, 0x50, 0x58, 0x68, 0x70] :=
  (d.still.andThen moves_hostCleared).andThen moves_port32Follow

theorem host_hostReset : d.hostReset.host = d.hostCleared.host := moves_port32Follow.keeps_host

theorem port32_hostReset : d.hostReset.on HOST.LINK_STAT_PORT32_UP = false := by
  rw [hostReset_eq, up_port32Follow, due_hostCleared]

theorem linkUp_hostReset : d.hostReset.on HOST.LINK_STAT_LINK_UP = d.on HOST.LINK_STAT_LINK_UP := by
  rw [hostReset_eq, linkUp_port32Follow, link_hostCleared _ rfl]

end Dev
end Sys2Proof.Machine

open Sys2Proof Sys2Proof.Machine

/-- A PCIe link that comes up, changes, or goes down (R446, R461). -/
theorem gives_pcieLink {s : State} {gen width : Nat} {up master : Bool} (hon : s.On) (h : Dev.linkOk gen width up) :
    Gives (.pcieLink gen width up master) s fun d =>
      d.num HOST.LINK_STAT % 1024 = (if up then gen + width * 16 else 0) + bit up * 256 + bit master * 512 ∧
      d.on HOST.LINK_STAT_PORT32_UP = (up && master && (List.range 32).any fun r => s.dev.on HOST.RING_CFG_EN r) ∧
      (s.dev.on HOST.LINK_STAT_LINK_UP = true → up = false → d.raised HOST.int_LINK_DOWN = true) ∧
      s.dev.moves d [.sw, .units] [0x11, 0x40, 0x41, 0x48, 0x50, 0x58, 0x68, 0x70] := by
  have hb : (!up || (pcieGens.contains gen && pcieWidths.contains width)) = true := by
    rcases h with rfl | ⟨h1, h4, hw⟩
    · rfl
    · have hg : gen = 1 ∨ gen = 2 ∨ gen = 3 ∨ gen = 4 := by omega
      rcases hg with rfl | rfl | rfl | rfl <;> rcases hw with rfl | rfl | rfl <;> cases up <;> rfl
  refine gives_actWhen (f := fun d =>
    if d.on HOST.LINK_STAT_LINK_UP = up then d.linked gen width up master
    else (if up then d.linked gen width up master else (d.linked gen width up master).raise HOST.int_LINK_DOWN).log 33 0x6801
      ((d.linked gen width up master).num HOST.LINK_STAT)) rfl hon hb ?_
  have hm := Dev.moves_linked (d := s.dev) (gen := gen) (width := width) (up := up) (master := master)
  have hnum : (s.dev.linked gen width up master).num HOST.LINK_STAT % 1024 =
      (if up then gen + width * 16 else 0) + bit up * 256 + bit master * 512 := by
    rw [Dev.linked, Dev.link_port32Follow, Dev.num_linkSet h, Dev.linkWord_mod h]
  have hup : (s.dev.linked gen width up master).on HOST.LINK_STAT_PORT32_UP =
      (up && master && (List.range 32).any fun r => s.dev.on HOST.RING_CFG_EN r) := by
    rw [Dev.linked, Dev.up_port32Follow, Dev.due_linkSet h]
  generalize s.dev.linked gen width up master = e at *
  have hm' : s.dev.moves e [.sw, .units] [0x11, 0x40, 0x41, 0x48, 0x50, 0x58, 0x68, 0x70] := hm.mono
  by_cases hw : s.dev.on HOST.LINK_STAT_LINK_UP = up
  · rw [if_pos hw, hm.under_eq]
    refine ⟨hnum, hup, fun h1 h2 => ?_, hm'⟩
    rw [hw, h2] at h1
    cases h1
  · rw [if_neg hw]
    cases up with
    | true =>
      rw [if_pos rfl, (hm.log).under_eq, Dev.num_log_plain _ _ _ _ _ _ _ _ _ rfl, Dev.on_log_plain _ _ _ _ _ _ _ _ _ rfl]
      exact ⟨hnum, hup, nofun, hm'.log⟩
    | false =>
      rw [if_neg (by decide), (hm.raise.log).under_eq, Dev.num_log_plain _ _ _ _ _ _ _ _ _ rfl, Dev.num_raise_plain _ _ _ _ rfl,
        Dev.on_log_plain _ _ _ _ _ _ _ _ _ rfl, Dev.on_raise_plain _ _ _ _ rfl, Dev.raised_log_plain _ _ _ _ _ _ _ _ rfl]
      exact ⟨hnum, hup, fun _ _ => Dev.raised_raise_eq _ _ rfl, hm'.raise.log⟩

/-- A write of EN in RING_CFG (R452). -/
theorem gives_ringEnable {s : State} {path r : Nat} {en : Bool} (ho : s.Opens 0x68) (hr : r < 64) :
    Gives (.ringEnable path r en) s fun d => d.on HOST.RING_CFG_EN r = en ∧
      (s.dev.on HOST.RING_CFG_EN r = false → en = true → d.num HOST.RING_DONE r = s.dev.num HOST.RING_AVAIL r) ∧
      (s.dev.on HOST.RING_CFG_EN r = true ∨ en = false → d.num HOST.RING_DONE r = s.dev.num HOST.RING_DONE r) ∧
      d.on HOST.LINK_STAT_PORT32_UP = (s.dev.pcieReady && (List.range 32).any fun r => d.on HOST.RING_CFG_EN r) ∧
      s.dev.moves d [.sw, .units] [0x11, 0x40, 0x41, 0x48, 0x50, 0x58, 0x68, 0x70] := by
  refine gives_access rfl ho ?_
  rw [Nat.mod_eq_of_lt hr]
  have hw : (BitVec.ofNat 32 (setBits (s.dev.num HOST.RING_CFG r) 0 1 (bit en))).toNat % 2 = bit en := by
    rw [BitVec.toNat_ofNat, Nat.mod_eq_of_lt (setBits_lt _ _ _ _ _ (Dev.num_lt _ _ _) (by decide))]
    have := bitsOf_setBits_same (s.dev.num HOST.RING_CFG r) 0 1 (bit en)
    rw [bitsOf_eq] at this
    cases en <;> simpa [bit] using this
  obtain ⟨bad, v, hv, hx⟩ := Dev.ringCfgWrite_eq (d := s.dev) (r := r) (path := path)
    (w := BitVec.ofNat 32 (setBits (s.dev.num HOST.RING_CFG r) 0 1 (bit en)))
  rw [hw] at hv
  have hen : decide (v.toNat % 2 = 1) = en := by rw [hv]; cases en <;> rfl
  have hseen (x : Reg) (hx : decide (0x40 ≤ x.off ∧ x.off < 4096) = true) :=
    Dev.num_ringSeen (d := s.dev) (bad := bad) (path := path) (c := r) x hx
  have hm : s.dev.moves (((s.dev.ringSeen bad path).ringPut (s.dev.on HOST.RING_CFG_EN r) r v).port32Follow) [.sw, .units]
      [0x11, 0x40, 0x41, 0x48, 0x50, 0x58, 0x68, 0x70] :=
    ((s.dev.still.andThen Dev.moves_ringSeen).andThen Dev.moves_ringPut).andThen Dev.moves_port32Follow
  rw [hx, hm.under_eq]
  refine ⟨?_, fun h1 h2 => ?_, fun h => ?_, ?_, hm⟩
  · rw [Dev.on_port32Follow _ _, Dev.en_ringPut, hen]
  · rw [Dev.num_port32Follow _ _, Dev.done_ringPut, if_pos ⟨h1, by rw [hv, h2]; rfl⟩, hseen _ rfl]
  · rw [Dev.num_port32Follow _ _, Dev.done_ringPut, if_neg, hseen _ rfl]
    rintro ⟨h1, h2⟩
    rcases h with h | h
    · rw [h] at h1
      cases h1
    · rw [hv, h] at h2
      cases h2
  · rw [Dev.up_port32Follow, Dev.port32Due, Dev.ready_ringPut, Dev.ready_ringSeen]
    congr 2
    funext q
    exact (Dev.on_port32Follow _ _).symm

/-- A reset of the host island by FLR or by PERST_N (R446). -/
theorem gives_hostReset {s : State} {c : Instr} (hc : c = .flr ∨ c = .perstN) (hon : s.On) :
    Gives c s fun d => (∀ (k : Nat) (w : Word), hostResetKey k = true → d.regs.get w k = w) ∧
      d.on HOST.LINK_STAT_PORT32_UP = false ∧ d.on HOST.LINK_STAT_LINK_UP = s.dev.on HOST.LINK_STAT_LINK_UP ∧
      d.host.since = [] ∧ d.host.turn = 0 ∧ d.flash = s.dev.flash ∧ d.hostMem = s.dev.hostMem ∧
      (c = .flr → d.raised HOST.int_FLR = true) ∧
      s.dev.moves d [.sw, .units, .host] [0x11, 0x40, 0x41, 0x48, 0x50, 0x58, 0x68, 0x70] := by
  have hm := Dev.moves_hostReset (d := s.dev)
  have hh := Dev.host_hostReset (d := s.dev)
  rcases hc with rfl | rfl
  · refine gives_act rfl hon ?_
    have hl : s.dev.moves ((s.dev.hostReset.raise HOST.int_FLR).log 33 0x6803) [.sw, .units, .host]
        [0x11, 0x40, 0x41, 0x48, 0x50, 0x58, 0x68, 0x70] := hm.raise.log
    have hrep : s.dev.hostReset.reportsOnly ((s.dev.hostReset.raise HOST.int_FLR).log 33 0x6803) :=
      Dev.reportsOnly_trans (Dev.reportsOnly_raise _ _) (Dev.reportsOnly_log _ _ _ _ _ _ _)
    have hhost : ((s.dev.hostReset.raise HOST.int_FLR).log 33 0x6803).host = s.dev.hostCleared.host := by
      rw [Dev.log_host, Dev.raise_host, hh]
    rw [hl.under_eq]
    refine ⟨fun k w hk => ?_, ?_, ?_, ?_, ?_, hl.keeps_flash, hl.keeps_hostMem, fun _ => ?_, hl⟩
    · rw [hrep.2 k w (reportKey_of_host hk).1, Dev.regs_hostReset hk]
    · rw [Dev.on_of_reports hrep _ _ rfl, Dev.port32_hostReset]
    · rw [Dev.on_of_reports hrep _ _ rfl, Dev.linkUp_hostReset]
    · rw [hhost]; rfl
    · rw [hhost]; rfl
    · rw [Dev.raised_log_plain _ _ _ _ _ _ _ _ rfl, Dev.raised_raise_eq _ _ rfl]
  · refine gives_act rfl hon ?_
    rw [hm.under_eq]
    refine ⟨fun k w hk => Dev.regs_hostReset hk, Dev.port32_hostReset, Dev.linkUp_hostReset, ?_, ?_, hm.keeps_flash, hm.keeps_hostMem, nofun, hm⟩
    · rw [hh]; rfl
    · rw [hh]; rfl

/-- Settles O52. -/
theorem linkAndRingSettings : Obligations.LinkAndRingSettings := by
  unfold Obligations.LinkAndRingSettings
  refine ⟨fun s gen width up master hon h => gives_pcieLink hon h, fun s gen width master hon h => ?unsupported,
    fun s path r avail diff ho hp hr hd => ?avail, fun s path r en ho hp hr => gives_ringEnable ho hr, fun s r ho hr => ?restart,
    fun s r hon hr hs hd => ?holdoff, fun s r hon hr h => ?early, fun s c hc hon => gives_hostReset hc hon⟩
  case unsupported =>
    refine idle_actWhen rfl (Bool.eq_false_iff.mpr fun hb => ?_)
    simp [pcieGens, pcieWidths] at hb
    omega
  case avail =>
    subst hd
    refine gives_access rfl ho ?_
    have hm : s.dev.moves (s.dev.ringAvail path r avail) [] [0x68] := s.dev.still.recErr.ite s.dev.still.setNum
    have hlt : avail % 65536 < 2 ^ 32 := by omega
    rw [Nat.mod_eq_of_lt hr, hm.under_eq]
    refine ⟨fun h => ?_, fun h => ?_, (Dev.keeps.refl _).recErr.ite (Dev.keeps.refl _).setNum⟩
    · have hx : s.dev.ringAvail path r avail = s.dev.setNum HOST.RING_AVAIL (avail % 65536) r := if_neg (by omega)
      rw [hx]
      exact ⟨by rw [Dev.num_setNum_same, Nat.mod_eq_of_lt hlt], Dev.keepsBut_setNum⟩
    · have hx : s.dev.ringAvail path r avail = s.dev.recErr HOST.RING_AVAIL.page HOST.RING_AVAIL.off 1 path := if_pos h
      rw [hx]
      exact ⟨Dev.num_recErr_page _, Dev.cause_recErr⟩
  case restart =>
    refine gives_access rfl ho ?_
    have hm : s.dev.moves (s.dev.ringRestart r) [] [0x68] := s.dev.still.setFld
    rw [Nat.mod_eq_of_lt hr, hm.under_eq]
    exact ⟨Dev.on_setFld_eq _ _ _ _ rfl, (Dev.keeps.refl _).setFld, Dev.keepsBut_setFld⟩
  case holdoff =>
    refine gives_actWhen rfl hon (by rw [Nat.mod_eq_of_lt hr]; simp [hs, hd]) ?_
    rw [Nat.mod_eq_of_lt hr, Dev.moves_ringIrq.under_eq]
    exact ⟨Dev.irq_ringIrq hr, Dev.keeps_ringIrq, Dev.moves_ringIrq.2⟩
  case early =>
    refine idle_actWhen rfl ?_
    rw [Nat.mod_eq_of_lt hr]
    rcases h with h | h <;> simp [h]
end

section
set_option Elab.async false
/-! Which registers an operation writes, one by one, and the interrupt bits that it leaves set: for reads on a page of which an operation
moves only some registers. -/

namespace Sys2Proof.Machine
open Sys2Proof

/-- Outside the pages `G`, `e` differs from `d` at most in the registers `R` and in those in which events show, and no interrupt bit that
was set is clear. -/
def Dev.writes (d e : Dev) (G : List Nat) (R : List Reg) : Prop :=
  (∀ (k : Nat) (w : Word), reportKey k = false → keyPage k ∉ G → (∀ r ∈ R, ∀ p c, k ≠ r.key p c) → e.regs.get w k = d.regs.get w k) ∧
    ∀ b : IntBit, b.plain = true → b.page ∉ G → d.raised b = true → e.raised b = true

namespace Dev.writes
variable {d d0 e : Dev} {G K : List Nat} {R L : List Reg}

theorem refl (d : Dev) (G : List Nat) (R : List Reg) : d.writes d G R := ⟨fun _ _ _ _ _ => rfl, fun _ _ _ h => h⟩

theorem trans (h : d0.writes d G R) (g : d.writes e G R) : d0.writes e G R :=
  ⟨fun k w hk hg hr => (g.1 k w hk hg hr).trans (h.1 k w hk hg hr), fun b hb hg hd => g.2 b hb hg (h.2 b hb hg hd)⟩

/-- The bound grows: a register may be listed, or lie on a page that is. -/
theorem mono (h : d.writes e K L) (hG : K.all G.contains = true := by rfl)
    (hR : (L.all fun r => G.contains r.page || R.contains r) = true := by rfl) : d.writes e G R := by
  have hp {p : Nat} (hn : p ∉ G) : p ∉ K := fun hk => hn (by simpa using List.all_eq_true.mp hG p hk)
  refine ⟨fun k w hk hg hr => h.1 k w hk (hp hg) fun r hm p c hkey => ?_, fun b hb hg => h.2 b hb (hp hg)⟩
  have hx := List.all_eq_true.mp hR r hm
  rw [Bool.or_eq_true] at hx
  rcases hx with hx | hx
  · exact hg (by rw [hkey, Reg.keyPage_key]; simpa using hx)
  · exact hr r (by simpa using hx) p c hkey

theorem andThen (h : d0.writes d G R) (g : d.writes e K L) (hG : K.all G.contains = true := by rfl)
    (hR : (L.all fun r => G.contains r.page || R.contains r) = true := by rfl) : d0.writes e G R := h.trans (g.mono hG hR)

/-- A step that leaves the registers alone. -/
theorem of_regs (h : d0.writes d G R) (he : e.regs = d.regs) : d0.writes e G R :=
  h.trans ⟨fun k w _ _ _ => by rw [he], fun b _ _ hb => (raised_of_regs he b).trans hb⟩

/-- A step in which only events and counters of PERF show. -/
theorem logs (h : d0.writes d G R) (g : d.reportsOnly e) (g' : d.logsOnly e) : d0.writes e G R :=
  h.trans ⟨fun k w hk _ _ => g.2 k w hk, fun b hb _ hd => (logsOnly_raised g' b ((IntBit.plain_iff b).mp hb).1).trans hd⟩

theorem setRegP {r : Reg} {p c : Nat} {v : Word} (h : d0.writes d G R)
    (hr : (G.contains r.page || (R.contains r && r.plain)) = true := by rfl) : d0.writes (d.setRegP r p c v) G R := by
  rw [Bool.or_eq_true, Bool.and_eq_true] at hr
  refine h.trans ⟨fun k w _ hg hk => Dev.regs_setRegP_ne d r p c v w k ?_, fun b _ hg hd => ?_⟩
  · rintro rfl
    rcases hr with hr | ⟨hr, -⟩
    · exact hg (by rw [Reg.keyPage_key]; simpa using hr)
    · exact hk r (by simpa using hr) p c rfl
  · rcases hr with hr | ⟨-, hr⟩
    · rw [raised_setRegP _ _ _ _ _ _ (Reg.key_ne_page _ _ _ _ _ _ ?_)]
      · exact hd
      · rintro hp
        exact hg (by rw [← show (INT_RAW b.page).page = b.page from rfl, ← hp]; simpa using hr)
    · rw [raised_setRegP_plain _ _ _ _ _ _ hr]
      exact hd

theorem setReg {r : Reg} {v : Word} {c : Nat} (h : d0.writes d G R)
    (hr : (G.contains r.page || (R.contains r && r.plain)) = true := by rfl) : d0.writes (d.setReg r v c) G R := h.setRegP hr
theorem setNum {r : Reg} {v c : Nat} (h : d0.writes d G R)
    (hr : (G.contains r.page || (R.contains r && r.plain)) = true := by rfl) : d0.writes (d.setNum r v c) G R := h.setRegP hr
theorem setFld {x : Fld} {v c : Nat} (h : d0.writes d G R)
    (hr : (G.contains x.reg.page || (R.contains x.reg && x.reg.plain)) = true := by rfl) : d0.writes (d.setFld x v c) G R := h.setRegP hr
theorem bump {r : Reg} {c n : Nat} (h : d0.writes d G R)
    (hr : (G.contains r.page || (R.contains r && r.plain)) = true := by rfl) : d0.writes (d.bump r c n) G R := h.setRegP hr
theorem setNum2 {r q : Reg} {v c : Nat} (h : d0.writes d G R)
    (hr : (G.contains r.page || (R.contains r && r.plain)) = true := by rfl)
    (hq : (G.contains q.page || (R.contains q && q.plain)) = true := by rfl) : d0.writes (d.setNum2 r q v c) G R := (h.setNum hr).setNum hq

theorem raise {b : IntBit} (h : d0.writes d G R) (hb : decide (b.pos < 32) = true := by rfl) : d0.writes (d.raise b) G R :=
  h.trans ⟨fun k w hk _ _ => (reportsOnly_raise d b).2 k w hk, fun a ha _ hd => by
    rw [raised_raise_of d a b ha hb, hd, Bool.or_true]⟩

theorem emit {o : Output} (h : d0.writes d G R) : d0.writes (d.emit o) G R := h.of_regs rfl
theorem perf {i e n : Nat} (h : d0.writes d G R) : d0.writes (d.perf i e n) G R := h.logs (reportsOnly_perf _ _ _ _) (logsOnly_perf _ _ _ _)
theorem log {i c p0 p1 p2 p3 : Nat} (h : d0.writes d G R) : d0.writes (d.log i c p0 p1 p2 p3) G R :=
  h.logs (reportsOnly_log _ _ _ _ _ _ _) (logsOnly_log _ _ _ _ _ _ _)
theorem opEnd {p s c : Nat} (h : d0.writes d G R) : d0.writes (d.opEnd p s c) G R := h.log

theorem ite {f : Dev} {c : Prop} [Decidable c] (h : d0.writes e G R) (g : d0.writes f G R) : d0.writes (if c then e else f) G R := by
  split <;> assumption
theorem iteSelf {c : Prop} [Decidable c] (h : d0.writes d G R) (g : d0.writes d G R → d0.writes e G R) :
    d0.writes (if c then e else d) G R := (g h).ite h
theorem foldl {α : Type} {g : Dev → α → Dev} {l : List α} (h : d0.writes d G R)
    (hg : ∀ {x : Dev} {a : α}, d0.writes x G R → d0.writes (g x a) G R) : d0.writes (l.foldl g d) G R := by
  induction l generalizing d with
  | nil => exact h
  | cons a l ih => exact ih (hg h)
theorem each {n : Nat} {g : Dev → Nat → Dev} (h : d0.writes d G R)
    (hg : ∀ {x : Dev} {a : Nat}, d0.writes x G R → d0.writes (g x a) G R) : d0.writes (d.each n g) G R := h.foldl hg

/-! What a bound says of registers and interrupt bits outside it. -/

theorem num (h : d.writes e G R) (x : Reg) (c : Nat) (hx : x.plain = true := by rfl) (hg : G.contains x.page = false := by rfl)
    (hr : (R.all fun r => x.apart r) = true := by rfl) : e.num x c = d.num x c := by
  refine congrArg BitVec.toNat (h.1 _ _ (Reg.plain_key hx _ _) ?_ fun r hm p q => ?_)
  · rw [Reg.keyPage_key]
    simpa using hg
  · exact Reg.key_ne_of_apart (List.all_eq_true.mp hr r hm) _ _ _ _

theorem raised (h : d.writes e G R) {b : IntBit} (hd : d.raised b = true) (hb : b.plain = true := by rfl)
    (hg : G.contains b.page = false := by rfl) : e.raised b = true := h.2 b hb (by simpa using hg) hd

end Dev.writes

namespace Dev
variable {d : Dev}

/-- Where an operation begins. -/
theorem untouched (d : Dev) {G : List Nat} {R : List Reg} : d.writes d G R := writes.refl d G R

/-! ### The switch core -/

theorem writes_sw {x : Switch} : d.writes { d with sw := x } [] [] := d.untouched.of_regs rfl
theorem writes_setPri {r p : Nat} {x : Pri} : d.writes (d.setPri r p x) [] [] := writes_sw
theorem writes_setPauses {p : Nat} {l : List (Bool × Nat × Nat)} : d.writes (d.setPauses p l) [] [] := writes_sw
theorem writes_setFrame {k : Nat} {f : Frame} : d.writes (d.setFrame k f) [] [] := writes_sw
theorem writes_setLink {p i : Nat} {l : Link} : d.writes (d.setLink p i l) [] [] := writes_sw
theorem writes_setStaged {p : Nat} {l : List Tx} : d.writes (d.setStaged p l) [] [] := writes_sw

theorem writes_stat {p k n : Nat} : d.writes (d.stat p k n) [] [] := by
  unfold stat
  exact (d.untouched.logs (reportsOnly_snapReach _ _) (logsOnly_snapReach _ _)).iteSelf fun h => h.of_regs rfl

theorem writes_statGood {p b n : Nat} {bs : List Byte} : d.writes (d.statGood p b n bs) [] [] :=
  ((writes_stat.trans writes_stat).trans writes_stat).trans writes_stat

theorem writes_pauseOut {p : Nat} {x : Bool × Nat × Nat} : d.writes (d.pauseOut p x) [] [] := by
  obtain ⟨pfc, mask, quanta⟩ := x
  unfold pauseOut
  dsimp only
  have hs : d.writes (((d.emit (.frame p (d.pauseFrame pfc mask quanta) false)).statGood p 32 (d.pauseFrame pfc mask quanta).length
      (d.pauseFrame pfc mask quanta)).perf (islandOfPort p) 0x041) [] [] := ((d.untouched.emit).trans writes_statGood).perf
  have h := (hs.each (n := 8) (g := fun d q => if bitOf mask q then d.stat p (48 + q) else d) fun h => h.iteSelf fun h =>
    h.trans writes_stat).ite (c := pfc = true) (hs.trans (writes_stat (p := p) (k := 47) (n := 1)))
  exact h.ite (h.each fun h => h.iteSelf fun h => h.trans writes_setPri)

theorem writes_sendPause {p mask quanta : Nat} : d.writes (d.sendPause p mask quanta) [] [] := by
  unfold sendPause
  exact writes_setPauses.ite writes_pauseOut

theorem writes_pausesOut {p : Nat} : d.writes (d.pausesOut p) [] [] := writes_setPauses.foldl fun h => h.trans writes_pauseOut

theorem writes_setXoffTx {p v : Nat} : d.writes (d.setXoffTx p v) [] [PORT.PORT_STAT, TNDM.LINK_STAT] := by
  unfold setXoffTx
  exact d.untouched.setFld.ite d.untouched.setFld

theorem writes_sendXoff {p mask : Nat} : d.writes (d.sendXoff p mask) [] [PORT.PORT_STAT, TNDM.LINK_STAT] := by
  unfold sendXoff
  exact d.untouched.ite (((d.untouched.andThen writes_sendPause).andThen writes_setXoffTx).each fun h => h.iteSelf fun h => h.andThen writes_setPri)

theorem writes_sendXon {p mask : Nat} : d.writes (d.sendXon p mask) [] [PORT.PORT_STAT, TNDM.LINK_STAT] := by
  unfold sendXon
  exact d.untouched.ite ((d.untouched.andThen writes_sendPause).andThen writes_setXoffTx)

theorem writes_evalGlobal : d.writes d.evalGlobal [] [BUFM.GSTAT] := by
  unfold evalGlobal
  exact ((d.untouched.iteSelf fun h => h.raise).iteSelf fun h => h.raise).setFld.setFld.setFld

/-- The registers in which episodes and the shortages that begin them show. -/
abbrev episodeRegs : List Reg := [PORT.PORT_STAT, TNDM.LINK_STAT, BUFM.XOFF_STAT, BUFM.GSTAT, BUFM.SETASIDE0]

theorem writes_evalReq {r : Nat} : d.writes (d.evalReq r) [] episodeRegs := by
  unfold evalReq
  have h {v : Nat} {b : Nat → Bool} {g : Dev → Nat → Pri} :
      d.writes ((d.setNum BUFM.XOFF_STAT v r).each 8 fun d p => if b p then d.setPri r p (g d p) else d) [] episodeRegs :=
    d.untouched.setNum.each fun h => h.iteSelf fun h => h.andThen writes_setPri
  exact d.untouched.ite (((h.andThen writes_sendXoff).andThen writes_sendXon).ite h)

theorem writes_evalAll : d.writes d.evalAll [] episodeRegs :=
  (d.untouched.setNum.andThen writes_evalGlobal).each fun h => h.trans writes_evalReq

/-- The pages of the pools, and of the memories that withhold units; a retired packet channel counts its blocks in one register beside. -/
abbrev poolPages : List Nat := [0x40, 0x70]

theorem writes_testCell {i : Nat} : d.writes (d.testCell i) poolPages [MEMC.RET_BLOCKS] := by
  unfold testCell
  have h {x : Switch} : d.writes { d with sw := x } poolPages [MEMC.RET_BLOCKS] := d.untouched.andThen writes_sw
  exact (h.andThen writes_sw).bump.ite h.bump

theorem writes_unitBack {pool i : Nat} : d.writes (d.unitBack pool i) poolPages [MEMC.RET_BLOCKS] := by
  unfold unitBack
  refine (d.untouched.bump.ite d.untouched).ite ((d.untouched.ite (writes_testCell.ite d.untouched.bump)).ite (d.untouched.bump.ite d.untouched.bump))

theorem writes_freeUnit {pool i r : Nat} : d.writes (d.freeUnit pool i r) poolPages [MEMC.RET_BLOCKS] := by
  unfold freeUnit
  have hu : ((if pool = 0 then BUFM.POOL_USE0 else BUFM.POOL_USE1 : Reg)).page = 0x40 := by split <;> rfl
  have h := d.untouched.andThen (writes_setLink (p := pool) (i := i) (l := { mark := d.sw.audit.running })) (G := poolPages) (R := [MEMC.RET_BLOCKS])
  exact ((h.ite (h.andThen writes_sw)).setNum (by rw [hu]; rfl)).trans writes_unitBack

theorem writes_freeChain {n pool i r c : Nat} : d.writes (Dev.freeChain n d pool i r c) poolPages [MEMC.RET_BLOCKS] := by
  induction n generalizing d pool i with
  | zero => exact d.untouched
  | succ n ih =>
    unfold freeChain
    exact (d.untouched.bump.setNum.setNum2.raise.log).ite (writes_freeUnit.ite (writes_freeUnit.trans ih))

/-- The registers outside the pools' pages that a frame's end moves. -/
abbrev frameRegs : List Reg := [PORT.PORT_STAT, TNDM.LINK_STAT, SWCR.HOLD_UNITS, SWCR.DESC_USED, MEMC.RET_BLOCKS]

theorem writes_freeDesc {k : Nat} : d.writes (d.freeDesc k) poolPages [MEMC.RET_BLOCKS, SWCR.DESC_USED] := (d.untouched.andThen writes_sw).setNum.bump

theorem writes_charge {r p n : Nat} : d.writes (d.charge r p n) poolPages [MEMC.RET_BLOCKS] := d.untouched.bump.setNum
theorem writes_uncharge {r p n : Nat} : d.writes (d.uncharge r p n) poolPages [MEMC.RET_BLOCKS] := d.untouched.setNum

theorem writes_releaseFrame {k c : Nat} : d.writes (d.releaseFrame k c) poolPages frameRegs := by
  unfold releaseFrame
  split
  · exact d.untouched
  next f _ =>
    have h : d.writes (Dev.freeChain chainFuel d f.fpool f.first f.req c) poolPages frameRegs := d.untouched.andThen writes_freeChain
    exact (((h.setNum.ite (h.andThen writes_uncharge)).andThen writes_setPri).andThen writes_freeDesc).andThen writes_evalAll

theorem writes_rehold {k : Nat} : d.writes (d.rehold k) poolPages frameRegs := by
  unfold rehold
  split
  · exact d.untouched
  · dsimp only
    have h {g : Frame} : d.writes (d.setFrame k g) poolPages frameRegs := d.untouched.andThen writes_setFrame
    have h2 {g g2 : Frame} : d.writes ((d.setFrame k g).setFrame k g2) poolPages frameRegs := h.andThen writes_setFrame
    exact (h2.andThen writes_uncharge).bump.ite ((h2.setNum.andThen writes_charge).ite h)

theorem writes_finishCopy {k c : Nat} : d.writes (d.finishCopy k c) poolPages frameRegs := by
  unfold finishCopy
  split
  · exact d.untouched
  · exact writes_releaseFrame.ite ((d.untouched.andThen writes_setFrame).trans writes_rehold)

end Dev
end Sys2Proof.Machine
end

section
set_option Elab.async false
/-! Punt delivery and injection (R347, R452 to R455). -/

namespace Sys2Proof.Machine.Dev
open Sys2Proof
variable {d e : Dev} {r : Nat}

/-! ### The completion of a descriptor (R452, R456) -/

theorem num_dmaWrite {a c : Nat} {bs : List Byte} {x : Reg} : (d.dmaWrite a bs).num x c = d.num x c := rfl
theorem num2_dmaWrite {a c : Nat} {bs : List Byte} {x y : Reg} : (d.dmaWrite a bs).num2 x y c = d.num2 x y c := rfl

/-- DONE has advanced and is written back. -/
def ringMarked (r : Nat) (d : Dev) : Dev :=
  let d := d.setNum HOST.RING_DONE ((d.num HOST.RING_DONE r + 1) % 65536) r
  d.dmaWrite (d.num2 HOST.RING_WB_LO HOST.RING_WB_HI r) (leBytes 4 (d.num HOST.RING_DONE r))

/-- A descriptor is counted. -/
def ringCounted (r : Nat) (moved bad : Bool) (d : Dev) : Dev :=
  let d := if moved then d.bump HOST.RING_FRAMES r else d
  if bad then d.bump HOST.RING_ERR r else d

/-- One more completion since software last cleared the ring's bit. -/
def ringSince (r : Nat) (d : Dev) : Dev :=
  let n := d.host.since.get 0 r
  d.setHostSt { d.host with since := d.host.since.set 0 r (n + 1),
                            first := if n = 0 then d.host.first.set 0 r d.upUs else d.host.first }

variable {moved bad : Bool}

/-- A descriptor completed, before the ring's interrupt is looked at. -/
def ringServed (r : Nat) (moved bad : Bool) (d : Dev) : Dev := ((d.ringMarked r).ringCounted r moved bad).ringSince r

theorem ringDone_eq : d.ringDone r moved bad =
    if (d.ringServed r moved bad).fld HOST.RING_MOD_THRESH r ≤ ((d.ringMarked r).ringCounted r moved bad).host.since.get 0 r + 1 then
      (d.ringServed r moved bad).ringIrq r else d.ringServed r moved bad := rfl

/-- What holds of a descriptor completed holds of it with the ring's interrupt. -/
theorem ringDone_cases (p : Dev → Prop) (h : p (d.ringServed r moved bad)) (hi : p ((d.ringServed r moved bad).ringIrq r)) :
    p (d.ringDone r moved bad) := by
  rw [ringDone_eq]
  split
  · exact hi
  · exact h

theorem num_ringIrq (x : Reg) (c : Nat) (hp : x.plain = true := by rfl) (hlo : x.apart HOST.RING_IRQ_LO = true := by rfl)
    (hhi : x.apart HOST.RING_IRQ_HI = true := by rfl) : (d.ringIrq r).num x c = d.num x c := by
  rw [num_of_reports ringIrq_reports _ _ hp, ringIrqSet]
  split
  · exact num_setNum_apart _ _ _ _ _ _ hlo
  · exact num_setNum_apart _ _ _ _ _ _ hhi

theorem moves_ringMarked : d.moves (d.ringMarked r) [.hostMem] [0x68] := d.still.setNum.dmaWrite
theorem moves_ringCounted : d.moves (d.ringCounted r moved bad) [] [0x68] := by
  unfold ringCounted
  exact (d.still.iteSelf fun h => h.bump).iteSelf fun h => h.bump
theorem moves_ringSince : d.moves (d.ringSince r) [.host] [] := d.still.setHostSt

theorem moves_ringServed : d.moves (d.ringServed r moved bad) [.hostMem, .host] [0x68] :=
  ((d.still.andThen moves_ringMarked).andThen moves_ringCounted).andThen moves_ringSince

theorem moves_ringDone : d.moves (d.ringDone r moved bad) [.hostMem, .host] [0x68] :=
  ringDone_cases (fun e => d.moves e _ _) moves_ringServed (moves_ringServed.andThen moves_ringIrq)

theorem num_ringCounted (x : Reg) (c : Nat) (hf : x.apart HOST.RING_FRAMES = true := by rfl) (he : x.apart HOST.RING_ERR = true := by rfl) :
    (d.ringCounted r moved bad).num x c = d.num x c := by
  have h : (if moved then d.bump HOST.RING_FRAMES r else d).num x c = d.num x c := by
    split
    · exact num_bump_apart _ _ _ _ _ _ hf
    · rfl
  unfold ringCounted
  dsimp only
  split
  · exact (num_bump_apart _ _ _ _ _ _ he).trans h
  · exact h

theorem num_ringSince (x : Reg) (c : Nat) : (d.ringSince r).num x c = d.num x c := rfl

theorem done_ringMarked : (d.ringMarked r).num HOST.RING_DONE r = (d.num HOST.RING_DONE r + 1) % 65536 := by
  change (d.setNum HOST.RING_DONE _ r).num HOST.RING_DONE r = _
  rw [num_setNum_same]
  omega

theorem done_ringServed : (d.ringServed r moved bad).num HOST.RING_DONE r = (d.num HOST.RING_DONE r + 1) % 65536 := by
  rw [ringServed, num_ringSince, num_ringCounted _ _, done_ringMarked]

theorem done_ringDone : (d.ringDone r moved bad).num HOST.RING_DONE r = (d.num HOST.RING_DONE r + 1) % 65536 :=
  ringDone_cases (fun e => e.num HOST.RING_DONE r = _) done_ringServed ((num_ringIrq _ _).trans done_ringServed)

theorem frames_ringDone : (d.ringDone r true bad).num HOST.RING_FRAMES r = (d.num HOST.RING_FRAMES r + 1) % 2 ^ 32 := by
  have h : (d.ringServed r true bad).num HOST.RING_FRAMES r = (d.num HOST.RING_FRAMES r + 1) % 2 ^ 32 := by
    have hm : (d.ringMarked r).num HOST.RING_FRAMES r = d.num HOST.RING_FRAMES r := by
      rw [ringMarked, num_dmaWrite, num_setNum_apart _ _ _ _ _ _ rfl]
    rw [ringServed, num_ringSince, ringCounted, ← hm]
    cases bad with
    | true => exact (num_bump_apart _ _ _ _ _ _ rfl).trans (num_bump_eq _ _ _ _)
    | false => exact num_bump_eq _ _ _ _
  exact ringDone_cases (fun e => e.num HOST.RING_FRAMES r = _) h ((num_ringIrq _ _).trans h)

theorem errors_ringDone : (d.ringDone r false true).num HOST.RING_ERR r = (d.num HOST.RING_ERR r + 1) % 2 ^ 32 := by
  have h : (d.ringServed r false true).num HOST.RING_ERR r = (d.num HOST.RING_ERR r + 1) % 2 ^ 32 := by
    have hm : (d.ringMarked r).num HOST.RING_ERR r = d.num HOST.RING_ERR r := by
      rw [ringMarked, num_dmaWrite, num_setNum_apart _ _ _ _ _ _ rfl]
    rw [ringServed, num_ringSince, ringCounted, ← hm]
    exact num_bump_eq _ _ _ _
  exact ringDone_cases (fun e => e.num HOST.RING_ERR r = _) h ((num_ringIrq _ _).trans h)

theorem since_ringDone : (d.ringDone r moved bad).host.since.get 0 r = d.host.since.get 0 r + 1 := by
  have h : (d.ringServed r moved bad).host.since.get 0 r = d.host.since.get 0 r + 1 := by
    have hm : ((d.ringMarked r).ringCounted r moved bad).host = d.host := by
      rw [moves_ringCounted.keeps_host, moves_ringMarked.keeps_host]
    have hs (x : Dev) : (x.ringSince r).host.since = x.host.since.set 0 r (x.host.since.get 0 r + 1) := rfl
    rw [ringServed, ← hm, hs, SMap.get_set_same]
  refine ringDone_cases (fun e => e.host.since.get 0 r = _) h ?_
  rw [moves_ringIrq.keeps_host, h]

theorem hostMem_ringDone : (d.ringDone r moved bad).hostMem = d.hostMem.putBytes 0 (d.num2 HOST.RING_WB_LO HOST.RING_WB_HI r)
    (leBytes 4 ((d.num HOST.RING_DONE r + 1) % 65536)) := by
  have hd : (d.setNum HOST.RING_DONE ((d.num HOST.RING_DONE r + 1) % 65536) r).num HOST.RING_DONE r = (d.num HOST.RING_DONE r + 1) % 65536 := by
    rw [num_setNum_same]
    omega
  have h : (d.ringServed r moved bad).hostMem = d.hostMem.putBytes 0 (d.num2 HOST.RING_WB_LO HOST.RING_WB_HI r)
      (leBytes 4 ((d.num HOST.RING_DONE r + 1) % 65536)) := by
    rw [ringServed, moves_ringSince.keeps_hostMem, moves_ringCounted.keeps_hostMem, ringMarked, hd, num2, num_setNum_apart _ _ _ _ _ _ rfl, num_setNum_apart _ _ _ _ _ _ rfl, ← num2]
    rfl
  refine ringDone_cases (fun e => e.hostMem = _) h ?_
  rw [moves_ringIrq.keeps_hostMem, h]

/-! ### Punts (R347, R453) -/

/-- A punt on its way: the frame's bytes and its descriptor in host memory, its copy no longer staged. -/
def puntMoved (d : Dev) (t : Tx) (f : Frame) (r : Nat) : Dev :=
  let a := d.ringDesc r
  let len := leNat (d.dmaRead (a + 8) 2)
  let trunc := decide (len < f.bytes.length)
  let d := d.dmaWrite (leNat (d.dmaRead a 8)) (f.bytes.take len)
  let d := (d.dmaWrite (a + 10) (d.puntBytes f t.copy.cls trunc)).freed
  let d := d.setStaged 32 (replaceTx (d.stagedOf 32) t none)
  d.statGood 32 32 (f.bytes.length + 4) f.bytes

variable {t : Tx} {f : Frame}

theorem puntCopy_eq : ∃ trunc : Bool, d.puntCopy t f r = ((d.puntMoved t f r).ringDone r true trunc).finishCopy t.copy.desc 0 := ⟨_, rfl⟩

theorem moves_puntMoved : d.moves (d.puntMoved t f r) [.hostMem, .frees, .sw] [] :=
  ((d.still.dmaWrite.dmaWrite.freed).andThen moves_setStaged).andThen moves_statGood

theorem num_puntMoved (x : Reg) (c : Nat) (hx : x.plain = true := by rfl) : (d.puntMoved t f r).num x c = d.num x c :=
  moves_puntMoved.num x c hx rfl

theorem puntDeliver_whole (h : d.nextPunt = some (t, f, r)) : d.puntDeliver none false = (d.puntCopy t f r).pruneDeficits 32 := by
  rw [puntDeliver, h]
  rfl

theorem puntDeliver_halted (h : d.nextPunt = some (t, f, r)) : d.puntDeliver none true = d.ringHalt r := by
  rw [puntDeliver, h]
  rfl

/-- A staged copy of port 32 whose bytes come too late is discarded. -/
theorem puntDeliver_late {err : Bool} (h : d.nextPunt = some (t, f, r)) : d.puntDeliver (some .late) err =
    (d.setStaged 32 (replaceTx (d.stagedOf 32) t none)).readErr 32 t.copy.desc := by
  have hr : d.readError t.copy.desc (some .late) = (d, some 2) := by
    unfold readError
    split
    next x f' hx _ => cases hx; rfl
    next x hx _ => cases hx; rfl
    next hx => cases hx
  rw [puntDeliver, h]
  dsimp only
  rw [hr]

theorem puntDeliver_none {failed : Option ReadFail} {err : Bool} (h : d.nextPunt = none) : d.puntDeliver failed err = d := by
  rw [puntDeliver, h]

theorem moves_ringHalt : d.moves (d.ringHalt r) [] [0x68] := d.still.bump.setFld.raise.log

theorem halted_ringHalt : (d.ringHalt r).on HOST.RING_STAT_HALTED r = true := by
  rw [ringHalt, on_log_plain _ _ _ _ _ _ _ _ _ rfl, on_raise_plain _ _ _ _ rfl, on_setFld_eq _ _ _ _ rfl]
  rfl

theorem raised_ringHalt : (d.ringHalt r).raised HOST.int_RING_HALT = true := by
  rw [ringHalt, raised_log_plain _ _ _ _ _ _ _ _ rfl, raised_raise_eq _ _ rfl]

theorem errors_ringHalt : (d.ringHalt r).num HOST.PCIE_ERR = (d.num HOST.PCIE_ERR + 1) % 2 ^ 32 := by
  rw [ringHalt, num_log_plain _ _ _ _ _ _ _ _ _ rfl, num_raise_plain _ _ _ _ rfl, num_setFld_apart _ _ _ _ _ _ rfl, num_bump_eq]

theorem done_ringHalt : (d.ringHalt r).num HOST.RING_DONE r = d.num HOST.RING_DONE r := by
  rw [ringHalt, num_log_plain _ _ _ _ _ _ _ _ _ rfl, num_raise_plain _ _ _ _ rfl, num_setFld_apart _ _ _ _ _ _ rfl,
    num_bump_apart _ _ _ _ _ _ rfl]

/-! ### A read that fails before the first byte (R347) -/

variable {port k : Nat}

theorem count_readErr : (d.readErr port k).num SWCR.READ_ERR port = (d.num SWCR.READ_ERR port + 1) % 2 ^ 32 := by
  rw [readErr, writes_finishCopy.num _ _, num_raise_plain _ _ _ _ rfl, num_bump_eq, disc]
  rw [num_bump_apart _ _ _ _ _ _ rfl]

theorem raised_readErr : (d.readErr port k).raised SWCR.int_READ_ERR = true :=
  writes_finishCopy.raised (raised_raise_eq _ _ rfl)


/-! ### Injection (R455) -/

/-- The STATUS of a descriptor written. -/
def injectMarked (a n : Nat) (d : Dev) : Dev := d.dmaWrite (a + 24) (leBytes 1 n)

/-- The turn of the inject rings after one of them. -/
def injectTurned (r : Nat) (d : Dev) : Dev := d.setHostSt { d.host with turn := (r - 32 + 1) % 32 }

variable {pick : List Nat}

theorem hostMem_injectMarked {a n : Nat} : (d.injectMarked a n).hostMem = d.hostMem.set 0 (a + 24) (BitVec.ofNat 8 n) := rfl
theorem moves_injectMarked {a n : Nat} : d.moves (d.injectMarked a n) [.hostMem] [] := d.still.dmaWrite
theorem num_injectMarked {a n c : Nat} {x : Reg} : (d.injectMarked a n).num x c = d.num x c := rfl
theorem num2_injectMarked {a n c : Nat} {x y : Reg} : (d.injectMarked a n).num2 x y c = d.num2 x y c := rfl
theorem regs_injectTurned : (d.injectTurned r).regs = d.regs := by rw [injectTurned, setHostSt_regs]
theorem num_injectTurned {c : Nat} {x : Reg} : (d.injectTurned r).num x c = d.num x c := num_of_regs regs_injectTurned x c
theorem on_injectTurned {c : Nat} {x : Fld} : (d.injectTurned r).on x c = d.on x c := by rw [on, fld, num_injectTurned, on, fld]
theorem raised_injectTurned {b : IntBit} : (d.injectTurned r).raised b = d.raised b := raised_of_regs regs_injectTurned b
theorem moves_injectTurned : d.moves (d.injectTurned r) [.host] [] := d.still.setHostSt

theorem inject_held {err : Bool} (h : d.inEpisode 32 0 = true ∨ d.spore.stopped = true) : d.inject err pick = d := by
  unfold inject
  split
  · rfl
  · rw [if_pos (by simpa using h)]

theorem inject_none {err : Bool} (h : d.nextInject = none) : d.inject err pick = d := by
  rw [inject, h]

variable (hn : d.nextInject = some r) (he : d.inEpisode 32 0 = false) (hs : d.spore.stopped = false)
include hn

theorem inject_nothing (hx : d.injectStatus (d.readInject (d.ringDesc r)) = 0)
    (hf : d.injectFrame (d.readInject (d.ringDesc r)) pick = none) : d.inject false pick = d := by
  rw [inject, hn]
  dsimp only
  split
  · rfl
  · rw [if_neg (by decide)]
    split
    · rw [hf]
    next h => exact absurd hx h

include he hs

theorem inject_error : d.inject true pick = ((d.injectMarked (d.ringDesc r) 3).ringHalt r).injectTurned r := by
  rw [inject, hn]
  dsimp only
  rw [if_neg (by simp [he, hs]), if_pos rfl]
  rfl

theorem inject_refused (hx : d.injectStatus (d.readInject (d.ringDesc r)) ≠ 0) : d.inject false pick =
    ((d.injectMarked (d.ringDesc r) (d.injectStatus (d.readInject (d.ringDesc r)))).ringDone r false true).injectTurned r := by
  rw [inject, hn]
  dsimp only
  rw [if_neg (by simp [he, hs]), if_neg (by decide)]
  split
  next h => exact absurd h hx
  · simp only [injectTurned, injectMarked]

theorem inject_frame (hx : d.injectStatus (d.readInject (d.ringDesc r)) = 0)
    (hf : d.injectFrame (d.readInject (d.ringDesc r)) pick = some e) :
    d.inject false pick = ((e.injectMarked (d.ringDesc r) 0).ringDone r true false).injectTurned r := by
  rw [inject, hn]
  dsimp only
  rw [if_neg (by simp [he, hs]), if_neg (by decide)]
  split
  · rw [hf]
    simp only [injectTurned, injectMarked]
  next h => exact absurd hx h

end Sys2Proof.Machine.Dev

open Sys2Proof Sys2Proof.Machine

/-- Settles O53. -/
theorem puntAndInject : Obligations.PuntAndInject := by
  unfold Obligations.PuntAndInject
  refine ⟨fun s t f r hon hup hn => ?whole, fun s t f r hon hup hn => ?halted, fun s t f r err hon hup hn => ?late,
    fun s failed err hon h => ?idle, fun s r pick hon hn he hs => ?error, fun s r n pick hon hn he hs hx h0 => ?refused,
    fun s r pick x e hon hn he hs hx h0 hf => ?admitted, fun s r pick x hon hn hx h0 hf => ?waits, fun s err pick hon h => ?held⟩
  case whole =>
    refine gives_actWhen rfl hon hup ?_
    obtain ⟨trunc, hx⟩ := Dev.puntCopy_eq (d := s.dev) (t := t) (f := f) (r := r)
    have hm : ((s.dev.puntMoved t f r).ringDone r true trunc).moves
        ((((s.dev.puntMoved t f r).ringDone r true trunc).finishCopy t.copy.desc 0).pruneDeficits 32) [.sw] framePages :=
      (Dev.still _).andThen Dev.moves_finishCopy |>.andThen Dev.moves_pruneDeficits
    rw [Dev.puntDeliver_whole hn, hx]
    refine ⟨?_, ?_, ?_⟩
    · rw [Dev.under_num, hm.num _ _, Dev.done_ringDone, Dev.num_puntMoved _ _]
    · rw [Dev.under_num, hm.num _ _, Dev.frames_ringDone, Dev.num_puntMoved _ _]
    · rw [Dev.under_host, hm.keeps_host, Dev.since_ringDone, Dev.moves_puntMoved.keeps_host]
  case halted =>
    refine gives_actWhen rfl hon hup ?_
    rw [Dev.puntDeliver_halted hn, Dev.moves_ringHalt.under_eq]
    exact ⟨Dev.halted_ringHalt, Dev.raised_ringHalt, Dev.errors_ringHalt, Dev.done_ringHalt, Dev.moves_ringHalt⟩
  case late =>
    refine gives_actWhen rfl hon hup ?_
    have hm : s.dev.moves ((s.dev.setStaged 32 (replaceTx (s.dev.stagedOf 32) t none)).readErr 32 t.copy.desc) [.sw] framePages :=
      (s.dev.still.andThen Dev.moves_setStaged).trans Dev.moves_readErr
    rw [Dev.puntDeliver_late hn, hm.under_eq]
    exact ⟨Dev.count_readErr, Dev.raised_readErr, hm.num _ _, hm.keeps_hostMem⟩
  case idle =>
    rcases h with h | h
    · exact idle_actWhen rfl h
    · exact idle_actSelf rfl (by unfold Dev.when; split <;> first | exact Dev.puntDeliver_none h | rfl)
  case error =>
    refine gives_act rfl hon ?_
    have hm : s.dev.moves (((s.dev.injectMarked (s.dev.ringDesc r) 3).ringHalt r).injectTurned r) [.hostMem, .host] [0x68] :=
      ((s.dev.still.andThen Dev.moves_injectMarked).andThen Dev.moves_ringHalt).andThen Dev.moves_injectTurned
    rw [Dev.inject_error hn he hs, hm.under_eq]
    rw [Dev.on_injectTurned, Dev.raised_injectTurned, Dev.num_injectTurned, Dev.done_ringHalt, Dev.num_injectMarked,
      Dev.moves_injectTurned.keeps_hostMem, Dev.moves_ringHalt.keeps_hostMem, Dev.hostMem_injectMarked]
    exact ⟨Dev.halted_ringHalt, Dev.raised_ringHalt, rfl, rfl, hm⟩
  case refused =>
    refine gives_act rfl hon ?_
    subst hx
    have hm {n : Nat} : s.dev.moves (((s.dev.injectMarked (s.dev.ringDesc r) n).ringDone r false true).injectTurned r) [.hostMem, .host] [0x68] :=
      ((s.dev.still.andThen Dev.moves_injectMarked).andThen Dev.moves_ringDone).andThen Dev.moves_injectTurned
    rw [Dev.inject_refused hn he hs h0, hm.under_eq]
    rw [Dev.num_injectTurned, Dev.done_ringDone, Dev.num_injectMarked, Dev.num_injectTurned, Dev.errors_ringDone, Dev.num_injectMarked,
      Dev.moves_injectTurned.keeps_hostMem, Dev.hostMem_ringDone, Dev.hostMem_injectMarked, Dev.num2_injectMarked, Dev.num_injectMarked]
    exact ⟨rfl, rfl, rfl, hm.keeps_sw, hm⟩
  case admitted =>
    refine gives_act rfl hon ?_
    subst hx
    rw [Dev.inject_frame hn he hs h0 hf]
    rw [Dev.under_num, Dev.num_injectTurned, Dev.done_ringDone, Dev.num_injectMarked, Dev.under_num, Dev.num_injectTurned,
      Dev.frames_ringDone, Dev.num_injectMarked, Dev.under_sw, Dev.moves_injectTurned.keeps_sw, Dev.moves_ringDone.keeps_sw,
      Dev.moves_injectMarked.keeps_sw, Dev.under_hostMem, Dev.moves_injectTurned.keeps_hostMem, Dev.hostMem_ringDone,
      Dev.hostMem_injectMarked, Dev.num2_injectMarked, Dev.num_injectMarked]
    exact ⟨rfl, rfl, rfl, rfl⟩
  case waits =>
    subst hx
    exact idle_actSelf rfl (Dev.inject_nothing hn h0 hf)
  case held =>
    rcases h with h | h
    · exact idle_actSelf rfl (Dev.inject_none h)
    · exact idle_actSelf rfl (Dev.inject_held h)
end

section
set_option Elab.async false
/-! Cipher calls of engine threads and the lock (R309 to R312, R316, R319, R326). -/

namespace Sys2Proof.Machine.Dev
open Sys2Proof
variable {d e : Dev} {c k g i n path : Nat} {t : Task} {q : BlockCall} {P : List Part} {f : Dev → Nat → Task → Thread → Dev}

/-! ### The commands of a nanoword's group -/

theorem onGroup_acts {upto after : Nat} (h : d.acts k g upto i t) :
    d.onGroup k g upto after f = f (d.groupDone k g after) i t (d.thread k) := by
  obtain ⟨hmay, hrun, hstage, hfree, -⟩ := h
  rw [onGroup, hmay, hfree, decide_eq_true hstage, onThread, hrun]
  rfl

theorem onLast_acts (h : d.acts k g 3 i t) : d.onLast k g f = f (d.groupDone k g 3) i t (d.thread k) := by
  rw [onLast, onGroup_acts h, if_pos]
  rw [h.2.2.2.2]
  rfl

theorem onLast_idle (h : d.running k = none ∨ d.mayIssue k = false ∨ d.groupFree k g = false) : d.onLast k g f = d := by
  rw [onLast, onGroup, onThread]
  rcases h with h | h | h
  · rw [h]
    exact ite_self _
  · rw [h]
    rfl
  · rw [h, Bool.and_false]
    rfl

theorem running_wait (h : d.running k = some (i, t)) : (d.thread k).wait = none := by
  rw [running] at h
  by_contra hw
  rw [if_neg hw] at h
  cases h

theorem idOn_running (h : d.running k = some (i, t)) : d.idOn k = t.id i := by
  rw [running, if_pos (running_wait h)] at h
  rw [idOn, h]

theorem userOn_running (h : d.running k = some (i, t)) : d.userOn k = .task (k % 256) (t.id i) := by
  rw [userOn, idOn_running h]

/-- What moves neither the clock nor the fuses needs no guard over them. -/
theorem keeps.under_eq (h : d.keeps e P) (hc : P.contains .clk = false := by rfl) (ho : P.contains .otp = false := by rfl) :
    d.under e = e := by
  have hclk : e.clk = d.clk := h .clk fun hm => by rw [List.contains_iff_mem.mpr hm] at hc; cases hc
  have hotp : e.otp = d.otp := h .otp fun hm => by rw [List.contains_iff_mem.mpr hm] at ho; cases ho
  rw [Dev.under, ← hclk, ← hotp]

/-- A step that leaves more as it was, after others. -/
theorem keeps.thenKeeps {d0 : Dev} {Q : List Part} (h : d0.keeps d P) (hs : d.keeps e Q) (hq : Q.all P.contains = true := by rfl) :
    d0.keeps e P := h.trans fun p hp => hs p fun hm => hp (List.contains_iff_mem.mp (List.all_eq_true.mp hq p hm))

theorem keeps.weaken {Q : List Part} (h : d.keeps e Q) (hq : Q.all P.contains = true := by rfl) : d.keeps e P :=
  (keeps.refl d).thenKeeps h hq

theorem keeps_groupDone {after : Nat} : d.keeps (d.groupDone k g after) [.eng] := (keeps.refl d).set_eng
theorem moves_groupDone {after : Nat} : d.moves (d.groupDone k g after) [.eng] [] := d.still.set_eng
theorem thread_groupDone {j after : Nat} : (d.groupDone k g after).thread j = d.thread j := rfl
theorem cipher_groupDone {after : Nat} : (d.groupDone k g after).cipher c = d.cipher c := rfl
theorem userOn_groupDone {j after : Nat} : (d.groupDone k g after).userOn j = d.userOn j := rfl
theorem clk_groupDone {after : Nat} : (d.groupDone k g after).clk = d.clk := rfl
theorem idOn_groupDone {j after : Nat} : (d.groupDone k g after).idOn j = d.idOn j := rfl

/-! ### The end of a unit call -/

theorem thread_unitDone (d : Dev) (k st : Nat) : (d.unitDone k st).thread k = { (d.thread k).setUnit st with wait := none } :=
  thread_updThread_same _ _ _

theorem thread_unitDone_free {st : Nat} (h : (d.thread k).wait = none) : (d.unitDone k st).thread k = (d.thread k).setUnit st := by
  rw [thread_unitDone, ← h]
  rfl

theorem keeps.unitDone {st : Nat} (h : d.keeps e P) (hp : P.contains .eng = true := by rfl) : d.keeps (e.unitDone k st) P := h.set_eng hp
theorem moves_unitDone {st : Nat} : d.moves (d.unitDone k st) [.eng] [] := d.still.updThread

/-- A thread whose call stands in a cipher unit. -/
def inCall (d : Dev) (k : Nat) : Dev := d.updThread k fun th => { th with wait := some .block }

theorem thread_inCall : (d.inCall k).thread k = { d.thread k with wait := some .block } := thread_updThread_same _ _ _

theorem idOn_inCall : (d.inCall k).idOn k = d.idOn k := by
  unfold idOn taskOn
  rw [thread_inCall]
  rfl

theorem cipher_inCall : (d.inCall k).cipher c = d.cipher c := rfl
theorem keySlot_inCall : (d.inCall k).keySlot c n = d.keySlot c n := rfl
theorem clk_inCall : (d.inCall k).clk = d.clk := rfl
theorem moves_inCall : d.moves (d.inCall k) [.eng] [] := d.still.updThread
theorem keeps_inCall : d.keeps (d.inCall k) [.eng] := (keeps.refl d).set_eng

theorem thread_unitDone_inCall {st : Nat} (h : (d.thread k).wait = none) : ((d.inCall k).unitDone k st).thread k = (d.thread k).setUnit st := by
  rw [thread_unitDone, thread_inCall, ← h]
  rfl

/-! ### LOCK and FREE -/

theorem engLock_off (h : d.enabled 0x38 = false) : d.engLock k = d.unitDone k 7 := by
  rw [engLock, h]
  rfl

theorem engLock_held (he : d.enabled 0x38 = true) (hh : (d.cipher (thrFrond k)).holder = some (d.userOn k)) :
    d.engLock k = d.unitDone k 0 := by
  rw [engLock, he]
  exact if_pos hh

/-- A thread that waits for the lock. -/
def asking (d : Dev) (k : Nat) : Dev :=
  (d.lockAsk (thrFrond k) (d.userOn k) none).updThread k fun th => { th with wait := some (.lock d.clk.up) }

theorem engLock_asks (he : d.enabled 0x38 = true) (hh : (d.cipher (thrFrond k)).holder ≠ some (d.userOn k)) :
    d.engLock k = d.asking k := by
  rw [engLock, he]
  exact if_neg hh

theorem engFree_held (he : d.enabled 0x38 = true) (hh : (d.cipher (thrFrond k)).holder = some (d.userOn k)) :
    d.engFree k = (d.hold (thrFrond k) none).unitDone k 0 := by
  rw [engFree, he]
  exact if_pos hh

theorem engFree_unheld (he : d.enabled 0x38 = true) (hh : (d.cipher (thrFrond k)).holder ≠ some (d.userOn k)) :
    d.engFree k = d.unitDone k 2 := by
  rw [engFree, he]
  exact if_neg hh

theorem cipher_lockAsk {u : User} {x : Option BlockCall} : (d.lockAsk c u x).cipher c =
    { d.cipher c with waiters := (d.cipher c).waiters ++ [{ user := u, call := x, since := d.clk.up }] } := cipher_setCipher_same _ _ _
theorem keeps.lockAsk {u : User} {x : Option BlockCall} (h : d.keeps e P) (hp : P.contains .units = true := by rfl) :
    d.keeps (e.lockAsk c u x) P := h.set_units hp

theorem cipher_asking : (d.asking k).cipher (thrFrond k) = { d.cipher (thrFrond k) with waiters := (d.cipher (thrFrond k)).waiters ++
    [{ user := d.userOn k, call := none, since := d.clk.up }] } := cipher_lockAsk
theorem thread_asking : (d.asking k).thread k = { d.thread k with wait := some (.lock d.clk.up) } := thread_updThread_same _ _ _
theorem keeps_asking : d.keeps (d.asking k) [.eng, .units] := (keeps.refl d).lockAsk.set_eng

theorem keeps.hold {u : Option User} (h : d.keeps e P) (hp : P.contains .units = true := by rfl) : d.keeps (e.hold c u) P := h.set_units hp
theorem cipher_hold {u : Option User} : (d.hold c u).cipher c =
    { d.cipher c with holder := u, granted := d.clk.up, active := d.clk.up } := cipher_setCipher_same _ _ _

/-! ### Blocks and nonces of a thread -/

/-- The call that a thread makes. -/
def callOf (d : Dev) (k slot op : Nat) (once : Bool) (src dst : Nat) (key : Guard) : BlockCall :=
  { thread := k % 256, id := d.idOn k, slot := slot % 32, op := op, once := once, block := leBytes 16 ((d.thread k).rv src),
    dst := dst % 4, key := key }

theorem engCall_queued {slot op src dst : Nat} {once : Bool} {key : Guard} (he : d.enabled 0x38 = true) (hf : d.unitFull (thrFrond k) = true) :
    d.engCall k slot op once src dst key = (d.inCall k).setCipher (thrFrond k) { d.cipher (thrFrond k) with
      arrivals := (d.cipher (thrFrond k)).arrivals ++ [d.callOf k slot op once src dst key] } := by
  rw [engCall, if_neg (by rw [he]; decide)]
  exact if_pos (Bool.or_eq_true_iff.mpr (.inl hf))

theorem engCall_placed {slot op src dst : Nat} {once : Bool} {key : Guard} (he : d.enabled 0x38 = true) (hf : d.unitFull (thrFrond k) = false)
    (ha : (d.cipher (thrFrond k)).arrivals = []) :
    d.engCall k slot op once src dst key = (d.inCall k).placeCall (thrFrond k) (d.callOf k slot op once src dst key) := by
  rw [engCall, if_neg (by rw [he]; decide)]
  refine if_neg ?_
  have hx : ((d.inCall k).cipher (thrFrond k)).arrivals = [] := ha
  have hy : (d.inCall k).unitFull (thrFrond k) = false := hf
  rw [inCall] at hx hy
  rw [hx, hy]
  decide

theorem placeCall_once (he : d.enabled 0x38 = true) (ho : q.once = true) :
    d.placeCall c q = d.lockAsk c (.task q.thread q.id) (some q) := by
  rw [placeCall, if_neg (by rw [he]; decide), if_pos ho]

theorem placeCall_unheld (he : d.enabled 0x38 = true) (ho : q.once = false) (hh : (d.cipher c).holder ≠ some (.task q.thread q.id)) :
    d.placeCall c q = d.unitDone (thrKey c q.thread) 2 := by
  rw [placeCall, if_neg (by rw [he]; decide), if_neg (by rw [ho]; decide)]
  exact if_pos hh

theorem placeCall_held (he : d.enabled 0x38 = true) (ho : q.once = false) (hh : (d.cipher c).holder = some (.task q.thread q.id)) :
    d.placeCall c q = (d.activeNow c).callStart c q := by
  rw [placeCall, if_neg (by rw [he]; decide), if_neg (by rw [ho]; decide)]
  exact if_neg (not_not_intro hh)

theorem callStart_queues (h : q.op ≠ 2 ∨ d.unitIdle c = false) :
    d.callStart c q = d.setCipher c { d.cipher c with queue := (d.cipher c).queue ++ [q] } := by
  rw [callStart, if_neg]
  rcases h with h | h
  · simp [h]
  · simp [h]

/-- The holder's call stands at the end of the unit's queue. -/
def queued (d : Dev) (c : Nat) (q : BlockCall) : Dev :=
  (d.activeNow c).setCipher c { (d.activeNow c).cipher c with queue := ((d.activeNow c).cipher c).queue ++ [q] }

theorem cipher_queued : (d.queued c q).cipher c = { d.cipher c with active := d.clk.up, queue := (d.cipher c).queue ++ [q] } := by
  rw [queued, cipher_setCipher_same, cipher_activeNow]
theorem thread_queued : (d.queued c q).thread k = d.thread k := rfl
theorem keeps_queued : d.keeps (d.queued c q) [.units] := keeps_activeNow.setCipher

theorem placeCall_queues (he : d.enabled 0x38 = true) (ho : q.once = false) (hh : (d.cipher c).holder = some (.task q.thread q.id))
    (hq : q.op ≠ 2 ∨ d.unitIdle c = false) : d.placeCall c q = d.queued c q := by
  rw [placeCall_held he ho hh, callStart_queues (hq.imp id (unitIdle_activeNow.trans ·)), queued]

theorem callStart_nonce (h : q.op = 2) (hi : d.unitIdle c = true) (ho : q.once = false) : d.callStart c q = d.nonceServe c q := by
  rw [callStart, if_pos (by rw [h, hi]; rfl)]
  exact if_neg (by rw [ho]; simp)

theorem callStart_nonce_once (h : q.op = 2) (hi : d.unitIdle c = true) (ho : q.once = true)
    (hh : ((d.nonceServe c q).cipher c).holder = some (.task q.thread q.id)) : d.callStart c q = (d.nonceServe c q).hold c none := by
  rw [callStart, if_pos (by rw [h, hi]; rfl)]
  exact if_pos (by rw [ho, hh]; simp)

/-! ### A slot's nonce -/

variable {s : Nat} {x : KeySlot}

/-- The slot once its counter is spent. -/
def nonceSpent (d : Dev) (c s : Nat) : Dev :=
  let e := d.bump CIPH.NONCE_REFUSED c
  let e := if (d.keySlot c s).exhausted then e else (e.raise CIPH.int_NONCE_EXHAUSTED).log (islandOfFrond c) 0x3802 c s
  e.setKeySlot c s { d.keySlot c s with exhausted := true }

theorem moves_nonceSpent : d.moves (d.nonceSpent c s) [.units] [0x38] := by
  unfold nonceSpent
  exact (d.still.bump.ite d.still.bump.raise.log).setKeySlot

theorem keySlot_nonceSpent : (d.nonceSpent c s).keySlot c s = { d.keySlot c s with exhausted := true } := keySlot_setKeySlot_same _ _ _ _

theorem num_nonceSpent : (d.nonceSpent c s).num CIPH.NONCE_REFUSED c = (d.num CIPH.NONCE_REFUSED c + 1) % 2 ^ 32 := by
  change (if _ then _ else _ : Dev).num CIPH.NONCE_REFUSED c = _
  split
  · exact num_bump_eq _ _ _ _
  · rw [num_log_plain _ _ _ _ _ _ _ _ _ rfl, num_raise_plain _ _ _ _ rfl, num_bump_eq]

theorem takeNonce_spent (hcmd : (d.keySlot c s).cmd = none) (hf : (d.keySlot c s).fault = false) (hv : (d.keySlot c s).valid = true)
    (hn : 2 ^ 48 ≤ (d.keySlot c s).counter) : d.takeNonce c s .clean = (d.nonceSpent c s, 4, []) := by
  unfold takeNonce
  rw [keyPending_none hcmd]
  dsimp only [slotReads]
  rw [if_neg (by rw [hf]; decide), if_neg (by rw [hv]; decide), if_pos hn]
  rfl

theorem takeNonce_empty (hcmd : (d.keySlot c s).cmd = none) (hf : (d.keySlot c s).fault = false) (hv : (d.keySlot c s).valid = false) :
    d.takeNonce c s .clean = (d, 3, []) := by
  unfold takeNonce
  rw [keyPending_none hcmd]
  dsimp only [slotReads]
  rw [if_neg (by rw [hf]; decide), if_pos (by rw [hv]; rfl)]

theorem takeNonce_fault (hcmd : (d.keySlot c s).cmd = none) (hf : (d.keySlot c s).fault = true) : d.takeNonce c s .clean = (d, 5, []) := by
  unfold takeNonce
  rw [keyPending_none hcmd]
  dsimp only [slotReads]
  rw [if_pos hf]

/-- The slot once it reads uncorrectably (R315). -/
def slotFaulty (d : Dev) (c s : Nat) : Dev :=
  ((d.setKeySlot c s { d.keySlot c s with fault := true }).raise CIPH.int_KEY_FAULT).sramUe (islandOfFrond c) 7 (s % 32)

theorem logged_sramUe {a b n : Nat} : d.moves (d.sramUe a b n) [] [0x03] := moves_sramUe

theorem keySlot_slotFaulty : (d.slotFaulty c s).keySlot c s = { d.keySlot c s with fault := true } := by
  rw [slotFaulty, keySlot_congr logged_sramUe.keeps_units, keySlot_congr (raise_units _ _), keySlot_setKeySlot_same]

theorem eng_slotFaulty : (d.slotFaulty c s).eng = d.eng := by
  rw [slotFaulty, logged_sramUe.keeps_eng, raise_eng]
  rfl

theorem raised_slotFaulty : (d.slotFaulty c s).raised CIPH.int_KEY_FAULT = true := by
  unfold slotFaulty sramUe setNum2
  dsimp only
  rw [raised_log_plain _ _ _ _ _ _ _ _ rfl, raised_raise_of _ _ _ rfl rfl]
  · iterate 4 rw [raised_setNum_plain _ _ _ _ _ rfl]
    exact raised_raise_eq _ _ rfl

theorem takeNonce_bad (hcmd : (d.keySlot c s).cmd = none) : d.takeNonce c s .bad = (d.slotFaulty c s, 5, []) := by
  have hf : (d.slotFaulty c s).keySlot c s = { d.keySlot c s with fault := true } := keySlot_slotFaulty
  unfold takeNonce
  rw [keyPending_none hcmd]
  exact if_pos (by rw [show Dev.keySlot (d.slotReads c s .bad) c s = _ from hf])

theorem moves_takeNonce : d.moves (d.takeNonce c s .clean).1 [.draws, .units] [0x38] := by
  have h : d.moves (d.keyPending c s) [.draws, .units] [0x38] := by
    unfold keyPending
    split
    · next p hp =>
      refine moves.ite ?_ d.still
      cases p.load
      · exact d.still.setKeySlot
      · exact d.still.setKeySlot.drawn
    · exact d.still
  unfold takeNonce
  dsimp only [slotReads]
  refine h.trans ?_
  generalize d.keyPending c s = e
  split
  · exact e.still
  · split
    · exact e.still
    · split
      · exact (moves_nonceSpent (d := e)).mono
      · exact (moves_nonceTaken (d := e)).mono

theorem cipher_takeNonce {k : Nat} : (d.takeNonce c s .clean).1.cipher k = d.cipher k := by
  rw [← cipher_keyPending (d := d) (c := c) (s := s)]
  unfold takeNonce
  dsimp only [slotReads]
  generalize d.keyPending c s = e
  split
  · rfl
  · split
    · rfl
    · split
      · change (if _ then _ else _ : Dev).cipher k = _
        split
        · rfl
        · rw [cipher_congr (log_units _ _ _ _ _ _ _), cipher_congr (raise_units _ _)]
          rfl
      · change (if _ then _ else _ : Dev).cipher k = _
        split
        · rw [cipher_congr (raise_units _ _)]
          rfl
        · rfl

/-! ### A nonce reaches its thread -/

theorem nonceServe_eq {w : Dev} {st : Nat} {bs : List Byte} (h : d.takeNonce c q.slot q.key = (w, st, bs)) :
    d.nonceServe c q = w.callDone c q st (if st = 0 then some (leNat bs) else none) := by
  rw [nonceServe, h]

theorem moves_nonceServe (h : q.key = .clean) : d.moves (d.nonceServe c q) [.draws, .frees, .eng, .units] [0x38, 0x60] := by
  rw [nonceServe_eq (bs := (d.takeNonce c q.slot q.key).2.2) (st := (d.takeNonce c q.slot q.key).2.1) (w := (d.takeNonce c q.slot q.key).1) rfl, h]
  exact (moves_takeNonce (d := d)).mono.trans (moves_callDone.mono)

theorem cipher_nonceServe {k : Nat} (h : q.key = .clean) : (d.nonceServe c q).cipher k = d.cipher k := by
  rw [nonceServe_eq (bs := (d.takeNonce c q.slot q.key).2.2) (st := (d.takeNonce c q.slot q.key).2.1) (w := (d.takeNonce c q.slot q.key).1) rfl, h,
    cipher_congr moves_callDone.keeps_units, cipher_takeNonce]

theorem writes_sampleStage {bs : List Byte} : d.writes (d.sampleStage bs) [0x60] [] := by
  unfold sampleStage sampleLost
  refine writes.ite (d.untouched.of_regs rfl) ?_
  exact d.untouched.bump.raise

theorem writes_opSample {i op who task addr word : Nat} : d.writes (d.opSample i op who task addr word) [0x60] [] := by
  have hs {x : Dev} {bs : List Byte} (h : x.regs = d.regs) : d.writes (x.sampleStage bs) [0x60] [] :=
    (d.untouched.of_regs h).trans writes_sampleStage
  unfold opSample
  dsimp only
  refine d.untouched.iteSelf fun h => ?_
  split
  · refine writes.ite ((hs (x := d.drawn) rfl).of_regs rfl) (h.of_regs rfl)
  · refine writes.ite ((hs (x := d.drawn.drawn) rfl).of_regs rfl) (h.of_regs rfl)

theorem writes_callDone {st : Nat} {v : Option Nat} : d.writes (d.callDone c q st v) [0x60] [] := by
  unfold callDone
  dsimp only
  refine writes_opSample.iteSelf fun h => ?_
  cases v <;> exact h.of_regs rfl

theorem nonceBytes_fits : leNat (nonceBytes x) % 2 ^ 128 = leNat (nonceBytes x) := by
  have hlen : (nonceBytes x).length = 16 := by
    simp [nonceBytes, beBytes, length_leBytes]
  have h := leNat_lt (nonceBytes x)
  rw [hlen] at h
  exact Nat.mod_eq_of_lt (h.trans_le (by norm_num))

/-- The thread after a call that gave no result. -/
theorem thread_callDone_none {st : Nat} (hid : d.idOn (thrKey c q.thread) = q.id) (hw : (d.thread (thrKey c q.thread)).wait = some .block) :
    (d.callDone c q st none).thread (thrKey c q.thread) = { (d.thread (thrKey c q.thread)).setUnit st with wait := none } := by
  unfold callDone
  extract_lets k e
  have he : e.eng = d.eng := (moves_opSample (d := d)).keeps_eng
  rw [if_pos ⟨(idOn_congr he k).trans hid, (congrArg Thread.wait (thread_congr he k)).trans hw⟩]
  rw [thread_unitDone, thread_congr he]

end Sys2Proof.Machine.Dev

namespace Sys2Proof.Machine
open Sys2Proof
variable {s : State} {c : Instr} {k g i : Nat} {t : Task} {p : Dev → Prop} {f : Dev → Nat → Task → Thread → Dev}

/-! ### Commands of a thread whose turn it is -/

theorem gives_onLast (h : exec c s = s.run fun d => d.onLast k g f) (hon : s.Awake) (ha : s.dev.acts k g 3 i t)
    (hp : p (s.dev.under (f (s.dev.groupDone k g 3) i t (s.dev.thread k)))) : Gives c s p := by
  refine gives_run h hon ?_
  rw [Dev.onLast_acts ha]
  exact hp

theorem idle_onLast (h : exec c s = s.run fun d => d.onLast k g f)
    (hi : s.dev.running k = none ∨ s.dev.mayIssue k = false ∨ s.dev.groupFree k g = false) : Idle c s :=
  idle_runSelf h (Dev.onLast_idle hi)

theorem thrFrond_thrKey (a b : Nat) : thrFrond (thrKey a b) = a % 8 := by
  unfold thrFrond thrKey
  omega

theorem thrKey_mod (a b : Nat) : thrKey a b % 256 = b % 256 := by
  unfold thrKey
  omega

theorem thrKey_again (a b : Nat) : thrKey (a % 8) (thrKey a b % 256) = thrKey a b := by
  unfold thrKey
  omega

theorem Thread.rv_mod (t : Thread) (i : Nat) : t.rv (i % 4) = t.rv i := by
  rw [Thread.rv, Nat.mod_mod, Thread.rv]

end Sys2Proof.Machine

namespace Sys2Proof.Machine
open Sys2Proof
variable {s : State} {frond thread slot dst i k c : Nat} {t : Task}

/-! ### The lock and calls of threads -/

/-- LOCK (R309, R311). -/
theorem gives_lock (hon : s.Awake) (hk : k = thrKey frond thread) (ha : s.dev.acts k 3 3 i t) :
    Gives (.lock frond thread) s fun d =>
      (s.dev.enabled 0x38 = false → d.thread k = (s.dev.thread k).setUnit 7 ∧ s.dev.keeps d [.eng]) ∧
      (s.dev.enabled 0x38 = true → (s.dev.cipher (frond % 8)).holder = some (.task (k % 256) (t.id i)) →
        d.thread k = (s.dev.thread k).setUnit 0 ∧ s.dev.keeps d [.eng]) ∧
      (s.dev.enabled 0x38 = true → (s.dev.cipher (frond % 8)).holder ≠ some (.task (k % 256) (t.id i)) →
        d.cipher (frond % 8) = { s.dev.cipher (frond % 8) with waiters := (s.dev.cipher (frond % 8)).waiters ++
          [{ user := .task (k % 256) (t.id i), call := none, since := s.dev.clk.up }] } ∧
        d.thread k = { s.dev.thread k with wait := some (.lock s.dev.clk.up) } ∧ s.dev.keeps d [.eng, .units]) := by
  subst hk
  refine gives_onLast rfl hon ha ?_
  have hw := Dev.running_wait ha.2.1
  have hu := Dev.userOn_running ha.2.1
  rw [← thrFrond_thrKey frond thread, ← hu]
  generalize thrKey frond thread = k at *
  have hend {st : Nat} : s.dev.keeps ((s.dev.groupDone k 3 3).unitDone k st) [.eng] := Dev.keeps_groupDone.unitDone
  refine ⟨fun he => ?_, fun he hh => ?_, fun he hh => ?_⟩
  · rw [Dev.engLock_off (d := s.dev.groupDone k 3 3) he, hend.under_eq]
    exact ⟨Dev.thread_unitDone_free hw, hend⟩
  · rw [Dev.engLock_held (d := s.dev.groupDone k 3 3) he hh, hend.under_eq]
    exact ⟨Dev.thread_unitDone_free hw, hend⟩
  · have hm : s.dev.keeps ((s.dev.groupDone k 3 3).asking k) [.eng, .units] :=
      (Dev.keeps_groupDone.weaken).thenKeeps Dev.keeps_asking
    rw [Dev.engLock_asks (d := s.dev.groupDone k 3 3) he hh, hm.under_eq, Dev.cipher_asking, Dev.thread_asking, Dev.cipher_groupDone,
      Dev.thread_groupDone, Dev.userOn_groupDone, Dev.clk_groupDone]
    exact ⟨rfl, rfl, hm⟩

/-- FREE (R309). -/
theorem gives_free (hon : s.Awake) (hk : k = thrKey frond thread) (ha : s.dev.acts k 3 3 i t) (he : s.dev.enabled 0x38 = true) :
    Gives (.free frond thread) s fun d =>
      ((s.dev.cipher (frond % 8)).holder = some (.task (k % 256) (t.id i)) → (d.cipher (frond % 8)).holder = none ∧
        d.thread k = (s.dev.thread k).setUnit 0) ∧
      ((s.dev.cipher (frond % 8)).holder ≠ some (.task (k % 256) (t.id i)) → d.units = s.dev.units ∧
        d.thread k = (s.dev.thread k).setUnit 2) ∧ s.dev.keeps d [.eng, .units] := by
  subst hk
  refine gives_onLast rfl hon ha ?_
  have hw := Dev.running_wait ha.2.1
  have hu := Dev.userOn_running ha.2.1
  rw [← thrFrond_thrKey frond thread, ← hu]
  generalize thrKey frond thread = k at *
  by_cases hh : (s.dev.cipher (thrFrond k)).holder = some (s.dev.userOn k)
  · have hm : s.dev.keeps (((s.dev.groupDone k 3 3).hold (thrFrond k) none).unitDone k 0) [.eng, .units] :=
      ((Dev.keeps.refl s.dev).set_eng.hold).unitDone
    rw [Dev.engFree_held (d := s.dev.groupDone k 3 3) he hh, hm.under_eq]
    refine ⟨fun _ => ⟨?_, Dev.thread_unitDone_free hw⟩, fun hn => absurd hh hn, hm⟩
    exact congrArg Cipher.holder (Dev.cipher_hold (d := s.dev.groupDone k 3 3))
  · have hm : s.dev.keeps ((s.dev.groupDone k 3 3).unitDone k 2) [.eng, .units] := ((Dev.keeps.refl s.dev).set_eng).unitDone
    rw [Dev.engFree_unheld (d := s.dev.groupDone k 3 3) he hh, hm.under_eq]
    exact ⟨fun h => absurd h hh, fun _ => ⟨rfl, Dev.thread_unitDone_free hw⟩, hm⟩

/-- The call that a running thread makes. -/
theorem callOf_running {op src : Nat} {once : Bool} {key : Guard} (ha : s.dev.acts k 3 3 i t) :
    (s.dev.groupDone k 3 3).callOf k slot op once src dst key =
      { thread := k % 256, id := t.id i, slot := slot % 32, op := op, once := once,
        block := leBytes 16 ((s.dev.thread k).rv src), dst := dst % 4, key := key } := by
  rw [Dev.callOf, Dev.idOn_groupDone, Dev.idOn_running ha.2.1, Dev.thread_groupDone]

/-- An ENC or DEC of a thread, as it is carried out. -/
theorem exec_block {x : Instr} {op src : Nat} {once : Bool} (h : (x = .enc frond thread slot once src dst ∧ op = 0) ∨
    (x = .dec frond thread slot once src dst ∧ op = 1)) : exec x s = s.run fun d => d.onLast (thrKey frond thread) 3 fun d _ _ _ =>
      d.engCall (thrKey frond thread) slot op once src dst .clean := by
  rcases h with ⟨rfl, rfl⟩ | ⟨rfl, rfl⟩ <;> rfl

/-- A block call of a thread, where the queue has room (R308, R309). -/
theorem gives_block {x : Instr} {op src : Nat} {once : Bool} {call : BlockCall} (hon : s.Awake)
    (hx : (x = .enc frond thread slot once src dst ∧ op = 0) ∨ (x = .dec frond thread slot once src dst ∧ op = 1))
    (hk : k = thrKey frond thread) (ha : s.dev.acts k 3 3 i t) (he : s.dev.enabled 0x38 = true)
    (hc : call = { thread := k % 256, id := t.id i, slot := slot % 32, op := op, once := once,
                   block := leBytes 16 ((s.dev.thread k).rv src), dst := dst % 4 })
    (hf : s.dev.unitFull (frond % 8) = false) (hr : (s.dev.cipher (frond % 8)).arrivals = []) :
    Gives x s fun d =>
      (once = true → d.cipher (frond % 8) = { s.dev.cipher (frond % 8) with waiters := (s.dev.cipher (frond % 8)).waiters ++
          [{ user := .task (k % 256) (t.id i), call := some call, since := s.dev.clk.up }] } ∧
        d.thread k = { s.dev.thread k with wait := some .block }) ∧
      (once = false → (s.dev.cipher (frond % 8)).holder = some (.task (k % 256) (t.id i)) →
        d.cipher (frond % 8) = { s.dev.cipher (frond % 8) with
          active := s.dev.clk.up, queue := (s.dev.cipher (frond % 8)).queue ++ [call] } ∧
        d.thread k = { s.dev.thread k with wait := some .block }) ∧
      (once = false → (s.dev.cipher (frond % 8)).holder ≠ some (.task (k % 256) (t.id i)) →
        d.thread k = (s.dev.thread k).setUnit 2 ∧ d.units = s.dev.units) ∧ s.dev.keeps d [.eng, .units] := by
  subst hk
  refine gives_onLast (exec_block hx) hon ha ?_
  have hw := Dev.running_wait ha.2.1
  have hop : op ≠ 2 := by rcases hx with ⟨-, rfl⟩ | ⟨-, rfl⟩ <;> decide
  have hkey := thrKey_again frond thread
  rw [← thrFrond_thrKey frond thread] at *
  generalize thrKey frond thread = k at *
  rw [Dev.engCall_placed (d := s.dev.groupDone k 3 3) he hf hr, callOf_running ha, ← hc]
  have hcall : call.op = op ∧ call.once = once ∧ call.thread = k % 256 ∧ call.id = t.id i := by
    rw [hc]
    exact ⟨rfl, rfl, rfl, rfl⟩
  obtain ⟨hcop, honce, hct, hid⟩ := hcall
  have hm : s.dev.keeps ((s.dev.groupDone k 3 3).inCall k) [.eng] := Dev.keeps_groupDone.thenKeeps Dev.keeps_inCall
  have hth : ((s.dev.groupDone k 3 3).inCall k).thread k = { s.dev.thread k with wait := some .block } := Dev.thread_inCall
  have hcu : ((s.dev.groupDone k 3 3).inCall k).cipher (thrFrond k) = s.dev.cipher (thrFrond k) := rfl
  have hclk : ((s.dev.groupDone k 3 3).inCall k).clk = s.dev.clk := rfl
  have hdone := Dev.thread_unitDone_inCall (d := s.dev.groupDone k 3 3) (k := k) (st := 2) hw
  have hun : ((s.dev.groupDone k 3 3).inCall k).units = s.dev.units := rfl
  have hen : ((s.dev.groupDone k 3 3).inCall k).enabled 0x38 = true := he
  rw [Dev.thread_groupDone] at hdone
  generalize (s.dev.groupDone k 3 3).inCall k = e at *
  cases once with
  | true =>
    have hx : s.dev.keeps (e.lockAsk (thrFrond k) (.task (k % 256) (t.id i)) (some call)) [.eng, .units] := (Dev.keeps.weaken hm).lockAsk
    rw [Dev.placeCall_once hen honce, hct, hid, hx.under_eq, Dev.cipher_lockAsk, hcu, hclk]
    exact ⟨fun _ => ⟨rfl, hth⟩, nofun, nofun, hx⟩
  | false =>
    by_cases hh : (s.dev.cipher (thrFrond k)).holder = some (.task (k % 256) (t.id i))
    · have hx : s.dev.keeps (e.queued (thrFrond k) call) [.eng, .units] := (Dev.keeps.weaken hm).thenKeeps Dev.keeps_queued
      rw [Dev.placeCall_queues hen honce (by rw [hct, hid, hcu]; exact hh) (.inl (hcop ▸ hop)), hx.under_eq, Dev.cipher_queued,
        Dev.thread_queued, hcu, hclk]
      exact ⟨nofun, fun _ _ => ⟨rfl, hth⟩, fun _ hn => absurd hh hn, hx⟩
    · have hx : s.dev.keeps (e.unitDone k 2) [.eng, .units] := (Dev.keeps.weaken hm).unitDone
      rw [Dev.placeCall_unheld hen honce (by rw [hct, hid, hcu]; exact hh), hct, hkey, hx.under_eq]
      exact ⟨nofun, fun _ h => absurd h hh, fun _ _ => ⟨hdone, hun⟩, hx⟩

/-- A block call of a thread waits for room in the queue (R308). -/
theorem gives_blockFull {x : Instr} {op src : Nat} {once : Bool} {call : BlockCall} (hon : s.Awake)
    (hx : (x = .enc frond thread slot once src dst ∧ op = 0) ∨ (x = .dec frond thread slot once src dst ∧ op = 1))
    (hk : k = thrKey frond thread) (ha : s.dev.acts k 3 3 i t) (he : s.dev.enabled 0x38 = true)
    (hc : call = { thread := k % 256, id := t.id i, slot := slot % 32, op := op, once := once,
                   block := leBytes 16 ((s.dev.thread k).rv src), dst := dst % 4 })
    (hf : s.dev.unitFull (frond % 8) = true) :
    Gives x s fun d => d.cipher (frond % 8) = { s.dev.cipher (frond % 8) with
        arrivals := (s.dev.cipher (frond % 8)).arrivals ++ [call] } ∧
      d.thread k = { s.dev.thread k with wait := some .block } ∧ s.dev.keeps d [.eng, .units] := by
  subst hk
  refine gives_onLast (exec_block hx) hon ha ?_
  rw [← thrFrond_thrKey frond thread] at *
  generalize thrKey frond thread = k at *
  rw [Dev.engCall_queued (d := s.dev.groupDone k 3 3) he hf, callOf_running ha, ← hc, Dev.cipher_groupDone]
  have hth : ((s.dev.groupDone k 3 3).inCall k).thread k = { s.dev.thread k with wait := some .block } := Dev.thread_inCall
  have hm : s.dev.keeps ((s.dev.groupDone k 3 3).inCall k) [.eng, .units] := Dev.keeps_groupDone.weaken.thenKeeps Dev.keeps_inCall
  generalize (s.dev.groupDone k 3 3).inCall k = e at *
  rw [(hm.setCipher).under_eq, Dev.cipher_setCipher_same]
  exact ⟨rfl, hth, hm.setCipher⟩

end Sys2Proof.Machine

namespace Sys2Proof.Machine
open Sys2Proof
variable {s : State} {frond thread slot dst i k : Nat} {t : Task}

/-! ### Nonces of threads -/

/-- The holder's NONCE behind a block in progress (R308). -/
theorem gives_nonceQueued (hon : s.Awake) (hk : k = thrKey frond thread) (ha : s.dev.acts k 3 3 i t) (he : s.dev.enabled 0x38 = true)
    (hh : (s.dev.cipher (frond % 8)).holder = some (.task (k % 256) (t.id i))) (hf : s.dev.unitFull (frond % 8) = false)
    (hr : (s.dev.cipher (frond % 8)).arrivals = []) (hi : s.dev.unitIdle (frond % 8) = false) :
    Gives (.nonce frond thread slot false dst .clean) s fun d =>
      (∃ q : BlockCall, (d.cipher (frond % 8)).queue = (s.dev.cipher (frond % 8)).queue ++ [q] ∧ q.op = 2 ∧ q.slot = slot % 32 ∧
        q.thread = k % 256 ∧ q.id = t.id i ∧ q.dst = dst % 4 ∧ q.once = false) ∧
      d.thread k = { s.dev.thread k with wait := some .block } ∧ s.dev.keeps d [.eng, .units] := by
  subst hk
  refine gives_onLast rfl hon ha ?_
  rw [← thrFrond_thrKey frond thread] at *
  generalize thrKey frond thread = k at *
  rw [Dev.engCall_placed (d := s.dev.groupDone k 3 3) he hf hr, callOf_running ha]
  have hm : s.dev.keeps ((s.dev.groupDone k 3 3).inCall k) [.eng] := Dev.keeps_groupDone.thenKeeps Dev.keeps_inCall
  have hth : ((s.dev.groupDone k 3 3).inCall k).thread k = { s.dev.thread k with wait := some .block } := Dev.thread_inCall
  have hcu : ((s.dev.groupDone k 3 3).inCall k).cipher (thrFrond k) = s.dev.cipher (thrFrond k) := rfl
  have hen : ((s.dev.groupDone k 3 3).inCall k).enabled 0x38 = true := he
  have hidle : ((s.dev.groupDone k 3 3).inCall k).unitIdle (thrFrond k) = false := hi
  generalize (s.dev.groupDone k 3 3).inCall k = e at *
  rw [Dev.placeCall_queues hen rfl (by rw [hcu]; exact hh) (.inr hidle)]
  have hx {q : BlockCall} : s.dev.keeps (e.queued (thrFrond k) q) [.eng, .units] := (Dev.keeps.weaken hm).thenKeeps Dev.keeps_queued
  rw [hx.under_eq, Dev.cipher_queued, Dev.thread_queued, hcu]
  exact ⟨⟨_, rfl, rfl, rfl, rfl, rfl, rfl, rfl⟩, hth, hx⟩

/-- The holder's NONCE to an idle unit is served at once (R308, R316). -/
theorem gives_nonceServed {key : Guard} {p : Dev → Prop} (hon : s.Awake) (hk : k = thrKey frond thread) (ha : s.dev.acts k 3 3 i t)
    (he : s.dev.enabled 0x38 = true) (hh : (s.dev.cipher (frond % 8)).holder = some (.task (k % 256) (t.id i)))
    (hf : s.dev.unitFull (frond % 8) = false) (hr : (s.dev.cipher (frond % 8)).arrivals = []) (hi : s.dev.unitIdle (frond % 8) = true)
    (hp : ∀ (e : Dev) (q : BlockCall), s.dev.moves e [.eng, .units] [] → (∀ n, e.keySlot (frond % 8) n = s.dev.keySlot (frond % 8) n) →
      e.thread k = { s.dev.thread k with wait := some .block } → e.idOn k = q.id → thrKey (frond % 8) q.thread = k → q.slot = slot % 32 →
      q.dst = dst % 4 → q.key = key → p (s.dev.under (e.nonceServe (frond % 8) q))) :
    Gives (.nonce frond thread slot false dst key) s p := by
  subst hk
  refine gives_onLast rfl hon ha ?_
  have hkey := thrKey_again frond thread
  rw [← thrFrond_thrKey frond thread] at *
  generalize thrKey frond thread = k at *
  rw [Dev.engCall_placed (d := s.dev.groupDone k 3 3) he hf hr, callOf_running ha]
  have hm : s.dev.moves ((s.dev.groupDone k 3 3).inCall k) [.eng, .units] [] := (s.dev.still.andThen Dev.moves_groupDone).andThen Dev.moves_inCall
  have hth : ((s.dev.groupDone k 3 3).inCall k).thread k = { s.dev.thread k with wait := some .block } := Dev.thread_inCall
  have hcu : ((s.dev.groupDone k 3 3).inCall k).cipher (thrFrond k) = s.dev.cipher (thrFrond k) := rfl
  have hks {n : Nat} : ((s.dev.groupDone k 3 3).inCall k).keySlot (thrFrond k) n = s.dev.keySlot (thrFrond k) n := rfl
  have hen : ((s.dev.groupDone k 3 3).inCall k).enabled 0x38 = true := he
  have hidle : ((s.dev.groupDone k 3 3).inCall k).unitIdle (thrFrond k) = true := hi
  have hid : ((s.dev.groupDone k 3 3).inCall k).idOn k = t.id i := Dev.idOn_inCall.trans (Dev.idOn_running ha.2.1)
  generalize (s.dev.groupDone k 3 3).inCall k = e at *
  rw [Dev.placeCall_held hen rfl (by rw [hcu]; exact hh), Dev.callStart_nonce rfl (Dev.unitIdle_activeNow.trans hidle) rfl]
  refine hp _ _ (hm.andThen (e.still.setCipher (P := [.units]) (G := []))) (fun n => hks) hth hid hkey rfl rfl rfl

/-- A nonce of a slot that cannot be read (R315). -/
theorem gives_nonceBad (hon : s.Awake) (hk : k = thrKey frond thread) (ha : s.dev.acts k 3 3 i t) (he : s.dev.enabled 0x38 = true)
    (hh : (s.dev.cipher (frond % 8)).holder = some (.task (k % 256) (t.id i))) (hf : s.dev.unitFull (frond % 8) = false)
    (hr : (s.dev.cipher (frond % 8)).arrivals = []) (hi : s.dev.unitIdle (frond % 8) = true) (hs : slot < 32)
    (hcmd : (s.dev.keySlot (frond % 8) slot).cmd = none) :
    Gives (.nonce frond thread slot false dst .bad) s fun d => (d.keySlot (frond % 8) slot).fault = true ∧
      d.raised CIPH.int_KEY_FAULT = true ∧ (d.thread k).sts / 256 % 256 = 5 := by
  refine gives_nonceServed hon hk ha he hh hf hr hi fun e q hm hks hth hid hkey hslot hdst hq => ?_
  generalize frond % 8 = c at *
  rw [Nat.mod_eq_of_lt hs] at hslot
  have ht : e.takeNonce c q.slot q.key = (e.slotFaulty c slot, 5, []) := by
    rw [hq, hslot]
    exact Dev.takeNonce_bad (by rw [hks]; exact hcmd)
  have hx := Dev.nonceServe_eq ht
  rw [if_neg (by decide)] at hx
  have he5 : (e.slotFaulty c slot).eng = e.eng := Dev.eng_slotFaulty
  have hdone : (e.slotFaulty c slot).moves (e.nonceServe c q) [.draws, .frees, .eng] [0x60] := by
    rw [hx]
    exact Dev.moves_callDone
  refine ⟨?_, ?_, ?_⟩
  · change ((e.nonceServe c q).keySlot c slot).fault = true
    rw [Dev.keySlot_congr hdone.keeps_units, Dev.keySlot_slotFaulty]
  · change (e.nonceServe c q).raised CIPH.int_KEY_FAULT = true
    rw [hx]
    exact Dev.writes_callDone.raised Dev.raised_slotFaulty
  · change ((e.nonceServe c q).thread k).sts / 256 % 256 = 5
    rw [hx, ← hkey, Dev.thread_callDone_none (by rw [Dev.idOn_congr he5, hkey, hid]) (by rw [Dev.thread_congr he5, hkey, hth])]
    exact Thread.unit_setUnit _ 5

/-- What a nonce of a thread answers (R316, R317). -/
theorem gives_nonce {x : KeySlot} (hon : s.Awake) (hk : k = thrKey frond thread) (ha : s.dev.acts k 3 3 i t)
    (he : s.dev.enabled 0x38 = true) (hh : (s.dev.cipher (frond % 8)).holder = some (.task (k % 256) (t.id i)))
    (hx : x = s.dev.keySlot (frond % 8) slot) (hs : slot < 32) (hcmd : x.cmd = none) (hf : s.dev.unitFull (frond % 8) = false)
    (hr : (s.dev.cipher (frond % 8)).arrivals = []) (hi : s.dev.unitIdle (frond % 8) = true) :
    Gives (.nonce frond thread slot false dst .clean) s fun d =>
      (x.fault = false → x.valid = true → x.counter < 2 ^ 48 →
        d.keySlot (frond % 8) slot = { x with counter := x.counter + 1 } ∧
        (d.thread k).rv dst = leNat (beBytes 6 x.epoch ++ beBytes 6 x.counter ++ leBytes 1 x.gen ++ [0, 0, 0]) ∧
        (d.thread k).sts / 256 % 256 = 0 ∧ (d.thread k).wait = none) ∧
      (x.fault = false → x.valid = true → 2 ^ 48 ≤ x.counter →
        d.keySlot (frond % 8) slot = { x with exhausted := true } ∧ (d.thread k).sts / 256 % 256 = 4 ∧
        d.num CIPH.NONCE_REFUSED (frond % 8) = (s.dev.num CIPH.NONCE_REFUSED (frond % 8) + 1) % 2 ^ 32) ∧
      (x.fault = false → x.valid = false → (d.thread k).sts / 256 % 256 = 3) ∧
      (x.fault = true → (d.thread k).sts / 256 % 256 = 5) ∧ s.dev.moves d [.draws, .frees, .eng, .units] [0x38, 0x60] := by
  refine gives_nonceServed hon hk ha he hh hf hr hi fun e q hm hks hth hid hkey hslot hdst hq => ?_
  generalize frond % 8 = c at *
  rw [Nat.mod_eq_of_lt hs] at hslot
  have hxe : e.keySlot c slot = x := (hks slot).trans hx.symm
  have hall : s.dev.moves (e.nonceServe c q) [.draws, .frees, .eng, .units] [0x38, 0x60] :=
    (s.dev.still.andThen hm).andThen (Dev.moves_nonceServe hq)
  rw [hall.under_eq]
  have hserve {w : Dev} {st : Nat} {bs : List Byte} (h : e.takeNonce c slot .clean = (w, st, bs)) :
      e.nonceServe c q = w.callDone c q st (if st = 0 then some (leNat bs) else none) :=
    Dev.nonceServe_eq (by rw [hq, hslot]; exact h)
  have hfail {w : Dev} {st : Nat} (h : e.takeNonce c slot .clean = (w, st, [])) (hst : st ≠ 0) (hw : w.eng = e.eng) :
      ((e.nonceServe c q).thread k).sts / 256 % 256 = st % 256 := by
    rw [hserve h, if_neg hst, ← hkey, Dev.thread_callDone_none (by rw [Dev.idOn_congr hw, hkey, hid]) (by rw [Dev.thread_congr hw, hkey, hth])]
    exact Thread.unit_setUnit _ st
  refine ⟨fun hf hv hn => ?_, fun hf hv hn => ?_, fun hf hv => ?_, fun hf => ?_, hall⟩
  · have ht := Dev.takeNonce_given (d := e) (by rw [hxe]; exact hcmd) (by rw [hxe]; exact hf) (by rw [hxe]; exact hv) (by rw [hxe]; exact hn)
    have hw : (e.nonceTaken c slot).eng = e.eng := Dev.moves_nonceTaken.keeps_eng
    have hx := hserve ht
    rw [if_pos rfl, hxe] at hx
    have hthr : (e.nonceServe c q).thread k = Dev.resultIn ((e.nonceTaken c slot).thread k) q.dst 0 (leNat (Dev.nonceBytes x)) := by
      rw [hx, ← hkey]
      exact Dev.thread_callDone (by rw [Dev.idOn_congr hw, hkey, hid]) (by rw [Dev.thread_congr hw, hkey, hth])
    rw [hthr, Dev.wait_resultIn, Dev.unit_resultIn, hdst, ← Thread.rv_mod, Dev.rv_resultIn, Dev.nonceBytes_fits]
    refine ⟨?_, rfl, rfl, rfl⟩
    rw [hx, Dev.keySlot_congr Dev.moves_callDone.keeps_units, Dev.keySlot_nonceTaken, hxe]
  · have ht := Dev.takeNonce_spent (d := e) (by rw [hxe]; exact hcmd) (by rw [hxe]; exact hf) (by rw [hxe]; exact hv) (by rw [hxe]; exact hn)
    refine ⟨?_, hfail ht (by decide) Dev.moves_nonceSpent.keeps_eng, ?_⟩
    · rw [hserve ht, Dev.keySlot_congr Dev.moves_callDone.keeps_units, Dev.keySlot_nonceSpent, hxe]
    · rw [hserve ht, Dev.moves_callDone.num CIPH.NONCE_REFUSED c, Dev.num_nonceSpent, hm.num CIPH.NONCE_REFUSED c]
  · exact hfail (Dev.takeNonce_empty (by rw [hxe]; exact hcmd) (by rw [hxe]; exact hf) (by rw [hxe]; exact hv)) (by decide) rfl
  · exact hfail (Dev.takeNonce_fault (by rw [hxe]; exact hcmd) (by rw [hxe]; exact hf)) (by decide) rfl

end Sys2Proof.Machine

namespace Sys2Proof.Machine.Dev
open Sys2Proof
variable {d : Dev} {c path : Nat} {w : LockReq} {r : List LockReq} {q : BlockCall}

/-! ### The lock passes on -/

/-- The longest waiter's request is no longer one. -/
def unwaited (d : Dev) (c : Nat) (w : LockReq) (r : List LockReq) : Dev :=
  (d.setCipher c { d.cipher c with waiters := r }).lockWaited c w.since

theorem cipher_unwaited : (d.unwaited c w r).cipher c = { d.cipher c with waiters := r } := by
  rw [unwaited, lockWaited, cipher_congr (setNum_units _ _ _ _), cipher_setCipher_same]
theorem keeps_unwaited : d.keeps (d.unwaited c w r) [.regs, .units] := (keeps.refl d).setCipher.setNum
theorem moves_unwaited : d.moves (d.unwaited c w r) [.units] [0x38] := d.still.setCipher.setNum
theorem num_unwaited : (d.unwaited c w r).num CIPH.LOCK_WAIT c =
    min 0xFFFFFFFF (d.num CIPH.LOCK_WAIT c + d.cyclesSince c w.since) := by
  rw [unwaited, lockWaited, num_setNum_same, Nat.mod_eq_of_lt (by omega)]
  rfl

/-- The longest waiter holds the lock. -/
def passedTo (d : Dev) (c : Nat) (w : LockReq) (r : List LockReq) : Dev := (d.unwaited c w r).hold c (some w.user)

theorem cipher_passedTo : ∃ t, (d.passedTo c w r).cipher c = { d.cipher c with waiters := r, holder := some w.user, granted := t, active := t } := by
  refine ⟨(d.unwaited c w r).clk.up, ?_⟩
  rw [passedTo, cipher_hold, cipher_unwaited]
theorem keeps_passedTo : d.keeps (d.passedTo c w r) [.regs, .units] := keeps_unwaited.hold
theorem moves_passedTo : d.moves (d.passedTo c w r) [.units] [0x38] := moves_unwaited.andThen moves_hold
theorem num_passedTo : (d.passedTo c w r).num CIPH.LOCK_WAIT c =
    min 0xFFFFFFFF (d.num CIPH.LOCK_WAIT c + d.cyclesSince c w.since) := num_unwaited (d := d)
theorem thread_passedTo {k : Nat} : (d.passedTo c w r).thread k = d.thread k := rfl

theorem lockPass_task {th id : Nat} (hh : (d.cipher c).holder = none) (hw : (d.cipher c).waiters = w :: r) (hu : w.user = .task th id)
    (hc : w.call = none) : d.lockPass c = (d.passedTo c w r).unitDone (thrKey c th) 0 := by
  unfold lockPass passedTo unwaited
  dsimp only
  rw [hh, hw]
  dsimp only
  rw [hu, hc]

theorem lockPass_path {p : Nat} (hh : (d.cipher c).holder = none) (hw : (d.cipher c).waiters = w :: r) (hu : w.user = .path p)
    (hc : w.call = none) : d.lockPass c = d.passedTo c w r := by
  unfold lockPass passedTo unwaited
  dsimp only
  rw [hh, hw]
  dsimp only
  rw [hu, hc]

theorem lockPass_call (hh : (d.cipher c).holder = none) (hw : (d.cipher c).waiters = w :: r)
    (hc : w.call = some q) : d.lockPass c = (d.passedTo c w r).callStart c q := by
  unfold lockPass passedTo unwaited
  dsimp only
  rw [hh, hw]
  dsimp only
  rw [hc]
  cases w.user <;> rfl

theorem lockPass_none (h : (d.cipher c).holder.isSome = true ∨ (d.cipher c).waiters = []) : d.lockPass c = d := by
  unfold lockPass
  dsimp only
  split
  · next w r hh hw =>
    rcases h with h | h
    · rw [hh] at h
      cases h
    · rw [hw] at h
      cases h
  · rfl

theorem lockGrant_eq (h : ((d.lockPass c).cipher c).arrivals = []) : d.lockGrant c = d.lockPass c := by
  rw [lockGrant, roomMade_none h]

/-! ### Waiters that give up, and idle holders -/

theorem lockExpiry_task {th id : Nat} (hw : (d.cipher c).waiters = w :: r) (hm : d.num CIPH.LOCK_WAIT_MAX ≠ 0)
    (hl : d.num CIPH.LOCK_WAIT_MAX ≤ d.cyclesSince c w.since) (hu : w.user = .task th id) (ha : (d.cipher c).arrivals = []) :
    d.lockExpiry c = (d.unwaited c w r).unitDone (thrKey c th) 1 := by
  have hx : d.lockExpiry c = ((d.unwaited c w r).unitDone (thrKey c th) 1).roomMade c := by
    unfold lockExpiry unwaited
    dsimp only
    rw [hw]
    dsimp only
    rw [if_pos ⟨hm, hl⟩, hu]
  rw [hx, roomMade_none]
  rw [cipher_congr moves_unitDone.keeps_units, cipher_unwaited]
  exact ha

theorem lockExpiry_path {p : Nat} (hw : (d.cipher c).waiters = w :: r) (hm : d.num CIPH.LOCK_WAIT_MAX ≠ 0)
    (hl : d.num CIPH.LOCK_WAIT_MAX ≤ d.cyclesSince c w.since) (hu : w.user = .path p) : d.lockExpiry c = d.unwaited c w r := by
  unfold lockExpiry unwaited
  dsimp only
  rw [hw]
  dsimp only
  rw [if_pos ⟨hm, hl⟩, hu]

theorem lockExpiry_none (h : (d.cipher c).waiters = [] ∨ d.num CIPH.LOCK_WAIT_MAX = 0) : d.lockExpiry c = d := by
  unfold lockExpiry
  dsimp only
  split
  · next w r hw =>
    refine if_neg fun hx => ?_
    rcases h with h | h
    · rw [hw] at h
      cases h
    · exact hx.1 h
  · rfl

/-- An idle holder has lost the lock. -/
def lockLost (d : Dev) (c : Nat) : Dev :=
  ((((d.hold c none).bump CIPH.LOCK_TIMEOUTS c).raise CIPH.int_LOCK_TIMEOUT)).log (islandOfFrond c) 0x3801 c (d.lockStat c)

/-- Whether the holder's last activity is as long ago as its limit. -/
def holderLate (d : Dev) (c : Nat) : Prop :=
  (∃ th id, (d.cipher c).holder = some (.task th id) ∧ d.fld CIPH.LOCK_TO_ENG ≤ d.cyclesSince c (d.cipher c).active) ∨
    (∃ p, (d.cipher c).holder = some (.path p) ∧ d.fld CIPH.LOCK_TO_HOST * 10000 ≤ d.clk.up - (d.cipher c).active)

theorem lockTimeout_late (hb : d.holderBusy c = false) (h : d.holderLate c) : d.lockTimeout c = d.lockLost c := by
  unfold lockTimeout
  dsimp only
  rw [hb, if_pos]
  · rfl
  · rcases h with ⟨th, id, hh, hl⟩ | ⟨p, hh, hl⟩
    · rw [hh]
      simpa using hl
    · rw [hh]
      simpa using hl

theorem lockTimeout_not (h : (d.cipher c).holder = none ∨ d.holderBusy c = true) : d.lockTimeout c = d := by
  unfold lockTimeout
  dsimp only
  rw [if_neg]
  rcases h with h | h
  · rw [h]
    exact Bool.false_ne_true
  · rw [h, Bool.not_true, Bool.and_false]
    exact Bool.false_ne_true

theorem cipher_lockLost : ((d.lockLost c).cipher c).holder = none := by
  rw [lockLost, cipher_congr (log_units _ _ _ _ _ _ _), cipher_congr (raise_units _ _)]
  exact congrArg Cipher.holder cipher_hold

theorem raised_lockLost : (d.lockLost c).raised CIPH.int_LOCK_TIMEOUT = true := by
  rw [lockLost, raised_log_plain _ _ _ _ _ _ _ _ rfl]
  exact raised_raise_eq _ _ rfl

theorem num_lockLost : (d.lockLost c).num CIPH.LOCK_TIMEOUTS c = (d.num CIPH.LOCK_TIMEOUTS c + 1) % 2 ^ 32 := by
  rw [lockLost, num_log_plain _ _ _ _ _ _ _ _ _ rfl, num_raise_plain _ _ _ _ rfl, num_bump_eq]
  rfl

theorem moves_lockLost : d.moves (d.lockLost c) [.units] [0x38] := (d.still.andThen moves_hold).bump.raise.log

/-! ### A host path -/

theorem lockTake_asks (hp : path < 2) (he : d.enabled 0x38 = true) (hh : (d.cipher c).holder ≠ some (.path path))
    (hw : ∀ w ∈ (d.cipher c).waiters, w.user ≠ .path path) : d.lockTake c path = d.lockAsk c (.path path) none := by
  have ha : ((d.cipher c).waiters.any fun w => w.user = User.path path) = false := by simpa using hw
  unfold lockTake
  rw [Nat.mod_eq_of_lt hp]
  dsimp only
  rw [he, ha, decide_eq_false hh]
  rfl

theorem lockTake_not (hp : path < 2) (h : d.enabled 0x38 = false ∨ (d.cipher c).holder = some (.path path)) : d.lockTake c path = d := by
  unfold lockTake
  rw [Nat.mod_eq_of_lt hp]
  dsimp only
  refine if_pos ?_
  rcases h with h | h
  · rw [h]
    rfl
  · rw [decide_eq_true h, Bool.or_true, Bool.true_or]

theorem lockFree_held (hp : path < 2) (h : (d.cipher c).holder = some (.path path)) : d.lockFree c path = d.hold c none := by
  rw [lockFree, Nat.mod_eq_of_lt hp, if_pos h]

theorem lockFree_unheld (hp : path < 2) (h : (d.cipher c).holder ≠ some (.path path)) : d.lockFree c path = d := by
  rw [lockFree, Nat.mod_eq_of_lt hp, if_neg h]

end Sys2Proof.Machine.Dev

namespace Sys2Proof.Machine
open Sys2Proof
variable {s : State} {c : Nat} {w : LockReq} {r : List LockReq} {call : BlockCall}

/-- The free lock passes to one who asked for nothing more (R310). -/
theorem gives_grant (hon : s.Awake) (hc : c < 8) (hh : (s.dev.cipher c).holder = none) (hw : (s.dev.cipher c).waiters = w :: r)
    (hn : w.call = none) (ha : (s.dev.cipher c).arrivals = []) :
    Gives (.lockGrant c) s fun d => (d.cipher c).holder = some w.user ∧ (d.cipher c).waiters = r ∧
      d.num CIPH.LOCK_WAIT c = min 0xFFFFFFFF (s.dev.num CIPH.LOCK_WAIT c + s.dev.cyclesSince c w.since) ∧
      (∀ th id, w.user = .task th id → d.thread (thrKey c th) = { (s.dev.thread (thrKey c th)).setUnit 0 with wait := none }) ∧
      s.dev.keeps d [.regs, .eng, .units] := by
  refine gives_run rfl hon ?_
  obtain ⟨t, hcw⟩ := Dev.cipher_passedTo (d := s.dev) (c := c) (w := w) (r := r)
  rw [Nat.mod_eq_of_lt hc]
  cases hu : w.user with
  | task th id =>
    have hm : s.dev.keeps ((s.dev.passedTo c w r).unitDone (thrKey c th) 0) [.regs, .eng, .units] := (Dev.keeps_passedTo.weaken).unitDone
    have hx := Dev.lockPass_task hh hw hu hn
    have hcx : ((s.dev.passedTo c w r).unitDone (thrKey c th) 0).cipher c = (s.dev.passedTo c w r).cipher c := rfl
    have hnum := (Dev.moves_unitDone (d := s.dev.passedTo c w r) (k := thrKey c th) (st := 0)).num CIPH.LOCK_WAIT c
    rw [hu] at hcw
    rw [Dev.lockGrant_eq (by rw [hx, hcx, hcw]; exact ha), hx, hm.under_eq, hcx, hcw, hnum, Dev.num_passedTo]
    refine ⟨rfl, rfl, rfl, fun th' id' he => ?_, hm⟩
    obtain ⟨rfl, -⟩ := User.task.inj he
    exact Dev.thread_unitDone _ _ _
  | path p =>
    have hm : s.dev.keeps (s.dev.passedTo c w r) [.regs, .eng, .units] := Dev.keeps_passedTo.weaken
    have hx := Dev.lockPass_path hh hw hu hn
    rw [hu] at hcw
    rw [Dev.lockGrant_eq (by rw [hx, hcw]; exact ha), hx, hm.under_eq, hcw, Dev.num_passedTo]
    exact ⟨rfl, rfl, rfl, nofun, hm⟩

/-- The free lock passes to a ONCE call, whose block joins the queue (R309, R310). -/
theorem gives_grantCall (hon : s.Awake) (hc : c < 8) (hh : (s.dev.cipher c).holder = none) (hw : (s.dev.cipher c).waiters = w :: r)
    (hn : w.call = some call) (hop : call.op ≠ 2) (ha : (s.dev.cipher c).arrivals = []) :
    Gives (.lockGrant c) s fun d => (d.cipher c).holder = some w.user ∧ (d.cipher c).waiters = r ∧
      (d.cipher c).queue = (s.dev.cipher c).queue ++ [call] ∧ s.dev.keeps d [.regs, .units] := by
  refine gives_run rfl hon ?_
  obtain ⟨t, hcw⟩ := Dev.cipher_passedTo (d := s.dev) (c := c) (w := w) (r := r)
  have hx := Dev.lockPass_call hh hw hn
  rw [Dev.callStart_queues (.inl hop)] at hx
  have hm : s.dev.keeps (s.dev.lockPass c) [.regs, .units] := by
    rw [hx]
    exact Dev.keeps_passedTo.setCipher
  have hcx : (s.dev.lockPass c).cipher c = { (s.dev.passedTo c w r).cipher c with queue := ((s.dev.passedTo c w r).cipher c).queue ++ [call] } := by
    rw [hx, Dev.cipher_setCipher_same]
  rw [hcw] at hcx
  rw [Nat.mod_eq_of_lt hc, Dev.lockGrant_eq (by rw [hcx]; exact ha), hm.under_eq, hcx]
  exact ⟨rfl, rfl, rfl, hm⟩

/-- The free lock passes to a ONCE nonce, which is served and frees it (R309, R316). -/
theorem gives_grantNonce (hon : s.Awake) (hc : c < 8) (hh : (s.dev.cipher c).holder = none) (hw : (s.dev.cipher c).waiters = w :: r)
    (hn : w.call = some call) (hop : call.op = 2) (ho : call.once = true) (hu : w.user = .task call.thread call.id) (hk : call.key = .clean)
    (hi : s.dev.unitIdle c = true) (ha : (s.dev.cipher c).arrivals = []) :
    Gives (.lockGrant c) s fun d => (d.cipher c).holder = none ∧ (d.cipher c).waiters = r ∧
      s.dev.moves d [.draws, .frees, .eng, .units] [0x38, 0x60] := by
  refine gives_run rfl hon ?_
  obtain ⟨t, hcw⟩ := Dev.cipher_passedTo (d := s.dev) (c := c) (w := w) (r := r)
  have hidle : (s.dev.passedTo c w r).unitIdle c = true := by
    rw [Dev.unitIdle, hcw]
    exact hi
  have hx := Dev.lockPass_call hh hw hn
  rw [Dev.callStart_nonce_once hop hidle ho (by rw [Dev.cipher_nonceServe hk, hcw, ← hu])] at hx
  have hm : s.dev.moves (s.dev.lockPass c) [.draws, .frees, .eng, .units] [0x38, 0x60] := by
    rw [hx]
    exact ((s.dev.still.andThen Dev.moves_passedTo).andThen (Dev.moves_nonceServe hk)).andThen Dev.moves_hold
  have hcx : ∃ u, (s.dev.lockPass c).cipher c = { (s.dev.passedTo c w r).cipher c with holder := none, granted := u, active := u } := by
    refine ⟨((s.dev.passedTo c w r).nonceServe c call).clk.up, ?_⟩
    rw [hx, Dev.cipher_hold, Dev.cipher_nonceServe hk]
  obtain ⟨u, hcx⟩ := hcx
  rw [hcw] at hcx
  rw [Nat.mod_eq_of_lt hc, Dev.lockGrant_eq (by rw [hcx]; exact ha), hm.under_eq, hcx]
  exact ⟨rfl, rfl, hm⟩

/-- The longest waiter gives up (R310). -/
theorem gives_waitExpiry (hon : s.Awake) (hc : c < 8) (hw : (s.dev.cipher c).waiters = w :: r) (hmax : s.dev.num CIPH.LOCK_WAIT_MAX ≠ 0)
    (hl : s.dev.num CIPH.LOCK_WAIT_MAX ≤ s.dev.cyclesSince c w.since) (ha : (s.dev.cipher c).arrivals = []) :
    Gives (.lockWaitExpiry c) s fun d => (d.cipher c).waiters = r ∧ (d.cipher c).holder = (s.dev.cipher c).holder ∧
      (∀ th id, w.user = .task th id → d.thread (thrKey c th) = { (s.dev.thread (thrKey c th)).setUnit 1 with wait := none }) ∧
      s.dev.keeps d [.regs, .eng, .units] := by
  refine gives_run rfl hon ?_
  have hcw := Dev.cipher_unwaited (d := s.dev) (c := c) (w := w) (r := r)
  rw [Nat.mod_eq_of_lt hc]
  cases hu : w.user with
  | task th id =>
    have hm : s.dev.keeps ((s.dev.unwaited c w r).unitDone (thrKey c th) 1) [.regs, .eng, .units] := (Dev.keeps_unwaited.weaken).unitDone
    have hcx : ((s.dev.unwaited c w r).unitDone (thrKey c th) 1).cipher c = (s.dev.unwaited c w r).cipher c := rfl
    rw [Dev.lockExpiry_task hw hmax hl hu ha, hm.under_eq, hcx, hcw]
    refine ⟨rfl, rfl, fun th' id' he => ?_, hm⟩
    obtain ⟨rfl, -⟩ := User.task.inj he
    exact Dev.thread_unitDone _ _ _
  | path p =>
    have hm : s.dev.keeps (s.dev.unwaited c w r) [.regs, .eng, .units] := Dev.keeps_unwaited.weaken
    rw [Dev.lockExpiry_path hw hmax hl hu, hm.under_eq, hcw]
    exact ⟨rfl, rfl, nofun, hm⟩

end Sys2Proof.Machine

open Sys2Proof Sys2Proof.Machine

/-- Settles O40. -/
theorem cipherLockAndCalls : Obligations.CipherLockAndCalls := by
  unfold Obligations.CipherLockAndCalls
  refine ⟨fun s frond thread i k t hon hk ha => gives_lock hon hk ha,
    fun s c frond thread slot op src dst i k t once call hon hx hk ha he hc hf hr => gives_block hon hx hk ha he hc hf hr,
    fun s c frond thread slot op src dst i k t once call hon hx hk ha he hc hf => gives_blockFull hon hx hk ha he hc hf,
    fun s frond thread slot dst i k t hon hk ha he hh hf hr hi => gives_nonceQueued hon hk ha he hh hf hr hi,
    fun s frond thread slot dst i k t hon hk ha he hh hf hr hi hs hcmd => gives_nonceBad hon hk ha he hh hf hr hi hs hcmd,
    fun s frond thread slot dst i k t x hon hk ha he hh hx hs hcmd hf hr hi => gives_nonce hon hk ha he hh hx hs hcmd hf hr hi,
    fun s frond thread i k t hon hk ha he => gives_free hon hk ha he, fun s c frond thread n m p b g hc hon hi => ?idle,
    fun s c w r hon hc hh hw hn ha => gives_grant hon hc hh hw hn ha,
    fun s c w r call hon hc hh hw hn hop ha => gives_grantCall hon hc hh hw hn hop ha,
    fun s c w r call hon hc hh hw hn hop ho hu hk hi ha => gives_grantNonce hon hc hh hw hn hop ho hu hk hi ha,
    fun s c hon hc h ha => ?grantNot, fun s c w r hon hc hw hmax hl ha => gives_waitExpiry hon hc hw hmax hl ha,
    fun s c hon hc h => ?expiryNot, fun s c hon hc hb h => ?timeout, fun s c hon hc h => ?timeoutNot,
    fun s c path ho hc hp he hh hw => ?take, fun s c path ho hc hp h => ?takeNot, fun s c path ho hc hp h => ?release,
    fun s c path ho hc hp h => ?releaseNot⟩
  case idle =>
    rcases hc with rfl | rfl | rfl | rfl | rfl
    · exact idle_onLast rfl hi
    · exact idle_onLast rfl hi
    · exact idle_onLast rfl hi
    · exact idle_onLast rfl hi
    · exact idle_onLast rfl hi
  case grantNot =>
    refine idle_runSelf rfl ?_
    have hx := Dev.lockPass_none h
    rw [Nat.mod_eq_of_lt hc, Dev.lockGrant_eq (by rw [hx]; exact ha), hx]
  case expiryNot =>
    refine idle_runSelf rfl ?_
    rw [Nat.mod_eq_of_lt hc, Dev.lockExpiry_none h]
  case timeout =>
    refine gives_run rfl hon ?_
    rw [Nat.mod_eq_of_lt hc, Dev.lockTimeout_late hb h, Dev.moves_lockLost.under_eq]
    exact ⟨Dev.cipher_lockLost, Dev.raised_lockLost, Dev.num_lockLost, Dev.moves_lockLost⟩
  case timeoutNot =>
    refine idle_runSelf rfl ?_
    rw [Nat.mod_eq_of_lt hc, Dev.lockTimeout_not h]
  case take =>
    refine gives_access rfl ho ?_
    have hm : s.dev.keeps (s.dev.lockAsk c (.path path) none) [.units] := (Dev.keeps.refl _).lockAsk
    rw [Nat.mod_eq_of_lt hc, Dev.lockTake_asks hp he hh hw, hm.under_eq]
    exact ⟨Dev.cipher_lockAsk, hm⟩
  case takeNot =>
    refine idle_access rfl ho.2 ?_
    rw [Nat.mod_eq_of_lt hc, Dev.lockTake_not hp h]
  case release =>
    refine gives_access rfl ho ?_
    have hm : s.dev.keeps (s.dev.hold c none) [.units] := (Dev.keeps.refl _).hold
    rw [Nat.mod_eq_of_lt hc, Dev.lockFree_held hp h, hm.under_eq, Dev.cipher_hold]
    exact ⟨rfl, rfl, hm⟩
  case releaseNot =>
    refine idle_access rfl ho.2 ?_
    rw [Nat.mod_eq_of_lt hc, Dev.lockFree_unheld hp h]

end

section
set_option Elab.async false
/-! Which registers the egress side of the switch core writes outside the pages of its buffers, queues and ports: those in which pause
and the blocks of a retired channel show. -/

namespace Sys2Proof.Machine
open Sys2Proof

/-- The pages that queues, holds and the ends of copies write to as they please. -/
abbrev egressPages : List Nat := [0x40, 0x41, 0x48, 0x60, 0x70]

/-- The registers outside them that they write. -/
abbrev pauseRegs : List Reg := [PORT.PORT_STAT, TNDM.LINK_STAT, MEMC.RET_BLOCKS]

namespace Dev
variable {d d0 e : Dev}

theorem writes.set_sw {G : List Nat} {R : List Reg} {x : Switch} (h : d0.writes d G R) : d0.writes { d with sw := x } G R := h.of_regs rfl
theorem writes.set_tandem {G : List Nat} {R : List Reg} {x : TandemSt} (h : d0.writes d G R) : d0.writes { d with tandem := x } G R := h.of_regs rfl
theorem writes.foldlFst {α β : Type} {f : Dev × β → α → Dev × β} {l : List α} {G : List Nat} {R : List Reg} {b : β} (h : d0.writes d G R)
    (hf : ∀ {x : Dev} {b : β} {a : α}, d0.writes x G R → d0.writes (f (x, b) a).1 G R) : d0.writes (l.foldl f (d, b)).1 G R := by
  induction l generalizing d b with
  | nil => exact h
  | cons a l ih => exact ih (hf h)

/-! ### Copies on their way into queues -/

theorem writes_crossed {i st who w : Nat} {tag : Option Nat} : d.writes (d.crossed i st tag who w) [0x60] [] := by
  unfold crossed crossedAt
  split
  · exact d.untouched.iteSelf fun h => h.trans writes_sampleStage
  · exact d.untouched

theorem writes_enqueue {q : Nat} {c : Copy} : d.writes (d.enqueue q c) egressPages [] := by
  unfold enqueue
  exact (((d.untouched.perf.andThen writes_crossed).set_sw).set_sw).setNum

theorem writes_orphan {c : Copy} : d.writes (d.orphan c) egressPages [] := writes_enqueue.bump.raise

theorem writes_disc {k n : Nat} : d.writes (d.disc k n) [0x41] [] := d.untouched.bump (r := SWCR.DISC.ix k)

theorem writes_offerCopy {k cls port : Nat} {f : Frame} {u : Bool} : d.writes (d.offerCopy k f cls u port).1 egressPages [] := by
  unfold offerCopy
  split
  · exact (d.untouched.andThen writes_disc).bump
  · dsimp only
    generalize (if u = true then f.sub else d.fld (TMGR.EGR_MAP_DEF_SUB.ix port)) = sub
    split
    · exact writes_enqueue
    · exact writes_orphan

theorem writes_updFrame {k : Nat} {f : Frame → Frame} : d.writes (d.updFrame k f) [] [] := by
  unfold updFrame
  split
  · exact writes_setFrame
  · exact d.untouched

theorem writes_replicate {k : Nat} {f : Frame} : d.writes (d.replicate k f) egressPages pauseRegs := by
  unfold replicate
  dsimp only
  generalize hx : List.foldl _ _ _ = x
  have h : d.writes x.1 egressPages pauseRegs := by
    rw [← hx]
    exact Dev.writes.foldlFst (d.untouched.andThen writes_setFrame) fun h => h.andThen writes_offerCopy
  exact (h.andThen writes_releaseFrame).ite (h.andThen writes_updFrame)

theorem writes_drainTm {n : Nat} : d.writes (Dev.drainTm n d) egressPages pauseRegs := by
  induction n generalizing d with
  | zero => unfold drainTm; exact d.untouched
  | succ n ih =>
    unfold drainTm
    split
    · exact d.untouched
    · exact d.untouched
    next hn _ =>
      obtain rfl := Nat.succ.inj hn
      split
      · exact d.untouched.set_sw.trans ih
      · exact ((d.untouched.set_sw.trans writes_replicate).trans ih).ite d.untouched

theorem writes_drainAll : d.writes d.drainAll egressPages pauseRegs := by
  unfold drainAll
  exact d.untouched.ite ((d.untouched.set_sw.setNum).trans writes_drainTm)

/-! ### Holds -/

theorem writes_flushCopy {c : Copy} : d.writes (d.flushCopy c) egressPages pauseRegs :=
  (((d.untouched.andThen writes_disc).bump).raise).andThen writes_finishCopy

theorem writes_flushWhere {p : Copy → Bool} : d.writes (d.flushWhere p) egressPages pauseRegs := by
  unfold flushWhere dropCopies
  exact (((d.untouched.set_sw.setNum).foldl fun h => h.trans writes_flushCopy)).trans writes_drainAll

theorem writes_holdBegin {port : Nat} {pri : Option Nat} : d.writes (d.holdBegin port pri) egressPages pauseRegs := by
  unfold holdBegin
  dsimp only
  generalize hx : List.foldl rehold _ _ = x
  have h : d.writes x egressPages pauseRegs := by
    rw [← hx]
    exact (((d.untouched.andThen writes_setStaged).foldl fun h => h.set_sw.setNum).set_sw).foldl fun h => h.andThen writes_rehold
  exact ((h.trans writes_flushWhere).andThen writes_evalAll).ite (((h.ite h.raise).set_sw).andThen writes_evalAll)

theorem writes_holdFlush {port : Nat} {pri : Option Nat} : d.writes (d.holdFlush port pri) egressPages pauseRegs := by
  unfold holdFlush
  split
  · exact d.untouched
  · exact d.untouched.set_sw.trans writes_flushWhere

theorem writes_holdRelease {port : Nat} {pri : Option Nat} : d.writes (d.holdRelease port pri) egressPages pauseRegs := by
  unfold holdRelease
  split
  · exact d.untouched
  · exact writes_holdFlush.ite
      ((((d.untouched.set_sw.trans writes_flushWhere).set_sw.bump).foldl fun h => h.andThen writes_rehold).andThen writes_evalAll)

theorem writes_cutTx {port : Nat} : d.writes (d.cutTx port) egressPages pauseRegs := by
  unfold cutTx
  split
  · exact d.untouched
  · exact ((((d.untouched.andThen writes_setStaged).andThen writes_disc).bump).andThen writes_stat).andThen writes_finishCopy

theorem writes_egressDown {port : Nat} {now : Bool} : d.writes (d.egressDown port now) egressPages pauseRegs := by
  unfold egressDown
  have h : d.writes ((((d.cutTx port).each 8 fun d p => d.setHold port (some p) none).holdBegin port none).pruneDeficits port)
      egressPages pauseRegs := (((writes_cutTx).each fun h => h.set_sw).trans writes_holdBegin).of_regs regs_pruneDeficits
  exact ((h.trans writes_holdFlush).andThen writes_evalAll).ite h

theorem writes_carry {port : Nat} : d.writes (d.carry port) egressPages pauseRegs := writes_holdRelease.andThen writes_sendXoff

end Dev
end Sys2Proof.Machine
end

section
set_option Elab.async false
/-! Heartbeats, agreement and the hash keys of tandem operation (R409, R410, R412, R413). -/

namespace Sys2Proof.Machine.Dev
open Sys2Proof
variable {d e : Dev} {new r : Nat} {x : Fld} {bs : List Byte}

/-! ### Messages that leave -/

theorem writes_tandemSend : d.writes (d.tandemSend bs) [] [] := d.untouched.emit.andThen writes_statGood

theorem writes_replSend {n : Nat} : d.writes (Dev.replSend n d) [] [TNDM.CNT.ix 0] := by
  induction n generalizing d with
  | zero => exact d.untouched
  | succ n ih =>
    unfold replSend
    exact d.untouched.ite (((d.untouched.set_tandem.bump).andThen writes_tandemSend).trans ih)

theorem writes_replFlush : d.writes d.replFlush [] [TNDM.CNT.ix 0] := writes_replSend

/-- Of tandem operation only the queue changes as its messages leave. -/
theorem tandem_replSend {n : Nat} : ∃ q, (Dev.replSend n d).tandem = { d.tandem with queue := q } := by
  induction n generalizing d with
  | zero => exact ⟨_, rfl⟩
  | succ n ih =>
    unfold replSend
    dsimp only
    split
    · exact ⟨_, rfl⟩
    · generalize hx : tandemSend _ _ = y
      obtain ⟨q, hq⟩ := ih (d := y)
      have hy : y.tandem = { d.tandem with queue := d.tandem.queue.drop (max 1 (packed 1481 d.tandem.queue)) } := by
        rw [← hx, moves_tandemSend.keeps_tandem]
        rfl
      rw [hq, hy]
      exact ⟨q, rfl⟩

theorem tandem_replFlush : ∃ q, d.replFlush.tandem = { d.tandem with queue := q } := tandem_replSend

/-! ### The sweep of a resync -/

/-- A field of STATE that neither the journal nor the peer's trust touches. -/
def ofState (x : Fld) : Bool :=
  x.beside TNDM.STATE_JOURNALING && x.beside TNDM.STATE_JOURNAL_FULL && x.beside TNDM.STATE_PEER_UNTRUSTED

theorem ofState_iff : ofState x = true ↔
    x.beside TNDM.STATE_JOURNALING = true ∧ x.beside TNDM.STATE_JOURNAL_FULL = true ∧ x.beside TNDM.STATE_PEER_UNTRUSTED = true := by
  rw [ofState, Bool.and_eq_true, Bool.and_eq_true, and_assoc]

theorem reg_ofState (h : ofState x = true) : x.reg = TNDM.STATE := by
  have h := ((ofState_iff).mp h).1
  simp only [Fld.beside, Bool.and_eq_true, beq_iff_eq] at h
  exact h.1.1

theorem fld_resyncEnded (h : ofState x = true) : d.resyncEnded.fld x = d.fld x := by
  obtain ⟨hj, hf, -⟩ := ofState_iff.mp h
  have hr := reg_ofState h
  unfold resyncEnded
  rw [fld_setFld_beside _ _ _ _ _ hf, fld_setFld_beside _ _ _ _ _ hj]
  change ((d.endOp TNDM.RESYNC_STAT 0 2 (d.altMask / 16)).raise TNDM.int_RESYNC_DONE).fld x = _
  rw [fld_raise_plain _ _ _ _ (by rw [hr]; rfl), endOp, fld_opEnd_plain _ _ _ _ _ _ (by rw [hr]; rfl), fld_setNum_apart _ _ _ _ _ _ (by rw [hr]; rfl)]

theorem fld_abortOp_same {rs : Reg} (hr : x.reg.apart rs = true) (hp : x.reg.plain = true) : (d.abortOp rs 0 id).fld x = d.fld x := by
  unfold abortOp
  split
  · exact (fld_opEnd_plain _ _ _ _ _ _ hp).trans (fld_setNum_apart _ _ _ _ _ _ hr)
  · split
    · exact fld_setNum_apart _ _ _ _ _ _ hr
    · rfl

theorem fld_resyncCut (h : ofState x = true) : d.resyncCut.fld x = d.fld x := by
  have hr := reg_ofState h
  unfold resyncCut
  split
  · exact fld_resyncEnded h
  · split
    · exact fld_abortOp_same (by rw [hr]; rfl) (by rw [hr]; rfl)
    · rfl

theorem moves_resyncEnded : d.moves d.resyncEnded [.tandem] [0x58] := (d.still.endOp.raise).set_tandem.setFld.setFld

theorem moves_resyncCut : d.moves d.resyncCut [.tandem] [0x58] := by
  unfold resyncCut
  exact moves_resyncEnded.ite ((d.still.abortOp fun h => h).ite d.still)

/-- What tandem operation keeps of what it heard last. -/
def heard (t : TandemSt) : Option (Nat × Nat) × Nat × Nat × Nat × List Byte := (t.echo, t.peerOcc, t.ownOcc, t.check, t.linkKey)

theorem heard_resyncCut : heard d.resyncCut.tandem = heard d.tandem := by
  unfold resyncCut
  split
  · unfold resyncEnded
    rw [setFld_tandem, setFld_tandem]
    change heard { ((d.endOp TNDM.RESYNC_STAT 0 2 (d.altMask / 16)).raise TNDM.int_RESYNC_DONE).tandem with journal := [], aged := [] } = _
    rw [raise_tandem, endOp, opEnd_tandem, setNum_tandem]
    rfl
  · split
    · exact congrArg heard ((d.still.abortOp fun h => h : d.moves (d.abortOp TNDM.RESYNC_STAT 0 id) [] [0x58])).keeps_tandem
    · rfl

theorem writes_resyncCut : d.writes d.resyncCut [] [TNDM.STATE, TNDM.RESYNC_STAT] := by
  have habort : d.writes (d.abortOp TNDM.RESYNC_STAT 0 id) [] [TNDM.STATE, TNDM.RESYNC_STAT] := by
    unfold abortOp
    exact (d.untouched.setNum).opEnd.ite (d.untouched.setNum.ite d.untouched)
  unfold resyncCut resyncEnded endOp
  exact ((d.untouched.setNum).opEnd.raise.set_tandem.setFld.setFld).ite (habort.ite d.untouched)

/-! ### Transitions (R412) -/

theorem moves_tandemLeave : d.moves (d.tandemLeave new) [.sw, .tandem] corePages := by
  unfold tandemLeave
  have h : d.moves (d.resyncCut.setTandem { d.resyncCut.tandem with queue := [], queries := [] }) [.sw, .tandem] corePages :=
    (d.still.andThen moves_resyncCut).set_tandem
  exact (h.andThen moves_egressDown).ite h

theorem writes_tandemLeave : d.writes (d.tandemLeave new) egressPages (TNDM.STATE :: TNDM.RESYNC_STAT :: pauseRegs) := by
  unfold tandemLeave
  have h : d.writes (d.resyncCut.setTandem { d.resyncCut.tandem with queue := [], queries := [] }) egressPages
      (TNDM.STATE :: TNDM.RESYNC_STAT :: pauseRegs) := (d.untouched.andThen writes_resyncCut).set_tandem
  exact (h.andThen writes_egressDown).ite h

theorem tandem_tandemLeave : (d.tandemLeave new).tandem = { d.resyncCut.tandem with queue := [], queries := [] } := by
  unfold tandemLeave
  dsimp only
  split
  · rw [moves_egressDown.keeps_tandem]
    rfl
  · rfl

theorem fld_of_writes {G : List Nat} {R : List Reg} (h : d.writes e G R) (hx : x.reg.plain = true) (hg : G.contains x.reg.page = false)
    (hr : (R.all fun r => x.reg.apart r) = true) : e.fld x = d.fld x := by
  rw [fld, h.num x.reg 0 hx hg hr, fld]

theorem fld_tandemLeave (h : ofState x = true) : (d.tandemLeave new).fld x = d.fld x := by
  have hr := reg_ofState h
  unfold tandemLeave
  dsimp only
  split
  · rw [fld_of_writes (G := egressPages) (R := pauseRegs) writes_egressDown (by rw [hr]; rfl) (by rw [hr]; rfl) (by rw [hr]; rfl)]
    exact fld_resyncCut h
  · exact fld_resyncCut h

/-- The state and the reason of a transition. -/
def stateSet (d : Dev) (new r : Nat) : Dev :=
  if new = 6 ∨ new = 1 then (d.setFld TNDM.STATE_STATE new).setFld TNDM.STATE_REASON r else d.setFld TNDM.STATE_STATE new

/-- No heartbeat counts as agreeing. -/
def disagreed (d : Dev) : Dev := d.setTandem { d.tandem with agree := 0 }

/-- The device as a transition begins. -/
def tandemSet (d : Dev) (new r : Nat) : Dev :=
  if d.tState = 5 then (d.stateSet new r).disagreed.setFld TNDM.STATE_JOURNALING 1 else (d.stateSet new r).disagreed

theorem moves_tandemSet : d.moves (d.tandemSet new r) [.tandem] [0x58] := by
  unfold tandemSet stateSet
  have h := (d.still (P := [.tandem]) (G := [0x58])).setFld (x := TNDM.STATE_STATE) (v := new) (c := 0)
  have hx := (h.setFld (x := TNDM.STATE_REASON) (v := r) (c := 0)).ite (c := new = 6 ∨ new = 1) h
  exact (hx.set_tandem.setFld).ite hx.set_tandem

theorem writes_tandemSet : d.writes (d.tandemSet new r) [] [TNDM.STATE] := by
  unfold tandemSet stateSet
  have h := (d.untouched (G := []) (R := [TNDM.STATE])).setFld (x := TNDM.STATE_STATE) (v := new) (c := 0)
  have hx := (h.setFld (x := TNDM.STATE_REASON) (v := r) (c := 0)).ite (c := new = 6 ∨ new = 1) h
  exact (hx.set_tandem.setFld).ite hx.set_tandem

theorem tandem_stateSet : (d.stateSet new r).tandem = d.tandem := by
  unfold stateSet
  split <;> rfl

theorem tandem_tandemSet : (d.tandemSet new r).tandem = { d.tandem with agree := 0 } := by
  unfold tandemSet
  split
  · rw [setFld_tandem]
    change { (d.stateSet new r).tandem with agree := 0 } = _
    rw [tandem_stateSet]
  · change { (d.stateSet new r).tandem with agree := 0 } = _
    rw [tandem_stateSet]

theorem tState_stateSet (h : new < 8) : (d.stateSet new r).tState = new := by
  have hs : (d.setFld TNDM.STATE_STATE new).fld TNDM.STATE_STATE = new := by
    rw [fld_setFld_eq _ _ _ _ rfl]
    exact Nat.mod_eq_of_lt h
  unfold stateSet tState
  split
  · rw [fld_setFld_beside _ _ _ _ _ rfl, hs]
  · exact hs

/-- What a transition sets it leaves set as the agreement ends. -/
theorem fld_tandemSet (h : x.beside TNDM.STATE_JOURNALING = true) : (d.tandemSet new r).fld x = (d.stateSet new r).fld x := by
  unfold tandemSet
  split
  · exact fld_setFld_beside _ _ _ _ _ h
  · rfl

theorem tState_tandemSet (h : new < 8) : (d.tandemSet new r).tState = new := by
  rw [tState, fld_tandemSet rfl]
  exact tState_stateSet h

theorem reason_tandemSet (h : r < 16) : (d.tandemSet 6 r).fld TNDM.STATE_REASON = r := by
  rw [fld_tandemSet rfl, stateSet, if_pos (.inl rfl), fld_setFld_eq _ _ _ _ rfl]
  exact Nat.mod_eq_of_lt h

theorem aloneBit_plain {b : IntBit} (h : aloneBit r = some b) : b.plain = true ∧ decide (b.pos < 32) = true := by
  unfold aloneBit at h
  split at h <;> cases h <;> exact ⟨rfl, rfl⟩

/-- ALONE is reported, and the reason where it has a bit. -/
def aloneRaised (d : Dev) (r : Nat) : Dev :=
  match aloneBit r with
  | some b => ((d.bump (TNDM.CNT.ix 5)).raise TNDM.int_ALONE).raise b
  | none => (d.bump (TNDM.CNT.ix 5)).raise TNDM.int_ALONE

/-- The module is ALONE for a reason. -/
def madeAlone (d : Dev) (r : Nat) : Dev :=
  if r = 3 then (d.aloneRaised r).setFld TNDM.STATE_PEER_UNTRUSTED 1 else d.aloneRaised r

theorem moves_madeAlone : d.moves (d.madeAlone r) [] [0x58] := by
  have h : d.moves (d.aloneRaised r) [] [0x58] := by
    unfold aloneRaised
    split
    · exact d.still.bump.raise.raise
    · exact d.still.bump.raise
  unfold madeAlone
  exact h.setFld.ite h

theorem writes_madeAlone : d.writes (d.madeAlone r) [] [TNDM.STATE, TNDM.CNT.ix 5] := by
  have h : d.writes (d.aloneRaised r) [] [TNDM.STATE, TNDM.CNT.ix 5] := by
    unfold aloneRaised
    split
    · next b hb => exact d.untouched.bump.raise.raise (aloneBit_plain hb).2
    · exact d.untouched.bump.raise
  unfold madeAlone
  exact h.setFld.ite h

theorem fld_madeAlone (h : ofState x = true) : (d.madeAlone r).fld x = d.fld x := by
  have hr := reg_ofState h
  have hp : x.reg.plain = true := by rw [hr]; rfl
  have hc : ((d.bump (TNDM.CNT.ix 5)).raise TNDM.int_ALONE).fld x = d.fld x := by
    rw [fld_raise_plain _ _ _ _ hp, fld_bump_apart _ _ _ _ _ _ (by rw [hr]; rfl)]
  have ha : (d.aloneRaised r).fld x = d.fld x := by
    unfold aloneRaised
    split
    · rw [fld_raise_plain _ _ _ _ hp, hc]
    · exact hc
  unfold madeAlone
  split
  · rw [fld_setFld_beside _ _ _ _ _ (ofState_iff.mp h).2.2, ha]
  · exact ha

theorem raised_aloneRaised {b : IntBit} (hb : b = TNDM.int_ALONE ∨ aloneBit r = some b) : (d.aloneRaised r).raised b = true := by
  have hplain : b.plain = true := by
    rcases hb with rfl | hb
    · rfl
    · exact (aloneBit_plain hb).1
  unfold aloneRaised
  split
  · next a ha =>
    rw [raised_raise_of _ _ _ hplain (aloneBit_plain ha).2]
    rcases hb with rfl | hb
    · rw [raised_raise_eq _ _ rfl, Bool.or_true]
    · rw [Option.some.inj (ha.symm.trans hb), decide_eq_true rfl, Bool.true_or]
  · next ha =>
    rcases hb with rfl | hb
    · exact raised_raise_eq _ _ rfl
    · rw [ha] at hb
      cases hb

theorem raised_madeAlone {b : IntBit} (hb : b = TNDM.int_ALONE ∨ aloneBit r = some b) : (d.madeAlone r).raised b = true := by
  unfold madeAlone
  split
  · exact (raised_setFld_plain _ _ _ _ _ rfl).trans (raised_aloneRaised hb)
  · exact raised_aloneRaised hb

/-- A sweep begins. -/
def resyncBegun (d : Dev) (was : Bool) : Dev :=
  let e := (d.setFld TNDM.STATE_PEER_UNTRUSTED 0).startOp TNDM.RESYNC_STAT
  let e := e.setTandem { e.tandem with cursor := 0, half := false, asked := false }
  if e.portState 33 = 5 && !was then e.carry 33 else e

theorem moves_resyncBegun {was : Bool} : d.moves (d.resyncBegun was) [.sw, .tandem] corePages := by
  unfold resyncBegun
  have h : d.moves (((d.setFld TNDM.STATE_PEER_UNTRUSTED 0).startOp TNDM.RESYNC_STAT).setTandem
    { d.tandem with cursor := 0, half := false, asked := false }) [.sw, .tandem] corePages := d.still.setFld.startOp.set_tandem
  exact (h.andThen moves_carry).ite h

theorem tandem_resyncBegun {was : Bool} : (d.resyncBegun was).tandem = { d.tandem with cursor := 0, half := false, asked := false } := by
  unfold resyncBegun
  dsimp only
  split
  · rw [moves_carry.keeps_tandem]
    rfl
  · rfl

theorem writes_resyncBegun {was : Bool} :
    d.writes (d.resyncBegun was) egressPages (TNDM.STATE :: TNDM.RESYNC_STAT :: pauseRegs) := by
  unfold resyncBegun
  have h : d.writes (((d.setFld TNDM.STATE_PEER_UNTRUSTED 0).startOp TNDM.RESYNC_STAT).setTandem
    { d.tandem with cursor := 0, half := false, asked := false }) egressPages (TNDM.STATE :: TNDM.RESYNC_STAT :: pauseRegs) :=
    (d.untouched.setFld.setNum).set_tandem
  exact (h.andThen writes_carry).ite h

/-- What the start of a sweep leaves in STATE and RESYNC_STAT. -/
theorem num_resyncBegun {was : Bool} {q : Reg} (hq : q = TNDM.STATE ∨ q = TNDM.RESYNC_STAT) : (d.resyncBegun was).num q =
    ((d.setFld TNDM.STATE_PEER_UNTRUSTED 0).startOp TNDM.RESYNC_STAT).num q := by
  unfold resyncBegun
  dsimp only
  split
  · rcases hq with rfl | rfl
    · exact writes_carry.num _ _
    · exact writes_carry.num _ _
  · rfl

/-- The device when a transition has been made, but for its event. -/
def tandemMade (d : Dev) (new r : Nat) : Dev :=
  let e := d.tandemSet new r
  let e := if d.replicating && !e.replicating then e.tandemLeave new else e
  let e := if new = 6 then e.madeAlone r else e
  if new = 4 then e.resyncBegun d.replicating else if new = 5 then e.raise TNDM.int_JOINED else e

theorem tandemTo_ne (h : d.tState ≠ new) : ∃ w, d.tandemTo new r = ((d.tandemMade new r).log 8 0x5801 d.tState new r w).resyncAsk := by
  unfold tandemTo
  dsimp only
  rw [if_neg h]
  exact ⟨_, rfl⟩

theorem moves_resyncAsk : d.moves d.resyncAsk [.tandem] [] := by
  unfold resyncAsk sendEntry
  exact d.still.set_tandem.emit.ite d.still

theorem regs_resyncAsk : d.resyncAsk.regs = d.regs := by
  unfold resyncAsk
  split <;> rfl

theorem heard_resyncAsk : heard d.resyncAsk.tandem = heard d.tandem := by
  unfold resyncAsk
  split <;> rfl

theorem cursor_resyncAsk : d.resyncAsk.tandem.cursor = d.tandem.cursor := by
  unfold resyncAsk
  split <;> rfl

theorem queue_resyncAsk : d.resyncAsk.tandem.queue = d.tandem.queue := by
  unfold resyncAsk
  split <;> rfl

/-- The registers outside the switch core that a transition writes. -/
abbrev tandemRegs : List Reg := TNDM.STATE :: TNDM.RESYNC_STAT :: TNDM.CNT.ix 5 :: pauseRegs

theorem moves_tandemMade : d.moves (d.tandemMade new r) [.sw, .tandem] corePages := by
  unfold tandemMade
  have h : d.moves (d.tandemSet new r) [.sw, .tandem] corePages := d.still.andThen moves_tandemSet
  have h1 := (h.andThen (moves_tandemLeave (new := new))).ite (c := (d.replicating && !(d.tandemSet new r).replicating) = true) h
  have h2 := (h1.andThen (moves_madeAlone (r := r))).ite (c := new = 6) h1
  exact (h2.andThen moves_resyncBegun).ite (h2.raise.ite h2)

theorem writes_tandemMade : d.writes (d.tandemMade new r) egressPages tandemRegs := by
  unfold tandemMade
  have h : d.writes (d.tandemSet new r) egressPages tandemRegs := d.untouched.andThen writes_tandemSet
  have h1 := (h.andThen (writes_tandemLeave (new := new))).ite (c := (d.replicating && !(d.tandemSet new r).replicating) = true) h
  have h2 := (h1.andThen (writes_madeAlone (r := r))).ite (c := new = 6) h1
  exact (h2.andThen writes_resyncBegun).ite (h2.raise.ite h2)

theorem heard_tandemMade : heard (d.tandemMade new r).tandem = heard d.tandem := by
  have hset : heard (d.tandemSet new r).tandem = heard d.tandem := by
    rw [tandem_tandemSet]
    rfl
  have hleave : heard ((d.tandemSet new r).tandemLeave new).tandem = heard d.tandem := by
    rw [tandem_tandemLeave, ← hset, ← heard_resyncCut]
    rfl
  unfold tandemMade
  dsimp only
  generalize hx : (if (d.replicating && !(d.tandemSet new r).replicating) = true then (d.tandemSet new r).tandemLeave new else d.tandemSet new r) = x
  have h1 : heard x.tandem = heard d.tandem := by
    rw [← hx]
    split
    · exact hleave
    · exact hset
  generalize hy : (if new = 6 then x.madeAlone r else x) = y
  have h2 : heard y.tandem = heard d.tandem := by
    rw [← hy]
    split
    · rw [moves_madeAlone.keeps_tandem, h1]
    · exact h1
  split
  · rw [tandem_resyncBegun, ← h2]
    rfl
  · split
    · rw [raise_tandem, h2]
    · exact h2

theorem moves_tandemTo : d.moves (d.tandemTo new r) [.sw, .tandem] corePages := by
  by_cases h : d.tState = new
  · rw [tandemTo, if_pos h]
    exact d.still
  · obtain ⟨w, hx⟩ := tandemTo_ne (r := r) h
    rw [hx]
    exact moves_tandemMade.log.andThen moves_resyncAsk

theorem writes_tandemTo : d.writes (d.tandemTo new r) egressPages tandemRegs := by
  by_cases h : d.tState = new
  · rw [tandemTo, if_pos h]
    exact d.untouched
  · obtain ⟨w, hx⟩ := tandemTo_ne (r := r) h
    rw [hx]
    exact writes_tandemMade.log.of_regs regs_resyncAsk

theorem heard_tandemTo : heard (d.tandemTo new r).tandem = heard d.tandem := by
  by_cases h : d.tState = new
  · rw [tandemTo, if_pos h]
  · obtain ⟨w, hx⟩ := tandemTo_ne (r := r) h
    rw [hx, heard_resyncAsk, log_tandem, heard_tandemMade]

/-! #### To ALONE -/

theorem fld_tandemMade_alone (hx : ofState x = true) : (d.tandemMade 6 r).fld x = (d.tandemSet 6 r).fld x := by
  unfold tandemMade
  dsimp only
  rw [if_neg (by decide), if_neg (by decide), if_pos rfl, fld_madeAlone hx]
  split
  · exact fld_tandemLeave hx
  · rfl

theorem fld_tandemTo (h : d.tState ≠ new) (hx : x.reg = TNDM.STATE) : (d.tandemTo new r).fld x = (d.tandemMade new r).fld x := by
  obtain ⟨w, he⟩ := tandemTo_ne (r := r) h
  rw [he, fld_of_regs regs_resyncAsk, fld_log_plain _ _ _ _ _ _ _ _ _ (by rw [hx]; rfl)]

theorem raised_tandemTo {b : IntBit} (h : d.tState ≠ new) (hb : b.plain = true) :
    (d.tandemTo new r).raised b = (d.tandemMade new r).raised b := by
  obtain ⟨w, he⟩ := tandemTo_ne (r := r) h
  rw [he, raised_of_regs regs_resyncAsk, raised_log_plain _ _ _ _ _ _ _ _ hb]

theorem tState_alone (h : d.tState ≠ 6) : (d.tandemTo 6 r).tState = 6 := by
  rw [tState, fld_tandemTo h rfl, fld_tandemMade_alone rfl]
  exact tState_tandemSet (by decide)

theorem reason_alone (h : d.tState ≠ 6) (hr : r < 16) : (d.tandemTo 6 r).fld TNDM.STATE_REASON = r := by
  rw [fld_tandemTo h rfl, fld_tandemMade_alone rfl, reason_tandemSet hr]

theorem raised_alone {b : IntBit} (h : d.tState ≠ 6) (hb : b = TNDM.int_ALONE ∨ aloneBit r = some b) :
    (d.tandemTo 6 r).raised b = true := by
  have hp : b.plain = true := by
    rcases hb with rfl | hb
    · rfl
    · exact (aloneBit_plain hb).1
  rw [raised_tandemTo h hp]
  unfold tandemMade
  dsimp only
  rw [if_neg (by decide), if_neg (by decide), if_pos rfl]
  exact raised_madeAlone hb

/-! #### To RESYNC and KEYING -/

theorem tandemMade_resync : d.tandemMade 4 r = (d.tandemSet 4 r).resyncBegun d.replicating := by
  have hs : (d.tandemSet 4 r).replicating = true := by
    rw [replicating, tState_tandemSet (by decide)]
    rfl
  unfold tandemMade
  dsimp only
  rw [if_pos rfl, if_neg (by decide), if_neg (by rw [hs]; simp)]

theorem tandem_resync (h : d.tState ≠ 4) : (d.tandemTo 4 r).tandem.cursor = 0 := by
  obtain ⟨w, he⟩ := tandemTo_ne (r := r) h
  rw [he, cursor_resyncAsk, log_tandem, tandemMade_resync, tandem_resyncBegun]

theorem num_resync {q : Reg} (h : d.tState ≠ 4) (hq : q = TNDM.STATE ∨ q = TNDM.RESYNC_STAT) : (d.tandemTo 4 r).num q =
    (((d.tandemSet 4 r).setFld TNDM.STATE_PEER_UNTRUSTED 0).startOp TNDM.RESYNC_STAT).num q := by
  obtain ⟨w, he⟩ := tandemTo_ne (r := r) h
  have hp : q.plain = true := by rcases hq with rfl | rfl <;> rfl
  rw [he, num_of_regs regs_resyncAsk, num_log_plain _ _ _ _ _ _ _ _ _ hp, tandemMade_resync, num_resyncBegun hq]

theorem fld_resync (h : d.tState ≠ 4) (hx : x.reg = TNDM.STATE) :
    (d.tandemTo 4 r).fld x = ((d.tandemSet 4 r).setFld TNDM.STATE_PEER_UNTRUSTED 0).fld x := by
  rw [fld, hx, num_resync h (.inl rfl), startOp, num_setNum_apart _ _ _ _ _ _ rfl, fld, hx]

theorem tState_resync (h : d.tState ≠ 4) : (d.tandemTo 4 r).tState = 4 := by
  rw [tState, fld_resync h rfl, fld_setFld_beside _ _ _ _ _ rfl]
  exact tState_tandemSet (by decide)

theorem trusted_resync (h : d.tState ≠ 4) : (d.tandemTo 4 r).on TNDM.STATE_PEER_UNTRUSTED = false := by
  rw [on, fld_resync h rfl, fld_setFld_eq _ _ _ _ rfl]
  rfl

theorem started_resync (h : d.tState ≠ 4) : (d.tandemTo 4 r).num TNDM.RESYNC_STAT = 1 := by
  rw [num_resync h (.inr rfl), num_startOp]

theorem tandemMade_quiet (hr : d.replicating = false) (h6 : new ≠ 6) (h4 : new ≠ 4) (h5 : new ≠ 5) : d.tandemMade new r = d.tandemSet new r := by
  unfold tandemMade
  dsimp only
  rw [if_neg h4, if_neg h5, if_neg h6, hr]
  rfl

end Sys2Proof.Machine.Dev
end

section
set_option Elab.async false
/-! What an operation gives out beside interrupt messages: nothing, so that what a command gives out is what it gives out itself. -/

namespace Sys2Proof.Machine
open Sys2Proof

/-- Nothing but interrupt messages is given out. -/
def Dev.murmurs (d e : Dev) : Prop := ∃ l : List Output, e.out = l ++ d.out ∧ ∀ y ∈ l, ∃ (a : Nat) (w : Word), y = .msix a w

namespace Dev.murmurs
variable {d0 d e : Dev}

theorem refl (d : Dev) : d.murmurs d := ⟨[], rfl, nofun⟩

theorem trans (h : d0.murmurs d) (g : d.murmurs e) : d0.murmurs e := by
  obtain ⟨l, hl, hm⟩ := h
  obtain ⟨m, hn, hg⟩ := g
  refine ⟨m ++ l, by rw [hn, hl, List.append_assoc], fun y hy => ?_⟩
  rcases List.mem_append.mp hy with hy | hy
  · exact hg y hy
  · exact hm y hy

theorem of_out (h : d0.murmurs d) (he : e.out = d.out) : d0.murmurs e := by
  obtain ⟨l, hl, hm⟩ := h
  exact ⟨l, he.trans hl, hm⟩

theorem setRegP {r : Reg} {p c : Nat} {v : Word} (h : d0.murmurs d) : d0.murmurs (d.setRegP r p c v) := h.of_out rfl
theorem setReg {r : Reg} {c : Nat} {v : Word} (h : d0.murmurs d) : d0.murmurs (d.setReg r v c) := h.of_out rfl
theorem setNum {r : Reg} {c v : Nat} (h : d0.murmurs d) : d0.murmurs (d.setNum r v c) := h.of_out rfl
theorem setFld {x : Fld} {c v : Nat} (h : d0.murmurs d) : d0.murmurs (d.setFld x v c) := h.of_out rfl
theorem bump {r : Reg} {c n : Nat} (h : d0.murmurs d) : d0.murmurs (d.bump r c n) := h.of_out rfl
theorem set_sw {x : Switch} (h : d0.murmurs d) : d0.murmurs { d with sw := x } := h.of_out rfl
theorem set_tandem {x : TandemSt} (h : d0.murmurs d) : d0.murmurs { d with tandem := x } := h.of_out rfl

theorem ite {c : Prop} [Decidable c] (h : d0.murmurs d) (g : d0.murmurs e) : d0.murmurs (if c then d else e) := by
  split <;> assumption
theorem iteSelf {c : Prop} [Decidable c] (h : d0.murmurs d) (g : d0.murmurs d → d0.murmurs e) : d0.murmurs (if c then e else d) := (g h).ite h
theorem foldl {α : Type} {g : Dev → α → Dev} {l : List α} (h : d0.murmurs d) (hg : ∀ {x : Dev} {a : α}, d0.murmurs x → d0.murmurs (g x a)) :
    d0.murmurs (l.foldl g d) := by
  induction l generalizing d with
  | nil => exact h
  | cons a l ih => exact ih (hg h)
theorem each {n : Nat} {g : Dev → Nat → Dev} (h : d0.murmurs d) (hg : ∀ {x : Dev} {a : Nat}, d0.murmurs x → d0.murmurs (g x a)) :
    d0.murmurs (d.each n g) := h.foldl hg

theorem fireVec {v : Nat} (h : d0.murmurs d) : d0.murmurs (d.fireVec v) := by
  unfold Dev.fireVec
  refine h.setNum.ite (h.trans ⟨[_], rfl, fun y hy => ?_⟩)
  exact ⟨_, _, List.mem_singleton.mp hy⟩

theorem raise {b : IntBit} (h : d0.murmurs d) : d0.murmurs (d.raise b) := by
  unfold Dev.raise Dev.raiseBits Dev.watch Dev.watchVecs
  exact h.setReg.foldl fun hx => hx.iteSelf fun hx => hx.fireVec

theorem perfWrap {c : Nat} (h : d0.murmurs d) : d0.murmurs (d.perfWrap c) := by
  unfold Dev.perfWrap
  exact h.setNum.iteSelf fun h => h.raise

theorem perfPut {c v : Nat} (h : d0.murmurs d) : d0.murmurs (d.perfPut c v) := h.of_out rfl

theorem settleCount {c : Nat} (h : d0.murmurs d) : d0.murmurs (d.settleCount c) := by
  unfold Dev.settleCount
  exact (h.of_out (e := Dev.perfPut { d with obs := _ } c _) rfl).iteSelf fun h => h.perfWrap

theorem snapReach {i : Nat} (h : d0.murmurs d) : d0.murmurs (d.snapReach i) := by
  unfold Dev.snapReach Dev.snapIsland
  split
  · exact h.iteSelf fun h => (h.foldl fun hx => hx.settleCount).of_out rfl
  · exact h

theorem perfAdd {n c v : Nat} (h : d0.murmurs d) : d0.murmurs (Dev.perfAdd n d c v) := by
  induction n generalizing d c v with
  | zero => exact h
  | succ n ih =>
    unfold Dev.perfAdd
    exact h.perfPut.ite ((ih h.perfPut.perfWrap).ite h.perfPut.perfWrap)

theorem perf {i e n : Nat} (h : d0.murmurs d) : d0.murmurs (d.perf i e n) := by
  unfold Dev.perf
  exact h.snapReach.iteSelf fun h => h.foldl fun hx => hx.perfAdd

theorem numbered {i : Nat} (h : d0.murmurs d) : d0.murmurs (d.numbered i) := h.bump.perf

theorem markLoss {q n : Nat} (h : d0.murmurs d) : d0.murmurs (d.markLoss q n) := by
  unfold Dev.markLoss
  dsimp only
  split
  · exact h.of_out rfl
  · exact (h.of_out (e := d.setEvQueue q _) rfl).numbered

theorem stage {q : Nat} {x : Event} (h : d0.murmurs d) : d0.murmurs (d.stage q x) := by
  unfold Dev.stage
  exact (h.of_out (e := d.setEvQueue q _) rfl).ite h.markLoss.bump

theorem log {i c p0 p1 p2 p3 : Nat} (h : d0.murmurs d) : d0.murmurs (d.log i c p0 p1 p2 p3) := by
  unfold Dev.log Dev.stageAll
  exact h.numbered.foldl fun hx => hx.iteSelf fun hx => hx.stage

theorem opEnd {p s c : Nat} (h : d0.murmurs d) : d0.murmurs (d.opEnd p s c) := h.log

theorem stat {p k n : Nat} (h : d0.murmurs d) : d0.murmurs (d.stat p k n) := by
  unfold Dev.stat
  exact h.snapReach.iteSelf fun h => h.of_out rfl

theorem statGood {p b n : Nat} {bs : List Byte} (h : d0.murmurs d) : d0.murmurs (d.statGood p b n bs) := h.stat.stat.stat.stat

/-- What has been given out stays given out. -/
theorem mem (h : d.murmurs e) {o : Output} (ho : o ∈ d.out) : o ∈ e.out := by
  obtain ⟨l, hl, -⟩ := h
  rw [hl]
  exact List.mem_append_right l ho

/-- One thing is given out between steps that give out nothing. -/
theorem emits {d e f : Dev} {o : Output} (h : d.murmurs e) (g : (e.emit o).murmurs f) : d.emits f o := by
  obtain ⟨m, hm, hms⟩ := h
  obtain ⟨l, hl, hls⟩ := g
  refine ⟨l, m, by rw [hl, ← hm]; rfl, fun y hy => ?_⟩
  rcases List.mem_append.mp hy with hy | hy
  · exact hls y hy
  · exact hms y hy

end Dev.murmurs
end Sys2Proof.Machine
end

section
set_option Elab.async false
/-! Heartbeats, agreement and the hash keys of tandem operation (R409, R410, R412, R413). -/

namespace Sys2Proof.Machine.Dev
open Sys2Proof
variable {d e : Dev} {r n path : Nat} {bs : List Byte} {th : Option Int}

/-! ### A heartbeat leaves -/

theorem moves_sendHb : d.moves d.sendHb [.sw, .tandem] [] := d.still.set_tandem.andThen moves_tandemSend

theorem tandem_sendHb : d.sendHb.tandem = { d.tandem with sentHb := d.clk.up, ownOcc := d.flowOcc } :=
  (moves_tandemSend (d := d.setTandem _)).keeps_tandem

theorem out_sendHb : Output.frame 33 (withFcs d.heartbeat) false ∈ d.sendHb.out := by
  unfold sendHb tandemSend
  exact ((murmurs.refl _).statGood).mem List.mem_cons_self

theorem murmursFrames_replSend {o : Output} : ∀ {n : Nat} {d : Dev}, o ∈ d.out → o ∈ (Dev.replSend n d).out
  | 0, _, h => h
  | n + 1, d, h => by
    unfold replSend
    dsimp only
    split
    · exact h
    · refine murmursFrames_replSend ?_
      exact ((murmurs.refl _).statGood).mem (List.mem_cons_of_mem _ h)

/-! ### A heartbeat arrives -/

/-- What a heartbeat reports, taken down. -/
def hbTaken (d : Dev) (bs : List Byte) : Dev :=
  ((d.hbMissed.hbShow bs (hbTheta2 bs (d.stamp 8).toNat)).setTandem
    { (d.hbMissed.hbShow bs (hbTheta2 bs (d.stamp 8).toNat)).tandem with
      echo := some (hbField bs 36 8, (d.stamp 8).toNat), peerOcc := hbField bs 32 4 }).statGood 33 0 64 bs

theorem hbReceive_eq : d.hbReceive bs = match (d.hbTaken bs).hbReason bs (hbTheta2 bs (d.stamp 8).toNat) with
    | some r => (d.hbTaken bs).tandemTo 6 r
    | none => ((d.hbTaken bs).setTandem { (d.hbTaken bs).tandem with
        agree := (d.hbTaken bs).hbAgree bs (hbTheta2 bs (d.stamp 8).toNat) }).hbAdvance.replFlush := rfl

/-- What the peer's heartbeat shows in the registers. -/
def hbShown (d : Dev) (bs : List Byte) : Dev :=
  ((((d.setFld TNDM.STATE_PEER_ID (hbField bs 16 1 % 2)).setNum TNDM.PEER_CHECK (hbField bs 20 4)).setNum TNDM.PEER_INFO
    (hbField bs 18 2)).setNum TNDM.PEER_UCODE (hbField bs 24 4)).setNum TNDM.PEER_KEY_TAG (hbField bs 28 4)

/-- The registers of the difference of time. -/
abbrev offsetRegs : List Reg := [TNDM.OFFSET, TNDM.OFFSET_MAX]

/-- The difference of time that a heartbeat shows. -/
def offsetShown (d : Dev) (t : Int) : Dev :=
  (d.setNum TNDM.OFFSET (toBits 32 (clampInt (-(2 ^ 31)) (2 ^ 31 - 1) (t.tdiv 2)))).setNum TNDM.OFFSET_MAX
    (max ((d.setNum TNDM.OFFSET (toBits 32 (clampInt (-(2 ^ 31)) (2 ^ 31 - 1) (t.tdiv 2)))).num TNDM.OFFSET_MAX) (min 0xFFFFF (t.natAbs / 2)))

theorem writes_offsetShown {t : Int} : d.writes (d.offsetShown t) [] offsetRegs := by
  unfold offsetShown
  exact d.untouched.setNum.setNum
theorem tandem_offsetShown {t : Int} : (d.offsetShown t).tandem = d.tandem := by
  unfold offsetShown
  rw [setNum_tandem, setNum_tandem]
theorem moves_offsetShown {t : Int} : d.moves (d.offsetShown t) [] [0x58] := by
  unfold offsetShown
  exact d.still.setNum.setNum

theorem hbShow_some {t : Int} : d.hbShow bs (some t) = (d.hbShown bs).offsetShown t := rfl
theorem hbShow_none : d.hbShow bs none = d.hbShown bs := rfl

theorem tandem_hbShown : (d.hbShown bs).tandem = d.tandem := rfl

theorem hbShow_writes : (d.hbShown bs).writes (d.hbShow bs th) [] offsetRegs ∧ (d.hbShow bs th).tandem = d.tandem ∧
    d.moves (d.hbShow bs th) [] [0x58] := by
  have hm : d.moves (d.hbShown bs) [] [0x58] := d.still.setFld.setNum.setNum.setNum.setNum
  cases th with
  | none =>
    rw [hbShow_none]
    exact ⟨(d.hbShown bs).untouched, tandem_hbShown, hm⟩
  | some t =>
    rw [hbShow_some]
    exact ⟨writes_offsetShown, tandem_offsetShown.trans tandem_hbShown, hm.andThen moves_offsetShown⟩

theorem num_hbShow {q : Reg} (hq : q.plain = true) (ho : (offsetRegs.all fun r => q.apart r) = true) :
    (d.hbShow bs th).num q = (d.hbShown bs).num q := hbShow_writes.1.num q 0 hq rfl ho

theorem num_hbMissed {q : Reg} (h : q.apart (TNDM.CNT.ix 4) = true) : d.hbMissed.num q = d.num q := by
  unfold hbMissed
  rw [setTandem_num, num_bump_apart _ _ _ _ _ _ h]

/-- The heartbeats that did not come, counted. -/
def missedCounted (d : Dev) (g : Nat) : Dev :=
  (d.bump (TNDM.CNT.ix 4) 0 g).setTandem
    { (d.bump (TNDM.CNT.ix 4) 0 g).tandem with lastHb := (d.bump (TNDM.CNT.ix 4) 0 g).clk.up, missed := 0 }

theorem tandem_missedCounted {g : Nat} : (d.missedCounted g).tandem = { d.tandem with lastHb := d.clk.up, missed := 0 } := by
  unfold missedCounted
  rw [setTandem, bump_tandem, bump_clk]

theorem hbMissed_eq : d.hbMissed = d.missedCounted ((d.clk.up - d.tandem.lastHb) / max 1 d.hbPeriod - 1 - d.tandem.missed) := rfl

theorem tandem_hbMissed : d.hbMissed.tandem = { d.tandem with lastHb := d.clk.up, missed := 0 } := by
  rw [hbMissed_eq, tandem_missedCounted]

theorem moves_hbMissed : d.moves d.hbMissed [.tandem] [0x58] := d.still.bump.set_tandem

theorem moves_hbTaken : d.moves (d.hbTaken bs) [.sw, .tandem] [0x58] := by
  unfold hbTaken
  exact (((d.still.andThen moves_hbMissed).andThen hbShow_writes.2.2).set_tandem).andThen moves_statGood

theorem num_hbTaken {q : Reg} (hq : q.plain = true) (ho : (offsetRegs.all fun r => q.apart r) = true) :
    (d.hbTaken bs).num q = (d.hbMissed.hbShown bs).num q := by
  unfold hbTaken
  rw [writes_statGood.num q 0 hq rfl rfl]
  exact num_hbShow hq ho

theorem num_hbTaken_apart {q : Reg} (hq : q.plain = true) (hs : (q :: []).all (fun q => !(q.page == 0x58)) = true) :
    (d.hbTaken bs).num q = d.num q := by
  have h : q.page ≠ 0x58 := by simpa using hs
  exact moves_hbTaken.num q 0 hq (by simpa using h)

/-- The fields of STATE beside the peer's id, and the registers that a heartbeat does not show. -/
theorem fld_hbTaken {x : Fld} (hx : x.beside TNDM.STATE_PEER_ID = true) (hr : x.reg = TNDM.STATE) : (d.hbTaken bs).fld x = d.fld x := by
  have hs : (d.hbMissed.hbShown bs).fld x = d.fld x := by
    unfold hbShown
    rw [fld_setNum_apart _ _ _ _ _ _ (by rw [hr]; rfl), fld_setNum_apart _ _ _ _ _ _ (by rw [hr]; rfl),
      fld_setNum_apart _ _ _ _ _ _ (by rw [hr]; rfl), fld_setNum_apart _ _ _ _ _ _ (by rw [hr]; rfl), fld_setFld_beside _ _ _ _ _ hx,
      fld, num_hbMissed (by rw [hr]; rfl), ← fld]
  rw [← hs, fld, num_hbTaken (by rw [hr]; rfl) (by rw [hr]; rfl), ← fld]

theorem tState_hbTaken : (d.hbTaken bs).tState = d.tState := fld_hbTaken rfl rfl

theorem peerId_hbTaken : (d.hbTaken bs).fld TNDM.STATE_PEER_ID = hbField bs 16 1 % 2 := by
  rw [fld, num_hbTaken rfl rfl, ← fld]
  unfold hbShown
  rw [fld_setNum_apart _ _ _ _ _ _ rfl, fld_setNum_apart _ _ _ _ _ _ rfl, fld_setNum_apart _ _ _ _ _ _ rfl,
    fld_setNum_apart _ _ _ _ _ _ rfl, fld_setFld_eq _ _ _ _ rfl]
  exact Nat.mod_mod _ _

theorem hbField_lt {i k : Nat} : hbField bs i k < 256 ^ k :=
  (leNat_lt _).trans_le (Nat.pow_le_pow_right (by decide) (List.length_take_le _ _))

theorem peer_hbTaken : (d.hbTaken bs).num TNDM.PEER_CHECK = hbField bs 20 4 ∧ (d.hbTaken bs).num TNDM.PEER_INFO = hbField bs 18 2 ∧
    (d.hbTaken bs).num TNDM.PEER_UCODE = hbField bs 24 4 ∧ (d.hbTaken bs).num TNDM.PEER_KEY_TAG = hbField bs 28 4 := by
  have h4 {i : Nat} : hbField bs i 4 % 2 ^ 32 = hbField bs i 4 := Nat.mod_eq_of_lt (hbField_lt.trans_le (by norm_num))
  have h2 {i : Nat} : hbField bs i 2 % 2 ^ 32 = hbField bs i 2 := Nat.mod_eq_of_lt (hbField_lt.trans_le (by norm_num))
  refine ⟨?_, ?_, ?_, ?_⟩
  · rw [num_hbTaken rfl rfl, hbShown, num_setNum_apart _ _ _ _ _ _ rfl, num_setNum_apart _ _ _ _ _ _ rfl, num_setNum_apart _ _ _ _ _ _ rfl,
      num_setNum_same, h4]
  · rw [num_hbTaken rfl rfl, hbShown, num_setNum_apart _ _ _ _ _ _ rfl, num_setNum_apart _ _ _ _ _ _ rfl, num_setNum_same, h2]
  · rw [num_hbTaken rfl rfl, hbShown, num_setNum_apart _ _ _ _ _ _ rfl, num_setNum_same, h4]
  · rw [num_hbTaken rfl rfl, hbShown, num_setNum_same, h4]

theorem tandem_hbTaken : (d.hbTaken bs).tandem = { d.tandem with
    lastHb := d.clk.up, missed := 0, echo := some (hbField bs 36 8, (d.stamp 8).toNat), peerOcc := hbField bs 32 4 } := by
  unfold hbTaken
  rw [moves_statGood.keeps_tandem]
  simp only [setTandem]
  rw [hbShow_writes.2.1, tandem_hbMissed]

theorem tandemId_hbTaken : (d.hbTaken bs).tandemId = d.tandemId := moves_hbTaken.fld PWRM.STRAPS_TANDEM_ID 0 rfl rfl
theorem ucode_hbTaken : (d.hbTaken bs).num FENG.UCODE_VER = d.num FENG.UCODE_VER := moves_hbTaken.num FENG.UCODE_VER 0

theorem timeBound_hbTaken : (d.hbTaken bs).num TNDM.TIME_BOUND = d.num TNDM.TIME_BOUND := by
  rw [num_hbTaken rfl rfl, hbShown, num_setNum_apart _ _ _ _ _ _ rfl, num_setNum_apart _ _ _ _ _ _ rfl,
    num_setNum_apart _ _ _ _ _ _ rfl, num_setNum_apart _ _ _ _ _ _ rfl, num_setFld_apart _ _ _ _ _ _ rfl,
    num_hbMissed rfl]

theorem hbReason_hbTaken : (d.hbTaken bs).hbReason bs th = d.hbReason bs th := by
  unfold hbReason
  rw [tState_hbTaken, timeBound_hbTaken, tandemId_hbTaken, ucode_hbTaken, tandem_hbTaken]

theorem hbAgree_hbTaken : (d.hbTaken bs).hbAgree bs th = d.hbAgree bs th := by
  unfold hbAgree
  rw [timeBound_hbTaken, tandemId_hbTaken, ucode_hbTaken, tandem_hbTaken]

/-- The registers in which a heartbeat shows. -/
abbrev heartRegs : List Reg :=
  [TNDM.CNT.ix 4, TNDM.STATE, TNDM.PEER_CHECK, TNDM.PEER_INFO, TNDM.PEER_UCODE, TNDM.PEER_KEY_TAG, TNDM.OFFSET, TNDM.OFFSET_MAX]

theorem writes_hbTaken : d.writes (d.hbTaken bs) [] heartRegs := by
  have hm : d.writes (d.hbMissed.hbShown bs) [] heartRegs := by
    rw [hbMissed_eq]
    exact (((((d.untouched.bump).set_tandem.setFld).setNum).setNum).setNum).setNum
  unfold hbTaken
  exact ((hm.andThen hbShow_writes.1).set_tandem).andThen writes_statGood

/-- A heartbeat, taken down with the count of those that agree. -/
def hbCounted (d : Dev) (bs : List Byte) (n : Nat) : Dev := (d.hbTaken bs).setTandem { (d.hbTaken bs).tandem with agree := n }

theorem moves_hbCounted : d.moves (d.hbCounted bs n) [.sw, .tandem] [0x58] := moves_hbTaken.set_tandem
theorem writes_hbCounted : d.writes (d.hbCounted bs n) [] heartRegs := writes_hbTaken.set_tandem
theorem num_hbCounted {q : Reg} : (d.hbCounted bs n).num q = (d.hbTaken bs).num q := rfl
theorem tState_hbCounted : (d.hbCounted bs n).tState = d.tState := tState_hbTaken
theorem agree_hbCounted : (d.hbCounted bs n).tandem.agree = n := rfl
theorem occ_hbCounted : (d.hbCounted bs n).tandem.ownOcc = d.tandem.ownOcc ∧ (d.hbCounted bs n).tandem.peerOcc = hbField bs 32 4 := by
  have h (t : TandemSt) : ({ t with agree := n } : TandemSt).ownOcc = t.ownOcc ∧ ({ t with agree := n } : TandemSt).peerOcc = t.peerOcc := ⟨rfl, rfl⟩
  unfold hbCounted
  rw [setTandem]
  dsimp only
  rw [tandem_hbTaken]
  exact ⟨rfl, rfl⟩

theorem keyTag_hbCounted : (d.hbCounted bs n).keyTag = d.keyTag := by
  unfold keyTag
  rw [moves_hbCounted.on FLOW.KEY_STAT_VALID 0 rfl rfl, moves_hbCounted.keeps_flow]

theorem hbReceive_reason (h : d.hbReason bs (hbTheta2 bs (d.stamp 8).toNat) = some r) : d.hbReceive bs = (d.hbTaken bs).tandemTo 6 r := by
  rw [hbReceive_eq, hbReason_hbTaken, h]

theorem hbReceive_counts (h : d.hbReason bs (hbTheta2 bs (d.stamp 8).toNat) = none)
    (hn : n = d.hbAgree bs (hbTheta2 bs (d.stamp 8).toNat)) : d.hbReceive bs = (d.hbCounted bs n).hbAdvance.replFlush := by
  rw [hbReceive_eq, hbReason_hbTaken, h]
  dsimp only
  rw [hbAgree_hbTaken, ← hn, hbCounted]

/-- A reason that a heartbeat gives is one of R412, in a state that it ends. -/
theorem hbReason_bounds (h : d.hbReason bs th = some r) : d.tState ≠ 6 ∧ r < 16 := by
  unfold hbReason at h
  extract_lets st far at h
  split at h
  · cases h
  next hst =>
    refine ⟨fun h6 => hst (.inr ?_), ?_⟩
    · change 5 < d.tState
      omega
    · split at h
      · cases h; decide
      · split at h
        · cases h; decide
        · split at h
          · cases h
          · split at h
            · cases h; decide
            · split at h
              · cases h; decide
              · cases h

/-! ### The state machine advances from HELLO -/

theorem hbAdvance_hello (h : d.tState = 2) : d.hbAdvance = if d.fld TNDM.HB_CFG_HB_OK ≤ d.tandem.agree then d.agreed else d := by
  unfold hbAdvance
  rw [h]
  dsimp only
  by_cases hx : d.fld TNDM.HB_CFG_HB_OK ≤ d.tandem.agree
  · rw [if_pos hx]
    exact if_pos (decide_eq_true hx)
  · rw [if_neg hx]
    exact if_neg (by rw [decide_eq_false hx]; decide)

/-- The module on its way from HELLO to KEYING. -/
def keyingAsked (d : Dev) : Dev := (d.tandemTo 3 0).setFld TNDM.STATE_KEY_SOURCE (bit d.keySource)

theorem keyingBegin_eq : d.keyingBegin = if !d.keyingAsked.on TNDM.LINK_KEY_STAT_VALID then d.keyingAsked.tandemTo 6 10
    else if d.keySource then d.keyingAsked.emit (.peer 4 d.keyingAsked.keyBlocks.flatten) else d.keyingAsked := rfl

theorem tState_keyingAsked (h : d.tState = 2) : d.keyingAsked.tState = 3 := by
  have hr : d.replicating = false := by
    rw [replicating, h]
    rfl
  rw [keyingAsked, tState, fld_setFld_beside _ _ _ _ _ rfl, fld_tandemTo (by rw [h]; decide) rfl,
    tandemMade_quiet hr (by decide) (by decide) (by decide)]
  exact tState_tandemSet (by decide)

theorem source_keyingAsked : d.keyingAsked.on TNDM.STATE_KEY_SOURCE = d.keySource := by
  rw [keyingAsked, on_setFld_eq _ _ _ _ rfl]
  cases d.keySource <;> rfl

theorem valid_keyingAsked : d.keyingAsked.on TNDM.LINK_KEY_STAT_VALID = d.on TNDM.LINK_KEY_STAT_VALID := by
  rw [keyingAsked, on_setFld_apart _ _ _ _ _ _ rfl, on, fld_of_writes (G := egressPages) (R := tandemRegs) writes_tandemTo rfl rfl rfl, on]

theorem keySource_iff : d.keySource = true ↔ d.tandem.peerOcc < d.tandem.ownOcc ∨
    (d.tandem.peerOcc = d.tandem.ownOcc ∧ d.tandemId < d.fld TNDM.STATE_PEER_ID) := by
  unfold keySource
  split
  · next h => rw [decide_eq_true_iff, h]; simp
  · next h =>
    rw [decide_eq_true_iff]
    refine ⟨.inl, fun hx => hx.elim id fun hx => absurd hx.1.symm h⟩

/-! ### A silent peer -/

/-- The heartbeats that a silent peer missed, counted. -/
def silentCounted (d : Dev) (n : Nat) : Dev :=
  (d.bump (TNDM.CNT.ix 4) 0 (n - d.tandem.missed)).setTandem
    { (d.bump (TNDM.CNT.ix 4) 0 (n - d.tandem.missed)).tandem with
      missed := max n (d.bump (TNDM.CNT.ix 4) 0 (n - d.tandem.missed)).tandem.missed }

theorem tState_silentCounted : (d.silentCounted n).tState = d.tState := by
  rw [silentCounted, tState, setTandem_fld, fld_bump_apart _ _ _ _ _ _ rfl, tState]

theorem moves_silentCounted : d.moves (d.silentCounted n) [.tandem] [0x58] := d.still.bump.set_tandem

/-! ### Keys from the source (R413) -/

/-- A block of a key transfer, decrypted. -/
def keyBlock (d : Dev) (bs : List Byte) (i : Nat) : Nat := leNat (aesBlock true d.tandem.linkKey ((bs.drop (16 * i)).take 16))

theorem keyTransfer_fails (h : d.on TNDM.LINK_KEY_STAT_VALID = false ∨ bs.length ≠ 48) : d.keyTransfer bs = d.tandemTo 6 10 := by
  unfold keyTransfer
  by_cases hv : d.on TNDM.LINK_KEY_STAT_VALID = true
  · rw [if_neg (by rw [hv]; decide)]
    exact if_pos (.inl (h.resolve_left (by rw [hv]; decide)))
  · rw [if_pos (by simpa using hv)]

theorem keyTransfer_good (hv : d.on TNDM.LINK_KEY_STAT_VALID = true) (hl : bs.length = 48)
    (hx : d.keyBlock bs 0 ^^^ d.keyBlock bs 1 = d.keyBlock bs 2) : d.keyTransfer bs =
      if d.flowOcc = 0 then (d.setKeys (d.keyBlock bs 0) (d.keyBlock bs 1)).keyed
      else if d.opState MEMC.RETIRE_STAT = 1 then d else d.rebuildStart (d.keyBlock bs 0) (d.keyBlock bs 1) := by
  unfold keyTransfer
  rw [if_neg (by rw [hv]; decide)]
  exact if_neg fun h => h.elim (fun h => h hl) fun h => h hx

theorem flow_setKeys {x y : Nat} : (d.setKeys x y).flow = { d.flow with kp := x, kl := y } := by
  unfold setKeys
  rw [setFld_flow, setFld_flow]
  rfl

theorem valid_setKeys {x y : Nat} : (d.setKeys x y).on FLOW.KEY_STAT_VALID = true := by
  unfold setKeys
  rw [on_setFld_beside _ _ _ _ _ rfl, on_setFld_eq _ _ _ _ rfl]
  rfl

theorem moves_keyed : d.moves d.keyed [.sw, .tandem] corePages := by
  unfold keyed
  exact moves_tandemTo.ite d.still

theorem moves_setKeys {x y : Nat} : d.moves (d.setKeys x y) [.flow] [0x30] := d.still.set_flow.setFld.setFld

/-- A rebuild that begins with keys that are given. -/
theorem moves_rebuildStart {x y : Nat} : d.moves (d.rebuildStart x y) [.flow] [0x30] := (d.still.set_flow.startOp).set_flow

theorem flow_rebuildStart {x y : Nat} : (d.rebuildStart x y).flow.nkp = x ∧ (d.rebuildStart x y).flow.nkl = y ∧
    (d.rebuildStart x y).flow.kp = d.flow.kp ∧ (d.rebuildStart x y).flow.cursor = 0 := by
  unfold rebuildStart
  rw [setFlow]
  dsimp only
  rw [startOp, setNum_flow]
  exact ⟨rfl, rfl, rfl, rfl⟩

theorem num_rebuildStart {x y : Nat} : (d.rebuildStart x y).num FLOW.REBUILD_STAT = 1 := by
  unfold rebuildStart
  rw [setFlow_num, num_startOp]

/-! ### The link key (R422) -/

theorem keeps.set_tandem {P : List Part} {x : TandemSt} (h : d.keeps e P) (hp : P.contains .tandem = true := by rfl) :
    d.keeps { e with tandem := x } P := h.of_part .tandem hp fun p hp => by cases p <;> first | rfl | exact absurd rfl hp

/-- A path's staging copy of the link key, cleared. -/
def linkKeyCleared (d : Dev) (path : Nat) : Dev := d.each 8 fun d i => d.setRegP (TNDM.LINK_KEY.ix i) path 0 0

theorem linkKey_off (i : Nat) : (TNDM.LINK_KEY.ix i).off = TNDM.LINK_KEY.off + 4 * i := rfl

theorem moves_linkKeyCleared : d.moves (d.linkKeyCleared path) [] [0x58] := d.still.each fun {_ i} h => h.setRegP (r := TNDM.LINK_KEY.ix i)
theorem keeps_linkKeyCleared : d.keeps (d.linkKeyCleared path) [.regs] := (keeps.refl d).each fun h => h.setRegP

theorem regP_linkKeyCleared {i : Nat} (hi : i < 8) : (d.linkKeyCleared path).regP (TNDM.LINK_KEY.ix i) path 0 = 0 := by
  have ho : TNDM.LINK_KEY.off < 4000 := by decide
  rw [linkKeyCleared, each_at (rd := fun e => e.regP (TNDM.LINK_KEY.ix i) path 0) hi fun e j hj hn => regP_setRegP_apart _ _ _ _ _ _ _ _
    (Reg.apart_of_off (by rw [linkKey_off, linkKey_off]; omega) (by rw [linkKey_off]; omega) (by rw [linkKey_off]; omega))]
  exact regP_setRegP_same _ _ _ _ _

/-- A link key command. -/
theorem linkKeyCmd_eq {load : Bool} : d.linkKeyCmd path load = ((d.linkKeyCleared path).setTandem
    { (d.linkKeyCleared path).tandem with linkKey := if load then d.linkKeyStaged path else [] }).setFld TNDM.LINK_KEY_STAT_VALID (bit load) := rfl

end Sys2Proof.Machine.Dev

namespace Sys2Proof.Machine
open Sys2Proof
variable {s : State} {bs : List Byte} {r n : Nat}

theorem exec_heartbeat (hp : s.dev.portState 33 = 5) (he : s.dev.enabled 0x58 = true) (hb : isHeartbeat bs = true) :
    (isHeartbeat bs && decide (s.dev.portState 33 = 5) && s.dev.enabled 0x58) = true := by
  rw [hb, he, decide_eq_true hp]
  rfl

/-- A heartbeat that gives a reason ends the agreement (R412). -/
theorem gives_heartbeatReason (hon : s.Awake) (hb : isHeartbeat bs = true) (hp : s.dev.portState 33 = 5) (he : s.dev.enabled 0x58 = true)
    (hr : s.dev.hbReason bs (hbTheta2 bs (s.dev.stamp 8).toNat) = some r) :
    Gives (.heartbeatReceive bs) s fun d => d.tState = 6 ∧ d.fld TNDM.STATE_REASON = r ∧ d.raised TNDM.int_ALONE = true ∧
      d.num TNDM.PEER_CHECK = hbField bs 20 4 ∧ d.num TNDM.PEER_INFO = hbField bs 18 2 ∧ d.num TNDM.PEER_UCODE = hbField bs 24 4 ∧
      d.num TNDM.PEER_KEY_TAG = hbField bs 28 4 ∧ d.tandem.echo = some (hbField bs 36 8, (s.dev.stamp 8).toNat) ∧
      s.dev.moves d [.sw, .units, .tandem] [0x11, 0x40, 0x41, 0x48, 0x50, 0x58, 0x70] := by
  refine gives_runWhen rfl hon (exec_heartbeat hp he hb) ?_
  obtain ⟨hne, hlt⟩ := Dev.hbReason_bounds hr
  have h6 : (s.dev.hbTaken bs).tState ≠ 6 := by rw [Dev.tState_hbTaken]; exact hne
  have hm : s.dev.moves ((s.dev.hbTaken bs).tandemTo 6 r) [.sw, .units, .tandem] [0x11, 0x40, 0x41, 0x48, 0x50, 0x58, 0x70] :=
    (s.dev.still.andThen Dev.moves_hbTaken).andThen Dev.moves_tandemTo
  have hnum {q : Reg} (hq : q.plain = true) (hg : egressPages.contains q.page = false) (ha : (Dev.tandemRegs.all fun r => q.apart r) = true) :
      ((s.dev.hbTaken bs).tandemTo 6 r).num q = (s.dev.hbTaken bs).num q := Dev.writes_tandemTo.num q 0 hq hg ha
  obtain ⟨hc, hi, hu, hk⟩ := Dev.peer_hbTaken (d := s.dev) (bs := bs)
  rw [Dev.hbReceive_reason hr, hm.under_eq]
  refine ⟨Dev.tState_alone h6, Dev.reason_alone h6 hlt, Dev.raised_alone h6 (.inl rfl), (hnum rfl rfl rfl).trans hc,
    (hnum rfl rfl rfl).trans hi, (hnum rfl rfl rfl).trans hu, (hnum rfl rfl rfl).trans hk, ?_, hm⟩
  have hh := congrArg Prod.fst (Dev.heard_tandemTo (d := s.dev.hbTaken bs) (new := 6) (r := r))
  rw [Dev.tandem_hbTaken] at hh
  exact hh

/-- A heartbeat in HELLO counts, and after enough of them the module is on its way to RESYNC (R412, R413). -/
theorem gives_heartbeatHello (hon : s.Awake) (hb : isHeartbeat bs = true) (hp : s.dev.portState 33 = 5) (he : s.dev.enabled 0x58 = true)
    (hr : s.dev.hbReason bs (hbTheta2 bs (s.dev.stamp 8).toNat) = none) (hst : s.dev.tState = 2)
    (hn : n = s.dev.hbAgree bs (hbTheta2 bs (s.dev.stamp 8).toNat)) :
    Gives (.heartbeatReceive bs) s fun d =>
      (n < s.dev.fld TNDM.HB_CFG_HB_OK → d.tState = 2 ∧ d.tandem.agree = n ∧ d.num TNDM.PEER_KEY_TAG = hbField bs 28 4) ∧
      (s.dev.fld TNDM.HB_CFG_HB_OK ≤ n → hbField bs 28 4 = s.dev.keyTag → d.tState = 4 ∧ d.num TNDM.RESYNC_STAT = 1 ∧
        d.tandem.cursor = 0 ∧ d.on TNDM.STATE_PEER_UNTRUSTED = false) ∧
      (s.dev.fld TNDM.HB_CFG_HB_OK ≤ n → hbField bs 28 4 ≠ s.dev.keyTag → s.dev.on TNDM.LINK_KEY_STAT_VALID = false →
        d.tState = 6 ∧ d.fld TNDM.STATE_REASON = 10 ∧ d.raised TNDM.int_KEY_FAIL = true) ∧
      (s.dev.fld TNDM.HB_CFG_HB_OK ≤ n → hbField bs 28 4 ≠ s.dev.keyTag → s.dev.on TNDM.LINK_KEY_STAT_VALID = true →
        d.tState = 3 ∧ (d.on TNDM.STATE_KEY_SOURCE = true ↔ hbField bs 32 4 < s.dev.tandem.ownOcc ∨
          (hbField bs 32 4 = s.dev.tandem.ownOcc ∧ s.dev.tandemId < hbField bs 16 1 % 2))) := by
  refine gives_runWhen rfl hon (exec_heartbeat hp he hb) ?_
  rw [Dev.hbReceive_counts hr hn]
  clear hn hr hon
  obtain ⟨-, -, -, htag⟩ := Dev.peer_hbTaken (d := s.dev) (bs := bs)
  have hx2 : (s.dev.hbCounted bs n).tState = 2 := Dev.tState_hbCounted.trans hst
  have hok : (s.dev.hbCounted bs n).fld TNDM.HB_CFG_HB_OK = s.dev.fld TNDM.HB_CFG_HB_OK :=
    Dev.fld_of_writes Dev.writes_hbCounted rfl rfl rfl
  have hvalid : (s.dev.hbCounted bs n).on TNDM.LINK_KEY_STAT_VALID = s.dev.on TNDM.LINK_KEY_STAT_VALID := by
    rw [Dev.on, Dev.fld_of_writes Dev.writes_hbCounted rfl rfl rfl, Dev.on]
  have hadv := Dev.hbAdvance_hello hx2
  obtain ⟨hown, hpeer⟩ := Dev.occ_hbCounted (d := s.dev) (bs := bs) (n := n)
  have hkt := Dev.keyTag_hbCounted (d := s.dev) (bs := bs) (n := n)
  have hid : (s.dev.hbCounted bs n).tandemId = s.dev.tandemId := Dev.tandemId_hbTaken
  have hpid : (s.dev.hbCounted bs n).fld TNDM.STATE_PEER_ID = hbField bs 16 1 % 2 := Dev.peerId_hbTaken
  rw [hok, Dev.agree_hbCounted] at hadv
  have hptag : (s.dev.hbCounted bs n).num TNDM.PEER_KEY_TAG = hbField bs 28 4 := Dev.num_hbCounted.trans htag
  have hagree := Dev.agree_hbCounted (d := s.dev) (bs := bs) (n := n)
  generalize s.dev.hbCounted bs n = a at *
  have hfld {e : Dev} {x : Fld} (hx : x.reg.plain = true) (ha : ([TNDM.CNT.ix 0].all fun r => x.reg.apart r) = true) :
      e.replFlush.fld x = e.fld x := Dev.fld_of_writes Dev.writes_replFlush hx rfl ha
  have hts {e : Dev} : e.replFlush.tState = e.tState := hfld rfl rfl
  refine ⟨fun hlt => ?_, fun hle hk => ?_, fun hle hk hv => ?_, fun hle hk hv => ?_⟩
  · rw [if_neg (Nat.not_le.mpr hlt)] at hadv
    obtain ⟨q, hq⟩ := Dev.tandem_replFlush (d := a)
    rw [hadv]
    refine ⟨hts.trans hx2, ?_, (Dev.writes_replFlush.num TNDM.PEER_KEY_TAG 0).trans hptag⟩
    exact (congrArg TandemSt.agree hq).trans hagree
  · have hag : a.agreed = a.tandemTo 4 0 := if_pos (by rw [hkt, hptag, hk])
    have h4 : a.tState ≠ 4 := by rw [hx2]; decide
    rw [if_pos hle, hag] at hadv
    obtain ⟨q, hq⟩ := Dev.tandem_replFlush (d := a.tandemTo 4 0)
    rw [hadv]
    refine ⟨hts.trans (Dev.tState_resync h4), (Dev.writes_replFlush.num TNDM.RESYNC_STAT 0).trans (Dev.started_resync h4), ?_, ?_⟩
    · exact (congrArg TandemSt.cursor hq).trans (Dev.tandem_resync h4)
    · exact (congrArg (· != 0) (hfld rfl rfl)).trans (Dev.trusted_resync h4)
  · have hag : a.agreed = a.keyingBegin := if_neg (by rw [hkt, hptag]; exact fun hx => hk hx.symm)
    have hkb : a.keyingBegin = a.keyingAsked.tandemTo 6 10 := by
      rw [Dev.keyingBegin_eq, Dev.valid_keyingAsked, hvalid, hv]
      rfl
    have h6 : a.keyingAsked.tState ≠ 6 := by rw [Dev.tState_keyingAsked hx2]; decide
    rw [if_pos hle, hag, hkb] at hadv
    rw [hadv]
    exact ⟨hts.trans (Dev.tState_alone h6), (hfld rfl rfl).trans (Dev.reason_alone h6 (by decide)),
      Dev.writes_replFlush.raised (Dev.raised_alone h6 (.inr rfl))⟩
  · have hag : a.agreed = a.keyingBegin := if_neg (by rw [hkt, hptag]; exact fun hx => hk hx.symm)
    have hkb : a.keyingBegin.regs = a.keyingAsked.regs := by
      rw [Dev.keyingBegin_eq, Dev.valid_keyingAsked, hvalid, hv]
      cases a.keySource <;> rfl
    rw [if_pos hle, hag] at hadv
    rw [hadv]
    refine ⟨hts.trans ((Dev.fld_of_regs hkb _ 0).trans (Dev.tState_keyingAsked hx2)), ?_⟩
    have hsrc : a.keyingBegin.replFlush.on TNDM.STATE_KEY_SOURCE = a.keySource := by
      rw [Dev.on, hfld rfl rfl, Dev.fld_of_regs hkb, ← Dev.on, Dev.source_keyingAsked]
    change a.keyingBegin.replFlush.on TNDM.STATE_KEY_SOURCE = true ↔ _
    rw [hsrc, Dev.keySource_iff, hown, hpeer, hid, hpid]

end Sys2Proof.Machine

open Sys2Proof Sys2Proof.Machine

/-- Settles O49. -/
theorem tandemAgreement : Obligations.TandemAgreement := by
  unfold Obligations.TandemAgreement
  refine ⟨fun s hon he hp hd => ?sends, fun s hon h => ?sendsNot,
    fun s bs r hon hb hp he hr => gives_heartbeatReason hon hb hp he hr,
    fun s bs n hon hb hp he hr hst hn => gives_heartbeatHello hon hb hp he hr hst hn,
    fun s bs hon h => ?hearsNot, fun s hon hlo hhi hd => ?silent, fun s hon h => ?silentNot, fun s bs hon hst hsrc h => ?noKeys,
    fun s bs x y hon hst hsrc hv hl hx hy hz => ?keys, fun s bs hon h => ?keysNot, fun s c path hc ho hp => ?link⟩
  case sends =>
    have hm : s.dev.moves s.dev.sendHb.replFlush [.sw, .tandem] [0x58] := (s.dev.still.andThen Dev.moves_sendHb).andThen Dev.moves_replFlush
    refine gives_runWhen rfl hon (by rw [he, decide_eq_true hp, decide_eq_true hd]; rfl) ?_
    obtain ⟨q, hq⟩ := Dev.tandem_replFlush (d := s.dev.sendHb)
    rw [Dev.tandem_sendHb] at hq
    rw [hm.under_eq, hq]
    exact ⟨Dev.murmursFrames_replSend Dev.out_sendHb, rfl, rfl, hm⟩
  case sendsNot =>
    refine idle_runWhen rfl ?_
    rcases h with h | h | h
    · rw [h]
      rfl
    · rw [decide_eq_false h, Bool.and_false]
      rfl
    · rw [decide_eq_false (Nat.not_le.mpr h), Bool.and_false]
  case hearsNot =>
    refine idle_runWhen rfl ?_
    rcases h with h | h | h
    · rw [h]
      rfl
    · rw [decide_eq_false h, Bool.and_false]
      rfl
    · rw [h, Bool.and_false]
  case silent =>
    have hm : s.dev.moves ((s.dev.silentCounted (s.dev.fld TNDM.HB_CFG_HB_MISS)).tandemTo 6 5) [.sw, .units, .tandem]
        [0x11, 0x40, 0x41, 0x48, 0x50, 0x58, 0x70] := (s.dev.still.andThen Dev.moves_silentCounted).andThen Dev.moves_tandemTo
    have h6 : (s.dev.silentCounted (s.dev.fld TNDM.HB_CFG_HB_MISS)).tState ≠ 6 := by
      rw [Dev.tState_silentCounted]
      omega
    refine gives_runWhen (f := fun d => (d.silentCounted (d.fld TNDM.HB_CFG_HB_MISS)).tandemTo 6 5) rfl hon
      (by rw [decide_eq_true ⟨hlo, hhi⟩, decide_eq_true hd]; rfl) ?_
    rw [hm.under_eq]
    exact ⟨Dev.tState_alone h6, Dev.reason_alone h6 (by decide), Dev.raised_alone h6 (.inr rfl), Dev.raised_alone h6 (.inl rfl), hm⟩
  case silentNot =>
    refine idle_runWhen rfl ?_
    rcases h with h | h | h
    · rw [decide_eq_false (by omega)]
      rfl
    · rw [decide_eq_false (by omega)]
      rfl
    · rw [decide_eq_false (Nat.not_le.mpr h), Bool.and_false]
  case noKeys =>
    have h6 : s.dev.tState ≠ 6 := by rw [hst]; decide
    have hm := Dev.moves_tandemTo (d := s.dev) (new := 6) (r := 10)
    refine gives_runWhen rfl hon (by rw [decide_eq_true hst, hsrc]; rfl) ?_
    rw [Dev.keyTransfer_fails h, hm.under_eq]
    exact ⟨Dev.tState_alone h6, Dev.reason_alone h6 (by decide), Dev.raised_alone h6 (.inr rfl), hm.keeps_flow⟩
  case keys =>
    refine gives_runWhen rfl hon (by rw [decide_eq_true hst, hsrc]; rfl) ?_
    have h0 : s.dev.keyBlock bs 0 = x := hx.symm
    have h1 : s.dev.keyBlock bs 1 = y := hy.symm
    rw [Dev.keyTransfer_good hv hl (by rw [h0, h1]; exact hz), h0, h1]
    refine ⟨fun ho => ?_, fun ho hr => ?_⟩
    · rw [if_pos ho]
      refine ⟨Dev.moves_keyed.keeps_flow.trans Dev.flow_setKeys, ?_⟩
      exact (Dev.moves_keyed.on FLOW.KEY_STAT_VALID 0 rfl rfl).trans Dev.valid_setKeys
    · obtain ⟨hkp, hkl, hold, hcur⟩ := Dev.flow_rebuildStart (d := s.dev) (x := x) (y := y)
      rw [if_neg ho, if_neg hr, Dev.moves_rebuildStart.under_eq]
      exact ⟨hkp, hkl, hold, hcur, Dev.num_rebuildStart, Dev.moves_rebuildStart⟩
  case keysNot =>
    refine idle_runWhen rfl ?_
    rcases h with h | h
    · rw [decide_eq_false h]
      rfl
    · rw [h]
      exact Bool.and_false _
  case link =>
    have hx : ∃ load : Bool, exec c s = (s.act fun d => d.access 0x58 fun d => d.linkKeyCmd path load) ∧
        (load = true → c = .linkKeyLoad path) ∧ (load = false → c = .linkKeyErase path) := by
      rcases hc with rfl | rfl
      · exact ⟨true, rfl, fun _ => rfl, nofun⟩
      · exact ⟨false, rfl, nofun, fun _ => rfl⟩
    obtain ⟨load, hexec, hload, herase⟩ := hx
    refine gives_access hexec ho ?_
    have hm : s.dev.moves (s.dev.linkKeyCmd path load) [.tandem] [0x58] := by
      rw [Dev.linkKeyCmd_eq]
      exact ((s.dev.still.andThen Dev.moves_linkKeyCleared).set_tandem).setFld
    have hk : s.dev.keeps (s.dev.linkKeyCmd path load) [.regs, .tandem] := by
      rw [Dev.linkKeyCmd_eq]
      exact ((Dev.keeps_linkKeyCleared.weaken).set_tandem).setFld
    have hkey : (s.dev.linkKeyCmd path load).tandem.linkKey = if load then s.dev.linkKeyStaged path else [] := by
      rw [Dev.linkKeyCmd_eq, Dev.setFld_tandem, Dev.setTandem]
    have hvalid : (s.dev.linkKeyCmd path load).on TNDM.LINK_KEY_STAT_VALID = load := by
      rw [Dev.linkKeyCmd_eq, Dev.on_setFld_eq _ _ _ _ rfl]
      cases load <;> rfl
    rw [hm.under_eq]
    refine ⟨fun hx => ?_, fun hx => ?_, fun i hi => ?_, hk, hm.2⟩
    · cases load with
      | true => exact ⟨hkey, hvalid⟩
      | false => exact absurd ((herase rfl).symm.trans hx) nofun
    · cases load with
      | true => exact absurd ((hload rfl).symm.trans hx) nofun
      | false => exact ⟨hkey, hvalid⟩
    · rw [Dev.linkKeyCmd_eq, Dev.regP_setFld_apart _ _ _ _ _ _ _ (Reg.apart_of_off
        (by rw [Dev.linkKey_off, show TNDM.LINK_KEY.off = 0x440 from rfl, show TNDM.LINK_KEY_STAT_VALID.reg.off = 0x438 from rfl]; omega)
        (by rw [Dev.linkKey_off, show TNDM.LINK_KEY.off = 0x440 from rfl]; omega) (by decide)), Dev.setTandem_regP, Dev.regP_linkKeyCleared hi]

end

section
set_option Elab.async false
/-! Statistics, snapshots, latching reads, and the rings of samples and events (R427, R433, R434, R439 to R442). -/

namespace Sys2Proof.Machine
open Sys2Proof

/-- A module in reset of its registers, with a snapshot whose instant is reached by every island. -/
def snapState : State :=
  { dev := { Dev.reset with sup := { Dev.reset.sup with phase := .on }, obs := { Dev.reset.obs with snap := some (0, 1) } },
    pending := [] }

/-- `Dev.takeSnap` counts the snapshot in the word that it read before it set VALID, and so clears VALID again. -/
theorem snapState_notValid : snapState.dev.snapNow.on PERF.SNAP_STAT_VALID = false := by decide +kernel

end Sys2Proof.Machine

open Sys2Proof Sys2Proof.Machine

/-- Refutes O51: the snapshot that is taken increments the count of SNAP_STAT as it stood before VALID was set, which leaves VALID
as it was, clear after reset. -/
theorem not_countersAndEventRings : ¬ Obligations.CountersAndEventRings := by
  unfold Obligations.CountersAndEventRings
  rintro ⟨-, -, -, -, htake, -⟩
  obtain ⟨t, ht, -, -, -, htaken, -⟩ := htake snapState 0 1 rfl rfl (fun i _ => Nat.zero_le _) rfl rfl rfl rfl rfl
  have ht' : t.dev = snapState.dev.under snapState.dev.snapNow := by
    cases ht
    rfl
  obtain ⟨-, -, -, hvalid, -⟩ := htaken rfl
  rw [ht', Dev.under_on, snapState_notValid] at hvalid
  exact Bool.false_ne_true hvalid
end

section
set_option Elab.async false
/-! Entry into SPORE (R55, R56, R57). -/

namespace Sys2Proof.Machine
open Sys2Proof

/-- What a command leaves is one device: it is what each of two statements about the command says. -/
theorem Gives.and_of {c : Instr} {s : State} {p q : Dev → Prop} (hp : Gives c s p) (hq : Gives c s q) : ∃ d, p d ∧ q d := by
  obtain ⟨t, ht, -, hp⟩ := hp
  obtain ⟨u, hu, -, hq⟩ := hq
  obtain rfl : t = u := by
    rw [ht] at hu
    injection hu
  exact ⟨t.dev, hp, hq⟩

theorem gives_sporeDrainEnd {s : State} (hon : s.On) (he : s.dev.entryAt 0 0 = true) (hd : s.dev.drained = true) :
    Gives .sporeDrainEnd s fun d => d = s.dev.under s.dev.drainEnd :=
  gives_actWhen (f := Dev.drainEnd) rfl hon (by rw [he, hd, Bool.true_or, Bool.and_self]) rfl

theorem Dev.under_storeOf (d e : Dev) (c : Nat) : (d.under e).storeOf c = e.storeOf c := rfl

/-- A module at the end of the drain of SPORE, whose task store names the same place twice: free first, then with a blocked task. -/
def twiceState : State :=
  { dev := { ({ Dev.reset with sup := { Dev.reset.sup with phase := .on } } : Dev).setFld PWRM.SLEEP_STAT_STATE 1 with
      eng := { Dev.reset.eng with tasks := [(0, none), (0, some { state := 3 })] } }, pending := [] }

/-- No place of the store holds a task by its index, so the end of the drain has none to kill or to spill. -/
theorem twiceState_keepsTask : (twiceState.dev.drainEnd.storeOf 0).length = 1 := by decide +kernel

end Sys2Proof.Machine

open Sys2Proof Sys2Proof.Machine

/-- Refutes O14: the statement asks nothing of the task store's map, and where that names a place twice, free first, the end of the
drain finds no task at the place, and the second entry stays in the store. -/
theorem not_sporeEntry : ¬ Obligations.SporeEntry := by
  unfold Obligations.SporeEntry
  rintro ⟨-, -, -, -, -, hdrain, -⟩
  have hentry : twiceState.dev.entryAt 0 0 = true := by decide +kernel
  have hdrained : twiceState.dev.drained = true := by decide +kernel
  obtain ⟨d, ⟨-, -, hstore, -⟩, hd⟩ := (hdrain twiceState rfl hentry (.inl hdrained)).and_of
    (gives_sporeDrainEnd rfl hentry hdrained)
  have hempty := congrArg List.length (hstore 0 (by decide))
  rw [hd, Dev.under_storeOf] at hempty
  exact absurd (twiceState_keepsTask.symm.trans hempty) (by decide)
end

section
set_option Elab.async false
/-! Register accesses (R6, R7, R69 to R77). -/

namespace Sys2Proof.Machine
open Sys2Proof

/-- A ready module in which a frame has waited for copy entries for 10 ns. -/
def waitingState : State :=
  { dev := { ({ Dev.reset with sup := { Dev.reset.sup with phase := .on }, clk := { Dev.reset.clk with up := 100 } } : Dev).setNum
      TOP.BOOT_STATUS (11 * 65536 + 1) with sw := { Dev.reset.sw with waitTm := [(0, 0)] } }, pending := [] }

/-- The cycles that the frame has waited are counted at the read, and the frame's wait counts from there on. -/
theorem waitingState_settles : (waitingState.dev.busAnswer 0 0x48404).sw.waitTm = [(0, 100)] := by decide +kernel

theorem gives_readClear {s : State} {path off : Nat} (hon : s.On) :
    Gives (.readClear path off) s fun d => d = s.dev.under (s.dev.busAnswer path off) :=
  gives_act rfl hon rfl

theorem Dev.under_waitTm (d e : Dev) : (d.under e).sw.waitTm = e.sw.waitTm := rfl

end Sys2Proof.Machine

open Sys2Proof Sys2Proof.Machine

/-- Refutes O16: COPY_WAIT is a register of type RC that its read brings up to date first: the read moves the marks from which the
waits of the frames at the crossing count, and returns what the register did not hold before. -/
theorem not_registerAccesses : ¬ Obligations.RegisterAccesses := by
  unfold Obligations.RegisterAccesses
  rintro ⟨-, -, -, -, -, -, -, -, hread, -⟩
  have hopen : waitingState.dev.pageOpen 0x48 = true := by decide +kernel
  have hplain : waitingState.dev.readsPlain 0 0x48 0x404 :=
    ⟨by decide, by decide +kernel, by decide +kernel, by decide +kernel⟩
  obtain ⟨d, ⟨-, -, hkeeps, -⟩, hd⟩ := (hread waitingState 0 0x48 0x404 TMGR.COPY_WAIT (by decide) (by decide) (by decide) (by decide)
    (by decide) ⟨rfl, hopen⟩ hplain (by decide +kernel) rfl).and_of (gives_readClear rfl)
  have hsw : d.sw.waitTm = waitingState.dev.sw.waitTm := congrArg _ (hkeeps .sw (by decide))
  rw [hd, Dev.under_waitTm, waitingState_settles] at hsw
  revert hsw
  decide +kernel
end

section
set_option Elab.async false
/-! Replication, age queries and resynchronisation (R412, R415 to R418, R420, R421). -/

namespace Sys2Proof.Machine
open Sys2Proof

/-- The delete of an empty slot that a resync sends, with the key bits `x`, as it stands in the replication queue. -/
def deleteMessage (s st x : Nat) : List Byte :=
  leBytes 1 2 ++ leBytes 3 3 ++ leBytes 4 s ++ leBytes 8 st ++ leBytes 16 x

/-- Whether an output is no frame, or a frame of 64 bytes. -/
def fullSize : Output → Bool
  | .frame _ bs _ => bs.length = 64
  | _ => true

theorem recWide_narrow (x : Nat) : recWide (setBits x 0 2 1) = false := by
  have h : setBits x 0 2 1 % 4 = 1 := by
    unfold setBits
    omega
  rw [recWide, h]
  rfl

theorem replMessage_narrow (s st x : Nat) :
    replMessage 2 3 s st (setBits x 0 2 1) = deleteMessage s st (bitsOf (setBits x 0 2 1) 0 124) := by
  unfold replMessage deleteMessage
  rw [recWide_narrow]
  rfl

theorem length_replMessage_delete (s st k : Nat) : (replMessage 2 3 s st k).length = 32 ∨ (replMessage 2 3 s st k).length = 56 := by
  unfold replMessage
  cases recWide k <;> simp [length_leBytes]

theorem length_withFcs (bs : List Byte) : (withFcs bs).length = bs.length + 4 := by
  rw [withFcs, List.length_append, length_leBytes]

namespace Dev
variable {d : Dev} {s digest stamp n : Nat} {aged due : Bool}

theorem length_tandemFrame {body : List Byte} : (d.tandemFrame n body).length = 15 + body.length := by
  simp [tandemFrame, ctrlSa, beBytes, length_leBytes]
  omega

theorem resyncKeep_empty (h : d.recordAt false s = 0) :
    d.resyncKeep s digest = d.freed.replQueue (deleteMessage s (d.stamp 8).toNat
      (bitsOf (setBits (d.freeVal.toNat % 2 ^ 124) 0 2 1) 0 124)) := by
  rw [resyncKeep, h, if_pos rfl, replMessage_narrow]

theorem resyncDiffer_kept (h : d.keepOwn s digest stamp aged due = (true, false)) :
    d.resyncDiffer s digest stamp aged due = (d.bump (TNDM.CNT.ix 6)).resyncKeep s digest := by
  rw [resyncDiffer, h]
  rfl

theorem resyncEntry_differs (hclosed : ¬((d.flow.opened.get none d.resyncSlot).isSome = true ∨ d.altMask ≤ d.tandem.cursor))
    (hid : d.tandemId = 0) (hdiffer : ¬(d.digest d.resyncSlot = digest ∨ slotKind (d.slotAt false d.resyncSlot) = 3))
    (hstate : (d.resyncDiffer d.resyncSlot digest stamp aged due).tState = 4) :
    d.resyncEntry digest stamp aged due = (d.resyncDiffer d.resyncSlot digest stamp aged due).resyncNext.resyncAsk := by
  rw [resyncEntry]
  dsimp only
  rw [if_neg hclosed, if_pos hid, if_neg hdiffer, if_pos hstate]

end Dev

theorem gives_resyncEntry {s : State} {digest stamp : Nat} {aged due : Bool} (hon : s.Awake) (ht : s.dev.tState = 4)
    (hrun : s.dev.opState TNDM.RESYNC_STAT = 1) :
    Gives (.resyncEntry digest stamp aged due) s fun d => d = s.dev.under (s.dev.resyncEntry digest stamp aged due) :=
  gives_runWhen (f := fun d => d.resyncEntry digest stamp aged due) rfl hon (by simp [ht, hrun]) rfl

/-- A module in RESYNC, at the cursor's first slot, which is empty and of which its journal alone knows a change. -/
def resyncState : State :=
  { dev := { ((({ Dev.reset with sup := { Dev.reset.sup with phase := .on } } : Dev).setFld TNDM.STATE_STATE 4).setNum
      TNDM.RESYNC_STAT 1).setPortState 33 5 with tandem := { Dev.reset.tandem with journal := [(0, 1)] } }, pending := [] }

/-- What the comparison of the first slot with an entry of the peer's leaves. -/
def resyncSent : Dev :=
  let d := resyncState.dev.bump (TNDM.CNT.ix 6)
  (d.freed.replQueue (deleteMessage 0 (d.stamp 8).toNat (bitsOf (setBits (d.freeVal.toNat % 2 ^ 124) 0 2 1) 0 124))).resyncNext.resyncAsk


theorem resyncState_differs : resyncState.dev.resyncDiffer 0 1 0 false false =
    (let d := resyncState.dev.bump (TNDM.CNT.ix 6)
     d.freed.replQueue (deleteMessage 0 (d.stamp 8).toNat (bitsOf (setBits (d.freeVal.toNat % 2 ^ 124) 0 2 1) 0 124))) := by
  rw [Dev.resyncDiffer_kept (by decide +kernel), Dev.resyncKeep_empty (by decide +kernel)]

theorem resyncState_entry : resyncState.dev.resyncEntry 1 0 false false = resyncSent := by
  have hslot : resyncState.dev.resyncSlot = 0 := by decide +kernel
  have hstate : (resyncState.dev.resyncDiffer resyncState.dev.resyncSlot 1 0 false false).tState = 4 := by
    rw [hslot, resyncState_differs]
    decide +kernel
  rw [Dev.resyncEntry_differs (by decide +kernel) (by decide +kernel) (by decide +kernel) hstate, hslot, resyncState_differs]
  rfl

theorem resyncState_keepsOwn : (resyncState.dev.keepOwn 0 1 0 false false).1 = true := by decide +kernel

/-- What leaves is a frame of full size, padded after the message, and the next entry. -/
theorem resyncSent_padded : resyncSent.out.all fullSize = true := by decide +kernel

end Sys2Proof.Machine

open Sys2Proof Sys2Proof.Machine

/-- Refutes O50: the delete that a resync sends for an empty slot has 32 bytes and leaves in a frame that is padded after it, which is no
frame of the message alone, whatever its key. -/
theorem not_replicationAndResync : ¬ Obligations.ReplicationAndResync := by
  unfold Obligations.ReplicationAndResync
  rintro ⟨-, -, -, -, -, -, -, -, -, -, -, -, hdiffer, -⟩
  have hstate : resyncState.dev.tState = 4 := by decide +kernel
  have hrun : resyncState.dev.opState TNDM.RESYNC_STAT = 1 := by decide +kernel
  have hempty : resyncState.dev.recordAt false 0 = 0 := by decide +kernel
  obtain ⟨d, ⟨-, -, hsent, -⟩, hd⟩ := (hdiffer resyncState 1 0 0 0 false false ⟨rfl, rfl⟩ hstate hrun (by decide +kernel) (by decide +kernel)
    (by decide +kernel) (by decide +kernel) (by decide +kernel) hempty.symm).and_of (gives_resyncEntry ⟨rfl, rfl⟩ hstate hrun)
  obtain ⟨k, hk⟩ := hsent (by rw [resyncState_keepsOwn]) rfl rfl (by decide +kernel) (by decide +kernel)
  rw [hd, Dev.under_out, resyncState_entry] at hk
  have hsize : (withFcs (resyncState.dev.tandemFrame 2 (replMessage 2 3 0 (resyncState.dev.stamp 8).toNat k))).length = 64 :=
    of_decide_eq_true (List.all_eq_true.mp resyncSent_padded _ hk)
  rw [length_withFcs, Dev.length_tandemFrame] at hsize
  have := length_replMessage_delete 0 (resyncState.dev.stamp 8).toNat k
  omega
end

section
set_option Elab.async false
/-! Sends of tasks (R239, R302). -/

namespace Sys2Proof.Machine
open Sys2Proof

/-- The last byte of a run that is written to the scratchpad stands where it falls, round the end of the scratchpad. -/
theorem Dev.spad_spadWrite_last (d : Dev) (c a : Nat) (bs : List Byte) (b : Byte) :
    (d.spadWrite c a (bs ++ [b])).eng.spad.get 0 (spadKey c (a + bs.length)) = b := by
  simp only [spadWrite, List.length_append, List.length_singleton, List.range_succ]
  rw [List.zip_append List.length_range.symm, List.foldl_append]
  exact SMap.get_set_same _ _ _ _

/-- A run whose last byte, a 0, falls on the flags of the export descriptor turns the export queue off. -/
theorem Dev.exportRoom_spadWrite_flags (d : Dev) (c a : Nat) (bs : List Byte) (h : (a + bs.length) % 2 ^ 20 = 0x2837F) :
    (d.spadWrite c a (bs ++ [0])).exportRoom c = false := by
  have hflags : (d.spadWrite c a (bs ++ [0])).eng.spad.get 0 (spadKey c 0x2837F) = 0 := by
    have hkey : spadKey c (a + bs.length) = spadKey c 0x2837F := congrArg (c * 2 ^ 20 + ·) (h.trans rfl)
    exact hkey ▸ Dev.spad_spadWrite_last d c a bs 0
  have hread : (d.spadWrite c a (bs ++ [0])).exportDesc c 63 1 = leNat [0] :=
    congrArg (fun b => leNat [b]) hflags
  rw [Dev.exportRoom, Dev.exportEn, hread]
  rfl

theorem Dev.exportQ_under (d e : Dev) (c : Nat) : (d.under e).exportQ c = e.exportQ c := rfl
theorem Dev.exportQ_updThread (d : Dev) (k c : Nat) (f : Thread → Thread) : (d.updThread k f).exportQ c = d.exportQ c := rfl
theorem Dev.exportQ_spadWrite (d : Dev) (k c a : Nat) (bs : List Byte) : (d.spadWrite k a bs).exportQ c = d.exportQ c := rfl
theorem Dev.exportQ_setPlan (d : Dev) (k c : Nat) (p : LibPlan) : (d.setPlan k p).exportQ c = d.exportQ c := rfl

theorem Dev.planned_made {d : Dev} {k : Nat} {p : LibPlan} (t : Task) (h : (d.thread k).plan = some p) : d.planned k t = d := by
  rw [Dev.planned, h]
  rfl

theorem Dev.planOf_made {d : Dev} {k : Nat} {p : LibPlan} (t : Task) (h : (d.thread k).plan = some p) : d.planOf k t = p := by
  rw [Dev.planOf, h]

/-- A command of the library's program acts on the plan that stands, where that waits for no cookie. -/
theorem Dev.withPlan_made {d : Dev} {k : Nat} {p : LibPlan} {t : Task} {f : Dev → LibPlan → Dev} (h : (d.thread k).plan = some p)
    (ha : p.ask = none) : d.withPlan k t f = f d p := by
  simp only [Dev.withPlan, Dev.planned_made t h, Dev.planOf_made t h, ha]
  rfl

/-- EMIT of the library's program where the queue has no room once the record is staged. -/
theorem gives_emitWaits {s : State} {frond thread i n m : Nat} {t : Task} {p : LibPlan} {bs : List Byte} {r : List (Nat × List Byte)}
    {sp : Option Nat} {l : Bool} (hon : s.Awake) (hrun : s.dev.running (thrKey frond thread) = some (i, t))
    (hp : (s.dev.thread (thrKey frond thread)).plan = some p) (he : p.emit = (m, bs) :: r) (ha : p.ask = none)
    (hroom : ((s.dev.setPlan (thrKey frond thread) { p with emit := r }).spadWrite (frond % 8) (stagingOf (thrKey frond thread)) bs).exportRoom
      (frond % 8) = false) :
    Gives (.emit frond thread .library sp l n) s fun d => d.exportQ (frond % 8) = s.dev.exportQ (frond % 8) := by
  refine gives_run rfl hon ?_
  rw [Dev.onProg, Dev.onThread, hrun]
  simp only [Dev.withPlan_made hp ha, he, Dev.emitRecord, thrFrond_thrKey, hroom]
  rw [if_neg Bool.false_ne_true, Dev.exportQ_under, Dev.exportQ_updThread, Dev.exportQ_spadWrite, Dev.exportQ_setPlan]

/-- Bytes that reach from the staging area of thread 0 round the end of the scratchpad to the byte before the descriptor's flags. -/
def roundBytes : List Byte := List.replicate 918399 0

theorem roundBytes_reach : (0x48000 + roundBytes.length) % 2 ^ 20 = 0x2837F := by
  have hlen : roundBytes.length = 918399 := List.length_replicate
  omega

/-- A thread whose plan is to export so long a record that, staged, it clears the enable bit of the export descriptor. -/
def roundState : State :=
  { dev := { Dev.reset with
      sup := { Dev.reset.sup with phase := .on },
      eng := { Dev.reset.eng with
        spad := [(0x2837F, 1)]
        tasks := [(0, some {})]
        threads := [(0, { task := some 0, plan := some { emit := [(0, roundBytes ++ [0])] } })] } },
    pending := [] }

end Sys2Proof.Machine

open Sys2Proof Sys2Proof.Machine

/-- Refutes O32: the statement says nothing of how long the record is that the library exports; one that reaches round the end of the
scratchpad, from the staging area to the export descriptor, turns the queue off as it is staged, and the EMIT waits. -/
theorem not_sendsOfTasks : ¬ Obligations.SendsOfTasks := by
  unfold Obligations.SendsOfTasks
  rintro ⟨-, -, -, -, -, -, -, -, -, -, -, -, -, -, -, -, -, hemit, -⟩
  have hoff : ((roundState.dev.setPlan 0 { emit := [] }).spadWrite 0 0x48000 (roundBytes ++ [0])).exportRoom 0 = false :=
    Dev.exportRoom_spadWrite_flags _ _ _ _ roundBytes_reach
  obtain ⟨d, ⟨-, hrecs, -⟩, hq⟩ :=
    (hemit roundState 0 0 0 0 0 {} { emit := [(0, roundBytes ++ [0])] } (roundBytes ++ [0]) [] none false ⟨rfl, rfl⟩ rfl rfl rfl rfl
      (by decide +kernel)).and_of (gives_emitWaits ⟨rfl, rfl⟩ rfl rfl rfl rfl hoff)
  rw [hq] at hrecs
  exact absurd (congrArg List.length hrecs) (by rw [List.length_append]; exact Nat.ne_of_lt (Nat.lt_succ_self _))
end

section
set_option Elab.async false
/-! The EDIT builder and the hash units (R240, R242). -/

namespace Sys2Proof.Machine
open Sys2Proof

theorem Dev.keeps.freed {d0 d : Dev} {P : List Part} (h : d0.keeps d P) (hp : P.contains .frees = true := by rfl) : d0.keeps d.freed P :=
  h.of_part .frees hp fun p hp => by cases p with | frees => exact absurd rfl hp | _ => rfl

/-! ### Registers of a thread -/

theorem Thread.rg_wg_same (t : Thread) {i : Nat} (v : Nat) (h : i % 32 ≠ 0) : (t.wg i v).rg i = v % 2 ^ 32 := by
  rw [Thread.rg, Thread.wg, if_neg h, if_neg h]
  exact SMap.get_set_same _ _ _ _

theorem Thread.rg_wg_ne (t : Thread) {i j : Nat} (v : Nat) (h : j % 32 ≠ i % 32) : (t.wg i v).rg j = t.rg j := by
  rw [Thread.wg]
  split
  · rfl
  · rw [Thread.rg, Thread.rg]
    exact ite_congr rfl (fun _ => rfl) fun _ => SMap.get_set_ne _ _ _ _ h

theorem Thread.rg_setUnit (t : Thread) (i st : Nat) : (t.setUnit st).rg i = t.rg i := rfl

/-! ### Bytes of a place -/

theorem length_flatMap_leBytes (m k : Nat) (f : Nat → Nat) : ((List.range m).flatMap fun i => leBytes k (f i)).length = m * k := by
  simp only [List.length_flatMap, length_leBytes, List.map_const', List.sum_replicate, List.length_range, smul_eq_mul]

theorem Dev.length_readPlace (d : Dev) (t : Task) (th : Thread) (p : EngPlace) (n : Nat) : (d.readPlace t th p n).length = n := by
  cases p with
  | g i =>
    rw [Dev.readPlace, List.length_take, length_flatMap_leBytes]
    omega
  | v i =>
    rw [Dev.readPlace, List.length_take, length_flatMap_leBytes]
    omega
  | win w layer off => simp only [Dev.readPlace, List.length_map, List.length_range]
  | field lo len => rw [Dev.readPlace, length_leBytes]

end Sys2Proof.Machine

namespace Sys2Proof.Machine
open Sys2Proof
variable {s : State} {c : Instr} {frond thread k i dst : Nat} {t : Task} {f : Dev → Task → Thread → Nat}

/-- A command of the last group that leaves nothing but the thread. -/
theorem Dev.keeps_setThread_groupDone {d : Dev} {g : Nat} {th : Thread} : d.keeps ((d.groupDone k g 3).setThread k th) [.eng] :=
  Dev.keeps_groupDone.set_eng

/-- A hash call of a thread (R240). -/
theorem gives_hashCall (h : exec c s = s.run fun d => d.hashCall k dst (f d)) (hon : s.Awake) (ha : s.dev.acts k 3 3 i t)
    (hv : f s.dev t (s.dev.thread k) < 2 ^ 32) :
    Gives c s fun d => d.thread k = ((s.dev.thread k).wg dst (f s.dev t (s.dev.thread k))).setUnit 0 ∧
      (dst % 32 ≠ 0 → (d.thread k).rg dst = f s.dev t (s.dev.thread k)) ∧ (d.thread k).sts / 256 % 256 = 0 ∧
      s.dev.moves d [.draws, .frees, .eng] [0x60] := by
  refine gives_onLast h hon ha ?_
  have hm {a b w x y z : Nat} {th : Thread} : s.dev.moves ((((s.dev.groupDone k 3 3).opSample a b w x y z).setThread k th).freed)
      [.draws, .frees, .eng] [0x60] := ((Dev.moves_groupDone.mono).andThen Dev.moves_opSample).set_eng.freed
  simp only
  rw [hm.under_eq]
  have hth {a b w x y z : Nat} {th : Thread} : ((((s.dev.groupDone k 3 3).opSample a b w x y z).setThread k th).freed).thread k = th :=
    Dev.thread_setThread_same _ _ _
  rw [hth]
  refine ⟨rfl, fun hd => ?_, ?_, hm⟩
  · rw [Thread.rg_setUnit, Thread.rg_wg_same _ _ hd, Nat.mod_eq_of_lt hv]
  · rw [Thread.unit_setUnit]

theorem peerPart_lt (kp : Nat) (v6 : Bool) (zone proto : Nat) (e : EndPt) : peerPart kp v6 zone proto e < 2 ^ 32 :=
  (Nat.mod_lt _ (by decide)).trans (by decide)

theorem localHash_lt (kl : Nat) (v6 : Bool) (e : EndPt) : localHash kl v6 e < 2 ^ 32 :=
  (Nat.mod_lt _ (by decide)).trans (by decide)

section
variable {n m : Nat} {w : Word} {v6 : Bool} {a b e x : EngSrc} {p : EngPlace}

theorem idle_hashCall (h : exec c s = s.run fun d => d.hashCall k dst (f d))
    (hi : s.dev.running k = none ∨ s.dev.mayIssue k = false ∨ s.dev.groupFree k 3 = false) : Idle c s :=
  idle_runSelf h (Dev.onLast_idle hi)

theorem idle_unitWord (hc : c = .peerh frond thread v6 a b e x dst ∨ c = .localh frond thread v6 a b dst ∨
      c = .khash frond thread p n m dst ∨ c = .rand frond thread dst)
    (h : s.dev.running (thrKey frond thread) = none ∨ s.dev.mayIssue (thrKey frond thread) = false ∨
      s.dev.groupFree (thrKey frond thread) 3 = false) : Idle c s := by
  rcases hc with rfl | rfl | rfl | rfl
  · exact idle_hashCall rfl h
  · exact idle_hashCall rfl h
  · exact idle_hashCall rfl h
  · exact idle_onLast rfl h

theorem idle_editWord (hc : c = .eClear frond thread ∨ c = .eOp frond thread w ∨ c = .eData frond thread p n dst ∨
      c = .peerh frond thread v6 a b e x dst ∨ c = .localh frond thread v6 a b dst ∨ c = .khash frond thread p n m dst ∨
      c = .rand frond thread dst)
    (h : s.dev.running (thrKey frond thread) = none ∨ s.dev.mayIssue (thrKey frond thread) = false) : Idle c s := by
  rcases hc with rfl | rfl | rfl | hc
  · exact idle_onLast rfl (h.imp_right .inl)
  · exact idle_onLast rfl (h.imp_right .inl)
  · exact idle_onLast rfl (h.imp_right .inl)
  · exact idle_unitWord hc (h.imp_right .inl)

end

end Sys2Proof.Machine

open Sys2Proof Sys2Proof.Machine

/-- Settles O35. -/
theorem editsAndHashes : Obligations.EditsAndHashes := by
  unfold Obligations.EditsAndHashes
  refine ⟨?_, ?_, ?_, ?_, ?_, ?_, ?_⟩
  · intro s frond thread i t th hon ha hth
    subst hth
    refine gives_onLast rfl hon ha ?_
    rw [Dev.keeps_setThread_groupDone.under_eq]
    exact ⟨Dev.thread_setThread_same _ _ _, Dev.keeps_setThread_groupDone⟩
  · intro s frond thread i t th w hon ha hth
    subst hth
    refine gives_onLast rfl hon ha ?_
    rw [Dev.keeps_setThread_groupDone.under_eq, Dev.thread_setThread_same]
    refine ⟨fun h => ?_, fun h => ?_, Dev.keeps_setThread_groupDone⟩
    · rw [if_neg (Nat.not_le.mpr h), Nat.mod_eq_of_lt w.isLt]
      exact ⟨rfl, rfl⟩
    · rw [if_pos h]
  · intro s frond thread i len dst t th src bs hon ha hth hbs
    subst hth
    refine gives_onLast rfl hon ha ?_
    have hk {th : Thread} : s.dev.keeps ((s.dev.groupDone (thrKey frond thread) 0 3).setThread (thrKey frond thread) th).freed
        [.frees, .eng] :=
      Dev.keeps.freed (Dev.keeps.weaken Dev.keeps_setThread_groupDone)
    simp only [Dev.length_readPlace]
    rw [hk.under_eq]
    have hth {th : Thread} : ((s.dev.groupDone (thrKey frond thread) 0 3).setThread (thrKey frond thread) th).freed.thread
        (thrKey frond thread) = th := Dev.thread_setThread_same _ _ _
    rw [hth]
    refine ⟨fun h => ?_, fun h => ?_, hk⟩
    · rw [if_neg (Nat.not_lt.mpr h), hbs]
      refine ⟨rfl, fun hd => (Thread.rg_wg_same _ _ hd).trans (Nat.mod_eq_of_lt ?_)⟩
      omega
    · rw [if_pos h]
  · rintro s c frond thread i dst h t th hon ha rfl hc
    rcases hc with ⟨v6, zone, proto, port, addr, rfl, rfl⟩ | ⟨v6, port, addr, rfl, rfl⟩ | ⟨src, len, key, rfl, rfl⟩
    · exact gives_hashCall (c := .peerh frond thread v6 zone proto port addr dst) rfl hon ha (peerPart_lt _ _ _ _ _)
    · exact gives_hashCall (c := .localh frond thread v6 port addr dst) rfl hon ha (localHash_lt _ _ _)
    · exact gives_hashCall (c := .khash frond thread src len key dst) rfl hon ha (Nat.mod_lt _ (by decide))
  · intro s frond thread i dst t th hon ha hth hdst
    subst hth
    refine gives_onLast rfl hon ha ?_
    have hk {th : Thread} : s.dev.keeps ((s.dev.groupDone (thrKey frond thread) 3 3).setThread (thrKey frond thread) th).drawn
        [.draws, .eng] := Dev.keeps.drawn (Dev.keeps.weaken Dev.keeps_setThread_groupDone)
    have hth {th : Thread} : ((s.dev.groupDone (thrKey frond thread) 3 3).setThread (thrKey frond thread) th).drawn.thread
        (thrKey frond thread) = th := Dev.thread_setThread_same _ _ _
    rw [hk.under_eq, hth, Thread.rg_setUnit, Thread.rg_wg_same _ _ hdst, Nat.mod_mod]
    exact ⟨rfl, rfl, fun j hj => Thread.rg_wg_ne _ _ hj, hk⟩
  · intro s c frond thread n m dst w v6 a b e f p hc hon h
    exact idle_editWord hc h
  · intro s c frond thread n m dst v6 a b e f p hc hon h
    exact idle_unitWord hc (.inr (.inr h))
end

section
set_option Elab.async false
/-! Learning and the host tables (R173, R177 to R184). -/

namespace Sys2Proof.Machine.Dev
open Sys2Proof
variable {d : Dev} {pipe i j k gen index dom key op mask code ok : Nat} {x : Learn} {r : List Learn}

/-! ### Entries of the host tables -/

theorem hostAt_setHost_same (d : Dev) (i e : Nat) : (d.setHost i e).hostAt i = e := SMap.get_set_same _ _ _ _
theorem hostAt_setHost_ne (d : Dev) (e : Nat) (h : j ≠ i) : (d.setHost i e).hostAt j = d.hostAt j := SMap.get_set_ne _ _ _ _ h
theorem hostAt_setCache (l : List Learn) : (d.setCache pipe l).hostAt j = d.hostAt j := rfl
theorem hostAt_fwdCnt : (d.fwdCnt pipe k).hostAt j = d.hostAt j := rfl

theorem hostAt_cachePut : (d.cachePut pipe x).hostAt j = d.hostAt j := by
  unfold cachePut
  dsimp only
  split <;> rfl

theorem learns_setHost (e : Nat) : (d.setHost i e).look.learns = d.look.learns := rfl

theorem learns_cachePut : (d.cachePut pipe x).look.learns = d.look.learns := by
  unfold cachePut
  dsimp only
  split <;> rfl

theorem moves_cachePut : d.moves (d.cachePut pipe x) [.look] [0x28] := by
  unfold cachePut fwdCnt
  exact d.still.setCache.ite d.still.setCache.bump

theorem hostRoom_free {ways : List Nat} {fuel : Nat} (h : ways.find? d.hostFree = some i) :
    Dev.hostRoom fuel d gen pipe ways 1 = some (d, [i]) := by
  have hhead : (ways.filter d.hostFree).head? = some i := by rw [List.head?_filter, h]
  obtain ⟨l, hl⟩ := List.head?_eq_some_iff.mp hhead
  unfold Dev.hostRoom
  dsimp only
  rw [hl, if_pos (show 1 ≤ (i :: l).length from Nat.le_add_left 1 l.length)]
  rfl

/-! ### The stream of learns -/

/-- A pipeline's stream without its oldest learn. -/
def learnTaken (d : Dev) (pipe : Nat) (r : List Learn) : Dev :=
  { d with look := { d.look with learns := d.look.learns.set [] pipe r } }

theorem learns_learnTaken : (d.learnTaken pipe r).look.learns.get [] pipe = r := SMap.get_set_same _ _ _ _
theorem keeps_learnTaken : d.keeps (d.learnTaken pipe r) [.look] := (keeps.refl d).of_part .look rfl fun p hp => by
  cases p with
  | look => exact absurd rfl hp
  | _ => rfl
theorem moves_learnTaken : d.moves (d.learnTaken pipe r) [.look] [] := d.still.set_look
theorem hostAt_learnTaken : (d.learnTaken pipe r).hostAt j = d.hostAt j := rfl
theorem upSec_learnTaken : (d.learnTaken pipe r).upSec = d.upSec := rfl
theorem hostFind_learnTaken {ty : Nat} : (d.learnTaken pipe r).hostFind k ty dom key = d.hostFind k ty dom key := rfl
theorem hostBucket_learnTaken {ty : Nat} : (d.learnTaken pipe r).hostBucket ty dom key = d.hostBucket ty dom key := rfl
theorem hostFree_learnTaken : (d.learnTaken pipe r).hostFree = d.hostFree := rfl
theorem learnStale_learnTaken : (d.learnTaken pipe r).learnStale k x = d.learnStale k x := rfl

theorem learnNext_off (h : d.look.learns.get [] pipe = x :: r) (he : d.enabled 0x28 = false) : d.learnNext pipe = d.learnTaken pipe r := by
  unfold learnNext
  rw [h]
  exact if_neg (Bool.eq_false_iff.mp he)

theorem learnNext_on (h : d.look.learns.get [] pipe = x :: r) (he : d.enabled 0x28 = true) :
    d.learnNext pipe = (d.learnTaken pipe r).learnApply pipe x false := by
  unfold learnNext
  rw [h]
  exact if_pos he

/-- A new entry of a learn that came on the stream. -/
def learned (d : Dev) (pipe i : Nat) (x : Learn) : Dev :=
  (d.setHost i (hostEntry 1 x.mac x.dom false false 0 x.port d.upSec)).cachePut pipe x

theorem moves_learned : d.moves (d.learned pipe i x) [.look] [0x28] := d.still.setHost.andThen moves_cachePut

theorem learnApply_new (hfind : d.hostFind pipe 1 x.dom x.mac = none) (hstale : d.learnStale pipe x = false)
    (hfree : (hostWays pipe (d.hostBucket 1 x.dom x.mac)).find? d.hostFree = some i) :
    d.learnApply pipe x false = d.learned pipe i x := by
  unfold learnApply
  simp only [hfind, hstale, hostRoom_free hfree]
  rfl

theorem learnApply_held (hfind : d.hostFind pipe 1 x.dom x.mac = some i) (h : hostStatic (d.hostAt i) = true ∨ hostLock (d.hostAt i) = true) :
    d.learnApply pipe x false = d ∨ d.learnApply pipe x false = d.fwdCnt pipe 7 := by
  unfold learnApply
  simp only [hfind, Bool.false_and]
  by_cases hs : hostStatic (d.hostAt i) = true
  · rw [if_pos hs]
    exact .inl rfl
  · rw [if_neg hs, if_pos (h.resolve_left hs)]
    exact .inr rfl

theorem cacheOf_cacheExpire : (d.cacheExpire pipe).cacheOf pipe = (d.cacheOf pipe).filter fun x =>
    decide (d.islandNs (islandOfPipe pipe) < x.stamp + d.fld FWDT.LEARN_CFG_LEARN_WIN * 1000) := SMap.get_set_same _ _ _ _

theorem keeps_cacheExpire : d.keeps (d.cacheExpire pipe) [.look] := (keeps.refl d).of_part .look rfl fun p hp => by
  cases p with
  | look => exact absurd rfl hp
  | _ => rfl

/-! ### Storms -/

/-- A pipeline's count of moves begins again. -/
def stormCleared (d : Dev) (pipe : Nat) : Dev :=
  { d with look := { d.look with moves := d.look.moves.set 0 pipe 0, stormAt := d.look.stormAt.set 0 pipe d.clk.up } }

theorem moves_stormCleared : d.moves (d.stormCleared pipe) [.look] [] := d.still.set_look
theorem count_stormCleared : (d.stormCleared pipe).look.moves.get 0 pipe = 0 := SMap.get_set_same d.look.moves 0 pipe 0
theorem stormAt_stormCleared : (d.stormCleared pipe).look.stormAt.get 0 pipe = d.clk.up := SMap.get_set_same _ _ _ _

/-- An event about the moves of the window that has ended. -/
def stormLog (d e : Dev) (pipe code : Nat) : Dev :=
  e.log (islandOfPipe pipe) code pipe (d.look.moves.get 0 pipe) (d.look.lastMove.get 0 pipe) (d.look.lastMove.get 0 pipe / 2 ^ 32 % 65536)

theorem stormWindow_begins (hs : bitOf (d.fld FWDT.HT_STAT_STORM) pipe = false)
    (hn : d.fld FWDT.STORM_CFG_STORM_MAX < d.look.moves.get 0 pipe) :
    d.stormWindow pipe = d.stormLog (((d.stormCleared pipe).setFld FWDT.HT_STAT_STORM
      (d.fld FWDT.HT_STAT_STORM ||| 1 <<< pipe)).raise FWDT.int_MOVE_STORM) pipe 0x2805 := by
  unfold stormWindow
  dsimp only
  rw [hs, if_pos (by rw [decide_eq_true hn]; rfl)]
  rfl

theorem stormWindow_ends (hs : bitOf (d.fld FWDT.HT_STAT_STORM) pipe = true)
    (hn : d.look.moves.get 0 pipe ≤ d.fld FWDT.STORM_CFG_STORM_MAX / 2) :
    d.stormWindow pipe = d.stormLog ((d.stormCleared pipe).setFld FWDT.HT_STAT_STORM
      (d.fld FWDT.HT_STAT_STORM &&& (0xF ^^^ 1 <<< pipe))) pipe 0x2806 := by
  unfold stormWindow
  dsimp only
  rw [hs, if_neg (by simp), if_pos (by rw [decide_eq_true hn]; rfl)]
  rfl

theorem look_stormLog {e : Dev} : (d.stormLog e pipe code).look = e.look := log_look ..

theorem bitOf_storm_set {n : Nat} (h : pipe < 4) : bitOf ((n ||| 1 <<< pipe) % 2 ^ 4) pipe = true := by
  rw [bitOf_testBit, Nat.testBit_mod_two_pow, Nat.testBit_or, Nat.one_shiftLeft, Nat.testBit_two_pow_self, Bool.or_true, Bool.and_true]
  exact decide_eq_true h

theorem bitOf_storm_clear {n : Nat} (h : pipe < 4) : bitOf ((n &&& (0xF ^^^ 1 <<< pipe)) % 2 ^ 4) pipe = false := by
  have hx : (0xF ^^^ 1 <<< pipe).testBit pipe = false := by
    interval_cases pipe <;> decide
  rw [bitOf_testBit, Nat.testBit_mod_two_pow, Nat.testBit_and, hx, Bool.and_false, Bool.and_false]

/-! ### The aging sweep -/

/-- The sweep's mark of a pass after a long SPORE moves on. -/
def sweepMarked (d : Dev) (pipe index : Nat) : Dev := { d with look := { d.look with longSweep := d.longPass pipe index } }

theorem moves_sweepMarked : d.moves (d.sweepMarked pipe index) [.look] [] := d.still.set_look

theorem sweepMarked_none (h : ∀ x ∈ d.look.longSweep, x.1 ≠ pipe) : d.sweepMarked pipe index = d := by
  have hno : ∀ y : Option Nat, d.look.longSweep.contains (pipe, y) = false := fun y => by
    rw [Bool.eq_false_iff]
    intro hc
    exact h _ (List.contains_iff_mem.mp hc) rfl
  rw [sweepMarked, longPass, hno, hno]
  rfl

/-- An entry has aged: it is removed and counted, and there may be an event about it. -/
def sweptOut (d : Dev) (pipe index : Nat) : Dev :=
  ((d.sweepMarked pipe index).setHost (pipe * 262144 + index) 0).fwdCnt pipe 3

theorem hostSweep_aged (ht : hostType (d.hostAt (pipe * 262144 + index)) = 1) (hs : hostStatic (d.hostAt (pipe * 262144 + index)) = false)
    (hl : hostLock (d.hostAt (pipe * 262144 + index)) = false)
    (ha : d.fld FWDT.LEARN_CFG_AGE_TIME ≤ (d.upSec + 4096 - hostAge (d.hostAt (pipe * 262144 + index))) % 4096) :
    d.hostSweep pipe index = d.sweptOut pipe index ∨
      ∃ mac dom port, d.hostSweep pipe index = (d.sweptOut pipe index).hostLog pipe 0x2803 mac dom port := by
  unfold hostSweep
  dsimp only
  rw [if_pos (by rw [ht, hs, hl, decide_eq_true ha]; rfl)]
  split
  · exact .inr ⟨_, _, _, rfl⟩
  · exact .inl rfl

theorem hostSweep_stays (h : hostType (d.hostAt (pipe * 262144 + index)) ≠ 1 ∨ hostStatic (d.hostAt (pipe * 262144 + index)) = true ∨
    hostLock (d.hostAt (pipe * 262144 + index)) = true) : d.hostSweep pipe index = d.sweepMarked pipe index := by
  unfold hostSweep
  dsimp only
  refine if_neg fun hc => ?_
  simp only [Bool.and_eq_true, decide_eq_true_eq, Bool.not_eq_true'] at hc
  obtain ⟨⟨⟨ht, hs⟩, hl⟩, -⟩ := hc
  rcases h with h | h | h
  · exact h ht
  · rw [hs] at h
    cases h
  · rw [hl] at h
    cases h

theorem fwdtCnt_plain (h : pipe < 4) : (FWDT.CNT.ix2 pipe 3).plain = true := by
  interval_cases pipe <;> decide

theorem hostAt_sweptOut_same : (d.sweptOut pipe index).hostAt (pipe * 262144 + index) = 0 := hostAt_setHost_same (d.sweepMarked pipe index) _ _
theorem hostAt_sweptOut_ne (h : j ≠ pipe * 262144 + index) : (d.sweptOut pipe index).hostAt j = d.hostAt j :=
  hostAt_setHost_ne (d.sweepMarked pipe index) _ h
theorem num_sweptOut : (d.sweptOut pipe index).num (FWDT.CNT.ix2 pipe 3) = (d.num (FWDT.CNT.ix2 pipe 3) + 1) % 2 ^ 32 :=
  num_bump_eq ((d.sweepMarked pipe index).setHost (pipe * 262144 + index) 0) _ _ _
theorem moves_sweptOut : d.moves (d.sweptOut pipe index) [.look] [0x28] := (moves_sweepMarked.mono).setHost.bump

/-! ### The commands by key -/

/-- A command is done: its code, the pipelines where it was done, and the index it met. -/
def cmdDone (d : Dev) (code ok index : Nat) : Dev :=
  (d.setNum FWDT.CMD_STAT (code * 2 + ok * 16 + index * 256)).raise FWDT.int_CMD_DONE

theorem num_cmdDone (h : code * 2 + ok * 16 + index * 256 < 2 ^ 32) :
    (d.cmdDone code ok index).num FWDT.CMD_STAT = code * 2 + ok * 16 + index * 256 := by
  rw [cmdDone, num_raise_plain _ _ _ _ rfl, num_setNum_same, Nat.mod_eq_of_lt h]

theorem raised_cmdDone : (d.cmdDone code ok index).raised FWDT.int_CMD_DONE = true := raised_raise_eq _ _ rfl
theorem look_cmdDone : (d.cmdDone code ok index).look = d.look := by rw [cmdDone, raise_look, setNum_look]
theorem moves_cmdDone : d.moves (d.cmdDone code ok index) [] [0x28] := d.still.setNum.raise

theorem hostCmd_type0 (hb : d.on FWDT.CMD_STAT_BUSY = false) (ht : d.fld FWDT.CMD_ENTRY_TYPE = 0) : d.hostCmd op mask = d.cmdDone 3 0 0 := by
  unfold hostCmd
  dsimp only
  rw [if_neg (Bool.eq_false_iff.mp hb), ht]
  exact if_pos rfl

/-- A command for a MAC address in pipeline 0 alone. -/
theorem hostCmd_first {e : Dev} {c : Nat} (hb : d.on FWDT.CMD_STAT_BUSY = false) (ht : d.fld FWDT.CMD_ENTRY_TYPE = 1) (hop : op ≠ 3)
    (harg : op = 1 → d.fld FWDT.CMD_ENTRY_ACT ≠ 3 ∧ d.fld FWDT.CMD_RESULT_RESULT ≤ 33)
    (h : d.hostOp op 0 1 (d.fld FWDT.CMD_ENTRY_DOMAIN) (keyOf 1 d.cmdKey) = (e, c, i)) :
    d.hostCmd op 1 = e.cmdDone c (if c = 0 then 1 else 0) i := by
  have hbad : (decide (1 = 0) || decide (3 < 1) || decide (op = 3) || decide (op = 1) && (decide (d.fld FWDT.CMD_ENTRY_ACT = 3) ||
      decide (1 = 1) && decide (33 < d.fld FWDT.CMD_RESULT_RESULT) || decide (1 ≠ 1) && decide (16383 < d.fld FWDT.CMD_RESULT_RESULT))) = false := by
    by_cases h1 : op = 1
    · obtain ⟨hact, hres⟩ := harg h1
      simp [h1, hact, Nat.not_lt.mpr hres]
    · simp [h1, hop]
  unfold hostCmd
  dsimp only
  rw [if_neg (Bool.eq_false_iff.mp hb), ht, if_neg (Bool.eq_false_iff.mp hbad)]
  have hr : List.range 4 = [0, 1, 2, 3] := rfl
  simp only [hr, List.foldl_cons, List.foldl_nil, show bitOf 1 0 = true from rfl, show bitOf 1 1 = false from rfl,
    show bitOf 1 2 = false from rfl, show bitOf 1 3 = false from rfl, if_true, Bool.false_eq_true, if_false, h]
  rfl

theorem hostOp_found (h : d.hostFind 0 1 dom key = some i) : d.hostOp 0 0 1 dom key = (d, 0, i % 262144) := by
  simp only [hostOp, h]

theorem hostOp_missed (h : d.hostFind 0 1 dom key = none) : d.hostOp 0 0 1 dom key = (d, 1, 0) := by
  simp only [hostOp, h]

theorem hostOp_deletes (h : d.hostFind 0 1 dom key = some i) : d.hostOp 2 0 1 dom key = (d.setHost i 0, 0, i % 262144) := by
  simp only [hostOp, h]
  rfl

/-- The entry that an insertion of a MAC address writes. -/
def cmdEntry (d : Dev) (dom key : Nat) : Nat :=
  hostEntry 1 key dom (d.on FWDT.CMD_ENTRY_STATIC) (d.on FWDT.CMD_ENTRY_LOCK) (d.fld FWDT.CMD_ENTRY_ACT) (d.fld FWDT.CMD_RESULT_RESULT) d.upSec

theorem hostOp_inserts (h : d.hostFind 0 1 dom key = none) (hfree : (hostWays 0 (d.hostBucket 1 dom key)).find? d.hostFree = some i) :
    d.hostOp 1 0 1 dom key = (d.setHost i (d.cmdEntry dom key), 0, i % 262144) := by
  have hroom := hostRoom_free (gen := d.cgen) (pipe := 0) (fuel := 8) hfree
  have hone : ¬ (1 : Nat) = 3 := by decide
  simp only [hostOp, h, if_neg hone, hroom]
  rfl

end Sys2Proof.Machine.Dev

namespace Sys2Proof.Machine
open Sys2Proof

theorem Gives.mono {c : Instr} {s : State} {p q : Dev → Prop} (h : Gives c s p) (hpq : ∀ d, p d → q d) : Gives c s q := by
  obtain ⟨t, ht, hpend, hp⟩ := h
  exact ⟨t, ht, hpend, hpq _ hp⟩

variable {s : State} {pipe i index mask op : Nat} {x : Learn} {r : List Learn} {c : Instr}

theorem gives_learnApply {e : Dev} {p : Dev → Prop} (hon : s.Awake) (hp : pipe < 4) (he : s.dev.learnNext pipe = e)
    (hm : s.dev.moves e [.look] [0x28]) (h : p e) : Gives (.learnApply pipe) s p := by
  refine gives_run rfl hon ?_
  rw [Nat.mod_eq_of_lt hp, he, hm.under_eq]
  exact h

theorem gives_learnApply_held (hon : s.Awake) (hp : pipe < 4) (h : s.dev.look.learns.get [] pipe = x :: r)
    (hf : s.dev.hostFind pipe 1 x.dom x.mac = some i) (hh : hostStatic (s.dev.hostAt i) = true ∨ hostLock (s.dev.hostAt i) = true) :
    Gives (.learnApply pipe) s fun d => d.look.learns.get [] pipe = r ∧ d.look.hosts = s.dev.look.hosts ∧
      d.look.cache = s.dev.look.cache ∧ s.dev.moves d [.look] [0x28] := by
  have hm0 : s.dev.moves (s.dev.learnTaken pipe r) [.look] [0x28] := Dev.moves_learnTaken.mono
  cases he : s.dev.enabled 0x28 with
  | false =>
    exact gives_learnApply hon hp (Dev.learnNext_off h he) hm0 ⟨Dev.learns_learnTaken, rfl, rfl, hm0⟩
  | true =>
    rcases Dev.learnApply_held (d := s.dev.learnTaken pipe r) hf hh with ha | ha
    · exact gives_learnApply hon hp ((Dev.learnNext_on h he).trans ha) hm0 ⟨Dev.learns_learnTaken, rfl, rfl, hm0⟩
    · exact gives_learnApply hon hp ((Dev.learnNext_on h he).trans ha) hm0.bump ⟨Dev.learns_learnTaken, rfl, rfl, hm0.bump⟩

theorem gives_learnApply_new (hon : s.Awake) (hp : pipe < 4) (h : s.dev.look.learns.get [] pipe = x :: r)
    (he : s.dev.enabled 0x28 = true) (hf : s.dev.hostFind pipe 1 x.dom x.mac = none) (hs : s.dev.learnStale pipe x = false)
    (hfree : (hostWays pipe (s.dev.hostBucket 1 x.dom x.mac)).find? s.dev.hostFree = some i) :
    Gives (.learnApply pipe) s fun d => d.look.learns.get [] pipe = r ∧
      d.hostAt i = hostEntry 1 x.mac x.dom false false 0 x.port s.dev.upSec ∧ (∀ j, j ≠ i → d.hostAt j = s.dev.hostAt j) ∧
      s.dev.moves d [.look] [0x28] := by
  have hm : s.dev.moves ((s.dev.learnTaken pipe r).learned pipe i x) [.look] [0x28] :=
    (Dev.moves_learnTaken.mono).andThen Dev.moves_learned
  have hnew : (s.dev.learnTaken pipe r).learnApply pipe x false = (s.dev.learnTaken pipe r).learned pipe i x := by
    refine Dev.learnApply_new ?_ ?_ ?_
    · rw [Dev.hostFind_learnTaken, hf]
    · rw [Dev.learnStale_learnTaken, hs]
    · rw [Dev.hostBucket_learnTaken, Dev.hostFree_learnTaken, hfree]
  refine gives_learnApply hon hp ((Dev.learnNext_on h he).trans hnew) hm ⟨?_, ?_, fun j hj => ?_, hm⟩
  · rw [Dev.learned, Dev.learns_cachePut, Dev.learns_setHost, Dev.learns_learnTaken]
  · rw [Dev.learned, Dev.hostAt_cachePut, Dev.hostAt_setHost_same, Dev.upSec_learnTaken]
  · rw [Dev.learned, Dev.hostAt_cachePut, Dev.hostAt_setHost_ne _ _ hj, Dev.hostAt_learnTaken]

theorem gives_cacheExpire (hon : s.Awake) (hp : pipe < 4) :
    Gives (.learnCacheExpiry pipe) s fun d => (∀ x, x ∈ d.cacheOf pipe ↔ x ∈ s.dev.cacheOf pipe ∧
      s.dev.islandNs (islandOfPipe pipe) < x.stamp + s.dev.fld FWDT.LEARN_CFG_LEARN_WIN * 1000) ∧ s.dev.keeps d [.look] := by
  refine gives_run rfl hon ?_
  rw [Nat.mod_eq_of_lt hp, Dev.keeps_cacheExpire.under_eq, Dev.cacheOf_cacheExpire]
  refine ⟨fun x => ?_, Dev.keeps_cacheExpire⟩
  rw [List.mem_filter, decide_eq_true_eq]

theorem gives_storm_begins (hon : s.Awake) (hp : pipe < 4) (hs : bitOf (s.dev.fld FWDT.HT_STAT_STORM) pipe = false)
    (ho : s.dev.stormOver pipe = true) (hn : s.dev.fld FWDT.STORM_CFG_STORM_MAX < s.dev.look.moves.get 0 pipe) :
    Gives (.moveStormWindow pipe) s fun d => d.look.moves.get 0 pipe = 0 ∧ bitOf (d.fld FWDT.HT_STAT_STORM) pipe = true ∧
      d.raised FWDT.int_MOVE_STORM = true ∧ s.dev.moves d [.look] [0x28] := by
  refine gives_runWhen rfl hon (by rw [Nat.mod_eq_of_lt hp]; exact ho) ?_
  have hm {v : Nat} : s.dev.moves (s.dev.stormLog (((s.dev.stormCleared pipe).setFld FWDT.HT_STAT_STORM v).raise
      FWDT.int_MOVE_STORM) pipe 0x2805) [.look] [0x28] := (Dev.moves_stormCleared.mono).setFld.raise.log
  rw [Nat.mod_eq_of_lt hp, Dev.stormWindow_begins hs hn, hm.under_eq, Dev.look_stormLog, Dev.raise_look, Dev.setFld_look,
    Dev.stormLog, Dev.fld_log_plain _ _ _ _ _ _ _ _ _ rfl, Dev.fld_raise_plain _ _ _ _ rfl, Dev.fld_setFld_eq _ _ _ _ rfl,
    Dev.raised_log_plain _ _ _ _ _ _ _ _ rfl, Dev.raised_raise_eq _ _ rfl]
  exact ⟨Dev.count_stormCleared, Dev.bitOf_storm_set hp, rfl, hm⟩

theorem gives_storm_ends (hon : s.Awake) (hp : pipe < 4) (hs : bitOf (s.dev.fld FWDT.HT_STAT_STORM) pipe = true)
    (ho : s.dev.stormOver pipe = true) (hn : s.dev.look.moves.get 0 pipe ≤ s.dev.fld FWDT.STORM_CFG_STORM_MAX / 2) :
    Gives (.moveStormWindow pipe) s fun d => d.look.moves.get 0 pipe = 0 ∧ bitOf (d.fld FWDT.HT_STAT_STORM) pipe = false ∧
      d.look.stormAt.get 0 pipe = s.dev.clk.up ∧ s.dev.moves d [.look] [0x28] := by
  refine gives_runWhen rfl hon (by rw [Nat.mod_eq_of_lt hp]; exact ho) ?_
  have hm {v : Nat} : s.dev.moves (s.dev.stormLog ((s.dev.stormCleared pipe).setFld FWDT.HT_STAT_STORM v) pipe 0x2806)
      [.look] [0x28] := (Dev.moves_stormCleared.mono).setFld.log
  rw [Nat.mod_eq_of_lt hp, Dev.stormWindow_ends hs hn, hm.under_eq, Dev.look_stormLog, Dev.setFld_look,
    Dev.stormLog, Dev.fld_log_plain _ _ _ _ _ _ _ _ _ rfl, Dev.fld_setFld_eq _ _ _ _ rfl]
  exact ⟨Dev.count_stormCleared, Dev.bitOf_storm_clear hp, Dev.stormAt_stormCleared, hm⟩

theorem gives_sweep (hon : s.Awake) (hp : pipe < 4) (hi : index < 262144)
    (ht : hostType (s.dev.hostAt (pipe * 262144 + index)) = 1) (hs : hostStatic (s.dev.hostAt (pipe * 262144 + index)) = false)
    (hl : hostLock (s.dev.hostAt (pipe * 262144 + index)) = false)
    (ha : s.dev.fld FWDT.LEARN_CFG_AGE_TIME ≤ (s.dev.upSec + 4096 - hostAge (s.dev.hostAt (pipe * 262144 + index))) % 4096) :
    Gives (.hostTableSweep pipe index) s fun d => d.hostAt (pipe * 262144 + index) = 0 ∧
      (∀ j, j ≠ pipe * 262144 + index → d.hostAt j = s.dev.hostAt j) ∧
      d.num (FWDT.CNT.ix2 pipe 3) = (s.dev.num (FWDT.CNT.ix2 pipe 3) + 1) % 2 ^ 32 ∧ s.dev.moves d [.look] [0x28] := by
  refine gives_run rfl hon ?_
  rw [Nat.mod_eq_of_lt hp, Nat.mod_eq_of_lt hi]
  rcases Dev.hostSweep_aged ht hs hl ha with h | ⟨mac, dom, port, h⟩
  · rw [h, Dev.moves_sweptOut.under_eq]
    exact ⟨Dev.hostAt_sweptOut_same, fun j hj => Dev.hostAt_sweptOut_ne hj, Dev.num_sweptOut, Dev.moves_sweptOut⟩
  · have hm : s.dev.moves ((s.dev.sweptOut pipe index).hostLog pipe 0x2803 mac dom port) [.look] [0x28] := Dev.moves_sweptOut.log
    have hat : ∀ j, ((s.dev.sweptOut pipe index).hostLog pipe 0x2803 mac dom port).hostAt j = (s.dev.sweptOut pipe index).hostAt j := fun j => by
      rw [Dev.hostAt, Dev.hostLog, Dev.log_look, ← Dev.hostAt]
    rw [h, hm.under_eq]
    refine ⟨(hat _).trans Dev.hostAt_sweptOut_same, fun j hj => (hat j).trans (Dev.hostAt_sweptOut_ne hj), ?_, hm⟩
    rw [Dev.hostLog, Dev.num_log_plain _ _ _ _ _ _ _ _ _ (Dev.fwdtCnt_plain hp), Dev.num_sweptOut]

theorem gives_hostCmd {e : Dev} {p : Dev → Prop} (hc : exec c s = s.act fun d => d.access 0x28 fun d => d.hostCmd op mask)
    (ho : s.Opens 0x28) (he : s.dev.hostCmd op mask = e) (hm : s.dev.moves e [.look] [0x28]) (h : p e) : Gives c s p := by
  refine gives_access hc ho ?_
  rw [he, hm.under_eq]
  exact h

/-- A command that is done for a MAC address in pipeline 0. -/
theorem gives_hostCmd_at {e : Dev} {P : List Part} {code : Nat}
    (hc : exec c s = s.act fun d => d.access 0x28 fun d => d.hostCmd op 1) (ho : s.Opens 0x28)
    (hb : s.dev.on FWDT.CMD_STAT_BUSY = false) (ht : s.dev.fld FWDT.CMD_ENTRY_TYPE = 1) (hop : op ≠ 3)
    (harg : op = 1 → s.dev.fld FWDT.CMD_ENTRY_ACT ≠ 3 ∧ s.dev.fld FWDT.CMD_RESULT_RESULT ≤ 33)
    (h : s.dev.hostOp op 0 1 (s.dev.fld FWDT.CMD_ENTRY_DOMAIN) (keyOf 1 s.dev.cmdKey) = (e, code, i)) (hcode : code < 4) (hi : i < 262144)
    (hm : s.dev.moves e P []) (hP : P.all [Part.look].contains = true) :
    Gives c s fun d => d.num FWDT.CMD_STAT = code * 2 + (if code = 0 then 1 else 0) * 16 + i * 256 ∧
      d.raised FWDT.int_CMD_DONE = true ∧ d.look = e.look ∧ s.dev.moves d P [0x28] := by
  have hm' {ok : Nat} : s.dev.moves (e.cmdDone code ok i) P [0x28] := (hm.mono (by simp) rfl).andThen Dev.moves_cmdDone rfl rfl
  refine gives_hostCmd hc ho (Dev.hostCmd_first hb ht hop harg h) (hm'.mono hP rfl) ⟨Dev.num_cmdDone ?_, Dev.raised_cmdDone, Dev.look_cmdDone, hm'⟩
  split <;> omega

end Sys2Proof.Machine

open Sys2Proof Sys2Proof.Machine

/-- Settles O27. -/
theorem learningAndHostTables : Obligations.LearningAndHostTables := by
  unfold Obligations.LearningAndHostTables
  refine ⟨?_, ?_, ?_, ?_, ?_, ?_, ?_, ?_, ?_, ?_, ?_, ?_, ?_, ?_, ?_⟩
  · intro s pipe i x r hon hp h he hf hs hfree
    exact gives_learnApply_new hon hp h he hf hs hfree
  · intro s pipe i x r hon hp h hf hh
    exact gives_learnApply_held hon hp h hf hh
  · intro s pipe hon hp h
    refine idle_runSelf rfl ?_
    rw [Nat.mod_eq_of_lt hp, Dev.learnNext, h]
  · intro s pipe x r hon hp h he
    exact gives_learnApply hon hp (Dev.learnNext_off h he) Dev.moves_learnTaken.mono
      ⟨Dev.learns_learnTaken, rfl, rfl, Dev.keeps_learnTaken⟩
  · intro s pipe hon hp
    exact gives_cacheExpire hon hp
  · intro s pipe hon hp hs ho hn
    exact gives_storm_begins hon hp hs ho hn
  · intro s pipe hon hp hs ho hn
    exact gives_storm_ends hon hp hs ho hn
  · intro s pipe hon hp h
    refine idle_runWhen rfl ?_
    rw [Nat.mod_eq_of_lt hp]
    exact decide_eq_false (Nat.not_le.mpr h)
  · intro s pipe index hon hp hi ht hs hl ha
    exact gives_sweep hon hp hi ht hs hl ha
  · intro s pipe index hon hp hi hno h
    refine idle_runSelf rfl ?_
    rw [Nat.mod_eq_of_lt hp, Nat.mod_eq_of_lt hi, Dev.hostSweep_stays h, Dev.sweepMarked_none hno]
  · intro s i ho hb ht hf
    refine (gives_hostCmd_at rfl ho hb ht (by decide) (fun h => absurd h (by decide)) (Dev.hostOp_found hf) (by decide) (Nat.mod_lt _ (by decide))
      s.dev.still rfl).mono fun d ⟨hn, hd, hl, hm⟩ => ⟨hn.trans ?_, hd, hl, hm⟩
    rw [if_pos rfl, Nat.zero_mul, Nat.zero_add, Nat.one_mul]
  · intro s ho hb ht hf
    exact (gives_hostCmd_at rfl ho hb ht (by decide) (fun h => absurd h (by decide)) (Dev.hostOp_missed hf) (by decide) (by decide)
      (P := []) s.dev.still rfl).mono fun d ⟨hn, hd, hl, _⟩ => ⟨hn, hd, hl⟩
  · rintro s i key dom ho hb ht rfl rfl hact hres hf hfree
    refine (gives_hostCmd_at rfl ho hb ht (by decide) (fun _ => ⟨hact, hres⟩) (Dev.hostOp_inserts hf hfree) (by decide)
      (Nat.mod_lt _ (by decide)) (P := [.look]) s.dev.still.setHost rfl).mono fun d ⟨hn, hd, hl, hm⟩ => ⟨hn.trans ?_, ?_, fun j hj => ?_, hd, hm⟩
    · rw [if_pos rfl, Nat.zero_mul, Nat.zero_add, Nat.one_mul]
    · rw [Dev.hostAt, hl, ← Dev.hostAt, Dev.hostAt_setHost_same, Dev.cmdEntry]
    · rw [Dev.hostAt, hl, ← Dev.hostAt, Dev.hostAt_setHost_ne _ _ hj]
  · rintro s i key dom ho hb ht rfl rfl hf
    refine (gives_hostCmd_at rfl ho hb ht (by decide) (fun h => absurd h (by decide)) (Dev.hostOp_deletes hf) (by decide)
      (Nat.mod_lt _ (by decide)) (P := [.look]) s.dev.still.setHost rfl).mono fun d ⟨hn, hd, hl, hm⟩ => ⟨hn.trans ?_, ?_, fun j hj => ?_, hd, hm⟩
    · rw [if_pos rfl, Nat.zero_mul, Nat.zero_add, Nat.one_mul]
    · rw [Dev.hostAt, hl, ← Dev.hostAt, Dev.hostAt_setHost_same]
    · rw [Dev.hostAt, hl, ← Dev.hostAt, Dev.hostAt_setHost_ne _ _ hj]
  · rintro s c mask hc ho hb ht
    have hm : s.dev.moves (s.dev.cmdDone 3 0 0) [.look] [0x28] := Dev.moves_cmdDone.mono
    have hp : (s.dev.cmdDone 3 0 0).num FWDT.CMD_STAT = 6 ∧ (s.dev.cmdDone 3 0 0).raised FWDT.int_CMD_DONE = true ∧
      (s.dev.cmdDone 3 0 0).look = s.dev.look := ⟨Dev.num_cmdDone (by decide), Dev.raised_cmdDone, Dev.look_cmdDone⟩
    rcases hc with rfl | rfl | rfl
    · exact gives_hostCmd rfl ho (Dev.hostCmd_type0 hb ht) hm hp
    · exact gives_hostCmd rfl ho (Dev.hostCmd_type0 hb ht) hm hp
    · exact gives_hostCmd rfl ho (Dev.hostCmd_type0 hb ht) hm hp
end

section
set_option Elab.async false
/-! Prefixes and rules (R185 to R188, R191, R199). -/

namespace Sys2Proof.Machine.Dev
open Sys2Proof
variable {d e : Dev} {mask i j p q u code n op : Nat} {x : Plan} {o : PrefixOp} {own : Dev → Dev}

/-! ### A search slot given to an update -/

theorem updateSlot_cases (d : Dev) (p : Nat) (own : Dev → Dev) :
    d.updateSlot p own = d ∨ d.updateSlot p own = d.freed ∨ d.updateSlot p own = (own (d.perf (islandOfPipe p) 0x081)).freed := by
  unfold updateSlot
  split
  · exact .inl rfl
  · split
    · exact .inr (.inr rfl)
    · exact .inr (.inl rfl)

theorem updateSlot_unforced (h : d.pausedFor (2 ^ p) = true ∨ d.sw.heads.get [] p = []) : d.updateSlot p own = d := by
  unfold updateSlot
  refine if_pos ?_
  rcases h with h | h
  · rw [h, Bool.true_or]
  · rw [h]
    exact Bool.or_true _

theorem look_updateSlot (h : ∀ e : Dev, (own e).look = e.look) : (d.updateSlot p own).look = d.look := by
  rcases updateSlot_cases d p own with h' | h' | h'
  · rw [h']
  · rw [h']
    rfl
  · rw [h', ← perf_look d (islandOfPipe p) 0x081]
    exact h _

theorem moves_updateSlot {P : List Part} {G : List Nat} {d0 : Dev} (h : d0.moves d P G)
    (hown : ∀ {e : Dev}, d0.moves e P G → d0.moves (own e) P G) (hp : P.contains .frees = true := by rfl) :
    d0.moves (d.updateSlot p own) P G := by
  rcases updateSlot_cases d p own with h' | h' | h'
  · rw [h']
    exact h
  · rw [h']
    exact h.freed hp
  · rw [h']
    exact (hown h.perf).freed hp

theorem num_updateSlot {r : Reg} {c : Nat} (hr : r.plain = true) (h : ∀ e : Dev, (own e).num r c = e.num r c) :
    (d.updateSlot p own).num r c = d.num r c := by
  rcases updateSlot_cases d p own with h' | h' | h'
  · rw [h']
  · rw [h']
    rfl
  · rw [h', ← num_perf_plain d r c 1 (islandOfPipe p) 0x081 hr]
    exact h _

/-! ### The commands of the prefix table -/

theorem num_lpmDone (hc : code < 8) : (d.lpmDone code n).num LPMT.CMD_STAT = code * 2 + min 255 n * 16 := by
  rw [lpmDone, num_raise_plain _ _ _ _ rfl, num_setNum_same, Nat.mod_eq_of_lt]
  omega

theorem raised_lpmDone : (d.lpmDone code n).raised LPMT.int_CMD_DONE = true := raised_raise_eq _ _ rfl
theorem raised_lpmDone_of {b : IntBit} (h : d.raised b = true) (hb : b.plain = true) : (d.lpmDone code n).raised b = true := by
  rw [lpmDone, raised_raise_of _ _ _ hb rfl, raised_setNum_plain _ _ _ _ _ rfl]
  exact Bool.or_eq_true_iff.mpr (.inr h)
theorem look_lpmDone : (d.lpmDone code n).look = { d.look with prefixOp := none } := by rw [lpmDone, raise_look, setNum_look]
theorem moves_lpmDone : d.moves (d.lpmDone code n) [.look] [0x29] := d.still.set_look.setNum.raise

/-- A command waits for the unit writes of a plan. -/
def lpmBegun (d : Dev) (mask : Nat) (x : Plan) : Dev :=
  { d with look := { d.look with prefixOp := some { mask := mask, writes := x.writes, moves := x.moves } } }.setNum LPMT.CMD_STAT 1

theorem lpmRun_writes (h : x.writes ≠ []) : d.lpmRun mask x = d.lpmBegun mask x := by
  unfold lpmRun
  rw [if_neg (mt List.isEmpty_iff.mp h)]
  rfl

theorem num_lpmBegun : (d.lpmBegun mask x).num LPMT.CMD_STAT = 1 := num_setNum_same ..
theorem look_lpmBegun : (d.lpmBegun mask x).look = { d.look with prefixOp := some { mask := mask, writes := x.writes, moves := x.moves } } := rfl
theorem moves_lpmBegun : d.moves (d.lpmBegun mask x) [.look] [0x29] := d.still.set_look.setNum

/-- The exact prefix that the command registers name, in the lowest pipeline of a mask. -/
def cmdPref (d : Dev) (mask : Nat) : Option Nat :=
  d.prefAt (lowPipe mask) (d.on LPMT.CMD_PREFIX_V6) d.lpmKey (d.fld LPMT.CMD_PREFIX_LEN) (d.fld LPMT.CMD_PREFIX_VRF)

/-- The plan of an insertion that the command registers ask for. -/
def cmdPlan (d : Dev) (mask : Nat) : Option Plan :=
  d.insertPlan (lowPipe mask) (d.on LPMT.CMD_PREFIX_V6) d.lpmKey (d.fld LPMT.CMD_PREFIX_LEN) (d.fld LPMT.CMD_PREFIX_VRF)
    (d.fld LPMT.CMD_RESULT_NEXT_HOP) (d.fld LPMT.CMD_RESULT_ACT)

/-- The unit writes of a deletion at unit `i`. -/
def deletePlan (d : Dev) (mask i : Nat) : Plan :=
  { writes := (List.range (prefWidth (d.on LPMT.CMD_PREFIX_V6) (d.fld LPMT.CMD_PREFIX_LEN))).map
      fun k => (i + k, d.unitAt (lowPipe mask) (i + k) - 2 ^ 55) }

/-- The command registers hold a prefix, and a pipeline is named. -/
def cmdFits (d : Dev) (mask : Nat) : Prop :=
  d.on LPMT.CMD_STAT_BUSY = false ∧ mask % 16 ≠ 0 ∧ d.fld LPMT.CMD_PREFIX_LEN ≤ (if d.on LPMT.CMD_PREFIX_V6 then 128 else 32)

theorem lpmCmd_busy (h : d.on LPMT.CMD_STAT_BUSY = true) : d.lpmCmd op mask = d := by
  unfold lpmCmd
  exact if_pos h

theorem lpmCmd_find (h : d.cmdFits mask) : d.lpmCmd 0 mask = d.lpmDone (if (d.cmdPref mask).isSome then 0 else 1) 0 := by
  obtain ⟨hb, hm, hl⟩ := h
  cases hp : d.cmdPref mask with
  | none =>
    rw [cmdPref] at hp
    simp only [lpmCmd, if_neg (Bool.eq_false_iff.mp hb), if_neg (Nat.not_lt.mpr hl), if_neg hm, hp]
    rfl
  | some i =>
    rw [cmdPref] at hp
    simp only [lpmCmd, if_neg (Bool.eq_false_iff.mp hb), if_neg (Nat.not_lt.mpr hl), if_neg hm, hp]
    rfl

theorem lpmCmd_insert (h : d.cmdFits mask) (hp : d.cmdPlan mask = some x) : d.lpmCmd 1 mask = d.lpmRun mask x := by
  obtain ⟨hb, hm, hl⟩ := h
  rw [cmdPlan] at hp
  simp only [lpmCmd, if_neg (Bool.eq_false_iff.mp hb), if_neg (Nat.not_lt.mpr hl), if_neg hm, hp]

theorem lpmCmd_full (h : d.cmdFits mask) (hp : d.cmdPlan mask = none) : d.lpmCmd 1 mask = (d.raise LPMT.int_FULL).lpmDone 2 0 := by
  obtain ⟨hb, hm, hl⟩ := h
  rw [cmdPlan] at hp
  simp only [lpmCmd, if_neg (Bool.eq_false_iff.mp hb), if_neg (Nat.not_lt.mpr hl), if_neg hm, hp]

theorem lpmCmd_delete (h : d.cmdFits mask) (hp : d.cmdPref mask = some i) : d.lpmCmd 2 mask = d.lpmRun mask (d.deletePlan mask i) := by
  obtain ⟨hb, hm, hl⟩ := h
  rw [cmdPref] at hp
  simp only [lpmCmd, if_neg (Bool.eq_false_iff.mp hb), if_neg (Nat.not_lt.mpr hl), if_neg hm, hp]
  rfl

theorem deletePlan_writes : (d.deletePlan mask i).writes ≠ [] := by
  intro h
  have hlen := congrArg List.length h
  rw [deletePlan, List.length_map, List.length_range, List.length_nil, prefWidth] at hlen
  split at hlen
  · cases hlen
  · split at hlen <;> cases hlen

theorem deletePlan_places : (d.deletePlan mask i).writes.map Prod.fst =
    (List.range (prefWidth (d.on LPMT.CMD_PREFIX_V6) (d.fld LPMT.CMD_PREFIX_LEN))).map (i + ·) := by
  rw [deletePlan, List.map_map]
  rfl

/-! ### Unit writes -/

/-- A unit is written in one pipeline, where the command acts there. -/
def unitPut (d : Dev) (mask i u p : Nat) : Dev := if bitOf mask p then (d.setUnit p i u).updateSlot p id else d

/-- A unit is written in each pipeline of a mask. -/
def unitsPut (d : Dev) (mask i u : Nat) : Dev := d.each 4 fun d p => d.unitPut mask i u p

theorem unitAt_setUnit_same : (d.setUnit p i u).unitAt p i = u := SMap.get_set_same _ _ _ _
theorem unitAt_setUnit_ne (h : p * lpmUnits + i ≠ q * lpmUnits + j) : (d.setUnit q j u).unitAt p i = d.unitAt p i := SMap.get_set_ne _ _ _ _ h

theorem unitAt_unitPut_same : (d.unitPut mask i u p).unitAt p i = if bitOf mask p then u else d.unitAt p i := by
  unfold unitPut
  split
  · rw [unitAt, look_updateSlot (own := id) fun _ => rfl]
    exact unitAt_setUnit_same
  · rfl

theorem unitAt_unitPut_ne (h : p * lpmUnits + j ≠ q * lpmUnits + i) : (d.unitPut mask i u q).unitAt p j = d.unitAt p j := by
  unfold unitPut
  split
  · rw [unitAt, look_updateSlot (own := id) fun _ => rfl]
    exact unitAt_setUnit_ne h
  · rfl

theorem unitAt_unitsPut_same (hp : p < 4) : (d.unitsPut mask i u).unitAt p i = if bitOf mask p then u else d.unitAt p i := by
  have hne : ∀ {e : Dev} {q : Nat}, q ≠ p → (e.unitPut mask i u q).unitAt p i = e.unitAt p i := fun h =>
    unitAt_unitPut_ne (by unfold lpmUnits; omega)
  rw [unitsPut, each_at (rd := fun e => e.unitAt p i) hp fun e q hq _ => hne (by omega), unitAt_unitPut_same,
    each_keeps (rd := fun e => e.unitAt p i) fun e q hq => hne (by omega)]

theorem unitAt_unitsPut_ne (hi : i < lpmUnits) (hj : j < lpmUnits) (h : j ≠ i) : (d.unitsPut mask i u).unitAt p j = d.unitAt p j :=
  each_keeps (rd := fun e => e.unitAt p j) fun e q _ => unitAt_unitPut_ne (by unfold lpmUnits at *; omega)

theorem moves_unitsPut : d.moves (d.unitsPut mask i u) [.look, .frees] [] :=
  d.still.each fun h => (moves_updateSlot h.setUnit id).ite h

theorem num_unitsPut {r : Reg} {c : Nat} (hr : r.plain = true) : (d.unitsPut mask i u).num r c = d.num r c :=
  each_keeps (rd := fun e => e.num r c) fun e q _ => by
    unfold unitPut
    split
    · rw [num_updateSlot (own := id) hr fun _ => rfl]
      rfl
    · rfl

theorem prefixOp_unitsPut : (d.unitsPut mask i u).look.prefixOp = d.look.prefixOp :=
  each_keeps (rd := fun e => e.look.prefixOp) fun e q _ => by
    unfold unitPut
    split
    · rw [look_updateSlot (own := id) fun _ => rfl]
      rfl
    · rfl

/-- What is left of the command's unit writes. -/
def unitsLeft (d : Dev) (o : PrefixOp) (r : List (Nat × Nat)) : Dev := { d with look := { d.look with prefixOp := some { o with writes := r } } }

theorem unitMove_more {r : List (Nat × Nat)} (h : d.look.prefixOp = some o) (hw : o.writes = (i, u) :: r) (hr : r ≠ []) :
    d.unitMove = (d.unitsPut o.mask i u).unitsLeft o r := by
  unfold unitMove
  simp only [h, hw]
  exact if_neg (mt List.isEmpty_iff.mp hr)

theorem unitMove_last (h : d.look.prefixOp = some o) (hw : o.writes = [(i, u)]) : d.unitMove = (d.unitsPut o.mask i u).lpmDone 0 o.moves := by
  unfold unitMove
  simp only [h, hw]
  exact if_pos rfl

theorem unitAt_unitsLeft {r : List (Nat × Nat)} : (d.unitsLeft o r).unitAt p i = d.unitAt p i := rfl
theorem num_unitsLeft {r : List (Nat × Nat)} {g : Reg} {c : Nat} : (d.unitsLeft o r).num g c = d.num g c := rfl
theorem moves_unitsLeft {r : List (Nat × Nat)} : d.moves (d.unitsLeft o r) [.look] [] := d.still.set_look
theorem unitAt_lpmDone : (d.lpmDone code n).unitAt p i = d.unitAt p i := by rw [unitAt, look_lpmDone, ← unitAt]

/-! ### The commands of the rules -/

theorem cmdData_off (k : Nat) : (CLSF.CMD_DATA.ix k).off = CLSF.CMD_DATA.off + 4 * k := rfl

/-- A command about a rule is done: its code and the pipelines where it was. -/
def ruleDone (d : Dev) (code pipes : Nat) : Dev := (d.setNum CLSF.CMD_STAT (code * 2 + pipes * 16)).raise CLSF.int_CMD_DONE

theorem num_ruleDone (h : code * 2 + n * 16 < 2 ^ 32) : (d.ruleDone code n).num CLSF.CMD_STAT = code * 2 + n * 16 := by
  rw [ruleDone, num_raise_plain _ _ _ _ rfl, num_setNum_same, Nat.mod_eq_of_lt h]

theorem num_ruleDone_apart {r : Reg} {c : Nat} (hr : r.plain = true) (ha : r.apart CLSF.CMD_STAT = true) :
    (d.ruleDone code n).num r c = d.num r c := by
  rw [ruleDone, num_raise_plain _ _ _ _ hr, num_setNum_apart _ _ _ _ _ _ ha]

theorem raised_ruleDone : (d.ruleDone code n).raised CLSF.int_CMD_DONE = true := raised_raise_eq _ _ rfl
theorem look_ruleDone : (d.ruleDone code n).look = d.look := by rw [ruleDone, raise_look, setNum_look]
theorem moves_ruleDone : d.moves (d.ruleDone code n) [] [0x2A] := d.still.setNum.raise

/-- A rule is written in one pipeline of a mask, and in each. -/
def rulePut (d : Dev) (mask i : Nat) (f : Nat → Nat) (p : Nat) : Dev :=
  if bitOf mask p then ((d.setRule p i (f (d.ruleMem p i))).ruleSlot p).bump (CLSF.CNT.ix2 p 3) else d
def rulesPut (d : Dev) (mask i : Nat) (f : Nat → Nat) : Dev := d.each 4 fun d p => d.rulePut mask i f p

variable {f : Nat → Nat}

theorem ruleCmd_write (hb : d.on CLSF.CMD_STAT_BUSY = false) (h : ruleOk d.cmdRule = true) :
    d.ruleCmd 0 mask = (d.rulesPut mask (d.num CLSF.CMD_RULE) fun _ => ruleClean d.cmdRule).ruleDone 0 (mask % 16) := by
  simp only [ruleCmd, if_neg (Bool.eq_false_iff.mp hb), h]
  rfl

theorem ruleCmd_reserved (hb : d.on CLSF.CMD_STAT_BUSY = false) (h : ruleOk d.cmdRule = false) : d.ruleCmd 0 mask = d.ruleDone 3 0 := by
  simp only [ruleCmd, if_neg (Bool.eq_false_iff.mp hb), h]
  rfl

/-- A rule with its valid bit 0. -/
def ruleCleared (r : Nat) : Nat := if ruleValid r then r - 2 ^ (32 * 25 + 16) else r

theorem ruleCmd_invalidate (hb : d.on CLSF.CMD_STAT_BUSY = false) :
    d.ruleCmd 1 mask = (d.rulesPut mask (d.num CLSF.CMD_RULE) ruleCleared).ruleDone 0 (mask % 16) := by
  simp only [ruleCmd, if_neg (Bool.eq_false_iff.mp hb)]
  rfl

/-- The words of a rule in the data registers. -/
def ruleShown (d : Dev) (r : Nat) : Dev := d.each 32 fun d k => d.setNum (CLSF.CMD_DATA.ix k) (ruleWord r k)

theorem ruleCmd_read (hb : d.on CLSF.CMD_STAT_BUSY = false) :
    d.ruleCmd 2 0 = (d.ruleShown (d.ruleMem (d.fld CLSF.WR_MASK_RD_PIPE) (d.num CLSF.CMD_RULE))).ruleDone 0 0 := by
  simp only [ruleCmd, if_neg (Bool.eq_false_iff.mp hb)]
  rfl

theorem look_ruleSlot : (d.ruleSlot p).look = d.look := look_updateSlot fun _ => rfl

theorem ruleMem_setRule_same {r : Nat} : (d.setRule p i r).ruleMem p i = r := SMap.get_set_same _ _ _ _
theorem ruleMem_setRule_ne {r : Nat} (h : p * 65536 + j % 65536 ≠ q * 65536 + i % 65536) : (d.setRule q i r).ruleMem p j = d.ruleMem p j :=
  SMap.get_set_ne _ _ _ _ h

theorem ruleMem_rulePut_same : (d.rulePut mask i f p).ruleMem p i = if bitOf mask p then f (d.ruleMem p i) else d.ruleMem p i := by
  unfold rulePut
  split
  · rw [ruleMem, bump_look, look_ruleSlot]
    exact ruleMem_setRule_same
  · rfl

theorem ruleMem_rulePut_ne (h : p * 65536 + j % 65536 ≠ q * 65536 + i % 65536) : (d.rulePut mask i f q).ruleMem p j = d.ruleMem p j := by
  unfold rulePut
  split
  · rw [ruleMem, bump_look, look_ruleSlot]
    exact ruleMem_setRule_ne h
  · rfl

theorem ruleMem_rulesPut_same (hp : p < 4) : (d.rulesPut mask i f).ruleMem p i = if bitOf mask p then f (d.ruleMem p i) else d.ruleMem p i := by
  have hne : ∀ {e : Dev} {q : Nat}, q ≠ p → (e.rulePut mask i f q).ruleMem p i = e.ruleMem p i := fun h => ruleMem_rulePut_ne (by omega)
  rw [rulesPut, each_at (rd := fun e => e.ruleMem p i) hp fun e q hq _ => hne (by omega), ruleMem_rulePut_same,
    each_keeps (rd := fun e => e.ruleMem p i) fun e q hq => hne (by omega)]

theorem ruleMem_rulesPut_ne (hj : j < 65536) (h : j ≠ i % 65536) : (d.rulesPut mask i f).ruleMem p j = d.ruleMem p j :=
  each_keeps (rd := fun e => e.ruleMem p j) fun e q _ => ruleMem_rulePut_ne (by omega)

theorem moves_rulesPut : d.moves (d.rulesPut mask i f) [.look, .frees] [0x2A] :=
  d.still.each fun {_ p} h => ((moves_updateSlot h.setRule fun h => h.bump (r := CLSF.CNT.ix2 p 2)).bump (r := CLSF.CNT.ix2 p 3)).ite h

/-! ### The counters of search slots -/

theorem clsfCnt_off (p k : Nat) : (CLSF.CNT.ix2 p k).off = CLSF.CNT.off + 16 * p + 4 * k := rfl

theorem clsfCnt_apart {k : Nat} (hp : p < 4) (hq : q < 4) (hk : k < 4) (h : p ≠ q ∨ k ≠ 2) :
    (CLSF.CNT.ix2 p 2).apart (CLSF.CNT.ix2 q k) = true :=
  Reg.apart_of_off (by rw [clsfCnt_off, clsfCnt_off]; omega) (by rw [clsfCnt_off, show CLSF.CNT.off = 0x600 from rfl]; omega)
    (by rw [clsfCnt_off, show CLSF.CNT.off = 0x600 from rfl]; omega)

theorem clsfCnt_plain (hp : p < 4) : (CLSF.CNT.ix2 p 2).plain = true := by
  interval_cases p <;> decide

theorem moves_rulePut : d.moves (d.rulePut mask i f p) [.look, .frees] [0x2A] := by
  unfold rulePut
  refine moves.ite ?_ d.still
  exact (moves_updateSlot d.still.setRule fun h => h.bump (r := CLSF.CNT.ix2 p 2)).bump (r := CLSF.CNT.ix2 p 3)

theorem forced_rulePut_ne (hp : p < 4) (hq : q < 4) (h : p ≠ q) :
    (d.rulePut mask i f q).num (CLSF.CNT.ix2 p 2) = d.num (CLSF.CNT.ix2 p 2) := by
  unfold rulePut
  split
  · rw [num_bump_apart _ _ _ _ _ _ (clsfCnt_apart hp hq (by decide) (.inl h)), ruleSlot,
      num_updateSlot (clsfCnt_plain hp) fun e => num_bump_apart _ _ _ _ _ _ (clsfCnt_apart hp hq (by decide) (.inl h))]
    rfl
  · rfl

theorem forced_rulePut_same (hp : p < 4) (h : d.pausedFor (2 ^ p) = true ∨ d.sw.heads.get [] p = [] ∨ bitOf mask p = false) :
    (d.rulePut mask i f p).num (CLSF.CNT.ix2 p 2) = d.num (CLSF.CNT.ix2 p 2) := by
  unfold rulePut
  split
  next hm =>
    have hslot : (d.setRule p i (f (d.ruleMem p i))).ruleSlot p = d.setRule p i (f (d.ruleMem p i)) := by
      refine updateSlot_unforced ?_
      rcases h with h | h | h
      · exact .inl h
      · exact .inr h
      · rw [hm] at h
        cases h
    rw [num_bump_apart _ _ _ _ _ _ (clsfCnt_apart hp hp (by decide) (.inr (by decide))), hslot]
    rfl
  next => rfl

theorem pausedFor_congr (h : e.pause = d.pause) (m : Nat) : e.pausedFor m = d.pausedFor m := by
  unfold pausedFor
  rw [h]

theorem forced_rulesPut (hp : p < 4) (h : d.pausedFor (2 ^ p) = true ∨ d.sw.heads.get [] p = [] ∨ bitOf mask p = false) :
    (d.rulesPut mask i f).num (CLSF.CNT.ix2 p 2) = d.num (CLSF.CNT.ix2 p 2) := by
  have hbefore : d.moves (d.each p fun d q => d.rulePut mask i f q) [.look, .frees] [0x2A] := d.still.each fun h => h.andThen moves_rulePut
  rw [rulesPut, each_at (rd := fun e => e.num (CLSF.CNT.ix2 p 2)) hp fun e q hq hn => forced_rulePut_ne hp hn (by omega),
    forced_rulePut_same hp (by rw [pausedFor_congr hbefore.keeps_pause, hbefore.keeps_sw]; exact h),
    each_keeps (rd := fun e => e.num (CLSF.CNT.ix2 p 2)) fun e q hq => forced_rulePut_ne hp (by omega) (by omega)]

/-! ### The valid bit -/

theorem ruleValid_eq (r : Nat) : ruleValid r = decide (r / 2 ^ 816 % 2 = 1) := by
  rw [ruleValid, bitOf_testBit, ruleWord, bitsOf, Nat.testBit_mod_two_pow, Nat.testBit_shiftRight, Nat.testBit_eq_decide_div_mod_eq]
  rfl

theorem ruleValid_ruleCleared (r : Nat) : ruleValid (ruleCleared r) = false := by
  unfold ruleCleared
  split
  next h =>
    rw [ruleValid_eq] at h ⊢
    generalize hn : (2 : Nat) ^ 816 = n at h ⊢
    have hdiv : (r - n * 1) / n = r / n - 1 := Nat.sub_mul_div _ _ _
    rw [Nat.mul_one] at hdiv
    have hodd := of_decide_eq_true h
    rw [hdiv]
    exact decide_eq_false (by omega)
  next h => exact Bool.eq_false_iff.mpr h

/-! ### The data registers -/

theorem num_ruleShown {k r : Nat} (hk : k < 32) : (d.ruleShown r).num (CLSF.CMD_DATA.ix k) = ruleWord r k % 2 ^ 32 := by
  have hoff : CLSF.CMD_DATA.off = 0x440 := rfl
  rw [ruleShown, each_at (rd := fun e => e.num (CLSF.CMD_DATA.ix k)) hk fun e j hj hn => num_setNum_apart _ _ _ _ _ _
    (Reg.apart_of_off (by rw [cmdData_off, cmdData_off]; omega) (by rw [cmdData_off]; omega) (by rw [cmdData_off]; omega)), num_setNum_same]

theorem cmdData_plain {k : Nat} (hk : k < 32) : (CLSF.CMD_DATA.ix k).plain = true := by
  have hoff : CLSF.CMD_DATA.off = 0x440 := rfl
  exact Reg.plain_of_off rfl rfl (by rw [cmdData_off]; omega) (by rw [cmdData_off]; omega) (by rw [cmdData_off]; omega)

theorem cmdData_apart {k : Nat} (hk : k < 32) : (CLSF.CMD_DATA.ix k).apart CLSF.CMD_STAT = true := by
  have hoff : CLSF.CMD_DATA.off = 0x440 := rfl
  exact Reg.apart_of_off (by rw [cmdData_off, show CLSF.CMD_STAT.off = 0x40C from rfl]; omega) (by rw [cmdData_off]; omega) (by decide)

theorem moves_ruleShown {r : Nat} : d.moves (d.ruleShown r) [] [0x2A] := d.still.each fun {_ k} h => h.setNum (r := CLSF.CMD_DATA.ix k)

end Sys2Proof.Machine.Dev

namespace Sys2Proof.Machine
open Sys2Proof
variable {s : State} {mask i u : Nat} {op : PrefixOp} {r : List (Nat × Nat)} {c : Instr} {f : Nat → Nat}

theorem gives_unitMove (hon : s.Awake) (hop : s.dev.look.prefixOp = some op) (hw : op.writes = (i, u) :: r) (hi : i < lpmUnits) :
    Gives .prefixUnitMove s fun d => (∀ p, p < 4 → d.unitAt p i = if bitOf op.mask p then u else s.dev.unitAt p i) ∧
      (∀ p j, p < 4 → j < lpmUnits → j ≠ i → d.unitAt p j = s.dev.unitAt p j) ∧
      (r ≠ [] → d.look.prefixOp = some { op with writes := r } ∧ d.num LPMT.CMD_STAT = s.dev.num LPMT.CMD_STAT) ∧
      (r = [] → d.look.prefixOp = none ∧ d.num LPMT.CMD_STAT = min 255 op.moves * 16 ∧ d.raised LPMT.int_CMD_DONE = true) ∧
      s.dev.moves d [.look, .frees] [0x29] := by
  refine gives_run rfl hon ?_
  have hput : s.dev.moves (s.dev.unitsPut op.mask i u) [.look, .frees] [0x29] := Dev.moves_unitsPut.mono
  by_cases hr : r = []
  · subst hr
    have hm := hput.andThen (Dev.moves_lpmDone (code := 0) (n := op.moves))
    rw [Dev.unitMove_last hop hw, hm.under_eq]
    refine ⟨fun p hp => ?_, fun p j hp hj hne => ?_, fun h => absurd rfl h, fun _ => ⟨?_, ?_, Dev.raised_lpmDone⟩, hm⟩
    · rw [Dev.unitAt_lpmDone, Dev.unitAt_unitsPut_same hp]
    · rw [Dev.unitAt_lpmDone, Dev.unitAt_unitsPut_ne hi hj hne]
    · rw [Dev.look_lpmDone]
    · rw [Dev.num_lpmDone (by decide), Nat.zero_mul, Nat.zero_add]
  · have hm := hput.andThen (Dev.moves_unitsLeft (o := op) (r := r))
    rw [Dev.unitMove_more hop hw hr, hm.under_eq]
    refine ⟨fun p hp => ?_, fun p j hp hj hne => ?_, fun _ => ⟨rfl, ?_⟩, fun h => absurd h hr, hm⟩
    · rw [Dev.unitAt_unitsLeft, Dev.unitAt_unitsPut_same hp]
    · rw [Dev.unitAt_unitsLeft, Dev.unitAt_unitsPut_ne hi hj hne]
    · rw [Dev.num_unitsLeft, Dev.num_unitsPut rfl]

theorem gives_rulesPut {op : Nat} (hc : exec c s = s.act fun d => d.access 0x2A fun d => d.ruleCmd op mask) (ho : s.Opens 0x2A)
    (h : s.dev.ruleCmd op mask = (s.dev.rulesPut mask (s.dev.num CLSF.CMD_RULE) f).ruleDone 0 (mask % 16)) :
    Gives c s fun d => (∀ p, p < 4 → d.ruleMem p (s.dev.num CLSF.CMD_RULE) =
        if bitOf mask p then f (s.dev.ruleMem p (s.dev.num CLSF.CMD_RULE)) else s.dev.ruleMem p (s.dev.num CLSF.CMD_RULE)) ∧
      (∀ p j, p < 4 → j < 65536 → j ≠ s.dev.num CLSF.CMD_RULE % 65536 → d.ruleMem p j = s.dev.ruleMem p j) ∧
      (∀ p, p < 4 → s.dev.pausedFor (2 ^ p) = true ∨ s.dev.sw.heads.get [] p = [] ∨ bitOf mask p = false →
        d.num (CLSF.CNT.ix2 p 2) = s.dev.num (CLSF.CNT.ix2 p 2)) ∧
      d.num CLSF.CMD_STAT = mask % 16 * 16 ∧ d.raised CLSF.int_CMD_DONE = true ∧ s.dev.moves d [.look, .frees] [0x2A] := by
  refine gives_access hc ho ?_
  have hm := (Dev.moves_rulesPut (d := s.dev) (mask := mask) (i := s.dev.num CLSF.CMD_RULE) (f := f)).andThen
    (Dev.moves_ruleDone (code := 0) (n := mask % 16))
  have hmem {p j : Nat} {e : Dev} : (e.ruleDone 0 (mask % 16)).ruleMem p j = e.ruleMem p j := by
    rw [Dev.ruleMem, Dev.look_ruleDone, ← Dev.ruleMem]
  rw [h, hm.under_eq]
  refine ⟨fun p hp => ?_, fun p j hp hj hne => ?_, fun p hp hno => ?_, ?_, Dev.raised_ruleDone, hm⟩
  · rw [hmem, Dev.ruleMem_rulesPut_same hp]
  · rw [hmem, Dev.ruleMem_rulesPut_ne hj hne]
  · rw [Dev.num_ruleDone_apart (Dev.clsfCnt_plain hp) (by interval_cases p <;> decide), Dev.forced_rulesPut hp hno]
  · rw [Dev.num_ruleDone (by omega), Nat.zero_mul, Nat.zero_add]

end Sys2Proof.Machine

open Sys2Proof Sys2Proof.Machine

/-- Settles O28. -/
theorem prefixesAndRules : Obligations.PrefixesAndRules := by
  unfold Obligations.PrefixesAndRules
  have hmod : ∀ m : Nat, m % 16 ≠ 0 → m % 16 % 16 ≠ 0 := fun m h => by rwa [Nat.mod_mod]
  refine ⟨?_, ?_, ?_, ?_, ?_, ?_, ?_, ?_, ?_, ?_, ?_⟩
  · intro s mask ho hb hm hl
    refine gives_access rfl ho ?_
    have hmv {c n : Nat} : s.dev.moves (s.dev.lpmDone c n) [.look] [0x29] := Dev.moves_lpmDone
    rw [Dev.lpmCmd_find ⟨hb, hmod _ hm, hl⟩, hmv.under_eq, Dev.look_lpmDone, Dev.raised_lpmDone, Dev.cmdPref]
    refine ⟨?_, rfl, rfl, hmv⟩
    rw [Dev.num_lpmDone (by split <;> decide)]
    split <;> rfl
  · intro s mask p ho hb hm hl hp hw
    refine gives_access rfl ho ?_
    have hmv {m : Nat} : s.dev.moves (s.dev.lpmBegun m p) [.look] [0x29] := Dev.moves_lpmBegun
    rw [Dev.lpmCmd_insert ⟨hb, hmod _ hm, hl⟩ hp, Dev.lpmRun_writes hw, hmv.under_eq]
    exact ⟨Dev.num_lpmBegun, Dev.look_lpmBegun, hmv⟩
  · intro s mask ho hb hm hl hp
    refine gives_access rfl ho ?_
    have hmv : s.dev.moves ((s.dev.raise LPMT.int_FULL).lpmDone 2 0) [.look] [0x29] := s.dev.still.raise.andThen Dev.moves_lpmDone
    rw [Dev.lpmCmd_full ⟨hb, hmod _ hm, hl⟩ hp, hmv.under_eq, Dev.num_lpmDone (by decide), Dev.look_lpmDone, Dev.raise_look,
      Dev.raised_lpmDone_of (Dev.raised_raise_eq _ _ rfl) rfl]
    exact ⟨rfl, rfl, rfl⟩
  · intro s mask i ho hb hm hl hp
    refine gives_access rfl ho ?_
    have hmv {m : Nat} {x : Plan} : s.dev.moves (s.dev.lpmBegun m x) [.look] [0x29] := Dev.moves_lpmBegun
    rw [Dev.lpmCmd_delete ⟨hb, hmod _ hm, hl⟩ hp, Dev.lpmRun_writes Dev.deletePlan_writes, hmv.under_eq]
    exact ⟨Dev.num_lpmBegun, ⟨_, rfl, rfl, rfl, Dev.deletePlan_places⟩, rfl, hmv⟩
  · rintro s c mask (rfl | rfl | rfl) ho hb
    · exact idle_access rfl ho.2 (Dev.lpmCmd_busy hb)
    · exact idle_access rfl ho.2 (Dev.lpmCmd_busy hb)
    · exact idle_access rfl ho.2 (Dev.lpmCmd_busy hb)
  · intro s op i u r hon hop hw hi
    exact gives_unitMove hon hop hw hi
  · intro s hon h
    refine idle_runSelf rfl ?_
    rw [Dev.unitMove, h]
  · intro s mask ho hb hr
    refine (gives_rulesPut (f := fun _ => ruleClean s.dev.cmdRule) rfl ho (Dev.ruleCmd_write hb hr)).mono
      fun d ⟨hsame, hne, hforced, hn, hd, hm⟩ => ⟨fun p hp => hsame p hp, hne, hforced, hn, hd, hm⟩
  · intro s mask ho hb hr
    refine gives_access rfl ho ?_
    have hmv {c n : Nat} : s.dev.moves (s.dev.ruleDone c n) [] [0x2A] := Dev.moves_ruleDone
    rw [Dev.ruleCmd_reserved hb hr, hmv.under_eq]
    exact ⟨Dev.look_ruleDone, Dev.num_ruleDone (by decide), Dev.raised_ruleDone⟩
  · intro s mask ho hb
    refine (gives_rulesPut rfl ho (Dev.ruleCmd_invalidate hb)).mono
      fun d ⟨hsame, hne, _, hn, hd, hm⟩ => ⟨fun p hp hmask => ?_, hne, hn, hd, hm⟩
    rw [hsame p hp, if_pos hmask, Dev.ruleValid_ruleCleared]
  · intro s ho hb
    refine gives_access rfl ho ?_
    have hmv {r : Nat} : s.dev.moves ((s.dev.ruleShown r).ruleDone 0 0) [] [0x2A] := Dev.moves_ruleShown.andThen Dev.moves_ruleDone
    rw [Dev.ruleCmd_read hb, hmv.under_eq]
    refine ⟨fun k hk => ?_, Dev.num_ruleDone (by decide), Dev.raised_ruleDone, hmv.keeps_look, hmv⟩
    rw [Dev.num_ruleDone_apart (Dev.cmdData_plain hk) (Dev.cmdData_apart hk), Dev.num_ruleShown hk]
end

section
set_option Elab.async false
/-! The windows of BAR2 (R184, R447 to R450). -/

namespace Sys2Proof.Machine
open Sys2Proof

/-! ### The layout -/

variable {off : Nat} {w : WinAt}

theorem winAt_mem (h : winAt off = some w) : w ∈ windows := List.mem_of_find?_eq_some h
theorem winAt_range (h : winAt off = some w) : w.base ≤ off ∧ off < w.base + w.size := by
  have hd := List.find?_some (p := fun w : WinAt => decide (w.base ≤ off ∧ off < w.base + w.size)) h
  exact of_decide_eq_true hd

theorem winAt_entry_pos (h : winAt off = some w) : 0 < w.entry := by
  have hall : ∀ x ∈ windows, 0 < x.entry := by decide
  exact hall w (winAt_mem h)

/-- No two windows show the same. -/
theorem windows_inj {x : WinAt} (h : w ∈ windows) (hx : x ∈ windows) (hw : w.win = x.win) : w = x := by
  have hall : ∀ a ∈ windows, ∀ b ∈ windows, a.win = b.win → a = b := by decide
  exact hall w h x hx hw

theorem winAt_doms_index {i : Nat} (h : winAt off = some w) (hw : w.win = .doms) (hi : i = (off - w.base) / w.entry) : i < 4096 := by
  have he := windows_inj (x := ⟨.doms, 0x800000, 0x10000, 16⟩) (winAt_mem h) (by decide) hw
  have hr := winAt_range h
  subst he
  simp only at hi hr
  omega

theorem winAt_lock (h : 0x400000 ≤ off) (hlt : off < 0x800000) : winAt off = some ⟨.lock, 0x400000, 0x400000, 16⟩ := by
  simp [winAt, windows, List.find?_cons, Nat.not_lt.mpr h, h, hlt]

theorem winAt_slots (h : 0x4000000 ≤ off) (hlt : off < 0xC000000) : winAt off = some ⟨.slots, 0x4000000, 0x8000000, 64⟩ := by
  have hn (k : Nat) (hk : k ≤ 0x4000000) : ¬off < k := by omega
  simp [winAt, windows, List.find?_cons, hn, h, hlt]

theorem winAt_raw (h : 0xC000000 ≤ off) (hlt : off < 0x10000000) : winAt off = some ⟨.raw, 0xC000000, 0x4000000, 16⟩ := by
  have hn (k : Nat) (hk : k ≤ 0xC000000) : ¬off < k := by omega
  simp [winAt, windows, List.find?_cons, hn, h, hlt]

namespace Dev
variable {d e : Dev} {i m a c p j k t v n : Nat} {ue : Option BadWord} {bs : List Byte}

/-! ### A refusal (R448) -/

theorem last_bar2Refuse (ho : off < 2 ^ 28) (hc : c < 8) : (d.bar2Refuse off c).num HOST.BAR2_LAST = off + c * 2 ^ 28 + 2 ^ 31 := by
  rw [bar2Refuse, num_log_plain _ _ _ _ _ _ _ _ _ rfl, num_raise_plain _ _ _ _ rfl, num_setNum_same]
  omega

theorem refused_bar2Refuse : (d.bar2Refuse off c).num HOST.BAR2_REFUSED = (d.num HOST.BAR2_REFUSED + 1) % 2 ^ 32 := by
  rw [bar2Refuse, num_log_plain _ _ _ _ _ _ _ _ _ rfl, num_raise_plain _ _ _ _ rfl, num_setNum_apart _ _ _ _ _ _ rfl, num_bump_eq]

theorem raised_bar2Refuse : (d.bar2Refuse off c).raised HOST.int_BAR2_REFUSED = true := by
  rw [bar2Refuse, raised_log_plain _ _ _ _ _ _ _ _ rfl, raised_raise_eq _ _ rfl]

theorem moves_bar2Refuse : d.moves (d.bar2Refuse off c) [] [0x68] := d.still.bump.setNum.raise.log

/-! ### Reads -/

theorem bar2Give_closed (h : d.bar2Open = false) : d.bar2Give off ue = d := by rw [bar2Give, h]; rfl

theorem bar2Give_unmapped (h : d.bar2Open = true) (hw : winAt off = none) : d.bar2Give off ue = d.emit (.bytes (List.replicate 16 0)) := by
  rw [bar2Give, bar2Read, h, hw]
  rfl

theorem bar2Give_refused (h : d.bar2Open = true) (hw : winAt off = some w) (hr : w.win = .raw) (hs : d.otp.sealed = true) :
    d.bar2Give off ue = d.bar2Refuse off 5 := by
  simp only [bar2Give, bar2Read, h, hw, hr, hs]
  rfl

theorem bar2Give_window (h : d.bar2Open = true) (hw : winAt off = some w) (hr : w.win = .raw → d.otp.sealed = false) :
    d.bar2Give off ue = (d.winRead w ((off - w.base) / w.entry) ue).1.emit (.bytes (d.winRead w ((off - w.base) / w.entry) ue).2) := by
  have hn : ¬(w.win = .raw ∧ d.otp.sealed = true) := fun ⟨hx, hs⟩ => Bool.false_ne_true ((hr hx).symm.trans hs)
  rw [bar2Give, bar2Read, h, hw]
  simp only [hn, if_false, Bool.not_true, Bool.false_eq_true]

theorem keeps_emit (o : Output) : d.keeps (d.emit o) [.out] := (keeps.refl d).emit

theorem slotAt_congr {b : Bool} (h : e.flow = d.flow) : e.slotAt b t = d.slotAt b t := by
  unfold slotAt memSlot
  rw [h]

theorem slotShow_open (ht : t < 2 * d.altMask) (ho : (d.flow.opened.get none t).isSome = true) :
    d.slotShow t ue = (d, guardBytes 4 (d.slotAt false t)) := by
  rw [slotShow, if_neg (Nat.not_le.mpr ht), if_pos ho]

theorem slotShow_closed (ht : t < 2 * d.altMask) (ho : ¬(d.flow.opened.get none t).isSome = true) :
    d.slotShow t none = (d.slotRead t, guardBytes 4 (d.slotAt false t)) := by
  rw [slotShow, if_neg (Nat.not_le.mpr ht), if_neg ho]
  simp only [slotError]
  rw [slotAt_congr (moves_slotRead.keeps_flow)]

theorem slotShow_clean (ht : t < 2 * d.altMask) (hc : (d.flow.opened.get none t).isSome = true ∨ ue = none) :
    (d.slotShow t ue).2 = guardBytes 4 (d.slotAt false t) ∧ (d.slotShow t ue).1.flow = d.flow ∧
      ((d.flow.opened.get none t).isSome = true → (d.slotShow t ue).1 = d) := by
  by_cases ho : (d.flow.opened.get none t).isSome = true
  · rw [slotShow_open ht ho]
    exact ⟨rfl, rfl, fun _ => rfl⟩
  · obtain rfl := hc.resolve_left ho
    rw [slotShow_closed ht ho]
    exact ⟨rfl, moves_slotRead.keeps_flow, fun h => absurd h ho⟩

/-! ### The raw window (R450) -/

theorem length_freeBytes : (d.freeBytes n).2.length = n := by simp [freeBytes]

theorem murmurs.set_mem {d0 : Dev} {x : MemSt} (h : d0.murmurs d) : d0.murmurs { d with mem := x } := h.of_out rfl
theorem murmurs.drawn {d0 : Dev} (h : d0.murmurs d) : d0.murmurs d.drawn := h.of_out rfl
theorem murmurs.freed {d0 : Dev} (h : d0.murmurs d) : d0.murmurs d.freed := h.of_out rfl

theorem murmurs_freeBytes : d.murmurs (d.freeBytes n).1 := (murmurs.refl d).foldl fun h => h.freed

theorem murmurs.rowAct {d0 : Dev} (h : d0.murmurs d) : d0.murmurs (d.rowAct c a) := by
  unfold Dev.rowAct
  have hb : d0.murmurs ((d.bump MEMC.ACTIVATES c).perf (islandOfChannel c) 0x1C3) := h.bump.perf
  dsimp only
  split
  · exact hb.set_mem.iteSelf fun h => h.bump.perf
  · exact hb.drawn.iteSelf fun h => h.bump.perf

theorem murmurs.rowFetch {d0 : Dev} (h : d0.murmurs d) : d0.murmurs (d.rowFetch c a n) := h.rowAct.perf

theorem length_blockCut (l : List Byte) : ((l.drop n).take 14).length ≤ 14 := List.length_take_le _ _

theorem length_rawKnown : (d.rawKnown m a).length ≤ 14 := by
  unfold rawKnown
  split
  · exact List.length_take_le _ _
  · split
    · exact (length_leBytes _ _).le
    · exact (length_leBytes _ _).le
    · exact (length_leBytes _ _).le
    · exact Nat.zero_le 14

theorem rawKnown_slot (hm : m < 48) (ht : d.slotHere m a = some t) :
    d.rawKnown m a = leBytes 14 (bitsOf (d.memSlot d.flow.region t) (112 * (a % 64 / 16)) 112) := by
  rw [slotHere] at ht
  rw [rawKnown, if_neg (Nat.not_le.mpr hm), ht]

/-- What the raw window gives: what is known, before open bytes. -/
theorem length_rawShow : (d.rawShow v).2.length = 16 := by
  have hk := length_rawKnown (d := d) (m := d.fld HOST.RAW_CFG_CHANNEL) (a := d.fld HOST.RAW_CFG_SEG * 0x4000000 + v)
  have hf : (d.freeBytes 16).2.length = 16 := length_freeBytes
  change (d.rawKnown _ _ ++ (d.freeBytes 16).2.drop _).length = 16
  rw [List.length_append, List.length_drop, hf]
  omega

theorem rawShow_fst : (d.rawShow v).1 =
    (d.freeBytes 16).1.rowFetch (d.fld HOST.RAW_CFG_CHANNEL) (d.fld HOST.RAW_CFG_SEG * 0x4000000 + v) 1 := rfl

theorem moves_rawShow : d.moves (d.rawShow v).1 [.draws, .frees, .mem] [0x50] := by
  have hf : d.moves (d.freeBytes 16).1 [.draws, .frees, .mem] [0x50] := d.still.andThen (moves_freeBytes rfl)
  rw [rawShow_fst]
  exact hf.andThen moves_rowFetch

theorem murmurs_rawShow : d.murmurs (d.rawShow v).1 := by
  rw [rawShow_fst]
  exact murmurs.rowFetch murmurs_freeBytes

theorem take_rawShow (hm : m = d.fld HOST.RAW_CFG_CHANNEL) (ha : a = d.fld HOST.RAW_CFG_SEG * 0x4000000 + v) :
    (d.rawShow v).2.take (d.rawKnown m a).length = d.rawKnown m a := by
  subst hm ha
  exact List.take_left

/-! ### Writes -/

theorem bar2Write_closed (h : d.bar2Open = false) : d.bar2Write off bs = d := by rw [bar2Write, h]; rfl

theorem bar2Write_unmapped (h : d.bar2Open = true) (hw : winAt off = none) : d.bar2Write off bs = d.bar2Refuse off 1 := by
  rw [bar2Write, h, hw]
  rfl

theorem bar2Write_misaligned (h : d.bar2Open = true) (hw : winAt off = some w) (hs : w.win ≠ .slots) (hr : w.win ≠ .raw)
    (ha : (off - w.base) % w.entry ≠ 0) : d.bar2Write off bs = d.bar2Refuse off 2 := by
  rw [bar2Write, h, hw]
  simp only [Bool.not_true, Bool.false_eq_true, if_false, ha, true_or, ne_eq, not_false_eq_true, if_true]

/-- A write of one whole entry. -/
theorem bar2Write_entry (h : d.bar2Open = true) (hw : winAt off = some w) (ha : (off - w.base) % w.entry = 0) (hl : bs.length = w.entry) :
    d.bar2Write off bs = match d.winWrite false w off bs with
      | (d, none) => d
      | (d, some c) => d.bar2Refuse off c := by
  have hpos := winAt_entry_pos hw
  have hne : bs ≠ [] := by
    rintro rfl
    rw [List.length_nil] at hl
    omega
  have hput : (d.bar2Put false off bs).1 = match d.winWrite false w off bs with
      | (d, none) => d
      | (d, some c) => d.bar2Refuse off c := by
    rw [bar2Put, hw]
    simp only [ha, hl, ne_eq, not_true_eq_false, or_self, if_false]
    rcases d.winWrite false w off bs with ⟨e, _ | c⟩ <;> rfl
  rw [← hput, bar2Write, h, hw]
  simp only [Bool.not_true, Bool.false_eq_true, if_false, ha, hl, Nat.mod_self, ne_eq, not_true_eq_false, hne, or_self, Nat.div_self hpos]
  rw [bar2Entries, if_neg hne, bar2Entries, ← hl, List.take_length]

/-! ### Entries of a table in several pipelines -/

/-- What a write to the pipelines of a mask leaves at a place of each. -/
theorem each_pipes {α : Type} {rd : Dev → Nat → α} {f : Dev → Nat → Dev} {x : α} {mask : Nat} (hs : ∀ d p, rd (f d p) p = x)
    (hn : ∀ d p q, q ≠ p → rd (f d p) q = rd d q) (n : Nat) (hp : p < n) :
    rd (d.each n fun d p => if bitOf mask p then f d p else d) p = if bitOf mask p then x else rd d p := by
  induction n with
  | zero => exact absurd hp (Nat.not_lt_zero p)
  | succ n ih =>
    rw [each_succ]
    rcases Nat.lt_succ_iff_lt_or_eq.mp hp with hlt | rfl
    · rw [← ih hlt]
      split
      · exact hn _ _ _ (Nat.ne_of_lt hlt)
      · rfl
    · split
      · exact hs _ _
      · refine each_keeps (rd := fun d => rd d p) fun e q hq => ?_
        split
        · exact hn _ _ _ (Nat.ne_of_gt hq)
        · rfl

/-! ### Hosts and domains -/

theorem domAt_setDom_same (d : Dev) (p i x : Nat) : (d.setDom p i x).domAt p i = x := SMap.get_set_same _ _ _ _

theorem domAt_setDom_ne (d : Dev) {p i j q : Nat} (x : Nat) (h : p ≠ q ∨ i % 4096 ≠ j % 4096) :
    (d.setDom p i x).domAt q j = d.domAt q j := SMap.get_set_ne _ _ _ _ (by omega)

theorem writeDom_eq : d.writeDom i v = d.each 4 fun e p => if bitOf d.winMask p then e.setDom p i (v % 2 ^ 48) else e :=
  each_pinned (rd := winMask) (fun e p h => by rw [h]) fun e p => by
    split
    · rfl
    · rfl

theorem domAt_writeDom (hp : p < 4) (hi : i < 4096) (hj : j < 4096) :
    (d.writeDom i v).domAt p j = if bitOf d.winMask p = true ∧ j = i then v % 2 ^ 48 else d.domAt p j := by
  rw [writeDom_eq]
  by_cases hij : j = i
  · subst hij
    have h := each_pipes (d := d) (rd := fun d p => d.domAt p j) (f := fun d p => d.setDom p j (v % 2 ^ 48)) (mask := d.winMask)
      (fun e p => domAt_setDom_same e p j _) (fun e p q hq => domAt_setDom_ne e _ (.inl hq.symm)) 4 hp
    simpa using h
  · rw [if_neg fun hc => hij hc.2]
    refine each_keeps (rd := fun d => d.domAt p j) fun e q _ => ?_
    split
    · exact domAt_setDom_ne _ _ (.inr (by omega))
    · rfl

theorem keeps.set_look {d0 : Dev} {P : List Part} {x} (h : d0.keeps d P) (hp : P.contains .look = true := by rfl) :
    d0.keeps { d with look := x } P :=
  h.of_part .look hp fun p hp => by
    cases p with
    | look => exact absurd rfl hp
    | _ => rfl

theorem keeps_writeDom : d.keeps (d.writeDom i v) [.look] :=
  keeps.each (keeps.refl d) fun {x _} (h : d.keeps x [.look]) => keeps.ite h.set_look h

theorem look_writeDom : (d.writeDom i v).look = { d.look with doms := (d.writeDom i v).look.doms } := by
  have h (n : Nat) (f : Dev → Nat → Dev) (hf : ∀ e p, (f e p).look = { e.look with doms := (f e p).look.doms }) :
      (d.each n f).look = { d.look with doms := (d.each n f).look.doms } := by
    induction n with
    | zero => rfl
    | succ n ih => rw [each_succ, hf, ih]
  refine h 4 _ fun e p => ?_
  split
  · rfl
  · rfl

/-- A host entry in the pipelines of a mask. -/
def hostsPut (d : Dev) (mask i e : Nat) : Dev := d.each 4 fun d p => if bitOf mask p then d.setHost (p * 262144 + i) e else d

/-- A key in the wrong bucket is counted in the pipelines of a mask. -/
def hostsRefused (d : Dev) (mask : Nat) : Dev := d.each 4 fun d p => if bitOf mask p then d.fwdCnt p 12 else d

theorem hostAt_hostsPut {x mask : Nat} (hp : p < 4) : (d.hostsPut mask i x).hostAt (p * 262144 + i) =
    if bitOf mask p then x else d.hostAt (p * 262144 + i) :=
  each_pipes (rd := fun d p => d.hostAt (p * 262144 + i)) (fun e p => hostAt_setHost_same e _ _)
    (fun e p q hq => hostAt_setHost_ne e _ (by omega)) 4 hp

theorem keeps_hostsPut {x mask : Nat} : d.keeps (d.hostsPut mask i x) [.look, .frees] :=
  keeps.each (keeps.refl d) fun {x _} (h : d.keeps x [.look, .frees]) => keeps.ite h.set_look h

theorem hostAt_under : (d.under e).hostAt i = e.hostAt i := rfl
theorem out_setHost {x : Nat} : (d.setHost i x).out = d.out := rfl
theorem look_setHost {x : Nat} : (d.setHost i x).look = { d.look with hosts := d.look.hosts.set 0 i x } := rfl

theorem moves_hostsRefused {mask : Nat} : d.moves (d.hostsRefused mask) [] [0x28] := d.still.each fun h => h.iteSelf fun h => h.bump

theorem writeHost_eq {x y : Nat} (hset : hostSettle (d.hostAt (lowPipe d.winMask * 262144 + i)) x = (y, false)) :
    d.writeHost off i x = if d.wellPlaced (lowPipe d.winMask) i y then (d.freed.hostsPut d.winMask i y, none)
      else (d.freed.hostsRefused d.winMask, some 6) := by
  rw [writeHost, hset]
  rfl

end Dev

/-! ### The commands -/

variable {s : State} {off i k m a t e : Nat} {ue : Option BadWord} {w : WinAt} {bs : List Byte}

theorem exec_bar2Read (ho : off < 2 ^ 28) : exec (.bar2Read off ue) s = s.act fun d => d.bar2Give off ue :=
  congrArg (fun x => s.act fun d => d.bar2Give x ue) (Nat.mod_eq_of_lt ho)

theorem exec_bar2Write (ho : off < 2 ^ 28) : exec (.bar2Write off bs) s = s.act fun d => d.bar2Write off bs :=
  congrArg (fun x => s.act fun d => d.bar2Write x bs) (Nat.mod_eq_of_lt ho)

theorem exec_hostTableReadLock (hi : i < 262144) :
    exec (.hostTableReadLock i) s = s.act fun d => d.bar2Give (0x00400000 + 16 * i) none :=
  congrArg (fun x => s.act fun d => d.bar2Give (0x00400000 + 16 * x) none) (Nat.mod_eq_of_lt hi)

theorem exec_slotWindowRead (ho : off < 0x08000000) :
    exec (.slotWindowRead off ue) s = s.act fun d => d.bar2Give (0x04000000 + off) ue :=
  congrArg (fun x => s.act fun d => d.bar2Give (0x04000000 + x) ue) (Nat.mod_eq_of_lt ho)

theorem exec_rawWindowRead (ho : off < 0x04000000) :
    exec (.rawWindowRead off) s = s.act fun d => d.bar2Give (0x0C000000 + off) none :=
  congrArg (fun x => s.act fun d => d.bar2Give (0x0C000000 + x) none) (Nat.mod_eq_of_lt ho)

/-- A window whose entry is shown as it stands. -/
theorem winRead_shown {d : Dev} (h : w.win = .hosts ∨ w.win = .doms ∨ w.win = .hops ∨ w.win = .units ∨ w.win = .rules ∨ w.win = .edits ∨
    w.win = .samples) : (d.winRead w i ue).1 = d := by
  rcases h with h | h | h | h | h | h | h <;> simp only [Dev.winRead, h]

theorem gives_bar2Read_shown (hon : s.On) (hopen : s.dev.bar2Open = true) (ho : off < 2 ^ 28) (hw : winAt off = some w)
    (h : w.win = .hosts ∨ w.win = .doms ∨ w.win = .hops ∨ w.win = .units ∨ w.win = .rules ∨ w.win = .edits ∨ w.win = .samples) :
    Gives (.bar2Read off ue) s fun d => s.dev.keeps d [.out] ∧
      d.out = .bytes (s.dev.winRead w ((off - w.base) / w.entry) ue).2 :: s.dev.out := by
  have hr : w.win ≠ .raw := by rcases h with h | h | h | h | h | h | h <;> simp [h]
  have hg : s.dev.bar2Give off ue = s.dev.emit (.bytes (s.dev.winRead w ((off - w.base) / w.entry) ue).2) := by
    rw [Dev.bar2Give_window hopen hw fun hx => absurd hx hr, winRead_shown h]
  refine gives_act (exec_bar2Read ho) hon ?_
  rw [hg]
  exact ⟨(Dev.keeps_emit _).under, rfl⟩

theorem gives_hostTableReadLock (hon : s.On) (hopen : s.dev.bar2Open = true) (hi : i < 262144) (hk : k = s.dev.winPipe * 262144 + i) :
    Gives (.hostTableReadLock i) s fun d => d.out = .bytes (guardBytes 1 (s.dev.hostAt k)) :: s.dev.out ∧
      d.look = { s.dev.look with hosts := s.dev.look.hosts.set 0 k (setBits (s.dev.hostAt k) 80 1 1) } ∧
      s.dev.keeps d [.out, .look] := by
  have hg : s.dev.bar2Give (0x400000 + 16 * i) none =
      (s.dev.setHost k (setBits (s.dev.hostAt k) 80 1 1)).emit (.bytes (guardBytes 1 (s.dev.hostAt k))) := by
    rw [Dev.bar2Give_window hopen (winAt_lock (Nat.le_add_right _ _) (by omega)) (fun h => by cases h)]
    have hx : (0x400000 + 16 * i - 0x400000) / 16 = i := by omega
    simp only [hx, Dev.winRead, ← hk]
  have hkeep : s.dev.keeps (s.dev.setHost k (setBits (s.dev.hostAt k) 80 1 1)) [.out, .look] := Dev.keeps.set_look (Dev.keeps.refl s.dev)
  refine gives_act (exec_hostTableReadLock hi) hon ?_
  rw [hg, (s.dev.still.setHost (P := [.look]) (G := [])).emit.under_eq, Dev.out_emit, Dev.emit_look, Dev.look_setHost, Dev.out_setHost]
  exact ⟨rfl, rfl, hkeep.emit⟩

theorem gives_slotWindowRead (hon : s.On) (hopen : s.dev.bar2Open = true) (ho : off < 0x08000000)
    (ht : t = s.dev.num HOST.APER_SLOT + off / 64) (hlt : t < 2 * s.dev.altMask)
    (hc : (s.dev.flow.opened.get none t).isSome = true ∨ ue = none) :
    Gives (.slotWindowRead off ue) s fun d => d.out.head? = some (.bytes (guardBytes 4 (s.dev.slotAt false t))) ∧
      d.flow = s.dev.flow ∧ ((s.dev.flow.opened.get none t).isSome = true → s.dev.keeps d [.out]) := by
  have hg : s.dev.bar2Give (0x4000000 + off) ue = (s.dev.slotShow t ue).1.emit (.bytes (s.dev.slotShow t ue).2) := by
    rw [Dev.bar2Give_window hopen (winAt_slots (Nat.le_add_right _ _) (by omega)) (fun h => by cases h)]
    have hx : (0x4000000 + off - 0x4000000) / 64 = off / 64 := by omega
    simp only [hx, Dev.winRead, ← ht]
  obtain ⟨hbytes, hflow, hkeep⟩ := Dev.slotShow_clean hlt hc
  refine gives_act (exec_slotWindowRead ho) hon ?_
  rw [hg]
  refine ⟨congrArg (fun x => some (Output.bytes x)) hbytes, hflow, fun h => ?_⟩
  rw [hkeep h]
  exact (Dev.keeps_emit _).under

theorem gives_rawWindowRead_sealed (hon : s.On) (hopen : s.dev.bar2Open = true) (ho : off < 0x04000000) (hs : s.dev.otp.sealed = true) :
    Gives (.rawWindowRead off) s fun d => d.num HOST.BAR2_LAST = 0x0C000000 + off + 5 * 2 ^ 28 + 2 ^ 31 ∧
      d.num HOST.BAR2_REFUSED = (s.dev.num HOST.BAR2_REFUSED + 1) % 2 ^ 32 ∧ d.raised HOST.int_BAR2_REFUSED = true ∧
      s.dev.moves d [] [0x68] := by
  refine gives_act (exec_rawWindowRead ho) hon ?_
  rw [Dev.bar2Give_refused hopen (winAt_raw (Nat.le_add_right _ _) (by omega)) rfl hs, Dev.moves_bar2Refuse.under_eq]
  exact ⟨Dev.last_bar2Refuse (by omega) (by decide), Dev.refused_bar2Refuse, Dev.raised_bar2Refuse, Dev.moves_bar2Refuse⟩

theorem gives_rawWindowRead (hon : s.On) (hopen : s.dev.bar2Open = true) (ho : off < 0x04000000) (hs : s.dev.otp.sealed = false)
    (hm : m = s.dev.fld HOST.RAW_CFG_CHANNEL) (ha : a = s.dev.fld HOST.RAW_CFG_SEG * 0x4000000 + off / 16 * 16) :
    Gives (.rawWindowRead off) s fun d => s.dev.moves d [.draws, .frees, .mem] [0x50] ∧ ∃ bs : List Byte, bs.length = 16 ∧
      s.dev.emits d (.bytes bs) ∧ bs.take (s.dev.rawKnown m a).length = s.dev.rawKnown m a ∧
      ∀ t, m < 48 → s.dev.slotHere m a = some t →
        bs.take 14 = leBytes 14 (bitsOf (s.dev.memSlot s.dev.flow.region t) (112 * (a % 64 / 16)) 112) := by
  have hg : s.dev.bar2Give (0xC000000 + off) none = (s.dev.rawShow (off / 16 * 16)).1.emit (.bytes (s.dev.rawShow (off / 16 * 16)).2) := by
    rw [Dev.bar2Give_window hopen (winAt_raw (Nat.le_add_right _ _) (by omega)) (fun _ => hs)]
    have hx : 16 * ((0xC000000 + off - 0xC000000) / 16) = off / 16 * 16 := by omega
    simp only [hx, Dev.winRead]
  have hmv : s.dev.moves ((s.dev.rawShow (off / 16 * 16)).1.emit (.bytes (s.dev.rawShow (off / 16 * 16)).2)) [.draws, .frees, .mem] [0x50] :=
    Dev.moves_rawShow.emit
  have hknown := Dev.take_rawShow hm ha
  refine gives_act (exec_rawWindowRead ho) hon ?_
  rw [hg, hmv.under_eq]
  refine ⟨hmv, _, Dev.length_rawShow, Dev.murmurs_rawShow.emits (.refl _), hknown, fun t hlt ht => ?_⟩
  have hslot := Dev.rawKnown_slot hlt ht
  rw [hslot, length_leBytes] at hknown
  exact hknown

theorem gives_bar2Write_doms (hon : s.On) (hopen : s.dev.bar2Open = true) (ho : off < 2 ^ 28) (hw : winAt off = some w)
    (ha : (off - w.base) % w.entry = 0) (hl : bs.length = w.entry) (hwin : w.win = .doms) (hi : i = (off - w.base) / w.entry) :
    Gives (.bar2Write off bs) s fun d => s.dev.keeps d [.look] ∧ d.look = { s.dev.look with doms := d.look.doms } ∧
      ∀ p, p < 4 → ∀ j, j < 4096 →
        d.domAt p j = if bitOf s.dev.winMask p = true ∧ j = i then guardVal bs % 2 ^ 48 else s.dev.domAt p j := by
  have hg : s.dev.bar2Write off bs = s.dev.writeDom i (guardVal bs) := by
    rw [Dev.bar2Write_entry hopen hw ha hl]
    simp only [Dev.winWrite, hwin, ← hi]
  have hlt : i < 4096 := winAt_doms_index hw hwin hi
  refine gives_act (exec_bar2Write ho) hon ?_
  rw [hg]
  exact ⟨Dev.keeps_writeDom.under, Dev.look_writeDom, fun p hp j hj => Dev.domAt_writeDom hp hlt hj⟩

theorem gives_bar2Write_hosts (hon : s.On) (hopen : s.dev.bar2Open = true) (ho : off < 2 ^ 28) (hw : winAt off = some w)
    (ha : (off - w.base) % w.entry = 0) (hl : bs.length = w.entry) (hwin : w.win = .hosts) (hi : i = (off - w.base) / w.entry)
    (hset : hostSettle (s.dev.hostAt (lowPipe s.dev.winMask * 262144 + i)) (guardVal bs) = (e, false)) :
    Gives (.bar2Write off bs) s fun d =>
      (s.dev.wellPlaced (lowPipe s.dev.winMask) i e = true → s.dev.keeps d [.look, .frees] ∧
        ∀ p, p < 4 → d.hostAt (p * 262144 + i) = if bitOf s.dev.winMask p then e else s.dev.hostAt (p * 262144 + i)) ∧
      (s.dev.wellPlaced (lowPipe s.dev.winMask) i e = false → d.look = s.dev.look ∧
        d.num HOST.BAR2_LAST = off + 6 * 2 ^ 28 + 2 ^ 31 ∧ d.raised HOST.int_BAR2_REFUSED = true) := by
  have hg := Dev.bar2Write_entry hopen hw ha hl
  simp only [Dev.winWrite, hwin, ← hi, Dev.writeHost_eq hset] at hg
  refine gives_act (exec_bar2Write ho) hon ?_
  rw [hg]
  cases hp : s.dev.wellPlaced (lowPipe s.dev.winMask) i e with
  | true =>
    have hkeep : s.dev.keeps (s.dev.freed.hostsPut s.dev.winMask i e) [.look, .frees] :=
      ((Dev.keeps.refl s.dev).freed (P := [.look, .frees])).trans Dev.keeps_hostsPut
    rw [if_pos rfl]
    refine ⟨fun _ => ⟨hkeep.under, fun p hp => ?_⟩, nofun⟩
    rw [Dev.hostAt_under]
    exact Dev.hostAt_hostsPut hp
  | false =>
    have hm : s.dev.moves ((s.dev.freed.hostsRefused s.dev.winMask).bar2Refuse off 6) [.frees] [0x28, 0x68] :=
      (s.dev.still.freed.andThen Dev.moves_hostsRefused).andThen Dev.moves_bar2Refuse
    rw [if_neg Bool.false_ne_true, hm.under_eq]
    exact ⟨nofun, fun _ => ⟨hm.keeps_look, Dev.last_bar2Refuse ho (by decide), Dev.raised_bar2Refuse⟩⟩

/-- A write that is refused with a cause of R448. -/
theorem bar2Write_refused {d : Dev} {cause : Nat} (hopen : d.bar2Open = true) (h : (winAt off = none ∧ cause = 1) ∨
    (∃ w, winAt off = some w ∧ w.win ≠ .slots ∧ w.win ≠ .raw ∧ (off - w.base) % w.entry ≠ 0 ∧ cause = 2) ∨
    (∃ w, winAt off = some w ∧ (w.win = .lock ∨ w.win = .units ∨ w.win = .samples) ∧ (off - w.base) % w.entry = 0 ∧
      bs.length = w.entry ∧ cause = 3) ∨
    (∃ w, winAt off = some w ∧ w.win = .slots ∧ (off - w.base) % w.entry = 0 ∧ bs.length = w.entry ∧ cause = 4) ∨
    (∃ w, winAt off = some w ∧ w.win = .raw ∧ d.otp.sealed = true ∧ (off - w.base) % w.entry = 0 ∧ bs.length = w.entry ∧
      cause = 5)) : d.bar2Write off bs = d.bar2Refuse off cause ∧ cause < 8 := by
  rcases h with ⟨hw, rfl⟩ | ⟨w, hw, hs, hr, ha, rfl⟩ | ⟨w, hw, hwin, ha, hl, rfl⟩ | ⟨w, hw, hwin, ha, hl, rfl⟩ |
    ⟨w, hw, hwin, hs, ha, hl, rfl⟩
  · exact ⟨Dev.bar2Write_unmapped hopen hw, by decide⟩
  · exact ⟨Dev.bar2Write_misaligned hopen hw hs hr ha, by decide⟩
  · refine ⟨?_, by decide⟩
    rw [Dev.bar2Write_entry hopen hw ha hl]
    rcases hwin with hwin | hwin | hwin <;> simp only [Dev.winWrite, hwin]
  · refine ⟨?_, by decide⟩
    rw [Dev.bar2Write_entry hopen hw ha hl]
    simp only [Dev.winWrite, hwin]
  · refine ⟨?_, by decide⟩
    rw [Dev.bar2Write_entry hopen hw ha hl]
    simp only [Dev.winWrite, hwin, hs, if_true]

theorem idle_bar2 (c : Instr) (h : c = .bar2Read off ue ∨ c = .bar2Write off bs ∨ c = .hostTableReadLock off ∨ c = .slotWindowRead off ue ∨
    c = .rawWindowRead off) (hc : s.dev.bar2Open = false) : Idle c s := by
  rcases h with rfl | rfl | rfl | rfl | rfl
  · exact idle_actSelf rfl (Dev.bar2Give_closed hc)
  · exact idle_actSelf rfl (Dev.bar2Write_closed hc)
  · exact idle_actSelf rfl (Dev.bar2Give_closed hc)
  · exact idle_actSelf rfl (Dev.bar2Give_closed hc)
  · exact idle_actSelf rfl (Dev.bar2Give_closed hc)

end Sys2Proof.Machine

open Sys2Proof Sys2Proof.Machine

/-- Settles O54, by the windows of the layout. -/
theorem tableWindows : Obligations.TableWindows := by
  unfold Obligations.TableWindows
  refine ⟨fun s off ue hon hopen ho hw => ?unmapped, fun s off i ue w hon hopen ho hw hi hwin => ?shown,
    fun s index k hon hopen hi hk => gives_hostTableReadLock hon hopen hi hk,
    fun s off t ue hon hopen ho ht hlt hc => gives_slotWindowRead hon hopen ho ht hlt hc,
    fun s off hon hopen ho hs => gives_rawWindowRead_sealed hon hopen ho hs,
    fun s off m a hon hopen ho hs hm ha => gives_rawWindowRead hon hopen ho hs hm ha,
    fun s off i bs w hon hopen ho hw ha hl hwin hi => gives_bar2Write_doms hon hopen ho hw ha hl hwin hi,
    fun s off i e bs w hon hopen ho hw ha hl hwin hi hset => gives_bar2Write_hosts hon hopen ho hw ha hl hwin hi hset,
    fun s off cause bs hon hopen ho h => ?refused, fun s c off ue bs hc _ hclosed => idle_bar2 c hc hclosed⟩
  case unmapped =>
    refine gives_act (exec_bar2Read ho) hon ?_
    rw [Dev.bar2Give_unmapped hopen hw]
    exact ⟨rfl, (Dev.keeps_emit _).under⟩
  case shown =>
    refine (gives_bar2Read_shown hon hopen ho hw hwin).mono fun d ⟨hkeep, hout⟩ => ⟨hkeep, ?_⟩
    rw [← hi] at hout
    refine ⟨fun h => ?_, fun h => ?_, fun h => ?_, fun h => ?_⟩ <;> simpa only [Dev.winRead, h] using hout
  case refused =>
    obtain ⟨hg, hc⟩ := bar2Write_refused hopen h
    refine gives_act (exec_bar2Write ho) hon ?_
    rw [hg, Dev.moves_bar2Refuse.under_eq]
    exact ⟨Dev.last_bar2Refuse ho hc, Dev.refused_bar2Refuse, Dev.raised_bar2Refuse, Dev.moves_bar2Refuse⟩
end

section
set_option Elab.async false
/-! Waking from SPORE (R59 to R62). -/

namespace Sys2Proof.Machine.Dev
open Sys2Proof
variable {d : Dev} {n m p : Nat}

/-! ### The start of a wake -/

theorem wakeEvent_idle (h : d.spore.wake.isSome = true ∨ d.fld PWRM.SLEEP_STAT_STATE = 0 ∨ d.fld PWRM.SLEEP_STAT_STATE = 3) :
    d.wakeEvent n = d := by
  refine if_neg ?_
  rintro ⟨hst, hw⟩
  rcases h with h | h | h
  · rw [hw] at h
    cases h
  · omega
  · omega

theorem wakeEvent_held (hst : d.fld PWRM.SLEEP_STAT_STATE = 1) (hw : d.spore.wake = none) :
    d.wakeEvent n = d.setSpore { d.spore with wake := some n } := by
  unfold wakeEvent
  rw [hst, if_pos ⟨.inl rfl, hw⟩, if_neg (by decide)]

theorem wakeEvent_begins (hst : d.fld PWRM.SLEEP_STAT_STATE = 2) (hw : d.spore.wake = none) :
    d.wakeEvent n = (d.setSpore { d.spore with wake := some n }).wakeBegin := by
  unfold wakeEvent
  rw [hst, if_pos ⟨.inr rfl, hw⟩, if_pos rfl]

theorem state_wakeBegin : d.wakeBegin.fld PWRM.SLEEP_STAT_STATE = 3 := fld_setFld_eq _ _ _ _ rfl

theorem spore_wakeBegin : d.wakeBegin.spore = { d.spore with since := d.clk.up } := by
  unfold wakeBegin
  rw [setFld_spore]
  rfl

theorem len_wakeBegin : d.wakeBegin.num PWRM.SPORE_LEN = min (2 ^ 32 - 1) ((d.clk.up - d.spore.since) / 156250000) := by
  unfold wakeBegin
  rw [num_setFld_apart _ _ _ _ _ _ rfl]
  change (d.setNum PWRM.SPORE_LEN _).num PWRM.SPORE_LEN = _
  rw [num_setNum_same]
  omega

theorem keeps_setSpore (x : Spore) : d.keeps (d.setSpore x) [.spore] := (keeps.refl d).of_part .spore rfl fun p hp => by
  cases p with
  | spore => exact absurd rfl hp
  | _ => rfl

/-! ### The end of a wake -/

/-- STATE, LAST_WAKE and HELD, and RUN where admission is held. -/
def wakeShown (d : Dev) : Dev :=
  let hold := d.on PWRM.SLEEP_CFG_WAKE_HOLD
  let e := ((d.setFld PWRM.SLEEP_STAT_STATE 0).setFld PWRM.SLEEP_STAT_LAST_WAKE (d.spore.wake.getD 0)).setFld PWRM.SLEEP_STAT_HELD (bit hold)
  if hold then e.setNum FENG.RUN 0 else e

/-- What the sweeps are told of the SPORE that ends. -/
def wakeSpore (d : Dev) (hold : Bool) (len : Nat) : Spore :=
  let long := decide (16588800 ≤ len)
  let mid := decide (d.opState FLOW.SWEEP_STAT = 1 ∧ d.flow.pair ≠ 0)
  { d.spore with
    phase := 0, wake := none, stopped := hold, long := d.spore.long || long,
    longMid := if long then mid else d.spore.longMid,
    longEnd := if long then (if mid then d.flow.pair else 2 ^ 32) else d.spore.longEnd }

/-- Time that stood still is forgotten, as are the tables' sweeps of a SPORE too long. -/
def wakeCleared (d : Dev) (len : Nat) : Dev :=
  let d := if 131072 ≤ len then { d with look := { d.look with longSweep := [(0, none), (1, none), (2, none), (3, none)] } } else d
  { d with time := { d.time with dev := [], devAt := [], low := [], halted := [] } }

/-- A servo that was LOCKED holds over. -/
def wakeServo (d : Dev) : Dev := if d.spore.locked then d.enterHoldover else d

/-- Channels leave self-refresh, ports begin bring-up. -/
def wakeLinks (d : Dev) : Dev := ((d.chStates (List.range 64) 3 0).each 34 Dev.wakePort).tandemFollow

/-- The device before channels and ports follow. -/
def wakeReady (d : Dev) : Dev :=
  ((d.wakeShown.setSpore (d.wakeShown.wakeSpore (d.on PWRM.SLEEP_CFG_WAKE_HOLD) (d.num PWRM.SPORE_LEN))).wakeCleared
    (d.num PWRM.SPORE_LEN)).wakeServo

/-- The end of a wake is reported. -/
def wakeReported (d : Dev) (len : Nat) : Dev := (d.raise PWRM.int_WAKE_DONE).log 32 0x0106 (d.num PWRM.SLEEP_STAT) len

theorem wakeDone_eq : d.wakeDone = d.wakeReady.wakeLinks.wakeReported (d.num PWRM.SPORE_LEN) := by
  rfl

theorem state_wakeShown : d.wakeShown.fld PWRM.SLEEP_STAT_STATE = 0 := by
  have h (e : Dev) (v w : Nat) : (((e.setFld PWRM.SLEEP_STAT_STATE 0).setFld PWRM.SLEEP_STAT_LAST_WAKE v).setFld
      PWRM.SLEEP_STAT_HELD w).fld PWRM.SLEEP_STAT_STATE = 0 := by
    rw [fld_setFld_beside _ _ _ _ _ rfl, fld_setFld_beside _ _ _ _ _ rfl, fld_setFld_eq _ _ _ _ rfl, Nat.zero_mod]
  unfold wakeShown
  dsimp only
  split
  · rw [fld_setNum_apart _ _ _ _ _ _ rfl, h]
  · exact h _ _ _

theorem lastWake_wakeShown : d.wakeShown.fld PWRM.SLEEP_STAT_LAST_WAKE = d.spore.wake.getD 0 % 8 := by
  have h (e : Dev) (v w : Nat) : ((e.setFld PWRM.SLEEP_STAT_LAST_WAKE v).setFld PWRM.SLEEP_STAT_HELD w).fld PWRM.SLEEP_STAT_LAST_WAKE = v % 8 := by
    rw [fld_setFld_beside _ _ _ _ _ rfl, fld_setFld_eq _ _ _ _ rfl]
    rfl
  unfold wakeShown
  dsimp only
  split
  · rw [fld_setNum_apart _ _ _ _ _ _ rfl, h]
  · exact h _ _ _

theorem held_wakeShown : d.wakeShown.on PWRM.SLEEP_STAT_HELD = d.on PWRM.SLEEP_CFG_WAKE_HOLD := by
  have h (e : Dev) (b : Bool) : (e.setFld PWRM.SLEEP_STAT_HELD (bit b)).on PWRM.SLEEP_STAT_HELD = b := by
    rw [on, fld_setFld_eq _ _ _ _ rfl]
    cases b <;> rfl
  unfold wakeShown
  dsimp only
  split
  · rw [on_setNum_apart _ _ _ _ _ _ rfl, h]
  · exact h _ _

theorem run_wakeShown_held (h : d.on PWRM.SLEEP_CFG_WAKE_HOLD = true) : d.wakeShown.num FENG.RUN = 0 := by
  unfold wakeShown
  dsimp only
  rw [if_pos h, num_setNum_same, Nat.zero_mod]

theorem run_wakeShown (h : d.on PWRM.SLEEP_CFG_WAKE_HOLD = false) : d.wakeShown.num FENG.RUN = d.num FENG.RUN := by
  unfold wakeShown
  dsimp only
  rw [if_neg (by simp [h]), num_setFld_apart _ _ _ _ _ _ rfl, num_setFld_apart _ _ _ _ _ _ rfl, num_setFld_apart _ _ _ _ _ _ rfl]

theorem moves_wakeShown : d.moves d.wakeShown [] [0x01, 0x31] := by
  unfold wakeShown
  have h := ((d.still (P := []) (G := [0x01, 0x31])).setFld (x := PWRM.SLEEP_STAT_STATE) (v := 0) (c := 0)).setFld
    (x := PWRM.SLEEP_STAT_LAST_WAKE) (v := d.spore.wake.getD 0) (c := 0)
  exact (h.setFld.setNum).ite h.setFld

theorem moves_wakeCleared {len : Nat} : d.moves (d.wakeCleared len) [.look, .time] [] := by
  unfold wakeCleared
  exact (d.still.iteSelf fun h => h.set_look).set_time

theorem moves_enterHoldover : d.moves d.enterHoldover [.time] [0x05] := (moves_setServo _ _).andThen (moves_setSync _)

theorem moves_wakeServo : d.moves d.wakeServo [.time] [0x05] := d.still.iteSelf fun h => h.andThen moves_enterHoldover

theorem halted_wakeServo : d.wakeServo.time.halted = d.time.halted := by
  unfold wakeServo
  split
  · rw [enterHoldover, time_setSync, time_setServo]
  · rfl

theorem moves_wakeReady : d.moves d.wakeReady [.spore, .look, .time] [0x01, 0x05, 0x31] :=
  ((d.still.andThen moves_wakeShown).set_spore.andThen moves_wakeCleared).andThen moves_wakeServo

/-- What the wake has shown stays shown. -/
theorem num_wakeReady (r : Reg) (c : Nat) (hr : r.plain = true) (hp : r.page ≠ 0x05) : d.wakeReady.num r c = d.wakeShown.num r c := by
  rw [wakeReady, moves_wakeServo.num r c hr (by simpa using hp), moves_wakeCleared.num r c hr rfl]
  rfl

theorem spore_wakeReady : d.wakeReady.spore = d.wakeShown.wakeSpore (d.on PWRM.SLEEP_CFG_WAKE_HOLD) (d.num PWRM.SPORE_LEN) := by
  rw [wakeReady, moves_wakeServo.keeps_spore, moves_wakeCleared.keeps_spore]
  rfl

theorem halted_wakeReady : d.wakeReady.time.halted = [] := by
  rw [wakeReady, halted_wakeServo]
  rfl

/-! ### Channels and ports -/

theorem moves_chStates {l : List Nat} {old new : Nat} : d.moves (d.chStates l old new) [] [0x50] := d.still.foldl fun h => h.iteSelf fun h => h.setFld

theorem chStates_succ {old new : Nat} : d.chStates (List.range (n + 1)) old new =
    if (d.chStates (List.range n) old new).chState n = old then (d.chStates (List.range n) old new).setFld MEMC.CH_STAT_STATE new n
    else d.chStates (List.range n) old new := by
  unfold chStates
  rw [List.range_succ, List.foldl_append]
  rfl

theorem chState_setFld {new : Nat} (hnew : new < 2 ^ MEMC.CH_STAT_STATE.len) (hm : m < 65536) (hn : n < 65536) :
    (d.setFld MEMC.CH_STAT_STATE new n).chState m = if m = n then new else d.chState m := by
  rw [chState]
  by_cases h : m = n
  · subst h
    rw [if_pos rfl, fld_setFld_eq _ _ _ _ rfl]
    exact Nat.mod_eq_of_lt hnew
  · rw [if_neg h, fld_setFld_chan _ (by omega) rfl rfl, chState]

theorem chState_chStates {old new : Nat} (hnew : new < 2 ^ MEMC.CH_STAT_STATE.len) (hm : m < 65536) (hn : n ≤ 65536) :
    (d.chStates (List.range n) old new).chState m = if m < n ∧ d.chState m = old then new else d.chState m := by
  induction n with
  | zero =>
    rw [if_neg (by omega)]
    rfl
  | succ n ih =>
    have hx := ih (by omega)
    rw [chStates_succ]
    by_cases hmn : m = n
    · subst hmn
      rw [if_neg (by omega)] at hx
      rw [hx]
      split
      · rw [chState_setFld hnew hm hm, if_pos rfl, if_pos ⟨by omega, ‹_›⟩]
      · rw [hx, if_neg (by tauto)]
    · have hlt : m < n + 1 ↔ m < n := by omega
      simp only [hlt]
      split
      · rw [chState_setFld hnew hm (by omega), if_neg hmn, hx]
      · exact hx

theorem moves_setPortState {v : Nat} : d.moves (d.setPortState p v) [] [0x11, 0x58] := by
  unfold setPortState
  exact d.still.setFld.ite d.still.setFld

theorem writes_setPortState {v : Nat} : d.writes (d.setPortState p v) [] pauseRegs := by
  unfold setPortState
  exact d.untouched.setFld.ite d.untouched.setFld

theorem moves_wakePort : d.moves (d.wakePort p) [.sw] [0x11, 0x58] := by
  unfold wakePort
  exact d.still.ite (d.still.setPort.andThen moves_setPortState)

theorem writes_wakePort : d.writes (d.wakePort p) [] pauseRegs := by
  unfold wakePort
  exact d.untouched.ite (((d.untouched.of_regs rfl : d.writes (d.setPort p _) [] pauseRegs)).andThen writes_setPortState)

theorem moves_wakePorts : d.moves (d.each 34 wakePort) [.sw] [0x11, 0x58] := d.still.each fun h => h.andThen moves_wakePort
theorem writes_wakePorts : d.writes (d.each 34 wakePort) [] pauseRegs := d.untouched.each fun h => h.andThen writes_wakePort

/-- The state machine with the link as it is now. -/
def linkShown (d : Dev) : Dev := d.setFld TNDM.STATE_LINK_UP (bit (decide (d.portState 33 = 5)))

/-- A first heartbeat to a peer that is to be met. -/
def hello (d : Dev) : Dev :=
  ((d.setTandem { d.tandem with echo := none, lastHb := d.clk.up, missed := 0 }).tandemTo 2 0).sendHb

/-- An enabled module awaits its link. -/
def linkAwaited (d : Dev) : Dev := if d.tState = 0 then d.tandemTo 1 0 else d

theorem tandemFollow_eq : d.tandemFollow =
    if !d.linkShown.enabled 0x58 then d.linkShown.tandemTo 0 0
    else if d.linkShown.linkAwaited.tState = 1 then
      if decide (d.portState 33 = 5) then d.linkShown.linkAwaited.hello else d.linkShown.linkAwaited
    else if decide (d.portState 33 = 5) then d.linkShown.linkAwaited else d.linkShown.linkAwaited.tandemTo 1 4 := rfl

theorem moves_hello : d.moves d.hello [.sw, .tandem] corePages := (d.still.set_tandem.andThen moves_tandemTo).andThen moves_sendHb
theorem moves_linkAwaited : d.moves d.linkAwaited [.sw, .tandem] corePages := d.still.iteSelf fun h => h.andThen moves_tandemTo

theorem moves_tandemFollow : d.moves d.tandemFollow [.sw, .tandem] corePages := by
  have hs : d.moves d.linkShown [.sw, .tandem] corePages := d.still.setFld
  have ha := hs.andThen moves_linkAwaited
  rw [tandemFollow_eq]
  exact (hs.andThen moves_tandemTo).ite (((ha.andThen moves_hello).ite ha).ite (ha.ite (ha.andThen moves_tandemTo)))

theorem writes_sendHb : d.writes d.sendHb [] [] := (d.untouched.set_tandem).andThen writes_tandemSend
theorem writes_hello : d.writes d.hello egressPages tandemRegs := (d.untouched.set_tandem.andThen writes_tandemTo).andThen writes_sendHb
theorem writes_linkAwaited : d.writes d.linkAwaited egressPages tandemRegs := d.untouched.iteSelf fun h => h.andThen writes_tandemTo

theorem writes_tandemFollow : d.writes d.tandemFollow egressPages tandemRegs := by
  have hs : d.writes d.linkShown egressPages tandemRegs := d.untouched.setFld
  have ha := hs.andThen writes_linkAwaited
  rw [tandemFollow_eq]
  exact (hs.andThen writes_tandemTo).ite (((ha.andThen writes_hello).ite ha).ite (ha.ite (ha.andThen writes_tandemTo)))

theorem moves_wakeLinks : d.moves d.wakeLinks [.sw, .tandem] corePages :=
  ((d.still.andThen moves_chStates).andThen moves_wakePorts).andThen moves_tandemFollow

theorem chState_wakeLinks (hm : m < 64) : d.wakeLinks.chState m = if d.chState m = 3 then 0 else d.chState m := by
  have hports : (d.chStates (List.range 64) 3 0).writes ((d.chStates (List.range 64) 3 0).each 34 wakePort) egressPages tandemRegs :=
    writes_wakePorts.mono
  have hall : (d.chStates (List.range 64) 3 0).writes d.wakeLinks egressPages tandemRegs := hports.andThen writes_tandemFollow
  have hc : d.wakeLinks.chState m = (d.chStates (List.range 64) 3 0).chState m := by
    rw [chState, fld, hall.num MEMC.CH_STAT_STATE.reg m rfl rfl rfl, chState, fld]
  rw [hc, chState_chStates (by decide) (by omega) (by decide)]
  simp [hm]

theorem moves_wakeReported {len : Nat} : d.moves (d.wakeReported len) [] [] := d.still.raise.log

theorem raised_wakeReported {len : Nat} : (d.wakeReported len).raised PWRM.int_WAKE_DONE = true := by
  rw [wakeReported, raised_log_plain _ _ _ _ _ _ _ _ rfl, raised_raise_eq _ _ rfl]

/-- Ports, channels and reports, after what the wake has shown. -/
theorem moves_wakeEnd : d.wakeReady.moves d.wakeDone [.sw, .tandem] corePages := by
  rw [wakeDone_eq]
  exact moves_wakeLinks.andThen moves_wakeReported

theorem moves_wakeDone : d.moves d.wakeDone [.spore, .look, .time, .sw, .tandem]
    [0x01, 0x05, 0x31, 0x11, 0x40, 0x41, 0x48, 0x50, 0x58, 0x70] :=
  (d.still.andThen moves_wakeReady).andThen moves_wakeEnd

theorem num_wakeDone (r : Reg) (c : Nat) (hr : r.plain = true := by rfl) (hp : (0x05 :: corePages).contains r.page = false := by rfl) :
    d.wakeDone.num r c = d.wakeShown.num r c := by
  have h5 : r.page ≠ 0x05 ∧ corePages.contains r.page = false := by simpa [List.contains_cons] using hp
  rw [moves_wakeEnd.num r c hr h5.2, num_wakeReady r c hr h5.1]

theorem chState_wakeDone (hm : m < 64) : d.wakeDone.chState m = if d.chState m = 3 then 0 else d.chState m := by
  have hready : d.wakeReady.chState m = d.chState m := moves_wakeReady.fld MEMC.CH_STAT_STATE m rfl rfl
  have hend : d.wakeDone.chState m = d.wakeReady.wakeLinks.chState m := by
    rw [wakeDone_eq]
    exact moves_wakeReported.fld MEMC.CH_STAT_STATE m rfl rfl
  rw [hend, chState_wakeLinks hm, hready]

/-! ### Admission (R62) -/

theorem admission_eq (h : d.on PWRM.SLEEP_STAT_HELD = true) : d.admission =
    (((d.setSpore { d.spore with stopped := false }).setFld PWRM.SLEEP_STAT_HELD 0).setNum FENG.RUN d.spore.run).engCounts := by
  unfold admission
  rw [if_pos h]

theorem admission_idle (h : d.on PWRM.SLEEP_STAT_HELD = false) : d.admission = d := if_neg (by simp [h])

end Sys2Proof.Machine.Dev

namespace Sys2Proof.Machine
open Sys2Proof
variable {s : State} {c : Instr} {n : Nat}

/-- A wake source that is enabled gives its event. -/
def Wakes (s : State) (c : Instr) (n : Nat) : Prop :=
  (c = .wakeN ∧ n = 1 ∧ s.On ∧ s.dev.on PWRM.SLEEP_CFG_WAKE_N_EN = true) ∨
  (c = .wakeReq ∧ n = 2 ∧ s.Opens 0x01 ∧ s.dev.on PWRM.SLEEP_CFG_PCIE_WAKE_EN = true) ∨
  (c = .wakeTimer ∧ n = 3 ∧ s.On ∧ s.dev.on PWRM.SLEEP_CFG_TIMER_WAKE_EN = true ∧
    s.dev.num2 PWRM.WAKE_AT_LO PWRM.WAKE_AT_HI ≤ (s.dev.stamp 32).toNat)

/-- Each source gives the event of its number. -/
theorem wakes_event (h : Wakes s c n) : s.On ∧ ∃ f : Dev → Dev, exec c s = s.act f ∧ f s.dev = s.dev.wakeEvent n := by
  rcases h with ⟨rfl, rfl, hon, he⟩ | ⟨rfl, rfl, ho, he⟩ | ⟨rfl, rfl, hon, he, ht⟩
  · exact ⟨hon, _, rfl, by rw [he]; rfl⟩
  · refine ⟨ho.1, _, rfl, ?_⟩
    rw [Dev.access_open _ _ _ ho.2, Dev.wakeReq, he]
    rfl
  · refine ⟨hon, _, rfl, ?_⟩
    rw [Dev.wakeTimer, he, decide_eq_true ht]
    rfl

theorem gives_wakes {p : Dev → Prop} (h : Wakes s c n) (hp : p (s.dev.under (s.dev.wakeEvent n))) : Gives c s p := by
  obtain ⟨hon, f, hf, he⟩ := wakes_event h
  refine gives_act hf hon ?_
  rw [he]
  exact hp

theorem gives_wakeBegin (h : Wakes s c n) (hst : s.dev.fld PWRM.SLEEP_STAT_STATE = 2) (hw : s.dev.spore.wake = none) :
    Gives c s fun d => d.fld PWRM.SLEEP_STAT_STATE = 3 ∧ d.spore = { s.dev.spore with wake := some n, since := s.dev.clk.up } ∧
      d.num PWRM.SPORE_LEN = min (2 ^ 32 - 1) ((s.dev.clk.up - s.dev.spore.since) / 156250000) ∧ s.dev.moves d [.spore] [0x01] := by
  refine gives_wakes h ?_
  have hm : s.dev.moves (s.dev.wakeEvent n) [.spore] [0x01] := Dev.moves_wakeEvent
  rw [hm.under_eq]
  rw [Dev.wakeEvent_begins hst hw] at hm ⊢
  exact ⟨Dev.state_wakeBegin, Dev.spore_wakeBegin, Dev.len_wakeBegin, hm⟩

theorem gives_wakeHeld (h : Wakes s c n) (hst : s.dev.fld PWRM.SLEEP_STAT_STATE = 1) (hw : s.dev.spore.wake = none) :
    Gives c s fun d => d.spore = { s.dev.spore with wake := some n } ∧ s.dev.keeps d [.spore] := by
  refine gives_wakes h ?_
  rw [Dev.wakeEvent_held hst hw]
  exact ⟨rfl, (Dev.keeps_setSpore _).under⟩

theorem idle_wakes (h : Wakes s c n) (hst : s.dev.spore.wake.isSome = true ∨ s.dev.fld PWRM.SLEEP_STAT_STATE = 0 ∨
    s.dev.fld PWRM.SLEEP_STAT_STATE = 3) : Idle c s := by
  obtain ⟨-, f, hf, he⟩ := wakes_event h
  exact idle_actSelf hf (he.trans (Dev.wakeEvent_idle hst))

theorem gives_wakeDone (hon : s.On) (hst : s.dev.fld PWRM.SLEEP_STAT_STATE = 3) (ht : s.dev.spore.since + 20000000 ≤ s.dev.clk.up) :
    Gives .wakeDone s fun d => d.fld PWRM.SLEEP_STAT_STATE = 0 ∧ d.spore.phase = 0 ∧ d.spore.wake = none ∧
      d.spore.stopped = s.dev.on PWRM.SLEEP_CFG_WAKE_HOLD ∧ d.on PWRM.SLEEP_STAT_HELD = s.dev.on PWRM.SLEEP_CFG_WAKE_HOLD ∧
      (s.dev.on PWRM.SLEEP_CFG_WAKE_HOLD = true → d.num FENG.RUN = 0) ∧
      (s.dev.on PWRM.SLEEP_CFG_WAKE_HOLD = false → d.num FENG.RUN = s.dev.num FENG.RUN) ∧
      d.fld PWRM.SLEEP_STAT_LAST_WAKE = s.dev.spore.wake.getD 0 % 8 ∧ d.time.halted = [] ∧
      (∀ m, m < 64 → d.chState m = if s.dev.chState m = 3 then 0 else s.dev.chState m) ∧ d.raised PWRM.int_WAKE_DONE = true := by
  refine gives_actWhen (f := Dev.wakeDone) rfl hon (by rw [hst, decide_eq_true ht]; rfl) ?_
  rw [Dev.moves_wakeDone.under_eq]
  have hfld (x : Fld) (hx : x.reg = PWRM.SLEEP_STAT) : s.dev.wakeDone.fld x = s.dev.wakeShown.fld x := by
    rw [Dev.fld, hx, Dev.num_wakeDone PWRM.SLEEP_STAT 0, Dev.fld, hx]
  have hspore : s.dev.wakeDone.spore = s.dev.wakeShown.wakeSpore (s.dev.on PWRM.SLEEP_CFG_WAKE_HOLD) (s.dev.num PWRM.SPORE_LEN) :=
    Dev.moves_wakeEnd.keeps_spore.trans Dev.spore_wakeReady
  have hhalt : s.dev.wakeDone.time.halted = [] := by rw [Dev.moves_wakeEnd.keeps_time, Dev.halted_wakeReady]
  have hraised : s.dev.wakeDone.raised PWRM.int_WAKE_DONE = true := by rw [Dev.wakeDone_eq, Dev.raised_wakeReported]
  refine ⟨(hfld _ rfl).trans Dev.state_wakeShown, by rw [hspore]; rfl, by rw [hspore]; rfl, by rw [hspore]; rfl, ?_, fun h => ?_, fun h => ?_,
    (hfld _ rfl).trans Dev.lastWake_wakeShown, hhalt, fun m hm => Dev.chState_wakeDone hm, hraised⟩
  · rw [Dev.on, hfld _ rfl, ← Dev.on, Dev.held_wakeShown]
  · rw [Dev.num_wakeDone FENG.RUN 0, Dev.run_wakeShown_held h]
  · rw [Dev.num_wakeDone FENG.RUN 0, Dev.run_wakeShown h]

theorem gives_admission (ho : s.Opens 0x01) (h : s.dev.on PWRM.SLEEP_STAT_HELD = true) :
    Gives .admission s fun d => d.spore.stopped = false ∧ d.on PWRM.SLEEP_STAT_HELD = false ∧ d.num FENG.RUN = s.dev.spore.run % 2 ^ 32 ∧
      s.dev.moves d [.spore, .sw] [0x01, 0x31] := by
  have hm : s.dev.moves s.dev.admission [.spore, .sw] [0x01, 0x31] := by
    rw [Dev.admission_eq h]
    exact s.dev.still.set_spore.setFld.setNum.andThen Dev.moves_engCounts
  refine gives_access rfl ho ?_
  rw [hm.under_eq]
  rw [Dev.admission_eq h] at hm ⊢
  refine ⟨?_, ?_, ?_, hm⟩
  · rw [Dev.moves_engCounts.keeps_spore, Dev.setNum_spore, Dev.setFld_spore]
    rfl
  · rw [Dev.moves_engCounts.on _ 0 rfl rfl, Dev.on_setNum_apart _ _ _ _ _ _ rfl, Dev.on, Dev.fld_setFld_eq _ _ _ _ rfl]
    rfl
  · rw [Dev.moves_engCounts.num _ 0 rfl rfl, Dev.num_setNum_same]

end Sys2Proof.Machine

open Sys2Proof Sys2Proof.Machine

/-- Settles O15: each source gives an event of its number, and the end of the wake is read off the steps that it is made of. -/
theorem sporeWake : Obligations.SporeWake := by
  unfold Obligations.SporeWake
  refine ⟨fun s c n h hst hw => gives_wakeBegin h hst hw, fun s c n h hst hw => gives_wakeHeld h hst hw, fun s c n h hst => idle_wakes h hst,
    fun s _ he => idle_actWhen rfl he, fun s ho he => idle_access rfl ho.2 ?noReq, fun s _ he => idle_actSelf rfl ?noTimer,
    fun s hon hst ht => gives_wakeDone hon hst ht, fun s _ h => idle_actWhen rfl ?notYet, fun s ho h => gives_admission ho h,
    fun s ho h => idle_access rfl ho.2 (Dev.admission_idle h)⟩
  case noReq => rw [Dev.wakeReq, he, Dev.when_false]
  case noTimer =>
    have hb : (s.dev.on PWRM.SLEEP_CFG_TIMER_WAKE_EN && decide (s.dev.num2 PWRM.WAKE_AT_LO PWRM.WAKE_AT_HI ≤ (s.dev.stamp 32).toNat)) = false := by
      rcases he with he | he
      · rw [he, Bool.false_and]
      · rw [decide_eq_false (Nat.not_le.mpr he), Bool.and_false]
    rw [Dev.wakeTimer, hb, Dev.when_false]
  case notYet =>
    rcases h with h | h
    · rw [decide_eq_false h, Bool.false_and]
    · rw [decide_eq_false (Nat.not_le.mpr h), Bool.and_false]
end

section
set_option Elab.async false
/-! The scheduling trace and its mirror (R270, R271). -/

namespace Sys2Proof.Machine
open Sys2Proof

/-! ### Runs of bytes -/

/-- A run is read as it was where another has been written beside it. -/
theorem smapBytes_putBytes_apart (v : Byte) (m : SMap Byte) (bs : List Byte) (a : Nat) :
    ∀ (n b : Nat), b + n ≤ a ∨ a + bs.length ≤ b → (m.putBytes v a bs).bytes v b n = m.bytes v b n
  | 0, _, _ => rfl
  | n + 1, b, h => by
    rw [SMap.bytes, SMap.bytes, SMap.putBytes_get_out v bs m a b (by omega), smapBytes_putBytes_apart v m bs a n (b + 1) (by omega)]

namespace Dev
variable {d e : Dev} {c a n k i j done : Nat} {bs r : List Byte}

theorem spadWrite_append (b : Byte) : (d.spadWrite c a (bs ++ [b])).eng.spad =
    (d.spadWrite c a bs).eng.spad.set 0 (spadKey c (a + bs.length)) b := by
  simp only [spadWrite, List.length_append, List.length_singleton, List.range_succ]
  rw [List.zip_append List.length_range.symm, List.foldl_append]
  rfl

/-- A byte of the scratchpad beside the run that is written, or of another frond. -/
theorem spad_spadWrite_apart (h : ∀ j, j < bs.length → k ≠ spadKey c (a + j)) : (d.spadWrite c a bs).eng.spad.get 0 k = d.eng.spad.get 0 k := by
  induction bs using List.reverseRecOn with
  | nil => rfl
  | append_singleton bs b ih =>
    rw [spadWrite_append, SMap.get_set_ne _ _ _ _ (h bs.length (by simp)), ih fun j hj => h j (by simp; omega)]

/-- A byte of the run that is written. -/
theorem spad_spadWrite (hk : k < bs.length) (hl : bs.length ≤ 2 ^ 20) :
    (d.spadWrite c a bs).eng.spad.get 0 (spadKey c (a + k)) = bs[k] := by
  induction bs using List.reverseRecOn with
  | nil => exact absurd hk (Nat.not_lt_zero k)
  | append_singleton bs b ih =>
    rw [List.length_append, List.length_singleton] at hk hl
    rw [spadWrite_append]
    by_cases hlast : k = bs.length
    · subst hlast
      rw [SMap.get_set_same, List.getElem_concat_length rfl]
    · have hlt : k < bs.length := by omega
      have hne : spadKey c (a + k) ≠ spadKey c (a + bs.length) := by
        unfold spadKey
        omega
      rw [SMap.get_set_ne _ _ _ _ hne, ih hlt (by omega), List.getElem_append_left hlt]

theorem spadRead_spadWrite (hl : bs.length ≤ 2 ^ 20) : (d.spadWrite c a bs).spadRead c a bs.length = bs := by
  refine List.ext_getElem (by simp [spadRead]) fun k h h' => ?_
  simp only [spadRead, List.getElem_map, List.getElem_range]
  exact spad_spadWrite h' hl

theorem spadRead_congr (h : e.eng.spad = d.eng.spad) : e.spadRead c a n = d.spadRead c a n := by
  unfold spadRead
  simp only [h]

/-! ### An entry of the trace -/

/-- Whether the ring is full and stops. -/
def traceStops (d : Dev) (c : Nat) : Bool :=
  d.on TASK.TRACE_CFG_STOP c && decide ((d.num TASK.TRACE_WR c + 65536 - d.num TASK.TRACE_RD c) % 65536 = 2 ^ d.fld TASK.TRACE_RING_SIZE c)

/-- An entry lost to a full ring. -/
def traceLost (d : Dev) (c : Nat) : Dev := (d.bump TASK.TRACE_LOST c).raise TASK.int_TRACE_LOST

/-- Where the next entry goes. -/
def traceAt (d : Dev) (c : Nat) : Nat := d.fld TASK.TRACE_RING_BASE c * 16 + 16 * (d.num TASK.TRACE_WR c % 2 ^ d.fld TASK.TRACE_RING_SIZE c)

/-- An entry put into the ring. -/
def tracePut (d : Dev) (c : Nat) (e : List Byte) : Dev :=
  ((d.spadWrite c (d.traceAt c) e).setNum TASK.TRACE_WR ((d.num TASK.TRACE_WR c + 1) % 65536) c).counts (SPAD.DMA_WAIT.key 0 c)

variable {q : List (List Byte)}

theorem traceWrite_none (h : d.traceQ c = []) : d.traceWrite c = d := by
  unfold traceWrite
  rw [h]

theorem traceWrite_some (h : d.traceQ c = r :: q) :
    d.traceWrite c = if d.traceStops c then (d.setTraceQ c q).traceLost c else (d.setTraceQ c q).tracePut c r := by
  unfold traceWrite
  rw [h]
  rfl

theorem traceQ_setTraceQ (d : Dev) (c : Nat) (q : List (List Byte)) : (d.setTraceQ c q).traceQ c = q := SMap.get_set_same _ _ _ _

theorem traceStops_iff : d.traceStops c = true ↔ d.on TASK.TRACE_CFG_STOP c = true ∧
    (d.num TASK.TRACE_WR c + 65536 - d.num TASK.TRACE_RD c) % 65536 = 2 ^ d.fld TASK.TRACE_RING_SIZE c := by
  rw [traceStops, Bool.and_eq_true, decide_eq_true_iff]

/-! ### The mirror -/

/-- Entries copied to host memory, from RD on. -/
def mirrored (d : Dev) (c n : Nat) : Dev :=
  d.each n fun e i => e.dmaWrite (d.num2 TASK.MIRROR_ADDR_LO TASK.MIRROR_ADDR_HI c + 16 * i)
    (d.spadRead c (d.fld TASK.TRACE_RING_BASE c * 16 + 16 * ((d.num TASK.TRACE_RD c + i) % 2 ^ d.fld TASK.TRACE_RING_SIZE c)) 16)

theorem mirrorCopy_eq : d.mirrorCopy c n = (d.mirrored c n).setNum TASK.TRACE_RD ((d.num TASK.TRACE_RD c + n) % 65536) c := by
  have h : (d.each n fun e i => e.dmaWrite (d.num2 TASK.MIRROR_ADDR_LO TASK.MIRROR_ADDR_HI c + 16 * i) (e.spadRead c
      (e.fld TASK.TRACE_RING_BASE c * 16 + 16 * ((d.num TASK.TRACE_RD c + i) % 2 ^ d.fld TASK.TRACE_RING_SIZE c)) 16)) = d.mirrored c n :=
    each_pinned (rd := fun e => (e.eng.spad, e.fld TASK.TRACE_RING_BASE c)) (fun e i h => by
      obtain ⟨hs, hf⟩ := Prod.mk.inj h
      rw [spadRead_congr hs, hf]) fun e i => rfl
  rw [← h]
  rfl

theorem moves_mirrored : d.moves (d.mirrored c n) [.hostMem] [] := d.still.each fun h => h.dmaWrite

theorem length_spadRead : (d.spadRead c a n).length = n := by simp [spadRead]

/-- Each entry copied stands in host memory. -/
theorem dmaRead_mirrored (hj : j < n) : (d.mirrored c n).dmaRead (d.num2 TASK.MIRROR_ADDR_LO TASK.MIRROR_ADDR_HI c + 16 * j) 16 =
    d.spadRead c (d.fld TASK.TRACE_RING_BASE c * 16 + 16 * ((d.num TASK.TRACE_RD c + j) % 2 ^ d.fld TASK.TRACE_RING_SIZE c)) 16 := by
  refine (each_at (rd := fun e => e.dmaRead (d.num2 TASK.MIRROR_ADDR_LO TASK.MIRROR_ADDR_HI c + 16 * j) 16) hj fun e i hi _ => ?_).trans ?_
  · refine smapBytes_putBytes_apart _ _ _ _ _ _ (.inl ?_)
    omega
  · have h := smapBytes_putBytes 0 (d.spadRead c (d.fld TASK.TRACE_RING_BASE c * 16 +
      16 * ((d.num TASK.TRACE_RD c + j) % 2 ^ d.fld TASK.TRACE_RING_SIZE c)) 16)
    rw [length_spadRead] at h
    exact h _ _

/-- A mirror that has begun. -/
def mirrorBegun (d : Dev) (c : Nat) : Dev := (d.startOp TASK.MIRROR_STAT c).counts (SPAD.DMA_WAIT.key 0 c)

theorem mirrorGo_busy (h : d.opState TASK.MIRROR_STAT c = 1) : d.mirrorGo c = d := if_pos h
theorem mirrorGo_idle (h : d.opState TASK.MIRROR_STAT c ≠ 1) : d.mirrorGo c = d.mirrorBegun c := if_neg h

theorem regs_counts : (d.counts k).regs = d.regs := by
  unfold counts
  split <;> rfl

theorem keeps_counts {P : List Part} {d0 : Dev} (h : d0.keeps d P) (hp : P.contains .sw = true := by rfl) : d0.keeps (d.counts k) P := by
  unfold counts
  exact keeps.ite h (h.set_sw hp)

theorem moves_mirrorCopy : d.moves (d.mirrorCopy c n) [.hostMem] [0x32] := by
  rw [mirrorCopy_eq]
  exact (d.still.andThen moves_mirrored).setNum

theorem rd_mirrorCopy : (d.mirrorCopy c n).num TASK.TRACE_RD c = (d.num TASK.TRACE_RD c + n) % 65536 := by
  rw [mirrorCopy_eq, num_setNum_same]
  omega

/-- A mirror aborted with `n` entries delivered. -/
def mirrorStopped (d : Dev) (c n : Nat) : Dev := (d.mirrorCopy c n).setNum TASK.MIRROR_STAT (statusWord 3 0 n) c

theorem mirrorAbort_running (h : d.opState TASK.MIRROR_STAT c = 1) (hn : n = min done (d.mirrorCount c - 1)) :
    ∃ w, d.mirrorAbort c done = ((d.setNum TASK.MIRROR_STAT w c).mirrorStopped c n).opEnd 0x32
      (((d.setNum TASK.MIRROR_STAT w c).mirrorStopped c n).num TASK.MIRROR_STAT c) c := by
  refine ⟨setBits (d.num TASK.MIRROR_STAT c) 0 3 3, ?_⟩
  rw [mirrorAbort, ← hn, abortOp_running h]
  rfl

theorem moves_mirrorStopped : d.moves (d.mirrorStopped c n) [.hostMem] [0x32] := moves_mirrorCopy.setNum

/-- A mirror that has ended in a state, with `n` entries delivered. -/
def mirrorEnded (d : Dev) (c st n : Nat) : Dev := ((d.mirrorCopy c n).endOp TASK.MIRROR_STAT c st n).raise TASK.int_MIRROR_DONE

theorem mirrorDone_idle {ue : Guard} (h : d.opState TASK.MIRROR_STAT c ≠ 1) : d.mirrorDone c done ue = d := if_pos h

theorem mirrorDone_clean (h : d.opState TASK.MIRROR_STAT c = 1) (hn : n = min done (d.mirrorCount c)) :
    d.mirrorDone c done .clean = d.mirrorEnded c (if d.mirrorCount c ≤ done then 2 else 4) n := by
  subst hn
  rw [mirrorDone, if_neg (by simp [h])]
  dsimp only [guarded]
  by_cases hc : d.mirrorCount c ≤ done
  · simp [hc, mirrorEnded]
  · simp [hc, mirrorEnded]

theorem moves_mirrorEnded {st : Nat} : d.moves (d.mirrorEnded c st n) [.hostMem] [0x32] := moves_mirrorCopy.endOp.raise

theorem stat_mirrorEnded {st : Nat} (h : st < 8) : (d.mirrorEnded c st n).num TASK.MIRROR_STAT c = statusWord st 0 n := by
  rw [mirrorEnded, num_raise_plain _ _ _ _ rfl, num_endOp rfl h]

theorem rd_mirrorEnded {st : Nat} : (d.mirrorEnded c st n).num TASK.TRACE_RD c = (d.num TASK.TRACE_RD c + n) % 65536 := by
  rw [mirrorEnded, num_raise_plain _ _ _ _ rfl, endOp, num_opEnd_plain _ _ _ _ _ _ rfl, num_setNum_apart _ _ _ _ _ _ rfl, rd_mirrorCopy]

theorem raised_mirrorEnded {st : Nat} : (d.mirrorEnded c st n).raised TASK.int_MIRROR_DONE = true := raised_raise_eq _ _ rfl

theorem hostMem_endOp {q : Reg} {st p : Nat} : (d.endOp q c st p).hostMem = d.hostMem := by rw [endOp, opEnd_hostMem, setNum_hostMem]

theorem hostMem_mirrorEnded {st : Nat} : (d.mirrorEnded c st n).hostMem = (d.mirrored c n).hostMem := by
  have h : (d.mirrorCopy c n).hostMem = (d.mirrored c n).hostMem := by
    rw [mirrorCopy_eq]
    rfl
  rw [mirrorEnded, raise_hostMem, hostMem_endOp, h]

end Dev

variable {s : State} {c done n : Nat} {e : List Byte} {r : List (List Byte)}

theorem gives_traceEntryWrite {p : Dev → Prop} (h : s.Awake) (hc : c < 8) (hp : p (s.dev.under (s.dev.traceWrite c))) :
    Gives (.traceEntryWrite c) s p := by
  refine gives_run (f := fun d => d.traceWrite (c % 8)) rfl h ?_
  rw [Nat.mod_eq_of_lt hc]
  exact hp

theorem Dev.fld_setTraceQ {d : Dev} (x : Fld) (i : Nat) : (d.setTraceQ c r).fld x i = d.fld x i := rfl
theorem Dev.traceStops_setTraceQ {d : Dev} : (d.setTraceQ c r).traceStops c = d.traceStops c := rfl
theorem Dev.traceAt_setTraceQ {d : Dev} : (d.setTraceQ c r).traceAt c = d.traceAt c := rfl

theorem Dev.traceQ_tracePut {d : Dev} : (d.tracePut c e).traceQ c = d.traceQ c := by
  unfold tracePut counts
  split <;> rfl

theorem Dev.spad_tracePut {d : Dev} : (d.tracePut c e).eng.spad = (d.spadWrite c (d.traceAt c) e).eng.spad := by
  unfold tracePut counts
  split <;> rfl

theorem Dev.wr_tracePut {d : Dev} : (d.tracePut c e).num TASK.TRACE_WR c = (d.num TASK.TRACE_WR c + 1) % 65536 := by
  rw [tracePut, num_of_regs regs_counts, num_setNum_same]
  omega

theorem gives_traceEntryWrite_put (h : s.Awake) (hc : c < 8) (hq : s.dev.traceQ c = e :: r) (he : e.length = 16)
    (hstop : s.dev.on TASK.TRACE_CFG_STOP c = false ∨ (s.dev.num TASK.TRACE_WR c + 65536 - s.dev.num TASK.TRACE_RD c) % 65536 ≠
      2 ^ s.dev.fld TASK.TRACE_RING_SIZE c) :
    Gives (.traceEntryWrite c) s fun d => d.traceQ c = r ∧
      d.spadRead c (s.dev.fld TASK.TRACE_RING_BASE c * 16 + 16 * (s.dev.num TASK.TRACE_WR c % 2 ^ s.dev.fld TASK.TRACE_RING_SIZE c)) 16 = e ∧
      d.num TASK.TRACE_WR c = (s.dev.num TASK.TRACE_WR c + 1) % 65536 ∧ s.dev.keeps d [.regs, .sw, .eng] ∧ s.dev.keepsPages d [0x32] := by
  have hn : ¬s.dev.traceStops c = true := by
    rw [Dev.traceStops_iff]
    rintro ⟨h1, h2⟩
    rcases hstop with hs | hs
    · exact Bool.false_ne_true (hs.symm.trans h1)
    · exact hs h2
  have heq : s.dev.traceWrite c = (s.dev.setTraceQ c r).tracePut c e := by
    rw [Dev.traceWrite_some hq, if_neg hn]
  have hkeep : s.dev.keeps ((s.dev.setTraceQ c r).tracePut c e) [.regs, .sw, .eng] :=
    Dev.keeps_counts (((Dev.keeps.refl s.dev).set_eng.set_eng).setNum)
  have hm : s.dev.moves ((s.dev.setTraceQ c r).tracePut c e) [.sw, .eng] [0x32] :=
    (s.dev.still.set_eng.set_eng.setNum).andThen Dev.moves_counts
  refine gives_traceEntryWrite h hc ?_
  rw [heq, hm.under_eq]
  refine ⟨Dev.traceQ_tracePut.trans (Dev.traceQ_setTraceQ _ _ _), ?_, Dev.wr_tracePut, hkeep, hm.2⟩
  rw [Dev.spadRead_congr Dev.spad_tracePut, ← Dev.traceAt, Dev.traceAt_setTraceQ, ← he]
  exact Dev.spadRead_spadWrite (by omega)

theorem gives_traceEntryWrite_lost (h : s.Awake) (hc : c < 8) (hq : s.dev.traceQ c = e :: r)
    (hs : s.dev.on TASK.TRACE_CFG_STOP c = true) (hf : (s.dev.num TASK.TRACE_WR c + 65536 - s.dev.num TASK.TRACE_RD c) % 65536 =
      2 ^ s.dev.fld TASK.TRACE_RING_SIZE c) :
    Gives (.traceEntryWrite c) s fun d => d.traceQ c = r ∧ d.eng.spad = s.dev.eng.spad ∧ d.raised TASK.int_TRACE_LOST = true ∧
      d.num TASK.TRACE_LOST c = (s.dev.num TASK.TRACE_LOST c + 1) % 2 ^ 32 ∧ s.dev.moves d [.eng] [0x32] := by
  have heq : s.dev.traceWrite c = (s.dev.setTraceQ c r).traceLost c := by
    rw [Dev.traceWrite_some hq, if_pos (Dev.traceStops_iff.mpr ⟨hs, hf⟩)]
  have hm : s.dev.moves ((s.dev.setTraceQ c r).traceLost c) [.eng] [0x32] := s.dev.still.set_eng.bump.raise
  have heng : ((s.dev.setTraceQ c r).traceLost c).eng = (s.dev.setTraceQ c r).eng := by
    rw [Dev.traceLost, Dev.raise_eng, Dev.bump_eng]
  refine gives_traceEntryWrite h hc ?_
  rw [heq, hm.under_eq]
  refine ⟨?_, by rw [heng]; rfl, Dev.raised_raise_eq _ _ rfl, ?_, hm⟩
  · rw [Dev.traceQ, heng]
    exact Dev.traceQ_setTraceQ _ _ _
  · rw [Dev.traceLost, Dev.num_raise_plain _ _ _ _ rfl, Dev.num_bump_eq]
    rfl

theorem gives_mirrorGo (ho : s.Opens 0x32) (hc : c < 8) (hst : s.dev.opState TASK.MIRROR_STAT c ≠ 1) :
    Gives (.mirrorGo c) s fun d => d.num TASK.MIRROR_STAT c = 1 ∧ s.dev.keeps d [.regs, .sw] ∧
      s.dev.keepsBut d [TASK.MIRROR_STAT.key 0 c] := by
  have hkeep : s.dev.keeps (s.dev.mirrorBegun c) [.regs, .sw] := Dev.keeps_counts (Dev.keeps.setNum (Dev.keeps.refl s.dev))
  refine gives_access (f := fun d => d.mirrorGo (c % 8)) rfl ho ?_
  rw [Nat.mod_eq_of_lt hc, Dev.mirrorGo_idle hst]
  refine ⟨?_, hkeep.under, fun k x hk => ?_⟩
  · rw [Dev.under_num, Dev.mirrorBegun, Dev.num_of_regs Dev.regs_counts, Dev.num_startOp]
  · change (s.dev.mirrorBegun c).regs.get x k = _
    rw [Dev.mirrorBegun, Dev.regs_counts]
    exact Dev.keepsBut_setNum k x hk

theorem idle_mirrorGo (ho : s.Opens 0x32) (hc : c < 8) (hst : s.dev.opState TASK.MIRROR_STAT c = 1) : Idle (.mirrorGo c) s := by
  refine idle_access (f := fun d => d.mirrorGo (c % 8)) rfl ho.2 ?_
  rw [Nat.mod_eq_of_lt hc, Dev.mirrorGo_busy hst]

theorem gives_mirrorAbort (ho : s.Opens 0x32) (hc : c < 8) (hst : s.dev.opState TASK.MIRROR_STAT c = 1)
    (hn : n = min done (s.dev.mirrorCount c - 1)) :
    Gives (.mirrorAbort c done) s fun d => d.num TASK.MIRROR_STAT c = statusWord 3 0 n ∧
      d.num TASK.TRACE_RD c = (s.dev.num TASK.TRACE_RD c + n) % 65536 ∧ s.dev.moves d [.hostMem] [0x32] := by
  obtain ⟨w, heq⟩ := Dev.mirrorAbort_running hst hn
  have hm : s.dev.moves (s.dev.mirrorAbort c done) [.hostMem] [0x32] := by
    rw [heq]
    exact (s.dev.still.setNum.andThen Dev.moves_mirrorStopped).opEnd
  refine gives_access (f := fun d => d.mirrorAbort (c % 8) done) rfl ho ?_
  rw [Nat.mod_eq_of_lt hc, hm.under_eq]
  rw [heq] at hm ⊢
  refine ⟨?_, ?_, hm⟩
  · rw [Dev.num_opEnd_plain _ _ _ _ _ _ rfl, Dev.mirrorStopped, Dev.num_setNum_same, Nat.mod_eq_of_lt (statusWord_lt (by decide))]
  · rw [Dev.num_opEnd_plain _ _ _ _ _ _ rfl, Dev.mirrorStopped, Dev.num_setNum_apart _ _ _ _ _ _ rfl, Dev.rd_mirrorCopy,
      Dev.num_setNum_apart _ _ _ _ _ _ rfl]

theorem gives_mirrorDone (h : s.Awake) (hc : c < 8) (hst : s.dev.opState TASK.MIRROR_STAT c = 1) (hn : n = min done (s.dev.mirrorCount c)) :
    Gives (.mirrorDone c done .clean) s fun d =>
      d.num TASK.MIRROR_STAT c = statusWord (if s.dev.mirrorCount c ≤ done then 2 else 4) 0 n ∧
      d.num TASK.TRACE_RD c = (s.dev.num TASK.TRACE_RD c + n) % 65536 ∧ d.raised TASK.int_MIRROR_DONE = true ∧
      (∀ j, j < n → d.dmaRead (s.dev.num2 TASK.MIRROR_ADDR_LO TASK.MIRROR_ADDR_HI c + 16 * j) 16 =
        s.dev.spadRead c (s.dev.fld TASK.TRACE_RING_BASE c * 16 +
          16 * ((s.dev.num TASK.TRACE_RD c + j) % 2 ^ s.dev.fld TASK.TRACE_RING_SIZE c)) 16) ∧ s.dev.moves d [.hostMem] [0x32] := by
  have hlt : (if s.dev.mirrorCount c ≤ done then 2 else 4) < 8 := by split <;> decide
  refine gives_run (f := fun d => d.mirrorDone (c % 8) done .clean) rfl h ?_
  rw [Nat.mod_eq_of_lt hc, Dev.mirrorDone_clean hst hn, Dev.moves_mirrorEnded.under_eq]
  refine ⟨Dev.stat_mirrorEnded hlt, Dev.rd_mirrorEnded, Dev.raised_mirrorEnded, fun j hj => ?_, Dev.moves_mirrorEnded⟩
  rw [Dev.dmaRead, Dev.hostMem_mirrorEnded]
  exact Dev.dmaRead_mirrored hj

end Sys2Proof.Machine

open Sys2Proof Sys2Proof.Machine

/-- Settles O37, by the entry that is written and the entries that the mirror copies. -/
theorem schedulingTrace : Obligations.SchedulingTrace := by
  unfold Obligations.SchedulingTrace
  refine ⟨fun s c e r h hc hq he hs => gives_traceEntryWrite_put h hc hq he hs, fun s c e r h hc hq hs hf => gives_traceEntryWrite_lost h hc hq hs hf,
    fun s c _ hc hq => ?none, fun s c ho hc hst => gives_mirrorGo ho hc hst, fun s c ho hc hst => idle_mirrorGo ho hc hst,
    fun s c done n ho hc hst hn => gives_mirrorAbort ho hc hst hn, fun s c done n h hc hst hn => gives_mirrorDone h hc hst hn,
    fun s c done ue _ hc hst => ?idle⟩
  case none =>
    refine idle_runSelf (f := fun d => d.traceWrite (c % 8)) rfl ?_
    rw [Nat.mod_eq_of_lt hc, Dev.traceWrite_none hq]
  case idle =>
    refine idle_runSelf (f := fun d => d.mirrorDone (c % 8) done ue) rfl ?_
    rw [Nat.mod_eq_of_lt hc, Dev.mirrorDone_idle hst]
end

section
set_option Elab.async false
/-! Scratchpad DMA, march tests and export messages (R273 to R275, R279, R280, R302). -/

namespace Sys2Proof.Machine.Dev
open Sys2Proof
variable {d e : Dev} {c n t mode done : Nat} {fails : List Nat}

/-! ### EMITs that wait (R302) -/

theorem spad_exportPut {m : Nat} {bs : List Byte} : (d.exportPut c m bs).eng.spad = d.eng.spad := rfl
theorem spad_updThread {k : Nat} {f : Thread → Thread} : (d.updThread k f).eng.spad = d.eng.spad := rfl

theorem moves_exportPut {m : Nat} {bs : List Byte} : d.moves (d.exportPut c m bs) [.eng] [] := d.still.set_eng

/-- What EMITs that wait do, they do one after another. -/
theorem emitWaiting_induct {p : Dev → Prop} (hp : ∀ e m bs k (f : Thread → Thread), p e → p ((e.exportPut c m bs).updThread k f)) :
    ∀ (n : Nat) (d : Dev), p d → p (Dev.emitWaiting n d c)
  | 0, _, h => h
  | n + 1, d, h => by
    rw [emitWaiting]
    split
    · exact h
    · split
      · exact emitWaiting_induct hp n _ (hp _ _ _ _ _ h)
      · exact h

theorem spad_emitWaiting : (Dev.emitWaiting n d c).eng.spad = d.eng.spad :=
  emitWaiting_induct (p := fun e => e.eng.spad = d.eng.spad) (fun _ _ _ _ _ h => h) n d rfl

theorem moves_emitWaiting : d.moves (Dev.emitWaiting n d c) [.eng] [] :=
  emitWaiting_induct (p := fun e => d.moves e [.eng] []) (fun _ _ _ _ _ h => h.set_eng.set_eng) n d d.still

theorem regs_emitWaiting : (Dev.emitWaiting n d c).regs = d.regs :=
  emitWaiting_induct (p := fun e => e.regs = d.regs) (fun _ _ _ _ _ h => h) n d rfl

theorem exportQ_exportPut {m : Nat} {bs : List Byte} : (d.exportPut c m bs).exportQ c =
    { d.exportQ c with recs := (d.exportQ c).recs ++ [(m, bs)], times := (d.exportQ c).times ++ [d.clk.up] } := SMap.get_set_same _ _ _ _

theorem exportQ_emitWaiting : ((Dev.emitWaiting n d c).exportQ c).sent = (d.exportQ c).sent ∧
    ∃ more, ((Dev.emitWaiting n d c).exportQ c).recs = (d.exportQ c).recs ++ more := by
  refine emitWaiting_induct (p := fun e => (e.exportQ c).sent = (d.exportQ c).sent ∧ ∃ more, (e.exportQ c).recs = (d.exportQ c).recs ++ more)
    (fun e m bs k f ⟨hs, more, hr⟩ => ?_) n d ⟨rfl, [], (List.append_nil _).symm⟩
  rw [exportQ_updThread, exportQ_exportPut]
  exact ⟨hs, more ++ [(m, bs)], by rw [hr, List.append_assoc]⟩

/-! ### DMA (R273, R279) -/

/-- A DMA for which the engines stand still, as ENABLE has it. -/
def spadStilled (d : Dev) (c : Nat) : Dev :=
  let still := d.eng.still.filter (· ≠ c)
  { d with eng := { d.eng with still := if d.enabled 0x33 then still else c :: still } }

/-- A DMA that has begun. -/
def spadBegun (d : Dev) (c : Nat) (dir : Bool) : Dev :=
  (((d.spadStilled c).startOp SPAD.DMA_STAT c).setFld SPAD.DMA_CTRL_DIR (bit dir) c).counts (SPAD.DMA_WAIT.key 0 c)

variable {dir : Bool}

theorem spadGo_busy (h : d.opState SPAD.DMA_STAT c = 1) : d.spadGo c dir = d := if_pos h
theorem spadGo_idle (h : d.opState SPAD.DMA_STAT c ≠ 1) : d.spadGo c dir = d.spadBegun c dir := if_neg h

theorem still_spadStilled : (d.spadStilled c).eng.still.contains c = !d.enabled 0x33 := by
  have h : (d.spadStilled c).eng.still = if d.enabled 0x33 then d.eng.still.filter (· ≠ c) else c :: d.eng.still.filter (· ≠ c) := rfl
  rw [h]
  cases d.enabled 0x33 <;> simp

theorem eng_spadBegun : (d.spadBegun c dir).eng = (d.spadStilled c).eng := by
  unfold spadBegun counts
  split <;> rfl

theorem stat_spadBegun : (d.spadBegun c dir).num SPAD.DMA_STAT c = 1 := by
  rw [spadBegun, num_of_regs regs_counts, num_setFld_apart _ _ _ _ _ _ rfl, num_startOp]

theorem dir_spadBegun : (d.spadBegun c dir).on SPAD.DMA_CTRL_DIR c = dir := by
  rw [spadBegun, on, fld_of_regs regs_counts, fld_setFld_eq _ _ _ _ rfl]
  cases dir <;> rfl

theorem keeps_spadBegun : d.keeps (d.spadBegun c dir) [.regs, .sw, .eng] :=
  keeps_counts (keeps.setFld (keeps.setNum (keeps.set_eng (keeps.refl d))))

theorem moves_spadBegun : d.moves (d.spadBegun c dir) [.sw, .eng] [0x33] := (d.still.set_eng.setNum.setFld).andThen moves_counts

theorem moves_spadMove : d.moves (d.spadMove c n) [.hostMem, .eng] [] := by
  unfold spadMove
  exact d.still.dmaWrite.ite (d.still.set_eng.andThen moves_emitWaiting)

/-- To host memory. -/
theorem spadMove_out (h : d.on SPAD.DMA_CTRL_DIR c = true) : d.spadMove c n =
    d.dmaWrite (d.num2 SPAD.DMA_HOST_LO SPAD.DMA_HOST_HI c) (d.spadRead c (d.num SPAD.DMA_SPAD c) (32 * n)) := if_pos h

/-- From host memory. -/
theorem spadMove_in (h : d.on SPAD.DMA_CTRL_DIR c = false) : d.spadMove c n =
    Dev.emitWaiting 256 (d.spadWrite c (d.num SPAD.DMA_SPAD c) (d.dmaRead (d.num2 SPAD.DMA_HOST_LO SPAD.DMA_HOST_HI c) (32 * n))) c :=
  if_neg (by simp [h])

theorem moves_spadMove_out (h : d.on SPAD.DMA_CTRL_DIR c = true) : d.moves (d.spadMove c n) [.hostMem] [] := by
  rw [spadMove_out h]
  exact d.still.dmaWrite

theorem moves_spadMove_in (h : d.on SPAD.DMA_CTRL_DIR c = false) : d.moves (d.spadMove c n) [.eng] [] := by
  rw [spadMove_in h]
  exact d.still.set_eng.andThen moves_emitWaiting

theorem dmaRead_spadMove (h : d.on SPAD.DMA_CTRL_DIR c = true) :
    (d.spadMove c n).dmaRead (d.num2 SPAD.DMA_HOST_LO SPAD.DMA_HOST_HI c) (32 * n) = d.spadRead c (d.num SPAD.DMA_SPAD c) (32 * n) := by
  have hx := smapBytes_putBytes 0 (d.spadRead c (d.num SPAD.DMA_SPAD c) (32 * n))
  rw [length_spadRead] at hx
  rw [spadMove_out h]
  exact hx _ _

theorem spadRead_spadMove (h : d.on SPAD.DMA_CTRL_DIR c = false) (hl : 32 * n ≤ 2 ^ 20) :
    (d.spadMove c n).spadRead c (d.num SPAD.DMA_SPAD c) (32 * n) = d.dmaRead (d.num2 SPAD.DMA_HOST_LO SPAD.DMA_HOST_HI c) (32 * n) := by
  have hlen : (d.dmaRead (d.num2 SPAD.DMA_HOST_LO SPAD.DMA_HOST_HI c) (32 * n)).length = 32 * n := length_smapBytes _ _ _ _
  have hx := spadRead_spadWrite (d := d) (c := c) (a := d.num SPAD.DMA_SPAD c) (hlen.trans_le hl)
  rw [hlen] at hx
  rw [spadMove_in h, spadRead_congr spad_emitWaiting, hx]

/-- A DMA that has ended in a state, with `n` words moved. -/
def spadEnded (d : Dev) (c st n : Nat) (b : IntBit) : Dev := ((d.spadMove c n).endOp SPAD.DMA_STAT c st n).raise b

theorem spadDone_idle {ue : Guard} (h : d.opState SPAD.DMA_STAT c ≠ 1 ∨ d.enabled 0x33 = false) : d.spadDone c done ue = d := by
  refine if_pos ?_
  rcases h with h | h
  · simp [h]
  · simp [h]

theorem spadDone_whole (h : d.opState SPAD.DMA_STAT c = 1) (he : d.enabled 0x33 = true) (hd : d.spadWords c ≤ done) :
    d.spadDone c done .clean = d.spadEnded c 2 (d.spadWords c) SPAD.int_DMA_DONE := by
  rw [spadDone, if_neg (by simp [h, he])]
  simp [hd, guarded, spadEnded]

theorem spadDone_short (h : d.opState SPAD.DMA_STAT c = 1) (he : d.enabled 0x33 = true) (hd : done < d.spadWords c) :
    d.spadDone c done .clean = d.spadEnded c 4 done SPAD.int_DMA_FAIL := by
  have hmin : min done (d.spadWords c) = done := by omega
  rw [spadDone, if_neg (by simp [h, he])]
  simp [Nat.not_le.mpr hd, guarded, spadEnded, hmin]

theorem stat_spadEnded {st : Nat} {b : IntBit} (h : st < 8) : (d.spadEnded c st n b).num SPAD.DMA_STAT c = statusWord st 0 n := by
  rw [spadEnded, num_raise_plain _ _ _ _ rfl, num_endOp rfl h]

theorem hostMem_spadEnded {st : Nat} {b : IntBit} : (d.spadEnded c st n b).hostMem = (d.spadMove c n).hostMem := by
  rw [spadEnded, raise_hostMem, hostMem_endOp]

theorem eng_spadEnded {st : Nat} {b : IntBit} : (d.spadEnded c st n b).eng = (d.spadMove c n).eng := by
  rw [spadEnded, raise_eng, endOp, opEnd_eng, setNum_eng]

/-- A DMA aborted with `n` words moved. -/
def spadStopped (d : Dev) (c n : Nat) : Dev := (d.spadMove c n).setNum SPAD.DMA_STAT (statusWord 3 0 n) c

theorem spadAbort_running (h : d.opState SPAD.DMA_STAT c = 1)
    (hn : n = if d.eng.still.contains c then 0 else min done (d.spadWords c - 1)) :
    ∃ w, d.spadAbort c done = ((d.setNum SPAD.DMA_STAT w c).spadStopped c n).opEnd 0x33
      (((d.setNum SPAD.DMA_STAT w c).spadStopped c n).num SPAD.DMA_STAT c) c := by
  refine ⟨setBits (d.num SPAD.DMA_STAT c) 0 3 3, ?_⟩
  rw [spadAbort, ← hn, abortOp_running h]
  rfl

/-! ### March tests (R274, R275) -/

theorem marchGo_none : d.marchGo t 3 = d := rfl

theorem marchGo_refused (hm : mode < 3) (ha : d.marchAllowed t mode = false) : d.marchGo t mode = d.raise MARC.int_REFUSED := by
  rw [marchGo, if_neg (by omega), if_pos (by simp [ha])]

theorem marchGo_busy (ha : d.marchAllowed t mode = true) (h : d.opState MARC.MARCH_STAT t = 1) : d.marchGo t mode = d := by
  rw [marchGo]
  simp [ha, h]

theorem marchGo_starts (hm : mode < 3) (ha : d.marchAllowed t mode = true) (h : d.opState MARC.MARCH_STAT t ≠ 1) :
    d.marchGo t mode = d.marchStart t mode := by
  rw [marchGo, if_neg (by omega), if_neg (by simp [ha]), if_neg h]

theorem stat_marchStart : (d.marchStart t mode).num MARC.MARCH_STAT t = 1 := by
  change (d.startOp MARC.MARCH_STAT t).num MARC.MARCH_STAT t = 1
  exact num_startOp d _ _
theorem mode_marchStart : (d.marchStart t mode).eng.march.get 0 t = mode := SMap.get_set_same _ _ _ _
theorem moves_marchStart : d.moves (d.marchStart t mode) [.eng] [0x70] := d.still.setNum.set_eng
theorem keepsBut_marchStart : d.keepsBut (d.marchStart t mode) [MARC.MARCH_STAT.key 0 t] := fun k x hk => by
  change (d.setNum MARC.MARCH_STAT 1 t).regs.get x k = _
  exact keepsBut_setNum k x hk
theorem keeps_marchStart : d.keeps (d.marchStart t mode) [.regs, .eng] := keeps.set_eng (keeps.setNum (keeps.refl d))

/-- What a test has found is shown in FAILS. -/
theorem fails_marchNote : (d.marchNote t fails).num MARC.FAILS t = fails.length % 2 ^ 20 := by
  have hshown (v w : Nat) : (((d.setNum MARC.FAILS (fails.length % 2 ^ 20) t).setNum MARC.FIRST_FAIL v t).setNum2 MARC.END_STAMP_LO
      MARC.END_STAMP_HI w t).num MARC.FAILS t = fails.length % 2 ^ 20 := by
    rw [setNum2, num_setNum_apart _ _ _ _ _ _ rfl, num_setNum_apart _ _ _ _ _ _ rfl, num_setNum_apart _ _ _ _ _ _ rfl, num_setNum_same]
    omega
  have hheld (e : Dev) (x : Nat) : (e.withhold x).num MARC.FAILS t = e.num MARC.FAILS t := by
    unfold withhold
    split
    · rw [num_bump_apart _ _ _ _ _ _ rfl, num_setNum_apart _ _ _ _ _ _ rfl]
      rfl
    · rfl
  unfold marchNote
  dsimp only
  split
  · rw [writes_evalAll.num MARC.FAILS t, foldl_keeps (rd := fun e => e.num MARC.FAILS t) fun e x _ => hheld e x]
    exact hshown _ _
  · exact hshown _ _

theorem fails_marchFound : (d.marchFound t fails).num MARC.FAILS t = fails.length % 2 ^ 20 := by
  unfold marchFound
  dsimp only
  split
  · exact fails_marchNote
  · rw [each_keeps (rd := fun e => e.num MARC.FAILS t) fun e _ _ => num_log_plain _ _ _ _ _ _ _ _ _ rfl, num_raise_plain _ _ _ _ rfl,
      fails_marchNote]

/-- The scratchpad as the test of mode 0 leaves it. -/
def marchFilled (d : Dev) (t : Nat) : Dev := if d.eng.march.get 0 t = 0 ∧ t < 8 then d.spadFill t fun _ => 0xFF else d

theorem marchEnd_idle (h : d.opState MARC.MARCH_STAT t ≠ 1) : d.marchEnd t fails = d := if_pos h
theorem marchEnd_running (h : d.opState MARC.MARCH_STAT t = 1) :
    d.marchEnd t fails = (((d.marchFilled t).marchFound t fails).endOp MARC.MARCH_STAT t 2 (marchSize t)).raise MARC.int_DONE :=
  if_neg (by simp [h])

/-- An abort of a test: what has been found, and how far it has come. -/
theorem marchAbort_running (h : d.opState MARC.MARCH_STAT t = 1) :
    ∃ e : Dev, d.marchAbort t done fails =
      ((e.marchFound t fails).setNum MARC.MARCH_STAT (statusWord 3 0 (min done (marchSize t - 1))) t).opEnd 0x70
        (((e.marchFound t fails).setNum MARC.MARCH_STAT (statusWord 3 0 (min done (marchSize t - 1))) t).num MARC.MARCH_STAT t) t := by
  rw [marchAbort, abortOp_running h]
  exact ⟨_, rfl⟩

/-! ### Automatic tests (R280) -/

/-- A step of the automatic tests. -/
def marchNext (d : Dev) (t : Nat) : Dev := if d.opState MARC.MARCH_STAT t = 1 then d else d.marchStart t (if t = 8 then 2 else 1)

/-- The instant at which tests last began by themselves. -/
def marchTimed (d : Dev) (now : Nat) : Dev := { d with eng := { d.eng with marchS := now } }

theorem marchAuto_idle (h : d.enabled 0x70 = false ∨ d.fld MARC.AUTO_INTERVAL = 0 ∨ d.upMs / 1000 < d.eng.marchS + d.fld MARC.AUTO_INTERVAL) :
    d.marchAuto = d := by
  refine if_pos ?_
  rcases h with h | h | h <;> simp [h]

theorem marchAuto_due (he : d.enabled 0x70 = true) (hn : d.fld MARC.AUTO_INTERVAL ≠ 0)
    (ht : d.eng.marchS + d.fld MARC.AUTO_INTERVAL ≤ d.upMs / 1000) :
    d.marchAuto = (d.marchTimed (d.upMs / 1000)).each 9 marchNext := by
  refine if_neg ?_
  simp [he, hn, Nat.not_lt.mpr ht]

theorem moves_marchNext : d.moves (d.marchNext t) [.eng] [0x70] := d.still.ite moves_marchStart

theorem opState_marchNext : (d.marchNext t).opState MARC.MARCH_STAT t = 1 := by
  unfold marchNext
  split
  · assumption
  · rw [opState, stat_marchStart]

theorem opState_marchNext_ne {j : Nat} (ht : t < 9) (hj : j < 9) (h : t ≠ j) :
    (d.marchNext j).opState MARC.MARCH_STAT t = d.opState MARC.MARCH_STAT t := by
  have hs : (d.marchStart j (if j = 8 then 2 else 1)).num MARC.MARCH_STAT t = d.num MARC.MARCH_STAT t := by
    change (d.setNum MARC.MARCH_STAT 1 j).num MARC.MARCH_STAT t = _
    exact num_setNum_chan d (by omega) rfl rfl
  unfold marchNext
  split
  · rfl
  · rw [opState, hs, opState]

theorem march_marchNext_ne {j : Nat} (h : t ≠ j) : (d.marchNext j).eng.march.get 0 t = d.eng.march.get 0 t := by
  unfold marchNext
  split
  · rfl
  · exact SMap.get_set_ne _ _ _ _ h

theorem marchS_marchNext : (d.marchNext t).eng.marchS = d.eng.marchS := by
  unfold marchNext
  split <;> rfl

theorem opState_marchAuto {n : Nat} (ht : t < n) (hn : n ≤ 9) : (d.each n marchNext).opState MARC.MARCH_STAT t = 1 := by
  rw [each_at (rd := fun e => e.opState MARC.MARCH_STAT t) ht fun e j hj hjn => opState_marchNext_ne (by omega) (by omega) (by omega)]
  exact opState_marchNext

theorem march_marchAuto {n : Nat} (ht : t < n) (hn : n ≤ 9) (h : d.opState MARC.MARCH_STAT t ≠ 1) :
    (d.each n marchNext).eng.march.get 0 t = if t = 8 then 2 else 1 := by
  have hb : (d.each t marchNext).opState MARC.MARCH_STAT t ≠ 1 := by
    rw [each_keeps (rd := fun e => e.opState MARC.MARCH_STAT t) fun e j hj => opState_marchNext_ne (by omega) (by omega) (by omega)]
    exact h
  rw [each_at (rd := fun e => e.eng.march.get 0 t) ht fun e j hj _ => march_marchNext_ne (by omega), marchNext, if_neg hb, mode_marchStart]

/-! ### Messages (R302) -/

theorem exportMessage_idle {pick : List Nat} (h : (d.exportQ c).recs = [] ∨ d.exportEn c = false) : d.exportMessage c pick = d := by
  refine if_pos ?_
  rcases h with h | h <;> simp [h]

/-- A queue without the records that a message takes. -/
def exportTaken (q : ExportQ) (n : Nat) : ExportQ := { recs := q.recs.drop n, times := q.times.drop n, sent := q.sent + n }

theorem exportMessage_sent {pick : List Nat} {p : Dev × Option Nat} (hr : (d.exportQ c).recs ≠ []) (he : d.exportEn c = true)
    (hn : n = ipfixFit 256 (d.exportDesc c 62 1) (d.exportDesc c 64 2) 0 (d.exportQ c).recs)
    (hdue : n < (d.exportQ c).recs.length ∨ (d.exportQ c).times.headD 0 + d.exportDesc c 68 2 * 10000 ≤ d.clk.up)
    (hm : d.madeFrame (34 + c) (d.exportDesc c 66 1) (d.exportDesc c 67 1) (d.exportFrame c n) pick id = some p) :
    d.exportMessage c pick = Dev.emitWaiting 256 (p.1.setExportQ c (exportTaken (d.exportQ c) n)) c := by
  have hb : (decide (n < (d.exportQ c).recs.length) || decide ((d.exportQ c).times.headD 0 + d.exportDesc c 68 2 * 10000 ≤ d.clk.up)) = true := by
    simpa using hdue
  rw [exportMessage, ← hn]
  rw [hb, he, if_neg (by simp [hr]), hm]
  rfl

end Sys2Proof.Machine.Dev

namespace Sys2Proof.Machine
open Sys2Proof
variable {s : State} {c n t mode done : Nat} {fails : List Nat}

theorem gives_dmaDone {p : Dev → Prop} {ue : Guard} (h : s.Awake) (hc : c < 8) (hp : p (s.dev.under (s.dev.spadDone c done ue))) :
    Gives (.dmaDone c done ue) s p := by
  refine gives_run (f := fun d => d.spadDone (c % 8) done ue) rfl h ?_
  rw [Nat.mod_eq_of_lt hc]
  exact hp

theorem gives_dmaGo {dir : Bool} (ho : s.Opens 0x33) (hc : c < 8) (hst : s.dev.opState SPAD.DMA_STAT c ≠ 1) :
    Gives (.dmaGo c dir) s fun d => d.num SPAD.DMA_STAT c = 1 ∧ d.on SPAD.DMA_CTRL_DIR c = dir ∧
      d.eng.still.contains c = !s.dev.enabled 0x33 ∧ s.dev.keeps d [.regs, .sw, .eng] ∧
      s.dev.keepsPages d [0x33] := by
  refine gives_access (f := fun d => d.spadGo (c % 8) dir) rfl ho ?_
  rw [Nat.mod_eq_of_lt hc, Dev.spadGo_idle hst, Dev.moves_spadBegun.under_eq, Dev.eng_spadBegun]
  exact ⟨Dev.stat_spadBegun, Dev.dir_spadBegun, Dev.still_spadStilled, Dev.keeps_spadBegun, Dev.moves_spadBegun.2⟩

theorem gives_dmaAbort (ho : s.Opens 0x33) (hc : c < 8) (hst : s.dev.opState SPAD.DMA_STAT c = 1)
    (hn : n = if s.dev.eng.still.contains c then 0 else min done (s.dev.spadWords c - 1)) :
    Gives (.dmaAbort c done) s fun d => d.num SPAD.DMA_STAT c = statusWord 3 0 n ∧ s.dev.moves d [.hostMem, .eng] [0x33] := by
  obtain ⟨w, heq⟩ := Dev.spadAbort_running hst hn
  have hm : s.dev.moves (s.dev.spadAbort c done) [.hostMem, .eng] [0x33] := by
    rw [heq]
    exact ((s.dev.still.setNum.andThen Dev.moves_spadMove).setNum).opEnd
  refine gives_access (f := fun d => d.spadAbort (c % 8) done) rfl ho ?_
  rw [Nat.mod_eq_of_lt hc, hm.under_eq]
  refine ⟨?_, hm⟩
  rw [heq, Dev.num_opEnd_plain _ _ _ _ _ _ rfl, Dev.spadStopped, Dev.num_setNum_same, Nat.mod_eq_of_lt (statusWord_lt (by decide))]

theorem gives_dmaDone_out (h : s.Awake) (hc : c < 8) (he : s.dev.enabled 0x33 = true) (hst : s.dev.opState SPAD.DMA_STAT c = 1)
    (hdir : s.dev.on SPAD.DMA_CTRL_DIR c = true) (hd : s.dev.spadWords c ≤ done) :
    Gives (.dmaDone c done .clean) s fun d => d.num SPAD.DMA_STAT c = statusWord 2 0 (s.dev.spadWords c) ∧
      d.dmaRead (s.dev.num2 SPAD.DMA_HOST_LO SPAD.DMA_HOST_HI c) (32 * s.dev.spadWords c) =
        s.dev.spadRead c (s.dev.num SPAD.DMA_SPAD c) (32 * s.dev.spadWords c) ∧
      d.raised SPAD.int_DMA_DONE = true ∧ s.dev.moves d [.hostMem] [0x33] := by
  have hm : s.dev.moves (s.dev.spadEnded c 2 (s.dev.spadWords c) SPAD.int_DMA_DONE) [.hostMem] [0x33] :=
    (s.dev.still.andThen (Dev.moves_spadMove_out hdir)).endOp.raise
  refine gives_dmaDone h hc ?_
  rw [Dev.spadDone_whole hst he hd, hm.under_eq]
  refine ⟨Dev.stat_spadEnded (by decide), ?_, Dev.raised_raise_eq _ _ rfl, hm⟩
  rw [Dev.dmaRead, Dev.hostMem_spadEnded]
  exact Dev.dmaRead_spadMove hdir

theorem gives_dmaDone_in (h : s.Awake) (hc : c < 8) (he : s.dev.enabled 0x33 = true) (hst : s.dev.opState SPAD.DMA_STAT c = 1)
    (hdir : s.dev.on SPAD.DMA_CTRL_DIR c = false) (hd : s.dev.spadWords c ≤ done) (hl : 32 * s.dev.spadWords c ≤ 2 ^ 20) :
    Gives (.dmaDone c done .clean) s fun d => d.num SPAD.DMA_STAT c = statusWord 2 0 (s.dev.spadWords c) ∧
      d.spadRead c (s.dev.num SPAD.DMA_SPAD c) (32 * s.dev.spadWords c) =
        s.dev.dmaRead (s.dev.num2 SPAD.DMA_HOST_LO SPAD.DMA_HOST_HI c) (32 * s.dev.spadWords c) ∧
      d.raised SPAD.int_DMA_DONE = true ∧ s.dev.moves d [.eng] [0x33] := by
  have hm : s.dev.moves (s.dev.spadEnded c 2 (s.dev.spadWords c) SPAD.int_DMA_DONE) [.eng] [0x33] :=
    (s.dev.still.andThen (Dev.moves_spadMove_in hdir)).endOp.raise
  refine gives_dmaDone h hc ?_
  rw [Dev.spadDone_whole hst he hd, hm.under_eq]
  refine ⟨Dev.stat_spadEnded (by decide), ?_, Dev.raised_raise_eq _ _ rfl, hm⟩
  rw [Dev.spadRead_congr (congrArg (fun x => x.spad) Dev.eng_spadEnded)]
  exact Dev.spadRead_spadMove hdir hl

theorem gives_dmaDone_short (h : s.Awake) (hc : c < 8) (he : s.dev.enabled 0x33 = true) (hst : s.dev.opState SPAD.DMA_STAT c = 1)
    (hd : done < s.dev.spadWords c) :
    Gives (.dmaDone c done .clean) s fun d => d.num SPAD.DMA_STAT c = statusWord 4 0 done ∧ d.raised SPAD.int_DMA_FAIL = true ∧
      s.dev.moves d [.hostMem, .eng] [0x33] := by
  have hm : s.dev.moves (s.dev.spadEnded c 4 done SPAD.int_DMA_FAIL) [.hostMem, .eng] [0x33] :=
    (s.dev.still.andThen Dev.moves_spadMove).endOp.raise
  refine gives_dmaDone h hc ?_
  rw [Dev.spadDone_short hst he hd, hm.under_eq]
  exact ⟨Dev.stat_spadEnded (by decide), Dev.raised_raise_eq _ _ rfl, hm⟩

theorem gives_marchGo {p : Dev → Prop} (ho : s.Opens 0x70) (ht : t < 9) (hm : mode < 4) (hp : p (s.dev.under (s.dev.marchGo t mode))) :
    Gives (.marchGo t mode) s p := by
  refine gives_access (f := fun d => d.marchGo (t % 9) (mode % 4)) rfl ho ?_
  rw [Nat.mod_eq_of_lt ht, Nat.mod_eq_of_lt hm]
  exact hp

theorem gives_marchAuto (h : s.Awake) (he : s.dev.enabled 0x70 = true) (hn : s.dev.fld MARC.AUTO_INTERVAL ≠ 0)
    (hd : s.dev.eng.marchS + s.dev.fld MARC.AUTO_INTERVAL ≤ s.dev.upMs / 1000) :
    Gives .marchAuto s fun d => (∀ t, t < 9 → d.opState MARC.MARCH_STAT t = 1) ∧ d.eng.marchS = s.dev.upMs / 1000 ∧
      (∀ t, t < 9 → s.dev.opState MARC.MARCH_STAT t ≠ 1 → d.eng.march.get 0 t = (if t = 8 then 2 else 1)) ∧
      s.dev.moves d [.eng] [0x70] := by
  have hm : s.dev.moves ((s.dev.marchTimed (s.dev.upMs / 1000)).each 9 Dev.marchNext) [.eng] [0x70] :=
    Dev.moves.each (s.dev.still.set_eng) fun h => h.andThen Dev.moves_marchNext
  refine gives_run rfl h ?_
  rw [Dev.marchAuto_due he hn hd, hm.under_eq]
  refine ⟨fun t ht => Dev.opState_marchAuto ht (by decide), ?_, fun t ht hst => Dev.march_marchAuto ht (by decide) hst, hm⟩
  rw [Dev.each_keeps (rd := fun e => e.eng.marchS) fun e j _ => Dev.marchS_marchNext]
  rfl

theorem gives_marchAbort (ho : s.Opens 0x70) (ht : t < 9) (hst : s.dev.opState MARC.MARCH_STAT t = 1) :
    Gives (.marchAbort t done fails) s fun d => d.num MARC.MARCH_STAT t = statusWord 3 0 (min done (marchSize t - 1)) ∧
      d.num MARC.FAILS t = fails.length % 2 ^ 20 := by
  obtain ⟨e, heq⟩ := Dev.marchAbort_running (done := done) (fails := fails) hst
  refine gives_access (f := fun d => d.marchAbort (t % 9) done fails) rfl ho ?_
  rw [Nat.mod_eq_of_lt ht, Dev.under_num, Dev.under_num, heq]
  refine ⟨?_, ?_⟩
  · rw [Dev.num_opEnd_plain _ _ _ _ _ _ rfl, Dev.num_setNum_same, Nat.mod_eq_of_lt (statusWord_lt (by decide))]
  · rw [Dev.num_opEnd_plain _ _ _ _ _ _ rfl, Dev.num_setNum_apart _ _ _ _ _ _ rfl, Dev.fails_marchFound]

theorem gives_marchDone (h : s.Awake) (ht : t < 9) (hst : s.dev.opState MARC.MARCH_STAT t = 1) :
    Gives (.marchDone t fails) s fun d => d.num MARC.MARCH_STAT t = statusWord 2 0 (marchSize t) ∧
      d.num MARC.FAILS t = fails.length % 2 ^ 20 ∧ d.raised MARC.int_DONE = true := by
  refine gives_run (f := fun d => d.marchEnd (t % 9) fails) rfl h ?_
  rw [Nat.mod_eq_of_lt ht, Dev.under_num, Dev.under_num, Dev.under_raised, Dev.marchEnd_running hst]
  refine ⟨?_, ?_, Dev.raised_raise_eq _ _ rfl⟩
  · rw [Dev.num_raise_plain _ _ _ _ rfl, Dev.num_endOp]
  · rw [Dev.num_raise_plain _ _ _ _ rfl, Dev.endOp, Dev.num_opEnd_plain _ _ _ _ _ _ rfl, Dev.num_setNum_apart _ _ _ _ _ _ rfl,
      Dev.fails_marchFound]

theorem gives_exportMessage {pick : List Nat} (h : s.Awake) (hc : c < 8) (hr : (s.dev.exportQ c).recs ≠ []) (he : s.dev.exportEn c = true)
    (hn : n = ipfixFit 256 (s.dev.exportDesc c 62 1) (s.dev.exportDesc c 64 2) 0 (s.dev.exportQ c).recs)
    (hdue : n < (s.dev.exportQ c).recs.length ∨ (s.dev.exportQ c).times.headD 0 + s.dev.exportDesc c 68 2 * 10000 ≤ s.dev.clk.up)
    (hm : (s.dev.madeFrame (34 + c) (s.dev.exportDesc c 66 1) (s.dev.exportDesc c 67 1) (s.dev.exportFrame c n) pick id).isSome = true) :
    Gives (.exportMessage c pick) s fun d => (d.exportQ c).sent = (s.dev.exportQ c).sent + n ∧
      (∃ more, (d.exportQ c).recs = (s.dev.exportQ c).recs.drop n ++ more) := by
  obtain ⟨p, hp⟩ := Option.isSome_iff_exists.mp hm
  have hq : (p.1.setExportQ c (Dev.exportTaken (s.dev.exportQ c) n)).exportQ c = Dev.exportTaken (s.dev.exportQ c) n := SMap.get_set_same _ _ _ _
  refine gives_run (f := fun d => d.exportMessage (c % 8) pick) rfl h ?_
  rw [Nat.mod_eq_of_lt hc, Dev.exportQ_under, Dev.exportMessage_sent hr he hn hdue hp]
  obtain ⟨hs, more, hrecs⟩ := Dev.exportQ_emitWaiting (d := p.1.setExportQ c (Dev.exportTaken (s.dev.exportQ c) n)) (c := c) (n := 256)
  rw [hq] at hs hrecs
  exact ⟨hs, more, hrecs⟩

end Sys2Proof.Machine

open Sys2Proof Sys2Proof.Machine

/-- Settles O39, command by command. -/
theorem scratchpadServices : Obligations.ScratchpadServices := by
  unfold Obligations.ScratchpadServices
  refine ⟨fun s c dir ho hc hst => gives_dmaGo ho hc hst, fun s c dir ho hc hst => ?busy, fun s c done n ho hc hst hn => gives_dmaAbort ho hc hst hn,
    fun s c done h hc he hst hdir hd => gives_dmaDone_out h hc he hst hdir hd,
    fun s c done h hc he hst hdir hd hl => gives_dmaDone_in h hc he hst hdir hd hl,
    fun s c done h hc he hst hd => gives_dmaDone_short h hc he hst hd, fun s c done ue _ hc hst => ?noDma,
    fun s t mode ho ht hm hst ha => gives_marchGo ho ht (by omega) ?starts, fun s t mode ho ht hm ha => gives_marchGo ho ht (by omega) ?refused,
    fun s t mode ho ht hm hi => ?goesOn, fun s h he hn hd => gives_marchAuto h he hn hd, fun s _ hi => idle_runSelf rfl (Dev.marchAuto_idle hi),
    fun s t done fails ho ht hst => gives_marchAbort ho ht hst, fun s t fails h ht hst => gives_marchDone h ht hst,
    fun s t fails _ ht hst => ?noTest, fun s c n pick h hc hr he hn hdue hm => gives_exportMessage h hc hr he hn hdue hm,
    fun s c pick _ hc hi => ?noMessage⟩
  case busy =>
    refine idle_access (f := fun d => d.spadGo (c % 8) dir) rfl ho.2 ?_
    rw [Nat.mod_eq_of_lt hc, Dev.spadGo_busy hst]
  case noDma =>
    refine idle_runSelf (f := fun d => d.spadDone (c % 8) done ue) rfl ?_
    rw [Nat.mod_eq_of_lt hc, Dev.spadDone_idle hst]
  case starts =>
    rw [Dev.marchGo_starts hm ha hst, Dev.moves_marchStart.under_eq]
    exact ⟨Dev.stat_marchStart, Dev.mode_marchStart, Dev.keeps_marchStart, Dev.keepsBut_marchStart⟩
  case refused =>
    rw [Dev.marchGo_refused hm ha]
    exact ⟨Dev.raised_raise_eq _ _ rfl, Dev.reportsOnly_under (Dev.reportsOnly_raise _ _)⟩
  case goesOn =>
    refine idle_access (f := fun d => d.marchGo (t % 9) (mode % 4)) rfl ho.2 ?_
    rw [Nat.mod_eq_of_lt ht, Nat.mod_eq_of_lt hm]
    rcases hi with rfl | ⟨ha, hst⟩
    · exact Dev.marchGo_none
    · exact Dev.marchGo_busy ha hst
  case noTest =>
    refine idle_runSelf (f := fun d => d.marchEnd (t % 9) fails) rfl ?_
    rw [Nat.mod_eq_of_lt ht, Dev.marchEnd_idle hst]
  case noMessage =>
    refine idle_runSelf (f := fun d => d.exportMessage (c % 8) pick) rfl ?_
    rw [Nat.mod_eq_of_lt hc, Dev.exportMessage_idle hi]
end

section
set_option Elab.async false
/-! The loaders of pause-governed memory (R87, R160, R201, R232). -/

namespace Sys2Proof.Machine
open Sys2Proof

/-! ### Rows of a page -/

theorem Reg.page_elemAt {r x : Reg} {off : Nat} (h : r.elemAt off = some x) : x.page = r.page := by
  unfold Reg.elemAt at h
  split at h
  · obtain ⟨-, hx⟩ := Option.ite_none_right_eq_some.mp h
    obtain rfl := Option.some.inj hx
    rfl
  · obtain ⟨-, hx⟩ := Option.ite_none_right_eq_some.mp h
    obtain rfl := Option.some.inj hx
    exact r.ix_page _
  · obtain ⟨-, hx⟩ := Option.ite_none_right_eq_some.mp h
    obtain rfl := Option.some.inj hx
    rw [Reg.ix2, Reg.ix_page, Reg.ix_page]

/-- A register that is found among rows of one page is of that page. -/
theorem page_findRow {off p : Nat} {r : Reg} : ∀ {rows : List Reg}, findRow off rows = some r → (∀ x ∈ rows, x.page = p) → r.page = p
  | [], h, _ => by cases h
  | x :: rows, h, hp => by
    rw [findRow] at h
    split at h
    next y hy =>
      obtain rfl := Option.some.inj h
      rw [Reg.page_elemAt hy, hp x List.mem_cons_self]
    · exact page_findRow h fun y hy => hp y (List.mem_cons_of_mem x hy)

/-! ### The three loaders -/

/-- The loaders that the module has. -/
def LoaderAt.known (l : LoaderAt) : Prop := l = graphLoader ∨ l = bankLoader ∨ l = anchorLoader

theorem LoaderAt.known.stat_plain {l : LoaderAt} (h : l.known) : l.stat.plain = true := by rcases h with rfl | rfl | rfl <;> rfl
theorem LoaderAt.known.stat_page {l : LoaderAt} (h : l.known) : l.stat.page = l.page := by rcases h with rfl | rfl | rfl <;> rfl
theorem LoaderAt.known.stat_off {l : LoaderAt} (h : l.known) : decide (0x40 ≤ l.stat.off ∧ l.stat.off < 4096) = true := by
  rcases h with rfl | rfl | rfl <;> rfl
theorem LoaderAt.known.ctrl_lt {l : LoaderAt} (h : l.known) : l.ctrl < 4096 := by rcases h with rfl | rfl | rfl <;> decide
theorem LoaderAt.known.done_plain {l : LoaderAt} (h : l.known) : l.done.plain = true := by rcases h with rfl | rfl | rfl <;> rfl
theorem LoaderAt.known.fail_plain {l : LoaderAt} (h : l.known) : l.fail.plain = true := by rcases h with rfl | rfl | rfl <;> rfl

namespace Dev
variable {d e : Dev} {l : LoaderAt} {n path done off w i p : Nat} {auto : Bool} {rows : List Reg} {chs : List Nat}

/-! ### Entries of a load -/

theorem moves_loadWord (hp : ∀ x ∈ rows, x.page = p) : d.moves (d.loadWord rows off w chs) [] [p] := by
  unfold loadWord
  split
  next r hr =>
    have hpage : [p].contains r.page = true := by rw [page_findRow hr hp]; simp
    have hrec : d.moves (if chs.any fun ch => (r.settle (d.reg r ch) (BitVec.ofNat 32 w)).2 then d.recErr r.page off 1 0 else d) [] [p] :=
      d.still.iteSelf fun h => h.recErr hpage
    exact d.still.ite (hrec.foldl fun h => h.setReg hpage)
  · exact d.still

theorem loaders_nodeMended : (d.nodeMended i).look.loaders = d.look.loaders := by
  unfold nodeMended
  split <;> rfl
theorem moves_nodeMended : d.moves (d.nodeMended i) [.look] [] := d.still.iteSelf fun h => h.set_look
theorem loaders_anchorMended : (d.anchorMended i).look.loaders = d.look.loaders := by
  unfold anchorMended
  split <;> rfl
theorem moves_anchorMended : d.moves (d.anchorMended i) [.look] [] := d.still.iteSelf fun h => h.set_look

theorem pars_page : ∀ x ∈ PARS.rows, x.page = 0x20 := by decide
theorem anch_page : ∀ x ∈ ANCH.rows, x.page = 0x2B := by decide

/-- A step of a walk that leaves the loaders' states alone and moves the tables and one page. -/
def loads (d e : Dev) (p : Nat) : Prop := d.moves e [.look] [p] ∧ e.look.loaders = d.look.loaders

theorem loads.refl (d : Dev) (p : Nat) : d.loads d p := ⟨d.still, rfl⟩
theorem loads.trans {f : Dev} (h : d.loads e p) (g : e.loads f p) : d.loads f p := ⟨h.1.trans g.1, g.2.trans h.2⟩
theorem loads.foldl {α : Type} {f : Dev → α → Dev} {xs : List α} {d0 : Dev} (h : d0.loads d p) (hf : ∀ (e : Dev) x, e.loads (f e x) p) :
    d0.loads (xs.foldl f d) p := by
  induction xs generalizing d with
  | nil => exact h
  | cons x xs ih => exact ih (h.trans (hf d x))
theorem loads.each {f : Dev → Nat → Dev} {d0 : Dev} (h : d0.loads d p) (hf : ∀ (e : Dev) x, e.loads (f e x) p) : d0.loads (d.each n f) p := h.foldl hf

theorem loads_loadWord (hp : ∀ x ∈ rows, x.page = p) : d.loads (d.loadWord rows off w chs) p := by
  have h := moves_loadWord (d := d) (off := off) (w := w) (chs := chs) hp
  exact ⟨h.mono rfl (by simp), congrArg Look.loaders h.keeps_look⟩

theorem loads_recErr {c s : Nat} : d.loads (d.recErr p off c s) p := by
  have h : d.moves (d.recErr p off c s) [] [p] := d.still.recErr (by simp)
  exact ⟨h.mono rfl (by simp), congrArg Look.loaders h.keeps_look⟩

theorem loads_nodeMended : d.loads (d.nodeMended i) p := ⟨moves_nodeMended.mono rfl rfl, loaders_nodeMended⟩
theorem loads_anchorMended : d.loads (d.anchorMended i) p := ⟨moves_anchorMended.mono rfl rfl, loaders_anchorMended⟩
theorem loads_setRule {q r : Nat} : d.loads (d.setRule q i r) p := ⟨d.still.set_look, rfl⟩

theorem loads_loadNode : d.loads (d.loadNode n) 0x20 :=
  ((loads.refl d _).each fun _ _ => loads_loadWord pars_page).foldl fun _ _ => loads_nodeMended

theorem num_setRule {q r c : Nat} (x : Reg) : (d.setRule q i r).num x c = d.num x c := rfl

/-- A rule of the image put into the pipelines of the mask. -/
def ruleLoaded (d : Dev) (n : Nat) : Dev := d.each 4 fun e p => if bitOf (d.num CLSF.WR_MASK) p then
  e.setRule p (d.fld CLSF.LOAD_BANKS_FIRST * 1024 + n) (ruleClean (d.imageRule n)) else e

theorem loadRule_eq : d.loadRule n = if ruleOk (d.imageRule n) then d.ruleLoaded n else d.recErr 0x2A 0x41C 1 0 := by
  have h : (d.each 4 fun e p => if bitOf (e.num CLSF.WR_MASK) p then
      e.setRule p (d.fld CLSF.LOAD_BANKS_FIRST * 1024 + n) (ruleClean (d.imageRule n)) else e) = d.ruleLoaded n :=
    each_pinned (rd := fun e => e.num CLSF.WR_MASK) (fun e p h => by rw [h]) fun e p => by
      split
      · exact num_setRule _
      · rfl
  rw [← h]
  rfl

theorem loads_ruleLoaded : d.loads (d.ruleLoaded n) p := (loads.refl d _).each fun e q => by
  split
  · exact loads_setRule
  · exact loads.refl e p

theorem loads_loadRule : d.loads (d.loadRule n) 0x2A := by
  rw [loadRule_eq]
  split
  · exact loads_ruleLoaded
  · exact loads_recErr

theorem loads_loadAnchor : d.loads (d.loadAnchor n) 0x2B :=
  ((loads.refl d _).each fun _ _ => loads_loadWord anch_page).trans loads_anchorMended

theorem loads_loadEntries (hl : l.known) : d.loads (d.loadEntries l n) l.page := by
  refine (loads.refl d _).each fun e i => ?_
  rcases hl with rfl | rfl | rfl
  · exact loads_loadNode
  · exact loads_loadRule
  · exact loads_loadAnchor

/-! ### Rules of a load (R201) -/

theorem imageRule_congr (hr : e.num2 CLSF.LOAD_ADDR_LO CLSF.LOAD_ADDR_HI = d.num2 CLSF.LOAD_ADDR_LO CLSF.LOAD_ADDR_HI)
    (hm : e.hostMem = d.hostMem) : e.imageRule n = d.imageRule n := by
  rw [imageRule, hr, dmaRead, hm, imageRule, dmaRead]

/-- What a load of rules reads: its image, its mask and its first bank. -/
def ruleInputs (d : Dev) : (Nat × Nat × Nat) × SMap Byte :=
  ((d.num2 CLSF.LOAD_ADDR_LO CLSF.LOAD_ADDR_HI, d.num CLSF.WR_MASK, d.fld CLSF.LOAD_BANKS_FIRST), d.hostMem)

theorem ruleInputs_of {e : Dev} (hr : e.regs = d.regs) (hm : e.hostMem = d.hostMem) : e.ruleInputs = d.ruleInputs := by
  rw [ruleInputs, num2, num_of_regs hr, num_of_regs hr, num_of_regs hr, fld_of_regs hr, hm, ← num2, ruleInputs]

theorem ruleInputs_setRule {q r : Nat} : (d.setRule q i r).ruleInputs = d.ruleInputs := ruleInputs_of rfl rfl

theorem ruleInputs_loadRule : (d.loadRule n).ruleInputs = d.ruleInputs := by
  rw [loadRule_eq]
  split
  · refine each_keeps (rd := ruleInputs) fun e p _ => ?_
    split
    · exact ruleInputs_setRule
    · rfl
  · have hm : d.moves (d.recErr 0x2A 0x41C 1 0) [] [0x2A] := d.still.recErr
    have hf : (d.recErr 0x2A 0x41C 1 0).fld CLSF.LOAD_BANKS_FIRST = d.fld CLSF.LOAD_BANKS_FIRST := by
      rw [fld, num_recErr_page CLSF.LOAD_BANKS_FIRST.reg, fld]
    rw [ruleInputs, num2, num_recErr_page CLSF.LOAD_ADDR_LO, num_recErr_page CLSF.LOAD_ADDR_HI, num_recErr_page CLSF.WR_MASK, hf, hm.keeps_hostMem,
      ← num2, ruleInputs]

theorem ruleMem_ruleLoaded_ne (h : (d.fld CLSF.LOAD_BANKS_FIRST * 1024 + n) % 65536 ≠ i % 65536) (p : Nat) :
    (d.ruleLoaded n).ruleMem p i = d.ruleMem p i := by
  refine each_keeps (rd := fun e => e.ruleMem p i) fun e q _ => ?_
  split
  · exact ruleMem_setRule_ne (by omega)
  · rfl

theorem ruleMem_loadRule_ne (h : (d.fld CLSF.LOAD_BANKS_FIRST * 1024 + n) % 65536 ≠ i % 65536) (p : Nat) :
    (d.loadRule n).ruleMem p i = d.ruleMem p i := by
  rw [loadRule_eq]
  split
  · exact ruleMem_ruleLoaded_ne h p
  · have hm : d.moves (d.recErr 0x2A 0x41C 1 0) [] [0x2A] := d.still.recErr
    rw [ruleMem, hm.keeps_look, ruleMem]

theorem ruleMem_loadRule (hp : p < 4) (hmask : bitOf (d.num CLSF.WR_MASK) p = true) (hok : ruleOk (d.imageRule n) = true) :
    (d.loadRule n).ruleMem p (d.fld CLSF.LOAD_BANKS_FIRST * 1024 + n) = ruleClean (d.imageRule n) := by
  have h := each_pipes (d := d) (rd := fun e p => e.ruleMem p (d.fld CLSF.LOAD_BANKS_FIRST * 1024 + n))
    (f := fun e p => e.setRule p (d.fld CLSF.LOAD_BANKS_FIRST * 1024 + n) (ruleClean (d.imageRule n))) (mask := d.num CLSF.WR_MASK)
    (fun e p => ruleMem_setRule_same) (fun e p q hq => ruleMem_setRule_ne (by omega)) 4 hp
  rw [loadRule_eq, if_pos hok, ruleLoaded, h, if_pos hmask]

/-- The rules of an image, one by one. -/
theorem loadEntries_rules : d.loadEntries bankLoader n = d.each (min n (d.loaderCount bankLoader)) fun e i => e.loadRule i := rfl

theorem ruleMem_loadEntries (hn : n < d.loaderCount bankLoader) (hp : p < 4) (hmask : bitOf (d.num CLSF.WR_MASK) p = true)
    (hok : ruleOk (d.imageRule n) = true) (hsize : d.fld CLSF.LOAD_BANKS_FIRST * 1024 + d.loaderCount bankLoader ≤ 65536) :
    (d.loadEntries bankLoader (d.loaderCount bankLoader)).ruleMem p (d.fld CLSF.LOAD_BANKS_FIRST * 1024 + n) = ruleClean (d.imageRule n) := by
  have hin (m : Nat) : (d.each m fun e i => e.loadRule i).ruleInputs = d.ruleInputs :=
    each_keeps (rd := ruleInputs) fun e i _ => ruleInputs_loadRule
  have hread (m : Nat) : (d.each m fun e i => e.loadRule i).fld CLSF.LOAD_BANKS_FIRST = d.fld CLSF.LOAD_BANKS_FIRST ∧
      (d.each m fun e i => e.loadRule i).num CLSF.WR_MASK = d.num CLSF.WR_MASK ∧
      (d.each m fun e i => e.loadRule i).imageRule n = d.imageRule n := by
    obtain ⟨hregs, hmem⟩ := Prod.mk.inj (hin m)
    obtain ⟨haddr, hrest⟩ := Prod.mk.inj hregs
    obtain ⟨hwr, hfirst⟩ := Prod.mk.inj hrest
    exact ⟨hfirst, hwr, imageRule_congr haddr hmem⟩
  have key (m : Nat) (hlt : n < m) (hle : m ≤ d.loaderCount bankLoader) :
      (d.each m fun e i => e.loadRule i).ruleMem p (d.fld CLSF.LOAD_BANKS_FIRST * 1024 + n) = ruleClean (d.imageRule n) := by
    induction m with
    | zero => exact absurd hlt (Nat.not_lt_zero n)
    | succ m ih =>
      obtain ⟨hfirst, hwr, himage⟩ := hread m
      rw [each_succ]
      by_cases hm : m = n
      · subst hm
        have h := ruleMem_loadRule (n := m) hp (by rw [hwr]; exact hmask) (by rw [himage]; exact hok)
        rw [hfirst, himage] at h
        exact h
      · rw [ruleMem_loadRule_ne (by rw [hfirst]; omega), ih (by omega) (by omega)]
  rw [loadEntries_rules, Nat.min_self]
  exact key _ hn (Nat.le_refl _)

/-! ### GO, ARM and the ends of a load -/

theorem moves_loaderStart (hl : l.known) : d.moves (d.loaderStart l auto) [.look] [l.page] :=
  (d.still.setLoader (G := [l.page])).startOp (by rw [hl.stat_page]; simp)

theorem stat_loaderStart : (d.loaderStart l auto).num l.stat = 1 := num_startOp _ _ _
theorem loader_setLoader {x : Loader} : (d.setLoader l x).loader l = x := SMap.get_set_same _ _ _ _
theorem loader_loaderStart : (d.loaderStart l auto).loader l = { armed := false, auto := auto } := loader_setLoader

theorem loaderGo_starts (hp : d.pausedFor (d.loaderMask l) = true) (hs : d.opState l.stat ≠ 1) : d.loaderGo l path auto = d.loaderStart l auto := by
  rw [loaderGo, if_neg (by simp [hp]), if_neg hs]

theorem loaderGo_refused (hp : d.pausedFor (d.loaderMask l) = false) : d.loaderGo l path auto = d.recErr l.page l.ctrl 4 path :=
  if_pos (by simp [hp])

theorem loaderAuto_starts (ha : (d.loader l).armed = true) (hp : d.pausedFor (d.loaderMask l) = true) (hs : d.opState l.stat ≠ 1) :
    d.loaderAuto l = d.loaderStart l (d.loader l).auto := if_pos (by simp [ha, hp, hs])

theorem loaderAuto_idle (h : (d.loader l).armed = false ∨ d.pausedFor (d.loaderMask l) = false) : d.loaderAuto l = d := by
  refine if_neg ?_
  rcases h with h | h <;> simp [h]

/-- A load ended in a state, with `n` entries written. -/
def loadEnded (d : Dev) (l : LoaderAt) (st n : Nat) (b : IntBit) : Dev :=
  ((d.loadEntries l n).endOp l.stat 0 st (d.loaderWritten l n)).raise b

theorem loaderDone_idle (h : d.opState l.stat ≠ 1) : d.loaderDone l done = d := if_pos h

theorem moves_loadEnded (hl : l.known) {st : Nat} {b : IntBit} : d.moves (d.loadEnded l st n b) [.look] [l.page] :=
  ((loads_loadEntries hl).1.endOp (by rw [hl.stat_page]; simp)).raise

theorem loader_loadEnded (hl : l.known) {st : Nat} {b : IntBit} : (d.loadEnded l st n b).loader l = d.loader l := by
  rw [loader, loadEnded, raise_look, endOp, opEnd_look, setNum_look, (loads_loadEntries hl).2, loader]

theorem stat_loadEnded (hl : l.known) {st : Nat} {b : IntBit} (h : st < 8) :
    (d.loadEnded l st n b).num l.stat = statusWord st 0 (d.loaderWritten l n) := by
  rw [loadEnded, num_raise_plain _ _ _ _ hl.stat_plain, num_endOp hl.stat_plain h]

theorem look_loadEnded {st : Nat} {b : IntBit} : (d.loadEnded l st n b).look = (d.loadEntries l n).look := by
  rw [loadEnded, raise_look, endOp, opEnd_look, setNum_look]

theorem loaderDone_short (h : d.opState l.stat = 1) (hd : done < d.loaderCount l) : d.loaderDone l done = d.loadEnded l 4 done l.fail := by
  have hmin : min done (d.loaderCount l) = done := by omega
  rw [loaderDone, if_neg (by simp [h])]
  dsimp only
  rw [if_pos (by simp [hd]), hmin]
  rfl

theorem loaderDone_whole (hl : l.known) (h : d.opState l.stat = 1) (hd : d.loaderCount l ≤ done) (hp : d.pausedFor (d.loaderMask l) = true)
    (ha : (d.loader l).auto = false) : d.loaderDone l done = d.loadEnded l 2 (d.loaderCount l) l.done := by
  have hend : ((d.loadEnded l 2 (d.loaderCount l) l.done).loader l).auto = false := by rw [loader_loadEnded hl, ha]
  rw [loaderDone, if_neg (by simp [h])]
  dsimp only
  rw [if_neg (by simp [hp, Nat.not_lt.mpr hd])]
  exact if_neg (Bool.eq_false_iff.mp hend)

/-- A load aborted with `n` entries written. -/
def loadStopped (d : Dev) (l : LoaderAt) (n : Nat) : Dev := (d.loadEntries l n).setNum l.stat (statusWord 3 0 (d.loaderWritten l n))

theorem loaderAbort_running (h : d.opState l.stat = 1) :
    ∃ w, d.loaderAbort l done = ((d.setNum l.stat w).loadStopped l (min done (d.loaderCount l - 1))).opEnd l.stat.page
      (((d.setNum l.stat w).loadStopped l (min done (d.loaderCount l - 1))).num l.stat) 0 := by
  refine ⟨setBits (d.num l.stat) 0 3 3, ?_⟩
  rw [loaderAbort, abortOp_running h]
  rfl

theorem loaderWritten_setNum (hl : l.known) {w : Nat} : (d.setNum l.stat w).loaderWritten l n = d.loaderWritten l n := by
  rcases hl with rfl | rfl | rfl
  · simp [loaderWritten, graphLoader]
  · have h (i : Nat) : (d.setNum bankLoader.stat w).imageRule i = d.imageRule i :=
      imageRule_congr (by rw [num2, num_setNum_apart _ _ _ _ _ _ rfl, num_setNum_apart _ _ _ _ _ _ rfl, ← num2]) rfl
    simp only [loaderWritten, h]
  · simp [loaderWritten, anchorLoader]

theorem moves_loaderAbort (hl : l.known) (h : d.opState l.stat = 1) : d.moves (d.loaderAbort l done) [.look] [l.page] := by
  obtain ⟨w, heq⟩ := loaderAbort_running (done := done) h
  have hp : [l.page].contains l.stat.page = true := by rw [hl.stat_page]; simp
  have hs : d.moves (d.setNum l.stat w) [.look] [l.page] := d.still.setNum hp
  rw [heq]
  exact ((hs.trans (loads_loadEntries hl).1).setNum hp).opEnd

theorem stat_loaderAbort (hl : l.known) (h : d.opState l.stat = 1) : (d.loaderAbort l done).num l.stat =
    statusWord 3 0 (d.loaderWritten l (min done (d.loaderCount l - 1))) := by
  obtain ⟨w, heq⟩ := loaderAbort_running (done := done) h
  rw [heq, num_opEnd_plain _ _ _ _ _ _ hl.stat_plain, loadStopped, num_setNum_same, Nat.mod_eq_of_lt (statusWord_lt (by decide)),
    loaderWritten_setNum hl]

end Dev

/-! ### The commands -/

variable {s : State} {c : Instr} {l : LoaderAt} {path done : Nat} {auto : Bool}

theorem exec_loaderGo (h : (c = .graphGo path auto ∧ l = graphLoader) ∨ (c = .bankLoadGo path auto ∧ l = bankLoader) ∨
    (c = .anchorLoadGo path auto ∧ l = anchorLoader)) :
    l.known ∧ exec c s = s.act fun d => d.access l.page fun d => d.loaderGo l path auto := by
  rcases h with ⟨rfl, rfl⟩ | ⟨rfl, rfl⟩ | ⟨rfl, rfl⟩
  · exact ⟨.inl rfl, rfl⟩
  · exact ⟨.inr (.inl rfl), rfl⟩
  · exact ⟨.inr (.inr rfl), rfl⟩

theorem exec_loaderArm (h : (c = .graphArm auto ∧ l = graphLoader) ∨ (c = .bankLoadArm auto ∧ l = bankLoader) ∨
    (c = .anchorLoadArm auto ∧ l = anchorLoader)) : exec c s = s.act fun d => d.access l.page fun d => d.loaderArm l auto := by
  rcases h with ⟨rfl, rfl⟩ | ⟨rfl, rfl⟩ | ⟨rfl, rfl⟩
  · rfl
  · rfl
  · rfl

theorem exec_loaderAuto (h : (c = .graphAutoStart ∧ l = graphLoader) ∨ (c = .bankLoadAutoStart ∧ l = bankLoader) ∨
    (c = .anchorLoadAutoStart ∧ l = anchorLoader)) : l.known ∧ exec c s = s.act fun d => d.loaderAuto l := by
  rcases h with ⟨rfl, rfl⟩ | ⟨rfl, rfl⟩ | ⟨rfl, rfl⟩
  · exact ⟨.inl rfl, rfl⟩
  · exact ⟨.inr (.inl rfl), rfl⟩
  · exact ⟨.inr (.inr rfl), rfl⟩

theorem exec_loaderAbort (h : (c = .graphAbort done ∧ l = graphLoader) ∨ (c = .bankLoadAbort done ∧ l = bankLoader) ∨
    (c = .anchorLoadAbort done ∧ l = anchorLoader)) :
    l.known ∧ exec c s = s.act fun d => d.access l.page fun d => d.loaderAbort l done := by
  rcases h with ⟨rfl, rfl⟩ | ⟨rfl, rfl⟩ | ⟨rfl, rfl⟩
  · exact ⟨.inl rfl, rfl⟩
  · exact ⟨.inr (.inl rfl), rfl⟩
  · exact ⟨.inr (.inr rfl), rfl⟩

theorem exec_loaderDone (h : (c = .graphDone done ∧ l = graphLoader) ∨ (c = .loadDone done ∧ l = bankLoader) ∨
    (c = .anchorLoadDone done ∧ l = anchorLoader)) : l.known ∧ exec c s = s.act fun d => d.loaderDone l done := by
  rcases h with ⟨rfl, rfl⟩ | ⟨rfl, rfl⟩ | ⟨rfl, rfl⟩
  · exact ⟨.inl rfl, rfl⟩
  · exact ⟨.inr (.inl rfl), rfl⟩
  · exact ⟨.inr (.inr rfl), rfl⟩

theorem loaderGo_recorded (hl : l.known) (hpath : path < 2) (hp : s.dev.pausedFor (s.dev.loaderMask l) = false) :
    (s.dev.under (s.dev.loaderGo l path auto)).num l.stat = s.dev.num l.stat ∧ s.dev.onlyRegs (s.dev.under (s.dev.loaderGo l path auto)) ∧
      (s.dev.fld (ERR_INFO_CAUSE l.page) = 0 →
        (s.dev.under (s.dev.loaderGo l path auto)).num (ERR_INFO l.page) = l.ctrl + 4 * 4096 + path * 65536) := by
  have hc := hl.ctrl_lt
  have hm : s.dev.moves (s.dev.recErr l.page l.ctrl 4 path) [] [l.page] := s.dev.still.recErr (by simp)
  rw [Dev.loaderGo_refused hp, hm.under_eq]
  refine ⟨Dev.num_recErr_page _ hl.stat_off, Dev.onlyRegs_recErr _ _ _ _ _, fun h => ?_⟩
  rw [Dev.num_recErr h]
  omega

end Sys2Proof.Machine

open Sys2Proof Sys2Proof.Machine

/-- Settles O29: three loaders, one set of commands. -/
theorem loadersUnderPause : Obligations.LoadersUnderPause := by
  unfold Obligations.LoadersUnderPause
  refine ⟨fun s c l path auto hc ho hp hs => ?go, fun s c l path auto hc hpath ho hp => ?refused, fun s c l auto hc ho hs => ?arm,
    fun s c l hc hon ha hp hs => ?auto, fun s c l hc _ h => ?noAuto, fun s c l done hc ho hs => ?abort,
    fun s c l done hc hon hs hd hp ha => ?whole, fun s c l done hc hon hs hd => ?short, fun s c l done hc _ hs => ?noDone,
    fun s done n hon hs hd hp ha hn hsize hok => ?rules⟩
  case go =>
    obtain ⟨hl, hx⟩ := exec_loaderGo (s := s) hc
    refine gives_access hx ho ?_
    rw [Dev.loaderGo_starts hp hs, (Dev.moves_loaderStart hl).under_eq]
    exact ⟨Dev.stat_loaderStart, Dev.loader_loaderStart, Dev.moves_loaderStart hl⟩
  case refused =>
    obtain ⟨hl, hx⟩ := exec_loaderGo (s := s) hc
    exact gives_access hx ho (loaderGo_recorded hl hpath hp)
  case arm =>
    refine gives_access (exec_loaderArm hc) ho ?_
    rw [Dev.loaderArm, if_neg hs]
    exact ⟨Dev.loader_setLoader, (Dev.keeps.set_look (Dev.keeps.refl s.dev)).under⟩
  case auto =>
    obtain ⟨hl, hx⟩ := exec_loaderAuto (s := s) hc
    refine gives_act hx hon ?_
    rw [Dev.loaderAuto_starts ha hp hs, (Dev.moves_loaderStart hl).under_eq]
    exact ⟨Dev.stat_loaderStart, Dev.loader_loaderStart, Dev.moves_loaderStart hl⟩
  case noAuto => exact idle_actSelf (exec_loaderAuto hc).2 (Dev.loaderAuto_idle h)
  case abort =>
    obtain ⟨hl, hx⟩ := exec_loaderAbort (s := s) hc
    refine gives_access hx ho ?_
    rw [(Dev.moves_loaderAbort hl hs).under_eq]
    exact ⟨Dev.stat_loaderAbort hl hs, Dev.moves_loaderAbort hl hs⟩
  case whole =>
    obtain ⟨hl, hx⟩ := exec_loaderDone (s := s) hc
    refine gives_act hx hon ?_
    rw [Dev.loaderDone_whole hl hs hd hp ha, (Dev.moves_loadEnded hl).under_eq]
    exact ⟨Dev.stat_loadEnded hl (by decide), Dev.raised_raise_eq _ _ hl.done_plain, Dev.moves_loadEnded hl⟩
  case short =>
    obtain ⟨hl, hx⟩ := exec_loaderDone (s := s) hc
    refine gives_act hx hon ?_
    rw [Dev.loaderDone_short hs hd, (Dev.moves_loadEnded hl).under_eq]
    exact ⟨Dev.stat_loadEnded hl (by decide), Dev.raised_raise_eq _ _ hl.fail_plain, Dev.moves_loadEnded hl⟩
  case noDone => exact idle_actSelf (exec_loaderDone hc).2 (Dev.loaderDone_idle hs)
  case rules =>
    have hl : bankLoader.known := .inr (.inl rfl)
    refine gives_act (f := fun d => d.loaderDone bankLoader done) rfl hon fun p hp4 hmask => ?_
    rw [Dev.loaderDone_whole hl hs hd hp ha, (Dev.moves_loadEnded hl).under_eq, Dev.ruleMem, Dev.look_loadEnded, ← Dev.ruleMem]
    exact Dev.ruleMem_loadEntries hn hp4 hmask hok hsize
end

section
set_option Elab.async false
/-! Task operations, signals, timers and the refill of the store (R262 to R269, R276, R277, R468). -/

namespace Sys2Proof.Machine
open Sys2Proof

theorem Thread.upd_setUpd (th : Thread) (n : Nat) : (th.setUpd n).sts % 256 = n % 256 := by
  have h := bitsOf_setBits_same th.sts 0 8 n
  rw [bitsOf_eq] at h
  simpa [setUpd] using h

theorem Thread.rg_setUpd (th : Thread) (n i : Nat) : (th.setUpd n).rg i = th.rg i := rfl

/-- A task that has become ready. -/
def Task.readied (t : Task) (now : Nat) : Task := { t with state := 1, since := now }

/-- A task whose condition holds, its flags consumed. -/
def Task.roused (t : Task) : Task :=
  { t with flags := t.flags &&& (0xFFFF ^^^ (t.flags &&& t.mask)), saved := t.saved.set 0 (t.flags &&& t.mask), woke := t.flags &&& t.mask }

/-- A task in a record of the store, with its id. -/
def Task.placed (t : Task) (uses i : Nat) : Task :=
  { t with gen := uses % 256, lastId := uses % 256 * 4096 + i, pos := none }

namespace Dev
variable {d e : Dev} {c i j k n p : Nat} {t u : Task}

/-! ### What the store, the ready lists, the rings and the threads hold -/

/-- The parts of the engines that tasks move through. -/
structure TaskView where
  tasks : SMap (Option Task)
  ready : SMap (List Nat)
  rings : SMap (List Task)
  threads : SMap Thread

def taskView (d : Dev) : TaskView := ⟨d.eng.tasks, d.eng.ready, d.eng.rings, d.eng.threads⟩

theorem task_congr (h : e.taskView = d.taskView) : e.task c i = d.task c i := congrArg (fun v => v.tasks.get none (c * 4096 + i)) h
theorem tasks_congr (h : e.taskView = d.taskView) : e.eng.tasks = d.eng.tasks := congrArg TaskView.tasks h
theorem readyOf_congr (h : e.taskView = d.taskView) : e.readyOf c p = d.readyOf c p := congrArg (fun v => v.ready.get [] (4 * c + p)) h
theorem ringOf_congr (h : e.taskView = d.taskView) : e.ringOf c p = d.ringOf c p := congrArg (fun v => v.rings.get [] (4 * c + p)) h
theorem thread_view (h : e.taskView = d.taskView) : e.thread k = d.thread k := congrArg (fun v => v.threads.get {} k) h
theorem taskView_of_eng (h : e.eng = d.eng) : e.taskView = d.taskView := by rw [taskView, h, taskView]

theorem taskView_ite {x y : Dev} {b : Prop} [Decidable b] (hx : x.taskView = d.taskView) (hy : y.taskView = d.taskView) :
    (if b then x else y).taskView = d.taskView := by
  split <;> assumption

theorem taskView_trace {r th id fl kd : Nat} : (d.trace c r th id fl kd).taskView = d.taskView := by
  unfold trace
  refine taskView_ite rfl (taskView_ite ?_ rfl)
  exact (taskView_of_eng ((raise_eng _ _).trans (bump_eng _ _ _ _))).trans rfl

theorem moves_trace {r th id fl kd : Nat} : d.moves (d.trace c r th id fl kd) [.eng] [0x32] := by
  unfold trace
  exact d.still.ite (d.still.set_eng.bump.raise.ite d.still.set_eng.setTraceQ)

theorem taskView_taskCnt : (d.taskCnt c n).taskView = d.taskView := rfl
theorem moves_taskCnt : d.moves (d.taskCnt c n) [] [0x32] := d.still.bump (r := TASK.CNT.ix n)
theorem taskView_setStage : (d.setStage k n).taskView = d.taskView := rfl
theorem taskView_groupDone {g after : Nat} : (d.groupDone k g after).taskView = d.taskView := rfl

theorem task_setTask_same {o : Option Task} : (d.setTask c i o).task c i = o := SMap.get_set_same _ _ _ _
theorem task_setReady {l : List Nat} : (d.setReady c p l).task n i = d.task n i := rfl
theorem readyOf_setReady_same {l : List Nat} : (d.setReady c p l).readyOf c p = l := SMap.get_set_same _ _ _ _
theorem readyOf_setReady_ne {l : List Nat} {q : Nat} (h : q ≠ p) : (d.setReady c p l).readyOf c q = d.readyOf c q :=
  SMap.get_set_ne _ _ _ _ (by omega)
theorem readyOf_setTask {o : Option Task} : (d.setTask c i o).readyOf n p = d.readyOf n p := rfl
theorem ringOf_setRing_same {l : List Task} : (d.setRing c p l).ringOf c p = l := SMap.get_set_same _ _ _ _

/-! ### Ready tasks -/

theorem makeReady_some (h : d.task c i = some t) : d.makeReady c i =
    (d.setTask c i (some (t.readied d.upUs))).setReady c t.prio (d.readyOf c t.prio ++ [i]) := by
  unfold makeReady
  rw [h]
  rfl

theorem task_makeReady (h : d.task c i = some t) : (d.makeReady c i).task c i = some (t.readied d.upUs) := by
  rw [makeReady_some h, task_setReady, task_setTask_same]
theorem readyOf_makeReady (h : d.task c i = some t) : (d.makeReady c i).readyOf c t.prio = d.readyOf c t.prio ++ [i] := by
  rw [makeReady_some h, readyOf_setReady_same]
theorem readyOf_makeReady_ne (h : d.task c i = some t) (hq : p ≠ t.prio) : (d.makeReady c i).readyOf c p = d.readyOf c p := by
  rw [makeReady_some h, readyOf_setReady_ne hq, readyOf_setTask]

theorem moves_makeReady : d.moves (d.makeReady c i) [.eng] [] := by
  unfold makeReady
  split
  · exact d.still.setTask.setReady
  · exact d.still

theorem moves_wakeTask : d.moves (d.wakeTask c i) [.eng] [0x32] := by
  unfold wakeTask
  split
  · exact d.still
  · dsimp only
    split
    · exact ((d.still.setTask.andThen moves_makeReady).andThen moves_taskCnt).andThen moves_trace
    · split
      · split
        · exact ((d.still.setTask.set_eng.andThen moves_taskCnt).andThen moves_trace).ite d.still
        · exact d.still
      · exact d.still

/-- A task that neither is blocked nor runs is not woken. -/
theorem wakeTask_other (h : d.task c i = some t) (h2 : t.state ≠ 2) (h3 : t.state ≠ 3) : d.wakeTask c i = d := by
  simp [wakeTask, h, h2, h3]

theorem wakeTask_blocked (h : d.task c i = some t) (h3 : t.state = 3) (hh : t.holds = false) : d.wakeTask c i = d := by
  simp [wakeTask, h, h3, hh]

theorem wakeTask_holds (h : d.task c i = some t) (h3 : t.state = 3) (hh : t.holds = true) : d.wakeTask c i =
    (((d.setTask c i (some t.roused)).makeReady c i).taskCnt c 4).trace c 3 0 (t.id i) (t.flags &&& t.mask) t.kind := by
  unfold wakeTask
  rw [h]
  exact if_pos (by simp [h3, hh])

theorem task_wakeTask_holds (h : d.task c i = some t) (h3 : t.state = 3) (hh : t.holds = true) :
    (d.wakeTask c i).task c i = some (t.roused.readied d.upUs) ∧ (d.wakeTask c i).readyOf c t.prio = d.readyOf c t.prio ++ [i] := by
  have hs : (d.setTask c i (some t.roused)).task c i = some t.roused := task_setTask_same
  have hv : (d.wakeTask c i).taskView = ((d.setTask c i (some t.roused)).makeReady c i).taskView := by
    rw [wakeTask_holds h h3 hh, taskView_trace, taskView_taskCnt]
  have hr := readyOf_makeReady hs
  rw [task_congr hv, readyOf_congr hv, task_makeReady hs]
  exact ⟨rfl, hr⟩

/-! ### Records of the store -/

/-- The free record that the next task takes. -/
def gapOf (d : Dev) (c : Nat) : Nat := firstGap 0 ((d.storeOf c).map fun p => (p.1, ()))

/-- A record taken. -/
def placedAt (d : Dev) (c i : Nat) (t : Task) : Dev :=
  { d with eng := { d.eng with gens := d.eng.gens.set 0 (c * 4096 + i) (d.eng.gens.get 0 (c * 4096 + i) + 1) } }.setTask c i
    (some (t.placed (d.eng.gens.get 0 (c * 4096 + i)) i))

theorem placeTask_eq : d.placeTask c t = (if t.state = 1 then (d.placedAt c (d.gapOf c) t).makeReady c (d.gapOf c) else d.placedAt c (d.gapOf c) t,
    d.gapOf c) := rfl

theorem task_placedAt : (d.placedAt c i t).task c i = some (t.placed (d.eng.gens.get 0 (c * 4096 + i)) i) := task_setTask_same
theorem readyOf_placedAt : (d.placedAt c i t).readyOf n p = d.readyOf n p := rfl
theorem ringOf_placedAt : (d.placedAt c i t).ringOf n p = d.ringOf n p := rfl
theorem thread_placedAt : (d.placedAt c i t).thread k = d.thread k := rfl
theorem moves_placedAt : d.moves (d.placedAt c i t) [.eng] [] := d.still.set_eng.setTask

theorem ringOf_makeReady : (d.makeReady c i).ringOf n p = d.ringOf n p := by
  unfold makeReady
  split <;> rfl
theorem thread_makeReady : (d.makeReady c i).thread k = d.thread k := by
  unfold makeReady
  split <;> rfl

theorem moves_placeTask : d.moves (d.placeTask c t).1 [.eng] [] := by
  rw [placeTask_eq]
  exact (moves_placedAt.andThen moves_makeReady).ite moves_placedAt

theorem ringOf_placeTask : (d.placeTask c t).1.ringOf n p = d.ringOf n p := by
  rw [placeTask_eq]
  dsimp only
  split
  · rw [ringOf_makeReady, ringOf_placedAt]
  · rfl

theorem thread_placeTask : (d.placeTask c t).1.thread k = d.thread k := by
  rw [placeTask_eq]
  dsimp only
  split
  · rw [thread_makeReady, thread_placedAt]
  · rfl

/-- A ready task placed is at the end of its list. -/
theorem placeTask_ready (h : t.state = 1) : ∃ v : Task, (d.placeTask c t).1.task c (d.placeTask c t).2 = some v ∧
    v = (t.placed (d.eng.gens.get 0 (c * 4096 + d.gapOf c)) (d.gapOf c)).readied d.upUs ∧
    (d.placeTask c t).1.readyOf c t.prio = d.readyOf c t.prio ++ [(d.placeTask c t).2] := by
  have hp := task_placedAt (d := d) (c := c) (i := d.gapOf c) (t := t)
  have hr := readyOf_makeReady hp
  rw [placeTask_eq, if_pos h]
  exact ⟨_, task_makeReady hp, rfl, hr⟩

theorem placeTask_waiting (h : t.state ≠ 1) : (d.placeTask c t).1.task c (d.placeTask c t).2 =
    some (t.placed (d.eng.gens.get 0 (c * 4096 + d.gapOf c)) (d.gapOf c)) := by
  rw [placeTask_eq, if_neg h]
  exact task_placedAt

/-! ### Spill (R267) -/

theorem moves_spillRows_write : d.moves (d.spillRows c n Dev.rowWrite) [.draws, .mem] [0x50] := moves_rowWrite.andThen moves_rowWrite
theorem moves_spillRows_fetch : d.moves (d.spillRows c n Dev.rowFetch) [.draws, .mem] [0x50] := moves_rowFetch.andThen moves_rowFetch

/-- A record of the spill area taken at the tail of a ring. -/
def spillTaken (d : Dev) (c p : Nat) (pos : Option Nat) : Dev :=
  match pos with
  | some n => { d with eng := { d.eng with tails := d.eng.tails.set 0 (4 * c + p) ((n + 1) % 131072) } }.spillRows c n Dev.rowWrite
  | none => d

theorem spill_eq : ∃ pos, d.spill c t = (((d.spillTaken c t.prio pos).setRing c t.prio ((d.spillTaken c t.prio pos).ringOf c t.prio ++
    [{ t with pos := pos }])).taskCnt c 5).trace c 4 0 noId t.flags t.kind := by
  refine ⟨if d.ringFree c t.prio then d.ringTail c t.prio else none, ?_⟩
  unfold spill spillTaken
  rfl

variable {pos : Option Nat}

theorem moves_spillTaken : d.moves (d.spillTaken c p pos) [.draws, .mem, .eng] [0x50] := by
  cases pos with
  | none => exact d.still
  | some n => exact d.still.set_eng.andThen moves_spillRows_write

theorem taskView_spillTaken : (d.spillTaken c p pos).taskView = d.taskView := by
  cases pos with
  | none => rfl
  | some n =>
    have h (x : Engines) : ({ d with eng := x }.spillRows c n Dev.rowWrite).eng = x := moves_spillRows_write.keeps_eng
    exact (congrArg (fun x : Engines => (⟨x.tasks, x.ready, x.rings, x.threads⟩ : TaskView)) (h _)).trans rfl

theorem moves_spill : d.moves (d.spill c t) [.draws, .mem, .eng] [0x32, 0x50] := by
  obtain ⟨pos, hx⟩ := spill_eq (d := d) (c := c) (t := t)
  rw [hx]
  exact ((d.still.andThen moves_spillTaken).setRing.andThen moves_taskCnt).andThen moves_trace

theorem ringOf_spill : ∃ u, (d.spill c t).ringOf c t.prio = d.ringOf c t.prio ++ [u] := by
  obtain ⟨pos, hx⟩ := spill_eq (d := d) (c := c) (t := t)
  refine ⟨{ t with pos := pos }, ?_⟩
  rw [hx, ringOf_congr taskView_trace, ringOf_congr taskView_taskCnt, ringOf_setRing_same, ringOf_congr taskView_spillTaken]

theorem thread_setRing {l : List Task} : (d.setRing c p l).thread k = d.thread k := rfl

theorem thread_spill : (d.spill c t).thread k = d.thread k := by
  obtain ⟨pos, hx⟩ := spill_eq (d := d) (c := c) (t := t)
  rw [hx, thread_view taskView_trace, thread_view taskView_taskCnt, thread_setRing, thread_view taskView_spillTaken]

/-! ### A task is created (R262, R263) -/

theorem moves_tagUnit : d.moves d.tagUnit.1 [.draws] [] := by
  unfold tagUnit
  have hd : d.moves d.drawn [.draws] [] := d.still.drawn
  split
  · split
    · exact hd.set_obs
    · exact hd
  · exact d.still

theorem eng_tagUnit : d.tagUnit.1.eng = d.eng := moves_tagUnit.keeps_eng
theorem taskView_tagUnit : d.tagUnit.1.taskView = d.taskView := taskView_of_eng eng_tagUnit

theorem placeable_of (he : e.eng = d.eng) (hr : e.num TASK.RESERVE = d.num TASK.RESERVE) : e.placeable c p = d.placeable c p := by
  unfold placeable storeFree storeUsed storeOf ringOf
  rw [he, hr]

theorem placeable_tagUnit : d.tagUnit.1.placeable c p = d.placeable c p := placeable_of eng_tagUnit (moves_tagUnit.num _ 0 rfl rfl)
theorem placeable_taskCnt : (d.taskCnt c 0).placeable c p = d.placeable c p := placeable_of rfl (num_bump_apart _ _ _ _ _ _ rfl)
theorem placeable_groupDone {g after : Nat} : (d.groupDone k g after).placeable c p = d.placeable c p := rfl

/-- The id of a task that has been placed. -/
def placedId (x : Dev × Nat) (c : Nat) : Nat := match x.1.task c x.2 with | some v => v.id x.2 | none => noId

theorem admitTask_placed (h : d.placeable c t.prio = true) :
    d.admitTask c t = (((d.taskCnt c 0).placeTask c t).1, 0, placedId ((d.taskCnt c 0).placeTask c t) c) := by
  unfold admitTask
  dsimp only
  rw [if_pos (placeable_taskCnt.trans h)]
  rfl

theorem admitTask_spilled (h : d.placeable c t.prio = false) : d.admitTask c t = ((d.taskCnt c 0).spill c t, 4, noId) := by
  unfold admitTask
  dsimp only
  rw [if_neg (by rw [placeable_taskCnt, h]; decide)]

/-- A new task with the tag of its instant. -/
def taggedTask (d : Dev) (t : Task) : Task := { t with tag := d.tagUnit.2 }

theorem createTask_eq {m : Bool} : d.createTask c t m =
    if d.tagUnit.1.placeable c t.prio || d.tagUnit.1.ringFree c t.prio then d.tagUnit.1.admitTask c (d.taggedTask t)
    else if m then ((d.tagUnit.1.setWants c t.prio (d.tagUnit.1.wantsOf c t.prio ++ [d.taggedTask t])).raise TASK.int_SPILL_FULL, 2, noId)
    else ((d.tagUnit.1.taskCnt c 8).raise TASK.int_SPILL_FULL, 2, noId) := rfl

theorem createTask_placed {m : Bool} (h : d.placeable c t.prio = true) : d.createTask c t m =
    (((d.tagUnit.1.taskCnt c 0).placeTask c (d.taggedTask t)).1, 0, placedId ((d.tagUnit.1.taskCnt c 0).placeTask c (d.taggedTask t)) c) := by
  have hp : d.tagUnit.1.placeable c (d.taggedTask t).prio = true := placeable_tagUnit.trans h
  rw [createTask_eq, if_pos (by rw [placeable_tagUnit, h, Bool.true_or]), admitTask_placed hp]

theorem ringFree_of (he : e.eng = d.eng) (hm : ∀ m, e.retired m = d.retired m) : e.ringFree c p = d.ringFree c p := by
  unfold ringFree ringRoom ringOf
  simp only [he, hm]

theorem retired_of_num (hl : e.num MEMC.RETIRED_LO = d.num MEMC.RETIRED_LO) (hh : e.num MEMC.RETIRED_HI = d.num MEMC.RETIRED_HI) (m : Nat) :
    e.retired m = d.retired m := by
  unfold retired
  rw [hl, hh]

theorem ringFree_tagUnit : d.tagUnit.1.ringFree c p = d.ringFree c p :=
  ringFree_of eng_tagUnit (retired_of_num (moves_tagUnit.num _ 0 rfl rfl) (moves_tagUnit.num _ 0 rfl rfl))

theorem createTask_spilled {m : Bool} (h : d.placeable c t.prio = false) (hr : d.ringFree c t.prio = true) :
    d.createTask c t m = ((d.tagUnit.1.taskCnt c 0).spill c (d.taggedTask t), 4, noId) := by
  have hp : d.tagUnit.1.placeable c (d.taggedTask t).prio = false := placeable_tagUnit.trans h
  rw [createTask_eq, if_pos (by rw [ringFree_tagUnit, hr, Bool.or_true]), admitTask_spilled hp]

theorem createTask_full (h : d.placeable c t.prio = false) (hr : d.ringFree c t.prio = false) :
    d.createTask c t false = ((d.tagUnit.1.taskCnt c 8).raise TASK.int_SPILL_FULL, 2, noId) := by
  rw [createTask_eq, if_neg (by rw [placeable_tagUnit, h, ringFree_tagUnit, hr]; decide), if_neg (by decide)]

end Dev
end Sys2Proof.Machine
end

section
set_option Elab.async false
/-! What T_CREATE leaves (R262, R263). -/

namespace Sys2Proof.Machine
open Sys2Proof

namespace Dev
variable {d e : Dev} {c i j k n p imm spad dst : Nat} {t u : Task}

theorem task_updThread {f : Thread → Thread} : (d.updThread k f).task c i = d.task c i := rfl
theorem readyOf_updThread {f : Thread → Thread} : (d.updThread k f).readyOf c i = d.readyOf c i := rfl
theorem ringOf_updThread {f : Thread → Thread} : (d.updThread k f).ringOf c i = d.ringOf c i := rfl

/-- The priority that an immediate of T_CREATE gives. -/
def immPrio (d : Dev) (imm : Nat) : Nat := if bitOf imm 6 then bitsOf imm 4 2 else d.kindPrio (imm % 16)

/-- The task that an immediate of T_CREATE names. -/
def askedTask (d : Dev) (k imm spad : Nat) : Task :=
  d.newTask (imm % 16) (d.immPrio imm) (d.argsFor k (if bitOf imm 7 then some spad else none))

theorem tCreate_bad (h : imm % 16 < 5 ∨ d.entryOk d.cgen (imm % 16) = false) :
    d.tCreate k imm spad dst = d.updThread k fun th => th.setUpd 3 := by
  unfold tCreate
  exact if_pos (by simpa using h)

theorem tCreate_eq (h5 : 5 ≤ imm % 16) (he : d.entryOk d.cgen (imm % 16) = true) : d.tCreate k imm spad dst =
    (d.createTask (thrFrond k) (d.askedTask k imm spad) false).1.updThread k fun th =>
      (th.wg dst (d.createTask (thrFrond k) (d.askedTask k imm spad) false).2.2).setUpd
        (d.createTask (thrFrond k) (d.askedTask k imm spad) false).2.1 := by
  unfold tCreate
  exact if_neg (by simp [he]; omega)

/-- A task that is created is in the store, ready, or is spilled, or is refused. -/
theorem tCreate_placed (h5 : 5 ≤ imm % 16) (he : d.entryOk d.cgen (imm % 16) = true) (hp : d.placeable (thrFrond k) (d.immPrio imm) = true) :
    ∃ (x : Dev) (j : Nat) (v : Task), d.tCreate k imm spad dst = x.updThread k (fun th => (th.wg dst (v.id j)).setUpd 0) ∧
      x.task (thrFrond k) j = some v ∧ v.kind = imm % 16 ∧ v.state = 1 ∧ v.prio = d.immPrio imm ∧
      v.args = d.argsFor k (if bitOf imm 7 then some spad else none) ∧ v.epoch = d.num (COMMIT 0) % 65536 ∧
      x.readyOf (thrFrond k) (d.immPrio imm) = d.readyOf (thrFrond k) (d.immPrio imm) ++ [j] ∧ d.moves x [.draws, .eng] [0x32] := by
  have hs : (d.taggedTask (d.askedTask k imm spad)).state = 1 := rfl
  obtain ⟨v, hv, he', hr⟩ := placeTask_ready (d := d.tagUnit.1.taskCnt (thrFrond k) 0) (c := thrFrond k) hs
  have hc := createTask_placed (m := false) (t := d.askedTask k imm spad) hp
  refine ⟨_, _, v, ?_, hv, ?_, ?_, ?_, ?_, ?_, ?_, ?_⟩
  · rw [tCreate_eq h5 he, hc, placedId, hv]
  · rw [he']; rfl
  · rw [he']; rfl
  · rw [he']; rfl
  · rw [he']; rfl
  · rw [he']; rfl
  · refine hr.trans ?_
    rw [readyOf_congr taskView_taskCnt, readyOf_congr taskView_tagUnit]
    rfl
  · exact ((d.still.andThen moves_tagUnit).andThen moves_taskCnt).andThen moves_placeTask

/-- A task that finds its ring with room, or full. -/
theorem tCreate_spilled (h5 : 5 ≤ imm % 16) (he : d.entryOk d.cgen (imm % 16) = true) (hp : d.placeable (thrFrond k) (d.immPrio imm) = false)
    (hr : d.ringFree (thrFrond k) (d.immPrio imm) = true) :
    ∃ x : Dev, d.tCreate k imm spad dst = x.updThread k (fun th => (th.wg dst noId).setUpd 4) ∧
      (∃ u, x.ringOf (thrFrond k) (d.immPrio imm) = d.ringOf (thrFrond k) (d.immPrio imm) ++ [u]) ∧
      d.moves x [.draws, .mem, .eng] [0x32, 0x50] := by
  have hc := createTask_spilled (m := false) (t := d.askedTask k imm spad) hp hr
  obtain ⟨u, hu⟩ := ringOf_spill (d := d.tagUnit.1.taskCnt (thrFrond k) 0) (c := thrFrond k) (t := d.taggedTask (d.askedTask k imm spad))
  refine ⟨_, by rw [tCreate_eq h5 he, hc], ⟨u, hu.trans ?_⟩, ?_⟩
  · rw [ringOf_congr taskView_taskCnt, ringOf_congr taskView_tagUnit]
    rfl
  · exact ((d.still.andThen moves_tagUnit).andThen moves_taskCnt).andThen moves_spill

theorem tCreate_full (h5 : 5 ≤ imm % 16) (he : d.entryOk d.cgen (imm % 16) = true) (hp : d.placeable (thrFrond k) (d.immPrio imm) = false)
    (hr : d.ringFree (thrFrond k) (d.immPrio imm) = false) :
    ∃ x : Dev, d.tCreate k imm spad dst = x.updThread k (fun th => (th.wg dst noId).setUpd 2) ∧
      x.ringOf (thrFrond k) (d.immPrio imm) = d.ringOf (thrFrond k) (d.immPrio imm) ∧ x.raised TASK.int_SPILL_FULL = true ∧
      d.moves x [.draws, .mem, .eng] [0x32, 0x50] := by
  have hc := createTask_full (t := d.askedTask k imm spad) hp hr
  refine ⟨(d.tagUnit.1.taskCnt (thrFrond k) 8).raise TASK.int_SPILL_FULL, by rw [tCreate_eq h5 he, hc], ?_, raised_raise_eq _ _ rfl, ?_⟩
  · rw [ringOf_congr (taskView_of_eng (raise_eng _ _)), ringOf_congr taskView_taskCnt, ringOf_congr taskView_tagUnit]
  · exact ((d.still.andThen moves_tagUnit).andThen moves_taskCnt).raise

end Dev

variable {s : State} {frond thread k n imm spad dst i p : Nat} {t : Task}

theorem Dev.moves_doneThen {d x : Dev} {g k j : Nat} {f : Thread → Thread} {P : List Part} {G : List Nat} (hm : (d.groupDone k g 3).moves x P G)
    (hp : P.contains .eng = true := by rfl) : d.moves (x.updThread j f) P G := by
  have hd : d.moves (d.groupDone k g 3) P G := d.still.set_eng hp
  exact (hd.trans hm).updThread hp

theorem gives_tCreate_placed (hon : s.Awake) (hk : k = thrKey frond thread) (hi : imm = s.dev.immAt k n) (ha : s.dev.acts k 4 3 i t)
    (h5 : 5 ≤ imm % 16) (he : s.dev.entryOk s.dev.cgen (imm % 16) = true) (hp : s.dev.placeable (frond % 8) (s.dev.immPrio imm) = true) :
    Gives (.tCreate frond thread n spad dst) s fun d => (∃ (j : Nat) (u : Task), d.task (frond % 8) j = some u ∧
        u.kind = imm % 16 ∧ u.state = 1 ∧ u.prio = s.dev.immPrio imm ∧
        u.args = s.dev.argsFor k (if bitOf imm 7 then some spad else none) ∧ u.epoch = s.dev.num (COMMIT 0) % 65536 ∧
        d.readyOf (frond % 8) u.prio = s.dev.readyOf (frond % 8) u.prio ++ [j] ∧
        (dst % 32 ≠ 0 → (d.thread k).rg dst = u.id j % 2 ^ 32)) ∧
      (d.thread k).sts % 256 = 0 ∧ s.dev.moves d [.draws, .eng] [0x32] := by
  subst hk
  refine gives_onLast rfl hon ha ?_
  have hf := thrFrond_thrKey frond thread
  obtain ⟨x, j, v, hx, ht, hkind, hstate, hprio, hargs, hepoch, hready, hm⟩ :=
    Dev.tCreate_placed (d := s.dev.groupDone (thrKey frond thread) 4 3) (k := thrKey frond thread) (spad := spad) (dst := dst) h5 he
      (by rw [hf]; exact hp)
  have hi' : (s.dev.groupDone (thrKey frond thread) 4 3).immAt (thrKey frond thread) n = imm := hi.symm
  have hm' : s.dev.moves (x.updThread (thrKey frond thread) fun th => (th.wg dst (v.id j)).setUpd 0) [.draws, .eng] [0x32] :=
    Dev.moves_doneThen hm
  rw [hf] at ht hready
  rw [hi', hx, hm'.under_eq]
  refine ⟨⟨j, v, ht, hkind, hstate, hprio, hargs, hepoch, ?_, fun hd => ?_⟩, ?_, hm'⟩
  · rw [hprio]
    exact hready
  · rw [Dev.thread_updThread_same, Thread.rg_setUpd, Thread.rg_wg_same _ _ hd]
  · rw [Dev.thread_updThread_same, Thread.upd_setUpd]

theorem gives_tCreate_refused (hon : s.Awake) (hk : k = thrKey frond thread) (hi : imm = s.dev.immAt k n) (ha : s.dev.acts k 4 3 i t)
    (h5 : 5 ≤ imm % 16) (he : s.dev.entryOk s.dev.cgen (imm % 16) = true) (hpr : p = s.dev.immPrio imm)
    (hp : s.dev.placeable (frond % 8) p = false) :
    Gives (.tCreate frond thread n spad dst) s fun d =>
      ((s.dev.ringOf (frond % 8) p).length < s.dev.ringRoom (frond % 8) p → (d.thread k).sts % 256 = 4 ∧
        (d.ringOf (frond % 8) p).length = (s.dev.ringOf (frond % 8) p).length + 1) ∧
      (s.dev.ringRoom (frond % 8) p ≤ (s.dev.ringOf (frond % 8) p).length → (d.thread k).sts % 256 = 2 ∧
        d.ringOf (frond % 8) p = s.dev.ringOf (frond % 8) p ∧ d.raised TASK.int_SPILL_FULL = true) ∧
      (dst % 32 ≠ 0 → (d.thread k).rg dst = 0xFFFFF) ∧ s.dev.moves d [.draws, .mem, .eng] [0x32, 0x50] := by
  subst hk hpr
  have hf := thrFrond_thrKey frond thread
  have hi' : (s.dev.groupDone (thrKey frond thread) 4 3).immAt (thrKey frond thread) n = imm := hi.symm
  have hp' : (s.dev.groupDone (thrKey frond thread) 4 3).placeable (thrFrond (thrKey frond thread))
      ((s.dev.groupDone (thrKey frond thread) 4 3).immPrio imm) = false := by rw [hf]; exact hp
  refine gives_onLast rfl hon ha ?_
  rw [hi']
  by_cases hr : (s.dev.ringOf (frond % 8) (s.dev.immPrio imm)).length < s.dev.ringRoom (frond % 8) (s.dev.immPrio imm)
  · obtain ⟨x, hx, ⟨u, hu⟩, hm⟩ := Dev.tCreate_spilled (d := s.dev.groupDone (thrKey frond thread) 4 3) (spad := spad) (dst := dst) h5 he hp' (by rw [hf]; exact decide_eq_true hr)
    have hm' := Dev.moves_doneThen hm (j := thrKey frond thread) (f := fun th => (th.wg dst noId).setUpd 4)
    rw [hf] at hu
    rw [hx, hm'.under_eq]
    refine ⟨fun _ => ⟨?_, ?_⟩, fun hle => absurd hr (by omega), fun hd => ?_, hm'⟩
    · rw [Dev.thread_updThread_same, Thread.upd_setUpd]
    · exact (congrArg List.length hu).trans (by rw [List.length_append]; rfl)
    · rw [Dev.thread_updThread_same, Thread.rg_setUpd, Thread.rg_wg_same _ _ hd]
      rfl
  · obtain ⟨x, hx, hu, hrs, hm⟩ := Dev.tCreate_full (d := s.dev.groupDone (thrKey frond thread) 4 3) (spad := spad) (dst := dst) h5 he hp' (by rw [hf]; exact decide_eq_false hr)
    have hm' := Dev.moves_doneThen hm (j := thrKey frond thread) (f := fun th => (th.wg dst noId).setUpd 2)
    rw [hf] at hu
    rw [hx, hm'.under_eq]
    refine ⟨fun hlt => absurd hlt hr, fun _ => ⟨?_, hu, hrs⟩, fun hd => ?_, hm'⟩
    · rw [Dev.thread_updThread_same, Thread.upd_setUpd]
    · rw [Dev.thread_updThread_same, Thread.rg_setUpd, Thread.rg_wg_same _ _ hd]
      rfl

theorem gives_tCreate_bad (hon : s.Awake) (hi : imm = s.dev.immAt (thrKey frond thread) n) (ha : s.dev.acts (thrKey frond thread) 4 3 i t)
    (hb : imm % 16 < 5 ∨ s.dev.entryOk s.dev.cgen (imm % 16) = false) :
    Gives (.tCreate frond thread n spad dst) s fun d =>
      d.thread (thrKey frond thread) = (s.dev.thread (thrKey frond thread)).setUpd 3 ∧ s.dev.keeps d [.eng] := by
  have hi' : (s.dev.groupDone (thrKey frond thread) 4 3).immAt (thrKey frond thread) n = imm := hi.symm
  have hb' : imm % 16 < 5 ∨ (s.dev.groupDone (thrKey frond thread) 4 3).entryOk (s.dev.groupDone (thrKey frond thread) 4 3).cgen (imm % 16) =
      false := hb
  have hk : s.dev.keeps ((s.dev.groupDone (thrKey frond thread) 4 3).updThread (thrKey frond thread) fun th => th.setUpd 3) [.eng] :=
    Dev.keeps_setThread_groupDone
  refine gives_onLast rfl hon ha ?_
  rw [hi', Dev.tCreate_bad hb', hk.under_eq]
  exact ⟨Dev.thread_updThread_same _ _ _, hk⟩

end Sys2Proof.Machine
end

section
set_option Elab.async false
/-! Signals, masks and timers of tasks (R263, R264, R268, R276, R277). -/

namespace Sys2Proof.Machine
open Sys2Proof

/-- A task with more flags. -/
def Task.flagged (t : Task) (f : Nat) : Task := { t with flags := t.flags ||| f % 65536 }

namespace Dev
variable {d e d0 : Dev} {c i j k n p f id : Nat} {t u : Task}

theorem readyOf_setTask_eq {o : Option Task} : (d.setTask c i o).readyOf n p = d.readyOf n p := rfl

theorem signal_some (h : d.taskById c id = some (j, u)) : d.signal c id f = (d.setTask c j (some (u.flagged f))).wakeTask c j := by
  unfold signal
  rw [h]
  rfl

theorem signal_none (h : d.taskById c id = none) : d.signal c id f = d.taskCnt c 9 := by
  unfold signal
  rw [h]

theorem signal_mod : d.signal c id (f % 65536) = d.signal c id f := by
  unfold signal
  rw [Nat.mod_mod]

theorem moves_signal_some (h : d.taskById c id = some (j, u)) : d.moves (d.signal c id f) [.eng] [0x32] := by
  rw [signal_some h]
  exact d.still.setTask.andThen moves_wakeTask

/-- What a signal leaves of a task that neither is blocked nor runs, and of a blocked one. -/
theorem signal_effect (h : d.taskById c id = some (j, u)) :
    (u.state ≠ 2 → u.state ≠ 3 → (d.signal c id f).task c j = some (u.flagged f) ∧ d.keeps (d.signal c id f) [.eng]) ∧
    (u.state = 3 → (u.flagged f).holds = false → (d.signal c id f).task c j = some (u.flagged f)) ∧
    (u.state = 3 → (u.flagged f).holds = true → (d.signal c id f).task c j = some ((u.flagged f).roused.readied d.upUs) ∧
      (d.signal c id f).readyOf c u.prio = d.readyOf c u.prio ++ [j]) := by
  have hs : (d.setTask c j (some (u.flagged f))).task c j = some (u.flagged f) := task_setTask_same
  rw [signal_some h]
  refine ⟨fun h2 h3 => ?_, fun h3 hh => ?_, fun h3 hh => ?_⟩
  · rw [wakeTask_other hs h2 h3]
    exact ⟨hs, (keeps.refl d).set_eng⟩
  · rw [wakeTask_blocked hs h3 hh]
    exact hs
  · obtain ⟨ht, hr⟩ := task_wakeTask_holds hs h3 hh
    exact ⟨ht, hr⟩

theorem moves_tTimerDone {o : Option Task} : d.keeps ((d.setTask c i o).freed) [.frees, .eng] := ((keeps.refl d).set_eng).freed

/-! ### Timed tasks -/

/-- A timed task of kind 4. -/
def timedTask (d : Dev) (k : Nat) (spad : Option Nat) (due : Nat) : Task :=
  { d.newTask 4 (d.kindPrio 4) (d.argsFor k spad) with state := 4, deadline := due, tag := d.freed.tagUnit.2 }

variable {r : Nat} {spad : Option Nat}

theorem tTimerTask_full (h : d.storeFree (thrFrond k) ≤ d.num TASK.RESERVE) :
    d.tTimerTask k r spad = ((d.taskCnt (thrFrond k) 10).raise TASK.int_TIMER_FULL).updThread k fun th => th.setUpd 2 := by
  unfold tTimerTask
  exact if_pos (.inl h)

theorem tTimerTask_placed (h : d.num TASK.RESERVE < d.storeFree (thrFrond k)) (he : d.entryOk d.cgen 4 = true) : d.tTimerTask k r spad =
    ((d.freed.tagUnit.1.taskCnt (thrFrond k) 0).placeTask (thrFrond k) (d.timedTask k spad (d.upUs + d.delayOf ((d.thread k).rg r)))).1.updThread k
      fun th => th.setUpd 0 := by
  unfold tTimerTask
  exact if_neg (by rw [he]; simp; omega)

theorem upUs_groupDone {g after : Nat} : (d.groupDone k g after).upUs = d.upUs := rfl

theorem delayOf_short (h : n < 2 ^ 24) : d.delayOf n = n := if_pos h

theorem moves_timed : d.moves ((d.freed.tagUnit.1.taskCnt c 0).placeTask c t).1 [.draws, .frees, .eng] [0x32] :=
  (((d.still.andThen moves_freed).andThen moves_tagUnit).andThen moves_taskCnt).andThen moves_placeTask

theorem moves_timerFull : d.moves ((d.taskCnt c 10).raise TASK.int_TIMER_FULL) [] [0x32] := (d.still.andThen moves_taskCnt).raise

theorem timedTask_waits : (d.timedTask k spad n).state ≠ 1 := by
  show (4 : Nat) ≠ 1
  decide

end Dev

variable {s : State} {x : Instr} {frond thread i j n imm idReg id r c k dst : Nat} {t u : Task} {spad : Option Nat}

/-- A signal of a thread or of the host does to the tasks what `signal` does to a device with the same tasks. -/
theorem gives_signal {p : Dev → Prop} (hon : s.Awake)
    (hx : (x = .tSignal frond thread n idReg ∧ imm = s.dev.immAt (thrKey frond thread) n ∧ s.dev.acts (thrKey frond thread) 4 3 i t ∧
        id = (s.dev.thread (thrKey frond thread)).rg idReg % 2 ^ 20) ∨
      (x = .sigFlags frond imm ∧ s.dev.pageOpen 0x32 = true ∧ s.dev.enabled 0x32 = true ∧ id = s.dev.num TASK.SIG_ID (frond % 8) % 2 ^ 20))
    (hp : ∀ w : Dev, (w = s.dev ∨ w = s.dev.groupDone (thrKey frond thread) 4 3) → p (s.dev.under (w.signal (frond % 8) id imm))) :
    Gives x s p := by
  rcases hx with ⟨rfl, hi, ha, rfl⟩ | ⟨rfl, ho, he, rfl⟩
  · refine gives_onLast rfl hon ha ?_
    have hi' : (s.dev.groupDone (thrKey frond thread) 4 3).immAt (thrKey frond thread) n = imm := hi.symm
    rw [hi', Dev.signal_mod]
    exact hp _ (.inr rfl)
  · refine gives_access rfl ⟨hon.1, ho⟩ ?_
    have hs : s.dev.hostSignal (frond % 8) imm = s.dev.signal (frond % 8) (s.dev.num TASK.SIG_ID (frond % 8) % 2 ^ 20) imm := if_pos he
    rw [hs]
    exact hp _ (.inl rfl)

theorem gives_signalled (hon : s.Awake)
    (hx : (x = .tSignal frond thread n idReg ∧ imm = s.dev.immAt (thrKey frond thread) n ∧ s.dev.acts (thrKey frond thread) 4 3 i t ∧
        id = (s.dev.thread (thrKey frond thread)).rg idReg % 2 ^ 20) ∨
      (x = .sigFlags frond imm ∧ s.dev.pageOpen 0x32 = true ∧ s.dev.enabled 0x32 = true ∧ id = s.dev.num TASK.SIG_ID (frond % 8) % 2 ^ 20))
    (hb : s.dev.taskById (frond % 8) id = some (j, u)) :
    Gives x s fun d => (u.state ≠ 2 → u.state ≠ 3 →
        d.task (frond % 8) j = some { u with flags := u.flags ||| imm % 65536 } ∧ s.dev.keeps d [.eng]) ∧
      (u.state = 3 → Task.holds { u with flags := u.flags ||| imm % 65536 } = false →
        d.task (frond % 8) j = some { u with flags := u.flags ||| imm % 65536 }) ∧
      (u.state = 3 → Task.holds { u with flags := u.flags ||| imm % 65536 } = true → (∃ v, d.task (frond % 8) j = some v ∧ v.state = 1 ∧
        v.saved = u.saved.set 0 ((u.flags ||| imm % 65536) &&& u.mask) ∧
        v.flags = ((u.flags ||| imm % 65536) &&& (0xFFFF ^^^ ((u.flags ||| imm % 65536) &&& u.mask)))) ∧
        d.readyOf (frond % 8) u.prio = s.dev.readyOf (frond % 8) u.prio ++ [j]) ∧ s.dev.moves d [.eng] [0x32] := by
  refine gives_signal hon hx fun w hw => ?_
  have hk : s.dev.keeps w [.eng] := by rcases hw with rfl | rfl; exacts [Dev.keeps.refl _, Dev.keeps_groupDone]
  have hm0 : s.dev.moves w [.eng] [0x32] := by rcases hw with rfl | rfl; exacts [Dev.still _, Dev.still _ |>.set_eng]
  have hv : w.taskView = s.dev.taskView := by rcases hw with rfl | rfl <;> rfl
  have hb' : w.taskById (frond % 8) id = some (j, u) := by
    refine Eq.trans ?_ hb
    unfold Dev.taskById
    rw [Dev.task_congr hv]
  have hm : s.dev.moves (w.signal (frond % 8) id imm) [.eng] [0x32] := hm0.andThen (Dev.moves_signal_some hb')
  obtain ⟨hother, hblocked, hwoken⟩ := Dev.signal_effect (f := imm) hb'
  rw [hm.under_eq]
  refine ⟨fun h2 h3 => ?_, hblocked, fun h3 hh => ?_, hm⟩
  · obtain ⟨ht, hk'⟩ := hother h2 h3
    exact ⟨ht, hk.trans hk'⟩
  · obtain ⟨ht, hr⟩ := hwoken h3 hh
    rw [Dev.readyOf_congr hv] at hr
    exact ⟨⟨_, ht, rfl, rfl, rfl⟩, hr⟩

theorem gives_signalStale (hon : s.Awake)
    (hx : (x = .tSignal frond thread n idReg ∧ imm = s.dev.immAt (thrKey frond thread) n ∧ s.dev.acts (thrKey frond thread) 4 3 i t ∧
        id = (s.dev.thread (thrKey frond thread)).rg idReg % 2 ^ 20) ∨
      (x = .sigFlags frond imm ∧ s.dev.pageOpen 0x32 = true ∧ s.dev.enabled 0x32 = true ∧ id = s.dev.num TASK.SIG_ID (frond % 8) % 2 ^ 20))
    (hb : s.dev.taskById (frond % 8) id = none) :
    Gives x s fun d => d.num (TASK.CNT.ix 9) (frond % 8) = (s.dev.num (TASK.CNT.ix 9) (frond % 8) + 1) % 2 ^ 32 ∧
      s.dev.keeps d [.regs, .eng] := by
  refine gives_signal hon hx fun w hw => ?_
  have hk : s.dev.keeps w [.regs, .eng] := by rcases hw with rfl | rfl; exacts [Dev.keeps.refl _, (Dev.keeps.refl _).set_eng]
  have hv : w.taskView = s.dev.taskView := by rcases hw with rfl | rfl <;> rfl
  have hn : w.num (TASK.CNT.ix 9) (frond % 8) = s.dev.num (TASK.CNT.ix 9) (frond % 8) := by rcases hw with rfl | rfl <;> rfl
  have hb' : w.taskById (frond % 8) id = none := by
    refine Eq.trans ?_ hb
    unfold Dev.taskById
    rw [Dev.task_congr hv]
  have hk' : s.dev.keeps (w.taskCnt (frond % 8) 9) [.regs, .eng] := hk.setReg
  rw [Dev.signal_none hb', hk'.under_eq]
  refine ⟨?_, hk'⟩
  rw [Dev.taskCnt, Dev.num_bump_eq, hn]

theorem gives_tMask {all : Bool} (hon : s.Awake) (ha : s.dev.acts (thrKey frond thread) 4 3 i t) :
    Gives (.tMask frond thread imm all) s fun d =>
      d.task (frond % 8) i = some { t with mask := s.dev.immAt (thrKey frond thread) imm % 65536, all := all } ∧ s.dev.keeps d [.eng] := by
  refine gives_onLast rfl hon ha ?_
  have hk {o : Option Task} : s.dev.keeps ((s.dev.groupDone (thrKey frond thread) 4 3).setTask (frond % 8) i o) [.eng] :=
    Dev.keeps_groupDone.set_eng
  rw [hk.under_eq]
  exact ⟨Dev.task_setTask_same, hk⟩

theorem gives_tTimer (hon : s.Awake) (ha : s.dev.acts (thrKey frond thread) 4 3 i t)
    (hn : n = (s.dev.thread (thrKey frond thread)).rg r) (hlt : n < 2 ^ 24) :
    Gives (.tTimer frond thread r) s fun d => d.task (frond % 8) i =
        some { t with armed := decide (n ≠ 0), deadline := s.dev.upUs + n } ∧ s.dev.keeps d [.frees, .eng] := by
  subst hn
  refine gives_onLast rfl hon ha ?_
  have hk {o : Option Task} : s.dev.keeps ((s.dev.groupDone (thrKey frond thread) 4 3).setTask (frond % 8) i o).freed [.frees, .eng] :=
    (Dev.keeps.trans (Dev.keeps_groupDone.weaken) Dev.moves_tTimerDone)
  rw [hk.under_eq]
  refine ⟨?_, hk⟩
  rw [Dev.delayOf_short hlt]
  exact Dev.task_setTask_same

theorem gives_timed (hon : s.Awake) (ha : s.dev.acts (thrKey frond thread) 4 3 i t)
    (hn : n = (s.dev.thread (thrKey frond thread)).rg r) (hlt : n < 2 ^ 24)
    (hs : s.dev.num TASK.RESERVE < s.dev.storeFree (frond % 8)) (he : s.dev.entryOk s.dev.cgen 4 = true) :
    Gives (.tTimertask frond thread r spad) s fun d => (∃ (j : Nat) (u : Task), d.task (frond % 8) j = some u ∧ u.kind = 4 ∧
        u.state = 4 ∧ u.deadline = s.dev.upUs + n ∧ u.args = s.dev.argsFor (thrKey frond thread) spad) ∧
      (d.thread (thrKey frond thread)).sts % 256 = 0 ∧ s.dev.moves d [.draws, .frees, .eng] [0x32] := by
  have hf := thrFrond_thrKey frond thread
  have hg := Dev.tTimerTask_placed (d := s.dev.groupDone (thrKey frond thread) 4 3) (k := thrKey frond thread) (r := r) (spad := spad)
    (by rw [hf]; exact hs) he
  have hd : (s.dev.groupDone (thrKey frond thread) 4 3).delayOf (((s.dev.groupDone (thrKey frond thread) 4 3).thread (thrKey frond thread)).rg r) =
      n := by
    rw [Dev.thread_groupDone, ← hn, Dev.delayOf_short hlt]
  have hm := Dev.moves_doneThen (d := s.dev) (g := 4) (k := thrKey frond thread) (j := thrKey frond thread) (f := fun th => th.setUpd 0)
    (Dev.moves_timed (c := frond % 8) (t := (s.dev.groupDone (thrKey frond thread) 4 3).timedTask (thrKey frond thread) spad (s.dev.upUs + n)))
  refine gives_onLast rfl hon ha ?_
  rw [hd, hf, Dev.upUs_groupDone] at hg
  rw [hg, hm.under_eq]
  refine ⟨⟨_, _, (Dev.task_updThread).trans (Dev.placeTask_waiting Dev.timedTask_waits), rfl, rfl, rfl, rfl⟩, ?_, hm⟩
  rw [Dev.thread_updThread_same, Thread.upd_setUpd]

theorem gives_timedFull (hon : s.Awake) (ha : s.dev.acts (thrKey frond thread) 4 3 i t)
    (hs : s.dev.storeFree (frond % 8) ≤ s.dev.num TASK.RESERVE) :
    Gives (.tTimertask frond thread r spad) s fun d => (d.thread (thrKey frond thread)).sts % 256 = 2 ∧
      d.raised TASK.int_TIMER_FULL = true ∧ d.eng.tasks = s.dev.eng.tasks ∧ s.dev.moves d [.eng] [0x32] := by
  have hf := thrFrond_thrKey frond thread
  have hg := Dev.tTimerTask_full (d := s.dev.groupDone (thrKey frond thread) 4 3) (k := thrKey frond thread) (r := r) (spad := spad)
    (by rw [hf]; exact hs)
  have hm := Dev.moves_doneThen (d := s.dev) (g := 4) (k := thrKey frond thread) (j := thrKey frond thread) (f := fun th => th.setUpd 2)
    (P := [.eng]) (G := [0x32]) (Dev.moves_timerFull (c := frond % 8) |>.mono rfl rfl)
  rw [hf] at hg
  refine gives_onLast rfl hon ha ?_
  rw [hg, hm.under_eq]
  refine ⟨?_, ?_, ?_, hm⟩
  · rw [Dev.thread_updThread_same, Thread.upd_setUpd]
  · exact Dev.raised_raise_eq _ _ rfl
  · exact (Dev.tasks_congr (Dev.taskView_of_eng (Dev.raise_eng _ _))).trans rfl

theorem gives_tSelf (hon : s.Awake) (ha : s.dev.acts (thrKey frond thread) 4 3 i t) :
    Gives (.tSelf frond thread dst) s fun d =>
      d.thread (thrKey frond thread) = (s.dev.thread (thrKey frond thread)).wg dst (t.id i) ∧
      (dst % 32 ≠ 0 → (d.thread (thrKey frond thread)).rg dst = t.id i % 2 ^ 32) ∧ s.dev.keeps d [.eng] := by
  refine gives_onLast rfl hon ha ?_
  have hk : s.dev.keeps ((s.dev.groupDone (thrKey frond thread) 4 3).updThread (thrKey frond thread) fun th => th.wg dst (t.id i)) [.eng] :=
    Dev.keeps_setThread_groupDone
  rw [hk.under_eq, Dev.thread_updThread_same]
  exact ⟨rfl, fun hd => Thread.rg_wg_same _ _ hd, hk⟩

end Sys2Proof.Machine
end

section
set_option Elab.async false
/-! The refill of the store, promotion and deadlines (R264, R266 to R269, R468). -/

namespace Sys2Proof.Machine
open Sys2Proof

/-- A refilled task; a blocked one is told that its id has changed. -/
def Task.refilled (t : Task) : Task := if t.state = 3 then { t with flags := t.flags ||| 0x4000 } else t

namespace Dev
variable {d e : Dev} {c i j k n p q : Nat} {t u : Task}

/-! ### What a refill leaves of the rings -/

/-- The rings and what waits for room in them are as they were. -/
def ringsLike (d e : Dev) : Prop := e.eng.rings = d.eng.rings ∧ e.eng.wants = d.eng.wants

theorem ringsLike.of_eng (h : e.eng = d.eng) : d.ringsLike e := by
  rw [ringsLike, h]
  exact ⟨rfl, rfl⟩
theorem ringsLike.trans {f : Dev} (h : d.ringsLike e) (g : e.ringsLike f) : d.ringsLike f := ⟨g.1.trans h.1, g.2.trans h.2⟩
theorem ringsLike.ringOf (h : d.ringsLike e) : e.ringOf c p = d.ringOf c p := congrArg (fun x => x.get [] (4 * c + p)) h.1
theorem ringsLike.wantsOf (h : d.ringsLike e) : e.wantsOf c p = d.wantsOf c p := congrArg (fun x => x.get [] (4 * c + p)) h.2
theorem ringsLike.ite {x y : Dev} {b : Prop} [Decidable b] (hx : d.ringsLike x) (hy : d.ringsLike y) : d.ringsLike (if b then x else y) := by
  split <;> assumption
theorem ringsLike_self : d.ringsLike d := ⟨rfl, rfl⟩

theorem ringsLike.set_eng {x : Engines} (h : d.ringsLike e) (hr : x.rings = e.eng.rings := by rfl) (hw : x.wants = e.eng.wants := by rfl) :
    d.ringsLike { e with eng := x } := ⟨hr.trans h.1, hw.trans h.2⟩

theorem ringsLike_setTask {o : Option Task} : d.ringsLike (d.setTask c i o) := ⟨rfl, rfl⟩
theorem ringsLike_taskCnt : d.ringsLike (d.taskCnt c n) := ⟨rfl, rfl⟩
theorem ringsLike_trace {r th id fl kd : Nat} : d.ringsLike (d.trace c r th id fl kd) := by
  unfold trace
  refine .ite ringsLike_self (.ite ?_ ⟨rfl, rfl⟩)
  exact ringsLike_self.set_eng.trans (.of_eng ((raise_eng _ _).trans (bump_eng _ _ _ _)))
theorem ringsLike_makeReady : d.ringsLike (d.makeReady c i) := by
  unfold makeReady
  split <;> exact ⟨rfl, rfl⟩
theorem ringsLike_placeTask : d.ringsLike (d.placeTask c t).1 := by
  rw [placeTask_eq]
  exact .ite (ringsLike.trans ⟨rfl, rfl⟩ ringsLike_makeReady) ⟨rfl, rfl⟩
theorem ringsLike_wakeTask : d.ringsLike (d.wakeTask c i) := by
  unfold wakeTask
  split
  · exact ringsLike_self
  · dsimp only
    split
    · exact ((ringsLike_setTask.trans ringsLike_makeReady).trans ringsLike_taskCnt).trans ringsLike_trace
    · split
      · split
        · exact .ite ((ringsLike_setTask.set_eng.trans ringsLike_taskCnt).trans ringsLike_trace) ringsLike_self
        · exact ringsLike_self
      · exact ringsLike_self

/-- A record that is placed and counted. -/
def refillPlaced (d : Dev) (c : Nat) (t : Task) : Dev :=
  ((d.placeTask c t.refilled).1.taskCnt c 6).trace c 5 0 (placedId (d.placeTask c t.refilled) c) t.refilled.flags t.refilled.kind

theorem refillOne_eq : d.refillOne c t = (d.refillPlaced c t).wakeTask c (d.placeTask c t.refilled).2 := rfl

theorem moves_refillPlaced : d.moves (d.refillPlaced c t) [.eng] [0x32] :=
  ((d.still.andThen moves_placeTask).andThen moves_taskCnt).andThen moves_trace
theorem moves_refillOne : d.moves (d.refillOne c t) [.eng] [0x32] := by
  rw [refillOne_eq]
  exact moves_refillPlaced.andThen moves_wakeTask
theorem ringsLike_refillOne : d.ringsLike (d.refillOne c t) := by
  rw [refillOne_eq]
  exact ((ringsLike_placeTask.trans ringsLike_taskCnt).trans ringsLike_trace).trans ringsLike_wakeTask

theorem taskView_refillPlaced : (d.refillPlaced c t).taskView = (d.placeTask c t.refilled).1.taskView :=
  taskView_trace.trans taskView_taskCnt

/-- A ready record refilled is at the end of its list. -/
theorem refillOne_ready (h : t.state = 1) : ∃ (j : Nat) (v : Task), (d.refillOne c t).task c j = some v ∧ v.kind = t.kind ∧
    v.args = t.args ∧ v.state = 1 ∧ (d.refillOne c t).readyOf c t.prio = d.readyOf c t.prio ++ [j] := by
  have hr : t.refilled = t := if_neg (by omega)
  obtain ⟨v, hv, he, hl⟩ := placeTask_ready (d := d) (c := c) h
  have hs : v.state = 1 := by rw [he]; rfl
  have hview := taskView_refillPlaced (d := d) (c := c) (t := t)
  rw [hr] at hview
  have hv' : (d.refillPlaced c t).task c (d.placeTask c t).2 = some v := (task_congr hview).trans hv
  refine ⟨(d.placeTask c t).2, v, ?_⟩
  rw [refillOne_eq, hr, wakeTask_other hv' (by omega) (by omega)]
  exact ⟨hv', by rw [he]; rfl, by rw [he]; rfl, hs, (readyOf_congr hview).trans hl⟩

/-- What the fetch of a record moves. -/
def recordFetched (d : Dev) (c : Nat) (t : Task) : Dev := match t.pos with | some n => d.spillRows c n Dev.rowFetch | none => d

theorem moves_recordFetched : d.moves (d.recordFetched c t) [.draws, .mem] [0x50] := by
  unfold recordFetched
  split
  · exact moves_spillRows_fetch
  · exact d.still
theorem eng_recordFetched : (d.recordFetched c t).eng = d.eng := moves_recordFetched.keeps_eng

theorem taskError_some {b : BadWord} (h : t.pos = some n) (hb : oneSymbol b = false) : d.taskError c t b =
    ((d.memUe (spillPlace c n).1 ((spillPlace c n).2 + b.word % 8 / 2 * 32) b.word b.sym0 b.sym1).bump FUSE.TASK_LOST, true) := by
  unfold taskError
  rw [h]
  exact if_neg (by rw [hb]; decide)

theorem moves_taskError {b : BadWord} : d.moves (d.taskError c t b).1 [.mem] [0x03, 0x50] := by
  unfold taskError
  split
  · exact d.still
  · dsimp only
    split
    · exact d.still.andThen moves_memCe
    · exact (d.still.andThen moves_memUe).bump
theorem eng_taskError {b : BadWord} : (d.taskError c t b).1.eng = d.eng := moves_taskError.keeps_eng

/-- A record at the head of a ring, which may read with errors. -/
def recordRead (d : Dev) (c : Nat) (t : Task) (o : Option BadTask) : Dev :=
  match o with
  | some b => if (d.taskError c t b.word).2 then (d.taskError c t b.word).1 else (d.taskError c t b.word).1.refillOne c t
  | none => d.refillOne c t

theorem refillRing_eq {bad : List BadTask} (h : (d.readyOf c p).length < 64) (hs : d.num TASK.RESERVE + 16 < d.storeFree c) :
    d.refillRing c p bad = (let e := ((d.ringOf c p).take 16).zipIdx.foldl (fun (d : Dev) (x : Task × Nat) =>
      (d.recordFetched c x.1).recordRead c x.1 (bad.find? fun b => b.pos = x.2)) (d.setRing c p ((d.ringOf c p).drop 16))
      Dev.wantsGo (e.wantsOf c p).length e c p) := by
  unfold refillRing
  exact if_neg (by omega)

theorem refillRing_idle {bad : List BadTask} (h : 64 ≤ (d.readyOf c p).length ∨ d.storeFree c ≤ d.num TASK.RESERVE + 16) :
    d.refillRing c p bad = d := if_pos h

theorem wantsGo_none (h : d.wantsOf c p = []) : Dev.wantsGo (d.wantsOf c p).length d c p = d := by
  rw [h]
  rfl

theorem moves_recordRead {o : Option BadTask} : d.moves (d.recordRead c t o) [.eng, .mem] [0x03, 0x32, 0x50] := by
  unfold recordRead
  split
  · exact (d.still.andThen moves_taskError).ite ((d.still.andThen moves_taskError).andThen moves_refillOne)
  · exact d.still.andThen moves_refillOne

theorem ringsLike_recordRead {o : Option BadTask} : d.ringsLike (d.recordRead c t o) := by
  unfold recordRead
  split
  · exact .ite (.of_eng eng_taskError) ((ringsLike.of_eng eng_taskError).trans ringsLike_refillOne)
  · exact ringsLike_refillOne

theorem ringsLike_refillFold {bad : List BadTask} {l : List (Task × Nat)} : d.ringsLike (l.foldl (fun (d : Dev) (x : Task × Nat) =>
    (d.recordFetched c x.1).recordRead c x.1 (bad.find? fun b => b.pos = x.2)) d) := by
  induction l generalizing d with
  | nil => exact ringsLike_self
  | cons x l ih => exact ((ringsLike.of_eng eng_recordFetched).trans ringsLike_recordRead).trans ih

theorem wantsOf_setRing {l : List Task} : (d.setRing c p l).wantsOf c p = d.wantsOf c p := rfl
theorem readyOf_setRing {l : List Task} : (d.setRing c p l).readyOf n q = d.readyOf n q := rfl
theorem tasks_setRing {l : List Task} : (d.setRing c p l).eng.tasks = d.eng.tasks := rfl

/-- While no merger waits, a refill is what is done to the records at the head. -/
theorem refillRing_none {bad : List BadTask} (h : (d.readyOf c p).length < 64) (hs : d.num TASK.RESERVE + 16 < d.storeFree c)
    (hw : d.wantsOf c p = []) : d.refillRing c p bad = ((d.ringOf c p).take 16).zipIdx.foldl (fun (d : Dev) (x : Task × Nat) =>
      (d.recordFetched c x.1).recordRead c x.1 (bad.find? fun b => b.pos = x.2)) (d.setRing c p ((d.ringOf c p).drop 16)) := by
  rw [refillRing_eq h hs]
  exact wantsGo_none (by rw [ringsLike_refillFold.wantsOf, wantsOf_setRing, hw])

theorem refillRing_one {bad : List BadTask} (h : (d.readyOf c p).length < 64) (hs : d.num TASK.RESERVE + 16 < d.storeFree c)
    (hw : d.wantsOf c p = []) (hr : d.ringOf c p = [u]) : d.refillRing c p bad =
      ((d.setRing c p []).recordFetched c u).recordRead c u (bad.find? fun b => b.pos = 0) := by
  rw [refillRing_none h hs hw, hr]
  rfl

/-! ### Promotion and deadlines -/

/-- Whether a ready task moves up. -/
def starved (d : Dev) (c i : Nat) (t : Task) : Bool :=
  d.num TASK.STARVE ≠ 0 && t.prio ≠ 0 && (d.readyOf c t.prio).contains i && decide (t.since + d.num TASK.STARVE ≤ d.upUs)

/-- A task out of its list, with the priority above. -/
def lifted (d : Dev) (c i : Nat) (t : Task) : Dev :=
  (d.setReady c t.prio ((d.readyOf c t.prio).filter (· ≠ i))).setTask c i (some { t with prio := t.prio - 1 })

theorem promote_starved (h : d.task c i = some t) (hs : d.starved c i t = true) :
    d.promote c i = (((d.lifted c i t).makeReady c i).taskCnt c 7).trace c 7 0 (t.id i) (t.prio - 1) t.kind := by
  unfold promote
  rw [h]
  exact if_pos hs

theorem promote_not (h : d.task c i = some t) (hs : d.starved c i t = false) : d.promote c i = d := by
  unfold promote
  rw [h]
  exact if_neg fun h' => Bool.false_ne_true (hs.symm.trans h')

theorem promote_none (h : d.task c i = none) : d.promote c i = d := by
  unfold promote
  rw [h]

theorem moves_lifted : d.moves (d.lifted c i t) [.eng] [] := d.still.setReady.setTask

theorem readyOf_lifted : (d.lifted c i t).readyOf c t.prio = (d.readyOf c t.prio).filter (· ≠ i) := readyOf_setReady_same
theorem readyOf_lifted_ne (h : p ≠ t.prio) : (d.lifted c i t).readyOf c p = d.readyOf c p := readyOf_setReady_ne h
theorem upUs_lifted : (d.lifted c i t).upUs = d.upUs := rfl

theorem timerFire_early (h : d.task c i = some t) (hd : d.upUs < t.deadline) : d.timerFire c i = d := by
  unfold timerFire
  rw [h]
  exact if_pos hd

theorem timerFire_none (h : d.task c i = none) : d.timerFire c i = d := by
  unfold timerFire
  rw [h]

theorem timerFire_due (h : d.task c i = some t) (hd : t.deadline ≤ d.upUs) : d.timerFire c i =
    if t.state = 4 then d.makeReady c i
    else if t.armed then (d.setTask c i (some { t with armed := false, flags := t.flags ||| 0x8000 })).wakeTask c i else d := by
  unfold timerFire
  rw [h]
  exact if_neg (by omega)

end Dev

variable {s : State} {c i p n : Nat} {t u : Task} {bad : List BadTask}

theorem exec_refill (hc : c < 8) (hp : p < 4) : exec (.refill c p bad) s = s.run fun d => d.refillRing c p bad := by
  have h : exec (.refill c p bad) s = s.run fun d => d.refillRing (c % 8) (p % 4) bad := rfl
  rw [h, Nat.mod_eq_of_lt hc, Nat.mod_eq_of_lt hp]

theorem exec_promote (hc : c < 8) (hi : i < 4096) : exec (.promote c i) s = s.run fun d => d.promote c i := by
  have h : exec (.promote c i) s = s.run fun d => d.promote (c % 8) (i % 4096) := rfl
  rw [h, Nat.mod_eq_of_lt hc, Nat.mod_eq_of_lt hi]

theorem exec_timerFire (hc : c < 8) (hi : i < 4096) : exec (.timerFire c i) s = s.run fun d => d.timerFire c i := by
  have h : exec (.timerFire c i) s = s.run fun d => d.timerFire (c % 8) (i % 4096) := rfl
  rw [h, Nat.mod_eq_of_lt hc, Nat.mod_eq_of_lt hi]

theorem gives_recordReady (hon : s.Awake) (hc : c < 8) (hp : p < 4) (hl : (s.dev.readyOf c p).length < 64)
    (hs : s.dev.num TASK.RESERVE + 16 < s.dev.storeFree c) (hr : s.dev.ringOf c p = [u]) (hu : u.state = 1) (hw : s.dev.wantsOf c p = []) :
    Gives (.refill c p []) s fun d => d.ringOf c p = [] ∧ (∃ (j : Nat) (v : Task), d.task c j = some v ∧ v.kind = u.kind ∧
        v.args = u.args ∧ v.state = 1 ∧ d.readyOf c u.prio = s.dev.readyOf c u.prio ++ [j]) ∧
      s.dev.moves d [.draws, .mem, .eng] [0x32, 0x50] := by
  refine gives_run (exec_refill hc hp) hon ?_
  have hm : s.dev.moves (((s.dev.setRing c p []).recordFetched c u).refillOne c u) [.draws, .mem, .eng] [0x32, 0x50] :=
    (s.dev.still.setRing.andThen Dev.moves_recordFetched).andThen Dev.moves_refillOne
  obtain ⟨j, v, hv, hkind, hargs, hstate, hlist⟩ := Dev.refillOne_ready (d := (s.dev.setRing c p []).recordFetched c u) (c := c) hu
  rw [Dev.refillRing_one hl hs hw hr, List.find?_nil]
  show _ ∧ _
  rw [Dev.recordRead, hm.under_eq]
  refine ⟨?_, ⟨j, v, hv, hkind, hargs, hstate, ?_⟩, hm⟩
  · rw [Dev.ringsLike_refillOne.ringOf, (Dev.ringsLike.of_eng Dev.eng_recordFetched).ringOf, Dev.ringOf_setRing_same]
  · rw [hlist, Dev.readyOf_congr (Dev.taskView_of_eng Dev.eng_recordFetched), Dev.readyOf_setRing]

theorem gives_refillLost {b : BadTask} (hon : s.Awake) (hc : c < 8) (hp : p < 4) (hl : (s.dev.readyOf c p).length < 64)
    (hs : s.dev.num TASK.RESERVE + 16 < s.dev.storeFree c) (hr : s.dev.ringOf c p = [u]) (hu : u.pos = some n) (hb : b.pos = 0)
    (ho : oneSymbol b.word = false) (hw : s.dev.wantsOf c p = []) :
    Gives (.refill c p [b]) s fun d => d.ringOf c p = [] ∧ d.eng.tasks = s.dev.eng.tasks ∧
      d.num FUSE.TASK_LOST = (s.dev.num FUSE.TASK_LOST + 1) % 2 ^ 32 ∧ s.dev.moves d [.draws, .eng, .mem] [0x03, 0x50] := by
  refine gives_run (exec_refill hc hp) hon ?_
  have hbad : ([b].find? fun b => b.pos = 0) = some b := by simp [hb]
  have hfm : s.dev.moves ((s.dev.setRing c p []).recordFetched c u) [.draws, .eng, .mem] [0x50] := s.dev.still.setRing.andThen Dev.moves_recordFetched
  have herr := Dev.taskError_some (d := (s.dev.setRing c p []).recordFetched c u) (c := c) hu ho
  have hread : ((s.dev.setRing c p []).recordFetched c u).recordRead c u (some b) =
      (((s.dev.setRing c p []).recordFetched c u).taskError c u b.word).1 := by
    rw [Dev.recordRead, if_pos (by rw [herr])]
  have hm : s.dev.moves (((s.dev.setRing c p []).recordFetched c u).taskError c u b.word).1 [.draws, .eng, .mem] [0x03, 0x50] :=
    (hfm.mono rfl rfl).andThen Dev.moves_taskError
  have heng : (((s.dev.setRing c p []).recordFetched c u).taskError c u b.word).1.eng = (s.dev.setRing c p []).eng :=
    Dev.eng_taskError.trans Dev.eng_recordFetched
  rw [Dev.refillRing_one hl hs hw hr, hbad, hread, hm.under_eq]
  refine ⟨?_, (congrArg Engines.tasks heng).trans Dev.tasks_setRing, ?_, hm⟩
  · rw [(Dev.ringsLike.of_eng heng).ringOf, Dev.ringOf_setRing_same]
  · rw [herr, Dev.num_bump_eq, (hfm.andThen Dev.moves_memUe).num FUSE.TASK_LOST 0 rfl rfl]

theorem gives_refill (hon : s.Awake) (hc : c < 8) (hp : p < 4) (hl : (s.dev.readyOf c p).length < 64)
    (hs : s.dev.num TASK.RESERVE + 16 < s.dev.storeFree c) (hw : s.dev.wantsOf c p = []) :
    Gives (.refill c p bad) s fun d => d.ringOf c p = (s.dev.ringOf c p).drop 16 ∧
      s.dev.moves d [.draws, .eng, .mem] [0x03, 0x32, 0x50] := by
  refine gives_run (exec_refill hc hp) hon ?_
  have hm : s.dev.moves (((s.dev.ringOf c p).take 16).zipIdx.foldl (fun (d : Dev) (x : Task × Nat) =>
      (d.recordFetched c x.1).recordRead c x.1 (bad.find? fun b => b.pos = x.2)) (s.dev.setRing c p ((s.dev.ringOf c p).drop 16)))
      [.draws, .eng, .mem] [0x03, 0x32, 0x50] :=
    s.dev.still.setRing.foldl fun h => (h.andThen Dev.moves_recordFetched).andThen Dev.moves_recordRead
  rw [Dev.refillRing_none hl hs hw, hm.under_eq]
  refine ⟨?_, hm⟩
  rw [Dev.ringsLike_refillFold.ringOf, Dev.ringOf_setRing_same]

theorem gives_promote (hon : s.Awake) (hc : c < 8) (hi : i < 4096) (ht : s.dev.task c i = some t) (hn : s.dev.num TASK.STARVE ≠ 0)
    (hp : t.prio ≠ 0) (hmem : i ∈ s.dev.readyOf c t.prio) (hd : t.since + s.dev.num TASK.STARVE ≤ s.dev.upUs) :
    Gives (.promote c i) s fun d => d.task c i = some { t with prio := t.prio - 1, state := 1, since := s.dev.upUs } ∧
      d.readyOf c t.prio = (s.dev.readyOf c t.prio).filter (· ≠ i) ∧
      d.readyOf c (t.prio - 1) = s.dev.readyOf c (t.prio - 1) ++ [i] ∧ s.dev.moves d [.eng] [0x32] := by
  refine gives_run (exec_promote hc hi) hon ?_
  have hst : s.dev.starved c i t = true := by
    simp [Dev.starved, hn, hp, hmem, hd]
  have hl : (s.dev.lifted c i t).task c i = some { t with prio := t.prio - 1 } := Dev.task_setTask_same
  have hm : s.dev.moves (s.dev.promote c i) [.eng] [0x32] := by
    rw [Dev.promote_starved ht hst]
    exact (((s.dev.still.andThen Dev.moves_lifted).andThen Dev.moves_makeReady).andThen Dev.moves_taskCnt).andThen Dev.moves_trace
  have hv : (s.dev.promote c i).taskView = ((s.dev.lifted c i t).makeReady c i).taskView := by
    rw [Dev.promote_starved ht hst, Dev.taskView_trace, Dev.taskView_taskCnt]
  rw [hm.under_eq, Dev.task_congr hv, Dev.readyOf_congr hv, Dev.readyOf_congr hv, Dev.task_makeReady hl]
  refine ⟨rfl, ?_, ?_, hm⟩
  · rw [Dev.readyOf_makeReady_ne hl (show t.prio ≠ t.prio - 1 by omega), Dev.readyOf_lifted]
  · refine (Dev.readyOf_makeReady hl).trans ?_
    rw [Dev.readyOf_lifted_ne (show t.prio - 1 ≠ t.prio by omega)]

theorem idle_promote (hc : c < 8) (hi : i < 4096) (ht : s.dev.task c i = some t) (h : s.dev.num TASK.STARVE = 0 ∨ t.prio = 0 ∨
    i ∉ s.dev.readyOf c t.prio ∨ s.dev.upUs < t.since + s.dev.num TASK.STARVE) : Idle (.promote c i) s := by
  refine idle_runSelf (exec_promote hc hi) (Dev.promote_not ht ?_)
  unfold Dev.starved
  rcases h with h | h | h | h <;> simp [h]

theorem gives_timerFire (hon : s.Awake) (hc : c < 8) (hi : i < 4096) (ht : s.dev.task c i = some t) (hd : t.deadline ≤ s.dev.upUs) :
    Gives (.timerFire c i) s fun d =>
      (t.state = 4 → d.task c i = some { t with state := 1, since := s.dev.upUs } ∧
        d.readyOf c t.prio = s.dev.readyOf c t.prio ++ [i]) ∧
      (t.state = 1 → t.armed = true → d.task c i = some { t with armed := false, flags := t.flags ||| 0x8000 }) ∧
      (t.state ≠ 4 → t.armed = false → d = s.dev) ∧ s.dev.moves d [.eng] [0x32] := by
  refine gives_run (exec_timerFire hc hi) hon ?_
  have hs {o : Option Task} : (s.dev.setTask c i o).task c i = o := Dev.task_setTask_same
  have hm : s.dev.moves (s.dev.timerFire c i) [.eng] [0x32] := by
    rw [Dev.timerFire_due ht hd]
    exact (s.dev.still.andThen Dev.moves_makeReady).ite ((s.dev.still.setTask.andThen Dev.moves_wakeTask).ite s.dev.still)
  rw [hm.under_eq]
  refine ⟨fun h4 => ?_, fun h1 ha => ?_, fun h4 ha => ?_, hm⟩
  · rw [Dev.timerFire_due ht hd, if_pos h4]
    exact ⟨Dev.task_makeReady ht, Dev.readyOf_makeReady ht⟩
  · have h2 : t.state ≠ 2 := by omega
    have h3 : t.state ≠ 3 := by omega
    rw [Dev.timerFire_due ht hd, if_neg (by omega), if_pos ha,
      Dev.wakeTask_other (t := { t with armed := false, flags := t.flags ||| 0x8000 }) hs h2 h3]
    exact hs
  · rw [Dev.timerFire_due ht hd, if_neg h4, if_neg (by rw [ha]; decide)]

end Sys2Proof.Machine
open Sys2Proof Sys2Proof.Machine

/-- Settles O36: what each operation does to the store, the lists and the rings, through the rules of a record placed, spilled, woken and
refilled. -/
theorem taskOperations : Obligations.TaskOperations := by
  unfold Obligations.TaskOperations
  refine ⟨fun s frond thread i n imm spad dst t k hon hk hi ha h5 he hp => gives_tCreate_placed hon hk hi ha h5 he hp,
    fun s frond thread i n imm spad dst p t k hon hk hi ha h5 he hpr hp => gives_tCreate_refused hon hk hi ha h5 he hpr hp,
    fun s frond thread i n imm spad dst t hon hi ha hb => gives_tCreate_bad hon hi ha hb,
    fun s c frond thread i n imm idReg id j t u hon hx hb => gives_signalled hon hx hb,
    fun s c frond thread i n imm idReg id t hon hx hb => gives_signalStale hon hx hb,
    fun s frond flags ho he => idle_access rfl ho.2 (if_neg (by rw [he]; decide)),
    fun s frond thread i imm t all hon ha => gives_tMask hon ha,
    fun s frond thread i r n t hon ha hn hlt => gives_tTimer hon ha hn hlt,
    fun s frond thread i r n t spad hon ha hn hlt hs he => gives_timed hon ha hn hlt hs he,
    fun s frond thread i r t spad hon ha hs => gives_timedFull hon ha hs,
    fun s frond thread i dst t hon ha => gives_tSelf hon ha, ?_,
    fun s c p u hon hc hp hl hs hr hu hw => gives_recordReady hon hc hp hl hs hr hu hw,
    fun s c p n u b hon hc hp hl hs hr hu hb ho hw => gives_refillLost hon hc hp hl hs hr hu hb ho hw,
    fun s c p bad hon hc hp hl hs hw => gives_refill hon hc hp hl hs hw,
    fun s c p bad hon hc hp h => idle_runSelf (exec_refill hc hp) (Dev.refillRing_idle h),
    fun s c i t hon hc hi ht hn hp hmem hd => gives_promote hon hc hi ht hn hp hmem hd,
    fun s c i t hon hc hi ht h => idle_promote hc hi ht h,
    fun s c i t hon hc hi ht hd => gives_timerFire hon hc hi ht hd,
    fun s c i t hon hc hi ht hd => idle_runSelf (exec_timerFire hc hi) (Dev.timerFire_early ht hd),
    fun s c i hon hc hi ht => ⟨idle_runSelf (exec_timerFire hc hi) (Dev.timerFire_none ht),
      idle_runSelf (exec_promote hc hi) (Dev.promote_none ht)⟩⟩
  intro s c frond thread n m p b o hc hon hi
  rcases hc with rfl | rfl | rfl | rfl | rfl | rfl <;> exact idle_onLast rfl hi
end

section
set_option Elab.async false
/-! The end of a task (R241 to R243), while no thread waits and no update is held. -/

namespace Sys2Proof

/-- What is in a map after a place has been set was there before, or is what was set. -/
theorem SMap.mem_of_mem_set {α : Type} [DecidableEq α] {m : SMap α} {z v : α} {k : Nat} {p : Nat × α} (h : p ∈ m.set z k v) :
    p ∈ m ∨ p = (k, v) := by
  unfold SMap.set at h
  split at h
  · exact .inl (List.mem_filter.mp h).1
  · rcases (SMap.mem_ins _ _ _ _).mp h with h | h
    · exact .inr h
    · exact .inl (List.mem_filter.mp h).1

/-- What a map gives is its rest value or stands in it. -/
theorem SMap.get_mem_or {α : Type} (m : SMap α) (z : α) (k : Nat) : m.get z k = z ∨ (k, m.get z k) ∈ m := by
  induction m with
  | nil => exact .inl rfl
  | cons p r ih =>
    obtain ⟨j, v⟩ := p
    by_cases hj : j = k
    · subst hj
      exact .inr (by simp [SMap.get])
    · have hg : SMap.get ((j, v) :: r) z k = SMap.get r z k := by simp [SMap.get, hj]
      rw [hg]
      exact ih.imp_right (List.mem_cons_of_mem _)

end Sys2Proof

namespace Sys2Proof.Machine
open Sys2Proof

theorem Thread.wait_wv {i v : Nat} (t : Thread) : (t.wv i v).wait = t.wait := rfl

end Sys2Proof.Machine

namespace Sys2Proof.Machine.Dev
open Sys2Proof
variable {d e : Dev} {c i k n s : Nat} {t : Task} {q : BlockCall}

/-! ### No thread waits -/

/-- No thread waits for anything. -/
def calm (d : Dev) : Prop := ∀ x ∈ d.eng.threads, x.2.wait = none

theorem calm.of_threads (h : d.calm) (he : e.eng.threads = d.eng.threads) : e.calm := by
  rw [calm, he]
  exact h
theorem calm.of_eng (h : d.calm) (he : e.eng = d.eng) : e.calm := h.of_threads (congrArg Engines.threads he)

theorem calm.wait (h : d.calm) : (d.thread k).wait = none := by
  rcases SMap.get_mem_or d.eng.threads {} k with hg | hm
  · rw [thread, hg]
  · exact h _ hm

theorem calm.setThread {th : Thread} (h : d.calm) (ht : th.wait = none) : (d.setThread k th).calm := by
  intro x hx
  rcases SMap.mem_of_mem_set hx with hm | rfl
  · exact h x hm
  · exact ht

theorem calm.updThread {f : Thread → Thread} (h : d.calm) (hf : ∀ th : Thread, th.wait = none → (f th).wait = none) :
    (d.updThread k f).calm := h.setThread (hf _ h.wait)

theorem calm.unitDone {st : Nat} (h : d.calm) : (d.unitDone k st).calm := h.updThread fun _ _ => rfl

theorem calm.wv {v j : Nat} (h : d.calm) : (d.updThread k fun th => th.wv j v).calm := h.updThread fun th hw => (Sys2Proof.Machine.Thread.wait_wv th).trans hw

theorem calm.callDone {st : Nat} {v : Option Nat} (h : d.calm) : (d.callDone c q st v).calm := by
  unfold Dev.callDone
  extract_lets j e
  have he : e.calm := h.of_eng moves_opSample.keeps_eng
  split
  · cases v with
    | none => exact calm.unitDone (d := e) he
    | some v => exact calm.unitDone (d := e.updThread _ fun th => th.wv q.dst v) he.wv
  · exact he

/-! ### A nonce, however its slot reads -/

theorem moves_slotReads {g : Guard} : d.moves (d.slotReads c s g) [.units] [0x03, 0x38] := by
  cases g
  · exact d.still
  · exact d.still.andThen moves_sramCe
  · exact d.still.setKeySlot.raise.andThen moves_sramUe

theorem moves_takeNonceAny {g : Guard} : d.moves (d.takeNonce c s g).1 [.draws, .units] [0x03, 0x38] := by
  have h : d.moves (d.keyPending c s) [.draws, .units] [0x03, 0x38] := by
    unfold keyPending
    split
    · next p hp =>
      refine moves.ite ?_ d.still
      cases p.load
      · exact d.still.setKeySlot
      · exact d.still.setKeySlot.drawn
    · exact d.still
  unfold takeNonce
  dsimp only
  refine (h.andThen (moves_slotReads (c := c) (s := s) (g := g))).trans ?_
  generalize (d.keyPending c s).slotReads c s g = e
  split
  · exact e.still
  · split
    · exact e.still
    · split
      · exact (moves_nonceSpent (d := e)).mono
      · exact (moves_nonceTaken (d := e)).mono

theorem moves_nonceServeAny : d.moves (d.nonceServe c q) [.draws, .frees, .eng, .units] [0x03, 0x38, 0x60] := by
  rw [nonceServe_eq (bs := (d.takeNonce c q.slot q.key).2.2) (st := (d.takeNonce c q.slot q.key).2.1) (w := (d.takeNonce c q.slot q.key).1) rfl]
  exact (moves_takeNonceAny (d := d)).mono.trans (moves_callDone.mono)

theorem calm.nonceServe (h : d.calm) : (d.nonceServe c q).calm := by
  rw [nonceServe_eq (bs := (d.takeNonce c q.slot q.key).2.2) (st := (d.takeNonce c q.slot q.key).2.1) (w := (d.takeNonce c q.slot q.key).1) rfl]
  exact (h.of_eng moves_takeNonceAny.keeps_eng).callDone

/-! ### Calls that find room -/

theorem moves_callStart : d.moves (d.callStart c q) [.draws, .frees, .eng, .units] [0x03, 0x38, 0x60] := by
  unfold callStart
  dsimp only
  exact ((moves_nonceServeAny.andThen moves_hold).ite moves_nonceServeAny).ite d.still.setCipher

theorem calm.callStart (h : d.calm) : (d.callStart c q).calm := by
  unfold Dev.callStart
  dsimp only
  split
  · split
    · exact h.nonceServe.of_threads rfl
    · exact h.nonceServe
  · exact h.of_threads rfl

theorem moves_placeCall : d.moves (d.placeCall c q) [.draws, .frees, .eng, .units] [0x03, 0x38, 0x60] := by
  unfold placeCall
  dsimp only
  refine (d.still.andThen moves_unitDone).ite ?_
  refine moves.ite d.still.setCipher ?_
  exact (d.still.andThen moves_unitDone).ite (d.still.setCipher.andThen moves_callStart)

theorem calm.placeCall (h : d.calm) : (d.placeCall c q).calm := by
  unfold Dev.placeCall
  dsimp only
  split
  · exact h.unitDone
  · split
    · exact h.of_threads rfl
    · split
      · exact h.unitDone
      · exact (h.of_threads (e := d.setCipher c { d.cipher c with active := d.clk.up }) rfl).callStart

/-- A call taken from those that wait for room. -/
def callTaken (d : Dev) (c : Nat) (q : BlockCall) (r : List BlockCall) : Dev := (d.setCipher c { d.cipher c with arrivals := r }).placeCall c q

theorem moves_callTaken {r : List BlockCall} : d.moves (d.callTaken c q r) [.draws, .frees, .eng, .units] [0x03, 0x38, 0x60] :=
  d.still.setCipher.andThen moves_placeCall

theorem calm.callTaken {r : List BlockCall} (h : d.calm) : (d.callTaken c q r).calm :=
  (h.of_threads (e := d.setCipher c { d.cipher c with arrivals := r }) rfl).placeCall

theorem placeCalls_succ : Dev.placeCalls (n + 1) d c = d ∨ ∃ a r, Dev.placeCalls (n + 1) d c = Dev.placeCalls n (d.callTaken c a r) c := by
  cases h : (d.cipher c).arrivals with
  | nil =>
    refine .inl ?_
    unfold Dev.placeCalls
    rw [h]
  | cons a r =>
    by_cases hf : d.unitFull c = true
    · refine .inl ?_
      unfold Dev.placeCalls
      rw [h]
      exact if_pos hf
    · refine .inr ⟨a, r, ?_⟩
      conv_lhs => unfold Dev.placeCalls
      rw [h]
      exact if_neg hf

theorem moves_placeCalls : d.moves (Dev.placeCalls n d c) [.draws, .frees, .eng, .units] [0x03, 0x38, 0x60] := by
  induction n generalizing d with
  | zero => exact d.still
  | succ n ih =>
    rcases placeCalls_succ (n := n) (d := d) (c := c) with h | ⟨a, r, h⟩
    · rw [h]
      exact d.still
    · rw [h]
      exact moves_callTaken.trans ih

theorem calm.placeCalls (h : d.calm) : (Dev.placeCalls n d c).calm := by
  induction n generalizing d with
  | zero => exact h
  | succ n ih =>
    rcases placeCalls_succ (n := n) (d := d) (c := c) with hs | ⟨a, r, hs⟩
    · rw [hs]
      exact h
    · rw [hs]
      exact ih h.callTaken

/-! ### The locks of a task that ends -/

theorem moves_lockWaited : d.moves (d.lockWaited c n) [] [0x38] := d.still.setNum

/-- The cipher unit of a cluster rid of a task. -/
theorem cipherTaskEnd_eq (id : Nat) : ∃ (ws : List LockReq) (x : Cipher), d.cipherTaskEnd c id =
    ((ws.foldl (fun (d : Dev) w => d.lockWaited c w.since) d).setCipher c x).roomMade c := ⟨_, _, rfl⟩

theorem moves_cipherTaskEnd {id : Nat} : d.moves (d.cipherTaskEnd c id) [.draws, .frees, .eng, .units] [0x03, 0x38, 0x60] := by
  obtain ⟨ws, x, h⟩ := cipherTaskEnd_eq (d := d) (c := c) id
  rw [h]
  exact (moves.setCipher (d.still.foldl fun h => h.andThen moves_lockWaited)).andThen moves_placeCalls

theorem calm.cipherTaskEnd {id : Nat} (h : d.calm) : (d.cipherTaskEnd c id).calm := by
  obtain ⟨ws, x, hx⟩ := cipherTaskEnd_eq (d := d) (c := c) id
  have hm : d.moves (ws.foldl (fun (d : Dev) w => d.lockWaited c w.since) d) [] [0x38] := d.still.foldl fun h => h.andThen moves_lockWaited
  rw [hx]
  exact ((h.of_eng hm.keeps_eng).of_threads (e := Dev.setCipher _ c x) rfl).placeCalls

/-! ### What a view released lets go on -/

theorem closeSlot_cases : d.closeSlot s = d ∨ ∃ m, d.closeSlot s = (d.setFlow { d.flow with opened := m }).resyncAsk := by
  unfold closeSlot
  dsimp only
  split
  · exact .inl rfl
  · exact .inr ⟨_, rfl⟩

theorem moves_closeSlot : d.moves (d.closeSlot s) [.flow, .tandem] [] := by
  rcases closeSlot_cases (d := d) (s := s) with h | ⟨m, h⟩
  · rw [h]
    exact d.still
  · rw [h]
    exact d.still.set_flow.andThen moves_resyncAsk

/-- Nothing waits for a view. -/
def unheld (d : Dev) : Prop := d.flow.waiting = [] ∧ d.flow.held = []

theorem unheld.closeSlot (h : d.unheld) : (d.closeSlot s).unheld := by
  rcases closeSlot_cases (d := d) (s := s) with hs | ⟨m, hs⟩
  · rw [hs]
    exact h
  · rw [hs, unheld, (moves_resyncAsk (d := d.setFlow { d.flow with opened := m })).keeps_flow]
    exact h

theorem unheld.of_flow (h : d.unheld) (he : e.flow = d.flow) : e.unheld := by
  rw [unheld, he]
  exact h

theorem moves_closeSlots {l : List Nat} : d.moves (l.foldl Dev.closeSlot d) [.flow, .tandem] [] := d.still.foldl fun h => h.andThen moves_closeSlot

theorem unheld.closeSlots {l : List Nat} (h : d.unheld) : (l.foldl Dev.closeSlot d).unheld := by
  induction l generalizing d with
  | nil => exact h
  | cons s l ih => exact ih h.closeSlot

theorem drainUpdates_none (h : d.unheld) : d.drainUpdates = d := by
  rw [drainUpdates, h.2]
  unfold drainHeld
  rw [h.2]
  rfl

theorem serveWaiting_none (h : d.unheld) : Dev.serveWaiting (d.flow.waiting.length + 1) d = d := by
  rw [h.1]
  unfold serveWaiting
  rw [h.1]
  rfl

/-- The slots of a view that close. -/
def viewClosed (d : Dev) (v : View) : Dev :=
  let d := (recSlots v.wide v.home).foldl Dev.closeSlot d
  let d := (recSlots v.wide v.slot).foldl Dev.closeSlot d
  (recSlots v.wide (d.mateOf v.home)).foldl Dev.closeSlot d

theorem moves_viewClosed {v : View} : d.moves (d.viewClosed v) [.flow, .tandem] [] :=
  (moves_closeSlots.andThen moves_closeSlots).andThen moves_closeSlots

theorem unheld.viewClosed {v : View} (h : d.unheld) : (d.viewClosed v).unheld := h.closeSlots.closeSlots.closeSlots

theorem viewReleased_unheld {v : View} (h : d.unheld) : d.viewReleased v = d.viewClosed v := by
  have hc := h.viewClosed (v := v)
  have hx : d.viewReleased v = Dev.serveWaiting ((d.viewClosed v).drainUpdates.flow.waiting.length + 1) (d.viewClosed v).drainUpdates := rfl
  rw [hx, drainUpdates_none hc, serveWaiting_none hc]

/-- While no thread waits, no update is answered. -/
theorem resolve_calm (h : d.calm) : d.resolve = d := by
  rw [resolve]
  unfold resolveWaits
  extract_lets ready first
  have hready : ready = [] := by
    refine List.filterMap_eq_nil_iff.mpr fun p hp => ?_
    rw [h p hp]
  have hfirst : first = none := by
    change ready.foldl _ none = none
    rw [hready]
    rfl
  rw [hfirst]

end Sys2Proof.Machine.Dev
end

section
set_option Elab.async false
/-! Microwords issued, faults, and a task gone (R234, R235, R241, R243, R246). -/

namespace Sys2Proof.Machine.Dev
open Sys2Proof
variable {d e : Dev} {c i k n pc imm cond extra cost cause fl addr : Nat} {t : Task} {ue : WordGuard}

/-! ### A task is gone -/

/-- What a task that ends leaves behind before its record is free. -/
def departed (d : Dev) (k i : Nat) (t : Task) (fl : Nat) : Dev :=
  ((((d.trace (thrFrond k) 6 (k % 256) (t.id i) fl t.kind).perf (islandOfFrond (thrFrond k)) 0x10A).cipherTaskEnd (thrFrond k)
    (t.id i)).crossed (islandOfFrond (thrFrond k)) 7 t.tag (t.id i)).setThread k {}

theorem moves_departed : d.moves (d.departed k i t fl) [.draws, .frees, .eng, .units] [0x03, 0x32, 0x38, 0x60] :=
  ((((d.still.andThen moves_trace).perf).andThen moves_cipherTaskEnd).andThen moves_crossed).set_eng

theorem calm.trace {r th id f kd : Nat} (h : d.calm) : (d.trace c r th id f kd).calm :=
  h.of_threads (congrArg TaskView.threads taskView_trace)

theorem calm.departed (h : d.calm) : (d.departed k i t fl).calm := by
  have h1 : ((d.trace (thrFrond k) 6 (k % 256) (t.id i) fl t.kind).perf (islandOfFrond (thrFrond k)) 0x10A).calm := h.trace.of_eng (perf_eng _ _ _ _)
  exact (h1.cipherTaskEnd.of_eng moves_crossed.keeps_eng).setThread rfl

theorem thread_departed : (d.departed k i t fl).thread k = {} := thread_setThread_same _ _ _

/-- A task that ends, while no thread waits and no update is held. -/
theorem finish_quiet (hc : d.calm) (hu : d.unheld) :
    d.finish k i t fl = ((d.departed k i t fl).endTask (thrFrond k) i).viewClosed t.view := by
  have hx : d.finish k i t fl = (((d.departed k i t fl).endTask (thrFrond k) i).viewReleased t.view).resolve := rfl
  have he : ((d.departed k i t fl).endTask (thrFrond k) i).calm := (hc.departed (k := k) (i := i) (t := t) (fl := fl)).of_threads rfl
  have hf : ((d.departed k i t fl).endTask (thrFrond k) i).unheld := hu.of_flow (moves_departed (d := d) (k := k) (i := i) (t := t) (fl := fl)).keeps_flow
  rw [hx, viewReleased_unheld hf, resolve_calm (he.of_eng moves_viewClosed.keeps_eng)]

theorem moves_finish (hc : d.calm) (hu : d.unheld) :
    d.moves (d.finish k i t fl) [.draws, .frees, .eng, .units, .flow, .tandem] [0x03, 0x31, 0x32, 0x38, 0x60] := by
  rw [finish_quiet hc hu]
  exact (((d.still.andThen moves_departed).setTask).bump).andThen moves_viewClosed

theorem eng_finish (hc : d.calm) (hu : d.unheld) : (d.finish k i t fl).eng = ((d.departed k i t fl).setTask (thrFrond k) i none).eng := by
  rw [finish_quiet hc hu, moves_viewClosed.keeps_eng]
  rfl

theorem thread_finish (hc : d.calm) (hu : d.unheld) : (d.finish k i t fl).thread k = {} :=
  (congrArg (fun x : Engines => x.threads.get {} k) (eng_finish hc hu)).trans thread_departed

theorem task_finish (hc : d.calm) (hu : d.unheld) : (d.finish k i t fl).task (thrFrond k) i = none :=
  (congrArg (fun x : Engines => x.tasks.get none (thrFrond k * 4096 + i)) (eng_finish hc hu)).trans task_setTask_same

theorem num_finish_done (hc : d.calm) (hu : d.unheld) :
    (d.finish k i t fl).num FENG.TASKS_DONE (thrFrond k) = (d.num FENG.TASKS_DONE (thrFrond k) + 1) % 2 ^ 32 := by
  rw [finish_quiet hc hu, moves_viewClosed.num FENG.TASKS_DONE _ rfl rfl, endTask, num_bump_eq]
  have h : ((d.departed k i t fl).setTask (thrFrond k) i none).num FENG.TASKS_DONE (thrFrond k) = (d.departed k i t fl).num FENG.TASKS_DONE (thrFrond k) :=
    rfl
  rw [h, moves_departed.num FENG.TASKS_DONE _ rfl rfl]

/-- A register of FENG beside TASKS_DONE stands through the end of a task. -/
theorem num_finish (hc : d.calm) (hu : d.unheld) {r : Reg} (hr : r.plain = true) (hp : [0x03, 0x32, 0x38, 0x60].contains r.page = false)
    (ha : r.apart FENG.TASKS_DONE = true) : (d.finish k i t fl).num r c = d.num r c := by
  rw [finish_quiet hc hu, (moves_viewClosed (d := (d.departed k i t fl).endTask (thrFrond k) i)).num r c hr rfl, endTask, num_bump_apart _ _ _ _ _ _ ha]
  have h : ((d.departed k i t fl).setTask (thrFrond k) i none).num r c = (d.departed k i t fl).num r c := rfl
  rw [h, (moves_departed (d := d) (k := k) (i := i) (t := t) (fl := fl)).num r c hr hp]

/-! ### A fault (R243) -/

/-- What a fault records. -/
def faultMarked (d : Dev) (k addr cause : Nat) : Dev :=
  let c := thrFrond k
  let d := (d.bump FENG.FAULTS c).setNum FENG.FAULT_INFO (faultInfo k addr cause) c
  let d := d.setNum2 FENG.FAULT_STAMP_LO FENG.FAULT_STAMP_HI (d.stamp (islandOfFrond c)).toNat c
  ((d.raise FENG.int_FAULT).log (islandOfFrond c) 0x3101 c (d.num FENG.FAULT_INFO c)).perf (islandOfFrond c) 0x10B

theorem fault_unpacked (h : t.desc = none) : d.fault k i t addr cause = (d.faultMarked k addr cause).finish k i t 1 := by
  unfold fault
  rw [h]
  rfl

theorem moves_faultMarked : d.moves (d.faultMarked k addr cause) [] [0x31] := d.still.bump.setNum.setNum2.raise.log.perf

theorem faultInfo_lt (h : cause < 16) : faultInfo k addr cause < 2 ^ 32 := by
  unfold faultInfo
  omega

theorem num_setNum2_apart {r q p : Reg} {v m : Nat} (h : r.apart q = true) (g : r.apart p = true) : (d.setNum2 q p v m).num r c = d.num r c := by
  unfold setNum2
  rw [num_setNum_apart _ _ _ _ _ _ g, num_setNum_apart _ _ _ _ _ _ h]

theorem num_faultMarked_info (h : cause < 16) : (d.faultMarked k addr cause).num FENG.FAULT_INFO (thrFrond k) = faultInfo k addr cause := by
  unfold faultMarked
  extract_lets c e f
  rw [num_perf_plain _ _ _ _ _ _ rfl, num_log_plain _ _ _ _ _ _ _ _ _ rfl, num_raise_plain _ _ _ _ rfl, num_setNum2_apart rfl rfl, num_setNum_same,
    Nat.mod_eq_of_lt (faultInfo_lt h)]

theorem num_faultMarked_faults : (d.faultMarked k addr cause).num FENG.FAULTS (thrFrond k) = (d.num FENG.FAULTS (thrFrond k) + 1) % 2 ^ 32 := by
  unfold faultMarked
  extract_lets c e f
  rw [num_perf_plain _ _ _ _ _ _ rfl, num_log_plain _ _ _ _ _ _ _ _ _ rfl, num_raise_plain _ _ _ _ rfl, num_setNum2_apart rfl rfl,
    num_setNum_apart _ _ _ _ _ _ rfl, num_bump_eq]

/-! ### A microword is issued -/

/-- The engines are as they were, but for the count of cycles. -/
def engLike (d e : Dev) : Prop := ∃ m, e.eng = { d.eng with issued := m }

theorem engLike.trans {f : Dev} (h : d.engLike e) (g : e.engLike f) : d.engLike f := by
  obtain ⟨m, hm⟩ := h
  obtain ⟨m', hm'⟩ := g
  exact ⟨m', by rw [hm', hm]⟩
theorem engLike.of_eng (h : e.eng = d.eng) : d.engLike e := ⟨d.eng.issued, h⟩
theorem engLike.threads (h : d.engLike e) : e.eng.threads = d.eng.threads := h.elim fun _ hm => (congrArg Engines.threads hm).trans rfl
theorem engLike.tasks (h : d.engLike e) : e.eng.tasks = d.eng.tasks := h.elim fun _ hm => (congrArg Engines.tasks hm).trans rfl
theorem engLike.stage (h : d.engLike e) : e.eng.stage = d.eng.stage := h.elim fun _ hm => (congrArg Engines.stage hm).trans rfl
theorem engLike.last (h : d.engLike e) : e.eng.last = d.eng.last := h.elim fun _ hm => (congrArg Engines.last hm).trans rfl
theorem engLike.port (h : d.engLike e) : e.eng.port = d.eng.port := h.elim fun _ hm => (congrArg Engines.port hm).trans rfl
theorem engLike.nano (h : d.engLike e) : e.eng.nano = d.eng.nano := h.elim fun _ hm => (congrArg Engines.nano hm).trans rfl
theorem engLike.nw (h : d.engLike e) : e.eng.nw = d.eng.nw := h.elim fun _ hm => (congrArg Engines.nw hm).trans rfl

theorem engLike_cycles {ev : Nat} : d.engLike (d.cycles c ev n) := by
  refine ⟨d.eng.issued.set 0 c ((d.eng.issued.get 0 c + n) % 2 ^ 64), ?_⟩
  rw [cycles, perf_eng]

theorem moves_cycles {ev : Nat} : d.moves (d.cycles c ev n) [.eng] [] := d.still.set_eng.perf

theorem engLike_fetched : d.engLike (d.fetched c pc) := by
  unfold fetched
  split
  · exact (engLike.of_eng (bump_eng _ _ _ _)).trans engLike_cycles
  · exact .of_eng rfl

theorem moves_fetched : d.moves (d.fetched c pc) [.eng] [0x31] := by
  unfold fetched
  exact (d.still.bump.andThen moves_cycles).ite d.still

/-- A microword read, and where. -/
def wordRead (d : Dev) (k pc : Nat) (ue : WordGuard) : Dev :=
  ((d.guarded (islandOfFrond (thrFrond k)) (if inRam pc then 5 else 4) (pc % 2 ^ 14) ue.word).guarded (islandOfFrond (thrFrond k)) 6 (k % 256)
    ue.state).fetched (thrFrond k) pc

theorem moves_wordRead : d.moves (d.wordRead k pc ue) [.eng] [0x03, 0x31] :=
  ((d.still.andThen moves_guarded).andThen moves_guarded).andThen moves_fetched

theorem engLike_wordRead : d.engLike (d.wordRead k pc ue) :=
  ((engLike.of_eng moves_guarded.keeps_eng).trans (engLike.of_eng moves_guarded.keeps_eng)).trans engLike_fetched

/-- A thread issues a word of `n` cycles at a cost. -/
def wordIssued (d : Dev) (k i : Nat) (t : Task) (th : Thread) (pc n cost : Nat) : Dev :=
  (((d.setThread k th).issued k n).opSample (islandOfFrond (thrFrond k)) 0 (thrWho k) (t.id i) (pc % 2 ^ 14 + bit (inRam pc) * 2 ^ 15) 0).updThread
    k fun th => { th with cost := cost }

variable {th : Thread}

theorem moves_issued : d.moves (d.issued k n) [.eng] [] := d.still.set_eng

theorem moves_wordIssued : d.moves (d.wordIssued k i t th pc n cost) [.draws, .frees, .eng] [0x60] :=
  ((d.still.setThread.andThen moves_issued).andThen moves_opSample).updThread

/-- How many cycles of uptime a word of `n` cycles holds its engine's port. -/
def portTime (d : Dev) (k n : Nat) : Nat :=
  (n * 25 + (4 - d.fld ISLE.PACE_STAT_CURRENT (islandOfFrond (thrFrond k))) - 1) / (4 - d.fld ISLE.PACE_STAT_CURRENT (islandOfFrond (thrFrond k)))

theorem portTime_pos (h : 0 < n) : 0 < d.portTime k n := by
  have hlt : d.fld ISLE.PACE_STAT_CURRENT (islandOfFrond (thrFrond k)) < 4 := Dev.fld_lt d ISLE.PACE_STAT_CURRENT _
  unfold portTime
  exact Nat.div_pos (by omega) (by omega)

/-- What of the engines an issued word leaves. -/
structure Issued (d e : Dev) (k cost : Nat) (th : Thread) : Prop where
  threads : e.eng.threads = (d.eng.threads.set {} k th).set {} k { th with cost := cost }
  tasks : e.eng.tasks = d.eng.tasks
  stage : e.wordStage k = 0
  last : e.eng.last.get 15 (k / 16) = k % 16
  port : d.clk.up < e.eng.port.get 0 (k / 16)

theorem Issued.thread (h : Issued d e k cost th) : e.thread k = { th with cost := cost } := by
  rw [Dev.thread, h.threads, SMap.get_set_same]
theorem Issued.task (h : Issued d e k cost th) : e.task c i = d.task c i := by
  rw [Dev.task, h.tasks, Dev.task]
theorem Issued.calm (h : Issued d e k cost th) (hc : d.calm) (ht : th.wait = none) : e.calm := by
  intro x hx
  rw [h.threads] at hx
  rcases SMap.mem_of_mem_set hx with hx | rfl
  · rcases SMap.mem_of_mem_set hx with hx | rfl
    · exact hc x hx
    · exact ht
  · exact ht
theorem Issued.after {e' : Dev} (h : Issued d e k cost th) (hl : e.engLike e') : Issued d e' k cost th where
  threads := hl.threads.trans h.threads
  tasks := hl.tasks.trans h.tasks
  stage := by rw [wordStage, hl.stage]; exact h.stage
  last := by rw [hl.last]; exact h.last
  port := by rw [hl.port]; exact h.port
theorem Issued.before {d0 : Dev} (hl : d0.engLike d) (hc : d.clk = d0.clk) (h : Issued d e k cost th) : Issued d0 e k cost th where
  threads := h.threads.trans (by rw [hl.threads])
  tasks := h.tasks.trans hl.tasks
  stage := h.stage
  last := h.last
  port := by rw [← hc]; exact h.port

theorem issued_port (h : 0 < n) : d.clk.up < (d.issued k n).eng.port.get 0 (k / 16) := by
  have hp : (d.issued k n).eng.port.get 0 (k / 16) = d.clk.up + d.portTime k n := SMap.get_set_same _ _ _ _
  rw [hp]
  exact Nat.lt_add_of_pos_right (portTime_pos h)

theorem stage_issued : (d.issued k n).eng.stage.get 0 k = 0 := by
  unfold issued setStage
  exact SMap.get_set_same d.eng.stage 0 k 0
theorem last_issued : (d.issued k n).eng.last.get 15 (k / 16) = k % 16 := by
  unfold issued setStage
  exact SMap.get_set_same d.eng.last 15 (k / 16) (k % 16)
theorem tasks_updThread {f : Thread → Thread} : (d.updThread k f).eng.tasks = d.eng.tasks := rfl
theorem stage_updThread {f : Thread → Thread} : (d.updThread k f).eng.stage = d.eng.stage := rfl
theorem last_updThread {f : Thread → Thread} : (d.updThread k f).eng.last = d.eng.last := rfl
theorem port_updThread {f : Thread → Thread} : (d.updThread k f).eng.port = d.eng.port := rfl

theorem issued_wordIssued (h : 0 < n) : Issued d (d.wordIssued k i t th pc n cost) k cost th := by
  have hs : (((d.setThread k th).issued k n).opSample (islandOfFrond (thrFrond k)) 0 (thrWho k) (t.id i) (pc % 2 ^ 14 + bit (inRam pc) * 2 ^ 15) 0).eng =
      ((d.setThread k th).issued k n).eng := moves_opSample.keeps_eng
  have ht : ((d.setThread k th).issued k n).thread k = th := SMap.get_set_same _ _ _ _
  refine ⟨?_, ?_, ?_, ?_, ?_⟩
  · rw [wordIssued, updThread, thread_view (taskView_of_eng hs), ht]
    exact congrArg (fun x : Engines => x.threads.set {} k { th with cost := cost }) hs
  · rw [wordIssued, tasks_updThread, hs]
    rfl
  · rw [wordIssued, wordStage, stage_updThread, hs, stage_issued]
  · rw [wordIssued, last_updThread, hs, last_issued]
  · rw [wordIssued, port_updThread, hs]
    exact issued_port (d := d.setThread k th) h

end Sys2Proof.Machine.Dev
end

section
set_option Elab.async false
/-! How a thread goes on after a microword (R234, R235, R243 to R246, R251). -/

namespace Sys2Proof.Machine.Dev
open Sys2Proof
variable {d e : Dev} {c i k n pc imm cond extra cost gen : Nat} {t : Task} {ue : WordGuard} {waste : Task → Thread → Bool} {bad : Thread → Bool}
  {f : Dev → Nat → Task → Thread → Nat → Nat → Dev}

/-! ### The limit of cost stands -/

theorem numAt_congr {r : Reg} (hp : e.prev = d.prev) (hg : e.cgen = d.cgen) (hc : e.commit = d.commit) (hn : e.num r c = d.num r c) :
    e.numAt gen r c = d.numAt gen r c := by
  unfold numAt before
  rw [hp, hg, hc, hn]

theorem num_cycles {r : Reg} {ev : Nat} (h : r.plain = true) : (d.cycles c ev n).num r i = d.num r i := by
  have hm : d.moves (d.cycles c ev n) [.eng] [] := moves_cycles
  exact hm.num r i h rfl

theorem num_fetched {r : Reg} (h : r.plain = true) (ha : r.apart FENG.PATCH_FETCHES = true) : (d.fetched c pc).num r i = d.num r i := by
  unfold fetched
  split
  · rw [num_cycles h, num_bump_apart _ _ _ _ _ _ ha]
  · rfl

theorem num_wordRead {r : Reg} (h : r.plain = true) (ha : r.apart FENG.PATCH_FETCHES = true) (hp : [0x03].contains r.page = false) :
    (d.wordRead k pc ue).num r i = d.num r i := by
  rw [wordRead, num_fetched h ha, moves_guarded.num r i h hp, moves_guarded.num r i h hp]

theorem maxCycles_congr {P : List Part} {G : List Nat} (h : d.moves e P G) (hn : e.num FENG.MAX_CYCLES = d.num FENG.MAX_CYCLES)
    (hp : P.contains .prev = false := by rfl) (hg : P.contains .cgen = false := by rfl) (hc : P.contains .commit = false := by rfl) :
    e.maxCycles t = d.maxCycles t := by
  unfold maxCycles
  rw [numAt_congr (h.keeps_prev hp) (h.keeps_cgen hg) (h.keeps_commit hc) hn]

/-! ### A word that is issued goes on -/

/-- The cycles of an issued word, counted. -/
def wordCounted (d : Dev) (k i : Nat) (t : Task) (pc n cost lost : Nat) (ue : WordGuard) : Dev :=
  (((d.wordRead k pc ue).wordIssued k i t (d.thread k) pc n cost).cycles (thrFrond k) 0x100 n).cycles (thrFrond k) 0x101 lost

theorem thread_wordRead : (d.wordRead k pc ue).thread k = d.thread k := by
  rw [Dev.thread, engLike_wordRead.threads, Dev.thread]

theorem maxCycles_wordIssued : ((d.wordRead k pc ue).wordIssued k i t (d.thread k) pc n cost).maxCycles t = d.maxCycles t := by
  have h1 : d.moves (d.wordRead k pc ue) [.draws, .frees, .eng] [0x03, 0x31, 0x60] := moves_wordRead.mono rfl rfl
  refine maxCycles_congr (h1.andThen (moves_wordIssued (i := i) (t := t) (th := d.thread k) (pc := pc) (n := n) (cost := cost))) ?_
  rw [moves_wordIssued.num FENG.MAX_CYCLES 0 rfl rfl, num_wordRead rfl rfl rfl]

/-- The cycles of a word. -/
def wordTime (d : Dev) (w : Nat) : Nat := d.eng.nano.get 0 (wordNano w) % 4 + 1

/-- The cost of a thread's task after a word. -/
def wordCost (d : Dev) (k pc w lost : Nat) : Nat := (d.thread k).cost + d.wordTime w + bit (inRam pc) + lost

/-- What becomes of a word of `n` cycles that a device has read. -/
def wordGoes (d : Dev) (k i : Nat) (t : Task) (th : Thread) (pc w n : Nat) (waste : Task → Thread → Bool) (bad : Thread → Bool)
    (f : Dev → Nat → Task → Thread → Nat → Nat → Dev) : Dev :=
  let e := d.wordIssued k i t th pc n (th.cost + n + bit (inRam pc) + bit (waste t th))
  if e.maxCycles t < th.cost + n + bit (inRam pc) + bit (waste t th) then (e.cycles (thrFrond k) 0x101 (n + bit (waste t th))).fault k i t pc 5
  else if bad th then (e.cycles (thrFrond k) 0x101 n).fault k i t pc 3
  else f ((e.cycles (thrFrond k) 0x100 n).cycles (thrFrond k) 0x101 (bit (waste t th))) i t (e.thread k) pc (wordImm w)

theorem issue_word {w : Nat} (hmay : d.mayIssue k = true) (hrun : d.running k = some (i, t)) (hlate : (d.thread k).late = none)
    (hf : d.fetch (thrFrond k) (d.thread k).pc = (pc, some w)) (hcond : wordCond w = cond)
    (hram : (inRam pc && branching cond && bitOf w 14) = false) (hnano : wordNano w < d.eng.nw) (hue : ue.bad = false)
    (hmax : d.wordCost k pc w (bit (waste t (d.thread k))) ≤ d.maxCycles t) : d.issue k cond ue waste bad f =
      if bad (d.thread k) then
        ((((d.wordRead k pc ue).wordIssued k i t (d.thread k) pc (d.wordTime w) (d.wordCost k pc w (bit (waste t (d.thread k))))).cycles
          (thrFrond k) 0x101 (d.wordTime w)).fault k i t pc 3)
      else f (d.wordCounted k i t pc (d.wordTime w) (d.wordCost k pc w (bit (waste t (d.thread k)))) (bit (waste t (d.thread k))) ue) i t
        (((d.wordRead k pc ue).wordIssued k i t (d.thread k) pc (d.wordTime w) (d.wordCost k pc w (bit (waste t (d.thread k))))).thread k)
        pc (wordImm w) := by
  have hfl : (d.wordRead k pc ue).flushed t (d.thread k) = d.thread k := by
    rw [flushed, hlate]
  have hcyc : (d.wordRead k pc ue).wordTime w = d.wordTime w := by
    rw [wordTime, engLike_wordRead.nano, wordTime]
  have hmx := maxCycles_wordIssued (d := d) (k := k) (i := i) (t := t) (pc := pc) (ue := ue) (n := d.wordTime w)
    (cost := d.wordCost k pc w (bit (waste t (d.thread k))))
  have hunread : ((some w).isNone || decide (d.eng.nw ≤ wordNano w)) = false := by simp [hnano]
  subst hcond
  unfold issue onThread
  rw [hmay, hrun, if_neg (by decide)]
  simp only [hf, Option.getD_some, hram, hunread, hue, Bool.not_false, Bool.and_true, ne_eq, not_true_eq_false, decide_false, Bool.and_false,
    Bool.false_eq_true, if_false]
  change (d.wordRead k pc ue).wordGoes k i t ((d.wordRead k pc ue).flushed t (d.thread k)) pc w ((d.wordRead k pc ue).wordTime w) waste bad f = _
  rw [hfl, hcyc, wordGoes]
  exact if_neg (Nat.not_lt.mpr (hmax.trans_eq hmx.symm))

/-- What stands of a device whose thread has issued a word. -/
structure WordGone (d e : Dev) (k cost : Nat) (t : Task) : Prop where
  issued : Issued d e k cost (d.thread k)
  above : (d.thread k).cost < cost
  limit : cost ≤ d.maxCycles t
  moves : d.moves e [.draws, .frees, .eng] [0x03, 0x31, 0x60]
  nums : ∀ (r : Reg) (m : Nat), r.plain = true → r.apart FENG.PATCH_FETCHES = true → [0x03, 0x60].contains r.page = false → e.num r m = d.num r m

theorem moves_wordRead_issued : d.moves ((d.wordRead k pc ue).wordIssued k i t (d.thread k) pc n cost) [.draws, .frees, .eng] [0x03, 0x31, 0x60] := by
  have h1 : d.moves (d.wordRead k pc ue) [.draws, .frees, .eng] [0x03, 0x31, 0x60] := moves_wordRead.mono rfl rfl
  exact h1.andThen moves_wordIssued

theorem wordGone_counted {ev m : Nat} (hn : 0 < n) (habove : (d.thread k).cost < cost) (hmax : cost ≤ d.maxCycles t) :
    WordGone d (((d.wordRead k pc ue).wordIssued k i t (d.thread k) pc n cost).cycles (thrFrond k) ev m) k cost t where
  issued := (Issued.before engLike_wordRead moves_wordRead.keeps_clk (issued_wordIssued hn)).after engLike_cycles
  above := habove
  limit := hmax
  moves := moves_wordRead_issued.andThen moves_cycles
  nums r j hr ha hp := by
    have h60 : [0x60].contains r.page = false := by simp at hp ⊢; exact hp.2
    have h03 : [0x03].contains r.page = false := by simp at hp ⊢; exact hp.1
    have hw := moves_wordIssued (d := d.wordRead k pc ue) (k := k) (i := i) (t := t) (th := d.thread k) (pc := pc) (n := n) (cost := cost)
    rw [num_cycles hr, hw.num r j hr h60, num_wordRead hr ha h03]

theorem WordGone.cycles {ev m : Nat} (h : WordGone d e k cost t) : WordGone d (e.cycles c ev m) k cost t where
  issued := h.issued.after engLike_cycles
  above := h.above
  limit := h.limit
  moves := h.moves.andThen moves_cycles
  nums r j hr ha hp := by rw [num_cycles hr, h.nums r j hr ha hp]

theorem WordGone.thread (h : WordGone d e k cost t) : e.thread k = { d.thread k with cost := cost } := h.issued.thread

theorem wordTime_pos {w : Nat} : 0 < d.wordTime w := Nat.succ_pos _

/-- A word that does not fault of itself goes on. -/
theorem issue_goes (h : d.issues k i t cond pc imm extra) (hue : ue.bad = false) (hx : bit (waste t (d.thread k)) ≤ extra)
    (hb : bad (d.thread k) = false) :
    ∃ (e : Dev) (cost : Nat), d.issue k cond ue waste bad f = f e i t { d.thread k with cost := cost } pc imm ∧ WordGone d e k cost t := by
  obtain ⟨hmay, hrun, hlate, w, hf, hcond, himm, hram, hnano, hmax⟩ := h
  have hle : d.wordCost k pc w (bit (waste t (d.thread k))) ≤ d.maxCycles t := by
    unfold wordCost wordTime
    omega
  have habove : (d.thread k).cost < d.wordCost k pc w (bit (waste t (d.thread k))) := by
    have := wordTime_pos (d := d) (w := w)
    unfold wordCost
    omega
  have hg := (wordGone_counted (i := i) (pc := pc) (ue := ue) (n := d.wordTime w) (ev := 0x100) (m := d.wordTime w) wordTime_pos habove hle).cycles
    (c := thrFrond k) (ev := 0x101) (m := bit (waste t (d.thread k)))
  refine ⟨_, _, ?_, hg⟩
  have ht : ((d.wordRead k pc ue).wordIssued k i t (d.thread k) pc (d.wordTime w) (d.wordCost k pc w (bit (waste t (d.thread k))))).thread k =
      { d.thread k with cost := d.wordCost k pc w (bit (waste t (d.thread k))) } := (issued_wordIssued wordTime_pos).thread
  rw [issue_word hmay hrun hlate hf hcond hram hnano hue hle, hb, if_neg (by decide), ht, himm]
  rfl

/-- A word that faults of itself. -/
theorem issue_faults (h : d.issues k i t cond pc imm extra) (hue : ue.bad = false) (hx : bit (waste t (d.thread k)) ≤ extra)
    (hb : bad (d.thread k) = true) :
    ∃ (e : Dev) (cost : Nat), d.issue k cond ue waste bad f = e.fault k i t pc 3 ∧ WordGone d e k cost t := by
  obtain ⟨hmay, hrun, hlate, w, hf, hcond, himm, hram, hnano, hmax⟩ := h
  have hle : d.wordCost k pc w (bit (waste t (d.thread k))) ≤ d.maxCycles t := by
    unfold wordCost wordTime
    omega
  have habove : (d.thread k).cost < d.wordCost k pc w (bit (waste t (d.thread k))) := by
    have := wordTime_pos (d := d) (w := w)
    unfold wordCost
    omega
  refine ⟨_, _, ?_, wordGone_counted (i := i) (pc := pc) (ue := ue) (n := d.wordTime w) (ev := 0x101) (m := d.wordTime w) wordTime_pos habove hle⟩
  rw [issue_word hmay hrun hlate hf hcond hram hnano hue hle, hb, if_pos rfl]

/-- A word that reads uncorrectably ends its task. -/
theorem issue_unread {w : Option Nat} (hmay : d.mayIssue k = true) (hrun : d.running k = some (i, t))
    (hf : d.fetch (thrFrond k) (d.thread k).pc = (pc, w)) (hue : ue.bad = true) :
    d.issue k cond ue waste bad f = (d.wordRead k pc ue).fault k i t pc 6 := by
  unfold issue onThread
  rw [hmay, hrun, if_neg (by decide)]
  simp only [hf, hue, Bool.not_true, Bool.false_and, Bool.false_eq_true, if_false, if_true]
  rfl

theorem issue_idle (h : d.mayIssue k = false ∨ d.running k = none) : d.issue k cond ue waste bad f = d := by
  unfold issue onThread
  rcases h with h | h
  · rw [h]
    rfl
  · rw [h]
    exact ite_self _

/-! ### The sixteen ways on -/

theorem thread_goto : (d.goto k n).thread k = { d.thread k with pc := n } := thread_updThread_same _ _ _
theorem task_goto : (d.goto k n).task c i = d.task c i := rfl
theorem moves_goto : d.moves (d.goto k n) [.eng] [] := d.still.updThread

theorem taskAt_running (h : d.running k = some (i, t)) : d.task (thrFrond k) i = some t := by
  unfold running at h
  split at h
  · unfold taskOn at h
    split at h
    · next j hj =>
      obtain ⟨u, hu, hp⟩ := Option.map_eq_some_iff.mp h
      cases hp
      exact hu
    · cases h
  · cases h

theorem threadTask_running (h : d.running k = some (i, t)) : (d.thread k).task = some i := by
  unfold running at h
  split at h
  · unfold taskOn at h
    split at h
    · next j hj =>
      obtain ⟨u, hu, hp⟩ := Option.map_eq_some_iff.mp h
      cases hp
      exact hj
    · cases h
  · cases h

end Sys2Proof.Machine.Dev

namespace Sys2Proof.Machine
open Sys2Proof
variable {s : State} {x : Instr} {frond thread k i pc imm cond extra to_ : Nat} {t : Task} {ue : WordGuard} {waste : Task → Thread → Bool}
  {bad : Thread → Bool} {f : Dev → Nat → Task → Thread → Nat → Nat → Dev} {p : Dev → Prop}

theorem gives_issue (hx : exec x s = s.run fun d => d.issue k cond ue waste bad f) (hon : s.Awake) (hue : ue.bad = false)
    (hi : s.dev.issues k i t cond pc imm extra) (hw : bit (waste t (s.dev.thread k)) ≤ extra) (hb : bad (s.dev.thread k) = false)
    (hp : ∀ (e : Dev) (cost : Nat), Dev.WordGone s.dev e k cost t → p (s.dev.under (f e i t { s.dev.thread k with cost := cost } pc imm))) :
    Gives x s p := by
  refine gives_run hx hon ?_
  obtain ⟨e, cost, he, hg⟩ := Dev.issue_goes (f := f) hi hue hw hb
  rw [he]
  exact hp e cost hg

/-- A word whose only effect is where its thread goes on. -/
theorem gives_goto {to_ : Task → Thread → Nat → Nat → Nat}
    (hx : exec x s = s.run fun d => d.issue k cond ue waste noFault fun d _ t th pc imm => d.goto k (to_ t th pc imm)) (hon : s.Awake)
    (hue : ue.bad = false) (hi : s.dev.issues k i t cond pc imm extra) (hw : bit (waste t (s.dev.thread k)) ≤ extra)
    (hto : ∀ cost, to_ t { s.dev.thread k with cost := cost } pc imm = to_ t (s.dev.thread k) pc imm) :
    Gives x s fun d => (∃ cost, d.thread k = { s.dev.thread k with pc := to_ t (s.dev.thread k) pc imm, cost := cost } ∧
        (s.dev.thread k).cost < cost ∧ cost ≤ s.dev.maxCycles t) ∧
      d.task (thrFrond k) i = some t ∧ s.dev.moves d [.draws, .frees, .eng] [0x03, 0x31, 0x60] := by
  refine gives_issue hx hon hue hi hw rfl fun e cost hg => ?_
  have hm : s.dev.moves (e.goto k (to_ t (s.dev.thread k) pc imm)) [.draws, .frees, .eng] [0x03, 0x31, 0x60] := hg.moves.andThen Dev.moves_goto
  rw [hto, hm.under_eq]
  refine ⟨⟨cost, ?_, hg.above, hg.limit⟩, ?_, hm⟩
  · rw [Dev.thread_goto, hg.thread]
  · rw [Dev.task_goto, hg.issued.task, Dev.taskAt_running hi.2.1]

theorem bit_le_one (b : Bool) : bit b ≤ 1 := by cases b <;> decide

end Sys2Proof.Machine
end

section
set_option Elab.async false
/-! The ways a thread goes on (R241, R246, R264, R265). -/

namespace Sys2Proof.Machine
open Sys2Proof

theorem Thread.rg_put_pc (th : Thread) (n c i : Nat) : ({ th with cost := c, pc := n } : Thread).rg i = th.rg i := rfl

namespace Dev
variable {d e : Dev} {c i j k n pc cost p : Nat} {t u : Task}

/-! ### WAIT -/

/-- A thread that goes on at an address with its task's flags consumed. -/
def waitPassed (d : Dev) (k i : Nat) (t : Task) (next : Nat) : Dev :=
  ((d.goto k next).setTask (thrFrond k) i (some { t with flags := t.flags &&& (0xFFFF ^^^ (t.flags &&& t.mask)) })).updThread k fun th =>
    th.wg 1 (t.flags &&& t.mask)

theorem waitWord_holds (h : t.holds = true) : d.waitWord k i t n = d.waitPassed k i t n := by
  unfold waitWord
  exact if_pos h

/-- A thread that waits with its task on it. -/
def waitHeld (d : Dev) (k next : Nat) : Dev := (d.goto k next).updThread k fun th => { th with wait := some .cond }

theorem waitWord_held (h : t.holds = false) (hp : pktKind t.kind = true) : d.waitWord k i t n =
    ((d.waitHeld k n).taskCnt (thrFrond k) 3).trace (thrFrond k) 2 (k % 256) (t.id i) t.mask t.kind := by
  unfold waitWord
  exact (if_neg (by rw [h]; decide)).trans (if_pos (by rw [hp, Bool.true_or]))

/-- A thread that its blocked task has left. -/
def waitLeft (d : Dev) (k i : Nat) (t : Task) (next : Nat) : Dev :=
  ((d.goto k next).setTask (thrFrond k) i (some (t.leave ((d.goto k next).thread k) next))).setThread k {}

theorem waitWord_left (h : t.holds = false) (hp : pktKind t.kind = false)
    (hb : (d.goto k n).blockedHeld (thrFrond k) < 4096 - d.num TASK.RESERVE) : d.waitWord k i t n =
    ((d.waitLeft k i t n).taskCnt (thrFrond k) 2).trace (thrFrond k) 1 (k % 256) (t.id i) t.mask t.kind := by
  have hr : (d.goto k n).num TASK.RESERVE = d.num TASK.RESERVE := rfl
  have hn : (pktKind t.kind || decide (4096 - (d.goto k n).num TASK.RESERVE ≤ (d.goto k n).blockedHeld (thrFrond k))) = false := by
    rw [hp, hr, Bool.false_or]
    exact decide_eq_false (by omega)
  unfold waitWord
  refine (if_neg (by rw [h]; decide)).trans ((if_neg ?_).trans rfl)
  intro hx
  exact Bool.false_ne_true (hn.symm.trans hx)

theorem thread_waitPassed : (d.waitPassed k i t n).thread k = { d.thread k with pc := n }.wg 1 (t.flags &&& t.mask) := by
  rw [waitPassed, thread_updThread_same]
  have h : ((d.goto k n).setTask (thrFrond k) i (some { t with flags := t.flags &&& (0xFFFF ^^^ (t.flags &&& t.mask)) })).thread k = (d.goto k n).thread k := rfl
  rw [h, thread_goto]

theorem task_waitPassed : (d.waitPassed k i t n).task (thrFrond k) i = some { t with flags := t.flags &&& (0xFFFF ^^^ (t.flags &&& t.mask)) } := by
  rw [waitPassed, task_updThread, task_setTask_same]

theorem moves_waitPassed : d.moves (d.waitPassed k i t n) [.eng] [] := ((d.still.andThen moves_goto).setTask).updThread

theorem thread_waitHeld : (d.waitHeld k n).thread k = { d.thread k with pc := n, wait := some .cond } := by
  rw [waitHeld, thread_updThread_same, thread_goto]
theorem task_waitHeld : (d.waitHeld k n).task c i = d.task c i := rfl
theorem moves_waitHeld : d.moves (d.waitHeld k n) [.eng] [] := (d.still.andThen moves_goto).updThread

theorem thread_waitLeft : (d.waitLeft k i t n).thread k = {} := thread_setThread_same _ _ _
theorem task_setThread {th : Thread} : (d.setThread k th).task c i = d.task c i := rfl
theorem task_waitLeft : (d.waitLeft k i t n).task (thrFrond k) i = some (t.leave { d.thread k with pc := n } n) := by
  rw [waitLeft, task_setThread, task_setTask_same, thread_goto]
theorem moves_waitLeft : d.moves (d.waitLeft k i t n) [.eng] [] := ((d.still.andThen moves_goto).setTask).setThread

/-! ### Blocked tasks, where a thread that does not wait goes on -/

theorem blockedOn_mono (hm : ∀ x ∈ e.eng.threads, x ∈ d.eng.threads ∨ x.2.wait = none) (h : e.blockedOn c i = true) :
    d.blockedOn c i = true := by
  unfold blockedOn at h ⊢
  obtain ⟨x, hx, hp⟩ := List.any_eq_true.mp h
  rcases hm x hx with hd | hw
  · exact List.any_eq_true.mpr ⟨x, hd, hp⟩
  · rw [hw] at hp
    simp at hp

theorem blockedHeld_le (ht : e.eng.tasks = d.eng.tasks) (hm : ∀ x ∈ e.eng.threads, x ∈ d.eng.threads ∨ x.2.wait = none) :
    e.blockedHeld c ≤ d.blockedHeld c := by
  have hs : e.storeOf c = d.storeOf c := by rw [storeOf, ht, storeOf]
  unfold blockedHeld
  rw [hs]
  refine (List.monotone_filter_right _ fun x hx => ?_).length_le
  unfold isBlocked at hx ⊢
  simp only [Bool.or_eq_true, Bool.and_eq_true] at hx ⊢
  exact hx.imp_right fun ⟨h2, hb⟩ => ⟨h2, blockedOn_mono hm hb⟩

theorem Issued.mem {th : Thread} (h : Issued d e k cost th) (hw : th.wait = none) : ∀ x ∈ e.eng.threads, x ∈ d.eng.threads ∨ x.2.wait = none := by
  intro x hx
  rw [h.threads] at hx
  rcases SMap.mem_of_mem_set hx with hx | rfl
  · rcases SMap.mem_of_mem_set hx with hx | rfl
    · exact .inl hx
    · exact .inr hw
  · exact .inr hw

theorem blockedHeld_goto {th : Thread} (h : Issued d e k cost th) (hw : th.wait = none) : (e.goto k n).blockedHeld c ≤ d.blockedHeld c := by
  refine blockedHeld_le ((tasks_updThread).trans h.tasks) fun x hx => ?_
  rcases SMap.mem_of_mem_set (show x ∈ e.eng.threads.set {} k { e.thread k with pc := n } from hx) with hx | rfl
  · exact h.mem hw x hx
  · refine .inr ?_
    show (e.thread k).wait = none
    rw [h.thread]
    exact hw

end Dev

variable {s : State} {x : Instr} {frond thread i pc imm a cond : Nat} {r : List Nat} {t : Task} {ue : WordGuard} {taken : Bool}

/-! ### The commands -/

theorem gives_nextGoto {to_ : Nat} (hon : s.Awake) (hue : ue.bad = false)
    (hx : (x = .next frond thread ue ∧ cond = 0 ∧ to_ = nextPc pc) ∨ (x = .goto frond thread ue ∧ cond = 1 ∧ to_ = targetPc imm 0))
    (hi : s.dev.issues (thrKey frond thread) i t cond pc imm 0) :
    Gives x s fun d => (∃ cost, d.thread (thrKey frond thread) = { s.dev.thread (thrKey frond thread) with pc := to_, cost := cost } ∧
        (s.dev.thread (thrKey frond thread)).cost < cost ∧ cost ≤ s.dev.maxCycles t) ∧
      d.task (frond % 8) i = some t ∧ s.dev.moves d [.draws, .frees, .eng] [0x03, 0x31, 0x60] := by
  have hf := thrFrond_thrKey frond thread
  rcases hx with ⟨rfl, rfl, rfl⟩ | ⟨rfl, rfl, rfl⟩
  · have h := gives_goto (x := .next frond thread ue) (to_ := fun _ _ pc _ => nextPc pc) rfl hon hue hi (Nat.zero_le _) fun _ => rfl
    rw [hf] at h
    exact h
  · have h := gives_goto (x := .goto frond thread ue) (to_ := fun _ _ _ imm => targetPc imm 0) rfl hon hue hi (Nat.zero_le _) fun _ => rfl
    rw [hf] at h
    exact h

/-- A branch on what its thread and its task show. -/
theorem gives_branch {tk : Task → Thread → Bool} (hx : exec x s = s.run fun d => d.branch (thrKey frond thread) cond ue tk) (hon : s.Awake)
    (hue : ue.bad = false) (hi : s.dev.issues (thrKey frond thread) i t cond pc imm 1)
    (htk : ∀ cost, tk t { s.dev.thread (thrKey frond thread) with cost := cost } = tk t (s.dev.thread (thrKey frond thread)))
    (ht : taken = tk t (s.dev.thread (thrKey frond thread))) :
    Gives x s fun d => (∃ cost, d.thread (thrKey frond thread) =
        { s.dev.thread (thrKey frond thread) with pc := if taken then targetPc imm 0 else nextPc pc, cost := cost } ∧
        (s.dev.thread (thrKey frond thread)).cost < cost ∧ cost ≤ s.dev.maxCycles t) ∧
      d.task (frond % 8) i = some t ∧ s.dev.moves d [.draws, .frees, .eng] [0x03, 0x31, 0x60] := by
  have h := gives_goto (to_ := fun t th pc imm => if tk t th then targetPc imm 0 else nextPc pc) hx hon hue hi (bit_le_one _)
    fun cost => by rw [htk cost]
  rw [thrFrond_thrKey] at h
  subst ht
  exact h

theorem gives_conditional {th : Thread} (hon : s.Awake) (hue : ue.bad = false) (hth : th = s.dev.thread (thrKey frond thread))
    (hx : (x = .ifZ frond thread ue ∧ cond = 2 ∧ taken = th.z) ∨ (x = .ifNz frond thread ue ∧ cond = 3 ∧ taken = !th.z) ∨
      (x = .ifC frond thread ue ∧ cond = 4 ∧ taken = th.c) ∨ (x = .ifNc frond thread ue ∧ cond = 5 ∧ taken = !th.c) ∨
      (x = .ifN frond thread ue ∧ cond = 6 ∧ taken = th.n) ∨ (x = .ifZn frond thread ue ∧ cond = 7 ∧ taken = (th.z || th.n)) ∨
      (x = .ifHit frond thread ue ∧ cond = 8 ∧ taken = t.view.hit) ∨
      (x = .ifUpdFail frond thread ue ∧ cond = 9 ∧ taken = decide (th.sts % 256 ≠ 0)) ∨
      (x = .ifUnitErr frond thread ue ∧ cond = 10 ∧ taken = decide (th.sts / 256 % 256 ≠ 0)))
    (hi : s.dev.issues (thrKey frond thread) i t cond pc imm 1) :
    Gives x s fun d => (∃ cost, d.thread (thrKey frond thread) =
        { th with pc := if taken then targetPc imm 0 else nextPc pc, cost := cost } ∧ th.cost < cost ∧ cost ≤ s.dev.maxCycles t) ∧
      d.task (frond % 8) i = some t ∧ s.dev.moves d [.draws, .frees, .eng] [0x03, 0x31, 0x60] := by
  subst hth
  rcases hx with ⟨rfl, rfl, h⟩ | ⟨rfl, rfl, h⟩ | ⟨rfl, rfl, h⟩ | ⟨rfl, rfl, h⟩ | ⟨rfl, rfl, h⟩ | ⟨rfl, rfl, h⟩ | ⟨rfl, rfl, h⟩ | ⟨rfl, rfl, h⟩ |
    ⟨rfl, rfl, h⟩
  · exact gives_branch (tk := fun _ th => th.z) rfl hon hue hi (fun _ => rfl) h
  · exact gives_branch (tk := fun _ th => !th.z) rfl hon hue hi (fun _ => rfl) h
  · exact gives_branch (tk := fun _ th => th.c) rfl hon hue hi (fun _ => rfl) h
  · exact gives_branch (tk := fun _ th => !th.c) rfl hon hue hi (fun _ => rfl) h
  · exact gives_branch (tk := fun _ th => th.n) rfl hon hue hi (fun _ => rfl) h
  · exact gives_branch (tk := fun _ th => th.z || th.n) rfl hon hue hi (fun _ => rfl) h
  · exact gives_branch (tk := fun t _ => t.view.hit) rfl hon hue hi (fun _ => rfl) h
  · exact gives_branch (tk := fun _ th => th.sts % 256 ≠ 0) rfl hon hue hi (fun _ => rfl) h
  · exact gives_branch (tk := fun _ th => th.sts / 256 % 256 ≠ 0) rfl hon hue hi (fun _ => rfl) h

theorem gives_call (hon : s.Awake) (hue : ue.bad = false) (hi : s.dev.issues (thrKey frond thread) i t 11 pc imm 0)
    (hs : (s.dev.thread (thrKey frond thread)).stack.length < 4) :
    Gives (.call frond thread ue) s fun d => (d.thread (thrKey frond thread)).pc = targetPc imm 0 ∧
      (d.thread (thrKey frond thread)).stack = nextPc pc :: (s.dev.thread (thrKey frond thread)).stack ∧
      s.dev.moves d [.draws, .frees, .eng] [0x03, 0x31, 0x60] := by
  refine gives_issue (x := .call frond thread ue) rfl hon hue hi (Nat.zero_le _) (decide_eq_false (by omega)) fun e cost hg => ?_
  have hm : s.dev.moves ((e.updThread (thrKey frond thread) fun th => { th with stack := nextPc pc :: th.stack }).goto (thrKey frond thread)
      (targetPc imm 0)) [.draws, .frees, .eng] [0x03, 0x31, 0x60] := hg.moves.updThread.andThen Dev.moves_goto
  rw [hm.under_eq]
  rw [Dev.thread_goto, Dev.thread_updThread_same, hg.thread]
  exact ⟨rfl, rfl, hm⟩

theorem gives_ret (hon : s.Awake) (hue : ue.bad = false) (hi : s.dev.issues (thrKey frond thread) i t 12 pc imm 1)
    (hs : (s.dev.thread (thrKey frond thread)).stack = a :: r) :
    Gives (.ret frond thread ue) s fun d => (d.thread (thrKey frond thread)).pc = a ∧ (d.thread (thrKey frond thread)).stack = r ∧
      s.dev.moves d [.draws, .frees, .eng] [0x03, 0x31, 0x60] := by
  refine gives_issue (x := .ret frond thread ue) rfl hon hue hi (bit_le_one _) (by rw [hs]; rfl) fun e cost hg => ?_
  have hm : s.dev.moves ((e.updThread (thrKey frond thread) fun th => { th with stack := th.stack.drop 1 }).goto (thrKey frond thread)
      (({ s.dev.thread (thrKey frond thread) with cost := cost } : Thread).stack.headD 0)) [.draws, .frees, .eng] [0x03, 0x31, 0x60] :=
    hg.moves.updThread.andThen Dev.moves_goto
  rw [hm.under_eq]
  rw [Dev.thread_goto, Dev.thread_updThread_same, hg.thread]
  refine ⟨?_, ?_, hm⟩
  · show (s.dev.thread (thrKey frond thread)).stack.headD 0 = a
    rw [hs]
    rfl
  · show (s.dev.thread (thrKey frond thread)).stack.drop 1 = r
    rw [hs]
    rfl

theorem gives_dispatchWord (hon : s.Awake) (hue : ue.bad = false) (hi : s.dev.issues (thrKey frond thread) i t 13 pc imm 1) :
    Gives (.dispatch frond thread ue) s fun d => (d.thread (thrKey frond thread)).pc =
        targetPc imm ((s.dev.thread (thrKey frond thread)).rg 1 % 16) ∧ s.dev.moves d [.draws, .frees, .eng] [0x03, 0x31, 0x60] := by
  have h := gives_goto (x := .dispatch frond thread ue) (to_ := fun _ th _ imm => targetPc imm (th.rg 1 % 16)) rfl hon hue hi (bit_le_one true) fun _ => rfl
  refine h.mono fun d hd => ?_
  obtain ⟨⟨cost, ht, -, -⟩, -, hm⟩ := hd
  exact ⟨by rw [ht], hm⟩

theorem gives_waitPassed (hon : s.Awake) (hue : ue.bad = false) (hi : s.dev.issues (thrKey frond thread) i t 14 pc imm 0) (hh : t.holds = true) :
    Gives (.wait frond thread ue) s fun d => (d.thread (thrKey frond thread)).pc = nextPc pc ∧
      (d.thread (thrKey frond thread)).rg 1 = (t.flags &&& t.mask) % 2 ^ 32 ∧
      d.task (frond % 8) i = some { t with flags := t.flags &&& (0xFFFF ^^^ (t.flags &&& t.mask)) } ∧
      s.dev.moves d [.draws, .frees, .eng] [0x03, 0x31, 0x60] := by
  refine gives_issue (x := .wait frond thread ue) rfl hon hue hi (Nat.zero_le _) rfl fun e cost hg => ?_
  have hm : s.dev.moves (e.waitPassed (thrKey frond thread) i t (nextPc pc)) [.draws, .frees, .eng] [0x03, 0x31, 0x60] :=
    hg.moves.andThen Dev.moves_waitPassed
  have hk := Dev.task_waitPassed (d := e) (k := thrKey frond thread) (i := i) (t := t) (n := nextPc pc)
  rw [thrFrond_thrKey] at hk
  rw [Dev.waitWord_holds hh, hm.under_eq, Dev.thread_waitPassed]
  exact ⟨rfl, Thread.rg_wg_same _ _ (by decide), hk, hm⟩

theorem gives_waitHeld (hon : s.Awake) (hue : ue.bad = false) (hi : s.dev.issues (thrKey frond thread) i t 14 pc imm 0) (hh : t.holds = false)
    (hp : pktKind t.kind = true) :
    Gives (.wait frond thread ue) s fun d => (d.thread (thrKey frond thread)).pc = nextPc pc ∧
      (d.thread (thrKey frond thread)).wait = some .cond ∧ (d.thread (thrKey frond thread)).task = some i ∧
      d.task (frond % 8) i = some t ∧ s.dev.moves d [.draws, .frees, .eng] [0x03, 0x31, 0x32, 0x60] := by
  refine gives_issue (x := .wait frond thread ue) rfl hon hue hi (Nat.zero_le _) rfl fun e cost hg => ?_
  have hm : s.dev.moves (((e.waitHeld (thrKey frond thread) (nextPc pc)).taskCnt (thrFrond (thrKey frond thread)) 3).trace
      (thrFrond (thrKey frond thread)) 2 (thrKey frond thread % 256) (t.id i) t.mask t.kind) [.draws, .frees, .eng] [0x03, 0x31, 0x32, 0x60] :=
    (((hg.moves.mono rfl rfl).andThen Dev.moves_waitHeld).andThen Dev.moves_taskCnt).andThen Dev.moves_trace
  have hk := Dev.taskAt_running hi.2.1
  rw [thrFrond_thrKey] at hk
  rw [Dev.waitWord_held hh hp, hm.under_eq, Dev.thread_view Dev.taskView_trace, Dev.thread_view Dev.taskView_taskCnt, Dev.thread_waitHeld,
    Dev.task_congr Dev.taskView_trace, Dev.task_congr Dev.taskView_taskCnt, Dev.task_waitHeld, hg.thread, hg.issued.task]
  exact ⟨rfl, rfl, Dev.threadTask_running hi.2.1, hk, hm⟩

theorem gives_waitLeft (hon : s.Awake) (hue : ue.bad = false) (hi : s.dev.issues (thrKey frond thread) i t 14 pc imm 0) (hh : t.holds = false)
    (hp : pktKind t.kind = false) (hb : s.dev.blockedHeld (frond % 8) < 4096 - s.dev.num TASK.RESERVE) :
    Gives (.wait frond thread ue) s fun d => d.thread (thrKey frond thread) = {} ∧
      (∃ u, d.task (frond % 8) i = some u ∧ u.state = 3 ∧ u.resume = nextPc pc % 2 ^ 14 ∧
        u.stack = (s.dev.thread (thrKey frond thread)).stack.map (· % 2 ^ 14) ∧ u.sts = (s.dev.thread (thrKey frond thread)).sts ∧
        u.saved = [1, 2, 3, 4].map (s.dev.thread (thrKey frond thread)).rg ∧ u.mask = t.mask ∧ u.flags = t.flags ∧ u.gen = t.gen) ∧
      s.dev.moves d [.draws, .frees, .eng] [0x03, 0x31, 0x32, 0x60] := by
  refine gives_issue (x := .wait frond thread ue) rfl hon hue hi (Nat.zero_le _) rfl fun e cost hg => ?_
  have hm : s.dev.moves (((e.waitLeft (thrKey frond thread) i t (nextPc pc)).taskCnt (thrFrond (thrKey frond thread)) 2).trace
      (thrFrond (thrKey frond thread)) 1 (thrKey frond thread % 256) (t.id i) t.mask t.kind) [.draws, .frees, .eng] [0x03, 0x31, 0x32, 0x60] :=
    (((hg.moves.mono rfl rfl).andThen Dev.moves_waitLeft).andThen Dev.moves_taskCnt).andThen Dev.moves_trace
  have hle := Dev.blockedHeld_goto (n := nextPc pc) (c := frond % 8) hg.issued (Dev.running_wait hi.2.1)
  have hroom : (e.goto (thrKey frond thread) (nextPc pc)).blockedHeld (thrFrond (thrKey frond thread)) < 4096 - e.num TASK.RESERVE := by
    rw [thrFrond_thrKey, hg.moves.num TASK.RESERVE 0 rfl rfl]
    omega
  have hk := Dev.task_waitLeft (d := e) (k := thrKey frond thread) (i := i) (t := t) (n := nextPc pc)
  rw [thrFrond_thrKey, hg.thread] at hk
  rw [Dev.waitWord_left hh hp hroom, hm.under_eq, Dev.thread_view Dev.taskView_trace, Dev.thread_view Dev.taskView_taskCnt, Dev.thread_waitLeft,
    Dev.task_congr Dev.taskView_trace, Dev.task_congr Dev.taskView_taskCnt]
  exact ⟨rfl, ⟨_, hk, rfl, rfl, rfl, rfl, rfl, rfl, rfl, rfl⟩, hm⟩

theorem gives_nextTurn (hon : s.Awake) (hue : ue.bad = false) (hi : s.dev.issues (thrKey frond thread) i t 0 pc imm 0) :
    Gives (.next frond thread ue) s fun d => d.wordStage (thrKey frond thread) = 0 ∧
      d.eng.last.get 15 (thrKey frond thread / 16) = thrKey frond thread % 16 ∧
      s.dev.clk.up < d.eng.port.get 0 (thrKey frond thread / 16) := by
  refine gives_issue (x := .next frond thread ue) rfl hon hue hi (Nat.zero_le _) rfl fun e cost hg => ?_
  have hm : s.dev.moves (e.goto (thrKey frond thread) (nextPc pc)) [.draws, .frees, .eng] [0x03, 0x31, 0x60] := hg.moves.andThen Dev.moves_goto
  rw [hm.under_eq]
  exact ⟨hg.issued.stage, hg.issued.last, hg.issued.port⟩

end Sys2Proof.Machine
end

section
set_option Elab.async false
/-! END and faults (R241 to R243). -/

namespace Sys2Proof.Machine
open Sys2Proof

namespace Dev
variable {d e : Dev} {c i j k n pc cost f addr cause : Nat} {t u : Task} {x y : Frame} {th : Thread} {p : LibPlan}

theorem frame_setFrame_same : (d.setFrame k x).frame k = some x := by
  unfold frame setFrame
  exact SMap.get_set_same d.sw.frames none k (some x)

theorem frame_updFrame_same {g : Frame → Frame} (h : d.frame k = some x) : (d.updFrame k g).frame k = some (g x) := by
  unfold updFrame
  rw [h]
  exact frame_setFrame_same

theorem frame_congr (h : e.sw = d.sw) : e.frame k = d.frame k := by rw [frame, h, frame]

/-- A frame as its task lets it go. -/
def letGo (th : Thread) (x : Frame) : Frame :=
  { x with ctx := { x.ctx with res := th.res, edits := th.edits, byTask := true, task := none }, stage := .edit }

theorem endTaskOn_packet (h : t.desc = some f) (hx : d.frame f = some x) (ho : th.ovf = false) :
    d.endTaskOn k i t th false = (d.updFrame f (letGo th)).finish k i t 0 := by
  unfold endTaskOn releasePacket
  rw [h]
  dsimp only
  rw [hx]
  dsimp only
  rw [ho]
  rfl

theorem endTaskOn_unpacked {delta : Bool} (h : t.desc = none) : d.endTaskOn k i t th delta = d.finish k i t 0 := by
  unfold endTaskOn releasePacket
  rw [h]

theorem calm.updFrame {g : Frame → Frame} (h : d.calm) : (d.updFrame k g).calm := h.of_eng moves_updFrame.keeps_eng
theorem unheld.updFrame {g : Frame → Frame} (h : d.unheld) : (d.updFrame k g).unheld := h.of_flow moves_updFrame.keeps_flow

/-! ### The library's END -/

theorem withPlan_plain {f : Dev → LibPlan → Dev} (h : (d.thread k).plan = some p) (ha : p.ask = none) : d.withPlan k t f = f d p := by
  have hd : d.planned k t = d := by
    unfold planned
    rw [h]
    rfl
  have hp : d.planOf k t = p := by
    unfold planOf
    dsimp only
    rw [h]
  unfold withPlan
  simp only [hd, hp, ha, Option.isSome_none, Bool.false_eq_true, if_false]

/-- The counters of a plan. -/
def planCounted (d : Dev) (c : Nat) (p : LibPlan) : Dev := p.cnts.foldl (fun (d : Dev) (x : Nat × Nat) => d.libCount c x.1 x.2) d

theorem moves_planCounted : d.moves (d.planCounted c p) [.eng] [] := d.still.foldl fun h => h.set_eng

theorem calm.planCounted (h : d.calm) : (d.planCounted c p).calm := by
  unfold Dev.planCounted
  generalize p.cnts = l
  induction l generalizing d with
  | nil => exact h
  | cons x l ih => exact ih (h.of_threads (e := d.libCount c x.1 x.2) rfl)

theorem endLibrary_done (h : (d.thread k).plan = some p) (ha : p.ask = none) (hput : p.put = none) (hdel : p.del = none) (he : p.emit = [])
    (hh : p.harv = false) (ht : t.desc = none) : d.endLibrary k i t = (d.planCounted (thrFrond k) p).finish k i t 0 := by
  unfold endLibrary
  rw [withPlan_plain h ha, hput, hdel, he, hh]
  exact (if_neg (by decide)).trans (endTaskOn_unpacked ht)

theorem endLibrary_open (h : (d.thread k).plan = some p) (ha : p.ask = none)
    (ho : p.put.isSome = true ∨ p.del.isSome = true ∨ p.emit ≠ [] ∨ p.harv = true) : d.endLibrary k i t = d := by
  unfold endLibrary
  rw [withPlan_plain h ha]
  refine if_pos ?_
  rcases ho with h | h | h | h
  · simp [h]
  · simp [h]
  · simp [h]
  · simp [h]

theorem onThread_running {f : Dev → Nat → Task → Thread → Dev} (h : d.running k = some (i, t)) : d.onThread k f = f d i t (d.thread k) := by
  unfold onThread
  rw [h]

theorem onThread_none {f : Dev → Nat → Task → Thread → Dev} (h : d.running k = none) : d.onThread k f = d := by
  unfold onThread
  rw [h]

/-! ### What a task that ends leaves -/

theorem quiet.calm (h : d.quiet) : d.calm := h.1
theorem quiet.unheld (h : d.quiet) : d.unheld := h.2

theorem WordGone.calm (h : WordGone d e k cost t) (hq : d.quiet) : e.calm := h.issued.calm hq.1 (calm.wait (d := d) hq.1)
theorem WordGone.unheld (h : WordGone d e k cost t) (hq : d.quiet) : e.unheld := unheld.of_flow (d := d) hq.2 h.moves.keeps_flow

theorem under_finish {P : List Part} {G : List Nat} {fl : Nat} (hm : d.moves e P G) (hc : e.calm) (hu : e.unheld)
    (hclk : P.contains .clk = false := by rfl) (hotp : P.contains .otp = false := by rfl) : d.under (e.finish k i t fl) = e.finish k i t fl := by
  have hf := moves_finish (k := k) (i := i) (t := t) (fl := fl) hc hu
  have h1 : (e.finish k i t fl).clk = d.clk := hf.keeps_clk.trans (hm.keeps_clk hclk)
  have h2 : (e.finish k i t fl).otp = d.otp := hf.keeps_otp.trans (hm.keeps_otp hotp)
  rw [Dev.under, ← h1, ← h2]

end Dev

variable {s : State} {x : Instr} {frond thread i pc imm f cond : Nat} {t : Task} {ue : WordGuard} {fr : Frame} {p : LibPlan}

theorem exec_endOwn : exec (.endTask frond thread .own ue) s = s.run fun d => d.issue (thrKey frond thread) 15 ue noWaste noFault
    fun d i t th _ imm => d.endTaskOn (thrKey frond thread) i t th (bitOf imm 0) := rfl

theorem gives_endPacket (hon : s.Awake) (hue : ue.bad = false) (hq : s.dev.quiet)
    (hi : s.dev.issues (thrKey frond thread) i t 15 pc imm 0) (hd : t.desc = some f) (hx : s.dev.frame f = some fr) (h0 : bitOf imm 0 = false)
    (ho : (s.dev.thread (thrKey frond thread)).ovf = false) :
    Gives (.endTask frond thread .own ue) s fun d => d.thread (thrKey frond thread) = {} ∧ d.task (frond % 8) i = none ∧
      (∃ y, d.frame f = some y ∧ y.stage = .edit ∧ y.ctx.res = (s.dev.thread (thrKey frond thread)).res ∧
        y.ctx.edits = (s.dev.thread (thrKey frond thread)).edits ∧ y.ctx.byTask = true ∧ y.bytes = fr.bytes) := by
  refine gives_issue exec_endOwn hon hue hi (Nat.zero_le _) rfl fun e cost hg => ?_
  obtain ⟨th, hth⟩ : ∃ th : Thread, th = { s.dev.thread (thrKey frond thread) with cost := cost } := ⟨_, rfl⟩
  have hovf : th.ovf = false := by rw [hth]; exact ho
  have hres : th.res = (s.dev.thread (thrKey frond thread)).res := by rw [hth]
  have hedits : th.edits = (s.dev.thread (thrKey frond thread)).edits := by rw [hth]
  rw [← hth]
  have hxe : e.frame f = some fr := (Dev.frame_congr hg.moves.keeps_sw).trans hx
  have hm : s.dev.moves (e.updFrame f (Dev.letGo th)) [.draws, .frees, .eng, .sw] [0x03, 0x31, 0x60] :=
    (hg.moves.mono rfl rfl).andThen Dev.moves_updFrame
  have hc : (e.updFrame f (Dev.letGo th)).calm := (hg.calm hq).updFrame
  have hu : (e.updFrame f (Dev.letGo th)).unheld := (hg.unheld hq).updFrame
  have htask := Dev.task_finish (k := thrKey frond thread) (i := i) (t := t) (fl := 0) hc hu
  rw [thrFrond_thrKey] at htask
  rw [h0, Dev.endTaskOn_packet hd hxe hovf, Dev.under_finish hm hc hu]
  refine ⟨Dev.thread_finish hc hu, htask, _, (Dev.frame_congr (Dev.moves_finish hc hu).keeps_sw).trans (Dev.frame_updFrame_same hxe), rfl, hres,
    hedits, rfl, rfl⟩

theorem gives_endPlain (hon : s.Awake) (hue : ue.bad = false) (hq : s.dev.quiet)
    (hi : s.dev.issues (thrKey frond thread) i t 15 pc imm 0) (hd : t.desc = none) :
    Gives (.endTask frond thread .own ue) s fun d => d.thread (thrKey frond thread) = {} ∧ d.task (frond % 8) i = none ∧
      d.num FENG.TASKS_DONE (frond % 8) = (s.dev.num FENG.TASKS_DONE (frond % 8) + 1) % 2 ^ 32 := by
  refine gives_issue exec_endOwn hon hue hi (Nat.zero_le _) rfl fun e cost hg => ?_
  have hc := hg.calm hq
  have hu := hg.unheld hq
  have htask := Dev.task_finish (k := thrKey frond thread) (i := i) (t := t) (fl := 0) hc hu
  have hdone := Dev.num_finish_done (k := thrKey frond thread) (i := i) (t := t) (fl := 0) hc hu
  rw [thrFrond_thrKey] at htask hdone
  rw [Dev.endTaskOn_unpacked hd, Dev.under_finish hg.moves hc hu]
  refine ⟨Dev.thread_finish hc hu, htask, ?_⟩
  rw [hdone, hg.nums FENG.TASKS_DONE _ rfl rfl rfl]

theorem exec_endLibrary (hr : s.dev.running (thrKey frond thread) = some (i, t)) (hon : s.Awake)
    {p : Dev → Prop} (hp : p (s.dev.under (s.dev.endLibrary (thrKey frond thread) i t))) : Gives (.endTask frond thread .library ue) s p := by
  refine gives_run (f := fun d => d.onThread (thrKey frond thread) fun d i t _ => d.endLibrary (thrKey frond thread) i t) rfl hon ?_
  rw [Dev.onThread_running hr]
  exact hp

theorem gives_endLibrary (hon : s.Awake) (hq : s.dev.quiet) (hr : s.dev.running (thrKey frond thread) = some (i, t))
    (hplan : (s.dev.thread (thrKey frond thread)).plan = some p) (hput : p.put = none) (hdel : p.del = none) (he : p.emit = [])
    (hh : p.harv = false) (ha : p.ask = none) (hd : t.desc = none) :
    Gives (.endTask frond thread .library ue) s fun d => d.thread (thrKey frond thread) = {} ∧ d.task (frond % 8) i = none := by
  refine exec_endLibrary hr hon ?_
  have hc : (s.dev.planCounted (thrFrond (thrKey frond thread)) p).calm := Dev.calm.planCounted (d := s.dev) hq.1
  have hu : (s.dev.planCounted (thrFrond (thrKey frond thread)) p).unheld := Dev.unheld.of_flow (d := s.dev) hq.2 Dev.moves_planCounted.keeps_flow
  have htask := Dev.task_finish (k := thrKey frond thread) (i := i) (t := t) (fl := 0) hc hu
  rw [thrFrond_thrKey] at htask
  rw [Dev.endLibrary_done hplan ha hput hdel he hh hd, Dev.under_finish Dev.moves_planCounted hc hu, thrFrond_thrKey]
  rw [thrFrond_thrKey] at hc hu
  exact ⟨Dev.thread_finish hc hu, htask⟩

theorem idle_endLibrary (hr : s.dev.running (thrKey frond thread) = some (i, t))
    (hplan : (s.dev.thread (thrKey frond thread)).plan = some p)
    (ho : p.put.isSome = true ∨ p.del.isSome = true ∨ p.emit ≠ [] ∨ p.harv = true) (ha : p.ask = none) :
    Idle (.endTask frond thread .library ue) s := by
  refine idle_runSelf (f := fun d => d.onThread (thrKey frond thread) fun d i t _ => d.endLibrary (thrKey frond thread) i t) rfl ?_
  rw [Dev.onThread_running hr, Dev.endLibrary_open hplan ha ho]

/-- What a fault of a task without a packet leaves. -/
theorem Dev.fault_leaves {d e : Dev} {k i addr cause : Nat} {P : List Part} {G : List Nat} (hm : d.moves e P G) (hc : e.calm) (hu : e.unheld)
    (hd : t.desc = none) (h16 : cause < 16) (hclk : P.contains .clk = false := by rfl) (hotp : P.contains .otp = false := by rfl) :
    (d.under (e.fault k i t addr cause)).thread k = {} ∧ (d.under (e.fault k i t addr cause)).task (thrFrond k) i = none ∧
    (d.under (e.fault k i t addr cause)).num FENG.FAULT_INFO (thrFrond k) = faultInfo k addr cause ∧
    (d.under (e.fault k i t addr cause)).num FENG.FAULTS (thrFrond k) = (e.num FENG.FAULTS (thrFrond k) + 1) % 2 ^ 32 := by
  have hcm : (e.faultMarked k addr cause).calm := hc.of_eng moves_faultMarked.keeps_eng
  have hum : (e.faultMarked k addr cause).unheld := hu.of_flow moves_faultMarked.keeps_flow
  have hf := moves_finish (k := k) (i := i) (t := t) (fl := 1) hcm hum
  have h1 : (e.fault k i t addr cause).clk = d.clk := by
    rw [fault_unpacked hd, hf.keeps_clk, moves_faultMarked.keeps_clk]
    exact hm.keeps_clk hclk
  have h2 : (e.fault k i t addr cause).otp = d.otp := by
    rw [fault_unpacked hd, hf.keeps_otp, moves_faultMarked.keeps_otp]
    exact hm.keeps_otp hotp
  have hun : d.under (e.fault k i t addr cause) = (e.faultMarked k addr cause).finish k i t 1 := by
    rw [Dev.under, ← h1, ← h2, fault_unpacked hd]
  rw [hun]
  refine ⟨thread_finish hcm hum, task_finish hcm hum, ?_, ?_⟩
  · rw [num_finish hcm hum rfl rfl rfl, num_faultMarked_info h16]
  · rw [num_finish hcm hum rfl rfl rfl, num_faultMarked_faults]

theorem gives_stackFault (hon : s.Awake) (hue : ue.bad = false) (hq : s.dev.quiet)
    (hx : (x = .call frond thread ue ∧ cond = 11 ∧ 4 ≤ (s.dev.thread (thrKey frond thread)).stack.length) ∨
      (x = .ret frond thread ue ∧ cond = 12 ∧ (s.dev.thread (thrKey frond thread)).stack = []))
    (hi : s.dev.issues (thrKey frond thread) i t cond pc imm 0) (hd : t.desc = none) :
    Gives x s fun d => d.thread (thrKey frond thread) = {} ∧ d.task (frond % 8) i = none ∧
      d.num FENG.FAULT_INFO (frond % 8) = faultInfo (thrKey frond thread) pc 3 ∧
      d.num FENG.FAULTS (frond % 8) = (s.dev.num FENG.FAULTS (frond % 8) + 1) % 2 ^ 32 := by
  have hend : ∀ (e : Dev) (cost : Nat), Dev.WordGone s.dev e (thrKey frond thread) cost t →
      (s.dev.under (e.fault (thrKey frond thread) i t pc 3)).thread (thrKey frond thread) = {} ∧
      (s.dev.under (e.fault (thrKey frond thread) i t pc 3)).task (frond % 8) i = none ∧
      (s.dev.under (e.fault (thrKey frond thread) i t pc 3)).num FENG.FAULT_INFO (frond % 8) = faultInfo (thrKey frond thread) pc 3 ∧
      (s.dev.under (e.fault (thrKey frond thread) i t pc 3)).num FENG.FAULTS (frond % 8) = (s.dev.num FENG.FAULTS (frond % 8) + 1) % 2 ^ 32 := by
    intro e cost hg
    have h := Dev.fault_leaves (k := thrKey frond thread) (i := i) (addr := pc) (cause := 3) hg.moves (hg.calm hq) (hg.unheld hq) hd (by decide)
    rw [thrFrond_thrKey, hg.nums FENG.FAULTS _ rfl rfl rfl] at h
    exact h
  rcases hx with ⟨rfl, rfl, h4⟩ | ⟨rfl, rfl, h0⟩
  · refine gives_run (f := fun d => d.call (thrKey frond thread) ue) rfl hon ?_
    obtain ⟨e, cost, he, hg⟩ := Dev.issue_faults (ue := ue) (waste := noWaste) (bad := fun th => decide (4 ≤ th.stack.length))
      (f := fun d _ _ _ pc imm => (d.updThread (thrKey frond thread) fun th => { th with stack := nextPc pc :: th.stack }).goto (thrKey frond thread)
        (targetPc imm 0)) hi hue (Nat.zero_le _) (decide_eq_true h4)
    rw [Dev.call, he]
    exact hend e cost hg
  · refine gives_run (f := fun d => d.ret (thrKey frond thread) ue) rfl hon ?_
    obtain ⟨e, cost, he, hg⟩ := Dev.issue_faults (ue := ue) (waste := fun _ th => !th.stack.isEmpty) (bad := fun th => th.stack.isEmpty)
      (f := fun d _ _ th _ _ => (d.updThread (thrKey frond thread) fun th => { th with stack := th.stack.drop 1 }).goto (thrKey frond thread)
        (th.stack.headD 0)) hi hue (by rw [h0]; exact Nat.zero_le _) (by rw [h0]; rfl)
    rw [Dev.ret, he]
    exact hend e cost hg

/-- The commands that issue a microword, with what each does of its own. -/
def IssuesWord (x : Instr) (frond thread : Nat) (ue : WordGuard) : Prop :=
  ∃ (cond : Nat) (waste : Task → Thread → Bool) (bad : Thread → Bool) (f : Dev → Nat → Task → Thread → Nat → Nat → Dev),
    ∀ s : State, exec x s = s.run fun d => d.issue (thrKey frond thread) cond ue waste bad f

theorem issuesWord_of (h : x = .next frond thread ue ∨ x = .goto frond thread ue ∨ x = .ifZ frond thread ue ∨ x = .ifNz frond thread ue ∨
      x = .ifC frond thread ue ∨ x = .ifNc frond thread ue ∨ x = .ifN frond thread ue ∨ x = .ifZn frond thread ue ∨
      x = .ifHit frond thread ue ∨ x = .ifUpdFail frond thread ue ∨ x = .ifUnitErr frond thread ue ∨ x = .call frond thread ue ∨
      x = .ret frond thread ue ∨ x = .dispatch frond thread ue ∨ x = .wait frond thread ue ∨ x = .endTask frond thread .own ue) :
    IssuesWord x frond thread ue := by
  rcases h with rfl | rfl | rfl | rfl | rfl | rfl | rfl | rfl | rfl | rfl | rfl | rfl | rfl | rfl | rfl | rfl
  iterate 15 exact ⟨_, _, _, _, fun _ => rfl⟩
  exact ⟨15, noWaste, noFault, fun d i t th _ imm => d.endTaskOn (thrKey frond thread) i t th (bitOf imm 0), fun _ => exec_endOwn⟩

theorem idle_word (hw : IssuesWord x frond thread ue)
    (h : s.dev.mayIssue (thrKey frond thread) = false ∨ s.dev.running (thrKey frond thread) = none) : Idle x s := by
  obtain ⟨cond, waste, bad, f, hx⟩ := hw
  exact idle_runSelf (hx s) (Dev.issue_idle h)

theorem gives_unread {w : Option Nat} (hon : s.Awake) (hq : s.dev.quiet) (hue : ue.bad = true) (hw : IssuesWord x frond thread ue)
    (hmay : s.dev.mayIssue (thrKey frond thread) = true) (hrun : s.dev.running (thrKey frond thread) = some (i, t))
    (hf : s.dev.fetch (frond % 8) (s.dev.thread (thrKey frond thread)).pc = (pc, w)) (hd : t.desc = none) :
    Gives x s fun d => d.thread (thrKey frond thread) = {} ∧ d.task (frond % 8) i = none ∧
      d.num FENG.FAULT_INFO (frond % 8) = faultInfo (thrKey frond thread) pc 6 := by
  obtain ⟨cond, waste, bad, f, hx⟩ := hw
  refine gives_run (hx s) hon ?_
  have hc : (s.dev.wordRead (thrKey frond thread) pc ue).calm := Dev.calm.of_threads (d := s.dev) hq.1 Dev.engLike_wordRead.threads
  have hu : (s.dev.wordRead (thrKey frond thread) pc ue).unheld := Dev.unheld.of_flow (d := s.dev) hq.2 Dev.moves_wordRead.keeps_flow
  obtain ⟨hth, htask, hinfo, -⟩ := Dev.fault_leaves (k := thrKey frond thread) (i := i) (addr := pc) (cause := 6) Dev.moves_wordRead hc hu hd (by decide)
  rw [thrFrond_thrKey] at htask hinfo
  have hf' : s.dev.fetch (thrFrond (thrKey frond thread)) (s.dev.thread (thrKey frond thread)).pc = (pc, w) := by
    rw [thrFrond_thrKey]
    exact hf
  rw [Dev.issue_unread hmay hrun hf' hue]
  exact ⟨hth, htask, hinfo⟩

end Sys2Proof.Machine
open Sys2Proof Sys2Proof.Machine

/-- Settles O33: an issued word's cost, its way on, and its end, through one lemma on the issue of a word and one on the end of a task. -/
theorem microwordSequencing : Obligations.MicrowordSequencing := by
  unfold Obligations.MicrowordSequencing
  refine ⟨fun s c frond thread i pc imm cond to_ t ue hon hue hx hi => gives_nextGoto hon hue hx hi,
    fun s c frond thread i pc imm cond taken t th ue hon hue hth hx hi => gives_conditional hon hue hth hx hi,
    fun s frond thread i pc imm t ue hon hue hi hs => gives_call hon hue hi hs,
    fun s frond thread i pc imm a r t ue hon hue hi hs => gives_ret hon hue hi hs,
    fun s frond thread i pc imm t ue hon hue hi => gives_dispatchWord hon hue hi,
    fun s frond thread i pc imm t ue hon hue hi hh => gives_waitPassed hon hue hi hh,
    fun s frond thread i pc imm t ue hon hue hi hh hp => gives_waitHeld hon hue hi hh hp,
    fun s frond thread i pc imm t ue hon hue hi hh hp hb => gives_waitLeft hon hue hi hh hp hb,
    fun s frond thread i pc imm f t x ue hon hue hq hi hd hx h0 ho => gives_endPacket hon hue hq hi hd hx h0 ho,
    fun s frond thread i pc imm t ue hon hue hq hi hd => gives_endPlain hon hue hq hi hd,
    fun s frond thread i t ue p hon hq hr hplan hput hdel he hh ha hd => gives_endLibrary hon hq hr hplan hput hdel he hh ha hd,
    fun s frond thread i t ue p hon hr hplan ho ha => idle_endLibrary hr hplan ho ha,
    fun s c frond thread i pc imm cond t ue hon hue hq hx hi hd => gives_stackFault hon hue hq hx hi hd,
    fun s c frond thread i pc w t ue hon hq hue hx hmay hrun hf hd => gives_unread hon hq hue (issuesWord_of (by tauto)) hmay hrun hf hd,
    fun s frond thread i pc imm t ue hon hue hi => gives_nextTurn hon hue hi,
    fun s c frond thread ue hon hmay hx => idle_word (issuesWord_of hx) (.inl hmay), ?_⟩
  intro s c frond thread p ue hx hon hrun
  cases p with
  | own => exact idle_word (issuesWord_of hx) (.inr hrun)
  | library =>
    by_cases he : c = .endTask frond thread .library ue
    · subst he
      exact idle_runSelf (f := fun d => d.onThread (thrKey frond thread) fun d i t _ => d.endLibrary (thrKey frond thread) i t) rfl
        (Dev.onThread_none hrun)
    · exact idle_word (issuesWord_of (by tauto)) (.inr hrun)
end

section
set_option Elab.async false
/-! What frees, episodes and pause frames leave of the switch core: the frames, the heads, the queues and what ports have staged (R336,
R339, R348). -/

namespace Sys2Proof.Machine.Dev
open Sys2Proof
variable {d e : Dev} {k n p i r c port mask q : Nat}

/-- The switch core without its units, episodes, pause frames and counters. -/
def lanes (d : Dev) : Switch :=
  { d.sw with link := [], pri := [], banks := [], spillq := [], withheld := [], suspect := [], cellTests := 0, pauses := [], counted := [], stat := [] }

/-- Frames, heads, queues and what is staged are as they were. -/
def lanesLike (d e : Dev) : Prop := e.lanes = d.lanes

namespace lanesLike

theorem refl (d : Dev) : d.lanesLike d := Eq.refl _
theorem of_sw (h : e.sw = d.sw) : d.lanesLike e := by rw [lanesLike, lanes, h, lanes]
theorem of_moves {P : List Part} {G : List Nat} (h : d.moves e P G) (hp : P.contains .sw = false := by rfl) : d.lanesLike e := .of_sw (h.keeps_sw hp)
theorem trans {f : Dev} (h : d.lanesLike e) (g : e.lanesLike f) : d.lanesLike f := Eq.trans g h
theorem ite {b : Prop} [Decidable b] {f : Dev} (h : d.lanesLike e) (g : d.lanesLike f) : d.lanesLike (if b then e else f) := by
  split <;> assumption
theorem iteSelf {b : Prop} [Decidable b] {f : Dev → Dev} (h : d.lanesLike e) (g : d.lanesLike e → d.lanesLike (f e)) :
    d.lanesLike (if b then f e else e) := .ite (g h) h
theorem each {g : Dev → Nat → Dev} (h : d.lanesLike e) (hg : ∀ (x : Dev) (j : Nat), x.lanesLike (g x j)) : d.lanesLike (e.each n g) :=
  h.trans (each_keeps (rd := Dev.lanes) fun x j _ => hg x j)
theorem foldl {α : Type} {g : Dev → α → Dev} {l : List α} (h : d.lanesLike e) (hg : ∀ (x : Dev) (b : α), x.lanesLike (g x b)) :
    d.lanesLike (l.foldl g e) := h.trans (foldl_keeps (rd := Dev.lanes) fun x b _ => hg x b)

theorem frames (h : d.lanesLike e) : e.sw.frames = d.sw.frames := (congrArg Switch.frames (show e.lanes = d.lanes from h) :)
theorem heads (h : d.lanesLike e) : e.sw.heads = d.sw.heads := (congrArg Switch.heads (show e.lanes = d.lanes from h) :)
theorem queues (h : d.lanesLike e) : e.sw.queues = d.sw.queues := (congrArg Switch.queues (show e.lanes = d.lanes from h) :)
theorem staged (h : d.lanesLike e) : e.sw.staged = d.sw.staged := (congrArg Switch.staged (show e.lanes = d.lanes from h) :)
theorem hold (h : d.lanesLike e) : e.sw.hold = d.sw.hold := (congrArg Switch.hold (show e.lanes = d.lanes from h) :)
theorem waitTm (h : d.lanesLike e) : e.sw.waitTm = d.sw.waitTm := (congrArg Switch.waitTm (show e.lanes = d.lanes from h) :)
theorem rx (h : d.lanesLike e) : e.sw.rx = d.sw.rx := (congrArg Switch.rx (show e.lanes = d.lanes from h) :)
theorem frame (h : d.lanesLike e) : e.frame k = d.frame k := by rw [Dev.frame, h.frames, Dev.frame]

end lanesLike

theorem lanesLike_setNum {x : Reg} {v m : Nat} : d.lanesLike (d.setNum x v m) := .of_sw (setNum_sw _ _ _ _)
theorem lanesLike_setFld {x : Fld} {v m : Nat} : d.lanesLike (d.setFld x v m) := .of_sw (setFld_sw _ _ _ _)
theorem lanesLike_bump {x : Reg} {v m : Nat} : d.lanesLike (d.bump x m v) := .of_sw (bump_sw _ _ _ _)
theorem lanesLike_emit {o : Output} : d.lanesLike (d.emit o) := .of_sw (emit_sw _ _)
theorem lanesLike_setPri {x : Pri} : d.lanesLike (d.setPri r p x) := Eq.refl _
theorem lanesLike_setLink {l : Link} : d.lanesLike (d.setLink p i l) := Eq.refl _
theorem lanesLike_setPauses {l : List (Bool × Nat × Nat)} : d.lanesLike (d.setPauses port l) := Eq.refl _
theorem lanesLike_setXoffTx : d.lanesLike (d.setXoffTx port n) := by
  unfold setXoffTx
  exact .ite lanesLike_setFld lanesLike_setFld
theorem lanesLike_setStat {m : SMap Nat} : d.lanesLike { d with sw := { d.sw with stat := m } } := Eq.refl _
theorem lanesLike_stat : d.lanesLike (d.stat port k n) := by
  unfold stat
  have h : d.lanesLike (d.snapReach (islandOfPort port)) := .of_moves moves_snapReach
  exact .ite (h.trans lanesLike_setStat) h
theorem lanesLike_statGood {bs : List Byte} : d.lanesLike (d.statGood port k n bs) :=
  ((lanesLike_stat.trans lanesLike_stat).trans lanesLike_stat).trans lanesLike_stat
theorem lanesLike_perf {ev : Nat} : d.lanesLike (d.perf i ev n) := .of_sw (perf_sw _ _ _ _)

/-- A pause frame counted. -/
def pauseCounted (d : Dev) (port : Nat) (pfc : Bool) (mask : Nat) (bs : List Byte) : Dev :=
  let d := ((d.emit (.frame port bs false)).statGood port 32 bs.length bs).perf (islandOfPort port) 0x041
  if pfc then d.each 8 fun d p => if bitOf mask p then d.stat port (48 + p) else d else d.stat port 47

theorem lanesLike_pauseCounted {pfc : Bool} {bs : List Byte} : d.lanesLike (d.pauseCounted port pfc mask bs) := by
  unfold pauseCounted
  have h : d.lanesLike (((d.emit (.frame port bs false)).statGood port 32 bs.length bs).perf (islandOfPort port) 0x041) :=
    (lanesLike_emit.trans lanesLike_statGood).trans lanesLike_perf
  exact .ite (h.each fun x j => .ite lanesLike_stat (.refl x)) (h.trans lanesLike_stat)

theorem lanesLike_pauseOut {x : Bool × Nat × Nat} : d.lanesLike (d.pauseOut port x) := by
  obtain ⟨pfc, mask, quanta⟩ := x
  have hx : d.pauseOut port (pfc, mask, quanta) = if quanta = 0 then d.pauseCounted port pfc mask (d.pauseFrame pfc mask quanta) else
      (d.pauseCounted port pfc mask (d.pauseFrame pfc mask quanta)).each 8 fun d p =>
        if bitOf mask p then d.setPri port p { d.pri port p with xoffAt := d.clk.up } else d := rfl
  rw [hx]
  exact .ite lanesLike_pauseCounted (lanesLike_pauseCounted.each fun x j => .ite lanesLike_setPri (.refl x))

theorem lanesLike_sendPause : d.lanesLike (d.sendPause port mask n) := by
  unfold sendPause
  exact .ite lanesLike_setPauses lanesLike_pauseOut

theorem lanesLike_sendXoff : d.lanesLike (d.sendXoff port mask) := by
  unfold sendXoff
  exact .ite (.refl d) ((lanesLike_sendPause.trans lanesLike_setXoffTx).each fun x j => .ite lanesLike_setPri (.refl x))

theorem lanesLike_sendXon : d.lanesLike (d.sendXon port mask) := by
  unfold sendXon
  exact .ite (.refl d) (lanesLike_sendPause.trans lanesLike_setXoffTx)

theorem lanesLike_evalReq : d.lanesLike (d.evalReq r) := by
  unfold evalReq
  dsimp only
  refine .ite (.refl d) (.ite (.trans (.trans (.each lanesLike_setNum ?_) lanesLike_sendXoff) lanesLike_sendXon) (.each lanesLike_setNum ?_))
  · exact fun x j => .ite lanesLike_setPri (.refl x)
  · exact fun x j => .ite lanesLike_setPri (.refl x)

theorem lanesLike_evalAll : d.lanesLike d.evalAll :=
  ((lanesLike_setNum (d := d)).trans (.of_moves moves_evalGlobal)).each fun _ _ => lanesLike_evalReq

/-! ### Frees -/

theorem lanesLike_doubleFree : d.lanesLike (d.doubleFree p i r c) := by
  unfold doubleFree
  exact .of_moves (((d.still (P := []) (G := [0x40])).bump.setNum).setNum2.raise.log)

theorem lanesLike_testCell : d.lanesLike (d.testCell i) := by
  unfold testCell
  exact .ite (Eq.refl _) (Eq.refl _)

theorem lanesLike_unitBack : d.lanesLike (d.unitBack p i) := by
  unfold unitBack
  exact .ite (.ite lanesLike_bump (.refl d)) (.ite (.ite (.refl d) (.ite lanesLike_testCell lanesLike_bump)) (.ite lanesLike_bump lanesLike_bump))

theorem lanesLike_setSpillq {l : List (Nat × Bool)} : d.lanesLike { d with sw := { d.sw with spillq := l } } := Eq.refl _

theorem lanesLike_freeUnit : d.lanesLike (d.freeUnit p i r) := by
  unfold freeUnit
  dsimp only
  refine lanesLike.trans ?_ lanesLike_unitBack
  refine lanesLike.trans ?_ lanesLike_setNum
  exact .ite lanesLike_setLink (lanesLike_setLink.trans lanesLike_setSpillq)

theorem lanesLike_freeChain {fuel : Nat} : d.lanesLike (Dev.freeChain fuel d p i r c) := by
  induction fuel generalizing d p i with
  | zero => exact .refl d
  | succ fuel ih =>
    unfold Dev.freeChain
    exact .ite lanesLike_doubleFree (.ite lanesLike_freeUnit (lanesLike_freeUnit.trans ih))

/-- A frame that is released, but for its descriptor. -/
def chainFreed (d : Dev) (f : Frame) (cause : Nat) : Dev :=
  let d := d.freeChain chainFuel f.fpool f.first f.req cause
  let d := if f.onHold then d.setNum SWCR.HOLD_UNITS (d.num SWCR.HOLD_UNITS - f.charge) else d.uncharge f.req f.pri f.charge
  d.setPri f.req f.pri { d.pri f.req f.pri with hr := (d.pri f.req f.pri).hr - f.hr }

theorem lanesLike_chainFreed {f : Frame} : d.lanesLike (d.chainFreed f c) := by
  unfold chainFreed
  dsimp only
  exact (lanesLike_freeChain.trans (.ite lanesLike_setNum lanesLike_setNum)).trans lanesLike_setPri

theorem releaseFrame_some {f : Frame} (h : d.frame k = some f) : d.releaseFrame k c = ((d.chainFreed f c).freeDesc k).evalAll := by
  unfold releaseFrame
  rw [h]
  rfl

theorem releaseFrame_none (h : d.frame k = none) : d.releaseFrame k c = d := by
  unfold releaseFrame
  rw [h]

/-- The switch core without the frame of a descriptor. -/
def lanesLess (d : Dev) (k : Nat) : Switch := { d.lanes with frames := d.sw.frames.set none k none }

theorem lanes_freeDesc : (d.freeDesc k).lanes = d.lanesLess k := rfl

theorem lanesLess_congr (h : d.lanesLike e) : e.lanesLess k = d.lanesLess k := by
  have hl : e.lanes = d.lanes := h
  rw [lanesLess, hl, h.frames, lanesLess]

theorem lanes_releaseFrame {f : Frame} (h : d.frame k = some f) : (d.releaseFrame k c).lanes = d.lanesLess k := by
  have he : ((d.chainFreed f c).freeDesc k).evalAll.lanes = ((d.chainFreed f c).freeDesc k).lanes := lanesLike_evalAll
  rw [releaseFrame_some h, he, lanes_freeDesc, lanesLess_congr lanesLike_chainFreed]

theorem frames_releaseFrame {f : Frame} (h : d.frame k = some f) : (d.releaseFrame k c).sw.frames = d.sw.frames.set none k none :=
  congrArg Switch.frames (lanes_releaseFrame h)

theorem frame_releaseFrame_same : (d.releaseFrame k c).frame k = none := by
  cases h : d.frame k with
  | none => rw [releaseFrame_none h, h]
  | some f => rw [frame, frames_releaseFrame h, SMap.get_set_same]

theorem frame_releaseFrame_ne (hj : n ≠ k) : (d.releaseFrame k c).frame n = d.frame n := by
  cases h : d.frame k with
  | none => rw [releaseFrame_none h]
  | some f => rw [frame, frames_releaseFrame h, SMap.get_set_ne _ _ _ _ hj, frame]

/-- The parts of the switch core beside the frames stand through a release. -/
theorem releaseFrame_lanes {α : Type} (g : Switch → α) (hg : ∀ (x : Switch) (m : SMap (Option Frame)), g { x with frames := m } = g x) :
    g (d.releaseFrame k c).lanes = g d.lanes := by
  cases h : d.frame k with
  | none => rw [releaseFrame_none h]
  | some f => rw [lanes_releaseFrame h, lanesLess, hg]

theorem lanesLike_disc : d.lanesLike (d.disc r n) := lanesLike_bump

theorem frame_discardFrame_same : (d.discardFrame k r).frame k = none := frame_releaseFrame_same
theorem frame_discardFrame_ne (hj : n ≠ k) : (d.discardFrame k r).frame n = d.frame n := by
  rw [discardFrame, frame_releaseFrame_ne hj, lanesLike_disc.frame]
theorem discardFrame_lanes {α : Type} (g : Switch → α) (hg : ∀ (x : Switch) (m : SMap (Option Frame)), g { x with frames := m } = g x) :
    g (d.discardFrame k r).lanes = g d.lanes := by
  rw [discardFrame, releaseFrame_lanes g hg]
  exact congrArg g (lanesLike_disc (d := d))

theorem heads_discardFrame : (d.discardFrame k r).sw.heads = d.sw.heads := discardFrame_lanes Switch.heads fun _ _ => rfl
theorem queues_discardFrame : (d.discardFrame k r).sw.queues = d.sw.queues := discardFrame_lanes Switch.queues fun _ _ => rfl
theorem staged_discardFrame : (d.discardFrame k r).sw.staged = d.sw.staged := discardFrame_lanes Switch.staged fun _ _ => rfl
theorem staged_releaseFrame : (d.releaseFrame k c).sw.staged = d.sw.staged := releaseFrame_lanes Switch.staged fun _ _ => rfl
theorem queues_releaseFrame : (d.releaseFrame k c).sw.queues = d.sw.queues := releaseFrame_lanes Switch.queues fun _ _ => rfl
theorem hold_releaseFrame : (d.releaseFrame k c).sw.hold = d.sw.hold := releaseFrame_lanes Switch.hold fun _ _ => rfl
theorem waitTm_releaseFrame : (d.releaseFrame k c).sw.waitTm = d.sw.waitTm := releaseFrame_lanes Switch.waitTm fun _ _ => rfl

end Sys2Proof.Machine.Dev
end

section
set_option Elab.async false
/-! Heads in a pipeline, fragments and the egress stage (R151 to R157, R162 to R168, R197). -/

namespace Sys2Proof.Machine.Dev
open Sys2Proof
variable {d e : Dev} {k n i pipe gen desc dest code reason entry : Nat} {f g : Frame} {bs : List Byte} {s : Parse}

/-! ### What a parse reads -/

/-- The registers of the parser and its graph are as they were. -/
def parserLike (d e : Dev) : Prop := e.look = d.look ∧ ∀ (r : Reg) (c : Nat), r.plain = true → r.page = 0x20 → e.num r c = d.num r c

theorem parserLike.nodeReg {r : Reg} {node : Nat} (h : d.parserLike e) (hr : r.plain = true) (hp : r.page = 0x20) :
    e.nodeReg pipe node r = d.nodeReg pipe node r := h.2 r _ hr hp

theorem plain_trans : ∀ j < 64, (PARS.TRANS_A.ix j).plain = true ∧ (PARS.TRANS_V.ix j).plain = true := by decide
theorem plain_ext : ∀ j < 4, (PARS.EXT.ix j).plain = true := by decide

theorem parserLike.transition {node sel : Nat} (h : d.parserLike e) : e.transition pipe node sel = d.transition pipe node sel := by
  have ha (j : Nat) (hj : j < 64) : e.nodeReg pipe node (PARS.TRANS_A.ix j) = d.nodeReg pipe node (PARS.TRANS_A.ix j) :=
    h.nodeReg (plain_trans j hj).1 rfl
  have hv (j : Nat) (hj : j < 64) : e.nodeReg pipe node (PARS.TRANS_V.ix j) = d.nodeReg pipe node (PARS.TRANS_V.ix j) :=
    h.nodeReg (plain_trans j hj).2 rfl
  have hfind : ((List.range 64).find? fun i => bitOf (e.nodeReg pipe node (PARS.TRANS_A.ix i)) 10 &&
        decide (sel &&& (e.nodeReg pipe node (PARS.TRANS_V.ix i) / 65536) =
          e.nodeReg pipe node (PARS.TRANS_V.ix i) % 65536 &&& (e.nodeReg pipe node (PARS.TRANS_V.ix i) / 65536))) =
      (List.range 64).find? fun i => bitOf (d.nodeReg pipe node (PARS.TRANS_A.ix i)) 10 &&
        decide (sel &&& (d.nodeReg pipe node (PARS.TRANS_V.ix i) / 65536) =
          d.nodeReg pipe node (PARS.TRANS_V.ix i) % 65536 &&& (d.nodeReg pipe node (PARS.TRANS_V.ix i) / 65536)) :=
    List.find?_congr fun j hj => by rw [ha j (List.mem_range.mp hj), hv j (List.mem_range.mp hj)]
  unfold Dev.transition
  dsimp only
  rw [hfind, h.nodeReg (r := PARS.NODE_CTRL) rfl rfl]
  split
  · next j hj => rw [ha j (List.mem_range.mp (List.mem_of_find?_eq_some hj))]
  · rfl

theorem parserLike.extractions {node start level : Nat} (h : d.parserLike e) :
    e.extractions pipe node start level = d.extractions pipe node start level := by
  have hx : ((List.range 4).map fun j => e.nodeReg pipe node (PARS.EXT.ix j)) = (List.range 4).map fun j => d.nodeReg pipe node (PARS.EXT.ix j) :=
    List.map_congr_left fun j hj => h.nodeReg (plain_ext j (List.mem_range.mp hj)) rfl
  unfold Dev.extractions
  rw [hx]

theorem parserLike.parseNode {depth : Nat} (h : d.parserLike e) : e.parseNode pipe depth bs s = d.parseNode pipe depth bs s := by
  unfold Dev.parseNode
  simp only [h.1, h.nodeReg (r := PARS.NODE_SEL) rfl rfl, h.nodeReg (r := PARS.NODE_CTRL) rfl rfl, h.nodeReg (r := PARS.NODE_ADV) rfl rfl,
    h.transition, h.extractions]

theorem parserLike.parseLoop {depth fuel : Nat} (h : d.parserLike e) : Dev.parseLoop fuel e pipe depth bs s = Dev.parseLoop fuel d pipe depth bs s := by
  induction fuel generalizing s with
  | zero => rfl
  | succ fuel ih =>
    unfold Dev.parseLoop
    rw [h.parseNode]
    dsimp only
    rw [ih]

theorem parserLike.parse (h : d.parserLike e) (he : e.enabled 0x20 = d.enabled 0x20) : e.parse pipe bs = d.parse pipe bs := by
  unfold Dev.parse Dev.parseDepth Dev.parseStart
  rw [h.1, he]
  dsimp only
  rw [h.parseLoop]

theorem parserLike_of_moves {P : List Part} {G : List Nat} (h : d.moves e P G) (hp : P.contains .look = false := by rfl)
    (hg : G.contains 0x20 = false := by rfl) : d.parserLike e :=
  ⟨h.keeps_look hp, fun r c hr hpage => h.num r c hr (by rw [hpage]; exact hg)⟩

theorem enabled_of_moves {P : List Part} {G : List Nat} {p : Nat} (h : d.moves e P G) (hr : (CTRL p).plain = true) (hg : G.contains p = false) :
    e.enabled p = d.enabled p := enabled_congr (h.regP (CTRL p) 0 0 hr hg)

/-! ### A head that its pipeline takes -/

/-- A head out of the offers of its pipeline. -/
def headTaken (d : Dev) (pipe k : Nat) (f : Frame) (r : List Nat) : Dev :=
  (({ d with sw := { d.sw with heads := d.sw.heads.set [] pipe r } }).perf (islandOfPipe pipe) 0x080).crossed (islandOfPipe pipe) 2 f.tag k

theorem moves_headTaken {r : List Nat} : d.moves (d.headTaken pipe k f r) [.sw] [0x60] :=
  d.still.set_sw.perf.andThen moves_crossed

theorem sw_headTaken {r : List Nat} : (d.headTaken pipe k f r).sw = { d.sw with heads := d.sw.heads.set [] pipe r } :=
  moves_crossed.keeps_sw.trans (perf_sw _ _ _ _)

theorem parse_headTaken {r : List Nat} : (d.headTaken pipe k f r).parse pipe bs = d.parse pipe bs :=
  (parserLike_of_moves moves_headTaken).parse (enabled_of_moves moves_headTaken rfl rfl)

theorem islandNs_of_moves {P : List Part} {G : List Nat} (h : d.moves e P G) (hc : P.contains .clk = false := by rfl)
    (ht : P.contains .time = false := by rfl) : e.islandNs i = d.islandNs i := islandNs_congr (h.keeps_clk hc) (h.keeps_time ht)

theorem genAt_congr (hc : e.commit = d.commit) (hg : e.cgen = d.cgen) (hi : e.islandNs (9 + pipe) = d.islandNs (9 + pipe)) :
    e.genAt pipe = d.genAt pipe := by
  unfold genAt
  rw [hc, hg, hi]

theorem epochAt_congr (hc : e.commit = d.commit) (hn : e.num (COMMIT 0) = d.num (COMMIT 0)) (hi : e.islandNs (9 + pipe) = d.islandNs (9 + pipe)) :
    e.epochAt pipe = d.epochAt pipe := by
  unfold epochAt
  rw [hc, hn, hi]

/-- The head with its epoch and what its parse gave. -/
def headWith (d : Dev) (pipe : Nat) (f : Frame) : Frame :=
  { f with epoch := d.epochAt pipe, gen := d.genAt pipe, ctx := (d.parse pipe f.bytes).ctx pipe }

/-- A head parsed, before what the parse asks for is done. -/
def headParsed (d : Dev) (pipe k : Nat) (f : Frame) (r : List Nat) : Dev :=
  let e := (d.headTaken pipe k f r).setFrame k (d.headWith pipe f)
  let e := if (d.parse pipe f.bytes).exc = 0 then e else e.bump (PARS.EXC_CNT.ix2 pipe (d.parse pipe f.bytes).exc)
  if d.parseAct (d.genAt pipe) (d.parse pipe f.bytes) ≠ 0 ∧ (d.parse pipe f.bytes).exc ≤ 5 then e.raise PARS.int_LIMIT else e

theorem moves_headParsed {r : List Nat} : d.moves (d.headParsed pipe k f r) [.sw] [0x20, 0x60] := by
  unfold headParsed
  have h : d.moves (d.headTaken pipe k f r) [.sw] [0x20, 0x60] := moves_headTaken.mono rfl rfl
  exact (h.setFrame.ite h.setFrame.bump).iteSelf fun h => h.raise

theorem sw_headParsed {r : List Nat} : (d.headParsed pipe k f r).sw = ((d.headTaken pipe k f r).setFrame k (d.headWith pipe f)).sw := by
  unfold headParsed
  dsimp only
  split
  · rw [raise_sw]
    split
    · rfl
    · exact bump_sw _ _ _ _
  · split
    · rfl
    · exact bump_sw _ _ _ _

theorem frame_headParsed {r : List Nat} : (d.headParsed pipe k f r).frame k = some (d.headWith pipe f) :=
  (frame_congr sw_headParsed).trans frame_setFrame_same

theorem heads_headParsed {r : List Nat} : (d.headParsed pipe k f r).sw.heads.get [] pipe = r := by
  rw [sw_headParsed]
  have h : ((d.headTaken pipe k f r).setFrame k (d.headWith pipe f)).sw.heads = (d.headTaken pipe k f r).sw.heads := rfl
  rw [h, sw_headTaken]
  exact SMap.get_set_same d.sw.heads [] pipe r

theorem limitAct_congr {P : List Part} {G : List Nat} (h : d.moves e P G) (hn : e.num PARS.LIMIT_ACT = d.num PARS.LIMIT_ACT)
    (hp : P.contains .prev = false := by rfl) (hg : P.contains .cgen = false := by rfl) (hc : P.contains .commit = false := by rfl) :
    e.parseAct gen s = d.parseAct gen s := by
  unfold parseAct
  rw [numAt_congr (h.keeps_prev hp) (h.keeps_cgen hg) (h.keeps_commit hc) hn]

/-! ### The exception codes of a parse -/

theorem reachOf_le (n : Nat) (l : List Nat) : reachOf n i l ≤ 5 := by
  unfold reachOf
  split
  · decide
  · split <;> decide

/-- The exception code with which a node's limits end a parse. -/
theorem limit_le {lim : Nat} {a b c : Prop} [Decidable a] [Decidable b] [Decidable c] (h : lim ≤ 5) :
    (if lim ≠ 0 then lim else if a then 1 else if b then 2 else if c then 3 else 0) ≤ 7 := by
  split
  · omega
  · split
    · decide
    · split
      · decide
      · split <;> decide

theorem exc_parseNode {depth : Nat} (h : s.exc ≤ 7) : (d.parseNode pipe depth bs s).exc ≤ 7 := by
  unfold parseNode
  extract_lets s0 selR ctrl advR at_ wide f4 f6 flags lim0 sel exts lenAt lenEn need adv lim1 s1 slot s2
  have hs : s2.exc ≤ 7 := by
    unfold s2
    split <;> exact h
  split
  · exact Nat.le_refl 7
  · split
    · exact (reachOf_le _ _).trans (by decide)
    · obtain ⟨act, next⟩ := d.transition pipe s0.node sel
      obtain ⟨kind, off, more⟩ := (if (f4 || f6) = true then fragOf bs s0.start f4 else (0, 0, false))
      dsimp -zeta only
      extract_lets act' goes lim2 s3
      have hs3 : s3.exc ≤ 7 := by
        unfold s3
        split <;> exact hs
      split
      · exact limit_le (reachOf_le _ _)
      · split
        · exact hs3
        · show (if act' = 2 then 6 else if act' = 3 then 7 else 0) ≤ 7
          split
          · decide
          · split <;> decide

theorem exc_parseLoop {depth fuel : Nat} (h : s.exc ≤ 7) : (Dev.parseLoop fuel d pipe depth bs s).exc ≤ 7 := by
  induction fuel generalizing s with
  | zero => exact (by decide : 4 ≤ 7)
  | succ fuel ih =>
    unfold Dev.parseLoop
    dsimp only
    split
    · exact exc_parseNode h
    · exact ih (exc_parseNode h)

theorem exc_parse : (d.parse pipe bs).exc ≤ 7 := by
  unfold parse
  dsimp only
  split
  · exact exc_parseLoop (Nat.zero_le _)
  · exact Nat.zero_le _

theorem apart_exc : ∀ p < 4, ∀ x, x < 8 → PARS.LIMIT_ACT.apart (PARS.EXC_CNT.ix2 p x) = true := by decide

end Sys2Proof.Machine.Dev
end

section
set_option Elab.async false
/-! Heads parsed, punted and discarded, fragments held and timed out, and the egress stage (R151 to R168, R197). -/

namespace Sys2Proof.Machine.Dev
open Sys2Proof
variable {d e : Dev} {k j n i t u pipe gen desc dest code reason entry : Nat} {f g : Frame} {bs : List Byte} {s : Parse} {r : List Nat} {ovf : Bool}

theorem heads_updFrame {x : Frame → Frame} : (d.updFrame k x).sw.heads = d.sw.heads := by
  unfold updFrame
  split <;> rfl

/-! ### A head that its parse punts or discards -/

/-- A head parsed, before a limit is reported. -/
def headMarked (d : Dev) (pipe k : Nat) (f : Frame) (r : List Nat) : Dev :=
  let e := (d.headTaken pipe k f r).setFrame k (d.headWith pipe f)
  if (d.parse pipe f.bytes).exc = 0 then e else e.bump (PARS.EXC_CNT.ix2 pipe (d.parse pipe f.bytes).exc)

theorem moves_headMarked : d.moves (d.headMarked pipe k f r) [.sw] [0x20, 0x60] := by
  unfold headMarked
  have h : d.moves (d.headTaken pipe k f r) [.sw] [0x20, 0x60] := moves_headTaken.mono rfl rfl
  exact h.setFrame.ite h.setFrame.bump

theorem genAt_of_moves {P : List Part} {G : List Nat} (h : d.moves e P G) (hc : P.contains .clk = false := by rfl)
    (ht : P.contains .time = false := by rfl) (hm : P.contains .commit = false := by rfl) (hg : P.contains .cgen = false := by rfl) :
    e.genAt pipe = d.genAt pipe := genAt_congr (h.keeps_commit hm) (h.keeps_cgen hg) (islandNs_of_moves h hc ht)

theorem epochAt_of_moves {P : List Part} {G : List Nat} (h : d.moves e P G) (hc : P.contains .clk = false := by rfl)
    (ht : P.contains .time = false := by rfl) (hm : P.contains .commit = false := by rfl) (hg : G.contains (COMMIT 0).page = false := by rfl) :
    e.epochAt pipe = d.epochAt pipe := epochAt_congr (h.keeps_commit hm) (h.num (COMMIT 0) 0 rfl hg) (islandNs_of_moves h hc ht)

theorem parseAct_headMarked (hp : pipe < 4) :
    (d.headMarked pipe k f r).parseAct ((d.headMarked pipe k f r).genAt pipe) (d.parse pipe f.bytes) =
      d.parseAct (d.genAt pipe) (d.parse pipe f.bytes) := by
  have hn : (d.headMarked pipe k f r).num PARS.LIMIT_ACT = d.num PARS.LIMIT_ACT := by
    have h0 : ((d.headTaken pipe k f r).setFrame k (d.headWith pipe f)).num PARS.LIMIT_ACT = d.num PARS.LIMIT_ACT :=
      (moves_headTaken (d := d)).setFrame.num PARS.LIMIT_ACT 0 rfl rfl
    unfold headMarked
    dsimp only
    split
    · exact h0
    · rw [num_bump_apart _ _ _ _ _ _ (apart_exc pipe hp _ (Nat.lt_succ_of_le exc_parse)), h0]
  rw [genAt_of_moves moves_headMarked, limitAct_congr moves_headMarked hn]

theorem headParse_ends (hp : pipe < 4) (hh : d.sw.heads.get [] pipe = k :: r) (hf : d.frame k = some f) :
    (d.parseAct (d.genAt pipe) (d.parse pipe f.bytes) = 1 → d.headParse pipe ovf [] = (d.headParsed pipe k f r).punt k 1) ∧
    (d.parseAct (d.genAt pipe) (d.parse pipe f.bytes) = 2 → d.headParse pipe ovf [] = (d.headParsed pipe k f r).discardFrame k 3) := by
  have hq : d.headParse pipe ovf [] =
      (let e := d.headMarked pipe k f r
       let act := e.parseAct (e.genAt pipe) (d.parse pipe f.bytes)
       let e := if act ≠ 0 ∧ (d.parse pipe f.bytes).exc ≤ 5 then e.raise PARS.int_LIMIT else e
       if act = 1 then e.punt k 1 else if act = 2 then e.discardFrame k 3 else
       match e.fragStage pipe k with
       | (d, true) => d.lookups pipe k ovf
       | (d, false) => d) := by
    have hf' : ({ d with sw := { d.sw with heads := d.sw.heads.set [] pipe r } } : Dev).frame k = some f := hf
    have hw : d.headWith pipe f = { f with
        epoch := (d.headTaken pipe k f r).epochAt pipe
        gen := (d.headTaken pipe k f r).genAt pipe
        ctx := (d.parse pipe f.bytes).ctx pipe } := by
      rw [epochAt_of_moves moves_headTaken, genAt_of_moves moves_headTaken, headWith]
    unfold headParse headMarked
    rw [hh]
    dsimp only
    rw [hf', hw, ← parse_headTaken (d := d) (k := k) (f := f) (r := r)]
    rfl
  rw [hq]
  dsimp only
  rw [parseAct_headMarked hp]
  refine ⟨fun h1 => ?_, fun h2 => ?_⟩
  · rw [h1, if_pos rfl]
    unfold headParsed headMarked
    rw [h1]
  · rw [h2, if_neg (by decide), if_pos rfl]
    unfold headParsed headMarked
    rw [h2]

end Sys2Proof.Machine.Dev

namespace Sys2Proof.Machine
open Sys2Proof
variable {s : State} {pipe k j t u desc dest code reason entry : Nat} {r : List Nat} {f g : Frame} {ovf : Bool} {reads : List TableWord} {e : FragEntry}

theorem gives_headParse {p : Dev → Prop} (hon : s.Awake) (hp : pipe < 4) (hh : s.dev.pipeHeld pipe = false) (hr : s.dev.releasedOf pipe = [])
    (h : p (s.dev.under (s.dev.headParse pipe ovf reads))) : Gives (.headParse pipe ovf reads) s p := by
  refine gives_runWhen (b := fun d => !d.pipeHeld (pipe % 4) && (d.releasedOf (pipe % 4)).isEmpty)
    (f := fun d => d.headParse (pipe % 4) ovf reads) rfl hon ?_ ?_
  · rw [Nat.mod_eq_of_lt hp, hh, hr]
    rfl
  · rw [Nat.mod_eq_of_lt hp]
    exact h

theorem gives_headPunted (hon : s.Awake) (hp : pipe < 4) (hh : s.dev.pipeHeld pipe = false) (hr : s.dev.releasedOf pipe = [])
    (hk : s.dev.sw.heads.get [] pipe = k :: r) (hf : s.dev.frame k = some f)
    (ha : s.dev.parseAct (s.dev.genAt pipe) (s.dev.parse pipe f.bytes) = 1) :
    Gives (.headParse pipe ovf []) s fun d => d.sw.heads.get [] pipe = r ∧
      (∃ g, d.frame k = some g ∧ g.dest = 2 ^ 32 ∧ g.code = 1 ∧ g.stage = .ready ∧ g.gen = s.dev.genAt pipe ∧ g.bytes = f.bytes ∧
        g.epoch = s.dev.epochAt pipe) ∧ s.dev.moves d [.sw] [0x20, 0x60] := by
  refine gives_headParse hon hp hh hr ?_
  rw [(Dev.headParse_ends hp hk hf).1 ha]
  have hm : s.dev.moves ((s.dev.headParsed pipe k f r).punt k 1) [.sw] [0x20, 0x60] := Dev.moves_headParsed.andThen Dev.moves_punt
  rw [hm.under_eq]
  have hfr := Dev.frame_headParsed (d := s.dev) (pipe := pipe) (k := k) (f := f) (r := r)
  refine ⟨?_, ⟨_, Dev.frame_updFrame_same hfr, rfl, rfl, rfl, rfl, rfl, rfl⟩, hm⟩
  rw [Dev.punt, Dev.heads_updFrame]
  exact Dev.heads_headParsed

theorem gives_headDiscarded (hon : s.Awake) (hp : pipe < 4) (hh : s.dev.pipeHeld pipe = false) (hr : s.dev.releasedOf pipe = [])
    (hk : s.dev.sw.heads.get [] pipe = k :: r) (hf : s.dev.frame k = some f)
    (ha : s.dev.parseAct (s.dev.genAt pipe) (s.dev.parse pipe f.bytes) = 2) :
    Gives (.headParse pipe ovf []) s fun d => d.sw.heads.get [] pipe = r ∧ d.frame k = none ∧
      s.dev.moves d [.sw] [0x11, 0x20, 0x40, 0x41, 0x50, 0x58, 0x60, 0x70] := by
  refine gives_headParse hon hp hh hr ?_
  rw [(Dev.headParse_ends hp hk hf).2 ha]
  have h0 : s.dev.moves (s.dev.headParsed pipe k f r) [.sw] [0x11, 0x20, 0x40, 0x41, 0x50, 0x58, 0x60, 0x70] := Dev.moves_headParsed.mono rfl rfl
  have hm : s.dev.moves ((s.dev.headParsed pipe k f r).discardFrame k 3) [.sw] [0x11, 0x20, 0x40, 0x41, 0x50, 0x58, 0x60, 0x70] :=
    h0.andThen Dev.moves_discardFrame
  rw [hm.under_eq]
  refine ⟨?_, Dev.frame_discardFrame_same, hm⟩
  rw [Dev.heads_discardFrame]
  exact Dev.heads_headParsed

end Sys2Proof.Machine
end

section
set_option Elab.async false
/-! Fragments held and timed out, and the egress stage (R162 to R168, R197). -/

namespace Sys2Proof.Machine.Dev
open Sys2Proof
variable {d e : Dev} {k j n i t u pipe gen desc dest code reason entry : Nat} {f g : Frame} {x : Reg} {l r : List Nat} {ovf : Bool}

theorem apart_fragCfg : ∀ p < 4, ∀ x, x < 16 → FRAG.FRAG_CFG.apart (FRAG.CNT.ix2 p x) = true := by decide

theorem waitsOf_setWaits : (d.setWaits pipe l).waitsOf pipe = l := SMap.get_set_same d.look.waits [] pipe l
theorem releasedOf_setReleased : (d.setReleased pipe l).releasedOf pipe = l := SMap.get_set_same d.look.released [] pipe l
theorem waitsOf_congr (h : e.look = d.look) : e.waitsOf pipe = d.waitsOf pipe := by rw [waitsOf, h, waitsOf]
theorem releasedOf_congr (h : e.look = d.look) : e.releasedOf pipe = d.releasedOf pipe := by rw [releasedOf, h, releasedOf]

/-! ### A fragment held again -/

/-- A fragment that is held. -/
def fragHeld (d : Dev) (pipe k : Nat) : Dev :=
  ((d.setWaits pipe (d.waitsOf pipe ++ [k])).fragCnt pipe 3).updFrame k fun f => { f with stage := .waiting d.clk.up }

theorem moves_fragHeld : d.moves (d.fragHeld pipe k) [.sw, .look] [0x21] :=
  (((d.still (P := [.sw, .look]) (G := [0x21])).setWaits.andThen moves_fragCnt).andThen moves_updFrame)

theorem look_fragHeld : (d.fragHeld pipe k).look = (d.setWaits pipe (d.waitsOf pipe ++ [k])).look :=
  (moves_updFrame.keeps_look).trans (bump_look _ _ _ _)

theorem frame_fragHeld (hf : d.frame k = some f) : (d.fragHeld pipe k).frame k = some { f with stage := .waiting d.clk.up } := by
  have h : ((d.setWaits pipe (d.waitsOf pipe ++ [k])).fragCnt pipe 3).frame k = some f := (frame_congr (bump_sw _ _ _ _)).trans hf
  exact frame_updFrame_same h

theorem numAt_setReleased : (d.setReleased pipe l).numAt gen x = d.numAt gen x := rfl
theorem fragFind_setReleased {key : List Byte} : (d.setReleased i l).fragFind gen pipe key = d.fragFind gen pipe key := rfl

theorem reenter_held (hr : d.releasedOf pipe = k :: r) (hf : d.frame k = some f) (hk : bitsOf f.ctx.summary 17 2 = 2)
    (ht : bitsOf (d.numAt f.gen FRAG.FRAG_CFG) 12 4 ≤ f.ctx.fragOff) (hn : d.fragFind f.gen pipe f.ctx.fragKey = none)
    (he : d.enabled 0x21 = true) (hw : (d.waitsOf pipe).length < 1024) : d.reenter pipe ovf [] = (d.setReleased pipe r).fragHeld pipe k := by
  have hf' : (d.setReleased pipe r).frame k = some f := hf
  have he' : (d.setReleased pipe r).enabled 0x21 = true := he
  have hst : (d.setReleased pipe r).fragStage pipe k = ((d.setReleased pipe r).fragHold pipe k, false) := by
    unfold fragStage
    rw [hf']
    dsimp only
    rw [hk, he', numAt_setReleased, fragFind_setReleased, hn, if_neg (by decide), if_pos rfl, if_neg (by decide), if_neg (by omega)]
  have hho : (d.setReleased pipe r).fragHold pipe k = (d.setReleased pipe r).fragHeld pipe k := by
    have hl : ¬ 1024 ≤ ((d.setReleased pipe r).waitsOf pipe).length := Nat.not_le.mpr hw
    unfold fragHold fragHeld
    rw [if_neg hl]
  have hrd : (d.setReleased pipe r).tableReads pipe [] = d.setReleased pipe r := rfl
  unfold reenter
  rw [hr]
  dsimp only
  rw [hrd, hst, hho]

/-! ### A wait that ends -/

theorem waitOver_waiting (hf : d.frame k = some f) (hs : f.stage = .waiting t) :
    d.waitOver k = decide (t + bitsOf (d.numAt f.gen FRAG.FRAG_CFG) 0 10 * 10000 ≤ d.clk.up) := by
  unfold waitOver
  rw [hf]
  dsimp only
  rw [hs]

theorem waitTimeout_of (h : (d.waitsOf pipe).find? d.waitOver = some k) (hf : (d.frame k).isSome = true) :
    d.waitTimeout pipe = ((d.setWaits pipe ((d.waitsOf pipe).erase k)).fragCnt pipe 5).fragDefault k := by
  have hf' : ((d.setWaits pipe ((d.waitsOf pipe).erase k)).frame k).isSome = true := hf
  unfold waitTimeout
  rw [h]
  dsimp only
  rw [if_pos hf']

/-- A fragment whose wait has ended, out of the list and counted. -/
def waitEnded (d : Dev) (pipe k : Nat) : Dev := (d.setWaits pipe ((d.waitsOf pipe).erase k)).fragCnt pipe 5

theorem moves_waitEnded : d.moves (d.waitEnded pipe k) [.sw, .look] [0x21] :=
  ((d.still (P := [.sw, .look]) (G := [0x21])).setWaits.andThen moves_fragCnt)
theorem waitsOf_waitEnded : (d.waitEnded pipe k).waitsOf pipe = (d.waitsOf pipe).erase k :=
  (waitsOf_congr (bump_look _ _ _ _)).trans waitsOf_setWaits
theorem frame_waitEnded : (d.waitEnded pipe k).frame n = d.frame n := frame_congr (bump_sw _ _ _ _)
theorem numAt_waitEnded (hp : pipe < 4) : (d.waitEnded pipe k).numAt gen FRAG.FRAG_CFG = d.numAt gen FRAG.FRAG_CFG :=
  numAt_congr (moves_waitEnded.keeps_prev) (moves_waitEnded.keeps_cgen) (moves_waitEnded.keeps_commit)
    (num_bump_apart _ _ _ _ _ _ (apart_fragCfg pipe hp 5 (by decide)))

theorem fragDefault_punt (hf : d.frame k = some f) (hb : bitOf (d.numAt f.gen FRAG.FRAG_CFG) 10 = true) : d.fragDefault k = d.punt k 2 := by
  unfold fragDefault
  rw [hf]
  dsimp only
  rw [if_pos hb]
theorem fragDefault_discard (hf : d.frame k = some f) (hb : bitOf (d.numAt f.gen FRAG.FRAG_CFG) 10 = false) :
    d.fragDefault k = d.discardFrame k 4 := by
  unfold fragDefault
  rw [hf]
  dsimp only
  rw [if_neg (by rw [hb]; decide)]

theorem frame_updFrame_ne {w : Frame → Frame} (h : n ≠ k) : (d.updFrame k w).frame n = d.frame n := by
  unfold updFrame
  split
  · next x hx => exact SMap.get_set_ne d.sw.frames none none (some (w x)) h
  · rfl

theorem frame_fragDefault_ne (h : n ≠ k) : (d.fragDefault k).frame n = d.frame n := by
  unfold fragDefault
  split
  · rfl
  · split
    · exact frame_updFrame_ne h
    · exact frame_discardFrame_ne h

/-! ### The fragment table -/

theorem fragAt_setFrag_same {x : Option FragEntry} : (d.setFrag i x).fragAt i = x := SMap.get_set_same d.look.frags none i x
theorem fragAt_setFrag_ne {x : Option FragEntry} (h : j ≠ i) : (d.setFrag i x).fragAt j = d.fragAt j := SMap.get_set_ne _ _ _ _ h

/-! ### The egress stage -/

theorem finalList_congr (h : e.look = d.look) : e.finalList f = d.finalList f := by
  unfold finalList editEntry
  rw [h]

/-- What a final result names, given to the frame. -/
def egressSent (d : Dev) (k : Nat) (f : Frame) (dest code : Nat) : Dev :=
  (d.crossed (islandOfPipe f.ctx.pipe) 8 f.tag k).updFrame k fun f =>
    { f with dest := dest, code := if code = 0 && bitOf dest 32 then 9 else code, stage := .ready }

theorem moves_egressSent : d.moves (d.egressSent k f dest code) [.sw] [0x60] :=
  ((d.still (P := [.sw]) (G := [0x60])).andThen moves_crossed).andThen moves_updFrame

theorem egressStage_go (hv : d.verdict f = .go dest none code) (hl : d.finalList f = some {}) (hb : f.bytes.length ≤ 10236) :
    d.egressStage k f = d.egressSent k f dest code := by
  have hl' : (d.egressSent k f dest code).finalList f = some {} := by rw [finalList_congr moves_egressSent.keeps_look, hl]
  have h10 : ¬ 10240 < (editStart f.bytes f.ctx.layers).bytes.length + 4 := by
    have : (editStart f.bytes f.ctx.layers).bytes.length = f.bytes.length := rfl
    omega
  have hq : d.egressStage k f =
      (let d := d.egressSent k f dest code
       let fail := fun (d : Dev) => ((d.bump (PARS.EDIT_DISC.ix f.ctx.pipe)).raise PARS.int_EDIT_DISC).discardFrame k 9
       match d.finalList f with
       | none => fail d
       | some l =>
         match (editStart f.bytes f.ctx.layers).run l.ops l.data l.rewrite with
         | none => fail d
         | some e =>
           if 10240 < e.bytes.length + 4 then fail d
           else if (none : Option Nat).isNone ∧ l.ops = [] then d
           else d.rehead k f e) := by
    unfold egressStage
    rw [hv]
    rfl
  rw [hq]
  dsimp only
  rw [hl']
  exact (if_neg h10).trans (if_pos ⟨rfl, rfl⟩)

theorem egressStage_drop {hop : Bool} (hv : d.verdict f = .drop reason hop) :
    d.egressStage k f = (if hop then d.fwdCnt f.ctx.pipe 15 else d).discardFrame k reason := by
  unfold egressStage
  rw [hv]

end Sys2Proof.Machine.Dev

namespace Sys2Proof.Machine
open Sys2Proof
variable {s : State} {pipe k j t u desc dest code reason entry : Nat} {r : List Nat} {f g : Frame} {ovf : Bool} {reads : List TableWord} {e : FragEntry}

theorem idle_headParse (hp : pipe < 4) (h : s.dev.pipeHeld pipe = true ∨ s.dev.sw.heads.get [] pipe = []) : Idle (.headParse pipe ovf reads) s := by
  refine idle_runSelf (f := fun d => d.when (!d.pipeHeld (pipe % 4) && (d.releasedOf (pipe % 4)).isEmpty) fun d =>
    d.headParse (pipe % 4) ovf reads) rfl ?_
  rw [Nat.mod_eq_of_lt hp]
  rcases h with h | h
  · rw [h]
    rfl
  · have hq : s.dev.headParse pipe ovf reads = s.dev := by
      unfold Dev.headParse
      rw [h]
    unfold Dev.when
    dsimp only
    rw [hq, ite_self]

theorem commit_at {c : CommitSt} (hc : s.dev.commit = some c) (ha : c.applied = false) (hs : c.switched = []) (hp : c.pipes = false) :
    s.dev.genAt pipe = (if c.tc ≤ s.dev.islandNs (9 + pipe) then s.dev.cgen + 1 else s.dev.cgen) ∧
    s.dev.epochAt pipe = (if c.tc ≤ s.dev.islandNs (9 + pipe) then nextEpoch (s.dev.num (COMMIT 0) % 65536)
      else s.dev.num (COMMIT 0) % 65536) := by
  unfold Dev.genAt Dev.epochAt
  rw [hc]
  dsimp only
  rw [ha, hs, hp]
  by_cases h : c.tc ≤ s.dev.islandNs (9 + pipe)
  · simp [h, Nat.not_lt.mpr h, bit]
  · simp [h, Nat.not_le.mp h, bit]

theorem gives_reentryHeld (hon : s.Awake) (hp : pipe < 4) (hr : s.dev.releasedOf pipe = k :: r) (hf : s.dev.frame k = some f)
    (hk : bitsOf f.ctx.summary 17 2 = 2) (ht : bitsOf (s.dev.numAt f.gen FRAG.FRAG_CFG) 12 4 ≤ f.ctx.fragOff)
    (hn : s.dev.fragFind f.gen pipe f.ctx.fragKey = none) (he : s.dev.enabled 0x21 = true) (hw : (s.dev.waitsOf pipe).length < 1024) :
    Gives (.fragmentReentry pipe ovf []) s fun d => d.releasedOf pipe = r ∧ d.waitsOf pipe = s.dev.waitsOf pipe ++ [k] ∧
      d.frame k = some { f with stage := .waiting s.dev.clk.up } ∧ s.dev.moves d [.sw, .look] [0x21] := by
  refine gives_run (f := fun d => d.reenter (pipe % 4) ovf []) rfl hon ?_
  rw [Nat.mod_eq_of_lt hp, Dev.reenter_held hr hf hk ht hn he hw]
  have h0 : s.dev.moves (s.dev.setReleased pipe r) [.sw, .look] [0x21] := s.dev.still.set_look
  have hm : s.dev.moves ((s.dev.setReleased pipe r).fragHeld pipe k) [.sw, .look] [0x21] := h0.andThen Dev.moves_fragHeld
  rw [hm.under_eq]
  refine ⟨?_, ?_, Dev.frame_fragHeld (d := s.dev.setReleased pipe r) hf, hm⟩
  · have h1 : ((s.dev.setReleased pipe r).setWaits pipe ((s.dev.setReleased pipe r).waitsOf pipe ++ [k])).releasedOf pipe =
        (s.dev.setReleased pipe r).releasedOf pipe := rfl
    rw [Dev.releasedOf_congr Dev.look_fragHeld, h1, Dev.releasedOf_setReleased]
  · have h1 : (s.dev.setReleased pipe r).waitsOf pipe = s.dev.waitsOf pipe := rfl
    rw [Dev.waitsOf_congr Dev.look_fragHeld, Dev.waitsOf_setWaits, h1]

theorem idle_reentry (hp : pipe < 4) (h : s.dev.releasedOf pipe = []) : Idle (.fragmentReentry pipe ovf reads) s := by
  refine idle_runSelf (f := fun d => d.reenter (pipe % 4) ovf reads) rfl ?_
  rw [Nat.mod_eq_of_lt hp]
  unfold Dev.reenter
  rw [h]

theorem Dev.moves_waitTimeout {d : Dev} : d.moves ((d.waitEnded pipe k).fragDefault k) [.sw, .look] [0x11, 0x21, 0x40, 0x41, 0x50, 0x58, 0x70] := by
  have h0 : d.moves (d.waitEnded pipe k) [.sw, .look] [0x11, 0x21, 0x40, 0x41, 0x50, 0x58, 0x70] := Dev.moves_waitEnded.mono rfl rfl
  exact h0.andThen Dev.moves_fragDefault

/-- The first fragment whose wait has ended takes the default. -/
theorem gives_waitEnded (hon : s.Awake) (hp : pipe < 4) (hfind : (s.dev.waitsOf pipe).find? s.dev.waitOver = some k) (hf : s.dev.frame k = some f) :
    Gives (.waitTimeout pipe) s fun d => d = (s.dev.waitEnded pipe k).fragDefault k := by
  refine gives_run (f := fun d => d.waitTimeout (pipe % 4)) rfl hon ?_
  rw [Nat.mod_eq_of_lt hp, Dev.waitTimeout_of hfind (by rw [hf]; rfl)]
  exact Dev.moves_waitTimeout.under_eq

theorem Dev.waitsOf_timeout {d : Dev} : ((d.waitEnded pipe k).fragDefault k).waitsOf pipe = (d.waitsOf pipe).erase k :=
  (Dev.waitsOf_congr (Dev.moves_fragDefault.keeps_look)).trans Dev.waitsOf_waitEnded

theorem gives_waitTimeout (hon : s.Awake) (hp : pipe < 4) (hw : s.dev.waitsOf pipe = k :: r) (hf : s.dev.frame k = some f)
    (hs : f.stage = .waiting t) (ht : t + bitsOf (s.dev.numAt f.gen FRAG.FRAG_CFG) 0 10 * 10000 ≤ s.dev.clk.up) :
    Gives (.waitTimeout pipe) s fun d => d.waitsOf pipe = r ∧
      (bitOf (s.dev.numAt f.gen FRAG.FRAG_CFG) 10 = true → ∃ g, d.frame k = some g ∧ g.dest = 2 ^ 32 ∧ g.code = 2 ∧ g.stage = .ready) ∧
      (bitOf (s.dev.numAt f.gen FRAG.FRAG_CFG) 10 = false → d.frame k = none) ∧
      s.dev.moves d [.sw, .look] [0x11, 0x21, 0x40, 0x41, 0x50, 0x58, 0x70] := by
  have hov : s.dev.waitOver k = true := by rw [Dev.waitOver_waiting hf hs, decide_eq_true ht]
  refine (gives_waitEnded hon hp (by rw [hw, List.find?_cons_of_pos hov]) hf).mono ?_
  rintro d rfl
  have hf' : (s.dev.waitEnded pipe k).frame k = some f := by rw [Dev.frame_waitEnded, hf]
  refine ⟨by rw [Dev.waitsOf_timeout, hw, List.erase_cons_head], fun hb => ?_, fun hb => ?_, Dev.moves_waitTimeout⟩
  · rw [Dev.fragDefault_punt hf' (by rw [Dev.numAt_waitEnded hp, hb])]
    exact ⟨_, Dev.frame_updFrame_same hf', rfl, rfl, rfl⟩
  · rw [Dev.fragDefault_discard hf' (by rw [Dev.numAt_waitEnded hp, hb])]
    exact Dev.frame_discardFrame_same

theorem idle_waitTimeout (hp : pipe < 4) (hw : s.dev.waitsOf pipe = k :: r) (hf : s.dev.frame k = some f)
    (hs : f.stage = .waiting t) (ht : s.dev.clk.up < t + bitsOf (s.dev.numAt f.gen FRAG.FRAG_CFG) 0 10 * 10000)
    (hr : ∀ j ∈ r, ∃ g u, s.dev.frame j = some g ∧ g.stage = .waiting u ∧
      s.dev.clk.up < u + bitsOf (s.dev.numAt g.gen FRAG.FRAG_CFG) 0 10 * 10000) : Idle (.waitTimeout pipe) s := by
  refine idle_runSelf (f := fun d => d.waitTimeout (pipe % 4)) rfl ?_
  rw [Nat.mod_eq_of_lt hp]
  have hnone : (s.dev.waitsOf pipe).find? s.dev.waitOver = none := by
    rw [hw, List.find?_eq_none]
    intro j hj
    rcases List.mem_cons.mp hj with rfl | hj
    · rw [Dev.waitOver_waiting hf hs, decide_eq_false (Nat.not_le.mpr ht)]
      decide
    · obtain ⟨g, u, hg, hu, hlt⟩ := hr j hj
      rw [Dev.waitOver_waiting hg hu, decide_eq_false (Nat.not_le.mpr hlt)]
      decide
  unfold Dev.waitTimeout
  rw [hnone]

theorem gives_secondTimeout (hon : s.Awake) (hp : pipe < 4) (hw : s.dev.waitsOf pipe = [k, j]) (hkj : k ≠ j) (hf : s.dev.frame k = some f)
    (hs : f.stage = .waiting t) (ht : s.dev.clk.up < t + bitsOf (s.dev.numAt f.gen FRAG.FRAG_CFG) 0 10 * 10000)
    (hg : s.dev.frame j = some g) (hu : g.stage = .waiting u) (hut : u + bitsOf (s.dev.numAt g.gen FRAG.FRAG_CFG) 0 10 * 10000 ≤ s.dev.clk.up) :
    Gives (.waitTimeout pipe) s fun d => d.waitsOf pipe = [k] ∧ d.frame k = some f ∧
      s.dev.moves d [.sw, .look] [0x11, 0x21, 0x40, 0x41, 0x50, 0x58, 0x70] := by
  have hk : ¬ s.dev.waitOver k = true := by
    rw [Dev.waitOver_waiting hf hs, decide_eq_false (Nat.not_le.mpr ht)]
    decide
  have hj : s.dev.waitOver j = true := by rw [Dev.waitOver_waiting hg hu, decide_eq_true hut]
  refine (gives_waitEnded hon hp (by rw [hw, List.find?_cons_of_neg hk, List.find?_cons_of_pos hj]) hg).mono ?_
  rintro d rfl
  refine ⟨?_, ?_, Dev.moves_waitTimeout⟩
  · rw [Dev.waitsOf_timeout, hw, List.erase_cons_tail (by simpa using hkj), List.erase_cons_head]
  · rw [Dev.frame_fragDefault_ne hkj, Dev.frame_waitEnded, hf]

theorem gives_fragExpiry (hon : s.Awake) (hp : pipe < 4) (hn : entry < 8192) (he : s.dev.fragAt (pipe * 8192 + entry) = some e)
    (ht : e.hit + s.dev.fld FRAG.FRAG_AGE_AGE * 10000000 ≤ s.dev.clk.up) :
    Gives (.fragmentEntryExpiry pipe entry) s fun d => d.fragAt (pipe * 8192 + entry) = none ∧
      (∀ i, i ≠ pipe * 8192 + entry → d.fragAt i = s.dev.fragAt i) ∧ s.dev.keeps d [.look] := by
  refine gives_run (f := fun d => match d.fragAt (pipe % 4 * 8192 + entry % 8192) with
    | some e => d.when (decide (e.hit + d.fld FRAG.FRAG_AGE_AGE * 10000000 ≤ d.clk.up) ||
        (match e.ended with | some t => decide (t + d.fld FRAG.FRAG_AGE_LINGER * 10000000 ≤ d.clk.up) | none => false))
        fun d => d.setFrag (pipe % 4 * 8192 + entry % 8192) none
    | none => d) rfl hon ?_
  rw [Nat.mod_eq_of_lt hp, Nat.mod_eq_of_lt hn, he]
  dsimp only
  rw [decide_eq_true ht, Bool.true_or, Dev.when_true]
  have hm : s.dev.moves (s.dev.setFrag (pipe * 8192 + entry) none) [.look] [] := s.dev.still.set_look
  rw [hm.under_eq]
  exact ⟨Dev.fragAt_setFrag_same, fun i hi => Dev.fragAt_setFrag_ne hi, (Dev.keeps.refl _).set_look⟩

theorem idle_fragExpiry (hp : pipe < 4) (hn : entry < 8192) (he : s.dev.fragAt (pipe * 8192 + entry) = some e) (hend : e.ended = none)
    (ht : s.dev.clk.up < e.hit + s.dev.fld FRAG.FRAG_AGE_AGE * 10000000) : Idle (.fragmentEntryExpiry pipe entry) s := by
  refine idle_runSelf (f := fun d => match d.fragAt (pipe % 4 * 8192 + entry % 8192) with
    | some e => d.when (decide (e.hit + d.fld FRAG.FRAG_AGE_AGE * 10000000 ≤ d.clk.up) ||
        (match e.ended with | some t => decide (t + d.fld FRAG.FRAG_AGE_LINGER * 10000000 ≤ d.clk.up) | none => false))
        fun d => d.setFrag (pipe % 4 * 8192 + entry % 8192) none
    | none => d) rfl ?_
  rw [Nat.mod_eq_of_lt hp, Nat.mod_eq_of_lt hn, he]
  dsimp only
  rw [hend, decide_eq_false (Nat.not_le.mpr ht), Bool.false_or, Dev.when_false]

theorem exec_editList : exec (.editListApply desc []) s = s.run fun d => match d.frame desc with
    | some f => if f.stage = .edit then d.egressStage desc f else d
    | none => d := rfl

theorem gives_editSent (hon : s.Awake) (hf : s.dev.frame desc = some f) (hs : f.stage = .edit) (hv : s.dev.verdict f = .go dest none code)
    (hl : s.dev.finalList f = some {}) (hb : f.bytes.length ≤ 10236) :
    Gives (.editListApply desc []) s fun d => (∃ g, d.frame desc = some g ∧ g.dest = dest ∧ g.stage = .ready ∧ g.bytes = f.bytes ∧
      g.code = (if code = 0 && bitOf dest 32 then 9 else code)) ∧ s.dev.moves d [.sw] [0x60] := by
  refine gives_run exec_editList hon ?_
  rw [hf]
  dsimp only
  rw [if_pos hs, Dev.egressStage_go hv hl hb, Dev.moves_egressSent.under_eq]
  have hf' : (s.dev.crossed (islandOfPipe f.ctx.pipe) 8 f.tag desc).frame desc = some f := by
    rw [Dev.frame_congr Dev.moves_crossed.keeps_sw, hf]
  exact ⟨⟨_, Dev.frame_updFrame_same hf', rfl, rfl, rfl, rfl⟩, Dev.moves_egressSent⟩

theorem gives_editDropped {hop : Bool} (hon : s.Awake) (hf : s.dev.frame desc = some f) (hs : f.stage = .edit)
    (hv : s.dev.verdict f = .drop reason hop) :
    Gives (.editListApply desc []) s fun d => d.frame desc = none ∧ s.dev.moves d [.sw] [0x11, 0x28, 0x40, 0x41, 0x50, 0x58, 0x70] := by
  refine gives_run exec_editList hon ?_
  rw [hf]
  dsimp only
  rw [if_pos hs, Dev.egressStage_drop hv]
  have h0 : s.dev.moves (if hop = true then s.dev.fwdCnt f.ctx.pipe 15 else s.dev) [.sw] [0x11, 0x28, 0x40, 0x41, 0x50, 0x58, 0x70] :=
    s.dev.still.iteSelf fun h => h.bump
  have hm := h0.andThen (Dev.moves_discardFrame (k := desc) (r := reason))
  rw [hm.under_eq]
  exact ⟨Dev.frame_discardFrame_same, hm⟩

theorem idle_editList (hf : s.dev.frame desc = none) : Idle (.editListApply desc reads) s := by
  refine idle_runSelf (f := fun d => match d.frame desc with
    | some f => if f.stage = .edit then (d.tableReads f.ctx.pipe reads).egressStage desc f else d
    | none => d) rfl ?_
  rw [hf]

end Sys2Proof.Machine
open Sys2Proof Sys2Proof.Machine

/-- Settles O25: a head's parse, a fragment's wait and the egress stage, each through the device it leaves. -/
theorem headsAndFragments : Obligations.HeadsAndFragments := by
  unfold Obligations.HeadsAndFragments
  exact ⟨fun s pipe k r f ovf hon hp hh hr hk hf ha => gives_headPunted hon hp hh hr hk hf ha,
    fun s pipe k r f ovf hon hp hh hr hk hf ha => gives_headDiscarded hon hp hh hr hk hf ha,
    fun s c pipe hc ha hs hp => commit_at hc ha hs hp,
    fun s pipe ovf reads _ hp h => idle_headParse hp (.inl h),
    fun s pipe ovf reads _ hp h => idle_headParse hp (.inr h),
    fun s pipe k r f ovf hon hp hr hf hk ht hn he hw => gives_reentryHeld hon hp hr hf hk ht hn he hw,
    fun s pipe ovf reads _ hp h => idle_reentry hp h,
    fun s pipe k t r f hon hp hw hf hs ht => gives_waitTimeout hon hp hw hf hs ht,
    fun s pipe k t r f _ hp hw hf hs ht hr => idle_waitTimeout hp hw hf hs ht hr,
    fun s pipe k j t u f g hon hp hw hkj hf hs ht hg hu hut => gives_secondTimeout hon hp hw hkj hf hs ht hg hu hut,
    fun s pipe entry e hon hp hn he ht => gives_fragExpiry hon hp hn he ht,
    fun s pipe entry e _ hp hn he hend ht => idle_fragExpiry hp hn he hend ht,
    fun s desc dest code f hon hf hs hv hl hb => gives_editSent hon hf hs hv hl hb,
    fun s desc reason hop f hon hf hs hv => gives_editDropped hon hf hs hv,
    fun s desc reads _ hf => idle_editList hf⟩
end

section
set_option Elab.async false
/-! A descriptor that arrives at the traffic manager (R343, R355 to R358, R364, R365). -/

namespace Sys2Proof.Machine.Dev
open Sys2Proof
variable {d e : Dev} {k n q pol sub cls : Nat} {f g : Frame} {c : Copy}

/-! ### A copy queued -/

/-- The tag of a copy's frame. -/
def tagOf (d : Dev) (k : Nat) : Option Nat := match d.frame k with | some f => f.tag | none => none

/-- A copy on its way into its queue. -/
def copyCrossed (d : Dev) (q : Nat) (c : Copy) : Dev := (d.perf 22 0x181).crossed 22 9 (d.tagOf c.desc) c.desc (c.port + q * 64)

/-- A copy at the end of a queue, in the order of arrival. -/
def copyPlaced (d : Dev) (q : Nat) (c : Copy) : Dev :=
  let d := d.setQueue q (d.queue q ++ [{ c with seq := d.sw.copySeq }])
  { d with sw := { d.sw with copySeq := d.sw.copySeq + 1 } }

theorem enqueue_eq : d.enqueue q c = ((d.copyCrossed q c).copyPlaced q c).setNum TMGR.COPY_FREE ((d.copyCrossed q c).num TMGR.COPY_FREE - 1) := rfl
theorem moves_copyCrossed : d.moves (d.copyCrossed q c) [] [] := d.still.perf.andThen (moves_perfPage moves_crossed)

theorem sw_enqueue : (d.enqueue q c).sw = { d.sw with
    queues := d.sw.queues.set [] q (d.queue q ++ [{ c with seq := d.sw.copySeq }])
    copySeq := d.sw.copySeq + 1 } := by
  have h : (d.copyCrossed q c).sw = d.sw := moves_copyCrossed.keeps_sw
  rw [enqueue_eq, setNum_sw]
  unfold copyPlaced setQueue queue
  rw [h]

theorem queue_enqueue : (d.enqueue q c).queue q = d.queue q ++ [{ c with seq := d.sw.copySeq }] := by
  rw [queue, sw_enqueue]
  exact SMap.get_set_same d.sw.queues [] q _

theorem frame_enqueue : (d.enqueue q c).frame k = d.frame k := by rw [frame, sw_enqueue, frame]

theorem copyFree_enqueue : (d.enqueue q c).num TMGR.COPY_FREE = d.num TMGR.COPY_FREE - 1 := by
  rw [enqueue_eq, num_setNum_same, moves_copyCrossed.num TMGR.COPY_FREE 0 rfl rfl]
  have := d.num_lt TMGR.COPY_FREE 0
  omega

theorem mismap_enqueue : (d.enqueue q c).num TMGR.MISMAP = d.num TMGR.MISMAP := by
  rw [enqueue_eq, num_setNum_apart _ _ _ _ _ _ rfl]
  exact moves_copyCrossed.num TMGR.MISMAP 0 rfl rfl

theorem raised_updFrame {w : Frame → Frame} {x : IntBit} : (d.updFrame k w).raised x = d.raised x := by
  unfold updFrame
  split <;> rfl

/-! ### A frame metered -/

/-- The colour that a frame brings to its meter. -/
def preOf (f : Frame) : Nat := if resColourEn f.ctx.res then resColour f.ctx.res else 0

/-- A frame without a policer, with the colour that it brings. -/
def metered (f : Frame) : Frame := { f with colour := preOf f }

theorem meterFrame_plain (hf : d.frame k = some f) (hp : resPolEn f.ctx.res = false) : d.meterFrame k f = (d.setFrame k (metered f), true) := by
  have hu : (d.updFrame k fun g => { g with colour := preOf f }) = d.setFrame k (metered f) := by
    unfold updFrame
    rw [hf]
    rfl
  unfold meterFrame
  dsimp only
  rw [hp, if_neg (by decide)]
  exact congrArg (·, true) hu

theorem takesCopy_setFrame : (d.setFrame k g).takesCopy n cls = d.takesCopy n cls := rfl
theorem subOf_setFrame : (d.setFrame k g).subOf f n = d.subOf f n := rfl
theorem classOf_setFrame : (d.setFrame k g).classOf f = d.classOf f := rfl
theorem chainPort_setFrame : (d.setFrame k g).chainPort sub = d.chainPort sub := rfl
theorem num_setFrame {x : Reg} : (d.setFrame k g).num x = d.num x := rfl
theorem copiesOf_setFrame : (d.setFrame k g).copiesOf f = d.copiesOf f := by
  unfold copiesOf
  rw [classOf_setFrame]
  rfl
theorem classOf_metered : d.classOf (metered f) = d.classOf f := rfl
theorem copiesOf_metered : d.copiesOf (metered f) = d.copiesOf f := rfl
theorem subOf_metered : d.subOf (metered f) n = d.subOf f n := rfl

/-- A frame that waits at the crossing for copy entries. -/
def crossingWait (d : Dev) (k : Nat) (f : Frame) : Dev :=
  let d := d.setFrame k { f with stage := .queued }
  { d with sw := { d.sw with waitTm := d.sw.waitTm ++ [(k, d.clk.up)] } }.raise TMGR.int_COPY_WAIT

theorem frame_crossingWait : (d.crossingWait k f).frame k = some { f with stage := .queued } :=
  (frame_congr (raise_sw _ _)).trans (frame_setFrame_same (d := d))

theorem arrive_metered (hf : d.frame k = some f) (hs : f.stage = .ready) (hp : resPolEn f.ctx.res = false) :
    d.arrive k = if destPorts f.dest = [] then (d.setFrame k (metered f)).discardFrame k 17
      else if d.sw.waitTm = [] ∧ d.copiesOf f ≤ d.num TMGR.COPY_FREE then (d.setFrame k (metered f)).replicate k (metered f)
      else (d.setFrame k (metered f)).crossingWait k (metered f) := by
  unfold arrive
  rw [hf]
  dsimp only
  rw [if_neg (not_not_intro hs), meterFrame_plain hf hp]
  dsimp only
  rw [if_neg (by decide), frame_setFrame_same]
  dsimp only
  rw [copiesOf_setFrame, copiesOf_metered, num_setFrame]
  rfl

/-! ### A frame with one copy -/

/-- The one copy that a frame makes for a port. -/
def loneCopy (d : Dev) (k n cls : Nat) : Copy := { desc := k, port := n, cls := cls, since := d.clk.up }

/-- The frame with its class and subscriber, as its copies are queued. -/
def classed (d : Dev) (f : Frame) (n : Nat) : Frame := { f with cls := d.classOf f, sub := d.subOf f n, stage := .queued }

theorem replicate_one (hd : destPorts f.dest = [n]) :
    d.replicate k f =
      (let x := (d.setFrame k (d.classed f n)).offerCopy k (d.classed f n) (d.classOf f) true n
       if 0 + x.2 = 0 then x.1.releaseFrame k 1 else x.1.updFrame k fun f => { f with refs := 0 + x.2 }) := by
  unfold replicate
  rw [hd]
  rfl

theorem offerCopy_refused {u : Bool} (h : d.takesCopy n cls = false) : d.offerCopy k f cls u n = ((d.disc 11).bump SWCR.DOWN_DISC n, 0) := by
  unfold offerCopy
  rw [h]
  rfl

theorem offerCopy_queued (h : d.takesCopy n cls = true) (hc : d.chainPort f.sub = n) :
    d.offerCopy k f cls true n = (d.enqueue (queueOf f.sub cls) (d.loneCopy k n cls), 1) := by
  unfold offerCopy
  rw [h, if_neg (by decide)]
  dsimp only
  rw [if_pos rfl, if_pos hc]
  rfl

theorem offerCopy_orphan (h : d.takesCopy n cls = true) (hc : d.chainPort f.sub ≠ n) :
    d.offerCopy k f cls true n = (d.orphan (d.loneCopy k n cls), 1) := by
  unfold offerCopy
  rw [h, if_neg (by decide)]
  dsimp only
  rw [if_pos rfl, if_neg hc]
  rfl

theorem replicate_queued (hd : destPorts f.dest = [n]) (ht : d.takesCopy n (d.classOf f) = true) (hc : d.chainPort (d.subOf f n) = n) :
    d.replicate k f = ((d.setFrame k (d.classed f n)).enqueue (queueOf (d.subOf f n) (d.classOf f))
      ((d.setFrame k (d.classed f n)).loneCopy k n (d.classOf f))).updFrame k fun f => { f with refs := 1 } := by
  rw [replicate_one hd, offerCopy_queued (d := d.setFrame k (d.classed f n)) (f := d.classed f n) (by rw [takesCopy_setFrame, ht]) hc]
  rfl

theorem replicate_orphan (hd : destPorts f.dest = [n]) (ht : d.takesCopy n (d.classOf f) = true) (hc : d.chainPort (d.subOf f n) ≠ n) :
    d.replicate k f = ((d.setFrame k (d.classed f n)).orphan
      ((d.setFrame k (d.classed f n)).loneCopy k n (d.classOf f))).updFrame k fun f => { f with refs := 1 } := by
  rw [replicate_one hd, offerCopy_orphan (d := d.setFrame k (d.classed f n)) (f := d.classed f n) (by rw [takesCopy_setFrame, ht]) hc]
  rfl

theorem replicate_refused (hd : destPorts f.dest = [n]) (ht : d.takesCopy n (d.classOf f) = false) :
    d.replicate k f = (((d.setFrame k (d.classed f n)).disc 11).bump SWCR.DOWN_DISC n).releaseFrame k 1 := by
  rw [replicate_one hd, offerCopy_refused (by rw [takesCopy_setFrame, ht])]
  rfl

theorem copiesOf_one (hd : destPorts f.dest = [n]) : d.copiesOf f ≤ 1 := by
  unfold copiesOf
  rw [hd]
  exact List.length_filter_le _ _

theorem copiesOf_refused (hd : destPorts f.dest = [n]) (ht : d.takesCopy n (d.classOf f) = false) : d.copiesOf f = 0 := by
  unfold copiesOf
  rw [hd, List.filter_cons_of_neg (by rw [ht]; decide), List.filter_nil, List.length_nil]

theorem queue_updFrame {w : Frame → Frame} : (d.updFrame k w).queue q = d.queue q := by
  unfold updFrame
  split <;> rfl

/-! ### A frame that its meter discards -/

/-- The register that counts a colour. -/
def colourReg (col : Nat) : Reg := if col = 0 then POLC.GREEN else if col = 1 then POLC.YELLOW else POLC.RED

theorem colourReg_cases {P : Reg → Prop} {col : Nat} (h0 : P POLC.GREEN) (h1 : P POLC.YELLOW) (h2 : P POLC.RED) : P (colourReg col) := by
  unfold colourReg
  split
  · exact h0
  · split
    · exact h1
    · exact h2

/-- A frame metered: the policer's buckets, and the colour counted. -/
def policed (d : Dev) (pol : Nat) (x : Nat × Polic) : Dev :=
  ((d.setPolic pol x.2).perf 22 0x182 (bit (x.1 = 2))).bump (colourReg x.1) pol

/-- What the meter of a policer gives a frame. -/
def meterOf (d : Dev) (pol pre len : Nat) : Nat × Polic :=
  meter (d.fld POLC.MODE_TYPE pol) (if d.on POLC.MODE_AWARE pol then pre else 0)
    (((len : Int) + signedOf (d.fld POLC.MODE_LEN_ADJ pol) 8).toNat * 65536) (d.policNow pol)

theorem police_eq {pre len : Nat} : d.police pol pre len =
    if !d.enabled 0x4A || d.fld POLC.MODE_TYPE pol = 0 || d.fld POLC.MODE_TYPE pol = 3 then (d, pre)
    else (d.policed pol (d.meterOf pol pre len), (d.meterOf pol pre len).1) := rfl

theorem moves_policed {x : Nat × Polic} : d.moves (d.policed pol x) [.sw] [0x4A] := by
  unfold policed
  have h : d.moves ((d.setPolic pol x.2).perf 22 0x182 (bit (x.1 = 2))) [.sw] [0x4A] := d.still.set_sw.perf
  exact h.bump (hg := colourReg_cases (P := fun r => [0x4A].contains r.page = true) rfl rfl rfl)

theorem num_policed {x : Nat × Polic} : (d.policed pol x).num POLC.MODE pol = d.num POLC.MODE pol := by
  have h : d.moves ((d.setPolic pol x.2).perf 22 0x182 (bit (x.1 = 2))) [.sw] [] := d.still.set_sw.perf
  unfold policed
  rw [num_bump_apart _ _ _ _ _ _ (colourReg_cases (P := fun r => (POLC.MODE).apart r = true) rfl rfl rfl), h.num POLC.MODE pol rfl rfl]

theorem enabled_policed {x : Nat × Polic} : (d.policed pol x).enabled 0x4A = d.enabled 0x4A := by
  have h : d.moves ((d.setPolic pol x.2).perf 22 0x182 (bit (x.1 = 2))) [.sw] [] := d.still.set_sw.perf
  unfold policed
  exact enabled_congr ((regP_bump_apart _ _ _ _ _ _ _ (colourReg_cases (P := fun r => (CTRL 0x4A).apart r = true) rfl rfl rfl)).trans
    (h.regP (CTRL 0x4A) 0 0 rfl rfl))

theorem enabled_police {pre len : Nat} : (d.police pol pre len).1.enabled 0x4A = d.enabled 0x4A := by
  rw [police_eq]
  split
  · rfl
  · exact enabled_policed

theorem moves_police {pre len : Nat} : d.moves (d.police pol pre len).1 [.sw] [0x4A] := by
  rw [police_eq]
  split
  · exact d.still
  · exact moves_policed

theorem num_police {pre len : Nat} : (d.police pol pre len).1.num POLC.MODE pol = d.num POLC.MODE pol := by
  rw [police_eq]
  split
  · rfl
  · exact num_policed

/-- A red frame, as its meter leaves the module before its discard is counted. -/
def redMarked (d : Dev) (k : Nat) (f : Frame) : Dev :=
  (d.police (resPolicer f.ctx.res) (preOf f) f.len).1.updFrame k fun f => { f with colour := 2 }

theorem moves_redMarked : d.moves (d.redMarked k f) [.sw] [0x4A] := moves_police.andThen moves_updFrame

theorem arrive_red (hf : d.frame k = some f) (hs : f.stage = .ready) (hp : resPolEn f.ctx.res = true) (hpol : pol = resPolicer f.ctx.res)
    (he : d.enabled 0x4A = true) (hty : d.fld POLC.MODE_TYPE pol ≠ 0) (hrd : d.on POLC.MODE_RED_DROP pol = true)
    (hc : (d.police pol (preOf f) f.len).2 = 2) :
    d.arrive k = (((d.redMarked k f).bump POLC.RED_DISC pol).raise POLC.int_RED_DISC).discardFrame k 10 := by
  subst hpol
  have hmode : (d.redMarked k f).num POLC.MODE (resPolicer f.ctx.res) = d.num POLC.MODE (resPolicer f.ctx.res) := by
    have h : (d.redMarked k f).num POLC.MODE (resPolicer f.ctx.res) = (d.police (resPolicer f.ctx.res) (preOf f) f.len).1.num POLC.MODE (resPolicer f.ctx.res) :=
      (moves_updFrame).num POLC.MODE _ rfl rfl
    rw [h, num_police]
  have hty' : (d.redMarked k f).fld POLC.MODE_TYPE (resPolicer f.ctx.res) = d.fld POLC.MODE_TYPE (resPolicer f.ctx.res) := by
    unfold fld
    exact congrArg (bitsOf · _ _) hmode
  have hrd' : (d.redMarked k f).on POLC.MODE_RED_DROP (resPolicer f.ctx.res) = d.on POLC.MODE_RED_DROP (resPolicer f.ctx.res) := by
    unfold on fld
    rw [show (d.redMarked k f).num POLC.MODE_RED_DROP.reg (resPolicer f.ctx.res) = d.num POLC.MODE_RED_DROP.reg (resPolicer f.ctx.res) from hmode]
  have hen : (d.redMarked k f).enabled 0x4A = true := by
    have h : (d.redMarked k f).enabled 0x4A = (d.police (resPolicer f.ctx.res) (preOf f) f.len).1.enabled 0x4A :=
      enabled_of_moves moves_updFrame rfl rfl
    rw [h, enabled_police, he]
  have hm : d.meterFrame k f = ((((d.redMarked k f).bump POLC.RED_DISC (resPolicer f.ctx.res)).raise POLC.int_RED_DISC).discardFrame k 10, false) := by
    have hx : d.police (resPolicer f.ctx.res) (if resColourEn f.ctx.res = true then resColour f.ctx.res else 0) f.len =
        ((d.police (resPolicer f.ctx.res) (preOf f) f.len).1, 2) := Prod.ext rfl hc
    unfold meterFrame
    dsimp only
    rw [if_pos hp, hx]
    dsimp only
    have hr : ((d.police (resPolicer f.ctx.res) (preOf f) f.len).1.updFrame k fun f => { f with colour := 2 }) = d.redMarked k f := rfl
    rw [hr, hen, hrd', hty', if_pos (by simp [hrd, hty])]
  unfold arrive
  rw [hf]
  dsimp only
  rw [if_neg (not_not_intro hs), hm]
  rfl

end Sys2Proof.Machine.Dev
end

section
set_option Elab.async false
/-! What a descriptor that arrives becomes (R343, R355 to R358, R364, R365). -/

namespace Sys2Proof.Machine
open Sys2Proof
variable {s : State} {k n q pol sub cls : Nat} {f g : Frame} {c : Copy}

theorem gives_arrival {p : Dev → Prop} (hon : s.Awake) (h : p (s.dev.under (s.dev.arrive k))) : Gives (.descriptorArrival k) s p :=
  gives_run (f := fun d => d.arrive k) rfl hon h

theorem gives_arrivalEmpty (hon : s.Awake) (hf : s.dev.frame k = some f) (hs : f.stage = .ready) (hp : resPolEn f.ctx.res = false)
    (hd : destPorts f.dest = []) :
    Gives (.descriptorArrival k) s fun d => d.frame k = none ∧ s.dev.moves d [.sw] [0x11, 0x40, 0x41, 0x50, 0x58, 0x70] := by
  refine gives_arrival hon ?_
  have hm : s.dev.moves ((s.dev.setFrame k (Dev.metered f)).discardFrame k 17) [.sw] [0x11, 0x40, 0x41, 0x50, 0x58, 0x70] :=
    s.dev.still.setFrame.andThen Dev.moves_discardFrame
  rw [Dev.arrive_metered hf hs hp, if_pos hd, hm.under_eq]
  exact ⟨Dev.frame_discardFrame_same, hm⟩

/-- An arriving frame whose copies find entries. -/
theorem arrive_replicates (hf : s.dev.frame k = some f) (hs : f.stage = .ready) (hp : resPolEn f.ctx.res = false)
    (hd : destPorts f.dest = [n]) (hw : s.dev.sw.waitTm = []) (hc : s.dev.copiesOf f ≤ s.dev.num TMGR.COPY_FREE) :
    s.dev.arrive k = (s.dev.setFrame k (Dev.metered f)).replicate k (Dev.metered f) := by
  rw [Dev.arrive_metered hf hs hp, if_neg (by rw [hd]; exact List.cons_ne_nil _ _), if_pos ⟨hw, hc⟩]

/-- The one copy of a frame, in the order of arrival. -/
def Dev.takenCopy (d : Dev) (k n cls : Nat) : Copy := { d.loneCopy k n cls with seq := d.sw.copySeq }

theorem Dev.queue_setFrame {d : Dev} : (d.setFrame k g).queue q = d.queue q := rfl

theorem gives_arrivalQueued (hon : s.Awake) (hf : s.dev.frame k = some f) (hs : f.stage = .ready) (hp : resPolEn f.ctx.res = false)
    (hd : destPorts f.dest = [n]) (hw : s.dev.sw.waitTm = []) (hfree : 1 ≤ s.dev.num TMGR.COPY_FREE)
    (ht : s.dev.takesCopy n (s.dev.classOf f) = true) (hc : s.dev.chainPort (s.dev.subOf f n) = n) :
    Gives (.descriptorArrival k) s fun d => (∃ c : Copy, d.queue (queueOf (s.dev.subOf f n) (s.dev.classOf f)) =
        s.dev.queue (queueOf (s.dev.subOf f n) (s.dev.classOf f)) ++ [c] ∧ c.desc = k ∧ c.port = n ∧ c.cls = s.dev.classOf f ∧ c.held = false) ∧
      (∃ g, d.frame k = some g ∧ g.stage = .queued ∧ g.refs = 1 ∧ g.cls = s.dev.classOf f ∧
        g.colour = (if resColourEn f.ctx.res then resColour f.ctx.res else 0) ∧ g.bytes = f.bytes) ∧
      d.num TMGR.COPY_FREE = s.dev.num TMGR.COPY_FREE - 1 ∧ s.dev.moves d [.sw] [0x48, 0x60] := by
  refine gives_arrival hon ?_
  rw [arrive_replicates hf hs hp hd hw ((Dev.copiesOf_one hd).trans hfree)]
  have h0 : s.dev.moves (s.dev.setFrame k (Dev.metered f)) [.sw] [0x48, 0x60] := s.dev.still.setFrame
  have hcls : (s.dev.setFrame k (Dev.metered f)).classOf (Dev.metered f) = s.dev.classOf f := rfl
  have hsub : (s.dev.setFrame k (Dev.metered f)).subOf (Dev.metered f) n = s.dev.subOf f n := rfl
  have hr := Dev.replicate_queued (d := s.dev.setFrame k (Dev.metered f)) (k := k) (f := Dev.metered f) (n := n) hd
    (by rw [hcls, Dev.takesCopy_setFrame, ht]) (by rw [hsub, Dev.chainPort_setFrame, hc])
  have hm : s.dev.moves ((s.dev.setFrame k (Dev.metered f)).replicate k (Dev.metered f)) [.sw] [0x48, 0x60] := by
    rw [hr]
    exact (h0.setFrame.andThen Dev.moves_enqueue).andThen Dev.moves_updFrame
  rw [hm.under_eq]
  rw [hr, hcls, hsub] at *
  refine ⟨⟨s.dev.takenCopy k n (s.dev.classOf f), ?_, rfl, rfl, rfl, rfl⟩, ⟨_, Dev.frame_updFrame_same (Dev.frame_enqueue.trans Dev.frame_setFrame_same), rfl, rfl, rfl, rfl, rfl⟩, ?_, hm⟩
  · rw [Dev.queue_updFrame, Dev.queue_enqueue, Dev.queue_setFrame, Dev.queue_setFrame]
    rfl
  · rw [(Dev.moves_updFrame).num TMGR.COPY_FREE 0 rfl rfl, Dev.copyFree_enqueue, Dev.num_setFrame, Dev.num_setFrame]

theorem gives_arrivalOrphan (hon : s.Awake) (hf : s.dev.frame k = some f) (hs : f.stage = .ready) (hp : resPolEn f.ctx.res = false)
    (hd : destPorts f.dest = [n]) (hw : s.dev.sw.waitTm = []) (hfree : 1 ≤ s.dev.num TMGR.COPY_FREE)
    (ht : s.dev.takesCopy n (s.dev.classOf f) = true) (hc : s.dev.chainPort (s.dev.subOf f n) ≠ n) :
    Gives (.descriptorArrival k) s fun d => (∃ c : Copy, d.queue (orphanOf n) = s.dev.queue (orphanOf n) ++ [c] ∧ c.desc = k ∧
        c.port = n ∧ c.cls = s.dev.classOf f) ∧ d.num TMGR.MISMAP = (s.dev.num TMGR.MISMAP + 1) % 2 ^ 32 ∧ d.raised TMGR.int_MISMAP = true ∧
      s.dev.moves d [.sw] [0x48, 0x60] := by
  refine gives_arrival hon ?_
  rw [arrive_replicates hf hs hp hd hw ((Dev.copiesOf_one hd).trans hfree)]
  have h0 : s.dev.moves (s.dev.setFrame k (Dev.metered f)) [.sw] [0x48, 0x60] := s.dev.still.setFrame
  have hcls : (s.dev.setFrame k (Dev.metered f)).classOf (Dev.metered f) = s.dev.classOf f := rfl
  have hsub : (s.dev.setFrame k (Dev.metered f)).subOf (Dev.metered f) n = s.dev.subOf f n := rfl
  have hr := Dev.replicate_orphan (d := s.dev.setFrame k (Dev.metered f)) (k := k) (f := Dev.metered f) (n := n) hd
    (by rw [hcls, Dev.takesCopy_setFrame, ht]) (by rw [hsub, Dev.chainPort_setFrame]; exact hc)
  have hm : s.dev.moves ((s.dev.setFrame k (Dev.metered f)).replicate k (Dev.metered f)) [.sw] [0x48, 0x60] := by
    rw [hr]
    exact (h0.setFrame.andThen Dev.moves_orphan).andThen Dev.moves_updFrame
  rw [hm.under_eq]
  rw [hr, hcls] at *
  have hq : ∀ (d : Dev) (c : Copy) (q : Nat), (d.orphan c).queue q = (d.enqueue (orphanOf c.port) c).queue q := fun d c q =>
    congrArg (fun x : Switch => x.queues.get [] q) (Dev.moves_mismap.keeps_sw)
  refine ⟨⟨s.dev.takenCopy k n (s.dev.classOf f), ?_, rfl, rfl, rfl⟩, ?_, ?_, hm⟩
  · rw [Dev.queue_updFrame, hq]
    exact Dev.queue_enqueue
  · rw [(Dev.moves_updFrame).num TMGR.MISMAP 0 rfl rfl, Dev.orphan, Dev.mismap, Dev.num_raise_plain _ _ _ _ rfl, Dev.num_bump_eq]
    have he : (s.dev.setFrame k (Dev.metered f)).moves (((s.dev.setFrame k (Dev.metered f)).setFrame k
        ((s.dev.setFrame k (Dev.metered f)).classed (Dev.metered f) n))) [.sw] [] := Dev.moves_setFrame
    rw [Dev.mismap_enqueue, Dev.num_setFrame, Dev.num_setFrame]
  · rw [Dev.raised_updFrame, Dev.orphan, Dev.mismap]
    exact Dev.raised_raise_eq _ _ rfl

theorem gives_arrivalRefused (hon : s.Awake) (hf : s.dev.frame k = some f) (hs : f.stage = .ready) (hp : resPolEn f.ctx.res = false)
    (hd : destPorts f.dest = [n]) (hw : s.dev.sw.waitTm = []) (ht : s.dev.takesCopy n (s.dev.classOf f) = false) :
    Gives (.descriptorArrival k) s fun d => d.frame k = none ∧ s.dev.moves d [.sw] [0x11, 0x40, 0x41, 0x50, 0x58, 0x70] := by
  refine gives_arrival hon ?_
  rw [arrive_replicates hf hs hp hd hw (by rw [Dev.copiesOf_refused hd ht]; exact Nat.zero_le _)]
  have hr := Dev.replicate_refused (d := s.dev.setFrame k (Dev.metered f)) (k := k) (f := Dev.metered f) (n := n) hd
    (by rw [Dev.takesCopy_setFrame]; exact ht)
  have h0 : s.dev.moves (s.dev.setFrame k (Dev.metered f)) [.sw] [0x11, 0x40, 0x41, 0x50, 0x58, 0x70] := s.dev.still.setFrame
  have hm : s.dev.moves ((s.dev.setFrame k (Dev.metered f)).replicate k (Dev.metered f)) [.sw] [0x11, 0x40, 0x41, 0x50, 0x58, 0x70] := by
    rw [hr]
    exact ((h0.setFrame.andThen Dev.moves_disc).bump).andThen Dev.moves_releaseFrame
  rw [hm.under_eq]
  refine ⟨?_, hm⟩
  rw [hr]
  exact Dev.frame_releaseFrame_same

theorem gives_arrivalWaits (hon : s.Awake) (hf : s.dev.frame k = some f) (hs : f.stage = .ready) (hp : resPolEn f.ctx.res = false)
    (hd : destPorts f.dest ≠ []) (hw : s.dev.sw.waitTm ≠ [] ∨ s.dev.num TMGR.COPY_FREE < s.dev.copiesOf f) :
    Gives (.descriptorArrival k) s fun d => d.sw.waitTm = s.dev.sw.waitTm ++ [(k, s.dev.clk.up)] ∧ d.raised TMGR.int_COPY_WAIT = true ∧
      (∃ g, d.frame k = some g ∧ g.stage = .queued) ∧ d.sw.queues = s.dev.sw.queues ∧ s.dev.moves d [.sw] [0x48] := by
  refine gives_arrival hon ?_
  have hn : ¬ (s.dev.sw.waitTm = [] ∧ s.dev.copiesOf f ≤ s.dev.num TMGR.COPY_FREE) := by
    rintro ⟨h1, h2⟩
    rcases hw with hw | hw
    · exact hw h1
    · omega
  rw [Dev.arrive_metered hf hs hp, if_neg hd, if_neg hn]
  have h0 : s.dev.moves (s.dev.setFrame k (Dev.metered f)) [.sw] [0x48] := s.dev.still.setFrame
  have hm : s.dev.moves ((s.dev.setFrame k (Dev.metered f)).crossingWait k (Dev.metered f)) [.sw] [0x48] := h0.setFrame.set_sw.raise
  rw [hm.under_eq]
  refine ⟨?_, Dev.raised_raise_eq _ _ rfl, ⟨_, Dev.frame_crossingWait, rfl⟩, ?_, hm⟩
  · rw [Dev.crossingWait, Dev.raise_sw]
    rfl
  · rw [Dev.crossingWait, Dev.raise_sw]
    rfl

theorem gives_arrivalRed (hon : s.Awake) (hf : s.dev.frame k = some f) (hs : f.stage = .ready) (hp : resPolEn f.ctx.res = true)
    (hpol : pol = resPolicer f.ctx.res) (he : s.dev.enabled 0x4A = true) (hty : s.dev.fld POLC.MODE_TYPE pol ≠ 0)
    (hrd : s.dev.on POLC.MODE_RED_DROP pol = true)
    (hc : (s.dev.police pol (if resColourEn f.ctx.res then resColour f.ctx.res else 0) f.len).2 = 2) :
    Gives (.descriptorArrival k) s fun d => d.frame k = none ∧ s.dev.moves d [.sw] [0x11, 0x40, 0x41, 0x4A, 0x50, 0x58, 0x60, 0x70] := by
  refine gives_arrival hon ?_
  rw [Dev.arrive_red hf hs hp hpol he hty hrd hc]
  have h0 : s.dev.moves (s.dev.redMarked k f) [.sw] [0x11, 0x40, 0x41, 0x4A, 0x50, 0x58, 0x60, 0x70] := Dev.moves_redMarked.mono rfl rfl
  have hm : s.dev.moves ((((s.dev.redMarked k f).bump POLC.RED_DISC pol).raise POLC.int_RED_DISC).discardFrame k 10) [.sw]
      [0x11, 0x40, 0x41, 0x4A, 0x50, 0x58, 0x60, 0x70] := h0.bump.raise.andThen Dev.moves_discardFrame
  rw [hm.under_eq]
  exact ⟨Dev.frame_discardFrame_same, hm⟩

theorem idle_arrival (h : ∀ f, s.dev.frame k = some f → f.stage ≠ .ready) : Idle (.descriptorArrival k) s := by
  refine idle_runSelf (f := fun d => d.arrive k) rfl ?_
  unfold Dev.arrive
  cases hf : s.dev.frame k with
  | none => rfl
  | some f => exact if_pos (h f hf)

end Sys2Proof.Machine
end

section
set_option Elab.async false
/-! What a selection stages (R346, R357, R359 to R362, R372). -/

namespace Sys2Proof.Machine.Dev
open Sys2Proof
variable {d e : Dev} {k n q len parent prio : Nat} {c : Copy} {r : List Copy} {l : List Cand} {x : Cand} {p : Pick}

/-! ### What a choice leaves of the switch core -/

/-- Frames, queues, what is staged and what waits are as they were. -/
def waysLike (d e : Dev) : Prop :=
  e.sw.frames = d.sw.frames ∧ e.sw.queues = d.sw.queues ∧ e.sw.staged = d.sw.staged ∧ e.sw.waitTm = d.sw.waitTm

namespace waysLike

theorem refl (d : Dev) : d.waysLike d := ⟨rfl, rfl, rfl, rfl⟩
theorem trans {f : Dev} (h : d.waysLike e) (g : e.waysLike f) : d.waysLike f := by
  obtain ⟨h1, h2, h3, h4⟩ := h
  obtain ⟨g1, g2, g3, g4⟩ := g
  exact ⟨g1.trans h1, g2.trans h2, g3.trans h3, g4.trans h4⟩
theorem of_sw (h : e.sw = d.sw) : d.waysLike e := by
  unfold waysLike
  rw [h]
  exact ⟨rfl, rfl, rfl, rfl⟩
theorem of_moves {P : List Part} {G : List Nat} (h : d.moves e P G) (hp : P.contains .sw = false := by rfl) : d.waysLike e := .of_sw (h.keeps_sw hp)
theorem foldl {α : Type} {g : Dev → α → Dev} {l : List α} (h : d.waysLike e) (hg : ∀ (x : Dev) (b : α), x.waysLike (g x b)) :
    d.waysLike (l.foldl g e) := by
  induction l generalizing e with
  | nil => exact h
  | cons b l ih => exact ih (h.trans (hg e b))

theorem frame (h : d.waysLike e) : e.frame k = d.frame k := by rw [Dev.frame, h.1, Dev.frame]
theorem queue (h : d.waysLike e) : e.queue q = d.queue q := by rw [Dev.queue, h.2.1, Dev.queue]
theorem stagedOf (h : d.waysLike e) : e.stagedOf n = d.stagedOf n := by rw [Dev.stagedOf, h.2.2.1, Dev.stagedOf]
theorem waitTm (h : d.waysLike e) : e.sw.waitTm = d.sw.waitTm := h.2.2.2
theorem lenOf (h : d.waysLike e) : e.lenOf k = d.lenOf k := by rw [Dev.lenOf, h.frame, Dev.lenOf]
theorem stagedBytes (h : d.waysLike e) : e.stagedBytes n = d.stagedBytes n := by
  have hl : (fun t : Tx => e.lenOf t.copy.desc) = fun t => d.lenOf t.copy.desc := funext fun t => h.lenOf
  rw [Dev.stagedBytes, h.stagedOf, hl, Dev.stagedBytes]

end waysLike

/-- What a choice moves: the deficits and the turns. -/
def chosenLike (d e : Dev) : Prop := d.waysLike e ∧ d.moves e [.sw] []

namespace chosenLike
theorem refl (d : Dev) : d.chosenLike d := ⟨.refl d, d.still⟩
theorem trans {f : Dev} (h : d.chosenLike e) (g : e.chosenLike f) : d.chosenLike f := ⟨h.1.trans g.1, h.2.andThen g.2⟩
end chosenLike

theorem chosenLike_setDeficit {v : Int} : d.chosenLike (d.setDeficit k v) := ⟨⟨rfl, rfl, rfl, rfl⟩, d.still.set_sw⟩
theorem chosenLike_setTurn : d.chosenLike (d.setTurn parent prio k) := ⟨⟨rfl, rfl, rfl, rfl⟩, d.still.set_sw⟩
theorem chosenLike_pruneDeficits : d.chosenLike (d.pruneDeficits n) := ⟨⟨rfl, rfl, rfl, rfl⟩, d.still.set_sw⟩

theorem chosenLike_robin {fuel : Nat} : d.chosenLike (Dev.robin fuel d parent l).1 := by
  induction fuel generalizing d with
  | zero => exact .refl d
  | succ fuel ih =>
    unfold Dev.robin
    split
    · exact .refl d
    · exact .refl d
    next m c0 rest hn =>
      obtain rfl := Nat.succ.inj hn
      extract_lets turn
      split
      · split
        · exact .refl d
        · exact (chosenLike_setDeficit.trans chosenLike_setTurn).trans ih
      · exact chosenLike_setTurn.trans ih
      · exact .refl d

theorem chosenLike_choose : d.chosenLike (d.choose parent l).1 := chosenLike_robin

theorem chosenLike_descend : d.chosenLike (d.descend n).1 := by
  unfold descend
  extract_lets ports
  have h1 : d.chosenLike (d.choose (portNode n) ports).1 := chosenLike_choose
  generalize d.choose (portNode n) ports = x1 at h1 ⊢
  rcases x1 with ⟨e1, _ | c1⟩
  · exact h1
  · dsimp -zeta only at h1 ⊢
    split
    · exact h1
    · extract_lets svc subs
      have h2 : d.chosenLike (e1.choose (svcNode svc) subs).1 := h1.trans chosenLike_choose
      generalize e1.choose (svcNode svc) subs = x2 at h2 ⊢
      rcases x2 with ⟨e2, _ | c2⟩
      · exact h2
      · dsimp -zeta only at h2 ⊢
        extract_lets sub qs
        have h3 : d.chosenLike (e2.choose sub qs).1 := h2.trans chosenLike_choose
        generalize e2.choose sub qs = x3 at h3 ⊢
        rcases x3 with ⟨e3, _ | c3⟩
        · exact h3
        · exact h3

/-! ### What a copy costs -/

theorem chosenLike_spend : d.chosenLike (d.spend parent l x len) := by
  unfold spend
  dsimp only
  split
  · exact chosenLike_setDeficit
  · exact chosenLike_setDeficit.trans chosenLike_setTurn

theorem waysLike_chargeNode {comm : Bool} : d.waysLike (d.chargeNode k len comm) :=
  waysLike.trans (e := { d with sw := (d.chargeNode k len comm).sw }) (by
    unfold chargeNode
    rw [bump_sw]
    exact ⟨rfl, rfl, rfl, rfl⟩) (.of_sw rfl)

theorem moves_chargeNode {comm : Bool} : d.moves (d.chargeNode k len comm) [.sw] [0x49] := by
  unfold chargeNode
  exact d.still.set_sw.set_sw.bump

/-- A pick paid for: the children's deficits and buckets, and the port's bucket while the shapers' page is enabled. -/
def pickPaid (d : Dev) (n len : Nat) (on : Bool) (p : Pick) : Dev :=
  let e := p.path.foldl (fun e (parent, l, ch) => e.spend parent l ch len) d
  let e := p.path.foldl (fun e (_, _, ch) => if ch.key < 524288 then e else e.chargeNode (ch.key - 524288) len ch.comm) e
  if on then e.chargeNode (portNode n) len false else e

theorem waysLike_pickPaid {on : Bool} : d.waysLike (d.pickPaid n len on p) := by
  unfold pickPaid
  dsimp only
  have h : ∀ e : Dev, d.waysLike e → d.waysLike (p.path.foldl (fun e (_, _, ch) => if ch.key < 524288 then e else e.chargeNode (ch.key - 524288) len ch.comm) e) :=
    fun e he => he.foldl fun x b => by
      dsimp only
      split
      · exact .refl x
      · exact waysLike_chargeNode
  have h0 : d.waysLike (p.path.foldl (fun e (parent, l, ch) => e.spend parent l ch len) d) := (waysLike.refl d).foldl fun x b => chosenLike_spend.1
  split
  · exact (h _ h0).trans waysLike_chargeNode
  · exact h _ h0

theorem moves_pickPaid {on : Bool} : d.moves (d.pickPaid n len on p) [.sw] [0x49] := by
  unfold pickPaid
  dsimp only
  have h := (Dev.moves.foldl (l := p.path) (g := fun e (b : Nat × List Cand × Cand) => e.spend b.1 b.2.1 b.2.2 len) (d.still (P := [.sw]) (G := [0x49]))
    fun h => h.andThen chosenLike_spend.2)
  have h2 := h.foldl (l := p.path) (g := fun e (b : Nat × List Cand × Cand) => if b.2.2.key < 524288 then e else e.chargeNode (b.2.2.key - 524288) len b.2.2.comm)
    fun h => h.ite (h.andThen moves_chargeNode)
  exact (h2.andThen moves_chargeNode).ite h2

/-! ### A copy staged -/

theorem moves_blocksRead : d.moves (d.blocksRead k) [.draws, .mem] [0x50] := by
  unfold blocksRead
  split
  · exact d.still.foldl fun h => (h.andThen moves_blockAccess).ite h
  · exact d.still

/-- A copy on its way to its port's staging area. -/
def copyFetched (d : Dev) (n q : Nat) (c : Copy) : Dev :=
  ((d.perf 22 0x180).crossed 22 10 (d.tagOf c.desc) c.desc (n + q * 64)).blocksRead c.desc

/-- A copy out of its queue and staged. -/
def copyStaged (d : Dev) (n q : Nat) (c : Copy) (r : List Copy) : Dev :=
  let d := (d.setQueue q r).setNum TMGR.COPY_FREE (d.num TMGR.COPY_FREE + 1)
  d.setStaged n (d.stagedOf n ++ [{ copy := c, queue := q }])

theorem stageCopy_eq (h : d.queue q = c :: r) : d.stageCopy n q = ((d.copyFetched n q c).copyStaged n q c r).drainAll := by
  unfold stageCopy
  rw [h]
  rfl

theorem drainAll_none (h : d.sw.waitTm = []) : d.drainAll = d := if_pos h

theorem moves_copyFetched : d.moves (d.copyFetched n q c) [.draws, .mem] [0x50] :=
  ((d.still (P := [.draws, .mem]) (G := [0x50])).perf.andThen (moves_perfPage moves_crossed)).andThen moves_blocksRead

theorem moves_copyStaged : d.moves (d.copyStaged n q c r) [.sw] [0x48] := by
  unfold copyStaged
  exact d.still.setQueue.setNum.set_sw

theorem sw_copyStaged : (d.copyStaged n q c r).sw = { d.sw with
    queues := d.sw.queues.set [] q r
    staged := d.sw.staged.set [] n (d.stagedOf n ++ [{ copy := c, queue := q }]) } := by
  have h : ((d.setQueue q r).setNum TMGR.COPY_FREE (d.num TMGR.COPY_FREE + 1)).sw = (d.setQueue q r).sw := setNum_sw _ _ _ _
  unfold copyStaged
  dsimp only
  unfold setStaged stagedOf
  rw [h]
  rfl

theorem copyFree_copyStaged : (d.copyStaged n q c r).num TMGR.COPY_FREE = (d.num TMGR.COPY_FREE + 1) % 2 ^ 32 :=
  num_setNum_same (d.setQueue q r) _ _ _

/-- What staging a copy gives, where no frame waits for entries. -/
theorem stageCopy_leaves (h : d.queue q = c :: r) (hw : d.sw.waitTm = []) :
    (d.stageCopy n q).queue q = r ∧ (d.stageCopy n q).stagedOf n = d.stagedOf n ++ [{ copy := c, queue := q }] ∧
      (d.stageCopy n q).num TMGR.COPY_FREE = (d.num TMGR.COPY_FREE + 1) % 2 ^ 32 ∧
      d.moves (d.stageCopy n q) [.draws, .sw, .mem] [0x48, 0x50] := by
  have hf : (d.copyFetched n q c).sw = d.sw := moves_copyFetched.keeps_sw
  have hws : ((d.copyFetched n q c).copyStaged n q c r).sw.waitTm = [] := by
    rw [sw_copyStaged, hf]
    exact hw
  rw [stageCopy_eq h, drainAll_none hws]
  refine ⟨?_, ?_, ?_, ?_⟩
  · rw [queue, sw_copyStaged]
    exact SMap.get_set_same (d.copyFetched n q c).sw.queues [] q r
  · have hst : (d.copyFetched n q c).stagedOf n = d.stagedOf n := by rw [stagedOf, hf, stagedOf]
    rw [stagedOf, sw_copyStaged, hst]
    exact SMap.get_set_same (d.copyFetched n q c).sw.staged [] n _
  · rw [copyFree_copyStaged, moves_copyFetched.num TMGR.COPY_FREE 0 rfl rfl]
  · have h0 : d.moves (d.copyFetched n q c) [.draws, .sw, .mem] [0x48, 0x50] := moves_copyFetched.mono rfl rfl
    exact h0.andThen moves_copyStaged

/-! ### A selection -/

/-- The pick of a selection. -/
def pickOf (d : Dev) (n : Nat) : Dev × Option Pick :=
  if d.enabled 0x48 then (if d.peakOk (portNode n) then (d.pruneDeficits n).descend n else (d.pruneDeficits n, none))
  else (d.pruneDeficits n, (d.oldest n).map fun q => { queue := q, path := [] })

theorem selectLoop_picks {m : Nat} (hp : d.pickOf n = (e, some p)) (hq : e.queue p.queue = c :: r) (hc : c.port = n)
    (hb : e.stagedBytes n + e.lenOf c.desc ≤ 12288 ∨ e.stagedOf n = []) :
    Dev.selectLoop (m + 1) d n =
      ((e.pickPaid n (e.shapeLen n (e.lenOf c.desc)) (d.enabled 0x48) p).stageCopy n p.queue).pruneDeficits n := by
  have hx : Dev.selectLoop (m + 1) d n =
      (match d.pickOf n with
      | (e, none) => e
      | (e, some p) =>
        match e.queue p.queue with
        | [] => e
        | c :: r =>
          if c.port ≠ n then Dev.selectLoop m ((d.setQueue p.queue r).misplaced c) n
          else if 12288 < e.stagedBytes n + e.lenOf c.desc ∧ e.stagedOf n ≠ [] then d
          else ((e.pickPaid n (e.shapeLen n (e.lenOf c.desc)) (d.enabled 0x48) p).stageCopy n p.queue).pruneDeficits n) := by
    rw [Dev.selectLoop]
    dsimp only
    have hpick : (if d.enabled 0x48 = true then if d.peakOk (portNode n) = true then (d.pruneDeficits n).descend n else (d.pruneDeficits n, none)
        else (d.pruneDeficits n, Option.map (fun q => ({ queue := q, path := [] } : Pick)) (d.oldest n))) = d.pickOf n := rfl
    rw [hpick]
    rcases d.pickOf n with ⟨e, _ | p⟩ <;> rfl
  have hn : ¬ (12288 < e.stagedBytes n + e.lenOf c.desc ∧ e.stagedOf n ≠ []) := by
    rintro ⟨h1, h2⟩
    rcases hb with hb | hb
    · omega
    · exact h2 hb
  rw [hx, hp]
  dsimp only
  rw [hq]
  dsimp only
  rw [if_neg (not_not_intro hc), if_neg hn]

/-- What a selection stages. -/
theorem selectLoop_leaves {m : Nat} {G : List Nat} (hG : [0x48, 0x50].all G.contains = true)
    (hpm : ∀ len, d.moves (e.pickPaid n len (d.enabled 0x48) p) [.draws, .sw, .mem] G) (hp : d.pickOf n = (e, some p)) (hl : d.chosenLike e) (hq : d.queue p.queue = c :: r) (hc : c.port = n)
    (hb : d.stagedBytes n + d.lenOf c.desc ≤ 12288 ∨ d.stagedOf n = []) (hw : d.sw.waitTm = []) :
    (Dev.selectLoop (m + 1) d n).queue p.queue = r ∧
      (Dev.selectLoop (m + 1) d n).stagedOf n = d.stagedOf n ++ [{ copy := c, queue := p.queue }] ∧
      (Dev.selectLoop (m + 1) d n).num TMGR.COPY_FREE = (d.num TMGR.COPY_FREE + 1) % 2 ^ 32 ∧
      d.moves (Dev.selectLoop (m + 1) d n) [.draws, .sw, .mem] G := by
  rw [selectLoop_picks hp (by rw [hl.1.queue, hq]) hc (by rw [hl.1.stagedBytes, hl.1.lenOf, hl.1.stagedOf]; exact hb)]
  generalize e.shapeLen n (e.lenOf c.desc) = len
  have hpaid : d.waysLike (e.pickPaid n len (d.enabled 0x48) p) := hl.1.trans waysLike_pickPaid
  obtain ⟨h1, h2, h3, h4⟩ := stageCopy_leaves (n := n) (by rw [hpaid.queue, hq] : (e.pickPaid n len (d.enabled 0x48) p).queue p.queue = c :: r)
    (by rw [hpaid.waitTm, hw])
  have hpr := chosenLike_pruneDeficits (d := (e.pickPaid n len (d.enabled 0x48) p).stageCopy n p.queue) (n := n)
  have hm : d.moves (e.pickPaid n len (d.enabled 0x48) p) [.sw] [0x49] := (hl.2.mono rfl rfl : d.moves e [.sw] [0x49]).andThen moves_pickPaid
  refine ⟨by rw [hpr.1.queue, h1], by rw [hpr.1.stagedOf, h2, hpaid.stagedOf], ?_, ?_⟩
  · rw [hpr.2.num TMGR.COPY_FREE 0 rfl rfl, h3, hm.num TMGR.COPY_FREE 0 rfl rfl]
  · exact ((hpm len).andThen h4 rfl hG).andThen hpr.2

end Sys2Proof.Machine.Dev

namespace Sys2Proof.Machine
open Sys2Proof
variable {s : State} {n q : Nat} {c : Copy} {r : List Copy} {e : Dev} {p : Pick}

theorem gives_selected {G : List Nat} (hG : [0x48, 0x50].all G.contains = true)
    (hpm : ∀ len, s.dev.moves (e.pickPaid n len (s.dev.enabled 0x48) p) [.draws, .sw, .mem] G) (hon : s.Awake) (hn : n < 34) (hup : s.dev.portUp n = true) (hp : s.dev.pickOf n = (e, some p)) (hl : s.dev.chosenLike e)
    (hw : s.dev.sw.waitTm = []) (hq : s.dev.queue p.queue = c :: r) (hc : c.port = n)
    (hb : s.dev.stagedBytes n + s.dev.lenOf c.desc ≤ 12288 ∨ s.dev.stagedOf n = []) :
    Gives (.selection n) s fun d => d.queue p.queue = r ∧ d.stagedOf n = s.dev.stagedOf n ++ [{ copy := c, queue := p.queue }] ∧
      d.num TMGR.COPY_FREE = (s.dev.num TMGR.COPY_FREE + 1) % 2 ^ 32 ∧ s.dev.moves d [.draws, .sw, .mem] G := by
  refine gives_runWhen (b := fun d => decide (n < 34) && d.portUp n) (f := fun d => Dev.selectLoop (d.sw.copySeq + 1) d n) rfl hon ?_ ?_
  · rw [decide_eq_true hn, hup]
    rfl
  · have h := Dev.selectLoop_leaves (m := s.dev.sw.copySeq) hG hpm hp hl hq hc hb hw
    rw [h.2.2.2.under_eq]
    exact h

theorem pickOf_oldest (hoff : s.dev.enabled 0x48 = false) (ho : s.dev.oldest n = some q) :
    s.dev.pickOf n = (s.dev.pruneDeficits n, some { queue := q, path := [] }) := by
  rw [Dev.pickOf, hoff, if_neg (by decide), ho]
  rfl

theorem gives_selectionOldest (hon : s.Awake) (hn : n < 34) (hup : s.dev.portUp n = true) (hoff : s.dev.enabled 0x48 = false)
    (hw : s.dev.sw.waitTm = []) (ho : s.dev.oldest n = some q) (hq : s.dev.queue q = c :: r) (hc : c.port = n)
    (hb : s.dev.stagedBytes n + s.dev.lenOf c.desc ≤ 12288 ∨ s.dev.stagedOf n = []) :
    Gives (.selection n) s fun d => d.queue q = r ∧ d.stagedOf n = s.dev.stagedOf n ++ [{ copy := c, queue := q }] ∧
      d.num TMGR.COPY_FREE = (s.dev.num TMGR.COPY_FREE + 1) % 2 ^ 32 ∧ s.dev.moves d [.draws, .sw, .mem] [0x48, 0x50, 0x60] := by
  have hpm : ∀ len, s.dev.moves ((s.dev.pruneDeficits n).pickPaid n len (s.dev.enabled 0x48) { queue := q, path := [] }) [.draws, .sw, .mem]
      [0x48, 0x50, 0x60] := by
    intro len
    rw [hoff]
    exact Dev.chosenLike_pruneDeficits.2.mono rfl rfl
  exact gives_selected rfl hpm hon hn hup (pickOf_oldest hoff ho) Dev.chosenLike_pruneDeficits hw hq hc hb

theorem gives_selectionPick (hon : s.Awake) (hn : n < 34) (hup : s.dev.portUp n = true) (hen : s.dev.enabled 0x48 = true)
    (hpk : s.dev.peakOk (portNode n) = true) (hw : s.dev.sw.waitTm = []) (hd : (s.dev.pruneDeficits n).descend n = (e, some p))
    (hq : s.dev.queue p.queue = c :: r) (hc : c.port = n) (hb : s.dev.stagedBytes n + s.dev.lenOf c.desc ≤ 12288 ∨ s.dev.stagedOf n = []) :
    Gives (.selection n) s fun d => d.queue p.queue = r ∧ d.stagedOf n = s.dev.stagedOf n ++ [{ copy := c, queue := p.queue }] ∧
      s.dev.moves d [.draws, .sw, .mem] [0x48, 0x49, 0x50, 0x60] := by
  have hp : s.dev.pickOf n = (e, some p) := by rw [Dev.pickOf, if_pos hen, if_pos hpk, hd]
  have hl : s.dev.chosenLike e := by
    have h := Dev.chosenLike_pruneDeficits (d := s.dev) (n := n) |>.trans (Dev.chosenLike_descend (n := n))
    rw [hd] at h
    exact h
  have hpm : ∀ len, s.dev.moves (e.pickPaid n len (s.dev.enabled 0x48) p) [.draws, .sw, .mem] [0x48, 0x49, 0x50, 0x60] := fun len =>
    (hl.2.mono rfl rfl : s.dev.moves e [.draws, .sw, .mem] [0x48, 0x49, 0x50, 0x60]).andThen Dev.moves_pickPaid
  refine (gives_selected rfl hpm hon hn hup hp hl hw hq hc hb).mono ?_
  rintro d ⟨h1, h2, -, h4⟩
  exact ⟨h1, h2, h4⟩

theorem idle_selection (h : 34 ≤ n ∨ s.dev.portUp n = false) : Idle (.selection n) s := by
  refine idle_runWhen (b := fun d => decide (n < 34) && d.portUp n) (f := fun d => Dev.selectLoop (d.sw.copySeq + 1) d n) rfl ?_
  rcases h with h | h
  · rw [decide_eq_false (Nat.not_lt.mpr h), Bool.false_and]
  · rw [h, Bool.and_false]

end Sys2Proof.Machine
end

section
set_option Elab.async false
/-! What a refill adds and what the sampler leaves (R362, R363, R370, R371). -/

namespace Sys2Proof.Machine.Dev
open Sys2Proof
variable {d e : Dev} {k j n q : Nat} {b : Bucket}

/-! ### Refills -/

theorem bucket_setBucket_same : (d.setBucket k b).bucket k = b := by
  have h : (d.setBucket k b).sw.buckets.get none k = some b := SMap.get_set_same d.sw.buckets none k (some b)
  unfold bucket
  rw [h]

theorem moves_setBucket : d.moves (d.setBucket k b) [.sw] [] := d.still.set_sw
theorem keeps_setBucket : d.keeps (d.setBucket k b) [.sw] := (keeps.refl d).set_sw

theorem bucket_congr (hs : e.sw.buckets.get none k = d.sw.buckets.get none k) (hn : ∀ r : Reg, r.plain = true → r.page = 0x49 → e.num r k = d.num r k) :
    e.bucket k = d.bucket k := by
  unfold bucket
  rw [hs, hn SHAP.CBS rfl rfl, hn SHAP.PBS rfl rfl, hn SHAP.CIR rfl rfl, hn SHAP.PIR rfl rfl]

theorem bucket_setBucket_ne (h : j ≠ k) : (d.setBucket k b).bucket j = d.bucket j :=
  bucket_congr (SMap.get_set_ne d.sw.buckets none none (some b) h) fun _ _ _ => rfl

/-- A refill's outcome for one bucket: clipped to its size, filled, and clipped again. -/
def filled (x : Int) (size inc : Nat) : Int := min ((size * 65536 : Nat) : Int) (min ((size * 65536 : Nat) : Int) x + (inc : Int))

/-- What a refill leaves of a node. -/
def bucketFilled (d : Dev) (k : Nat) (b : Bucket) : Bucket :=
  { cir := d.num SHAP.CIR k, cbs := d.num SHAP.CBS k, pir := d.num SHAP.PIR k, pbs := d.num SHAP.PBS k,
    c := filled b.c (d.num SHAP.CBS k) (refillOf k (d.num SHAP.CIR k)), p := filled b.p (d.num SHAP.PBS k) (refillOf k (d.num SHAP.PIR k)),
    at_ := some (periodAt b.at_ (refillEvery k) d.clk.up) }

theorem refill_eq : d.refill k = d.setBucket k (d.bucketFilled k (d.bucket k)) := rfl

/-- A full bucket stays full. -/
theorem filled_full {size inc : Nat} : filled ((size * 65536 : Nat) : Int) size inc = ((size * 65536 : Nat) : Int) := by
  unfold filled
  rw [min_self]
  exact min_eq_left (Int.le_add_of_nonneg_right (Int.natCast_nonneg inc))

/-- The bucket of a node at its size. -/
def bucketFull (d : Dev) (k : Nat) : Bucket := { d.bucket k with c := (d.num SHAP.CBS k * 65536 : Nat), p := (d.num SHAP.PBS k * 65536 : Nat) }

/-- A node whose bucket is at its size. -/
def bucketSized (d : Dev) (k : Nat) : Dev := d.setBucket k (d.bucketFull k)

theorem num_setBucket {r : Reg} : (d.setBucket k b).num r j = d.num r j := rfl
theorem num_bucketSized {r : Reg} : (d.bucketSized k).num r j = d.num r j := num_setBucket
theorem bucket_bucketSized : (d.bucketSized k).bucket k = d.bucketFull k := bucket_setBucket_same
theorem bucketSized_ne (h : j ≠ k) : (d.bucketSized k).bucket j = d.bucket j := bucket_setBucket_ne h
theorem moves_bucketSized : d.moves (d.bucketSized k) [.sw] [] := moves_setBucket

/-- A full bucket, refilled, is full. -/
theorem refill_bucketSized : (((d.bucketSized k).refill k).bucket k).c = ((d.num SHAP.CBS k * 65536 : Nat) : Int) ∧
    (((d.bucketSized k).refill k).bucket k).p = ((d.num SHAP.PBS k * 65536 : Nat) : Int) := by
  rw [refill_eq, bucket_setBucket_same, bucket_bucketSized, bucketFilled, num_bucketSized, num_bucketSized, num_bucketSized, num_bucketSized]
  exact ⟨filled_full, filled_full⟩

theorem refillRead_clean : d.refillRead k .clean = d.refill k := by
  unfold refillRead
  dsimp only
  rw [if_neg (by decide), guarded]

theorem refillRead_bad : d.refillRead k .bad = ((d.guarded 22 10 k .bad).bucketSized k).refill k := by
  unfold refillRead
  dsimp only
  rw [if_pos rfl, bucketSized, bucketFull]

/-! ### Samples -/

/-- What the sampler leaves of a queue it visits, before its reports. -/
def sampled (d : Dev) (q : Nat) (x : Sample) : Dev :=
  { d with sw := { d.sw with
    sampler := (q + 1) % 262144
    sampledAt := some (periodAt d.sw.sampledAt 32 d.clk.up)
    samples := d.sw.samples.set none q (some x) } }

/-- Whether a queue's head has waited too long, and whether the queue is too deep. -/
def sampleLate (d : Dev) (q : Nat) : Bool :=
  (d.sampleOf q).1 && d.num (TMGR.DLY_TH.ix (q % 8)) * 1000 ≠ 0 && decide (d.num (TMGR.DLY_TH.ix (q % 8)) * 1000 ≤ (d.sampleOf q).2.2.1)
def sampleDeep (d : Dev) (q : Nat) : Bool :=
  d.num (TMGR.DEPTH_TH.ix (q % 8)) * 1024 ≠ 0 && decide (d.num (TMGR.DEPTH_TH.ix (q % 8)) * 1024 ≤ (d.sampleOf q).2.1)
def sampleWas (d : Dev) (q : Nat) : Bool := match d.sw.samples.get none q with | some x => x.alert | none => false

/-- The report of a queue that crosses an alert condition. -/
def alerted (d : Dev) (q : Nat) (late deep was : Bool) (depth delay : Nat) : Dev :=
  if (late || deep) && !was then
    ((d.bump TMGR.ALERTS).raise TMGR.int_QUEUE_ALERT).log 22 0x4801 q (bit late + 2 * bit deep) depth delay
  else if !(late || deep) && was then d.log 22 0x4802 q
  else d

theorem sampleQueue_clean (hon : d.on TMGR.SAMPLE_CFG_EN = true) (hdue : periodDue d.sw.sampledAt 32 d.clk.up = true)
    (hq : q = d.sw.sampler % 262144) :
    d.sampleQueue .clean = (d.sampled q { bits := (d.sampleOf q).2.2.2, alert := d.sampleLate q || d.sampleDeep q }).alerted q (d.sampleLate q)
      (d.sampleDeep q) (d.sampleWas q) (d.sampleOf q).2.1 (d.sampleOf q).2.2.1 := by
  subst hq
  unfold sampleQueue
  rw [hon, hdue]
  rfl

theorem sampleQueue_none {ue : Guard} (h : d.on TMGR.SAMPLE_CFG_EN = false ∨ periodDue d.sw.sampledAt 32 d.clk.up = false) : d.sampleQueue ue = d := by
  unfold sampleQueue
  refine if_pos ?_
  rcases h with h | h
  · rw [h]
    rfl
  · rw [h, Bool.not_false, Bool.or_true]

theorem alerted_cases {late deep was : Bool} {depth delay : Nat} {P : Dev → Prop} (h1 : P (((d.bump TMGR.ALERTS).raise TMGR.int_QUEUE_ALERT).log 22 0x4801 q
    (bit late + 2 * bit deep) depth delay)) (h2 : P (d.log 22 0x4802 q)) (h3 : P d) : P (d.alerted q late deep was depth delay) := by
  unfold alerted
  split
  · exact h1
  · split
    · exact h2
    · exact h3

theorem sw_alerted {late deep was : Bool} {depth delay : Nat} : (d.alerted q late deep was depth delay).sw = d.sw :=
  alerted_cases (P := fun e => e.sw = d.sw) ((log_sw _ _ _ _ _ _ _).trans ((raise_sw _ _).trans (bump_sw _ _ _ _))) (log_sw _ _ _ _ _ _ _) rfl

theorem moves_alerted {late deep was : Bool} {depth delay : Nat} : d.moves (d.alerted q late deep was depth delay) [.sw] [0x48] :=
  alerted_cases (P := fun e => d.moves e [.sw] [0x48]) d.still.bump.raise.log d.still.log d.still

theorem moves_sampled {x : Sample} : d.moves (d.sampled q x) [.sw] [0x48] := d.still.set_sw

theorem alerted_raised {late deep was : Bool} {depth delay : Nat} (hl : (late || deep) = true) (hw : was = false) :
    (d.alerted q late deep was depth delay).raised TMGR.int_QUEUE_ALERT = true ∧
      (d.alerted q late deep was depth delay).num TMGR.ALERTS = (d.num TMGR.ALERTS + 1) % 2 ^ 32 := by
  unfold alerted
  rw [hl, hw, if_pos (show (true && !false) = true by decide), raised_log_plain _ _ _ _ _ _ _ _ rfl, num_log_plain _ _ _ _ _ _ _ _ _ rfl, num_raise_plain _ _ _ _ rfl, num_bump_eq]
  exact ⟨raised_raise_eq _ _ rfl, rfl⟩

theorem alerted_same {late deep was : Bool} {depth delay : Nat} (h : (late || deep) = was) : d.alerted q late deep was depth delay = d := by
  unfold alerted
  rw [h]
  cases was <;> rfl

end Sys2Proof.Machine.Dev

namespace Sys2Proof.Machine
open Sys2Proof
variable {s : State} {k q t : Nat} {b : Bucket} {ue : Guard} {late deep was : Bool}

theorem gives_refillDue {p : Dev → Prop} (hon : s.Awake) (hk : k < 36898) (hdue : s.dev.refillDue k = true)
    (h : p (s.dev.under (s.dev.refillRead k ue))) : Gives (.shaperRefill k ue) s p := by
  refine gives_runWhen (b := fun d => decide (k < 36898) && d.refillDue k) (f := fun d => d.refillRead k ue) rfl hon ?_ h
  rw [decide_eq_true hk, hdue]
  rfl

theorem gives_refillClean (hon : s.Awake) (hk : k < 36898) (hb : b = s.dev.bucket k) (hdue : s.dev.refillDue k = true) :
    Gives (.shaperRefill k .clean) s fun d => d.bucket k = s.dev.bucketFilled k b ∧ (∀ j, j ≠ k → d.bucket j = s.dev.bucket j) ∧
      s.dev.keeps d [.sw] := by
  refine gives_refillDue hon hk hdue ?_
  rw [Dev.refillRead_clean, Dev.refill_eq, Dev.moves_setBucket.under_eq, hb]
  refine ⟨?_, fun j hj => Dev.bucket_setBucket_ne hj, Dev.keeps_setBucket⟩
  rw [Dev.bucket_setBucket_same]

theorem gives_refillBad (hon : s.Awake) (hk : k < 36898) (hdue : s.dev.refillDue k = true) :
    Gives (.shaperRefill k .bad) s fun d => (d.bucket k).c = ((s.dev.num SHAP.CBS k * 65536 : Nat) : Int) ∧
      (d.bucket k).p = ((s.dev.num SHAP.PBS k * 65536 : Nat) : Int) ∧ (∀ j, j ≠ k → d.bucket j = s.dev.bucket j) := by
  refine gives_refillDue hon hk hdue ?_
  have hg : s.dev.moves (s.dev.guarded 22 10 k .bad) [] [0x03] := Dev.moves_guarded
  have hn : ∀ (r : Reg) (j : Nat), r.plain = true → r.page = 0x49 → (s.dev.guarded 22 10 k .bad).num r j = s.dev.num r j := fun r j hr hp =>
    hg.num r j hr (by rw [hp]; rfl)
  have hm : s.dev.moves (((s.dev.guarded 22 10 k .bad).bucketSized k).refill k) [.sw] [0x03] := by
    have h0 : s.dev.moves (s.dev.guarded 22 10 k .bad) [.sw] [0x03] := hg.mono rfl rfl
    rw [Dev.refill_eq]
    exact (h0.andThen Dev.moves_bucketSized).andThen Dev.moves_setBucket
  rw [Dev.refillRead_bad, hm.under_eq]
  obtain ⟨hc, hp⟩ := Dev.refill_bucketSized (d := s.dev.guarded 22 10 k .bad) (k := k)
  rw [hn _ _ rfl rfl] at hc hp
  refine ⟨hc, hp, fun j hj => ?_⟩
  rw [Dev.refill_eq, Dev.bucket_setBucket_ne hj, Dev.bucketSized_ne hj]
  exact Dev.bucket_congr (by rw [hg.keeps_sw]) fun r hr hp => hn r j hr hp

theorem idle_refillEarly (ht : (s.dev.bucket k).at_ = some t) (hlt : s.dev.clk.up < t + refillEvery k) : Idle (.shaperRefill k ue) s := by
  refine idle_runWhen (b := fun d => decide (k < 36898) && d.refillDue k) (f := fun d => d.refillRead k ue) rfl ?_
  have h : s.dev.refillDue k = false := by
    rw [Dev.refillDue, ht]
    exact decide_eq_false (Nat.not_le.mpr hlt)
  rw [h, Bool.and_false]

theorem idle_refillNowhere (hk : 36898 ≤ k) : Idle (.shaperRefill k ue) s := by
  refine idle_runWhen (b := fun d => decide (k < 36898) && d.refillDue k) (f := fun d => d.refillRead k ue) rfl ?_
  rw [decide_eq_false (Nat.not_lt.mpr hk), Bool.false_and]

theorem gives_sample (hon : s.Awake) (hen : s.dev.on TMGR.SAMPLE_CFG_EN = true) (hq : q = s.dev.sw.sampler % 262144)
    (hdue : periodDue s.dev.sw.sampledAt 32 s.dev.clk.up = true) (hlate : late = s.dev.sampleLate q) (hdeep : deep = s.dev.sampleDeep q)
    (hwas : was = s.dev.sampleWas q) :
    Gives (.queueSample .clean) s fun d => d.sw.sampler = (q + 1) % 262144 ∧
      d.sw.sampledAt = some (periodAt s.dev.sw.sampledAt 32 s.dev.clk.up) ∧
      d.sw.samples.get none q = some { bits := (s.dev.sampleOf q).2.2.2, alert := late || deep } ∧
      ((late || deep) = true → was = false → d.raised TMGR.int_QUEUE_ALERT = true ∧
        d.num TMGR.ALERTS = (s.dev.num TMGR.ALERTS + 1) % 2 ^ 32) ∧
      ((late || deep) = was → s.dev.keeps d [.sw]) ∧ s.dev.moves d [.sw] [0x48] := by
  refine gives_run (f := fun d => d.sampleQueue .clean) rfl hon ?_
  rw [Dev.sampleQueue_clean hen hdue hq, ← hlate, ← hdeep, ← hwas]
  generalize hx : s.dev.sampled q { bits := (s.dev.sampleOf q).2.2.2, alert := late || deep } = x
  have hm0 : s.dev.moves x [.sw] [0x48] := by
    rw [← hx]
    exact Dev.moves_sampled
  have hm : s.dev.moves (x.alerted q late deep was (s.dev.sampleOf q).2.1 (s.dev.sampleOf q).2.2.1) [.sw] [0x48] := hm0.andThen Dev.moves_alerted
  rw [hm.under_eq, Dev.sw_alerted]
  have hsm : x.sw.samples = s.dev.sw.samples.set none q (some { bits := (s.dev.sampleOf q).2.2.2, alert := late || deep }) := by
    rw [← hx]
    rfl
  refine ⟨by rw [← hx]; rfl, by rw [← hx]; rfl, ?_, fun hl hw => ?_, fun h => ?_, hm⟩
  · rw [hsm, SMap.get_set_same]
  · obtain ⟨h1, h2⟩ := Dev.alerted_raised (d := x) (q := q) (depth := (s.dev.sampleOf q).2.1) (delay := (s.dev.sampleOf q).2.2.1) hl hw
    refine ⟨h1, h2.trans ?_⟩
    rw [← hx]
    rfl
  · rw [Dev.alerted_same h, ← hx]
    exact (Dev.keeps.refl _).set_sw

theorem idle_sample (h : s.dev.on TMGR.SAMPLE_CFG_EN = false ∨ periodDue s.dev.sw.sampledAt 32 s.dev.clk.up = false) : Idle (.queueSample ue) s :=
  idle_runSelf (f := fun d => d.sampleQueue ue) rfl (Dev.sampleQueue_none h)

end Sys2Proof.Machine
open Sys2Proof Sys2Proof.Machine

/-- Settles O44: arrivals by what their frame's copies find, selections by the pick, refills and samples by the node and the queue. -/
theorem queuesAndShapers : Obligations.QueuesAndShapers := by
  unfold Obligations.QueuesAndShapers
  refine ⟨fun s k f hon hf hs hp hd => gives_arrivalEmpty hon hf hs hp hd, ?_, ?_,
    fun s k n f hon hf hs hp hd hw ht => gives_arrivalRefused hon hf hs hp hd hw ht,
    fun s k f hon hf hs hp hd hw => gives_arrivalWaits hon hf hs hp hd hw,
    fun s k pol f hon hf hs hp hpol he hty hrd hc => gives_arrivalRed hon hf hs hp hpol he hty hrd hc,
    fun s k _ h => idle_arrival h,
    fun s n q c r hon hn hup hoff hw ho hq hc hb => gives_selectionOldest hon hn hup hoff hw ho hq hc hb,
    fun s n e p c r hon hn hup hen hpk hw hd hq hc hb => gives_selectionPick hon hn hup hen hpk hw hd hq hc hb,
    fun s n _ h => idle_selection h,
    fun s k b hon hk hb hdue => gives_refillClean hon hk hb hdue,
    fun s k hon hk hdue => gives_refillBad hon hk hdue,
    fun s k t ue _ ht hlt => idle_refillEarly ht hlt,
    fun s k ue _ hk => idle_refillNowhere hk,
    fun s q late deep was hon hen hq hdue hlate hdeep hwas => gives_sample hon hen hq hdue hlate hdeep hwas,
    fun s ue _ h => idle_sample h⟩
  · rintro s k n sub cls f hon hf hs hp hd hw hfree rfl ht rfl hc
    exact gives_arrivalQueued hon hf hs hp hd hw hfree ht hc
  · rintro s k n sub cls f hon hf hs hp hd hw hfree rfl ht rfl hc
    exact gives_arrivalOrphan hon hf hs hp hd hw hfree ht hc
end

section
set_option Elab.async false
/-! The leak audit of the buffers (R87, R349). -/

namespace Sys2Proof.Machine.Dev
open Sys2Proof
variable {d e : Dev} {k key n p i bad : Nat} {l : List Nat} {x : Link}

/-! ### The link memory -/

theorem linkKey_parts (p i : Nat) : linkKey (linkKey p i / 2 ^ 22) (linkKey p i % 2 ^ 22) = linkKey p i := by
  unfold linkKey
  norm_num
  omega

theorem linkKey_split (h : k < 2 ^ 23) : linkKey (k / 2 ^ 22) (k % 2 ^ 22) = k := by
  unfold linkKey
  norm_num at h ⊢
  omega

theorem lnk_congr (h : e.sw.link = d.sw.link) : e.lnk p i = d.lnk p i := by rw [lnk, h, lnk]
theorem lnk_of_key {q j : Nat} (h : linkKey q j = linkKey p i) : d.lnk q j = d.lnk p i := by rw [lnk, h, lnk]
theorem lnk_setLink_same {q j : Nat} (h : linkKey q j = linkKey p i) : (d.setLink q j x).lnk p i = x := by
  have hs := SMap.get_set_same d.sw.link {} (linkKey p i) x
  unfold lnk setLink
  rw [h]
  exact hs
theorem lnk_setLink_ne {q j : Nat} (h : linkKey q j ≠ linkKey p i) : (d.setLink q j x).lnk p i = d.lnk p i :=
  SMap.get_set_ne d.sw.link {} {} x (Ne.symm h)

/-! ### A pass begins -/

/-- A unit that is reached, marked. -/
def unitMarked (d : Dev) (k : Nat) : Dev := d.setLink (k / 2 ^ 22) (k % 2 ^ 22) { d.lnk (k / 2 ^ 22) (k % 2 ^ 22) with mark := true }

theorem mark_unitMarked_same : ((d.unitMarked k).lnk (k / 2 ^ 22) (k % 2 ^ 22)).mark = true := by
  rw [unitMarked, lnk_setLink_same rfl]

theorem mark_unitMarked (h : (d.lnk p i).mark = true) : ((d.unitMarked k).lnk p i).mark = true := by
  by_cases hk : linkKey (k / 2 ^ 22) (k % 2 ^ 22) = linkKey p i
  · rw [unitMarked, lnk_setLink_same hk]
  · rw [unitMarked, lnk_setLink_ne hk, h]

theorem mark_allMarked_of (h : (d.lnk p i).mark = true) : ((l.foldl unitMarked d).lnk p i).mark = true := by
  induction l generalizing d with
  | nil => exact h
  | cons a l ih => exact ih (mark_unitMarked h)

theorem mark_allMarked (h : k ∈ l) : ((l.foldl unitMarked d).lnk (k / 2 ^ 22) (k % 2 ^ 22)).mark = true := by
  induction l generalizing d with
  | nil => exact absurd h (List.not_mem_nil)
  | cons a l ih =>
    rcases List.mem_cons.mp h with rfl | h
    · exact mark_allMarked_of (d := d.unitMarked k) mark_unitMarked_same
    · exact ih h

/-- A pass that begins, before anything is marked. -/
def auditOpened (d : Dev) : Dev := { d with sw := { d.sw with audit := { running := true, lastS := d.upMs / 1000 } } }

theorem auditBegin_starts (he : d.enabled 0x40 = true) (hs : d.opState BUFM.AUDIT_STAT ≠ 1) :
    d.auditBegin = (d.liveUnits.foldl unitMarked d.auditOpened).setNum BUFM.AUDIT_STAT 1 := by
  unfold auditBegin
  rw [he, decide_eq_true hs]
  rfl

theorem auditBegin_none (h : d.enabled 0x40 = false ∨ d.opState BUFM.AUDIT_STAT = 1) : d.auditBegin = d := by
  unfold auditBegin
  refine if_neg ?_
  rcases h with h | h
  · rw [h, Bool.false_and]
    decide
  · rw [h]
    simp

theorem regs_allMarked : (l.foldl unitMarked d).regs = d.regs := foldl_keeps (rd := Dev.regs) fun _ _ _ => rfl
theorem audit_allMarked : (l.foldl unitMarked d).sw.audit = d.sw.audit := foldl_keeps (rd := fun d => d.sw.audit) fun _ _ _ => rfl
theorem keeps_allMarked : d.keeps (l.foldl unitMarked d) [.sw] := keeps.foldl (keeps.refl d) fun h => h.set_sw

/-! ### The scan of a unit -/

/-- The registers that the scan of a unit writes. -/
abbrev scanRegs : List Reg := [BUFM.LEAKS, BUFM.LEAK_INFO, BUFM.LEAK_STAMP_LO, BUFM.LEAK_STAMP_HI, BUFM.RECLAIMED, BUFM.FREE0, BUFM.FREE1,
  MEMC.RET_BLOCKS, MARC.WITHHELD]

theorem writes_backUnit : d.writes (d.unitBack p i) [] scanRegs := by
  unfold unitBack testCell
  have h {x : Switch} : d.writes { d with sw := x } [] scanRegs := d.untouched.andThen writes_sw
  refine (d.untouched.bump.ite d.untouched).ite ((d.untouched.ite (((h.andThen writes_sw).bump.ite h.bump).ite d.untouched.bump)).ite
    (d.untouched.bump.ite d.untouched.bump))

/-- A leak, reported. -/
def leakShown (d : Dev) (pool i : Nat) : Dev :=
  let d := (d.bump BUFM.LEAKS).setNum BUFM.LEAK_INFO (i % 2 ^ 22 + pool * 2 ^ 22)
  let d := d.setNum2 BUFM.LEAK_STAMP_LO BUFM.LEAK_STAMP_HI (d.stamp 21).toNat
  (d.raise BUFM.int_LEAK).log 21 0x4002 (d.num BUFM.LEAK_INFO)

theorem writes_leakShown : d.writes (d.leakShown p i) [] scanRegs := d.untouched.bump.setNum.setNum2.raise.log
theorem moves_leakShown : d.moves (d.leakShown p i) [] [0x40] := d.still.bump.setNum.setNum2.raise.log

theorem leak_eq : d.leak p i = if (d.leakShown p i).on BUFM.AUDIT_CFG_RECLAIM then
    (((d.leakShown p i).setLink p i {}).bump BUFM.RECLAIMED).unitBack p i else d.leakShown p i := rfl

theorem writes_leak : d.writes (d.leak p i) [] scanRegs := by
  rw [leak_eq]
  exact ((writes_leakShown.andThen writes_setLink).bump.andThen writes_backUnit).ite writes_leakShown

theorem moves_leak : d.moves (d.leak p i) [.sw] [0x40, 0x50, 0x70] := by
  rw [leak_eq]
  have h : d.moves (d.leakShown p i) [.sw] [0x40, 0x50, 0x70] := moves_leakShown.mono rfl rfl
  exact (h.setLink.bump.andThen moves_unitBack).ite h

/-- The link memory and the audit are as they were. -/
def chainsLike (d e : Dev) : Prop := e.sw.link = d.sw.link ∧ e.sw.audit = d.sw.audit

theorem chainsLike.refl (d : Dev) : d.chainsLike d := ⟨rfl, rfl⟩
theorem chainsLike.trans {f : Dev} (h : d.chainsLike e) (g : e.chainsLike f) : d.chainsLike f := ⟨g.1.trans h.1, g.2.trans h.2⟩
theorem chainsLike.of_sw (h : e.sw = d.sw) : d.chainsLike e := by
  unfold chainsLike
  rw [h]
  exact ⟨rfl, rfl⟩
theorem chainsLike.ite {b : Prop} [Decidable b] {f : Dev} (h : d.chainsLike e) (g : d.chainsLike f) : d.chainsLike (if b then e else f) := by
  split <;> assumption
theorem chainsLike_bump {r : Reg} {c n : Nat} : d.chainsLike (d.bump r c n) := .of_sw (bump_sw _ _ _ _)

theorem chainsLike_testCell : d.chainsLike (d.testCell i) := by
  unfold testCell
  exact .ite ⟨rfl, rfl⟩ ⟨rfl, rfl⟩

theorem chainsLike_unitBack : d.chainsLike (d.unitBack p i) := by
  unfold unitBack
  exact (chainsLike_bump.ite (.refl d)).ite (((chainsLike.refl d).ite (chainsLike_testCell.ite chainsLike_bump)).ite
    (chainsLike_bump.ite chainsLike_bump))

theorem chainsLike_leakShown : d.chainsLike (d.leakShown p i) := .of_sw moves_leakShown.keeps_sw

theorem audit_setLink : (d.setLink p i x).sw.audit = d.sw.audit := rfl

theorem audit_leak : (d.leak p i).sw.audit = d.sw.audit := by
  rw [leak_eq]
  split
  · rw [chainsLike_unitBack.2, chainsLike_bump.2, audit_setLink, chainsLike_leakShown.2]
  · exact chainsLike_leakShown.2

theorem lnk_leak_ne {q j : Nat} (h : linkKey q j ≠ linkKey p i) : (d.leak q j).lnk p i = d.lnk p i := by
  rw [leak_eq]
  split
  · rw [lnk_congr chainsLike_unitBack.1, lnk_congr chainsLike_bump.1, lnk_setLink_ne h, lnk_congr chainsLike_leakShown.1]
  · exact lnk_congr chainsLike_leakShown.1

/-! ### A scan -/

/-- What a scan leaves of a unit that is taken and was not reached. -/
def aged (x : Link) : Link := { x with age := min 3 (x.age + 1) }

theorem scanUnit_eq : d.scanUnit key =
    (let l := d.lnk (key / 2 ^ 22) (key % 2 ^ 22)
     if l.alloc then
       if l.mark then d.setLink (key / 2 ^ 22) (key % 2 ^ 22) { l with mark := false, age := 0 }
       else
         let e := d.setLink (key / 2 ^ 22) (key % 2 ^ 22) (aged l)
         if l.age < min 3 (l.age + 1) ∧ min 3 (l.age + 1) = e.fld BUFM.AUDIT_CFG_PASSES then e.leak (key / 2 ^ 22) (key % 2 ^ 22) else e
     else d.setLink (key / 2 ^ 22) (key % 2 ^ 22) {}) := rfl

theorem fld_setLink {y : Fld} : (d.setLink p i x).fld y = d.fld y := rfl

/-- One property of a scan from the properties of what it consists of. -/
theorem scanUnit_cases {P : Dev → Prop} (h1 : ∀ x, P (d.setLink (key / 2 ^ 22) (key % 2 ^ 22) x))
    (h2 : ∀ x, P ((d.setLink (key / 2 ^ 22) (key % 2 ^ 22) x).leak (key / 2 ^ 22) (key % 2 ^ 22))) : P (d.scanUnit key) := by
  rw [scanUnit_eq]
  dsimp only
  split
  · split
    · exact h1 _
    · split
      · exact h2 _
      · exact h1 _
  · exact h1 _

theorem writes_scanUnit : d.writes (d.scanUnit key) [] scanRegs :=
  scanUnit_cases (P := fun e => d.writes e [] scanRegs) (fun _ => d.untouched.andThen writes_setLink)
    fun _ => (d.untouched.andThen writes_setLink).andThen writes_leak

theorem moves_scanUnit : d.moves (d.scanUnit key) [.sw] [0x40, 0x50, 0x70] :=
  scanUnit_cases (P := fun e => d.moves e [.sw] [0x40, 0x50, 0x70]) (fun _ => d.still.setLink) fun _ => d.still.setLink.andThen moves_leak

theorem audit_scanUnit : (d.scanUnit key).sw.audit = d.sw.audit :=
  scanUnit_cases (P := fun e => e.sw.audit = d.sw.audit) (fun _ => audit_setLink) fun _ => audit_leak.trans audit_setLink

theorem lnk_scanUnit_ne (h : linkKey (key / 2 ^ 22) (key % 2 ^ 22) ≠ linkKey p i) : (d.scanUnit key).lnk p i = d.lnk p i :=
  scanUnit_cases (P := fun e => e.lnk p i = d.lnk p i) (fun _ => lnk_setLink_ne h) fun _ => (lnk_leak_ne h).trans (lnk_setLink_ne h)

theorem lnk_scanUnit_marked (hk : linkKey (key / 2 ^ 22) (key % 2 ^ 22) = linkKey p i) (ha : (d.lnk p i).alloc = true) (hm : (d.lnk p i).mark = true) :
    (d.scanUnit key).lnk p i = { d.lnk p i with mark := false, age := 0 } := by
  rw [scanUnit_eq]
  dsimp only
  rw [lnk_of_key hk, if_pos ha, if_pos hm, lnk_setLink_same hk]

theorem lnk_scanUnit_aged (hk : linkKey (key / 2 ^ 22) (key % 2 ^ 22) = linkKey p i) (ha : (d.lnk p i).alloc = true) (hm : (d.lnk p i).mark = false)
    (hl : ¬ ((d.lnk p i).age < min 3 ((d.lnk p i).age + 1) ∧ min 3 ((d.lnk p i).age + 1) = d.fld BUFM.AUDIT_CFG_PASSES)) :
    (d.scanUnit key).lnk p i = aged (d.lnk p i) := by
  rw [scanUnit_eq]
  dsimp only
  rw [lnk_of_key hk, if_pos ha, if_neg (by rw [hm]; decide), fld_setLink, if_neg hl, lnk_setLink_same hk]

theorem writes_scanAll : d.writes (l.foldl scanUnit d) [] scanRegs := d.untouched.foldl fun h => h.trans writes_scanUnit
theorem moves_scanAll : d.moves (l.foldl scanUnit d) [.sw] [0x40, 0x50, 0x70] := d.still.foldl fun h => h.andThen moves_scanUnit
theorem audit_scanAll : (l.foldl scanUnit d).sw.audit = d.sw.audit := foldl_keeps (rd := fun d => d.sw.audit) fun _ _ _ => audit_scanUnit

/-- A unit that a scan does not visit stands. -/
theorem lnk_scanAll_out (hl : ∀ x ∈ l, linkKey (x / 2 ^ 22) (x % 2 ^ 22) ≠ linkKey p i) : (l.foldl scanUnit d).lnk p i = d.lnk p i := by
  induction l generalizing d with
  | nil => rfl
  | cons a l ih =>
    rw [List.foldl_cons, ih fun x hx => hl x (List.mem_cons_of_mem _ hx), lnk_scanUnit_ne (hl a List.mem_cons_self)]

/-- A unit that a scan visits once is left as the scan of that unit alone leaves it. -/
theorem lnk_scanAll_in (hn : l.Nodup) (hb : ∀ x ∈ l, x < 2 ^ 23) (hk : linkKey p i ∈ l) :
    ∃ e : Dev, e.lnk p i = d.lnk p i ∧ e.num BUFM.AUDIT_CFG = d.num BUFM.AUDIT_CFG ∧
      (l.foldl scanUnit d).lnk p i = (e.scanUnit (linkKey p i)).lnk p i := by
  induction l generalizing d with
  | nil => exact absurd hk List.not_mem_nil
  | cons a l ih =>
    obtain ⟨ha, hn⟩ := List.nodup_cons.mp hn
    have hsplit : ∀ x ∈ a :: l, linkKey (x / 2 ^ 22) (x % 2 ^ 22) = x := fun x hx => linkKey_split (hb x hx)
    by_cases hka : linkKey p i = a
    · refine ⟨d, rfl, rfl, ?_⟩
      rw [List.foldl_cons, hka, lnk_scanAll_out]
      intro x hx hxk
      rw [hsplit x (List.mem_cons_of_mem _ hx), hka] at hxk
      exact ha (by rw [← hxk]; exact hx)
    · rcases List.mem_cons.mp hk with h | h
      · exact absurd h hka
      · obtain ⟨e, h1, h2, h3⟩ := ih (d := d.scanUnit a) hn (fun x hx => hb x (List.mem_cons_of_mem _ hx)) h
        refine ⟨e, h1.trans (lnk_scanUnit_ne ?_), h2.trans (writes_scanUnit.num BUFM.AUDIT_CFG 0), h3⟩
        rw [hsplit a List.mem_cons_self]
        exact fun h => hka h.symm

end Sys2Proof.Machine.Dev
end

section
set_option Elab.async false
/-! What an audit's start, abort and end leave (R87, R349). -/

namespace Sys2Proof.Machine.Dev
open Sys2Proof
variable {d e : Dev} {k key n p i bad : Nat} {l : List Nat}

/-- The units that an aborted pass has scanned. -/
def cutKeys (d : Dev) (n : Nat) : List Nat :=
  (d.sw.link.map (·.1)).filter fun k => (if k / 2 ^ 22 = 0 then k else k % 2 ^ 22 + 262144) < n * 4096

/-- An aborted pass, its progress shown. -/
def auditShown (d : Dev) : Dev := (d.openProgress BUFM.AUDIT_STAT 0 1088).1

theorem auditCut_eq : d.auditCut = ((d.auditShown.cutKeys (d.freeVal.toNat % 1088)).foldl scanUnit d.auditShown).auditStop := rfl

theorem num_auditStop {r : Reg} : d.auditStop.num r = d.num r := rfl
theorem opState_auditStop {r : Reg} : d.auditStop.opState r = d.opState r := rfl
theorem lnk_auditStop : d.auditStop.lnk p i = d.lnk p i := rfl
theorem audit_auditStop : d.auditStop.sw.audit = { d.sw.audit with running := false } := rfl
theorem moves_auditStop : d.moves d.auditStop [.sw] [] := d.still.set_sw

theorem num_auditCut {r : Reg} (h : (scanRegs.all fun q => r.apart q) = true) (hr : r.plain = true) : d.auditCut.num r = d.auditShown.num r := by
  rw [auditCut_eq, num_auditStop]
  exact writes_scanAll.num r 0 hr rfl h

theorem opState_auditCut : d.auditCut.opState BUFM.AUDIT_STAT = d.opState BUFM.AUDIT_STAT := by
  have h : d.auditShown.opState BUFM.AUDIT_STAT = d.opState BUFM.AUDIT_STAT := opState_openProgress
  rw [← h, opState, num_auditCut rfl rfl, opState]

theorem progress_auditShown : bitsOf (d.auditShown.num BUFM.AUDIT_STAT) 8 24 = d.freeVal.toNat % 1088 := by
  have hlt := d.num_lt BUFM.AUDIT_STAT 0
  have h : d.auditShown.num BUFM.AUDIT_STAT = setBits (d.num BUFM.AUDIT_STAT) 8 24 (d.freeVal.toNat % 1088) := by
    have h1 : d.auditShown.num BUFM.AUDIT_STAT = setBits (d.num BUFM.AUDIT_STAT) 8 24 (d.freeVal.toNat % 1088) % 2 ^ 32 :=
      num_setNum_same d.freed BUFM.AUDIT_STAT _ 0
    rw [h1, Nat.mod_eq_of_lt (setBits_lt _ _ _ _ _ hlt (by decide))]
  have hm : d.freeVal.toNat % 1088 < 1088 := Nat.mod_lt _ (by decide)
  rw [h, bitsOf_setBits_same]
  exact Nat.mod_eq_of_lt (lt_trans hm (by decide))

theorem moves_auditShown : d.moves d.auditShown [.frees, .sw] [0x40, 0x50, 0x70] := d.still.openProgress

theorem moves_auditCut : d.moves d.auditCut [.frees, .sw] [0x40, 0x50, 0x70] := by
  rw [auditCut_eq]
  exact (moves_auditShown.andThen moves_scanAll).andThen moves_auditStop

theorem sw_auditShown : d.auditShown.sw = d.sw := by
  unfold auditShown openProgress
  exact setNum_sw _ _ _ _

theorem audit_auditCut : d.auditCut.sw.audit = { d.sw.audit with running := false } := by
  rw [auditCut_eq, audit_auditStop, audit_scanAll, sw_auditShown]

/-- An abort of a pass that runs, before it is logged. -/
def auditAborted (d : Dev) : Dev := (d.setNum BUFM.AUDIT_STAT (setBits (d.num BUFM.AUDIT_STAT) 0 3 3)).auditCut

theorem abortAudit_eq (h : d.opState BUFM.AUDIT_STAT = 1) :
    d.abortOp BUFM.AUDIT_STAT 0 auditCut = d.auditAborted.opEnd 0x40 (d.auditAborted.num BUFM.AUDIT_STAT) 0 := abortOp_running h

theorem sw_abortAudit (h : d.opState BUFM.AUDIT_STAT = 1) : (d.abortOp BUFM.AUDIT_STAT 0 auditCut).sw = d.auditAborted.sw := by
  rw [abortAudit_eq h]
  exact opEnd_sw _ _ _ _

theorem moves_abortAudit : d.moves (d.abortOp BUFM.AUDIT_STAT 0 auditCut) [.frees, .sw] [0x40, 0x50, 0x70] :=
  d.still.abortOp fun h => h.andThen moves_auditCut

/-! ### Scans in the order of the link memory -/

theorem keys_nodup (h : d.sw.link.wf {} = true) : (d.sw.link.map (·.1)).Nodup := by
  have hs : d.sw.link.sorted = true := by
    unfold SMap.wf at h
    rw [Bool.and_eq_true] at h
    exact h.1
  have hp : (d.sw.link.map (·.1)).Pairwise (· < ·) := List.pairwise_map.mpr ((SMap.sorted_iff _).mp hs)
  exact hp.imp fun h => Nat.ne_of_lt h

theorem key_of_alloc (h : (d.lnk p i).alloc = true) : linkKey p i ∈ d.sw.link.map (·.1) := by
  rcases SMap.get_mem_or d.sw.link {} (linkKey p i) with hz | hm
  · rw [lnk, hz] at h
    exact absurd h (by decide)
  · exact List.mem_map.mpr ⟨_, hm, rfl⟩

/-- The scan of a whole link memory. -/
def allScanned (d : Dev) : Dev := (d.sw.link.map (·.1)).foldl scanUnit d

theorem lnk_allScanned (hwf : d.sw.link.wf {} = true) (hb : ∀ x ∈ d.sw.link, x.1 < 2 ^ 23) (ha : (d.lnk p i).alloc = true) :
    ∃ e : Dev, e.lnk p i = d.lnk p i ∧ e.num BUFM.AUDIT_CFG = d.num BUFM.AUDIT_CFG ∧
      d.allScanned.lnk p i = (e.scanUnit (linkKey p i)).lnk p i := by
  refine lnk_scanAll_in (keys_nodup hwf) (fun x hx => ?_) (key_of_alloc ha)
  obtain ⟨y, hy, rfl⟩ := List.mem_map.mp hx
  exact hb y hy

theorem lnk_allScanned_marked (hwf : d.sw.link.wf {} = true) (hb : ∀ x ∈ d.sw.link, x.1 < 2 ^ 23) (ha : (d.lnk p i).alloc = true)
    (hm : (d.lnk p i).mark = true) : d.allScanned.lnk p i = { d.lnk p i with mark := false, age := 0 } := by
  obtain ⟨e, h1, -, h3⟩ := lnk_allScanned hwf hb ha
  rw [h3, lnk_scanUnit_marked (linkKey_parts p i) (by rw [h1]; exact ha) (by rw [h1]; exact hm), h1]

theorem lnk_allScanned_aged (hwf : d.sw.link.wf {} = true) (hb : ∀ x ∈ d.sw.link, x.1 < 2 ^ 23) (ha : (d.lnk p i).alloc = true)
    (hm : (d.lnk p i).mark = false) (hl : min 3 ((d.lnk p i).age + 1) ≠ d.fld BUFM.AUDIT_CFG_PASSES ∨ 3 ≤ (d.lnk p i).age) :
    d.allScanned.lnk p i = aged (d.lnk p i) := by
  obtain ⟨e, h1, h2, h3⟩ := lnk_allScanned hwf hb ha
  have hf : e.fld BUFM.AUDIT_CFG_PASSES = d.fld BUFM.AUDIT_CFG_PASSES := congrArg (bitsOf · _ _) h2
  rw [h3, lnk_scanUnit_aged (linkKey_parts p i) (by rw [h1]; exact ha) (by rw [h1]; exact hm), h1]
  rw [h1, hf]
  rintro ⟨hlt, heq⟩
  rcases hl with hl | hl
  · exact hl heq
  · omega

/-- A unit that an aborted pass may have scanned. -/
theorem lnk_auditCut (hwf : d.sw.link.wf {} = true) (hb : ∀ x ∈ d.sw.link, x.1 < 2 ^ 23) (ha : (d.lnk p i).alloc = true)
    (hm : (d.lnk p i).mark = true) :
    d.auditCut.lnk p i = d.lnk p i ∨ d.auditCut.lnk p i = { d.lnk p i with mark := false, age := 0 } := by
  have hs := sw_auditShown (d := d)
  have h0 : d.auditShown.lnk p i = d.lnk p i := lnk_congr (by rw [hs])
  have hsub : ∀ x ∈ d.auditShown.cutKeys (d.freeVal.toNat % 1088), x ∈ d.sw.link.map (·.1) := fun x hx => by
    unfold cutKeys at hx
    rw [hs] at hx
    exact (List.mem_filter.mp hx).1
  have hlt : ∀ x ∈ d.auditShown.cutKeys (d.freeVal.toNat % 1088), x < 2 ^ 23 := fun x hx => by
    obtain ⟨y, hy, rfl⟩ := List.mem_map.mp (hsub x hx)
    exact hb y hy
  rw [auditCut_eq, lnk_auditStop, ← h0]
  by_cases hk : linkKey p i ∈ d.auditShown.cutKeys (d.freeVal.toNat % 1088)
  · have hn : (d.auditShown.cutKeys (d.freeVal.toNat % 1088)).Nodup := by
      unfold cutKeys
      rw [hs]
      exact (keys_nodup hwf).filter _
    obtain ⟨e, h1, -, h3⟩ := lnk_scanAll_in hn hlt hk
    refine .inr ?_
    rw [h3, lnk_scanUnit_marked (linkKey_parts p i) (by rw [h1, h0]; exact ha) (by rw [h1, h0]; exact hm), h1]
  · refine .inl (lnk_scanAll_out fun x hx hxk => hk ?_)
    rw [← hxk, linkKey_split (hlt x hx)]
    exact hx

/-! ### The end of a pass -/

/-- The scan's end, before it is reported. -/
def auditScanned (d : Dev) (bad : Nat) : Dev := (d.allScanned.freelistFix bad).auditStop

theorem auditDone_ends (he : d.enabled 0x40 = true) (hs : d.opState BUFM.AUDIT_STAT = 1) :
    d.auditDone bad = ((d.auditScanned bad).endOp BUFM.AUDIT_STAT 0 2 1088).raise BUFM.int_AUDIT_DONE := by
  unfold auditDone
  rw [he, decide_eq_true hs]
  rfl

theorem auditDone_none (h : d.enabled 0x40 = false ∨ d.opState BUFM.AUDIT_STAT ≠ 1) : d.auditDone bad = d := by
  unfold auditDone
  refine if_neg ?_
  rcases h with h | h
  · rw [h, Bool.false_and]
    decide
  · simp [h]

theorem moves_freelistFix : d.moves (d.freelistFix bad) [] [0x40] := d.still.ite d.still.bump.raise

theorem moves_auditScanned : d.moves (d.auditScanned bad) [.sw] [0x40, 0x50, 0x70] := (moves_scanAll.andThen moves_freelistFix).andThen moves_auditStop

theorem freelistBad_auditScanned : (d.auditScanned bad).num BUFM.FREELIST_BAD = (d.num BUFM.FREELIST_BAD + bad) % 2 ^ 32 := by
  have h : d.allScanned.num BUFM.FREELIST_BAD = d.num BUFM.FREELIST_BAD := writes_scanAll.num BUFM.FREELIST_BAD 0
  rw [auditScanned, num_auditStop, freelistFix]
  split
  · next hb =>
    rw [h, hb, Nat.add_zero, Nat.mod_eq_of_lt (d.num_lt _ _)]
  · rw [num_raise_plain _ _ _ _ rfl, num_bump_eq, h]

theorem sw_auditDone (he : d.enabled 0x40 = true) (hs : d.opState BUFM.AUDIT_STAT = 1) : (d.auditDone bad).sw = (d.auditScanned bad).sw := by
  rw [auditDone_ends he hs, raise_sw, endOp, opEnd_sw, setNum_sw]

theorem lnk_auditScanned : (d.auditScanned bad).lnk p i = d.allScanned.lnk p i := by
  rw [auditScanned, lnk_auditStop]
  exact lnk_congr (by rw [moves_freelistFix.keeps_sw])

end Sys2Proof.Machine.Dev

namespace Sys2Proof.Machine
open Sys2Proof
variable {s : State} {c : Instr} {k bad : Nat}

theorem gives_auditBegin (hc : (c = .auditStart ∧ s.Opens 0x40) ∨ (c = .auditPeriod ∧ s.Awake ∧ s.dev.on TOP.BOOT_STATUS_READY = true ∧
      s.dev.sw.audit.lastS + s.dev.fld BUFM.AUDIT_CFG_PERIOD ≤ s.dev.upMs / 1000)) (he : s.dev.enabled 0x40 = true)
    (hs : s.dev.opState BUFM.AUDIT_STAT ≠ 1) :
    Gives c s fun d => d.num BUFM.AUDIT_STAT = 1 ∧ d.sw.audit = { running := true, lastS := s.dev.upMs / 1000 } ∧
      (∀ k, k ∈ s.dev.liveUnits → (d.lnk (k / 2 ^ 22) (k % 2 ^ 22)).mark = true) ∧ s.dev.keeps d [.regs, .sw] ∧
      s.dev.keepsBut d [BUFM.AUDIT_STAT.key 0 0] := by
  have hm : s.dev.moves s.dev.auditBegin [.sw] [0x40] := by
    rw [Dev.auditBegin_starts he hs]
    have h0 : s.dev.moves s.dev.auditOpened [.sw] [0x40] := s.dev.still.set_sw
    exact (h0.foldl fun h => h.setLink).setNum
  have hfacts : s.dev.auditBegin.num BUFM.AUDIT_STAT = 1 ∧ s.dev.auditBegin.sw.audit = { running := true, lastS := s.dev.upMs / 1000 } ∧
      (∀ k, k ∈ s.dev.liveUnits → (s.dev.auditBegin.lnk (k / 2 ^ 22) (k % 2 ^ 22)).mark = true) ∧ s.dev.keeps s.dev.auditBegin [.regs, .sw] ∧
      s.dev.keepsBut s.dev.auditBegin [BUFM.AUDIT_STAT.key 0 0] := by
    rw [Dev.auditBegin_starts he hs]
    have hregs : (s.dev.liveUnits.foldl Dev.unitMarked s.dev.auditOpened).regs = s.dev.regs := Dev.regs_allMarked
    refine ⟨Dev.num_setNum_same _ _ _ _, ?_, fun k hk => ?_, ?_, fun k w hk => ?_⟩
    · rw [Dev.setNum_sw, Dev.audit_allMarked]
      rfl
    · rw [Dev.lnk_congr (by rw [Dev.setNum_sw])]
      exact Dev.mark_allMarked hk
    · have h0 : s.dev.keeps s.dev.auditOpened [.regs, .sw] := (Dev.keeps.refl _).set_sw
      exact (Dev.keeps.foldl h0 fun h => h.set_sw).setNum
    · rw [Dev.keepsBut_setNum k w hk, hregs]
  rcases hc with ⟨rfl, ho⟩ | ⟨rfl, hon, hr, hp⟩
  · refine gives_access rfl ho ?_
    rw [hm.under_eq]
    exact hfacts
  · refine gives_runWhen (b := fun d => d.on TOP.BOOT_STATUS_READY && decide (d.sw.audit.lastS + d.fld BUFM.AUDIT_CFG_PERIOD ≤ d.upMs / 1000))
      (f := Dev.auditBegin) rfl hon ?_ ?_
    · rw [hr, decide_eq_true hp]
      rfl
    · rw [hm.under_eq]
      exact hfacts

theorem idle_auditStart (ho : s.Opens 0x40) (h : s.dev.enabled 0x40 = false ∨ s.dev.opState BUFM.AUDIT_STAT = 1) : Idle .auditStart s :=
  idle_access rfl ho.2 (Dev.auditBegin_none h)

theorem idle_auditPeriod (h : s.dev.on TOP.BOOT_STATUS_READY = false ∨
    s.dev.upMs / 1000 < s.dev.sw.audit.lastS + s.dev.fld BUFM.AUDIT_CFG_PERIOD) : Idle .auditPeriod s := by
  refine idle_runWhen (b := fun d => d.on TOP.BOOT_STATUS_READY && decide (d.sw.audit.lastS + d.fld BUFM.AUDIT_CFG_PERIOD ≤ d.upMs / 1000))
    (f := Dev.auditBegin) rfl ?_
  rcases h with h | h
  · rw [h, Bool.false_and]
  · rw [decide_eq_false (Nat.not_le.mpr h), Bool.and_false]

theorem gives_auditAbort (ho : s.Opens 0x40) (hs : s.dev.opState BUFM.AUDIT_STAT = 1) :
    Gives .auditAbort s fun d => d.opState BUFM.AUDIT_STAT = 3 ∧ d.sw.audit = { s.dev.sw.audit with running := false } ∧
      bitsOf (d.num BUFM.AUDIT_STAT) 8 24 < 1088 ∧ s.dev.moves d [.frees, .sw] [0x40, 0x50, 0x70] := by
  refine gives_access (f := fun d => d.abortOp BUFM.AUDIT_STAT 0 Dev.auditCut) rfl ho ?_
  rw [Dev.moves_abortAudit.under_eq]
  refine ⟨Dev.opState_abortOp hs fun x => Dev.opState_auditCut, ?_, ?_, Dev.moves_abortAudit⟩
  · rw [Dev.sw_abortAudit hs, Dev.auditAborted, Dev.audit_auditCut, Dev.setNum_sw]
  · rw [Dev.abortAudit_eq hs, Dev.num_opEnd_plain _ _ _ _ _ _ rfl, Dev.auditAborted, Dev.num_auditCut rfl rfl, Dev.progress_auditShown]
    exact Nat.mod_lt _ (by decide)

theorem gives_auditAbortUnit (ho : s.Opens 0x40) (hs : s.dev.opState BUFM.AUDIT_STAT = 1) (hwf : s.dev.sw.link.wf {} = true)
    (hb : ∀ x ∈ s.dev.sw.link, x.1 < 2 ^ 23) (hm : (s.dev.lnk (k / 2 ^ 22) (k % 2 ^ 22)).mark = true)
    (ha : (s.dev.lnk (k / 2 ^ 22) (k % 2 ^ 22)).alloc = true) :
    Gives .auditAbort s fun d => d.lnk (k / 2 ^ 22) (k % 2 ^ 22) = s.dev.lnk (k / 2 ^ 22) (k % 2 ^ 22) ∨
      d.lnk (k / 2 ^ 22) (k % 2 ^ 22) = { s.dev.lnk (k / 2 ^ 22) (k % 2 ^ 22) with mark := false, age := 0 } := by
  refine gives_access (f := fun d => d.abortOp BUFM.AUDIT_STAT 0 Dev.auditCut) rfl ho ?_
  have hsw := Dev.setNum_sw s.dev BUFM.AUDIT_STAT (setBits (s.dev.num BUFM.AUDIT_STAT) 0 3 3) 0
  have hl : (s.dev.setNum BUFM.AUDIT_STAT (setBits (s.dev.num BUFM.AUDIT_STAT) 0 3 3)).lnk (k / 2 ^ 22) (k % 2 ^ 22) =
      s.dev.lnk (k / 2 ^ 22) (k % 2 ^ 22) := Dev.lnk_congr (by rw [hsw])
  rw [Dev.moves_abortAudit.under_eq, Dev.lnk_congr (congrArg Switch.link (Dev.sw_abortAudit hs)), ← hl, Dev.auditAborted]
  exact Dev.lnk_auditCut (by rw [hsw]; exact hwf) (by rw [hsw]; exact hb) (by rw [hl]; exact ha) (by rw [hl]; exact hm)

theorem gives_auditDone (hon : s.Awake) (he : s.dev.enabled 0x40 = true) (hs : s.dev.opState BUFM.AUDIT_STAT = 1)
    (hwf : s.dev.sw.link.wf {} = true) (hb : ∀ x ∈ s.dev.sw.link, x.1 < 2 ^ 23) :
    Gives (.auditDone bad) s fun d => d.num BUFM.AUDIT_STAT = statusWord 2 0 1088 ∧ d.sw.audit.running = false ∧
      d.raised BUFM.int_AUDIT_DONE = true ∧
      d.num BUFM.FREELIST_BAD = (s.dev.num BUFM.FREELIST_BAD + bad) % 2 ^ 32 ∧
      (∀ k, (s.dev.lnk (k / 2 ^ 22) (k % 2 ^ 22)).alloc = true → (s.dev.lnk (k / 2 ^ 22) (k % 2 ^ 22)).mark = true →
        d.lnk (k / 2 ^ 22) (k % 2 ^ 22) = { s.dev.lnk (k / 2 ^ 22) (k % 2 ^ 22) with mark := false, age := 0 }) ∧
      (∀ k, (s.dev.lnk (k / 2 ^ 22) (k % 2 ^ 22)).alloc = true → (s.dev.lnk (k / 2 ^ 22) (k % 2 ^ 22)).mark = false →
        min 3 ((s.dev.lnk (k / 2 ^ 22) (k % 2 ^ 22)).age + 1) ≠ s.dev.fld BUFM.AUDIT_CFG_PASSES ∨
          3 ≤ (s.dev.lnk (k / 2 ^ 22) (k % 2 ^ 22)).age →
        d.lnk (k / 2 ^ 22) (k % 2 ^ 22) = { s.dev.lnk (k / 2 ^ 22) (k % 2 ^ 22) with
          age := min 3 ((s.dev.lnk (k / 2 ^ 22) (k % 2 ^ 22)).age + 1) }) ∧ s.dev.moves d [.sw] [0x40, 0x50, 0x70] := by
  refine gives_run (f := fun d => d.auditDone bad) rfl hon ?_
  have hm : s.dev.moves (s.dev.auditDone bad) [.sw] [0x40, 0x50, 0x70] := by
    rw [Dev.auditDone_ends he hs]
    exact (Dev.moves_auditScanned.setNum.opEnd).raise
  have hlink : ∀ p i, (s.dev.auditDone bad).lnk p i = s.dev.allScanned.lnk p i := fun p i =>
    (Dev.lnk_congr (congrArg Switch.link (Dev.sw_auditDone he hs))).trans Dev.lnk_auditScanned
  rw [hm.under_eq]
  refine ⟨?_, ?_, ?_, ?_, fun k ha hmk => ?_, fun k ha hmk hl => ?_, hm⟩
  · rw [Dev.auditDone_ends he hs, Dev.num_raise_plain _ _ _ _ rfl, Dev.num_endOp]
  · rw [Dev.sw_auditDone he hs]
    rfl
  · rw [Dev.auditDone_ends he hs]
    exact Dev.raised_raise_eq _ _ rfl
  · rw [Dev.auditDone_ends he hs, Dev.num_raise_plain _ _ _ _ rfl, Dev.endOp, Dev.num_opEnd_plain _ _ _ _ _ _ rfl,
      Dev.num_setNum_apart _ _ _ _ _ _ rfl, Dev.freelistBad_auditScanned]
  · rw [hlink, Dev.lnk_allScanned_marked hwf hb ha hmk]
  · rw [hlink, Dev.lnk_allScanned_aged hwf hb ha hmk hl, Dev.aged]

theorem idle_auditDone (h : s.dev.enabled 0x40 = false ∨ s.dev.opState BUFM.AUDIT_STAT ≠ 1) : Idle (.auditDone bad) s :=
  idle_runSelf (f := fun d => d.auditDone bad) rfl (Dev.auditDone_none h)

end Sys2Proof.Machine
end

section
set_option Elab.async false
/-! What the end of a copy and the flush of a hold leave of the switch core (R343 to R345). -/

namespace Sys2Proof.Machine.Dev
open Sys2Proof
variable {d e : Dev} {k n q port cause : Nat} {f g : Frame} {c : Copy} {p : Copy → Bool} {pri : Option Nat}

/-! ### The switch core without its frames -/

/-- The switch core without its frames, units, episodes, pause frames and counters. -/
def berths (d : Dev) : Switch := { d.lanes with frames := [] }

/-- Heads, queues, what is staged, the holds and what waits are as they were. -/
def berthsLike (d e : Dev) : Prop := e.berths = d.berths

namespace berthsLike
theorem refl (d : Dev) : d.berthsLike d := Eq.refl _
theorem trans {f : Dev} (h : d.berthsLike e) (g : e.berthsLike f) : d.berthsLike f := Eq.trans g h
theorem of_lanes (h : d.lanesLike e) : d.berthsLike e := by
  rw [berthsLike, berths, show e.lanes = d.lanes from h, berths]
theorem of_sw (h : e.sw = d.sw) : d.berthsLike e := .of_lanes (.of_sw h)
theorem of_moves {P : List Part} {G : List Nat} (h : d.moves e P G) (hp : P.contains .sw = false := by rfl) : d.berthsLike e := .of_sw (h.keeps_sw hp)
theorem ite {b : Prop} [Decidable b] {f : Dev} (h : d.berthsLike e) (g : d.berthsLike f) : d.berthsLike (if b then e else f) := by
  split <;> assumption
theorem foldl {α : Type} {g : Dev → α → Dev} {l : List α} (h : d.berthsLike e) (hg : ∀ (x : Dev) (b : α), x.berthsLike (g x b)) :
    d.berthsLike (l.foldl g e) := h.trans (foldl_keeps (rd := Dev.berths) fun x b _ => hg x b)

theorem queues (h : d.berthsLike e) : e.sw.queues = d.sw.queues := (congrArg Switch.queues (show e.berths = d.berths from h) :)
theorem staged (h : d.berthsLike e) : e.sw.staged = d.sw.staged := (congrArg Switch.staged (show e.berths = d.berths from h) :)
theorem hold (h : d.berthsLike e) : e.sw.hold = d.sw.hold := (congrArg Switch.hold (show e.berths = d.berths from h) :)
theorem waitTm (h : d.berthsLike e) : e.sw.waitTm = d.sw.waitTm := (congrArg Switch.waitTm (show e.berths = d.berths from h) :)
theorem queue (h : d.berthsLike e) : e.queue q = d.queue q := by rw [Dev.queue, h.queues, Dev.queue]
theorem stagedOf (h : d.berthsLike e) : e.stagedOf n = d.stagedOf n := by rw [Dev.stagedOf, h.staged, Dev.stagedOf]
theorem holdAt (h : d.berthsLike e) : e.holdAt port pri = d.holdAt port pri := by rw [Dev.holdAt, h.hold, Dev.holdAt]
end berthsLike

theorem berthsLike_setFrame : d.berthsLike (d.setFrame k f) := Eq.refl _
theorem berthsLike_setNum {r : Reg} {v : Nat} : d.berthsLike (d.setNum r v n) := .of_lanes lanesLike_setNum
theorem berthsLike_bump {r : Reg} {v : Nat} : d.berthsLike (d.bump r v n) := .of_lanes lanesLike_bump

theorem berthsLike_releaseFrame : d.berthsLike (d.releaseFrame k cause) := by
  cases h : d.frame k with
  | none =>
    rw [releaseFrame_none h]
    exact .refl d
  | some f => rw [berthsLike, berths, lanes_releaseFrame h, lanesLess, berths]

/-! ### A frame's hold account -/

/-- A frame as its hold account leaves it. -/
theorem rehold_some (hf : d.frame k = some f) : ∃ g : Frame, (d.rehold k).frame k = some g ∧ g.refs = f.refs ∧ g.bytes = f.bytes ∧ g.dest = f.dest := by
  unfold rehold
  rw [hf]
  dsimp only
  split
  · exact ⟨_, (frame_congr ((bump_sw _ _ _ _).trans (setNum_sw _ _ _ _))).trans frame_setFrame_same, rfl, rfl, rfl⟩
  · split
    · exact ⟨_, (frame_congr ((setNum_sw _ _ _ _).trans ((bump_sw _ _ _ _).trans (setNum_sw _ _ _ _)))).trans frame_setFrame_same, rfl, rfl, rfl⟩
    · exact ⟨_, frame_setFrame_same, rfl, rfl, rfl⟩

theorem berthsLike_rehold : d.berthsLike (d.rehold k) := by
  unfold rehold
  split
  · exact .refl d
  · dsimp only
    have h2 {g g2 : Frame} : d.berthsLike ((d.setFrame k g).setFrame k g2) := berthsLike_setFrame.trans berthsLike_setFrame
    exact ((h2.trans berthsLike_setNum).trans berthsLike_bump).ite
      ((((h2.trans berthsLike_setNum).trans berthsLike_bump).trans berthsLike_setNum).ite berthsLike_setFrame)

/-! ### The end of a copy -/

theorem finishCopy_last (hf : d.frame k = some f) (hr : f.refs ≤ 1) : d.finishCopy k cause = d.releaseFrame k cause := by
  unfold finishCopy
  rw [hf]
  exact if_pos hr

theorem finishCopy_more (hf : d.frame k = some f) (hr : 1 < f.refs) :
    d.finishCopy k cause = (d.setFrame k { f with refs := f.refs - 1 }).rehold k := by
  unfold finishCopy
  rw [hf]
  exact if_neg (Nat.not_le.mpr hr)

theorem frame_finishCopy_last (hf : d.frame k = some f) (hr : f.refs ≤ 1) : (d.finishCopy k cause).frame k = none := by
  rw [finishCopy_last hf hr, frame_releaseFrame_same]

theorem frame_finishCopy_more (hf : d.frame k = some f) (hr : 1 < f.refs) :
    ∃ g, (d.finishCopy k cause).frame k = some g ∧ g.refs = f.refs - 1 ∧ g.bytes = f.bytes := by
  rw [finishCopy_more hf hr]
  obtain ⟨g, hg, h1, h2, -⟩ := rehold_some (d := d.setFrame k { f with refs := f.refs - 1 }) frame_setFrame_same
  exact ⟨g, hg, h1, h2⟩

theorem berthsLike_finishCopy : d.berthsLike (d.finishCopy k cause) := by
  unfold finishCopy
  split
  · exact .refl d
  · exact berthsLike_releaseFrame.ite (berthsLike_setFrame.trans berthsLike_rehold)

theorem berthsLike_flushCopy : d.berthsLike (d.flushCopy c) := by
  unfold flushCopy
  refine berthsLike.trans ?_ berthsLike_finishCopy
  exact .of_moves (((d.still (P := []) (G := [0x41])).andThen moves_disc).bump.raise)

/-! ### A flush -/

/-- The copies that a flush takes out of the queues. -/
def flushedCopies (d : Dev) (p : Copy → Bool) : List Copy := d.sw.queues.flatMap fun q => q.2.filter p

theorem flushWhere_eq : d.flushWhere p = ((d.flushedCopies p).foldl flushCopy (d.dropCopies p).1).drainAll := rfl

theorem sw_dropCopies : (d.dropCopies p).1.sw = { d.sw with
    queues := (d.sw.queues.map fun q => (q.1, q.2.filter fun c => !p c)).filter fun q => q.2 != [] } := setNum_sw _ _ _ _

theorem queue_dropCopies (h : c ∈ (d.dropCopies p).1.queue q) : p c = false := by
  rw [queue, sw_dropCopies] at h
  dsimp only at h
  rcases SMap.get_mem_or ((d.sw.queues.map fun q => (q.1, q.2.filter fun c => !p c)).filter fun q => q.2 != []) [] q with hz | hm
  · rw [hz] at h
    exact absurd h List.not_mem_nil
  · obtain ⟨x, -, hx⟩ := List.mem_map.mp (List.mem_filter.mp hm).1
    rw [← (Prod.mk.inj hx).2] at h
    simpa using (List.mem_filter.mp h).2

/-- What a flush leaves where no frame waits for copy entries. -/
theorem flushWhere_leaves (hw : d.sw.waitTm = []) :
    (∀ q c, c ∈ (d.flushWhere p).queue q → p c = false) ∧ (d.flushWhere p).sw.hold = d.sw.hold := by
  have hb : (d.dropCopies p).1.berthsLike ((d.flushedCopies p).foldl flushCopy (d.dropCopies p).1) :=
    (berthsLike.refl _).foldl fun _ _ => berthsLike_flushCopy
  have hwt : ((d.flushedCopies p).foldl flushCopy (d.dropCopies p).1).sw.waitTm = [] := by
    rw [hb.waitTm, sw_dropCopies]
    exact hw
  rw [flushWhere_eq, drainAll_none hwt]
  refine ⟨fun q c hc => ?_, ?_⟩
  · rw [hb.queue] at hc
    exact queue_dropCopies hc
  · rw [hb.hold, sw_dropCopies]

theorem holdFlush_some {t : Nat} (h : d.holdAt port pri = some t) :
    d.holdFlush port pri = (d.setHold port pri none).flushWhere fun c => c.held && holdCovers port (d.holdMask port pri) c := by
  unfold holdFlush
  rw [h]

theorem holdFlush_leaves {t : Nat} (h : d.holdAt port pri = some t) (hw : d.sw.waitTm = []) :
    (d.holdFlush port pri).holdAt port pri = none ∧
      ∀ q c, c ∈ (d.holdFlush port pri).queue q → (c.held && holdCovers port (d.holdMask port pri) c) = false := by
  have hf := flushWhere_leaves (d := d.setHold port pri none) (p := fun c => c.held && holdCovers port (d.holdMask port pri) c) hw
  rw [holdFlush_some h]
  refine ⟨?_, hf.1⟩
  rw [holdAt, hf.2]
  exact SMap.get_set_same d.sw.hold none _ none

theorem berthsLike_evalAll : d.berthsLike d.evalAll := .of_lanes lanesLike_evalAll

end Sys2Proof.Machine.Dev

namespace Sys2Proof.Machine
open Sys2Proof
variable {s : State} {port t : Nat} {pri : Option Nat}

theorem exec_holdExpiry : exec (.holdExpiry port pri) s = s.run fun d =>
    match d.holdAt port pri with
    | some t => d.when (decide (d.fld SWCR.HOLD_CFG_HOLD_MS port * 10000000 ≤ d.clk.up - t)) fun d => (d.holdFlush port pri).evalAll
    | none => d := rfl

theorem gives_holdExpiry (hon : s.Awake) (hh : s.dev.holdAt port pri = some t)
    (ht : s.dev.fld SWCR.HOLD_CFG_HOLD_MS port * 10000000 ≤ s.dev.clk.up - t) (hw : s.dev.sw.waitTm = []) :
    Gives (.holdExpiry port pri) s fun d => d.holdAt port pri = none ∧
      (∀ q c, c ∈ d.queue q → (c.held && holdCovers port (s.dev.holdMask port pri) c) = false) ∧
      s.dev.moves d [.sw] [0x11, 0x40, 0x41, 0x48, 0x50, 0x58, 0x60, 0x70] := by
  refine gives_run exec_holdExpiry hon ?_
  rw [hh]
  dsimp only
  rw [decide_eq_true ht, Dev.when_true]
  have h0 : s.dev.moves (s.dev.holdFlush port pri) [.sw] [0x11, 0x40, 0x41, 0x48, 0x50, 0x58, 0x60, 0x70] := Dev.moves_holdFlush.mono rfl rfl
  have hm := h0.andThen Dev.moves_evalAll
  obtain ⟨h1, h2⟩ := Dev.holdFlush_leaves hh hw
  rw [hm.under_eq]
  refine ⟨by rw [Dev.berthsLike_evalAll.holdAt, h1], fun q c hc => ?_, hm⟩
  rw [Dev.berthsLike_evalAll.queue] at hc
  exact h2 q c hc

theorem idle_holdExpiry (h : s.dev.holdAt port pri = none ∨
    ∃ t, s.dev.holdAt port pri = some t ∧ s.dev.clk.up - t < s.dev.fld SWCR.HOLD_CFG_HOLD_MS port * 10000000) : Idle (.holdExpiry port pri) s := by
  refine idle_runSelf exec_holdExpiry ?_
  rcases h with h | ⟨t, h, ht⟩
  · rw [h]
  · rw [h]
    dsimp only
    rw [decide_eq_false (Nat.not_le.mpr ht), Dev.when_false]

end Sys2Proof.Machine
end

section
set_option Elab.async false
/-! Transmission: a staged copy starts, and its transmission ends (R346, R347, R369). -/

namespace Sys2Proof.Machine.Dev
open Sys2Proof
variable {d e : Dev} {k n q port cause pool unit sent cls start16 : Nat} {f g : Frame} {t : Tx} {x : Option Tx} {w : BadWord} {o : Output}
  {l : List Tx} {closes : Option Nat} {one tc : Bool}

/-! ### What operations give out stays given out -/

theorem mem_pauseOut {y : Bool × Nat × Nat} (h : o ∈ d.out) : o ∈ (d.pauseOut port y).out := by
  obtain ⟨pfc, mask, quanta⟩ := y
  have hx : d.pauseOut port (pfc, mask, quanta) = if quanta = 0 then d.pauseCounted port pfc mask (d.pauseFrame pfc mask quanta) else
      (d.pauseCounted port pfc mask (d.pauseFrame pfc mask quanta)).each 8 fun d p =>
        if bitOf mask p then d.setPri port p { d.pri port p with xoffAt := d.clk.up } else d := rfl
  have hc : o ∈ (d.pauseCounted port pfc mask (d.pauseFrame pfc mask quanta)).out := by
    unfold pauseCounted
    have h0 : (d.emit (.frame port (d.pauseFrame pfc mask quanta) false)).murmurs (((d.emit (.frame port (d.pauseFrame pfc mask quanta) false)).statGood
        port 32 (d.pauseFrame pfc mask quanta).length (d.pauseFrame pfc mask quanta)).perf (islandOfPort port) 0x041) := (murmurs.refl _).statGood.perf
    exact ((h0.each fun h => h.iteSelf fun h => h.stat).ite h0.stat).mem (List.mem_cons_of_mem _ h)
  rw [hx]
  split
  · exact hc
  · exact ((murmurs.refl _).each fun h => h.iteSelf fun h => h.set_sw).mem hc

theorem mem_pausesOut (h : o ∈ d.out) : o ∈ (d.pausesOut port).out := by
  unfold pausesOut
  generalize d.sw.pauses.get [] port = l
  have h0 : o ∈ (d.setPauses port []).out := h
  generalize d.setPauses port [] = e at h0
  induction l generalizing e with
  | nil => exact h0
  | cons a l ih => exact ih _ (mem_pauseOut h0)

theorem murmurs_overrun : d.murmurs (d.overrun port cls closes) := by
  unfold overrun
  exact (murmurs.refl d).ite ((murmurs.refl d).bump.raise.log)

theorem murmurs_queueStamp {tag : Nat} {st : BitVec 64} : d.murmurs (d.queueStamp port tag st) := by
  unfold queueStamp
  have h : d.murmurs { d with time := { d.time with txts := d.time.txts.set [] port (d.time.txts.get [] port ++ [(tag % 65536, st)]) } } :=
    (murmurs.refl d).of_out rfl
  exact h.raise.ite (murmurs.refl d).bump.raise

theorem murmurs_txPtp : d.murmurs (d.txPtp port f start16 one tc) := by
  unfold txPtp
  have h := ((murmurs.refl d).iteSelf (c := one = true) fun h => h.bump (r := PTPS.ONE_STEP_CNT) (c := port) (n := 1)).iteSelf (c := tc = true) fun h =>
    h.bump (r := PTPS.TC_CNT) (c := port) (n := 1)
  dsimp only
  split
  · exact h.iteSelf fun h => h.trans murmurs_queueStamp
  · exact h

theorem out_rehold : (d.rehold k).out = d.out := by
  unfold rehold
  split
  · rfl
  · dsimp only
    split
    · rfl
    · split <;> rfl

theorem mem_finishCopy_more (hf : d.frame k = some f) (hr : 1 < f.refs) (h : o ∈ d.out) : o ∈ (d.finishCopy k cause).out := by
  rw [finishCopy_more hf hr, out_rehold]
  exact h

/-! ### What the steps of an end leave of the switch core -/

theorem lanesLike_pausesOut : d.lanesLike (d.pausesOut port) := lanesLike_setPauses.foldl fun _ _ => lanesLike_pauseOut

theorem moves_overrun : d.moves (d.overrun port cls closes) [] [0x4B] := d.still.ite d.still.bump.raise.log

theorem moves_queueStamp {tag : Nat} {st : BitVec 64} : d.moves (d.queueStamp port tag st) [.time] [0x12] := by
  unfold queueStamp
  exact d.still.set_time.raise.ite d.still.bump.raise

theorem moves_txPtp : d.moves (d.txPtp port f start16 one tc) [.time] [0x12] := by
  unfold txPtp
  have h : d.moves (if tc = true then (if one = true then d.bump PTPS.ONE_STEP_CNT port else d).bump PTPS.TC_CNT port
      else if one = true then d.bump PTPS.ONE_STEP_CNT port else d) [.time] [0x12] := (d.still.iteSelf fun h => h.bump).iteSelf fun h => h.bump
  dsimp only
  split
  · exact h.iteSelf fun h => h.andThen moves_queueStamp
  · exact h

theorem lanesLike_suspect {l : List Nat} : d.lanesLike { d with sw := { d.sw with suspect := l } } := Eq.refl _

theorem lanesLike_unitUe : d.lanesLike (d.unitUe pool unit w) := by
  unfold unitUe
  have h : d.lanesLike (d.sramUe 21 1 unit) := .of_moves moves_sramUe
  exact .ite (.ite h (h.trans lanesLike_suspect)) (.of_moves moves_memUe)

/-! ### A copy starts -/

/-- How much of a copy is staged when it starts. -/
def readyAtStart (d : Dev) (port k : Nat) : Nat := match d.frame k with | some f => d.stagedAtStart port f | none => 0

/-- A staged copy as it starts. -/
def startedTx (d : Dev) (port : Nat) (t : Tx) : Tx :=
  { t with
    started := true
    start16 := d.islandFine (islandOfPort port)
    startUp := d.clk.up
    ready := d.readyAtStart port t.copy.desc }

theorem islandFine_congr {i : Nat} (hc : e.clk = d.clk) (ht : e.time = d.time) : e.islandFine i = d.islandFine i := by
  simp only [islandFine, devNow, masterTenths, nowNs, hc, ht]

/-- A staged copy crosses to its port. -/
def startCrossed (d : Dev) (port : Nat) (t : Tx) : Dev :=
  d.crossed (islandOfPort port) 11 (d.tagOf t.copy.desc) t.copy.desc (port + t.queue * 64)

theorem moves_startCrossed : d.moves (d.startCrossed port t) [] [0x60] := moves_crossed

theorem startedTx_crossed : (d.startCrossed port t).startedTx port t = d.startedTx port t := by
  have hm := moves_startCrossed (d := d) (port := port) (t := t)
  have hcfg : (d.startCrossed port t).fld SWCR.STAGE_CFG_STAGE_NS port = d.fld SWCR.STAGE_CFG_STAGE_NS port := hm.fld _ _ rfl rfl
  have hmode : (d.startCrossed port t).rate port = d.rate port := by
    have h : (d.startCrossed port t).mode port = d.mode port := hm.fld _ _ rfl rfl
    unfold rate
    rw [h]
  unfold startedTx readyAtStart stagedAtStart
  rw [islandFine_congr hm.keeps_clk hm.keeps_time, hm.keeps_clk, frame_congr hm.keeps_sw, hcfg, hmode]

theorem txStart_starts (h : d.nextStart port = some t) :
    d.txStart port none = (d.startCrossed port t).setStaged port (replaceTx ((d.startCrossed port t).stagedOf port) t (some (d.startedTx port t))) := by
  rw [← startedTx_crossed]
  unfold txStart
  rw [h]
  rfl

/-- A staged copy taken off its port. -/
def unstaged (d : Dev) (port : Nat) (t : Tx) : Dev := d.setStaged port (replaceTx (d.stagedOf port) t none)

theorem txStart_late (h : d.nextStart port = some t) : d.txStart port (some .late) = (d.unstaged port t).readErr port t.copy.desc := by
  have hr : d.readError t.copy.desc (some .late) = (d, some 2) := by
    unfold readError readFails
    cases d.frame t.copy.desc <;> rfl
  unfold txStart
  rw [h]
  dsimp only
  rw [hr]
  rfl

theorem stagedOf_setStaged : (d.setStaged port l).stagedOf port = l := SMap.get_set_same d.sw.staged [] port l
theorem stagedOf_unstaged : (d.unstaged port t).stagedOf port = replaceTx (d.stagedOf port) t none := stagedOf_setStaged
theorem frame_unstaged : (d.unstaged port t).frame k = d.frame k := rfl
theorem moves_unstaged : d.moves (d.unstaged port t) [.sw] [] := d.still.set_sw

/-- A read that failed, reported, before its copy ends. -/
def readShown (d : Dev) (port : Nat) : Dev := ((d.disc 13).bump SWCR.READ_ERR port).raise SWCR.int_READ_ERR

theorem readErr_eq : d.readErr port k = (d.readShown port).finishCopy k 1 := rfl
theorem moves_readShown : d.moves (d.readShown port) [] [0x41] := (d.still.andThen moves_disc).bump.raise

theorem frame_readShown : (d.readShown port).frame k = d.frame k := frame_congr moves_readShown.keeps_sw

theorem stagedOf_readErr : (d.readErr port k).stagedOf n = d.stagedOf n := by
  rw [readErr_eq, berthsLike_finishCopy.stagedOf, (berthsLike.of_moves moves_readShown).stagedOf]

theorem readErr_shown : (d.readErr port k).raised SWCR.int_READ_ERR = true ∧
    (d.readErr port k).num SWCR.READ_ERR port = (d.num SWCR.READ_ERR port + 1) % 2 ^ 32 ∧
    (d.readErr port k).num SWCR.STOMPED port = d.num SWCR.STOMPED port := by
  rw [readErr_eq]
  refine ⟨writes_finishCopy.raised (raised_raise_eq _ _ rfl), ?_, ?_⟩
  · rw [writes_finishCopy.num SWCR.READ_ERR port, readShown, num_raise_plain _ _ _ _ rfl, num_bump_eq, disc, num_bump_apart _ _ _ _ _ _ rfl]
  · rw [writes_finishCopy.num SWCR.STOMPED port, readShown, num_raise_plain _ _ _ _ rfl, num_bump_apart _ _ _ _ _ _ rfl, disc,
      num_bump_apart _ _ _ _ _ _ rfl]

/-! ### A transmission ends -/

/-- What follows a transmission: pause frames that waited, a gate run past, and the copy's end. -/
def txOver (d : Dev) (port : Nat) (t : Tx) : Dev := (d.pausesOut port |>.overrun port t.copy.cls t.closes).finishCopy t.copy.desc 0

theorem lanesLike_overPauses : d.lanesLike (d.pausesOut port |>.overrun port cls closes) := lanesLike_pausesOut.trans (.of_moves moves_overrun)

theorem stagedOf_txOver : (d.txOver port t).stagedOf n = d.stagedOf n := by
  rw [txOver, berthsLike_finishCopy.stagedOf, (berthsLike.of_lanes lanesLike_overPauses).stagedOf]

theorem frame_txOver_more (hf : d.frame t.copy.desc = some f) (hr : 1 < f.refs) :
    ∃ g, (d.txOver port t).frame t.copy.desc = some g ∧ g.refs = f.refs - 1 ∧ g.bytes = f.bytes :=
  frame_finishCopy_more (lanesLike_overPauses.frame.trans hf) hr

theorem frame_txOver_last (hf : d.frame t.copy.desc = some f) (hr : f.refs ≤ 1) : (d.txOver port t).frame t.copy.desc = none :=
  frame_finishCopy_last (lanesLike_overPauses.frame.trans hf) hr

theorem mem_txOver (hf : d.frame t.copy.desc = some f) (hr : 1 < f.refs) (h : o ∈ d.out) : o ∈ (d.txOver port t).out :=
  mem_finishCopy_more (lanesLike_overPauses.frame.trans hf) hr (murmurs_overrun.mem (mem_pausesOut h))

theorem moves_txOver : d.moves (d.txOver port t) [.sw] [0x11, 0x40, 0x41, 0x4B, 0x50, 0x58, 0x70] := by
  have h : d.moves (d.pausesOut port |>.overrun port t.copy.cls t.closes) [.sw] [0x11, 0x40, 0x41, 0x4B, 0x50, 0x58, 0x70] :=
    (d.still.andThen moves_pausesOut).andThen moves_overrun
  exact h.andThen moves_finishCopy

/-- A copy sent whole, before its PTP edits are counted. -/
def sentWhole (d : Dev) (port : Nat) (t : Tx) (f : Frame) : Dev :=
  ((d.emit (.frame port (withFcs (d.wireBytes f port t.start16).1) false)).statGood port 32 ((d.wireBytes f port t.start16).1.length + 4)
    (d.wireBytes f port t.start16).1).perf (islandOfPort port) 0x041

theorem txGood_eq : d.txGood port t f =
    (d.sentWhole port t f).txPtp port f t.start16 (d.wireBytes f port t.start16).2.1 (d.wireBytes f port t.start16).2.2 := rfl

theorem moves_sentWhole : d.moves (d.sentWhole port t f) [.sw] [] := by
  unfold sentWhole
  exact (d.still.emit.andThen moves_statGood).perf

theorem moves_txGood : d.moves (d.txGood port t f) [.sw, .time] [0x12] := by
  rw [txGood_eq]
  have h : d.moves (d.sentWhole port t f) [.sw, .time] [0x12] := moves_sentWhole.mono rfl rfl
  exact h.andThen moves_txPtp

theorem lanesLike_txGood : d.lanesLike (d.txGood port t f) := by
  rw [txGood_eq]
  refine lanesLike.trans ?_ (.of_moves moves_txPtp)
  exact (lanesLike_emit.trans lanesLike_statGood).trans lanesLike_perf

theorem mem_txGood : Output.frame port (withFcs (d.wireBytes f port t.start16).1) false ∈ (d.txGood port t f).out := by
  rw [txGood_eq]
  refine murmurs_txPtp.mem ?_
  unfold sentWhole
  exact (murmurs.refl _).statGood.perf.mem List.mem_cons_self

/-- What a staging miss lets through. -/
def stompedBytes (d : Dev) (port : Nat) (t : Tx) (f : Frame) (sent : Nat) : List Byte := (d.wireBytes f port t.start16).1.take (max sent t.ready)

theorem mem_txStomp : Output.frame port (d.stompedBytes port t f sent ++ leBytes 4 (fcsOf (d.stompedBytes port t f sent) ^^^ 0xFFFFFFFF)) true ∈
    (d.txStomp port t f 2 pool unit sent).out := by
  unfold txStomp
  dsimp only
  rw [if_pos rfl, if_pos rfl]
  have h := murmurs.refl (d.emit (.frame port (d.stompedBytes port t f sent ++ leBytes 4 (fcsOf (d.stompedBytes port t f sent) ^^^ 0xFFFFFFFF)) true))
  exact (h.bump.stat.perf.raise.bump.log).mem List.mem_cons_self

theorem lanesLike_txStomp : d.lanesLike (d.txStomp port t f cause pool unit sent) := by
  unfold txStomp
  dsimp only
  generalize hb : (List.take (if cause = 2 then max sent t.ready else sent) (d.wireBytes f port t.start16).1) = bs
  have h : d.lanesLike ((((d.emit (.frame port (bs ++ leBytes 4 (fcsOf bs ^^^ 0xFFFFFFFF)) true)).bump SWCR.STOMPED port).stat port 57).perf
      (islandOfPort port) 0x041) := ((lanesLike_emit.trans lanesLike_bump).trans lanesLike_stat).trans lanesLike_perf
  have h2 := h.trans (.of_sw (raise_sw _ SWCR.int_STOMP))
  exact ((h2.trans lanesLike_bump).ite h2).trans (.of_sw (log_sw _ _ _ _ _ _ _))

theorem wireBytes_unstaged : (d.unstaged port t).wireBytes f n start16 = d.wireBytes f n start16 := rfl

/-- The transmission in progress ends whole. -/
theorem txEnd_whole (h : (d.stagedOf port).find? (·.started) = some t) (hf : d.frame t.copy.desc = some f) :
    d.txEnd port none = ((d.unstaged port t).txGood port t f).txOver port t := by
  unfold txEnd
  rw [h]
  dsimp only
  rw [hf]
  rfl

theorem txEnd_late (h : (d.stagedOf port).find? (·.started) = some t) (hf : d.frame t.copy.desc = some f) (hs : 0 < sent ∨ 0 < t.ready) :
    d.txEnd port (some (.late, pool, unit, sent)) = ((d.unstaged port t).txStomp port t f 2 pool unit sent).txOver port t := by
  have hn : ¬ (sent = 0 ∧ ((2 : Nat) = 1 ∨ t.ready = 0)) := by omega
  have hr : (d.unstaged port t).readFails t.copy.desc (pool % 2) unit .late = (d.unstaged port t, some 2) := by
    unfold readFails
    cases (d.unstaged port t).frame t.copy.desc <;> rfl
  unfold txEnd
  rw [h]
  dsimp only
  rw [hf]
  dsimp only
  rw [show d.setStaged port (replaceTx (d.stagedOf port) t none) = d.unstaged port t from rfl, hr]
  exact if_neg hn

theorem txEnd_bad (h : (d.stagedOf port).find? (·.started) = some t) (hf : d.frame t.copy.desc = some f) (hw : oneSymbol w = false) :
    d.txEnd port (some (.word w, pool, unit, 0)) =
      (((d.unstaged port t).unitUe (pool % 2) unit w).readErr port t.copy.desc).pausesOut port := by
  have hr : (d.unstaged port t).readFails t.copy.desc (pool % 2) unit (.word w) = ((d.unstaged port t).unitUe (pool % 2) unit w, some 1) := by
    unfold readFails
    cases (d.unstaged port t).frame t.copy.desc <;> exact if_neg (by rw [hw]; decide)
  unfold txEnd
  rw [h]
  dsimp only
  rw [hf]
  dsimp only
  rw [show d.setStaged port (replaceTx (d.stagedOf port) t none) = d.unstaged port t from rfl, hr]
  exact if_pos ⟨rfl, .inl rfl⟩

theorem txEnd_none (h : (d.stagedOf port).find? (·.started) = none) {fail : Option (ReadFail × Nat × Nat × Nat)} : d.txEnd port fail = d := by
  unfold txEnd
  rw [h]

end Sys2Proof.Machine.Dev
end

section
set_option Elab.async false
/-! What the starts and the ends of transmissions give (R346, R347). -/

namespace Sys2Proof.Machine
open Sys2Proof
variable {s : State} {port pool unit sent : Nat} {t : Tx} {f : Frame} {w : BadWord} {bs : List Byte} {failed : Option ReadFail}
  {fail : Option (ReadFail × Nat × Nat × Nat)}

theorem gives_txStart {p : Dev → Prop} (hon : s.Awake) (h34 : port < 34) (h32 : port ≠ 32) (hup : s.dev.portUp port = true)
    (h : p (s.dev.under (s.dev.txStart port failed))) : Gives (.copyTransmitStart port failed) s p := by
  refine gives_runWhen (b := fun d => decide (port < 34 ∧ port ≠ 32) && d.portUp port) (f := fun d => d.txStart port failed) rfl hon ?_ h
  rw [decide_eq_true (And.intro h34 h32), hup]
  rfl

theorem gives_txStarted (hon : s.Awake) (h34 : port < 34) (h32 : port ≠ 32) (hup : s.dev.portUp port = true) (ht : s.dev.nextStart port = some t) :
    Gives (.copyTransmitStart port none) s fun d => d.stagedOf port = replaceTx (s.dev.stagedOf port) t (some (s.dev.startedTx port t)) ∧
      s.dev.moves d [.sw] [0x60] := by
  refine gives_txStart hon h34 h32 hup ?_
  have hm : s.dev.moves (s.dev.txStart port none) [.sw] [0x60] := by
    rw [Dev.txStart_starts ht]
    have h0 : s.dev.moves (s.dev.startCrossed port t) [.sw] [0x60] := Dev.moves_startCrossed.mono rfl rfl
    exact h0.set_sw
  have hst : (s.dev.startCrossed port t).stagedOf port = s.dev.stagedOf port := by
    rw [Dev.stagedOf, Dev.moves_startCrossed.keeps_sw, Dev.stagedOf]
  rw [hm.under_eq]
  refine ⟨?_, hm⟩
  rw [Dev.txStart_starts ht, Dev.stagedOf_setStaged, hst]

theorem gives_txLate (hon : s.Awake) (h34 : port < 34) (h32 : port ≠ 32) (hup : s.dev.portUp port = true) (ht : s.dev.nextStart port = some t) :
    Gives (.copyTransmitStart port (some .late)) s fun d => d.stagedOf port = replaceTx (s.dev.stagedOf port) t none ∧
      s.dev.moves d [.sw] [0x11, 0x40, 0x41, 0x50, 0x58, 0x70] := by
  refine gives_txStart hon h34 h32 hup ?_
  have h0 : s.dev.moves (s.dev.unstaged port t) [.sw] [0x11, 0x40, 0x41, 0x50, 0x58, 0x70] := Dev.moves_unstaged.mono rfl rfl
  have hm := h0.andThen (Dev.moves_readErr (port := port) (k := t.copy.desc))
  rw [Dev.txStart_late ht, hm.under_eq]
  exact ⟨by rw [Dev.stagedOf_readErr, Dev.stagedOf_unstaged], hm⟩

theorem idle_txStart (h : 34 ≤ port ∨ port = 32 ∨ s.dev.portUp port = false ∨ s.dev.nextStart port = none) :
    Idle (.copyTransmitStart port failed) s := by
  refine idle_runSelf (f := fun d => d.when (decide (port < 34 ∧ port ≠ 32) && d.portUp port) fun d => d.txStart port failed) rfl ?_
  rcases h with h | h | h | h
  · rw [decide_eq_false fun hp => absurd hp.1 (Nat.not_lt.mpr h), Bool.false_and, Dev.when_false]
  · rw [decide_eq_false fun hp => hp.2 h, Bool.false_and, Dev.when_false]
  · rw [h, Bool.and_false, Dev.when_false]
  · have hq : s.dev.txStart port failed = s.dev := by
      unfold Dev.txStart
      rw [h]
    unfold Dev.when
    dsimp only
    rw [hq, ite_self]

theorem nextStart_mayStart (h : s.dev.nextStart port = some t) : s.dev.mayStart port t = true ∧ t ∈ s.dev.stagedOf port := by
  unfold Dev.nextStart at h
  split at h
  · exact absurd h (by simp)
  · exact ⟨List.find?_some h, List.mem_of_find?_eq_some h⟩

theorem gives_txEnd {p : Dev → Prop} (hon : s.Awake) (h34 : port < 34) (h32 : port ≠ 32)
    (h : p (s.dev.under (s.dev.txEnd port fail))) : Gives (.copyTransmitEnd port fail) s p :=
  gives_runWhen (b := fun _ => decide (port < 34 ∧ port ≠ 32)) (f := fun d => d.txEnd port fail) rfl hon (decide_eq_true (And.intro h34 h32)) h

/-- A whole end moves the switch core and the stamps alone. -/
theorem Dev.moves_txWhole {d : Dev} : d.moves (((d.unstaged port t).txGood port t f).txOver port t) [.sw, .time]
    [0x11, 0x12, 0x40, 0x41, 0x4B, 0x50, 0x58, 0x60, 0x70] := by
  have h0 : d.moves (d.unstaged port t) [.sw, .time] [0x11, 0x12, 0x40, 0x41, 0x4B, 0x50, 0x58, 0x60, 0x70] := Dev.moves_unstaged.mono rfl rfl
  exact (h0.andThen Dev.moves_txGood).andThen Dev.moves_txOver

theorem Dev.stagedOf_lanes {d e : Dev} {n : Nat} (h : d.lanesLike e) : e.stagedOf n = d.stagedOf n := by rw [stagedOf, h.staged, stagedOf]

theorem gives_txEndMore (hon : s.Awake) (h34 : port < 34) (h32 : port ≠ 32) (ht : (s.dev.stagedOf port).find? (·.started) = some t)
    (hf : s.dev.frame t.copy.desc = some f) (hr : 1 < f.refs) :
    Gives (.copyTransmitEnd port none) s fun d => d.stagedOf port = replaceTx (s.dev.stagedOf port) t none ∧
      .frame port (withFcs (s.dev.wireBytes f port t.start16).1) false ∈ d.out ∧
      (∃ g, d.frame t.copy.desc = some g ∧ g.refs = f.refs - 1 ∧ g.bytes = f.bytes) ∧
      s.dev.moves d [.sw, .time] [0x11, 0x12, 0x40, 0x41, 0x4B, 0x50, 0x58, 0x60, 0x70] := by
  refine gives_txEnd hon h34 h32 ?_
  have hf' : ((s.dev.unstaged port t).txGood port t f).frame t.copy.desc = some f := by
    rw [Dev.lanesLike_txGood.frame, Dev.frame_unstaged, hf]
  rw [Dev.txEnd_whole ht hf, Dev.moves_txWhole.under_eq]
  refine ⟨?_, ?_, Dev.frame_txOver_more hf' hr, Dev.moves_txWhole⟩
  · rw [Dev.stagedOf_txOver, Dev.stagedOf_lanes Dev.lanesLike_txGood, Dev.stagedOf_unstaged]
  · rw [← Dev.wireBytes_unstaged (t := t) (port := port)]
    exact Dev.mem_txOver hf' hr Dev.mem_txGood

theorem gives_txEndLast (hon : s.Awake) (h34 : port < 34) (h32 : port ≠ 32) (ht : (s.dev.stagedOf port).find? (·.started) = some t)
    (hf : s.dev.frame t.copy.desc = some f) (hr : f.refs ≤ 1) :
    Gives (.copyTransmitEnd port none) s fun d => d.stagedOf port = replaceTx (s.dev.stagedOf port) t none ∧
      d.frame t.copy.desc = none := by
  refine gives_txEnd hon h34 h32 ?_
  have hf' : ((s.dev.unstaged port t).txGood port t f).frame t.copy.desc = some f := by
    rw [Dev.lanesLike_txGood.frame, Dev.frame_unstaged, hf]
  rw [Dev.txEnd_whole ht hf, Dev.moves_txWhole.under_eq]
  refine ⟨?_, Dev.frame_txOver_last hf' hr⟩
  rw [Dev.stagedOf_txOver, Dev.stagedOf_lanes Dev.lanesLike_txGood, Dev.stagedOf_unstaged]

theorem Dev.moves_txStomp {d : Dev} {cause : Nat} : d.moves (d.txStomp port t f cause pool unit sent) [.sw] [0x41] := by
  unfold txStomp
  dsimp only
  generalize hb : (List.take (if cause = 2 then max sent t.ready else sent) (d.wireBytes f port t.start16).1) = bs
  have h : d.moves ((((d.emit (.frame port (bs ++ leBytes 4 (fcsOf bs ^^^ 0xFFFFFFFF)) true)).bump SWCR.STOMPED port).stat port 57).perf
      (islandOfPort port) 0x041) [.sw] [0x41] := (d.still.emit.bump.andThen Dev.moves_stat).perf
  exact (h.raise.bump.ite h.raise).log

theorem gives_txEndStomped (hon : s.Awake) (h34 : port < 34) (h32 : port ≠ 32) (ht : (s.dev.stagedOf port).find? (·.started) = some t)
    (hf : s.dev.frame t.copy.desc = some f) (hr : 1 < f.refs) (hs : 0 < sent ∨ 0 < t.ready)
    (hb : bs = (s.dev.wireBytes f port t.start16).1.take (max sent t.ready)) :
    Gives (.copyTransmitEnd port (some (.late, pool, unit, sent))) s fun d =>
      d.stagedOf port = replaceTx (s.dev.stagedOf port) t none ∧
      .frame port (bs ++ leBytes 4 (fcsOf bs ^^^ 0xFFFFFFFF)) true ∈ d.out ∧
      (∃ g, d.frame t.copy.desc = some g ∧ g.refs = f.refs - 1 ∧ g.bytes = f.bytes) := by
  refine gives_txEnd hon h34 h32 ?_
  have hm : s.dev.moves (((s.dev.unstaged port t).txStomp port t f 2 pool unit sent).txOver port t) [.sw]
      [0x11, 0x40, 0x41, 0x4B, 0x50, 0x58, 0x70] := by
    have h0 : s.dev.moves (s.dev.unstaged port t) [.sw] [0x11, 0x40, 0x41, 0x4B, 0x50, 0x58, 0x70] := Dev.moves_unstaged.mono rfl rfl
    exact (h0.andThen Dev.moves_txStomp).andThen Dev.moves_txOver
  have hf' : ((s.dev.unstaged port t).txStomp port t f 2 pool unit sent).frame t.copy.desc = some f := by
    rw [Dev.lanesLike_txStomp.frame, Dev.frame_unstaged, hf]
  have hbs : (s.dev.unstaged port t).stompedBytes port t f sent = bs := by rw [Dev.stompedBytes, Dev.wireBytes_unstaged, hb]
  rw [Dev.txEnd_late ht hf hs, hm.under_eq]
  refine ⟨?_, ?_, Dev.frame_txOver_more hf' hr⟩
  · rw [Dev.stagedOf_txOver, Dev.stagedOf_lanes Dev.lanesLike_txStomp, Dev.stagedOf_unstaged]
  · rw [← hbs]
    exact Dev.mem_txOver hf' hr Dev.mem_txStomp

theorem gives_txEndBad (hon : s.Awake) (h34 : port < 34) (h32 : port ≠ 32) (ht : (s.dev.stagedOf port).find? (·.started) = some t)
    (hf : s.dev.frame t.copy.desc = some f) (hw : oneSymbol w = false) :
    Gives (.copyTransmitEnd port (some (.word w, pool, unit, 0))) s fun d =>
      d.stagedOf port = replaceTx (s.dev.stagedOf port) t none ∧ d.raised SWCR.int_READ_ERR = true ∧
      d.num SWCR.READ_ERR port = (s.dev.num SWCR.READ_ERR port + 1) % 2 ^ 32 ∧
      d.num SWCR.STOMPED port = s.dev.num SWCR.STOMPED port ∧ (f.refs ≤ 1 → d.frame t.copy.desc = none) := by
  refine gives_txEnd hon h34 h32 ?_
  generalize hx : (s.dev.unstaged port t).unitUe (pool % 2) unit w = x
  have hlanes : (s.dev.unstaged port t).lanesLike x := by
    rw [← hx]
    exact Dev.lanesLike_unitUe
  have hmx : s.dev.moves x [.sw, .mem] [0x03, 0x50] := by
    rw [← hx]
    have h0 : s.dev.moves (s.dev.unstaged port t) [.sw, .mem] [0x03, 0x50] := Dev.moves_unstaged.mono rfl rfl
    exact h0.andThen Dev.moves_unitUe
  have hm : s.dev.moves ((x.readErr port t.copy.desc).pausesOut port) [.sw, .mem] [0x03, 0x11, 0x40, 0x41, 0x50, 0x58, 0x70] := by
    have h0 : s.dev.moves x [.sw, .mem] [0x03, 0x11, 0x40, 0x41, 0x50, 0x58, 0x70] := hmx.mono rfl rfl
    exact (h0.andThen Dev.moves_readErr).andThen Dev.moves_pausesOut
  obtain ⟨h1, h2, h3⟩ := Dev.readErr_shown (d := x) (port := port) (k := t.copy.desc)
  rw [Dev.txEnd_bad ht hf hw, hx, hm.under_eq]
  refine ⟨?_, Dev.writes_pausesOut.raised h1, ?_, ?_, fun hr => ?_⟩
  · rw [Dev.stagedOf_lanes Dev.lanesLike_pausesOut, Dev.stagedOf_readErr, Dev.stagedOf_lanes hlanes, Dev.stagedOf_unstaged]
  · rw [Dev.writes_pausesOut.num SWCR.READ_ERR port, h2, hmx.num SWCR.READ_ERR port rfl rfl]
  · rw [Dev.writes_pausesOut.num SWCR.STOMPED port, h3, hmx.num SWCR.STOMPED port rfl rfl]
  · have hfx : (x.readShown port).frame t.copy.desc = some f := by rw [Dev.frame_readShown, hlanes.frame, Dev.frame_unstaged, hf]
    rw [Dev.lanesLike_pausesOut.frame, Dev.readErr_eq, Dev.frame_finishCopy_last hfx hr]

theorem idle_txEnd (h : 34 ≤ port ∨ port = 32 ∨ (s.dev.stagedOf port).find? (·.started) = none) : Idle (.copyTransmitEnd port fail) s := by
  refine idle_runSelf (f := fun d => d.when (decide (port < 34 ∧ port ≠ 32)) fun d => d.txEnd port fail) rfl ?_
  rcases h with h | h | h
  · rw [decide_eq_false fun hp => absurd hp.1 (Nat.not_lt.mpr h), Dev.when_false]
  · rw [decide_eq_false fun hp => hp.2 h, Dev.when_false]
  · unfold Dev.when
    dsimp only
    rw [Dev.txEnd_none h, ite_self]

end Sys2Proof.Machine
open Sys2Proof Sys2Proof.Machine

/-- Settles O43: the audit through the scan of a unit, a hold through its flush, and transmission through the copy's start and end. -/
theorem auditHoldsAndEgress : Obligations.AuditHoldsAndEgress := by
  unfold Obligations.AuditHoldsAndEgress
  exact ⟨fun s c hc he hs => gives_auditBegin hc he hs,
    fun s ho h => idle_auditStart ho h,
    fun s _ h => idle_auditPeriod h,
    fun s ho hs => gives_auditAbort ho hs,
    fun s k ho hs hwf hb _ hm ha => gives_auditAbortUnit ho hs hwf hb hm ha,
    fun s bad hon he hs hwf hb => gives_auditDone hon he hs hwf hb,
    fun s bad _ h => idle_auditDone h,
    fun s port t pri hon hh ht hw => gives_holdExpiry hon hh ht hw,
    fun s port pri _ h => idle_holdExpiry (.inl h),
    fun s port t pri _ h ht => idle_holdExpiry (.inr ⟨t, h, ht⟩),
    fun s port t hon h34 h32 hup ht => gives_txStarted hon h34 h32 hup ht,
    fun s port t hon h34 h32 hup ht => gives_txLate hon h34 h32 hup ht,
    fun s port failed _ h => idle_txStart h,
    fun s port t h => nextStart_mayStart h,
    fun s port t f hon h34 h32 ht hf hr => gives_txEndMore hon h34 h32 ht hf hr,
    fun s port pool unit sent t f bs hon h34 h32 ht hf hr hs hb => gives_txEndStomped hon h34 h32 ht hf hr hs hb,
    fun s port t f hon h34 h32 ht hf hr => gives_txEndLast hon h34 h32 ht hf hr,
    fun s port pool unit t f w hon h34 h32 ht hf hw => gives_txEndBad hon h34 h32 ht hf hw,
    fun s port fail _ h => idle_txEnd h⟩
end

section
set_option Elab.async false
/-! Write-backs of the mergers (R222, R399). -/

namespace Sys2Proof.Machine.Dev
open Sys2Proof
variable {d e : Dev} {k n s x y v halves slot region : Nat} {l : List Nat} {o : OpenSlot}

/-! ### What a merger holds -/

/-- What a merger holds of a slot. -/
def openAt (d : Dev) (x : Nat) : Option OpenSlot := d.flow.opened.get none x

/-- The halves of an entry that wait to be written, written. -/
def halvesWritten (o : OpenSlot) : OpenSlot := { o with lo := false, hi := false }

/-- What memory holds of a slot once the halves that wait are written. -/
def storedValue (d : Dev) (region x : Nat) : Nat :=
  match d.openAt x with
  | some o => if o.lo || o.hi then o.value else d.memSlot region x
  | none => d.memSlot region x

theorem memSlot_setMemSlot_same : (d.setMemSlot region x v).memSlot region x = v := SMap.get_set_same d.flow.mem 0 _ v
theorem memSlot_setMemSlot_ne (h : y ≠ x) : (d.setMemSlot region x v).memSlot region y = d.memSlot region y :=
  SMap.get_set_ne d.flow.mem 0 0 v (by omega)

theorem openAt_congr (h : e.flow.opened = d.flow.opened) : e.openAt x = d.openAt x := by rw [openAt, h, openAt]
theorem memSlot_congr (h : e.flow.mem = d.flow.mem) : e.memSlot region x = d.memSlot region x := by rw [memSlot, h, memSlot]

/-! ### The write of one slot -/

theorem writeHalves_eq : d.writeHalves x = match d.openAt x with
    | some o => if o.lo || o.hi then
        (d.slotStore x o.value (bit o.lo + bit o.hi)).setFlow { (d.slotStore x o.value (bit o.lo + bit o.hi)).flow with
          opened := (d.slotStore x o.value (bit o.lo + bit o.hi)).flow.opened.set none x (some (halvesWritten o)) } else d
    | none => d := rfl

theorem flow_slotStore : (d.slotStore x v halves).flow = { d.flow with mem := d.flow.mem.set 0 (d.flow.region * 2 ^ 27 + x) v } := by
  have h : (d.slotBursts d.flow.region x halves).flow = d.flow := moves_slotBursts.keeps_flow
  unfold slotStore setMemSlot setFlow
  rw [h]

theorem moves_slotStore : d.moves (d.slotStore x v halves) [.draws, .flow, .mem] [0x50] := by
  unfold slotStore
  have h : d.moves (d.slotBursts d.flow.region x halves) [.draws, .flow, .mem] [0x50] := moves_slotBursts.mono rfl rfl
  exact h.set_flow

theorem moves_writeHalves : d.moves (d.writeHalves x) [.draws, .flow, .mem] [0x50] := by
  rw [writeHalves_eq]
  split
  · exact (moves_slotStore.set_flow).ite d.still
  · exact d.still

theorem region_writeHalves : (d.writeHalves x).flow.region = d.flow.region := by
  have h : ∀ v n, (d.slotStore x v n).flow.region = d.flow.region := fun v n => by rw [flow_slotStore]
  rw [writeHalves_eq]
  split
  · next o _ =>
    split
    · exact h o.value (bit o.lo + bit o.hi)
    · rfl
  · rfl

theorem openAt_setOpened_same : (e.setFlow { e.flow with opened := e.flow.opened.set none x (some o) }).openAt x = some o :=
  SMap.get_set_same e.flow.opened none x (some o)
theorem openAt_setOpened_ne (h : y ≠ x) : (e.setFlow { e.flow with opened := e.flow.opened.set none x (some o) }).openAt y = e.openAt y :=
  SMap.get_set_ne e.flow.opened none none (some o) h

theorem openAt_writeHalves_same (h : d.openAt x = some o) : (d.writeHalves x).openAt x = some (halvesWritten o) := by
  rw [writeHalves_eq, h]
  dsimp only
  split
  · exact openAt_setOpened_same
  · next hn =>
    obtain ⟨hlo, hhi⟩ : o.lo = false ∧ o.hi = false := by simpa using hn
    rw [h, halvesWritten]
    congr 1
    obtain ⟨value, lo, hi, since, half⟩ := o
    dsimp only at hlo hhi
    rw [hlo, hhi]

theorem openAt_writeHalves_none (h : d.openAt x = none) : d.writeHalves x = d := by
  rw [writeHalves_eq, h]

theorem openAt_writeHalves_ne (h : y ≠ x) : (d.writeHalves x).openAt y = d.openAt y := by
  rw [writeHalves_eq]
  split
  · next o _ =>
    split
    · rw [openAt_setOpened_ne h]
      exact openAt_congr (by rw [flow_slotStore])
    · rfl
  · rfl

theorem memSlot_writeHalves_same : (d.writeHalves x).memSlot d.flow.region x = d.storedValue d.flow.region x := by
  unfold storedValue
  rw [writeHalves_eq]
  split
  · next o ho =>
    split
    · have h1 : ((d.slotStore x o.value (bit o.lo + bit o.hi)).setFlow { (d.slotStore x o.value (bit o.lo + bit o.hi)).flow with
          opened := (d.slotStore x o.value (bit o.lo + bit o.hi)).flow.opened.set none x (some (halvesWritten o)) }).memSlot d.flow.region x =
          (d.slotStore x o.value (bit o.lo + bit o.hi)).memSlot d.flow.region x := rfl
      rw [h1, memSlot, flow_slotStore]
      exact SMap.get_set_same d.flow.mem 0 _ _
    · rfl
  · rfl

theorem memSlot_writeHalves_ne (h : y ≠ x) : (d.writeHalves x).memSlot d.flow.region y = d.memSlot d.flow.region y := by
  rw [writeHalves_eq]
  split
  · next o ho =>
    split
    · have h1 : ((d.slotStore x o.value (bit o.lo + bit o.hi)).setFlow { (d.slotStore x o.value (bit o.lo + bit o.hi)).flow with
          opened := (d.slotStore x o.value (bit o.lo + bit o.hi)).flow.opened.set none x (some (halvesWritten o)) }).memSlot d.flow.region y =
          (d.slotStore x o.value (bit o.lo + bit o.hi)).memSlot d.flow.region y := rfl
      rw [h1, memSlot, flow_slotStore]
      exact SMap.get_set_ne d.flow.mem 0 0 _ (by omega)
    · rfl
  · rfl

/-! ### The write of an entry -/

/-- An entry whose halves are written. -/
def entryWritten (d : Dev) (l : List Nat) : Dev := l.foldl writeHalves d

theorem moves_entryWritten : d.moves (d.entryWritten l) [.draws, .flow, .mem] [0x50] := d.still.foldl fun h => h.andThen moves_writeHalves
theorem region_entryWritten : (d.entryWritten l).flow.region = d.flow.region := foldl_keeps (rd := fun d => d.flow.region) fun _ _ _ => region_writeHalves

theorem entryWritten_out (h : y ∉ l) : (d.entryWritten l).openAt y = d.openAt y ∧
    (d.entryWritten l).memSlot d.flow.region y = d.memSlot d.flow.region y := by
  induction l generalizing d with
  | nil => exact ⟨rfl, rfl⟩
  | cons a l ih =>
    have hya := List.ne_of_not_mem_cons h
    have hyl := List.not_mem_of_not_mem_cons h
    have hi := ih (d := d.writeHalves a) hyl
    rw [region_writeHalves, openAt_writeHalves_ne hya, memSlot_writeHalves_ne hya] at hi
    exact hi

theorem entryWritten_in (hn : l.Nodup) (h : x ∈ l) : (d.entryWritten l).openAt x = (d.openAt x).map halvesWritten ∧
    (d.entryWritten l).memSlot d.flow.region x = d.storedValue d.flow.region x := by
  induction l generalizing d with
  | nil => exact absurd h List.not_mem_nil
  | cons a l ih =>
    obtain ⟨ha, hn⟩ := List.nodup_cons.mp hn
    by_cases hxa : x = a
    · subst hxa
      have ho := entryWritten_out (d := d.writeHalves x) ha
      rw [region_writeHalves, memSlot_writeHalves_same] at ho
      refine ⟨ho.1.trans ?_, ho.2⟩
      cases hx : d.openAt x with
      | none => rw [openAt_writeHalves_none hx, hx, Option.map_none]
      | some o => rw [openAt_writeHalves_same hx, Option.map_some]
    · have hi := ih (d := d.writeHalves a) hn ((List.mem_cons.mp h).resolve_left hxa)
      have hs : (d.writeHalves a).storedValue d.flow.region x = d.storedValue d.flow.region x := by
        unfold storedValue
        rw [openAt_writeHalves_ne hxa, memSlot_writeHalves_ne hxa]
      rw [region_writeHalves, openAt_writeHalves_ne hxa, hs] at hi
      exact hi

/-! ### The slots of an entry -/

theorem isHalf_eq : d.isHalf x = match d.openAt x with | some o => o.half | none => false := rfl

theorem isHalf_entryWritten (hn : l.Nodup) : (d.entryWritten l).isHalf x = d.isHalf x := by
  have h : (d.entryWritten l).openAt x = d.openAt x ∨ (d.entryWritten l).openAt x = (d.openAt x).map halvesWritten := by
    by_cases hx : x ∈ l
    · exact .inr (entryWritten_in hn hx).1
    · exact .inl (entryWritten_out hx).1
  rw [isHalf_eq, isHalf_eq]
  rcases h with h | h
  · rw [h]
  · rw [h]
    cases d.openAt x <;> rfl

theorem entrySlots_entryWritten (hn : l.Nodup) : (d.entryWritten l).entrySlots slot = d.entrySlots slot := by
  unfold entrySlots
  dsimp only
  rw [isHalf_entryWritten hn, isHalf_entryWritten hn]

theorem entrySlots_nodup : (d.entrySlots slot).Nodup := by
  unfold entrySlots
  extract_lets b
  split
  · exact List.nodup_cons.mpr ⟨by simp, List.nodup_singleton _⟩
  · exact List.nodup_singleton _

theorem slotInUse_congr (he : e.eng = d.eng) (hm : e.altMask = d.altMask) : e.slotInUse x = d.slotInUse x := by
  unfold slotInUse mateOf
  rw [he, hm]

theorem slotInUse_entryWritten : (d.entryWritten l).slotInUse x = d.slotInUse x :=
  slotInUse_congr moves_entryWritten.keeps_eng (by
    unfold altMask
    rw [moves_entryWritten.fld FLOW.SLOT_CFG_SIZE 0 rfl rfl])

theorem unwritten_eq : d.unwritten x = match d.openAt x with | some o => o.lo || o.hi | none => false := rfl

theorem unwritten_entryWritten (hn : l.Nodup) (hx : x ∈ l) : (d.entryWritten l).unwritten x = false := by
  rw [unwritten_eq, (entryWritten_in hn hx).1]
  cases d.openAt x <;> rfl

/-! ### The end of a write-back -/

theorem writeBack_writes (ho : (d.flow.opened.get none slot).isSome = true)
    (h : (d.entrySlots slot).any (fun x => d.slotInUse x) = false ∨ (d.entrySlots slot).any d.writeDue = true) :
    d.writeBack slot = (d.entryWritten (d.entrySlots slot)).closeSlot slot := by
  unfold writeBack
  refine if_neg ?_
  rw [Bool.or_eq_true, Bool.and_eq_true]
  rintro (h1 | ⟨h1, h2⟩)
  · rw [Option.isNone_iff_eq_none] at h1
    rw [h1] at ho
    exact absurd ho (by decide)
  · rcases h with h | h
    · rw [h] at h1
      exact absurd h1 (by decide)
    · rw [h] at h2
      exact absurd h2 (by decide)

theorem writeBack_none (h : d.flow.opened.get none slot = none ∨
    (d.entrySlots slot).any (fun x => d.slotInUse x) = true ∧ (d.entrySlots slot).any d.writeDue = false) : d.writeBack slot = d := by
  unfold writeBack
  refine if_pos ?_
  rcases h with h | ⟨h1, h2⟩
  · rw [h]
    rfl
  · rw [h1, h2, Bool.not_false, Bool.and_true, Bool.or_true]

theorem closeSlot_used {y : Nat} (hy : y ∈ d.entrySlots slot) (hu : d.slotInUse y = true) : d.closeSlot slot = d := by
  unfold closeSlot
  refine if_pos (List.any_eq_true.mpr ⟨y, hy, ?_⟩)
  rw [hu, Bool.true_or]

/-- The entries of a list closed. -/
def slotsShut (d : Dev) (l : List Nat) : Dev := d.setFlow { d.flow with opened := l.foldl (fun m x => m.set none x none) d.flow.opened }

theorem closeSlot_free (hu : ∀ y ∈ d.entrySlots slot, d.slotInUse y = false) (hw : ∀ y ∈ d.entrySlots slot, d.unwritten y = false) :
    d.closeSlot slot = (d.slotsShut (d.entrySlots slot)).resyncAsk := by
  unfold closeSlot
  refine if_neg ?_
  rw [List.any_eq_true]
  rintro ⟨y, hy, h⟩
  rw [hu y hy, hw y hy] at h
  exact absurd h (by decide)

theorem flow_closeSlot_free (hu : ∀ y ∈ d.entrySlots slot, d.slotInUse y = false) (hw : ∀ y ∈ d.entrySlots slot, d.unwritten y = false) :
    (d.closeSlot slot).flow = (d.slotsShut (d.entrySlots slot)).flow := by
  rw [closeSlot_free hu hw]
  exact moves_resyncAsk.keeps_flow

theorem get_shut {m : SMap (Option OpenSlot)} : (l.foldl (fun m x => m.set none x none) m).get none y = if y ∈ l then none else m.get none y := by
  induction l generalizing m with
  | nil => rfl
  | cons a l ih =>
    rw [List.foldl_cons, ih]
    by_cases hy : y ∈ l
    · rw [if_pos hy, if_pos (List.mem_cons_of_mem _ hy)]
    · by_cases hya : y = a
      · subst hya
        rw [if_neg hy, if_pos List.mem_cons_self, SMap.get_set_same]
      · rw [if_neg hy, if_neg (by simp [hya, hy]), SMap.get_set_ne _ _ _ _ hya]

theorem openAt_slotsShut : (d.slotsShut l).openAt y = if y ∈ l then none else d.openAt y := get_shut
theorem memSlot_slotsShut : (d.slotsShut l).memSlot region y = d.memSlot region y := rfl

end Sys2Proof.Machine.Dev

namespace Sys2Proof.Machine
open Sys2Proof
variable {s : State} {slot : Nat}

theorem gives_writeBack {p : Dev → Prop} (hon : s.Awake) (hs : slot < 2 ^ 27) (h : p (s.dev.under (s.dev.writeBack slot))) :
    Gives (.mergerWriteBack slot) s p := by
  refine gives_run (f := fun d => d.writeBack (slot % 2 ^ 27)) rfl hon ?_
  rw [Nat.mod_eq_of_lt hs]
  exact h

theorem any_slotInUse_false (hu : ∀ x ∈ s.dev.entrySlots slot, s.dev.slotInUse x = false) :
    (s.dev.entrySlots slot).any (fun x => s.dev.slotInUse x) = false := by
  rw [List.any_eq_false]
  intro x hx
  rw [hu x hx]
  decide

theorem gives_writeBackCloses (hon : s.Awake) (hs : slot < 2 ^ 27) (ho : (s.dev.flow.opened.get none slot).isSome = true)
    (hu : ∀ x ∈ s.dev.entrySlots slot, s.dev.slotInUse x = false) :
    Gives (.mergerWriteBack slot) s fun d => (∀ x ∈ s.dev.entrySlots slot, d.flow.opened.get none x = none ∧
        ∀ o, s.dev.flow.opened.get none x = some o → d.memSlot s.dev.flow.region x =
          if o.lo || o.hi then o.value else s.dev.memSlot s.dev.flow.region x) ∧
      (∀ x, x ∉ s.dev.entrySlots slot → d.flow.opened.get none x = s.dev.flow.opened.get none x ∧
        (x < 2 ^ 27 → d.memSlot s.dev.flow.region x = s.dev.memSlot s.dev.flow.region x)) ∧
      s.dev.moves d [.draws, .flow, .mem, .tandem] [0x50] := by
  refine gives_writeBack hon hs ?_
  have hn := Dev.entrySlots_nodup (d := s.dev) (slot := slot)
  rw [Dev.writeBack_writes ho (.inl (any_slotInUse_false hu))]
  generalize hl : s.dev.entrySlots slot = l at hn hu ⊢
  have hsl : (s.dev.entryWritten l).entrySlots slot = l := by rw [Dev.entrySlots_entryWritten hn, hl]
  have hm : s.dev.moves ((s.dev.entryWritten l).closeSlot slot) [.draws, .flow, .mem, .tandem] [0x50] := by
    have h0 : s.dev.moves (s.dev.entryWritten l) [.draws, .flow, .mem, .tandem] [0x50] := Dev.moves_entryWritten.mono rfl rfl
    exact h0.andThen Dev.moves_closeSlot
  have hflow : ((s.dev.entryWritten l).closeSlot slot).flow = ((s.dev.entryWritten l).slotsShut l).flow := by
    rw [Dev.flow_closeSlot_free, hsl]
    · intro y hy
      rw [hsl] at hy
      rw [Dev.slotInUse_entryWritten, hu y hy]
    · intro y hy
      rw [hsl] at hy
      exact Dev.unwritten_entryWritten hn hy
  have hopen : ∀ y, ((s.dev.entryWritten l).closeSlot slot).flow.opened.get none y = if y ∈ l then none else (s.dev.entryWritten l).openAt y := fun y => by
    rw [hflow]
    exact Dev.openAt_slotsShut
  have hmem : ∀ y, ((s.dev.entryWritten l).closeSlot slot).memSlot s.dev.flow.region y = (s.dev.entryWritten l).memSlot s.dev.flow.region y := fun y =>
    (Dev.memSlot_congr (congrArg FlowSt.mem hflow)).trans Dev.memSlot_slotsShut
  rw [hm.under_eq]
  refine ⟨fun x hx => ⟨by rw [hopen, if_pos hx], fun o hxo => ?_⟩, fun x hx => ⟨?_, fun _ => ?_⟩, hm⟩
  · rw [hmem, (Dev.entryWritten_in hn hx).2, Dev.storedValue, Dev.openAt, hxo]
  · rw [hopen, if_neg hx, (Dev.entryWritten_out hx).1, Dev.openAt]
  · rw [hmem, (Dev.entryWritten_out hx).2]

theorem gives_writeBackKeeps (hon : s.Awake) (hs : slot < 2 ^ 27) (ho : (s.dev.flow.opened.get none slot).isSome = true)
    (hu : ∃ x ∈ s.dev.entrySlots slot, s.dev.slotInUse x = true) (hd : ∃ x ∈ s.dev.entrySlots slot, s.dev.writeDue x = true) :
    Gives (.mergerWriteBack slot) s fun d => (∀ x ∈ s.dev.entrySlots slot, ∀ o, s.dev.flow.opened.get none x = some o →
        d.flow.opened.get none x = some { o with lo := false, hi := false } ∧ d.memSlot s.dev.flow.region x =
          if o.lo || o.hi then o.value else s.dev.memSlot s.dev.flow.region x) ∧
      (∀ x, x ∉ s.dev.entrySlots slot → d.flow.opened.get none x = s.dev.flow.opened.get none x ∧
        (x < 2 ^ 27 → d.memSlot s.dev.flow.region x = s.dev.memSlot s.dev.flow.region x)) ∧
      s.dev.moves d [.draws, .flow, .mem] [0x50] := by
  refine gives_writeBack hon hs ?_
  have hn := Dev.entrySlots_nodup (d := s.dev) (slot := slot)
  obtain ⟨y, hy, huy⟩ := hu
  rw [Dev.writeBack_writes ho (.inr (List.any_eq_true.mpr hd)),
    Dev.closeSlot_used (y := y) (by rw [Dev.entrySlots_entryWritten hn]; exact hy) (by rw [Dev.slotInUse_entryWritten, huy]), Dev.moves_entryWritten.under_eq]
  refine ⟨fun x hx o hxo => ⟨?_, ?_⟩, fun x hx => ⟨(Dev.entryWritten_out hx).1, fun _ => (Dev.entryWritten_out hx).2⟩, Dev.moves_entryWritten⟩
  · refine (Dev.entryWritten_in hn hx).1.trans ?_
    rw [Dev.openAt, hxo]
    rfl
  · rw [(Dev.entryWritten_in hn hx).2, Dev.storedValue, Dev.openAt, hxo]

theorem idle_writeBack (hs : slot < 2 ^ 27) (h : s.dev.flow.opened.get none slot = none ∨
    (∃ x ∈ s.dev.entrySlots slot, s.dev.slotInUse x = true) ∧ ∀ x ∈ s.dev.entrySlots slot, s.dev.writeDue x = false) :
    Idle (.mergerWriteBack slot) s := by
  refine idle_runSelf (f := fun d => d.writeBack (slot % 2 ^ 27)) rfl ?_
  rw [Nat.mod_eq_of_lt hs]
  refine Dev.writeBack_none (h.imp_right fun ⟨hu, hd⟩ => ⟨List.any_eq_true.mpr hu, ?_⟩)
  rw [List.any_eq_false]
  intro x hx
  rw [hd x hx]
  decide

end Sys2Proof.Machine
end

section
set_option Elab.async false
/-! Requests to the flow table (R212, R218, R222, R231, R244, R262). -/

namespace Sys2Proof.Machine.Dev
open Sys2Proof
variable {d e : Dev} {k n h c : Nat} {f : Frame} {q : Conn} {o : OpenSlot} {b : ReqBlock} {ue : Option BadWord × Option BadWord} {v : View}

/-! ### Arrival -/

/-- A frame whose request has reached its home merger. -/
def homed (f : Frame) (h : Nat) : Frame := { f with ctx := { f.ctx with home := h, asked := true } }

/-- A request on its way to its home merger. -/
def reqCrossed (d : Dev) (k : Nat) (f : Frame) (h : Nat) : Dev :=
  if f.ctx.asked then d else (d.reqDone k).crossed (islandOfChannel (d.slotPlace h).1) 4 f.tag k h

theorem reqArrives_eq : d.reqArrives k f h = (d.reqCrossed k f h).updFrame k fun g => homed g h := rfl

theorem moves_reqDone : d.moves (d.reqDone k) [.flow] [] := d.still.set_flow

theorem moves_reqCrossed : d.moves (d.reqCrossed k f h) [.flow] [0x60] := by
  unfold reqCrossed
  have h1 : d.moves (d.reqDone k) [.flow] [0x60] := d.still.set_flow
  exact d.still.ite (h1.andThen moves_crossed)

theorem flow_reqDone : (d.reqDone k).flow = { d.flow with arrivals := d.flow.arrivals.filter (· ≠ k) } := rfl

theorem flow_reqCrossed : (d.reqCrossed k f h).flow = d.flow ∨
    (d.reqCrossed k f h).flow = { d.flow with arrivals := d.flow.arrivals.filter (· ≠ k) } := by
  unfold reqCrossed
  split
  · exact .inl rfl
  · exact .inr ((moves_crossed (d := d.reqDone k)).keeps_flow.trans flow_reqDone)

theorem moves_reqArrives : d.moves (d.reqArrives k f h) [.sw, .flow] [0x60] := by
  have h1 : d.moves (d.reqCrossed k f h) [.sw, .flow] [0x60] := moves_reqCrossed.mono rfl rfl
  exact h1.andThen moves_updFrame

theorem flow_reqArrives : (d.reqArrives k f h).flow = (d.reqCrossed k f h).flow := moves_updFrame.keeps_flow

theorem frame_reqArrives (hf : d.frame k = some f) : (d.reqArrives k f h).frame k = some (homed f h) :=
  frame_updFrame_same ((frame_congr moves_reqCrossed.keeps_sw).trans hf)

theorem flow_arrived : ((d.reqArrives k f h).reqDone k).flow = { d.flow with arrivals := d.flow.arrivals.filter (· ≠ k) } := by
  rw [flow_reqDone, flow_reqArrives]
  rcases flow_reqCrossed (d := d) (k := k) (f := f) (h := h) with hc | hc
  · rw [hc]
  · rw [hc]
    dsimp only
    rw [List.filter_filter]
    simp only [Bool.and_self]

theorem frame_reqDone : (d.reqDone k).frame n = d.frame n := rfl

theorem frondRuns_of_moves {P : List Part} {G : List Nat} (hm : d.moves e P G) (hg : G.contains 0x31 = false) :
    e.frondRuns c = d.frondRuns c := by
  unfold frondRuns
  rw [enabled_of_moves hm rfl hg, hm.num FENG.RUN 0 rfl hg]

theorem reserved_congr (he : e.eng = d.eng) : e.reserved n = d.reserved n := by
  unfold reserved
  rw [he]

/-! ### A request that no task answers -/

/-- A request whose connection another task holds. -/
def reqParked (d : Dev) (k : Nat) : Dev := (d.setFlow { d.flow with waiting := d.flow.waiting ++ [k] }).flowCnt 19

theorem moves_reqParked : d.moves (d.reqParked k) [.flow] [0x30] := d.still.set_flow.bump (r := FLOW.CNT.ix 19)
theorem flow_reqParked : (d.reqParked k).flow = { d.flow with waiting := d.flow.waiting ++ [k] } := bump_flow _ _ _ _

/-- A request that its merger takes up. -/
def reqServed (d : Dev) (k : Nat) : Dev := (d.reqDone k).setFlow { (d.reqDone k).flow with served := (d.reqDone k).flow.served + 1 }

theorem moves_reqServed : d.moves (d.reqServed k) [.flow] [] := moves_reqDone.set_flow
theorem flow_reqServed : (d.reqServed k).flow = { d.flow with arrivals := d.flow.arrivals.filter (· ≠ k), served := d.flow.served + 1 } := rfl

/-- The answer to a request that finds its record. -/
def hitTask (d : Dev) (k s dir h : Nat) (f : Frame) (q : Conn) : Dev :=
  if !d.frondRuns (frondOf s) then (d.closePair q.v6 h).flowDone k
  else d.packetTask (frondOf s) 16 k f { home := h, slot := s, record := d.recordAt false s, hit := true, wide := q.v6, dir := dir, served := d.flow.served }

/-- The view of a request that finds no record. -/
def missView (d : Dev) (h : Nat) (q : Conn) : View :=
  { home := h, slot := h, record := 0, hit := false, wide := q.v6, dir := 0, served := d.flow.served, resv := some q.pairKey }

/-- The answer to a request that finds no record. -/
def missTask (d : Dev) (k h : Nat) (f : Frame) (q : Conn) : Dev :=
  if !d.entryOk f.gen (if q.v6 then 1 else 0) then (d.closePair q.v6 h).flowDone k
  else d.packetTask (frondOf h) (if q.v6 then 1 else 0) k f (d.missView h q)

/-- The answer to a request that its merger takes up. -/
def reqAnswer (d : Dev) (k h : Nat) (f : Frame) (q : Conn) (ue : Option BadWord × Option BadWord) : Dev :=
  match d.lookup q h ue with
  | (d, some (s, dir)) => d.hitTask k s dir h f q
  | (d, none) => d.missTask k h f q

theorem flowServe_eq (hf : d.frame k = some f) : d.flowServe k ue =
    (let e := d.reqArrives k f (d.homeFor f)
     if !e.frondRuns (frondOf (d.homeFor f)) then (e.reqDone k).flowDone k
     else if e.reserved (d.flowConn f).pairKey then ((e.reqDone k).reqParked k).updFrame k fun f => { f with stage := .flow }
     else match e.reqBlock k (homed f (d.homeFor f)) ue with
     | some b => e.reqWait k b
     | none => (e.reqServed k).reqAnswer k (d.homeFor f) (homed f (d.homeFor f)) (d.flowConn f) ue) := by
  unfold flowServe
  rw [hf]
  rfl

theorem flowServe_stopped (hf : d.frame k = some f) (hr : d.frondRuns (frondOf (d.homeFor f)) = false) :
    d.flowServe k ue = ((d.reqArrives k f (d.homeFor f)).reqDone k).flowDone k := by
  rw [flowServe_eq hf]
  dsimp only
  rw [frondRuns_of_moves moves_reqArrives rfl, hr]
  exact if_pos rfl

theorem flowServe_reserved (hf : d.frame k = some f) (hr : d.frondRuns (frondOf (d.homeFor f)) = true)
    (hv : d.reserved (d.flowConn f).pairKey = true) :
    d.flowServe k ue = (((d.reqArrives k f (d.homeFor f)).reqDone k).reqParked k).updFrame k fun f => { f with stage := .flow } := by
  rw [flowServe_eq hf]
  dsimp only
  rw [frondRuns_of_moves moves_reqArrives rfl, hr, reserved_congr moves_reqArrives.keeps_eng, hv]
  rfl

theorem flowServe_taken (hf : d.frame k = some f) (hr : d.frondRuns (frondOf (d.homeFor f)) = true)
    (hv : d.reserved (d.flowConn f).pairKey = false) : d.flowServe k ue =
    match (d.reqArrives k f (d.homeFor f)).reqBlock k (homed f (d.homeFor f)) ue with
    | some b => (d.reqArrives k f (d.homeFor f)).reqWait k b
    | none => ((d.reqArrives k f (d.homeFor f)).reqServed k).reqAnswer k (d.homeFor f) (homed f (d.homeFor f)) (d.flowConn f) ue := by
  rw [flowServe_eq hf]
  dsimp only
  rw [frondRuns_of_moves moves_reqArrives rfl, hr, reserved_congr moves_reqArrives.keeps_eng, hv]
  rfl

/-! ### A request that waits at its merger -/

/-- A request in its place among those that wait. -/
def reqQueued (d : Dev) (k : Nat) : Dev :=
  d.setFlow { d.flow with arrivals := if d.flow.arrivals.contains k then d.flow.arrivals else d.flow.arrivals ++ [k] }

theorem mem_reqQueued : k ∈ (d.reqQueued k).flow.arrivals := by
  show k ∈ if d.flow.arrivals.contains k then d.flow.arrivals else d.flow.arrivals ++ [k]
  split
  · next hk => exact List.contains_iff_mem.mp hk
  · exact List.mem_append_right _ List.mem_cons_self

theorem moves_reqWait : d.moves (d.reqWait k b) [.sw, .flow] [] := by
  have h1 : d.moves ((d.reqQueued k).updFrame k fun f => { f with stage := .request }) [.sw, .flow] [] :=
    (d.still.set_flow).andThen moves_updFrame
  cases b with
  | order => exact h1
  | room => exact (h1.andThen moves_counts).raise
  | ring => exact h1
  | store c => exact h1.andThen moves_counts

theorem frame_counts : (d.counts n).frame k = d.frame k := by
  unfold counts
  split <;> rfl

theorem flow_reqWait : (d.reqWait k b).flow = (d.reqQueued k).flow := by
  have h1 : ((d.reqQueued k).updFrame k fun f => { f with stage := .request }).flow = (d.reqQueued k).flow := moves_updFrame.keeps_flow
  cases b with
  | order => exact h1
  | room => exact (raise_flow _ _).trans (moves_counts.keeps_flow.trans h1)
  | ring => exact h1
  | store c => exact moves_counts.keeps_flow.trans h1

theorem frame_reqWait (hf : d.frame k = some f) : (d.reqWait k b).frame k = some { f with stage := .request } := by
  have h1 : ((d.reqQueued k).updFrame k fun f => { f with stage := .request }).frame k = some { f with stage := .request } :=
    frame_updFrame_same hf
  cases b with
  | order => exact h1
  | room => exact (frame_congr (raise_sw _ _)).trans (frame_counts.trans h1)
  | ring => exact h1
  | store c => exact frame_counts.trans h1

theorem raised_reqWait : (d.reqWait k .room).raised FLOW.int_MERGE_FULL = true := raised_raise_eq _ _ rfl

/-! ### A request that finds no record -/

/-- The home slot of a request read where its merger holds it. -/
def mergedRead (d : Dev) (h : Nat) : Dev := ((d.flowCnt 0).flowCnt 5).perf (islandOfChannel ((d.flowCnt 0).slotPlace h).1) 0x1C2

theorem moves_mergedRead : d.moves (d.mergedRead h) [] [0x30] :=
  ((d.still.bump (r := FLOW.CNT.ix 0)).bump (r := FLOW.CNT.ix 5)).perf

theorem readAll_merged (ho : d.flow.opened.get none h = some o) : (d.flowCnt 0).readAll false h none = (d.mergedRead h, true, false) := by
  have ho' : (d.flowCnt 0).flow.opened.get none h = some o := ho
  unfold readAll openAll openSlot
  rw [ho']
  rfl

theorem lookup_missed (ho : d.flow.opened.get none h = some o) (hs : slotSpill o.value = false) (hv : q.v6 = false)
    (hm : matchDir (d.recordAt false h) q = none) : d.lookup q h (none, none) = ((d.mergedRead h).flowCnt 3, none) := by
  have hf : (d.mergedRead h).flow = d.flow := moves_mergedRead.keeps_flow
  have hr : (d.mergedRead h).recordAt false h = d.recordAt false h := by
    unfold recordAt
    rw [slotAt_congr hf, slotAt_congr hf]
  have hx : slotSpill ((d.mergedRead h).slotAt false h) = false := by
    rw [slotAt_congr hf, slotAt, if_neg Bool.false_ne_true, ho]
    exact hs
  unfold lookup
  rw [hv, readAll_merged ho]
  dsimp only
  rw [hr, hm]
  dsimp only
  rw [hx]
  rfl

theorem entryOk_of_moves {P : List Part} {G : List Nat} (hm : d.moves e P G) (hp : P.contains .prev = false) (hc : P.contains .cgen = false)
    (hw : P.contains .commit = false) (hg : G.contains 0x31 = false) : e.entryOk n 0 = d.entryOk n 0 := by
  unfold entryOk
  rw [numAt_congr (hm.keeps_prev hp) (hm.keeps_cgen hc) (hm.keeps_commit hw) (hm.num (FENG.ENTRY.ix 0) 0 rfl hg)]

/-- The task of a request. -/
def reqTask (d : Dev) (kind k : Nat) (f : Frame) (v : View) : Task :=
  { kind := kind, prio := d.kindPrio kind, epoch := f.epoch, cgen := f.gen, desc := some k, view := v, tag := f.tag }

/-- The task of a request in its store, and what is observed of it. -/
def taskPlaced (d : Dev) (c kind k : Nat) (f : Frame) (v : View) : Dev :=
  let x := (d.taskCnt c 0).placeTask c (d.reqTask kind k f v)
  let id := match x.1.task c x.2 with | some t => t.id x.2 | none => noId
  let island := islandOfChannel (x.1.slotPlace v.slot).1
  (x.1.crossed island 5 f.tag k v.home).opSample island 1 0 id 0 v.home

/-- A frame whose task is made. -/
def tasked (f g : Frame) (v : View) (n : Nat) : Frame :=
  { g with stage := .flow, ctx := { f.ctx with home := v.home, dir := v.dir, wide := v.wide, task := some n } }

theorem packetTask_eq {kind : Nat} : d.packetTask c kind k f v = (d.taskPlaced c kind k f v).updFrame k fun g =>
    tasked f g v (c * 4096 + ((d.taskCnt c 0).placeTask c (d.reqTask kind k f v)).2) := rfl

theorem moves_taskPlaced {kind : Nat} : d.moves (d.taskPlaced c kind k f v) [.eng, .draws, .frees] [0x32, 0x60] := by
  have h0 : d.moves (d.taskCnt c 0) [.eng, .draws, .frees] [0x32, 0x60] := d.still.bump (r := TASK.CNT.ix 0)
  have h1 := h0.andThen (moves_placeTask (c := c) (t := d.reqTask kind k f v))
  unfold taskPlaced
  exact (h1.andThen moves_crossed).andThen moves_opSample

theorem moves_packetTask {kind : Nat} : d.moves (d.packetTask c kind k f v) [.sw, .eng, .draws, .frees] [0x32, 0x60] := by
  rw [packetTask_eq]
  have h : d.moves (d.taskPlaced c kind k f v) [.sw, .eng, .draws, .frees] [0x32, 0x60] := moves_taskPlaced.mono rfl rfl
  exact h.andThen moves_updFrame

theorem frame_packetTask {kind : Nat} {g : Frame} (hf : d.frame k = some g) : ∃ n, (d.packetTask c kind k f v).frame k = some (tasked f g v n) := by
  rw [packetTask_eq]
  exact ⟨_, frame_updFrame_same ((frame_congr moves_taskPlaced.keeps_sw).trans hf)⟩

theorem reqAnswer_missed (ho : d.flow.opened.get none h = some o) (hs : slotSpill o.value = false) (hv : q.v6 = false)
    (hm : matchDir (d.recordAt false h) q = none) (he : d.entryOk f.gen 0 = true) :
    d.reqAnswer k h f q (none, none) = ((d.mergedRead h).flowCnt 3).packetTask (frondOf h) 0 k f (((d.mergedRead h).flowCnt 3).missView h q) := by
  have hx : d.moves ((d.mergedRead h).flowCnt 3) [] [0x30] := moves_mergedRead.bump (r := FLOW.CNT.ix 3)
  unfold reqAnswer
  rw [lookup_missed ho hs hv hm]
  dsimp only
  unfold missTask
  rw [hv, if_neg Bool.false_ne_true, entryOk_of_moves hx rfl rfl rfl rfl, he]
  rfl

theorem reqAnswer_leaves {g : Frame} (ho : d.flow.opened.get none h = some o) (hs : slotSpill o.value = false) (hv : q.v6 = false)
    (hm : matchDir (d.recordAt false h) q = none) (he : d.entryOk f.gen 0 = true) (hf : d.frame k = some g) :
    (∃ g, (d.reqAnswer k h f q (none, none)).frame k = some g ∧ g.stage = .flow ∧ g.ctx.home = h ∧ g.ctx.task.isSome = true) ∧
      (d.reqAnswer k h f q (none, none)).flow = d.flow ∧ d.moves (d.reqAnswer k h f q (none, none)) [.sw, .eng, .draws, .frees] [0x30, 0x32, 0x60] := by
  have hx : d.moves ((d.mergedRead h).flowCnt 3) [] [0x30] := moves_mergedRead.bump (r := FLOW.CNT.ix 3)
  rw [reqAnswer_missed ho hs hv hm he]
  have hf' : ((d.mergedRead h).flowCnt 3).frame k = some g := (frame_congr hx.keeps_sw).trans hf
  obtain ⟨n, hn⟩ := frame_packetTask (c := frondOf h) (kind := 0) (f := f) (v := ((d.mergedRead h).flowCnt 3).missView h q) hf'
  have hy : d.moves ((d.mergedRead h).flowCnt 3) [.sw, .eng, .draws, .frees] [0x30, 0x32, 0x60] := hx.mono rfl rfl
  have hz := hy.andThen (moves_packetTask (c := frondOf h) (kind := 0) (k := k) (f := f) (v := ((d.mergedRead h).flowCnt 3).missView h q))
  exact ⟨⟨_, hn, rfl, rfl, rfl⟩, hz.keeps_flow, hz⟩

theorem recordAt_congr (hm : e.flow.mem = d.flow.mem) (ho : e.flow.opened = d.flow.opened) (hr : e.flow.region = d.flow.region) :
    e.recordAt false h = d.recordAt false h := by
  unfold recordAt slotAt memSlot
  rw [hm, ho, hr]

end Sys2Proof.Machine.Dev

namespace Sys2Proof.Machine
open Sys2Proof
variable {s : State} {desc h : Nat} {home alt : Option BadWord} {f : Frame} {b : ReqBlock} {o : OpenSlot} {p : Dev → Prop}

theorem gives_flowRequest (hon : s.Awake) (hf : s.dev.frame desc = some f) (hs : f.stage = .request)
    (hp : p (s.dev.under (s.dev.flowServe desc (home, alt)))) : Gives (.flowRequest desc home alt) s p := by
  refine gives_run (f := fun d => match d.frame desc with
    | some f => if f.stage = .request then d.flowServe desc (home, alt) else d
    | none => d) rfl hon ?_
  rw [hf]
  dsimp only
  rw [if_pos hs]
  exact hp

theorem gives_flowStopped (hon : s.Awake) (hf : s.dev.frame desc = some f) (hs : f.stage = .request)
    (hr : s.dev.frondRuns (frondOf (s.dev.homeFor f)) = false) :
    Gives (.flowRequest desc home alt) s fun d => (∃ g, d.frame desc = some g ∧ g.stage = .edit ∧ g.bytes = f.bytes ∧
      g.ctx.home = s.dev.homeFor f) ∧ d.flow = { s.dev.flow with arrivals := s.dev.flow.arrivals.filter (· ≠ desc) } ∧
      s.dev.moves d [.sw, .flow] [0x60] := by
  refine gives_flowRequest hon hf hs ?_
  rw [Dev.flowServe_stopped hf hr]
  have hm : s.dev.moves (((s.dev.reqArrives desc f (s.dev.homeFor f)).reqDone desc).flowDone desc) [.sw, .flow] [0x60] :=
    (Dev.moves_reqArrives.set_flow).andThen Dev.moves_updFrame
  rw [hm.under_eq]
  refine ⟨⟨_, Dev.frame_updFrame_same (Dev.frame_reqDone.trans (Dev.frame_reqArrives hf)), rfl, rfl, rfl⟩, ?_, hm⟩
  exact Dev.moves_updFrame.keeps_flow.trans Dev.flow_arrived

theorem gives_flowReserved (hon : s.Awake) (hf : s.dev.frame desc = some f) (hs : f.stage = .request)
    (hr : s.dev.frondRuns (frondOf (s.dev.homeFor f)) = true) (hv : s.dev.reserved (s.dev.flowConn f).pairKey = true) :
    Gives (.flowRequest desc home alt) s fun d => d.flow = { s.dev.flow with
        arrivals := s.dev.flow.arrivals.filter (· ≠ desc), waiting := s.dev.flow.waiting ++ [desc] } ∧
      (∃ g, d.frame desc = some g ∧ g.stage = .flow ∧ g.bytes = f.bytes) ∧ s.dev.moves d [.sw, .flow] [0x30, 0x60] := by
  refine gives_flowRequest hon hf hs ?_
  rw [Dev.flowServe_reserved hf hr hv]
  have h1 : s.dev.moves (s.dev.reqArrives desc f (s.dev.homeFor f)) [.sw, .flow] [0x30, 0x60] := Dev.moves_reqArrives.mono rfl rfl
  have hm := ((h1.andThen (Dev.moves_reqDone (k := desc))).andThen (Dev.moves_reqParked (k := desc))).andThen
    (Dev.moves_updFrame (k := desc) (g := fun f => { f with stage := .flow }))
  rw [hm.under_eq]
  refine ⟨?_, ⟨_, Dev.frame_updFrame_same ((Dev.frame_congr Dev.moves_reqParked.keeps_sw).trans
    (Dev.frame_reqDone.trans (Dev.frame_reqArrives hf))), rfl, rfl⟩, hm⟩
  rw [Dev.moves_updFrame.keeps_flow, Dev.flow_reqParked, Dev.flow_arrived]

theorem gives_flowBlocked (hon : s.Awake) (hf : s.dev.frame desc = some f) (hs : f.stage = .request) (hh : h = s.dev.homeFor f)
    (hr : s.dev.frondRuns (frondOf h) = true) (hv : s.dev.reserved (s.dev.flowConn f).pairKey = false)
    (hb : (s.dev.reqArrives desc f h).reqBlock desc (Dev.homed f h) (home, alt) = some b) :
    Gives (.flowRequest desc home alt) s fun d => desc ∈ d.flow.arrivals ∧ d.flow.served = s.dev.flow.served ∧
      d.flow.opened = s.dev.flow.opened ∧ (∃ g, d.frame desc = some g ∧ g.stage = .request ∧ g.bytes = f.bytes) ∧
      (b = .room → d.raised FLOW.int_MERGE_FULL = true) ∧ s.dev.moves d [.sw, .flow] [0x60] := by
  subst hh
  refine gives_flowRequest hon hf hs ?_
  rw [Dev.flowServe_taken hf hr hv, hb]
  dsimp only
  have hm := (Dev.moves_reqArrives (d := s.dev) (k := desc) (f := f) (h := s.dev.homeFor f)).andThen (Dev.moves_reqWait (k := desc) (b := b))
  rw [hm.under_eq]
  have hfl : (s.dev.reqArrives desc f (s.dev.homeFor f)).flow.served = s.dev.flow.served ∧
      (s.dev.reqArrives desc f (s.dev.homeFor f)).flow.opened = s.dev.flow.opened := by
    rw [Dev.flow_reqArrives]
    rcases Dev.flow_reqCrossed (d := s.dev) (k := desc) (f := f) (h := s.dev.homeFor f) with hc | hc <;> exact ⟨by rw [hc], by rw [hc]⟩
  refine ⟨?_, ?_, ?_, ⟨_, Dev.frame_reqWait (Dev.frame_reqArrives hf), rfl, rfl⟩, ?_, hm⟩
  · rw [Dev.flow_reqWait]
    exact Dev.mem_reqQueued
  · rw [Dev.flow_reqWait]
    exact hfl.1
  · rw [Dev.flow_reqWait]
    exact hfl.2
  · rintro rfl
    exact Dev.raised_reqWait

theorem gives_flowMissed (hon : s.Awake) (hf : s.dev.frame desc = some f) (hs : f.stage = .request) (hh : h = s.dev.homeFor f)
    (hr : s.dev.frondRuns (frondOf h) = true) (hv : s.dev.reserved (s.dev.flowConn f).pairKey = false)
    (ho : s.dev.flow.opened.get none h = some o) (hx : slotSpill o.value = false) (h6 : (s.dev.flowConn f).v6 = false)
    (hm : matchDir (s.dev.recordAt false h) (s.dev.flowConn f) = none) (he : s.dev.entryOk f.gen 0 = true)
    (hb : (s.dev.reqArrives desc f h).reqBlock desc (Dev.homed f h) (none, none) = none) :
    Gives (.flowRequest desc none none) s fun d => (∃ g, d.frame desc = some g ∧ g.stage = .flow ∧ g.ctx.home = h ∧
      g.ctx.task.isSome = true) ∧ d.flow.served = s.dev.flow.served + 1 := by
  subst hh
  refine gives_flowRequest hon hf hs ?_
  rw [Dev.flowServe_taken hf hr hv, hb]
  dsimp only
  have hma : s.dev.moves ((s.dev.reqArrives desc f (s.dev.homeFor f)).reqServed desc) [.sw, .flow] [0x60] :=
    Dev.moves_reqArrives.andThen Dev.moves_reqServed
  have hfl : ((s.dev.reqArrives desc f (s.dev.homeFor f)).reqServed desc).flow =
      { ((s.dev.reqArrives desc f (s.dev.homeFor f)).reqDone desc).flow with served := ((s.dev.reqArrives desc f (s.dev.homeFor f)).reqDone desc).flow.served + 1 } := rfl
  rw [Dev.flow_arrived] at hfl
  have hfr : ((s.dev.reqArrives desc f (s.dev.homeFor f)).reqServed desc).frame desc = some (Dev.homed f (s.dev.homeFor f)) := Dev.frame_reqArrives hf
  generalize (s.dev.reqArrives desc f (s.dev.homeFor f)).reqServed desc = e at hma hfl hfr ⊢
  have hrec : e.recordAt false (s.dev.homeFor f) = s.dev.recordAt false (s.dev.homeFor f) :=
    Dev.recordAt_congr (by rw [hfl]) (by rw [hfl]) (by rw [hfl])
  obtain ⟨hg, hflow, hmv⟩ := Dev.reqAnswer_leaves (d := e) (k := desc) (h := s.dev.homeFor f) (f := Dev.homed f (s.dev.homeFor f)) (q := s.dev.flowConn f)
    (by rw [hfl]; exact ho) hx h6 (by rw [hrec]; exact hm) ((Dev.entryOk_of_moves hma rfl rfl rfl rfl).trans he) hfr
  have hall : s.dev.moves e [.sw, .flow, .eng, .draws, .frees] [0x30, 0x32, 0x60] := hma.mono rfl rfl
  rw [(hall.andThen hmv).under_eq]
  refine ⟨hg, ?_⟩
  rw [hflow, hfl]

end Sys2Proof.Machine

section
open Sys2Proof Sys2Proof.Machine

/-- Settles O26. A request goes to its merger and then takes one of four ways: past a frond that does not run, behind a reservation, behind
what its merger waits for, or to its task. A write-back stores the halves that wait, and closes the entry unless a task still uses it. -/
theorem flowRequests : Obligations.FlowRequests := by
  refine ⟨?_, ?_, ?_, ?_, ?_, ?_, ?_, ?_, ?_⟩
  · intro s desc home alt f hon hf hs hr
    exact gives_flowStopped hon hf hs hr
  · intro s desc home alt f hon hf hs hr hv
    exact gives_flowReserved hon hf hs hr hv
  · intro s desc h home alt f b hon hf hs hh hr hv hb
    exact gives_flowBlocked hon hf hs hh hr hv hb
  · intro s desc h o f hon hf hs hh hr hv ho hx h6 hm he hb
    exact gives_flowMissed hon hf hs hh hr hv ho hx h6 hm he hb
  · intro s desc home alt _ hf
    refine idle_runSelf (f := fun d => match d.frame desc with
      | some f => if f.stage = .request then d.flowServe desc (home, alt) else d
      | none => d) rfl ?_
    rw [hf]
  · intro s slot hon hs ho hu
    exact gives_writeBackCloses hon hs ho hu
  · intro s slot hon hs ho hu hd
    exact gives_writeBackKeeps hon hs ho hu hd
  · intro s slot _ hs hu hd
    exact idle_writeBack hs (.inr ⟨hu, hd⟩)
  · intro s slot _ hs ho
    exact idle_writeBack hs (.inl ho)

end
end

section
set_option Elab.async false
/-! Pause received, refreshed and expired, and the storm watchdog (R138 to R140). -/

namespace Sys2Proof.Machine.Dev
open Sys2Proof
variable {d e : Dev} {port pri p q v n mask quanta : Nat} {x : Pri}

/-! ### Bits of a priority -/

theorem bitOf_pri_clear (v : Nat) (h : pri < 8) : bitOf ((v &&& (0xFF ^^^ 1 <<< pri)) % 2 ^ 8) pri = false := by
  have hx : (0xFF ^^^ 1 <<< pri).testBit pri = false := by
    interval_cases pri <;> decide
  rw [bitOf_testBit, Nat.testBit_mod_two_pow, Nat.testBit_and, hx, Bool.and_false, Bool.and_false]

theorem bitOf_pri_set (v : Nat) (h : pri < 8) : bitOf ((v ||| 1 <<< pri) % 2 ^ 8) pri = true := by
  rw [bitOf_testBit, Nat.testBit_mod_two_pow, Nat.testBit_or, Nat.one_shiftLeft, Nat.testBit_two_pow_self, Bool.or_true, Bool.and_true]
  exact decide_eq_true h

theorem or_all (v : Nat) : (v ||| 0xFF) % 2 ^ 8 = 0xFF := by
  refine Nat.eq_of_testBit_eq fun i => ?_
  rw [Nat.testBit_mod_two_pow, Nat.testBit_or, show 0xFF = 2 ^ 8 - 1 by decide, Nat.testBit_two_pow_sub_one]
  cases decide (i < 8)
  · rfl
  · rw [Bool.or_true, Bool.true_and]

theorem and_none : v &&& (0xFF ^^^ 0xFF) = 0 := Nat.and_zero v

/-! ### XOFF of a line port -/

theorem setXoffRx_line (h : port < 32) : d.setXoffRx port v = d.setFld PORT.PORT_STAT_XOFF_RX v port := if_neg (by omega)
theorem xoffRx_line (h : port < 32) : d.xoffRx port = d.fld PORT.PORT_STAT_XOFF_RX port := by
  unfold xoffRx
  rw [if_neg (by omega), if_pos h]
theorem setXoffTx_line (h : port < 32) : d.setXoffTx port v = d.setFld PORT.PORT_STAT_XOFF_TX v port := if_neg (by omega)
theorem xoffTx_line (h : port < 32) : d.xoffTx port = d.fld PORT.PORT_STAT_XOFF_TX port := if_neg (by omega)
theorem portState_line (h : port < 32) : d.portState port = d.fld PORT.PORT_STAT_STATE port := by
  unfold portState
  rw [if_neg (by omega), if_neg (by omega)]
theorem fcMode_line (h : port < 32) : d.fcMode port = d.fld PORT.MAC_CFG_FC_MODE port := by
  unfold fcMode
  rw [if_neg (by omega), if_pos h]

theorem xoffRx_lt (h : port < 32) : d.xoffRx port < 2 ^ 8 := by
  rw [xoffRx_line h]
  exact fld_lt d PORT.PORT_STAT_XOFF_RX port

theorem moves_setXoffRx_line (h : port < 32) : d.moves (d.setXoffRx port v) [] [0x11] := by
  rw [setXoffRx_line h]
  exact d.still.setFld
theorem moves_setXoffTx_line (h : port < 32) : d.moves (d.setXoffTx port v) [] [0x11] := by
  rw [setXoffTx_line h]
  exact d.still.setFld

theorem xoffRx_setXoffRx (h : port < 32) : (d.setXoffRx port v).xoffRx port = v % 2 ^ 8 := by
  rw [xoffRx_line h, setXoffRx_line h, fld_setFld_eq _ _ _ _ rfl]
  rfl

theorem xoffRx_pruneDeficits : (d.pruneDeficits n).xoffRx port = d.xoffRx port := rfl
theorem pri_pruneDeficits : (d.pruneDeficits n).pri port p = d.pri port p := rfl
theorem pri_setXoffRx : (d.setXoffRx port v).pri q p = d.pri q p := by
  unfold setXoffRx
  split <;> rfl
theorem pri_setPri_same : (d.setPri port p x).pri port p = x := SMap.get_set_same d.sw.pri {} _ x
theorem xoffRx_setPri : (d.setPri q p x).xoffRx port = d.xoffRx port := rfl
theorem clk_setPri : (d.setPri q p x).clk = d.clk := rfl

/-! ### A received pause -/

theorem unpause_eq : d.unpause port p = (d.setPri port p { d.pri port p with pauseEnd := 0 }).setXoffRx port
    (d.xoffRx port &&& (0xFF ^^^ d.classMask port p)) := rfl

theorem moves_unpause_line (h : port < 32) : d.moves (d.unpause port p) [.sw] [0x11] := by
  rw [unpause_eq]
  have h0 : d.moves (d.setPri port p { d.pri port p with pauseEnd := 0 }) [.sw] [0x11] := d.still.set_sw
  exact h0.andThen (moves_setXoffRx_line h)

theorem pauseEnd_unpause : ((d.unpause port p).pri port p).pauseEnd = 0 := by
  rw [unpause_eq, pri_setXoffRx, pri_setPri_same]

theorem xoffRx_unpause (h : port < 32) : (d.unpause port p).xoffRx port = (d.xoffRx port &&& (0xFF ^^^ d.classMask port p)) % 2 ^ 8 := by
  rw [unpause_eq, xoffRx_setXoffRx h]

/-- The record of a priority for which a pause of some time arrives. -/
def pausedPri (d : Dev) (port p quanta : Nat) : Pri :=
  { d.pri port p with
    pauseLast := d.clk.up
    pauseEnd := d.clk.up + quanta * 5120 / max 1 (d.rate port)
    pauseFrom := if d.clk.up < (d.pri port p).pauseEnd then (d.pri port p).pauseFrom else d.clk.up }

theorem rxPause_zero : d.rxPause port p 0 = (d.setPri port p (d.pri port p)).unpause port p := by
  unfold rxPause
  exact if_pos rfl

theorem rxPause_more (hq : quanta ≠ 0) (hs : bitOf (d.fld PORT.PORT_STAT_STORM port) p = false) : d.rxPause port p quanta =
    (((d.setPri port p { d.pri port p with pauseLast := d.clk.up }).setPri port p (d.pausedPri port p quanta)).setXoffRx port
      (d.xoffRx port ||| d.classMask port p)).pruneDeficits port := by
  have hx : ∀ y : Pri, (d.setPri port p y).fld PORT.PORT_STAT_STORM port = d.fld PORT.PORT_STAT_STORM port := fun _ => rfl
  unfold rxPause
  dsimp only
  rw [if_neg hq, if_neg hq, hx, hs, Bool.and_false, Bool.false_and, if_neg Bool.false_ne_true]
  rfl

theorem moves_rxPaused (h : port < 32) (hq : quanta ≠ 0) (hs : bitOf (d.fld PORT.PORT_STAT_STORM port) p = false) :
    d.moves (d.rxPause port p quanta) [.sw] [0x11] := by
  rw [rxPause_more hq hs]
  have h0 : d.moves ((d.setPri port p { d.pri port p with pauseLast := d.clk.up }).setPri port p (d.pausedPri port p quanta)) [.sw] [0x11] :=
    d.still.set_sw.set_sw
  exact (h0.andThen (moves_setXoffRx_line h)).andThen moves_pruneDeficits

theorem rxPaused_leaves (h : port < 32) (hq : quanta ≠ 0) (hs : bitOf (d.fld PORT.PORT_STAT_STORM port) p = false) :
    (d.rxPause port p quanta).xoffRx port = (d.xoffRx port ||| d.classMask port p) % 2 ^ 8 ∧
      ((d.rxPause port p quanta).pri port p).pauseEnd = d.clk.up + quanta * 5120 / max 1 (d.rate port) := by
  rw [rxPause_more hq hs, xoffRx_pruneDeficits, xoffRx_setXoffRx h, pri_pruneDeficits, pri_setXoffRx, pri_setPri_same]
  exact ⟨rfl, rfl⟩

theorem moves_rxReleased (h : port < 32) : d.moves (d.rxPause port p 0) [.sw] [0x11] := by
  rw [rxPause_zero]
  have h0 : d.moves (d.setPri port p (d.pri port p)) [.sw] [0x11] := d.still.set_sw
  exact h0.andThen (moves_unpause_line h)

theorem rxReleased_leaves (h : port < 32) : (d.rxPause port p 0).xoffRx port = (d.xoffRx port &&& (0xFF ^^^ d.classMask port p)) % 2 ^ 8 ∧
    ((d.rxPause port p 0).pri port p).pauseEnd = 0 := by
  rw [rxPause_zero, xoffRx_unpause h, pauseEnd_unpause]
  exact ⟨rfl, rfl⟩

/-! ### A storm -/

theorem classMask_all (h : d.fcMode port = 1) : d.classMask port p = 0xFF := if_pos h
theorem classMask_one (h : d.fcMode port = 2) : d.classMask port p = 1 <<< p := if_neg (by rw [h]; decide)

/-- The marks of a storm that begins. -/
def stormMarked (d : Dev) (port p : Nat) : Dev :=
  (((d.setFld PORT.PORT_STAT_STORM (d.fld PORT.PORT_STAT_STORM port ||| 1 <<< p) port).raise PORT.int_STORM).bump PORT.STORMS port).log
    (islandOfPort port) 0x1103 port p

theorem moves_stormMarked : d.moves (d.stormMarked port p) [] [0x11] := d.still.setFld.raise.bump.log

theorem fld_stormMarked {y : Fld} (hy : y.reg.plain = true) (ha : y.reg.apart PORT.STORMS = true) :
    (d.stormMarked port p).fld y port = (d.setFld PORT.PORT_STAT_STORM (d.fld PORT.PORT_STAT_STORM port ||| 1 <<< p) port).fld y port := by
  unfold stormMarked
  rw [fld_log_plain _ _ _ _ _ _ _ _ _ hy]
  unfold fld
  rw [num_bump_apart _ _ _ _ _ _ ha, num_raise_plain _ _ _ _ hy]

theorem stormBegin_eq : d.stormBegin port p = if (d.stormMarked port p).on PORT.STORM_CFG_ACTION port then
      ((((d.stormMarked port p).setPort port { (d.stormMarked port p).port port with
        stormDown := ((d.stormMarked port p).port port).stormDown ||| 1 <<< p }).holdBegin port (some p)).pruneDeficits port)
    else (d.stormMarked port p).setXoffRx port ((d.stormMarked port p).xoffRx port &&& (0xFF ^^^ (d.stormMarked port p).classMask port p)) := rfl

theorem stormBegin_line (ha : d.on PORT.STORM_CFG_ACTION port = false) : d.stormBegin port p = (d.stormMarked port p).setXoffRx port
    ((d.stormMarked port p).xoffRx port &&& (0xFF ^^^ (d.stormMarked port p).classMask port p)) := by
  have h : (d.stormMarked port p).on PORT.STORM_CFG_ACTION port = false := by
    rw [on, fld_stormMarked rfl rfl, fld_setFld_apart _ _ _ _ _ _ rfl]
    exact ha
  rw [stormBegin_eq, h]
  rfl

theorem stormBegin_leaves (h : port < 32) (hp : p < 8) (ha : d.on PORT.STORM_CFG_ACTION port = false) :
    bitOf ((d.stormBegin port p).fld PORT.PORT_STAT_STORM port) p = true ∧
      (d.stormBegin port p).num PORT.STORMS port = (d.num PORT.STORMS port + 1) % 2 ^ 32 ∧ (d.stormBegin port p).raised PORT.int_STORM = true ∧
      (d.fcMode port = 2 → bitOf ((d.stormBegin port p).xoffRx port) p = false) ∧ d.moves (d.stormBegin port p) [] [0x11] := by
  rw [stormBegin_line ha]
  refine ⟨?_, ?_, ?_, fun hm => ?_, moves_stormMarked.andThen (moves_setXoffRx_line h)⟩
  · rw [setXoffRx_line h, fld_setFld_beside _ _ _ _ _ rfl, fld_stormMarked rfl rfl, fld_setFld_eq _ _ _ _ rfl]
    exact bitOf_pri_set _ hp
  · rw [setXoffRx_line h, setFld, num_setNum_apart _ _ _ _ _ _ rfl, stormMarked, num_log_plain _ _ _ _ _ _ _ _ _ rfl, num_bump_eq,
      num_raise_plain _ _ _ _ rfl, setFld, num_setNum_apart _ _ _ _ _ _ rfl]
  · rw [setXoffRx_line h, raised_setFld_plain _ _ _ _ _ rfl, stormMarked, raised_log_plain _ _ _ _ _ _ _ _ rfl, raised_bump_plain _ _ _ _ _ rfl]
    exact raised_raise_eq _ _ rfl
  · have hc : (d.stormMarked port p).fcMode port = 2 := by
      rw [fcMode_line h, fld_stormMarked rfl rfl, fld_setFld_apart _ _ _ _ _ _ rfl, ← fcMode_line h]
      exact hm
    rw [xoffRx_setXoffRx h, classMask_one hc]
    exact bitOf_pri_clear _ hp

/-! ### The end of a storm -/

/-- The mark of a storm taken away. -/
def stormUnmarked (d : Dev) (port p : Nat) : Dev :=
  d.setFld PORT.PORT_STAT_STORM (d.fld PORT.PORT_STAT_STORM port &&& (0xFF ^^^ 1 <<< p)) port

/-- A storm over, before its log entry. -/
def stormPast (d : Dev) (port p : Nat) : Dev :=
  (d.stormUnmarked port p).setPort port { (d.stormUnmarked port p).port port with
    stormDown := ((d.stormUnmarked port p).port port).stormDown &&& (0xFF ^^^ 1 <<< p) }

theorem stormClear_stormy (hs : bitOf (d.fld PORT.PORT_STAT_STORM port) p = true) :
    d.stormClear port p = (d.stormPast port p).log (islandOfPort port) 0x1104 port p := if_pos hs

theorem moves_stormPast : d.moves (d.stormPast port p) [.sw] [0x11] := d.still.setFld.set_sw

theorem port_setPort_same {y : PortSt} : (d.setPort port y).port port = y := SMap.get_set_same d.sw.ports {} port y
theorem port_congr (h : e.sw = d.sw) : e.port port = d.port port := by rw [Dev.port, h, Dev.port]

theorem bitOf_down_clear (v : Nat) (h : p < 8) : bitOf (v &&& (0xFF ^^^ 1 <<< p)) p = false := by
  have hx : (0xFF ^^^ 1 <<< p).testBit p = false := by
    interval_cases p <;> decide
  rw [bitOf_testBit, Nat.testBit_and, hx, Bool.and_false]

theorem stormClear_leaves (hp : p < 8) (hs : bitOf (d.fld PORT.PORT_STAT_STORM port) p = true) :
    bitOf ((d.stormClear port p).fld PORT.PORT_STAT_STORM port) p = false ∧ bitOf ((d.stormClear port p).port port).stormDown p = false ∧
      d.moves (d.stormClear port p) [.sw] [0x11] := by
  have hf : (d.stormPast port p).fld PORT.PORT_STAT_STORM port = (d.stormUnmarked port p).fld PORT.PORT_STAT_STORM port := rfl
  rw [stormClear_stormy hs]
  refine ⟨?_, ?_, moves_stormPast.log⟩
  · rw [fld_log_plain _ _ _ _ _ _ _ _ _ rfl, hf, stormUnmarked, fld_setFld_eq _ _ _ _ rfl]
    exact bitOf_pri_clear _ hp
  · rw [port_congr (log_sw _ _ _ _ _ _ _), stormPast, port_setPort_same]
    exact bitOf_down_clear _ hp

theorem holdRelease_none {pri : Option Nat} (h : d.holdAt port pri = none) : d.holdRelease port pri = d := by
  unfold holdRelease
  rw [h]

theorem holdAt_stormClear {pri : Option Nat} : (d.stormClear port p).holdAt n pri = d.holdAt n pri := by
  have h : ∀ (e : Dev) (y : PortSt), (e.setPort port y).holdAt n pri = e.holdAt n pri := fun _ _ => rfl
  have hc : ∀ e : Dev, e.sw = (d.stormPast port p).sw → e.holdAt n pri = (d.stormPast port p).holdAt n pri := fun e he => by
    rw [holdAt, he, holdAt]
  unfold stormClear
  split
  · refine (hc _ (log_sw _ _ _ _ _ _ _)).trans ?_
    rw [stormPast, h]
    rfl
  · rfl

end Sys2Proof.Machine.Dev
end

section
set_option Elab.async false
/-! Refreshes of XOFF and the commands of received pause and storms (R138 to R140). -/

namespace Sys2Proof.Machine.Dev
open Sys2Proof
variable {d e : Dev} {port pri p n mask quanta : Nat} {pfc : Bool}

/-! ### A pause frame that leaves -/

/-- The priorities of a pause frame, with the time at which it left. -/
def xoffTimed (d : Dev) (port mask : Nat) : Dev :=
  d.each 8 fun d p => if bitOf mask p then d.setPri port p { d.pri port p with xoffAt := d.clk.up } else d

theorem pauseOut_xoff (hq : quanta ≠ 0) :
    d.pauseOut port (pfc, mask, quanta) = (d.pauseCounted port pfc mask (d.pauseFrame pfc mask quanta)).xoffTimed port mask := if_neg hq

theorem murmurs_pauseCounted {bs : List Byte} : (d.emit (.frame port bs false)).murmurs (d.pauseCounted port pfc mask bs) := by
  unfold pauseCounted
  have h0 : (d.emit (.frame port bs false)).murmurs (((d.emit (.frame port bs false)).statGood port 32 bs.length bs).perf (islandOfPort port) 0x041) :=
    (murmurs.refl _).statGood.perf
  exact (h0.each fun h => h.iteSelf fun h => h.stat).ite h0.stat

theorem murmurs_xoffTimed : d.murmurs (d.xoffTimed port mask) := (murmurs.refl d).each fun h => h.iteSelf fun h => h.set_sw

theorem moves_xoffTimed : d.moves (d.xoffTimed port mask) [.sw] [] := d.still.each fun h => h.iteSelf fun h => h.andThen moves_setPri

theorem pri_setPri_ne {q r : Nat} {x : Pri} (h : q ≠ p) : (d.setPri r p x).pri r q = d.pri r q := SMap.get_set_ne d.sw.pri {} {} x (by omega)

theorem xoffAt_xoffTimed (hp : pri < 8) (hb : bitOf mask pri = true) : ((d.xoffTimed port mask).pri port pri).xoffAt = d.clk.up := by
  have hclk (m : Nat) : (d.each m fun d p => if bitOf mask p then d.setPri port p { d.pri port p with xoffAt := d.clk.up } else d).clk = d.clk :=
    each_keeps (rd := Dev.clk) fun e j _ => by split <;> rfl
  unfold xoffTimed
  rw [each_at (rd := fun d => d.pri port pri) hp fun e j hj _ => by
    split
    · exact pri_setPri_ne (Nat.ne_of_lt hj)
    · rfl, if_pos hb, pri_setPri_same]
  exact congrArg Clock.up (hclk pri)

theorem emits_pauseOut (hq : quanta ≠ 0) : d.emits (d.pauseOut port (pfc, mask, quanta)) (.frame port (d.pauseFrame pfc mask quanta) false) := by
  rw [pauseOut_xoff hq]
  exact (murmurs.refl d).emits (murmurs_pauseCounted.trans murmurs_xoffTimed)

theorem moves_pauseCounted {bs : List Byte} : d.moves (d.pauseCounted port pfc mask bs) [.sw] [] := by
  unfold pauseCounted
  have h0 : d.moves ((d.emit (.frame port bs false)).statGood port 32 bs.length bs) [.sw] [] := d.still.emit.andThen moves_statGood
  exact (h0.perf.each fun h => h.iteSelf fun h => h.andThen moves_stat).ite (h0.perf.andThen moves_stat)

theorem xoffAt_pauseOut (hq : quanta ≠ 0) (hp : pri < 8) (hb : bitOf mask pri = true) :
    ((d.pauseOut port (pfc, mask, quanta)).pri port pri).xoffAt = d.clk.up := by
  rw [pauseOut_xoff hq, xoffAt_xoffTimed hp hb, moves_pauseCounted.keeps_clk]

/-! ### A refresh -/

theorem bitOf_one (p q : Nat) : bitOf (1 <<< p) q = decide (p = q) := by
  rw [bitOf_testBit, Nat.one_shiftLeft, Nat.testBit_two_pow]

theorem bitOf_refresh (hb : bitOf (d.xoffTx port) pri = true) (hp : pri < 8) (p : Nat) : bitOf ((1 <<< pri) &&& (0xFF ^^^ d.xoffTx port)) p = false := by
  rw [bitOf_testBit] at hb ⊢
  rw [Nat.testBit_and, Nat.testBit_xor, ← bitOf_testBit, bitOf_one]
  by_cases h : pri = p
  · subst h
    rw [hb, show 0xFF = 2 ^ 8 - 1 by decide, Nat.testBit_two_pow_sub_one, decide_eq_true hp]
    simp
  · rw [decide_eq_false h, Bool.false_and]

theorem sendXoff_again (hp : pri < 8) (hs : d.portState port = 5) (hb : bitOf (d.xoffTx port) pri = true) :
    d.sendXoff port (1 <<< pri) =
      (d.sendPause port (1 <<< pri) (d.xoffQuanta port)).setXoffTx port (d.xoffTx port ||| 1 <<< pri) := by
  have hm : ¬(1 <<< pri = 0 ∨ d.portState port ≠ 5) := by
    rintro (h | h)
    · rw [Nat.one_shiftLeft] at h
      exact absurd h (Nat.two_pow_pos pri).ne'
    · exact h hs
  unfold sendXoff
  rw [if_neg hm]
  exact each_self fun p _ => if_neg (by rw [bitOf_refresh hb hp]; exact Bool.false_ne_true)

theorem pri_setXoffTx : (d.setXoffTx port n).pri port p = d.pri port p := by
  unfold setXoffTx
  split <;> rfl
theorem out_setXoffTx : (d.setXoffTx port n).out = d.out := by
  unfold setXoffTx
  split <;> rfl
theorem sw_setXoffTx : (d.setXoffTx port n).sw = d.sw := by
  unfold setXoffTx
  split <;> rfl

theorem sendPause_free (h : d.sending port = false) : d.sendPause port mask quanta = d.pauseOut port (decide (d.fcMode port = 2), mask, quanta) := by
  unfold sendPause
  rw [h]
  rfl

theorem sendPause_busy (h : d.sending port = true) :
    d.sendPause port mask quanta = d.setPauses port (d.sw.pauses.get [] port ++ [(decide (d.fcMode port = 2), mask, quanta)]) := by
  unfold sendPause
  rw [h]
  rfl

theorem moves_xoffAgain (h : port < 32) : d.moves ((d.sendPause port mask quanta).setXoffTx port n) [.sw] [0x11] := by
  have h0 : d.moves (d.sendPause port mask quanta) [.sw] [0x11] := moves_sendPause.mono rfl rfl
  exact h0.andThen (moves_setXoffTx_line h)

theorem sw_setPauses {l : List (Bool × Nat × Nat)} : (d.setPauses port l).sw.pauses.get [] port = l := SMap.get_set_same d.sw.pauses [] port l

end Sys2Proof.Machine.Dev

namespace Sys2Proof.Machine
open Sys2Proof
variable {s : State} {port pri : Nat}

theorem gives_refreshSent (hon : s.Awake) (h : port < 32) (hp : pri < 8) (hb : bitOf (s.dev.xoffTx port) pri = true)
    (he : s.dev.inEpisode port pri = true) (hs : s.dev.portState port = 5)
    (ht : (s.dev.pri port pri).xoffAt + s.dev.xoffQuanta port * 2560 / max 1 (s.dev.rate port) ≤ s.dev.clk.up)
    (hf : s.dev.sending port = false) (hq : s.dev.xoffQuanta port ≠ 0) :
    Gives (.xoffRefresh port pri) s fun d =>
      s.dev.emits d (.frame port (s.dev.pauseFrame (decide (s.dev.fcMode port = 2)) (1 <<< pri) (s.dev.xoffQuanta port)) false) ∧
      (d.pri port pri).xoffAt = s.dev.clk.up ∧ s.dev.moves d [.sw] [0x11] := by
  refine gives_runWhen rfl hon ?_ ?_
  · rw [hb, he, decide_eq_true ht, decide_eq_true (show port < 34 ∧ pri < 8 from ⟨by omega, hp⟩)]
    rfl
  · rw [Dev.sendXoff_again hp hs hb, (Dev.moves_xoffAgain h).under_eq]
    refine ⟨?_, ?_, Dev.moves_xoffAgain h⟩
    · rw [Dev.sendPause_free hf]
      obtain ⟨l, m, hl, hm⟩ := Dev.emits_pauseOut (d := s.dev) (port := port) (pfc := decide (s.dev.fcMode port = 2)) (mask := 1 <<< pri) hq
      exact ⟨l, m, Dev.out_setXoffTx.trans hl, hm⟩
    · rw [Dev.pri_setXoffTx, Dev.sendPause_free hf, Dev.xoffAt_pauseOut hq hp (by rw [Dev.bitOf_one]; exact decide_eq_true rfl)]

theorem gives_refreshQueued (hon : s.Awake) (h : port < 32) (hp : pri < 8) (hb : bitOf (s.dev.xoffTx port) pri = true)
    (he : s.dev.inEpisode port pri = true) (hs : s.dev.portState port = 5)
    (ht : (s.dev.pri port pri).xoffAt + s.dev.xoffQuanta port * 2560 / max 1 (s.dev.rate port) ≤ s.dev.clk.up)
    (hf : s.dev.sending port = true) :
    Gives (.xoffRefresh port pri) s fun d => d.out = s.dev.out ∧ d.sw.pauses.get [] port = s.dev.sw.pauses.get [] port ++
      [(decide (s.dev.fcMode port = 2), 1 <<< pri, s.dev.xoffQuanta port)] ∧ s.dev.moves d [.sw] [0x11] := by
  refine gives_runWhen rfl hon ?_ ?_
  · rw [hb, he, decide_eq_true ht, decide_eq_true (show port < 34 ∧ pri < 8 from ⟨by omega, hp⟩)]
    rfl
  · rw [Dev.sendXoff_again hp hs hb, (Dev.moves_xoffAgain h).under_eq]
    refine ⟨?_, ?_, Dev.moves_xoffAgain h⟩
    · rw [Dev.out_setXoffTx, Dev.sendPause_busy hf]
      rfl
    · rw [Dev.sw_setXoffTx, Dev.sendPause_busy hf, Dev.sw_setPauses]

theorem gives_pauseExpired (hon : s.Awake) (h : port < 32) (hp : pri < 8) (ht : (s.dev.pri port pri).pauseEnd ≤ s.dev.clk.up)
    (h0 : (s.dev.pri port pri).pauseEnd ≠ 0) (hm : s.dev.fcMode port = 2) :
    Gives (.receivedPauseExpiry port pri) s fun d => (d.pri port pri).pauseEnd = 0 ∧ bitOf (d.xoffRx port) pri = false ∧
      s.dev.moves d [.sw] [0x11] := by
  refine gives_runWhen rfl hon ?_ ?_
  · rw [decide_eq_true ht, decide_eq_true h0, decide_eq_true (show port < 34 ∧ pri < 8 from ⟨by omega, hp⟩)]
    rfl
  · rw [(Dev.moves_unpause_line h).under_eq]
    refine ⟨Dev.pauseEnd_unpause, ?_, Dev.moves_unpause_line h⟩
    rw [Dev.xoffRx_unpause h, Dev.classMask_one hm]
    exact Dev.bitOf_pri_clear _ hp

theorem gives_stormBegun (hon : s.Awake) (h : port < 32) (hp : pri < 8) (hen : s.dev.on PORT.STORM_CFG_STORM_EN port = true)
    (hs : s.dev.portState port = 5) (hb : bitOf (s.dev.fld PORT.PORT_STAT_STORM port) pri = false)
    (ht : s.dev.clk.up < (s.dev.pri port pri).pauseEnd)
    (hd : (s.dev.pri port pri).pauseFrom + s.dev.fld PORT.STORM_CFG_DETECT port * 10000000 ≤ s.dev.clk.up)
    (hq : s.dev.queuedSince port pri (s.dev.clk.up - s.dev.fld PORT.STORM_CFG_DETECT port * 10000000) = true)
    (ha : s.dev.on PORT.STORM_CFG_ACTION port = false) :
    Gives (.pfcStorm port pri) s fun d => bitOf (d.fld PORT.PORT_STAT_STORM port) pri = true ∧
      d.num PORT.STORMS port = (s.dev.num PORT.STORMS port + 1) % 2 ^ 32 ∧ d.raised PORT.int_STORM = true ∧
      (s.dev.fcMode port = 2 → bitOf (d.xoffRx port) pri = false) ∧ s.dev.moves d [] [0x11] := by
  obtain ⟨h1, h2, h3, h4, hm⟩ := Dev.stormBegin_leaves h hp ha
  refine gives_runWhen rfl hon ?_ ?_
  · rw [hen, hb, hq, decide_eq_true ht, decide_eq_true hd, decide_eq_true hs, decide_eq_true (show port < 32 ∧ pri < 8 from ⟨h, hp⟩)]
    rfl
  · rw [hm.under_eq]
    exact ⟨h1, h2, h3, h4, hm⟩

theorem gives_stormEnded (hon : s.Awake) (h : port < 32) (hp : pri < 8) (hb : bitOf (s.dev.fld PORT.PORT_STAT_STORM port) pri = true)
    (ht : (s.dev.pri port pri).pauseLast + s.dev.fld PORT.STORM_CFG_RESTORE port * 10000000 ≤ s.dev.clk.up)
    (hh : s.dev.holdAt port (some pri) = none) :
    Gives (.pfcStormEnd port pri) s fun d => bitOf (d.fld PORT.PORT_STAT_STORM port) pri = false ∧
      bitOf (d.port port).stormDown pri = false ∧ s.dev.moves d [.sw] [0x11] := by
  have hl := Dev.stormClear_leaves hp hb
  refine gives_runWhen rfl hon ?_ ?_
  · rw [hb, decide_eq_true ht, decide_eq_true (show port < 32 ∧ pri < 8 from ⟨h, hp⟩)]
    rfl
  · rw [Dev.holdRelease_none (Dev.holdAt_stormClear.trans hh), hl.2.2.under_eq]
    exact hl

end Sys2Proof.Machine
end

section
set_option Elab.async false
/-! The first and the last bytes of a frame at a port (R135, R141, R331, R336). -/

namespace Sys2Proof.Machine.Dev
open Sys2Proof
variable {d e : Dev} {port k n r i st who w c p : Nat} {x y : Rx} {f : Frame} {bs : List Byte} {pick : List Nat} {tag : Option Nat} {v : BitVec 64}
  {o : Option Rx} {g : Frame → Frame}

/-! ### The record of a frame in reception -/

/-- What units taken leave of the record of a frame in reception. -/
def rxKept (x y : Rx) : Prop := y.bytes = x.bytes ∧ y.reason = x.reason ∧ y.pri = x.pri ∧ y.maxFrame = x.maxFrame ∧ y.mac = x.mac

theorem rxKept.refl (x : Rx) : rxKept x x := ⟨rfl, rfl, rfl, rfl, rfl⟩
theorem rxKept.trans {z : Rx} (h : rxKept x y) (g : rxKept y z) : rxKept x z := by
  obtain ⟨h1, h2, h3, h4, h5⟩ := h
  obtain ⟨g1, g2, g3, g4, g5⟩ := g
  exact ⟨g1.trans h1, g2.trans h2, g3.trans h3, g4.trans h4, g5.trans h5⟩

theorem rxKept_takeUnit : rxKept x (d.takeUnit r x pick).2 := by
  unfold takeUnit
  dsimp only
  split
  · exact ⟨rfl, rfl, rfl, rfl, rfl⟩
  · cases x.desc <;> exact ⟨rfl, rfl, rfl, rfl, rfl⟩

theorem rxKept_takeUnits {fuel : Nat} : rxKept x (Dev.takeUnits fuel d r x n pick).2 := by
  induction fuel generalizing d x pick with
  | zero => exact .refl x
  | succ m ih =>
    unfold Dev.takeUnits
    split
    · exact .refl x
    · exact rxKept_takeUnit.trans ih

theorem takeUnits_enough (h : n ≤ x.room) : Dev.takeUnits chainFuel d r x n pick = (d, x) := by
  unfold chainFuel takeUnits
  exact if_pos (.inl h)

theorem rx_setRx_same : (d.setRx port o).rx port = o := SMap.get_set_same d.sw.rx none port o
theorem rx_setPri {q : Nat} {z : Pri} : (d.setPri q p z).rx port = d.rx port := rfl
theorem frame_setRx : (d.setRx port o).frame k = d.frame k := rfl
theorem heads_setRx : (d.setRx port o).sw.heads = d.sw.heads := rfl

/-- The record of a frame in reception with bytes that arrive. -/
def rxFed (x : Rx) (bs : List Byte) : Rx := { x with bytes := x.bytes ++ bs }

/-- The units that arriving bytes have taken count toward the headroom of the episode. -/
def rxCounted (d : Dev) (r : Nat) (x : Rx) (had : Nat) : Dev :=
  if d.inEpisode r x.pri && !d.xoffWaits r x.pri then
    d.setPri r x.pri { d.pri r x.pri with epBytes := (d.pri r x.pri).epBytes + (x.taken - had) } else d

theorem lanesLike_rxCounted : d.lanesLike (d.rxCounted r x n) := lanesLike.ite lanesLike_setPri (.refl d)

theorem reason_rxFed : (rxFed x bs).reason = x.reason := rfl

theorem rxBytes_refused (h : x.reason.isSome = true) : d.rxBytes r x bs pick = d.setRx r (some (rxFed x bs)) := if_pos h

/-- A property that holds whatever units the bytes take. -/
theorem rxBytes_taken {P : Dev → Prop} (h : x.reason = none)
    (hp : ∀ e y, Dev.takeUnits chainFuel d r (rxFed x bs) (min (rxFed x bs).bytes.length (rxFed x bs).maxFrame) pick = (e, y) →
      P ((e.setRx r (some y)).rxCounted r y x.taken)) : P (d.rxBytes r x bs pick) := by
  unfold rxBytes
  extract_lets had x'
  have hx : x' = rxFed x bs := rfl
  clear_value x'
  subst hx
  rw [if_neg (by rw [reason_rxFed, h]; decide)]
  generalize Dev.takeUnits chainFuel d r (rxFed x bs) (min (rxFed x bs).bytes.length (rxFed x bs).maxFrame) pick = t at hp ⊢
  exact hp t.1 t.2 rfl

theorem rx_rxBytes (h : x.reason = none) : ∃ y, (d.rxBytes port x bs pick).rx port = some y ∧ rxKept (rxFed x bs) y := by
  refine rxBytes_taken (P := fun e => ∃ y, e.rx port = some y ∧ rxKept (rxFed x bs) y) h fun e y ht => ⟨y, ?_, ?_⟩
  · have hc := lanesLike_rxCounted (d := e.setRx port (some y)) (r := port) (x := y) (n := x.taken)
    rw [Dev.rx, hc.rx]
    exact rx_setRx_same
  · have hk := rxKept_takeUnits (d := d) (r := port) (x := rxFed x bs) (n := min (rxFed x bs).bytes.length (rxFed x bs).maxFrame) (pick := pick)
      (fuel := chainFuel)
    rw [ht] at hk
    exact hk

theorem lanesLike_rxBytes (h : x.reason = none) (hr : min (rxFed x bs).bytes.length (rxFed x bs).maxFrame ≤ x.room) :
    (d.setRx r (some (rxFed x bs))).lanesLike (d.rxBytes r x bs pick) := by
  refine rxBytes_taken h fun e y ht => ?_
  have hx : (d, rxFed x bs) = (e, y) := (takeUnits_enough (x := rxFed x bs) hr).symm.trans ht
  obtain ⟨rfl, rfl⟩ := Prod.mk.inj hx
  exact lanesLike_rxCounted

/-! ### The first bytes -/

/-- The record of a frame whose first bytes arrive. -/
def rxOpened (d : Dev) (port : Nat) (bs : List Byte) (why : Option Nat) : Rx :=
  { reason := why
    pri := d.acctPri port (d.tagPri port bs)
    tagPri := d.tagPri port bs
    maxFrame := d.maxFrame port
    inEp := d.inEpisode port (d.acctPri port (d.tagPri port bs))
    mac := d.macSet port
    fine := d.ingressFine port }

theorem frameStart_judged {why : Option Nat} (ha : d.aligned port = true) (hr : d.rx port = none)
    (hj : d.judge port (d.acctPri port (d.tagPri port bs)) bs = (d, why)) :
    d.frameStart port bs pick = d.rxBytes port (d.rxOpened port bs why) bs pick := by
  unfold frameStart
  rw [ha, hr, if_neg (by decide)]
  dsimp only
  rw [hj]
  dsimp only [rxOpened]

theorem judge_taken (hp : port < 32) (h5 : d.portState port = 5) (hc : isControl bs = false) (hs : d.spore.stopped = false)
    (he : d.inEpisode port p = false) : d.judge port p bs = (d, none) := by
  unfold judge notTaken
  rw [h5, hc, hs, he]
  rw [if_neg (by decide), if_neg (by omega)]
  rfl

theorem judge_passed (h : d.portState port ≠ 5 ∨ isControl bs = true) : d.judge port p bs = (d, some 0) := if_pos h

/-! ### The last bytes -/

theorem moves_crossedAt : d.moves (d.crossedAt v i st tag who w) [] [0x60] := by
  unfold crossedAt
  split
  · exact d.still.iteSelf fun h => h.andThen moves_sampleStage
  · exact d.still

/-- The frame of an admitted reception, before its charge. -/
def rxResident (d : Dev) (x : Rx) (k : Nat) (bs : List Byte) (g : Frame → Frame) : Dev :=
  (d.gathered x.last).updFrame k fun f =>
    g { f with len := bs.length + 4, bytes := bs, charge := x.units, hr := x.hr, admitMs := d.upMs % 2 ^ 24, cls := 0 }

theorem rxAdmit_some (h : x.desc = some k) :
    d.rxAdmit r x bs g = ((((d.rxResident x k bs g).charge r x.pri x.units).setRx r none).evalAll, k) := by
  unfold rxAdmit
  rw [h]
  rfl

theorem frame_rxResident (h : d.frame k = some f) : (d.rxResident x k bs g).frame k =
    some (g { f with len := bs.length + 4, bytes := bs, charge := x.units, hr := x.hr, admitMs := d.upMs % 2 ^ 24, cls := 0 }) :=
  frame_updFrame_same h

theorem heads_rxResident : (d.rxResident x k bs g).sw.heads = d.sw.heads := heads_updFrame

theorem lanesLike_charge : d.lanesLike (d.charge r p n) := lanesLike_bump.trans lanesLike_setNum

/-- An admitted frame in its place, its head not yet offered. -/
def admitted (d : Dev) (port : Nat) (x : Rx) (bs : List Byte) (k : Nat) (tag : Option Nat) : Dev :=
  ((((((d.statGood port 0 bs.length bs).rxResident x k (bs.take (bs.length - 4)) fun f => { f with tag := tag }).charge port x.pri x.units).setRx port
    none).evalAll.crossedAt (stampOf (wholeNs x.fine)) (islandOfPort port) 0 tag k).crossed 21 1 tag k)

theorem admitRx_eq (h : x.desc = some k) :
    d.admitRx port x bs = (d.tagUnit.1.admitted port x bs k d.tagUnit.2).offerHead k ((d.tagUnit.1.admitted port x bs k d.tagUnit.2).pipeOf port) := by
  unfold admitRx
  generalize d.tagUnit = t
  obtain ⟨e, tag⟩ := t
  dsimp only
  rw [rxAdmit_some h]
  dsimp only [admitted]

theorem admitted_leaves (h : d.frame k = some f) : (d.admitted port x bs k tag).rx port = none ∧
    (d.admitted port x bs k tag).sw.heads = d.sw.heads ∧ ∃ g, (d.admitted port x bs k tag).frame k = some g ∧
      g.bytes = bs.take (bs.length - 4) ∧ g.ingress = f.ingress ∧ g.charge = x.units := by
  have hs := lanesLike_statGood (d := d) (port := port) (k := 0) (n := bs.length) (bs := bs)
  unfold admitted
  generalize d.statGood port 0 bs.length bs = e at hs ⊢
  generalize he : e.rxResident x k (bs.take (bs.length - 4)) (fun f => { f with tag := tag }) = e2
  have hf : e2.frame k = _ := he ▸ frame_rxResident (hs.frame.trans h)
  have hh : e2.sw.heads = d.sw.heads := he ▸ heads_rxResident.trans hs.heads
  have hc := lanesLike_charge (d := e2) (r := port) (p := x.pri) (n := x.units)
  have hl : ((e2.charge port x.pri x.units).setRx port none).lanesLike ((((e2.charge port x.pri x.units).setRx port none).evalAll.crossedAt
      (stampOf (wholeNs x.fine)) (islandOfPort port) 0 tag k).crossed 21 1 tag k) :=
    (lanesLike_evalAll.trans (.of_moves moves_crossedAt)).trans (.of_moves moves_crossed)
  refine ⟨?_, ?_, ?_⟩
  · rw [Dev.rx, hl.rx]
    exact rx_setRx_same
  · rw [hl.heads, heads_setRx, hc.heads, hh]
  · rw [hl.frame, frame_setRx, hc.frame, hf]
    exact ⟨_, rfl, rfl, rfl, rfl⟩

end Sys2Proof.Machine.Dev
end

section
set_option Elab.async false
/-! Frames and pause at a port (R135 to R140, R331, R336). -/

namespace Sys2Proof.Machine.Dev
open Sys2Proof
variable {d e : Dev} {port quanta : Nat} {bs : List Byte} {pick : List Nat}

/-! ### A MAC control frame -/

/-- A MAC control frame counted. -/
def controlCounted (d : Dev) (port : Nat) (bs : List Byte) : Dev :=
  ((d.perf (islandOfPort port) 0x040).statGood port 0 bs.length bs).stat port 21

/-- A PAUSE frame counted. -/
def pauseSeen (d : Dev) (port : Nat) (bs : List Byte) : Dev := (d.controlCounted port bs).stat port 22

theorem moves_pauseSeen : d.moves (d.pauseSeen port bs) [.sw] [] := by
  have h0 : d.moves (d.perf (islandOfPort port) 0x040) [.sw] [] := d.still.perf
  exact ((h0.andThen moves_statGood).andThen moves_stat).andThen moves_stat

theorem bitOf_zero (p : Nat) : bitOf 0 p = false := by
  rw [bitOf_testBit, Nat.zero_testBit]

theorem macControl_pause {m : MacSet} (hop : beAt bs 14 2 = 1) (hda : bs.take 6 = pauseDa) (hm : m.fcMode = 1) :
    (d.perf (islandOfPort port) 0x040).macControl port m bs pick = (d.pauseSeen port bs).rxPause port 0 (beAt bs 16 2) := by
  have hl : ∀ e : Dev, (e.each 8 fun d p => if bitOf 0 p then d.stat port (23 + p) else d) = e := fun e =>
    each_self fun p _ => if_neg (by rw [bitOf_zero]; exact Bool.false_ne_true)
  unfold macControl
  rw [hop]
  dsimp only
  rw [if_neg (show ¬(1 = 0x0101) by decide), if_pos rfl, hl, if_pos ⟨hda, hm, rfl⟩]
  rfl

theorem controlFrame_pause (h : port < 32) (ha : d.aligned port = true) (hr : d.rx port = none)
    (hv : macVerdict bs (d.maxFrame port) false = none) (hc : beAt bs 12 2 = 0x8808) (hop : beAt bs 14 2 = 1) (hda : bs.take 6 = pauseDa)
    (hm : d.fcMode port = 1) : d.controlFrame port bs pick = (d.pauseSeen port bs).rxPause port 0 (beAt bs 16 2) := by
  have hp : d.moves (d.perf (islandOfPort port) 0x040) [] [] := d.still.perf
  have hmax : (d.perf (islandOfPort port) 0x040).maxFrame port = d.maxFrame port := by
    unfold maxFrame
    rw [if_pos h, if_pos h]
    exact hp.fld PORT.MAC_CFG_MAX_FRAME port rfl rfl
  have hfc : ((d.perf (islandOfPort port) 0x040).macSet port).fcMode = 1 := by
    rw [show ((d.perf (islandOfPort port) 0x040).macSet port).fcMode = (d.perf (islandOfPort port) 0x040).fcMode port from rfl, fcMode_line h,
      hp.fld PORT.MAC_CFG_FC_MODE port rfl rfl, ← fcMode_line h]
    exact hm
  unfold controlFrame isControl
  rw [ha, hr, hc, if_neg (by decide)]
  dsimp only
  rw [hmax, hv]
  exact macControl_pause hop hda hfc

theorem rate_line (h : port < 32) : d.rate port = modeLanes (d.mode port) * modeRate (d.mode port) := by
  unfold rate
  rw [if_neg (by omega), if_neg (by omega)]

theorem rate_of_moves {P : List Part} {G : List Nat} (h : port < 32) (hm : d.moves e P G) (hg : G.contains 0x11 = false) : e.rate port = d.rate port := by
  rw [rate_line h, rate_line h, mode, hm.fld PORT.PORT_CFG_MODE port rfl hg, mode]

/-! ### The last bytes of a frame -/

theorem rxFed_nil (x : Rx) : rxFed x [] = x := by
  rw [rxFed, List.append_nil]

/-- A port whose frame in reception has ended. -/
def rxEnded (d : Dev) (port : Nat) (x : Rx) (pick : List Nat) : Dev := (d.rxBytes port x [] pick).perf (islandOfPort port) 0x040

theorem lanesLike_rxEnded {x : Rx} (h : x.reason = none) (hr : min x.bytes.length x.maxFrame ≤ x.room) :
    (d.setRx port (some x)).lanesLike (d.rxEnded port x pick) := by
  have hl := lanesLike_rxBytes (d := d) (r := port) (x := x) (bs := []) (pick := pick) h (by rw [rxFed_nil]; exact hr)
  rw [rxFed_nil] at hl
  exact hl.trans lanesLike_perf

theorem frameAdmit_taken {x : Rx} (hx : d.rx port = some x) (h : x.reason = none) (hd : x.dead = false)
    (hr : min x.bytes.length x.maxFrame ≤ x.room) (hv : macVerdict x.bytes x.maxFrame false = none) (hc : beAt x.bytes 12 2 ≠ 0x8808) :
    d.frameAdmit port [] false pick = (d.rxEnded port x pick).admitRx port x x.bytes := by
  have hx2 : (d.rxEnded port x pick).rx port = some x := by
    rw [Dev.rx, (lanesLike_rxEnded h hr).rx]
    exact rx_setRx_same
  unfold rxEnded at hx2
  unfold frameAdmit
  rw [hx]
  dsimp only
  rw [hx2]
  dsimp only
  rw [h, hv, hd, isControl, decide_eq_false hc]
  rfl

theorem pipeOf_line (h : port < 32) : d.pipeOf port = port / 8 % 4 := if_neg (by omega)

theorem heads_offerHead {k q : Nat} : (d.offerHead k q).sw.heads.get [] q = d.sw.heads.get [] q ++ [k] := SMap.get_set_same d.sw.heads [] q _
theorem rx_offerHead {k q : Nat} : (d.offerHead k q).rx port = d.rx port := rfl
theorem frame_offerHead {k q n : Nat} : (d.offerHead k q).frame n = d.frame n := rfl

theorem admitRx_leaves {x : Rx} {k : Nat} {f : Frame} (h : port < 32) (hk : x.desc = some k) (hf : d.frame k = some f) :
    (d.admitRx port x bs).rx port = none ∧ (d.admitRx port x bs).sw.heads.get [] (port / 8 % 4) = d.sw.heads.get [] (port / 8 % 4) ++ [k] ∧
      ∃ g, (d.admitRx port x bs).frame k = some g ∧ g.bytes = bs.take (bs.length - 4) ∧ g.ingress = f.ingress ∧ g.charge = x.units := by
  have ht : d.lanesLike d.tagUnit.1 := .of_moves moves_tagUnit
  obtain ⟨h1, h2, h3⟩ := admitted_leaves (d := d.tagUnit.1) (port := port) (x := x) (bs := bs) (k := k) (tag := d.tagUnit.2) (ht.frame.trans hf)
  rw [admitRx_eq hk, pipeOf_line h, rx_offerHead, heads_offerHead, frame_offerHead, h2, ht.heads]
  exact ⟨h1, rfl, h3⟩

end Sys2Proof.Machine.Dev

namespace Sys2Proof.Machine
open Sys2Proof
variable {s : State} {port k : Nat} {bs : List Byte} {pick : List Nat} {x : Rx} {f : Frame} {p : Dev → Prop} {c : Instr} {b : Dev → Bool}
  {g : Dev → Dev} {pcs : Bool}

theorem gives_runRx (h : exec c s = s.runRx fun d => d.when (b d) g) (hon : s.Awake) (hb : b s.dev = true) (hp : p (s.dev.under (g s.dev))) :
    Gives c s p := by
  obtain ⟨hp0, hs⟩ := hon
  refine gives_actWhen (b := fun d => decide (d.spore.phase ≤ 1)) (f := fun d => d.when (b d) g) h hp0 ?_ ?_
  · rw [hs]
    rfl
  · rw [hb]
    exact hp

theorem idle_runRx (h : exec c s = s.runRx fun d => d.when (b d) g) (hg : g s.dev = s.dev) : Idle c s := by
  refine idle_actSelf (f := fun d => d.when (decide (d.spore.phase ≤ 1)) fun d => d.when (b d) g) h ?_
  cases decide (s.dev.spore.phase ≤ 1)
  · rfl
  · show s.dev.when (b s.dev) g = s.dev
    cases b s.dev
    · rfl
    · exact hg

theorem line_true (h : port < 32) : decide (port < 32 ∨ port = 33) = true := decide_eq_true (.inl h)

theorem gives_frameTaken (hon : s.Awake) (h : port < 32) (ha : s.dev.aligned port = true) (hr : s.dev.rx port = none)
    (h5 : s.dev.portState port = 5) (hc : isControl bs = false) (hs : s.dev.spore.stopped = false)
    (he : s.dev.inEpisode port (s.dev.acctPri port (s.dev.tagPri port bs)) = false) :
    Gives (.frameStart port bs pick) s fun d => ∃ x, d.rx port = some x ∧ x.bytes = bs ∧ x.reason = none ∧
      x.pri = s.dev.acctPri port (s.dev.tagPri port bs) ∧ x.maxFrame = s.dev.fld PORT.MAC_CFG_MAX_FRAME port ∧
      x.mac = s.dev.macSet port := by
  refine gives_runRx rfl hon (line_true h) ?_
  rw [Dev.frameStart_judged ha hr (Dev.judge_taken h h5 hc hs he)]
  obtain ⟨y, hy, h1, h2, h3, h4, h5⟩ := Dev.rx_rxBytes (d := s.dev) (port := port) (x := s.dev.rxOpened port bs none) (bs := bs) (pick := pick) rfl
  refine ⟨y, hy, h1, h2, h3, h4.trans ?_, h5⟩
  exact if_pos h

theorem gives_framePassed (hon : s.Awake) (h : port < 32) (ha : s.dev.aligned port = true) (hr : s.dev.rx port = none)
    (hj : s.dev.portState port ≠ 5 ∨ isControl bs = true) :
    Gives (.frameStart port bs pick) s fun d => (∃ x, d.rx port = some x ∧ x.bytes = bs ∧ x.reason = some 0 ∧ x.desc = none) ∧
      s.dev.keeps d [.sw] := by
  refine gives_runRx rfl hon (line_true h) ?_
  rw [Dev.frameStart_judged ha hr (Dev.judge_passed hj), Dev.rxBytes_refused rfl]
  have hm : s.dev.keeps (s.dev.setRx port (some (Dev.rxFed (s.dev.rxOpened port bs (some 0)) bs))) [.sw] := (Dev.keeps.refl s.dev).set_sw
  rw [show s.dev.under (s.dev.setRx port (some (Dev.rxFed (s.dev.rxOpened port bs (some 0)) bs))) =
    s.dev.setRx port (some (Dev.rxFed (s.dev.rxOpened port bs (some 0)) bs)) from rfl]
  exact ⟨⟨_, Dev.rx_setRx_same, rfl, rfl, rfl⟩, hm⟩

theorem gives_frameAdmitted (hon : s.Awake) (h : port < 32) (hr : s.dev.rx port = some x) (h0 : x.reason = none) (hd : x.dead = false)
    (hk : x.desc = some k) (hf : s.dev.frame k = some f) (hroom : min x.bytes.length x.maxFrame ≤ x.room)
    (hv : macVerdict x.bytes x.maxFrame false = none) (hc : beAt x.bytes 12 2 ≠ 0x8808) :
    Gives (.frameAdmit port [] false pick) s fun d => d.rx port = none ∧
      d.sw.heads.get [] (port / 8 % 4) = s.dev.sw.heads.get [] (port / 8 % 4) ++ [k] ∧
      (∃ g, d.frame k = some g ∧ g.bytes = x.bytes.take (x.bytes.length - 4) ∧ g.ingress = f.ingress ∧ g.charge = x.units) := by
  refine gives_runRx rfl hon (line_true h) ?_
  rw [Dev.frameAdmit_taken hr h0 hd hroom hv hc]
  have hl := Dev.lanesLike_rxEnded (d := s.dev) (port := port) (pick := pick) h0 hroom
  obtain ⟨h1, h2, h3⟩ := Dev.admitRx_leaves (d := s.dev.rxEnded port x pick) (bs := x.bytes) h hk (hl.frame.trans hf)
  rw [hl.heads] at h2
  exact ⟨h1, h2, h3⟩

theorem gives_controlPause (hon : s.Awake) (h : port < 32) (ha : s.dev.aligned port = true) (hr : s.dev.rx port = none)
    (hv : macVerdict bs (s.dev.maxFrame port) false = none) (hc : beAt bs 12 2 = 0x8808) (hop : beAt bs 14 2 = 1) (hda : bs.take 6 = pauseDa)
    (hm : s.dev.fcMode port = 1) (hq : beAt bs 16 2 ≠ 0) (hs : bitOf (s.dev.fld PORT.PORT_STAT_STORM port) 0 = false) :
    Gives (.macControlFrame port bs pick) s fun d => d.xoffRx port = 0xFF ∧
      (d.pri port 0).pauseEnd = s.dev.clk.up + beAt bs 16 2 * 5120 / max 1 (s.dev.rate port) ∧ s.dev.moves d [.sw] [0x11] := by
  refine gives_runRx rfl hon (line_true h) ?_
  rw [Dev.controlFrame_pause h ha hr hv hc hop hda hm]
  have h0 := Dev.moves_pauseSeen (d := s.dev) (port := port) (bs := bs)
  have hs' : bitOf ((s.dev.pauseSeen port bs).fld PORT.PORT_STAT_STORM port) 0 = false := by
    rw [h0.fld PORT.PORT_STAT_STORM port rfl rfl]
    exact hs
  have hm' : (s.dev.pauseSeen port bs).fcMode port = 1 := by
    rw [Dev.fcMode_line h, h0.fld PORT.MAC_CFG_FC_MODE port rfl rfl, ← Dev.fcMode_line h]
    exact hm
  have h1 : s.dev.moves (s.dev.pauseSeen port bs) [.sw] [0x11] := h0.mono rfl rfl
  have hmv := h1.andThen (Dev.moves_rxPaused h hq hs')
  obtain ⟨hx, hp⟩ := Dev.rxPaused_leaves h hq hs'
  rw [hmv.under_eq, hx, hp, Dev.classMask_all hm', Dev.or_all, h0.keeps_clk, Dev.rate_of_moves h h0 rfl]
  exact ⟨rfl, rfl, hmv⟩

theorem gives_controlRelease (hon : s.Awake) (h : port < 32) (ha : s.dev.aligned port = true) (hr : s.dev.rx port = none)
    (hv : macVerdict bs (s.dev.maxFrame port) false = none) (hc : beAt bs 12 2 = 0x8808) (hop : beAt bs 14 2 = 1) (hda : bs.take 6 = pauseDa)
    (hm : s.dev.fcMode port = 1) (hq : beAt bs 16 2 = 0) :
    Gives (.macControlFrame port bs pick) s fun d => d.xoffRx port = 0 ∧ (d.pri port 0).pauseEnd = 0 ∧ s.dev.moves d [.sw] [0x11] := by
  refine gives_runRx rfl hon (line_true h) ?_
  rw [Dev.controlFrame_pause h ha hr hv hc hop hda hm, hq]
  have h0 := Dev.moves_pauseSeen (d := s.dev) (port := port) (bs := bs)
  have hm' : (s.dev.pauseSeen port bs).fcMode port = 1 := by
    rw [Dev.fcMode_line h, h0.fld PORT.MAC_CFG_FC_MODE port rfl rfl, ← Dev.fcMode_line h]
    exact hm
  have h1 : s.dev.moves (s.dev.pauseSeen port bs) [.sw] [0x11] := h0.mono rfl rfl
  have hmv := h1.andThen (Dev.moves_rxReleased (p := 0) h)
  obtain ⟨hx, hp⟩ := Dev.rxReleased_leaves (d := s.dev.pauseSeen port bs) (p := 0) h
  rw [hmv.under_eq, hx, hp, Dev.classMask_all hm', Dev.and_none]
  exact ⟨rfl, rfl, hmv⟩

end Sys2Proof.Machine

section
open Sys2Proof Sys2Proof.Machine

/-- Settles O24. A reception is a record of its port from the first byte to the last; a pause is an uptime at which it ends, and a storm a
mark of a priority. -/
theorem framesAndPause : Obligations.FramesAndPause := by
  refine ⟨?_, ?_, ?_, ?_, ?_, ?_, ?_, ?_, ?_, ?_, ?_, ?_, ?_, ?_, ?_, ?_⟩
  · intro s port bs pick hon h ha hr h5 hc hs he
    exact gives_frameTaken hon h ha hr h5 hc hs he
  · intro s port bs pick hon h ha hr hj
    exact gives_framePassed hon h ha hr hj
  · intro s port bs pick _ ha
    refine idle_runRx (g := fun d => d.frameStart port bs pick) rfl ?_
    exact if_pos (.inl (by rw [ha]; rfl))
  · intro s port k x f pick hon h hr h0 hd hk hf hroom hv hc
    exact gives_frameAdmitted hon h hr h0 hd hk hf hroom hv hc
  · intro s port bs pcs pick _ hr
    refine idle_runRx (g := fun d => d.frameAdmit port bs pcs pick) rfl ?_
    unfold Dev.frameAdmit
    rw [hr]
  · intro s port bs pick hon h ha hr hv hc hop hda hm hq hs
    exact gives_controlPause hon h ha hr hv hc hop hda hm hq hs
  · intro s port bs pick hon h ha hr hv hc hop hda hm hq
    exact gives_controlRelease hon h ha hr hv hc hop hda hm hq
  · intro s port pri hon h hp ht h0 hm
    exact gives_pauseExpired hon h hp ht h0 hm
  · intro s port pri _ ht
    refine idle_runWhen rfl ?_
    rw [decide_eq_false (show ¬(s.dev.pri port pri).pauseEnd ≤ s.dev.clk.up by omega), Bool.and_false, Bool.false_and]
  · intro s port pri hon h hp hb he hs ht hf hq
    exact gives_refreshSent hon h hp hb he hs ht hf hq
  · intro s port pri hon h hp hb he hs ht hf
    exact gives_refreshQueued hon h hp hb he hs ht hf
  · intro s port pri _ he
    refine idle_runWhen rfl ?_
    rw [he, Bool.and_false, Bool.false_and]
  · intro s port pri hon h hp hen hs hb ht hd hq ha
    exact gives_stormBegun hon h hp hen hs hb ht hd hq ha
  · intro s port pri _ hb
    refine idle_runWhen rfl ?_
    rw [hb, Bool.not_true, Bool.and_false, Bool.false_and, Bool.false_and, Bool.false_and]
  · intro s port pri hon h hp hb ht hh
    exact gives_stormEnded hon h hp hb ht hh
  · intro s port pri _ hb
    refine idle_runWhen rfl ?_
    rw [hb, Bool.and_false, Bool.false_and]

end
end

section
set_option Elab.async false
/-! How the link of a line port goes down (R142). -/

namespace Sys2Proof.Machine
open Sys2Proof

/-- A module with port 0 in UP_PENDING, whose register map lists the tandem state at the value that an unlisted register has. -/
def listedState : State :=
  { dev := { Dev.reset with
      sup := { Dev.reset.sup with phase := .on }
      regs := [((PORT.PORT_STAT).key 0 0, 4), (TNDM.STATE.key 0 0, 0), ((CTRL 0x58).key 0 0, 0)]
      sw := { Dev.reset.sw with ports := [(0, { pendAt := 1 })] } }
    pending := [] }

/-- The loss of port 0, as LINK_DOWN tells of it. -/
def portLost (d : Dev) : Dev := d.when (decide (0 < 32 ∨ 0 = 33)) fun d => (d.linkLost 0 0 []).tandemFollow

theorem gives_portLost : Gives (.linkDown 0 0 []) listedState fun d => d = listedState.dev.under (portLost listedState.dev) :=
  gives_act (f := portLost) rfl rfl rfl

theorem regs_under (d e : Dev) : (d.under e).regs = e.regs := rfl

/-- LINK_UP written with the 0 that it holds takes the register off the list. -/
theorem state_listed : listedState.dev.regs.get 1 (TNDM.STATE.key 0 0) = 0 := by decide +kernel
theorem state_unlisted : (portLost listedState.dev).regs.get 1 (TNDM.STATE.key 0 0) = 1 := by decide +kernel

end Sys2Proof.Machine

open Sys2Proof Sys2Proof.Machine

/-- Refutes O23: the statement asks nothing of the register map, and where that lists the tandem state at its reset value, a LINK_DOWN
that does nothing yet writes LINK_UP as it is and takes the register off the list, which more than reports moves. -/
theorem not_linkBringUp : ¬ Obligations.LinkBringUp := by
  unfold Obligations.LinkBringUp
  rintro ⟨-, -, -, -, -, -, -, -, -, -, -, -, -, -, -, -, hearly, -⟩
  have hstate : 4 ≤ listedState.dev.portState 0 := by decide +kernel
  have hupper : listedState.dev.clk.up < (listedState.dev.port 0).pendAt + listedState.dev.downDeb 0 := by decide +kernel
  have hwaits := hearly listedState 0 0 [] rfl (by decide) (by decide +kernel) (by decide +kernel) (by decide +kernel) (by decide +kernel) hstate hupper
  obtain ⟨d, ⟨-, -, hregs⟩, hd⟩ := hwaits.and_of gives_portLost
  have hget := hregs (TNDM.STATE.key 0 0) 1 (by decide)
  rw [hd, regs_under, state_unlisted, state_listed] at hget
  exact absurd hget (by decide)
end

section
set_option Elab.async false
/-! Slots of the flow table written (R209, R217, R222): what of the table stays, and the kinds that a slot can take. -/

namespace Sys2Proof.Machine
open Sys2Proof
variable {v n : Nat} {p q : Bool}

theorem slotKind_slotMark : slotKind (slotMark v p q) = slotKind v := by
  have h1 : slotMark v p q % 4 = setBits v 2 1 (bit p) % 4 := by
    have := setBits_mod_below (setBits v 2 1 (bit p)) 4 1 (bit q)
    rw [slotMark]
    omega
  have h2 := setBits_mod_below v 2 1 (bit p)
  rw [slotKind, slotKind, h1]
  exact h2

theorem slotKind_slotClear : slotKind (slotClear v) = 0 := by
  have h1 := setBits_mod_below (setBits v 0 2 0) 3 1 0
  have h2 := bitsOf_setBits_same v 0 2 0
  rw [bitsOf, Nat.shiftRight_zero] at h2
  rw [slotKind, slotClear]
  omega

namespace Dev
variable {d e f : Dev} {b wide : Bool} {s t x i : Nat} {o : OpenSlot}

/-- The flow table but for its slots and what tells of the copies of a rebuild. -/
def ledger (d : Dev) : FlowSt := { d.flow with mem := [], opened := [], copies := [] }

theorem altMask_of_moves {P : List Part} {G : List Nat} (hm : d.moves e P G) (hg : G.contains 0x30 = false) : e.altMask = d.altMask := by
  rw [altMask, altMask, hm.fld FLOW.SLOT_CFG_SIZE 0 rfl hg]

theorem mateOf_ne : d.mateOf s ≠ s := by
  intro h
  have hz : d.altMask = 0 := by
    have h2 : s ^^^ (s ^^^ d.altMask) = s ^^^ s := by rw [show s ^^^ d.altMask = s from h]
    rwa [← Nat.xor_assoc, Nat.xor_self, Nat.zero_xor] at h2
  exact absurd hz (Nat.pos_iff_ne_zero.mp (Nat.pow_pos (by decide)))

/-- Slots of the region in force, or with `b` of the other one, are written. -/
def rewrites (b : Bool) (d e : Dev) : Prop :=
  d.moves e [.draws, .flow, .mem] [0x50] ∧ e.ledger = d.ledger ∧
    (b = true → e.flow.opened = d.flow.opened ∧ (d.flow.region = 0 → ∀ i, i < 2 ^ 27 → e.memSlot 0 i = d.memSlot 0 i))

theorem region_of_ledger (h : e.ledger = d.ledger) : e.flow.region = d.flow.region := by
  have hr : e.ledger.region = d.ledger.region := by rw [h]
  exact hr

namespace rewrites

theorem refl : rewrites b d d := ⟨d.still, rfl, fun _ => ⟨rfl, fun _ _ _ => rfl⟩⟩

theorem trans (h : rewrites b d e) (g : rewrites b e f) : rewrites b d f := by
  obtain ⟨hm, hl, ho⟩ := h
  obtain ⟨gm, gl, go⟩ := g
  refine ⟨hm.trans gm, gl.trans hl, fun hb => ⟨(go hb).1.trans (ho hb).1, fun hr i hi => ?_⟩⟩
  rw [(go hb).2 ((region_of_ledger hl).trans hr) i hi, (ho hb).2 hr i hi]

end rewrites

/-! ### One slot -/

/-- The slot is held in its merger, in the entry of `base`. -/
def slotHeld (d : Dev) (s base : Nat) (even o : OpenSlot) : Dev :=
  d.setFlow { d.flow with opened := (d.flow.opened.set none base (some even)).set none s (some o) }

/-- The slot of the other region is written. -/
def slotCopied (d : Dev) (s v n : Nat) : Dev := (d.slotBursts (1 - d.flow.region) s n).setMemSlot (1 - d.flow.region) s v

theorem putSlot_cases {P : Dev → Prop} (hsame : v = d.slotAt b s → P d) (hcopied : b = true → ∀ n, P (d.slotCopied s v n))
    (hstored : b = false → d.openAt s = none → ∀ n, P (d.slotStore s v n))
    (hheld : b = false → ∀ base even o, o.value = v → even.value = d.slotAt false base → P (d.slotHeld s base even o)) : P (d.putSlot b s v) := by
  unfold putSlot
  extract_lets old lo hi half base o' o2 even
  split
  · next h => exact hsame h
  · split
    · next hb => exact hcopied hb _
    · next hb =>
      replace hb : b = false := by simpa using hb
      split
      · next hn =>
        refine hstored hb ?_ _
        have hi : (d.flow.opened.get none s).isNone = true := (Bool.and_eq_true_iff.mp hn).2
        exact Option.isNone_iff_eq_none.mp hi
      · refine hheld hb base even o2 rfl ?_
        show ((d.flow.opened.get none base).getD { value := d.slotAt false base }).value = d.slotAt false base
        cases h : d.flow.opened.get none base with
        | none => rfl
        | some u => simp only [Option.getD_some, slotAt, h]; rfl

theorem flow_slotCopied : (d.slotCopied s v n).flow = { d.flow with mem := d.flow.mem.set 0 ((1 - d.flow.region) * 2 ^ 27 + s) v } := by
  have h : (d.slotBursts (1 - d.flow.region) s n).flow = d.flow := moves_slotBursts.keeps_flow
  unfold slotCopied setMemSlot setFlow
  rw [h]

theorem moves_slotCopied : d.moves (d.slotCopied s v n) [.draws, .flow, .mem] [0x50] := by
  have h : d.moves (d.slotBursts (1 - d.flow.region) s n) [.draws, .flow, .mem] [0x50] := moves_slotBursts.mono rfl rfl
  exact h.set_flow

theorem memSlot_slotCopied (hr : d.flow.region = 0) (hi : i < 2 ^ 27) : (d.slotCopied s v n).memSlot 0 i = d.memSlot 0 i := by
  rw [memSlot, flow_slotCopied, memSlot]
  exact SMap.get_set_ne d.flow.mem 0 0 v (by omega)

theorem rewrites_putSlot : rewrites b d (d.putSlot b s v) := by
  refine putSlot_cases (P := rewrites b d) (fun _ => rewrites.refl) (fun _ n => ⟨moves_slotCopied, ?_, fun _ => ⟨?_, fun hr i hi => memSlot_slotCopied hr hi⟩⟩)
    (fun hb _ n => ⟨moves_slotStore, ?_, fun h => absurd (h.symm.trans hb) (by decide)⟩)
    (fun hb base even o _ _ => ⟨d.still.set_flow, rfl, fun h => absurd (h.symm.trans hb) (by decide)⟩)
  · rw [ledger, flow_slotCopied]
    rfl
  · rw [flow_slotCopied]
  · rw [ledger, flow_slotStore]
    rfl

/-! ### What a slot reads once it or another is written -/

theorem slotAt_true : d.slotAt true s = d.memSlot (1 - d.flow.region) s := rfl
theorem slotAt_false : d.slotAt false s = match d.openAt s with | some o => o.value | none => d.memSlot d.flow.region s := rfl

theorem slotAt_slotStore (h : d.openAt s = none) : (d.slotStore s v n).slotAt false t = if t = s then v else d.slotAt false t := by
  have ho : (d.slotStore s v n).openAt t = d.openAt t := openAt_congr (by rw [flow_slotStore])
  have hr : (d.slotStore s v n).flow.region = d.flow.region := by rw [flow_slotStore]
  rw [slotAt_false, slotAt_false, ho, hr, memSlot, memSlot, flow_slotStore]
  by_cases hts : t = s
  · rw [if_pos hts, hts, h]
    exact SMap.get_set_same d.flow.mem 0 _ v
  · rw [if_neg hts]
    split
    · rfl
    · exact SMap.get_set_ne d.flow.mem 0 0 v (by omega)

theorem openAt_slotHeld {base : Nat} {even : OpenSlot} : (d.slotHeld s base even o).openAt t =
    if t = s then some o else if t = base then some even else d.openAt t := by
  show ((d.flow.opened.set none base (some even)).set none s (some o)).get none t = _
  split
  · next h => rw [h, SMap.get_set_same]
  · next h =>
    rw [SMap.get_set_ne _ none none _ h]
    split
    · next hb => rw [hb, SMap.get_set_same]
    · next hb => rw [SMap.get_set_ne _ none none _ hb]; rfl

theorem slotAt_slotHeld {base : Nat} {even : OpenSlot} (hv : o.value = v) (he : even.value = d.slotAt false base) :
    (d.slotHeld s base even o).slotAt false t = if t = s then v else d.slotAt false t := by
  rw [slotAt_false, openAt_slotHeld]
  by_cases hts : t = s
  · rw [if_pos hts, if_pos hts, ← hv]
  · rw [if_neg hts, if_neg hts]
    by_cases hb : t = base
    · rw [if_pos hb, hb, ← he]
    · rw [if_neg hb]
      rfl

theorem slotAt_putSlot_false : (d.putSlot false s v).slotAt false t = if t = s then v else d.slotAt false t := by
  refine putSlot_cases (P := fun e => e.slotAt false t = if t = s then v else d.slotAt false t) (fun h => ?_) (fun h => absurd h (by decide))
    (fun _ h n => slotAt_slotStore h) (fun _ base even o hv he => slotAt_slotHeld hv he)
  split
  · next hts => rw [hts, h]
  · rfl

theorem slotAt_putSlot_true : (d.putSlot true s v).slotAt true t = if t = s then v else d.slotAt true t := by
  refine putSlot_cases (P := fun e => e.slotAt true t = if t = s then v else d.slotAt true t) (fun h => ?_) (fun _ n => ?_)
    (fun h => absurd h (by decide)) (fun h => absurd h (by decide))
  · split
    · next hts => rw [hts, h]
    · rfl
  · have hr : (d.slotCopied s v n).flow.region = d.flow.region := by rw [flow_slotCopied]
    rw [slotAt_true, slotAt_true, hr, memSlot, memSlot, flow_slotCopied]
    by_cases hts : t = s
    · rw [if_pos hts, hts]
      exact SMap.get_set_same d.flow.mem 0 _ v
    · rw [if_neg hts]
      exact SMap.get_set_ne d.flow.mem 0 0 v (by omega)

theorem slotAt_putSlot : (d.putSlot b s v).slotAt b t = if t = s then v else d.slotAt b t := by
  cases b with
  | false => exact slotAt_putSlot_false
  | true => exact slotAt_putSlot_true

/-! ### Kinds -/

/-- Each slot of the region in force keeps its kind or comes to hold nothing. -/
def fades (d e : Dev) : Prop := ∀ x, slotKind (e.slotAt false x) = 0 ∨ slotKind (e.slotAt false x) = slotKind (d.slotAt false x)

namespace fades

theorem refl : fades d d := fun _ => .inr rfl
theorem trans (h : fades d e) (g : fades e f) : fades d f := fun x => (g x).elim .inl fun hg => (h x).imp hg.trans hg.trans
theorem zero (h : fades d e) (hz : slotKind (d.slotAt false x) = 0) : slotKind (e.slotAt false x) = 0 := (h x).elim id fun hx => hx.trans hz
theorem of_flow (h : e.flow = d.flow) : fades d e := fun x => .inr (by rw [slotAt_congr h])

end fades

theorem fades_putSlot (h : slotKind v = 0 ∨ slotKind v = slotKind (d.slotAt b s)) : fades d (d.putSlot b s v) := by
  cases b with
  | false =>
    intro x
    rw [slotAt_putSlot_false]
    split
    · next hx => rwa [hx]
    · exact .inr rfl
  | true =>
    refine putSlot_cases (P := fades d) (fun _ => fades.refl) (fun _ n x => ?_) (fun h => absurd h (by decide)) (fun h => absurd h (by decide))
    have ho : (d.slotCopied s v n).openAt x = d.openAt x := openAt_congr (by rw [flow_slotCopied])
    have hr : (d.slotCopied s v n).flow.region = d.flow.region := by rw [flow_slotCopied]
    rw [slotAt_false, slotAt_false, ho, hr, memSlot, flow_slotCopied]
    split
    · exact .inr rfl
    · by_cases hc : d.flow.region * 2 ^ 27 + x = (1 - d.flow.region) * 2 ^ 27 + s
      · rw [hc, SMap.get_set_same, memSlot, hc]
        exact h
      · rw [SMap.get_set_ne _ _ _ _ hc]
        exact .inr rfl

end Dev
end Sys2Proof.Machine
end

section
set_option Elab.async false
/-! Pairs mended, records cleared and copied (R209, R217, R219): what they write. -/

namespace Sys2Proof.Machine.Dev
open Sys2Proof
variable {d e : Dev} {b wide : Bool} {s x v c r : Nat}

/-! ### Steps that write slots -/

namespace rewrites

/-- What leaves the flow table as it is writes no slot of it. -/
theorem of_moves (hm : d.moves e [.draws, .mem] [0x50]) : rewrites b d e := by
  have hf : e.flow = d.flow := hm.keeps_flow
  refine ⟨hm.mono rfl rfl, by rw [ledger, ledger, hf], fun _ => ⟨by rw [hf], fun _ i _ => ?_⟩⟩
  rw [memSlot, memSlot, hf]

theorem foldl {α : Type} {l : List α} {g : Dev → α → Dev} (hg : ∀ e a, rewrites b e (g e a)) : rewrites b d (l.foldl g d) :=
  List.foldlRecOn l g refl fun _ he _ _ => he.trans (hg _ _)

/-- The table of copies may change with the slots. -/
theorem copies {m : SMap (Option Nat)} (h : rewrites b d e) : rewrites b d (e.setFlow { e.flow with copies := m }) :=
  h.trans ⟨e.still.set_flow, rfl, fun _ => ⟨rfl, fun _ _ _ => rfl⟩⟩

end rewrites

theorem rewrites_fixPair : rewrites b d (d.fixPair b s) := rewrites_putSlot.trans rewrites_putSlot
theorem rewrites_fixPairs : rewrites b d (d.fixPairs b wide s) := rewrites.foldl fun _ _ => rewrites_fixPair
theorem rewrites_clearRecord : rewrites b d (d.clearRecord b s) := (rewrites.foldl fun _ _ => rewrites_putSlot).trans rewrites_fixPairs
theorem rewrites_dropCopy : rewrites true d (d.dropCopy c) := rewrites_clearRecord.copies

theorem rewrites_putRecord : rewrites b d (d.putRecord b s r) := by
  unfold putRecord
  split
  · exact rewrites_putSlot.trans rewrites_putSlot
  · exact rewrites_putSlot

theorem rewrites_mirrorRemove : rewrites true d (d.mirrorRemove s) := by
  unfold mirrorRemove
  split
  · exact rewrites_dropCopy
  · exact rewrites.refl

/-- Placement draws at most a random number. -/
theorem place_fst {gen home zone : Nat} {self : Option Nat} : (d.place gen b home wide zone self).1 = d ∨ (d.place gen b home wide zone self).1 = d.drawn := by
  unfold place
  extract_lets alt h a eh ea
  repeat' split
  exacts [.inl rfl, .inl rfl, .inl rfl, .inl rfl, .inl rfl, .inr rfl, .inr rfl, .inl rfl, .inl rfl]

theorem rewrites_place {gen home zone : Nat} {self : Option Nat} : rewrites true d (d.place gen b home wide zone self).1 := by
  rcases place_fst (d := d) (b := b) (wide := wide) (gen := gen) (home := home) (zone := zone) (self := self) with h | h
  · rw [h]
    exact rewrites.refl
  · rw [h]
    exact rewrites.of_moves (moves_drawn.mono rfl rfl)

/-- The copy of a record is put where it found room. -/
def recordMirrored (d : Dev) (s r home : Nat) (p : Option (Nat × List Nat)) : Dev :=
  match p with
  | none => d
  | some (c, out) => (((out.foldl Dev.dropCopy d).putRecord true c (recMark r (recWide r) (c ≠ home))).fixPairs true (recWide r) c).setCopy s (some c)

theorem mirrorInsert_eq : d.mirrorInsert s r =
    (d.place d.cgen true (d.homeOf d.flow.nkp d.flow.nkl (recConn r)) (recWide r) (rZone.get r) none).1.recordMirrored s r
      (d.homeOf d.flow.nkp d.flow.nkl (recConn r))
      (d.place d.cgen true (d.homeOf d.flow.nkp d.flow.nkl (recConn r)) (recWide r) (rZone.get r) none).2 := by
  unfold mirrorInsert recordMirrored
  dsimp only
  generalize d.place d.cgen true _ _ _ none = p
  obtain ⟨e, o⟩ := p
  cases o with
  | none => rfl
  | some q => rfl

theorem rewrites_recordMirrored {home : Nat} {p : Option (Nat × List Nat)} : rewrites true d (d.recordMirrored s r home p) := by
  unfold recordMirrored
  split
  · exact rewrites.refl
  · exact (((rewrites.foldl fun _ _ => rewrites_dropCopy).trans rewrites_putRecord).trans rewrites_fixPairs).copies

theorem rewrites_mirrorInsert : rewrites true d (d.mirrorInsert s r) := by
  rw [mirrorInsert_eq]
  exact rewrites_place.trans rewrites_recordMirrored

theorem rewrites_copySlot : rewrites true d (d.copySlot s) := by
  unfold copySlot
  dsimp only
  split
  · exact rewrites.refl
  · exact rewrites_mirrorInsert

theorem moves_walkRead : d.moves (d.walkRead s) [.draws, .mem] [0x50] := by
  unfold walkRead
  split
  · exact d.still
  · exact moves_slotRead

/-! ### What fades with them -/

namespace fades

theorem foldl {α : Type} {l : List α} {g : Dev → α → Dev} (hg : ∀ e a, fades e (g e a)) : fades d (l.foldl g d) :=
  List.foldlRecOn l g refl fun _ he _ _ => he.trans (hg _ _)

end fades

theorem mateOf_putSlot : (d.putSlot b s v).mateOf x = d.mateOf x := by
  have hm : (d.putSlot b s v).altMask = d.altMask := altMask_of_moves rewrites_putSlot.1 rfl
  rw [mateOf, mateOf, hm]

theorem fades_fixPair : fades d (d.fixPair b s) := by
  refine (fades_putSlot (.inr slotKind_slotMark)).trans (fades_putSlot (.inr ?_))
  rw [slotKind_slotMark, slotAt_putSlot, if_neg mateOf_ne]

theorem fades_fixPairs : fades d (d.fixPairs b wide s) := fades.foldl fun _ _ => fades_fixPair

/-- The slots of a record are emptied, its pairs not yet mended. -/
def slotsEmptied (b : Bool) (l : List Nat) (d : Dev) : Dev := l.foldl (fun d s => d.putSlot b s (slotClear (d.slotAt b s))) d

theorem clearRecord_eq : d.clearRecord b s =
    (slotsEmptied b (recSlots (slotKind (d.slotAt b s) = 2) s) d).fixPairs b (slotKind (d.slotAt b s) = 2) s := rfl

theorem fades_slotsEmptied {l : List Nat} : fades d (slotsEmptied b l d) := fades.foldl fun _ _ => fades_putSlot (.inl slotKind_slotClear)

theorem fades_clearRecord : fades d (d.clearRecord b s) := fades_slotsEmptied.trans fades_fixPairs

theorem fades_dropCopy : fades d (d.dropCopy c) := by
  have h : fades (d.clearRecord true c) (d.dropCopy c) := fun x => .inr rfl
  exact fades_clearRecord.trans h

theorem fades_mirrorRemove : fades d (d.mirrorRemove s) := by
  unfold mirrorRemove
  split
  · exact fades_dropCopy
  · exact fades.refl

/-- The first slot of a cleared record holds nothing. -/
theorem kind_clearRecord : slotKind ((d.clearRecord false s).slotAt false s) = 0 := by
  have hrec : ∃ l, recSlots (slotKind (d.slotAt false s) = 2) s = s :: l := by
    unfold recSlots
    split
    · exact ⟨_, rfl⟩
    · exact ⟨_, rfl⟩
  obtain ⟨l, hl⟩ := hrec
  have hput : slotKind ((d.putSlot false s (slotClear (d.slotAt false s))).slotAt false s) = 0 := by
    rw [slotAt_putSlot, if_pos rfl, slotKind_slotClear]
  have he : slotKind ((slotsEmptied false (recSlots (slotKind (d.slotAt false s) = 2) s) d).slotAt false s) = 0 := by
    rw [hl]
    exact (fades_slotsEmptied (l := l)).zero hput
  rw [clearRecord_eq]
  exact fades_fixPairs.zero he

theorem recordAt_zero (h : slotKind (d.slotAt b s) = 0) : d.recordAt b s = 0 := by
  unfold recordAt
  dsimp only
  rw [h, if_neg (by decide), if_neg (by decide)]

end Sys2Proof.Machine.Dev
end

section
set_option Elab.async false
/-! A record ends (R224, R226, R414 to R417): its slots are empty, the tandem hears of it, and a flow-end task carries it. -/

namespace Sys2Proof.Machine.Dev
open Sys2Proof
variable {d e : Dev} {s x c r home kind reason stamp key origin : Nat} {t : Task} {remote : Bool}

/-! ### The tandem hears of a change -/

theorem moves_journalPut : d.moves (d.journalPut home stamp) [.tandem] [0x58] :=
  (d.still.setFld (x := TNDM.STATE_JOURNAL_FULL)).raise.ite d.still.set_tandem

theorem moves_cacheChange : d.moves (d.cacheChange home key stamp origin) [.sw, .tandem] corePages := by
  unfold cacheChange
  extract_lets keep
  split
  · exact d.still.set_tandem.iteSelf fun h => h.andThen moves_tandemTo
  · exact d.still.set_tandem

theorem moves_replQueue {m : List Byte} : d.moves (d.replQueue m) [.sw, .tandem] corePages := by
  unfold replQueue
  split
  · exact moves_tandemTo
  · have h : d.moves (d.setTandem { d.tandem with queue := d.tandem.queue ++ [m] }) [.sw, .tandem] corePages := d.still.set_tandem
    exact h.andThen moves_replFlush

theorem moves_localChange : d.moves (d.localChange kind reason home s r) [.sw, .tandem] corePages := by
  unfold localChange
  extract_lets island st d1 told d2 d3
  have h1 : d.moves d1 [.sw, .tandem] corePages := d.still.andThen moves_journalPut
  have h2 : d.moves d2 [.sw, .tandem] corePages := (h1.set_tandem.ite h1).ite d.still
  have h3 : d.moves d3 [.sw, .tandem] corePages := h2.andThen moves_cacheChange
  exact h3.iteSelf fun h => h.andThen moves_replQueue

/-! ### A task is created -/

theorem moves_admitTask : d.moves (d.admitTask c t).1 [.draws, .mem, .eng] [0x32, 0x50] := by
  have hc : d.moves (d.taskCnt c 0) [.draws, .mem, .eng] [0x32, 0x50] := moves_taskCnt.mono rfl rfl
  cases hp : d.placeable c t.prio with
  | true =>
    rw [admitTask_placed hp]
    exact hc.andThen moves_placeTask
  | false =>
    rw [admitTask_spilled hp]
    exact hc.andThen moves_spill

theorem moves_createTask {m : Bool} : d.moves (d.createTask c t m).1 [.draws, .mem, .eng] [0x32, 0x50] := by
  have ht : d.moves d.tagUnit.1 [.draws, .mem, .eng] [0x32, 0x50] := moves_tagUnit.mono rfl rfl
  rw [createTask_eq]
  split
  · exact ht.andThen moves_admitTask
  · split
    · exact ht.set_eng.raise
    · exact (ht.andThen moves_taskCnt).raise

theorem moves_recordTask {args : List Byte} : d.moves (d.recordTask kind s home r args reason) [.draws, .mem, .eng] [0x32, 0x50] := by
  unfold recordTask
  split
  · exact d.still
  · exact moves_createTask

/-! ### The end of a record -/

/-- The parts and the pages that the end of a record moves. -/
abbrev endParts : List Part := [.draws, .flow, .mem, .sw, .tandem, .eng]
abbrev endPages : List Nat := 0x32 :: corePages

/-- The record's copy goes, and its slots are empty. -/
def recordCleared (d : Dev) (s : Nat) : Dev := (if d.behind s then d.mirrorRemove s else d).clearRecord false s

/-- The peer hears of the end, unless it asked for it, and a flow-end task carries the record. -/
def endTold (d : Dev) (s kind reason : Nat) (remote : Bool) (home r : Nat) : Dev :=
  (if remote then d else d.localChange kind reason home s r).recordTask 3 s home r (leBytes 1 reason) reason

theorem endRecord_eq : d.endRecord s kind reason remote =
    (d.recordCleared s).endTold s kind reason remote (d.homeSlot false s) (d.recordAt false s) := rfl

theorem moves_endTold : d.moves (d.endTold s kind reason remote home r) [.draws, .mem, .sw, .tandem, .eng] endPages := by
  have h : d.moves (if remote then d else d.localChange kind reason home s r) [.draws, .mem, .sw, .tandem, .eng] endPages :=
    d.still.ite (moves_localChange.mono rfl rfl)
  exact h.andThen moves_recordTask

theorem copyCleared_leaves : d.moves (if d.behind s then d.mirrorRemove s else d) [.draws, .flow, .mem] [0x50] ∧
    (if d.behind s then d.mirrorRemove s else d).ledger = d.ledger ∧ fades d (if d.behind s then d.mirrorRemove s else d) := by
  split
  · exact ⟨rewrites_mirrorRemove.1, rewrites_mirrorRemove.2.1, fades_mirrorRemove⟩
  · exact ⟨d.still, rfl, fades.refl⟩

theorem recordCleared_leaves : d.moves (d.recordCleared s) [.draws, .flow, .mem] [0x50] ∧ (d.recordCleared s).ledger = d.ledger ∧
    fades d (d.recordCleared s) ∧ slotKind ((d.recordCleared s).slotAt false s) = 0 := by
  obtain ⟨hm, hl, hf⟩ := copyCleared_leaves (d := d) (s := s)
  have hc := rewrites_clearRecord (d := if d.behind s then d.mirrorRemove s else d) (b := false) (s := s)
  exact ⟨hm.trans hc.1, hc.2.1.trans hl, hf.trans fades_clearRecord, kind_clearRecord⟩

theorem endRecord_leaves : d.moves (d.endRecord s kind reason remote) endParts endPages ∧
    (d.endRecord s kind reason remote).ledger = d.ledger ∧ fades d (d.endRecord s kind reason remote) ∧
    slotKind ((d.endRecord s kind reason remote).slotAt false s) = 0 := by
  obtain ⟨hm, hl, hf, hz⟩ := recordCleared_leaves (d := d) (s := s)
  have ht := moves_endTold (d := d.recordCleared s) (s := s) (kind := kind) (reason := reason) (remote := remote)
    (home := d.homeSlot false s) (r := d.recordAt false s)
  have hflow : (d.endRecord s kind reason remote).flow = (d.recordCleared s).flow := by
    rw [endRecord_eq]
    exact ht.keeps_flow
  rw [← endRecord_eq] at ht
  have hk : fades (d.recordCleared s) (d.endRecord s kind reason remote) := fades.of_flow hflow
  refine ⟨(hm.mono rfl rfl).trans (ht.mono rfl rfl), ?_, hf.trans hk, hk.zero hz⟩
  rw [ledger, hflow]
  exact hl

end Sys2Proof.Machine.Dev
end

section
set_option Elab.async false
/-! The ageing sweep (R225, R230): how a pass begins and is cut short, and the visit of a pair. -/

namespace Sys2Proof.Machine.Dev
open Sys2Proof
variable {d e : Dev} {s r : Nat}

/-! ### A pass -/

theorem moves_longRestart : d.moves d.longRestart [.spore] [] := d.still.iteSelf fun h => h.set_spore
theorem moves_sweepBegin : d.moves d.sweepBegin [.flow] [0x30] := d.still.set_flow.startOp

theorem flow_sweepBegin : d.sweepBegin.flow = { d.flow with pair := 0, began := d.clk.up, aborted := false } := setNum_flow _ _ _ _
theorem num_sweepBegin : d.sweepBegin.num FLOW.SWEEP_STAT = 1 := num_startOp _ _ _

theorem moves_sweepStart : d.moves d.sweepStart [.flow, .spore] [0x30] := by
  have h : d.moves d.longRestart [.flow, .spore] [0x30] := moves_longRestart.mono rfl rfl
  exact h.andThen moves_sweepBegin

theorem flow_sweepStart : d.sweepStart.flow = { d.flow with pair := 0, began := d.clk.up, aborted := false } := by
  rw [sweepStart, flow_sweepBegin, moves_longRestart.keeps_flow, moves_longRestart.keeps_clk]

/-- A pass that is cut short. -/
def sweepCut (d : Dev) : Dev := (d.setFlow { d.flow with aborted := true }).longRestart

theorem moves_sweepCut : d.moves d.sweepCut [.flow, .spore] [] := by
  have h : d.moves (d.setFlow { d.flow with aborted := true }) [.flow, .spore] [] := d.still.set_flow
  exact h.andThen moves_longRestart

theorem flow_sweepCut : d.sweepCut.flow = { d.flow with aborted := true } := moves_longRestart.keeps_flow

theorem spore_longRestart (h : e.spore = d.spore) : e.longRestart.spore = d.longRestart.spore := by
  unfold longRestart setSpore
  rw [h]
  split
  · rfl
  · exact h

theorem sweepAbort_running (h : d.opState FLOW.SWEEP_STAT = 1) : d.sweepAbort.opState FLOW.SWEEP_STAT = 3 ∧
    d.sweepAbort.flow = { d.flow with aborted := true } ∧ d.sweepAbort.spore = d.longRestart.spore ∧ d.moves d.sweepAbort [.flow, .spore] [0x30] := by
  refine ⟨opState_abortOp h fun x => ?_, ?_, ?_, d.still.abortOp fun h => h.andThen (moves_sweepCut)⟩
  · have hn : x.sweepCut.num FLOW.SWEEP_STAT = x.num FLOW.SWEEP_STAT := moves_sweepCut.num _ 0 rfl rfl
    exact congrArg (· % 8) hn
  · rw [sweepAbort, abortOp_running h, opEnd_flow]
    exact flow_sweepCut.trans (by rw [setNum_flow])
  · rw [sweepAbort, abortOp_running h, opEnd_spore]
    exact spore_longRestart (setNum_spore d FLOW.SWEEP_STAT (setBits (d.num FLOW.SWEEP_STAT) 0 3 3) 0)

/-! ### The visit of a pair -/

/-- The slots of the pair are read. -/
def visitRead (d : Dev) : Dev := (d.walkRead d.flow.pair).walkRead (d.mateOf d.flow.pair)

/-- The records of the pair are aged. -/
def visitAged (d : Dev) : Dev := (d.visitRead.sweepAge d.flow.pair).sweepAge (d.mateOf d.flow.pair)

/-- The sweeper goes on to the pair after `s`. -/
def sweepMoved (d : Dev) (s : Nat) : Dev :=
  let x := d.setFlow { d.flow with pair := s + 1 }
  x.setNum FLOW.SWEEP_STAT (setBits (x.num FLOW.SWEEP_STAT) 8 24 ((s + 1) / 16))

/-- The sweeper has visited pair `s`. -/
def visited (d : Dev) (s : Nat) : Dev := if (d.sweepMoved s).altMask ≤ s + 1 then (d.sweepMoved s).sweepEnd else d.sweepMoved s

/-- The time of the pair that the sweeper visits next. -/
def visitDue (d : Dev) : Nat := d.flow.began + d.fld FLOW.SWEEP_CFG_PERIOD * 10000000000 * d.flow.pair / d.altMask

theorem sweepVisit_due (ha : d.flow.aborted = false) (hr : d.opState FLOW.SWEEP_STAT = 1) (ht : d.visitDue ≤ d.clk.up)
    (hn : d.visitAged.on FLOW.SWEEP_CFG_NORMALISE = false) (hs : d.visitAged.on FLOW.SWEEP_CFG_SPILL_AUDIT = false) :
    d.sweepVisit = d.visitAged.visited d.flow.pair := by
  unfold visitAged visitRead at hn hs
  unfold visitDue at ht
  unfold sweepVisit
  dsimp only
  rw [ha, Bool.false_and, if_neg Bool.false_ne_true, if_neg (not_not.mpr hr), if_neg (Nat.not_lt.mpr ht), hn, if_neg Bool.false_ne_true, hs,
    if_neg Bool.false_ne_true, visitAged, visitRead]
  generalize (((d.walkRead d.flow.pair).walkRead (d.mateOf d.flow.pair)).sweepAge d.flow.pair).sweepAge (d.mateOf d.flow.pair) = x
  rfl

theorem sweepVisit_early (ha : d.flow.aborted = false) (ht : d.clk.up < d.visitDue) : d.sweepVisit = d := by
  unfold visitDue at ht
  unfold sweepVisit
  dsimp only
  rw [ha, Bool.false_and, if_neg Bool.false_ne_true, if_pos ht, ite_self]

theorem moves_visitRead : d.moves d.visitRead [.draws, .mem] [0x50] := moves_walkRead.andThen moves_walkRead

/-! #### The next pair -/

theorem moves_sweepMoved : d.moves (d.sweepMoved s) [.flow] [0x30] := d.still.set_flow.setNum

theorem altMask_sweepMoved : (d.sweepMoved s).altMask = d.altMask := by
  rw [altMask, altMask, sweepMoved, fld_setNum_apart _ _ _ _ _ _ rfl]
  rfl

theorem moves_sweepEnd : d.moves d.sweepEnd [.flow, .spore] [0x30] := by
  have h : d.moves ((d.endOp FLOW.SWEEP_STAT 0 2 (d.altMask / 16)).raise FLOW.int_SWEEP_DONE) [.flow, .spore] [0x30] := d.still.endOp.raise
  exact h.set_spore.andThen moves_sweepBegin

theorem raised_sweepBegin : d.sweepBegin.raised FLOW.int_SWEEP_DONE = d.raised FLOW.int_SWEEP_DONE :=
  raised_setNum_plain _ FLOW.SWEEP_STAT _ _ _ rfl

theorem raised_sweepEnd : d.sweepEnd.raised FLOW.int_SWEEP_DONE = true := raised_sweepBegin.trans (raised_raise_eq _ _ rfl)

theorem flow_sweepEnd : d.sweepEnd.flow = { d.flow with pair := 0, began := d.clk.up, aborted := false } := by
  have h : d.moves ((d.endOp FLOW.SWEEP_STAT 0 2 (d.altMask / 16)).raise FLOW.int_SWEEP_DONE) [] [0x30] := d.still.endOp.raise
  rw [← h.keeps_flow, ← h.keeps_clk]
  exact flow_sweepBegin

theorem visited_next (h : s + 1 < d.altMask) : (d.visited s).flow = { d.flow with pair := s + 1 } ∧
    bitsOf ((d.visited s).num FLOW.SWEEP_STAT) 8 24 = (s + 1) / 16 % 2 ^ 24 := by
  rw [visited, altMask_sweepMoved, if_neg (Nat.not_le.mpr h)]
  refine ⟨setNum_flow _ _ _ _, ?_⟩
  rw [sweepMoved, num_setNum_same, Nat.mod_eq_of_lt (setBits_lt _ _ _ _ _ (num_lt _ _ _) (by decide)), bitsOf_setBits_same]

theorem visited_last (h : d.altMask ≤ s + 1) : (d.visited s).flow = { d.flow with pair := 0, began := d.clk.up, aborted := false } ∧
    (d.visited s).raised FLOW.int_SWEEP_DONE = true ∧ (d.visited s).num FLOW.SWEEP_STAT = 1 := by
  rw [visited, altMask_sweepMoved, if_pos h]
  refine ⟨?_, raised_sweepEnd, num_sweepBegin⟩
  rw [flow_sweepEnd, moves_sweepMoved.keeps_clk, sweepMoved, setNum_flow]
  rfl

theorem moves_visited : d.moves (d.visited s) [.flow, .spore] [0x30] := by
  have h : d.moves (d.sweepMoved s) [.flow, .spore] [0x30] := moves_sweepMoved.mono rfl rfl
  exact h.iteSelf fun h => h.andThen moves_sweepEnd

/-! #### Nothing is due -/

theorem recDue_congr (hf : e.flow.pair = d.flow.pair) (hs : e.spore = d.spore) (hc : e.clk = d.clk)
    (ht : e.timeoutOf r = d.timeoutOf r) : e.recDue r = d.recDue r := by
  unfold recDue longNow ageOf now64
  rw [hf, hs, hc, ht]

theorem plain_timeout {i j : Nat} (hi : i < 64) (hj : j < 8) : (FLOW.TIMEOUT.ix2 i j).plain = true := by
  have ho : (FLOW.TIMEOUT.ix2 i j).off = 0x800 + 32 * i + 4 * j := rfl
  have hp : (FLOW.TIMEOUT.ix2 i j).page = 0x30 := rfl
  rw [Reg.plain, ho, hp]
  simp
  omega

theorem rProfile_lt : rProfile.get r < 64 := by
  unfold RecFld.get
  split
  · exact bitsOf_lt _ _ _
  · exact bitsOf_lt _ _ _

theorem timeoutOf_of_moves {P : List Part} {G : List Nat} (hm : d.moves e P G) (hg : G.contains 0x30 = false) : e.timeoutOf r = d.timeoutOf r := by
  unfold timeoutOf
  dsimp only
  rw [hm.num (FLOW.TIMEOUT.ix2 _ _) 0 (plain_timeout rProfile_lt (by omega)) hg]

theorem recDue_of_walk (hm : d.moves e [.draws, .mem] [0x50]) : e.recDue r = d.recDue r :=
  recDue_congr (by rw [hm.keeps_flow]) hm.keeps_spore hm.keeps_clk (timeoutOf_of_moves hm rfl)

theorem sweepAge_notDue (h : d.recordAt false s = 0 ∨ d.recDue (d.recordAt false s) = false) : d.sweepAge s = d := by
  unfold sweepAge
  dsimp only
  exact if_pos (h.imp_right fun h => by rw [h]; rfl)

theorem visitAged_notDue (h : ∀ x, x = d.flow.pair ∨ x = d.mateOf d.flow.pair → d.recordAt false x = 0 ∨ d.recDue (d.recordAt false x) = false) :
    d.visitAged = d.visitRead := by
  have hm := moves_visitRead (d := d)
  have hx : ∀ x, x = d.flow.pair ∨ x = d.mateOf d.flow.pair → d.visitRead.sweepAge x = d.visitRead := fun x hx => by
    have hrec : d.visitRead.recordAt false x = d.recordAt false x :=
      recordAt_congr (by rw [hm.keeps_flow]) (by rw [hm.keeps_flow]) (by rw [hm.keeps_flow])
    refine sweepAge_notDue ?_
    rw [hrec, recDue_of_walk hm]
    exact h x hx
  rw [visitAged, hx _ (.inl rfl), hx _ (.inr rfl)]

end Sys2Proof.Machine.Dev

namespace Sys2Proof.Machine
open Sys2Proof
variable {s : State} {p : Dev → Prop}

theorem gives_sweepVisit (hon : s.Awake) (hw : s.dev.sweeperOn = true) (h : p (s.dev.under s.dev.sweepVisit)) : Gives .sweepPairVisit s p :=
  gives_runWhen (f := Dev.sweepVisit) rfl hon hw h

theorem gives_visitNotDue (hon : s.Awake) (hw : s.dev.sweeperOn = true) (hr : s.dev.opState FLOW.SWEEP_STAT = 1)
    (ha : s.dev.flow.aborted = false) (ht : s.dev.visitDue ≤ s.dev.clk.up)
    (h : ∀ x, x = s.dev.flow.pair ∨ x = s.dev.mateOf s.dev.flow.pair →
      s.dev.recordAt false x = 0 ∨ s.dev.recDue (s.dev.recordAt false x) = false)
    (hn : s.dev.on FLOW.SWEEP_CFG_NORMALISE = false) (hs : s.dev.on FLOW.SWEEP_CFG_SPILL_AUDIT = false) :
    Gives .sweepPairVisit s fun d =>
      (s.dev.flow.pair + 1 < s.dev.altMask → d.flow = { s.dev.flow with pair := s.dev.flow.pair + 1 } ∧
        bitsOf (d.num FLOW.SWEEP_STAT) 8 24 = (s.dev.flow.pair + 1) / 16 % 2 ^ 24) ∧
      (s.dev.altMask ≤ s.dev.flow.pair + 1 → d.flow = { s.dev.flow with pair := 0, began := s.dev.clk.up, aborted := false } ∧
        d.raised FLOW.int_SWEEP_DONE = true ∧ d.num FLOW.SWEEP_STAT = 1) ∧
      s.dev.moves d [.draws, .flow, .mem, .spore] [0x30, 0x50] := by
  have hv := Dev.visitAged_notDue h
  have hr1 := Dev.moves_visitRead (d := s.dev)
  have hm : s.dev.moves (s.dev.visitRead.visited s.dev.flow.pair) [.draws, .flow, .mem, .spore] [0x30, 0x50] :=
    (hr1.mono rfl rfl).trans (Dev.moves_visited.mono rfl rfl)
  refine gives_sweepVisit hon hw ?_
  rw [Dev.sweepVisit_due ha hr ht (by rw [hv, hr1.on _ 0 rfl rfl, hn]) (by rw [hv, hr1.on _ 0 rfl rfl, hs]), hv, hm.under_eq]
  have hnext := Dev.visited_next (d := s.dev.visitRead) (s := s.dev.flow.pair)
  have hlast := Dev.visited_last (d := s.dev.visitRead) (s := s.dev.flow.pair)
  rw [Dev.altMask_of_moves hr1 rfl, hr1.keeps_flow] at hnext hlast
  rw [hr1.keeps_clk] at hlast
  exact ⟨hnext, hlast, hm⟩

end Sys2Proof.Machine
end

section
set_option Elab.async false
/-! The ageing sweep (R225): a record that is due is removed. -/

namespace Sys2Proof.Machine.Dev
open Sys2Proof
variable {d e : Dev} {s x : Nat}

/-! ### The visit leaves slots and counts as they are -/

theorem table_visited : (d.visited s).flow.mem = d.flow.mem ∧ (d.visited s).flow.opened = d.flow.opened ∧
    (d.visited s).flow.region = d.flow.region := by
  rcases Nat.lt_or_ge (s + 1) d.altMask with h | h
  · rw [(visited_next h).1]
    exact ⟨rfl, rfl, rfl⟩
  · rw [(visited_last h).1]
    exact ⟨rfl, rfl, rfl⟩

theorem recordAt_visited : (d.visited s).recordAt false x = d.recordAt false x :=
  recordAt_congr table_visited.1 table_visited.2.1 table_visited.2.2

theorem num_sweepMoved {r : Reg} (hr : r.apart FLOW.SWEEP_STAT = true := by rfl) : (d.sweepMoved s).num r = d.num r :=
  num_setNum_apart _ _ _ _ _ _ hr

theorem num_sweepEnd {r : Reg} (hr : r.apart FLOW.SWEEP_STAT = true := by rfl) (hp : r.plain = true := by rfl) : d.sweepEnd.num r = d.num r := by
  have h : d.sweepEnd.num r = ((d.endOp FLOW.SWEEP_STAT 0 2 (d.altMask / 16)).raise FLOW.int_SWEEP_DONE).num r :=
    num_setNum_apart _ _ _ _ _ _ hr
  rw [h, num_raise_plain _ _ _ _ hp, endOp, num_opEnd_plain _ _ _ _ _ _ hp, num_setNum_apart _ _ _ _ _ _ hr]

theorem num_visited {r : Reg} (hr : r.apart FLOW.SWEEP_STAT = true := by rfl) (hp : r.plain = true := by rfl) : (d.visited s).num r = d.num r := by
  unfold visited
  split
  · rw [num_sweepEnd hr hp, num_sweepMoved hr]
  · exact num_sweepMoved hr

/-! ### A record that is due -/

/-- The record at `s` is aged. -/
def recordAged (d : Dev) (s : Nat) : Dev := (d.flowCnt 10).endRecord s 2 1 false

theorem heldBy_congr (hf : e.flow = d.flow) (he : e.eng = d.eng) {n : Nat} : e.heldBy s n none = d.heldBy s n none := by
  have hr : e.recordAt false s = d.recordAt false s := recordAt_congr (by rw [hf]) (by rw [hf]) (by rw [hf])
  unfold heldBy
  dsimp only
  rw [hr, he]

theorem sweepAge_due (hr : d.recordAt false s ≠ 0) (hd : d.recDue (d.recordAt false s) = true)
    (hh : d.heldBy s (d.flow.served + 1) none = false) (ht : d.tState ≠ 5) : d.sweepAge s = d.recordAged s := by
  have hu : d.ownUpdate (.age s) = d.ageApply s := if_neg (by
    show ¬ d.heldBy s (d.flow.served + 1) none = true
    rw [hh]
    decide)
  have ha : d.ageApply s = d.recordAged s := if_pos ⟨hr, hd⟩
  unfold sweepAge
  dsimp only
  rw [if_neg (by rw [hd]; simpa using hr), if_neg ht, hu, ha]

theorem recordAged_leaves : (d.flowCnt 10).moves (d.recordAged s) endParts endPages ∧ fades d (d.recordAged s) ∧
    slotKind ((d.recordAged s).slotAt false s) = 0 := by
  obtain ⟨hm, -, hf, hz⟩ := endRecord_leaves (d := d.flowCnt 10) (s := s) (kind := 2) (reason := 1) (remote := false)
  have hc : fades d (d.flowCnt 10) := fades.of_flow (bump_flow _ _ _ _)
  exact ⟨hm, hc.trans hf, hz⟩

theorem on_recordAged {y : Fld} (hp : y.reg.plain = true := by rfl) (hr : y.reg.apart (FLOW.CNT.ix 10) = true := by rfl)
    (hg : endPages.contains y.reg.page = false := by rfl) : (d.recordAged s).on y = d.on y := by
  rw [recordAged_leaves.1.on y 0 hp hg]
  exact on_bump_apart _ _ _ _ _ _ hr

theorem visitAged_due (hr : d.recordAt false d.flow.pair ≠ 0) (hd : d.recDue (d.recordAt false d.flow.pair) = true)
    (hh : d.heldBy d.flow.pair (d.flow.served + 1) none = false) (ht : d.tState ≠ 5) (hm : d.slotAt false (d.mateOf d.flow.pair) = 0) :
    d.visitAged = d.visitRead.recordAged d.flow.pair := by
  have hv := moves_visitRead (d := d)
  have hrec : d.visitRead.recordAt false d.flow.pair = d.recordAt false d.flow.pair :=
    recordAt_congr (by rw [hv.keeps_flow]) (by rw [hv.keeps_flow]) (by rw [hv.keeps_flow])
  have hage : d.visitRead.sweepAge d.flow.pair = d.visitRead.recordAged d.flow.pair := by
    refine sweepAge_due (hrec ▸ hr) (by rw [hrec, recDue_of_walk hv, hd]) ?_ ?_
    · rw [heldBy_congr hv.keeps_flow hv.keeps_eng, hv.keeps_flow, hh]
    · rw [tState, hv.fld TNDM.STATE_STATE 0 rfl rfl]
      exact ht
  have hmate : slotKind (d.visitRead.slotAt false (d.mateOf d.flow.pair)) = 0 := by
    rw [slotAt_congr hv.keeps_flow, hm]
    rfl
  rw [visitAged, hage]
  exact sweepAge_notDue (.inl (recordAt_zero (recordAged_leaves.2.1.zero hmate)))

end Sys2Proof.Machine.Dev

namespace Sys2Proof.Machine
open Sys2Proof
variable {s : State}

theorem gives_visitAges (hon : s.Awake) (hw : s.dev.sweeperOn = true) (hr : s.dev.opState FLOW.SWEEP_STAT = 1)
    (ha : s.dev.flow.aborted = false) (ht : s.dev.visitDue ≤ s.dev.clk.up) (hz : s.dev.recordAt false s.dev.flow.pair ≠ 0)
    (hd : s.dev.recDue (s.dev.recordAt false s.dev.flow.pair) = true)
    (hh : s.dev.heldBy s.dev.flow.pair (s.dev.flow.served + 1) none = false) (h5 : s.dev.tState ≠ 5)
    (hm : s.dev.slotAt false (s.dev.mateOf s.dev.flow.pair) = 0)
    (hn : s.dev.on FLOW.SWEEP_CFG_NORMALISE = false) (hs : s.dev.on FLOW.SWEEP_CFG_SPILL_AUDIT = false) :
    Gives .sweepPairVisit s fun d => d.recordAt false s.dev.flow.pair = 0 ∧
      d.num (FLOW.CNT.ix 10) = (s.dev.num (FLOW.CNT.ix 10) + 1) % 2 ^ 32 := by
  have hv := Dev.visitAged_due hz hd hh h5 hm
  have hr1 := Dev.moves_visitRead (d := s.dev)
  obtain ⟨hage, -, hkind⟩ := Dev.recordAged_leaves (d := s.dev.visitRead) (s := s.dev.flow.pair)
  have hcnt : s.dev.moves (s.dev.visitRead.flowCnt 10) (.spore :: Dev.endParts) (0x30 :: Dev.endPages) :=
    (show s.dev.moves s.dev.visitRead (.spore :: Dev.endParts) (0x30 :: Dev.endPages) from hr1.mono rfl rfl).bump (r := FLOW.CNT.ix 10)
  have hmv := (hcnt.andThen hage).andThen (Dev.moves_visited (s := s.dev.flow.pair))
  refine gives_sweepVisit hon hw ?_
  rw [Dev.sweepVisit_due ha hr ht (by rw [hv, Dev.on_recordAged, hr1.on _ 0 rfl rfl, hn]) (by rw [hv, Dev.on_recordAged, hr1.on _ 0 rfl rfl, hs]),
    hv, hmv.under_eq]
  refine ⟨Dev.recordAt_visited.trans (Dev.recordAt_zero hkind), ?_⟩
  rw [Dev.num_visited, hage.num (FLOW.CNT.ix 10) 0 rfl rfl, Dev.flowCnt, Dev.num_bump_eq, hr1.num (FLOW.CNT.ix 10) 0 rfl rfl]

/-! ### How a pass is ordered and cut short -/

theorem gives_sweepStart (ho : s.Opens 0x30) : Gives .sweepStart s fun d => d.num FLOW.SWEEP_STAT = 1 ∧
    d.flow = { s.dev.flow with pair := 0, began := s.dev.clk.up, aborted := false } ∧ d.spore = s.dev.longRestart.spore ∧
    s.dev.moves d [.flow, .spore] [0x30] := by
  refine gives_access (f := Dev.sweepStart) rfl ho ?_
  rw [Dev.moves_sweepStart.under_eq]
  exact ⟨Dev.num_sweepBegin, Dev.flow_sweepStart, Dev.moves_sweepBegin.keeps_spore, Dev.moves_sweepStart⟩

theorem gives_sweepAbort (ho : s.Opens 0x30) (h : s.dev.opState FLOW.SWEEP_STAT = 1) :
    Gives .sweepAbort s fun d => d.opState FLOW.SWEEP_STAT = 3 ∧ d.flow = { s.dev.flow with aborted := true } ∧
      d.spore = s.dev.longRestart.spore ∧ s.dev.moves d [.flow, .spore] [0x30] := by
  obtain ⟨hst, hf, hsp, hm⟩ := Dev.sweepAbort_running h
  refine gives_access (f := Dev.sweepAbort) rfl ho ?_
  rw [hm.under_eq]
  exact ⟨hst, hf, hsp, hm⟩

theorem gives_sweepAbortLate (ho : s.Opens 0x30) (h : s.dev.opState FLOW.SWEEP_STAT = 2) :
    Gives .sweepAbort s fun d => d.opState FLOW.SWEEP_STAT = 2 ∧ bitOf (d.num FLOW.SWEEP_STAT) 3 = true ∧ s.dev.onlyRegs d := by
  have hm {v : Nat} : s.dev.moves (s.dev.setNum FLOW.SWEEP_STAT v) [] [0x30] := s.dev.still.setNum
  refine gives_access (f := Dev.sweepAbort) rfl ho ?_
  rw [Dev.sweepAbort, Dev.abortOp_complete h, hm.under_eq]
  refine ⟨(Dev.opState_setNum_setBits (by decide) (by decide)).trans h, ?_, ?_⟩
  · rw [Dev.num_setNum_same, Nat.mod_eq_of_lt (setBits_lt _ _ _ _ _ (Dev.num_lt _ _ _) (by decide))]
    have hb := bitsOf_setBits_same (s.dev.num FLOW.SWEEP_STAT) 3 1 1
    exact decide_eq_true hb
  · rfl

end Sys2Proof.Machine
end

section
set_option Elab.async false
/-! A rebuild (R217): how it begins and is given up, and new keys for an empty table. -/

namespace Sys2Proof.Machine.Dev
open Sys2Proof
variable {d e : Dev} {i r x y : Nat}

/-! ### Region B -/

theorem memSlot_clearRegion (hi : i < 2 ^ 27) : (d.clearRegion x).memSlot r i = if r = x then 0 else d.memSlot r i := by
  have hk : (r * 2 ^ 27 + i) / 2 ^ 27 = r := by omega
  have hg := smapGet_filter (p := fun k => decide (k / 2 ^ 27 ≠ x)) (x := 0) (k := r * 2 ^ 27 + i) d.flow.mem
  rw [hk] at hg
  by_cases hr : r = x
  · rw [if_pos hr]
    refine hg.trans (if_neg ?_)
    simpa using hr
  · rw [if_neg hr]
    refine hg.trans (if_pos ?_)
    simpa using hr

/-! ### GO -/

/-- The rebuild's place in the table when it begins. -/
theorem table_rebuildStart : (d.rebuildStart x y).flow.copied = false ∧ (d.rebuildStart x y).flow.region = d.flow.region ∧
    (d.rebuildStart x y).memSlot r i = (d.clearRegion (1 - d.flow.region)).memSlot r i := by
  unfold rebuildStart
  dsimp only
  rw [setFlow, memSlot]
  dsimp only
  rw [startOp, setNum_flow]
  exact ⟨rfl, rfl, rfl⟩

/-- A rebuild under keys that are drawn. -/
def rebuildDrawn (d : Dev) : Dev := d.drawn.rebuildStart d.newKeys.1 d.newKeys.2

theorem rebuildGo_starts (h : d.rebuilding = false) (hr : d.opState MEMC.RETIRE_STAT ≠ 1) : d.rebuildGo = d.rebuildDrawn :=
  if_neg (by rw [h, decide_eq_false hr]; decide)

theorem rebuildGo_ignored (h : d.rebuilding = true ∨ d.opState MEMC.RETIRE_STAT = 1) : d.rebuildGo = d :=
  if_pos (by rw [Bool.or_eq_true, decide_eq_true_eq]; exact h)

theorem moves_rebuildDrawn : d.moves d.rebuildDrawn [.draws, .flow] [0x30] := by
  have h : d.moves d.drawn [.draws, .flow] [0x30] := moves_drawn.mono rfl rfl
  exact h.andThen moves_rebuildStart

theorem draws_rebuildDrawn : d.rebuildDrawn.draws = d.draws + 1 := moves_rebuildStart.keeps_draws

/-! ### The abort -/

/-- Region B is discarded, and with it what tells of the rebuild. -/
def rebuildCut (d : Dev) : Dev :=
  (d.clearRegion (1 - d.flow.region)).setFlow
    { (d.clearRegion (1 - d.flow.region)).flow with cursor := 0, copied := false, switchNs := none, copies := [] }

theorem moves_rebuildCut : d.moves d.rebuildCut [.flow] [] := d.still.set_flow.set_flow
theorem ledger_rebuildCut : d.rebuildCut.flow.kp = d.flow.kp ∧ d.rebuildCut.flow.kl = d.flow.kl ∧ d.rebuildCut.flow.region = d.flow.region ∧
    d.rebuildCut.flow.switchNs = none := ⟨rfl, rfl, rfl, rfl⟩
theorem memSlot_rebuildCut : d.rebuildCut.memSlot r i = (d.clearRegion (1 - d.flow.region)).memSlot r i := rfl

theorem rebuildAbort_running (h : d.opState FLOW.REBUILD_STAT = 1) : d.rebuildAbort.opState FLOW.REBUILD_STAT = 3 ∧
    d.rebuildAbort.flow = d.rebuildCut.flow ∧ d.moves d.rebuildAbort [.flow] [0x30] := by
  refine ⟨opState_abortOp h fun x => ?_, ?_, d.still.abortOp fun h => h.andThen moves_rebuildCut⟩
  · have hn : x.rebuildCut.num FLOW.REBUILD_STAT = x.num FLOW.REBUILD_STAT := moves_rebuildCut.num _ 0 rfl rfl
    exact congrArg (· % 8) hn
  · rw [rebuildAbort, abortOp_running h, opEnd_flow]
    have hf := setNum_flow d FLOW.REBUILD_STAT (setBits (d.num FLOW.REBUILD_STAT) 0 3 3) 0
    show (d.setNum FLOW.REBUILD_STAT (setBits (d.num FLOW.REBUILD_STAT) 0 3 3) 0).rebuildCut.flow = d.rebuildCut.flow
    unfold rebuildCut clearRegion
    generalize d.setNum FLOW.REBUILD_STAT (setBits (d.num FLOW.REBUILD_STAT) 0 3 3) 0 = z at hf
    unfold setFlow
    dsimp only
    rw [hf]

/-! ### New keys for an empty table -/

/-- New keys that are drawn. -/
def rekeyed (d : Dev) : Dev := d.drawn.setKeys d.newKeys.1 d.newKeys.2

theorem rekey_empty (h : d.flowOcc = 0) (hr : d.rebuilding = false) : d.rekey = d.rekeyed := if_neg (by simp [h, hr])
theorem rekey_ignored (h : d.flowOcc ≠ 0 ∨ d.rebuilding = true) : d.rekey = d :=
  if_pos (by rw [Bool.or_eq_true, decide_eq_true_eq]; exact h)

theorem moves_rekeyed : d.moves d.rekeyed [.draws, .flow] [0x30] := by
  have h : d.moves d.drawn [.draws, .flow] [0x30] := moves_drawn.mono rfl rfl
  exact h.andThen moves_setKeys

theorem gen_setKeys : (d.setKeys x y).fld FLOW.KEY_STAT_KEY_GEN = (d.fld FLOW.KEY_STAT_KEY_GEN + 1) % 256 := by
  unfold setKeys
  dsimp only
  rw [fld_setFld_eq _ _ _ _ rfl]
  rfl

end Sys2Proof.Machine.Dev

namespace Sys2Proof.Machine
open Sys2Proof
variable {s : State}

theorem gives_rebuildGo (ho : s.Opens 0x30) (h : s.dev.rebuilding = false) (hr : s.dev.opState MEMC.RETIRE_STAT ≠ 1) :
    Gives .rebuildGo s fun d => d.num FLOW.REBUILD_STAT = 1 ∧ d.draws = s.dev.draws + 1 ∧ d.flow.cursor = 0 ∧ d.flow.copied = false ∧
      d.flow.nkp = (Config.rng s.dev.draws).toNat % 2 ^ 128 ∧ d.flow.nkl = (Config.rng s.dev.draws).toNat / 2 ^ 128 % 2 ^ 128 ∧
      d.flow.kp = s.dev.flow.kp ∧ d.flow.region = s.dev.flow.region ∧
      (∀ i, i < 2 ^ 27 → d.memSlot s.dev.flow.region i = s.dev.memSlot s.dev.flow.region i) ∧ s.dev.moves d [.draws, .flow] [0x30] := by
  have hm := Dev.moves_rebuildDrawn (d := s.dev)
  obtain ⟨hnkp, hnkl, hkp, hcur⟩ := Dev.flow_rebuildStart (d := s.dev.drawn) (x := s.dev.newKeys.1) (y := s.dev.newKeys.2)
  refine gives_access (f := Dev.rebuildGo) rfl ho ?_
  rw [Dev.rebuildGo_starts h hr, hm.under_eq]
  refine ⟨Dev.num_rebuildStart, Dev.draws_rebuildDrawn, hcur, Dev.table_rebuildStart (r := 0) (i := 0).1, hnkp, hnkl, hkp,
    Dev.table_rebuildStart (r := 0) (i := 0).2.1, fun i hi => ?_, hm⟩
  refine Dev.table_rebuildStart.2.2.trans ((Dev.memSlot_clearRegion hi).trans (if_neg ?_))
  show s.dev.flow.region ≠ 1 - s.dev.flow.region
  omega

theorem gives_rebuildAbort (ho : s.Opens 0x30) (h : s.dev.opState FLOW.REBUILD_STAT = 1) :
    Gives .rebuildAbort s fun d => d.opState FLOW.REBUILD_STAT = 3 ∧ d.flow.kp = s.dev.flow.kp ∧ d.flow.kl = s.dev.flow.kl ∧
      d.flow.region = s.dev.flow.region ∧ d.flow.switchNs = none ∧
      (∀ i, i < 2 ^ 27 → d.memSlot (1 - s.dev.flow.region) i = 0 ∧
        (s.dev.flow.region ≤ 1 → d.memSlot s.dev.flow.region i = s.dev.memSlot s.dev.flow.region i)) ∧ s.dev.moves d [.flow] [0x30] := by
  obtain ⟨hst, hf, hm⟩ := Dev.rebuildAbort_running h
  refine gives_access (f := Dev.rebuildAbort) rfl ho ?_
  rw [hm.under_eq]
  have hslot {r i : Nat} : s.dev.rebuildAbort.memSlot r i = (s.dev.clearRegion (1 - s.dev.flow.region)).memSlot r i :=
    (Dev.memSlot_congr (by rw [hf])).trans Dev.memSlot_rebuildCut
  refine ⟨hst, ?_, ?_, ?_, ?_, fun i hi => ⟨?_, fun hr => ?_⟩, hm⟩
  · rw [hf]
    rfl
  · rw [hf]
    rfl
  · rw [hf]
    rfl
  · rw [hf]
    rfl
  · rw [hslot, Dev.memSlot_clearRegion hi, if_pos rfl]
  · rw [hslot, Dev.memSlot_clearRegion hi, if_neg (by omega)]

theorem gives_rekey (ho : s.Opens 0x30) (h : s.dev.flowOcc = 0) (hr : s.dev.rebuilding = false) :
    Gives .rekey s fun d => d.flow.kp = (Config.rng s.dev.draws).toNat % 2 ^ 128 ∧
      d.flow.kl = (Config.rng s.dev.draws).toNat / 2 ^ 128 % 2 ^ 128 ∧ d.on FLOW.KEY_STAT_VALID = true ∧
      d.fld FLOW.KEY_STAT_KEY_GEN = (s.dev.fld FLOW.KEY_STAT_KEY_GEN + 1) % 256 ∧ s.dev.moves d [.draws, .flow] [0x30] := by
  have hm := Dev.moves_rekeyed (d := s.dev)
  have hf : s.dev.rekeyed.flow = { s.dev.drawn.flow with kp := s.dev.newKeys.1, kl := s.dev.newKeys.2 } := Dev.flow_setKeys
  refine gives_access (f := Dev.rekey) rfl ho ?_
  rw [Dev.rekey_empty h hr, hm.under_eq]
  refine ⟨?_, ?_, Dev.valid_setKeys, Dev.gen_setKeys, hm⟩
  · rw [hf]
    rfl
  · rw [hf]
    rfl

end Sys2Proof.Machine
end

section
set_option Elab.async false
/-! A rebuild (R217): the copy of a pair, and the switch. -/

namespace Sys2Proof.Machine.Dev
open Sys2Proof
variable {d e : Dev} {s i : Nat}

theorem kept_of_ledger (h : e.ledger = d.ledger) : e.flow.kp = d.flow.kp ∧ e.flow.kl = d.flow.kl ∧ e.flow.nkp = d.flow.nkp ∧
    e.flow.nkl = d.flow.nkl ∧ e.flow.region = d.flow.region := by
  have hf {α : Type} (f : FlowSt → α) : f e.ledger = f d.ledger := by rw [h]
  exact ⟨hf FlowSt.kp, hf FlowSt.kl, hf FlowSt.nkp, hf FlowSt.nkl, hf FlowSt.region⟩

/-! ### The copy of a pair -/

/-- The records of the pair at the cursor are copied. -/
def pairCopied (d : Dev) : Dev :=
  (((d.walkRead d.flow.cursor).walkRead (d.mateOf d.flow.cursor)).copySlot d.flow.cursor).copySlot (d.mateOf d.flow.cursor)

/-- The progress of the copy, with pair `s`. -/
def copyCounted (d : Dev) (s : Nat) : Dev := d.setNum FLOW.REBUILD_STAT (setBits (d.num FLOW.REBUILD_STAT) 8 24 ((s + 1) / 16))

/-- The cursor goes on to the pair after `s`; behind the last a time is set for the switch. -/
def cursorMoved (d : Dev) (s : Nat) : Dev :=
  if d.altMask ≤ s + 1 then
    d.setFlow { d.flow with cursor := s + 1, copied := true, switchNs := some ((d.nowNs + 999) / 1000 * 1000) }
  else d.setFlow { d.flow with cursor := s + 1 }

theorem rebuildCopy_closed (hr : d.rebuilding = true) (hc : d.flow.copied = false) (ho : d.openPair d.flow.cursor = false) :
    d.rebuildCopy = (d.pairCopied.copyCounted d.flow.cursor).cursorMoved d.flow.cursor := by
  unfold rebuildCopy
  dsimp only
  rw [hr, hc, if_neg (by decide), ho, if_neg (by decide), pairCopied]
  generalize (((d.walkRead d.flow.cursor).walkRead (d.mateOf d.flow.cursor)).copySlot d.flow.cursor).copySlot (d.mateOf d.flow.cursor) = x
  rfl

theorem rebuildCopy_open (ho : d.openPair d.flow.cursor = true) : d.rebuildCopy = d := by
  unfold rebuildCopy
  dsimp only
  rw [ho, if_pos rfl, ite_self]

theorem rebuildCopy_over (h : d.rebuilding = false ∨ d.flow.copied = true) : d.rebuildCopy = d := by
  unfold rebuildCopy
  refine if_pos ?_
  rcases h with h | h
  · rw [h]
    rfl
  · rw [h, Bool.or_true]

theorem rewrites_pairCopied : rewrites true d d.pairCopied :=
  ((rewrites.of_moves (moves_walkRead.andThen moves_walkRead)).trans rewrites_copySlot).trans rewrites_copySlot

theorem moves_copyCounted : d.moves (d.copyCounted s) [] [0x30] := d.still.setNum

theorem altMask_copyCounted : (d.copyCounted s).altMask = d.altMask := by
  rw [altMask, altMask, copyCounted, fld_setNum_apart _ _ _ _ _ _ rfl]

theorem moves_cursorMoved : d.moves (d.cursorMoved s) [.flow] [] := (d.still.set_flow).ite d.still.set_flow

theorem moves_pairDone : d.moves ((d.pairCopied.copyCounted s).cursorMoved s) [.draws, .flow, .mem] [0x30, 0x50] := by
  have h : d.moves d.pairCopied [.draws, .flow, .mem] [0x30, 0x50] := rewrites_pairCopied.1.mono rfl rfl
  exact (h.andThen moves_copyCounted).andThen moves_cursorMoved

theorem flow_cursorMoved_next (h : s + 1 < d.altMask) : (d.cursorMoved s).flow = { d.flow with cursor := s + 1 } := by
  rw [cursorMoved, if_neg (Nat.not_le.mpr h)]
  rfl

theorem flow_cursorMoved_last (h : d.altMask ≤ s + 1) : (d.cursorMoved s).flow =
    { d.flow with cursor := s + 1, copied := true, switchNs := some ((d.nowNs + 999) / 1000 * 1000) } := by
  rw [cursorMoved, if_pos h]
  rfl

/-- What the cursor leaves of the flow table. -/
theorem kept_cursorMoved : (d.cursorMoved s).flow.cursor = s + 1 ∧ (d.cursorMoved s).flow.kp = d.flow.kp ∧
    (d.cursorMoved s).flow.kl = d.flow.kl ∧ (d.cursorMoved s).flow.region = d.flow.region ∧
    (d.cursorMoved s).flow.opened = d.flow.opened ∧ (d.cursorMoved s).flow.mem = d.flow.mem := by
  unfold cursorMoved
  split
  · exact ⟨rfl, rfl, rfl, rfl, rfl, rfl⟩
  · exact ⟨rfl, rfl, rfl, rfl, rfl, rfl⟩

/-! #### An empty pair -/

theorem copySlot_empty (h : d.slotAt false s = 0) : d.copySlot s = d := by
  unfold copySlot
  dsimp only
  exact if_pos (recordAt_zero (by rw [h]; rfl))

theorem pairCopied_empty (h : d.slotAt false d.flow.cursor = 0) (ho : d.slotAt false (d.mateOf d.flow.cursor) = 0) :
    d.moves d.pairCopied [.draws, .mem] [0x50] := by
  have hm : d.moves ((d.walkRead d.flow.cursor).walkRead (d.mateOf d.flow.cursor)) [.draws, .mem] [0x50] := moves_walkRead.andThen moves_walkRead
  unfold pairCopied
  rw [copySlot_empty ((slotAt_congr hm.keeps_flow).trans h), copySlot_empty ((slotAt_congr hm.keeps_flow).trans ho)]
  exact hm

theorem occupants_empty (h : d.slotAt false s = 0) : d.occupants false false s = [] := by
  unfold occupants recSlots
  dsimp only
  rw [if_neg (by decide), List.filterMap_cons, h]
  rfl

theorem openPair_empty (h : d.slotAt false s = 0) (ho : d.slotAt false (d.mateOf s) = 0) : d.openPair s = false := by
  have hk : (slotKind (d.slotAt false s) = 2 || slotKind (d.slotAt false (d.mateOf s)) = 2) = false := by
    rw [h, ho]
    rfl
  unfold openPair
  dsimp only
  rw [hk, occupants_empty h, occupants_empty ho]
  rfl

/-! ### The switch -/

/-- The records that found no room under the new keys end. -/
def lostEnded (d : Dev) : Dev :=
  (d.flowRecords.filter fun s => (d.copyOf s).isNone).foldl (fun d s => d.endRecord s 3 2 false) d

/-- The views of the tasks are of the copies from now on, as `d` tells of them. -/
def viewsMoved (d : Dev) : Dev :=
  { d with eng := { d.eng with tasks := d.eng.tasks.map fun p => (p.1, p.2.map fun t => { t with view := d.moveView t }) } }

/-- The regions change roles, with updates that wait, and the new keys are in force. -/
def rolesChanged (d : Dev) (held : List (Nat × HeldUpd)) : Dev :=
  let d := (d.setTandem { d.tandem with queries := [] }).setKeys d.flow.nkp d.flow.nkl
  let d := d.setFlow { d.flow with region := 1 - d.flow.region, opened := [], held := held, cursor := 0, copied := false, switchNs := none, copies := [] }
  d.setFlow { d.flow with opened := d.reopened }

/-- The rebuild has ended. -/
def rebuildEnded (d : Dev) : Dev := (d.endOp FLOW.REBUILD_STAT 0 2 (d.altMask / 16)).raise FLOW.int_REBUILD_DONE

/-- The table under the new keys, before the tandem hears of them. -/
def switched (d : Dev) : Dev :=
  (d.lostEnded.viewsMoved.rolesChanged (d.lostEnded.flow.held.map fun x => (x.1, d.lostEnded.moveHeld x.2))).rebuildEnded

theorem rebuildSwitch_eq : d.rebuildSwitch = d.switched.keyed.resyncAsk := by
  unfold rebuildSwitch switched lostEnded
  dsimp only
  generalize List.foldl (fun d s => d.endRecord s 3 2 false) d (d.flowRecords.filter fun s => (d.copyOf s).isNone) = x
  rfl

theorem lostEnded_leaves : d.moves d.lostEnded endParts endPages ∧ d.lostEnded.ledger = d.ledger :=
  List.foldlRecOn (motive := fun e => d.moves e endParts endPages ∧ e.ledger = d.ledger) _ _ ⟨d.still, rfl⟩ fun _ he _ _ =>
    ⟨he.1.trans endRecord_leaves.1, endRecord_leaves.2.1.trans he.2⟩

theorem lostEnded_none (h : d.flowRecords = []) : d.lostEnded = d := by
  rw [lostEnded, h]
  rfl

theorem moves_viewsMoved : d.moves d.viewsMoved [.eng] [] := d.still.set_eng

theorem moves_rolesChanged {l : List (Nat × HeldUpd)} : d.moves (d.rolesChanged l) [.flow, .tandem] [0x30] := by
  have h : d.moves (d.setTandem { d.tandem with queries := [] }) [.flow, .tandem] [0x30] := d.still.set_tandem
  exact (h.andThen moves_setKeys).set_flow.set_flow

theorem flow_rolesChanged {l : List (Nat × HeldUpd)} : (d.rolesChanged l).flow.kp = d.flow.nkp ∧ (d.rolesChanged l).flow.kl = d.flow.nkl ∧
    (d.rolesChanged l).flow.region = 1 - d.flow.region ∧ (d.rolesChanged l).flow.switchNs = none := by
  have hf := flow_setKeys (d := d.setTandem { d.tandem with queries := [] }) (x := d.flow.nkp) (y := d.flow.nkl)
  unfold rolesChanged
  dsimp only
  generalize (d.setTandem { d.tandem with queries := [] }).setKeys d.flow.nkp d.flow.nkl = x at hf ⊢
  refine ⟨?_, ?_, ?_, rfl⟩
  · show x.flow.kp = _
    rw [hf]
  · show x.flow.kl = _
    rw [hf]
  · show 1 - x.flow.region = _
    rw [hf]
    rfl

theorem valid_rolesChanged {l : List (Nat × HeldUpd)} : (d.rolesChanged l).on FLOW.KEY_STAT_VALID = true :=
  valid_setKeys (d := d.setTandem { d.tandem with queries := [] }) (x := d.flow.nkp) (y := d.flow.nkl)

theorem moves_rebuildEnded : d.moves d.rebuildEnded [] [0x30] := d.still.endOp.raise
theorem raised_rebuildEnded : d.rebuildEnded.raised FLOW.int_REBUILD_DONE = true := raised_raise_eq _ _ rfl

theorem opState_rebuildEnded : d.rebuildEnded.opState FLOW.REBUILD_STAT = 2 := by
  rw [opState, rebuildEnded, num_raise_plain _ _ _ _ rfl, num_endOp, statusWord]
  omega

theorem on_rebuildEnded : d.rebuildEnded.on FLOW.KEY_STAT_VALID = d.on FLOW.KEY_STAT_VALID := by
  rw [rebuildEnded, on_raise_plain _ _ _ _ rfl, endOp, on_opEnd_plain _ _ _ _ _ _ rfl, on_setNum_apart _ _ _ _ _ _ rfl]

theorem moves_switched : d.lostEnded.moves d.switched [.flow, .eng, .tandem] [0x30] := by
  have h : d.lostEnded.moves d.lostEnded.viewsMoved [.flow, .eng, .tandem] [0x30] := moves_viewsMoved.mono rfl rfl
  exact (h.andThen moves_rolesChanged).andThen moves_rebuildEnded

theorem flow_switched : d.switched.flow.kp = d.flow.nkp ∧ d.switched.flow.kl = d.flow.nkl ∧
    d.switched.flow.region = 1 - d.flow.region ∧ d.switched.flow.switchNs = none := by
  have hl : d.lostEnded.flow.nkp = d.flow.nkp ∧ d.lostEnded.flow.nkl = d.flow.nkl ∧ d.lostEnded.flow.region = d.flow.region := by
    obtain ⟨-, -, hnkp, hnkl, hr⟩ := kept_of_ledger (lostEnded_leaves (d := d)).2
    exact ⟨hnkp, hnkl, hr⟩
  rw [switched, moves_rebuildEnded.keeps_flow, ← hl.1, ← hl.2.1, ← hl.2.2]
  exact flow_rolesChanged

/-! #### The tandem hears of the new keys -/

theorem keyed_idle (h : d.tState ≠ 3) : d.keyed = d := if_neg fun hk => h hk.1

theorem raised_told {b : IntBit} (h : d.raised b = true) (hb : b.plain = true := by rfl)
    (hg : egressPages.contains b.page = false := by rfl) : d.keyed.resyncAsk.raised b = true := by
  have hw : d.writes d.keyed egressPages tandemRegs := d.untouched.iteSelf fun h => h.andThen writes_tandemTo
  have hk := hw.raised h hb hg
  rwa [raised, reg, regP, regs_resyncAsk]

end Sys2Proof.Machine.Dev
end

section
set_option Elab.async false
/-! Walks over the flow table (R217, R225). -/

namespace Sys2Proof.Machine
open Sys2Proof
variable {s : State} {t : Nat} {p : Dev → Prop}

theorem gives_pairCopyEmpty (hon : s.Awake) (hr : s.dev.rebuilding = true) (hc : s.dev.flow.copied = false)
    (h : s.dev.slotAt false s.dev.flow.cursor = 0) (ho : s.dev.slotAt false (s.dev.mateOf s.dev.flow.cursor) = 0)
    (hl : s.dev.flow.cursor + 1 < s.dev.altMask) :
    Gives .rebuildPairCopy s fun d => d.flow = { s.dev.flow with cursor := s.dev.flow.cursor + 1 } ∧
      s.dev.moves d [.draws, .flow, .mem] [0x30, 0x50] := by
  have hp := Dev.pairCopied_empty h ho
  have hm := Dev.moves_pairDone (d := s.dev) (s := s.dev.flow.cursor)
  have ha : (s.dev.pairCopied.copyCounted s.dev.flow.cursor).altMask = s.dev.altMask :=
    Dev.altMask_copyCounted.trans (Dev.altMask_of_moves hp rfl)
  refine gives_run (f := Dev.rebuildCopy) rfl hon ?_
  rw [Dev.rebuildCopy_closed hr hc (Dev.openPair_empty h ho), hm.under_eq]
  refine ⟨(Dev.flow_cursorMoved_next (by rw [ha]; exact hl)).trans ?_, hm⟩
  rw [Dev.moves_copyCounted.keeps_flow, hp.keeps_flow]

theorem gives_pairCopy (hon : s.Awake) (hr : s.dev.rebuilding = true) (hc : s.dev.flow.copied = false)
    (ho : s.dev.openPair s.dev.flow.cursor = false) :
    Gives .rebuildPairCopy s fun d => d.flow.cursor = s.dev.flow.cursor + 1 ∧
      (s.dev.altMask ≤ s.dev.flow.cursor + 1 → d.flow.copied = true ∧
        d.flow.switchNs = some ((s.dev.nowNs + 999) / 1000 * 1000)) ∧
      d.flow.kp = s.dev.flow.kp ∧ d.flow.kl = s.dev.flow.kl ∧ d.flow.region = s.dev.flow.region ∧ d.flow.opened = s.dev.flow.opened ∧
      (s.dev.flow.region = 0 → ∀ i, i < 2 ^ 27 → d.memSlot 0 i = s.dev.memSlot 0 i) ∧
      s.dev.moves d [.draws, .flow, .mem] [0x30, 0x50] := by
  obtain ⟨hp, hl, hb⟩ := Dev.rewrites_pairCopied (d := s.dev)
  obtain ⟨hopen, hmem⟩ := hb rfl
  obtain ⟨hkp, hkl, -, -, hreg⟩ := Dev.kept_of_ledger hl
  have hf : (s.dev.pairCopied.copyCounted s.dev.flow.cursor).flow = s.dev.pairCopied.flow := Dev.moves_copyCounted.keeps_flow
  obtain ⟨kcur, kkp, kkl, kreg, kopen, kmem⟩ := Dev.kept_cursorMoved (d := s.dev.pairCopied.copyCounted s.dev.flow.cursor) (s := s.dev.flow.cursor)
  have hm := Dev.moves_pairDone (d := s.dev) (s := s.dev.flow.cursor)
  have ha : (s.dev.pairCopied.copyCounted s.dev.flow.cursor).altMask = s.dev.altMask :=
    Dev.altMask_copyCounted.trans (Dev.altMask_of_moves hp rfl)
  have hn : (s.dev.pairCopied.copyCounted s.dev.flow.cursor).nowNs = s.dev.nowNs := by
    rw [Dev.nowNs, Dev.nowNs, Dev.moves_copyCounted.keeps_clk, hp.keeps_clk]
  rw [hf] at kkp kkl kreg kopen kmem
  refine gives_run (f := Dev.rebuildCopy) rfl hon ?_
  rw [Dev.rebuildCopy_closed hr hc ho, hm.under_eq]
  refine ⟨kcur, fun hlast => ?_, kkp.trans hkp, kkl.trans hkl, kreg.trans hreg, kopen.trans hopen, fun h0 i hi => ?_, hm⟩
  · rw [Dev.flow_cursorMoved_last (by rw [ha]; exact hlast), hn]
    exact ⟨rfl, rfl⟩
  · exact (Dev.memSlot_congr kmem).trans (hmem h0 i hi)

theorem gives_rebuildSwitch (hon : s.Awake) (hs : s.dev.flow.switchNs = some t) (hr : s.dev.rebuilding = true) (ht : t ≤ s.dev.nowNs)
    (hp : p (s.dev.under s.dev.rebuildSwitch)) : Gives .rebuildSwitch s p := by
  refine gives_run (f := fun d => match d.flow.switchNs with
    | some t => d.when (d.rebuilding && decide (t ≤ d.nowNs)) Dev.rebuildSwitch
    | none => d) rfl hon ?_
  rw [hs]
  dsimp only
  rw [hr, decide_eq_true ht, Bool.and_true, Dev.when_true]
  exact hp

theorem idle_rebuildSwitch (hs : s.dev.flow.switchNs = some t) (ht : s.dev.nowNs < t) : Idle .rebuildSwitch s := by
  refine idle_runSelf (f := fun d => match d.flow.switchNs with
    | some t => d.when (d.rebuilding && decide (t ≤ d.nowNs)) Dev.rebuildSwitch
    | none => d) rfl ?_
  rw [hs]
  dsimp only
  rw [decide_eq_false (Nat.not_le.mpr ht), Bool.and_false, Dev.when_false]

theorem gives_switchAll (hon : s.Awake) (hs : s.dev.flow.switchNs = some t) (hr : s.dev.rebuilding = true) (ht : t ≤ s.dev.nowNs) :
    Gives .rebuildSwitch s fun d => d.flow.kp = s.dev.flow.nkp ∧ d.flow.kl = s.dev.flow.nkl ∧ d.flow.region = 1 - s.dev.flow.region ∧
      d.flow.switchNs = none ∧ d.opState FLOW.REBUILD_STAT = 2 ∧ d.raised FLOW.int_REBUILD_DONE = true := by
  have hl : s.dev.moves s.dev.lostEnded Dev.endParts (0x30 :: Dev.endPages) := Dev.lostEnded_leaves.1.mono rfl rfl
  have ht2 : s.dev.switched.moves s.dev.switched.keyed.resyncAsk [.sw, .tandem] corePages := Dev.moves_keyed.andThen Dev.moves_resyncAsk
  have hm := (hl.andThen Dev.moves_switched).andThen ht2
  refine gives_rebuildSwitch hon hs hr ht ?_
  rw [Dev.rebuildSwitch_eq, hm.under_eq, ht2.keeps_flow]
  obtain ⟨hkp, hkl, hreg, hns⟩ := Dev.flow_switched (d := s.dev)
  refine ⟨hkp, hkl, hreg, hns, ?_, Dev.raised_told Dev.raised_rebuildEnded⟩
  rw [Dev.opState, ht2.num FLOW.REBUILD_STAT 0 rfl rfl]
  exact Dev.opState_rebuildEnded

theorem gives_switchEmpty (hon : s.Awake) (hs : s.dev.flow.switchNs = some t) (hr : s.dev.rebuilding = true) (ht : t ≤ s.dev.nowNs)
    (he : s.dev.flowRecords = []) (h3 : s.dev.tState ≠ 3) :
    Gives .rebuildSwitch s fun d => d.flow.kp = s.dev.flow.nkp ∧ d.flow.kl = s.dev.flow.nkl ∧ d.flow.region = 1 - s.dev.flow.region ∧
      d.flow.switchNs = none ∧ d.opState FLOW.REBUILD_STAT = 2 ∧ d.on FLOW.KEY_STAT_VALID = true ∧
      d.raised FLOW.int_REBUILD_DONE = true ∧ s.dev.moves d [.flow, .eng, .tandem] [0x30] := by
  have hw := Dev.moves_switched (d := s.dev)
  rw [Dev.lostEnded_none he] at hw
  have hidle : s.dev.switched.keyed = s.dev.switched := Dev.keyed_idle (by
    rw [Dev.tState, hw.fld TNDM.STATE_STATE 0 rfl rfl]
    exact h3)
  have hraised := Dev.raised_told (d := s.dev.switched) (b := FLOW.int_REBUILD_DONE) Dev.raised_rebuildEnded
  have hm := hw.andThen Dev.moves_resyncAsk
  refine gives_rebuildSwitch hon hs hr ht ?_
  rw [Dev.rebuildSwitch_eq]
  rw [hidle] at hraised ⊢
  rw [hm.under_eq, Dev.moves_resyncAsk.keeps_flow]
  obtain ⟨hkp, hkl, hreg, hns⟩ := Dev.flow_switched (d := s.dev)
  refine ⟨hkp, hkl, hreg, hns, ?_, ?_, hraised, hm⟩
  · rw [Dev.opState, Dev.moves_resyncAsk.num FLOW.REBUILD_STAT 0 rfl rfl]
    exact Dev.opState_rebuildEnded
  · rw [Dev.moves_resyncAsk.on FLOW.KEY_STAT_VALID 0 rfl rfl]
    exact Dev.on_rebuildEnded.trans Dev.valid_rolesChanged

end Sys2Proof.Machine

open Sys2Proof Sys2Proof.Machine

/-- Settles O30. -/
theorem walksOverTheFlowTable : Obligations.WalksOverTheFlowTable := by
  unfold Obligations.WalksOverTheFlowTable
  refine ⟨fun s ho => gives_sweepStart ho, fun s ho h => gives_sweepAbort ho h, fun s ho h => gives_sweepAbortLate ho h, fun s ho h1 h2 => ?abortIdle,
    fun s hon hw hr ha ht hx hn hs => gives_visitNotDue hon hw hr ha ht hx hn hs,
    fun s hon hw hr ha ht hz hd hh h5 hm hk hne hn hs => gives_visitAges hon hw hr ha ht hz hd hh h5 hm hn hs,
    fun s hon hw ha ht => ?early, fun s ho h hr => gives_rebuildGo ho h hr, fun s ho h => ?goIgnored,
    fun s hon hr hc h ho hl => gives_pairCopyEmpty hon hr hc h ho hl, fun s hon hr hc ho => gives_pairCopy hon hr hc ho,
    fun s hon ho => ?copyOpen, fun s hon h => ?copyOver, fun s t hon hs hr ht he h3 => gives_switchEmpty hon hs hr ht he h3,
    fun s t hon hs hr ht => gives_switchAll hon hs hr ht, fun s t hon hs ht => idle_rebuildSwitch hs ht,
    fun s ho h => gives_rebuildAbort ho h, fun s ho h hr => gives_rekey ho h hr, fun s ho h => ?rekeyIgnored⟩
  case abortIdle => exact idle_access (f := Dev.sweepAbort) rfl ho.2 (Dev.abortOp_idle h1 h2)
  case early =>
    refine idle_runSelf (f := fun d => d.when d.sweeperOn Dev.sweepVisit) rfl ?_
    rw [hw, Dev.when_true]
    exact Dev.sweepVisit_early ha ht
  case goIgnored => exact idle_access (f := Dev.rebuildGo) rfl ho.2 (Dev.rebuildGo_ignored h)
  case copyOpen => exact idle_runSelf (f := Dev.rebuildCopy) rfl (Dev.rebuildCopy_open ho)
  case copyOver => exact idle_runSelf (f := Dev.rebuildCopy) rfl (Dev.rebuildCopy_over h)
  case rekeyIgnored => exact idle_access (f := Dev.rekey) rfl ho.2 (Dev.rekey_ignored h)
end
